-- ==== Sys2Proof/Word.lean ====
section
/-! DEFINITION. The word types of the NF3236: register words, slot words and the index types of its lanes and masters. -/

namespace Sys2Proof

/-- A register is 32 bits wide (R7). -/
abbrev Word := BitVec 32

/-- A slot word is 36 bits: PAYLOAD 31:0, PAR 32, GRN 33, SEQ 35:34 (R22). -/
abbrev SlotWord := BitVec 36

/-- A symbol of the lane FEC, an element of GF(2^12) (R92). -/
abbrev FecSym := BitVec 12

/-- A physical lane index: traffic lanes 0-255, spares 256-271, mate lanes 272-279 (R5). -/
abbrev LaneIx := Fin 280

/-- A management-matrix master M0-M11 (R383). -/
abbrev Master := Fin 12

/-- A management port MP0-MP3 (R372). -/
abbrev Port := Fin 4

/-- A bent number (R127). -/
abbrev BentIx := Fin 16384

/-- A scarf group number (R240). -/
abbrev GroupIx := Fin 65536

/-- A slot address: lane in bits 24:17, slot in bits 16:0 (R5). -/
abbrev SlotAddr := Fin 33554432

/-- A frequency reference number (R258). -/
abbrev RefIx := Fin 13

end Sys2Proof
end

