-- ==== Sys2Proof/Syntax.lean ====
section
/-! DEFINITION. The commands of the block: one constructor for each row of the table of operations and events. An operand names
what the command is addressed to (a master, a lane, a bent, …) and what comes from outside the machine with it (a register
word, received line words, a message, a measurement).
Readings and choices: DESIGN CHOICE (log entry 54), PRESUMED (log entry 59). -/

namespace Sys2Proof

/-- A beat of a write burst: 16 bytes, byte 0 first, and the bytes that it enables (R400). -/
structure Beat where
  data : BitVec 128
  be : BitVec 16
deriving DecidableEq, Repr

/-- Where a master's access goes, and its form (R374, R376, R378, R381, R400, R409). A word: at a device address of the privileged view, at an
offset in BAR0 or in the BAR2 window of a PCIe port, or at an offset of the unprivileged view. A word of which only the bytes of `be` are
enabled; a read burst of `len` + 1 beats; a write burst, which carries its own data; and a word of a joiner's own bank at the local port, a write of
which stores the bytes of `be`. -/
inductive View where
  | priv (a : BitVec 40)
  | bar0 (x : BitVec 28)
  | bar2 (x : BitVec 32)
  | unpriv (x : BitVec 24)
  | lanes (a : BitVec 40) (be : BitVec 4)
  | burst (a : BitVec 40) (len : Fin 256)
  | burstWrite (a : BitVec 40) (beats : List Beat)
  | own (x : BitVec 19) (be : BitVec 4)
deriving DecidableEq, Repr

/-- The view is one of a whole word through the matrix. -/
def View.word : View → Bool
  | .priv _ | .bar0 _ | .bar2 _ | .unpriv _ => true
  | .lanes _ _ | .burst _ _ | .burstWrite _ _ | .own _ _ => false

/-- Why an access completes with an error, or is corrected, at its target (R7, R406, R412): the address and the rights decide; a width or
alignment that register space does not serve; a single-bit or a double-bit error of a scratchpad word, read through the matrix or by a
joiner at its bank's local port. -/
inductive BadAccess where
  | decode
  | shape
  | single
  | double
  | localSingle
  | localDouble
deriving DecidableEq, Repr

/-- What lamination faults do to one word of a sweep (R175, R176): as it crosses to output port `out` at centre slot `cslot`, the nine
laminations invert the bits of `mask`, and the spare those of `lams` in the four it carries or copies. -/
structure TrussFlip where
  out : Fin 256
  cslot : Fin 278528
  mask : SlotWord
  lams : BitVec 4 := 0
deriving DecidableEq, Repr

/-- A check word of the kerf as it arrives (R181, R182): the input and output ports, whether in one of the rounds from 280 on, the word
that the nine laminations give, and the bits that the spare gives of the lamination it carries or shadows. A check word that is not
named arrives as it was sent. -/
structure KerfWord where
  inp : Fin 280
  out : Fin 256
  second : Bool
  word : SlotWord
  lams : BitVec 4
deriving DecidableEq, Repr

/-- What one of Plumb's reference monitors sees: activity, or a frequency against XO in units of 10^-12 (R260). -/
inductive RefMon where
  | activity
  | freq (v : BitVec 32)
deriving DecidableEq, Repr

/-- What Plumb has measured of one reference at the end of an epoch (R260, R283): its frequency against XO over 1 s and over 1,000 s, in
units of 10^-12, and its wander. -/
structure RefMeas where
  freq : BitVec 32
  mean : BitVec 32
  mtie : List Word
  tdev : Word
deriving DecidableEq, Repr

/-- What Plumb has measured at the end of an epoch (R280): the mean frequency of the reference in use, the mean and the present
temperature, and each reference. -/
structure EpochMeas where
  freq : BitVec 40
  temp : BitVec 16
  now : BitVec 16
  refs : List RefMeas
deriving DecidableEq, Repr

/-- A journal record as the mate channel delivers it (R309): JSEQ, FRAME, CSEQ and its units of four 32-bit words. Its KIND is the
command that carries it. -/
structure JournalMsg where
  seq : Word
  frame : Word
  cseq : Word
  units : List (Word × Word × Word × Word)
deriving DecidableEq, Repr

/-- An entry of the state copy (R313, R314): an entry of the schedule memories, of the logical map, of the bents, or the next CHANGE
records to keep. -/
inductive CopyEntry where
  | ingress (p : Fin 280) (c : Fin 278528) (e : Option (Fin 131072 × Bool × Fin 256))
  | pwrite (o : Fin 256) (c : Fin 278528) (addr : Option (Fin 147456))
  | pread (o : Fin 256) (slot : Fin 131072) (code : BitVec 18)
  | scarf (o : Fin 256) (i : Fin 16384) (e : Option (Fin 147456 × Fin 147456))
  | single (o : SlotAddr) (src : Option SlotAddr)
  | merged (o w p : SlotAddr) (g : GroupIx) (i : Fin 16384)
  | tap (pos : Fin 3145728) (e : Option (SlotAddr × Nat))
  | bent (b : BentIx) (ref : Option (Fin 6144))
  | member (b : BentIx) (src : SlotAddr) (arr d : Fin 4096) (pos : Option (Fin 3145728)) (k : Option (Fin 4)) (st : Fin 7)
  | next (jseq cseq : Word)
  | field (off : BitVec 32) (v : Word)
deriving DecidableEq, Repr

/-- The conditions under which a device fails (R317): the hardware watchdog; both DPLL cores; a supply, clock or temperature monitor at its
absolute limits; a lamination that keeps failing with no spare; an uncorrectable fault in a schedule memory of bank group `g` with no sister
(R469). The tamper policy, which is the sixth, is the machine's own. -/
inductive FailCause where
  | watchdog
  | dplls
  | monitor
  | lamination
  | schedule (g : Fin 128)
deriving DecidableEq, Repr

/-- A JTAG instruction (R342, R476): a public one that takes control of the balls, as EXTEST does; another public one; or a private one, which
changes device state or does not. -/
inductive JtagKind where
  | extest
  | passive
  | priv (changes : Bool)
deriving DecidableEq, Repr

/-- What the fuses hold (R333, R359, R476): the life-cycle state (0 BLANK, 1 PROVISIONED, 2 DEPLOYED, 3 DECOMMISSIONED), the revision and
serial number, the hashes of key slots 0 to 3, which slots are programmed and revoked, the minimum SVN, the free spares as TLY_SPARES has
them, the free spare rows of JB0 to JB4, MB, SB and cut-list staging, and the key under which the content key of an encrypted image is
wrapped (R357). The time-zero values against which ageing is measured are the sensors' own. -/
structure Fuses where
  life : Fin 4 := 0
  rev : BitVec 8 := 0
  serial : BitVec 64 := 0
  hashes : List (BitVec 384) := []
  programmed : BitVec 4 := 0
  revoked : BitVec 4 := 0
  minSvn : BitVec 6 := 0
  spares : BitVec 22 := 0
  rows : List (BitVec 8) := []
  imageKey : BitVec 256 := 0
deriving DecidableEq, Repr

/-- Who reads a unit of DDR5 in which an error is found: a master, in some form, the long path, or the patrol (R426, R436). -/
inductive UnitReader where
  | master (m : Master) (v : View) | longPath | patrol
deriving DecidableEq, Repr

/-- What becomes of a unit in which an error is found: its burst is corrected; it is rebuilt from its stripe; it cannot be rebuilt (R426). -/
inductive UnitOutcome where
  | corrected | rebuilt | lost
deriving DecidableEq, Repr

/-- What the flash gives of a slot (R345 to R347): the bytes as stored, and whether the fetch completed in time. -/
structure ImageBytes where
  bytes : List (BitVec 8)
  fetched : Bool
deriving DecidableEq, Repr

/-- What flash discovery finds (R345, R346): a valid SFDP signature, the xSPI Profile 1.0 table, the highest clock in MHz, and log2 of the
density in bytes. -/
structure FlashInfo where
  sfdp : Bool
  profile : Bool
  clock : BitVec 8
  density : Fin 32
deriving DecidableEq, Repr

/-- A PCIe configuration request (R341, R373): a read or a write of a dword of configuration space; and, of the capabilities whose place in
configuration space PCI Express leaves to the part, a write of the MSI-X Message Control word, a read of the MSI-X capability, a write and a
read of Max_Payload_Size and Max_Read_Request_Size in Device Control, and a read of the uncorrectable error status of Advanced Error
Reporting, or a write of 1 to bits of it. -/
inductive CfgRequest where
  | read (dword : Fin 1024)
  | write (dword : Fin 1024) (w : Word)
  | msix (enable maskAll : Bool)
  | msixRead
  | sizes (mps mrrs : Fin 8)
  | sizesRead
  | aerRead
  | aerClear (w : Word)
deriving DecidableEq, Repr

/-- The burst that a master held when it was reset (R407): its address, whether it writes, its target and the write beats that the target had
accepted. -/
structure Burst where
  addr : BitVec 40
  write : Bool
  target : Fin 10
  beats : List Beat
deriving DecidableEq, Repr

/-- Why a DDR5 channel is retrained (R434): a write of RETRAIN, too many corrected bursts in a second, or a temperature 20 °C from that
of its last training. -/
inductive RetrainCause where
  | write (m : Master) (w : Word)
  | corrected
  | temperature (t : BitVec 8)
deriving DecidableEq, Repr

/-- Why a traffic lane asks for its spare (R461): ADAPT_FROZEN, a low driver margin, or LSD for an hour in a day. -/
inductive LaneTrigger where
  | frozen
  | margin
  | degraded
  | decoder
deriving DecidableEq, Repr

/-- An ageing sample (R468): the 64 ring oscillators' slowdown in units of 0.1 %, each lane's transmit and receive margin in percent, and
the hour's mean of the 8 on-die sensors in °C; and for each of those the minutes of the hour spent in each of the 32 bands of R474. -/
structure AgeSample where
  ro : List (BitVec 16)
  margins : List (BitVec 7 × BitVec 7)
  temps : List (BitVec 16)
  minutes : List (List (BitVec 8))
deriving DecidableEq, Repr


/-- The differential amplitude that a lane's receive balls have shown over one row period of 1,296 core cycles, in mV peak to peak: its
least and its greatest (R509). -/
structure RowLevel where
  least : Nat
  most : Nat
deriving DecidableEq, Repr

/-- A command (an operation or event of the table). -/
inductive Instr where
  /-- TICK. Tick: frame N+1 opens (R17). -/
  | tick
  /-- REGISTER_WRITE. Master `m` writes `w` at `v` (R8). -/
  | registerWrite (m : Master) (v : View) (w : Word)
  /-- PAIR_LOW_READ. Master `m` reads the low half of the pair at `v` (R12). -/
  | pairLowRead (m : Master) (v : View)
  /-- PAIR_LOW_WRITE. Master `m` writes the low half of the pair at `v` (R13). -/
  | pairLowWrite (m : Master) (v : View) (w : Word)
  /-- PAIR_HIGH_WRITE. Master `m` writes the high half at `v` (R13). -/
  | pairHighWrite (m : Master) (v : View) (w : Word)
  /-- DEV_FRAME_READ. Master `m` reads DEV_FRAME, sampled at core cycle `c` of the frame (R41). -/
  | devFrameRead (m : Master) (c : Fin 165888)
  /-- LATQ_GO. Master `m` writes `w` with GO = 1 to DEV_LATQ_CTRL (R42). -/
  | latqGo (m : Master) (w : Word)
  /-- LATQ_DONE. The latency query engine reports (R42). -/
  | latqDone
  /-- RX_ROW. Lane `n` receives the row `ws` of 1,152 line words, its first symbol `t` symbols after the tick; its decoder proves faulty or
  not (R93, R111, R463). -/
  | rxRow (n : LaneIx) (t : Nat) (ws : List SlotWord) (faulty : Bool)
  /-- RX_FRAME. A receive frame of lane `n` starts `t` symbols after the tick; its row 0 is `ws`; its decoder proves faulty or
  not (R29, R114, R463). -/
  | rxFrame (n : LaneIx) (t : Nat) (ws : List SlotWord) (faulty : Bool)
  /-- SSM_ACCEPT. An SSM frame value of lane `n` has held for 8 frames (R101). -/
  | ssmAccept (n : LaneIx)
  /-- PAGE_WINDOW_CLOSE. The page window of lane `n` closes, 648 core cycles after the tick (R122, R123, R124). -/
  | pageWindowClose (n : LaneIx)
  /-- LOS_DECLARE. Signal detect has been absent for 16 row periods on lane `n` (R115); `rs` are the amplitudes of the row periods since
  the last command that brought them, oldest first (R509). -/
  | losDeclare (n : LaneIx) (rs : List RowLevel)
  /-- LOS_CLEAR. Signal detect has been present for 8 frames on lane `n` (R115, R509). -/
  | losClear (n : LaneIx) (rs : List RowLevel)
  /-- LOL_DECLARE. The lock indicator of lane `n` has been false for 16 row periods (R115). -/
  | lolDeclare (n : LaneIx)
  /-- LOL_CLEAR. The lock indicator of lane `n` has been true for 8 frames (R115). -/
  | lolClear (n : LaneIx)
  /-- LOF_DECLARE. OOF has persisted for 24 frames on lane `n` (R115). -/
  | lofDeclare (n : LaneIx)
  /-- LOF_CLEAR. SYNC has held for 24 frames on lane `n` (R115). -/
  | lofClear (n : LaneIx)
  /-- LAIS_DECLARE. LAIS = 1 in 2 consecutive frames of lane `n` (R115). -/
  | laisDeclare (n : LaneIx)
  /-- LAIS_CLEAR. LAIS = 0 in 2 consecutive frames of lane `n` (R115). -/
  | laisClear (n : LaneIx)
  /-- LRDI_DECLARE. LRDI = 1 in 2 consecutive frames of lane `n` (R115). -/
  | lrdiDeclare (n : LaneIx)
  /-- LRDI_CLEAR. LRDI = 0 in 2 consecutive frames of lane `n` (R115). -/
  | lrdiClear (n : LaneIx)
  /-- LSD_DECLARE. CORR above LSD_SET in 3 consecutive windows of lane `n` (R115). -/
  | lsdDeclare (n : LaneIx)
  /-- LSD_CLEAR. CORR at or below LSD_CLR in 8 consecutive windows of lane `n` (R115). -/
  | lsdClear (n : LaneIx)
  /-- LSF_DECLARE. The LSF entry criterion of lane `n` (R115). -/
  | lsfDeclare (n : LaneIx)
  /-- LSF_CLEAR. 8 consecutive clean windows of lane `n` (R115). -/
  | lsfClear (n : LaneIx)
  /-- LMM_DECLARE. The LMM entry criterion of lane `n` (R115, R76). -/
  | lmmDeclare (n : LaneIx)
  /-- LMM_CLEAR. The LMM exit criterion of lane `n` (R115). -/
  | lmmClear (n : LaneIx)
  /-- LPH_CLEAR. 8 consecutive accepted FAWs inside the tolerance on lane `n` (R115). -/
  | lphClear (n : LaneIx)
  /-- CENTRE_SWEEP. The centre sweep of the present frame; lamination faults invert the bits of `flips` (R173, R175). -/
  | centreSweep (flips : List TrussFlip)
  /-- KERF_CHECK. The kerf check of the present frame; `got` are the check words that do not simply arrive as they were sent (R181). -/
  | kerfCheck (got : List KerfWord)
  /-- LONG_PATH_TAP. The tap copies page M − 1 (R170). -/
  | longPathTap
  /-- LONG_PATH_RETURN. The long path fills the page of return port 256 + `r`; the words of the positions `late` are not back in time (R171). -/
  | longPathReturn (r : Fin 24) (late : List (Fin 131072))
  /-- TX_FRAME. Lane `n` sends the transmit frame of the present frame number (R33, R67, R86). -/
  | txFrame (n : LaneIx)
  /-- GRN_FAULT_CLEAR. 256 consecutive MATCH words have been checked on a side of output slot `a` (R234). -/
  | grnFaultClear (a : SlotAddr) (side : Bool)
  /-- SIGNAL_EXIT. Signal detect has held for 8 frames on lane `n` (R58, R509). -/
  | signalExit (n : LaneIx) (rs : List RowLevel)
  /-- LOCK_EXIT. The loop of lane `n` is locked (R58). -/
  | lockExit (n : LaneIx)
  /-- TUNE_EXIT. Lane `n` has its own RX_READY and the partner's condition (R71). -/
  | tuneExit (n : LaneIx)
  /-- FRAME_EXIT. Lane `n` is in frame with 8 clean frames (R58). -/
  | frameExit (n : LaneIx)
  /-- SERVICE_ENTER. Tick F_go of lane `n` (R77). -/
  | serviceEnter (n : LaneIx)
  /-- FIT_TIMEOUT. The timeout of the fitting state of lane `n` (R58). -/
  | fitTimeout (n : LaneIx)
  /-- FIT_LOS_FAIL. LOS has persisted for 8 frames on lane `n` (R59). -/
  | fitLosFail (n : LaneIx)
  /-- BACKOFF_EXPIRY. The backoff of lane `n` runs out (R60). -/
  | backoffExpiry (n : LaneIx)
  /-- WAIT_WAKE. 16 training rows have reached lane `n` in WAIT (R61). -/
  | waitWake (n : LaneIx)
  /-- PARTNER_GONE_FAIL. The partner of lane `n` has shown WAIT or DISABLED for 16 rows (R62). -/
  | partnerGoneFail (n : LaneIx)
  /-- SERVICE_PERSIST_LEAVE. LOS, LOL or LOF has persisted for 400 frames on lane `n` (R65). -/
  | servicePersistLeave (n : LaneIx)
  /-- TRAINING_ROW. Lane `n` receives a training row, the 1,152 words `ws` (R67, R68, R70). -/
  | trainingRow (n : LaneIx) (ws : List SlotWord)
  /-- DISCOVERY_ROW. Lane `n` receives a discovery row whose words 0 to 5 are `ws` (R72). -/
  | discoveryRow (n : LaneIx) (ws : List SlotWord)
  /-- FIT_ENABLE_WRITE. Master `m` writes `w`, which changes ENABLE, to LN_FIT_CTRL of lane `n` (R66, R117). -/
  | fitEnableWrite (m : Master) (n : LaneIx) (w : Word)
  /-- LN_RESTART. Master `m` writes `w` with RESTART = 1 to LN_FIT_CTRL of lane `n` (R514). -/
  | lnRestart (m : Master) (n : LaneIx) (w : Word)
  /-- BACKOFF_RESET. Master `m` writes `w` with BACKOFF_RESET = 1 to LN_FIT_CTRL of lane `n` (R60). -/
  | backoffReset (m : Master) (n : LaneIx) (w : Word)
  /-- UNFREEZE. Master `m` writes `w` with UNFREEZE = 1 to LN_FIT_CTRL of lane `n` (R80). -/
  | unfreeze (m : Master) (n : LaneIx) (w : Word)
  /-- IDENT. A good IDENT message with payload `ws` arrives on lane `n` (R75, R76). -/
  | ident (n : LaneIx) (seq : BitVec 8) (ws : List Word)
  /-- SERVICE_GO. A good SERVICE_GO naming the partner's frame `f` arrives on lane `n` (R77). -/
  | serviceGo (n : LaneIx) (seq : BitVec 8) (f : Word)
  /-- SPARE_PREP. A good SPARE_PREP for traffic lane `x` arrives on lane `n` (R82). -/
  | sparePrep (n : LaneIx) (seq : BitVec 8) (x : Word)
  /-- SPARE_SELECT. A good SPARE_SELECT for lane `x` at the partner's frame `f` arrives on lane `n` (R82). -/
  | spareSelect (n : LaneIx) (seq : BitVec 8) (x f : Word)
  /-- SPARE_RELEASE. A good SPARE_RELEASE for lane `x` arrives on lane `n` (R83). -/
  | spareRelease (n : LaneIx) (seq : BitVec 8) (x : Word)
  /-- RESTART. A good RESTART message arrives on lane `n` (R514). -/
  | restart (n : LaneIx)
  /-- LEAVE. A good LEAVE message arrives on lane `n` (R65). -/
  | leave (n : LaneIx) (seq : BitVec 8)
  /-- ACK. A good ACK of message `seq` arrives on lane `n` (R74). -/
  | ack (n : LaneIx) (seq : BitVec 8)
  /-- NAK. A NAK of message `seq` arrives on lane `n`: the partner does not know its TYPE (R74). -/
  | nak (n : LaneIx) (seq : BitVec 8)
  /-- MSG_RETRY. 8 frames have passed without an answer to the outstanding message of lane `n` (R74). -/
  | msgRetry (n : LaneIx)
  /-- LEAVE_TIMEOUT. The wait for the acknowledgement of LEAVE on lane `n` ends (R66). -/
  | leaveTimeout (n : LaneIx)
  /-- LOOP_AUTO_RESTORE. RX_SYNC_OK has been 1 for 80,000 frames on lane `n` (R57). -/
  | loopAutoRestore (n : LaneIx)
  /-- LOOP_RESTORE. Master `m` writes `w` with LOOP_RESTORE = 1 to LN_TX_CFG of lane `n` (R57). -/
  | loopRestore (m : Master) (n : LaneIx) (w : Word)
  /-- GOOD_SECOND. 8,000 good frames end a good second on lane `n` (R79). -/
  | goodSecond (n : LaneIx)
  /-- ADAPT_REVERT. 3 bad windows have ended on lane `n` (R80). -/
  | adaptRevert (n : LaneIx)
  /-- ADAPT_HOLD_END. The adaptation hold of lane `n` ends (R80). -/
  | adaptHoldEnd (n : LaneIx)
  /-- SPARE_PREP_WRITE. Master `m` writes `w` with PREP = 1 to LN_SPARE_CTRL of lane `n` (R82). -/
  | sparePrepWrite (m : Master) (n : LaneIx) (w : Word)
  /-- SPARE_SELECT_WRITE. Master `m` writes `w` with SELECT = 1 to LN_SPARE_CTRL of lane `n` (R82). -/
  | spareSelectWrite (m : Master) (n : LaneIx) (w : Word)
  /-- SPARE_RELEASE_WRITE. Master `m` writes `w` with RELEASE = 1 to LN_SPARE_CTRL of lane `n` (R83). -/
  | spareReleaseWrite (m : Master) (n : LaneIx) (w : Word)
  /-- SPARE_SHADOW_READY. The spare lane `n` has been in frame for 8 matching frames (R82). -/
  | spareShadowReady (n : LaneIx)
  /-- SPARE_SWITCH. The selection frame of the spare lane `n` (R82). -/
  | spareSwitch (n : LaneIx)
  /-- MCH_PACKET_RX. The management-channel words `ws` of a packet, from its START, reach lane `n` (R105, R106). -/
  | mchPacketRx (n : LaneIx) (ws : List SlotWord)
  /-- MCH_PACKET_TX. Lane `n` sends the ring entry at TX_TAIL (R107). -/
  | mchPacketTx (n : LaneIx)
  /-- MEMBER_JOIN. The member with source `src` joins, or joins late (R139). -/
  | memberJoin (src : SlotAddr)
  /-- BENT_STEP_APPLY. The frame T of a decided action of bent `b` (R147). -/
  | bentStepApply (b : BentIx)
  /-- BENT_GROWTH_END. The pause of bent `b` ends (R150). -/
  | bentGrowthEnd (b : BentIx)
  /-- BENT_RETIME. Master `m` writes `w` with RETIME = 1 to BNT_CTRL of bent `b` (R159). -/
  | bentRetime (m : Master) (b : BentIx) (w : Word)
  /-- BENT_RETIME_APPLY. The retime frame of bent `b` (R159). -/
  | bentRetimeApply (b : BentIx)
  /-- MEMBER_READ. Master `m` reads BNT_MSRC of bent `b` (R162). -/
  | memberRead (m : Master) (b : BentIx)
  /-- DIAG_WINDOW_READ. Master `m` reads the fabric diagnostic window at `a` (R191). -/
  | diagWindowRead (m : Master) (a : BitVec 40)
  /-- LOGICAL_MAP_READ. Master `m` reads the logical map window at `a`, 32 bits or with `wide` 64 (R194). -/
  | logicalMapRead (m : Master) (a : BitVec 40) (wide : Bool)
  /-- STAGING_WRITE. Master `m` writes `w` to a staging list at `a`, or to a CUT_Lj_LEN there (R210). -/
  | stagingWrite (m : Master) (a : BitVec 40) (w : Word)
  /-- COMPILE. Master `m` writes `w` with CMD = COMPILE to CUT_CTRL (R211). -/
  | compile (m : Master) (w : Word)
  /-- APPLY. Master `m` writes `w` with CMD = APPLY to CUT_CTRL (R211). -/
  | apply (m : Master) (w : Word)
  /-- GO. Master `m` writes `w` with CMD = GO to CUT_CTRL (R211). -/
  | go (m : Master) (w : Word)
  /-- ABORT. Master `m` writes `w` with CMD = ABORT to CUT_CTRL (R211). -/
  | abort (m : Master) (w : Word)
  /-- COMPILE_START. A queued change starts COMPILING (R212). -/
  | compileStart
  /-- COMPILE_DONE. The compile in progress ends (R201). -/
  | compileDone
  /-- RECOMPILE. An ARMED change is compiled again (R213). -/
  | recompile
  /-- APPLY_START. Tick T − 2 of an ARMED change (R205). -/
  | applyStart
  /-- APPLY_TICK. Tick T of an applying change (R208). -/
  | applyTick
  /-- CHANGE_DONE. The tick after the last apply of a change (R208). -/
  | changeDone
  /-- CHUNK_APPLY. Frame T + k of a change that spans frames (R219). -/
  | chunkApply
  /-- TAP_CLEAR. The tick after a change is withdrawn or a position is released (R206). -/
  | tapClear
  /-- SCENE_GO. Master `m` writes `w` with GO = 1 to CUT_SCN_CMD (R217). -/
  | sceneGo (m : Master) (w : Word)
  /-- SCENE_DEFECT_TRIGGER. A defect selected by the trigger of scene `k` is entered (R217). -/
  | sceneDefectTrigger (k : Fin 256)
  /-- SCENE_QUEUE. The tick at which a triggered scene joins the queue (R218). -/
  | sceneQueue
  /-- SCENE_START. The head of the scene queue is taken (R218). -/
  | sceneStart
  /-- REPLACE_GO. Master `m` writes `w` with GO = 1 to SCB_REPL_CTRL (R221). -/
  | replaceGo (m : Master) (w : Word)
  /-- REPLACE_STEP. Frame T + i of a full re-placement (R221). -/
  | replaceStep
  /-- MREC_READ. Master `m` reads SCB_MREC_W (R224). -/
  | mrecRead (m : Master)
  /-- SCARF_WINDOW_EVAL. The window of group `g` ends (R241, R242). -/
  | scarfWindowEval (g : GroupIx)
  /-- SCARF_WTR_EXPIRY. The wait-to-restore timer of group `g` reads 0 (R243). -/
  | scarfWtrExpiry (g : GroupIx)
  /-- WTR_CLEAR. Master `m` writes `w` with WTR_CLEAR = 1 to SCF_GCFG of group `g` (R243). -/
  | wtrClear (m : Master) (g : GroupIx) (w : Word)
  /-- GRAIN_SCAN_READ. Master `m` reads GRN_SCAN_RES (R250). -/
  | grainScanRead (m : Master)
  /-- REF_FAILURE. A failure condition of reference `i` begins (R260, R261). -/
  | refFailure (i : RefIx) (mon : RefMon)
  /-- REF_HOLDOFF_EXPIRY. The hold-off of reference `i` runs out (R261). -/
  | refHoldoffExpiry (i : RefIx)
  /-- REF_CONDITION_CLEAR. A failure condition of reference `i` clears; where it ends a coast on a ball input, the phase error gathered in
  the coast is `gathered` (R261, R263, R278). -/
  | refConditionClear (i : RefIx) (mon : RefMon) (gathered : Word)
  /-- PHASE_JUMP. Reference `i` shows a phase step of `size` units (R262). -/
  | phaseJump (i : RefIx) (size : Word)
  /-- REF_WTR_EXPIRY. The wait-to-restore of reference `i` ends (R263). -/
  | refWtrExpiry (i : RefIx)
  /-- FORCE. Master `m` writes `w` with CMD = FORCE to PLB_CTRL (R268). -/
  | force (m : Master) (w : Word)
  /-- MANUAL. Master `m` writes `w` with CMD = MANUAL to PLB_CTRL (R268). -/
  | manual (m : Master) (w : Word)
  /-- CLEAR. Master `m` writes `w` with CMD = CLEAR to PLB_CTRL (R268). -/
  | clear (m : Master) (w : Word)
  /-- REALIGN. Master `m` writes `w` with REALIGN = 1 to PLB_CTRL (R279). -/
  | realign (m : Master) (w : Word)
  /-- LEARN_RESET. Master `m` writes `w` with LEARN_RESET = 1 to PLB_CTRL (R282). -/
  | learnReset (m : Master) (w : Word)
  /-- BRIDGE_HOLD_END. The bridging hold ends. A ball input shows the phase difference `delta`, averaged over the hold; the tick nearest a
  1 PPS target's aligned point has the residue `pps` (R259, R274). -/
  | bridgeHoldEnd (delta : Word) (pps : Fin 8000)
  /-- CAPTURE_COMPLETE. The phase error has stayed within LOCK_WIN long enough (R274). -/
  | captureComplete
  /-- HOLDOVER_EXPIRE. HOLD_MAX hours have passed in HOLDOVER (R271). -/
  | holdoverExpire
  /-- EPOCH_END. An epoch ends, with what Plumb has measured (R280 to R286). -/
  | epochEnd (e : EpochMeas)
  /-- DPLL_SWAP. A DPLL core fails its self-check: the shadow, or the active one (R288). -/
  | dpllSwap (shadow : Bool)
  /-- SHADOW_RESTORE. A core that passed its test becomes the shadow after 8,000 frames (R288). -/
  | shadowRestore
  /-- DPLL_MISMATCH. The cores differ by more than 200 ps for 8 frames (R289). -/
  | dpllMismatch
  /-- HEARTBEAT_RX. The 24 words of a heartbeat reach mate lane `l` (R308). -/
  | heartbeatRx (l : Fin 8) (ws : List SlotWord)
  /-- HEARTBEAT_LOSS. No valid heartbeat has come by core cycle 8,192 of the frame (R308). -/
  | heartbeatLoss
  /-- ISOLATE. No heartbeat for 8 frames with the arbitration line asserted (R300). -/
  | isolate
  /-- ARB_CHANGE. MATE_ARB_IN_N is taken as asserted or released at core cycle `c` (R299). -/
  | arbChange (asserted : Bool) (c : Fin 165888)
  /-- STARTUP_WAIT_EXPIRY. The start-up wait is served (R301). -/
  | startupWaitExpiry
  /-- SIDE_CONFLICT_TIMEOUT. No valid heartbeat for 8,192 frames in a side conflict (R303). -/
  | sideConflictTimeout
  /-- CHANGE. A CHANGE journal record arrives (R309, R312). -/
  | change (r : JournalMsg)
  /-- REARM. A REARM journal record arrives (R309, R311). -/
  | rearm (r : JournalMsg)
  /-- CANCEL. A CANCEL journal record arrives (R309). -/
  | cancel (r : JournalMsg)
  /-- COMMIT. A COMMIT journal record arrives (R309, R311). -/
  | commit (r : JournalMsg)
  /-- BENT. A BENT journal record arrives (R158, R309). -/
  | bent (r : JournalMsg)
  /-- COMMAND. A COMMAND journal record arrives (R309). -/
  | command (r : JournalMsg)
  /-- INFO. An INFO journal record arrives during a copy (R314). -/
  | info (r : JournalMsg)
  /-- JOURNAL_GAP. A record that JSENT names has not arrived within 2 frames (R310). -/
  | journalGap
  /-- COPY_START. A state copy starts at an epoch (R314). -/
  | copyStart (epoch : BitVec 8)
  /-- COPY_SLICE. A slice or a delta of slice `j` is received and staged (R314). -/
  | copySlice (j : Fin 65) (entries : List CopyEntry)
  /-- EPOCH_INSTALL. The staged image is installed (R314). -/
  | epochInstall
  /-- STANDBY_READY. Every READY condition holds at the tick (R316). -/
  | standbyReady
  /-- STANDBY_UNREADY. A READY condition fails (R316). -/
  | standbyUnready
  /-- DEVICE_FAIL. A failure condition arises (R317). -/
  | deviceFail (why : FailCause)
  /-- TAKEOVER_DECIDE. A takeover cause may hold in this frame (R318, R320). -/
  | takeoverDecide
  /-- TAKEOVER_EFFECT. Tick T of a takeover or handover (R321). -/
  | takeoverEffect
  /-- TAKEOVER_FAIL. The new active has failed within 256 frames of T (R328). -/
  | takeoverFail
  /-- SWITCH. Master `m` writes `w` with SWITCH = 1 to MAT_CTRL (R327). -/
  | switch (m : Master) (w : Word)
  /-- MATE_WTR_EXPIRY. The return countdown expires (R327). -/
  | mateWtrExpiry
  /-- REJOIN. Master `m` writes `w` with REJOIN = 1 to MAT_CTRL (R300). -/
  | rejoin (m : Master) (w : Word)
  /-- RECOPY. Master `m` writes `w` with RECOPY = 1 to MAT_CTRL (R310). -/
  | recopy (m : Master) (w : Word)
  /-- RAISE_START. The supplies are in tolerance and RESET_N is high (R333). -/
  | raiseStart
  /-- RESET_ASSERT. RESET_N has been low for 10 µs (R502). -/
  | resetAssert
  /-- SUPPLY_FAULT. A supply leaves tolerance (R333). -/
  | supplyFault
  /-- FUSE_READ_DONE. The fuses are read; the straps MATE_SIDE and XSPI_SLOW are `side` and `slow` (R298, R333). -/
  | fuseReadDone (f : Fuses) (side slow : Bool)
  /-- MEMORY_CLEAR_DONE. The memories are cleared and repaired, and flash discovery finds `fl` (R345, R416). -/
  | memoryClearDone (fl : FlashInfo)
  /-- DDR_TRAINING_DONE. DDR5 training ends; the channels `failed` have failed (R425, R430, R435). -/
  | ddrTrainingDone (config : Fin 4) (temp : BitVec 8) (failed : BitVec 8)
  /-- SLOT_VERIFY_DONE. The fetch and checks of the slot now tried end (R358). -/
  | slotVerifyDone (img : ImageBytes)
  /-- JOINERS_READY. The joiners' self-tests end; the joiners `failed` have failed (R333). -/
  | joinersReady (failed : BitVec 5)
  /-- P4_END. Phase P4 ends (R337). -/
  | p4End
  /-- P5_END. Phase P5 ends (R338). -/
  | p5End
  /-- RAISE_READY. The base map change has reached DONE; `drs` are the PCIe ports whose link partners have enabled Device Readiness Status
  messages (R339, R341). -/
  | raiseReady (drs : BitVec 2)
  /-- RAISE_WATCHDOG. RAISE_MAX seconds have passed since P3 began (R335). -/
  | raiseWatchdog
  /-- JTAG_EXTEST_LOAD. A JTAG instruction is loaded, such as one that takes the balls (R342, R476). -/
  | jtagExtestLoad (k : JtagKind)
  /-- JTAG_EXTEST_LEAVE. The TAP leaves such an instruction (R342). -/
  | jtagExtestLeave
  /-- CONFIRM. Master `m` writes `w` with CONFIRM = 1 to IMG_CTRL (R363). -/
  | confirm (m : Master) (w : Word)
  /-- VERIFY. Master `m` writes `w` with VERIFY = 1 to IMG_CTRL (R365). -/
  | verify (m : Master) (w : Word)
  /-- PROGRAM. Master `m` writes `w` with PROGRAM = 1 to IMG_CTRL (R364). -/
  | program (m : Master) (w : Word)
  /-- IMG_OP_DONE. The VERIFY, PROGRAM or RECOVER_GO in progress ends (R364, R365, R367). -/
  | imgOpDone (img : ImageBytes)
  /-- LIVE_GO. Master `m` writes `w` with LIVE_GO = 1 to IMG_CTRL; the other slot holds `img` (R368). -/
  | liveGo (m : Master) (w : Word) (img : ImageBytes)
  /-- LIVE_CORE_DONE. The core in progress resumes its duties (R369). -/
  | liveCoreDone
  /-- LIVE_CORE_TIMEOUT. The core in progress has not resumed, or fails its self-test (R370). -/
  | liveCoreTimeout (selfTest : Bool)
  /-- SVN_BURN. Master `m` writes `w` with SVN_BURN = 1 to IMG_CTRL (R360). -/
  | svnBurn (m : Master) (w : Word)
  /-- RECOVER_GO. Master `m` writes `w` with RECOVER_GO = 1 to IMG_CTRL (R367). -/
  | recoverGo (m : Master) (w : Word)
  /-- IMG_ABORT. Master `m` writes `w` with ABORT = 1 to IMG_CTRL (R366). -/
  | imgAbort (m : Master) (w : Word)
  /-- IMG_BOOT_WRITE. Master `m` writes `w` to IMG_BOOT (R366). -/
  | imgBootWrite (m : Master) (w : Word)
  /-- PCIE_CONFIG_REQUEST. A configuration request reaches MP`p` (R341, R373). -/
  | pcieConfigRequest (p : Fin 2) (r : CfgRequest)
  /-- ID. The SPI ID command (R378). -/
  | id
  /-- STATUS. The SPI STATUS command (R378). -/
  | status
  /-- READ. The SPI READ command, of LEN + 1 words at `a` (R378). -/
  | read (a : BitVec 40) (len : Fin 64)
  /-- WRITE. The SPI WRITE command: the words `ws` have arrived when SPI_CS_N rises (R378). -/
  | write (a : BitVec 40) (len : Fin 64) (ws : List Word)
  /-- UREAD. The SPI UREAD command, of LEN + 1 words at view offset `x` (R378). -/
  | uread (x : BitVec 24) (len : Fin 64)
  /-- QUAD. The SPI QUAD command (R377). -/
  | quad
  /-- SINGLE. The SPI SINGLE command (R377). -/
  | single
  /-- TUNNEL_GO. Master `m` writes `w` with GO = 1 to MGT_TUN_CTRL (R380). -/
  | tunnelGo (m : Master) (w : Word)
  /-- TUNNEL_REQUEST. A request of the mate arrives as master M7 (R380). -/
  | tunnelRequest (unpriv write : Bool) (a : BitVec 40) (w : Word)
  /-- TUNNEL_DONE. The mate's answer arrives, or none has come within 8 frames (R380). -/
  | tunnelDone (answer : Option (Fin 5 × Word))
  /-- CLAIM. Master `m` writes `w` with OP = CLAIM to MGT_OWN_OP (R386). -/
  | claim (m : Master) (w : Word)
  /-- RENEW. Master `m` writes `w` with OP = RENEW to MGT_OWN_OP (R386). -/
  | renew (m : Master) (w : Word)
  /-- RELEASE. Master `m` writes `w` with OP = RELEASE to MGT_OWN_OP (R386). -/
  | release (m : Master) (w : Word)
  /-- HANDOVER. Master `m` writes `w` with OP = HANDOVER to MGT_OWN_OP (R386). -/
  | handover (m : Master) (w : Word)
  /-- LEASE_EXPIRY. The ownership lease runs out (R388). -/
  | leaseExpiry
  /-- HANDOVER_TIMEOUT. A handover has been pending for 800 frames (R389). -/
  | handoverTimeout
  /-- OWNER_PORT_LOSS. The link, reset or tunnel of port `p` goes down (R390). -/
  | ownerPortLoss (p : Port)
  /-- COMMIT_GO. Master `m` writes `w` with GO = 1 to DEV_COMMIT (R391). -/
  | commitGo (m : Master) (w : Word)
  /-- DISCARD. Master `m` writes `w` with DISCARD = 1 to DEV_COMMIT (R394). -/
  | discard (m : Master) (w : Word)
  /-- COMMIT_APPLY. The commit tick (R393). -/
  | commitApply
  /-- EVENT_RECORD. The oldest record that waits is written to the event rings (R396, R397). -/
  | eventRecord
  /-- EVENT_LOG_RECORD. The oldest record that waits is written to the event log (R397). -/
  | eventLogRecord
  /-- MSIX_EOI. Master `m` writes `w` to MGT_PORTp_EOI of port `p` (R398). -/
  | msixEoi (m : Master) (p : Port) (w : Word)
  /-- MSIX_SEND. The condition of vector `v` of MP`p` may have become true (R398). -/
  | msixSend (p : Fin 2) (v : Fin 64)
  /-- DEFAULT_ACCESS. Master `m` makes an access at `v` that its target answers with an error, or corrects (R406, R412). -/
  | defaultAccess (m : Master) (v : View) (write : Bool) (k : BadAccess)
  /-- MATRIX_TIMEOUT. The target of a read or a write of master `m` at `a` has not responded within 4 frames (R406). -/
  | matrixTimeout (m : Master) (a : BitVec 40) (target : Fin 10) (write : Bool)
  /-- MASTER_RESET. Master `m` is reset, with the burst `b` in progress (R407). -/
  | masterReset (m : Master) (b : Option Burst)
  /-- LOCK_ACQUIRE. Master `m` reads lock word `k` with a single-beat access (R414). -/
  | lockAcquire (m : Master) (k : Fin 64)
  /-- LOCK_RELEASE. Master `m` writes `w` to lock word `k` (R414). -/
  | lockRelease (m : Master) (k : Fin 64) (w : Word)
  /-- SOUND_REGION. Sounding tests the region in hand, which fails the march or not (R419). -/
  | soundRegion (fails : Bool)
  /-- SOUND_ABORT. An access aborts the march of the region in hand (R420). -/
  | soundAbort
  /-- SOUND_BANK_SWAP. The sister's copy of the bank in hand is complete at the tick (R423). -/
  | soundBankSwap
  /-- SOUND_BANK_TEST_DONE. The march of the swapped bank ends (R423, R424). -/
  | soundBankTestDone (fails : Bool)
  /-- DDR_RETRAIN. A retraining of channel `n` is called for (R434). -/
  | ddrRetrain (n : Fin 8) (why : RetrainCause)
  /-- DDR_RETRAIN_DONE. Training of the OFFLINE channel ends at `temp` °C (R434, R435). -/
  | ddrRetrainDone (ok : Bool) (temp : BitVec 8)
  /-- DDR_PATROL. The patrol has read and written back units of channel `n`, correcting bursts (R426, R436). -/
  | ddrPatrol (n : Fin 8) (corrected : Nat)
  /-- DDR_UNIT_REBUILD. A read by `r` of the unit at DDR5 offset `x` finds an error: the burst is corrected, or the unit is rebuilt, or lost
  (R426). -/
  | ddrUnitRebuild (r : UnitReader) (x : BitVec 38) (o : UnitOutcome)
  /-- SNAP_GO. Master `m` writes `w` with GO = 1 to CNT_SNAP (R448). -/
  | snapGo (m : Master) (w : Word)
  /-- SNAPSHOT. A snapshot tick (R448). -/
  | snapshot
  /-- CLEAR_GO. Master `m` writes `w` with GO = 1 to CNT_CLR_CTRL (R447). -/
  | clearGo (m : Master) (w : Word)
  /-- COUNTER_CLEAR. The tick of a pending clear (R447). -/
  | counterClear
  /-- BANK_COUNTER_READ. Master `m` reads CNT_Bc_LO of bank counter `c` (R445). -/
  | bankCounterRead (m : Master) (c : Fin 16384)
  /-- BANK_COUNTER_WRITE. Master `m` writes the pair of bank counter `c` in a core cycle that counts `events` of its source (R443, R444). -/
  | bankCounterWrite (m : Master) (c : Fin 16384) (low : Option Word) (high : Word) (events : Nat)
  /-- ARCHIVE_WRITE. M10 writes the archive entry of the oldest snapshot that waits (R450). -/
  | archiveWrite
  /-- PEG_SELECT. The peg selector draws for the present page (R451). -/
  | pegSelect
  /-- PEG_COMPLETE. The peg of source `src` on page `page` completes (R454). -/
  | pegComplete (page : Word) (src : SlotAddr)
  /-- PEG_REC_READ. Master `m` reads PEG_REC0 (R455). -/
  | pegRecRead (m : Master)
  /-- POP. Master `m` writes `w` with POP = 1 to PEG_CTRL (R455). -/
  | pop (m : Master) (w : Word)
  /-- PEG_DMA_MOVE. M10 moves the head record to the host ring (R455). -/
  | pegDmaMove
  /-- LANE_SUBST_TRIGGER. A trigger of traffic lane `x` may hold (R461). -/
  | laneSubstTrigger (x : Fin 256) (why : LaneTrigger)
  /-- LAM_SUBST_SELECT. SHADOW_FRAMES has reached 8 for the failing lamination (R462). -/
  | lamSubstSelect
  /-- FEC_SUBST_SWITCH. 128 rows of comparison end on lane `n`; the spare decoder agrees with the check or not (R463). -/
  | fecSubstSwitch (n : LaneIx) (agree : Bool)
  /-- JOINER_SUBST_TRIGGER. Joiner `k` fails its self-test or its watchdog (R464). -/
  | joinerSubstTrigger (k : Fin 5)
  /-- JOINER_SUBST_DONE. The spare joiner has its data, copied or not, and takes over (R464). -/
  | joinerSubstDone (dataOk : Bool)
  /-- DPLL_TEST_TRIGGER. Three mismatches have been latched in 24 h (R465). -/
  | dpllTestTrigger
  /-- SCRIBE_ENGINE_RETIRE. Scribe engine `e` fails its residue check (R466). -/
  | scribeEngineRetire (e : Fin 68)
  /-- AGEING_SAMPLE. The hourly ageing sample is taken (R468). -/
  | ageingSample (a : AgeSample)
  /-- TALLY_RECORD. The oldest tally record that waits is written, or suppressed (R472, R473). -/
  | tallyRecord
  /-- LC_GO. Master `m` writes `w` with GO = 1 to TLY_LC_CTRL (R477). -/
  | lcGo (m : Master) (w : Word)
  /-- LC_VERIFY_DONE. Verification of the authorisation record ends (R478). -/
  | lcVerifyDone
  /-- LC_WIPE. The tick after a transition or revocation is made (R477). -/
  | lcWipe
  /-- TAMPER_CONDITION. Tamper sources become asserted or clear: `src` are those now asserted (R480, R481). -/
  | tamperCondition (src : BitVec 7)
  /-- MAP_REBUILD_DONE. The scribe has rebuilt the logical map after a wipe (R484). -/
  | mapRebuildDone
  /-- SCENE_RELOAD_DONE. The scene region is reloaded from the running slot, which holds `img` (R484). -/
  | sceneReloadDone (img : ImageBytes)
  /-- PERST_N_DEASSERT. PERST_N of MP`p` rises (R341). -/
  | perstNDeassert (p : Fin 2)
  /-- COUNTER_WRAP. Bank counter `c`, at 2^48 − 1, takes the next event of its source (R446). -/
  | counterWrap (c : Fin 16384)
  /-- DPLL_BUILT_IN_TEST_DONE. A DPLL core's built-in test ends (R288, R465). -/
  | dpllBuiltInTestDone (pass : Bool)
  /-- REKEY_DONE. Every row of the wipe's recovery is complete (R484). -/
  | rekeyDone
deriving DecidableEq, Repr

end Sys2Proof
end

