-- ==== Sys2Proof/Decode.lean ====
section
/-! DEFINITION. Table words: no row of the opcode table gives its operation bits, and no word spells a command. And the bytes that spell a
command of the SPI target (R377, R378). -/

namespace Sys2Proof

/-- The command that a word of `nbits` bits spells by the table's bits: none. -/
def decodeTableWord (_nbits _w : Nat) : Option Instr := none

/-! ### SPI transactions (R377, R378) -/

/-- A number whose bytes come most significant first. -/
def msbFirst (l : List (BitVec 8)) : Nat := l.foldl (fun a b => 256 * a + b.toNat) 0

/-- Data words: of each the byte of bits 7:0 comes first; `n` of them at most, and only whole ones. -/
def spiWords : Nat → List (BitVec 8) → List Word
  | 0, _ => []
  | n + 1, b0 :: b1 :: b2 :: b3 :: t => (b3 ++ b2 ++ b1 ++ b0) :: spiWords n t
  | _ + 1, _ => []

/-- The command that the bytes a host sends in one transaction spell (R378): none where the code is unknown, which the target ignores, or where
SPI_CS_N rises before the address and LEN are complete. -/
def decodeSpi : List (BitVec 8) → Option Instr
  | [] => none
  | c :: t =>
    if c = 0x9F then some .id
    else if c = 0x05 then some .status
    else if c = 0x38 then some .quad
    else if c = 0xFF then some .single
    else if c = 0x0B ∨ c = 0x02 then
      match t with
      | a4 :: a3 :: a2 :: a1 :: a0 :: len :: rest =>
        let a : BitVec 40 := BitVec.ofNat 40 (msbFirst [a4, a3, a2, a1, a0])
        let n : Fin 64 := Fin.ofNat 64 len.toNat
        some (if c = 0x0B then .read a n else .write a n (spiWords (n.val + 1) rest))
      | _ => none
    else if c = 0x4B then
      match t with
      | x2 :: x1 :: x0 :: len :: _ => some (.uread (BitVec.ofNat 24 (msbFirst [x2, x1, x0])) (Fin.ofNat 64 len.toNat))
      | _ => none
    else none

/-- A byte that the target drives of an answer: what a command gives, or 0xFF for every byte owed to an unknown code (R378). -/
def spiDrives (sent : List (BitVec 8)) (answer : BitVec 8) : BitVec 8 := if (decodeSpi sent).isSome then answer else 0xFF

end Sys2Proof
end

