-- ==== Sys2Proof/Config.lean ====
section
/-! DEFINITION. What the manual leaves open: values that it calls random, implementation's own, or does not state. Nothing in
Lean can evaluate one; a statement holds whatever they are. -/

namespace Sys2Proof

/-- The step an adapting receiver chooses for one of its taps (R78; DESIGN CHOICE: log entry 5). -/
opaque Config.adaptStep : Nat → Nat

/-- The receiver equalisation that adaptation reaches in TUNE (R70; DESIGN CHOICE: log entry 5). -/
opaque Config.adapted : Nat → Nat

/-- The coefficient request that adaptation makes of the partner in TUNE (R70; DESIGN CHOICE: log entry 5). -/
opaque Config.coefRequest : Nat → Nat

/-- Whether a lane's adaptation has settled by a given training row of TUNE (R70; DESIGN CHOICE: log entry 5). -/
opaque Config.settles : Nat → Bool

/-- The random nonce of a life-cycle operation (R477; DESIGN CHOICE: log entry 6). -/
opaque Config.nonce : Nat → Nat

/-- How a fitted value of the holdover model is rounded to its unit: down, or up where odd (R281; DESIGN CHOICE: log entry 7). -/
opaque Config.fitRound : Nat → Nat

/-- The proportional gain of a DPLL core at a bandwidth, in millionths of 10^-15 per 2^-10 ns: the manual gives the loop's order, type and
damping, not how its bandwidth is counted (R287; DESIGN CHOICE: log entry 41). -/
opaque Config.loopGain : Nat → Nat

/-- A dword of a PCIe port's configuration space that PCI Express, not the manual, gives; dword 0 holds the vendor ID of which the manual
gives no number (R373; PRESUMED: log entry 14). -/
opaque Config.cfgSpace : Nat → Nat

/-- What a byte of DDR5 reads as that nothing has written under the present keys, by key generation and address (R427; DESIGN CHOICE: log entry 3). -/
opaque Config.ddrNoise : Nat → Nat → BitVec 8

/-- The two keys of DDR5, 0 and 1, by key generation: what the random number generator gives (R427; DESIGN CHOICE: log entry 3). -/
opaque Config.ddrKey : Nat → Nat → BitVec 128

/-- The byte offset in region 0 at which the long path keeps the word of a tap position's page; a word takes 36 bits (R171, R432; DESIGN CHOICE:
log entry 38). -/
opaque Config.longByte : Nat → Nat → Nat

/-- An access to the secure bank finds the wipe still in progress (R417; DESIGN CHOICE: log entry 24). -/
opaque Config.wipeLasts : Nat → Bool

/-- A value that the manual states no result for (DESIGN CHOICE: log entry 8). -/
opaque Config.open' : Nat → Nat

/-- The core cycle, before it is brought into the frame's range, in which an event is latched, by frame, event and records before it: a command
that latches it names no core cycle (R396; DESIGN CHOICE: log entry 17). -/
opaque Config.latchCycle : Nat → Nat → Nat → Nat

/-- How many core cycles of the frame have passed since the last one named, before they are brought into the frame, when a counter of core cycles is
read or written: a read or write names no core cycle (R442, R443; DESIGN CHOICE: log entry 17). -/
opaque Config.cycleStep : Nat → Nat

/-- A write of the tally is still going on as power is lost (R471, R474; DESIGN CHOICE: log entry 40). -/
opaque Config.writeCut : Nat → Bool

/-- The payload of a slot column of a mate lane in which no block stands, by transmit frame, lane and column: the manual does not say what
it is (R307; DESIGN CHOICE: log entry 13). -/
opaque Config.mateBlock : Nat → Nat → Nat → Nat

/-- A data word of a block of epoch data, by block sequence number and place: the manual gives its entries no layout (R307, R313; DESIGN
CHOICE: log entry 13). -/
opaque Config.copyWord : Nat → Nat → Nat

/-- How many blocks so many entries of epoch data take, less one (R307, R313; DESIGN CHOICE: log entry 13). -/
opaque Config.copyBlocks : Nat → Nat

end Sys2Proof
end

