-- ==== Sys2Proof/Machine/Bits.lean ====
section
/-! DEFINITION. Bit fields of numbers, two's complement readings and byte orders (R4, R7). -/

namespace Sys2Proof

/-- Bits `lo + len - 1 : lo` of `v` (R4). -/
def bits (v lo len : Nat) : Nat := v / 2 ^ lo % 2 ^ len

/-- `v` with its bits `lo + len - 1 : lo` replaced by the low bits of `x`. -/
def putBits (v lo len x : Nat) : Nat :=
  v % 2 ^ lo + (x % 2 ^ len) * 2 ^ lo + v / 2 ^ (lo + len) * 2 ^ (lo + len)

/-- Bit `k` of `v`, as 0 or 1. -/
def bit (v k : Nat) : Nat := v / 2 ^ k % 2

/-- `v` with bit `k` set. -/
def orBit (v k : Nat) : Nat := if v.testBit k then v else v + 2 ^ k

/-- The `n`-bit two's complement word of an integer (R4). -/
def toWord (n : Nat) (x : Int) : Nat := (x % (2 ^ n : Nat)).toNat

/-- The integer that an `n`-bit two's complement word stands for. -/
def toInt (n v : Nat) : Int :=
  let u := v % 2 ^ n
  if u < 2 ^ (n - 1) then (u : Int) else (u : Int) - (2 ^ n : Nat)

/-- `a + b` held at `cap`: a saturating count. -/
def satAdd (cap a b : Nat) : Nat := min cap (a + b)

/-- The difference of two 32-bit frame numbers as an integer: frame numbers wrap (R2). -/
def frameDiff (a b : Nat) : Int := toInt 32 (toWord 32 ((a : Int) - (b : Int)))

/-- 32-bit frame number arithmetic (R2). -/
def frameAdd (a b : Nat) : Nat := (a + b) % 2 ^ 32

/-- `a` is `b` or a later frame (R2). -/
def frameGe (a b : Nat) : Bool := decide (0 ≤ frameDiff a b)

/-- The little-endian bytes of a number (R7). -/
def leBytes (n v : Nat) : List (BitVec 8) :=
  (List.range n).map (fun k => BitVec.ofNat 8 (v / 2 ^ (8 * k)))

/-- The number that little-endian bytes spell (R7). -/
def ofLeBytes : List (BitVec 8) → Nat
  | [] => 0
  | b :: t => b.toNat + 256 * ofLeBytes t

/-- The number that big-endian bytes spell. -/
def ofBeBytes (l : List (BitVec 8)) : Nat := ofLeBytes l.reverse

/-- The truth of a proposition as a bit. -/
def b2n (b : Bool) : Nat := if b then 1 else 0

end Sys2Proof
end

