-- ==== Sys2Proof/Machine/Flags.lean ====
section
/-! DEFINITION. Check computations: word parity (R22, R26), AIS and idle words (R23, R24), the CRCs of the lane (R68, R73, R88,
R106), the frame number's check nibbles (R98) and threshold comparisons.
Readings and choices: DEDUCED (log entry 56). -/

namespace Sys2Proof

/-- The parity of the ones of a number of at most `n` bits. -/
def parityOf (n v : Nat) : Nat := (List.range n).foldl (fun p k => (p + bit v k) % 2) 0

/-- How many of the low `n` bits of `v` are 1. -/
def popCount (n v : Nat) : Nat := (List.range n).foldl (fun p k => p + bit v k) 0

/-- PAYLOAD of a slot word (R21). -/
def payloadOf (w : Nat) : Nat := bits w 0 32
/-- PAR of a slot word (R21). -/
def parOf (w : Nat) : Nat := bit w 32
/-- GRN of a slot word (R21). -/
def grnOf (w : Nat) : Nat := bit w 33
/-- SEQ of a slot word (R21). -/
def seqOf (w : Nat) : Nat := bits w 34 2

/-- A slot word is parity-good when bits 35:0 hold an odd number of ones (R22). -/
def parityGood (w : Nat) : Bool := parityOf 36 w == 1

/-- The parity-good slot word with this PAYLOAD, GRN and SEQ (R22). -/
def slotWord (payload grn seq : Nat) : Nat :=
  let v := payload % 2 ^ 32 + 2 ^ 33 * (grn % 2) + 2 ^ 34 * (seq % 4)
  v + 2 ^ 32 * (1 - parityOf 36 v)

/-- The AIS word with this GRN and SEQ (R23). -/
def aisWord (grn seq : Nat) : Nat := slotWord 0xFFFFFFFF grn seq

/-- An AIS word is parity-good with PAYLOAD all ones (R23). -/
def isAis (w : Nat) : Bool := parityGood w && payloadOf w == 0xFFFFFFFF

/-- The idle word of transmit frame `F` (R24). -/
def idleWord (F : Nat) : Nat := slotWord 0 0 ((F + 2 ^ 32 - 2) % 4)

/-- The word forced parity-failed (R93): PAR is set so that bits 35:0 hold an even number of ones. -/
def forcePf (w : Nat) : Nat :=
  let v := putBits w 32 1 0
  putBits v 32 1 (parityOf 36 v)

/-- The word with GRN and SEQ rewritten, its parity state kept (R26): PAR is the received PAR XOR the parity of the changed bits. -/
def rewriteWord (w grn seq : Nat) : Nat :=
  let changed := (grnOf w + grn + bit seq 0 + bit seq 1 + bit (seqOf w) 0 + bit (seqOf w) 1) % 2
  putBits (putBits (putBits w 33 1 grn) 34 2 seq) 32 1 ((parOf w + changed) % 2)

/-- The word that lane transmit supplies for AIS: bits 35:33 of the word it replaces are kept (R25). -/
def aisOver (w : Nat) : Nat := aisWord (grnOf w) (seqOf w)

/-- One bit of a CRC register of `n` bits with generator `poly`. -/
def crcStep (n poly : Nat) (c b : Nat) : Nat :=
  let top := (bit c (n - 1) + b) % 2
  let sh := c * 2 % 2 ^ n
  if top = 1 then Nat.xor sh poly else sh

/-- A CRC over the bits `hi - 1` down to `lo` of `v`, most significant bit first. -/
def crcBits (n poly init : Nat) (v hi lo : Nat) : Nat :=
  (List.range (hi - lo)).foldl (fun c k => crcStep n poly c (bit v (hi - 1 - k))) init

/-- The CRC-8 of R68 over bits 35:8 of a word. -/
def crc8 (w : Nat) : Nat := crcBits 8 0x07 0xFF w 36 8

/-- A control or overhead word whose CRC-8 in bits 7:0 is good (R68, R96). -/
def crc8Good (w : Nat) : Bool := crc8 w == bits w 0 8

/-- The word with its CRC-8 set (R68). -/
def withCrc8 (w : Nat) : Nat := putBits w 0 8 (crc8 w)

/-- The CRC-5 of a row number (R88). -/
def crc5 (r : Nat) : Nat := crcBits 5 0x05 0 r 7 0

/-- The row marker of row `r` (R88). -/
def rowMarker (r : Nat) : Nat := 0xC71E5A * 2 ^ 12 + r % 128 * 32 + crc5 r

/-- The CRC-32 over 32-bit words (R73): generator 0x04C1_1DB7, initial value all ones, result complemented. -/
def crc32Words (l : List Nat) : Nat :=
  0xFFFFFFFF - l.foldl (fun c w => crcBits 32 0x04C11DB7 c w 32 0) 0xFFFFFFFF

/-- The CRC-32 over bytes (R106), with the generator, initial value and complement of R73. -/
def crc32Bytes (l : List Nat) : Nat :=
  0xFFFFFFFF - l.foldl (fun c w => crcBits 32 0x04C11DB7 c w 8 0) 0xFFFFFFFF

/-- The CHK field of FNW (R98): the XOR of the eight nibbles of the frame number. -/
def fnChk (fn : Nat) : Nat := (List.range 8).foldl (fun x k => Nat.xor x (bits fn (4 * k) 4)) 0

/-- The frame alignment word, 72 bits (R87). -/
def faw : Nat := 0x6EA3B9C41D5F2780D9

/-- The training marker, 72 bits (R67). -/
def trainMarker : Nat := 0x5A3CE1B70F9264D8AD

/-- How many bits a received FAW differs in (R112). -/
def fawErrors (w0 w1 : Nat) : Nat := popCount 72 (Nat.xor (w0 * 2 ^ 36 + w1) faw)

/-- The value that most of a list of accepted copies hold: the frame value of R97. At least 16 copies and a strict majority. -/
def frameValue (l : List Nat) : Option Nat :=
  if l.length < 16 then none else l.find? (fun v => l.length < 2 * l.count v)

end Sys2Proof
end

