-- ==== Sys2Proof/Machine/RegTypes.lean ====
section
/-! DEFINITION. What a register field, an event and a register are: the columns of the manual's field and address tables. -/

namespace Sys2Proof.Machine

/-- The access types of R8. -/
inductive FTy where
  | ro | rw | st | w1c | wo | sn
deriving DecidableEq, Repr

/-- What a field's Reset column says (R14). `image n` is a value the image sets; `n` is the value the manual gives where the image names
none, else 0 (DESIGN CHOICE: log entry 1). `fuse`, `tally`, `strap` and `random` hold 0 until their source is read (DESIGN CHOICE: log entry
1). -/
inductive Rst where
  | value (n : Nat) | image (n : Nat) | fuse | tally | strap | random
deriving DecidableEq, Repr

/-- The value a Reset column gives a field in `State.reset` (R14; DESIGN CHOICE: log entry 1). -/
def Rst.init : Rst → Nat
  | .value n => n
  | .image n => n
  | .fuse | .tally | .strap | .random => 0

/-- A register field: its number in the model's table, its width, its access type and its Reset column. -/
structure Fld where
  id : Nat
  width : Nat
  ty : FTy
  rst : Rst
deriving DecidableEq, Repr

/-- A field's value in `State.reset`. -/
def Fld.reset (f : Fld) : Nat := f.rst.init % 2 ^ f.width

/-- An event: its latched register, the register of the enables and its bit in both (R396). -/
structure Ev where
  reg : Fld
  en : Fld
  bit : Nat
deriving DecidableEq, Repr

/-- The event `k` bits above `e` in the same register. -/
def Ev.plus (e : Ev) (k : Nat) : Ev := { e with bit := e.bit + k }

/-- A part of a register: bits `src + len - 1 : src` of a field stand at bits `lo + len - 1 : lo`. -/
structure Slice where
  fld : Fld
  src : Nat
  lo : Nat
  len : Nat
deriving DecidableEq, Repr

/-- Whether a register stands alone or is a half of a pair of R12. -/
inductive Half where
  | single | low | high
deriving DecidableEq, Repr

/-- A register: its number, the address of its instance 0, its first instance, how many it has, their stride, its half of a
pair, and its fields. -/
structure Reg where
  id : Nat
  base : Nat
  first : Nat
  count : Nat
  stride : Nat
  half : Half
  slices : List Slice
deriving DecidableEq, Repr

/-- The address of instance `i` of a register, in register space. -/
def Reg.addr (r : Reg) (i : Nat) : Nat := r.base + i * r.stride

end Sys2Proof.Machine
end

