-- ==== Sys2Proof/Machine/RegFields.lean ====
section
/-! DEFINITION. The register fields of the NF3236: one constant for each field the manual's field tables
name (`BLOCK_REGISTER.FIELD` of R14 is written `BLOCK_REGISTER_FIELD`), with its width, its access type (R8) and what its
Reset column says. An event register is one field, with one `Ev` constant for each of its events. -/

namespace Sys2Proof.Machine.R

def DEV_FRAME_FRAME : Fld := ⟨0, 32, .ro, .value 0⟩
def DEV_FRAME_CYCLE_CYCLE : Fld := ⟨1, 18, .ro, .value 0⟩
def DEV_FRAME_SN_FRAME : Fld := ⟨2, 32, .sn, .value 0⟩
def DEV_LATQ_CTRL_SLOT : Fld := ⟨3, 25, .rw, .value 0⟩
def DEV_LATQ_CTRL_SIDE : Fld := ⟨4, 1, .rw, .value 0⟩
def DEV_LATQ_CTRL_GO : Fld := ⟨5, 1, .wo, .value 0⟩
def DEV_LATQ_STATUS_STATE : Fld := ⟨6, 2, .ro, .value 0⟩
def DEV_LATQ_STATUS_RESULT : Fld := ⟨7, 4, .ro, .value 0⟩
def DEV_LATQ_STATUS_MASTER : Fld := ⟨8, 4, .ro, .value 0⟩
def DEV_LATQ_STATUS_QSEQ : Fld := ⟨9, 16, .ro, .value 0⟩
def DEV_LATQ_SRC_SRC : Fld := ⟨10, 25, .ro, .value 0⟩
def DEV_LATQ_FRAME_FRAME : Fld := ⟨11, 32, .ro, .value 0⟩
def DEV_LATQ_LAT_LAT : Fld := ⟨12, 40, .ro, .value 0⟩
def DEV_LATQ_PARTS_DESKEW : Fld := ⟨13, 12, .ro, .value 0⟩
def DEV_LATQ_PARTS_LONG : Fld := ⟨14, 1, .ro, .value 0⟩
def DEV_LATQ_PARTS_SYNC_IN : Fld := ⟨15, 1, .ro, .value 0⟩
def DEV_LATQ_PARTS_SYS_OUT : Fld := ⟨16, 1, .ro, .value 0⟩
def LN_RX_PHASE_PHASE : Fld := ⟨17, 32, .ro, .value 0⟩
def LN_TX_PHASE_PHASE : Fld := ⟨18, 32, .ro, .value 0⟩
def LN_PHASE_STAT_RX_VALID : Fld := ⟨19, 1, .ro, .value 0⟩
def LN_PHASE_STAT_RX_SYNC_OK : Fld := ⟨20, 1, .ro, .value 0⟩
def LN_PHASE_STAT_TX_VALID : Fld := ⟨21, 1, .ro, .value 0⟩
def LN_PHASE_STAT_TX_LOOP : Fld := ⟨22, 1, .ro, .value 0⟩
def LN_FIT_CTRL_ENABLE : Fld := ⟨23, 1, .rw, .image 0⟩
def LN_FIT_CTRL_RESTART : Fld := ⟨24, 1, .wo, .value 0⟩
def LN_FIT_CTRL_BACKOFF_RESET : Fld := ⟨25, 1, .wo, .value 0⟩
def LN_FIT_CTRL_UNFREEZE : Fld := ⟨26, 1, .wo, .value 0⟩
def LN_FIT_CTRL_PEER_PRESET : Fld := ⟨27, 2, .rw, .image 0⟩
def LN_FIT_CTRL_EXPECT_EN : Fld := ⟨28, 1, .rw, .image 0⟩
def LN_FIT_STATUS_STATE : Fld := ⟨29, 4, .ro, .value 0⟩
def LN_FIT_STATUS_VACANT : Fld := ⟨30, 1, .ro, .value 0⟩
def LN_FIT_STATUS_RX_POL_INV : Fld := ⟨31, 1, .ro, .value 0⟩
def LN_FIT_STATUS_SUB : Fld := ⟨32, 1, .ro, .value 0⟩
def LN_FIT_STATUS_LAST_FAIL : Fld := ⟨33, 4, .ro, .value 0⟩
def LN_FIT_STATUS_PEER_STATE : Fld := ⟨34, 4, .ro, .value 0⟩
def LN_FIT_STATUS_PEER_LANE : Fld := ⟨35, 9, .ro, .value 0⟩
def LN_FIT_STATUS_FAILS : Fld := ⟨36, 7, .ro, .value 0⟩
def LN_FIT_BACKOFF_BACKOFF : Fld := ⟨37, 14, .ro, .value 0x50⟩
def LN_FIT_EVT : Fld := ⟨38, 9, .w1c, .value 0⟩
def LN_FIT_EVT_EN : Fld := ⟨39, 9, .rw, .image 0⟩
def LN_TX_CFG_TIMING : Fld := ⟨40, 1, .st, .image 0⟩
def LN_TX_CFG_LOOP_AUTO : Fld := ⟨41, 1, .st, .image 0⟩
def LN_TX_CFG_TX_INV : Fld := ⟨42, 1, .st, .image 0⟩
def LN_TX_CFG_LOOP_RESTORE : Fld := ⟨43, 1, .wo, .value 0⟩
def LN_TX_STAT_TIMING_ACT : Fld := ⟨44, 1, .ro, .value 0⟩
def LN_TX_STAT_SLEWING : Fld := ⟨45, 1, .ro, .value 0⟩
def LN_TX_STAT_TX_INV_ACT : Fld := ⟨46, 1, .ro, .value 0⟩
def LN_TX_COEF_CM3 : Fld := ⟨47, 6, .ro, .value 0⟩
def LN_TX_COEF_CM2 : Fld := ⟨48, 6, .ro, .value 0⟩
def LN_TX_COEF_CM1 : Fld := ⟨49, 6, .ro, .value 0x3a⟩
def LN_TX_COEF_CP1 : Fld := ⟨50, 6, .ro, .value 0x3c⟩
def LN_TX_COEF_C0 : Fld := ⟨51, 7, .ro, .value 0x36⟩
def LN_RX_EQ_CTLE : Fld := ⟨52, 4, .ro, .value 0⟩
def LN_RX_EQ_H1 : Fld := ⟨53, 8, .ro, .value 0⟩
def LN_RX_EQ_H2 : Fld := ⟨54, 8, .ro, .value 0⟩
def LN_RX_EQ_H3 : Fld := ⟨55, 8, .ro, .value 0⟩
def LN_RX_FFE_LO_F0_F3 : Fld := ⟨56, 32, .ro, .value 0⟩
def LN_RX_FFE_HI_F4_F7 : Fld := ⟨57, 32, .ro, .value 0⟩
def LN_ADAPT_CFG_GOOD_MAX : Fld := ⟨58, 16, .rw, .image 1000⟩
def LN_ADAPT_CFG_REVERT_MAX : Fld := ⟨59, 16, .rw, .image 354⟩
def LN_ADAPT_STAT_GOOD_SECS : Fld := ⟨60, 4, .ro, .value 0⟩
def LN_ADAPT_STAT_KG_VALID : Fld := ⟨61, 1, .ro, .value 0⟩
def LN_ADAPT_STAT_HOLD : Fld := ⟨62, 1, .ro, .value 0⟩
def LN_ADAPT_STAT_FROZEN : Fld := ⟨63, 1, .ro, .value 0⟩
def LN_ADAPT_STAT_REVERTS : Fld := ⟨64, 16, .ro, .value 0⟩
def LN_TAG_TAG : Fld := ⟨65, 32, .rw, .image 0⟩
def LN_EXPECT_TAG : Fld := ⟨66, 32, .rw, .image 0⟩
def LN_PEER_ID0_ID : Fld := ⟨67, 32, .ro, .value 0⟩
def LN_PEER_ID1_ID : Fld := ⟨68, 32, .ro, .value 0⟩
def LN_PEER_ID2_ID : Fld := ⟨69, 32, .ro, .value 0⟩
def LN_PEER_ID3_ID : Fld := ⟨70, 32, .ro, .value 0⟩
def LN_PEER_ID4_ID : Fld := ⟨71, 32, .ro, .value 0⟩
def LN_SPARE_CTRL_TARGET : Fld := ⟨72, 4, .rw, .value 0⟩
def LN_SPARE_CTRL_PREP : Fld := ⟨73, 1, .wo, .value 0⟩
def LN_SPARE_CTRL_SELECT : Fld := ⟨74, 1, .wo, .value 0⟩
def LN_SPARE_CTRL_RELEASE : Fld := ⟨75, 1, .wo, .value 0⟩
def LN_SPARE_STAT_COVER : Fld := ⟨76, 16, .ro, .value 0⟩
def LN_SPARE_STAT_SHADOW : Fld := ⟨77, 1, .ro, .value 0⟩
def LN_SPARE_STAT_READY : Fld := ⟨78, 1, .ro, .value 0⟩
def LN_SPARE_STAT_CARRYING : Fld := ⟨79, 1, .ro, .value 0⟩
def LN_SPARE_STAT_CARRIED : Fld := ⟨80, 4, .ro, .value 0⟩
def LN_FRM_CFG_SYNC : Fld := ⟨81, 1, .st, .image 0⟩
def LN_FRM_CFG_LID_EN : Fld := ⟨82, 1, .st, .image 0⟩
def LN_FRM_CFG_TX_FORCE_AIS : Fld := ⟨83, 1, .rw, .value 0⟩
def LN_FRM_STAT_ALIGN : Fld := ⟨84, 2, .ro, .value 0⟩
def LN_FRM_STAT_CA : Fld := ⟨85, 1, .ro, .value 0⟩
def LN_FRM_STAT_SYNC_ACT : Fld := ⟨86, 1, .ro, .value 0⟩
def LN_FRM_STAT_LOS : Fld := ⟨87, 1, .ro, .value 0⟩
def LN_FRM_STAT_LOL : Fld := ⟨88, 1, .ro, .value 0⟩
def LN_FRM_STAT_OOF : Fld := ⟨89, 1, .ro, .value 0⟩
def LN_FRM_STAT_LOF : Fld := ⟨90, 1, .ro, .value 0⟩
def LN_FRM_STAT_LAIS : Fld := ⟨91, 1, .ro, .value 0⟩
def LN_FRM_STAT_LRDI : Fld := ⟨92, 1, .ro, .value 0⟩
def LN_FRM_STAT_LSD : Fld := ⟨93, 1, .ro, .value 0⟩
def LN_FRM_STAT_LSF : Fld := ⟨94, 1, .ro, .value 0⟩
def LN_FRM_STAT_LMM : Fld := ⟨95, 1, .ro, .value 0⟩
def LN_FRM_STAT_LPH : Fld := ⟨96, 1, .ro, .value 0⟩
def LN_FRM_STAT_TX_LAIS : Fld := ⟨97, 1, .ro, .value 0⟩
def LN_FRM_STAT_TX_LRDI : Fld := ⟨98, 1, .ro, .value 0⟩
def LN_DEF_EVT : Fld := ⟨99, 23, .w1c, .value 0⟩
def LN_DEF_EVT_EN : Fld := ⟨100, 23, .rw, .image 0⟩
def LN_DEF_THR_SD_SET : Fld := ⟨101, 16, .rw, .image 3539⟩
def LN_DEF_THR_SD_CLR : Fld := ⟨102, 16, .rw, .image 354⟩
def LN_DEF_THR_SF_SET : Fld := ⟨103, 16, .rw, .image 35389⟩
def LN_DEF_THR_SF_CLR : Fld := ⟨104, 16, .rw, .image 3539⟩
def LN_DEF_THR_UC_UC_SET : Fld := ⟨105, 8, .rw, .image 3⟩
def LN_RX_LID_LANE_ID : Fld := ⟨106, 9, .ro, .value 0⟩
def LN_RX_LID_PORT : Fld := ⟨107, 9, .ro, .value 0⟩
def LN_RX_LID_VALID : Fld := ⟨108, 1, .ro, .value 0⟩
def LN_RX_STW_LAIS : Fld := ⟨109, 1, .ro, .value 0⟩
def LN_RX_STW_LRDI : Fld := ⟨110, 1, .ro, .value 0⟩
def LN_RX_STW_SSM : Fld := ⟨111, 4, .ro, .value 0⟩
def LN_RX_STW_ROLE : Fld := ⟨112, 2, .ro, .value 0⟩
def LN_RX_STW_TKV : Fld := ⟨113, 1, .ro, .value 0⟩
def LN_RX_STW_NEW_ROLE : Fld := ⟨114, 2, .ro, .value 0⟩
def LN_RX_STW_VALID : Fld := ⟨115, 1, .ro, .value 0⟩
def LN_RX_FN_VALUE : Fld := ⟨116, 32, .ro, .value 0⟩
def LN_RX_TKW_VALUE : Fld := ⟨117, 32, .ro, .value 0⟩
def LN_RX_VTW_SEEN_A : Fld := ⟨118, 2, .ro, .value 0⟩
def LN_RX_VTW_SEEN_B : Fld := ⟨119, 2, .ro, .value 0⟩
def LN_RX_VTW_VOTE : Fld := ⟨120, 2, .ro, .value 0⟩
def LN_RX_VTW_VALID : Fld := ⟨121, 1, .ro, .value 0⟩
def LN_RX_BEW_CORR : Fld := ⟨122, 12, .ro, .value 0⟩
def LN_RX_BEW_UNC : Fld := ⟨123, 10, .ro, .value 0⟩
def LN_RX_BEW_VALID : Fld := ⟨124, 1, .ro, .value 0⟩
def LN_CNT0 : Fld := ⟨125, 48, .ro, .value 0⟩
def LN_CNT1 : Fld := ⟨126, 48, .ro, .value 0⟩
def LN_CNT2 : Fld := ⟨127, 48, .ro, .value 0⟩
def LN_CNT3 : Fld := ⟨128, 48, .ro, .value 0⟩
def LN_CNT4 : Fld := ⟨129, 48, .ro, .value 0⟩
def LN_CNT5 : Fld := ⟨130, 48, .ro, .value 0⟩
def LN_PEER_PHI_PHASE : Fld := ⟨131, 32, .ro, .value 0⟩
def LN_PEER_PSI_PHASE : Fld := ⟨132, 32, .ro, .value 0⟩
def LN_LINK_RTT_RTT : Fld := ⟨133, 22, .ro, .value 0⟩
def LN_LINK_RTT_VALID : Fld := ⟨134, 1, .ro, .value 0⟩
def LN_MCH_CTRL_ENABLE : Fld := ⟨135, 1, .rw, .image 0⟩
def LN_MCH_STAT_RX_BAD : Fld := ⟨136, 16, .ro, .value 0⟩
def LN_MCH_STAT_RX_DROP : Fld := ⟨137, 16, .ro, .value 0⟩
def LN_MCH_RXBASE_BASE : Fld := ⟨138, 40, .rw, .image 0⟩
def LN_MCH_TXBASE_BASE : Fld := ⟨139, 40, .rw, .image 0⟩
def LN_MCH_IDX_RX_HEAD : Fld := ⟨140, 6, .ro, .value 0⟩
def LN_MCH_IDX_RX_TAIL : Fld := ⟨141, 6, .rw, .value 0⟩
def LN_MCH_IDX_TX_HEAD : Fld := ⟨142, 6, .rw, .value 0⟩
def LN_MCH_IDX_TX_TAIL : Fld := ⟨143, 6, .ro, .value 0⟩
def LIF_DEFSUM_CA : Fld := ⟨144, 32, .ro, .value 0⟩
def BNT_CFG_POLICY : Fld := ⟨145, 2, .st, .image 0⟩
def BNT_CFG_GUARD : Fld := ⟨146, 11, .st, .image 0⟩
def BNT_CTRL_RETIME : Fld := ⟨147, 1, .wo, .value 0⟩
def BNT_RETIME_FRAME_FRAME : Fld := ⟨148, 32, .rw, .value 0⟩
def BNT_STAT_STATE : Fld := ⟨149, 3, .ro, .value 0⟩
def BNT_STAT_MEMBERS : Fld := ⟨150, 13, .ro, .value 0⟩
def BNT_STAT_PENDING : Fld := ⟨151, 13, .ro, .value 0⟩
def BNT_REF_REF : Fld := ⟨152, 13, .ro, .value 0⟩
def BNT_REF_GUARD_ACT : Fld := ⟨153, 11, .ro, .value 0⟩
def BNT_REF_POLICY_ACT : Fld := ⟨154, 2, .ro, .value 0⟩
def BNT_EVT : Fld := ⟨155, 11, .w1c, .value 0⟩
def BNT_EVT_EN : Fld := ⟨156, 11, .rw, .image 0⟩
def BNT_MSEL_INDEX : Fld := ⟨157, 12, .rw, .value 0⟩
def BNT_MSRC_SRC : Fld := ⟨158, 25, .ro, .value 0⟩
def BNT_MSRC_STATE : Fld := ⟨159, 4, .ro, .value 0⟩
def BNT_MDLY_ARR : Fld := ⟨160, 12, .ro, .value 0⟩
def BNT_MDLY_D : Fld := ⟨161, 12, .ro, .value 0⟩
def BNT_MDLY_K : Fld := ⟨162, 2, .ro, .value 0⟩
def BNT_MDLY_LONG : Fld := ⟨163, 1, .ro, .value 0⟩
def BNT_MPOS_RPORT : Fld := ⟨164, 5, .ro, .value 0⟩
def BNT_MPOS_RSLOT : Fld := ⟨165, 17, .ro, .value 0⟩
def BNT_MPOS_VALID : Fld := ⟨166, 1, .ro, .value 0⟩
def BNT_SKEW_ARR_MIN : Fld := ⟨167, 12, .ro, .value 0⟩
def BNT_SKEW_ARR_MAX : Fld := ⟨168, 12, .ro, .value 0⟩
def BNT_MCOUNT_SUSPECT : Fld := ⟨169, 13, .ro, .value 0⟩
def BNT_MCOUNT_OFFLINE : Fld := ⟨170, 13, .ro, .value 0⟩
def BNT_HIST_STEPS : Fld := ⟨171, 16, .ro, .value 0⟩
def BNT_HIST_REALIGNS : Fld := ⟨172, 16, .ro, .value 0⟩
def BNT_GLB_STAT_BENTS : Fld := ⟨173, 15, .ro, .value 0⟩
def BNT_GLB_MEMBERS_COUNT : Fld := ⟨174, 23, .ro, .value 0⟩
def BNT_GLB_LONG_COUNT : Fld := ⟨175, 23, .ro, .value 0⟩
def BNT_GLB_LPCAP_CAP : Fld := ⟨176, 23, .st, .image 0⟩
def BNT_GLB_LPUSE_USE : Fld := ⟨177, 23, .ro, .value 0⟩
def BNT_GLB_LPCAP_ACT_CAP : Fld := ⟨178, 23, .ro, .image 0⟩
def BNT_GLB_RPUSE_USE : Fld := ⟨179, 18, .ro, .value 0⟩
def BNT_GLB_EVTSUM_PEND : Fld := ⟨180, 32, .ro, .value 0⟩
def FAB_CFG_KERF_EN : Fld := ⟨181, 1, .rw, .image 0⟩
def FAB_CFG_DIAG_EN : Fld := ⟨182, 1, .rw, .image 0⟩
def FAB_STAT_SWEEP : Fld := ⟨183, 1, .ro, .value 0⟩
def FAB_STAT_KERF : Fld := ⟨184, 1, .ro, .value 0⟩
def FAB_STAT_OVER_ANY : Fld := ⟨185, 1, .ro, .value 0⟩
def FAB_EVT : Fld := ⟨186, 7, .w1c, .value 0⟩
def FAB_EVT_EN : Fld := ⟨187, 7, .rw, .image 0⟩
def FAB_LAM_CTRL_SHADOW : Fld := ⟨188, 4, .st, .image 0⟩
def FAB_LAM_CTRL_SUB : Fld := ⟨189, 1, .st, .image 0⟩
def FAB_LAM_CTRL_ROTATE : Fld := ⟨190, 1, .st, .image 0⟩
def FAB_LAM_STAT_SHADOW_ACT : Fld := ⟨191, 4, .ro, .value 0⟩
def FAB_LAM_STAT_SUB_ACT : Fld := ⟨192, 1, .ro, .value 0⟩
def FAB_LAM_STAT_ROTATE_ACT : Fld := ⟨193, 1, .ro, .value 0⟩
def FAB_LAM_STAT_SHADOW_FRAMES : Fld := ⟨194, 16, .ro, .value 0⟩
def FAB_LAM_MM_COUNT : Fld := ⟨195, 32, .ro, .value 0⟩
def FAB_KERF_FAIL_IN : Fld := ⟨196, 9, .ro, .value 0⟩
def FAB_KERF_FAIL_OUT : Fld := ⟨197, 8, .ro, .value 0⟩
def FAB_KERF_FAIL_LAMMASK : Fld := ⟨198, 10, .ro, .value 0⟩
def FAB_KERF_FAIL_VALID : Fld := ⟨199, 1, .ro, .value 0⟩
def FAB_LAM_ERR_COUNT : Fld := ⟨200, 32, .ro, .value 0⟩
def FAB_CONFLICT_COUNT : Fld := ⟨201, 32, .ro, .value 0⟩
def FAB_LP_LATE_COUNT : Fld := ⟨202, 32, .ro, .value 0⟩
def FAB_IN_COST_COST : Fld := ⟨203, 19, .ro, .value 0⟩
def FAB_IN_COST_OVER : Fld := ⟨204, 1, .ro, .value 0⟩
def FAB_OUT_WORDS_WORDS : Fld := ⟨205, 18, .ro, .value 0⟩
def SCB_STAT_ENGINES : Fld := ⟨206, 7, .ro, .value 0x40⟩
def SCB_STAT_SPARES : Fld := ⟨207, 3, .ro, .value 4⟩
def SCB_STAT_BUSY : Fld := ⟨208, 1, .ro, .value 0⟩
def SCB_EVT : Fld := ⟨209, 2, .w1c, .value 0⟩
def SCB_EVT_EN : Fld := ⟨210, 2, .rw, .image 0⟩
def SCB_REPL_CTRL_GO : Fld := ⟨211, 1, .wo, .value 0⟩
def SCB_REPL_STAT_STATE : Fld := ⟨212, 2, .ro, .value 0⟩
def SCB_REPL_STAT_STEP : Fld := ⟨213, 6, .ro, .value 0⟩
def SCB_REPL_STAT_MOVED : Fld := ⟨214, 24, .ro, .value 0⟩
def SCB_MREC_SEL_SLOT : Fld := ⟨215, 25, .rw, .value 0⟩
def SCB_MREC_W_SRC : Fld := ⟨216, 25, .ro, .value 0⟩
def SCB_MREC_W_VALID : Fld := ⟨217, 1, .ro, .value 0⟩
def SCB_MREC_P_SRC : Fld := ⟨218, 25, .ro, .value 0⟩
def SCB_MREC_P_VALID : Fld := ⟨219, 1, .ro, .value 0⟩
def SCB_MREC_G_GROUP : Fld := ⟨220, 16, .ro, .value 0⟩
def SCB_MREC_G_ENTRY : Fld := ⟨221, 14, .ro, .value 0⟩
def CUT_CTRL_LIST : Fld := ⟨222, 1, .wo, .value 0⟩
def CUT_CTRL_CMD : Fld := ⟨223, 3, .wo, .value 0⟩
def CUT_CTRL_ASAP : Fld := ⟨224, 1, .wo, .value 0⟩
def CUT_EVT : Fld := ⟨225, 12, .w1c, .value 0⟩
def CUT_EVT_EN : Fld := ⟨226, 12, .rw, .image 0⟩
def CUT_Lj_LEN_LEN : Fld := ⟨227, 21, .rw, .value 0⟩
def CUT_Lj_FRAME_FRAME : Fld := ⟨228, 32, .rw, .value 0⟩
def CUT_Lj_STAT_STATE : Fld := ⟨229, 3, .ro, .value 0⟩
def CUT_Lj_STAT_APPLY_REQ : Fld := ⟨230, 1, .ro, .value 0⟩
def CUT_Lj_STAT_ASAP : Fld := ⟨231, 1, .ro, .value 0⟩
def CUT_Lj_ERR_CODE : Fld := ⟨232, 4, .ro, .value 0⟩
def CUT_Lj_ERR_INDEX : Fld := ⟨233, 20, .ro, .value 0⟩
def CUT_Lj_ERRSLOT_SLOT : Fld := ⟨234, 25, .ro, .value 0⟩
def CUT_Lj_ERRSLOT_VALID : Fld := ⟨235, 1, .ro, .value 0⟩
def CUT_Lj_TICK_FRAME : Fld := ⟨236, 32, .ro, .value 0⟩
def CUT_SCN_CMD_SCENE : Fld := ⟨237, 8, .wo, .value 0⟩
def CUT_SCN_CMD_GO : Fld := ⟨238, 1, .wo, .value 0⟩
def CUT_SCN_STAT_CUR : Fld := ⟨239, 8, .ro, .value 0⟩
def CUT_SCN_STAT_STATE : Fld := ⟨240, 3, .ro, .value 0⟩
def CUT_SCN_STAT_QUEUE : Fld := ⟨241, 5, .ro, .value 0⟩
def CUT_SCN_STAT_SPAN : Fld := ⟨242, 6, .ro, .value 0⟩
def CUT_SCN_ERR_CODE : Fld := ⟨243, 4, .ro, .value 0⟩
def CUT_SCN_ERR_INDEX : Fld := ⟨244, 22, .ro, .value 0⟩
def CUT_SCN_LAST_FRAME : Fld := ⟨245, 32, .ro, .value 0⟩
def CUT_SCNn_BASE_BASE : Fld := ⟨246, 40, .rw, .image 0⟩
def CUT_SCNn_LEN_LEN : Fld := ⟨247, 23, .rw, .image 0⟩
def CUT_SCNn_TRIG_LANE : Fld := ⟨248, 8, .rw, .image 0⟩
def CUT_SCNn_TRIG_DEFECTS : Fld := ⟨249, 7, .rw, .image 0⟩
def CUT_SCNn_TRIG_EN : Fld := ⟨250, 1, .rw, .image 0⟩
def CUT_SCNn_TRIG_PRIMED : Fld := ⟨251, 1, .ro, .value 0⟩
def GRN_SEED_SEED : Fld := ⟨252, 64, .ro, .image 0⟩
def GRN_STAT_FAULTS : Fld := ⟨253, 26, .ro, .value 0⟩
def GRN_EVT : Fld := ⟨254, 2, .w1c, .value 0⟩
def GRN_EVT_EN : Fld := ⟨255, 2, .rw, .image 0⟩
def GRN_LAST_SLOT : Fld := ⟨256, 25, .ro, .value 0⟩
def GRN_LAST_SIDE : Fld := ⟨257, 1, .ro, .value 0⟩
def GRN_LAST_CAUSE : Fld := ⟨258, 1, .ro, .value 0⟩
def GRN_LAST_VALID : Fld := ⟨259, 1, .ro, .value 0⟩
def GRN_LAST_FRAME_FRAME : Fld := ⟨260, 32, .ro, .value 0⟩
def GRN_SCAN_SEL_PORT : Fld := ⟨261, 8, .rw, .value 0⟩
def GRN_SCAN_SEL_FROM : Fld := ⟨262, 17, .rw, .value 0⟩
def GRN_SCAN_RES_SLOT : Fld := ⟨263, 17, .ro, .value 0⟩
def GRN_SCAN_RES_FAULT0 : Fld := ⟨264, 1, .ro, .value 0⟩
def GRN_SCAN_RES_FAULT1 : Fld := ⟨265, 1, .ro, .value 0⟩
def GRN_SCAN_RES_VALID : Fld := ⟨266, 1, .ro, .value 0⟩
def GRN_CNT_COUNT : Fld := ⟨267, 48, .ro, .value 0⟩
def GRN_PORT_FAULTS : Fld := ⟨268, 18, .ro, .value 0⟩
def GRN_BENTSUM_FAULT : Fld := ⟨269, 32, .ro, .value 0⟩
def GRN_GRPSUM_FAULT : Fld := ⟨270, 32, .ro, .value 0⟩
def SCF_CFG_DEG_SET : Fld := ⟨271, 16, .st, .image 66⟩
def SCF_CFG_DEG_CLR : Fld := ⟨272, 16, .st, .image 7⟩
def SCF_STAT_COUNT : Fld := ⟨273, 23, .ro, .value 0⟩
def SCF_GROUPS_COUNT : Fld := ⟨274, 23, .ro, .value 0⟩
def SCF_EVT : Fld := ⟨275, 3, .w1c, .value 0⟩
def SCF_EVT_EN : Fld := ⟨276, 3, .rw, .image 0⟩
def SCF_CNT_COUNT : Fld := ⟨277, 48, .ro, .value 0⟩
def SCF_PORT_MERGED_MERGED : Fld := ⟨278, 15, .ro, .value 0⟩
def SCF_GEVTSUM_PEND : Fld := ⟨279, 32, .ro, .value 0⟩
def SCF_GCFG_MODE : Fld := ⟨280, 3, .st, .image 0⟩
def SCF_GCFG_HOME : Fld := ⟨281, 1, .st, .image 0⟩
def SCF_GCFG_REVERT : Fld := ⟨282, 1, .st, .image 0⟩
def SCF_GCFG_WTR : Fld := ⟨283, 12, .st, .image 0⟩
def SCF_GCFG_WTR_CLEAR : Fld := ⟨284, 1, .wo, .value 0⟩
def SCF_GSTAT_STATE : Fld := ⟨285, 3, .ro, .value 0⟩
def SCF_GSTAT_PREF_ACT : Fld := ⟨286, 1, .ro, .value 0⟩
def SCF_GSTAT_W_DEG : Fld := ⟨287, 1, .ro, .value 0⟩
def SCF_GSTAT_P_DEG : Fld := ⟨288, 1, .ro, .value 0⟩
def SCF_GSTAT_MODE_ACT : Fld := ⟨289, 3, .ro, .value 0⟩
def SCF_GSTAT_HOME_ACT : Fld := ⟨290, 1, .ro, .value 0⟩
def SCF_GSTAT_REVERT_ACT : Fld := ⟨291, 1, .ro, .value 0⟩
def SCF_GEVT : Fld := ⟨292, 9, .w1c, .value 0⟩
def SCF_GEVT_EN : Fld := ⟨293, 9, .rw, .image 0⟩
def SCF_GWTR_REMAIN : Fld := ⟨294, 25, .ro, .value 0⟩
def SCF_GSLOTS_SLOTS : Fld := ⟨295, 23, .ro, .value 0⟩
def SCF_GBAD_W_COUNT : Fld := ⟨296, 48, .ro, .value 0⟩
def SCF_GBAD_P_COUNT : Fld := ⟨297, 48, .ro, .value 0⟩
def SCF_GSEL_P_COUNT : Fld := ⟨298, 48, .ro, .value 0⟩
def SCF_GNEITHER_COUNT : Fld := ⟨299, 48, .ro, .value 0⟩
def SCF_GGRN_W_FAULT : Fld := ⟨300, 16, .ro, .value 0⟩
def SCF_GGRN_P_FAULT : Fld := ⟨301, 16, .ro, .value 0⟩
def SCF_GDIFF_COUNT : Fld := ⟨302, 32, .ro, .value 0⟩
def PLB_CFG_QL_EN : Fld := ⟨303, 1, .st, .image 0⟩
def PLB_CFG_REVERT : Fld := ⟨304, 1, .st, .image 0⟩
def PLB_CFG_SWITCH : Fld := ⟨305, 1, .st, .image 0⟩
def PLB_CFG_OWN_QL : Fld := ⟨306, 4, .st, .image 0⟩
def PLB_CFG_HOLD_QL : Fld := ⟨307, 4, .st, .image 0⟩
def PLB_CTRL_CMD : Fld := ⟨308, 3, .wo, .value 0⟩
def PLB_CTRL_REF : Fld := ⟨309, 4, .wo, .value 0⟩
def PLB_CTRL_REALIGN : Fld := ⟨310, 1, .wo, .value 0⟩
def PLB_CTRL_LEARN_RESET : Fld := ⟨311, 1, .wo, .value 0⟩
def PLB_STATUS_STATE : Fld := ⟨312, 3, .ro, .value 7⟩
def PLB_STATUS_BRIDGE : Fld := ⟨313, 1, .ro, .value 0⟩
def PLB_STATUS_COAST : Fld := ⟨314, 1, .ro, .value 0⟩
def PLB_STATUS_SEL : Fld := ⟨315, 4, .ro, .value 0xf⟩
def PLB_STATUS_DPLL : Fld := ⟨316, 1, .ro, .value 0⟩
def PLB_STATUS_SHADOW_OK : Fld := ⟨317, 1, .ro, .value 0⟩
def PLB_STATUS_MODEL_VALID : Fld := ⟨318, 1, .ro, .value 0⟩
def PLB_STATUS_OUT_QL : Fld := ⟨319, 4, .ro, .value 0⟩
def PLB_STATUS_CMD_ACT : Fld := ⟨320, 2, .ro, .value 0⟩
def PLB_STATUS_CMD_REF : Fld := ⟨321, 4, .ro, .value 0⟩
def PLB_STATUS_LAST_REF : Fld := ⟨322, 4, .ro, .value 0xf⟩
def PLB_EVT : Fld := ⟨323, 10, .w1c, .value 0⟩
def PLB_EVT_EN : Fld := ⟨324, 10, .rw, .image 0⟩
def PLB_DPLL_BW_BW : Fld := ⟨325, 17, .st, .image 0⟩
def PLB_DPLL_ACQ_ACQ_BW : Fld := ⟨326, 17, .st, .image 0⟩
def PLB_DPLL_ACQ_LOCK_WIN : Fld := ⟨327, 8, .st, .image 0⟩
def PLB_DPLL_PSL_PSL : Fld := ⟨328, 16, .st, .image 0⟩
def PLB_DPLL_PSL_ACQ_PSL : Fld := ⟨329, 16, .st, .image 0⟩
def PLB_TIMERS_HOLDOFF : Fld := ⟨330, 5, .st, .image 0⟩
def PLB_TIMERS_WTR : Fld := ⟨331, 12, .st, .image 0⟩
def PLB_TIMERS_BRIDGE : Fld := ⟨332, 15, .st, .image 0⟩
def PLB_XO_CFG_XO_HZ : Fld := ⟨333, 26, .ro, .image 0⟩
def PLB_HOLD_CFG_HOLD_MAX : Fld := ⟨334, 8, .st, .image 0⟩
def PLB_HOLD_CFG_LEARN_MIN : Fld := ⟨335, 8, .st, .image 0⟩
def PLB_HOLD_CFG_TSENS : Fld := ⟨336, 4, .st, .image 0⟩
def PLB_LEARN_CFG_LEARN_WIN : Fld := ⟨337, 14, .st, .image 0⟩
def PLB_LEARN_CFG_DRIFT_LAG : Fld := ⟨338, 14, .st, .image 0⟩
def PLB_HOLD_STAT_RECORDS : Fld := ⟨339, 14, .ro, .value 0⟩
def PLB_HOLD_STAT_VALID : Fld := ⟨340, 1, .ro, .value 0⟩
def PLB_HOLD_STAT_FROZEN : Fld := ⟨341, 1, .ro, .value 0⟩
def PLB_HOLD_STAT_HOLD_MIN : Fld := ⟨342, 16, .ro, .value 0⟩
def PLB_HOLD_FREQ_F0 : Fld := ⟨343, 40, .ro, .value 0⟩
def PLB_HOLD_AGE_VALUE : Fld := ⟨344, 32, .ro, .value 0⟩
def PLB_HOLD_TCO_VALUE : Fld := ⟨345, 32, .ro, .value 0⟩
def PLB_HOLD_T0_T0 : Fld := ⟨346, 16, .ro, .value 0⟩
def PLB_HOLD_T0_TNOW : Fld := ⟨347, 16, .ro, .value 0⟩
def PLB_PHASE_ERR_VALUE : Fld := ⟨348, 32, .ro, .value 0⟩
def PLB_BUILDOUT_VALUE : Fld := ⟨349, 32, .ro, .value 0⟩
def PLB_MREF_CFG_ASYM : Fld := ⟨350, 32, .st, .image 0⟩
def PLB_MREF_STAT_LANE : Fld := ⟨351, 3, .ro, .value 0⟩
def PLB_MREF_STAT_VALID : Fld := ⟨352, 1, .ro, .value 0⟩
def PLB_MREF_OFFS_VALUE : Fld := ⟨353, 32, .ro, .value 0⟩
def PLB_PPS_PHASE : Fld := ⟨354, 13, .ro, .value 0⟩
def PLB_HIST_BASE_BASE : Fld := ⟨355, 40, .ro, .value 0⟩
def PLB_HIST_IDX_NEXT : Fld := ⟨356, 14, .ro, .value 0⟩
def PLB_HIST_IDX_WRAPPED : Fld := ⟨357, 1, .ro, .value 0⟩
def PLB_DRIFT_ONSET_EPOCH : Fld := ⟨358, 32, .ro, .value 0⟩
def PLB_REFi_CFG_EN : Fld := ⟨359, 1, .st, .image 0⟩
def PLB_REFi_CFG_PRIO : Fld := ⟨360, 4, .st, .image 0⟩
def PLB_REFi_CFG_QL : Fld := ⟨361, 4, .st, .image 0⟩
def PLB_REFi_CFG_LOCKOUT : Fld := ⟨362, 1, .st, .image 0⟩
def PLB_REFi_CFG_KIND : Fld := ⟨363, 1, .st, .image 0⟩
def PLB_REFi_CFG_SRC : Fld := ⟨364, 15, .st, .image 0⟩
def PLB_REFi_TOFF_TOFF : Fld := ⟨365, 32, .st, .image 0⟩
def PLB_REFi_STAT_QUAL : Fld := ⟨366, 2, .ro, .value 0⟩
def PLB_REFi_STAT_ACTIVE : Fld := ⟨367, 1, .ro, .value 0⟩
def PLB_REFi_STAT_FREQ_OK : Fld := ⟨368, 1, .ro, .value 0⟩
def PLB_REFi_STAT_SOFT : Fld := ⟨369, 1, .ro, .value 0⟩
def PLB_REFi_STAT_HARD : Fld := ⟨370, 1, .ro, .value 0⟩
def PLB_REFi_STAT_QL_ACT : Fld := ⟨371, 4, .ro, .value 0xf⟩
def PLB_REFi_STAT_JUMPS : Fld := ⟨372, 2, .ro, .value 0⟩
def PLB_REFi_EVT : Fld := ⟨373, 8, .w1c, .value 0⟩
def PLB_REFi_EVT_EN : Fld := ⟨374, 8, .rw, .image 0⟩
def PLB_REFi_WTR_REMAIN : Fld := ⟨375, 12, .ro, .value 0⟩
def PLB_REFi_FREQ_VALUE : Fld := ⟨376, 32, .ro, .value 0⟩
def PLB_REFi_DEV_VALUE : Fld := ⟨377, 32, .ro, .value 0⟩
def PLB_REFi_DRIFT_SOFT : Fld := ⟨378, 16, .st, .image 0⟩
def PLB_REFi_DRIFT_HARD : Fld := ⟨379, 16, .st, .image 0⟩
def PLB_REFi_MTIE0_VALUE : Fld := ⟨380, 32, .ro, .value 0⟩
def PLB_REFi_MTIE1_VALUE : Fld := ⟨381, 32, .ro, .value 0⟩
def PLB_REFi_MTIE2_VALUE : Fld := ⟨382, 32, .ro, .value 0⟩
def PLB_REFi_MTIE3_VALUE : Fld := ⟨383, 32, .ro, .value 0⟩
def PLB_REFi_TDEV_VALUE : Fld := ⟨384, 32, .ro, .value 0⟩
def PLB_REFi_JUMP_VALUE : Fld := ⟨385, 32, .ro, .value 0⟩
def PLB_REFi_MON_PJ_LIM : Fld := ⟨386, 16, .st, .image 0⟩
def PLB_REFi_MON_FREQ_RANGE : Fld := ⟨387, 8, .st, .image 0⟩
def PLB_FPOUTk_CFG_MODE : Fld := ⟨388, 2, .st, .image 0⟩
def PLB_FPOUTk_CFG_N : Fld := ⟨389, 15, .st, .image 0⟩
def PLB_FPOUTk_CFG_WIDTH : Fld := ⟨390, 8, .st, .image 0⟩
def PLB_FPOUTk_OFFSET_OFFSET : Fld := ⟨391, 32, .st, .image 0⟩
def PLB_FPOUTk_STAT_MODE_ACT : Fld := ⟨392, 2, .ro, .value 0⟩
def PLB_FPOUTk_STAT_SLEWING : Fld := ⟨393, 1, .ro, .value 0⟩
def PLB_FPOUTk_STAT_ALIGNED : Fld := ⟨394, 1, .ro, .value 0⟩
def MAT_CFG_PAIR_EN : Fld := ⟨395, 1, .ro, .image 0⟩
def MAT_CFG_REVERT : Fld := ⟨396, 1, .st, .image 0⟩
def MAT_CFG_WTR : Fld := ⟨397, 12, .st, .image 0⟩
def MAT_CFG_GRN_PORTS : Fld := ⟨398, 8, .st, .image 0⟩
def MAT_CFG_VOTE_MIN : Fld := ⟨399, 4, .st, .image 0⟩
def MAT_CFG_LANE_REQ : Fld := ⟨400, 1, .st, .image 0⟩
def MAT_CTRL_SWITCH : Fld := ⟨401, 1, .wo, .value 0⟩
def MAT_CTRL_REJOIN : Fld := ⟨402, 1, .wo, .value 0⟩
def MAT_CTRL_RECOPY : Fld := ⟨403, 1, .wo, .value 0⟩
def MAT_STAT_STATE : Fld := ⟨404, 4, .ro, .value 1⟩
def MAT_STAT_SIDE : Fld := ⟨405, 1, .ro, .strap⟩
def MAT_STAT_ARB_IN : Fld := ⟨406, 1, .ro, .value 0⟩
def MAT_STAT_ARB_OUT : Fld := ⟨407, 1, .ro, .value 0⟩
def MAT_STAT_HB_OK : Fld := ⟨408, 1, .ro, .value 0⟩
def MAT_STAT_KEPT : Fld := ⟨409, 1, .ro, .value 0⟩
def MAT_STAT_TKV : Fld := ⟨410, 1, .ro, .value 0⟩
def MAT_STAT_NEW_ROLE : Fld := ⟨411, 2, .ro, .value 0⟩
def MAT_STAT_MLANES : Fld := ⟨412, 8, .ro, .value 0⟩
def MAT_STAT_CONFLICT : Fld := ⟨413, 1, .ro, .value 0⟩
def MAT_EVT : Fld := ⟨414, 13, .w1c, .value 0⟩
def MAT_EVT_EN : Fld := ⟨415, 13, .rw, .image 0⟩
def MAT_PEER_STATE : Fld := ⟨416, 4, .ro, .value 0⟩
def MAT_PEER_SIDE : Fld := ⟨417, 1, .ro, .value 0⟩
def MAT_PEER_HEALTHY : Fld := ⟨418, 1, .ro, .value 0⟩
def MAT_PEER_KEPT : Fld := ⟨419, 1, .ro, .value 0⟩
def MAT_PEER_VALID : Fld := ⟨420, 1, .ro, .value 0⟩
def MAT_NREADY_COPY : Fld := ⟨421, 1, .ro, .value 1⟩
def MAT_NREADY_JOURNAL : Fld := ⟨422, 1, .ro, .value 0⟩
def MAT_NREADY_LONGPATH : Fld := ⟨423, 1, .ro, .value 0⟩
def MAT_NREADY_BENTLOCK : Fld := ⟨424, 1, .ro, .value 0⟩
def MAT_NREADY_PLUMB : Fld := ⟨425, 1, .ro, .value 1⟩
def MAT_NREADY_SEED : Fld := ⟨426, 1, .ro, .value 0⟩
def MAT_NREADY_GRAIN : Fld := ⟨427, 1, .ro, .value 0⟩
def MAT_NREADY_LANES : Fld := ⟨428, 1, .ro, .value 0⟩
def MAT_COPY_EPOCH : Fld := ⟨429, 8, .ro, .value 0⟩
def MAT_COPY_SLICE : Fld := ⟨430, 7, .ro, .value 0⟩
def MAT_COPY_PHASE : Fld := ⟨431, 2, .ro, .value 0⟩
def MAT_JSENT_VALUE : Fld := ⟨432, 32, .ro, .value 0⟩
def MAT_JACK_VALUE : Fld := ⟨433, 32, .ro, .value 0⟩
def MAT_JFILL_UNITS : Fld := ⟨434, 27, .ro, .value 0⟩
def MAT_JFILL_OVERFLOW : Fld := ⟨435, 1, .ro, .value 0⟩
def MAT_WTR_REMAIN : Fld := ⟨436, 12, .ro, .value 0⟩
def MAT_VOTES_VOTERS : Fld := ⟨437, 8, .ro, .value 0⟩
def MAT_VOTES_A_ONLY : Fld := ⟨438, 8, .ro, .value 0⟩
def MAT_VOTES_B_ONLY : Fld := ⟨439, 8, .ro, .value 0⟩
def MAT_VOTES_BOTH : Fld := ⟨440, 8, .ro, .value 0⟩
def MAT_TAKE_CAUSE : Fld := ⟨441, 3, .ro, .value 0⟩
def MAT_TAKE_FROM_COPY : Fld := ⟨442, 1, .ro, .value 0⟩
def MAT_TAKE_DECIDER : Fld := ⟨443, 1, .ro, .value 0⟩
def MAT_TAKE_FRAME_VALUE : Fld := ⟨444, 32, .ro, .value 0⟩
def MAT_GAP_EDITS_UNITS : Fld := ⟨445, 27, .ro, .value 0⟩
def MAT_GAP_MISC_COMMITS : Fld := ⟨446, 16, .ro, .value 0⟩
def MAT_GAP_MISC_UNKNOWN : Fld := ⟨447, 1, .ro, .value 0⟩
def MAT_GAP_FIRST_VALUE : Fld := ⟨448, 32, .ro, .value 0⟩
def MAT_JBASE_BASE : Fld := ⟨449, 40, .ro, .value 0⟩
def IMG_RAISE_PHASE : Fld := ⟨450, 3, .ro, .value 2⟩
def IMG_RAISE_HALTED : Fld := ⟨451, 1, .ro, .value 0⟩
def IMG_RAISE_RECOVERY : Fld := ⟨452, 1, .ro, .value 0⟩
def IMG_RAISE_FAIL : Fld := ⟨453, 5, .ro, .value 0⟩
def IMG_RAISE_SLOT : Fld := ⟨454, 1, .ro, .value 0⟩
def IMG_RAISE_DETAIL_SECTION : Fld := ⟨455, 16, .ro, .value 0xffff⟩
def IMG_RAISE_DETAIL_CODE : Fld := ⟨456, 4, .ro, .value 0⟩
def IMG_RAISE_DETAIL_OFFSET : Fld := ⟨457, 12, .ro, .value 0⟩
def IMG_EVT : Fld := ⟨458, 8, .w1c, .value 0⟩
def IMG_EVT_EN : Fld := ⟨459, 8, .rw, .image 0⟩
def IMG_RAISE_CFG_P4_WAIT : Fld := ⟨460, 8, .ro, .image 0⟩
def IMG_RAISE_CFG_P5_MAX : Fld := ⟨461, 8, .ro, .image 40⟩
def IMG_RAISE_CFG_RAISE_MAX : Fld := ⟨462, 8, .ro, .image 10⟩
def IMG_RUN_SLOT : Fld := ⟨463, 1, .ro, .value 0⟩
def IMG_RUN_STAGED : Fld := ⟨464, 1, .ro, .value 0⟩
def IMG_RUN_FW_SLOT : Fld := ⟨465, 1, .ro, .value 0⟩
def IMG_RUN_FALLBACK : Fld := ⟨466, 1, .ro, .value 0⟩
def IMG_RUN_TRIAL : Fld := ⟨467, 1, .ro, .value 0⟩
def IMG_RUN_KEY_SLOT : Fld := ⟨468, 2, .ro, .value 0⟩
def IMG_RUN_ENC : Fld := ⟨469, 1, .ro, .value 0⟩
def IMG_RUN_SVN : Fld := ⟨470, 6, .ro, .value 0⟩
def IMG_RUN_VER_VERSION : Fld := ⟨471, 32, .ro, .value 0⟩
def IMG_BOOT_PREF : Fld := ⟨472, 1, .rw, .tally⟩
def IMG_BOOT_TRIAL : Fld := ⟨473, 1, .rw, .tally⟩
def IMG_CTRL_CONFIRM : Fld := ⟨474, 1, .wo, .value 0⟩
def IMG_CTRL_VERIFY : Fld := ⟨475, 1, .wo, .value 0⟩
def IMG_CTRL_PROGRAM : Fld := ⟨476, 1, .wo, .value 0⟩
def IMG_CTRL_LIVE_GO : Fld := ⟨477, 1, .wo, .value 0⟩
def IMG_CTRL_SVN_BURN : Fld := ⟨478, 1, .wo, .value 0⟩
def IMG_CTRL_RECOVER_GO : Fld := ⟨479, 1, .wo, .value 0⟩
def IMG_CTRL_ABORT : Fld := ⟨480, 1, .wo, .value 0⟩
def IMG_CTRL_SLOT : Fld := ⟨481, 1, .wo, .value 0⟩
def IMG_OP_STAT_STATE : Fld := ⟨482, 2, .ro, .value 0⟩
def IMG_OP_STAT_OP : Fld := ⟨483, 2, .ro, .value 0⟩
def IMG_OP_STAT_CODE : Fld := ⟨484, 5, .ro, .value 0⟩
def IMG_OP_STAT_PROGRESS : Fld := ⟨485, 13, .ro, .value 0⟩
def IMG_PROG_SRC_SRC : Fld := ⟨486, 40, .rw, .value 0⟩
def IMG_PROG_LEN_LEN : Fld := ⟨487, 29, .rw, .value 0⟩
def IMG_FLASH_MODE : Fld := ⟨488, 2, .ro, .value 0⟩
def IMG_FLASH_CLOCK : Fld := ⟨489, 8, .ro, .value 0⟩
def IMG_FLASH_DENSITY : Fld := ⟨490, 5, .ro, .value 0⟩
def IMG_FLASH_SFDP_OK : Fld := ⟨491, 1, .ro, .value 0⟩
def IMG_SVN_MIN_MIN : Fld := ⟨492, 6, .ro, .fuse⟩
def IMG_SLOTs_STAT_CHECKED : Fld := ⟨493, 1, .ro, .value 0⟩
def IMG_SLOTs_STAT_VALID : Fld := ⟨494, 1, .ro, .value 0⟩
def IMG_SLOTs_STAT_ENC : Fld := ⟨495, 1, .ro, .value 0⟩
def IMG_SLOTs_STAT_KEY_SLOT : Fld := ⟨496, 2, .ro, .value 0⟩
def IMG_SLOTs_STAT_SVN : Fld := ⟨497, 6, .ro, .value 0⟩
def IMG_SLOTs_STAT_CODE : Fld := ⟨498, 5, .ro, .value 0⟩
def IMG_SLOTs_VER_VERSION : Fld := ⟨499, 32, .ro, .value 0⟩
def IMG_STAGE_BASE_BASE : Fld := ⟨500, 40, .ro, .value 0⟩
def IMG_LIVE_STAT_STATE : Fld := ⟨501, 3, .ro, .value 0⟩
def IMG_LIVE_STAT_CORE : Fld := ⟨502, 3, .ro, .value 0⟩
def IMG_LIVE_STAT_CODE : Fld := ⟨503, 5, .ro, .value 0⟩
def IMG_FW_VER_VERSION : Fld := ⟨504, 32, .ro, .value 0⟩
def IMG_PHASE_TIME_TIME : Fld := ⟨505, 24, .ro, .value 0⟩
def DEV_ID_PART : Fld := ⟨506, 16, .ro, .value 0x3236⟩
def DEV_ID_REV : Fld := ⟨507, 8, .ro, .fuse⟩
def DEV_SERIAL_SERIAL : Fld := ⟨508, 64, .ro, .fuse⟩
def DEV_COMMIT_GO : Fld := ⟨509, 1, .wo, .value 0⟩
def DEV_COMMIT_DISCARD : Fld := ⟨510, 1, .wo, .value 0⟩
def DEV_COMMIT_STAT_STATE : Fld := ⟨511, 2, .ro, .value 0⟩
def DEV_COMMIT_STAT_DIRTY : Fld := ⟨512, 1, .ro, .value 0⟩
def DEV_COMMIT_SEQ_CSEQ : Fld := ⟨513, 32, .ro, .value 0⟩
def DEV_COMMIT_ERR_OFFSET : Fld := ⟨514, 16, .ro, .value 0⟩
def DEV_COMMIT_ERR_ISLAND : Fld := ⟨515, 8, .ro, .value 0⟩
def DEV_COMMIT_ERR_VALID : Fld := ⟨516, 1, .ro, .value 0⟩
def DEV_COMMIT_INST_INSTANCE : Fld := ⟨517, 17, .ro, .value 0⟩
def DEV_EVT : Fld := ⟨518, 2, .w1c, .value 0⟩
def DEV_EVT_EN : Fld := ⟨519, 2, .rw, .image 0⟩
def DEV_EVTSUM_GLOBAL : Fld := ⟨520, 14, .ro, .value 0⟩
def DEV_EVTSUM_LANES : Fld := ⟨521, 1, .ro, .value 0⟩
def DEV_EVTSUM_BENTS : Fld := ⟨522, 1, .ro, .value 0⟩
def DEV_EVTSUM_GROUPS : Fld := ⟨523, 1, .ro, .value 0⟩
def DEV_RDSEL_ACTIVE : Fld := ⟨524, 1, .rw, .value 0⟩
def MGT_OWNER_PORT : Fld := ⟨525, 3, .ro, .value 7⟩
def MGT_OWNER_PENDING : Fld := ⟨526, 1, .ro, .value 0⟩
def MGT_OWNER_SUCCESSOR : Fld := ⟨527, 3, .ro, .value 0⟩
def MGT_OWNER_LEFT : Fld := ⟨528, 12, .ro, .value 0⟩
def MGT_EVT : Fld := ⟨529, 9, .w1c, .value 0⟩
def MGT_EVT_EN : Fld := ⟨530, 9, .rw, .image 0⟩
def MGT_OWN_TOKEN_TOKEN : Fld := ⟨531, 32, .wo, .value 0⟩
def MGT_OWN_OP_OP : Fld := ⟨532, 3, .wo, .value 0⟩
def MGT_OWN_OP_SUCCESSOR : Fld := ⟨533, 3, .wo, .value 0⟩
def MGT_DROP_CNT_COUNT : Fld := ⟨534, 32, .ro, .value 0⟩
def MGT_DROP_LAST_ADDR : Fld := ⟨535, 40, .ro, .value 0⟩
def MGT_DROP_LAST_HI_PORT : Fld := ⟨536, 3, .ro, .value 0⟩
def MGT_LOG_BASE_BASE : Fld := ⟨537, 40, .ro, .value 0⟩
def MGT_LOG_IDX_NEXT : Fld := ⟨538, 20, .ro, .value 0⟩
def MGT_LOG_IDX_WRAPPED : Fld := ⟨539, 1, .ro, .value 0⟩
def MGT_INTN_CFG_MASK : Fld := ⟨540, 27, .rw, .image 0⟩
def MGT_TUN_ADDR_ADDR : Fld := ⟨541, 40, .rw, .value 0⟩
def MGT_TUN_DATA_DATA : Fld := ⟨542, 32, .rw, .value 0⟩
def MGT_TUN_CTRL_GO : Fld := ⟨543, 1, .wo, .value 0⟩
def MGT_TUN_CTRL_WRITE : Fld := ⟨544, 1, .wo, .value 0⟩
def MGT_TUN_CTRL_UNPRIV : Fld := ⟨545, 1, .wo, .value 0⟩
def MGT_TUN_STAT_STATE : Fld := ⟨546, 2, .ro, .value 0⟩
def MGT_TUN_STAT_RESULT : Fld := ⟨547, 3, .ro, .value 0⟩
def MGT_PORTp_CFG_CLASS : Fld := ⟨548, 2, .ro, .image 0⟩
def MGT_PORTp_CFG_PRIO : Fld := ⟨549, 4, .ro, .image 0⟩
def MGT_PORTp_CFG_RING_EN : Fld := ⟨550, 1, .rw, .image 0⟩
def MGT_PORTp_WIN_BASE : Fld := ⟨551, 8, .rw, .value 0⟩
def MGT_PORTp_RING_HEAD_HEAD : Fld := ⟨552, 12, .ro, .value 0⟩
def MGT_PORTp_RING_TAIL_TAIL : Fld := ⟨553, 12, .rw, .value 0⟩
def MGT_PORTp_RING_DROP_COUNT : Fld := ⟨554, 32, .ro, .value 0⟩
def MGT_PORTp_EOI_VECTOR : Fld := ⟨555, 6, .wo, .value 0⟩
def MTX_STAT_PROFILE : Fld := ⟨556, 1, .ro, .value 0⟩
def MTX_STAT_PARK : Fld := ⟨557, 4, .ro, .value 8⟩
def MTX_EVT : Fld := ⟨558, 4, .w1c, .value 0⟩
def MTX_EVT_EN : Fld := ⟨559, 4, .rw, .image 0⟩
def MTX_JMAP_CORES : Fld := ⟨560, 12, .ro, .value 0x688⟩
def MTX_ERR_ADDR : Fld := ⟨561, 40, .ro, .value 0⟩
def MTX_ERR_HI_MASTER : Fld := ⟨562, 4, .ro, .value 0⟩
def MTX_ERR_HI_TARGET : Fld := ⟨563, 4, .ro, .value 0⟩
def MTX_ERR_HI_KIND : Fld := ⟨564, 1, .ro, .value 0⟩
def MTX_ERR_HI_BEATS : Fld := ⟨565, 8, .ro, .value 0⟩
def MTX_ABORT_ADDR : Fld := ⟨566, 40, .ro, .value 0⟩
def MTX_ABORT_HI_MASTER : Fld := ⟨567, 4, .ro, .value 0⟩
def MTX_ABORT_HI_TARGET : Fld := ⟨568, 4, .ro, .value 0⟩
def MTX_ABORT_HI_KIND : Fld := ⟨569, 1, .ro, .value 0⟩
def MTX_ABORT_HI_BEATS : Fld := ⟨570, 8, .ro, .value 0⟩
def MEM_STAT_SPARE_ROWS : Fld := ⟨571, 8, .ro, .fuse⟩
def MEM_STAT_FAILED : Fld := ⟨572, 8, .ro, .value 0⟩
def MEM_EVT : Fld := ⟨573, 4, .w1c, .value 0⟩
def MEM_EVT_EN : Fld := ⟨574, 4, .rw, .image 0⟩
def MEM_CNT_COUNT : Fld := ⟨575, 48, .ro, .value 0⟩
def MEM_ECC_LAST_ADDR : Fld := ⟨576, 40, .ro, .value 0⟩
def MEM_ECC_LAST_HI_MASTER : Fld := ⟨577, 4, .ro, .value 0⟩
def MEM_LOCK_HOLDERS : Fld := ⟨578, 32, .ro, .value 0⟩
def SND_CFG_EN : Fld := ⟨579, 1, .st, .image 0⟩
def SND_STAT_REGION : Fld := ⟨580, 16, .ro, .value 0⟩
def SND_STAT_NOSISTER : Fld := ⟨581, 7, .ro, .value 0⟩
def SND_STAT_ACTIVE : Fld := ⟨582, 1, .ro, .value 0⟩
def SND_EVT : Fld := ⟨583, 3, .w1c, .value 0⟩
def SND_EVT_EN : Fld := ⟨584, 3, .rw, .image 0⟩
def SND_PASS_PASSES : Fld := ⟨585, 16, .ro, .value 0⟩
def SND_PASS_MINUTES : Fld := ⟨586, 16, .ro, .value 0⟩
def SND_FAIL_LAST_INDEX : Fld := ⟨587, 16, .ro, .value 0⟩
def SND_FAIL_LAST_KIND : Fld := ⟨588, 1, .ro, .value 0⟩
def SND_FAIL_LAST_REPAIRED : Fld := ⟨589, 1, .ro, .value 0⟩
def SND_FAIL_LAST_VALID : Fld := ⟨590, 1, .ro, .value 0⟩
def SND_EXEMPT_CNT_COUNT : Fld := ⟨591, 16, .ro, .value 0⟩
def SND_EXEMPT_FIRST : Fld := ⟨592, 16, .st, .image 0⟩
def SND_EXEMPT_COUNT : Fld := ⟨593, 16, .st, .image 0⟩
def DDR_CFG_LP_GB : Fld := ⟨594, 7, .ro, .image 0⟩
def DDR_CFG_SCN_256M : Fld := ⟨595, 5, .ro, .image 0⟩
def DDR_CFG_HIST_16M : Fld := ⟨596, 8, .ro, .image 0⟩
def DDR_CFG_RETRAIN_CORR : Fld := ⟨597, 12, .rw, .image 0⟩
def DDR_STAT_INSTALLED : Fld := ⟨598, 8, .ro, .value 0⟩
def DDR_STAT_USABLE : Fld := ⟨599, 8, .ro, .value 0⟩
def DDR_STAT_ONLINE : Fld := ⟨600, 8, .ro, .value 0⟩
def DDR_STAT_CONFIG : Fld := ⟨601, 4, .ro, .value 0⟩
def DDR_EVT : Fld := ⟨602, 4, .w1c, .value 0⟩
def DDR_EVT_EN : Fld := ⟨603, 4, .rw, .image 0⟩
def DDR_CNT_COUNT : Fld := ⟨604, 48, .ro, .value 0⟩
def DDR_CHn_CTRL_RETRAIN : Fld := ⟨605, 1, .wo, .value 0⟩
def DDR_CHn_STAT_STATE : Fld := ⟨606, 2, .ro, .value 0⟩
def DDR_CHn_STAT_TEMP : Fld := ⟨607, 8, .ro, .value 0⟩
def DDR_CHn_STAT_TRAINS : Fld := ⟨608, 22, .ro, .value 0⟩
def DDR_CHn_CORR_COUNT : Fld := ⟨609, 32, .ro, .value 0⟩
def DDR_RGNk_BASE_BASE : Fld := ⟨610, 20, .ro, .value 0⟩
def DDR_RGNk_SIZE_MB : Fld := ⟨611, 18, .ro, .value 0⟩
def CNT_CFG_PERIOD : Fld := ⟨612, 24, .st, .image 0⟩
def CNT_CFG_CLR_ON_SNAP : Fld := ⟨613, 1, .st, .image 0⟩
def CNT_CFG_ARCH_EN : Fld := ⟨614, 1, .st, .image 0⟩
def CNT_SNAP_GO : Fld := ⟨615, 1, .wo, .value 0⟩
def CNT_STAT_SNAP_PENDING : Fld := ⟨616, 1, .ro, .value 0⟩
def CNT_STAT_CLR_PENDING : Fld := ⟨617, 1, .ro, .value 0⟩
def CNT_STAT_SNAPS : Fld := ⟨618, 16, .ro, .value 0⟩
def CNT_EVT : Fld := ⟨619, 4, .w1c, .value 0⟩
def CNT_EVT_EN : Fld := ⟨620, 4, .rw, .image 0⟩
def CNT_CLR_FIRST_FIRST : Fld := ⟨621, 19, .rw, .value 0⟩
def CNT_CLR_CTRL_COUNT : Fld := ⟨622, 19, .wo, .value 0⟩
def CNT_CLR_CTRL_KIND : Fld := ⟨623, 2, .wo, .value 0⟩
def CNT_CLR_CTRL_GO : Fld := ⟨624, 1, .wo, .value 0⟩
def CNT_ARCH_IDX_NEXT : Fld := ⟨625, 16, .ro, .value 0⟩
def CNT_ARCH_IDX_WRAPPED : Fld := ⟨626, 1, .ro, .value 0⟩
def PEG_CFG_RATE : Fld := ⟨627, 7, .st, .image 0⟩
def PEG_CFG_SCOPE : Fld := ⟨628, 3, .st, .image 0⟩
def PEG_CFG_INDEX : Fld := ⟨629, 16, .st, .image 0⟩
def PEG_CFG_DMA_EN : Fld := ⟨630, 1, .st, .image 0⟩
def PEG_SEED_SEED : Fld := ⟨631, 25, .st, .image 0⟩
def PEG_STAT_INFLIGHT : Fld := ⟨632, 11, .ro, .value 0⟩
def PEG_STAT_QUEUED : Fld := ⟨633, 11, .ro, .value 0⟩
def PEG_EVT : Fld := ⟨634, 3, .w1c, .value 0⟩
def PEG_EVT_EN : Fld := ⟨635, 3, .rw, .image 0⟩
def PEG_CTRL_POP : Fld := ⟨636, 1, .wo, .value 0⟩
def PEG_DROP_COUNT : Fld := ⟨637, 32, .ro, .value 0⟩
def PEG_DMA_BASE_BASE : Fld := ⟨638, 40, .rw, .image 0⟩
def PEG_DMA_IDX_HEAD : Fld := ⟨639, 12, .ro, .value 0⟩
def PEG_DMA_IDX_TAIL : Fld := ⟨640, 12, .rw, .value 0⟩
def PEG_REC_WORD : Fld := ⟨641, 32, .ro, .value 0⟩
def PEG_HISTh_CFG_QTY : Fld := ⟨642, 3, .st, .image 0⟩
def PEG_HISTh_CFG_FILTER : Fld := ⟨643, 3, .st, .image 0⟩
def PEG_HISTh_CFG_INDEX : Fld := ⟨644, 16, .st, .image 0⟩
def PEG_HISTh_CFG_EN : Fld := ⟨645, 1, .st, .image 0⟩
def PEG_HISTh_BASE_BASE : Fld := ⟨646, 32, .st, .image 0⟩
def PEG_HISTh_WIDTH_WIDTH : Fld := ⟨647, 16, .st, .image 0⟩
def PEG_HISTh_STAT_SINCE : Fld := ⟨648, 32, .ro, .value 0⟩
def CNT_Bc_CFG_SRC : Fld := ⟨649, 5, .st, .image 0⟩
def CNT_Bc_CFG_CHAIN : Fld := ⟨650, 1, .st, .image 0⟩
def CNT_Bc_CFG_ALL : Fld := ⟨651, 1, .st, .image 0⟩
def CNT_Bc_CFG_SCOPE : Fld := ⟨652, 17, .st, .image 0⟩
def CNT_Bc_COUNT : Fld := ⟨653, 48, .rw, .value 0⟩
def CNT_Bc_SN_COUNT : Fld := ⟨654, 48, .sn, .value 0⟩
def PEG_HBIN_COUNT : Fld := ⟨655, 48, .ro, .value 0⟩
def PEG_HBIN_SN_COUNT : Fld := ⟨656, 48, .sn, .value 0⟩
def TLY_STAT_SIST_BUSY : Fld := ⟨657, 1, .ro, .value 0⟩
def TLY_STAT_REKEY : Fld := ⟨658, 1, .ro, .value 0⟩
def TLY_STAT_LOCKED : Fld := ⟨659, 1, .ro, .value 0⟩
def TLY_STAT_HALTED : Fld := ⟨660, 1, .ro, .value 0⟩
def TLY_EVT : Fld := ⟨661, 10, .w1c, .value 0⟩
def TLY_EVT_EN : Fld := ⟨662, 10, .rw, .image 0⟩
def TLY_SIST_CFG_AUTO : Fld := ⟨663, 4, .rw, .image 0⟩
def TLY_SIST_CFG_MARGIN_MIN : Fld := ⟨664, 7, .rw, .image 0⟩
def TLY_SIST_CFG_RO_MAX : Fld := ⟨665, 8, .rw, .image 0⟩
def TLY_SPARES_LANES : Fld := ⟨666, 5, .ro, .fuse⟩
def TLY_SPARES_LAM : Fld := ⟨667, 1, .ro, .fuse⟩
def TLY_SPARES_SISTERS : Fld := ⟨668, 7, .ro, .fuse⟩
def TLY_SPARES_FEC : Fld := ⟨669, 4, .ro, .fuse⟩
def TLY_SPARES_JOINER : Fld := ⟨670, 1, .ro, .fuse⟩
def TLY_SPARES_SCRIBE : Fld := ⟨671, 3, .ro, .fuse⟩
def TLY_SPARES_DPLL : Fld := ⟨672, 1, .ro, .fuse⟩
def TLY_WIN_SEL_PAGE : Fld := ⟨673, 4, .rw, .value 0⟩
def TLY_LOG_IDX_NEXT : Fld := ⟨674, 14, .ro, .tally⟩
def TLY_LOG_IDX_WRAPPED : Fld := ⟨675, 1, .ro, .tally⟩
def TLY_TAMP_CFG_IN_EN : Fld := ⟨676, 4, .ro, .image 0⟩
def TLY_TAMP_CFG_POLICY : Fld := ⟨677, 2, .ro, .image 0⟩
def TLY_TAMP_STAT_IN : Fld := ⟨678, 4, .ro, .value 0⟩
def TLY_TAMP_STAT_MON : Fld := ⟨679, 3, .ro, .value 0⟩
def TLY_TAMP_STAT_LAST : Fld := ⟨680, 7, .ro, .value 0⟩
def TLY_TAMP_STAT_COUNT : Fld := ⟨681, 16, .ro, .value 0⟩
def TLY_LC_STAT_STATE : Fld := ⟨682, 3, .ro, .fuse⟩
def TLY_LC_STAT_PENDING : Fld := ⟨683, 1, .ro, .value 0⟩
def TLY_LC_STAT_REVOKED : Fld := ⟨684, 4, .ro, .fuse⟩
def TLY_LC_STAT_SERVICES : Fld := ⟨685, 8, .ro, .tally⟩
def TLY_LC_CTRL_GO : Fld := ⟨686, 1, .wo, .value 0⟩
def TLY_LC_NONCE_NONCE : Fld := ⟨687, 32, .ro, .random⟩
def TLY_LC_AUTH_OFFSET : Fld := ⟨688, 16, .rw, .value 0⟩
def TLY_LC_RESULT_CODE : Fld := ⟨689, 4, .ro, .tally⟩
def TLY_REKEY_LONGPATH : Fld := ⟨690, 1, .ro, .value 0⟩
def TLY_REKEY_MAP : Fld := ⟨691, 1, .ro, .value 0⟩
def TLY_REKEY_SCENES : Fld := ⟨692, 1, .ro, .value 0⟩
def TLY_REKEY_WIPES : Fld := ⟨693, 16, .ro, .value 0⟩

def LN_FIT_EVT_SERVICE_ENTER : Ev := ⟨LN_FIT_EVT, LN_FIT_EVT_EN, 0⟩
def LN_FIT_EVT_SERVICE_LEAVE : Ev := ⟨LN_FIT_EVT, LN_FIT_EVT_EN, 1⟩
def LN_FIT_EVT_ATTEMPT_FAIL : Ev := ⟨LN_FIT_EVT, LN_FIT_EVT_EN, 2⟩
def LN_FIT_EVT_ADAPT_REVERT : Ev := ⟨LN_FIT_EVT, LN_FIT_EVT_EN, 3⟩
def LN_FIT_EVT_ADAPT_FROZEN : Ev := ⟨LN_FIT_EVT, LN_FIT_EVT_EN, 4⟩
def LN_FIT_EVT_TXLOOP_FALLBACK : Ev := ⟨LN_FIT_EVT, LN_FIT_EVT_EN, 5⟩
def LN_FIT_EVT_SPARE_READY : Ev := ⟨LN_FIT_EVT, LN_FIT_EVT_EN, 6⟩
def LN_FIT_EVT_SPARE_SELECTED : Ev := ⟨LN_FIT_EVT, LN_FIT_EVT_EN, 7⟩
def LN_FIT_EVT_MSG_FAIL : Ev := ⟨LN_FIT_EVT, LN_FIT_EVT_EN, 8⟩
def LN_DEF_EVT_DEF_CLEAR : Ev := ⟨LN_DEF_EVT, LN_DEF_EVT_EN, 0⟩
def LN_DEF_EVT_DEF_ENTRY : Ev := ⟨LN_DEF_EVT, LN_DEF_EVT_EN, 4⟩
def LN_DEF_EVT_SLIP : Ev := ⟨LN_DEF_EVT, LN_DEF_EVT_EN, 14⟩
def LN_DEF_EVT_SYNC_SLIP : Ev := ⟨LN_DEF_EVT, LN_DEF_EVT_EN, 15⟩
def LN_DEF_EVT_TEST_MISMATCH : Ev := ⟨LN_DEF_EVT, LN_DEF_EVT_EN, 16⟩
def LN_DEF_EVT_FN_JUMP : Ev := ⟨LN_DEF_EVT, LN_DEF_EVT_EN, 17⟩
def LN_DEF_EVT_SSM_CHANGE : Ev := ⟨LN_DEF_EVT, LN_DEF_EVT_EN, 18⟩
def LN_DEF_EVT_TKW_NEW : Ev := ⟨LN_DEF_EVT, LN_DEF_EVT_EN, 19⟩
def LN_DEF_EVT_MCH_RX : Ev := ⟨LN_DEF_EVT, LN_DEF_EVT_EN, 20⟩
def LN_DEF_EVT_MCH_DROP : Ev := ⟨LN_DEF_EVT, LN_DEF_EVT_EN, 21⟩
def LN_DEF_EVT_MCH_ERR : Ev := ⟨LN_DEF_EVT, LN_DEF_EVT_EN, 22⟩
def BNT_EVT_MEMBER_LOCK : Ev := ⟨BNT_EVT, BNT_EVT_EN, 0⟩
def BNT_EVT_LOCK_LATE : Ev := ⟨BNT_EVT, BNT_EVT_EN, 1⟩
def BNT_EVT_MISMATCH : Ev := ⟨BNT_EVT, BNT_EVT_EN, 2⟩
def BNT_EVT_STEP_ABSORBED : Ev := ⟨BNT_EVT, BNT_EVT_EN, 3⟩
def BNT_EVT_REALIGN : Ev := ⟨BNT_EVT, BNT_EVT_EN, 4⟩
def BNT_EVT_GROW_DONE : Ev := ⟨BNT_EVT, BNT_EVT_EN, 5⟩
def BNT_EVT_GROW_FAIL : Ev := ⟨BNT_EVT, BNT_EVT_EN, 6⟩
def BNT_EVT_ABSORB_FAIL : Ev := ⟨BNT_EVT, BNT_EVT_EN, 7⟩
def BNT_EVT_RETURN : Ev := ⟨BNT_EVT, BNT_EVT_EN, 8⟩
def BNT_EVT_RETIME_DONE : Ev := ⟨BNT_EVT, BNT_EVT_EN, 9⟩
def BNT_EVT_MEMBER_LEAVE : Ev := ⟨BNT_EVT, BNT_EVT_EN, 10⟩
def FAB_EVT_LAM_MISMATCH : Ev := ⟨FAB_EVT, FAB_EVT_EN, 0⟩
def FAB_EVT_KERF_FAIL : Ev := ⟨FAB_EVT, FAB_EVT_EN, 1⟩
def FAB_EVT_LAM_SUB : Ev := ⟨FAB_EVT, FAB_EVT_EN, 2⟩
def FAB_EVT_TRUSS_CONFLICT : Ev := ⟨FAB_EVT, FAB_EVT_EN, 3⟩
def FAB_EVT_LP_LATE : Ev := ⟨FAB_EVT, FAB_EVT_EN, 4⟩
def FAB_EVT_IN_OVER : Ev := ⟨FAB_EVT, FAB_EVT_EN, 5⟩
def FAB_EVT_PLATE_CODE : Ev := ⟨FAB_EVT, FAB_EVT_EN, 6⟩
def SCB_EVT_ENGINE_SUB : Ev := ⟨SCB_EVT, SCB_EVT_EN, 0⟩
def SCB_EVT_REPL_DONE : Ev := ⟨SCB_EVT, SCB_EVT_EN, 1⟩
def CUT_EVT_ARMED : Ev := ⟨CUT_EVT, CUT_EVT_EN, 0⟩
def CUT_EVT_DONE : Ev := ⟨CUT_EVT, CUT_EVT_EN, 2⟩
def CUT_EVT_FAIL : Ev := ⟨CUT_EVT, CUT_EVT_EN, 4⟩
def CUT_EVT_SCN_DONE : Ev := ⟨CUT_EVT, CUT_EVT_EN, 6⟩
def CUT_EVT_SCN_FAIL : Ev := ⟨CUT_EVT, CUT_EVT_EN, 7⟩
def CUT_EVT_SCN_DROP : Ev := ⟨CUT_EVT, CUT_EVT_EN, 8⟩
def CUT_EVT_STAGE_BUSY : Ev := ⟨CUT_EVT, CUT_EVT_EN, 9⟩
def CUT_EVT_CMD_REFUSED : Ev := ⟨CUT_EVT, CUT_EVT_EN, 10⟩
def CUT_EVT_STALE : Ev := ⟨CUT_EVT, CUT_EVT_EN, 11⟩
def GRN_EVT_GRN_FAULT : Ev := ⟨GRN_EVT, GRN_EVT_EN, 0⟩
def GRN_EVT_GRN_CLEAR : Ev := ⟨GRN_EVT, GRN_EVT_EN, 1⟩
def SCF_EVT_DEG_ANY : Ev := ⟨SCF_EVT, SCF_EVT_EN, 0⟩
def SCF_EVT_NEITHER_ANY : Ev := ⟨SCF_EVT, SCF_EVT_EN, 1⟩
def SCF_EVT_DIFF_ANY : Ev := ⟨SCF_EVT, SCF_EVT_EN, 2⟩
def SCF_GEVT_PREF_CHANGE : Ev := ⟨SCF_GEVT, SCF_GEVT_EN, 0⟩
def SCF_GEVT_W_DEG_SET : Ev := ⟨SCF_GEVT, SCF_GEVT_EN, 1⟩
def SCF_GEVT_W_DEG_CLR : Ev := ⟨SCF_GEVT, SCF_GEVT_EN, 2⟩
def SCF_GEVT_P_DEG_SET : Ev := ⟨SCF_GEVT, SCF_GEVT_EN, 3⟩
def SCF_GEVT_P_DEG_CLR : Ev := ⟨SCF_GEVT, SCF_GEVT_EN, 4⟩
def SCF_GEVT_WTR_DONE : Ev := ⟨SCF_GEVT, SCF_GEVT_EN, 5⟩
def SCF_GEVT_NEITHER : Ev := ⟨SCF_GEVT, SCF_GEVT_EN, 6⟩
def SCF_GEVT_DIFF : Ev := ⟨SCF_GEVT, SCF_GEVT_EN, 7⟩
def SCF_GEVT_GRN_FAULT : Ev := ⟨SCF_GEVT, SCF_GEVT_EN, 8⟩
def PLB_EVT_STATE_CHANGE : Ev := ⟨PLB_EVT, PLB_EVT_EN, 0⟩
def PLB_EVT_SEL_CHANGE : Ev := ⟨PLB_EVT, PLB_EVT_EN, 1⟩
def PLB_EVT_RETARGET : Ev := ⟨PLB_EVT, PLB_EVT_EN, 2⟩
def PLB_EVT_DPLL_SWAP : Ev := ⟨PLB_EVT, PLB_EVT_EN, 3⟩
def PLB_EVT_SHADOW_FAIL : Ev := ⟨PLB_EVT, PLB_EVT_EN, 4⟩
def PLB_EVT_DPLL_MISMATCH : Ev := ⟨PLB_EVT, PLB_EVT_EN, 5⟩
def PLB_EVT_ROLLBACK : Ev := ⟨PLB_EVT, PLB_EVT_EN, 6⟩
def PLB_EVT_HOLD_EXPIRED : Ev := ⟨PLB_EVT, PLB_EVT_EN, 7⟩
def PLB_EVT_CMD_DROPPED : Ev := ⟨PLB_EVT, PLB_EVT_EN, 8⟩
def PLB_EVT_OUT_QL_CHANGE : Ev := ⟨PLB_EVT, PLB_EVT_EN, 9⟩
def PLB_REFi_EVT_DISQUAL : Ev := ⟨PLB_REFi_EVT, PLB_REFi_EVT_EN, 0⟩
def PLB_REFi_EVT_QUALIFY : Ev := ⟨PLB_REFi_EVT, PLB_REFi_EVT_EN, 1⟩
def PLB_REFi_EVT_ACT_LOSS : Ev := ⟨PLB_REFi_EVT, PLB_REFi_EVT_EN, 2⟩
def PLB_REFi_EVT_FREQ_RANGE : Ev := ⟨PLB_REFi_EVT, PLB_REFi_EVT_EN, 3⟩
def PLB_REFi_EVT_PHASE_JUMP : Ev := ⟨PLB_REFi_EVT, PLB_REFi_EVT_EN, 4⟩
def PLB_REFi_EVT_DRIFT_SOFT : Ev := ⟨PLB_REFi_EVT, PLB_REFi_EVT_EN, 5⟩
def PLB_REFi_EVT_DRIFT_HARD : Ev := ⟨PLB_REFi_EVT, PLB_REFi_EVT_EN, 6⟩
def PLB_REFi_EVT_QL_CHANGE : Ev := ⟨PLB_REFi_EVT, PLB_REFi_EVT_EN, 7⟩
def MAT_EVT_STATE_CHANGE : Ev := ⟨MAT_EVT, MAT_EVT_EN, 0⟩
def MAT_EVT_TAKEOVER : Ev := ⟨MAT_EVT, MAT_EVT_EN, 1⟩
def MAT_EVT_HANDOVER : Ev := ⟨MAT_EVT, MAT_EVT_EN, 2⟩
def MAT_EVT_TAKE_FAIL : Ev := ⟨MAT_EVT, MAT_EVT_EN, 3⟩
def MAT_EVT_VETO : Ev := ⟨MAT_EVT, MAT_EVT_EN, 4⟩
def MAT_EVT_ARB_FAULT : Ev := ⟨MAT_EVT, MAT_EVT_EN, 5⟩
def MAT_EVT_DUAL_ACTIVE : Ev := ⟨MAT_EVT, MAT_EVT_EN, 6⟩
def MAT_EVT_SEED_MISMATCH : Ev := ⟨MAT_EVT, MAT_EVT_EN, 7⟩
def MAT_EVT_EPOCH_DONE : Ev := ⟨MAT_EVT, MAT_EVT_EN, 8⟩
def MAT_EVT_JOVERFLOW : Ev := ⟨MAT_EVT, MAT_EVT_EN, 9⟩
def MAT_EVT_COMMIT_LATE : Ev := ⟨MAT_EVT, MAT_EVT_EN, 10⟩
def MAT_EVT_MIRROR_WRITE : Ev := ⟨MAT_EVT, MAT_EVT_EN, 11⟩
def MAT_EVT_SIDE_CONFLICT : Ev := ⟨MAT_EVT, MAT_EVT_EN, 12⟩
def IMG_EVT_FALLBACK : Ev := ⟨IMG_EVT, IMG_EVT_EN, 0⟩
def IMG_EVT_TRIAL_START : Ev := ⟨IMG_EVT, IMG_EVT_EN, 1⟩
def IMG_EVT_CONFIRMED : Ev := ⟨IMG_EVT, IMG_EVT_EN, 2⟩
def IMG_EVT_OP_DONE : Ev := ⟨IMG_EVT, IMG_EVT_EN, 3⟩
def IMG_EVT_OP_FAIL : Ev := ⟨IMG_EVT, IMG_EVT_EN, 4⟩
def IMG_EVT_LIVE_DONE : Ev := ⟨IMG_EVT, IMG_EVT_EN, 5⟩
def IMG_EVT_LIVE_FAIL : Ev := ⟨IMG_EVT, IMG_EVT_EN, 6⟩
def IMG_EVT_RAISE_RETRY : Ev := ⟨IMG_EVT, IMG_EVT_EN, 7⟩
def DEV_EVT_COMMIT_DONE : Ev := ⟨DEV_EVT, DEV_EVT_EN, 0⟩
def DEV_EVT_COMMIT_ERR : Ev := ⟨DEV_EVT, DEV_EVT_EN, 1⟩
def MGT_EVT_OWNER_CHANGE : Ev := ⟨MGT_EVT, MGT_EVT_EN, 0⟩
def MGT_EVT_CLAIM_REFUSED : Ev := ⟨MGT_EVT, MGT_EVT_EN, 1⟩
def MGT_EVT_BAD_OP : Ev := ⟨MGT_EVT, MGT_EVT_EN, 2⟩
def MGT_EVT_LEASE_EXPIRED : Ev := ⟨MGT_EVT, MGT_EVT_EN, 3⟩
def MGT_EVT_HANDOVER_FAIL : Ev := ⟨MGT_EVT, MGT_EVT_EN, 4⟩
def MGT_EVT_NONOWNER_WRITE : Ev := ⟨MGT_EVT, MGT_EVT_EN, 5⟩
def MGT_EVT_RING_OVF : Ev := ⟨MGT_EVT, MGT_EVT_EN, 6⟩
def MGT_EVT_TUN_DONE : Ev := ⟨MGT_EVT, MGT_EVT_EN, 7⟩
def MGT_EVT_TUN_FAIL : Ev := ⟨MGT_EVT, MGT_EVT_EN, 8⟩
def MTX_EVT_DEFAULT_HIT : Ev := ⟨MTX_EVT, MTX_EVT_EN, 0⟩
def MTX_EVT_TIMEOUT : Ev := ⟨MTX_EVT, MTX_EVT_EN, 1⟩
def MTX_EVT_RESET_ABORT : Ev := ⟨MTX_EVT, MTX_EVT_EN, 2⟩
def MTX_EVT_JMAP_CHANGE : Ev := ⟨MTX_EVT, MTX_EVT_EN, 3⟩
def MEM_EVT_MEM_CORR : Ev := ⟨MEM_EVT, MEM_EVT_EN, 0⟩
def MEM_EVT_MEM_UNCORR : Ev := ⟨MEM_EVT, MEM_EVT_EN, 1⟩
def MEM_EVT_LOCK_VIOLATION : Ev := ⟨MEM_EVT, MEM_EVT_EN, 2⟩
def MEM_EVT_LOCK_BREAK : Ev := ⟨MEM_EVT, MEM_EVT_EN, 3⟩
def SND_EVT_SND_FAIL : Ev := ⟨SND_EVT, SND_EVT_EN, 0⟩
def SND_EVT_SND_STARVED : Ev := ⟨SND_EVT, SND_EVT_EN, 1⟩
def SND_EVT_PASS_DONE : Ev := ⟨SND_EVT, SND_EVT_EN, 2⟩
def DDR_EVT_DDR_LOSS : Ev := ⟨DDR_EVT, DDR_EVT_EN, 0⟩
def DDR_EVT_RETRAINED : Ev := ⟨DDR_EVT, DDR_EVT_EN, 1⟩
def DDR_EVT_RETRAIN_REFUSED : Ev := ⟨DDR_EVT, DDR_EVT_EN, 2⟩
def DDR_EVT_DDR_DOWN : Ev := ⟨DDR_EVT, DDR_EVT_EN, 3⟩
def CNT_EVT_SNAP_DONE : Ev := ⟨CNT_EVT, CNT_EVT_EN, 0⟩
def CNT_EVT_CLR_DONE : Ev := ⟨CNT_EVT, CNT_EVT_EN, 1⟩
def CNT_EVT_CLR_REFUSED : Ev := ⟨CNT_EVT, CNT_EVT_EN, 2⟩
def CNT_EVT_BANK_WRAP : Ev := ⟨CNT_EVT, CNT_EVT_EN, 3⟩
def PEG_EVT_PEG_READY : Ev := ⟨PEG_EVT, PEG_EVT_EN, 0⟩
def PEG_EVT_PEG_DROP : Ev := ⟨PEG_EVT, PEG_EVT_EN, 1⟩
def PEG_EVT_PEG_SKIP : Ev := ⟨PEG_EVT, PEG_EVT_EN, 2⟩
def TLY_EVT_SUBST_DONE : Ev := ⟨TLY_EVT, TLY_EVT_EN, 0⟩
def TLY_EVT_SUBST_NEED : Ev := ⟨TLY_EVT, TLY_EVT_EN, 1⟩
def TLY_EVT_SPARE_EXHAUSTED : Ev := ⟨TLY_EVT, TLY_EVT_EN, 2⟩
def TLY_EVT_AGE_WARN : Ev := ⟨TLY_EVT, TLY_EVT_EN, 3⟩
def TLY_EVT_TAMPER : Ev := ⟨TLY_EVT, TLY_EVT_EN, 4⟩
def TLY_EVT_LC_DONE : Ev := ⟨TLY_EVT, TLY_EVT_EN, 5⟩
def TLY_EVT_LC_REFUSED : Ev := ⟨TLY_EVT, TLY_EVT_EN, 6⟩
def TLY_EVT_REKEY_DONE : Ev := ⟨TLY_EVT, TLY_EVT_EN, 7⟩
def TLY_EVT_LOG_SUPPRESS : Ev := ⟨TLY_EVT, TLY_EVT_EN, 8⟩
def TLY_EVT_DPLL_UNRESOLVED : Ev := ⟨TLY_EVT, TLY_EVT_EN, 9⟩

end Sys2Proof.Machine.R
end

