-- ==== Sys2Proof/Machine/Tab.lean ====
section
/-! DEFINITION. Finite tables: plain data that hold what differs from a default, by number. -/

namespace Sys2Proof

/-- A table of values by number. A number that is not listed has the default its reader names. -/
structure Tab (α : Type) where
  entries : List (Nat × α) := []
deriving DecidableEq, Repr

/-- The value listed first for `k`. -/
def Tab.look {α : Type} (l : List (Nat × α)) (k : Nat) : Option α :=
  match l with
  | [] => none
  | (k', v) :: t => if k = k' then some v else Tab.look t k

/-- Lists `v` for `k`, in the place of what was listed, or before the first greater number. -/
def Tab.place {α : Type} (l : List (Nat × α)) (k : Nat) (v : α) : List (Nat × α) :=
  match l with
  | [] => [(k, v)]
  | (k', v') :: t =>
    if k = k' then (k, v) :: t
    else if k < k' then (k, v) :: (k', v') :: t
    else (k', v') :: Tab.place t k v

/-- Unlists every entry for `k`. -/
def Tab.unlist {α : Type} (l : List (Nat × α)) (k : Nat) : List (Nat × α) :=
  l.filter (fun e => e.1 != k)

/-- The value for `k`, if one is listed. -/
def Tab.find {α : Type} (t : Tab α) (k : Nat) : Option α := Tab.look t.entries k

/-- The value for `k`; `d` where none is listed. -/
def Tab.get {α : Type} (t : Tab α) (k : Nat) (d : α) : α := (t.find k).getD d

/-- The table with `v` for `k`. -/
def Tab.put {α : Type} (t : Tab α) (k : Nat) (v : α) : Tab α := ⟨Tab.place t.entries k v⟩

/-- The table with nothing listed for `k`. -/
def Tab.del {α : Type} (t : Tab α) (k : Nat) : Tab α := ⟨Tab.unlist t.entries k⟩

/-- The table with `v` for `k`, where readers take `d` for what is not listed: `d` itself is not listed. -/
def Tab.store {α : Type} [DecidableEq α] (t : Tab α) (k : Nat) (d v : α) : Tab α :=
  if v = d then t.del k else t.put k v

/-- The table with the value for `k` changed by `f`. -/
def Tab.modify {α : Type} (t : Tab α) (k : Nat) (d : α) (f : α → α) : Tab α := t.put k (f (t.get k d))

/-- The numbers listed. -/
def Tab.keys {α : Type} (t : Tab α) : List Nat := t.entries.map (·.1)

/-- The values listed. -/
def Tab.vals {α : Type} (t : Tab α) : List α := t.entries.map (·.2)

/-- The table of the entries that satisfy `p`. -/
def Tab.keep {α : Type} (t : Tab α) (p : Nat → α → Bool) : Tab α := ⟨t.entries.filter (fun e => p e.1 e.2)⟩

/-- The table with every listed value changed by `f`. -/
def Tab.mapVals {α β : Type} (t : Tab α) (f : Nat → α → β) : Tab β := ⟨t.entries.map (fun e => (e.1, f e.1 e.2))⟩

/-- A table's canonical order: numbers strictly rising. -/
def Tab.wf {α : Type} (t : Tab α) : Bool := (t.entries.map (·.1)).Pairwise (· < ·)

end Sys2Proof
end

