-- ==== Sys2Proof/Machine/State.lean ====
section
/-! DEFINITION. The state of the machine: plain data that hold every register, memory, queue, counter, mode and ball the manual
gives the NF3236, what it implies of the work in progress, and the queue of commands waiting. Values are those of reset:
a table that lists nothing reads as each entry's own default.
Readings and choices: DEDUCED (log entry 19), PRESUMED (log entry 59). -/

namespace Sys2Proof

/-- An image as the loader holds it (R345 to R357): the bytes as stored, whether the fetch completed in time, the fused image key under which
its content key is wrapped, and whether a wipe has taken part of it meanwhile (R484). -/
structure SlotImage where
  bytes : List (BitVec 8) := []
  fetched : Bool := false
  key : Nat := 0
  lost : Bool := false
deriving DecidableEq, Repr

namespace Machine

/-- Why the machine stops with a fault. The NF3236's manual stops the part for no command, so no meaning raises one:
every fault condition of the manual is a latched event, a status or an error response, and the machine goes on. -/
inductive Fault where
  /-- Raised by no meaning. It stands for an access to storage that the model itself could not answer (safe: a stop). -/
  | noSuchStorage
deriving DecidableEq, Repr

/-- Why a command has no meaning. -/
inductive Refusal where
  /-- The command's meaning is not written yet: raised by an arm of `exec` only (safe: the run ends). -/
  | notModelled (mnemonic : String)
deriving DecidableEq, Repr

/-- A record of the event rings and of the event log (R396, R397). -/
structure EvRec where
  frame : Nat
  cycle : Nat
  bit : Nat
  island : Nat
  inst : Nat
  data : Nat
deriving DecidableEq, Repr

/-- How the last access of a port or internal master ended (R379, R406), with the words it read. The model's own field: the
manual's port carries this back to the host. -/
inductive Status where
  | ok | error | notReady | dropped | format | timeout | none
deriving DecidableEq, Repr

/-- The answer to the last access. -/
structure Resp where
  status : Status := .none
  words : List Nat := []
deriving DecidableEq, Repr

/-- A fitting message (R73, R74): its TYPE, its MSEQ and its payload words. -/
structure FitMsg where
  typ : Nat
  seq : Nat
  payload : List Nat
deriving DecidableEq, Repr

/-- A candidate alignment under verification (R111, R112): its position in received symbols, how many rows it has, and
whether all four codewords of its last row were correctable. -/
structure Cand where
  pos : Nat
  rows : Nat
  cwOk : Bool
deriving DecidableEq, Repr

/-- What a lane's receiver has gathered of the frame in progress (R94, R97, R109): accepted copies of each overhead word, counts,
and the two peer phase words. -/
structure FrameAcc where
  lid : List Nat := []
  stw : List Nat := []
  tkw : List Nat := []
  vtw : List Nat := []
  bew : List Nat := []
  fn : Option Nat := none
  corr : Nat := 0
  unc : Nat := 0
  t0 : Option Nat := none
  t1 : Option Nat := none
deriving DecidableEq, Repr

/-- What lane transmit sends in one transmit frame (R86, R95, R100, R103 to R108): the slot words that differ from the idle word
of the frame, and the overhead. `blocks` names the mate lane whose other slot columns carry blocks of the mate channel (R307).
In a frame of training or discovery rows `training` holds TRQ and TST as the rows from now on carry them (R67). The symbols are
inverted where `txInv` says so, and from row `invRow` on the other way (R48). -/
structure TxFrame where
  sent : Bool := false
  traffic : Bool := false
  frame : Nat := 0
  lais : Bool := false
  lrdi : Bool := false
  idle : Nat := 0
  blocks : Option Nat := none
  data : List (List Nat) := []
  slots : Tab Nat := {}
  lid : Nat := 0
  stw : Nat := 0
  tkw : Nat := 0
  vtw : Nat := 0
  bew : Nat := 0
  fcw : List Nat := []
  mch : List Nat := []
  phi : Nat := 0
  psi : Nat := 0
  training : List Nat := []
  txInv : Bool := false
  invRow : Nat := 128
deriving DecidableEq, Repr

/-- A sill page of one port (R29, R165): the slot words as lane receive wrote them; a slot not listed holds an AIS word. A page
that repeats the page before takes what is still written to that page too (R122). Of the port's three banks it lies in `bank` (R168); `rows` of its
rows have been written. -/
structure SillPage where
  filled : Bool := false
  rep : Bool := false
  bank : Nat := 0
  fn : Nat := 0
  rows : Nat := 0
  words : Tab Nat := {}
deriving DecidableEq, Repr

/-- The state of a lane that no register shows: fitting (R58 to R84), framing (R97 to R124), transmit timing (R55 to R57). -/
structure LaneSt where
  -- fitting: when the state was entered, the wait that runs, whether the next failure is the first of a run
  since : Nat := 0
  waitLen : Nat := 0
  freshRun : Bool := true
  -- runs of training rows (R61, R62, R69, R71)
  markRun : Nat := 0
  wakeRun : Nat := 0
  goneRun : Nat := 0
  readyRun : Nat := 0
  frameRun : Nat := 0
  huntRun : Nat := 0
  reqLast : Nat := 0
  reqRun : Nat := 0
  ack : Nat := 0
  ackTap : Nat := 0
  ownReq : Nat := 0
  ownTap : Nat := 0
  ownPreset : Nat := 0
  ownReady : Bool := false
  announcing : Bool := false
  hunting : Bool := false
  restartPend : Nat := 0
  -- the frame in which ENABLE was cleared in SERVICE, and that in which LEAVE was first sent (R66)
  leaveSince : Option Nat := none
  leaveSent : Option Nat := none
  -- coefficients that wait for word 0 of the next training row (R50); whether the line is inverted (R48)
  coefNext : Option (List Int) := none
  inv : Bool := false
  -- signal detect by row periods: its value, and how many in a row have had it absent or present (R509, R115)
  detect : Bool := false
  absentRun : Nat := 0
  presentRun : Nat := 0
  -- the partner's last STATE in this attempt; the rows of the window of TUNE, its bit errors, adaptation settled (R62, R70)
  peerSt : Option Nat := none
  tuneRows : Nat := 0
  tuneErrs : Nat := 0
  settled : Bool := false
  -- the fitting message channel (R73, R74, R77)
  out : Option FitMsg := none
  outSends : Nat := 0
  outSince : Nat := 0
  outQueue : List FitMsg := []
  nextMseq : Nat := 0
  lastRx : Option Nat := none
  fcTx : List Nat := []
  fcRx : List Nat := []
  identGot : Bool := false
  identAcked : Bool := false
  goOwn : Option Nat := none
  goPeer : Option Nat := none
  accept : Bool := false
  -- background adaptation (R78 to R80)
  goodRun : Nat := 0
  goodCorr : Nat := 0
  winFrames : Nat := 0
  winCorr : Nat := 0
  badRun : Nat := 0
  adaptAt : Option Nat := none
  ctleAt : Option Nat := none
  kgEq : Nat := 0
  kgF0 : Nat := 0
  kgF4 : Nat := 0
  holdSince : Option Nat := none
  lastRevert : Option Nat := none
  -- a spare lane's sistering (R82 to R84): the lane it shadows or carries, SELECT waiting for READY, a return to that lane under way, and
  -- the page from which the sill takes that lane's words from the lane that now carries them
  target : Nat := 0
  shadowRun : Nat := 0
  selOwn : Option Nat := none
  selPeer : Option Nat := none
  rxSw : Bool := false
  txSw : Bool := false
  selWait : Bool := false
  back : Bool := false
  swFrom : Option Nat := none
  -- the spare has carried a lane and has not been released since (R459); SPARE_RELEASE has been exchanged while it carries lane x, whose
  -- frames lane x has ceased to send (R83)
  used : Bool := false
  ended : Bool := false
  -- alignment and the frame in progress, and whether the lane's pages are those of a synchronous one (R111 to R114, R121)
  cands : List Cand := []
  errFaw : Nat := 0
  row : Nat := 128
  page : Option Nat := none
  assigning : Bool := false
  aisHold : Bool := false
  sync : Bool := false
  acc : FrameAcc := {}
  lastCorr : Nat := 0
  lastUnc : Nat := 0
  cleanRun : Nat := 0
  phi : Int := 0
  -- partner frame number: the one in use; the last accepted FN, and whether it is a candidate; a frame without an accepted FN since (R98)
  fnPrev : Option Nat := none
  fnAcc : Option Nat := none
  fnCand : Bool := false
  fnGap : Bool := false
  -- persistence counts (R101, R115)
  ssmVal : Nat := 0
  ssmRun : Nat := 0
  laisOn : Nat := 0
  laisOff : Nat := 0
  lrdiOn : Nat := 0
  lrdiOff : Nat := 0
  lidBad : Nat := 0
  lidGood : Nat := 0
  lphIn : Nat := 0
  tagMismatch : Bool := false
  oofSince : Option Nat := none
  syncSince : Option Nat := none
  winBlock : Option Nat := none
  winFull : Bool := false
  wCorr : Nat := 0
  wUnc : Nat := 0
  sdHi : Nat := 0
  sdLo : Nat := 0
  sfHi : Nat := 0
  sfLo : Nat := 0
  ucHit : Bool := false
  caSince : Option Nat := none
  defSince : Option Nat := none
  losSince : Option Nat := none
  persSince : Option Nat := none
  fellBack : Bool := false
  mchTx : List Nat := []
  mchRx : Option (List Nat) := none
  -- transmit timing (R34, R55 to R57), in symbols
  psi : Int := 38224
  syncOkRun : Nat := 0
  lastSsmRun : Nat := 0
  -- the words that the plate has read for the output port of this number, the frame for which it read them, and what the lane sends
  plate : Tab Nat := {}
  plateAt : Option Nat := none
  tx : TxFrame := {}
deriving DecidableEq, Repr

/-- An ingress schedule entry with VALID = 1 (R172, R191): the slot, or the position on a return port, whose word crosses; PREV;
the output port. An entry that is not listed has VALID = 0. -/
structure Ingress where
  slot : Nat
  prev : Bool
  out : Nat
deriving DecidableEq, Repr

/-- A tap entry with VALID = 1 (R170, R191): the source slot address; the member-frames of storage it holds (R136); the tick at
which it is cleared, once its release is decided (R205, R206); the frame in which it was installed (R316); whether a change in
effect has released it, so that it is available already (R205); and the tick at which the storage that a withdrawn change added to it is
given back (R206). -/
structure TapEnt where
  src : Nat
  store : Nat
  clearAt : Option Nat := none
  since : Nat := 0
  released : Bool := false
  backAt : Option Nat := none
deriving DecidableEq, Repr

/-- What the logical map says an output slot carries, where it is not NONE (R194): a source; or a working and a protection source, a
scarf group and a scarf table entry. -/
inductive Route where
  | single (src : Nat)
  | merged (w p g m : Nat)
deriving DecidableEq, Repr

/-- A bent member as the schedule has it (R130, R131, R134): source slot address, arrival offset, deskew and return position,
131,072 r + q. -/
structure Membership where
  src : Nat
  arr : Nat
  d : Nat
  pos : Option Nat := none
deriving DecidableEq, Repr

/-- A bent that is not EMPTY: its reference and its members in index order (R128, R131). -/
structure BentCfg where
  ref : Nat
  members : List Membership
deriving DecidableEq, Repr

/-- The schedule memories, the logical map they are derived from, and the bents' deskews: everything that a change replaces at one
frame (R165, R193). By port and centre slot, output slot or scarf entry; the map by output slot address; the bents by number. -/
structure Schedule where
  ingress : Tab (Tab Ingress) := {}
  pwrite : Tab (Tab Nat) := {}
  pread : Tab (Tab Nat) := {}
  scarf : Tab (Tab (Nat × Nat)) := {}
  map : Tab Route := {}
  bents : Tab BentCfg := {}
deriving DecidableEq, Repr

/-- The states of a bent member (R146). -/
inductive MemberState where
  | pending | unlocked | active | suspect | held | blocked
deriving DecidableEq, Repr

/-- A confirmed step of a member (R143, R147): its first mismatching page, and the arrival offsets before that page and from it on, none for one
outside 0 to 4,095. -/
structure ArrStep where
  page : Nat
  before : Option Nat
  after : Option Nat
deriving DecidableEq, Repr

/-- What is learnt of a member that a change adds to bent `bent` (R141): the relation once it is locked, the candidate, and how many words in a
row have agreed with it. -/
structure Learn where
  bent : Nat
  k : Option Nat := none
  cand : Nat := 0
  run : Nat := 0
deriving DecidableEq, Repr

/-- What the machine keeps of a member as it runs (R141 to R147): its bent and state; the learnt relation and the one before page
`kFrom`; the candidate relation, how many words agree with it and the page of the first; whether a step is confirmed and its
action has not yet taken effect; the steps confirmed of late, oldest first; the frame at which it was added; and what is learnt anew of a member
that a change is to add again, to its bent or to another (R138). -/
structure Link where
  bent : Nat
  state : MemberState := .pending
  k : Option Nat := none
  kOld : Option Nat := none
  kFrom : Nat := 0
  cand : Nat := 0
  run : Nat := 0
  runFrom : Nat := 0
  confirmed : Bool := false
  steps : List ArrStep := []
  joinAt : Option Nat := none
  anew : Option Learn := none
deriving DecidableEq, Repr

/-- The actions of a bent, as journal records name them (R309). -/
inductive BentAct where
  | grow | absorb | hold | block | back | retime
deriving DecidableEq, Repr

/-- One unit of a bent action (R309): what it does, the member, its new arrival offset, the bent's new reference; and for a block the
event that says why: ABSORB_FAIL (1) or GROW_FAIL (2), or none for the policy AIS (R149 to R151). -/
structure BentUnit where
  act : BentAct
  src : Nat
  arr : Nat
  ref : Nat
  why : Nat := 0
deriving DecidableEq, Repr

/-- A decided action of a bent, and the transmit frame T at which it takes effect (R147, R159); `again` says that it is worked out
again there, on the bent as a cut list leaves it (R153). -/
structure BentAction where
  bent : Nat
  at' : Nat
  units : List BentUnit
  again : Bool := false
deriving DecidableEq, Repr

/-- A growth or retime pause in progress: the first transmit frame after it (R150, R159). -/
structure BentPause where
  until' : Nat
  growth : Bool
deriving DecidableEq, Repr

/-- An edit record (R195): its fields, and whether a reserved or unused field is not 0. -/
structure EditRec where
  op : Nat
  out : Nat
  src : Nat
  psrc : Nat
  group : Nat
  arr : Nat
  bad : Bool
deriving DecidableEq, Repr

/-- What a change comes from (R212): a host list, a scene, a full re-placement, the base map, or a journal record on a standby. -/
inductive ChangeKind where
  | list (j : Nat)
  | scene (n : Nat)
  | replacement
  | base
  | journal (id : Nat)
deriving DecidableEq, Repr

/-- The states a change passes through (R211, R212). -/
inductive ChangeState where
  | queued | compiling | armed | applying
deriving DecidableEq, Repr

/-- A change under way (R198 to R222): the frame in which it was queued; its records; the frames in which it became ARMED and in
which its APPLY was accepted; its named frame (`none` with ASAP); its apply frame once fixed; the transmit frame whose schedule it was
compiled against; the schedules of its chunks or steps; the bents that it edits; the records of each chunk; the tap positions it
took; the JSEQ of its CHANGE record; whether it must be compiled again; how many chunks have applied; the legs that a
re-placement moves; and the last commit that its compile used. -/
structure Change where
  kind : ChangeKind
  state : ChangeState := .queued
  since : Nat := 0
  recs : List EditRec := []
  armedAt : Nat := 0
  applyAt : Option Nat := none
  named : Option Nat := none
  frame : Option Nat := none
  base : Nat := 0
  results : List Schedule := []
  bents : List Nat := []
  chunks : List (List EditRec) := []
  took : List Nat := []
  jseq : Option Nat := none
  stale : Bool := false
  done : Nat := 0
  moved : Nat := 0
  cseq : Nat := 0
  began : Nat := 0
deriving DecidableEq, Repr

/-- A side of an output slot (R232 to R234): the transmit frames of its mismatches of the last 32, FAULT, and the run of MATCH words
in FAULT. -/
structure SideSt where
  marks : List Nat := []
  fault : Bool := false
  run : Nat := 0
deriving DecidableEq, Repr

/-- A side in FAULT as the reports show it (R249): the output slot and the side, the bent of which its source is a member, and the scarf
group of its slot. -/
structure SideFault where
  slot : Nat
  side : Nat
  bent : Option Nat
  group : Option Nat
deriving DecidableEq, Repr

/-- The sides that are not CLEAN, by 2 × output slot address + side (R232), and those in FAULT at the end of the last transmit frame, which
the reports show (R249, R250). -/
structure Sides where
  live : Tab SideSt := {}
  shown : List SideFault := []
deriving DecidableEq, Repr

/-- The window counts of a scarf group's sides (R241): the 8-frame window now counted, its copies and bad copies of W and P, those of
the window before, the runs of clean windows, the tick at which the last window was evaluated, and the tick E of the last wait. -/
structure GroupSt where
  window : Nat := 0
  w : Nat × Nat := (0, 0)
  p : Nat × Nat := (0, 0)
  prevW : Nat × Nat := (0, 0)
  prevP : Nat × Nat := (0, 0)
  clrW : Nat := 0
  clrP : Nat := 0
  evaluated : Option Nat := none
  wtrFrom : Nat := 0
deriving DecidableEq, Repr


/-- The hidden state of a reference: the frames in which its hold-off and its wait began, and the wait's length (R261, R263); whether it
was never disqualified since raising or since it was enabled (R263); the frames of its last phase jumps (R262); and, once Plumb has first
captured an N × 8 kHz input with N above 1, where the edge then chosen lay from the tick, in units of 2^-10 ns (R259). -/
structure RefSt where
  holdFrom : Nat := 0
  waitFrom : Nat := 0
  waitLen : Nat := 0
  fresh : Bool := true
  jumps : List Nat := []
  edge : Option Int := none
deriving DecidableEq, Repr

/-- A DPLL core's loop: its frequency control word, which the tick follows, in units of 10^-15, and its integrator, in
10^-38 of that unit (R287). -/
structure Core where
  word : Int := 0
  filt : Int := 0
deriving DecidableEq, Repr

/-- What Plumb keeps that no register shows: its references; a command waiting to act, CMD and REF (R268, R276); a REALIGN in progress
(R279); the frames in which the hold and the capture began (R274); the ticks spent in HOLDOVER (R271); the slew still to make, in units of
2^-10 ns, and the fraction of a unit carried (R273); the phase differences summed over the hold and their number, and the frames or pulses
that the phase error has been within LOCK_WIN (R274); during a capture, QL_EN as it was when it began, whether the target's EN has since
been cleared, and the configured levels that commits have changed since, as they were (R276); the lane from which MREF is formed (R290);
whether an acquisition has begun since raising and by how much it lengthens the frame in hand, in units of 2^-10 ns (R273); the two cores,
their active word in the last 8,000 frames and its mean as holdover began (R281, R287); the sensor's readings of the last second and the
epoch of the newest record in the fit (R281); the offsets of outputs that are slewing (R294); the quality level of the reference last locked
and the lane that carries QL-DNU (R270); the next epoch's number, the tick of the last epoch's end, the reference LOCKED since it began, and
its SWITCH, JUMP and COAST (R280); the reference in use when learning froze and the quiet epochs since (R286); the core test in progress (1
after a self-check failure, 2 and 3 under R465, 4 the swap between them, due at the next tick), the frame from which a core restarts as the
shadow, and the frames of the mismatches of the last 24 h (R288, R289, R465); whether the model in force stays because a wipe has taken its
records (R484). Of the core clock: the core cycle of the present frame from which a bank counter of core cycles counts, where that is not 0
(R442, R443), and whether a frame has ended since the first tick. -/
structure Plumb where
  refs : Tab RefSt := {}
  cmd : Option (Nat × Nat) := none
  realign : Bool := false
  holdFrom : Nat := 0
  capFrom : Nat := 0
  holdTicks : Nat := 0
  slew : Int := 0
  slewFrac : Nat := 0
  holdSum : Int := 0
  holdN : Nat := 0
  winRun : Nat := 0
  capQl : Bool := false
  enWait : Bool := false
  qlWait : Tab Nat := {}
  mref : Option Nat := none
  acquired : Bool := false
  step : Int := 0
  cycFrom : Tab Nat := {}
  -- the core cycles before tick 0 that the bank has counted (R440); while the bank has still to count the tick of the present frame, the
  -- counters that have been written in its core cycle (R443, R447)
  early : Nat := 0
  tickDue : Option (List Nat) := none
  ran : Bool := false
  cores : Tab Core := {}
  words : List Int := []
  holdMean : Int := 0
  temps : List Int := []
  te : Nat := 0
  fpNow : Tab Int := {}
  lockQl : Nat := 0xF
  dnu : Option Nat := none
  epoch : Nat := 0
  epochEnd : Option Nat := none
  epochRef : Option Nat := none
  sw : Bool := false
  jump : Bool := false
  coast : Bool := false
  frozenRef : Nat := 0
  quiet : Nat := 0
  test : Nat := 0
  restart : Option Nat := none
  mismatches : List Nat := []
  kept : Bool := false
deriving DecidableEq, Repr

/-- A journal record (R309): JSEQ, KIND, FRAME, CSEQ and its units of four 32-bit words; and, of one that the active keeps, the sequence number
of its first block on the mate channel (R307). -/
structure JRec where
  seq : Nat
  kind : Nat
  frame : Nat
  cseq : Nat
  units : List (List Nat)
  blk : Nat := 0
deriving DecidableEq, Repr

/-- A takeover or handover in progress (R318 to R328): its frame T, its cause, whether this device becomes active, whether it was decided
here, whether it is a planned handover, whether T has passed, and the former active's last FAULTMASK before T. -/
structure Takeover where
  t : Nat
  cause : Nat
  mine : Bool
  decided : Bool := false
  handover : Bool := false
  done : Bool := false
  mask : Nat := 0
deriving DecidableEq, Repr

/-- A part of what an epoch sends, a slice or a delta (R314): its frame, the sequence number of its first block (R307), and its entries. -/
structure CopyPart where
  frame : Nat
  blk : Nat
  entries : List CopyEntry
deriving DecidableEq, Repr

/-- The state of the mate unit that no register shows. The journal of the active, the last JSEQ assigned and the next unit of the journal
region (R309, R310); the frame to which TKW words refer; the frames in which the start-up wait began and the present state, JOINING and
READY as one, was entered; the state to enter and the frame number to adopt at the next tick (R301, R302, R305, R308); what the mate's
heartbeats say: the frame in which the last arrived, its FRAME, LANES and CSEQ, the last JSENT values with the frames in which they came,
FAULTMASK (R308); this device's own fault mask at the end of the last frame, the FRAME for which the two were last compared and whether this
device alone had a fault (R316, R319); whether SEED_CHK differed (R305); the records received and not yet applied, by JSEQ (R310, R311); the
takeover in progress (R318); runs of frames: of GRAIN (R319) and of votes (R329); the level of the arbitration line (R299); the copy in
progress: its staged entries, the slices arrived, and whether a complete state is installed or kept (R313 to R316); the frame at which the
return countdown began (R327); the edit records applied while both devices were active (R302); the next block's sequence number (R307);
whether this device, having entered JOINING, has yet to match its frame number to the mate's (R308); the frame from which ARB_IN has been
asserted (R300); whether a new epoch 0 is to start as soon as it may (R310); the slices that the epoch sends, those that applies have
changed since, and what has been sent of it, each part with its frame (R314); whether the copy arrives here; what the fields that compiles
use held before each commit taken from the journal, field, instance and value (R311); the words of the heartbeat that describes the last
frame (R308); the mate's JACK and whether the mate has held this device's state (R329); and whether this device was active as it failed (R321). -/
structure Mate where
  journal : List JRec := []
  jSeq : Nat := 0
  jUnit : Nat := 0
  tkFrame : Nat := 0
  waitFrom : Nat := 0
  stateAt : Nat := 0
  atTick : Option Nat := none
  adopt : Option Nat := none
  hbAt : Option Nat := none
  peerFrame : Nat := 0
  peerLanes : Nat := 0
  peerCseq : Nat := 0
  jsents : List (Nat × Nat) := []
  peerMask : Nat := 0
  ownMask : Nat := 0
  grainAt : Option Nat := none
  grainBad : Bool := false
  seedBad : Bool := false
  recv : List JRec := []
  take : Option Takeover := none
  grainRun : Nat := 0
  voteRun : Nat := 0
  arb : Bool := false
  stage : List CopyEntry := []
  slices : List Nat := []
  installed : Bool := false
  wtrFrom : Nat := 0
  dual : Nat := 0
  blkNext : Nat := 0
  adopting : Bool := false
  arbAt : Nat := 0
  want : Bool := false
  due : List Nat := []
  dirty : List Nat := []
  out : List CopyPart := []
  inbound : Bool := false
  past : List (Nat × List (Nat × Nat × Nat)) := []
  hbOut : List Nat := []
  peerJack : Nat := 0
  peerHad : Bool := false
  wasActive : Bool := false
deriving DecidableEq, Repr

/-- The progress of raising that no register shows (R333 to R342, R368 to R370): whether raising runs, and whether a JTAG instruction holds
the balls and has stopped it; that RESET_N is low; the strap XSPI_SLOW; that this raising follows the raising watchdog; the slots tried; the
image raised from; whether Plumb made its first-acquisition step, and whether a lane has entered SERVICE (R273); whether the base map is
applied; the frames in which P5 and P6 began; the firmware's SVN and ABI; of a live update, the image in the other slot, the frame in which
the core in hand left service and the cores updated; the image that the last verification of a slot found there; the slot of the operation
in progress, the source and length of a PROGRAM or RECOVER_GO as they were checked (R364), and whether a wipe has taken
what it programs (R484); the image's base configuration, in the slices of a state copy (R330); and the cores that a live update or its
roll-back has taken out of service (R369). -/
structure Raise where
  running : Bool := true
  jtag : Bool := false
  stopped : Bool := false
  held : Bool := false
  slow : Bool := false
  retry : Bool := false
  tried : List Nat := []
  image : Option SlotImage := none
  stepped : Bool := false
  laneServed : Bool := false
  baseDone : Bool := false
  p5At : Nat := 0
  p6At : Nat := 0
  fwSvn : Nat := 0
  fwAbi : Nat := 0
  other : Option SlotImage := none
  liveSince : Nat := 0
  updated : List Nat := []
  slots : Tab SlotImage := {}
  opSlot : Nat := 0
  opSrc : Nat := 0
  opLen : Nat := 0
  opLost : Bool := false
  base : List CopyEntry := []
  liveOut : List Nat := []
deriving DecidableEq, Repr

/-- A PCIe port's link and configuration (R341, R373, R398): whether PERST_N is high and training has begun, the configuration dwords
written, MSI-X enable and function mask, the table's dwords, the pending bits, the vectors whose condition was last seen true, and the
last message sent (address and data); the codes of Max_Payload_Size and Max_Read_Request_Size and the uncorrectable error status of Advanced
Error Reporting (R373, R406); and whether a Device Readiness Status message has been sent at P7. -/
structure Pcie where
  perst : Bool := false
  training : Bool := false
  cfg : Tab Nat := {}
  msixOn : Bool := false
  msixMask : Bool := false
  table : Tab Nat := {}
  pba : Nat := 0
  seen : Nat := 0
  sent : Option (Nat × Nat) := none
  mps : Nat := 0
  mrrs : Nat := 2
  aer : Nat := 0
  drsSent : Bool := false
deriving DecidableEq, Repr

/-- What stands behind MGT_OWNER (R386 to R390): the owner's token; an accepted RELEASE and a lost port, which act at the next tick; the
claims of the frame (port and token); the tick at which the lease expires and the frame of the handover. -/
structure Owning where
  token : Nat := 0
  released : Bool := false
  lost : Bool := false
  claims : List (Nat × Nat) := []
  leaseEnd : Nat := 0
  handAt : Nat := 0
deriving DecidableEq, Repr

/-- A tunnel request that waits for its answer (R380): its frame, whether it writes, whether it reads the mate's unprivileged view, its address
or view offset, and the data of a write. -/
structure TunnelReq where
  since : Nat
  write : Bool
  unpriv : Bool
  addr : Nat
  data : Nat
deriving DecidableEq, Repr

/-- The sounding engine (R418 to R424): the region next in order, the frame in which the pass began and the frames it has not run; the regions
that wait for another try, with how many regions must pass first and the frame of the abort; aborts in a row by region; the fabric
bank next in order, the bank under test and its group, the groups without a sister, and the bank that is each group's sister; whether a region is
under test; the regions marked failed, and the spare rows used, by scratchpad bank. -/
structure Sounding where
  next : Nat := 0
  marching : Bool := false
  passFrames : Nat := 0
  retry : List (Nat × Nat × Nat) := []
  aborts : Tab Nat := {}
  bank : Nat := 0
  under : Option Nat := none
  failedGroups : List Nat := []
  failed : List Nat := []
  rowsUsed : Tab Nat := {}
  sister : Tab Nat := {}
deriving DecidableEq, Repr

/-- What stands behind the DDR5 registers (R434 to R436): channels whose request waits; failures in a row; corrected bursts of the
present second and of the last; the key generation (R427), and the ranges that have been written to zero under it; and, while a channel is
OFFLINE, the memory and the long path's copies as they were when the channel was taken, from which the rebuild map follows (R434). -/
structure Ddr where
  waiting : List Nat := []
  fails : Tab Nat := {}
  second : Tab Nat := {}
  lastSecond : Tab Nat := {}
  keys : Nat := 0
  zeroed : List (Nat × Nat) := []
  offMem : Option (List Host.Cell) := none
  offLong : Tab (Tab Nat) := {}
deriving DecidableEq, Repr

/-- A clear that is pending (R447): its tick, KIND, FIRST and COUNT. -/
structure ClearReq where
  tick : Nat
  kind : Nat
  first : Nat
  count : Nat
deriving DecidableEq, Repr

/-- What becomes of a peg's word at the plate (R452, R454): its output slot, none where no slot takes the word; the outcome and whether the
pegged copy was the output word, or the slot is SINGLE; the side; the centre slot crossed, the input port and PREV; the deskew and the
return position; L of R37 in symbols; the bent and the scarf group that the histograms' filters ask for; and whether the word crossed the truss to
the slot's port. -/
structure PegEnd where
  out : Option Nat
  outcome : Nat
  selected : Bool
  single : Bool
  side : Bool
  centre : Nat
  inPort : Nat
  prev : Bool
  d : Nat
  pos : Option Nat
  lat : Int
  bent : Option Nat
  group : Option Nat
  crossed : Bool
deriving DecidableEq, Repr

/-- A peg in flight (R451, R452): its page and source, the output slot and side that its candidate named, the phase of its receive frame,
the return-port position from which the long-path tap took its word, the outcome and whether it was the output word as the plate read it, and what
became of its word once that is known. -/
structure Peg where
  page : Nat
  src : Nat
  side : Bool
  out : Option Nat
  phi : Int
  tap : Option Nat := none
  sent : Option (Nat × Bool) := none
  res : Option PegEnd := none
deriving DecidableEq, Repr

/-- The peg unit (R451 to R455): the selector's state and the page for which it last drew, the pegs in flight, the queue of records, PSEQ,
and what each master's last read of PEG_REC0 latched. -/
structure Pegs where
  lfsr : Option Nat := none
  drew : Option Nat := none
  flight : List Peg := []
  queue : List (List Nat) := []
  pseq : Nat := 0
  held : Tab (List Nat) := {}
deriving DecidableEq, Repr

/-- A snapshot whose archive entry waits (R450): its frame, SNAPS, and the words of the entry that are not 0, by word number. -/
structure ArchiveEntry where
  frame : Nat
  snaps : Nat
  words : Tab Nat
deriving DecidableEq, Repr

/-- A tally record that waits (R472): KIND, CLASS, INSTANCE, FRAME and its twelve DATA bytes. -/
structure TallyRec where
  kind : Nat
  cls : Nat
  inst : Nat
  frame : Nat
  data : List Nat
deriving DecidableEq, Repr

/-- A copy of the boot record (R361, R471): sequence number, PREF, TRIAL, and whether its CRC-32 is good. -/
structure BootCopy where
  seq : Nat := 0
  pref : Nat := 0
  trial : Nat := 0
  good : Bool := true
deriving DecidableEq, Repr

/-- A lane's life counts in the summary blocks (R474): the frames in SERVICE that give its hours, failed attempts, reversions, lowest margin. -/
structure LaneLife where
  service : Nat := 0
  fails : Nat := 0
  reverts : Nat := 0
  margin : Nat := 127
deriving DecidableEq, Repr

/-- A summary block (R474): RAISE and FRAME of its sample, the sample, the minutes of each sensor and band, the lanes' lives, and whether its CRC-32
is good. -/
structure SummaryBlock where
  raises : Nat := 0
  frame : Nat := 0
  sample : Option AgeSample := none
  bins : Tab (Tab Nat) := {}
  lanes : Tab LaneLife := {}
  good : Bool := true
deriving DecidableEq, Repr

/-- What is being written in the tally (R471, R474): copy A or B of the boot record, or a summary block. -/
inductive TallyWrite where
  | copyA | copyB
  | block (k : Nat)
deriving DecidableEq, Repr

/-- What the tally holds (R470 to R474), which survives power loss and raising: the two copies of the boot record, the SERVICE flag, the last
confirmed life-cycle state and the pending transition, the log by record number (32 bytes each) with the next record and whether it
has wrapped, the sequence number and the raisings since manufacture, TLY_LC_RESULT and SERVICES, the last summary block written, the 16 blocks,
and a write that may still be going on. -/
structure Tally where
  copyA : BootCopy := {}
  copyB : BootCopy := {}
  service : Bool := false
  life : Nat := 0
  pend : Option (Nat × Nat) := none
  log : Tab (List Nat) := {}
  next : Nat := 0
  wrapped : Bool := false
  seq : Nat := 0
  raises : Nat := 0
  result : Nat := 0
  services : Nat := 0
  block : Nat := 0
  blocks : Tab SummaryBlock := {}
  writing : Option TallyWrite := none
deriving DecidableEq, Repr

/-- What becomes of a faulty decoder (R460, R463, R467, R469): its substitution waits its turn; a spare compares, so many rows so far; a
spare serves in its place; the host decides; no spare is left. -/
inductive FecSub where
  | waits
  | compares (rows : Nat)
  | replaced
  | host
  | none
deriving DecidableEq, Repr

/-- The spares that serve, or are gone, for good (R459): how many sister banks, decoders, joiners and engines, the engines lost with no
spare, the map of cores once the spare joiner serves, and the DPLL core that is retired. -/
structure Spent where
  sisters : Nat := 0
  fec : Nat := 0
  joiner : Nat := 0
  scribe : Nat := 0
  engines : Nat := 0
  jmap : Option Nat := none
  dpll : Option Nat := none
deriving DecidableEq, Repr

/-- Substitutions in progress, and what their triggers watch (R460 to R467): the lane triggers that wait for a tick; lanes being
substituted; the failing lamination and the tick of its step 1, whether LAMS shadows it, and those that wait; the frames in which each lamination's count rose in the
kerf and in which LAM_MISMATCH was latched; LAMS retired; lanes whose decoder is faulty, and those of them that wait, in order; the failed
joiner, the frame at which its duties passed, those that wait, and the cores out of service; the lanes' failed attempts and reversions since
the last ageing sample, the frames in SERVICE before the present spell of it and where that began; the frame of the last sample; low-margin
samples in a row; LSD's spells (from, to) and its present spell, by lane; and the spares spent. -/
structure Sist where
  lanePend : List Nat := []
  laneRun : List Nat := []
  lamPend : Option Nat := none
  lamDue : Nat := 0
  lamRun : Option Nat := none
  lamWait : List Nat := []
  lamErr : Tab (List Nat) := {}
  lamMm : List Nat := []
  lamsGone : Bool := false
  fec : Tab FecSub := {}
  fecWait : List Nat := []
  joiner : Option (Nat × Nat) := none
  joinerWait : List Nat := []
  joinersOut : List Nat := []
  lifeFails : Tab Nat := {}
  lifeReverts : Tab Nat := {}
  lifeService : Tab Nat := {}
  serviceFrom : Tab Nat := {}
  ageFrom : Nat := 0
  margins : Tab Nat := {}
  lsdSpells : Tab (List (Nat × Nat)) := {}
  lsdFrom : Tab Nat := {}
  spent : Spent := {}
deriving DecidableEq, Repr

/-- The life-cycle unit and the tamper unit (R477 to R485): an operation whose pending transition is written and whose step 6 comes at the
next tick (OP, TARGET, signing slot, former state), the frame of its step 5, and its record until the fuses are programmed; the sources now
asserted, and those of them that have acted; the source mask of the response that runs, and whether one runs; the frame of the last wipe,
and whether the secure bank is still being zeroed. -/
structure Guarding where
  done : Option (Nat × Nat × Nat × Nat) := none
  doneAt : Nat := 0
  auth : List (BitVec 8) := []
  asserted : Nat := 0
  seen : Nat := 0
  mask : Nat := 0
  running : Bool := false
  wipeAt : Nat := 0
  wiping : Bool := false
deriving DecidableEq, Repr

/-- The state of the NF3236. -/
structure State where
  -- the commands waiting, first in first out
  pending : List Instr := []
  -- register fields: the current value (for a staged field the active one), the staged value where it differs, and the fields
  -- that each master has of its own (field, instance, master)
  regs : Tab (Tab Nat) := {}
  staged : Tab (Tab Nat) := {}
  perMaster : Tab (Tab (Tab Nat)) := {}
  -- per master and address: the high half latched by a low read (R12), the low half held by a low write (R13)
  latHigh : Tab (Tab Nat) := {}
  heldLow : Tab (Tab Nat) := {}
  -- per master: the core cycle latched by its last read of DEV_FRAME (R41)
  frameCycle : Tab Nat := {}
  -- the core cycle within the frame of the last command that named one, the free-value counter and the last answer: the model's own
  cycle : Nat := 0
  free : Nat := 0
  resp : Resp := {}
  -- events newly latched: enabled ones wait for the rings, all wait for the log (R396, R397)
  ringQ : List EvRec := []
  logQ : List EvRec := []
  -- bytes of the on-package banks, the staging memory and DDR5, by device address
  mem : List Host.Cell := []
  -- lanes (chapters 2 and 3) and their sill's map from page number to bank, with what the bank holds, by lane (R165, R168)
  lanes : Tab LaneSt := {}
  sill : Tab (Tab SillPage) := {}
  -- the fabric: the active schedule, taps by return port and position, long-path copies by position and page, return-port words by
  -- bank 3 r + M mod 3 and position for the sweep M they were filled for, plate words by output port and bank (R165, R170, R171, R183)
  sched : Schedule := {}
  tap : Tab (Tab TapEnt) := {}
  longMem : Tab (Tab Nat) := {}
  retPages : Tab SillPage := {}
  plate : Tab (Tab Nat) := {}
  -- bents: members by source slot address, decided actions, pauses by bent; what each master's last read latched (R162)
  links : Tab Link := {}
  actions : List BentAction := []
  pauses : Tab (List BentPause) := {}
  mdlyHeld : Tab (Tab (List Nat)) := {}
  -- the scribe: the change that occupies it, those queued, scene triggers with their ticks, and the scene queue; staging lists
  -- stand in mem; what each master's last read of SCB_MREC_W latched (R212, R218, R224)
  chg : Option Change := none
  queued : List Change := []
  scnTrig : List (Nat × Nat) := []
  scnQ : List Nat := []
  mrecHeld : Tab (List Nat) := {}
  -- plate verification: the sides, and what the reports show of them; scarf group windows (R232, R241, R249)
  sides : Sides := {}
  groups : Tab GroupSt := {}
  -- Plumb (chapter 8)
  plumb : Plumb := {}
  -- the mate unit (chapter 9)
  mate : Mate := {}
  -- raising (chapter 10): what the fuses hold, the progress of raising, the PCIe ports
  fuses : Fuses := {}
  raise : Raise := {}
  pcie : Tab Pcie := {}
  -- management (chapter 11): ownership; the staged values sampled at a commit tick (field, instance), and commits applied there from the
  -- journal; the tunnel; the SPI mode
  own : Owning := {}
  sampled : Option (Tab (Tab Nat)) := none
  tunnel : Option TunnelReq := none
  spiQuad : Bool := false
  -- memories (chapter 12)
  snd : Sounding := {}
  ddr : Ddr := {}
  -- counters and pegs (chapter 13): the snapshot values of fixed counters by J; for each master and counter the 96-bit reading latched by
  -- a chained read (R445); the tick of a requested snapshot, and the frame of the last; a pending clear
  snapFixed : Tab Nat := {}
  chainHeld : Tab (Tab Nat) := {}
  snapAt : Option Nat := none
  snapped : Option Nat := none
  clear : Option ClearReq := none
  archive : List ArchiveEntry := []
  pegs : Pegs := {}
  -- sistering, the tally, tamper and life cycle (chapter 14): the tally, the records that wait for it, the records of the present second
  -- and those not written; substitutions; the life cycle and tamper
  tally : Tally := {}
  tallyQ : List TallyRec := []
  tallySecond : Nat := 0
  tallyLost : Nat := 0
  sist : Sist := {}
  guarding : Guarding := {}
  -- words of the tally's areas whose byte layout the manual does not give, as the joiners have written them, by tally offset
  tallyRaw : Tab Nat := {}
deriving DecidableEq, Repr

/-- The machine right after reset: every register field at what its Reset column gives (R14; DESIGN CHOICE: log entries 1 and 2), nothing in
progress, no command waiting. -/
def State.reset : State := {}

end Machine

end Sys2Proof
end

