-- ==== Sys2Proof/Machine/Ops.lean ====
section
/-! DEFINITION. The named operations over the state: register fields, the event latch, free values, memory bytes and frame
numbers. -/

namespace Sys2Proof.Machine

/-- A meaning's answer. -/
abbrev Out := Host.Outcome State Fault Refusal

/-! ### Register fields -/

/-- The current value of a field; for a staged field its active value (R8, R10). -/
def State.fld (s : State) (f : Fld) (i : Nat := 0) : Nat := (s.regs.get f.id {}).get i f.reset

/-- `s` with a field's current value replaced; what does not fit the field's width is dropped. -/
def State.setFld (s : State) (f : Fld) (i v : Nat) : State :=
  { s with regs := s.regs.put f.id ((s.regs.get f.id {}).store i f.reset (v % 2 ^ f.width)) }

/-- A staged field's staged value: the active value where none differs (R10). -/
def State.stg (s : State) (f : Fld) (i : Nat := 0) : Nat := ((s.staged.get f.id {}).find i).getD (s.fld f i)

/-- `s` with a staged field's staged value replaced (R8). One written while a commit of this tick stands sampled is staged for the next
commit, whatever the active value still is (R392). -/
def State.setStg (s : State) (f : Fld) (i v : Nat) : State :=
  let t := s.staged.get f.id {}
  let t' := if v % 2 ^ f.width = s.fld f i && s.sampled.isNone then t.del i else t.put i (v % 2 ^ f.width)
  { s with staged := s.staged.put f.id t' }

/-- A field of which each master has its own. -/
def State.mfld (s : State) (f : Fld) (i m : Nat) : Nat := ((s.perMaster.get f.id {}).get i {}).get m f.reset

/-- `s` with one master's own field replaced. -/
def State.setMfld (s : State) (f : Fld) (i m v : Nat) : State :=
  let t := s.perMaster.get f.id {}
  { s with perMaster := s.perMaster.put f.id (t.put i ((t.get i {}).store m f.reset (v % 2 ^ f.width))) }

/-- A count that wraps at its field's width advances by `n` (R126, R440). -/
def State.addFld (s : State) (f : Fld) (i n : Nat) : State := if n = 0 then s else s.setFld f i (s.fld f i + n)

/-- A count that saturates at its field's width advances by `n`. -/
def State.satFld (s : State) (f : Fld) (i n : Nat) : State := s.setFld f i (satAdd (2 ^ f.width - 1) (s.fld f i) n)

/-- A field that is 1 bit. -/
def State.flag (s : State) (f : Fld) (i : Nat := 0) : Bool := s.fld f i == 1

/-- `s` with a 1-bit field set to a truth value. -/
def State.setFlag (s : State) (f : Fld) (i : Nat) (b : Bool) : State := s.setFld f i (b2n b)

/-- A signed field's value (R4). -/
def State.ifld (s : State) (f : Fld) (i : Nat := 0) : Int := toInt f.width (s.fld f i)

/-- `s` with a signed field's value replaced. -/
def State.setIfld (s : State) (f : Fld) (i : Nat) (v : Int) : State := s.setFld f i (toWord f.width v)

/-- The device frame number (R2). -/
def State.frame (s : State) : Nat := s.fld R.DEV_FRAME_FRAME

/-! ### Events -/

/-- The island code of an event's register (R382). -/
def Ev.island (e : Ev) : Nat :=
  if e.reg = R.LN_FIT_EVT || e.reg = R.LN_DEF_EVT then 0x10
  else if e.reg = R.BNT_EVT then 0x30
  else if e.reg = R.SCF_GEVT then 0x40
  else if e.reg = R.DEV_EVT then 0
  else if e.reg = R.IMG_EVT then 1
  else if e.reg = R.MGT_EVT then 2
  else if e.reg = R.MTX_EVT then 3
  else if e.reg = R.MEM_EVT || e.reg = R.SND_EVT then 4
  else if e.reg = R.DDR_EVT then 5
  else if e.reg = R.TLY_EVT then 6
  else if e.reg = R.PLB_EVT || e.reg = R.PLB_REFi_EVT then 7
  else if e.reg = R.MAT_EVT then 8
  else if e.reg = R.CNT_EVT || e.reg = R.PEG_EVT then 9
  else if e.reg = R.FAB_EVT || e.reg = R.GRN_EVT then 0xA
  else if e.reg = R.SCB_EVT || e.reg = R.CUT_EVT then 0xB
  else 0xC

/-- Whether an event is latched. -/
def State.latched (s : State) (e : Ev) (i : Nat := 0) : Bool := (s.fld e.reg i).testBit e.bit

/-- The core cycle of an event latched now: a free value, from the core cycle that the frame has reached on (R396; DESIGN CHOICE: log entry 17). -/
def State.latchCycle (s : State) (e : Ev) (ri : Nat) : Nat :=
  max s.cycle (Config.latchCycle s.frame ((e.island * 64 + e.bit) * 131072 + ri) s.logQ.length % 165888)

/-- The record of an event latched now (R396). -/
def State.evRec (s : State) (e : Ev) (ri data : Nat) : EvRec :=
  { frame := s.frame, cycle := s.latchCycle e ri, bit := e.bit, island := e.island, inst := ri, data := data }

/-- Latches event `e` of register instance `i`, its record naming instance `ri` and `data`. A bit that changes from 0 to 1 waits
for the log, and for the rings when its enable is 1; a bit already latched does nothing (R396, R397). -/
def State.latchAs (s : State) (e : Ev) (i ri data : Nat) : State :=
  if s.latched e i then s
  else
    let s1 := s.setFld e.reg i (orBit (s.fld e.reg i) e.bit)
    { s1 with
      logQ := s1.logQ ++ [s.evRec e ri data]
      ringQ := if (s.fld e.en i).testBit e.bit then s1.ringQ ++ [s.evRec e ri data] else s1.ringQ }

/-- Latches event `e` of register instance `i`: a lane, bent or group names itself, the global blocks name 0 (R396). -/
def State.latch (s : State) (e : Ev) (i : Nat := 0) : State :=
  s.latchAs e i (if e.island < 0x10 then 0 else i) 0

/-- Latches `e` when `b` holds. -/
def State.latchIf (s : State) (b : Bool) (e : Ev) (i : Nat := 0) : State := if b then s.latch e i else s

/-- Latches an MGT event for a port, or an MTX event for a master (R396). -/
def State.latchFor (s : State) (e : Ev) (ri : Nat) : State := s.latchAs e 0 ri 0

/-- The records of the events latched since `old`, at a tick, name core cycle 0 (R2, R396). -/
def State.stampTick (s old : State) : State :=
  let stamp := fun (n : Nat) (l : List EvRec) => l.take n ++ (l.drop n).map (fun r => { r with cycle := 0 })
  { s with logQ := stamp old.logQ.length s.logQ, ringQ := stamp old.ringQ.length s.ringQ }

/-! ### Free values -/

/-- `s` with the free-value counter advanced (DESIGN CHOICE: log entry 4). -/
def State.drawn (s : State) : State := { s with free := s.free + 1 }

/-! ### Memory bytes -/

/-- The first address of DDR5 (R15). -/
def ddrBase : Nat := 0x1000000000

/-- What an address that nothing has written reads as, by address: 0 in the on-package banks and the staging memory (R416) and in a range of
DDR5 that has been written to zero; no value elsewhere in DDR5, which reads as noise (R427; DESIGN CHOICE: log entry 3). -/
def State.blankAt (s : State) (a : Nat) : Option (BitVec 8) :=
  if a < ddrBase then some 0
  else if s.ddr.zeroed.any (fun r => decide (r.1 ≤ a) && decide (a < r.2)) then some 0 else none

/-- The byte listed for an address. -/
def Memory.find (m : List Host.Cell) (a : Nat) : Option (BitVec 8) :=
  match m with
  | [] => none
  | (a', b) :: t => if a = a' then some b else Memory.find t a

/-- The memory with `b` at `a`, where an unlisted `a` reads as `blank`, in the canonical form: addresses strictly rising, no entry equal to
what its address would read as unlisted. -/
def Memory.write (m : List Host.Cell) (a : Nat) (b : BitVec 8) (blank : Option (BitVec 8)) : List Host.Cell :=
  match m with
  | [] => if some b = blank then [] else [(a, b)]
  | (a', b') :: t =>
    if a < a' then (if some b = blank then (a', b') :: t else (a, b) :: (a', b') :: t)
    else if a = a' then (if some b = blank then t else (a, b) :: t)
    else (a', b') :: Memory.write t a b blank

/-- The canonical form of a memory. -/
def Memory.wf (m : List Host.Cell) (blank : Nat → Option (BitVec 8)) : Bool :=
  (m.map (·.1)).Pairwise (· < ·) && m.all (fun c => some c.2 != blank c.1)

/-- The byte of the device address space at `a`; where nothing has been written under the present keys, noise (R427). -/
def State.byte (s : State) (a : Nat) : BitVec 8 :=
  match Memory.find s.mem a with
  | some b => b
  | none => (s.blankAt a).getD (Config.ddrNoise s.ddr.keys a)

/-- `s` with the byte at `a` replaced. -/
def State.setByte (s : State) (a : Nat) (b : BitVec 8) : State := { s with mem := Memory.write s.mem a b (s.blankAt a) }

/-- `n` bytes from `a`. -/
def State.readBytes (s : State) (a n : Nat) : List (BitVec 8) := (List.range n).map (fun k => s.byte (a + k))

/-- `s` with consecutive bytes from `a` replaced. -/
def State.writeBytes (s : State) (a : Nat) (l : List (BitVec 8)) : State :=
  match l with
  | [] => s
  | b :: t => (s.setByte a b).writeBytes (a + 1) t

/-- The little-endian number in `n` bytes from `a` (R7). -/
def State.readLe (s : State) (a n : Nat) : Nat := ofLeBytes (s.readBytes a n)

/-- `s` with the little-endian number `v` in `n` bytes from `a` (R7). -/
def State.writeLe (s : State) (a n v : Nat) : State := s.writeBytes a (leBytes n v)

/-- `s` with nothing listed from `lo` to below `hi`: the on-package memories read 0 there. -/
def State.clearRange (s : State) (lo hi : Nat) : State :=
  { s with mem := s.mem.filter (fun c => decide (c.1 < lo) || decide (hi ≤ c.1)) }

/-- `s` with the range of DDR5 from `lo` to below `hi` written to zero. -/
def State.zeroRange (s : State) (lo hi : Nat) : State :=
  let s1 := s.clearRange lo hi
  { s1 with ddr := { s1.ddr with zeroed := if s1.ddr.zeroed.contains (lo, hi) then s1.ddr.zeroed else (lo, hi) :: s1.ddr.zeroed } }

/-- New DDR5 keys (R427): whatever DDR5 held reads as noise. -/
def State.rekey (s : State) : State :=
  let s1 := s.clearRange ddrBase 0x3000000000
  { s1 with ddr := { s1.ddr with zeroed := [], keys := s1.ddr.keys + 1 } }

/-! ### Frames and time -/

/-- How many frames have passed since frame `f`, modulo 2^32 (R18). -/
def State.sinceFrame (s : State) (f : Nat) : Nat := (s.frame + 2 ^ 32 - f % 2 ^ 32) % 2 ^ 32

/-- Frame `a` is later than `b` (R18). -/
def frameLater (a b : Nat) : Bool :=
  let d := (a + 2 ^ 32 - b % 2 ^ 32) % 2 ^ 32
  decide (1 ≤ d) && decide (d ≤ 2147483647)

/-- Frame `a` is `b` or later (R18). -/
def frameReached (a b : Nat) : Bool := a % 2 ^ 32 == b % 2 ^ 32 || frameLater a b

/-! ### Lanes -/

/-- A lane's hidden state. -/
def State.lane (s : State) (n : Nat) : LaneSt := s.lanes.get n {}

/-- `s` with a lane's hidden state replaced. -/
def State.setLane (s : State) (n : Nat) (l : LaneSt) : State := { s with lanes := s.lanes.put n l }

/-- `s` with a lane's hidden state changed by `f`. -/
def State.updLane (s : State) (n : Nat) (f : LaneSt → LaneSt) : State := s.setLane n (f (s.lane n))

/-! ### Plumb's ticks (R20, R272) -/

/-- Plumb's state before its first tick. -/
def plbOff : Nat := 7

/-- Plumb's state. -/
def State.plb (s : State) : Nat := s.fld R.PLB_STATUS_STATE

/-- Plumb has produced its first tick (R20, R272). -/
def State.ticking (s : State) : Bool := s.plb != plbOff

/-! ### How an access ends (R379, R406) -/

/-- The answer to the last access: its status and the words it read. -/
def State.answer (s : State) (st : Status) (ws : List Nat) : State := { s with resp := { status := st, words := ws } }

/-- MTX_ERR records an access of master `m` at `a`: the target decoded and the kind, 0 default target or 1 timeout (R406). -/
def State.recordErr (s : State) (m a target kind : Nat) : State :=
  (((s.setFld R.MTX_ERR_ADDR 0 a).setFld R.MTX_ERR_HI_MASTER 0 m).setFld R.MTX_ERR_HI_TARGET 0 target).setFld R.MTX_ERR_HI_KIND 0 kind

/-- An access completes at the default target: an error, DEFAULT_HIT and MTX_ERR (R406). -/
def State.defaultHit (s : State) (m a : Nat) : State :=
  ((s.recordErr m a 0xA 0).latchFor R.MTX_EVT_DEFAULT_HIT m).answer .error [0]

/-- A posted write of a PCIe port that completes with an error is discarded and reported as a Completer Abort, bit 15 of the uncorrectable error
status (R406; PRESUMED: log entry 14). -/
def State.reportAbort (s : State) (m : Nat) : State :=
  if m = 4 ∨ m = 5 then
    let c := s.pcie.get (m - 4) {}
    { s with pcie := s.pcie.put (m - 4) { c with aer := orBit c.aer 15 } }
  else s

/-- A write completes at the default target (R406). -/
def State.defaultWrite (s : State) (m a : Nat) : State := (s.defaultHit m a).reportAbort m

/-- The bytes from `a` lie in the usable part of DDR5 (R15, R429). -/
def State.inDdr (s : State) (a n : Nat) : Bool := decide (ddrBase ≤ a) && decide (a + n ≤ ddrBase + s.fld R.DDR_STAT_USABLE * 2 ^ 30)

end Sys2Proof.Machine
end

