-- ==== Sys2Proof/Machine/MateOps.lean ====
section
/-! DEFINITION. What the other chapters need of the mate pair: its states, who may make changes, and the journal (R300, R306, R309,
R310). -/

namespace Sys2Proof.Machine

/-! ### States (MAT_STAT.STATE, R300) -/

def mateSolo : Nat := 0
def mateWait : Nat := 1
def mateAlone : Nat := 2
def mateActive : Nat := 3
def mateJoining : Nat := 4
def mateReady : Nat := 5
def mateIsolated : Nat := 6
def mateFailed : Nat := 7

/-- The mate state. -/
def State.mateState (s : State) : Nat := s.fld R.MAT_STAT_STATE

/-- The device is paired (R298). -/
def State.paired (s : State) : Bool := s.mateState != mateSolo

/-- The device is in ALONE or ACTIVE. -/
def State.isActive (s : State) : Bool := s.mateState == mateAlone || s.mateState == mateActive

/-- The device may make changes of its own: it is not paired, or it is in ALONE or ACTIVE (R215, R306). -/
def State.mayChange (s : State) : Bool := !s.paired || s.isActive

/-- The device is a standby: JOINING, READY or ISOLATED (R300). -/
def State.isStandby (s : State) : Bool :=
  s.mateState == mateJoining || s.mateState == mateReady || s.mateState == mateIsolated

/-- The traffic outputs carry AIS in this mate state (R300, R304). -/
def State.mateAis (s : State) : Bool :=
  s.mateState == mateWait || s.mateState == mateJoining || s.mateState == mateIsolated || s.mateState == mateFailed

/-- The role sent in the status word (R100, R300): NONE, ACTIVE, STANDBY, FAILED. -/
def State.roleSent (s : State) : Nat :=
  if s.isActive then 1 else if s.isStandby then 2 else if s.mateState == mateFailed then 3 else 0

/-! ### The journal (R309, R310) -/

def recChange : Nat := 0x01
def recRearm : Nat := 0x02
def recCancel : Nat := 0x03
def recCommit : Nat := 0x04
def recBent : Nat := 0x05
def recCommand : Nat := 0x06
def recInfo : Nat := 0x07

/-- The units that the journal region holds (R310). -/
def journalUnits : Nat := 67108864

/-- A record's four header words (R309). -/
def JRec.header (r : JRec) : List Nat :=
  [r.seq % 2 ^ 32, r.kind % 256 + 256 * (r.units.length % 2 ^ 24), r.frame % 2 ^ 32, r.cseq % 2 ^ 32]

/-- The units that records take in the region: one for the header and one for each unit (R310). -/
def unitsOf (l : List JRec) : Nat := l.foldl (fun n r => n + 1 + r.units.length) 0

/-- A record's units, of 16 bytes each, are written into the journal region, which wraps (R310). -/
def State.storeUnits (s : State) (units : List (List Nat)) : State :=
  units.foldl (fun t u =>
    let a := t.fld R.MAT_JBASE_BASE + 16 * (t.mate.jUnit % journalUnits)
    let t1 := if t.fld R.MAT_JBASE_BASE = 0 then t else t.writeBytes a ((u.flatMap (leBytes 4)).take 16)
    { t1 with mate := { t1.mate with jUnit := (t1.mate.jUnit + 1) % journalUnits } }) s

/-- MAT_JFILL follows the records held (R310). -/
def State.countJournal (s : State) : State := s.setFld R.MAT_JFILL_UNITS 0 (unitsOf s.mate.journal)

/-- A state copy sends its slices: changes go to the mate as INFO records, not as CHANGE records (R314, R315). -/
def State.copying (s : State) : Bool := s.isActive && s.fld R.MAT_COPY_PHASE == 1

/-- The blocks of the mate channel in which a record's header and units travel, 62 data words to a block (R307; DESIGN CHOICE: log entry 13
says that a record begins a block). -/
def blocksOf (units : Nat) : Nat := (4 * (1 + units) + 61) / 62

/-- The serial words of a block (R307): its sequence number, its data, filled up with zeros, and the CRC-32. -/
def blockWords (seq : Nat) (data : List Nat) : List Nat :=
  let ws := seq % 2 ^ 32 :: (data ++ List.replicate (62 - data.length) 0)
  ws ++ [crc32Words ws]

/-- The blocks of a record. -/
def JRec.blocks (r : JRec) : List (List Nat) :=
  let ws := r.header ++ r.units.flatten
  (List.range (blocksOf r.units.length)).map (fun k => blockWords (r.blk + k) ((ws.drop (62 * k)).take 62))

/-- The mate unit's hidden state changed by `f`. -/
def State.updMate (s : State) (f : Mate → Mate) : State := { s with mate := f s.mate }

/-- A takeover or handover is under way and T has not passed. -/
def State.taking (s : State) : Bool :=
  match s.mate.take with
  | some t => !t.done
  | none => false

/-! ### Entering states, and failing (R299, R300, R317) -/

/-- Entering `st`, the device passes between JOINING and READY (R300). -/
def State.isRejoining (s : State) (st : Nat) : Bool :=
  (s.mateState == mateJoining || s.mateState == mateReady) && (st == mateJoining || st == mateReady)

/-- The device enters a mate state: STATE_CHANGE is latched, and the arbitration line is driven in ALONE and ACTIVE only (R299, R300). -/
def State.mateTo (s : State) (st : Nat) : State :=
  if s.mateState = st then s
  else
    let s1 := ((s.setFld R.MAT_STAT_STATE 0 st).setFlag R.MAT_STAT_ARB_OUT 0 (st == mateAlone || st == mateActive)).setFlag
      R.MAT_STAT_KEPT 0 false
    (s1.updMate (fun m => { m with
      stateAt := if s.isRejoining st then m.stateAt else s.frame
      atTick := none, adopting := st == mateJoining, dual := if s.isActive then m.dual else 0 })).latch
      R.MAT_EVT_STATE_CHANGE

/-- The device is within 256 frames of its own takeover (R328). -/
def State.justTook (s : State) : Bool :=
  match s.mate.take with
  | some t => t.mine && t.done && !t.handover && decide (s.sinceFrame t.t ≤ 256)
  | none => false

/-- The device fails: it enters FAILED, whatever its state; within 256 frames of its takeover TAKE_FAIL is latched (R317, R328). A takeover of its own
that has not taken effect comes to nothing; one by the mate, or one that has, is announced to its end (R321). A device that is not paired has no mate
state (R298). -/
def State.failDevice (s : State) : State :=
  if !s.paired || s.mateState = mateFailed then s
  else
    let s1 := (s.mateTo mateFailed).latchIf s.justTook R.MAT_EVT_TAKE_FAIL
    let s2 := s1.updMate (fun m => { m with installed := false, atTick := none, wasActive := s.isActive })
    if s.mate.take.any (fun t => t.done || !t.mine) then s2
    else ((s2.setFlag R.MAT_STAT_TKV 0 false).setFld R.MAT_STAT_NEW_ROLE 0 0).updMate (fun m => { m with take := none, tkFrame := 0 })

/-! ### Epochs (R310, R314) -/

/-- The blocks of a part of an epoch (R307); their words are free values (DESIGN CHOICE: log entry 13). -/
def CopyPart.blocks (p : CopyPart) : List (List Nat) :=
  (List.range (Config.copyBlocks p.entries.length + 1)).map (fun k =>
    blockWords (p.blk + k) ((List.range 62).map (fun c => Config.copyWord (p.blk + k) c % 2 ^ 32)))

/-- A part of the epoch is sent in frame `f` (R314). -/
def Mate.send (m : Mate) (f : Nat) (es : List CopyEntry) : Mate :=
  { m with
    out := m.out ++ [{ frame := f, blk := m.blkNext, entries := es }]
    blkNext := m.blkNext + Config.copyBlocks es.length + 1 }

/-- Epoch `e` starts: its slices begin (R314). The active sends every slice in epoch 0, and later those that applies have changed since the
epoch before was complete; `inbound` says that the copy arrives here. -/
def State.startEpoch (s : State) (e : Nat) (inbound : Bool) : State :=
  let due := if inbound then [] else if e = 0 then List.range 65 else s.mate.dirty
  let s1 := { s with mate := { s.mate with
    stage := [], slices := [], due := due, out := [], inbound := inbound, want := false
    dirty := if !inbound && due.isEmpty then [] else s.mate.dirty
    peerHad := s.mate.peerHad && !(e = 0 && !inbound) } }
  (((s1.setFld R.MAT_COPY_EPOCH 0 e).setFld R.MAT_COPY_SLICE 0 0).setFld R.MAT_COPY_PHASE 0 (if !inbound && due.isEmpty then 2 else 1)).setFlag
    R.MAT_JFILL_OVERFLOW 0 false

/-- A new epoch 0 may start on the active: both heartbeats are valid, the mate is in JOINING or READY, the seeds match, no conflict lasts,
and no copy is being installed here (R303, R305, R314). -/
def State.copyable (s : State) : Bool :=
  s.isActive && s.flag R.MAT_STAT_HB_OK && (s.fld R.MAT_PEER_STATE == mateJoining || s.fld R.MAT_PEER_STATE == mateReady)
    && !s.mate.seedBad && !s.flag R.MAT_STAT_CONFLICT && !(s.mate.inbound && s.fld R.MAT_COPY_PHASE == 2)

/-- A new epoch 0 starts, now or as soon as it may (R303, R305, R310). -/
def State.newCopy (s : State) : State :=
  if s.copyable then s.startEpoch 0 false else { s with mate := { s.mate with want := true } }

/-- The active journals a record (R306, R309, R310). When the unacknowledged records would exceed the region they are all discarded with
JOVERFLOW, JSENT shows the gap, and a new epoch 0 starts. -/
def State.journal (s : State) (kind frame cseq : Nat) (units : List (List Nat)) : State :=
  if !s.isActive then s
  else
    let seq := (s.mate.jSeq + 1) % 2 ^ 32
    let r : JRec := { seq := seq, kind := kind, frame := frame, cseq := cseq, units := units, blk := s.mate.blkNext }
    if journalUnits < unitsOf s.mate.journal + 1 + units.length then
      let s1 := { s with mate := { s.mate with journal := [], jSeq := seq } }
      (((s1.setFld R.MAT_JSENT_VALUE 0 seq).setFlag R.MAT_JFILL_OVERFLOW 0 true).latch R.MAT_EVT_JOVERFLOW).countJournal.newCopy
    else
      let s1 := { s with mate := { s.mate with
        journal := s.mate.journal ++ [r], jSeq := seq, blkNext := s.mate.blkNext + blocksOf units.length } }
      (s1.storeUnits (r.header :: units)).countJournal

/-- The mate may be active too: it asserts the arbitration line, or no good heartbeat says that it is not (R299, R302; DEDUCED: log entry
49). -/
def State.bothActive (s : State) : Bool :=
  s.isActive && (s.flag R.MAT_STAT_ARB_IN || !s.flag R.MAT_STAT_HB_OK
    || s.fld R.MAT_PEER_STATE == mateAlone || s.fld R.MAT_PEER_STATE == mateActive)

/-- Edit records applied while both devices are active are counted, against this device's yielding (R302). -/
def State.countDual (s : State) (n : Nat) : State :=
  if s.bothActive then { s with mate := { s.mate with dual := s.mate.dual + n } } else s

end Sys2Proof.Machine
end

