-- ==== Sys2Proof/Machine/CountOps.lean ====
section
/-! DEFINITION. Counting in the counter bank (R440 to R446).
Readings and choices: DESIGN CHOICE (log entry 17). -/

namespace Sys2Proof.Machine

/-- `n` is added to bank counter `c`, with no regard to a chain above it; how often it wraps. -/
def State.bankRaw (s : State) (c n : Nat) : State × Nat :=
  let v := s.fld R.CNT_Bc_COUNT c + n
  (s.setFld R.CNT_Bc_COUNT c v, v / 2 ^ 48)

/-- `n` is added to bank counter `c`: a wrap carries into the counter above where CHAIN is active on `c`, and else latches
BANK_WRAP (R442, R444, R446). -/
def State.bankAdd (s : State) (c n : Nat) : State :=
  let (s1, k) := s.bankRaw c n
  if k = 0 then s1
  else if s1.flag R.CNT_Bc_CFG_CHAIN c then
    let (s2, k2) := s1.bankRaw (c + 1) k
    s2.latchIf (decide (0 < k2)) R.CNT_EVT_BANK_WRAP
  else s1.latch R.CNT_EVT_BANK_WRAP

/-- Whether bank counter `c` counts its own source, that source is `src`, and its scope, where the source has one, takes in instance `i`
(R440, R444). -/
def State.bankTakes (s : State) (src i c : Nat) : Bool :=
  s.fld R.CNT_Bc_CFG_SRC c == src && (decide (0xD ≤ src) || s.flag R.CNT_Bc_CFG_ALL c || s.fld R.CNT_Bc_CFG_SCOPE c == i)
    && !(c != 0 && s.flag R.CNT_Bc_CFG_CHAIN (c - 1))

/-- The bank counters that count source `src` for instance `i`. -/
def State.bankOf (s : State) (src i : Nat) : List Nat :=
  (s.regs.get R.CNT_Bc_CFG_SRC.id {}).keys.filter (s.bankTakes src i)

/-- The core cycles of a frame (R17). -/
def frameCycles : Nat := 165888

/-- The core cycle that the counters of core cycles have come to: in the frame, or of those before tick 0, which no frame bounds (R333, R440). -/
def State.cycleNow (s : State) : Nat := if s.ticking then s.cycle else s.plumb.early

/-- The counters of core cycles come to core cycle `k`. -/
def State.setCycle (s : State) (k : Nat) : State :=
  if s.ticking then { s with cycle := k } else { s with plumb := { s.plumb with early := k } }

/-- Some core cycle, of the frame where there is one, not before the last one named (DESIGN CHOICE: log entry 17). -/
def State.someCycle (s : State) : State :=
  (s.setCycle (if !s.ticking then s.plumb.early + Config.cycleStep s.free
    else if s.cycle < frameCycles then s.cycle + Config.cycleStep s.free % (frameCycles - s.cycle) else s.cycle)).drawn

/-- The core cycles that bank counter `c` has counted and its field does not hold yet (R440, R442). -/
def State.cyclesDue (s : State) (c : Nat) : Nat := if s.bankTakes 0xE 0 c then s.cycleNow - s.plumb.cycFrom.get c 0 else 0

/-- What bank counter `c` has counted and its field does not hold yet: core cycles, and the tick of the present frame (R440, R442). -/
def State.bankDue (s : State) (c : Nat) : Nat := s.cyclesDue c + b2n (s.plumb.tickDue.isSome && s.bankTakes 0xD 0 c)

/-- What a read of bank counter `c` returns: the value at the end of the core cycle before, with the carry of the counter chained below (R442,
R444). -/
def State.bankShown (s : State) (c : Nat) : Nat :=
  let carry := if c ≠ 0 ∧ s.flag R.CNT_Bc_CFG_CHAIN (c - 1) then (s.fld R.CNT_Bc_COUNT (c - 1) + s.bankDue (c - 1)) / 2 ^ 48 else 0
  (s.fld R.CNT_Bc_COUNT c + s.bankDue c + carry) % 2 ^ 48

/-- A read or a write of bank counter `c` comes in some core cycle, where the value depends on it (R442, R443). -/
def State.bankCycle (s : State) (c : Nat) : State :=
  if s.bankTakes 0xE 0 c || (c != 0 && s.flag R.CNT_Bc_CFG_CHAIN (c - 1) && s.bankTakes 0xE 0 (c - 1)) then s.someCycle else s

/-- The events of a core cycle in which bank counter `c` was written are added to the written value, and the carry is suppressed
(R443, R444); the wrap of a counter with no other above it latches BANK_WRAP (R446). -/
def State.bankAddWritten (s : State) (c n : Nat) : State :=
  if c ≠ 0 ∧ s.flag R.CNT_Bc_CFG_CHAIN (c - 1) then s
  else
    let (s1, k) := s.bankRaw c n
    s1.latchIf (decide (0 < k) && !s1.flag R.CNT_Bc_CFG_CHAIN c) R.CNT_EVT_BANK_WRAP

/-- Core cycles are counted from cycle `k` on in bank counter `c`. -/
def State.countFrom (s : State) (c k : Nat) : State := { s with plumb := { s.plumb with cycFrom := s.plumb.cycFrom.put c k } }

/-- The field of a counter of core cycles takes those that it has counted, and a wrap among them has carried or latched BANK_WRAP (R442, R444,
R446). -/
def State.bankUpTo (s : State) (c : Nat) : State :=
  if s.bankTakes 0xE 0 c then (s.bankAdd c (s.cyclesDue c)).countFrom c s.cycleNow else s

/-- A write of bank counter `c` comes in some core cycle: before it, the counter, or the one chained below, has counted those up to it (R443,
R444). -/
def State.bankSettle (s : State) (c : Nat) : State :=
  let s1 := s.bankCycle c
  if c ≠ 0 ∧ s1.flag R.CNT_Bc_CFG_CHAIN (c - 1) then s1.bankUpTo (c - 1) else s1.bankUpTo c

/-- A write of bank counter `c` has taken effect: one of core cycles counts that cycle, and those after it; where the tick of the frame is still
to be counted, the write falls in its core cycle (R443, R444). -/
def State.bankWritten (s : State) (c : Nat) : State :=
  if s.bankTakes 0xE 0 c then (s.bankAddWritten c 1).countFrom c (s.cycleNow + 1)
  else { s with plumb := { s.plumb with tickDue := s.plumb.tickDue.map (c :: ·) } }

/-- The bank counts the tick of the present frame, if it has still to (R440). -/
def State.countTick (s : State) : State :=
  match s.plumb.tickDue with
  | none => s
  | some l =>
    let s1 := (s.bankOf 0xD 0).foldl (fun t c => if l.contains c then t.bankAddWritten c 1 else t.bankAdd c 1) s
    { s1 with plumb := { s1.plumb with tickDue := none } }

/-- `n` events of source `src`, instance `i`, are counted in the bank (R440). -/
def State.bankCount (s : State) (src i n : Nat) : State :=
  if n = 0 then s else (s.bankOf src i).foldl (fun t c => t.bankAdd c n) s

/-- The wrap of a counter of core cycles comes in the core cycle in which it has counted enough of them, if the present frame, where there is one,
has it (R442). -/
def State.cycleWrap (s : State) (c : Nat) : State :=
  let n := 2 ^ 48 - s.fld R.CNT_Bc_COUNT c
  let k := s.plumb.cycFrom.get c 0 + n
  if s.cycleNow ≤ k ∧ (k ≤ frameCycles ∨ s.ticking = false) then ((s.bankAdd c n).setCycle k).countFrom c k else s

/-- COUNTER_WRAP (R440, R444, R446): the next event of its source reaches bank counter `c` at 2^48 − 1, and the counter wraps. A counter that has no
source, or takes the carry of the one below, has none; one of ticks wraps at a tick, under TICK. -/
def execCounterWrap (c : Fin 16384) (s : State) : Out :=
  .next (
    let src := s.fld R.CNT_Bc_CFG_SRC c.val
    if src = 0 ∨ src = 0xD ∨ (c.val ≠ 0 ∧ s.flag R.CNT_Bc_CFG_CHAIN (c.val - 1)) then s
    else if src = 0xE then s.cycleWrap c.val
    else if s.fld R.CNT_Bc_COUNT c.val = 2 ^ 48 - 1 then s.bankAdd c.val 1 else s)

end Sys2Proof.Machine
end

