-- ==== Sys2Proof/Machine/Fec.lean ====
section
/-! DEFINITION. The line code of a lane: the symbols on the wire (R45, R46), the scrambler (R89) and the four interleaved
RS(864,804) codewords of a row (R90 to R93).
Readings and choices: DEDUCED (log entry 46). -/

namespace Sys2Proof

/-- The level index of a bit pair (R46): the Gray code 00, 01, 11, 10. -/
def grayLevel (p : Nat) : Nat :=
  match p with
  | 0 => 0
  | 1 => 1
  | 3 => 2
  | _ => 3

/-- The bit pair of a level index (R46). -/
def grayPair (k : Nat) : Nat :=
  match k with
  | 0 => 0
  | 1 => 1
  | 2 => 3
  | _ => 2

/-- The 18 PAM4 level indexes of a word (R45), level `3 - k` for level `k` when `inv` (R48). -/
def wordLevels (inv : Bool) (w : Nat) : List Nat :=
  (List.range 18).map (fun k =>
    let l := grayLevel (bits w (34 - 2 * k) 2)
    if inv then 3 - l else l)

/-- One step of the scrambler: the next keystream bit and the next state (R89). -/
def scrStep (st : Nat) : Nat × Nat :=
  let k := (bit st 30 + bit st 27) % 2
  (k, (st * 2 + k) % 2 ^ 31)

/-- `n` keystream bits as a number, most significant bit first, and the state after them. -/
def scrRun : Nat → Nat → Nat × Nat
  | 0, st => (0, st)
  | n + 1, st =>
    let (hi, st') := scrRun n st
    let (k, st'') := scrStep st'
    (hi * 2 + k, st'')

/-- `n` keystream words of 36 bits and the state after them. -/
def scrWords : Nat → Nat → List Nat × Nat
  | 0, st => ([], st)
  | n + 1, st =>
    let (w, st') := scrRun 36 st
    let (l, st'') := scrWords n st'
    (w :: l, st'')

/-- The scrambler state before the first scrambled word of row `r`: all ones before row 0, word 2; 1,070 words in row 0 and
1,071 in each later row (R89). -/
def scrAtRow : Nat → Nat
  | 0 => 0x7FFFFFFF
  | 1 => (scrWords 1070 0x7FFFFFFF).2
  | r + 1 => (scrWords 1071 (scrAtRow r)).2

/-- The keystream words over a row's words 0 to 1,071: zero over the words sent unscrambled (R86). -/
def rowKeystream (r : Nat) : List Nat :=
  if r = 0 then 0 :: 0 :: (scrWords 1070 (scrAtRow 0)).1
  else 0 :: (scrWords 1071 (scrAtRow r)).1

/-- A row's data words scrambled, or descrambled: the sequence is additive (R89). -/
def scrambleRow (r : Nat) (ws : List Nat) : List Nat := List.zipWith Nat.xor ws (rowKeystream r)

/-- The test pattern of a training row, words 6 to 1,151: the sequence over zero data, seeded to all ones at word 6 (R67). -/
def testPattern : List Nat := (scrWords 1146 0x7FFFFFFF).1

/-- The test-pattern bit errors of a received training row (R70). -/
def patternErrors (row : List Nat) : Nat :=
  (List.zipWith (fun a b => popCount 36 (Nat.xor a b)) (row.drop 6) testPattern).foldl (· + ·) 0

/-! ### GF(2^12) -/

/-- Twice an element: multiplication by α, a root of x^12 + x^6 + x^4 + x + 1 (R90). -/
def gfDouble (a : Nat) : Nat := if a < 2048 then 2 * a else Nat.xor (2 * a - 4096) 0x53

/-- The product of two field elements. -/
def gfMul (a b : Nat) : Nat :=
  (List.range 12).foldl (fun acc k => Nat.xor (gfDouble acc) (if bit b (11 - k) = 1 then a else 0)) 0

/-- A power of a field element. -/
def gfPow (a : Nat) : Nat → Nat
  | 0 => 1
  | n + 1 => gfMul (gfPow a n) a

/-- The inverse of a nonzero element: a^(2^12 - 2), by repeated squaring. -/
def gfInv (a : Nat) : Nat :=
  ((List.range 11).foldl (fun (p : Nat × Nat) _ => let sq := gfMul p.1 p.1; (sq, gfMul p.2 sq)) (a, 1)).2

/-- A polynomial's value, its coefficients highest power first. -/
def polyEval (l : List Nat) (x : Nat) : Nat := l.foldl (fun acc c => Nat.xor (gfMul acc x) c) 0

/-- The coefficients of (p)(x − r), highest power first. -/
def polyMulRoot (p : List Nat) (r : Nat) : List Nat :=
  List.zipWith Nat.xor (p ++ [0]) (0 :: p.map (gfMul r))

/-- The generator polynomial (x − α^0) … (x − α^59), highest power first (R90). -/
def rsGen : List Nat := ((List.range 60).foldl (fun (p : List Nat × Nat) _ => (polyMulRoot p.1 p.2, gfDouble p.2)) ([1], 1)).1

/-- The remainder of d(x)·x^60 by the generator: the 60 parity symbols (R90). -/
def rsParity (data : List Nat) : List Nat :=
  let g := rsGen.drop 1
  data.foldl (fun rem d =>
    let f := Nat.xor d (rem.headD 0)
    List.zipWith Nat.xor (rem.drop 1 ++ [0]) (g.map (gfMul f))) (List.replicate 60 0)

/-- The 60 syndromes of a received word: its values at α^0 to α^59. -/
def syndromes (cw : List Nat) : List Nat :=
  ((List.range 60).foldl (fun (p : List Nat × Nat) _ => (p.1 ++ [polyEval cw p.2], gfDouble p.2)) ([], 1)).1

/-- The state of the search for the shortest recurrence of the syndromes: locator, previous locator, length, shift and previous
discrepancy; polynomials lowest power first. -/
structure BmState where
  c : List Nat := [1]
  b : List Nat := [1]
  len : Nat := 0
  m : Nat := 1
  db : Nat := 1

/-- The sum of two polynomials, lowest power first. -/
def polyAdd : List Nat → List Nat → List Nat
  | [], q => q
  | p, [] => p
  | a :: p, b :: q => Nat.xor a b :: polyAdd p q

/-- One step of the recurrence search at syndrome `n`. -/
def bmStep (syn : List Nat) (st : BmState) (n : Nat) : BmState :=
  let d := (List.range (st.len + 1)).foldl
    (fun acc i => Nat.xor acc (gfMul (st.c.getD i 0) (if i ≤ n then syn.getD (n - i) 0 else 0))) 0
  if d = 0 then { st with m := st.m + 1 }
  else
    let f := gfMul d (gfInv st.db)
    let c' := polyAdd st.c (List.replicate st.m 0 ++ st.b.map (gfMul f))
    if 2 * st.len ≤ n then { c := c', b := st.c, len := n + 1 - st.len, m := 1, db := d }
    else { st with c := c', m := st.m + 1 }

/-- The error locator of a received word and its degree. -/
def locator (syn : List Nat) : BmState := (List.range 60).foldl (bmStep syn) {}

/-- The value of a polynomial given lowest power first. -/
def polyEvalLow (l : List Nat) (x : Nat) : Nat := polyEval l.reverse x

/-- The decoded codeword and how many symbols were corrected; `none` for an uncorrectable codeword (R93). The answer is the codeword
within 30 symbols of what was received, where there is one: the corrected word is checked by its syndromes. -/
def rsDecode (cw : List Nat) : Option (List Nat × Nat) :=
  let syn := syndromes cw
  if syn.all (· == 0) then some (cw, 0)
  else
    let st := locator syn
    if 30 < st.len then none
    else
      let omega := (List.range st.len).map (fun k =>
        (List.range (k + 1)).foldl (fun acc i => Nat.xor acc (gfMul (st.c.getD i 0) (syn.getD (k - i) 0))) 0)
      let deriv := (List.range st.len).map (fun i => if i % 2 = 0 then st.c.getD (i + 1) 0 else 0)
      let alphaInv := gfInv 2
      -- from the last coefficient (x^0) to the first (x^863)
      let step := fun (p : List Nat × Nat × Nat × Nat) (v : Nat) =>
        let x := p.2.1        -- α^(-position)
        let xi := p.2.2.1     -- α^(position)
        let e := if polyEvalLow st.c x = 0 then
            gfMul xi (gfMul (polyEvalLow omega x) (gfInv (polyEvalLow deriv x))) else 0
        (Nat.xor v e :: p.1, gfMul x alphaInv, gfDouble xi, p.2.2.2 + (if e = 0 then 0 else 1))
      let out := cw.reverse.foldl step ([], 1, 1, 0)
      let n := out.2.2.2
      if n ≤ 30 && (syndromes out.1).all (· == 0) then some (out.1, n) else none

/-- The 3,456 symbols of a row: word w holds symbols 3w, 3w + 1, 3w + 2 in bits 35:24, 23:12 and 11:0 (R91). -/
def rowSymbols (ws : List Nat) : List Nat := ws.flatMap (fun w => [bits w 24 12, bits w 12 12, bits w 0 12])

/-- Codeword `j` of a row: symbols i with i mod 4 = j, data then parity, highest power first (R91). -/
def rowCodeword (syms : List Nat) (j : Nat) : List Nat :=
  (List.range 864).map (fun k => syms.getD (4 * k + j) 0)

/-- The parity words 1,072 to 1,151 of a row whose words 0 to 1,071 go to the line as `ws` (R91, R92). -/
def rowParityWords (ws : List Nat) : List Nat :=
  let syms := rowSymbols ws
  let par := (List.range 4).map (fun j => rsParity ((List.range 804).map (fun k => syms.getD (4 * k + j) 0)))
  let s := fun i => (par.getD (i % 4) []).getD (i / 4) 0
  (List.range 80).map (fun w => s (3 * w) * 2 ^ 24 + s (3 * w + 1) * 2 ^ 12 + s (3 * w + 2))

/-- What the decoder gives for a row (R93, R94): its corrected data words, for each of them whether it touches an
uncorrectable codeword, the corrected-symbol count and the number of uncorrectable codewords. -/
structure RowDecode where
  words : List Nat
  bad : List Bool
  corr : Nat
  unc : Nat

/-- The decoding of a row's 1,152 line words (R91 to R94). -/
def decodeRow (ws : List Nat) : RowDecode :=
  let syms := rowSymbols ws
  let recv := (List.range 4).map (rowCodeword syms)
  let dec := recv.map rsDecode
  let good := fun j => ((dec.getD j none).map (·.1)).getD (recv.getD j [])
  let ok := fun j => (dec.getD j none).isSome
  let cols := (List.range 4).map good
  let s := fun i => (cols.getD (i % 4) []).getD (i / 4) 0
  { words := (List.range 1072).map (fun w => s (3 * w) * 2 ^ 24 + s (3 * w + 1) * 2 ^ 12 + s (3 * w + 2))
    bad := (List.range 1072).map (fun w => (List.range 3).any (fun k => !ok ((3 * w + k) % 4)))
    corr := dec.foldl (fun n d => n + (d.map (·.2)).getD 0) 0
    unc := dec.foldl (fun n d => n + (if d.isSome then 0 else 1)) 0 }

end Sys2Proof
end

