-- ==== Sys2Proof/Machine/Sisters.lean ====
section
/-! DEFINITION. What the other chapters need of sistering and of the tally: the records that wait for the log, spares found and spent, and
what the triggers watch (R459 to R463, R472).
Readings and choices: DEDUCED (log entry 39), DEDUCED (log entry 46). -/

namespace Sys2Proof.Machine

/-! ### Records for the tally's log (R472) -/

def tallyRaise : Nat := 0x01
def tallySubst : Nat := 0x02
def tallyNeed : Nat := 0x03
def tallySound : Nat := 0x04
def tallyTamper : Nat := 0x05
def tallyLife : Nat := 0x06
def tallyRevoke : Nat := 0x07
def tallyDdrDown : Nat := 0x08
def tallySvn : Nat := 0x09
def tallyDpll : Nat := 0x0A
def tallyDecoder : Nat := 0x0B
def tallySuppressed : Nat := 0x0C

/-- A record waits for the log; `data` gives its bytes from byte 16, the rest of the twelve 0 (R472). -/
def State.tallyAdd (s : State) (kind cls inst : Nat) (data : List Nat) : State :=
  { s with tallyQ := s.tallyQ ++ [{ kind := kind, cls := cls, inst := inst, frame := s.frame, data := data }] }

/-- A number as four little-endian bytes. -/
def bytes4 (v : Nat) : List Nat := (List.range 4).map (fun k => v / 2 ^ (8 * k) % 256)

/-! ### Classes (R459) -/

def classLane : Nat := 0
def classLam : Nat := 1
def classBank : Nat := 2
def classFec : Nat := 3
def classJoiner : Nat := 4
def classDpll : Nat := 5
def classScribe : Nat := 6

/-- The hidden state of sistering changed by `f`. -/
def State.updSist (s : State) (f : Sist → Sist) : State := { s with sist := f s.sist }

/-- The substitution of a decoder runs, or waits its turn. -/
def FecSub.running : FecSub → Bool
  | .waits | .compares _ => true
  | .replaced | .host | .none => false

/-- The groups of fabric banks: those that the fuses give a sister (R423, DEDUCED: log entry 15). -/
def State.bankGroups (s : State) : Nat := bits s.fuses.spares.toNat 6 7

/-- TLY_STAT.SIST_BUSY follows the automatic substitutions that run, of lanes, a lamination, decoders, a joiner, and a DPLL core under R465
(R460). -/
def State.showBusy (s : State) : State :=
  s.setFlag R.TLY_STAT_SIST_BUSY 0 (!s.sist.lanePend.isEmpty || !s.sist.laneRun.isEmpty || s.sist.lamPend.isSome
    || s.sist.lamRun.isSome || s.sist.fec.entries.any (fun e => e.2.running) || s.sist.joiner.isSome || decide (2 ≤ s.plumb.test))

/-- A trigger whose class is not automatic: SUBST_NEED is latched and recorded, and the host decides (R460). The code of the trigger is
not stated (DESIGN CHOICE: log entry 8). -/
def State.needSubst (s : State) (cls inst : Nat) : State :=
  ((s.latch R.TLY_EVT_SUBST_NEED).tallyAdd tallyNeed cls inst [Config.open' s.free % 256]).drawn

/-- A substitution is complete, its spare selected in frame `f` (R459, R472). -/
def State.substDoneAt (s : State) (cls inst spare f : Nat) : State :=
  ((s.latch R.TLY_EVT_SUBST_DONE).tallyAdd tallySubst cls inst ([spare % 256, 0, 0, 0] ++ bytes4 f)).showBusy

/-- A substitution is complete in the present frame. -/
def State.substDone (s : State) (cls inst spare : Nat) : State := s.substDoneAt cls inst spare s.frame

/-- A trigger finds no spare of its class (R460). -/
def State.exhausted (s : State) : State := s.latch R.TLY_EVT_SPARE_EXHAUSTED

/-- Whether the class's AUTO bit is 1 (R460). -/
def State.autoSubst (s : State) (bit : Nat) : Bool := (s.fld R.TLY_SIST_CFG_AUTO).testBit bit

/-! ### Laminations (R462) -/

/-- A frame is added to those that a trigger watches; `window` frames back is as far as it looks. -/
def watch (l : List Nat) (f window : Nat) : List Nat :=
  (l.filter (fun g => decide ((f + 2 ^ 32 - g % 2 ^ 32) % 2 ^ 32 < window))) ++ [f]

/-- Kerf failures persist in lamination `k` (R462, R469): its count has risen in 3 frames out of 8. -/
def State.kerfPersists (s : State) (k : Nat) : Bool :=
  decide (3 ≤ ((s.sist.lamErr.get k []).filter (fun f => decide (s.sinceFrame f < 8))).length)

/-- Lamination `k` triggers substitution: its kerf failures persist, or LAM_MISMATCH has been latched 3 times in 8,000 frames while it is
shadowed (R462). -/
def State.lamTriggers (s : State) (k : Nat) : Bool :=
  s.kerfPersists k
    || (s.fld R.FAB_LAM_STAT_SHADOW_ACT == k
      && decide (3 ≤ (s.sist.lamMm.filter (fun f => decide (s.sinceFrame f < 8000))).length))

/-- Lamination `k` is the one that LAMS stands in for (R178). -/
def State.lamReplaced (s : State) (k : Nat) : Bool := s.flag R.FAB_LAM_STAT_SUB_ACT && s.fld R.FAB_LAM_STAT_SHADOW_ACT == k

/-- Lamination `k` fails the device (R317, R469): kerf failures persist in it with LAMS retired or already substituted. For LAMS itself that is
while it carries traffic. -/
def State.lamFails (s : State) (k : Nat) : Bool :=
  s.kerfPersists k && !s.lamReplaced k
    && (if k = 9 then s.sist.lamsGone && s.flag R.FAB_LAM_STAT_SUB_ACT else s.sist.lamsGone || s.flag R.FAB_LAM_STAT_SUB_ACT)

/-- Rotation ends: ROTATE is 0, staged and active (R460, R462). -/
def State.endRotation (s : State) : State :=
  ((s.setFld R.FAB_LAM_CTRL_ROTATE 0 0).setStg R.FAB_LAM_CTRL_ROTATE 0 0).setFlag R.FAB_LAM_STAT_ROTATE_ACT 0 false

/-- A trigger on LAMS retires it and ends rotation (R462); a substitution that would bring it in ends, and what waits finds no spare at the next
kerf (R460). -/
def State.retireLams (s : State) : State :=
  let s1 := s.exhausted.updSist (fun x => { x with lamsGone := true, lamPend := none, lamRun := none, lamWait := [] })
  (s1.setFld R.TLY_SPARES_LAM 0 0).endRotation.showBusy

/-- What a trigger of lamination `k` starts (R460, R462, R467, R469), at tick `due`. One of the lamination that LAMS stands in for starts nothing; a second waits for
the first; one that finds LAMS in use or retired finds no spare, and fails the device where kerf failures persist. -/
def State.lamTrigger (s : State) (k due : Nat) : State :=
  if s.lamReplaced k || s.sist.lamPend == some k || s.sist.lamRun == some k || s.sist.lamWait.contains k then s
  else if s.lamFails k then s.exhausted.failDevice
  else if k = 9 then (if s.sist.lamsGone then s else s.retireLams)
  else if s.sist.lamPend.isSome || s.sist.lamRun.isSome then s.updSist (fun x => { x with lamWait := x.lamWait ++ [k] })
  else if s.sist.lamsGone || s.flag R.FAB_LAM_STAT_SUB_ACT then s.exhausted
  else if s.autoSubst 1 then (s.updSist (fun x => { x with lamPend := some k, lamDue := due })).showBusy
  else s.needSubst classLam k

/-- The triggers of the laminations, evaluated at the end of each kerf (R462): the kerf of frame M ends in frame M + 1, so that what they start
begins at tick M + 2. -/
def State.evalLams (s : State) : State :=
  (List.range 10).foldl (fun t k => if s.lamTriggers k then t.lamTrigger k (frameAdd s.frame 2) else t) s

/-- The shadow moves to lamination `k`: SHADOW_FRAMES restarts, and the mismatches of the one before no longer count (R177, R462). -/
def State.moveShadow (s : State) (k : Nat) : State :=
  ((s.setFld R.FAB_LAM_STAT_SHADOW_ACT 0 k).setFld R.FAB_LAM_STAT_SHADOW_FRAMES 0 0).updSist (fun x => { x with lamMm := [] })

/-! ### Decoders (R463) -/

/-- The faulty decoder of lane `n` is in a state. -/
def State.setFec (s : State) (n : Nat) (f : FecSub) : State := s.updSist (fun x => { x with fec := x.fec.put n f })

/-- A spare decoder compares. -/
def State.fecCompares (s : State) : Bool := s.sist.fec.entries.any (fun e => match e.2 with
  | .compares _ => true
  | _ => false)

/-- A spare decoder compares for lane `n` from the next row, or its substitution waits for the one that runs (R463, R467). -/
def State.startFec (s : State) (n : Nat) : State :=
  (if s.fecCompares then
    (s.setFec n .waits).updSist (fun x => { x with fecWait := x.fecWait ++ [n] })
   else s.setFec n (.compares 0)).showBusy

/-- Lane `n`'s decoder is found faulty (R460, R463): a spare decoder is brought in, or the host decides; with no spare left
DECODER_FAIL is recorded (R469). -/
def State.callFec (s : State) (n : Nat) : State :=
  if s.fld R.TLY_SPARES_FEC = 0 then (s.exhausted.tallyAdd tallyDecoder 0 n [n % 256]).setFec n .none
  else if s.autoSubst 2 then s.startFec n
  else (s.needSubst classFec n).setFec n .host

/-- Lane `n`'s decoder proves faulty in a row: a trigger, unless the decoder is known to be faulty already; one that waits for the host is
brought in once AUTO allows it (R460, R463). -/
def State.fecTrigger (s : State) (n : Nat) : State :=
  match s.sist.fec.find n with
  | some .waits | some (.compares _) | some .none => s
  | some .host => if s.autoSubst 2 then s.callFec n else s
  | some .replaced | .none => s.callFec n

/-- A row of lane `n` has been compared (R463). -/
def State.fecRow (s : State) (n : Nat) : State :=
  match s.sist.fec.find n with
  | some (.compares k) => s.setFec n (.compares (k + 1))
  | _ => s

/-- The decoders that wait are taken in order, until one is compared (R467). -/
def State.nextFec (s : State) : State :=
  (s.sist.fecWait.foldl (fun t n =>
    if t.fecCompares then t
    else (t.updSist (fun x => { x with fecWait := x.fecWait.erase n, fec := x.fec.del n })).callFec n) s).showBusy

/-- FEC_SUBST_SWITCH (R463): after 128 rows the spare takes the place of lane `n`'s decoder; a spare that disagrees with the check is retired
and the next is tried. -/
def execFecSubstSwitch (n : LaneIx) (agree : Bool) (s : State) : Out :=
  .next (
    match s.sist.fec.find n.val with
    | some (.compares k) =>
      if k < 128 then s
      else
        let left := s.fld R.TLY_SPARES_FEC - 1
        let s1 := s.setFld R.TLY_SPARES_FEC 0 left
        if agree then ((s1.setFec n.val .replaced).substDone classFec n.val (7 - left)).nextFec
        else if left = 0 then ((s1.exhausted.tallyAdd tallyDecoder 0 n.val [n.val % 256]).setFec n.val .none).nextFec
        else s1.setFec n.val (.compares 0)
    | _ => s)

/-! ### LSD on a traffic lane (R461) -/

/-- The frames of a day. -/
def dayFrames : Nat := 691200000

/-- LSD is declared on lane `n`: a spell begins (R461). -/
def State.lsdBegins (s : State) (n : Nat) : State := s.updSist (fun x => { x with lsdFrom := x.lsdFrom.put n s.frame })

/-- LSD clears on lane `n`: the spell is kept for a day (R461). -/
def State.lsdEnds (s : State) (n : Nat) : State :=
  match s.sist.lsdFrom.find n with
  | none => s
  | some f => s.updSist (fun x =>
      let old := (x.lsdSpells.get n []).filter (fun p => decide (s.sinceFrame p.2 < dayFrames))
      { x with lsdFrom := x.lsdFrom.del n, lsdSpells := x.lsdSpells.put n (old ++ [(f, s.frame)]) })

/-- LOS, LOL or LOF is declared on lane `n`, or clears: what was counted of LSD is void (R461). -/
def State.hardDefect (s : State) (n : Nat) : State :=
  s.updSist (fun x => { x with lsdSpells := x.lsdSpells.del n, lsdFrom := if (x.lsdFrom.find n).isSome then x.lsdFrom.put n s.frame else x.lsdFrom })

/-- A defect that leaves no time to count of LSD is declared on lane `n` (R461). -/
def State.hardDown (s : State) (n : Nat) : Bool := s.flag R.LN_FRM_STAT_LOS n || s.flag R.LN_FRM_STAT_LOL n || s.flag R.LN_FRM_STAT_LOF n

/-- The frames for which LSD has been declared on lane `n` within the last day, since the last LOS, LOL or LOF, none while one of them is
declared (R461). -/
def State.lsdFrames (s : State) (n : Nat) : Nat :=
  let within (f : Nat) : Nat := min (s.sinceFrame f) dayFrames
  if s.hardDown n then 0
  else ((s.sist.lsdSpells.get n []).foldl (fun a p => a + (within p.1 - within p.2)) 0)
    + (match s.sist.lsdFrom.find n with
      | some f => within f
      | none => 0)

end Sys2Proof.Machine
end

