-- ==== Sys2Proof/Machine/LaneOps.lean ====
section
/-! DEFINITION. What the commands of a lane share: its fitting states, its messages, its defects and consequent actions, its
transmit timing and its spare (chapters 2 and 3). -/

namespace Sys2Proof.Machine

/-! ### Fitting states (LN_FIT_STATUS.STATE, R58) -/

def fitDisabled : Nat := 0
def fitSignal : Nat := 1
def fitLock : Nat := 2
def fitTune : Nat := 3
def fitFrame : Nat := 4
def fitIntro : Nat := 5
def fitService : Nat := 6
def fitWait : Nat := 7

/-- Alignment states (LN_FRM_STAT.ALIGN, R112). -/
def alignHunt : Nat := 0
def alignSync : Nat := 3

/-- The fitting state of lane `n`. -/
def State.fit (s : State) (n : Nat) : Nat := s.fld R.LN_FIT_STATUS_STATE n

/-- Lane `n` is in SERVICE. -/
def State.inService (s : State) (n : Nat) : Bool := s.fit n == fitService

/-- The alignment of lane `n` is SYNC. -/
def State.inSync (s : State) (n : Nat) : Bool := s.fld R.LN_FRM_STAT_ALIGN n == alignSync

/-- Lane `n` sends traffic frames (R58). -/
def State.sendsTraffic (s : State) (n : Nat) : Bool :=
  s.fit n == fitFrame || s.fit n == fitIntro || s.fit n == fitService

/-- The timeout of a fitting state, in frames (R58). -/
def fitTimeoutOf (st : Nat) : Option Nat :=
  if st = fitSignal then some 160 else if st = fitLock then some 80 else if st = fitTune then some 2000
  else if st = fitFrame then some 160 else if st = fitIntro then some 400 else none

/-! ### Defects (R115, R116) -/

/-- The defects, as bits of LN_FRM_STAT. -/
inductive Defect where
  | los | lol | oof | lof | lais | lrdi | lsd | lsf | lmm | lph
deriving DecidableEq, Repr

/-- A defect's flag. -/
def Defect.fld : Defect → Fld
  | .los => R.LN_FRM_STAT_LOS
  | .lol => R.LN_FRM_STAT_LOL
  | .oof => R.LN_FRM_STAT_OOF
  | .lof => R.LN_FRM_STAT_LOF
  | .lais => R.LN_FRM_STAT_LAIS
  | .lrdi => R.LN_FRM_STAT_LRDI
  | .lsd => R.LN_FRM_STAT_LSD
  | .lsf => R.LN_FRM_STAT_LSF
  | .lmm => R.LN_FRM_STAT_LMM
  | .lph => R.LN_FRM_STAT_LPH

/-- A defect's bit in LN_FRM_STAT and in LN_DEF_EVT.DEF_ENTRY (R116). -/
def Defect.bitNo : Defect → Nat
  | .los => 4
  | .lol => 5
  | .oof => 6
  | .lof => 7
  | .lais => 8
  | .lrdi => 9
  | .lsd => 10
  | .lsf => 11
  | .lmm => 12
  | .lph => 13

/-- The defects above a defect in the masking order LOS, LOL, LOF, OOF, LMM, LSF, LAIS, LSD (R116); none for LRDI and LPH. -/
def Defect.maskedBy : Defect → List Defect
  | .los | .lrdi | .lph => []
  | .lol => [.los]
  | .lof => [.los, .lol]
  | .oof => [.los, .lol, .lof]
  | .lmm => [.los, .lol, .lof, .oof]
  | .lsf => [.los, .lol, .lof, .oof, .lmm]
  | .lais => [.los, .lol, .lof, .oof, .lmm, .lsf]
  | .lsd => [.los, .lol, .lof, .oof, .lmm, .lsf, .lais]

/-- The bit of a defect in CUT_SCNn_TRIG.DEFECTS, for the defects that a scene can select (R217). -/
def Defect.sceneBit : Defect → Option Nat
  | .los => some 0
  | .lol => some 1
  | .lof => some 2
  | .lais => some 3
  | .lsf => some 4
  | .lsd => some 5
  | .lmm => some 6
  | .oof | .lrdi | .lph => none

/-- Whether a defect is declared on lane `n`. -/
def State.declared (s : State) (n : Nat) (d : Defect) : Bool := s.flag d.fld n

/-- A defect with a consequent action is declared on lane `n` (R115, R118). -/
def State.caDefect (s : State) (n : Nat) : Bool :=
  [Defect.los, .lol, .oof, .lais, .lsf, .lmm].any (s.declared n)

/-- A consequent action is active on lane `n`: such a defect, or the lane is not in SERVICE (R118). -/
def State.caActive (s : State) (n : Nat) : Bool := s.caDefect n || !s.inService n

/-- LN_FRM_STAT.CA follows the consequent action, which lasts to the end of the page (R118). The frames that R65 asks of LOS, LOL and LOF
are those since the first of them that has been declared without a frame in which none was (DESIGN CHOICE: log entry 61). -/
def State.refreshCa (s : State) (n : Nat) : State :=
  let ca := s.caActive n
  let s1 := s.setFlag R.LN_FRM_STAT_CA n ca
  s1.updLane n (fun l => { l with
    aisHold := l.aisHold || ca
    caSince := if ca then (if l.caSince.isSome then l.caSince else some s.frame) else none
    defSince := if s.caDefect n then (if l.defSince.isSome then l.defSince else some s.frame) else none
    losSince := if s.declared n .los then (if l.losSince.isSome then l.losSince else some s.frame) else none
    persSince := if s.declared n .los || s.declared n .lol || s.declared n .lof then
        (if l.persSince.isSome then l.persSince else some s.frame) else none })

/-- Every scene whose trigger names lane `n` and is not primed is primed again once none of its defects is declared (R217). -/
def State.rePrime (s : State) (n : Nat) : State :=
  (List.range 256).foldl (fun t k =>
    if t.flag R.CUT_SCNn_TRIG_EN k && t.fld R.CUT_SCNn_TRIG_LANE k == n && !t.flag R.CUT_SCNn_TRIG_PRIMED k
      && !([Defect.los, .lol, .lof, .lais, .lsf, .lsd, .lmm].any (fun d =>
          (d.sceneBit.map (fun b => (t.fld R.CUT_SCNn_TRIG_DEFECTS k).testBit b)).getD false && t.declared n d))
    then t.setFlag R.CUT_SCNn_TRIG_PRIMED k true else t) s

/-- A loop-timed lane falls back to system timing (R56): TXLOOP_FALLBACK is latched and ψ slews towards 2,389 core cycles. -/
def State.loopFallback (s : State) (n : Nat) : State :=
  if s.flag R.LN_TX_STAT_TIMING_ACT n then
    (((s.setFlag R.LN_TX_STAT_TIMING_ACT n false).setFlag R.LN_TX_STAT_SLEWING n true).updLane n (fun l =>
      { l with fellBack := true })).latch R.LN_FIT_EVT_TXLOOP_FALLBACK n
  else s

/-- A defect is declared (R115): its entry is latched unless a defect above it in the masking order is declared (R116); the
consequent action starts (R118); LOS and LOL end loop timing (R56) and the windows of a reversion (R80). -/
def State.declare (s : State) (n : Nat) (d : Defect) : State :=
  if s.declared n d then s
  else
    let masked := d.maskedBy.any (s.declared n)
    let s1 := (s.setFlag d.fld n true).latchIf (!masked) { R.LN_DEF_EVT_DEF_ENTRY with bit := d.bitNo } n
    let s2 := if d = .los || d = .lol then
        (s1.loopFallback n).updLane n (fun l => { l with badRun := 0, winFrames := 0, winCorr := 0 }) else s1
    let s3 := if d = .lsd then s2.lsdBegins n else if d = .los || d = .lol || d = .lof then s2.hardDefect n else s2
    s3.refreshCa n

/-- A defect clears by its own exit criterion: DEF_CLEAR is latched (R116) and scene triggers are primed again (R217). -/
def State.undeclare (s : State) (n : Nat) (d : Defect) : State :=
  if s.declared n d then
    let s1 := if d = .lsd then s.lsdEnds n else if d = .los || d = .lol || d = .lof then s.hardDefect n else s
    (((s1.setFlag d.fld n false).latch R.LN_DEF_EVT_DEF_CLEAR n).refreshCa n).rePrime n
  else s

/-- The persistence counts of the defects, back at their start (R116, R117). -/
def LaneSt.clearCounts (l : LaneSt) : LaneSt :=
  { l with laisOn := 0, laisOff := 0, lrdiOn := 0, lrdiOff := 0, lidBad := 0, lidGood := 0, lphIn := 0,
           winBlock := none, winFull := false, wCorr := 0, wUnc := 0, sdHi := 0, sdLo := 0, sfHi := 0, sfLo := 0, ucHit := false }

/-- OOF begins (R115). -/
def State.declareOof (s : State) (n : Nat) : State :=
  (s.updLane n (fun l => { l with oofSince := some s.frame })).declare n .oof

/-- Every defect but LOS and LOL is cleared with no event, and its counts are reset (R117). Where the alignment is not SYNC the entry
criterion of OOF holds, and OOF begins anew (R115; DEDUCED: log entry 64). -/
def State.wipeDefects (s : State) (n : Nat) : State :=
  let s1 := [Defect.oof, .lof, .lais, .lrdi, .lsd, .lsf, .lmm, .lph].foldl (fun t d => t.setFlag d.fld n false) s
  let s0 := if s.hardDown n then (s1.lsdEnds n).hardDefect n else s1.lsdEnds n
  let s2 := ((s0.updLane n (fun l => { l.clearCounts with oofSince := none })).refreshCa n).rePrime n
  if s.inSync n then s2 else s2.declareOof n

/-! ### Signal detect (R509) -/

/-- Signal detect after one more row period: present above 85 mV throughout, absent below 45 mV, else as it was; and for how many row
periods in a row it has been absent or present. -/
def LaneSt.judgeLevel (l : LaneSt) (r : RowLevel) : LaneSt :=
  let d := if 85 < r.least then true else if r.most < 45 then false else l.detect
  { l with detect := d, absentRun := if d then 0 else l.absentRun + 1, presentRun := if d then l.presentRun + 1 else 0 }

/-- Signal detect after the row periods whose amplitudes a command brings, oldest first. -/
def LaneSt.judgeLevels (l : LaneSt) (rs : List RowLevel) : LaneSt := rs.foldl LaneSt.judgeLevel l

/-- `s` with lane `n`'s signal detect judged over these row periods. -/
def State.judgeLevels (s : State) (n : Nat) (rs : List RowLevel) : State := s.updLane n (fun l => l.judgeLevels rs)

/-- The row periods of 8 frames (R58, R115). -/
def detectRows : Nat := 1024

/-! ### Transmit coefficients (R49 to R51) -/

/-- The taps c(−3), c(−2), c(−1), c(+1) of a preset (R49). -/
def presetTaps (p : Nat) : List Int :=
  match p with
  | 0 => [0, 0, 0, 0]
  | 1 => [0, 0, -6, -4]
  | 2 => [0, 2, -12, -6]
  | _ => [-2, 4, -18, -8]

/-- The ranges of the taps c(−3), c(−2), c(−1), c(+1) (R49). -/
def tapRange (t : Nat) : Int × Int :=
  match t with
  | 0 => (-6, 0)
  | 1 => (0, 10)
  | 2 => (-24, 0)
  | _ => (-16, 0)

/-- c(0) for the four taps: what is left of 64 (R49). -/
def tapC0 (ts : List Int) : Int := 64 - (ts.map (fun t => (t.natAbs : Int))).sum

/-- The taps of lane `n`. -/
def State.taps (s : State) (n : Nat) : List Int :=
  [s.ifld R.LN_TX_COEF_CM3 n, s.ifld R.LN_TX_COEF_CM2 n, s.ifld R.LN_TX_COEF_CM1 n, s.ifld R.LN_TX_COEF_CP1 n]

/-- The taps that lane `n` has from its next training row on: those that wait for its word 0, else the present ones (R50). -/
def State.nextTaps (s : State) (n : Nat) : List Int := ((s.lane n).coefNext).getD (s.taps n)

/-- Coefficients for lane `n`, which wait for word 0 of its next training row (R50). -/
def State.askTaps (s : State) (n : Nat) (ts : List Int) : State := s.updLane n (fun l => { l with coefNext := some ts })

/-- All five coefficients of lane `n` change together (R50). -/
def State.setTaps (s : State) (n : Nat) (ts : List Int) : State :=
  ((((s.setIfld R.LN_TX_COEF_CM3 n (ts.getD 0 0)).setIfld R.LN_TX_COEF_CM2 n (ts.getD 1 0)).setIfld R.LN_TX_COEF_CM1 n
    (ts.getD 2 0)).setIfld R.LN_TX_COEF_CP1 n (ts.getD 3 0)).setIfld R.LN_TX_COEF_C0 n (tapC0 ts)

/-- A training row of lane `n` begins: the coefficients that wait take effect (R50). -/
def State.beginRow (s : State) (n : Nat) : State :=
  match (s.lane n).coefNext with
  | some ts => (s.setTaps n ts).updLane n (fun l => { l with coefNext := none })
  | none => s

/-! ### What lane transmit is sending (R48, R67, R68, R514) -/

/-- TRQ.STATE of a fitting state (R68, R71). -/
def trqState (st : Nat) : Nat :=
  if st = fitSignal then 0 else if st = fitLock then 1 else if st = fitTune then 2 else if st = fitWait then 4
  else if st = fitDisabled then 5 else 3

/-- The words TRQ and TST that lane `n` sends in its training and discovery rows (R67, R68, R71, R72). -/
def State.trainingWords (s : State) (n : Nat) : List Nat :=
  let l := s.lane n
  let st := trqState (s.fit n)
  let live := decide (st ≤ 3)
  let trq := st * 2 ^ 32 + b2n (live && (l.ownReady || l.announcing)) * 2 ^ 31 + s.fld R.LN_FIT_STATUS_RX_POL_INV n * 2 ^ 30
    + (if live then l.ownTap % 8 * 2 ^ 27 + l.ownReq % 8 * 2 ^ 24 + l.ownPreset % 4 * 2 ^ 22 else 0) + n * 2 ^ 8
  let ts := s.nextTaps n
  let tst := l.ackTap % 8 * 2 ^ 33 + l.ack % 4 * 2 ^ 31 + toWord 6 (ts.getD l.ackTap 0) * 2 ^ 25 + toWord 7 (tapC0 ts) * 2 ^ 18
    + s.fld R.MAT_STAT_SIDE * 2 ^ 8
  [withCrc8 trq, withCrc8 tst]

/-- Where lane `n` sends training or discovery rows, they carry its present control words from the next row on (R67, R69, R71). -/
def State.refreshTraining (s : State) (n : Nat) : State :=
  s.updLane n (fun l =>
    if l.tx.sent && !l.tx.traffic then { l with tx := { l.tx with training := s.trainingWords n } } else l)

/-- The symbols of a frame (R17). -/
def frameSymbols : Nat := 2654208

/-- The symbols of a row (R17). -/
def rowSymbolCount : Nat := 20736

/-- How many symbols of the frame that lane `n` sends have left the balls; negative before its first symbol (R34). The present moment is
State.cycle (DEDUCED: log entry 45). -/
def State.sentSymbols (s : State) (n : Nat) : Int :=
  16 * (s.cycle : Int) - s.ifld R.LN_TX_PHASE_PHASE n + (if (s.lane n).tx.frame = s.frame then 0 else (frameSymbols : Int))

/-- The next row that lane `n` begins in the frame that it sends; 128 or more where none is left. -/
def State.nextRow (s : State) (n : Nat) : Nat :=
  if s.sentSymbols n < 0 then 0 else (s.sentSymbols n).toNat / rowSymbolCount + 1

/-- Fitting-channel words sent from row `r` on, before what waits there; `none` where the rows left cannot hold them (R73, R514). -/
def TxFrame.splice (t : TxFrame) (r : Nat) (m : List Nat) : Option TxFrame :=
  let q := t.fcw ++ List.replicate (128 - t.fcw.length) 0
  if t.traffic && r + m.length ≤ 128 then some { t with fcw := (q.take r ++ m ++ q.drop r).take 128 } else none

/-! ### Fitting messages (R73, R74) -/

def msgIdent : Nat := 0x01
def msgServiceGo : Nat := 0x10
def msgSparePrep : Nat := 0x20
def msgSpareSelect : Nat := 0x21
def msgSpareRelease : Nat := 0x22
def msgRestart : Nat := 0x30
def msgLeave : Nat := 0x31
def msgNak : Nat := 0x3E
def msgAck : Nat := 0x3F

/-- The fitting-channel words of a message: header, payload, trailer (R73). -/
def msgWords (typ seq : Nat) (payload : List Nat) : List Nat :=
  let h := 0xA * 2 ^ 32 + typ % 256 * 2 ^ 24 + seq % 256 * 2 ^ 16 + payload.length % 256 * 2 ^ 8
  withCrc8 h :: payload.map (fun p => 0x5 * 2 ^ 32 + p % 2 ^ 32) ++ [0xC * 2 ^ 32 + crc32Words payload]

/-- A message is made the outstanding one and its words join the channel; one already outstanding makes it wait (R74). The frame in which LEAVE
is sent is kept (R66). -/
def State.sendMsg (s : State) (n typ : Nat) (payload : List Nat) : State :=
  s.updLane n (fun l =>
    match l.out with
    | some _ => { l with outQueue := l.outQueue ++ [⟨typ, 0, payload⟩] }
    | none => { l with
        out := some ⟨typ, l.nextMseq, payload⟩, outSends := 1, outSince := s.frame
        leaveSent := if typ = msgLeave then some s.frame else l.leaveSent
        nextMseq := (l.nextMseq + 1) % 256, fcTx := l.fcTx ++ msgWords typ l.nextMseq payload })

/-- The outstanding message is released, and the next one that waits is sent (R74). -/
def State.releaseMsg (s : State) (n : Nat) : State :=
  let l := s.lane n
  match l.outQueue with
  | [] => s.setLane n { l with out := none, outSends := 0 }
  | q :: qs => (s.setLane n { l with out := none, outSends := 0, outQueue := qs }).sendMsg n q.typ q.payload

/-- An answer carries the MSEQ it answers and advances nothing (R74). -/
def State.sendAck (s : State) (n seq : Nat) : State :=
  s.updLane n (fun l => { l with fcTx := l.fcTx ++ msgWords msgAck seq [seq % 256] })

/-- A message whose TYPE is unknown is answered with NAK (R74). -/
def State.sendNak (s : State) (n seq : Nat) : State :=
  s.updLane n (fun l => { l with fcTx := l.fcTx ++ msgWords msgNak seq [seq % 256] })

/-- An ACK goes out in the rows left of the traffic frame that lane `n` sends, where a new attempt will leave no other (R65, R74; DEDUCED:
log entry 45). -/
def State.ackInFrame (s : State) (n seq : Nat) : State :=
  match (s.lane n).tx.splice (s.nextRow n) (msgWords msgAck seq [seq % 256]) with
  | some t => s.updLane n (fun l => { l with tx := t })
  | none => s

/-- A good message is acknowledged; one with a repeated MSEQ is not acted on twice (R74). The channel runs in traffic frames. -/
def State.takeMsg (s : State) (n seq : Nat) (act : State → State) : State :=
  if s.sendsTraffic n then
    let s1 := s.sendAck n seq
    if (s.lane n).lastRx = some seq then s1
    else act (s1.updLane n (fun l => { l with lastRx := some seq }))
  else s

/-- The IDENT payload of lane `n` (R75): an NF3236, its side, its lane, its link tag, its serial number; it sends SSM and supports
the management channel, whatever LN_MCH_CTRL.ENABLE is, and gives no COVER (DESIGN CHOICE: log entry 61). -/
def State.identPayload (s : State) (n : Nat) : List Nat :=
  let serial := s.fld R.DEV_SERIAL_SERIAL
  [ 0x01 * 2 ^ 24 + 0x01 * 2 ^ 16 + s.fld R.MAT_STAT_SIDE * 2 ^ 9 + n, s.fld R.LN_TAG_TAG n,
    bits serial 0 32, bits serial 32 32, 5 ]

/-- SERVICE_GO is sent once IDENT has been exchanged and acknowledged, naming the current frame + 4 (R77). -/
def State.maybeGo (s : State) (n : Nat) : State :=
  let l := s.lane n
  if l.identGot && l.identAcked && l.goOwn.isNone && s.fit n == fitIntro then
    let f := frameAdd s.frame 4
    (s.updLane n (fun l => { l with goOwn := some f })).sendMsg n msgServiceGo [f]
  else s

/-- R76 applies: the partner's TAG or SIDE is not what this end expects. -/
def State.identMismatch (s : State) (n : Nat) : Bool :=
  (s.lane n).identGot &&
  ((s.flag R.LN_FIT_CTRL_EXPECT_EN n && s.fld R.LN_PEER_ID1_ID n != s.fld R.LN_EXPECT_TAG n)
    || (bits (s.fld R.LN_PEER_ID0_ID n) 24 8 == 0x02 && bit (s.fld R.LN_PEER_ID0_ID n) 9 != s.fld R.MAT_STAT_SIDE))

/-! ### Spares (R81 to R84) -/

/-- Lane `n` is a spare lane. -/
def isSpare (n : Nat) : Bool := decide (256 ≤ n) && decide (n < 272)

/-- The physical lane that carries traffic lane `p` (R164). -/
def State.carrier (s : State) (p : Nat) : Nat := if s.flag R.LN_FIT_STATUS_SUB p then 256 + p / 16 else p

/-- Lane `x` is carried by itself again: LN_RX_PHASE shows its own phase (R44, R83). -/
def State.carryOwn (s : State) (x : Nat) : State :=
  (s.setFlag R.LN_FIT_STATUS_SUB x false).setIfld R.LN_RX_PHASE_PHASE x (s.lane x).phi

/-- Lane x is carried by lane x again and the spare `n` carries nothing (R83, R84): back in its cluster's pool, unless it has carried a lane, when
that takes its release (R459; log entry 61). -/
def State.freeSpare (s : State) (n : Nat) : State :=
  let s1 := if s.flag R.LN_SPARE_STAT_CARRYING n then
      s.carryOwn (16 * (n - 256) + s.fld R.LN_SPARE_STAT_CARRIED n) else s
  let s0 := if s.flag R.LN_SPARE_STAT_SHADOW n && !(s.lane n).used then s1.setFld R.TLY_SPARES_LANES 0 (min 16 (s1.fld R.TLY_SPARES_LANES + 1)) else s1
  let s2 := (s0.setFlag R.LN_SPARE_STAT_CARRYING n false).setFld R.LN_SPARE_STAT_CARRIED n 0
  ((s2.setFlag R.LN_SPARE_STAT_SHADOW n false).setFlag R.LN_SPARE_STAT_READY n false).updLane n (fun l =>
    { l with shadowRun := 0, selOwn := none, selPeer := none, rxSw := false, txSw := false, selWait := false, back := false, swFrom := none
             ended := false })

/-- SPARE_RELEASE has been exchanged on the spare `n` (R83, R459): it is back in its cluster's pool; or, where it carries lane x, lane x's frames
are sent on lane x no longer. During a return that has no effect (DESIGN CHOICE: log entry 61). -/
def State.releaseSpare (s : State) (n : Nat) : State :=
  let s1 := s.updLane n (fun l => { l with used := false })
  if s.flag R.LN_SPARE_STAT_CARRYING n then s.updLane n (fun l => { l with ended := l.ended || !l.back })
  else if (s.lane n).used && !s.flag R.LN_SPARE_STAT_SHADOW n then
    (s1.freeSpare n).setFld R.TLY_SPARES_LANES 0 (min 16 (s.fld R.TLY_SPARES_LANES + 1))
  else s1.freeSpare n

/-- The value that 16 or more copies of the takeover word in the frame so far carry, with none that carries another (R102). -/
def LaneSt.tkwSoFar (l : LaneSt) : Option Nat :=
  l.acc.tkw.head?.filter (fun v => decide (16 ≤ l.acc.tkw.length) && l.acc.tkw.all (· == v))

/-- A PREP of lane `n` waits for its answer, or to be sent (R82). -/
def LaneSt.prepares (l : LaneSt) : Bool := l.out.any (·.typ == msgSparePrep) || l.outQueue.any (·.typ == msgSparePrep)

/-- The spare `n` leaves SERVICE (R84): before the sill has switched to it, or after a return has switched the sill back and before the spare
is released (DESIGN CHOICE: log entry 61), the sistering is abandoned with MSG_FAIL, from step 1 on; after that the tick decides. -/
def State.spareLeaves (s : State) (n : Nat) : State :=
  if isSpare n && !s.flag R.LN_SPARE_STAT_CARRYING n && (s.flag R.LN_SPARE_STAT_SHADOW n || (s.lane n).prepares) then
    (s.freeSpare n).latch R.LN_FIT_EVT_MSG_FAIL n
  else s

/-- Lane x leaves SERVICE while a return to it is under way: the return is abandoned, as R84 says with the two lanes exchanged (R83). -/
def State.backLeaves (s : State) (x : Nat) : State :=
  let n := 256 + x / 16
  if x < 256 && s.flag R.LN_FIT_STATUS_SUB x && ((s.lane n).back || (s.lane x).prepares) then
    (s.updLane n (fun l => { l with back := false, selOwn := none, selPeer := none, rxSw := false, txSw := false, selWait := false })).latch
      R.LN_FIT_EVT_MSG_FAIL x
  else s

/-- The page from which lane x's words come from where they now do is past for every page that the sill still holds (R168, R82). -/
def State.settleSwitch (s : State) (n : Nat) : State :=
  if (s.lane n).swFrom.any (fun f => frameReached s.frame (frameAdd f 4)) then s.updLane n (fun l => { l with swFrom := none }) else s

/-- The tick returns receive to lane x where its spare `n` has left SERVICE and lane x is in SERVICE (R84). A spare that enters SERVICE again
before that carries lane x on (DESIGN CHOICE: log entry 61). -/
def State.tickSpare (s : State) (n : Nat) : State :=
  let s1 := s.settleSwitch n
  if isSpare n && s1.flag R.LN_SPARE_STAT_CARRYING n && !s1.inService n
      && s1.inService (16 * (n - 256) + s1.fld R.LN_SPARE_STAT_CARRIED n) then s1.freeSpare n else s1

/-! ### Moving between fitting states -/

/-- A spell of SERVICE begins or ends on lane `n` as it enters state `st` (R474). -/
def State.countService (s : State) (n st : Nat) : State :=
  match s.sist.serviceFrom.find n with
  | some f =>
    if st = fitService then s
    else s.updSist (fun x => { x with
      serviceFrom := x.serviceFrom.del n, lifeService := x.lifeService.put n (x.lifeService.get n 0 + s.sinceFrame f) })
  | none => if st = fitService then s.updSist (fun x => { x with serviceFrom := x.serviceFrom.put n s.frame }) else s

/-- Lane `n` enters a fitting state now, and the rows that it sends say so (R68). The markers that LOCK asks for are looked for from here
(R58). -/
def State.enterFit (s : State) (n st : Nat) : State :=
  (((s.countService n st).setFld R.LN_FIT_STATUS_STATE n st).updLane n (fun l => { l with since := s.frame, markRun := 0 })).refreshTraining n

/-- What leaving SERVICE brings (R56, R84): SERVICE_LEAVE, the fallback from loop timing and the spare's abandonment. -/
def State.quitService (s : State) (n : Nat) : State :=
  if s.inService n then (((s.latch R.LN_FIT_EVT_SERVICE_LEAVE n).loopFallback n).spareLeaves n).backLeaves n else s

/-- The receiver loses its alignment: the lane hunts only once the partner announces frames again (R71, R111); counts of frames in a row
and of the defects judged in SYNC start again (R82, R116), and a fitting message in progress is lost. The run of frames with one SSM
code stays as it is (DESIGN CHOICE: log entry 62), and so do the run of frames of a good second and the window of a reversion, in which a
frame that is not received neither counts nor ends them (DESIGN CHOICE: log entry 61). -/
def LaneSt.noFrame (l : LaneSt) : LaneSt :=
  { l.clearCounts with
    cands := [], errFaw := 0, row := 128, page := none, assigning := false, acc := {}, cleanRun := 0, shadowRun := 0, syncSince := none
    hunting := false, fcRx := [], fnGap := true }

/-- What the start of an attempt resets of the lane's hidden state. -/
def LaneSt.freshAttempt (l : LaneSt) : LaneSt :=
  { l.noFrame with
    markRun := 0, wakeRun := 0, goneRun := 0, readyRun := 0, frameRun := 0, huntRun := 0, reqLast := 0, reqRun := 0, ack := 0, ackTap := 0
    ownReq := 0, ownTap := 0, ownPreset := 0, ownReady := false, announcing := false, restartPend := 0, leaveSince := none, leaveSent := none
    peerSt := none, tuneRows := 0, tuneErrs := 0, settled := false
    out := none, outSends := 0, outQueue := [], lastRx := none, fcTx := [], identGot := false, identAcked := false
    goOwn := none, goPeer := none, accept := false, goodRun := 0, goodCorr := 0, winFrames := 0, winCorr := 0, badRun := 0 }

/-- A packet of the management channel is discarded: it is counted, with MCH_ERR (R106, R107); one discarded for its framing or lost with SYNC
as well as one with a bad CRC, the one case that R107 names (DESIGN CHOICE: log entry 62). -/
def State.badPacket (s : State) (n : Nat) : State := (s.satFld R.LN_MCH_STAT_RX_BAD n 1).latch R.LN_DEF_EVT_MCH_ERR n

/-- The lane leaves SYNC: a packet in progress is discarded (R106). -/
def State.dropPacket (s : State) (n : Nat) : State :=
  if (s.lane n).mchRx.isSome then (s.badPacket n).updLane n (fun l => { l with mchRx := none }) else s

/-- The lane has no alignment, no valid receive phase and no link round trip (R110; that VALID falls at once: DESIGN CHOICE, log entry 62). -/
def State.dropAlign (s : State) (n : Nat) : State :=
  ((((s.dropPacket n).setFld R.LN_FRM_STAT_ALIGN n alignHunt).setFlag R.LN_PHASE_STAT_RX_VALID n false).setFlag R.LN_PHASE_STAT_RX_SYNC_OK n
    false).setFlag R.LN_LINK_RTT_VALID n false

/-- A new attempt starts at SIGNAL (R50, R58, R117): preset 1 is loaded, from word 0 of the next training row on; the polarity correction and
an adaptation freeze end, the defects other than LOS and LOL are cleared. -/
def State.startAttempt (s : State) (n : Nat) : State :=
  let s1 := (s.quitService n).dropAlign n
  let s2 := ((s1.askTaps n (presetTaps 1)).setFlag R.LN_FIT_STATUS_RX_POL_INV n false).setFlag R.LN_ADAPT_STAT_FROZEN n false
  let s3 := (s2.setFld R.LN_ADAPT_STAT_GOOD_SECS n 0).updLane n LaneSt.freshAttempt
  (s3.enterFit n fitSignal).wipeDefects n

/-- The backoff after a failed attempt (R60): 80 frames for the first of a run, doubling to 10,240. -/
def nextBackoff (fresh : Bool) (b : Nat) : Nat := if fresh then 80 else min 10240 (2 * b)

/-- OOF is declared where the alignment was SYNC and is no longer (R115). -/
def State.oofAfter (s : State) (n : Nat) (was : Bool) : State := if was then s.declareOof n else s

/-- The attempt fails and the lane enters WAIT (R58, R60). -/
def State.failAttempt (s : State) (n : Nat) : State :=
  let b := nextBackoff (s.lane n).freshRun (s.fld R.LN_FIT_BACKOFF_BACKOFF n)
  let s1 := (((s.setFld R.LN_FIT_STATUS_LAST_FAIL n (s.fit n)).satFld R.LN_FIT_STATUS_FAILS n 1).quitService n).latch
    R.LN_FIT_EVT_ATTEMPT_FAIL n
  let s0 := { s1 with sist := { s1.sist with lifeFails := s1.sist.lifeFails.put n (s1.sist.lifeFails.get n 0 + 1) } }
  let s2 := (s0.dropAlign n).setFld R.LN_FIT_BACKOFF_BACKOFF n b
  let s3 := s2.updLane n (fun l => { l.freshAttempt with freshRun := false, waitLen := b })
  ((s3.enterFit n fitWait).oofAfter n (s.inSync n)).refreshCa n

/-- Lane `n` enters DISABLED (R58, R65, R66). -/
def State.disableLane (s : State) (n : Nat) : State :=
  (((((s.quitService n).dropAlign n).updLane n LaneSt.freshAttempt).enterFit n fitDisabled).oofAfter n (s.inSync n)).refreshCa n

/-- Lane `n` leaves SERVICE or an attempt otherwise than by failing: it starts a new attempt, or enters DISABLED where ENABLE has been cleared
(R65). -/
def State.restartLane (s : State) (n : Nat) : State := if s.flag R.LN_FIT_CTRL_ENABLE n then s.startAttempt n else s.disableLane n

/-- The raising phase (IMG_RAISE.PHASE, R333). -/
def State.phase (s : State) : Nat := s.fld R.IMG_RAISE_PHASE

/-! ### Transmit timing (R55 to R57), in symbols -/

/-- ψ of a system-timed lane: 2,389 core cycles (R34). -/
def psiSystem : Int := 38224

/-- The tolerance of φ, 648 core cycles (R30). -/
def phiTol : Int := 10368

/-- Where ψ is held, or slews to (R55, R56): with loop timing it follows the phase of the lane's own receive frame. -/
def State.psiTarget (s : State) (n : Nat) : Int :=
  if s.flag R.LN_TX_STAT_TIMING_ACT n then psiSystem + (s.lane n).phi else psiSystem

/-- One frame of a slew of 1 core cycle, 16 symbols, towards a target (R56). -/
def slewTo (v target : Int) : Int :=
  if v < target then min (v + 16) target else max (v - 16) target

/-- Lane `n` returns to loop timing by slewing (R57). -/
def State.loopReturn (s : State) (n : Nat) : State :=
  ((s.setFlag R.LN_TX_STAT_TIMING_ACT n true).setFlag R.LN_TX_STAT_SLEWING n true).updLane n (fun l => { l with fellBack := false })

/-- `since` is a frame at least `k` frames ago. -/
def State.lasted (s : State) (since : Option Nat) (k : Nat) : Bool :=
  match since with
  | some f => decide (k ≤ s.sinceFrame f)
  | none => false

/-- What a tick does to the transmit timing of lane `n` (R56, R57), and to the spare that has left SERVICE (R84). -/
def State.tickLane (s : State) (n : Nat) : State :=
  let l := s.lane n
  let run := if s.flag R.LN_PHASE_STAT_RX_SYNC_OK n then l.syncOkRun + 1 else 0
  let psi := if s.flag R.LN_TX_STAT_SLEWING n then slewTo l.psi (s.psiTarget n) else s.psiTarget n
  let s1 := s.setLane n { l with syncOkRun := run, psi := psi }
  (s1.setFlag R.LN_TX_STAT_SLEWING n (s.flag R.LN_TX_STAT_SLEWING n && psi != s.psiTarget n)).tickSpare n

end Sys2Proof.Machine
end

