-- ==== Sys2Proof/Machine/RegMap.lean ====
section
/-! DEFINITION. The register map: every register with its address in register space, its instances and the places of
its fields (the address tables and field tables of the chapters; R40, R85 and their like). `RN` numbers the registers. -/

namespace Sys2Proof.Machine

namespace RN
def DEV_FRAME : Nat := 0
def DEV_FRAME_CYCLE : Nat := 1
def DEV_FRAME_SN : Nat := 2
def DEV_LATQ_CTRL : Nat := 3
def DEV_LATQ_STATUS : Nat := 4
def DEV_LATQ_SRC : Nat := 5
def DEV_LATQ_FRAME : Nat := 6
def DEV_LATQ_LAT_LO : Nat := 7
def DEV_LATQ_LAT_HI : Nat := 8
def DEV_LATQ_PARTS : Nat := 9
def LN_RX_PHASE : Nat := 10
def LN_TX_PHASE : Nat := 11
def LN_PHASE_STAT : Nat := 12
def LN_FIT_CTRL : Nat := 13
def LN_FIT_STATUS : Nat := 14
def LN_FIT_BACKOFF : Nat := 15
def LN_FIT_EVT : Nat := 16
def LN_FIT_EVT_EN : Nat := 17
def LN_TX_CFG : Nat := 18
def LN_TX_STAT : Nat := 19
def LN_TX_COEF : Nat := 20
def LN_RX_EQ : Nat := 21
def LN_RX_FFE_LO : Nat := 22
def LN_RX_FFE_HI : Nat := 23
def LN_ADAPT_CFG : Nat := 24
def LN_ADAPT_STAT : Nat := 25
def LN_TAG : Nat := 26
def LN_EXPECT : Nat := 27
def LN_PEER_ID0 : Nat := 28
def LN_PEER_ID1 : Nat := 29
def LN_PEER_ID2 : Nat := 30
def LN_PEER_ID3 : Nat := 31
def LN_PEER_ID4 : Nat := 32
def LN_SPARE_CTRL : Nat := 33
def LN_SPARE_STAT : Nat := 34
def LN_FRM_CFG : Nat := 35
def LN_FRM_STAT : Nat := 36
def LN_DEF_EVT : Nat := 37
def LN_DEF_EVT_EN : Nat := 38
def LN_DEF_THR_SD : Nat := 39
def LN_DEF_THR_SF : Nat := 40
def LN_DEF_THR_UC : Nat := 41
def LN_RX_LID : Nat := 42
def LN_RX_STW : Nat := 43
def LN_RX_FN : Nat := 44
def LN_RX_TKW : Nat := 45
def LN_RX_VTW : Nat := 46
def LN_RX_BEW : Nat := 47
def LN_CNT0_LO : Nat := 48
def LN_CNT0_HI : Nat := 49
def LN_CNT1_LO : Nat := 50
def LN_CNT1_HI : Nat := 51
def LN_CNT2_LO : Nat := 52
def LN_CNT2_HI : Nat := 53
def LN_CNT3_LO : Nat := 54
def LN_CNT3_HI : Nat := 55
def LN_CNT4_LO : Nat := 56
def LN_CNT4_HI : Nat := 57
def LN_CNT5_LO : Nat := 58
def LN_CNT5_HI : Nat := 59
def LN_PEER_PHI : Nat := 60
def LN_PEER_PSI : Nat := 61
def LN_LINK_RTT : Nat := 62
def LN_MCH_CTRL : Nat := 63
def LN_MCH_STAT : Nat := 64
def LN_MCH_RXBASE_LO : Nat := 65
def LN_MCH_RXBASE_HI : Nat := 66
def LN_MCH_TXBASE_LO : Nat := 67
def LN_MCH_TXBASE_HI : Nat := 68
def LN_MCH_IDX : Nat := 69
def LIF_DEFSUM : Nat := 70
def BNT_CFG : Nat := 71
def BNT_CTRL : Nat := 72
def BNT_RETIME_FRAME : Nat := 73
def BNT_STAT : Nat := 74
def BNT_REF : Nat := 75
def BNT_EVT : Nat := 76
def BNT_EVT_EN : Nat := 77
def BNT_MSEL : Nat := 78
def BNT_MSRC : Nat := 79
def BNT_MDLY : Nat := 80
def BNT_MPOS : Nat := 81
def BNT_SKEW : Nat := 82
def BNT_MCOUNT : Nat := 83
def BNT_HIST : Nat := 84
def BNT_GLB_STAT : Nat := 85
def BNT_GLB_MEMBERS : Nat := 86
def BNT_GLB_LONG : Nat := 87
def BNT_GLB_LPCAP : Nat := 88
def BNT_GLB_LPUSE : Nat := 89
def BNT_GLB_LPCAP_ACT : Nat := 90
def BNT_GLB_RPUSE : Nat := 91
def BNT_GLB_EVTSUM : Nat := 92
def FAB_CFG : Nat := 93
def FAB_STAT : Nat := 94
def FAB_EVT : Nat := 95
def FAB_EVT_EN : Nat := 96
def FAB_LAM_CTRL : Nat := 97
def FAB_LAM_STAT : Nat := 98
def FAB_LAM_MM : Nat := 99
def FAB_KERF_FAIL : Nat := 100
def FAB_LAM_ERR : Nat := 101
def FAB_CONFLICT : Nat := 102
def FAB_LP_LATE : Nat := 103
def FAB_IN_COST : Nat := 104
def FAB_OUT_WORDS : Nat := 105
def SCB_STAT : Nat := 106
def SCB_EVT : Nat := 107
def SCB_EVT_EN : Nat := 108
def SCB_REPL_CTRL : Nat := 109
def SCB_REPL_STAT : Nat := 110
def SCB_MREC_SEL : Nat := 111
def SCB_MREC_W : Nat := 112
def SCB_MREC_P : Nat := 113
def SCB_MREC_G : Nat := 114
def CUT_CTRL : Nat := 115
def CUT_EVT : Nat := 116
def CUT_EVT_EN : Nat := 117
def CUT_Lj_LEN : Nat := 118
def CUT_Lj_FRAME : Nat := 119
def CUT_Lj_STAT : Nat := 120
def CUT_Lj_ERR : Nat := 121
def CUT_Lj_ERRSLOT : Nat := 122
def CUT_Lj_TICK : Nat := 123
def CUT_SCN_CMD : Nat := 124
def CUT_SCN_STAT : Nat := 125
def CUT_SCN_ERR : Nat := 126
def CUT_SCN_LAST : Nat := 127
def CUT_SCNn_BASE_LO : Nat := 128
def CUT_SCNn_BASE_HI : Nat := 129
def CUT_SCNn_LEN : Nat := 130
def CUT_SCNn_TRIG : Nat := 131
def GRN_SEED_LO : Nat := 132
def GRN_SEED_HI : Nat := 133
def GRN_STAT : Nat := 134
def GRN_EVT : Nat := 135
def GRN_EVT_EN : Nat := 136
def GRN_LAST : Nat := 137
def GRN_LAST_FRAME : Nat := 138
def GRN_SCAN_SEL : Nat := 139
def GRN_SCAN_RES : Nat := 140
def GRN_CNT_LO : Nat := 141
def GRN_CNT_HI : Nat := 142
def GRN_PORT : Nat := 143
def GRN_BENTSUM : Nat := 144
def GRN_GRPSUM : Nat := 145
def SCF_CFG : Nat := 146
def SCF_STAT : Nat := 147
def SCF_GROUPS : Nat := 148
def SCF_EVT : Nat := 149
def SCF_EVT_EN : Nat := 150
def SCF_CNT_LO : Nat := 151
def SCF_CNT_HI : Nat := 152
def SCF_PORT_MERGED : Nat := 153
def SCF_GEVTSUM : Nat := 154
def SCF_GCFG : Nat := 155
def SCF_GSTAT : Nat := 156
def SCF_GEVT : Nat := 157
def SCF_GEVT_EN : Nat := 158
def SCF_GWTR : Nat := 159
def SCF_GSLOTS : Nat := 160
def SCF_GBAD_W_LO : Nat := 161
def SCF_GBAD_W_HI : Nat := 162
def SCF_GBAD_P_LO : Nat := 163
def SCF_GBAD_P_HI : Nat := 164
def SCF_GSEL_P_LO : Nat := 165
def SCF_GSEL_P_HI : Nat := 166
def SCF_GNEITHER_LO : Nat := 167
def SCF_GNEITHER_HI : Nat := 168
def SCF_GGRN : Nat := 169
def SCF_GDIFF : Nat := 170
def PLB_CFG : Nat := 171
def PLB_CTRL : Nat := 172
def PLB_STATUS : Nat := 173
def PLB_EVT : Nat := 174
def PLB_EVT_EN : Nat := 175
def PLB_DPLL_BW : Nat := 176
def PLB_DPLL_ACQ : Nat := 177
def PLB_DPLL_PSL : Nat := 178
def PLB_TIMERS : Nat := 179
def PLB_XO_CFG : Nat := 180
def PLB_HOLD_CFG : Nat := 181
def PLB_LEARN_CFG : Nat := 182
def PLB_HOLD_STAT : Nat := 183
def PLB_HOLD_FREQ_LO : Nat := 184
def PLB_HOLD_FREQ_HI : Nat := 185
def PLB_HOLD_AGE : Nat := 186
def PLB_HOLD_TCO : Nat := 187
def PLB_HOLD_T0 : Nat := 188
def PLB_PHASE_ERR : Nat := 189
def PLB_BUILDOUT : Nat := 190
def PLB_MREF_CFG : Nat := 191
def PLB_MREF_STAT : Nat := 192
def PLB_MREF_OFFS : Nat := 193
def PLB_PPS : Nat := 194
def PLB_HIST_BASE_LO : Nat := 195
def PLB_HIST_BASE_HI : Nat := 196
def PLB_HIST_IDX : Nat := 197
def PLB_DRIFT_ONSET : Nat := 198
def PLB_REFi_CFG : Nat := 199
def PLB_REFi_TOFF : Nat := 200
def PLB_REFi_STAT : Nat := 201
def PLB_REFi_EVT : Nat := 202
def PLB_REFi_EVT_EN : Nat := 203
def PLB_REFi_WTR : Nat := 204
def PLB_REFi_FREQ : Nat := 205
def PLB_REFi_DEV : Nat := 206
def PLB_REFi_DRIFT : Nat := 207
def PLB_REFi_MTIE0 : Nat := 208
def PLB_REFi_MTIE1 : Nat := 209
def PLB_REFi_MTIE2 : Nat := 210
def PLB_REFi_MTIE3 : Nat := 211
def PLB_REFi_TDEV : Nat := 212
def PLB_REFi_JUMP : Nat := 213
def PLB_REFi_MON : Nat := 214
def PLB_FPOUTk_CFG : Nat := 215
def PLB_FPOUTk_OFFSET : Nat := 216
def PLB_FPOUTk_STAT : Nat := 217
def MAT_CFG : Nat := 218
def MAT_CTRL : Nat := 219
def MAT_STAT : Nat := 220
def MAT_EVT : Nat := 221
def MAT_EVT_EN : Nat := 222
def MAT_PEER : Nat := 223
def MAT_NREADY : Nat := 224
def MAT_COPY : Nat := 225
def MAT_JSENT : Nat := 226
def MAT_JACK : Nat := 227
def MAT_JFILL : Nat := 228
def MAT_WTR : Nat := 229
def MAT_VOTES : Nat := 230
def MAT_TAKE : Nat := 231
def MAT_TAKE_FRAME : Nat := 232
def MAT_GAP_EDITS : Nat := 233
def MAT_GAP_MISC : Nat := 234
def MAT_GAP_FIRST : Nat := 235
def MAT_JBASE_LO : Nat := 236
def MAT_JBASE_HI : Nat := 237
def IMG_RAISE : Nat := 238
def IMG_RAISE_DETAIL : Nat := 239
def IMG_EVT : Nat := 240
def IMG_EVT_EN : Nat := 241
def IMG_RAISE_CFG : Nat := 242
def IMG_RUN : Nat := 243
def IMG_RUN_VER : Nat := 244
def IMG_BOOT : Nat := 245
def IMG_CTRL : Nat := 246
def IMG_OP_STAT : Nat := 247
def IMG_PROG_SRC_LO : Nat := 248
def IMG_PROG_SRC_HI : Nat := 249
def IMG_PROG_LEN : Nat := 250
def IMG_FLASH : Nat := 251
def IMG_SVN_MIN : Nat := 252
def IMG_SLOTs_STAT : Nat := 253
def IMG_SLOTs_VER : Nat := 254
def IMG_STAGE_BASE_LO : Nat := 255
def IMG_STAGE_BASE_HI : Nat := 256
def IMG_LIVE_STAT : Nat := 257
def IMG_FW_VER : Nat := 258
def IMG_PHASE_TIME : Nat := 259
def DEV_ID : Nat := 260
def DEV_SERIAL_LO : Nat := 261
def DEV_SERIAL_HI : Nat := 262
def DEV_COMMIT : Nat := 263
def DEV_COMMIT_STAT : Nat := 264
def DEV_COMMIT_SEQ : Nat := 265
def DEV_COMMIT_ERR : Nat := 266
def DEV_COMMIT_INST : Nat := 267
def DEV_EVT : Nat := 268
def DEV_EVT_EN : Nat := 269
def DEV_EVTSUM : Nat := 270
def DEV_RDSEL : Nat := 271
def MGT_OWNER : Nat := 272
def MGT_EVT : Nat := 273
def MGT_EVT_EN : Nat := 274
def MGT_OWN_TOKEN : Nat := 275
def MGT_OWN_OP : Nat := 276
def MGT_DROP_CNT : Nat := 277
def MGT_DROP_LAST_LO : Nat := 278
def MGT_DROP_LAST_HI : Nat := 279
def MGT_LOG_BASE_LO : Nat := 280
def MGT_LOG_BASE_HI : Nat := 281
def MGT_LOG_IDX : Nat := 282
def MGT_INTN_CFG : Nat := 283
def MGT_TUN_ADDR_LO : Nat := 284
def MGT_TUN_ADDR_HI : Nat := 285
def MGT_TUN_DATA : Nat := 286
def MGT_TUN_CTRL : Nat := 287
def MGT_TUN_STAT : Nat := 288
def MGT_PORTp_CFG : Nat := 289
def MGT_PORTp_WIN : Nat := 290
def MGT_PORTp_RING_HEAD : Nat := 291
def MGT_PORTp_RING_TAIL : Nat := 292
def MGT_PORTp_RING_DROP : Nat := 293
def MGT_PORTp_EOI : Nat := 294
def MTX_STAT : Nat := 295
def MTX_EVT : Nat := 296
def MTX_EVT_EN : Nat := 297
def MTX_JMAP : Nat := 298
def MTX_ERR_LO : Nat := 299
def MTX_ERR_HI : Nat := 300
def MTX_ABORT_LO : Nat := 301
def MTX_ABORT_HI : Nat := 302
def MEM_STAT : Nat := 303
def MEM_EVT : Nat := 304
def MEM_EVT_EN : Nat := 305
def MEM_CNT_LO : Nat := 306
def MEM_CNT_HI : Nat := 307
def MEM_ECC_LAST_LO : Nat := 308
def MEM_ECC_LAST_HI : Nat := 309
def MEM_LOCK : Nat := 310
def SND_CFG : Nat := 311
def SND_STAT : Nat := 312
def SND_EVT : Nat := 313
def SND_EVT_EN : Nat := 314
def SND_PASS : Nat := 315
def SND_FAIL_LAST : Nat := 316
def SND_EXEMPT_CNT : Nat := 317
def SND_EXEMPT : Nat := 318
def DDR_CFG : Nat := 319
def DDR_STAT : Nat := 320
def DDR_EVT : Nat := 321
def DDR_EVT_EN : Nat := 322
def DDR_CNT_LO : Nat := 323
def DDR_CNT_HI : Nat := 324
def DDR_CHn_CTRL : Nat := 325
def DDR_CHn_STAT : Nat := 326
def DDR_CHn_CORR : Nat := 327
def DDR_RGNk_BASE : Nat := 328
def DDR_RGNk_SIZE : Nat := 329
def CNT_CFG : Nat := 330
def CNT_SNAP : Nat := 331
def CNT_STAT : Nat := 332
def CNT_EVT : Nat := 333
def CNT_EVT_EN : Nat := 334
def CNT_CLR_FIRST : Nat := 335
def CNT_CLR_CTRL : Nat := 336
def CNT_ARCH_IDX : Nat := 337
def PEG_CFG : Nat := 338
def PEG_SEED : Nat := 339
def PEG_STAT : Nat := 340
def PEG_EVT : Nat := 341
def PEG_EVT_EN : Nat := 342
def PEG_CTRL : Nat := 343
def PEG_DROP : Nat := 344
def PEG_DMA_BASE_LO : Nat := 345
def PEG_DMA_BASE_HI : Nat := 346
def PEG_DMA_IDX : Nat := 347
def PEG_REC : Nat := 348
def PEG_HISTh_CFG : Nat := 349
def PEG_HISTh_BASE : Nat := 350
def PEG_HISTh_WIDTH : Nat := 351
def PEG_HISTh_STAT : Nat := 352
def CNT_Bc_CFG : Nat := 353
def CNT_Bc_LO : Nat := 354
def CNT_Bc_HI : Nat := 355
def CNT_Bc_SN_LO : Nat := 356
def CNT_Bc_SN_HI : Nat := 357
def PEG_HBIN_LO : Nat := 358
def PEG_HBIN_HI : Nat := 359
def PEG_HBIN_SN_LO : Nat := 360
def PEG_HBIN_SN_HI : Nat := 361
def TLY_STAT : Nat := 362
def TLY_EVT : Nat := 363
def TLY_EVT_EN : Nat := 364
def TLY_SIST_CFG : Nat := 365
def TLY_SPARES : Nat := 366
def TLY_WIN_SEL : Nat := 367
def TLY_LOG_IDX : Nat := 368
def TLY_TAMP_CFG : Nat := 369
def TLY_TAMP_STAT : Nat := 370
def TLY_LC_STAT : Nat := 371
def TLY_LC_CTRL : Nat := 372
def TLY_LC_NONCE : Nat := 373
def TLY_LC_AUTH : Nat := 374
def TLY_LC_RESULT : Nat := 375
def TLY_REKEY : Nat := 376
end RN

def regTable0 : List Reg := [
  ⟨RN.DEV_FRAME, 0x200, 0, 1, 0x0, .single, [⟨R.DEV_FRAME_FRAME, 0, 0, 32⟩]⟩,
  ⟨RN.DEV_FRAME_CYCLE, 0x204, 0, 1, 0x0, .single, [⟨R.DEV_FRAME_CYCLE_CYCLE, 0, 0, 18⟩]⟩,
  ⟨RN.DEV_FRAME_SN, 0x208, 0, 1, 0x0, .single, [⟨R.DEV_FRAME_SN_FRAME, 0, 0, 32⟩]⟩,
  ⟨RN.DEV_LATQ_CTRL, 0x210, 0, 1, 0x0, .single, [⟨R.DEV_LATQ_CTRL_SLOT, 0, 0, 25⟩, ⟨R.DEV_LATQ_CTRL_SIDE, 0, 28, 1⟩, ⟨R.DEV_LATQ_CTRL_GO, 0, 31, 1⟩]⟩,
  ⟨RN.DEV_LATQ_STATUS, 0x214, 0, 1, 0x0, .single, [⟨R.DEV_LATQ_STATUS_STATE, 0, 0, 2⟩, ⟨R.DEV_LATQ_STATUS_RESULT, 0, 4, 4⟩, ⟨R.DEV_LATQ_STATUS_MASTER, 0, 8, 4⟩, ⟨R.DEV_LATQ_STATUS_QSEQ, 0, 16, 16⟩]⟩,
  ⟨RN.DEV_LATQ_SRC, 0x218, 0, 1, 0x0, .single, [⟨R.DEV_LATQ_SRC_SRC, 0, 0, 25⟩]⟩,
  ⟨RN.DEV_LATQ_FRAME, 0x21c, 0, 1, 0x0, .single, [⟨R.DEV_LATQ_FRAME_FRAME, 0, 0, 32⟩]⟩,
  ⟨RN.DEV_LATQ_LAT_LO, 0x220, 0, 1, 0x0, .low, [⟨R.DEV_LATQ_LAT_LAT, 0, 0, 32⟩]⟩,
  ⟨RN.DEV_LATQ_LAT_HI, 0x224, 0, 1, 0x0, .high, [⟨R.DEV_LATQ_LAT_LAT, 32, 0, 8⟩]⟩,
  ⟨RN.DEV_LATQ_PARTS, 0x228, 0, 1, 0x0, .single, [⟨R.DEV_LATQ_PARTS_DESKEW, 0, 0, 12⟩, ⟨R.DEV_LATQ_PARTS_LONG, 0, 12, 1⟩, ⟨R.DEV_LATQ_PARTS_SYNC_IN, 0, 13, 1⟩, ⟨R.DEV_LATQ_PARTS_SYS_OUT, 0, 14, 1⟩]⟩,
  ⟨RN.LN_RX_PHASE, 0x1000300, 0, 280, 0x10000, .single, [⟨R.LN_RX_PHASE_PHASE, 0, 0, 32⟩]⟩,
  ⟨RN.LN_TX_PHASE, 0x1000304, 0, 280, 0x10000, .single, [⟨R.LN_TX_PHASE_PHASE, 0, 0, 32⟩]⟩,
  ⟨RN.LN_PHASE_STAT, 0x1000308, 0, 280, 0x10000, .single, [⟨R.LN_PHASE_STAT_RX_VALID, 0, 0, 1⟩, ⟨R.LN_PHASE_STAT_RX_SYNC_OK, 0, 1, 1⟩, ⟨R.LN_PHASE_STAT_TX_VALID, 0, 2, 1⟩, ⟨R.LN_PHASE_STAT_TX_LOOP, 0, 3, 1⟩]⟩,
  ⟨RN.LN_FIT_CTRL, 0x1000000, 0, 280, 0x10000, .single, [⟨R.LN_FIT_CTRL_ENABLE, 0, 0, 1⟩, ⟨R.LN_FIT_CTRL_RESTART, 0, 1, 1⟩, ⟨R.LN_FIT_CTRL_BACKOFF_RESET, 0, 2, 1⟩, ⟨R.LN_FIT_CTRL_UNFREEZE, 0, 3, 1⟩, ⟨R.LN_FIT_CTRL_PEER_PRESET, 0, 4, 2⟩, ⟨R.LN_FIT_CTRL_EXPECT_EN, 0, 6, 1⟩]⟩,
  ⟨RN.LN_FIT_STATUS, 0x1000004, 0, 280, 0x10000, .single, [⟨R.LN_FIT_STATUS_STATE, 0, 0, 4⟩, ⟨R.LN_FIT_STATUS_VACANT, 0, 4, 1⟩, ⟨R.LN_FIT_STATUS_RX_POL_INV, 0, 5, 1⟩, ⟨R.LN_FIT_STATUS_SUB, 0, 6, 1⟩, ⟨R.LN_FIT_STATUS_LAST_FAIL, 0, 8, 4⟩, ⟨R.LN_FIT_STATUS_PEER_STATE, 0, 12, 4⟩, ⟨R.LN_FIT_STATUS_PEER_LANE, 0, 16, 9⟩, ⟨R.LN_FIT_STATUS_FAILS, 0, 25, 7⟩]⟩,
  ⟨RN.LN_FIT_BACKOFF, 0x1000008, 0, 280, 0x10000, .single, [⟨R.LN_FIT_BACKOFF_BACKOFF, 0, 0, 14⟩]⟩,
  ⟨RN.LN_FIT_EVT, 0x100000c, 0, 280, 0x10000, .single, [⟨R.LN_FIT_EVT, 0, 0, 9⟩]⟩,
  ⟨RN.LN_FIT_EVT_EN, 0x1000010, 0, 280, 0x10000, .single, [⟨R.LN_FIT_EVT_EN, 0, 0, 9⟩]⟩,
  ⟨RN.LN_TX_CFG, 0x1000020, 0, 280, 0x10000, .single, [⟨R.LN_TX_CFG_TIMING, 0, 0, 1⟩, ⟨R.LN_TX_CFG_LOOP_AUTO, 0, 1, 1⟩, ⟨R.LN_TX_CFG_TX_INV, 0, 2, 1⟩, ⟨R.LN_TX_CFG_LOOP_RESTORE, 0, 3, 1⟩]⟩,
  ⟨RN.LN_TX_STAT, 0x1000024, 0, 280, 0x10000, .single, [⟨R.LN_TX_STAT_TIMING_ACT, 0, 0, 1⟩, ⟨R.LN_TX_STAT_SLEWING, 0, 1, 1⟩, ⟨R.LN_TX_STAT_TX_INV_ACT, 0, 2, 1⟩]⟩,
  ⟨RN.LN_TX_COEF, 0x1000028, 0, 280, 0x10000, .single, [⟨R.LN_TX_COEF_CM3, 0, 0, 6⟩, ⟨R.LN_TX_COEF_CM2, 0, 6, 6⟩, ⟨R.LN_TX_COEF_CM1, 0, 12, 6⟩, ⟨R.LN_TX_COEF_CP1, 0, 18, 6⟩, ⟨R.LN_TX_COEF_C0, 0, 24, 7⟩]⟩,
  ⟨RN.LN_RX_EQ, 0x1000030, 0, 280, 0x10000, .single, [⟨R.LN_RX_EQ_CTLE, 0, 0, 4⟩, ⟨R.LN_RX_EQ_H1, 0, 8, 8⟩, ⟨R.LN_RX_EQ_H2, 0, 16, 8⟩, ⟨R.LN_RX_EQ_H3, 0, 24, 8⟩]⟩,
  ⟨RN.LN_RX_FFE_LO, 0x1000034, 0, 280, 0x10000, .low, [⟨R.LN_RX_FFE_LO_F0_F3, 0, 0, 32⟩]⟩,
  ⟨RN.LN_RX_FFE_HI, 0x1000038, 0, 280, 0x10000, .high, [⟨R.LN_RX_FFE_HI_F4_F7, 0, 0, 32⟩]⟩,
  ⟨RN.LN_ADAPT_CFG, 0x1000040, 0, 280, 0x10000, .single, [⟨R.LN_ADAPT_CFG_GOOD_MAX, 0, 0, 16⟩, ⟨R.LN_ADAPT_CFG_REVERT_MAX, 0, 16, 16⟩]⟩,
  ⟨RN.LN_ADAPT_STAT, 0x1000044, 0, 280, 0x10000, .single, [⟨R.LN_ADAPT_STAT_GOOD_SECS, 0, 0, 4⟩, ⟨R.LN_ADAPT_STAT_KG_VALID, 0, 4, 1⟩, ⟨R.LN_ADAPT_STAT_HOLD, 0, 5, 1⟩, ⟨R.LN_ADAPT_STAT_FROZEN, 0, 6, 1⟩, ⟨R.LN_ADAPT_STAT_REVERTS, 0, 16, 16⟩]⟩,
  ⟨RN.LN_TAG, 0x1000048, 0, 280, 0x10000, .single, [⟨R.LN_TAG_TAG, 0, 0, 32⟩]⟩,
  ⟨RN.LN_EXPECT, 0x100004c, 0, 280, 0x10000, .single, [⟨R.LN_EXPECT_TAG, 0, 0, 32⟩]⟩,
  ⟨RN.LN_PEER_ID0, 0x1000050, 0, 280, 0x10000, .single, [⟨R.LN_PEER_ID0_ID, 0, 0, 32⟩]⟩,
  ⟨RN.LN_PEER_ID1, 0x1000054, 0, 280, 0x10000, .single, [⟨R.LN_PEER_ID1_ID, 0, 0, 32⟩]⟩,
  ⟨RN.LN_PEER_ID2, 0x1000058, 0, 280, 0x10000, .single, [⟨R.LN_PEER_ID2_ID, 0, 0, 32⟩]⟩,
  ⟨RN.LN_PEER_ID3, 0x100005c, 0, 280, 0x10000, .single, [⟨R.LN_PEER_ID3_ID, 0, 0, 32⟩]⟩,
  ⟨RN.LN_PEER_ID4, 0x1000060, 0, 280, 0x10000, .single, [⟨R.LN_PEER_ID4_ID, 0, 0, 32⟩]⟩,
  ⟨RN.LN_SPARE_CTRL, 0x1000070, 256, 16, 0x10000, .single, [⟨R.LN_SPARE_CTRL_TARGET, 0, 0, 4⟩, ⟨R.LN_SPARE_CTRL_PREP, 0, 4, 1⟩, ⟨R.LN_SPARE_CTRL_SELECT, 0, 5, 1⟩, ⟨R.LN_SPARE_CTRL_RELEASE, 0, 6, 1⟩]⟩,
  ⟨RN.LN_SPARE_STAT, 0x1000074, 256, 16, 0x10000, .single, [⟨R.LN_SPARE_STAT_COVER, 0, 0, 16⟩, ⟨R.LN_SPARE_STAT_SHADOW, 0, 16, 1⟩, ⟨R.LN_SPARE_STAT_READY, 0, 17, 1⟩, ⟨R.LN_SPARE_STAT_CARRYING, 0, 18, 1⟩, ⟨R.LN_SPARE_STAT_CARRIED, 0, 20, 4⟩]⟩,
  ⟨RN.LN_FRM_CFG, 0x1000100, 0, 280, 0x10000, .single, [⟨R.LN_FRM_CFG_SYNC, 0, 0, 1⟩, ⟨R.LN_FRM_CFG_LID_EN, 0, 1, 1⟩, ⟨R.LN_FRM_CFG_TX_FORCE_AIS, 0, 2, 1⟩]⟩,
  ⟨RN.LN_FRM_STAT, 0x1000104, 0, 280, 0x10000, .single, [⟨R.LN_FRM_STAT_ALIGN, 0, 0, 2⟩, ⟨R.LN_FRM_STAT_CA, 0, 2, 1⟩, ⟨R.LN_FRM_STAT_SYNC_ACT, 0, 3, 1⟩, ⟨R.LN_FRM_STAT_LOS, 0, 4, 1⟩, ⟨R.LN_FRM_STAT_LOL, 0, 5, 1⟩, ⟨R.LN_FRM_STAT_OOF, 0, 6, 1⟩, ⟨R.LN_FRM_STAT_LOF, 0, 7, 1⟩, ⟨R.LN_FRM_STAT_LAIS, 0, 8, 1⟩, ⟨R.LN_FRM_STAT_LRDI, 0, 9, 1⟩, ⟨R.LN_FRM_STAT_LSD, 0, 10, 1⟩, ⟨R.LN_FRM_STAT_LSF, 0, 11, 1⟩, ⟨R.LN_FRM_STAT_LMM, 0, 12, 1⟩, ⟨R.LN_FRM_STAT_LPH, 0, 13, 1⟩, ⟨R.LN_FRM_STAT_TX_LAIS, 0, 14, 1⟩, ⟨R.LN_FRM_STAT_TX_LRDI, 0, 15, 1⟩]⟩,
  ⟨RN.LN_DEF_EVT, 0x1000108, 0, 280, 0x10000, .single, [⟨R.LN_DEF_EVT, 0, 0, 1⟩, ⟨R.LN_DEF_EVT, 4, 4, 19⟩]⟩,
  ⟨RN.LN_DEF_EVT_EN, 0x100010c, 0, 280, 0x10000, .single, [⟨R.LN_DEF_EVT_EN, 0, 0, 1⟩, ⟨R.LN_DEF_EVT_EN, 4, 4, 19⟩]⟩,
  ⟨RN.LN_DEF_THR_SD, 0x1000110, 0, 280, 0x10000, .single, [⟨R.LN_DEF_THR_SD_SET, 0, 0, 16⟩, ⟨R.LN_DEF_THR_SD_CLR, 0, 16, 16⟩]⟩]

def regTable1 : List Reg := [
  ⟨RN.LN_DEF_THR_SF, 0x1000114, 0, 280, 0x10000, .single, [⟨R.LN_DEF_THR_SF_SET, 0, 0, 16⟩, ⟨R.LN_DEF_THR_SF_CLR, 0, 16, 16⟩]⟩,
  ⟨RN.LN_DEF_THR_UC, 0x1000118, 0, 280, 0x10000, .single, [⟨R.LN_DEF_THR_UC_UC_SET, 0, 0, 8⟩]⟩,
  ⟨RN.LN_RX_LID, 0x1000120, 0, 280, 0x10000, .single, [⟨R.LN_RX_LID_LANE_ID, 0, 0, 9⟩, ⟨R.LN_RX_LID_PORT, 0, 9, 9⟩, ⟨R.LN_RX_LID_VALID, 0, 31, 1⟩]⟩,
  ⟨RN.LN_RX_STW, 0x1000124, 0, 280, 0x10000, .single, [⟨R.LN_RX_STW_LAIS, 0, 0, 1⟩, ⟨R.LN_RX_STW_LRDI, 0, 1, 1⟩, ⟨R.LN_RX_STW_SSM, 0, 2, 4⟩, ⟨R.LN_RX_STW_ROLE, 0, 6, 2⟩, ⟨R.LN_RX_STW_TKV, 0, 8, 1⟩, ⟨R.LN_RX_STW_NEW_ROLE, 0, 9, 2⟩, ⟨R.LN_RX_STW_VALID, 0, 31, 1⟩]⟩,
  ⟨RN.LN_RX_FN, 0x1000128, 0, 280, 0x10000, .single, [⟨R.LN_RX_FN_VALUE, 0, 0, 32⟩]⟩,
  ⟨RN.LN_RX_TKW, 0x100012c, 0, 280, 0x10000, .single, [⟨R.LN_RX_TKW_VALUE, 0, 0, 32⟩]⟩,
  ⟨RN.LN_RX_VTW, 0x1000130, 0, 280, 0x10000, .single, [⟨R.LN_RX_VTW_SEEN_A, 0, 0, 2⟩, ⟨R.LN_RX_VTW_SEEN_B, 0, 2, 2⟩, ⟨R.LN_RX_VTW_VOTE, 0, 4, 2⟩, ⟨R.LN_RX_VTW_VALID, 0, 31, 1⟩]⟩,
  ⟨RN.LN_RX_BEW, 0x1000134, 0, 280, 0x10000, .single, [⟨R.LN_RX_BEW_CORR, 0, 0, 12⟩, ⟨R.LN_RX_BEW_UNC, 0, 12, 10⟩, ⟨R.LN_RX_BEW_VALID, 0, 31, 1⟩]⟩,
  ⟨RN.LN_CNT0_LO, 0x1000140, 0, 280, 0x10000, .low, [⟨R.LN_CNT0, 0, 0, 32⟩]⟩,
  ⟨RN.LN_CNT0_HI, 0x1000144, 0, 280, 0x10000, .high, [⟨R.LN_CNT0, 32, 0, 16⟩]⟩,
  ⟨RN.LN_CNT1_LO, 0x1000148, 0, 280, 0x10000, .low, [⟨R.LN_CNT1, 0, 0, 32⟩]⟩,
  ⟨RN.LN_CNT1_HI, 0x100014c, 0, 280, 0x10000, .high, [⟨R.LN_CNT1, 32, 0, 16⟩]⟩,
  ⟨RN.LN_CNT2_LO, 0x1000150, 0, 280, 0x10000, .low, [⟨R.LN_CNT2, 0, 0, 32⟩]⟩,
  ⟨RN.LN_CNT2_HI, 0x1000154, 0, 280, 0x10000, .high, [⟨R.LN_CNT2, 32, 0, 16⟩]⟩,
  ⟨RN.LN_CNT3_LO, 0x1000158, 0, 280, 0x10000, .low, [⟨R.LN_CNT3, 0, 0, 32⟩]⟩,
  ⟨RN.LN_CNT3_HI, 0x100015c, 0, 280, 0x10000, .high, [⟨R.LN_CNT3, 32, 0, 16⟩]⟩,
  ⟨RN.LN_CNT4_LO, 0x1000160, 0, 280, 0x10000, .low, [⟨R.LN_CNT4, 0, 0, 32⟩]⟩,
  ⟨RN.LN_CNT4_HI, 0x1000164, 0, 280, 0x10000, .high, [⟨R.LN_CNT4, 32, 0, 16⟩]⟩,
  ⟨RN.LN_CNT5_LO, 0x1000168, 0, 280, 0x10000, .low, [⟨R.LN_CNT5, 0, 0, 32⟩]⟩,
  ⟨RN.LN_CNT5_HI, 0x100016c, 0, 280, 0x10000, .high, [⟨R.LN_CNT5, 32, 0, 16⟩]⟩,
  ⟨RN.LN_PEER_PHI, 0x1000180, 0, 280, 0x10000, .single, [⟨R.LN_PEER_PHI_PHASE, 0, 0, 32⟩]⟩,
  ⟨RN.LN_PEER_PSI, 0x1000184, 0, 280, 0x10000, .single, [⟨R.LN_PEER_PSI_PHASE, 0, 0, 32⟩]⟩,
  ⟨RN.LN_LINK_RTT, 0x1000188, 0, 280, 0x10000, .single, [⟨R.LN_LINK_RTT_RTT, 0, 0, 22⟩, ⟨R.LN_LINK_RTT_VALID, 0, 31, 1⟩]⟩,
  ⟨RN.LN_MCH_CTRL, 0x1000190, 0, 280, 0x10000, .single, [⟨R.LN_MCH_CTRL_ENABLE, 0, 0, 1⟩]⟩,
  ⟨RN.LN_MCH_STAT, 0x1000194, 0, 280, 0x10000, .single, [⟨R.LN_MCH_STAT_RX_BAD, 0, 0, 16⟩, ⟨R.LN_MCH_STAT_RX_DROP, 0, 16, 16⟩]⟩,
  ⟨RN.LN_MCH_RXBASE_LO, 0x1000198, 0, 280, 0x10000, .low, [⟨R.LN_MCH_RXBASE_BASE, 17, 17, 15⟩]⟩,
  ⟨RN.LN_MCH_RXBASE_HI, 0x100019c, 0, 280, 0x10000, .high, [⟨R.LN_MCH_RXBASE_BASE, 32, 0, 8⟩]⟩,
  ⟨RN.LN_MCH_TXBASE_LO, 0x10001a0, 0, 280, 0x10000, .low, [⟨R.LN_MCH_TXBASE_BASE, 17, 17, 15⟩]⟩,
  ⟨RN.LN_MCH_TXBASE_HI, 0x10001a4, 0, 280, 0x10000, .high, [⟨R.LN_MCH_TXBASE_BASE, 32, 0, 8⟩]⟩,
  ⟨RN.LN_MCH_IDX, 0x10001a8, 0, 280, 0x10000, .single, [⟨R.LN_MCH_IDX_RX_HEAD, 0, 0, 6⟩, ⟨R.LN_MCH_IDX_RX_TAIL, 0, 8, 6⟩, ⟨R.LN_MCH_IDX_TX_HEAD, 0, 16, 6⟩, ⟨R.LN_MCH_IDX_TX_TAIL, 0, 24, 6⟩]⟩,
  ⟨RN.LIF_DEFSUM, 0x60100, 0, 9, 0x4, .single, [⟨R.LIF_DEFSUM_CA, 0, 0, 32⟩]⟩,
  ⟨RN.BNT_CFG, 0x3000000, 0, 16384, 0x100, .single, [⟨R.BNT_CFG_POLICY, 0, 0, 2⟩, ⟨R.BNT_CFG_GUARD, 0, 4, 11⟩]⟩,
  ⟨RN.BNT_CTRL, 0x3000004, 0, 16384, 0x100, .single, [⟨R.BNT_CTRL_RETIME, 0, 0, 1⟩]⟩,
  ⟨RN.BNT_RETIME_FRAME, 0x3000008, 0, 16384, 0x100, .single, [⟨R.BNT_RETIME_FRAME_FRAME, 0, 0, 32⟩]⟩,
  ⟨RN.BNT_STAT, 0x300000c, 0, 16384, 0x100, .single, [⟨R.BNT_STAT_STATE, 0, 0, 3⟩, ⟨R.BNT_STAT_MEMBERS, 0, 4, 13⟩, ⟨R.BNT_STAT_PENDING, 0, 17, 13⟩]⟩,
  ⟨RN.BNT_REF, 0x3000010, 0, 16384, 0x100, .single, [⟨R.BNT_REF_REF, 0, 0, 13⟩, ⟨R.BNT_REF_GUARD_ACT, 0, 16, 11⟩, ⟨R.BNT_REF_POLICY_ACT, 0, 27, 2⟩]⟩,
  ⟨RN.BNT_EVT, 0x3000014, 0, 16384, 0x100, .single, [⟨R.BNT_EVT, 0, 0, 11⟩]⟩,
  ⟨RN.BNT_EVT_EN, 0x3000018, 0, 16384, 0x100, .single, [⟨R.BNT_EVT_EN, 0, 0, 11⟩]⟩,
  ⟨RN.BNT_MSEL, 0x300001c, 0, 16384, 0x100, .single, [⟨R.BNT_MSEL_INDEX, 0, 0, 12⟩]⟩,
  ⟨RN.BNT_MSRC, 0x3000020, 0, 16384, 0x100, .single, [⟨R.BNT_MSRC_SRC, 0, 0, 25⟩, ⟨R.BNT_MSRC_STATE, 0, 25, 4⟩]⟩]

def regTable2 : List Reg := [
  ⟨RN.BNT_MDLY, 0x3000024, 0, 16384, 0x100, .single, [⟨R.BNT_MDLY_ARR, 0, 0, 12⟩, ⟨R.BNT_MDLY_D, 0, 12, 12⟩, ⟨R.BNT_MDLY_K, 0, 24, 2⟩, ⟨R.BNT_MDLY_LONG, 0, 26, 1⟩]⟩,
  ⟨RN.BNT_MPOS, 0x3000028, 0, 16384, 0x100, .single, [⟨R.BNT_MPOS_RPORT, 0, 0, 5⟩, ⟨R.BNT_MPOS_RSLOT, 0, 5, 17⟩, ⟨R.BNT_MPOS_VALID, 0, 31, 1⟩]⟩,
  ⟨RN.BNT_SKEW, 0x300002c, 0, 16384, 0x100, .single, [⟨R.BNT_SKEW_ARR_MIN, 0, 0, 12⟩, ⟨R.BNT_SKEW_ARR_MAX, 0, 16, 12⟩]⟩,
  ⟨RN.BNT_MCOUNT, 0x3000030, 0, 16384, 0x100, .single, [⟨R.BNT_MCOUNT_SUSPECT, 0, 0, 13⟩, ⟨R.BNT_MCOUNT_OFFLINE, 0, 16, 13⟩]⟩,
  ⟨RN.BNT_HIST, 0x3000034, 0, 16384, 0x100, .single, [⟨R.BNT_HIST_STEPS, 0, 0, 16⟩, ⟨R.BNT_HIST_REALIGNS, 0, 16, 16⟩]⟩,
  ⟨RN.BNT_GLB_STAT, 0xd0000, 0, 1, 0x0, .single, [⟨R.BNT_GLB_STAT_BENTS, 0, 0, 15⟩]⟩,
  ⟨RN.BNT_GLB_MEMBERS, 0xd0004, 0, 1, 0x0, .single, [⟨R.BNT_GLB_MEMBERS_COUNT, 0, 0, 23⟩]⟩,
  ⟨RN.BNT_GLB_LONG, 0xd0008, 0, 1, 0x0, .single, [⟨R.BNT_GLB_LONG_COUNT, 0, 0, 23⟩]⟩,
  ⟨RN.BNT_GLB_LPCAP, 0xd000c, 0, 1, 0x0, .single, [⟨R.BNT_GLB_LPCAP_CAP, 0, 0, 23⟩]⟩,
  ⟨RN.BNT_GLB_LPUSE, 0xd0010, 0, 1, 0x0, .single, [⟨R.BNT_GLB_LPUSE_USE, 0, 0, 23⟩]⟩,
  ⟨RN.BNT_GLB_LPCAP_ACT, 0xd0014, 0, 1, 0x0, .single, [⟨R.BNT_GLB_LPCAP_ACT_CAP, 0, 0, 23⟩]⟩,
  ⟨RN.BNT_GLB_RPUSE, 0xd0100, 0, 24, 0x4, .single, [⟨R.BNT_GLB_RPUSE_USE, 0, 0, 18⟩]⟩,
  ⟨RN.BNT_GLB_EVTSUM, 0xd1000, 0, 512, 0x4, .single, [⟨R.BNT_GLB_EVTSUM_PEND, 0, 0, 32⟩]⟩,
  ⟨RN.FAB_CFG, 0xa0000, 0, 1, 0x0, .single, [⟨R.FAB_CFG_KERF_EN, 0, 0, 1⟩, ⟨R.FAB_CFG_DIAG_EN, 0, 1, 1⟩]⟩,
  ⟨RN.FAB_STAT, 0xa0004, 0, 1, 0x0, .single, [⟨R.FAB_STAT_SWEEP, 0, 0, 1⟩, ⟨R.FAB_STAT_KERF, 0, 1, 1⟩, ⟨R.FAB_STAT_OVER_ANY, 0, 2, 1⟩]⟩,
  ⟨RN.FAB_EVT, 0xa0008, 0, 1, 0x0, .single, [⟨R.FAB_EVT, 0, 0, 7⟩]⟩,
  ⟨RN.FAB_EVT_EN, 0xa000c, 0, 1, 0x0, .single, [⟨R.FAB_EVT_EN, 0, 0, 7⟩]⟩,
  ⟨RN.FAB_LAM_CTRL, 0xa0010, 0, 1, 0x0, .single, [⟨R.FAB_LAM_CTRL_SHADOW, 0, 0, 4⟩, ⟨R.FAB_LAM_CTRL_SUB, 0, 4, 1⟩, ⟨R.FAB_LAM_CTRL_ROTATE, 0, 5, 1⟩]⟩,
  ⟨RN.FAB_LAM_STAT, 0xa0014, 0, 1, 0x0, .single, [⟨R.FAB_LAM_STAT_SHADOW_ACT, 0, 0, 4⟩, ⟨R.FAB_LAM_STAT_SUB_ACT, 0, 4, 1⟩, ⟨R.FAB_LAM_STAT_ROTATE_ACT, 0, 5, 1⟩, ⟨R.FAB_LAM_STAT_SHADOW_FRAMES, 0, 16, 16⟩]⟩,
  ⟨RN.FAB_LAM_MM, 0xa0018, 0, 1, 0x0, .single, [⟨R.FAB_LAM_MM_COUNT, 0, 0, 32⟩]⟩,
  ⟨RN.FAB_KERF_FAIL, 0xa001c, 0, 1, 0x0, .single, [⟨R.FAB_KERF_FAIL_IN, 0, 0, 9⟩, ⟨R.FAB_KERF_FAIL_OUT, 0, 9, 8⟩, ⟨R.FAB_KERF_FAIL_LAMMASK, 0, 17, 10⟩, ⟨R.FAB_KERF_FAIL_VALID, 0, 31, 1⟩]⟩,
  ⟨RN.FAB_LAM_ERR, 0xa0020, 0, 10, 0x4, .single, [⟨R.FAB_LAM_ERR_COUNT, 0, 0, 32⟩]⟩,
  ⟨RN.FAB_CONFLICT, 0xa0050, 0, 1, 0x0, .single, [⟨R.FAB_CONFLICT_COUNT, 0, 0, 32⟩]⟩,
  ⟨RN.FAB_LP_LATE, 0xa0054, 0, 1, 0x0, .single, [⟨R.FAB_LP_LATE_COUNT, 0, 0, 32⟩]⟩,
  ⟨RN.FAB_IN_COST, 0xa0400, 0, 280, 0x4, .single, [⟨R.FAB_IN_COST_COST, 0, 0, 19⟩, ⟨R.FAB_IN_COST_OVER, 0, 31, 1⟩]⟩,
  ⟨RN.FAB_OUT_WORDS, 0xa0900, 0, 256, 0x4, .single, [⟨R.FAB_OUT_WORDS_WORDS, 0, 0, 18⟩]⟩,
  ⟨RN.SCB_STAT, 0xb0000, 0, 1, 0x0, .single, [⟨R.SCB_STAT_ENGINES, 0, 0, 7⟩, ⟨R.SCB_STAT_SPARES, 0, 7, 3⟩, ⟨R.SCB_STAT_BUSY, 0, 10, 1⟩]⟩,
  ⟨RN.SCB_EVT, 0xb0004, 0, 1, 0x0, .single, [⟨R.SCB_EVT, 0, 0, 2⟩]⟩,
  ⟨RN.SCB_EVT_EN, 0xb0008, 0, 1, 0x0, .single, [⟨R.SCB_EVT_EN, 0, 0, 2⟩]⟩,
  ⟨RN.SCB_REPL_CTRL, 0xb0010, 0, 1, 0x0, .single, [⟨R.SCB_REPL_CTRL_GO, 0, 0, 1⟩]⟩,
  ⟨RN.SCB_REPL_STAT, 0xb0014, 0, 1, 0x0, .single, [⟨R.SCB_REPL_STAT_STATE, 0, 0, 2⟩, ⟨R.SCB_REPL_STAT_STEP, 0, 2, 6⟩, ⟨R.SCB_REPL_STAT_MOVED, 0, 8, 24⟩]⟩,
  ⟨RN.SCB_MREC_SEL, 0xb0020, 0, 1, 0x0, .single, [⟨R.SCB_MREC_SEL_SLOT, 0, 0, 25⟩]⟩,
  ⟨RN.SCB_MREC_W, 0xb0024, 0, 1, 0x0, .single, [⟨R.SCB_MREC_W_SRC, 0, 0, 25⟩, ⟨R.SCB_MREC_W_VALID, 0, 31, 1⟩]⟩,
  ⟨RN.SCB_MREC_P, 0xb0028, 0, 1, 0x0, .single, [⟨R.SCB_MREC_P_SRC, 0, 0, 25⟩, ⟨R.SCB_MREC_P_VALID, 0, 31, 1⟩]⟩,
  ⟨RN.SCB_MREC_G, 0xb002c, 0, 1, 0x0, .single, [⟨R.SCB_MREC_G_GROUP, 0, 0, 16⟩, ⟨R.SCB_MREC_G_ENTRY, 0, 16, 14⟩]⟩,
  ⟨RN.CUT_CTRL, 0xb0100, 0, 1, 0x0, .single, [⟨R.CUT_CTRL_LIST, 0, 0, 1⟩, ⟨R.CUT_CTRL_CMD, 0, 1, 3⟩, ⟨R.CUT_CTRL_ASAP, 0, 4, 1⟩]⟩,
  ⟨RN.CUT_EVT, 0xb0104, 0, 1, 0x0, .single, [⟨R.CUT_EVT, 0, 0, 12⟩]⟩,
  ⟨RN.CUT_EVT_EN, 0xb0108, 0, 1, 0x0, .single, [⟨R.CUT_EVT_EN, 0, 0, 12⟩]⟩,
  ⟨RN.CUT_Lj_LEN, 0xb0120, 0, 2, 0x20, .single, [⟨R.CUT_Lj_LEN_LEN, 0, 0, 21⟩]⟩,
  ⟨RN.CUT_Lj_FRAME, 0xb0124, 0, 2, 0x20, .single, [⟨R.CUT_Lj_FRAME_FRAME, 0, 0, 32⟩]⟩]

def regTable3 : List Reg := [
  ⟨RN.CUT_Lj_STAT, 0xb0128, 0, 2, 0x20, .single, [⟨R.CUT_Lj_STAT_STATE, 0, 0, 3⟩, ⟨R.CUT_Lj_STAT_APPLY_REQ, 0, 3, 1⟩, ⟨R.CUT_Lj_STAT_ASAP, 0, 4, 1⟩]⟩,
  ⟨RN.CUT_Lj_ERR, 0xb012c, 0, 2, 0x20, .single, [⟨R.CUT_Lj_ERR_CODE, 0, 0, 4⟩, ⟨R.CUT_Lj_ERR_INDEX, 0, 12, 20⟩]⟩,
  ⟨RN.CUT_Lj_ERRSLOT, 0xb0130, 0, 2, 0x20, .single, [⟨R.CUT_Lj_ERRSLOT_SLOT, 0, 0, 25⟩, ⟨R.CUT_Lj_ERRSLOT_VALID, 0, 31, 1⟩]⟩,
  ⟨RN.CUT_Lj_TICK, 0xb0134, 0, 2, 0x20, .single, [⟨R.CUT_Lj_TICK_FRAME, 0, 0, 32⟩]⟩,
  ⟨RN.CUT_SCN_CMD, 0xb0200, 0, 1, 0x0, .single, [⟨R.CUT_SCN_CMD_SCENE, 0, 0, 8⟩, ⟨R.CUT_SCN_CMD_GO, 0, 8, 1⟩]⟩,
  ⟨RN.CUT_SCN_STAT, 0xb0204, 0, 1, 0x0, .single, [⟨R.CUT_SCN_STAT_CUR, 0, 0, 8⟩, ⟨R.CUT_SCN_STAT_STATE, 0, 8, 3⟩, ⟨R.CUT_SCN_STAT_QUEUE, 0, 11, 5⟩, ⟨R.CUT_SCN_STAT_SPAN, 0, 16, 6⟩]⟩,
  ⟨RN.CUT_SCN_ERR, 0xb0208, 0, 1, 0x0, .single, [⟨R.CUT_SCN_ERR_CODE, 0, 0, 4⟩, ⟨R.CUT_SCN_ERR_INDEX, 0, 10, 22⟩]⟩,
  ⟨RN.CUT_SCN_LAST, 0xb020c, 0, 1, 0x0, .single, [⟨R.CUT_SCN_LAST_FRAME, 0, 0, 32⟩]⟩,
  ⟨RN.CUT_SCNn_BASE_LO, 0xb1000, 0, 256, 0x10, .low, [⟨R.CUT_SCNn_BASE_BASE, 4, 4, 28⟩]⟩,
  ⟨RN.CUT_SCNn_BASE_HI, 0xb1004, 0, 256, 0x10, .high, [⟨R.CUT_SCNn_BASE_BASE, 32, 0, 8⟩]⟩,
  ⟨RN.CUT_SCNn_LEN, 0xb1008, 0, 256, 0x10, .single, [⟨R.CUT_SCNn_LEN_LEN, 0, 0, 23⟩]⟩,
  ⟨RN.CUT_SCNn_TRIG, 0xb100c, 0, 256, 0x10, .single, [⟨R.CUT_SCNn_TRIG_LANE, 0, 0, 8⟩, ⟨R.CUT_SCNn_TRIG_DEFECTS, 0, 8, 7⟩, ⟨R.CUT_SCNn_TRIG_EN, 0, 15, 1⟩, ⟨R.CUT_SCNn_TRIG_PRIMED, 0, 16, 1⟩]⟩,
  ⟨RN.GRN_SEED_LO, 0xa1000, 0, 1, 0x0, .low, [⟨R.GRN_SEED_SEED, 0, 0, 32⟩]⟩,
  ⟨RN.GRN_SEED_HI, 0xa1004, 0, 1, 0x0, .high, [⟨R.GRN_SEED_SEED, 32, 0, 32⟩]⟩,
  ⟨RN.GRN_STAT, 0xa1008, 0, 1, 0x0, .single, [⟨R.GRN_STAT_FAULTS, 0, 0, 26⟩]⟩,
  ⟨RN.GRN_EVT, 0xa100c, 0, 1, 0x0, .single, [⟨R.GRN_EVT, 0, 0, 2⟩]⟩,
  ⟨RN.GRN_EVT_EN, 0xa1010, 0, 1, 0x0, .single, [⟨R.GRN_EVT_EN, 0, 0, 2⟩]⟩,
  ⟨RN.GRN_LAST, 0xa1014, 0, 1, 0x0, .single, [⟨R.GRN_LAST_SLOT, 0, 0, 25⟩, ⟨R.GRN_LAST_SIDE, 0, 25, 1⟩, ⟨R.GRN_LAST_CAUSE, 0, 26, 1⟩, ⟨R.GRN_LAST_VALID, 0, 31, 1⟩]⟩,
  ⟨RN.GRN_LAST_FRAME, 0xa1018, 0, 1, 0x0, .single, [⟨R.GRN_LAST_FRAME_FRAME, 0, 0, 32⟩]⟩,
  ⟨RN.GRN_SCAN_SEL, 0xa1020, 0, 1, 0x0, .single, [⟨R.GRN_SCAN_SEL_PORT, 0, 0, 8⟩, ⟨R.GRN_SCAN_SEL_FROM, 0, 9, 17⟩]⟩,
  ⟨RN.GRN_SCAN_RES, 0xa1024, 0, 1, 0x0, .single, [⟨R.GRN_SCAN_RES_SLOT, 0, 0, 17⟩, ⟨R.GRN_SCAN_RES_FAULT0, 0, 17, 1⟩, ⟨R.GRN_SCAN_RES_FAULT1, 0, 18, 1⟩, ⟨R.GRN_SCAN_RES_VALID, 0, 31, 1⟩]⟩,
  ⟨RN.GRN_CNT_LO, 0xa1030, 0, 2, 0x8, .low, [⟨R.GRN_CNT_COUNT, 0, 0, 32⟩]⟩,
  ⟨RN.GRN_CNT_HI, 0xa1034, 0, 2, 0x8, .high, [⟨R.GRN_CNT_COUNT, 32, 0, 16⟩]⟩,
  ⟨RN.GRN_PORT, 0xa1100, 0, 256, 0x4, .single, [⟨R.GRN_PORT_FAULTS, 0, 0, 18⟩]⟩,
  ⟨RN.GRN_BENTSUM, 0xa1800, 0, 512, 0x4, .single, [⟨R.GRN_BENTSUM_FAULT, 0, 0, 32⟩]⟩,
  ⟨RN.GRN_GRPSUM, 0xa2000, 0, 2048, 0x4, .single, [⟨R.GRN_GRPSUM_FAULT, 0, 0, 32⟩]⟩,
  ⟨RN.SCF_CFG, 0xc0000, 0, 1, 0x0, .single, [⟨R.SCF_CFG_DEG_SET, 0, 0, 16⟩, ⟨R.SCF_CFG_DEG_CLR, 0, 16, 16⟩]⟩,
  ⟨RN.SCF_STAT, 0xc0004, 0, 1, 0x0, .single, [⟨R.SCF_STAT_COUNT, 0, 0, 23⟩]⟩,
  ⟨RN.SCF_GROUPS, 0xc0008, 0, 1, 0x0, .single, [⟨R.SCF_GROUPS_COUNT, 0, 0, 23⟩]⟩,
  ⟨RN.SCF_EVT, 0xc000c, 0, 1, 0x0, .single, [⟨R.SCF_EVT, 0, 0, 3⟩]⟩,
  ⟨RN.SCF_EVT_EN, 0xc0010, 0, 1, 0x0, .single, [⟨R.SCF_EVT_EN, 0, 0, 3⟩]⟩,
  ⟨RN.SCF_CNT_LO, 0xc0020, 0, 6, 0x8, .low, [⟨R.SCF_CNT_COUNT, 0, 0, 32⟩]⟩,
  ⟨RN.SCF_CNT_HI, 0xc0024, 0, 6, 0x8, .high, [⟨R.SCF_CNT_COUNT, 32, 0, 16⟩]⟩,
  ⟨RN.SCF_PORT_MERGED, 0xc0100, 0, 256, 0x4, .single, [⟨R.SCF_PORT_MERGED_MERGED, 0, 0, 15⟩]⟩,
  ⟨RN.SCF_GEVTSUM, 0xc1000, 0, 2048, 0x4, .single, [⟨R.SCF_GEVTSUM_PEND, 0, 0, 32⟩]⟩,
  ⟨RN.SCF_GCFG, 0x4000000, 0, 65536, 0x40, .single, [⟨R.SCF_GCFG_MODE, 0, 0, 3⟩, ⟨R.SCF_GCFG_HOME, 0, 3, 1⟩, ⟨R.SCF_GCFG_REVERT, 0, 4, 1⟩, ⟨R.SCF_GCFG_WTR, 0, 8, 12⟩, ⟨R.SCF_GCFG_WTR_CLEAR, 0, 20, 1⟩]⟩,
  ⟨RN.SCF_GSTAT, 0x4000004, 0, 65536, 0x40, .single, [⟨R.SCF_GSTAT_STATE, 0, 0, 3⟩, ⟨R.SCF_GSTAT_PREF_ACT, 0, 3, 1⟩, ⟨R.SCF_GSTAT_W_DEG, 0, 4, 1⟩, ⟨R.SCF_GSTAT_P_DEG, 0, 5, 1⟩, ⟨R.SCF_GSTAT_MODE_ACT, 0, 6, 3⟩, ⟨R.SCF_GSTAT_HOME_ACT, 0, 9, 1⟩, ⟨R.SCF_GSTAT_REVERT_ACT, 0, 10, 1⟩]⟩,
  ⟨RN.SCF_GEVT, 0x4000008, 0, 65536, 0x40, .single, [⟨R.SCF_GEVT, 0, 0, 9⟩]⟩,
  ⟨RN.SCF_GEVT_EN, 0x400000c, 0, 65536, 0x40, .single, [⟨R.SCF_GEVT_EN, 0, 0, 9⟩]⟩,
  ⟨RN.SCF_GWTR, 0x4000010, 0, 65536, 0x40, .single, [⟨R.SCF_GWTR_REMAIN, 0, 0, 25⟩]⟩]

def regTable4 : List Reg := [
  ⟨RN.SCF_GSLOTS, 0x4000014, 0, 65536, 0x40, .single, [⟨R.SCF_GSLOTS_SLOTS, 0, 0, 23⟩]⟩,
  ⟨RN.SCF_GBAD_W_LO, 0x4000018, 0, 65536, 0x40, .low, [⟨R.SCF_GBAD_W_COUNT, 0, 0, 32⟩]⟩,
  ⟨RN.SCF_GBAD_W_HI, 0x400001c, 0, 65536, 0x40, .high, [⟨R.SCF_GBAD_W_COUNT, 32, 0, 16⟩]⟩,
  ⟨RN.SCF_GBAD_P_LO, 0x4000020, 0, 65536, 0x40, .low, [⟨R.SCF_GBAD_P_COUNT, 0, 0, 32⟩]⟩,
  ⟨RN.SCF_GBAD_P_HI, 0x4000024, 0, 65536, 0x40, .high, [⟨R.SCF_GBAD_P_COUNT, 32, 0, 16⟩]⟩,
  ⟨RN.SCF_GSEL_P_LO, 0x4000028, 0, 65536, 0x40, .low, [⟨R.SCF_GSEL_P_COUNT, 0, 0, 32⟩]⟩,
  ⟨RN.SCF_GSEL_P_HI, 0x400002c, 0, 65536, 0x40, .high, [⟨R.SCF_GSEL_P_COUNT, 32, 0, 16⟩]⟩,
  ⟨RN.SCF_GNEITHER_LO, 0x4000030, 0, 65536, 0x40, .low, [⟨R.SCF_GNEITHER_COUNT, 0, 0, 32⟩]⟩,
  ⟨RN.SCF_GNEITHER_HI, 0x4000034, 0, 65536, 0x40, .high, [⟨R.SCF_GNEITHER_COUNT, 32, 0, 16⟩]⟩,
  ⟨RN.SCF_GGRN, 0x4000038, 0, 65536, 0x40, .single, [⟨R.SCF_GGRN_W_FAULT, 0, 0, 16⟩, ⟨R.SCF_GGRN_P_FAULT, 0, 16, 16⟩]⟩,
  ⟨RN.SCF_GDIFF, 0x400003c, 0, 65536, 0x40, .single, [⟨R.SCF_GDIFF_COUNT, 0, 0, 32⟩]⟩,
  ⟨RN.PLB_CFG, 0x70000, 0, 1, 0x0, .single, [⟨R.PLB_CFG_QL_EN, 0, 0, 1⟩, ⟨R.PLB_CFG_REVERT, 0, 1, 1⟩, ⟨R.PLB_CFG_SWITCH, 0, 2, 1⟩, ⟨R.PLB_CFG_OWN_QL, 0, 4, 4⟩, ⟨R.PLB_CFG_HOLD_QL, 0, 8, 4⟩]⟩,
  ⟨RN.PLB_CTRL, 0x70004, 0, 1, 0x0, .single, [⟨R.PLB_CTRL_CMD, 0, 0, 3⟩, ⟨R.PLB_CTRL_REF, 0, 4, 4⟩, ⟨R.PLB_CTRL_REALIGN, 0, 8, 1⟩, ⟨R.PLB_CTRL_LEARN_RESET, 0, 9, 1⟩]⟩,
  ⟨RN.PLB_STATUS, 0x70008, 0, 1, 0x0, .single, [⟨R.PLB_STATUS_STATE, 0, 0, 3⟩, ⟨R.PLB_STATUS_BRIDGE, 0, 3, 1⟩, ⟨R.PLB_STATUS_COAST, 0, 4, 1⟩, ⟨R.PLB_STATUS_SEL, 0, 5, 4⟩, ⟨R.PLB_STATUS_DPLL, 0, 9, 1⟩, ⟨R.PLB_STATUS_SHADOW_OK, 0, 10, 1⟩, ⟨R.PLB_STATUS_MODEL_VALID, 0, 11, 1⟩, ⟨R.PLB_STATUS_OUT_QL, 0, 12, 4⟩, ⟨R.PLB_STATUS_CMD_ACT, 0, 16, 2⟩, ⟨R.PLB_STATUS_CMD_REF, 0, 18, 4⟩, ⟨R.PLB_STATUS_LAST_REF, 0, 22, 4⟩]⟩,
  ⟨RN.PLB_EVT, 0x7000c, 0, 1, 0x0, .single, [⟨R.PLB_EVT, 0, 0, 10⟩]⟩,
  ⟨RN.PLB_EVT_EN, 0x70010, 0, 1, 0x0, .single, [⟨R.PLB_EVT_EN, 0, 0, 10⟩]⟩,
  ⟨RN.PLB_DPLL_BW, 0x70014, 0, 1, 0x0, .single, [⟨R.PLB_DPLL_BW_BW, 0, 0, 17⟩]⟩,
  ⟨RN.PLB_DPLL_ACQ, 0x70018, 0, 1, 0x0, .single, [⟨R.PLB_DPLL_ACQ_ACQ_BW, 0, 0, 17⟩, ⟨R.PLB_DPLL_ACQ_LOCK_WIN, 0, 24, 8⟩]⟩,
  ⟨RN.PLB_DPLL_PSL, 0x7001c, 0, 1, 0x0, .single, [⟨R.PLB_DPLL_PSL_PSL, 0, 0, 16⟩, ⟨R.PLB_DPLL_PSL_ACQ_PSL, 0, 16, 16⟩]⟩,
  ⟨RN.PLB_TIMERS, 0x70020, 0, 1, 0x0, .single, [⟨R.PLB_TIMERS_HOLDOFF, 0, 0, 5⟩, ⟨R.PLB_TIMERS_WTR, 0, 5, 12⟩, ⟨R.PLB_TIMERS_BRIDGE, 0, 17, 15⟩]⟩,
  ⟨RN.PLB_XO_CFG, 0x70024, 0, 1, 0x0, .single, [⟨R.PLB_XO_CFG_XO_HZ, 0, 0, 26⟩]⟩,
  ⟨RN.PLB_HOLD_CFG, 0x70028, 0, 1, 0x0, .single, [⟨R.PLB_HOLD_CFG_HOLD_MAX, 0, 0, 8⟩, ⟨R.PLB_HOLD_CFG_LEARN_MIN, 0, 8, 8⟩, ⟨R.PLB_HOLD_CFG_TSENS, 0, 16, 4⟩]⟩,
  ⟨RN.PLB_LEARN_CFG, 0x7002c, 0, 1, 0x0, .single, [⟨R.PLB_LEARN_CFG_LEARN_WIN, 0, 0, 14⟩, ⟨R.PLB_LEARN_CFG_DRIFT_LAG, 0, 14, 14⟩]⟩,
  ⟨RN.PLB_HOLD_STAT, 0x70030, 0, 1, 0x0, .single, [⟨R.PLB_HOLD_STAT_RECORDS, 0, 0, 14⟩, ⟨R.PLB_HOLD_STAT_VALID, 0, 14, 1⟩, ⟨R.PLB_HOLD_STAT_FROZEN, 0, 15, 1⟩, ⟨R.PLB_HOLD_STAT_HOLD_MIN, 0, 16, 16⟩]⟩,
  ⟨RN.PLB_HOLD_FREQ_LO, 0x70034, 0, 1, 0x0, .low, [⟨R.PLB_HOLD_FREQ_F0, 0, 0, 32⟩]⟩,
  ⟨RN.PLB_HOLD_FREQ_HI, 0x70038, 0, 1, 0x0, .high, [⟨R.PLB_HOLD_FREQ_F0, 32, 0, 8⟩]⟩,
  ⟨RN.PLB_HOLD_AGE, 0x7003c, 0, 1, 0x0, .single, [⟨R.PLB_HOLD_AGE_VALUE, 0, 0, 32⟩]⟩,
  ⟨RN.PLB_HOLD_TCO, 0x70040, 0, 1, 0x0, .single, [⟨R.PLB_HOLD_TCO_VALUE, 0, 0, 32⟩]⟩,
  ⟨RN.PLB_HOLD_T0, 0x70044, 0, 1, 0x0, .single, [⟨R.PLB_HOLD_T0_T0, 0, 0, 16⟩, ⟨R.PLB_HOLD_T0_TNOW, 0, 16, 16⟩]⟩,
  ⟨RN.PLB_PHASE_ERR, 0x70048, 0, 1, 0x0, .single, [⟨R.PLB_PHASE_ERR_VALUE, 0, 0, 32⟩]⟩,
  ⟨RN.PLB_BUILDOUT, 0x7004c, 0, 1, 0x0, .single, [⟨R.PLB_BUILDOUT_VALUE, 0, 0, 32⟩]⟩,
  ⟨RN.PLB_MREF_CFG, 0x70050, 0, 1, 0x0, .single, [⟨R.PLB_MREF_CFG_ASYM, 0, 0, 32⟩]⟩,
  ⟨RN.PLB_MREF_STAT, 0x70054, 0, 1, 0x0, .single, [⟨R.PLB_MREF_STAT_LANE, 0, 0, 3⟩, ⟨R.PLB_MREF_STAT_VALID, 0, 3, 1⟩]⟩,
  ⟨RN.PLB_MREF_OFFS, 0x70058, 0, 1, 0x0, .single, [⟨R.PLB_MREF_OFFS_VALUE, 0, 0, 32⟩]⟩,
  ⟨RN.PLB_PPS, 0x7005c, 0, 1, 0x0, .single, [⟨R.PLB_PPS_PHASE, 0, 0, 13⟩]⟩,
  ⟨RN.PLB_HIST_BASE_LO, 0x70060, 0, 1, 0x0, .low, [⟨R.PLB_HIST_BASE_BASE, 18, 18, 14⟩]⟩,
  ⟨RN.PLB_HIST_BASE_HI, 0x70064, 0, 1, 0x0, .high, [⟨R.PLB_HIST_BASE_BASE, 32, 0, 8⟩]⟩,
  ⟨RN.PLB_HIST_IDX, 0x70068, 0, 1, 0x0, .single, [⟨R.PLB_HIST_IDX_NEXT, 0, 0, 14⟩, ⟨R.PLB_HIST_IDX_WRAPPED, 0, 14, 1⟩]⟩,
  ⟨RN.PLB_DRIFT_ONSET, 0x70070, 0, 1, 0x0, .single, [⟨R.PLB_DRIFT_ONSET_EPOCH, 0, 0, 32⟩]⟩,
  ⟨RN.PLB_REFi_CFG, 0x70100, 0, 13, 0x40, .single, [⟨R.PLB_REFi_CFG_EN, 0, 0, 1⟩, ⟨R.PLB_REFi_CFG_PRIO, 0, 1, 4⟩, ⟨R.PLB_REFi_CFG_QL, 0, 5, 4⟩, ⟨R.PLB_REFi_CFG_LOCKOUT, 0, 9, 1⟩, ⟨R.PLB_REFi_CFG_KIND, 0, 10, 1⟩, ⟨R.PLB_REFi_CFG_SRC, 0, 11, 15⟩]⟩]

def regTable5 : List Reg := [
  ⟨RN.PLB_REFi_TOFF, 0x70104, 0, 13, 0x40, .single, [⟨R.PLB_REFi_TOFF_TOFF, 0, 0, 32⟩]⟩,
  ⟨RN.PLB_REFi_STAT, 0x70108, 0, 13, 0x40, .single, [⟨R.PLB_REFi_STAT_QUAL, 0, 0, 2⟩, ⟨R.PLB_REFi_STAT_ACTIVE, 0, 2, 1⟩, ⟨R.PLB_REFi_STAT_FREQ_OK, 0, 3, 1⟩, ⟨R.PLB_REFi_STAT_SOFT, 0, 4, 1⟩, ⟨R.PLB_REFi_STAT_HARD, 0, 5, 1⟩, ⟨R.PLB_REFi_STAT_QL_ACT, 0, 6, 4⟩, ⟨R.PLB_REFi_STAT_JUMPS, 0, 10, 2⟩]⟩,
  ⟨RN.PLB_REFi_EVT, 0x7010c, 0, 13, 0x40, .single, [⟨R.PLB_REFi_EVT, 0, 0, 8⟩]⟩,
  ⟨RN.PLB_REFi_EVT_EN, 0x70110, 0, 13, 0x40, .single, [⟨R.PLB_REFi_EVT_EN, 0, 0, 8⟩]⟩,
  ⟨RN.PLB_REFi_WTR, 0x70114, 0, 13, 0x40, .single, [⟨R.PLB_REFi_WTR_REMAIN, 0, 0, 12⟩]⟩,
  ⟨RN.PLB_REFi_FREQ, 0x70118, 0, 13, 0x40, .single, [⟨R.PLB_REFi_FREQ_VALUE, 0, 0, 32⟩]⟩,
  ⟨RN.PLB_REFi_DEV, 0x7011c, 0, 13, 0x40, .single, [⟨R.PLB_REFi_DEV_VALUE, 0, 0, 32⟩]⟩,
  ⟨RN.PLB_REFi_DRIFT, 0x70120, 0, 13, 0x40, .single, [⟨R.PLB_REFi_DRIFT_SOFT, 0, 0, 16⟩, ⟨R.PLB_REFi_DRIFT_HARD, 0, 16, 16⟩]⟩,
  ⟨RN.PLB_REFi_MTIE0, 0x70124, 0, 13, 0x40, .single, [⟨R.PLB_REFi_MTIE0_VALUE, 0, 0, 32⟩]⟩,
  ⟨RN.PLB_REFi_MTIE1, 0x70128, 0, 13, 0x40, .single, [⟨R.PLB_REFi_MTIE1_VALUE, 0, 0, 32⟩]⟩,
  ⟨RN.PLB_REFi_MTIE2, 0x7012c, 0, 13, 0x40, .single, [⟨R.PLB_REFi_MTIE2_VALUE, 0, 0, 32⟩]⟩,
  ⟨RN.PLB_REFi_MTIE3, 0x70130, 0, 13, 0x40, .single, [⟨R.PLB_REFi_MTIE3_VALUE, 0, 0, 32⟩]⟩,
  ⟨RN.PLB_REFi_TDEV, 0x70134, 0, 13, 0x40, .single, [⟨R.PLB_REFi_TDEV_VALUE, 0, 0, 32⟩]⟩,
  ⟨RN.PLB_REFi_JUMP, 0x70138, 0, 13, 0x40, .single, [⟨R.PLB_REFi_JUMP_VALUE, 0, 0, 32⟩]⟩,
  ⟨RN.PLB_REFi_MON, 0x7013c, 0, 13, 0x40, .single, [⟨R.PLB_REFi_MON_PJ_LIM, 0, 0, 16⟩, ⟨R.PLB_REFi_MON_FREQ_RANGE, 0, 16, 8⟩]⟩,
  ⟨RN.PLB_FPOUTk_CFG, 0x70500, 0, 8, 0x10, .single, [⟨R.PLB_FPOUTk_CFG_MODE, 0, 0, 2⟩, ⟨R.PLB_FPOUTk_CFG_N, 0, 2, 15⟩, ⟨R.PLB_FPOUTk_CFG_WIDTH, 0, 17, 8⟩]⟩,
  ⟨RN.PLB_FPOUTk_OFFSET, 0x70504, 0, 8, 0x10, .single, [⟨R.PLB_FPOUTk_OFFSET_OFFSET, 0, 0, 32⟩]⟩,
  ⟨RN.PLB_FPOUTk_STAT, 0x70508, 0, 8, 0x10, .single, [⟨R.PLB_FPOUTk_STAT_MODE_ACT, 0, 0, 2⟩, ⟨R.PLB_FPOUTk_STAT_SLEWING, 0, 2, 1⟩, ⟨R.PLB_FPOUTk_STAT_ALIGNED, 0, 3, 1⟩]⟩,
  ⟨RN.MAT_CFG, 0x80000, 0, 1, 0x0, .single, [⟨R.MAT_CFG_PAIR_EN, 0, 0, 1⟩, ⟨R.MAT_CFG_REVERT, 0, 1, 1⟩, ⟨R.MAT_CFG_WTR, 0, 2, 12⟩, ⟨R.MAT_CFG_GRN_PORTS, 0, 14, 8⟩, ⟨R.MAT_CFG_VOTE_MIN, 0, 22, 4⟩, ⟨R.MAT_CFG_LANE_REQ, 0, 26, 1⟩]⟩,
  ⟨RN.MAT_CTRL, 0x80004, 0, 1, 0x0, .single, [⟨R.MAT_CTRL_SWITCH, 0, 0, 1⟩, ⟨R.MAT_CTRL_REJOIN, 0, 1, 1⟩, ⟨R.MAT_CTRL_RECOPY, 0, 2, 1⟩]⟩,
  ⟨RN.MAT_STAT, 0x80008, 0, 1, 0x0, .single, [⟨R.MAT_STAT_STATE, 0, 0, 4⟩, ⟨R.MAT_STAT_SIDE, 0, 4, 1⟩, ⟨R.MAT_STAT_ARB_IN, 0, 5, 1⟩, ⟨R.MAT_STAT_ARB_OUT, 0, 6, 1⟩, ⟨R.MAT_STAT_HB_OK, 0, 7, 1⟩, ⟨R.MAT_STAT_KEPT, 0, 8, 1⟩, ⟨R.MAT_STAT_TKV, 0, 9, 1⟩, ⟨R.MAT_STAT_NEW_ROLE, 0, 10, 2⟩, ⟨R.MAT_STAT_MLANES, 0, 12, 8⟩, ⟨R.MAT_STAT_CONFLICT, 0, 20, 1⟩]⟩,
  ⟨RN.MAT_EVT, 0x8000c, 0, 1, 0x0, .single, [⟨R.MAT_EVT, 0, 0, 13⟩]⟩,
  ⟨RN.MAT_EVT_EN, 0x80010, 0, 1, 0x0, .single, [⟨R.MAT_EVT_EN, 0, 0, 13⟩]⟩,
  ⟨RN.MAT_PEER, 0x80014, 0, 1, 0x0, .single, [⟨R.MAT_PEER_STATE, 0, 0, 4⟩, ⟨R.MAT_PEER_SIDE, 0, 4, 1⟩, ⟨R.MAT_PEER_HEALTHY, 0, 5, 1⟩, ⟨R.MAT_PEER_KEPT, 0, 6, 1⟩, ⟨R.MAT_PEER_VALID, 0, 31, 1⟩]⟩,
  ⟨RN.MAT_NREADY, 0x80018, 0, 1, 0x0, .single, [⟨R.MAT_NREADY_COPY, 0, 0, 1⟩, ⟨R.MAT_NREADY_JOURNAL, 0, 1, 1⟩, ⟨R.MAT_NREADY_LONGPATH, 0, 2, 1⟩, ⟨R.MAT_NREADY_BENTLOCK, 0, 3, 1⟩, ⟨R.MAT_NREADY_PLUMB, 0, 4, 1⟩, ⟨R.MAT_NREADY_SEED, 0, 5, 1⟩, ⟨R.MAT_NREADY_GRAIN, 0, 6, 1⟩, ⟨R.MAT_NREADY_LANES, 0, 7, 1⟩]⟩,
  ⟨RN.MAT_COPY, 0x8001c, 0, 1, 0x0, .single, [⟨R.MAT_COPY_EPOCH, 0, 0, 8⟩, ⟨R.MAT_COPY_SLICE, 0, 8, 7⟩, ⟨R.MAT_COPY_PHASE, 0, 15, 2⟩]⟩,
  ⟨RN.MAT_JSENT, 0x80020, 0, 1, 0x0, .single, [⟨R.MAT_JSENT_VALUE, 0, 0, 32⟩]⟩,
  ⟨RN.MAT_JACK, 0x80024, 0, 1, 0x0, .single, [⟨R.MAT_JACK_VALUE, 0, 0, 32⟩]⟩,
  ⟨RN.MAT_JFILL, 0x80028, 0, 1, 0x0, .single, [⟨R.MAT_JFILL_UNITS, 0, 0, 27⟩, ⟨R.MAT_JFILL_OVERFLOW, 0, 31, 1⟩]⟩,
  ⟨RN.MAT_WTR, 0x8002c, 0, 1, 0x0, .single, [⟨R.MAT_WTR_REMAIN, 0, 0, 12⟩]⟩,
  ⟨RN.MAT_VOTES, 0x80030, 0, 1, 0x0, .single, [⟨R.MAT_VOTES_VOTERS, 0, 0, 8⟩, ⟨R.MAT_VOTES_A_ONLY, 0, 8, 8⟩, ⟨R.MAT_VOTES_B_ONLY, 0, 16, 8⟩, ⟨R.MAT_VOTES_BOTH, 0, 24, 8⟩]⟩,
  ⟨RN.MAT_TAKE, 0x80034, 0, 1, 0x0, .single, [⟨R.MAT_TAKE_CAUSE, 0, 0, 3⟩, ⟨R.MAT_TAKE_FROM_COPY, 0, 3, 1⟩, ⟨R.MAT_TAKE_DECIDER, 0, 4, 1⟩]⟩,
  ⟨RN.MAT_TAKE_FRAME, 0x80038, 0, 1, 0x0, .single, [⟨R.MAT_TAKE_FRAME_VALUE, 0, 0, 32⟩]⟩,
  ⟨RN.MAT_GAP_EDITS, 0x8003c, 0, 1, 0x0, .single, [⟨R.MAT_GAP_EDITS_UNITS, 0, 0, 27⟩]⟩,
  ⟨RN.MAT_GAP_MISC, 0x80040, 0, 1, 0x0, .single, [⟨R.MAT_GAP_MISC_COMMITS, 0, 0, 16⟩, ⟨R.MAT_GAP_MISC_UNKNOWN, 0, 31, 1⟩]⟩,
  ⟨RN.MAT_GAP_FIRST, 0x80044, 0, 1, 0x0, .single, [⟨R.MAT_GAP_FIRST_VALUE, 0, 0, 32⟩]⟩,
  ⟨RN.MAT_JBASE_LO, 0x80048, 0, 1, 0x0, .low, [⟨R.MAT_JBASE_BASE, 30, 30, 2⟩]⟩,
  ⟨RN.MAT_JBASE_HI, 0x8004c, 0, 1, 0x0, .high, [⟨R.MAT_JBASE_BASE, 32, 0, 8⟩]⟩,
  ⟨RN.IMG_RAISE, 0x10000, 0, 1, 0x0, .single, [⟨R.IMG_RAISE_PHASE, 0, 0, 3⟩, ⟨R.IMG_RAISE_HALTED, 0, 3, 1⟩, ⟨R.IMG_RAISE_RECOVERY, 0, 4, 1⟩, ⟨R.IMG_RAISE_FAIL, 0, 8, 5⟩, ⟨R.IMG_RAISE_SLOT, 0, 16, 1⟩]⟩,
  ⟨RN.IMG_RAISE_DETAIL, 0x10004, 0, 1, 0x0, .single, [⟨R.IMG_RAISE_DETAIL_SECTION, 0, 0, 16⟩, ⟨R.IMG_RAISE_DETAIL_CODE, 0, 16, 4⟩, ⟨R.IMG_RAISE_DETAIL_OFFSET, 0, 20, 12⟩]⟩]

def regTable6 : List Reg := [
  ⟨RN.IMG_EVT, 0x10008, 0, 1, 0x0, .single, [⟨R.IMG_EVT, 0, 0, 8⟩]⟩,
  ⟨RN.IMG_EVT_EN, 0x1000c, 0, 1, 0x0, .single, [⟨R.IMG_EVT_EN, 0, 0, 8⟩]⟩,
  ⟨RN.IMG_RAISE_CFG, 0x10010, 0, 1, 0x0, .single, [⟨R.IMG_RAISE_CFG_P4_WAIT, 0, 0, 8⟩, ⟨R.IMG_RAISE_CFG_P5_MAX, 0, 8, 8⟩, ⟨R.IMG_RAISE_CFG_RAISE_MAX, 0, 16, 8⟩]⟩,
  ⟨RN.IMG_RUN, 0x10014, 0, 1, 0x0, .single, [⟨R.IMG_RUN_SLOT, 0, 0, 1⟩, ⟨R.IMG_RUN_STAGED, 0, 1, 1⟩, ⟨R.IMG_RUN_FW_SLOT, 0, 2, 1⟩, ⟨R.IMG_RUN_FALLBACK, 0, 3, 1⟩, ⟨R.IMG_RUN_TRIAL, 0, 4, 1⟩, ⟨R.IMG_RUN_KEY_SLOT, 0, 5, 2⟩, ⟨R.IMG_RUN_ENC, 0, 7, 1⟩, ⟨R.IMG_RUN_SVN, 0, 8, 6⟩]⟩,
  ⟨RN.IMG_RUN_VER, 0x10018, 0, 1, 0x0, .single, [⟨R.IMG_RUN_VER_VERSION, 0, 0, 32⟩]⟩,
  ⟨RN.IMG_BOOT, 0x1001c, 0, 1, 0x0, .single, [⟨R.IMG_BOOT_PREF, 0, 0, 1⟩, ⟨R.IMG_BOOT_TRIAL, 0, 1, 1⟩]⟩,
  ⟨RN.IMG_CTRL, 0x10020, 0, 1, 0x0, .single, [⟨R.IMG_CTRL_CONFIRM, 0, 0, 1⟩, ⟨R.IMG_CTRL_VERIFY, 0, 1, 1⟩, ⟨R.IMG_CTRL_PROGRAM, 0, 2, 1⟩, ⟨R.IMG_CTRL_LIVE_GO, 0, 3, 1⟩, ⟨R.IMG_CTRL_SVN_BURN, 0, 4, 1⟩, ⟨R.IMG_CTRL_RECOVER_GO, 0, 5, 1⟩, ⟨R.IMG_CTRL_ABORT, 0, 6, 1⟩, ⟨R.IMG_CTRL_SLOT, 0, 8, 1⟩]⟩,
  ⟨RN.IMG_OP_STAT, 0x10024, 0, 1, 0x0, .single, [⟨R.IMG_OP_STAT_STATE, 0, 0, 2⟩, ⟨R.IMG_OP_STAT_OP, 0, 2, 2⟩, ⟨R.IMG_OP_STAT_CODE, 0, 4, 5⟩, ⟨R.IMG_OP_STAT_PROGRESS, 0, 16, 13⟩]⟩,
  ⟨RN.IMG_PROG_SRC_LO, 0x10028, 0, 1, 0x0, .low, [⟨R.IMG_PROG_SRC_SRC, 12, 12, 20⟩]⟩,
  ⟨RN.IMG_PROG_SRC_HI, 0x1002c, 0, 1, 0x0, .high, [⟨R.IMG_PROG_SRC_SRC, 32, 0, 8⟩]⟩,
  ⟨RN.IMG_PROG_LEN, 0x10030, 0, 1, 0x0, .single, [⟨R.IMG_PROG_LEN_LEN, 0, 0, 29⟩]⟩,
  ⟨RN.IMG_FLASH, 0x10034, 0, 1, 0x0, .single, [⟨R.IMG_FLASH_MODE, 0, 0, 2⟩, ⟨R.IMG_FLASH_CLOCK, 0, 2, 8⟩, ⟨R.IMG_FLASH_DENSITY, 0, 10, 5⟩, ⟨R.IMG_FLASH_SFDP_OK, 0, 15, 1⟩]⟩,
  ⟨RN.IMG_SVN_MIN, 0x10038, 0, 1, 0x0, .single, [⟨R.IMG_SVN_MIN_MIN, 0, 0, 6⟩]⟩,
  ⟨RN.IMG_SLOTs_STAT, 0x10040, 0, 2, 0x8, .single, [⟨R.IMG_SLOTs_STAT_CHECKED, 0, 0, 1⟩, ⟨R.IMG_SLOTs_STAT_VALID, 0, 1, 1⟩, ⟨R.IMG_SLOTs_STAT_ENC, 0, 2, 1⟩, ⟨R.IMG_SLOTs_STAT_KEY_SLOT, 0, 3, 2⟩, ⟨R.IMG_SLOTs_STAT_SVN, 0, 5, 6⟩, ⟨R.IMG_SLOTs_STAT_CODE, 0, 11, 5⟩]⟩,
  ⟨RN.IMG_SLOTs_VER, 0x10044, 0, 2, 0x8, .single, [⟨R.IMG_SLOTs_VER_VERSION, 0, 0, 32⟩]⟩,
  ⟨RN.IMG_STAGE_BASE_LO, 0x10050, 0, 1, 0x0, .low, [⟨R.IMG_STAGE_BASE_BASE, 28, 28, 4⟩]⟩,
  ⟨RN.IMG_STAGE_BASE_HI, 0x10054, 0, 1, 0x0, .high, [⟨R.IMG_STAGE_BASE_BASE, 32, 0, 8⟩]⟩,
  ⟨RN.IMG_LIVE_STAT, 0x10058, 0, 1, 0x0, .single, [⟨R.IMG_LIVE_STAT_STATE, 0, 0, 3⟩, ⟨R.IMG_LIVE_STAT_CORE, 0, 3, 3⟩, ⟨R.IMG_LIVE_STAT_CODE, 0, 6, 5⟩]⟩,
  ⟨RN.IMG_FW_VER, 0x1005c, 0, 1, 0x0, .single, [⟨R.IMG_FW_VER_VERSION, 0, 0, 32⟩]⟩,
  ⟨RN.IMG_PHASE_TIME, 0x10060, 0, 8, 0x4, .single, [⟨R.IMG_PHASE_TIME_TIME, 0, 0, 24⟩]⟩,
  ⟨RN.DEV_ID, 0x0, 0, 1, 0x0, .single, [⟨R.DEV_ID_PART, 0, 0, 16⟩, ⟨R.DEV_ID_REV, 0, 16, 8⟩]⟩,
  ⟨RN.DEV_SERIAL_LO, 0x4, 0, 1, 0x0, .low, [⟨R.DEV_SERIAL_SERIAL, 0, 0, 32⟩]⟩,
  ⟨RN.DEV_SERIAL_HI, 0x8, 0, 1, 0x0, .high, [⟨R.DEV_SERIAL_SERIAL, 32, 0, 32⟩]⟩,
  ⟨RN.DEV_COMMIT, 0x10, 0, 1, 0x0, .single, [⟨R.DEV_COMMIT_GO, 0, 0, 1⟩, ⟨R.DEV_COMMIT_DISCARD, 0, 1, 1⟩]⟩,
  ⟨RN.DEV_COMMIT_STAT, 0x14, 0, 1, 0x0, .single, [⟨R.DEV_COMMIT_STAT_STATE, 0, 0, 2⟩, ⟨R.DEV_COMMIT_STAT_DIRTY, 0, 2, 1⟩]⟩,
  ⟨RN.DEV_COMMIT_SEQ, 0x18, 0, 1, 0x0, .single, [⟨R.DEV_COMMIT_SEQ_CSEQ, 0, 0, 32⟩]⟩,
  ⟨RN.DEV_COMMIT_ERR, 0x1c, 0, 1, 0x0, .single, [⟨R.DEV_COMMIT_ERR_OFFSET, 0, 0, 16⟩, ⟨R.DEV_COMMIT_ERR_ISLAND, 0, 16, 8⟩, ⟨R.DEV_COMMIT_ERR_VALID, 0, 31, 1⟩]⟩,
  ⟨RN.DEV_COMMIT_INST, 0x20, 0, 1, 0x0, .single, [⟨R.DEV_COMMIT_INST_INSTANCE, 0, 0, 17⟩]⟩,
  ⟨RN.DEV_EVT, 0x24, 0, 1, 0x0, .single, [⟨R.DEV_EVT, 0, 0, 2⟩]⟩,
  ⟨RN.DEV_EVT_EN, 0x28, 0, 1, 0x0, .single, [⟨R.DEV_EVT_EN, 0, 0, 2⟩]⟩,
  ⟨RN.DEV_EVTSUM, 0x2c, 0, 1, 0x0, .single, [⟨R.DEV_EVTSUM_GLOBAL, 0, 0, 14⟩, ⟨R.DEV_EVTSUM_LANES, 0, 16, 1⟩, ⟨R.DEV_EVTSUM_BENTS, 0, 17, 1⟩, ⟨R.DEV_EVTSUM_GROUPS, 0, 18, 1⟩]⟩,
  ⟨RN.DEV_RDSEL, 0x30, 0, 1, 0x0, .single, [⟨R.DEV_RDSEL_ACTIVE, 0, 0, 1⟩]⟩,
  ⟨RN.MGT_OWNER, 0x20000, 0, 1, 0x0, .single, [⟨R.MGT_OWNER_PORT, 0, 0, 3⟩, ⟨R.MGT_OWNER_PENDING, 0, 3, 1⟩, ⟨R.MGT_OWNER_SUCCESSOR, 0, 4, 3⟩, ⟨R.MGT_OWNER_LEFT, 0, 8, 12⟩]⟩,
  ⟨RN.MGT_EVT, 0x20004, 0, 1, 0x0, .single, [⟨R.MGT_EVT, 0, 0, 9⟩]⟩,
  ⟨RN.MGT_EVT_EN, 0x20008, 0, 1, 0x0, .single, [⟨R.MGT_EVT_EN, 0, 0, 9⟩]⟩,
  ⟨RN.MGT_OWN_TOKEN, 0x20010, 0, 1, 0x0, .single, [⟨R.MGT_OWN_TOKEN_TOKEN, 0, 0, 32⟩]⟩,
  ⟨RN.MGT_OWN_OP, 0x20014, 0, 1, 0x0, .single, [⟨R.MGT_OWN_OP_OP, 0, 0, 3⟩, ⟨R.MGT_OWN_OP_SUCCESSOR, 0, 4, 3⟩]⟩,
  ⟨RN.MGT_DROP_CNT, 0x20018, 0, 1, 0x0, .single, [⟨R.MGT_DROP_CNT_COUNT, 0, 0, 32⟩]⟩,
  ⟨RN.MGT_DROP_LAST_LO, 0x20020, 0, 1, 0x0, .low, [⟨R.MGT_DROP_LAST_ADDR, 0, 0, 32⟩]⟩,
  ⟨RN.MGT_DROP_LAST_HI, 0x20024, 0, 1, 0x0, .high, [⟨R.MGT_DROP_LAST_ADDR, 32, 0, 8⟩, ⟨R.MGT_DROP_LAST_HI_PORT, 0, 8, 3⟩]⟩]

def regTable7 : List Reg := [
  ⟨RN.MGT_LOG_BASE_LO, 0x20030, 0, 1, 0x0, .low, [⟨R.MGT_LOG_BASE_BASE, 24, 24, 8⟩]⟩,
  ⟨RN.MGT_LOG_BASE_HI, 0x20034, 0, 1, 0x0, .high, [⟨R.MGT_LOG_BASE_BASE, 32, 0, 8⟩]⟩,
  ⟨RN.MGT_LOG_IDX, 0x20038, 0, 1, 0x0, .single, [⟨R.MGT_LOG_IDX_NEXT, 0, 0, 20⟩, ⟨R.MGT_LOG_IDX_WRAPPED, 0, 20, 1⟩]⟩,
  ⟨RN.MGT_INTN_CFG, 0x20040, 0, 2, 0x4, .single, [⟨R.MGT_INTN_CFG_MASK, 0, 0, 27⟩]⟩,
  ⟨RN.MGT_TUN_ADDR_LO, 0x20050, 0, 1, 0x0, .low, [⟨R.MGT_TUN_ADDR_ADDR, 2, 2, 30⟩]⟩,
  ⟨RN.MGT_TUN_ADDR_HI, 0x20054, 0, 1, 0x0, .high, [⟨R.MGT_TUN_ADDR_ADDR, 32, 0, 8⟩]⟩,
  ⟨RN.MGT_TUN_DATA, 0x20058, 0, 1, 0x0, .single, [⟨R.MGT_TUN_DATA_DATA, 0, 0, 32⟩]⟩,
  ⟨RN.MGT_TUN_CTRL, 0x2005c, 0, 1, 0x0, .single, [⟨R.MGT_TUN_CTRL_GO, 0, 0, 1⟩, ⟨R.MGT_TUN_CTRL_WRITE, 0, 1, 1⟩, ⟨R.MGT_TUN_CTRL_UNPRIV, 0, 2, 1⟩]⟩,
  ⟨RN.MGT_TUN_STAT, 0x20060, 0, 1, 0x0, .single, [⟨R.MGT_TUN_STAT_STATE, 0, 0, 2⟩, ⟨R.MGT_TUN_STAT_RESULT, 0, 2, 3⟩]⟩,
  ⟨RN.MGT_PORTp_CFG, 0x20100, 0, 4, 0x20, .single, [⟨R.MGT_PORTp_CFG_CLASS, 0, 0, 2⟩, ⟨R.MGT_PORTp_CFG_PRIO, 0, 4, 4⟩, ⟨R.MGT_PORTp_CFG_RING_EN, 0, 8, 1⟩]⟩,
  ⟨RN.MGT_PORTp_WIN, 0x20104, 0, 4, 0x20, .single, [⟨R.MGT_PORTp_WIN_BASE, 0, 0, 8⟩]⟩,
  ⟨RN.MGT_PORTp_RING_HEAD, 0x20108, 0, 4, 0x20, .single, [⟨R.MGT_PORTp_RING_HEAD_HEAD, 0, 0, 12⟩]⟩,
  ⟨RN.MGT_PORTp_RING_TAIL, 0x2010c, 0, 4, 0x20, .single, [⟨R.MGT_PORTp_RING_TAIL_TAIL, 0, 0, 12⟩]⟩,
  ⟨RN.MGT_PORTp_RING_DROP, 0x20110, 0, 4, 0x20, .single, [⟨R.MGT_PORTp_RING_DROP_COUNT, 0, 0, 32⟩]⟩,
  ⟨RN.MGT_PORTp_EOI, 0x20114, 0, 4, 0x20, .single, [⟨R.MGT_PORTp_EOI_VECTOR, 0, 0, 6⟩]⟩,
  ⟨RN.MTX_STAT, 0x30000, 0, 1, 0x0, .single, [⟨R.MTX_STAT_PROFILE, 0, 0, 1⟩, ⟨R.MTX_STAT_PARK, 0, 1, 4⟩]⟩,
  ⟨RN.MTX_EVT, 0x30004, 0, 1, 0x0, .single, [⟨R.MTX_EVT, 0, 0, 4⟩]⟩,
  ⟨RN.MTX_EVT_EN, 0x30008, 0, 1, 0x0, .single, [⟨R.MTX_EVT_EN, 0, 0, 4⟩]⟩,
  ⟨RN.MTX_JMAP, 0x3000c, 0, 1, 0x0, .single, [⟨R.MTX_JMAP_CORES, 0, 0, 12⟩]⟩,
  ⟨RN.MTX_ERR_LO, 0x30010, 0, 1, 0x0, .low, [⟨R.MTX_ERR_ADDR, 0, 0, 32⟩]⟩,
  ⟨RN.MTX_ERR_HI, 0x30014, 0, 1, 0x0, .high, [⟨R.MTX_ERR_ADDR, 32, 0, 8⟩, ⟨R.MTX_ERR_HI_MASTER, 0, 8, 4⟩, ⟨R.MTX_ERR_HI_TARGET, 0, 12, 4⟩, ⟨R.MTX_ERR_HI_KIND, 0, 16, 1⟩, ⟨R.MTX_ERR_HI_BEATS, 0, 17, 8⟩]⟩,
  ⟨RN.MTX_ABORT_LO, 0x30018, 0, 1, 0x0, .low, [⟨R.MTX_ABORT_ADDR, 0, 0, 32⟩]⟩,
  ⟨RN.MTX_ABORT_HI, 0x3001c, 0, 1, 0x0, .high, [⟨R.MTX_ABORT_ADDR, 32, 0, 8⟩, ⟨R.MTX_ABORT_HI_MASTER, 0, 8, 4⟩, ⟨R.MTX_ABORT_HI_TARGET, 0, 12, 4⟩, ⟨R.MTX_ABORT_HI_KIND, 0, 16, 1⟩, ⟨R.MTX_ABORT_HI_BEATS, 0, 17, 8⟩]⟩,
  ⟨RN.MEM_STAT, 0x40000, 0, 1, 0x0, .single, [⟨R.MEM_STAT_SPARE_ROWS, 0, 0, 8⟩, ⟨R.MEM_STAT_FAILED, 0, 8, 8⟩]⟩,
  ⟨RN.MEM_EVT, 0x40004, 0, 1, 0x0, .single, [⟨R.MEM_EVT, 0, 0, 4⟩]⟩,
  ⟨RN.MEM_EVT_EN, 0x40008, 0, 1, 0x0, .single, [⟨R.MEM_EVT_EN, 0, 0, 4⟩]⟩,
  ⟨RN.MEM_CNT_LO, 0x40010, 0, 2, 0x8, .low, [⟨R.MEM_CNT_COUNT, 0, 0, 32⟩]⟩,
  ⟨RN.MEM_CNT_HI, 0x40014, 0, 2, 0x8, .high, [⟨R.MEM_CNT_COUNT, 32, 0, 16⟩]⟩,
  ⟨RN.MEM_ECC_LAST_LO, 0x40020, 0, 1, 0x0, .low, [⟨R.MEM_ECC_LAST_ADDR, 0, 0, 32⟩]⟩,
  ⟨RN.MEM_ECC_LAST_HI, 0x40024, 0, 1, 0x0, .high, [⟨R.MEM_ECC_LAST_ADDR, 32, 0, 8⟩, ⟨R.MEM_ECC_LAST_HI_MASTER, 0, 8, 4⟩]⟩,
  ⟨RN.MEM_LOCK, 0x40040, 0, 8, 0x4, .single, [⟨R.MEM_LOCK_HOLDERS, 0, 0, 32⟩]⟩,
  ⟨RN.SND_CFG, 0x40100, 0, 1, 0x0, .single, [⟨R.SND_CFG_EN, 0, 0, 1⟩]⟩,
  ⟨RN.SND_STAT, 0x40104, 0, 1, 0x0, .single, [⟨R.SND_STAT_REGION, 0, 0, 16⟩, ⟨R.SND_STAT_NOSISTER, 0, 16, 7⟩, ⟨R.SND_STAT_ACTIVE, 0, 31, 1⟩]⟩,
  ⟨RN.SND_EVT, 0x40108, 0, 1, 0x0, .single, [⟨R.SND_EVT, 0, 0, 3⟩]⟩,
  ⟨RN.SND_EVT_EN, 0x4010c, 0, 1, 0x0, .single, [⟨R.SND_EVT_EN, 0, 0, 3⟩]⟩,
  ⟨RN.SND_PASS, 0x40110, 0, 1, 0x0, .single, [⟨R.SND_PASS_PASSES, 0, 0, 16⟩, ⟨R.SND_PASS_MINUTES, 0, 16, 16⟩]⟩,
  ⟨RN.SND_FAIL_LAST, 0x40114, 0, 1, 0x0, .single, [⟨R.SND_FAIL_LAST_INDEX, 0, 0, 16⟩, ⟨R.SND_FAIL_LAST_KIND, 0, 16, 1⟩, ⟨R.SND_FAIL_LAST_REPAIRED, 0, 17, 1⟩, ⟨R.SND_FAIL_LAST_VALID, 0, 31, 1⟩]⟩,
  ⟨RN.SND_EXEMPT_CNT, 0x40118, 0, 1, 0x0, .single, [⟨R.SND_EXEMPT_CNT_COUNT, 0, 0, 16⟩]⟩,
  ⟨RN.SND_EXEMPT, 0x40120, 0, 8, 0x4, .single, [⟨R.SND_EXEMPT_FIRST, 0, 0, 16⟩, ⟨R.SND_EXEMPT_COUNT, 0, 16, 16⟩]⟩,
  ⟨RN.DDR_CFG, 0x50000, 0, 1, 0x0, .single, [⟨R.DDR_CFG_LP_GB, 0, 0, 7⟩, ⟨R.DDR_CFG_SCN_256M, 0, 7, 5⟩, ⟨R.DDR_CFG_HIST_16M, 0, 12, 8⟩, ⟨R.DDR_CFG_RETRAIN_CORR, 0, 20, 12⟩]⟩]

def regTable8 : List Reg := [
  ⟨RN.DDR_STAT, 0x50004, 0, 1, 0x0, .single, [⟨R.DDR_STAT_INSTALLED, 0, 0, 8⟩, ⟨R.DDR_STAT_USABLE, 0, 8, 8⟩, ⟨R.DDR_STAT_ONLINE, 0, 16, 8⟩, ⟨R.DDR_STAT_CONFIG, 0, 24, 4⟩]⟩,
  ⟨RN.DDR_EVT, 0x50008, 0, 1, 0x0, .single, [⟨R.DDR_EVT, 0, 0, 4⟩]⟩,
  ⟨RN.DDR_EVT_EN, 0x5000c, 0, 1, 0x0, .single, [⟨R.DDR_EVT_EN, 0, 0, 4⟩]⟩,
  ⟨RN.DDR_CNT_LO, 0x50010, 0, 3, 0x8, .low, [⟨R.DDR_CNT_COUNT, 0, 0, 32⟩]⟩,
  ⟨RN.DDR_CNT_HI, 0x50014, 0, 3, 0x8, .high, [⟨R.DDR_CNT_COUNT, 32, 0, 16⟩]⟩,
  ⟨RN.DDR_CHn_CTRL, 0x50100, 0, 8, 0x10, .single, [⟨R.DDR_CHn_CTRL_RETRAIN, 0, 0, 1⟩]⟩,
  ⟨RN.DDR_CHn_STAT, 0x50104, 0, 8, 0x10, .single, [⟨R.DDR_CHn_STAT_STATE, 0, 0, 2⟩, ⟨R.DDR_CHn_STAT_TEMP, 0, 2, 8⟩, ⟨R.DDR_CHn_STAT_TRAINS, 0, 10, 22⟩]⟩,
  ⟨RN.DDR_CHn_CORR, 0x50108, 0, 8, 0x10, .single, [⟨R.DDR_CHn_CORR_COUNT, 0, 0, 32⟩]⟩,
  ⟨RN.DDR_RGNk_BASE, 0x50200, 0, 9, 0x8, .single, [⟨R.DDR_RGNk_BASE_BASE, 0, 0, 20⟩]⟩,
  ⟨RN.DDR_RGNk_SIZE, 0x50204, 0, 9, 0x8, .single, [⟨R.DDR_RGNk_SIZE_MB, 0, 0, 18⟩]⟩,
  ⟨RN.CNT_CFG, 0x90000, 0, 1, 0x0, .single, [⟨R.CNT_CFG_PERIOD, 0, 0, 24⟩, ⟨R.CNT_CFG_CLR_ON_SNAP, 0, 24, 1⟩, ⟨R.CNT_CFG_ARCH_EN, 0, 25, 1⟩]⟩,
  ⟨RN.CNT_SNAP, 0x90004, 0, 1, 0x0, .single, [⟨R.CNT_SNAP_GO, 0, 0, 1⟩]⟩,
  ⟨RN.CNT_STAT, 0x90008, 0, 1, 0x0, .single, [⟨R.CNT_STAT_SNAP_PENDING, 0, 0, 1⟩, ⟨R.CNT_STAT_CLR_PENDING, 0, 1, 1⟩, ⟨R.CNT_STAT_SNAPS, 0, 16, 16⟩]⟩,
  ⟨RN.CNT_EVT, 0x9000c, 0, 1, 0x0, .single, [⟨R.CNT_EVT, 0, 0, 4⟩]⟩,
  ⟨RN.CNT_EVT_EN, 0x90010, 0, 1, 0x0, .single, [⟨R.CNT_EVT_EN, 0, 0, 4⟩]⟩,
  ⟨RN.CNT_CLR_FIRST, 0x90014, 0, 1, 0x0, .single, [⟨R.CNT_CLR_FIRST_FIRST, 0, 0, 19⟩]⟩,
  ⟨RN.CNT_CLR_CTRL, 0x90018, 0, 1, 0x0, .single, [⟨R.CNT_CLR_CTRL_COUNT, 0, 0, 19⟩, ⟨R.CNT_CLR_CTRL_KIND, 0, 19, 2⟩, ⟨R.CNT_CLR_CTRL_GO, 0, 31, 1⟩]⟩,
  ⟨RN.CNT_ARCH_IDX, 0x9001c, 0, 1, 0x0, .single, [⟨R.CNT_ARCH_IDX_NEXT, 0, 0, 16⟩, ⟨R.CNT_ARCH_IDX_WRAPPED, 0, 16, 1⟩]⟩,
  ⟨RN.PEG_CFG, 0x90100, 0, 1, 0x0, .single, [⟨R.PEG_CFG_RATE, 0, 0, 7⟩, ⟨R.PEG_CFG_SCOPE, 0, 7, 3⟩, ⟨R.PEG_CFG_INDEX, 0, 11, 16⟩, ⟨R.PEG_CFG_DMA_EN, 0, 27, 1⟩]⟩,
  ⟨RN.PEG_SEED, 0x90104, 0, 1, 0x0, .single, [⟨R.PEG_SEED_SEED, 0, 0, 25⟩]⟩,
  ⟨RN.PEG_STAT, 0x90108, 0, 1, 0x0, .single, [⟨R.PEG_STAT_INFLIGHT, 0, 0, 11⟩, ⟨R.PEG_STAT_QUEUED, 0, 11, 11⟩]⟩,
  ⟨RN.PEG_EVT, 0x9010c, 0, 1, 0x0, .single, [⟨R.PEG_EVT, 0, 0, 3⟩]⟩,
  ⟨RN.PEG_EVT_EN, 0x90110, 0, 1, 0x0, .single, [⟨R.PEG_EVT_EN, 0, 0, 3⟩]⟩,
  ⟨RN.PEG_CTRL, 0x90114, 0, 1, 0x0, .single, [⟨R.PEG_CTRL_POP, 0, 0, 1⟩]⟩,
  ⟨RN.PEG_DROP, 0x90118, 0, 1, 0x0, .single, [⟨R.PEG_DROP_COUNT, 0, 0, 32⟩]⟩,
  ⟨RN.PEG_DMA_BASE_LO, 0x90120, 0, 1, 0x0, .low, [⟨R.PEG_DMA_BASE_BASE, 18, 18, 14⟩]⟩,
  ⟨RN.PEG_DMA_BASE_HI, 0x90124, 0, 1, 0x0, .high, [⟨R.PEG_DMA_BASE_BASE, 32, 0, 8⟩]⟩,
  ⟨RN.PEG_DMA_IDX, 0x90128, 0, 1, 0x0, .single, [⟨R.PEG_DMA_IDX_HEAD, 0, 0, 12⟩, ⟨R.PEG_DMA_IDX_TAIL, 0, 16, 12⟩]⟩,
  ⟨RN.PEG_REC, 0x90140, 0, 16, 0x4, .single, [⟨R.PEG_REC_WORD, 0, 0, 32⟩]⟩,
  ⟨RN.PEG_HISTh_CFG, 0x91000, 0, 64, 0x10, .single, [⟨R.PEG_HISTh_CFG_QTY, 0, 0, 3⟩, ⟨R.PEG_HISTh_CFG_FILTER, 0, 3, 3⟩, ⟨R.PEG_HISTh_CFG_INDEX, 0, 7, 16⟩, ⟨R.PEG_HISTh_CFG_EN, 0, 23, 1⟩]⟩,
  ⟨RN.PEG_HISTh_BASE, 0x91004, 0, 64, 0x10, .single, [⟨R.PEG_HISTh_BASE_BASE, 0, 0, 32⟩]⟩,
  ⟨RN.PEG_HISTh_WIDTH, 0x91008, 0, 64, 0x10, .single, [⟨R.PEG_HISTh_WIDTH_WIDTH, 0, 0, 16⟩]⟩,
  ⟨RN.PEG_HISTh_STAT, 0x9100c, 0, 64, 0x10, .single, [⟨R.PEG_HISTh_STAT_SINCE, 0, 0, 32⟩]⟩,
  ⟨RN.CNT_Bc_CFG, 0x6000000, 0, 16384, 0x10, .single, [⟨R.CNT_Bc_CFG_SRC, 0, 0, 5⟩, ⟨R.CNT_Bc_CFG_CHAIN, 0, 5, 1⟩, ⟨R.CNT_Bc_CFG_ALL, 0, 6, 1⟩, ⟨R.CNT_Bc_CFG_SCOPE, 0, 8, 17⟩]⟩,
  ⟨RN.CNT_Bc_LO, 0x6000004, 0, 16384, 0x10, .low, [⟨R.CNT_Bc_COUNT, 0, 0, 32⟩]⟩,
  ⟨RN.CNT_Bc_HI, 0x6000008, 0, 16384, 0x10, .high, [⟨R.CNT_Bc_COUNT, 32, 0, 16⟩]⟩,
  ⟨RN.CNT_Bc_SN_LO, 0x6040000, 0, 16384, 0x8, .low, [⟨R.CNT_Bc_SN_COUNT, 0, 0, 32⟩]⟩,
  ⟨RN.CNT_Bc_SN_HI, 0x6040004, 0, 16384, 0x8, .high, [⟨R.CNT_Bc_SN_COUNT, 32, 0, 16⟩]⟩,
  ⟨RN.PEG_HBIN_LO, 0x5000000, 0, 16384, 0x10, .low, [⟨R.PEG_HBIN_COUNT, 0, 0, 32⟩]⟩,
  ⟨RN.PEG_HBIN_HI, 0x5000004, 0, 16384, 0x10, .high, [⟨R.PEG_HBIN_COUNT, 32, 0, 16⟩]⟩]

def regTable9 : List Reg := [
  ⟨RN.PEG_HBIN_SN_LO, 0x5000008, 0, 16384, 0x10, .low, [⟨R.PEG_HBIN_SN_COUNT, 0, 0, 32⟩]⟩,
  ⟨RN.PEG_HBIN_SN_HI, 0x500000c, 0, 16384, 0x10, .high, [⟨R.PEG_HBIN_SN_COUNT, 32, 0, 16⟩]⟩,
  ⟨RN.TLY_STAT, 0x64000, 0, 1, 0x0, .single, [⟨R.TLY_STAT_SIST_BUSY, 0, 0, 1⟩, ⟨R.TLY_STAT_REKEY, 0, 1, 1⟩, ⟨R.TLY_STAT_LOCKED, 0, 2, 1⟩, ⟨R.TLY_STAT_HALTED, 0, 3, 1⟩]⟩,
  ⟨RN.TLY_EVT, 0x64004, 0, 1, 0x0, .single, [⟨R.TLY_EVT, 0, 0, 10⟩]⟩,
  ⟨RN.TLY_EVT_EN, 0x64008, 0, 1, 0x0, .single, [⟨R.TLY_EVT_EN, 0, 0, 10⟩]⟩,
  ⟨RN.TLY_SIST_CFG, 0x6400c, 0, 1, 0x0, .single, [⟨R.TLY_SIST_CFG_AUTO, 0, 0, 4⟩, ⟨R.TLY_SIST_CFG_MARGIN_MIN, 0, 8, 7⟩, ⟨R.TLY_SIST_CFG_RO_MAX, 0, 16, 8⟩]⟩,
  ⟨RN.TLY_SPARES, 0x64010, 0, 1, 0x0, .single, [⟨R.TLY_SPARES_LANES, 0, 0, 5⟩, ⟨R.TLY_SPARES_LAM, 0, 5, 1⟩, ⟨R.TLY_SPARES_SISTERS, 0, 6, 7⟩, ⟨R.TLY_SPARES_FEC, 0, 13, 4⟩, ⟨R.TLY_SPARES_JOINER, 0, 17, 1⟩, ⟨R.TLY_SPARES_SCRIBE, 0, 18, 3⟩, ⟨R.TLY_SPARES_DPLL, 0, 21, 1⟩]⟩,
  ⟨RN.TLY_WIN_SEL, 0x64014, 0, 1, 0x0, .single, [⟨R.TLY_WIN_SEL_PAGE, 0, 0, 4⟩]⟩,
  ⟨RN.TLY_LOG_IDX, 0x64018, 0, 1, 0x0, .single, [⟨R.TLY_LOG_IDX_NEXT, 0, 0, 14⟩, ⟨R.TLY_LOG_IDX_WRAPPED, 0, 14, 1⟩]⟩,
  ⟨RN.TLY_TAMP_CFG, 0x64020, 0, 1, 0x0, .single, [⟨R.TLY_TAMP_CFG_IN_EN, 0, 0, 4⟩, ⟨R.TLY_TAMP_CFG_POLICY, 0, 4, 2⟩]⟩,
  ⟨RN.TLY_TAMP_STAT, 0x64024, 0, 1, 0x0, .single, [⟨R.TLY_TAMP_STAT_IN, 0, 0, 4⟩, ⟨R.TLY_TAMP_STAT_MON, 0, 4, 3⟩, ⟨R.TLY_TAMP_STAT_LAST, 0, 8, 7⟩, ⟨R.TLY_TAMP_STAT_COUNT, 0, 16, 16⟩]⟩,
  ⟨RN.TLY_LC_STAT, 0x64028, 0, 1, 0x0, .single, [⟨R.TLY_LC_STAT_STATE, 0, 0, 3⟩, ⟨R.TLY_LC_STAT_PENDING, 0, 3, 1⟩, ⟨R.TLY_LC_STAT_REVOKED, 0, 4, 4⟩, ⟨R.TLY_LC_STAT_SERVICES, 0, 8, 8⟩]⟩,
  ⟨RN.TLY_LC_CTRL, 0x6402c, 0, 1, 0x0, .single, [⟨R.TLY_LC_CTRL_GO, 0, 0, 1⟩]⟩,
  ⟨RN.TLY_LC_NONCE, 0x64030, 0, 1, 0x0, .single, [⟨R.TLY_LC_NONCE_NONCE, 0, 0, 32⟩]⟩,
  ⟨RN.TLY_LC_AUTH, 0x64034, 0, 1, 0x0, .single, [⟨R.TLY_LC_AUTH_OFFSET, 0, 4, 16⟩]⟩,
  ⟨RN.TLY_LC_RESULT, 0x64038, 0, 1, 0x0, .single, [⟨R.TLY_LC_RESULT_CODE, 0, 0, 4⟩]⟩,
  ⟨RN.TLY_REKEY, 0x6403c, 0, 1, 0x0, .single, [⟨R.TLY_REKEY_LONGPATH, 0, 0, 1⟩, ⟨R.TLY_REKEY_MAP, 0, 1, 1⟩, ⟨R.TLY_REKEY_SCENES, 0, 2, 1⟩, ⟨R.TLY_REKEY_WIPES, 0, 16, 16⟩]⟩]

/-- Every register of the register space that is named in an address table. -/
def regTable : List Reg :=
  regTable0 ++ regTable1 ++ regTable2 ++ regTable3 ++ regTable4 ++ regTable5 ++ regTable6 ++ regTable7 ++ regTable8 ++ regTable9

/-- The field of a number. -/
def fieldOf (id : Nat) : Option Fld :=
  regTable.findSome? (fun r => r.slices.findSome? (fun c => if c.fld.id = id then some c.fld else none))

end Sys2Proof.Machine
end

