-- ==== Sys2Proof/Machine/Operands.lean ====
section
/-! DEFINITION. Operand forms: where an address leads (R15, R374, R376, R381, R382), which register it names, and how an access is judged
before it takes effect (R375, R383 to R385, R431).
Readings and choices: DESIGN CHOICE (log entry 54). -/

namespace Sys2Proof.Machine

/-! ### Registers (R382) -/

/-- The instance of a register at an offset of register space. -/
def Reg.instanceAt (r : Reg) (off : Nat) : Option Nat :=
  if r.stride = 0 then (if off = r.base then some r.first else none)
  else if off < r.base then none
  else
    let d := off - r.base
    if d % r.stride = 0 ∧ r.first ≤ d / r.stride ∧ d / r.stride < r.first + r.count then some (d / r.stride) else none

/-- The register at an offset of register space, with its instance. -/
def findReg (off : Nat) : Option (Reg × Nat) := regTable.findSome? (fun r => (r.instanceAt off).map (fun i => (r, i)))

/-- The offset of the master-select and window registers that only their own master reads (R10, R162, R224, R250, R475). -/
def perMasterReg (id : Nat) : Bool :=
  id == RN.DEV_RDSEL || id == RN.BNT_MSEL || id == RN.SCB_MREC_SEL || id == RN.GRN_SCAN_SEL || id == RN.TLY_WIN_SEL

/-- The island code of a register offset (R382). -/
def islandOf (off : Nat) : Nat :=
  if off < 0xE0000 then off / 0x10000
  else if off < 0x3000000 then 0x10
  else if off < 0x4000000 then 0x30
  else if off < 0x5000000 then 0x40
  else if off < 0x6000000 then 0x50 else 0x60

/-- The instance that a commit error or an event names for an offset: a lane, a bent, a scarf group, or 0 (R393). -/
def instanceOf (off : Nat) : Nat :=
  match islandOf off with
  | 0x10 => (off - 0x1000000) / 0x10000
  | 0x30 => (off - 0x3000000) / 0x100
  | 0x40 => (off - 0x4000000) / 0x40
  | _ => 0

/-- The offset of a register within its island or instance block (R393). -/
def blockOffset (off : Nat) : Nat :=
  match islandOf off with
  | 0x10 => (off - 0x1000000) % 0x10000
  | 0x30 => (off - 0x3000000) % 0x100
  | 0x40 => (off - 0x4000000) % 0x40
  | 0x50 => off - 0x5000000
  | 0x60 => off - 0x6000000
  | _ => off % 0x10000

/-! ### Places (R381, R382) -/

/-- What an address leads to. -/
inductive Place where
  | reg (off : Nat)
  | tally (off : Nat)
  | joiner (i off : Nat)
  | mailbox (off : Nat)
  | secure (off : Nat)
  | map (off : Nat)
  | staging (off : Nat)
  | diag (off : Nat)
  | ddr (x : Nat)
  | nowhere
deriving DecidableEq, Repr

/-- An offset of register space lies in a populated extent (R85, R382): the spare-lane registers of a lane that is no spare do not. -/
def regPopulated (off : Nat) : Bool :=
  if off < 0xE0000 then true
  else if 0x1000000 ≤ off ∧ off < 0x1000000 + 280 * 0x10000 then
    let o := off % 0x10000
    decide (o < 0x1000) && !(decide (0x70 ≤ o) && decide (o < 0x78) && !isSpare ((off - 0x1000000) / 0x10000))
  else (decide (0x3000000 ≤ off) && decide (off < 0x3400000)) || (decide (0x4000000 ≤ off) && decide (off < 0x4400000))
    || (decide (0x5000000 ≤ off) && decide (off < 0x5040000)) || (decide (0x6000000 ≤ off) && decide (off < 0x6400000))

/-- Where a device address leads, before any right is judged (R15, R381). -/
def place (a : Nat) : Place :=
  if a < 0x10000000 then
    if 0x68000 ≤ a ∧ a < 0x70000 then .tally (a - 0x68000) else if regPopulated a then .reg a else .nowhere
  else if a < 0x10280000 then .joiner ((a - 0x10000000) / 0x80000) ((a - 0x10000000) % 0x80000)
  else if a < 0x10380000 then .mailbox (a - 0x10280000)
  else if a < 0x103A0000 then .secure (a - 0x10380000)
  else if 0x100000000 ≤ a ∧ a < 0x110000000 then .map (a - 0x100000000)
  else if 0x110000000 ≤ a ∧ a < 0x112000000 then .staging (a - 0x110000000)
  else if 0x200000000 ≤ a ∧ a < 0x290C00000 then .diag (a - 0x200000000)
  else if ddrBase ≤ a ∧ a < 0x3000000000 then .ddr (a - ddrBase)
  else .nowhere

/-- The core that serves master `k` (R401). -/
def State.coreOf (s : State) (k : Nat) : Nat := bits (s.fld R.MTX_JMAP_CORES) (3 * k) 3

/-- The address of a joiner's bank (R381). -/
def joinerBank (i : Nat) : Nat := 0x10000000 + i * 0x80000

/-- The master that joiner core `i` serves, if any (R401). -/
def State.servedBy (s : State) (i : Nat) : Option Nat :=
  (List.range 4).find? (fun k => bits (s.fld R.MTX_JMAP_CORES) (3 * k) 3 == i)

/-- The number of a place's target, 0xA for the default target (R381). -/
def State.target (s : State) : Place → Nat
  | .reg _ => 0
  | .tally _ => 9
  | .joiner i _ =>
    match s.servedBy i with
    | some k => 1 + k
    | none => 0xA
  | .mailbox _ => 5
  | .secure _ => 6
  | .map _ | .ddr _ => 7
  | .staging _ | .diag _ => 8
  | .nowhere => 0xA

/-! ### DDR5 regions (R429, R430) -/

/-- The usable size of DDR5 in bytes (R429). -/
def State.ddrUsable (s : State) : Nat := s.fld R.DDR_STAT_USABLE * 2 ^ 30

/-- The first device address of region `k`. -/
def State.regionBase (s : State) (k : Nat) : Nat := s.fld R.DDR_RGNk_BASE_BASE k * 2 ^ 20

/-- The size of region `k` in bytes. -/
def State.regionSize (s : State) (k : Nat) : Nat := s.fld R.DDR_RGNk_SIZE_MB k * 2 ^ 20

/-- The region that holds a device address. -/
def State.regionOf (s : State) (a : Nat) : Option Nat :=
  (List.range 9).find? (fun k => decide (s.regionBase k ≤ a) && decide (a < s.regionBase k + s.regionSize k))

/-- A host may read, or write, the DDR5 address `a` (R431). Between two regions no region's rights apply: a host may read there and not
write (DEDUCED: log entry 12). -/
def State.hostDdr (s : State) (a : Nat) (write : Bool) : Bool :=
  decide (a - ddrBase < s.ddrUsable) &&
    (match s.regionOf a with
      | some 0 => false
      | some 3 | some 4 | some 8 => true
      | _ => !write)

/-! ### Views (R374, R376) -/

/-- The management port of a master (R372). -/
def portOfMaster (m : Nat) : Option Nat := if 4 ≤ m ∧ m < 8 then some (m - 4) else none

/-- The device is in recovery (R367). -/
def State.recovery (s : State) : Bool := s.flag R.IMG_RAISE_RECOVERY

/-- What an offset of the unprivileged view leads to (R376). -/
inductive OpenPlace where
  | reg (off : Nat)
  | zero
  | msixTable (k : Nat)
  | msixPba (k : Nat)
  | nowhere
deriving DecidableEq, Repr

/-- The unprivileged view's map (R376). -/
def openPlace (x : Nat) : OpenPlace :=
  if x < 0xE0000 then (if 0x68000 ≤ x ∧ x < 0x70000 then .zero else .reg x)
  else if x < 0xE0400 then .msixTable ((x - 0xE0000) / 4)
  else if 0xE1000 ≤ x ∧ x < 0xE1008 then .msixPba ((x - 0xE1000) / 4)
  else if 0x100000 ≤ x ∧ x < 0x140000 then .reg (0x5000000 + (x - 0x100000))
  else if 0x200000 ≤ x ∧ x < 0x318000 then
    let a := 0x1000000 + (x - 0x200000) / 0x1000 * 0x10000 + (x - 0x200000) % 0x1000
    if regPopulated a then .reg a else .nowhere
  else if 0x400000 ≤ x ∧ x < 0x800000 then .reg (0x6000000 + (x - 0x400000))
  else if 0x800000 ≤ x ∧ x < 0xC00000 then .reg (0x3000000 + (x - 0x800000))
  else if 0xC00000 ≤ x ∧ x < 0x1000000 then .reg (0x4000000 + (x - 0xC00000))
  else .nowhere

/-- A device address of the privileged view, and whether it came through BAR2; or an offset of the unprivileged view (R374). In recovery, where
BAR2 decodes only the staging region and no port can set WIN.BASE, the window begins at that region (R367; DEDUCED: log entry 22). The forms
that are no whole word through the matrix have operations of their own, and lead nowhere here. -/
def State.viewAddr (s : State) (m : Nat) : View → Sum (Nat × Bool) Nat
  | .priv a => .inl (a.toNat, false)
  | .bar0 x => .inl (x.toNat, false)
  | .bar2 x =>
    .inl ((if s.recovery then s.fld R.IMG_STAGE_BASE_BASE else s.fld R.MGT_PORTp_WIN_BASE ((portOfMaster m).getD 0) * 2 ^ 32) + x.toNat, true)
  | .unpriv x => .inr x.toNat
  | .lanes _ _ | .burst _ _ | .burstWrite _ _ | .own _ _ => .inr 0x1000000

/-! ### How an access is judged (R375, R383 to R385, R406, R431, R483) -/

/-- What becomes of an access: it takes effect, it completes at the default target, it is dropped under R385, or it is answered before
the ports are served (R341, R378). -/
inductive Verdict where
  | ok | default | dropped | early
deriving DecidableEq, Repr

/-- The ports are served: raising has reached P7 (R341). -/
def State.served (s : State) : Bool := s.phase == 7

/-- A port's class (R375); in recovery every port acts as PRIV. -/
def State.portClass (s : State) (p : Nat) : Nat := if s.recovery then 2 else s.fld R.MGT_PORTp_CFG_CLASS p

/-- A port is PRIV. -/
def State.privPort (s : State) (p : Nat) : Bool := s.portClass p == 2

/-- Port `p` is the owner (R384). -/
def State.ownsNow (s : State) (p : Nat) : Bool := s.fld R.MGT_OWNER_PORT == p

/-- The targets that a master reaches, for a read or a write (R383, R431). -/
def State.reaches (s : State) (m : Nat) (write : Bool) (a : Nat) (pl : Place) : Bool :=
  if m < 4 || m == 8 then
    (match pl with
      | .nowhere => false
      | .joiner i _ => (s.servedBy i).isSome
      | .ddr x => decide (x < s.ddrUsable)
      | .map _ => !write
      | .diag off => !write && s.flag R.FAB_CFG_DIAG_EN && decide (off % 4 = 0)
      | _ => true)
  else if m < 8 then
    (match pl with
      | .reg _ | .mailbox _ | .staging _ => true
      | .tally _ => !write
      | .joiner i _ => !write && (s.servedBy i).isSome
      | .secure _ | .nowhere => false
      | .map _ => !write
      | .diag off => !write && s.flag R.FAB_CFG_DIAG_EN && decide (off % 4 = 0)
      | .ddr _ => s.hostDdr a write)
  else if m = 9 then
    (match pl with
      | .joiner i _ => (s.servedBy i).isSome
      | .mailbox _ | .secure _ | .staging _ => true
      | .diag off => !write && s.flag R.FAB_CFG_DIAG_EN && decide (off % 4 = 0)
      | _ => false)
  else if m = 10 then
    (match pl with
      | .reg _ => true
      | .ddr x => decide (x < s.ddrUsable)
      | .map _ => !write
      | _ => false)
  else
    (match pl with
      | .ddr x => decide (x < s.ddrUsable)
      | .map _ => !write
      | .staging _ => true
      | .diag off => !write && s.flag R.FAB_CFG_DIAG_EN && decide (off % 4 = 0)
      | _ => false)

/-- The target answers: the window of the logical map not while the map is rebuilt, and the diagnostic window only where it is
populated (R190, R191, R484); the secure bank not during a wipe, which takes about 10 µs of the frame in which it starts (R417; DESIGN CHOICE: log
entry 24). -/
def State.answers (s : State) : Place → Bool
  | .map _ => !s.flag R.TLY_REKEY_MAP
  | .secure _ => !(s.guarding.wiping && Config.wipeLasts s.free)
  | .diag off =>
    let c := off % 0x200000 / 4
    if off < 0x40000000 then decide (off / 0x200000 < 280) && decide (c < 278528)
    else if off < 0x80000000 then decide ((off - 0x40000000) / 0x200000 < 256) && decide (c < 278528)
    else if off < 0x90000000 then decide ((off - 0x80000000) / 0x80000 < 256)
    else decide ((off - 0x90000000) / 0x80000 < 24)
  | _ => true

/-- Recovery decodes only the DEV and IMG islands in the BAR0 and SPI views, and only the staging region in BAR2; the tunnel is down
(R367). -/
def State.recoveryDecodes (s : State) (p a : Nat) (bar2 : Bool) : Bool :=
  p != 3 && (if bar2 then s.regionOf a == some 3 && decide (ddrBase ≤ a) else decide (a < 0x20000))

/-- A privileged write of port `p` to register `id`, instance `i`, is accepted under the rules of ownership (R384). -/
def State.mayWriteReg (s : State) (p id i : Nat) : Bool :=
  if id = RN.MGT_PORTp_WIN || id = RN.MGT_PORTp_RING_TAIL || id = RN.MGT_PORTp_EOI then s.privPort p && p == i
  else if id = RN.MGT_OWN_TOKEN || id = RN.MGT_OWN_OP || id = RN.DEV_RDSEL then s.privPort p
  else s.privPort p && s.ownsNow p

/-- A privileged write of port `p` to `a` is accepted under the rules of ownership (R384). -/
def State.mayWrite (s : State) (p : Nat) (pl : Place) : Bool :=
  s.recovery ||
    (match pl with
      | .reg off =>
        (match findReg off with
          | some (r, i) => s.mayWriteReg p r.id i
          | none => s.privPort p && s.ownsNow p)
      | _ => s.privPort p && s.ownsNow p)

/-- The verdict on a privileged access at device address `a` (R375, R383, R384, R385, R406, R431, R483). An access is decoded before it is
judged against ownership. -/
def State.judge (s : State) (m a : Nat) (bar2 write : Bool) : Verdict :=
  let pl := place a
  match portOfMaster m with
  | none => if s.reaches m write a pl && s.answers pl then .ok else .default
  | some p =>
    if !s.served && !s.recovery then .early
    else if s.flag R.TLY_STAT_LOCKED then .default
    else if s.recovery then
      if s.recoveryDecodes p a bar2 && s.reaches m write a pl then .ok else .default
    else if s.portClass p = 0 || s.portClass p = 3 then .default
    else if !(s.reaches m write a pl && s.answers pl) then .default
    else if write && !s.mayWrite p pl then .dropped
    else .ok

end Sys2Proof.Machine
end

