-- ==== Sys2Proof/Machine/Copy.lean ====
section
/-! DEFINITION. The state copy as the active forms it: the journalled fields, the 65 slices, and what an apply changes of them (R306, R313,
R314).
Readings and choices: DEDUCED (log entry 51). -/

namespace Sys2Proof.Machine

/-- The registers whose ST fields are journalled (R306). -/
def journalledRegs : List Nat :=
  [RN.BNT_CFG, RN.BNT_GLB_LPCAP, RN.SCF_CFG, RN.SCF_GCFG, RN.MAT_CFG, RN.LN_FRM_CFG]

/-- A field of instance `i` is journalled (R306): an ST field of BNT_CFG, BNT_GLB_LPCAP, SCF_CFG, SCF_GCFG or MAT_CFG, or SYNC of a
traffic lane. -/
def journalled (f : Fld) (i : Nat) : Bool :=
  f.ty == .st &&
    (f == R.BNT_CFG_POLICY || f == R.BNT_CFG_GUARD || f == R.BNT_GLB_LPCAP_CAP || f == R.SCF_CFG_DEG_SET || f == R.SCF_CFG_DEG_CLR
      || f == R.SCF_GCFG_MODE || f == R.SCF_GCFG_HOME || f == R.SCF_GCFG_REVERT || f == R.SCF_GCFG_WTR || f == R.MAT_CFG_REVERT
      || f == R.MAT_CFG_WTR || f == R.MAT_CFG_GRN_PORTS || f == R.MAT_CFG_VOTE_MIN || f == R.MAT_CFG_LANE_REQ
      || (f == R.LN_FRM_CFG_SYNC && decide (i < 256)))

/-- A member's state code (R162). -/
def MemberState.code : MemberState → Nat
  | .pending => 1
  | .unlocked => 2
  | .active => 3
  | .suspect => 4
  | .held => 5
  | .blocked => 6

/-! ### Slices (R313) -/

/-- The slice to which an entry belongs. -/
def copySlice : CopyEntry → Nat
  | .ingress _ c _ => c.val / 4352
  | .pwrite o _ _ | .pread o _ _ | .scarf o _ _ => o.val / 4
  | .single o _ | .merged o _ _ _ _ => o.val / 131072 / 4
  | .tap _ _ | .bent _ _ | .member _ _ _ _ _ _ _ | .next _ _ | .field _ _ => 64

/-- The entry that unlists what an entry lists; those of the bents, the fields and the next numbers have none of their own. -/
def copyGone : CopyEntry → Option CopyEntry
  | .ingress p c _ => some (.ingress p c none)
  | .pwrite o c _ => some (.pwrite o c none)
  | .pread o x _ => some (.pread o x 0x3FFFF)
  | .scarf o i _ => some (.scarf o i none)
  | .single o _ | .merged o _ _ _ _ => some (.single o none)
  | .tap q _ => some (.tap q none)
  | .bent _ _ | .member _ _ _ _ _ _ _ | .next _ _ | .field _ _ => none

/-- The bent of an entry. -/
def copyBent : CopyEntry → Option Nat
  | .bent b _ | .member b _ _ _ _ _ _ => some b.val
  | _ => none

/-- The entries of slice `j` below 64: those of output ports 4j to 4j + 3, and the ingress entries of every input port for centre slots 4,352j
to 4,352j + 4,351. -/
def State.portEntries (s : State) (j : Nat) : List CopyEntry :=
  let sc := s.sched
  let mine := fun (o : Nat) => o / 4 == j
  (sc.ingress.entries.flatMap (fun p => (p.2.entries.filter (fun e => e.1 / 4352 == j)).map (fun e =>
      CopyEntry.ingress (Fin.ofNat _ p.1) (Fin.ofNat _ e.1) (some (Fin.ofNat _ e.2.slot, e.2.prev, Fin.ofNat _ e.2.out)))))
    ++ ((sc.pwrite.entries.filter (fun p => mine p.1)).flatMap (fun p => p.2.entries.map (fun e =>
      CopyEntry.pwrite (Fin.ofNat _ p.1) (Fin.ofNat _ e.1) (some (Fin.ofNat _ e.2)))))
    ++ ((sc.pread.entries.filter (fun p => mine p.1)).flatMap (fun p => p.2.entries.map (fun e =>
      CopyEntry.pread (Fin.ofNat _ p.1) (Fin.ofNat _ e.1) (BitVec.ofNat _ e.2))))
    ++ ((sc.scarf.entries.filter (fun p => mine p.1)).flatMap (fun p => p.2.entries.map (fun e =>
      CopyEntry.scarf (Fin.ofNat _ p.1) (Fin.ofNat _ e.1) (some (Fin.ofNat _ e.2.1, Fin.ofNat _ e.2.2)))))
    ++ ((sc.map.entries.filter (fun e => mine (e.1 / 131072))).map (fun e =>
      match e.2 with
      | .single src => CopyEntry.single (Fin.ofNat _ e.1) (some (Fin.ofNat _ src))
      | .merged w p g i => CopyEntry.merged (Fin.ofNat _ e.1) (Fin.ofNat _ w) (Fin.ofNat _ p) (Fin.ofNat _ g) (Fin.ofNat _ i)))

/-- The tap table's entries. -/
def State.tapEntries (s : State) : List CopyEntry :=
  s.tap.entries.flatMap (fun p => (p.2.entries.filter (fun e => !e.2.released)).map (fun e =>
    CopyEntry.tap (Fin.ofNat _ (p.1 * 131072 + e.1)) (some (Fin.ofNat _ e.2.src, e.2.store))))

/-- The bent tables' entries: R_b, and of each member a_m, the delay, the tap position, K_m and the state. -/
def State.bentEntries (s : State) : List CopyEntry :=
  s.sched.bents.entries.flatMap (fun b =>
    CopyEntry.bent (Fin.ofNat _ b.1) (some (Fin.ofNat _ b.2.ref)) :: b.2.members.map (fun m =>
      let l := s.links.get m.src { bent := b.1 }
      CopyEntry.member (Fin.ofNat _ b.1) (Fin.ofNat _ m.src) (Fin.ofNat _ m.arr) (Fin.ofNat _ m.d)
        (m.pos.map (fun q => Fin.ofNat _ q)) (l.k.map (fun k => Fin.ofNat _ k)) (Fin.ofNat _ l.state.code)))

/-- The journalled fields, as offset and value pairs of their registers. -/
def State.fieldEntries (s : State) : List CopyEntry :=
  (regTable.filter (fun r => journalledRegs.contains r.id)).flatMap (fun r =>
    (((List.range r.count).map (· + r.first)).filter (fun i => r.slices.any (fun c => journalled c.fld i))).map (fun i =>
      CopyEntry.field (BitVec.ofNat _ (r.addr i)) (BitVec.ofNat _ (r.slices.foldl (fun a c =>
        if journalled c.fld i then a + bits (s.fld c.fld i) c.src c.len * 2 ^ c.lo else a) 0))))

/-- The next JSEQ and the commit sequence number. -/
def State.nextEntry (s : State) : CopyEntry :=
  .next (BitVec.ofNat _ (s.mate.jSeq + 1)) (BitVec.ofNat _ (s.fld R.DEV_COMMIT_SEQ_CSEQ))

/-- What of slice `j` an apply can change. -/
def State.appliedEntries (s : State) (j : Nat) : List CopyEntry :=
  if j = 64 then s.tapEntries ++ s.bentEntries else s.portEntries j

/-- Slice `j`, as the active reads it (R313). -/
def State.sliceEntries (s : State) (j : Nat) : List CopyEntry :=
  s.appliedEntries j ++ (if j = 64 then s.fieldEntries ++ [s.nextEntry] else [])

/-! ### Deltas (R314) -/

/-- The changed entries of slice `j` between two states: what is no longer listed, then what is listed anew or otherwise. A bent that changed is
listed anew as a whole. -/
def State.deltaOf (s old : State) (j : Nat) : List CopyEntry :=
  let a := old.appliedEntries j
  let b := s.appliedEntries j
  let flat := b.filter (fun e => (copyBent e).isNone)
  let gone := ((a.filter (fun e => (copyBent e).isNone)).filter (fun e => !flat.any (fun x => copyGone x == copyGone e))).filterMap copyGone
  let touched := ((a ++ b).filter (fun e => (copyBent e).isSome && !(a.contains e && b.contains e))).filterMap copyBent
  let bents := b.filter (fun e => match copyBent e with
    | some k => touched.contains k
    | none => false)
  gone ++ (flat.filter (fun e => !a.contains e)) ++ (touched.map (fun k => CopyEntry.bent (Fin.ofNat _ k) none)) ++ bents
    ++ (if j = 64 then [s.nextEntry] else [])

/-- An apply on an active device, from the state `old`: the slices that it changes are to go in the next epoch, and in the present one if they have
not gone in it; of one already sent in the present epoch the changed entries go as a delta tagged with the apply frame (R314). -/
def State.noteApply (s old : State) : State :=
  if !s.isActive then s
  else
    let changed := (List.range 65).filter (fun j => old.appliedEntries j != s.appliedEntries j)
    let resent := s.mate.slices.filter (fun j => changed.contains j || j = 64)
    let m0 := if s.copying then s.mate.send s.frame (resent.flatMap (s.deltaOf old)) else s.mate
    let m := if s.copying then { m0 with due := m0.due ++ changed.filter (fun j => !m0.due.contains j) } else m0
    { s with mate := { m with dirty := s.mate.dirty ++ changed.filter (fun j => !s.mate.dirty.contains j) } }

/-- A commit of journalled fields on an active device, whose slice has already gone in the present epoch: its registers, as offset and value pairs,
go as a delta, with the next JSEQ after the COMMIT record (R313, R314; DEDUCED: log entry 51). -/
def State.noteCommit (s : State) (pairs : List (Nat × Nat)) : State :=
  if s.copying && s.mate.slices.contains 64 && !pairs.isEmpty then
    s.updMate (fun m => m.send s.frame (pairs.map (fun p => CopyEntry.field (BitVec.ofNat _ p.1) (BitVec.ofNat _ p.2)) ++ [s.nextEntry]))
  else s

end Sys2Proof.Machine
end

