-- ==== Sys2Proof/Machine/Placing.lean ====
section
/-! DEFINITION. The scribe's placement rule: how a change of the logical map and of the bents turns one schedule into another
(R187 to R202), the records of a change (R195 to R198), its chunks (R219) and the steps of a full re-placement (R221).
Readings and choices: DEDUCED (log entry 47). -/

namespace Sys2Proof.Machine

/-! ### What a schedule says of a source -/

/-- The traffic port of a slot address (R5, R164). -/
def portOfAddr (a : Nat) : Nat := a / 131072

/-- The slot of a slot address. -/
def slotOfAddr (a : Nat) : Nat := a % 131072

/-- The sources of what a slot carries, working before protection. -/
def Route.sources : Route → List Nat
  | .single s => [s]
  | .merged w p _ _ => [w, p]

/-- Whether a slot is merged. -/
def Route.isMerged : Route → Bool
  | .single _ => false
  | .merged _ _ _ _ => true

/-- The bent of which a source is a member, and its membership. -/
def Schedule.memberOf (sc : Schedule) (src : Nat) : Option (Nat × Membership) :=
  sc.bents.entries.findSome? (fun e => (e.2.members.find? (·.src == src)).map (fun m => (e.1, m)))

/-- The deskew of a source: 0 when it is no member (R35). -/
def Schedule.deskew (sc : Schedule) (src : Nat) : Nat :=
  match sc.memberOf src with
  | some (_, m) => m.d
  | none => 0

/-- The input port of a source, and its slot or position there: a long member's return port, else its traffic port (R134, R170). -/
def Schedule.inputOf (sc : Schedule) (src : Nat) : Nat × Nat :=
  match sc.memberOf src with
  | some (_, ⟨_, _, d, some q⟩) => if 2 ≤ d then (256 + q / 131072, q % 131072) else (portOfAddr src, slotOfAddr src)
  | _ => (portOfAddr src, slotOfAddr src)

/-- The source that an entry of an input port names. -/
def Schedule.sourceAt (sc : Schedule) (p slot : Nat) : Option Nat :=
  if p < 256 then some (131072 * p + slot)
  else sc.bents.entries.findSome? (fun e =>
    (e.2.members.find? (fun m => decide (2 ≤ m.d) && m.pos == some (131072 * (p - 256) + slot))).map (·.src))

/-- The centre slot of the leg of an input port's slot towards an output port. -/
def Schedule.legCentre (sc : Schedule) (p x o : Nat) : Option Nat :=
  ((sc.ingress.get p {}).entries.find? (fun e => e.2.slot == x && e.2.out == o)).map (·.1)

/-- The plate address of the leg of a source towards an output port (R183). -/
def Schedule.legAddr (sc : Schedule) (src o : Nat) : Option Nat :=
  let (p, x) := sc.inputOf src
  (sc.legCentre p x o).bind (fun c => (sc.pwrite.get o {}).find c)

/-- The output slots of a port that are not NONE, with what they carry. -/
def Schedule.slotsOf (sc : Schedule) (o : Nat) : List (Nat × Route) :=
  sc.map.entries.filter (fun e => portOfAddr e.1 == o)

/-- The centre cost of an input port (R187). -/
def Schedule.inCost (sc : Schedule) (p : Nat) : Nat := (sc.ingress.get p {}).entries.length

/-- The words in use, and the busy count, of an output port (R185, R187). -/
def Schedule.outWords (sc : Schedule) (o : Nat) : Nat := (sc.pwrite.get o {}).entries.length

/-! ### The lowest free resource (R200) -/

/-- The lowest number below `limit` that is not in the list. -/
def lowestFree (limit : Nat) (used : List Nat) : Option Nat :=
  (List.range (min limit (used.length + 1))).find? (fun c => !used.contains c)

/-- The new leg of a source towards an output port: the lowest centre slot free at both ports and the lowest free plate address
(R200, R201); `none` where there is none. -/
def Schedule.addLeg (sc : Schedule) (src o : Nat) : Option Schedule :=
  let (p, x) := sc.inputOf src
  let ip := sc.ingress.get p {}
  let po := sc.pwrite.get o {}
  match lowestFree 278528 (ip.keys ++ po.keys), lowestFree 147456 po.vals with
  | some c, some a => some { sc with
      ingress := sc.ingress.put p (ip.put c { slot := x, prev := sc.deskew src == 1, out := o })
      pwrite := sc.pwrite.put o (po.put c a) }
  | _, _ => none

/-- The leg of a source towards an output port is there, or is placed. -/
def Schedule.ensureLeg (sc : Schedule) (src o : Nat) : Option Schedule :=
  if (sc.legAddr src o).isSome then some sc else sc.addLeg src o

/-- A plate read code is set; the idle code is the one not listed (R184). -/
def Schedule.setRead (sc : Schedule) (s code : Nat) : Schedule :=
  let o := portOfAddr s
  { sc with pread := sc.pread.put o ((sc.pread.get o {}).store (slotOfAddr s) 0x3FFFF code) }

/-- One affected slot is placed (R201, step 4). -/
def Schedule.placeSlot (sc : Schedule) (s : Nat) : Option Schedule :=
  let o := portOfAddr s
  match sc.map.find s with
  | none => some (sc.setRead s 0x3FFFF)
  | some (.single src) =>
    (sc.ensureLeg src o).map (fun t => t.setRead s ((t.legAddr src o).getD 0x3FFFF))
  | some (.merged w p g _) =>
    ((sc.ensureLeg w o).bind (fun t => t.ensureLeg p o)).bind (fun t =>
      let so := t.scarf.get o {}
      (lowestFree 16384 so.keys).map (fun m =>
        { t.setRead s (0x24000 + m) with
          scarf := t.scarf.put o (so.put m ((t.legAddr w o).getD 0, (t.legAddr p o).getD 0))
          map := t.map.put s (.merged w p g m) }))

/-- The affected slots are placed in ascending order; the slot that finds no leg is the answer of a failure (R201). -/
def Schedule.placeAll (sc : Schedule) (slots : List Nat) : Except Nat Schedule :=
  match slots with
  | [] => .ok sc
  | s :: rest =>
    match sc.placeSlot s with
    | some t => t.placeAll rest
    | none => .error s

/-! ### Release and placement (R201, steps 2 to 4) -/

/-- A number enters a strictly rising list. -/
def insertSorted (x : Nat) (l : List Nat) : List Nat :=
  match l with
  | [] => [x]
  | y :: t => if x < y then x :: y :: t else if x = y then y :: t else y :: insertSorted x t

/-- The numbers of a list, rising, without repeats. -/
def sortNats (l : List Nat) : List Nat := l.foldl (fun acc x => insertSorted x acc) []

/-- A source's input port or deskew is not the same in two schedules (R201, R235). -/
def Schedule.moves (old new : Schedule) (src : Nat) : Bool :=
  (old.inputOf src).1 != (new.inputOf src).1 || old.deskew src != new.deskew src

/-- The output slots whose source's input port or deskew is not the same in two schedules (R201, step 2). -/
def Schedule.movedSlots (old new : Schedule) : List Nat :=
  (new.map.entries.filter (fun e => e.2.sources.any (old.moves new))).map (·.1)

/-- One leg of the old schedule: released where no slot of its port will use it or its source's input port changes; else it keeps
its centre slot, with the position and PREV of the new schedule (R201, step 3). -/
def Schedule.carryLeg (old : Schedule) (sc : Schedule) (p c : Nat) (e : Ingress) : Schedule :=
  let drop : Schedule := { sc with
    ingress := sc.ingress.put p ((sc.ingress.get p {}).del c)
    pwrite := sc.pwrite.put e.out ((sc.pwrite.get e.out {}).del c) }
  match old.sourceAt p e.slot with
  | none => drop
  | some src =>
    let (p', x') := sc.inputOf src
    if p' = p && (sc.slotsOf e.out).any (fun r => r.2.sources.contains src) then
      { sc with ingress := sc.ingress.put p ((sc.ingress.get p {}).put c { slot := x', prev := sc.deskew src == 1, out := e.out }) }
    else drop

/-- From a schedule, and the logical map and bents that a change leaves, the schedule that the change leaves: `slots` are the slots
that its records name (R201). -/
def Schedule.rebuild (old : Schedule) (map : Tab Route) (bents : Tab BentCfg) (slots : List Nat) : Except Nat Schedule :=
  let s0 : Schedule := { old with map := map, bents := bents }
  let affected := sortNats (slots ++ old.movedSlots s0)
  let s1 := old.ingress.entries.foldl (fun sc pe => pe.2.entries.foldl (fun t ce => old.carryLeg t pe.1 ce.1 ce.2) sc) s0
  let s2 := affected.foldl (fun sc s =>
    match old.map.find s with
    | some (.merged _ _ _ m) =>
      { sc with scarf := sc.scarf.put (portOfAddr s) ((sc.scarf.get (portOfAddr s) {}).del m) }
    | _ => sc) s1
  s2.placeAll affected

/-! ### Return positions (R134 to R137, R200) -/

/-- The positions in use on return port `r`. -/
def tapCount (tap : Tab (Tab TapEnt)) (r : Nat) : Nat := (tap.get r {}).entries.length

/-- The tap entries that count as in use when a change or an action is worked out: those that a change in effect has released are
available, since every apply frame still to be taken is T + 2 or later (R205, R207). -/
def liveTap (tap : Tab (Tab TapEnt)) : Tab (Tab TapEnt) := tap.mapVals (fun _ t => t.keep (fun _ e => !e.released))

/-- The return position a new long member takes: on the return port with the fewest in use, the lowest number on a tie, the lowest
free position (R200); `none` when every port is full (R135). -/
def takeReturn (tap : Tab (Tab TapEnt)) : Option Nat :=
  let live := liveTap tap
  let r := (List.range 24).foldl (fun b k => if tapCount live k < tapCount live b then k else b) 0
  (lowestFree 131072 (live.get r {}).keys).map (fun q => 131072 * r + q)

/-- A tap entry by its position 131,072 r + q. -/
def tapAt (tap : Tab (Tab TapEnt)) (pos : Nat) : Option TapEnt := (tap.get (pos / 131072) {}).find (pos % 131072)

/-- A tap entry is written. -/
def tapPut (tap : Tab (Tab TapEnt)) (pos : Nat) (e : TapEnt) : Tab (Tab TapEnt) :=
  tap.put (pos / 131072) ((tap.get (pos / 131072) {}).put (pos % 131072) e)

/-- A tap entry is cleared. -/
def tapDel (tap : Tab (Tab TapEnt)) (pos : Nat) : Tab (Tab TapEnt) :=
  tap.put (pos / 131072) ((tap.get (pos / 131072) {}).del (pos % 131072))

/-- The long-path storage in use, in units of 1,024 member-frames, rounded up (R136). -/
def lpUnits (tap : Tab (Tab TapEnt)) : Nat :=
  let n := tap.entries.foldl (fun a r => r.2.entries.foldl (fun b e => b + e.2.store) a) 0
  (n + 1023) / 1024

/-- A position that the tap table lists for a source and that `reuse` allows. -/
def listedFor (tap : Tab (Tab TapEnt)) (reuse : Nat → Bool) (src : Nat) : Option Nat :=
  tap.entries.findSome? (fun r =>
    (r.2.entries.find? (fun e => e.2.src == src && e.2.clearAt.isNone && reuse (131072 * r.1 + e.1))).map (fun e => 131072 * r.1 + e.1))

/-- The position `q` holds member `m`, with the storage of its deskew, or more where it holds more until a change (R136, R137). -/
def holdAt (tap : Tab (Tab TapEnt)) (q : Nat) (m : Membership) : Tab (Tab TapEnt) :=
  match tapAt tap q with
  | some e =>
    if e.released then tapPut tap q { src := m.src, store := m.d + 1 }
    else tapPut tap q { src := m.src, store := max (m.d + 1) e.store, since := e.since, backAt := e.backAt }
  | none => tapPut tap q { src := m.src, store := m.d + 1 }

/-- The long members of a bent hold return positions, each with the storage of its deskew: those that have none take the one listed for
them that `reuse` allows, or a free one (R200). `none` where the limit of R135 or R136 is exceeded. -/
def holdPositions (cap : Nat) (reuse : Nat → Bool) (tap : Tab (Tab TapEnt)) (ms : List Membership) :
    Option (Tab (Tab TapEnt) × List Membership) :=
  let step := fun (acc : Option (Tab (Tab TapEnt) × List Membership)) (m : Membership) =>
    acc.bind (fun (tp, done) =>
      if m.d < 2 then some (tp, done ++ [{ m with pos := none }])
      else
        (m.pos.orElse (fun _ => (listedFor tp reuse m.src).orElse (fun _ => takeReturn tp))).map (fun q =>
          (holdAt tp q m, done ++ [{ m with pos := some q }])))
  (ms.foldl step (some (tap, []))).bind (fun r => if lpUnits (liveTap r.1) ≤ cap then some r else none)

/-! ### Edit records (R195, R196) -/

/-- The record of four words (R195). `bad` says that a reserved field, or one that the OP does not use, is not 0. -/
def decodeRec (w0 w1 w2 w3 : Nat) : EditRec :=
  let op := bits w0 28 4
  let out := bits w0 0 25
  let src := bits w1 0 25
  let psrc := bits w2 0 25
  let group := bits w3 0 16
  let arr := bits w3 16 12
  let reserved := bits w0 25 3 ≠ 0 || bits w1 25 7 ≠ 0 || bits w2 25 7 ≠ 0 || bits w3 28 4 ≠ 0
  let unused :=
    match op with
    | 0 => out ≠ 0 || src ≠ 0 || psrc ≠ 0 || group ≠ 0 || arr ≠ 0
    | 1 => psrc ≠ 0 || group ≠ 0 || arr ≠ 0
    | 2 => arr ≠ 0
    | 3 => src ≠ 0 || psrc ≠ 0 || group ≠ 0 || arr ≠ 0
    | 4 => out ≠ 0 || psrc ≠ 0
    | 5 => out ≠ 0 || psrc ≠ 0 || arr ≠ 0
    | _ => false
  { op := op, out := out, src := src, psrc := psrc, group := group, arr := arr, bad := reserved || unused }

/-- A record with OP CONNECT, MERGE or DISCONNECT. -/
def EditRec.isSlot (r : EditRec) : Bool := r.op == 1 || r.op == 2 || r.op == 3
/-- A record with OP BENT_ADD. -/
def EditRec.isAdd (r : EditRec) : Bool := r.op == 4
/-- A record with OP BENT_REMOVE. -/
def EditRec.isRemove (r : EditRec) : Bool := r.op == 5

/-- The failure codes of R198. -/
def failNone : Nat := 0
def failFormat : Nat := 1
def failRange : Nat := 2
def failDuplicate : Nat := 3
def failLeg : Nat := 4
def failBent : Nat := 5
def failLongPath : Nat := 6
def failScarf : Nat := 7
def failGroupSize : Nat := 8
def failLate : Nat := 9
def failLen : Nat := 0xA
def failAborted : Nat := 0xB

/-- A refusal: its code, the index of its record and, for LEG_BLOCKED, the output slot (R198). -/
structure Failure where
  code : Nat
  index : Nat
  slot : Option Nat := none
deriving DecidableEq, Repr

/-- What a compile takes from the registers (R199): the active guard of each bent, which lanes are synchronous, and the long-path
reservation. -/
structure CompileEnv where
  guard : Nat → Nat
  sync : Nat → Bool
  cap : Nat

/-! ### Bent edits (R201, step 1) -/

/-- The bent edits of a change so far: the bents and tap entries they leave, the bents whose reference this change sets, the failures,
and the limits already broken. -/
structure EditState where
  bents : Tab BentCfg
  tap : Tab (Tab TapEnt)
  fresh : List Nat := []
  fails : List (Nat × Nat) := []
  broke : List Nat := []

/-- The edit of record `i` breaks limit `k`, where `b` says so: only the edit at which a limit is first broken is a breaking record
(R198). -/
def EditState.breakLimit (e : EditState) (k i code : Nat) (b : Bool) : EditState :=
  if b && !e.broke.contains k then { e with broke := k :: e.broke, fails := e.fails ++ [(i, code)] } else e

/-- The members of all bents. -/
def memberTotal (b : Tab BentCfg) : Nat := b.entries.foldl (fun n e => n + e.2.members.length) 0

/-- A member leaves its bent; the last one to leave makes the reference void (R132, R140). `again` says that the same change adds it to
the same bent: that is no leave, and the reference stays (R128, R140). -/
def EditState.remove (again : Bool) (e : EditState) (r : EditRec) : EditState :=
  match e.bents.find r.group with
  | none => e
  | some b =>
    let ms := b.members.filter (·.src != r.src)
    if ms.isEmpty && !again then { e with bents := e.bents.del r.group, fresh := r.group :: e.fresh }
    else { e with bents := e.bents.put r.group { b with members := ms } }

/-- A member joins its bent (R130 to R133, R139). The first members of an empty bent set its reference; a source that the same change
removes from the same bent keeps its return position (R140). -/
def EditState.add (env : CompileEnv) (old : Schedule) (e : EditState) (i : Nat) (r : EditRec) : EditState :=
  let cur := e.bents.find r.group
  let fresh := cur.isNone || e.fresh.contains r.group
  let ref0 := (cur.map (·.ref)).getD 0
  let ms0 := (cur.map (·.members)).getD []
  if !fresh && ref0 < r.arr then { e with fails := e.fails ++ [(i, failBent)] }
  else
    let ref := if fresh then max ref0 (r.arr + env.guard r.group) else ref0
    let pos := match old.memberOf r.src with
      | some (g, m) => if g = r.group then m.pos else none
      | none => none
    let new : Membership := { src := r.src, arr := r.arr, d := 0, pos := pos }
    let ms := (ms0 ++ [new]).map (fun m : Membership =>
      if fresh || m.src == r.src then { m with d := ref - m.arr } else m)
    let e1 := ((e.breakLimit 0 i failBent (decide (4096 < ms.length))).breakLimit 1 i failBent
      (decide (4194304 < memberTotal e.bents + 1))).breakLimit 2 i failBent
        (ms.any (fun m => (fresh || m.src == r.src) && decide (2048 < m.d)))
    let fr := if fresh && !e.fresh.contains r.group then r.group :: e1.fresh else e1.fresh
    let fixed := if fresh then [] else ms.filter (·.src != r.src)
    let moved := if fresh then ms else ms.filter (·.src == r.src)
    match holdPositions env.cap (fun _ => false) e1.tap moved with
    | some (tap, held) => { e1 with tap := tap, fresh := fr, bents := e1.bents.put r.group { ref := ref, members := fixed ++ held } }
    | none => { e1.breakLimit 3 i failLongPath true with
                  fresh := fr
                  bents := e1.bents.put r.group { ref := ref, members := ms.map (fun m => { m with pos := none }) } }

/-- The place of a bent edit in the order of step 1: ascending SRC, a removal before an addition. -/
def EditRec.editKey (r : EditRec) : Nat := 2 * r.src + (if r.isAdd then 1 else 0)

/-- An indexed record enters a list in the order of step 1. -/
def insertEdit (x : Nat × EditRec) (l : List (Nat × EditRec)) : List (Nat × EditRec) :=
  match l with
  | [] => [x]
  | y :: t => if x.2.editKey < y.2.editKey then x :: y :: t else y :: insertEdit x t

/-- The bent edits among indexed records, in the order of step 1. -/
def bentEdits (recs : List (Nat × EditRec)) : List (Nat × EditRec) :=
  (recs.filter (fun r => !r.2.bad && (r.2.isAdd || r.2.isRemove) && decide (r.2.group < 16384))).foldl
    (fun acc r => insertEdit r acc) []

/-- The index order of a bent's members (R128, R140): those it had, then those added, in the order of their records. -/
def orderMembers (old : List Membership) (recs : List (Nat × EditRec)) (g : Nat) (new : List Membership) : List Membership :=
  let had := old.filterMap (fun m => new.find? (·.src == m.src))
  let added := (recs.filter (fun r => r.2.isAdd && r.2.group == g && !old.any (·.src == r.2.src))).filterMap (fun r =>
    new.find? (·.src == r.2.src))
  had ++ added

/-- The conditions on the record of a bent edit itself (R127, R129, R198). -/
def bentRecordFails (env : CompileEnv) (old : Schedule) (recs : List (Nat × EditRec)) (r : EditRec) : Bool :=
  if r.isAdd then
    !env.sync (portOfAddr r.src) ||
      (match old.memberOf r.src with
        | some (g, _) => !recs.any (fun x => x.2.isRemove && x.2.src == r.src && x.2.group == g)
        | none => false)
  else if r.isRemove then (old.memberOf r.src).map (·.1) != some r.group
  else false

/-- Step 1 of R201 over indexed records. -/
def editBents (env : CompileEnv) (old : Schedule) (tap : Tab (Tab TapEnt)) (recs : List (Nat × EditRec)) : EditState :=
  let e0 : EditState := { bents := old.bents, tap := tap
                          fails := (recs.filter (fun r => bentRecordFails env old recs r.2)).map (fun r => (r.1, failBent)) }
  let again := fun (r : EditRec) => recs.any (fun x => x.2.isAdd && x.2.src == r.src && x.2.group == r.group)
  let e1 := (bentEdits recs).foldl (fun e r => if r.2.isRemove then e.remove (again r.2) r.2 else e.add env old r.1 r.2) e0
  { e1 with bents := e1.bents.mapVals (fun g b =>
      { b with members := orderMembers (((old.bents.find g).map (·.members)).getD []) recs g b.members }) }

/-! ### A change (R197, R198, R219) -/

/-- The logical map after the slot records; the scarf table entries of new MERGED slots are set by placement. -/
def editMap (map : Tab Route) (recs : List (Nat × EditRec)) : Tab Route :=
  recs.foldl (fun m r =>
    if r.2.op = 1 then m.put r.2.out (.single r.2.src)
    else if r.2.op = 2 then m.put r.2.out (.merged r.2.src r.2.psrc r.2.group 0)
    else if r.2.op = 3 then m.del r.2.out
    else m) map

/-- How many merged slots a map has on an output port. -/
def mergedOn (map : Tab Route) (o : Nat) : Nat := map.entries.countP (fun e => portOfAddr e.1 == o && e.2.isMerged)

/-- How many merged slots a map has. -/
def mergedTotal (map : Tab Route) : Nat := map.entries.countP (fun e => e.2.isMerged)

/-- A slot that a record makes MERGED was not MERGED before. -/
def newlyMerged (old : Tab Route) (r : EditRec) : Bool := r.op == 2 && !((old.find r.out).map Route.isMerged).getD false

/-- The failures of indexed records under FORMAT, RANGE, DUPLICATE and SCARF (R198). -/
def recordFails (old : Schedule) (recs : List (Nat × EditRec)) : List (Nat × Nat) :=
  let map := editMap old.map recs
  recs.flatMap (fun r =>
    let before := recs.takeWhile (fun x => decide (x.1 < r.1))
    let dup := (r.2.isSlot && before.any (fun x => x.2.isSlot && x.2.out == r.2.out))
      || (r.2.isAdd && before.any (fun x => x.2.isAdd && x.2.src == r.2.src))
      || (r.2.isRemove && before.any (fun x => x.2.isRemove && x.2.src == r.2.src))
    let scarf := r.2.op == 2 && (r.2.src == r.2.psrc ||
      (newlyMerged old.map r.2 && (decide (16384 < mergedOn map (portOfAddr r.2.out)) || decide (4194304 < mergedTotal map))))
    (if 6 ≤ r.2.op || r.2.bad then [(r.1, failFormat)] else [])
      ++ (if (r.2.isAdd || r.2.isRemove) && 16383 < r.2.group then [(r.1, failRange)] else [])
      ++ (if dup then [(r.1, failDuplicate)] else [])
      ++ (if scarf then [(r.1, failScarf)] else []))

/-- The failure that the scribe reports: the lowest index, then the lowest code (R198). -/
def worstFail (l : List (Nat × Nat)) : Option Failure :=
  l.foldl (fun b f =>
    match b with
    | none => some { code := f.2, index := f.1 }
    | some x => if f.1 < x.index || (f.1 = x.index && f.2 < x.code) then some { code := f.2, index := f.1 } else b) none

/-- The record that a LEG_BLOCKED failure names (R198). -/
def blockedIndex (map : Tab Route) (recs : List (Nat × EditRec)) (slot : Nat) : Nat :=
  match recs.find? (fun r => r.2.isSlot && r.2.out == slot) with
  | some r => r.1
  | none =>
    let srcs := ((map.find slot).map Route.sources).getD []
    ((recs.find? (fun r => (r.2.isAdd || r.2.isRemove) && srcs.contains r.2.src)).map (·.1)).getD 0

/-- One chunk is compiled against a schedule and a tap table (R201). -/
def compileChunk (env : CompileEnv) (old : Schedule) (tap : Tab (Tab TapEnt)) (recs : List (Nat × EditRec)) :
    Except Failure (Schedule × Tab (Tab TapEnt)) :=
  let e := editBents env old tap recs
  match worstFail (recordFails old recs ++ e.fails) with
  | some f => .error f
  | none =>
    let map := editMap old.map recs
    match old.rebuild map e.bents ((recs.filter (·.2.isSlot)).map (·.2.out)) with
    | .ok sc => .ok (sc, e.tap)
    | .error slot => .error { code := failLeg, index := blockedIndex map recs slot, slot := some slot }

/-- What a record edits (R197): bents as even numbers, scarf groups as odd ones. -/
def editKeys (old : Tab Route) (r : EditRec) : List Nat :=
  (if r.isAdd || r.isRemove then [2 * r.group] else [])
    ++ (if r.op = 2 then [2 * r.group + 1] else [])
    ++ (if r.isSlot then (match old.find r.out with
          | some (.merged _ _ g _) => [2 * g + 1]
          | _ => []) else [])

/-- The records linked to a set of keys, grown through any chain of links (R219). -/
def linkedSet (old : Tab Route) (recs : List (Nat × EditRec)) : Nat → List Nat → List (Nat × EditRec)
  | 0, keys => recs.filter (fun r => (editKeys old r.2).any keys.contains)
  | fuel + 1, keys =>
    let set := recs.filter (fun r => (editKeys old r.2).any keys.contains)
    let keys' := sortNats (keys ++ set.flatMap (fun r => editKeys old r.2))
    if keys'.length = (sortNats keys).length then set else linkedSet old recs fuel keys'

/-- One record, or its whole linked set where it is linked. -/
def linkedTo (old : Tab Route) (recs : List (Nat × EditRec)) (r : Nat × EditRec) : List (Nat × EditRec) :=
  let k := editKeys old r.2
  if k.isEmpty then [r] else linkedSet old recs recs.length k

/-- 1 Mi. -/
def mebi : Nat := 1048576

/-- The chunks of a change (R219): records in index order, each with its linked set, a chunk closed before a record whose linked set
would take it beyond 1 Mi records. `done` is what the chunks before hold. -/
def formChunks (old : Tab Route) (all : List (Nat × EditRec)) (todo : List (Nat × EditRec)) (cur : List (Nat × EditRec))
    (taken : List Nat) : List (List (Nat × EditRec)) :=
  match todo with
  | [] => if cur.isEmpty then [] else [cur]
  | r :: rest =>
    if taken.contains r.1 then formChunks old all rest cur taken
    else
      let set := linkedTo old all r
      let taken' := taken ++ set.map (·.1)
      if mebi < cur.length + set.length then cur :: formChunks old all rest set taken'
      else formChunks old all rest (cur ++ set) taken'

/-- A chunk's records in index order. -/
def sortRecs (l : List (Nat × EditRec)) : List (Nat × EditRec) :=
  let ins := fun (acc : List (Nat × EditRec)) (x : Nat × EditRec) =>
    (acc.takeWhile (fun y => decide (y.1 < x.1))) ++ x :: acc.dropWhile (fun y => decide (y.1 < x.1))
  l.foldl ins []

/-- The chunks are compiled, each against what the earlier ones leave (R220). -/
def compileChunks (env : CompileEnv) (old : Schedule) (tap : Tab (Tab TapEnt)) (chunks : List (List (Nat × EditRec))) :
    Except Failure (List (Schedule × List EditRec) × Tab (Tab TapEnt)) :=
  match chunks with
  | [] => .ok ([], tap)
  | c :: rest =>
    match compileChunk env old tap (sortRecs c) with
    | .error f => .error f
    | .ok (sc, tp) =>
      match compileChunks env sc tp rest with
      | .error f => .error f
      | .ok (l, tp') => .ok ((sc, c.map (·.2)) :: l, tp')

/-- A change of records is compiled (R198, R201, R219, R220): a schedule for each chunk, with its records, and the tap table
with the positions it takes. `limit` is the record count allowed for the change. -/
def compileChange (env : CompileEnv) (old : Schedule) (tap : Tab (Tab TapEnt)) (limit : Nat) (recs : List EditRec) :
    Except Failure (List (Schedule × List EditRec) × Tab (Tab TapEnt)) :=
  let ir := (List.range recs.length).zip recs
  if recs.length = 0 || limit < recs.length then .error { code := failLen, index := 0 }
  else if recs.length ≤ mebi then compileChunks env old tap [ir]
  else
    let tooBig := ir.filter (fun r => decide (16384 < (linkedTo old.map ir r).length))
    match worstFail (recordFails old ir ++ (editBents env old tap ir).fails ++ tooBig.map (fun r => (r.1, failGroupSize))) with
    | some f => .error f
    | none => compileChunks env old tap (formChunks old.map ir ir [] [])

/-! ### Full re-placement (R221) -/

/-- The legs of an output port with the lowest output slot address that uses each, in ascending order of that address. -/
def Schedule.legsOf (sc : Schedule) (o : Nat) : List (Nat × Nat) :=
  let slots := sc.slotsOf o
  let pairs := slots.flatMap (fun e => e.2.sources.map (fun src => (e.1, src)))
  pairs.foldl (fun acc x => if acc.any (fun y => y.2 == x.2) then acc else acc ++ [x]) []

/-- A leg moves to the lowest centre slot free at both of its ports, its own counted as free; how many moved. -/
def Schedule.compactLeg (sc : Schedule) (o src : Nat) : Schedule × Nat :=
  let (p, x) := sc.inputOf src
  match sc.legCentre p x o with
  | none => (sc, 0)
  | some c =>
    let ip := sc.ingress.get p {}
    let po := sc.pwrite.get o {}
    match ip.find c, po.find c with
    | some e, some a =>
      let ip' := ip.del c
      let po' := po.del c
      match lowestFree 278528 (ip'.keys ++ po'.keys) with
      | some c' => ({ sc with ingress := sc.ingress.put p (ip'.put c' e), pwrite := sc.pwrite.put o (po'.put c' a) },
          if c' = c then 0 else 1)
      | none => (sc, 0)
    | _, _ => (sc, 0)

/-- Step `i` of a re-placement: output ports 8i to 8i + 7. -/
def Schedule.compactStep (sc : Schedule) (i : Nat) : Schedule × Nat :=
  (List.range 8).foldl (fun acc k =>
    (acc.1.legsOf (8 * i + k)).foldl (fun a l =>
      let r := a.1.compactLeg (8 * i + k) l.2
      (r.1, a.2 + r.2)) acc) (sc, 0)

/-- All 32 steps of a re-placement, and how many legs they move. -/
def Schedule.compact (sc : Schedule) : List Schedule × Nat :=
  let r := (List.range 32).foldl (fun (acc : Schedule × List Schedule × Nat) i =>
    let s := acc.1.compactStep i
    (s.1, acc.2.1 ++ [s.1], acc.2.2 + s.2)) (sc, [], 0)
  (r.2.1, r.2.2)

end Sys2Proof.Machine
end

