-- ==== Sys2Proof/Machine/BentOps.lean ====
section
/-! DEFINITION. What a bent does: the outcome of its steps and retimes, the schedule in force for a transmit frame, the check of its
members' words, joining (R127 to R160).
Readings and choices: DEDUCED (log entry 47). -/

namespace Sys2Proof.Machine

/-! ### Members -/

/-- What the machine keeps of the member with source `src`. -/
def State.link (s : State) (src : Nat) : Link := s.links.get src { bent := 0 }

/-- `s` with a member's record changed. -/
def State.updLink (s : State) (src : Nat) (f : Link → Link) : State := { s with links := s.links.put src (f (s.link src)) }

/-- A member is offline: HELD or BLOCKED (R146). -/
def State.offline (s : State) (src : Nat) : Bool := (s.link src).state == .held || (s.link src).state == .blocked

/-- The members of a bent in a schedule. -/
def Schedule.membersOf (sc : Schedule) (b : Nat) : List Membership := ((sc.bents.find b).map (·.members)).getD []

/-- The largest arrival offset of a list of members. -/
def maxArr (ms : List Membership) : Nat := ms.foldl (fun a m => max a m.arr) 0

/-- The smallest arrival offset of a list of members. -/
def minArr (ms : List Membership) : Nat := ms.foldl (fun a m => min a m.arr) 4095

/-- The active long-path reservation, in units (R136). -/
def State.lpCap (s : State) : Nat := s.fld R.BNT_GLB_LPCAP_CAP

/-! ### Actions on a schedule (R147 to R152, R159) -/

/-- A bent with new members and reference: positions taken and legs rerouted; `none` where R133, R135, R136 or placement does not
allow it. -/
def Schedule.retarget (sc : Schedule) (cap : Nat) (reuse : Nat → Bool) (tap : Tab (Tab TapEnt)) (b ref : Nat) (ms : List Membership) :
    Option (Schedule × Tab (Tab TapEnt)) :=
  (holdPositions cap reuse tap ms).bind (fun r =>
    match sc.rebuild sc.map (sc.bents.put b { ref := ref, members := r.2 }) [] with
    | .ok t => some (t, r.1)
    | .error _ => none)

/-- The arrival offsets change and nothing else does: the member is offline with its settings. -/
def Schedule.setArr (sc : Schedule) (b src arr : Nat) : Schedule :=
  match sc.bents.find b with
  | none => sc
  | some c => { sc with bents := sc.bents.put b { c with members := c.members.map (fun m =>
      if m.src == src then { m with arr := arr } else m) } }

/-- The reference that an action sets. -/
def BentAction.ref (a : BentAction) (ref : Nat) : Nat :=
  match a.units.find? (fun u => u.act == .grow || u.act == .retime) with
  | some u => u.ref
  | none => ref

/-- A member under an action (R148 to R152, R159). -/
def BentAction.member (s : State) (a : BentAction) (ref : Nat) (m : Membership) : Membership :=
  let ref' := a.ref ref
  match a.units.find? (fun u => u.src == m.src && u.act != .retime) with
  | some u =>
    match u.act with
    | .hold => { m with arr := u.arr, d := 0 }
    | .block => { m with arr := u.arr }
    | _ => { m with arr := u.arr, d := ref' - u.arr }
  | none =>
    if ref' = ref && !a.units.any (·.act == .retime) then m
    else if !s.offline m.src then { m with d := ref' - m.arr }
    else if a.units.any (·.act == .retime) && m.arr ≤ ref' && ref' ≤ m.arr + 2048 then { m with d := ref' - m.arr }
    else m

/-- A position that an action has taken for a member is its own when it takes effect (R137); one that the present change took is not. -/
def State.reusable (s : State) (q : Nat) : Bool :=
  match s.chg with
  | some c => !c.took.contains q
  | none => true

/-- What an action makes of a schedule and the tap table; `none` where it is refused (R151, R160). -/
def BentAction.run (s : State) (a : BentAction) (sc : Schedule) (tap : Tab (Tab TapEnt)) :
    Option (Schedule × Tab (Tab TapEnt)) :=
  match sc.bents.find a.bent with
  | none => none
  | some c =>
    let ref' := a.ref c.ref
    let ms := c.members.map (a.member s c.ref)
    let stays := fun (m : Membership) =>
      a.units.any (fun u => u.src == m.src && (u.act == .hold || u.act == .block))
        || (s.offline m.src && c.members.any (fun o => o.src == m.src && o.d == m.d))
    let fits := ms.all (fun m => stays m || (decide (m.arr ≤ ref') && decide (m.d ≤ 2048)))
    if fits then sc.retarget s.lpCap s.reusable tap a.bent ref' ms else none

/-! ### Deciding a step (R143 to R155) -/

/-- The step of a confirmed relation: −1, +2 or +1 (R143). -/
def stepOf (k k' : Nat) : Int :=
  let r := (k' + 4 - k % 4) % 4
  if r = 1 then -1 else if r = 2 then 2 else 1

/-- A step that would take the arrival offset outside 0 to 4,095 has no new offset (R145). -/
def stepArr (arr : Nat) (st : Int) : Option Nat :=
  let a := (arr : Int) + st
  if 0 ≤ a && a ≤ 4095 then some a.toNat else none

/-- The active guard of a bent. -/
def State.guard (s : State) (b : Nat) : Nat := s.fld R.BNT_CFG_GUARD b

/-- A growth's units: `held` are those of the steps that it cannot take in, then the stepped members beyond the guard and those within
it, which are absorbed or return, and the offline members that it brings back one at a time as capacity allows (R150 to R152, R154).
`none` where the growth is not allowed (R151). -/
def State.growUnits (s : State) (sc : Schedule) (b ref' : Nat) (held : List BentUnit) (steps : List (Nat × Nat)) :
    Option (List BentUnit) :=
  let ref := ((sc.bents.find b).map (·.ref)).getD 0
  let base := held ++ steps.map (fun p =>
    { act := if ref < p.2 then BentAct.grow else if s.offline p.1 then .back else .absorb, src := p.1, arr := p.2, ref := ref' : BentUnit })
  let act := fun (us : List BentUnit) => ({ bent := b, at' := 0, units := us } : BentAction)
  if ((act base).run s sc s.tap).isNone then none
  else
    let back := (sc.membersOf b).filter (fun m => s.offline m.src && !base.any (·.src == m.src)
      && decide (m.arr ≤ ref') && decide (ref' ≤ m.arr + 2048))
    some (back.foldl (fun us m =>
      let us' := us ++ [{ act := .back, src := m.src, arr := m.arr, ref := ref' }]
      if ((act us').run s sc s.tap).isSome then us' else us) base)

/-- The units of the steps within the guard: each is absorbed, or returns an offline member, where R133, R135 and R136 allow; else the
member is BLOCKED (R148, R149, R152). -/
def State.withinUnits (s : State) (sc : Schedule) (b ref : Nat) (steps : List (Nat × Nat)) : List BentUnit :=
  steps.foldl (fun us p =>
    let kind := if s.offline p.1 then BentAct.back else .absorb
    let us' := us ++ [{ act := kind, src := p.1, arr := p.2, ref := ref }]
    let ok := decide (ref ≤ p.2 + 2048) && (BentAction.run s { bent := b, at' := 0, units := us' } sc s.tap).isSome
    if ok then us' else us ++ [{ act := .block, src := p.1, arr := p.2, ref := ref, why := 1 }]) []

/-- The units of steps confirmed together (R145, R148 to R154). A step outside 0 to 4,095 blocks the member with ABSORB_FAIL, the event that the
register names for R145, and not GROW_FAIL (DESIGN CHOICE: log entry 65). -/
def State.stepUnits (s : State) (sc : Schedule) (b : Nat) (steps : List (Nat × Option Nat)) : List BentUnit :=
  let ref := ((sc.bents.find b).map (·.ref)).getD 0
  let lost := (steps.filter (fun p => p.2.isNone)).map (fun p =>
    let arr := (((sc.membersOf b).find? (·.src == p.1)).map (·.arr)).getD 0
    { act := .block, src := p.1, arr := arr, ref := ref, why := 1 : BentUnit })
  let good := steps.filterMap (fun p => p.2.map (fun a => (p.1, a)))
  let beyond := good.filter (fun p => decide (ref < p.2))
  let within := s.withinUnits sc b ref (good.filter (fun p => decide (p.2 ≤ ref)))
  if beyond.isEmpty then lost ++ within
  else
    let policy := s.fld R.BNT_CFG_POLICY b
    if policy = 1 then lost ++ within ++ beyond.map (fun p => { act := .hold, src := p.1, arr := p.2, ref := ref })
    else if policy = 2 then lost ++ within ++ beyond.map (fun p => { act := .block, src := p.1, arr := p.2, ref := ref })
    else
      let ref' := beyond.foldl (fun r p => max r (p.2 + s.guard b)) 0
      let failed := within.filter (·.act == .block)
      let taken := (within.filter (·.act != .block)).map (fun u => (u.src, u.arr))
      match s.growUnits sc b ref' (lost ++ failed) (taken ++ beyond) with
      | some us => us
      | none => lost ++ within ++ beyond.map (fun p => { act := .block, src := p.1, arr := p.2, ref := ref, why := 2 })

/-- An action worked out again on a schedule (R153): its steps as they were confirmed, of the members it still names; a retime to the
largest arrival offset that is left. -/
def BentAction.rework (s : State) (a : BentAction) (sc : Schedule) : BentAction :=
  let ms := sc.membersOf a.bent
  if a.units.any (·.act == .retime) then
    { a with units := [{ act := .retime, src := 0, arr := 0, ref := maxArr ms + s.guard a.bent }] }
  else
    { a with units := s.stepUnits sc a.bent (a.units.filterMap (fun u =>
        (ms.find? (·.src == u.src)).bind (fun m =>
          if m.arr != u.arr then some (u.src, some u.arr)
          else if u.act == .block then some (u.src, none)
          else none))) }

/-- The action that takes effect on a schedule: worked out again where a cut list of its frame edited the bent (R153), and where steps
decided before can no longer be taken in (R149, R151). -/
def BentAction.settle (s : State) (a : BentAction) (sc : Schedule) : BentAction :=
  if a.again || (!a.units.any (·.act == .retime) && (a.run s sc s.tap).isNone) then a.rework s sc else a

/-- The schedule after an action; unchanged where it is refused. -/
def BentAction.onSched (s : State) (a : BentAction) (sc : Schedule) : Schedule :=
  match (a.settle s sc).run s sc s.tap with
  | some r => r.1
  | none => sc

/-- Applies the actions of a list that take effect by frame `f`. -/
def State.actOn (s : State) (f : Nat) (l : List BentAction) (sc : Schedule) : Schedule :=
  l.foldl (fun sc a => if frameReached f a.at' then a.onSched s sc else sc) sc

/-- How many chunks or steps of an applying change are in force at frame `f`. -/
def Change.inForce (c : Change) (f : Nat) : Nat :=
  match c.state, c.frame with
  | .applying, some t => if frameReached f t then min c.results.length ((f + 2 ^ 32 - t % 2 ^ 32) % 2 ^ 32 + 1) else 0
  | _, _ => 0

/-- The schedule in force for transmit frame `f`: the active one with the change that is applying and the bent actions decided, each
from its frame (R204, R205, R212). A change was compiled with the actions earlier than its own frame (R199, R213). -/
def State.schedAt (s : State) (f : Nat) : Schedule :=
  match s.chg with
  | none => s.actOn f s.actions s.sched
  | some c =>
    let k := c.inForce f
    if k ≤ c.done then s.actOn f s.actions s.sched
    else
      let later := s.actions.filter (fun a => frameReached a.at' (c.frame.getD 0))
      s.actOn f later (c.results.getD (k - 1) s.sched)

/-- The later of two frames. -/
def laterFrame (a b : Nat) : Nat := if frameLater a b then a else b

/-- The pauses of a bent. -/
def State.pausesOf (s : State) (b : Nat) : List BentPause := s.pauses.get b []

/-- The bent pauses in transmit frame `f`: a pause that runs, or that of an action that has been decided (R150, R159). -/
def State.pausedAt (s : State) (b f : Nat) : Bool :=
  let ref := ((s.sched.bents.find b).map (·.ref)).getD 0
  (s.pausesOf b).any (fun p => frameLater p.until' f)
    || s.actions.any (fun a => a.bent == b && frameReached f a.at' && frameLater (frameAdd a.at' (a.ref ref - ref)) f)

/-- The frame T of a step confirmed in page `p` (R147): P + 4; or later, after a pause in progress or another realignment of the bent
that takes effect in frame P + 1, with the pause it brings (R155). Where the pause or the realignment ends before P + 4, T stays P + 4
(DESIGN CHOICE: log entry 65). -/
def State.stepFrame (s : State) (b p : Nat) : Nat :=
  let t1 := (s.pausesOf b).foldl (fun t x => if frameLater x.until' p then laterFrame x.until' t else t) (frameAdd p 4)
  s.actions.foldl (fun t a =>
    if a.bent = b && a.at' = frameAdd p 1 then
      let ref := (((s.schedAt p).bents.find b).map (·.ref)).getD 0
      laterFrame (frameAdd a.at' (max 1 (a.ref ref - ref))) t
    else t) t1

/-- The change that is ARMED must be compiled again (R213). -/
def State.makeStale (s : State) : State :=
  match s.chg with
  | some c => if c.state = .armed then { s with chg := some { c with stale := true } } else s
  | none => s

/-- A change ARMED for a frame after `f`, or for none yet, must be compiled again (R213). -/
def State.markStale (s : State) (f : Nat) : State :=
  match s.chg with
  | some c =>
    if (match c.frame with
      | some t => frameLater t f
      | none => true) then s.makeStale else s
  | none => s

/-- A journal unit's four words (R309). -/
def BentUnit.words (b : Nat) (u : BentUnit) : List Nat :=
  let code := match u.act with
    | .grow => 1
    | .absorb => 2
    | .hold => 3
    | .block => 4
    | .back => 5
    | .retime => 6
  [b + code * 2 ^ 16, u.src, u.arr + u.ref * 2 ^ 16, 0]

/-- The positions that a tap table newly takes: another does not list them, or lists them as released. -/
def newPositions (old new : Tab (Tab TapEnt)) : List Nat :=
  new.entries.flatMap (fun r => (r.2.entries.filter (fun e =>
    match tapAt old (131072 * r.1 + e.1) with
    | none => true
    | some o => o.released && !e.2.released)).map (fun e => 131072 * r.1 + e.1))

/-- The positions newly taken are installed in the present frame (R316); what DDR5 holds there is another source's (R139). -/
def State.stampTaps (s : State) (old : Tab (Tab TapEnt)) : State :=
  let new := newPositions old s.tap
  { s with
    longMem := s.longMem.keep (fun q _ => !new.contains q)
    tap := s.tap.mapVals (fun r t => t.mapVals (fun q e =>
      if new.contains (131072 * r + q) then { e with since := s.frame } else e)) }

/-- Whether chunk `k` of a change edits bent `b`. -/
def Change.edits (c : Change) (k b : Nat) : Bool :=
  (c.chunks.getD k []).any (fun r => (r.isAdd || r.isRemove) && r.group == b)

/-- Chunk `k` of a change edits the membership of a source. -/
def Change.editsMember (c : Change) (k src : Nat) : Bool :=
  (c.chunks.getD k []).any (fun r => (r.isAdd || r.isRemove) && r.src == src)

/-- A bent action whose T is the apply frame of a chunk that edits its bent takes effect one frame later, worked out again on the bent as
the chunk leaves it; a member that the chunk removes or adds again has no step (R153). -/
def BentAction.defer (a : BentAction) (c : Change) (t : Nat) : BentAction :=
  match (List.range c.results.length).find? (fun k => a.at' = frameAdd t k && c.edits k a.bent) with
  | some k => { a with at' := frameAdd a.at' 1, again := true
                       units := a.units.filter (fun u => u.act == .retime || !c.editsMember k u.src) }
  | none => a

/-- An action as it is decided now: deferred where a chunk of the change that is APPLYING edits its bent in its frame (R153). -/
def State.deferNow (s : State) (a : BentAction) : BentAction :=
  match s.chg with
  | some c => (match c.state, c.frame with
    | .applying, some t => a.defer c t
    | _, _ => a)
  | none => a

/-- An action is decided: the positions that its members will need are taken now (R137), an ARMED change is compiled again (R213), and
the action is journalled as it was decided (R158). -/
def State.decideAction (s : State) (a0 : BentAction) : State :=
  let a := s.deferNow a0
  let s1 := match a.run s (s.schedAt a.at') s.tap with
    | some r => ({ s with tap := r.2 }).stampTaps s.tap
    | none => s
  let s2 := { s1 with actions := s1.actions ++ [a] }
  (s2.markStale a.at').journal recBent a0.at' 0 (a0.units.map (BentUnit.words a0.bent))

/-- The steps of one bent confirmed in page `p` are counted, and on a device that may act they are decided (R147, R154, R306). -/
def State.decideSteps (s : State) (b p : Nat) (srcs : List Nat) (old : List (Nat × Nat)) : State :=
  let s1 := s.satFld R.BNT_HIST_STEPS b srcs.length
  let t := s.stepFrame b p
  let sc := s.schedAt t
  let steps := srcs.filterMap (fun src =>
    ((sc.membersOf b).find? (·.src == src)).bind (fun m =>
      (old.find? (·.1 == src)).map (fun o => (src, stepArr m.arr (stepOf o.2 ((s.link src).k.getD 0))))))
  let s1 := srcs.foldl (fun u src => u.updLink src (fun l => { l with steps := l.steps ++ [{
      page := l.runFrom, before := ((sc.membersOf b).find? (·.src == src)).map (·.arr)
      after := (steps.find? (·.1 == src)).bind (·.2) }] })) s1
  let ref := ((sc.bents.find b).map (·.ref)).getD 0
  let excess := steps.any (fun x => decide (ref < x.2.getD 0))
  let s2 := s1.latchIf excess R.BNT_EVT_REALIGN b
  if s2.mayChange then s2.decideAction { bent := b, at' := t, units := s2.stepUnits sc b steps } else s2

/-! ### Checking words (R141 to R143, R156) -/

/-- The relation in force for page `n` (R143). -/
def Link.relation (l : Link) (n : Nat) : Option Nat := if frameReached n l.kFrom then l.k else l.kOld

/-- A word takes part in the checks: parity-good and not an AIS word (R141). -/
def checked (w : Nat) : Bool := parityGood w && !isAis w

/-- What a checked word of relation `rel` does to what is learnt of a member (R141), and whether it locks the member. -/
def Learn.take (l : Learn) (rel : Nat) : Learn × Bool :=
  match l.k with
  | some k => if rel = k then (l, false) else ({ l with k := none, cand := rel, run := 1 }, false)
  | none =>
    let run := if rel = l.cand && l.run ≠ 0 then l.run + 1 else 1
    if run = 8 then ({ l with k := some rel, cand := rel, run := 0 }, true) else ({ l with cand := rel, run := run }, false)

/-- What a checked word of relation `rel` in page `n` does to a member that has not joined (R141). -/
def Link.learn (l : Link) (rel n : Nat) : Link × Bool :=
  let r := Learn.take { bent := l.bent, k := l.k, cand := l.cand, run := l.run } rel
  let l1 := { l with k := r.1.k, cand := r.1.cand, run := r.1.run }
  (if r.2 then { l1 with kOld := some rel, kFrom := n } else l1, r.2)

/-- What a checked word does to a joined member (R142, R143): whether it mismatches, and whether it confirms a step. -/
def Link.follow (l : Link) (rel n : Nat) : Link × Bool × Bool :=
  if l.relation n = some rel then
    ({ l with run := 0, state := if l.state = .suspect && !l.confirmed then .active else l.state }, false, false)
  else
    let run := if rel = l.cand && l.run ≠ 0 then l.run + 1 else 1
    let from' := if run = 1 then n else l.runFrom
    let l1 := { l with cand := rel, run := run, runFrom := from', state := if l.state = .active then .suspect else l.state }
    if run = 8 then
      ({ l1 with kOld := l1.relation n, k := some rel, kFrom := frameAdd n 1, run := 0, confirmed := true }, true, true)
    else (l1, true, false)

/-- A member that a change is to add again learns its relation anew from a checked word (R138, R141). -/
def State.learnAnew (s : State) (src rel : Nat) : State :=
  match (s.link src).anew with
  | none => s
  | some a =>
    let r := a.take rel
    (s.updLink src (fun l => { l with anew := some r.1 })).latchIf r.2 R.BNT_EVT_MEMBER_LOCK a.bent

/-- A member's check of page `n` with incoming word `w` (R141 to R143); the relation before a confirmed step. -/
def State.checkMember (s : State) (src w n : Nat) : State × Option Nat :=
  let rel := (seqOf w + 4 - n % 4) % 4
  if !checked w then (s, none)
  else
  let s := s.learnAnew src rel
  let l := s.link src
  if l.state = .pending || l.state = .unlocked then
    let r := l.learn rel n
    (({ s with links := s.links.put src r.1 }).latchIf r.2 R.BNT_EVT_MEMBER_LOCK l.bent, none)
  else
    let r := l.follow rel n
    (({ s with links := s.links.put src r.1 }).latchIf r.2.1 R.BNT_EVT_MISMATCH l.bent,
      if r.2.2 then (l.relation n).orElse (fun _ => some 0) else none)

/-! ### Joining (R138 to R140) -/

/-- The page that member `m` is read from for transmit frame `f` (R33, R35). -/
def pageFor (f d : Nat) : Nat := (f + 2 * 2 ^ 32 - 2 - d) % 2 ^ 32

/-- The member may join at transmit frame `f`: it is locked, and a long member's first page is in DDR5 (R139). -/
def State.canJoin (s : State) (m : Membership) (f : Nat) : Bool :=
  (s.link m.src).k.isSome &&
    (decide (m.d < 2) || (match m.pos with
      | some q => ((s.longMem.get q {}).find (pageFor f m.d)).isSome
      | none => false))

/-- A member joins in the present frame where it may; else it is UNLOCKED. A join after its frame latches LOCK_LATE (R139). -/
def State.joinMember (s : State) (src : Nat) : State :=
  let l := s.link src
  match s.sched.memberOf src, l.joinAt with
  | some (b, m), some f =>
    if (l.state = .pending || l.state = .unlocked) && l.bent = b && frameReached s.frame f then
      if s.canJoin m s.frame then
        (s.updLink src (fun l => { l with state := .active, joinAt := none, run := 0 })).latchIf (s.frame != f)
          R.BNT_EVT_LOCK_LATE b
      else s.updLink src (fun l => { l with state := .unlocked })
    else s
  | _, _ => s

/-- `s` with the sides that are not CLEAN replaced. -/
def State.setSides (s : State) (t : Tab SideSt) : State := { s with sides := { s.sides with live := t } }

/-- A side's window is emptied, and a FAULT that this ends latches GRN_CLEAR (R235). -/
def State.clearSide (s : State) (k : Nat) : State :=
  match s.sides.live.find k with
  | none => s
  | some sd => (s.setSides (s.sides.live.del k)).latchIf sd.fault R.GRN_EVT_GRN_CLEAR

/-- The sides of the slots whose source, one of those that `p` names, has another input port or deskew in a new schedule are emptied
(R235). -/
def State.clearMoved (s : State) (p : Nat → Bool) (old new : Schedule) : State :=
  new.map.entries.foldl (fun t e =>
    let srcs := e.2.sources
    (List.range srcs.length).foldl (fun u k =>
      let src := srcs.getD k 0
      if p src && old.moves new src then u.clearSide (2 * e.1 + k) else u) t) s

/-- Positions that a new schedule no longer holds are released: cleared at the next tick (R137, R205). -/
def State.releaseTaps (s : State) (old new : Schedule) : State :=
  let held := new.bents.entries.flatMap (fun e => e.2.members.filterMap (·.pos))
  let freed := (old.bents.entries.flatMap (fun e => e.2.members.filterMap (·.pos))).filter (fun q => !held.contains q)
  { s with tap := freed.foldl (fun tp q =>
      match tapAt tp q with
      | some e => tapPut tp q { e with clearAt := some (frameAdd s.frame 1), released := true }
      | none => tp) s.tap }

/-- The members of a schedule's bents. -/
def Schedule.allMembers (sc : Schedule) : List Membership := sc.bents.entries.flatMap (fun e => e.2.members)

/-- The schedules that hold storage: the active one, those that the change under way has still to bring, and each that a decided action
leaves (R136, R137). -/
def State.schedsAhead (s : State) : List Schedule :=
  s.sched :: (match s.chg with
    | some c => c.results.drop c.done
    | none => []) ++ s.actions.map (fun a => s.schedAt a.at')

/-- The storage that a return position needs: the most that any of those schedules gives it (R136). -/
def State.needAt (s : State) (q : Nat) : Nat :=
  (s.schedsAhead.flatMap Schedule.allMembers).foldl (fun n m => if m.pos = some q then max n (m.d + 1) else n) 0

/-- The storage of the positions that the active schedule holds follows what they need (R136). -/
def State.settleTaps (s : State) : State :=
  { s with tap := s.sched.allMembers.foldl (fun tp m =>
      match m.pos with
      | some q => tapPut tp q { src := m.src, store := max (m.d + 1) (s.needAt q), since := ((tapAt tp q).map (·.since)).getD s.frame }
      | none => tp) s.tap }

/-- The tap table at a tick: the entries whose tick has come are cleared, and the storage that a withdrawn change had added to an entry is
given back (R205, R206). -/
def State.clearTaps (s : State) : Tab (Tab TapEnt) :=
  let come := fun (o : Option Nat) => match o with
    | some f => frameReached s.frame f
    | none => false
  s.tap.mapVals (fun r t => (t.keep (fun _ e => !come e.clearAt)).mapVals (fun q e =>
    if come e.backAt then { e with store := s.needAt (131072 * r + q), backAt := none } else e))

/-- The state a member takes from an action (R148 to R152, R159). -/
def BentAction.newState (s : State) (a : BentAction) (old new : Membership) : Option MemberState :=
  match a.units.find? (fun u => u.src == old.src && u.act != .retime) with
  | some u =>
    match u.act with
    | .hold => some .held
    | .block => some .blocked
    | _ => some .active
  | none =>
    if a.units.any (·.act == .retime) then
      (if s.offline old.src then (if new.d = old.d && !(decide (new.arr ≤ a.ref 0) && decide (a.ref 0 ≤ new.arr + 2048)) then none
        else some .active)
       else if (s.link old.src).state = .suspect then some .active else none)
    else none

/-- The action's events and the bent's history (R148 to R152, R159); `ret` says that an offline member returns with a growth. A return by a
step within the guard latches RETURN and not STEP_ABSORBED, and where pauses overlap the bent pauses until the last of them ends, so that labels
repeat after it (DESIGN CHOICE: log entry 65). -/
def State.actionEvents (s : State) (a : BentAction) (g : Nat) (ret : Bool) : State :=
  let has := fun (k : BentAct) => a.units.any (·.act == k)
  let s1 := s.latchIf (has .absorb) R.BNT_EVT_STEP_ABSORBED a.bent
  let s2 := s1.latchIf (has .back || ret) R.BNT_EVT_RETURN a.bent
  let s3 := s2.latchIf (a.units.any (·.why == 1)) R.BNT_EVT_ABSORB_FAIL a.bent
  let s4 := s3.latchIf (a.units.any (·.why == 2)) R.BNT_EVT_GROW_FAIL a.bent
  let s5 := s4.latchIf (has .retime) R.BNT_EVT_RETIME_DONE a.bent
  let s6 := if has .grow || has .retime then s5.satFld R.BNT_HIST_REALIGNS a.bent 1 else s5
  if g = 0 then s6
  else { s6 with pauses := s6.pauses.put a.bent (s6.pausesOf a.bent ++ [{ until' := frameAdd a.at' g, growth := has .grow }]) }

/-- The sources whose sides an action empties (R235): those whose input port or deskew a step, a return or a growth changes, but not
those that a hold or a retime does. -/
def BentAction.empties (a : BentAction) (src : Nat) : Bool :=
  a.units.any (fun u => u.act == .grow || u.act == .absorb || u.act == .back)
    && !a.units.any (fun u => u.act == .hold && u.src == src)

/-- IN_OVER is latched where an input port's cost exceeds 131,072 (R189). -/
def State.watchOver (s : State) : State :=
  s.latchIf ((List.range 280).any (fun p => decide (131072 < s.sched.inCost p))) R.FAB_EVT_IN_OVER

/-- The steps of a member whose last has taken effect with arrival offset `arr`, the one in force from then on (R147). -/
def anchored (l : List ArrStep) (arr : Nat) : List ArrStep :=
  match l.getLast? with
  | some x => l.dropLast ++ [{ x with after := x.after.map (fun _ => arr) }]
  | none => l

/-- A decided action takes effect in the present frame: the schedule, the members' states, the sides of R235, the positions released,
the pause and the events. A refused action leaves the bent unchanged and latches GROW_FAIL (R151, R160). -/
def State.takeAction (s : State) (a0 : BentAction) : State :=
  let a := a0.settle s s.sched
  let s0 := { s with actions := s.actions.filter (· != a0) }
  match a.run s s.sched s.tap with
  | none => s0.latch R.BNT_EVT_GROW_FAIL a.bent
  | some (sc, tap) =>
    let ref := ((s.sched.bents.find a.bent).map (·.ref)).getD 0
    let ms := s.sched.membersOf a.bent
    let links := ms.foldl (fun ls m =>
      let m' := ((sc.membersOf a.bent).find? (·.src == m.src)).getD m
      match a.newState s m m' with
      | some st =>
        let l := s.link m.src
        let own := a.units.any (fun u => u.src == m.src && u.act != .retime)
        let more := s0.actions.any (fun a' => a'.units.any (fun u => u.src == m.src && u.act != .retime))
        let l1 := if own && !more then { l with confirmed := false, steps := anchored l.steps m'.arr } else l
        ls.put m.src { l1 with state := if l.state = .pending || l.state = .unlocked then l.state else st }
      | none => ls) s0.links
    let chg := s.chg.map (fun c =>
      if c.state = .applying && frameReached a.at' (c.frame.getD 0) then { c with results := c.results.map (a.onSched s) } else c)
    let s1 := ({ s0 with sched := sc, tap := tap, links := links, chg := chg }).stampTaps s.tap
    let ret := a.units.any (fun u => u.act == .grow && s.offline u.src)
    (((((s1.clearMoved a.empties s.sched sc).releaseTaps s.sched sc).settleTaps).watchOver).noteApply s).actionEvents a (a.ref ref - ref) ret

end Sys2Proof.Machine
end

