-- ==== Sys2Proof/Machine/Bents.lean ====
section
/-! DEFINITION. The commands of the bents, and what their registers show (R127 to R162). -/

namespace Sys2Proof.Machine

/-- MEMBER_JOIN (R139): a pending member joins at its frame, or later once it is locked and its first page is in DDR5. -/
def execMemberJoin (src : SlotAddr) (s : State) : Out := .next (s.joinMember src.val)

/-- The first decided action of a bent, of the kind asked for, whose frame has come. -/
def State.dueAction (s : State) (b : Nat) (retime : Bool) : Option BentAction :=
  s.actions.find? (fun a => a.bent == b && (a.units.any (·.act == .retime)) == retime && frameReached s.frame a.at')

/-- BENT_STEP_APPLY (R147 to R154): at T the confirmed steps are absorbed, or grow, hold or block the bent. -/
def execBentStepApply (b : BentIx) (s : State) : Out :=
  .next (match s.dueAction b.val false with
    | some a => s.takeAction a
    | none => s)

/-- BENT_RETIME_APPLY (R159, R160): at the retime frame the new reference takes effect, or the retime is refused. -/
def execBentRetimeApply (b : BentIx) (s : State) : Out :=
  .next (match s.dueAction b.val true with
    | some a => s.takeAction a
    | none => s)

/-- BENT_GROWTH_END (R150, R159): the pauses whose end has come are over; after a growth GROW_DONE is latched. -/
def execBentGrowthEnd (b : BentIx) (s : State) : Out :=
  .next (
    let ended := (s.pausesOf b.val).filter (fun p => frameReached s.frame p.until')
    let left := (s.pausesOf b.val).filter (fun p => !frameReached s.frame p.until')
    if ended.isEmpty then s
    else ({ s with pauses := if left.isEmpty then s.pauses.del b.val else s.pauses.put b.val left }).latchIf (ended.any (·.growth))
      R.BNT_EVT_GROW_DONE b.val)

/-- What a write of 1 to BNT_CTRL.RETIME does (R159): a retime to the largest arrival offset plus the active guard is decided, at the
named frame, or 4 frames from now where that is sooner. -/
def State.requestRetime (s : State) (b : Nat) : State :=
  let named := s.fld R.BNT_RETIME_FRAME_FRAME b
  let least := frameAdd s.frame 4
  let t := if frameReached named least then named else least
  let ms := (s.schedAt t).membersOf b
  if ms.isEmpty then s
  else s.decideAction { bent := b, at' := t, units := [{ act := .retime, src := 0, arr := 0, ref := maxArr ms + s.guard b }] }

/-! ### What the registers show (R161, R162) -/

/-- The change under way and those queued. -/
def State.changes (s : State) : List Change := (match s.chg with
  | some c => [c]
  | none => []) ++ s.queued

/-- A member that a change adds to bent `b`: as the change was compiled, or while it is compiled again as its record and the bent's
reference give it (R132, R138). -/
def Change.pendingIn (c : Change) (s : State) (b : Nat) (r : EditRec) : Membership :=
  match (c.results.getLast?).bind (fun sc => (Schedule.membersOf sc b).find? (·.src == r.src)) with
  | some m => m
  | none => { src := r.src, arr := r.arr, d := ((s.sched.bents.find b).map (·.ref)).getD r.arr - r.arr }

/-- The members pending of bent `b`: those that a change that has been ARMED adds, until it applies or ends (R138). -/
def State.pendingMembers (s : State) (b : Nat) : List Membership :=
  s.changes.foldl (fun l c => l ++ ((c.recs.filter (fun r => r.isAdd && r.group == b && (s.links.find r.src).isSome
    && !(s.sched.membersOf b).any (·.src == r.src) && !l.any (·.src == r.src))).map (c.pendingIn s b))) []

/-- The members of bent `b` in index order: those of the active schedule, then those pending of a change. -/
def State.bentMembers (s : State) (b : Nat) : List Membership := s.sched.membersOf b ++ s.pendingMembers b

/-- The members of bent `b` in a state. -/
def State.countState (s : State) (b : Nat) (p : MemberState → Bool) : Nat :=
  s.links.entries.countP (fun e => e.2.bent == b && p e.2.state)

/-- BNT_STAT.STATE: PAUSE before DEGRADED where both hold (DESIGN CHOICE: log entry 65). -/
def State.bentState (s : State) (b : Nat) : Nat :=
  if (s.sched.membersOf b).isEmpty then 0
  else if (s.pausesOf b).any (fun p => !frameReached s.frame p.until') then 2
  else if 0 < s.countState b (fun st => st == .suspect || st == .unlocked || st == .held || st == .blocked) then 3
  else 1

/-- What BNT_MSRC, BNT_MDLY and BNT_MPOS read for the member that master `m` selects in bent `b` (R162). -/
def State.memberWords (s : State) (m b : Nat) : List Nat :=
  match (s.bentMembers b)[s.mfld R.BNT_MSEL_INDEX b m]? with
  | none => [0, 0, 0]
  | some x =>
    let l := s.link x.src
    let pos := match x.pos with
      | some q => q / 131072 + q % 131072 * 2 ^ 5 + 2 ^ 31
      | none => 0
    let st := if l.bent = b then l.state.code else MemberState.pending.code
    let k := if l.bent = b then l.k else (l.anew.filter (·.bent == b)).bind (·.k)
    [x.src + st * 2 ^ 25, x.arr + x.d * 2 ^ 12 + k.getD 0 * 2 ^ 24 + b2n (decide (2 ≤ x.d)) * 2 ^ 26, pos]

/-- A read of BNT_MSRC latches BNT_MDLY and BNT_MPOS for the master (R162). -/
def State.readMember (s : State) (m b : Nat) : State × Nat :=
  let ws := s.memberWords m b
  ({ s with mdlyHeld := s.mdlyHeld.put b ((s.mdlyHeld.get b {}).put m (ws.drop 1)) }, ws.getD 0 0)

end Sys2Proof.Machine
end

