-- ==== Sys2Proof/Machine/Grain.lean ====
section
/-! DEFINITION. The grain bit (R225 to R227). -/

namespace Sys2Proof

/-- The mask of the feedback bits 31, 21, 1 and 0 (R227). -/
def phiMask : Nat := 0x80200003

/-- One step of Φ (R226, R227). -/
def phiStep (s : Nat) : Nat := (2 * s + parityOf 32 (Nat.land s phiMask)) % 2 ^ 32

/-- The start state of Φ: GRN_SEED_HI, or 1 where that is 0 (R226). -/
def phiStart (seedHi : Nat) : Nat := if seedHi % 2 ^ 32 = 0 then 1 else seedHi % 2 ^ 32

/-- The image of a vector under a linear map of 32 bits, given by the images of its bits. -/
def linApply (cols : List Nat) (v : Nat) : Nat :=
  (List.range 32).foldl (fun acc k => if v.testBit k then Nat.xor acc (cols.getD k 0) else acc) 0

/-- A map applied after itself. -/
def linSquare (cols : List Nat) : List Nat := cols.map (linApply cols)

/-- `n` applications of a map, its bits taken from the lowest: the map is squared at each. -/
def linPow (cols : List Nat) : Nat → Nat → Nat → Nat
  | 0, _, v => v
  | fuel + 1, n, v =>
    if n = 0 then v
    else linPow (linSquare cols) fuel (n / 2) (if n % 2 = 1 then linApply cols v else v)

/-- Φ's step as a linear map. -/
def phiCols : List Nat := (List.range 32).map (fun k => phiStep (2 ^ k))

/-- Φ(N): the start state stepped N times (R226). -/
def phi (seedHi n : Nat) : Nat := linPow phiCols 32 (n % 2 ^ 32) (phiStart seedHi)

/-- A(a), the source vector (R227). -/
def sourceVector (seedLo a : Nat) : Nat := (a + seedLo % 2 ^ 31 + 1) * 0x9E3779B1 % 2 ^ 32

/-- The grain bit of source `a` in page `n` (R225). The seed is the 64-bit pair GRN_SEED. -/
def grain (seed a n : Nat) : Nat :=
  parityOf 32 (Nat.land (sourceVector (seed % 2 ^ 32) a) (phi (seed / 2 ^ 32) n))

end Sys2Proof
end

