-- ==== Sys2Proof/Machine/Units.lean ====
section
/-! DEFINITION. The units of DDR5, their stripes and channels, and the reads that are rebuilt from parity (R426 to R428, R434, R435).
Readings and choices: DEDUCED (log entry 38). -/

namespace Sys2Proof.Machine

def chUntrained : Nat := 0
def chOnline : Nat := 1
def chOffline : Nat := 2
def chDown : Nat := 3

/-- DDR_CHn_STAT.STATE. -/
def State.chState (s : State) (n : Nat) : Nat := s.fld R.DDR_CHn_STAT_STATE n

/-- Channel `n` is OFFLINE or DOWN: its units are rebuilt from the other channels (R434, R435). -/
def State.chGone (s : State) (n : Nat) : Bool := s.chState n == chOffline || s.chState n == chDown

/-- The unit of the DDR5 offset `x`: 64 bytes (R428). -/
def ddrUnit (x : Nat) : Nat := x / 64

/-- The units that `n` bytes from the DDR5 offset `x` cover. -/
def ddrUnits (x n : Nat) : List Nat := (List.range (ddrUnit (x + n - 1) + 1 - ddrUnit x)).map (fun k => ddrUnit x + k)

/-- The stripe of unit `u`, and its position within the stripe (R428). -/
def ddrStripe (u : Nat) : Nat := u / 7

@[inherit_doc ddrStripe]
def ddrPos (u : Nat) : Nat := u % 7

/-- The channel of the parity unit of stripe `st` (R428). -/
def parityChannel (st : Nat) : Nat := st % 8

/-- The channel of unit `u` (R428). -/
def unitChannel (u : Nat) : Nat := (ddrStripe u + 1 + ddrPos u) % 8

/-- The subchannel of the units of stripe `st` (R428). -/
def ddrSubchannel (st : Nat) : Nat := st % 2

/-- The unit that channel `n` holds at its local unit `st`: none where that is the parity unit (R428). -/
def channelUnit (n st : Nat) : Option Nat :=
  let k := (n + 7 - st % 8) % 8
  if k = 7 then none else some (7 * st + k)

/-- Unit `u` can be rebuilt from the other units of its stripe: no other channel is OFFLINE or DOWN (R426, R428, R434). -/
def State.rebuildable (s : State) (u : Nat) : Bool := (List.range 8).all (fun k => k == unitChannel u || !s.chGone k)

/-- Units are read: those of a channel that is OFFLINE or DOWN are rebuilt from parity, and counted (R434, R435, R438). -/
def State.readUnits (s : State) (us : List Nat) : State :=
  if (List.range 8).any s.chGone then s.addFld R.DDR_CNT_COUNT 1 (us.filter (fun u => s.chGone (unitChannel u))).length else s

/-- The units that hold the long path's word of position `q`, page `n`, in region 0, where it takes 36 bits (R430, R432). Its place there is not
stated (DESIGN CHOICE: log entry 38). -/
def State.longUnits (s : State) (q n : Nat) : List Nat :=
  ddrUnits (s.fld R.DDR_RGNk_BASE_BASE 0 * 2 ^ 20 - ddrBase + Config.longByte q n % (s.fld R.DDR_RGNk_SIZE_MB 0 * 2 ^ 20 - 5)) 5

end Sys2Proof.Machine
end

