-- ==== Sys2Proof/Machine/Fabric.lean ====
section
/-! DEFINITION. The sill's reads, the long path, the truss with its laminations and the kerf check, and the plate's writes (R164 to
R183); what the diagnostic window shows (R190, R191).
Readings and choices: DEDUCED (log entry 39). -/

namespace Sys2Proof.Machine

/-! ### The sill (R164 to R169) -/

/-- A page of lane `n`'s sill; a page that lists nothing holds AIS words (R29, R165). -/
def State.page (s : State) (n page : Nat) : SillPage := (s.sill.get n {}).get page {}

/-- The page of input port `p`: from the lane that carries it, the spare or lane `p` itself, from the page at which receive switched to it; before
that from the other of the two (R82, R83, R164). -/
def State.portPage (s : State) (p page : Nat) : SillPage :=
  let sp := 256 + p / 16
  let before := (s.lane sp).target == p && (s.lane sp).swFrom.any (fun f => !frameReached page f)
  s.page (if s.flag R.LN_FIT_STATUS_SUB p != before then sp else p) page

/-- The word of a source slot in a page, as lane receive left it (R166). -/
def State.sillWord (s : State) (src page : Nat) : Nat :=
  (s.portPage (portOfAddr src) page).words.get (slotOfAddr src) (aisWord 0 0)

/-- A member has joined its bent. -/
def Link.joined (l : Link) : Bool :=
  l.state == .active || l.state == .suspect || l.state == .held || l.state == .blocked

/-- A word of a joined member whose incoming SEQ does not match is replaced by an AIS word (R142). -/
def State.mismatches (s : State) (src w page : Nat) : Bool :=
  match s.links.find src with
  | none => false
  | some l => l.joined && checked w && l.relation page != some ((seqOf w + 4 - page % 4) % 4)

/-- The grain bit of a source in a page (R225). -/
def State.grainOf (s : State) (src page : Nat) : Nat := grain (s.fld R.GRN_SEED_SEED) src page

/-- The word of a source as the sill reads it out: GRN and SEQ of the page it is read as (R167). -/
def State.sillRead (s : State) (src page : Nat) : Nat :=
  let w := s.sillWord src page
  rewriteWord (if s.mismatches src w page then aisWord (grnOf w) (seqOf w) else w) (s.grainOf src page) (page % 4)

/-! ### Checking the bents' words (R141 to R143, R156) -/

/-- The checks of page `n` over every member, and the steps that they confirm, decided bent by bent (R154). -/
def State.checkBents (s : State) (n : Nat) : State :=
  let r := s.links.keys.foldl (fun (acc : State × List (Nat × Nat × Nat)) src =>
    let (t, old) := acc.1.checkMember src (s.sillWord src n) n
    (t, match old with
      | some k => acc.2 ++ [((s.link src).bent, src, k)]
      | none => acc.2)) (s, [])
  (sortNats (r.2.map (·.1))).foldl (fun t b =>
    let mine := r.2.filter (fun x => x.1 == b)
    t.decideSteps b n (mine.map (·.2.1)) (mine.map (·.2))) r.1

/-! ### The truss (R172 to R179) -/

/-- A word that the long path cannot present: parity-failed, its other bits not stated (R171; DESIGN CHOICE: log entry 8). -/
def State.lateWord (s : State) : Nat := forcePf (Config.open' s.free % 2 ^ 36)

/-- The bank of return port P(256 + r) for the sweep of frame `m`: one of three (R165, R171). -/
def returnBank (r m : Nat) : Nat := 3 * r + m % 3

/-- The word that an ingress entry sends in the sweep of frame `m` (R169, R172): PREV reads page m − 2; a return port ignores it. -/
def State.ingressWord (s : State) (p : Nat) (e : Ingress) (m : Nat) : Nat :=
  if p < 256 then s.sillRead (131072 * p + e.slot) (if e.prev then (m + 2 ^ 32 - 2) % 2 ^ 32 else (m + 2 ^ 32 - 1) % 2 ^ 32)
  else
    (s.retPages.get (returnBank (p - 256) m) {}).words.get e.slot s.lateWord

/-- The bits that faults invert in the word that crosses to an output port at a centre slot (R175): those of the nine laminations, and
those of the spare. -/
def flipsAt (l : List TrussFlip) (o c : Nat) : Nat × Nat :=
  l.foldl (fun x f => if f.out.val = o ∧ f.cslot.val = c then (Nat.xor x.1 f.mask.toNat, Nat.xor x.2 f.lams.toNat) else x) (0, 0)

/-- What leaves the truss of a word that enters it (R175, R176, R178): lamination k carries bits 4k + 3 to 4k; LAMS takes in those of the
lamination `lam` and, where `sub` says that it is in its place, gives them; and whether the two differ. -/
def throughTruss (lam : Nat) (sub : Bool) (flips : Nat × Nat) (w : Nat) : Nat × Bool :=
  let nine := Nat.xor w flips.1
  let spare := Nat.xor (bits w (4 * lam) 4) flips.2
  (if sub then putBits nine (4 * lam) 4 spare else nine, bits nine (4 * lam) 4 != spare)

/-- The words that a sweep delivers, by output port and centre slot, lowest input port first; how many conflicts there are, and how many
words came out of LAMS and of the lamination it is compared with different (R172, R174, R176). -/
structure Crossed where
  words : Tab (Tab Nat) := {}
  conflicts : Nat := 0
  diffs : Nat := 0
deriving DecidableEq, Repr

/-- One word crosses to output port `o` at centre slot `c`. -/
def Crossed.add (x : Crossed) (o c : Nat) (r : Nat × Bool) : Crossed :=
  let got := x.words.get o {}
  if (got.find c).isSome then { x with conflicts := x.conflicts + 1 }
  else { x with words := x.words.put o (got.put c r.1), diffs := x.diffs + b2n r.2 }

/-- The words that cross in the sweep of frame `m` under a schedule. -/
def State.crossing (s : State) (sc : Schedule) (m : Nat) (flips : List TrussFlip) : Crossed :=
  let lam := s.fld R.FAB_LAM_STAT_SHADOW_ACT
  let sub := s.flag R.FAB_LAM_STAT_SUB_ACT
  sc.ingress.entries.foldl (fun acc pe => pe.2.entries.foldl (fun (a : Crossed) ce =>
    a.add ce.2.out ce.1 (throughTruss lam sub (flipsAt flips ce.2.out ce.1) (s.ingressWord pe.1 ce.2 m))) acc) {}

/-- The plate page that a sweep leaves on an output port: each word at the address of its plate write entry (R183). -/
def plateAfter (old : Tab Nat) (writes : Tab Nat) (words : Tab Nat) : Tab Nat :=
  words.entries.foldl (fun t cw =>
    match writes.find cw.1 with
    | some a => t.store a 0 cw.2
    | none => t) old

/-! ### The long path (R170, R171) -/

/-- The tap entries in force, as positions and sources (R170). -/
def State.taps' (s : State) : List (Nat × Nat) :=
  s.tap.entries.flatMap (fun r => (r.2.entries.filter (fun e =>
    match e.2.clearAt with
    | some f => !frameReached s.frame f
    | none => true)).map (fun e => (131072 * r.1 + e.1, e.2.src)))

/-- The pegs of page `n` whose words the tap takes have the position they are taken at (R170, R454). -/
def State.tapPegs (s : State) (n : Nat) : State :=
  { s with pegs := { s.pegs with flight := s.pegs.flight.map (fun p =>
      if p.page = n then { p with tap := (s.taps'.find? (fun e => e.2 == p.src)).map (·.1 % 131072) } else p) } }

/-- LONG_PATH_TAP (R170): the designated words of page M − 1, rewritten, are copied into DDR5. Copies older than the longest deskew are
gone. -/
def execLongPathTap (s : State) : Out :=
  .next (
    let n := (s.frame + 2 ^ 32 - 1) % 2 ^ 32
    { s.tapPegs n with longMem := s.taps'.foldl (fun lm pq =>
        let old := (lm.get pq.1 {}).keep (fun k _ => decide ((n + 2 ^ 32 - k) % 2 ^ 32 < 2052))
        lm.put pq.1 (old.put n (s.sillRead pq.2 n))) s.longMem })

/-- The long members whose words return port P(256 + r) presents in the sweep of frame `m`. -/
def State.returning (s : State) (r m : Nat) : List Membership :=
  (s.schedAt (frameAdd m 1)).bents.entries.flatMap (fun e => e.2.members.filter (fun x =>
    decide (2 ≤ x.d) && (x.pos.map (· / 131072)) == some r))

/-- The word of long member `x` joins bank `k` for the sweep of frame `m`: the copy of its deskew; one not back in time, as `late` says of
its position or because there is no copy, is presented parity-failed and counted (R171). A page from before its copies began that falls within its
bent's pause is no first page of R137, and is not counted (DEDUCED: log entry 47). -/
def State.returnWord (s : State) (k m : Nat) (late : Nat → Bool) (x : Membership) : State :=
  let q := x.pos.getD 0
  let copy := (s.longMem.get q {}).find (pageFor (frameAdd m 1) x.d)
  let lost := late (q % 131072) || copy.isNone
  let p := s.retPages.get k {}
  let w := if lost then s.lateWord else copy.getD 0
  let s1 := { s with retPages := s.retPages.put k { p with words := p.words.put (q % 131072) w } }
  if late (q % 131072) || (copy.isNone && !s.pausedAt (s.link x.src).bent (frameAdd m 1)) then (s1.drawn.satFld R.FAB_LP_LATE_COUNT 0 1).latch R.FAB_EVT_LP_LATE
  else if lost then s1.drawn else s1

/-- The units of DDR5 that a return page of P(256 + r) for the sweep of frame `m` is filled from (R171). -/
def State.returnUnits (s : State) (r m : Nat) : List Nat :=
  ((s.returning r m).flatMap (fun x => s.longUnits (x.pos.getD 0) (pageFor (frameAdd m 1) x.d))).eraseDups

/-- A page of return port P(256 + r), for the sweep of frame `m`, is filled from DDR5, each position with the word of its deskew (R171); where a
channel is OFFLINE or DOWN its units are rebuilt (R434). -/
def State.fillReturn (s : State) (r m : Nat) (late : Nat → Bool) : State :=
  let s0 := s.readUnits (s.returnUnits r m)
  (s.returning r m).foldl (fun t x => t.returnWord (returnBank r m) m late x)
    { s0 with retPages := s.retPages.put (returnBank r m) { filled := true, bank := m % 3, fn := m } }

/-- The page of return port P(256 + r) for the sweep of frame `m` is filled. -/
def State.returnFilled (s : State) (r m : Nat) : Bool :=
  let p := s.retPages.get (returnBank r m) {}
  p.filled && p.fn == m

/-- LONG_PATH_RETURN (R171): the page of return port P(256 + r) for the sweep of the present frame is filled from DDR5. -/
def execLongPathReturn (r : Fin 24) (late : List (Fin 131072)) (s : State) : Out :=
  .next (s.fillReturn r.val s.frame (fun q => late.any (fun k => k.val == q)))

/-- Before a sweep, no word of a return page that is not filled has come back in time (R171). -/
def State.closeReturns (s : State) (m : Nat) : State :=
  (List.range 24).foldl (fun t r => if t.returnFilled r m then t else t.fillReturn r m (fun _ => true)) s

/-! ### The sweep and the kerf check (R172 to R183) -/

/-- CENTRE_SWEEP (R172 to R176, R183): page M − 1 crosses into the plates under the schedule of transmit frame M + 1; the bents' words
are checked first. A word whose output differs between the spare and the lamination it is compared with counts in FAB_LAM_MM. -/
def execCentreSweep (flips : List TrussFlip) (s : State) : Out :=
  .next (
    let m := s.frame
    let n := (m + 2 ^ 32 - 1) % 2 ^ 32
    let s1 := (s.closeReturns m).checkBents n
    let sc := s1.schedAt (frameAdd m 1)
    let x := s1.crossing sc m flips
    let plate := x.words.entries.foldl (fun pl ow =>
      let k := 2 * ow.1 + n % 2
      pl.put k (plateAfter (pl.get k {}) (sc.pwrite.get ow.1 {}) ow.2)) s1.plate
    let s2 := { s1 with plate := plate, cycle := 140584 }
    let s3 := (s2.satFld R.FAB_CONFLICT_COUNT 0 x.conflicts).latchIf (decide (0 < x.conflicts)) R.FAB_EVT_TRUSS_CONFLICT
    let s4 := s3.updSist (fun t =>
      { t with lamMm := (List.range (min x.diffs 3)).foldl (fun l _ => watch l s3.frame 8000) t.lamMm })
    (s4.satFld R.FAB_LAM_MM_COUNT 0 x.diffs).latchIf (decide (0 < x.diffs)) R.FAB_EVT_LAM_MISMATCH)

/-- The check word that input port `p` sends to output port `o` in the kerf of frame `m`, in one of the rounds from 280 on where `second`
says so (R181). -/
def kerfSent (m p o : Nat) (second : Bool) : Nat :=
  let payload := p * 2 ^ 23 + o * 2 ^ 15 + m % 2 ^ 15
  if second then slotWord (0xFFFFFFFF - payload) 1 (3 - m % 4) else slotWord payload 0 (m % 4)

/-- The round in which an arriving check word was sent (R181): i = (o − p) mod 280, or 280 more. -/
def kerfRound (g : KerfWord) : Nat := (g.out.val + 280 - g.inp.val) % 280 + 280 * b2n g.second

/-- The bits of an arriving check word that differ from the word expected in the kerf of frame `m`. -/
def kerfDiff (g : KerfWord) (m : Nat) : Nat := Nat.xor g.word.toNat (kerfSent m g.inp g.out g.second)

/-- The bits that LAMS gives differently, checked against those of the lamination `lam` that it carries or shadows (R182). -/
def kerfSpareDiff (g : KerfWord) (m lam : Nat) : Nat :=
  Nat.xor g.lams.toNat (bits (kerfSent m g.inp g.out g.second) (4 * lam) 4)

/-- A check word fails where a bit of it differs (R182). -/
def kerfBad (g : KerfWord) (m lam : Nat) : Bool := kerfDiff g m != 0 || kerfSpareDiff g m lam != 0

/-- The first failing check word: the lowest round, and of one round the lowest output port (R182; DEDUCED: log entry 39). -/
def firstKerf (fails : List KerfWord) : Option KerfWord :=
  fails.foldl (fun b g =>
    match b with
    | none => some g
    | some f => if kerfRound g < kerfRound f || (kerfRound g = kerfRound f && g.out < f.out) then some g else b) none

/-- The lamination masks of a failing check word: bits 8:0 from its differing bits, bit 9 for the spare (R182). -/
def kerfMask (g : KerfWord) (m lam : Nat) : Nat :=
  (List.range 9).foldl (fun x k => if bits (kerfDiff g m) (4 * k) 4 ≠ 0 then x + 2 ^ k else x) 0
    + (if kerfSpareDiff g m lam ≠ 0 then 512 else 0)

/-- A failing check word is counted: each differing bit against its lamination, those of the spare against counter 9 (R182). -/
def State.countKerf (s : State) (m lam : Nat) (g : KerfWord) : State :=
  ((List.range 9).foldl (fun u k => u.satFld R.FAB_LAM_ERR_COUNT k (popCount 4 (bits (kerfDiff g m) (4 * k) 4))) s).satFld
    R.FAB_LAM_ERR_COUNT 9 (popCount 4 (kerfSpareDiff g m lam))

/-- What the kerf check of the present frame records (R182, R462): the first failing word, its counts, and the laminations that failed. -/
def State.recordKerf (s : State) (fails : List KerfWord) : State :=
  let m := s.frame
  let lam := s.fld R.FAB_LAM_STAT_SHADOW_ACT
  match firstKerf fails with
  | none => s
  | some f =>
    let s1 := fails.foldl (fun t g => t.countKerf m lam g) s
    let s2 := ((s1.setFld R.FAB_KERF_FAIL_IN 0 f.inp.val).setFld R.FAB_KERF_FAIL_OUT 0 f.out.val).setFld
      R.FAB_KERF_FAIL_LAMMASK 0 (kerfMask f m lam)
    let s3 := (s2.setFlag R.FAB_KERF_FAIL_VALID 0 true).latch R.FAB_EVT_KERF_FAIL
    let lams := (List.range 10).filter (fun k => fails.any (fun g => (kerfMask g m lam).testBit k))
    s3.updSist (fun x => { x with lamErr := lams.foldl (fun t k => t.put k (watch (t.get k []) s.frame 8)) x.lamErr })

/-- KERF_CHECK (R181, R182): every check word that arrives is compared with the one expected; the failing ones are counted and the first is
recorded. At its end the substitution triggers are evaluated (R462). -/
def execKerfCheck (got : List KerfWord) (s : State) : Out :=
  .next (
    let s1 := { s with cycle := 140840 }
    (if s1.flag R.FAB_CFG_KERF_EN then
      s1.recordKerf (got.filter (fun g => kerfBad g s1.frame (s1.fld R.FAB_LAM_STAT_SHADOW_ACT)))
    else s1).evalLams)

/-- The spare begins to shadow lamination `k`: SHADOW becomes k and SHADOW_FRAMES restarts (R177, R462). -/
def State.shadowLam (s : State) (k : Nat) : State :=
  ((s.setFld R.FAB_LAM_CTRL_SHADOW 0 k).setStg R.FAB_LAM_CTRL_SHADOW 0 k).moveShadow k

/-- At the tick that follows the trigger of a lamination the spare shadows it and rotation ends (R462 step 1). A trigger that waits is evaluated once no
substitution runs (R467). -/
def State.tickLamSubst (s : State) : State :=
  match s.sist.lamPend, s.sist.lamRun, s.sist.lamWait with
  | none, none, k :: rest => (s.updSist (fun x => { x with lamWait := rest })).lamTrigger k (frameAdd s.frame 1)
  | none, _, _ => s
  | some k, _, _ =>
    if !frameReached s.frame s.sist.lamDue then s
    else ((s.shadowLam k).updSist (fun x => { x with lamPend := none, lamRun := some k })).endRotation

/-- LAMS takes the place of the lamination it shadows (R178, R459). -/
def State.lamsIn (s : State) : State :=
  ((s.setFlag R.FAB_LAM_STAT_SUB_ACT 0 true).setFld R.TLY_SPARES_LAM 0 0).latch R.FAB_EVT_LAM_SUB

/-- LAM_SUBST_SELECT (R462 step 2): at the tick at which SHADOW_FRAMES reaches 8, SUB becomes 1. -/
def execLamSubstSelect (s : State) : Out :=
  .next (
    match s.sist.lamRun with
    | none => s
    | some k =>
      if s.fld R.FAB_LAM_STAT_SHADOW_FRAMES < 8 then s
      else
        let s1 := (s.setFld R.FAB_LAM_CTRL_SUB 0 1).setStg R.FAB_LAM_CTRL_SUB 0 1
        (s1.lamsIn.updSist (fun x => { x with lamRun := none })).substDone classLam k 0)

/-- The shadow moves to the next lamination at every tick whose frame number is a multiple of 8,000 (R177), until LAMS is retired (R462); its
frames are counted. -/
def State.tickLam (s : State) : State :=
  if s.flag R.FAB_LAM_STAT_ROTATE_ACT && !s.sist.lamsGone && !s.flag R.FAB_LAM_STAT_SUB_ACT && s.frame % 8000 = 0 then
    s.moveShadow ((s.fld R.FAB_LAM_STAT_SHADOW_ACT + 1) % 9)
  else s.satFld R.FAB_LAM_STAT_SHADOW_FRAMES 0 1

/-! ### Released taps (R205, R206) -/

/-- TAP_CLEAR (R205, R206): at the tick that was decided for it, a released or withdrawn tap entry is cleared, and its position and
storage are free. -/
def execTapClear (s : State) : Out :=
  .next { s with tap := s.clearTaps }

/-! ### The diagnostic window (R190, R191) -/

/-- The ingress, plate write, plate read or tap entry that an offset of the window names, whole, as the entries stand in the kerf of the
present frame; `none` outside the populated addresses. -/
def State.diagEntry (s : State) (off : Nat) : Option Nat :=
  -- every ingress and plate write entry of an apply has been rewritten by the kerf of frame T − 2; a plate read entry by that of T − 1
  -- when its read lies before it
  let sc := s.schedAt (frameAdd s.frame 2)
  if off % 4 ≠ 0 then none
  else if off < 0x40000000 then
    let p := off / 0x200000
    let c := off % 0x200000 / 4
    if p < 280 ∧ c < 278528 then
      some (match (sc.ingress.get p {}).find c with
        | some e => e.slot + (b2n e.prev) * 2 ^ 17 + 2 ^ 18 + e.out * 2 ^ 19
        | none => 0)
    else none
  else if off < 0x80000000 then
    let o := (off - 0x40000000) / 0x200000
    let c := off % 0x200000 / 4
    if o < 256 ∧ c < 278528 then some ((sc.pwrite.get o {}).get c 0x3FFFF) else none
  else if off < 0x90000000 then
    let o := (off - 0x80000000) / 0x80000
    let x := off % 0x80000 / 4
    let w := x / 1024 * 1152 + 16 + x % 1024
    let early := decide (1290 + 9 * w / 8 ≤ 140560)
    let sr := s.schedAt (frameAdd s.frame (if early then 1 else 0))
    if o < 256 then some ((sr.pread.get o {}).get x 0x3FFFF) else none
  else
    let r := (off - 0x90000000) / 0x80000
    let q := off % 0x80000 / 4
    if r < 24 then
      some (match (s.tap.get r {}).find q with
        | some e => e.src + 2 ^ 31
        | none => 0)
    else none

end Sys2Proof.Machine
end

