-- ==== Sys2Proof/Machine/Crypto.lean ====
section
/-! DEFINITION. The cryptography that an image and an authorisation record rest on: SHA-384 (FIPS 180-4), ECDSA over P-384 (FIPS 186-5) and
AES-256-GCM (NIST SP 800-38D), which the manual names and does not restate (R353, R356 to R358, R478); and that of DDR5, XTS-AES-128 (IEEE 1619,
R427).
Readings and choices: PRESUMED (log entry 59). -/

namespace Sys2Proof

/-- `f n`, with `n` reduced to a numeral first: a long computation then runs step by step. -/
def forced {α : Type} (n : Nat) (f : Nat → α) : α :=
  match n with
  | 0 => f 0
  | k + 1 => f (k + 1)

@[simp] theorem forced_eq {α : Type} (n : Nat) (f : Nat → α) : forced n f = f n := by
  cases n <;> rfl

/-- `n` bytes of a number, big-endian. -/
def beBytes (n v : Nat) : List (BitVec 8) := (List.range n).map (fun k => BitVec.ofNat 8 (v / 256 ^ (n - 1 - k)))

/-! ### SHA-384 -/

/-- A 64-bit word rotated right. -/
def rotr64 (x n : Nat) : Nat := x / 2 ^ n + (x % 2 ^ n) * 2 ^ (64 - n)

/-- The round constants of SHA-384, the first in the highest place. -/
def shaK : Nat := 0x428a2f98d728ae227137449123ef65cdb5c0fbcfec4d3b2fe9b5dba58189dbbc3956c25bf348b53859f111f1b605d019923f82a4af194f9bab1c5ed5da6d8118d807aa98a303024212835b0145706fbe243185be4ee4b28c550c7dc3d5ffb4e272be5d74f27b896f80deb1fe3b1696b19bdc06a725c71235c19bf174cf692694e49b69c19ef14ad2efbe4786384f25e30fc19dc68b8cd5b5240ca1cc77ac9c652de92c6f592b02754a7484aa6ea6e4835cb0a9dcbd41fbd476f988da831153b5983e5152ee66dfaba831c66d2db43210b00327c898fb213fbf597fc7beef0ee4c6e00bf33da88fc2d5a79147930aa72506ca6351e003826f142929670a0e6e7027b70a8546d22ffc2e1b21385c26c9264d2c6dfc5ac42aed53380d139d95b3df650a73548baf63de766a0abb3c77b2a881c2c92e47edaee692722c851482353ba2bfe8a14cf10364a81a664bbc423001c24b8b70d0f89791c76c51a30654be30d192e819d6ef5218d69906245565a910f40e35855771202a106aa07032bbd1b819a4c116b8d2d0c81e376c085141ab532748774cdf8eeb9934b0bcb5e19b48a8391c0cb3c5c95a634ed8aa4ae3418acb5b9cca4f7763e373682e6ff3d6b2b8a3748f82ee5defb2fc78a5636f43172f6084c87814a1f0ab728cc702081a6439ec90befffa23631e28a4506cebde82bde9bef9a3f7b2c67915c67178f2e372532bca273eceea26619cd186b8c721c0c207eada7dd6cde0eb1ef57d4f7fee6ed17806f067aa72176fba0a637dc5a2c898a6113f9804bef90dae1b710b35131c471b28db77f523047d8432caab7b40c724933c9ebe0a15c9bebc431d67c49c100d4c4cc5d4becb3e42b6597f299cfc657e2a5fcb6fab3ad6faec6c44198c4a475817

/-- The eight words of the hash value before a message. -/
def shaInit : List Nat :=
  [0xcbbb9d5dc1059ed8, 0x629a292a367cd507, 0x9159015a3070dd17, 0x152fecd8f70e5939,
   0x67332667ffc00b31, 0x8eb44a8768581511, 0xdb0c2e0d64f98fa7, 0x47b5481dbefa4fa4]

/-- The last sixteen words of the message schedule, the newest first, extended by `n` words. -/
def shaSchedule : Nat → List Nat → List Nat
  | 0, w => w
  | n + 1, w =>
    let x := w.getD 1 0
    let y := w.getD 14 0
    let s1 := Nat.xor (Nat.xor (rotr64 x 19) (rotr64 x 61)) (x / 64)
    let s0 := Nat.xor (Nat.xor (rotr64 y 1) (rotr64 y 8)) (y / 128)
    forced ((s1 + w.getD 6 0 + s0 + w.getD 15 0) % 2 ^ 64) (fun z => shaSchedule n (z :: w))

/-- The rounds of a block: the words of the schedule that remain, the number of the round, and the eight working variables. -/
def shaRounds : List Nat → Nat → Nat → Nat → Nat → Nat → Nat → Nat → Nat → Nat → List Nat
  | [], _, a, b, c, d, e, f, g, h => [a, b, c, d, e, f, g, h]
  | w :: ws, t, a, b, c, d, e, f, g, h =>
    let k := shaK / 2 ^ (64 * (79 - t)) % 2 ^ 64
    let ch := Nat.xor (Nat.land e f) (Nat.land (2 ^ 64 - 1 - e) g)
    let maj := Nat.xor (Nat.xor (Nat.land a b) (Nat.land a c)) (Nat.land b c)
    forced (h + Nat.xor (Nat.xor (rotr64 e 14) (rotr64 e 18)) (rotr64 e 41) + ch + k + w) (fun t1 =>
      forced ((t1 + Nat.xor (Nat.xor (rotr64 a 28) (rotr64 a 34)) (rotr64 a 39) + maj) % 2 ^ 64) (fun a' =>
        forced ((d + t1) % 2 ^ 64) (fun e' => forced (t + 1) (fun t' => shaRounds ws t' a' a b c e' e f g))))

/-- The hash value after a block of sixteen words. -/
def shaBlock (hs w : List Nat) : List Nat :=
  let ws := (shaSchedule 64 w.reverse).reverse
  match hs with
  | [a, b, c, d, e, f, g, h] =>
    List.zipWith (fun x y => forced ((x + y) % 2 ^ 64) id) hs (shaRounds ws 0 a b c d e f g h)
  | _ => hs

/-- The blocks of a padded message of `n` blocks. -/
def shaBlocks : Nat → List (BitVec 8) → List Nat → List Nat
  | 0, _, hs => hs
  | n + 1, m, hs =>
    shaBlocks n (m.drop 128) (shaBlock hs ((List.range 16).map (fun i => forced (ofBeBytes ((m.drop (8 * i)).take 8)) id)))

/-- The padding of a message of `n` bytes. -/
def shaPad (n : Nat) : List (BitVec 8) := 0x80 :: List.replicate ((239 - n % 128) % 128) 0 ++ beBytes 16 (8 * n)

/-- SHA-384 of a message, as a number (FIPS 180-4). -/
def sha384 (m : List (BitVec 8)) : Nat :=
  let p := m ++ shaPad m.length
  ((shaBlocks (p.length / 128) p shaInit).take 6).foldl (fun a x => a * 2 ^ 64 + x) 0

/-! ### ECDSA over P-384 -/

/-- The prime of the field of P-384. -/
def ecP : Nat := 0xfffffffffffffffffffffffffffffffffffffffffffffffffffffffffffffffeffffffff0000000000000000ffffffff

/-- The order of the base point of P-384. -/
def ecN : Nat := 0xffffffffffffffffffffffffffffffffffffffffffffffffc7634d81f4372ddf581a0db248b0a77aecec196accc52973

/-- The coefficient b of P-384; a is −3. -/
def ecB : Nat := 0xb3312fa7e23ee7e4988e056be3f82d19181d9c6efe8141120314088f5013875ac656398d8a2ed19d2a85c8edd3ec2aef

/-- The base point of P-384. -/
def ecGx : Nat := 0xaa87ca22be8b05378eb1c71ef320ad746e1d3b628ba79b9859f741e082542a385502f25dbf55296c3a545e3872760ab7
def ecGy : Nat := 0x3617de4a96262c6f5d9e98bf9292dc29f8f41dbd289a147ce9da3113b5f0b8c00a60b1ce1d7e819d7a431d7c90ea0e5f

/-- A point (X/Z², Y/Z³) of the curve; Z = 0 is the point at infinity. -/
structure EcPoint where
  x : Nat
  y : Nat
  z : Nat
deriving DecidableEq, Repr

/-- The point at infinity. -/
def EcPoint.zero : EcPoint := ⟨1, 1, 0⟩

/-- A point whose coordinates are reduced to numerals. -/
def EcPoint.forced (x y z : Nat) : EcPoint := Sys2Proof.forced x (fun x' => Sys2Proof.forced y (fun y' => Sys2Proof.forced z (fun z' => ⟨x', y', z'⟩)))

/-- Twice a point, a being −3. -/
def EcPoint.double (a : EcPoint) : EcPoint :=
  let yy := a.y * a.y % ecP
  let zz := a.z * a.z % ecP
  let s := 4 * a.x * yy % ecP
  let m := 3 * (a.x + ecP - zz) * (a.x + zz) % ecP
  Sys2Proof.forced yy (fun yy => Sys2Proof.forced s (fun s => Sys2Proof.forced m (fun m =>
    Sys2Proof.forced ((m * m + 2 * (ecP - s)) % ecP) (fun x =>
      .forced x ((m * (s + ecP - x) + (ecP - 8 * yy * yy % ecP)) % ecP) (2 * a.y * a.z % ecP)))))

/-- The sum of two points. -/
def EcPoint.add (a b : EcPoint) : EcPoint :=
  if a.z = 0 then b
  else if b.z = 0 then a
  else
    Sys2Proof.forced (a.z * a.z % ecP) (fun za => Sys2Proof.forced (b.z * b.z % ecP) (fun zb =>
    Sys2Proof.forced (a.x * zb % ecP) (fun u1 => Sys2Proof.forced (b.x * za % ecP) (fun u2 =>
    Sys2Proof.forced (a.y * zb * b.z % ecP) (fun s1 => Sys2Proof.forced (b.y * za * a.z % ecP) (fun s2 =>
      if u1 = u2 then (if s1 = s2 then a.double else .zero)
      else
        Sys2Proof.forced ((u2 + ecP - u1) % ecP) (fun h => Sys2Proof.forced ((s2 + ecP - s1) % ecP) (fun r =>
        Sys2Proof.forced (h * h % ecP) (fun hh => Sys2Proof.forced (hh * h % ecP) (fun h3 => Sys2Proof.forced (u1 * hh % ecP) (fun v =>
        Sys2Proof.forced ((r * r + (ecP - h3) + 2 * (ecP - v)) % ecP) (fun x =>
          .forced x ((r * (v + ecP - x) + (ecP - s1 * h3 % ecP)) % ecP) (h * a.z * b.z % ecP)))))))))))))

/-- Bits `n` − 1 to 0 of two multipliers, from the highest: 2 ^ n times the point so far, plus u · P + v · Q; `pq` is P + Q. -/
def ecLadder (u v : Nat) (p q pq : EcPoint) : Nat → EcPoint → EcPoint
  | 0, acc => acc
  | n + 1, acc =>
    let d := acc.double
    let a := u.testBit n
    let b := v.testBit n
    ecLadder u v p q pq n (if a && b then d.add pq else if a then d.add p else if b then d.add q else d)

/-- A power modulo `m`, of an exponent below 2 ^ n. -/
def powMod (m e : Nat) : Nat → Nat → Nat → Nat
  | 0, _, acc => acc
  | n + 1, x, acc => forced (acc * acc % m) (fun a => if e.testBit n then forced (a * x % m) (powMod m e n x) else powMod m e n x a)

/-- The point with coordinates `x` and `y` lies on P-384. -/
def onCurve (x y : Nat) : Bool :=
  decide (x < ecP) && decide (y < ecP) && y * y % ecP == (x * x * x + (ecP - 3) * x + ecB) % ecP

/-- An ECDSA signature (`r`, `s`) of a message with the digest `z` is valid under the public key (`x`, `y`) (FIPS 186-5). -/
def ecdsaValid (x y r s z : Nat) : Bool :=
  if !onCurve x y || r == 0 || s == 0 || decide (ecN ≤ r) || decide (ecN ≤ s) then false
  else
    forced (powMod ecN (ecN - 2) 384 s 1) (fun w =>
    forced (z * w % ecN) (fun u => forced (r * w % ecN) (fun v =>
      let g : EcPoint := ⟨ecGx, ecGy, 1⟩
      let q : EcPoint := ⟨x, y, 1⟩
      let t := ecLadder u v g q (g.add q) 384 .zero
      forced (t.z * t.z % ecP) (fun zz =>
        t.z != 0 && (t.x == r * zz % ecP || (decide (r + ecN < ecP) && t.x == (r + ecN) * zz % ecP))))))

/-! ### AES-128 and AES-256 -/

/-- The product of `a` and `b` in GF(2^8), from bit `n` − 1 of `b`, with the modulus of AES. -/
def mul8 (a b : Nat) : Nat → Nat → Nat
  | 0, acc => acc
  | n + 1, acc =>
    let d := 2 * acc
    let r := if 256 ≤ d then Nat.xor d 0x11b else d
    forced (if b.testBit n then Nat.xor r a else r) (mul8 a b n)

/-- The S-box of AES, entry 0 in the lowest place. -/
def aesSbox : Nat := 0x16bb54b00f2d99416842e6bf0d89a18cdf2855cee9871e9b948ed9691198f8e19e1dc186b95735610ef6034866b53e708a8bbd4b1f74dde8c6b4a61c2e2578ba08ae7a65eaf4566ca94ed58d6d37c8e779e4959162acd3c25c2406490a3a32e0db0b5ede14b8ee4688902a22dc4f816073195d643d7ea7c41744975fec130ccdd2f3ff1021dab6bcf5389d928f40a351a89f3c507f02f94585334d43fbaaefd0cf584c4a39becb6a5bb1fc20ed00d153842fe329b3d63b52a05a6e1b1a2c830975b227ebe28012079a059618c323c7041531d871f1e5a534ccf73f362693fdb7c072a49cafa2d4adf04759fa7dc982ca76abd7fe2b670130c56f6bf27b777c63

/-- A byte through the S-box. -/
def subByte (x : Nat) : Nat := aesSbox / 256 ^ x % 256

/-- The key schedule of AES with a key of `nk` words: words from the newest to the oldest, `n` more to come, from word `i`. -/
def aesKeys (nk : Nat) : Nat → Nat → Nat → List Nat → List Nat
  | 0, _, _, w => w
  | n + 1, i, rcon, w =>
    let p := w.headD 0
    let sub := fun (x : Nat) => (List.range 4).foldl (fun a k => a + subByte (x / 256 ^ k % 256) * 256 ^ k) 0
    let t := if i % nk = 0 then Nat.xor (sub (p * 256 % 2 ^ 32 + p / 2 ^ 24)) (rcon * 2 ^ 24) else if nk = 8 ∧ i % 8 = 4 then sub p else p
    forced (Nat.xor (w.getD (nk - 1) 0) t) (fun x =>
      aesKeys nk n (i + 1) (if i % nk = 0 then (if 128 ≤ rcon then Nat.xor (2 * rcon) 0x11b else 2 * rcon) else rcon) (x :: w))

/-- The sixteen bytes of the round keys, round by round, of a key of `nk` words, the first in its highest bits. -/
def aesRoundKeys (nk key : Nat) : List (List Nat) :=
  let w := (aesKeys nk (3 * nk + 28) nk 1 ((List.range nk).map (fun i => forced (key / 2 ^ (32 * i) % 2 ^ 32) id))).reverse
  (List.range (nk + 7)).map (fun r => (List.range 16).map (fun k => forced (w.getD (4 * r + k / 4) 0 / 256 ^ (3 - k % 4) % 256) id))

/-- A column after MixColumns. -/
def mixColumn : List Nat → List Nat
  | [a, b, c, d] =>
    let x2 := fun (v : Nat) => mul8 v 2 2 0
    let x3 := fun (v : Nat) => mul8 v 3 2 0
    [Nat.xor (Nat.xor (x2 a) (x3 b)) (Nat.xor c d), Nat.xor (Nat.xor a (x2 b)) (Nat.xor (x3 c) d),
     Nat.xor (Nat.xor a b) (Nat.xor (x2 c) (x3 d)), Nat.xor (Nat.xor (x3 a) b) (Nat.xor c (x2 d))]
  | l => l

/-- A state after SubBytes and ShiftRows: byte 4 c + r is row r of column c. -/
def subShift (st : List Nat) : List Nat :=
  (List.range 16).map (fun k => forced (subByte (st.getD ((k + 4 * (k % 4)) % 16) 0)) id)

/-- Two lists of bytes, XORed. -/
def xorBytes (a b : List Nat) : List Nat := List.zipWith (fun x y => forced (Nat.xor x y) id) a b

/-- The rounds after the first key: each but the last mixes the columns. -/
def aesRounds : List (List Nat) → List Nat → List Nat
  | [], st => st
  | [k], st => xorBytes (subShift st) k
  | k :: ks, st =>
    let t := subShift st
    aesRounds ks (xorBytes ((List.range 4).flatMap (fun c => mixColumn ((t.drop (4 * c)).take 4))) k)

/-- AES of a block under round keys. -/
def aesBlock (ks : List (List Nat)) (b : List Nat) : List Nat := aesRounds (ks.drop 1) (xorBytes b (ks.headD []))

/-! ### XTS-AES-128 -/

/-- A number as sixteen little-endian bytes. -/
def leBlock (v : Nat) : List Nat := (List.range 16).map (fun k => forced (v / 256 ^ k % 256) id)

/-- The number that little-endian bytes hold. -/
def ofLeBlock (l : List Nat) : Nat := l.foldr (fun b a => b + 256 * a) 0

/-- The tweak of the next block: times α in GF(2^128) (IEEE 1619). -/
def xtsNext (t : Nat) : Nat := if t.testBit 127 then Nat.xor (2 * t % 2 ^ 128) 0x87 else 2 * t

/-- `n` blocks of a data unit encrypted under the round keys of the first key, from tweak `t`. -/
def xtsBlocks (ks : List (List Nat)) : Nat → Nat → Nat → Nat
  | 0, _, _ => 0
  | n + 1, t, v =>
    forced (ofLeBlock (xorBytes (aesBlock ks (xorBytes (leBlock v) (leBlock t))) (leBlock t))) (fun c =>
      forced (xtsNext t) (fun t' => c + 2 ^ 128 * xtsBlocks ks n t' (v / 2 ^ 128)))

/-- XTS-AES-128 of a data unit of 64 bytes, little-endian, with tweak `u` (IEEE 1619). -/
def xts64 (k1 k2 : BitVec 128) (u v : Nat) : BitVec 512 :=
  BitVec.ofNat 512 (xtsBlocks (aesRoundKeys 4 k1.toNat) 4 (ofLeBlock (aesBlock (aesRoundKeys 4 k2.toNat) (leBlock u))) v)

/-! ### AES-256-GCM -/

/-- The product in GF(2^128) of GHASH: bit 127 of a block is its first. -/
def mul128 (x y : Nat) : Nat → Nat → Nat → Nat
  | 0, _, z => z
  | n + 1, v, z =>
    forced (if x.testBit n then Nat.xor z v else z) (fun z' =>
      forced (if v % 2 = 1 then Nat.xor (v / 2) (0xE1 * 2 ^ 120) else v / 2) (fun v' => mul128 x y n v' z'))

/-- GHASH over blocks. -/
def ghash (h : Nat) : List Nat → Nat → Nat
  | [], y => y
  | b :: t, y => forced (mul128 (Nat.xor y b) h 128 h 0) (ghash h t)

/-- A string of bytes as blocks of 128 bits, the last padded with zeros: `n` of them. -/
def blocks128 : Nat → List (BitVec 8) → List Nat
  | 0, _ => []
  | n + 1, l => forced (ofBeBytes (l.take 16) * 256 ^ (16 - min 16 l.length)) id :: blocks128 n (l.drop 16)

/-- The blocks of a string of bytes. -/
def toBlocks (l : List (BitVec 8)) : List Nat := blocks128 ((l.length + 15) / 16) l

/-- A block as sixteen bytes. -/
def blockBytes (v : Nat) : List Nat := (List.range 16).map (fun k => forced (v / 256 ^ (15 - k) % 256) id)

/-- The key stream of GCM from counter `c` under a nonce of 96 bits, XORed to the bytes: `n` blocks. -/
def gcmStream (ks : List (List Nat)) (nonce : Nat) : Nat → Nat → List (BitVec 8) → List (BitVec 8)
  | 0, _, _ => []
  | n + 1, c, l =>
    List.zipWith (fun x k => BitVec.ofNat 8 (forced (Nat.xor x.toNat k) id)) (l.take 16) (aesBlock ks (blockBytes (nonce * 2 ^ 32 + c)))
      ++ gcmStream ks nonce n (c + 1) (l.drop 16)

/-- AES-256-GCM decryption (NIST SP 800-38D) under a key and a nonce of 96 bits: the plaintext, and the tag that the ciphertext and the
additional data have. -/
def gcmOpen (key nonce : Nat) (aad ct : List (BitVec 8)) : List (BitVec 8) × Nat :=
  let ks := aesRoundKeys 8 key
  let h := ofBeBytes ((aesBlock ks (List.replicate 16 0)).map (BitVec.ofNat 8))
  let y := ghash h (toBlocks aad ++ toBlocks ct ++ [8 * aad.length * 2 ^ 64 + 8 * ct.length]) 0
  let e := ofBeBytes ((aesBlock ks (blockBytes (nonce * 2 ^ 32 + 1))).map (BitVec.ofNat 8))
  (gcmStream ks nonce ((ct.length + 15) / 16) 2 ct, Nat.xor y e)

end Sys2Proof
end

