-- ==== Sys2Proof/Machine/Image.lean ====
section
/-! DEFINITION. The Quopen image: its header, section table, sections and signature block (R349 to R357), the checks of a slot (R358,
R359), the edits of its base map (R354), and the halt of raising (R340).
Readings and choices: DESIGN CHOICE (log entry 20), DEDUCED (log entry 23), PRESUMED (log entry 59). -/

namespace Sys2Proof

/-! ### Failure codes (R358, IMG_RAISE.FAIL) -/

def imgNoFlash : Nat := 0x01
def imgMagic : Nat := 0x02
def imgHeader : Nat := 0x03
def imgLength : Nat := 0x04
def imgKey : Nat := 0x05
def imgSignature : Nat := 0x06
def imgSvn : Nat := 0x07
def imgDecrypt : Nat := 0x08
def imgSection : Nat := 0x09
def imgFirmware : Nat := 0x0A
def imgCfg : Nat := 0x0B
def imgCommit : Nat := 0x0C
def imgBasemap : Nat := 0x0D
def imgDdr : Nat := 0x0E
def imgLifecycle : Nat := 0x0F
def imgFlashRead : Nat := 0x10
def imgMemory : Nat := 0x11
def imgTamper : Nat := 0x12

/-- IMG_RAISE_DETAIL.SECTION where no section is named. -/
def noSection : Nat := 0xFFFF

/-! ### Bytes and the header (R349) -/

/-- The little-endian number in `n` bytes from `a`; bytes beyond the last are 0. -/
def leAt (l : List (BitVec 8)) (a n : Nat) : Nat := ofLeBytes ((l.drop a).take n)

/-- Every byte from `a` to below `b` is 0. -/
def zeroIn (l : List (BitVec 8)) (a b : Nat) : Bool := ((l.drop a).take (b - a)).all (fun x => x == 0)

/-- The `n` bytes from `a`. -/
def slice (l : List (BitVec 8)) (a n : Nat) : List (BitVec 8) := (l.drop a).take n

def SlotImage.length (g : SlotImage) : Nat := leAt g.bytes 8 4
def SlotImage.count (g : SlotImage) : Nat := leAt g.bytes 16 2
def SlotImage.flags (g : SlotImage) : Nat := leAt g.bytes 18 2
def SlotImage.enc (g : SlotImage) : Bool := (leAt g.bytes 18 2).testBit 0
def SlotImage.version (g : SlotImage) : Nat := leAt g.bytes 24 4
def SlotImage.svn (g : SlotImage) : Nat := leAt g.bytes 28 1
def SlotImage.keySlot (g : SlotImage) : Nat := leAt g.bytes 29 1
def SlotImage.sigOff (g : SlotImage) : Nat := leAt g.bytes 32 4

/-- The header breaks R349 otherwise than in MAGIC, in a length or in the section count. -/
def SlotImage.badHeader (g : SlotImage) : Bool :=
  leAt g.bytes 4 2 != 1 || leAt g.bytes 6 2 != 64 || leAt g.bytes 12 4 != 64 || leAt g.bytes 20 4 != 0x3236
    || decide (1 < g.flags) || leAt g.bytes 30 2 != 0

/-- A lengths check against a slot that holds `room` bytes (R346, R349). -/
def SlotImage.badLength (g : SlotImage) (room : Nat) : Bool :=
  g.length % 16 != 0 || decide (268435456 < g.length) || decide (room < g.length) || g.sigOff + 256 != g.length

/-! ### Sections (R350, R351) -/

/-- An entry of the section table (R350). -/
structure Section where
  typ : Nat
  flags : Nat
  off : Nat
  len : Nat
  res : Nat
  tag : Nat
deriving DecidableEq, Repr

/-- Entry `i` of the section table. -/
def SlotImage.entry (g : SlotImage) (i : Nat) : Section :=
  let a := 64 + 32 * i
  { typ := leAt g.bytes a 2, flags := leAt g.bytes (a + 2) 2, off := leAt g.bytes (a + 4) 4, len := leAt g.bytes (a + 8) 4
    res := leAt g.bytes (a + 12) 4, tag := leAt g.bytes (a + 16) 16 }

/-- The entries of the section table, by index. -/
def SlotImage.sections (g : SlotImage) : List Section := (List.range g.count).map g.entry

/-- A section is encrypted. -/
def Section.enc (e : Section) : Bool := e.flags.testBit 0

/-- The sections of a type, by index. -/
def SlotImage.ofType (g : SlotImage) (t : Nat) : List Nat := (List.range g.count).filter (fun i => (g.entry i).typ == t)

/-- The stored bytes of section `i`. -/
def SlotImage.stored (g : SlotImage) (i : Nat) : List (BitVec 8) := slice g.bytes (g.entry i).off (g.entry i).len

/-- The tag of section `i`'s table entry, big-endian. -/
def SlotImage.tag (g : SlotImage) (i : Nat) : Nat := ofBeBytes (slice g.bytes (64 + 32 * i + 16) 16)

/-- NONCE_BASE with `k` XORed into its bytes 8 to 11, a little-endian word, as a big-endian number (R357). -/
def SlotImage.nonce (g : SlotImage) (k : Nat) : Nat :=
  ofBeBytes (slice g.bytes 36 8 ++ leBytes 4 (Nat.xor (leAt g.bytes 44 4) k))

/-- The content key, and the tag that the WRAP section has, under the fused image key (R357). -/
def SlotImage.unwrap (g : SlotImage) : List (BitVec 8) × Nat :=
  gcmOpen g.key (g.nonce 0) (g.bytes.take 64) (g.stored ((g.ofType 1).headD 0))

/-- The plaintext of encrypted section `i`, and the tag that it has, under the content key (R357). -/
def SlotImage.opened (g : SlotImage) (i : Nat) : List (BitVec 8) × Nat :=
  gcmOpen (ofBeBytes (g.unwrap.1.take 32)) (g.nonce (i + 1)) (slice g.bytes (64 + 32 * i) 16 ++ List.replicate 16 0) (g.stored i)

/-- The section of an encrypted image whose tag is the first not to be right, the WRAP section before the others (R357, R358). -/
def SlotImage.badTag (g : SlotImage) : Option Nat :=
  if !g.enc then none
  else
    let w := (g.ofType 1).headD 0
    if g.unwrap.2 != g.tag w then some w
    else (List.range g.count).find? (fun i => (g.entry i).enc && (g.opened i).2 != g.tag i)

/-- The plaintext of section `i`. -/
def SlotImage.content (g : SlotImage) (i : Nat) : List (BitVec 8) := if (g.entry i).enc then (g.opened i).1 else g.stored i

/-- Section types below 0x8000 that R351 lists. -/
def listedType (t : Nat) : Bool := t == 1 || t == 0x10 || (decide (0x20 ≤ t) && decide (t ≤ 0x28)) || t == 0x30 || t == 0x31

/-- The reserved bytes within a section are not all 0 (R353 to R355). -/
def SlotImage.badReserved (g : SlotImage) (i : Nat) : Bool :=
  let c := g.content i
  let t := (g.entry i).typ
  if t = 0x10 then
    let b := 16 + leAt c 12 4
    !(zeroIn c 10 12 && zeroIn c (b + 6) (b + 8) && zeroIn c (b + 200) (b + 256))
  else if t = 0x30 then !zeroIn c 8 16
  else if t = 0x31 then !(zeroIn c 1 4 && zeroIn c 12 16)
  else false

/-- Two sections overlap. -/
def overlap (a b : Section) : Bool := decide (a.off < b.off + b.len) && decide (b.off < a.off + a.len)

/-- Section `i` is a scene of a number that an earlier scene has, one of the two, or neither, being encrypted (R351). -/
def SlotImage.sameScene (g : SlotImage) (i : Nat) (hidden : Bool) : Bool :=
  (g.entry i).typ == 0x31 && (List.range i).any (fun j => (g.entry j).typ == 0x31
    && ((g.entry i).enc || (g.entry j).enc) == hidden && leAt (g.content j) 0 1 == leAt (g.content i) 0 1)

/-- Section `i` is one too many: of a type that an earlier section has, or a scene of a number that one has in the clear (R351). -/
def SlotImage.repeated (g : SlotImage) (i : Nat) : Bool :=
  let t := (g.entry i).typ
  (t != 0x31 && (List.range i).any (fun j => (g.entry j).typ == t && decide (t < 0x8000))) || g.sameScene i false

/-- Section `i` breaks the layout (R350, R351). -/
def SlotImage.badSection (g : SlotImage) (i : Nat) : Bool :=
  let e := g.entry i
  let tableEnd := (64 + 32 * g.count + 15) / 16 * 16
  decide (1 < e.flags) || e.off % 16 != 0 || e.res != 0 || (!e.enc && e.typ != 1 && e.tag != 0)
    || decide (e.off < tableEnd) || decide (g.sigOff < e.off + e.len)
    || (decide (e.typ < 0x8000) && !listedType e.typ) || (e.enc && (e.typ == 1 || !g.enc)) || (e.typ == 1 && !g.enc)
    || (List.range i).any (fun j => overlap (g.entry j) e) || g.repeated i
    || (!e.enc && g.badReserved i)

/-- The section that breaks the layout as stored, if any: the first, or none named where the count or a missing section breaks it, or a
reserved byte of the signature block (R349 to R351, R356). -/
def SlotImage.layoutFault (g : SlotImage) : Option Nat :=
  if g.count = 0 ∨ 1024 < g.count then some noSection
  else match (List.range g.count).find? g.badSection with
    | some i => some i
    | none =>
      if (g.ofType 0x10).isEmpty || (g.ofType 0x30).isEmpty || (g.enc && (g.ofType 1).isEmpty) then some noSection
      else if !(zeroIn g.bytes (g.sigOff + 6) (g.sigOff + 8) && zeroIn g.bytes (g.sigOff + 200) (g.sigOff + 256)) then some noSection
      else none

/-- The first section whose plaintext, once decrypted, breaks the layout: a reserved byte, or a scene number given twice (R351, R353 to
R355). -/
def SlotImage.plainFault (g : SlotImage) : Option Nat :=
  (List.range g.count).find? (fun i => ((g.entry i).enc && g.badReserved i) || g.sameScene i true)

/-- The index of the joiner firmware's section. -/
def SlotImage.fwIndex (g : SlotImage) : Nat := (g.ofType 0x10).headD 0

/-- The joiner firmware's section (R353). -/
def SlotImage.fw (g : SlotImage) : List (BitVec 8) := g.content g.fwIndex

def SlotImage.fwVersion (g : SlotImage) : Nat := leAt g.fw 4 4
def SlotImage.fwSvn (g : SlotImage) : Nat := leAt g.fw 8 1
def SlotImage.fwAbi (g : SlotImage) : Nat := leAt g.fw 9 1

/-- The joiners' code. -/
def SlotImage.code (g : SlotImage) : List (BitVec 8) := (g.fw.drop 16).take (leAt g.fw 12 4)

/-- The SHA-384 of the PUBKEY of the signature block at `b` (R356). -/
def blockDigest (l : List (BitVec 8)) (b : Nat) : BitVec 384 := BitVec.ofNat 384 (sha384 (slice l (b + 8) 96))

/-- The signature of the block at `b` is valid for everything up to its PUBKEY, that included (R353, R356). -/
def blockSigned (l : List (BitVec 8)) (b : Nat) : Bool :=
  let n := fun (k : Nat) => ofBeBytes (slice l (b + k) 48)
  ecdsaValid (n 8) (n 56) (n 104) (n 152) (sha384 (l.take (b + 104)))

/-- The records of a configuration section: offset and value. -/
def cfgRecords (l : List (BitVec 8)) : List (Nat × Nat) := (List.range (l.length / 8)).map (fun i => (leAt l (8 * i) 4, leAt l (8 * i + 4) 4))

/-- The value that the image's records give a register, with what the section of type `t` holds; `none` where it names none (R430). -/
def SlotImage.record (g : SlotImage) (t off : Nat) : Option Nat :=
  (((g.ofType t).flatMap (fun i => cfgRecords (g.content i))).filter (fun r => r.1 == off)).getLast?.map (·.2)

/-! ### The base map (R354) -/

/-- Run record `i` of a BASEMAP section: its edit record and RUN. -/
def runRecord (c : List (BitVec 8)) (i : Nat) : Machine.EditRec × Nat :=
  let a := 16 + 20 * i
  (Machine.decodeRec (leAt c a 4) (leAt c (a + 4) 4) (leAt c (a + 8) 4) (leAt c (a + 12) 4), leAt c (a + 16) 4)

/-- A slot address's slot field, advanced by RUN − 1, stays within a frame. -/
def runFits (a run : Nat) : Bool := decide (a % 131072 + run ≤ 131072)

/-- A run record that the loader refuses (R354): CONNECT, MERGE or BENT_ADD only, no slot field past 131,071, RUN from 1 to 131,072. -/
def badRun (x : Machine.EditRec × Nat) : Bool :=
  let r := x.1
  let n := x.2
  n == 0 || decide (131072 < n) ||
    (if r.op = 1 then !(runFits r.out n && runFits r.src n)
     else if r.op = 2 then !(runFits r.out n && runFits r.src n && runFits r.psrc n)
     else if r.op = 4 then !runFits r.src n
     else true)

/-- The edits of a run record: OUT + k, SRC + k and, for MERGE, PSRC + k; for BENT_ADD only SRC advances (R354). -/
def expandRun (x : Machine.EditRec × Nat) : List Machine.EditRec :=
  (List.range x.2).map (fun k =>
    { x.1 with
      out := if x.1.op = 4 then x.1.out else x.1.out + k
      src := x.1.src + k
      psrc := if x.1.op = 2 then x.1.psrc + k else x.1.psrc })

/-- The run records of the base map. -/
def SlotImage.runs (g : SlotImage) : List (Machine.EditRec × Nat) :=
  match g.ofType 0x30 with
  | [] => []
  | i :: _ => (List.range (leAt (g.content i) 0 4)).map (runRecord (g.content i))

/-- EDITS of the base map's header. -/
def SlotImage.edits (g : SlotImage) : Nat :=
  match g.ofType 0x30 with
  | [] => 0
  | i :: _ => leAt (g.content i) 4 4

/-- The edits of the base map, or the run record at which the loader refuses it (R354). -/
def SlotImage.baseMap (g : SlotImage) : Except Nat (List Machine.EditRec) :=
  let rs := g.runs
  match (List.range rs.length).find? (fun i => (rs[i]?.map badRun).getD true) with
  | some i => .error i
  | none => if rs.foldl (fun a x => a + x.2) 0 = g.edits then .ok (rs.flatMap expandRun) else .error 0

/-- The run record that an edit comes from. -/
def runOf (rs : List (Machine.EditRec × Nat)) (k : Nat) : Nat :=
  match rs with
  | [] => 0
  | x :: t => if k < x.2 then 0 else 1 + runOf t (k - x.2)

/-! ### Scenes (R355) -/

/-- A scene of the image: its number, LEN, TRIG and records. -/
structure SceneSec where
  num : Nat
  len : Nat
  trig : Nat
  recs : List (BitVec 8)
deriving DecidableEq, Repr

/-- The scenes of the image, in the order of their sections. -/
def SlotImage.scenes (g : SlotImage) : List SceneSec :=
  (g.ofType 0x31).map (fun i =>
    let c := g.content i
    { num := leAt c 0 1, len := leAt c 4 4, trig := leAt c 8 4 % 65536, recs := (c.drop 16).take (16 * leAt c 4 4) })

namespace Machine

/-! ### Fuses and keys (R359, R360, R476) -/

/-- The fused minimum SVN after `v` is burned: it only rises (R360). -/
def raiseSvn (old v : BitVec 6) : BitVec 6 := if old.toNat ≤ v.toNat then v else old

/-- Fuses `read` or programmed over fuses `own`: every fuse only goes forward (R360, R476). -/
def mergeFuses (own read : Fuses) : Fuses :=
  { read with
    life := if own.life ≤ read.life then read.life else own.life
    hashes := (List.range 4).map (fun k =>
      if own.programmed.getLsbD k then own.hashes.getD k 0 else read.hashes.getD k 0)
    programmed := own.programmed ||| read.programmed
    revoked := own.revoked ||| read.revoked
    minSvn := raiseSvn own.minSvn read.minSvn }

/-- The fuses as programming or reading `f` leaves them. -/
def State.blow (s : State) (f : Fuses) : State := { s with fuses := mergeFuses s.fuses f }

/-- The life-cycle state's code (R476): the fuses, and SERVICE while they read DEPLOYED. -/
def State.lifeCode (s : State) : Nat :=
  match s.fuses.life with
  | 0 => 0
  | 1 => 1
  | 2 => if s.tally.service then 3 else 2
  | 3 => 4

/-- A key slot holds the hash of a public key. -/
def State.slotHash (s : State) (k : Nat) (digest : BitVec 384) : Bool :=
  s.fuses.programmed.getLsbD k && s.fuses.hashes[k]? == some digest

/-- A key slot is accepted for the outer signature (R359). -/
def State.keyAccepted (s : State) (k : Nat) : Bool :=
  if s.lifeCode = 0 then k == 0
  else s.lifeCode != 4 && decide (1 ≤ k) && decide (k ≤ 3) && !s.fuses.revoked.getLsbD k

/-- FW_MAGIC, CODE_LEN, the inner block or the inner signature is wrong; the key is slot 0's in every life-cycle state (R353). -/
def State.badFirmware (s : State) (g : SlotImage) : Bool :=
  let n := leAt g.fw 12 4
  let b := 16 + n
  leAt g.fw 0 4 != 0x4A574651 || n % 16 != 0 || decide (393216 < n) || g.fw.length != n + 272
    || leAt g.fw b 4 != 0x47495351 || leAt g.fw (b + 4) 1 != 1 || leAt g.fw (b + 5) 1 != 0
    || !s.slotHash 0 (blockDigest g.fw b) || !blockSigned g.fw b

/-- The image in what the flash gives, under the fused image key (R357). -/
def State.imageOf (s : State) (f : ImageBytes) : SlotImage := { bytes := f.bytes, fetched := f.fetched, key := s.fuses.imageKey.toNat }

/-- The signing key of an image is not accepted (R358, R359). -/
def State.badKey (s : State) (g : SlotImage) : Bool :=
  !s.keyAccepted g.keySlot || leAt g.bytes g.sigOff 4 != 0x47495351 || leAt g.bytes (g.sigOff + 4) 1 != 1
    || leAt g.bytes (g.sigOff + 5) 1 != g.keySlot || !s.slotHash g.keySlot (blockDigest g.bytes g.sigOff)

/-- The checks of R358 in order: a code, the section it names, and whether the check fails. What SECTION says of an encrypted section's
plaintext is checked once it is decrypted (DEDUCED: log entry 23). -/
def State.checks (s : State) (g : SlotImage) (room : Nat) : List (Nat × Nat × Bool) :=
  [(imgMagic, noSection, leAt g.bytes 0 4 != 0x4E504F51),
   (imgHeader, noSection, g.badHeader),
   (imgLength, noSection, g.badLength room),
   (imgLifecycle, noSection, s.lifeCode == 4),
   (imgKey, noSection, s.badKey g),
   (imgFlashRead, noSection, !g.fetched),
   (imgSignature, noSection, g.lost || !blockSigned g.bytes g.sigOff),
   (imgSvn, noSection, decide (g.svn < s.fld R.IMG_SVN_MIN_MIN)),
   (imgSection, g.layoutFault.getD noSection, g.layoutFault.isSome),
   (imgDecrypt, g.badTag.getD noSection, g.badTag.isSome),
   (imgSection, g.plainFault.getD noSection, g.plainFault.isSome),
   (imgFirmware, g.fwIndex, s.badFirmware g)]

/-- The first check that fails: its code and the section it names (R358). -/
def State.imageFault (s : State) (g : SlotImage) (room : Nat) : Option (Nat × Nat) :=
  ((s.checks g room).find? (fun c => c.2.2)).map (fun c => (c.1, c.2.1))

/-- The bytes that a flash slot holds (R346). -/
def State.slotRoom (s : State) : Nat := min 268435456 (2 ^ s.fld R.IMG_FLASH_DENSITY / 2)

/-! ### Configuration sections (R343, R352) -/

/-- The bits of a register that are image fields. -/
def Reg.imageMask (r : Reg) : Nat :=
  r.slices.foldl (fun a c =>
    match c.fld.rst with
    | .image _ => a + 2 ^ c.lo * (2 ^ c.len - 1)
    | _ => a) 0

/-- A register of the scene directory, which no configuration record names (R343). -/
def sceneReg (id : Nat) : Bool :=
  id == RN.CUT_SCNn_BASE_LO || id == RN.CUT_SCNn_BASE_HI || id == RN.CUT_SCNn_LEN || id == RN.CUT_SCNn_TRIG

/-- A section of a type may name an offset of register space (R343). -/
def sectionAllows (t off : Nat) : Bool :=
  let c := islandOf off
  if t = 0x20 then c == 1
  else if t = 0x21 then c == 2 || c == 3
  else if t = 0x22 then c == 6 && decide (0x64000 ≤ off)
  else if t = 0x23 then c == 0 || c == 4 || c == 5 || c == 9 || c == 0xA || c == 0xB || c == 0x50 || c == 0x60
  else if t = 0x24 then c == 7
  else if t = 0x25 then c == 0x10 || (c == 6 && decide (off < 0x64000))
  else if t = 0x26 then c == 8
  else if t = 0x27 then c == 0xD || c == 0x30
  else c == 0xC || c == 0x40

/-- A record that a section of type `t` may not hold (R352). -/
def badRecord (t : Nat) (r : Nat × Nat) : Bool :=
  if place r.1 ≠ .reg r.1 then true
  else match findReg r.1 with
  | none => true
  | some (g, _) =>
    !sectionAllows t r.1 || g.imageMask == 0 || Nat.land r.2 g.imageMask != r.2 || (t == 0x23 && sceneReg g.id)

/-- The values by field and instance that records give: a later record replaces an earlier one (R352). -/
def recordValues (l : List (Nat × Nat)) : Tab (Tab Nat) :=
  l.foldl (fun v r =>
    match findReg r.1 with
    | none => v
    | some (g, i) => g.slices.foldl (fun v c =>
        match c.fld.rst with
        | .image _ =>
          let t := v.get c.fld.id {}
          v.put c.fld.id (t.put i (putBits (t.get i c.fld.reset) c.src c.len (bits r.2 c.lo c.len)))
        | _ => v) v) {}

/-- The field of a number is marked "image". -/
def imageMarked (id : Nat) : Bool :=
  regTable.any (fun r => r.slices.any (fun c => c.fld.id == id && (match c.fld.rst with
    | .image _ => true
    | _ => false)))

/-- The fields of their own that show active values which an image gives (R10). -/
def activeShown (id : Nat) : Bool :=
  [R.FAB_LAM_STAT_SHADOW_ACT, R.FAB_LAM_STAT_SUB_ACT, R.FAB_LAM_STAT_ROTATE_ACT, R.PLB_FPOUTk_STAT_MODE_ACT].any (fun f => f.id == id)

/-- Every field marked "image" at its reset value, staged and active: what an image gives that no record names (R343). The fields that show
active values follow (R10). -/
def State.imageDefaults (s : State) : State :=
  { s with regs := s.regs.keep (fun id _ => !imageMarked id && !activeShown id), staged := s.staged.keep (fun id _ => !imageMarked id) }

/-! ### Raising halts (R340) -/

/-- The hidden progress of raising changed by `f`. -/
def State.updRaise (s : State) (f : Raise → Raise) : State := { s with raise := f s.raise }

/-- Raising is in progress: P7 is not reached, and nothing has stopped it. -/
def State.raising (s : State) : Bool := s.raise.running && !s.flag R.IMG_RAISE_HALTED && s.phase != 7

/-- DDR5 has trained: the staging region is placed (R430). -/
def State.ddrTrained (s : State) : Bool := s.regionSize 3 != 0

/-- A failure of raising: the first is kept (IMG_RAISE.FAIL, IMG_RAISE_DETAIL). -/
def State.noteFail (s : State) (code sect rcode roff : Nat) : State :=
  if s.fld R.IMG_RAISE_FAIL ≠ 0 then s
  else
    let s1 := (s.setFld R.IMG_RAISE_FAIL 0 code).setFld R.IMG_RAISE_DETAIL_SECTION 0 sect
    (s1.setFld R.IMG_RAISE_DETAIL_CODE 0 rcode).setFld R.IMG_RAISE_DETAIL_OFFSET 0 (min roff 0xFFF)

/-- A halted device enters recovery once DDR5 has trained, unless it is DECOMMISSIONED or halted for tamper (R340, R367, R485). -/
def State.tryRecovery (s : State) : State :=
  s.setFlag R.IMG_RAISE_RECOVERY 0
    (s.flag R.IMG_RAISE_HALTED && s.ddrTrained && s.lifeCode != 4 && s.fld R.IMG_RAISE_FAIL != imgTamper)

/-- Raising halts (R340). -/
def State.haltRaise (s : State) (code sect rcode roff : Nat) : State :=
  ((s.noteFail code sect rcode roff).setFlag R.IMG_RAISE_HALTED 0 true).tryRecovery

/-- The base map change was refused under R198: raising halts with BASEMAP, the code and the run record (R339). -/
def State.baseRefused (s : State) (code index : Nat) : State :=
  s.haltRaise imgBasemap noSection code (runOf ((s.raise.image.map SlotImage.runs).getD []) index)

end Machine

end Sys2Proof
end

