-- ==== Sys2Proof/Machine/ScarfOps.lean ====
section
/-! DEFINITION. Scarf groups: preferred and locked-out sides, degradation, the wait to restore, and what joins and leaves them (R240 to
R247).
Readings and choices: DEDUCED (log entry 48). -/

namespace Sys2Proof.Machine

/-! ### Modes and states (SCF_GCFG.MODE, SCF_GSTAT.STATE) -/

def modeAuto : Nat := 0
def modeForceW : Nat := 1
def modeForceP : Nat := 2
def modeLockoutW : Nat := 3
def modeLockoutP : Nat := 4

def groupEmpty : Nat := 0
def groupHome : Nat := 1
def groupOther : Nat := 2
def groupWtr : Nat := 3
def groupForced : Nat := 4
def groupLockout : Nat := 5

/-- The active mode of a group. -/
def State.groupMode (s : State) (g : Nat) : Nat := s.fld R.SCF_GCFG_MODE g

/-- The active home side of a group: 0 W, 1 P. -/
def State.groupHomeSide (s : State) (g : Nat) : Nat := s.fld R.SCF_GCFG_HOME g

/-- The state of a group. -/
def State.groupState (s : State) (g : Nat) : Nat := s.fld R.SCF_GSTAT_STATE g

/-- The preferred side of a group, 0 W or 1 P (R240, R242). -/
def State.pref (s : State) (g : Nat) : Nat :=
  let m := s.groupMode g
  if m = modeForceW || m = modeLockoutP then 0
  else if m = modeForceP || m = modeLockoutW then 1
  else if s.groupState g = groupOther || s.groupState g = groupWtr then 1 - s.groupHomeSide g
  else s.groupHomeSide g

/-- Whether a side of a group is locked out (R240). -/
def State.lockedOut (s : State) (g side : Nat) : Bool :=
  (s.groupMode g == modeLockoutW && side == 0) || (s.groupMode g == modeLockoutP && side == 1)

/-- Whether a side of a group is DEGRADED (R241). -/
def State.degraded (s : State) (g side : Nat) : Bool :=
  if side = 0 then s.flag R.SCF_GSTAT_W_DEG g else s.flag R.SCF_GSTAT_P_DEG g

/-- The merged slots of a group in a map. -/
def groupCount (map : Tab Route) (g : Nat) : Nat :=
  map.entries.countP (fun e =>
    match e.2 with
    | .merged _ _ g' _ => g' == g
    | .single _ => false)

/-- The groups that have merged slots in a map. -/
def groupsIn (map : Tab Route) : List Nat :=
  sortNats (map.entries.filterMap (fun e =>
    match e.2 with
    | .merged _ _ g _ => some g
    | .single _ => none))

/-- A group enters a state; a change of the preferred side latches PREF_CHANGE (R244). Outside WTR no wait runs (R243). -/
def State.enterGroup (s : State) (g st : Nat) : State :=
  let s1 := s.setFld R.SCF_GSTAT_STATE g st
  let s2 := if st = groupWtr then
      { s1.setFld R.SCF_GWTR_REMAIN g (8000 * s.fld R.SCF_GCFG_WTR g) with
        groups := s.groups.put g { s.groups.get g {} with wtrFrom := s.frame } }
    else s1.setFld R.SCF_GWTR_REMAIN g 0
  s2.latchIf (s2.pref g != s.pref g) R.SCF_GEVT_PREF_CHANGE g

/-- The state that a group's mode gives it when it starts or when a commit changes it (R245): never WTR. -/
def State.startState (s : State) (g : Nat) : Nat :=
  let m := s.groupMode g
  if m = modeForceW || m = modeForceP then groupForced
  else if m = modeLockoutW || m = modeLockoutP then groupLockout
  else
    let h := s.groupHomeSide g
    if s.degraded g h && !s.degraded g (1 - h) then groupOther else groupHome

/-! ### Degradation (R241) -/

/-- The end of a window for one side: DEGRADED when bad × 65,536 > DEG_SET × copies; cleared after eight windows in a row at or below
DEG_CLR; a window without copies does neither. -/
def State.judgeSide (s : State) (g side copies bad : Nat) : State :=
  let gs := s.groups.get g {}
  let run := if side = 0 then gs.clrW else gs.clrP
  let fldDeg := if side = 0 then R.SCF_GSTAT_W_DEG else R.SCF_GSTAT_P_DEG
  let evSet := if side = 0 then R.SCF_GEVT_W_DEG_SET else R.SCF_GEVT_P_DEG_SET
  let evClr := if side = 0 then R.SCF_GEVT_W_DEG_CLR else R.SCF_GEVT_P_DEG_CLR
  let setRun := fun (t : State) (k : Nat) =>
    { t with groups := t.groups.put g (if side = 0 then { t.groups.get g {} with clrW := k } else { t.groups.get g {} with clrP := k }) }
  if copies = 0 then s
  else if s.fld R.SCF_CFG_DEG_SET * copies < bad * 65536 then
    let s1 := setRun (s.setFlag fldDeg g true) 0
    if s.degraded g side then s1 else (s1.latch evSet g).latch R.SCF_EVT_DEG_ANY
  else if bad * 65536 ≤ s.fld R.SCF_CFG_DEG_CLR * copies then
    if s.degraded g side && 8 ≤ run + 1 then (setRun (s.setFlag fldDeg g false) 0).latch evClr g
    else setRun s (if s.degraded g side then run + 1 else 0)
  else setRun s 0

/-- The AUTO state table (R242), its rows in order. -/
def autoNext (st : Nat) (hDeg oDeg revert : Bool) : Nat :=
  if st = groupHome then (if hDeg && !oDeg then groupOther else st)
  else if st = groupOther then
    (if oDeg && !hDeg then groupHome else if !hDeg && revert then groupWtr else st)
  else if st = groupWtr then
    (if hDeg then groupOther else if oDeg && !hDeg then groupHome else st)
  else st

/-- The window of a group that the present tick has ended is evaluated, once (R241, R242). -/
def State.evalWindow (s : State) (g : Nat) : State :=
  let gs := s.groups.get g {}
  if s.frame % 8 ≠ 0 || gs.evaluated = some s.frame || s.groupState g = groupEmpty then s
  else
    let now := s.frame / 8
    let last := (s.frame + 2 ^ 32 - 8) % 2 ^ 32 / 8
    let w := if gs.window = now then gs.prevW else if gs.window = last then gs.w else (0, 0)
    let p := if gs.window = now then gs.prevP else if gs.window = last then gs.p else (0, 0)
    let s1 := { s with groups := s.groups.put g { gs with evaluated := some s.frame } }
    let s2 := (s1.judgeSide g 0 w.1 w.2).judgeSide g 1 p.1 p.2
    if s2.groupMode g = modeAuto then
      let h := s2.groupHomeSide g
      let st := autoNext (s2.groupState g) (s2.degraded g h) (s2.degraded g (1 - h)) (s2.flag R.SCF_GCFG_REVERT g)
      if st = s2.groupState g then s2 else s2.enterGroup g st
    else s2

/-- Copies of the sides are counted in the window of transmit frame `f` (R241). -/
def State.countWindow (s : State) (g f : Nat) (w p : Nat × Nat) : State :=
  let gs := s.groups.get g {}
  let win := f / 8
  let add := fun (a b : Nat × Nat) => (a.1 + b.1, a.2 + b.2)
  let gs' := if gs.window = win then { gs with w := add gs.w w, p := add gs.p p }
    else { gs with window := win, prevW := gs.w, prevP := gs.p, w := w, p := p }
  { s with groups := s.groups.put g gs' }

/-! ### Slots that join and leave (R247) -/

/-- The last merged slot has left: the group is EMPTY, and a side that was DEGRADED is so no more (R247). -/
def State.emptyGroup (s : State) (g : Nat) : State :=
  let s0 := (s.latchIf (s.flag R.SCF_GSTAT_W_DEG g) R.SCF_GEVT_W_DEG_CLR g).latchIf (s.flag R.SCF_GSTAT_P_DEG g) R.SCF_GEVT_P_DEG_CLR g
  let s1 := ((s0.setFlag R.SCF_GSTAT_W_DEG g false).setFlag R.SCF_GSTAT_P_DEG g false).enterGroup g groupHome
  { s1.setFld R.SCF_GSTAT_STATE g groupEmpty with groups := s1.groups.del g }

/-- The groups follow the merged slots of a new map: one that gains its first slot starts, one that loses its last is EMPTY (R247). -/
def State.followGroups (s : State) (old new : Tab Route) : State :=
  let s1 := (groupsIn new).foldl (fun t g =>
    if groupCount old g = 0 then t.enterGroup g (t.startState g) else t) s
  (groupsIn old).foldl (fun t g => if groupCount new g = 0 then t.emptyGroup g else t) s1

end Sys2Proof.Machine
end

