-- ==== Sys2Proof/Machine/Scribe.lean ====
section
/-! DEFINITION. The scribe's changes: cut lists, scenes, full re-placements and the base map, from their commands to DONE (R197 to
R222).
Readings and choices: DEDUCED (log entry 47). -/

namespace Sys2Proof.Machine

/-! ### List states (CUT_Lj_STAT.STATE, R211) -/

def listIdle : Nat := 0
def listQueued : Nat := 1
def listCompiling : Nat := 2
def listArmed : Nat := 3
def listApplying : Nat := 4
def listDone : Nat := 5
def listFailed : Nat := 6

/-- The state of staging list `j`. -/
def State.listState (s : State) (j : Nat) : Nat := s.fld R.CUT_Lj_STAT_STATE j

/-- List `j` is at rest: IDLE, DONE or FAILED. -/
def State.listAtRest (s : State) (j : Nat) : Bool :=
  s.listState j == listIdle || s.listState j == listDone || s.listState j == listFailed

/-- A command that has no effect latches CMD_REFUSED (R211, R215). -/
def State.refuseCmd (s : State) : State := s.latch R.CUT_EVT_CMD_REFUSED

/-- The address of record 0 of list `j` (R209). -/
def stagingBase (j : Nat) : Nat := 0x0110000000 + j * 0x1000000

/-- The 64-bit logical map entry of an output slot (R194). -/
def State.mapEntry (s : State) (a : Nat) : Nat :=
  match s.sched.map.find a with
  | none => 0
  | some (.single src) => src + 2 ^ 25 + b2n (s.sched.memberOf src).isSome * 2 ^ 28
  | some (.merged _ _ _ m) => m + 2 * 2 ^ 25

/-- The word of DDR5 at a device address: the logical map's region shows the map, once it is rebuilt after a wipe (R193, R430, R484). -/
def State.ddrWord (s : State) (a : Nat) : Nat :=
  if s.regionOf a = some 2 ∧ !s.flag R.TLY_REKEY_MAP then
    let o := a - s.regionBase 2
    (s.mapEntry (o / 8) + s.mapEntry (o / 8 + 1) * 2 ^ 64) / 2 ^ (8 * (o % 8)) % 2 ^ 32
  else s.readLe a 4

/-- `n` edit records from an address (R195): words of the staging window, or of DDR5, where the map's region shows the map (R216). -/
def State.readRecs (s : State) (a n : Nat) : List EditRec :=
  (List.range n).map (fun i =>
    let w := fun k => s.ddrWord (a + 16 * i + 4 * k)
    decodeRec (w 0) (w 1) (w 2) (w 3))

/-- The four words of an edit record (R195). -/
def EditRec.words (r : EditRec) : List Nat := [r.out + r.op * 2 ^ 28, r.src, r.psrc, r.group + r.arr * 2 ^ 16]

/-! ### How a change ends without applying (R198, R206) -/

/-- The tap entries that a change took are cleared at the next tick, and the storage that it added to others is given back then (R206). -/
def State.withdraw (s : State) (c : Change) : State :=
  let soon := some (frameAdd s.frame 1)
  let kept := (((c.results.getLast?).map Schedule.allMembers).getD []).filterMap (·.pos)
  let upd := fun (f : TapEnt → TapEnt) (tp : Tab (Tab TapEnt)) (q : Nat) =>
    match tapAt tp q with
    | some e => tapPut tp q (f e)
    | none => tp
  let back := kept.foldl (upd (fun e => { e with backAt := e.backAt.orElse (fun _ => soon) })) s.tap
  { s with tap := c.took.foldl (upd (fun e => { e with clearAt := soon })) back }

/-- A change under way adds a source to a bent. -/
def Change.adds (c : Change) (src : Nat) : Bool := c.recs.any (fun r => r.isAdd && r.src == src)

/-- A change under way, or one that is queued, adds a source. -/
def State.addsNow (s : State) (src : Nat) : Bool :=
  s.queued.any (·.adds src) || (match s.chg with
    | some c => c.adds src
    | none => false)

/-- The sources that are no members, and that no change under way adds, are pending no more, and members that none adds again learn nothing anew
(R138). -/
def State.dropPending (s : State) : State :=
  { s with links := (s.links.keep (fun src _ => (s.sched.memberOf src).isSome || s.addsNow src)).mapVals (fun src l =>
      if s.addsNow src then l else { l with anew := none }) }

/-- A journalled change that does not apply is withdrawn on the standby too (R215, R309). -/
def State.journalCancel (s : State) (c : Change) : State :=
  match c.jseq with
  | some q => s.journal recCancel (c.frame.getD 0) 0 [[q, 0, 0, 0]]
  | none => s

/-- The scribe is free. -/
def State.freeScribe (s : State) : State := { s with chg := none }

/-- The registers and events of a failed change (R198). -/
def State.reportFail (s : State) (c : Change) (f : Failure) : State :=
  match c.kind with
  | .list j =>
    let s1 := ((s.setFld R.CUT_Lj_STAT_STATE j listFailed).setFld R.CUT_Lj_ERR_CODE j f.code).setFld R.CUT_Lj_ERR_INDEX j f.index
    let s2 := (s1.setFld R.CUT_Lj_ERRSLOT_SLOT j (f.slot.getD 0)).setFlag R.CUT_Lj_ERRSLOT_VALID j f.slot.isSome
    s2.latch (R.CUT_EVT_FAIL.plus j)
  | .scene _ =>
    (((s.setFld R.CUT_SCN_ERR_CODE 0 f.code).setFld R.CUT_SCN_ERR_INDEX 0 f.index).setFld R.CUT_SCN_STAT_STATE 0 0).latch
      R.CUT_EVT_SCN_FAIL
  | .replacement => s.setFld R.SCB_REPL_STAT_STATE 0 0
  | .base => s.baseRefused f.code f.index
  | .journal _ => s

/-- The change that occupies the scribe fails. -/
def State.failChange (s : State) (c : Change) (f : Failure) : State :=
  ((((s.withdraw c).journalCancel c).reportFail c f).freeScribe).dropPending

/-! ### Commands of CUT_CTRL (R211, R214, R215) -/

/-- The scribe's occupant, when it is list `j`. -/
def State.occupant (s : State) (j : Nat) : Option Change :=
  match s.chg with
  | some c => if c.kind = .list j then some c else none
  | none => none

/-- List `j` enters QUEUED (R211). -/
def State.queueList (s : State) (j : Nat) : State :=
  let s1 := ((s.setFld R.CUT_Lj_STAT_STATE j listQueued).setFlag R.CUT_Lj_STAT_APPLY_REQ j false).setFlag R.CUT_Lj_STAT_ASAP j false
  let s2 := ((s1.setFld R.CUT_Lj_ERR_CODE j failNone).setFld R.CUT_Lj_ERR_INDEX j 0).setFlag R.CUT_Lj_ERRSLOT_VALID j false
  { s2 with queued := s2.queued ++ [{ kind := .list j, since := s.frame }] }

/-- A change is journalled at the first moment at which it is ARMED with its apply frame fixed (R215), unless a copy sends its slices
(R315); compiled again, it sends a REARM (R309). -/
def State.journalChange (s : State) (c : Change) : State :=
  match c.frame with
  | none => { s with chg := some c }
  | some t =>
    match c.jseq with
    | some q => ({ s with chg := some c }).journal recRearm t c.cseq [[q, 0, 0, 0]]
    | none =>
      if s.copying then { s with chg := some c }
      else
      let s1 := ({ s with chg := some c }).journal recChange t c.cseq (c.recs.map EditRec.words)
      if s1.mate.jSeq = s.mate.jSeq then s1 else { s1 with chg := some { c with jseq := some s1.mate.jSeq } }

/-- The apply frame register of a change that is a list (R214). -/
def State.showTick (s : State) (c : Change) : State :=
  match c.kind, c.frame with
  | .list j, some t => s.setFld R.CUT_Lj_TICK_FRAME j t
  | _, _ => s

/-- An ARMED change whose APPLY has been accepted takes its apply frame (R207, R214): A + 3 with ASAP, else the named frame, which fails
with LATE when it is earlier. A frame once fixed stays. -/
def State.fixFrame (s : State) (c : Change) : State :=
  match c.applyAt with
  | none => { s with chg := some c }
  | some ap =>
    let a := if frameReached c.armedAt ap then c.armedAt else ap
    let least := frameAdd a 3
    let t := c.frame.getD (c.named.getD least)
    if !frameReached t least then s.failChange c { code := failLate, index := 0 }
    else
      let between := s.actions.any (fun x => frameLater t x.at' && frameLater x.at' c.base)
      let c' := { c with frame := some t, stale := c.stale || between }
      (s.showTick c').journalChange c'

/-- An APPLY for list `j` is accepted (R211, R214). -/
def State.acceptApply (s : State) (j : Nat) (asap : Bool) : State :=
  let s1 := (s.setFlag R.CUT_Lj_STAT_APPLY_REQ j true).setFlag R.CUT_Lj_STAT_ASAP j asap
  let upd := fun (c : Change) =>
    { c with applyAt := some s.frame, named := if asap then none else some (s.fld R.CUT_Lj_FRAME_FRAME j) }
  let s2 := { s1 with queued := s1.queued.map (fun (c : Change) => if c.kind = ChangeKind.list j then upd c else c) }
  let s3 := if asap then s2 else s2.setFld R.CUT_Lj_TICK_FRAME j (s.fld R.CUT_Lj_FRAME_FRAME j)
  match s3.occupant j with
  | some c => if c.state = ChangeState.armed then s3.fixFrame (upd c) else { s3 with chg := some (upd c) }
  | none => s3

/-- ABORT of list `j` (R211). -/
def State.abortList (s : State) (j : Nat) : State :=
  let f : Failure := { code := failAborted, index := 0 }
  match s.occupant j with
  | some c => s.failChange c f
  | none =>
    let s1 := { s with queued := s.queued.filter (fun (c : Change) => c.kind != ChangeKind.list j) }
    (s1.reportFail { kind := .list j } f).dropPending

/-- The effect of a write of CUT_CTRL (R211, R215): list in bit 0, command in bits 3:1, ASAP in bit 4. -/
def State.cutCommand (s : State) (w : Nat) : State :=
  let j := bit w 0
  let cmd := bits w 1 3
  let asap := bit w 4 == 1
  let st := s.listState j
  if cmd = 0 || 5 ≤ cmd then s
  else if !s.mayChange then s.refuseCmd
  else if cmd = 1 then (if s.listAtRest j then s.queueList j else s.refuseCmd)
  else if cmd = 2 then
    (if (st = listQueued || st = listCompiling || st = listArmed) && !s.flag R.CUT_Lj_STAT_APPLY_REQ j then s.acceptApply j asap
     else s.refuseCmd)
  else if cmd = 3 then (if s.listAtRest j then (s.queueList j).acceptApply j asap else s.refuseCmd)
  else (if st = listQueued || st = listCompiling || st = listArmed then s.abortList j else s.refuseCmd)

/-! ### Compiling (R199 to R203, R212, R213) -/

/-- The state registers of a change's kind, as it starts compiling. -/
def State.showCompiling (s : State) (c : Change) : State :=
  match c.kind with
  | .list j => s.setFld R.CUT_Lj_STAT_STATE j listCompiling
  | .scene n => (s.setFld R.CUT_SCN_STAT_STATE 0 2).setFld R.CUT_SCN_STAT_CUR 0 n
  | .replacement => s.setFld R.SCB_REPL_STAT_STATE 0 2
  | .base | .journal _ => s

/-- A change starts compiling, in the present frame. -/
def State.startCompile (s : State) (c : Change) : State :=
  ({ s with chg := some { c with state := .compiling, began := s.frame } }).showCompiling c

/-- The last commit that a compile ending now uses (R309): a journalled change carries its own (R311). -/
def State.compileSeq (s : State) (c : Change) : Nat :=
  match c.kind with
  | .journal _ => c.cseq
  | _ => s.fld R.DEV_COMMIT_SEQ_CSEQ

/-- The queued change that goes first: the earliest queued, the earlier entry of the queue on a tie but list 0 before list 1 (R212). -/
def firstQueued (l : List Change) : Option Change :=
  l.foldl (fun b c =>
    match b with
    | none => some c
    | some x => if frameLater x.since c.since || (x.since = c.since && c.kind = .list 0 && x.kind = .list 1) then some c else b) none

/-- COMPILE_START (R212): the scribe is free, no scene waits, and the first queued change starts COMPILING; while the
logical map is rebuilt after a wipe none does (R484). -/
def execCompileStart (s : State) : Out :=
  .next (
    if s.chg.isSome || !s.scnQ.isEmpty || s.flag R.TLY_REKEY_MAP then s
    else match firstQueued s.queued with
    | some c => ({ s with queued := s.queued.filter (· != c) }).startCompile c
    | none => s)

/-- The value that field `f`, instance `i`, had after commit `cseq` and before any later commit taken from the journal (R311). -/
def State.valueAt (s : State) (cseq : Nat) (f : Fld) (i : Nat) : Nat :=
  ((s.mate.past.filter (fun e => frameLater e.1 cseq)).findSome? (fun e =>
    (e.2.find? (fun x => x.1 == f.id && x.2.1 == i)).map (·.2.2))).getD (s.fld f i)

/-- What a compile uses beside the schedule (R199): on a standby a journalled change is compiled against the commits up to its CSEQ (R311). -/
def State.compileEnv (s : State) (c : Change) : CompileEnv :=
  match c.kind with
  | .journal _ =>
    { guard := fun b => s.valueAt c.cseq R.BNT_CFG_GUARD b
      sync := fun p => s.valueAt c.cseq R.LN_FRM_CFG_SYNC p == 1
      cap := s.valueAt c.cseq R.BNT_GLB_LPCAP_CAP 0 }
  | _ => { guard := s.guard, sync := fun p => s.flag R.LN_FRM_CFG_SYNC p, cap := s.lpCap }

/-- The records of a change, read at its compile (R195); those of a scene once, and used as they were read then (R216). -/
def State.changeRecs (s : State) (c : Change) : List EditRec :=
  match c.kind with
  | .list j => s.readRecs (stagingBase j) (s.fld R.CUT_Lj_LEN_LEN j)
  | .scene n => if c.recs.isEmpty then s.readRecs (s.fld R.CUT_SCNn_BASE_BASE n) (s.fld R.CUT_SCNn_LEN_LEN n) else c.recs
  | _ => c.recs

/-- The units of DDR5 that the records of a change are read from (R216). -/
def State.recUnits (s : State) (c : Change) : List Nat :=
  match c.kind with
  | .scene n => if c.recs.isEmpty then ddrUnits (s.fld R.CUT_SCNn_BASE_BASE n - ddrBase) (16 * s.fld R.CUT_SCNn_LEN_LEN n) else []
  | _ => []

/-- The record count allowed for a change: 1 Mi for a list, 4 Mi for a scene; the base map and the journal bound themselves. -/
def recordLimit : ChangeKind → Nat
  | .list _ => mebi
  | .scene _ => 4 * mebi
  | _ => 2 ^ 26

/-- A change that takes a later frame rather than fail with LATE: a full re-placement (R221), and a journalled change on a standby (R312). -/
def Change.defers (c : Change) : Bool :=
  match c.kind with
  | .replacement | .journal _ => true
  | _ => false

/-- The apply frame that a change ARMED in the present frame would take (R214, R218, R221, R312). -/
def State.frameIfArmed (s : State) (c : Change) : Option Nat :=
  match c.kind with
  | .list _ => c.applyAt.map (fun _ => c.frame.getD (c.named.getD (frameAdd s.frame 3)))
  | .journal _ => some (match c.named with
      | some t => if frameReached t (frameAdd s.frame 3) then t else frameAdd s.frame 3
      | none => frameAdd s.frame 3)
  | .replacement => some (match c.frame with
      | some t => if frameReached t (frameAdd s.frame 3) then t else frameAdd s.frame 3
      | none => frameAdd s.frame 3)
  | _ => some (c.frame.getD (frameAdd s.frame 3))

/-- The registers and events of a change that becomes ARMED. -/
def State.showArmed (s : State) (c : Change) : State :=
  match c.kind with
  | .list j => (s.setFld R.CUT_Lj_STAT_STATE j listArmed).latch (R.CUT_EVT_ARMED.plus j)
  | .scene _ => (s.setFld R.CUT_SCN_STAT_STATE 0 3).setFld R.CUT_SCN_STAT_SPAN 0 c.results.length
  | .replacement => s.setFld R.SCB_REPL_STAT_MOVED 0 (min c.moved (2 ^ 24 - 1))
  | .base => s.setFld R.CUT_SCN_STAT_SPAN 0 c.results.length
  | .journal _ => s

/-- The record of a change by which a source is added to a bent. -/
def Change.addOf (c : Change) (src : Nat) : Option EditRec := c.recs.find? (fun r => r.isAdd && r.src == src)

/-- A member that a change adds to bent `b` is pending: a source that is a member already, of that bent or of another, learns anew (R138, R141). -/
def Link.await (l : Link) (b : Nat) : Link := if l.anew.any (·.bent == b) then l else { l with anew := some { bent := b } }

/-- Members that a compiled change adds are pending from now (R138). -/
def State.addPending (s : State) (c : Change) : State :=
  match c.results.getLast? with
  | none => s
  | some sc =>
    sc.bents.entries.foldl (fun t e => e.2.members.foldl (fun u m =>
      match u.links.find m.src with
      | none => { u with links := u.links.put m.src { bent := e.1 } }
      | some l =>
        if (c.addOf m.src).isSome && (u.sched.memberOf m.src).isSome then { u with links := u.links.put m.src (l.await e.1) } else u) t) s

/-- COMPILE_DONE (R198, R201, R207, R219 to R221): the compile ends and the change is ARMED, its tap entries written (R205), or it is
refused. -/
def execCompileDone (s : State) : Out :=
  .next (
    match s.chg with
    | none => s
    | some c =>
      if c.state ≠ .compiling then s
      else
        let t := s.frameIfArmed c
        let f := match t with
          | some t => (t + 2 ^ 32 - 1) % 2 ^ 32
          | none => frameAdd s.frame 2
        let old := s.schedAt f
        let arm := fun (s : State) (c : Change) =>
          let c1 := { c with state := .armed, armedAt := s.frame, base := f, stale := false, cseq := s.compileSeq c }
          let s1 := (s.showArmed c1).addPending c1
          match c.kind with
          | .list _ => s1.fixFrame c1
          | _ =>
            let c2 := { c1 with frame := t }
            if c.frame.isSome && !frameReached (t.getD 0) (frameAdd s.frame 3) then s1.failChange c2 { code := failLate, index := 0 }
            else s1.journalChange c2
        let whole := match c.kind with
          | .replacement => true
          | .journal _ => c.recs.isEmpty
          | _ => false
        if whole then
          let (steps, moved) := old.compact
          arm s { c with results := steps, chunks := steps.map (fun _ => []), moved := moved }
        else
          let recs := s.changeRecs c
          let s := s.readUnits (s.recUnits c)
          match compileChange (s.compileEnv c) old s.tap (recordLimit c.kind) recs with
          | .error e => s.failChange c e
          | .ok (res, tap) =>
            let bents := sortNats ((recs.filter (fun r => r.isAdd || r.isRemove)).map (·.group))
            arm (({ s with tap := tap }).stampTaps s.tap) { c with
              recs := recs, results := res.map (·.1), chunks := res.map (·.2), bents := bents, took := newPositions s.tap tap })

/-- RECOMPILE (R213): an ARMED change is compiled again after another change, a bent action or a commit; STALE is latched, and the
positions that it took are withdrawn (R206). -/
def execRecompile (s : State) : Out :=
  .next (
    match s.chg with
    | none => s
    | some c =>
      if c.state = .armed && c.stale then
        ((s.withdraw c).startCompile { c with took := [], results := [], stale := false }).latch R.CUT_EVT_STALE
      else s)

/-! ### Applying (R204 to R208, R219) -/

/-- The state registers of a change that starts applying. -/
def State.showApplying (s : State) (c : Change) : State :=
  match c.kind with
  | .list j => s.setFld R.CUT_Lj_STAT_STATE j listApplying
  | .scene _ => s.setFld R.CUT_SCN_STAT_STATE 0 4
  | .replacement => (s.setFld R.SCB_REPL_STAT_STATE 0 3).setFld R.SCB_REPL_STAT_STEP 0 0
  | .base | .journal _ => s

/-- APPLY_START (R205, R211): at tick T − 2 an ARMED change enters APPLYING; one that is not ARMED in time fails with LATE (R213), or
takes its frame once it is compiled again (R221, R312). -/
def execApplyStart (s : State) : Out :=
  .next (State.stampTick (
    match s.chg with
    | none => s
    | some c =>
      match c.frame with
      | none => s
      | some t =>
        if c.state = .applying || !frameReached (frameAdd s.frame 2) t then s
        else if c.state = .armed && !c.stale then
          ({ s with chg := some { c with state := .applying }, actions := s.actions.map (fun (a : BentAction) => a.defer c t) }).showApplying c
        else if c.defers then { s with chg := some { c with frame := none } }
        else s.failChange c { code := failLate, index := 0 }) s)

/-- What becomes of the members as a schedule takes the place of another (R139, R140): members leave, and members added by the records
join or are UNLOCKED. One that was a member keeps its relation where its last checked word agreed with it (R141). -/
def State.followMembers (s : State) (old : Schedule) (recs : List EditRec) : State :=
  let s1 := old.bents.entries.foldl (fun t e => e.2.members.foldl (fun u m =>
    match u.sched.memberOf m.src with
    | some (b, _) => if b = e.1 then u else u.latch R.BNT_EVT_MEMBER_LEAVE e.1
    | none => ({ u with links := u.links.del m.src }).latch R.BNT_EVT_MEMBER_LEAVE e.1) t) s
  (recs.filter EditRec.isAdd).foldl (fun t r =>
    (t.updLink r.src (fun l => { l with
      bent := r.group, state := .pending, joinAt := some t.frame, confirmed := false, steps := [], anew := none
      k := match l.anew with
        | some a => a.k
        | none => if l.run = 0 || l.state = .pending then l.k else none
      cand := (l.anew.map (·.cand)).getD l.cand
      run := (l.anew.map (·.run)).getD l.run })).joinMember r.src) s1

/-- Chunk or step `k` of the applying change takes effect in the present frame (R208, R235, R247). -/
def State.applyChunk (s : State) (c : Change) (k : Nat) : State :=
  let old := s.sched
  let recs := c.chunks.getD k []
  let new := c.results.getD k old
  let s0 := { s with sched := new, chg := some { c with done := k + 1 } }
  let s1 := (if k = 0 && s0.copying then s0.journal recInfo (c.frame.getD 0) 0 (c.recs.map EditRec.words) else s0).countDual recs.length
  let s2 := (recs.filter EditRec.isSlot).foldl (fun t r => (t.clearSide (2 * r.out)).clearSide (2 * r.out + 1)) s1
  let s3 := ((s2.clearMoved (fun _ => true) old new).followMembers old recs).followGroups old.map new.map
  let s4 := (s3.releaseTaps old new).settleTaps
  let s5 := s4.watchOver.noteApply s
  match c.kind with
  | .scene _ => if k = 0 then s5.setFld R.CUT_SCN_LAST_FRAME 0 (c.frame.getD 0) else s5
  | .replacement => s5.setFld R.SCB_REPL_STAT_STEP 0 (k + 1)
  | _ => s5

/-- Chunk `k` is next, and its frame T + k has come. -/
def State.chunkDue (s : State) : Option (Change × Nat) :=
  match s.chg with
  | none => none
  | some c =>
    match c.frame with
    | none => none
    | some t =>
      if c.state = .applying && c.done < c.results.length && frameReached s.frame (frameAdd t c.done) then some (c, c.done) else none

/-- APPLY_TICK (R208): at tick T the logical map, the costs and the counts take the change's values. -/
def execApplyTick (s : State) : Out :=
  .next (State.stampTick (match s.chunkDue with
    | some (c, 0) => if c.kind = .replacement then s else s.applyChunk c 0
    | _ => s) s)

/-- CHUNK_APPLY (R219): chunk `k` of a change that spans frames applies at frame T + k. -/
def execChunkApply (s : State) : Out :=
  .next (State.stampTick (match s.chunkDue with
    | some (c, k + 1) => if c.kind = .replacement then s else s.applyChunk c (k + 1)
    | _ => s) s)

/-- REPLACE_STEP (R221): step `i` of a full re-placement applies at frame T + i. -/
def execReplaceStep (s : State) : Out :=
  .next (State.stampTick (match s.chunkDue with
    | some (c, k) => if c.kind = .replacement then s.applyChunk c k else s
    | none => s) s)

/-- The registers and events of a change that reaches DONE. -/
def State.showDone (s : State) (c : Change) : State :=
  match c.kind with
  | .list j => (s.setFld R.CUT_Lj_STAT_STATE j listDone).latch (R.CUT_EVT_DONE.plus j)
  | .scene _ => (s.setFld R.CUT_SCN_STAT_STATE 0 0).latch R.CUT_EVT_SCN_DONE
  | .replacement => (s.setFld R.SCB_REPL_STAT_STATE 0 0).latch R.SCB_EVT_REPL_DONE
  | .base => s.updRaise (fun r => { r with baseDone := true })
  | .journal _ => s

/-- CHANGE_DONE (R205, R208, R211): at the tick after its last chunk the change reaches DONE, and released taps are cleared. -/
def execChangeDone (s : State) : Out :=
  .next (State.stampTick (
    match s.chg with
    | none => s
    | some c =>
      if c.state = .applying && c.done = c.results.length && frameReached s.frame (frameAdd (c.frame.getD 0) c.done) then
        (({ s with tap := s.clearTaps }).showDone c).freeScribe
      else s) s)

/-! ### Scenes (R216 to R218) -/

/-- The effect of a write of CUT_SCN_CMD (R215, R217): with GO = 1 the scene is triggered at the next tick. -/
def State.sceneCommand (s : State) (w : Nat) : State :=
  if bit w 8 = 0 then s
  else if !s.mayChange then s.refuseCmd
  else { s with scnTrig := s.scnTrig ++ [(frameAdd s.frame 1, bits w 0 8)] }

/-- SCENE_DEFECT_TRIGGER (R217): with EN and PRIMED both 1, the entry of a selected defect on the trigger's lane triggers the scene at the
next tick, and PRIMED clears. On a standby nothing happens. -/
def execSceneDefectTrigger (k : Fin 256) (s : State) : Out :=
  .next (
    let lane := s.fld R.CUT_SCNn_TRIG_LANE k.val
    let hit := [Defect.los, .lol, .lof, .lais, .lsf, .lsd, .lmm].any (fun d =>
      (d.sceneBit.map (fun b => (s.fld R.CUT_SCNn_TRIG_DEFECTS k.val).testBit b)).getD false && s.declared lane d)
    if s.mayChange && s.flag R.CUT_SCNn_TRIG_EN k.val && s.flag R.CUT_SCNn_TRIG_PRIMED k.val && hit then
      { s.setFlag R.CUT_SCNn_TRIG_PRIMED k.val false with scnTrig := s.scnTrig ++ [(frameAdd s.frame 1, k.val)] }
    else s)

/-- The first trigger whose tick has come: the earliest, the lowest scene number on a tie (R218). -/
def State.firstTrigger (s : State) : Option (Nat × Nat) :=
  (s.scnTrig.filter (fun x => frameReached s.frame x.1)).foldl (fun b x =>
    match b with
    | none => some x
    | some y => if frameLater y.1 x.1 || (y.1 = x.1 && x.2 < y.2) then some x else b) none

/-- SCENE_QUEUE (R218): a triggered scene joins the queue of 16, or is dropped with SCN_DROP where the queue is full or holds it. -/
def execSceneQueue (s : State) : Out :=
  .next (
    match s.firstTrigger with
    | none => s
    | some x =>
      let s1 := { s with scnTrig := s.scnTrig.erase x }
      if 16 ≤ s.scnQ.length || s.scnQ.contains x.2 then s1.latch R.CUT_EVT_SCN_DROP
      else { s1 with scnQ := s1.scnQ ++ [x.2] })

/-- The head of the scene queue starts compiling, or fails with LEN (R218). -/
def State.startScene (s : State) : State :=
  match s.scnQ with
  | [] => s
  | n :: rest =>
    let s1 := { s with scnQ := rest }
    let c : Change := { kind := .scene n, since := s.frame }
    if s.fld R.CUT_SCNn_LEN_LEN n = 0 then
      (s1.setFld R.CUT_SCN_STAT_CUR 0 n).reportFail c { code := failLen, index := 0 }
    else s1.startCompile c

/-- SCENE_START (R218): the head of the queue goes before every host list: one in COMPILING or ARMED returns to QUEUED, its delta
discarded; a change in APPLYING, and any change that is no host list, completes first. A scene waits for the map and the scene region to be
restored after a wipe (R484). -/
def execSceneStart (s : State) : Out :=
  .next (
    if s.scnQ.isEmpty || s.flag R.TLY_REKEY_MAP || s.flag R.TLY_REKEY_SCENES then s
    else match s.chg with
    | none => s.startScene
    | some c =>
      match c.kind with
      | .list j =>
        if c.state = .applying then s
        else
          let s1 := ((s.withdraw c).journalCancel c).freeScribe
          let back : Change :=
            { kind := .list j, since := c.since, recs := c.recs, applyAt := c.applyAt, named := c.named, frame := c.frame }
          ({ s1.setFld R.CUT_Lj_STAT_STATE j listQueued with queued := s1.queued ++ [back] }).startScene
      | _ => s)

/-! ### Full re-placement (R215, R221) -/

/-- The effect of a write of SCB_REPL_CTRL.GO (R215, R221). -/
def State.replaceCommand (s : State) : State :=
  if !s.mayChange || s.fld R.SCB_REPL_STAT_STATE ≠ 0 then s.refuseCmd
  else { s.setFld R.SCB_REPL_STAT_STATE 0 1 with queued := s.queued ++ [{ kind := .replacement, since := s.frame }] }

/-! ### The staging window and the scene directory (R209, R210, R216) -/

/-- The list whose record an address holds. -/
def stagingList (a : Nat) : Option Nat :=
  if 0x0110000000 ≤ a ∧ a < 0x0112000000 then some ((a - 0x0110000000) / 0x1000000) else none

/-- A write of list `j`: accepted while the list is at rest, else dropped with STAGE_BUSY (R210). -/
def State.stageWrite (s : State) (j : Nat) (f : State → State) : State :=
  if s.listAtRest j then f s else s.latch R.CUT_EVT_STAGE_BUSY

/-- A scene's directory may be written: it is neither queued nor compiling (R216). -/
def State.sceneFree (s : State) (n : Nat) : Bool :=
  !s.scnQ.contains n &&
    (match s.chg with
      | some c => !(c.kind == .scene n && c.state == .compiling)
      | none => true)

/-! ### The logical map and the merged-slot registers (R193, R194, R224) -/

/-- What SCB_MREC_W, SCB_MREC_P and SCB_MREC_G read for the slot that master `m` selects (R224). -/
def State.mrecWords (s : State) (m : Nat) : List Nat :=
  match s.sched.map.find (s.mfld R.SCB_MREC_SEL_SLOT 0 m) with
  | some (.merged w p g e) => [w + 2 ^ 31, p + 2 ^ 31, g + e * 2 ^ 16]
  | _ => [0, 0, 0]

/-- A read of SCB_MREC_W latches SCB_MREC_P and SCB_MREC_G for the master (R224). -/
def State.readMrec (s : State) (m : Nat) : State × Nat :=
  let ws := s.mrecWords m
  ({ s with mrecHeld := s.mrecHeld.put m (ws.drop 1) }, ws.getD 0 0)

end Sys2Proof.Machine
end

