-- ==== Sys2Proof/Machine/Tally.lean ====
section
/-! DEFINITION. The tally: its log, the boot record and the ageing sample (R361, R468, R470 to R474).
Readings and choices: DEDUCED (log entry 40). -/

namespace Sys2Proof.Machine

/-- The tally changed by `f`. -/
def State.updTally (s : State) (f : Tally → Tally) : State := { s with tally := f s.tally }

/-! ### The log (R472, R473) -/

/-- The records that the log holds (R470). -/
def logRecords : Nat := 12032

/-- How many log records a second may take (R473). -/
def perSecond : Nat := 16

/-- A list of bytes cut or filled with 0 to `n`. -/
def fitBytes (n : Nat) (l : List Nat) : List Nat := (l ++ List.replicate n 0).take n

/-- The 32 bytes of a log record (R472). -/
def recordBytes (seq raises : Nat) (r : TallyRec) : List Nat :=
  let b := bytes4 seq ++ bytes4 raises ++ bytes4 r.frame ++ [r.kind % 256, r.cls % 256, r.inst % 256, r.inst / 256 % 256]
    ++ fitBytes 12 (r.data.map (· % 256))
  b ++ bytes4 (crc32Bytes b)

/-- A record takes the next place of the log (R472). -/
def State.logWrite (s : State) (r : TallyRec) : State :=
  { s.updTally (fun t => { t with
      log := t.log.put t.next (recordBytes t.seq t.raises r)
      seq := (t.seq + 1) % 2 ^ 32
      next := (t.next + 1) % logRecords
      wrapped := t.wrapped || t.next + 1 == logRecords }) with tallySecond := s.tallySecond + 1 }

/-- Whether a second's places are taken (R473). -/
def State.logFull (s : State) : Bool := decide (perSecond ≤ s.tallySecond)

/-- The oldest record that waits is written, after a SUPPRESSED record where this is the first of a second and records were lost before; or
it is not written, counted, and LOG_SUPPRESS is latched (R472, R473). -/
def State.writeTally (s : State) : State :=
  match s.tallyQ with
  | [] => s
  | r :: rest =>
    let s0 := { s with tallyQ := rest }
    if s0.logFull then ({ s0 with tallyLost := s0.tallyLost + 1 }).latch R.TLY_EVT_LOG_SUPPRESS
    else
      let s1 := if s0.tallySecond = 0 ∧ 0 < s0.tallyLost then
          { s0.logWrite { kind := tallySuppressed, cls := 0, inst := 0, frame := s0.frame, data := bytes4 s0.tallyLost } with tallyLost := 0 }
        else s0
      s1.logWrite r

/-- Every record that waits is written, or suppressed (R502: RESET_N completes the tally's writes). -/
def State.drainTally (s : State) : State := s.tallyQ.foldl (fun t _ => t.writeTally) s

/-- TALLY_RECORD (R472, R473). -/
def execTallyRecord (s : State) : Out := .next s.writeTally

/-- The count of a second's records starts again at ticks whose frame number is a multiple of 8,000 (R473), and what was being written in the frame
before has been (log entry 40). -/
def State.tickTally (s : State) : State :=
  let s1 := s.updTally (fun t => { t with writing := none })
  if s.frame % 8000 = 0 then { s1 with tallySecond := 0 } else s1

/-! ### The boot record (R361, R362, R471) -/

/-- Copy A is the one in force: the newer whose CRC-32 is good (R471). -/
def Tally.inForceA (t : Tally) : Bool := t.copyA.good && (!t.copyB.good || decide (t.copyB.seq < t.copyA.seq))

/-- The copy in force (R471). -/
def Tally.boot (t : Tally) : BootCopy := if t.inForceA then t.copyA else t.copyB

/-- PREF and TRIAL are written to the other copy, the older (R471). -/
def State.setBoot (s : State) (pref trial : Nat) : State :=
  s.updTally (fun t =>
    let c : BootCopy := { seq := t.boot.seq + 1, pref := pref % 2, trial := trial % 2 }
    if t.inForceA then { t with copyB := c, writing := some .copyB } else { t with copyA := c, writing := some .copyA })

/-- Power is lost: a write that was still going on leaves a bad CRC-32 where it stood (R362, R471, R474). Whether it was is a free value (DESIGN
CHOICE: log entry 40). -/
def State.cutWrite (s : State) : State :=
  (s.updTally (fun t =>
    if Config.writeCut s.free then
      match t.writing with
      | some .copyA => { t with copyA := { t.copyA with good := false }, writing := none }
      | some .copyB => { t with copyB := { t.copyB with good := false }, writing := none }
      | some (.block k) => { t with blocks := t.blocks.modify k {} (fun b => { b with good := false }), writing := none }
      | none => t
    else { t with writing := none })).drawn

/-! ### Ageing (R468, R474) -/

/-- The frames of an hour. -/
def hourFrames : Nat := 28800000

/-- The lowest of a lane's margins in a sample, in percent. -/
def lowMargin (a : AgeSample) (n : Nat) : Nat :=
  match a.margins[n]? with
  | some m => min m.1.toNat m.2.toNat
  | none => 127

/-- The summary block in force: the newest with a good CRC-32 (R474). -/
def Tally.summary (t : Tally) : SummaryBlock :=
  ((List.range 16).findSome? (fun k => (t.blocks.find ((t.block + 16 - k) % 16)).bind (fun b => if b.good then some b else none))).getD {}

/-- A lane's hours in SERVICE (R474). -/
def LaneLife.hours (l : LaneLife) : Nat := l.service / hourFrames

/-- The frames that lane `n` has spent in SERVICE since the last sample (R474). -/
def State.serviceFrames (s : State) (n : Nat) : Nat :=
  s.sist.lifeService.get n 0 + ((s.sist.serviceFrom.find n).map s.sinceFrame).getD 0

/-- A lane's life after an hour (R474). -/
def State.lifeNext (s : State) (a : AgeSample) (n : Nat) : LaneLife :=
  let l := s.tally.summary.lanes.get n {}
  { service := l.service + s.serviceFrames n
    fails := l.fails + s.sist.lifeFails.get n 0
    reverts := l.reverts + s.sist.lifeReverts.get n 0
    margin := min l.margin (lowMargin a n) }

/-- The minutes that an hour adds to a sensor's bins (R474). -/
def addMinutes (old : Tab Nat) (ms : List (BitVec 8)) : Tab Nat :=
  (List.range 32).foldl (fun t k => t.store k 0 (t.get k 0 + ((ms[k]?.map BitVec.toNat).getD 0))) old

/-- The summary block that a sample makes (R474). -/
def State.summaryBlock (s : State) (a : AgeSample) : SummaryBlock :=
  { raises := s.tally.raises, frame := s.frame, sample := some a
    bins := (List.range 8).foldl (fun b k => b.put k (addMinutes (b.get k {}) (a.minutes.getD k []))) s.tally.summary.bins
    lanes := (List.range 280).foldl (fun l n => l.put n (s.lifeNext a n)) s.tally.summary.lanes }

/-- The sample writes the next block in rotation (R474). -/
def State.writeBlock (s : State) (a : AgeSample) : State :=
  s.updTally (fun t =>
    let k := (t.block + 1) % 16
    { t with block := k, blocks := t.blocks.put k (s.summaryBlock a), writing := some (.block k) })

/-- Consecutive samples in which a lane's margin lies below MARGIN_MIN (R461). -/
def State.countMargins (s : State) (a : AgeSample) : State :=
  s.updSist (fun x => { x with
    lifeFails := {}, lifeReverts := {}, lifeService := {}, serviceFrom := x.serviceFrom.mapVals (fun _ _ => s.frame)
    ageFrom := frameAdd x.ageFrom hourFrames
    margins := (List.range 256).foldl (fun m n =>
      m.store n 0 (if lowMargin a n < s.fld R.TLY_SIST_CFG_MARGIN_MIN then m.get n 0 + 1 else 0)) x.margins })

/-- An ageing sample is due: 28,800,000 frames since the last, or since tick 0 (R468). -/
def State.sampleDue (s : State) : Bool := s.ticking && decide (hourFrames ≤ s.sinceFrame s.sist.ageFrom)

/-- AGEING_SAMPLE (R468, R474): at the first tick after each 28,800,000 frames. AGE_WARN is latched when a ring oscillator has slowed by more
than RO_MAX. -/
def execAgeingSample (a : AgeSample) (s : State) : Out :=
  .next (
    if s.sampleDue then
      let s1 := (s.writeBlock a).countMargins a
      s1.latchIf (a.ro.any (fun v => decide (s.fld R.TLY_SIST_CFG_RO_MAX < v.toNat))) R.TLY_EVT_AGE_WARN
    else s)

end Sys2Proof.Machine
end

