-- ==== Sys2Proof/Machine/Heartbeat.lean ====
section
/-! DEFINITION. What mate lanes carry: the heartbeat in row 0, slot columns 0 to 23, the blocks, and the announcement of a takeover (R305,
R307, R308, R321). -/

namespace Sys2Proof.Machine

/-- The mate lanes' physical lane indices (R5). -/
def mateLanes : List Nat := (List.range 8).map (fun i => 272 + i)

/-- The mate lanes in SERVICE. -/
def State.liveMates (s : State) : List Nat := mateLanes.filter s.inService

/-- FAULTMASK of the last transmit frame: bit o is 1 when a side of output port o was in FAULT at its end (R249, R308). -/
def State.shownMask (s : State) : Nat := s.sides.shown.foldl (fun m x => orBit m (x.slot / 131072)) 0

/-- The output ports with a side in FAULT, a bit each (R328). -/
def State.faultMask (s : State) : Nat :=
  (s.sides.live.entries.filter (fun e => e.2.fault)).foldl (fun m e => orBit m (e.1 / 2 / 131072)) 0

/-- LANES: bit n is 1 when traffic lane Ln is in SERVICE (R308). -/
def State.laneMask (s : State) : Nat := (List.range 256).foldl (fun m n => if s.inService n then m + 2 ^ n else m) 0

/-- SEED_CHK: the CRC-32 over the eight bytes of GRN_SEED, low half first, least significant byte first (R305). -/
def State.seedChk (s : State) : Nat := crc32Bytes ((leBytes 8 (s.fld R.GRN_SEED_SEED)).map BitVec.toNat)

/-- The device has no failure of R317. -/
def State.healthy (s : State) : Bool := s.mateState != mateFailed

/-- Words of a mask, 32 bits each. -/
def maskWords (m : Nat) : List Nat := (List.range 8).map (fun k => m / 2 ^ (32 * k) % 2 ^ 32)

/-- The heartbeat that describes frame `f` (R308): 24 words of 32 bits. -/
def State.heartbeat (s : State) (f : Nat) : List Nat :=
  let w0 := 0xB7 * 2 ^ 24 + s.mateState * 2 ^ 20 + s.fld R.MAT_STAT_SIDE * 2 ^ 19 + b2n s.healthy * 2 ^ 18
    + s.fld R.MAT_STAT_KEPT * 2 ^ 17
  let body := [w0, f % 2 ^ 32, s.fld R.MAT_JSENT_VALUE, s.fld R.MAT_JACK_VALUE] ++ maskWords s.shownMask
    ++ [s.seedChk, s.fld R.DEV_COMMIT_SEQ_CSEQ, 0] ++ maskWords s.laneMask
  body ++ [crc32Words body]

/-- A frame ends: the heartbeat that describes it is formed (R308). -/
def State.closeHeartbeat (s : State) : State := s.updMate (fun m => { m with hbOut := s.heartbeat s.frame })

/-- The heartbeat sent in transmit frame `f`, which describes the frame before, as mate-channel words by slot column (R307, R308). -/
def State.heartbeatSlots (s : State) (f : Nat) : Tab Nat :=
  ⟨(List.range 24).map (fun k => (k, slotWord (s.mate.hbOut.getD k 0) 0 (f % 4)))⟩

/-- The block positions of a mate lane's frame after the heartbeat's columns (R307). -/
def blockSlots : Nat := 2047

/-- The blocks that have not been acknowledged: those of the records held, then, until the epoch is installed, those of its parts (R307,
R314); none in a side conflict (R303). -/
def State.mateBlocks (s : State) : List (List Nat) :=
  let ph := s.fld R.MAT_COPY_PHASE
  if !s.isActive || s.flag R.MAT_STAT_CONFLICT then []
  else s.mate.journal.flatMap JRec.blocks ++ (if ph = 1 || ph = 2 then s.mate.out.flatMap CopyPart.blocks else [])

/-- The blocks that mate lane `n` sends in transmit frame `f`, spread over the mate lanes in SERVICE and sent again and again, a position of
every lane in turn (R307; DESIGN CHOICE: log entry 13). -/
def State.mateData (s : State) (n f : Nat) : List (List Nat) :=
  let all := s.mateBlocks
  if all.isEmpty then []
  else
    let k := s.liveMates.length
    (List.range blockSlots).map (fun b => all.getD (((f * blockSlots + b) * k + s.liveMates.idxOf n) % all.length) [])

/-- The payloads of a heartbeat that is good on mate lane `l`: the lane is in SERVICE, its 24 words are all parity-good, TYPE is 0xB7 and
the CRC-32 over words 0 to 22 is good (R308). -/
def State.goodHeartbeat (s : State) (l : Nat) (ws : List Nat) : Option (List Nat) :=
  let p := ws.map payloadOf
  if s.inService (272 + l) && ws.length == 24 && ws.all parityGood && p.getD 0 0 / 2 ^ 24 == 0xB7
      && crc32Words (p.take 23) == p.getD 23 0 then some p else none

/-! ### Announcements (R102, R321) -/

/-- The takeover word (R102, R322). -/
def State.tkwWord (s : State) : Nat :=
  if s.flag R.MAT_STAT_TKV then 2 ^ 35 + s.fld R.MAT_STAT_NEW_ROLE * 2 ^ 33 + s.mate.tkFrame % 2 ^ 32 else 0

/-- The takeover that the mate announces in TKW on a mate lane, in the present frame so far or in one before, for a frame that has not passed
(R102, R321). -/
def State.announced (s : State) : Option (Nat × Nat) :=
  let heard := fun (tkv : Bool) (t role : Nat) => if tkv && frameReached t s.frame then some (t, role) else none
  s.liveMates.findSome? (fun n =>
    ((s.lane n).tkwSoFar.bind (fun v => heard (bit v 34 == 1) (bits v 0 32) (bits v 32 2))).or
      (heard (s.flag R.LN_RX_STW_TKV n) (s.fld R.LN_RX_TKW_VALUE n) (s.fld R.LN_RX_STW_NEW_ROLE n)))

/-- An announced takeover, by the mate or not, may be learnt: no other is under way, but for a planned handover that a takeover by the mate replaces
(R324). -/
def State.freeToLearn (s : State) (mine : Bool) : Bool :=
  match s.mate.take with
  | none => true
  | some k => k.done || (k.handover && !mine)

/-- A takeover by the mate, or a handover to this device, is learnt from its announcement (R321, R327), the first by a former active that has FAILED
too. What caused it the announcement does not say: MAT_TAKE.CAUSE is a free value (DESIGN CHOICE: log entry 8). -/
def State.learnTake (s : State) : State :=
  match s.announced with
  | none => s
  | some (t, role) =>
    let mine := role == 2
    if !s.freeToLearn mine || s.flag R.MAT_STAT_CONFLICT || (s.mate.take.map (·.t)) == some t
        || !(if mine then s.mateState == mateReady || s.mateState == mateJoining
          else s.isActive || (s.mateState == mateFailed && s.mate.wasActive)) then s
    else
      let c := Config.open' s.free % 8
      let s1 := ((s.drawn.setFld R.MAT_TAKE_CAUSE 0 c).setFlag R.MAT_TAKE_DECIDER 0 false).setFld R.MAT_TAKE_FRAME_VALUE 0 t
      (s1.setFlag R.MAT_TAKE_FROM_COPY 0 false).updMate (fun m => { m with
        take := some { t := t, cause := c, mine := mine, handover := mine } })

/-- TKV, NEW_ROLE and TK_FRAME that this device sends: from D + 1 to T + 7 (R321). -/
def State.showTake (s : State) : State :=
  let off := ((s.setFlag R.MAT_STAT_TKV 0 false).setFld R.MAT_STAT_NEW_ROLE 0 0).updMate (fun m => { m with tkFrame := 0 })
  match s.mate.take with
  | none => off
  | some t =>
    if frameReached s.frame (frameAdd t.t 8) then
      (if frameReached s.frame (frameAdd t.t 260) then off.updMate (fun m => { m with take := none }) else off)
    else ((s.setFlag R.MAT_STAT_TKV 0 true).setFld R.MAT_STAT_NEW_ROLE 0 (if t.mine then 1 else 2)).updMate
      (fun m => { m with tkFrame := t.t })

/-- A TKW accepted on a mate lane announces a takeover or a handover: this device sends its own announcement from this frame on, in every row
(R321; DEDUCED: log entry 50). -/
def State.hearTake (s : State) : State :=
  let s1 := s.learnTake
  if s1.mate.take = s.mate.take then s
  else
    let s2 := s1.showTake
    { s2 with lanes := s2.lanes.mapVals (fun _ l =>
        if l.tx.traffic && l.tx.frame = s2.frame then { l with tx := { l.tx with tkw := s2.tkwWord } } else l) }

end Sys2Proof.Machine
end

