-- ==== Sys2Proof/Machine/Plate.lean ====
section
/-! DEFINITION. The plate's reads: the words of an output port in a transmit frame, their qualification, the route states of their sides,
and the merge (R24, R25, R33, R184, R229 to R239, R252 to R256).
Readings and choices: DEDUCED (log entry 48), DEDUCED (log entry 56). -/

namespace Sys2Proof.Machine

/-! ### The words that a port's plate page gives -/

/-- The outcomes of R230. -/
inductive Outcome where
  | pf | ais | seqBad | grnBad | match'
deriving DecidableEq, Repr

/-- The outcome of a word whose page and source are expected (R229, R230). -/
def qualify (w grn seq : Nat) : Outcome :=
  if !parityGood w then .pf
  else if payloadOf w = 0xFFFFFFFF then .ais
  else if seqOf w ≠ seq % 4 then .seqBad
  else if grnOf w ≠ grn then .grnBad
  else .match'

/-- An outcome that is a mismatch (R230). -/
def Outcome.mismatch (o : Outcome) : Bool := o == .seqBad || o == .grnBad

/-- The arrival offset in force for page `n` as the steps of late leave it (R143, R147): none where there was none of late, and the offset itself
none where a step has taken it outside its range. -/
def Link.arrAt (l : Link) (n : Nat) : Option (Option Nat) :=
  match (l.steps.filter (fun x => frameReached n x.page)).getLast? with
  | some x => some x.after
  | none => l.steps.head?.map (·.before)

/-- The plate replaces a bent member's word by an AIS word (R25): the member is UNLOCKED or BLOCKED, its bent pauses, or page `n` would
be read under a deskew of another arrival offset, `arr`, than the one in force for it (R147). A PENDING member's connections stay as they are
until its frame (R138, R146). -/
def State.plateAis (s : State) (src f n : Nat) (arr : Option Nat) : Bool :=
  match s.links.find src with
  | none => false
  | some l =>
    let paused := l.state != .pending && ((s.pauses.get l.bent []).any (fun p => frameLater p.until' f))
    let joining := match l.joinAt with
      | some j => l.state == .pending && frameReached f j
      | none => false
    let stepped := (l.arrAt n).any (fun a => a.isNone || a != arr)
    l.state == .unlocked || l.state == .blocked || joining || paused || stepped

/-- One copy of a word as the plate reads it for transmit frame `f`: the word, and its outcome (R183, R229, R230). -/
def State.readCopy (s : State) (sc : Schedule) (o f src addr : Nat) : Nat × Outcome :=
  let n := pageFor f (sc.deskew src)
  let grn := s.grainOf src n
  let w := if s.plateAis src f n ((sc.memberOf src).map (·.2.arr)) then aisWord grn (n % 4) else (s.plate.get (2 * o + f % 2) {}).get addr 0
  (w, qualify w grn n)

/-! ### Route states (R232 to R235) -/

/-- The mismatches of a side in the 32 transmit frames before `f` (R232). -/
def SideSt.window (sd : SideSt) (f : Nat) : List Nat :=
  sd.marks.filter (fun m => let d := (f + 2 ^ 32 - m) % 2 ^ 32; decide (1 ≤ d) && decide (d ≤ 32))

/-- The route state of side `k` for transmit frame `f` is CLEAN (R232). -/
def State.sideClean (s : State) (k f : Nat) : Bool :=
  match s.sides.live.find k with
  | none => true
  | some sd => !sd.fault && (sd.window f).isEmpty

/-- A word's outcome joins its side's window in transmit frame `f`; the fourth mismatch of 32 frames declares FAULT (R232 to R234). `g` is
the scarf group of a merged slot. -/
def State.markSide (s : State) (k f : Nat) (o : Outcome) (g : Option Nat) : State :=
  let sd := s.sides.live.get k {}
  let old := sd.window f
  let marks := if o.mismatch then f :: old.filter (fun m => decide ((f + 2 ^ 32 - m) % 2 ^ 32 ≤ 31)) else old
  let run := if !sd.fault then 0 else match o with
    | .match' => sd.run + 1
    | .pf | .ais => sd.run
    | _ => 0
  if !sd.fault && o.mismatch && 4 ≤ marks.length then
    let s1 := s.setSides (s.sides.live.put k { marks := marks, fault := true, run := 0 })
    let cause := if o = .seqBad then 1 else 0
    let last := k / 2 + (k % 2) * 2 ^ 25 + cause * 2 ^ 26 + 2 ^ 31
    let s2 := ((s1.setFld R.GRN_LAST_SLOT 0 (k / 2)).setFld R.GRN_LAST_SIDE 0 (k % 2)).setFld R.GRN_LAST_CAUSE 0 cause
    let s3 := ((s2.setFld R.GRN_LAST_VALID 0 1).setFld R.GRN_LAST_FRAME_FRAME 0 f).latchAs R.GRN_EVT_GRN_FAULT 0 0 last
    (match g with
     | some g => s3.latchAs R.SCF_GEVT_GRN_FAULT g g last
     | none => s3)
  else if marks.isEmpty && !sd.fault then s.setSides (s.sides.live.del k)
  else s.setSides (s.sides.live.put k { marks := marks, fault := sd.fault, run := run })

/-- Every outcome counts in the device's mismatch counters (R252). -/
def State.countOutcome (s : State) (o : Outcome) : State :=
  match o with
  | .grnBad => s.addFld R.GRN_CNT_COUNT 0 1
  | .seqBad => s.addFld R.GRN_CNT_COUNT 1 1
  | _ => s

/-! ### Merged slots (R237 to R239) -/

/-- The scarf counter of a bad copy (R255). -/
def Outcome.badCounter : Outcome → Nat
  | .pf => 0
  | .ais => 1
  | .seqBad => 2
  | .grnBad => 3
  | .match' => 4

/-- A copy that was read: its word, its outcome, whether it is good, and whether its side is locked out. -/
structure Copy where
  word : Nat
  out : Outcome
  good : Bool
  locked : Bool
deriving DecidableEq, Repr

/-- What is counted of a copy (R241, R255, R256). -/
def State.countCopy (s : State) (g side : Nat) (c : Copy) : State :=
  let s1 := s.countOutcome c.out
  if c.locked || c.good then s1
  else (s1.addFld (if side = 0 then R.SCF_GBAD_W_COUNT else R.SCF_GBAD_P_COUNT) g 1).addFld R.SCF_CNT_COUNT c.out.badCounter 1

/-- The selection of R238: the word, whether it is taken from the P copy, and whether neither copy is good. -/
def select (pref : Nat) (w p : Copy) : Nat × Bool × Bool :=
  if w.good && !p.good then (w.word, false, false)
  else if p.good && !w.good then (p.word, true, false)
  else
    let c := if pref = 0 then w else p
    if w.good then (c.word, pref == 1, false)
    else if isAis c.word then (c.word, pref == 1, true)
    else (forcePf c.word, pref == 1, true)

/-- A copy of a merged slot whose side is `k` + `side`, read from plate address `addr`: good when it is a MATCH, its side is CLEAN, its
bent does not hold it and its side is not locked out (R237). -/
def State.copyOf (s : State) (sc : Schedule) (o f k g side src addr : Nat) : Copy :=
  let r := s.readCopy sc o f src addr
  let locked := s.lockedOut g side
  { word := r.1, out := r.2, locked := locked
    good := r.2 == .match' && s.sideClean (k + side) f && !((s.links.find src).map (fun l => l.state == .held)).getD false
      && !locked }

/-- The two copies of a merged slot are read, checked, counted and merged (R237 to R239, R241, R255, R256). -/
def State.mergeSlot (s : State) (sc : Schedule) (o f slot w p g aw ap : Nat) : State × Nat :=
  let k := 2 * (131072 * o + slot)
  let copy := s.copyOf sc o f k g
  let cw := copy 0 w aw
  let cp := copy 1 p ap
  let r := select (s.pref g) cw cp
  let s1 := (s.countCopy g 0 cw).countCopy g 1 cp
  let s2 := (s1.markSide k f cw.out (some g)).markSide (k + 1) f cp.out (some g)
  let n := fun (c : Copy) => (b2n (!c.locked), b2n (!c.locked && !c.good))
  let s3 := s2.countWindow g f (n cw) (n cp)
  let s4 := if r.2.1 then (s3.addFld R.SCF_GSEL_P_COUNT g 1).bankCount 0xB g 1 else s3
  let s5 := if r.2.2 then
      ((((s4.addFld R.SCF_GNEITHER_COUNT g 1).addFld R.SCF_CNT_COUNT 5 1).bankCount 0xC g 1).latch R.SCF_GEVT_NEITHER g).latch
        R.SCF_EVT_NEITHER_ANY
    else s4
  let s6 := if cw.good && cp.good && payloadOf cw.word != payloadOf cp.word then
      ((s5.satFld R.SCF_GDIFF_COUNT g 1).latch R.SCF_GEVT_DIFF g).latch R.SCF_EVT_DIFF_ANY
    else s5
  (s6, r.1)

/-! ### A port in a transmit frame -/

/-- One plate read entry of port `o` in transmit frame `f` (R184): an idle word, the word at a plate address, or the merge of the two
addresses of a scarf table entry; any other code sends the idle word and latches PLATE_CODE. -/
def State.readSlot (s : State) (sc : Schedule) (o f slot code : Nat) : State × Nat :=
  let route := sc.map.find (131072 * o + slot)
  if code < 0x24000 then
    match route with
    | some (.single src) =>
      let r := s.readCopy sc o f src code
      ((s.countOutcome r.2).markSide (2 * (131072 * o + slot)) f r.2 none, r.1)
    | _ => (s, (s.plate.get (2 * o + f % 2) {}).get code 0)
  else if code < 0x28000 then
    match route, (sc.scarf.get o {}).find (code - 0x24000) with
    | some (.merged w p g _), some (aw, ap) => s.mergeSlot sc o f slot w p g aw ap
    | _, _ => (s, idleWord f)
  else if code = 0x3FFFF then (s, idleWord f)
  else (s.latch R.FAB_EVT_PLATE_CODE, idleWord f)

/-- The words of port `o` in transmit frame `f`, where they are not idle words (R33). -/
def State.readPort (s : State) (sc : Schedule) (o f : Nat) : State × Tab Nat :=
  (sc.pread.get o {}).entries.foldl (fun (acc : State × Tab Nat) e =>
    let r := acc.1.readSlot sc o f e.1 e.2
    (r.1, acc.2.store e.1 (idleWord f) r.2)) (s, {})

/-- The bents that feed an output slot. -/
def Schedule.bentsOfSlot (sc : Schedule) (a : Nat) : List Nat :=
  match sc.map.find a with
  | some r => ((r.sources.filterMap sc.memberOf).map Prod.fst).dedup
  | none => []

/-- The words that a port sends are counted in the bank (R440). -/
def State.countSent (s : State) (sc : Schedule) (o f : Nat) (lais : Bool) (slots : Tab Nat) : State :=
  let sent := slots.entries.filter (fun e => e.2 != idleWord f)
  let n := sent.length
  let ais := if lais then 131072 else sent.countP (fun e => isAis e.2)
  let pf := if lais then 0 else sent.countP (fun e => !parityGood e.2)
  let s1 := if lais then (s.bankCount 1 o 131072).bankCount 3 o 131072
    else ((s.bankCount 1 o n).bankCount 2 o (131072 - n)).bankCount 3 o ais |>.bankCount 4 o pf
  ((sc.map.entries.filter (fun e => portOfAddr e.1 == o)).flatMap (fun e =>
    if lais || isAis (slots.get (slotOfAddr e.1) 0) then sc.bentsOfSlot e.1 else [])).foldl (fun t b => t.bankCount 0xA b 1) s1

/-! ### Pegs as the plate reads their words (R452, R454) -/

/-- The peg unit changed by `f`. -/
def State.updPegs (s : State) (f : Pegs → Pegs) : State := { s with pegs := f s.pegs }

/-- The code of an outcome in a peg record (R454). -/
def Outcome.code : Outcome → Nat
  | .match' => 0
  | .pf => 1
  | .ais => 2
  | .seqBad => 3
  | .grnBad => 4

/-- The output slot of a peg whose word is read now, with its route where it still takes the word; none where no slot takes it (R452). -/
def Schedule.pegOut (sc : Schedule) (p : Peg) : Option (Nat × Option Route) :=
  let outs := (sc.map.entries.filter (fun e => e.2.sources.contains p.src)).map (·.1)
  match outs with
  | [] => none
  | h :: t =>
    match p.out with
    | none => let out := t.foldl min h
              some (out, sc.map.find out)
    | some out => some (out, if outs.contains out then sc.map.find out else none)

/-- The side of a merged slot on which a peg's copy stands (R454). -/
def Peg.sideOf (p : Peg) (r : Option Route) : Bool :=
  match r with
  | some (.merged w q _ _) => if w = p.src ∧ q = p.src then p.side else w != p.src
  | _ => false

/-- The route is that of a single slot; and the scarf group of a merged one. -/
def routeSingle : Option Route → Bool
  | some (.single _) => true
  | _ => false

@[inherit_doc routeSingle]
def routeGroup : Option Route → Option Nat
  | some (.merged _ _ g _) => some g
  | _ => none

/-- The outcome of a peg's word at output slot `out`, and whether the pegged copy is the output word, as the plate reads it in transmit frame `f`
(R230, R239, R454). -/
def State.pegJudge (s : State) (sc : Schedule) (f : Nat) (p : Peg) (out : Nat) (r : Option Route) : Nat × Bool :=
  let o := portOfAddr out
  match r with
  | some (.single _) => ((s.readCopy sc o f p.src ((sc.legAddr p.src o).getD 0)).2.code, true)
  | some (.merged w q g _) =>
    let k := 2 * out
    let cw := s.copyOf sc o f k g 0 w ((sc.legAddr w o).getD 0)
    let cp := s.copyOf sc o f k g 1 q ((sc.legAddr q o).getD 0)
    let side := p.sideOf r
    ((if side then cp else cw).out.code, (select (s.pref g) cw cp).2.1 == side)
  | none => (6, false)

/-- The pegs whose words port `o` reads in transmit frame `f` take their outcomes, before the reading changes the sides (R233, R454). -/
def State.watchPegs (s : State) (sc : Schedule) (o f : Nat) : State :=
  s.updPegs (fun u => { u with flight := u.flight.map (fun p =>
    match sc.pegOut p with
    | some (out, r) =>
      if p.res.isNone && pageFor f (sc.deskew p.src) == p.page && portOfAddr out == o then { p with sent := some (s.pegJudge sc f p out r) } else p
    | none => p) })

/-! ### The grain and scarf commands -/

/-- GRN_FAULT_CLEAR (R234): a side in FAULT that 256 consecutive words have matched on is CLEAN, its window empty. -/
def execGrnFaultClear (a : SlotAddr) (side : Bool) (s : State) : Out :=
  .next (
    let k := 2 * a.val + b2n side
    match s.sides.live.find k with
    | some sd => if sd.fault && 256 ≤ sd.run then s.clearSide k else s
    | none => s)

/-- A write of SCF_GCFG.WTR_CLEAR ends a running wait at the next tick (R243). -/
def State.clearWtr (s : State) (g : Nat) : State :=
  if s.groupState g = groupWtr then s.setFld R.SCF_GWTR_REMAIN g (min 1 (s.fld R.SCF_GWTR_REMAIN g)) else s

/-- The output slot and side of every side in FAULT, with its bent and its scarf group in the active schedule. -/
def State.faultsNow (s : State) : List SideFault :=
  (s.sides.live.entries.filter (fun e => e.2.fault)).map (fun e =>
    let route := s.sched.map.find (e.1 / 2)
    let src := route.bind (fun r => r.sources[e.1 % 2]?)
    { slot := e.1 / 2, side := e.1 % 2, bent := (src.bind s.sched.memberOf).map (·.1)
      group := match route with
        | some (.merged _ _ g _) => some g
        | _ => none })

/-- The transmit frame ends, and the reports show the sides in FAULT (R249, R250). -/
def State.closeGrain (s : State) : State := { s with sides := { s.sides with shown := s.faultsNow } }

/-- The waits that run decrease by one at a tick (R243). -/
def State.tickScarf (s : State) : State :=
  (s.regs.get R.SCF_GWTR_REMAIN.id {}).keys.foldl (fun t g =>
    if t.groupState g = groupWtr && t.frame != (t.groups.get g {}).wtrFrom then
      t.setFld R.SCF_GWTR_REMAIN g (t.fld R.SCF_GWTR_REMAIN g - 1) else t) s

/-- What time does to a member's records: a relation or a step long past no longer looks back (R143, R147). -/
def State.tickLinks (s : State) : State :=
  { s with links := s.links.mapVals (fun _ l =>
      let l1 := if 8192 < s.sinceFrame l.kFrom && s.sinceFrame l.kFrom < 2 ^ 31 then { l with kOld := l.k, kFrom := s.frame } else l
      let past := fun (x : ArrStep) => decide (8192 < s.sinceFrame x.page) && decide (s.sinceFrame x.page < 2 ^ 31)
      if l1.confirmed then l1 else { l1 with steps := l1.steps.filter (fun x => !past x) }) }

end Sys2Proof.Machine
end

