-- ==== Sys2Proof/Machine/Plumb.lean ====
section
/-! DEFINITION. Plumb: references, selection, states, slews, outputs and quality levels (R257 to R279, R287 to R295).
Readings and choices: DEDUCED (log entry 41), DEDUCED (log entry 42), DEDUCED (log entry 43), DEDUCED (log entry 58). -/

namespace Sys2Proof.Machine

/-! ### States and quality (R264, R271, R272) -/

def plbFree : Nat := 0
def plbAcquiring : Nat := 1
def plbLocked : Nat := 2
def plbBridging : Nat := 3
def plbHoldover : Nat := 4
def plbExpired : Nat := 5

def qualDisq : Nat := 0
def qualHoldoff : Nat := 1
def qualWait : Nat := 2
def qualYes : Nat := 3

/-- QL-DNU. -/
def qlDnu : Nat := 0xF

/-- A code that is not in the table of R264 is treated as QL-DNU. -/
def qlNorm (c : Nat) : Nat := if c = 2 || c = 4 || c = 8 || c = 0xB then c else qlDnu

/-- The rank of a quality level (R264). -/
def qlRank (c : Nat) : Nat := if c = 2 then 1 else if c = 4 then 2 else if c = 8 then 3 else if c = 0xB then 4 else 5

/-- The worse of two quality levels. -/
def qlWorse (a b : Nat) : Nat := if qlRank (qlNorm a) < qlRank (qlNorm b) then qlNorm b else qlNorm a

/-- The reference in use, or in BRIDGING and ACQUIRING the target; 15 for none. -/
def State.plbSel (s : State) : Nat := s.fld R.PLB_STATUS_SEL

/-- The hidden state of reference `i`. -/
def State.refSt (s : State) (i : Nat) : RefSt := s.plumb.refs.get i {}

/-- `s` with Plumb's hidden state changed by `f`. -/
def State.updPlumb (s : State) (f : Plumb → Plumb) : State := { s with plumb := f s.plumb }

/-- `s` with the hidden state of reference `i` changed by `f`. -/
def State.updRef (s : State) (i : Nat) (f : RefSt → RefSt) : State :=
  s.updPlumb (fun p => { p with refs := p.refs.put i (f (s.refSt i)) })

/-! ### The mate reference (R290, R291) -/

/-- A mate lane from which MREF can be formed (R290). -/
def State.mrefLane (s : State) (n : Nat) : Bool := s.inService n && s.flag R.LN_LINK_RTT_VALID n

/-- The mate lane in use on a standby: the one in use while it lasts, else the lowest (R290). -/
def State.mrefPick (s : State) : Option Nat :=
  let low := ((List.range 8).map (272 + ·)).find? s.mrefLane
  if !s.isStandby then none
  else match s.plumb.mref with
    | some n => if s.mrefLane n then some n else low
    | none => low

/-- `x` units reduced into one half frame either side of zero (R290). -/
def halfFrame (x : Int) : Int := (x + 64000000) % 128000000 - 64000000

/-- An exact quotient rounded down, or up where it is not whole (DESIGN CHOICE: log entry 7). -/
def roundQ (draw : Nat) (num den : Int) : Int :=
  if num % den = 0 then num / den else num / den + ((Config.fitRound draw % 2 : Nat) : Int)

/-- θ for mate lane `n`: a symbol is 15,625 ÷ 324 units (R290). -/
def State.mrefTheta (s : State) (n : Nat) : Int :=
  let d := s.ifld R.LN_RX_PHASE_PHASE n - s.ifld R.LN_PEER_PHI_PHASE n + s.ifld R.LN_TX_PHASE_PHASE n - s.ifld R.LN_PEER_PSI_PHASE n
  halfFrame (roundQ s.free (d * 15625) 648 - s.ifld R.PLB_MREF_CFG_ASYM)

/-- MREF in one frame (R290, R291). -/
def State.tickMref (s : State) : State :=
  let s1 := s.updPlumb (fun p => { p with mref := s.mrefPick })
  match s.mrefPick with
  | none => s1.setFlag R.PLB_MREF_STAT_VALID 0 false
  | some n =>
    (((s1.setFld R.PLB_MREF_STAT_LANE 0 (n - 272)).setFlag R.PLB_MREF_STAT_VALID 0 (s.fld R.LN_RX_STW_ROLE n == 1)).setIfld
      R.PLB_MREF_OFFS_VALUE 0 (s.mrefTheta n)).drawn

/-! ### References (R257, R260 to R263) -/

/-- The lane of a reference that is taken from a lane (R257, R270). -/
def State.refLane (s : State) (i : Nat) : Option Nat :=
  if 8 ≤ i && i < 12 then some (s.fld R.PLB_REFi_CFG_SRC i)
  else if i = 12 then some (272 + s.fld R.PLB_MREF_STAT_LANE) else none

/-- The aligned point of a lane's reference, from the tick: its frame edge, which θ or the φ of the lane's own FAW gives, plus TOFF (R259,
R290). -/
def State.refPoint (s : State) (i : Nat) : Int :=
  (if i = 12 then s.ifld R.PLB_MREF_OFFS_VALUE 0
   else halfFrame (roundQ s.free ((s.lane (s.fld R.PLB_REFi_CFG_SRC i)).phi * 15625) 324)) + s.ifld R.PLB_REFi_TOFF_TOFF i

/-- Reference `i` is an N × 8 kHz input with N above 1, of whose edges none has been chosen as the frame edge (R259). -/
def State.edgeOpen (s : State) (i : Nat) : Bool :=
  decide (i < 8) && s.flag R.PLB_REFi_CFG_KIND i && decide (1 < s.fld R.PLB_REFi_CFG_SRC i) && (s.refSt i).edge.isNone

/-- A phase difference of `x` units against the nearest of `n` edges in a frame (R259). -/
def nearestEdge (draw : Nat) (x : Int) (n : Nat) : Int := roundQ draw ((x * n + 64000000) % 128000000 - 64000000) n

/-- A ball input's aligned point less the tick, where `x` units were measured: against the edge nearest the tick − TOFF where none has been
chosen (R259). -/
def State.ballPoint (s : State) (i : Nat) (x : Int) : Int :=
  if s.edgeOpen i then nearestEdge s.free x (s.fld R.PLB_REFi_CFG_SRC i) else halfFrame x

/-- Reference `i` is captured with its aligned point `x` units from the tick: the edge chosen is kept (R259). -/
def State.keepEdge (s : State) (i : Nat) (x : Int) : State :=
  if s.edgeOpen i then s.updRef i (fun r => { r with edge := some (x - s.ifld R.PLB_REFi_TOFF_TOFF i) }) else s

/-- Reference `i` is a 1 PPS input (R257). -/
def State.isPps (s : State) (i : Nat) : Bool := decide (i < 8) && !s.flag R.PLB_REFi_CFG_KIND i

/-- The configured level of reference `i` that is in force: a commit during a capture waits for its end (R276). -/
def State.cfgQl (s : State) (i : Nat) : Nat := s.plumb.qlWait.get i (s.fld R.PLB_REFi_CFG_QL i)

/-- The quality level that reference `i` has now (R257, R291): the accepted SSM of its lane, or the configured level. -/
def State.refQl (s : State) (i : Nat) : Nat :=
  qlNorm (match s.refLane i with
    | some n => if i = 12 || bit (s.fld R.LN_PEER_ID4_ID n) 0 = 1 then s.fld R.LN_RX_STW_SSM n else s.cfgQl i
    | none => s.cfgQl i)

/-- Whether a monitor's failure condition can hold: an LREF's and MREF's activity follows its lane, a frequency its range, and a REFIN's
activity what reaches its ball (R260). -/
def State.monFails (s : State) (i : Nat) (mon : RefMon) : Option Bool :=
  match mon with
  | .freq v => some (decide (100000 * s.fld R.PLB_REFi_MON_FREQ_RANGE i < v.toInt.natAbs))
  | .activity =>
    if i < 8 then none
    else if i = 12 then some (!s.flag R.PLB_MREF_STAT_VALID)
    else some (!s.inService (s.fld R.PLB_REFi_CFG_SRC i) || s.caActive (s.fld R.PLB_REFi_CFG_SRC i))

/-- The flag of a monitor: 1 while it sees no failure. -/
def monFld : RefMon → Fld
  | .activity => R.PLB_REFi_STAT_ACTIVE
  | .freq _ => R.PLB_REFi_STAT_FREQ_OK

/-- The event of a monitor's failure. -/
def monEv : RefMon → Ev
  | .activity => R.PLB_REFi_EVT_ACT_LOSS
  | .freq _ => R.PLB_REFi_EVT_FREQ_RANGE

/-- The measured frequency is shown (R260). -/
def State.showFreq (s : State) (i : Nat) (mon : RefMon) : State :=
  match mon with
  | .activity => s
  | .freq v => s.setFld R.PLB_REFi_FREQ_VALUE i v.toNat

/-- Reference `i` is monitored: it is enabled, or the commit that disabled it waits for a capture (R260, R276). -/
def State.monitored (s : State) (i : Nat) : Bool :=
  s.flag R.PLB_REFi_CFG_EN i || (s.plumb.enWait && s.plbSel == i)

/-- Reference `i` has no activity or frequency failure (R261). -/
def State.refSound (s : State) (i : Nat) : Bool := s.flag R.PLB_REFi_STAT_ACTIVE i && s.flag R.PLB_REFi_STAT_FREQ_OK i

/-- Reference `i` is free of every failure condition that lasts (R260, R263). -/
def State.refClean (s : State) (i : Nat) : Bool :=
  s.refSound i && !s.flag R.PLB_REFi_STAT_SOFT i && !s.flag R.PLB_REFi_STAT_HARD i

/-- Reference `i` is qualified: QUALIFIED, or in HOLDOFF (R261). -/
def State.refQualified (s : State) (i : Nat) : Bool :=
  s.fld R.PLB_REFi_STAT_QUAL i == qualYes || s.fld R.PLB_REFi_STAT_QUAL i == qualHoldoff

/-- A disqualified reference that is free of every failure starts its wait from the full value (R263). -/
def State.startWait (s : State) (i : Nat) : State :=
  if s.refClean i then
    let len := if (s.refSt i).fresh then 10 else s.fld R.PLB_TIMERS_WTR
    ((s.setFld R.PLB_REFi_STAT_QUAL i qualWait).setFld R.PLB_REFi_WTR_REMAIN i len).updRef i
      (fun r => { r with waitFrom := s.frame, waitLen := len })
  else (s.setFld R.PLB_REFi_STAT_QUAL i qualDisq).setFld R.PLB_REFi_WTR_REMAIN i 0

/-- Reference `i` is disqualified (R261, R262). -/
def State.disqualify (s : State) (i : Nat) : State :=
  ((s.updRef i (fun r => { r with fresh := false, edge := none })).latch R.PLB_REFi_EVT_DISQUAL i).startWait i

/-- Reference `i` is enabled, or no longer enabled: it starts disqualified, with nothing known of it (R263). -/
def State.freshRef (s : State) (i : Nat) : State :=
  (((((s.setFld R.PLB_REFi_STAT_QUAL i qualDisq).setFlag R.PLB_REFi_STAT_ACTIVE i false).setFlag R.PLB_REFi_STAT_FREQ_OK i
    false).setFlag R.PLB_REFi_STAT_SOFT i false).setFlag R.PLB_REFi_STAT_HARD i false).setFld R.PLB_REFi_WTR_REMAIN i 0
    |>.setFld R.PLB_REFi_STAT_JUMPS i 0 |>.setFld R.PLB_REFi_DEV_VALUE i 0x80000000 |>.updRef i (fun _ => {})

/-- The capture has ended: a commit that cleared its target's EN, and commits of configured levels, act (R276). -/
def State.endCapture (s : State) : State :=
  (if s.plumb.enWait then s.freshRef s.plbSel else s).updPlumb (fun p => { p with enWait := false, qlWait := {} })

/-- REF_FAILURE: a failure condition begins: a qualified reference enters HOLDOFF, and a wait is broken (R260, R261, R263). -/
def execRefFailure (i : RefIx) (mon : RefMon) (s : State) : Out :=
  .next (if !s.monitored i || s.monFails i mon = some false then s else
    let s1 := ((s.latchIf (s.flag (monFld mon) i) (monEv mon) i).setFlag (monFld mon) i false).showFreq i mon
    if s.fld R.PLB_REFi_STAT_QUAL i = qualYes then
      (s1.setFld R.PLB_REFi_STAT_QUAL i qualHoldoff).updRef i (fun r => { r with holdFrom := s.frame })
    else if s.fld R.PLB_REFi_STAT_QUAL i = qualHoldoff then s1
    else (s1.setFld R.PLB_REFi_STAT_QUAL i qualDisq).setFld R.PLB_REFi_WTR_REMAIN i 0)

/-- REF_HOLDOFF_EXPIRY: the condition is still present when HOLDOFF has run out: the reference is disqualified (R261). -/
def execRefHoldoffExpiry (i : RefIx) (s : State) : Out :=
  .next (if s.fld R.PLB_REFi_STAT_QUAL i = qualHoldoff && decide (800 * s.fld R.PLB_TIMERS_HOLDOFF ≤ s.sinceFrame (s.refSt i).holdFrom)
    then s.disqualify i else s)

/-- The DPLL closes again after a coast: the phase error gathered is slewed away (R278). A lane's error is its phase now; a ball input's is
what was measured. -/
def State.endCoast (s : State) (i : Nat) (gathered : Int) : State :=
  if s.plb = plbLocked && s.plbSel = i && s.flag R.PLB_STATUS_COAST then
    s.updPlumb (fun p => { p with
      slew := if i < 8 then p.slew + gathered else halfFrame (s.refPoint i - s.ifld R.PLB_BUILDOUT_VALUE) })
  else s

/-- REF_CONDITION_CLEAR: a failure condition clears. With none left, a reference in HOLDOFF is QUALIFIED again, and a disqualified one
starts its wait (R261, R263). -/
def execRefConditionClear (i : RefIx) (mon : RefMon) (gathered : Word) (s : State) : Out :=
  .next (if !s.monitored i || s.monFails i mon = some true then s else
    let s1 := (s.setFlag (monFld mon) i true).showFreq i mon
    if s1.refSound i && s1.fld R.PLB_REFi_STAT_QUAL i == qualHoldoff then
      (s1.setFld R.PLB_REFi_STAT_QUAL i qualYes).endCoast i gathered.toInt
    else if s1.refClean i && s1.fld R.PLB_REFi_STAT_QUAL i == qualDisq then s1.startWait i
    else s1)

/-- A capture is in progress (R274). -/
def State.capturing (s : State) : Bool := s.plb == plbBridging && s.flag R.PLB_STATUS_BRIDGE

/-- The DPLL follows a reference: in ACQUIRING, in the capture phase and in LOCKED (R271). -/
def State.following (s : State) : Bool := s.plb == plbAcquiring || s.plb == plbLocked || s.capturing

/-- PHASE_JUMP: a frame-edge step beyond PJ_LIM is recorded; on the reference in use in LOCKED it joins BUILDOUT (R279), and on a target
that the DPLL follows it joins the slew (DEDUCED: log entry 41); the third within 60 s disqualifies the reference at once (R262). -/
def execPhaseJump (i : RefIx) (size : Word) (s : State) : Out :=
  .next (if !s.monitored i || size.toInt.natAbs ≤ 1024 * s.fld R.PLB_REFi_MON_PJ_LIM i then s else
    let js := s.frame :: (s.refSt i).jumps.filter (fun f => decide (s.sinceFrame f < 480000))
    let s1 := (((s.setFld R.PLB_REFi_JUMP_VALUE i size.toNat).setFld R.PLB_REFi_STAT_JUMPS i (min 3 js.length)).updRef i
      (fun r => { r with jumps := js })).latch R.PLB_REFi_EVT_PHASE_JUMP i
    let used := s.plb == plbLocked && s.plbSel == i.val
    let s2 := if used then (s1.setIfld R.PLB_BUILDOUT_VALUE 0 (s1.ifld R.PLB_BUILDOUT_VALUE + size.toInt)).updPlumb
        (fun p => { p with jump := true })
      else if s1.following && s.plbSel == i.val then s1.updPlumb (fun p => { p with slew := p.slew + size.toInt }) else s1
    if 3 ≤ js.length && s2.refQualified i then s2.disqualify i
    else if s2.fld R.PLB_REFi_STAT_QUAL i = qualWait then s2.startWait i
    else s2)

/-- REF_WTR_EXPIRY: the wait has been served, and the reference is QUALIFIED (R263). -/
def execRefWtrExpiry (i : RefIx) (s : State) : Out :=
  .next (if s.fld R.PLB_REFi_STAT_QUAL i = qualWait && decide (8000 * (s.refSt i).waitLen ≤ s.sinceFrame (s.refSt i).waitFrom) then
    ((s.setFld R.PLB_REFi_STAT_QUAL i qualYes).setFld R.PLB_REFi_WTR_REMAIN i 0).latch R.PLB_REFi_EVT_QUALIFY i
  else s)

/-! ### Selection (R265 to R269) -/

/-- Reference `i` is a candidate (R265). -/
def State.candidate (s : State) (i : Nat) : Bool :=
  decide (i < 13) && s.flag R.PLB_REFi_CFG_EN i && s.fld R.PLB_REFi_CFG_PRIO i != 0 && !s.flag R.PLB_REFi_CFG_LOCKOUT i
    && s.refQualified i && !(s.flag R.PLB_CFG_QL_EN && s.fld R.PLB_REFi_STAT_QL_ACT i == qlDnu)

/-- The rank that selection gives reference `i`: quality is ignored with QL_EN = 0 (R266). -/
def State.selRank (s : State) (i : Nat) : Nat := if s.flag R.PLB_CFG_QL_EN then qlRank (s.fld R.PLB_REFi_STAT_QL_ACT i) else 0

/-- Reference `i` goes before `j`: a better rank, then the lowest PRIO, then the lowest index (R266). -/
def State.selBefore (s : State) (i j : Nat) : Bool :=
  let a := (s.selRank i * 16 + s.fld R.PLB_REFi_CFG_PRIO i) * 16 + i
  let b := (s.selRank j * 16 + s.fld R.PLB_REFi_CFG_PRIO j) * 16 + j
  decide (a < b)

/-- The best candidate under R266. -/
def State.bestAuto (s : State) : Option Nat :=
  ((List.range 13).filter s.candidate).foldl (fun b i =>
    match b with
    | none => some i
    | some j => if s.selBefore i j then some i else some j) none

/-- The best candidate under R266 to R269, with no reference in use: MREF on a standby, a forced or manual reference, else the best. -/
def State.bestRef (s : State) : Option Nat :=
  if s.isStandby then (if s.refQualified 12 then some 12 else none)
  else if s.fld R.PLB_STATUS_CMD_ACT = 1 then
    (if s.refQualified (s.fld R.PLB_STATUS_CMD_REF) then some (s.fld R.PLB_STATUS_CMD_REF) else none)
  else if s.fld R.PLB_STATUS_CMD_ACT = 2 then some (s.fld R.PLB_STATUS_CMD_REF)
  else s.bestAuto

/-- The reference that should be in use when `cur` is (R267): a non-revertive selection moves only to a strictly better rank. -/
def State.keepOrMove (s : State) (cur : Nat) : Option Nat :=
  if s.isStandby || s.fld R.PLB_STATUS_CMD_ACT = 1 || s.fld R.PLB_STATUS_CMD_ACT = 2 || s.flag R.PLB_CFG_REVERT || !s.candidate cur
  then s.bestRef
  else
    match s.bestAuto with
    | some b => if s.selRank b < s.selRank cur then some b else some cur
    | none => some cur

/-- CMD_ACT and CMD_REF. -/
def State.setCmd (s : State) (act ref : Nat) : State := (s.setFld R.PLB_STATUS_CMD_ACT 0 act).setFld R.PLB_STATUS_CMD_REF 0 ref

/-- A command of PLB_CTRL takes effect (R268, R269): FORCE and MANUAL name a reference, and a MANUAL of one that is no candidate is
refused. -/
def State.applyCmd (s : State) (cmd ref : Nat) : State :=
  if s.isStandby then s
  else if cmd = 1 then (if ref < 13 then s.setCmd 1 ref else s)
  else if cmd = 2 then (if s.candidate ref then s.setCmd 2 ref else s.latch R.PLB_EVT_CMD_DROPPED)
  else s.setCmd 0 0

/-- A capture goes on: its target is still qualified (R276, R277). -/
def State.captureHolds (s : State) : Bool := s.capturing && s.refQualified s.plbSel

/-- Reference `r` is still a candidate for MANUAL: during a capture, by the selection fields as they were when it began (R268, R276). -/
def State.manualHolds (s : State) (r : Nat) : Bool :=
  if s.captureHolds then s.refQualified r && !(s.plumb.capQl && s.fld R.PLB_REFi_STAT_QL_ACT r == qlDnu) else s.candidate r

/-- A lockout, or the loss of a manual reference, cancels the command (R268); a lockout during a capture waits for its end (R276). -/
def State.cancelCmd (s : State) : State :=
  let r := s.fld R.PLB_STATUS_CMD_REF
  if s.isStandby then s
  else if s.fld R.PLB_STATUS_CMD_ACT = 2 && !s.manualHolds r then (s.setCmd 0 0).latch R.PLB_EVT_CMD_DROPPED
  else if s.fld R.PLB_STATUS_CMD_ACT = 1 && s.flag R.PLB_REFi_CFG_LOCKOUT r && !s.captureHolds then s.setCmd 0 0
  else s

/-- The command that waits acts at the tick; during a capture FORCE and MANUAL wait for its completion (R268, R276), but a standby ignores
them (R269). -/
def State.tickCmd (s : State) : State :=
  let s1 := match s.plumb.cmd with
    | some (c, r) => if s.captureHolds && c != 3 && !s.isStandby then s else (s.updPlumb (fun p => { p with cmd := none })).applyCmd c r
    | none => s
  s1.cancelCmd

/-! ### States (R271 to R279) -/

/-- Plumb enters a state, with a reference in use or a target (R271, R272). -/
def State.enterPlb (s : State) (st sel : Nat) : State :=
  let s1 := (s.latchIf (s.plb != st) R.PLB_EVT_STATE_CHANGE).latchIf (s.plbSel != sel) R.PLB_EVT_SEL_CHANGE
  let s2 := ((s1.setFld R.PLB_STATUS_STATE 0 st).setFld R.PLB_STATUS_SEL 0 sel).setFlag R.PLB_STATUS_BRIDGE 0 false
  s2.updPlumb (fun p => { p with
    realign := false
    holdFrom := s.frame
    holdSum := 0
    holdN := 0
    winRun := 0
    holdMean := if s.following then roundQ s.free p.words.sum p.words.length else p.holdMean
    slew := if st = plbLocked then p.slew else 0
    epochRef := if st = plbLocked && s.plb = plbLocked then p.epochRef else none
    sw := p.sw || st == plbBridging })

/-- Plumb begins to acquire reference `r`. The first acquisition, before any lane has entered SERVICE, aligns the tick in one step, which
ends the wait of P4; a later one slews (R271, R273, R337). What a ball input measures then is a free value (DESIGN CHOICE: log entry
41). -/
def State.acquire (s : State) (r : Nat) : State :=
  let d := if r < 8 then s.ballPoint r (toInt 32 (Config.open' s.free)) else s.refPoint r
  let step := !s.plumb.acquired && !s.raise.laneServed
  let s1 := (s.enterPlb plbAcquiring r).keepEdge r d
  let s2 := if s.isPps r then s1.setFld R.PLB_PPS_PHASE 0 (Config.open' (s.free + 1) % 8000) else s1
  let s3 := if step then { s2 with raise := { s2.raise with stepped := true } } else s2
  (s3.updPlumb (fun p => { p with acquired := true, step := if step then d else p.step, slew := if step then 0 else d })).drawn.drawn

/-- No reference is left: HOLDOVER, or FREE-RUN where no model is valid (R267, R271). -/
def State.plbLose (s : State) : State :=
  if s.flag R.PLB_STATUS_MODEL_VALID then s.enterPlb plbHoldover 0xF else s.enterPlb plbFree 0xF

/-- What selection does at a tick (R267, R271, R275 to R277). -/
def State.tickSelect (s : State) : State :=
  let st := s.plb
  let cur := s.plbSel
  if st = plbFree then
    (match s.bestRef with
     | some r => s.acquire r
     | none => s)
  else if st = plbAcquiring then
    (match s.bestRef with
     | some r => if r = cur then s else s.acquire r
     | none => s.plbLose)
  else if st = plbLocked then
    (match s.keepOrMove cur with
     | some r => if r = cur then s else s.enterPlb plbBridging r
     | none => s.plbLose)
  else if st = plbBridging then
    (if s.captureHolds then s
     else
       let s1 := s.endCapture
       match s1.bestRef with
       | some r =>
         if r = cur then s1
         else (s1.latchIf (!s.flag R.PLB_STATUS_BRIDGE) R.PLB_EVT_RETARGET).enterPlb plbBridging r
       | none => s1.enterPlb plbHoldover 0xF)
  else
    (match s.bestRef with
     | some r => s.enterPlb plbBridging r
     | none => s)

/-- The lane that carries QL-DNU (R270). -/
def State.dnuLane (s : State) : Option Nat :=
  if s.plb = plbLocked then s.refLane s.plbSel
  else if s.plb = plbBridging || s.plb = plbHoldover then s.refLane (s.fld R.PLB_STATUS_LAST_REF)
  else none

/-- The level sent on lanes other than the reference's own (R270). -/
def State.outLevel (s : State) : Nat :=
  if s.plb = plbLocked then s.fld R.PLB_REFi_STAT_QL_ACT s.plbSel
  else if s.plb = plbBridging || s.plb = plbHoldover then
    (if s.fld R.PLB_STATUS_LAST_REF = 0xF then qlNorm (s.fld R.PLB_CFG_HOLD_QL)
     else qlWorse (s.fld R.PLB_CFG_HOLD_QL) s.plumb.lockQl)
  else qlNorm (s.fld R.PLB_CFG_OWN_QL)

/-- The quality level that lane `n` sends (R270). -/
def State.sentQl (s : State) (n : Nat) : Nat := if s.plumb.dnu = some n then qlDnu else s.fld R.PLB_STATUS_OUT_QL

/-- The sent levels follow the state (R270). -/
def State.tickQlOut (s : State) : State :=
  let s0 := if s.plb = plbLocked then s.updPlumb (fun p => { p with lockQl := s.fld R.PLB_REFi_STAT_QL_ACT s.plbSel }) else s
  let q := s0.outLevel
  let d := s0.dnuLane
  let changed := q != s.fld R.PLB_STATUS_OUT_QL || (q != qlDnu && d != s.plumb.dnu)
  ((s0.setFld R.PLB_STATUS_OUT_QL 0 q).updPlumb (fun p => { p with dnu := d })).latchIf changed R.PLB_EVT_OUT_QL_CHANGE

/-- QL_ACT of every enabled reference (R257, R264). -/
def State.tickQl (s : State) : State :=
  (List.range 13).foldl (fun t i =>
    if t.flag R.PLB_REFi_CFG_EN i && t.fld R.PLB_REFi_STAT_QL_ACT i != t.refQl i then
      (t.setFld R.PLB_REFi_STAT_QL_ACT i (t.refQl i)).latch R.PLB_REFi_EVT_QL_CHANGE i
    else t) s

/-- REMAIN of a wait, and the phase jumps of the last 60 s (R262, R263). -/
def State.tickRefs (s : State) : State :=
  (List.range 13).foldl (fun t i =>
    let r := t.refSt i
    let t1 := if r.jumps.isEmpty && t.fld R.PLB_REFi_STAT_JUMPS i == 0 then t else
      let js := r.jumps.filter (fun f => decide (t.sinceFrame f < 480000))
      (t.setFld R.PLB_REFi_STAT_JUMPS i (min 3 js.length)).updRef i (fun r => { r with jumps := js })
    if t.fld R.PLB_REFi_STAT_QUAL i = qualWait then
      t1.setFld R.PLB_REFi_WTR_REMAIN i ((8000 * r.waitLen - t.sinceFrame r.waitFrom + 7999) / 8000)
    else t1) s

/-- COAST while the reference in use is in HOLDOFF, in LOCKED (R278; DEDUCED: log entry 41). -/
def State.tickCoast (s : State) : State :=
  let c := s.plb == plbLocked && s.fld R.PLB_REFi_STAT_QUAL s.plbSel == qualHoldoff
  (s.setFlag R.PLB_STATUS_COAST 0 c).updPlumb (fun p => { p with coast := p.coast || c })

/-- `v` moved towards 0 by at most `k`. -/
def towardsZero (v : Int) (k : Nat) : Int := if 0 ≤ v then max 0 (v - k) else min 0 (v + k)

/-- A frame's movement in 15,625ths of a unit: PSL in ps/s, or ACQ_PSL in ns/s in ACQUIRING (R271, R273). -/
def State.slope (s : State) : Nat :=
  if s.plb = plbAcquiring then 2000 * s.fld R.PLB_DPLL_PSL_ACQ_PSL else 2 * s.fld R.PLB_DPLL_PSL_PSL

/-- One frame of a slew, the fraction of a unit carried (R273, R274, R279, R294); a coast holds it (R278). -/
def State.tickSlew (s : State) : State :=
  let acc := s.plumb.slewFrac + s.slope
  let k := acc / 15625
  if !s.following || s.flag R.PLB_STATUS_COAST then s
  else if s.plumb.realign then
    let b := towardsZero (s.ifld R.PLB_BUILDOUT_VALUE) k
    (s.setIfld R.PLB_BUILDOUT_VALUE 0 b).updPlumb (fun p => { p with slewFrac := acc % 15625, realign := b != 0 })
  else if s.plumb.slew != 0 then
    s.updPlumb (fun p => { p with slewFrac := acc % 15625, slew := towardsZero p.slew k })
  else s

/-- The DPLL's phase error (R274, R287): a lane's phase less BUILDOUT, or what is left of a ball input's slew (DEDUCED: log entry 41). -/
def State.phaseErr (s : State) : Int :=
  if s.plbSel < 8 then s.plumb.slew else halfFrame (s.refPoint s.plbSel - s.ifld R.PLB_BUILDOUT_VALUE)

/-- The phase error is within ±LOCK_WIN (R274). -/
def State.inWindow (s : State) : Bool := decide (s.phaseErr.natAbs ≤ 1024 * s.fld R.PLB_DPLL_ACQ_LOCK_WIN)

/-- A tick of the second (R259). -/
def State.ppsTick (s : State) : Bool := (s.frame + 8000 - s.fld R.PLB_PPS_PHASE % 8000) % 8000 == 0

/-- PLB_PHASE_ERR; the frames, or a 1 PPS target's pulses, that the error has stayed within LOCK_WIN; and, in the hold, the lane's phase
difference, summed (R274). What PLB_PHASE_ERR reads while no reference is followed is a free value (DESIGN CHOICE: log entry 41). -/
def State.tickPhase (s : State) : State :=
  let s1 := if s.following then s.setIfld R.PLB_PHASE_ERR_VALUE 0 s.phaseErr
    else (s.setFld R.PLB_PHASE_ERR_VALUE 0 (Config.open' s.free)).drawn
  let good := s.inWindow && s.fld R.PLB_REFi_STAT_QUAL s.plbSel == qualYes
  let hold := s.plb == plbBridging && !s.capturing && decide (8 ≤ s.plbSel)
  s1.updPlumb (fun p => { p with
    winRun := if !s.following then 0 else if s.isPps s.plbSel && !s.ppsTick then p.winRun else if good then p.winRun + 1 else 0
    holdSum := if hold then p.holdSum + s.refPoint s.plbSel else p.holdSum
    holdN := if hold then p.holdN + 1 else p.holdN })

/-- The capture may complete: the phase error has stayed within LOCK_WIN for 8,000 frames, or for 8 pulses of a 1 PPS target (R274). -/
def State.lockable (s : State) : Bool :=
  (s.plb == plbAcquiring || s.capturing) && decide ((if s.isPps s.plbSel then 8 else 8000) ≤ s.plumb.winRun)

/-- The named sensor's reading of this frame, a free value (R281, R297; DESIGN CHOICE: log entry 8), and those of the last second. -/
def State.tickTemp (s : State) : State :=
  let v := Config.open' s.free % 2 ^ 16
  ((s.setFld R.PLB_HOLD_T0_TNOW 0 v).updPlumb (fun p => { p with temps := (toInt 16 v :: p.temps).take 8000 })).drawn

/-- The frames since the end of the newest record in the fit (R281). -/
def State.sinceFit (s : State) : Int :=
  let due := s.frame % 800000 == 0 && s.plumb.epochEnd != some s.frame
  800000 * ((s.plumb.epoch : Int) - s.plumb.te - 1) + ((s.frame % 800000 : Nat) : Int) + (if due then 800000 else 0)

/-- The holdover frequency against XO, in units of 10^-15 (R281): f0 + a (t − t_e) + k (T(t) − T0), or the DPLL's mean over the 8,000 frames
before where no model is valid. -/
def State.holdFreq (s : State) : Int :=
  if s.flag R.PLB_STATUS_MODEL_VALID then
    let n : Int := max 1 s.plumb.temps.length
    let dt := s.plumb.temps.sum - n * s.ifld R.PLB_HOLD_T0_T0 0
    roundQ s.free (8000000000 * n * toInt 40 (s.fld R.PLB_HOLD_FREQ_F0) + n * s.ifld R.PLB_HOLD_AGE_VALUE 0 * s.sinceFit
      + 80000000 * s.ifld R.PLB_HOLD_TCO_VALUE 0 * dt) (8000000000 * n)
  else s.plumb.holdMean

/-- One frame of a second-order type 2 loop with damping factor 5 and proportional gain g (R287; DEDUCED: log entry 41): the integral gain
is g² c ÷ (4 · 5²), c the units of phase that a word of 1 moves the tick in a frame. -/
def Core.follow (draw g : Nat) (c : Core) (err : Int) : Core :=
  let f := c.filt - 128 * (g * g : Nat) * err * 10 ^ 15
  { word := roundQ draw (f - g * err * 10 ^ 32) (10 ^ 38), filt := f }

/-- A core that runs on a given word: its integrator stands at that frequency. -/
def Core.at' (w : Int) : Core := { word := w, filt := w * 10 ^ 38 }

/-- A core's next loop state (R258, R271, R278, R287): it follows the phase error at BW or ACQ_BW, holds its word in a coast, runs on the
holdover frequency, and corrects nothing in FREE-RUN. -/
def State.coreNext (s : State) (c : Core) : Core :=
  if s.following then
    (if s.flag R.PLB_STATUS_COAST then c
     else
       let bw := if s.plb = plbAcquiring then s.fld R.PLB_DPLL_ACQ_ACQ_BW else s.fld R.PLB_DPLL_BW_BW
       c.follow s.free (Config.loopGain bw) s.phaseErr)
  else if s.plb = plbFree then Core.at' 0
  else Core.at' s.holdFreq

/-- The loop state of core `k`. -/
def State.core (s : State) (k : Nat) : Core := s.plumb.cores.get k {}

/-- The cores in one frame: the shadow, while it tracks or is about to, does as the active core does (R287, R288). -/
def State.tickCores (s : State) : State :=
  let k := s.fld R.PLB_STATUS_DPLL
  let a := s.coreNext (s.core k)
  s.updPlumb (fun p => { p with
    cores := if s.flag R.PLB_STATUS_SHADOW_OK || p.restart.isSome then (p.cores.put k a).put (1 - k) (s.coreNext (s.core (1 - k))) else p.cores.put k a
    words := (a.word :: p.words).take 8000 })

/-- The core that is not active starts from the active core's state (R287 to R289). -/
def State.copyCore (s : State) : State :=
  s.updPlumb (fun p => { p with cores := p.cores.put (1 - s.fld R.PLB_STATUS_DPLL) (s.core (s.fld R.PLB_STATUS_DPLL)) })

/-- Plumb is in HOLDOVER or HOLDOVER-EXPIRED. -/
def State.inHoldover (s : State) : Bool := s.plb == plbHoldover || s.plb == plbExpired

/-- The frame that ends was spent in HOLDOVER (R271). -/
def State.tickHold (s : State) : State :=
  s.updPlumb (fun p => { p with holdTicks := if s.inHoldover then p.holdTicks + 1 else if s.plb = plbLocked then 0 else p.holdTicks })

/-- HOLD_MIN: the minutes in HOLDOVER (R271). -/
def State.showHold (s : State) : State :=
  s.setFld R.PLB_HOLD_STAT_HOLD_MIN 0 (if s.inHoldover then min 65535 (s.plumb.holdTicks / 480000) else 0)

/-- Output `k` moves towards its offset by 1,024 units in a frame (R294). -/
def State.tickFpout (s : State) (k : Nat) : State :=
  let target := s.ifld R.PLB_FPOUTk_OFFSET_OFFSET k
  let now := s.plumb.fpNow.get k target
  let next := target + towardsZero (now - target) 1024
  let slewing := next != target
  let s1 := s.updPlumb (fun p => { p with fpNow := if slewing then p.fpNow.put k next else p.fpNow.del k })
  s1.setFlag R.PLB_FPOUTk_STAT_SLEWING k slewing

/-- The cores swap at a tick (R288): the shadow takes the place of the active core, a substitution of its class (R459). -/
def State.swapCores (s : State) : State :=
  let k := s.fld R.PLB_STATUS_DPLL
  ((s.setFld R.PLB_STATUS_DPLL 0 (1 - k)).latch R.PLB_EVT_DPLL_SWAP).substDone classDpll k (1 - k)

/-- The swap that R465 leaves for the next tick is made; the core that was active is tested. -/
def State.tickSwap (s : State) : State :=
  if s.plumb.test = 4 then s.swapCores.updPlumb (fun p => { p with test := 3 }) else s

/-- What a tick does in Plumb, once it has started (R267, R271). -/
def State.tickPlumb (s : State) : State :=
  if s.plb = plbOff then s
  else
    let s1 := s.tickSwap.tickTemp.tickMref.tickRefs.tickQl.tickHold.tickCmd.tickSelect
    (List.range 8).foldl (fun t k => t.tickFpout k) s1.tickQlOut.tickCoast.tickSlew.tickPhase.tickCores.showHold

/-- Pulses of the second with residue `pps` that have come since the hold began (R274). -/
def State.holdPulses (s : State) (pps : Nat) : Nat :=
  let n := s.sinceFrame s.plumb.holdFrom
  let r := (s.frame + 8000 - pps) % 8000
  if r < n then (n - 1 - r) / 8000 + 1 else 0

/-- The hold may end: it has lasted BRIDGE frames and, for a 1 PPS target, until its third pulse (R274). -/
def State.holdOver (s : State) (pps : Nat) : Bool :=
  s.plb == plbBridging && !s.flag R.PLB_STATUS_BRIDGE && decide (s.fld R.PLB_TIMERS_BRIDGE ≤ s.sinceFrame s.plumb.holdFrom)
    && (!s.isPps s.plbSel || decide (3 ≤ s.holdPulses pps))

/-- The target's phase difference Δ: a ball input's as measured; a lane's, the mean over the hold (R259, R274). -/
def State.holdDelta (s : State) (measured : Int) : Int :=
  if s.plbSel < 8 then s.ballPoint s.plbSel measured
  else if s.plumb.holdN = 0 then halfFrame (s.refPoint s.plbSel)
  else halfFrame (roundQ s.free s.plumb.holdSum s.plumb.holdN)

/-- BRIDGE_HOLD_END: the hold is over, and capture begins (R274): ALIGN slews the tick, BUILD_OUT keeps Δ. -/
def execBridgeHoldEnd (delta : Word) (pps : Fin 8000) (s : State) : Out :=
  .next (if s.holdOver pps then
    let d := s.holdDelta delta.toInt
    let keep := s.flag R.PLB_CFG_SWITCH
    let s1 := (s.setFlag R.PLB_STATUS_BRIDGE 0 true).keepEdge s.plbSel d
    let s2 := if s.isPps s.plbSel then s1.setFld R.PLB_PPS_PHASE 0 pps.val else s1
    let s3 := ((s2.setIfld R.PLB_BUILDOUT_VALUE 0 (if keep then d else 0)).setIfld R.PLB_PHASE_ERR_VALUE 0 (if keep then 0 else d)).updPlumb
      (fun p => { p with capFrom := s.frame, capQl := s.flag R.PLB_CFG_QL_EN, slew := if keep then 0 else d })
    -- the pulse that ends the hold is the first of the eight (R274)
    (s3.updPlumb (fun p => { p with winRun := if s.isPps s.plbSel && s3.inWindow then 1 else 0 })).drawn
  else s)

/-- CAPTURE_COMPLETE: Plumb enters LOCKED (R271, R274), and what waited for the capture acts (R276). -/
def execCaptureComplete (s : State) : Out :=
  .next (if s.lockable then ((s.enterPlb plbLocked s.plbSel).setFld R.PLB_STATUS_LAST_REF 0 s.plbSel).endCapture else s)

/-- HOLDOVER_EXPIRE: HOLD_MAX hours since entry (R271). -/
def execHoldoverExpire (s : State) : Out :=
  .next (if s.plb = plbHoldover && decide (28800000 * s.fld R.PLB_HOLD_CFG_HOLD_MAX ≤ s.plumb.holdTicks) then
    (s.enterPlb plbExpired 0xF).latch R.PLB_EVT_HOLD_EXPIRED
  else s)

/-! ### What a commit does (R263, R268, R294) -/

/-- The commit of a reference's EN, QL, and TOFF where the DPLL follows it, whose old values are `en`, `ql` and `toff` (R259, R263, R294). A
target's EN, and a configured level, wait for the end of a capture (R276). -/
def State.refCommitted (s0 : State) (i : Nat) (en : Bool) (toff : Int) (ql : Nat) : State :=
  let s := if s0.captureHolds && ql != s0.fld R.PLB_REFi_CFG_QL i then
      s0.updPlumb (fun p => { p with qlWait := if (p.qlWait.find i).isSome then p.qlWait else p.qlWait.put i ql }) else s0
  let s1 :=
    if en = s.flag R.PLB_REFi_CFG_EN i then s
    else if s.captureHolds && s.plbSel = i then s.updPlumb (fun p => { p with enWait := !s.flag R.PLB_REFi_CFG_EN i })
    else s.freshRef i
  if s1.following && s1.plbSel = i then
    s1.updPlumb (fun p => { p with slew := p.slew + (s1.ifld R.PLB_REFi_TOFF_TOFF i - toff) })
  else s1

/-- Values that the image sets are there at once: no output is on its way to an offset (R293, R343). -/
def State.placeFpouts (s : State) : State := s.updPlumb (fun p => { p with fpNow := {} })

/-- The commit of an output whose OFFSET was `old`: it moves from there (R294). -/
def State.fpoutCommitted (s : State) (k : Nat) (old : Int) : State :=
  if old = s.ifld R.PLB_FPOUTk_OFFSET_OFFSET k then s
  else (s.updPlumb (fun p => { p with fpNow := if (p.fpNow.find k).isSome then p.fpNow else p.fpNow.put k old })).setFlag
    R.PLB_FPOUTk_STAT_SLEWING k true

/-! ### The cores (R288, R289) -/

/-- The shadow core tracks, or does not; TLY_SPARES shows whether one is in service. -/
def State.setShadow (s : State) (ok : Bool) : State :=
  (s.setFlag R.PLB_STATUS_SHADOW_OK 0 ok).setFlag R.TLY_SPARES_DPLL 0 ok

/-- DPLL_SWAP: a core fails its self-check. The shadow takes the place of a failed active core; the failed core runs its built-in test
(R288). A failed active core that has no shadow finds no spare, and the device fails (R460, R469). -/
def execDpllSwap (shadow : Bool) (s : State) : Out :=
  .next (
    if !s.flag R.PLB_STATUS_SHADOW_OK then (if shadow then s else s.exhausted.failDevice)
    else
      let s1 := (s.setShadow false).updPlumb (fun p => { p with test := 1, restart := none })
      if shadow then s1 else s1.swapCores)

/-- SHADOW_RESTORE: the core that passed its test becomes the shadow after 8,000 frames (R288). -/
def execShadowRestore (s : State) : Out :=
  .next (match s.plumb.restart with
    | some f => if frameReached s.frame f then (s.setShadow true).updPlumb (fun p => { p with restart := none }) else s
    | none => s)

/-- DPLL_MISMATCH: the shadow restarts from the active core's state (R289). -/
def execDpllMismatch (s : State) : Out :=
  .next (if s.flag R.PLB_STATUS_SHADOW_OK then
    (s.copyCore.latch R.PLB_EVT_DPLL_MISMATCH).updPlumb (fun p => { p with
      mismatches := s.frame :: p.mismatches.filter (fun f => decide (s.sinceFrame f < 691200000)) })
  else s)

/-- DPLL_TEST_TRIGGER (R465): three mismatches within 24 h: the shadow runs its built-in test. -/
def execDpllTestTrigger (s : State) : Out :=
  .next (
    if s.flag R.PLB_STATUS_SHADOW_OK && decide (3 ≤ (s.plumb.mismatches.filter (fun f => decide (s.sinceFrame f < 691200000))).length) then
      ((s.setShadow false).updPlumb (fun p => { p with test := 2, mismatches := [] })).showBusy
    else s)

/-- The core that is not active is retired for good (R288, R459, R465, R472). -/
def State.retireCore (s : State) : State :=
  let k := 1 - s.fld R.PLB_STATUS_DPLL
  (((s.setShadow false).latch R.PLB_EVT_SHADOW_FAIL).tallyAdd tallyDpll 0 k [1]).updSist (fun x =>
    { x with spent := { x.spent with dpll := some k } })

/-- The core that passed its test restarts from the active core's state (R288). -/
def State.restartCore (s : State) : State := s.copyCore.updPlumb (fun p => { p with restart := some (frameAdd s.frame 8000) })

/-- DPLL_BUILT_IN_TEST_DONE (R288, R465): the first core to fail is retired. After a self-check failure a core that passes restarts as the
shadow; under R465 a shadow that passes swaps with the active core at the next tick, which is then tested, and when both pass the case is
unresolved. -/
def execDpllBuiltInTestDone (pass : Bool) (s : State) : Out :=
  .next (
    let k := s.plumb.test
    let s1 := (s.updPlumb (fun p => { p with test := if pass && k = 2 then 4 else 0 })).showBusy
    if k = 0 || k = 4 then s
    else if !pass then s1.retireCore
    else if k = 2 then s1
    else if k = 3 then
      ((s1.latch R.TLY_EVT_DPLL_UNRESOLVED).tallyAdd tallyDpll 0 (1 - s1.fld R.PLB_STATUS_DPLL) [2]).restartCore
    else s1.restartCore)

end Sys2Proof.Machine
end

