-- ==== Sys2Proof/Machine/Tx.lean ====
section
/-! DEFINITION. Lane transmit: training, discovery and traffic frames (R33, R67, R72, R86, R95, R99, R100, R103 to R108, R119). -/

namespace Sys2Proof.Machine

/-- The device forces AIS on the outputs of lane `n` (R25, R100): on a traffic or spare lane its mate state calls for it (R304), on a
mate lane only FAILED does (R317); the tamper policy halts traffic on every lane. -/
def State.forcesAis (s : State) (n : Nat) : Bool :=
  (if n < 272 then s.mateAis else s.mateState == mateFailed) || s.flag R.TLY_STAT_HALTED

/-- The traffic lane whose frames lane `n` sends: its own, or lane x on a spare that shadows or carries it (R82, R83). -/
def State.sentFor (s : State) (n : Nat) : Nat :=
  if isSpare n && s.flag R.LN_SPARE_STAT_CARRYING n then 16 * (n - 256) + s.fld R.LN_SPARE_STAT_CARRIED n
  else if isSpare n && s.flag R.LN_SPARE_STAT_SHADOW n then (s.lane n).target
  else n

/-- The status word of lane `n` sending for lane `x` (R100, R119). -/
def State.stwWord (s : State) (n x : Nat) (lais lrdi : Bool) : Nat :=
  withCrc8 (b2n lais * 2 ^ 35 + b2n lrdi * 2 ^ 34 + (if s.sentQl n = qlDnu then qlDnu else s.sentQl x) * 2 ^ 30 + s.roleSent * 2 ^ 28 + 1 * 2 ^ 24)

/-- A phase test word (R108). -/
def phaseWord (valid : Bool) (v : Nat) : Nat := if valid then 3 * 2 ^ 32 + v else 0

/-- The lane whose receive side and channels the overhead of lane `n`'s frames speaks for: lane x while its frames are copied, in SERVICE,
on the spare; else lane `n` itself (R82; DEDUCED: log entry 45). -/
def State.overheadOf (s : State) (n x : Nat) : Nat := if x != n && s.inService x then x else n

/-- The management-channel words that a frame `f` for lane `x` carries: those that lane `x` has sent in its own frame `f`, else the
next that wait (R82, R105). -/
def State.mchFor (s : State) (x f : Nat) : List Nat :=
  let l := s.lane x
  if !s.flag R.LN_MCH_CTRL_ENABLE x then []
  else if l.tx.traffic && l.tx.frame = f then l.tx.mch
  else l.mchTx.take 2048

/-- Lane `x` has ceased to send its own frames, which its spare sends, since SPARE_RELEASE was exchanged (R83). -/
def State.ceased (s : State) (x : Nat) : Bool := decide (x < 256) && s.flag R.LN_FIT_STATUS_SUB x && (s.lane (256 + x / 16)).ended

/-- The words of lane `x`'s slot columns as the plate gave them, or on a mate lane the heartbeat (R307), and the overhead that lane `n` sends
with them (R86, R95, R100); copies on a spare carry lane x's but in the fitting channel, which is the spare's own (R82). A mate lane's
other columns carry the mate channel's blocks. A lane that has ceased to send its own frames sends slot words that the manual does not give:
free values (DESIGN CHOICE: log entry 61). -/
def State.trafficFrame (s : State) (n x f : Nat) : TxFrame :=
  let l := s.lane n
  let k := s.overheadOf n x
  let lais := s.fit n == fitFrame || s.fit n == fitIntro || s.flag R.LN_FRM_CFG_TX_FORCE_AIS x || s.flag R.LN_FRM_CFG_TX_FORCE_AIS n
    || s.forcesAis n
  let lrdi := s.caDefect k
  let free := n = x && s.ceased x
  let plate := if 272 ≤ n then (if s.paired then s.heartbeatSlots f else {}) else if free then {} else (s.lane x).plate
  { sent := true, traffic := true, frame := f, lais := lais, lrdi := lrdi
    idle := if lais then aisOver (idleWord f) else idleWord f
    blocks := if 272 ≤ n || free then some n else none
    data := if 272 ≤ n then s.mateData n f else []
    slots := if lais then plate.mapVals (fun _ w => aisOver w) else plate
    lid := withCrc8 (x * 2 ^ 27 + bits (s.fld R.LN_PEER_ID0_ID x) 0 9 * 2 ^ 18)
    stw := s.stwWord n x lais lrdi
    tkw := s.tkwWord
    vtw := withCrc8 0
    bew := withCrc8 (min 4095 (s.lane k).lastCorr * 2 ^ 24 + min 512 (s.lane k).lastUnc * 2 ^ 14)
    fcw := l.fcTx.take 128
    mch := s.mchFor x f
    phi := phaseWord (s.flag R.LN_PHASE_STAT_RX_VALID x) (s.fld R.LN_RX_PHASE_PHASE x)
    psi := phaseWord true (toWord 32 (s.lane k).psi)
    txInv := l.inv }

/-- The payload of slot column `c` of mate lane `n` beside the heartbeat, or of a lane that has ceased to send its own frames: a word of the block that stands there; where none does, a free value
(R307; DESIGN CHOICE: log entry 13). -/
def TxFrame.mateWord (t : TxFrame) (n c : Nat) : Nat :=
  match t.data[(c - 24) / 64]? with
  | some b => if 24 ≤ c then b.getD ((c - 24) % 64) 0 else Config.mateBlock t.frame n c
  | none => Config.mateBlock t.frame n c

/-- The word that a traffic frame carries in slot column `c`, counted over the frame: a column not listed carries the idle word, or on a mate
lane a word of the mate channel, parity-good with GRN 0 and SEQ of the transmit frame (R307); with LAIS an AIS word stands over it (R25,
R100). -/
def TxFrame.column (t : TxFrame) (c : Nat) : Nat :=
  match t.slots.find c, t.blocks with
  | some w, _ => w
  | none, none => t.idle
  | none, some n =>
    let w := slotWord (t.mateWord n c) 0 (t.frame % 4)
    if t.lais then aisOver w else w

/-! ### The rows of a frame as the balls show them (R45, R67, R86 to R92) -/

/-- Words 0 to 1,071 of row `r` of a traffic frame, before scrambling (R86 to R88, R95, R98, R105, R108): FAW or row marker; overhead, with
words 7 to 15 zero; the slot columns; the management channel, IDLE where nothing waits; the test words. -/
def TxFrame.dataRow (t : TxFrame) (r : Nat) : List Nat :=
  (if r = 0 then [faw / 2 ^ 36, faw % 2 ^ 36, fnChk t.frame * 2 ^ 32 + t.frame] else [rowMarker r, t.lid, t.stw])
    ++ [t.tkw, t.vtw, t.fcw.getD r 0, t.bew] ++ List.replicate 9 0
    ++ (List.range 1024).map (fun c => t.column (1024 * r + c))
    ++ (List.range 16).map (fun k => t.mch.getD (16 * r + k) 0)
    ++ (List.range 16).map (fun k => if r = 0 && k = 0 then t.phi else if r = 0 && k = 1 then t.psi else 0)

/-- The 1,152 words of row `r` of a traffic frame as they go to the line: scrambled but for the FAW and the row marker, and the parity of
the four codewords over what is sent (R89 to R92). -/
def TxFrame.trafficRow (t : TxFrame) (r : Nat) : List Nat :=
  let d := scrambleRow r (t.dataRow r)
  d ++ rowParityWords d

/-- The 1,152 words of a training or discovery row: the marker, TRQ and TST, their copies, and the test pattern (R67). -/
def TxFrame.trainingRow (t : TxFrame) : List Nat :=
  [trainMarker / 2 ^ 36, trainMarker % 2 ^ 36] ++ t.training ++ t.training ++ testPattern

/-- The words of row `r` of what a lane sends in a transmit frame; none where the balls idle at common mode (R64). -/
def TxFrame.lineRow (t : TxFrame) (r : Nat) : List Nat :=
  if !t.sent then [] else if t.traffic then t.trafficRow r else t.trainingRow

/-- The PAM4 level indexes of row `r` of what a lane sends, in the order in which they leave the balls, inverted under TX_INV (R45, R46, R48). -/
def TxFrame.levels (t : TxFrame) (r : Nat) : List Nat :=
  (t.lineRow r).flatMap (wordLevels (if r < t.invRow then t.txInv else !t.txInv))

/-- The level indexes that the transmit balls of lane `n` show in row `r` of its transmit frame. -/
def State.txBalls (s : State) (n r : Nat) : List Nat := (s.lane n).tx.levels r

/-- Lane `n` sends training or discovery rows (R67, R72); coefficients that wait and a committed TX_INV act from here (R48, R50). -/
def State.sendTraining (s : State) (n f : Nat) : State :=
  let inv := s.flag R.LN_TX_CFG_TX_INV n
  let s1 := (s.beginRow n).updLane n (fun l => { l with inv := inv })
  let s2 := s1.updLane n (fun l => { l with tx := { sent := true, frame := f, training := s1.trainingWords n, txInv := inv } })
  let s3 := (s2.setFlag R.LN_FRM_STAT_TX_LAIS n false).setFlag R.LN_FRM_STAT_TX_LRDI n false
  s3.setFlag R.LN_PHASE_STAT_TX_VALID n false

/-- The management words of a frame for lane `x` have left: lane `x`'s own frame takes them from what waits, or the spare's where lane `x`
sends no traffic frame. With ENABLE = 0 what waits is dropped, the rest of a packet in progress too, with no ABORT (R107; DESIGN CHOICE: log
entry 62). -/
def State.drainMch (s : State) (n x : Nat) : State :=
  if n = x || !s.sendsTraffic x then
    s.updLane x (fun l => { l with mchTx := if s.flag R.LN_MCH_CTRL_ENABLE x then l.mchTx.drop 2048 else [] })
  else s

/-- Lane `n` sends a traffic frame (R86); what waits in its fitting and management channels goes with it (R73, R105). -/
def State.sendTraffic (s : State) (n f : Nat) : State :=
  let x := s.sentFor n
  let t := s.trafficFrame n x f
  let s1 := (s.drainMch n x).updLane n (fun l => { l with
    tx := t, announcing := false, fcTx := l.fcTx.drop 128
    restartPend := if l.restartPend = 2 then 1 else l.restartPend })
  let s2 := (s1.setFlag R.LN_FRM_STAT_TX_LAIS n t.lais).setFlag R.LN_FRM_STAT_TX_LRDI n t.lrdi
  s2.setFlag R.LN_PHASE_STAT_TX_VALID n true

/-- A restart whose message has gone out starts its attempt at the next transmit frame (R514), unless ENABLE has been cleared (R65). -/
def State.takeRestart (s : State) (n : Nat) : State := if (s.lane n).restartPend = 1 then s.restartLane n else s

/-- The plate's part of transmit frame `f` of output port `p`, once in the frame: its words stand ready for the lane that carries the port,
and for the lane or the spare that sends their copy (R33, R82). -/
def State.platePart (s : State) (p f : Nat) : State :=
  if 256 ≤ p || (s.lane p).plateAt = some f then s
  else
    let sc := s.schedAt f
    let r := (s.watchPegs sc p f).readPort sc p f
    let s1 := r.1.updLane p (fun l => { l with plate := r.2, plateAt := some f })
    let via := s1.carrier p
    if s1.sendsTraffic via then
      s1.countSent sc p f (s1.fit via == fitFrame || s1.fit via == fitIntro || s1.flag R.LN_FRM_CFG_TX_FORCE_AIS p
        || s1.flag R.LN_FRM_CFG_TX_FORCE_AIS via || s1.forcesAis via) r.2
    else s1

/-- The transmit balls are driven: from the end of P4, while raising has not halted and no JTAG instruction holds them (R64, R340 to
R342). -/
def State.transmits (s : State) : Bool := decide (5 ≤ s.phase) && !s.flag R.IMG_RAISE_HALTED && !s.raise.jtag

/-- The transmit balls of lane `n` idle at common mode (R64). -/
def State.sendNothing (s : State) (n : Nat) : State :=
  (s.updLane n (fun l => { l with tx := {} })).setFlag R.LN_PHASE_STAT_TX_VALID n false

/-- TX_FRAME (R33): in transmit frame F the plate reads page F − 2 − d, merges and checks the words; lane transmit sends them with the
overhead, or training or discovery rows, and LN_TX_PHASE holds its phase (R44); before the end of P4 it sends nothing. -/
def execTxFrame (n : LaneIx) (s : State) : Out :=
  .next (
    let f := s.frame
    let x := s.sentFor n
    let s1 := ((s.takeRestart x).takeRestart n).platePart x f
    if !s.transmits then s1.sendNothing n
    else
      let s2 := if s1.sendsTraffic n then s1.sendTraffic n f else s1.sendTraining n f
      s2.setFld R.LN_TX_PHASE_PHASE n (toWord 32 (s2.lane n).psi))

end Sys2Proof.Machine
end

