-- ==== Sys2Proof/Machine/Shown.lean ====
section
/-! DEFINITION. What the registers that follow from other state read as: sums, counts, active values and the records that a master has
latched. -/

namespace Sys2Proof.Machine

/-! ### Latched events whose enable is 1 (R396, R398) -/

/-- Some instance accepted by `p` of an event register has a latched bit whose enable is 1. -/
def State.pendingIn (s : State) (evt en : Fld) (p : Nat → Bool) : Bool :=
  (s.regs.get evt.id {}).entries.any (fun e => p e.1 && decide (Nat.land e.2 (s.fld en e.1) ≠ 0))

/-- The event registers of an island code, each with its enables (R382, R408 and the chapters' register tables). -/
def islandEvents (c : Nat) : List (Fld × Fld) :=
  match c with
  | 0 => [(R.DEV_EVT, R.DEV_EVT_EN)]
  | 1 => [(R.IMG_EVT, R.IMG_EVT_EN)]
  | 2 => [(R.MGT_EVT, R.MGT_EVT_EN)]
  | 3 => [(R.MTX_EVT, R.MTX_EVT_EN)]
  | 4 => [(R.MEM_EVT, R.MEM_EVT_EN), (R.SND_EVT, R.SND_EVT_EN)]
  | 5 => [(R.DDR_EVT, R.DDR_EVT_EN)]
  | 6 => [(R.TLY_EVT, R.TLY_EVT_EN)]
  | 7 => [(R.PLB_EVT, R.PLB_EVT_EN), (R.PLB_REFi_EVT, R.PLB_REFi_EVT_EN)]
  | 8 => [(R.MAT_EVT, R.MAT_EVT_EN)]
  | 9 => [(R.CNT_EVT, R.CNT_EVT_EN), (R.PEG_EVT, R.PEG_EVT_EN)]
  | 10 => [(R.FAB_EVT, R.FAB_EVT_EN), (R.GRN_EVT, R.GRN_EVT_EN)]
  | 11 => [(R.SCB_EVT, R.SCB_EVT_EN), (R.CUT_EVT, R.CUT_EVT_EN)]
  | 12 => [(R.SCF_EVT, R.SCF_EVT_EN)]
  | _ => []

/-- An island has a latched event bit whose enable is 1. -/
def State.islandPending (s : State) (c : Nat) : Bool := (islandEvents c).any (fun e => s.pendingIn e.1 e.2 (fun _ => true))

/-- A lane accepted by `p` has such a bit. -/
def State.lanePending (s : State) (p : Nat → Bool) : Bool :=
  s.pendingIn R.LN_FIT_EVT R.LN_FIT_EVT_EN p || s.pendingIn R.LN_DEF_EVT R.LN_DEF_EVT_EN p

/-- A bent has such a bit. -/
def State.bentPending (s : State) (p : Nat → Bool) : Bool := s.pendingIn R.BNT_EVT R.BNT_EVT_EN p

/-- A scarf group has such a bit. -/
def State.groupPending (s : State) (p : Nat → Bool) : Bool := s.pendingIn R.SCF_GEVT R.SCF_GEVT_EN p

/-- A number whose bit k is `p k`, for k below `n`. -/
def bitsOf (n : Nat) (p : Nat → Bool) : Nat := (List.range n).foldl (fun a k => if p k then a + 2 ^ k else a) 0

/-- A summary register: bit j for instance 32 i + j. -/
def State.sumWord (s : State) (f : State → (Nat → Bool) → Bool) (i : Nat) : Nat :=
  bitsOf 32 (fun j => f s (fun k => k == 32 * i + j))

/-! ### Grain sides in FAULT (R249, R250) -/

/-- The sides in FAULT at the end of the last transmit frame. -/
def State.faults (s : State) : List SideFault := s.sides.shown

/-- Some side in FAULT has a source in bent `b`. -/
def State.bentFault (s : State) (b : Nat) : Bool := s.faults.any (fun x => x.bent == some b)

/-- The sides in FAULT of merged slots of group `g`, on a side. -/
def State.groupFaults (s : State) (g side : Nat) : Nat := s.faults.countP (fun x => x.side == side && x.group == some g)

/-- A side of an output slot is among those in FAULT. -/
def State.faulty (s : State) (a side : Nat) : Bool := s.faults.any (fun x => x.slot == a && x.side == side)

/-- GRN_SCAN_RES for a master (R250). -/
def State.scanWord (s : State) (m : Nat) : Nat :=
  let port := s.mfld R.GRN_SCAN_SEL_PORT 0 m
  let from' := s.mfld R.GRN_SCAN_SEL_FROM 0 m
  let hits := (s.faults.filter (fun x => portOfAddr x.slot == port && decide (from' ≤ slotOfAddr x.slot))).map (fun x => slotOfAddr x.slot)
  match hits with
  | [] => 0
  | h :: t =>
    let k := t.foldl min h
    let a := 131072 * port + k
    k + b2n (s.faulty a 0) * 2 ^ 17 + b2n (s.faulty a 1) * 2 ^ 18 + 2 ^ 31

/-! ### Merged slots (R253) -/

/-- The merged slots of the map that `p` accepts by output slot and group. -/
def State.mergedCount (s : State) (p : Nat → Nat → Bool) : Nat :=
  s.sched.map.entries.countP (fun e => match e.2 with
    | .merged _ _ g _ => p e.1 g
    | .single _ => false)

/-! ### Long members and return ports (R134, R136) -/

/-- The members of every bent of the active schedule, pending ones included (R161). -/
def State.allMembers (s : State) : List Membership :=
  let added := sortNats (s.changes.flatMap (fun c => (c.recs.filter EditRec.isAdd).map (·.group)))
  (s.sched.bents.keys ++ added.filter (fun b => !s.sched.bents.keys.contains b)).flatMap s.bentMembers

/-- The members of a bent's active schedule that are still pending (R139). -/
def State.joiningMembers (s : State) (b : Nat) : Nat :=
  (s.sched.membersOf b).countP (fun x => (s.link x.src).state == .pending)

/-- The arrivals of a bent's members that have joined (R161). -/
def State.joinedArrivals (s : State) (b : Nat) : List Nat :=
  ((s.sched.membersOf b).filter (fun x => (s.link x.src).joined)).map (·.arr)

/-! ### The change queue (R223) -/

/-- SCB_STAT.BUSY: a change is COMPILING (R224). -/
def State.scribeBusy (s : State) : Bool := (match s.chg with
  | some c => c.state == .compiling
  | none => false)

/-- DEV_COMMIT_STAT.DIRTY: some staged value differs from its active value (R394). -/
def State.dirty (s : State) : Bool :=
  s.staged.entries.any (fun e => (fieldOf e.1).any (fun f => e.2.entries.any (fun x => x.2 != s.fld f x.1)))

/-- FAB_STAT (R173, R180, R189): the sweep and the kerf at the core cycle of the frame; before the first tick there is neither. SWEEP stays 1
to the sweep's last plate write, and so overlaps KERF (DESIGN CHOICE: log entry 66). -/
def State.fabStat (s : State) : Nat :=
  let above := s.sched.ingress.entries.any (fun e => decide (131072 < e.2.entries.length))
  let sweep := decide (1296 ≤ s.cycle) && decide (s.cycle ≤ 140583)
  let kerf := s.fld R.PLB_STATUS_STATE != 7 && (decide (140560 ≤ s.cycle) || decide (s.cycle ≤ 1295))
  b2n sweep + b2n kerf * 2 + b2n above * 4

/-- The value of a lock word (R414). -/
def State.lockWord (s : State) (k : Nat) : Nat := s.readLe (0x10280000 + 0x40000 + 4 * k) 4

/-- PLB_FPOUTk_STAT.ALIGNED: Plumb is LOCKED with BUILDOUT 0, and neither the tick nor output `k` slews (R297). -/
def State.fpoutAligned (s : State) (k : Nat) : Bool :=
  s.plb == plbLocked && s.fld R.PLB_BUILDOUT_VALUE == 0 && s.plumb.slew == 0 && !s.flag R.PLB_FPOUTk_STAT_SLEWING k

/-- What a register reads as where that follows from other state; `none` for a register that shows its fields. -/
def State.shownWord (s : State) (m id i : Nat) : Option Nat :=
  if id = RN.DEV_FRAME_CYCLE then some (s.frameCycle.get m 0)
  else if id = RN.DEV_COMMIT_STAT then some (s.fld R.DEV_COMMIT_STAT_STATE + 4 * b2n s.dirty)
  else if id = RN.DEV_EVTSUM then
    some (bitsOf 14 s.islandPending + b2n (s.lanePending (fun _ => true)) * 2 ^ 16 + b2n (s.bentPending (fun _ => true)) * 2 ^ 17
      + b2n (s.groupPending (fun _ => true)) * 2 ^ 18)
  else if id = RN.LN_PHASE_STAT then
    some (s.fld R.LN_PHASE_STAT_RX_VALID i + s.fld R.LN_PHASE_STAT_RX_SYNC_OK i * 2 + s.fld R.LN_PHASE_STAT_TX_VALID i * 4
      + s.fld R.LN_TX_STAT_TIMING_ACT i * 8)
  else if id = RN.LN_FIT_STATUS then
    some (s.fit i + b2n (s.flag R.LN_FIT_CTRL_ENABLE i && !s.inService i) * 2 ^ 4 + s.fld R.LN_FIT_STATUS_RX_POL_INV i * 2 ^ 5
      + s.fld R.LN_FIT_STATUS_SUB i * 2 ^ 6 + s.fld R.LN_FIT_STATUS_LAST_FAIL i * 2 ^ 8 + s.fld R.LN_FIT_STATUS_PEER_STATE i * 2 ^ 12
      + s.fld R.LN_FIT_STATUS_PEER_LANE i * 2 ^ 16 + s.fld R.LN_FIT_STATUS_FAILS i * 2 ^ 25)
  else if id = RN.LIF_DEFSUM then some (bitsOf 32 (fun j => decide (32 * i + j < 280) && s.flag R.LN_FRM_STAT_CA (32 * i + j)))
  else if id = RN.BNT_STAT then
    some (s.bentState i + (s.joinedArrivals i).length * 2 ^ 4 + (s.joiningMembers i + (s.pendingMembers i).length) * 2 ^ 17)
  else if id = RN.BNT_REF then
    some (((s.sched.bents.find i).map (·.ref)).getD 0 + s.fld R.BNT_CFG_GUARD i * 2 ^ 16 + s.fld R.BNT_CFG_POLICY i * 2 ^ 27)
  else if id = RN.BNT_MDLY then some (((s.mdlyHeld.get i {}).get m []).getD 0 0)
  else if id = RN.BNT_MPOS then some (((s.mdlyHeld.get i {}).get m []).getD 1 0)
  else if id = RN.BNT_SKEW then
    let l := s.joinedArrivals i
    some (l.foldl min (l.headD 0) + l.foldl max 0 * 2 ^ 16)
  else if id = RN.BNT_MCOUNT then
    some (s.countState i (· == .suspect) + s.countState i (fun st => st == .held || st == .blocked) * 2 ^ 16)
  else if id = RN.BNT_GLB_STAT then some (s.sched.bents.entries.countP (fun e => !e.2.members.isEmpty))
  else if id = RN.BNT_GLB_MEMBERS then some s.allMembers.length
  else if id = RN.BNT_GLB_LONG then some (s.allMembers.countP (fun x => decide (2 ≤ x.d)))
  else if id = RN.BNT_GLB_LPUSE then some (lpUnits s.tap)
  else if id = RN.BNT_GLB_LPCAP_ACT then some (s.fld R.BNT_GLB_LPCAP_CAP)
  else if id = RN.BNT_GLB_RPUSE then some (tapCount s.tap i)
  else if id = RN.BNT_GLB_EVTSUM then some (s.sumWord State.bentPending i)
  else if id = RN.FAB_STAT then some s.fabStat
  else if id = RN.FAB_IN_COST then
    some (s.sched.inCost i + b2n (decide (131072 < s.sched.inCost i)) * 2 ^ 31)
  else if id = RN.FAB_OUT_WORDS then some (s.sched.outWords i)
  else if id = RN.SCB_STAT then
    some (s.fld R.SCB_STAT_ENGINES + s.fld R.SCB_STAT_SPARES * 2 ^ 7 + b2n s.scribeBusy * 2 ^ 10)
  else if id = RN.SCB_MREC_P then some ((s.mrecHeld.get m []).getD 0 0)
  else if id = RN.SCB_MREC_G then some ((s.mrecHeld.get m []).getD 1 0)
  else if id = RN.CUT_SCN_STAT then
    some (s.fld R.CUT_SCN_STAT_CUR + s.fld R.CUT_SCN_STAT_STATE * 2 ^ 8 + s.scnQ.length * 2 ^ 11 + s.fld R.CUT_SCN_STAT_SPAN * 2 ^ 16)
  else if id = RN.GRN_STAT then some s.faults.length
  else if id = RN.GRN_SCAN_RES then some (s.scanWord m)
  else if id = RN.GRN_PORT then some (s.faults.countP (fun x => portOfAddr x.slot == i))
  else if id = RN.GRN_BENTSUM then some (bitsOf 32 (fun j => s.bentFault (32 * i + j)))
  else if id = RN.GRN_GRPSUM then some (bitsOf 32 (fun j => decide (0 < s.groupFaults (32 * i + j) 0 + s.groupFaults (32 * i + j) 1)))
  else if id = RN.SCF_STAT then some (s.mergedCount (fun _ _ => true))
  else if id = RN.SCF_GROUPS then some (groupsIn s.sched.map).length
  else if id = RN.SCF_PORT_MERGED then some (s.mergedCount (fun a _ => portOfAddr a == i))
  else if id = RN.SCF_GEVTSUM then some (s.sumWord State.groupPending i)
  else if id = RN.SCF_GSTAT then
    some (s.fld R.SCF_GSTAT_STATE i + s.pref i * 2 ^ 3 + s.fld R.SCF_GSTAT_W_DEG i * 2 ^ 4 + s.fld R.SCF_GSTAT_P_DEG i * 2 ^ 5
      + s.fld R.SCF_GCFG_MODE i * 2 ^ 6 + s.fld R.SCF_GCFG_HOME i * 2 ^ 9 + s.fld R.SCF_GCFG_REVERT i * 2 ^ 10)
  else if id = RN.SCF_GSLOTS then some (s.mergedCount (fun _ g => g == i))
  else if id = RN.SCF_GGRN then some (min 65535 (s.groupFaults i 0) + min 65535 (s.groupFaults i 1) * 2 ^ 16)
  else if id = RN.PLB_FPOUTk_STAT then
    some (s.fld R.PLB_FPOUTk_CFG_MODE i + s.fld R.PLB_FPOUTk_STAT_SLEWING i * 4 + b2n (s.fpoutAligned i) * 8)
  else if id = RN.MAT_STAT then
    some (s.fld R.MAT_STAT_STATE + s.fld R.MAT_STAT_SIDE * 2 ^ 4 + s.fld R.MAT_STAT_ARB_IN * 2 ^ 5 + s.fld R.MAT_STAT_ARB_OUT * 2 ^ 6
      + s.fld R.MAT_STAT_HB_OK * 2 ^ 7 + s.fld R.MAT_STAT_KEPT * 2 ^ 8 + s.fld R.MAT_STAT_TKV * 2 ^ 9
      + s.fld R.MAT_STAT_NEW_ROLE * 2 ^ 10 + bitsOf 8 (fun l => s.inService (272 + l)) * 2 ^ 12 + s.fld R.MAT_STAT_CONFLICT * 2 ^ 20)
  else if id = RN.IMG_BOOT then
    some (s.tally.boot.pref + 2 * s.tally.boot.trial)
  else if id = RN.MEM_LOCK then some ((List.range 8).foldl (fun a j => a + s.lockWord (8 * i + j) % 16 * 2 ^ (4 * j)) 0)
  else if id = RN.CNT_Bc_LO then some (s.bankShown i % 2 ^ 32)
  else if id = RN.CNT_Bc_HI then some (s.bankShown i / 2 ^ 32)
  else if id = RN.PEG_STAT then some (s.pegs.flight.length + s.pegs.queue.length * 2 ^ 11)
  else if id = RN.PEG_REC then
    some (if i = 0 then (s.pegs.queue.headD []).getD 0 0 else (s.pegs.held.get m (s.pegs.queue.headD [])).getD i 0)
  else if id = RN.TLY_LOG_IDX then some (s.tally.next + b2n s.tally.wrapped * 2 ^ 14)
  else if id = RN.TLY_LC_RESULT then some s.tally.result
  else if id = RN.TLY_LC_STAT then
    some (s.fld R.TLY_LC_STAT_STATE + s.fld R.TLY_LC_STAT_PENDING * 2 ^ 3 + s.fld R.TLY_LC_STAT_REVOKED * 2 ^ 4
      + min 255 s.tally.services * 2 ^ 8)
  else none

end Sys2Proof.Machine
end

