-- ==== Sys2Proof/Machine/Access.lean ====
section
/-! DEFINITION. Accesses: what an access that fails leaves, lock words, what a read returns and latches (R10, R12, R41, R379, R385, R406,
R412, R414, R415, R445, R475).
Readings and choices: DEDUCED (log entry 29). -/

namespace Sys2Proof.Machine

/-! ### How an access ends (R379, R385, R406) -/

/-- A write of port `p` at `a` is dropped: it is counted, recorded, latched, and takes exactly one record of the event log (R385, R397). -/
def State.dropWrite (s : State) (p a : Nat) : State :=
  let s1 := s.satFld R.MGT_DROP_CNT_COUNT 0 1
  let s2 := (s1.setFld R.MGT_DROP_LAST_ADDR 0 a).setFld R.MGT_DROP_LAST_HI_PORT 0 p
  let s3 := if s2.latched R.MGT_EVT_NONOWNER_WRITE then
      { s2 with logQ := s2.logQ ++ [s2.evRec R.MGT_EVT_NONOWNER_WRITE p (a % 2 ^ 32)] }
    else s2.latchAs R.MGT_EVT_NONOWNER_WRITE 0 p (a % 2 ^ 32)
  s3.answer .dropped []

/-- An access before the ports are served: the SPI target answers NOT_READY, PCIe and the tunnel an error (R341, R378). -/
def State.tooEarly (s : State) (m : Nat) : State := s.answer (if m = 6 then .notReady else .error) []

/-- The path to the register target stays parked on the last master granted, on M8 before P7 and while JTAG holds the balls (R404). -/
def State.park (s : State) (m : Nat) : Place → State
  | .reg _ => if s.phase = 7 && !s.raise.jtag then s.setFld R.MTX_STAT_PARK 0 m else s
  | _ => s

/-- An access that its place does not serve: register space, the logical map, the staging window and the diagnostic window serve aligned words
only (R7, R191, R194, R209). -/
def misaligned (a : Nat) : Place → Bool
  | .reg _ | .tally _ | .map _ | .staging _ | .diag _ | .nowhere => decide (a % 4 ≠ 0)
  | .joiner _ _ | .mailbox _ | .secure _ | .ddr _ => false

/-! ### Lock words (R414, R415) -/

/-- The device address of a lock word, of which there are 64. -/
def lockAddr (k : Nat) : Nat := 0x10280000 + 0x40000 + 4 * (k % 64)

/-- The lock word at a mailbox offset. -/
def lockAt (off : Nat) : Option Nat := if 0x40000 ≤ off ∧ off < 0x40100 ∧ off % 4 = 0 then some ((off - 0x40000) / 4) else none

/-- A single-beat read of a lock word by master `m` acquires a free lock: of the host ports only the owner, of class PRIV (R414, R415). -/
def State.lockRead (s : State) (m k : Nat) : State × Nat :=
  let v := s.lockWord k
  let may := match portOfMaster m with
    | some p => s.privPort p && (s.ownsNow p || s.recovery)
    | none => true
  if v = 0 && may then (s.writeLe (lockAddr k) 4 (m + 1), 0) else (s, v)

/-- A write of a lock word: the holder's 0 frees it, any other latches LOCK_VIOLATION (R414). -/
def State.lockWrite (s : State) (m k w : Nat) : State :=
  if w = 0 ∧ s.lockWord k = m + 1 then s.writeLe (lockAddr k) 4 0 else s.latch R.MEM_EVT_LOCK_VIOLATION

/-- Every lock that master `m` holds is freed at its reset (R415). -/
def State.breakLocks (s : State) (m : Nat) : State :=
  let held := (List.range 64).filter (fun k => s.lockWord k == m + 1)
  if held.isEmpty then s
  else (held.foldl (fun t k => t.writeLe (lockAddr k) 4 0) s).latch R.MEM_EVT_LOCK_BREAK

/-! ### Registers (R8, R10, R12) -/

/-- The staged field whose active value a field of its own shows at all times (R10). -/
def activeOf (f : Fld) : Fld :=
  if f.id = R.LN_FRM_STAT_SYNC_ACT.id then R.LN_FRM_CFG_SYNC
  else if f.id = R.LN_TX_STAT_TX_INV_ACT.id then R.LN_TX_CFG_TX_INV
  else if f.id = R.FAB_LAM_STAT_ROTATE_ACT.id then R.FAB_LAM_CTRL_ROTATE
  else if f.id = R.FAB_LAM_STAT_SUB_ACT.id then R.FAB_LAM_CTRL_SUB
  else if f.id = R.PLB_FPOUTk_STAT_MODE_ACT.id then R.PLB_FPOUTk_CFG_MODE
  else f

/-- What master `m` reads of a field. -/
def State.fieldRead (s : State) (m id : Nat) (f : Fld) (i : Nat) : Nat :=
  if perMasterReg id then s.mfld f i m
  else match f.ty with
    | .wo => 0
    | .st => if s.mfld R.DEV_RDSEL_ACTIVE 0 m = 1 then s.fld f i else s.stg f i
    | _ => s.fld (activeOf f) i

/-- The fields of a register in their places (R9: reserved bits read 0). -/
def State.plainWord (s : State) (m : Nat) (r : Reg) (i : Nat) : Nat :=
  r.slices.foldl (fun a c => a + bits (s.fieldRead m r.id c.fld i) c.src c.len * 2 ^ c.lo) 0

/-- A register's word as master `m` would read it, latching nothing. -/
def State.regWord (s : State) (m : Nat) (r : Reg) (i : Nat) : Nat := ((s.shownWord m r.id i).getD (s.plainWord m r i)) % 2 ^ 32

/-- The word at an offset of register space, latching nothing. -/
def State.wordAt (s : State) (m off : Nat) : Nat :=
  match findReg off with
  | some (r, i) => s.regWord m r i
  | none => 0

/-- The high half latched for master `m` at the offset of a high register; 0 where it has read no low half (R12). -/
def State.latchedHigh (s : State) (m off : Nat) : Nat := (s.latHigh.get m {}).get off 0

/-- The high half at `off` is latched for master `m` (R12). -/
def State.latchHigh (s : State) (m off v : Nat) : State :=
  { s with latHigh := s.latHigh.put m ((s.latHigh.get m {}).put off v) }

/-- A chained reading waits for master `m` at the offset of a low half (R445). -/
def State.holdChain (s : State) (m off v : Nat) : State :=
  { s with chainHeld := s.chainHeld.put m ((s.chainHeld.get m {}).put off v) }

/-- A read of the low half of a bank counter or of its snapshot (R445): what a chained read of the counter below has latched is returned
and latches nothing; otherwise the high half is latched, and with CHAIN active both halves of the counter above. `step` is the distance
of one counter to the next. -/
def State.readBankLow (s : State) (m c off step : Nat) : State × Nat :=
  match (s.chainHeld.get m {}).find off with
  | some v => ({ s with chainHeld := s.chainHeld.put m ((s.chainHeld.get m {}).del off) }, v)
  | none =>
    let s1 := s.latchHigh m (off + 4) (s.wordAt m (off + 4))
    let s2 := if s.flag R.CNT_Bc_CFG_CHAIN c then
        (s1.latchHigh m (off + step + 4) (s.wordAt m (off + step + 4))).holdChain m (off + step) (s.wordAt m (off + step))
      else s1
    (s2, s.wordAt m off)

/-- A read of PEG_REC0 latches the head record for master `m` (R455). -/
def State.readPegRec (s : State) (m : Nat) : State × Nat :=
  let rec' := s.pegs.queue.headD (List.replicate 16 0)
  ({ s with pegs := { s.pegs with held := s.pegs.held.put m rec' } }, rec'.getD 0 0)

/-! ### The progress of an image operation (R366, R371) -/

/-- IMG_OP_STAT.STATE: an operation is in progress. -/
def opBusy : Nat := 1

/-- An operation is in progress (R366). -/
def State.imgBusy (s : State) : Bool := s.fld R.IMG_OP_STAT_STATE == opBusy

/-- What an operation in progress has processed by the next tick, or, where there are no ticks yet, by the next read of IMG_OP_STAT: how fast it goes
the manual does not say, so each adds a free value, up to the whole of it (R371; DESIGN CHOICE: log entry 8). -/
def State.imgProgress (s : State) : State :=
  if !s.imgBusy then s
  else (s.setFld R.IMG_OP_STAT_PROGRESS 0
    (min (s.raise.opLen / 65536) (s.fld R.IMG_OP_STAT_PROGRESS + Config.open' s.free))).drawn

/-- A read of register `r`, instance `i`, by master `m`, and what it latches (R12, R41, R162, R224, R371, R445, R455). A read of DEV_FRAME latches the
last core cycle of the frame that a command has named: its own where it names one (DESIGN CHOICE: log entry 17). -/
def State.readReg (s : State) (m : Nat) (r : Reg) (i off : Nat) : State × Nat :=
  if r.id = RN.DEV_FRAME then ({ s with frameCycle := s.frameCycle.put m s.cycle }, s.frame)
  else if r.id = RN.BNT_MSRC then s.readMember m i
  else if r.id = RN.SCB_MREC_W then s.readMrec m
  else if r.id = RN.PEG_REC ∧ i = 0 then s.readPegRec m
  else if r.id = RN.IMG_OP_STAT ∧ s.ticking = false then (s.imgProgress, s.imgProgress.regWord m r i)
  else if r.id = RN.CNT_Bc_LO then (s.bankCycle i).readBankLow m i off 0x10
  else if r.id = RN.CNT_Bc_SN_LO then s.readBankLow m i off 0x8
  else match r.half with
    | .single => (s, s.regWord m r i)
    | .low => (s.latchHigh m (off + 4) (s.wordAt m (off + 4)), s.regWord m r i)
    | .high => (s, s.latchedHigh m off)

/-- The snapshot value of fixed counter J at a window offset, low or high half (R439). -/
def State.readFixedSnap (s : State) (m off : Nat) : State × Nat :=
  let v := s.snapFixed.get ((off - 0x6000000) / 8) 0
  if off % 8 = 0 then (s.latchHigh m (off + 4) (v / 2 ^ 32), v % 2 ^ 32) else (s, s.latchedHigh m off)

/-- A read at an offset of register space by master `m`: an offset that names no register reads 0 (R382). -/
def State.readRegAt (s : State) (m off : Nat) : State × Nat :=
  match findReg off with
  | some (r, i) => s.readReg m r i off
  | none => if 0x6080000 ≤ off ∧ off < 0x6400000 ∧ off % 4 = 0 then s.readFixedSnap m off else (s, 0)

/-! ### The tally window (R475) -/

/-- The word at a tally offset: a word of a log record; elsewhere what the joiners wrote there, or, where the bytes of an area are not
stated, a free value (DESIGN CHOICE: log entry 8). -/
def State.tallyWord (s : State) (t : Nat) : State × Nat :=
  if 0x22000 ≤ t then
    let b := s.tally.log.get ((t - 0x22000) / 32) []
    (s, ((List.range 4).foldl (fun a k => a + b.getD ((t - 0x22000) % 32 + k) 0 * 2 ^ (8 * k)) 0))
  else match s.tallyRaw.find t with
    | some v => (s, v)
    | none => if 0x1000 ≤ t ∧ t < 0x2000 then (s, 0) else (s.drawn, Config.open' s.free % 2 ^ 32)

/-! ### Reading a place -/

/-- The word of the logical map at a byte offset, with the high half latched by a read of the low (R194). -/
def State.readMap (s : State) (m off : Nat) : State × Nat :=
  let v := s.mapEntry (off / 8)
  if off % 8 = 0 then (s.latchHigh m (0x100000000 + off + 4) (v / 2 ^ 32), v % 2 ^ 32)
  else (s, s.latchedHigh m (0x100000000 + off))

/-- The units of DDR5 that a read of `n` bytes at a place covers (R193, R428). -/
def State.placeUnits (s : State) (n : Nat) : Place → List Nat
  | .ddr x => ddrUnits x n
  | .map off => ddrUnits (s.regionBase 2 - ddrBase + off) n
  | _ => []

/-- What a read of master `m` finds at a place, device address `a`, and what it latches. -/
def State.readPlace (s : State) (m a : Nat) : Place → State × Nat
  | .reg off => s.readRegAt m off
  | .tally off => s.tallyWord (s.mfld R.TLY_WIN_SEL_PAGE 0 m * 32768 + off)
  | .mailbox off =>
    match lockAt off with
    | some k => s.lockRead m k
    | none => (s, s.readLe a 4)
  | .joiner _ _ | .secure _ | .staging _ => (s, s.readLe a 4)
  | .map off => (s.readUnits (s.placeUnits 4 (.map off))).readMap m off
  | .diag off => (s, (s.diagEntry off).getD 0)
  | .ddr x => (s.readUnits (s.placeUnits 4 (.ddr x)), s.ddrWord a)
  | .nowhere => (s, 0)

/-- A read of one word of the privileged view by master `m` (R7, R375, R383, R384, R406). -/
def State.readPriv (s : State) (m a : Nat) (bar2 : Bool) : State :=
  match s.judge m a bar2 false with
  | .ok =>
    if misaligned a (place a) then s.defaultHit m a
    else
      let (s1, v) := (s.park m (place a)).readPlace m a (place a)
      s1.answer .ok [v]
  | .early => s.tooEarly m
  | _ => s.defaultHit m a

/-- An aligned 64-bit read by master `m`, which the logical map window alone serves: the whole entry, low half first, and nothing is
latched; any other is an access to the default target (R194). -/
def State.readWide (s : State) (m a : Nat) : State :=
  match s.judge m a false false with
  | .ok =>
    (match place a with
    | .map off =>
      if off % 8 = 0 then
        (s.readUnits (s.placeUnits 8 (.map off))).answer .ok [s.mapEntry (off / 8) % 2 ^ 32, s.mapEntry (off / 8) / 2 ^ 32]
      else s.defaultHit m a
    | _ => s.defaultHit m a)
  | .early => s.tooEarly m
  | _ => s.defaultHit m a

/-- A read of one word of the unprivileged view by master `m` (R7, R376, R483): the MSI-X structures only through a PCIe port. -/
def State.readOpen (s : State) (m x : Nat) : State :=
  match portOfMaster m with
  | none => s.defaultHit m x
  | some p =>
    if !s.served && !s.recovery then s.tooEarly m
    else if s.recovery || decide (x % 4 ≠ 0) then s.defaultHit m x
    else match openPlace x with
      | .reg off =>
        let (s1, v) := (s.park m (.reg off)).readRegAt m off
        s1.answer .ok [v]
      | .zero => s.answer .ok [0]
      | .msixTable k => if p < 2 then s.answer .ok [(s.pcie.get p {}).table.get k (if k % 4 = 3 then 1 else 0)] else s.defaultHit m x
      | .msixPba k => if p < 2 then s.answer .ok [(s.pcie.get p {}).pba / 2 ^ (32 * k) % 2 ^ 32] else s.defaultHit m x
      | .nowhere => s.defaultHit m x

/-- A place that takes bytes and bursts: a scratchpad bank other than cut-list staging, or DDR5. The rest serve aligned words only (R7, R194,
R209). -/
def Place.storage : Place → Bool
  | .joiner _ _ | .mailbox _ | .secure _ | .ddr _ => true
  | .reg _ | .tally _ | .map _ | .staging _ | .diag _ | .nowhere => false

/-- What a word of storage holds: lock words give their values and are not acquired (R414). -/
def State.storageWord (s : State) (a : Nat) : Nat :=
  match place a with
  | .ddr _ => s.ddrWord a
  | _ => s.readLe a 4

/-- A read of `n` words of storage from `a` by master `m`, with a form that is no single-beat word access: a burst, or a word with some bytes
enabled (R7, R400, R406, R414). -/
def State.readStorage (s : State) (m a n : Nat) : State :=
  match s.judge m a false false with
  | .ok =>
    if (place a).storage then
      (s.readUnits (s.placeUnits (4 * n) (place a))).answer .ok ((List.range n).map (fun k => s.storageWord (a + 4 * k)))
    else s.defaultHit m a
  | .early => s.tooEarly m
  | _ => s.defaultHit m a

/-- The address of a word of its own bank that joiner `m` reaches at the local port (R409). -/
def State.ownAddr (s : State) (m : Nat) (x : BitVec 19) : Nat := joinerBank (s.coreOf m) + x.toNat

/-- A read at a view by master `m` (R400, R409): of one word, or in the form that the view gives. -/
def State.readView (s : State) (m : Nat) (v : View) : State :=
  match v with
  | .lanes a be => if be = 15 then s.readPriv m a.toNat false else s.readStorage m a.toNat 1
  | .burst a len => s.readStorage m a.toNat (4 * (len.val + 1))
  | .own x _ => if m < 4 then s.answer .ok [s.readLe (s.ownAddr m x) 4] else s.defaultHit m x.toNat
  | v =>
    match s.viewAddr m v with
    | .inl (a, bar2) => s.readPriv m a bar2
    | .inr x => s.readOpen m x

/-- The device address and the number of words that a read at a view takes through the matrix, where the access is served (R7, R406, R426). -/
def State.readRange (s : State) (m : Nat) (v : View) : Option (Nat × Nat) :=
  let words := fun (a n : Nat) => if s.judge m a false false = .ok ∧ (place a).storage then some (a, n) else none
  match v with
  | .lanes a be => if be = 15 then (if s.judge m a.toNat false false = .ok ∧ !misaligned a.toNat (place a.toNat) then some (a.toNat, 1) else none)
      else words a.toNat 1
  | .burst a len => words a.toNat (4 * (len.val + 1))
  | .burstWrite _ _ | .own _ _ => none
  | v =>
    match s.viewAddr m v with
    | .inl (a, bar2) => if s.judge m a bar2 false = .ok ∧ !misaligned a (place a) then some (a, 1) else none
    | .inr _ => none

/-- A run of aligned words read in ascending order: the first status that is not OK, and the words, 0 where a read failed (R378). -/
def State.readRun (s : State) (read : State → Nat → State) (addrs : List Nat) : State :=
  let step := fun (acc : State × Status × List Nat) (a : Nat) =>
    let s1 := read acc.1 a
    let st := s1.resp.status
    (s1, if acc.2.1 = .ok then st else acc.2.1, acc.2.2 ++ [if st = .ok then s1.resp.words.getD 0 0 else 0])
  let (s1, st, ws) := addrs.foldl step (s, .ok, [])
  s1.answer st ws

end Sys2Proof.Machine
end

