-- ==== Sys2Proof/Machine/Owner.lean ====
section
/-! DEFINITION. Ownership: its operations, the election, the lease, the handover and its loss (R384 to R390).
Readings and choices: DEDUCED (log entry 25), DEDUCED (log entry 26). -/

namespace Sys2Proof.Machine

/-! ### Who owns (R386, R388) -/

/-- No port: what MGT_OWNER.PORT reads while no owner exists. -/
def noPort : Nat := 7

/-- The owner port, or `noPort`, as register writes see it (R385). -/
def State.ownerPort (s : State) : Nat := s.fld R.MGT_OWNER_PORT

/-- The owner for ownership operations: an accepted RELEASE ends it at once (R386). -/
def State.opOwner (s : State) : Nat := if s.own.released then noPort else s.ownerPort

/-- A handover is pending (R389). -/
def State.handing (s : State) : Bool := s.flag R.MGT_OWNER_PENDING

/-- The ownership that stands behind MGT_OWNER changed by `f`. -/
def State.updOwn (s : State) (f : Owning → Owning) : State := { s with own := f s.own }

/-- The lease's length in frames (R388). -/
def leaseFrames : Nat := 2400

/-- How long a handover stays pending, in frames (R389). -/
def handoverFrames : Nat := 800

/-- MGT_OWNER.LEFT follows the lease: 0 with no owner, at most 2,400 (R388). -/
def State.showLeft (s : State) : State :=
  let left := if s.ownerPort = noPort || frameReached s.frame s.own.leaseEnd then 0
    else min leaseFrames ((s.own.leaseEnd + 2 ^ 32 - s.frame % 2 ^ 32) % 2 ^ 32)
  s.setFld R.MGT_OWNER_LEFT 0 left

/-- No handover is pending. -/
def State.endHandover (s : State) : State := (s.setFlag R.MGT_OWNER_PENDING 0 false).setFld R.MGT_OWNER_SUCCESSOR 0 0

/-- A pending handover is cancelled with HANDOVER_FAIL (R389). -/
def State.cancelHandover (s : State) : State :=
  if s.handing then s.endHandover.latchFor R.MGT_EVT_HANDOVER_FAIL s.ownerPort else s

/-- Ownership ends (R386, R388, R390). -/
def State.endOwner (s : State) : State :=
  (((s.setFld R.MGT_OWNER_PORT 0 noPort).setFld R.MGT_OWNER_LEFT 0 0).updOwn
    (fun o => { o with token := 0, released := false, lost := false }))

/-! ### Operations (R386) -/

/-- CLAIM by port `p` with `token`: accepted, it enters the election at the next tick (R386, R387). -/
def State.opClaim (s : State) (p token : Nat) : State :=
  if !s.flag R.TLY_STAT_LOCKED && p != noPort && s.privPort p && s.opOwner != p && token != 0
      && (s.opOwner == noPort || (s.handing && s.fld R.MGT_OWNER_SUCCESSOR == p)) then
    s.updOwn (fun o => { o with claims := o.claims ++ [(p, token)] })
  else s.latchFor R.MGT_EVT_CLAIM_REFUSED p

/-- The operation comes from the owner port with the owner's token (R386). -/
def State.byOwner (s : State) (p token : Nat) : Bool := p != noPort && s.opOwner == p && token != 0 && token == s.own.token

/-- RENEW: the lease restarts, to expire 2,400 ticks after the next (R386, R388). -/
def State.opRenew (s : State) (p token : Nat) : State :=
  if s.byOwner p token then
    (s.updOwn (fun o => { o with leaseEnd := frameAdd s.frame (1 + leaseFrames) })).showLeft
  else s.latchFor R.MGT_EVT_BAD_OP p

/-- RELEASE: no owner from the next tick, and none for operations at once; a pending handover is cancelled (R386, R389). -/
def State.opRelease (s : State) (p token : Nat) : State :=
  if s.byOwner p token then s.cancelHandover.updOwn (fun o => { o with released := true })
  else s.latchFor R.MGT_EVT_BAD_OP p

/-- HANDOVER to port `q`: pending for 800 frames; a second replaces the first (R386, R389). -/
def State.opHandover (s : State) (p token q : Nat) : State :=
  if s.byOwner p token && decide (q < 4) && q != p && s.privPort q then
    ((s.setFlag R.MGT_OWNER_PENDING 0 true).setFld R.MGT_OWNER_SUCCESSOR 0 q).updOwn (fun o => { o with handAt := s.frame })
  else s.latchFor R.MGT_EVT_BAD_OP p

/-- The effect of a write of MGT_OWN_OP by port `p` with the token held for its master, 0 where none is (R386). -/
def State.ownOp (s : State) (p token w : Nat) : State :=
  let op := bits w 0 3
  if op = 1 then s.opClaim p token
  else if op = 2 then s.opRenew p token
  else if op = 3 then s.opRelease p token
  else if op = 4 then s.opHandover p token (bits w 4 3)
  else s.latchFor R.MGT_EVT_BAD_OP p

/-! ### The election (R387) -/

/-- Claim `b` goes before claim `a`: a higher PRIO, or an equal one and a lower port (R387). -/
def State.claimBefore (s : State) (b a : Nat × Nat) : Bool :=
  let pa := s.fld R.MGT_PORTp_CFG_PRIO a.1
  let pb := s.fld R.MGT_PORTp_CFG_PRIO b.1
  decide (pa < pb) || (pa == pb && decide (b.1 < a.1))

/-- The claim that wins: the named successor's while a handover is pending; with no owner the highest PRIO, on a tie the lowest port; of
one port's claims the first. With an owner and no such successor, none (R387, R389). -/
def State.winner (s : State) : Option (Nat × Nat) :=
  let succ := if s.handing then s.own.claims.find? (fun c => c.1 == s.fld R.MGT_OWNER_SUCCESSOR) else none
  match succ with
  | some c => some c
  | none =>
    if s.ownerPort = noPort then
      s.own.claims.foldl (fun b c =>
        match b with
        | none => some c
        | some a => if s.claimBefore c a then some c else some a) none
    else none

/-- Port `c.1` becomes owner with the token of its claim and a new lease (R387, R388). -/
def State.grant (s : State) (c : Nat × Nat) : State :=
  let s1 := (s.endHandover.setFld R.MGT_OWNER_PORT 0 c.1).updOwn (fun o =>
    { o with token := c.2, released := false, lost := false, leaseEnd := frameAdd s.frame leaseFrames })
  (s1.showLeft).latchFor R.MGT_EVT_OWNER_CHANGE c.1

/-- The election at a tick: one claim of the frame just ended is granted, and every other is refused (R387). -/
def State.elect (s : State) : State :=
  let s0 := s.updOwn (fun o => { o with claims := [] })
  match s.winner with
  | none => s.own.claims.foldl (fun t c => t.latchFor R.MGT_EVT_CLAIM_REFUSED c.1) s0
  | some c => (s.own.claims.erase c).foldl (fun t x => t.latchFor R.MGT_EVT_CLAIM_REFUSED x.1) (s0.grant c)

/-- What the tick does to ownership (R385 to R390): an accepted RELEASE or the loss of the owner's port ends it; then the election, but
at the tick at which the lease expires LEASE_EXPIRY holds it. -/
def State.tickOwner (s : State) : State :=
  let s1 := if (s.own.released || s.own.lost) && s.ownerPort != noPort then s.endOwner else s
  if s1.ownerPort != noPort && frameReached s1.frame s1.own.leaseEnd then s1.showLeft else s1.elect.showLeft

/-! ### The commands of time (R388 to R390) -/

/-- LEASE_EXPIRY (R388): ownership ends, a pending handover is cancelled, and the election of the same tick follows. -/
def execLeaseExpiry (s : State) : Out :=
  .next (
    if s.ownerPort != noPort && frameReached s.frame s.own.leaseEnd then
      ((s.cancelHandover.latchFor R.MGT_EVT_LEASE_EXPIRED s.ownerPort).endOwner).elect
    else s)

/-- HANDOVER_TIMEOUT (R389): no claim of the successor has been granted after 800 frames; the owner keeps ownership. -/
def execHandoverTimeout (s : State) : Out :=
  .next (if s.handing && decide (handoverFrames ≤ s.sinceFrame s.own.handAt) then s.cancelHandover else s)

/-- A PCIe port's function is reset with its link: its configuration and its MSI-X state are those of reset (R373, R390). -/
def State.resetFunction (s : State) (p : Nat) : State :=
  let c := s.pcie.get p {}
  { s with pcie := s.pcie.put p { perst := c.perst, training := c.training, sent := c.sent } }

/-- OWNER_PORT_LOSS (R390): the link, the reset or the tunnel of port `p` goes down; were it the owner, ownership ends at the next
tick. MP2 has none of these, and loses nothing. -/
def execOwnerPortLoss (p : Port) (s : State) : Out :=
  .next (if p = 2 then s else
    let s1 := if p.val < 2 then s.resetFunction p.val else s
    if s1.ownerPort = p.val then s1.updOwn (fun o => { o with lost := true }) else s1)

end Sys2Proof.Machine
end

