-- ==== Sys2Proof/Machine/Snapshot.lean ====
section
/-! DEFINITION. Snapshots of the counters, and what they clear (R439, R448 to R450): a commit and a clear of the same tick act after them.
Readings and choices: DEDUCED (log entry 34), DEDUCED (log entry 35). -/

namespace Sys2Proof.Machine

/-! ### The fixed counters (R439) -/

/-- A family of fixed counters: the field, the index J of its instance 0, the step of J from one instance to the next, and how many
instances there are. -/
structure FixedFamily where
  fld : Fld
  base : Nat
  step : Nat
  count : Nat

/-- The families of fixed counters (R439). -/
def fixedFamilies : List FixedFamily :=
  [⟨R.LN_CNT0, 0x10000, 8, 280⟩, ⟨R.LN_CNT1, 0x10001, 8, 280⟩, ⟨R.LN_CNT2, 0x10002, 8, 280⟩, ⟨R.LN_CNT3, 0x10003, 8, 280⟩,
   ⟨R.LN_CNT4, 0x10004, 8, 280⟩, ⟨R.LN_CNT5, 0x10005, 8, 280⟩, ⟨R.GRN_CNT_COUNT, 0x10900, 1, 2⟩, ⟨R.SCF_CNT_COUNT, 0x10908, 1, 6⟩,
   ⟨R.MEM_CNT_COUNT, 0x10910, 1, 2⟩, ⟨R.DDR_CNT_COUNT, 0x10918, 1, 3⟩, ⟨R.SCF_GBAD_W_COUNT, 0x40000, 4, 65536⟩,
   ⟨R.SCF_GBAD_P_COUNT, 0x40001, 4, 65536⟩, ⟨R.SCF_GSEL_P_COUNT, 0x40002, 4, 65536⟩, ⟨R.SCF_GNEITHER_COUNT, 0x40003, 4, 65536⟩]

/-! ### What is cleared (R447, R457) -/

/-- Bank counter `c` is 0 in core cycle 0 of the frame, in which the tick is then counted where it is the source, and core cycles are from there
on; a value that a write has brought in the same core cycle stands (R440, R447). -/
def State.zeroBank (s : State) (c : Nat) : State :=
  if (s.plumb.tickDue.getD []).contains c then s
  else { s with plumb := { s.plumb with cycFrom := s.plumb.cycFrom.del c } }.setFld R.CNT_Bc_COUNT c 0

/-- Every bin of histogram `k` is cleared, and SINCE shows the tick (R447, R457). -/
def State.clearHist (s : State) (k : Nat) : State :=
  let t := (s.regs.get R.PEG_HBIN_COUNT.id {}).keep (fun i _ => decide (i / 256 ≠ k))
  ({ s with regs := s.regs.put R.PEG_HBIN_COUNT.id t }).setFld R.PEG_HISTh_STAT_SINCE k s.frame

/-! ### Snapshots (R448, R449) -/

/-- A snapshot is called for at the present tick, and has not been made (R448). -/
def State.snapDue (s : State) : Bool :=
  let period := s.fld R.CNT_CFG_PERIOD
  s.ticking && s.snapped != some s.frame
    && ((s.snapAt.map (fun f => frameReached s.frame f)).getD false || (decide (0 < period) && s.frame % period == 0))

/-- A commit, a snapshot or a clear of the present tick has still to act, so that the bank has not counted the tick yet (R440, R447 to R449). -/
def State.actsDue (s : State) : Bool := s.sampled.isSome || s.snapDue || s.clear.any (fun r => frameReached s.frame r.tick)

/-- The bank counts the tick of the present frame once nothing of it has still to act: under the sources and chains that a commit of the tick leaves,
after the copy of a snapshot, and after a clear (R440, R446 to R449). -/
def State.settleTick (s : State) : State := if s.actsDue then s else s.countTick

/-- The values of the fixed counters, by J. -/
def State.fixedValues (s : State) : Tab Nat :=
  fixedFamilies.foldl (fun t e =>
    (s.regs.get e.fld.id {}).entries.foldl (fun t x => t.put (e.base + e.step * x.1) x.2) t) {}

/-- Every SN field takes the live value of its source (R448), the bank's as they are before the tick is counted. -/
def State.freeze (s : State) : State :=
  let regs := (s.regs.put R.CNT_Bc_SN_COUNT.id (s.regs.get R.CNT_Bc_COUNT.id {})).put R.PEG_HBIN_SN_COUNT.id (s.regs.get R.PEG_HBIN_COUNT.id {})
  ({ s with regs := regs, snapFixed := s.fixedValues }).setFld R.DEV_FRAME_SN_FRAME 0 s.frame

/-- The words of an archive entry that are not 0, by word number (R450). -/
def State.archiveWords (s : State) (snaps : Nat) : Tab Nat :=
  let hist := fun (t : Tab Nat) (h : Nat) =>
    let cfg := s.fld R.PEG_HISTh_CFG_QTY h + s.fld R.PEG_HISTh_CFG_FILTER h * 2 ^ 3 + s.fld R.PEG_HISTh_CFG_INDEX h * 2 ^ 7
      + s.fld R.PEG_HISTh_CFG_EN h * 2 ^ 23
    ((t.store (16 + 4 * h) 0 cfg).store (17 + 4 * h) 0 (s.fld R.PEG_HISTh_BASE_BASE h)).store (18 + 4 * h) 0
      (s.fld R.PEG_HISTh_WIDTH_WIDTH h)
  let t := (List.range 64).foldl hist ((({} : Tab Nat).store 0 0 s.frame).store 1 0 snaps)
  (s.regs.get R.PEG_HBIN_SN_COUNT.id {}).entries.foldl (fun t e =>
    (t.store (16384 + 2 * e.1) 0 (e.2 % 2 ^ 32)).store (16385 + 2 * e.1) 0 (e.2 / 2 ^ 32)) t

/-- The entry of a snapshot waits to be written, with ARCH_EN (R450). -/
def State.archiveSnap (s : State) : State :=
  let n := s.fld R.CNT_STAT_SNAPS
  if s.flag R.CNT_CFG_ARCH_EN then
    { s with archive := s.archive ++ [{ frame := s.frame, snaps := n, words := s.archiveWords n }] }
  else s

/-- With CLR_ON_SNAP every bank counter and every bin is cleared (R449). -/
def State.clearOnSnap (s : State) : State :=
  if s.flag R.CNT_CFG_CLR_ON_SNAP then
    (List.range 64).foldl (fun t h => t.clearHist h) ((s.regs.get R.CNT_Bc_COUNT.id {}).keys.foldl (fun t c => t.zeroBank c) s)
  else s

/-- A snapshot called for at the present tick is made, unless it has been (R448 to R450). -/
def State.snapNow (s : State) : State :=
  if !s.snapDue then s
  else
    let s1 := ({ s with snapAt := none, snapped := some s.frame }.setFld R.CNT_STAT_SNAP_PENDING 0 0).freeze
    (((s1.addFld R.CNT_STAT_SNAPS 0 1).archiveSnap).clearOnSnap).latch R.CNT_EVT_SNAP_DONE

end Sys2Proof.Machine
end

