-- ==== Sys2Proof/Machine/Commit.lean ====
section
/-! DEFINITION. Staging and commit: what a commit samples, what refuses it, and what its values do as they become active (R391 to R395
and the rules of the chapters that name a commit).
Readings and choices: DEDUCED (log entry 27), DEDUCED (log entry 28). -/

namespace Sys2Proof.Machine

/-! ### Values by field and instance -/

/-- A set of values: by field number and instance. -/
abbrev Values := Tab (Tab Nat)

/-- The value that field `f`, instance `i`, would take: the one given, else the active one. -/
def State.would (s : State) (v : Values) (f : Fld) (i : Nat) : Nat := ((v.get f.id {}).find i).getD (s.fld f i)

/-- The instances for which a set gives a value of some field of `fs`. -/
def givenFor (v : Values) (fs : List Fld) : List Nat := sortNats (fs.flatMap (fun f => (v.get f.id {}).keys))

/-- A set gives a value of field `f`, instance `i`. -/
def gives (v : Values) (f : Fld) (i : Nat) : Bool := ((v.get f.id {}).find i).isSome

/-- The offset of instance `i` of a register, by its number. -/
def regOffset (id i : Nat) : Nat :=
  match regTable.find? (fun r => r.id == id) with
  | some r => r.addr i
  | none => 0

/-! ### What refuses a commit (R393) -/

/-- The instances below `n` that fail a condition, as offsets of register `id`. -/
def everyBelow (n : Nat) (bad : Nat → Bool) (id : Nat) : List Nat := ((List.range n).filter bad).map (regOffset id)

/-- The instances of a set that fail a condition on the fields `fs`, as offsets of register `id`. -/
def failing (v : Values) (fs : List Fld) (id : Nat) (bad : Nat → Bool) : List Nat :=
  ((givenFor v fs).filter bad).map (regOffset id)

/-- A bent member is sourced from lane `n` (R121). -/
def State.sourcesBent (s : State) (n : Nat) : Bool :=
  s.links.entries.any (fun e => e.1 / 131072 == n)
    || s.sched.bents.entries.any (fun e => e.2.members.any (fun m => m.src / 131072 == n))

/-- A lane is being substituted, or carries the substitution as its spare (R460). -/
def State.inSubst (s : State) (n : Nat) : Bool :=
  s.sist.laneRun.any (fun x => x == n || 256 + x / 16 == n) || s.sist.lanePend.any (fun x => x == n || 256 + x / 16 == n)

/-- The ST fields of FAB_LAM_CTRL. -/
def lamFields : List Fld := [R.FAB_LAM_CTRL_SHADOW, R.FAB_LAM_CTRL_SUB, R.FAB_LAM_CTRL_ROTATE]

/-- The ST fields of LN_TX_CFG. -/
def txCfgFields : List Fld := [R.LN_TX_CFG_TIMING, R.LN_TX_CFG_LOOP_AUTO, R.LN_TX_CFG_TX_INV]

/-- A commit of FAB_LAM_CTRL that R179 or R460 refuses. -/
def State.badLam (s : State) (v : Values) : Bool :=
  let sh := s.would v R.FAB_LAM_CTRL_SHADOW 0
  let sub := s.would v R.FAB_LAM_CTRL_SUB 0 == 1 && !s.flag R.FAB_LAM_CTRL_SUB
  (sub && (sh != s.fld R.FAB_LAM_STAT_SHADOW_ACT || decide (s.fld R.FAB_LAM_STAT_SHADOW_FRAMES < 8)))
    || (gives v R.FAB_LAM_CTRL_SHADOW 0 && s.flag R.FAB_LAM_STAT_SUB_ACT)
    || decide (8 < sh) || s.sist.lamPend.isSome || s.sist.lamRun.isSome

/-- A commit of PLB_REFi_CFG that R295 refuses: N of a REFIN that takes a frequency, SRC of an LREF. -/
def State.badRef (s : State) (v : Values) (i : Nat) : Bool :=
  let src := s.would v R.PLB_REFi_CFG_SRC i
  if i < 8 then s.would v R.PLB_REFi_CFG_KIND i == 1 && (src == 0 || decide (19531 < src))
  else decide (i < 12) && decide (271 < src)

/-- An offset outside ±62.5 µs (R295). -/
def farOff (w : Nat) : Bool := decide (64000000 < (toInt 32 w).natAbs)

/-- The range of a bank counter's SCOPE by its source (R440, R441). -/
def scopeRange (src : Nat) : Nat :=
  if 1 ≤ src ∧ src ≤ 7 then 256 else if src = 8 ∨ src = 9 then 280 else if src = 0xA then 16384
  else if src = 0xB ∨ src = 0xC then 65536 else 131072

/-- A commit of CNT_Bc_CFG that R441 refuses. -/
def State.badBank (s : State) (v : Values) (c : Nat) : Bool :=
  let src := s.would v R.CNT_Bc_CFG_SRC c
  let chain := fun (k : Nat) => s.would v R.CNT_Bc_CFG_CHAIN k == 1
  decide (0xF < src)
    || (s.would v R.CNT_Bc_CFG_ALL c == 0 && decide (scopeRange src ≤ s.would v R.CNT_Bc_CFG_SCOPE c))
    || (chain c && (c == 16383 || chain (c + 1) || (decide (0 < c) && chain (c - 1))))

/-- The range of PEG_CFG.INDEX by its SCOPE, and of PEG_HISTh_CFG.INDEX by its FILTER (R456, R457). -/
def pegRange (scope : Nat) : Nat := if scope = 1 ∨ scope = 2 then 256 else if scope = 3 then 16384 else 65536
def histRange (filter : Nat) : Nat := if filter = 5 then 4 else pegRange filter

/-- A commit of PEG_CFG that R457 refuses. -/
def State.badPeg (s : State) (v : Values) : Bool :=
  let sc := s.would v R.PEG_CFG_SCOPE 0
  decide (3 < sc) || decide (64 < s.would v R.PEG_CFG_RATE 0) || decide (pegRange sc ≤ s.would v R.PEG_CFG_INDEX 0)

/-- A commit of PEG_HISTh_CFG that R457 refuses. -/
def State.badHist (s : State) (v : Values) (h : Nat) : Bool :=
  let f := s.would v R.PEG_HISTh_CFG_FILTER h
  decide (4 < s.would v R.PEG_HISTh_CFG_QTY h) || decide (5 < f) || decide (histRange f ≤ s.would v R.PEG_HISTh_CFG_INDEX h)

/-- The offsets of the registers that break R295 with a set of values: it holds of every value that a commit would leave. -/
def State.plumbFailures (s : State) (v : Values) : List Nat :=
  everyBelow 8 (fun k => farOff (s.would v R.PLB_FPOUTk_OFFSET_OFFSET k)) RN.PLB_FPOUTk_OFFSET
    ++ everyBelow 13 (fun i => farOff (s.would v R.PLB_REFi_TOFF_TOFF i)) RN.PLB_REFi_TOFF
    ++ everyBelow 13 (s.badRef v) RN.PLB_REFi_CFG
    ++ everyBelow 8
        (fun k => let n := s.would v R.PLB_FPOUTk_CFG_N k
          s.would v R.PLB_FPOUTk_CFG_MODE k == 3 && (n == 0 || decide (19531 < n))) RN.PLB_FPOUTk_CFG
    ++ everyBelow 1
        (fun _ => let b := s.would v R.PLB_DPLL_BW_BW 0
          b == 0 || decide (100000 < b)) RN.PLB_DPLL_BW
    ++ everyBelow 1
        (fun _ => let b := s.would v R.PLB_DPLL_ACQ_ACQ_BW 0
          b == 0 || decide (100000 < b)) RN.PLB_DPLL_ACQ
    ++ everyBelow 1 (fun _ => decide (18 < s.would v R.PLB_TIMERS_HOLDOFF 0)) RN.PLB_TIMERS
    ++ everyBelow 13
        (fun i => decide (s.would v R.PLB_REFi_DRIFT_HARD i < s.would v R.PLB_REFi_DRIFT_SOFT i)) RN.PLB_REFi_DRIFT

/-- The bank counters whose CHAIN or range a set may break: those that it names, and the ones below them, which may be chained to one that it
names (R441). -/
def banksNamed (v : Values) : List Nat :=
  let l := givenFor v [R.CNT_Bc_CFG_SRC, R.CNT_Bc_CFG_CHAIN, R.CNT_Bc_CFG_ALL, R.CNT_Bc_CFG_SCOPE]
  sortNats (l ++ (l.filter (0 < ·)).map (· - 1))

/-- The offsets of the registers for which a set of values fails a condition (R48, R121, R163, R179, R254, R295, R432, R441, R457, R460).
What a commit may not set, change or clear is examined for the registers that the set names; R295, of which no commit may break any part,
for all (DEDUCED: log entry 27). -/
def State.failures (s : State) (v : Values) : List Nat :=
  let cap := s.would v R.BNT_GLB_LPCAP_CAP 0
  failing v txCfgFields RN.LN_TX_CFG (fun n => (gives v R.LN_TX_CFG_TX_INV n && s.inService n) || s.inSubst n)
    ++ failing v [R.LN_SPARE_CTRL_TARGET] RN.LN_SPARE_CTRL s.inSubst
    ++ failing v [R.LN_FRM_CFG_SYNC] RN.LN_FRM_CFG (fun n => s.would v R.LN_FRM_CFG_SYNC n == 0 && s.sourcesBent n)
    ++ failing v [R.BNT_CFG_POLICY] RN.BNT_CFG (fun b => s.would v R.BNT_CFG_POLICY b == 3)
    ++ failing v [R.BNT_GLB_LPCAP_CAP] RN.BNT_GLB_LPCAP
        (fun _ => decide (cap < lpUnits s.tap) || decide (s.regionSize 0 / 4608 < cap))
    ++ failing v lamFields RN.FAB_LAM_CTRL (fun _ => s.badLam v)
    ++ failing v [R.SCF_GCFG_MODE] RN.SCF_GCFG (fun g => decide (4 < s.would v R.SCF_GCFG_MODE g))
    ++ failing v [R.SCF_CFG_DEG_SET, R.SCF_CFG_DEG_CLR] RN.SCF_CFG
        (fun _ => decide (s.would v R.SCF_CFG_DEG_SET 0 < s.would v R.SCF_CFG_DEG_CLR 0))
    ++ s.plumbFailures v
    ++ ((banksNamed v).filter (s.badBank v)).map (regOffset RN.CNT_Bc_CFG)
    ++ failing v [R.PEG_CFG_RATE, R.PEG_CFG_SCOPE, R.PEG_CFG_INDEX] RN.PEG_CFG (fun _ => s.badPeg v)
    ++ failing v [R.PEG_HISTh_CFG_QTY, R.PEG_HISTh_CFG_FILTER, R.PEG_HISTh_CFG_INDEX] RN.PEG_HISTh_CFG (s.badHist v)
    ++ failing v [R.PEG_HISTh_WIDTH_WIDTH] RN.PEG_HISTh_WIDTH (fun h => s.would v R.PEG_HISTh_WIDTH_WIDTH h == 0)

/-- An offset's rank: island code, then instance, then offset (R393). -/
def failRank (off : Nat) : Nat := (islandOf off * 2 ^ 20 + instanceOf off) * 2 ^ 32 + blockOffset off

/-- The offsets of the registers for which the values of an image fail a condition (R344): those that it names, and every histogram whose width it
leaves at the reset value 0, which R457 refuses; no other condition fails at reset values. -/
def State.imageFailures (s : State) (v : Values) : List Nat :=
  s.failures v ++ everyBelow 64 (fun h => s.would v R.PEG_HISTh_WIDTH_WIDTH h == 0) RN.PEG_HISTh_WIDTH

/-- The first failing register (R393). -/
def firstFailing (l : List Nat) : Option Nat :=
  l.foldl (fun b x =>
    match b with
    | none => some x
    | some y => if failRank x < failRank y then some x else some y) none

/-! ### What values do as they become active -/

/-- A commit, an image or the mate may give a field a value: it is ST or RW, or marked "image" (R8, R14). -/
def Fld.given (f : Fld) : Bool :=
  f.ty == .st || f.ty == .rw || (match f.rst with
    | .image _ => true
    | _ => false)

/-- A value becomes the active one; a staged value that no longer differs is no longer listed. -/
def State.activate (s : State) (id i x : Nat) : State :=
  match (fieldOf id).filter Fld.given with
  | none => s
  | some f =>
    let held := (s.staged.get f.id {}).find i
    let s1 := s.setFld f i x
    match held with
    | some w => s1.setStg f i w
    | none => s1

/-- Every value of a set becomes active. -/
def State.activateAll (s : State) (v : Values) : State :=
  v.entries.foldl (fun t e => e.2.entries.foldl (fun u x => u.activate e.1 x.1 x.2) t) s

/-- A change of MODE, or of HOME or REVERT in AUTO, moves a group that is not EMPTY (R245, R247); a change of the preferred side latches
PREF_CHANGE (R244). -/
def State.groupCommitted (s old : State) (g : Nat) : State :=
  let auto := s.groupMode g = modeAuto
  let moved := s.groupMode g ≠ old.groupMode g ∨ (auto ∧ (s.fld R.SCF_GCFG_HOME g ≠ old.fld R.SCF_GCFG_HOME g
    ∨ s.fld R.SCF_GCFG_REVERT g ≠ old.fld R.SCF_GCFG_REVERT g))
  let s1 := if s.groupState g = groupEmpty ∨ ¬ moved then s
    else (s.setFld R.SCF_GSTAT_STATE g (s.startState g)).setFld R.SCF_GWTR_REMAIN g 0
  s1.latchIf (s1.pref g != old.pref g) R.SCF_GEVT_PREF_CHANGE g

/-- A commit of FAB_LAM_CTRL (R177, R178, R459): the shadow moves, LAMS takes the place of the shadowed lamination or gives it back. Where
ROTATE becomes 0 and SHADOW stays as it was, SHADOW_ACT stays on the lamination that rotation had reached (DESIGN CHOICE: log entry 66). -/
def State.lamCommitted (s old : State) : State :=
  let sh := s.fld R.FAB_LAM_CTRL_SHADOW
  let s1 := if sh = old.fld R.FAB_LAM_CTRL_SHADOW || sh = s.fld R.FAB_LAM_STAT_SHADOW_ACT then s
    else s.moveShadow sh
  let s2 := s1.setFld R.FAB_LAM_STAT_ROTATE_ACT 0 (s.fld R.FAB_LAM_CTRL_ROTATE)
  if s.flag R.FAB_LAM_CTRL_SUB = old.flag R.FAB_LAM_CTRL_SUB then s2
  else if s.flag R.FAB_LAM_CTRL_SUB then s2.lamsIn.substDone classLam (s2.fld R.FAB_LAM_STAT_SHADOW_ACT) 0
  else
    let s3 := (s2.setFlag R.FAB_LAM_STAT_SUB_ACT 0 false).latch R.FAB_EVT_LAM_SUB
    if s.sist.lamsGone then s3 else s3.setFld R.TLY_SPARES_LAM 0 1

/-- A commit of a lane's TIMING (R55 to R57). -/
def State.timingCommitted (s old : State) (n : Nat) : State :=
  if s.flag R.LN_TX_CFG_TIMING n = old.flag R.LN_TX_CFG_TIMING n then s
  else if s.flag R.LN_TX_CFG_TIMING n then (if s.inService n then s.loopReturn n else s)
  else if s.flag R.LN_TX_STAT_TIMING_ACT n then (s.setFlag R.LN_TX_STAT_TIMING_ACT n false).setFlag R.LN_TX_STAT_SLEWING n true
  else s

/-- A commit of a lane's TX_INV (R48): training and discovery rows take it from the next row on; a traffic frame ends as it began. -/
def State.txInvCommitted (s : State) (n : Nat) : State :=
  let inv := s.flag R.LN_TX_CFG_TX_INV n
  let t := (s.lane n).tx
  if !t.sent || t.traffic || inv == (s.lane n).inv || 128 ≤ s.nextRow n then s
  else s.updLane n (fun l => { l with inv := inv, tx := { l.tx with invRow := s.nextRow n } })

/-- A commit that clears a lane's SYNC: LPH exits (R115). Its pages are those of a plesiochronous lane from the next assigned on (R121). -/
def State.syncCommitted (s : State) (n : Nat) : State := if s.flag R.LN_FRM_CFG_SYNC n then s else s.undeclare n .lph

/-- A commit of a reference's registers (R263, R294). -/
def State.refsCommitted (s old : State) (i : Nat) : State :=
  s.refCommitted i (old.flag R.PLB_REFi_CFG_EN i) (old.ifld R.PLB_REFi_TOFF_TOFF i) (old.fld R.PLB_REFi_CFG_QL i)

/-- Region `r` is exempt from sounding (R422). -/
def State.exempt (s : State) (r : Nat) : Bool :=
  (List.range 8).any (fun k => decide (s.fld R.SND_EXEMPT_FIRST k ≤ r) && decide (r < s.fld R.SND_EXEMPT_FIRST k + s.fld R.SND_EXEMPT_COUNT k))

/-- How many numbers from `lo` to below `hi` lie in one of the ranges given by first number and end, sorted by first number. -/
def covered (lo hi : Nat) : List (Nat × Nat) → Nat
  | [] => 0
  | (a, b) :: t =>
    let a' := max a lo
    let b' := min b hi
    if a' < b' then (b' - a') + covered b' hi t else covered lo hi t

/-- A range placed among ranges sorted by first number. -/
def insertRange (x : Nat × Nat) : List (Nat × Nat) → List (Nat × Nat)
  | [] => [x]
  | y :: t => if x.1 ≤ y.1 then x :: y :: t else y :: insertRange x t

/-- SND_EXEMPT_CNT: the regions that exist and lie in an exempt range (R419, R422). -/
def State.countExempt (s : State) : State :=
  let rs := (List.range 8).foldl (fun l k =>
    insertRange (s.fld R.SND_EXEMPT_FIRST k, s.fld R.SND_EXEMPT_FIRST k + s.fld R.SND_EXEMPT_COUNT k) l) []
  s.setFld R.SND_EXEMPT_CNT_COUNT 0 (covered 0 3712 rs + covered 4096 36864 rs)

/-- The values that a set makes active change one that the compile of the present change used (R199, R213): the guard or the policy of a
bent that it edits, or the long-path reservation. `old` is the state before. -/
def State.usedChanged (s old : State) (v : Values) : Bool :=
  match s.chg with
  | none => false
  | some c =>
    (givenFor v [R.BNT_GLB_LPCAP_CAP]).any (fun i => old.fld R.BNT_GLB_LPCAP_CAP i != s.fld R.BNT_GLB_LPCAP_CAP i)
      || (givenFor v [R.BNT_CFG_GUARD, R.BNT_CFG_POLICY]).any (fun b => c.bents.contains b
        && (old.fld R.BNT_CFG_GUARD b != s.fld R.BNT_CFG_GUARD b || old.fld R.BNT_CFG_POLICY b != s.fld R.BNT_CFG_POLICY b))

/-- What the values of a set do as they become active, in every block (R48, R55, R163, R177, R178, R199, R245, R263, R294, R422, R451,
R457); `old` is the state before. -/
def State.committed (s old : State) (v : Values) : State :=
  let s1 := (givenFor v [R.SCF_GCFG_MODE, R.SCF_GCFG_HOME, R.SCF_GCFG_REVERT]).foldl (fun t g => t.groupCommitted old g) s
  let s2 := if (givenFor v lamFields).isEmpty then s1 else s1.lamCommitted old
  let s0 := (givenFor v [R.LN_TX_CFG_TX_INV]).foldl (fun t n => t.txInvCommitted n) s2
  let sa := (givenFor v [R.LN_FRM_CFG_SYNC]).foldl (fun t n => t.syncCommitted n) s0
  let s3 := (givenFor v [R.LN_TX_CFG_TIMING]).foldl (fun t n => t.timingCommitted old n) sa
  let s4 := (givenFor v [R.PLB_REFi_CFG_EN, R.PLB_REFi_TOFF_TOFF, R.PLB_REFi_CFG_QL]).foldl (fun t i => t.refsCommitted old i) s3
  let s5 := (givenFor v [R.PLB_FPOUTk_OFFSET_OFFSET]).foldl (fun t k =>
    t.fpoutCommitted k (old.ifld R.PLB_FPOUTk_OFFSET_OFFSET k)) s4
  let s6 := if s5.usedChanged old v then s5.makeStale else s5
  let s7 := if (givenFor v [R.SND_EXEMPT_FIRST, R.SND_EXEMPT_COUNT]).isEmpty then s6 else s6.countExempt
  let s8 := if gives v R.PEG_SEED_SEED 0 && s7.fld R.PEG_SEED_SEED != old.fld R.PEG_SEED_SEED then { s7 with pegs := { s7.pegs with lfsr := none } } else s7
  (givenFor v [R.PEG_HISTh_CFG_QTY, R.PEG_HISTh_CFG_FILTER, R.PEG_HISTh_CFG_INDEX, R.PEG_HISTh_CFG_EN, R.PEG_HISTh_BASE_BASE,
    R.PEG_HISTh_WIDTH_WIDTH]).foldl (fun t h => t.clearHist h) s8

/-- A set of values becomes active, with all it does. -/
def State.takeValues (s : State) (v : Values) : State := (s.activateAll v).committed s v

/-! ### Journalled fields (R306, R309, R311) -/

/-- The values of a set without, or with only, the journalled fields. -/
def splitValues (v : Values) (keep : Bool) : Values :=
  ⟨(v.entries.map (fun e => (e.1, e.2.keep (fun i _ =>
    (match fieldOf e.1 with
      | some f => journalled f i == keep
      | none => !keep))))).filter (fun e => !e.2.entries.isEmpty)⟩

/-- The offset and value pairs of a COMMIT record: each register of which a journalled field changes, with its ST fields (R309). -/
def State.commitPairs (s : State) (v : Values) : List (Nat × Nat) :=
  regTable.flatMap (fun r =>
    if journalledRegs.contains r.id then
      (givenFor v ((r.slices.map (·.fld)).filter (fun f => f.ty == .st))).filterMap (fun i =>
        if r.slices.any (fun c => journalled c.fld i && gives v c.fld i) then
          some (r.addr i, r.slices.foldl (fun a c =>
            if c.fld.ty = .st then a + bits (s.fld c.fld i) c.src c.len * 2 ^ c.lo else a) 0)
        else none)
    else [])

/-- Pairs as units of a record, two to a unit; an unused half is 0 (R309). -/
def pairUnits : List (Nat × Nat) → List (List Nat)
  | [] => []
  | [p] => [[p.1, p.2, 0, 0]]
  | p :: q :: t => [p.1, p.2, q.1, q.2] :: pairUnits t

/-- The journalled values that offset and value pairs give (R309, R311). -/
def valuesOf (pairs : List (Nat × Nat)) : Values :=
  pairs.foldl (fun v p =>
    match findReg p.1 with
    | none => v
    | some (r, i) =>
      if journalledRegs.contains r.id then
        r.slices.foldl (fun v c =>
          if journalled c.fld i then v.put c.fld.id ((v.get c.fld.id {}).put i (bits p.2 c.lo c.len)) else v) v
      else v) {}

/-- A record's units as offset and value pairs; an unused half, of offset 0, is none (R309). -/
def pairsOf (units : List (List Nat)) : List (Nat × Nat) :=
  (units.flatMap (fun u => [(u.getD 0 0, u.getD 1 0), (u.getD 2 0, u.getD 3 0)])).filter (fun p => p.1 != 0)

/-- The staged values of the fields of a set follow the active ones. -/
def State.unstage (s : State) (v : Values) : State :=
  v.entries.foldl (fun t e =>
    { t with staged := t.staged.put e.1 (e.2.entries.foldl (fun st x => st.del x.1) (t.staged.get e.1 {})) }) s

/-- What the fields that a compile uses held before commit `cseq` changes them: a change compiled against an earlier commit takes them from here
(R311). -/
def State.keepPast (s : State) (v : Values) (cseq : Nat) : State :=
  let was := [R.BNT_CFG_GUARD, R.BNT_GLB_LPCAP_CAP, R.LN_FRM_CFG_SYNC].flatMap (fun f =>
    (givenFor v [f]).map (fun i => (f.id, i, s.fld f i)))
  { s with mate := { s.mate with past := s.mate.past ++ [(cseq, was)] } }

/-- A COMMIT record takes effect on a standby (R311, R395): the journalled fields take its values, staged and active, and DEV_COMMIT_SEQ
its CSEQ. -/
def State.takeCommitRec (s : State) (r : JRec) : State :=
  let v := valuesOf (pairsOf r.units)
  (((s.keepPast v r.cseq).unstage v).takeValues v).setFld R.DEV_COMMIT_SEQ_CSEQ 0 r.cseq

/-! ### The commands (R391 to R395) -/

/-- Every staged value follows its active value (R394). -/
def State.discard (s : State) : State := { s with staged := {} }

/-- The effect of a write of DEV_COMMIT (R391, R394): DISCARD before GO. -/
def State.commitCtrl (s : State) (w : Nat) : State :=
  let s1 := if bit w 1 = 1 then s.discard else s
  if bit w 0 = 1 then s1.setFld R.DEV_COMMIT_STAT_STATE 0 1 else s1

/-- At the commit tick every staged value is sampled, as it stands at the end of the frame just ended, and STATE is no longer PENDING until
another GO asks for the next tick (R391, R392). -/
def State.tickCommit (s : State) : State :=
  if s.fld R.DEV_COMMIT_STAT_STATE = 1 then { s with sampled := some s.staged }.setFld R.DEV_COMMIT_STAT_STATE 0 0 else s

/-- STATE shows how the commit of the tick ended, unless a GO accepted since asks for another (R391, R393). -/
def State.commitEnds (s : State) (v : Nat) : State := if s.fld R.DEV_COMMIT_STAT_STATE = 1 then s else s.setFld R.DEV_COMMIT_STAT_STATE 0 v

/-- Only the staged values that differ from the active ones stay listed. -/
def State.tidyStaged (s : State) : State :=
  { s with staged := s.staged.mapVals (fun id t => t.keep (fun i w => (fieldOf id).any (fun f => w != s.fld f i))) }

/-- A refused commit (R393). -/
def State.refuseCommit (s : State) (off : Nat) : State :=
  let s1 := ((s.tidyStaged.commitEnds 3).setFld R.DEV_COMMIT_ERR_OFFSET 0 (blockOffset off)).setFld
    R.DEV_COMMIT_ERR_ISLAND 0 (islandOf off)
  ((s1.setFlag R.DEV_COMMIT_ERR_VALID 0 true).setFld R.DEV_COMMIT_INST_INSTANCE 0 (instanceOf off)).latch R.DEV_EVT_COMMIT_ERR

/-- An accepted commit (R393, R395, R306): its values become active, DEV_COMMIT_SEQ advances except on a standby, and the active journals
it. -/
def State.acceptCommit (s : State) (v : Values) : State :=
  let s1 := s.takeValues v
  let s2 := if s.isStandby then s1 else s1.setFld R.DEV_COMMIT_SEQ_CSEQ 0 (s.fld R.DEV_COMMIT_SEQ_CSEQ + 1)
  let s3 := ((s2.commitEnds 2).setFlag R.DEV_COMMIT_ERR_VALID 0 false).latch R.DEV_EVT_COMMIT_DONE
  (s3.journal recCommit s3.frame (s3.fld R.DEV_COMMIT_SEQ_CSEQ) (pairUnits (s3.commitPairs v))).noteCommit (s3.commitPairs v)

/-- The values sampled for the present tick are checked, and all become active, or none does (R393). On a device that may not change
journalled fields they keep their values (R306, R395). -/
def State.commitNow (s : State) : State :=
  match s.sampled with
  | none => s
  | some all =>
    let v := if s.mayChange then all else splitValues all false
    let s0 := { s with sampled := none }
    match firstFailing (s0.failures v) with
    | some off => s0.refuseCommit off
    | none =>
      -- a value staged after the tick stays staged (R392)
      let kept := s0.staged.mapVals (fun id t => t.keep (fun i w => ((v.get id {}).find i) != some w))
      -- a commit acts after the copy of a snapshot at its tick (R449)
      (({ s0 with staged := kept }).snapNow.acceptCommit v).tidyStaged

/-- COMMIT_APPLY (R393, R449). -/
def execCommitApply (s : State) : Out := .next (s.commitNow.settleTick.stampTick s)

/-! ### The scarf groups' windows, after a commit of the same tick (R246) -/

/-- The window of a group that the present tick has ended is evaluated, after a commit of that tick has taken effect (R246). -/
def State.evalAfterCommit (s : State) (g : Nat) : State :=
  (if s.frame % 8 = 0 then s.commitNow.settleTick else s).evalWindow g

/-- SCARF_WINDOW_EVAL (R241, R242, R246). -/
def execScarfWindowEval (g : GroupIx) (s : State) : Out := .next (State.stampTick (s.evalAfterCommit g.val) s)

/-- SCARF_WTR_EXPIRY (R243, R246): at the first tick after E at which the timer reads 0 the group enters HOME, unless the evaluation of a
window that ends there takes it elsewhere. -/
def execScarfWtrExpiry (g : GroupIx) (s : State) : Out :=
  .next (State.stampTick (
    let s1 := s.evalAfterCommit g.val
    if s1.groupState g = groupWtr && s1.fld R.SCF_GWTR_REMAIN g = 0 && s1.frame != (s1.groups.get g {}).wtrFrom then
      (s1.enterGroup g groupHome).latch R.SCF_GEVT_WTR_DONE g
    else s1) s)

end Sys2Proof.Machine
end

