-- ==== Sys2Proof/Machine/Mate.lean ====
section
/-! DEFINITION. The mate pair: states, heartbeats, the journal as the standby takes it, the state copy, takeovers and handovers (R298 to
R331).
Readings and choices: DEDUCED (log entry 49), DEDUCED (log entry 50), DEDUCED (log entry 51). -/

namespace Sys2Proof.Machine

/-! ### Entering states (R300, R308, R317) -/

/-- A device that has entered JOINING matches its frame number to the mate's by the heartbeat of this frame: out of step, it adopts
FRAME + 1 at the next tick (R20, R308). -/
def State.matchFrame (s : State) : State :=
  if s.mateState = mateJoining && s.mate.adopting && s.mate.hbAt == some s.frame then
    let f := frameAdd s.mate.peerFrame 1
    s.updMate (fun m => { m with adopt := if f = s.frame then none else some f, adopting := f != s.frame })
  else s

/-- The device enters JOINING, with its state kept or not; `inst` says that a complete state stands installed (R300, R308, R316). -/
def State.mateJoin (s : State) (kept inst : Bool) : State :=
  let s1 := ((s.mateTo mateJoining).setFlag R.MAT_STAT_KEPT 0 kept).setFld R.MAT_COPY_PHASE 0 0
  (s1.updMate (fun m => { m with installed := inst, stage := [], slices := [], inbound := false, adopt := none })).matchFrame

/-- A failure condition holds (R317, R469): that of the watchdog and of a monitor's absolute limits is the plant's; the rest needs a spare of its
class to be gone. -/
def State.failsFor (s : State) : FailCause → Bool
  | .watchdog | .monitor => true
  | .dplls => !s.flag R.PLB_STATUS_SHADOW_OK
  | .lamination => (List.range 10).any s.lamFails
  | .schedule g => decide (s.bankGroups ≤ g.val) || s.snd.failedGroups.contains g.val || s.snd.under.any (fun b => b / 32 == g.val)

/-- DEVICE_FAIL (R317): a failure condition arises. -/
def execDeviceFail (why : FailCause) (s : State) : Out := .next (if s.failsFor why then s.failDevice else s)

/-- The mate's last heartbeat showed it in ALONE or ACTIVE. -/
def State.peerActive (s : State) : Bool :=
  s.flag R.MAT_PEER_VALID && (s.fld R.MAT_PEER_STATE == mateAlone || s.fld R.MAT_PEER_STATE == mateActive)

/-- The serial number that the mate sent in IDENT on a mate lane in SERVICE (R75, R303). -/
def State.peerSerial (s : State) : Option Nat :=
  s.liveMates.head?.map (fun n => s.fld R.LN_PEER_ID2_ID n + s.fld R.LN_PEER_ID3_ID n * 2 ^ 32)

/-- In a side conflict this device has the higher serial number (R303). -/
def State.higherSerial (s : State) : Bool :=
  match s.peerSerial with
  | some x => decide (x < s.fld R.DEV_SERIAL_SERIAL)
  | none => false

/-! ### Votes (R302, R320, R326, R329) -/

/-- Lane `n` votes: a traffic lane in SERVICE whose partner announced VOTE and whose VTW has a frame value (R326). -/
def State.voter (s : State) (n : Nat) : Bool :=
  s.inService n && bit (s.fld R.LN_PEER_ID4_ID n) 1 == 1 && s.flag R.LN_RX_VTW_VALID n

/-- The voting lanes. -/
def State.voters (s : State) : List Nat := (List.range 256).filter s.voter

/-- How many voting lanes send the VOTE value `v` (R103). -/
def State.votesOf (s : State) (v : Nat) : Nat := s.voters.countP (fun n => s.fld R.LN_RX_VTW_VOTE n == v)

/-- The votes that name a side (0 A, 1 B), alone or with the other (R302). -/
def State.support (s : State) (side : Nat) : Nat := s.votesOf (side + 1) + s.votesOf 3

/-- A majority of at least VOTE_MIN voting lanes vote for a side alone (R320, R329). -/
def State.majority (s : State) (side : Nat) : Bool :=
  let n := s.voters.length
  decide (s.fld R.MAT_CFG_VOTE_MIN ≤ n) && decide (n < 2 * s.votesOf (side + 1))

/-- MAT_VOTES and the run of frames of R329. -/
def State.tickVotes (s : State) : State :=
  let s1 := (((s.setFld R.MAT_VOTES_VOTERS 0 (min 255 s.voters.length)).setFld R.MAT_VOTES_A_ONLY 0 (min 255 (s.votesOf 1))).setFld
    R.MAT_VOTES_B_ONLY 0 (min 255 (s.votesOf 2))).setFld R.MAT_VOTES_BOTH 0 (min 255 (s.votesOf 3))
  s1.updMate (fun m => { m with voteRun := if s.majority (s.fld R.MAT_STAT_SIDE) then m.voteRun + 1 else 0 })

/-! ### Records received (R309 to R312) -/

/-- A record kept in JSEQ order. -/
def insertRec (r : JRec) : List JRec → List JRec
  | [] => [r]
  | x :: t => if frameLater x.seq r.seq then r :: x :: t else x :: insertRec r t

/-- MAT_JACK follows the records received in order (R309). -/
def ackOf (jack : Nat) (l : List JRec) : Nat := l.foldl (fun j r => if r.seq = frameAdd j 1 then r.seq else j) jack

/-- A CHANGE record is queued for the scribe: its change applies at the record's frame, or as soon as it can (R312). -/
def State.queueRec (s : State) (r : JRec) : State :=
  let recs := r.units.map (fun u => decodeRec (u.getD 0 0) (u.getD 1 0) (u.getD 2 0) (u.getD 3 0))
  { s with queued := s.queued ++ [{ kind := .journal r.seq, since := s.frame, recs := recs, named := some r.frame, jseq := some r.seq,
                                      cseq := r.cseq }] }

/-- The change of the CHANGE record `q` is compiled again, against the commits up to `cseq` (R311, R213). -/
def State.rearmRec (s : State) (q cseq : Nat) : State :=
  let s1 := { s with queued := s.queued.map (fun (c : Change) => if c.kind = ChangeKind.journal q then { c with cseq := cseq } else c) }
  match s1.chg with
  | some c =>
    if c.kind = .journal q && c.state != .applying then { s1 with chg := some { c with cseq := cseq, stale := c.stale || c.state = .armed } }
    else s1
  | none => s1

/-- The change of the CHANGE record `q` is withdrawn (R309, R215). -/
def State.cancelRec (s : State) (q : Nat) : State :=
  let s1 := { s with queued := s.queued.filter (fun (c : Change) => c.kind != ChangeKind.journal q) }
  match s1.chg with
  | some c => if c.kind = .journal q && c.state != .applying then ((s1.withdraw c).freeScribe).dropPending else s1
  | none => s1

/-- The bent action of a BENT record's unit (R309); a code with no action gives none. A BLOCK of the journal carries no reason, and latches
neither ABSORB_FAIL nor GROW_FAIL (DESIGN CHOICE: log entry 65). -/
def unitOf (u : List Nat) : Option BentUnit :=
  let code := bits (u.getD 0 0) 16 8
  let act : Option BentAct :=
    if code = 1 then some .grow else if code = 2 then some .absorb else if code = 3 then some .hold
    else if code = 4 then some .block else if code = 5 then some .back else if code = 6 then some .retime else none
  act.map (fun a => { act := a, src := bits (u.getD 1 0) 0 25, arr := bits (u.getD 2 0) 0 12, ref := bits (u.getD 2 0) 16 13 })

/-- A BENT record: its action takes effect at its frame (R158, R309). -/
def State.bentRec (s : State) (r : JRec) : State :=
  match r.units with
  | [] => s
  | u :: _ =>
    let us := r.units.filterMap unitOf
    if us.isEmpty then s else s.decideAction { bent := bits (u.getD 0 0) 0 14, at' := r.frame, units := us }

/-- A COMMAND record's write (R306, R309): BNT_RETIME_FRAME takes its value and WTR_CLEAR ends a wait. What RETIME and SCB_REPL_CTRL.GO
cause comes as BENT and CHANGE records of its own (R158, R306). -/
def State.commandPair (s : State) (p : Nat × Nat) : State :=
  match findReg p.1 with
  | none => s
  | some (r, i) =>
    if r.id = RN.BNT_RETIME_FRAME then s.setFld R.BNT_RETIME_FRAME_FRAME i p.2
    else if r.id = RN.SCF_GCFG && bit p.2 20 == 1 then s.clearWtr i
    else s

/-- A record other than a COMMIT or an INFO takes effect on the standby (R309). -/
def State.takeRec (s : State) (r : JRec) : State :=
  if r.kind = recChange then s.queueRec r
  else if r.kind = recRearm then s.rearmRec ((r.units.headD []).getD 0 0) r.cseq
  else if r.kind = recCancel then s.cancelRec ((r.units.headD []).getD 0 0)
  else if r.kind = recBent then s.bentRec r
  else if r.kind = recCommand then (pairsOf r.units).foldl State.commandPair s
  else s

/-- The records received in order are taken, as far as they may be: an INFO record waits for an install (R314); a COMMIT record takes
effect at tick C + 1, or at the first tick after it arrived, with COMMIT_LATE (R311). -/
def State.drainRecs (s : State) (tick : Bool) (jack : Nat) : List JRec → State
  | [] => s.updMate (fun m => { m with recv := [] })
  | r :: t =>
    let stop := s.updMate (fun m => { m with recv := r :: t })
    if !frameReached jack r.seq || r.kind = recInfo then stop
    else if r.kind = recCommit then
      if tick && frameLater s.frame r.frame then
        ((s.takeCommitRec r).latchIf (s.frame != frameAdd r.frame 1) R.MAT_EVT_COMMIT_LATE).drainRecs tick jack t
      else stop
    else (s.takeRec r).drainRecs tick jack t

/-- A standby that holds a complete state takes the records it may (R310, R315). -/
def State.drain (s : State) (tick : Bool) : State :=
  if s.isStandby && s.mate.installed && s.fld R.MAT_COPY_PHASE != 1 && s.fld R.MAT_COPY_PHASE != 2 then
    s.drainRecs tick (s.fld R.MAT_JACK_VALUE) s.mate.recv
  else s

/-- A journal record arrives on a standby: it is held, in its journal region too, until the records before it have come (R310). A record
already received, and one that reaches another device, has no effect. -/
def State.receive (s : State) (kind : Nat) (g : JournalMsg) : State :=
  let r : JRec := { seq := g.seq.toNat, kind := kind, frame := g.frame.toNat, cseq := g.cseq.toNat
                    units := g.units.map (fun u => [u.1.toNat, u.2.1.toNat, u.2.2.1.toNat, u.2.2.2.toNat]) }
  if !s.isStandby || s.flag R.MAT_STAT_CONFLICT || s.mate.recv.any (·.seq == r.seq)
      || (s.mate.installed && !frameLater r.seq (s.fld R.MAT_JACK_VALUE)) then s
  else
    let s1 := (s.storeUnits (r.header :: r.units)).updMate (fun m => { m with recv := insertRec r m.recv })
    (s1.setFld R.MAT_JACK_VALUE 0 (ackOf (s1.fld R.MAT_JACK_VALUE) s1.mate.recv)).drain false

/-- CHANGE (R309, R312). -/
def execChange (r : JournalMsg) (s : State) : Out := .next (s.receive recChange r)
/-- REARM (R309, R311). -/
def execRearm (r : JournalMsg) (s : State) : Out := .next (s.receive recRearm r)
/-- CANCEL (R309). -/
def execCancel (r : JournalMsg) (s : State) : Out := .next (s.receive recCancel r)
/-- COMMIT (R309, R311). -/
def execCommit (r : JournalMsg) (s : State) : Out := .next (s.receive recCommit r)
/-- BENT (R158, R309). -/
def execBent (r : JournalMsg) (s : State) : Out := .next (s.receive recBent r)
/-- COMMAND (R309). -/
def execCommand (r : JournalMsg) (s : State) : Out := .next (s.receive recCommand r)
/-- INFO (R309, R314): stored, not applied. -/
def execInfo (r : JournalMsg) (s : State) : Out := .next (s.receive recInfo r)

/-! ### READY (R316) -/

/-- The last JSENT that the mate has shown for at least 2 frames (R310, R316). -/
def State.jsentNamed (s : State) : Option Nat :=
  ((s.mate.jsents.filter (fun x => decide (2 ≤ s.sinceFrame x.1))).getLast?).map (·.2)

/-- The journalled changes in the scribe's hands, each with whether it is ARMED or applying at its named frame. -/
def State.journalJobs (s : State) : List (Nat × Change × Bool) :=
  let jobs := fun (c : Change) => match c.kind with
    | .journal q => [(q, c, (c.state = .armed || c.state = .applying) && c.frame == c.named)]
    | _ => []
  (s.chg.toList ++ s.queued).flatMap jobs

/-- Journal records that JSENT has named for 2 frames are not all applied or ARMED for their frame (R310, R316). -/
def State.behind (s : State) : Bool :=
  match s.jsentNamed with
  | none => false
  | some j =>
    frameLater j (s.fld R.MAT_JACK_VALUE)
      || s.mate.recv.any (fun r => frameReached j r.seq)
      || s.journalJobs.any (fun x => frameReached j x.1 && !x.2.2)

/-- A long member's tap entry has not yet been installed for d + 1 frames (R316). -/
def State.shortHistory (s : State) : Bool :=
  s.sched.bents.entries.any (fun e => e.2.members.any (fun m =>
    match m.pos.bind (tapAt s.tap) with
    | some t => decide (2 ≤ m.d) && decide (s.sinceFrame t.since < m.d + 1)
    | none => decide (2 ≤ m.d)))

/-- A joined member is not locked (R316). -/
def State.unlockedMember (s : State) : Bool := s.links.entries.any (fun e => e.2.joined && e.2.k.isNone)

/-- LANE_REQ = 1 and a traffic lane that is in SERVICE on the mate is not here (R316). -/
def State.lanesMissing (s : State) : Bool :=
  s.flag R.MAT_CFG_LANE_REQ && (List.range 256).any (fun n => s.mate.peerLanes.testBit n && !s.inService n)

/-- A final epoch is installed, or the state was kept, and no further epoch is on its way (R315, R316). -/
def State.copyDone (s : State) : Bool := s.mate.installed && s.fld R.MAT_COPY_PHASE != 1 && s.fld R.MAT_COPY_PHASE != 2

/-- MAT_NREADY: the conditions of R316 that fail. -/
def State.showNready (s : State) : State :=
  let s1 := ((s.setFlag R.MAT_NREADY_COPY 0 (!s.copyDone)).setFlag R.MAT_NREADY_JOURNAL 0 s.behind).setFlag
    R.MAT_NREADY_LONGPATH 0 s.shortHistory
  let s2 := ((s1.setFlag R.MAT_NREADY_BENTLOCK 0 s.unlockedMember).setFlag R.MAT_NREADY_PLUMB 0
    (!(s.plb == plbLocked && s.plbSel == 12))).setFlag R.MAT_NREADY_SEED 0 s.mate.seedBad
  (s2.setFlag R.MAT_NREADY_GRAIN 0 s.mate.grainBad).setFlag R.MAT_NREADY_LANES 0 s.lanesMissing

/-- Every condition of R316 holds. -/
def State.readyHolds (s : State) : Bool :=
  s.copyDone && !s.behind && !s.shortHistory && !s.unlockedMember && (s.plb == plbLocked && s.plbSel == 12)
    && !s.mate.seedBad && !s.mate.grainBad && !s.lanesMissing

/-- STANDBY_READY (R316): in JOINING every condition holds, and no side conflict lasts (R303). -/
def execStandbyReady (s : State) : Out :=
  .next (State.stampTick (
    let s1 := s.showNready
    if s.mateState = mateJoining && !s.flag R.MAT_STAT_CONFLICT && s.readyHolds then
      (s1.mateTo mateReady).setFld R.MAT_COPY_PHASE 0 0
    else s1) s)

/-- STANDBY_UNREADY (R300, R316): in READY a condition fails. -/
def execStandbyUnready (s : State) : Out :=
  .next (
    let s1 := s.showNready
    if s.mateState = mateReady && !s.readyHolds then s1.mateJoin false s.mate.installed else s1)

/-- JOURNAL_GAP (R310): a record that JSENT has named for 2 frames has not arrived. -/
def execJournalGap (s : State) : Out :=
  .next (
    let gap := match s.jsentNamed with
      | some j => frameLater j (s.fld R.MAT_JACK_VALUE)
      | none => false
    if s.isStandby && s.mate.installed && gap then
      let s1 := s.setFlag R.MAT_NREADY_JOURNAL 0 true
      if s.mateState = mateReady then s1.mateJoin false true else s1
    else s)

/-! ### The arbitration line (R299, R318) -/

/-- The line is released while valid heartbeats show the mate ACTIVE and HEALTHY: ARB_FAULT on a standby (R318). -/
def State.arbFault (s : State) : State :=
  s.latchIf (s.isStandby && !s.flag R.MAT_STAT_ARB_IN && s.flag R.MAT_STAT_HB_OK && s.flag R.MAT_PEER_VALID
    && s.fld R.MAT_PEER_STATE == mateActive && s.flag R.MAT_PEER_HEALTHY) R.MAT_EVT_ARB_FAULT

/-- ARB_IN, and the frame from which it has been asserted (R299, R300). -/
def State.setArb (s : State) (asserted : Bool) : State :=
  (s.setFlag R.MAT_STAT_ARB_IN 0 asserted).updMate (fun m => { m with
    arbAt := if asserted && !s.flag R.MAT_STAT_ARB_IN then s.frame else m.arbAt })

/-- The line is asserted while the device waits, and raising has reached P7: JOINING (R300, R301). -/
def State.waitSees (s : State) : State :=
  if s.mateState = mateWait && s.phase = 7 && !s.flag R.MAT_STAT_CONFLICT
      && (s.flag R.MAT_STAT_ARB_IN || (s.flag R.MAT_STAT_HB_OK && s.peerActive)) then s.mateJoin false false
  else s

/-- A time lies within 1,024 core cycles of an announced T (R318). -/
def State.nearT (s : State) (c : Nat) : Bool :=
  match s.mate.take with
  | some t => (s.frame == t.t && decide (c ≤ 1024)) || (frameAdd s.frame 1 == t.t && decide (165888 - 1024 ≤ c))
  | none => false

/-- ARB_CHANGE (R299, R318): MATE_ARB_IN_N is taken as asserted or released at core cycle `c`; near an announced T the change is
ignored, and the level is seen after it. -/
def execArbChange (asserted : Bool) (c : Fin 165888) (s : State) : Out :=
  .next (
    let s0 := { s.updMate (fun m => { m with arb := asserted }) with cycle := c.val }
    if !s.paired || s.nearT c.val then s0
    else
      let s1 := s0.setArb asserted
      (if asserted then s1 else s1.arbFault).waitSees)

/-! ### Start-up, isolation and conflicts (R300 to R303) -/

/-- The start-up wait in frames (R301). -/
def State.waitFrames (s : State) : Nat := if s.flag R.MAT_STAT_SIDE then 8192 else 2048

/-- STARTUP_WAIT_EXPIRY (R301): neither leaving condition has come, and the device enters ALONE; in a side conflict the device with the
lower serial number only (R303). -/
def execStartupWaitExpiry (s : State) : Out :=
  .next (
    if s.mateState = mateWait && s.phase = 7 && frameReached s.frame (frameAdd s.mate.waitFrom s.waitFrames) then
      let s1 := s.waitSees
      if s1.mateState = mateWait && !(s.flag R.MAT_STAT_CONFLICT && s.higherSerial) then s1.mateTo mateAlone else s1
    else s)

/-- The frames without a valid heartbeat in JOINING and READY with ARB_IN asserted (R300). -/
def State.silence (s : State) : Nat :=
  let n := min (s.sinceFrame s.mate.arbAt) (s.sinceFrame s.mate.stateAt)
  match s.mate.hbAt with
  | some f => min (s.sinceFrame f) n
  | none => n

/-- A valid heartbeat for frame F − 1 has arrived in frame F (R308). -/
def State.heartbeatCame (s : State) : Bool := s.mate.hbAt == some s.frame && frameAdd s.mate.peerFrame 1 == s.frame

/-- HEARTBEAT_LOSS (R308): by core cycle 8,192 none has come for the frame before. A device in ACTIVE is ALONE (R300). -/
def execHeartbeatLoss (s : State) : Out :=
  .next (
    if !s.paired || s.heartbeatCame then s
    else
      let s1 := { s with cycle := 8192 }.setFlag R.MAT_STAT_HB_OK 0 false
      if s1.mateState = mateActive then s1.mateTo mateAlone else s1)

/-- ISOLATE (R300): in JOINING or READY, no valid heartbeat for 8 frames while ARB_IN is asserted. -/
def execIsolate (s : State) : Out :=
  .next (
    if (s.mateState = mateJoining || s.mateState = mateReady) && s.flag R.MAT_STAT_ARB_IN && decide (8 ≤ s.silence) then
      s.mateTo mateIsolated
    else s)

/-- SIDE_CONFLICT_TIMEOUT (R303): no valid heartbeat for 8,192 frames ends a conflict. -/
def execSideConflictTimeout (s : State) : Out :=
  .next (
    let late := match s.mate.hbAt with
      | some f => decide (8192 ≤ s.sinceFrame f)
      | none => true
    if s.flag R.MAT_STAT_CONFLICT && late then s.setFlag R.MAT_STAT_CONFLICT 0 false else s)

/-! ### Heartbeats (R302, R303, R305, R308, R319) -/

/-- Whether the mate has held this device's state, after a heartbeat that shows it in state `st`, with KEPT or not (R329; DEDUCED: log entry
50). -/
def keepsState (had : Bool) (st : Nat) (kept : Bool) : Bool :=
  st == mateReady || (st == mateJoining && kept) || (had && (st == mateJoining || st == mateIsolated))

/-- A valid heartbeat's fields are taken (R308). The records that JACK acknowledges are released (R310). A countdown back to side A starts at
the tick at which the mate has become READY, the frame that the heartbeat describes (R327). -/
def State.hbFields (s : State) (p : List Nat) : State :=
  let w0 := p.getD 0 0
  let s1 := (((s.setFlag R.MAT_STAT_HB_OK 0 true).setFld R.MAT_PEER_STATE 0 (bits w0 20 4)).setFld R.MAT_PEER_SIDE 0 (bit w0 19)).setFld
    R.MAT_PEER_HEALTHY 0 (bit w0 18)
  let s2 := (s1.setFld R.MAT_PEER_KEPT 0 (bit w0 17)).setFlag R.MAT_PEER_VALID 0 true
  let mask := fun (k : Nat) => (List.range 8).foldl (fun a j => a + p.getD (k + j) 0 * 2 ^ (32 * j)) 0
  let s3 := s2.updMate (fun m => { m with
    hbAt := some s.frame
    peerFrame := p.getD 1 0
    peerMask := mask 4
    peerLanes := mask 15
    peerCseq := p.getD 13 0
    wtrFrom := if bits w0 20 4 = mateReady && s.fld R.MAT_PEER_STATE ≠ mateReady then p.getD 1 0 else m.wtrFrom
    peerJack := p.getD 3 0
    peerHad := keepsState m.peerHad (bits w0 20 4) (bit w0 17 == 1)
    jsents := if (m.jsents.getLast?.map (·.2)) == some (p.getD 2 0) then m.jsents
      else (m.jsents ++ [(s.frame, p.getD 2 0)]).drop (m.jsents.length + 1 - 8)
    journal := m.journal.filter (fun r => frameLater r.seq (p.getD 3 0))
    seedBad := p.getD 12 0 != s.seedChk })
  s3.countJournal.latchIf s3.mate.seedBad R.MAT_EVT_SEED_MISMATCH

/-- The two devices' fault masks of frame FRAME are compared on a standby (R316, R319). -/
def State.hbGrain (s : State) : State :=
  let f := s.mate.peerFrame
  if !s.isStandby || s.mate.grainAt == some f || frameAdd f 1 != s.frame then s
  else
    let n := (List.range 256).countP (fun o => s.mate.peerMask.testBit o && !s.mate.ownMask.testBit o)
    let th := s.fld R.MAT_CFG_GRN_PORTS
    let again := s.mate.grainAt == some ((f + 2 ^ 32 - 1) % 2 ^ 32)
    s.updMate (fun m => { m with
      grainAt := some f
      grainBad := (List.range 256).any (fun o => m.ownMask.testBit o && !m.peerMask.testBit o)
      grainRun := if th ≠ 0 ∧ th ≤ n then (if again then m.grainRun + 1 else 1) else 0 })

/-- The conflict check (R303): the sides are equal; the device with the higher serial number enters WAIT at the next tick, the other is or
becomes ALONE. -/
def State.hbConflict (s : State) : State :=
  if s.fld R.MAT_PEER_SIDE ≠ s.fld R.MAT_STAT_SIDE then s.setFlag R.MAT_STAT_CONFLICT 0 false
  else
    let s1 := (s.setFlag R.MAT_STAT_CONFLICT 0 true).latch R.MAT_EVT_SIDE_CONFLICT
    if s1.higherSerial then
      (if s1.mateState = mateFailed then s1 else s1.updMate (fun m => { m with atTick := some mateWait }))
    else if s1.mateState = mateActive then s1.mateTo mateAlone else s1

/-- In ALONE or ACTIVE with an active mate, the device with fewer supporting votes yields at the next tick, side B on equal counts
(R302). -/
def State.hbDual (s : State) : State :=
  let side := s.fld R.MAT_STAT_SIDE
  let own := s.support side
  let other := s.support (1 - side)
  if own < other ∨ (own = other ∧ side = 1) then
    ((s.setFld R.MAT_GAP_EDITS_UNITS 0 (min (2 ^ 27 - 1) s.mate.dual)).updMate (fun m => { m with atTick := some mateJoining })).latch
      R.MAT_EVT_DUAL_ACTIVE
  else s

/-- The last heartbeat describes a frame before the T at which this device took over, when the mate was the active one (R321; DEDUCED: log entry
50). -/
def State.beforeTake (s : State) : Bool :=
  match s.mate.take with
  | some t => t.mine && t.done && frameLater t.t s.mate.peerFrame
  | none => false

/-- What a valid heartbeat does to the device's state outside a conflict (R300, R302, R329). -/
def State.hbState (s : State) : State :=
  if s.isActive then
    if s.peerActive && s.beforeTake then s
    else if s.peerActive then (if s.mateState = mateActive then s.mateTo mateAlone else s).hbDual
    else
      let ready := s.fld R.MAT_PEER_STATE == mateReady
      -- the replay has caught up (R315)
      let s0 := if ready && s.fld R.MAT_COPY_PHASE == 3 then s.setFld R.MAT_COPY_PHASE 0 0 else s
      let s1 := s0.updMate (fun m => { m with dual := 0 })
      if s.mateState = mateAlone && ready then s1.mateTo mateActive
      else if s.mateState = mateActive && !ready then s1.mateTo mateAlone else s1
  else if s.mateState = mateIsolated then s.mateJoin false s.mate.installed
  else s.waitSees.arbFault

/-- The mate holds this device's state, and the record after its JACK is held here or has yet to come: it catches up from the journal (R329). -/
def State.catchesUp (s : State) : Bool :=
  s.mate.peerHad && (s.mate.peerJack == s.mate.jSeq || s.mate.journal.any (·.seq == frameAdd s.mate.peerJack 1))

/-- A mate in JOINING that has held this device's state, and can no longer catch up from the journal, is to take a full copy (R329). -/
def State.loseTrack (s : State) : State :=
  s.updMate (fun m => { m with want := m.want || (s.isActive && s.fld R.MAT_PEER_STATE == mateJoining && !s.flag R.MAT_PEER_KEPT
    && m.peerHad && !s.catchesUp && s.fld R.MAT_COPY_PHASE != 1 && s.fld R.MAT_COPY_PHASE != 2) })

/-- HEARTBEAT_RX (R308): a heartbeat that is not valid has no effect. -/
def execHeartbeatRx (l : Fin 8) (ws : List SlotWord) (s : State) : Out :=
  .next (
    if !s.paired then s
    else match s.goodHeartbeat l.val (ws.map BitVec.toNat) with
    | none => s
    | some p =>
      let s1 := (s.hbFields p).hbGrain.hbConflict
      if s1.flag R.MAT_STAT_CONFLICT then s1
      else
        let s2 := (s1.hbState.matchFrame).loseTrack
        if s2.mate.want && s2.copyable then s2.startEpoch 0 false else s2)

/-! ### The state copy (R313 to R315) -/

/-- A copy may start on the active: the mate is JOINING without KEPT, both heartbeats are valid, the seeds match and no conflict lasts
(R303, R305, R314). -/
def State.mayCopy (s : State) : Bool :=
  s.copyable && s.fld R.MAT_PEER_STATE == mateJoining && !s.flag R.MAT_PEER_KEPT

/-- The copy of an epoch may begin to arrive on a standby (R303, R305, R314). -/
def State.mayTakeCopy (s : State) : Bool :=
  (s.mateState = mateJoining || s.mateState = mateReady) && s.flag R.MAT_STAT_HB_OK && !s.mate.seedBad && !s.flag R.MAT_STAT_CONFLICT

/-- COPY_START (R314): on the active epoch `e`, 0 or the next, begins to be sent, but no full copy to a mate that catches up from the journal
(R329); on the standby it begins to arrive, and a new epoch 0 takes a device out of READY and ends KEPT (R310). The state that stands installed
stays in force until the epoch is installed (R314, R330). -/
def execCopyStart (epoch : BitVec 8) (s : State) : Out :=
  .next (
    if s.isActive then
      (if s.mayCopy && ((epoch = 0 && !s.catchesUp) || epoch.toNat == s.fld R.MAT_COPY_EPOCH + 1) then s.startEpoch epoch.toNat false else s)
    else if s.mayTakeCopy then
      let s1 := if s.mateState = mateReady then s.mateJoin false s.mate.installed else s
      let s2 := if epoch = 0 then s1.setFlag R.MAT_STAT_KEPT 0 false else s1
      s2.startEpoch epoch.toNat true
    else s)

/-- A slice joins those of the epoch in hand, and MAT_COPY shows their number; the last of `all` ends the slices (R314). -/
def State.tellSlice (s : State) (j all : Nat) : State :=
  let l := if s.mate.slices.contains j then s.mate.slices else s.mate.slices ++ [j]
  ((s.updMate (fun m => { m with slices := l })).setFld R.MAT_COPY_SLICE 0 l.length).setFld R.MAT_COPY_PHASE 0
    (if l.length = all then 2 else 1)

/-- COPY_SLICE (R313, R314): on the active, slice `j` is read and sent, where the epoch sends it and has not yet; the last slice ends the
epoch, and changes are journalled again from here (R315). On the standby `entries` of slice `j`, or of a delta of it, are staged. -/
def execCopySlice (j : Fin 65) (entries : List CopyEntry) (s : State) : Out :=
  .next (
    if s.fld R.MAT_COPY_PHASE ≠ 1 then s
    else if s.isActive then
      (if !s.mate.due.contains j.val || s.mate.slices.contains j.val then s
       else
         let s0 := (s.updMate (fun m => m.send s.frame (s.sliceEntries j))).tellSlice j s.mate.due.length
         let s1 := if s0.fld R.MAT_COPY_PHASE = 2 then s0.updMate (fun m => { m with dirty := [] }) else s0
         match s1.chg with
         | some c => if s1.fld R.MAT_COPY_PHASE = 2 && c.done = 0 && c.jseq.isNone && c.state != .compiling then s1.journalChange c else s1
         | none => s1)
    else if s.mateState = mateJoining then
      (s.updMate (fun m => { m with stage := m.stage ++ entries.filter (fun e => copySlice e == j.val) })).tellSlice j 65
    else s)

/-- The contents of slice `j` taken out of a schedule (R313). -/
def Schedule.clearSlice (sc : Schedule) (j : Nat) : Schedule :=
  if j = 64 then { sc with bents := {} }
  else
    let away := fun {α : Type} (t : Tab α) => t.keep (fun o _ => decide (o / 4 ≠ j))
    { sc with
      pwrite := away sc.pwrite
      pread := away sc.pread
      scarf := away sc.scarf
      map := sc.map.keep (fun a _ => decide (a / 131072 / 4 ≠ j))
      ingress := sc.ingress.mapVals (fun _ t => t.keep (fun c _ => decide (c / 4352 ≠ j))) }

/-- A member state by its code (R162). -/
def memberStateOf (k : Nat) : MemberState :=
  if k = 2 then .unlocked else if k = 3 then .active else if k = 4 then .suspect else if k = 5 then .held
  else if k = 6 then .blocked else .pending

/-- A nested table with, or without, a value. -/
def putIn {α : Type} (t : Tab (Tab α)) (a b : Nat) (v : Option α) : Tab (Tab α) :=
  match v with
  | some x => t.put a ((t.get a {}).put b x)
  | none => t.put a ((t.get a {}).del b)

/-- One staged entry is installed (R313, R314). -/
def State.installEntry (s : State) (e : CopyEntry) : State :=
  let sc := s.sched
  match e with
  | .ingress p c v =>
    let x := v.map (fun x => ({ slot := x.1.val, prev := x.2.1, out := x.2.2.val } : Ingress))
    { s with sched := { sc with ingress := putIn sc.ingress p.val c.val x } }
  | .pwrite o c v => { s with sched := { sc with pwrite := putIn sc.pwrite o.val c.val (v.map (·.val)) } }
  | .pread o x v =>
    { s with sched := { sc with pread := putIn sc.pread o.val x.val (if v.toNat = 0x3FFFF then none else some v.toNat) } }
  | .scarf o i v => { s with sched := { sc with scarf := putIn sc.scarf o.val i.val (v.map (fun x => (x.1.val, x.2.val))) } }
  | .single o v =>
    { s with sched := { sc with map := (match v with
      | some src => sc.map.put o.val (.single src.val)
      | none => sc.map.del o.val) } }
  | .merged o w p g i => { s with sched := { sc with map := sc.map.put o.val (.merged w.val p.val g.val i.val) } }
  | .tap q v =>
    { s with tap := putIn s.tap (q.val / 131072) (q.val % 131072) (v.map (fun x => { src := x.1.val, store := x.2, since := s.frame })) }
  | .bent b v =>
    { s with sched := { sc with bents := (match v with
      | some r => sc.bents.put b.val { ref := r.val, members := ((sc.bents.find b.val).map (·.members)).getD [] }
      | none => sc.bents.del b.val) } }
  | .member b src arr d pos k st =>
    let old := (sc.bents.find b.val).getD { ref := 0, members := [] }
    let m : Membership := { src := src.val, arr := arr.val, d := d.val, pos := pos.map (·.val) }
    let ms := old.members.filter (fun x => x.src != src.val) ++ [m]
    let l : Link := { bent := b.val, state := memberStateOf st.val, k := k.map (·.val), kOld := k.map (·.val), kFrom := s.frame
                      joinAt := if st.val ≤ 2 then some s.frame else none }
    { s with sched := { sc with bents := sc.bents.put b.val { old with members := ms } }, links := s.links.put src.val l }
  | .next _ _ | .field _ _ => s

/-- The journalled field values among staged entries. -/
def stagedFields (l : List CopyEntry) : Values :=
  valuesOf (l.filterMap (fun e => match e with
    | .field off v => some (off.toNat, v.toNat)
    | _ => none))

/-- The last JSEQ and the commit number up to which staged entries hold the active's state: one less than the next JSEQ, and CSEQ. -/
def stagedNext (l : List CopyEntry) : Option (Nat × Nat) :=
  l.foldl (fun a e => match e with
    | .next j c => some ((j.toNat + 2 ^ 32 - 1) % 2 ^ 32, c.toNat)
    | _ => a) none

/-- The entries of a list take the place of what slices of this device hold (R314). -/
def State.installImage (s : State) (slices : List Nat) (stage : List CopyEntry) : State :=
  let old := s.sched
  let base := slices.foldl Schedule.clearSlice old
  let whole := slices.contains 64
  let s1 := { s with sched := base, tap := if whole then {} else s.tap, links := if whole then {} else s.links
                     actions := [], queued := s.queued.filter (fun (c : Change) => match c.kind with
                       | .journal _ => false
                       | _ => true) }
  let s2 := stage.foldl State.installEntry s1
  let s2 := { s2 with links := s2.links.keep (fun src _ => !whole || (s2.sched.memberOf src).isSome) }
  let s3 := s2.setSides (s2.sides.live.keep (fun k _ => decide (old.map.find (k / 2) = s2.sched.map.find (k / 2))))
  let v := stagedFields stage
  ((s3.followGroups old.map s3.sched.map).unstage v).takeValues v

/-- The staged image takes the place of the slices that have arrived (R314). -/
def State.installStage (s : State) : State :=
  let s4 := s.installImage s.mate.slices s.mate.stage
  match stagedNext s.mate.stage with
  | none => s4
  | some (j, c) =>
    ((s4.setFld R.MAT_JACK_VALUE 0 j).setFld R.DEV_COMMIT_SEQ_CSEQ 0 c).updMate (fun m => { m with
      past := [], recv := m.recv.filter (fun r => frameLater r.seq j) })

/-- The staged image stands installed, and EPOCH_DONE is latched (R314). -/
def State.endInstall (s : State) (phase : Nat) : State :=
  ((s.installStage.setFld R.MAT_COPY_PHASE 0 phase).updMate (fun m => { m with stage := [], slices := [], inbound := false, installed := true })).latch
    R.MAT_EVT_EPOCH_DONE

/-- EPOCH_INSTALL (R314, R315): the staged image is installed, and the records after it are replayed; a device that has become active since the
last slice arrived installs it too. On the active that sent it the replay follows. -/
def execEpochInstall (s : State) : Out :=
  .next (
    let ph := s.fld R.MAT_COPY_PHASE
    if s.isActive then
      (if ph ≠ 2 then s
       else if s.mate.inbound then
         let s1 := s.endInstall 0
         s1.updMate (fun m => { m with jSeq := if frameLater (s1.fld R.MAT_JACK_VALUE) m.jSeq then s1.fld R.MAT_JACK_VALUE else m.jSeq })
       else (s.setFld R.MAT_COPY_PHASE 0 3).updMate (fun m => { m with peerHad := true }))
    else if s.mateState = mateJoining && (ph = 2 || (ph = 1 && s.fld R.MAT_COPY_EPOCH ≠ 0)) then
      let s1 := s.endInstall 3
      (s1.setFld R.MAT_JACK_VALUE 0 (ackOf (s1.fld R.MAT_JACK_VALUE) s1.mate.recv)).drain false
    else s)

/-! ### Takeovers (R318 to R324, R327 to R330) -/

/-- The mate shows FAILED in a valid heartbeat or in its status word (R318). -/
def State.peerFailed (s : State) : Bool :=
  (s.flag R.MAT_STAT_HB_OK && s.fld R.MAT_PEER_STATE == mateFailed)
    || s.liveMates.any (fun n => s.flag R.LN_RX_STW_VALID n && s.fld R.LN_RX_STW_ROLE n == 3)

/-- ARB_LINK (R318): the line is released, and heartbeats are lost or every mate lane in SERVICE has a consequent action. -/
def State.arbLink (s : State) : Bool :=
  !s.flag R.MAT_STAT_ARB_IN && (!s.flag R.MAT_STAT_HB_OK || s.liveMates.all s.caDefect)

/-- This device gave up its role at most 256 frames before the failure it may learn of (R328). -/
def State.gaveUp (s : State) : Bool :=
  match s.mate.take with
  | some t => !t.mine && t.done && !t.handover && decide (s.sinceFrame t.t ≤ 257)
  | none => false

/-- The cause that R318 finds on a standby; the lowest code. In JOINING only PEER_FAILED and ARB_LINK count (R330), in ISOLATED only
VOTES (R329). -/
def State.takeCause (s : State) : Option Nat :=
  if s.mateState = mateIsolated then
    (if !s.flag R.MAT_STAT_ARB_IN && decide (2 ≤ s.mate.voteRun) then some 4 else none)
  else if s.mateState = mateJoining || s.mateState = mateReady then
    (if s.peerFailed then some 1 else if s.arbLink then some 2
     else if s.mateState = mateReady && decide (2 ≤ s.mate.grainRun) then some 3 else none)
  else none

/-- A takeover or handover is decided in the present frame, with T two frames later (R318, R321, R327). -/
def State.decideTake (s : State) (cause : Nat) (mine : Bool) : State :=
  let t := frameAdd s.frame 2
  let s1 := ((s.setFld R.MAT_TAKE_CAUSE 0 cause).setFlag R.MAT_TAKE_DECIDER 0 true).setFld R.MAT_TAKE_FRAME_VALUE 0 t
  let s2 := s1.setFlag R.MAT_TAKE_FROM_COPY 0 (mine && s.mateState == mateJoining && cause != 7)
  s2.updMate (fun m => { m with take := some {
    t := t, cause := cause, mine := mine, decided := true, handover := cause = 5 || cause = 6 } })

/-- A takeover is decided unless a majority of the voting lanes vetoes it (R320). -/
def State.decideUnlessVetoed (s : State) (cause : Nat) : State :=
  if s.majority (1 - s.fld R.MAT_STAT_SIDE) then s.latch R.MAT_EVT_VETO else s.decideTake cause true

/-- TAKEOVER_DECIDE (R318, R320, R328, R329): a cause holds in this frame; a vetoed one latches VETO. A former active that kept its state
takes back, and one in any other state fails (R328). A decision replaces a planned handover (R324). -/
def execTakeoverDecide (s : State) : Out :=
  .next (
    let own := match s.mate.take with
      | some t => !t.done && t.mine && !t.handover
      | none => false
    if !s.isStandby || s.flag R.MAT_STAT_CONFLICT || own then s
    else if s.gaveUp && (s.peerFailed || s.arbLink) then
      (if s.mateState = mateJoining && s.flag R.MAT_STAT_KEPT then s.decideUnlessVetoed 7 else s.failDevice)
    else match s.takeCause with
    | none => s
    | some c => s.decideUnlessVetoed c)

/-- The units of the CHANGE and INFO records held and not applied, and the JSEQ of the first (R324, R330). -/
def State.gapUnits (s : State) : Nat × Nat :=
  let held := s.mate.recv.filter (fun r => r.kind = recChange || r.kind = recInfo)
  let jobs := s.journalJobs.filter (fun x => x.2.1.done = 0)
  let firsts := held.map (·.seq) ++ jobs.map (·.1)
  (held.foldl (fun n r => n + r.units.length) 0 + jobs.foldl (fun n x => n + x.2.1.recs.length) 0,
   firsts.foldl (fun a x => if frameLater a x then x else a) (firsts.headD 0))

/-- The commits above the last applied and at or below the highest that was revealed (R324). -/
def State.gapCommits (s : State) : Nat :=
  let have' := s.fld R.DEV_COMMIT_SEQ_CSEQ
  let seen := s.mate.peerCseq :: s.mate.recv.map (·.cseq) ++ s.journalJobs.map (·.2.1.cseq)
  seen.foldl (fun a c => if frameLater c have' then max a ((c + 2 ^ 32 - have') % 2 ^ 32) else a) 0

/-- MAT_GAP_*: what the new active can identify of what is lost (R324, R330). -/
def State.showGap (s : State) : State :=
  let last := (s.mate.jsents.getLast?).map (·.2)
  let unknown := (match last with
    | some j => frameLater j (s.fld R.MAT_JACK_VALUE)
    | none => false) || (s.flag R.MAT_TAKE_FROM_COPY && !s.mate.installed)
  let g := s.gapUnits
  (((s.setFld R.MAT_GAP_EDITS_UNITS 0 (min (2 ^ 27 - 1) g.1)).setFld R.MAT_GAP_FIRST_VALUE 0 g.2).setFld R.MAT_GAP_MISC_COMMITS 0
    (min 65535 s.gapCommits)).setFlag R.MAT_GAP_MISC_UNKNOWN 0 unknown

/-- PRIMED of every scene trigger as R323 sets it at T. -/
def State.primeAll (s : State) : State :=
  (List.range 256).foldl (fun t k =>
    let lane := t.fld R.CUT_SCNn_TRIG_LANE k
    let hit := [Defect.los, .lol, .lof, .lais, .lsf, .lsd, .lmm].any (fun d =>
      (d.sceneBit.map (fun b => (t.fld R.CUT_SCNn_TRIG_DEFECTS k).testBit b)).getD false && t.declared lane d)
    t.setFlag R.CUT_SCNn_TRIG_PRIMED k (!hit)) s

/-- From a copy, changes that are not yet ARMED do not apply: they are counted (R330). -/
def State.dropUnarmed (s : State) : State :=
  let s1 := { s with queued := s.queued.filter (fun (c : Change) => match c.kind with
    | .journal _ => false
    | _ => true) }
  match s1.chg with
  | some c => (match c.kind with
    | .journal _ => if c.state = .compiling then ((s1.withdraw c).freeScribe).dropPending else s1
    | _ => s1)
  | none => s1

/-- A device that takes over with no epoch complete and no state kept goes on with its image's base configuration (R330). -/
def State.restoreBase (s : State) : State :=
  if s.mate.installed then s else { s.installImage (List.range 65) s.raise.base with chg := none }

/-- Tick T on the new active (R321, R323, R324, R328, R330). -/
def State.becomeActive (s : State) (t : Takeover) : State :=
  let s1 := if t.handover then s else s.showGap.restoreBase
  let s2 := if s1.flag R.MAT_TAKE_FROM_COPY && !t.handover then s1.dropUnarmed else s1
  let s3 := (s2.mateTo mateAlone).primeAll
  -- a failure of the active does not stop an install (R314)
  let inst := s.mate.inbound && s.fld R.MAT_COPY_PHASE == 2
  let s4 := s3.updMate (fun m => { m with
    jSeq := s.fld R.MAT_JACK_VALUE, journal := [], recv := [], dual := 0, inbound := inst
    stage := if inst then m.stage else [], slices := if inst then m.slices else [], take := some { t with done := true, mask := m.peerMask } })
  ((if inst then s4 else s4.setFld R.MAT_COPY_PHASE 0 0).setFld R.MAT_JSENT_VALUE 0 (s.fld R.MAT_JACK_VALUE)).countJournal.latch
    (if t.handover then R.MAT_EVT_HANDOVER else R.MAT_EVT_TAKEOVER)

/-- Tick T on the former active (R300, R321, R327): JOINING with its state kept, or, from ACTIVE after a planned handover, READY. -/
def State.stepDown (s : State) (t : Takeover) : State :=
  let s1 := if t.handover && s.mateState == mateActive then (s.mateTo mateReady).updMate (fun m => { m with installed := true })
    else s.mateJoin true true
  let s2 := s1.updMate (fun m => { m with journal := [], recv := [], jsents := [], take := some { t with done := true } })
  let s3 := ((s2.setFld R.MAT_JACK_VALUE 0 s.mate.jSeq).setFld R.MAT_COPY_PHASE 0 0).countJournal
  s3.latchIf t.handover R.MAT_EVT_HANDOVER

/-- TAKEOVER_EFFECT (R321): tick T of a takeover or handover. -/
def execTakeoverEffect (s : State) : Out :=
  .next (State.stampTick (
    match s.mate.take with
    | none => s
    | some t =>
      if t.done || !frameReached s.frame t.t then s
      else if t.mine then (if s.isStandby then s.becomeActive t else s)
      else if s.isActive then s.stepDown t
      else if s.mateState = mateFailed then s.updMate (fun m => { m with take := some { t with done := true } })
      else s) s)

/-- TAKEOVER_FAIL (R328): within 256 frames of T the new active has a side in FAULT on GRN_PORTS output ports that were clear in the former
active's last FAULTMASK. -/
def execTakeoverFail (s : State) : Out :=
  .next (
    let th := s.fld R.MAT_CFG_GRN_PORTS
    let mask := (s.mate.take.map (·.mask)).getD 0
    let now := s.faultMask
    let n := (List.range 256).countP (fun o => now.testBit o && !mask.testBit o)
    if s.justTook && th != 0 && decide (th ≤ n) then s.failDevice else s)

/-- MATE_WTR_EXPIRY (R327): side B in ACTIVE, with REVERT = 1 and side A READY for WTR seconds, hands back to side A. -/
def execMateWtrExpiry (s : State) : Out :=
  .next (
    if s.mateState = mateActive && s.flag R.MAT_STAT_SIDE && s.flag R.MAT_CFG_REVERT && s.fld R.MAT_PEER_STATE == mateReady
        && !s.taking && decide (8000 * s.fld R.MAT_CFG_WTR ≤ s.sinceFrame s.mate.wtrFrom) then s.decideTake 6 false
    else s)

/-! ### MAT_CTRL (R300, R310, R327) -/

/-- The effect of a write of MAT_CTRL on a paired device: SWITCH in ACTIVE decides a planned handover and elsewhere is dropped with
MIRROR_WRITE; REJOIN takes FAILED to WAIT; RECOPY on an active starts a new epoch 0. -/
def State.mateCtrl (s : State) (w : Nat) : State :=
  if !s.paired then s
  else
    let s1 := if bit w 0 = 0 then s
      else if s.mateState = mateActive && !s.taking then s.decideTake 5 false
      else if s.mateState = mateActive then s
      else s.latch R.MAT_EVT_MIRROR_WRITE
    let s2 := if bit w 1 = 1 && s1.mateState = mateFailed then
        (s1.mateTo mateWait).updMate (fun m => { m with waitFrom := frameAdd s.frame 1, take := none, installed := false, wasActive := false })
      else s1
    if bit w 2 = 1 && s2.isActive then s2.newCopy else s2

/-! ### What the tick does (R299, R311, R316, R321, R327) -/

/-- MAT_WTR counts the seconds left before the return to side A (R327). -/
def State.showWtr (s : State) : State :=
  let runs := s.mateState == mateActive && s.flag R.MAT_STAT_SIDE && s.flag R.MAT_CFG_REVERT && s.fld R.MAT_PEER_STATE == mateReady
  let left := 8000 * s.fld R.MAT_CFG_WTR - s.sinceFrame s.mate.wtrFrom
  s.setFld R.MAT_WTR_REMAIN 0 (if runs then (left + 7999) / 8000 else 0)

/-- A state that a heartbeat has called for is entered (R302, R303). -/
def State.enterPlanned (s : State) : State :=
  match s.mate.atTick with
  | none => s
  | some st =>
    let s1 := s.updMate (fun m => { m with atTick := none })
    if s1.mateState = mateFailed then s1 else if st = mateJoining then s1.mateJoin false false else s1.mateTo st

/-- The mate unit at a tick. -/
def State.tickMate (s : State) : State :=
  if !s.paired then s
  else
    let s1 := s.enterPlanned
    let hold := match s1.mate.take with
      | some t => s1.frame == t.t
      | none => false
    let s2 := (if hold then s1 else s1.setArb s1.mate.arb).waitSees
    let s3 := s2.learnTake.showTake.tickVotes
    let s4 := (s3.updMate (fun m => { m with ownMask := s3.shownMask })).drain true
    let sends := s4.isActive && !s4.flag R.MAT_STAT_CONFLICT && !s4.liveMates.isEmpty
    let s5 := if sends then s4.setFld R.MAT_JSENT_VALUE 0 s4.mate.jSeq else s4
    if s5.isStandby then s5.showNready.showWtr else s5.showWtr

end Sys2Proof.Machine
end

