-- ==== Sys2Proof/Machine/Joiners.lean ====
section
/-! DEFINITION. The joiners: their banks' code, the spare joiner (R401, R464, R469) and the life of a live firmware update (R368 to R370).
Readings and choices: DEDUCED (log entry 39), DEDUCED (log entry 53). -/

namespace Sys2Proof.Machine

/-! ### Cores and masters (R401) -/

/-- Core `i` is out of service for good. -/
def State.coreOut (s : State) (i : Nat) : Bool := s.sist.joinersOut.contains i

/-- The joiner core that serves no master and is in service: the spare (R459). -/
def State.spareCore (s : State) : Option Nat :=
  if s.flag R.TLY_SPARES_JOINER then (List.range 5).find? (fun i => (s.servedBy i).isNone && !s.coreOut i) else none

/-- The cores that serve a master, in the order of the masters (R369). -/
def State.servingCores (s : State) : List Nat := ((List.range 4).map s.coreOf).filter (fun i => !s.coreOut i)

/-- A joiner bank, of 512 KB, holds firmware from its offset 0 (R353). -/
def State.loadBank (s : State) (i : Nat) (code : List (BitVec 8)) : State :=
  if i < 5 then s.writeBytes (joinerBank i) (code.take 0x80000) else s

/-! ### A live update (R368 to R370) -/

def liveIdle : Nat := 0
def liveWaiting : Nat := 1
def liveRunning : Nat := 2
def liveRollback : Nat := 3
def liveDone : Nat := 4
def liveFailed : Nat := 5

/-- IMG_LIVE_STAT.STATE. -/
def State.liveState (s : State) : Nat := s.fld R.IMG_LIVE_STAT_STATE

/-- A joiner sistering is in progress (R368). -/
def State.joinerBusy (s : State) : Bool := s.sist.joiner.isSome

/-- The cores that a live update takes, in order: those that serve M0 to M3, then the spare when one remains (R369). -/
def State.liveOrder (s : State) : List Nat := s.servingCores ++ s.spareCore.toList

/-- The next core of a live update, which leaves service at the next tick (R369). -/
def State.liveNext (s : State) : State :=
  match s.liveOrder.find? (fun i => !s.raise.updated.contains i) with
  | some i => s.setFld R.IMG_LIVE_STAT_CORE 0 i
  | none => s

/-- A live update begins, or goes on after a sistering (R368). -/
def State.liveBegin (s : State) : State := (s.setFld R.IMG_LIVE_STAT_STATE 0 liveRunning).liveNext

/-- A live update that waited begins once the sistering is complete (R368). -/
def State.liveResume (s : State) : State := if s.liveState = liveWaiting && !s.joinerBusy then s.liveBegin else s

/-- The bank of core `i` is loaded from an image, in a live update or its roll-back. -/
def State.liveLoad (s : State) (i : Nat) (g : Option SlotImage) : State :=
  match g with
  | some g => s.loadBank i g.code
  | none => s

/-- The firmware that runs is that of image `g` (IMG_FW_VER). -/
def State.showFw (s : State) (g : SlotImage) : State :=
  (s.setFld R.IMG_FW_VER_VERSION 0 g.fwVersion).updRaise (fun r => { r with fwSvn := g.fwSvn, fwAbi := g.fwAbi })

/-- The update stops at the core in hand; the cores already updated go back to the old firmware (R370). -/
def State.liveStop (s : State) (code : Nat) : State :=
  let st := if s.raise.updated.isEmpty then liveFailed else liveRollback
  ((s.setFld R.IMG_LIVE_STAT_STATE 0 st).setFld R.IMG_LIVE_STAT_CODE 0 code).latch R.IMG_EVT_LIVE_FAIL

/-- The new code passes the check of its inner signature (R353, R369). -/
def State.liveCodeGood (s : State) : Bool :=
  match s.raise.other with
  | some g => !s.badFirmware g
  | none => false

/-- The core that the update, or its roll-back, is to take next: the core in hand, or the last of those updated (R369, R370). -/
def State.liveTarget (s : State) : Option Nat :=
  if s.liveState = liveRunning then some (s.fld R.IMG_LIVE_STAT_CORE)
  else if s.liveState = liveRollback then s.raise.updated.getLast? else none

/-- What a tick does to a live update (R369, R370): the duties of the core in hand pass to the other cores in service, and its bank is loaded,
with the new code, or in a roll-back with the old. -/
def State.tickLive (s : State) : State :=
  match s.liveTarget with
  | none => s
  | some i =>
    if s.raise.liveOut.contains i then s
    else
      let g := if s.liveState = liveRunning then s.raise.other else s.raise.image
      (s.liveLoad i g).updRaise (fun r => { r with liveOut := r.liveOut ++ [i], liveSince := s.frame })

/-- Core `i` resumes its duties (R369). -/
def State.liveResumes (s : State) (i : Nat) : State := s.updRaise (fun r => { r with liveOut := r.liveOut.erase i })

/-- LIVE_CORE_DONE (R369, R370): at a tick the core in hand, which holds the new code, resumes its duties; after the last, the update is done.
Code that fails the check of its inner signature stops the update as a failed self-test does (log entry 22). In a roll-back the core last
updated is back on the old firmware. -/
def execLiveCoreDone (s : State) : Out :=
  .next (
    if !(s.liveTarget.any (fun i => s.raise.liveOut.contains i)) then s
    else if s.liveState = liveRunning && !s.liveCodeGood then s.liveStop 6
    else if s.liveState = liveRunning then
      let i := s.fld R.IMG_LIVE_STAT_CORE
      let s1 := (s.liveResumes i).updRaise (fun r => { r with updated := r.updated ++ [i] })
      if s1.liveOrder.all (fun j => s1.raise.updated.contains j) then
        let s2 := match s1.raise.other with
          | some g => s1.showFw g
          | none => s1
        ((s2.setFld R.IMG_RUN_FW_SLOT 0 (1 - s2.fld R.IMG_RUN_SLOT)).setFld R.IMG_LIVE_STAT_STATE 0 liveDone).latch R.IMG_EVT_LIVE_DONE
      else s1.liveNext
    else if s.liveState = liveRollback then
      match s.raise.updated.reverse with
      | [] => s.setFld R.IMG_LIVE_STAT_STATE 0 liveFailed
      | i :: rest =>
        let s1 := (s.liveResumes i).updRaise (fun r => { r with updated := rest.reverse })
        if rest.isEmpty then s1.setFld R.IMG_LIVE_STAT_STATE 0 liveFailed else s1
    else s)

/-- LIVE_CORE_TIMEOUT (R370): the core in hand has not resumed within 8,000 frames, or fails its self-test. -/
def execLiveCoreTimeout (selfTest : Bool) (s : State) : Out :=
  .next (
    if s.liveState = liveRunning && s.raise.liveOut.contains (s.fld R.IMG_LIVE_STAT_CORE)
        && (selfTest || decide (8000 ≤ s.sinceFrame s.raise.liveSince)) then
      s.liveStop (if selfTest then 6 else 5)
    else s)

/-! ### The spare joiner (R464, R469) -/

/-- Core `k` fails (R460, R464): with AUTO its substitution starts at the next tick, without it the host decides; with no spare the other
cores carry every duty, and with fewer than 2 of them the device fails (R469). A second failure waits for the substitution that runs (R467). -/
def State.joinerFails (s : State) (k : Nat) : State :=
  if s.coreOut k then s
  else if s.joinerBusy then
    s.updSist (fun x => if x.joinerWait.contains k || x.joiner.map (·.1) = some k then x
      else { x with joinerWait := x.joinerWait ++ [k] })
  else match s.spareCore with
    | some i =>
      if i = k then
        -- the spare itself fails: it is no longer free
        (s.setFld R.TLY_SPARES_JOINER 0 0).updSist (fun x => { x with joinersOut := x.joinersOut ++ [k] })
      else if s.autoSubst 3 then (s.updSist (fun x => { x with joiner := some (k, frameAdd s.frame 1) })).showBusy
      else s.needSubst classJoiner k
    | none =>
      let s1 := s.exhausted.updSist (fun x => { x with joinersOut := x.joinersOut ++ [k] })
      if s1.servingCores.length < 2 then s1.failDevice else s1

/-- JOINER_SUBST_TRIGGER (R464). The watchdog excludes a core that a live update has taken out of service, and its self-test is the update's
(R369, R370). -/
def execJoinerSubstTrigger (k : Fin 5) (s : State) : Out :=
  .next (if s.liveTarget = some k.val && s.raise.liveOut.contains k.val then s else s.joinerFails k.val)

/-- The map of cores with `new` in the place of `old` (R401). -/
def jmapSwap (map old new : Nat) : Nat :=
  (List.range 4).foldl (fun m k => if bits map (3 * k) 3 = old then putBits m (3 * k) 3 new else m) map

/-- The failures that waited for a substitution are handled (R467). -/
def State.joinersNext (s : State) : State :=
  s.sist.joinerWait.foldl (fun t k => t.joinerFails k) (s.updSist (fun x => { x with joinerWait := [] }))

/-- The spare's bank `i` before it first takes duties: cleared (R416), and filled with the data of failed core `k`, or, where a read failed, with
the code that runs (R353, R464; DEDUCED: log entry 39). -/
def State.fillSpare (s : State) (i k : Nat) (dataOk : Bool) : State :=
  if 5 ≤ i then s
  else if dataOk then s.writeBytes (joinerBank i) (s.readBytes (joinerBank k) 0x80000)
  else
    (s.clearRange (joinerBank i) (joinerBank i + 0x80000)).liveLoad i
      (if s.fld R.IMG_RUN_FW_SLOT = s.fld R.IMG_RUN_SLOT then s.raise.image else s.raise.other)

/-- JOINER_SUBST_DONE (R464): at a tick the spare takes the master number of the failed core, with its data where M8 could copy them. A
live update that waited begins (R368). -/
def execJoinerSubstDone (dataOk : Bool) (s : State) : Out :=
  .next (
    match s.sist.joiner, s.spareCore with
    | some (k, f), some i =>
      if !frameReached s.frame f then s
      else
        let s1 := s.fillSpare i k dataOk
        let s2 := ((s1.setFld R.MTX_JMAP_CORES 0 (jmapSwap (s1.fld R.MTX_JMAP_CORES) k i)).setFld R.TLY_SPARES_JOINER 0 0).latchFor
          R.MTX_EVT_JMAP_CHANGE ((s.servedBy k).getD 0)
        let s3 := s2.updSist (fun x => { x with joiner := none, joinersOut := x.joinersOut ++ [k] })
        (s3.substDone classJoiner k i).joinersNext.liveResume
    | _, _ => s)

end Sys2Proof.Machine
end

