-- ==== Sys2Proof/Machine/Raising.lean ====
section
/-! DEFINITION. Raising: the phases P0 to P7, what the image sets at each, and what starts raising again (R333 to R348, R358 to R362, R416,
R425, R429, R430, R435, R479, R502).
Readings and choices: DEDUCED (log entry 19), DESIGN CHOICE (log entry 20), DEDUCED (log entry 21), DEDUCED (log entry 23). -/

namespace Sys2Proof.Machine

/-! ### Starting again (R333, R342, R416, R502) -/

/-- The spares that serve or are gone for good, as the registers have them once the fuses have been loaded (R14, R459). -/
def State.spentNow (s : State) : Spent :=
  let sp := s.fuses.spares.toNat
  if s.phase < 2 then s.sist.spent
  else
    { s.sist.spent with
      sisters := bits sp 6 7 - s.fld R.TLY_SPARES_SISTERS
      fec := bits sp 13 4 - s.fld R.TLY_SPARES_FEC
      joiner := bit sp 17 - s.fld R.TLY_SPARES_JOINER
      scribe := bits sp 18 3 - s.fld R.TLY_SPARES_SCRIBE
      engines := 64 - s.fld R.SCB_STAT_ENGINES
      jmap := some (s.fld R.MTX_JMAP_CORES) }

/-- What stays of the substitutions when raising starts again (R459): the spares spent, the decoders replaced, the cores out of service, LAMS retired.
How a device keeps this while raising is not stated (DESIGN CHOICE: log entry 39). -/
def State.sistKept (s : State) : Sist :=
  { spent := s.spentNow, fec := s.sist.fec.keep (fun _ f => f == .replaced), joinersOut := s.sist.joinersOut, lamsGone := s.sist.lamsGone }

/-- The state of the device as P0 begins, or while RESET_N or a supply holds it before P0: what the fuses and the tally hold survives, and
so do the level of PERST_N, the tamper sources asserted, RESET_N held low, the JTAG instruction, and the spares that are spent (R333, R341,
R416, R459, R470, R502). The queue of commands, the free-value counter and the last answer are the model's own. -/
def State.backToP0 (s : State) (go retry stopped : Bool) : State :=
  let t := s.drainTally
  let r : State := {
    pending := t.pending, free := t.free, resp := t.resp, fuses := t.fuses, tallyRaw := t.tallyRaw
    tally := if go then { t.tally with raises := t.tally.raises + 1 } else t.tally
    pcie := t.pcie.mapVals (fun _ p => { perst := p.perst })
    guarding := { asserted := t.guarding.asserted, seen := Nat.land t.guarding.seen (if t.raise.held && !go then 0x40 else 0x70) }
    sist := t.sistKept
    snd := { failedGroups := t.snd.failedGroups }
    ddr := { keys := t.ddr.keys }
    raise := { running := go, jtag := t.raise.jtag, stopped := stopped, retry := retry, held := t.raise.held && !go } }
  r.setFld R.IMG_RAISE_PHASE 0 0

/-- A tamper response in progress completes with its record before a reset takes hold (R502). -/
def State.endResponse (s : State) : State :=
  if s.guarding.running then
    let s1 := s.tallyAdd tallyTamper 0 0 [s.guarding.mask, s.fld R.TLY_TAMP_CFG_POLICY]
    { s1 with guarding := { s1.guarding with running := false, mask := 0 } }
  else s

/-- RESET_ASSERT (R333, R502): raising is abandoned, the secure bank is wiped, a response and the tally's writes complete, the voltage and
clock monitors are disarmed, and the balls take their P0 state. -/
def execResetAssert (s : State) : Out :=
  .next (((s.endResponse.updTally (fun t => { t with writing := none })).updRaise (fun r => { r with held := true })).backToP0 false false false)

/-- SUPPLY_FAULT (R333, R471): raising is abandoned, and a write of the tally may be cut. RESET_N that is low stays so (R502). Until P0 begins the
tamper unit keeps the policy and the inputs that it acts under, and what has acted: a fall of VDD_CORE takes the supply out of tolerance before it is
a tamper condition (R503; DEDUCED: log entry 23). -/
def execSupplyFault (s : State) : Out :=
  let s1 := s.endResponse.cutWrite
  let s2 := s1.backToP0 false false false
  let s3 := (s2.setFld R.TLY_TAMP_CFG_POLICY 0 (s1.fld R.TLY_TAMP_CFG_POLICY)).setFld R.TLY_TAMP_CFG_IN_EN 0 (s1.fld R.TLY_TAMP_CFG_IN_EN)
  .next { s3 with guarding := { s3.guarding with seen := s1.guarding.seen } }

/-- A JTAG instruction takes control of the balls (R342, R476): EXTEST and its like, and a private instruction that changes device state, where the
life-cycle state serves it; where it refuses, that acts as BYPASS. -/
def State.jtagTakes (s : State) : JtagKind → Bool
  | .extest => true
  | .passive => false
  | .priv changes => changes && (s.lifeCode == 0 || s.lifeCode == 3)

/-! ### P0 and P1 (R298, R333, R345, R359, R416, R427, R476, R479) -/

/-- A time of `n` µs in an IMG_PHASE_TIME register, which saturates (R371). -/
def State.setTime (s : State) (k n : Nat) : State := s.setFld R.IMG_PHASE_TIME_TIME k (min n (2 ^ 24 - 1))

/-- How long phase `k` took, in µs (R333, R371): of P0 to P3 what the plant took, of P4 that and the frames since tick 0, of P5 and P6 the
frames and the part of one in which each ended; TIME7 is the sum. What the plant took is a free value (DESIGN CHOICE: log entry 8). -/
def State.timePhase (s : State) (k : Nat) : State :=
  let part := Config.open' s.free % 125
  let t5 := s.fld R.IMG_PHASE_TIME_TIME 5
  (if k = 7 then s.setTime 7 ((List.range 7).foldl (fun a j => a + s.fld R.IMG_PHASE_TIME_TIME j) 0)
   else if k = 6 then s.setTime 6 (125 * s.sinceFrame s.raise.p5At + part - t5)
   else if k = 5 then s.setTime 5 (125 * s.sinceFrame s.raise.p5At + part)
   else if k = 4 then s.setTime 4 (125 * s.frame + Config.open' s.free)
   else s.setTime k (Config.open' s.free)).drawn

/-- Phase `k` begins, and the one before has ended. -/
def State.enterPhase (s : State) (k : Nat) : State := (s.timePhase (k - 1)).setFld R.IMG_RAISE_PHASE 0 k

/-- A transition that power loss interrupted: complete where the fuses read the new state, else it has not happened (R479). -/
def State.settlePending (s : State) : State :=
  match s.tally.pend with
  | none => s
  | some (op, target) =>
    let done := if op = 2 then s.fuses.revoked.getLsbD target else s.lifeCode == target
    s.updTally (fun t => { t with
      pend := none, result := if done then 0x1 else 0xA, life := s.lifeCode
      services := t.services + b2n (done && op == 1 && target == 3) })

/-- FUSE_READ_DONE (R298, R333, R479, R497): the fuses are read and the straps sampled; P0 ends. -/
def execFuseReadDone (f : Fuses) (side slow : Bool) (s : State) : Out :=
  .next (
    if s.raising && s.phase == 0 then
      let s1 := s.blow f
      let s2 := (s1.settlePending.setFlag R.MAT_STAT_SIDE 0 side).updRaise (fun r => { r with slow := slow })
      s2.enterPhase 1
    else s)

/-- The fields that come from the fuses (R14, R333), less the spares that are spent (R459). -/
def State.loadFuses (s : State) : State :=
  let f := s.fuses
  let sp := f.spares.toNat
  let x := s.sist.spent
  let gone := s.sist.lamsGone || bit sp 5 == 0
  let s1 := (((s.setFld R.DEV_ID_REV 0 f.rev.toNat).setFld R.DEV_SERIAL_SERIAL 0 f.serial.toNat).setFld R.IMG_SVN_MIN_MIN 0
    f.minSvn.toNat).setFld R.MEM_STAT_SPARE_ROWS 0 (min 255 ((f.rows.take 8).foldl (fun n r => n + r.toNat) 0))
  let s2 := (((s1.setFld R.TLY_SPARES_LANES 0 (bits sp 0 5)).setFld R.TLY_SPARES_LAM 0 (b2n !gone)).setFld R.TLY_SPARES_SISTERS 0
    (bits sp 6 7 - x.sisters)).setFld R.TLY_SPARES_FEC 0 (bits sp 13 4 - x.fec)
  let s3 := ((s2.setFld R.TLY_SPARES_JOINER 0 (bit sp 17 - x.joiner)).setFld R.TLY_SPARES_SCRIBE 0 (bits sp 18 3 - x.scribe)).setFld R.TLY_SPARES_DPLL 0
    (bit sp 21 * b2n x.dpll.isNone)
  let sb := ((s3.setFld R.SCB_STAT_ENGINES 0 (64 - x.engines)).setFld R.MTX_JMAP_CORES 0 (x.jmap.getD (s3.fld R.MTX_JMAP_CORES))).setFld
    R.SND_STAT_NOSISTER 0 s3.snd.failedGroups.length
  let s4 := (sb.setFld R.SCB_STAT_SPARES 0 (bits sp 18 3 - x.scribe)).updSist (fun y => { y with lamsGone := gone })
  (s4.setFld R.TLY_LC_STAT_STATE 0 s4.lifeCode).setFld R.TLY_LC_STAT_REVOKED 0 f.revoked.toNat

/-- Flash discovery (R345): the tables of a valid SFDP give the mode, the clock and the density. -/
def State.foundFlash (s : State) (fl : FlashInfo) : State :=
  let octal := fl.profile && !s.raise.slow
  if fl.sfdp then
    let s1 := (s.setFld R.IMG_FLASH_MODE 0 (if octal then 2 else 0)).setFld R.IMG_FLASH_CLOCK 0
      (if octal then min 200 fl.clock.toNat else 50)
    (s1.setFld R.IMG_FLASH_DENSITY 0 fl.density.val).setFlag R.IMG_FLASH_SFDP_OK 0 true
  else s.setFlag R.IMG_FLASH_SFDP_OK 0 false

/-- A PCIe link begins to train once P1 has ended and PERST_N is high (R341). -/
def State.trainLinks (s : State) : State :=
  { s with pcie := s.pcie.mapVals (fun _ p => { p with training := p.perst }) }

/-- MEMORY_CLEAR_DONE (R14, R341, R345, R416, R427, R477): every SRAM bit is 0, the fields of the fuses are loaded, the nonce and the DDR5
keys are new; P1 ends, and flash discovery follows. A flash without a valid SFDP signature halts raising. -/
def execMemoryClearDone (fl : FlashInfo) (s : State) : Out :=
  .next (
    if s.raising && s.phase == 1 then
      let s1 := (s.loadFuses.setFld R.TLY_LC_NONCE_NONCE 0 (Config.nonce s.free)).drawn
      let s2 := s1.rekey.trainLinks.enterPhase 2
      let s3 := s2.foundFlash fl
      if fl.sfdp then s3 else s3.haltRaise imgNoFlash noSection 0 0
    else s)

/-- PERST_N_DEASSERT (R341): link training starts after P1. -/
def execPerstNDeassert (p : Fin 2) (s : State) : Out :=
  .next (
    let c := s.pcie.get p.val {}
    { s with pcie := s.pcie.put p.val { c with perst := true, training := s.raise.running && decide (2 ≤ s.phase) } })

/-! ### DDR5 (R348, R425, R429, R430, R435) -/

/-- The capacity installed, in GB, of a configuration (R425). -/
def installedGb (config : Nat) : Nat := if config = 0 then 32 else if config = 1 then 64 else 128

/-- A region's place in the layout: base and size in MB from the start of DDR5 (R430). -/
def State.setRegion (s : State) (k base size : Nat) : State :=
  (s.setFld R.DDR_RGNk_BASE_BASE k (ddrBase / 2 ^ 20 + base)).setFld R.DDR_RGNk_SIZE_MB k size

/-- The state of the channels that `p` accepts. -/
def onlineBits (p : Nat → Bool) : Nat := (List.range 8).foldl (fun a n => if p n then a + 2 ^ n else a) 0

/-- The first 1 MB of an image, which the mailbox bank holds, moves into the staging region (R348, R413). -/
def State.moveMailbox (s : State) : State :=
  let b := s.fld R.IMG_STAGE_BASE_BASE
  let l := s.mem.filter (fun c => decide (0x10280000 ≤ c.1) && decide (c.1 < 0x10380000))
  if l.isEmpty then s
  else l.foldl (fun t c => t.setByte (b + (c.1 - 0x10280000)) c.2) (s.zeroRange b (b + 0x100000))

/-- DDR_TRAINING_DONE (R340, R348, R425, R429, R430, R435): the capacity and the channels' states are known; with two channels failed raising
halts with DDR, else image staging takes the last 256 MB of the usable size, and what the mailbox bank holds of an image moves there. A
device that had halted enters recovery. -/
def execDdrTrainingDone (config : Fin 4) (temp : BitVec 8) (failed : BitVec 8) (s : State) : Out :=
  .next (
    if !(s.raise.running && s.phase == 2) || s.ddrTrained then s
    else
      let c := installedGb config.val
      let s1 := ((s.setFld R.DDR_STAT_INSTALLED 0 c).setFld R.DDR_STAT_USABLE 0 (7 * c / 8)).setFld R.DDR_STAT_CONFIG 0 config.val
      let s2 := s1.setFld R.DDR_STAT_ONLINE 0 (onlineBits (fun n => !failed.getLsbD n))
      let s3 := (List.range 8).foldl (fun t n =>
        let t1 := ((t.setFld R.DDR_CHn_STAT_STATE n (if failed.getLsbD n then 3 else 1)).setFld R.DDR_CHn_STAT_TEMP n temp.toNat).satFld
          R.DDR_CHn_STAT_TRAINS n 1
        if failed.getLsbD n then (t1.latch R.DDR_EVT_DDR_DOWN).tallyAdd tallyDdrDown 0 0 [n] else t1) s2
      if 2 ≤ (List.range 8).countP (fun n => failed.getLsbD n) then s3.haltRaise imgDdr noSection 0 0
      else
        let b := 7 * c / 8 * 1024 - 256
        ((s3.setRegion 3 b 256).setFld R.IMG_STAGE_BASE_BASE 0 (ddrBase + b * 2 ^ 20)).moveMailbox.tryRecovery)

/-- The value that an image gives a field of instance 0 through a section type, else its reset value (R430). -/
def imageField (g : SlotImage) (t : Nat) (f : Fld) : Nat :=
  ((recordValues (((g.ofType t).flatMap (fun i => cfgRecords (g.content i))))).get f.id {}).get 0 f.reset

/-- The regions of step 2 in table order: number, size and alignment in MB (R430). Region 7 takes 256 KB of the MB shown. -/
def layoutOf (g : SlotImage) : List (Nat × Nat × Nat) :=
  [(0, imageField g 0x23 R.DDR_CFG_LP_GB * 1024, 1024),
   (1, if imageField g 0x26 R.MAT_CFG_PAIR_EN = 1 then 1024 else 0, 1024),
   (2, 256, 256),
   (4, imageField g 0x23 R.DDR_CFG_SCN_256M * 256, 256),
   (5, 16, 16),
   (6, imageField g 0x23 R.DDR_CFG_HIST_16M * 16, 16),
   (7, 1, 1)]

/-- Step 2 of the layout, from the end of the region before (R430). -/
def State.placeRegions (s : State) : Nat → List (Nat × Nat × Nat) → State × Nat
  | last, [] => (s, last)
  | last, (k, size, align) :: t =>
    if size = 0 then (s.setRegion k last 0).placeRegions last t
    else
      let b := (last + align - 1) / align * align
      (s.setRegion k b size).placeRegions (b + size) t

/-- The registers that take the base of a region (R430). -/
def State.showBases (s : State) : State :=
  let s1 := if s.regionSize 1 = 0 then s else s.setFld R.MAT_JBASE_BASE 0 (s.regionBase 1)
  (s1.setFld R.MGT_LOG_BASE_BASE 0 (s1.regionBase 5)).setFld R.PLB_HIST_BASE_BASE 0 (s1.regionBase 7)

/-- Step 2 of the layout (R430), or halting with DDR where regions 0 to 7 do not fit below region 3. -/
def State.layOut (s : State) (g : SlotImage) : State :=
  let (s1, last) := s.placeRegions 0 (layoutOf g)
  let top := s.ddrUsable / 2 ^ 20 - 256
  if top < last then s.haltRaise imgDdr noSection 0 0 else (s1.setRegion 8 last (top - last)).showBases

/-! ### The image's values (R343, R344, R336, R482) -/

/-- What refuses a section beyond the conditions of a commit: RAISE_MAX too short (R336), and the POLICY value 0b11 (R482). -/
def State.badLimits (s : State) (t : Nat) : Bool :=
  (t == 0x20 && decide (100 * s.fld R.IMG_RAISE_CFG_RAISE_MAX < 10 * s.fld R.IMG_RAISE_CFG_P4_WAIT + s.fld R.IMG_RAISE_CFG_P5_MAX + 200))
    || (t == 0x22 && s.fld R.TLY_TAMP_CFG_POLICY == 3)

/-- A configuration section takes effect (R343, R344, R352): every value staged and active, then every condition on the registers that its
type may name checked, with what earlier sections and the reset values give. A bad record halts raising with CFG, a condition that fails
with COMMIT, which names no section where the image has none of the type. -/
def State.applySection (s : State) (g : SlotImage) (t : Nat) : State :=
  if s.flag R.IMG_RAISE_HALTED then s
  else
    let sec := (g.ofType t).head?
    let rs := (sec.map (fun i => cfgRecords (g.content i))).getD []
    match (List.range rs.length).find? (fun k => (rs[k]?.map (badRecord t)).getD true) with
    | some k => s.haltRaise imgCfg (sec.getD noSection) 0 k
    | none =>
      let v := recordValues rs
      let bad := (s.imageFailures v).any (sectionAllows t)
      let s1 := ((s.unstage v).takeValues v).placeFpouts
      if bad || s1.badLimits t then s1.haltRaise imgCommit (sec.getD noSection) 0 0 else s1

/-- The sections of some types take effect, in order. -/
def State.applySections (s : State) (ts : List Nat) : State :=
  match s.raise.image with
  | some g => ts.foldl (fun t k => t.applySection g k) s
  | none => s

/-! ### The end of P2 (R343, R353, R358, R361, R362) -/

/-- P3 begins: the mailbox bank is clear again, CFG_CORE takes effect, the joiners' banks hold the firmware, and the tally's raising record is
written (R333, R343, R348, R472). -/
def State.startP3 (s : State) (g : SlotImage) (slot : Nat) : State :=
  let s1 := ((s.enterPhase 3).clearRange 0x10280000 0x10380000).applySections [0x23]
  let s2 := (List.range 5).foldl (fun t i => t.loadBank i g.code) s1
  s2.tallyAdd tallyRaise 0 0 ([slot, 0, 0, 0] ++ bytes4 (s2.fld R.IMG_PHASE_TIME_TIME 7))

/-- The registers of the running image (IMG_RUN, IMG_RUN_VER, IMG_FW_VER). -/
def State.showRun (s : State) (g : SlotImage) (slot : Nat) (staged fallback trial : Bool) : State :=
  let s1 := ((s.setFld R.IMG_RUN_SLOT 0 slot).setFlag R.IMG_RUN_STAGED 0 staged).setFld R.IMG_RUN_FW_SLOT 0 slot
  let s2 := ((s1.setFlag R.IMG_RUN_FALLBACK 0 fallback).setFlag R.IMG_RUN_TRIAL 0 trial).setFld R.IMG_RUN_KEY_SLOT 0 g.keySlot
  let s3 := ((s2.setFlag R.IMG_RUN_ENC 0 g.enc).setFld R.IMG_RUN_SVN 0 g.svn).setFld R.IMG_RUN_VER_VERSION 0 g.version
  (s3.showFw g).updRaise (fun r => { r with image := some g })

/-- An image has passed every check: DDR5 is laid out, the sections of the end of P2 take effect, and P3 begins (R343, R430). -/
def State.endP2 (s : State) (g : SlotImage) (slot : Nat) (staged fallback trial : Bool) : State :=
  let s1 := ((s.showRun g slot staged fallback trial).updRaise (fun r => { r with baseDone := false, stepped := false })).layOut g
  let s2 := s1.applySections [0x20, 0x21, 0x22]
  if s2.flag R.IMG_RAISE_HALTED then s2 else s2.startP3 g slot

/-- IMG_SLOTs_STAT and IMG_SLOTs_VER after a verification of slot `k`, `code` 0 where every check passed (R361, R365). -/
def State.showSlot (s : State) (k : Nat) (g : SlotImage) (code : Nat) : State :=
  let s1 := ((s.setFlag R.IMG_SLOTs_STAT_CHECKED k true).setFlag R.IMG_SLOTs_STAT_VALID k (code == 0)).setFld R.IMG_SLOTs_STAT_CODE k code
  let s2 := ((s1.setFlag R.IMG_SLOTs_STAT_ENC k g.enc).setFld R.IMG_SLOTs_STAT_KEY_SLOT k g.keySlot).setFld R.IMG_SLOTs_STAT_SVN k g.svn
  (s2.setFld R.IMG_SLOTs_VER_VERSION k g.version).updRaise (fun r => { r with slots := r.slots.put k g })

/-- A raising that begins with TRIAL = 1 rewrites the boot record before P3 (R362). -/
def State.startTrial (s : State) (pref : Nat) : State := if s.tally.boot.trial = 1 then s.setBoot (1 - pref) 0 else s

/-- The slot that P2 tries next, whether it is the second, and whether it is on trial (R361, R362). -/
def State.nextSlot (s : State) : Nat × Bool × Bool :=
  match s.raise.tried with
  | [] => (s.tally.boot.pref, false, s.tally.boot.trial == 1)
  | p :: _ => (1 - p, true, false)

/-- The bytes fetched lie in the staging region once DDR5 has trained, and the first 1 MB in the mailbox bank before (R348, R413). -/
def State.stageImage (s : State) (g : SlotImage) : State :=
  if s.ddrTrained then s.writeBytes (s.fld R.IMG_STAGE_BASE_BASE) g.bytes
  else (s.clearRange 0x10280000 0x10380000).writeBytes 0x10280000 (g.bytes.take 0x100000)

/-- A slot has been verified (R340, R348, R358, R361, R362): the slot tried is reported; where it passes P2 ends with it, where it fails the other
slot is tried next, and after the second raising halts. It cannot pass before DDR5 has trained. -/
def State.slotVerified (s : State) (img : ImageBytes) : State :=
  if !(s.raising && s.phase == 2) then s
  else
    let g := s.imageOf img
    let (k, second, trial) := s.nextSlot
    match s.imageFault g s.slotRoom with
    | none =>
      if !s.ddrTrained then s.stageImage g
      else
        let s1 := ((s.startTrial k).setFld R.IMG_RAISE_SLOT 0 k).showSlot k g 0
        let s2 := (s1.updRaise (fun r => { r with tried := r.tried ++ [k] })).stageImage g
        let s3 := (s2.latchIf second R.IMG_EVT_FALLBACK).latchIf trial R.IMG_EVT_TRIAL_START
        s3.endP2 g k false second trial
    | some (code, sect) =>
      let s1 := ((s.startTrial k).setFld R.IMG_RAISE_SLOT 0 k).showSlot k g code
      let s2 := ((s1.noteFail code sect 0 0).updRaise (fun r => { r with tried := r.tried ++ [k] })).stageImage g
      let s3 := s2.tallyAdd tallyRaise 0 0 ([k, code, 0, 0] ++ bytes4 (s2.fld R.IMG_PHASE_TIME_TIME 7))
      if second then s3.haltRaise code sect 0 0 else s3

/-! ### P3 to P7 (R333, R337 to R341, R343, R405) -/

/-- JOINERS_READY (R333, R464): every joiner in service is ready; P4 begins and CFG_PLUMB takes effect. A core that failed is substituted;
with fewer than 2 left raising halts. -/
def execJoinersReady (failed : BitVec 5) (s : State) : Out :=
  .next (
    if !(s.raising && s.phase == 3) then s
    else
      let good := (List.range 5).countP (fun i => !failed.getLsbD i && !s.coreOut i)
      let s1 := ((List.range 5).filter (fun i => failed.getLsbD i)).foldl (fun t i => t.joinerFails i) s
      if good < 2 then s1.haltRaise imgMemory noSection 0 0 else (s1.enterPhase 4).applySections [0x24])

/-- The P4 wait is over: P4_WAIT × 100 ms from tick 0, or Plumb's first-acquisition step (R337). -/
def State.waitedP4 (s : State) : Bool := s.raise.stepped || decide (800 * s.fld R.IMG_RAISE_CFG_P4_WAIT ≤ s.frame)

/-- P5 begins: CFG_LANE and CFG_MATE take effect, fitting starts on every enabled lane, the burst profile is fixed, and a paired device is in
WAIT (R64, R298, R301, R343, R405). -/
def State.startP5 (s : State) : State :=
  let s1 := (s.enterPhase 5).applySections [0x25, 0x26]
  if s1.flag R.IMG_RAISE_HALTED then s1
  else
    let pair := s1.flag R.MAT_CFG_PAIR_EN
    let s2 := (s1.setFlag R.MTX_STAT_PROFILE 0 pair).setFld R.MAT_STAT_STATE 0 (if pair then mateWait else mateSolo)
    let s3 := (List.range 280).foldl (fun t n => if t.flag R.LN_FIT_CTRL_ENABLE n then t.startAttempt n else t.refreshCa n) s2
    s3.updRaise (fun r => { r with p5At := s.frame })

/-- P4_END (R64, R337): at the later of tick 64 and the end of the P4 wait. -/
def execP4End (s : State) : Out :=
  .next (if s.raising && s.phase == 4 && s.ticking && decide (64 ≤ s.frame) && s.waitedP4 then s.startP5 else s)

/-- Lane `n`, if enabled, is in SERVICE or has failed its first attempt (R338). -/
def State.laneTried (s : State) (n : Nat) : Bool :=
  !s.flag R.LN_FIT_CTRL_ENABLE n || s.inService n || !(s.lane n).freshRun || decide (0 < s.fld R.LN_FIT_STATUS_FAILS n)

/-- The image's scenes are placed one after another from the start of the scene region, which is otherwise zero, with their directory
registers (R339). The next free address is answered. -/
def State.placeScenes (s : State) (a : Nat) : List SceneSec → State × Nat
  | [] => (s, a)
  | x :: t =>
    let s1 := (s.writeBytes a x.recs).setFld R.CUT_SCNn_BASE_BASE x.num a
    let s2 := (s1.setFld R.CUT_SCNn_LEN_LEN x.num x.len).setFld R.CUT_SCNn_TRIG_LANE x.num (bits x.trig 0 8)
    ((s2.setFld R.CUT_SCNn_TRIG_DEFECTS x.num (bits x.trig 8 7)).setFld R.CUT_SCNn_TRIG_EN x.num (bit x.trig 15)).placeScenes
      (a + 16 * x.len) t

/-- The scene region as the image fills it (R339, R484); scenes beyond the region halt raising with MEMORY. -/
def State.fillScenes (s : State) (g : SlotImage) : State × Bool :=
  let lo := s.regionBase 4
  let (s1, last) := (s.zeroRange lo (lo + s.regionSize 4)).placeScenes lo g.scenes
  (s1, decide (last ≤ lo + s.regionSize 4))

/-- The base map is handed to the scribe as one change, or is empty (R339, R354). -/
def State.handBaseMap (s : State) (g : SlotImage) : State :=
  match g.baseMap with
  | .error i => s.haltRaise imgBasemap noSection 0 i
  | .ok [] => s.updRaise (fun r => { r with baseDone := true })
  | .ok recs => { s with queued := s.queued ++ [{ kind := .base, since := s.frame, recs := recs }] }

/-- P6 begins: CFG_BENT and CFG_SCARF take effect, the scenes are placed, and the base map is handed over (R339, R343). -/
def State.startP6 (s : State) : State :=
  let s1 := (s.enterPhase 6).applySections [0x27, 0x28]
  if s1.flag R.IMG_RAISE_HALTED then s1
  else match s1.raise.image with
    | none => s1.updRaise (fun r => { r with baseDone := true, p6At := s.frame })
    | some g =>
      let (s2, fits) := s1.fillScenes g
      if fits then (s2.updRaise (fun r => { r with p6At := s.frame })).handBaseMap g else s1.haltRaise imgMemory noSection 0 0

/-- P5_END (R338): every enabled lane is in SERVICE or has failed once, or P5_MAX × 10 ms have passed. -/
def execP5End (s : State) : Out :=
  .next (
    if s.raising && s.phase == 5 && ((List.range 280).all s.laneTried
        || decide (80 * s.fld R.IMG_RAISE_CFG_P5_MAX ≤ s.sinceFrame s.raise.p5At)) then s.startP6
    else s)

/-- The Device Readiness Status messages of P7: a port sends one where its link has trained and its link partner has enabled them (R341). -/
def State.sendDrs (s : State) (drs : BitVec 2) : State :=
  { s with pcie := s.pcie.mapVals (fun p c => { c with drsSent := c.training && drs.getLsbD p }) }

/-- RAISE_READY (R301, R330, R335, R339, R341): the base map change has reached DONE, or, where it is empty, a tick has followed the start of
P6: P7 begins, and what the image has configured is kept. -/
def execRaiseReady (drs : BitVec 2) (s : State) : Out :=
  .next (
    if s.raising && s.phase == 6 && s.raise.baseDone && s.frame != s.raise.p6At then
      let s1 := (s.enterPhase 7).timePhase 7
      let s2 := (s1.latchIf s.raise.retry R.IMG_EVT_RAISE_RETRY).updRaise (fun r => { r with retry := false })
      let s3 := s2.updRaise (fun r => { r with base := (List.range 65).flatMap s.appliedEntries ++ s.fieldEntries })
      ((s3.primeAll.updMate (fun m => { m with waitFrom := s.frame })).waitSees).sendDrs drs
    else s)

end Sys2Proof.Machine
end

