-- ==== Sys2Proof/Machine/ImageOps.lean ====
section
/-! DEFINITION. What a host does with the image slots: IMG_CTRL and IMG_BOOT, verification, programming, recovery, confirmation and live update
(R360, R363 to R368).
Readings and choices: DEDUCED (log entry 22). -/

namespace Sys2Proof.Machine

/-! ### IMG_OP_STAT (R364 to R367) -/

def opIdle : Nat := 0
def opDone : Nat := 2
def opFailed : Nat := 3
def opVerify : Nat := 0
def opProgram : Nat := 1
def opRecover : Nat := 2

/-- The codes of IMG_OP_STAT beyond those of R358. -/
def codeBusy : Nat := 0x1F
def codeRange : Nat := 0x1E
def codeTrial : Nat := 0x1D
def codeSlot : Nat := 0x1C

/-- An operation starts on a slot. A PROGRAM or RECOVER_GO takes the source and the length that were checked (R364, R367), whatever is
written to the registers while it runs. -/
def State.opStart (s : State) (op slot : Nat) : State :=
  let s1 := ((s.setFld R.IMG_OP_STAT_STATE 0 opBusy).setFld R.IMG_OP_STAT_OP 0 op).setFld R.IMG_OP_STAT_CODE 0 0
  (s1.setFld R.IMG_OP_STAT_PROGRESS 0 0).updRaise (fun r => { r with
    opSlot := slot, opLost := false, opSrc := s.fld R.IMG_PROG_SRC_SRC
    opLen := if op = opVerify then s.slotRoom else s.fld R.IMG_PROG_LEN_LEN })

/-- An operation is refused: OP_FAIL, with its code (R360, R364). -/
def State.opRefuse (s : State) (op code : Nat) : State :=
  (((s.setFld R.IMG_OP_STAT_STATE 0 opFailed).setFld R.IMG_OP_STAT_OP 0 op).setFld R.IMG_OP_STAT_CODE 0 code).latch R.IMG_EVT_OP_FAIL

/-- A write that finds an operation in progress has no effect but OP_FAIL and the code BUSY (R366). -/
def State.opClash (s : State) : State := (s.setFld R.IMG_OP_STAT_CODE 0 codeBusy).latch R.IMG_EVT_OP_FAIL

/-- IMG_PROG_LEN bytes at IMG_PROG_SRC lie in the staging region, aligned and of a length that fits `room` (R364). -/
def State.progRange (s : State) (room : Nat) : Bool :=
  let a := s.fld R.IMG_PROG_SRC_SRC
  let n := s.fld R.IMG_PROG_LEN_LEN
  let b := s.fld R.IMG_STAGE_BASE_BASE
  a % 4096 == 0 && n % 16 == 0 && decide (n ≤ room) && decide (b ≤ a) && decide (a + n ≤ b + 268435456)

/-- VERIFY of slot `k` (R365, R366). -/
def State.doVerify (s : State) (k : Nat) : State := if s.imgBusy then s.opClash else s.opStart opVerify k

/-- PROGRAM of slot `k` (R364, R366): not the running slot nor, outside recovery, the preferred one; its range must be right. VALID clears as
it starts. -/
def State.doProgram (s : State) (k : Nat) : State :=
  if s.imgBusy then s.opClash
  else if !s.recovery && ((!s.flag R.IMG_RUN_STAGED && s.fld R.IMG_RUN_SLOT == k) || s.tally.boot.pref == k) then s.opRefuse opProgram codeSlot
  else if !s.progRange s.slotRoom then s.opRefuse opProgram codeRange
  else (s.opStart opProgram k).setFlag R.IMG_SLOTs_STAT_VALID k false

/-- RECOVER_GO (R367): in recovery the staged image is verified; elsewhere the write has no effect. -/
def State.doRecover (s : State) : State :=
  if s.imgBusy then s.opClash
  else if !s.recovery then s
  else if !s.progRange 268435456 then s.opRefuse opRecover codeRange
  else s.opStart opRecover 0

/-- ABORT (R366): a VERIFY ends at once, a PROGRAM after the current page with its slot unverified. -/
def State.doAbort (s : State) : State :=
  if s.imgBusy && s.fld R.IMG_OP_STAT_OP != opRecover then s.setFld R.IMG_OP_STAT_STATE 0 opIdle else s

/-- CONFIRM (R363): only on trial. -/
def State.doConfirm (s : State) : State :=
  if s.flag R.IMG_RUN_TRIAL then
    ((s.setBoot (s.fld R.IMG_RUN_SLOT) s.tally.boot.trial).setFlag R.IMG_RUN_TRIAL 0 false).latch R.IMG_EVT_CONFIRMED
  else s

/-- SVN_BURN (R360): the fused minimum SVN rises to the running image's; refused while the image is on trial. -/
def State.doSvnBurn (s : State) : State :=
  let v := s.fld R.IMG_RUN_SVN
  if s.flag R.IMG_RUN_TRIAL then
    (if s.imgBusy then s.setFld R.IMG_OP_STAT_CODE 0 codeTrial
     else (s.setFld R.IMG_OP_STAT_STATE 0 opFailed).setFld R.IMG_OP_STAT_CODE 0 codeTrial).latch R.IMG_EVT_OP_FAIL
  else if v ≤ s.fld R.IMG_SVN_MIN_MIN then s
  else
    ((s.blow { s.fuses with minSvn := raiseSvn s.fuses.minSvn (BitVec.ofNat 6 v) }).setFld R.IMG_SVN_MIN_MIN 0 v).tallyAdd tallySvn 0 0 [v]

/-- A live update is refused with LIVE_FAIL and a code (R368). -/
def State.liveRefuse (s : State) (code : Nat) : State :=
  ((s.setFld R.IMG_LIVE_STAT_STATE 0 liveFailed).setFld R.IMG_LIVE_STAT_CODE 0 code).latch R.IMG_EVT_LIVE_FAIL

/-- LIVE_GO (R368): a live update from the other slot, which holds `g`. -/
def State.doLive (s : State) (g : SlotImage) : State :=
  let k := 1 - s.fld R.IMG_RUN_SLOT
  if s.liveState = liveWaiting ∨ s.liveState = liveRunning ∨ s.liveState = liveRollback then
    (s.setFld R.IMG_LIVE_STAT_CODE 0 4).latch R.IMG_EVT_LIVE_FAIL
  else if !s.flag R.IMG_SLOTs_STAT_VALID k then s.liveRefuse 1
  else if g.fwAbi ≠ s.raise.fwAbi then s.liveRefuse 2
  else if g.fwSvn < s.raise.fwSvn then s.liveRefuse 3
  else if s.imgBusy then s.liveRefuse 4
  else
    let s1 := (s.setFld R.IMG_LIVE_STAT_CODE 0 0).updRaise (fun r => { r with other := some g, updated := [] })
    if s1.joinerBusy then s1.setFld R.IMG_LIVE_STAT_STATE 0 liveWaiting else s1.liveBegin

/-- What the other slot holds, as its last verification found it. -/
def State.otherImage (s : State) : SlotImage :=
  s.raise.slots.get (1 - s.fld R.IMG_RUN_SLOT)
    {}

/-- The effect of a write of IMG_CTRL (R360, R363 to R368): none with more than one of bits 6:0 set. -/
def State.imgCtrl (s : State) (w : Nat) (other : SlotImage) : State :=
  let k := bit w 8
  let v := bits w 0 7
  if v = 1 then s.doConfirm
  else if v = 2 then s.doVerify k
  else if v = 4 then s.doProgram k
  else if v = 8 then s.doLive other
  else if v = 16 then s.doSvnBurn
  else if v = 32 then s.doRecover
  else if v = 64 then s.doAbort
  else s

/-- The effect of a write of IMG_BOOT (R361, R366). -/
def State.imgBoot (s : State) (w : Nat) : State :=
  if s.flag R.IMG_SLOTs_STAT_VALID (bit w 0) then s.setBoot (bit w 0) (bit w 1) else s.latch R.IMG_EVT_OP_FAIL

/-- The operation in progress ends with a code, 0 where it succeeds, after so many bytes. -/
def State.opEnd (s : State) (code bytes : Nat) : State :=
  ((s.setFld R.IMG_OP_STAT_STATE 0 (if code = 0 then opDone else opFailed)).setFld R.IMG_OP_STAT_CODE 0 code).setFld
    R.IMG_OP_STAT_PROGRESS 0 (bytes / 65536)

/-- What the slot of the operation in progress holds as it ends: what the flash gives, and after a PROGRAM the bytes it took from DDR5
(R364). -/
def State.programmed (s : State) (img : SlotImage) : SlotImage :=
  if s.fld R.IMG_OP_STAT_OP = opProgram then
    { img with bytes := s.readBytes s.raise.opSrc s.raise.opLen }
  else img

/-- The units of DDR5 that an operation reads which takes its bytes from there (R364, R367). -/
def State.opUnits (s : State) : List Nat :=
  if s.fld R.IMG_OP_STAT_OP = opVerify then [] else ddrUnits (s.raise.opSrc - ddrBase) s.raise.opLen

/-- The end of the operation in progress (R343, R362, R364, R365, R367): a VERIFY or PROGRAM ends with the checks of the slot, which holds
`img`, after a PROGRAM the bytes programmed; a RECOVER_GO with those of the staged bytes, from which raising goes on at P3, every register
that the image does not name at its reset value. -/
def State.imgOpDone (s0 : State) (img : ImageBytes) : State :=
  let s := s0.readUnits s0.opUnits
  if !s.imgBusy then s0
  else if s.fld R.IMG_OP_STAT_OP = opRecover then
    let n := s.raise.opLen
    let g : SlotImage := { s.imageOf img with bytes := s.readBytes s.raise.opSrc n, fetched := true, lost := s.raise.opLost }
    match s.imageFault g n with
    | some (code, _) => (s.opEnd code n).latch R.IMG_EVT_OP_FAIL
    | none =>
      let s1 := (s.opEnd 0 n).latch R.IMG_EVT_OP_DONE
      (((s1.startTrial s1.tally.boot.pref).imageDefaults.setFlag R.IMG_RAISE_HALTED 0 false).setFlag R.IMG_RAISE_RECOVERY 0 false).endP2
        g 0 true false false
  else
    let k := s.raise.opSlot
    let lost := s.raise.opLost && s.fld R.IMG_OP_STAT_OP == opProgram
    let g := s.programmed (s.imageOf img)
    let code := ((s.imageFault { g with lost := lost } s.slotRoom).map (·.1)).getD 0
    let s1 := s.showSlot k g code
    if s.fld R.IMG_OP_STAT_OP = opVerify then (s1.opEnd code g.length).latch R.IMG_EVT_OP_DONE
    else (s1.opEnd code s.raise.opLen).latch (if code = 0 then R.IMG_EVT_OP_DONE else R.IMG_EVT_OP_FAIL)

end Sys2Proof.Machine
end

