-- ==== Sys2Proof/Machine/Events.lean ====
section
/-! DEFINITION. Where latched events go: the event rings and the event log, MSI-X, and the configuration space of the PCIe ports (R341, R373,
R396 to R399).
Readings and choices: DEDUCED (log entry 33). -/

namespace Sys2Proof.Machine

/-! ### The event rings and the event log (R396, R397) -/

/-- The four words of an event record (R396). -/
def EvRec.words (r : EvRec) : List Nat :=
  [r.frame % 2 ^ 32, r.cycle + r.bit * 2 ^ 18 + r.island * 2 ^ 24, r.inst, r.data % 2 ^ 32]

/-- `s` with the words of a record at an address. -/
def State.writeRec (s : State) (a : Nat) (r : EvRec) : State :=
  s.writeBytes a (r.words.flatMap (leBytes 4))

/-- Record `a` goes before `b` among those of one core cycle: island code, then instance, then bit (R396). -/
def recBefore (a b : EvRec) : Bool :=
  decide (a.island < b.island) || (a.island == b.island
    && (decide (a.inst < b.inst) || (a.inst == b.inst && decide (a.bit < b.bit))))

/-- The record that is written next: of those latched in the core cycle of the oldest, the first in the order of R396. -/
def nextRec : List EvRec → Option EvRec
  | [] => none
  | r :: t => some ((t.filter (fun x => x.frame == r.frame && x.cycle == r.cycle)).foldl
      (fun b x => if recBefore x b then x else b) r)

/-- The first address of the ring of port `p` (R397). -/
def ringBase (p : Nat) : Nat := 0x10280000 + p * 0x10000

/-- A record is written to the ring of port `p`, or discarded where the ring is full (R397). -/
def State.ringWrite (s : State) (p : Nat) (r : EvRec) : State :=
  let h := s.fld R.MGT_PORTp_RING_HEAD_HEAD p
  if (h + 1) % 4096 = s.fld R.MGT_PORTp_RING_TAIL_TAIL p then
    (s.satFld R.MGT_PORTp_RING_DROP_COUNT p 1).latchFor R.MGT_EVT_RING_OVF p
  else (s.writeRec (ringBase p + 16 * h) r).setFld R.MGT_PORTp_RING_HEAD_HEAD p ((h + 1) % 4096)

/-- EVENT_RECORD (R396, R397): the record next in order goes to the ring of every port that has one. -/
def execEventRecord (s : State) : Out :=
  .next (
    match nextRec s.ringQ with
    | none => s
    | some r =>
      ((List.range 4).filter (fun p => s.flag R.MGT_PORTp_CFG_RING_EN p)).foldl (fun t p => t.ringWrite p r)
        { s with ringQ := s.ringQ.erase r })

/-- The records that the event log holds (R397). -/
def eventLogRecords : Nat := 2 ^ 20

/-- EVENT_LOG_RECORD (R397): the oldest record that waits goes to the log in DDR5, over the oldest when the log is full. There is no log
before the layout of DDR5 gives its place. -/
def execEventLogRecord (s : State) : Out :=
  .next (
    match s.logQ with
    | [] => s
    | r :: rest =>
      let b := s.fld R.MGT_LOG_BASE_BASE
      let k := s.fld R.MGT_LOG_IDX_NEXT
      if b = 0 then s
      else
        let s1 := (({ s with logQ := rest }).writeRec (b + 16 * k) r).setFld R.MGT_LOG_IDX_NEXT 0 ((k + 1) % eventLogRecords)
        if k + 1 = eventLogRecords then s1.setFlag R.MGT_LOG_IDX_WRAPPED 0 true else s1)

/-! ### MSI-X and INTN (R398, R399) -/

/-- The event ring of port `p` is not empty. -/
def State.ringFull (s : State) (p : Nat) : Bool := s.fld R.MGT_PORTp_RING_HEAD_HEAD p != s.fld R.MGT_PORTp_RING_TAIL_TAIL p

/-- The condition of vector `v` of port `p` (R398). -/
def State.vectorHolds (s : State) (p v : Nat) : Bool :=
  if v = 0 then s.ringFull p
  else if v ≤ 14 then s.islandPending (v - 1)
  else if 16 ≤ v ∧ v ≤ 24 then s.lanePending (fun n => n / 32 == v - 16)
  else if v = 25 then s.bentPending (fun _ => true)
  else if v = 26 then s.groupPending (fun _ => true)
  else false

/-- The PCIe state of port `p` changed by `f`. -/
def State.updPcie (s : State) (p : Nat) (f : Pcie → Pcie) : State := { s with pcie := s.pcie.put p (f (s.pcie.get p {})) }

/-- A dword of an MSI-X table: each vector is masked until a write unmasks it, as PCI Express has it. -/
def Pcie.tableWord (c : Pcie) (k : Nat) : Nat := c.table.get k (if k % 4 = 3 then 1 else 0)

/-- Vector `v` is masked, by its own mask or the function's. -/
def Pcie.masked (c : Pcie) (v : Nat) : Bool := c.msixMask || bit (c.tableWord (4 * v + 3)) 0 == 1

/-- The message of vector `v` is sent: its address and data stand in the table. -/
def Pcie.send (c : Pcie) (v : Nat) : Pcie :=
  { c with sent := some (c.tableWord (4 * v) + c.tableWord (4 * v + 1) * 2 ^ 32, c.tableWord (4 * v + 2))
           pba := if c.pba.testBit v then c.pba - 2 ^ v else c.pba }

/-- Vector `v` is called for: sent, or where it is masked its pending bit is set; nothing while MSI-X is disabled (R398). -/
def Pcie.call (c : Pcie) (v : Nat) : Pcie :=
  if !c.msixOn then c else if c.masked v then { c with pba := orBit c.pba v } else c.send v

/-- Every pending vector that is no longer masked is sent (R398). -/
def Pcie.flush (c : Pcie) : Pcie :=
  (List.range 64).foldl (fun c v => if c.msixOn && c.pba.testBit v && !c.masked v then c.send v else c) c

/-- MSIX_SEND (R398): the vector's condition changes from false to true. Until P7 no message is sent (R341). -/
def execMsixSend (p : Fin 2) (v : Fin 64) (s : State) : Out :=
  .next (
    s.updPcie p.val (fun c =>
      if !s.vectorHolds p.val v.val then { c with seen := if c.seen.testBit v.val then c.seen - 2 ^ v.val else c.seen }
      else if c.seen.testBit v.val then c
      else
        let c1 := { c with seen := orBit c.seen v.val }
        if s.served then c1.call v.val else c1))

/-- After a write that can end conditions: a vector whose condition no longer holds has none seen (R398). -/
def State.seeConditions (s : State) : State :=
  (List.range 2).foldl (fun t p =>
    let c := t.pcie.get p {}
    if c.seen = 0 then t
    else t.updPcie p (fun c => { c with seen := bitsOf 64 (fun v => c.seen.testBit v && t.vectorHolds p v) })) s

/-- The effect of a write of MGT_PORTp_EOI: the vector is sent again where its condition still holds (R398). -/
def State.portEoi (s : State) (p w : Nat) : State :=
  let v := bits w 0 6
  if p < 2 && s.served && s.vectorHolds p v then s.updPcie p (fun c => c.call v) else s

/-- A write of dword `k` of the MSI-X table of port `p` (R373, R376). -/
def State.writeMsix (s : State) (p k w : Nat) : State :=
  let v := if k % 4 = 0 then w - w % 4 else if k % 4 = 3 then w % 2 else w
  s.updPcie p (fun c => ({ c with table := c.table.put k v }).flush)

/-! ### Configuration requests (R341, R373) -/

/-- The bits that a write of the low dword of a base address register changes: above the size of the BAR (R373). -/
def barBits (size : Nat) : Nat := if size < 32 then 2 ^ 32 - 2 ^ size else 0

/-- The size of the BAR at a dword of the header, as a power of 2: BAR0 256 MB, BAR2 4 GB, BAR4 16 MB (R373). -/
def barSize (d : Nat) : Option Nat := if d = 4 then some 28 else if d = 6 then some 32 else if d = 8 then some 24 else none

/-- A dword of the configuration space of port `p` (R373): its identity, class code, BARs and Interrupt Pin; what else PCI Express puts
there the manual does not give (PRESUMED: log entry 14). -/
def State.cfgRead (s : State) (p d : Nat) : Nat :=
  let v := (s.pcie.get p {}).cfg.get d (Config.cfgSpace d % 2 ^ 32)
  if d = 0 then 0x3236 * 2 ^ 16 + Config.cfgSpace 0 % 2 ^ 16
  else if d = 2 then 0x0B4000 * 2 ^ 8 + s.fld R.DEV_ID_REV
  else if d = 15 then putBits v 8 8 0
  else match barSize d with
    | some n => Nat.land ((s.pcie.get p {}).cfg.get d 0) (barBits n) + 4
    | none => if d = 5 ∨ d = 7 ∨ d = 9 then (s.pcie.get p {}).cfg.get d 0 else v

/-- The MSI-X capability (R373): Message Control of 64 vectors, and the places of the table and of the PBA in BAR4. -/
def Pcie.msixCap (c : Pcie) : List Nat :=
  [63 + b2n c.msixMask * 2 ^ 14 + b2n c.msixOn * 2 ^ 15, 0xE0000 + 4, 0xE1000 + 4]

/-- Device Control's Max_Payload_Size and Max_Read_Request_Size, as PCI Express lays them out (R373; PRESUMED: log entry 14). -/
def Pcie.deviceControl (c : Pcie) : Nat := c.mps * 2 ^ 5 + c.mrrs * 2 ^ 12

/-- What a write leaves in a dword: a BAR takes the value; which bits of another can be written PCI Express says (PRESUMED: log entry 14). -/
def State.cfgWrite (s : State) (p d w : Nat) : State :=
  let own := decide (4 ≤ d) && decide (d ≤ 9)
  let v := if own then w else Config.open' s.free % 2 ^ 32
  let s1 := s.updPcie p (fun c => { c with cfg := c.cfg.put d v })
  if own then s1 else s1.drawn

/-- PCIE_CONFIG_REQUEST (R341, R373): before P7 it is answered with Configuration Request Retry Status. -/
def execPcieConfigRequest (p : Fin 2) (r : CfgRequest) (s : State) : Out :=
  .next (
    if !s.served && !s.recovery then s.answer .notReady []
    else match r with
      | .read d => s.answer .ok [s.cfgRead p.val d.val]
      | .write d w => (s.cfgWrite p.val d.val w.toNat).answer .ok []
      | .msix on mask => (s.updPcie p.val (fun c => ({ c with msixOn := on, msixMask := mask }).flush)).answer .ok []
      | .msixRead => s.answer .ok (s.pcie.get p.val {}).msixCap
      | .sizes mps mrrs =>
        -- at most 256 and 512 bytes, codes 1 and 2 (R373)
        (s.updPcie p.val (fun c => { c with mps := min 1 mps.val, mrrs := min 2 mrrs.val })).answer .ok []
      | .sizesRead => s.answer .ok [(s.pcie.get p.val {}).deviceControl]
      | .aerRead => s.answer .ok [(s.pcie.get p.val {}).aer]
      | .aerClear w => (s.updPcie p.val (fun c => { c with aer := Nat.land c.aer (Nat.xor (2 ^ 32 - 1) w.toNat) })).answer .ok [])

end Sys2Proof.Machine
end

