-- ==== Sys2Proof/Machine/Latency.lean ====
section
/-! DEFINITION. How long a word takes: R37, and the latency query engine (R42, R43). -/

namespace Sys2Proof.Machine

/-- The lane-frame word index of a slot (R27). -/
def wordIndex (slot : Nat) : Nat := slot / 1024 * 1152 + 16 + slot % 1024

/-- L of R37 in symbols: from the word of slot address `src` to that of `out`, with the phases and the deskew. -/
def latencyOf (phi psi : Int) (d src out : Nat) : Int :=
  2 * (frameSymbols : Int) + psi - phi + frameSymbols * d
    + 18 * ((wordIndex (slotOfAddr out) : Int) - wordIndex (slotOfAddr src))

/-- φ of the lane that carries a source: what LN_RX_PHASE of the source's lane holds (R42, R44, R83). -/
def State.phiOf (s : State) (src : Nat) : Int := s.ifld R.LN_RX_PHASE_PHASE (portOfAddr src)

/-- The output lane of a slot address sends traffic frames: its TX_VALID is 1 (R42, R44, R71). -/
def State.outUp (s : State) (out : Nat) : Bool := s.flag R.LN_PHASE_STAT_TX_VALID (s.carrier (portOfAddr out))

/-- ψ of the output lane: 2,389 core cycles where it sends no traffic (R34, R42). -/
def State.psiOf (s : State) (out : Nat) : Int :=
  if s.outUp out then s.ifld R.LN_TX_PHASE_PHASE (s.carrier (portOfAddr out)) else psiSystem

/-- The source of a side of an output slot (R42). -/
def Route.side (r : Route) (side : Nat) : Option Nat := r.sources[side]?

/-- DEV_LATQ_STATUS.STATE. -/
def latqBusy : Nat := 1
def latqDone : Nat := 2

/-- The effect of a write of DEV_LATQ_CTRL by master `m` (R42): a query starts for the first frame that begins after it, unless one is in
progress. -/
def State.latqCtrl (s : State) (m w : Nat) : State :=
  if bit w 31 = 0 || s.fld R.DEV_LATQ_STATUS_STATE = latqBusy then s
  else
    let s1 := ((s.setFld R.DEV_LATQ_STATUS_STATE 0 latqBusy).setFld R.DEV_LATQ_STATUS_MASTER 0 m).addFld R.DEV_LATQ_STATUS_QSEQ 0 1
    s1.setFld R.DEV_LATQ_FRAME_FRAME 0 (s.frame + 1)

/-- The result of a query that finds a source (R42): SRC_DOWN, PLESIO, OUT_DOWN or OK, and L with each condition that holds applied. -/
def State.latqAnswer (s : State) (sc : Schedule) (out src : Nat) : State :=
  let p := portOfAddr src
  let sync := s.flag R.LN_FRM_CFG_SYNC p
  let phi := s.phiOf src
  let d := sc.deskew src
  let result := if !s.inService (s.carrier p) then 3 else if !sync then 4 else if !s.outUp out then 5 else 0
  let s1 := ((s.setFld R.DEV_LATQ_STATUS_RESULT 0 result).setFld R.DEV_LATQ_SRC_SRC 0 src).setIfld R.DEV_LATQ_LAT_LAT 0
    (latencyOf phi (s.psiOf out) d src out)
  let s2 := (s1.setFld R.DEV_LATQ_PARTS_DESKEW 0 d).setFlag R.DEV_LATQ_PARTS_LONG 0 (decide (2 ≤ d))
  (s2.setFlag R.DEV_LATQ_PARTS_SYNC_IN 0 (sync && decide (phi.natAbs ≤ 10368))).setFlag R.DEV_LATQ_PARTS_SYS_OUT 0
    (!s.flag R.LN_TX_STAT_TIMING_ACT (s.carrier (portOfAddr out)))

/-- The result of a query that finds no source: the LAT registers read 0, and SYS_OUT shows the output lane's timing. What the registers
of a source show is not stated (R42; DESIGN CHOICE: log entry 8). -/
def State.latqNone (s : State) (out result : Nat) : State :=
  let v := Config.open' s.free
  let s1 := ((s.drawn.setFld R.DEV_LATQ_STATUS_RESULT 0 result).setFld R.DEV_LATQ_SRC_SRC 0 v).setFld R.DEV_LATQ_LAT_LAT 0 0
  let s2 := ((s1.setFld R.DEV_LATQ_PARTS_DESKEW 0 (v / 2 ^ 25)).setFld R.DEV_LATQ_PARTS_LONG 0 (v / 2 ^ 37)).setFld
    R.DEV_LATQ_PARTS_SYNC_IN 0 (v / 2 ^ 38)
  s2.setFlag R.DEV_LATQ_PARTS_SYS_OUT 0 (!s.flag R.LN_TX_STAT_TIMING_ACT (s.carrier (portOfAddr out)))

/-- LATQ_DONE (R42, R43): the query in progress is answered from the schedule of its frame, once that frame has begun, for the SLOT and SIDE
that DEV_LATQ_CTRL holds then: a write with GO = 0 while it is BUSY changes what is answered (DESIGN CHOICE: log entry 63). -/
def execLatqDone (s : State) : Out :=
  .next (
    if s.fld R.DEV_LATQ_STATUS_STATE ≠ latqBusy || !frameReached s.frame (s.fld R.DEV_LATQ_FRAME_FRAME) then s
    else
      let out := s.fld R.DEV_LATQ_CTRL_SLOT
      let side := s.fld R.DEV_LATQ_CTRL_SIDE
      let sc := s.schedAt (s.fld R.DEV_LATQ_FRAME_FRAME)
      let s1 := s.setFld R.DEV_LATQ_STATUS_STATE 0 latqDone
      match sc.map.find out with
      | none => s1.latqNone out 1
      | some r =>
        match r.side side with
        | none => s1.latqNone out 2
        | some src => s1.latqAnswer sc out src)

end Sys2Proof.Machine
end

