-- ==== Sys2Proof/Machine/Counters.lean ====
section
/-! DEFINITION. Clears, the commands of snapshots, and the archive (R439, R447 to R450).
Readings and choices: DEDUCED (log entry 34), DEDUCED (log entry 35). -/

namespace Sys2Proof.Machine

/-! ### The fixed counters (R439) -/

/-- The populated runs of J: the first index of the first run, how long a run is, the step to the next, and how many runs. -/
def fixedRuns : List (Nat × Nat × Nat × Nat) :=
  [(0x10000, 6, 8, 280), (0x10900, 2, 8, 1), (0x10908, 6, 8, 1), (0x10910, 2, 8, 1), (0x10918, 3, 8, 1), (0x40000, 262144, 262144, 1)]

/-- Every index from `first`, `count` of them, is populated. -/
def runPopulated (first count : Nat) : Bool :=
  fixedRuns.any (fun r =>
    let k := (first - r.1) / r.2.2.1
    decide (r.1 ≤ first) && decide (k < r.2.2.2) && decide (first + count ≤ r.1 + k * r.2.2.1 + r.2.1))

/-- The counter of a fixed index. -/
def fixedAt (j : Nat) : Option (Fld × Nat) :=
  fixedFamilies.findSome? (fun e =>
    if e.base ≤ j ∧ j < e.base + e.step * e.count ∧ (j - e.base) % e.step = 0 then some (e.fld, (j - e.base) / e.step) else none)

/-! ### Clears (R447) -/

/-- A range of a clear names only what R439 populates. A COUNT of 0 names nothing. -/
def clearable (kind first count : Nat) : Bool :=
  if kind = 0 then count == 0 || runPopulated first count
  else if kind = 1 then decide (first + count ≤ 16384)
  else if kind = 2 then decide (first + count ≤ 64) else false

/-- The effect of a write of CNT_CLR_CTRL (R447). -/
def State.clearCtrl (s : State) (w : Nat) : State :=
  let count := bits w 0 19
  let kind := bits w 19 2
  if bit w 31 = 0 then s
  else if s.clear.isSome || !clearable kind (s.fld R.CNT_CLR_FIRST_FIRST) count then s.latch R.CNT_EVT_CLR_REFUSED
  else
    { s with clear := some { tick := frameAdd s.frame 1, kind := kind, first := s.fld R.CNT_CLR_FIRST_FIRST, count := count } }.setFld
      R.CNT_STAT_CLR_PENDING 0 1

/-- What a clear makes 0. -/
def State.clearRun (s : State) (kind first count : Nat) : State :=
  (List.range count).foldl (fun t k =>
    if kind = 0 then
      (match fixedAt (first + k) with
        | some (f, i) => t.setFld f i 0
        | none => t)
    else if kind = 1 then t.zeroBank (first + k) else t.clearHist (first + k)) s

/-- COUNTER_CLEAR (R447, R449): at tick T, after the copy of a snapshot at T, the named counters become 0 and CLR_DONE is latched. -/
def execCounterClear (s : State) : Out :=
  .next (State.stampTick (
    match s.clear with
    | none => s
    | some c =>
      if !frameReached s.frame c.tick then s
      else
        ((({ s.snapNow with clear := none }.clearRun c.kind c.first c.count).setFld R.CNT_STAT_CLR_PENDING 0 0).latch
          R.CNT_EVT_CLR_DONE).settleTick) s)

/-! ### Snapshots (R448, R449) -/

/-- The effect of a write of CNT_SNAP (R448): a snapshot at the next tick. -/
def State.snapCtrl (s : State) (w : Nat) : State :=
  if bit w 0 = 0 then s else { s with snapAt := some (frameAdd s.frame 1) }.setFld R.CNT_STAT_SNAP_PENDING 0 1

/-- SNAPSHOT (R448 to R450). -/
def execSnapshot (s : State) : Out := .next (s.snapNow.settleTick.stampTick s)

/-! ### The archive (R450) -/

/-- The entries that the archive holds: 64 for each 16 MB (R450). -/
def State.archiveSize (s : State) : Nat := s.fld R.DDR_CFG_HIST_16M * 64

/-- ARCHIVE_WRITE (R450): M10 writes the oldest entry that waits, of 65,536 words, over the oldest of a full ring. An archive of no size keeps none. -/
def execArchiveWrite (s : State) : Out :=
  .next (
    match s.archive with
    | [] => s
    | e :: rest =>
      let s1 := { s with archive := rest }
      let n := s.archiveSize
      if n = 0 then s1
      else
        let k := s.fld R.CNT_ARCH_IDX_NEXT
        let a := s.regionBase 6 + 262144 * k
        let s2 := (e.words.entries.filter (fun x => decide (x.1 < 65536))).foldl (fun t x => t.writeLe (a + 4 * x.1) 4 x.2)
          (s1.zeroRange a (a + 262144))
        let s3 := s2.setFld R.CNT_ARCH_IDX_NEXT 0 ((k + 1) % n)
        if k + 1 = n then s3.setFlag R.CNT_ARCH_IDX_WRAPPED 0 true else s3)

end Sys2Proof.Machine
end

