-- ==== Sys2Proof/Machine/Ddr.lean ====
section
/-! DEFINITION. DDR5 in service: retraining, patrol and rebuilding (R426, R434 to R436).
Readings and choices: DEDUCED (log entry 38). -/

namespace Sys2Proof.Machine

/-- Channel `n` is in a state, which DDR_STAT.ONLINE follows. -/
def State.setChState (s : State) (n st : Nat) : State :=
  let s1 := s.setFld R.DDR_CHn_STAT_STATE n st
  s1.setFld R.DDR_STAT_ONLINE 0 (bitsOf 8 (fun k => s1.chState k == chOnline))

/-- The DDR5 controller changed by `f`. -/
def State.updDdr (s : State) (f : Ddr → Ddr) : State := { s with ddr := f s.ddr }

/-! ### What a channel holds (R426 to R428) -/

/-- The plain value of unit `u`, its bytes little-endian, and its ciphertext: XTS-AES-128 under the two keys in force, with the unit index as its
tweak (R427). -/
def State.unitValue (s : State) (u : Nat) : Nat := s.readLe (ddrBase + 64 * u) 64

@[inherit_doc State.unitValue]
def State.unitCipher (s : State) (u : Nat) : BitVec 512 := 
  xts64 (Config.ddrKey s.ddr.keys 0) (Config.ddrKey s.ddr.keys 1) u (s.unitValue u)

/-- The 64 bytes that channel `n` holds at its local unit `st`, as ciphertext: a unit, or the XOR of the stripe's seven (R427, R428). -/
def State.channelBurst (s : State) (n st : Nat) : BitVec 512 :=
  match channelUnit n st with
  | some u => s.unitCipher u
  | none => (List.range 7).foldl (fun x k => x ^^^ s.unitCipher (7 * st + k)) 0

/-- Channel `n` is taken OFFLINE: what is written to its units from now on is to be rebuilt (R434). -/
def State.takeOffline (s : State) (n : Nat) : State :=
  (s.setChState n chOffline).updDdr (fun d => { d with offMem := some s.mem, offLong := s.longMem })

/-- The units that writes have changed since memory and long path were `old` and `oldLong`. -/
def State.unitsWritten (s : State) (old : List Host.Cell) (oldLong : Tab (Tab Nat)) : List Nat :=
  let changed := (s.mem.filter (fun c => !old.contains c)) ++ (old.filter (fun c => !s.mem.contains c))
  let copies := s.longMem.entries.flatMap (fun e =>
    (e.2.entries.filter (fun c => (oldLong.get e.1 {}).find c.1 != some c.2)).flatMap (fun c => s.longUnits e.1 c.1))
  (changed.filter (fun c => decide (ddrBase ≤ c.1))).map (fun c => ddrUnit (c.1 - ddrBase)) ++ copies

/-- The rebuild map: the stripes in which writes since the OFFLINE channel was taken have changed its unit, a data unit or the parity unit
(R428, R434). -/
def State.rebuildMap (s : State) : List Nat :=
  match s.ddr.offMem with
  | none => []
  | some old =>
    ((s.unitsWritten old s.ddr.offLong).filter (fun u =>
      s.chState (unitChannel u) == chOffline || s.chState (parityChannel (ddrStripe u)) == chOffline)).map ddrStripe |>.eraseDups

/-! ### Retraining (R434, R435) -/

/-- A channel is OFFLINE or DOWN (R434). -/
def State.chMissing (s : State) : Bool := (List.range 8).any s.chGone

/-- A retraining of channel `n` is called for (R434): refused where it is DOWN; it waits while another is OFFLINE or DOWN. -/
def State.retrain (s : State) (n : Nat) : State :=
  if s.chState n = chDown then s.latch R.DDR_EVT_RETRAIN_REFUSED
  else if s.chState n ≠ chOnline then s
  else if s.chMissing then
    s.updDdr (fun d => if d.waiting.contains n then d else { d with waiting := d.waiting ++ [n] })
  else s.takeOffline n

/-- The effect of a write of DDR_CHn_CTRL (R434). -/
def State.retrainCtrl (s : State) (n w : Nat) : State := if bit w 0 = 1 then s.retrain n else s

/-- The corrected bursts of channel `n` exceed RETRAIN_CORR in one second (R434). -/
def State.tooMany (s : State) (n : Nat) : Bool :=
  let lim := 1024 * s.fld R.DDR_CFG_RETRAIN_CORR
  decide (0 < lim) && (decide (lim < s.ddr.second.get n 0) || decide (lim < s.ddr.lastSecond.get n 0))

/-- The temperature of channel `n` has moved 20 °C since its last training (R434). -/
def State.tempMoved (s : State) (n t : Nat) : Bool :=
  let was := s.fld R.DDR_CHn_STAT_TEMP n
  decide (was + 20 ≤ t) || decide (t + 20 ≤ was)

/-- The request that has waited longest is taken, once no channel is missing (R434). -/
def State.nextRetrain (s : State) : State :=
  match s.ddr.waiting with
  | [] => s
  | n :: rest => if s.chMissing then s else (s.updDdr (fun d => { d with waiting := rest })).takeOffline n

/-- DDR_RETRAIN_DONE (R434, R435): training of the OFFLINE channel ends; the units of the rebuild map are rebuilt, and the map is empty again. At
the second failure in a row the channel is DOWN. -/
def execDdrRetrainDone (ok : Bool) (temp : BitVec 8) (s : State) : Out :=
  .next (
    match (List.range 8).find? (fun n => s.chState n == chOffline) with
    | none => s
    | some n =>
      let s1 := s.satFld R.DDR_CHn_STAT_TRAINS n 1
      if ok then
        let s2 := ((s1.setChState n chOnline).setFld R.DDR_CHn_STAT_TEMP n temp.toNat).updDdr (fun d => { d with fails := d.fails.del n, offMem := none, offLong := {} })
        (s2.latch R.DDR_EVT_RETRAINED).nextRetrain
      else
        let k := s.ddr.fails.get n 0 + 1
        let s2 := s1.updDdr (fun d => { d with fails := d.fails.put n k })
        if 2 ≤ k then ((s2.setChState n chDown).latch R.DDR_EVT_DDR_DOWN).tallyAdd tallyDdrDown 0 0 [n] else s2)

/-- Bursts of channel `n` are corrected (R426, R434). -/
def State.corrected (s : State) (n k : Nat) : State :=
  ((s.satFld R.DDR_CHn_CORR_COUNT n k).addFld R.DDR_CNT_COUNT 0 k).updDdr (fun d => { d with second := d.second.put n (d.second.get n 0 + k) })

/-- DDR_PATROL (R426, R436): the patrol corrects bursts of channel `n`. -/
def execDdrPatrol (n : Fin 8) (corrected : Nat) (s : State) : Out :=
  .next (if s.chState n.val ≠ chOnline then s else s.corrected n.val corrected)

/-- A second of corrected bursts ends (R434; DEDUCED: log entry 38). -/
def State.tickDdr (s : State) : State :=
  if s.frame % 8000 = 0 then s.updDdr (fun d => { d with second := {}, lastSecond := d.second }) else s

/-- Unit `u` is lost: counted, with DDR_LOSS, and the words of the long path in it cannot be read back (R171, R426). -/
def State.loseUnit (s : State) (u : Nat) : State :=
  let s1 := (s.addFld R.DDR_CNT_COUNT 2 1).latch R.DDR_EVT_DDR_LOSS
  { s1 with longMem := s1.longMem.mapVals (fun q t => t.keep (fun n _ => !(s.longUnits q n).contains u)) }

/-- Unit `u`, in which a read finds an error, cannot be rebuilt: with another channel of its stripe missing, none can (R426). -/
def State.unitLost (s : State) (u : Nat) (o : UnitOutcome) : Bool := o == .lost || (o == .rebuilt && !s.rebuildable u)

/-- What the error of unit `u` counts and latches (R426); a unit of a channel that is OFFLINE or DOWN is counted as it is read (R434). -/
def State.unitFound (s : State) (u : Nat) (o : UnitOutcome) : State :=
  if s.unitLost u o then s.loseUnit u
  else if s.chGone (unitChannel u) then s
  else match o with
    | .corrected => s.corrected (unitChannel u) 1
    | _ => s.addFld R.DDR_CNT_COUNT 1 1

/-- DDR_UNIT_REBUILD (R426, R434, R436): a read finds an error in a unit. A master has what it reads, in whatever form, corrected or rebuilt, or an
error where the unit is lost; the patrol counts as it does; a word of the long path in a lost unit is presented as one that does not come back in time (R171). -/
def execDdrUnitRebuild (r : UnitReader) (x : BitVec 38) (o : UnitOutcome) (s : State) : Out :=
  .next (
    let u := ddrUnit x.toNat
    match r with
    | .master m v =>
      (match s.readRange m.val v with
        | some (a, n) =>
          if !(s.placeUnits (4 * n) (place a)).contains u then s.readView m.val v
          else if s.unitLost u o then (s.unitFound u o).defaultHit m.val a
          else (s.unitFound u o).readView m.val v
        | none => s.readView m.val v)
    | .longPath => if s.regionOf (ddrBase + x.toNat) = some 0 then s.unitFound u o else s
    | .patrol => if x.toNat < s.ddrUsable then (if s.unitLost u o then s else s.readUnits [u]).unitFound u o else s)

end Sys2Proof.Machine
end

