-- ==== Sys2Proof/Machine/Fitting.lean ====
section
/-! DEFINITION. Fitting: the attempts of a lane, its training rows, its messages, background adaptation and spare lanes (R58 to R84,
R514). A command whose condition does not hold in the state has no effect (DEDUCED: log entry 9).
Readings and choices: DEDUCED (log entry 45). -/

namespace Sys2Proof.Machine

/-! ### The states of an attempt (R58 to R65) -/

/-- SIGNAL_EXIT (R58, R509): with signal detect held for 8 frames in SIGNAL, and LOS not declared, the lane enters LOCK. -/
def execSignalExit (n : LaneIx) (rs : List RowLevel) (s : State) : Out :=
  .next (
    let s1 := s.judgeLevels n rs
    if s.fit n = fitSignal && decide (8 ≤ s.sinceFrame (s.lane n).since) && decide (detectRows ≤ (s1.lane n).presentRun)
        && !s.declared n .los then s1.enterFit n fitLock
    else s1)

/-- The partner has shown WAIT or DISABLED in 16 rows: such an attempt fails and no exit is made (R62). -/
def State.partnerGone (s : State) (n : Nat) : Bool := decide (16 ≤ (s.lane n).goneRun)

/-- LOCK_EXIT (R58): the loop is locked, which the command stands for, and 16 consecutive training markers have been found in LOCK: the lane
enters TUNE, where its first request is PRESET with PEER_PRESET (R70). LOL, which outlasts a relock by 8 frames, does not matter. -/
def execLockExit (n : LaneIx) (s : State) : Out :=
  .next (if s.fit n = fitLock && decide (16 ≤ (s.lane n).markRun) && !s.partnerGone n then
      (s.updLane n (fun l => { l with ownReq := 3, ownTap := 0, ownPreset := s.fld R.LN_FIT_CTRL_PEER_PRESET n })).enterFit n fitTune
    else s)

/-- The partner's condition for leaving TUNE: RX_READY in 8 consecutive rows, or STATE = FRAME with RX_READY in 2 (R71). -/
def LaneSt.partnerReady (l : LaneSt) : Bool := decide (8 ≤ l.readyRun) || decide (2 ≤ l.frameRun)

/-- The equalisation that adaptation has settled on: free values (R70; DESIGN CHOICE: log entry 5). -/
def State.adaptSettle (s : State) (n : Nat) : State :=
  let v := Config.adapted s.free
  let s1 := (s.setFld R.LN_RX_EQ_CTLE n v).setFld R.LN_RX_EQ_H1 n (v / 2 ^ 4)
  let s2 := (s1.setFld R.LN_RX_EQ_H2 n (v / 2 ^ 12)).setFld R.LN_RX_EQ_H3 n (v / 2 ^ 20)
  ((s2.setFld R.LN_RX_FFE_LO_F0_F3 n (v / 2 ^ 28)).setFld R.LN_RX_FFE_HI_F4_F7 n (v / 2 ^ 60)).drawn

/-- The training rows of a window of RX_READY: 100 frames of 128 (R70). -/
def tuneWindow : Nat := 12800

/-- A training row received in TUNE (R70): until the adaptation has settled, a free value says whether it settles with this row (DESIGN
CHOICE: log entry 5); from then on the row's bit errors count, and the 100 frames of each window have RX_READY asserted with at most
528 of them, or adaptation going on. -/
def State.tuneRow (s : State) (n : Nat) (row : List Nat) : State :=
  let l := s.lane n
  if s.fit n ≠ fitTune then s
  else if !l.settled then
    if Config.settles s.free then
      (s.adaptSettle n).updLane n (fun k => { k with settled := true, tuneRows := 0, tuneErrs := 0 })
    else s.drawn
  else
    let errs := l.tuneErrs + patternErrors row
    if l.tuneRows + 1 < tuneWindow then s.setLane n { l with tuneRows := l.tuneRows + 1, tuneErrs := errs }
    else s.setLane n { l with tuneRows := 0, tuneErrs := 0, ownReady := decide (errs ≤ 528), settled := decide (errs ≤ 528) }

/-- TUNE_EXIT (R70, R71): with own RX_READY and the partner's condition, the lane announces FRAME to the end of its transmit frame and
sends traffic frames from the next. -/
def execTuneExit (n : LaneIx) (s : State) : Out :=
  .next (if s.fit n = fitTune && !s.partnerGone n && (s.lane n).ownReady && (s.lane n).partnerReady then
      (s.updLane n (fun l => { l with announcing := true })).enterFit n fitFrame
    else s)

/-- FRAME_EXIT (R58): in frame with 8 consecutive clean frames, the lane enters INTRO and sends IDENT (R75). -/
def execFrameExit (n : LaneIx) (s : State) : Out :=
  .next (if s.fit n = fitFrame && s.inSync n && decide (8 ≤ (s.lane n).cleanRun) then
      (s.enterFit n fitIntro).sendMsg n msgIdent (s.identPayload n)
    else s)

/-- The lane enters SERVICE (R60, R77): FAILS and the backoff run start again. A lane with TIMING = 1 that has not fallen back is loop timed
from here, and a fallback is remembered across attempts (R53; DESIGN CHOICE: log entry 61). -/
def State.enterService (s : State) (n : Nat) : State :=
  let s1 := ((s.enterFit n fitService).setFld R.LN_FIT_STATUS_FAILS n 0).setFld R.LN_FIT_BACKOFF_BACKOFF n 80
  let s2 := s1.updLane n (fun l => { l with freshRun := true, waitLen := 0 })
  let s3 := if s2.flag R.LN_TX_CFG_TIMING n && !(s2.lane n).fellBack then s2.loopReturn n else s2
  let s4 := { s3 with raise := { s3.raise with laneServed := true } }
  (s4.refreshCa n).latch R.LN_FIT_EVT_SERVICE_ENTER n

/-- SERVICE_ENTER (R77): tick F_go has been reached in INTRO; acknowledgements do not matter. -/
def execServiceEnter (n : LaneIx) (s : State) : Out :=
  .next (State.stampTick (match (s.lane n).goOwn with
    | some f =>
      if s.fit n = fitIntro && frameReached s.frame f && s.flag R.LN_FIT_CTRL_ENABLE n && (s.lane n).restartPend = 0 then
        s.enterService n
      else s
    | none => s) s)

/-- FIT_TIMEOUT (R58): the state's timeout has passed since it was entered, and the attempt fails. -/
def execFitTimeout (n : LaneIx) (s : State) : Out :=
  .next (match fitTimeoutOf (s.fit n) with
    | some t => if t ≤ s.sinceFrame (s.lane n).since then s.failAttempt n else s
    | none => s)

/-- FIT_LOS_FAIL (R59): LOS has persisted for 8 frames in a state from LOCK to INTRO. -/
def execFitLosFail (n : LaneIx) (s : State) : Out :=
  .next (if s.lasted (s.lane n).losSince 8 && decide (fitLock ≤ s.fit n) && decide (s.fit n ≤ fitIntro) then s.failAttempt n else s)

/-- BACKOFF_EXPIRY (R60): the wait has run out, and an attempt starts at SIGNAL. -/
def execBackoffExpiry (n : LaneIx) (s : State) : Out :=
  .next (if s.fit n = fitWait && decide ((s.lane n).waitLen ≤ s.sinceFrame (s.lane n).since) then s.startAttempt n else s)

/-- WAIT_WAKE (R61): 16 consecutive training rows from a partner in SIGNAL, LOCK or TUNE end WAIT. -/
def execWaitWake (n : LaneIx) (s : State) : Out :=
  .next (if s.fit n = fitWait && decide (16 ≤ (s.lane n).wakeRun) then s.startAttempt n else s)

/-- PARTNER_GONE_FAIL (R62): the partner has shown WAIT or DISABLED in 16 consecutive rows while the lane is in LOCK or TUNE. -/
def execPartnerGoneFail (n : LaneIx) (s : State) : Out :=
  .next (if (s.fit n = fitLock || s.fit n = fitTune) && s.partnerGone n then s.failAttempt n else s)

/-- SERVICE_PERSIST_LEAVE (R65): LOS, LOL or LOF has persisted for 400 frames; the lane leaves SERVICE and starts a new attempt, or enters
DISABLED where ENABLE has been cleared. -/
def execServicePersistLeave (n : LaneIx) (s : State) : Out :=
  .next (if s.inService n && s.lasted (s.lane n).persSince 400 then s.restartLane n else s)

/-! ### Training and discovery rows (R67 to R72) -/

/-- A word with every odd-numbered bit inverted (R47). -/
def invertOdd (w : Nat) : Nat := Nat.xor w 0xAAAAAAAAA

/-- The control words of a training row: words 2 and 3 with good CRCs, else the copies in words 4 and 5 (R68). -/
def controlWords (ws : List Nat) : Option (Nat × Nat) :=
  if crc8Good (ws.getD 2 0) && crc8Good (ws.getD 3 0) then some (ws.getD 2 0, ws.getD 3 0)
  else if crc8Good (ws.getD 4 0) && crc8Good (ws.getD 5 0) then some (ws.getD 4 0, ws.getD 5 0)
  else none

/-- A coefficient request is carried out, at word 0 of the lane's next training row, or refused, and acknowledged (R50, R51, R69). -/
def State.coefRequest (s : State) (n tap req preset : Nat) : State :=
  let answer := fun (s : State) a => s.updLane n (fun l => { l with ack := a, ackTap := tap })
  if req = 3 then answer (s.askTaps n (presetTaps preset)) 1
  else if 4 ≤ req || 4 ≤ tap then answer s 3
  else
    let ts := s.nextTaps n
    let v := ts.getD tap 0 + (if req = 1 then 1 else -1)
    let ts' := ts.set tap v
    if v < (tapRange tap).1 || (tapRange tap).2 < v || tapC0 ts' < 24 then answer s 2
    else answer (s.askTaps n ts') 1

/-- The responder's side of the handshake: a request is acted on once received unchanged in 2 consecutive rows, and nothing is until
HOLD has been seen after an answer (R69). In SERVICE coefficients do not change (R78). -/
def State.respond (s : State) (n trq : Nat) : State :=
  let l := s.lane n
  let tap := bits trq 27 3
  let req := bits trq 24 3
  let preset := bits trq 22 2
  let key := bits trq 22 8
  if s.inService n then s
  else if req = 0 then s.setLane n { l with ack := 0, reqRun := 0, reqLast := 0 }
  else if l.ack ≠ 0 then s
  else if l.reqRun = 1 && l.reqLast = key then
    (s.setLane n { l with reqRun := 0, reqLast := 0 }).coefRequest n tap req preset
  else s.setLane n { l with reqRun := 1, reqLast := key }

/-- The requester's side: an answer brings HOLD, in the rows that announce FRAME as well; in TUNE, after NOT_UPDATED, the adaptation makes the
request it chooses, a free value (R69 to R71; DESIGN CHOICE: log entry 5). -/
def State.request (s : State) (n tst : Nat) : State :=
  let l := s.lane n
  let ack := bits tst 31 2
  if l.ownReq ≠ 0 then (if ack ≠ 0 then s.setLane n { l with ownReq := 0 } else s)
  else if s.fit n = fitTune && ack = 0 then
    let v := Config.coefRequest s.free
    (s.setLane n { l with ownReq := v % 4, ownTap := v / 4 % 4, ownPreset := v / 16 % 4 }).drawn
  else s

/-- What the control words of a row do to the lane's runs (R61, R62, R71). -/
def LaneSt.countRow (l : LaneSt) (fit trq : Nat) : LaneSt :=
  let st := bits trq 32 4
  let ready := bit trq 31 == 1
  { l with
    wakeRun := if fit = fitWait && st ≤ 2 then l.wakeRun + 1 else 0
    goneRun := if (fit = fitLock || fit = fitTune) && (st = 4 || st = 5) then l.goneRun + 1 else 0
    readyRun := if fit = fitTune && ready then l.readyRun + 1 else 0
    frameRun := if st = 3 && ready then l.frameRun + 1 else 0
    huntRun := if st = 3 then l.huntRun + 1 else 0
    hunting := l.hunting || (st = 3 && decide (1 ≤ l.huntRun) && decide (fitLock ≤ fit) && decide (fit ≤ fitIntro)) }

/-- A row whose control words cannot be read: no run of rows goes on over it (R61, R62, R69, R71). -/
def LaneSt.breakRuns (l : LaneSt) : LaneSt :=
  { l with wakeRun := 0, goneRun := 0, readyRun := 0, frameRun := 0, huntRun := 0, reqRun := 0 }

/-- A row begins with the training marker (R67). -/
def trainMarked (row : List Nat) : Bool := row.getD 0 0 * 2 ^ 36 + row.getD 1 0 == trainMarker

/-- The marker of a training or discovery row is looked for, and counted in LOCK, its polarity corrected where LOCK finds it inverted (R47, R58):
the row as it is read, none where it has no marker. The correction, once made, holds until the next attempt. -/
def State.readMarker (s : State) (n : Nat) (raw : List Nat) : State × Option (List Nat) :=
  let inv := s.flag R.LN_FIT_STATUS_RX_POL_INV n
  let row := if inv then raw.map invertOdd else raw
  let count := fun (t : State) => if s.fit n = fitLock then t.updLane n (fun l => { l with markRun := l.markRun + 1 }) else t
  if trainMarked row then (count s, some row)
  else if s.fit n = fitLock && !inv && trainMarked (raw.map invertOdd) then
    (count (s.setFlag R.LN_FIT_STATUS_RX_POL_INV n true), some (raw.map invertOdd))
  else (s.updLane n (fun l => { l.breakRuns with markRun := 0 }), none)

/-- The partner's STATE and LANE are recorded (R68, R72). -/
def State.notePeer (s : State) (n trq : Nat) : State :=
  ((s.setFld R.LN_FIT_STATUS_PEER_STATE n (bits trq 32 4)).setFld R.LN_FIT_STATUS_PEER_LANE n (bits trq 8 9)).updLane n
    (fun l => { l with peerSt := some (bits trq 32 4) })

/-- The partner has fallen back to SIGNAL in this attempt, while lane `n` is in LOCK or TUNE (R62): from LOCK, TUNE or FRAME, and not from WAIT
or DISABLED (DESIGN CHOICE: log entry 61). -/
def State.fellToSignal (s : State) (n trq : Nat) : Bool :=
  bits trq 32 4 == 0 && (s.lane n).peerSt.any (fun was => decide (1 ≤ was) && decide (was ≤ 3)) && (s.fit n == fitLock || s.fit n == fitTune)

/-- TRAINING_ROW (R47, R50, R62, R67 to R71): a row of the lane's own has begun since the row before; the marker, with its polarity
corrected in LOCK; the test pattern; the control words; the coefficient handshake, answered from the lane's next row on; and a partner that
falls back to SIGNAL restarts the lane. -/
def execTrainingRow (n : LaneIx) (ws : List SlotWord) (s : State) : Out :=
  .next (
    if s.fit n = fitDisabled then s else
    let raw := ws.map BitVec.toNat
    let r := ((if (s.lane n).tx.sent && !(s.lane n).tx.traffic then s.beginRow n else s)).readMarker n raw
    let t := r.1.tuneRow n (r.2.getD raw)
    match r.2.bind controlWords with
    | none => t.updLane n LaneSt.breakRuns
    | some (trq, tst) =>
      if t.fellToSignal n trq then (t.notePeer n trq).startAttempt n
      else
        ((((t.notePeer n trq).updLane n (fun l => l.countRow (s.fit n) trq)).respond n trq).request n tst).refreshTraining n)

/-- A discovery row, as its marker was found and with its polarity corrected, is counted, and its control words are noted (R67, R68). -/
def State.noteDiscovery (n : Nat) (r : State × Option (List Nat)) : State :=
  let t := r.1.updLane n (fun l => { l with tuneRows := 0, tuneErrs := 0 })
  match r.2.bind controlWords with
  | none => t.updLane n LaneSt.breakRuns
  | some (trq, _) => (t.notePeer n trq).updLane n (fun l => { l.countRow (t.fit n) trq with wakeRun := 0 })

/-- DISCOVERY_ROW (R47, R72): the marker, and the partner's LANE and STATE, which are recorded; a discovery row with STATE = WAIT or DISABLED
counts for R62, and none for R61 or the windows of R70. -/
def execDiscoveryRow (n : LaneIx) (ws : List SlotWord) (s : State) : Out :=
  .next (State.noteDiscovery n (s.readMarker n (ws.map BitVec.toNat)))

/-! ### Register writes of LN_FIT_CTRL and LN_TX_CFG -/

/-- What a write of LN_FIT_CTRL does beyond its RW fields, `was` being ENABLE before it (R60, R64 to R66, R80, R117, R514). -/
def State.fitCtrlEffect (s : State) (n : Nat) (was : Bool) (w : Nat) : State :=
  let now := s.flag R.LN_FIT_CTRL_ENABLE n
  -- a change of ENABLE
  let s1 :=
    if was = now then s
    else if now then
      let t := s.wipeDefects n
      if 5 ≤ t.phase then t.startAttempt n else t
    else
      let t := s.wipeDefects n
      if t.inService n then (t.updLane n (fun l => { l with leaveSince := some s.frame })).sendMsg n msgLeave []
      else t.disableLane n
  -- BACKOFF_RESET
  let s2 :=
    if bit w 2 = 1 then
      (s1.setFld R.LN_FIT_BACKOFF_BACKOFF n 80).updLane n (fun l => { l with freshRun := true, waitLen := min l.waitLen 80 })
    else s1
  -- UNFREEZE
  let s3 := if bit w 3 = 1 then s2.setFlag R.LN_ADAPT_STAT_FROZEN n false else s2
  -- RESTART
  if bit w 1 = 1 && now && was then
    if s3.sendsTraffic n then
      s3.updLane n (fun l =>
        let m := msgWords msgRestart l.nextMseq []
        let t := { l with nextMseq := (l.nextMseq + 1) % 256 }
        match l.tx.splice (s3.nextRow n) m with
        | some x => { t with tx := x, restartPend := 1 }
        | none => { t with fcTx := m ++ l.fcTx, restartPend := 2 })
    else if s3.fit n = fitDisabled then s3
    else s3.startAttempt n
  else s3

/-- What a write of LN_TX_CFG does beyond its staged fields: LOOP_RESTORE returns a fallen-back lane to loop timing (R57). -/
def State.txCfgEffect (s : State) (n w : Nat) : State :=
  if bit w 3 = 1 && s.flag R.LN_TX_CFG_TIMING n && !s.flag R.LN_TX_STAT_TIMING_ACT n then s.loopReturn n else s

/-! ### Messages (R73 to R77) -/

/-- IDENT is received (R75, R76): the five payload words are stored together; a mismatch declares LMM; with the exchange complete
SERVICE_GO is sent (R77). COVER reads 0 where the partner's COVER_VALID is 0 (DESIGN CHOICE: log entry 61). -/
def State.rxIdent (s : State) (n seq : Nat) (ws : List Nat) : State :=
  s.takeMsg n seq (fun t =>
    let w := fun k => ws.getD k 0
    let t1 := ((((t.setFld R.LN_PEER_ID0_ID n (w 0)).setFld R.LN_PEER_ID1_ID n (w 1)).setFld R.LN_PEER_ID2_ID n (w 2)).setFld
      R.LN_PEER_ID3_ID n (w 3)).setFld R.LN_PEER_ID4_ID n (w 4)
    let t2 := if isSpare n then t1.setFld R.LN_SPARE_STAT_COVER n (if bit (w 4) 3 = 1 then bits (w 4) 16 16 else 0) else t1
    let t3 := t2.updLane n (fun l => { l with identGot := true })
    (if t3.identMismatch n then t3.declare n .lmm else t3).maybeGo n)

/-- IDENT (R75, R76). -/
def execIdent (n : LaneIx) (seq : BitVec 8) (ws : List Word) (s : State) : Out := .next (s.rxIdent n seq.toNat (ws.map BitVec.toNat))

/-- SERVICE_GO is received (R77): the partner's F_go, from which the sill accepts its words. -/
def State.rxServiceGo (s : State) (n seq f : Nat) : State := s.takeMsg n seq (fun t => t.updLane n (fun l => { l with goPeer := some f }))

/-- SERVICE_GO (R77). -/
def execServiceGo (n : LaneIx) (seq : BitVec 8) (f : Word) (s : State) : Out := .next (s.rxServiceGo n seq.toNat f.toNat)

/-- Lane `x` is a traffic lane that the spare `n` may stand in for: of its cluster and in the partner's COVER (R81). -/
def State.covers (s : State) (n x : Nat) : Bool :=
  isSpare n && decide (x < 256) && x / 16 == n - 256 && (s.fld R.LN_SPARE_STAT_COVER n).testBit (x % 16)

/-- Copies of lane x's frames are sent on the spare from now on: it is no longer in its cluster's pool (R82, R459). Where it shadows another lane,
that one's sistering is dropped for lane x's; where it shadows lane x already, nothing changes (DESIGN CHOICE: log entry 61). The receive buffer of
a spare that leaves the pool is cleared (R416). -/
def State.startShadow (s : State) (n x : Nat) : State :=
  if s.flag R.LN_SPARE_STAT_SHADOW n && (s.lane n).target = x then s
  else
  let s0 := if s.flag R.LN_SPARE_STAT_SHADOW n || (s.lane n).used then s
    else { s with sill := s.sill.del n }.setFld R.TLY_SPARES_LANES 0 (s.fld R.TLY_SPARES_LANES - 1)
  ((s0.setFlag R.LN_SPARE_STAT_SHADOW n true).setFlag R.LN_SPARE_STAT_READY n false).updLane n (fun l =>
    { l with target := x, shadowRun := 0, selOwn := none, selPeer := none, rxSw := false, txSw := false, back := false })

/-- A return from the spare `n` to lane x begins: the steps of R82 with the two lanes exchanged, on lane x's message channel (R83; DEDUCED: log
entry 45). -/
def State.startBack (s : State) (n x : Nat) : State :=
  ((s.setFlag R.LN_SPARE_STAT_READY n false).updLane n (fun l =>
    { l with selOwn := none, selPeer := none, rxSw := false, txSw := false, back := true, ended := false })).updLane x (fun l => { l with shadowRun := 0 })

/-- The spare that carries traffic lane `x` (R83). -/
def State.spareFor (s : State) (x : Nat) : Option Nat :=
  if x < 256 && s.flag R.LN_FIT_STATUS_SUB x then some (256 + x / 16) else none

/-- SPARE_PREP is received (R82, R83): on a spare the partner asks for copies of lane x's frames; on a carried lane x, for a return to it. -/
def State.rxSparePrep (s : State) (n seq x : Nat) : State :=
  s.takeMsg n seq (fun t =>
    if t.covers n x && !t.flag R.LN_SPARE_STAT_CARRYING n then t.startShadow n x
    else match t.spareFor n with
      | some k => if x = n then t.startBack k n else t
      | none => t)

/-- SPARE_PREP (R82). -/
def execSparePrep (n : LaneIx) (seq : BitVec 8) (x : Word) (s : State) : Out := .next (s.rxSparePrep n seq.toNat (x.toNat % 2 ^ 16))

/-- The spare from which a return to traffic lane `x` is under way, also once receive has switched (R83). -/
def State.returnFrom (s : State) (x : Nat) : Option Nat :=
  if x < 256 && (s.lane (256 + x / 16)).back && (s.lane (256 + x / 16)).target = x then some (256 + x / 16) else none

/-- SPARE_SELECT is received (R82, R83): the partner's selection frame, for the spare or for the return to lane x. -/
def State.rxSpareSelect (s : State) (n seq x f : Nat) : State :=
  s.takeMsg n seq (fun t =>
    if t.flag R.LN_SPARE_STAT_SHADOW n && (t.lane n).target = x && !(t.lane n).back then
      t.updLane n (fun l => { l with selPeer := some f })
    else match t.returnFrom n with
      | some k => if x = n then t.updLane k (fun l => { l with selPeer := some f }) else t
      | none => t)

/-- SPARE_SELECT (R82). -/
def execSpareSelect (n : LaneIx) (seq : BitVec 8) (x f : Word) (s : State) : Out :=
  .next (s.rxSpareSelect n seq.toNat (x.toNat % 2 ^ 16) f.toNat)

/-- SPARE_RELEASE is received (R83): the shadow copies end and the spare is free. -/
def State.rxSpareRelease (s : State) (n seq x : Nat) : State :=
  s.takeMsg n seq (fun t => if (t.lane n).target = x then t.releaseSpare n else t)

/-- SPARE_RELEASE (R83). -/
def execSpareRelease (n : LaneIx) (seq : BitVec 8) (x : Word) (s : State) : Out :=
  .next (s.rxSpareRelease n seq.toNat (x.toNat % 2 ^ 16))

/-- RESTART is received (R65, R514): in FRAME, INTRO or SERVICE a new attempt starts at once, unanswered; a lane whose ENABLE has been cleared
enters DISABLED instead. -/
def State.rxRestart (s : State) (n : Nat) : State := if s.sendsTraffic n then s.restartLane n else s

/-- RESTART (R514). -/
def execRestart (n : LaneIx) (s : State) : Out := .next (s.rxRestart n)

/-- LEAVE is received (R65): it is acknowledged in the traffic frame that the lane sends; in SERVICE the lane leaves and starts a new
attempt, or enters DISABLED where ENABLE has been cleared. -/
def State.rxLeave (s : State) (n seq : Nat) : State :=
  if s.inService n && (s.lane n).lastRx ≠ some seq then (s.ackInFrame n seq).restartLane n
  else s.takeMsg n seq id

/-- LEAVE (R65). -/
def execLeave (n : LaneIx) (seq : BitVec 8) (s : State) : Out := .next (s.rxLeave n seq.toNat)

/-- What the acknowledgement of a message brings (R66, R77, R82, R83); that of a PREP for a spare that carries a lane by then, nothing. -/
def State.acked (s : State) (n : Nat) (msg : FitMsg) : State :=
  if msg.typ = msgIdent then (s.updLane n (fun l => { l with identAcked := true })).maybeGo n
  else if msg.typ = msgSparePrep then
    match s.spareFor n with
    | some k => s.startBack k n
    | none => if s.flag R.LN_SPARE_STAT_CARRYING n then s else s.startShadow n (msg.payload.getD 0 0 % 2 ^ 16)
  else if msg.typ = msgSpareRelease then s.releaseSpare n
  else if msg.typ = msgLeave && (s.lane n).leaveSince.isSome then s.disableLane n
  else s

/-- ACK is received (R74): the outstanding message with this MSEQ is released. -/
def State.rxAck (s : State) (n seq : Nat) : State :=
  match (s.lane n).out with
  | some msg => if msg.seq = seq then (s.releaseMsg n).acked n msg else s
  | none => s

/-- ACK (R74). -/
def execAck (n : LaneIx) (seq : BitVec 8) (s : State) : Out := .next (s.rxAck n seq.toNat)

/-- NAK is received (R74): the outstanding message is answered, its TYPE unknown to the partner; nothing that an acknowledgement brings
comes. -/
def State.rxNak (s : State) (n seq : Nat) : State :=
  match (s.lane n).out with
  | some msg => if msg.seq = seq then s.releaseMsg n else s
  | none => s

/-- NAK (R74). -/
def execNak (n : LaneIx) (seq : BitVec 8) (s : State) : Out := .next (s.rxNak n seq.toNat)

/-- A good message of the fitting channel (R74): it does what the command of its TYPE does; an unknown TYPE is answered with NAK. -/
def State.takeFit (s : State) (n typ seq : Nat) (p : List Nat) : State :=
  let x := p.getD 0 0 % 2 ^ 16
  if typ = msgIdent then s.rxIdent n seq p
  else if typ = msgServiceGo then s.rxServiceGo n seq (p.getD 0 0)
  else if typ = msgSparePrep then s.rxSparePrep n seq x
  else if typ = msgSpareSelect then s.rxSpareSelect n seq x (p.getD 1 0)
  else if typ = msgSpareRelease then s.rxSpareRelease n seq x
  else if typ = msgRestart then s.rxRestart n
  else if typ = msgLeave then s.rxLeave n seq
  else if typ = msgNak then s.rxNak n (p.getD 0 0 % 256)
  else if typ = msgAck then s.rxAck n (p.getD 0 0 % 256)
  else if s.sendsTraffic n then s.sendNak n seq
  else s

/-- One fitting-channel word received on lane `n` (R73): a good header begins a message; its payload words and its trailer follow with no
idle word between; a message whose trailer carries the good CRC-32 of LEN payload words is taken. A word of any other kind, or one
out of its place, ends the message in progress. -/
def State.fitWord (s : State) (n w : Nat) : State :=
  let got := (s.lane n).fcRx
  let keep := fun l' => s.updLane n (fun l => { l with fcRx := l' })
  let kind := bits w 32 4
  if kind = 0xA then keep (if crc8Good w then [w] else [])
  else match got with
    | [] => s
    | h :: p =>
      let len := bits h 8 8
      if kind = 0x5 && p.length < len then keep (got ++ [bits w 0 32])
      else if kind = 0xC && p.length = len && bits w 0 32 = crc32Words p then (keep []).takeFit n (bits h 24 8) (bits h 16 8) p
      else keep []

/-- MSG_RETRY (R74, R77): after 8 frames the message is resent; after the eighth send the attempt fails in INTRO, or for SERVICE_GO;
in SERVICE any other message is dropped with MSG_FAIL. A lane whose ENABLE has been cleared enters DISABLED, not WAIT (R65). -/
def execMsgRetry (n : LaneIx) (s : State) : Out :=
  .next (match (s.lane n).out with
    | none => s
    | some msg =>
      if s.sinceFrame (s.lane n).outSince < 8 then s
      else if (s.lane n).outSends < 8 then
        s.updLane n (fun l => { l with outSends := l.outSends + 1, outSince := s.frame
                                       fcTx := l.fcTx ++ msgWords msg.typ msg.seq msg.payload })
      else if s.fit n = fitIntro || msg.typ = msgServiceGo then
        (if s.flag R.LN_FIT_CTRL_ENABLE n then s.failAttempt n else (s.failAttempt n).disableLane n)
      else (s.releaseMsg n).latch R.LN_FIT_EVT_MSG_FAIL n)

/-- LEAVE_TIMEOUT (R66): 8 frames after LEAVE was sent the lane enters DISABLED, acknowledged or not. -/
def execLeaveTimeout (n : LaneIx) (s : State) : Out :=
  .next (match (s.lane n).leaveSent with
    | some f => if 8 ≤ s.sinceFrame f then s.disableLane n else s
    | none => s)

/-! ### Transmit timing -/

/-- LOOP_AUTO_RESTORE (R57): LOOP_AUTO, SERVICE and 80,000 frames of RX_SYNC_OK return a fallen-back lane to loop timing. -/
def execLoopAutoRestore (n : LaneIx) (s : State) : Out :=
  .next (if s.flag R.LN_TX_CFG_LOOP_AUTO n && s.inService n && s.flag R.LN_TX_CFG_TIMING n
        && !s.flag R.LN_TX_STAT_TIMING_ACT n && decide (80000 ≤ (s.lane n).syncOkRun) then s.loopReturn n else s)

/-! ### Background adaptation (R78 to R80) -/

/-- The equalisation of lane `n` as one number: CTLE, H1, H2, H3. -/
def State.eqWord (s : State) (n : Nat) : Nat :=
  s.fld R.LN_RX_EQ_CTLE n + s.fld R.LN_RX_EQ_H1 n * 2 ^ 4 + s.fld R.LN_RX_EQ_H2 n * 2 ^ 12 + s.fld R.LN_RX_EQ_H3 n * 2 ^ 20

/-- The known-good set is loaded in a single step (R80). -/
def State.loadKnownGood (s : State) (n : Nat) : State :=
  let l := s.lane n
  let s1 := (s.setFld R.LN_RX_EQ_CTLE n l.kgEq).setFld R.LN_RX_EQ_H1 n (l.kgEq / 2 ^ 4)
  let s2 := (s1.setFld R.LN_RX_EQ_H2 n (l.kgEq / 2 ^ 12)).setFld R.LN_RX_EQ_H3 n (l.kgEq / 2 ^ 20)
  (s2.setFld R.LN_RX_FFE_LO_F0_F3 n l.kgF0).setFld R.LN_RX_FFE_HI_F4_F7 n l.kgF4

/-- A reversion of lane `n` is due (R80): 3 consecutive windows above REVERT_MAX, a known-good set, no LOS or LOL, and no freeze. -/
def State.revertDue (s : State) (n : Nat) : Bool :=
  s.inService n && s.flag R.LN_ADAPT_STAT_KG_VALID n && decide (3 ≤ (s.lane n).badRun)
    && !s.declared n .los && !s.declared n .lol && !s.flag R.LN_ADAPT_STAT_FROZEN n

/-- The tenth good second of a run ends with the present frame (R79). -/
def State.tenthGood (s : State) (n : Nat) : Bool :=
  s.inService n && decide (8000 ≤ (s.lane n).goodRun) && decide ((s.lane n).goodCorr ≤ s.fld R.LN_ADAPT_CFG_GOOD_MAX n)
    && decide (9 ≤ s.fld R.LN_ADAPT_STAT_GOOD_SECS n)

/-- GOOD_SECOND (R79): 8,000 frames in SERVICE without an uncorrectable codeword and with at most GOOD_MAX corrected symbols; every
tenth in a row snapshots the known-good set. More corrected symbols than that end the run. -/
def execGoodSecond (n : LaneIx) (s : State) : Out :=
  .next (
    let l := s.lane n
    if s.inService n && decide (8000 ≤ l.goodRun) then
      let s1 := s.setLane n { l with goodRun := 0, goodCorr := 0 }
      if s.fld R.LN_ADAPT_CFG_GOOD_MAX n < l.goodCorr then s1.setFld R.LN_ADAPT_STAT_GOOD_SECS n 0
      else if s.fld R.LN_ADAPT_STAT_GOOD_SECS n < 9 then
        s1.setFld R.LN_ADAPT_STAT_GOOD_SECS n (s.fld R.LN_ADAPT_STAT_GOOD_SECS n + 1)
      else if s.revertDue n then s1.setFld R.LN_ADAPT_STAT_GOOD_SECS n 0
      else
        ((s1.setFld R.LN_ADAPT_STAT_GOOD_SECS n 0).setFlag R.LN_ADAPT_STAT_KG_VALID n true).updLane n (fun k =>
          { k with kgEq := s.eqWord n, kgF0 := s.fld R.LN_RX_FFE_LO_F0_F3 n, kgF4 := s.fld R.LN_RX_FFE_HI_F4_F7 n })
    else s)

/-- ADAPT_REVERT (R80): 3 consecutive windows above REVERT_MAX reload the known-good set and hold adaptation; within 480,000 frames
of a reversion they freeze adaptation on it. One that coincides with the tenth good second starts the count of good seconds again. -/
def execAdaptRevert (n : LaneIx) (s : State) : Out :=
  .next (
    let l := s.lane n
    if s.revertDue n then
      let again := match l.lastRevert with
        | some f => decide (s.sinceFrame f ≤ 480000)
        | none => false
      let s0 := (s.loadKnownGood n).updLane n (fun k => { k with badRun := 0 })
      let s1 := if s.tenthGood n then
          (s0.setFld R.LN_ADAPT_STAT_GOOD_SECS n 0).updLane n (fun k => { k with goodRun := 0, goodCorr := 0 }) else s0
      if again then (s1.setFlag R.LN_ADAPT_STAT_FROZEN n true).latch R.LN_FIT_EVT_ADAPT_FROZEN n
      else
        let s2 := { s1 with sist := { s1.sist with lifeReverts := s1.sist.lifeReverts.put n (s1.sist.lifeReverts.get n 0 + 1) } }
        (((s2.satFld R.LN_ADAPT_STAT_REVERTS n 1).setFlag R.LN_ADAPT_STAT_HOLD n true).updLane n (fun k =>
          { k with holdSince := some s.frame, lastRevert := some s.frame })).latch R.LN_FIT_EVT_ADAPT_REVERT n
    else s)

/-- ADAPT_HOLD_END (R80): 80,000 frames after a reversion the hold ends. -/
def execAdaptHoldEnd (n : LaneIx) (s : State) : Out :=
  .next (match (s.lane n).holdSince with
    | some f =>
      if 80000 ≤ s.sinceFrame f then
        (s.setFlag R.LN_ADAPT_STAT_HOLD n false).updLane n (fun l => { l with holdSince := none })
      else s
    | none => s)

/-- A byte moved by a step of −1, 0 or +1, held inside its two's complement range (R78). -/
def stepTap (v d : Nat) : Nat := toWord 8 (max (-128) (min 127 (toInt 8 v + ((d % 3 : Nat) : Int) - 1)))

/-- Four taps in a word, each moved by a free step (R78). -/
def stepTaps (v d : Nat) : Nat :=
  (List.range 4).foldl (fun acc k => acc + stepTap (bits v (8 * k) 8) (d / 3 ^ k) * 2 ^ (8 * k)) 0

/-- `k` frames have passed since the last time, if there was one. -/
def State.due (s : State) (last : Option Nat) (k : Nat) : Bool := last.all (fun f => decide (k ≤ s.sinceFrame f))

/-- Adaptation in SERVICE (R78): each FFE and DFE tap moves by at most 1 in 8 frames, the CTLE code by at most 1 in 800 frames, as a
free value says (DESIGN CHOICE: log entry 5); not while held or frozen (R80). -/
def State.adapt (s : State) (n : Nat) : State :=
  if s.inService n && !s.flag R.LN_ADAPT_STAT_HOLD n && !s.flag R.LN_ADAPT_STAT_FROZEN n && s.due (s.lane n).adaptAt 8 then
    let d := Config.adaptStep s.free
    let s1 := (s.setFld R.LN_RX_FFE_LO_F0_F3 n (stepTaps (s.fld R.LN_RX_FFE_LO_F0_F3 n) d)).setFld R.LN_RX_FFE_HI_F4_F7 n
      (stepTaps (s.fld R.LN_RX_FFE_HI_F4_F7 n) (d / 81))
    let s2 := ((s1.setFld R.LN_RX_EQ_H1 n (stepTap (s.fld R.LN_RX_EQ_H1 n) (d / 6561))).setFld R.LN_RX_EQ_H2 n
      (stepTap (s.fld R.LN_RX_EQ_H2 n) (d / 19683))).setFld R.LN_RX_EQ_H3 n (stepTap (s.fld R.LN_RX_EQ_H3 n) (d / 59049))
    let c := s.due (s.lane n).ctleAt 800
    let s3 := if c then s2.setFld R.LN_RX_EQ_CTLE n (min 15 (s.fld R.LN_RX_EQ_CTLE n + d / 177147 % 3 - 1)) else s2
    (s3.updLane n (fun l => { l with adaptAt := some s.frame, ctleAt := if c then some s.frame else l.ctleAt })).drawn
  else s

/-! ### Spare lanes (R81 to R84) -/

/-- The traffic lane that the spare `n` carries. -/
def State.carriedBy (s : State) (n : Nat) : Nat := 16 * (n - 256) + s.fld R.LN_SPARE_STAT_CARRIED n

/-- SELECT goes out, naming page F_sel = the current frame + 8, on the spare `n`, or on lane x for a return to it (R82, R83). -/
def State.sendSelect (s : State) (n : Nat) : State :=
  let l := s.lane n
  if l.selOwn.isSome then s
  else
    let f := frameAdd s.frame 8
    (s.updLane n (fun l => { l with selOwn := some f, selWait := false })).sendMsg (if l.back then l.target else n) msgSpareSelect [l.target, f]

/-- What a write of LN_SPARE_CTRL does beyond TARGET (R82, R83, R85): PREP, SELECT and RELEASE send their messages. SELECT before READY waits
for it, and on a spare that carries a lane for the READY of its return; RELEASE names the lane that the spare shadows, or TARGET where it shadows
none yet. On a spare that carries lane x, PREP begins the return to lane x (DEDUCED: log entry 45). PREP and RELEASE of a lane that is not in
SERVICE are dropped (DESIGN CHOICE: log entry 61). -/
def State.spareCtrlEffect (s : State) (n w : Nat) : State :=
  let x := 16 * (n - 256) + s.fld R.LN_SPARE_CTRL_TARGET n
  let s1 :=
    if bit w 4 ≠ 1 then s
    else if s.flag R.LN_SPARE_STAT_CARRYING n then (if x = s.carriedBy n && s.inService x then s.sendMsg x msgSparePrep [x] else s)
    else if s.inService n && s.covers n x then s.sendMsg n msgSparePrep [x]
    else s
  let s2 :=
    if bit w 5 ≠ 1 then s1
    else if s1.flag R.LN_SPARE_STAT_READY n && s1.inService n && !(s1.flag R.LN_SPARE_STAT_CARRYING n && !(s1.lane n).back) then s1.sendSelect n
    else s1.updLane n (fun l => { l with selWait := true })
  if bit w 6 = 1 && s2.inService n then
    s2.sendMsg n msgSpareRelease [if s2.flag R.LN_SPARE_STAT_SHADOW n then (s2.lane n).target else x] else s2

/-- The frames in a row that make the spare `n`, or for a return lane x, shadow-ready (R82, R83). -/
def State.readyRunOf (s : State) (n : Nat) : Nat := (s.lane (if (s.lane n).back then (s.lane n).target else n)).shadowRun

/-- SPARE_SHADOW_READY (R82): 8 consecutive clean frames that matched lane x's. A SELECT that waits goes out (R85). -/
def execSpareShadowReady (n : LaneIx) (s : State) : Out :=
  .next (if isSpare n && s.flag R.LN_SPARE_STAT_SHADOW n && !s.flag R.LN_SPARE_STAT_READY n && decide (8 ≤ s.readyRunOf n) then
      let s1 := (s.setFlag R.LN_SPARE_STAT_READY n true).latch R.LN_FIT_EVT_SPARE_READY n
      if (s.lane n).selWait then s1.sendSelect n else s1
    else s)

/-- The sill takes the traffic lane's words from the spare `n` (R82, R83): LN_RX_PHASE of that lane shows the spare's phase. -/
def State.switchToSpare (s : State) (n : Nat) : State :=
  let l := s.lane n
  if s.flag R.LN_SPARE_STAT_CARRYING n then s
  else
    let s1 := ((s.setFlag R.LN_SPARE_STAT_CARRYING n true).setFld R.LN_SPARE_STAT_CARRIED n (l.target % 16)).updLane n (fun l =>
      { l with used := true })
    (s1.setFlag R.LN_FIT_STATUS_SUB l.target true).setIfld R.LN_RX_PHASE_PHASE l.target l.phi

/-- The sill takes the traffic lane's words from that lane again (R83). -/
def State.switchBack (s : State) (n : Nat) : State :=
  if s.flag R.LN_SPARE_STAT_CARRYING n then
    ((s.carryOwn (s.carriedBy n)).setFlag R.LN_SPARE_STAT_CARRYING n false).setFld R.LN_SPARE_STAT_CARRIED n 0
  else s

/-- The first page that lane x's words come from where receive switches to (R82, R83): F_sel, or the page of the frame that brings the partner's
F_sel where that comes first. -/
def State.switchPage (s : State) (n : Nat) (own peer : Bool) : Nat :=
  let l := s.lane n
  let here := ((s.lane (if l.back then l.target else n)).page).getD s.frame
  match own, peer, l.selOwn with
  | true, false, some f => f
  | true, true, some f => if frameLater f here then here else f
  | _, _, _ => here

/-- SPARE_SWITCH (R82, R83): receive switches to the spare, or for a return to lane x, at page F_sel (step 4) or at the first frame received
there whose partner frame number reaches the partner's F_sel (step 5), whichever comes first; with both past, both directions have switched
and SPARE_SELECTED is latched (DEDUCED: log entry 45). -/
def execSpareSwitch (n : LaneIx) (s : State) : Out :=
  .next (
    let l := s.lane n
    if !(isSpare n && s.flag R.LN_SPARE_STAT_SHADOW n) then s else
    let own := l.rxSw || l.selOwn.any (frameReached s.frame)
    let peer := l.txSw || l.selPeer.any (frameReached (s.fld R.LN_RX_FN_VALUE (if l.back then l.target else n)))
    let s0 := if !(own || peer) || l.rxSw || l.txSw then s
      else s.updLane n (fun k => { k with swFrom := some (s.switchPage n own peer) })
    let s1 := if !(own || peer) then s0 else if l.back then s0.switchBack n else s0.switchToSpare n
    let done := own && peer && l.back
    (s1.updLane n (fun k =>
      { k with
        rxSw := own && !done, txSw := peer && !done, back := l.back && !done
        selOwn := if done then none else k.selOwn, selPeer := if done then none else k.selPeer })).latchIf
      (own && peer && !(l.rxSw && l.txSw)) R.LN_FIT_EVT_SPARE_SELECTED n)

end Sys2Proof.Machine
end

