-- ==== Sys2Proof/Machine/Framing.lean ====
section
/-! DEFINITION. The receive side of a lane: alignment, rows, frames, pages and slips, defects, and the management channel (R86 to
R124).
Readings and choices: DEDUCED (log entry 46), DEDUCED (log entry 57). -/

namespace Sys2Proof.Machine

/-! ### Rows (R91 to R97, R108, R109, R113) -/

/-- The words of a row as the receiver's levels give them: the polarity correction of R47 applied. -/
def State.lineWords (s : State) (n : Nat) (ws : List SlotWord) : List Nat :=
  if s.flag R.LN_FIT_STATUS_RX_POL_INV n then (ws.map BitVec.toNat).map invertOdd else ws.map BitVec.toNat

/-- The expected LANE_ID of lane `n`: its own index, or lane x for a spare that shadows or carries it (R99). -/
def State.expectLid (s : State) (n : Nat) : Nat :=
  if isSpare n && s.flag R.LN_SPARE_STAT_SHADOW n then (s.lane n).target else n

/-- A copy of an overhead word joins the accepted ones: wholly in correctable codewords, with a good CRC-8 where it has one (R96). -/
def takeCopy (bad : Bool) (crc : Bool) (w v : Nat) (l : List Nat) : List Nat :=
  if bad || (crc && !crc8Good w) then l else l ++ [v]

/-- The test-word errors of a row (R109): each 1 bit of a word with t ≥ 2, and each of t = 0, 1 whose bits 35:32 are neither 0x0 nor
0x3; only in words that lie in correctable codewords. -/
def testErrors (r : Nat) (bad : List Bool) (data : List Nat) : Nat :=
  (List.range 16).foldl (fun e k =>
    let w := data.getD (1056 + k) 0
    if bad.getD (1056 + k) true then e
    else if 2 ≤ 16 * r + k then e + popCount 36 w
    else e + (if bits w 32 4 = 0 || bits w 32 4 = 3 then 0 else 1)) 0

/-- A peer phase word that is valid (R108). -/
def peerPhase (bad : Bool) (w : Nat) : Option Nat := if !bad && bits w 32 4 = 3 then some (bits w 0 32) else none

/-- What a decoded and descrambled row adds to what is gathered of its frame (R94 to R97, R102, R108). The repeated field of which R97 takes
the majority is the payload of the word, LID, STW, VTW or BEW, as R95 lists them (DEDUCED: log entry 62). -/
def FrameAcc.addRow (a : FrameAcc) (r : Nat) (d : RowDecode) (data : List Nat) : FrameAcc :=
  let w := fun k => data.getD k 0
  let b := fun k => d.bad.getD k true
  { a with
    corr := a.corr + d.corr
    unc := a.unc + d.unc
    lid := if r = 0 then a.lid else takeCopy (b 1) true (w 1) (w 1 / 2 ^ 18) a.lid
    stw := if r = 0 then a.stw else takeCopy (b 2) true (w 2) (w 2 / 2 ^ 24) a.stw
    tkw := takeCopy (b 3) false (w 3) (w 3 / 2 ^ 33 * 2 ^ 32 + bits (w 3) 0 32) a.tkw
    vtw := takeCopy (b 4) true (w 4) (w 4 / 2 ^ 30) a.vtw
    bew := takeCopy (b 6) true (w 6) (w 6 / 2 ^ 14) a.bew
    fn := if r = 0 then (if !b 2 && bits (w 2) 32 4 = fnChk (bits (w 2) 0 32) then some (bits (w 2) 0 32) else none) else a.fn
    t0 := if r = 0 then peerPhase (b 1056) (w 1056) else a.t0
    t1 := if r = 0 then peerPhase (b 1057) (w 1057) else a.t1 }

/-- The port whose words lane `n` writes: its own, or that of the lane the spare carries (R164). -/
def State.portOf (s : State) (n : Nat) : Option Nat :=
  if n < 256 then (if s.flag R.LN_FIT_STATUS_SUB n then none else some n)
  else if isSpare n && s.flag R.LN_SPARE_STAT_CARRYING n then some (16 * (n - 256) + s.fld R.LN_SPARE_STAT_CARRIED n)
  else none

/-- The sill puts AIS words in the place of lane `n`'s words (R63, R66, R77, R118). -/
def State.substitutes (s : State) (n : Nat) : Bool :=
  s.caActive n || (s.lane n).aisHold || !(s.lane n).accept ||
    (match (s.lane n).leaveSince with
      | some f => s.frame != f
      | none => false)

/-- A page of lane `n`'s sill. -/
def State.sillPage (s : State) (n page : Nat) : SillPage := (s.sill.get n {}).get page {}

/-- `s` with a page of lane `n`'s sill replaced. -/
def State.setSillPage (s : State) (n page : Nat) (p : SillPage) : State :=
  { s with sill := s.sill.put n ((s.sill.get n {}).put page p) }

/-- The bank that page `pg` of a port is written into (R168): one that holds neither the page `sweep` that the current sweep reads nor the
page completed last; of two such banks the one of number N mod 3, or else the lowest (DEDUCED: log entry 62). -/
def bankFor (pages : Tab SillPage) (sweep pg : Nat) : Nat :=
  let age := fun k => (pg + 2 ^ 32 - k) % 2 ^ 32
  let last := pages.keys.foldl (fun (b : Option Nat) k =>
    if k = pg then b else match b with
      | some x => if age k < age x then some k else b
      | none => some k) none
  let held := fun k => (pages.find k).map (·.bank)
  let free := fun b => held sweep != some b && last.bind held != some b
  if free (pg % 3) then pg % 3 else ((List.range 3).find? free).getD (pg % 3)

/-- A page of lane `n`'s sill is mapped to a bank, on a synchronous lane to bank N mod 3, and what else the bank held is gone (R168). -/
def State.openPage (s : State) (n pg : Nat) : State :=
  let pages := s.sill.get n {}
  let b := if (s.lane n).sync then pg % 3 else bankFor pages ((s.frame + 2 ^ 32 - 1) % 2 ^ 32) pg
  { s with sill := s.sill.put n ((pages.keep (fun _ p => p.bank != b)).put pg { filled := true, bank := b }) }

/-- The slot words of row `r` as lane receive writes them: a word of an uncorrectable codeword is forced parity-failed (R93). -/
def slotWordsOf (r : Nat) (bad : List Bool) (data : List Nat) : List (Nat × Nat) :=
  (List.range 1024).map (fun c =>
    let w := data.getD (16 + c) 0
    (1024 * r + c, if bad.getD (16 + c) true then forcePf w else w))

/-- The counts of IN_GOOD, IN_AIS and IN_PF for the words a row writes (R440). -/
def State.countIn (s : State) (n : Nat) (ws : List Nat) : State :=
  match s.portOf n with
  | none => s
  | some p =>
    let ais := ws.countP isAis
    let pf := ws.countP (fun w => !parityGood w)
    ((s.bankCount 5 p (ws.length - ais - pf)).bankCount 6 p ais).bankCount 7 p pf

/-- The words of a row join a page, and the page after it where that repeats it (R122). -/
def State.addWords (s : State) (n pg : Nat) (ws : List (Nat × Nat)) : State :=
  let p := s.sillPage n pg
  let s1 := s.setSillPage n pg { p with words := ⟨p.words.entries ++ ws⟩ }
  let next := frameAdd pg 1
  let q := s1.sillPage n next
  if q.rep then s1.setSillPage n next { q with words := ⟨q.words.entries ++ ws⟩ } else s1

/-- Row `r` of lane `n` is written into the sill page of its frame: the received words, or AIS words in their place (R93, R118,
R120). A slot that is not listed holds an AIS word. -/
def State.writeSill (s : State) (n r : Nat) (bad : List Bool) (data : List Nat) : State :=
  match (s.lane n).page with
  | none => s
  | some pg =>
    let sub := s.substitutes n
    let ws := slotWordsOf r bad data
    let s0 := s.setSillPage n pg { s.sillPage n pg with rows := (s.sillPage n pg).rows + 1 }
    let s1 := if sub then s0 else s0.addWords n pg ws
    s1.countIn n (if sub then List.replicate 1024 (aisWord 0 0) else ws.map (·.2))

/-! ### The management channel (R105 to R107) -/

/-- The four bytes of a word, the first in bits 31:24 (R105). -/
def beBytes4 (w : Nat) : List Nat := [bits w 24 8, bits w 16 8, bits w 8 8, bits w 0 8]

/-- A good packet's payload: at most 2,048 bytes in all, at least one of payload, with a good CRC-32, most significant byte first
(R106). -/
def packetPayload (b : List Nat) : Option (List Nat) :=
  let p := b.take (b.length - 4)
  let crc := (b.drop (b.length - 4)).foldl (fun c x => c * 256 + x) 0
  if 5 ≤ b.length && b.length ≤ 2048 && crc32Bytes p == crc then some p else none

/-- The address of an entry of a ring of 64 (R107). -/
def mchEntry (base idx : Nat) : Nat := base + 2048 * (idx % 64)

/-- A good packet is written at RX_HEAD; a full ring discards it, and counts it (R107). A ring outside DDR5 is an access of M10 at the
default target (R383, R406). -/
def State.storePacket (s : State) (n : Nat) (p : List Nat) : State :=
  let head := s.fld R.LN_MCH_IDX_RX_HEAD n
  if (head + 1) % 64 = s.fld R.LN_MCH_IDX_RX_TAIL n then
    (s.satFld R.LN_MCH_STAT_RX_DROP n 1).latch R.LN_DEF_EVT_MCH_DROP n
  else
    let a := mchEntry (s.fld R.LN_MCH_RXBASE_BASE n) head
    let entry := leBytes 2 p.length ++ leBytes 2 0 ++ p.map (BitVec.ofNat 8)
    let s1 := if s.inDdr a 2048 then s.writeBytes a (entry.take 2048) else s.defaultHit 10 a
    (s1.setFld R.LN_MCH_IDX_RX_HEAD n (head + 1)).latch R.LN_DEF_EVT_MCH_RX n

/-- What a management-channel word makes of the packet in progress (R105, R106). -/
inductive MchStep where
  /-- The packet goes on, or none is in progress. -/
  | on (b : Option (List Nat))
  /-- The packet is complete: its bytes, the CRC-32 among them. -/
  | whole (b : List Nat)
  /-- The packet is discarded for its framing. -/
  | broken
deriving DecidableEq, Repr

/-- One management-channel word (R105, R106): START begins a packet, and one in progress is gone uncounted (DESIGN CHOICE: log entry 62); DATA and
END go on with it; ABORT discards it; a reserved kind within it, or more than 2,048 bytes, breaks it. -/
def mchStep (got : Option (List Nat)) (w : Nat) : MchStep :=
  let kind := bits w 32 4
  if kind = 1 then .on (some (beBytes4 w))
  else match got with
    | none => .on none
    | some b =>
      let b' := b ++ (beBytes4 w).take (if kind = 2 then 4 else kind - 3)
      if kind = 0 then .on (some b)
      else if kind = 8 then .on none
      else if kind = 2 then (if b'.length ≤ 2048 then .on (some b') else .broken)
      else if 4 ≤ kind && kind ≤ 7 then .whole b'
      else .broken

/-- One management-channel word received on lane `n` (R105 to R107). With ENABLE = 0 what is received is discarded. -/
def State.mchWord (s : State) (n w : Nat) : State :=
  let keep := fun (t : State) b => t.updLane n (fun l => { l with mchRx := b })
  if !s.flag R.LN_MCH_CTRL_ENABLE n then keep s none
  else match mchStep (s.lane n).mchRx w with
    | .on b => keep s b
    | .broken => (keep s none).badPacket n
    | .whole b =>
      match packetPayload b with
      | some p => (keep s none).storePacket n p
      | none => (keep s none).badPacket n

/-- MCH_PACKET_RX (R106, R107): the words of a packet are received in order on a lane in SYNC; out of SYNC none is, and a packet in progress is
discarded. -/
def execMchPacketRx (n : LaneIx) (ws : List SlotWord) (s : State) : Out :=
  .next (
    if !s.flag R.LN_MCH_CTRL_ENABLE n then s
    else if s.inSync n then (ws.map BitVec.toNat).foldl (fun t w => t.mchWord n w) s
    else s.dropPacket n)

/-- The management-channel words of a packet: START, DATA, END, its CRC-32 after the payload (R105, R106). -/
def packetWords (payload : List Nat) : List Nat :=
  let crc := crc32Bytes payload
  let b := payload ++ [bits crc 24 8, bits crc 16 8, bits crc 8 8, bits crc 0 8]
  let k := (b.length + 3) / 4
  (List.range k).map (fun i =>
    let q := (b.drop (4 * i)).take 4
    let w := q.getD 0 0 * 2 ^ 24 + q.getD 1 0 * 2 ^ 16 + q.getD 2 0 * 2 ^ 8 + q.getD 3 0
    let kind := if i = 0 then 1 else if i + 1 < k then 2 else 3 + q.length
    kind * 2 ^ 32 + w)

/-- MCH_PACKET_TX (R107): the entry at TX_TAIL joins what the lane sends, and TX_TAIL advances; a ring outside DDR5 gives none. Of an entry
longer than 2,044 bytes the first 2,044 are sent, and of one of length 0 the CRC-32 alone (DESIGN CHOICE: log entry 62). -/
def execMchPacketTx (n : LaneIx) (s : State) : Out :=
  .next (
    let tail := s.fld R.LN_MCH_IDX_TX_TAIL n
    if s.flag R.LN_MCH_CTRL_ENABLE n && s.sendsTraffic n && tail ≠ s.fld R.LN_MCH_IDX_TX_HEAD n then
      let a := mchEntry (s.fld R.LN_MCH_TXBASE_BASE n) tail
      if !s.inDdr a 2048 then (s.defaultHit 10 a).setFld R.LN_MCH_IDX_TX_TAIL n (tail + 1)
      else
      let len := s.readLe a 2
      let p := (s.readBytes (a + 4) (min len 2044)).map BitVec.toNat
      ((s.readUnits (ddrUnits (a - ddrBase) (4 + min len 2044))).updLane n (fun l => { l with mchTx := l.mchTx ++ packetWords p })).setFld
        R.LN_MCH_IDX_TX_TAIL n (tail + 1)
    else s)

/-! ### The row -/

/-- The fitting-channel word and the management-channel words of a row in traffic frames are taken, but those of an uncorrectable codeword
(R73, R93, R105). -/
def State.takeChannels (s : State) (n : Nat) (bad : List Bool) (data : List Nat) : State :=
  let s1 := (List.range 16).foldl (fun t k => if bad.getD (1040 + k) true then t else t.mchWord n (data.getD (1040 + k) 0)) s
  if bad.getD 5 true then s1.updLane n (fun l => { l with fcRx := [] }) else s1.fitWord n (data.getD 5 0)

/-- The takeover word after row `r`: with the frame's last row a value that it has throughout is accepted, and a new one with TKV = 1 latches
TKW_NEW (R102). On a mate lane one that tells of a takeover is heard as soon as 16 copies carry it (R321; DEDUCED: log entry 50). -/
def State.takeTkw (s : State) (n r : Nat) : State :=
  match (s.lane n).tkwSoFar with
  | none => s
  | some v =>
    let tkv := bit v 34 == 1
    let s1 := if 272 ≤ n && tkv then s.hearTake else s
    if r ≠ 127 then s1
    else
      let new := s1.flag R.LN_RX_STW_TKV n != tkv || s1.fld R.LN_RX_STW_NEW_ROLE n != bits v 32 2
        || s1.fld R.LN_RX_TKW_VALUE n != bits v 0 32
      (((s1.setFlag R.LN_RX_STW_TKV n tkv).setFld R.LN_RX_STW_NEW_ROLE n (bits v 32 2)).setFld R.LN_RX_TKW_VALUE n
        (bits v 0 32)).latchIf (tkv && new) R.LN_DEF_EVT_TKW_NEW n

/-- The test words of row 0 of a frame: the peer's phases, and the link round trip with the phase of the lane's own receive frame (R108,
R110). -/
def State.takeTest (s : State) (n : Nat) : State :=
  let a := (s.lane n).acc
  let s2 := match a.t0 with
    | some v => s.setFld R.LN_PEER_PHI_PHASE n v
    | none => s
  let s3 := match a.t1 with
    | some v => s2.setFld R.LN_PEER_PSI_PHASE n v
    | none => s2
  if a.t0.isSome && a.t1.isSome && s3.flag R.LN_PHASE_STAT_RX_VALID n && s3.flag R.LN_PHASE_STAT_TX_VALID n then
    let rtt := ((s3.lane n).phi + s3.ifld R.LN_PEER_PHI_PHASE n - s3.ifld R.LN_TX_PHASE_PHASE n
      - s3.ifld R.LN_PEER_PSI_PHASE n) % 2654208
    (s3.setFld R.LN_LINK_RTT_RTT n rtt.toNat).setFlag R.LN_LINK_RTT_VALID n true
  else s3.setFlag R.LN_LINK_RTT_VALID n false

/-- A row of lane `n` in SYNC is decoded, counted, descrambled, gathered and written into the sill; its channels are taken (R73, R92 to R97,
R105, R109, R113). Its row marker is judged as received, before correction (DESIGN CHOICE: log entry 62). -/
def State.receiveRow (s : State) (n r : Nat) (line : List Nat) : State :=
  let d := decodeRow line
  let data := scrambleRow r d.words
  let errs := testErrors r d.bad data
  let s1 := (s.addFld R.LN_CNT0 n d.corr).addFld R.LN_CNT1 n d.unc
  let s2 := (s1.bankCount 8 n d.corr).bankCount 9 n d.unc
  let s3 := if r ≠ 0 && line.getD 0 0 ≠ rowMarker r then s2.addFld R.LN_CNT3 n 1 else s2
  let s4 := (s3.addFld R.LN_CNT5 n errs).latchIf (decide (0 < errs)) R.LN_DEF_EVT_TEST_MISMATCH n
  let s5 := s4.updLane n (fun l => { l with acc := l.acc.addRow r d data, row := r + 1 })
  let s6 := if r = 0 then s5.takeTest n else s5
  ((if 272 ≤ n then s6 else s6.writeSill n r d.bad data).takeTkw n r).takeChannels n d.bad data

/-! ### Alignment (R111, R112) -/

/-- LN_FRM_STAT.ALIGN while not in SYNC: VERIFY2, VERIFY1 or HUNT, by the furthest candidate (DESIGN CHOICE: log entry 62). -/
def huntAlign (cs : List Cand) : Nat :=
  if cs.any (·.rows == 2) then 2 else if cs.isEmpty then 0 else 1

/-- The alignment enters SYNC: OOF exits (R115), the errored-FAW count is 0, and persistence counts start (R112, R116). -/
def State.enterSync (s : State) (n : Nat) : State :=
  let s1 := s.setFld R.LN_FRM_STAT_ALIGN n alignSync
  let s2 := s1.updLane n (fun l => { l.clearCounts with
    cands := [], errFaw := 0, row := 3, page := none, assigning := false, acc := {}, cleanRun := 0
    syncSince := some s.frame, oofSince := none })
  s2.undeclare n .oof

/-- The candidates held after the position `pos` has been searched: it joins them where it begins with the FAW and fewer than 4 are held
(R111). -/
def newCand (cs : List Cand) (pos : Nat) (line : List Nat) : List Cand :=
  if line.getD 0 0 * 2 ^ 36 + line.getD 1 0 = faw && cs.length < 4 then
    cs ++ [{ pos := pos, rows := 1, cwOk := (decodeRow line).unc == 0 }]
  else cs

/-- `s` with the candidates of lane `n` replaced, as ALIGN shows them. -/
def State.setCands (s : State) (n : Nat) (cs : List Cand) : State :=
  (s.updLane n (fun l => { l with cands := cs })).setFld R.LN_FRM_STAT_ALIGN n (huntAlign cs)

/-- The window of a row while the lane hunts (R111, R112): it verifies the candidate whose next row it is, or holds a new candidate, which a
position that fails a candidate may itself be. Its codewords are not counted in CORR and UNC (DESIGN CHOICE: log entry 62). -/
def State.huntRow (s : State) (n t : Nat) (line : List Nat) : State :=
  let l := s.lane n
  let pos := (s.frame * frameSymbols + t) % (2 ^ 32 * frameSymbols)
  match l.cands.find? (fun c => (c.pos + c.rows * rowSymbolCount) % (2 ^ 32 * frameSymbols) == pos) with
  | some c =>
    let others := l.cands.filter (fun c' => c'.pos != c.pos)
    if line.getD 0 0 = rowMarker c.rows && c.cwOk then
      if c.rows = 1 then s.setCands n (others ++ [{ c with rows := 2, cwOk := (decodeRow line).unc == 0 }])
      else s.enterSync n
    else s.setCands n (newCand others pos line)
  | none => s.setCands n (newCand l.cands pos line)

/-- RX_ROW (R93, R111, R112): in SYNC the next row of the frame is received; while hunting the window verifies or finds a candidate;
the receiver adapts (R78). A decoder that proves faulty asks for a spare, and a spare compares row by row (R463). -/
def execRxRow (n : LaneIx) (t : Nat) (ws : List SlotWord) (faulty : Bool) (s : State) : Out :=
  .next (
    let line := s.lineWords n ws
    if s.inSync n then
      let r := (s.lane n).row
      if r < 128 then
        let s1 := ((s.receiveRow n r line).adapt n).fecRow n
        if faulty then s1.fecTrigger n else s1
      else s
    else if (s.lane n).hunting then s.huntRow n t line
    else s)

/-! ### Frames (R29, R97 to R104, R110, R114 to R124) -/

/-- A run that grows while a condition holds. -/
def runIf (b : Bool) (k : Nat) : Nat := if b then k + 1 else 0

/-- The lane identity of the frame that has ended (R97, R99, R115). -/
def State.endLid (s : State) (n : Nat) (a : FrameAcc) : State :=
  match frameValue a.lid with
  | none => s.setFlag R.LN_RX_LID_VALID n false
  | some v =>
    let id := v / 2 ^ 9
    let s1 := ((s.setFld R.LN_RX_LID_LANE_ID n id).setFld R.LN_RX_LID_PORT n (v % 2 ^ 9)).setFlag R.LN_RX_LID_VALID n true
    let on := s.flag R.LN_FRM_CFG_LID_EN n
    let same := id == s.expectLid n
    s1.updLane n (fun l => { l with lidBad := runIf (on && !same) l.lidBad, lidGood := runIf (on && same) l.lidGood })

/-- The status word of the frame that has ended (R97, R100, R101, R115). -/
def State.endStw (s : State) (n : Nat) (a : FrameAcc) : State :=
  match frameValue a.stw with
  | none => s.setFlag R.LN_RX_STW_VALID n false
  | some v =>
    let lais := bit v 11 == 1
    let lrdi := bit v 10 == 1
    let ssm := bits v 6 4
    let s1 := ((s.setFlag R.LN_RX_STW_LAIS n lais).setFlag R.LN_RX_STW_LRDI n lrdi).setFld R.LN_RX_STW_ROLE n (bits v 4 2)
    (s1.setFlag R.LN_RX_STW_VALID n true).updLane n (fun l => { l with
      laisOn := runIf lais l.laisOn, laisOff := runIf (!lais) l.laisOff
      lrdiOn := runIf lrdi l.lrdiOn, lrdiOff := runIf (!lrdi) l.lrdiOff
      ssmVal := ssm, ssmRun := if ssm = l.ssmVal then l.ssmRun + 1 else 1 })

/-- The vote and backward-error words of the frame that has ended (R97, R103, R104). -/
def State.endVtwBew (s : State) (n : Nat) (a : FrameAcc) : State :=
  let s1 := match frameValue a.vtw with
    | none => s.setFlag R.LN_RX_VTW_VALID n false
    | some v =>
      (((s.setFld R.LN_RX_VTW_SEEN_A n (bits v 4 2)).setFld R.LN_RX_VTW_SEEN_B n (bits v 2 2)).setFld R.LN_RX_VTW_VOTE n
        (bits v 0 2)).setFlag R.LN_RX_VTW_VALID n true
  match frameValue a.bew with
  | none => s1.setFlag R.LN_RX_BEW_VALID n false
  | some v =>
    ((s1.setFld R.LN_RX_BEW_CORR n (bits v 10 12)).setFld R.LN_RX_BEW_UNC n (bits v 0 10)).setFlag R.LN_RX_BEW_VALID n true

/-- The lane whose frames lane `n`'s must match before the sill switches to lane `n` (R82, R83): lane x for a spare that shadows it; for a
return, the spare that carries it. -/
def State.shadowPair (s : State) (n : Nat) : Option Nat :=
  if isSpare n && s.flag R.LN_SPARE_STAT_SHADOW n then some (s.lane n).target
  else (s.spareFor n).filter (fun k => (s.lane k).back)

/-- The partner frame number of lane `n`'s frame is that of lane `x`'s in the same page, wherever lane `x` is in frame (R82). -/
def State.shadowMatches (s : State) (n x : Nat) : Bool :=
  match (s.lane n).page with
  | none => false
  | some pg => !(s.inSync x && (s.sillPage x pg).filled) || (s.sillPage x pg).fn == (s.sillPage n pg).fn

/-- The frame's error counts: clean frames, the windows of LSD and LSF, good seconds and the windows of a reversion (R79, R80, R115). -/
def State.endCounts (s : State) (n : Nat) (a : FrameAcc) : State :=
  let svc := s.inService n
  let max := s.fld R.LN_ADAPT_CFG_REVERT_MAX n
  let shadow := (s.shadowPair n).any (fun x => a.unc == 0 && s.shadowMatches n x)
  let s1 := s.updLane n (fun l =>
    let full := l.winFrames + 1 == 80
    { l with
      cleanRun := runIf (a.unc == 0) l.cleanRun
      shadowRun := runIf shadow l.shadowRun
      lastCorr := min 4095 a.corr
      lastUnc := a.unc
      wCorr := l.wCorr + a.corr
      wUnc := l.wUnc + a.unc
      goodRun := if svc && a.unc == 0 then l.goodRun + 1 else 0
      goodCorr := if svc && a.unc == 0 then l.goodCorr + a.corr else 0
      winFrames := if !svc || full then 0 else l.winFrames + 1
      winCorr := if !svc || full then 0 else l.winCorr + a.corr
      badRun := if !svc then 0 else if full then runIf (decide (max < l.winCorr + a.corr)) l.badRun else l.badRun
      acc := {} })
  if svc && a.unc ≠ 0 then s1.setFld R.LN_ADAPT_STAT_GOOD_SECS n 0 else s1

/-- What the overhead and the counts of the frame that has just ended bring (R97 to R104, R115). -/
def State.endFrame (s : State) (n : Nat) : State :=
  let a := (s.lane n).acc
  (((s.endLid n a).endStw n a).endVtwBew n a).endCounts n a

/-- The end of a defect window (R115). -/
def State.closeWindow (s : State) (n : Nat) : State :=
  let sdSet := s.fld R.LN_DEF_THR_SD_SET n
  let sdClr := s.fld R.LN_DEF_THR_SD_CLR n
  let sfSet := s.fld R.LN_DEF_THR_SF_SET n
  let sfClr := s.fld R.LN_DEF_THR_SF_CLR n
  let uc := s.fld R.LN_DEF_THR_UC_UC_SET n
  s.updLane n (fun l => { l with
    sdHi := runIf (decide (sdSet < l.wCorr)) l.sdHi
    sdLo := runIf (decide (l.wCorr ≤ sdClr)) l.sdLo
    sfHi := runIf (decide (sfSet < l.wCorr)) l.sfHi
    sfLo := runIf (decide (l.wCorr ≤ sfClr) && l.wUnc == 0) l.sfLo
    ucHit := decide (uc < l.wUnc)
    wCorr := 0
    wUnc := 0 })

/-- A frame on page `pg` is in the window of pages 8k to 8k + 7 (R115): the first frame of another window ends the one in progress, which
counts when it was in SYNC from its beginning. -/
def State.passWindow (s : State) (n pg : Nat) : State :=
  let l := s.lane n
  let b := pg / 8
  if l.winBlock = some b then s
  else
    let full := if l.winBlock.isSome then true else pg % 8 == 0
    (if l.winFull then s.closeWindow n else s).updLane n (fun l => { l with winBlock := some b, winFull := full, wCorr := 0, wUnc := 0 })

/-- The partner frame number of lane `n` is `v` from this frame on. -/
def State.useFn (s : State) (n v : Nat) : State := (s.updLane n (fun l => { l with fnPrev := some v })).setFld R.LN_RX_FN_VALUE n v

/-- The partner frame number of a frame whose row 0 brought the accepted FN `v`, if any (R98): one that is one greater than the last accepted FN
is used, a candidate among them where that was the FN of the frame before; any other is a candidate with FN_JUMP. Until one is used, and in a
frame without one, the number before plus one is used. A candidate after which a frame brought none stays one with the FN that follows it
(DEDUCED: log entry 62). The first FN that is ever accepted is used at once (DESIGN CHOICE: log entry 62). -/
def State.takeFn (s : State) (n : Nat) (v : Option Nat) : State :=
  let l := s.lane n
  let go := fun (t : State) => match l.fnPrev with
    | some p => t.useFn n (frameAdd p 1)
    | none => t
  match v with
  | none => go (s.updLane n (fun l => { l with fnGap := true }))
  | some v =>
    let jump := l.fnAcc.any (fun a => frameAdd a 1 != v)
    let cand := jump || (l.fnCand && l.fnGap)
    let s1 := s.updLane n (fun l => { l with fnAcc := some v, fnCand := cand, fnGap := false })
    if cand then (go s1).latchIf jump R.LN_DEF_EVT_FN_JUMP n else s1.useFn n v

/-- The sill accepts the partner's words from the first page whose frame carries a partner frame number at or past its F_go (R77). -/
def State.takeGo (s : State) (n : Nat) : State :=
  match (s.lane n).goPeer with
  | some f => if frameReached (s.fld R.LN_RX_FN_VALUE n) f then s.updLane n (fun l => { l with accept := true }) else s
  | none => s

/-- The page of a frame that starts `t` symbols after tick F, and its receive phase in symbols (R29). -/
def pageAt (frame t : Nat) : Nat × Int :=
  if t ≤ 10368 then (frame, (t : Int)) else (frameAdd frame 1, (t : Int) - 2654208)

/-- φ lies inside ±648 core cycles (R30). -/
def phaseInside (phi : Int) : Bool := decide (-phiTol ≤ phi) && decide (phi ≤ phiTol)

/-- A slip is counted and reported: SYNC_SLIP on a synchronous lane, SLIP on a plesiochronous one (R122, R123). -/
def State.slip (s : State) (n : Nat) : State :=
  let s1 := s.addFld R.LN_CNT4 n 1
  s1.latch (if (s.lane n).sync then R.LN_DEF_EVT_SYNC_SLIP else R.LN_DEF_EVT_SLIP) n

/-- Lane `n`'s own φ shows in LN_RX_PHASE (R44): its own, but for a traffic lane that the spare carries, and that of the lane that it carries
(R83). -/
def State.showPhase (s : State) (n : Nat) (phi : Int) : State :=
  let s1 := if s.flag R.LN_FIT_STATUS_SUB n then s else s.setIfld R.LN_RX_PHASE_PHASE n phi
  if isSpare n && s.flag R.LN_SPARE_STAT_CARRYING n then s1.setIfld R.LN_RX_PHASE_PHASE (s.carriedBy n) phi else s1

/-- ψ of a loop-timed lane that does not slew follows φ (R55). -/
def State.followPhase (s : State) (n : Nat) : State :=
  if s.flag R.LN_TX_STAT_TIMING_ACT n && !s.flag R.LN_TX_STAT_SLEWING n then s.updLane n (fun l => { l with psi := psiSystem + l.phi }) else s

/-- An accepted FAW fixes φ (R44, R114), which ψ of a loop-timed lane follows (R55), and LPH is judged on a synchronous lane (R115); a
loop-timed lane that leaves the tolerance falls back (R56). -/
def State.takePhase (s : State) (n : Nat) (phi : Int) : State :=
  let inside := phaseInside phi
  let s2 := ((s.showPhase n phi).setFlag R.LN_PHASE_STAT_RX_VALID n true).setFlag R.LN_PHASE_STAT_RX_SYNC_OK n inside
  let s3 := s2.updLane n (fun l => { l with phi := phi, lphIn := runIf inside l.lphIn })
  let s4 := if s3.flag R.LN_FRM_CFG_SYNC n && !inside then s3.declare n .lph else s3
  if inside then s4.followPhase n else s4.loopFallback n

/-- The frame is assigned to its page, or dropped where the page already holds one (R29, R122, R123). A change of SYNC acts from
here, and substitution that lasted to the end of the page before ends (R118, R121). -/
def State.assignPage (s : State) (n pg : Nat) : State :=
  let s := s.passWindow n pg
  if (s.sillPage n pg).filled then
    let s1 := s.updLane n (fun l => { l with page := none })
    if s.caActive n then s1 else s1.slip n
  else
    let ca := s.caActive n
    (s.updLane n (fun l => { l with page := some pg, assigning := true, aisHold := ca, sync := s.flag R.LN_FRM_CFG_SYNC n })).openPage n pg

/-- The fourth errored FAW in a row returns the alignment to HUNT and declares OOF (R112, R115); the counts of the defects judged in
SYNC start again (R116). -/
def State.loseSync (s : State) (n : Nat) : State :=
  ((s.dropAlign n).updLane n (fun l => { l.noFrame with hunting := true })).declareOof n

/-- The FAW of a frame is judged (R113, R114): more than four errors make it errored. -/
def State.judgeFaw (s : State) (n : Nat) (bad : Bool) : State :=
  if bad then (s.addFld R.LN_CNT2 n 1).updLane n (fun l => { l with errFaw := l.errFaw + 1 })
  else s.updLane n (fun l => { l with errFaw := 0 })

/-- A frame that begins on page `pg` at phase `phi` is assigned to its page; page assignment resumes with an accepted FAW (R122, R124). Where the
FAW is not accepted, RX_VALID and RX_SYNC_OK stay as they were (DESIGN CHOICE: log entry 62). -/
def State.placeFrame (s : State) (n : Nat) (bad : Bool) (pg : Nat) (phi : Int) : State :=
  let s1 := if bad then s else s.takePhase n phi
  if bad && !(s1.lane n).assigning then s1.updLane n (fun l => { l with page := none }) else s1.assignPage n pg

/-- Row 0 of a frame is received; its frame number decides whether the sill accepts its words (R77, R98), and stands with its page. -/
def State.receiveRow0 (s : State) (n : Nat) (line : List Nat) : State :=
  let d := decodeRow line
  let s1 := (s.takeFn n (FrameAcc.addRow {} 0 d (scrambleRow 0 d.words)).fn).takeGo n
  let s2 := match (s1.lane n).page with
    | some p => s1.setSillPage n p { s1.sillPage n p with fn := s1.fld R.LN_RX_FN_VALUE n }
    | none => s1
  s2.receiveRow n 0 line

/-- RX_FRAME (R29, R98, R112 to R114, R122): the frame before has ended; the FAW is judged; the frame is assigned to its page; its row 0
is received, with the partner frame number; a decoder that proves faulty on it asks for a spare (R463). -/
def execRxFrame (n : LaneIx) (t : Nat) (ws : List SlotWord) (faulty : Bool) (s : State) : Out :=
  .next (
    if !s.inSync n then s else
    let line := s.lineWords n ws
    let bad := decide (4 < fawErrors (line.getD 0 0) (line.getD 1 0))
    let at' := pageAt s.frame (t % 2654208)
    let s1 := (s.endFrame n).judgeFaw n bad
    if bad && (s1.lane n).errFaw = 4 then s1.loseSync n
    else
      let s2 := ((s1.placeFrame n bad at'.1 at'.2).receiveRow0 n line).fecRow n
      if faulty then s2.fecTrigger n else s2)

/-- PAGE_WINDOW_CLOSE (R122 to R124): a page with no frame assigned repeats the page before on a plesiochronous lane, is filled with
AIS on a synchronous one, both as a slip; what is still written to the page before joins its repeat; with a consequent action active, or
before assignment has resumed, it holds AIS and no slip is counted. -/
def execPageWindowClose (n : LaneIx) (s : State) : Out :=
  .next (
    let pg := s.frame
    if (s.sillPage n pg).filled then s
    else if (s.lane n).assigning && s.inSync n && !s.caActive n then
      if (s.lane n).sync then (s.openPage n pg).slip n
      else (s.setSillPage n pg { s.sillPage n ((pg + 2 ^ 32 - 1) % 2 ^ 32) with filled := true, rep := true }).slip n
    else s)

/-- SSM_ACCEPT (R101): a code whose frame value has held for 8 frames is accepted, but not under a consequent action; a change latches
SSM_CHANGE. -/
def execSsmAccept (n : LaneIx) (s : State) : Out :=
  .next (
    let l := s.lane n
    if 8 ≤ l.ssmRun && !s.caActive n && l.ssmVal ≠ s.fld R.LN_RX_STW_SSM n then
      (s.setFld R.LN_RX_STW_SSM n l.ssmVal).latch R.LN_DEF_EVT_SSM_CHANGE n
    else s)

/-! ### Defects (R115, R116) -/

/-- LOS_DECLARE (R115, R509): signal detect absent throughout 16 row periods. -/
def execLosDeclare (n : LaneIx) (rs : List RowLevel) (s : State) : Out :=
  .next (let s1 := s.judgeLevels n rs; if 16 ≤ (s1.lane n).absentRun then s1.declare n .los else s1)

/-- LOS_CLEAR (R115, R509): signal detect present throughout 8 frames. -/
def execLosClear (n : LaneIx) (rs : List RowLevel) (s : State) : Out :=
  .next (let s1 := s.judgeLevels n rs; if detectRows ≤ (s1.lane n).presentRun then s1.undeclare n .los else s1)

/-- LOL_DECLARE (R52, R115): the loop runs in every state but DISABLED. -/
def execLolDeclare (n : LaneIx) (s : State) : Out := .next (if s.fit n = fitDisabled then s else s.declare n .lol)

/-- LOL_CLEAR (R115). -/
def execLolClear (n : LaneIx) (s : State) : Out := .next (s.undeclare n .lol)

/-- LOF_DECLARE (R115): OOF throughout 24 frames. -/
def execLofDeclare (n : LaneIx) (s : State) : Out :=
  .next (if s.declared n .oof && s.lasted (s.lane n).oofSince 24 then s.declare n .lof else s)

/-- LOF_CLEAR (R115): SYNC throughout 24 frames. -/
def execLofClear (n : LaneIx) (s : State) : Out :=
  .next (if s.inSync n && s.lasted (s.lane n).syncSince 24 then s.undeclare n .lof else s)

/-- LAIS_DECLARE (R115): the frame value of LAIS is 1 in 2 consecutive frames, in SYNC (R116). -/
def execLaisDeclare (n : LaneIx) (s : State) : Out :=
  .next (if s.inSync n && 2 ≤ (s.lane n).laisOn then s.declare n .lais else s)

/-- LAIS_CLEAR (R115). -/
def execLaisClear (n : LaneIx) (s : State) : Out :=
  .next (if s.inSync n && 2 ≤ (s.lane n).laisOff then s.undeclare n .lais else s)

/-- LRDI_DECLARE (R115). -/
def execLrdiDeclare (n : LaneIx) (s : State) : Out :=
  .next (if s.inSync n && 2 ≤ (s.lane n).lrdiOn then s.declare n .lrdi else s)

/-- LRDI_CLEAR (R115). -/
def execLrdiClear (n : LaneIx) (s : State) : Out :=
  .next (if s.inSync n && 2 ≤ (s.lane n).lrdiOff then s.undeclare n .lrdi else s)

/-- LSD_DECLARE (R115): CORR above LSD_SET in 3 consecutive windows. -/
def execLsdDeclare (n : LaneIx) (s : State) : Out :=
  .next (if s.inSync n && 3 ≤ (s.lane n).sdHi then s.declare n .lsd else s)

/-- LSD_CLEAR (R115): CORR at or below LSD_CLR in 8 consecutive windows. -/
def execLsdClear (n : LaneIx) (s : State) : Out :=
  .next (if s.inSync n && 8 ≤ (s.lane n).sdLo then s.undeclare n .lsd else s)

/-- LSF_DECLARE (R115): CORR above LSF_SET in 3 consecutive windows, or UNC above UC_SET in one. -/
def execLsfDeclare (n : LaneIx) (s : State) : Out :=
  .next (if s.inSync n && (3 ≤ (s.lane n).sfHi || (s.lane n).ucHit) then s.declare n .lsf else s)

/-- LSF_CLEAR (R115): 8 consecutive windows with CORR at or below LSF_CLR and no uncorrectable codeword. -/
def execLsfClear (n : LaneIx) (s : State) : Out :=
  .next (if s.inSync n && 8 ≤ (s.lane n).sfLo then s.undeclare n .lsf else s)

/-- LMM_DECLARE (R76, R115): R76 applies, or a LANE_ID that differs in 8 consecutive frames. -/
def execLmmDeclare (n : LaneIx) (s : State) : Out :=
  .next (if s.identMismatch n || (s.inSync n && s.flag R.LN_FRM_CFG_LID_EN n && 8 ≤ (s.lane n).lidBad) then s.declare n .lmm else s)

/-- LMM_CLEAR (R115): R76 does not apply, and with LID_EN = 1 LANE_ID has matched in 8 consecutive frames. -/
def execLmmClear (n : LaneIx) (s : State) : Out :=
  .next (if !s.identMismatch n && (!s.flag R.LN_FRM_CFG_LID_EN n || (s.inSync n && 8 ≤ (s.lane n).lidGood)) then
      s.undeclare n .lmm else s)

/-- LPH_CLEAR (R115): 8 consecutive accepted FAWs inside the tolerance. -/
def execLphClear (n : LaneIx) (s : State) : Out :=
  .next (if s.inSync n && 8 ≤ (s.lane n).lphIn then s.undeclare n .lph else s)

end Sys2Proof.Machine
end

