-- ==== Sys2Proof/Machine/Subst.lean ====
section
/-! DEFINITION. Automatic substitutions of lanes and of scribe engines (R460, R461, R466, R467).
Readings and choices: DEDUCED (log entry 39). -/

namespace Sys2Proof.Machine

/-! ### Lanes (R461) -/

/-- The spare lane of the cluster of traffic lane `x`. -/
def spareOf (x : Nat) : Nat := 256 + x / 16

/-- The frames of LSD in a day that call for a substitution: one hour (R461). -/
def degradedFrames : Nat := 28800000

/-- A trigger of lane `x` holds (R461), or its decoder stays faulty for want of a spare one (R469; log entry 39). -/
def State.laneTriggers (s : State) (x : Nat) : LaneTrigger → Bool
  | .frozen => s.latched R.LN_FIT_EVT_ADAPT_FROZEN x
  | .margin => decide (24 ≤ s.sist.margins.get x 0)
  | .degraded => decide (degradedFrames ≤ s.lsdFrames x)
  | .decoder => s.sist.fec.find x == some .none

/-- A trigger of lane `x` finds its cluster's spare (R459, R461): in SERVICE, not carrying, released since it last carried, and the
partner's COVER has `x`. -/
def State.spareFound (s : State) (x : Nat) : Bool :=
  let n := spareOf x
  s.inService n && s.covers n x && !s.flag R.LN_SPARE_STAT_CARRYING n && !(s.lane n).used

/-- The spare of lane `x` is free to carry it: found, and shadowing no other lane (R461). -/
def State.spareReady (s : State) (x : Nat) : Bool := s.spareFound x && !s.flag R.LN_SPARE_STAT_SHADOW (spareOf x)

/-- An automatic substitution of a lane runs, or waits (R467). -/
def State.lanesBusy (s : State) : Bool := !s.sist.laneRun.isEmpty || !s.sist.lanePend.isEmpty

/-- LANE_SUBST_TRIGGER (R460, R461): with AUTO the substitution starts at the next tick, or after the one that runs, which decides whether
it finds a spare (R467). -/
def execLaneSubstTrigger (x : Fin 256) (why : LaneTrigger) (s : State) : Out :=
  .next (
    if !s.laneTriggers x.val why || s.sist.lanePend.contains x.val || s.sist.laneRun.contains x.val then s
    else if !s.spareFound x.val && !s.lanesBusy then s.exhausted
    else if s.autoSubst 0 then (s.updSist (fun t => { t with lanePend := t.lanePend ++ [x.val] })).showBusy
    else s.needSubst classLane x.val)

/-- The substitution of lane `x` starts: TARGET, staged and active, and PREP on its spare (R82, R460). -/
def State.startLane (s : State) (x : Nat) : State :=
  let n := spareOf x
  let s1 := (s.setFld R.LN_SPARE_CTRL_TARGET n (x % 16)).setStg R.LN_SPARE_CTRL_TARGET n (x % 16)
  (s1.spareCtrlEffect n 16).updSist (fun t => { t with laneRun := [x] })

/-- The substitution of lane `x` runs no longer. -/
def State.endLane (s : State) : State := (s.updSist (fun t => { t with laneRun := [] })).showBusy

/-- The substitution of lane `x` at a tick: done once the spare carries it, abandoned when the spare leaves SERVICE or its PREP has failed
(R84), and SELECT when the spare is ready (R82). -/
def State.runLane (s : State) (x : Nat) : State :=
  let n := spareOf x
  let l := s.lane n
  if s.flag R.LN_SPARE_STAT_CARRYING n then s.endLane.substDoneAt classLane x n (l.selOwn.getD s.frame)
  else if !s.inService n || (!s.flag R.LN_SPARE_STAT_SHADOW n && l.out.isNone && l.outQueue.isEmpty) then s.endLane
  else if s.flag R.LN_SPARE_STAT_READY n && l.selOwn.isNone then s.spareCtrlEffect n 32
  else s

/-- A waiting trigger of lane `x` is taken: its substitution starts, or finds no spare (R460, R461). -/
def State.takeLane (s : State) (x : Nat) : State :=
  let s1 := s.updSist (fun t => { t with lanePend := t.lanePend.erase x })
  if s1.spareFound x then s1.startLane x else s1.exhausted.showBusy

/-- Lane substitutions at a tick (R461, R467): the one that runs, or the first that waits and whose spare shadows no other lane. WIPE_HALT stops
them (R485). -/
def State.tickLaneSubst (s : State) : State :=
  match s.sist.laneRun with
  | x :: _ => s.runLane x
  | [] =>
    match s.sist.lanePend.find? (fun x => s.spareReady x || !s.spareFound x) with
    | some x => s.takeLane x
    | none => s

/-! ### Scribe engines (R466) -/

/-- A compile in progress restarts from its beginning (R466). -/
def State.restartCompile (s : State) : State :=
  match s.chg with
  | some c => if c.state = .compiling then s.startCompile c else s
  | none => s

/-- The core cycles that a compile of a change may take, `n` its records and the output slots that its bent edits add, with the engines in service
(R203, R466, R469). -/
def State.compileBound (s : State) (n : Nat) : Nat := 165888 + 75 * n * 64 / s.fld R.SCB_STAT_ENGINES

/-- SCRIBE_ENGINE_RETIRE (R460, R466, R469): a spare engine takes the place of engine `e`; with none left one engine fewer serves. A compile in
progress restarts. -/
def execScribeEngineRetire (e : Fin 68) (s : State) : Out :=
  .next (
    let n := s.fld R.SCB_STAT_SPARES
    if n = 0 then (s.exhausted.setFld R.SCB_STAT_ENGINES 0 (s.fld R.SCB_STAT_ENGINES - 1)).restartCompile
    else
      let s1 := (s.setFld R.SCB_STAT_SPARES 0 (n - 1)).setFld R.TLY_SPARES_SCRIBE 0 (n - 1)
      ((s1.latch R.SCB_EVT_ENGINE_SUB).substDone classScribe e.val (68 - n)).restartCompile)

end Sys2Proof.Machine
end

