-- ==== Sys2Proof/Machine/Guard.lean ====
section
/-! DEFINITION. The life cycle, tamper, and the wipe that both make (R417, R427, R476 to R485), and where raising starts at P0, which the tamper
monitors may halt (R333, R335, R342, R501).
Readings and choices: DEDUCED (log entries 23 and 24), PRESUMED (log entry 59). -/

namespace Sys2Proof.Machine

/-- The hidden state of the life-cycle and tamper units changed by `f`. -/
def State.updGuard (s : State) (f : Guarding → Guarding) : State := { s with guarding := f s.guarding }

/-- TLY_LC_RESULT (R478). -/
def State.lcResult (s : State) (code : Nat) : State := s.updTally (fun t => { t with result := code })

/-! ### The authorisation record (R477, R478) -/

/-- The 384 bytes of the record at TLY_LC_AUTH.OFFSET of the mailbox bank; bytes beyond the bank are 0. -/
def State.lcRecord (s : State) : List (BitVec 8) :=
  (List.range 384).map (fun k =>
    let a := 16 * s.fld R.TLY_LC_AUTH_OFFSET + k
    if a < 0x100000 then s.byte (0x10280000 + a) else 0)

/-- A transition of R476 is allowed. -/
def allowedTransition (now target : Nat) : Bool :=
  (now == 0 && target == 1) || (now == 1 && target == 2) || (now == 2 && target == 3) || (now == 3 && target == 2)
    || (now == 3 && target == 4)

/-- The number of programmed slots from 1 to 3 that are not revoked, slot `k` apart. -/
def State.slotsLeft (s : State) (k : Nat) : Nat :=
  ((List.range 4).filter (fun j => j != 0 && j != k && s.fuses.programmed.getLsbD j && !s.fuses.revoked.getLsbD j)).length

/-- The checks of R478 in order: a code, and whether the check fails. A REVOKE whose TARGET is no slot from 1 to 3 fails TRANSITION
(DEDUCED: log entry 9). -/
def State.lcChecks (s : State) (r : List (BitVec 8)) : List (Nat × Bool) :=
  let op := leAt r 4 1
  let target := leAt r 5 1
  let key := leAt r 6 1
  let keyOk :=
    if op = 1 ∧ s.lifeCode = 0 then key == 0
    else decide (1 ≤ key) && decide (key ≤ 3) && !s.fuses.revoked.getLsbD key && !(op == 2 && key == target)
  [(0x2, leAt r 0 4 != 0x41434C51 || (op != 1 && op != 2) || leAt r 7 1 != 0 || leAt r 20 4 != 0 || !zeroIn r 360 384),
   (0x3, leAt r 8 8 != s.fld R.DEV_SERIAL_SERIAL),
   (0x4, leAt r 16 4 != s.fld R.TLY_LC_NONCE_NONCE),
   (0x5, if op = 1 then !allowedTransition s.lifeCode target
         else !(decide (1 ≤ s.lifeCode) && decide (s.lifeCode ≤ 3) && decide (1 ≤ target) && decide (target ≤ 3))),
   (0x6, !keyOk || !s.slotHash key (BitVec.ofNat 384 (sha384 (slice r 168 96)))),
   (0x7, !ecdsaValid (ofBeBytes (slice r 168 48)) (ofBeBytes (slice r 216 48)) (ofBeBytes (slice r 264 48)) (ofBeBytes (slice r 312 48))
      (sha384 (r.take 264))),
   (0x8, op == 2 && s.slotsLeft target == 0)]

/-- The first check that fails (R478). -/
def State.lcFault (s : State) (r : List (BitVec 8)) : Option Nat := ((s.lcChecks r).find? (·.2)).map (·.1)

/-! ### The operation (R477) -/

/-- The effect of a write of TLY_LC_CTRL (R477): GO starts verification; while one is pending it only sets the code BUSY. -/
def State.lcCtrl (s : State) (w : Nat) : State :=
  if bit w 0 = 0 then s
  else if s.flag R.TLY_LC_STAT_PENDING then s.lcResult 0x9
  else s.setFlag R.TLY_LC_STAT_PENDING 0 true

/-- A new nonce (R477). -/
def State.newNonce (s : State) : State := (s.setFld R.TLY_LC_NONCE_NONCE 0 (Config.nonce s.free)).drawn

/-- An operation ends without effect (R477, R485). -/
def State.lcRefuse (s : State) (code : Nat) : State :=
  ((s.setFlag R.TLY_LC_STAT_PENDING 0 false).lcResult code).latch R.TLY_EVT_LC_REFUSED

/-- The hash of slot `k` in the record: 48 bytes, big-endian. -/
def ownerHash (r : List (BitVec 8)) (k : Nat) : BitVec 384 := BitVec.ofNat 384 (ofLeBytes ((r.drop (24 + 48 * (k - 1))).take 48).reverse)

/-- The fuses of slots 1 to 3 as BLANK → PROVISIONED programs them: an all-zero hash leaves its slot unprogrammed (R478). -/
def ownerFuses (f : Fuses) (r : List (BitVec 8)) : Fuses :=
  { f with
    hashes := (List.range 4).map (fun k => if k = 0 || f.programmed.getLsbD k then f.hashes.getD k 0 else ownerHash r k)
    programmed := (List.range 4).foldl (fun v k => if k ≠ 0 ∧ ownerHash r k ≠ 0 then v ||| BitVec.ofNat 4 (2 ^ k) else v) f.programmed }

/-- The fuses and the SERVICE flag as a transition from `now` to `target` leaves them (R476, R477 step 5). -/
def State.enterLife (s : State) (r : List (BitVec 8)) (now target : Nat) : State :=
  let f := if now = 0 then ownerFuses s.fuses r else s.fuses
  let life : Fin 4 := if target = 1 then 1 else if target = 4 then 3 else 2
  (s.updTally (fun t => { t with service := target == 3 })).blow { f with life := life }

/-- LC_VERIFY_DONE (R477, R478): the record is refused with its code; or the pending transition is written, and the fuses or the flag are
programmed before the next tick. NONCE changes either way. -/
def execLcVerifyDone (s : State) : Out :=
  .next (
    if !s.flag R.TLY_LC_STAT_PENDING || s.guarding.done.isSome then s
    else
      let r := s.lcRecord
      match s.lcFault r with
      | some code => s.newNonce.lcRefuse code
      | none =>
        let op := leAt r 4 1
        let target := leAt r 5 1
        let now := s.lifeCode
        let s1 := s.newNonce.updTally (fun t => { t with pend := some (op, target) })
        s1.updGuard (fun g => { g with done := some (op, target, leAt r 6 1, now), doneAt := s.frame, auth := r }))

/-- A life-cycle operation whose fuses are not programmed is abandoned, its pending transition with it (R485). -/
def State.abandonLc (s : State) : State :=
  if s.flag R.TLY_LC_STAT_PENDING && (s.guarding.done.isNone || !s.guarding.auth.isEmpty) then
    let s1 := if s.guarding.done.isNone then s.newNonce else s
    ((s1.updGuard (fun g => { g with done := none, auth := [] })).updTally (fun t => { t with pend := none })).lcRefuse 0xB
  else s

/-- The fuses, or the flag, are programmed by the tick after the pending transition was written (R477 step 5), unless a tamper response runs, which
abandons it (R485). Power lost before leaves them as they were (R479). -/
def State.programLife (s : State) : State :=
  if s.guarding.running then s.abandonLc
  else match s.guarding.done with
  | some (op, target, _, now) =>
    if s.guarding.auth.isEmpty then s
    else
      let s1 := s.updGuard (fun g => { g with auth := [] })
      if op = 1 then s1.enterLife s.guarding.auth now target
      else s1.blow { s1.fuses with revoked := s1.fuses.revoked ||| BitVec.ofNat 4 (2 ^ target) }
  | none => s

/-! ### The wipe (R417, R427, R484) -/

/-- The mate journal is discarded: JOVERFLOW, JSENT shows the gap, and the standby takes a full copy (R310, R484). -/
def State.wipeJournal (s : State) : State :=
  if !s.paired then s
  else
    let seq := if s.isActive then (s.mate.jSeq + 1) % 2 ^ 32 else s.mate.jSeq
    let s1 := { s with mate := { s.mate with journal := [], jSeq := seq } }
    let s2 := (((s1.setFld R.MAT_JSENT_VALUE 0 seq).setFlag R.MAT_JFILL_OVERFLOW 0 true).latch R.MAT_EVT_JOVERFLOW).countJournal
    if s.isActive then s2.newCopy else s2

/-- The rings of the lost regions restart, and the maintenance channel's DMA stops on every lane (R484). -/
def State.wipeRings (s : State) : State :=
  let s1 := ((s.setFld R.MGT_LOG_IDX_NEXT 0 0).setFld R.MGT_LOG_IDX_WRAPPED 0 0).setFld R.CNT_ARCH_IDX_NEXT 0 0
  let s2 := ((s1.setFld R.CNT_ARCH_IDX_WRAPPED 0 0).setFld R.PEG_DMA_IDX_HEAD 0 0).setFld R.PEG_DMA_IDX_TAIL 0 0
  let s3 := ((s2.setFld R.PLB_HIST_IDX_NEXT 0 0).setFld R.PLB_HIST_IDX_WRAPPED 0 0).updPlumb (fun p => { p with kept := true })
  (List.range 280).foldl (fun t n => t.setFlag R.LN_MCH_CTRL_ENABLE n false) s3

/-- A wipe (R484): the secure bank and DDR5 are lost, the rows of the recovery begin, and the schedule memories stay. -/
def State.wipe (s : State) : State :=
  let s1 := (s.clearRange 0x10380000 0x103A0000).rekey
  let s2 := (((s1.setFlag R.TLY_STAT_REKEY 0 true).setFlag R.TLY_REKEY_LONGPATH 0 true).setFlag R.TLY_REKEY_MAP 0 true).setFlag
    R.TLY_REKEY_SCENES 0 true
  let s3 := { s2.satFld R.TLY_REKEY_WIPES 0 1 with longMem := {} }
  let s4 := s3.wipeJournal.wipeRings
  let s5 := if s4.imgBusy then s4.updRaise (fun r => { r with opLost := true }) else s4
  s5.updGuard (fun g => { g with wipeAt := s.frame, wiping := true })

/-- MAP_REBUILD_DONE (R484): the logical map answers again, and changes leave QUEUED. -/
def execMapRebuildDone (s : State) : Out := .next (s.setFlag R.TLY_REKEY_MAP 0 false)

/-- SCENE_RELOAD_DONE (R339, R484): the running slot is good under R358, and its scenes fill the region again. -/
def execSceneReloadDone (img : ImageBytes) (s : State) : Out :=
  .next (
    if !s.flag R.TLY_REKEY_SCENES || (s.imageFault (s.imageOf img) s.slotRoom).isSome then s
    else (s.fillScenes (s.imageOf img)).1.setFlag R.TLY_REKEY_SCENES 0 false)

/-- No word under the former keys is left on the long path (R484). -/
def State.stripesGone (s : State) : Bool :=
  !s.ticking || decide (2049 ≤ s.sinceFrame s.guarding.wipeAt) || s.tap.entries.all (fun e => e.2.entries.isEmpty)

/-- REKEY_DONE (R484): every row of the recovery is complete. -/
def execRekeyDone (s : State) : Out :=
  .next (
    if s.flag R.TLY_STAT_REKEY && !s.flag R.TLY_REKEY_MAP && !s.flag R.TLY_REKEY_SCENES && s.stripesGone then
      ((s.setFlag R.TLY_REKEY_LONGPATH 0 false).setFlag R.TLY_STAT_REKEY 0 false).latch R.TLY_EVT_REKEY_DONE
    else s)

/-- At a tick the zeroing of the secure bank is over (R417), and the long path's row ends by itself (R484). -/
def State.tickRekey (s : State) : State :=
  let s1 := s.updGuard (fun g => { g with wiping := false })
  if s1.flag R.TLY_REKEY_LONGPATH && s1.stripesGone then s1.setFlag R.TLY_REKEY_LONGPATH 0 false else s1

/-! ### Tamper (R480 to R485) -/

/-- A spare lane that an automatic substitution has selected, and that has switched neither way, switches no more (R485). -/
def State.stopSelect (s : State) (n : Nat) : State :=
  s.updLane n (fun l => if l.rxSw || l.txSw then l else { l with selOwn := none, selPeer := none, selWait := false })

/-- Every automatic substitution stops (R485). A DPLL core under its built-in test stays out of service (DEDUCED: log entry 24). -/
def State.stopSubst (s : State) : State :=
  let s1 := (s.sist.laneRun.foldl (fun t x => t.stopSelect (spareOf x)) s).updPlumb (fun p =>
    { p with test := if 2 ≤ p.test then 0 else p.test })
  (s1.updSist (fun x => { x with
    lanePend := [], laneRun := [], lamPend := none, lamWait := [], lamRun := none, fecWait := [], joiner := none, joinerWait := []
    fec := x.fec.keep (fun _ f => !f.running) })).showBusy

/-- A live update stops (R485); the code that IMG_LIVE_STAT takes is not stated (DESIGN CHOICE: log entry 8). -/
def State.stopLive (s : State) : State :=
  if s.liveState = liveWaiting ∨ s.liveState = liveRunning ∨ s.liveState = liveRollback then (s.liveRefuse (Config.open' s.free)).drawn
  else s

/-- Management is locked (R483): no port owns, and the claims of the frame are refused. -/
def State.lockPorts (s : State) : State :=
  let s1 := s.own.claims.foldl (fun t c => t.latchFor R.MGT_EVT_CLAIM_REFUSED c.1) s
  (((s1.updOwn (fun o => { o with claims := [] })).cancelHandover).endOwner).setFlag R.TLY_STAT_LOCKED 0 true

/-- What TLY_TAMP_CFG.POLICY does beyond the wipe (R482, R485). -/
def State.tamperPolicy (s : State) : State :=
  let p := s.fld R.TLY_TAMP_CFG_POLICY
  if p = 1 then s.lockPorts
  else if p = 2 then (((s.lockPorts.setFlag R.TLY_STAT_HALTED 0 true).failDevice).stopLive).stopSubst
  else s


/-- A tamper condition before the end of P2 halts raising for good (R485). -/
def State.tamperRaising (s : State) : State :=
  if s.raise.running && decide (s.phase ≤ 2) then
    let s1 := (s.setFlag R.IMG_RAISE_HALTED 0 true).setFlag R.IMG_RAISE_RECOVERY 0 false
    s1.setFld R.IMG_RAISE_FAIL 0 imgTamper
  else s

/-- A tamper response starts for the sources of `mask` (R481, R482). -/
def State.startResponse (s : State) (mask : Nat) : State :=
  let s1 := (s.updGuard (fun g => { g with mask := mask, running := true })).setFld R.TLY_TAMP_STAT_LAST 0 mask
  let s2 := ((s1.satFld R.TLY_TAMP_STAT_COUNT 0 1).latch R.TLY_EVT_TAMPER).abandonLc
  let s3 := (s2.wipe.tamperPolicy).tamperRaising
  if s3.ticking then s3 else s3.endResponse

/-- The sources of `src` that act: inputs that IN_EN makes active, and the monitors (R480), of which RESET_N disarms those of the voltage and of
the clock (R502). -/
def State.activeSources (s : State) (src : Nat) : Nat :=
  Nat.land src (s.fld R.TLY_TAMP_CFG_IN_EN + (if s.raise.held then 0x40 else 0x70))

/-- The sources that act and did not act before start a response, or join the one that runs; one that holds starts none (R480, R481). Called
wherever a source, or what makes one act, may have changed. -/
def State.tamperCheck (s : State) : State :=
  let now := s.activeSources s.guarding.asserted
  let fresh := Nat.land now (0x7F - s.guarding.seen)
  let s1 := s.updGuard (fun g => { g with seen := now })
  if fresh = 0 then s1
  else if s1.guarding.running then
    let m := Nat.lor s1.guarding.mask fresh
    ((s1.updGuard (fun g => { g with mask := m })).setFld R.TLY_TAMP_STAT_LAST 0 m).abandonLc
  else s1.startResponse fresh

/-- TAMPER_CONDITION (R480, R481): the sources asserted change. -/
def execTamperCondition (src : BitVec 7) (s : State) : Out :=
  .next (
    (((s.setFld R.TLY_TAMP_STAT_IN 0 (bits src.toNat 0 4)).setFld R.TLY_TAMP_STAT_MON 0 (bits src.toNat 4 3)).updGuard
      (fun g => { g with asserted := src.toNat })).tamperCheck)

/-- Raising starts at P0, RESET_N being high: the monitors act again, and a tamper condition that holds halts it, be it a new one or not (R333, R485,
R501). -/
def State.raiseP0 (s : State) (retry : Bool) : State :=
  let s1 := s.backToP0 true retry false
  let s2 := s1.tamperCheck
  if s1.activeSources s1.guarding.asserted = 0 then s2 else s2.tamperRaising

/-- RAISE_START (R333, R501): the supplies are in tolerance and RESET_N is high, so the monitors that RESET_N disarmed act again; P0 begins, unless
raising runs, or an instruction of the TAP holds the balls: then P0 begins as the TAP leaves it (R342; DEDUCED: log entry 23). -/
def execRaiseStart (s : State) : Out :=
  .next (
    if s.raise.running then s
    else if s.raise.jtag then (s.updRaise (fun r => { r with held := false, stopped := true })).tamperCheck
    else s.raiseP0 false)

/-- RAISE_WATCHDOG (R335): RAISE_MAX seconds after P3 began the device raises again from P0. A raising that has halted does not restart. -/
def execRaiseWatchdog (s : State) : Out :=
  .next (if s.raising && decide (3 ≤ s.phase) then s.raiseP0 true else s)

/-- The TAP leaves an instruction that held the balls (R342): a raising that it stopped starts again at P0. -/
def State.jtagLeaves (s : State) : State :=
  let s1 := s.updRaise (fun r => { r with jtag := false })
  if s.raise.stopped then s1.raiseP0 false else s1

/-- JTAG_EXTEST_LOAD (R342, R404, R476): where the instruction takes control of the balls raising stops, and the paths of the matrix are parked on M8;
any other lets them go. -/
def execJtagExtestLoad (k : JtagKind) (s : State) : Out :=
  .next (
    if s.jtagTakes k then
      let s1 := s.setFld R.MTX_STAT_PARK 0 8
      if s1.raising then s1.updRaise (fun r => { r with jtag := true, running := false, stopped := true })
      else s1.updRaise (fun r => { r with jtag := true })
    else if s.raise.jtag then s.jtagLeaves else s)

/-- JTAG_EXTEST_LEAVE (R342). -/
def execJtagExtestLeave (s : State) : Out := .next s.jtagLeaves

/-- The fuses have been programmed: the wipe and the record of a transition, or the record of a revocation (R477). -/
def State.lcEnd (s : State) (op target key now : Nat) : State :=
  let s1 := ((s.updGuard (fun g => { g with done := none })).lcResult 0x1).updTally (fun t =>
    { t with pend := none, life := s.lifeCode, services := t.services + (if op = 1 ∧ target = 3 then 1 else 0) })
  let s2 := ((s1.setFlag R.TLY_LC_STAT_PENDING 0 false).setFld R.TLY_LC_STAT_STATE 0 s.lifeCode).setFld
    R.TLY_LC_STAT_REVOKED 0 s.fuses.revoked.toNat
  let s3 := if op = 1 then s2.wipe.tallyAdd tallyLife 0 0 [now, target, key, 0x1] else s2.tallyAdd tallyRevoke 0 0 [target, key]
  s3.latch R.TLY_EVT_LC_DONE

/-- LC_WIPE (R477): the tick after the fuses were programmed. A DECOMMISSIONED device raises from P0. -/
def execLcWipe (s : State) : Out :=
  .next (State.stampTick (
    match s.guarding.done with
    | none => s
    | some (op, target, key, now) =>
      if !frameLater s.frame s.guarding.doneAt then s
      else if op = 1 ∧ target = 4 then (s.lcEnd op target key now).raiseP0 false
      else s.lcEnd op target key now) s)

/-- SLOT_VERIFY_DONE (R340, R348, R358, R361, R362, R480): a slot has been verified; where P2 ends with it the image's tamper inputs act. -/
def execSlotVerifyDone (img : ImageBytes) (s : State) : Out := .next (s.slotVerified img).tamperCheck

/-- IMG_OP_DONE (R343, R362, R364, R365, R367, R480): the operation in progress ends; where raising goes on with its image, the image's tamper
inputs act. -/
def execImgOpDone (img : ImageBytes) (s : State) : Out := .next (s.imgOpDone img).tamperCheck

end Sys2Proof.Machine
end

