-- ==== Sys2Proof/Machine/Holdover.lean ====
section
/-! DEFINITION. The holdover model: the history ring, the fit, deviations, rollback and the end of an epoch (R280 to R286).
Readings and choices: DESIGN CHOICE (log entry 8), DEDUCED (log entries 11 and 38). -/

namespace Sys2Proof.Machine

/-- A record of the history ring (R280). -/
structure HistRec where
  epoch : Nat
  freq : Int
  temp : Int
  ref : Nat
  dev : Nat
  flags : Nat
deriving DecidableEq, Repr

/-- The address of ring entry `k` (R280). -/
def State.histAddr (s : State) (k : Nat) : Nat := s.fld R.PLB_HIST_BASE_BASE + 16 * (k % 16384)

/-- The record in ring entry `k` (R280). -/
def State.readHist (s : State) (k : Nat) : HistRec :=
  let a := s.histAddr k
  { epoch := s.readLe a 4, freq := toInt 40 (s.readLe (a + 4) 5), temp := toInt 16 (s.readLe (a + 9) 2),
    ref := bits (s.readLe (a + 11) 1) 0 4, dev := s.readLe (a + 12) 2, flags := s.readLe (a + 14) 1 }

/-- A record is written to the ring, and PLB_HIST_IDX advances (R280). -/
def State.writeHist (s : State) (r : HistRec) : State :=
  let k := s.fld R.PLB_HIST_IDX_NEXT
  let s1 := if s.fld R.PLB_HIST_BASE_BASE = 0 then s else
    s.writeBytes (s.histAddr k) (leBytes 4 r.epoch ++ leBytes 5 (toWord 40 r.freq) ++ leBytes 2 (toWord 16 r.temp) ++
      leBytes 1 r.ref ++ leBytes 2 r.dev ++ leBytes 1 r.flags ++ leBytes 1 0)
  (s1.setFld R.PLB_HIST_IDX_NEXT 0 (k + 1)).setFlag R.PLB_HIST_IDX_WRAPPED 0 (s.flag R.PLB_HIST_IDX_WRAPPED || k == 16383)

/-- The ring entries written so far, newest first. -/
def State.histEntries (s : State) : List Nat :=
  let n := s.fld R.PLB_HIST_IDX_NEXT
  if s.fld R.PLB_HIST_BASE_BASE = 0 then []
  else (List.range (if s.flag R.PLB_HIST_IDX_WRAPPED then 16384 else n)).map (fun j => (n + 16383 - j) % 16384)

/-- A record counts in a fit: VALID and not EXCLUDED (R281). -/
def HistRec.fits (r : HistRec) : Bool := r.flags.testBit 0 && !r.flags.testBit 1

/-- The records of the learning window that ends with epoch `last`, newest first (R281). -/
def State.window (s : State) (last : Int) : List HistRec :=
  ((s.histEntries.map s.readHist).takeWhile (fun r => decide (last - s.fld R.PLB_LEARN_CFG_LEARN_WIN < (r.epoch : Int)))).filter
    (fun r => decide ((r.epoch : Int) ≤ last))

/-- Records of ring entries are read from DDR5, each once: the units of a channel that is missing are rebuilt and counted (R428, R434, R438;
DEDUCED: log entry 38). -/
def State.readHists (s : State) (ks : List Nat) : State := s.readUnits (ks.flatMap (fun k => ddrUnits (s.histAddr k - ddrBase) 16))

/-- The ring entries that hold the records of the learning window that ends with epoch `last`. -/
def State.windowEntries (s : State) (last : Int) : List Nat :=
  (s.histEntries.takeWhile (fun k => decide (last - s.fld R.PLB_LEARN_CFG_LEARN_WIN < ((s.readHist k).epoch : Int)))).filter
    (fun k => decide (((s.readHist k).epoch : Int) ≤ last))

/-- The magnitude of a record's DEV is known and at most SOFT ÷ 4 (R284, R286). -/
def smallDev (soft dev : Nat) : Bool := dev != 0x8000 && decide (4 * (toInt 16 dev).natAbs ≤ soft)

/-- Entry `k` is marked EXCLUDED (R282, R284). -/
def State.exclude (s : State) (k : Nat) : State :=
  let a := s.histAddr k + 14
  s.writeLe a 1 (orBit (s.readLe a 1) 1)

/-! ### The fit (R281) -/

/-- The least-squares fit of FREQ against time and TEMP: FREQ = (c + a x + k T) ÷ d, with x the middle of a record's epoch in units of 50 s
from the end of the newest record, and T its TEMP; the mean TEMP is tsum ÷ n. Where every record has the same TEMP, the fit leaves k open, `kd` is
0 rather than `d`, and FREQ at that TEMP is (c + a x) ÷ d. -/
structure Fit where
  n : Nat
  last : Nat
  c : Int
  a : Int
  k : Int
  d : Int
  kd : Int
  tsum : Int
deriving DecidableEq, Repr

/-- The sum of `f` over records. -/
def sumOf (l : List HistRec) (f : HistRec → Int) : Int := (l.map f).sum

/-- The determinant of a 3 × 3 matrix, by rows. -/
def det3 (a b c d e f g h i : Int) : Int := a * (e * i - f * h) - b * (d * i - f * g) + c * (d * h - e * g)

/-- The fit of R281 over the records that count (DEDUCED: log entry 11 says which instant of an epoch its mean frequency stands for). -/
def fitOf (l : List HistRec) : Fit :=
  let last := (l.head?.map HistRec.epoch).getD 0
  let x := fun (r : HistRec) => 2 * ((r.epoch : Int) - last) - 1
  let n : Int := l.length
  let sx := sumOf l x
  let st := sumOf l (fun r => r.temp)
  let sy := sumOf l (fun r => r.freq)
  let sxx := sumOf l (fun r => x r * x r)
  let sxt := sumOf l (fun r => x r * r.temp)
  let stt := sumOf l (fun r => r.temp * r.temp)
  let sxy := sumOf l (fun r => x r * r.freq)
  let sty := sumOf l (fun r => r.temp * r.freq)
  let d := det3 n sx st sx sxx sxt st sxt stt
  if n * stt = st * st then
    { n := l.length, last := last, tsum := st, d := n * sxx - sx * sx, kd := 0, c := sy * sxx - sx * sxy, a := n * sxy - sx * sy, k := 0 }
  else { n := l.length, last := last, tsum := st, d := d, kd := d
         c := det3 sy sx st sxy sxx sxt sty sxt stt
         a := det3 n sy st sx sxy sxt st sty stt
         k := det3 n sx sy sx sxx sxy st sxt sty }

/-- The fit has a model: enough records enter it (R281). -/
def State.fitValid (s : State) (f : Fit) : Bool := decide (max 1 (s.fld R.PLB_HOLD_CFG_LEARN_MIN) ≤ f.n)

/-- A fitted value in its register's units: the rounded quotient where it is defined and fits, else a free value (DESIGN CHOICE: log entries
7 and 8). -/
def fitValue (w draw : Nat) (num den : Int) : Nat :=
  let v := roundQ draw num den
  if den != 0 && decide (-(2 ^ (w - 1) : Nat) ≤ v) && decide (v < (2 ^ (w - 1) : Nat)) then toWord w v else Config.open' draw

/-- The model in force becomes this fit (R281). -/
def State.install (s : State) (f : Fit) : State :=
  let v := s.fitValid f
  let s1 := ((s.setFld R.PLB_HOLD_STAT_RECORDS 0 f.n).setFlag R.PLB_HOLD_STAT_VALID 0 v).setFlag R.PLB_STATUS_MODEL_VALID 0 v
  if !v then s1
  else
    let s2 := ((s1.updPlumb (fun p => { p with te := f.last })).setFld R.PLB_HOLD_T0_T0 0 (fitValue 16 s1.free f.tsum f.n)).drawn
    let s3 := (s2.setFld R.PLB_HOLD_FREQ_F0 0 (fitValue 40 s2.free (f.c * f.n + f.k * f.tsum) (f.d * f.n))).drawn
    let s4 := (s3.setFld R.PLB_HOLD_AGE_VALUE 0 (fitValue 32 s3.free (20000 * f.a) f.d)).drawn
    (s4.setFld R.PLB_HOLD_TCO_VALUE 0 (fitValue 32 s4.free (100 * f.k) f.kd)).drawn

/-- The model is fitted over the learning window that ends with epoch `last` (R281, R282, R284). After a wipe a valid model stays in force
until enough new records exist (R484). -/
def State.refit (s : State) (last : Int) : State :=
  let f := fitOf ((s.window last).filter HistRec.fits)
  let s1 := s.readHists (s.windowEntries last)
  if s1.plumb.kept && s1.flag R.PLB_HOLD_STAT_VALID && !s1.fitValid f then s1
  else (s1.updPlumb (fun p => { p with kept := false })).install f

/-- LEARN_RESET (R282): every record is marked EXCLUDED, and the model is invalid. -/
def State.learnReset (s : State) : State :=
  let s1 := (s.readHists s.histEntries).histEntries.foldl State.exclude (s.readHists s.histEntries)
  (s1.updPlumb (fun p => { p with kept := false })).install (fitOf [])

/-! ### PLB_CTRL (R268, R279, R282) -/

/-- A write of PLB_CTRL: a command waits for the next tick; REALIGN acts in LOCKED; LEARN_RESET acts at once. -/
def State.plbCtrl (s : State) (w : Nat) : State :=
  let c := bits w 0 3
  let s1 := if 1 ≤ c && c ≤ 3 then s.updPlumb (fun p => { p with cmd := some (c, bits w 4 4) }) else s
  let s2 := if bit w 8 = 1 && s1.plb = plbLocked then
      s1.updPlumb (fun p => { p with realign := s1.fld R.PLB_BUILDOUT_VALUE != 0 }) else s1
  if bit w 9 = 1 then s2.learnReset else s2

/-! ### Deviations (R283 to R286) -/

/-- A number joins a rising list. -/
def insertInt (l : List Int) (v : Int) : List Int :=
  match l with
  | [] => [v]
  | a :: t => if v ≤ a then v :: a :: t else a :: insertInt t v

/-- The median of a list of integers; where the middle is two numbers, their mean, rounded (DESIGN CHOICE: log entry 7). -/
def median (draw : Nat) (l : List Int) : Int :=
  let m := l.foldl insertInt []
  let k := m.length / 2
  if m.length % 2 = 1 then m.getD k 0 else roundQ draw (m.getD (k - 1) 0 + m.getD k 0) 2

/-- What the measurements give for reference `i`. -/
def meanOf (e : EpochMeas) (i : Nat) : Option Int := (e.refs[i]?).map (fun r => r.mean.toInt)

/-- The records of the learning window that ends DRIFT_LAG epochs earlier; `cur` is the record of the epoch that ends (R283). -/
def State.lagged (s : State) (cur : HistRec) : List HistRec :=
  let lag := s.fld R.PLB_LEARN_CFG_DRIFT_LAG
  (if lag = 0 then [cur] else []) ++ s.window ((s.plumb.epoch : Int) - lag)

/-- The mean FREQ that a model gives for ten epochs, whose middle is `x` and whose TEMPs add up to `tsum`, as a numerator and a denominator (R281,
R283): where the fit leaves k open, `k` is it, in PLB_HOLD_TCO's units. -/
def Fit.mean (f : Fit) (x tsum k : Int) : Int × Int :=
  if f.kd = 0 then (100 * f.n * 10 * (f.c + f.a * x) + f.d * k * (f.n * tsum - 10 * f.tsum), 100 * f.n * 10 * f.d)
  else (10 * (f.c + f.a * x) + f.k * tsum, 10 * f.d)

/-- The deviation of reference `i` at the end of an epoch whose record would be `cur`, in units of 10^-12, where it can be evaluated (R283). -/
def State.deviation (s : State) (e : EpochMeas) (cur : HistRec) (i : Nat) : Option Int :=
  let others := ((List.range 13).filter (fun j => j != i && s.refQualified j)).filterMap (meanOf e)
  match meanOf e i with
  | none => none
  | some f =>
    if !s.refQualified i then none
    else if 2 ≤ others.length then some (f - median (s.free + i) others)
    else
      let lag := fitOf ((s.lagged cur).filter HistRec.fits)
      let recent := (s.histEntries.take 9).map s.readHist
      if !s.fitValid lag || recent.length < 9 then none
      else
        let tsum := sumOf recent (fun r => r.temp) + e.temp.toInt
        let x := 2 * ((s.plumb.epoch : Int) - lag.last) - 10
        let (num, den) := lag.mean x tsum (toInt 32 (Config.open' (s.free + 13)))
        if den = 0 then some (toInt 32 (Config.open' (s.free + i)))
        else some (roundQ (s.free + i) (1000 * den * f - num) (1000 * den))

/-- A deviation as PLB_REFi_DEV and as a record hold it (R280, R283): saturating, and a code for none. -/
def devWord (w : Nat) (d : Option Int) : Nat :=
  match d with
  | none => 2 ^ (w - 1)
  | some v => toWord w (max (-(2 ^ (w - 1) : Nat) + 1) (min ((2 ^ (w - 1) : Nat) - 1) v))

/-- The entries that hold the records of the lagged window, and the newest nine, from which deviations are evaluated (R283). -/
def State.laggedEntries (s : State) : List Nat :=
  (s.windowEntries ((s.plumb.epoch : Int) - s.fld R.PLB_LEARN_CFG_DRIFT_LAG) ++ s.histEntries.take 9).eraseDups

/-- A reference other than that of the epoch cannot be judged against two more, so that the lagged model is needed (R283). -/
def State.needsLag (s : State) (e : EpochMeas) : Bool :=
  (List.range 13).any (fun i => s.refQualified i && (meanOf e i).isSome
    && decide (((List.range 13).filter (fun j => j != i && s.refQualified j && (meanOf e j).isSome)).length < 2))

/-- Rollback (R284): learning is frozen, E0 is found, every record from E0 on is marked EXCLUDED, and the model is refitted. -/
def State.rollback (s : State) (i : Nat) : State :=
  let soft := s.fld R.PLB_REFi_DRIFT_SOFT i
  let win := s.histEntries.filter (fun k => decide (s.plumb.epoch - s.fld R.PLB_LEARN_CFG_LEARN_WIN ≤ (s.readHist k).epoch))
  let e0 := match win.find? (fun k => smallDev soft (s.readHist k).dev) with
    | some k => (s.readHist k).epoch
    | none => match win.getLast? with
      | some k => (s.readHist k).epoch
      | none => s.plumb.epoch
  let s0 := s.readHists win
  let s1 := (s0.histEntries.filter (fun k => decide (e0 ≤ (s0.readHist k).epoch))).foldl State.exclude s0
  let s2 := ((s1.latch R.PLB_EVT_ROLLBACK).setFlag R.PLB_HOLD_STAT_FROZEN 0 true).setFld R.PLB_DRIFT_ONSET_EPOCH 0 e0
  (s2.updPlumb (fun p => { p with frozenRef := i, quiet := 0 })).refit ((e0 : Int) - 1)

/-- A reference is judged at the end of an epoch (R283 to R285). -/
def State.judgeRef (s : State) (d : Option Int) (i : Nat) (used : Bool) : State :=
  let mag := (d.map Int.natAbs).getD 0
  let soft := d.isSome && decide (s.fld R.PLB_REFi_DRIFT_SOFT i < mag)
  let hard := d.isSome && decide (s.fld R.PLB_REFi_DRIFT_HARD i < mag)
  let s1 := ((s.setFld R.PLB_REFi_DEV_VALUE i (devWord 32 d)).latchIf (soft && !s.flag R.PLB_REFi_STAT_SOFT i)
    R.PLB_REFi_EVT_DRIFT_SOFT i).latchIf (hard && !s.flag R.PLB_REFi_STAT_HARD i) R.PLB_REFi_EVT_DRIFT_HARD i
  let s2 := (s1.setFlag R.PLB_REFi_STAT_SOFT i soft).setFlag R.PLB_REFi_STAT_HARD i hard
  let s3 := if soft && used && !s2.flag R.PLB_HOLD_STAT_FROZEN then s2.rollback i else s2
  if hard && s3.refQualified i then s3.disqualify i
  else if s3.fld R.PLB_REFi_STAT_QUAL i = qualDisq && s3.refClean i then s3.startWait i
  else s3

/-- Whether learning thaws at the end of an epoch (R286). -/
def State.thaw (s : State) (used : Nat) (d : Option Int) : State :=
  if !s.flag R.PLB_HOLD_STAT_FROZEN then s
  else
    let q := if d.isSome && decide (4 * (d.getD 0).natAbs ≤ s.fld R.PLB_REFi_DRIFT_SOFT used) then s.plumb.quiet + 1 else 0
    let other := match s.plumb.epochRef with
      | some r => r != s.plumb.frozenRef
      | none => false
    (s.updPlumb (fun p => { p with quiet := q })).setFlag R.PLB_HOLD_STAT_FROZEN 0 (!(decide (36 ≤ q) || other))

/-- What was measured of the references is shown (R260). -/
def State.showMeas (s : State) (e : EpochMeas) : State :=
  ((List.range 13).zip e.refs).foldl (fun t p =>
    let (i, m) := p
    if !t.flag R.PLB_REFi_CFG_EN i then t
    else
      let t1 := (t.setFld R.PLB_REFi_FREQ_VALUE i m.freq.toNat).setFld R.PLB_REFi_TDEV_VALUE i m.tdev.toNat
      ([R.PLB_REFi_MTIE0_VALUE, R.PLB_REFi_MTIE1_VALUE, R.PLB_REFi_MTIE2_VALUE, R.PLB_REFi_MTIE3_VALUE].zip m.mtie).foldl
        (fun u q => u.setFld q.1 i q.2.toNat) t1) (s.setFld R.PLB_HOLD_T0_TNOW 0 e.now.toNat)

/-- EPOCH_END: deviations are judged, the record is written and the model refitted (R280 to R286). -/
def execEpochEnd (e : EpochMeas) (s : State) : Out :=
  .next (if s.plb = plbOff || s.frame % 800000 != 0 || s.plumb.epochEnd = some s.frame then s else
    let used := if s.plb = plbLocked then s.plbSel else 0xF
    let wasFrozen := s.flag R.PLB_HOLD_STAT_FROZEN
    let s0 := s.showMeas e
    let s1 := if s0.needsLag e then s0.readHists s0.laggedEntries else s0
    let p := s.plumb
    let sound := p.epochRef.isSome && !p.coast && !p.jump
    let cur : HistRec := { epoch := p.epoch, freq := e.freq.toInt, temp := e.temp.toInt, ref := used, dev := 0x8000,
                           flags := b2n (sound && !wasFrozen) + 2 * b2n wasFrozen }
    let d := if used = 0xF then none else s1.deviation e cur used
    let s2 := ({ s1 with free := s1.free + 14 }).thaw used d
    let s3 := (List.range 13).foldl (fun t i =>
      if t.flag R.PLB_REFi_CFG_EN i then t.judgeRef (s1.deviation e cur i) i (i == used)
      else t.setFld R.PLB_REFi_DEV_VALUE i (devWord 32 none)) s2
    let frozen := wasFrozen || s3.flag R.PLB_HOLD_STAT_FROZEN
    let valid := sound && !frozen
    let flags := b2n valid + 2 * b2n frozen + 4 * b2n p.sw + 8 * b2n p.jump + 16 * b2n p.coast
    let s4 := s3.writeHist { cur with dev := devWord 16 d, flags := flags }
    let held := s.plb == plbBridging || s.plb == plbHoldover || s.plb == plbExpired
    let s5 := if s3.flag R.PLB_HOLD_STAT_FROZEN || held then s4 else s4.refit p.epoch
    s5.updPlumb (fun q => { q with
      epoch := (q.epoch + 1) % 2 ^ 32, epochEnd := some s.frame, sw := false, jump := false, coast := s5.flag R.PLB_STATUS_COAST
      epochRef := if s.plb = plbLocked then some used else none }))

end Sys2Proof.Machine
end

