-- ==== Sys2Proof/Machine/Pegs.lean ====
section
/-! DEFINITION. Pegs and their histograms (R451 to R456).
Readings and choices: DEDUCED (log entry 36). -/

namespace Sys2Proof.Machine

/-! ### The selector (R451) -/

/-- The LFSR's next state (R451). -/
def lfsrNext (x : Nat) : Nat := (2 * x + (bit x 24 + bit x 21) % 2) % 2 ^ 25

/-- The LFSR's state before the next draw: PEG_SEED, or 1 where that is 0, at its start (R451). -/
def State.lfsr (s : State) : Nat :=
  match s.pegs.lfsr with
  | some x => x
  | none => if s.fld R.PEG_SEED_SEED = 0 then 1 else s.fld R.PEG_SEED_SEED

/-- A source feeds at least one output slot. -/
def Schedule.feeds (sc : Schedule) (src : Nat) : Bool := sc.map.entries.any (fun e => e.2.sources.contains src)

/-- The candidate of an LFSR state, where it is accepted (R451): its source, its side, and the output slot it names. -/
def State.pegCandidate (s : State) (sc : Schedule) (x : Nat) : Option (Nat × Bool × Option Nat) :=
  let k := s.fld R.PEG_CFG_INDEX
  match s.fld R.PEG_CFG_SCOPE with
  | 0 => if sc.feeds x then some (x, false, none) else none
  | 1 =>
    let src := 131072 * k + x % 131072
    if sc.feeds src then some (src, false, none) else none
  | 2 =>
    let out := 131072 * k + x % 131072
    (match sc.map.find out with
      | none => none
      | some (.single src) => some (src, false, some out)
      | some (.merged w p _ _) => some (if bit x 17 = 0 then (w, false, some out) else (p, true, some out)))
  | _ => ((sc.membersOf k)[x % 4096]?).map (fun m => (m.src, false, none))

/-- A peg is in flight for a source and page. -/
def State.pegged (s : State) (src page : Nat) : Bool := s.pegs.flight.any (fun p => p.src == src && p.page == page)

/-- The pegs in flight that the unit holds, and the candidates drawn for a page, at most (R451). -/
def pegLimit : Nat := 1024

/-- Draws for the present page: `fuel` candidates are left, and `want` may still be accepted (R451). -/
def State.draw (s : State) (sc : Schedule) : Nat → Nat → State
  | 0, _ => s
  | _, 0 => s
  | fuel + 1, want + 1 =>
    if pegLimit ≤ s.pegs.flight.length then s.latch R.PEG_EVT_PEG_SKIP
    else
      let x := lfsrNext s.lfsr
      let s1 := s.updPegs (fun p => { p with lfsr := some x })
      match s.pegCandidate sc x with
      | none => s1.draw sc fuel (want + 1)
      | some (src, side, out) =>
        if s.pegged src s.frame then s1.draw sc fuel (want + 1)
        else
          (s1.updPegs (fun p => { p with
            flight := p.flight ++ [{ page := s.frame, src := src, side := side, out := out, phi := s.phiOf src }] })).draw sc fuel want

/-- PEG_SELECT (R451): the selector draws once for the present page, in the schedule of the next frame's sweep. -/
def execPegSelect (s : State) : Out :=
  .next (
    if s.pegs.drew = some s.frame || !s.ticking then s
    else
      (s.updPegs (fun p => { p with drew := some s.frame })).draw (s.schedAt (frameAdd s.frame 2)) pegLimit (s.fld R.PEG_CFG_RATE))

/-! ### What becomes of a peg's word (R452, R454) -/

/-- A peg whose word no output slot takes (R452): it crosses no centre slot, and CENTRE is open (DESIGN CHOICE: log entry 8). -/
def State.pegLost (s : State) (sc : Schedule) (p : Peg) : PegEnd :=
  let c := Config.open' s.free
  { out := p.out, outcome := 5, selected := false, single := false, side := p.side, centre := c % 2 ^ 19
    inPort := (sc.inputOf p.src).1, prev := sc.deskew p.src == 1, d := sc.deskew p.src, pos := none, lat := Config.open' (s.free + 1)
    bent := (sc.memberOf p.src).map (·.1), group := none, crossed := false }

/-- A peg whose output slot is `out`, with its route where it takes the word (R452, R454). A word that has no centre slot to the slot's port does not
cross, and CENTRE is open (DESIGN CHOICE: log entry 8). -/
def State.pegSent (s : State) (sc : Schedule) (f : Nat) (p : Peg) (out : Nat) (r : Option Route) : PegEnd :=
  let o := portOfAddr out
  let (ip, x) := sc.inputOf p.src
  let d := sc.deskew p.src
  let leg := sc.legCentre ip x o
  let e := p.sent.getD (s.pegJudge sc f p out r)
  { out := some out, outcome := e.1, selected := e.2, single := routeSingle r, side := p.sideOf r
    centre := leg.getD (Config.open' s.free % 2 ^ 19), crossed := leg.isSome, inPort := ip, prev := d == 1, d := d
    pos := if 256 ≤ ip then some (ip - 256) else none
    lat := latencyOf p.phi (s.psiOf out) d p.src out, bent := (sc.memberOf p.src).map (·.1), group := routeGroup r }

/-- What becomes of a peg in transmit frame `f`, the present one: `none` while its word is still to come (R452). -/
def State.pegEnd (s : State) (f : Nat) (p : Peg) : Option PegEnd :=
  let sc := s.schedAt f
  let n := pageFor f (sc.deskew p.src)
  if frameLater p.page n then none
  else if n ≠ p.page then some (s.pegLost sc p)
  else
    match sc.pegOut p with
    | none => some (s.pegLost sc p)
    | some (out, r) => some (s.pegSent sc f p out r)

/-- Before the tick that ends a frame, the pegs whose words it has sent are settled with the schedule and the plate of that frame. -/
def State.settlePegs (s : State) : State :=
  let settle := fun (acc : State × List Peg) (p : Peg) =>
    if p.res.isSome then (acc.1, acc.2 ++ [p]) else (acc.1.drawn.drawn, acc.2 ++ [{ p with res := acc.1.pegEnd acc.1.frame p }])
  let r := s.pegs.flight.foldl settle (s, [])
  r.1.updPegs (fun u => { u with flight := r.2 })

/-! ### Records (R454) -/

/-- A time that a peg's record does not have. -/
def noTime : Nat := 0x7FFFFFFF

/-- The times of a word's stages, in core cycles from tick N (R454). -/
structure PegTimes where
  sill : Int
  tap : Option Int
  truss : Option Int
  plateW : Option Int
  plateR : Option Int
deriving DecidableEq, Repr

/-- The times of a peg's word: its row in the sill 1,896 cycles after the row's first symbol, of a φ that is no whole number of cycles the cycle it
falls in (R29; DEDUCED: log entry 36); the tap, the truss and the plate write in the sweeps that read its page, the plate read in its transmit
frame (R33, R35, R170, R173). A word that no slot takes passes neither truss nor plate
(R204), nor does one that has no centre slot to the port of its slot. -/
def pegTimes (p : Peg) (e : PegEnd) : PegTimes :=
  let lost := e.outcome = 5
  let at' := fun (k : Nat) => (165888 : Int) * k
  let sweep := at' (1 + e.d) + (e.centre / 2 : Nat)
  { sill := p.phi / 16 + 1296 * (slotOfAddr p.src / 1024 : Nat) + 1896
    tap := p.tap.map (fun q => at' 1 + 1296 + q)
    truss := if e.crossed then some (sweep + 1296) else none
    plateW := if e.crossed then some (sweep + 1320) else none
    plateR := if lost then none else some (at' (2 + e.d) + 1289 + (9 * wordIndex (slotOfAddr (e.out.getD 0)) / 8 : Nat)) }

/-- A time as a record has it. -/
def timeWord : Option Int → Nat
  | some t => toWord 32 t
  | none => noTime

/-- The sixteen words of a record (R454). -/
def pegWords (seq : Nat) (p : Peg) (e : PegEnd) : List Nat :=
  let lost := e.outcome = 5
  let t := pegTimes p e
  let out := e.out.getD 0
  let long := 2 ≤ e.d
  let first : Int := p.phi + 18 * wordIndex (slotOfAddr p.src)
  let rx := toWord 32 first
  let tx := toWord 32 (e.lat + first - (2 * (frameSymbols : Int) + frameSymbols * e.d))
  let lat := toWord 40 e.lat
  [seq % 2 ^ 32, p.page, p.src + b2n e.side * 2 ^ 25 + b2n long * 2 ^ 26 + b2n e.prev * 2 ^ 27,
   out + e.outcome * 2 ^ 25 + b2n (e.selected && !lost) * 2 ^ 29, e.centre + e.inPort * 2 ^ 19,
   e.d + (e.pos.getD 0x1F) * 2 ^ 12, rx, toWord 32 t.sill, timeWord t.tap, timeWord t.truss, timeWord t.plateW,
   timeWord t.plateR, if lost then noTime else tx, lat % 2 ^ 32, lat / 2 ^ 32, 0]

/-- A record enters the queue, or is discarded where it is full (R455). -/
def State.pegQueue (s : State) (r : List Nat) : State :=
  let n := s.pegs.queue.length
  if pegLimit ≤ n then (s.satFld R.PEG_DROP_COUNT 0 1).latch R.PEG_EVT_PEG_DROP
  else (s.updPegs (fun p => { p with queue := p.queue ++ [r] })).latchIf (n == 0) R.PEG_EVT_PEG_READY

/-! ### Histograms (R456) -/

/-- The value of a quantity for a peg, where it has one (R456). -/
def pegValue (qty : Nat) (p : Peg) (e : PegEnd) : Option Int :=
  let t := pegTimes p e
  let long := 2 ≤ e.d
  let gap2 := fun (a b : Option Int) => b.bind (fun y => a.map (fun x => y - x))
  let gap := (wordIndex (slotOfAddr (e.out.getD 0)) : Int) - wordIndex (slotOfAddr p.src)
  match qty with
  | 0 => some (e.lat / 16)
  | 1 => some ((e.lat - 18 * gap) / 16)
  | 2 => (if long then t.tap else t.truss).map (· - t.sill)
  | 3 => if long then gap2 t.tap t.truss else none
  | _ => gap2 t.plateW t.plateR

/-- A peg passes a filter (R456). -/
def pegPasses (filter index : Nat) (p : Peg) (e : PegEnd) : Bool :=
  match filter with
  | 0 => true
  | 1 => portOfAddr p.src == index
  | 2 => (e.out.map portOfAddr) == some index
  | 3 => e.bent == some index
  | 4 => e.group == some index
  | _ =>
    if index = 0 then e.d == 0 && e.group.isNone
    else if index = 1 then e.d == 1
    else if index = 2 then decide (2 ≤ e.d) else e.group.isSome

/-- The bin of a value (R456). A WIDTH of 0, which no commit sets, gives a free value (DESIGN CHOICE: log entry 8). -/
def State.pegBin (s : State) (h : Nat) (v : Int) : Nat :=
  let w := s.fld R.PEG_HISTh_WIDTH_WIDTH h
  if w = 0 then Config.open' s.free % 256 else min 255 ((v - s.fld R.PEG_HISTh_BASE_BASE h) / w).toNat

/-- A completed peg is counted in the histograms that take it (R456). -/
def State.pegCount (s : State) (p : Peg) (e : PegEnd) : State :=
  if e.outcome = 5 || !(e.single || e.selected) then s
  else
    (List.range 64).foldl (fun u h =>
      if u.flag R.PEG_HISTh_CFG_EN h && pegPasses (u.fld R.PEG_HISTh_CFG_FILTER h) (u.fld R.PEG_HISTh_CFG_INDEX h) p e then
        (match pegValue (u.fld R.PEG_HISTh_CFG_QTY h) p e with
          | some v => (u.addFld R.PEG_HBIN_COUNT (256 * h + u.pegBin h v) 1).drawn
          | none => u)
      else u) s

/-- A peg completes: its record is queued, and it is counted (R454 to R456). -/
def State.pegDone (s : State) (p : Peg) (e : PegEnd) : State :=
  let s1 := s.updPegs (fun u => { u with flight := u.flight.erase p, pseq := (u.pseq + 1) % 2 ^ 32 })
  ((s1.pegQueue (pegWords s.pegs.pseq p e)).pegCount p e).bankCount 0xF 0 1

/-- The record of a peg in flight that is not settled: at its plate read in the present frame, if that has come (R452). -/
def State.pegEnds (s : State) (p : Peg) : State :=
  (s.pegEnd s.frame p).elim s (fun e => s.drawn.drawn.pegDone p e)

/-- PEG_COMPLETE (R454): the word of the peg has left, or at its plate read no slot has taken it. -/
def execPegComplete (page : Word) (src : SlotAddr) (s : State) : Out :=
  .next (
    match s.pegs.flight.find? (fun p => p.page == page.toNat && p.src == src.val) with
    | none => s
    | some p =>
      match p.res with
      | some e => s.pegDone p e
      | none => s.pegEnds p)

/-! ### Taking records (R455) -/

/-- The effect of a write of PEG_CTRL (R455). -/
def State.pegCtrl (s : State) (w : Nat) : State :=
  if bit w 0 = 0 || s.flag R.PEG_CFG_DMA_EN then s else s.updPegs (fun p => { p with queue := p.queue.drop 1 })

/-- PEG_DMA_MOVE (R455): with DMA_EN M10 moves the head record, of 64 bytes, to the ring in the host area, unless the ring is full. A ring that does
not lie in DDR5 gives an access at the default target. -/
def execPegDmaMove (s : State) : Out :=
  .next (
    match s.pegs.queue with
    | [] => s
    | r :: rest =>
      let h := s.fld R.PEG_DMA_IDX_HEAD
      if !s.flag R.PEG_CFG_DMA_EN || (h + 1) % 4096 = s.fld R.PEG_DMA_IDX_TAIL then s
      else
        let a := s.fld R.PEG_DMA_BASE_BASE + 64 * h
        let s1 := (s.updPegs (fun p => { p with queue := rest })).setFld R.PEG_DMA_IDX_HEAD 0 ((h + 1) % 4096)
        if s.reaches 10 true a (place a) then s1.writeBytes a ((r.flatMap (leBytes 4)).take 64) else s1.defaultHit 10 a)

end Sys2Proof.Machine
end

