-- ==== Sys2Proof/Machine/Writes.lean ====
section
/-! DEFINITION. Writes: what a write of a word does at a place, how register fields take it (R8, R9, R12, R13), the journalled fields of a
standby (R306), and the action that each register's write performs.
Readings and choices: DEDUCED (log entry 29), DEDUCED (log entry 52), DEDUCED (log entry 60). -/

namespace Sys2Proof.Machine

/-! ### Halves held (R13) -/

/-- The low half that master `m` holds for the register at `off`. -/
def State.heldAt (s : State) (m off : Nat) : Option Nat := (s.heldLow.get m {}).find off

/-- The low half `w` is held for master `m`. -/
def State.hold (s : State) (m off w : Nat) : State := { s with heldLow := s.heldLow.put m ((s.heldLow.get m {}).put off w) }

/-- Master `m` holds no low half for the register at `off`. -/
def State.unhold (s : State) (m off : Nat) : State := { s with heldLow := s.heldLow.put m ((s.heldLow.get m {}).del off) }

/-! ### Fields (R8, R9) -/

/-- What a written word does to one part of a register: an RW field takes effect at once, an ST field is staged, a W1C bit is cleared; an
RO, SN or WO field does not change (R8). The registers of R10 that each master has of its own change for the writer alone. -/
def State.storeSlice (s : State) (m id i w : Nat) (c : Slice) : State :=
  let v := bits w c.lo c.len
  match c.fld.ty with
  | .rw =>
    if perMasterReg id then s.setMfld c.fld i m (putBits (s.mfld c.fld i m) c.src c.len v)
    else s.setFld c.fld i (putBits (s.fld c.fld i) c.src c.len v)
  | .st => s.setStg c.fld i (putBits (s.stg c.fld i) c.src c.len v)
  | .w1c => s.setFld c.fld i (Nat.land (s.fld c.fld i) (Nat.xor (2 ^ c.fld.width - 1) (v * 2 ^ c.src)))
  | .ro | .wo | .sn => s

/-- What a written word does to the fields of a register; the fields that `keep` names keep their values. -/
def State.storeWord (s : State) (m : Nat) (r : Reg) (i w : Nat) (keep : Fld → Bool) : State :=
  r.slices.foldl (fun t c => if keep c.fld then t else t.storeSlice m r.id i w c) s

/-- A write stores its fields: not IMG_BOOT, which the tally holds, nor DEV_LATQ_CTRL with GO = 1 while a query runs (R42, R361). -/
def State.storesFields (s : State) (id w : Nat) : Bool :=
  !(id == RN.IMG_BOOT) && !(id == RN.DEV_LATQ_CTRL && bit w 31 == 1 && s.fld R.DEV_LATQ_STATUS_STATE == latqBusy)

/-! ### The mate tunnel (R380) -/

def tunBusy : Nat := 1
def tunDone : Nat := 2

/-- The port of the mate tunnel, which the tunnel's events name (R372, R396; DEDUCED: log entry 33). -/
def tunnelPort : Nat := 3

/-- A tunnel request completes with a RESULT: TUN_DONE, or TUN_FAIL where it is not OK (R380). -/
def State.tunnelEnd (s : State) (result : Nat) : State :=
  let s1 := ({ s with tunnel := none }.setFld R.MGT_TUN_STAT_STATE 0 tunDone).setFld R.MGT_TUN_STAT_RESULT 0 result
  s1.latchFor (if result = 0 then R.MGT_EVT_TUN_DONE else R.MGT_EVT_TUN_FAIL) tunnelPort

/-- The request that MGT_TUN_ADDR, MGT_TUN_DATA and a write of MGT_TUN_CTRL form (R380, R408). -/
def State.tunnelReq (s : State) (w : Nat) : TunnelReq :=
  { since := s.frame, write := bit w 1 == 1, unpriv := bit w 2 == 1, addr := s.fld R.MGT_TUN_ADDR_ADDR, data := s.fld R.MGT_TUN_DATA_DATA }

/-- The effect of a write of MGT_TUN_CTRL (R380): with no mate lane in SERVICE the request completes at once with ERROR. -/
def State.tunnelCtrl (s : State) (w : Nat) : State :=
  if bit w 0 = 0 || s.fld R.MGT_TUN_STAT_STATE = tunBusy then s
  else if s.liveMates.isEmpty then s.tunnelEnd 1
  else { s with tunnel := some (s.tunnelReq w) }.setFld R.MGT_TUN_STAT_STATE 0 tunBusy

/-! ### Actions -/

/-- A write of MGT_OWN_OP by master `m` acts with the token that it holds, 0 where it holds none, and ends that token (R386). A master that
is no port makes no operation that is accepted. -/
def State.ownerWrite (s : State) (m w : Nat) : State :=
  let a := 0x20010
  ((s.unhold m a).ownOp ((portOfMaster m).getD noPort) ((s.heldAt m a).getD 0) w)

/-- The action that a write of register `id`, instance `i`, performs beyond its fields; `old` is the state before the write, `img` what the
other image slot holds where the command says so (R42, R57, R60, R82, R159, R210 to R221, R243, R268, R279, R282, R327, R360 to R368, R380, R386,
R391, R398, R434, R443, R447, R448, R455, R477, R514). -/
def State.writeEffect (s old : State) (m id i w : Nat) (img : Option SlotImage) : State :=
  if id = RN.DEV_LATQ_CTRL then s.latqCtrl m w
  else if id = RN.DEV_COMMIT then s.commitCtrl w
  else if id = RN.LN_FIT_CTRL then s.fitCtrlEffect i (old.flag R.LN_FIT_CTRL_ENABLE i) w
  else if id = RN.LN_TX_CFG then s.txCfgEffect i w
  else if id = RN.LN_SPARE_CTRL then s.spareCtrlEffect i w
  else if id = RN.BNT_CTRL then (if bit w 0 = 1 then s.requestRetime i else s)
  else if id = RN.CUT_CTRL then s.cutCommand w
  else if id = RN.CUT_SCN_CMD then s.sceneCommand w
  else if id = RN.CUT_SCNn_TRIG then s.rePrime (s.fld R.CUT_SCNn_TRIG_LANE i)
  else if id = RN.SCB_REPL_CTRL then (if bit w 0 = 1 then s.replaceCommand else s)
  else if id = RN.SCF_GCFG then (if bit w 20 = 1 then s.clearWtr i else s)
  else if id = RN.PLB_CTRL then s.plbCtrl w
  else if id = RN.MAT_CTRL then s.mateCtrl w
  else if id = RN.IMG_CTRL then s.imgCtrl w (img.getD s.otherImage)
  else if id = RN.IMG_BOOT then s.imgBoot w
  else if id = RN.MGT_OWN_OP then s.ownerWrite m w
  else if id = RN.MGT_TUN_CTRL then s.tunnelCtrl w
  else if id = RN.MGT_PORTp_EOI then s.portEoi i w
  else if id = RN.DDR_CHn_CTRL then s.retrainCtrl i w
  else if id = RN.CNT_SNAP then s.snapCtrl w
  else if id = RN.CNT_CLR_CTRL then s.clearCtrl w
  else if id = RN.CNT_Bc_HI then s.bankWritten i
  else if id = RN.PEG_CTRL then s.pegCtrl w
  else if id = RN.TLY_LC_CTRL then s.lcCtrl w
  else s

/-- The active journals the writes of BNT_CTRL.RETIME, SCF_GCFG.WTR_CLEAR, SCB_REPL_CTRL.GO and BNT_RETIME_FRAME (R306, R309). -/
def State.journalWrite (s : State) (r : Reg) (i w : Nat) : State :=
  if (r.id = RN.BNT_CTRL ∧ bit w 0 = 1) ∨ (r.id = RN.SCF_GCFG ∧ bit w 20 = 1) ∨ (r.id = RN.SCB_REPL_CTRL ∧ bit w 0 = 1)
      ∨ r.id = RN.BNT_RETIME_FRAME then
    s.journal recCommand s.frame 0 (pairUnits [(r.addr i, w)])
  else s

/-! ### Journalled fields on a standby (R306) -/

/-- Host writes by master `m` are split by field: the device is paired and not in ALONE or ACTIVE (R306). -/
def State.mirrors (s : State) (m : Nat) : Bool := (portOfMaster m).isSome && !s.mayChange

/-- The write would change a journalled field or perform a journalled command (R306). -/
def State.mirrorDrops (s : State) (r : Reg) (i w : Nat) : Bool :=
  r.slices.any (fun c => journalled c.fld i && bits (s.stg c.fld i) c.src c.len != bits w c.lo c.len)
    || (r.id == RN.BNT_RETIME_FRAME && s.fld R.BNT_RETIME_FRAME_FRAME i != w)
    || (r.id == RN.BNT_CTRL && bit w 0 == 1) || (r.id == RN.SCF_GCFG && bit w 20 == 1)

/-- The word without its journalled commands (R306). -/
def withoutCommands (id w : Nat) : Nat :=
  if id = RN.BNT_CTRL then putBits w 0 1 0 else if id = RN.SCF_GCFG then putBits w 20 1 0 else w

/-! ### Registers -/

/-- Register `r`, instance `i`, takes the word `w` from master `m`: its fields, then its action; the answer is DROPPED where a journalled
field or command of a standby would have changed (R306). -/
def State.takeWord (s : State) (m : Nat) (r : Reg) (i w : Nat) (img : Option SlotImage) : State :=
  if s.mirrors m then
    let s1 := s.storeWord m r i w (fun f => journalled f i || r.id == RN.BNT_RETIME_FRAME || !s.storesFields r.id w)
    let s2 := s1.writeEffect s m r.id i (withoutCommands r.id w) img
    if s.mirrorDrops r i w then (s2.latch R.MAT_EVT_MIRROR_WRITE).answer .dropped [] else s2.answer .ok []
  else
    let s1 := s.storeWord m r i w (fun _ => !s.storesFields r.id w)
    ((s1.writeEffect s m r.id i w img).journalWrite r i w).answer .ok []

/-- The register's fields may be written now: a scene's directory while it is neither queued nor compiling, a list's length while it is at
rest (R210, R216). -/
def State.regFree (s : State) (id i : Nat) : Bool :=
  !(sceneReg id && !s.sceneFree i) && !(id == RN.CUT_Lj_LEN && !s.listAtRest i)

/-- A write of master `m` at an offset of register space (R8, R13, R382): a low half is held; a high half brings it into effect, or is set
alone. -/
def State.writeRegAt (s : State) (m off w : Nat) (img : Option SlotImage) : State :=
  match findReg off with
  | none => s.answer .ok []
  | some (r, i) =>
    if !s.regFree r.id i then (s.latch R.CUT_EVT_STAGE_BUSY).answer .ok []
    else if r.half = .low ∨ r.id = RN.MGT_OWN_TOKEN then (s.hold m off w).answer .ok []
    else
      let s := if r.id = RN.CNT_Bc_HI then s.bankSettle i else s
      let s1 :=
        if r.half = .high then
          (match findReg (off - 4), s.heldAt m (off - 4) with
            | some (q, j), some lw => (s.unhold m (off - 4)).storeWord m q j lw (fun _ => false)
            | _, _ => s)
        else s
      (s1.takeWord m r i w img).seeConditions

/-! ### Places -/

/-- A word of the tally's window as a joiner writes it (R475): a log record's bytes, or the raw word of another area. -/
def State.writeTallyWord (s : State) (t w : Nat) : State :=
  if 0x22000 ≤ t then
    let k := (t - 0x22000) / 32
    let o := (t - 0x22000) % 32
    let b := fitBytes 32 (s.tally.log.get k [])
    s.updTally (fun y => { y with log := y.log.put k (b.take o ++ bytes4 w ++ b.drop (o + 4)) })
  else if 0x1000 ≤ t ∧ t < 0x2000 then s
  else { s with tallyRaw := s.tallyRaw.put t w }

/-- What a write of master `m` does at a place, device address `a`, and its answer. -/
def State.writePlace (s : State) (m a w : Nat) (img : Option SlotImage) : Place → State
  | .reg off => s.writeRegAt m off w img
  | .tally off => (s.writeTallyWord (s.mfld R.TLY_WIN_SEL_PAGE 0 m * 32768 + off) w).answer .ok []
  | .mailbox off =>
    (match lockAt off with
      | some k => s.lockWrite m k w
      | none => if decide (0x40000 < off + 4) && decide (off < 0x40100) then s.latch R.MEM_EVT_LOCK_VIOLATION else s.writeLe a 4 w).answer
        .ok []
  | .joiner _ _ | .secure _ | .ddr _ => (s.writeLe a 4 w).answer .ok []
  | .staging _ =>
    (match stagingList a with
      | some j => s.stageWrite j (fun t => t.writeLe a 4 w)
      | none => s).answer .ok []
  | .map _ | .diag _ | .nowhere => s.answer .ok []

/-- A write of one word of the privileged view by master `m` (R7, R375, R383 to R385, R406). -/
def State.writePriv (s : State) (m a w : Nat) (bar2 : Bool) (img : Option SlotImage) : State :=
  match s.judge m a bar2 true with
  | .early => (s.tooEarly m).reportAbort m
  | .default => s.defaultWrite m a
  | .dropped => if misaligned a (place a) then s.defaultWrite m a else s.dropWrite ((portOfMaster m).getD noPort) a
  | .ok => if misaligned a (place a) then s.defaultWrite m a else (s.park m (place a)).writePlace m a w img (place a)

/-- A write of one word of the unprivileged view by master `m` (R376): only the MSI-X table takes one, through a PCIe port. -/
def State.writeOpen (s : State) (m x w : Nat) : State :=
  match portOfMaster m with
  | none => s.defaultWrite m x
  | some p =>
    if !s.served && !s.recovery then (s.tooEarly m).reportAbort m
    else if s.recovery || decide (x % 4 ≠ 0) || decide (2 ≤ p) then s.defaultWrite m x
    else match openPlace x with
      | .msixTable k => (s.writeMsix p k w).answer .ok []
      | _ => s.defaultWrite m x

/-- The word that lock `k` would hold after a write of the bytes of `v` that `be` enables, `n` of them from `a`. -/
def State.lockAfter (s : State) (a n v be k : Nat) : Nat :=
  (List.range 4).foldl (fun x b =>
    let at' := lockAddr k + b
    let new := decide (a ≤ at') && decide (at' < a + n) && bit be (at' - a) == 1
    x + (if new then bits v (8 * (at' - a)) 8 else bits (s.lockWord k) (8 * b) 8) * 2 ^ (8 * b)) 0

/-- The bytes of `v` that `be` enables, `n` of them, are stored from `a` by master `m`. A lock word of which any is enabled takes none: the holder's
write frees it that leaves it 0, and any other latches LOCK_VIOLATION (R400, R414; DEDUCED: log entry 29). -/
def State.putBytes (s : State) (m a n v be : Nat) : State :=
  let lock := fun (k : Nat) => decide (0x102C0000 ≤ a + k) && decide (a + k < 0x102C0100)
  let on := (List.range n).filter (fun k => bit be k == 1)
  let s1 := on.foldl (fun t k => if lock k then t else t.setByte (a + k) (BitVec.ofNat 8 (bits v (8 * k) 8))) s
  (((on.filter lock).map (fun k => (a + k - 0x102C0000) / 4)).eraseDups).foldl (fun t k => t.lockWrite m k (s.lockAfter a n v be k)) s1

/-- The beats of a burst are stored from `a` by master `m` (R400). -/
def State.putBeats (s : State) (m a : Nat) : List Beat → State
  | [] => s
  | b :: t => (s.putBytes m a 16 b.data.toNat b.be.toNat).putBeats m (a + 16) t

/-- A write of storage at `a` by master `m`, with a form that is no single word, under the same judgement as a word's (R7, R385, R400, R406). -/
def State.writeStorage (s : State) (m a : Nat) (store : State → State) : State :=
  match s.judge m a false true with
  | .early => (s.tooEarly m).reportAbort m
  | .default => s.defaultWrite m a
  | .dropped => if (place a).storage then s.dropWrite ((portOfMaster m).getD noPort) a else s.defaultWrite m a
  | .ok => if (place a).storage then (store s).answer .ok [] else s.defaultWrite m a

/-- A write at a view by master `m` (R400, R409): of one word, or in the form that the view gives; `img` as for `writeEffect`. -/
def State.writeView (s : State) (m : Nat) (v : View) (w : Nat) (img : Option SlotImage) : State :=
  match v with
  | .lanes a be =>
    if be = 15 then s.writePriv m a.toNat w false img else s.writeStorage m a.toNat (fun t => t.putBytes m a.toNat 4 w be.toNat)
  | .burstWrite a bs => s.writeStorage m a.toNat (fun t => t.putBeats m a.toNat bs)
  | .own x be => if m < 4 then (s.putBytes m (s.ownAddr m x) 4 w be.toNat).answer .ok [] else s.defaultWrite m x.toNat
  | v =>
    match s.viewAddr m v with
    | .inl (a, bar2) => s.writePriv m a w bar2 img
    | .inr x => s.writeOpen m x w

/-- A write by master `m` to the device address `a` of the privileged view. -/
def State.hostWrite (s : State) (m a w : Nat) : State := s.writePriv m a w false none

/-- A write by master `m` to register `id`, instance `i`, at its address of the privileged view. -/
def State.regWrite (s : State) (m id i w : Nat) : State :=
  match regTable.find? (fun r => r.id == id) with
  | some r => s.hostWrite m (r.addr i) w
  | none => s

end Sys2Proof.Machine
end

