-- ==== Sys2Proof/Machine/HostOps.lean ====
section
/-! DEFINITION. The commands that a master sends: register reads and writes, the SPI target's commands, the mate tunnel, and the accesses that
go wrong in the matrix. Each write command is a write of its register, at its address of the privileged view, with the bits that name it.
Readings and choices: DEDUCED (log entry 30), DESIGN CHOICE (log entry 31), DEDUCED (log entry 32), DEDUCED (log entry 35), DEDUCED (log entry 60). -/

namespace Sys2Proof.Machine

/-- The register with a number, and the address of its instance `i`. -/
def regAddr (id i : Nat) : Option (Reg × Nat) := (regTable.find? (fun r => r.id == id)).map (fun r => (r, r.addr i))

/-- A read by master `m` of register `id`, instance `i`, at its address of the privileged view. -/
def State.regRead (s : State) (m id i : Nat) : State :=
  match regAddr id i with
  | some (_, a) => s.readPriv m a false
  | none => s

/-- The word of register `id`, instance `i`, latching nothing. -/
def State.regWordOf (s : State) (m id i : Nat) : Nat :=
  match regAddr id i with
  | some (r, _) => s.regWord m r i
  | none => 0

/-! ### Words and pairs (R8, R12, R13, R41) -/

/-- REGISTER_WRITE (R8, R9): the fields take the word by their types. -/
def execRegisterWrite (m : Master) (v : View) (w : Word) (s : State) : Out :=
  .next (s.writeView m.val v w.toNat none)

/-- PAIR_LOW_READ (R12): the high half is latched for master `m`. -/
def execPairLowRead (m : Master) (v : View) (s : State) : Out :=
  .next (s.readView m.val v)

/-- PAIR_LOW_WRITE (R13): the low half is held for master `m`. -/
def execPairLowWrite (m : Master) (v : View) (w : Word) (s : State) : Out :=
  .next (s.writeView m.val v w.toNat none)

/-- PAIR_HIGH_WRITE (R13): both halves take effect together, or the high half alone. -/
def execPairHighWrite (m : Master) (v : View) (w : Word) (s : State) : Out :=
  .next (s.writeView m.val v w.toNat none)

/-- DEV_FRAME_READ (R41): the frame number, with the core cycle latched for master `m`. -/
def execDevFrameRead (m : Master) (c : Fin 165888) (s : State) : Out :=
  .next (State.regRead { s with cycle := c.val } m.val RN.DEV_FRAME 0)

/-! ### Lanes (R42, R57, R60, R66, R80, R82, R83, R514) -/

/-- LATQ_GO (R42). -/
def execLatqGo (m : Master) (w : Word) (s : State) : Out :=
  .next (s.regWrite m.val RN.DEV_LATQ_CTRL 0 (putBits w.toNat 31 1 1))

/-- FIT_ENABLE_WRITE (R66, R117): ENABLE changes. -/
def execFitEnableWrite (m : Master) (n : LaneIx) (w : Word) (s : State) : Out :=
  .next (s.regWrite m.val RN.LN_FIT_CTRL n.val (putBits w.toNat 0 1 (1 - s.fld R.LN_FIT_CTRL_ENABLE n.val)))

/-- LN_RESTART (R514). -/
def execLnRestart (m : Master) (n : LaneIx) (w : Word) (s : State) : Out :=
  .next (s.regWrite m.val RN.LN_FIT_CTRL n.val (putBits w.toNat 1 1 1))

/-- BACKOFF_RESET (R60). -/
def execBackoffReset (m : Master) (n : LaneIx) (w : Word) (s : State) : Out :=
  .next (s.regWrite m.val RN.LN_FIT_CTRL n.val (putBits w.toNat 2 1 1))

/-- UNFREEZE (R80). -/
def execUnfreeze (m : Master) (n : LaneIx) (w : Word) (s : State) : Out :=
  .next (s.regWrite m.val RN.LN_FIT_CTRL n.val (putBits w.toNat 3 1 1))

/-- LOOP_RESTORE (R57). -/
def execLoopRestore (m : Master) (n : LaneIx) (w : Word) (s : State) : Out :=
  .next (s.regWrite m.val RN.LN_TX_CFG n.val (putBits w.toNat 3 1 1))

/-- SPARE_PREP_WRITE (R82). -/
def execSparePrepWrite (m : Master) (n : LaneIx) (w : Word) (s : State) : Out :=
  .next (s.regWrite m.val RN.LN_SPARE_CTRL n.val (putBits w.toNat 4 1 1))

/-- SPARE_SELECT_WRITE (R82). -/
def execSpareSelectWrite (m : Master) (n : LaneIx) (w : Word) (s : State) : Out :=
  .next (s.regWrite m.val RN.LN_SPARE_CTRL n.val (putBits w.toNat 5 1 1))

/-- SPARE_RELEASE_WRITE (R83). -/
def execSpareReleaseWrite (m : Master) (n : LaneIx) (w : Word) (s : State) : Out :=
  .next (s.regWrite m.val RN.LN_SPARE_CTRL n.val (putBits w.toNat 6 1 1))

/-! ### Bents, the fabric and the scribe (R159, R162, R191, R194, R209 to R211, R215, R217, R221, R224) -/

/-- BENT_RETIME (R159). -/
def execBentRetime (m : Master) (b : BentIx) (w : Word) (s : State) : Out :=
  .next (s.regWrite m.val RN.BNT_CTRL b.val (putBits w.toNat 0 1 1))

/-- MEMBER_READ (R162). -/
def execMemberRead (m : Master) (b : BentIx) (s : State) : Out :=
  .next (s.regRead m.val RN.BNT_MSRC b.val)

/-- DIAG_WINDOW_READ (R191). -/
def execDiagWindowRead (m : Master) (a : BitVec 40) (s : State) : Out :=
  .next (s.readPriv m.val a.toNat false)

/-- LOGICAL_MAP_READ (R194): of one word, or with `wide` of a whole entry. -/
def execLogicalMapRead (m : Master) (a : BitVec 40) (wide : Bool) (s : State) : Out :=
  .next (if wide then s.readWide m.val a.toNat else s.readPriv m.val a.toNat false)

/-- STAGING_WRITE (R209, R210). -/
def execStagingWrite (m : Master) (a : BitVec 40) (w : Word) (s : State) : Out :=
  .next (s.hostWrite m.val a.toNat w.toNat)

/-- COMPILE (R211). -/
def execCompile (m : Master) (w : Word) (s : State) : Out :=
  .next (s.regWrite m.val RN.CUT_CTRL 0 (putBits w.toNat 1 3 1))

/-- APPLY (R211). -/
def execApply (m : Master) (w : Word) (s : State) : Out :=
  .next (s.regWrite m.val RN.CUT_CTRL 0 (putBits w.toNat 1 3 2))

/-- GO (R211). -/
def execGo (m : Master) (w : Word) (s : State) : Out :=
  .next (s.regWrite m.val RN.CUT_CTRL 0 (putBits w.toNat 1 3 3))

/-- ABORT (R211). -/
def execAbort (m : Master) (w : Word) (s : State) : Out :=
  .next (s.regWrite m.val RN.CUT_CTRL 0 (putBits w.toNat 1 3 4))

/-- SCENE_GO (R217). -/
def execSceneGo (m : Master) (w : Word) (s : State) : Out :=
  .next (s.regWrite m.val RN.CUT_SCN_CMD 0 (putBits w.toNat 8 1 1))

/-- REPLACE_GO (R215, R221). -/
def execReplaceGo (m : Master) (w : Word) (s : State) : Out :=
  .next (s.regWrite m.val RN.SCB_REPL_CTRL 0 (putBits w.toNat 0 1 1))

/-- MREC_READ (R224). -/
def execMrecRead (m : Master) (s : State) : Out :=
  .next (s.regRead m.val RN.SCB_MREC_W 0)

/-! ### Scarf groups and grain (R243, R250) -/

/-- WTR_CLEAR (R243). -/
def execWtrClear (m : Master) (g : GroupIx) (w : Word) (s : State) : Out :=
  .next (s.regWrite m.val RN.SCF_GCFG g.val (putBits w.toNat 20 1 1))

/-- GRAIN_SCAN_READ (R250). -/
def execGrainScanRead (m : Master) (s : State) : Out :=
  .next (s.regRead m.val RN.GRN_SCAN_RES 0)

/-! ### Plumb and the mate (R268, R279, R282, R300, R310, R327) -/

/-- FORCE (R268). -/
def execForce (m : Master) (w : Word) (s : State) : Out :=
  .next (s.regWrite m.val RN.PLB_CTRL 0 (putBits w.toNat 0 3 1))

/-- MANUAL (R268). -/
def execManual (m : Master) (w : Word) (s : State) : Out :=
  .next (s.regWrite m.val RN.PLB_CTRL 0 (putBits w.toNat 0 3 2))

/-- CLEAR (R268). -/
def execClear (m : Master) (w : Word) (s : State) : Out :=
  .next (s.regWrite m.val RN.PLB_CTRL 0 (putBits w.toNat 0 3 3))

/-- REALIGN (R279). -/
def execRealign (m : Master) (w : Word) (s : State) : Out :=
  .next (s.regWrite m.val RN.PLB_CTRL 0 (putBits w.toNat 8 1 1))

/-- LEARN_RESET (R282). -/
def execLearnReset (m : Master) (w : Word) (s : State) : Out :=
  .next (s.regWrite m.val RN.PLB_CTRL 0 (putBits w.toNat 9 1 1))

/-- SWITCH (R327). -/
def execSwitch (m : Master) (w : Word) (s : State) : Out :=
  .next (s.regWrite m.val RN.MAT_CTRL 0 (putBits w.toNat 0 1 1))

/-- REJOIN (R300). -/
def execRejoin (m : Master) (w : Word) (s : State) : Out :=
  .next (s.regWrite m.val RN.MAT_CTRL 0 (putBits w.toNat 1 1 1))

/-- RECOPY (R310). -/
def execRecopy (m : Master) (w : Word) (s : State) : Out :=
  .next (s.regWrite m.val RN.MAT_CTRL 0 (putBits w.toNat 2 1 1))

/-! ### Image slots (R360, R361, R363 to R368) -/

/-- CONFIRM (R363). -/
def execConfirm (m : Master) (w : Word) (s : State) : Out :=
  .next (s.regWrite m.val RN.IMG_CTRL 0 (putBits w.toNat 0 1 1))

/-- VERIFY (R365). -/
def execVerify (m : Master) (w : Word) (s : State) : Out :=
  .next (s.regWrite m.val RN.IMG_CTRL 0 (putBits w.toNat 1 1 1))

/-- PROGRAM (R364). -/
def execProgram (m : Master) (w : Word) (s : State) : Out :=
  .next (s.regWrite m.val RN.IMG_CTRL 0 (putBits w.toNat 2 1 1))

/-- SVN_BURN (R360). -/
def execSvnBurn (m : Master) (w : Word) (s : State) : Out :=
  .next (s.regWrite m.val RN.IMG_CTRL 0 (putBits w.toNat 4 1 1))

/-- RECOVER_GO (R367). -/
def execRecoverGo (m : Master) (w : Word) (s : State) : Out :=
  .next (s.regWrite m.val RN.IMG_CTRL 0 (putBits w.toNat 5 1 1))

/-- IMG_ABORT (R366). -/
def execImgAbort (m : Master) (w : Word) (s : State) : Out :=
  .next (s.regWrite m.val RN.IMG_CTRL 0 (putBits w.toNat 6 1 1))

/-- LIVE_GO (R368): the other slot holds `img`. -/
def execLiveGo (m : Master) (w : Word) (img : ImageBytes) (s : State) : Out :=
  .next (s.writePriv m.val 0x10020 (putBits w.toNat 3 1 1) false (some (s.imageOf img)))

/-- IMG_BOOT_WRITE (R361, R366). -/
def execImgBootWrite (m : Master) (w : Word) (s : State) : Out :=
  .next (s.regWrite m.val RN.IMG_BOOT 0 w.toNat)

/-! ### Ownership and commits (R386, R391, R394, R398) -/

/-- CLAIM (R386). -/
def execClaim (m : Master) (w : Word) (s : State) : Out :=
  .next (s.regWrite m.val RN.MGT_OWN_OP 0 (putBits w.toNat 0 3 1))

/-- RENEW (R386). -/
def execRenew (m : Master) (w : Word) (s : State) : Out :=
  .next (s.regWrite m.val RN.MGT_OWN_OP 0 (putBits w.toNat 0 3 2))

/-- RELEASE (R386). -/
def execRelease (m : Master) (w : Word) (s : State) : Out :=
  .next (s.regWrite m.val RN.MGT_OWN_OP 0 (putBits w.toNat 0 3 3))

/-- HANDOVER (R386). -/
def execHandover (m : Master) (w : Word) (s : State) : Out :=
  .next (s.regWrite m.val RN.MGT_OWN_OP 0 (putBits w.toNat 0 3 4))

/-- COMMIT_GO (R391). -/
def execCommitGo (m : Master) (w : Word) (s : State) : Out :=
  .next (s.regWrite m.val RN.DEV_COMMIT 0 (putBits w.toNat 0 1 1))

/-- DISCARD (R394). -/
def execDiscard (m : Master) (w : Word) (s : State) : Out :=
  .next (s.regWrite m.val RN.DEV_COMMIT 0 (putBits w.toNat 1 1 1))

/-- MSIX_EOI (R398). -/
def execMsixEoi (m : Master) (p : Port) (w : Word) (s : State) : Out :=
  .next (s.regWrite m.val RN.MGT_PORTp_EOI p.val w.toNat)

/-! ### Memories, counters, pegs, the life cycle (R414, R434, R443 to R445, R447, R448, R455, R477) -/

/-- LOCK_ACQUIRE (R414, R415). -/
def execLockAcquire (m : Master) (k : Fin 64) (s : State) : Out :=
  .next (s.readPriv m.val (lockAddr k.val) false)

/-- LOCK_RELEASE (R414). -/
def execLockRelease (m : Master) (k : Fin 64) (w : Word) (s : State) : Out :=
  .next (s.hostWrite m.val (lockAddr k.val) w.toNat)

/-- DDR_RETRAIN (R434): a write of RETRAIN, too many corrected bursts, or a temperature that has moved calls for a retraining. -/
def execDdrRetrain (n : Fin 8) (why : RetrainCause) (s : State) : Out :=
  .next (match why with
    | .write m w => s.regWrite m.val RN.DDR_CHn_CTRL n.val (putBits w.toNat 0 1 1)
    | .corrected => if s.tooMany n.val then s.retrain n.val else s
    | .temperature t => if s.tempMoved n.val t.toNat then s.retrain n.val else s)

/-- SNAP_GO (R448). -/
def execSnapGo (m : Master) (w : Word) (s : State) : Out :=
  .next (s.regWrite m.val RN.CNT_SNAP 0 (putBits w.toNat 0 1 1))

/-- CLEAR_GO (R447). -/
def execClearGo (m : Master) (w : Word) (s : State) : Out :=
  .next (s.regWrite m.val RN.CNT_CLR_CTRL 0 (putBits w.toNat 31 1 1))

/-- BANK_COUNTER_READ (R445). -/
def execBankCounterRead (m : Master) (c : Fin 16384) (s : State) : Out :=
  .next (s.regRead m.val RN.CNT_Bc_LO c.val)

/-- BANK_COUNTER_WRITE (R443, R444): the pair is written in a core cycle that counts `events`; a write that is not accepted leaves them to be
counted as ever. A counter of core cycles or of ticks counts those by itself. -/
def execBankCounterWrite (m : Master) (c : Fin 16384) (low : Option Word) (high : Word) (events : Nat) (s : State) : Out :=
  .next (
    let s1 := match low with
      | some l => s.regWrite m.val RN.CNT_Bc_LO c.val l.toNat
      | none => s
    let s2 := s1.regWrite m.val RN.CNT_Bc_HI c.val high.toNat
    if s2.bankTakes 0xE 0 c.val || s2.bankTakes 0xD 0 c.val then s2
    else if s2.resp.status = .ok then s2.bankAddWritten c.val events
    else if c.val ≠ 0 ∧ s2.flag R.CNT_Bc_CFG_CHAIN (c.val - 1) then s2 else s2.bankAdd c.val events)

/-- PEG_REC_READ (R455). -/
def execPegRecRead (m : Master) (s : State) : Out :=
  .next (s.regRead m.val RN.PEG_REC 0)

/-- POP (R455). -/
def execPop (m : Master) (w : Word) (s : State) : Out :=
  .next (s.regWrite m.val RN.PEG_CTRL 0 (putBits w.toNat 0 1 1))

/-- LC_GO (R477). -/
def execLcGo (m : Master) (w : Word) (s : State) : Out :=
  .next (s.regWrite m.val RN.TLY_LC_CTRL 0 (putBits w.toNat 0 1 1))

/-! ### The SPI target (R377 to R379) -/

/-- The master number of the SPI target. -/
def spiMaster : Nat := 6

/-- RESULT of a status byte (R379). -/
def Status.code : Status → Nat
  | .ok | .none => 0
  | .error | .timeout => 1
  | .notReady => 2
  | .dropped => 3
  | .format => 4

/-- The status byte with a RESULT (R379). -/
def State.spiByte (s : State) (st : Status) : Nat :=
  st.code + 8 * s.fld R.IMG_RAISE_HALTED + 16 * s.phase
    + 128 * b2n (s.fld R.MGT_PORTp_RING_HEAD_HEAD 2 != s.fld R.MGT_PORTp_RING_TAIL_TAIL 2)

/-- What the target sends: the status byte and the words that follow it. -/
def State.spiAnswer (s : State) (st : Status) (ws : List Nat) : State := s.answer st (s.spiByte st :: ws)

/-- Before P7, except in recovery, the status byte stands in place of every byte owed, and nothing is accessed (R367, R378). -/
def State.spiEarly (s : State) (words : Nat) : State :=
  s.spiAnswer .notReady (List.replicate words (s.spiByte .notReady * 0x01010101))

/-- The ports answer SPI commands otherwise than with NOT_READY. -/
def State.spiServed (s : State) : Bool := s.served || s.recovery

/-- The addresses of a run of `len` + 1 words from `a`, of `bits` address bits. -/
def runAddrs (width a len : Nat) : List Nat := (List.range (len + 1)).map (fun k => (a + 4 * k) % 2 ^ width)

/-- A run of reads ends with its status byte and its words (R378). -/
def State.spiRead (s : State) (a len width : Nat) (read : State → Nat → State) : State :=
  if !s.spiServed then s.spiEarly (len + 1)
  else if a % 4 ≠ 0 then s.spiAnswer .format (List.replicate (len + 1) 0)
  else
    let s1 := s.readRun read (runAddrs width a len)
    s1.spiAnswer s1.resp.status s1.resp.words

/-- A run of aligned words written in ascending order; the first status that is not OK stands (R378). -/
def State.writeRun (s : State) (l : List (Nat × Nat)) : State × Status :=
  l.foldl (fun (acc : State × Status) x =>
    let s1 := acc.1.hostWrite spiMaster x.1 x.2
    (s1, if acc.2 = .ok then s1.resp.status else acc.2)) (s, .ok)

/-- ID (R378): DEV_ID; before P7 the status byte in each of its four bytes. -/
def execId (s : State) : Out :=
  .next (
    if !s.spiServed then s.answer .notReady [s.spiByte .notReady * 0x01010101]
    else s.answer .ok [s.regWordOf spiMaster RN.DEV_ID 0])

/-- STATUS (R378): the status byte. -/
def execStatus (s : State) : Out :=
  .next (if !s.spiServed then s.spiEarly 0 else s.spiAnswer .ok [])

/-- READ (R378). -/
def execRead (a : BitVec 40) (len : Fin 64) (s : State) : Out :=
  .next (s.spiRead a.toNat len.val 40 (fun t x => t.readPriv spiMaster x false))

/-- UREAD (R378). -/
def execUread (x : BitVec 24) (len : Fin 64) (s : State) : Out :=
  .next (s.spiRead x.toNat len.val 24 (fun t y => t.readOpen spiMaster y))

/-- WRITE (R378): carried out only if every data word has arrived. -/
def execWrite (a : BitVec 40) (len : Fin 64) (ws : List Word) (s : State) : Out :=
  .next (
    if !s.spiServed then s.spiEarly 0
    else if ws.length < len.val + 1 then s.answer .none []
    else if a.toNat % 4 ≠ 0 then s.spiAnswer .format []
    else
      let (s1, st) := s.writeRun ((runAddrs 40 a.toNat len.val).zip (ws.map BitVec.toNat))
      s1.spiAnswer st [])

/-- QUAD (R377): quad mode from the next transaction. -/
def execQuad (s : State) : Out := .next { s with spiQuad := true }

/-- SINGLE (R377): single mode from the next transaction. -/
def execSingle (s : State) : Out := .next { s with spiQuad := false }

/-! ### The mate tunnel (R380) -/

/-- TUNNEL_GO (R380). -/
def execTunnelGo (m : Master) (w : Word) (s : State) : Out :=
  .next (s.regWrite m.val RN.MGT_TUN_CTRL 0 (putBits w.toNat 0 1 1))

/-- TUNNEL_REQUEST (R380): a request of the mate, as master M7 of port MP3. -/
def execTunnelRequest (unpriv write : Bool) (a : BitVec 40) (w : Word) (s : State) : Out :=
  .next (
    if s.flag R.TLY_STAT_LOCKED then s.answer .error []
    else if unpriv then (if write then s.writeOpen 7 (a.toNat % 2 ^ 24) w.toNat else s.readOpen 7 (a.toNat % 2 ^ 24))
    else if write then s.hostWrite 7 a.toNat w.toNat else s.readPriv 7 a.toNat false)

/-- A tunnel request has had its 8 frames: no result has come before the ninth tick after it (R2, R380). -/
def State.tunnelLate (s : State) (q : TunnelReq) : Bool := decide (9 ≤ s.sinceFrame q.since)

/-- TUNNEL_DONE (R380): the mate's answer within 8 frames, with the data of a read; or none by then, and RESULT TIMEOUT. -/
def execTunnelDone (answer : Option (Fin 5 × Word)) (s : State) : Out :=
  .next (
    match s.tunnel, answer with
    | none, _ => s
    | some q, some (r, w) =>
      if s.tunnelLate q then s.tunnelEnd 5 else (if q.write then s else s.setFld R.MGT_TUN_DATA_DATA 0 w.toNat).tunnelEnd r.val
    | some q, none => if s.tunnelLate q then s.tunnelEnd 5 else s)

/-! ### The matrix (R406, R407, R412, R415) -/

/-- An access of master `m` at `v` decodes to the default target (R374, R376, R406). -/
def State.decodesDefault (s : State) (m : Nat) (v : View) (write : Bool) : Bool :=
  v.word && match s.viewAddr m v with
  | .inl (a, bar2) => s.judge m a bar2 write == .default
  | .inr x =>
    match portOfMaster m with
    | none => true
    | some p =>
      (s.served || s.recovery) && (s.recovery ||
        (match openPlace x with
          | .nowhere => true
          | .msixTable _ => decide (2 ≤ p)
          | .msixPba _ => write || decide (2 ≤ p)
          | .reg _ | .zero => write))

/-- The address or view offset of an access. -/
def State.viewNumber (s : State) (m : Nat) (v : View) : Nat :=
  match s.viewAddr m v with
  | .inl (a, _) => a
  | .inr x => x

/-- An access of a width that its place does not serve: register space takes words only (R7). -/
def State.badShape (s : State) (m : Nat) (v : View) (write : Bool) : Bool :=
  v.word && match s.viewAddr m v with
  | .inl (a, bar2) => s.judge m a bar2 write != .early && misaligned 1 (place a)
  | .inr _ => s.served || s.recovery

/-- The address of a scratchpad word that master `m` reads at `v`, if the access is served (R412). -/
def State.scratchRead (s : State) (m : Nat) (v : View) (write : Bool) : Option (Nat × Bool) :=
  match s.viewAddr m v with
  | .inr _ => none
  | .inl (a, bar2) =>
    if write || s.judge m a bar2 false != .ok then none
    else match place a with
      | .joiner _ _ | .mailbox _ | .secure _ | .staging _ => some (a, bar2)
      | _ => none

/-- The address of a word that a bank's own port reads (R409): of a joiner's bank its joiner, of cut-list staging the scribe, M11. -/
def State.localRead (s : State) (m : Nat) (v : View) (write : Bool) : Option Nat :=
  match v, s.viewAddr m v with
  | .own x _, _ => if write || decide (4 ≤ m) then none else some (s.ownAddr m x)
  | _, .inr _ => none
  | _, .inl (a, _) =>
    if write then none
    else match place a with
      | .joiner i _ => if s.servedBy i = some m then some a else none
      | .staging _ => if m = 11 then some a else none
      | _ => none

/-- The master that MEM_ECC_LAST names: 0xF for a local joiner port, M11 for the scribe's read port (R438). -/
def localPort (m : Nat) : Nat := if m = 11 then 11 else 0xF

/-- The address and the words of a scratchpad read by master `m` at `v` whose form is no single word, if the access is served (R412). -/
def State.scratchRows (s : State) (m : Nat) (v : View) (write : Bool) : Option (Nat × Nat) :=
  if write || v.word then none
  else (s.readRange m v).filter (fun x => match place x.1 with
    | .joiner _ _ | .mailbox _ | .secure _ | .staging _ => true
    | _ => false)

/-- A double-bit error of a scratchpad read from `a` is counted, its address and its master recorded (R412; that of a burst is where it begins:
DEDUCED, log entry 29). -/
def State.eccLost (s : State) (a m : Nat) : State :=
  (((s.addFld R.MEM_CNT_COUNT 1 1).setFld R.MEM_ECC_LAST_ADDR 0 a).setFld R.MEM_ECC_LAST_HI_MASTER 0 m).latch R.MEM_EVT_MEM_UNCORR

/-- A single-bit error of a scratchpad read is corrected and counted (R412). -/
def State.eccCorrected (s : State) : State := (s.addFld R.MEM_CNT_COUNT 0 1).latch R.MEM_EVT_MEM_CORR

/-- An access completes at the default target: a read, or a write (R406). -/
def State.defaultAt (s : State) (m a : Nat) (write : Bool) : State := if write then s.defaultWrite m a else s.defaultHit m a

/-- DEFAULT_ACCESS (R7, R406, R412): an access that decodes to the default target, or that register space does not serve, or that reads a
scratchpad word with a double-bit error, completes with an error; one with a single-bit error is corrected and completes. -/
def execDefaultAccess (m : Master) (v : View) (write : Bool) (k : BadAccess) (s : State) : Out :=
  .next (
    match k with
    | .decode => if s.decodesDefault m.val v write then s.defaultAt m.val (s.viewNumber m.val v) write else s
    | .shape => if s.badShape m.val v write then s.defaultAt m.val (s.viewNumber m.val v) write else s
    | .single =>
      (match s.scratchRead m.val v write, s.scratchRows m.val v write with
        | some (a, bar2), _ => s.eccCorrected.readPriv m.val a bar2
        | none, some _ => s.eccCorrected.readView m.val v
        | none, none => s)
    | .double =>
      (match s.scratchRead m.val v write, s.scratchRows m.val v write with
        | some (a, _), _ | none, some (a, _) => (s.eccLost a m.val).defaultHit m.val a
        | none, none => s)
    | .localSingle =>
      (match s.localRead m.val v write with
        | none => s
        | some a => s.eccCorrected.answer .ok [s.readLe a 4])
    | .localDouble =>
      -- the local port is none of the matrix: the joiner has its bus error, and MTX_ERR is left alone (log entry 29)
      (match s.localRead m.val v write with
        | none => s
        | some a => (s.eccLost a (localPort m.val)).answer .error [0]))

/-- MATRIX_TIMEOUT (R406): the access completes as one at the default target does, with kind TIMEOUT. -/
def execMatrixTimeout (m : Master) (a : BitVec 40) (target : Fin 10) (write : Bool) (s : State) : Out :=
  .next (
    let s1 := ((s.recordErr m.val a.toNat target.val 1).latchFor R.MTX_EVT_TIMEOUT m.val).answer .timeout [0]
    if write then s1.reportAbort m.val else s1)

/-- The beats of a write burst that its target had accepted are complete (R407). -/
def State.endBurst (s : State) (m : Nat) (x : Burst) : State :=
  if x.write && (place x.addr.toNat).storage then s.putBeats m x.addr.toNat x.beats else s

/-- MASTER_RESET (R407, R415): the burst that the master held ends with the beats accepted, and its locks are freed. The resets are those of
the host ports and of the joiners: masters from M8 on have none. -/
def execMasterReset (m : Master) (b : Option Burst) (s : State) : Out :=
  .next (if 8 ≤ m.val then s else
    let s1 := (b.elim s (s.endBurst m.val)).breakLocks m.val
    match b with
    | none => s1
    | some x =>
      let s2 := ((s1.setFld R.MTX_ABORT_ADDR 0 x.addr.toNat).setFld R.MTX_ABORT_HI_MASTER 0 m.val).setFld R.MTX_ABORT_HI_TARGET 0 x.target.val
      ((s2.setFlag R.MTX_ABORT_HI_KIND 0 x.write).setFld R.MTX_ABORT_HI_BEATS 0 (if x.write then x.beats.length else 0)).latchFor
        R.MTX_EVT_RESET_ABORT m.val)

end Sys2Proof.Machine
end

