-- ==== Sys2Proof/Machine/Sounding.lean ====
section
/-! DEFINITION. Sounding, the test of memories in service (R418 to R424).
Readings and choices: DEDUCED (log entry 37). -/

namespace Sys2Proof.Machine

/-- The sounding engine changed by `f`. -/
def State.updSnd (s : State) (f : Sounding → Sounding) : State := { s with snd := f s.snd }

/-- Sounding runs (R418). -/
def State.sounds (s : State) : Bool := s.flag R.SND_CFG_EN

/-- The first number above the regions (R419). -/
def lastRegion : Nat := 36864

/-- The first region from `r` that exists and lies in no exempt range (R419, R422). Each step passes one range that holds it. -/
def State.skipExempt (s : State) : Nat → Nat → Nat
  | 0, r => r
  | fuel + 1, r =>
    if 3712 ≤ r ∧ r < 4096 then s.skipExempt fuel 4096
    else match (List.range 8).find? (fun k => decide (s.fld R.SND_EXEMPT_FIRST k ≤ r)
        && decide (r < s.fld R.SND_EXEMPT_FIRST k + s.fld R.SND_EXEMPT_COUNT k)) with
      | some k => s.skipExempt fuel (s.fld R.SND_EXEMPT_FIRST k + s.fld R.SND_EXEMPT_COUNT k)
      | none => r

/-- The next region in order that the pass has not tested. -/
def State.orderedRegion (s : State) : Option Nat :=
  let r := s.skipExempt 12 s.snd.next
  if r < lastRegion then some r else none

/-- Region `r` has been aborted eight times in a row (R421). -/
def State.starved (s : State) (r : Nat) : Bool := decide (8 ≤ s.snd.aborts.get r 0)

/-- Region `r` lies in an exempt range (R422). -/
def State.exemptRegion (s : State) (r : Nat) : Bool :=
  (List.range 8).any (fun k => decide (s.fld R.SND_EXEMPT_FIRST k ≤ r)
    && decide (r < s.fld R.SND_EXEMPT_FIRST k + s.fld R.SND_EXEMPT_COUNT k))

/-- The aborted regions that are to be tried again: those not exempted since (R421, R422). -/
def State.retries (s : State) : List (Nat × Nat × Nat) := s.snd.retry.filter (fun e => !s.exemptRegion e.1)

/-- The aborted region that is due for another try: 16 regions later, or, once it is starved or no other region is left, in a later frame
(R421). -/
def State.retryRegion (s : State) : Option Nat :=
  (s.retries.find? (fun e => e.2.2 != s.frame
    && (e.2.1 == 0 || s.starved e.1 || s.orderedRegion.isNone))).map (·.1)

/-- The region in hand. -/
def State.regionInHand (s : State) : Option Nat :=
  match s.retryRegion with
  | some r => some r
  | none => s.orderedRegion

/-- A region is under test: sounding runs, or has been told to stop since its march began (R418). -/
def State.soundsRegion (s : State) : Bool := s.sounds || s.snd.marching

/-- The engine turns to the region in hand, where sounding runs; SND_STAT shows it, and whether a region or a bank is under test (R418, R438). -/
def State.showSounding (s : State) : State :=
  let march := s.sounds && s.regionInHand.isSome
  let s1 := match s.regionInHand with
    | some r => s.setFld R.SND_STAT_REGION 0 r
    | none => s
  (s1.updSnd (fun x => { x with marching := march })).setFlag R.SND_STAT_ACTIVE 0 (march || s.snd.under.isSome)

/-- The fabric bank next in order whose group still has a sister (R423, R424). -/
def State.bankInHand (s : State) : Option Nat :=
  let g := (List.range s.bankGroups).find? (fun g => decide (s.snd.bank < 32 * (g + 1)) && !s.snd.failedGroups.contains g)
  g.map (fun g => max s.snd.bank (32 * g))

/-- The frames of a minute. -/
def minuteFrames : Nat := 480000

/-- A pass ends once every region and every bank has been tested, and the next starts at once (R418). -/
def State.endPass (s : State) : State :=
  if s.regionInHand.isNone && s.retries.isEmpty && s.bankInHand.isNone && s.snd.under.isNone then
    let s1 := (s.satFld R.SND_PASS_PASSES 0 1).setFld R.SND_PASS_MINUTES 0 (s.snd.passFrames / minuteFrames)
    (s1.updSnd (fun x => { x with next := 0, bank := 0, passFrames := 0 })).latch R.SND_EVT_PASS_DONE
  else s

/-- What a failure that sounding finds leaves (R424, R472): SND_FAIL_LAST, the event and the record. -/
def State.soundFail (s : State) (index kind inst : Nat) (repaired : Bool) : State :=
  let s1 := ((s.setFld R.SND_FAIL_LAST_INDEX 0 index).setFld R.SND_FAIL_LAST_KIND 0 kind).setFlag R.SND_FAIL_LAST_REPAIRED 0 repaired
  ((s1.setFld R.SND_FAIL_LAST_VALID 0 1).latch R.SND_EVT_SND_FAIL).tallyAdd tallySound 0 inst
    (bytes4 (index + kind * 2 ^ 16 + b2n repaired * 2 ^ 17 + 2 ^ 31))

/-- The scratchpad bank of region `r` (R409, R419): JB0 to JB4 are 0 to 4, MB is 5, SB is 6, cut-list staging is 7. -/
def bankOfRegion (r : Nat) : Nat := if r < 2560 then r / 512 else if r < 3584 then 5 else if r < 3712 then 6 else 7

/-- The spare rows of scratchpad bank `b` that are free (R424). -/
def State.freeRows (s : State) (b : Nat) : Nat := (s.fuses.rows.getD b 0).toNat - s.snd.rowsUsed.get b 0

/-- A failing region is repaired from a spare row of its bank, or marked failed (R424). -/
def State.regionFails (s : State) (r : Nat) : State :=
  let b := bankOfRegion r
  if s.freeRows b = 0 then
    let s1 := if s.snd.failed.contains r then s else (s.satFld R.MEM_STAT_FAILED 0 1).updSnd (fun x => { x with failed := x.failed ++ [r] })
    s1.soundFail r 0 0 false
  else
    let s1 := s.updSnd (fun x => { x with rowsUsed := x.rowsUsed.put b (x.rowsUsed.get b 0 + 1) })
    (s1.setFld R.MEM_STAT_SPARE_ROWS 0 (s.fld R.MEM_STAT_SPARE_ROWS - 1)).soundFail r 0 0 true

/-- Region `r` leaves the queue of retries, or is passed in order. -/
def State.takeRegion (s : State) (r : Nat) : State :=
  s.updSnd (fun x =>
    if s.retryRegion = some r then { x with retry := x.retry.filter (fun e => e.1 != r) } else { x with next := r + 1 })

/-- SOUND_REGION (R418, R419, R424): the region in hand is tested; its contents stay as they were. -/
def execSoundRegion (fails : Bool) (s : State) : Out :=
  .next (
    match s.regionInHand with
    | none => s
    | some r =>
      if !s.soundsRegion then s
      else
        let s1 := (s.takeRegion r).updSnd (fun x => { x with
          aborts := x.aborts.del r, retry := x.retry.map (fun e => (e.1, e.2.1 - 1, e.2.2)) })
        let s2 := if fails then s1.regionFails r else s1
        s2.endPass.showSounding)

/-- SOUND_ABORT (R420, R421): an access aborts the march of the region in hand, which is restored. -/
def execSoundAbort (s : State) : Out :=
  .next (
    match s.regionInHand with
    | none => s
    | some r =>
      if !s.soundsRegion then s
      else
        let n := s.snd.aborts.get r 0 + 1
        let s1 := (s.takeRegion r).updSnd (fun x => { x with aborts := x.aborts.put r n, retry := x.retry ++ [(r, 16, s.frame)] })
        (s1.latchIf (n == 8) R.SND_EVT_SND_STARVED).showSounding)

/-- SOUND_BANK_SWAP (R423): at a tick reads of the bank in hand are served from its group's sister, which holds a copy, and the bank is under
test. -/
def execSoundBankSwap (s : State) : Out :=
  .next (
    match s.bankInHand with
    | none => s
    | some b =>
      if !s.sounds || s.snd.under.isSome then s
      else (s.updSnd (fun x => { x with under := some b, bank := b + 1 })).showSounding)

/-- SOUND_BANK_TEST_DONE (R423, R424, R459, R472): the bank becomes its group's sister; one that fails is retired, and its group has none. -/
def execSoundBankTestDone (fails : Bool) (s : State) : Out :=
  .next (
    match s.snd.under with
    | none => s
    | some b =>
      let g := b / 32
      let s1 := s.updSnd (fun x => { x with under := none })
      let s2 :=
        if fails then
          let s3 := ((s1.updSnd (fun x => { x with failedGroups := x.failedGroups ++ [g], sister := x.sister.del g })).addFld
            R.SND_STAT_NOSISTER 0 1).setFld R.TLY_SPARES_SISTERS 0 (s1.fld R.TLY_SPARES_SISTERS - 1)
          (s3.soundFail b 1 g false).substDone classBank g 0
        else s1.updSnd (fun x => { x with sister := x.sister.put g b })
      s2.endPass.showSounding)

/-- A frame of a pass (R418), in which sounding that a commit has set running turns to the region in hand. -/
def State.tickSounding (s : State) : State :=
  let s1 := if s.sounds && !s.snd.marching then s.showSounding else s
  if s1.sounds || s1.snd.under.isSome then s1.updSnd (fun x => { x with passFrames := x.passFrames + 1 }) else s1

end Sys2Proof.Machine
end

