-- ==== Sys2Proof/Machine/Tick.lean ====
section
/-! DEFINITION. The tick: frame N + 1 opens (R17, R20). What happens at a tick under a command of its own (a commit, a snapshot, an apply, a
takeover, …) is that command's.
Readings and choices: DESIGN CHOICE (log entry 17), DESIGN CHOICE (log entry 18), DEDUCED (log entry 34), DEDUCED (log entry 58). -/

namespace Sys2Proof.Machine

/-- Plumb's first tick, in P4, is tick 0 (R20, R272): its state leaves "not started", and the shadow core, where the fuses have one,
tracks. -/
def State.firstTick (s : State) : State :=
  let s1 := (((s.setFld R.DEV_FRAME_FRAME 0 0).enterPlb plbFree 0xF).updPlumb (fun p => { p with epochEnd := some 0 })).setFld R.PLB_STATUS_DPLL 0
    (b2n (s.sist.spent.dpll == some 0))
  s1.setShadow (s1.flag R.TLY_SPARES_DPLL)

/-- Plumb's marks of frames past, moved by `d` frames. -/
def Plumb.shift (d : Nat) (p : Plumb) : Plumb :=
  { p with
    holdFrom := frameAdd p.holdFrom d
    capFrom := frameAdd p.capFrom d
    restart := p.restart.map (frameAdd · d)
    mismatches := p.mismatches.map (frameAdd · d)
    refs := p.refs.mapVals (fun _ r => { r with
      holdFrom := frameAdd r.holdFrom d, waitFrom := frameAdd r.waitFrom d, jumps := r.jumps.map (frameAdd · d) }) }

/-- A lane's marks of frames past, moved by `d` frames. -/
def LaneSt.shift (d : Nat) (l : LaneSt) : LaneSt :=
  let at' := Option.map (frameAdd · d)
  { l with
    since := frameAdd l.since d, outSince := frameAdd l.outSince d, leaveSince := at' l.leaveSince, leaveSent := at' l.leaveSent
    adaptAt := at' l.adaptAt, ctleAt := at' l.ctleAt, holdSince := at' l.holdSince, lastRevert := at' l.lastRevert
    oofSince := at' l.oofSince, syncSince := at' l.syncSince, caSince := at' l.caSince, defSince := at' l.defSince
    losSince := at' l.losSince, persSince := at' l.persSince
    cands := l.cands.map (fun c => { c with pos := (c.pos + d * frameSymbols) % (2 ^ 32 * frameSymbols) }) }

/-- The substitutions' marks of frames past, moved by `d` frames. -/
def Sist.shift (d : Nat) (x : Sist) : Sist :=
  { x with
    lamErr := x.lamErr.mapVals (fun _ l => l.map (frameAdd · d))
    lamMm := x.lamMm.map (frameAdd · d)
    lamDue := frameAdd x.lamDue d
    lsdSpells := x.lsdSpells.mapVals (fun _ l => l.map (fun p => (frameAdd p.1 d, frameAdd p.2 d)))
    lsdFrom := x.lsdFrom.mapVals (fun _ f => frameAdd f d)
    serviceFrom := x.serviceFrom.mapVals (fun _ f => frameAdd f d)
    ageFrom := frameAdd x.ageFrom d }

/-- The mate unit's marks of frames past, moved by `d` frames. -/
def Mate.shift (d : Nat) (m : Mate) : Mate :=
  { m with
    waitFrom := frameAdd m.waitFrom d, stateAt := frameAdd m.stateAt d, hbAt := m.hbAt.map (frameAdd · d)
    wtrFrom := frameAdd m.wtrFrom d, arbAt := frameAdd m.arbAt d }

/-- Every time that runs goes on where the frame number moves by `d` frames more than one (R20): what is kept of frames past moves with it. -/
def State.shiftMarks (s : State) (d : Nat) : State :=
  { s with
    plumb := s.plumb.shift d
    lanes := s.lanes.mapVals (fun _ l => l.shift d)
    sist := s.sist.shift d
    mate := s.mate.shift d
    groups := s.groups.mapVals (fun _ g => { g with wtrFrom := frameAdd g.wtrFrom d })
    own := { s.own with leaseEnd := frameAdd s.own.leaseEnd d, handAt := frameAdd s.own.handAt d }
    tunnel := s.tunnel.map (fun q => { q with since := frameAdd q.since d })
    guarding := { s.guarding with wipeAt := frameAdd s.guarding.wipeAt d } }

/-- A latency query that waits for the next frame takes the schedule of the frame that begins next, whatever its number (R42, R308). -/
def State.moveQuery (s : State) (f : Nat) : State :=
  if s.fld R.DEV_LATQ_STATUS_STATE = latqBusy && s.fld R.DEV_LATQ_FRAME_FRAME = frameAdd s.frame 1 then s.setFld R.DEV_LATQ_FRAME_FRAME 0 f
  else s

/-- The frame number advances; a standby that is out of step takes the active's (R20, R308). -/
def State.nextFrame (s : State) : State :=
  match s.mate.adopt with
  | some f => (((s.shiftMarks ((f + 2 ^ 32 - (s.frame + 1) % 2 ^ 32) % 2 ^ 32)).moveQuery f).setFld R.DEV_FRAME_FRAME 0 f).updMate
      (fun m => { m with adopt := none, adopting := false })
  | none => s.setFld R.DEV_FRAME_FRAME 0 (s.frame + 1)

/-- The core cycles that end with a tick: those of a frame, which a first acquisition has lengthened or shortened (R273), or those since the bank
began to count before tick 0, of which the manual does not say how many (R333, R440; DESIGN CHOICE: log entry 17). -/
def State.cyclesEnded (s : State) : Nat :=
  if s.ticking then (frameCycles + roundQ s.free (s.plumb.step * frameCycles) 128000000).toNat else s.plumb.early + Config.cycleStep s.free

/-- The bank counts the core cycles that end with a tick (R440). -/
def State.countCycles (s : State) : State :=
  let s1 := (s.bankOf 0xE 0).foldl (fun t c => t.bankAdd c (s.cyclesEnded - s.plumb.cycFrom.get c 0)) s
  (s1.updPlumb (fun p => { p with step := 0, cycFrom := {}, early := 0 })).drawn

/-- The rows of the page before the last that no frame has filled hold AIS words, which the bank counts (R25, R123, R124, R440); the first two ticks
end no such page. -/
def State.countUnwritten (s : State) : State :=
  let s1 := s.updPlumb (fun p => { p with ran := true })
  if !s.plumb.ran || !(s.regs.get R.CNT_Bc_CFG_SRC.id {}).vals.contains 6 then s1
  else
    (List.range 256).foldl (fun t p =>
      let q := s.portPage p ((s.frame + 2 ^ 32 - 2) % 2 ^ 32)
      if q.rep then t else t.bankCount 6 p (1024 * (128 - q.rows))) s1

/-- Every scene trigger on a lane with none of its defects declared is primed again (R217). -/
def State.primeScenes (s : State) : State :=
  (List.range 256).foldl (fun t k =>
    if t.flag R.CUT_SCNn_TRIG_EN k && !t.flag R.CUT_SCNn_TRIG_PRIMED k then t.rePrime (t.fld R.CUT_SCNn_TRIG_LANE k) else t) s

/-- What the blocks do at a tick, in the order: the commit's sample, ownership, Plumb, laminations, scarf groups, bent members, lanes, scene
triggers, the mate, the second of the tally and of DDR5, sounding, substitutions, the wipe's recovery and the end of a tamper response. -/
def State.tickBlocks (s : State) : State :=
  let s1 := s.tickCommit.tickOwner.tickPlumb.tickLam.tickLamSubst.tickScarf.tickLinks
  let s2 := ((List.range 280).foldl State.tickLane s1).primeScenes.tickMate
  s2.tickTally.tickDdr.tickSounding.tickLaneSubst.tickLive.imgProgress.programLife.tickRekey.endResponse

/-- TICK (R17, R20): before P4 there are none. -/
def execTick (s : State) : Out :=
  .next (
    if s.phase < 4 then s
    else
      let s0 := s.countTick
      let s1 := if s0.ticking then s0.settlePegs.closeGrain.closeHeartbeat.countCycles.nextFrame.countUnwritten else s0.countCycles.firstTick
      let s2 := { s1 with cycle := 0 }.updPlumb (fun p => { p with tickDue := some [] })
      s2.tickBlocks.settleTick.stampTick s2)

end Sys2Proof.Machine
end

