-- ==== Sys2Proof/Machine/Dispatch.lean ====
section
/-! DEFINITION. What each command does: one arm for each constructor of `Instr`, a direct call of its meaning. -/

namespace Sys2Proof.Machine

/-- The effect of a command on everything but the queue. -/
def exec (i : Instr) (s : State) : Host.Outcome State Fault Refusal :=
  match i with
  | .tick => Sys2Proof.Machine.execTick s
  | .registerWrite m v w => Sys2Proof.Machine.execRegisterWrite m v w s
  | .pairLowRead m v => Sys2Proof.Machine.execPairLowRead m v s
  | .pairLowWrite m v w => Sys2Proof.Machine.execPairLowWrite m v w s
  | .pairHighWrite m v w => Sys2Proof.Machine.execPairHighWrite m v w s
  | .devFrameRead m c => Sys2Proof.Machine.execDevFrameRead m c s
  | .latqGo m w => Sys2Proof.Machine.execLatqGo m w s
  | .latqDone => Sys2Proof.Machine.execLatqDone s
  | .rxRow n t ws faulty => Sys2Proof.Machine.execRxRow n t ws faulty s
  | .rxFrame n t ws faulty => Sys2Proof.Machine.execRxFrame n t ws faulty s
  | .ssmAccept n => Sys2Proof.Machine.execSsmAccept n s
  | .pageWindowClose n => Sys2Proof.Machine.execPageWindowClose n s
  | .losDeclare n rs => Sys2Proof.Machine.execLosDeclare n rs s
  | .losClear n rs => Sys2Proof.Machine.execLosClear n rs s
  | .lolDeclare n => Sys2Proof.Machine.execLolDeclare n s
  | .lolClear n => Sys2Proof.Machine.execLolClear n s
  | .lofDeclare n => Sys2Proof.Machine.execLofDeclare n s
  | .lofClear n => Sys2Proof.Machine.execLofClear n s
  | .laisDeclare n => Sys2Proof.Machine.execLaisDeclare n s
  | .laisClear n => Sys2Proof.Machine.execLaisClear n s
  | .lrdiDeclare n => Sys2Proof.Machine.execLrdiDeclare n s
  | .lrdiClear n => Sys2Proof.Machine.execLrdiClear n s
  | .lsdDeclare n => Sys2Proof.Machine.execLsdDeclare n s
  | .lsdClear n => Sys2Proof.Machine.execLsdClear n s
  | .lsfDeclare n => Sys2Proof.Machine.execLsfDeclare n s
  | .lsfClear n => Sys2Proof.Machine.execLsfClear n s
  | .lmmDeclare n => Sys2Proof.Machine.execLmmDeclare n s
  | .lmmClear n => Sys2Proof.Machine.execLmmClear n s
  | .lphClear n => Sys2Proof.Machine.execLphClear n s
  | .centreSweep flips => Sys2Proof.Machine.execCentreSweep flips s
  | .kerfCheck got => Sys2Proof.Machine.execKerfCheck got s
  | .longPathTap => Sys2Proof.Machine.execLongPathTap s
  | .longPathReturn r late => Sys2Proof.Machine.execLongPathReturn r late s
  | .txFrame n => Sys2Proof.Machine.execTxFrame n s
  | .grnFaultClear a side => Sys2Proof.Machine.execGrnFaultClear a side s
  | .signalExit n rs => Sys2Proof.Machine.execSignalExit n rs s
  | .lockExit n => Sys2Proof.Machine.execLockExit n s
  | .tuneExit n => Sys2Proof.Machine.execTuneExit n s
  | .frameExit n => Sys2Proof.Machine.execFrameExit n s
  | .serviceEnter n => Sys2Proof.Machine.execServiceEnter n s
  | .fitTimeout n => Sys2Proof.Machine.execFitTimeout n s
  | .fitLosFail n => Sys2Proof.Machine.execFitLosFail n s
  | .backoffExpiry n => Sys2Proof.Machine.execBackoffExpiry n s
  | .waitWake n => Sys2Proof.Machine.execWaitWake n s
  | .partnerGoneFail n => Sys2Proof.Machine.execPartnerGoneFail n s
  | .servicePersistLeave n => Sys2Proof.Machine.execServicePersistLeave n s
  | .trainingRow n ws => Sys2Proof.Machine.execTrainingRow n ws s
  | .discoveryRow n ws => Sys2Proof.Machine.execDiscoveryRow n ws s
  | .fitEnableWrite m n w => Sys2Proof.Machine.execFitEnableWrite m n w s
  | .lnRestart m n w => Sys2Proof.Machine.execLnRestart m n w s
  | .backoffReset m n w => Sys2Proof.Machine.execBackoffReset m n w s
  | .unfreeze m n w => Sys2Proof.Machine.execUnfreeze m n w s
  | .ident n seq ws => Sys2Proof.Machine.execIdent n seq ws s
  | .serviceGo n seq f => Sys2Proof.Machine.execServiceGo n seq f s
  | .sparePrep n seq x => Sys2Proof.Machine.execSparePrep n seq x s
  | .spareSelect n seq x f => Sys2Proof.Machine.execSpareSelect n seq x f s
  | .spareRelease n seq x => Sys2Proof.Machine.execSpareRelease n seq x s
  | .restart n => Sys2Proof.Machine.execRestart n s
  | .leave n seq => Sys2Proof.Machine.execLeave n seq s
  | .ack n seq => Sys2Proof.Machine.execAck n seq s
  | .nak n seq => Sys2Proof.Machine.execNak n seq s
  | .msgRetry n => Sys2Proof.Machine.execMsgRetry n s
  | .leaveTimeout n => Sys2Proof.Machine.execLeaveTimeout n s
  | .loopAutoRestore n => Sys2Proof.Machine.execLoopAutoRestore n s
  | .loopRestore m n w => Sys2Proof.Machine.execLoopRestore m n w s
  | .goodSecond n => Sys2Proof.Machine.execGoodSecond n s
  | .adaptRevert n => Sys2Proof.Machine.execAdaptRevert n s
  | .adaptHoldEnd n => Sys2Proof.Machine.execAdaptHoldEnd n s
  | .sparePrepWrite m n w => Sys2Proof.Machine.execSparePrepWrite m n w s
  | .spareSelectWrite m n w => Sys2Proof.Machine.execSpareSelectWrite m n w s
  | .spareReleaseWrite m n w => Sys2Proof.Machine.execSpareReleaseWrite m n w s
  | .spareShadowReady n => Sys2Proof.Machine.execSpareShadowReady n s
  | .spareSwitch n => Sys2Proof.Machine.execSpareSwitch n s
  | .mchPacketRx n ws => Sys2Proof.Machine.execMchPacketRx n ws s
  | .mchPacketTx n => Sys2Proof.Machine.execMchPacketTx n s
  | .memberJoin src => Sys2Proof.Machine.execMemberJoin src s
  | .bentStepApply b => Sys2Proof.Machine.execBentStepApply b s
  | .bentGrowthEnd b => Sys2Proof.Machine.execBentGrowthEnd b s
  | .bentRetime m b w => Sys2Proof.Machine.execBentRetime m b w s
  | .bentRetimeApply b => Sys2Proof.Machine.execBentRetimeApply b s
  | .memberRead m b => Sys2Proof.Machine.execMemberRead m b s
  | .diagWindowRead m a => Sys2Proof.Machine.execDiagWindowRead m a s
  | .logicalMapRead m a wide => Sys2Proof.Machine.execLogicalMapRead m a wide s
  | .stagingWrite m a w => Sys2Proof.Machine.execStagingWrite m a w s
  | .compile m w => Sys2Proof.Machine.execCompile m w s
  | .apply m w => Sys2Proof.Machine.execApply m w s
  | .go m w => Sys2Proof.Machine.execGo m w s
  | .abort m w => Sys2Proof.Machine.execAbort m w s
  | .compileStart => Sys2Proof.Machine.execCompileStart s
  | .compileDone => Sys2Proof.Machine.execCompileDone s
  | .recompile => Sys2Proof.Machine.execRecompile s
  | .applyStart => Sys2Proof.Machine.execApplyStart s
  | .applyTick => Sys2Proof.Machine.execApplyTick s
  | .changeDone => Sys2Proof.Machine.execChangeDone s
  | .chunkApply => Sys2Proof.Machine.execChunkApply s
  | .tapClear => Sys2Proof.Machine.execTapClear s
  | .sceneGo m w => Sys2Proof.Machine.execSceneGo m w s
  | .sceneDefectTrigger k => Sys2Proof.Machine.execSceneDefectTrigger k s
  | .sceneQueue => Sys2Proof.Machine.execSceneQueue s
  | .sceneStart => Sys2Proof.Machine.execSceneStart s
  | .replaceGo m w => Sys2Proof.Machine.execReplaceGo m w s
  | .replaceStep => Sys2Proof.Machine.execReplaceStep s
  | .mrecRead m => Sys2Proof.Machine.execMrecRead m s
  | .scarfWindowEval g => Sys2Proof.Machine.execScarfWindowEval g s
  | .scarfWtrExpiry g => Sys2Proof.Machine.execScarfWtrExpiry g s
  | .wtrClear m g w => Sys2Proof.Machine.execWtrClear m g w s
  | .grainScanRead m => Sys2Proof.Machine.execGrainScanRead m s
  | .refFailure ref mon => Sys2Proof.Machine.execRefFailure ref mon s
  | .refHoldoffExpiry ref => Sys2Proof.Machine.execRefHoldoffExpiry ref s
  | .refConditionClear ref mon gathered => Sys2Proof.Machine.execRefConditionClear ref mon gathered s
  | .phaseJump ref size => Sys2Proof.Machine.execPhaseJump ref size s
  | .refWtrExpiry ref => Sys2Proof.Machine.execRefWtrExpiry ref s
  | .force m w => Sys2Proof.Machine.execForce m w s
  | .manual m w => Sys2Proof.Machine.execManual m w s
  | .clear m w => Sys2Proof.Machine.execClear m w s
  | .realign m w => Sys2Proof.Machine.execRealign m w s
  | .learnReset m w => Sys2Proof.Machine.execLearnReset m w s
  | .bridgeHoldEnd delta pps => Sys2Proof.Machine.execBridgeHoldEnd delta pps s
  | .captureComplete => Sys2Proof.Machine.execCaptureComplete s
  | .holdoverExpire => Sys2Proof.Machine.execHoldoverExpire s
  | .epochEnd e => Sys2Proof.Machine.execEpochEnd e s
  | .dpllSwap shadow => Sys2Proof.Machine.execDpllSwap shadow s
  | .shadowRestore => Sys2Proof.Machine.execShadowRestore s
  | .dpllMismatch => Sys2Proof.Machine.execDpllMismatch s
  | .heartbeatRx l ws => Sys2Proof.Machine.execHeartbeatRx l ws s
  | .heartbeatLoss => Sys2Proof.Machine.execHeartbeatLoss s
  | .isolate => Sys2Proof.Machine.execIsolate s
  | .arbChange asserted c => Sys2Proof.Machine.execArbChange asserted c s
  | .startupWaitExpiry => Sys2Proof.Machine.execStartupWaitExpiry s
  | .sideConflictTimeout => Sys2Proof.Machine.execSideConflictTimeout s
  | .change r => Sys2Proof.Machine.execChange r s
  | .rearm r => Sys2Proof.Machine.execRearm r s
  | .cancel r => Sys2Proof.Machine.execCancel r s
  | .commit r => Sys2Proof.Machine.execCommit r s
  | .bent r => Sys2Proof.Machine.execBent r s
  | .command r => Sys2Proof.Machine.execCommand r s
  | .info r => Sys2Proof.Machine.execInfo r s
  | .journalGap => Sys2Proof.Machine.execJournalGap s
  | .copyStart epoch => Sys2Proof.Machine.execCopyStart epoch s
  | .copySlice j entries => Sys2Proof.Machine.execCopySlice j entries s
  | .epochInstall => Sys2Proof.Machine.execEpochInstall s
  | .standbyReady => Sys2Proof.Machine.execStandbyReady s
  | .standbyUnready => Sys2Proof.Machine.execStandbyUnready s
  | .deviceFail why => Sys2Proof.Machine.execDeviceFail why s
  | .takeoverDecide => Sys2Proof.Machine.execTakeoverDecide s
  | .takeoverEffect => Sys2Proof.Machine.execTakeoverEffect s
  | .takeoverFail => Sys2Proof.Machine.execTakeoverFail s
  | .switch m w => Sys2Proof.Machine.execSwitch m w s
  | .mateWtrExpiry => Sys2Proof.Machine.execMateWtrExpiry s
  | .rejoin m w => Sys2Proof.Machine.execRejoin m w s
  | .recopy m w => Sys2Proof.Machine.execRecopy m w s
  | .raiseStart => Sys2Proof.Machine.execRaiseStart s
  | .resetAssert => Sys2Proof.Machine.execResetAssert s
  | .supplyFault => Sys2Proof.Machine.execSupplyFault s
  | .fuseReadDone f side slow => Sys2Proof.Machine.execFuseReadDone f side slow s
  | .memoryClearDone fl => Sys2Proof.Machine.execMemoryClearDone fl s
  | .ddrTrainingDone config temp failed => Sys2Proof.Machine.execDdrTrainingDone config temp failed s
  | .slotVerifyDone img => Sys2Proof.Machine.execSlotVerifyDone img s
  | .joinersReady failed => Sys2Proof.Machine.execJoinersReady failed s
  | .p4End => Sys2Proof.Machine.execP4End s
  | .p5End => Sys2Proof.Machine.execP5End s
  | .raiseReady drs => Sys2Proof.Machine.execRaiseReady drs s
  | .raiseWatchdog => Sys2Proof.Machine.execRaiseWatchdog s
  | .jtagExtestLoad k => Sys2Proof.Machine.execJtagExtestLoad k s
  | .jtagExtestLeave => Sys2Proof.Machine.execJtagExtestLeave s
  | .confirm m w => Sys2Proof.Machine.execConfirm m w s
  | .verify m w => Sys2Proof.Machine.execVerify m w s
  | .program m w => Sys2Proof.Machine.execProgram m w s
  | .imgOpDone img => Sys2Proof.Machine.execImgOpDone img s
  | .liveGo m w img => Sys2Proof.Machine.execLiveGo m w img s
  | .liveCoreDone => Sys2Proof.Machine.execLiveCoreDone s
  | .liveCoreTimeout selfTest => Sys2Proof.Machine.execLiveCoreTimeout selfTest s
  | .svnBurn m w => Sys2Proof.Machine.execSvnBurn m w s
  | .recoverGo m w => Sys2Proof.Machine.execRecoverGo m w s
  | .imgAbort m w => Sys2Proof.Machine.execImgAbort m w s
  | .imgBootWrite m w => Sys2Proof.Machine.execImgBootWrite m w s
  | .pcieConfigRequest p r => Sys2Proof.Machine.execPcieConfigRequest p r s
  | .id => Sys2Proof.Machine.execId s
  | .status => Sys2Proof.Machine.execStatus s
  | .read a len => Sys2Proof.Machine.execRead a len s
  | .write a len ws => Sys2Proof.Machine.execWrite a len ws s
  | .uread x len => Sys2Proof.Machine.execUread x len s
  | .quad => Sys2Proof.Machine.execQuad s
  | .single => Sys2Proof.Machine.execSingle s
  | .tunnelGo m w => Sys2Proof.Machine.execTunnelGo m w s
  | .tunnelRequest unpriv write a w => Sys2Proof.Machine.execTunnelRequest unpriv write a w s
  | .tunnelDone answer => Sys2Proof.Machine.execTunnelDone answer s
  | .claim m w => Sys2Proof.Machine.execClaim m w s
  | .renew m w => Sys2Proof.Machine.execRenew m w s
  | .release m w => Sys2Proof.Machine.execRelease m w s
  | .handover m w => Sys2Proof.Machine.execHandover m w s
  | .leaseExpiry => Sys2Proof.Machine.execLeaseExpiry s
  | .handoverTimeout => Sys2Proof.Machine.execHandoverTimeout s
  | .ownerPortLoss p => Sys2Proof.Machine.execOwnerPortLoss p s
  | .commitGo m w => Sys2Proof.Machine.execCommitGo m w s
  | .discard m w => Sys2Proof.Machine.execDiscard m w s
  | .commitApply => Sys2Proof.Machine.execCommitApply s
  | .eventRecord => Sys2Proof.Machine.execEventRecord s
  | .eventLogRecord => Sys2Proof.Machine.execEventLogRecord s
  | .msixEoi m p w => Sys2Proof.Machine.execMsixEoi m p w s
  | .msixSend p v => Sys2Proof.Machine.execMsixSend p v s
  | .defaultAccess m v write k => Sys2Proof.Machine.execDefaultAccess m v write k s
  | .matrixTimeout m a target write => Sys2Proof.Machine.execMatrixTimeout m a target write s
  | .masterReset m b => Sys2Proof.Machine.execMasterReset m b s
  | .lockAcquire m k => Sys2Proof.Machine.execLockAcquire m k s
  | .lockRelease m k w => Sys2Proof.Machine.execLockRelease m k w s
  | .soundRegion fails => Sys2Proof.Machine.execSoundRegion fails s
  | .soundAbort => Sys2Proof.Machine.execSoundAbort s
  | .soundBankSwap => Sys2Proof.Machine.execSoundBankSwap s
  | .soundBankTestDone fails => Sys2Proof.Machine.execSoundBankTestDone fails s
  | .ddrRetrain n why => Sys2Proof.Machine.execDdrRetrain n why s
  | .ddrRetrainDone ok temp => Sys2Proof.Machine.execDdrRetrainDone ok temp s
  | .ddrPatrol n corrected => Sys2Proof.Machine.execDdrPatrol n corrected s
  | .ddrUnitRebuild r x o => Sys2Proof.Machine.execDdrUnitRebuild r x o s
  | .snapGo m w => Sys2Proof.Machine.execSnapGo m w s
  | .snapshot => Sys2Proof.Machine.execSnapshot s
  | .clearGo m w => Sys2Proof.Machine.execClearGo m w s
  | .counterClear => Sys2Proof.Machine.execCounterClear s
  | .bankCounterRead m c => Sys2Proof.Machine.execBankCounterRead m c s
  | .bankCounterWrite m c low high events => Sys2Proof.Machine.execBankCounterWrite m c low high events s
  | .archiveWrite => Sys2Proof.Machine.execArchiveWrite s
  | .pegSelect => Sys2Proof.Machine.execPegSelect s
  | .pegComplete page src => Sys2Proof.Machine.execPegComplete page src s
  | .pegRecRead m => Sys2Proof.Machine.execPegRecRead m s
  | .pop m w => Sys2Proof.Machine.execPop m w s
  | .pegDmaMove => Sys2Proof.Machine.execPegDmaMove s
  | .laneSubstTrigger x why => Sys2Proof.Machine.execLaneSubstTrigger x why s
  | .lamSubstSelect => Sys2Proof.Machine.execLamSubstSelect s
  | .fecSubstSwitch n agree => Sys2Proof.Machine.execFecSubstSwitch n agree s
  | .joinerSubstTrigger k => Sys2Proof.Machine.execJoinerSubstTrigger k s
  | .joinerSubstDone dataOk => Sys2Proof.Machine.execJoinerSubstDone dataOk s
  | .dpllTestTrigger => Sys2Proof.Machine.execDpllTestTrigger s
  | .scribeEngineRetire e => Sys2Proof.Machine.execScribeEngineRetire e s
  | .ageingSample a => Sys2Proof.Machine.execAgeingSample a s
  | .tallyRecord => Sys2Proof.Machine.execTallyRecord s
  | .lcGo m w => Sys2Proof.Machine.execLcGo m w s
  | .lcVerifyDone => Sys2Proof.Machine.execLcVerifyDone s
  | .lcWipe => Sys2Proof.Machine.execLcWipe s
  | .tamperCondition src => Sys2Proof.Machine.execTamperCondition src s
  | .mapRebuildDone => Sys2Proof.Machine.execMapRebuildDone s
  | .sceneReloadDone img => Sys2Proof.Machine.execSceneReloadDone img s
  | .rekeyDone => Sys2Proof.Machine.execRekeyDone s
  | .perstNDeassert p => Sys2Proof.Machine.execPerstNDeassert p s
  | .counterWrap c => Sys2Proof.Machine.execCounterWrap c s
  | .dpllBuiltInTestDone pass => Sys2Proof.Machine.execDpllBuiltInTestDone pass s

end Sys2Proof.Machine
end

