-- ==== Sys2Proof/Machine/Pins.lean ====
section
/-! DEFINITION. What the output balls show, as a function of the state (R272, R292 to R294, R299, R340, R341, R399). While a JTAG instruction holds
the balls they are that instruction's.
Readings and choices: DEDUCED (log entry 55). -/

namespace Sys2Proof.Machine

/-- INTN0 and INTN1: low while a condition of MP2's vectors that the mask selects holds, from P7 on (R341, R399). -/
def State.intnLow (s : State) (k : Fin 2) : Bool :=
  s.served && (List.range 32).any (fun v => (s.fld R.MGT_INTN_CFG_MASK k.val).testBit v && s.vectorHolds 2 v)

/-- READY_N: low from P7 on (R341). -/
def State.readyLow (s : State) : Bool := s.served

/-- HALT_N: low while raising has halted (R340, R341). -/
def State.haltLow (s : State) : Bool := s.flag R.IMG_RAISE_HALTED && !s.served

/-- PLB_STATE[2:0] (R272). -/
def State.plbStateBalls (s : State) : Nat := s.fld R.PLB_STATUS_STATE

/-- PLB_SEL[3:0] (R272). -/
def State.plbSelBalls (s : State) : Nat := s.fld R.PLB_STATUS_SEL

/-- MATE_ARB_OUT_N: low only in ALONE and ACTIVE, from P7 on (R299, R341). -/
def State.arbOutLow (s : State) : Bool := s.served && s.isActive

/-- What an output of Plumb sends from the present tick on: nothing, one pulse of a width in core cycles, or a clock of so many edges per tick;
its edges lie `offset` units of 2^-10 ns after the tick's. -/
inductive Fpout where
  | low
  | pulse (width : Nat) (offset : Int)
  | clock (n : Nat) (offset : Int)
deriving DecidableEq, Repr

/-- The offset that output `k` has now: on its way to OFFSET while it moves (R294). -/
def State.fpoutOffset (s : State) (k : Nat) : Int := (s.plumb.fpNow.find k).getD (s.ifld R.PLB_FPOUTk_OFFSET_OFFSET k)

/-- FPOUTk at the present tick (R292, R293, R340, R341). -/
def State.fpout (s : State) (k : Fin 8) : Fpout :=
  if !s.ticking || s.phase < 4 || s.flag R.IMG_RAISE_HALTED then .low
  else
    let mode := s.fld R.PLB_FPOUTk_CFG_MODE k.val
    let width := 64 * s.fld R.PLB_FPOUTk_CFG_WIDTH k.val
    let off := s.fpoutOffset k.val
    if mode = 1 then .pulse width off
    else if mode = 2 then
      (if (s.frame + 8000 - s.fld R.PLB_PPS_PHASE % 8000) % 8000 = 0 then .pulse width off else .low)
    else if mode = 3 then .clock (s.fld R.PLB_FPOUTk_CFG_N k.val) off
    else .low

end Sys2Proof.Machine
end

