-- ==== Sys2Proof/Machine/Queues.lean ====
section
/-! DEFINITION. The requests of the PCIe ports that wait in the queue of commands, and the flow-control credits that a port advertises (R402).
Readings and choices: DEDUCED (log entry 67). -/

namespace Sys2Proof

/-- The master whose request a command is, and whether its port has it as a non-posted request: a memory write of PCI Express is posted, a read is
not (R402, R406; DEDUCED: log entry 67). -/
def Instr.request : Instr → Option (Nat × Bool)
  | .latqGo m _ | .compile m _ | .apply m _ | .go m _ | .abort m _ | .sceneGo m _ | .replaceGo m _ | .force m _ | .manual m _ | .clear m _
  | .realign m _ | .learnReset m _ | .switch m _ | .rejoin m _ | .recopy m _ | .confirm m _ | .verify m _ | .program m _ | .svnBurn m _
  | .recoverGo m _ | .imgAbort m _ | .imgBootWrite m _ | .tunnelGo m _ | .claim m _ | .renew m _ | .release m _ | .handover m _
  | .commitGo m _ | .discard m _ | .snapGo m _ | .clearGo m _ | .pop m _ | .lcGo m _ => some (m.val, false)
  | .registerWrite m _ _ | .pairLowWrite m _ _ | .pairHighWrite m _ _ | .fitEnableWrite m _ _ | .lnRestart m _ _ | .backoffReset m _ _
  | .unfreeze m _ _ | .loopRestore m _ _ | .sparePrepWrite m _ _ | .spareSelectWrite m _ _ | .spareReleaseWrite m _ _ | .bentRetime m _ _
  | .stagingWrite m _ _ | .wtrClear m _ _ | .liveGo m _ _ | .msixEoi m _ _ | .lockRelease m _ _ => some (m.val, false)
  | .bankCounterWrite m _ _ _ _ | .ddrRetrain _ (.write m _) => some (m.val, false)
  | .pairLowRead m _ | .devFrameRead m _ | .memberRead m _ | .diagWindowRead m _ | .mrecRead m | .grainScanRead m | .lockAcquire m _
  | .bankCounterRead m _ | .pegRecRead m | .logicalMapRead m _ _ | .ddrUnitRebuild (.master m _) _ _ => some (m.val, true)
  | .defaultAccess m _ w _ | .matrixTimeout m _ _ w => some (m.val, !w)
  | _ => none

end Sys2Proof

namespace Sys2Proof.Machine

/-- How many requests of PCIe port `p` wait, non-posted or posted: the matrix takes them one at a time, in the order in which they arrived (R402). -/
def State.portQueue (s : State) (p : Fin 2) (nonPosted : Bool) : Nat :=
  s.pending.countP (fun c => c.request == some (4 + p.val, nonPosted))

/-- The flow-control credits that PCIe port `p` has to give: room for 32 non-posted and 64 posted requests in all (R402). -/
def State.portCredits (s : State) (p : Fin 2) (nonPosted : Bool) : Nat :=
  (if nonPosted then 32 else 64) - s.portQueue p nonPosted

end Sys2Proof.Machine
end

