-- ==== Sys2Proof/Machine/Footprint.lean ====
section
/-! DEFINITION. What each command may change: the register fields and the other parts of the state, by name. What a command's footprint does not
name it leaves as it was; the queue of commands waiting is in no footprint. -/

namespace Sys2Proof.Machine

/-- The parts of the state beside the register fields and the queue of commands. -/
inductive Part where
  | staged | perMaster | latHigh | heldLow | frameCycle | cycle | free | resp | ringQ | logQ | mem | lanes | sill | sched
  | tap | longMem | retPages | plate | links | actions | pauses | mdlyHeld | chg | queued | scnTrig | scnQ | mrecHeld | sides
  | groups | plumb | mate | fuses | raise | pcie | own | sampled | tunnel | spiQuad | snd | ddr | snapFixed | chainHeld
  | snapAt | snapped | clear | archive | pegs | tally | tallyQ | tallySecond | tallyLost | sist | guarding | tallyRaw
deriving DecidableEq, Repr

/-- Two states hold the same in a part. -/
def Part.same (s t : State) : Part → Prop
  | .staged => t.staged = s.staged
  | .perMaster => t.perMaster = s.perMaster
  | .latHigh => t.latHigh = s.latHigh
  | .heldLow => t.heldLow = s.heldLow
  | .frameCycle => t.frameCycle = s.frameCycle
  | .cycle => t.cycle = s.cycle
  | .free => t.free = s.free
  | .resp => t.resp = s.resp
  | .ringQ => t.ringQ = s.ringQ
  | .logQ => t.logQ = s.logQ
  | .mem => t.mem = s.mem
  | .lanes => t.lanes = s.lanes
  | .sill => t.sill = s.sill
  | .sched => t.sched = s.sched
  | .tap => t.tap = s.tap
  | .longMem => t.longMem = s.longMem
  | .retPages => t.retPages = s.retPages
  | .plate => t.plate = s.plate
  | .links => t.links = s.links
  | .actions => t.actions = s.actions
  | .pauses => t.pauses = s.pauses
  | .mdlyHeld => t.mdlyHeld = s.mdlyHeld
  | .chg => t.chg = s.chg
  | .queued => t.queued = s.queued
  | .scnTrig => t.scnTrig = s.scnTrig
  | .scnQ => t.scnQ = s.scnQ
  | .mrecHeld => t.mrecHeld = s.mrecHeld
  | .sides => t.sides = s.sides
  | .groups => t.groups = s.groups
  | .plumb => t.plumb = s.plumb
  | .mate => t.mate = s.mate
  | .fuses => t.fuses = s.fuses
  | .raise => t.raise = s.raise
  | .pcie => t.pcie = s.pcie
  | .own => t.own = s.own
  | .sampled => t.sampled = s.sampled
  | .tunnel => t.tunnel = s.tunnel
  | .spiQuad => t.spiQuad = s.spiQuad
  | .snd => t.snd = s.snd
  | .ddr => t.ddr = s.ddr
  | .snapFixed => t.snapFixed = s.snapFixed
  | .chainHeld => t.chainHeld = s.chainHeld
  | .snapAt => t.snapAt = s.snapAt
  | .snapped => t.snapped = s.snapped
  | .clear => t.clear = s.clear
  | .archive => t.archive = s.archive
  | .pegs => t.pegs = s.pegs
  | .tally => t.tally = s.tally
  | .tallyQ => t.tallyQ = s.tallyQ
  | .tallySecond => t.tallySecond = s.tallySecond
  | .tallyLost => t.tallyLost = s.tallyLost
  | .sist => t.sist = s.sist
  | .guarding => t.guarding = s.guarding
  | .tallyRaw => t.tallyRaw = s.tallyRaw

/-- The parts that a raising or a reset begins afresh: all but the fuses, the free-value counter, the last answer and the tally's raw words. -/
def Part.afresh : List Part :=
  [.staged, .perMaster, .latHigh, .heldLow, .frameCycle, .cycle, .ringQ, .logQ, .mem, .lanes, .sill, .sched, .tap, .longMem,
   .retPages, .plate, .links, .actions, .pauses, .mdlyHeld, .chg, .queued, .scnTrig, .scnQ, .mrecHeld, .sides, .groups, .plumb, .mate,
   .raise, .pcie, .own, .sampled, .tunnel, .spiQuad, .snd, .ddr, .snapFixed, .chainHeld, .snapAt, .snapped, .clear, .archive,
   .pegs, .tally, .tallyQ, .tallySecond, .tallyLost, .sist, .guarding]

/-- The register fields and the parts that a command may change; `anyField` where the fields are those of whatever register an address names, or
those of every register. -/
structure Footprint where
  fields : List Fld := []
  parts : List Part := []
  anyField : Bool := false
deriving DecidableEq, Repr

/-- A register field is named in the footprint. -/
def Footprint.names (p : Footprint) (f : Fld) : Bool := p.anyField || p.fields.any (fun g => g.id == f.id)

/-- `t` is `s` but for what the footprint names: the queue is the same, every instance of every register field that it does not name, and every part
that it does not name. -/
structure Framed (p : Footprint) (s t : State) : Prop where
  queue : t.pending = s.pending
  fields : ∀ f i, p.names f = false → t.fld f i = s.fld f i
  parts : ∀ x, x ∉ p.parts → Part.same s t x

/-! ### Parts of the memory that have one writer or one use -/

/-- Address `a` is one of the `n` from `lo` on. -/
def within (a lo n : Nat) : Prop := lo ≤ a ∧ a < lo + n

/-- The journal's region in DDR5, where there is one (R310). -/
def State.inJournal (s : State) (a : Nat) : Prop := s.fld R.MAT_JBASE_BASE ≠ 0 ∧ within a (s.fld R.MAT_JBASE_BASE) (16 * journalUnits)

/-- The sample of the present tick holds a value of the journal's base, a read-only field, which none that DEV_COMMIT has called for holds (R8, R392). -/
def State.movesJournal (s : State) : Prop := ∃ v e, s.sampled = some v ∧ e ∈ v.entries ∧ e.1 = R.MAT_JBASE_BASE.id

/-- The history ring of the holdover model (R280). -/
def State.inHist (s : State) (a : Nat) : Prop := within a (s.fld R.PLB_HIST_BASE_BASE) (16 * 16384)

/-- The lock words (R414). -/
def inLocks (a : Nat) : Prop := within a (lockAddr 0) 256

/-- The banks of the joiner cores (R353). -/
def inBanks (a : Nat) : Prop := within a (joinerBank 0) (5 * 0x80000)

/-- The memories that a wipe loses: the secure bank and DDR5 (R484). -/
def inWiped (a : Nat) : Prop := within a 0x10380000 0x20000 ∨ ddrBase ≤ a

/-- The receive ring of the management channel of lane `n`, in DDR5 (R107). -/
def State.inRing (s : State) (n a : Nat) : Prop := within a (s.fld R.LN_MCH_RXBASE_BASE n) (64 * 2048) ∧ ddrBase ≤ a

/-! ### Where a command stores -/

/-- Address `a` is one of the `n` from `x` on, or a byte of a lock word of which any of them is a byte: a lock word is freed whole (R414). -/
def touches (a x n : Nat) : Prop := within a x n ∨ (inLocks a ∧ x < a / 4 * 4 + 4 ∧ a / 4 * 4 < x + n)

/-- The bytes `a` that a write of one word to device address `x` may store: those of the word, where the address leads to storage; where it leads to
a register, what the register's own rules send to the journal or to the history ring. -/
def State.wordStore (s : State) (x a : Nat) : Prop :=
  match place x with
  | .reg _ => s.inJournal a ∨ s.inHist a
  | .joiner _ _ | .mailbox _ | .secure _ | .staging _ | .ddr _ => within a x 4
  | .tally _ | .map _ | .diag _ | .nowhere => False

/-- The bytes `a` that a write at a view by master `m` may store (R374, R376, R400, R409). -/
def State.viewStore (s : State) (m : Nat) (v : View) (a : Nat) : Prop :=
  match v with
  | .lanes x be => if be = 15 then s.wordStore x.toNat a else touches a x.toNat 4
  | .burstWrite x bs => touches a x.toNat (16 * bs.length)
  | .own x _ => m < 4 ∧ touches a (s.ownAddr m x) 4
  | .burst _ _ | .unpriv _ => False
  | .priv x => s.wordStore x.toNat a
  | .bar0 x => s.wordStore x.toNat a
  | .bar2 x =>
    match s.viewAddr m (.bar2 x) with
    | .inl (y, _) => s.wordStore y a
    | .inr _ => False

/-- The bytes `a` that a read of one word at `x` may store: those of a lock word, which it acquires (R414). -/
def lockTaken (x a : Nat) : Prop := inLocks a ∧ within a x 4

/-- The same of a read at a view by master `m`. Of the forms that are no single-beat word none acquires. -/
def State.viewTakes (s : State) (m : Nat) (v : View) (a : Nat) : Prop :=
  match v with
  | .lanes x be => be = 15 ∧ lockTaken x.toNat a
  | .burst _ _ | .burstWrite _ _ | .own _ _ | .unpriv _ => False
  | .priv x => lockTaken x.toNat a
  | .bar0 x => lockTaken x.toNat a
  | .bar2 x =>
    match s.viewAddr m (.bar2 x) with
    | .inl (y, _) => lockTaken y a
    | .inr _ => False

/-- The mailbox bank, where an image in recovery is held (R413). -/
def inMailbox (a : Nat) : Prop := within a 0x10280000 0x100000

/-- The bytes `a` that command `c` may store in state `s`. Every other byte of memory reads after it as before. What begins the raising or ends the
power clears or loses every memory, so that any byte may change. -/
def stores (c : Instr) (s : State) (a : Nat) : Prop :=
  match c with
  -- accesses
  | .registerWrite m v _ | .pairLowWrite m v _ | .pairHighWrite m v _ => s.viewStore m.val v a
  | .stagingWrite _ x _ => s.wordStore x.toNat a
  | .write x len _ => ∃ i ≤ len.val, s.wordStore ((x.toNat + 4 * i) % 2 ^ 40) a
  | .read x len => ∃ i ≤ len.val, lockTaken ((x.toNat + 4 * i) % 2 ^ 40) a
  | .tunnelRequest unpriv write x _ => unpriv = false ∧ (if write then s.wordStore x.toNat a else lockTaken x.toNat a)
  | .pairLowRead m v | .defaultAccess m v _ _ => s.viewTakes m.val v a
  | .ddrUnitRebuild (.master m v) _ _ => s.viewTakes m.val v a
  | .diagWindowRead _ x | .logicalMapRead _ x _ => lockTaken x.toNat a
  | .lockAcquire _ k | .lockRelease _ k _ => within a (lockAddr k.val) 4
  | .masterReset m b => m.val < 8 ∧ (inLocks a ∨ ∃ x, b = some x ∧ x.write = true ∧ touches a x.addr.toNat (16 * x.beats.length))
  -- the journal of the mate (R310)
  | .centreSweep _ | .bentRetime _ _ _ | .compile _ _ | .apply _ _ | .go _ _ | .abort _ _ | .compileDone | .applyStart | .applyTick | .chunkApply
  | .sceneStart | .replaceGo _ _ | .replaceStep | .wtrClear _ _ _ | .change _ | .rearm _ | .cancel _
  | .commit _ | .bent _ | .command _ | .info _ | .copySlice _ _ => s.inJournal a
  | .commitApply | .scarfWindowEval _ | .scarfWtrExpiry _ => s.inJournal a ∨ s.movesJournal
  | .tick => s.inJournal a ∨ inBanks a
  -- the history ring of the holdover model (R280)
  | .force _ _ | .manual _ _ | .clear _ _ | .realign _ _ | .learnReset _ _ | .epochEnd _ => s.inHist a
  -- the receive rings of the management channel (R107)
  | .mchPacketRx n _ => s.inRing n.val a
  | .rxRow _ _ _ _ | .rxFrame _ _ _ _ => ∃ n, s.inRing n a
  -- records
  | .eventRecord => ∃ p < 4, s.flag R.MGT_PORTp_CFG_RING_EN p = true ∧ within a (ringBase p + 16 * s.fld R.MGT_PORTp_RING_HEAD_HEAD p) 16
  | .eventLogRecord => within a (s.fld R.MGT_LOG_BASE_BASE + 16 * s.fld R.MGT_LOG_IDX_NEXT) 16
  | .archiveWrite => within a (s.regionBase 6 + 262144 * s.fld R.CNT_ARCH_IDX_NEXT) 262144
  | .pegDmaMove => within a (s.fld R.PEG_DMA_BASE_BASE + 64 * s.fld R.PEG_DMA_IDX_HEAD) 64
  -- raising, the image and its scenes (R14, R339, R343, R348, R353, R413)
  | .raiseStart | .raiseWatchdog | .jtagExtestLoad _ | .jtagExtestLeave | .resetAssert | .supplyFault => True
  | .memoryClearDone _ => ddrBase ≤ a
  | .ddrTrainingDone config _ _ => within a (ddrBase + (7 * installedGb config.val / 8 * 1024 - 256) * 2 ^ 20) 0x100000
  | .slotVerifyDone _ => inWiped a ∨ ((s.raising && s.phase == 2) = true ∧ (inBanks a ∨ inMailbox a ∨ s.fld R.IMG_STAGE_BASE_BASE ≤ a))
  | .imgOpDone _ => inWiped a ∨ (s.fld R.IMG_OP_STAT_OP = opRecover ∧ (inBanks a ∨ inMailbox a))
  | .p5End | .sceneReloadDone _ => s.regionBase 4 ≤ a
  | .joinerSubstDone _ => inBanks a
  -- security (R477, R484)
  | .tamperCondition _ => inWiped a
  | .lcWipe =>
    match s.guarding.done with
    | some (op, target, _, _) => (op = 1 ∧ target = 4) ∨ (op = 1 ∧ inWiped a)
    | none => False
  | _ => False

/-! ### The footprints -/

/-- What every write of a register may change beside what the register's own rules say: the answer; halves held and values staged or kept by master;
the matrix's park and record of a failed access; the record of a dropped write; the events of these; MSI-X conditions seen. -/
def writeFields : List Fld :=
  [R.CUT_EVT, R.MAT_EVT, R.MGT_EVT, R.MGT_DROP_CNT_COUNT, R.MGT_DROP_LAST_ADDR, R.MGT_DROP_LAST_HI_PORT, R.MTX_STAT_PARK, R.MTX_EVT,
   R.MTX_ERR_ADDR, R.MTX_ERR_HI_MASTER, R.MTX_ERR_HI_TARGET, R.MTX_ERR_HI_KIND]

/-- The parts of the same. -/
def writeParts : List Part := [.staged, .perMaster, .heldLow, .resp, .ringQ, .logQ, .pcie]

/-- What a read through a port or by a master may change: the answer; halves latched; the free-value counter; the matrix's park and record; locks;
what the reads of the windows latch. -/
def readFields : List Fld :=
  [R.MTX_STAT_PARK, R.MTX_EVT, R.MTX_ERR_ADDR, R.MTX_ERR_HI_MASTER, R.MTX_ERR_HI_TARGET, R.MTX_ERR_HI_KIND]

/-- The parts of the same. -/
def readParts : List Part := [.latHigh, .frameCycle, .free, .resp, .ringQ, .logQ, .mem, .mdlyHeld, .mrecHeld, .chainHeld, .pegs]

/-- What LIVE_GO may change. -/
def liveGoTouches : Footprint :=
  { fields := writeFields ++ [R.CNT_EVT, R.CNT_Bc_COUNT, R.IMG_EVT, R.IMG_RUN_TRIAL, R.IMG_OP_STAT_STATE, R.IMG_OP_STAT_OP, R.IMG_OP_STAT_CODE,
      R.IMG_OP_STAT_PROGRESS, R.IMG_SVN_MIN_MIN, R.IMG_SLOTs_STAT_VALID, R.IMG_LIVE_STAT_STATE, R.IMG_LIVE_STAT_CORE, R.IMG_LIVE_STAT_CODE],
    parts := writeParts ++ [.cycle, .free, .plumb, .fuses, .raise, .tally, .tallyQ] }

/-- What LOCK_RELEASE may change. -/
def lockReleaseTouches : Footprint :=
  { fields := writeFields ++ [R.MEM_EVT],
    parts := writeParts ++ [.mem] }

/-- What DDR_RETRAIN may change. -/
def ddrRetrainTouches : Footprint :=
  { fields := writeFields ++ [R.DDR_STAT_ONLINE, R.DDR_EVT, R.DDR_CHn_STAT_STATE],
    parts := writeParts ++ [.ddr] }

/-- What RESET_ASSERT may change: every register, and every part that begins afresh. -/
def resetAssertTouches : Footprint :=
  { parts := Part.afresh ++ [.free], anyField := true }

/-- What LC_WIPE may change where no device is DECOMMISSIONED. -/
def lcEndTouches : Footprint :=
  { fields := [R.TLY_EVT, R.LN_MCH_CTRL_ENABLE, R.PLB_HIST_IDX_NEXT, R.PLB_HIST_IDX_WRAPPED, R.MAT_EVT, R.MAT_COPY_EPOCH, R.MAT_COPY_SLICE,
      R.MAT_COPY_PHASE, R.MAT_JSENT_VALUE, R.MAT_JFILL_UNITS, R.MAT_JFILL_OVERFLOW, R.MGT_LOG_IDX_NEXT, R.MGT_LOG_IDX_WRAPPED, R.CNT_ARCH_IDX_NEXT,
      R.CNT_ARCH_IDX_WRAPPED, R.PEG_DMA_IDX_HEAD, R.PEG_DMA_IDX_TAIL, R.TLY_STAT_REKEY, R.TLY_LC_STAT_STATE, R.TLY_LC_STAT_PENDING,
      R.TLY_LC_STAT_REVOKED, R.TLY_REKEY_LONGPATH, R.TLY_REKEY_MAP, R.TLY_REKEY_SCENES, R.TLY_REKEY_WIPES],
    parts := [.mem, .ringQ, .logQ, .longMem, .plumb, .mate, .raise, .ddr, .tally, .tallyQ, .guarding] }

/-- What TICK may change. -/
def tickTouches : Footprint :=
  { anyField := true,
    parts := [.staged, .cycle, .free, .ringQ, .logQ, .mem, .lanes, .tap, .links, .actions, .chg, .queued, .plumb, .mate, .raise, .own, .sampled,
      .snd, .ddr, .pegs, .tallyQ, .tallySecond, .sist, .guarding, .sides, .longMem, .groups, .fuses, .tunnel, .tally] }

/-- What REGISTER_WRITE, PAIR_LOW_WRITE, PAIR_HIGH_WRITE, STAGING_WRITE and WRITE, which reach any register and any storage, may change. -/
def registerWriteTouches : Footprint :=
  { anyField := true,
    parts := writeParts ++ [.free, .mem, .lanes, .tap, .links, .actions, .chg, .queued, .scnTrig, .plumb, .mate, .fuses, .raise, .own, .tunnel,
      .ddr, .snapAt, .clear, .pegs, .tally, .tallyQ, .sist, .tallyRaw, .longMem, .cycle] }

/-- What PAIR_LOW_READ, MEMBER_READ, DIAG_WINDOW_READ, LOGICAL_MAP_READ, MREC_READ, GRAIN_SCAN_READ, READ, LOCK_ACQUIRE,
BANK_COUNTER_READ, PEG_REC_READ may change. -/
def pairLowReadTouches : Footprint :=
  { fields := readFields ++ [R.DDR_CNT_COUNT, R.IMG_OP_STAT_PROGRESS],
    parts := readParts ++ [.cycle, .plumb] }

/-- What DEV_FRAME_READ may change. -/
def devFrameReadTouches : Footprint :=
  { fields := readFields ++ [R.DDR_CNT_COUNT, R.IMG_OP_STAT_PROGRESS],
    parts := readParts ++ [.cycle, .plumb] }

/-- What LATQ_GO may change. -/
def latqGoTouches : Footprint :=
  { fields := writeFields ++ [R.DEV_LATQ_CTRL_SLOT, R.DEV_LATQ_CTRL_SIDE, R.DEV_LATQ_STATUS_STATE, R.DEV_LATQ_STATUS_MASTER, R.DEV_LATQ_STATUS_QSEQ,
      R.DEV_LATQ_FRAME_FRAME],
    parts := writeParts }

/-- What LATQ_DONE may change. -/
def latqDoneTouches : Footprint :=
  { fields := [R.DEV_LATQ_STATUS_STATE, R.DEV_LATQ_STATUS_RESULT, R.DEV_LATQ_SRC_SRC, R.DEV_LATQ_LAT_LAT, R.DEV_LATQ_PARTS_DESKEW,
      R.DEV_LATQ_PARTS_LONG, R.DEV_LATQ_PARTS_SYNC_IN, R.DEV_LATQ_PARTS_SYS_OUT],
    parts := [.free] }

/-- What RX_ROW may change. -/
def rxRowTouches : Footprint :=
  { fields := [R.LN_RX_EQ_CTLE, R.LN_RX_EQ_H1, R.LN_RX_EQ_H2, R.LN_RX_EQ_H3, R.LN_RX_FFE_LO_F0_F3, R.LN_RX_FFE_HI_F4_F7, R.LN_FRM_STAT_ALIGN,
      R.LN_FRM_STAT_CA, R.LN_FRM_STAT_LOS, R.LN_FRM_STAT_LOL, R.LN_FRM_STAT_OOF, R.LN_FRM_STAT_LOF, R.LN_FRM_STAT_LAIS, R.LN_FRM_STAT_LRDI,
      R.LN_FRM_STAT_LSD, R.LN_FRM_STAT_LSF, R.LN_FRM_STAT_LMM, R.LN_FRM_STAT_LPH, R.LN_DEF_EVT, R.LN_CNT0, R.LN_CNT1, R.LN_CNT3,
      R.CUT_SCNn_TRIG_PRIMED, R.CNT_EVT, R.CNT_Bc_COUNT, R.TLY_STAT_SIST_BUSY, R.TLY_EVT, R.LN_RX_PHASE_PHASE, R.LN_PHASE_STAT_RX_VALID,
      R.LN_PHASE_STAT_RX_SYNC_OK, R.LN_FIT_STATUS_STATE, R.LN_FIT_STATUS_RX_POL_INV, R.LN_FIT_STATUS_SUB, R.LN_FIT_EVT, R.LN_TX_STAT_TIMING_ACT,
      R.LN_TX_STAT_SLEWING, R.LN_TX_COEF_CM3, R.LN_TX_COEF_CM2, R.LN_TX_COEF_CM1, R.LN_TX_COEF_CP1, R.LN_TX_COEF_C0, R.LN_ADAPT_STAT_GOOD_SECS,
      R.LN_ADAPT_STAT_FROZEN, R.LN_PEER_ID0_ID, R.LN_PEER_ID1_ID, R.LN_PEER_ID2_ID, R.LN_PEER_ID3_ID, R.LN_PEER_ID4_ID, R.LN_SPARE_STAT_COVER,
      R.LN_SPARE_STAT_SHADOW, R.LN_SPARE_STAT_READY, R.LN_SPARE_STAT_CARRYING, R.LN_SPARE_STAT_CARRIED, R.LN_CNT5, R.LN_MCH_STAT_RX_BAD,
      R.LN_MCH_STAT_RX_DROP, R.LN_MCH_IDX_RX_HEAD, R.MTX_EVT, R.MTX_ERR_ADDR, R.MTX_ERR_HI_MASTER, R.MTX_ERR_HI_TARGET, R.MTX_ERR_HI_KIND,
      R.TLY_SPARES_LANES, R.LN_RX_STW_TKV, R.LN_RX_STW_NEW_ROLE, R.LN_RX_TKW_VALUE, R.MAT_STAT_TKV, R.MAT_STAT_NEW_ROLE, R.MAT_TAKE_CAUSE,
      R.MAT_TAKE_FROM_COPY, R.MAT_TAKE_DECIDER, R.MAT_TAKE_FRAME_VALUE, R.LN_PEER_PHI_PHASE, R.LN_PEER_PSI_PHASE, R.LN_LINK_RTT_RTT,
      R.LN_LINK_RTT_VALID],
    parts := [.free, .ringQ, .logQ, .lanes, .sill, .tallyQ, .sist, .resp, .mem, .mate] }

/-- What RX_FRAME may change. -/
def rxFrameTouches : Footprint :=
  { fields := [R.LN_RX_PHASE_PHASE, R.LN_PHASE_STAT_RX_VALID, R.LN_PHASE_STAT_RX_SYNC_OK, R.LN_FIT_EVT, R.LN_TX_STAT_TIMING_ACT,
      R.LN_TX_STAT_SLEWING, R.LN_ADAPT_STAT_GOOD_SECS, R.LN_FRM_STAT_ALIGN, R.LN_FRM_STAT_CA, R.LN_FRM_STAT_SYNC_ACT, R.LN_FRM_STAT_LOS,
      R.LN_FRM_STAT_LOL, R.LN_FRM_STAT_OOF, R.LN_FRM_STAT_LOF, R.LN_FRM_STAT_LAIS, R.LN_FRM_STAT_LRDI, R.LN_FRM_STAT_LSD, R.LN_FRM_STAT_LSF,
      R.LN_FRM_STAT_LMM, R.LN_FRM_STAT_LPH, R.LN_DEF_EVT, R.LN_RX_LID_LANE_ID, R.LN_RX_LID_PORT, R.LN_RX_LID_VALID, R.LN_RX_STW_LAIS,
      R.LN_RX_STW_LRDI, R.LN_RX_STW_ROLE, R.LN_RX_STW_TKV, R.LN_RX_STW_NEW_ROLE, R.LN_RX_STW_VALID, R.LN_RX_FN_VALUE, R.LN_RX_TKW_VALUE,
      R.LN_RX_VTW_SEEN_A, R.LN_RX_VTW_SEEN_B, R.LN_RX_VTW_VOTE, R.LN_RX_VTW_VALID, R.LN_RX_BEW_CORR, R.LN_RX_BEW_UNC, R.LN_RX_BEW_VALID, R.LN_CNT0,
      R.LN_CNT1, R.LN_CNT2, R.LN_CNT3, R.LN_CNT4, R.LN_CNT5, R.LN_PEER_PHI_PHASE, R.LN_PEER_PSI_PHASE, R.LN_LINK_RTT_RTT, R.LN_LINK_RTT_VALID,
      R.CUT_SCNn_TRIG_PRIMED, R.CNT_EVT, R.CNT_Bc_COUNT, R.LN_FIT_STATUS_STATE, R.LN_FIT_STATUS_RX_POL_INV, R.LN_FIT_STATUS_SUB, R.LN_TX_COEF_CM3,
      R.LN_TX_COEF_CM2, R.LN_TX_COEF_CM1, R.LN_TX_COEF_CP1, R.LN_TX_COEF_C0, R.LN_ADAPT_STAT_FROZEN, R.LN_PEER_ID0_ID, R.LN_PEER_ID1_ID,
      R.LN_PEER_ID2_ID, R.LN_PEER_ID3_ID, R.LN_PEER_ID4_ID, R.LN_SPARE_STAT_COVER, R.LN_SPARE_STAT_SHADOW, R.LN_SPARE_STAT_READY,
      R.LN_SPARE_STAT_CARRYING, R.LN_SPARE_STAT_CARRIED, R.LN_MCH_STAT_RX_BAD, R.LN_MCH_STAT_RX_DROP, R.LN_MCH_IDX_RX_HEAD, R.MTX_EVT,
      R.MTX_ERR_ADDR, R.MTX_ERR_HI_MASTER, R.MTX_ERR_HI_TARGET, R.MTX_ERR_HI_KIND, R.TLY_SPARES_LANES, R.MAT_STAT_TKV, R.MAT_STAT_NEW_ROLE,
      R.MAT_TAKE_CAUSE, R.MAT_TAKE_FROM_COPY, R.MAT_TAKE_DECIDER, R.MAT_TAKE_FRAME_VALUE, R.TLY_STAT_SIST_BUSY, R.TLY_EVT],
    parts := [.ringQ, .logQ, .lanes, .sill, .sist, .resp, .mem, .free, .mate, .tallyQ] }

/-- What SSM_ACCEPT may change. -/
def ssmAcceptTouches : Footprint :=
  { fields := [R.LN_DEF_EVT, R.LN_RX_STW_SSM],
    parts := [.ringQ, .logQ] }

/-- What PAGE_WINDOW_CLOSE may change. -/
def pageWindowCloseTouches : Footprint :=
  { fields := [R.LN_DEF_EVT, R.LN_CNT4],
    parts := [.ringQ, .logQ, .sill] }

/-- What LOS_DECLARE, LOL_DECLARE, LOF_DECLARE, LAIS_DECLARE, LRDI_DECLARE, LSD_DECLARE, LSF_DECLARE, LMM_DECLARE may change. -/
def losDeclareTouches : Footprint :=
  { fields := [R.LN_FIT_EVT, R.LN_TX_STAT_TIMING_ACT, R.LN_TX_STAT_SLEWING, R.LN_FRM_STAT_CA, R.LN_FRM_STAT_LOS, R.LN_FRM_STAT_LOL,
      R.LN_FRM_STAT_OOF, R.LN_FRM_STAT_LOF, R.LN_FRM_STAT_LAIS, R.LN_FRM_STAT_LRDI, R.LN_FRM_STAT_LSD, R.LN_FRM_STAT_LSF,
      R.LN_FRM_STAT_LMM, R.LN_FRM_STAT_LPH, R.LN_DEF_EVT],
    parts := [.ringQ, .logQ, .lanes, .sist] }

/-- What LOS_CLEAR, LOL_CLEAR, LOF_CLEAR, LAIS_CLEAR, LRDI_CLEAR, LSD_CLEAR, LSF_CLEAR, LMM_CLEAR, LPH_CLEAR may change. -/
def losClearTouches : Footprint :=
  { fields := [R.LN_FRM_STAT_CA, R.LN_FRM_STAT_LOS, R.LN_FRM_STAT_LOL, R.LN_FRM_STAT_OOF, R.LN_FRM_STAT_LOF, R.LN_FRM_STAT_LAIS, R.LN_FRM_STAT_LRDI,
      R.LN_FRM_STAT_LSD, R.LN_FRM_STAT_LSF, R.LN_FRM_STAT_LMM, R.LN_FRM_STAT_LPH, R.LN_DEF_EVT, R.CUT_SCNn_TRIG_PRIMED],
    parts := [.ringQ, .logQ, .lanes, .sist] }

/-- What CENTRE_SWEEP may change. -/
def centreSweepTouches : Footprint :=
  { fields := [R.BNT_EVT, R.BNT_HIST_STEPS, R.FAB_EVT, R.FAB_LAM_MM_COUNT, R.FAB_CONFLICT_COUNT, R.MAT_EVT, R.MAT_JSENT_VALUE, R.MAT_JFILL_UNITS,
      R.MAT_JFILL_OVERFLOW, R.FAB_LP_LATE_COUNT, R.MAT_COPY_EPOCH, R.MAT_COPY_SLICE, R.MAT_COPY_PHASE, R.DDR_CNT_COUNT],
    parts := [.cycle, .ringQ, .logQ, .mem, .tap, .plate, .links, .actions, .chg, .mate, .sist, .free, .longMem, .retPages] }

/-- What KERF_CHECK may change. -/
def kerfCheckTouches : Footprint :=
  { fields := [R.FAB_EVT, R.FAB_LAM_STAT_ROTATE_ACT, R.FAB_KERF_FAIL_IN, R.FAB_KERF_FAIL_OUT, R.FAB_KERF_FAIL_LAMMASK, R.FAB_KERF_FAIL_VALID,
      R.FAB_LAM_ERR_COUNT, R.TLY_STAT_SIST_BUSY, R.TLY_EVT, R.TLY_SPARES_LAM, R.MAT_STAT_STATE, R.MAT_STAT_ARB_OUT, R.MAT_STAT_KEPT,
      R.MAT_STAT_TKV, R.MAT_STAT_NEW_ROLE, R.MAT_EVT, R.FAB_LAM_CTRL_ROTATE],
    parts := [.cycle, .free, .ringQ, .logQ, .tallyQ, .sist, .mate, .staged] }

/-- What LONG_PATH_TAP may change. -/
def longPathTapTouches : Footprint :=
  { parts := [.longMem, .pegs] }

/-- What LONG_PATH_RETURN may change. -/
def longPathReturnTouches : Footprint :=
  { fields := [R.FAB_EVT, R.FAB_LP_LATE_COUNT, R.DDR_CNT_COUNT],
    parts := [.free, .ringQ, .logQ, .retPages] }

/-- What TX_FRAME may change. -/
def txFrameTouches : Footprint :=
  { fields := [R.LN_TX_PHASE_PHASE, R.LN_PHASE_STAT_RX_VALID, R.LN_PHASE_STAT_RX_SYNC_OK, R.LN_PHASE_STAT_TX_VALID, R.LN_FIT_STATUS_STATE,
      R.LN_FIT_STATUS_RX_POL_INV, R.LN_FIT_STATUS_SUB, R.LN_FIT_EVT, R.LN_TX_STAT_TIMING_ACT, R.LN_TX_STAT_SLEWING, R.LN_TX_STAT_TX_INV_ACT,
      R.LN_TX_COEF_CM3, R.LN_TX_COEF_CM2, R.LN_TX_COEF_CM1, R.LN_TX_COEF_CP1, R.LN_TX_COEF_C0, R.LN_ADAPT_STAT_GOOD_SECS, R.LN_ADAPT_STAT_FROZEN,
      R.LN_SPARE_STAT_SHADOW, R.LN_SPARE_STAT_READY, R.LN_SPARE_STAT_CARRYING, R.LN_SPARE_STAT_CARRIED, R.LN_FRM_STAT_ALIGN, R.LN_FRM_STAT_CA,
      R.LN_FRM_STAT_LOS, R.LN_FRM_STAT_LOL, R.LN_FRM_STAT_OOF, R.LN_FRM_STAT_LOF, R.LN_FRM_STAT_LAIS, R.LN_FRM_STAT_LRDI, R.LN_FRM_STAT_LSD,
      R.LN_FRM_STAT_LSF, R.LN_FRM_STAT_LMM, R.LN_FRM_STAT_LPH, R.LN_FRM_STAT_TX_LAIS, R.LN_FRM_STAT_TX_LRDI, R.FAB_EVT, R.CUT_SCNn_TRIG_PRIMED,
      R.GRN_EVT, R.GRN_LAST_SLOT, R.GRN_LAST_SIDE, R.GRN_LAST_CAUSE, R.GRN_LAST_VALID, R.GRN_LAST_FRAME_FRAME, R.GRN_CNT_COUNT, R.SCF_EVT,
      R.SCF_CNT_COUNT, R.SCF_GEVT, R.SCF_GBAD_W_COUNT, R.SCF_GBAD_P_COUNT, R.SCF_GSEL_P_COUNT, R.SCF_GNEITHER_COUNT, R.SCF_GDIFF_COUNT, R.CNT_EVT,
      R.CNT_Bc_COUNT, R.TLY_SPARES_LANES, R.LN_RX_PHASE_PHASE, R.LN_DEF_EVT, R.LN_MCH_STAT_RX_BAD, R.LN_LINK_RTT_VALID],
    parts := [.ringQ, .logQ, .lanes, .sides, .groups, .sist, .pegs] }

/-- What GRN_FAULT_CLEAR may change. -/
def grnFaultClearTouches : Footprint :=
  { fields := [R.GRN_EVT],
    parts := [.ringQ, .logQ, .sides] }

/-- What SIGNAL_EXIT, LOCK_EXIT, FRAME_EXIT may change. -/
def signalExitTouches : Footprint :=
  { fields := [R.LN_FIT_STATUS_STATE],
    parts := [.lanes, .sist] }

/-- What TUNE_EXIT may change. -/
def tuneExitTouches : Footprint :=
  { fields := [R.LN_FIT_STATUS_STATE, R.LN_RX_EQ_CTLE, R.LN_RX_EQ_H1, R.LN_RX_EQ_H2, R.LN_RX_EQ_H3, R.LN_RX_FFE_LO_F0_F3, R.LN_RX_FFE_HI_F4_F7],
    parts := [.free, .lanes, .sist] }

/-- What SERVICE_ENTER may change. -/
def serviceEnterTouches : Footprint :=
  { fields := [R.LN_FIT_STATUS_STATE, R.LN_FIT_STATUS_FAILS, R.LN_FIT_BACKOFF_BACKOFF, R.LN_FIT_EVT, R.LN_TX_STAT_TIMING_ACT, R.LN_TX_STAT_SLEWING,
      R.LN_FRM_STAT_CA],
    parts := [.ringQ, .logQ, .lanes, .raise, .sist] }

/-- What FIT_TIMEOUT, FIT_LOS_FAIL, PARTNER_GONE_FAIL, MSG_RETRY may change. -/
def fitTimeoutTouches : Footprint :=
  { fields := [R.LN_PHASE_STAT_RX_VALID, R.LN_PHASE_STAT_RX_SYNC_OK, R.LN_FIT_STATUS_STATE, R.LN_FIT_STATUS_SUB, R.LN_FIT_STATUS_LAST_FAIL,
      R.LN_FIT_STATUS_FAILS, R.LN_FIT_BACKOFF_BACKOFF, R.LN_FIT_EVT, R.LN_TX_STAT_TIMING_ACT, R.LN_TX_STAT_SLEWING, R.LN_SPARE_STAT_SHADOW,
      R.LN_SPARE_STAT_READY, R.LN_SPARE_STAT_CARRYING, R.LN_SPARE_STAT_CARRIED, R.LN_FRM_STAT_ALIGN, R.LN_FRM_STAT_CA, R.TLY_SPARES_LANES,
      R.LN_RX_PHASE_PHASE, R.LN_FRM_STAT_LOS, R.LN_FRM_STAT_LOL, R.LN_FRM_STAT_OOF, R.LN_FRM_STAT_LOF, R.LN_FRM_STAT_LAIS, R.LN_FRM_STAT_LRDI,
      R.LN_FRM_STAT_LSD, R.LN_FRM_STAT_LSF, R.LN_FRM_STAT_LMM, R.LN_FRM_STAT_LPH, R.LN_DEF_EVT, R.LN_MCH_STAT_RX_BAD, R.LN_LINK_RTT_VALID],
    parts := [.ringQ, .logQ, .lanes, .sist] }

/-- What BACKOFF_EXPIRY, WAIT_WAKE, SERVICE_PERSIST_LEAVE, RESTART, LEAVE may change. -/
def backoffExpiryTouches : Footprint :=
  { fields := [R.LN_PHASE_STAT_RX_VALID, R.LN_PHASE_STAT_RX_SYNC_OK, R.LN_FIT_STATUS_STATE, R.LN_FIT_STATUS_RX_POL_INV, R.LN_FIT_STATUS_SUB,
      R.LN_FIT_EVT, R.LN_TX_STAT_TIMING_ACT, R.LN_TX_STAT_SLEWING, R.LN_TX_COEF_CM3, R.LN_TX_COEF_CM2, R.LN_TX_COEF_CM1, R.LN_TX_COEF_CP1,
      R.LN_TX_COEF_C0, R.LN_ADAPT_STAT_GOOD_SECS, R.LN_ADAPT_STAT_FROZEN, R.LN_SPARE_STAT_SHADOW, R.LN_SPARE_STAT_READY, R.LN_SPARE_STAT_CARRYING,
      R.LN_SPARE_STAT_CARRIED, R.LN_FRM_STAT_ALIGN, R.LN_FRM_STAT_CA, R.LN_FRM_STAT_LOS, R.LN_FRM_STAT_LOL, R.LN_FRM_STAT_OOF, R.LN_FRM_STAT_LOF,
      R.LN_FRM_STAT_LAIS, R.LN_FRM_STAT_LRDI, R.LN_FRM_STAT_LSD, R.LN_FRM_STAT_LSF, R.LN_FRM_STAT_LMM, R.LN_FRM_STAT_LPH, R.CUT_SCNn_TRIG_PRIMED,
      R.TLY_SPARES_LANES, R.LN_RX_PHASE_PHASE, R.LN_DEF_EVT, R.LN_MCH_STAT_RX_BAD, R.LN_LINK_RTT_VALID],
    parts := [.ringQ, .logQ, .lanes, .sist] }

/-- What TRAINING_ROW may change. -/
def trainingRowTouches : Footprint :=
  { fields := [R.LN_PHASE_STAT_RX_VALID, R.LN_PHASE_STAT_RX_SYNC_OK, R.LN_FIT_STATUS_STATE, R.LN_FIT_STATUS_RX_POL_INV, R.LN_FIT_STATUS_SUB,
      R.LN_FIT_STATUS_PEER_STATE, R.LN_FIT_STATUS_PEER_LANE, R.LN_FIT_EVT, R.LN_TX_STAT_TIMING_ACT, R.LN_TX_STAT_SLEWING, R.LN_TX_COEF_CM3,
      R.LN_TX_COEF_CM2, R.LN_TX_COEF_CM1, R.LN_TX_COEF_CP1, R.LN_TX_COEF_C0, R.LN_ADAPT_STAT_GOOD_SECS, R.LN_ADAPT_STAT_FROZEN,
      R.LN_SPARE_STAT_SHADOW, R.LN_SPARE_STAT_READY, R.LN_SPARE_STAT_CARRYING, R.LN_SPARE_STAT_CARRIED, R.LN_FRM_STAT_ALIGN, R.LN_FRM_STAT_CA,
      R.LN_FRM_STAT_LOS, R.LN_FRM_STAT_LOL, R.LN_FRM_STAT_OOF, R.LN_FRM_STAT_LOF, R.LN_FRM_STAT_LAIS, R.LN_FRM_STAT_LRDI, R.LN_FRM_STAT_LSD,
      R.LN_FRM_STAT_LSF, R.LN_FRM_STAT_LMM, R.LN_FRM_STAT_LPH, R.CUT_SCNn_TRIG_PRIMED, R.TLY_SPARES_LANES, R.LN_RX_PHASE_PHASE, R.LN_RX_EQ_CTLE,
      R.LN_RX_EQ_H1, R.LN_RX_EQ_H2, R.LN_RX_EQ_H3, R.LN_RX_FFE_LO_F0_F3, R.LN_RX_FFE_HI_F4_F7, R.LN_DEF_EVT, R.LN_MCH_STAT_RX_BAD,
      R.LN_LINK_RTT_VALID],
    parts := [.free, .ringQ, .logQ, .lanes, .sist] }

/-- What DISCOVERY_ROW may change. -/
def discoveryRowTouches : Footprint :=
  { fields := [R.LN_FIT_STATUS_PEER_STATE, R.LN_FIT_STATUS_PEER_LANE, R.LN_FIT_STATUS_RX_POL_INV],
    parts := [.lanes] }

/-- What FIT_ENABLE_WRITE, LN_RESTART, BACKOFF_RESET, UNFREEZE may change. -/
def fitEnableWriteTouches : Footprint :=
  { fields := writeFields ++ [R.LN_PHASE_STAT_RX_VALID, R.LN_PHASE_STAT_RX_SYNC_OK, R.LN_FIT_CTRL_ENABLE, R.LN_FIT_CTRL_PEER_PRESET,
      R.LN_FIT_CTRL_EXPECT_EN, R.LN_FIT_STATUS_STATE, R.LN_FIT_STATUS_RX_POL_INV, R.LN_FIT_STATUS_SUB, R.LN_FIT_BACKOFF_BACKOFF, R.LN_FIT_EVT,
      R.LN_TX_STAT_TIMING_ACT, R.LN_TX_STAT_SLEWING, R.LN_TX_COEF_CM3, R.LN_TX_COEF_CM2, R.LN_TX_COEF_CM1, R.LN_TX_COEF_CP1, R.LN_TX_COEF_C0,
      R.LN_ADAPT_STAT_GOOD_SECS, R.LN_ADAPT_STAT_FROZEN, R.LN_SPARE_STAT_SHADOW, R.LN_SPARE_STAT_READY, R.LN_SPARE_STAT_CARRYING,
      R.LN_SPARE_STAT_CARRIED, R.LN_FRM_STAT_ALIGN, R.LN_FRM_STAT_CA, R.LN_FRM_STAT_LOS, R.LN_FRM_STAT_LOL, R.LN_FRM_STAT_OOF, R.LN_FRM_STAT_LOF,
      R.LN_FRM_STAT_LAIS, R.LN_FRM_STAT_LRDI, R.LN_FRM_STAT_LSD, R.LN_FRM_STAT_LSF, R.LN_FRM_STAT_LMM, R.LN_FRM_STAT_LPH, R.CUT_SCNn_TRIG_PRIMED,
      R.TLY_SPARES_LANES, R.LN_RX_PHASE_PHASE, R.LN_DEF_EVT, R.LN_MCH_STAT_RX_BAD, R.LN_LINK_RTT_VALID],
    parts := writeParts ++ [.lanes, .sist] }

/-- What IDENT may change. -/
def identTouches : Footprint :=
  { fields := [R.LN_FIT_EVT, R.LN_TX_STAT_TIMING_ACT, R.LN_TX_STAT_SLEWING, R.LN_PEER_ID0_ID, R.LN_PEER_ID1_ID, R.LN_PEER_ID2_ID, R.LN_PEER_ID3_ID,
      R.LN_PEER_ID4_ID, R.LN_SPARE_STAT_COVER, R.LN_FRM_STAT_CA, R.LN_FRM_STAT_LOS, R.LN_FRM_STAT_LOL, R.LN_FRM_STAT_OOF,
      R.LN_FRM_STAT_LOF, R.LN_FRM_STAT_LAIS, R.LN_FRM_STAT_LRDI, R.LN_FRM_STAT_LSD, R.LN_FRM_STAT_LSF, R.LN_FRM_STAT_LMM,
      R.LN_FRM_STAT_LPH, R.LN_DEF_EVT],
    parts := [.ringQ, .logQ, .lanes, .sist] }

/-- What SERVICE_GO, SPARE_SELECT, NAK may change. -/
def serviceGoTouches : Footprint :=
  { parts := [.lanes] }

/-- What SPARE_PREP may change. -/
def sparePrepTouches : Footprint :=
  { fields := [R.LN_SPARE_STAT_SHADOW, R.LN_SPARE_STAT_READY, R.TLY_SPARES_LANES],
    parts := [.lanes, .sill] }

/-- What SPARE_RELEASE may change. -/
def spareReleaseTouches : Footprint :=
  { fields := [R.LN_FIT_STATUS_SUB, R.LN_SPARE_STAT_SHADOW, R.LN_SPARE_STAT_READY, R.LN_SPARE_STAT_CARRYING, R.LN_SPARE_STAT_CARRIED,
      R.TLY_SPARES_LANES, R.LN_RX_PHASE_PHASE],
    parts := [.lanes] }

/-- What ACK, LEAVE_TIMEOUT may change. -/
def ackTouches : Footprint :=
  { fields := [R.LN_PHASE_STAT_RX_VALID, R.LN_PHASE_STAT_RX_SYNC_OK, R.LN_FIT_STATUS_STATE, R.LN_FIT_STATUS_SUB, R.LN_FIT_EVT,
      R.LN_TX_STAT_TIMING_ACT, R.LN_TX_STAT_SLEWING, R.LN_SPARE_STAT_SHADOW, R.LN_SPARE_STAT_READY, R.LN_SPARE_STAT_CARRYING,
      R.LN_SPARE_STAT_CARRIED, R.LN_FRM_STAT_ALIGN, R.LN_FRM_STAT_CA, R.TLY_SPARES_LANES, R.LN_RX_PHASE_PHASE, R.LN_FRM_STAT_LOS,
      R.LN_FRM_STAT_LOL, R.LN_FRM_STAT_OOF, R.LN_FRM_STAT_LOF, R.LN_FRM_STAT_LAIS, R.LN_FRM_STAT_LRDI, R.LN_FRM_STAT_LSD, R.LN_FRM_STAT_LSF,
      R.LN_FRM_STAT_LMM, R.LN_FRM_STAT_LPH, R.LN_DEF_EVT, R.LN_MCH_STAT_RX_BAD, R.LN_LINK_RTT_VALID],
    parts := [.ringQ, .logQ, .lanes, .sist, .sill] }

/-- What LOOP_AUTO_RESTORE may change. -/
def loopAutoRestoreTouches : Footprint :=
  { fields := [R.LN_TX_STAT_TIMING_ACT, R.LN_TX_STAT_SLEWING],
    parts := [.lanes] }

/-- What LOOP_RESTORE may change. -/
def loopRestoreTouches : Footprint :=
  { fields := writeFields ++ [R.LN_TX_STAT_TIMING_ACT, R.LN_TX_STAT_SLEWING],
    parts := writeParts ++ [.lanes] }

/-- What GOOD_SECOND may change. -/
def goodSecondTouches : Footprint :=
  { fields := [R.LN_ADAPT_STAT_GOOD_SECS, R.LN_ADAPT_STAT_KG_VALID],
    parts := [.lanes] }

/-- What ADAPT_REVERT may change. -/
def adaptRevertTouches : Footprint :=
  { fields := [R.LN_FIT_EVT, R.LN_RX_EQ_CTLE, R.LN_RX_EQ_H1, R.LN_RX_EQ_H2, R.LN_RX_EQ_H3, R.LN_RX_FFE_LO_F0_F3, R.LN_RX_FFE_HI_F4_F7,
      R.LN_ADAPT_STAT_GOOD_SECS, R.LN_ADAPT_STAT_HOLD, R.LN_ADAPT_STAT_FROZEN, R.LN_ADAPT_STAT_REVERTS],
    parts := [.ringQ, .logQ, .lanes, .sist] }

/-- What ADAPT_HOLD_END may change. -/
def adaptHoldEndTouches : Footprint :=
  { fields := [R.LN_ADAPT_STAT_HOLD],
    parts := [.lanes] }

/-- What SPARE_PREP_WRITE, SPARE_SELECT_WRITE, SPARE_RELEASE_WRITE may change. -/
def sparePrepWriteTouches : Footprint :=
  { fields := writeFields ++ [R.LN_SPARE_CTRL_TARGET],
    parts := writeParts ++ [.lanes] }

/-- What SPARE_SHADOW_READY may change. -/
def spareShadowReadyTouches : Footprint :=
  { fields := [R.LN_FIT_EVT, R.LN_SPARE_STAT_READY],
    parts := [.ringQ, .logQ, .lanes] }

/-- What SPARE_SWITCH may change. -/
def spareSwitchTouches : Footprint :=
  { fields := [R.LN_FIT_STATUS_SUB, R.LN_FIT_EVT, R.LN_SPARE_STAT_CARRYING, R.LN_SPARE_STAT_CARRIED, R.LN_RX_PHASE_PHASE],
    parts := [.ringQ, .logQ, .lanes] }

/-- What MCH_PACKET_RX may change. -/
def mchPacketRxTouches : Footprint :=
  { fields := [R.LN_DEF_EVT, R.LN_MCH_STAT_RX_BAD, R.LN_MCH_STAT_RX_DROP, R.LN_MCH_IDX_RX_HEAD, R.MTX_EVT, R.MTX_ERR_ADDR, R.MTX_ERR_HI_MASTER,
      R.MTX_ERR_HI_TARGET, R.MTX_ERR_HI_KIND],
    parts := [.resp, .ringQ, .logQ, .mem, .lanes] }

/-- What MCH_PACKET_TX may change. -/
def mchPacketTxTouches : Footprint :=
  { fields := [R.LN_MCH_IDX_TX_TAIL, R.MTX_EVT, R.MTX_ERR_ADDR, R.MTX_ERR_HI_MASTER, R.MTX_ERR_HI_TARGET, R.MTX_ERR_HI_KIND, R.DDR_CNT_COUNT],
    parts := [.resp, .ringQ, .logQ, .lanes] }

/-- What MEMBER_JOIN may change. -/
def memberJoinTouches : Footprint :=
  { fields := [R.BNT_EVT],
    parts := [.ringQ, .logQ, .links] }

/-- What BENT_STEP_APPLY, BENT_RETIME_APPLY may change. -/
def bentStepApplyTouches : Footprint :=
  { fields := [R.BNT_EVT, R.BNT_HIST_REALIGNS, R.GRN_EVT, R.FAB_EVT],
    parts := [.ringQ, .logQ, .sched, .tap, .links, .actions, .pauses, .chg, .sides, .longMem, .mate] }

/-- What BENT_GROWTH_END may change. -/
def bentGrowthEndTouches : Footprint :=
  { fields := [R.BNT_EVT],
    parts := [.ringQ, .logQ, .pauses] }

/-- What BENT_RETIME may change. -/
def bentRetimeTouches : Footprint :=
  { fields := writeFields ++ [R.MAT_JSENT_VALUE, R.MAT_JFILL_UNITS, R.MAT_JFILL_OVERFLOW, R.MAT_COPY_EPOCH, R.MAT_COPY_SLICE, R.MAT_COPY_PHASE],
    parts := writeParts ++ [.mem, .tap, .actions, .chg, .mate, .longMem] }

/-- What COMPILE, APPLY, GO, ABORT may change. -/
def compileTouches : Footprint :=
  { fields := writeFields ++ [R.SCB_REPL_STAT_STATE, R.CUT_Lj_STAT_STATE, R.CUT_Lj_STAT_APPLY_REQ, R.CUT_Lj_STAT_ASAP, R.CUT_Lj_ERR_CODE,
      R.CUT_Lj_ERR_INDEX, R.CUT_Lj_ERRSLOT_SLOT, R.CUT_Lj_ERRSLOT_VALID, R.CUT_Lj_TICK_FRAME, R.CUT_SCN_STAT_STATE, R.CUT_SCN_ERR_CODE,
      R.CUT_SCN_ERR_INDEX, R.MAT_JSENT_VALUE, R.MAT_JFILL_UNITS, R.MAT_JFILL_OVERFLOW, R.IMG_RAISE_HALTED, R.IMG_RAISE_RECOVERY, R.IMG_RAISE_FAIL,
      R.IMG_RAISE_DETAIL_SECTION, R.IMG_RAISE_DETAIL_CODE, R.IMG_RAISE_DETAIL_OFFSET, R.MAT_COPY_EPOCH, R.MAT_COPY_SLICE, R.MAT_COPY_PHASE],
    parts := writeParts ++ [.mem, .tap, .links, .chg, .queued, .mate] }

/-- What COMPILE_START may change. -/
def compileStartTouches : Footprint :=
  { fields := [R.SCB_REPL_STAT_STATE, R.CUT_Lj_STAT_STATE, R.CUT_SCN_STAT_CUR, R.CUT_SCN_STAT_STATE, R.MAT_EVT, R.MAT_JSENT_VALUE,
      R.MAT_JFILL_UNITS, R.MAT_JFILL_OVERFLOW],
    parts := [.ringQ, .logQ, .mem, .chg, .queued, .mate] }

/-- What COMPILE_DONE may change. -/
def compileDoneTouches : Footprint :=
  { fields := [R.SCB_REPL_STAT_STATE, R.SCB_REPL_STAT_MOVED, R.CUT_EVT, R.CUT_Lj_STAT_STATE, R.CUT_Lj_ERR_CODE, R.CUT_Lj_ERR_INDEX,
      R.CUT_Lj_ERRSLOT_SLOT, R.CUT_Lj_ERRSLOT_VALID, R.CUT_Lj_TICK_FRAME, R.CUT_SCN_STAT_STATE, R.CUT_SCN_STAT_SPAN, R.CUT_SCN_ERR_CODE,
      R.CUT_SCN_ERR_INDEX, R.MAT_EVT, R.MAT_JSENT_VALUE, R.MAT_JFILL_UNITS, R.MAT_JFILL_OVERFLOW, R.IMG_RAISE_HALTED, R.IMG_RAISE_RECOVERY,
      R.IMG_RAISE_FAIL, R.IMG_RAISE_DETAIL_SECTION, R.IMG_RAISE_DETAIL_CODE, R.IMG_RAISE_DETAIL_OFFSET, R.MAT_COPY_EPOCH, R.MAT_COPY_SLICE,
      R.MAT_COPY_PHASE, R.DDR_CNT_COUNT],
    parts := [.ringQ, .logQ, .mem, .tap, .links, .chg, .mate, .longMem] }

/-- What RECOMPILE may change. -/
def recompileTouches : Footprint :=
  { fields := [R.SCB_REPL_STAT_STATE, R.CUT_EVT, R.CUT_Lj_STAT_STATE, R.CUT_SCN_STAT_CUR, R.CUT_SCN_STAT_STATE, R.MAT_EVT, R.MAT_JSENT_VALUE,
      R.MAT_JFILL_UNITS, R.MAT_JFILL_OVERFLOW],
    parts := [.ringQ, .logQ, .mem, .tap, .links, .chg, .mate] }

/-- What APPLY_START may change. -/
def applyStartTouches : Footprint :=
  { fields := [R.SCB_REPL_STAT_STATE, R.SCB_REPL_STAT_STEP, R.CUT_EVT, R.CUT_Lj_STAT_STATE, R.CUT_Lj_ERR_CODE, R.CUT_Lj_ERR_INDEX,
      R.CUT_Lj_ERRSLOT_SLOT, R.CUT_Lj_ERRSLOT_VALID, R.CUT_SCN_STAT_STATE, R.CUT_SCN_ERR_CODE, R.CUT_SCN_ERR_INDEX, R.MAT_EVT, R.MAT_JSENT_VALUE,
      R.MAT_JFILL_UNITS, R.MAT_JFILL_OVERFLOW, R.IMG_RAISE_HALTED, R.IMG_RAISE_RECOVERY, R.IMG_RAISE_FAIL, R.IMG_RAISE_DETAIL_SECTION,
      R.IMG_RAISE_DETAIL_CODE, R.IMG_RAISE_DETAIL_OFFSET, R.MAT_COPY_EPOCH, R.MAT_COPY_SLICE, R.MAT_COPY_PHASE],
    parts := [.ringQ, .logQ, .mem, .tap, .links, .actions, .chg, .mate] }

/-- What APPLY_TICK, CHUNK_APPLY, REPLACE_STEP may change. -/
def applyTickTouches : Footprint :=
  { fields := [R.BNT_EVT, R.FAB_EVT, R.SCB_REPL_STAT_STEP, R.CUT_SCN_LAST_FRAME, R.GRN_EVT, R.SCF_GSTAT_STATE, R.SCF_GSTAT_W_DEG,
      R.SCF_GSTAT_P_DEG, R.SCF_GEVT, R.SCF_GWTR_REMAIN, R.MAT_EVT, R.MAT_JSENT_VALUE, R.MAT_JFILL_UNITS, R.MAT_JFILL_OVERFLOW, R.MAT_COPY_EPOCH,
      R.MAT_COPY_SLICE, R.MAT_COPY_PHASE],
    parts := [.ringQ, .logQ, .mem, .sched, .tap, .links, .chg, .sides, .groups, .mate] }

/-- What CHANGE_DONE may change. -/
def changeDoneTouches : Footprint :=
  { fields := [R.SCB_EVT, R.SCB_REPL_STAT_STATE, R.CUT_EVT, R.CUT_Lj_STAT_STATE, R.CUT_SCN_STAT_STATE, R.MAT_EVT, R.MAT_JSENT_VALUE,
      R.MAT_JFILL_UNITS, R.MAT_JFILL_OVERFLOW],
    parts := [.ringQ, .logQ, .mem, .tap, .chg, .mate, .raise] }

/-- What TAP_CLEAR may change. -/
def tapClearTouches : Footprint :=
  { parts := [.tap] }

/-- What SCENE_GO may change. -/
def sceneGoTouches : Footprint :=
  { fields := writeFields,
    parts := writeParts ++ [.scnTrig] }

/-- What SCENE_DEFECT_TRIGGER may change. -/
def sceneDefectTriggerTouches : Footprint :=
  { fields := [R.CUT_SCNn_TRIG_PRIMED],
    parts := [.scnTrig] }

/-- What SCENE_QUEUE may change. -/
def sceneQueueTouches : Footprint :=
  { fields := [R.CUT_EVT],
    parts := [.ringQ, .logQ, .scnTrig, .scnQ] }

/-- What SCENE_START may change. -/
def sceneStartTouches : Footprint :=
  { fields := [R.SCB_REPL_STAT_STATE, R.CUT_EVT, R.CUT_Lj_STAT_STATE, R.CUT_Lj_ERR_CODE, R.CUT_Lj_ERR_INDEX, R.CUT_Lj_ERRSLOT_SLOT,
      R.CUT_Lj_ERRSLOT_VALID, R.CUT_SCN_STAT_CUR, R.CUT_SCN_STAT_STATE, R.CUT_SCN_ERR_CODE, R.CUT_SCN_ERR_INDEX, R.MAT_EVT, R.MAT_JSENT_VALUE,
      R.MAT_JFILL_UNITS, R.MAT_JFILL_OVERFLOW, R.IMG_RAISE_HALTED, R.IMG_RAISE_RECOVERY, R.IMG_RAISE_FAIL, R.IMG_RAISE_DETAIL_SECTION,
      R.IMG_RAISE_DETAIL_CODE, R.IMG_RAISE_DETAIL_OFFSET, R.MAT_COPY_EPOCH, R.MAT_COPY_SLICE, R.MAT_COPY_PHASE],
    parts := [.ringQ, .logQ, .mem, .tap, .links, .chg, .queued, .scnQ, .mate] }

/-- What REPLACE_GO may change. -/
def replaceGoTouches : Footprint :=
  { fields := writeFields ++ [R.SCB_REPL_STAT_STATE, R.MAT_JSENT_VALUE, R.MAT_JFILL_UNITS, R.MAT_JFILL_OVERFLOW, R.MAT_COPY_EPOCH,
      R.MAT_COPY_SLICE, R.MAT_COPY_PHASE],
    parts := writeParts ++ [.mem, .queued, .mate] }

/-- What SCARF_WINDOW_EVAL and SCARF_WTR_EXPIRY may change where no commit waits at their tick (R246). -/
def scarfWindowTouches : Footprint :=
  { fields := [R.SCF_EVT, R.SCF_GSTAT_STATE, R.SCF_GSTAT_W_DEG, R.SCF_GSTAT_P_DEG, R.SCF_GEVT, R.SCF_GWTR_REMAIN],
    parts := [.ringQ, .logQ, .groups] }

/-- What SCARF_WINDOW_EVAL and SCARF_WTR_EXPIRY may change: also all that a commit of the same tick does, which takes effect before (R246). -/
def scarfWindowEvalTouches : Footprint :=
  { anyField := true,
    parts := [.staged, .ringQ, .logQ, .mem, .lanes, .groups, .chg, .plumb, .mate, .sampled, .pegs, .tallyQ, .snapFixed, .snapAt, .snapped,
      .archive, .sist] }

/-- What WTR_CLEAR may change. -/
def wtrClearTouches : Footprint :=
  { fields := writeFields ++ [R.SCF_GWTR_REMAIN, R.MAT_JSENT_VALUE, R.MAT_JFILL_UNITS, R.MAT_JFILL_OVERFLOW, R.MAT_COPY_EPOCH, R.MAT_COPY_SLICE,
      R.MAT_COPY_PHASE],
    parts := writeParts ++ [.mem, .mate] }

/-- What REF_FAILURE may change. -/
def refFailureTouches : Footprint :=
  { fields := [R.PLB_REFi_STAT_QUAL, R.PLB_REFi_STAT_ACTIVE, R.PLB_REFi_STAT_FREQ_OK, R.PLB_REFi_EVT, R.PLB_REFi_WTR_REMAIN, R.PLB_REFi_FREQ_VALUE],
    parts := [.ringQ, .logQ, .plumb] }

/-- What REF_HOLDOFF_EXPIRY may change. -/
def refHoldoffExpiryTouches : Footprint :=
  { fields := [R.PLB_REFi_STAT_QUAL, R.PLB_REFi_EVT, R.PLB_REFi_WTR_REMAIN],
    parts := [.ringQ, .logQ, .plumb] }

/-- What REF_CONDITION_CLEAR may change. -/
def refConditionClearTouches : Footprint :=
  { fields := [R.PLB_REFi_STAT_QUAL, R.PLB_REFi_STAT_ACTIVE, R.PLB_REFi_STAT_FREQ_OK, R.PLB_REFi_EVT, R.PLB_REFi_WTR_REMAIN, R.PLB_REFi_FREQ_VALUE],
    parts := [.plumb] }

/-- What PHASE_JUMP may change. -/
def phaseJumpTouches : Footprint :=
  { fields := [R.PLB_BUILDOUT_VALUE, R.PLB_REFi_STAT_QUAL, R.PLB_REFi_STAT_JUMPS, R.PLB_REFi_EVT, R.PLB_REFi_WTR_REMAIN, R.PLB_REFi_JUMP_VALUE],
    parts := [.ringQ, .logQ, .plumb] }

/-- What REF_WTR_EXPIRY may change. -/
def refWtrExpiryTouches : Footprint :=
  { fields := [R.PLB_REFi_STAT_QUAL, R.PLB_REFi_EVT, R.PLB_REFi_WTR_REMAIN],
    parts := [.ringQ, .logQ] }

/-- What FORCE, MANUAL, CLEAR, REALIGN, LEARN_RESET may change. -/
def forceTouches : Footprint :=
  { fields := writeFields ++ [R.PLB_STATUS_MODEL_VALID, R.PLB_HOLD_STAT_RECORDS, R.PLB_HOLD_STAT_VALID, R.PLB_HOLD_FREQ_F0, R.PLB_HOLD_AGE_VALUE,
      R.PLB_HOLD_TCO_VALUE, R.PLB_HOLD_T0_T0, R.DDR_CNT_COUNT],
    parts := writeParts ++ [.free, .mem, .plumb] }

/-- What BRIDGE_HOLD_END may change. -/
def bridgeHoldEndTouches : Footprint :=
  { fields := [R.PLB_STATUS_BRIDGE, R.PLB_PHASE_ERR_VALUE, R.PLB_BUILDOUT_VALUE, R.PLB_PPS_PHASE],
    parts := [.plumb, .free] }

/-- What CAPTURE_COMPLETE may change. -/
def captureCompleteTouches : Footprint :=
  { fields := [R.PLB_STATUS_STATE, R.PLB_STATUS_BRIDGE, R.PLB_STATUS_SEL, R.PLB_STATUS_LAST_REF, R.PLB_EVT, R.PLB_PPS_PHASE, R.PLB_REFi_STAT_QUAL,
      R.PLB_REFi_STAT_ACTIVE, R.PLB_REFi_STAT_FREQ_OK, R.PLB_REFi_STAT_SOFT, R.PLB_REFi_STAT_HARD, R.PLB_REFi_STAT_JUMPS, R.PLB_REFi_WTR_REMAIN,
      R.PLB_REFi_DEV_VALUE],
    parts := [.ringQ, .logQ, .plumb, .raise] }

/-- What HOLDOVER_EXPIRE may change. -/
def holdoverExpireTouches : Footprint :=
  { fields := [R.PLB_STATUS_STATE, R.PLB_STATUS_BRIDGE, R.PLB_STATUS_SEL, R.PLB_EVT],
    parts := [.ringQ, .logQ, .plumb, .raise] }

/-- What EPOCH_END may change. -/
def epochEndTouches : Footprint :=
  { fields := [R.PLB_STATUS_MODEL_VALID, R.PLB_EVT, R.PLB_HOLD_STAT_RECORDS, R.PLB_HOLD_STAT_VALID, R.PLB_HOLD_STAT_FROZEN, R.PLB_HOLD_FREQ_F0,
      R.PLB_HOLD_AGE_VALUE, R.PLB_HOLD_TCO_VALUE, R.PLB_HOLD_T0_T0, R.PLB_HOLD_T0_TNOW, R.PLB_HIST_IDX_NEXT, R.PLB_HIST_IDX_WRAPPED,
      R.PLB_DRIFT_ONSET_EPOCH, R.PLB_REFi_STAT_QUAL, R.PLB_REFi_STAT_SOFT, R.PLB_REFi_STAT_HARD, R.PLB_REFi_EVT, R.PLB_REFi_WTR_REMAIN,
      R.PLB_REFi_FREQ_VALUE, R.PLB_REFi_DEV_VALUE, R.PLB_REFi_MTIE0_VALUE, R.PLB_REFi_MTIE1_VALUE, R.PLB_REFi_MTIE2_VALUE, R.PLB_REFi_MTIE3_VALUE,
      R.PLB_REFi_TDEV_VALUE, R.DDR_CNT_COUNT],
    parts := [.free, .ringQ, .logQ, .mem, .plumb] }

/-- What DPLL_SWAP, DPLL_BUILT_IN_TEST_DONE may change. -/
def dpllSwapTouches : Footprint :=
  { fields := [R.PLB_STATUS_DPLL, R.PLB_STATUS_SHADOW_OK, R.PLB_EVT, R.TLY_STAT_SIST_BUSY, R.TLY_EVT, R.TLY_SPARES_DPLL, R.MAT_STAT_STATE,
      R.MAT_STAT_ARB_OUT, R.MAT_STAT_KEPT, R.MAT_STAT_TKV, R.MAT_STAT_NEW_ROLE, R.MAT_EVT],
    parts := [.ringQ, .logQ, .plumb, .tallyQ, .mate, .sist] }

/-- What SHADOW_RESTORE, DPLL_TEST_TRIGGER may change. -/
def shadowRestoreTouches : Footprint :=
  { fields := [R.PLB_STATUS_SHADOW_OK, R.TLY_SPARES_DPLL, R.TLY_STAT_SIST_BUSY],
    parts := [.plumb] }

/-- What DPLL_MISMATCH may change. -/
def dpllMismatchTouches : Footprint :=
  { fields := [R.PLB_EVT],
    parts := [.ringQ, .logQ, .plumb] }

/-- What HEARTBEAT_RX may change. -/
def heartbeatRxTouches : Footprint :=
  { fields := [R.MAT_STAT_STATE, R.MAT_STAT_ARB_OUT, R.MAT_STAT_HB_OK, R.MAT_STAT_KEPT, R.MAT_STAT_CONFLICT, R.MAT_EVT, R.MAT_PEER_STATE,
      R.MAT_PEER_SIDE, R.MAT_PEER_HEALTHY, R.MAT_PEER_KEPT, R.MAT_PEER_VALID, R.MAT_COPY_PHASE, R.MAT_JSENT_VALUE, R.MAT_JFILL_UNITS,
      R.MAT_JFILL_OVERFLOW, R.MAT_GAP_EDITS_UNITS, R.MAT_COPY_EPOCH, R.MAT_COPY_SLICE],
    parts := [.ringQ, .logQ, .mem, .mate] }

/-- What HEARTBEAT_LOSS may change. -/
def heartbeatLossTouches : Footprint :=
  { fields := [R.MAT_STAT_STATE, R.MAT_STAT_ARB_OUT, R.MAT_STAT_HB_OK, R.MAT_STAT_KEPT, R.MAT_EVT],
    parts := [.cycle, .ringQ, .logQ, .mate] }

/-- What ISOLATE may change. -/
def isolateTouches : Footprint :=
  { fields := [R.MAT_STAT_STATE, R.MAT_STAT_ARB_OUT, R.MAT_STAT_KEPT, R.MAT_EVT],
    parts := [.ringQ, .logQ, .mate] }

/-- What ARB_CHANGE may change. -/
def arbChangeTouches : Footprint :=
  { fields := [R.MAT_STAT_STATE, R.MAT_STAT_ARB_IN, R.MAT_STAT_ARB_OUT, R.MAT_STAT_KEPT, R.MAT_EVT, R.MAT_COPY_PHASE],
    parts := [.cycle, .ringQ, .logQ, .mate] }

/-- What STARTUP_WAIT_EXPIRY may change. -/
def startupWaitExpiryTouches : Footprint :=
  { fields := [R.MAT_STAT_STATE, R.MAT_STAT_ARB_OUT, R.MAT_STAT_KEPT, R.MAT_EVT, R.MAT_COPY_PHASE],
    parts := [.ringQ, .logQ, .mate] }

/-- What SIDE_CONFLICT_TIMEOUT may change. -/
def sideConflictTimeoutTouches : Footprint :=
  { fields := [R.MAT_STAT_CONFLICT] }

/-- What CHANGE, REARM, CANCEL, COMMIT, BENT, COMMAND, INFO may change. -/
def changeTouches : Footprint :=
  { anyField := true,
    parts := [.staged, .ringQ, .logQ, .mem, .lanes, .tap, .links, .actions, .chg, .queued, .plumb, .mate, .pegs, .tallyQ, .longMem, .sist] }

/-- What JOURNAL_GAP may change. -/
def journalGapTouches : Footprint :=
  { fields := [R.MAT_STAT_STATE, R.MAT_STAT_ARB_OUT, R.MAT_STAT_KEPT, R.MAT_EVT, R.MAT_NREADY_JOURNAL, R.MAT_COPY_PHASE],
    parts := [.ringQ, .logQ, .mate] }

/-- What COPY_START may change. -/
def copyStartTouches : Footprint :=
  { fields := [R.MAT_STAT_STATE, R.MAT_STAT_ARB_OUT, R.MAT_STAT_KEPT, R.MAT_EVT, R.MAT_COPY_EPOCH, R.MAT_COPY_SLICE, R.MAT_COPY_PHASE,
      R.MAT_JFILL_OVERFLOW],
    parts := [.ringQ, .logQ, .mate] }

/-- What COPY_SLICE may change. -/
def copySliceTouches : Footprint :=
  { fields := [R.MAT_EVT, R.MAT_COPY_SLICE, R.MAT_COPY_PHASE, R.MAT_JSENT_VALUE, R.MAT_JFILL_UNITS, R.MAT_JFILL_OVERFLOW, R.MAT_COPY_EPOCH],
    parts := [.ringQ, .logQ, .mem, .chg, .mate] }

/-- What EPOCH_INSTALL may change. -/
def epochInstallTouches : Footprint :=
  { anyField := true,
    parts := [.staged, .ringQ, .logQ, .mem, .lanes, .sched, .tap, .links, .actions, .chg, .queued, .sides, .groups, .plumb, .mate, .pegs, .tallyQ,
      .longMem, .sist] }

/-- What STANDBY_READY, STANDBY_UNREADY may change. -/
def standbyReadyTouches : Footprint :=
  { fields := [R.MAT_STAT_STATE, R.MAT_STAT_ARB_OUT, R.MAT_STAT_KEPT, R.MAT_EVT, R.MAT_NREADY_COPY, R.MAT_NREADY_JOURNAL, R.MAT_NREADY_LONGPATH,
      R.MAT_NREADY_BENTLOCK, R.MAT_NREADY_PLUMB, R.MAT_NREADY_SEED, R.MAT_NREADY_GRAIN, R.MAT_NREADY_LANES, R.MAT_COPY_PHASE],
    parts := [.ringQ, .logQ, .mate] }

/-- What DEVICE_FAIL, TAKEOVER_FAIL may change. -/
def deviceFailTouches : Footprint :=
  { fields := [R.MAT_STAT_STATE, R.MAT_STAT_ARB_OUT, R.MAT_STAT_KEPT, R.MAT_STAT_TKV, R.MAT_STAT_NEW_ROLE, R.MAT_EVT],
    parts := [.ringQ, .logQ, .mate] }

/-- What TAKEOVER_DECIDE may change. -/
def takeoverDecideTouches : Footprint :=
  { fields := [R.MAT_STAT_STATE, R.MAT_STAT_ARB_OUT, R.MAT_STAT_KEPT, R.MAT_STAT_TKV, R.MAT_STAT_NEW_ROLE, R.MAT_EVT, R.MAT_TAKE_CAUSE,
      R.MAT_TAKE_FROM_COPY, R.MAT_TAKE_DECIDER, R.MAT_TAKE_FRAME_VALUE],
    parts := [.ringQ, .logQ, .mate] }

/-- What TAKEOVER_EFFECT may change. -/
def takeoverEffectTouches : Footprint :=
  { anyField := true,
    parts := [.ringQ, .logQ, .mem, .tap, .links, .chg, .queued, .mate, .staged, .lanes, .sched, .actions, .sides, .groups, .plumb, .pegs, .tallyQ,
      .sist] }

/-- What SWITCH, REJOIN, RECOPY may change. -/
def switchTouches : Footprint :=
  { fields := writeFields ++ [R.MAT_STAT_STATE, R.MAT_STAT_ARB_OUT, R.MAT_STAT_KEPT, R.MAT_COPY_EPOCH, R.MAT_COPY_SLICE, R.MAT_COPY_PHASE, R.MAT_JFILL_OVERFLOW,
      R.MAT_TAKE_CAUSE, R.MAT_TAKE_FROM_COPY, R.MAT_TAKE_DECIDER, R.MAT_TAKE_FRAME_VALUE],
    parts := writeParts ++ [.mate] }

/-- What MATE_WTR_EXPIRY may change. -/
def mateWtrExpiryTouches : Footprint :=
  { fields := [R.MAT_TAKE_CAUSE, R.MAT_TAKE_FROM_COPY, R.MAT_TAKE_DECIDER, R.MAT_TAKE_FRAME_VALUE],
    parts := [.mate] }

/-- What RAISE_START, RESET_ASSERT, SUPPLY_FAULT, RAISE_WATCHDOG, JTAG_EXTEST_LEAVE may change. -/
def raiseStartTouches : Footprint :=
  { parts := Part.afresh ++ [.free], anyField := true }

/-- What FUSE_READ_DONE may change. -/
def fuseReadDoneTouches : Footprint :=
  { fields := [R.MAT_STAT_SIDE, R.IMG_RAISE_PHASE, R.IMG_PHASE_TIME_TIME],
    parts := [.free, .fuses, .raise, .tally] }

/-- What MEMORY_CLEAR_DONE may change. -/
def memoryClearDoneTouches : Footprint :=
  { fields := [R.SCB_STAT_SPARES, R.IMG_RAISE_PHASE, R.IMG_RAISE_HALTED, R.IMG_RAISE_RECOVERY, R.IMG_RAISE_FAIL, R.IMG_RAISE_DETAIL_SECTION,
      R.IMG_RAISE_DETAIL_CODE, R.IMG_RAISE_DETAIL_OFFSET, R.IMG_FLASH_MODE, R.IMG_FLASH_CLOCK, R.IMG_FLASH_DENSITY, R.IMG_FLASH_SFDP_OK,
      R.IMG_SVN_MIN_MIN, R.IMG_PHASE_TIME_TIME, R.DEV_ID_REV, R.DEV_SERIAL_SERIAL, R.MEM_STAT_SPARE_ROWS, R.TLY_SPARES_LANES, R.TLY_SPARES_LAM,
      R.TLY_SPARES_SISTERS, R.TLY_SPARES_FEC, R.TLY_SPARES_JOINER, R.TLY_SPARES_SCRIBE, R.TLY_SPARES_DPLL, R.TLY_LC_STAT_STATE,
      R.TLY_LC_STAT_REVOKED, R.TLY_LC_NONCE_NONCE, R.SCB_STAT_ENGINES, R.MTX_JMAP_CORES, R.SND_STAT_NOSISTER],
    parts := [.free, .mem, .pcie, .ddr, .sist] }

/-- What DDR_TRAINING_DONE may change. -/
def ddrTrainingDoneTouches : Footprint :=
  { fields := [R.IMG_RAISE_HALTED, R.IMG_RAISE_RECOVERY, R.IMG_RAISE_FAIL, R.IMG_RAISE_DETAIL_SECTION, R.IMG_RAISE_DETAIL_CODE,
      R.IMG_RAISE_DETAIL_OFFSET, R.IMG_STAGE_BASE_BASE, R.DDR_STAT_INSTALLED, R.DDR_STAT_USABLE, R.DDR_STAT_ONLINE, R.DDR_STAT_CONFIG,
      R.DDR_EVT, R.DDR_CHn_STAT_STATE, R.DDR_CHn_STAT_TEMP, R.DDR_CHn_STAT_TRAINS, R.DDR_RGNk_BASE_BASE, R.DDR_RGNk_SIZE_MB],
    parts := [.ringQ, .logQ, .tallyQ, .mem, .ddr] }

/-- What SLOT_VERIFY_DONE may change. -/
def slotVerifyDoneTouches : Footprint :=
  { anyField := true,
    parts := [.staged, .free, .ringQ, .logQ, .mem, .lanes, .chg, .plumb, .raise, .pegs, .tally, .tallyQ, .longMem, .mate, .own, .ddr, .sist,
      .guarding] }

/-- What JOINERS_READY may change. -/
def joinersReadyTouches : Footprint :=
  { anyField := true,
    parts := [.staged, .free, .ringQ, .logQ, .lanes, .chg, .plumb, .mate, .pegs, .tallyQ, .sist] }

/-- What P4_END may change. -/
def p4EndTouches : Footprint :=
  { anyField := true,
    parts := [.staged, .free, .ringQ, .logQ, .lanes, .chg, .plumb, .raise, .pegs, .tallyQ, .sist] }

/-- What P5_END may change. -/
def p5EndTouches : Footprint :=
  { anyField := true,
    parts := [.staged, .free, .ringQ, .logQ, .mem, .lanes, .chg, .queued, .plumb, .raise, .ddr, .pegs, .tallyQ, .sist] }

/-- What RAISE_READY may change. -/
def raiseReadyTouches : Footprint :=
  { fields := [R.CUT_SCNn_TRIG_PRIMED, R.MAT_STAT_STATE, R.MAT_STAT_ARB_OUT, R.MAT_STAT_KEPT, R.MAT_EVT, R.MAT_COPY_PHASE, R.IMG_RAISE_PHASE,
      R.IMG_EVT, R.IMG_PHASE_TIME_TIME],
    parts := [.free, .ringQ, .logQ, .mate, .raise, .pcie] }

/-- What JTAG_EXTEST_LOAD may change. -/
def jtagExtestLoadTouches : Footprint :=
  { parts := Part.afresh ++ [.free], anyField := true }

/-- What CONFIRM, VERIFY, PROGRAM, SVN_BURN, RECOVER_GO, IMG_ABORT may change. -/
def confirmTouches : Footprint :=
  { fields := writeFields ++ [R.IMG_EVT, R.IMG_RUN_TRIAL, R.IMG_OP_STAT_STATE, R.IMG_OP_STAT_OP, R.IMG_OP_STAT_CODE, R.IMG_OP_STAT_PROGRESS, R.IMG_SVN_MIN_MIN,
      R.IMG_SLOTs_STAT_VALID, R.IMG_LIVE_STAT_STATE, R.IMG_LIVE_STAT_CORE, R.IMG_LIVE_STAT_CODE],
    parts := writeParts ++ [.fuses, .raise, .tally, .tallyQ] }

/-- What IMG_OP_DONE may change. -/
def imgOpDoneTouches : Footprint :=
  { anyField := true,
    parts := [.staged, .free, .ringQ, .logQ, .mem, .lanes, .chg, .plumb, .raise, .pegs, .tallyQ, .tally, .longMem, .mate, .own, .ddr, .sist,
      .guarding] }

/-- What LIVE_CORE_DONE may change. -/
def liveCoreDoneTouches : Footprint :=
  { fields := [R.IMG_EVT, R.IMG_RUN_FW_SLOT, R.IMG_LIVE_STAT_STATE, R.IMG_LIVE_STAT_CORE, R.IMG_FW_VER_VERSION, R.IMG_LIVE_STAT_CODE],
    parts := [.ringQ, .logQ, .mem, .raise] }

/-- What LIVE_CORE_TIMEOUT may change. -/
def liveCoreTimeoutTouches : Footprint :=
  { fields := [R.IMG_EVT, R.IMG_LIVE_STAT_STATE, R.IMG_LIVE_STAT_CODE],
    parts := [.ringQ, .logQ] }

/-- What IMG_BOOT_WRITE may change. -/
def imgBootWriteTouches : Footprint :=
  { fields := writeFields ++ [R.IMG_EVT, R.IMG_BOOT_PREF, R.IMG_BOOT_TRIAL],
    parts := writeParts ++ [.tally] }

/-- What PCIE_CONFIG_REQUEST may change. -/
def pcieConfigRequestTouches : Footprint :=
  { parts := [.free, .resp, .pcie] }

/-- What ID, STATUS may change. -/
def idTouches : Footprint :=
  { parts := [.resp] }

/-- What UREAD may change. -/
def ureadTouches : Footprint :=
  { fields := [R.MTX_STAT_PARK, R.MTX_EVT, R.MTX_ERR_ADDR, R.MTX_ERR_HI_MASTER, R.MTX_ERR_HI_TARGET, R.MTX_ERR_HI_KIND, R.IMG_OP_STAT_PROGRESS],
    parts := [.latHigh, .frameCycle, .resp, .ringQ, .logQ, .mdlyHeld, .mrecHeld, .chainHeld, .pegs, .cycle, .free, .plumb] }

/-- What QUAD, SINGLE may change. -/
def quadTouches : Footprint :=
  { parts := [.spiQuad] }

/-- What TUNNEL_GO may change. -/
def tunnelGoTouches : Footprint :=
  { fields := writeFields ++ [R.MGT_TUN_STAT_STATE, R.MGT_TUN_STAT_RESULT],
    parts := writeParts ++ [.tunnel] }

/-- What TUNNEL_REQUEST may change. -/
def tunnelRequestTouches : Footprint :=
  { anyField := true,
    parts := writeParts ++ [.latHigh, .frameCycle, .free, .mem, .lanes, .tap, .links, .actions, .mdlyHeld, .chg, .queued, .scnTrig, .mrecHeld,
      .plumb, .mate, .fuses, .raise, .own, .tunnel, .ddr, .chainHeld, .snapAt, .clear, .pegs, .tally, .tallyQ, .sist, .tallyRaw, .longMem, .cycle] }

/-- What TUNNEL_DONE may change. -/
def tunnelDoneTouches : Footprint :=
  { fields := [R.MGT_EVT, R.MGT_TUN_DATA_DATA, R.MGT_TUN_STAT_STATE, R.MGT_TUN_STAT_RESULT],
    parts := [.ringQ, .logQ, .tunnel] }

/-- What CLAIM, RENEW, RELEASE, HANDOVER may change. -/
def claimTouches : Footprint :=
  { fields := writeFields ++ [R.MGT_OWNER_PENDING, R.MGT_OWNER_SUCCESSOR, R.MGT_OWNER_LEFT],
    parts := writeParts ++ [.own] }

/-- What LEASE_EXPIRY may change. -/
def leaseExpiryTouches : Footprint :=
  { fields := [R.MGT_OWNER_PORT, R.MGT_OWNER_PENDING, R.MGT_OWNER_SUCCESSOR, R.MGT_OWNER_LEFT, R.MGT_EVT],
    parts := [.ringQ, .logQ, .own] }

/-- What HANDOVER_TIMEOUT may change. -/
def handoverTimeoutTouches : Footprint :=
  { fields := [R.MGT_OWNER_PENDING, R.MGT_OWNER_SUCCESSOR, R.MGT_EVT],
    parts := [.ringQ, .logQ] }

/-- What OWNER_PORT_LOSS may change. -/
def ownerPortLossTouches : Footprint :=
  { parts := [.pcie, .own] }

/-- What COMMIT_GO, DISCARD may change. -/
def commitGoTouches : Footprint :=
  { fields := writeFields ++ [R.DEV_COMMIT_STAT_STATE],
    parts := writeParts }

/-- What COMMIT_APPLY may change. -/
def commitApplyTouches : Footprint :=
  { anyField := true,
    parts := [.staged, .ringQ, .logQ, .mem, .lanes, .chg, .plumb, .mate, .sampled, .pegs, .tallyQ, .snapFixed, .snapAt, .snapped, .archive, .sist] }

/-- What EVENT_RECORD may change. -/
def eventRecordTouches : Footprint :=
  { fields := [R.MGT_EVT, R.MGT_PORTp_RING_HEAD_HEAD, R.MGT_PORTp_RING_DROP_COUNT],
    parts := [.ringQ, .logQ, .mem] }

/-- What EVENT_LOG_RECORD may change. -/
def eventLogRecordTouches : Footprint :=
  { fields := [R.MGT_LOG_IDX_NEXT, R.MGT_LOG_IDX_WRAPPED],
    parts := [.logQ, .mem] }

/-- What MSIX_EOI may change. -/
def msixEoiTouches : Footprint :=
  { fields := writeFields,
    parts := writeParts }

/-- What MSIX_SEND, PERST_N_DEASSERT may change. -/
def msixSendTouches : Footprint :=
  { parts := [.pcie] }

/-- What DEFAULT_ACCESS may change. -/
def defaultAccessTouches : Footprint :=
  { fields := readFields ++ [R.MEM_EVT, R.MEM_CNT_COUNT, R.MEM_ECC_LAST_ADDR, R.MEM_ECC_LAST_HI_MASTER, R.DDR_CNT_COUNT, R.IMG_OP_STAT_PROGRESS],
    parts := readParts ++ [.cycle, .pcie, .plumb] }

/-- What MATRIX_TIMEOUT may change. -/
def matrixTimeoutTouches : Footprint :=
  { fields := [R.MTX_EVT, R.MTX_ERR_ADDR, R.MTX_ERR_HI_MASTER, R.MTX_ERR_HI_TARGET, R.MTX_ERR_HI_KIND],
    parts := [.resp, .ringQ, .logQ, .pcie] }

/-- What MASTER_RESET may change. -/
def masterResetTouches : Footprint :=
  { fields := [R.MTX_EVT, R.MTX_ABORT_ADDR, R.MTX_ABORT_HI_MASTER, R.MTX_ABORT_HI_TARGET, R.MTX_ABORT_HI_KIND, R.MTX_ABORT_HI_BEATS, R.MEM_EVT],
    parts := [.ringQ, .logQ, .mem] }

/-- What SOUND_REGION may change. -/
def soundRegionTouches : Footprint :=
  { fields := [R.MEM_STAT_SPARE_ROWS, R.MEM_STAT_FAILED, R.SND_STAT_REGION, R.SND_STAT_ACTIVE, R.SND_EVT, R.SND_PASS_PASSES, R.SND_PASS_MINUTES,
      R.SND_FAIL_LAST_INDEX, R.SND_FAIL_LAST_KIND, R.SND_FAIL_LAST_REPAIRED, R.SND_FAIL_LAST_VALID],
    parts := [.ringQ, .logQ, .snd, .tallyQ] }

/-- What SOUND_ABORT may change. -/
def soundAbortTouches : Footprint :=
  { fields := [R.SND_STAT_REGION, R.SND_STAT_ACTIVE, R.SND_EVT],
    parts := [.ringQ, .logQ, .snd] }

/-- What SOUND_BANK_SWAP may change. -/
def soundBankSwapTouches : Footprint :=
  { fields := [R.SND_STAT_REGION, R.SND_STAT_ACTIVE],
    parts := [.snd] }

/-- What SOUND_BANK_TEST_DONE may change. -/
def soundBankTestDoneTouches : Footprint :=
  { fields := [R.SND_STAT_REGION, R.SND_STAT_NOSISTER, R.SND_STAT_ACTIVE, R.SND_EVT, R.SND_PASS_PASSES, R.SND_PASS_MINUTES, R.SND_FAIL_LAST_INDEX,
      R.SND_FAIL_LAST_KIND, R.SND_FAIL_LAST_REPAIRED, R.SND_FAIL_LAST_VALID, R.TLY_STAT_SIST_BUSY, R.TLY_EVT, R.TLY_SPARES_SISTERS],
    parts := [.ringQ, .logQ, .snd, .tallyQ] }

/-- What DDR_RETRAIN_DONE may change. -/
def ddrRetrainDoneTouches : Footprint :=
  { fields := [R.DDR_STAT_ONLINE, R.DDR_EVT, R.DDR_CHn_STAT_STATE, R.DDR_CHn_STAT_TEMP, R.DDR_CHn_STAT_TRAINS],
    parts := [.ringQ, .logQ, .ddr, .tallyQ] }

/-- What DDR_PATROL may change. -/
def ddrPatrolTouches : Footprint :=
  { fields := [R.DDR_CNT_COUNT, R.DDR_CHn_CORR_COUNT],
    parts := [.ddr] }

/-- What DDR_UNIT_REBUILD may change. -/
def ddrUnitRebuildTouches : Footprint :=
  { fields := readFields ++ [R.DDR_EVT, R.DDR_CNT_COUNT, R.DDR_CHn_CORR_COUNT, R.IMG_OP_STAT_PROGRESS],
    parts := readParts ++ [.cycle, .longMem, .ddr, .plumb] }

/-- What SNAP_GO may change. -/
def snapGoTouches : Footprint :=
  { fields := writeFields ++ [R.CNT_STAT_SNAP_PENDING],
    parts := writeParts ++ [.snapAt] }

/-- What SNAPSHOT may change. -/
def snapshotTouches : Footprint :=
  { fields := [R.DEV_FRAME_SN_FRAME, R.CNT_STAT_SNAP_PENDING, R.CNT_STAT_SNAPS, R.CNT_EVT, R.PEG_HISTh_STAT_SINCE, R.CNT_Bc_COUNT,
      R.CNT_Bc_SN_COUNT, R.PEG_HBIN_COUNT, R.PEG_HBIN_SN_COUNT],
    parts := [.ringQ, .logQ, .snapFixed, .snapAt, .snapped, .archive, .plumb] }

/-- What CLEAR_GO may change. -/
def clearGoTouches : Footprint :=
  { fields := writeFields ++ [R.CNT_STAT_CLR_PENDING, R.CNT_EVT],
    parts := writeParts ++ [.clear] }

/-- What COUNTER_CLEAR may change. -/
def counterClearTouches : Footprint :=
  { fields := [R.LN_CNT0, R.LN_CNT1, R.LN_CNT2, R.LN_CNT3, R.LN_CNT4, R.LN_CNT5, R.GRN_CNT_COUNT, R.SCF_CNT_COUNT, R.SCF_GBAD_W_COUNT,
      R.SCF_GBAD_P_COUNT, R.SCF_GSEL_P_COUNT, R.SCF_GNEITHER_COUNT, R.MEM_CNT_COUNT, R.DDR_CNT_COUNT, R.CNT_STAT_CLR_PENDING, R.CNT_EVT,
      R.PEG_HISTh_STAT_SINCE, R.CNT_Bc_COUNT, R.PEG_HBIN_COUNT, R.DEV_FRAME_SN_FRAME, R.CNT_STAT_SNAP_PENDING, R.CNT_STAT_SNAPS, R.CNT_Bc_SN_COUNT,
      R.PEG_HBIN_SN_COUNT],
    parts := [.ringQ, .logQ, .clear, .snapFixed, .snapAt, .snapped, .archive, .plumb] }

/-- What BANK_COUNTER_WRITE may change. -/
def bankCounterWriteTouches : Footprint :=
  { fields := writeFields ++ [R.CNT_EVT, R.CNT_Bc_COUNT],
    parts := writeParts ++ [.cycle, .free, .plumb] }

/-- What ARCHIVE_WRITE may change. -/
def archiveWriteTouches : Footprint :=
  { fields := [R.CNT_ARCH_IDX_NEXT, R.CNT_ARCH_IDX_WRAPPED],
    parts := [.mem, .ddr, .archive] }

/-- What PEG_SELECT may change. -/
def pegSelectTouches : Footprint :=
  { fields := [R.PEG_EVT],
    parts := [.ringQ, .logQ, .pegs] }

/-- What PEG_COMPLETE may change. -/
def pegCompleteTouches : Footprint :=
  { fields := [R.CNT_EVT, R.PEG_EVT, R.PEG_DROP_COUNT, R.CNT_Bc_COUNT, R.PEG_HBIN_COUNT],
    parts := [.free, .ringQ, .logQ, .pegs] }

/-- What POP may change. -/
def popTouches : Footprint :=
  { fields := writeFields,
    parts := writeParts ++ [.pegs] }

/-- What PEG_DMA_MOVE may change. -/
def pegDmaMoveTouches : Footprint :=
  { fields := [R.MTX_EVT, R.MTX_ERR_ADDR, R.MTX_ERR_HI_MASTER, R.MTX_ERR_HI_TARGET, R.MTX_ERR_HI_KIND, R.PEG_DMA_IDX_HEAD],
    parts := [.resp, .ringQ, .logQ, .mem, .pegs] }

/-- What LANE_SUBST_TRIGGER may change. -/
def laneSubstTriggerTouches : Footprint :=
  { fields := [R.TLY_STAT_SIST_BUSY, R.TLY_EVT],
    parts := [.free, .ringQ, .logQ, .tallyQ, .sist] }

/-- What LAM_SUBST_SELECT may change. -/
def lamSubstSelectTouches : Footprint :=
  { fields := [R.FAB_EVT, R.FAB_LAM_CTRL_SUB, R.FAB_LAM_STAT_SUB_ACT, R.TLY_STAT_SIST_BUSY, R.TLY_EVT, R.TLY_SPARES_LAM],
    parts := [.staged, .ringQ, .logQ, .tallyQ, .sist] }

/-- What FEC_SUBST_SWITCH may change. -/
def fecSubstSwitchTouches : Footprint :=
  { fields := [R.TLY_STAT_SIST_BUSY, R.TLY_EVT, R.TLY_SPARES_FEC],
    parts := [.free, .ringQ, .logQ, .tallyQ, .sist] }

/-- What JOINER_SUBST_TRIGGER may change. -/
def joinerSubstTriggerTouches : Footprint :=
  { fields := [R.MAT_STAT_STATE, R.MAT_STAT_ARB_OUT, R.MAT_STAT_KEPT, R.MAT_STAT_TKV, R.MAT_STAT_NEW_ROLE, R.MAT_EVT, R.TLY_STAT_SIST_BUSY,
      R.TLY_EVT, R.TLY_SPARES_JOINER],
    parts := [.free, .ringQ, .logQ, .mate, .tallyQ, .sist] }

/-- What JOINER_SUBST_DONE may change. -/
def joinerSubstDoneTouches : Footprint :=
  { fields := [R.MAT_STAT_STATE, R.MAT_STAT_ARB_OUT, R.MAT_STAT_KEPT, R.MAT_STAT_TKV, R.MAT_STAT_NEW_ROLE, R.MAT_EVT, R.IMG_LIVE_STAT_STATE,
      R.IMG_LIVE_STAT_CORE, R.MTX_EVT, R.MTX_JMAP_CORES, R.TLY_STAT_SIST_BUSY, R.TLY_EVT, R.TLY_SPARES_JOINER],
    parts := [.free, .ringQ, .logQ, .mem, .mate, .raise, .tallyQ, .sist] }

/-- What SCRIBE_ENGINE_RETIRE may change. -/
def scribeEngineRetireTouches : Footprint :=
  { fields := [R.SCB_STAT_ENGINES, R.SCB_STAT_SPARES, R.SCB_EVT, R.TLY_STAT_SIST_BUSY, R.TLY_EVT, R.TLY_SPARES_SCRIBE, R.SCB_REPL_STAT_STATE,
      R.CUT_Lj_STAT_STATE, R.CUT_SCN_STAT_CUR, R.CUT_SCN_STAT_STATE, R.MAT_EVT, R.MAT_JSENT_VALUE, R.MAT_JFILL_UNITS, R.MAT_JFILL_OVERFLOW],
    parts := [.ringQ, .logQ, .tallyQ, .mem, .chg, .mate] }

/-- What AGEING_SAMPLE may change. -/
def ageingSampleTouches : Footprint :=
  { fields := [R.TLY_EVT],
    parts := [.ringQ, .logQ, .lanes, .tally, .sist] }

/-- What TALLY_RECORD may change. -/
def tallyRecordTouches : Footprint :=
  { fields := [R.TLY_EVT],
    parts := [.ringQ, .logQ, .tally, .tallyQ, .tallySecond, .tallyLost] }

/-- What LC_GO may change. -/
def lcGoTouches : Footprint :=
  { fields := writeFields ++ [R.TLY_LC_STAT_PENDING],
    parts := writeParts ++ [.tally] }

/-- What LC_VERIFY_DONE may change. -/
def lcVerifyDoneTouches : Footprint :=
  { fields := [R.TLY_EVT, R.TLY_LC_STAT_PENDING, R.TLY_LC_NONCE_NONCE],
    parts := [.free, .ringQ, .logQ, .fuses, .tally, .guarding] }

/-- What LC_WIPE may change. -/
def lcWipeTouches : Footprint :=
  { parts := Part.afresh ++ [.free], anyField := true }

/-- What TAMPER_CONDITION may change. -/
def tamperConditionTouches : Footprint :=
  { fields := [R.LN_MCH_CTRL_ENABLE, R.PLB_HIST_IDX_NEXT, R.PLB_HIST_IDX_WRAPPED, R.MAT_STAT_STATE, R.MAT_STAT_ARB_OUT, R.MAT_STAT_KEPT,
      R.MAT_STAT_TKV, R.MAT_STAT_NEW_ROLE, R.MAT_EVT, R.MAT_JSENT_VALUE, R.MAT_JFILL_UNITS, R.MAT_JFILL_OVERFLOW, R.IMG_RAISE_HALTED,
      R.IMG_RAISE_RECOVERY, R.IMG_RAISE_FAIL, R.IMG_EVT, R.IMG_LIVE_STAT_STATE, R.IMG_LIVE_STAT_CODE, R.MGT_OWNER_PORT, R.MGT_OWNER_PENDING,
      R.MGT_OWNER_SUCCESSOR, R.MGT_OWNER_LEFT, R.MGT_EVT, R.MGT_LOG_IDX_NEXT, R.MGT_LOG_IDX_WRAPPED, R.CNT_ARCH_IDX_NEXT, R.CNT_ARCH_IDX_WRAPPED,
      R.PEG_DMA_IDX_HEAD, R.PEG_DMA_IDX_TAIL, R.TLY_STAT_SIST_BUSY, R.TLY_STAT_REKEY, R.TLY_STAT_LOCKED, R.TLY_STAT_HALTED, R.TLY_EVT,
      R.TLY_TAMP_STAT_IN, R.TLY_TAMP_STAT_MON, R.TLY_TAMP_STAT_LAST, R.TLY_TAMP_STAT_COUNT, R.TLY_LC_STAT_PENDING, R.TLY_LC_NONCE_NONCE,
      R.TLY_REKEY_LONGPATH, R.TLY_REKEY_MAP, R.TLY_REKEY_SCENES, R.TLY_REKEY_WIPES, R.MAT_COPY_EPOCH, R.MAT_COPY_SLICE, R.MAT_COPY_PHASE],
    parts := [.free, .ringQ, .logQ, .mem, .longMem, .plumb, .mate, .raise, .own, .ddr, .tally, .tallyQ, .sist, .guarding, .lanes] }

/-- What MAP_REBUILD_DONE may change. -/
def mapRebuildDoneTouches : Footprint :=
  { fields := [R.TLY_REKEY_MAP] }

/-- What SCENE_RELOAD_DONE may change. -/
def sceneReloadDoneTouches : Footprint :=
  { fields := [R.CUT_SCNn_BASE_BASE, R.CUT_SCNn_LEN_LEN, R.CUT_SCNn_TRIG_LANE, R.CUT_SCNn_TRIG_DEFECTS, R.CUT_SCNn_TRIG_EN, R.TLY_REKEY_SCENES],
    parts := [.mem, .ddr] }

/-- What REKEY_DONE may change. -/
def rekeyDoneTouches : Footprint :=
  { fields := [R.TLY_STAT_REKEY, R.TLY_EVT, R.TLY_REKEY_LONGPATH],
    parts := [.ringQ, .logQ] }

/-- What COUNTER_WRAP may change. -/
def counterWrapTouches : Footprint :=
  { fields := [R.CNT_EVT, R.CNT_Bc_COUNT],
    parts := [.ringQ, .logQ, .cycle, .plumb] }

/-- What a command may change. -/
def footprint : Instr → Footprint
  | .tick => tickTouches
  | .registerWrite _ _ _ => registerWriteTouches
  | .pairLowRead _ _ => pairLowReadTouches
  | .pairLowWrite _ _ _ => registerWriteTouches
  | .pairHighWrite _ _ _ => registerWriteTouches
  | .devFrameRead _ _ => devFrameReadTouches
  | .latqGo _ _ => latqGoTouches
  | .latqDone => latqDoneTouches
  | .rxRow _ _ _ _ => rxRowTouches
  | .rxFrame _ _ _ _ => rxFrameTouches
  | .ssmAccept _ => ssmAcceptTouches
  | .pageWindowClose _ => pageWindowCloseTouches
  | .losDeclare _ _ => losDeclareTouches
  | .losClear _ _ => losClearTouches
  | .lolDeclare _ => losDeclareTouches
  | .lolClear _ => losClearTouches
  | .lofDeclare _ => losDeclareTouches
  | .lofClear _ => losClearTouches
  | .laisDeclare _ => losDeclareTouches
  | .laisClear _ => losClearTouches
  | .lrdiDeclare _ => losDeclareTouches
  | .lrdiClear _ => losClearTouches
  | .lsdDeclare _ => losDeclareTouches
  | .lsdClear _ => losClearTouches
  | .lsfDeclare _ => losDeclareTouches
  | .lsfClear _ => losClearTouches
  | .lmmDeclare _ => losDeclareTouches
  | .lmmClear _ => losClearTouches
  | .lphClear _ => losClearTouches
  | .centreSweep _ => centreSweepTouches
  | .kerfCheck _ => kerfCheckTouches
  | .longPathTap => longPathTapTouches
  | .longPathReturn _ _ => longPathReturnTouches
  | .txFrame _ => txFrameTouches
  | .grnFaultClear _ _ => grnFaultClearTouches
  | .signalExit _ _ => signalExitTouches
  | .lockExit _ => signalExitTouches
  | .tuneExit _ => tuneExitTouches
  | .frameExit _ => signalExitTouches
  | .serviceEnter _ => serviceEnterTouches
  | .fitTimeout _ => fitTimeoutTouches
  | .fitLosFail _ => fitTimeoutTouches
  | .backoffExpiry _ => backoffExpiryTouches
  | .waitWake _ => backoffExpiryTouches
  | .partnerGoneFail _ => fitTimeoutTouches
  | .servicePersistLeave _ => backoffExpiryTouches
  | .trainingRow _ _ => trainingRowTouches
  | .discoveryRow _ _ => discoveryRowTouches
  | .fitEnableWrite _ _ _ => fitEnableWriteTouches
  | .lnRestart _ _ _ => fitEnableWriteTouches
  | .backoffReset _ _ _ => fitEnableWriteTouches
  | .unfreeze _ _ _ => fitEnableWriteTouches
  | .ident _ _ _ => identTouches
  | .serviceGo _ _ _ => serviceGoTouches
  | .sparePrep _ _ _ => sparePrepTouches
  | .spareSelect _ _ _ _ => serviceGoTouches
  | .spareRelease _ _ _ => spareReleaseTouches
  | .restart _ => backoffExpiryTouches
  | .leave _ _ => backoffExpiryTouches
  | .ack _ _ => ackTouches
  | .nak _ _ => serviceGoTouches
  | .msgRetry _ => fitTimeoutTouches
  | .leaveTimeout _ => ackTouches
  | .loopAutoRestore _ => loopAutoRestoreTouches
  | .loopRestore _ _ _ => loopRestoreTouches
  | .goodSecond _ => goodSecondTouches
  | .adaptRevert _ => adaptRevertTouches
  | .adaptHoldEnd _ => adaptHoldEndTouches
  | .sparePrepWrite _ _ _ => sparePrepWriteTouches
  | .spareSelectWrite _ _ _ => sparePrepWriteTouches
  | .spareReleaseWrite _ _ _ => sparePrepWriteTouches
  | .spareShadowReady _ => spareShadowReadyTouches
  | .spareSwitch _ => spareSwitchTouches
  | .mchPacketRx _ _ => mchPacketRxTouches
  | .mchPacketTx _ => mchPacketTxTouches
  | .memberJoin _ => memberJoinTouches
  | .bentStepApply _ => bentStepApplyTouches
  | .bentGrowthEnd _ => bentGrowthEndTouches
  | .bentRetime _ _ _ => bentRetimeTouches
  | .bentRetimeApply _ => bentStepApplyTouches
  | .memberRead _ _ => pairLowReadTouches
  | .diagWindowRead _ _ => pairLowReadTouches
  | .logicalMapRead _ _ _ => pairLowReadTouches
  | .stagingWrite _ _ _ => registerWriteTouches
  | .compile _ _ => compileTouches
  | .apply _ _ => compileTouches
  | .go _ _ => compileTouches
  | .abort _ _ => compileTouches
  | .compileStart => compileStartTouches
  | .compileDone => compileDoneTouches
  | .recompile => recompileTouches
  | .applyStart => applyStartTouches
  | .applyTick => applyTickTouches
  | .changeDone => changeDoneTouches
  | .chunkApply => applyTickTouches
  | .tapClear => tapClearTouches
  | .sceneGo _ _ => sceneGoTouches
  | .sceneDefectTrigger _ => sceneDefectTriggerTouches
  | .sceneQueue => sceneQueueTouches
  | .sceneStart => sceneStartTouches
  | .replaceGo _ _ => replaceGoTouches
  | .replaceStep => applyTickTouches
  | .mrecRead _ => pairLowReadTouches
  | .scarfWindowEval _ => scarfWindowEvalTouches
  | .scarfWtrExpiry _ => scarfWindowEvalTouches
  | .wtrClear _ _ _ => wtrClearTouches
  | .grainScanRead _ => pairLowReadTouches
  | .refFailure _ _ => refFailureTouches
  | .refHoldoffExpiry _ => refHoldoffExpiryTouches
  | .refConditionClear _ _ _ => refConditionClearTouches
  | .phaseJump _ _ => phaseJumpTouches
  | .refWtrExpiry _ => refWtrExpiryTouches
  | .force _ _ => forceTouches
  | .manual _ _ => forceTouches
  | .clear _ _ => forceTouches
  | .realign _ _ => forceTouches
  | .learnReset _ _ => forceTouches
  | .bridgeHoldEnd _ _ => bridgeHoldEndTouches
  | .captureComplete => captureCompleteTouches
  | .holdoverExpire => holdoverExpireTouches
  | .epochEnd _ => epochEndTouches
  | .dpllSwap _ => dpllSwapTouches
  | .shadowRestore => shadowRestoreTouches
  | .dpllMismatch => dpllMismatchTouches
  | .heartbeatRx _ _ => heartbeatRxTouches
  | .heartbeatLoss => heartbeatLossTouches
  | .isolate => isolateTouches
  | .arbChange _ _ => arbChangeTouches
  | .startupWaitExpiry => startupWaitExpiryTouches
  | .sideConflictTimeout => sideConflictTimeoutTouches
  | .change _ => changeTouches
  | .rearm _ => changeTouches
  | .cancel _ => changeTouches
  | .commit _ => changeTouches
  | .bent _ => changeTouches
  | .command _ => changeTouches
  | .info _ => changeTouches
  | .journalGap => journalGapTouches
  | .copyStart _ => copyStartTouches
  | .copySlice _ _ => copySliceTouches
  | .epochInstall => epochInstallTouches
  | .standbyReady => standbyReadyTouches
  | .standbyUnready => standbyReadyTouches
  | .deviceFail _ => deviceFailTouches
  | .takeoverDecide => takeoverDecideTouches
  | .takeoverEffect => takeoverEffectTouches
  | .takeoverFail => deviceFailTouches
  | .switch _ _ => switchTouches
  | .mateWtrExpiry => mateWtrExpiryTouches
  | .rejoin _ _ => switchTouches
  | .recopy _ _ => switchTouches
  | .raiseStart => raiseStartTouches
  | .resetAssert => resetAssertTouches
  | .supplyFault => raiseStartTouches
  | .fuseReadDone _ _ _ => fuseReadDoneTouches
  | .memoryClearDone _ => memoryClearDoneTouches
  | .ddrTrainingDone _ _ _ => ddrTrainingDoneTouches
  | .slotVerifyDone _ => slotVerifyDoneTouches
  | .joinersReady _ => joinersReadyTouches
  | .p4End => p4EndTouches
  | .p5End => p5EndTouches
  | .raiseReady _ => raiseReadyTouches
  | .raiseWatchdog => raiseStartTouches
  | .jtagExtestLoad _ => jtagExtestLoadTouches
  | .jtagExtestLeave => raiseStartTouches
  | .confirm _ _ => confirmTouches
  | .verify _ _ => confirmTouches
  | .program _ _ => confirmTouches
  | .imgOpDone _ => imgOpDoneTouches
  | .liveGo _ _ _ => liveGoTouches
  | .liveCoreDone => liveCoreDoneTouches
  | .liveCoreTimeout _ => liveCoreTimeoutTouches
  | .svnBurn _ _ => confirmTouches
  | .recoverGo _ _ => confirmTouches
  | .imgAbort _ _ => confirmTouches
  | .imgBootWrite _ _ => imgBootWriteTouches
  | .pcieConfigRequest _ _ => pcieConfigRequestTouches
  | .id => idTouches
  | .status => idTouches
  | .read _ _ => pairLowReadTouches
  | .write _ _ _ => registerWriteTouches
  | .uread _ _ => ureadTouches
  | .quad => quadTouches
  | .single => quadTouches
  | .tunnelGo _ _ => tunnelGoTouches
  | .tunnelRequest _ _ _ _ => tunnelRequestTouches
  | .tunnelDone _ => tunnelDoneTouches
  | .claim _ _ => claimTouches
  | .renew _ _ => claimTouches
  | .release _ _ => claimTouches
  | .handover _ _ => claimTouches
  | .leaseExpiry => leaseExpiryTouches
  | .handoverTimeout => handoverTimeoutTouches
  | .ownerPortLoss _ => ownerPortLossTouches
  | .commitGo _ _ => commitGoTouches
  | .discard _ _ => commitGoTouches
  | .commitApply => commitApplyTouches
  | .eventRecord => eventRecordTouches
  | .eventLogRecord => eventLogRecordTouches
  | .msixEoi _ _ _ => msixEoiTouches
  | .msixSend _ _ => msixSendTouches
  | .defaultAccess _ _ _ _ => defaultAccessTouches
  | .matrixTimeout _ _ _ _ => matrixTimeoutTouches
  | .masterReset _ _ => masterResetTouches
  | .lockAcquire _ _ => pairLowReadTouches
  | .lockRelease _ _ _ => lockReleaseTouches
  | .soundRegion _ => soundRegionTouches
  | .soundAbort => soundAbortTouches
  | .soundBankSwap => soundBankSwapTouches
  | .soundBankTestDone _ => soundBankTestDoneTouches
  | .ddrRetrain _ _ => ddrRetrainTouches
  | .ddrRetrainDone _ _ => ddrRetrainDoneTouches
  | .ddrPatrol _ _ => ddrPatrolTouches
  | .ddrUnitRebuild _ _ _ => ddrUnitRebuildTouches
  | .snapGo _ _ => snapGoTouches
  | .snapshot => snapshotTouches
  | .clearGo _ _ => clearGoTouches
  | .counterClear => counterClearTouches
  | .bankCounterRead _ _ => pairLowReadTouches
  | .bankCounterWrite _ _ _ _ _ => bankCounterWriteTouches
  | .archiveWrite => archiveWriteTouches
  | .pegSelect => pegSelectTouches
  | .pegComplete _ _ => pegCompleteTouches
  | .pegRecRead _ => pairLowReadTouches
  | .pop _ _ => popTouches
  | .pegDmaMove => pegDmaMoveTouches
  | .laneSubstTrigger _ _ => laneSubstTriggerTouches
  | .lamSubstSelect => lamSubstSelectTouches
  | .fecSubstSwitch _ _ => fecSubstSwitchTouches
  | .joinerSubstTrigger _ => joinerSubstTriggerTouches
  | .joinerSubstDone _ => joinerSubstDoneTouches
  | .dpllTestTrigger => shadowRestoreTouches
  | .scribeEngineRetire _ => scribeEngineRetireTouches
  | .ageingSample _ => ageingSampleTouches
  | .tallyRecord => tallyRecordTouches
  | .lcGo _ _ => lcGoTouches
  | .lcVerifyDone => lcVerifyDoneTouches
  | .lcWipe => lcWipeTouches
  | .tamperCondition _ => tamperConditionTouches
  | .mapRebuildDone => mapRebuildDoneTouches
  | .sceneReloadDone _ => sceneReloadDoneTouches
  | .rekeyDone => rekeyDoneTouches
  | .perstNDeassert _ => msixSendTouches
  | .counterWrap _ => counterWrapTouches
  | .dpllBuiltInTestDone _ => dpllSwapTouches

end Sys2Proof.Machine
end

