-- ==== Sys2Proof/Safety.lean ====
section
/-! DEFINITION. What claims speak of: what a command answers, the canonical form of memory, the forward-only fuses. -/

namespace Sys2Proof.Machine

/-- Command `c` completes on `s`, in a state of which `P` holds. -/
def Answers (c : Instr) (s : State) (P : State → Prop) : Prop := ∃ t, exec c s = .next t ∧ P t

/-- From `s` to `t` the bytes `l` are stored from address `a` on, and no other byte of memory changes. -/
def StoresAt (s t : State) (a : Nat) (l : List (BitVec 8)) : Prop :=
  t.readBytes a l.length = l ∧ ∀ c, (c < a ∨ a + l.length ≤ c) → t.byte c = s.byte c

/-- A privileged write by master `m` to register `id`, instance `i`, is accepted (R384). -/
def State.admits (s : State) (m id i : Nat) : Bool :=
  match regTable.find? (fun r => r.id == id) with
  | some r => s.judge m (r.addr i) false true == .ok
  | none => false

/-- A privileged write by master `m` to register `id`, instance `i`, is accepted, and the device is not a standby of a pair (R306, R384). -/
def State.accepts (s : State) (m id i : Nat) : Bool := s.admits m id i && !s.mirrors m

/-- A privileged read by master `m` of register `id`, instance `i`, is served. -/
def State.serves (s : State) (m id i : Nat) : Bool :=
  match regTable.find? (fun r => r.id == id) with
  | some r => s.judge m (r.addr i) false false == .ok
  | none => false

/-- The last access completed with OK and these words. -/
abbrev State.reads (s : State) (ws : List Nat) : Prop := s.resp.status = .ok ∧ s.resp.words = ws

/-- Registers whose write, or whose parking of the path to them, changes more than their own fields: those with an action, BNT_RETIME_FRAME,
which the active journals, and MTX_STAT. -/
def actingReg (id : Nat) : Bool :=
  [RN.DEV_LATQ_CTRL, RN.DEV_COMMIT, RN.LN_FIT_CTRL, RN.LN_TX_CFG, RN.LN_SPARE_CTRL, RN.BNT_CTRL, RN.CUT_CTRL, RN.CUT_SCN_CMD, RN.CUT_SCNn_TRIG,
    RN.SCB_REPL_CTRL, RN.SCF_GCFG, RN.PLB_CTRL, RN.MAT_CTRL, RN.IMG_CTRL, RN.IMG_BOOT, RN.MGT_OWN_TOKEN, RN.MGT_OWN_OP, RN.MGT_TUN_CTRL,
    RN.MGT_PORTp_EOI, RN.DDR_CHn_CTRL, RN.CNT_SNAP, RN.CNT_CLR_CTRL, RN.CNT_Bc_HI, RN.PEG_CTRL, RN.TLY_LC_CTRL, RN.BNT_RETIME_FRAME, RN.MTX_STAT].contains id

/-- The part `c` of register `id`, instance `i`, takes the word `w` of master `m` by its access type (R8): an RW field at once, in the
writer's own copy where each master has one, an ST field as its staged value, a 1 clears a W1C bit; other fields keep their values. -/
def Slice.Takes (c : Slice) (m id i w : Nat) (s t : State) : Prop :=
  match c.fld.ty with
  | .rw => if perMasterReg id then bits (t.mfld c.fld i m) c.src c.len = bits w c.lo c.len
      else bits (t.fld c.fld i) c.src c.len = bits w c.lo c.len
  | .st => bits (t.stg c.fld i) c.src c.len = bits w c.lo c.len ∧ t.fld c.fld i = s.fld c.fld i
  | .w1c => ∀ k, k < c.len → (t.fld c.fld i).testBit (c.src + k) = ((s.fld c.fld i).testBit (c.src + k) && !w.testBit (c.lo + k))
  | .ro | .wo | .sn => t.fld c.fld i = s.fld c.fld i

/-- Nothing in the whole state changes from `s` to `t` but the register fields `ids`, the answer and the parts `ps`. -/
abbrev OnlyRegs (ids : List Fld) (ps : List Part) (s t : State) : Prop := Framed { fields := ids, parts := .resp :: ps } s t

/-- The side `k` of an output slot is judged with outcome `o` in transmit frame `s.frame`: the fourth mismatch of the 32 frames that end with it
declares FAULT, with GRN_FAULT, and none before (R232, R233). -/
def SideJudged (k : Nat) (o : Outcome) (s t : State) : Prop :=
  o.mismatch = true → (s.sides.live.get k {}).fault = false →
    ((t.sides.live.get k {}).fault = true ↔
      3 ≤ (((s.sides.live.get k {}).window s.frame).filter (fun m => decide ((s.frame + 2 ^ 32 - m) % 2 ^ 32 ≤ 31))).length)
    ∧ ((t.sides.live.get k {}).fault = true → t.latched R.GRN_EVT_GRN_FAULT = true)

/-- `t` has defect `d` of lane `n` declared since `s` (R115, R116, R118): its flag is set, the consequent action follows the defects, and
its entry is latched unless a defect above it in the masking order was declared, when no defect event is. -/
def DefectEntered (n : Nat) (d : Defect) (s t : State) : Prop :=
  t.declared n d = true ∧ t.flag R.LN_FRM_STAT_CA n = t.caActive n
    ∧ if d.maskedBy.any (s.declared n) then t.fld R.LN_DEF_EVT n = s.fld R.LN_DEF_EVT n
      else t.latched { R.LN_DEF_EVT_DEF_ENTRY with bit := d.bitNo } n = true

/-- `t` has defect `d` of lane `n` cleared since `s` (R116, R118). -/
def DefectCleared (n : Nat) (d : Defect) (t : State) : Prop :=
  t.declared n d = false ∧ t.latched R.LN_DEF_EVT_DEF_CLEAR n = true ∧ t.flag R.LN_FRM_STAT_CA n = t.caActive n

/-- `t` is after an attempt of lane `n` failed in `s` (R58, R60): WAIT, with the backoff doubled to at most 10,240 frames, or 80 for the
first failure of a run; the state in which it failed; the failures counted; ATTEMPT_FAIL. -/
def AttemptFailed (n : Nat) (s t : State) : Prop :=
  t.fit n = fitWait ∧ t.fld R.LN_FIT_STATUS_LAST_FAIL n = s.fit n
    ∧ t.fld R.LN_FIT_BACKOFF_BACKOFF n = nextBackoff (s.lane n).freshRun (s.fld R.LN_FIT_BACKOFF_BACKOFF n)
    ∧ (t.lane n).waitLen = nextBackoff (s.lane n).freshRun (s.fld R.LN_FIT_BACKOFF_BACKOFF n) ∧ (t.lane n).since = s.frame
    ∧ t.fld R.LN_FIT_STATUS_FAILS n = satAdd 127 (s.fld R.LN_FIT_STATUS_FAILS n) 1
    ∧ t.latched R.LN_FIT_EVT_ATTEMPT_FAIL n = true

/-- `t` is after a new attempt of lane `n` started in `s` (R50, R58, R115, R117): SIGNAL with preset 1 from its next training row on, no alignment,
which declares OOF, no correction of polarity, no message outstanding, and every other defect but LOS and LOL cleared; SERVICE_LEAVE where the
lane was in SERVICE. -/
def AttemptStarted (n : Nat) (s t : State) : Prop :=
  t.fit n = fitSignal ∧ (t.lane n).since = s.frame ∧ t.nextTaps n = presetTaps 1
    ∧ t.fld R.LN_FRM_STAT_ALIGN n = alignHunt ∧ t.fld R.LN_FIT_STATUS_RX_POL_INV n = 0 ∧ (t.lane n).out = none
    ∧ (∀ d, d ≠ .los → d ≠ .lol → d ≠ .oof → t.declared n d = false) ∧ t.declared n .oof = true
    ∧ (s.inService n = true → t.latched R.LN_FIT_EVT_SERVICE_LEAVE n = true)

/-- A good fitting message with MSEQ `seq` reaches lane `n`, and is not a repeat of the last (R74). -/
abbrev State.hears (s : State) (n seq : Nat) : Prop := s.sendsTraffic n = true ∧ (s.lane n).lastRx ≠ some seq

/-- A journal message as the record of kind `kind` that a standby holds (R309). -/
def msgRecord (g : JournalMsg) (kind : Nat) : JRec :=
  { seq := g.seq.toNat, kind := kind, frame := g.frame.toNat, cseq := g.cseq.toNat
    units := g.units.map (fun u => [u.1.toNat, u.2.1.toNat, u.2.2.1.toNat, u.2.2.2.toNat]) }

/-- A standby outside a conflict takes the record with JSEQ `q`: it holds none with that number, and has not acknowledged it (R303, R310). -/
abbrev State.wantsRec (s : State) (q : Nat) : Prop :=
  s.isStandby = true ∧ s.flag R.MAT_STAT_CONFLICT = false ∧ s.mate.recv.any (·.seq == q) = false
    ∧ (s.mate.installed = true → frameLater q (s.fld R.MAT_JACK_VALUE) = true)

/-- A standby with a complete state, no copy in progress and no record held takes the next record in order, with JSEQ `q` (R309, R310). -/
abbrev State.inOrder (s : State) (q : Nat) : Prop :=
  s.isStandby = true ∧ s.flag R.MAT_STAT_CONFLICT = false ∧ s.mate.recv = [] ∧ s.mate.installed = true
    ∧ s.fld R.MAT_COPY_PHASE ≠ 1 ∧ s.fld R.MAT_COPY_PHASE ≠ 2 ∧ q = frameAdd (s.fld R.MAT_JACK_VALUE) 1

/-- `t` is after a device that entered mate state `st` from another (R300). -/
abbrev State.enteredMate (t : State) (st : Nat) : Prop := t.mateState = st ∧ t.latched R.MAT_EVT_STATE_CHANGE = true

/-- Bank counter `c` takes the carry of the counter below, and ignores its own source (R444). -/
def State.chainedBelow (s : State) (c : Nat) : Bool := c != 0 && s.flag R.CNT_Bc_CFG_CHAIN (c - 1)

/-- Bank counter `c` counts the events of a source other than ticks and core cycles (R440, R444). -/
def State.countsEvents (s : State) (c : Nat) : Bool :=
  s.fld R.CNT_Bc_CFG_SRC c != 0 && s.fld R.CNT_Bc_CFG_SRC c != 0xD && s.fld R.CNT_Bc_CFG_SRC c != 0xE && !s.chainedBelow c

/-- The memory is in its canonical form: addresses strictly rising, no byte listed that reads the same unlisted. -/
def State.MemWf (s : State) : Prop := Memory.wf s.mem s.blankAt = true

/-- Fuses `g` are `f` or further forward (R360, R476): the life-cycle state and the minimum SVN are no lower, every slot programmed or revoked
stays so, and a programmed slot keeps its hash. -/
def FusesForward (f g : Fuses) : Prop :=
  f.life ≤ g.life ∧ f.minSvn.toNat ≤ g.minSvn.toNat
    ∧ ∀ k, k < 4 → (f.programmed.getLsbD k = true → g.programmed.getLsbD k = true ∧ g.hashes.getD k 0 = f.hashes.getD k 0)
      ∧ (f.revoked.getLsbD k = true → g.revoked.getLsbD k = true)

end Sys2Proof.Machine
end

