-- ==== Sys2Proof/Certificates/Slice0/Obligations.lean ====
section
/-! DEFINITION. The statements: what the manual's rules say of the commands, of the state they leave and of the whole machine. -/

open Sys2Proof Sys2Proof.Machine

/-! ### Lanes: defects, fitting, messages, spares, rows and frames (chapters 2 and 3) -/

/-- R115 and R116: LOS, LOL, LOF, LAIS, LRDI, LSD, LSF and LMM are each declared by their entry criterion, the entry latched unless a defect
above it in the masking order is declared, and the consequent action follows (R118). Signal detect is judged row period by row period
(R509). -/
def Obligations.DefectsAreDeclared : Prop :=
  ∀ (n : LaneIx) (s : State),
    (∀ rs, 16 ≤ ((s.lane n).judgeLevels rs).absentRun → s.declared n .los = false →
        Answers (.losDeclare n rs) s (DefectEntered n .los s))
    ∧ (∀ r : RowLevel, (s.lane n).absentRun < 15 →
        Answers (.losDeclare n [r]) s (fun t => t.regs = s.regs
          ∧ (t.lane n).detect = if 85 < r.least then true else if r.most < 45 then false else (s.lane n).detect))
    ∧ (s.fit n ≠ fitDisabled → s.declared n .lol = false → Answers (.lolDeclare n) s (DefectEntered n .lol s))
    ∧ (s.declared n .oof = true → s.lasted (s.lane n).oofSince 24 = true → s.declared n .lof = false →
        Answers (.lofDeclare n) s (DefectEntered n .lof s))
    ∧ (s.inSync n = true → 2 ≤ (s.lane n).laisOn → s.declared n .lais = false → Answers (.laisDeclare n) s (DefectEntered n .lais s))
    ∧ (s.inSync n = true → 2 ≤ (s.lane n).lrdiOn → s.declared n .lrdi = false → Answers (.lrdiDeclare n) s (DefectEntered n .lrdi s))
    ∧ (s.inSync n = true → 3 ≤ (s.lane n).sdHi → s.declared n .lsd = false → Answers (.lsdDeclare n) s (DefectEntered n .lsd s))
    ∧ (s.inSync n = true → (3 ≤ (s.lane n).sfHi ∨ (s.lane n).ucHit = true) → s.declared n .lsf = false →
        Answers (.lsfDeclare n) s (DefectEntered n .lsf s))
    ∧ ((s.identMismatch n = true ∨ (s.inSync n = true ∧ s.flag R.LN_FRM_CFG_LID_EN n = true ∧ 8 ≤ (s.lane n).lidBad)) →
        s.declared n .lmm = false → Answers (.lmmDeclare n) s (DefectEntered n .lmm s))

/-- R115 and R116: each defect but OOF clears by its own exit criterion, with DEF_CLEAR, and the consequent action follows (R118). -/
def Obligations.DefectsClear : Prop :=
  ∀ (n : LaneIx) (s : State),
    (∀ rs, detectRows ≤ ((s.lane n).judgeLevels rs).presentRun → s.declared n .los = true → Answers (.losClear n rs) s (DefectCleared n .los))
    ∧ (s.declared n .lol = true → Answers (.lolClear n) s (DefectCleared n .lol))
    ∧ (s.inSync n = true → s.lasted (s.lane n).syncSince 24 = true → s.declared n .lof = true →
        Answers (.lofClear n) s (DefectCleared n .lof))
    ∧ (s.inSync n = true → 2 ≤ (s.lane n).laisOff → s.declared n .lais = true → Answers (.laisClear n) s (DefectCleared n .lais))
    ∧ (s.inSync n = true → 2 ≤ (s.lane n).lrdiOff → s.declared n .lrdi = true → Answers (.lrdiClear n) s (DefectCleared n .lrdi))
    ∧ (s.inSync n = true → 8 ≤ (s.lane n).sdLo → s.declared n .lsd = true → Answers (.lsdClear n) s (DefectCleared n .lsd))
    ∧ (s.inSync n = true → 8 ≤ (s.lane n).sfLo → s.declared n .lsf = true → Answers (.lsfClear n) s (DefectCleared n .lsf))
    ∧ (s.identMismatch n = false → (s.flag R.LN_FRM_CFG_LID_EN n = false ∨ (s.inSync n = true ∧ 8 ≤ (s.lane n).lidGood)) →
        s.declared n .lmm = true → Answers (.lmmClear n) s (DefectCleared n .lmm))
    ∧ (s.inSync n = true → 8 ≤ (s.lane n).lphIn → s.declared n .lph = true → Answers (.lphClear n) s (DefectCleared n .lph))

/-- R58, R60, R70, R71, R75 and R77: an attempt goes from SIGNAL to LOCK, TUNE, FRAME, INTRO and SERVICE, each by its exit condition. -/
def Obligations.AttemptsAdvance : Prop :=
  ∀ (n : LaneIx) (s : State),
    (∀ rs, s.fit n = fitSignal → 8 ≤ s.sinceFrame (s.lane n).since → detectRows ≤ ((s.lane n).judgeLevels rs).presentRun →
        s.declared n .los = false → Answers (.signalExit n rs) s (fun t => t.fit n = fitLock ∧ (t.lane n).since = s.frame))
    ∧ (s.fit n = fitLock → 16 ≤ (s.lane n).markRun → (s.lane n).goneRun < 16 →
        Answers (.lockExit n) s (fun t => t.fit n = fitTune ∧ (t.lane n).since = s.frame ∧ (t.lane n).ownReq = 3
          ∧ (t.lane n).ownPreset = s.fld R.LN_FIT_CTRL_PEER_PRESET n))
    ∧ (s.fit n = fitTune → (s.lane n).goneRun < 16 → (s.lane n).ownReady = true → (s.lane n).partnerReady = true →
        Answers (.tuneExit n) s (fun t => t.fit n = fitFrame ∧ (t.lane n).since = s.frame ∧ (t.lane n).announcing = true))
    ∧ (s.fit n = fitFrame → s.inSync n = true → 8 ≤ (s.lane n).cleanRun → (s.lane n).out = none →
        Answers (.frameExit n) s (fun t => t.fit n = fitIntro ∧ (t.lane n).since = s.frame
          ∧ (t.lane n).out = some ⟨msgIdent, (s.lane n).nextMseq, s.identPayload n⟩))
    ∧ (∀ f, (s.lane n).goOwn = some f → s.fit n = fitIntro → frameReached s.frame f = true →
        s.flag R.LN_FIT_CTRL_ENABLE n = true → (s.lane n).restartPend = 0 →
        Answers (.serviceEnter n) s (fun t => t.fit n = fitService ∧ (t.lane n).since = s.frame
          ∧ t.fld R.LN_FIT_STATUS_FAILS n = 0 ∧ t.fld R.LN_FIT_BACKOFF_BACKOFF n = 80
          ∧ t.latched R.LN_FIT_EVT_SERVICE_ENTER n = true ∧ t.flag R.LN_FRM_STAT_CA n = t.caActive n))

/-- R58, R59, R60, R62, R65, R74 and R77: what ends an attempt takes the lane to WAIT, with the backoff of R60, and a lane of SERVICE whose ENABLE has
been cleared to DISABLED. -/
def Obligations.FailedAttemptsWait : Prop :=
  ∀ (n : LaneIx) (s : State),
    (∀ k, fitTimeoutOf (s.fit n) = some k → k ≤ s.sinceFrame (s.lane n).since → Answers (.fitTimeout n) s (AttemptFailed n s))
    ∧ (s.lasted (s.lane n).losSince 8 = true → fitLock ≤ s.fit n → s.fit n ≤ fitIntro → Answers (.fitLosFail n) s (AttemptFailed n s))
    ∧ ((s.fit n = fitLock ∨ s.fit n = fitTune) → 16 ≤ (s.lane n).goneRun → Answers (.partnerGoneFail n) s (AttemptFailed n s))
    ∧ (∀ msg, (s.lane n).out = some msg → 8 ≤ s.sinceFrame (s.lane n).outSince → 8 ≤ (s.lane n).outSends →
        (s.fit n = fitIntro ∨ (msg.typ = msgServiceGo ∧ s.fit n = fitService)) →
        Answers (.msgRetry n) s (fun t =>
          if s.flag R.LN_FIT_CTRL_ENABLE n then AttemptFailed n s t else t.fit n = fitDisabled))

/-- R60, R61, R65, R66, R514: the end of a backoff, a partner's wake-up, 50 ms of loss in SERVICE, RESTART and LEAVE take the lane to
SIGNAL, with preset 1 from its next training row on and its defects but LOS, LOL and OOF cleared (R50, R115, R117; that OOF begins anew is DEDUCED:
log entry 64); a lane whose ENABLE has been cleared enters DISABLED instead. -/
def Obligations.AttemptsStartAtSignal : Prop :=
  ∀ (n : LaneIx) (s : State),
    (s.fit n = fitWait → (s.lane n).waitLen ≤ s.sinceFrame (s.lane n).since → Answers (.backoffExpiry n) s (AttemptStarted n s))
    ∧ (s.fit n = fitWait → 16 ≤ (s.lane n).wakeRun → Answers (.waitWake n) s (AttemptStarted n s))
    ∧ (s.inService n = true → s.lasted (s.lane n).persSince 400 = true →
        Answers (.servicePersistLeave n) s (fun t => if s.flag R.LN_FIT_CTRL_ENABLE n then AttemptStarted n s t else t.fit n = fitDisabled))
    ∧ (s.sendsTraffic n = true →
        Answers (.restart n) s (fun t => if s.flag R.LN_FIT_CTRL_ENABLE n then AttemptStarted n s t else t.fit n = fitDisabled))
    ∧ (∀ seq : BitVec 8, s.hears n seq.toNat → s.inService n = true →
        Answers (.leave n seq) s (fun t => if s.flag R.LN_FIT_CTRL_ENABLE n then AttemptStarted n s t else t.fit n = fitDisabled))

/-- R66, R74 to R77, R82, R83: a fitting message is acknowledged and acted on once; an answer releases the outstanding message, and what the answer
to PREP or RELEASE begins follows (on the return, DEDUCED: log entry 45; on a spare that carries a lane, DESIGN CHOICE: log entry 61); one not answered is
resent after 8 frames, and dropped in SERVICE after its eighth send. -/
def Obligations.FittingMessages : Prop :=
  ∀ (n : LaneIx) (s : State),
    (∀ (seq : BitVec 8) (ws : List Word), s.hears n seq.toNat →
        Answers (.ident n seq ws) s (fun t =>
          t.fld R.LN_PEER_ID0_ID n = (ws.getD 0 0).toNat ∧ t.fld R.LN_PEER_ID1_ID n = (ws.getD 1 0).toNat
          ∧ t.fld R.LN_PEER_ID2_ID n = (ws.getD 2 0).toNat ∧ t.fld R.LN_PEER_ID3_ID n = (ws.getD 3 0).toNat
          ∧ t.fld R.LN_PEER_ID4_ID n = (ws.getD 4 0).toNat ∧ (t.lane n).identGot = true ∧ (t.lane n).lastRx = some seq.toNat
          ∧ (t.identMismatch n = true → t.declared n .lmm = true)))
    ∧ (∀ (seq : BitVec 8) (f : Word), s.hears n seq.toNat →
        Answers (.serviceGo n seq f) s (fun t => (t.lane n).goPeer = some f.toNat ∧ (t.lane n).lastRx = some seq.toNat
          ∧ (t.lane n).fcTx = (s.lane n).fcTx ++ msgWords msgAck seq.toNat [seq.toNat]))
    ∧ (∀ (seq : BitVec 8) (ws : List Word) (f : Word) c, c ∈ [Instr.ident n seq ws, .serviceGo n seq f, .sparePrep n seq f, .spareSelect n seq f f,
          .spareRelease n seq f, .leave n seq] → s.sendsTraffic n = true → (s.lane n).lastRx = some seq.toNat →
        Answers c s (fun t => t.regs = s.regs ∧ t.lane n = { s.lane n with fcTx := (s.lane n).fcTx ++ msgWords msgAck seq.toNat [seq.toNat] }))
    ∧ (∀ (seq : BitVec 8) msg, (s.lane n).out = some msg → msg.seq = seq.toNat → (s.lane n).outQueue = [] →
        Answers (.ack n seq) s (fun t =>
          (msg.typ = msgIdent → (t.lane n).identAcked = true)
          ∧ (msg.typ = msgServiceGo → (t.lane n).out = none)
          ∧ (msg.typ = msgSparePrep → s.spareFor n = none → s.flag R.LN_SPARE_STAT_CARRYING n = false →
              t.flag R.LN_SPARE_STAT_SHADOW n = true ∧ (t.lane n).target = msg.payload.getD 0 0 % 2 ^ 16)
          ∧ (msg.typ = msgSparePrep → s.spareFor n = none → s.flag R.LN_SPARE_STAT_CARRYING n = true →
              (t.lane n).target = (s.lane n).target ∧ t.flag R.LN_SPARE_STAT_READY n = s.flag R.LN_SPARE_STAT_READY n)
          ∧ (∀ k, msg.typ = msgSparePrep → s.spareFor n = some k → (t.lane k).back = true ∧ t.flag R.LN_SPARE_STAT_READY k = false)
          ∧ (msg.typ = msgSpareRelease → s.flag R.LN_SPARE_STAT_CARRYING n = false → t.flag R.LN_SPARE_STAT_SHADOW n = false)
          ∧ (msg.typ = msgSpareRelease → s.flag R.LN_SPARE_STAT_CARRYING n = true → t.flag R.LN_SPARE_STAT_CARRYING n = true
            ∧ (t.lane n).ended = ((s.lane n).ended || !(s.lane n).back))
          ∧ (msg.typ = msgLeave → (s.lane n).leaveSince.isSome = true → t.fit n = fitDisabled)))
    ∧ (∀ (seq : BitVec 8) msg, (s.lane n).out = some msg → msg.seq = seq.toNat → (s.lane n).outQueue = [] →
        Answers (.nak n seq) s (fun t => (t.lane n).out = none ∧ t.fit n = s.fit n))
    ∧ (∀ msg, (s.lane n).out = some msg → 8 ≤ s.sinceFrame (s.lane n).outSince → (s.lane n).outSends < 8 →
        Answers (.msgRetry n) s (fun t => (t.lane n).outSends = (s.lane n).outSends + 1 ∧ (t.lane n).outSince = s.frame
          ∧ (t.lane n).fcTx = (s.lane n).fcTx ++ msgWords msg.typ msg.seq msg.payload))
    ∧ (∀ msg, (s.lane n).out = some msg → 8 ≤ s.sinceFrame (s.lane n).outSince → 8 ≤ (s.lane n).outSends →
        s.fit n = fitService → msg.typ ≠ msgServiceGo →
        Answers (.msgRetry n) s (fun t => t.latched R.LN_FIT_EVT_MSG_FAIL n = true ∧ t.fit n = fitService))
    ∧ (∀ f, (s.lane n).leaveSent = some f → 8 ≤ s.sinceFrame f →
        Answers (.leaveTimeout n) s (fun t => t.fit n = fitDisabled ∧ t.flag R.LN_FRM_STAT_CA n = t.caActive n))

/-- R81 to R83, R85: the partner's PREP, SELECT and RELEASE on a spare lane (a PREP for another lane, and a RELEASE while it carries one: DESIGN
CHOICE, log entry 61), READY after 8 clean frames, and the switch at F_sel to the spare, or back to the lane that it carries (the steps of the
return are DEDUCED: log entry 45). -/
def Obligations.SparesStandIn : Prop :=
  ∀ (n : LaneIx) (s : State),
    (∀ (seq : BitVec 8) (x : Word), s.hears n seq.toNat → s.covers n (x.toNat % 2 ^ 16) = true →
        s.flag R.LN_SPARE_STAT_CARRYING n = false →
        Answers (.sparePrep n seq x) s (fun t => t.flag R.LN_SPARE_STAT_SHADOW n = true ∧ (t.lane n).target = x.toNat % 2 ^ 16
          ∧ t.flag R.LN_SPARE_STAT_READY n = (s.flag R.LN_SPARE_STAT_SHADOW n && decide ((s.lane n).target = x.toNat % 2 ^ 16)
              && s.flag R.LN_SPARE_STAT_READY n)))
    ∧ (∀ (seq : BitVec 8) (x f : Word), s.hears n seq.toNat → s.flag R.LN_SPARE_STAT_SHADOW n = true →
        (s.lane n).target = x.toNat % 2 ^ 16 → (s.lane n).back = false → Answers (.spareSelect n seq x f) s (fun t => (t.lane n).selPeer = some f.toNat))
    ∧ (∀ (seq : BitVec 8) (x : Word), s.hears n seq.toNat → (s.lane n).target = x.toNat % 2 ^ 16 →
        (s.flag R.LN_SPARE_STAT_CARRYING n = false → Answers (.spareRelease n seq x) s (fun t => t.flag R.LN_SPARE_STAT_SHADOW n = false
          ∧ t.flag R.LN_SPARE_STAT_CARRYING n = false ∧ t.flag R.LN_SPARE_STAT_READY n = false))
        ∧ (s.flag R.LN_SPARE_STAT_CARRYING n = true → Answers (.spareRelease n seq x) s (fun t => t.regs = s.regs
          ∧ (t.lane n).ended = ((s.lane n).ended || !(s.lane n).back) ∧ (t.lane n).target = (s.lane n).target)))
    ∧ (isSpare n = true → s.flag R.LN_SPARE_STAT_SHADOW n = true → s.flag R.LN_SPARE_STAT_READY n = false → 8 ≤ s.readyRunOf n →
        Answers (.spareShadowReady n) s (fun t => t.flag R.LN_SPARE_STAT_READY n = true
          ∧ t.latched R.LN_FIT_EVT_SPARE_READY n = true
          ∧ ((s.lane n).selWait = true → (s.lane n).selOwn = none → (t.lane n).selOwn = some (frameAdd s.frame 8))))
    ∧ (∀ f, isSpare n = true → s.flag R.LN_SPARE_STAT_SHADOW n = true → (s.lane n).selOwn = some f → frameReached s.frame f = true →
        (s.lane n).rxSw = false →
        ((s.lane n).back = false → s.flag R.LN_SPARE_STAT_CARRYING n = false →
          Answers (.spareSwitch n) s (fun t => t.flag R.LN_SPARE_STAT_CARRYING n = true
            ∧ t.fld R.LN_SPARE_STAT_CARRIED n = (s.lane n).target % 16 ∧ t.flag R.LN_FIT_STATUS_SUB (s.lane n).target = true
            ∧ t.fld R.LN_RX_PHASE_PHASE (s.lane n).target = toWord 32 (s.lane n).phi
            ∧ (t.lane n).rxSw = true ∧ ((t.lane n).txSw = true → t.latched R.LN_FIT_EVT_SPARE_SELECTED n = true)))
        ∧ ((s.lane n).back = true → s.flag R.LN_SPARE_STAT_CARRYING n = true →
          Answers (.spareSwitch n) s (fun t => t.flag R.LN_SPARE_STAT_CARRYING n = false
            ∧ t.flag R.LN_FIT_STATUS_SUB (s.carriedBy n) = false
            ∧ t.fld R.LN_RX_PHASE_PHASE (s.carriedBy n) = toWord 32 (s.lane (s.carriedBy n)).phi)))

/-- R62, R68, R72: a training or a discovery row with a good marker and good control words gives the partner's STATE and LANE; a partner
that falls back to SIGNAL in LOCK or TUNE takes the lane to SIGNAL. -/
def Obligations.ControlWordsAreRead : Prop :=
  ∀ (n : LaneIx) (s : State) (ws : List SlotWord) (trq tst : Nat), s.flag R.LN_FIT_STATUS_RX_POL_INV n = false →
    controlWords (ws.map BitVec.toNat) = some (trq, tst) →
    trainMarked (ws.map BitVec.toNat) = true →
    (s.fit n ≠ fitDisabled →
        Answers (.trainingRow n ws) s (fun t => t.fld R.LN_FIT_STATUS_PEER_STATE n = bits trq 32 4
          ∧ t.fld R.LN_FIT_STATUS_PEER_LANE n = bits trq 8 9
          ∧ t.fit n = if s.fellToSignal n trq then fitSignal else s.fit n))
    ∧ Answers (.discoveryRow n ws) s (fun t => t.fld R.LN_FIT_STATUS_PEER_STATE n = bits trq 32 4
        ∧ t.fld R.LN_FIT_STATUS_PEER_LANE n = bits trq 8 9 ∧ t.fit n = s.fit n)

/-- R91 to R93, R101, R113, R114, R118, R122 to R124: rows and frames of a lane in SYNC, and the words of a row as they enter the sill page of its
frame, those of an uncorrectable codeword forced parity-failed, or none of them, AIS standing in their place, while a consequent action is active;
the errored FAW that loses SYNC, an SSM code that has held for 8 frames, and a page that no frame was assigned to. -/
def Obligations.FramesAreReceived : Prop :=
  ∀ (n : LaneIx) (s : State),
    (∀ k (ws : List SlotWord), s.inSync n = true → (s.lane n).row < 128 → s.fld R.LN_CNT0 n < 2 ^ 48 → s.fld R.LN_CNT1 n < 2 ^ 48 →
        Answers (.rxRow n k ws false) s (fun t => ((s.lane n).fcRx = [] → (t.lane n).row = (s.lane n).row + 1)
          ∧ t.fld R.LN_CNT0 n = (s.fld R.LN_CNT0 n + (decodeRow (s.lineWords n ws)).corr) % 2 ^ 48
          ∧ t.fld R.LN_CNT1 n = (s.fld R.LN_CNT1 n + (decodeRow (s.lineWords n ws)).unc) % 2 ^ 48))
    ∧ (∀ (k : Nat) (ws : List SlotWord) (r pg : Nat), s.inSync n = true → r = (s.lane n).row → r < 128 → n.val < 272 → (s.lane n).fcRx = [] →
        (s.lane n).page = some pg → (∀ c, c < 1024 → (s.sillPage n pg).words.find (1024 * r + c) = none) →
        Answers (.rxRow n k ws false) s (fun t =>
          (s.substitutes n = true → (t.sillPage n pg).words = (s.sillPage n pg).words)
          ∧ (s.substitutes n = false → ∀ c,
              (c < 1024 → (t.sillPage n pg).words.find (1024 * r + c) = some (
                if (decodeRow (s.lineWords n ws)).bad.getD (16 + c) true then
                  forcePf ((scrambleRow r (decodeRow (s.lineWords n ws)).words).getD (16 + c) 0)
                else (scrambleRow r (decodeRow (s.lineWords n ws)).words).getD (16 + c) 0))
              ∧ (c < 1024 * r ∨ 1024 * r + 1024 ≤ c → (t.sillPage n pg).words.find c = (s.sillPage n pg).words.find c))))
    ∧ (∀ k (ws : List SlotWord) (b : Bool), s.inSync n = true → (s.lane n).fcRx = [] →
        fawErrors ((s.lineWords n ws).getD 0 0) ((s.lineWords n ws).getD 1 0) ≤ 4 →
        Answers (.rxFrame n k ws b) s (fun t => t.inSync n = true ∧ (t.lane n).row = 1 ∧ (t.lane n).errFaw = 0
          ∧ t.flag R.LN_PHASE_STAT_RX_VALID n = true ∧ (t.lane n).phi = (pageAt s.frame (k % 2654208)).2
          ∧ (s.flag R.LN_FIT_STATUS_SUB n = false → t.fld R.LN_RX_PHASE_PHASE n = toWord 32 (pageAt s.frame (k % 2654208)).2)
          ∧ (s.flag R.LN_FIT_STATUS_SUB n = true → isSpare n = false → t.fld R.LN_RX_PHASE_PHASE n = s.fld R.LN_RX_PHASE_PHASE n)
          ∧ t.flag R.LN_PHASE_STAT_RX_SYNC_OK n = phaseInside (pageAt s.frame (k % 2654208)).2))
    ∧ (∀ k (ws : List SlotWord) (b : Bool), s.inSync n = true →
        4 < fawErrors ((s.lineWords n ws).getD 0 0) ((s.lineWords n ws).getD 1 0) → (s.lane n).errFaw = 3 →
        Answers (.rxFrame n k ws b) s (fun t => t.fld R.LN_FRM_STAT_ALIGN n = alignHunt ∧ t.declared n .oof = true
          ∧ t.flag R.LN_PHASE_STAT_RX_VALID n = false))
    ∧ (8 ≤ (s.lane n).ssmRun → s.caActive n = false → (s.lane n).ssmVal ≠ s.fld R.LN_RX_STW_SSM n →
        Answers (.ssmAccept n) s (fun t => t.fld R.LN_RX_STW_SSM n = (s.lane n).ssmVal % 16
          ∧ t.latched R.LN_DEF_EVT_SSM_CHANGE n = true))
    ∧ ((s.sillPage n s.frame).filled = false → (s.lane n).assigning = true → s.inSync n = true → s.caActive n = false →
        Answers (.pageWindowClose n) s (fun t => (t.sillPage n s.frame).filled = true
          ∧ (s.fld R.LN_CNT4 n < 2 ^ 48 → t.fld R.LN_CNT4 n = (s.fld R.LN_CNT4 n + 1) % 2 ^ 48)
          ∧ (if (s.lane n).sync then t.latched R.LN_DEF_EVT_SYNC_SLIP n = true
             else t.latched R.LN_DEF_EVT_SLIP n = true)))

/-- R57, R79 and R80: a good second counts; a reversion loads the known-good set and holds adaptation, or within 60 s freezes it; the hold
ends after 10 s; a lane that fell back returns to loop timing by itself after 10 s of RX_SYNC_OK. -/
def Obligations.AdaptationReverts : Prop :=
  ∀ (n : LaneIx) (s : State),
    (s.inService n = true → 8000 ≤ (s.lane n).goodRun → (s.lane n).goodCorr ≤ s.fld R.LN_ADAPT_CFG_GOOD_MAX n →
        s.fld R.LN_ADAPT_STAT_GOOD_SECS n < 9 →
        Answers (.goodSecond n) s (fun t => t.fld R.LN_ADAPT_STAT_GOOD_SECS n = s.fld R.LN_ADAPT_STAT_GOOD_SECS n + 1
          ∧ (t.lane n).goodRun = 0))
    ∧ (s.inService n = true → 8000 ≤ (s.lane n).goodRun → (s.lane n).goodCorr ≤ s.fld R.LN_ADAPT_CFG_GOOD_MAX n →
        s.fld R.LN_ADAPT_STAT_GOOD_SECS n = 9 → (s.lane n).badRun < 3 →
        Answers (.goodSecond n) s (fun t => t.fld R.LN_ADAPT_STAT_GOOD_SECS n = 0 ∧ t.flag R.LN_ADAPT_STAT_KG_VALID n = true
          ∧ (t.lane n).kgEq = s.eqWord n ∧ (t.lane n).kgF0 = s.fld R.LN_RX_FFE_LO_F0_F3 n
          ∧ (t.lane n).kgF4 = s.fld R.LN_RX_FFE_HI_F4_F7 n))
    ∧ (s.inService n = true → s.flag R.LN_ADAPT_STAT_KG_VALID n = true → 3 ≤ (s.lane n).badRun → s.declared n .los = false →
        s.declared n .lol = false → s.flag R.LN_ADAPT_STAT_FROZEN n = false →
        Answers (.adaptRevert n) s (fun t => t.fld R.LN_RX_EQ_CTLE n = (s.lane n).kgEq % 2 ^ 4
          ∧ t.fld R.LN_RX_FFE_LO_F0_F3 n = (s.lane n).kgF0 % 2 ^ 32 ∧ (t.lane n).badRun = 0
          ∧ (match (s.lane n).lastRevert with
            | none => t.flag R.LN_ADAPT_STAT_HOLD n = true ∧ t.latched R.LN_FIT_EVT_ADAPT_REVERT n = true
              ∧ (t.lane n).lastRevert = some s.frame
            | some f =>
              if s.sinceFrame f ≤ 480000 then t.flag R.LN_ADAPT_STAT_FROZEN n = true ∧ t.latched R.LN_FIT_EVT_ADAPT_FROZEN n = true
              else t.flag R.LN_ADAPT_STAT_HOLD n = true ∧ t.latched R.LN_FIT_EVT_ADAPT_REVERT n = true
                ∧ (t.lane n).lastRevert = some s.frame)))
    ∧ (∀ f, (s.lane n).holdSince = some f → 80000 ≤ s.sinceFrame f →
        Answers (.adaptHoldEnd n) s (fun t => t.flag R.LN_ADAPT_STAT_HOLD n = false ∧ (t.lane n).holdSince = none))
    ∧ (s.flag R.LN_TX_CFG_LOOP_AUTO n = true → s.inService n = true → s.flag R.LN_TX_CFG_TIMING n = true →
        s.flag R.LN_TX_STAT_TIMING_ACT n = false → 80000 ≤ (s.lane n).syncOkRun →
        Answers (.loopAutoRestore n) s (fun t => t.flag R.LN_TX_STAT_TIMING_ACT n = true ∧ t.flag R.LN_TX_STAT_SLEWING n = true
          ∧ (t.lane n).fellBack = false))

/-- R57, R60, R64, R66, R80, R82, R83 and R514: what an accepted write of LN_FIT_CTRL, LN_TX_CFG or LN_SPARE_CTRL does beyond its fields. -/
def Obligations.LaneControlWrites : Prop :=
  ∀ (m : Master) (n : LaneIx) (w : Word) (s : State),
    (s.accepts m RN.LN_FIT_CTRL n = true → w.toNat.testBit 1 = false → s.flag R.LN_FIT_CTRL_ENABLE n = w.toNat.testBit 0 →
        Answers (.backoffReset m n w) s (fun t => t.resp.status = .ok ∧ t.fld R.LN_FIT_BACKOFF_BACKOFF n = 80
          ∧ (t.lane n).freshRun = true ∧ t.fit n = s.fit n))
    ∧ (s.accepts m RN.LN_FIT_CTRL n = true →
        Answers (.unfreeze m n w) s (fun t => t.resp.status = .ok ∧ t.flag R.LN_ADAPT_STAT_FROZEN n = false))
    ∧ (s.accepts m RN.LN_FIT_CTRL n = true → s.flag R.LN_FIT_CTRL_ENABLE n = true → w.toNat.testBit 0 = true →
        s.fit n ≠ fitDisabled →
        Answers (.lnRestart m n w) s (fun t => t.resp.status = .ok
          ∧ (if s.sendsTraffic n then (t.lane n).restartPend ≠ 0 ∧ t.fit n = s.fit n else t.fit n = fitSignal)))
    ∧ (s.accepts m RN.LN_FIT_CTRL n = true → s.fld R.LN_FIT_CTRL_ENABLE n = 1 → s.inService n = false →
        Answers (.fitEnableWrite m n w) s (fun t => t.resp.status = .ok ∧ t.flag R.LN_FIT_CTRL_ENABLE n = false
          ∧ t.fit n = fitDisabled))
    ∧ (s.accepts m RN.LN_FIT_CTRL n = true → s.fld R.LN_FIT_CTRL_ENABLE n = 0 → 5 ≤ s.phase →
        Answers (.fitEnableWrite m n w) s (fun t => t.resp.status = .ok ∧ t.flag R.LN_FIT_CTRL_ENABLE n = true
          ∧ t.fit n = fitSignal))
    ∧ (s.accepts m RN.LN_TX_CFG n = true → s.flag R.LN_TX_CFG_TIMING n = true → s.flag R.LN_TX_STAT_TIMING_ACT n = false →
        Answers (.loopRestore m n w) s (fun t => t.resp.status = .ok ∧ t.flag R.LN_TX_STAT_TIMING_ACT n = true
          ∧ t.flag R.LN_TX_STAT_SLEWING n = true))
    ∧ (s.accepts m RN.LN_SPARE_CTRL n = true → w.toNat.testBit 5 = false → w.toNat.testBit 6 = false → s.inService n = true →
        s.covers n (16 * (n - 256) + w.toNat % 16) = true → s.flag R.LN_SPARE_STAT_CARRYING n = false → (s.lane n).out = none →
        Answers (.sparePrepWrite m n w) s (fun t => t.resp.status = .ok ∧ t.fld R.LN_SPARE_CTRL_TARGET n = w.toNat % 16
          ∧ (t.lane n).out = some ⟨msgSparePrep, (s.lane n).nextMseq, [16 * (n - 256) + w.toNat % 16]⟩))
    ∧ (s.accepts m RN.LN_SPARE_CTRL n = true → isSpare n = true → w.toNat.testBit 4 = false → w.toNat.testBit 6 = false →
        s.inService n = true → s.flag R.LN_SPARE_STAT_READY n = true → (s.lane n).selOwn = none → (s.lane n).out = none →
        (s.lane n).back = false → s.flag R.LN_SPARE_STAT_CARRYING n = false → Answers (.spareSelectWrite m n w) s (fun t => t.resp.status = .ok ∧ (t.lane n).selOwn = some (frameAdd s.frame 8)
          ∧ (t.lane n).out = some ⟨msgSpareSelect, (s.lane n).nextMseq, [(s.lane n).target, frameAdd s.frame 8]⟩))
    ∧ (s.accepts m RN.LN_SPARE_CTRL n = true → isSpare n = true → w.toNat.testBit 4 = false → w.toNat.testBit 6 = false →
        (s.flag R.LN_SPARE_STAT_READY n = false ∨ (s.flag R.LN_SPARE_STAT_CARRYING n = true ∧ (s.lane n).back = false)) →
        Answers (.spareSelectWrite m n w) s (fun t => t.resp.status = .ok ∧ (t.lane n).selWait = true ∧ (t.lane n).out = (s.lane n).out))
    ∧ (s.accepts m RN.LN_SPARE_CTRL n = true → isSpare n = true → w.toNat.testBit 4 = false → w.toNat.testBit 5 = false →
        s.inService n = true → (s.lane n).out = none →
        Answers (.spareReleaseWrite m n w) s (fun t => t.resp.status = .ok
          ∧ (t.lane n).out = some ⟨msgSpareRelease, (s.lane n).nextMseq,
              [if s.flag R.LN_SPARE_STAT_SHADOW n then (s.lane n).target else 16 * (n - 256) + w.toNat % 16]⟩))

/-! ### Transmit frames, the management channel and bents (chapters 3 and 4) -/

/-- R25, R33, R64, R67, R86, R89, R92, R184, R229 to R233, R237, R238, R514: in its transmit frame a lane that drives its balls sends a traffic frame
in FRAME, INTRO or SERVICE, its rows scrambled and coded, training or discovery rows elsewhere, and nothing before the end of P4. Each slot column
carries what its plate read entry gives: the word of its source, the selected copy of a merged slot, or an idle word, an AIS word over it with LAIS; the
outcome of each word judges its side, whose fourth mismatch of 32 frames declares FAULT. -/
def Obligations.LanesTransmit : Prop :=
  ∀ (n : LaneIx) (s : State),
    (s.transmits = false → Answers (.txFrame n) s (fun t => (t.lane n).tx = {} ∧ t.flag R.LN_PHASE_STAT_TX_VALID n = false
        ∧ t.fld R.LN_TX_PHASE_PHASE n = s.fld R.LN_TX_PHASE_PHASE n ∧ ∀ r, t.txBalls n r = []))
    ∧ (s.transmits = true → (s.lane n).restartPend ≠ 1 → s.sendsTraffic n = true →
        Answers (.txFrame n) s (fun t => (t.lane n).tx.sent = true ∧ (t.lane n).tx.traffic = true ∧ (t.lane n).tx.frame = s.frame
          ∧ (t.lane n).fcTx = (s.lane n).fcTx.drop 128 ∧ (t.lane n).tx.fcw = (s.lane n).fcTx.take 128
          ∧ t.flag R.LN_PHASE_STAT_TX_VALID n = true ∧ t.flag R.LN_FRM_STAT_TX_LAIS n = (t.lane n).tx.lais
          ∧ (∀ r, r < 128 → (t.lane n).tx.lineRow r = scrambleRow r ((t.lane n).tx.dataRow r)
              ++ rowParityWords (scrambleRow r ((t.lane n).tx.dataRow r)))
          ∧ t.fld R.LN_TX_PHASE_PHASE n = toWord 32 (t.lane n).psi))
    ∧ (∀ (sc : Schedule) (k a : Nat) (aised : Nat → Nat), sc = s.schedAt s.frame → a = 131072 * n + k →
        aised = (fun w => if s.fit n = fitFrame ∨ s.fit n = fitIntro ∨ s.flag R.LN_FRM_CFG_TX_FORCE_AIS n = true ∨ s.forcesAis n = true then aisOver w
          else w) →
        n.val < 256 → (s.lane n).plateAt ≠ some s.frame → s.transmits = true → (s.lane n).restartPend ≠ 1 → s.sendsTraffic n = true →
        s.ceased n = false → (sc.pread.get n {}).wf = true →
        ((sc.pread.get n {}).find k = none → Answers (.txFrame n) s (fun t => (t.lane n).tx.column k = aised (idleWord s.frame)))
        ∧ (∀ code src, (sc.pread.get n {}).find k = some code → code < 0x24000 → sc.map.find a = some (.single src) →
          Answers (.txFrame n) s (fun t => (t.lane n).tx.column k = aised (s.readCopy sc n s.frame src code).1
            ∧ SideJudged (2 * a) (s.readCopy sc n s.frame src code).2 s t))
        ∧ (∀ code w p g x aw ap, (sc.pread.get n {}).find k = some code → 0x24000 ≤ code → code < 0x28000 →
          sc.map.find a = some (.merged w p g x) → (sc.scarf.get n {}).find (code - 0x24000) = some (aw, ap) →
          Answers (.txFrame n) s (fun t =>
            (t.lane n).tx.column k
              = aised (select (s.pref g) (s.copyOf sc n s.frame (2 * a) g 0 w aw) (s.copyOf sc n s.frame (2 * a) g 1 p ap)).1
            ∧ SideJudged (2 * a) (s.readCopy sc n s.frame w aw).2 s t ∧ SideJudged (2 * a + 1) (s.readCopy sc n s.frame p ap).2 s t))
        ∧ (∀ code, (sc.pread.get n {}).find k = some code → 0x28000 ≤ code →
          Answers (.txFrame n) s (fun t => (t.lane n).tx.column k = aised (idleWord s.frame)
            ∧ (code ≠ 0x3FFFF → t.latched R.FAB_EVT_PLATE_CODE = true))))
    ∧ (s.transmits = true → (s.lane n).restartPend ≠ 1 → s.sendsTraffic n = false →
        Answers (.txFrame n) s (fun t => (t.lane n).tx.sent = true ∧ (t.lane n).tx.traffic = false ∧ (t.lane n).tx.frame = s.frame
          ∧ t.flag R.LN_PHASE_STAT_TX_VALID n = false ∧ (t.lane n).inv = s.flag R.LN_TX_CFG_TX_INV n))
    ∧ (s.transmits = true → (s.lane n).restartPend = 1 →
        Answers (.txFrame n) s (fun t => t.fit n = (if s.flag R.LN_FIT_CTRL_ENABLE n then fitSignal else fitDisabled)
          ∧ (t.lane n).tx.traffic = false))

/-- R105 to R107: the words of a packet in order bring it to the entry at RX_HEAD, which advances; a full ring discards it; a packet with a
bad CRC is counted, and one that ABORT ends is not; a packet to send is taken from the entry at TX_TAIL. That bad framing and a loss of SYNC count a
packet in progress too, with MCH_ERR, and that 2,044 bytes of a longer one are taken to send, are the model's choices (log entry 62). -/
def Obligations.ManagementPackets : Prop :=
  ∀ (n : LaneIx) (s : State), s.flag R.LN_MCH_CTRL_ENABLE n = true →
    (∀ (ws : List SlotWord) (p : List Nat), s.inSync n = true → p ≠ [] → p.length ≤ 2044 → (∀ b ∈ p, b < 256) →
        ws.map BitVec.toNat = packetWords p → s.MemWf →
        (s.fld R.LN_MCH_IDX_RX_HEAD n + 1) % 64 ≠ s.fld R.LN_MCH_IDX_RX_TAIL n →
        s.inDdr (mchEntry (s.fld R.LN_MCH_RXBASE_BASE n) (s.fld R.LN_MCH_IDX_RX_HEAD n)) 2048 = true →
        Answers (.mchPacketRx n ws) s (fun t =>
          StoresAt s t (mchEntry (s.fld R.LN_MCH_RXBASE_BASE n) (s.fld R.LN_MCH_IDX_RX_HEAD n))
            (leBytes 2 p.length ++ leBytes 2 0 ++ p.map (BitVec.ofNat 8))
          ∧ t.fld R.LN_MCH_IDX_RX_HEAD n = (s.fld R.LN_MCH_IDX_RX_HEAD n + 1) % 64
          ∧ t.latched R.LN_DEF_EVT_MCH_RX n = true ∧ (t.lane n).mchRx = none))
    ∧ (∀ (w : SlotWord) (b p : List Nat), s.inSync n = true → mchStep (s.lane n).mchRx w.toNat = .whole b → packetPayload b = some p →
        (s.fld R.LN_MCH_IDX_RX_HEAD n + 1) % 64 = s.fld R.LN_MCH_IDX_RX_TAIL n →
        Answers (.mchPacketRx n [w]) s (fun t => t.mem = s.mem ∧ t.latched R.LN_DEF_EVT_MCH_DROP n = true ∧ (t.lane n).mchRx = none
          ∧ t.fld R.LN_MCH_STAT_RX_DROP n = satAdd 65535 (s.fld R.LN_MCH_STAT_RX_DROP n) 1))
    ∧ (∀ w : SlotWord, s.inSync n = true → (mchStep (s.lane n).mchRx w.toNat = .broken
          ∨ ∃ b, mchStep (s.lane n).mchRx w.toNat = .whole b ∧ packetPayload b = none) →
        Answers (.mchPacketRx n [w]) s (fun t => t.mem = s.mem ∧ t.latched R.LN_DEF_EVT_MCH_ERR n = true ∧ (t.lane n).mchRx = none
          ∧ t.fld R.LN_MCH_STAT_RX_BAD n = satAdd 65535 (s.fld R.LN_MCH_STAT_RX_BAD n) 1))
    ∧ (∀ w : SlotWord, s.inSync n = true → bits w.toNat 32 4 = 8 →
        Answers (.mchPacketRx n [w]) s (fun t => t.mem = s.mem ∧ t.regs = s.regs ∧ (t.lane n).mchRx = none))
    ∧ (∀ ws : List SlotWord, s.inSync n = false →
        ((s.lane n).mchRx.isSome = true → Answers (.mchPacketRx n ws) s (fun t => t.mem = s.mem ∧ t.latched R.LN_DEF_EVT_MCH_ERR n = true
          ∧ (t.lane n).mchRx = none ∧ t.fld R.LN_MCH_STAT_RX_BAD n = satAdd 65535 (s.fld R.LN_MCH_STAT_RX_BAD n) 1))
        ∧ ((s.lane n).mchRx = none → Answers (.mchPacketRx n ws) s (fun t => t = s)))
    ∧ (s.sendsTraffic n = true → s.fld R.LN_MCH_IDX_TX_TAIL n ≠ s.fld R.LN_MCH_IDX_TX_HEAD n →
        s.inDdr (mchEntry (s.fld R.LN_MCH_TXBASE_BASE n) (s.fld R.LN_MCH_IDX_TX_TAIL n)) 2048 = true →
        Answers (.mchPacketTx n) s (fun t => t.fld R.LN_MCH_IDX_TX_TAIL n = (s.fld R.LN_MCH_IDX_TX_TAIL n + 1) % 64
          ∧ t.mem = s.mem
          ∧ (t.lane n).mchTx = (s.lane n).mchTx ++ packetWords ((s.readBytes
              (mchEntry (s.fld R.LN_MCH_TXBASE_BASE n) (s.fld R.LN_MCH_IDX_TX_TAIL n) + 4)
              (min (s.readLe (mchEntry (s.fld R.LN_MCH_TXBASE_BASE n) (s.fld R.LN_MCH_IDX_TX_TAIL n)) 2) 2044)).map BitVec.toNat)))

/-- R139, R147 to R154, R159, R160: a member joins at its frame; a decided step or retime takes effect at its frame or is refused with
GROW_FAIL; a growth's pause ends with GROW_DONE; a RETIME decides an action at the named frame, or 4 frames on, deferred where a chunk in
force edits the bent then. -/
def Obligations.BentsAct : Prop :=
  ∀ s : State,
    (∀ (src : SlotAddr) (b : Nat) (m : Membership) (f : Nat), s.sched.memberOf src.val = some (b, m) →
        (s.link src.val).joinAt = some f → ((s.link src.val).state = .pending ∨ (s.link src.val).state = .unlocked) →
        (s.link src.val).bent = b → frameReached s.frame f = true → s.canJoin m s.frame = true → b < 16384 →
        Answers (.memberJoin src) s (fun t => (t.link src.val).state = .active ∧ (t.link src.val).joinAt = none
          ∧ (s.frame ≠ f → t.latched R.BNT_EVT_LOCK_LATE b = true)))
    ∧ (∀ (b : BentIx) (a : BentAction) (sc : Schedule) (tap : Tab (Tab TapEnt)), s.dueAction b.val false = some a →
        (a.settle s s.sched).run s s.sched s.tap = some (sc, tap) →
        Answers (.bentStepApply b) s (fun t => t.sched = sc ∧ a ∉ t.actions))
    ∧ (∀ (b : BentIx) (a : BentAction), s.dueAction b.val false = some a → (a.settle s s.sched).run s s.sched s.tap = none →
        Answers (.bentStepApply b) s (fun t => t.sched = s.sched ∧ a ∉ t.actions ∧ t.latched R.BNT_EVT_GROW_FAIL a.bent = true))
    ∧ (∀ (b : BentIx) (a : BentAction) (sc : Schedule) (tap : Tab (Tab TapEnt)), s.dueAction b.val true = some a →
        (a.settle s s.sched).run s s.sched s.tap = some (sc, tap) →
        Answers (.bentRetimeApply b) s (fun t => t.sched = sc ∧ a ∉ t.actions))
    ∧ (∀ (b : BentIx) (p : BentPause), p ∈ s.pausesOf b.val → frameReached s.frame p.until' = true →
        Answers (.bentGrowthEnd b) s (fun t => t.pausesOf b.val = (s.pausesOf b.val).filter (fun q => !frameReached s.frame q.until')
          ∧ (p.growth = true → t.latched R.BNT_EVT_GROW_DONE b.val = true)))
    ∧ (∀ (m : Master) (b : BentIx) (w : Word) (f : Nat), s.accepts m RN.BNT_CTRL b.val = true →
        f = (if frameReached (s.fld R.BNT_RETIME_FRAME_FRAME b.val) (frameAdd s.frame 4) then s.fld R.BNT_RETIME_FRAME_FRAME b.val
          else frameAdd s.frame 4) →
        (s.schedAt f).membersOf b.val ≠ [] →
        Answers (.bentRetime m b w) s (fun t => t.resp.status = .ok ∧ ∃ a ∈ t.actions, a = s.deferNow
          { bent := b.val, at' := f,
            units := [{ act := .retime, src := 0, arr := 0, ref := maxArr ((s.schedAt f).membersOf b.val) + s.guard b.val }] }))

/-! ### The fabric and grain (chapters 5 and 7) -/

/-- R26, R167, R169 to R172, R176, R181 to R183, R205, R206, R234: in the centre sweep the words cross under the schedule of the next frame into the
plates' pages of the swept page's parity, each at the address of its plate write entry, and no other page changes; what LAMS and the lamination that
it shadows give differently counts, nothing without a fault; a word that the sill reads out has the GRN and SEQ of its page and its payload and parity
state, or is an AIS word; the first check word of a kerf that fails is recorded (of one round, that of the lowest output port: DEDUCED, log entry 39),
none where all are as sent; the long path keeps the words of the tapped sources and gives back, for each long member, the copy of its
deskew; released tap entries are cleared, and storage that a withdrawn change had added is given back; a side in FAULT clears after 256
MATCH words. -/
def Obligations.FabricWorks : Prop :=
  ∀ s : State,
    (∀ (flips : List TrussFlip) (u : State) (x : Crossed), u = (s.closeReturns s.frame).checkBents ((s.frame + 2 ^ 32 - 1) % 2 ^ 32) →
        x = u.crossing (u.schedAt (frameAdd s.frame 1)) s.frame flips →
        Answers (.centreSweep flips) s (fun t =>
          t.fld R.FAB_LAM_MM_COUNT = satAdd (2 ^ R.FAB_LAM_MM_COUNT.width - 1) (s.fld R.FAB_LAM_MM_COUNT) x.diffs
          ∧ (0 < x.diffs → t.latched R.FAB_EVT_LAM_MISMATCH = true)
          ∧ t.fld R.FAB_CONFLICT_COUNT = satAdd (2 ^ R.FAB_CONFLICT_COUNT.width - 1) (s.fld R.FAB_CONFLICT_COUNT) x.conflicts
          ∧ (flips = [] → x.diffs = 0) ∧ t.sched = s.sched
          ∧ ∀ o, t.plate.get (2 * o + s.frame % 2) {} = s.plate.get (2 * o + s.frame % 2) {}
            ∧ t.plate.get (2 * o + (s.frame + 1) % 2) {} = match x.words.find o with
              | some ws => plateAfter (s.plate.get (2 * o + (s.frame + 1) % 2) {}) ((u.schedAt (frameAdd s.frame 1)).pwrite.get o {}) ws
              | none => s.plate.get (2 * o + (s.frame + 1) % 2) {}))
    ∧ (∀ src page : Nat, if s.mismatches src (s.sillWord src page) page then isAis (s.sillRead src page) = true
        else seqOf (s.sillRead src page) = page % 4 ∧ grnOf (s.sillRead src page) = s.grainOf src page
          ∧ payloadOf (s.sillRead src page) = payloadOf (s.sillWord src page)
          ∧ parityGood (s.sillRead src page) = parityGood (s.sillWord src page))
    ∧ (∀ (got : List KerfWord) (f : KerfWord), s.flag R.FAB_CFG_KERF_EN = true →
        firstKerf (got.filter (fun g => kerfBad g s.frame (s.fld R.FAB_LAM_STAT_SHADOW_ACT))) = some f →
        Answers (.kerfCheck got) s (fun t => t.fld R.FAB_KERF_FAIL_IN = f.inp.val ∧ t.fld R.FAB_KERF_FAIL_OUT = f.out.val
          ∧ t.fld R.FAB_KERF_FAIL_LAMMASK = kerfMask f s.frame (s.fld R.FAB_LAM_STAT_SHADOW_ACT)
          ∧ t.flag R.FAB_KERF_FAIL_VALID = true ∧ t.latched R.FAB_EVT_KERF_FAIL = true))
    ∧ (∀ got : List KerfWord, (s.flag R.FAB_CFG_KERF_EN = false ∨ ∀ g ∈ got, g.word.toNat = kerfSent s.frame g.inp g.out g.second
          ∧ g.lams.toNat = bits (kerfSent s.frame g.inp g.out g.second) (4 * s.fld R.FAB_LAM_STAT_SHADOW_ACT) 4) →
        Answers (.kerfCheck got) s (fun t => t.flag R.FAB_KERF_FAIL_VALID = s.flag R.FAB_KERF_FAIL_VALID
          ∧ ∀ k, t.fld R.FAB_LAM_ERR_COUNT k = s.fld R.FAB_LAM_ERR_COUNT k))
    ∧ Answers .longPathTap s (fun t => ∀ pq ∈ s.taps', ∃ src, (pq.1, src) ∈ s.taps'
        ∧ (t.longMem.get pq.1 {}).find ((s.frame + 2 ^ 32 - 1) % 2 ^ 32) = some (s.sillRead src ((s.frame + 2 ^ 32 - 1) % 2 ^ 32)))
    ∧ (∀ (r : Fin 24) (late : List (Fin 131072)),
        Answers (.longPathReturn r late) s (fun t => t.returnFilled r.val s.frame = true
          ∧ ∀ x ∈ s.returning r.val s.frame, ∃ y ∈ s.returning r.val s.frame, (y.pos.getD 0) % 131072 = (x.pos.getD 0) % 131072
            ∧ ∃ w, (t.retPages.get (returnBank r.val s.frame) {}).words.find ((x.pos.getD 0) % 131072) = some w
              ∧ (∀ c, (late.any (fun k => k.val == (x.pos.getD 0) % 131072)) = false →
                  (s.longMem.get (y.pos.getD 0) {}).find (pageFor (frameAdd s.frame 1) y.d) = some c → w = c)
              ∧ ((late.any (fun k => k.val == (x.pos.getD 0) % 131072)) = true →
                  parityGood w = false ∧ t.latched R.FAB_EVT_LP_LATE = true)))
    ∧ Answers .tapClear s (fun t => ∀ r q e,
        ((t.tap.get r {}).find q = some e → ∀ f, e.clearAt = some f → frameReached s.frame f = false)
        ∧ ((s.tap.get r {}).find q = some e → (∀ f, e.clearAt = some f → frameReached s.frame f = false) →
          ((∀ f, e.backAt = some f → frameReached s.frame f = false) → (t.tap.get r {}).find q = some e)
          ∧ (∀ f, e.backAt = some f → frameReached s.frame f = true →
              (t.tap.get r {}).find q = some { e with store := s.needAt (131072 * r + q), backAt := none })))
    ∧ (∀ (a : SlotAddr) (side : Bool) (sd : SideSt), s.sides.live.find (2 * a.val + b2n side) = some sd → sd.fault = true → 256 ≤ sd.run →
        Answers (.grnFaultClear a side) s (fun t => t.sides.live.find (2 * a.val + b2n side) = none
          ∧ t.latched R.GRN_EVT_GRN_CLEAR = true))

/-! ### The scribe: lists, scenes and re-placement (chapter 6) -/

/-- R211, R214, R215: COMPILE and GO queue a list that is at rest, APPLY asks for its apply frame, ABORT ends it with ABORTED; a command
that does not fit the list's state has no effect and latches CMD_REFUSED. -/
def Obligations.ListCommands : Prop :=
  ∀ (m : Master) (w : Word) (j : Nat) (s : State), j = bit w.toNat 0 → s.accepts m RN.CUT_CTRL 0 = true → s.mayChange = true →
    (s.listAtRest j = true → Answers (.compile m w) s (fun t => t.resp.status = .ok ∧ t.listState j = listQueued
        ∧ t.queued = s.queued ++ [{ kind := .list j, since := s.frame }]))
    ∧ (s.listAtRest j = false → Answers (.compile m w) s (fun t => t.listState j = s.listState j ∧ t.queued = s.queued
        ∧ t.latched R.CUT_EVT_CMD_REFUSED = true))
    ∧ ((s.listState j = listQueued ∨ s.listState j = listCompiling ∨ s.listState j = listArmed) →
        s.flag R.CUT_Lj_STAT_APPLY_REQ j = false →
        Answers (.apply m w) s (fun t => t.resp.status = .ok ∧ t.flag R.CUT_Lj_STAT_APPLY_REQ j = true
          ∧ t.flag R.CUT_Lj_STAT_ASAP j = w.toNat.testBit 4))
    ∧ (s.listAtRest j = true → s.occupant j = none →
        Answers (.go m w) s (fun t => t.resp.status = .ok ∧ t.listState j = listQueued ∧ t.flag R.CUT_Lj_STAT_APPLY_REQ j = true
          ∧ t.flag R.CUT_Lj_STAT_ASAP j = w.toNat.testBit 4))
    ∧ ((¬ (s.listState j = listQueued ∨ s.listState j = listCompiling ∨ s.listState j = listArmed) ∨ s.flag R.CUT_Lj_STAT_APPLY_REQ j = true) →
        Answers (.apply m w) s (fun t => t.listState j = s.listState j ∧ t.flag R.CUT_Lj_STAT_ASAP j = s.flag R.CUT_Lj_STAT_ASAP j
          ∧ t.chg = s.chg ∧ t.queued = s.queued ∧ t.latched R.CUT_EVT_CMD_REFUSED = true))
    ∧ (s.listAtRest j = false → Answers (.go m w) s (fun t => t.listState j = s.listState j ∧ t.chg = s.chg ∧ t.queued = s.queued
        ∧ t.latched R.CUT_EVT_CMD_REFUSED = true))
    ∧ (¬ (s.listState j = listQueued ∨ s.listState j = listCompiling ∨ s.listState j = listArmed) →
        Answers (.abort m w) s (fun t => t.listState j = s.listState j ∧ t.chg = s.chg ∧ t.queued = s.queued
          ∧ t.latched R.CUT_EVT_CMD_REFUSED = true))
    ∧ ((s.listState j = listQueued ∨ s.listState j = listCompiling ∨ s.listState j = listArmed) →
        Answers (.abort m w) s (fun t => t.resp.status = .ok ∧ t.listState j = listFailed ∧ t.fld R.CUT_Lj_ERR_CODE j = failAborted
          ∧ t.latched (R.CUT_EVT_FAIL.plus j) = true))

/-- R198, R199, R205, R207, R211 to R213: the first change queued compiles and is ARMED or FAILED; an ARMED one that is stale compiles
again; at T − 2 it enters APPLYING, and the tick after its last chunk it is DONE. -/
def Obligations.ChangesRunTheirCourse : Prop :=
  ∀ (s : State) (c : Change) (j : Nat), j < 2 →
    (s.chg = none → s.scnQ = [] → s.flag R.TLY_REKEY_MAP = false → firstQueued s.queued = some c →
        Answers .compileStart s (fun t => c ∉ t.queued ∧ t.chg = some { c with state := .compiling, began := s.frame }))
    ∧ (∀ res tap, s.chg = some c → c.state = .compiling → c.kind = .list j → c.applyAt = none →
        compileChange (s.compileEnv c) (s.schedAt (frameAdd s.frame 2)) s.tap (recordLimit c.kind) (s.changeRecs c) = .ok (res, tap) →
        Answers .compileDone s (fun t => t.listState j = listArmed ∧ t.latched (R.CUT_EVT_ARMED.plus j) = true
          ∧ ∃ d, t.chg = some d ∧ d.kind = .list j ∧ d.state = .armed ∧ d.results = res.map (·.1) ∧ d.armedAt = s.frame
              ∧ d.cseq = s.fld R.DEV_COMMIT_SEQ_CSEQ))
    ∧ (∀ e, s.chg = some c → c.state = .compiling → c.kind = .list j → c.applyAt = none →
        compileChange (s.compileEnv c) (s.schedAt (frameAdd s.frame 2)) s.tap (recordLimit c.kind) (s.changeRecs c) = .error e →
        Answers .compileDone s (fun t => t.listState j = listFailed ∧ t.latched (R.CUT_EVT_FAIL.plus j) = true ∧ t.chg = none
          ∧ t.fld R.CUT_Lj_ERR_CODE j = e.code % 2 ^ R.CUT_Lj_ERR_CODE.width))
    ∧ (s.chg = some c → c.state = .armed → c.stale = true →
        Answers .recompile s (fun t => t.latched R.CUT_EVT_STALE = true ∧ ∃ d, t.chg = some d ∧ d.kind = c.kind ∧ d.state = .compiling
          ∧ d.results = [] ∧ d.took = [] ∧ d.frame = c.frame))
    ∧ (∀ f, s.chg = some c → c.frame = some f → c.state = .armed → c.stale = false → frameReached (frameAdd s.frame 2) f = true →
        Answers .applyStart s (fun t => t.chg = some { c with state := .applying }
          ∧ (c.kind = .list j → t.listState j = listApplying)))
    ∧ (∀ f, s.chg = some c → c.frame = some f → c.state = .compiling → frameReached (frameAdd s.frame 2) f = true → c.kind = .list j →
        Answers .applyStart s (fun t => t.chg = none ∧ t.listState j = listFailed ∧ t.fld R.CUT_Lj_ERR_CODE j = failLate))
    ∧ (∀ f, s.chg = some c → c.frame = some f → c.state = .compiling → frameReached (frameAdd s.frame 2) f = true → c.defers = true →
        Answers .applyStart s (fun t => t.chg = some { c with frame := none }))
    ∧ (s.chg = some c → c.state = .applying → c.done = c.results.length → frameReached s.frame (frameAdd (c.frame.getD 0) c.done) = true →
        Answers .changeDone s (fun t => t.chg = none ∧ t.sched = s.sched
          ∧ (c.kind = .list j → t.listState j = listDone ∧ t.latched (R.CUT_EVT_DONE.plus j) = true)))

/-- R208, R219, R221: at frame T + k chunk k of the change that applies, or step k of a re-placement, replaces the schedule, the map and the bents'
deskews whole. -/
def Obligations.ChunksReplaceTheSchedule : Prop :=
  ∀ (s : State) (c : Change) (k : Nat), s.chunkDue = some (c, k) →
    (k = 0 → c.kind ≠ .replacement → Answers .applyTick s (fun t => t.sched = c.results.getD 0 s.sched
        ∧ t.chg = some { c with done := 1 }))
    ∧ (0 < k → c.kind ≠ .replacement → Answers .chunkApply s (fun t => t.sched = c.results.getD k s.sched
        ∧ t.chg = some { c with done := k + 1 }))
    ∧ (c.kind = .replacement → Answers .replaceStep s (fun t => t.sched = c.results.getD k s.sched
        ∧ t.chg = some { c with done := k + 1 } ∧ t.fld R.SCB_REPL_STAT_STEP = (k + 1) % 2 ^ R.SCB_REPL_STAT_STEP.width))

/-- R209, R210, R215 to R218, R221: a scene is triggered by a GO or by a selected defect, queued at its tick or dropped, and starts
compiling before any list; a re-placement is queued; a staging write stores its word while the list is at rest. -/
def Obligations.ScenesAndStaging : Prop :=
  ∀ (m : Master) (w : Word) (s : State),
    (s.accepts m RN.CUT_SCN_CMD 0 = true → s.mayChange = true →
        Answers (.sceneGo m w) s (fun t => t.resp.status = .ok ∧ t.scnTrig = s.scnTrig ++ [(frameAdd s.frame 1, w.toNat % 256)]))
    ∧ (∀ (k : Fin 256) (d : Defect) (b : Nat), d.sceneBit = some b → s.mayChange = true → s.flag R.CUT_SCNn_TRIG_EN k = true →
        s.flag R.CUT_SCNn_TRIG_PRIMED k = true → s.declared (s.fld R.CUT_SCNn_TRIG_LANE k) d = true →
        (s.fld R.CUT_SCNn_TRIG_DEFECTS k).testBit b = true →
        Answers (.sceneDefectTrigger k) s (fun t => t.flag R.CUT_SCNn_TRIG_PRIMED k = false
          ∧ t.scnTrig = s.scnTrig ++ [(frameAdd s.frame 1, k.val)]))
    ∧ (∀ x, s.firstTrigger = some x → s.scnQ.length < 16 → x.2 ∉ s.scnQ →
        Answers .sceneQueue s (fun t => t.scnQ = s.scnQ ++ [x.2] ∧ t.scnTrig = s.scnTrig.erase x))
    ∧ (∀ x, s.firstTrigger = some x → (16 ≤ s.scnQ.length ∨ x.2 ∈ s.scnQ) →
        Answers .sceneQueue s (fun t => t.scnQ = s.scnQ ∧ t.latched R.CUT_EVT_SCN_DROP = true))
    ∧ (∀ n rest, s.scnQ = n :: rest → s.flag R.TLY_REKEY_MAP = false → s.flag R.TLY_REKEY_SCENES = false → s.chg = none →
        s.fld R.CUT_SCNn_LEN_LEN n ≠ 0 →
        Answers .sceneStart s (fun t => t.scnQ = rest ∧ ∃ d, t.chg = some d ∧ d.kind = .scene n ∧ d.state = .compiling))
    ∧ (∀ n rest, s.scnQ = n :: rest → s.flag R.TLY_REKEY_MAP = false → s.flag R.TLY_REKEY_SCENES = false → s.chg = none →
        s.fld R.CUT_SCNn_LEN_LEN n = 0 →
        Answers .sceneStart s (fun t => t.scnQ = rest ∧ t.chg = none ∧ t.fld R.CUT_SCN_ERR_CODE = failLen
          ∧ t.latched R.CUT_EVT_SCN_FAIL = true))
    ∧ (s.accepts m RN.SCB_REPL_CTRL 0 = true → s.mayChange = true → s.fld R.SCB_REPL_STAT_STATE = 0 →
        Answers (.replaceGo m w) s (fun t => t.resp.status = .ok ∧ t.fld R.SCB_REPL_STAT_STATE = 1
          ∧ t.queued = s.queued ++ [{ kind := .replacement, since := s.frame }]))
    ∧ (∀ (a : BitVec 40) j, stagingList a.toNat = some j → a.toNat % 4 = 0 → s.judge m a.toNat false true = .ok →
        s.listAtRest j = true → s.MemWf →
        Answers (.stagingWrite m a w) s (fun t => t.resp.status = .ok ∧ StoresAt s t a.toNat (leBytes 4 w.toNat)))
    ∧ (∀ (a : BitVec 40) j, stagingList a.toNat = some j → a.toNat % 4 = 0 → s.judge m a.toNat false true = .ok →
        s.listAtRest j = false →
        Answers (.stagingWrite m a w) s (fun t => t.mem = s.mem ∧ t.latched R.CUT_EVT_STAGE_BUSY = true))

/-! ### Scarf groups (chapter 7) -/

/-- R241 to R243, R246: at the end of a window of 8 frames a group in AUTO takes the state that its table gives, after a commit of that tick
has acted, and a group in another mode keeps its state; within a window nothing changes. A wait that has run out returns the group to HOME, one that
has not goes on; WTR_CLEAR ends the wait at the next tick, and does nothing where none runs. -/
def Obligations.ScarfGroupsMove : Prop :=
  ∀ (g : GroupIx) (s : State),
    (s.frame % 8 = 0 → s.sampled = none → (s.groups.get g.val {}).evaluated ≠ some s.frame → s.groupState g.val ≠ groupEmpty → s.groupMode g.val = modeAuto →
        Answers (.scarfWindowEval g) s (fun t => (t.groups.get g.val {}).evaluated = some s.frame
          ∧ t.groupState g.val = autoNext (s.groupState g.val) (t.degraded g.val (s.groupHomeSide g.val))
              (t.degraded g.val (1 - s.groupHomeSide g.val)) (s.flag R.SCF_GCFG_REVERT g.val)))
    ∧ (s.frame % 8 = 0 → s.sampled = none → s.groupMode g.val ≠ modeAuto →
        Answers (.scarfWindowEval g) s (fun t => t.groupState g.val = s.groupState g.val))
    ∧ (s.frame % 8 ≠ 0 → Answers (.scarfWindowEval g) s (fun t => t = s))
    ∧ (s.frame % 8 = 0 → Answers (.scarfWindowEval g) s (fun t => ∃ u, exec .commitApply s = .next u ∧ u.sampled = none
        ∧ (s.sampled.all (fun v => (v.find R.DEV_FRAME_FRAME.id).isNone) = true → u.frame = s.frame)
        ∧ exec (.scarfWindowEval g) u = .next t))
    ∧ (s.frame % 8 ≠ 0 → s.groupState g.val = groupWtr → s.fld R.SCF_GWTR_REMAIN g.val = 0 → s.frame ≠ (s.groups.get g.val {}).wtrFrom →
        Answers (.scarfWtrExpiry g) s (fun t => t.groupState g.val = groupHome ∧ t.fld R.SCF_GWTR_REMAIN g.val = 0
          ∧ t.latched R.SCF_GEVT_WTR_DONE g.val = true))
    ∧ (s.frame % 8 ≠ 0 → s.groupState g.val = groupWtr → s.fld R.SCF_GWTR_REMAIN g.val ≠ 0 → Answers (.scarfWtrExpiry g) s (fun t => t = s))
    ∧ (∀ (m : Master) (w : Word), s.accepts m RN.SCF_GCFG g.val = true →
        Answers (.wtrClear m g w) s (fun t => t.resp.status = .ok ∧ t.groupState g.val = s.groupState g.val
          ∧ t.fld R.SCF_GWTR_REMAIN g.val
            = if s.groupState g.val = groupWtr then min 1 (s.fld R.SCF_GWTR_REMAIN g.val) else s.fld R.SCF_GWTR_REMAIN g.val))

/-! ### Plumb (chapter 8) -/

/-- R260, R261, R263: a failure condition takes a reference from QUALIFIED to HOLDOFF; a condition still present when HOLDOFF runs out
disqualifies it; with activity and frequency good it is QUALIFIED again from HOLDOFF, and what a coast on a ball input has gathered is
slewed (R278); with no condition left it waits from DISQUALIFIED; a wait that has been served qualifies it. Which conditions count at each of these, and
what a coast gathers, are DEDUCED (log entries 10 and 41). -/
def Obligations.ReferencesQualify : Prop :=
  ∀ (i : RefIx) (mon : RefMon) (s : State), s.flag R.PLB_REFi_CFG_EN i = true →
    (s.monFails i mon ≠ some false →
        Answers (.refFailure i mon) s (fun t => t.flag (monFld mon) i = false
          ∧ t.fld R.PLB_REFi_STAT_QUAL i = (if s.refQualified i then qualHoldoff else qualDisq)
          ∧ (s.flag (monFld mon) i = true → t.latched (monEv mon) i = true)))
    ∧ (s.fld R.PLB_REFi_STAT_QUAL i = qualHoldoff → 800 * s.fld R.PLB_TIMERS_HOLDOFF ≤ s.sinceFrame (s.refSt i).holdFrom →
        Answers (.refHoldoffExpiry i) s (fun t => t.latched R.PLB_REFi_EVT_DISQUAL i = true
          ∧ t.fld R.PLB_REFi_STAT_QUAL i = (if s.refClean i then qualWait else qualDisq)))
    ∧ (∀ g : Word, s.monFails i mon ≠ some true →
        Answers (.refConditionClear i mon g) s (fun t => t.flag (monFld mon) i = true
          ∧ (s.fld R.PLB_REFi_STAT_QUAL i = qualHoldoff →
              t.fld R.PLB_REFi_STAT_QUAL i = (if t.refSound i then qualYes else qualHoldoff)
              ∧ (t.refSound i = true → s.plb = plbLocked → s.plbSel = i.val → s.flag R.PLB_STATUS_COAST = true → i.val < 8 →
                  t.plumb.slew = s.plumb.slew + g.toInt))
          ∧ (s.fld R.PLB_REFi_STAT_QUAL i = qualDisq → t.fld R.PLB_REFi_STAT_QUAL i = (if t.refClean i then qualWait else qualDisq))
          ∧ (s.fld R.PLB_REFi_STAT_QUAL i ≠ qualHoldoff → s.fld R.PLB_REFi_STAT_QUAL i ≠ qualDisq →
              t.fld R.PLB_REFi_STAT_QUAL i = s.fld R.PLB_REFi_STAT_QUAL i)))
    ∧ (s.fld R.PLB_REFi_STAT_QUAL i = qualWait → 8000 * (s.refSt i).waitLen ≤ s.sinceFrame (s.refSt i).waitFrom →
        Answers (.refWtrExpiry i) s (fun t => t.fld R.PLB_REFi_STAT_QUAL i = qualYes ∧ t.fld R.PLB_REFi_WTR_REMAIN i = 0
          ∧ t.latched R.PLB_REFi_EVT_QUALIFY i = true))

/-- R262, R279: a step of the frame edge beyond PJ_LIM is recorded; on the reference in use in LOCKED it joins BUILDOUT, and the tick does
not move, and on one that the DPLL follows towards lock it joins the slew (DEDUCED: log entry 41); the third within 60 s disqualifies the
reference; a smaller step does nothing. -/
def Obligations.PhaseJumps : Prop :=
  ∀ (i : RefIx) (size : Word) (s : State), s.flag R.PLB_REFi_CFG_EN i = true →
    (1024 * s.fld R.PLB_REFi_MON_PJ_LIM i < size.toInt.natAbs →
        Answers (.phaseJump i size) s (fun t => t.fld R.PLB_REFi_JUMP_VALUE i = size.toNat
          ∧ t.latched R.PLB_REFi_EVT_PHASE_JUMP i = true ∧ s.frame ∈ (t.refSt i).jumps
          ∧ t.fld R.PLB_BUILDOUT_VALUE = (if s.plb = plbLocked ∧ s.plbSel = i.val
              then toWord 32 (s.ifld R.PLB_BUILDOUT_VALUE + size.toInt) else s.fld R.PLB_BUILDOUT_VALUE)
          ∧ t.plumb.slew = (if s.following = true ∧ s.plb ≠ plbLocked ∧ s.plbSel = i.val then s.plumb.slew + size.toInt else s.plumb.slew)
          ∧ (s.refQualified i = true → 2 ≤ ((s.refSt i).jumps.filter (fun f => decide (s.sinceFrame f < 480000))).length →
              t.refQualified i = false ∧ t.latched R.PLB_REFi_EVT_DISQUAL i = true)))
    ∧ (size.toInt.natAbs ≤ 1024 * s.fld R.PLB_REFi_MON_PJ_LIM i → Answers (.phaseJump i size) s (fun t => t = s))

/-- R268, R279, R282: FORCE, MANUAL and CLEAR wait for the next tick; REALIGN slews BUILDOUT to 0 in LOCKED, and does nothing elsewhere;
LEARN_RESET makes the model invalid and marks every record EXCLUDED. -/
def Obligations.PlumbCommands : Prop :=
  ∀ (m : Master) (w : Word) (s : State), s.accepts m RN.PLB_CTRL 0 = true → w.toNat.testBit 8 = false → w.toNat.testBit 9 = false →
    Answers (.force m w) s (fun t => t.resp.status = .ok ∧ t.plumb.cmd = some (1, bits w.toNat 4 4))
    ∧ Answers (.manual m w) s (fun t => t.resp.status = .ok ∧ t.plumb.cmd = some (2, bits w.toNat 4 4))
    ∧ Answers (.clear m w) s (fun t => t.resp.status = .ok ∧ t.plumb.cmd = some (3, bits w.toNat 4 4))
    ∧ Answers (.realign m w) s (fun t => t.resp.status = .ok
        ∧ t.plumb.realign = if s.plb = plbLocked then s.fld R.PLB_BUILDOUT_VALUE != 0 else s.plumb.realign)
    ∧ Answers (.learnReset m w) s (fun t => t.resp.status = .ok ∧ t.flag R.PLB_STATUS_MODEL_VALID = false
        ∧ t.flag R.PLB_HOLD_STAT_VALID = false ∧ t.fld R.PLB_HOLD_STAT_RECORDS = 0
        ∧ (s.MemWf → ∀ k ∈ s.histEntries, (t.readHist k).flags.testBit 1 = true))

/-- R271 to R274, R280, R294: the hold of BRIDGING ends after BRIDGE frames and, for a 1 PPS target, its third pulse, when ALIGN slews the
tick by Δ and BUILD_OUT keeps Δ; a capture whose error has stayed within LOCK_WIN long enough enters LOCKED; HOLDOVER expires after HOLD_MAX
hours; the end of an epoch writes one record into the history ring. -/
def Obligations.PlumbMoves : Prop :=
  ∀ s : State,
    (∀ (delta : Word) (pps : Fin 8000) (d : Int), s.holdOver pps.val = true → d = s.holdDelta delta.toInt →
        Answers (.bridgeHoldEnd delta pps) s (fun t => t.flag R.PLB_STATUS_BRIDGE = true ∧ t.plb = plbBridging ∧ t.plumb.capFrom = s.frame
          ∧ (s.isPps s.plbSel = true → t.fld R.PLB_PPS_PHASE = pps.val)
          ∧ if s.flag R.PLB_CFG_SWITCH then t.fld R.PLB_BUILDOUT_VALUE = toWord 32 d ∧ t.plumb.slew = 0 ∧ t.fld R.PLB_PHASE_ERR_VALUE = 0
            else t.fld R.PLB_BUILDOUT_VALUE = 0 ∧ t.plumb.slew = d ∧ t.fld R.PLB_PHASE_ERR_VALUE = toWord 32 d))
    ∧ ((s.plb = plbAcquiring ∨ (s.plb = plbBridging ∧ s.flag R.PLB_STATUS_BRIDGE = true)) →
        (if s.isPps s.plbSel then 8 else 8000) ≤ s.plumb.winRun →
        Answers .captureComplete s (fun t => t.plb = plbLocked ∧ t.fld R.PLB_STATUS_LAST_REF = s.plbSel % 16
          ∧ t.flag R.PLB_STATUS_BRIDGE = false ∧ t.latched R.PLB_EVT_STATE_CHANGE = true
          ∧ (s.plumb.enWait = true → t.fld R.PLB_REFi_STAT_QUAL s.plbSel = qualDisq)))
    ∧ (s.plb = plbHoldover → 28800000 * s.fld R.PLB_HOLD_CFG_HOLD_MAX ≤ s.plumb.holdTicks →
        Answers .holdoverExpire s (fun t => t.plb = plbExpired ∧ t.plbSel = 0xF ∧ t.latched R.PLB_EVT_HOLD_EXPIRED = true))
    ∧ (∀ e : EpochMeas, s.plb ≠ plbOff → s.frame % 800000 = 0 → s.plumb.epochEnd ≠ some s.frame → s.MemWf →
        Answers (.epochEnd e) s (fun t => t.plumb.epoch = (s.plumb.epoch + 1) % 2 ^ 32 ∧ t.plumb.epochEnd = some s.frame
          ∧ t.fld R.PLB_HIST_IDX_NEXT = (s.fld R.PLB_HIST_IDX_NEXT + 1) % 2 ^ 14
          ∧ t.fld R.PLB_HOLD_T0_TNOW = e.now.toNat
          ∧ (s.fld R.PLB_HIST_BASE_BASE ≠ 0 → t.readBytes (s.histAddr (s.fld R.PLB_HIST_IDX_NEXT)) 11
              = leBytes 4 s.plumb.epoch ++ leBytes 5 (toWord 40 e.freq.toInt) ++ leBytes 2 (toWord 16 e.temp.toInt))))

/-- R288, R289, R465: a core that fails its self-check is tested, and the shadow takes the place of a failed active core; a mismatch is
counted, and three in 24 h test the shadow; the shadow restarts from the active core's state; a core that fails its test is retired, one
that passes becomes the shadow 8,000 frames later, or under R465 the active core at the next tick. -/
def Obligations.CoresAreTested : Prop :=
  ∀ s : State,
    (s.flag R.PLB_STATUS_SHADOW_OK = true → Answers (.dpllSwap false) s (fun t => t.flag R.PLB_STATUS_SHADOW_OK = false
        ∧ t.fld R.PLB_STATUS_DPLL = (1 - s.fld R.PLB_STATUS_DPLL) ∧ t.latched R.PLB_EVT_DPLL_SWAP = true ∧ t.plumb.test = 1
        ∧ t.latched R.TLY_EVT_SUBST_DONE = true))
    ∧ (s.flag R.PLB_STATUS_SHADOW_OK = true → Answers (.dpllSwap true) s (fun t => t.flag R.PLB_STATUS_SHADOW_OK = false
        ∧ t.fld R.PLB_STATUS_DPLL = s.fld R.PLB_STATUS_DPLL ∧ t.plumb.test = 1))
    ∧ (∀ f, s.plumb.restart = some f → frameReached s.frame f = true →
        Answers .shadowRestore s (fun t => t.flag R.PLB_STATUS_SHADOW_OK = true ∧ t.plumb.restart = none))
    ∧ (s.flag R.PLB_STATUS_SHADOW_OK = true → Answers .dpllMismatch s (fun t => t.latched R.PLB_EVT_DPLL_MISMATCH = true
        ∧ t.plumb.mismatches.head? = some s.frame ∧ t.core (1 - s.fld R.PLB_STATUS_DPLL) = s.core (s.fld R.PLB_STATUS_DPLL)))
    ∧ (s.flag R.PLB_STATUS_SHADOW_OK = true → 3 ≤ (s.plumb.mismatches.filter (fun f => decide (s.sinceFrame f < 691200000))).length →
        Answers .dpllTestTrigger s (fun t => t.flag R.PLB_STATUS_SHADOW_OK = false ∧ t.plumb.test = 2
          ∧ t.fld R.PLB_STATUS_DPLL = s.fld R.PLB_STATUS_DPLL))
    ∧ (s.plumb.test ≠ 0 → s.plumb.test ≠ 4 → Answers (.dpllBuiltInTestDone false) s (fun t => t.flag R.PLB_STATUS_SHADOW_OK = false
        ∧ t.latched R.PLB_EVT_SHADOW_FAIL = true ∧ t.plumb.test = 0))
    ∧ (s.plumb.test = 1 → Answers (.dpllBuiltInTestDone true) s (fun t => t.plumb.restart = some (frameAdd s.frame 8000)
        ∧ t.plumb.test = 0 ∧ t.core (1 - s.fld R.PLB_STATUS_DPLL) = s.core (s.fld R.PLB_STATUS_DPLL)))
    ∧ (s.plumb.test = 2 → Answers (.dpllBuiltInTestDone true) s (fun t => t.fld R.PLB_STATUS_DPLL = s.fld R.PLB_STATUS_DPLL
        ∧ t.plumb.test = 4 ∧ t.tickSwap.fld R.PLB_STATUS_DPLL = 1 - s.fld R.PLB_STATUS_DPLL ∧ t.tickSwap.plumb.test = 3))
    ∧ (s.flag R.PLB_STATUS_SHADOW_OK = false → Answers (.dpllSwap false) s (fun t => t.latched R.TLY_EVT_SPARE_EXHAUSTED = true
        ∧ t.fld R.PLB_STATUS_DPLL = s.fld R.PLB_STATUS_DPLL))
    ∧ (s.plumb.test = 3 → Answers (.dpllBuiltInTestDone true) s (fun t => t.latched R.TLY_EVT_DPLL_UNRESOLVED = true
        ∧ t.plumb.restart = some (frameAdd s.frame 8000) ∧ t.plumb.test = 0))


/-! ### Register space: reads, writes and views (chapters 1, 11 and 12) -/

/-- R8, R9, R10: a word written to a register that stands alone and has no action is taken by each of its parts by their access types,
whichever port writes it through the privileged view, and nothing else of the whole state changes but the matrix's park, what the masters hold for
themselves, and the PCIe ports' edges. -/
def Obligations.WritesFollowTheirTypes : Prop :=
  ∀ (m : Master) (v : View) (w : Word) (s : State) (a : Nat) (b : Bool) (r : Reg) (i : Nat),
    s.viewAddr m v = .inl (a, b) → place a = .reg a → a % 4 = 0 → s.judge m a b true = .ok → s.mirrors m = false → findReg a = some (r, i) →
    r.half = .single → actingReg r.id = false → s.regFree r.id i = true →
    Answers (.registerWrite m v w) s (fun t => t.resp.status = .ok ∧ (∀ c ∈ r.slices, c.Takes m r.id i w.toNat s t)
      ∧ Framed { fields := R.MTX_STAT_PARK :: r.slices.map Slice.fld, parts := [.staged, .perMaster, .resp, .pcie] } s t)

/-- R385: a dropped write changes nothing but DROP_CNT, DROP_LAST and NONOWNER_WRITE, and takes exactly one record of the event log; a write
that decodes to the default target, or that is not aligned, is no dropped write. -/
def Obligations.DroppedWrites : Prop :=
  (∀ (m : Master) (p : Nat) (v : View) (w : Word) (s : State) (a : Nat) (b : Bool),
    portOfMaster m = some p → s.viewAddr m v = .inl (a, b) → misaligned a (place a) = false → s.judge m a b true = .dropped →
    Answers (.registerWrite m v w) s (fun t => t.resp.status = .dropped
      ∧ t.fld R.MGT_DROP_CNT_COUNT = satAdd 0xFFFFFFFF (s.fld R.MGT_DROP_CNT_COUNT) 1
      ∧ t.fld R.MGT_DROP_LAST_ADDR = a % 2 ^ 40 ∧ t.fld R.MGT_DROP_LAST_HI_PORT = p
      ∧ t.latched R.MGT_EVT_NONOWNER_WRITE = true
      ∧ (∃ e, t.logQ = s.logQ ++ [e] ∧ e.inst = p ∧ e.data = a % 2 ^ 32)
      ∧ OnlyRegs [R.MGT_DROP_CNT_COUNT, R.MGT_DROP_LAST_ADDR, R.MGT_DROP_LAST_HI_PORT, R.MGT_EVT] [.ringQ, .logQ] s t))
  ∧ (∀ (m : Master) (p : Nat) (v : View) (w : Word) (s : State) (a : Nat) (b : Bool),
    portOfMaster m = some p → s.viewAddr m v = .inl (a, b) →
    (s.judge m a b true = .default ∨ (misaligned a (place a) = true ∧ s.judge m a b true = .dropped)) →
    Answers (.registerWrite m v w) s (fun t => t.resp.status = .error ∧ t.fld R.MGT_DROP_CNT_COUNT = s.fld R.MGT_DROP_CNT_COUNT
      ∧ t.latched R.MGT_EVT_NONOWNER_WRITE = s.latched R.MGT_EVT_NONOWNER_WRITE ∧ t.latched R.MTX_EVT_DEFAULT_HIT = true))

/-- R376, R406: a write of the unprivileged view outside the MSI-X table completes as an access to the default target, and changes nothing else; a
read there of the low half of a pair returns what the same register reads in the privileged view. -/
def Obligations.UnprivilegedView : Prop :=
  ∀ (m : Master) (x : BitVec 24) (s : State), (portOfMaster m).isSome = true → s.served = true → s.recovery = false →
    (∀ w : Word, (∀ k, openPlace x.toNat ≠ .msixTable k) →
        Answers (.registerWrite m (.unpriv x) w) s (fun t => t.resp.status = .error ∧ t.latched R.MTX_EVT_DEFAULT_HIT = true
          ∧ t.fld R.MTX_ERR_HI_MASTER = m.val ∧ t.fld R.MTX_ERR_HI_TARGET = 0xA
          ∧ OnlyRegs [R.MTX_ERR_ADDR, R.MTX_ERR_HI_MASTER, R.MTX_ERR_HI_TARGET, R.MTX_ERR_HI_KIND, R.MTX_EVT] [.ringQ, .logQ, .pcie] s t))
    ∧ (∀ off r i, openPlace x.toNat = .reg off → x.toNat % 4 = 0 → findReg off = some (r, i) → r.half = .low →
        actingReg r.id = false → r.id ≠ RN.DEV_FRAME → r.id ≠ RN.BNT_MSRC → r.id ≠ RN.SCB_MREC_W → r.id ≠ RN.CNT_Bc_LO →
        r.id ≠ RN.CNT_Bc_SN_LO → r.id ≠ RN.PEG_REC →
        Answers (.pairLowRead m (.unpriv x)) s (fun t => t.reads [(s.park m (.reg off)).regWord m r i]
          ∧ t.latchedHigh m (off + 4) = (s.park m (.reg off)).wordAt m (off + 4)))

/-- R12, R13, R41: a read of the low half of a pair latches the high half for the reading master, and its next read of the high half returns that; a
write of a low half is held and changes no register until the same master writes the high half; a read of DEV_FRAME latches the core cycle. -/
def Obligations.PairsLatch : Prop :=
  ∀ (m : Master) (v : View) (s : State) (a : Nat) (b : Bool) (r : Reg) (i : Nat),
    s.viewAddr m v = .inl (a, b) → place a = .reg a → a % 4 = 0 → findReg a = some (r, i) →
    (s.judge m a b false = .ok → r.half = .low → r.id ≠ RN.DEV_FRAME → r.id ≠ RN.BNT_MSRC → r.id ≠ RN.SCB_MREC_W → r.id ≠ RN.CNT_Bc_LO →
        r.id ≠ RN.CNT_Bc_SN_LO → r.id ≠ RN.PEG_REC →
        Answers (.pairLowRead m v) s (fun t => t.reads [(s.park m (.reg a)).regWord m r i]
          ∧ t.latchedHigh m (a + 4) = (s.park m (.reg a)).wordAt m (a + 4)))
    ∧ (s.judge m a b false = .ok → r.half = .high → r.id ≠ RN.DEV_FRAME → r.id ≠ RN.BNT_MSRC → r.id ≠ RN.SCB_MREC_W → r.id ≠ RN.CNT_Bc_LO →
        r.id ≠ RN.CNT_Bc_SN_LO → r.id ≠ RN.PEG_REC → Answers (.pairLowRead m v) s (fun t => t.reads [s.latchedHigh m a]))
    ∧ (∀ w : Word, s.judge m a b true = .ok → s.regFree r.id i = true → r.half = .low →
        Answers (.pairLowWrite m v w) s (fun t => t.resp.status = .ok ∧ t.heldAt m a = some w.toNat
          ∧ OnlyRegs [R.MTX_STAT_PARK] [.heldLow] s t))
    ∧ (∀ (w : Word) (q : Reg) (l : Nat), s.judge m a b true = .ok → s.mirrors m = false → s.regFree r.id i = true → r.half = .high →
        actingReg r.id = false → findReg (a - 4) = some (q, i) → s.heldAt m (a - 4) = some l → q.half = .low →
        Answers (.pairHighWrite m v w) s (fun t => t.resp.status = .ok ∧ t.heldAt m (a - 4) = none
          ∧ (∀ c ∈ q.slices, c.Takes m q.id i l s t) ∧ (∀ c ∈ r.slices, c.Takes m r.id i w.toNat s t)))
    ∧ (∀ c : Fin 165888, s.serves m RN.DEV_FRAME 0 = true →
        Answers (.devFrameRead m c) s (fun t => t.reads [s.frame] ∧ t.frameCycle.get m 0 = c.val))

/-- R162, R191, R194, R224, R250, R445, R455: what a read of a member, of the diagnostic window, of the logical map, of a merged record, of
the grain scan, of a bank counter and of the oldest peg returns, and what it latches for its master. -/
def Obligations.LatchingReads : Prop :=
  ∀ (m : Master) (s : State),
    (∀ b : BentIx, s.serves m RN.BNT_MSRC b = true → Answers (.memberRead m b) s (fun t => t.reads [(s.memberWords m b).getD 0 0]
        ∧ (t.mdlyHeld.get b {}).get m [] = (s.memberWords m b).drop 1))
    ∧ (∀ (a : BitVec 40) (off : Nat), place a.toNat = .diag off → s.judge m a.toNat false false = .ok → a.toNat % 4 = 0 →
        Answers (.diagWindowRead m a) s (fun t => t.reads [(s.diagEntry off).getD 0] ∧ t.mem = s.mem ∧ t.regs = s.regs))
    ∧ (∀ (a : BitVec 40) (off : Nat), place a.toNat = .map off → s.judge m a.toNat false false = .ok → a.toNat % 4 = 0 → off % 8 = 0 →
        Answers (.logicalMapRead m a false) s (fun t => t.reads [s.mapEntry (off / 8) % 2 ^ 32]
          ∧ t.latchedHigh m (0x100000000 + off + 4) = s.mapEntry (off / 8) / 2 ^ 32))
    ∧ (∀ (a : BitVec 40) (off : Nat), place a.toNat = .map off → s.judge m a.toNat false false = .ok → a.toNat % 4 = 0 → off % 8 ≠ 0 →
        Answers (.logicalMapRead m a false) s (fun t => t.reads [s.latchedHigh m (0x100000000 + off)]))
    ∧ (∀ (a : BitVec 40) (off : Nat), place a.toNat = .map off → s.judge m a.toNat false false = .ok → off % 8 = 0 →
        Answers (.logicalMapRead m a true) s (fun t => t.reads [s.mapEntry (off / 8) % 2 ^ 32, s.mapEntry (off / 8) / 2 ^ 32]
          ∧ t.latHigh = s.latHigh))
    ∧ (s.serves m RN.SCB_MREC_W 0 = true → Answers (.mrecRead m) s (fun t => t.reads [(s.mrecWords m).getD 0 0]
        ∧ t.mrecHeld.get m [] = (s.mrecWords m).drop 1))
    ∧ (s.serves m RN.GRN_SCAN_RES 0 = true → Answers (.grainScanRead m) s (fun t => t.reads [s.scanWord m % 2 ^ 32]))
    ∧ (∀ (c : Fin 16384) (r : Reg) (a : Nat), s.serves m RN.CNT_Bc_LO c = true → regAddr RN.CNT_Bc_LO c = some (r, a) →
        (s.chainHeld.get m {}).find a = none → c.val < 16383 →
        Answers (.bankCounterRead m c) s (fun t => t.reads [(s.bankCycle c).bankShown c % 2 ^ 32]
          ∧ t.latchedHigh m (a + 4) = (s.bankCycle c).bankShown c / 2 ^ 32 % 2 ^ 16
          ∧ (s.flag R.CNT_Bc_CFG_CHAIN c = true → (t.chainHeld.get m {}).find (a + 16) = some ((s.bankCycle c).bankShown (c.val + 1) % 2 ^ 32))))
    ∧ (∀ c : Fin 16384, s.chainedBelow c = false →
        (s.fld R.CNT_Bc_CFG_SRC c ≠ 0xE → (s.fld R.CNT_Bc_CFG_SRC c ≠ 0xD ∨ s.plumb.tickDue = none) →
          s.bankCycle c = s ∧ s.bankShown c = s.fld R.CNT_Bc_COUNT c % 2 ^ 48)
        ∧ (s.fld R.CNT_Bc_CFG_SRC c = 0xE →
          s.bankShown c = (s.fld R.CNT_Bc_COUNT c + (s.cycleNow - s.plumb.cycFrom.get c 0)) % 2 ^ 48))
    ∧ (s.serves m RN.PEG_REC 0 = true → Answers (.pegRecRead m) s (fun t =>
        t.reads [(s.pegs.queue.headD (List.replicate 16 0)).getD 0 0]
          ∧ t.pegs.held.get m [] = s.pegs.queue.headD (List.replicate 16 0) ∧ t.pegs.queue = s.pegs.queue))


/-- R7, R374, R406, R412: an access that decodes to the default target, or whose width register space does not serve, ends with an error,
DEFAULT_HIT and MTX_ERR; a single-bit error of a scratchpad read, of a word, of some of its bytes or of a burst, through the matrix or a bank's own
port, is corrected and counted, a double-bit error ends the read; a target that does not respond gives TIMEOUT. The address that a view gives MTX_ERR,
that a burst's error is recorded where the burst begins, and what the own port answers are the model's choices (log entries 29 and 31). -/
def Obligations.AccessesThatFail : Prop :=
  ∀ (m : Master) (v : View) (s : State),
    (∀ write, s.decodesDefault m v write = true →
        Answers (.defaultAccess m v write .decode) s (fun t => t.resp.status = .error ∧ t.latched R.MTX_EVT_DEFAULT_HIT = true
          ∧ t.fld R.MTX_ERR_ADDR = s.viewNumber m v % 2 ^ 40 ∧ t.fld R.MTX_ERR_HI_MASTER = m.val ∧ t.fld R.MTX_ERR_HI_TARGET = 0xA
          ∧ t.fld R.MTX_ERR_HI_KIND = 0))
    ∧ (∀ write, s.badShape m v write = true →
        Answers (.defaultAccess m v write .shape) s (fun t => t.resp.status = .error ∧ t.latched R.MTX_EVT_DEFAULT_HIT = true ∧ t.mem = s.mem))
    ∧ (∀ a b, s.scratchRead m v false = some (a, b) → (∀ off, place a = .mailbox off → lockAt off = none) →
        Answers (.defaultAccess m v false .single) s (fun t => t.reads [s.readLe a 4] ∧ t.latched R.MEM_EVT_MEM_CORR = true
          ∧ t.fld R.MEM_CNT_COUNT 0 = (s.fld R.MEM_CNT_COUNT 0 + 1) % 2 ^ 48))
    ∧ (∀ a b, s.scratchRead m v false = some (a, b) →
        Answers (.defaultAccess m v false .double) s (fun t => t.resp.status = .error ∧ t.latched R.MEM_EVT_MEM_UNCORR = true
          ∧ t.fld R.MEM_ECC_LAST_ADDR = a % 2 ^ 40 ∧ t.fld R.MEM_CNT_COUNT 1 = (s.fld R.MEM_CNT_COUNT 1 + 1) % 2 ^ 48 ∧ t.mem = s.mem))
    ∧ (∀ a n, s.scratchRows m v false = some (a, n) →
        ((∀ (x : BitVec 40) be, v = .lanes x be → be ≠ 15) →
          Answers (.defaultAccess m v false .single) s (fun t => t.reads ((List.range n).map (fun i => s.storageWord (a + 4 * i)))
            ∧ t.latched R.MEM_EVT_MEM_CORR = true ∧ t.fld R.MEM_CNT_COUNT 0 = (s.fld R.MEM_CNT_COUNT 0 + 1) % 2 ^ 48 ∧ t.mem = s.mem))
        ∧ Answers (.defaultAccess m v false .double) s (fun t => t.resp.status = .error ∧ t.latched R.MEM_EVT_MEM_UNCORR = true
          ∧ t.fld R.MEM_ECC_LAST_ADDR = a % 2 ^ 40 ∧ t.fld R.MEM_CNT_COUNT 1 = (s.fld R.MEM_CNT_COUNT 1 + 1) % 2 ^ 48 ∧ t.mem = s.mem))
    ∧ (∀ a, s.localRead m v false = some a →
        Answers (.defaultAccess m v false .localSingle) s (fun t => t.reads [s.readLe a 4] ∧ t.latched R.MEM_EVT_MEM_CORR = true
          ∧ t.fld R.MEM_CNT_COUNT 0 = (s.fld R.MEM_CNT_COUNT 0 + 1) % 2 ^ 48 ∧ t.mem = s.mem)
        ∧ Answers (.defaultAccess m v false .localDouble) s (fun t => t.resp.status = .error ∧ t.latched R.MEM_EVT_MEM_UNCORR = true
          ∧ t.fld R.MEM_ECC_LAST_ADDR = a % 2 ^ 40 ∧ t.fld R.MEM_CNT_COUNT 1 = (s.fld R.MEM_CNT_COUNT 1 + 1) % 2 ^ 48 ∧ t.mem = s.mem))
    ∧ (∀ (a : BitVec 40) (target : Fin 10) (write : Bool),
        Answers (.matrixTimeout m a target write) s (fun t => t.resp.status = .timeout ∧ t.latched R.MTX_EVT_TIMEOUT = true
          ∧ t.fld R.MTX_ERR_ADDR = a.toNat ∧ t.fld R.MTX_ERR_HI_TARGET = target.val ∧ t.fld R.MTX_ERR_HI_KIND = 1 ∧ t.mem = s.mem))

/-- R407, R414, R415: a read that returns 0 takes the lock; the holder's write of 0 frees it, and any other write leaves it and latches
LOCK_VIOLATION; a burst reads the values and acquires nothing, and its write frees the holder's locks of which it leaves 0 and no other (DEDUCED: log
entry 29); the reset of a host port or a joiner frees every lock that it holds, and records its burst. -/
def Obligations.LocksAreHeld : Prop :=
  ∀ (m : Master) (k : Fin 64) (s : State), s.MemWf →
    (s.judge m (lockAddr k) false false = .ok → s.lockWord k = 0 →
        (∀ p, portOfMaster m = some p → s.portClass p = 2 ∧ (s.ownsNow p = true ∨ s.recovery = true)) →
        Answers (.lockAcquire m k) s (fun t => t.reads [0] ∧ StoresAt s t (lockAddr k) (leBytes 4 (m.val + 1))))
    ∧ (s.judge m (lockAddr k) false false = .ok → s.lockWord k ≠ 0 →
        Answers (.lockAcquire m k) s (fun t => t.reads [s.lockWord k] ∧ t.mem = s.mem))
    ∧ (∀ p, portOfMaster m = some p → s.judge m (lockAddr k) false false = .ok → s.ownsNow p = false → s.recovery = false →
        Answers (.lockAcquire m k) s (fun t => t.reads [s.lockWord k] ∧ t.mem = s.mem))
    ∧ (s.judge m (lockAddr k) false true = .ok → s.lockWord k = m.val + 1 →
        Answers (.lockRelease m k 0) s (fun t => t.resp.status = .ok ∧ StoresAt s t (lockAddr k) [0, 0, 0, 0]))
    ∧ (∀ w : Word, s.judge m (lockAddr k) false true = .ok → (w ≠ 0 ∨ s.lockWord k ≠ m.val + 1) →
        Answers (.lockRelease m k w) s (fun t => t.mem = s.mem ∧ t.latched R.MEM_EVT_LOCK_VIOLATION = true))
    ∧ (∀ (a : BitVec 40) (len : Fin 256), s.judge m a.toNat false false = .ok → (∃ o, place a.toNat = .mailbox o) →
        Answers (.pairLowRead m (.burst a len)) s (fun t => t.mem = s.mem
          ∧ t.reads ((List.range (4 * (len.val + 1))).map (fun i => s.readLe (a.toNat + 4 * i) 4))))
    ∧ (∀ (x : Beat), s.judge m (lockAddr k) false true = .ok → k.val % 4 = 0 →
        Answers (.registerWrite m (.burstWrite (BitVec.ofNat 40 (lockAddr k)) [x]) 0) s (fun t => ∀ i, i < 4 →
          t.lockWord (k.val + i) = (if bits x.be.toNat (4 * i) 4 ≠ 0 ∧ s.lockWord (k.val + i) = m.val + 1
              ∧ s.lockAfter (lockAddr k) 16 x.data.toNat x.be.toNat (k.val + i) = 0 then 0 else s.lockWord (k.val + i))
          ∧ (bits x.be.toNat (4 * i) 4 ≠ 0 → (s.lockWord (k.val + i) ≠ m.val + 1
              ∨ s.lockAfter (lockAddr k) 16 x.data.toNat x.be.toNat (k.val + i) ≠ 0) → t.latched R.MEM_EVT_LOCK_VIOLATION = true)))
    ∧ (8 ≤ m.val → ∀ b : Option Burst, Answers (.masterReset m b) s (fun t => t = s))
    ∧ (m.val < 8 → ∀ b : Option Burst, Answers (.masterReset m b) s (fun t => (∀ j, j < 64 → t.lockWord j = if s.lockWord j = m.val + 1 then 0 else s.lockWord j)
          ∧ (s.lockWord k = m.val + 1 → t.latched R.MEM_EVT_LOCK_BREAK = true)
          ∧ ∀ x, b = some x → t.fld R.MTX_ABORT_ADDR = x.addr.toNat ∧ t.fld R.MTX_ABORT_HI_MASTER = m.val % 16
              ∧ t.fld R.MTX_ABORT_HI_BEATS = (if x.write then x.beats.length % 256 else 0) ∧ t.latched R.MTX_EVT_RESET_ABORT = true))

/-- R377 to R379: a READ or UREAD makes LEN + 1 word accesses in ascending order, and returns the status byte and the words, 0 where one
failed; a WRITE makes its accesses in order; the status is that of the first access that is not OK; ID and STATUS answer at once; nothing is
accessed before P7. -/
def Obligations.SpiCommands : Prop :=
  ∀ (s : State) (len : Fin 64),
    (∀ (a : BitVec 40), s.spiServed = true → a.toNat % 4 = 0 → ∃ f : Nat → State, f 0 = s
        ∧ (∀ k, k ≤ len.val → f (k + 1) = (f k).readPriv spiMaster ((a.toNat + 4 * k) % 2 ^ 40) false)
        ∧ Answers (.read a len) s (fun t => t.resp.words.length = len.val + 2 ∧ t.resp.words.head? = some (t.spiByte t.resp.status)
          ∧ (∀ k, k ≤ len.val → t.resp.words.getD (k + 1) 0
              = if (f (k + 1)).resp.status = .ok then (f (k + 1)).resp.words.getD 0 0 else 0)
          ∧ ((∀ k, k ≤ len.val → (f (k + 1)).resp.status = .ok) → t.resp.status = .ok)
          ∧ (∀ k, k ≤ len.val → (∀ j, j < k → (f (j + 1)).resp.status = .ok) → (f (k + 1)).resp.status ≠ .ok →
              t.resp.status = (f (k + 1)).resp.status)))
    ∧ (∀ (x : BitVec 24), s.spiServed = true → x.toNat % 4 = 0 → ∃ f : Nat → State, f 0 = s
        ∧ (∀ k, k ≤ len.val → f (k + 1) = (f k).readOpen spiMaster ((x.toNat + 4 * k) % 2 ^ 24))
        ∧ Answers (.uread x len) s (fun t => t.resp.words.length = len.val + 2 ∧ ∀ k, k ≤ len.val → t.resp.words.getD (k + 1) 0
              = if (f (k + 1)).resp.status = .ok then (f (k + 1)).resp.words.getD 0 0 else 0))
    ∧ (∀ (a : BitVec 40) (ws : List Word), s.spiServed = true → a.toNat % 4 = 0 → len.val < ws.length → ∃ f : Nat → State, f 0 = s
        ∧ (∀ k, k ≤ len.val → f (k + 1) = (f k).hostWrite spiMaster ((a.toNat + 4 * k) % 2 ^ 40) (ws.getD k 0).toNat)
        ∧ Answers (.write a len ws) s (fun t => t.regs = (f (len.val + 1)).regs ∧ t.mem = (f (len.val + 1)).mem
          ∧ ((∀ k, k ≤ len.val → (f (k + 1)).resp.status = .ok) → t.resp.status = .ok)
          ∧ (∀ k, k ≤ len.val → (∀ j, j < k → (f (j + 1)).resp.status = .ok) → (f (k + 1)).resp.status ≠ .ok →
              t.resp.status = (f (k + 1)).resp.status)))
    ∧ (∀ (a : BitVec 40) (ws : List Word), s.spiServed = true → ws.length ≤ len.val →
        Answers (.write a len ws) s (fun t => t.mem = s.mem ∧ t.regs = s.regs))
    ∧ (∀ (a : BitVec 40), s.spiServed = true → a.toNat % 4 ≠ 0 →
        Answers (.read a len) s (fun t => t.resp.status = .format ∧ t.regs = s.regs ∧ t.mem = s.mem))
    ∧ (s.spiServed = true → Answers .id s (fun t => t.reads [s.regWordOf spiMaster RN.DEV_ID 0]))
    ∧ (s.spiServed = true → Answers .status s (fun t => t.reads [s.spiByte .ok]))
    ∧ (∀ (a : BitVec 40) (ws : List Word), s.spiServed = false →
        Answers (.read a len) s (fun t => t.resp.status = .notReady ∧ t.regs = s.regs ∧ t.mem = s.mem)
        ∧ Answers (.write a len ws) s (fun t => t.resp.status = .notReady ∧ t.regs = s.regs ∧ t.mem = s.mem)
        ∧ Answers .id s (fun t => t.resp.status = .notReady) ∧ Answers .status s (fun t => t.resp.status = .notReady))
    ∧ Answers .quad s (fun t => t.spiQuad = true ∧ t.regs = s.regs) ∧ Answers .single s (fun t => t.spiQuad = false ∧ t.regs = s.regs)

/-- R380: GO sends a request, one at a time, that completes at once with ERROR while no mate lane is in SERVICE, with the mate's answer, or with
TIMEOUT where none has come within 8 frames; a request of the mate is an access of master M7, and is refused in LOCKED (R483). -/
def Obligations.TheTunnel : Prop :=
  ∀ (m : Master) (w : Word) (s : State),
    (s.accepts m RN.MGT_TUN_CTRL 0 = true → s.fld R.MGT_TUN_STAT_STATE ≠ tunBusy → s.liveMates ≠ [] →
        Answers (.tunnelGo m w) s (fun t => t.resp.status = .ok ∧ t.fld R.MGT_TUN_STAT_STATE = tunBusy
          ∧ t.tunnel = some { since := s.frame, write := bit w.toNat 1 == 1, unpriv := bit w.toNat 2 == 1,
                              addr := s.fld R.MGT_TUN_ADDR_ADDR, data := s.fld R.MGT_TUN_DATA_DATA }))
    ∧ (s.accepts m RN.MGT_TUN_CTRL 0 = true → s.fld R.MGT_TUN_STAT_STATE ≠ tunBusy → s.liveMates = [] →
        Answers (.tunnelGo m w) s (fun t => t.fld R.MGT_TUN_STAT_STATE = tunDone ∧ t.fld R.MGT_TUN_STAT_RESULT = 1
          ∧ t.latched R.MGT_EVT_TUN_FAIL = true))
    ∧ (s.accepts m RN.MGT_TUN_CTRL 0 = true → s.fld R.MGT_TUN_STAT_STATE = tunBusy →
        Answers (.tunnelGo m w) s (fun t => t.tunnel = s.tunnel ∧ t.fld R.MGT_TUN_STAT_STATE = tunBusy))
    ∧ (∀ q (r : Fin 5) (d : Word), s.tunnel = some q → s.sinceFrame q.since < 9 →
        Answers (.tunnelDone (some (r, d))) s (fun t => t.tunnel = none ∧ t.fld R.MGT_TUN_STAT_STATE = tunDone
          ∧ t.fld R.MGT_TUN_STAT_RESULT = r.val ∧ (q.write = false → t.fld R.MGT_TUN_DATA_DATA = d.toNat)
          ∧ if r.val = 0 then t.latched R.MGT_EVT_TUN_DONE = true else t.latched R.MGT_EVT_TUN_FAIL = true))
    ∧ (∀ q answer, s.tunnel = some q → 9 ≤ s.sinceFrame q.since →
        Answers (.tunnelDone answer) s (fun t => t.tunnel = none ∧ t.fld R.MGT_TUN_STAT_RESULT = 5 ∧ t.latched R.MGT_EVT_TUN_FAIL = true
          ∧ t.fld R.MGT_TUN_DATA_DATA = s.fld R.MGT_TUN_DATA_DATA))
    ∧ (∀ (unpriv write : Bool) (a : BitVec 40), s.flag R.TLY_STAT_LOCKED = true →
        Answers (.tunnelRequest unpriv write a w) s (fun t => t.resp.status = .error ∧ t.regs = s.regs ∧ t.mem = s.mem))
    ∧ (∀ (a : BitVec 40), s.flag R.TLY_STAT_LOCKED = false → Answers (.tunnelRequest false true a w) s (fun t => exec (.registerWrite 7 (.priv a) w) s = .next t)
        ∧ Answers (.tunnelRequest false false a w) s (fun t => exec (.pairLowRead 7 (.priv a)) s = .next t)
        ∧ Answers (.tunnelRequest true true a w) s (fun t => exec (.registerWrite 7 (.unpriv (a.setWidth 24)) w) s = .next t)
        ∧ Answers (.tunnelRequest true false a w) s (fun t => exec (.pairLowRead 7 (.unpriv (a.setWidth 24))) s = .next t))

/-- R37, R42: GO starts a query for the first frame that begins after it, unless one is in progress; once that frame has begun the query
ends, with NOCONN or NOSIDE, or with L of the selected source's word and the lowest code of what holds. That the query answers for the SLOT and SIDE
that stand as it ends is the model's choice (log entry 63). -/
def Obligations.LatencyQueries : Prop :=
  ∀ (m : Master) (w : Word) (s : State),
    (s.accepts m RN.DEV_LATQ_CTRL 0 = true → s.fld R.DEV_LATQ_STATUS_STATE ≠ latqBusy →
        Answers (.latqGo m w) s (fun t => t.resp.status = .ok ∧ t.fld R.DEV_LATQ_STATUS_STATE = latqBusy
          ∧ t.fld R.DEV_LATQ_STATUS_MASTER = m.val % 2 ^ R.DEV_LATQ_STATUS_MASTER.width
          ∧ t.fld R.DEV_LATQ_STATUS_QSEQ = (s.fld R.DEV_LATQ_STATUS_QSEQ + 1) % 2 ^ R.DEV_LATQ_STATUS_QSEQ.width
          ∧ t.fld R.DEV_LATQ_FRAME_FRAME = (s.frame + 1) % 2 ^ 32))
    ∧ (s.accepts m RN.DEV_LATQ_CTRL 0 = true → s.fld R.DEV_LATQ_STATUS_STATE = latqBusy →
        Answers (.latqGo m w) s (fun t => t.fld R.DEV_LATQ_STATUS_QSEQ = s.fld R.DEV_LATQ_STATUS_QSEQ
          ∧ t.fld R.DEV_LATQ_CTRL_SLOT = s.fld R.DEV_LATQ_CTRL_SLOT ∧ t.fld R.DEV_LATQ_FRAME_FRAME = s.fld R.DEV_LATQ_FRAME_FRAME))
    ∧ (∀ out, s.fld R.DEV_LATQ_STATUS_STATE = latqBusy → frameReached s.frame (s.fld R.DEV_LATQ_FRAME_FRAME) = true →
        out = s.fld R.DEV_LATQ_CTRL_SLOT →
        ((s.schedAt (s.fld R.DEV_LATQ_FRAME_FRAME)).map.find out = none →
          Answers .latqDone s (fun t => t.fld R.DEV_LATQ_STATUS_STATE = latqDone ∧ t.fld R.DEV_LATQ_STATUS_RESULT = 1
            ∧ t.fld R.DEV_LATQ_LAT_LAT = 0))
        ∧ (∀ r, (s.schedAt (s.fld R.DEV_LATQ_FRAME_FRAME)).map.find out = some r → r.side (s.fld R.DEV_LATQ_CTRL_SIDE) = none →
          Answers .latqDone s (fun t => t.fld R.DEV_LATQ_STATUS_STATE = latqDone ∧ t.fld R.DEV_LATQ_STATUS_RESULT = 2
            ∧ t.fld R.DEV_LATQ_LAT_LAT = 0))
        ∧ (∀ r src, (s.schedAt (s.fld R.DEV_LATQ_FRAME_FRAME)).map.find out = some r → r.side (s.fld R.DEV_LATQ_CTRL_SIDE) = some src →
          Answers .latqDone s (fun t => t.fld R.DEV_LATQ_STATUS_STATE = latqDone
            ∧ t.fld R.DEV_LATQ_LAT_LAT = toWord 40 (latencyOf (s.phiOf src) (s.psiOf out)
                ((s.schedAt (s.fld R.DEV_LATQ_FRAME_FRAME)).deskew src) src out)
            ∧ t.fld R.DEV_LATQ_STATUS_RESULT = (if s.inService (s.carrier (portOfAddr src)) = false then 3
                else if s.flag R.LN_FRM_CFG_SYNC (portOfAddr src) = false then 4 else if s.outUp out = false then 5 else 0))))


/-! ### Image slots and live update (chapter 10) -/

/-- R364 to R367: VERIFY, PROGRAM and RECOVER_GO start where their conditions hold, and a PROGRAM takes VALID from its slot and keeps the
range that was checked; ABORT ends one; a write that finds one in progress gives BUSY; an operation ends with the checks of its slot. That ABORT leaves
IDLE, and that PROGRAM does not test the running slot in recovery or after a staged start, are the model's readings (log entry 22). -/
def Obligations.ImageOperations : Prop :=
  ∀ (m : Master) (w : Word) (s : State) (k : Nat), k = bit w.toNat 8 → s.accepts m RN.IMG_CTRL 0 = true → bits w.toNat 0 7 = 0 →
    (s.imgBusy = false → Answers (.verify m w) s (fun t => t.resp.status = .ok ∧ t.imgBusy = true
        ∧ t.fld R.IMG_OP_STAT_OP = opVerify ∧ t.raise.opSlot = k))
    ∧ (s.imgBusy = false → s.progRange s.slotRoom = true →
        (s.recovery = true ∨ (s.tally.boot.pref ≠ k ∧ (s.flag R.IMG_RUN_STAGED = true ∨ s.fld R.IMG_RUN_SLOT ≠ k))) →
        Answers (.program m w) s (fun t => t.resp.status = .ok ∧ t.imgBusy = true ∧ t.fld R.IMG_OP_STAT_OP = opProgram
          ∧ t.raise.opSlot = k ∧ t.flag R.IMG_SLOTs_STAT_VALID k = false
          ∧ t.raise.opSrc = s.fld R.IMG_PROG_SRC_SRC ∧ t.raise.opLen = s.fld R.IMG_PROG_LEN_LEN))
    ∧ (s.imgBusy = false → s.recovery = false → (s.tally.boot.pref = k ∨ (s.flag R.IMG_RUN_STAGED = false ∧ s.fld R.IMG_RUN_SLOT = k)) →
        Answers (.program m w) s (fun t => t.fld R.IMG_OP_STAT_STATE = opFailed ∧ t.fld R.IMG_OP_STAT_CODE = codeSlot
          ∧ t.latched R.IMG_EVT_OP_FAIL = true ∧ t.fld R.IMG_SLOTs_STAT_VALID k = s.fld R.IMG_SLOTs_STAT_VALID k))
    ∧ (s.imgBusy = false → s.recovery = true → s.progRange 268435456 = true →
        Answers (.recoverGo m w) s (fun t => t.resp.status = .ok ∧ t.imgBusy = true ∧ t.fld R.IMG_OP_STAT_OP = opRecover))
    ∧ (s.imgBusy = true → Answers (.verify m w) s (fun t => t.imgBusy = true ∧ t.fld R.IMG_OP_STAT_CODE = codeBusy
        ∧ t.latched R.IMG_EVT_OP_FAIL = true ∧ t.raise = s.raise))
    ∧ (s.imgBusy = true → s.fld R.IMG_OP_STAT_OP ≠ opRecover →
        Answers (.imgAbort m w) s (fun t => t.resp.status = .ok ∧ t.fld R.IMG_OP_STAT_STATE = opIdle))
    ∧ (∀ img : ImageBytes, s.imgBusy = true → s.fld R.IMG_OP_STAT_OP = opVerify → s.imageFault (s.imageOf img) s.slotRoom = none →
        Answers (.imgOpDone img) s (fun t => t.fld R.IMG_OP_STAT_STATE = opDone ∧ t.fld R.IMG_OP_STAT_CODE = 0
          ∧ t.flag R.IMG_SLOTs_STAT_CHECKED s.raise.opSlot = true ∧ t.flag R.IMG_SLOTs_STAT_VALID s.raise.opSlot = true
          ∧ t.latched R.IMG_EVT_OP_DONE = true))
    ∧ (∀ (img : ImageBytes) (code sect : Nat), s.imgBusy = true → s.fld R.IMG_OP_STAT_OP = opProgram → s.raise.opLost = false →
        s.imageFault (s.programmed (s.imageOf img)) s.slotRoom = some (code, sect) →
        Answers (.imgOpDone img) s (fun t => t.fld R.IMG_OP_STAT_STATE = opFailed ∧ t.fld R.IMG_OP_STAT_CODE = code
          ∧ t.flag R.IMG_SLOTs_STAT_VALID s.raise.opSlot = false ∧ t.latched R.IMG_EVT_OP_FAIL = true))

/-- R360, R361, R363: CONFIRM makes a running trial image the preferred one; SVN_BURN raises the fused minimum SVN to the running image's,
and is refused on trial; IMG_BOOT takes PREF and TRIAL where the slot it names is valid. -/
def Obligations.ImageChoices : Prop :=
  ∀ (m : Master) (w : Word) (s : State),
    (s.accepts m RN.IMG_CTRL 0 = true → bits w.toNat 0 7 = 0 → s.flag R.IMG_RUN_TRIAL = true →
        Answers (.confirm m w) s (fun t => t.resp.status = .ok ∧ t.flag R.IMG_RUN_TRIAL = false
          ∧ t.tally.boot.pref = s.fld R.IMG_RUN_SLOT % 2 ∧ t.latched R.IMG_EVT_CONFIRMED = true))
    ∧ (s.accepts m RN.IMG_CTRL 0 = true → bits w.toNat 0 7 = 0 → s.flag R.IMG_RUN_TRIAL = false →
        Answers (.confirm m w) s (fun t => t.resp.status = .ok ∧ t.fuses = s.fuses
          ∧ OnlyRegs [R.MTX_STAT_PARK] [.pcie] s t))
    ∧ (s.accepts m RN.IMG_CTRL 0 = true → bits w.toNat 0 7 = 0 → s.flag R.IMG_RUN_TRIAL = false →
        s.fld R.IMG_SVN_MIN_MIN < s.fld R.IMG_RUN_SVN → s.fld R.IMG_RUN_SVN < 64 →
        Answers (.svnBurn m w) s (fun t => t.resp.status = .ok ∧ t.fld R.IMG_SVN_MIN_MIN = s.fld R.IMG_RUN_SVN
          ∧ t.fuses.minSvn.toNat = max s.fuses.minSvn.toNat (s.fld R.IMG_RUN_SVN) ∧ t.fuses.life = s.fuses.life))
    ∧ (s.accepts m RN.IMG_CTRL 0 = true → bits w.toNat 0 7 = 0 → s.flag R.IMG_RUN_TRIAL = true →
        Answers (.svnBurn m w) s (fun t => t.fuses = s.fuses ∧ t.fld R.IMG_OP_STAT_CODE = codeTrial ∧ t.latched R.IMG_EVT_OP_FAIL = true))
    ∧ (s.accepts m RN.IMG_BOOT 0 = true → s.flag R.IMG_SLOTs_STAT_VALID (bit w.toNat 0) = true →
        Answers (.imgBootWrite m w) s (fun t => t.resp.status = .ok ∧ t.tally.boot.pref = bit w.toNat 0
          ∧ t.tally.boot.trial = bit w.toNat 1))
    ∧ (s.accepts m RN.IMG_BOOT 0 = true → s.flag R.IMG_SLOTs_STAT_VALID (bit w.toNat 0) = false →
        Answers (.imgBootWrite m w) s (fun t => t.tally.boot = s.tally.boot ∧ t.latched R.IMG_EVT_OP_FAIL = true))

/-- R368 to R370: LIVE_GO starts an update from the other slot, or waits for a joiner sistering, or is refused with its code; at a tick the core in
hand leaves service and is loaded, and it resumes; after the last the update is done; a core that does not resume, or code that fails its check,
stops it, and those already updated go back. The order of the cores, and that code that fails its inner signature stops the update as a failed self-test
does, are the model's readings (log entries 22 and 53). -/
def Obligations.LiveUpdates : Prop :=
  ∀ (m : Master) (w : Word) (img : ImageBytes) (s : State),
    (s.accepts m RN.IMG_CTRL 0 = true → bits w.toNat 0 7 = 0 → s.liveState ≠ liveWaiting → s.liveState ≠ liveRunning →
        s.liveState ≠ liveRollback → s.flag R.IMG_SLOTs_STAT_VALID (1 - s.fld R.IMG_RUN_SLOT) = true →
        (s.imageOf img).fwAbi = s.raise.fwAbi → s.raise.fwSvn ≤ (s.imageOf img).fwSvn → s.imgBusy = false →
        Answers (.liveGo m w img) s (fun t => t.resp.status = .ok ∧ t.raise.other = some (s.imageOf img) ∧ t.raise.updated = []
          ∧ t.liveState = if s.joinerBusy then liveWaiting else liveRunning))
    ∧ (s.accepts m RN.IMG_CTRL 0 = true → bits w.toNat 0 7 = 0 → s.liveState ≠ liveWaiting → s.liveState ≠ liveRunning →
        s.liveState ≠ liveRollback → s.flag R.IMG_SLOTs_STAT_VALID (1 - s.fld R.IMG_RUN_SLOT) = true →
        (s.imageOf img).fwAbi ≠ s.raise.fwAbi →
        Answers (.liveGo m w img) s (fun t => t.liveState = liveFailed ∧ t.fld R.IMG_LIVE_STAT_CODE = 2
          ∧ t.latched R.IMG_EVT_LIVE_FAIL = true ∧ t.mem = s.mem))
    ∧ (∀ i g, s.liveState = liveRunning → i = s.fld R.IMG_LIVE_STAT_CORE → i ∉ s.raise.liveOut → s.raise.other = some g →
        s.tickLive.raise.liveOut = s.raise.liveOut ++ [i] ∧ s.tickLive.raise.liveSince = s.frame
          ∧ (s.MemWf → i < 5 → g.code.length ≤ 393216 → s.tickLive.readBytes (joinerBank i) g.code.length = g.code))
    ∧ (∀ i, s.liveState = liveRunning → i = s.fld R.IMG_LIVE_STAT_CORE → i ∉ s.raise.liveOut → Answers .liveCoreDone s (fun t => t = s))
    ∧ (∀ i, s.liveState = liveRunning → s.liveCodeGood = true → i = s.fld R.IMG_LIVE_STAT_CORE → i ∈ s.raise.liveOut → (∀ j ∈ s.liveOrder, j = i ∨ j ∈ s.raise.updated) →
        Answers .liveCoreDone s (fun t => t.liveState = liveDone ∧ t.fld R.IMG_RUN_FW_SLOT = (1 - s.fld R.IMG_RUN_SLOT) % 2
          ∧ t.latched R.IMG_EVT_LIVE_DONE = true ∧ t.raise.updated = s.raise.updated ++ [i]
          ∧ t.raise.liveOut = s.raise.liveOut.erase i))
    ∧ (∀ i j, s.liveState = liveRunning → s.liveCodeGood = true → i = s.fld R.IMG_LIVE_STAT_CORE → i ∈ s.raise.liveOut → j < 8 →
        s.liveOrder.find? (fun c => !(s.raise.updated ++ [i]).contains c) = some j →
        Answers .liveCoreDone s (fun t => t.liveState = liveRunning ∧ t.fld R.IMG_LIVE_STAT_CORE = j
          ∧ t.raise.liveOut = s.raise.liveOut.erase i ∧ t.raise.updated = s.raise.updated ++ [i]))
    ∧ (s.liveState = liveRunning → s.liveCodeGood = false → s.fld R.IMG_LIVE_STAT_CORE ∈ s.raise.liveOut →
        Answers .liveCoreDone s (fun t => t.liveState = (if s.raise.updated.isEmpty then liveFailed else liveRollback)
          ∧ t.fld R.IMG_LIVE_STAT_CODE = 6 ∧ t.latched R.IMG_EVT_LIVE_FAIL = true))
    ∧ (∀ i rest, s.liveState = liveRollback → s.raise.updated = rest ++ [i] → i ∈ s.raise.liveOut →
        Answers .liveCoreDone s (fun t => t.raise.updated = rest ∧ t.raise.liveOut = s.raise.liveOut.erase i
          ∧ t.liveState = if rest = [] then liveFailed else liveRollback))
    ∧ (∀ selfTest : Bool, s.liveState = liveRunning → s.fld R.IMG_LIVE_STAT_CORE ∈ s.raise.liveOut → (selfTest = true ∨ 8000 ≤ s.sinceFrame s.raise.liveSince) →
        Answers (.liveCoreTimeout selfTest) s (fun t => t.liveState = (if s.raise.updated.isEmpty then liveFailed else liveRollback)
          ∧ t.fld R.IMG_LIVE_STAT_CODE = (if selfTest then 6 else 5) ∧ t.latched R.IMG_EVT_LIVE_FAIL = true))

/-! ### Ownership and commits (chapter 11) -/

/-- R386 to R390: an accepted CLAIM enters the election, RENEW restarts the lease, RELEASE ends ownership for operations at once, HANDOVER
is pending for its successor; an operation that is not the owner's, or breaks a condition of a CLAIM, leaves ownership as it was and latches
its event. A lease that has run out ends ownership, cancels a handover and lets the claims of the frame be elected; a handover that has
waited 800 frames is cancelled and the owner stays; the loss of the owner's port is noted for the next tick, and MP2 has no such loss. -/
def Obligations.Ownership : Prop :=
  (∀ (m : Master) (w : Word) (s : State) (p tok : Nat), portOfMaster m = some p → s.accepts m RN.MGT_OWN_OP 0 = true →
    tok = (s.heldAt m 0x20010).getD 0 →
    (s.flag R.TLY_STAT_LOCKED = false → s.privPort p = true → s.opOwner ≠ p → tok ≠ 0 →
        (s.opOwner = noPort ∨ (s.handing = true ∧ s.fld R.MGT_OWNER_SUCCESSOR = p)) →
        Answers (.claim m w) s (fun t => t.resp.status = .ok ∧ t.own.claims = s.own.claims ++ [(p, tok)] ∧ t.ownerPort = s.ownerPort
          ∧ t.heldAt m 0x20010 = none))
    ∧ ((tok = 0 ∨ s.opOwner = p ∨ (s.opOwner ≠ noPort ∧ s.handing = false)) →
        Answers (.claim m w) s (fun t => t.own = s.own ∧ t.latched R.MGT_EVT_CLAIM_REFUSED = true))
    ∧ (s.byOwner p tok = true → Answers (.renew m w) s (fun t => t.resp.status = .ok ∧ t.own.leaseEnd = frameAdd s.frame 2401
        ∧ t.ownerPort = s.ownerPort))
    ∧ (s.byOwner p tok = true → Answers (.release m w) s (fun t => t.resp.status = .ok ∧ t.own.released = true ∧ t.opOwner = noPort
        ∧ t.handing = false ∧ t.ownerPort = s.ownerPort))
    ∧ (s.byOwner p tok = true → bits w.toNat 4 3 < 4 → bits w.toNat 4 3 ≠ p → s.privPort (bits w.toNat 4 3) = true →
        Answers (.handover m w) s (fun t => t.resp.status = .ok ∧ t.handing = true ∧ t.fld R.MGT_OWNER_SUCCESSOR = bits w.toNat 4 3
          ∧ t.own.handAt = s.frame ∧ t.ownerPort = s.ownerPort))
    ∧ (s.byOwner p tok = false → Answers (.renew m w) s (fun t => t.own = s.own ∧ t.latched R.MGT_EVT_BAD_OP = true)
        ∧ Answers (.release m w) s (fun t => t.own = s.own ∧ t.latched R.MGT_EVT_BAD_OP = true)
        ∧ Answers (.handover m w) s (fun t => t.own = s.own ∧ t.latched R.MGT_EVT_BAD_OP = true)))
  ∧
  (∀ s : State,
    (s.ownerPort ≠ noPort → frameReached s.frame s.own.leaseEnd = true → s.own.claims = [] →
        Answers .leaseExpiry s (fun t => t.ownerPort = noPort ∧ t.own.token = 0 ∧ t.handing = false
          ∧ t.latched R.MGT_EVT_LEASE_EXPIRED = true))
    ∧ (∀ c, s.ownerPort ≠ noPort → frameReached s.frame s.own.leaseEnd = true → s.own.claims = [c] → c.1 < 4 →
        Answers .leaseExpiry s (fun t => t.ownerPort = c.1 ∧ t.own.token = c.2 ∧ t.own.claims = []
          ∧ t.own.leaseEnd = frameAdd s.frame 2400 ∧ t.latched R.MGT_EVT_OWNER_CHANGE = true))
    ∧ (s.handing = true → 800 ≤ s.sinceFrame s.own.handAt →
        Answers .handoverTimeout s (fun t => t.handing = false ∧ t.ownerPort = s.ownerPort ∧ t.own = s.own
          ∧ t.latched R.MGT_EVT_HANDOVER_FAIL = true))
    ∧ Answers (.ownerPortLoss 2) s (fun t => t = s)
    ∧ (∀ p : Port, p ≠ 2 → s.ownerPort = p.val → Answers (.ownerPortLoss p) s (fun t => t.own.lost = true ∧ t.ownerPort = s.ownerPort))
    ∧ (∀ p : Port, s.ownerPort ≠ p.val → Answers (.ownerPortLoss p) s (fun t => t.own = s.own ∧ t.regs = s.regs)))


/-- R391 to R395: GO asks for a commit, DISCARD sets every staged value to its active value; at the commit tick the staged values are
sampled, and STATE then shows how that commit ends, unless another GO has asked for the next tick; all the sampled values become active, and
DEV_COMMIT_SEQ advances, and what was staged after the tick stays staged, or, where a condition fails, no active value changes, and the
first failing register is named. -/
def Obligations.Commits : Prop :=
  ∀ (m : Master) (w : Word) (s : State),
    (s.accepts m RN.DEV_COMMIT 0 = true → bit w.toNat 1 = 0 →
        Answers (.commitGo m w) s (fun t => t.resp.status = .ok ∧ t.fld R.DEV_COMMIT_STAT_STATE = 1 ∧ t.staged = s.staged))
    ∧ (s.accepts m RN.DEV_COMMIT 0 = true → Answers (.discard m w) s (fun t => t.resp.status = .ok ∧ t.dirty = false
        ∧ ∀ f i, t.stg f i = t.fld f i))
    ∧ (s.fld R.DEV_COMMIT_STAT_STATE = 1 → s.tickCommit.sampled = some s.staged ∧ s.tickCommit.fld R.DEV_COMMIT_STAT_STATE = 0)
    ∧ (∀ all, s.sampled = some all → s.mayChange = true → (all.get R.DEV_COMMIT_STAT_STATE.id {}).find 0 = none → all.wf = true → (∀ e ∈ all.entries, e.2.wf = true) →
        firstFailing ({ s with sampled := none }.failures all) = none →
        Answers .commitApply s (fun t => t.fld R.DEV_COMMIT_STAT_STATE = (if s.fld R.DEV_COMMIT_STAT_STATE = 1 then 1 else 2)
          ∧ t.latched R.DEV_EVT_COMMIT_DONE = true ∧ t.sampled = none
          ∧ (s.isStandby = false → t.fld R.DEV_COMMIT_SEQ_CSEQ
              = (s.fld R.DEV_COMMIT_SEQ_CSEQ + 1) % 2 ^ R.DEV_COMMIT_SEQ_CSEQ.width)
          ∧ (∀ f i, fieldOf f.id = some f → f.ty = .st → t.fld f i
              = match (all.get f.id {}).find i with
                | some v => v % 2 ^ f.width
                | none => s.fld f i)
          ∧ (s.staged.wf = true → (∀ e ∈ s.staged.entries, e.2.wf = true) → ∀ f i w, fieldOf f.id = some f →
              (s.staged.get f.id {}).find i = some w → (all.get f.id {}).find i ≠ some w → w < 2 ^ f.width → t.stg f i = w)))
    ∧ (∀ all off, s.sampled = some all → s.mayChange = true → firstFailing ({ s with sampled := none }.failures all) = some off →
        Answers .commitApply s (fun t => t.fld R.DEV_COMMIT_STAT_STATE = (if s.fld R.DEV_COMMIT_STAT_STATE = 1 then 1 else 3)
          ∧ t.latched R.DEV_EVT_COMMIT_ERR = true
          ∧ (s.staged.wf = true → (∀ e ∈ s.staged.entries, e.2.wf = true) → ∀ f i, fieldOf f.id = some f → t.stg f i = s.stg f i)
          ∧ t.fld R.DEV_COMMIT_ERR_OFFSET = blockOffset off % 2 ^ R.DEV_COMMIT_ERR_OFFSET.width
          ∧ t.fld R.DEV_COMMIT_ERR_ISLAND = islandOf off % 2 ^ R.DEV_COMMIT_ERR_ISLAND.width
          ∧ t.fld R.DEV_COMMIT_SEQ_CSEQ = s.fld R.DEV_COMMIT_SEQ_CSEQ
          ∧ ∀ f i, f.ty = .st → fieldOf f.id = some f → t.fld f i = s.fld f i))


/-! ### Events and the PCIe ports (chapters 10 and 11) -/

/-- R396, R397: the record next in order goes to the ring of every port that has one, at its HEAD, which advances, or is discarded and counted where
the ring is full; the oldest record that waits for the event log goes to the log's next entry. That RING_EN is judged as the record is written is the
model's reading (log entry 33). -/
def Obligations.EventRecords : Prop :=
  ∀ s : State, s.MemWf →
    (∀ r, nextRec s.ringQ = some r → (∀ p, p < 4 → s.fld R.MGT_PORTp_RING_HEAD_HEAD p < 4096) →
        Answers .eventRecord s (fun t =>
          ((∀ p, p < 4 → s.flag R.MGT_PORTp_CFG_RING_EN p = true →
              (s.fld R.MGT_PORTp_RING_HEAD_HEAD p + 1) % 4096 ≠ s.fld R.MGT_PORTp_RING_TAIL_TAIL p) →
            t.ringQ = s.ringQ.erase r ∧ t.logQ = s.logQ)
          ∧ (∀ p, p < 4 → s.flag R.MGT_PORTp_CFG_RING_EN p = true →
              (s.fld R.MGT_PORTp_RING_HEAD_HEAD p + 1) % 4096 ≠ s.fld R.MGT_PORTp_RING_TAIL_TAIL p →
              t.fld R.MGT_PORTp_RING_HEAD_HEAD p = (s.fld R.MGT_PORTp_RING_HEAD_HEAD p + 1) % 4096
                ∧ t.readBytes (ringBase p + 16 * s.fld R.MGT_PORTp_RING_HEAD_HEAD p) 16 = r.words.flatMap (leBytes 4))
          ∧ (∀ p, p < 4 → s.flag R.MGT_PORTp_CFG_RING_EN p = true →
              (s.fld R.MGT_PORTp_RING_HEAD_HEAD p + 1) % 4096 = s.fld R.MGT_PORTp_RING_TAIL_TAIL p →
              t.fld R.MGT_PORTp_RING_HEAD_HEAD p = s.fld R.MGT_PORTp_RING_HEAD_HEAD p ∧ t.latched R.MGT_EVT_RING_OVF = true
                ∧ t.fld R.MGT_PORTp_RING_DROP_COUNT p = satAdd (2 ^ R.MGT_PORTp_RING_DROP_COUNT.width - 1)
                    (s.fld R.MGT_PORTp_RING_DROP_COUNT p) 1)
          ∧ (∀ p, p < 4 → s.flag R.MGT_PORTp_CFG_RING_EN p = false →
              t.fld R.MGT_PORTp_RING_HEAD_HEAD p = s.fld R.MGT_PORTp_RING_HEAD_HEAD p)))
    ∧ (∀ r rest, s.logQ = r :: rest → s.fld R.MGT_LOG_BASE_BASE ≠ 0 →
        Answers .eventLogRecord s (fun t => t.logQ = rest
          ∧ StoresAt s t (s.fld R.MGT_LOG_BASE_BASE + 16 * s.fld R.MGT_LOG_IDX_NEXT) (r.words.flatMap (leBytes 4))
          ∧ t.fld R.MGT_LOG_IDX_NEXT = (s.fld R.MGT_LOG_IDX_NEXT + 1) % 2 ^ 20))

/-- R341, R373, R398: a vector whose condition comes true is sent, or waits while it is masked; EOI sends it again while its condition
holds; before P7 a configuration request is to be retried, and a link trains from the end of P1 on. The places of the bits of configuration space, the
sizes and the error status are those of PCI Express (PRESUMED: log entry 14). -/
def Obligations.PciePorts : Prop :=
  ∀ (p : Fin 2) (v : Fin 64) (s : State) (c : Pcie), c = s.pcie.get p {} →
    (s.vectorHolds p v = true → c.seen.testBit v = false → s.served = true → c.msixOn = true → c.masked v = false →
        Answers (.msixSend p v) s (fun t => (t.pcie.get p {}).seen.testBit v = true
          ∧ (t.pcie.get p {}).sent = some (c.tableWord (4 * v) + c.tableWord (4 * v + 1) * 2 ^ 32, c.tableWord (4 * v + 2))))
    ∧ (s.vectorHolds p v = true → c.seen.testBit v = false → s.served = true → c.msixOn = true → c.masked v = true →
        Answers (.msixSend p v) s (fun t => (t.pcie.get p {}).pba.testBit v = true ∧ (t.pcie.get p {}).sent = c.sent))
    ∧ (s.vectorHolds p v = false → Answers (.msixSend p v) s (fun t => (t.pcie.get p {}).seen.testBit v = false
        ∧ (t.pcie.get p {}).sent = c.sent))
    ∧ (∀ (m : Master) (q : Port) (w : Word), q.val = p.val → s.accepts m RN.MGT_PORTp_EOI p = true → s.served = true →
        bits w.toNat 0 6 = v.val → s.vectorHolds p v = true → c.msixOn = true → c.masked v = false →
        Answers (.msixEoi m q w) s (fun t => t.resp.status = .ok
          ∧ (t.pcie.get p {}).sent = some (c.tableWord (4 * v) + c.tableWord (4 * v + 1) * 2 ^ 32, c.tableWord (4 * v + 2))))
    ∧ (∀ r : CfgRequest, s.served = false → s.recovery = false →
        Answers (.pcieConfigRequest p r) s (fun t => t.resp.status = .notReady ∧ t.pcie = s.pcie))
    ∧ (s.served = true → Answers (.pcieConfigRequest p (.read 0)) s (fun t => t.resp.status = .ok
        ∧ ∃ d, t.resp.words = [d] ∧ d / 2 ^ 16 = 0x3236))
    ∧ (∀ on mask : Bool, s.served = true → Answers (.pcieConfigRequest p (.msix on mask)) s (fun t => t.resp.status = .ok
        ∧ (t.pcie.get p {}).msixOn = on ∧ (t.pcie.get p {}).msixMask = mask))
    ∧ (s.served = true → Answers (.pcieConfigRequest p .msixRead) s (fun t =>
        t.reads [63 + b2n c.msixMask * 2 ^ 14 + b2n c.msixOn * 2 ^ 15, 0xE0004, 0xE1004]))
    ∧ (∀ mps mrrs : Fin 8, s.served = true → Answers (.pcieConfigRequest p (.sizes mps mrrs)) s (fun t => t.resp.status = .ok
        ∧ (t.pcie.get p {}).mps = (if mps.val = 0 then 0 else 1) ∧ (t.pcie.get p {}).mrrs = (if mrrs.val ≤ 1 then mrrs.val else 2)))
    ∧ (s.served = true → Answers (.pcieConfigRequest p .sizesRead) s (fun t => t.reads [32 * c.mps + 4096 * c.mrrs]))
    ∧ (s.served = true → Answers (.pcieConfigRequest p .aerRead) s (fun t => t.reads [c.aer] ∧ t.pcie = s.pcie))
    ∧ (∀ w : Word, s.served = true → Answers (.pcieConfigRequest p (.aerClear w)) s (fun t => t.resp.status = .ok
        ∧ ∀ k, k < 32 → (t.pcie.get p {}).aer.testBit k = (c.aer.testBit k && !w.getLsbD k)))
    ∧ Answers (.perstNDeassert p) s (fun t => (t.pcie.get p {}).perst = true
        ∧ (t.pcie.get p {}).training = (s.raise.running && decide (2 ≤ s.phase)))

/-! ### Memories (chapter 12) -/

/-- R426, R434 to R436: a retraining, by a write, a temperature or more corrected bursts in a second than the limit, takes a channel OFFLINE, waits
while another is missing, and is refused for one that is DOWN; it ends ONLINE, or DOWN at the second failure in a row; the patrol counts what it
corrects; a unit in which a read, of a word or a burst, finds an error is corrected or rebuilt, and counted, or lost, and then a master has an error,
and no word of the long path in it can be read back. That TEMP is unsigned, and when a second of corrected bursts ends, are the model's choices (log
entry 38). -/
def Obligations.Ddr5 : Prop :=
  ∀ (n : Fin 8) (s : State),
    (∀ (m : Master) (w : Word), s.accepts m RN.DDR_CHn_CTRL n = true → s.chState n = chOnline → s.chMissing = false →
        Answers (.ddrRetrain n (.write m w)) s (fun t => t.resp.status = .ok ∧ t.chState n = chOffline))
    ∧ (∀ (m : Master) (w : Word), s.accepts m RN.DDR_CHn_CTRL n = true → s.chState n = chOnline → s.chMissing = true →
        Answers (.ddrRetrain n (.write m w)) s (fun t => t.chState n = chOnline ∧ n.val ∈ t.ddr.waiting))
    ∧ (∀ (m : Master) (w : Word), s.accepts m RN.DDR_CHn_CTRL n = true → s.chState n = chDown →
        Answers (.ddrRetrain n (.write m w)) s (fun t => t.chState n = chDown ∧ t.latched R.DDR_EVT_RETRAIN_REFUSED = true))
    ∧ (∀ temp : BitVec 8, s.chState n = chOnline → s.chMissing = false →
        (s.fld R.DDR_CHn_STAT_TEMP n + 20 ≤ temp.toNat ∨ temp.toNat + 20 ≤ s.fld R.DDR_CHn_STAT_TEMP n) →
        Answers (.ddrRetrain n (.temperature temp)) s (fun t => t.chState n = chOffline))
    ∧ (s.chState n = chOnline → s.chMissing = false → s.tooMany n = true → Answers (.ddrRetrain n .corrected) s (fun t => t.chState n = chOffline))
    ∧ (s.tooMany n = false → Answers (.ddrRetrain n .corrected) s (fun t => t = s))
    ∧ (∀ temp : BitVec 8, s.chState n = chOffline → (∀ k, k < 8 → k ≠ n.val → s.chState k ≠ chOffline) → s.ddr.waiting = [] →
        Answers (.ddrRetrainDone true temp) s (fun t => t.chState n = chOnline ∧ t.latched R.DDR_EVT_RETRAINED = true
          ∧ t.fld R.DDR_CHn_STAT_TEMP n = temp.toNat))
    ∧ (∀ temp : BitVec 8, s.chState n = chOffline → (∀ k, k < 8 → k ≠ n.val → s.chState k ≠ chOffline) → s.ddr.fails.get n 0 = 0 →
        Answers (.ddrRetrainDone false temp) s (fun t => t.chState n = chOffline ∧ t.ddr.fails.get n 0 = 1))
    ∧ (∀ temp : BitVec 8, s.chState n = chOffline → (∀ k, k < 8 → k ≠ n.val → s.chState k ≠ chOffline) → 1 ≤ s.ddr.fails.get n 0 →
        Answers (.ddrRetrainDone false temp) s (fun t => t.chState n = chDown ∧ t.latched R.DDR_EVT_DDR_DOWN = true))
    ∧ (∀ k : Nat, s.chState n = chOnline → Answers (.ddrPatrol n k) s (fun t => t.mem = s.mem
        ∧ t.fld R.DDR_CHn_CORR_COUNT n = satAdd (2 ^ R.DDR_CHn_CORR_COUNT.width - 1) (s.fld R.DDR_CHn_CORR_COUNT n) k
            % 2 ^ R.DDR_CHn_CORR_COUNT.width
        ∧ t.ddr.second.get n 0 = s.ddr.second.get n 0 + k))
    ∧ (∀ (m : Master) (x : BitVec 38) (o : UnitOutcome) (a u : Nat) (v : View), a = ddrBase + (x.toNat - x.toNat % 4) → u = ddrUnit x.toNat →
        v = .priv (BitVec.ofNat 40 a) → s.judge m a false false = .ok →
        (s.unitLost u o = false → Answers (.ddrUnitRebuild (.master m v) x o) s (fun t => t.reads [s.ddrWord a] ∧ t.mem = s.mem
          ∧ (o = .corrected → s.chGone (unitChannel u) = false → t.fld R.DDR_CNT_COUNT 0 = (s.fld R.DDR_CNT_COUNT 0 + 1) % 2 ^ 48)
          ∧ ((o = .rebuilt ∨ s.chGone (unitChannel u) = true) → t.fld R.DDR_CNT_COUNT 1 = (s.fld R.DDR_CNT_COUNT 1 + 1) % 2 ^ 48)))
        ∧ (s.unitLost u o = true → Answers (.ddrUnitRebuild (.master m v) x o) s (fun t => t.resp.status = .error
          ∧ t.latched R.DDR_EVT_DDR_LOSS = true ∧ t.mem = s.mem ∧ t.fld R.DDR_CNT_COUNT 2 = (s.fld R.DDR_CNT_COUNT 2 + 1) % 2 ^ 48)))
    ∧ (∀ (m : Master) (y : BitVec 40) (len : Fin 256) (x : BitVec 38) (o : UnitOutcome) (v : View), v = .burst y len →
        s.judge m y.toNat false false = .ok → (place y.toNat).storage = true → ddrUnit x.toNat ∈ s.placeUnits (16 * (len.val + 1)) (place y.toNat) →
        (s.unitLost (ddrUnit x.toNat) o = false → Answers (.ddrUnitRebuild (.master m v) x o) s (fun t => t.mem = s.mem
          ∧ t.reads ((List.range (4 * (len.val + 1))).map (fun k => s.storageWord (y.toNat + 4 * k)))))
        ∧ (s.unitLost (ddrUnit x.toNat) o = true → Answers (.ddrUnitRebuild (.master m v) x o) s (fun t => t.resp.status = .error
          ∧ t.latched R.DDR_EVT_DDR_LOSS = true ∧ t.mem = s.mem)))
    ∧ (∀ (r : UnitReader) (x : BitVec 38) (o : UnitOutcome), s.unitLost (ddrUnit x.toNat) o = true →
        ((r = .longPath ∧ s.regionOf (ddrBase + x.toNat) = some 0) ∨ (r = .patrol ∧ x.toNat < s.ddrUsable)) →
        Answers (.ddrUnitRebuild r x o) s (fun t => t.latched R.DDR_EVT_DDR_LOSS = true ∧ t.mem = s.mem
          ∧ t.fld R.DDR_CNT_COUNT 2 = (s.fld R.DDR_CNT_COUNT 2 + 1) % 2 ^ 48
          ∧ ∀ q k, ddrUnit x.toNat ∈ s.longUnits q k → (t.longMem.get q {}).find k = none))

/-- R418 to R424: the region in hand is tested and its contents stay; a failing one is repaired from a spare row of its bank, or marked failed; an
access aborts the march, and eight aborts in a row starve the region; a bank under test is served from its sister, and becomes it, or is
retired where it fails. That the banks are numbered through the groups, 32 to each, and when an aborted region is tried again, are the model's readings
(log entries 15 and 37). -/
def Obligations.Sounding : Prop :=
  ∀ s : State,
    (∀ r, s.regionInHand = some r → s.sounds = true → Answers (.soundRegion false) s (fun t => t.mem = s.mem ∧ t.snd.aborts.find r = none
        ∧ t.fld R.MEM_STAT_SPARE_ROWS = s.fld R.MEM_STAT_SPARE_ROWS ∧ (s.retryRegion = none → t.snd.next = r + 1 ∨ t.snd.next = 0)))
    ∧ (∀ r k, s.regionInHand = some r → s.sounds = true → s.freeRows (bankOfRegion r) = k + 1 →
        Answers (.soundRegion true) s (fun t => t.mem = s.mem ∧ t.freeRows (bankOfRegion r) = k
          ∧ t.fld R.MEM_STAT_SPARE_ROWS = (s.fld R.MEM_STAT_SPARE_ROWS - 1) % 2 ^ R.MEM_STAT_SPARE_ROWS.width ∧ t.latched R.SND_EVT_SND_FAIL = true
          ∧ t.fld R.SND_FAIL_LAST_INDEX = r % 2 ^ R.SND_FAIL_LAST_INDEX.width ∧ t.flag R.SND_FAIL_LAST_REPAIRED = true
          ∧ t.fld R.MEM_STAT_FAILED = s.fld R.MEM_STAT_FAILED))
    ∧ (∀ r, s.regionInHand = some r → s.sounds = true → s.freeRows (bankOfRegion r) = 0 →
        Answers (.soundRegion true) s (fun t => t.mem = s.mem ∧ t.flag R.SND_FAIL_LAST_REPAIRED = false ∧ r ∈ t.snd.failed
          ∧ t.fld R.MEM_STAT_FAILED = if r ∈ s.snd.failed then s.fld R.MEM_STAT_FAILED
              else satAdd (2 ^ R.MEM_STAT_FAILED.width - 1) (s.fld R.MEM_STAT_FAILED) 1))
    ∧ (∀ r, s.regionInHand = some r → s.sounds = true → Answers .soundAbort s (fun t => t.mem = s.mem
        ∧ t.snd.aborts.get r 0 = s.snd.aborts.get r 0 + 1 ∧ (r, 16, s.frame) ∈ t.snd.retry
        ∧ (s.snd.aborts.get r 0 = 7 → t.latched R.SND_EVT_SND_STARVED = true)))
    ∧ (∀ b, s.bankInHand = some b → s.sounds = true → s.snd.under = none →
        Answers .soundBankSwap s (fun t => t.snd.under = some b ∧ t.snd.bank = b + 1 ∧ t.flag R.SND_STAT_ACTIVE = true))
    ∧ (∀ b, s.snd.under = some b → Answers (.soundBankTestDone false) s (fun t => t.snd.under = none ∧ t.snd.sister.get (b / 32) 0 = b
        ∧ t.flag R.SND_STAT_ACTIVE = (s.sounds && t.regionInHand.isSome)))
    ∧ (∀ b, s.snd.under = some b → Answers (.soundBankTestDone true) s (fun t => t.snd.under = none ∧ b / 32 ∈ t.snd.failedGroups
        ∧ t.snd.sister.find (b / 32) = none ∧ t.latched R.SND_EVT_SND_FAIL = true ∧ t.latched R.TLY_EVT_SUBST_DONE = true))

/-! ### Counters and pegs (chapter 13) -/

/-- R439 to R450: a snapshot at its tick freezes every bank counter and bin as it stood, and with CLR_ON_SNAP clears them; a clear makes the
named counters 0 at the next tick, and is refused beyond what R439 populates; an archive entry is written whole; a bank counter that wraps
carries into the counter above it where CHAIN is active, and else latches BANK_WRAP; a write of its pair sets both halves, and the events of
its core cycle are added, or dropped in a counter that a chain feeds. -/
def Obligations.Counters : Prop :=
  (∀ (m : Master) (w : Word) (s : State),
    (s.accepts m RN.CNT_SNAP 0 = true → Answers (.snapGo m w) s (fun t => t.resp.status = .ok ∧ t.snapAt = some (frameAdd s.frame 1)
        ∧ t.fld R.CNT_STAT_SNAP_PENDING = 1))
    ∧ (s.snapDue = true →
        Answers .snapshot s (fun t => (∀ c, t.fld R.CNT_Bc_SN_COUNT c = s.fld R.CNT_Bc_COUNT c)
          ∧ (∀ b, t.fld R.PEG_HBIN_SN_COUNT b = s.fld R.PEG_HBIN_COUNT b)
          ∧ t.fld R.DEV_FRAME_SN_FRAME = s.frame % 2 ^ 32 ∧ t.snapAt = none ∧ t.latched R.CNT_EVT_SNAP_DONE = true
          ∧ t.fld R.CNT_STAT_SNAPS = (s.fld R.CNT_STAT_SNAPS + 1) % 2 ^ R.CNT_STAT_SNAPS.width
          ∧ (s.flag R.CNT_CFG_CLR_ON_SNAP = true → ∀ b, b < 16384 → t.fld R.PEG_HBIN_COUNT b = 0)
          ∧ ((∀ c, s.bankTakes 0xD 0 c = false) →
            (s.flag R.CNT_CFG_CLR_ON_SNAP = true → ∀ c, (s.plumb.tickDue.getD []).contains c = false → t.fld R.CNT_Bc_COUNT c = 0)
            ∧ (s.flag R.CNT_CFG_CLR_ON_SNAP = false → ∀ c, t.fld R.CNT_Bc_COUNT c = s.fld R.CNT_Bc_COUNT c))
          ∧ (s.flag R.CNT_CFG_CLR_ON_SNAP = true → s.plumb.tickDue = some [] → s.sampled = none → s.clear = none →
            (s.regs.get R.CNT_Bc_CFG_SRC.id {}).wf = true → ∀ c, s.bankTakes 0xD 0 c = true → t.fld R.CNT_Bc_COUNT c = 1)))
    ∧ (s.accepts m RN.CNT_CLR_CTRL 0 = true → s.clear = none →
        clearable (bits w.toNat 19 2) (s.fld R.CNT_CLR_FIRST_FIRST) (bits w.toNat 0 19) = true →
        Answers (.clearGo m w) s (fun t => t.resp.status = .ok ∧ t.fld R.CNT_STAT_CLR_PENDING = 1
          ∧ t.clear = some { tick := frameAdd s.frame 1, kind := bits w.toNat 19 2, first := s.fld R.CNT_CLR_FIRST_FIRST, count := bits w.toNat 0 19 }))
    ∧ (s.accepts m RN.CNT_CLR_CTRL 0 = true →
        (s.clear ≠ none ∨ clearable (bits w.toNat 19 2) (s.fld R.CNT_CLR_FIRST_FIRST) (bits w.toNat 0 19) = false) →
        Answers (.clearGo m w) s (fun t => t.clear = s.clear ∧ t.latched R.CNT_EVT_CLR_REFUSED = true))
    ∧ (∀ c, s.clear = some c → frameReached s.frame c.tick = true →
        Answers .counterClear s (fun t => t.clear = none ∧ t.latched R.CNT_EVT_CLR_DONE = true ∧ t.fld R.CNT_STAT_CLR_PENDING = 0
          ∧ (c.kind = 1 → s.sampled = none → (s.regs.get R.CNT_Bc_CFG_SRC.id {}).wf = true →
              (∀ k, c.first ≤ k → k < c.first + c.count → (s.plumb.tickDue.getD []).contains k = false →
                (s.chainedBelow k = false ∨ s.plumb.tickDue = none) → t.fld R.CNT_Bc_COUNT k = b2n (s.plumb.tickDue.isSome && s.bankTakes 0xD 0 k))
              ∧ (∀ j, c.first = j + 1 → 0 < c.count → s.flag R.CNT_Bc_CFG_CHAIN j = true → s.bankTakes 0xD 0 j = true →
                s.fld R.CNT_Bc_COUNT j = 2 ^ 48 - 1 → s.plumb.tickDue = some [] → s.snapDue = false → t.fld R.CNT_Bc_COUNT (j + 1) = 1))
          ∧ (c.kind = 2 → ∀ h, c.first ≤ h → h < c.first + c.count → ∀ b, b / 256 = h → t.fld R.PEG_HBIN_COUNT b = 0)
          ∧ (c.kind = 0 → ∀ k f i, c.first ≤ k → k < c.first + c.count → fixedAt k = some (f, i) → t.fld f i = 0)))
    ∧ (∀ e rest (a : Nat), s.archive = e :: rest → s.archiveSize ≠ 0 → s.MemWf → e.words.wf = true → (∀ x ∈ e.words.entries, x.1 < 65536) →
        a = s.regionBase 6 + 262144 * s.fld R.CNT_ARCH_IDX_NEXT →
        Answers .archiveWrite s (fun t => t.archive = rest ∧ (∀ j, j < 65536 → t.readLe (a + 4 * j) 4 = e.words.get j 0 % 2 ^ 32)
          ∧ ∀ b, (b < a ∨ a + 262144 ≤ b) → t.byte b = s.byte b)))
  ∧
  (∀ (m : Master) (c : Fin 16384) (s : State),
    (s.countsEvents c = true → s.fld R.CNT_Bc_COUNT c = 2 ^ 48 - 1 → s.flag R.CNT_Bc_CFG_CHAIN c = false →
        Answers (.counterWrap c) s (fun t => t.fld R.CNT_Bc_COUNT c = 0 ∧ t.latched R.CNT_EVT_BANK_WRAP = true))
    ∧ (s.countsEvents c = true → s.fld R.CNT_Bc_COUNT c = 2 ^ 48 - 1 → s.flag R.CNT_Bc_CFG_CHAIN c = true →
        s.fld R.CNT_Bc_COUNT (c.val + 1) < 2 ^ 48 - 1 →
        Answers (.counterWrap c) s (fun t => t.fld R.CNT_Bc_COUNT c = 0
          ∧ t.fld R.CNT_Bc_COUNT (c.val + 1) = s.fld R.CNT_Bc_COUNT (c.val + 1) + 1
          ∧ t.fld R.CNT_EVT = s.fld R.CNT_EVT))
    ∧ (s.countsEvents c = true → s.fld R.CNT_Bc_COUNT c = 2 ^ 48 - 1 → s.flag R.CNT_Bc_CFG_CHAIN c = true →
        s.fld R.CNT_Bc_COUNT (c.val + 1) = 2 ^ 48 - 1 →
        Answers (.counterWrap c) s (fun t => t.fld R.CNT_Bc_COUNT c = 0 ∧ t.fld R.CNT_Bc_COUNT (c.val + 1) = 0
          ∧ t.latched R.CNT_EVT_BANK_WRAP = true))
    ∧ (∀ n, s.flag R.CNT_Bc_CFG_CHAIN c = false → 2 ^ 48 ≤ s.fld R.CNT_Bc_COUNT c + n → (s.bankAdd c n).latched R.CNT_EVT_BANK_WRAP = true)
    ∧ (∀ n, s.flag R.CNT_Bc_CFG_CHAIN c = true →
        s.fld R.CNT_Bc_COUNT (c.val + 1) + (s.fld R.CNT_Bc_COUNT c + n) / 2 ^ 48 < 2 ^ 48 → (s.bankAdd c n).fld R.CNT_EVT = s.fld R.CNT_EVT)
    ∧ ((s.fld R.CNT_Bc_CFG_SRC c = 0 ∨ s.fld R.CNT_Bc_CFG_SRC c = 0xD ∨ s.chainedBelow c = true) → Answers (.counterWrap c) s (fun t => t = s))
    ∧ (∀ k, s.fld R.CNT_Bc_CFG_SRC c = 0xE → s.chainedBelow c = false → s.fld R.CNT_Bc_COUNT c < 2 ^ 48 →
        k = s.plumb.cycFrom.get c 0 + (2 ^ 48 - s.fld R.CNT_Bc_COUNT c) →
        (s.cycleNow ≤ k → (k ≤ frameCycles ∨ s.ticking = false) → Answers (.counterWrap c) s (fun t => t.fld R.CNT_Bc_COUNT c = 0 ∧ t.cycleNow = k
          ∧ (s.flag R.CNT_Bc_CFG_CHAIN c = false → t.latched R.CNT_EVT_BANK_WRAP = true)))
        ∧ ((k < s.cycleNow ∨ (frameCycles < k ∧ s.ticking = true)) → Answers (.counterWrap c) s (fun t => t = s)))
    ∧ (∀ (l h : Word) (n : Nat), s.accepts m RN.CNT_Bc_LO c = true → s.accepts m RN.CNT_Bc_HI c = true →
        s.fld R.CNT_Bc_CFG_SRC c ≠ 0xD → s.fld R.CNT_Bc_CFG_SRC c ≠ 0xE → s.chainedBelow c = false →
        Answers (.bankCounterWrite m c (some l) h n) s (fun t => t.resp.status = .ok
          ∧ t.fld R.CNT_Bc_COUNT c = (l.toNat + 2 ^ 32 * (h.toNat % 2 ^ 16) + n) % 2 ^ 48))
    ∧ (∀ (l h : Word) (n : Nat), s.accepts m RN.CNT_Bc_LO c = true → s.accepts m RN.CNT_Bc_HI c = true →
        (s.fld R.CNT_Bc_CFG_SRC c = 0xD ∨ s.chainedBelow c = true) →
        Answers (.bankCounterWrite m c (some l) h n) s (fun t => t.resp.status = .ok
          ∧ t.fld R.CNT_Bc_COUNT c = l.toNat + 2 ^ 32 * (h.toNat % 2 ^ 16)))
    ∧ (∀ (l h : Word) (n : Nat), s.accepts m RN.CNT_Bc_LO c = true → s.accepts m RN.CNT_Bc_HI c = true →
        s.fld R.CNT_Bc_CFG_SRC c = 0xE → s.chainedBelow c = false →
        Answers (.bankCounterWrite m c (some l) h n) s (fun t => t.resp.status = .ok
          ∧ t.fld R.CNT_Bc_COUNT c = (l.toNat + 2 ^ 32 * (h.toNat % 2 ^ 16) + 1) % 2 ^ 48))
    ∧ (∀ (h : Word), s.accepts m RN.CNT_Bc_HI c = true → s.heldAt m (0x6000004 + 16 * c.val) = none →
        s.bankTakes 0xE 0 c = false → (s.chainedBelow c = true → s.bankTakes 0xE 0 (c.val - 1) = false) →
        Answers (.bankCounterWrite m c none h 0) s (fun t => t.resp.status = .ok
          ∧ t.fld R.CNT_Bc_COUNT c = s.fld R.CNT_Bc_COUNT c % 2 ^ 32 + 2 ^ 32 * (h.toNat % 2 ^ 16))))


/-- R451, R454, R455: in each frame the selector puts at most RATE pegs in flight, at most 1,024 in all, each for the frame's page; a peg
that completes leaves a record in the queue, which takes at most 1,024; POP takes the oldest, or M10 moves it to the ring. -/
def Obligations.PegsComplete : Prop :=
  ∀ s : State,
    (s.pegs.drew ≠ some s.frame → s.ticking = true → Answers .pegSelect s (fun t => t.pegs.drew = some s.frame ∧ t.pegs.queue = s.pegs.queue
        ∧ ∃ new, t.pegs.flight = s.pegs.flight ++ new ∧ new.length ≤ s.fld R.PEG_CFG_RATE
          ∧ (new = [] ∨ s.pegs.flight.length + new.length ≤ 1024) ∧ ∀ p ∈ new, p.page = s.frame ∧ p.res = none ∧ p.sent = none))
    ∧ (∀ (page : Word) (src : SlotAddr) (p : Peg) (e : PegEnd),
        s.pegs.flight.find? (fun p => p.page == page.toNat && p.src == src.val) = some p → p.res = some e → s.pegs.queue.length < 1024 →
        Answers (.pegComplete page src) s (fun t => t.pegs.queue = s.pegs.queue ++ [pegWords s.pegs.pseq p e]
          ∧ t.pegs.flight = s.pegs.flight.erase p ∧ t.pegs.pseq = (s.pegs.pseq + 1) % 2 ^ 32
          ∧ (s.pegs.queue = [] → t.latched R.PEG_EVT_PEG_READY = true)))
    ∧ (∀ (page : Word) (src : SlotAddr) (p : Peg) (e : PegEnd),
        s.pegs.flight.find? (fun p => p.page == page.toNat && p.src == src.val) = some p → p.res = some e → 1024 ≤ s.pegs.queue.length →
        Answers (.pegComplete page src) s (fun t => t.pegs.queue = s.pegs.queue ∧ t.latched R.PEG_EVT_PEG_DROP = true
          ∧ t.fld R.PEG_DROP_COUNT = satAdd (2 ^ R.PEG_DROP_COUNT.width - 1) (s.fld R.PEG_DROP_COUNT) 1))
    ∧ (∀ (m : Master) (w : Word), s.accepts m RN.PEG_CTRL 0 = true → s.flag R.PEG_CFG_DMA_EN = false →
        Answers (.pop m w) s (fun t => t.resp.status = .ok ∧ t.pegs.queue = s.pegs.queue.drop 1))
    ∧ (∀ (m : Master) (w : Word), s.accepts m RN.PEG_CTRL 0 = true → s.flag R.PEG_CFG_DMA_EN = true →
        Answers (.pop m w) s (fun t => t.pegs = s.pegs))
    ∧ (∀ r rest (a : Nat), s.pegs.queue = r :: rest → s.flag R.PEG_CFG_DMA_EN = true →
        (s.fld R.PEG_DMA_IDX_HEAD + 1) % 4096 ≠ s.fld R.PEG_DMA_IDX_TAIL → s.MemWf →
        a = s.fld R.PEG_DMA_BASE_BASE + 64 * s.fld R.PEG_DMA_IDX_HEAD → s.reaches 10 true a (place a) = true →
        Answers .pegDmaMove s (fun t => t.pegs.queue = rest ∧ StoresAt s t a ((r.flatMap (leBytes 4)).take 64)
          ∧ t.fld R.PEG_DMA_IDX_HEAD = (s.fld R.PEG_DMA_IDX_HEAD + 1) % 4096))


/-! ### Sistering, the tally, the life cycle and tamper (chapter 14) -/

/-- R460, R461, R463, R464, R466, R467: a trigger that holds starts an automatic substitution at the next tick, asks the host where its class is not
automatic, and latches SPARE_EXHAUSTED where no spare is left, while one that must wait is judged in its turn; a spare that takes over is spent,
and SUBST_DONE is latched; a compile in progress starts again. -/
def Obligations.SparesTakeOver : Prop :=
  ∀ s : State,
    (∀ (x : Fin 256) (why : LaneTrigger), s.laneTriggers x why = true → x.val ∉ s.sist.lanePend → x.val ∉ s.sist.laneRun →
        ((s.spareFound x = true ∨ s.lanesBusy = true) → s.autoSubst 0 = true → Answers (.laneSubstTrigger x why) s (fun t =>
            t.sist.lanePend = s.sist.lanePend ++ [x.val] ∧ t.flag R.TLY_STAT_SIST_BUSY = true))
        ∧ ((s.spareFound x = true ∨ s.lanesBusy = true) → s.autoSubst 0 = false → Answers (.laneSubstTrigger x why) s (fun t =>
            t.sist = s.sist ∧ t.latched R.TLY_EVT_SUBST_NEED = true))
        ∧ (s.spareFound x = false → s.lanesBusy = false → Answers (.laneSubstTrigger x why) s (fun t =>
            t.sist = s.sist ∧ t.latched R.TLY_EVT_SPARE_EXHAUSTED = true)))
    ∧ (∀ k, s.sist.lamRun = some k → 8 ≤ s.fld R.FAB_LAM_STAT_SHADOW_FRAMES → Answers .lamSubstSelect s (fun t =>
        t.flag R.FAB_LAM_CTRL_SUB = true ∧ t.stg R.FAB_LAM_CTRL_SUB = 1 ∧ t.flag R.FAB_LAM_STAT_SUB_ACT = true
          ∧ t.fld R.TLY_SPARES_LAM = 0 ∧ t.sist.lamRun = none ∧ t.latched R.TLY_EVT_SUBST_DONE = true))
    ∧ (∀ (n : LaneIx) (k : Nat), s.sist.fec.find n = some (.compares k) → 128 ≤ k → s.sist.fecWait = [] →
        Answers (.fecSubstSwitch n true) s (fun t => t.sist.fec.find n = some .replaced ∧ t.latched R.TLY_EVT_SUBST_DONE = true
          ∧ t.fld R.TLY_SPARES_FEC = (s.fld R.TLY_SPARES_FEC - 1) % 2 ^ R.TLY_SPARES_FEC.width))
    ∧ (∀ (n : LaneIx) (k : Nat), s.sist.fec.find n = some (.compares k) → 128 ≤ k → 2 ≤ s.fld R.TLY_SPARES_FEC →
        Answers (.fecSubstSwitch n false) s (fun t => t.sist.fec.find n = some (.compares 0)
          ∧ t.fld R.TLY_SPARES_FEC = (s.fld R.TLY_SPARES_FEC - 1) % 2 ^ R.TLY_SPARES_FEC.width))
    ∧ (∀ k : Fin 5, s.liveTarget = some k.val → k.val ∈ s.raise.liveOut → Answers (.joinerSubstTrigger k) s (fun t => t = s))
    ∧ (∀ (k : Fin 5) (i : Nat), s.liveTarget ≠ some k.val → s.coreOut k = false → s.joinerBusy = false → s.spareCore = some i → i ≠ k.val → s.autoSubst 3 = true →
        Answers (.joinerSubstTrigger k) s (fun t => t.sist.joiner = some (k.val, frameAdd s.frame 1)
          ∧ t.flag R.TLY_STAT_SIST_BUSY = true))
    ∧ (∀ (k : Fin 5), s.liveTarget ≠ some k.val → s.coreOut k = false → s.joinerBusy = false → s.spareCore = none →
        Answers (.joinerSubstTrigger k) s (fun t => t.coreOut k = true ∧ t.latched R.TLY_EVT_SPARE_EXHAUSTED = true))
    ∧ (∀ (dataOk : Bool) (k f i : Nat), s.sist.joiner = some (k, f) → s.spareCore = some i → frameReached s.frame f = true →
        s.sist.joinerWait = [] → Answers (.joinerSubstDone dataOk) s (fun t => t.sist.joiner = none ∧ t.coreOut k = true
          ∧ t.fld R.MTX_JMAP_CORES = jmapSwap (s.fld R.MTX_JMAP_CORES) k i % 2 ^ 12 ∧ t.fld R.TLY_SPARES_JOINER = 0
          ∧ t.latched R.MTX_EVT_JMAP_CHANGE = true ∧ t.latched R.TLY_EVT_SUBST_DONE = true))
    ∧ (∀ (e : Fin 68) (n : Nat), s.fld R.SCB_STAT_SPARES = n + 1 → n < 8 → Answers (.scribeEngineRetire e) s (fun t =>
        t.fld R.SCB_STAT_SPARES = n ∧ t.fld R.TLY_SPARES_SCRIBE = n ∧ t.fld R.SCB_STAT_ENGINES = s.fld R.SCB_STAT_ENGINES
          ∧ t.latched R.SCB_EVT_ENGINE_SUB = true ∧ t.latched R.TLY_EVT_SUBST_DONE = true
          ∧ ∀ c, s.chg = some c → t.chg = some (if c.state = .compiling then { c with began := s.frame } else c)))
    ∧ (∀ (e : Fin 68), s.fld R.SCB_STAT_SPARES = 0 → Answers (.scribeEngineRetire e) s (fun t =>
        t.fld R.SCB_STAT_ENGINES = (s.fld R.SCB_STAT_ENGINES - 1) % 2 ^ R.SCB_STAT_ENGINES.width
          ∧ t.latched R.TLY_EVT_SPARE_EXHAUSTED = true))

/-- R468, R472 to R474: the oldest record that waits takes the next place of the log, at most 16 in a second; one beyond them is counted, and
LOG_SUPPRESS latched; the ageing sample of each hour takes the next summary block, and warns of a slowed ring oscillator. -/
def Obligations.TallyRecords : Prop :=
  ∀ s : State,
    (∀ r rest, s.tallyQ = r :: rest → s.tallySecond < 16 → (s.tallySecond ≠ 0 ∨ s.tallyLost = 0) →
        Answers .tallyRecord s (fun t => t.tallyQ = rest ∧ t.tallySecond = s.tallySecond + 1
          ∧ t.tally.log.get s.tally.next [] = recordBytes s.tally.seq s.tally.raises r
          ∧ t.tally.next = (s.tally.next + 1) % 12032 ∧ t.tally.seq = (s.tally.seq + 1) % 2 ^ 32
          ∧ ∀ k, k ≠ s.tally.next → t.tally.log.get k [] = s.tally.log.get k []))
    ∧ (∀ r rest, s.tallyQ = r :: rest → s.tallySecond = 0 → s.tallyLost ≠ 0 →
        Answers .tallyRecord s (fun t => t.tallyQ = rest ∧ t.tallyLost = 0 ∧ t.tallySecond = 2
          ∧ t.tally.log.get ((s.tally.next + 1) % 12032) [] = recordBytes ((s.tally.seq + 1) % 2 ^ 32) s.tally.raises r))
    ∧ (∀ r rest, s.tallyQ = r :: rest → 16 ≤ s.tallySecond →
        Answers .tallyRecord s (fun t => t.tallyQ = rest ∧ t.tally = s.tally ∧ t.tallyLost = s.tallyLost + 1
          ∧ t.latched R.TLY_EVT_LOG_SUPPRESS = true))
    ∧ (∀ a : AgeSample, s.ticking = true → 28800000 ≤ s.sinceFrame s.sist.ageFrom →
        Answers (.ageingSample a) s (fun t => t.tally.block = (s.tally.block + 1) % 16
          ∧ t.tally.blocks.get ((s.tally.block + 1) % 16) {} = s.summaryBlock a
          ∧ (∀ k, k ≠ (s.tally.block + 1) % 16 → t.tally.blocks.get k {} = s.tally.blocks.get k {})
          ∧ t.tally.log = s.tally.log ∧ t.sist.ageFrom = frameAdd s.sist.ageFrom 28800000
          ∧ ((∃ v ∈ a.ro, s.fld R.TLY_SIST_CFG_RO_MAX < v.toNat) → t.latched R.TLY_EVT_AGE_WARN = true)))

/-- R476 to R479: GO starts verification; a record that fails a check is refused with the first check's code, a new NONCE, and no fuse or
service flag changed; a good one is written as pending, and by the next tick it has programmed the fuses or the flag, unless a tamper response runs
(R485); then a transition wipes, and a DECOMMISSIONED device raises from P0. The instant at which NONCE changes is DEDUCED (log entry 6). -/
def Obligations.LifeCycle : Prop :=
  ∀ (m : Master) (w : Word) (s : State),
    (s.accepts m RN.TLY_LC_CTRL 0 = true → s.flag R.TLY_LC_STAT_PENDING = false →
        Answers (.lcGo m w) s (fun t => t.resp.status = .ok ∧ t.flag R.TLY_LC_STAT_PENDING = true ∧ t.tally = s.tally ∧ t.fuses = s.fuses))
    ∧ (s.accepts m RN.TLY_LC_CTRL 0 = true → s.flag R.TLY_LC_STAT_PENDING = true →
        Answers (.lcGo m w) s (fun t => t.tally.result = 0x9 ∧ t.flag R.TLY_LC_STAT_PENDING = true ∧ t.fuses = s.fuses))
    ∧ (∀ code, s.flag R.TLY_LC_STAT_PENDING = true → s.guarding.done = none → s.lcFault s.lcRecord = some code →
        Answers .lcVerifyDone s (fun t => t.flag R.TLY_LC_STAT_PENDING = false ∧ t.tally.result = code
          ∧ t.fuses = s.fuses ∧ t.tally.service = s.tally.service ∧ t.latched R.TLY_EVT_LC_REFUSED = true
          ∧ t.fld R.TLY_LC_NONCE_NONCE = Config.nonce s.free % 2 ^ 32))
    ∧ (s.flag R.TLY_LC_STAT_PENDING = true → s.guarding.done = none → s.lcFault s.lcRecord = none →
        Answers .lcVerifyDone s (fun t => t.guarding.done.isSome = true ∧ t.fuses = s.fuses ∧ t.tally.service = s.tally.service
          ∧ t.tally.pend = some (leAt s.lcRecord 4 1, leAt s.lcRecord 5 1)
          ∧ (s.guarding.running = true → t.programLife.fuses = s.fuses ∧ t.programLife.tally.result = 0xB
            ∧ t.programLife.flag R.TLY_LC_STAT_PENDING = false)
          ∧ (s.guarding.running = false → leAt s.lcRecord 4 1 = 1 → t.programLife.lifeCode = leAt s.lcRecord 5 1)
          ∧ (s.guarding.running = false → leAt s.lcRecord 4 1 = 2 → t.programLife.lifeCode = s.lifeCode
            ∧ t.programLife.fuses.revoked.getLsbD (leAt s.lcRecord 5 1) = true)))
    ∧ (∀ target key now, s.guarding.done = some (1, target, key, now) → frameLater s.frame s.guarding.doneAt = true → target ≠ 4 →
        Answers .lcWipe s (fun t => t.flag R.TLY_LC_STAT_PENDING = false ∧ t.tally.result = 0x1 ∧ t.tally.pend = none
          ∧ t.fld R.TLY_LC_STAT_STATE = s.lifeCode ∧ t.latched R.TLY_EVT_LC_DONE = true ∧ t.flag R.TLY_STAT_REKEY = true
          ∧ t.ddr.keys = s.ddr.keys + 1 ∧ ∀ a, 0x10380000 ≤ a → a < 0x103A0000 → t.byte a = 0))
    ∧ (∀ target key now, s.guarding.done = some (2, target, key, now) → frameLater s.frame s.guarding.doneAt = true →
        Answers .lcWipe s (fun t => t.flag R.TLY_LC_STAT_PENDING = false ∧ t.tally.result = 0x1 ∧ t.mem = s.mem
          ∧ t.latched R.TLY_EVT_LC_DONE = true))
    ∧ (∀ key now, s.guarding.done = some (1, 4, key, now) → frameLater s.frame s.guarding.doneAt = true →
        Answers .lcWipe s (fun t => t.phase = 0 ∧ t.raise.running = true ∧ t.fuses = s.fuses))

/-- R480 to R485: a source that becomes active starts a response: TAMPER, the wipe, and what POLICY adds; while one runs it joins it, and a life-cycle
operation whose fuses are not programmed is abandoned; a source that holds starts none. The wipe's recovery ends row by row, and REKEY_DONE is latched.
That a response stands until the next tick, that an operation is abandoned with 0xB, and that SCENE_RELOAD_DONE of an image that fails its checks has no
effect, are DEDUCED (log entry 24). -/
def Obligations.Tamper : Prop :=
  ∀ s : State,
    (∀ (src : BitVec 7) (fresh : Nat), fresh = Nat.land (s.activeSources src.toNat) (0x7F - s.guarding.seen) →
        fresh ≠ 0 → s.guarding.running = false →
        Answers (.tamperCondition src) s (fun t => t.latched R.TLY_EVT_TAMPER = true ∧ t.fld R.TLY_TAMP_STAT_LAST = fresh
          ∧ t.flag R.TLY_REKEY_MAP = true ∧ t.flag R.TLY_REKEY_SCENES = true ∧ t.flag R.TLY_STAT_REKEY = true
          ∧ t.ddr.keys = s.ddr.keys + 1 ∧ (∀ a, 0x10380000 ≤ a → a < 0x103A0000 → t.byte a = 0) ∧ t.fuses = s.fuses
          ∧ (s.fld R.TLY_TAMP_CFG_POLICY = 0 → t.fld R.TLY_STAT_LOCKED = s.fld R.TLY_STAT_LOCKED ∧ t.ownerPort = s.ownerPort)
          ∧ (s.fld R.TLY_TAMP_CFG_POLICY = 1 → t.flag R.TLY_STAT_LOCKED = true ∧ t.ownerPort = noPort)
          ∧ (s.fld R.TLY_TAMP_CFG_POLICY = 2 → t.flag R.TLY_STAT_LOCKED = true ∧ t.flag R.TLY_STAT_HALTED = true ∧ t.ownerPort = noPort)))
    ∧ (∀ (src : BitVec 7) (fresh : Nat), fresh = Nat.land (s.activeSources src.toNat) (0x7F - s.guarding.seen) →
        fresh ≠ 0 → s.guarding.running = true →
        Answers (.tamperCondition src) s (fun t => t.guarding.mask = Nat.lor s.guarding.mask fresh ∧ t.mem = s.mem ∧ t.ddr = s.ddr
          ∧ (s.flag R.TLY_LC_STAT_PENDING = true → (s.guarding.done = none ∨ s.guarding.auth ≠ []) →
              t.flag R.TLY_LC_STAT_PENDING = false ∧ t.tally.result = 0xB ∧ t.tally.pend = none ∧ t.fuses = s.fuses)))
    ∧ (∀ (src : BitVec 7), Nat.land (s.activeSources src.toNat) (0x7F - s.guarding.seen) = 0 →
        Answers (.tamperCondition src) s (fun t => t.mem = s.mem ∧ t.ddr = s.ddr ∧ t.guarding.running = s.guarding.running
          ∧ t.guarding.asserted = src.toNat ∧ t.guarding.seen = s.activeSources src.toNat ∧ t.fld R.TLY_EVT = s.fld R.TLY_EVT))
    ∧ Answers .mapRebuildDone s (fun t => t.flag R.TLY_REKEY_MAP = false ∧ t.sched = s.sched)
    ∧ (∀ img : ImageBytes, s.flag R.TLY_REKEY_SCENES = true → s.imageFault (s.imageOf img) s.slotRoom = none →
        Answers (.sceneReloadDone img) s (fun t => t.flag R.TLY_REKEY_SCENES = false))
    ∧ (∀ (img : ImageBytes) (e : Nat × Nat), s.imageFault (s.imageOf img) s.slotRoom = some e → Answers (.sceneReloadDone img) s (fun t => t = s))
    ∧ (s.flag R.TLY_STAT_REKEY = true → s.flag R.TLY_REKEY_MAP = false → s.flag R.TLY_REKEY_SCENES = false → s.stripesGone = true →
        Answers .rekeyDone s (fun t => t.flag R.TLY_STAT_REKEY = false ∧ t.flag R.TLY_REKEY_LONGPATH = false
          ∧ t.latched R.TLY_EVT_REKEY_DONE = true))


/-! ### The mate pair (chapter 9) -/

/-- R299 to R301, R303, R308, R316, R317: what each event of the mate unit does to the mate state and to what MAT_STAT shows, from each
state it names, and that it leaves the state where its condition does not hold. -/
def Obligations.MateStates : Prop :=
  ∀ s : State,
    (∀ (lvl : Bool) (c : Fin 165888), s.paired = true → s.nearT c = false → Answers (.arbChange lvl c) s (fun t =>
        t.flag R.MAT_STAT_ARB_IN = lvl
        ∧ (lvl = true → s.mateState = mateWait → s.phase = 7 → s.flag R.MAT_STAT_CONFLICT = false → t.enteredMate mateJoining)
        ∧ (s.mateState ≠ mateWait → t.mateState = s.mateState)
        ∧ (lvl = false → s.isStandby = true → s.flag R.MAT_STAT_HB_OK = true → s.flag R.MAT_PEER_VALID = true →
            s.fld R.MAT_PEER_STATE = mateActive → s.flag R.MAT_PEER_HEALTHY = true →
            t.latched R.MAT_EVT_ARB_FAULT = true)))
    ∧ (∀ (lvl : Bool) (c : Fin 165888), s.nearT c = true → Answers (.arbChange lvl c) s (fun t => t.mateState = s.mateState
        ∧ t.flag R.MAT_STAT_ARB_IN = s.flag R.MAT_STAT_ARB_IN))
    ∧ (s.mateState = mateWait → s.phase = 7 → frameReached s.frame (frameAdd s.mate.waitFrom s.waitFrames) = true →
        (s.flag R.MAT_STAT_CONFLICT = false → s.flag R.MAT_STAT_ARB_IN = false → (s.flag R.MAT_STAT_HB_OK = false ∨ s.peerActive = false) →
          Answers .startupWaitExpiry s (fun t => t.enteredMate mateAlone))
        ∧ (s.flag R.MAT_STAT_CONFLICT = true → s.higherSerial = true → Answers .startupWaitExpiry s (fun t => t.mateState = mateWait))
        ∧ (s.flag R.MAT_STAT_CONFLICT = true → s.higherSerial = false → Answers .startupWaitExpiry s (fun t => t.enteredMate mateAlone)))
    ∧ (s.paired = true → s.heartbeatCame = false → Answers .heartbeatLoss s (fun t => t.flag R.MAT_STAT_HB_OK = false
        ∧ (s.mateState = mateActive → t.enteredMate mateAlone) ∧ (s.mateState ≠ mateActive → t.mateState = s.mateState)))
    ∧ ((s.mateState = mateJoining ∨ s.mateState = mateReady) → s.flag R.MAT_STAT_ARB_IN = true → 8 ≤ s.silence →
        Answers .isolate s (fun t => t.enteredMate mateIsolated))
    ∧ (s.flag R.MAT_STAT_CONFLICT = true → (∀ f, s.mate.hbAt = some f → 8192 ≤ s.sinceFrame f) →
        Answers .sideConflictTimeout s (fun t => t.flag R.MAT_STAT_CONFLICT = false ∧ t.mateState = s.mateState))
    ∧ (s.mateState = mateJoining → Answers .standbyReady s (fun t => t.flag R.MAT_NREADY_COPY = (!s.copyDone)
        ∧ t.flag R.MAT_NREADY_JOURNAL = s.behind
        ∧ (s.flag R.MAT_STAT_CONFLICT = false → s.readyHolds = true → t.enteredMate mateReady)
        ∧ ((s.flag R.MAT_STAT_CONFLICT = true ∨ s.readyHolds = false) → t.mateState = mateJoining)))
    ∧ (s.mateState = mateReady → s.readyHolds = false → Answers .standbyUnready s (fun t => t.enteredMate mateJoining
        ∧ t.flag R.MAT_STAT_KEPT = false ∧ t.mate.installed = s.mate.installed))
    ∧ (∀ j, s.isStandby = true → s.mate.installed = true → s.jsentNamed = some j → frameLater j (s.fld R.MAT_JACK_VALUE) = true →
        Answers .journalGap s (fun t => t.flag R.MAT_NREADY_JOURNAL = true ∧ (s.mateState = mateReady → t.enteredMate mateJoining ∧ t.flag R.MAT_STAT_KEPT = false)
          ∧ (s.mateState ≠ mateReady → t.mateState = s.mateState)))
    ∧ (∀ why : FailCause, (s.paired = true → s.failsFor why = true → Answers (.deviceFail why) s (fun t => t.mateState = mateFailed
            ∧ (s.mateState ≠ mateFailed → t.latched R.MAT_EVT_STATE_CHANGE = true
              ∧ (s.justTook = true → t.latched R.MAT_EVT_TAKE_FAIL = true))))
        ∧ ((s.paired = false ∨ s.failsFor why = false) → Answers (.deviceFail why) s (fun t => t = s)))

/-- R302, R303, R308 to R315: a valid heartbeat shows the mate and frees what it acknowledges, an invalid one does nothing; a standby holds
records by JSEQ, acknowledges those in order and takes them once its state is complete; the state copy's epochs, slices and install. How slices are cut
and carried, and which records wait, are the model's readings (log entries 13 and 51), and so is that heartbeats for frames before a takeover's T leave
its new active alone (log entry 50). -/
def Obligations.JournalAndCopy : Prop :=
  ∀ s : State,
    (∀ (l : Fin 8) (ws : List SlotWord) (p : List Nat), s.paired = true → s.goodHeartbeat l (ws.map BitVec.toNat) = some p →
        Answers (.heartbeatRx l ws) s (fun t => t.flag R.MAT_STAT_HB_OK = true ∧ t.flag R.MAT_PEER_VALID = true
          ∧ t.fld R.MAT_PEER_STATE = bits (p.getD 0 0) 20 4 ∧ t.mate.hbAt = some s.frame ∧ t.mate.peerFrame = p.getD 1 0
          ∧ t.mate.journal = s.mate.journal.filter (fun r => frameLater r.seq (p.getD 3 0))
          ∧ (bit (p.getD 0 0) 19 = s.fld R.MAT_STAT_SIDE → t.flag R.MAT_STAT_CONFLICT = true ∧ t.latched R.MAT_EVT_SIDE_CONFLICT = true)
          ∧ (bit (p.getD 0 0) 19 ≠ s.fld R.MAT_STAT_SIDE → t.flag R.MAT_STAT_CONFLICT = false
            ∧ (s.mateState = mateActive → bits (p.getD 0 0) 20 4 ≠ mateReady →
                (∀ k, s.mate.take = some k → k.mine = true → k.done = true → frameLater k.t (p.getD 1 0) = false) → t.enteredMate mateAlone)
            ∧ (s.mateState = mateAlone → bits (p.getD 0 0) 20 4 = mateReady → t.enteredMate mateActive)
            ∧ (s.mateState = mateIsolated → t.enteredMate mateJoining))))
    ∧ (∀ (l : Fin 8) (ws : List SlotWord), s.goodHeartbeat l (ws.map BitVec.toNat) = none → Answers (.heartbeatRx l ws) s (fun t => t = s))
    ∧ (∀ (g : JournalMsg) (c : Instr) (kind : Nat),
        (c, kind) ∈ [(Instr.change g, recChange), (.rearm g, recRearm), (.cancel g, recCancel), (.commit g, recCommit), (.bent g, recBent),
          (.command g, recCommand), (.info g, recInfo)] →
        (s.wantsRec g.seq.toNat → s.mate.installed = false → Answers c s (fun t =>
            t.mate.recv = insertRec (msgRecord g kind) s.mate.recv ∧ t.sched = s.sched ∧ t.queued = s.queued
              ∧ t.fld R.MAT_JACK_VALUE = ackOf (s.fld R.MAT_JACK_VALUE) (insertRec (msgRecord g kind) s.mate.recv) % 2 ^ 32))
        ∧ (s.isStandby = false → Answers c s (fun t => t = s))
        ∧ (s.mate.recv.any (·.seq == g.seq.toNat) = true → Answers c s (fun t => t = s)))
    ∧ (∀ g : JournalMsg, s.inOrder g.seq.toNat →
        Answers (.change g) s (fun t => t.mate.recv = [] ∧ t.fld R.MAT_JACK_VALUE = g.seq.toNat
          ∧ ∃ c, t.queued = s.queued ++ [c] ∧ c.kind = .journal g.seq.toNat ∧ c.named = some g.frame.toNat)
        ∧ Answers (.info g) s (fun t => t.mate.recv = [msgRecord g recInfo] ∧ t.fld R.MAT_JACK_VALUE = g.seq.toNat ∧ t.queued = s.queued)
        ∧ Answers (.commit g) s (fun t => t.mate.recv = [msgRecord g recCommit] ∧ t.fld R.MAT_JACK_VALUE = g.seq.toNat)
        ∧ (∀ q, ((msgRecord g recCancel).units.headD []).getD 0 0 = q → s.chg = none → Answers (.cancel g) s (fun t => t.mate.recv = []
          ∧ t.queued = s.queued.filter (fun (c : Change) => c.kind != ChangeKind.journal q)))
        ∧ (∀ c q, ((msgRecord g recRearm).units.headD []).getD 0 0 = q → s.chg = some c → c.kind = .journal q → c.state = .armed →
          Answers (.rearm g) s (fun t => t.mate.recv = [] ∧ t.chg = some { c with cseq := g.cseq.toNat, stale := true }))
        ∧ (∀ u rest, (msgRecord g recBent).units = u :: rest → (msgRecord g recBent).units.filterMap unitOf ≠ [] →
          Answers (.bent g) s (fun t => t.mate.recv = [] ∧ t.actions = s.actions ++ [s.deferNow { bent := bits (u.getD 0 0) 0 14, at' := g.frame.toNat,
                                                                                                   units := (msgRecord g recBent).units.filterMap unitOf }]))
        ∧ (∀ a v r i, pairsOf (msgRecord g recCommand).units = [(a, v)] → findReg a = some (r, i) → r.id = RN.BNT_RETIME_FRAME →
          Answers (.command g) s (fun t => t.mate.recv = [] ∧ t.fld R.BNT_RETIME_FRAME_FRAME i = v % 2 ^ R.BNT_RETIME_FRAME_FRAME.width)))
    ∧ (∀ (e : BitVec 8) (due : List Nat), s.mayCopy = true →
        ((e = 0 ∧ s.catchesUp = false) ∨ e.toNat = s.fld R.MAT_COPY_EPOCH + 1) →
        due = (if e = 0 then List.range 65 else s.mate.dirty) →
        Answers (.copyStart e) s (fun t => t.fld R.MAT_COPY_PHASE = (if due = [] then 2 else 1) ∧ t.fld R.MAT_COPY_EPOCH = e.toNat
          ∧ t.fld R.MAT_COPY_SLICE = 0 ∧ t.mate.due = due ∧ t.mate.slices = [] ∧ t.mateState = s.mateState))
    ∧ (∀ e : BitVec 8, s.mayTakeCopy = true →
        Answers (.copyStart e) s (fun t => t.fld R.MAT_COPY_PHASE = 1 ∧ t.fld R.MAT_COPY_EPOCH = e.toNat ∧ t.fld R.MAT_COPY_SLICE = 0
          ∧ t.mate.stage = [] ∧ t.mate.slices = [] ∧ t.mateState = mateJoining
          ∧ t.mate.installed = s.mate.installed ∧ (e = 0 → t.flag R.MAT_STAT_KEPT = false)))
    ∧ (∀ (j : Fin 65) (l : List CopyEntry), s.fld R.MAT_COPY_PHASE = 1 → s.isActive = true → j.val ∈ s.mate.due → j.val ∉ s.mate.slices →
        (∀ c, s.chg = some c → s.mate.slices.length + 1 ≠ s.mate.due.length ∨ c.done ≠ 0 ∨ c.jseq.isSome = true ∨ c.state = .compiling) →
        Answers (.copySlice j l) s (fun t =>
          t.mate.out = s.mate.out ++ [{ frame := s.frame, blk := s.mate.blkNext, entries := s.sliceEntries j }]
          ∧ t.mate.dirty = (if s.mate.slices.length + 1 = s.mate.due.length then [] else s.mate.dirty)
          ∧ t.mate.slices = s.mate.slices ++ [j.val] ∧ t.fld R.MAT_COPY_SLICE = (s.mate.slices.length + 1) % 2 ^ R.MAT_COPY_SLICE.width
          ∧ t.fld R.MAT_COPY_PHASE = (if s.mate.slices.length + 1 = s.mate.due.length then 2 else 1) ∧ t.sched = s.sched ∧ t.chg = s.chg))
    ∧ (∀ (j : Fin 65) (l : List CopyEntry) (c : Change) (f : Nat), s.fld R.MAT_COPY_PHASE = 1 → s.isActive = true → j.val ∈ s.mate.due →
        j.val ∉ s.mate.slices → s.mate.slices.length + 1 = s.mate.due.length → s.chg = some c → c.frame = some f → c.done = 0 →
        c.jseq = none → c.state ≠ .compiling →
        Answers (.copySlice j l) s (fun t => t.sched = s.sched ∧ t.chg = some { c with jseq := some ((s.mate.jSeq + 1) % 2 ^ 32) }))
    ∧ (∀ (j : Fin 65) (l : List CopyEntry), s.fld R.MAT_COPY_PHASE = 1 → s.mateState = mateJoining → j.val ∉ s.mate.slices →
        Answers (.copySlice j l) s (fun t => t.mate.slices = s.mate.slices ++ [j.val]
          ∧ t.mate.stage = s.mate.stage ++ l.filter (fun e => copySlice e == j.val)
          ∧ t.fld R.MAT_COPY_PHASE = (if s.mate.slices.length = 64 then 2 else 1) ∧ t.sched = s.sched))
    ∧ (∀ e : BitVec 8, s.isActive = true → e = 0 → s.catchesUp = true → Answers (.copyStart e) s (fun t => t = s))
    ∧ (s.isActive = true → s.fld R.MAT_COPY_PHASE = 2 → s.mate.inbound = false →
        Answers .epochInstall s (fun t => t.fld R.MAT_COPY_PHASE = 3 ∧ t.sched = s.sched ∧ t.mate.peerHad = true))
    ∧ (s.isActive = true → s.fld R.MAT_COPY_PHASE = 2 → s.mate.inbound = true →
        Answers .epochInstall s (fun t => t.fld R.MAT_COPY_PHASE = 0 ∧ t.mate.installed = true ∧ t.mate.stage = [] ∧ t.mate.inbound = false
          ∧ t.latched R.MAT_EVT_EPOCH_DONE = true))
    ∧ (s.mateState = mateJoining → (s.fld R.MAT_COPY_PHASE = 2 ∨ (s.fld R.MAT_COPY_PHASE = 1 ∧ s.fld R.MAT_COPY_EPOCH ≠ 0)) →
        Answers .epochInstall s (fun t => t.fld R.MAT_COPY_PHASE = 3 ∧ t.mate.installed = true ∧ t.mate.stage = []
          ∧ t.latched R.MAT_EVT_EPOCH_DONE = true))

/-- R300, R318, R320, R321, R327, R328: a standby that finds a cause decides a takeover for two frames later, unless the votes veto it; at T
the new active enters ALONE and the former one steps down, or, where it has FAILED, goes on announcing T; a takeover that fails; planned handovers,
REJOIN and RECOPY. That votes veto a TAKE_BACK too, and that a handover out of ALONE leads to JOINING where R327 names only ACTIVE, are DEDUCED (log
entry 50). -/
def Obligations.Takeovers : Prop :=
  ∀ s : State,
    (∀ c, s.isStandby = true → s.flag R.MAT_STAT_CONFLICT = false →
        (∀ k, s.mate.take = some k → k.done = true ∨ k.mine = false ∨ k.handover = true) →
        (s.gaveUp = false ∨ (s.peerFailed = false ∧ s.arbLink = false)) → s.takeCause = some c →
        (s.majority (1 - s.fld R.MAT_STAT_SIDE) = false → Answers .takeoverDecide s (fun t => t.fld R.MAT_TAKE_CAUSE = c
            ∧ t.fld R.MAT_TAKE_FRAME_VALUE = frameAdd s.frame 2 ∧ t.mateState = s.mateState
            ∧ ∃ k, t.mate.take = some k ∧ k.t = frameAdd s.frame 2 ∧ k.mine = true ∧ k.done = false ∧ k.handover = false))
        ∧ (s.majority (1 - s.fld R.MAT_STAT_SIDE) = true → Answers .takeoverDecide s (fun t => t.latched R.MAT_EVT_VETO = true
            ∧ t.mate.take = s.mate.take ∧ t.mateState = s.mateState)))
    ∧ (s.gaveUp = true → s.isStandby = true → s.flag R.MAT_STAT_CONFLICT = false → (s.peerFailed = true ∨ s.arbLink = true) →
        (s.mateState = mateJoining → s.flag R.MAT_STAT_KEPT = true → s.majority (1 - s.fld R.MAT_STAT_SIDE) = false → Answers .takeoverDecide s (fun t =>
            t.fld R.MAT_TAKE_CAUSE = 7 ∧ t.fld R.MAT_TAKE_FRAME_VALUE = frameAdd s.frame 2))
        ∧ (s.mateState = mateJoining → s.flag R.MAT_STAT_KEPT = true → s.majority (1 - s.fld R.MAT_STAT_SIDE) = true → Answers .takeoverDecide s (fun t =>
            t.latched R.MAT_EVT_VETO = true ∧ t.mate.take = s.mate.take ∧ t.mateState = s.mateState))
        ∧ ((s.mateState ≠ mateJoining ∨ s.flag R.MAT_STAT_KEPT = false) → Answers .takeoverDecide s (fun t => t.enteredMate mateFailed)))
    ∧ (∀ k, s.mate.take = some k → k.done = false → frameReached s.frame k.t = true →
        (k.mine = true → s.isStandby = true → Answers .takeoverEffect s (fun t => t.enteredMate mateAlone
            ∧ t.flag R.MAT_STAT_ARB_OUT = true ∧ t.mate.take = some { k with done := true, mask := s.mate.peerMask }
            ∧ (k.handover = false → t.latched R.MAT_EVT_TAKEOVER = true) ∧ (k.handover = true → t.latched R.MAT_EVT_HANDOVER = true)))
        ∧ (k.mine = false → s.isActive = true → Answers .takeoverEffect s (fun t => t.flag R.MAT_STAT_ARB_OUT = false
            ∧ (k.handover = false → t.enteredMate mateJoining ∧ t.flag R.MAT_STAT_KEPT = true)
            ∧ (k.handover = true → t.latched R.MAT_EVT_HANDOVER = true
              ∧ (s.mateState = mateActive → t.enteredMate mateReady) ∧ (s.mateState = mateAlone → t.enteredMate mateJoining)))))
    ∧ (∀ k, s.mate.take = some k → k.done = false → frameReached s.frame k.t = true → k.mine = false → s.mateState = mateFailed →
        Answers .takeoverEffect s (fun t => t.mateState = mateFailed ∧ t.mate.take = some { k with done := true } ∧ t.regs = s.regs))
    ∧ (∀ k, s.mate.take = some k → frameReached s.frame k.t = false → Answers .takeoverEffect s (fun t => t = s))
    ∧ (∀ k, s.mate.take = some k → s.justTook = true → s.paired = true → s.mateState ≠ mateFailed → s.fld R.MAT_CFG_GRN_PORTS ≠ 0 →
        s.fld R.MAT_CFG_GRN_PORTS ≤ (List.range 256).countP (fun o => s.faultMask.testBit o && !k.mask.testBit o) →
        Answers .takeoverFail s (fun t => t.enteredMate mateFailed ∧ t.latched R.MAT_EVT_TAKE_FAIL = true
          ∧ t.flag R.MAT_STAT_ARB_OUT = false))
    ∧ (s.mateState = mateActive → s.flag R.MAT_STAT_SIDE = true → s.flag R.MAT_CFG_REVERT = true → s.fld R.MAT_PEER_STATE = mateReady →
        s.taking = false → 8000 * s.fld R.MAT_CFG_WTR ≤ s.sinceFrame s.mate.wtrFrom →
        Answers .mateWtrExpiry s (fun t => t.fld R.MAT_TAKE_CAUSE = 6 ∧ t.fld R.MAT_TAKE_FRAME_VALUE = frameAdd s.frame 2
          ∧ t.mateState = mateActive ∧ ∃ k, t.mate.take = some k ∧ k.mine = false ∧ k.handover = true ∧ k.done = false))
    ∧ (∀ (m : Master) (w : Word), s.admits m RN.MAT_CTRL 0 = true → s.paired = true →
        (s.mateState = mateActive → s.taking = false → Answers (.switch m w) s (fun t => t.resp.status = .ok
            ∧ t.fld R.MAT_TAKE_CAUSE = 5 ∧ t.fld R.MAT_TAKE_FRAME_VALUE = frameAdd s.frame 2 ∧ t.mateState = mateActive
            ∧ ∃ k, t.mate.take = some k ∧ k.mine = false ∧ k.handover = true ∧ k.done = false))
        ∧ (s.mateState ≠ mateActive → (s.mateState = mateFailed → bit w.toNat 1 = 0) → Answers (.switch m w) s (fun t =>
            t.latched R.MAT_EVT_MIRROR_WRITE = true ∧ t.mate.take = s.mate.take ∧ t.mateState = s.mateState))
        ∧ (s.mateState = mateFailed → Answers (.rejoin m w) s (fun t => t.resp.status = .ok ∧ t.enteredMate mateWait
            ∧ t.mate.waitFrom = frameAdd s.frame 1))
        ∧ (s.copyable = true → Answers (.recopy m w) s (fun t => t.resp.status = .ok ∧ t.fld R.MAT_COPY_EPOCH = 0
            ∧ t.fld R.MAT_COPY_PHASE = 1 ∧ t.fld R.MAT_COPY_SLICE = 0 ∧ t.mate.due = List.range 65))
        ∧ (s.isActive = true → s.copyable = false → Answers (.recopy m w) s (fun t => t.resp.status = .ok ∧ t.mate.want = true
            ∧ t.fld R.MAT_COPY_PHASE = s.fld R.MAT_COPY_PHASE)))


/-! ### Raising and the tick (chapters 1, 10 and 12) -/

/-- R333, R337 to R342, R345, R361, R425, R430: raising starts at P0 with all but the fuses and the tally lost, goes through its phases as
each phase's work ends, tries the slots in order, and starts again, stops or halts where the rules say so; a JTAG instruction that takes the balls
stops it. The code that the first slot leaves (log entry 20), the halt at once with no flash or fewer than two joiner cores (log entry 21), and what
RAISE_START, a supply's fault and the TAP's leaving do to the tamper unit and to a raising (log entry 23), are the model's readings. -/
def Obligations.RaisingRuns : Prop :=
  ∀ s : State,
    (s.raise.running = false → s.raise.jtag = false → Answers .raiseStart s (fun t => t.phase = 0 ∧ t.raise.running = true ∧ t.mem = []
        ∧ t.fuses = s.fuses ∧ t.tally.raises = s.drainTally.tally.raises + 1 ∧ (s.guarding.asserted = 0 → t.staged = {} ∧ t.lanes = {})
        ∧ (Nat.land s.guarding.asserted 0x70 ≠ 0 → t.flag R.IMG_RAISE_HALTED = true)))
    ∧ (s.raise.running = false → s.raise.jtag = true → Answers .raiseStart s (fun t => t.raise.held = false ∧ t.raise.stopped = true
        ∧ t.raise.running = false))
    ∧ (∀ c ∈ [Instr.resetAssert, .supplyFault], Answers c s (fun t => t.phase = 0 ∧ t.raise.running = false ∧ t.mem = [] ∧ t.staged = {}
        ∧ t.lanes = {} ∧ t.fuses = s.fuses ∧ t.raise.held = (c == .resetAssert || s.raise.held)
        ∧ (c = .supplyFault → t.fld R.TLY_TAMP_CFG_POLICY = s.fld R.TLY_TAMP_CFG_POLICY % 2 ^ R.TLY_TAMP_CFG_POLICY.width
          ∧ t.fld R.TLY_TAMP_CFG_IN_EN = s.fld R.TLY_TAMP_CFG_IN_EN % 2 ^ R.TLY_TAMP_CFG_IN_EN.width ∧ t.guarding.seen = s.guarding.seen)))
    ∧ (∀ (f : Fuses) (side slow : Bool), s.raising = true → s.phase = 0 → Answers (.fuseReadDone f side slow) s (fun t => t.phase = 1
        ∧ t.flag R.MAT_STAT_SIDE = side ∧ t.raise.slow = slow ∧ FusesForward s.fuses t.fuses))
    ∧ (∀ fl : FlashInfo, s.raising = true → s.phase = 1 → Answers (.memoryClearDone fl) s (fun t => t.phase = 2
        ∧ t.fld R.DEV_SERIAL_SERIAL = s.fuses.serial.toNat ∧ t.fld R.TLY_LC_NONCE_NONCE = Config.nonce s.free % 2 ^ 32
        ∧ t.ddr.keys = s.ddr.keys + 1 ∧ t.flag R.IMG_FLASH_SFDP_OK = fl.sfdp
        ∧ (fl.sfdp = true → t.fld R.IMG_FLASH_DENSITY = fl.density.val)
        ∧ t.flag R.IMG_RAISE_HALTED = (!fl.sfdp)
        ∧ (fl.sfdp = false → s.fld R.IMG_RAISE_FAIL = 0 → t.fld R.IMG_RAISE_FAIL = imgNoFlash)))
    ∧ (∀ (config : Fin 4) (temp failed : BitVec 8), s.raise.running = true → s.phase = 2 → s.ddrTrained = false →
        Answers (.ddrTrainingDone config temp failed) s (fun t => t.fld R.DDR_STAT_INSTALLED = installedGb config.val
          ∧ t.fld R.DDR_STAT_USABLE = 7 * installedGb config.val / 8 ∧ t.fld R.DDR_STAT_CONFIG = config.val
          ∧ (∀ n, n < 8 → t.fld R.DDR_CHn_STAT_STATE n = if failed.getLsbD n then 3 else 1)
          ∧ ((List.range 8).countP (fun n => failed.getLsbD n) < 2 →
              t.regionSize 3 = 2 ^ 28 ∧ t.fld R.IMG_STAGE_BASE_BASE = ddrBase + (7 * installedGb config.val / 8 * 1024 - 256) * 2 ^ 20)
          ∧ (2 ≤ (List.range 8).countP (fun n => failed.getLsbD n) → t.flag R.IMG_RAISE_HALTED = true ∧ t.ddrTrained = false)))
    ∧ (∀ (img : ImageBytes) (g : SlotImage) (k : Nat) (second trial : Bool), g = s.imageOf img → s.raising = true → s.phase = 2 →
        s.nextSlot = (k, second, trial) →
        (∀ code sect, s.imageFault g s.slotRoom = some (code, sect) → Answers (.slotVerifyDone img) s (fun t => t.phase = 2
            ∧ t.fld R.IMG_RAISE_SLOT = k % 2 ∧ t.flag R.IMG_SLOTs_STAT_CHECKED k = true ∧ t.flag R.IMG_SLOTs_STAT_VALID k = false
            ∧ t.raise.tried = s.raise.tried ++ [k]
            ∧ (Nat.land (s.activeSources s.guarding.asserted) (0x7F - s.guarding.seen) = 0 →
                (s.fld R.IMG_RAISE_FAIL = 0 → t.fld R.IMG_RAISE_FAIL = code % 2 ^ R.IMG_RAISE_FAIL.width)
                  ∧ t.flag R.IMG_RAISE_HALTED = second)))
        ∧ (s.imageFault g s.slotRoom = none → s.ddrTrained = true → Answers (.slotVerifyDone img) s (fun t =>
            t.raise.tried = s.raise.tried ++ [k] ∧ t.raise.image = some g
              ∧ (t.flag R.IMG_RAISE_HALTED = false → t.phase = 3 ∧ t.fld R.IMG_RAISE_SLOT = k % 2)
              ∧ ((∀ ty, 0x20 ≤ ty → ty ≤ 0x28 → g.ofType ty = []) → s.badLimits 0x20 = false → s.badLimits 0x22 = false →
                4 ≤ s.fld R.DDR_STAT_USABLE → t.phase = 3))))
    ∧ (∀ failed : BitVec 5, s.raising = true → s.phase = 3 →
        (2 ≤ (List.range 5).countP (fun i => !failed.getLsbD i && !s.coreOut i) → Answers (.joinersReady failed) s (fun t => t.phase = 4))
        ∧ ((List.range 5).countP (fun i => !failed.getLsbD i && !s.coreOut i) < 2 → Answers (.joinersReady failed) s (fun t => t.phase = 3
            ∧ t.flag R.IMG_RAISE_HALTED = true)))
    ∧ (s.raising = true → s.phase = 4 → s.ticking = true → 64 ≤ s.frame →
        (s.raise.stepped = true ∨ 800 * s.fld R.IMG_RAISE_CFG_P4_WAIT ≤ s.frame) → Answers .p4End s (fun t => t.phase = 5
          ∧ (t.flag R.IMG_RAISE_HALTED = false → t.mateState = if t.flag R.MAT_CFG_PAIR_EN then mateWait else mateSolo)))
    ∧ (s.raising = true → s.phase = 5 → ((∀ n, n < 280 → s.laneTried n = true) ∨ 80 * s.fld R.IMG_RAISE_CFG_P5_MAX ≤ s.sinceFrame s.raise.p5At) →
        Answers .p5End s (fun t => t.phase = 6))
    ∧ (s.raising = true → s.phase = 6 → s.raise.baseDone = true → s.frame ≠ s.raise.p6At → ∀ drs : BitVec 2, Answers (.raiseReady drs) s (fun t => t.served = true
        ∧ t.mate.waitFrom = s.frame ∧ (∀ p, (t.pcie.get p {}).drsSent = ((s.pcie.get p {}).training && drs.getLsbD p)) ∧ (s.raise.retry = true → t.latched R.IMG_EVT_RAISE_RETRY = true)))
    ∧ (s.raising = true → 3 ≤ s.phase → Answers .raiseWatchdog s (fun t => t.phase = 0 ∧ t.raise.running = true ∧ t.raise.retry = true
        ∧ t.fuses = s.fuses))
    ∧ (s.raising = false → Answers .raiseWatchdog s (fun t => t = s))
    ∧ (∀ k : JtagKind, s.jtagTakes k = true → Answers (.jtagExtestLoad k) s (fun t => t.raise.jtag = true ∧ t.fld R.MTX_STAT_PARK = 8
        ∧ (s.raising = true → t.raise.running = false ∧ t.raise.stopped = true)))
    ∧ (∀ k : JtagKind, s.jtagTakes k = false → s.raise.jtag = false → Answers (.jtagExtestLoad k) s (fun t => t = s))
    ∧ (∀ k : JtagKind, s.jtagTakes k = false → s.raise.jtag = true →
        (s.raise.stopped = true → Answers (.jtagExtestLoad k) s (fun t => t.phase = 0 ∧ t.raise.running = true ∧ t.raise.jtag = false))
        ∧ (s.raise.stopped = false → Answers (.jtagExtestLoad k) s (fun t => t.raise = { s.raise with jtag := false } ∧ t.regs = s.regs)))
    ∧ (s.raise.stopped = true → Answers .jtagExtestLeave s (fun t => t.phase = 0 ∧ t.raise.running = true ∧ t.raise.jtag = false))
    ∧ (s.raise.stopped = false → Answers .jtagExtestLeave s (fun t => t.raise = { s.raise with jtag := false } ∧ t.regs = s.regs))

/-- R17, R20, R143, R177, R249, R267, R271, R308, R311, R387, R392: a tick opens the next frame, or, at Plumb's first, frame 0; a standby that is out
of step takes the frame number of the active; a commit that was asked for is sampled; where there is no owner, the claim of highest PRIO, and of these
that of the lowest port, is granted; the grain reports show the sides in FAULT as the frame ended. In it Plumb selects, the shadow lamination moves on, a
member's relation of long ago no longer looks back, and a standby takes a COMMIT record whose frame has passed, with COMMIT_LATE. -/
def Obligations.TicksOpenFrames : Prop :=
  ∀ s : State,
    (s.phase < 4 → Answers .tick s (fun t => t = s))
    ∧ (4 ≤ s.phase → Answers .tick s (fun t => t.cycle = 0
        ∧ (s.ticking = false → t.frame = 0)
        ∧ (s.ticking = true → s.mate.adopt = none → t.frame = (s.frame + 1) % 2 ^ 32)
        ∧ (∀ f, s.ticking = true → s.mate.adopt = some f → t.frame = f % 2 ^ 32)
        ∧ (s.fld R.DEV_COMMIT_STAT_STATE = 1 → t.sampled = some s.staged)
        ∧ (s.ticking = true → t.sides.shown = s.faultsNow)
        ∧ (∀ c ∈ s.own.claims, s.ownerPort = noPort → s.handing = false → c.1 < 4 → (∀ x ∈ s.own.claims, x ≠ c → s.claimBefore c x = true) →
            t.ownerPort = c.1 ∧ t.own.token = c.2 ∧ t.own.claims = [] ∧ t.latched R.MGT_EVT_OWNER_CHANGE = true)))
    ∧ (s.plb = plbFree → (s.bestRef = none → s.tickSelect = s)
        ∧ ∀ r, s.bestRef = some r → s.tickSelect.plb = plbAcquiring ∧ s.tickSelect.plbSel = r % 16)
    ∧ (s.plb = plbLocked → s.candidate s.plbSel = false →
        (s.bestRef = none → s.tickSelect.plb = (if s.flag R.PLB_STATUS_MODEL_VALID then plbHoldover else plbFree) ∧ s.tickSelect.plbSel = 0xF)
        ∧ ∀ r, s.bestRef = some r → r ≠ s.plbSel → s.tickSelect.plb = plbBridging ∧ s.tickSelect.plbSel = r % 16)
    ∧ (s.plb = plbLocked → s.isStandby = false → s.fld R.PLB_STATUS_CMD_ACT = 0 → s.candidate s.plbSel = true →
        (s.flag R.PLB_CFG_REVERT = false → ∀ r, s.bestAuto = some r →
          (s.selRank r < s.selRank s.plbSel → s.tickSelect.plb = plbBridging ∧ s.tickSelect.plbSel = r % 16)
          ∧ (s.selRank s.plbSel ≤ s.selRank r → s.tickSelect = s))
        ∧ (s.flag R.PLB_CFG_REVERT = true → ∀ r, s.bestAuto = some r → r ≠ s.plbSel →
            s.tickSelect.plb = plbBridging ∧ s.tickSelect.plbSel = r % 16))
    ∧ ((s.plb = plbHoldover ∨ s.plb = plbExpired) → ∀ r, s.bestRef = some r → s.tickSelect.plb = plbBridging ∧ s.tickSelect.plbSel = r % 16)
    ∧ (s.flag R.FAB_LAM_STAT_ROTATE_ACT = true → s.sist.lamsGone = false → s.flag R.FAB_LAM_STAT_SUB_ACT = false →
        (s.frame % 8000 = 0 → s.tickLam.fld R.FAB_LAM_STAT_SHADOW_ACT = (s.fld R.FAB_LAM_STAT_SHADOW_ACT + 1) % 9
          ∧ s.tickLam.fld R.FAB_LAM_STAT_SHADOW_FRAMES = 0)
        ∧ (s.frame % 8000 ≠ 0 → s.tickLam.fld R.FAB_LAM_STAT_SHADOW_ACT = s.fld R.FAB_LAM_STAT_SHADOW_ACT))
    ∧ (∀ src l, s.links.find src = some l → 8192 < s.sinceFrame l.kFrom → s.sinceFrame l.kFrom < 2 ^ 31 → (s.tickLinks.link src).kOld = l.k)
    ∧ (∀ r : JRec, s.isStandby = true → s.mate.installed = true → s.fld R.MAT_COPY_PHASE = 0 → s.mate.recv = [r] → r.kind = recCommit →
        frameReached (s.fld R.MAT_JACK_VALUE) r.seq = true → frameLater s.frame r.frame = true →
        (s.drain true).mate.recv = [] ∧ (s.drain true).fld R.DEV_COMMIT_SEQ_CSEQ = r.cseq % 2 ^ R.DEV_COMMIT_SEQ_CSEQ.width
          ∧ (s.frame ≠ frameAdd r.frame 1 → (s.drain true).latched R.MAT_EVT_COMMIT_LATE = true))


/-! ### The whole device -/

/-- The model's queue of commands (DESIGN CHOICE: log entry 16): a step takes the command at the front, and is its effect on the state with
the rest of the queue; with none waiting the block idles. -/
def Obligations.StepTakesTheFront : Prop :=
  ∀ s : State, (∀ c rest, s.pending = c :: rest → step s = exec c { s with pending := rest })
    ∧ (s.pending = [] → step s = .next s)

/-- Every command completes, in every state, and leaves every register field, every event and all hidden state outside its footprint as it was; every
byte of memory reads as before but those that the command stores to, by the address that the model's own registers give. The footprint of LC_WIPE is
narrower where no device is DECOMMISSIONED, and that of a scarf command where no commit is still to act. -/
def Obligations.EveryCommandKeepsItsFrame : Prop :=
  (∀ (c : Instr) (s : State), ∃ t, exec c s = .next t ∧ Framed (footprint c) s t)
    ∧ (∀ (c : Instr) (s t : State) (a : Nat), exec c s = .next t → ¬ stores c s a → t.byte a = s.byte a)
    ∧ (∀ s : State, (∀ key now, s.guarding.done ≠ some (1, 4, key, now)) → ∃ t, exec .lcWipe s = .next t ∧ Framed lcEndTouches s t)
    ∧ ∀ (g : GroupIx) (s : State), s.sampled = none →
      (∃ t, exec (.scarfWindowEval g) s = .next t ∧ Framed scarfWindowTouches s t)
        ∧ ∃ t, exec (.scarfWtrExpiry g) s = .next t ∧ Framed scarfWindowTouches s t

/-- The memory stays in its canonical form: one list of bytes for one memory. That form, and what an unlisted byte reads as, are the model's choice
(DESIGN CHOICE: log entry 3). -/
def Obligations.MemoryStaysCanonical : Prop := ∀ s t : State, s.MemWf → step s = .next t → t.MemWf

/-- R360, R476: no step takes a fuse back: the life-cycle state and the minimum SVN never fall, and a slot once programmed or revoked stays so. -/
def Obligations.FusesOnlyGoForward : Prop := ∀ s t : State, step s = .next t → FusesForward s.fuses t.fuses

/-- R10, R14: at reset every register field whose Reset column gives a value has that value, in every instance; nothing is
staged, no lane is in SERVICE, and no port owns the device. That no command waits, and that the memory has no byte listed, which is its canonical form,
are the model's choice (log entries 2, 3 and 16). -/
def Obligations.ResetState : Prop :=
  (∀ r ∈ regTable, ∀ c ∈ r.slices, ∀ v, c.fld.rst = .value v → ∀ i, State.reset.fld c.fld i = v)
    ∧ (∀ f i, State.reset.stg f i = State.reset.fld f i) ∧ (∀ n, State.reset.inService n = false) ∧ State.reset.ownerPort = noPort
    ∧ State.reset.pending = [] ∧ State.reset.mem = [] ∧ State.reset.MemWf
end

