-- ==== Sys2Proof/Laws/Address.lean ====
section
/-! SUPPORT. The address of a register's instance finds that register and that instance (R382). -/

set_option Elab.async false

namespace Sys2Proof.Machine

/-- The lowest and the highest address of a register's instances. -/
def Reg.lo (r : Reg) : Nat := r.addr r.first

def Reg.hi (r : Reg) : Nat := r.addr (r.first + r.count - 1)

/-- No address of `r` is one of `q`: their ranges lie apart, or they have one stride and different places in it. -/
def Reg.apart (r q : Reg) : Bool :=
  Nat.blt r.hi q.lo || Nat.blt q.hi r.lo || (r.stride != 0 && r.stride == q.stride && r.lo % r.stride != q.lo % r.stride)

/-- Every register of a list lies apart from each one after it. -/
def regsApart : List Reg → Bool
  | [] => true
  | r :: l => l.all r.apart && regsApart l

/-- The registers' numbers rise along a list. -/
def regsRise : List Reg → Bool
  | r :: q :: l => Nat.blt r.id q.id && regsRise (q :: l)
  | _ => true

/-- Each register has instances, and one where it has no stride. -/
def Reg.sound (r : Reg) : Bool := decide (0 < r.count) && (r.stride != 0 || (r.count == 1 && r.first == 0))

theorem regs_sound : regTable.all Reg.sound = true := by decide +kernel

theorem regs_apart : regsApart regTable = true := by decide +kernel

theorem regs_rise : regsRise regTable = true := by decide +kernel

theorem Reg.apart_symm {r q : Reg} (h : r.apart q = true) : q.apart r = true := by
  simp only [Reg.apart, Bool.or_eq_true, Bool.and_eq_true, bne_iff_ne, beq_iff_eq, ne_eq] at h ⊢
  rcases h with (h | h) | ⟨⟨h0, hs⟩, hm⟩
  · exact .inl (.inr h)
  · exact .inl (.inl h)
  · exact .inr ⟨⟨by rw [← hs]; exact h0, hs.symm⟩, fun e => hm (by rw [hs]; exact e.symm)⟩

theorem apart_of_regsApart {l : List Reg} (h : regsApart l = true) {r q : Reg} (hr : r ∈ l) (hq : q ∈ l) :
    r = q ∨ r.apart q = true := by
  induction l with
  | nil => cases hr
  | cons a l ih =>
    simp only [regsApart, Bool.and_eq_true, List.all_eq_true] at h
    rcases List.mem_cons.mp hr with rfl | hr' <;> rcases List.mem_cons.mp hq with rfl | hq'
    · exact .inl rfl
    · exact .inr (h.1 q hq')
    · exact .inr (Reg.apart_symm (h.1 r hr'))
    · exact ih h.2 hr' hq'

theorem rise_lt {l : List Reg} {a : Reg} (h : regsRise (a :: l) = true) : ∀ q ∈ l, a.id < q.id := by
  induction l generalizing a with
  | nil => intro q hq; cases hq
  | cons b l ih =>
    simp only [regsRise, Bool.and_eq_true] at h
    have hab : a.id < b.id := Nat.blt_eq.mp h.1
    intro q hq
    rcases List.mem_cons.mp hq with rfl | hq
    · exact hab
    · exact Nat.lt_trans hab (ih h.2 q hq)

theorem find_of_rise {l : List Reg} (h : regsRise l = true) {r : Reg} (hr : r ∈ l) :
    l.find? (fun q => q.id == r.id) = some r := by
  induction l with
  | nil => cases hr
  | cons a l ih =>
    have hlt := rise_lt h
    have hl : regsRise l = true := by
      cases l with
      | nil => rfl
      | cons b l => simp only [regsRise, Bool.and_eq_true] at h; exact h.2
    rcases List.mem_cons.mp hr with rfl | hr
    · simp
    · have := hlt r hr
      rw [List.find?_cons_of_neg (by simp; omega)]
      exact ih hl hr

/-- The table holds each register number once. -/
theorem find_of_id {r : Reg} (hr : r ∈ regTable) : regTable.find? (fun q => q.id == r.id) = some r := find_of_rise regs_rise hr

theorem Reg.instanceAt_addr {r : Reg} (hs : r.sound = true) {i : Nat} (h1 : r.first ≤ i) (h2 : i < r.first + r.count) :
    r.instanceAt (r.addr i) = some i := by
  simp only [Reg.sound, Bool.and_eq_true, decide_eq_true_eq, Bool.or_eq_true, bne_iff_ne, beq_iff_eq] at hs
  obtain ⟨h0, hst⟩ := hs
  unfold Reg.instanceAt Reg.addr
  rcases hst with hst | ⟨hc, hf⟩
  · have hp : 0 < r.stride := Nat.pos_of_ne_zero hst
    rw [if_neg hst, if_neg (by omega)]
    have e : r.base + i * r.stride - r.base = i * r.stride := by omega
    simp only [e, Nat.mul_mod_left, Nat.mul_div_cancel _ hp]
    rw [if_pos ⟨trivial, h1, h2⟩]
  · have hi : i = 0 := by omega
    subst hi
    by_cases hst : r.stride = 0
    · rw [if_pos hst, if_pos (by omega), hf]
    · have hp : 0 < r.stride := Nat.pos_of_ne_zero hst
      rw [if_neg hst, if_neg (by omega)]
      simp only [Nat.zero_mul, Nat.add_zero, Nat.sub_self, Nat.zero_mod, Nat.zero_div]
      rw [if_pos ⟨trivial, by omega, by omega⟩]

/-- An address that a register takes for one of its instances is the address of that instance. -/
theorem Reg.addr_of_instanceAt {q : Reg} (hs : q.sound = true) {off j : Nat} (h : q.instanceAt off = some j) :
    off = q.addr j ∧ q.first ≤ j ∧ j < q.first + q.count := by
  simp only [Reg.sound, Bool.and_eq_true, decide_eq_true_eq, Bool.or_eq_true, bne_iff_ne, beq_iff_eq] at hs
  obtain ⟨h0, hst⟩ := hs
  unfold Reg.instanceAt at h
  unfold Reg.addr
  split at h
  · next hz =>
    rcases hst with hst | ⟨hc, hf⟩
    · exact absurd hz hst
    · split at h
      · next hb =>
        have : q.first = j := Option.some.inj h
        subst this
        rw [hf, hb]
        exact ⟨by omega, by omega, by omega⟩
      · cases h
  · split at h
    · cases h
    · next hz hlt =>
      dsimp only at h
      split at h
      · next hc =>
        obtain ⟨hm, hl, hu⟩ := hc
        have e : (off - q.base) / q.stride = j := Option.some.inj h
        rw [e] at hl hu
        have hd := Nat.div_add_mod (off - q.base) q.stride
        rw [hm, e, Nat.add_zero, Nat.mul_comm] at hd
        exact ⟨by omega, hl, hu⟩
      · cases h

/-- Registers that lie apart share no address. -/
theorem Reg.addr_ne {r q : Reg} (ha : r.apart q = true) {i j : Nat}
    (hi1 : r.first ≤ i) (hi2 : i < r.first + r.count) (hj1 : q.first ≤ j) (hj2 : j < q.first + q.count) : r.addr i ≠ q.addr j := by
  simp only [Reg.apart, Bool.or_eq_true, Nat.blt_eq, Reg.lo, Reg.hi, Bool.and_eq_true, bne_iff_ne, beq_iff_eq] at ha
  have mono : ∀ (x : Reg) {a b : Nat}, a ≤ b → x.addr a ≤ x.addr b := by
    intro x a b hab
    unfold Reg.addr
    exact Nat.add_le_add_left (Nat.mul_le_mul_right _ hab) _
  have r1 := mono r hi1
  have r2 := mono r (show i ≤ r.first + r.count - 1 by omega)
  have q1 := mono q hj1
  have q2 := mono q (show j ≤ q.first + q.count - 1 by omega)
  rcases ha with (h | h) | ⟨⟨h0, hs⟩, hm⟩
  · omega
  · omega
  · intro e
    apply hm
    have key : ∀ (x : Reg) (a b : Nat), x.addr a % x.stride = x.addr b % x.stride := by
      intro x a b
      unfold Reg.addr
      rw [Nat.add_mul_mod_self_right, Nat.add_mul_mod_self_right]
    rw [key r r.first i, e, hs, key q j q.first]

/-- The address of a register's instance finds that register and that instance. -/
theorem findReg_addr {r : Reg} (hr : r ∈ regTable) {i : Nat} (h1 : r.first ≤ i) (h2 : i < r.first + r.count) :
    findReg (r.addr i) = some (r, i) := by
  have hs : ∀ q ∈ regTable, q.sound = true := List.all_eq_true.mp regs_sound
  have key : ∀ q ∈ regTable, ∀ x, (q.instanceAt (r.addr i)).map (fun j => (q, j)) = some x → x = (r, i) := by
    intro q hq x hx
    obtain ⟨j, hj, e⟩ := Option.map_eq_some_iff.mp hx
    obtain ⟨ea, hj1, hj2⟩ := Reg.addr_of_instanceAt (hs q hq) hj
    rcases apart_of_regsApart regs_apart hr hq with rfl | hid
    · have := Reg.instanceAt_addr (hs _ hr) h1 h2
      rw [this] at hj
      rw [← e, ← Option.some.inj hj]
    · exact absurd ea (Reg.addr_ne hid h1 h2 hj1 hj2)
  have some_ : (findReg (r.addr i)).isSome = true := by
    unfold findReg
    rw [List.findSome?_isSome_iff]
    refine ⟨r, hr, ?_⟩
    rw [Reg.instanceAt_addr (hs r hr) h1 h2]
    rfl
  obtain ⟨x, hx⟩ := Option.isSome_iff_exists.mp some_
  have hx' := hx
  unfold findReg at hx'
  obtain ⟨q, hq, e⟩ := List.exists_of_findSome?_eq_some hx'
  rw [hx, key q hq x e]

end Sys2Proof.Machine
end

