-- ==== Sys2Proof/Laws/Tab.lean ====
section
/-! SUPPORT. Laws of finite tables: a read after a write. -/

set_option Elab.async false

namespace Sys2Proof

theorem Tab.look_place_self {α : Type} (l : List (Nat × α)) (k : Nat) (v : α) : Tab.look (Tab.place l k v) k = some v := by
  induction l with
  | nil => simp [Tab.place, Tab.look]
  | cons e t ih =>
    obtain ⟨k', v'⟩ := e
    by_cases h : k = k'
    · simp [Tab.place, Tab.look, h]
    · by_cases h2 : k < k' <;> simp [Tab.place, Tab.look, h, h2, ih]

theorem Tab.look_place_ne {α : Type} (l : List (Nat × α)) {k j : Nat} (v : α) (h : j ≠ k) :
    Tab.look (Tab.place l k v) j = Tab.look l j := by
  induction l with
  | nil => simp [Tab.place, Tab.look, h]
  | cons e t ih =>
    obtain ⟨k', v'⟩ := e
    by_cases h1 : k = k'
    · subst h1; simp [Tab.place, Tab.look, h]
    · by_cases h2 : k < k' <;> simp [Tab.place, Tab.look, h1, h2, ih, h]

theorem Tab.look_unlist_self {α : Type} (l : List (Nat × α)) (k : Nat) : Tab.look (Tab.unlist l k) k = none := by
  induction l with
  | nil => simp [Tab.unlist, Tab.look]
  | cons e t ih =>
    obtain ⟨k', v'⟩ := e
    by_cases h : k' = k
    · simpa [Tab.unlist, h] using ih
    · simp only [Tab.unlist] at ih
      simp [Tab.unlist, Tab.look, h, Ne.symm h, ih]

theorem Tab.look_unlist_ne {α : Type} (l : List (Nat × α)) {k j : Nat} (h : j ≠ k) :
    Tab.look (Tab.unlist l k) j = Tab.look l j := by
  induction l with
  | nil => simp [Tab.unlist, Tab.look]
  | cons e t ih =>
    obtain ⟨k', v'⟩ := e
    simp only [Tab.unlist] at ih
    by_cases h1 : k' = k
    · subst h1; simp [Tab.unlist, Tab.look, h, ih]
    · simp [Tab.unlist, Tab.look, h1, ih]

@[simp] theorem Tab.get_put_self {α : Type} (t : Tab α) (k : Nat) (v d : α) : (t.put k v).get k d = v := by
  simp [Tab.get, Tab.find, Tab.put, Tab.look_place_self]

theorem Tab.get_put_ne {α : Type} (t : Tab α) {k j : Nat} (v d : α) (h : j ≠ k) : (t.put k v).get j d = t.get j d := by
  simp [Tab.get, Tab.find, Tab.put, Tab.look_place_ne _ v h]

@[simp] theorem Tab.find_put_self {α : Type} (t : Tab α) (k : Nat) (v : α) : (t.put k v).find k = some v := by
  simp [Tab.find, Tab.put, Tab.look_place_self]

theorem Tab.find_put_ne {α : Type} (t : Tab α) {k j : Nat} (v : α) (h : j ≠ k) : (t.put k v).find j = t.find j := by
  simp [Tab.find, Tab.put, Tab.look_place_ne _ v h]

@[simp] theorem Tab.find_del_self {α : Type} (t : Tab α) (k : Nat) : (t.del k).find k = none := by
  simp [Tab.find, Tab.del, Tab.look_unlist_self]

theorem Tab.find_del_ne {α : Type} (t : Tab α) {k j : Nat} (h : j ≠ k) : (t.del k).find j = t.find j := by
  simp [Tab.find, Tab.del, Tab.look_unlist_ne _ h]

theorem Tab.look_filter {α : Type} (l : List (Nat × α)) (p : Nat → α → Bool) {k : Nat} (h : ∀ v, p k v = true) :
    Tab.look (l.filter (fun e => p e.1 e.2)) k = Tab.look l k := by
  induction l with
  | nil => rfl
  | cons e t ih =>
    obtain ⟨k', v'⟩ := e
    by_cases hk : k = k'
    · subst hk
      rw [List.filter_cons_of_pos (by exact h v')]
      simp [Tab.look]
    · cases hp : p k' v' with
      | true =>
        rw [List.filter_cons_of_pos (by exact hp)]
        simp only [Tab.look, if_neg hk]
        exact ih
      | false =>
        rw [List.filter_cons_of_neg (by simp [hp])]
        simp only [Tab.look, if_neg hk]
        exact ih

/-- A number whose entries are all kept has its value. -/
theorem Tab.get_keep_of {α : Type} (t : Tab α) (p : Nat → α → Bool) {k : Nat} (d : α) (h : ∀ v, p k v = true) :
    (t.keep p).get k d = t.get k d := by
  simp [Tab.get, Tab.find, Tab.keep, Tab.look_filter _ p h]

/-- What is stored is read back, whether or not it is the default. -/
@[simp] theorem Tab.get_store_self {α : Type} [DecidableEq α] (t : Tab α) (k : Nat) (d v : α) : (t.store k d v).get k d = v := by
  unfold Tab.store
  split
  · next h => simp [Tab.get, h]
  · simp

theorem Tab.get_store_ne {α : Type} [DecidableEq α] (t : Tab α) {k j : Nat} (d v d' : α) (h : j ≠ k) :
    (t.store k d v).get j d' = t.get j d' := by
  unfold Tab.store
  split
  · simp [Tab.get, Tab.find_del_ne t h]
  · exact Tab.get_put_ne t v d' h

end Sys2Proof
end

