-- ==== Sys2Proof/Laws/Fields.lean ====
section
/-! SUPPORT. Laws of register fields: a read after a write (R8). -/

set_option Elab.async false

namespace Sys2Proof.Machine

/-- A field reads as it was written, cut to its width. -/
@[simp] theorem State.fld_setFld_self (s : State) (f : Fld) (i v : Nat) : (s.setFld f i v).fld f i = v % 2 ^ f.width := by
  simp [State.fld, State.setFld]

/-- Another instance of the field keeps its value. -/
theorem State.fld_setFld_inst (s : State) (f : Fld) {i j : Nat} (v : Nat) (h : j ≠ i) : (s.setFld f i v).fld f j = s.fld f j := by
  simp [State.fld, State.setFld, Tab.get_store_ne _ _ _ _ h]

/-- Another field keeps its value. -/
theorem State.fld_setFld_ne (s : State) {f g : Fld} (i j v : Nat) (h : g.id ≠ f.id) : (s.setFld f i v).fld g j = s.fld g j := by
  simp [State.fld, State.setFld, Tab.get_put_ne _ _ _ h]

/-- What a write of a field does to any read. -/
theorem State.fld_setFld (s : State) (f : Fld) (i j v : Nat) :
    (s.setFld f i v).fld f j = if j = i then v % 2 ^ f.width else s.fld f j := by
  by_cases h : j = i
  · subst h; simp
  · simp [h, State.fld_setFld_inst s f v h]

/-- Staged values are untouched by a write of a current value of another field. -/
theorem State.stg_setFld_ne (s : State) {f g : Fld} (i j v : Nat) (h : g.id ≠ f.id) : (s.setFld f i v).stg g j = s.stg g j := by
  unfold State.stg
  rw [State.fld_setFld_ne s i j v h]
  rfl

/-- A staged value reads as it was written, cut to its width (R8, R10). -/
@[simp] theorem State.stg_setStg_self (s : State) (f : Fld) (i v : Nat) : (s.setStg f i v).stg f i = v % 2 ^ f.width := by
  by_cases h : v % 2 ^ f.width = s.fld f i <;> cases hs : s.sampled.isNone
  all_goals simp [State.stg, State.setStg, h, hs]
  all_goals simp [State.fld] at *
  all_goals simp [h]

/-- Staging a value changes no current value (R8). -/
@[simp] theorem State.fld_setStg (s : State) (f g : Fld) (i j v : Nat) : (s.setStg f i v).fld g j = s.fld g j := rfl

/-- Another field's staged value is kept. -/
theorem State.stg_setStg_ne (s : State) {f g : Fld} (i j v : Nat) (h : g.id ≠ f.id) : (s.setStg f i v).stg g j = s.stg g j := by
  simp [State.stg, State.setStg, State.fld, Tab.get_put_ne _ _ _ h]

/-- One master's own field reads as it was written. -/
@[simp] theorem State.mfld_setMfld_self (s : State) (f : Fld) (i m v : Nat) : (s.setMfld f i m v).mfld f i m = v % 2 ^ f.width := by
  simp [State.mfld, State.setMfld]

/-- Another master's field is kept (R10). -/
theorem State.mfld_setMfld_ne (s : State) (f : Fld) (i v : Nat) {m k : Nat} (h : k ≠ m) : (s.setMfld f i m v).mfld f i k = s.mfld f i k := by
  simp [State.mfld, State.setMfld, Tab.get_store_ne _ _ _ _ h]

end Sys2Proof.Machine
end

