-- ==== Sys2Proof/Laws/Memory.lean ====
section
/-! SUPPORT. The memory: what each operation reads afterwards, and that each keeps the canonical form. -/

set_option Elab.async false

namespace Sys2Proof.Machine

theorem Memory.find_write_self (m : List Host.Cell) (a : Nat) (b : BitVec 8) (blank : Option (BitVec 8))
    (h : (m.map (·.1)).Pairwise (· < ·)) :
    Memory.find (Memory.write m a b blank) a = if some b = blank then none else some b := by
  induction m with
  | nil => unfold Memory.write; split <;> simp [Memory.find]
  | cons c t ih =>
    obtain ⟨a', b'⟩ := c
    have ht : (t.map (·.1)).Pairwise (· < ·) := (List.pairwise_cons.mp h).2
    have hlt : ∀ x ∈ t, a' < x.1 := fun x hx => (List.pairwise_cons.mp h).1 _ (List.mem_map_of_mem hx)
    have off : ∀ (l : List Host.Cell) (y : Nat), (∀ x ∈ l, y < x.1) → Memory.find l y = none := by
      intro l y hl
      induction l with
      | nil => rfl
      | cons z zs ihz =>
        have h1 : y < z.1 := hl z (List.mem_cons_self ..)
        unfold Memory.find
        rw [if_neg (by omega)]
        exact ihz (fun x hx => hl x (List.mem_cons_of_mem _ hx))
    unfold Memory.write
    by_cases h1 : a < a'
    · rw [if_pos h1]
      split
      · refine off _ _ ?_
        intro x hx
        rcases List.mem_cons.mp hx with rfl | hx
        · exact h1
        · exact Nat.lt_trans h1 (hlt x hx)
      · simp [Memory.find]
    · rw [if_neg h1]
      by_cases h2 : a = a'
      · subst h2
        rw [if_pos rfl]
        split
        · exact off _ _ hlt
        · simp [Memory.find]
      · rw [if_neg h2]
        unfold Memory.find
        rw [if_neg h2]
        exact ih ht

theorem Memory.find_write_ne (m : List Host.Cell) {a c : Nat} (b : BitVec 8) (blank : Option (BitVec 8)) (h : c ≠ a) :
    Memory.find (Memory.write m a b blank) c = Memory.find m c := by
  induction m with
  | nil => unfold Memory.write; split <;> simp [Memory.find, h]
  | cons x t ih =>
    obtain ⟨a', b'⟩ := x
    unfold Memory.write
    by_cases h1 : a < a'
    · rw [if_pos h1]
      split
      · rfl
      · rw [Memory.find, if_neg h]
    · rw [if_neg h1]
      by_cases h2 : a = a'
      · subst h2
        rw [if_pos rfl]
        split <;> simp [Memory.find, h]
      · rw [if_neg h2]
        simp only [Memory.find]
        rw [ih]

/-- Every cell of a written memory is the cell written or one of before. -/
theorem Memory.mem_write {m : List Host.Cell} {a : Nat} {b : BitVec 8} {blank : Option (BitVec 8)} {x : Host.Cell}
    (h : x ∈ Memory.write m a b blank) : (x = (a, b) ∧ some b ≠ blank) ∨ x ∈ m := by
  induction m with
  | nil =>
    unfold Memory.write at h
    split at h
    · cases h
    · next hb => exact .inl ⟨List.mem_singleton.mp h, hb⟩
  | cons c t ih =>
    obtain ⟨a', b'⟩ := c
    unfold Memory.write at h
    split at h
    · split at h
      · exact .inr h
      · next hb =>
        rcases List.mem_cons.mp h with h | h
        · exact .inl ⟨h, hb⟩
        · exact .inr h
    · split at h
      · split at h
        · exact .inr (List.mem_cons_of_mem _ h)
        · next hb =>
          rcases List.mem_cons.mp h with h | h
          · exact .inl ⟨h, hb⟩
          · exact .inr (List.mem_cons_of_mem _ h)
      · rcases List.mem_cons.mp h with h | h
        · exact .inr (h ▸ List.mem_cons_self ..)
        · rcases ih h with h | h
          · exact .inl h
          · exact .inr (List.mem_cons_of_mem _ h)

theorem Memory.rising_write (m : List Host.Cell) (a : Nat) (b : BitVec 8) (blank : Option (BitVec 8))
    (h : (m.map (·.1)).Pairwise (· < ·)) : ((Memory.write m a b blank).map (·.1)).Pairwise (· < ·) := by
  induction m with
  | nil => unfold Memory.write; split <;> simp
  | cons c t ih =>
    obtain ⟨a', b'⟩ := c
    have ht := (List.pairwise_cons.mp h).2
    have hlt := (List.pairwise_cons.mp h).1
    unfold Memory.write
    by_cases h1 : a < a'
    · rw [if_pos h1]
      split
      · exact h
      · refine List.pairwise_cons.mpr ⟨?_, h⟩
        intro y hy
        rcases List.mem_cons.mp hy with rfl | hy
        · exact h1
        · exact Nat.lt_trans h1 (hlt y hy)
    · rw [if_neg h1]
      by_cases h2 : a = a'
      · subst h2
        rw [if_pos rfl]
        split
        · exact ht
        · exact h
      · rw [if_neg h2]
        refine List.pairwise_cons.mpr ⟨?_, ih ht⟩
        intro y hy
        obtain ⟨x, hx, rfl⟩ := List.mem_map.mp hy
        rcases Memory.mem_write hx with ⟨rfl, -⟩ | hx
        · show a' < a; omega
        · exact hlt _ (List.mem_map_of_mem hx)

theorem Memory.wf_iff (m : List Host.Cell) (blank : Nat → Option (BitVec 8)) :
    Memory.wf m blank = true ↔ (m.map (·.1)).Pairwise (· < ·) ∧ ∀ x ∈ m, some x.2 ≠ blank x.1 := by
  unfold Memory.wf
  simp [List.all_eq_true]

/-- A write keeps the canonical form. -/
theorem State.memWf_setByte {s : State} (h : s.MemWf) (a : Nat) (b : BitVec 8) : (s.setByte a b).MemWf := by
  obtain ⟨h1, h2⟩ := (Memory.wf_iff _ _).mp h
  refine (Memory.wf_iff _ _).mpr ⟨Memory.rising_write _ _ _ _ h1, ?_⟩
  intro x hx
  rcases Memory.mem_write hx with ⟨rfl, hb⟩ | hx
  · exact hb
  · exact h2 x hx

/-- Taking cells away keeps the addresses rising. -/
theorem Memory.rising_filter (m : List Host.Cell) (p : Host.Cell → Bool) (h : (m.map (·.1)).Pairwise (· < ·)) :
    ((m.filter p).map (·.1)).Pairwise (· < ·) :=
  h.sublist ((List.filter_sublist (p := p)).map _)

theorem State.memWf_clearRange {s : State} (h : s.MemWf) (lo hi : Nat) : (s.clearRange lo hi).MemWf := by
  obtain ⟨h1, h2⟩ := (Memory.wf_iff _ _).mp h
  exact (Memory.wf_iff _ _).mpr ⟨Memory.rising_filter _ _ h1, fun x hx => h2 x (List.mem_of_mem_filter hx)⟩

theorem State.memWf_zeroRange {s : State} (h : s.MemWf) (lo hi : Nat) : (s.zeroRange lo hi).MemWf := by
  obtain ⟨h1, h2⟩ := (Memory.wf_iff _ _).mp h
  refine (Memory.wf_iff _ _).mpr ⟨Memory.rising_filter _ _ h1, ?_⟩
  intro x hx
  obtain ⟨hm, hp⟩ := List.mem_filter.mp hx
  have hb := h2 x hm
  have key : (s.zeroRange lo hi).blankAt x.1 = s.blankAt x.1 := by
    unfold State.blankAt State.zeroRange State.clearRange
    dsimp only
    split
    · rfl
    · split
      · rfl
      · have : (decide (lo ≤ x.1) && decide (x.1 < hi)) = false := by
          simp only [Bool.or_eq_true, decide_eq_true_eq] at hp
          simp only [Bool.and_eq_false_iff, decide_eq_false_iff_not]
          omega
        simp only [List.any_cons, this, Bool.false_or]
  show some x.2 ≠ (s.zeroRange lo hi).blankAt x.1
  rw [key]
  exact hb

theorem State.memWf_rekey {s : State} (h : s.MemWf) : s.rekey.MemWf := by
  obtain ⟨h1, h2⟩ := (Memory.wf_iff _ _).mp h
  refine (Memory.wf_iff _ _).mpr ⟨Memory.rising_filter _ _ h1, ?_⟩
  intro x hx
  have hb := h2 x (List.mem_of_mem_filter hx)
  show some x.2 ≠ s.rekey.blankAt x.1
  unfold State.blankAt at hb ⊢
  unfold State.rekey State.clearRange
  dsimp only
  split at hb
  · next hlt => rw [if_pos hlt]; exact hb
  · next hlt => rw [if_neg hlt]; simp

/-- A byte that is written reads as it was written. -/
theorem State.byte_setByte_self {s : State} (h : s.MemWf) (a : Nat) (b : BitVec 8) : (s.setByte a b).byte a = b := by
  have h1 := ((Memory.wf_iff _ _).mp h).1
  unfold State.byte
  show (match Memory.find (Memory.write s.mem a b (s.blankAt a)) a with
    | some b => b
    | none => (s.blankAt a).getD (Config.ddrNoise s.ddr.keys a)) = b
  rw [Memory.find_write_self _ _ _ _ h1]
  split
  · next hb => split at hb <;> simp_all
  · next hb =>
    split at hb
    · next e => rw [← e]; rfl
    · cases hb

/-- Every other byte reads as before. -/
theorem State.byte_setByte_ne (s : State) {a c : Nat} (b : BitVec 8) (h : c ≠ a) : (s.setByte a b).byte c = s.byte c := by
  unfold State.byte
  show (match Memory.find (Memory.write s.mem a b (s.blankAt a)) c with
    | some b => b
    | none => (s.blankAt c).getD (Config.ddrNoise s.ddr.keys c)) = _
  rw [Memory.find_write_ne _ _ _ h] <;> cases Memory.find s.mem c <;> rfl

end Sys2Proof.Machine
end

