-- ==== Sys2Proof/Laws/Loose.lean ====
section
/-! SUPPORT. What an operation may change. A mask names fields of the state by bit: bit k < 56 the k-th field of State, bit 64 + k the register
field numbered k, bit 63 every register field, bit 60 a fresh start. A property is loose on a mask when it survives any change of what the
mask names. Bits 56 to 59, 61 and 62 name a part of the memory each: the journal, the history ring, the lock words, the banks of the joiner cores, the
receive rings, and what a wipe loses; bit 12 names all of it. Bit 63 names the fields that hold the bases of the journal and of the history ring with bit 60 alone. The files Laws/Foot*.lean say, operation by operation, that every property loose on the operation's mask is kept by it; so each
of them says everything that the operation may change. -/

set_option Elab.async false

namespace Sys2Proof.Machine

/-- The field is the base of the journal, of the history ring or of a region, which only the layout of DDR5 moves. -/
def fixedBase (id : Nat) : Bool := id == R.MAT_JBASE_BASE.id || id == R.PLB_HIST_BASE_BASE.id || id == R.DDR_RGNk_BASE_BASE.id

/-- The mask lets register field `id` change. -/
def regOk (m id : Nat) : Bool := (m.testBit 63 && (m.testBit 60 || !fixedBase id)) || m.testBit (64 + id)

/-- The part of the memory that a bit of a mask names. -/
def State.area (s : State) (k a : Nat) : Prop :=
  if k = 56 then s.inJournal a
  else if k = 57 then s.inHist a
  else if k = 58 then inLocks a
  else if k = 59 then inBanks a
  else if k = 61 then ∃ n, s.inRing n a
  else if k = 62 then inWiped a
  else False

/-- State `t` is `s` but for what the mask names; the queue, the fuses, the memory, the ranges written to zero and the keys are the same. -/
structure Agree (m : Nat) (s t : State) : Prop where
  pending : t.pending = s.pending
  fuses : t.fuses = s.fuses
  mem : t.mem = s.mem
  zeroed : t.ddr.zeroed = s.ddr.zeroed
  keys : t.ddr.keys = s.ddr.keys
  regs : ∀ id, regOk m id = false → t.regs.get id {} = s.regs.get id {}
  staged : m.testBit 2 = false → t.staged = s.staged
  perMaster : m.testBit 3 = false → t.perMaster = s.perMaster
  latHigh : m.testBit 4 = false → t.latHigh = s.latHigh
  heldLow : m.testBit 5 = false → t.heldLow = s.heldLow
  frameCycle : m.testBit 6 = false → t.frameCycle = s.frameCycle
  cycle : m.testBit 7 = false → t.cycle = s.cycle
  free : m.testBit 8 = false → t.free = s.free
  resp : m.testBit 9 = false → t.resp = s.resp
  ringQ : m.testBit 10 = false → t.ringQ = s.ringQ
  logQ : m.testBit 11 = false → t.logQ = s.logQ
  lanes : m.testBit 13 = false → t.lanes = s.lanes
  sill : m.testBit 14 = false → t.sill = s.sill
  sched : m.testBit 15 = false → t.sched = s.sched
  tap : m.testBit 16 = false → t.tap = s.tap
  longMem : m.testBit 17 = false → t.longMem = s.longMem
  retPages : m.testBit 18 = false → t.retPages = s.retPages
  plate : m.testBit 19 = false → t.plate = s.plate
  links : m.testBit 20 = false → t.links = s.links
  actions : m.testBit 21 = false → t.actions = s.actions
  pauses : m.testBit 22 = false → t.pauses = s.pauses
  mdlyHeld : m.testBit 23 = false → t.mdlyHeld = s.mdlyHeld
  chg : m.testBit 24 = false → t.chg = s.chg
  queued : m.testBit 25 = false → t.queued = s.queued
  scnTrig : m.testBit 26 = false → t.scnTrig = s.scnTrig
  scnQ : m.testBit 27 = false → t.scnQ = s.scnQ
  mrecHeld : m.testBit 28 = false → t.mrecHeld = s.mrecHeld
  sides : m.testBit 29 = false → t.sides = s.sides
  groups : m.testBit 30 = false → t.groups = s.groups
  plumb : m.testBit 31 = false → t.plumb = s.plumb
  mate : m.testBit 32 = false → t.mate = s.mate
  raise : m.testBit 34 = false → t.raise = s.raise
  pcie : m.testBit 35 = false → t.pcie = s.pcie
  own : m.testBit 36 = false → t.own = s.own
  sampled : m.testBit 37 = false → t.sampled = s.sampled
  tunnel : m.testBit 38 = false → t.tunnel = s.tunnel
  spiQuad : m.testBit 39 = false → t.spiQuad = s.spiQuad
  snd : m.testBit 40 = false → t.snd = s.snd
  ddr : m.testBit 41 = false → t.ddr = s.ddr
  snapFixed : m.testBit 42 = false → t.snapFixed = s.snapFixed
  chainHeld : m.testBit 43 = false → t.chainHeld = s.chainHeld
  snapAt : m.testBit 44 = false → t.snapAt = s.snapAt
  snapped : m.testBit 45 = false → t.snapped = s.snapped
  clear : m.testBit 46 = false → t.clear = s.clear
  archive : m.testBit 47 = false → t.archive = s.archive
  pegs : m.testBit 48 = false → t.pegs = s.pegs
  tally : m.testBit 49 = false → t.tally = s.tally
  tallyQ : m.testBit 50 = false → t.tallyQ = s.tallyQ
  tallySecond : m.testBit 51 = false → t.tallySecond = s.tallySecond
  tallyLost : m.testBit 52 = false → t.tallyLost = s.tallyLost
  sist : m.testBit 53 = false → t.sist = s.sist
  guarding : m.testBit 54 = false → t.guarding = s.guarding
  tallyRaw : m.testBit 55 = false → t.tallyRaw = s.tallyRaw

/-- `K` survives any change of what the mask names. -/
structure Loose (m : Nat) (K : State → Prop) : Prop where
  upd : ∀ {s t : State}, K s → Agree m s t → K t
  setByte : m.testBit 12 = true → ∀ {s : State}, K s → ∀ a b, K (s.setByte a b)
  area : ∀ k, m.testBit k = true → ∀ {s : State}, K s → ∀ a b, s.area k a → K (s.setByte a b)
  bank : m.testBit 59 = true → ∀ {s : State}, K s → ∀ i < 5, K (s.clearRange (joinerBank i) (joinerBank i + 0x80000))
  clear : m.testBit 12 = true → ∀ {s : State}, K s → ∀ lo hi, K (s.clearRange lo hi)
  zero : m.testBit 12 = true → m.testBit 41 = true → ∀ {s : State}, K s → ∀ lo hi, K (s.zeroRange lo hi)
  secure : m.testBit 62 = true → ∀ {s : State}, K s → K (s.clearRange 0x10380000 0x103A0000)
  rekey : m.testBit 62 = true → m.testBit 41 = true → ∀ {s : State}, K s → K s.rekey
  blow : m.testBit 33 = true → ∀ {s : State}, K s → ∀ f, K (s.blow f)
  fresh : m.testBit 60 = true → m.testBit 63 = true → ∀ {s t : State}, K s → t.pending = s.pending → t.fuses = s.fuses → t.free = s.free →
    t.resp = s.resp → t.tallyRaw = s.tallyRaw → t.mem = [] → t.ddr.zeroed = [] → K t

variable {K : State → Prop} {m : Nat}

theorem regOk_false {m id : Nat} (h : regOk m id = false) : (m.testBit 63 && m.testBit 60) = false ∧ m.testBit (64 + id) = false := by
  unfold regOk at h
  obtain ⟨h1, h2⟩ := Bool.or_eq_false_iff.mp h
  refine ⟨?_, h2⟩
  cases h63 : m.testBit 63 with
  | false => rfl
  | true =>
    rw [h63, Bool.true_and] at h1
    rw [Bool.true_and]
    exact (Bool.or_eq_false_iff.mp h1).1

theorem testBit_of_sub {a b : Nat} (h : a &&& b = a) {i : Nat} (hi : a.testBit i = true) : b.testBit i = true := by
  rw [← h, Nat.testBit_and] at hi
  exact (Bool.and_eq_true_iff.mp hi).2

theorem testBit_false_of_sub {a b : Nat} (h : a &&& b = a) {i : Nat} (hi : b.testBit i = false) : a.testBit i = false := by
  rw [← h, Nat.testBit_and, hi, Bool.and_false]

theorem regOk_of_sub {a b : Nat} (h : a &&& b = a) {id : Nat} (hi : regOk a id = true) : regOk b id = true := by
  unfold regOk at hi ⊢
  rcases Bool.or_eq_true_iff.mp hi with h1 | h1
  · obtain ⟨h63, h2⟩ := Bool.and_eq_true_iff.mp h1
    rw [testBit_of_sub h h63, Bool.true_and]
    rcases Bool.or_eq_true_iff.mp h2 with h60 | hf
    · rw [testBit_of_sub h h60, Bool.true_or, Bool.true_or]
    · rw [hf, Bool.or_true, Bool.true_or]
  · rw [testBit_of_sub h h1, Bool.or_true]

theorem regOk_false_of_sub {a b : Nat} (h : a &&& b = a) {id : Nat} (hi : regOk b id = false) : regOk a id = false := by
  cases e : regOk a id with
  | false => rfl
  | true => rw [regOk_of_sub h e] at hi; exact Bool.noConfusion hi

/-- A mask that names every field lets any change but the fixed bases. -/
theorem regOk_any {m id : Nat} (h63 : m.testBit 63 = true) (h : fixedBase id = false) : regOk m id = true := by
  unfold regOk
  rw [h63, h]
  simp

/-- A bit that names no part of the memory names no address. -/
theorem area_bits {s : State} {k a : Nat} (h : s.area k a) : k ∈ [56, 57, 58, 59, 61, 62] := by
  unfold State.area at h
  split at h
  · simp [*]
  · split at h
    · simp [*]
    · split at h
      · simp [*]
      · split at h
        · simp [*]
        · split at h
          · simp [*]
          · split at h
            · simp [*]
            · exact h.elim

@[simp] theorem State.area_setByte (s : State) (c : Nat) (b : BitVec 8) (k a : Nat) : (s.setByte c b).area k a = s.area k a := rfl

/-- What agrees on a mask agrees on any wider one. -/
theorem Agree.mono {a b : Nat} {s t : State} (h : Agree a s t) (hs : a &&& b = a) : Agree b s t where
  pending := h.pending
  fuses := h.fuses
  mem := h.mem
  zeroed := h.zeroed
  keys := h.keys
  regs id hi := h.regs id (regOk_false_of_sub hs hi)
  staged hi := h.staged (testBit_false_of_sub hs hi)
  perMaster hi := h.perMaster (testBit_false_of_sub hs hi)
  latHigh hi := h.latHigh (testBit_false_of_sub hs hi)
  heldLow hi := h.heldLow (testBit_false_of_sub hs hi)
  frameCycle hi := h.frameCycle (testBit_false_of_sub hs hi)
  cycle hi := h.cycle (testBit_false_of_sub hs hi)
  free hi := h.free (testBit_false_of_sub hs hi)
  resp hi := h.resp (testBit_false_of_sub hs hi)
  ringQ hi := h.ringQ (testBit_false_of_sub hs hi)
  logQ hi := h.logQ (testBit_false_of_sub hs hi)
  lanes hi := h.lanes (testBit_false_of_sub hs hi)
  sill hi := h.sill (testBit_false_of_sub hs hi)
  sched hi := h.sched (testBit_false_of_sub hs hi)
  tap hi := h.tap (testBit_false_of_sub hs hi)
  longMem hi := h.longMem (testBit_false_of_sub hs hi)
  retPages hi := h.retPages (testBit_false_of_sub hs hi)
  plate hi := h.plate (testBit_false_of_sub hs hi)
  links hi := h.links (testBit_false_of_sub hs hi)
  actions hi := h.actions (testBit_false_of_sub hs hi)
  pauses hi := h.pauses (testBit_false_of_sub hs hi)
  mdlyHeld hi := h.mdlyHeld (testBit_false_of_sub hs hi)
  chg hi := h.chg (testBit_false_of_sub hs hi)
  queued hi := h.queued (testBit_false_of_sub hs hi)
  scnTrig hi := h.scnTrig (testBit_false_of_sub hs hi)
  scnQ hi := h.scnQ (testBit_false_of_sub hs hi)
  mrecHeld hi := h.mrecHeld (testBit_false_of_sub hs hi)
  sides hi := h.sides (testBit_false_of_sub hs hi)
  groups hi := h.groups (testBit_false_of_sub hs hi)
  plumb hi := h.plumb (testBit_false_of_sub hs hi)
  mate hi := h.mate (testBit_false_of_sub hs hi)
  raise hi := h.raise (testBit_false_of_sub hs hi)
  pcie hi := h.pcie (testBit_false_of_sub hs hi)
  own hi := h.own (testBit_false_of_sub hs hi)
  sampled hi := h.sampled (testBit_false_of_sub hs hi)
  tunnel hi := h.tunnel (testBit_false_of_sub hs hi)
  spiQuad hi := h.spiQuad (testBit_false_of_sub hs hi)
  snd hi := h.snd (testBit_false_of_sub hs hi)
  ddr hi := h.ddr (testBit_false_of_sub hs hi)
  snapFixed hi := h.snapFixed (testBit_false_of_sub hs hi)
  chainHeld hi := h.chainHeld (testBit_false_of_sub hs hi)
  snapAt hi := h.snapAt (testBit_false_of_sub hs hi)
  snapped hi := h.snapped (testBit_false_of_sub hs hi)
  clear hi := h.clear (testBit_false_of_sub hs hi)
  archive hi := h.archive (testBit_false_of_sub hs hi)
  pegs hi := h.pegs (testBit_false_of_sub hs hi)
  tally hi := h.tally (testBit_false_of_sub hs hi)
  tallyQ hi := h.tallyQ (testBit_false_of_sub hs hi)
  tallySecond hi := h.tallySecond (testBit_false_of_sub hs hi)
  tallyLost hi := h.tallyLost (testBit_false_of_sub hs hi)
  sist hi := h.sist (testBit_false_of_sub hs hi)
  guarding hi := h.guarding (testBit_false_of_sub hs hi)
  tallyRaw hi := h.tallyRaw (testBit_false_of_sub hs hi)

/-- What is loose on a mask is loose on any narrower one. -/
theorem Loose.mono {a b : Nat} (h : Loose b K) (hs : a &&& b = a) : Loose a K where
  upd hk hag := h.upd hk (hag.mono hs)
  setByte hm _ hk := h.setByte (testBit_of_sub hs hm) hk
  area k hm _ hk := h.area k (testBit_of_sub hs hm) hk
  bank hm _ hk := h.bank (testBit_of_sub hs hm) hk
  clear hm _ hk := h.clear (testBit_of_sub hs hm) hk
  zero hm hd _ hk := h.zero (testBit_of_sub hs hm) (testBit_of_sub hs hd) hk
  secure hm _ hk := h.secure (testBit_of_sub hs hm) hk
  rekey hm hd _ hk := h.rekey (testBit_of_sub hs hm) (testBit_of_sub hs hd) hk
  blow hm _ hk := h.blow (testBit_of_sub hs hm) hk
  fresh h1 h2 _ _ hk := h.fresh (testBit_of_sub hs h1) (testBit_of_sub hs h2) hk

/-- A state that differs from one with `K` in fields that the mask names has `K`. -/
theorem Loose.build (hK : Loose m K) {t : State} (h : K t) {x2} {x3} {x4} {x5} {x6} {x7} {x8} {x9} {x10} {x11} {x13} {x14} {x15} {x16} {x17} {x18} {x19} {x20} {x21} {x22} {x23} {x24} {x25} {x26} {x27} {x28} {x29} {x30} {x31} {x32} {x34} {x35} {x36} {x37} {x38} {x39} {x40} {x41} {x42} {x43} {x44} {x45} {x46} {x47} {x48} {x49} {x50} {x51} {x52} {x53} {x54} {x55} {x1}
    (e : x41.zeroed = t.ddr.zeroed)
    (ek : x41.keys = t.ddr.keys := by rfl)
    (hr : ∀ id, regOk m id = false → x1.get id {} = t.regs.get id {} := by exact fun _ _ => rfl)
    (h2 : m.testBit 2 = false → x2 = t.staged := by first | exact fun _ => rfl | exact fun h => absurd h (by decide))
    (h3 : m.testBit 3 = false → x3 = t.perMaster := by first | exact fun _ => rfl | exact fun h => absurd h (by decide))
    (h4 : m.testBit 4 = false → x4 = t.latHigh := by first | exact fun _ => rfl | exact fun h => absurd h (by decide))
    (h5 : m.testBit 5 = false → x5 = t.heldLow := by first | exact fun _ => rfl | exact fun h => absurd h (by decide))
    (h6 : m.testBit 6 = false → x6 = t.frameCycle := by first | exact fun _ => rfl | exact fun h => absurd h (by decide))
    (h7 : m.testBit 7 = false → x7 = t.cycle := by first | exact fun _ => rfl | exact fun h => absurd h (by decide))
    (h8 : m.testBit 8 = false → x8 = t.free := by first | exact fun _ => rfl | exact fun h => absurd h (by decide))
    (h9 : m.testBit 9 = false → x9 = t.resp := by first | exact fun _ => rfl | exact fun h => absurd h (by decide))
    (h10 : m.testBit 10 = false → x10 = t.ringQ := by first | exact fun _ => rfl | exact fun h => absurd h (by decide))
    (h11 : m.testBit 11 = false → x11 = t.logQ := by first | exact fun _ => rfl | exact fun h => absurd h (by decide))
    (h13 : m.testBit 13 = false → x13 = t.lanes := by first | exact fun _ => rfl | exact fun h => absurd h (by decide))
    (h14 : m.testBit 14 = false → x14 = t.sill := by first | exact fun _ => rfl | exact fun h => absurd h (by decide))
    (h15 : m.testBit 15 = false → x15 = t.sched := by first | exact fun _ => rfl | exact fun h => absurd h (by decide))
    (h16 : m.testBit 16 = false → x16 = t.tap := by first | exact fun _ => rfl | exact fun h => absurd h (by decide))
    (h17 : m.testBit 17 = false → x17 = t.longMem := by first | exact fun _ => rfl | exact fun h => absurd h (by decide))
    (h18 : m.testBit 18 = false → x18 = t.retPages := by first | exact fun _ => rfl | exact fun h => absurd h (by decide))
    (h19 : m.testBit 19 = false → x19 = t.plate := by first | exact fun _ => rfl | exact fun h => absurd h (by decide))
    (h20 : m.testBit 20 = false → x20 = t.links := by first | exact fun _ => rfl | exact fun h => absurd h (by decide))
    (h21 : m.testBit 21 = false → x21 = t.actions := by first | exact fun _ => rfl | exact fun h => absurd h (by decide))
    (h22 : m.testBit 22 = false → x22 = t.pauses := by first | exact fun _ => rfl | exact fun h => absurd h (by decide))
    (h23 : m.testBit 23 = false → x23 = t.mdlyHeld := by first | exact fun _ => rfl | exact fun h => absurd h (by decide))
    (h24 : m.testBit 24 = false → x24 = t.chg := by first | exact fun _ => rfl | exact fun h => absurd h (by decide))
    (h25 : m.testBit 25 = false → x25 = t.queued := by first | exact fun _ => rfl | exact fun h => absurd h (by decide))
    (h26 : m.testBit 26 = false → x26 = t.scnTrig := by first | exact fun _ => rfl | exact fun h => absurd h (by decide))
    (h27 : m.testBit 27 = false → x27 = t.scnQ := by first | exact fun _ => rfl | exact fun h => absurd h (by decide))
    (h28 : m.testBit 28 = false → x28 = t.mrecHeld := by first | exact fun _ => rfl | exact fun h => absurd h (by decide))
    (h29 : m.testBit 29 = false → x29 = t.sides := by first | exact fun _ => rfl | exact fun h => absurd h (by decide))
    (h30 : m.testBit 30 = false → x30 = t.groups := by first | exact fun _ => rfl | exact fun h => absurd h (by decide))
    (h31 : m.testBit 31 = false → x31 = t.plumb := by first | exact fun _ => rfl | exact fun h => absurd h (by decide))
    (h32 : m.testBit 32 = false → x32 = t.mate := by first | exact fun _ => rfl | exact fun h => absurd h (by decide))
    (h34 : m.testBit 34 = false → x34 = t.raise := by first | exact fun _ => rfl | exact fun h => absurd h (by decide))
    (h35 : m.testBit 35 = false → x35 = t.pcie := by first | exact fun _ => rfl | exact fun h => absurd h (by decide))
    (h36 : m.testBit 36 = false → x36 = t.own := by first | exact fun _ => rfl | exact fun h => absurd h (by decide))
    (h37 : m.testBit 37 = false → x37 = t.sampled := by first | exact fun _ => rfl | exact fun h => absurd h (by decide))
    (h38 : m.testBit 38 = false → x38 = t.tunnel := by first | exact fun _ => rfl | exact fun h => absurd h (by decide))
    (h39 : m.testBit 39 = false → x39 = t.spiQuad := by first | exact fun _ => rfl | exact fun h => absurd h (by decide))
    (h40 : m.testBit 40 = false → x40 = t.snd := by first | exact fun _ => rfl | exact fun h => absurd h (by decide))
    (h41 : m.testBit 41 = false → x41 = t.ddr := by first | exact fun _ => rfl | exact fun h => absurd h (by decide))
    (h42 : m.testBit 42 = false → x42 = t.snapFixed := by first | exact fun _ => rfl | exact fun h => absurd h (by decide))
    (h43 : m.testBit 43 = false → x43 = t.chainHeld := by first | exact fun _ => rfl | exact fun h => absurd h (by decide))
    (h44 : m.testBit 44 = false → x44 = t.snapAt := by first | exact fun _ => rfl | exact fun h => absurd h (by decide))
    (h45 : m.testBit 45 = false → x45 = t.snapped := by first | exact fun _ => rfl | exact fun h => absurd h (by decide))
    (h46 : m.testBit 46 = false → x46 = t.clear := by first | exact fun _ => rfl | exact fun h => absurd h (by decide))
    (h47 : m.testBit 47 = false → x47 = t.archive := by first | exact fun _ => rfl | exact fun h => absurd h (by decide))
    (h48 : m.testBit 48 = false → x48 = t.pegs := by first | exact fun _ => rfl | exact fun h => absurd h (by decide))
    (h49 : m.testBit 49 = false → x49 = t.tally := by first | exact fun _ => rfl | exact fun h => absurd h (by decide))
    (h50 : m.testBit 50 = false → x50 = t.tallyQ := by first | exact fun _ => rfl | exact fun h => absurd h (by decide))
    (h51 : m.testBit 51 = false → x51 = t.tallySecond := by first | exact fun _ => rfl | exact fun h => absurd h (by decide))
    (h52 : m.testBit 52 = false → x52 = t.tallyLost := by first | exact fun _ => rfl | exact fun h => absurd h (by decide))
    (h53 : m.testBit 53 = false → x53 = t.sist := by first | exact fun _ => rfl | exact fun h => absurd h (by decide))
    (h54 : m.testBit 54 = false → x54 = t.guarding := by first | exact fun _ => rfl | exact fun h => absurd h (by decide))
    (h55 : m.testBit 55 = false → x55 = t.tallyRaw := by first | exact fun _ => rfl | exact fun h => absurd h (by decide)) :
    K (State.mk t.pending x1 x2 x3 x4 x5 x6 x7 x8 x9 x10 x11 t.mem x13 x14 x15 x16 x17 x18 x19 x20 x21 x22 x23 x24 x25 x26 x27 x28 x29 x30 x31 x32 t.fuses x34 x35 x36 x37 x38 x39 x40 x41 x42 x43 x44 x45 x46 x47 x48 x49 x50 x51 x52 x53 x54 x55) :=
  hK.upd h ⟨rfl, rfl, rfl, e, ek, hr, h2, h3, h4, h5, h6, h7, h8, h9, h10, h11, h13, h14, h15, h16, h17, h18, h19, h20, h21, h22, h23, h24, h25, h26, h27, h28, h29, h30, h31, h32, h34, h35, h36, h37, h38, h39, h40, h41, h42, h43, h44, h45, h46, h47, h48, h49, h50, h51, h52, h53, h54, h55⟩

theorem ite_k {c : Prop} [Decidable c] {a b : State} (ha : K a) (hb : K b) : K (if c then a else b) := by
  split <;> assumption

theorem elim_k {α : Type} (o : Option α) {s : State} (f : α → State) (h : K s) (hf : ∀ x, K (f x)) : K (o.elim s f) := by
  cases o with
  | none => exact h
  | some x => exact hf x

theorem foldl_k {α : Type} (f : State → α → State) (l : List α) {s : State} (h : K s) (hf : ∀ t x, K t → K (f t x)) :
    K (l.foldl f s) := by
  induction l generalizing s with
  | nil => exact h
  | cons a t ih => exact ih (hf s a h)

/-- A fold, element by element of its list. -/
theorem foldl_mem_k {α : Type} (f : State → α → State) (l : List α) {s : State} (h : K s) (hf : ∀ t x, x ∈ l → K t → K (f t x)) :
    K (l.foldl f s) := by
  induction l generalizing s with
  | nil => exact h
  | cons a t ih => exact ih (hf s a (List.mem_cons_self ..) h) (fun u x hx => hf u x (List.mem_cons_of_mem _ hx))

/-- A fold whose accumulator carries a state first. -/
theorem foldl_fst_k {α β : Type} (f : State × β → α → State × β) (l : List α) (p : State × β) (h : K p.1)
    (hf : ∀ q x, K q.1 → K (f q x).1) : K (l.foldl f p).1 := by
  induction l generalizing p with
  | nil => exact h
  | cons a t ih => exact ih _ (hf p a h)

/-- The state of a pair that has been taken apart. -/
theorem fst_k {β : Type} {p : State × β} {a : State} {b : β} (e : p = (a, b)) (h : K p.1) : K a := by
  rw [e] at h; exact h

/-! ### Register fields and events -/

theorem State.setFld_k (hK : Loose m K) {s : State} (h : K s) (f : Fld) (i v : Nat) (hf : regOk m f.id = true) : K (s.setFld f i v) := by
  refine hK.upd h { pending := rfl, fuses := rfl, mem := rfl, zeroed := rfl, keys := rfl, regs := ?_, staged := fun _ => rfl, perMaster := fun _ => rfl, latHigh := fun _ => rfl, heldLow := fun _ => rfl, frameCycle := fun _ => rfl, cycle := fun _ => rfl, free := fun _ => rfl, resp := fun _ => rfl, ringQ := fun _ => rfl, logQ := fun _ => rfl, lanes := fun _ => rfl, sill := fun _ => rfl, sched := fun _ => rfl, tap := fun _ => rfl, longMem := fun _ => rfl, retPages := fun _ => rfl, plate := fun _ => rfl, links := fun _ => rfl, actions := fun _ => rfl, pauses := fun _ => rfl, mdlyHeld := fun _ => rfl, chg := fun _ => rfl, queued := fun _ => rfl, scnTrig := fun _ => rfl, scnQ := fun _ => rfl, mrecHeld := fun _ => rfl, sides := fun _ => rfl, groups := fun _ => rfl, plumb := fun _ => rfl, mate := fun _ => rfl, raise := fun _ => rfl, pcie := fun _ => rfl, own := fun _ => rfl, sampled := fun _ => rfl, tunnel := fun _ => rfl, spiQuad := fun _ => rfl, snd := fun _ => rfl, ddr := fun _ => rfl, snapFixed := fun _ => rfl, chainHeld := fun _ => rfl, snapAt := fun _ => rfl, snapped := fun _ => rfl, clear := fun _ => rfl, archive := fun _ => rfl, pegs := fun _ => rfl, tally := fun _ => rfl, tallyQ := fun _ => rfl, tallySecond := fun _ => rfl, tallyLost := fun _ => rfl, sist := fun _ => rfl, guarding := fun _ => rfl, tallyRaw := fun _ => rfl }
  intro id hi
  refine Tab.get_put_ne _ _ _ ?_
  intro e
  rw [e, hf] at hi
  exact Bool.noConfusion hi

theorem State.addFld_k (hK : Loose m K) {s : State} (h : K s) (f : Fld) (i n : Nat) (hf : regOk m f.id = true) : K (s.addFld f i n) := by
  unfold State.addFld
  split
  · exact h
  · exact State.setFld_k hK h f i _ hf

theorem State.satFld_k (hK : Loose m K) {s : State} (h : K s) (f : Fld) (i n : Nat) (hf : regOk m f.id = true) : K (s.satFld f i n) :=
  State.setFld_k hK h f i _ hf

theorem State.setFlag_k (hK : Loose m K) {s : State} (h : K s) (f : Fld) (i : Nat) (b : Bool) (hf : regOk m f.id = true) :
    K (s.setFlag f i b) :=
  State.setFld_k hK h f i _ hf

theorem State.setIfld_k (hK : Loose m K) {s : State} (h : K s) (f : Fld) (i : Nat) (v : Int) (hf : regOk m f.id = true) :
    K (s.setIfld f i v) :=
  State.setFld_k hK h f i _ hf

/-- The queues of event records. -/
def evQueues : Nat := 0xc00

theorem State.latchAs_k (hK : Loose m K) (hq : evQueues &&& m = evQueues) {s : State} (h : K s) (e : Ev) (i ri data : Nat)
    (hf : regOk m e.reg.id = true) : K (s.latchAs e i ri data) := by
  unfold State.latchAs
  split
  · exact h
  · refine hK.upd (State.setFld_k hK h e.reg i (orBit (s.fld e.reg i) e.bit) hf) ?_
    refine { pending := rfl, fuses := rfl, mem := rfl, zeroed := rfl, keys := rfl, regs := fun _ _ => rfl, staged := fun _ => rfl, perMaster := fun _ => rfl, latHigh := fun _ => rfl, heldLow := fun _ => rfl, frameCycle := fun _ => rfl, cycle := fun _ => rfl, free := fun _ => rfl, resp := fun _ => rfl, lanes := fun _ => rfl, sill := fun _ => rfl, sched := fun _ => rfl, tap := fun _ => rfl, longMem := fun _ => rfl, retPages := fun _ => rfl, plate := fun _ => rfl, links := fun _ => rfl, actions := fun _ => rfl, pauses := fun _ => rfl, mdlyHeld := fun _ => rfl, chg := fun _ => rfl, queued := fun _ => rfl, scnTrig := fun _ => rfl, scnQ := fun _ => rfl, mrecHeld := fun _ => rfl, sides := fun _ => rfl, groups := fun _ => rfl, plumb := fun _ => rfl, mate := fun _ => rfl, raise := fun _ => rfl, pcie := fun _ => rfl, own := fun _ => rfl, sampled := fun _ => rfl, tunnel := fun _ => rfl, spiQuad := fun _ => rfl, snd := fun _ => rfl, ddr := fun _ => rfl, snapFixed := fun _ => rfl, chainHeld := fun _ => rfl, snapAt := fun _ => rfl, snapped := fun _ => rfl, clear := fun _ => rfl, archive := fun _ => rfl, pegs := fun _ => rfl, tally := fun _ => rfl, tallyQ := fun _ => rfl, tallySecond := fun _ => rfl, tallyLost := fun _ => rfl, sist := fun _ => rfl, guarding := fun _ => rfl, tallyRaw := fun _ => rfl, ringQ := ?_, logQ := ?_ }
    · intro hn
      rw [testBit_of_sub hq (i := 10) rfl] at hn
      exact Bool.noConfusion hn
    · intro hn
      rw [testBit_of_sub hq (i := 11) rfl] at hn
      exact Bool.noConfusion hn

theorem State.latch_k (hK : Loose m K) (hq : evQueues &&& m = evQueues) {s : State} (h : K s) (e : Ev) (i : Nat)
    (hf : regOk m e.reg.id = true) : K (s.latch e i) :=
  State.latchAs_k hK hq h e i _ _ hf

theorem State.latchIf_k (hK : Loose m K) (hq : evQueues &&& m = evQueues) {s : State} (h : K s) (b : Bool) (e : Ev) (i : Nat)
    (hf : regOk m e.reg.id = true) : K (s.latchIf b e i) := by
  unfold State.latchIf
  split
  · exact State.latch_k hK hq h e i hf
  · exact h

theorem State.latchFor_k (hK : Loose m K) (hq : evQueues &&& m = evQueues) {s : State} (h : K s) (e : Ev) (ri : Nat)
    (hf : regOk m e.reg.id = true) : K (s.latchFor e ri) :=
  State.latchAs_k hK hq h e 0 _ _ hf

end Sys2Proof.Machine
end

