-- ==== Sys2Proof/Laws/FootOps.lean ====
section
/-! SUPPORT. What the operations and commands of Machine/Ops.lean may change (Laws/Loose.lean). -/

set_option Elab.async false
set_option linter.unusedTactic false
set_option linter.unreachableTactic false

namespace Sys2Proof.Machine

variable {K : State → Prop}

theorem State.setStg_k (hK : Loose 0x4 K) {s : State} (h : K s) (f : Fld) (i v : Nat) :
    K (State.setStg s f i v) := by
  unfold State.setStg
  try dsimp only
  repeat' first
    | with_reducible assumption
    | with_reducible refine ite_k ?_ ?_
    | fail_if_no_progress with_reducible refine hK.build ?_ rfl

theorem State.setMfld_k (hK : Loose 0x8 K) {s : State} (h : K s) (f : Fld) (i m v : Nat) :
    K (State.setMfld s f i m v) := by
  unfold State.setMfld
  try dsimp only
  repeat' first
    | with_reducible assumption
    | fail_if_no_progress with_reducible refine hK.build ?_ rfl

theorem State.drawn_k (hK : Loose 0x100 K) {s : State} (h : K s) :
    K (State.drawn s) := by
  unfold State.drawn
  try dsimp only
  repeat' first
    | with_reducible assumption
    | fail_if_no_progress with_reducible refine hK.build ?_ rfl

theorem State.writeBytes_k (hK : Loose 0x1000 K) {s : State} (h : K s) (a : Nat) (l : List (BitVec 8)) :
    K (State.writeBytes s a l) := by
  induction l generalizing s a with
  | nil => exact h
  | cons b t ih => exact ih (hK.setByte (by decide) h a b) _

theorem State.writeLe_k (hK : Loose 0x1000 K) {s : State} (h : K s) (a n v : Nat) :
    K (State.writeLe s a n v) := by
  unfold State.writeLe
  try dsimp only
  repeat' first
    | with_reducible assumption
    | with_reducible refine State.writeBytes_k (hK.mono (by decide)) ?_ _ _

theorem leBytes_length (n v : Nat) : (leBytes n v).length = n := by simp [leBytes]

/-- Bytes stored within a part of the memory that the mask names. -/
theorem State.writeBytes_in {m : Nat} (hK : Loose m K) {k : Nat} (hk : m.testBit k = true) {s : State} (h : K s) (a : Nat)
    (l : List (BitVec 8)) (hw : ∀ j < l.length, s.area k (a + j)) : K (s.writeBytes a l) := by
  induction l generalizing s a with
  | nil => exact h
  | cons b t ih =>
    refine ih (hK.area k hk h a b (hw 0 (Nat.succ_pos _))) _ ?_
    intro j hj
    rw [State.area_setByte, Nat.add_assoc, Nat.add_comm 1 j]
    exact hw (j + 1) (Nat.succ_lt_succ hj)

theorem State.writeLe_in {m : Nat} (hK : Loose m K) {k : Nat} (hk : m.testBit k = true) {s : State} (h : K s) (a n v : Nat)
    (hw : ∀ j < n, s.area k (a + j)) : K (s.writeLe a n v) :=
  State.writeBytes_in hK hk h a _ (fun j hj => hw j (by rwa [leBytes_length] at hj))

/-- A lock word lies among the lock words. -/
theorem area_lock (s : State) (k : Nat) : ∀ j < 4, s.area 58 (lockAddr k + j) := by
  intro j hj
  show inLocks _
  have h : k % 64 < 64 := Nat.mod_lt _ (by decide)
  unfold inLocks within lockAddr
  omega

theorem State.setLane_k (hK : Loose 0x2000 K) {s : State} (h : K s) (n : Nat) (l : LaneSt) :
    K (State.setLane s n l) := by
  unfold State.setLane
  try dsimp only
  repeat' first
    | with_reducible assumption
    | fail_if_no_progress with_reducible refine hK.build ?_ rfl

theorem State.updLane_k (hK : Loose 0x2000 K) {s : State} (h : K s) (n : Nat) (f : LaneSt → LaneSt) :
    K (State.updLane s n f) := by
  unfold State.updLane
  try dsimp only
  repeat' first
    | with_reducible assumption
    | with_reducible refine State.setLane_k (hK.mono (by decide)) ?_ _ _

theorem State.answer_k (hK : Loose 0x200 K) {s : State} (h : K s) (st : Status) (ws : List Nat) :
    K (State.answer s st ws) := by
  unfold State.answer
  try dsimp only
  repeat' first
    | with_reducible assumption
    | fail_if_no_progress with_reducible refine hK.build ?_ rfl

theorem State.recordErr_k (hK : Loose 0x1e000000000000000000000000000000000000000000000000000000000000000000000000000000000000000000000000000000000000000000000000000000000000000000000000000000000000 K) {s : State} (h : K s) (m a target kind : Nat) :
    K (State.recordErr s m a target kind) := by
  unfold State.recordErr
  try dsimp only
  repeat' first
    | with_reducible assumption
    | decide
    | rfl
    | (dsimp only [Ev.plus]; decide)
    | (show regOk _ _ = true; split <;> decide)
    | with_reducible refine State.setFld_k hK ?_ _ _ _ ?_

theorem State.defaultHit_k (hK : Loose 0x1e400000000000000000000000000000000000000000000000000000000000000000000000000000000000000000000000000000000000000000000000000000000000000000000000000000000e00 K) {s : State} (h : K s) (m a : Nat) :
    K (State.defaultHit s m a) := by
  unfold State.defaultHit
  try dsimp only
  repeat' first
    | with_reducible assumption
    | decide
    | rfl
    | (dsimp only [Ev.plus]; decide)
    | (show regOk _ _ = true; split <;> decide)
    | with_reducible refine State.recordErr_k (hK.mono (by decide)) ?_ _ _ _ _
    | with_reducible refine State.latchFor_k hK (by decide) ?_ _ _ ?_
    | with_reducible refine State.answer_k (hK.mono (by decide)) ?_ _ _

theorem State.reportAbort_k (hK : Loose 0x800000000 K) {s : State} (h : K s) (m : Nat) :
    K (State.reportAbort s m) := by
  unfold State.reportAbort
  try dsimp only
  repeat' first
    | with_reducible assumption
    | with_reducible refine ite_k ?_ ?_
    | with_reducible refine foldl_k _ _ ?_ ?_
    | with_reducible refine foldl_fst_k _ _ _ ?_ ?_
    | intro _ _ _
    | split
    | refine fst_k (by with_reducible assumption) ?_
    | fail_if_no_progress with_reducible refine hK.build ?_ rfl

theorem State.defaultWrite_k (hK : Loose 0x1e400000000000000000000000000000000000000000000000000000000000000000000000000000000000000000000000000000000000000000000000000000000000000000000000000800000e00 K) {s : State} (h : K s) (m a : Nat) :
    K (State.defaultWrite s m a) := by
  unfold State.defaultWrite
  try dsimp only
  repeat' first
    | with_reducible assumption
    | with_reducible refine State.reportAbort_k (hK.mono (by decide)) ?_ _
    | with_reducible refine State.defaultHit_k (hK.mono (by decide)) ?_ _ _
    | with_reducible refine ite_k ?_ ?_
    | with_reducible refine foldl_k _ _ ?_ ?_
    | with_reducible refine foldl_fst_k _ _ _ ?_ ?_
    | intro _ _ _
    | split
    | refine fst_k (by with_reducible assumption) ?_

theorem State.stampTick_k (hK : Loose 0xc00 K) {s : State} (h : K s) (old : State) :
    K (State.stampTick s old) := by
  unfold State.stampTick
  try dsimp only
  repeat' first
    | with_reducible assumption
    | with_reducible refine ite_k ?_ ?_
    | with_reducible refine foldl_k _ _ ?_ ?_
    | with_reducible refine foldl_fst_k _ _ _ ?_ ?_
    | intro _ _ _
    | split
    | refine fst_k (by with_reducible assumption) ?_
    | fail_if_no_progress with_reducible refine hK.build ?_ rfl

end Sys2Proof.Machine
end

