-- ==== Sys2Proof/Laws/FootMateOps.lean ====
section
/-! SUPPORT. What the operations and commands of Machine/MateOps.lean may change (Laws/Loose.lean). -/

set_option Elab.async false
set_option linter.unusedTactic false
set_option linter.unreachableTactic false

namespace Sys2Proof.Machine

variable {K : State → Prop}

theorem State.storeUnits_k (hK : Loose 0x100000100000000 K) {s : State} (h : K s) (units : List (List Nat)) :
    K (State.storeUnits s units) := by
  unfold State.storeUnits
  refine foldl_k _ _ h ?_
  intro t u ht
  refine hK.build (t := if t.fld R.MAT_JBASE_BASE = 0 then t
    else t.writeBytes (t.fld R.MAT_JBASE_BASE + 16 * (t.mate.jUnit % journalUnits)) ((u.flatMap (leBytes 4)).take 16)) ?_ rfl
  split
  · exact ht
  · next hb =>
    refine State.writeBytes_in hK (k := 56) (by decide) ht _ _ ?_
    intro j hj
    have h1 : j < 16 := Nat.lt_of_lt_of_le hj (List.length_take_le ..)
    have h2 : t.mate.jUnit % journalUnits < journalUnits := Nat.mod_lt _ (by decide)
    refine ⟨hb, ?_, ?_⟩ <;> omega

theorem State.countJournal_k (hK : Loose 0x40000000000000000000000000000000000000000000000000000000000000000000000000000000000000000000000000000000000000000000000000000 K) {s : State} (h : K s) :
    K (State.countJournal s) := by
  unfold State.countJournal
  try dsimp only
  repeat' first
    | with_reducible assumption
    | decide
    | rfl
    | (dsimp only [Ev.plus]; decide)
    | (show regOk _ _ = true; split <;> decide)
    | with_reducible refine State.setFld_k hK ?_ _ _ _ ?_

theorem State.startEpoch_k (hK : Loose 0x8e000000000000000000000000000000000000000000000000000000000000000000000000000000000000000000000000000000000000000000100000000 K) {s : State} (h : K s) (e : Nat) (inbound : Bool) :
    K (State.startEpoch s e inbound) := by
  unfold State.startEpoch
  try dsimp only
  repeat' first
    | with_reducible assumption
    | decide
    | rfl
    | (dsimp only [Ev.plus]; decide)
    | (show regOk _ _ = true; split <;> decide)
    | with_reducible refine State.setFld_k hK ?_ _ _ _ ?_
    | with_reducible refine State.setFlag_k hK ?_ _ _ _ ?_
    | with_reducible refine ite_k ?_ ?_
    | with_reducible refine foldl_k _ _ ?_ ?_
    | with_reducible refine foldl_fst_k _ _ _ ?_ ?_
    | intro _ _ _
    | split
    | refine fst_k (by with_reducible assumption) ?_
    | fail_if_no_progress with_reducible refine hK.build ?_ rfl

theorem State.newCopy_k (hK : Loose 0x8e000000000000000000000000000000000000000000000000000000000000000000000000000000000000000000000000000000000000000000100000000 K) {s : State} (h : K s) :
    K (State.newCopy s) := by
  unfold State.newCopy
  try dsimp only
  repeat' first
    | with_reducible assumption
    | with_reducible refine State.startEpoch_k (hK.mono (by decide)) ?_ _ _
    | with_reducible refine ite_k ?_ ?_
    | with_reducible refine foldl_k _ _ ?_ ?_
    | with_reducible refine foldl_fst_k _ _ _ ?_ ?_
    | intro _ _ _
    | split
    | refine fst_k (by with_reducible assumption) ?_
    | fail_if_no_progress with_reducible refine hK.build ?_ rfl

theorem State.journal_k (hK : Loose 0xde000400000000000000000000000000000000000000000000000000000000000000000000000000000000000000000000000000000000100000100000c00 K) {s : State} (h : K s) (kind frame cseq : Nat) (units : List (List Nat)) :
    K (State.journal s kind frame cseq units) := by
  unfold State.journal
  try dsimp only
  repeat' first
    | with_reducible assumption
    | decide
    | rfl
    | (dsimp only [Ev.plus]; decide)
    | (show regOk _ _ = true; split <;> decide)
    | with_reducible refine State.setFld_k hK ?_ _ _ _ ?_
    | with_reducible refine State.setFlag_k hK ?_ _ _ _ ?_
    | with_reducible refine State.latch_k hK (by decide) ?_ _ _ ?_
    | with_reducible refine State.countJournal_k (hK.mono (by decide)) ?_ 
    | with_reducible refine State.storeUnits_k (hK.mono (by decide)) ?_ _
    | with_reducible refine State.newCopy_k (hK.mono (by decide)) ?_
    | with_reducible refine ite_k ?_ ?_
    | split
    | refine fst_k (by with_reducible assumption) ?_
    | with_reducible refine foldl_k _ _ ?_ ?_
    | with_reducible refine foldl_fst_k _ _ _ ?_ ?_
    | intro _ _ _
    | fail_if_no_progress with_reducible refine hK.build ?_ rfl

theorem State.countDual_k (hK : Loose 0x100000000 K) {s : State} (h : K s) (n : Nat) :
    K (State.countDual s n) := by
  unfold State.countDual
  try dsimp only
  repeat' first
    | with_reducible assumption
    | with_reducible refine ite_k ?_ ?_
    | fail_if_no_progress with_reducible refine hK.build ?_ rfl

theorem State.updMate_k (hK : Loose 0x100000000 K) {s : State} (h : K s) (f : Mate → Mate) :
    K (State.updMate s f) := by
  unfold State.updMate
  try dsimp only
  repeat' first
    | with_reducible assumption
    | fail_if_no_progress with_reducible refine hK.build ?_ rfl

theorem State.mateTo_k (hK : Loose 0x429000000000000000000000000000000000000000000000000000000000000000000000000000000000000000000000000000000000000100000c00 K) {s : State} (h : K s) (st : Nat) :
    K (State.mateTo s st) := by
  unfold State.mateTo
  try dsimp only
  repeat' first
    | with_reducible assumption
    | decide
    | rfl
    | (dsimp only [Ev.plus]; decide)
    | (show regOk _ _ = true; split <;> decide)
    | with_reducible refine State.setFld_k hK ?_ _ _ _ ?_
    | with_reducible refine State.setFlag_k hK ?_ _ _ _ ?_
    | with_reducible refine State.updMate_k (hK.mono (by decide)) ?_ _
    | with_reducible refine State.latch_k hK (by decide) ?_ _ _ ?_
    | with_reducible refine ite_k ?_ ?_
    | split
    | refine fst_k (by with_reducible assumption) ?_
    | fail_if_no_progress with_reducible refine hK.build ?_ rfl

theorem State.failDevice_k (hK : Loose 0x4e9000000000000000000000000000000000000000000000000000000000000000000000000000000000000000000000000000000000000100000c00 K) {s : State} (h : K s) :
    K (State.failDevice s) := by
  unfold State.failDevice
  try dsimp only
  repeat' first
    | with_reducible assumption
    | decide
    | rfl
    | (dsimp only [Ev.plus]; decide)
    | (show regOk _ _ = true; split <;> decide)
    | with_reducible refine State.mateTo_k (hK.mono (by decide)) ?_ _
    | with_reducible refine State.latchIf_k hK (by decide) ?_ _ _ _ ?_
    | with_reducible refine State.setFlag_k hK ?_ _ _ _ ?_
    | with_reducible refine State.setFld_k hK ?_ _ _ _ ?_
    | with_reducible refine State.updMate_k (hK.mono (by decide)) ?_ _
    | with_reducible refine ite_k ?_ ?_
    | split
    | refine fst_k (by with_reducible assumption) ?_
    | fail_if_no_progress with_reducible refine hK.build ?_ rfl

end Sys2Proof.Machine
end

