-- ==== Sys2Proof/Laws/FootUnits.lean ====
section
/-! SUPPORT. What the operations and commands of Machine/Units.lean may change (Laws/Loose.lean). -/

set_option Elab.async false
set_option linter.unusedTactic false
set_option linter.unreachableTactic false

namespace Sys2Proof.Machine

variable {K : State → Prop}

theorem State.readUnits_k (hK : Loose 0x100000000000000000000000000000000000000000000000000000000000000000000000000000000000000000000000000000000000000000000000000000000000000000000000000000000000000000000000 K) {s : State} (h : K s) (us : List Nat) :
    K (State.readUnits s us) := by
  unfold State.readUnits
  try dsimp only
  repeat' first
    | with_reducible assumption
    | decide
    | rfl
    | (dsimp only [Ev.plus]; decide)
    | (show regOk _ _ = true; split <;> decide)
    | with_reducible refine State.addFld_k hK ?_ _ _ _ ?_
    | with_reducible refine ite_k ?_ ?_
    | with_reducible refine foldl_k _ _ ?_ ?_
    | with_reducible refine foldl_fst_k _ _ _ ?_ ?_
    | intro _ _ _
    | split
    | refine fst_k (by with_reducible assumption) ?_

end Sys2Proof.Machine
end

