-- ==== Sys2Proof/Laws/FootSisters.lean ====
section
/-! SUPPORT. What the operations and commands of Machine/Sisters.lean may change (Laws/Loose.lean). -/

set_option Elab.async false
set_option linter.unusedTactic false
set_option linter.unreachableTactic false

namespace Sys2Proof.Machine

variable {K : State → Prop}

theorem State.tallyAdd_k (hK : Loose 0x4000000000000 K) {s : State} (h : K s) (kind cls inst : Nat) (data : List Nat) :
    K (State.tallyAdd s kind cls inst data) := by
  unfold State.tallyAdd
  try dsimp only
  repeat' first
    | with_reducible assumption
    | fail_if_no_progress with_reducible refine hK.build ?_ rfl

theorem State.updSist_k (hK : Loose 0x20000000000000 K) {s : State} (h : K s) (f : Sist → Sist) :
    K (State.updSist s f) := by
  unfold State.updSist
  try dsimp only
  repeat' first
    | with_reducible assumption
    | fail_if_no_progress with_reducible refine hK.build ?_ rfl

theorem State.showBusy_k (hK : Loose 0x2000000000000000000000000000000000000000000000000000000000000000000000000000000000000000000000000000000000000000000000000000000000000000000000000000000000000000000000000000000000000 K) {s : State} (h : K s) :
    K (State.showBusy s) := by
  unfold State.showBusy
  try dsimp only
  repeat' first
    | with_reducible assumption
    | decide
    | rfl
    | (dsimp only [Ev.plus]; decide)
    | (show regOk _ _ = true; split <;> decide)
    | with_reducible refine State.setFlag_k hK ?_ _ _ _ ?_
    | split
    | refine fst_k (by with_reducible assumption) ?_

theorem State.needSubst_k (hK : Loose 0x20000000000000000000000000000000000000000000000000000000000000000000000000000000000000000000000000000000000000000000000000000000000000000000000000000000000000000000000004000000000d00 K) {s : State} (h : K s) (cls inst : Nat) :
    K (State.needSubst s cls inst) := by
  unfold State.needSubst
  try dsimp only
  repeat' first
    | with_reducible assumption
    | decide
    | rfl
    | (dsimp only [Ev.plus]; decide)
    | (show regOk _ _ = true; split <;> decide)
    | with_reducible refine State.latch_k hK (by decide) ?_ _ _ ?_
    | with_reducible refine State.tallyAdd_k (hK.mono (by decide)) ?_ _ _ _ _
    | with_reducible refine State.drawn_k (hK.mono (by decide)) ?_ 

theorem State.substDoneAt_k (hK : Loose 0x22000000000000000000000000000000000000000000000000000000000000000000000000000000000000000000000000000000000000000000000000000000000000000000000000000000000000000000000004000000000c00 K) {s : State} (h : K s) (cls inst spare f : Nat) :
    K (State.substDoneAt s cls inst spare f) := by
  unfold State.substDoneAt
  try dsimp only
  repeat' first
    | with_reducible assumption
    | decide
    | rfl
    | (dsimp only [Ev.plus]; decide)
    | (show regOk _ _ = true; split <;> decide)
    | with_reducible refine State.latch_k hK (by decide) ?_ _ _ ?_
    | with_reducible refine State.tallyAdd_k (hK.mono (by decide)) ?_ _ _ _ _
    | with_reducible refine State.showBusy_k (hK.mono (by decide)) ?_ 

theorem State.substDone_k (hK : Loose 0x22000000000000000000000000000000000000000000000000000000000000000000000000000000000000000000000000000000000000000000000000000000000000000000000000000000000000000000000004000000000c00 K) {s : State} (h : K s) (cls inst spare : Nat) :
    K (State.substDone s cls inst spare) := by
  unfold State.substDone
  try dsimp only
  repeat' first
    | with_reducible assumption
    | with_reducible refine State.substDoneAt_k (hK.mono (by decide)) ?_ _ _ _ _

theorem State.exhausted_k (hK : Loose 0x20000000000000000000000000000000000000000000000000000000000000000000000000000000000000000000000000000000000000000000000000000000000000000000000000000000000000000000000000000000000c00 K) {s : State} (h : K s) :
    K (State.exhausted s) := by
  unfold State.exhausted
  try dsimp only
  repeat' first
    | with_reducible assumption
    | decide
    | rfl
    | (dsimp only [Ev.plus]; decide)
    | (show regOk _ _ = true; split <;> decide)
    | with_reducible refine State.latch_k hK (by decide) ?_ _ _ ?_

theorem State.endRotation_k (hK : Loose 0x24000000000000000000000000000000000000000000000000000000000000004 K) {s : State} (h : K s) :
    K (State.endRotation s) := by
  unfold State.endRotation
  try dsimp only
  repeat' first
    | with_reducible assumption
    | decide
    | rfl
    | (dsimp only [Ev.plus]; decide)
    | (show regOk _ _ = true; split <;> decide)
    | with_reducible refine State.setFlag_k hK ?_ _ _ _ ?_
    | with_reducible refine State.setStg_k (hK.mono (by decide)) ?_ _ _ _
    | with_reducible refine State.setFld_k hK ?_ _ _ _ ?_
    | with_reducible refine ite_k ?_ ?_
    | with_reducible refine foldl_k _ _ ?_ ?_
    | with_reducible refine foldl_fst_k _ _ _ ?_ ?_
    | intro _ _ _
    | split
    | refine fst_k (by with_reducible assumption) ?_

theorem State.retireLams_k (hK : Loose 0x822000000000000000000000000000000000000000000000000000000000000000000000000000000000000000000000000000000000000000000024000000000000000000000000000000000000000000000000020000000000c04 K) {s : State} (h : K s) :
    K (State.retireLams s) := by
  unfold State.retireLams
  try dsimp only
  repeat' first
    | with_reducible assumption
    | decide
    | rfl
    | (dsimp only [Ev.plus]; decide)
    | (show regOk _ _ = true; split <;> decide)
    | with_reducible refine State.setFld_k hK ?_ _ _ _ ?_
    | with_reducible refine State.updSist_k (hK.mono (by decide)) ?_ _
    | with_reducible refine State.exhausted_k (hK.mono (by decide)) ?_ 
    | with_reducible refine State.setFlag_k hK ?_ _ _ _ ?_
    | with_reducible refine State.showBusy_k (hK.mono (by decide)) ?_ 
    | with_reducible refine State.endRotation_k (hK.mono (by decide)) ?_
    | with_reducible refine ite_k ?_ ?_
    | with_reducible refine foldl_k _ _ ?_ ?_
    | with_reducible refine foldl_fst_k _ _ _ ?_ ?_
    | intro _ _ _
    | split
    | refine fst_k (by with_reducible assumption) ?_

theorem State.lamTrigger_k (hK : Loose 0x8220000000000000000000000000000000000000000000000000000000000004e9000000000000000000000000000000000000000000000000000024000000000000000000000000000000000000000000000000024000100000d04 K) {s : State} (h : K s) (k due : Nat) :
    K (State.lamTrigger s k due) := by
  unfold State.lamTrigger
  try dsimp only
  repeat' first
    | with_reducible assumption
    | decide
    | rfl
    | (dsimp only [Ev.plus]; decide)
    | (show regOk _ _ = true; split <;> decide)
    | with_reducible refine State.exhausted_k (hK.mono (by decide)) ?_ 
    | with_reducible refine State.updSist_k (hK.mono (by decide)) ?_ _
    | with_reducible refine State.setFld_k hK ?_ _ _ _ ?_
    | with_reducible refine State.setFlag_k hK ?_ _ _ _ ?_
    | with_reducible refine State.showBusy_k (hK.mono (by decide)) ?_ 
    | with_reducible refine State.needSubst_k (hK.mono (by decide)) ?_ _ _
    | with_reducible refine State.failDevice_k (hK.mono (by decide)) ?_ 
    | with_reducible refine State.retireLams_k (hK.mono (by decide)) ?_
    | with_reducible refine ite_k ?_ ?_
    | split
    | refine fst_k (by with_reducible assumption) ?_
    | with_reducible refine foldl_k _ _ ?_ ?_
    | with_reducible refine foldl_fst_k _ _ _ ?_ ?_
    | intro _ _ _
    | fail_if_no_progress with_reducible refine hK.build ?_ rfl

theorem State.evalLams_k (hK : Loose 0x8220000000000000000000000000000000000000000000000000000000000004e9000000000000000000000000000000000000000000000000000024000000000000000000000000000000000000000000000000024000100000d04 K) {s : State} (h : K s) :
    K (State.evalLams s) := by
  unfold State.evalLams
  try dsimp only
  repeat' first
    | with_reducible assumption
    | with_reducible refine State.lamTrigger_k (hK.mono (by decide)) ?_ _ _
    | with_reducible refine ite_k ?_ ?_
    | with_reducible refine foldl_k _ _ ?_ ?_
    | with_reducible refine foldl_fst_k _ _ _ ?_ ?_
    | intro _ _ _
    | split
    | refine fst_k (by with_reducible assumption) ?_

theorem State.moveShadow_k (hK : Loose 0x48000000000000000000000000000000000000000000000000020000000000000 K) {s : State} (h : K s) (k : Nat) :
    K (State.moveShadow s k) := by
  unfold State.moveShadow
  try dsimp only
  repeat' first
    | with_reducible assumption
    | decide
    | rfl
    | (dsimp only [Ev.plus]; decide)
    | (show regOk _ _ = true; split <;> decide)
    | with_reducible refine State.updSist_k (hK.mono (by decide)) ?_ _
    | with_reducible refine State.setFld_k hK ?_ _ _ _ ?_
    | with_reducible refine ite_k ?_ ?_
    | with_reducible refine foldl_k _ _ ?_ ?_
    | with_reducible refine foldl_fst_k _ _ _ ?_ ?_
    | intro _ _ _
    | split
    | refine fst_k (by with_reducible assumption) ?_

theorem State.setFec_k (hK : Loose 0x20000000000000 K) {s : State} (h : K s) (n : Nat) (f : FecSub) :
    K (State.setFec s n f) := by
  unfold State.setFec
  try dsimp only
  repeat' first
    | with_reducible assumption
    | with_reducible refine State.updSist_k (hK.mono (by decide)) ?_ _
    | fail_if_no_progress with_reducible refine hK.build ?_ rfl

theorem State.startFec_k (hK : Loose 0x2000000000000000000000000000000000000000000000000000000000000000000000000000000000000000000000000000000000000000000000000000000000000000000000000000000000000000000000020000000000000 K) {s : State} (h : K s) (n : Nat) :
    K (State.startFec s n) := by
  unfold State.startFec
  try dsimp only
  repeat' first
    | with_reducible assumption
    | with_reducible refine State.setFec_k (hK.mono (by decide)) ?_ _ _
    | with_reducible refine State.updSist_k (hK.mono (by decide)) ?_ _
    | with_reducible refine State.showBusy_k (hK.mono (by decide)) ?_ 
    | with_reducible refine ite_k ?_ ?_
    | fail_if_no_progress with_reducible refine hK.build ?_ rfl

theorem State.callFec_k (hK : Loose 0x22000000000000000000000000000000000000000000000000000000000000000000000000000000000000000000000000000000000000000000000000000000000000000000000000000000000000000000000024000000000d00 K) {s : State} (h : K s) (n : Nat) :
    K (State.callFec s n) := by
  unfold State.callFec
  try dsimp only
  repeat' first
    | with_reducible assumption
    | with_reducible refine State.exhausted_k (hK.mono (by decide)) ?_ 
    | with_reducible refine State.tallyAdd_k (hK.mono (by decide)) ?_ _ _ _ _
    | with_reducible refine State.setFec_k (hK.mono (by decide)) ?_ _ _
    | with_reducible refine State.startFec_k (hK.mono (by decide)) ?_ _
    | with_reducible refine State.needSubst_k (hK.mono (by decide)) ?_ _ _
    | with_reducible refine ite_k ?_ ?_

theorem State.fecTrigger_k (hK : Loose 0x22000000000000000000000000000000000000000000000000000000000000000000000000000000000000000000000000000000000000000000000000000000000000000000000000000000000000000000000024000000000d00 K) {s : State} (h : K s) (n : Nat) :
    K (State.fecTrigger s n) := by
  unfold State.fecTrigger
  try dsimp only
  repeat' first
    | with_reducible assumption
    | with_reducible refine State.callFec_k (hK.mono (by decide)) ?_ _
    | with_reducible refine ite_k ?_ ?_
    | split
    | refine fst_k (by with_reducible assumption) ?_
    | fail_if_no_progress with_reducible refine hK.build ?_ rfl

theorem State.fecRow_k (hK : Loose 0x20000000000000 K) {s : State} (h : K s) (n : Nat) :
    K (State.fecRow s n) := by
  unfold State.fecRow
  try dsimp only
  repeat' first
    | with_reducible assumption
    | with_reducible refine State.setFec_k (hK.mono (by decide)) ?_ _ _
    | split
    | refine fst_k (by with_reducible assumption) ?_
    | fail_if_no_progress with_reducible refine hK.build ?_ rfl

theorem State.nextFec_k (hK : Loose 0x22000000000000000000000000000000000000000000000000000000000000000000000000000000000000000000000000000000000000000000000000000000000000000000000000000000000000000000000024000000000d00 K) {s : State} (h : K s) :
    K (State.nextFec s) := by
  unfold State.nextFec
  try dsimp only
  repeat' first
    | with_reducible assumption
    | with_reducible refine State.showBusy_k (hK.mono (by decide)) ?_ 
    | with_reducible refine State.callFec_k (hK.mono (by decide)) ?_ _
    | with_reducible refine State.updSist_k (hK.mono (by decide)) ?_ _
    | with_reducible refine ite_k ?_ ?_
    | with_reducible refine foldl_k _ _ ?_ ?_
    | with_reducible refine foldl_fst_k _ _ _ ?_ ?_
    | intro _ _ _
    | split
    | refine fst_k (by with_reducible assumption) ?_

theorem execFecSubstSwitch_k (hK : Loose 0x2022000000000000000000000000000000000000000000000000000000000000000000000000000000000000000000000000000000000000000000000000000000000000000000000000000000000000000000000024000000000d00 K) {s : State} (h : K s) (n : LaneIx) (agree : Bool) :
    ∃ z, execFecSubstSwitch n agree s = .next z ∧ K z := by
  unfold execFecSubstSwitch
  refine ⟨_, rfl, ?_⟩
  try dsimp only
  repeat' first
    | with_reducible assumption
    | decide
    | rfl
    | (dsimp only [Ev.plus]; decide)
    | (show regOk _ _ = true; split <;> decide)
    | with_reducible refine State.setFld_k hK ?_ _ _ _ ?_
    | with_reducible refine State.setFec_k (hK.mono (by decide)) ?_ _ _
    | with_reducible refine State.substDone_k (hK.mono (by decide)) ?_ _ _ _
    | with_reducible refine State.nextFec_k (hK.mono (by decide)) ?_ 
    | with_reducible refine State.exhausted_k (hK.mono (by decide)) ?_ 
    | with_reducible refine State.tallyAdd_k (hK.mono (by decide)) ?_ _ _ _ _
    | with_reducible refine ite_k ?_ ?_
    | split
    | refine fst_k (by with_reducible assumption) ?_
    | fail_if_no_progress with_reducible refine hK.build ?_ rfl

theorem State.lsdBegins_k (hK : Loose 0x20000000000000 K) {s : State} (h : K s) (n : Nat) :
    K (State.lsdBegins s n) := by
  unfold State.lsdBegins
  try dsimp only
  repeat' first
    | with_reducible assumption
    | with_reducible refine State.updSist_k (hK.mono (by decide)) ?_ _
    | fail_if_no_progress with_reducible refine hK.build ?_ rfl

theorem State.lsdEnds_k (hK : Loose 0x20000000000000 K) {s : State} (h : K s) (n : Nat) :
    K (State.lsdEnds s n) := by
  unfold State.lsdEnds
  try dsimp only
  repeat' first
    | with_reducible assumption
    | with_reducible refine State.updSist_k (hK.mono (by decide)) ?_ _
    | split
    | refine fst_k (by with_reducible assumption) ?_
    | fail_if_no_progress with_reducible refine hK.build ?_ rfl

theorem State.hardDefect_k (hK : Loose 0x20000000000000 K) {s : State} (h : K s) (n : Nat) :
    K (State.hardDefect s n) := by
  unfold State.hardDefect
  try dsimp only
  repeat' first
    | with_reducible assumption
    | with_reducible refine State.updSist_k (hK.mono (by decide)) ?_ _
    | with_reducible refine ite_k ?_ ?_
    | fail_if_no_progress with_reducible refine hK.build ?_ rfl

end Sys2Proof.Machine
end

