-- ==== Sys2Proof/Laws/FootCountOps.lean ====
section
/-! SUPPORT. What the operations and commands of Machine/CountOps.lean may change (Laws/Loose.lean). -/

set_option Elab.async false
set_option linter.unusedTactic false
set_option linter.unreachableTactic false

namespace Sys2Proof.Machine

variable {K : State → Prop}

theorem State.bankRaw_k (hK : Loose 0x200000000000000000000000000000000000000000000000000000000000000000000000000000000000000000000000000000000000000000000000000000000000000000000000000000000000000000000000000000000000 K) {s : State} (h : K s) (c n : Nat) :
    K (State.bankRaw s c n).1 := by
  unfold State.bankRaw
  try dsimp only
  repeat' first
    | with_reducible assumption
    | decide
    | rfl
    | (dsimp only [Ev.plus]; decide)
    | (show regOk _ _ = true; split <;> decide)
    | with_reducible refine State.setFld_k hK ?_ _ _ _ ?_

theorem State.bankAdd_k (hK : Loose 0x200000000800000000000000000000000000000000000000000000000000000000000000000000000000000000000000000000000000000000000000000000000000000000000000000000000000000000000000000000000c00 K) {s : State} (h : K s) (c n : Nat) :
    K (State.bankAdd s c n) := by
  unfold State.bankAdd
  try dsimp only
  repeat' first
    | with_reducible assumption
    | decide
    | rfl
    | (dsimp only [Ev.plus]; decide)
    | (show regOk _ _ = true; split <;> decide)
    | with_reducible refine State.bankRaw_k (hK.mono (by decide)) ?_ _ _
    | with_reducible refine State.latchIf_k hK (by decide) ?_ _ _ _ ?_
    | with_reducible refine State.latch_k hK (by decide) ?_ _ _ ?_
    | with_reducible refine ite_k ?_ ?_
    | split
    | refine fst_k (by with_reducible assumption) ?_

theorem State.setCycle_k (hK : Loose 0x80000080 K) {s : State} (h : K s) (k : Nat) :
    K (State.setCycle s k) := by
  unfold State.setCycle
  try dsimp only
  repeat' first
    | with_reducible assumption
    | with_reducible refine ite_k ?_ ?_
    | with_reducible refine foldl_k _ _ ?_ ?_
    | with_reducible refine foldl_fst_k _ _ _ ?_ ?_
    | intro _ _ _
    | split
    | refine fst_k (by with_reducible assumption) ?_
    | fail_if_no_progress with_reducible refine hK.build ?_ rfl

theorem State.someCycle_k (hK : Loose 0x80000180 K) {s : State} (h : K s) :
    K (State.someCycle s) := by
  unfold State.someCycle
  try dsimp only
  repeat' first
    | with_reducible assumption
    | with_reducible refine State.drawn_k (hK.mono (by decide)) ?_ 
    | with_reducible refine State.setCycle_k (hK.mono (by decide)) ?_ _
    | with_reducible refine ite_k ?_ ?_
    | with_reducible refine foldl_k _ _ ?_ ?_
    | with_reducible refine foldl_fst_k _ _ _ ?_ ?_
    | intro _ _ _
    | split
    | refine fst_k (by with_reducible assumption) ?_
    | fail_if_no_progress with_reducible refine hK.build ?_ rfl

theorem State.bankCycle_k (hK : Loose 0x80000180 K) {s : State} (h : K s) (c : Nat) :
    K (State.bankCycle s c) := by
  unfold State.bankCycle
  try dsimp only
  repeat' first
    | with_reducible assumption
    | with_reducible refine State.someCycle_k (hK.mono (by decide)) ?_
    | with_reducible refine ite_k ?_ ?_
    | with_reducible refine foldl_k _ _ ?_ ?_
    | with_reducible refine foldl_fst_k _ _ _ ?_ ?_
    | intro _ _ _
    | split
    | refine fst_k (by with_reducible assumption) ?_

theorem State.bankCount_k (hK : Loose 0x200000000800000000000000000000000000000000000000000000000000000000000000000000000000000000000000000000000000000000000000000000000000000000000000000000000000000000000000000000000c00 K) {s : State} (h : K s) (src i n : Nat) :
    K (State.bankCount s src i n) := by
  unfold State.bankCount
  try dsimp only
  repeat' first
    | with_reducible assumption
    | with_reducible refine State.bankAdd_k (hK.mono (by decide)) ?_ _ _
    | with_reducible refine ite_k ?_ ?_
    | with_reducible refine foldl_k _ _ ?_ ?_
    | with_reducible refine foldl_fst_k _ _ _ ?_ ?_
    | intro _ _ _

theorem State.countFrom_k (hK : Loose 0x80000000 K) {s : State} (h : K s) (c k : Nat) :
    K (State.countFrom s c k) := by
  unfold State.countFrom
  try dsimp only
  repeat' first
    | with_reducible assumption
    | with_reducible refine ite_k ?_ ?_
    | with_reducible refine foldl_k _ _ ?_ ?_
    | with_reducible refine foldl_fst_k _ _ _ ?_ ?_
    | intro _ _ _
    | split
    | refine fst_k (by with_reducible assumption) ?_
    | fail_if_no_progress with_reducible refine hK.build ?_ rfl

theorem State.bankUpTo_k (hK : Loose 0x200000000800000000000000000000000000000000000000000000000000000000000000000000000000000000000000000000000000000000000000000000000000000000000000000000000000000000000000000080000c00 K) {s : State} (h : K s) (c : Nat) :
    K (State.bankUpTo s c) := by
  unfold State.bankUpTo
  try dsimp only
  repeat' first
    | with_reducible assumption
    | with_reducible refine State.countFrom_k (hK.mono (by decide)) ?_ _ _
    | with_reducible refine State.bankAdd_k (hK.mono (by decide)) ?_ _ _
    | with_reducible refine ite_k ?_ ?_
    | with_reducible refine foldl_k _ _ ?_ ?_
    | with_reducible refine foldl_fst_k _ _ _ ?_ ?_
    | intro _ _ _
    | split
    | refine fst_k (by with_reducible assumption) ?_

theorem State.bankSettle_k (hK : Loose 0x200000000800000000000000000000000000000000000000000000000000000000000000000000000000000000000000000000000000000000000000000000000000000000000000000000000000000000000000000080000d80 K) {s : State} (h : K s) (c : Nat) :
    K (State.bankSettle s c) := by
  unfold State.bankSettle
  try dsimp only
  repeat' first
    | with_reducible assumption
    | with_reducible refine State.bankCycle_k (hK.mono (by decide)) ?_ _
    | with_reducible refine State.bankUpTo_k (hK.mono (by decide)) ?_ _
    | with_reducible refine ite_k ?_ ?_
    | with_reducible refine foldl_k _ _ ?_ ?_
    | with_reducible refine foldl_fst_k _ _ _ ?_ ?_
    | intro _ _ _
    | split
    | refine fst_k (by with_reducible assumption) ?_

theorem State.cycleWrap_k (hK : Loose 0x200000000800000000000000000000000000000000000000000000000000000000000000000000000000000000000000000000000000000000000000000000000000000000000000000000000000000000000000000080000c80 K) {s : State} (h : K s) (c : Nat) :
    K (State.cycleWrap s c) := by
  unfold State.cycleWrap
  try dsimp only
  repeat' first
    | with_reducible assumption
    | with_reducible refine State.countFrom_k (hK.mono (by decide)) ?_ _ _
    | with_reducible refine State.bankAdd_k (hK.mono (by decide)) ?_ _ _
    | with_reducible refine State.setCycle_k (hK.mono (by decide)) ?_ _
    | with_reducible refine ite_k ?_ ?_
    | with_reducible refine foldl_k _ _ ?_ ?_
    | with_reducible refine foldl_fst_k _ _ _ ?_ ?_
    | intro _ _ _
    | split
    | refine fst_k (by with_reducible assumption) ?_
    | fail_if_no_progress with_reducible refine hK.build ?_ rfl

theorem execCounterWrap_k (hK : Loose 0x200000000800000000000000000000000000000000000000000000000000000000000000000000000000000000000000000000000000000000000000000000000000000000000000000000000000000000000000000080000c80 K) {s : State} (h : K s) (c : Fin 16384) :
    ∃ z, execCounterWrap c s = .next z ∧ K z := by
  unfold execCounterWrap
  refine ⟨_, rfl, ?_⟩
  try dsimp only
  repeat' first
    | with_reducible assumption
    | with_reducible refine State.bankAdd_k (hK.mono (by decide)) ?_ _ _
    | with_reducible refine State.cycleWrap_k (hK.mono (by decide)) ?_ _
    | with_reducible refine ite_k ?_ ?_
    | with_reducible refine foldl_k _ _ ?_ ?_
    | with_reducible refine foldl_fst_k _ _ _ ?_ ?_
    | intro _ _ _
    | split
    | refine fst_k (by with_reducible assumption) ?_

theorem State.bankAddWritten_k (hK : Loose 0x200000000800000000000000000000000000000000000000000000000000000000000000000000000000000000000000000000000000000000000000000000000000000000000000000000000000000000000000000000000c00 K) {s : State} (h : K s) (c n : Nat) :
    K (State.bankAddWritten s c n) := by
  unfold State.bankAddWritten
  try dsimp only
  repeat' first
    | with_reducible assumption
    | decide
    | rfl
    | (dsimp only [Ev.plus]; decide)
    | (show regOk _ _ = true; split <;> decide)
    | with_reducible refine State.bankRaw_k (hK.mono (by decide)) ?_ _ _
    | with_reducible refine State.latchIf_k hK (by decide) ?_ _ _ _ ?_
    | with_reducible refine ite_k ?_ ?_
    | split
    | refine fst_k (by with_reducible assumption) ?_

theorem State.bankWritten_k (hK : Loose 0x200000000800000000000000000000000000000000000000000000000000000000000000000000000000000000000000000000000000000000000000000000000000000000000000000000000000000000000000000080000c00 K) {s : State} (h : K s) (c : Nat) :
    K (State.bankWritten s c) := by
  unfold State.bankWritten
  try dsimp only
  repeat' first
    | with_reducible assumption
    | with_reducible refine State.countFrom_k (hK.mono (by decide)) ?_ _ _
    | with_reducible refine State.bankAddWritten_k (hK.mono (by decide)) ?_ _ _
    | with_reducible refine ite_k ?_ ?_
    | with_reducible refine foldl_k _ _ ?_ ?_
    | with_reducible refine foldl_fst_k _ _ _ ?_ ?_
    | intro _ _ _
    | split
    | refine fst_k (by with_reducible assumption) ?_
    | fail_if_no_progress with_reducible refine hK.build ?_ rfl

theorem State.countTick_k (hK : Loose 0x200000000800000000000000000000000000000000000000000000000000000000000000000000000000000000000000000000000000000000000000000000000000000000000000000000000000000000000000000080000c00 K) {s : State} (h : K s) :
    K (State.countTick s) := by
  unfold State.countTick
  try dsimp only
  repeat' first
    | with_reducible assumption
    | with_reducible refine State.bankAdd_k (hK.mono (by decide)) ?_ _ _
    | with_reducible refine State.bankAddWritten_k (hK.mono (by decide)) ?_ _ _
    | with_reducible refine ite_k ?_ ?_
    | with_reducible refine foldl_k _ _ ?_ ?_
    | with_reducible refine foldl_fst_k _ _ _ ?_ ?_
    | intro _ _ _
    | split
    | refine fst_k (by with_reducible assumption) ?_
    | fail_if_no_progress with_reducible refine hK.build ?_ rfl

end Sys2Proof.Machine
end

