-- ==== Sys2Proof/Laws/FootLaneOps.lean ====
section
/-! SUPPORT. What the operations and commands of Machine/LaneOps.lean may change (Laws/Loose.lean). -/

set_option Elab.async false
set_option linter.unusedTactic false
set_option linter.unreachableTactic false

namespace Sys2Proof.Machine

variable {K : State → Prop}

theorem State.refreshCa_k (hK : Loose 0x20000000000000000000000000000000002000 K) {s : State} (h : K s) (n : Nat) :
    K (State.refreshCa s n) := by
  unfold State.refreshCa
  try dsimp only
  repeat' first
    | with_reducible assumption
    | decide
    | rfl
    | (dsimp only [Ev.plus]; decide)
    | (show regOk _ _ = true; split <;> decide)
    | (cases ‹Defect› <;> decide)
    | with_reducible refine State.setFlag_k hK ?_ _ _ _ ?_
    | with_reducible refine State.updLane_k (hK.mono (by decide)) ?_ _ _
    | with_reducible refine ite_k ?_ ?_
    | split
    | refine fst_k (by with_reducible assumption) ?_
    | fail_if_no_progress with_reducible refine hK.build ?_ rfl

theorem State.rePrime_k (hK : Loose 0x8000000000000000000000000000000000000000000000000000000000000000000000000000000 K) {s : State} (h : K s) (n : Nat) :
    K (State.rePrime s n) := by
  unfold State.rePrime
  try dsimp only
  repeat' first
    | with_reducible assumption
    | decide
    | rfl
    | (dsimp only [Ev.plus]; decide)
    | (show regOk _ _ = true; split <;> decide)
    | (cases ‹Defect› <;> decide)
    | with_reducible refine State.setFlag_k hK ?_ _ _ _ ?_
    | with_reducible refine ite_k ?_ ?_
    | with_reducible refine foldl_k _ _ ?_ ?_
    | with_reducible refine foldl_fst_k _ _ _ ?_ ?_
    | intro _ _ _

theorem State.loopFallback_k (hK : Loose 0x3040000000000000000000002c00 K) {s : State} (h : K s) (n : Nat) :
    K (State.loopFallback s n) := by
  unfold State.loopFallback
  try dsimp only
  repeat' first
    | with_reducible assumption
    | decide
    | rfl
    | (dsimp only [Ev.plus]; decide)
    | (show regOk _ _ = true; split <;> decide)
    | with_reducible refine State.setFlag_k hK ?_ _ _ _ ?_
    | with_reducible refine State.updLane_k (hK.mono (by decide)) ?_ _ _
    | with_reducible refine State.latch_k hK (by decide) ?_ _ _ ?_
    | with_reducible refine ite_k ?_ ?_
    | fail_if_no_progress with_reducible refine hK.build ?_ rfl

theorem State.declare_k (hK : Loose 0x9ffa0000000003040000000000020000000002c00 K) {s : State} (h : K s) (n : Nat) (d : Defect) :
    K (State.declare s n d) := by
  unfold State.declare
  try dsimp only
  repeat' first
    | with_reducible assumption
    | decide
    | rfl
    | (dsimp only [Ev.plus]; decide)
    | (show regOk _ _ = true; split <;> decide)
    | (cases ‹Defect› <;> decide)
    | with_reducible refine State.setFlag_k hK ?_ _ _ _ ?_
    | with_reducible refine State.latchIf_k hK (by decide) ?_ _ _ _ ?_
    | with_reducible refine State.loopFallback_k (hK.mono (by decide)) ?_ _
    | with_reducible refine State.updLane_k (hK.mono (by decide)) ?_ _ _
    | with_reducible refine State.lsdBegins_k (hK.mono (by decide)) ?_ _
    | with_reducible refine State.hardDefect_k (hK.mono (by decide)) ?_ _
    | with_reducible refine State.refreshCa_k (hK.mono (by decide)) ?_ _
    | with_reducible refine ite_k ?_ ?_
    | split
    | refine fst_k (by with_reducible assumption) ?_
    | fail_if_no_progress with_reducible refine hK.build ?_ rfl

theorem State.undeclare_k (hK : Loose 0x800000000000000000000000000000000000009ffa0000000000000000000000020000000002c00 K) {s : State} (h : K s) (n : Nat) (d : Defect) :
    K (State.undeclare s n d) := by
  unfold State.undeclare
  try dsimp only
  repeat' first
    | with_reducible assumption
    | decide
    | rfl
    | (dsimp only [Ev.plus]; decide)
    | (show regOk _ _ = true; split <;> decide)
    | (cases ‹Defect› <;> decide)
    | with_reducible refine State.lsdEnds_k (hK.mono (by decide)) ?_ _
    | with_reducible refine State.setFlag_k hK ?_ _ _ _ ?_
    | with_reducible refine State.latch_k hK (by decide) ?_ _ _ ?_
    | with_reducible refine State.refreshCa_k (hK.mono (by decide)) ?_ _
    | with_reducible refine State.rePrime_k (hK.mono (by decide)) ?_ _
    | with_reducible refine State.hardDefect_k (hK.mono (by decide)) ?_ _
    | with_reducible refine ite_k ?_ ?_
    | with_reducible refine foldl_k _ _ ?_ ?_
    | with_reducible refine foldl_fst_k _ _ _ ?_ ?_
    | intro _ _ _
    | split
    | refine fst_k (by with_reducible assumption) ?_

theorem State.declareOof_k (hK : Loose 0x9ffa0000000003040000000000020000000002c00 K) {s : State} (h : K s) (n : Nat) :
    K (State.declareOof s n) := by
  unfold State.declareOof
  try dsimp only
  repeat' first
    | with_reducible assumption
    | with_reducible refine State.declare_k (hK.mono (by decide)) ?_ _ _
    | with_reducible refine State.updLane_k (hK.mono (by decide)) ?_ _ _
    | with_reducible refine ite_k ?_ ?_
    | with_reducible refine foldl_k _ _ ?_ ?_
    | with_reducible refine foldl_fst_k _ _ _ ?_ ?_
    | intro _ _ _
    | split
    | refine fst_k (by with_reducible assumption) ?_

theorem State.wipeDefects_k (hK : Loose 0x800000000000000000000000000000000000009ffa0000000003040000000000020000000002c00 K) {s : State} (h : K s) (n : Nat) :
    K (State.wipeDefects s n) := by
  unfold State.wipeDefects
  try dsimp only
  repeat' first
    | with_reducible assumption
    | decide
    | rfl
    | (dsimp only [Ev.plus]; decide)
    | (show regOk _ _ = true; split <;> decide)
    | (cases ‹Defect› <;> decide)
    | with_reducible refine State.setFlag_k hK ?_ _ _ _ ?_
    | with_reducible refine State.lsdEnds_k (hK.mono (by decide)) ?_ _
    | with_reducible refine State.updLane_k (hK.mono (by decide)) ?_ _ _
    | with_reducible refine State.refreshCa_k (hK.mono (by decide)) ?_ _
    | with_reducible refine State.rePrime_k (hK.mono (by decide)) ?_ _
    | with_reducible refine State.declareOof_k (hK.mono (by decide)) ?_ _
    | with_reducible refine State.hardDefect_k (hK.mono (by decide)) ?_ _
    | with_reducible refine foldl_k _ _ ?_ ?_
    | with_reducible refine foldl_fst_k _ _ _ ?_ ?_
    | intro _ _ _
    | with_reducible refine ite_k ?_ ?_
    | split
    | refine fst_k (by with_reducible assumption) ?_
    | fail_if_no_progress with_reducible refine hK.build ?_ rfl

theorem State.judgeLevels_k (hK : Loose 0x2000 K) {s : State} (h : K s) (n : Nat) (rs : List RowLevel) :
    K (State.judgeLevels s n rs) := by
  unfold State.judgeLevels
  try dsimp only
  repeat' first
    | with_reducible assumption
    | with_reducible refine State.updLane_k (hK.mono (by decide)) ?_ _ _
    | with_reducible refine ite_k ?_ ?_
    | with_reducible refine foldl_k _ _ ?_ ?_
    | with_reducible refine foldl_fst_k _ _ _ ?_ ?_
    | intro _ _ _
    | split
    | refine fst_k (by with_reducible assumption) ?_

theorem State.askTaps_k (hK : Loose 0x2000 K) {s : State} (h : K s) (n : Nat) (ts : List Int) :
    K (State.askTaps s n ts) := by
  unfold State.askTaps
  try dsimp only
  repeat' first
    | with_reducible assumption
    | with_reducible refine State.updLane_k (hK.mono (by decide)) ?_ _ _
    | with_reducible refine ite_k ?_ ?_
    | with_reducible refine foldl_k _ _ ?_ ?_
    | with_reducible refine foldl_fst_k _ _ _ ?_ ?_
    | intro _ _ _
    | split
    | refine fst_k (by with_reducible assumption) ?_

theorem State.setTaps_k (hK : Loose 0xf8000000000000000000000000000 K) {s : State} (h : K s) (n : Nat) (ts : List Int) :
    K (State.setTaps s n ts) := by
  unfold State.setTaps
  try dsimp only
  repeat' first
    | with_reducible assumption
    | decide
    | rfl
    | (dsimp only [Ev.plus]; decide)
    | (show regOk _ _ = true; split <;> decide)
    | with_reducible refine State.setIfld_k hK ?_ _ _ _ ?_

theorem State.beginRow_k (hK : Loose 0xf8000000000000000000000002000 K) {s : State} (h : K s) (n : Nat) :
    K (State.beginRow s n) := by
  unfold State.beginRow
  try dsimp only
  repeat' first
    | with_reducible assumption
    | with_reducible refine State.updLane_k (hK.mono (by decide)) ?_ _ _
    | with_reducible refine State.setTaps_k (hK.mono (by decide)) ?_ _ _
    | with_reducible refine ite_k ?_ ?_
    | with_reducible refine foldl_k _ _ ?_ ?_
    | with_reducible refine foldl_fst_k _ _ _ ?_ ?_
    | intro _ _ _
    | split
    | refine fst_k (by with_reducible assumption) ?_

theorem State.refreshTraining_k (hK : Loose 0x2000 K) {s : State} (h : K s) (n : Nat) :
    K (State.refreshTraining s n) := by
  unfold State.refreshTraining
  try dsimp only
  repeat' first
    | with_reducible assumption
    | with_reducible refine State.updLane_k (hK.mono (by decide)) ?_ _ _
    | with_reducible refine ite_k ?_ ?_
    | with_reducible refine foldl_k _ _ ?_ ?_
    | with_reducible refine foldl_fst_k _ _ _ ?_ ?_
    | intro _ _ _
    | split
    | refine fst_k (by with_reducible assumption) ?_

theorem State.sendMsg_k (hK : Loose 0x2000 K) {s : State} (h : K s) (n typ : Nat) (payload : List Nat) :
    K (State.sendMsg s n typ payload) := by
  unfold State.sendMsg
  try dsimp only
  repeat' first
    | with_reducible assumption
    | with_reducible refine State.updLane_k (hK.mono (by decide)) ?_ _ _
    | split
    | refine fst_k (by with_reducible assumption) ?_
    | fail_if_no_progress with_reducible refine hK.build ?_ rfl

theorem State.releaseMsg_k (hK : Loose 0x2000 K) {s : State} (h : K s) (n : Nat) :
    K (State.releaseMsg s n) := by
  unfold State.releaseMsg
  try dsimp only
  repeat' first
    | with_reducible assumption
    | with_reducible refine State.setLane_k (hK.mono (by decide)) ?_ _ _
    | with_reducible refine State.sendMsg_k (hK.mono (by decide)) ?_ _ _ _
    | split
    | refine fst_k (by with_reducible assumption) ?_
    | fail_if_no_progress with_reducible refine hK.build ?_ rfl

theorem State.sendAck_k (hK : Loose 0x2000 K) {s : State} (h : K s) (n seq : Nat) :
    K (State.sendAck s n seq) := by
  unfold State.sendAck
  try dsimp only
  repeat' first
    | with_reducible assumption
    | with_reducible refine State.updLane_k (hK.mono (by decide)) ?_ _ _
    | fail_if_no_progress with_reducible refine hK.build ?_ rfl

theorem State.sendNak_k (hK : Loose 0x2000 K) {s : State} (h : K s) (n seq : Nat) :
    K (State.sendNak s n seq) := by
  unfold State.sendNak
  try dsimp only
  repeat' first
    | with_reducible assumption
    | with_reducible refine State.updLane_k (hK.mono (by decide)) ?_ _ _
    | with_reducible refine ite_k ?_ ?_
    | with_reducible refine foldl_k _ _ ?_ ?_
    | with_reducible refine foldl_fst_k _ _ _ ?_ ?_
    | intro _ _ _
    | split
    | refine fst_k (by with_reducible assumption) ?_

theorem State.ackInFrame_k (hK : Loose 0x2000 K) {s : State} (h : K s) (n seq : Nat) :
    K (State.ackInFrame s n seq) := by
  unfold State.ackInFrame
  try dsimp only
  repeat' first
    | with_reducible assumption
    | with_reducible refine State.updLane_k (hK.mono (by decide)) ?_ _ _
    | with_reducible refine ite_k ?_ ?_
    | with_reducible refine foldl_k _ _ ?_ ?_
    | with_reducible refine foldl_fst_k _ _ _ ?_ ?_
    | intro _ _ _
    | split
    | refine fst_k (by with_reducible assumption) ?_

theorem State.takeMsg_k (hK : Loose 0x2000 K) {s : State} (h : K s) (n seq : Nat) (act : State → State) (ha : ∀ t, K t → K (act t)) :
    K (State.takeMsg s n seq act) := by
  unfold State.takeMsg
  try dsimp only
  repeat' first
    | with_reducible assumption
    | with_reducible refine State.sendAck_k (hK.mono (by decide)) ?_ _ _
    | with_reducible refine State.updLane_k (hK.mono (by decide)) ?_ _ _
    | with_reducible refine ite_k ?_ ?_
    | refine ha _ ?_

theorem State.maybeGo_k (hK : Loose 0x2000 K) {s : State} (h : K s) (n : Nat) :
    K (State.maybeGo s n) := by
  unfold State.maybeGo
  try dsimp only
  repeat' first
    | with_reducible assumption
    | with_reducible refine State.updLane_k (hK.mono (by decide)) ?_ _ _
    | with_reducible refine State.sendMsg_k (hK.mono (by decide)) ?_ _ _ _
    | with_reducible refine ite_k ?_ ?_
    | fail_if_no_progress with_reducible refine hK.build ?_ rfl

theorem State.carryOwn_k (hK : Loose 0x1000200000000000000000000 K) {s : State} (h : K s) (x : Nat) :
    K (State.carryOwn s x) := by
  unfold State.carryOwn
  try dsimp only
  repeat' first
    | with_reducible assumption
    | decide
    | rfl
    | (dsimp only [Ev.plus]; decide)
    | (show regOk _ _ = true; split <;> decide)
    | with_reducible refine State.setIfld_k hK ?_ _ _ _ ?_
    | with_reducible refine State.setFlag_k hK ?_ _ _ _ ?_
    | with_reducible refine ite_k ?_ ?_
    | with_reducible refine foldl_k _ _ ?_ ?_
    | with_reducible refine foldl_fst_k _ _ _ ?_ ?_
    | intro _ _ _
    | split
    | refine fst_k (by with_reducible assumption) ?_

theorem State.freeSpare_k (hK : Loose 0x400000000000000000000000000000000000000000000000000000000000000000000000000000000000000000000000000000000000000000000000000000000000000000000000001e00000000001000200000000000000002000 K) {s : State} (h : K s) (n : Nat) :
    K (State.freeSpare s n) := by
  unfold State.freeSpare
  try dsimp only
  repeat' first
    | with_reducible assumption
    | decide
    | rfl
    | (dsimp only [Ev.plus]; decide)
    | (show regOk _ _ = true; split <;> decide)
    | with_reducible refine State.setFlag_k hK ?_ _ _ _ ?_
    | with_reducible refine State.setFld_k hK ?_ _ _ _ ?_
    | with_reducible refine State.updLane_k (hK.mono (by decide)) ?_ _ _
    | with_reducible refine State.carryOwn_k (hK.mono (by decide)) ?_ _
    | with_reducible refine ite_k ?_ ?_
    | with_reducible refine foldl_k _ _ ?_ ?_
    | with_reducible refine foldl_fst_k _ _ _ ?_ ?_
    | intro _ _ _
    | split
    | refine fst_k (by with_reducible assumption) ?_
    | fail_if_no_progress with_reducible refine hK.build ?_ rfl

theorem State.releaseSpare_k (hK : Loose 0x400000000000000000000000000000000000000000000000000000000000000000000000000000000000000000000000000000000000000000000000000000000000000000000000001e00000000001000200000000000000002000 K) {s : State} (h : K s) (n : Nat) :
    K (State.releaseSpare s n) := by
  unfold State.releaseSpare
  try dsimp only
  repeat' first
    | with_reducible assumption
    | decide
    | rfl
    | (dsimp only [Ev.plus]; decide)
    | (show regOk _ _ = true; split <;> decide)
    | with_reducible refine State.updLane_k (hK.mono (by decide)) ?_ _ _
    | with_reducible refine State.setFld_k hK ?_ _ _ _ ?_
    | with_reducible refine State.freeSpare_k (hK.mono (by decide)) ?_ _
    | with_reducible refine ite_k ?_ ?_
    | with_reducible refine foldl_k _ _ ?_ ?_
    | with_reducible refine foldl_fst_k _ _ _ ?_ ?_
    | intro _ _ _
    | split
    | refine fst_k (by with_reducible assumption) ?_

theorem State.spareLeaves_k (hK : Loose 0x400000000000000000000000000000000000000000000000000000000000000000000000000000000000000000000000000000000000000000000000000000000000000000000000001e00000000041000200000000000000002c00 K) {s : State} (h : K s) (n : Nat) :
    K (State.spareLeaves s n) := by
  unfold State.spareLeaves
  try dsimp only
  repeat' first
    | with_reducible assumption
    | decide
    | rfl
    | (dsimp only [Ev.plus]; decide)
    | (show regOk _ _ = true; split <;> decide)
    | with_reducible refine State.freeSpare_k (hK.mono (by decide)) ?_ _
    | with_reducible refine State.latch_k hK (by decide) ?_ _ _ ?_
    | with_reducible refine ite_k ?_ ?_

theorem State.backLeaves_k (hK : Loose 0x40000000000000000000002c00 K) {s : State} (h : K s) (x : Nat) :
    K (State.backLeaves s x) := by
  unfold State.backLeaves
  try dsimp only
  repeat' first
    | with_reducible assumption
    | decide
    | rfl
    | (dsimp only [Ev.plus]; decide)
    | (show regOk _ _ = true; split <;> decide)
    | with_reducible refine State.latch_k hK (by decide) ?_ _ _ ?_
    | with_reducible refine State.updLane_k (hK.mono (by decide)) ?_ _ _
    | with_reducible refine ite_k ?_ ?_
    | with_reducible refine foldl_k _ _ ?_ ?_
    | with_reducible refine foldl_fst_k _ _ _ ?_ ?_
    | intro _ _ _
    | split
    | refine fst_k (by with_reducible assumption) ?_

theorem State.settleSwitch_k (hK : Loose 0x2000 K) {s : State} (h : K s) (n : Nat) :
    K (State.settleSwitch s n) := by
  unfold State.settleSwitch
  try dsimp only
  repeat' first
    | with_reducible assumption
    | with_reducible refine State.updLane_k (hK.mono (by decide)) ?_ _ _
    | with_reducible refine ite_k ?_ ?_
    | with_reducible refine foldl_k _ _ ?_ ?_
    | with_reducible refine foldl_fst_k _ _ _ ?_ ?_
    | intro _ _ _
    | split
    | refine fst_k (by with_reducible assumption) ?_

theorem State.tickSpare_k (hK : Loose 0x400000000000000000000000000000000000000000000000000000000000000000000000000000000000000000000000000000000000000000000000000000000000000000000000001e00000000001000200000000000000002000 K) {s : State} (h : K s) (n : Nat) :
    K (State.tickSpare s n) := by
  unfold State.tickSpare
  try dsimp only
  repeat' first
    | with_reducible assumption
    | with_reducible refine State.freeSpare_k (hK.mono (by decide)) ?_ _
    | with_reducible refine State.settleSwitch_k (hK.mono (by decide)) ?_ _
    | with_reducible refine ite_k ?_ ?_
    | with_reducible refine foldl_k _ _ ?_ ?_
    | with_reducible refine foldl_fst_k _ _ _ ?_ ?_
    | intro _ _ _
    | split
    | refine fst_k (by with_reducible assumption) ?_

theorem State.countService_k (hK : Loose 0x20000000000000 K) {s : State} (h : K s) (n st : Nat) :
    K (State.countService s n st) := by
  unfold State.countService
  try dsimp only
  repeat' first
    | with_reducible assumption
    | with_reducible refine State.updSist_k (hK.mono (by decide)) ?_ _
    | with_reducible refine ite_k ?_ ?_
    | with_reducible refine foldl_k _ _ ?_ ?_
    | with_reducible refine foldl_fst_k _ _ _ ?_ ?_
    | intro _ _ _
    | split
    | refine fst_k (by with_reducible assumption) ?_

theorem State.enterFit_k (hK : Loose 0x200000000020000000002000 K) {s : State} (h : K s) (n st : Nat) :
    K (State.enterFit s n st) := by
  unfold State.enterFit
  try dsimp only
  repeat' first
    | with_reducible assumption
    | decide
    | rfl
    | (dsimp only [Ev.plus]; decide)
    | (show regOk _ _ = true; split <;> decide)
    | with_reducible refine State.setFld_k hK ?_ _ _ _ ?_
    | with_reducible refine State.updLane_k (hK.mono (by decide)) ?_ _ _
    | with_reducible refine State.refreshTraining_k (hK.mono (by decide)) ?_ _
    | with_reducible refine State.countService_k (hK.mono (by decide)) ?_ _ _
    | with_reducible refine ite_k ?_ ?_
    | with_reducible refine foldl_k _ _ ?_ ?_
    | with_reducible refine foldl_fst_k _ _ _ ?_ ?_
    | intro _ _ _
    | split
    | refine fst_k (by with_reducible assumption) ?_
    | fail_if_no_progress with_reducible refine hK.build ?_ rfl

theorem State.quitService_k (hK : Loose 0x400000000000000000000000000000000000000000000000000000000000000000000000000000000000000000000000000000000000000000000000000000000000000000000000001e00000003041000200000000000000002c00 K) {s : State} (h : K s) (n : Nat) :
    K (State.quitService s n) := by
  unfold State.quitService
  try dsimp only
  repeat' first
    | with_reducible assumption
    | decide
    | rfl
    | (dsimp only [Ev.plus]; decide)
    | (show regOk _ _ = true; split <;> decide)
    | with_reducible refine State.latch_k hK (by decide) ?_ _ _ ?_
    | with_reducible refine State.loopFallback_k (hK.mono (by decide)) ?_ _
    | with_reducible refine State.spareLeaves_k (hK.mono (by decide)) ?_ _
    | with_reducible refine State.backLeaves_k (hK.mono (by decide)) ?_ _
    | with_reducible refine ite_k ?_ ?_
    | with_reducible refine foldl_k _ _ ?_ ?_
    | with_reducible refine foldl_fst_k _ _ _ ?_ ?_
    | intro _ _ _
    | split
    | refine fst_k (by with_reducible assumption) ?_

theorem State.badPacket_k (hK : Loose 0x100000000080000000000000000000000000000000000000c00 K) {s : State} (h : K s) (n : Nat) :
    K (State.badPacket s n) := by
  unfold State.badPacket
  try dsimp only
  repeat' first
    | with_reducible assumption
    | decide
    | rfl
    | (dsimp only [Ev.plus]; decide)
    | (show regOk _ _ = true; split <;> decide)
    | with_reducible refine State.latch_k hK (by decide) ?_ _ _ ?_
    | with_reducible refine State.satFld_k hK ?_ _ _ _ ?_
    | with_reducible refine ite_k ?_ ?_
    | with_reducible refine foldl_k _ _ ?_ ?_
    | with_reducible refine foldl_fst_k _ _ _ ?_ ?_
    | intro _ _ _
    | split
    | refine fst_k (by with_reducible assumption) ?_

theorem State.dropPacket_k (hK : Loose 0x100000000080000000000000000000000000000000000002c00 K) {s : State} (h : K s) (n : Nat) :
    K (State.dropPacket s n) := by
  unfold State.dropPacket
  try dsimp only
  repeat' first
    | with_reducible assumption
    | with_reducible refine State.updLane_k (hK.mono (by decide)) ?_ _ _
    | with_reducible refine State.badPacket_k (hK.mono (by decide)) ?_ _
    | with_reducible refine ite_k ?_ ?_
    | with_reducible refine foldl_k _ _ ?_ ?_
    | with_reducible refine foldl_fst_k _ _ _ ?_ ?_
    | intro _ _ _
    | split
    | refine fst_k (by with_reducible assumption) ?_

theorem State.dropAlign_k (hK : Loose 0x140000000080010000000000000001800000000000000002c00 K) {s : State} (h : K s) (n : Nat) :
    K (State.dropAlign s n) := by
  unfold State.dropAlign
  try dsimp only
  repeat' first
    | with_reducible assumption
    | decide
    | rfl
    | (dsimp only [Ev.plus]; decide)
    | (show regOk _ _ = true; split <;> decide)
    | with_reducible refine State.setFld_k hK ?_ _ _ _ ?_
    | with_reducible refine State.setFlag_k hK ?_ _ _ _ ?_
    | with_reducible refine State.dropPacket_k (hK.mono (by decide)) ?_ _
    | with_reducible refine ite_k ?_ ?_
    | with_reducible refine foldl_k _ _ ?_ ?_
    | with_reducible refine foldl_fst_k _ _ _ ?_ ?_
    | intro _ _ _
    | split
    | refine fst_k (by with_reducible assumption) ?_

theorem State.startAttempt_k (hK : Loose 0x40000000000000000000000000000000000000000000000000000000000000000000000000000000000000000000000000000000800000000000000000000000000014000000009ffb1e00090003041a01a00000020000000002c00 K) {s : State} (h : K s) (n : Nat) :
    K (State.startAttempt s n) := by
  unfold State.startAttempt
  try dsimp only
  repeat' first
    | with_reducible assumption
    | decide
    | rfl
    | (dsimp only [Ev.plus]; decide)
    | (show regOk _ _ = true; split <;> decide)
    | (cases ‹Defect› <;> decide)
    | with_reducible refine State.quitService_k (hK.mono (by decide)) ?_ _
    | with_reducible refine State.dropAlign_k (hK.mono (by decide)) ?_ _
    | with_reducible refine State.setFlag_k hK ?_ _ _ _ ?_
    | with_reducible refine State.setFld_k hK ?_ _ _ _ ?_
    | with_reducible refine State.updLane_k (hK.mono (by decide)) ?_ _ _
    | with_reducible refine State.enterFit_k (hK.mono (by decide)) ?_ _ _
    | with_reducible refine State.wipeDefects_k (hK.mono (by decide)) ?_ _
    | with_reducible refine State.askTaps_k (hK.mono (by decide)) ?_ _ _
    | with_reducible refine ite_k ?_ ?_
    | with_reducible refine foldl_k _ _ ?_ ?_
    | with_reducible refine foldl_fst_k _ _ _ ?_ ?_
    | intro _ _ _
    | split
    | refine fst_k (by with_reducible assumption) ?_

theorem State.oofAfter_k (hK : Loose 0x9ffa0000000003040000000000020000000002c00 K) {s : State} (h : K s) (n : Nat) (was : Bool) :
    K (State.oofAfter s n was) := by
  unfold State.oofAfter
  try dsimp only
  repeat' first
    | with_reducible assumption
    | with_reducible refine State.declareOof_k (hK.mono (by decide)) ?_ _
    | with_reducible refine ite_k ?_ ?_
    | with_reducible refine foldl_k _ _ ?_ ?_
    | with_reducible refine foldl_fst_k _ _ _ ?_ ?_
    | intro _ _ _
    | split
    | refine fst_k (by with_reducible assumption) ?_

theorem State.failAttempt_k (hK : Loose 0x40000000000000000000000000000000000000000000000000000000000000000000000000000000000000000000000000000000000000000000000000000000000014000000009ffb1e00000003073201a00000020000000002c00 K) {s : State} (h : K s) (n : Nat) :
    K (State.failAttempt s n) := by
  unfold State.failAttempt
  try dsimp only
  repeat' first
    | with_reducible assumption
    | decide
    | rfl
    | (dsimp only [Ev.plus]; decide)
    | (show regOk _ _ = true; split <;> decide)
    | with_reducible refine State.setFld_k hK ?_ _ _ _ ?_
    | with_reducible refine State.satFld_k hK ?_ _ _ _ ?_
    | with_reducible refine State.quitService_k (hK.mono (by decide)) ?_ _
    | with_reducible refine State.latch_k hK (by decide) ?_ _ _ ?_
    | with_reducible refine State.dropAlign_k (hK.mono (by decide)) ?_ _
    | with_reducible refine State.updLane_k (hK.mono (by decide)) ?_ _ _
    | with_reducible refine State.enterFit_k (hK.mono (by decide)) ?_ _ _
    | with_reducible refine State.refreshCa_k (hK.mono (by decide)) ?_ _
    | with_reducible refine State.oofAfter_k (hK.mono (by decide)) ?_ _ _
    | with_reducible refine ite_k ?_ ?_
    | with_reducible refine foldl_k _ _ ?_ ?_
    | with_reducible refine foldl_fst_k _ _ _ ?_ ?_
    | intro _ _ _
    | split
    | refine fst_k (by with_reducible assumption) ?_
    | fail_if_no_progress with_reducible refine hK.build ?_ rfl

theorem State.disableLane_k (hK : Loose 0x40000000000000000000000000000000000000000000000000000000000000000000000000000000000000000000000000000000000000000000000000000000000014000000009ffb1e00000003041201a00000020000000002c00 K) {s : State} (h : K s) (n : Nat) :
    K (State.disableLane s n) := by
  unfold State.disableLane
  try dsimp only
  repeat' first
    | with_reducible assumption
    | with_reducible refine State.quitService_k (hK.mono (by decide)) ?_ _
    | with_reducible refine State.dropAlign_k (hK.mono (by decide)) ?_ _
    | with_reducible refine State.updLane_k (hK.mono (by decide)) ?_ _ _
    | with_reducible refine State.enterFit_k (hK.mono (by decide)) ?_ _ _
    | with_reducible refine State.refreshCa_k (hK.mono (by decide)) ?_ _
    | with_reducible refine State.oofAfter_k (hK.mono (by decide)) ?_ _ _
    | with_reducible refine ite_k ?_ ?_
    | with_reducible refine foldl_k _ _ ?_ ?_
    | with_reducible refine foldl_fst_k _ _ _ ?_ ?_
    | intro _ _ _
    | split
    | refine fst_k (by with_reducible assumption) ?_

theorem State.restartLane_k (hK : Loose 0x40000000000000000000000000000000000000000000000000000000000000000000000000000000000000000000000000000000800000000000000000000000000014000000009ffb1e00090003041a01a00000020000000002c00 K) {s : State} (h : K s) (n : Nat) :
    K (State.restartLane s n) := by
  unfold State.restartLane
  try dsimp only
  repeat' first
    | with_reducible assumption
    | with_reducible refine State.startAttempt_k (hK.mono (by decide)) ?_ _
    | with_reducible refine State.disableLane_k (hK.mono (by decide)) ?_ _
    | with_reducible refine ite_k ?_ ?_
    | with_reducible refine foldl_k _ _ ?_ ?_
    | with_reducible refine foldl_fst_k _ _ _ ?_ ?_
    | intro _ _ _
    | split
    | refine fst_k (by with_reducible assumption) ?_

theorem State.loopReturn_k (hK : Loose 0x3000000000000000000000002000 K) {s : State} (h : K s) (n : Nat) :
    K (State.loopReturn s n) := by
  unfold State.loopReturn
  try dsimp only
  repeat' first
    | with_reducible assumption
    | decide
    | rfl
    | (dsimp only [Ev.plus]; decide)
    | (show regOk _ _ = true; split <;> decide)
    | with_reducible refine State.setFlag_k hK ?_ _ _ _ ?_
    | with_reducible refine State.updLane_k (hK.mono (by decide)) ?_ _ _
    | fail_if_no_progress with_reducible refine hK.build ?_ rfl

theorem State.tickLane_k (hK : Loose 0x400000000000000000000000000000000000000000000000000000000000000000000000000000000000000000000000000000000000000000000000000000000000000000000000001e00000002001000200000000000000002000 K) {s : State} (h : K s) (n : Nat) :
    K (State.tickLane s n) := by
  unfold State.tickLane
  try dsimp only
  repeat' first
    | with_reducible assumption
    | decide
    | rfl
    | (dsimp only [Ev.plus]; decide)
    | (show regOk _ _ = true; split <;> decide)
    | with_reducible refine State.setLane_k (hK.mono (by decide)) ?_ _ _
    | with_reducible refine State.setFlag_k hK ?_ _ _ _ ?_
    | with_reducible refine State.tickSpare_k (hK.mono (by decide)) ?_ _
    | with_reducible refine ite_k ?_ ?_
    | with_reducible refine foldl_k _ _ ?_ ?_
    | with_reducible refine foldl_fst_k _ _ _ ?_ ?_
    | intro _ _ _
    | split
    | refine fst_k (by with_reducible assumption) ?_
    | fail_if_no_progress with_reducible refine hK.build ?_ rfl

end Sys2Proof.Machine
end

