-- ==== Sys2Proof/Laws/FootTally.lean ====
section
/-! SUPPORT. What the operations and commands of Machine/Tally.lean may change (Laws/Loose.lean). -/

set_option Elab.async false
set_option linter.unusedTactic false
set_option linter.unreachableTactic false

namespace Sys2Proof.Machine

variable {K : State → Prop}

theorem State.updTally_k (hK : Loose 0x2000000000000 K) {s : State} (h : K s) (f : Tally → Tally) :
    K (State.updTally s f) := by
  unfold State.updTally
  try dsimp only
  repeat' first
    | with_reducible assumption
    | fail_if_no_progress with_reducible refine hK.build ?_ rfl

theorem State.logWrite_k (hK : Loose 0xa000000000000 K) {s : State} (h : K s) (r : TallyRec) :
    K (State.logWrite s r) := by
  unfold State.logWrite
  try dsimp only
  repeat' first
    | with_reducible assumption
    | with_reducible refine State.updTally_k (hK.mono (by decide)) ?_ _
    | split
    | refine fst_k (by with_reducible assumption) ?_
    | fail_if_no_progress with_reducible refine hK.build ?_ rfl

theorem State.writeTally_k (hK : Loose 0x2000000000000000000000000000000000000000000000000000000000000000000000000000000000000000000000000000000000000000000000000000000000000000000000000000000000000000000000001e000000000c00 K) {s : State} (h : K s) :
    K (State.writeTally s) := by
  unfold State.writeTally
  try dsimp only
  repeat' first
    | with_reducible assumption
    | decide
    | rfl
    | (dsimp only [Ev.plus]; decide)
    | (show regOk _ _ = true; split <;> decide)
    | with_reducible refine State.latch_k hK (by decide) ?_ _ _ ?_
    | with_reducible refine State.logWrite_k (hK.mono (by decide)) ?_ _
    | with_reducible refine ite_k ?_ ?_
    | split
    | refine fst_k (by with_reducible assumption) ?_
    | fail_if_no_progress with_reducible refine hK.build ?_ rfl

theorem State.drainTally_k (hK : Loose 0x2000000000000000000000000000000000000000000000000000000000000000000000000000000000000000000000000000000000000000000000000000000000000000000000000000000000000000000000001e000000000c00 K) {s : State} (h : K s) :
    K (State.drainTally s) := by
  unfold State.drainTally
  try dsimp only
  repeat' first
    | with_reducible assumption
    | with_reducible refine State.writeTally_k (hK.mono (by decide)) ?_ 
    | with_reducible refine foldl_k _ _ ?_ ?_
    | with_reducible refine foldl_fst_k _ _ _ ?_ ?_
    | intro _ _ _

theorem execTallyRecord_k (hK : Loose 0x2000000000000000000000000000000000000000000000000000000000000000000000000000000000000000000000000000000000000000000000000000000000000000000000000000000000000000000000001e000000000c00 K) {s : State} (h : K s) :
    ∃ z, execTallyRecord s = .next z ∧ K z := by
  unfold execTallyRecord
  refine ⟨_, rfl, ?_⟩
  try dsimp only
  repeat' first
    | with_reducible assumption
    | with_reducible refine State.writeTally_k (hK.mono (by decide)) ?_ 

theorem State.tickTally_k (hK : Loose 0xa000000000000 K) {s : State} (h : K s) :
    K (State.tickTally s) := by
  unfold State.tickTally
  try dsimp only
  repeat' first
    | with_reducible assumption
    | with_reducible refine State.updTally_k (hK.mono (by decide)) ?_ _
    | with_reducible refine ite_k ?_ ?_
    | with_reducible refine foldl_k _ _ ?_ ?_
    | with_reducible refine foldl_fst_k _ _ _ ?_ ?_
    | intro _ _ _
    | split
    | refine fst_k (by with_reducible assumption) ?_
    | fail_if_no_progress with_reducible refine hK.build ?_ rfl

theorem State.setBoot_k (hK : Loose 0x2000000000000 K) {s : State} (h : K s) (pref trial : Nat) :
    K (State.setBoot s pref trial) := by
  unfold State.setBoot
  try dsimp only
  repeat' first
    | with_reducible assumption
    | with_reducible refine State.updTally_k (hK.mono (by decide)) ?_ _
    | with_reducible refine ite_k ?_ ?_
    | fail_if_no_progress with_reducible refine hK.build ?_ rfl

theorem State.cutWrite_k (hK : Loose 0x2000000000100 K) {s : State} (h : K s) :
    K (State.cutWrite s) := by
  unfold State.cutWrite
  try dsimp only
  repeat' first
    | with_reducible assumption
    | with_reducible refine State.drawn_k (hK.mono (by decide)) ?_ 
    | with_reducible refine State.updTally_k (hK.mono (by decide)) ?_ _
    | with_reducible refine ite_k ?_ ?_
    | with_reducible refine foldl_k _ _ ?_ ?_
    | with_reducible refine foldl_fst_k _ _ _ ?_ ?_
    | intro _ _ _
    | split
    | refine fst_k (by with_reducible assumption) ?_

theorem State.writeBlock_k (hK : Loose 0x2000000000000 K) {s : State} (h : K s) (a : AgeSample) :
    K (State.writeBlock s a) := by
  unfold State.writeBlock
  try dsimp only
  repeat' first
    | with_reducible assumption
    | with_reducible refine State.updTally_k (hK.mono (by decide)) ?_ _
    | with_reducible refine foldl_k _ _ ?_ ?_
    | with_reducible refine foldl_fst_k _ _ _ ?_ ?_
    | intro _ _ _
    | fail_if_no_progress with_reducible refine hK.build ?_ rfl

theorem State.countMargins_k (hK : Loose 0x20000000000000 K) {s : State} (h : K s) (a : AgeSample) :
    K (State.countMargins s a) := by
  unfold State.countMargins
  try dsimp only
  repeat' first
    | with_reducible assumption
    | with_reducible refine State.updSist_k (hK.mono (by decide)) ?_ _
    | with_reducible refine ite_k ?_ ?_
    | with_reducible refine foldl_k _ _ ?_ ?_
    | with_reducible refine foldl_fst_k _ _ _ ?_ ?_
    | intro _ _ _
    | fail_if_no_progress with_reducible refine hK.build ?_ rfl

theorem execAgeingSample_k (hK : Loose 0x20000000000000000000000000000000000000000000000000000000000000000000000000000000000000000000000000000000000000000000000000000000000000000000000000000000000000000000000022000000000c00 K) {s : State} (h : K s) (a : AgeSample) :
    ∃ z, execAgeingSample a s = .next z ∧ K z := by
  unfold execAgeingSample
  refine ⟨_, rfl, ?_⟩
  try dsimp only
  repeat' first
    | with_reducible assumption
    | decide
    | rfl
    | (dsimp only [Ev.plus]; decide)
    | (show regOk _ _ = true; split <;> decide)
    | with_reducible refine State.writeBlock_k (hK.mono (by decide)) ?_ _
    | with_reducible refine State.countMargins_k (hK.mono (by decide)) ?_ _
    | with_reducible refine State.latchIf_k hK (by decide) ?_ _ _ _ ?_
    | with_reducible refine ite_k ?_ ?_

end Sys2Proof.Machine
end

