-- ==== Sys2Proof/Laws/FootHeartbeat.lean ====
section
/-! SUPPORT. What the operations and commands of Machine/Heartbeat.lean may change (Laws/Loose.lean). -/

set_option Elab.async false
set_option linter.unusedTactic false
set_option linter.unreachableTactic false

namespace Sys2Proof.Machine

variable {K : State → Prop}

theorem State.closeHeartbeat_k (hK : Loose 0x100000000 K) {s : State} (h : K s) :
    K (State.closeHeartbeat s) := by
  unfold State.closeHeartbeat
  try dsimp only
  repeat' first
    | with_reducible assumption
    | with_reducible refine State.updMate_k (hK.mono (by decide)) ?_ _
    | with_reducible refine ite_k ?_ ?_
    | with_reducible refine foldl_k _ _ ?_ ?_
    | with_reducible refine foldl_fst_k _ _ _ ?_ ?_
    | intro _ _ _
    | split
    | refine fst_k (by with_reducible assumption) ?_

theorem State.learnTake_k (hK : Loose 0x1e000000000000000000000000000000000000000000000000000000000000000000000000000000000000000000000000000000000000000000000100000100 K) {s : State} (h : K s) :
    K (State.learnTake s) := by
  unfold State.learnTake
  try dsimp only
  repeat' first
    | with_reducible assumption
    | decide
    | rfl
    | (dsimp only [Ev.plus]; decide)
    | (show regOk _ _ = true; split <;> decide)
    | with_reducible refine State.drawn_k (hK.mono (by decide)) ?_ 
    | with_reducible refine State.setFld_k hK ?_ _ _ _ ?_
    | with_reducible refine State.setFlag_k hK ?_ _ _ _ ?_
    | with_reducible refine State.updMate_k (hK.mono (by decide)) ?_ _
    | with_reducible refine ite_k ?_ ?_
    | split
    | refine fst_k (by with_reducible assumption) ?_
    | fail_if_no_progress with_reducible refine hK.build ?_ rfl

theorem State.showTake_k (hK : Loose 0xc0000000000000000000000000000000000000000000000000000000000000000000000000000000000000000000000000000000000000100000000 K) {s : State} (h : K s) :
    K (State.showTake s) := by
  unfold State.showTake
  try dsimp only
  repeat' first
    | with_reducible assumption
    | decide
    | rfl
    | (dsimp only [Ev.plus]; decide)
    | (show regOk _ _ = true; split <;> decide)
    | with_reducible refine State.setFlag_k hK ?_ _ _ _ ?_
    | with_reducible refine State.setFld_k hK ?_ _ _ _ ?_
    | with_reducible refine State.updMate_k (hK.mono (by decide)) ?_ _
    | with_reducible refine ite_k ?_ ?_
    | split
    | refine fst_k (by with_reducible assumption) ?_
    | fail_if_no_progress with_reducible refine hK.build ?_ rfl

theorem State.hearTake_k (hK : Loose 0x1e0000000c0000000000000000000000000000000000000000000000000000000000000000000000000000000000000000000000000000000000000100002100 K) {s : State} (h : K s) :
    K (State.hearTake s) := by
  unfold State.hearTake
  try dsimp only
  repeat' first
    | with_reducible assumption
    | with_reducible refine State.learnTake_k (hK.mono (by decide)) ?_ 
    | with_reducible refine State.showTake_k (hK.mono (by decide)) ?_ 
    | with_reducible refine ite_k ?_ ?_
    | with_reducible refine foldl_k _ _ ?_ ?_
    | with_reducible refine foldl_fst_k _ _ _ ?_ ?_
    | intro _ _ _
    | split
    | refine fst_k (by with_reducible assumption) ?_
    | fail_if_no_progress with_reducible refine hK.build ?_ rfl

end Sys2Proof.Machine
end

