-- ==== Sys2Proof/Laws/FootFitting.lean ====
section
/-! SUPPORT. What the operations and commands of Machine/Fitting.lean may change (Laws/Loose.lean). -/

set_option Elab.async false
set_option linter.unusedTactic false
set_option linter.unreachableTactic false

namespace Sys2Proof.Machine

variable {K : State → Prop}

theorem execSignalExit_k (hK : Loose 0x200000000020000000002000 K) {s : State} (h : K s) (n : LaneIx) (rs : List RowLevel) :
    ∃ z, execSignalExit n rs s = .next z ∧ K z := by
  unfold execSignalExit
  refine ⟨_, rfl, ?_⟩
  try dsimp only
  repeat' first
    | with_reducible assumption
    | with_reducible refine State.enterFit_k (hK.mono (by decide)) ?_ _ _
    | with_reducible refine State.judgeLevels_k (hK.mono (by decide)) ?_ _ _
    | with_reducible refine ite_k ?_ ?_
    | with_reducible refine foldl_k _ _ ?_ ?_
    | with_reducible refine foldl_fst_k _ _ _ ?_ ?_
    | intro _ _ _
    | intro _ _
    | split
    | refine fst_k (by with_reducible assumption) ?_

theorem execLockExit_k (hK : Loose 0x200000000020000000002000 K) {s : State} (h : K s) (n : LaneIx) :
    ∃ z, execLockExit n s = .next z ∧ K z := by
  unfold execLockExit
  refine ⟨_, rfl, ?_⟩
  try dsimp only
  repeat' first
    | with_reducible assumption
    | with_reducible refine State.enterFit_k (hK.mono (by decide)) ?_ _ _
    | with_reducible refine State.updLane_k (hK.mono (by decide)) ?_ _ _
    | with_reducible refine ite_k ?_ ?_
    | fail_if_no_progress with_reducible refine hK.build ?_ rfl

theorem State.adaptSettle_k (hK : Loose 0x3f00000000000000000000000000100 K) {s : State} (h : K s) (n : Nat) :
    K (State.adaptSettle s n) := by
  unfold State.adaptSettle
  try dsimp only
  repeat' first
    | with_reducible assumption
    | decide
    | rfl
    | (dsimp only [Ev.plus]; decide)
    | (show regOk _ _ = true; split <;> decide)
    | with_reducible refine State.setFld_k hK ?_ _ _ _ ?_
    | with_reducible refine State.drawn_k (hK.mono (by decide)) ?_ 

theorem State.tuneRow_k (hK : Loose 0x3f00000000000000000000000002100 K) {s : State} (h : K s) (n : Nat) (row : List Nat) :
    K (State.tuneRow s n row) := by
  unfold State.tuneRow
  try dsimp only
  repeat' first
    | with_reducible assumption
    | with_reducible refine State.updLane_k (hK.mono (by decide)) ?_ _ _
    | with_reducible refine State.adaptSettle_k (hK.mono (by decide)) ?_ _
    | with_reducible refine State.drawn_k (hK.mono (by decide)) ?_ 
    | with_reducible refine State.setLane_k (hK.mono (by decide)) ?_ _ _
    | with_reducible refine ite_k ?_ ?_
    | with_reducible refine foldl_k _ _ ?_ ?_
    | with_reducible refine foldl_fst_k _ _ _ ?_ ?_
    | intro _ _ _
    | intro _ _
    | split
    | refine fst_k (by with_reducible assumption) ?_

theorem execTuneExit_k (hK : Loose 0x200000000020000000002000 K) {s : State} (h : K s) (n : LaneIx) :
    ∃ z, execTuneExit n s = .next z ∧ K z := by
  unfold execTuneExit
  refine ⟨_, rfl, ?_⟩
  try dsimp only
  repeat' first
    | with_reducible assumption
    | with_reducible refine State.updLane_k (hK.mono (by decide)) ?_ _ _
    | with_reducible refine State.enterFit_k (hK.mono (by decide)) ?_ _ _
    | with_reducible refine ite_k ?_ ?_
    | with_reducible refine foldl_k _ _ ?_ ?_
    | with_reducible refine foldl_fst_k _ _ _ ?_ ?_
    | intro _ _ _
    | intro _ _
    | split
    | refine fst_k (by with_reducible assumption) ?_
    | fail_if_no_progress with_reducible refine hK.build ?_ rfl

theorem execFrameExit_k (hK : Loose 0x200000000020000000002000 K) {s : State} (h : K s) (n : LaneIx) :
    ∃ z, execFrameExit n s = .next z ∧ K z := by
  unfold execFrameExit
  refine ⟨_, rfl, ?_⟩
  try dsimp only
  repeat' first
    | with_reducible assumption
    | with_reducible refine State.enterFit_k (hK.mono (by decide)) ?_ _ _
    | with_reducible refine State.sendMsg_k (hK.mono (by decide)) ?_ _ _ _
    | with_reducible refine ite_k ?_ ?_

theorem State.enterService_k (hK : Loose 0x20000000003070200000000020000400002c00 K) {s : State} (h : K s) (n : Nat) :
    K (State.enterService s n) := by
  unfold State.enterService
  try dsimp only
  repeat' first
    | with_reducible assumption
    | decide
    | rfl
    | (dsimp only [Ev.plus]; decide)
    | (show regOk _ _ = true; split <;> decide)
    | with_reducible refine State.enterFit_k (hK.mono (by decide)) ?_ _ _
    | with_reducible refine State.setFld_k hK ?_ _ _ _ ?_
    | with_reducible refine State.updLane_k (hK.mono (by decide)) ?_ _ _
    | with_reducible refine State.loopReturn_k (hK.mono (by decide)) ?_ _
    | with_reducible refine State.refreshCa_k (hK.mono (by decide)) ?_ _
    | with_reducible refine State.latch_k hK (by decide) ?_ _ _ ?_
    | with_reducible refine ite_k ?_ ?_
    | with_reducible refine foldl_k _ _ ?_ ?_
    | with_reducible refine foldl_fst_k _ _ _ ?_ ?_
    | intro _ _ _
    | intro _ _
    | split
    | refine fst_k (by with_reducible assumption) ?_
    | fail_if_no_progress with_reducible refine hK.build ?_ rfl

theorem execServiceEnter_k (hK : Loose 0x20000000003070200000000020000400002c00 K) {s : State} (h : K s) (n : LaneIx) :
    ∃ z, execServiceEnter n s = .next z ∧ K z := by
  unfold execServiceEnter
  refine ⟨_, rfl, ?_⟩
  try dsimp only
  repeat' first
    | with_reducible assumption
    | with_reducible refine State.enterService_k (hK.mono (by decide)) ?_ _
    | with_reducible refine State.stampTick_k (hK.mono (by decide)) ?_ _
    | with_reducible refine ite_k ?_ ?_
    | split
    | refine fst_k (by with_reducible assumption) ?_
    | with_reducible refine foldl_k _ _ ?_ ?_
    | with_reducible refine foldl_fst_k _ _ _ ?_ ?_
    | intro _ _ _
    | fail_if_no_progress with_reducible refine hK.build ?_ rfl

theorem execFitTimeout_k (hK : Loose 0x40000000000000000000000000000000000000000000000000000000000000000000000000000000000000000000000000000000000000000000000000000000000014000000009ffb1e00000003073201a00000020000000002c00 K) {s : State} (h : K s) (n : LaneIx) :
    ∃ z, execFitTimeout n s = .next z ∧ K z := by
  unfold execFitTimeout
  refine ⟨_, rfl, ?_⟩
  try dsimp only
  repeat' first
    | with_reducible assumption
    | with_reducible refine State.failAttempt_k (hK.mono (by decide)) ?_ _
    | with_reducible refine ite_k ?_ ?_
    | split
    | refine fst_k (by with_reducible assumption) ?_
    | fail_if_no_progress with_reducible refine hK.build ?_ rfl

theorem execFitLosFail_k (hK : Loose 0x40000000000000000000000000000000000000000000000000000000000000000000000000000000000000000000000000000000000000000000000000000000000014000000009ffb1e00000003073201a00000020000000002c00 K) {s : State} (h : K s) (n : LaneIx) :
    ∃ z, execFitLosFail n s = .next z ∧ K z := by
  unfold execFitLosFail
  refine ⟨_, rfl, ?_⟩
  try dsimp only
  repeat' first
    | with_reducible assumption
    | with_reducible refine State.failAttempt_k (hK.mono (by decide)) ?_ _
    | with_reducible refine ite_k ?_ ?_

theorem execBackoffExpiry_k (hK : Loose 0x40000000000000000000000000000000000000000000000000000000000000000000000000000000000000000000000000000000800000000000000000000000000014000000009ffb1e00090003041a01a00000020000000002c00 K) {s : State} (h : K s) (n : LaneIx) :
    ∃ z, execBackoffExpiry n s = .next z ∧ K z := by
  unfold execBackoffExpiry
  refine ⟨_, rfl, ?_⟩
  try dsimp only
  repeat' first
    | with_reducible assumption
    | with_reducible refine State.startAttempt_k (hK.mono (by decide)) ?_ _
    | with_reducible refine ite_k ?_ ?_

theorem execWaitWake_k (hK : Loose 0x40000000000000000000000000000000000000000000000000000000000000000000000000000000000000000000000000000000800000000000000000000000000014000000009ffb1e00090003041a01a00000020000000002c00 K) {s : State} (h : K s) (n : LaneIx) :
    ∃ z, execWaitWake n s = .next z ∧ K z := by
  unfold execWaitWake
  refine ⟨_, rfl, ?_⟩
  try dsimp only
  repeat' first
    | with_reducible assumption
    | with_reducible refine State.startAttempt_k (hK.mono (by decide)) ?_ _
    | with_reducible refine ite_k ?_ ?_

theorem execPartnerGoneFail_k (hK : Loose 0x40000000000000000000000000000000000000000000000000000000000000000000000000000000000000000000000000000000000000000000000000000000000014000000009ffb1e00000003073201a00000020000000002c00 K) {s : State} (h : K s) (n : LaneIx) :
    ∃ z, execPartnerGoneFail n s = .next z ∧ K z := by
  unfold execPartnerGoneFail
  refine ⟨_, rfl, ?_⟩
  try dsimp only
  repeat' first
    | with_reducible assumption
    | with_reducible refine State.failAttempt_k (hK.mono (by decide)) ?_ _
    | with_reducible refine ite_k ?_ ?_
    | split
    | refine fst_k (by with_reducible assumption) ?_

theorem execServicePersistLeave_k (hK : Loose 0x40000000000000000000000000000000000000000000000000000000000000000000000000000000000000000000000000000000800000000000000000000000000014000000009ffb1e00090003041a01a00000020000000002c00 K) {s : State} (h : K s) (n : LaneIx) :
    ∃ z, execServicePersistLeave n s = .next z ∧ K z := by
  unfold execServicePersistLeave
  refine ⟨_, rfl, ?_⟩
  try dsimp only
  repeat' first
    | with_reducible assumption
    | with_reducible refine State.restartLane_k (hK.mono (by decide)) ?_ _
    | with_reducible refine ite_k ?_ ?_
    | with_reducible refine foldl_k _ _ ?_ ?_
    | with_reducible refine foldl_fst_k _ _ _ ?_ ?_
    | intro _ _ _
    | split
    | refine fst_k (by with_reducible assumption) ?_

theorem State.coefRequest_k (hK : Loose 0x2000 K) {s : State} (h : K s) (n tap req preset : Nat) :
    K (State.coefRequest s n tap req preset) := by
  unfold State.coefRequest
  try dsimp only
  repeat' first
    | with_reducible assumption
    | with_reducible refine State.updLane_k (hK.mono (by decide)) ?_ _ _
    | with_reducible refine State.askTaps_k (hK.mono (by decide)) ?_ _ _
    | with_reducible refine ite_k ?_ ?_
    | split
    | refine fst_k (by with_reducible assumption) ?_
    | with_reducible refine foldl_k _ _ ?_ ?_
    | with_reducible refine foldl_fst_k _ _ _ ?_ ?_
    | intro _ _ _
    | fail_if_no_progress with_reducible refine hK.build ?_ rfl

theorem State.respond_k (hK : Loose 0x2000 K) {s : State} (h : K s) (n trq : Nat) :
    K (State.respond s n trq) := by
  unfold State.respond
  try dsimp only
  repeat' first
    | with_reducible assumption
    | with_reducible refine State.setLane_k (hK.mono (by decide)) ?_ _ _
    | with_reducible refine State.coefRequest_k (hK.mono (by decide)) ?_ _ _ _ _
    | with_reducible refine ite_k ?_ ?_
    | fail_if_no_progress with_reducible refine hK.build ?_ rfl

theorem State.request_k (hK : Loose 0x2100 K) {s : State} (h : K s) (n tst : Nat) :
    K (State.request s n tst) := by
  unfold State.request
  try dsimp only
  repeat' first
    | with_reducible assumption
    | with_reducible refine State.setLane_k (hK.mono (by decide)) ?_ _ _
    | with_reducible refine State.coefRequest_k (hK.mono (by decide)) ?_ _ _ _ _
    | with_reducible refine State.drawn_k (hK.mono (by decide)) ?_ 
    | with_reducible refine ite_k ?_ ?_
    | fail_if_no_progress with_reducible refine hK.build ?_ rfl

theorem State.readMarker_k (hK : Loose 0x800000000000000000002000 K) {s : State} (h : K s) (n : Nat) (raw : List Nat) :
    K (State.readMarker s n raw).1 := by
  unfold State.readMarker
  extract_lets inv row count
  have hc : ∀ t, K t → K (count t) := fun t ht => by
    change K (if s.fit n = fitLock then _ else t)
    have h' := State.updLane_k (hK.mono (by decide)) ht n (fun l => { l with markRun := l.markRun + 1 })
    exact ite_k h' ht
  split
  · exact hc _ h
  · split
    · exact hc _ (State.setFlag_k hK h _ _ _ (by decide))
    · dsimp only
      exact State.updLane_k (hK.mono (by decide)) h _ _

theorem State.notePeer_k (hK : Loose 0xc000000000000000000002000 K) {s : State} (h : K s) (n trq : Nat) :
    K (State.notePeer s n trq) := by
  unfold State.notePeer
  try dsimp only
  repeat' first
    | with_reducible assumption
    | decide
    | rfl
    | (dsimp only [Ev.plus]; decide)
    | (show regOk _ _ = true; split <;> decide)
    | with_reducible refine State.updLane_k (hK.mono (by decide)) ?_ _ _
    | with_reducible refine State.setFld_k hK ?_ _ _ _ ?_
    | with_reducible refine ite_k ?_ ?_
    | with_reducible refine foldl_k _ _ ?_ ?_
    | with_reducible refine foldl_fst_k _ _ _ ?_ ?_
    | intro _ _ _
    | intro _ _
    | split
    | refine fst_k (by with_reducible assumption) ?_

theorem execTrainingRow_k (hK : Loose 0x40000000000000000000000000000000000000000000000000000000000000000000000000000000000000000000000000000000800000000000000000000000000014000000009ffb1e00093ffb04da01a00000020000000002d00 K) {s : State} (h : K s) (n : LaneIx) (ws : List SlotWord) :
    ∃ z, execTrainingRow n ws s = .next z ∧ K z := by
  unfold execTrainingRow
  refine ⟨_, rfl, ?_⟩
  try dsimp only
  repeat' first
    | with_reducible assumption
    | decide
    | rfl
    | (dsimp only [Ev.plus]; decide)
    | (show regOk _ _ = true; split <;> decide)
    | with_reducible refine State.setFlag_k hK ?_ _ _ _ ?_
    | with_reducible refine State.updLane_k (hK.mono (by decide)) ?_ _ _
    | with_reducible refine State.setFld_k hK ?_ _ _ _ ?_
    | with_reducible refine State.startAttempt_k (hK.mono (by decide)) ?_ _
    | with_reducible refine State.respond_k (hK.mono (by decide)) ?_ _ _
    | with_reducible refine State.request_k (hK.mono (by decide)) ?_ _ _
    | with_reducible refine State.readMarker_k (hK.mono (by decide)) ?_ _ _
    | with_reducible refine State.tuneRow_k (hK.mono (by decide)) ?_ _ _
    | with_reducible refine State.notePeer_k (hK.mono (by decide)) ?_ _ _
    | with_reducible refine State.refreshTraining_k (hK.mono (by decide)) ?_ _
    | with_reducible refine State.beginRow_k (hK.mono (by decide)) ?_ _
    | with_reducible refine ite_k ?_ ?_
    | split
    | refine fst_k (by with_reducible assumption) ?_
    | with_reducible refine foldl_k _ _ ?_ ?_
    | with_reducible refine foldl_fst_k _ _ _ ?_ ?_
    | intro _ _ _
    | fail_if_no_progress with_reducible refine hK.build ?_ rfl

theorem State.noteDiscovery_keeps (hK : Loose 0xc800000000000000000002000 K) (n : Nat) {r : State × Option (List Nat)} (h : K r.1) :
    K (State.noteDiscovery n r) := by
  unfold State.noteDiscovery
  have h1 := State.updLane_k (hK.mono (by decide)) h n (fun l => { l with tuneRows := 0, tuneErrs := 0 })
  dsimp only
  split
  · exact State.updLane_k (hK.mono (by decide)) h1 _ _
  · exact State.updLane_k (hK.mono (by decide)) (State.notePeer_k (hK.mono (by decide)) h1 _ _) _ _

theorem execDiscoveryRow_k (hK : Loose 0xc800000000000000000002000 K) {s : State} (h : K s) (n : LaneIx) (ws : List SlotWord) :
    ∃ z, execDiscoveryRow n ws s = .next z ∧ K z := by
  exact ⟨_, rfl, State.noteDiscovery_keeps hK n (State.readMarker_k (hK.mono (by decide)) h n (ws.map BitVec.toNat))⟩

theorem State.fitCtrlEffect_k (hK : Loose 0x40000000000000000000000000000000000000000000000000000000000000000000000000000000000000000000000000000000800000000000000000000000000014000000009ffb1e00090003061a01a00000020000000002c00 K) {s : State} (h : K s) (n : Nat) (was : Bool) (w : Nat) :
    K (State.fitCtrlEffect s n was w) := by
  unfold State.fitCtrlEffect
  try dsimp only
  repeat' first
    | with_reducible assumption
    | decide
    | rfl
    | (dsimp only [Ev.plus]; decide)
    | (show regOk _ _ = true; split <;> decide)
    | (cases ‹Defect› <;> decide)
    | with_reducible refine State.wipeDefects_k (hK.mono (by decide)) ?_ _
    | with_reducible refine State.startAttempt_k (hK.mono (by decide)) ?_ _
    | with_reducible refine State.updLane_k (hK.mono (by decide)) ?_ _ _
    | with_reducible refine State.sendMsg_k (hK.mono (by decide)) ?_ _ _ _
    | with_reducible refine State.disableLane_k (hK.mono (by decide)) ?_ _
    | with_reducible refine State.setFld_k hK ?_ _ _ _ ?_
    | with_reducible refine State.setFlag_k hK ?_ _ _ _ ?_
    | with_reducible refine ite_k ?_ ?_
    | fail_if_no_progress with_reducible refine hK.build ?_ rfl

theorem State.txCfgEffect_k (hK : Loose 0x3000000000000000000000002000 K) {s : State} (h : K s) (n w : Nat) :
    K (State.txCfgEffect s n w) := by
  unfold State.txCfgEffect
  try dsimp only
  repeat' first
    | with_reducible assumption
    | with_reducible refine State.loopReturn_k (hK.mono (by decide)) ?_ _
    | with_reducible refine ite_k ?_ ?_

theorem State.rxIdent_k (hK : Loose 0x9ffa010f800003040000000000020000000002c00 K) {s : State} (h : K s) (n seq : Nat) (ws : List Nat) :
    K (State.rxIdent s n seq ws) := by
  unfold State.rxIdent
  try dsimp only
  repeat' first
    | with_reducible assumption
    | decide
    | rfl
    | (dsimp only [Ev.plus]; decide)
    | (show regOk _ _ = true; split <;> decide)
    | with_reducible refine State.takeMsg_k (hK.mono (by decide)) ?_ _ _ _ ?_
    | with_reducible refine State.setFld_k hK ?_ _ _ _ ?_
    | with_reducible refine State.updLane_k (hK.mono (by decide)) ?_ _ _
    | with_reducible refine State.maybeGo_k (hK.mono (by decide)) ?_ _
    | with_reducible refine State.declare_k (hK.mono (by decide)) ?_ _ _
    | with_reducible refine ite_k ?_ ?_
    | with_reducible refine foldl_k _ _ ?_ ?_
    | with_reducible refine foldl_fst_k _ _ _ ?_ ?_
    | intro _ _ _
    | intro _ _
    | split
    | refine fst_k (by with_reducible assumption) ?_

theorem execIdent_k (hK : Loose 0x9ffa010f800003040000000000020000000002c00 K) {s : State} (h : K s) (n : LaneIx) (seq : BitVec 8) (ws : List Word) :
    ∃ z, execIdent n seq ws s = .next z ∧ K z := by
  unfold execIdent
  refine ⟨_, rfl, ?_⟩
  try dsimp only
  repeat' first
    | with_reducible assumption
    | decide
    | rfl
    | (dsimp only [Ev.plus]; decide)
    | (show regOk _ _ = true; split <;> decide)
    | with_reducible refine State.setFld_k hK ?_ _ _ _ ?_
    | with_reducible refine State.rxIdent_k (hK.mono (by decide)) ?_ _ _ _
    | intro _ _ _
    | intro _ _
    | with_reducible refine ite_k ?_ ?_
    | split
    | refine fst_k (by with_reducible assumption) ?_
    | with_reducible refine foldl_k _ _ ?_ ?_
    | with_reducible refine foldl_fst_k _ _ _ ?_ ?_
    | fail_if_no_progress with_reducible refine hK.build ?_ rfl

theorem State.rxServiceGo_k (hK : Loose 0x2000 K) {s : State} (h : K s) (n seq f : Nat) :
    K (State.rxServiceGo s n seq f) := by
  unfold State.rxServiceGo
  try dsimp only
  repeat' first
    | with_reducible assumption
    | with_reducible refine State.takeMsg_k (hK.mono (by decide)) ?_ _ _ _ ?_
    | with_reducible refine State.updLane_k (hK.mono (by decide)) ?_ _ _
    | with_reducible refine ite_k ?_ ?_
    | with_reducible refine foldl_k _ _ ?_ ?_
    | with_reducible refine foldl_fst_k _ _ _ ?_ ?_
    | intro _ _ _
    | intro _ _
    | split
    | refine fst_k (by with_reducible assumption) ?_

theorem execServiceGo_k (hK : Loose 0x2000 K) {s : State} (h : K s) (n : LaneIx) (seq : BitVec 8) (f : Word) :
    ∃ z, execServiceGo n seq f s = .next z ∧ K z := by
  unfold execServiceGo
  refine ⟨_, rfl, ?_⟩
  try dsimp only
  repeat' first
    | with_reducible assumption
    | with_reducible refine State.rxServiceGo_k (hK.mono (by decide)) ?_ _ _ _
    | intro _ _ _
    | intro _ _
    | with_reducible refine ite_k ?_ ?_
    | with_reducible refine foldl_k _ _ ?_ ?_
    | with_reducible refine foldl_fst_k _ _ _ ?_ ?_
    | split
    | refine fst_k (by with_reducible assumption) ?_
    | fail_if_no_progress with_reducible refine hK.build ?_ rfl

theorem State.startShadow_k (hK : Loose 0x400000000000000000000000000000000000000000000000000000000000000000000000000000000000000000000000000000000000000000000000000000000000000000000000000600000000000000000000000000000006000 K) {s : State} (h : K s) (n x : Nat) :
    K (State.startShadow s n x) := by
  unfold State.startShadow
  try dsimp only
  repeat' first
    | with_reducible assumption
    | decide
    | rfl
    | (dsimp only [Ev.plus]; decide)
    | (show regOk _ _ = true; split <;> decide)
    | with_reducible refine State.setFld_k hK ?_ _ _ _ ?_
    | with_reducible refine State.setFlag_k hK ?_ _ _ _ ?_
    | with_reducible refine State.updLane_k (hK.mono (by decide)) ?_ _ _
    | with_reducible refine ite_k ?_ ?_
    | with_reducible refine foldl_k _ _ ?_ ?_
    | with_reducible refine foldl_fst_k _ _ _ ?_ ?_
    | intro _ _ _
    | split
    | refine fst_k (by with_reducible assumption) ?_
    | fail_if_no_progress with_reducible refine hK.build ?_ rfl

theorem State.startBack_k (hK : Loose 0x400000000000000000000000000000002000 K) {s : State} (h : K s) (n x : Nat) :
    K (State.startBack s n x) := by
  unfold State.startBack
  try dsimp only
  repeat' first
    | with_reducible assumption
    | decide
    | rfl
    | (dsimp only [Ev.plus]; decide)
    | (show regOk _ _ = true; split <;> decide)
    | with_reducible refine State.updLane_k (hK.mono (by decide)) ?_ _ _
    | with_reducible refine State.setFlag_k hK ?_ _ _ _ ?_
    | with_reducible refine ite_k ?_ ?_
    | with_reducible refine foldl_k _ _ ?_ ?_
    | with_reducible refine foldl_fst_k _ _ _ ?_ ?_
    | intro _ _ _
    | intro _ _
    | split
    | refine fst_k (by with_reducible assumption) ?_

theorem State.rxSparePrep_k (hK : Loose 0x400000000000000000000000000000000000000000000000000000000000000000000000000000000000000000000000000000000000000000000000000000000000000000000000000600000000000000000000000000000006000 K) {s : State} (h : K s) (n seq x : Nat) :
    K (State.rxSparePrep s n seq x) := by
  unfold State.rxSparePrep
  try dsimp only
  repeat' first
    | with_reducible assumption
    | with_reducible refine State.takeMsg_k (hK.mono (by decide)) ?_ _ _ _ ?_
    | with_reducible refine State.startShadow_k (hK.mono (by decide)) ?_ _ _
    | with_reducible refine State.startBack_k (hK.mono (by decide)) ?_ _ _
    | with_reducible refine ite_k ?_ ?_
    | with_reducible refine foldl_k _ _ ?_ ?_
    | with_reducible refine foldl_fst_k _ _ _ ?_ ?_
    | intro _ _ _
    | intro _ _
    | split
    | refine fst_k (by with_reducible assumption) ?_

theorem execSparePrep_k (hK : Loose 0x400000000000000000000000000000000000000000000000000000000000000000000000000000000000000000000000000000000000000000000000000000000000000000000000000600000000000000000000000000000006000 K) {s : State} (h : K s) (n : LaneIx) (seq : BitVec 8) (x : Word) :
    ∃ z, execSparePrep n seq x s = .next z ∧ K z := by
  unfold execSparePrep
  refine ⟨_, rfl, ?_⟩
  try dsimp only
  repeat' first
    | with_reducible assumption
    | with_reducible refine State.rxSparePrep_k (hK.mono (by decide)) ?_ _ _ _
    | intro _ _ _
    | intro _ _
    | with_reducible refine ite_k ?_ ?_
    | with_reducible refine foldl_k _ _ ?_ ?_
    | with_reducible refine foldl_fst_k _ _ _ ?_ ?_
    | split
    | refine fst_k (by with_reducible assumption) ?_

theorem State.rxSpareSelect_k (hK : Loose 0x2000 K) {s : State} (h : K s) (n seq x f : Nat) :
    K (State.rxSpareSelect s n seq x f) := by
  unfold State.rxSpareSelect
  try dsimp only
  repeat' first
    | with_reducible assumption
    | with_reducible refine State.takeMsg_k (hK.mono (by decide)) ?_ _ _ _ ?_
    | with_reducible refine State.updLane_k (hK.mono (by decide)) ?_ _ _
    | with_reducible refine ite_k ?_ ?_
    | with_reducible refine foldl_k _ _ ?_ ?_
    | with_reducible refine foldl_fst_k _ _ _ ?_ ?_
    | intro _ _ _
    | intro _ _
    | split
    | refine fst_k (by with_reducible assumption) ?_

theorem execSpareSelect_k (hK : Loose 0x2000 K) {s : State} (h : K s) (n : LaneIx) (seq : BitVec 8) (x f : Word) :
    ∃ z, execSpareSelect n seq x f s = .next z ∧ K z := by
  unfold execSpareSelect
  refine ⟨_, rfl, ?_⟩
  try dsimp only
  repeat' first
    | with_reducible assumption
    | with_reducible refine State.rxSpareSelect_k (hK.mono (by decide)) ?_ _ _ _ _
    | intro _ _ _
    | intro _ _
    | with_reducible refine ite_k ?_ ?_
    | with_reducible refine foldl_k _ _ ?_ ?_
    | with_reducible refine foldl_fst_k _ _ _ ?_ ?_
    | split
    | refine fst_k (by with_reducible assumption) ?_
    | fail_if_no_progress with_reducible refine hK.build ?_ rfl

theorem State.rxSpareRelease_k (hK : Loose 0x400000000000000000000000000000000000000000000000000000000000000000000000000000000000000000000000000000000000000000000000000000000000000000000000001e00000000001000200000000000000002000 K) {s : State} (h : K s) (n seq x : Nat) :
    K (State.rxSpareRelease s n seq x) := by
  unfold State.rxSpareRelease
  try dsimp only
  repeat' first
    | with_reducible assumption
    | with_reducible refine State.takeMsg_k (hK.mono (by decide)) ?_ _ _ _ ?_
    | with_reducible refine State.releaseSpare_k (hK.mono (by decide)) ?_ _
    | with_reducible refine ite_k ?_ ?_
    | with_reducible refine foldl_k _ _ ?_ ?_
    | with_reducible refine foldl_fst_k _ _ _ ?_ ?_
    | intro _ _ _
    | intro _ _
    | split
    | refine fst_k (by with_reducible assumption) ?_

theorem execSpareRelease_k (hK : Loose 0x400000000000000000000000000000000000000000000000000000000000000000000000000000000000000000000000000000000000000000000000000000000000000000000000001e00000000001000200000000000000002000 K) {s : State} (h : K s) (n : LaneIx) (seq : BitVec 8) (x : Word) :
    ∃ z, execSpareRelease n seq x s = .next z ∧ K z := by
  unfold execSpareRelease
  refine ⟨_, rfl, ?_⟩
  try dsimp only
  repeat' first
    | with_reducible assumption
    | with_reducible refine State.rxSpareRelease_k (hK.mono (by decide)) ?_ _ _ _
    | intro _ _ _
    | intro _ _
    | with_reducible refine ite_k ?_ ?_
    | with_reducible refine foldl_k _ _ ?_ ?_
    | with_reducible refine foldl_fst_k _ _ _ ?_ ?_
    | split
    | refine fst_k (by with_reducible assumption) ?_

theorem State.rxRestart_k (hK : Loose 0x40000000000000000000000000000000000000000000000000000000000000000000000000000000000000000000000000000000800000000000000000000000000014000000009ffb1e00090003041a01a00000020000000002c00 K) {s : State} (h : K s) (n : Nat) :
    K (State.rxRestart s n) := by
  unfold State.rxRestart
  try dsimp only
  repeat' first
    | with_reducible assumption
    | with_reducible refine State.restartLane_k (hK.mono (by decide)) ?_ _
    | with_reducible refine ite_k ?_ ?_
    | with_reducible refine foldl_k _ _ ?_ ?_
    | with_reducible refine foldl_fst_k _ _ _ ?_ ?_
    | intro _ _ _
    | intro _ _
    | split
    | refine fst_k (by with_reducible assumption) ?_

theorem execRestart_k (hK : Loose 0x40000000000000000000000000000000000000000000000000000000000000000000000000000000000000000000000000000000800000000000000000000000000014000000009ffb1e00090003041a01a00000020000000002c00 K) {s : State} (h : K s) (n : LaneIx) :
    ∃ z, execRestart n s = .next z ∧ K z := by
  unfold execRestart
  refine ⟨_, rfl, ?_⟩
  try dsimp only
  repeat' first
    | with_reducible assumption
    | with_reducible refine State.rxRestart_k (hK.mono (by decide)) ?_ _
    | with_reducible refine ite_k ?_ ?_
    | with_reducible refine foldl_k _ _ ?_ ?_
    | with_reducible refine foldl_fst_k _ _ _ ?_ ?_
    | intro _ _ _
    | intro _ _
    | split
    | refine fst_k (by with_reducible assumption) ?_

theorem State.rxLeave_k (hK : Loose 0x40000000000000000000000000000000000000000000000000000000000000000000000000000000000000000000000000000000800000000000000000000000000014000000009ffb1e00090003041a01a00000020000000002c00 K) {s : State} (h : K s) (n seq : Nat) :
    K (State.rxLeave s n seq) := by
  unfold State.rxLeave
  split
  · exact State.restartLane_k (hK.mono (by decide)) (State.ackInFrame_k (hK.mono (by decide)) h _ _) _
  · exact State.takeMsg_k (hK.mono (by decide)) h _ _ _ (fun _ ht => ht)

theorem execLeave_k (hK : Loose 0x40000000000000000000000000000000000000000000000000000000000000000000000000000000000000000000000000000000800000000000000000000000000014000000009ffb1e00090003041a01a00000020000000002c00 K) {s : State} (h : K s) (n : LaneIx) (seq : BitVec 8) :
    ∃ z, execLeave n seq s = .next z ∧ K z := by
  unfold execLeave
  refine ⟨_, rfl, ?_⟩
  try dsimp only
  repeat' first
    | with_reducible assumption
    | with_reducible refine State.rxLeave_k (hK.mono (by decide)) ?_ _ _
    | intro _ _ _
    | intro _ _
    | with_reducible refine ite_k ?_ ?_
    | with_reducible refine foldl_k _ _ ?_ ?_
    | with_reducible refine foldl_fst_k _ _ _ ?_ ?_
    | split
    | refine fst_k (by with_reducible assumption) ?_

theorem State.acked_k (hK : Loose 0x40000000000000000000000000000000000000000000000000000000000000000000000000000000000000000000000000000000000000000000000000000000000014000000009ffb1e00000003041201a00000020000000006c00 K) {s : State} (h : K s) (n : Nat) (msg : FitMsg) :
    K (State.acked s n msg) := by
  unfold State.acked
  try dsimp only
  repeat' first
    | with_reducible assumption
    | with_reducible refine State.updLane_k (hK.mono (by decide)) ?_ _ _
    | with_reducible refine State.maybeGo_k (hK.mono (by decide)) ?_ _
    | with_reducible refine State.startShadow_k (hK.mono (by decide)) ?_ _ _
    | with_reducible refine State.disableLane_k (hK.mono (by decide)) ?_ _
    | with_reducible refine State.startBack_k (hK.mono (by decide)) ?_ _ _
    | with_reducible refine State.releaseSpare_k (hK.mono (by decide)) ?_ _
    | with_reducible refine ite_k ?_ ?_
    | with_reducible refine foldl_k _ _ ?_ ?_
    | with_reducible refine foldl_fst_k _ _ _ ?_ ?_
    | intro _ _ _
    | intro _ _
    | split
    | refine fst_k (by with_reducible assumption) ?_
    | fail_if_no_progress with_reducible refine hK.build ?_ rfl

theorem State.rxAck_k (hK : Loose 0x40000000000000000000000000000000000000000000000000000000000000000000000000000000000000000000000000000000000000000000000000000000000014000000009ffb1e00000003041201a00000020000000006c00 K) {s : State} (h : K s) (n seq : Nat) :
    K (State.rxAck s n seq) := by
  unfold State.rxAck
  try dsimp only
  repeat' first
    | with_reducible assumption
    | with_reducible refine State.acked_k (hK.mono (by decide)) ?_ _ _
    | with_reducible refine State.releaseMsg_k (hK.mono (by decide)) ?_ _
    | with_reducible refine ite_k ?_ ?_
    | with_reducible refine foldl_k _ _ ?_ ?_
    | with_reducible refine foldl_fst_k _ _ _ ?_ ?_
    | intro _ _ _
    | intro _ _
    | split
    | refine fst_k (by with_reducible assumption) ?_

theorem execAck_k (hK : Loose 0x40000000000000000000000000000000000000000000000000000000000000000000000000000000000000000000000000000000000000000000000000000000000014000000009ffb1e00000003041201a00000020000000006c00 K) {s : State} (h : K s) (n : LaneIx) (seq : BitVec 8) :
    ∃ z, execAck n seq s = .next z ∧ K z := by
  unfold execAck
  refine ⟨_, rfl, ?_⟩
  try dsimp only
  repeat' first
    | with_reducible assumption
    | with_reducible refine State.rxAck_k (hK.mono (by decide)) ?_ _ _
    | with_reducible refine ite_k ?_ ?_
    | split
    | refine fst_k (by with_reducible assumption) ?_
    | with_reducible refine foldl_k _ _ ?_ ?_
    | with_reducible refine foldl_fst_k _ _ _ ?_ ?_
    | intro _ _ _
    | fail_if_no_progress with_reducible refine hK.build ?_ rfl

theorem State.rxNak_k (hK : Loose 0x2000 K) {s : State} (h : K s) (n seq : Nat) :
    K (State.rxNak s n seq) := by
  unfold State.rxNak
  try dsimp only
  repeat' first
    | with_reducible assumption
    | with_reducible refine State.releaseMsg_k (hK.mono (by decide)) ?_ _
    | with_reducible refine ite_k ?_ ?_
    | with_reducible refine foldl_k _ _ ?_ ?_
    | with_reducible refine foldl_fst_k _ _ _ ?_ ?_
    | intro _ _ _
    | intro _ _
    | split
    | refine fst_k (by with_reducible assumption) ?_

theorem execNak_k (hK : Loose 0x2000 K) {s : State} (h : K s) (n : LaneIx) (seq : BitVec 8) :
    ∃ z, execNak n seq s = .next z ∧ K z := by
  unfold execNak
  refine ⟨_, rfl, ?_⟩
  try dsimp only
  repeat' first
    | with_reducible assumption
    | with_reducible refine State.rxNak_k (hK.mono (by decide)) ?_ _ _
    | with_reducible refine ite_k ?_ ?_
    | split
    | refine fst_k (by with_reducible assumption) ?_
    | with_reducible refine foldl_k _ _ ?_ ?_
    | with_reducible refine foldl_fst_k _ _ _ ?_ ?_
    | intro _ _ _
    | fail_if_no_progress with_reducible refine hK.build ?_ rfl

theorem State.takeFit_k (hK : Loose 0x40000000000000000000000000000000000000000000000000000000000000000000000000000000000000000000000000000000800000000000000000000000000014000000009ffb1f0f890003041a01a00000020000000006c00 K) {s : State} (h : K s) (n typ seq : Nat) (p : List Nat) :
    K (State.takeFit s n typ seq p) := by
  unfold State.takeFit
  try dsimp only
  repeat' first
    | with_reducible assumption
    | with_reducible refine State.rxIdent_k (hK.mono (by decide)) ?_ _ _ _
    | with_reducible refine State.rxServiceGo_k (hK.mono (by decide)) ?_ _ _ _
    | with_reducible refine State.rxSparePrep_k (hK.mono (by decide)) ?_ _ _ _
    | with_reducible refine State.rxSpareSelect_k (hK.mono (by decide)) ?_ _ _ _ _
    | with_reducible refine State.rxSpareRelease_k (hK.mono (by decide)) ?_ _ _ _
    | with_reducible refine State.rxRestart_k (hK.mono (by decide)) ?_ _
    | with_reducible refine State.rxLeave_k (hK.mono (by decide)) ?_ _ _
    | with_reducible refine State.rxNak_k (hK.mono (by decide)) ?_ _ _
    | with_reducible refine State.rxAck_k (hK.mono (by decide)) ?_ _ _
    | with_reducible refine State.sendNak_k (hK.mono (by decide)) ?_ _ _
    | with_reducible refine ite_k ?_ ?_
    | with_reducible refine foldl_k _ _ ?_ ?_
    | with_reducible refine foldl_fst_k _ _ _ ?_ ?_
    | intro _ _ _
    | intro _ _
    | split
    | refine fst_k (by with_reducible assumption) ?_

theorem State.fitWord_k (hK : Loose 0x40000000000000000000000000000000000000000000000000000000000000000000000000000000000000000000000000000000800000000000000000000000000014000000009ffb1f0f890003041a01a00000020000000006c00 K) {s : State} (h : K s) (n w : Nat) :
    K (State.fitWord s n w) := by
  unfold State.fitWord
  try dsimp only
  repeat' first
    | with_reducible assumption
    | with_reducible refine State.updLane_k (hK.mono (by decide)) ?_ _ _
    | with_reducible refine State.takeFit_k (hK.mono (by decide)) ?_ _ _ _ _
    | with_reducible refine ite_k ?_ ?_
    | with_reducible refine foldl_k _ _ ?_ ?_
    | with_reducible refine foldl_fst_k _ _ _ ?_ ?_
    | intro _ _ _
    | intro _ _
    | split
    | refine fst_k (by with_reducible assumption) ?_

theorem execMsgRetry_k (hK : Loose 0x40000000000000000000000000000000000000000000000000000000000000000000000000000000000000000000000000000000000000000000000000000000000014000000009ffb1e00000003073201a00000020000000002c00 K) {s : State} (h : K s) (n : LaneIx) :
    ∃ z, execMsgRetry n s = .next z ∧ K z := by
  unfold execMsgRetry
  refine ⟨_, rfl, ?_⟩
  try dsimp only
  repeat' first
    | with_reducible assumption
    | decide
    | rfl
    | (dsimp only [Ev.plus]; decide)
    | (show regOk _ _ = true; split <;> decide)
    | with_reducible refine State.updLane_k (hK.mono (by decide)) ?_ _ _
    | with_reducible refine State.failAttempt_k (hK.mono (by decide)) ?_ _
    | with_reducible refine State.releaseMsg_k (hK.mono (by decide)) ?_ _
    | with_reducible refine State.latch_k hK (by decide) ?_ _ _ ?_
    | with_reducible refine State.disableLane_k (hK.mono (by decide)) ?_ _
    | with_reducible refine ite_k ?_ ?_
    | split
    | refine fst_k (by with_reducible assumption) ?_
    | with_reducible refine foldl_k _ _ ?_ ?_
    | with_reducible refine foldl_fst_k _ _ _ ?_ ?_
    | intro _ _ _
    | fail_if_no_progress with_reducible refine hK.build ?_ rfl

theorem execLeaveTimeout_k (hK : Loose 0x40000000000000000000000000000000000000000000000000000000000000000000000000000000000000000000000000000000000000000000000000000000000014000000009ffb1e00000003041201a00000020000000002c00 K) {s : State} (h : K s) (n : LaneIx) :
    ∃ z, execLeaveTimeout n s = .next z ∧ K z := by
  unfold execLeaveTimeout
  refine ⟨_, rfl, ?_⟩
  try dsimp only
  repeat' first
    | with_reducible assumption
    | with_reducible refine State.disableLane_k (hK.mono (by decide)) ?_ _
    | with_reducible refine ite_k ?_ ?_
    | split
    | refine fst_k (by with_reducible assumption) ?_
    | fail_if_no_progress with_reducible refine hK.build ?_ rfl

theorem execLoopAutoRestore_k (hK : Loose 0x3000000000000000000000002000 K) {s : State} (h : K s) (n : LaneIx) :
    ∃ z, execLoopAutoRestore n s = .next z ∧ K z := by
  unfold execLoopAutoRestore
  refine ⟨_, rfl, ?_⟩
  try dsimp only
  repeat' first
    | with_reducible assumption
    | with_reducible refine State.loopReturn_k (hK.mono (by decide)) ?_ _
    | with_reducible refine ite_k ?_ ?_

theorem State.loadKnownGood_k (hK : Loose 0x3f00000000000000000000000000000 K) {s : State} (h : K s) (n : Nat) :
    K (State.loadKnownGood s n) := by
  unfold State.loadKnownGood
  try dsimp only
  repeat' first
    | with_reducible assumption
    | decide
    | rfl
    | (dsimp only [Ev.plus]; decide)
    | (show regOk _ _ = true; split <;> decide)
    | with_reducible refine State.setFld_k hK ?_ _ _ _ ?_

theorem execGoodSecond_k (hK : Loose 0x30000000000000000000000000002000 K) {s : State} (h : K s) (n : LaneIx) :
    ∃ z, execGoodSecond n s = .next z ∧ K z := by
  unfold execGoodSecond
  refine ⟨_, rfl, ?_⟩
  try dsimp only
  repeat' first
    | with_reducible assumption
    | decide
    | rfl
    | (dsimp only [Ev.plus]; decide)
    | (show regOk _ _ = true; split <;> decide)
    | with_reducible refine State.setLane_k (hK.mono (by decide)) ?_ _ _
    | with_reducible refine State.setFld_k hK ?_ _ _ _ ?_
    | with_reducible refine State.setFlag_k hK ?_ _ _ _ ?_
    | with_reducible refine State.updLane_k (hK.mono (by decide)) ?_ _ _
    | with_reducible refine ite_k ?_ ?_
    | fail_if_no_progress with_reducible refine hK.build ?_ rfl

theorem execAdaptRevert_k (hK : Loose 0x1d3f00040000000000020000000002c00 K) {s : State} (h : K s) (n : LaneIx) :
    ∃ z, execAdaptRevert n s = .next z ∧ K z := by
  unfold execAdaptRevert
  refine ⟨_, rfl, ?_⟩
  try dsimp only
  repeat' first
    | with_reducible assumption
    | decide
    | rfl
    | (dsimp only [Ev.plus]; decide)
    | (show regOk _ _ = true; split <;> decide)
    | with_reducible refine State.loadKnownGood_k (hK.mono (by decide)) ?_ _
    | with_reducible refine State.setFld_k hK ?_ _ _ _ ?_
    | with_reducible refine State.updLane_k (hK.mono (by decide)) ?_ _ _
    | with_reducible refine State.setFlag_k hK ?_ _ _ _ ?_
    | with_reducible refine State.latch_k hK (by decide) ?_ _ _ ?_
    | with_reducible refine State.satFld_k hK ?_ _ _ _ ?_
    | with_reducible refine ite_k ?_ ?_
    | split
    | refine fst_k (by with_reducible assumption) ?_
    | fail_if_no_progress with_reducible refine hK.build ?_ rfl

theorem execAdaptHoldEnd_k (hK : Loose 0x40000000000000000000000000002000 K) {s : State} (h : K s) (n : LaneIx) :
    ∃ z, execAdaptHoldEnd n s = .next z ∧ K z := by
  unfold execAdaptHoldEnd
  refine ⟨_, rfl, ?_⟩
  try dsimp only
  repeat' first
    | with_reducible assumption
    | decide
    | rfl
    | (dsimp only [Ev.plus]; decide)
    | (show regOk _ _ = true; split <;> decide)
    | with_reducible refine State.setFlag_k hK ?_ _ _ _ ?_
    | with_reducible refine State.updLane_k (hK.mono (by decide)) ?_ _ _
    | with_reducible refine ite_k ?_ ?_
    | split
    | refine fst_k (by with_reducible assumption) ?_
    | fail_if_no_progress with_reducible refine hK.build ?_ rfl

theorem State.adapt_k (hK : Loose 0x3f00000000000000000000000002100 K) {s : State} (h : K s) (n : Nat) :
    K (State.adapt s n) := by
  unfold State.adapt
  try dsimp only
  repeat' first
    | with_reducible assumption
    | decide
    | rfl
    | (dsimp only [Ev.plus]; decide)
    | (show regOk _ _ = true; split <;> decide)
    | with_reducible refine State.setFld_k hK ?_ _ _ _ ?_
    | with_reducible refine State.drawn_k (hK.mono (by decide)) ?_ 
    | with_reducible refine State.updLane_k (hK.mono (by decide)) ?_ _ _
    | with_reducible refine ite_k ?_ ?_
    | with_reducible refine foldl_k _ _ ?_ ?_
    | with_reducible refine foldl_fst_k _ _ _ ?_ ?_
    | intro _ _ _
    | intro _ _
    | split
    | refine fst_k (by with_reducible assumption) ?_

theorem State.sendSelect_k (hK : Loose 0x2000 K) {s : State} (h : K s) (n : Nat) :
    K (State.sendSelect s n) := by
  unfold State.sendSelect
  try dsimp only
  repeat' first
    | with_reducible assumption
    | with_reducible refine State.sendMsg_k (hK.mono (by decide)) ?_ _ _ _
    | with_reducible refine State.updLane_k (hK.mono (by decide)) ?_ _ _
    | with_reducible refine ite_k ?_ ?_
    | with_reducible refine foldl_k _ _ ?_ ?_
    | with_reducible refine foldl_fst_k _ _ _ ?_ ?_
    | intro _ _ _
    | intro _ _
    | split
    | refine fst_k (by with_reducible assumption) ?_

theorem State.spareCtrlEffect_k (hK : Loose 0x2000 K) {s : State} (h : K s) (n w : Nat) :
    K (State.spareCtrlEffect s n w) := by
  unfold State.spareCtrlEffect
  try dsimp only
  repeat' first
    | with_reducible assumption
    | with_reducible refine State.updLane_k (hK.mono (by decide)) ?_ _ _
    | with_reducible refine State.sendMsg_k (hK.mono (by decide)) ?_ _ _ _
    | with_reducible refine State.sendSelect_k (hK.mono (by decide)) ?_ _
    | with_reducible refine ite_k ?_ ?_
    | with_reducible refine foldl_k _ _ ?_ ?_
    | with_reducible refine foldl_fst_k _ _ _ ?_ ?_
    | intro _ _ _
    | intro _ _
    | split
    | refine fst_k (by with_reducible assumption) ?_
    | fail_if_no_progress with_reducible refine hK.build ?_ rfl

theorem execSpareShadowReady_k (hK : Loose 0x400000000040000000000000000000002c00 K) {s : State} (h : K s) (n : LaneIx) :
    ∃ z, execSpareShadowReady n s = .next z ∧ K z := by
  unfold execSpareShadowReady
  refine ⟨_, rfl, ?_⟩
  try dsimp only
  repeat' first
    | with_reducible assumption
    | decide
    | rfl
    | (dsimp only [Ev.plus]; decide)
    | (show regOk _ _ = true; split <;> decide)
    | with_reducible refine State.setFlag_k hK ?_ _ _ _ ?_
    | with_reducible refine State.latch_k hK (by decide) ?_ _ _ ?_
    | with_reducible refine State.sendSelect_k (hK.mono (by decide)) ?_ _
    | with_reducible refine ite_k ?_ ?_
    | with_reducible refine foldl_k _ _ ?_ ?_
    | with_reducible refine foldl_fst_k _ _ _ ?_ ?_
    | intro _ _ _
    | intro _ _
    | split
    | refine fst_k (by with_reducible assumption) ?_

theorem State.switchToSpare_k (hK : Loose 0x1800000000001000200000000000000002000 K) {s : State} (h : K s) (n : Nat) :
    K (State.switchToSpare s n) := by
  unfold State.switchToSpare
  try dsimp only
  repeat' first
    | with_reducible assumption
    | decide
    | rfl
    | (dsimp only [Ev.plus]; decide)
    | (show regOk _ _ = true; split <;> decide)
    | with_reducible refine State.setFld_k hK ?_ _ _ _ ?_
    | with_reducible refine State.setFlag_k hK ?_ _ _ _ ?_
    | with_reducible refine State.setIfld_k hK ?_ _ _ _ ?_
    | with_reducible refine State.updLane_k (hK.mono (by decide)) ?_ _ _
    | with_reducible refine ite_k ?_ ?_
    | with_reducible refine foldl_k _ _ ?_ ?_
    | with_reducible refine foldl_fst_k _ _ _ ?_ ?_
    | intro _ _ _
    | intro _ _
    | split
    | refine fst_k (by with_reducible assumption) ?_

theorem State.switchBack_k (hK : Loose 0x1800000000001000200000000000000000000 K) {s : State} (h : K s) (n : Nat) :
    K (State.switchBack s n) := by
  unfold State.switchBack
  try dsimp only
  repeat' first
    | with_reducible assumption
    | decide
    | rfl
    | (dsimp only [Ev.plus]; decide)
    | (show regOk _ _ = true; split <;> decide)
    | with_reducible refine State.setFld_k hK ?_ _ _ _ ?_
    | with_reducible refine State.setFlag_k hK ?_ _ _ _ ?_
    | with_reducible refine State.carryOwn_k (hK.mono (by decide)) ?_ _
    | with_reducible refine ite_k ?_ ?_
    | with_reducible refine foldl_k _ _ ?_ ?_
    | with_reducible refine foldl_fst_k _ _ _ ?_ ?_
    | intro _ _ _
    | intro _ _
    | split
    | refine fst_k (by with_reducible assumption) ?_

theorem execSpareSwitch_k (hK : Loose 0x1800000000041000200000000000000002c00 K) {s : State} (h : K s) (n : LaneIx) :
    ∃ z, execSpareSwitch n s = .next z ∧ K z := by
  unfold execSpareSwitch
  refine ⟨_, rfl, ?_⟩
  try dsimp only
  repeat' first
    | with_reducible assumption
    | decide
    | rfl
    | (dsimp only [Ev.plus]; decide)
    | (show regOk _ _ = true; split <;> decide)
    | with_reducible refine State.setFlag_k hK ?_ _ _ _ ?_
    | with_reducible refine State.setFld_k hK ?_ _ _ _ ?_
    | with_reducible refine State.updLane_k (hK.mono (by decide)) ?_ _ _
    | with_reducible refine State.switchBack_k (hK.mono (by decide)) ?_ _
    | with_reducible refine State.switchToSpare_k (hK.mono (by decide)) ?_ _
    | with_reducible refine State.latchIf_k hK (by decide) ?_ _ _ _ ?_
    | with_reducible refine ite_k ?_ ?_
    | split
    | refine fst_k (by with_reducible assumption) ?_
    | with_reducible refine foldl_k _ _ ?_ ?_
    | with_reducible refine foldl_fst_k _ _ _ ?_ ?_
    | intro _ _ _
    | fail_if_no_progress with_reducible refine hK.build ?_ rfl

end Sys2Proof.Machine
end

