-- ==== Sys2Proof/Laws/FootFraming.lean ====
section
/-! SUPPORT. What the operations and commands of Machine/Framing.lean may change (Laws/Loose.lean). -/

set_option Elab.async false
set_option linter.unusedTactic false
set_option linter.unreachableTactic false

namespace Sys2Proof.Machine

variable {K : State → Prop}

theorem State.setSillPage_k (hK : Loose 0x4000 K) {s : State} (h : K s) (n page : Nat) (p : SillPage) :
    K (State.setSillPage s n page p) := by
  unfold State.setSillPage
  try dsimp only
  repeat' first
    | with_reducible assumption
    | fail_if_no_progress with_reducible refine hK.build ?_ rfl

theorem State.openPage_k (hK : Loose 0x4000 K) {s : State} (h : K s) (n pg : Nat) :
    K (State.openPage s n pg) := by
  unfold State.openPage
  try dsimp only
  repeat' first
    | with_reducible assumption
    | with_reducible refine ite_k ?_ ?_
    | with_reducible refine foldl_k _ _ ?_ ?_
    | with_reducible refine foldl_fst_k _ _ _ ?_ ?_
    | intro _ _ _
    | split
    | refine fst_k (by with_reducible assumption) ?_
    | fail_if_no_progress with_reducible refine hK.build ?_ rfl

theorem State.countIn_k (hK : Loose 0x200000000800000000000000000000000000000000000000000000000000000000000000000000000000000000000000000000000000000000000000000000000000000000000000000000000000000000000000000000000c00 K) {s : State} (h : K s) (n : Nat) (ws : List Nat) :
    K (State.countIn s n ws) := by
  unfold State.countIn
  try dsimp only
  repeat' first
    | with_reducible assumption
    | with_reducible refine State.bankCount_k (hK.mono (by decide)) ?_ _ _ _
    | split
    | refine fst_k (by with_reducible assumption) ?_
    | fail_if_no_progress with_reducible refine hK.build ?_ rfl

theorem State.addWords_k (hK : Loose 0x4000 K) {s : State} (h : K s) (n pg : Nat) (ws : List (Nat × Nat)) :
    K (State.addWords s n pg ws) := by
  unfold State.addWords
  try dsimp only
  repeat' first
    | with_reducible assumption
    | with_reducible refine State.setSillPage_k (hK.mono (by decide)) ?_ _ _ _
    | with_reducible refine ite_k ?_ ?_
    | with_reducible refine foldl_k _ _ ?_ ?_
    | with_reducible refine foldl_fst_k _ _ _ ?_ ?_
    | intro _ _ _
    | split
    | refine fst_k (by with_reducible assumption) ?_

theorem State.writeSill_k (hK : Loose 0x200000000800000000000000000000000000000000000000000000000000000000000000000000000000000000000000000000000000000000000000000000000000000000000000000000000000000000000000000000004c00 K) {s : State} (h : K s) (n r : Nat) (bad : List Bool) (data : List Nat) :
    K (State.writeSill s n r bad data) := by
  unfold State.writeSill
  try dsimp only
  repeat' first
    | with_reducible assumption
    | with_reducible refine State.countIn_k (hK.mono (by decide)) ?_ _ _
    | with_reducible refine State.addWords_k (hK.mono (by decide)) ?_ _ _ _
    | with_reducible refine State.setSillPage_k (hK.mono (by decide)) ?_ _ _ _
    | with_reducible refine ite_k ?_ ?_
    | split
    | refine fst_k (by with_reducible assumption) ?_
    | with_reducible refine foldl_k _ _ ?_ ?_
    | with_reducible refine foldl_fst_k _ _ _ ?_ ?_
    | intro _ _ _
    | fail_if_no_progress with_reducible refine hK.build ?_ rfl

theorem State.storePacket_k (hK : Loose 0x1e400000000000000000000000000000000000000000000000000000000000000000000000000000000000000000000000000000001200000000080000000000000000000000002000000000000e00 K) {s : State} (h : K s) (n : Nat) (p : List Nat) :
    K (State.storePacket s n p) := by
  unfold State.storePacket
  refine ite_k (State.latch_k hK (by decide) (State.satFld_k hK h _ _ _ (by decide)) _ _ (by decide)) ?_
  refine State.latch_k hK (by decide) (State.setFld_k hK ?_ _ _ _ (by decide)) _ _ (by decide)
  split
  · next hd =>
    refine State.writeBytes_in hK (k := 61) (by decide) h _ _ ?_
    intro j hj
    have h1 : j < 2048 := Nat.lt_of_lt_of_le hj (List.length_take_le ..)
    have h2 : s.fld R.LN_MCH_IDX_RX_HEAD n % 64 < 64 := Nat.mod_lt _ (by decide)
    refine ⟨n, ?_, ?_⟩
    · unfold within mchEntry
      omega
    · have h3 := (Bool.and_eq_true_iff.mp hd).1
      have h4 := of_decide_eq_true h3
      omega
  · exact State.defaultHit_k (hK.mono (by decide)) h _ _

theorem State.mchWord_k (hK : Loose 0x1e400000000000000000000000000000000000000000000000000000000000000000000000000000000000000000000000000000001300000000080000000000000000000000002000000000002e00 K) {s : State} (h : K s) (n w : Nat) :
    K (State.mchWord s n w) := by
  unfold State.mchWord
  try dsimp only
  repeat' first
    | with_reducible assumption
    | with_reducible refine State.updLane_k (hK.mono (by decide)) ?_ _ _
    | with_reducible refine State.badPacket_k (hK.mono (by decide)) ?_ _
    | with_reducible refine State.storePacket_k (hK.mono (by decide)) ?_ _ _
    | with_reducible refine ite_k ?_ ?_
    | with_reducible refine foldl_k _ _ ?_ ?_
    | with_reducible refine foldl_fst_k _ _ _ ?_ ?_
    | intro _ _ _
    | split
    | refine fst_k (by with_reducible assumption) ?_

theorem State.takeChannels_k (hK : Loose 0x40000000000000000000000001e40000000000000000000000000000000000000000000000000000000000000000000000000000800000000000000000000000000134000000009ffb1f0f890003041a01a00002020000000006e00 K) {s : State} (h : K s) (n : Nat) (bad : List Bool) (data : List Nat) :
    K (State.takeChannels s n bad data) := by
  unfold State.takeChannels
  try dsimp only
  repeat' first
    | with_reducible assumption
    | with_reducible refine State.mchWord_k (hK.mono (by decide)) ?_ _ _
    | with_reducible refine State.updLane_k (hK.mono (by decide)) ?_ _ _
    | with_reducible refine State.fitWord_k (hK.mono (by decide)) ?_ _ _
    | with_reducible refine ite_k ?_ ?_
    | with_reducible refine foldl_k _ _ ?_ ?_
    | with_reducible refine foldl_fst_k _ _ _ ?_ ?_
    | intro _ _ _
    | split
    | refine fst_k (by with_reducible assumption) ?_


theorem State.takeTkw_k (hK : Loose 0x1e0000000c0000000000000000000000000000000000000000000000000000000000000000000000002600080000000000000000000000000000000100002d00 K) {s : State} (h : K s) (n r : Nat) :
    K (State.takeTkw s n r) := by
  unfold State.takeTkw
  try dsimp only
  repeat' first
    | with_reducible assumption
    | decide
    | rfl
    | (dsimp only [Ev.plus]; decide)
    | (show regOk _ _ = true; split <;> decide)
    | with_reducible refine State.setFld_k hK ?_ _ _ _ ?_
    | with_reducible refine State.setFlag_k hK ?_ _ _ _ ?_
    | with_reducible refine State.latchIf_k hK (by decide) ?_ _ _ _ ?_
    | with_reducible refine State.hearTake_k (hK.mono (by decide)) ?_
    | with_reducible refine ite_k ?_ ?_
    | with_reducible refine foldl_k _ _ ?_ ?_
    | with_reducible refine foldl_fst_k _ _ _ ?_ ?_
    | intro _ _ _
    | split
    | refine fst_k (by with_reducible assumption) ?_

theorem State.takeTest_k (hK : Loose 0x78000000000000000000000000000000000000000000000000 K) {s : State} (h : K s) (n : Nat) :
    K (State.takeTest s n) := by
  unfold State.takeTest
  try dsimp only
  repeat' first
    | with_reducible assumption
    | decide
    | rfl
    | (dsimp only [Ev.plus]; decide)
    | (show regOk _ _ = true; split <;> decide)
    | with_reducible refine State.setFld_k hK ?_ _ _ _ ?_
    | with_reducible refine State.setFlag_k hK ?_ _ _ _ ?_
    | with_reducible refine ite_k ?_ ?_
    | with_reducible refine foldl_k _ _ ?_ ?_
    | with_reducible refine foldl_fst_k _ _ _ ?_ ?_
    | intro _ _ _
    | split
    | refine fst_k (by with_reducible assumption) ?_

theorem State.receiveRow_k (hK : Loose 0x40020000000080000000000001e40000000000000000000000000001e0000000c000000000000000000000000000000000000000800000000000000000000000000137d60260009ffb1f0f890003041a01a00002020000100006f00 K) {s : State} (h : K s) (n r : Nat) (line : List Nat) :
    K (State.receiveRow s n r line) := by
  unfold State.receiveRow
  try dsimp only
  repeat' first
    | with_reducible assumption
    | decide
    | rfl
    | (dsimp only [Ev.plus]; decide)
    | (show regOk _ _ = true; split <;> decide)
    | with_reducible refine State.addFld_k hK ?_ _ _ _ ?_
    | with_reducible refine State.bankCount_k (hK.mono (by decide)) ?_ _ _ _
    | with_reducible refine State.updLane_k (hK.mono (by decide)) ?_ _ _
    | with_reducible refine State.writeSill_k (hK.mono (by decide)) ?_ _ _ _ _
    | with_reducible refine State.latchIf_k hK (by decide) ?_ _ _ _ ?_
    | with_reducible refine State.takeChannels_k (hK.mono (by decide)) ?_ _ _ _
    | with_reducible refine State.takeTkw_k (hK.mono (by decide)) ?_ _ _
    | with_reducible refine State.takeTest_k (hK.mono (by decide)) ?_ _
    | with_reducible refine State.takeTkw_k (hK.mono (by decide)) ?_ _ _
    | with_reducible refine ite_k ?_ ?_
    | with_reducible refine foldl_k _ _ ?_ ?_
    | with_reducible refine foldl_fst_k _ _ _ ?_ ?_
    | intro _ _ _
    | split
    | refine fst_k (by with_reducible assumption) ?_
    | fail_if_no_progress with_reducible refine hK.build ?_ rfl

theorem State.enterSync_k (hK : Loose 0x800000000000000000000000000000000000009ffb0000000000000000000000020000000002c00 K) {s : State} (h : K s) (n : Nat) :
    K (State.enterSync s n) := by
  unfold State.enterSync
  try dsimp only
  repeat' first
    | with_reducible assumption
    | decide
    | rfl
    | (dsimp only [Ev.plus]; decide)
    | (show regOk _ _ = true; split <;> decide)
    | with_reducible refine State.setFld_k hK ?_ _ _ _ ?_
    | with_reducible refine State.updLane_k (hK.mono (by decide)) ?_ _ _
    | with_reducible refine State.undeclare_k (hK.mono (by decide)) ?_ _ _
    | fail_if_no_progress with_reducible refine hK.build ?_ rfl

theorem State.setCands_k (hK : Loose 0x10000000000000000000000000000000002000 K) {s : State} (h : K s) (n : Nat) (cs : List Cand) :
    K (State.setCands s n cs) := by
  unfold State.setCands
  try dsimp only
  repeat' first
    | with_reducible assumption
    | decide
    | rfl
    | (dsimp only [Ev.plus]; decide)
    | (show regOk _ _ = true; split <;> decide)
    | with_reducible refine State.setFld_k hK ?_ _ _ _ ?_
    | with_reducible refine State.updLane_k (hK.mono (by decide)) ?_ _ _
    | with_reducible refine ite_k ?_ ?_
    | with_reducible refine foldl_k _ _ ?_ ?_
    | with_reducible refine foldl_fst_k _ _ _ ?_ ?_
    | intro _ _ _
    | split
    | refine fst_k (by with_reducible assumption) ?_

theorem State.huntRow_k (hK : Loose 0x800000000000000000000000000000000000009ffb0000000000000000000000020000000002c00 K) {s : State} (h : K s) (n t : Nat) (line : List Nat) :
    K (State.huntRow s n t line) := by
  unfold State.huntRow
  try dsimp only
  repeat' first
    | with_reducible assumption
    | decide
    | rfl
    | (dsimp only [Ev.plus]; decide)
    | (show regOk _ _ = true; split <;> decide)
    | with_reducible refine State.setFld_k hK ?_ _ _ _ ?_
    | with_reducible refine State.enterSync_k (hK.mono (by decide)) ?_ _
    | with_reducible refine State.setCands_k (hK.mono (by decide)) ?_ _ _
    | with_reducible refine ite_k ?_ ?_
    | split
    | refine fst_k (by with_reducible assumption) ?_
    | with_reducible refine foldl_k _ _ ?_ ?_
    | with_reducible refine foldl_fst_k _ _ _ ?_ ?_
    | intro _ _ _
    | fail_if_no_progress with_reducible refine hK.build ?_ rfl

theorem execRxRow_k (hK : Loose 0x42220000000080000000000001e40000000000000000000000000001e0000000c000000000000000000000000000000000000000800000000000000000000000000137d60260009ffb1f0f893f03041a01a00002024000100006f00 K) {s : State} (h : K s) (n : LaneIx) (t : Nat) (ws : List SlotWord) (faulty : Bool) :
    ∃ z, execRxRow n t ws faulty s = .next z ∧ K z := by
  unfold execRxRow
  refine ⟨_, rfl, ?_⟩
  try dsimp only
  repeat' first
    | with_reducible assumption
    | with_reducible refine State.receiveRow_k (hK.mono (by decide)) ?_ _ _ _
    | with_reducible refine State.adapt_k (hK.mono (by decide)) ?_ _
    | with_reducible refine State.fecRow_k (hK.mono (by decide)) ?_ _
    | with_reducible refine State.fecTrigger_k (hK.mono (by decide)) ?_ _
    | with_reducible refine State.huntRow_k (hK.mono (by decide)) ?_ _ _ _
    | with_reducible refine ite_k ?_ ?_

theorem State.endLid_k (hK : Loose 0x1c000000000000000000000000000000000000002000 K) {s : State} (h : K s) (n : Nat) (a : FrameAcc) :
    K (State.endLid s n a) := by
  unfold State.endLid
  try dsimp only
  repeat' first
    | with_reducible assumption
    | decide
    | rfl
    | (dsimp only [Ev.plus]; decide)
    | (show regOk _ _ = true; split <;> decide)
    | with_reducible refine State.setFlag_k hK ?_ _ _ _ ?_
    | with_reducible refine State.setFld_k hK ?_ _ _ _ ?_
    | with_reducible refine State.updLane_k (hK.mono (by decide)) ?_ _ _
    | split
    | refine fst_k (by with_reducible assumption) ?_
    | fail_if_no_progress with_reducible refine hK.build ?_ rfl

theorem State.endStw_k (hK : Loose 0x960000000000000000000000000000000000000002000 K) {s : State} (h : K s) (n : Nat) (a : FrameAcc) :
    K (State.endStw s n a) := by
  unfold State.endStw
  try dsimp only
  repeat' first
    | with_reducible assumption
    | decide
    | rfl
    | (dsimp only [Ev.plus]; decide)
    | (show regOk _ _ = true; split <;> decide)
    | with_reducible refine State.setFlag_k hK ?_ _ _ _ ?_
    | with_reducible refine State.setFld_k hK ?_ _ _ _ ?_
    | with_reducible refine State.updLane_k (hK.mono (by decide)) ?_ _ _
    | with_reducible refine ite_k ?_ ?_
    | split
    | refine fst_k (by with_reducible assumption) ?_
    | fail_if_no_progress with_reducible refine hK.build ?_ rfl

theorem State.endVtwBew_k (hK : Loose 0x1fc000000000000000000000000000000000000000000000 K) {s : State} (h : K s) (n : Nat) (a : FrameAcc) :
    K (State.endVtwBew s n a) := by
  unfold State.endVtwBew
  try dsimp only
  repeat' first
    | with_reducible assumption
    | decide
    | rfl
    | (dsimp only [Ev.plus]; decide)
    | (show regOk _ _ = true; split <;> decide)
    | with_reducible refine State.setFlag_k hK ?_ _ _ _ ?_
    | with_reducible refine State.setFld_k hK ?_ _ _ _ ?_
    | split
    | refine fst_k (by with_reducible assumption) ?_
    | fail_if_no_progress with_reducible refine hK.build ?_ rfl

theorem State.endCounts_k (hK : Loose 0x10000000000000000000000000002000 K) {s : State} (h : K s) (n : Nat) (a : FrameAcc) :
    K (State.endCounts s n a) := by
  unfold State.endCounts
  try dsimp only
  repeat' first
    | with_reducible assumption
    | decide
    | rfl
    | (dsimp only [Ev.plus]; decide)
    | (show regOk _ _ = true; split <;> decide)
    | with_reducible refine State.updLane_k (hK.mono (by decide)) ?_ _ _
    | with_reducible refine State.setFld_k hK ?_ _ _ _ ?_
    | with_reducible refine ite_k ?_ ?_
    | split
    | refine fst_k (by with_reducible assumption) ?_
    | fail_if_no_progress with_reducible refine hK.build ?_ rfl

theorem State.endFrame_k (hK : Loose 0x1fc97c000000000010000000000000000000000000002000 K) {s : State} (h : K s) (n : Nat) :
    K (State.endFrame s n) := by
  unfold State.endFrame
  try dsimp only
  repeat' first
    | with_reducible assumption
    | with_reducible refine State.endLid_k (hK.mono (by decide)) ?_ _ _
    | with_reducible refine State.endStw_k (hK.mono (by decide)) ?_ _ _
    | with_reducible refine State.endVtwBew_k (hK.mono (by decide)) ?_ _ _
    | with_reducible refine State.endCounts_k (hK.mono (by decide)) ?_ _ _
    | with_reducible refine ite_k ?_ ?_
    | with_reducible refine foldl_k _ _ ?_ ?_
    | with_reducible refine foldl_fst_k _ _ _ ?_ ?_
    | intro _ _ _
    | split
    | refine fst_k (by with_reducible assumption) ?_

theorem State.closeWindow_k (hK : Loose 0x2000 K) {s : State} (h : K s) (n : Nat) :
    K (State.closeWindow s n) := by
  unfold State.closeWindow
  try dsimp only
  repeat' first
    | with_reducible assumption
    | with_reducible refine State.updLane_k (hK.mono (by decide)) ?_ _ _
    | fail_if_no_progress with_reducible refine hK.build ?_ rfl

theorem State.passWindow_k (hK : Loose 0x2000 K) {s : State} (h : K s) (n pg : Nat) :
    K (State.passWindow s n pg) := by
  unfold State.passWindow
  try dsimp only
  repeat' first
    | with_reducible assumption
    | with_reducible refine State.updLane_k (hK.mono (by decide)) ?_ _ _
    | with_reducible refine State.closeWindow_k (hK.mono (by decide)) ?_ _
    | with_reducible refine ite_k ?_ ?_
    | with_reducible refine foldl_k _ _ ?_ ?_
    | with_reducible refine foldl_fst_k _ _ _ ?_ ?_
    | intro _ _ _
    | split
    | refine fst_k (by with_reducible assumption) ?_

theorem State.useFn_k (hK : Loose 0x1000000000000000000000000000000000000000002000 K) {s : State} (h : K s) (n v : Nat) :
    K (State.useFn s n v) := by
  unfold State.useFn
  try dsimp only
  repeat' first
    | with_reducible assumption
    | decide
    | rfl
    | (dsimp only [Ev.plus]; decide)
    | (show regOk _ _ = true; split <;> decide)
    | with_reducible refine State.setFld_k hK ?_ _ _ _ ?_
    | with_reducible refine State.updLane_k (hK.mono (by decide)) ?_ _ _
    | with_reducible refine ite_k ?_ ?_
    | with_reducible refine foldl_k _ _ ?_ ?_
    | with_reducible refine foldl_fst_k _ _ _ ?_ ?_
    | intro _ _ _
    | split
    | refine fst_k (by with_reducible assumption) ?_

theorem State.takeFn_k (hK : Loose 0x1000080000000000000000000000000000000000002c00 K) {s : State} (h : K s) (n : Nat) (v : Option Nat) :
    K (State.takeFn s n v) := by
  unfold State.takeFn
  try dsimp only
  repeat' first
    | with_reducible assumption
    | decide
    | rfl
    | (dsimp only [Ev.plus]; decide)
    | (show regOk _ _ = true; split <;> decide)
    | with_reducible refine State.setFld_k hK ?_ _ _ _ ?_
    | with_reducible refine State.latch_k hK (by decide) ?_ _ _ ?_
    | with_reducible refine State.useFn_k (hK.mono (by decide)) ?_ _ _
    | with_reducible refine State.updLane_k (hK.mono (by decide)) ?_ _ _
    | with_reducible refine State.latchIf_k hK (by decide) ?_ _ _ _ ?_
    | with_reducible refine ite_k ?_ ?_
    | split
    | refine fst_k (by with_reducible assumption) ?_
    | with_reducible refine foldl_k _ _ ?_ ?_
    | with_reducible refine foldl_fst_k _ _ _ ?_ ?_
    | intro _ _ _
    | fail_if_no_progress with_reducible refine hK.build ?_ rfl

theorem State.takeGo_k (hK : Loose 0x2000 K) {s : State} (h : K s) (n : Nat) :
    K (State.takeGo s n) := by
  unfold State.takeGo
  try dsimp only
  repeat' first
    | with_reducible assumption
    | with_reducible refine State.updLane_k (hK.mono (by decide)) ?_ _ _
    | with_reducible refine ite_k ?_ ?_
    | split
    | refine fst_k (by with_reducible assumption) ?_
    | fail_if_no_progress with_reducible refine hK.build ?_ rfl

theorem State.slip_k (hK : Loose 0x2000000080000000000000000000000000000000000000c00 K) {s : State} (h : K s) (n : Nat) :
    K (State.slip s n) := by
  unfold State.slip
  try dsimp only
  repeat' first
    | with_reducible assumption
    | decide
    | rfl
    | (dsimp only [Ev.plus]; decide)
    | (show regOk _ _ = true; split <;> decide)
    | with_reducible refine State.addFld_k hK ?_ _ _ _ ?_
    | with_reducible refine State.latch_k hK (by decide) ?_ _ _ ?_
    | with_reducible refine ite_k ?_ ?_
    | with_reducible refine foldl_k _ _ ?_ ?_
    | with_reducible refine foldl_fst_k _ _ _ ?_ ?_
    | intro _ _ _
    | split
    | refine fst_k (by with_reducible assumption) ?_

theorem State.showPhase_k (hK : Loose 0x200000000000000000000 K) {s : State} (h : K s) (n : Nat) (phi : Int) :
    K (State.showPhase s n phi) := by
  unfold State.showPhase
  try dsimp only
  repeat' first
    | with_reducible assumption
    | decide
    | rfl
    | (dsimp only [Ev.plus]; decide)
    | (show regOk _ _ = true; split <;> decide)
    | with_reducible refine State.setIfld_k hK ?_ _ _ _ ?_
    | with_reducible refine ite_k ?_ ?_
    | with_reducible refine foldl_k _ _ ?_ ?_
    | with_reducible refine foldl_fst_k _ _ _ ?_ ?_
    | intro _ _ _
    | split
    | refine fst_k (by with_reducible assumption) ?_

theorem State.followPhase_k (hK : Loose 0x2000 K) {s : State} (h : K s) (n : Nat) :
    K (State.followPhase s n) := by
  unfold State.followPhase
  try dsimp only
  repeat' first
    | with_reducible assumption
    | with_reducible refine State.updLane_k (hK.mono (by decide)) ?_ _ _
    | with_reducible refine ite_k ?_ ?_
    | with_reducible refine foldl_k _ _ ?_ ?_
    | with_reducible refine foldl_fst_k _ _ _ ?_ ?_
    | intro _ _ _
    | split
    | refine fst_k (by with_reducible assumption) ?_

theorem State.takePhase_k (hK : Loose 0x9ffa0000000003040001a00000020000000002c00 K) {s : State} (h : K s) (n : Nat) (phi : Int) :
    K (State.takePhase s n phi) := by
  unfold State.takePhase
  try dsimp only
  repeat' first
    | with_reducible assumption
    | decide
    | rfl
    | (dsimp only [Ev.plus]; decide)
    | (show regOk _ _ = true; split <;> decide)
    | with_reducible refine State.setIfld_k hK ?_ _ _ _ ?_
    | with_reducible refine State.setFlag_k hK ?_ _ _ _ ?_
    | with_reducible refine State.updLane_k (hK.mono (by decide)) ?_ _ _
    | with_reducible refine State.declare_k (hK.mono (by decide)) ?_ _ _
    | with_reducible refine State.loopFallback_k (hK.mono (by decide)) ?_ _
    | with_reducible refine State.showPhase_k (hK.mono (by decide)) ?_ _ _
    | with_reducible refine State.followPhase_k (hK.mono (by decide)) ?_ _
    | with_reducible refine ite_k ?_ ?_
    | split
    | refine fst_k (by with_reducible assumption) ?_
    | with_reducible refine foldl_k _ _ ?_ ?_
    | with_reducible refine foldl_fst_k _ _ _ ?_ ?_
    | intro _ _ _
    | fail_if_no_progress with_reducible refine hK.build ?_ rfl

theorem State.assignPage_k (hK : Loose 0x2000000080000000000000000000000000000000000006c00 K) {s : State} (h : K s) (n pg : Nat) :
    K (State.assignPage s n pg) := by
  unfold State.assignPage
  try dsimp only
  repeat' first
    | with_reducible assumption
    | decide
    | rfl
    | (dsimp only [Ev.plus]; decide)
    | (show regOk _ _ = true; split <;> decide)
    | with_reducible refine State.updLane_k (hK.mono (by decide)) ?_ _ _
    | with_reducible refine State.slip_k (hK.mono (by decide)) ?_ _
    | with_reducible refine State.setFld_k hK ?_ _ _ _ ?_
    | with_reducible refine State.passWindow_k (hK.mono (by decide)) ?_ _ _
    | with_reducible refine State.openPage_k (hK.mono (by decide)) ?_ _ _
    | with_reducible refine ite_k ?_ ?_
    | with_reducible refine foldl_k _ _ ?_ ?_
    | with_reducible refine foldl_fst_k _ _ _ ?_ ?_
    | intro _ _ _
    | split
    | refine fst_k (by with_reducible assumption) ?_
    | fail_if_no_progress with_reducible refine hK.build ?_ rfl

theorem State.loseSync_k (hK : Loose 0x14000000009ffb0000000003040001800000020000000002c00 K) {s : State} (h : K s) (n : Nat) :
    K (State.loseSync s n) := by
  unfold State.loseSync
  try dsimp only
  repeat' first
    | with_reducible assumption
    | with_reducible refine State.dropAlign_k (hK.mono (by decide)) ?_ _
    | with_reducible refine State.updLane_k (hK.mono (by decide)) ?_ _ _
    | with_reducible refine State.declareOof_k (hK.mono (by decide)) ?_ _
    | with_reducible refine ite_k ?_ ?_
    | with_reducible refine foldl_k _ _ ?_ ?_
    | with_reducible refine foldl_fst_k _ _ _ ?_ ?_
    | intro _ _ _
    | split
    | refine fst_k (by with_reducible assumption) ?_
    | fail_if_no_progress with_reducible refine hK.build ?_ rfl

theorem State.judgeFaw_k (hK : Loose 0x800000000000000000000000000000000000000000002000 K) {s : State} (h : K s) (n : Nat) (bad : Bool) :
    K (State.judgeFaw s n bad) := by
  unfold State.judgeFaw
  try dsimp only
  repeat' first
    | with_reducible assumption
    | decide
    | rfl
    | (dsimp only [Ev.plus]; decide)
    | (show regOk _ _ = true; split <;> decide)
    | with_reducible refine State.addFld_k hK ?_ _ _ _ ?_
    | with_reducible refine State.updLane_k (hK.mono (by decide)) ?_ _ _
    | with_reducible refine ite_k ?_ ?_
    | fail_if_no_progress with_reducible refine hK.build ?_ rfl

theorem State.placeFrame_k (hK : Loose 0x200000009ffa0000000003040001a00000020000000006c00 K) {s : State} (h : K s) (n : Nat) (bad : Bool) (pg : Nat) (phi : Int) :
    K (State.placeFrame s n bad pg phi) := by
  unfold State.placeFrame
  try dsimp only
  repeat' first
    | with_reducible assumption
    | with_reducible refine State.takePhase_k (hK.mono (by decide)) ?_ _ _
    | with_reducible refine State.updLane_k (hK.mono (by decide)) ?_ _ _
    | with_reducible refine State.assignPage_k (hK.mono (by decide)) ?_ _ _
    | with_reducible refine ite_k ?_ ?_
    | fail_if_no_progress with_reducible refine hK.build ?_ rfl

theorem State.receiveRow0_k (hK : Loose 0x40020000000080000000000001e40000000000000000000000000001e0000000c000000000000000000000000000000000000000800000000000000000000000000137d60360009ffb1f0f890003041a01a00002020000100006f00 K) {s : State} (h : K s) (n : Nat) (line : List Nat) :
    K (State.receiveRow0 s n line) := by
  unfold State.receiveRow0
  try dsimp only
  repeat' first
    | with_reducible assumption
    | with_reducible refine State.takeFn_k (hK.mono (by decide)) ?_ _ _
    | with_reducible refine State.takeGo_k (hK.mono (by decide)) ?_ _
    | with_reducible refine State.setSillPage_k (hK.mono (by decide)) ?_ _ _ _
    | with_reducible refine State.receiveRow_k (hK.mono (by decide)) ?_ _ _ _
    | split
    | refine fst_k (by with_reducible assumption) ?_
    | fail_if_no_progress with_reducible refine hK.build ?_ rfl

theorem execRxFrame_k (hK : Loose 0x42220000000080000000000001e40000000000000000000000000001e0000000c000000000000000000000000000000000000000800000000000000000000000000137fffff7c09ffb1f0f890003041a01a00002024000100006f00 K) {s : State} (h : K s) (n : LaneIx) (t : Nat) (ws : List SlotWord) (faulty : Bool) :
    ∃ z, execRxFrame n t ws faulty s = .next z ∧ K z := by
  unfold execRxFrame
  refine ⟨_, rfl, ?_⟩
  try dsimp only
  repeat' first
    | with_reducible assumption
    | with_reducible refine State.endFrame_k (hK.mono (by decide)) ?_ _
    | with_reducible refine State.judgeFaw_k (hK.mono (by decide)) ?_ _ _
    | with_reducible refine State.loseSync_k (hK.mono (by decide)) ?_ _
    | with_reducible refine State.placeFrame_k (hK.mono (by decide)) ?_ _ _ _ _
    | with_reducible refine State.receiveRow0_k (hK.mono (by decide)) ?_ _ _
    | with_reducible refine State.fecRow_k (hK.mono (by decide)) ?_ _
    | with_reducible refine State.fecTrigger_k (hK.mono (by decide)) ?_ _
    | with_reducible refine ite_k ?_ ?_
    | with_reducible refine foldl_k _ _ ?_ ?_
    | with_reducible refine foldl_fst_k _ _ _ ?_ ?_
    | intro _ _ _
    | split
    | refine fst_k (by with_reducible assumption) ?_

theorem execPageWindowClose_k (hK : Loose 0x2000000080000000000000000000000000000000000004c00 K) {s : State} (h : K s) (n : LaneIx) :
    ∃ z, execPageWindowClose n s = .next z ∧ K z := by
  unfold execPageWindowClose
  refine ⟨_, rfl, ?_⟩
  try dsimp only
  repeat' first
    | with_reducible assumption
    | with_reducible refine State.setSillPage_k (hK.mono (by decide)) ?_ _ _ _
    | with_reducible refine State.slip_k (hK.mono (by decide)) ?_ _
    | with_reducible refine State.openPage_k (hK.mono (by decide)) ?_ _ _
    | with_reducible refine ite_k ?_ ?_
    | with_reducible refine foldl_k _ _ ?_ ?_
    | with_reducible refine foldl_fst_k _ _ _ ?_ ?_
    | intro _ _ _
    | split
    | refine fst_k (by with_reducible assumption) ?_
    | fail_if_no_progress with_reducible refine hK.build ?_ rfl

theorem execSsmAccept_k (hK : Loose 0x80080000000000000000000000000000000000000c00 K) {s : State} (h : K s) (n : LaneIx) :
    ∃ z, execSsmAccept n s = .next z ∧ K z := by
  unfold execSsmAccept
  refine ⟨_, rfl, ?_⟩
  try dsimp only
  repeat' first
    | with_reducible assumption
    | decide
    | rfl
    | (dsimp only [Ev.plus]; decide)
    | (show regOk _ _ = true; split <;> decide)
    | with_reducible refine State.setFld_k hK ?_ _ _ _ ?_
    | with_reducible refine State.latch_k hK (by decide) ?_ _ _ ?_
    | with_reducible refine ite_k ?_ ?_

theorem execLosDeclare_k (hK : Loose 0x9ffa0000000003040000000000020000000002c00 K) {s : State} (h : K s) (n : LaneIx) (rs : List RowLevel) :
    ∃ z, execLosDeclare n rs s = .next z ∧ K z := by
  unfold execLosDeclare
  refine ⟨_, rfl, ?_⟩
  try dsimp only
  repeat' first
    | with_reducible assumption
    | with_reducible refine State.declare_k (hK.mono (by decide)) ?_ _ _
    | with_reducible refine State.judgeLevels_k (hK.mono (by decide)) ?_ _ _
    | with_reducible refine ite_k ?_ ?_
    | with_reducible refine foldl_k _ _ ?_ ?_
    | with_reducible refine foldl_fst_k _ _ _ ?_ ?_
    | intro _ _ _
    | split
    | refine fst_k (by with_reducible assumption) ?_

theorem execLosClear_k (hK : Loose 0x800000000000000000000000000000000000009ffa0000000000000000000000020000000002c00 K) {s : State} (h : K s) (n : LaneIx) (rs : List RowLevel) :
    ∃ z, execLosClear n rs s = .next z ∧ K z := by
  unfold execLosClear
  refine ⟨_, rfl, ?_⟩
  try dsimp only
  repeat' first
    | with_reducible assumption
    | with_reducible refine State.undeclare_k (hK.mono (by decide)) ?_ _ _
    | with_reducible refine State.judgeLevels_k (hK.mono (by decide)) ?_ _ _
    | with_reducible refine ite_k ?_ ?_
    | with_reducible refine foldl_k _ _ ?_ ?_
    | with_reducible refine foldl_fst_k _ _ _ ?_ ?_
    | intro _ _ _
    | split
    | refine fst_k (by with_reducible assumption) ?_

theorem execLolDeclare_k (hK : Loose 0x9ffa0000000003040000000000020000000002c00 K) {s : State} (h : K s) (n : LaneIx) :
    ∃ z, execLolDeclare n s = .next z ∧ K z := by
  unfold execLolDeclare
  refine ⟨_, rfl, ?_⟩
  try dsimp only
  repeat' first
    | with_reducible assumption
    | with_reducible refine State.declare_k (hK.mono (by decide)) ?_ _ _
    | with_reducible refine ite_k ?_ ?_

theorem execLolClear_k (hK : Loose 0x800000000000000000000000000000000000009ffa0000000000000000000000020000000002c00 K) {s : State} (h : K s) (n : LaneIx) :
    ∃ z, execLolClear n s = .next z ∧ K z := by
  unfold execLolClear
  refine ⟨_, rfl, ?_⟩
  try dsimp only
  repeat' first
    | with_reducible assumption
    | with_reducible refine State.undeclare_k (hK.mono (by decide)) ?_ _ _

theorem execLofDeclare_k (hK : Loose 0x9ffa0000000003040000000000020000000002c00 K) {s : State} (h : K s) (n : LaneIx) :
    ∃ z, execLofDeclare n s = .next z ∧ K z := by
  unfold execLofDeclare
  refine ⟨_, rfl, ?_⟩
  try dsimp only
  repeat' first
    | with_reducible assumption
    | with_reducible refine State.declare_k (hK.mono (by decide)) ?_ _ _
    | with_reducible refine ite_k ?_ ?_

theorem execLofClear_k (hK : Loose 0x800000000000000000000000000000000000009ffa0000000000000000000000020000000002c00 K) {s : State} (h : K s) (n : LaneIx) :
    ∃ z, execLofClear n s = .next z ∧ K z := by
  unfold execLofClear
  refine ⟨_, rfl, ?_⟩
  try dsimp only
  repeat' first
    | with_reducible assumption
    | with_reducible refine State.undeclare_k (hK.mono (by decide)) ?_ _ _
    | with_reducible refine ite_k ?_ ?_

theorem execLaisDeclare_k (hK : Loose 0x9ffa0000000003040000000000020000000002c00 K) {s : State} (h : K s) (n : LaneIx) :
    ∃ z, execLaisDeclare n s = .next z ∧ K z := by
  unfold execLaisDeclare
  refine ⟨_, rfl, ?_⟩
  try dsimp only
  repeat' first
    | with_reducible assumption
    | with_reducible refine State.declare_k (hK.mono (by decide)) ?_ _ _
    | with_reducible refine ite_k ?_ ?_

theorem execLaisClear_k (hK : Loose 0x800000000000000000000000000000000000009ffa0000000000000000000000020000000002c00 K) {s : State} (h : K s) (n : LaneIx) :
    ∃ z, execLaisClear n s = .next z ∧ K z := by
  unfold execLaisClear
  refine ⟨_, rfl, ?_⟩
  try dsimp only
  repeat' first
    | with_reducible assumption
    | with_reducible refine State.undeclare_k (hK.mono (by decide)) ?_ _ _
    | with_reducible refine ite_k ?_ ?_

theorem execLrdiDeclare_k (hK : Loose 0x9ffa0000000003040000000000020000000002c00 K) {s : State} (h : K s) (n : LaneIx) :
    ∃ z, execLrdiDeclare n s = .next z ∧ K z := by
  unfold execLrdiDeclare
  refine ⟨_, rfl, ?_⟩
  try dsimp only
  repeat' first
    | with_reducible assumption
    | with_reducible refine State.declare_k (hK.mono (by decide)) ?_ _ _
    | with_reducible refine ite_k ?_ ?_

theorem execLrdiClear_k (hK : Loose 0x800000000000000000000000000000000000009ffa0000000000000000000000020000000002c00 K) {s : State} (h : K s) (n : LaneIx) :
    ∃ z, execLrdiClear n s = .next z ∧ K z := by
  unfold execLrdiClear
  refine ⟨_, rfl, ?_⟩
  try dsimp only
  repeat' first
    | with_reducible assumption
    | with_reducible refine State.undeclare_k (hK.mono (by decide)) ?_ _ _
    | with_reducible refine ite_k ?_ ?_

theorem execLsdDeclare_k (hK : Loose 0x9ffa0000000003040000000000020000000002c00 K) {s : State} (h : K s) (n : LaneIx) :
    ∃ z, execLsdDeclare n s = .next z ∧ K z := by
  unfold execLsdDeclare
  refine ⟨_, rfl, ?_⟩
  try dsimp only
  repeat' first
    | with_reducible assumption
    | with_reducible refine State.declare_k (hK.mono (by decide)) ?_ _ _
    | with_reducible refine ite_k ?_ ?_

theorem execLsdClear_k (hK : Loose 0x800000000000000000000000000000000000009ffa0000000000000000000000020000000002c00 K) {s : State} (h : K s) (n : LaneIx) :
    ∃ z, execLsdClear n s = .next z ∧ K z := by
  unfold execLsdClear
  refine ⟨_, rfl, ?_⟩
  try dsimp only
  repeat' first
    | with_reducible assumption
    | with_reducible refine State.undeclare_k (hK.mono (by decide)) ?_ _ _
    | with_reducible refine ite_k ?_ ?_

theorem execLsfDeclare_k (hK : Loose 0x9ffa0000000003040000000000020000000002c00 K) {s : State} (h : K s) (n : LaneIx) :
    ∃ z, execLsfDeclare n s = .next z ∧ K z := by
  unfold execLsfDeclare
  refine ⟨_, rfl, ?_⟩
  try dsimp only
  repeat' first
    | with_reducible assumption
    | with_reducible refine State.declare_k (hK.mono (by decide)) ?_ _ _
    | with_reducible refine ite_k ?_ ?_
    | split
    | refine fst_k (by with_reducible assumption) ?_

theorem execLsfClear_k (hK : Loose 0x800000000000000000000000000000000000009ffa0000000000000000000000020000000002c00 K) {s : State} (h : K s) (n : LaneIx) :
    ∃ z, execLsfClear n s = .next z ∧ K z := by
  unfold execLsfClear
  refine ⟨_, rfl, ?_⟩
  try dsimp only
  repeat' first
    | with_reducible assumption
    | with_reducible refine State.undeclare_k (hK.mono (by decide)) ?_ _ _
    | with_reducible refine ite_k ?_ ?_

theorem execLmmDeclare_k (hK : Loose 0x9ffa0000000003040000000000020000000002c00 K) {s : State} (h : K s) (n : LaneIx) :
    ∃ z, execLmmDeclare n s = .next z ∧ K z := by
  unfold execLmmDeclare
  refine ⟨_, rfl, ?_⟩
  try dsimp only
  repeat' first
    | with_reducible assumption
    | with_reducible refine State.declare_k (hK.mono (by decide)) ?_ _ _
    | with_reducible refine ite_k ?_ ?_
    | split
    | refine fst_k (by with_reducible assumption) ?_

theorem execLmmClear_k (hK : Loose 0x800000000000000000000000000000000000009ffa0000000000000000000000020000000002c00 K) {s : State} (h : K s) (n : LaneIx) :
    ∃ z, execLmmClear n s = .next z ∧ K z := by
  unfold execLmmClear
  refine ⟨_, rfl, ?_⟩
  try dsimp only
  repeat' first
    | with_reducible assumption
    | with_reducible refine State.undeclare_k (hK.mono (by decide)) ?_ _ _
    | with_reducible refine ite_k ?_ ?_
    | split
    | refine fst_k (by with_reducible assumption) ?_

theorem execLphClear_k (hK : Loose 0x800000000000000000000000000000000000009ffa0000000000000000000000020000000002c00 K) {s : State} (h : K s) (n : LaneIx) :
    ∃ z, execLphClear n s = .next z ∧ K z := by
  unfold execLphClear
  refine ⟨_, rfl, ?_⟩
  try dsimp only
  repeat' first
    | with_reducible assumption
    | with_reducible refine State.undeclare_k (hK.mono (by decide)) ?_ _ _
    | with_reducible refine ite_k ?_ ?_

theorem execMchPacketRx_k (hK : Loose 0x1e400000000000000000000000000000000000000000000000000000000000000000000000000000000000000000000000000000001300000000080000000000000000000000002000000000002e00 K) {s : State} (h : K s) (n : LaneIx) (ws : List SlotWord) :
    ∃ z, execMchPacketRx n ws s = .next z ∧ K z := by
  unfold execMchPacketRx
  refine ⟨_, rfl, ?_⟩
  try dsimp only
  repeat' first
    | with_reducible assumption
    | decide
    | rfl
    | (dsimp only [Ev.plus]; decide)
    | (show regOk _ _ = true; split <;> decide)
    | with_reducible refine State.satFld_k hK ?_ _ _ _ ?_
    | with_reducible refine State.latch_k hK (by decide) ?_ _ _ ?_
    | with_reducible refine State.setFld_k hK ?_ _ _ _ ?_
    | with_reducible refine State.mchWord_k (hK.mono (by decide)) ?_ _ _
    | with_reducible refine State.dropPacket_k (hK.mono (by decide)) ?_ _
    | with_reducible refine ite_k ?_ ?_
    | split
    | refine fst_k (by with_reducible assumption) ?_
    | with_reducible refine foldl_k _ _ ?_ ?_
    | with_reducible refine foldl_fst_k _ _ _ ?_ ?_
    | intro _ _ _
    | fail_if_no_progress with_reducible refine hK.build ?_ rfl

theorem execMchPacketTx_k (hK : Loose 0x10000000001e400000000000000000000000000000000000000000000000000000000000000000000000000000000000000000000000000000008000000000000000000000000000000000000000000000002e00 K) {s : State} (h : K s) (n : LaneIx) :
    ∃ z, execMchPacketTx n s = .next z ∧ K z := by
  unfold execMchPacketTx
  refine ⟨_, rfl, ?_⟩
  try dsimp only
  repeat' first
    | with_reducible assumption
    | decide
    | rfl
    | (dsimp only [Ev.plus]; decide)
    | (show regOk _ _ = true; split <;> decide)
    | with_reducible refine State.defaultHit_k (hK.mono (by decide)) ?_ _ _
    | with_reducible refine State.setFld_k hK ?_ _ _ _ ?_
    | with_reducible refine State.updLane_k (hK.mono (by decide)) ?_ _ _
    | with_reducible refine State.readUnits_k (hK.mono (by decide)) ?_ _
    | with_reducible refine ite_k ?_ ?_
    | with_reducible refine foldl_k _ _ ?_ ?_
    | with_reducible refine foldl_fst_k _ _ _ ?_ ?_
    | intro _ _ _
    | split
    | refine fst_k (by with_reducible assumption) ?_
    | fail_if_no_progress with_reducible refine hK.build ?_ rfl

end Sys2Proof.Machine
end

