-- ==== Sys2Proof/Laws/FootCopy.lean ====
section
/-! SUPPORT. What the operations and commands of Machine/Copy.lean may change (Laws/Loose.lean). -/

set_option Elab.async false
set_option linter.unusedTactic false
set_option linter.unreachableTactic false

namespace Sys2Proof.Machine

variable {K : State → Prop}

theorem State.noteApply_k (hK : Loose 0x100000000 K) {s : State} (h : K s) (old : State) :
    K (State.noteApply s old) := by
  unfold State.noteApply
  try dsimp only
  repeat' first
    | with_reducible assumption
    | with_reducible refine ite_k ?_ ?_
    | with_reducible refine foldl_k _ _ ?_ ?_
    | with_reducible refine foldl_fst_k _ _ _ ?_ ?_
    | intro _ _ _
    | split
    | refine fst_k (by with_reducible assumption) ?_
    | fail_if_no_progress with_reducible refine hK.build ?_ rfl

theorem State.noteCommit_k (hK : Loose 0x100000000 K) {s : State} (h : K s) (pairs : List (Nat × Nat)) :
    K (State.noteCommit s pairs) := by
  unfold State.noteCommit
  try dsimp only
  repeat' first
    | with_reducible assumption
    | with_reducible refine State.updMate_k (hK.mono (by decide)) ?_ _
    | with_reducible refine ite_k ?_ ?_
    | with_reducible refine foldl_k _ _ ?_ ?_
    | with_reducible refine foldl_fst_k _ _ _ ?_ ?_
    | intro _ _ _
    | split
    | refine fst_k (by with_reducible assumption) ?_

end Sys2Proof.Machine
end

