-- ==== Sys2Proof/Laws/FootBentOps.lean ====
section
/-! SUPPORT. What the operations and commands of Machine/BentOps.lean may change (Laws/Loose.lean). -/

set_option Elab.async false
set_option linter.unusedTactic false
set_option linter.unreachableTactic false

namespace Sys2Proof.Machine

variable {K : State → Prop}

theorem State.updLink_k (hK : Loose 0x100000 K) {s : State} (h : K s) (src : Nat) (f : Link → Link) :
    K (State.updLink s src f) := by
  unfold State.updLink
  try dsimp only
  repeat' first
    | with_reducible assumption
    | fail_if_no_progress with_reducible refine hK.build ?_ rfl

theorem State.makeStale_k (hK : Loose 0x1000000 K) {s : State} (h : K s) :
    K (State.makeStale s) := by
  unfold State.makeStale
  try dsimp only
  repeat' first
    | with_reducible assumption
    | with_reducible refine ite_k ?_ ?_
    | with_reducible refine foldl_k _ _ ?_ ?_
    | with_reducible refine foldl_fst_k _ _ _ ?_ ?_
    | intro _ _ _
    | split
    | refine fst_k (by with_reducible assumption) ?_
    | fail_if_no_progress with_reducible refine hK.build ?_ rfl

theorem State.markStale_k (hK : Loose 0x1000000 K) {s : State} (h : K s) (f : Nat) :
    K (State.markStale s f) := by
  unfold State.markStale
  try dsimp only
  repeat' first
    | with_reducible assumption
    | with_reducible refine State.makeStale_k (hK.mono (by decide)) ?_
    | with_reducible refine ite_k ?_ ?_
    | split
    | refine fst_k (by with_reducible assumption) ?_
    | with_reducible refine foldl_k _ _ ?_ ?_
    | with_reducible refine foldl_fst_k _ _ _ ?_ ?_
    | intro _ _ _
    | fail_if_no_progress with_reducible refine hK.build ?_ rfl

theorem State.stampTaps_k (hK : Loose 0x30000 K) {s : State} (h : K s) (old : Tab (Tab TapEnt)) :
    K (State.stampTaps s old) := by
  unfold State.stampTaps
  try dsimp only
  repeat' first
    | with_reducible assumption
    | with_reducible refine ite_k ?_ ?_
    | with_reducible refine foldl_k _ _ ?_ ?_
    | with_reducible refine foldl_fst_k _ _ _ ?_ ?_
    | intro _ _ _
    | split
    | refine fst_k (by with_reducible assumption) ?_
    | fail_if_no_progress with_reducible refine hK.build ?_ rfl

theorem State.decideAction_k (hK : Loose 0xde000400000000000000000000000000000000000000000000000000000000000000000000000000000000000000000000000000000000100000101230c00 K) {s : State} (h : K s) (a0 : BentAction) :
    K (State.decideAction s a0) := by
  unfold State.decideAction
  try dsimp only
  repeat' first
    | with_reducible assumption
    | with_reducible refine State.stampTaps_k (hK.mono (by decide)) ?_ _
    | with_reducible refine State.markStale_k (hK.mono (by decide)) ?_ _
    | with_reducible refine State.journal_k (hK.mono (by decide)) ?_ _ _ _ _
    | split
    | refine fst_k (by with_reducible assumption) ?_
    | with_reducible refine ite_k ?_ ?_
    | with_reducible refine foldl_k _ _ ?_ ?_
    | with_reducible refine foldl_fst_k _ _ _ ?_ ?_
    | intro _ _ _
    | fail_if_no_progress with_reducible refine hK.build ?_ rfl

theorem State.decideSteps_k (hK : Loose 0xde000400000000000000000000000000000000000000000000000000000000000080008000000000000000000000000000000000000000100000101330c00 K) {s : State} (h : K s) (b p : Nat) (srcs : List Nat) (old : List (Nat × Nat)) :
    K (State.decideSteps s b p srcs old) := by
  unfold State.decideSteps
  try dsimp only
  repeat' first
    | with_reducible assumption
    | decide
    | rfl
    | (dsimp only [Ev.plus]; decide)
    | (show regOk _ _ = true; split <;> decide)
    | with_reducible refine State.satFld_k hK ?_ _ _ _ ?_
    | with_reducible refine State.latchIf_k hK (by decide) ?_ _ _ _ ?_
    | with_reducible refine State.decideAction_k (hK.mono (by decide)) ?_ _
    | with_reducible refine State.updLink_k (hK.mono (by decide)) ?_ _ _
    | with_reducible refine ite_k ?_ ?_
    | with_reducible refine foldl_k _ _ ?_ ?_
    | with_reducible refine foldl_fst_k _ _ _ ?_ ?_
    | intro _ _ _
    | split
    | refine fst_k (by with_reducible assumption) ?_

theorem State.learnAnew_k (hK : Loose 0x8000000000000000000000000000000000000000000000000100c00 K) {s : State} (h : K s) (src rel : Nat) :
    K (State.learnAnew s src rel) := by
  unfold State.learnAnew
  try dsimp only
  repeat' first
    | with_reducible assumption
    | decide
    | rfl
    | (dsimp only [Ev.plus]; decide)
    | (show regOk _ _ = true; split <;> decide)
    | with_reducible refine State.latchIf_k hK (by decide) ?_ _ _ _ ?_
    | with_reducible refine State.updLink_k (hK.mono (by decide)) ?_ _ _
    | with_reducible refine ite_k ?_ ?_
    | with_reducible refine foldl_k _ _ ?_ ?_
    | with_reducible refine foldl_fst_k _ _ _ ?_ ?_
    | intro _ _ _
    | split
    | refine fst_k (by with_reducible assumption) ?_

theorem State.checkMember_k (hK : Loose 0x8000000000000000000000000000000000000000000000000100c00 K) {s : State} (h : K s) (src w n : Nat) :
    K (State.checkMember s src w n).1 := by
  unfold State.checkMember
  try dsimp only
  repeat' first
    | with_reducible assumption
    | decide
    | rfl
    | (dsimp only [Ev.plus]; decide)
    | (show regOk _ _ = true; split <;> decide)
    | with_reducible refine State.latchIf_k hK (by decide) ?_ _ _ _ ?_
    | with_reducible refine State.learnAnew_k (hK.mono (by decide)) ?_ _ _
    | with_reducible refine ite_k ?_ ?_
    | split
    | refine fst_k (by with_reducible assumption) ?_
    | with_reducible refine foldl_k _ _ ?_ ?_
    | with_reducible refine foldl_fst_k _ _ _ ?_ ?_
    | intro _ _ _
    | fail_if_no_progress with_reducible refine hK.build ?_ rfl

theorem State.joinMember_k (hK : Loose 0x8000000000000000000000000000000000000000000000000100c00 K) {s : State} (h : K s) (src : Nat) :
    K (State.joinMember s src) := by
  unfold State.joinMember
  try dsimp only
  repeat' first
    | with_reducible assumption
    | decide
    | rfl
    | (dsimp only [Ev.plus]; decide)
    | (show regOk _ _ = true; split <;> decide)
    | with_reducible refine State.updLink_k (hK.mono (by decide)) ?_ _ _
    | with_reducible refine State.latchIf_k hK (by decide) ?_ _ _ _ ?_
    | with_reducible refine ite_k ?_ ?_
    | split
    | refine fst_k (by with_reducible assumption) ?_
    | fail_if_no_progress with_reducible refine hK.build ?_ rfl

theorem State.setSides_k (hK : Loose 0x20000000 K) {s : State} (h : K s) (t : Tab SideSt) :
    K (State.setSides s t) := by
  unfold State.setSides
  try dsimp only
  repeat' first
    | with_reducible assumption
    | with_reducible refine ite_k ?_ ?_
    | with_reducible refine foldl_k _ _ ?_ ?_
    | with_reducible refine foldl_fst_k _ _ _ ?_ ?_
    | intro _ _ _
    | split
    | refine fst_k (by with_reducible assumption) ?_
    | fail_if_no_progress with_reducible refine hK.build ?_ rfl

theorem State.clearSide_k (hK : Loose 0x40000000000000000000000000000000000000000000000000000000000000000000000020000c00 K) {s : State} (h : K s) (k : Nat) :
    K (State.clearSide s k) := by
  unfold State.clearSide
  try dsimp only
  repeat' first
    | with_reducible assumption
    | decide
    | rfl
    | (dsimp only [Ev.plus]; decide)
    | (show regOk _ _ = true; split <;> decide)
    | with_reducible refine State.latchIf_k hK (by decide) ?_ _ _ _ ?_
    | with_reducible refine State.setSides_k (hK.mono (by decide)) ?_ _
    | split
    | refine fst_k (by with_reducible assumption) ?_
    | with_reducible refine ite_k ?_ ?_
    | with_reducible refine foldl_k _ _ ?_ ?_
    | with_reducible refine foldl_fst_k _ _ _ ?_ ?_
    | intro _ _ _
    | fail_if_no_progress with_reducible refine hK.build ?_ rfl

theorem State.clearMoved_k (hK : Loose 0x40000000000000000000000000000000000000000000000000000000000000000000000020000c00 K) {s : State} (h : K s) (p : Nat → Bool) (old new : Schedule) :
    K (State.clearMoved s p old new) := by
  unfold State.clearMoved
  try dsimp only
  repeat' first
    | with_reducible assumption
    | with_reducible refine State.clearSide_k (hK.mono (by decide)) ?_ _
    | with_reducible refine ite_k ?_ ?_
    | with_reducible refine foldl_k _ _ ?_ ?_
    | with_reducible refine foldl_fst_k _ _ _ ?_ ?_
    | intro _ _ _
    | split
    | refine fst_k (by with_reducible assumption) ?_

theorem State.releaseTaps_k (hK : Loose 0x10000 K) {s : State} (h : K s) (old new : Schedule) :
    K (State.releaseTaps s old new) := by
  unfold State.releaseTaps
  try dsimp only
  repeat' first
    | with_reducible assumption
    | with_reducible refine foldl_k _ _ ?_ ?_
    | with_reducible refine foldl_fst_k _ _ _ ?_ ?_
    | intro _ _ _
    | split
    | refine fst_k (by with_reducible assumption) ?_
    | fail_if_no_progress with_reducible refine hK.build ?_ rfl

theorem State.settleTaps_k (hK : Loose 0x10000 K) {s : State} (h : K s) :
    K (State.settleTaps s) := by
  unfold State.settleTaps
  try dsimp only
  repeat' first
    | with_reducible assumption
    | with_reducible refine foldl_k _ _ ?_ ?_
    | with_reducible refine foldl_fst_k _ _ _ ?_ ?_
    | intro _ _ _
    | split
    | refine fst_k (by with_reducible assumption) ?_
    | fail_if_no_progress with_reducible refine hK.build ?_ rfl

theorem State.actionEvents_k (hK : Loose 0x100008000000000000000000000000000000000000000000000000400c00 K) {s : State} (h : K s) (a : BentAction) (g : Nat) (ret : Bool) :
    K (State.actionEvents s a g ret) := by
  unfold State.actionEvents
  try dsimp only
  repeat' first
    | with_reducible assumption
    | decide
    | rfl
    | (dsimp only [Ev.plus]; decide)
    | (show regOk _ _ = true; split <;> decide)
    | with_reducible refine State.latchIf_k hK (by decide) ?_ _ _ _ ?_
    | with_reducible refine State.satFld_k hK ?_ _ _ _ ?_
    | with_reducible refine ite_k ?_ ?_
    | split
    | refine fst_k (by with_reducible assumption) ?_
    | with_reducible refine foldl_k _ _ ?_ ?_
    | with_reducible refine foldl_fst_k _ _ _ ?_ ?_
    | intro _ _ _
    | fail_if_no_progress with_reducible refine hK.build ?_ rfl

theorem State.watchOver_k (hK : Loose 0x400000000000000000000000000000000000000000000000000000000000c00 K) {s : State} (h : K s) :
    K (State.watchOver s) := by
  unfold State.watchOver
  try dsimp only
  repeat' first
    | with_reducible assumption
    | decide
    | rfl
    | (dsimp only [Ev.plus]; decide)
    | (show regOk _ _ = true; split <;> decide)
    | with_reducible refine State.latchIf_k hK (by decide) ?_ _ _ _ ?_
    | with_reducible refine ite_k ?_ ?_
    | with_reducible refine foldl_k _ _ ?_ ?_
    | with_reducible refine foldl_fst_k _ _ _ ?_ ?_
    | intro _ _ _
    | split
    | refine fst_k (by with_reducible assumption) ?_

theorem State.takeAction_k (hK : Loose 0x40000000000000000400100008000000000000000000000000000000000000000000000121738c00 K) {s : State} (h : K s) (a0 : BentAction) :
    K (State.takeAction s a0) := by
  unfold State.takeAction
  try dsimp only
  repeat' first
    | with_reducible assumption
    | decide
    | rfl
    | (dsimp only [Ev.plus]; decide)
    | (show regOk _ _ = true; split <;> decide)
    | with_reducible refine State.latch_k hK (by decide) ?_ _ _ ?_
    | with_reducible refine State.clearMoved_k (hK.mono (by decide)) ?_ _ _ _
    | with_reducible refine State.releaseTaps_k (hK.mono (by decide)) ?_ _ _
    | with_reducible refine State.settleTaps_k (hK.mono (by decide)) ?_ 
    | with_reducible refine State.actionEvents_k (hK.mono (by decide)) ?_ _ _ _
    | with_reducible refine State.stampTaps_k (hK.mono (by decide)) ?_ _
    | with_reducible refine State.noteApply_k (hK.mono (by decide)) ?_ _
    | with_reducible refine State.watchOver_k (hK.mono (by decide)) ?_
    | with_reducible refine State.clearMoved_k (hK.mono (by decide)) ?_ _ _ _
    | with_reducible refine ite_k ?_ ?_
    | with_reducible refine foldl_k _ _ ?_ ?_
    | with_reducible refine foldl_fst_k _ _ _ ?_ ?_
    | intro _ _ _
    | split
    | refine fst_k (by with_reducible assumption) ?_
    | fail_if_no_progress with_reducible refine hK.build ?_ rfl

end Sys2Proof.Machine
end

