-- ==== Sys2Proof/Laws/FootFabric.lean ====
section
/-! SUPPORT. What the operations and commands of Machine/Fabric.lean may change (Laws/Loose.lean). -/

set_option Elab.async false
set_option linter.unusedTactic false
set_option linter.unreachableTactic false

namespace Sys2Proof.Machine

variable {K : State → Prop}

theorem State.checkBents_k (hK : Loose 0xde000400000000000000000000000000000000000000000000000000000000000080008000000000000000000000000000000000000000100000101330c00 K) {s : State} (h : K s) (n : Nat) :
    K (State.checkBents s n) := by
  unfold State.checkBents
  try dsimp only
  repeat' first
    | with_reducible assumption
    | with_reducible refine State.checkMember_k (hK.mono (by decide)) ?_ _ _ _
    | with_reducible refine State.decideSteps_k (hK.mono (by decide)) ?_ _ _ _ _
    | with_reducible refine foldl_k _ _ ?_ ?_
    | with_reducible refine foldl_fst_k _ _ _ ?_ ?_
    | intro _ _ _
    | split
    | refine fst_k (by with_reducible assumption) ?_
    | fail_if_no_progress with_reducible refine hK.build ?_ rfl

theorem State.tapPegs_k (hK : Loose 0x1000000000000 K) {s : State} (h : K s) (n : Nat) :
    K (State.tapPegs s n) := by
  unfold State.tapPegs
  try dsimp only
  repeat' first
    | with_reducible assumption
    | with_reducible refine ite_k ?_ ?_
    | with_reducible refine foldl_k _ _ ?_ ?_
    | with_reducible refine foldl_fst_k _ _ _ ?_ ?_
    | intro _ _ _
    | split
    | refine fst_k (by with_reducible assumption) ?_
    | fail_if_no_progress with_reducible refine hK.build ?_ rfl

theorem State.returnWord_k (hK : Loose 0x4000400000000000000000000000000000000000000000000000000000000040d00 K) {s : State} (h : K s) (k m : Nat) (late : Nat → Bool) (x : Membership) :
    K (State.returnWord s k m late x) := by
  unfold State.returnWord
  try dsimp only
  repeat' first
    | with_reducible assumption
    | decide
    | rfl
    | (dsimp only [Ev.plus]; decide)
    | (show regOk _ _ = true; split <;> decide)
    | with_reducible refine State.latch_k hK (by decide) ?_ _ _ ?_
    | with_reducible refine State.satFld_k hK ?_ _ _ _ ?_
    | with_reducible refine State.drawn_k (hK.mono (by decide)) ?_ 
    | with_reducible refine ite_k ?_ ?_
    | with_reducible refine foldl_k _ _ ?_ ?_
    | with_reducible refine foldl_fst_k _ _ _ ?_ ?_
    | intro _ _ _
    | split
    | refine fst_k (by with_reducible assumption) ?_
    | fail_if_no_progress with_reducible refine hK.build ?_ rfl

theorem State.fillReturn_k (hK : Loose 0x100000000000000000000000000000000000000000000000000000000000000000000000000000000000000000000000000004000400000000000000000000000000000000000000000000000000000000040d00 K) {s : State} (h : K s) (r m : Nat) (late : Nat → Bool) :
    K (State.fillReturn s r m late) := by
  unfold State.fillReturn
  try dsimp only
  repeat' first
    | with_reducible assumption
    | with_reducible refine State.returnWord_k (hK.mono (by decide)) ?_ _ _ _ _
    | with_reducible refine State.readUnits_k (hK.mono (by decide)) ?_ _
    | with_reducible refine ite_k ?_ ?_
    | with_reducible refine foldl_k _ _ ?_ ?_
    | with_reducible refine foldl_fst_k _ _ _ ?_ ?_
    | intro _ _ _
    | split
    | refine fst_k (by with_reducible assumption) ?_
    | fail_if_no_progress with_reducible refine hK.build ?_ rfl

theorem State.closeReturns_k (hK : Loose 0x100000000000000000000000000000000000000000000000000000000000000000000000000000000000000000000000000004000400000000000000000000000000000000000000000000000000000000040d00 K) {s : State} (h : K s) (m : Nat) :
    K (State.closeReturns s m) := by
  unfold State.closeReturns
  try dsimp only
  repeat' first
    | with_reducible assumption
    | with_reducible refine State.fillReturn_k (hK.mono (by decide)) ?_ _ _ _
    | with_reducible refine ite_k ?_ ?_
    | with_reducible refine foldl_k _ _ ?_ ?_
    | with_reducible refine foldl_fst_k _ _ _ ?_ ?_
    | intro _ _ _
    | split
    | refine fst_k (by with_reducible assumption) ?_

theorem execCentreSweep_k (hK : Loose 0x1000000000000000000000000000000000000000000de0004000000000000000000000000000000000000000000000000000060804000800080000000000000000000000000000000000000001200001013f0d80 K) {s : State} (h : K s) (flips : List TrussFlip) :
    ∃ z, execCentreSweep flips s = .next z ∧ K z := by
  unfold execCentreSweep
  refine ⟨_, rfl, ?_⟩
  extract_lets m n s1 sc x plate s2 s3 s4
  have h1 : K s1 := State.checkBents_k (hK.mono (by decide)) (State.closeReturns_k (hK.mono (by decide)) h _) _
  clear_value s1
  have h2 : K s2 := hK.build h1 rfl
  clear_value s2
  have h3 : K s3 := State.latchIf_k hK (by decide) (State.satFld_k hK h2 _ _ _ (by decide)) _ _ _ (by decide)
  have h4 : K s4 := State.updSist_k (hK.mono (by decide)) h3 _
  exact State.latchIf_k hK (by decide) (State.satFld_k hK h4 _ _ _ (by decide)) _ _ _ (by decide)

theorem State.countKerf_k (hK : Loose 0x1000000000000000000000000000000000000000000000000000000000000000000 K) {s : State} (h : K s) (m lam : Nat) (g : KerfWord) :
    K (State.countKerf s m lam g) := by
  unfold State.countKerf
  try dsimp only
  repeat' first
    | with_reducible assumption
    | decide
    | rfl
    | (dsimp only [Ev.plus]; decide)
    | (show regOk _ _ = true; split <;> decide)
    | with_reducible refine State.satFld_k hK ?_ _ _ _ ?_
    | with_reducible refine ite_k ?_ ?_
    | with_reducible refine foldl_k _ _ ?_ ?_
    | with_reducible refine foldl_fst_k _ _ _ ?_ ?_
    | intro _ _ _
    | split
    | refine fst_k (by with_reducible assumption) ?_

theorem State.recordKerf_k (hK : Loose 0x1f00400000000000000000000000000000000000000000000000020000000000c00 K) {s : State} (h : K s) (fails : List KerfWord) :
    K (State.recordKerf s fails) := by
  unfold State.recordKerf
  try dsimp only
  repeat' first
    | with_reducible assumption
    | decide
    | rfl
    | (dsimp only [Ev.plus]; decide)
    | (show regOk _ _ = true; split <;> decide)
    | with_reducible refine State.countKerf_k (hK.mono (by decide)) ?_ _ _ _
    | with_reducible refine State.setFld_k hK ?_ _ _ _ ?_
    | with_reducible refine State.latch_k hK (by decide) ?_ _ _ ?_
    | with_reducible refine State.setFlag_k hK ?_ _ _ _ ?_
    | with_reducible refine State.updSist_k (hK.mono (by decide)) ?_ _
    | with_reducible refine ite_k ?_ ?_
    | with_reducible refine foldl_k _ _ ?_ ?_
    | with_reducible refine foldl_fst_k _ _ _ ?_ ?_
    | intro _ _ _
    | split
    | refine fst_k (by with_reducible assumption) ?_

theorem execKerfCheck_k (hK : Loose 0x8220000000000000000000000000000000000000000000000000000000000004e9000000000000000000000000000000000000000000000000001f24400000000000000000000000000000000000000000000000024000100000d84 K) {s : State} (h : K s) (got : List KerfWord) :
    ∃ z, execKerfCheck got s = .next z ∧ K z := by
  unfold execKerfCheck
  refine ⟨_, rfl, ?_⟩
  try dsimp only
  repeat' first
    | with_reducible assumption
    | decide
    | rfl
    | (dsimp only [Ev.plus]; decide)
    | (show regOk _ _ = true; split <;> decide)
    | with_reducible refine State.satFld_k hK ?_ _ _ _ ?_
    | with_reducible refine State.setFld_k hK ?_ _ _ _ ?_
    | with_reducible refine State.setFlag_k hK ?_ _ _ _ ?_
    | with_reducible refine State.latch_k hK (by decide) ?_ _ _ ?_
    | with_reducible refine State.evalLams_k (hK.mono (by decide)) ?_ 
    | with_reducible refine State.recordKerf_k (hK.mono (by decide)) ?_ _
    | with_reducible refine ite_k ?_ ?_
    | with_reducible refine foldl_k _ _ ?_ ?_
    | with_reducible refine foldl_fst_k _ _ _ ?_ ?_
    | intro _ _ _
    | split
    | refine fst_k (by with_reducible assumption) ?_
    | fail_if_no_progress with_reducible refine hK.build ?_ rfl

theorem State.shadowLam_k (hK : Loose 0x49000000000000000000000000000000000000000000000000020000000000004 K) {s : State} (h : K s) (k : Nat) :
    K (State.shadowLam s k) := by
  unfold State.shadowLam
  try dsimp only
  repeat' first
    | with_reducible assumption
    | decide
    | rfl
    | (dsimp only [Ev.plus]; decide)
    | (show regOk _ _ = true; split <;> decide)
    | with_reducible refine State.setFld_k hK ?_ _ _ _ ?_
    | with_reducible refine State.setStg_k (hK.mono (by decide)) ?_ _ _ _
    | with_reducible refine State.moveShadow_k (hK.mono (by decide)) ?_ _
    | with_reducible refine ite_k ?_ ?_
    | with_reducible refine foldl_k _ _ ?_ ?_
    | with_reducible refine foldl_fst_k _ _ _ ?_ ?_
    | intro _ _ _
    | split
    | refine fst_k (by with_reducible assumption) ?_

theorem State.tickLamSubst_k (hK : Loose 0x8220000000000000000000000000000000000000000000000000000000000004e900000000000000000000000000000000000000000000000000006d000000000000000000000000000000000000000000000000024000100000d04 K) {s : State} (h : K s) :
    K (State.tickLamSubst s) := by
  unfold State.tickLamSubst
  try dsimp only
  repeat' first
    | with_reducible assumption
    | decide
    | rfl
    | (dsimp only [Ev.plus]; decide)
    | (show regOk _ _ = true; split <;> decide)
    | with_reducible refine State.shadowLam_k (hK.mono (by decide)) ?_ _
    | with_reducible refine State.updSist_k (hK.mono (by decide)) ?_ _
    | with_reducible refine State.setFld_k hK ?_ _ _ _ ?_
    | with_reducible refine State.setFlag_k hK ?_ _ _ _ ?_
    | with_reducible refine State.lamTrigger_k (hK.mono (by decide)) ?_ _ _
    | with_reducible refine State.lamTrigger_k (hK.mono (by decide)) ?_ _ _
    | with_reducible refine State.endRotation_k (hK.mono (by decide)) ?_
    | split
    | refine fst_k (by with_reducible assumption) ?_
    | with_reducible refine ite_k ?_ ?_
    | with_reducible refine foldl_k _ _ ?_ ?_
    | with_reducible refine foldl_fst_k _ _ _ ?_ ?_
    | intro _ _ _
    | fail_if_no_progress with_reducible refine hK.build ?_ rfl

theorem State.lamsIn_k (hK : Loose 0x800000000000000000000000000000000000000000000000000000000000000000000000000000000000000000000000000000000000000000000010400000000000000000000000000000000000000000000000000000000000c00 K) {s : State} (h : K s) :
    K (State.lamsIn s) := by
  unfold State.lamsIn
  try dsimp only
  repeat' first
    | with_reducible assumption
    | decide
    | rfl
    | (dsimp only [Ev.plus]; decide)
    | (show regOk _ _ = true; split <;> decide)
    | with_reducible refine State.setFlag_k hK ?_ _ _ _ ?_
    | with_reducible refine State.setFld_k hK ?_ _ _ _ ?_
    | with_reducible refine State.latch_k hK (by decide) ?_ _ _ ?_

theorem execLamSubstSelect_k (hK : Loose 0x822000000000000000000000000000000000000000000000000000000000000000000000000000000000000000000000000000000000000000000012400000000000000000000000000000000000000000000000024000000000c04 K) {s : State} (h : K s) :
    ∃ z, execLamSubstSelect s = .next z ∧ K z := by
  unfold execLamSubstSelect
  refine ⟨_, rfl, ?_⟩
  try dsimp only
  repeat' first
    | with_reducible assumption
    | decide
    | rfl
    | (dsimp only [Ev.plus]; decide)
    | (show regOk _ _ = true; split <;> decide)
    | with_reducible refine State.setFld_k hK ?_ _ _ _ ?_
    | with_reducible refine State.setStg_k (hK.mono (by decide)) ?_ _ _ _
    | with_reducible refine State.lamsIn_k (hK.mono (by decide)) ?_ 
    | with_reducible refine State.updSist_k (hK.mono (by decide)) ?_ _
    | with_reducible refine State.substDone_k (hK.mono (by decide)) ?_ _ _ _
    | with_reducible refine ite_k ?_ ?_
    | split
    | refine fst_k (by with_reducible assumption) ?_
    | fail_if_no_progress with_reducible refine hK.build ?_ rfl

theorem State.tickLam_k (hK : Loose 0x48000000000000000000000000000000000000000000000000020000000000000 K) {s : State} (h : K s) :
    K (State.tickLam s) := by
  unfold State.tickLam
  try dsimp only
  repeat' first
    | with_reducible assumption
    | decide
    | rfl
    | (dsimp only [Ev.plus]; decide)
    | (show regOk _ _ = true; split <;> decide)
    | with_reducible refine State.setFld_k hK ?_ _ _ _ ?_
    | with_reducible refine State.satFld_k hK ?_ _ _ _ ?_
    | with_reducible refine State.moveShadow_k (hK.mono (by decide)) ?_ _
    | with_reducible refine ite_k ?_ ?_
    | with_reducible refine foldl_k _ _ ?_ ?_
    | with_reducible refine foldl_fst_k _ _ _ ?_ ?_
    | intro _ _ _
    | split
    | refine fst_k (by with_reducible assumption) ?_

theorem execLongPathTap_k (hK : Loose 0x1000000020000 K) {s : State} (h : K s) :
    ∃ z, execLongPathTap s = .next z ∧ K z := by
  unfold execLongPathTap
  refine ⟨_, rfl, ?_⟩
  try dsimp only
  repeat' first
    | with_reducible assumption
    | with_reducible refine State.tapPegs_k (hK.mono (by decide)) ?_ _
    | with_reducible refine foldl_k _ _ ?_ ?_
    | with_reducible refine foldl_fst_k _ _ _ ?_ ?_
    | intro _ _ _
    | with_reducible refine ite_k ?_ ?_
    | split
    | refine fst_k (by with_reducible assumption) ?_
    | fail_if_no_progress with_reducible refine hK.build ?_ rfl

theorem execLongPathReturn_k (hK : Loose 0x100000000000000000000000000000000000000000000000000000000000000000000000000000000000000000000000000004000400000000000000000000000000000000000000000000000000000000040d00 K) {s : State} (h : K s) (r : Fin 24) (late : List (Fin 131072)) :
    ∃ z, execLongPathReturn r late s = .next z ∧ K z := by
  unfold execLongPathReturn
  refine ⟨_, rfl, ?_⟩
  try dsimp only
  repeat' first
    | with_reducible assumption
    | decide
    | rfl
    | (dsimp only [Ev.plus]; decide)
    | (show regOk _ _ = true; split <;> decide)
    | with_reducible refine State.satFld_k hK ?_ _ _ _ ?_
    | with_reducible refine State.latch_k hK (by decide) ?_ _ _ ?_
    | with_reducible refine State.fillReturn_k (hK.mono (by decide)) ?_ _ _ _
    | with_reducible refine ite_k ?_ ?_
    | with_reducible refine foldl_k _ _ ?_ ?_
    | with_reducible refine foldl_fst_k _ _ _ ?_ ?_
    | intro _ _ _
    | split
    | refine fst_k (by with_reducible assumption) ?_
    | fail_if_no_progress with_reducible refine hK.build ?_ rfl

theorem execTapClear_k (hK : Loose 0x10000 K) {s : State} (h : K s) :
    ∃ z, execTapClear s = .next z ∧ K z := by
  unfold execTapClear
  refine ⟨_, rfl, ?_⟩
  try dsimp only
  repeat' first
    | with_reducible assumption
    | split
    | refine fst_k (by with_reducible assumption) ?_
    | fail_if_no_progress with_reducible refine hK.build ?_ rfl

end Sys2Proof.Machine
end

