-- ==== Sys2Proof/Laws/FootBents.lean ====
section
/-! SUPPORT. What the operations and commands of Machine/Bents.lean may change (Laws/Loose.lean). -/

set_option Elab.async false
set_option linter.unusedTactic false
set_option linter.unreachableTactic false

namespace Sys2Proof.Machine

variable {K : State → Prop}

theorem execMemberJoin_k (hK : Loose 0x8000000000000000000000000000000000000000000000000100c00 K) {s : State} (h : K s) (src : SlotAddr) :
    ∃ z, execMemberJoin src s = .next z ∧ K z := by
  unfold execMemberJoin
  refine ⟨_, rfl, ?_⟩
  try dsimp only
  repeat' first
    | with_reducible assumption
    | with_reducible refine State.joinMember_k (hK.mono (by decide)) ?_ _

theorem execBentStepApply_k (hK : Loose 0x40000000000000000400100008000000000000000000000000000000000000000000000121738c00 K) {s : State} (h : K s) (b : BentIx) :
    ∃ z, execBentStepApply b s = .next z ∧ K z := by
  unfold execBentStepApply
  refine ⟨_, rfl, ?_⟩
  try dsimp only
  repeat' first
    | with_reducible assumption
    | with_reducible refine State.takeAction_k (hK.mono (by decide)) ?_ _
    | split
    | refine fst_k (by with_reducible assumption) ?_
    | fail_if_no_progress with_reducible refine hK.build ?_ rfl

theorem execBentRetimeApply_k (hK : Loose 0x40000000000000000400100008000000000000000000000000000000000000000000000121738c00 K) {s : State} (h : K s) (b : BentIx) :
    ∃ z, execBentRetimeApply b s = .next z ∧ K z := by
  unfold execBentRetimeApply
  refine ⟨_, rfl, ?_⟩
  try dsimp only
  repeat' first
    | with_reducible assumption
    | with_reducible refine State.takeAction_k (hK.mono (by decide)) ?_ _
    | split
    | refine fst_k (by with_reducible assumption) ?_
    | fail_if_no_progress with_reducible refine hK.build ?_ rfl

theorem execBentGrowthEnd_k (hK : Loose 0x8000000000000000000000000000000000000000000000000400c00 K) {s : State} (h : K s) (b : BentIx) :
    ∃ z, execBentGrowthEnd b s = .next z ∧ K z := by
  unfold execBentGrowthEnd
  refine ⟨_, rfl, ?_⟩
  try dsimp only
  repeat' first
    | with_reducible assumption
    | decide
    | rfl
    | (dsimp only [Ev.plus]; decide)
    | (show regOk _ _ = true; split <;> decide)
    | with_reducible refine State.latchIf_k hK (by decide) ?_ _ _ _ ?_
    | with_reducible refine ite_k ?_ ?_
    | split
    | refine fst_k (by with_reducible assumption) ?_
    | fail_if_no_progress with_reducible refine hK.build ?_ rfl

theorem State.requestRetime_k (hK : Loose 0xde000400000000000000000000000000000000000000000000000000000000000000000000000000000000000000000000000000000000100000101230c00 K) {s : State} (h : K s) (b : Nat) :
    K (State.requestRetime s b) := by
  unfold State.requestRetime
  try dsimp only
  repeat' first
    | with_reducible assumption
    | with_reducible refine State.decideAction_k (hK.mono (by decide)) ?_ _
    | with_reducible refine ite_k ?_ ?_

theorem State.readMember_k (hK : Loose 0x800000 K) {s : State} (h : K s) (m b : Nat) :
    K (State.readMember s m b).1 := by
  unfold State.readMember
  try dsimp only
  repeat' first
    | with_reducible assumption
    | fail_if_no_progress with_reducible refine hK.build ?_ rfl

end Sys2Proof.Machine
end

