-- ==== Sys2Proof/Laws/FootImage.lean ====
section
/-! SUPPORT. What the operations and commands of Machine/Image.lean may change (Laws/Loose.lean). -/

set_option Elab.async false
set_option linter.unusedTactic false
set_option linter.unreachableTactic false

namespace Sys2Proof.Machine

variable {K : State → Prop}

theorem State.imageDefaults_k (hK : Loose 0x8000000000000004 K) {s : State} (h : K s) :
    K (State.imageDefaults s) := by
  unfold State.imageDefaults
  refine hK.build h rfl (hr := ?_)
  intro id hi
  have hb : fixedBase id = true := by
    cases e : fixedBase id with
    | true => rfl
    | false => rw [regOk_any (by decide) e] at hi; exact Bool.noConfusion hi
  refine Tab.get_keep_of _ _ _ (fun _ => ?_)
  unfold fixedBase at hb
  rw [Bool.or_eq_true, Bool.or_eq_true] at hb
  rcases hb with (e | e) | e <;> rw [eq_of_beq e] <;> decide +kernel

theorem State.updRaise_k (hK : Loose 0x400000000 K) {s : State} (h : K s) (f : Raise → Raise) :
    K (State.updRaise s f) := by
  unfold State.updRaise
  try dsimp only
  repeat' first
    | with_reducible assumption
    | fail_if_no_progress with_reducible refine hK.build ?_ rfl

theorem State.noteFail_k (hK : Loose 0x3a000000000000000000000000000000000000000000000000000000000000000000000000000000000000000000000000000000000000000000000000000000000 K) {s : State} (h : K s) (code sect rcode roff : Nat) :
    K (State.noteFail s code sect rcode roff) := by
  unfold State.noteFail
  try dsimp only
  repeat' first
    | with_reducible assumption
    | decide
    | rfl
    | (dsimp only [Ev.plus]; decide)
    | (show regOk _ _ = true; split <;> decide)
    | with_reducible refine State.setFld_k hK ?_ _ _ _ ?_
    | with_reducible refine ite_k ?_ ?_

theorem State.tryRecovery_k (hK : Loose 0x1000000000000000000000000000000000000000000000000000000000000000000000000000000000000000000000000000000000000000000000000000000000 K) {s : State} (h : K s) :
    K (State.tryRecovery s) := by
  unfold State.tryRecovery
  try dsimp only
  repeat' first
    | with_reducible assumption
    | decide
    | rfl
    | (dsimp only [Ev.plus]; decide)
    | (show regOk _ _ = true; split <;> decide)
    | with_reducible refine State.setFlag_k hK ?_ _ _ _ ?_

theorem State.haltRaise_k (hK : Loose 0x3b800000000000000000000000000000000000000000000000000000000000000000000000000000000000000000000000000000000000000000000000000000000 K) {s : State} (h : K s) (code sect rcode roff : Nat) :
    K (State.haltRaise s code sect rcode roff) := by
  unfold State.haltRaise
  try dsimp only
  repeat' first
    | with_reducible assumption
    | decide
    | rfl
    | (dsimp only [Ev.plus]; decide)
    | (show regOk _ _ = true; split <;> decide)
    | with_reducible refine State.noteFail_k (hK.mono (by decide)) ?_ _ _ _ _
    | with_reducible refine State.setFlag_k hK ?_ _ _ _ ?_
    | with_reducible refine State.tryRecovery_k (hK.mono (by decide)) ?_ 

theorem State.baseRefused_k (hK : Loose 0x3b800000000000000000000000000000000000000000000000000000000000000000000000000000000000000000000000000000000000000000000000000000000 K) {s : State} (h : K s) (code index : Nat) :
    K (State.baseRefused s code index) := by
  unfold State.baseRefused
  try dsimp only
  repeat' first
    | with_reducible assumption
    | with_reducible refine State.haltRaise_k (hK.mono (by decide)) ?_ _ _ _ _

end Sys2Proof.Machine
end

