-- ==== Sys2Proof/Laws/FootScarfOps.lean ====
section
/-! SUPPORT. What the operations and commands of Machine/ScarfOps.lean may change (Laws/Loose.lean). -/

set_option Elab.async false
set_option linter.unusedTactic false
set_option linter.unreachableTactic false

namespace Sys2Proof.Machine

variable {K : State → Prop}

theorem State.enterGroup_k (hK : Loose 0x502000000000000000000000000000000000000000000000000000000000000000000000000000000040000c00 K) {s : State} (h : K s) (g st : Nat) :
    K (State.enterGroup s g st) := by
  unfold State.enterGroup
  try dsimp only
  repeat' first
    | with_reducible assumption
    | decide
    | rfl
    | (dsimp only [Ev.plus]; decide)
    | (show regOk _ _ = true; split <;> decide)
    | with_reducible refine State.setFld_k hK ?_ _ _ _ ?_
    | with_reducible refine State.latchIf_k hK (by decide) ?_ _ _ _ ?_
    | with_reducible refine ite_k ?_ ?_
    | fail_if_no_progress with_reducible refine hK.build ?_ rfl

theorem State.judgeSide_k (hK : Loose 0x118008000000000000000000000000000000000000000000000000000000000000000000000000000040000c00 K) {s : State} (h : K s) (g side copies bad : Nat) :
    K (State.judgeSide s g side copies bad) := by
  unfold State.judgeSide
  try dsimp only
  repeat' first
    | with_reducible assumption
    | decide
    | rfl
    | (dsimp only [Ev.plus]; decide)
    | (show regOk _ _ = true; split <;> decide)
    | with_reducible refine State.setFlag_k hK ?_ _ _ _ ?_
    | with_reducible refine State.latch_k hK (by decide) ?_ _ _ ?_
    | with_reducible refine ite_k ?_ ?_
    | fail_if_no_progress with_reducible refine hK.build ?_ rfl

theorem State.evalWindow_k (hK : Loose 0x51a008000000000000000000000000000000000000000000000000000000000000000000000000000040000c00 K) {s : State} (h : K s) (g : Nat) :
    K (State.evalWindow s g) := by
  unfold State.evalWindow
  try dsimp only
  repeat' first
    | with_reducible assumption
    | with_reducible refine State.judgeSide_k (hK.mono (by decide)) ?_ _ _ _ _
    | with_reducible refine State.enterGroup_k (hK.mono (by decide)) ?_ _ _
    | with_reducible refine ite_k ?_ ?_
    | split
    | refine fst_k (by with_reducible assumption) ?_
    | fail_if_no_progress with_reducible refine hK.build ?_ rfl

theorem State.countWindow_k (hK : Loose 0x40000000 K) {s : State} (h : K s) (g f : Nat) (w p : Nat × Nat) :
    K (State.countWindow s g f w p) := by
  unfold State.countWindow
  try dsimp only
  repeat' first
    | with_reducible assumption
    | with_reducible refine ite_k ?_ ?_
    | fail_if_no_progress with_reducible refine hK.build ?_ rfl

theorem State.emptyGroup_k (hK : Loose 0x51a000000000000000000000000000000000000000000000000000000000000000000000000000000040000c00 K) {s : State} (h : K s) (g : Nat) :
    K (State.emptyGroup s g) := by
  unfold State.emptyGroup
  extract_lets s0 s1
  have h0 : K s0 := State.latchIf_k hK (by decide) (State.latchIf_k hK (by decide) h _ _ _ (by decide)) _ _ _ (by decide)
  have h1 : K s1 := State.enterGroup_k (hK.mono (by decide))
    (State.setFlag_k hK (State.setFlag_k hK h0 _ _ _ (by decide)) _ _ _ (by decide)) _ _
  clear_value s1
  have h2 := State.setFld_k hK h1 R.SCF_GSTAT_STATE g groupEmpty (by decide)
  exact hK.build h2 rfl

theorem State.followGroups_k (hK : Loose 0x51a000000000000000000000000000000000000000000000000000000000000000000000000000000040000c00 K) {s : State} (h : K s) (old new : Tab Route) :
    K (State.followGroups s old new) := by
  unfold State.followGroups
  try dsimp only
  repeat' first
    | with_reducible assumption
    | with_reducible refine State.enterGroup_k (hK.mono (by decide)) ?_ _ _
    | with_reducible refine State.emptyGroup_k (hK.mono (by decide)) ?_ _
    | with_reducible refine ite_k ?_ ?_
    | with_reducible refine foldl_k _ _ ?_ ?_
    | with_reducible refine foldl_fst_k _ _ _ ?_ ?_
    | intro _ _ _

end Sys2Proof.Machine
end

