-- ==== Sys2Proof/Laws/FootScribe.lean ====
section
/-! SUPPORT. What the operations and commands of Machine/Scribe.lean may change (Laws/Loose.lean). -/

set_option Elab.async false
set_option linter.unusedTactic false
set_option linter.unreachableTactic false

namespace Sys2Proof.Machine

variable {K : State → Prop}

theorem State.refuseCmd_k (hK : Loose 0x2000000000000000000000000000000000000000000000000000000000000000000000c00 K) {s : State} (h : K s) :
    K (State.refuseCmd s) := by
  unfold State.refuseCmd
  try dsimp only
  repeat' first
    | with_reducible assumption
    | decide
    | rfl
    | (dsimp only [Ev.plus]; decide)
    | (show regOk _ _ = true; split <;> decide)
    | with_reducible refine State.latch_k hK (by decide) ?_ _ _ ?_

theorem State.withdraw_k (hK : Loose 0x10000 K) {s : State} (h : K s) (c : Change) :
    K (State.withdraw s c) := by
  unfold State.withdraw
  try dsimp only
  repeat' first
    | with_reducible assumption
    | with_reducible refine foldl_k _ _ ?_ ?_
    | with_reducible refine foldl_fst_k _ _ _ ?_ ?_
    | intro _ _ _
    | split
    | refine fst_k (by with_reducible assumption) ?_
    | with_reducible refine ite_k ?_ ?_
    | fail_if_no_progress with_reducible refine hK.build ?_ rfl

theorem State.dropPending_k (hK : Loose 0x100000 K) {s : State} (h : K s) :
    K (State.dropPending s) := by
  unfold State.dropPending
  try dsimp only
  repeat' first
    | with_reducible assumption
    | with_reducible refine ite_k ?_ ?_
    | with_reducible refine foldl_k _ _ ?_ ?_
    | with_reducible refine foldl_fst_k _ _ _ ?_ ?_
    | intro _ _ _
    | split
    | refine fst_k (by with_reducible assumption) ?_
    | fail_if_no_progress with_reducible refine hK.build ?_ rfl

theorem State.journalCancel_k (hK : Loose 0xde000400000000000000000000000000000000000000000000000000000000000000000000000000000000000000000000000000000000100000100000c00 K) {s : State} (h : K s) (c : Change) :
    K (State.journalCancel s c) := by
  unfold State.journalCancel
  try dsimp only
  repeat' first
    | with_reducible assumption
    | with_reducible refine State.journal_k (hK.mono (by decide)) ?_ _ _ _ _
    | split
    | refine fst_k (by with_reducible assumption) ?_
    | fail_if_no_progress with_reducible refine hK.build ?_ rfl

theorem State.freeScribe_k (hK : Loose 0x1000000 K) {s : State} (h : K s) :
    K (State.freeScribe s) := by
  unfold State.freeScribe
  try dsimp only
  repeat' first
    | with_reducible assumption
    | fail_if_no_progress with_reducible refine hK.build ?_ rfl

theorem State.reportFail_k (hK : Loose 0x3b800000000000000000000000000000000000000000000000000190f22001000000000000000000000000000000000000000000000000000000000000000000c00 K) {s : State} (h : K s) (c : Change) (f : Failure) :
    K (State.reportFail s c f) := by
  unfold State.reportFail
  try dsimp only
  repeat' first
    | with_reducible assumption
    | decide
    | rfl
    | (dsimp only [Ev.plus]; decide)
    | (show regOk _ _ = true; split <;> decide)
    | with_reducible refine State.setFld_k hK ?_ _ _ _ ?_
    | with_reducible refine State.setFlag_k hK ?_ _ _ _ ?_
    | with_reducible refine State.latch_k hK (by decide) ?_ _ _ ?_
    | with_reducible refine State.baseRefused_k (hK.mono (by decide)) ?_ _ _
    | with_reducible refine State.journal_k (hK.mono (by decide)) ?_ _ _ _ _
    | split
    | refine fst_k (by with_reducible assumption) ?_
    | fail_if_no_progress with_reducible refine hK.build ?_ rfl

theorem State.failChange_k (hK : Loose 0x3b8000de000400000000000000000000000000000000000000000190f22001000000000000000000000000000000000000000000000000000000100000101110c00 K) {s : State} (h : K s) (c : Change) (f : Failure) :
    K (State.failChange s c f) := by
  unfold State.failChange
  try dsimp only
  repeat' first
    | with_reducible assumption
    | with_reducible refine State.withdraw_k (hK.mono (by decide)) ?_ _
    | with_reducible refine State.journalCancel_k (hK.mono (by decide)) ?_ _
    | with_reducible refine State.reportFail_k (hK.mono (by decide)) ?_ _ _
    | with_reducible refine State.freeScribe_k (hK.mono (by decide)) ?_ 
    | with_reducible refine State.dropPending_k (hK.mono (by decide)) ?_
    | with_reducible refine ite_k ?_ ?_
    | with_reducible refine foldl_k _ _ ?_ ?_
    | with_reducible refine foldl_fst_k _ _ _ ?_ ?_
    | intro _ _ _
    | split
    | refine fst_k (by with_reducible assumption) ?_
    | fail_if_no_progress with_reducible refine hK.build ?_ rfl

theorem State.queueList_k (hK : Loose 0xbe0000000000000000000000000000000000000000000000000000000000000000002000000 K) {s : State} (h : K s) (j : Nat) :
    K (State.queueList s j) := by
  unfold State.queueList
  try dsimp only
  repeat' first
    | with_reducible assumption
    | decide
    | rfl
    | (dsimp only [Ev.plus]; decide)
    | (show regOk _ _ = true; split <;> decide)
    | with_reducible refine State.setFld_k hK ?_ _ _ _ ?_
    | with_reducible refine State.setFlag_k hK ?_ _ _ _ ?_
    | fail_if_no_progress with_reducible refine hK.build ?_ rfl

theorem State.journalChange_k (hK : Loose 0xde000400000000000000000000000000000000000000000000000000000000000000000000000000000000000000000000000000000000100000101000c00 K) {s : State} (h : K s) (c : Change) :
    K (State.journalChange s c) := by
  unfold State.journalChange
  try dsimp only
  repeat' first
    | with_reducible assumption
    | with_reducible refine State.journal_k (hK.mono (by decide)) ?_ _ _ _ _
    | with_reducible refine ite_k ?_ ?_
    | split
    | refine fst_k (by with_reducible assumption) ?_
    | fail_if_no_progress with_reducible refine hK.build ?_ rfl

theorem State.showTick_k (hK : Loose 0x1000000000000000000000000000000000000000000000000000000000000000000000000000 K) {s : State} (h : K s) (c : Change) :
    K (State.showTick s c) := by
  unfold State.showTick
  try dsimp only
  repeat' first
    | with_reducible assumption
    | decide
    | rfl
    | (dsimp only [Ev.plus]; decide)
    | (show regOk _ _ = true; split <;> decide)
    | with_reducible refine State.setFld_k hK ?_ _ _ _ ?_
    | split
    | refine fst_k (by with_reducible assumption) ?_
    | fail_if_no_progress with_reducible refine hK.build ?_ rfl

theorem State.fixFrame_k (hK : Loose 0x3b8000de000400000000000000000000000000000000000000000191f22001000000000000000000000000000000000000000000000000000000100000101110c00 K) {s : State} (h : K s) (c : Change) :
    K (State.fixFrame s c) := by
  unfold State.fixFrame
  try dsimp only
  repeat' first
    | with_reducible assumption
    | with_reducible refine State.failChange_k (hK.mono (by decide)) ?_ _ _
    | with_reducible refine State.showTick_k (hK.mono (by decide)) ?_ _
    | with_reducible refine State.journalChange_k (hK.mono (by decide)) ?_ _
    | with_reducible refine ite_k ?_ ?_
    | split
    | refine fst_k (by with_reducible assumption) ?_
    | fail_if_no_progress with_reducible refine hK.build ?_ rfl

theorem State.acceptApply_k (hK : Loose 0x3b8000de000400000000000000000000000000000000000000000191fe2001000000000000000000000000000000000000000000000000000000100000103110c00 K) {s : State} (h : K s) (j : Nat) (asap : Bool) :
    K (State.acceptApply s j asap) := by
  unfold State.acceptApply
  try dsimp only
  repeat' first
    | with_reducible assumption
    | decide
    | rfl
    | (dsimp only [Ev.plus]; decide)
    | (show regOk _ _ = true; split <;> decide)
    | with_reducible refine State.setFlag_k hK ?_ _ _ _ ?_
    | with_reducible refine State.setFld_k hK ?_ _ _ _ ?_
    | with_reducible refine State.fixFrame_k (hK.mono (by decide)) ?_ _
    | with_reducible refine ite_k ?_ ?_
    | split
    | refine fst_k (by with_reducible assumption) ?_
    | fail_if_no_progress with_reducible refine hK.build ?_ rfl

theorem State.abortList_k (hK : Loose 0x3b8000de000400000000000000000000000000000000000000000190f22001000000000000000000000000000000000000000000000000000000100000103110c00 K) {s : State} (h : K s) (j : Nat) :
    K (State.abortList s j) := by
  unfold State.abortList
  try dsimp only
  repeat' first
    | with_reducible assumption
    | with_reducible refine State.failChange_k (hK.mono (by decide)) ?_ _ _
    | with_reducible refine State.reportFail_k (hK.mono (by decide)) ?_ _ _
    | with_reducible refine State.dropPending_k (hK.mono (by decide)) ?_
    | split
    | refine fst_k (by with_reducible assumption) ?_
    | with_reducible refine ite_k ?_ ?_
    | with_reducible refine foldl_k _ _ ?_ ?_
    | with_reducible refine foldl_fst_k _ _ _ ?_ ?_
    | intro _ _ _
    | fail_if_no_progress with_reducible refine hK.build ?_ rfl

theorem State.cutCommand_k (hK : Loose 0x3b8000de000400000000000000000000000000000000000000000191fe2001000000000000000000000000000000000000000000000000000000100000103110c00 K) {s : State} (h : K s) (w : Nat) :
    K (State.cutCommand s w) := by
  unfold State.cutCommand
  try dsimp only
  repeat' first
    | with_reducible assumption
    | with_reducible refine State.refuseCmd_k (hK.mono (by decide)) ?_ 
    | with_reducible refine State.queueList_k (hK.mono (by decide)) ?_ _
    | with_reducible refine State.acceptApply_k (hK.mono (by decide)) ?_ _ _
    | with_reducible refine State.abortList_k (hK.mono (by decide)) ?_ _
    | with_reducible refine ite_k ?_ ?_
    | split
    | refine fst_k (by with_reducible assumption) ?_

theorem State.showCompiling_k (hK : Loose 0x18020001000000000000000000000000000000000000000000000000000000000000000000000 K) {s : State} (h : K s) (c : Change) :
    K (State.showCompiling s c) := by
  unfold State.showCompiling
  try dsimp only
  repeat' first
    | with_reducible assumption
    | decide
    | rfl
    | (dsimp only [Ev.plus]; decide)
    | (show regOk _ _ = true; split <;> decide)
    | with_reducible refine State.setFld_k hK ?_ _ _ _ ?_
    | with_reducible refine State.journal_k (hK.mono (by decide)) ?_ _ _ _ _
    | split
    | refine fst_k (by with_reducible assumption) ?_
    | fail_if_no_progress with_reducible refine hK.build ?_ rfl

theorem State.startCompile_k (hK : Loose 0x18020001000000000000000000000000000000000000000000000000000000000000001000000 K) {s : State} (h : K s) (c : Change) :
    K (State.startCompile s c) := by
  unfold State.startCompile
  try dsimp only
  repeat' first
    | with_reducible assumption
    | with_reducible refine State.showCompiling_k (hK.mono (by decide)) ?_ _
    | fail_if_no_progress with_reducible refine hK.build ?_ rfl

theorem execCompileStart_k (hK : Loose 0x18020001000000000000000000000000000000000000000000000000000000000000003000000 K) {s : State} (h : K s) :
    ∃ z, execCompileStart s = .next z ∧ K z := by
  unfold execCompileStart
  refine ⟨_, rfl, ?_⟩
  try dsimp only
  repeat' first
    | with_reducible assumption
    | with_reducible refine State.startCompile_k (hK.mono (by decide)) ?_ _
    | with_reducible refine ite_k ?_ ?_
    | split
    | refine fst_k (by with_reducible assumption) ?_
    | fail_if_no_progress with_reducible refine hK.build ?_ rfl

theorem State.showArmed_k (hK : Loose 0x50022004000000000000000000000000000000000000000000000000000000000000000000c00 K) {s : State} (h : K s) (c : Change) :
    K (State.showArmed s c) := by
  unfold State.showArmed
  try dsimp only
  repeat' first
    | with_reducible assumption
    | decide
    | rfl
    | (dsimp only [Ev.plus]; decide)
    | (show regOk _ _ = true; split <;> decide)
    | with_reducible refine State.setFld_k hK ?_ _ _ _ ?_
    | with_reducible refine State.latch_k hK (by decide) ?_ _ _ ?_
    | with_reducible refine State.journal_k (hK.mono (by decide)) ?_ _ _ _ _
    | split
    | refine fst_k (by with_reducible assumption) ?_
    | fail_if_no_progress with_reducible refine hK.build ?_ rfl

theorem State.addPending_k (hK : Loose 0x100000 K) {s : State} (h : K s) (c : Change) :
    K (State.addPending s c) := by
  unfold State.addPending
  try dsimp only
  repeat' first
    | with_reducible assumption
    | with_reducible refine ite_k ?_ ?_
    | with_reducible refine foldl_k _ _ ?_ ?_
    | with_reducible refine foldl_fst_k _ _ _ ?_ ?_
    | intro _ _ _
    | split
    | refine fst_k (by with_reducible assumption) ?_
    | fail_if_no_progress with_reducible refine hK.build ?_ rfl

theorem execCompileDone_k (hK : Loose 0x10000000000000000000000000000000000003b8000de0004000000000000000000000000000000000000000001d1f22005000000000000000000000000000000000000000000000000000000100000101130c00 K) {s : State} (h : K s) :
    ∃ z, execCompileDone s = .next z ∧ K z := by
  unfold execCompileDone
  refine ⟨_, rfl, ?_⟩
  try dsimp only
  repeat' first
    | with_reducible assumption
    | with_reducible refine State.showArmed_k (hK.mono (by decide)) ?_ _
    | with_reducible refine State.addPending_k (hK.mono (by decide)) ?_ _
    | with_reducible refine State.fixFrame_k (hK.mono (by decide)) ?_ _
    | with_reducible refine State.failChange_k (hK.mono (by decide)) ?_ _ _
    | with_reducible refine State.journalChange_k (hK.mono (by decide)) ?_ _
    | with_reducible refine State.stampTaps_k (hK.mono (by decide)) ?_ _
    | with_reducible refine State.readUnits_k (hK.mono (by decide)) ?_ _
    | with_reducible refine ite_k ?_ ?_
    | split
    | refine fst_k (by with_reducible assumption) ?_
    | with_reducible refine foldl_k _ _ ?_ ?_
    | with_reducible refine foldl_fst_k _ _ _ ?_ ?_
    | intro _ _ _
    | fail_if_no_progress with_reducible refine hK.build ?_ rfl

theorem execRecompile_k (hK : Loose 0x18022001000000000000000000000000000000000000000000000000000000000000001010c00 K) {s : State} (h : K s) :
    ∃ z, execRecompile s = .next z ∧ K z := by
  unfold execRecompile
  refine ⟨_, rfl, ?_⟩
  try dsimp only
  repeat' first
    | with_reducible assumption
    | decide
    | rfl
    | (dsimp only [Ev.plus]; decide)
    | (show regOk _ _ = true; split <;> decide)
    | with_reducible refine State.withdraw_k (hK.mono (by decide)) ?_ _
    | with_reducible refine State.startCompile_k (hK.mono (by decide)) ?_ _
    | with_reducible refine State.latch_k hK (by decide) ?_ _ _ ?_
    | with_reducible refine ite_k ?_ ?_
    | split
    | refine fst_k (by with_reducible assumption) ?_
    | fail_if_no_progress with_reducible refine hK.build ?_ rfl

theorem State.showApplying_k (hK : Loose 0x10020003000000000000000000000000000000000000000000000000000000000000000000000 K) {s : State} (h : K s) (c : Change) :
    K (State.showApplying s c) := by
  unfold State.showApplying
  try dsimp only
  repeat' first
    | with_reducible assumption
    | decide
    | rfl
    | (dsimp only [Ev.plus]; decide)
    | (show regOk _ _ = true; split <;> decide)
    | with_reducible refine State.setFld_k hK ?_ _ _ _ ?_
    | with_reducible refine State.journal_k (hK.mono (by decide)) ?_ _ _ _ _
    | split
    | refine fst_k (by with_reducible assumption) ?_
    | fail_if_no_progress with_reducible refine hK.build ?_ rfl

theorem execApplyStart_k (hK : Loose 0x3b8000de000400000000000000000000000000000000000000000190f22003000000000000000000000000000000000000000000000000000000100000101310c00 K) {s : State} (h : K s) :
    ∃ z, execApplyStart s = .next z ∧ K z := by
  unfold execApplyStart
  refine ⟨_, rfl, ?_⟩
  try dsimp only
  repeat' first
    | with_reducible assumption
    | with_reducible refine State.showApplying_k (hK.mono (by decide)) ?_ _
    | with_reducible refine State.failChange_k (hK.mono (by decide)) ?_ _ _
    | with_reducible refine State.stampTick_k (hK.mono (by decide)) ?_ _
    | with_reducible refine ite_k ?_ ?_
    | split
    | refine fst_k (by with_reducible assumption) ?_
    | with_reducible refine foldl_k _ _ ?_ ?_
    | with_reducible refine foldl_fst_k _ _ _ ?_ ?_
    | intro _ _ _
    | fail_if_no_progress with_reducible refine hK.build ?_ rfl

theorem State.followMembers_k (hK : Loose 0x8000000000000000000000000000000000000000000000000100c00 K) {s : State} (h : K s) (old : Schedule) (recs : List EditRec) :
    K (State.followMembers s old recs) := by
  unfold State.followMembers
  try dsimp only
  repeat' first
    | with_reducible assumption
    | decide
    | rfl
    | (dsimp only [Ev.plus]; decide)
    | (show regOk _ _ = true; split <;> decide)
    | with_reducible refine State.latch_k hK (by decide) ?_ _ _ ?_
    | with_reducible refine State.updLink_k (hK.mono (by decide)) ?_ _ _
    | with_reducible refine State.joinMember_k (hK.mono (by decide)) ?_ _
    | with_reducible refine ite_k ?_ ?_
    | with_reducible refine foldl_k _ _ ?_ ?_
    | with_reducible refine foldl_fst_k _ _ _ ?_ ?_
    | intro _ _ _
    | split
    | refine fst_k (by with_reducible assumption) ?_
    | fail_if_no_progress with_reducible refine hK.build ?_ rfl

theorem State.applyChunk_k (hK : Loose 0xde00040000000000000000000000000000051a000000040200000002000000400000008000000000000000000000000000000000000000100000161118c00 K) {s : State} (h : K s) (c : Change) (k : Nat) :
    K (State.applyChunk s c k) := by
  unfold State.applyChunk
  try dsimp only
  repeat' first
    | with_reducible assumption
    | decide
    | rfl
    | (dsimp only [Ev.plus]; decide)
    | (show regOk _ _ = true; split <;> decide)
    | with_reducible refine State.journal_k (hK.mono (by decide)) ?_ _ _ _ _
    | with_reducible refine State.countDual_k (hK.mono (by decide)) ?_ _
    | with_reducible refine State.clearSide_k (hK.mono (by decide)) ?_ _
    | with_reducible refine State.clearMoved_k (hK.mono (by decide)) ?_ _ _ _
    | with_reducible refine State.followMembers_k (hK.mono (by decide)) ?_ _ _
    | with_reducible refine State.followGroups_k (hK.mono (by decide)) ?_ _ _
    | with_reducible refine State.releaseTaps_k (hK.mono (by decide)) ?_ _ _
    | with_reducible refine State.settleTaps_k (hK.mono (by decide)) ?_ 
    | with_reducible refine State.latchIf_k hK (by decide) ?_ _ _ _ ?_
    | with_reducible refine State.setFld_k hK ?_ _ _ _ ?_
    | with_reducible refine State.clearMoved_k (hK.mono (by decide)) ?_ _ _ _
    | with_reducible refine State.noteApply_k (hK.mono (by decide)) ?_ _
    | with_reducible refine State.watchOver_k (hK.mono (by decide)) ?_
    | with_reducible refine ite_k ?_ ?_
    | with_reducible refine foldl_k _ _ ?_ ?_
    | with_reducible refine foldl_fst_k _ _ _ ?_ ?_
    | intro _ _ _
    | split
    | refine fst_k (by with_reducible assumption) ?_
    | fail_if_no_progress with_reducible refine hK.build ?_ rfl

theorem execApplyTick_k (hK : Loose 0xde00040000000000000000000000000000051a000000040200000002000000400000008000000000000000000000000000000000000000100000161118c00 K) {s : State} (h : K s) :
    ∃ z, execApplyTick s = .next z ∧ K z := by
  unfold execApplyTick
  refine ⟨_, rfl, ?_⟩
  try dsimp only
  repeat' first
    | with_reducible assumption
    | with_reducible refine State.applyChunk_k (hK.mono (by decide)) ?_ _ _
    | with_reducible refine State.stampTick_k (hK.mono (by decide)) ?_ _
    | with_reducible refine ite_k ?_ ?_
    | split
    | refine fst_k (by with_reducible assumption) ?_
    | with_reducible refine foldl_k _ _ ?_ ?_
    | with_reducible refine foldl_fst_k _ _ _ ?_ ?_
    | intro _ _ _
    | fail_if_no_progress with_reducible refine hK.build ?_ rfl

theorem execChunkApply_k (hK : Loose 0xde00040000000000000000000000000000051a000000040200000002000000400000008000000000000000000000000000000000000000100000161118c00 K) {s : State} (h : K s) :
    ∃ z, execChunkApply s = .next z ∧ K z := by
  unfold execChunkApply
  refine ⟨_, rfl, ?_⟩
  try dsimp only
  repeat' first
    | with_reducible assumption
    | with_reducible refine State.applyChunk_k (hK.mono (by decide)) ?_ _ _
    | with_reducible refine State.stampTick_k (hK.mono (by decide)) ?_ _
    | with_reducible refine ite_k ?_ ?_
    | split
    | refine fst_k (by with_reducible assumption) ?_
    | with_reducible refine foldl_k _ _ ?_ ?_
    | with_reducible refine foldl_fst_k _ _ _ ?_ ?_
    | intro _ _ _
    | fail_if_no_progress with_reducible refine hK.build ?_ rfl

theorem execReplaceStep_k (hK : Loose 0xde00040000000000000000000000000000051a000000040200000002000000400000008000000000000000000000000000000000000000100000161118c00 K) {s : State} (h : K s) :
    ∃ z, execReplaceStep s = .next z ∧ K z := by
  unfold execReplaceStep
  refine ⟨_, rfl, ?_⟩
  try dsimp only
  repeat' first
    | with_reducible assumption
    | with_reducible refine State.applyChunk_k (hK.mono (by decide)) ?_ _ _
    | with_reducible refine State.stampTick_k (hK.mono (by decide)) ?_ _
    | with_reducible refine ite_k ?_ ?_
    | split
    | refine fst_k (by with_reducible assumption) ?_
    | with_reducible refine foldl_k _ _ ?_ ?_
    | with_reducible refine foldl_fst_k _ _ _ ?_ ?_
    | intro _ _ _
    | fail_if_no_progress with_reducible refine hK.build ?_ rfl

theorem State.showDone_k (hK : Loose 0x10022001200000000000000000000000000000000000000000000000000000000000400000c00 K) {s : State} (h : K s) (c : Change) :
    K (State.showDone s c) := by
  unfold State.showDone
  try dsimp only
  repeat' first
    | with_reducible assumption
    | decide
    | rfl
    | (dsimp only [Ev.plus]; decide)
    | (show regOk _ _ = true; split <;> decide)
    | with_reducible refine State.setFld_k hK ?_ _ _ _ ?_
    | with_reducible refine State.latch_k hK (by decide) ?_ _ _ ?_
    | with_reducible refine State.updRaise_k (hK.mono (by decide)) ?_ _
    | with_reducible refine State.journal_k (hK.mono (by decide)) ?_ _ _ _ _
    | split
    | refine fst_k (by with_reducible assumption) ?_
    | fail_if_no_progress with_reducible refine hK.build ?_ rfl

theorem execChangeDone_k (hK : Loose 0x10022001200000000000000000000000000000000000000000000000000000000000401010c00 K) {s : State} (h : K s) :
    ∃ z, execChangeDone s = .next z ∧ K z := by
  unfold execChangeDone
  refine ⟨_, rfl, ?_⟩
  try dsimp only
  repeat' first
    | with_reducible assumption
    | with_reducible refine State.showDone_k (hK.mono (by decide)) ?_ _
    | with_reducible refine State.freeScribe_k (hK.mono (by decide)) ?_ 
    | with_reducible refine State.stampTick_k (hK.mono (by decide)) ?_ _
    | with_reducible refine ite_k ?_ ?_
    | split
    | refine fst_k (by with_reducible assumption) ?_
    | with_reducible refine foldl_k _ _ ?_ ?_
    | with_reducible refine foldl_fst_k _ _ _ ?_ ?_
    | intro _ _ _
    | fail_if_no_progress with_reducible refine hK.build ?_ rfl

theorem State.sceneCommand_k (hK : Loose 0x2000000000000000000000000000000000000000000000000000000000000000004000c00 K) {s : State} (h : K s) (w : Nat) :
    K (State.sceneCommand s w) := by
  unfold State.sceneCommand
  try dsimp only
  repeat' first
    | with_reducible assumption
    | with_reducible refine State.refuseCmd_k (hK.mono (by decide)) ?_ 
    | with_reducible refine ite_k ?_ ?_
    | fail_if_no_progress with_reducible refine hK.build ?_ rfl

theorem execSceneDefectTrigger_k (hK : Loose 0x8000000000000000000000000000000000000000000000000000000000000000000000004000000 K) {s : State} (h : K s) (k : Fin 256) :
    ∃ z, execSceneDefectTrigger k s = .next z ∧ K z := by
  unfold execSceneDefectTrigger
  refine ⟨_, rfl, ?_⟩
  try dsimp only
  repeat' first
    | with_reducible assumption
    | decide
    | rfl
    | (dsimp only [Ev.plus]; decide)
    | (show regOk _ _ = true; split <;> decide)
    | (cases ‹Defect› <;> decide)
    | with_reducible refine State.setFlag_k hK ?_ _ _ _ ?_
    | with_reducible refine ite_k ?_ ?_
    | fail_if_no_progress with_reducible refine hK.build ?_ rfl

theorem execSceneQueue_k (hK : Loose 0x200000000000000000000000000000000000000000000000000000000000000000c000c00 K) {s : State} (h : K s) :
    ∃ z, execSceneQueue s = .next z ∧ K z := by
  unfold execSceneQueue
  refine ⟨_, rfl, ?_⟩
  try dsimp only
  repeat' first
    | with_reducible assumption
    | decide
    | rfl
    | (dsimp only [Ev.plus]; decide)
    | (show regOk _ _ = true; split <;> decide)
    | with_reducible refine State.latch_k hK (by decide) ?_ _ _ ?_
    | with_reducible refine ite_k ?_ ?_
    | split
    | refine fst_k (by with_reducible assumption) ?_
    | fail_if_no_progress with_reducible refine hK.build ?_ rfl

theorem State.startScene_k (hK : Loose 0x3b800000000000000000000000000000000000000000000000000198f22001000000000000000000000000000000000000000000000000000000000000009000c00 K) {s : State} (h : K s) :
    K (State.startScene s) := by
  unfold State.startScene
  try dsimp only
  repeat' first
    | with_reducible assumption
    | decide
    | rfl
    | (dsimp only [Ev.plus]; decide)
    | (show regOk _ _ = true; split <;> decide)
    | with_reducible refine State.setFld_k hK ?_ _ _ _ ?_
    | with_reducible refine State.reportFail_k (hK.mono (by decide)) ?_ _ _
    | with_reducible refine State.startCompile_k (hK.mono (by decide)) ?_ _
    | with_reducible refine ite_k ?_ ?_
    | split
    | refine fst_k (by with_reducible assumption) ?_
    | fail_if_no_progress with_reducible refine hK.build ?_ rfl

theorem execSceneStart_k (hK : Loose 0x3b8000de000400000000000000000000000000000000000000000198f2200100000000000000000000000000000000000000000000000000000010000010b010c00 K) {s : State} (h : K s) :
    ∃ z, execSceneStart s = .next z ∧ K z := by
  unfold execSceneStart
  refine ⟨_, rfl, ?_⟩
  try dsimp only
  repeat' first
    | with_reducible assumption
    | decide
    | rfl
    | (dsimp only [Ev.plus]; decide)
    | (show regOk _ _ = true; split <;> decide)
    | with_reducible refine State.startScene_k (hK.mono (by decide)) ?_ 
    | with_reducible refine State.withdraw_k (hK.mono (by decide)) ?_ _
    | with_reducible refine State.journalCancel_k (hK.mono (by decide)) ?_ _
    | with_reducible refine State.freeScribe_k (hK.mono (by decide)) ?_ 
    | with_reducible refine State.setFld_k hK ?_ _ _ _ ?_
    | with_reducible refine ite_k ?_ ?_
    | split
    | refine fst_k (by with_reducible assumption) ?_
    | fail_if_no_progress with_reducible refine hK.build ?_ rfl

theorem State.replaceCommand_k (hK : Loose 0x2001000000000000000000000000000000000000000000000000000000000000002000c00 K) {s : State} (h : K s) :
    K (State.replaceCommand s) := by
  unfold State.replaceCommand
  try dsimp only
  repeat' first
    | with_reducible assumption
    | decide
    | rfl
    | (dsimp only [Ev.plus]; decide)
    | (show regOk _ _ = true; split <;> decide)
    | with_reducible refine State.refuseCmd_k (hK.mono (by decide)) ?_ 
    | with_reducible refine State.setFld_k hK ?_ _ _ _ ?_
    | with_reducible refine ite_k ?_ ?_
    | split
    | refine fst_k (by with_reducible assumption) ?_
    | fail_if_no_progress with_reducible refine hK.build ?_ rfl

theorem State.stageWrite_k (hK : Loose 0x2000000000000000000000000000000000000000000000000000000000000000000000c00 K) {s : State} (h : K s) (j : Nat) (f : State → State) (hf : ∀ t, K t → K (f t)) :
    K (s.stageWrite j f) :=
  ite_k (hf _ h) (State.latch_k hK (by decide) h _ _ (by decide))

theorem State.readMrec_k (hK : Loose 0x10000000 K) {s : State} (h : K s) (m : Nat) :
    K (State.readMrec s m).1 := by
  unfold State.readMrec
  try dsimp only
  repeat' first
    | with_reducible assumption
    | fail_if_no_progress with_reducible refine hK.build ?_ rfl

end Sys2Proof.Machine
end

