-- ==== Sys2Proof/Laws/FootPlumb.lean ====
section
/-! SUPPORT. What the operations and commands of Machine/Plumb.lean may change (Laws/Loose.lean). -/

set_option Elab.async false
set_option linter.unusedTactic false
set_option linter.unreachableTactic false

namespace Sys2Proof.Machine

variable {K : State → Prop}

theorem State.updPlumb_k (hK : Loose 0x80000000 K) {s : State} (h : K s) (f : Plumb → Plumb) :
    K (State.updPlumb s f) := by
  unfold State.updPlumb
  try dsimp only
  repeat' first
    | with_reducible assumption
    | fail_if_no_progress with_reducible refine hK.build ?_ rfl

theorem State.updRef_k (hK : Loose 0x80000000 K) {s : State} (h : K s) (i : Nat) (f : RefSt → RefSt) :
    K (State.updRef s i f) := by
  unfold State.updRef
  try dsimp only
  repeat' first
    | with_reducible assumption
    | with_reducible refine State.updPlumb_k (hK.mono (by decide)) ?_ _
    | fail_if_no_progress with_reducible refine hK.build ?_ rfl

theorem State.tickMref_k (hK : Loose 0x380000000000000000000000000000000000000000000000000000000000000000000000000000000000000000000000080000100 K) {s : State} (h : K s) :
    K (State.tickMref s) := by
  unfold State.tickMref
  try dsimp only
  repeat' first
    | with_reducible assumption
    | decide
    | rfl
    | (dsimp only [Ev.plus]; decide)
    | (show regOk _ _ = true; split <;> decide)
    | with_reducible refine State.setFlag_k hK ?_ _ _ _ ?_
    | with_reducible refine State.setFld_k hK ?_ _ _ _ ?_
    | with_reducible refine State.setIfld_k hK ?_ _ _ _ ?_
    | with_reducible refine State.drawn_k (hK.mono (by decide)) ?_ 
    | with_reducible refine State.updPlumb_k (hK.mono (by decide)) ?_ _
    | split
    | refine fst_k (by with_reducible assumption) ?_
    | with_reducible refine ite_k ?_ ?_
    | with_reducible refine foldl_k _ _ ?_ ?_
    | with_reducible refine foldl_fst_k _ _ _ ?_ ?_
    | intro _ _ _
    | fail_if_no_progress with_reducible refine hK.build ?_ rfl

theorem State.keepEdge_k (hK : Loose 0x80000000 K) {s : State} (h : K s) (i : Nat) (x : Int) :
    K (State.keepEdge s i x) := by
  unfold State.keepEdge
  try dsimp only
  repeat' first
    | with_reducible assumption
    | with_reducible refine State.updRef_k (hK.mono (by decide)) ?_ _ _
    | with_reducible refine ite_k ?_ ?_
    | with_reducible refine foldl_k _ _ ?_ ?_
    | with_reducible refine foldl_fst_k _ _ _ ?_ ?_
    | intro _ _ _
    | split
    | refine fst_k (by with_reducible assumption) ?_

theorem State.showFreq_k (hK : Loose 0x100000000000000000000000000000000000000000000000000000000000000000000000000000000000000000000000000000000000000 K) {s : State} (h : K s) (i : Nat) (mon : RefMon) :
    K (State.showFreq s i mon) := by
  unfold State.showFreq
  try dsimp only
  repeat' first
    | with_reducible assumption
    | decide
    | rfl
    | (dsimp only [Ev.plus]; decide)
    | (show regOk _ _ = true; split <;> decide)
    | (cases mon <;> first | decide | (dsimp only [monFld, monEv]; decide))
    | with_reducible refine State.setFld_k hK ?_ _ _ _ ?_
    | split
    | refine fst_k (by with_reducible assumption) ?_
    | fail_if_no_progress with_reducible refine hK.build ?_ rfl

theorem State.startWait_k (hK : Loose 0x80400000000000000000000000000000000000000000000000000000000000000000000000000000000000000000000000000080000000 K) {s : State} (h : K s) (i : Nat) :
    K (State.startWait s i) := by
  unfold State.startWait
  try dsimp only
  repeat' first
    | with_reducible assumption
    | decide
    | rfl
    | (dsimp only [Ev.plus]; decide)
    | (show regOk _ _ = true; split <;> decide)
    | with_reducible refine State.setFld_k hK ?_ _ _ _ ?_
    | with_reducible refine State.updRef_k (hK.mono (by decide)) ?_ _ _
    | with_reducible refine ite_k ?_ ?_
    | fail_if_no_progress with_reducible refine hK.build ?_ rfl

theorem State.disqualify_k (hK : Loose 0xa0400000000000000000000000000000000000000000000000000000000000000000000000000000000000000000000000000080000c00 K) {s : State} (h : K s) (i : Nat) :
    K (State.disqualify s i) := by
  unfold State.disqualify
  try dsimp only
  repeat' first
    | with_reducible assumption
    | decide
    | rfl
    | (dsimp only [Ev.plus]; decide)
    | (show regOk _ _ = true; split <;> decide)
    | with_reducible refine State.updRef_k (hK.mono (by decide)) ?_ _ _
    | with_reducible refine State.latch_k hK (by decide) ?_ _ _ ?_
    | with_reducible refine State.startWait_k (hK.mono (by decide)) ?_ _
    | fail_if_no_progress with_reducible refine hK.build ?_ rfl

theorem State.freshRef_k (hK : Loose 0x297c00000000000000000000000000000000000000000000000000000000000000000000000000000000000000000000000000080000000 K) {s : State} (h : K s) (i : Nat) :
    K (State.freshRef s i) := by
  unfold State.freshRef
  try dsimp only
  repeat' first
    | with_reducible assumption
    | decide
    | rfl
    | (dsimp only [Ev.plus]; decide)
    | (show regOk _ _ = true; split <;> decide)
    | with_reducible refine State.setFld_k hK ?_ _ _ _ ?_
    | with_reducible refine State.setFlag_k hK ?_ _ _ _ ?_
    | with_reducible refine State.updRef_k (hK.mono (by decide)) ?_ _ _
    | split
    | refine fst_k (by with_reducible assumption) ?_
    | with_reducible refine ite_k ?_ ?_
    | with_reducible refine foldl_k _ _ ?_ ?_
    | with_reducible refine foldl_fst_k _ _ _ ?_ ?_
    | intro _ _ _

theorem State.endCapture_k (hK : Loose 0x297c00000000000000000000000000000000000000000000000000000000000000000000000000000000000000000000000000080000000 K) {s : State} (h : K s) :
    K (State.endCapture s) := by
  unfold State.endCapture
  try dsimp only
  repeat' first
    | with_reducible assumption
    | with_reducible refine State.updPlumb_k (hK.mono (by decide)) ?_ _
    | with_reducible refine State.freshRef_k (hK.mono (by decide)) ?_ _
    | with_reducible refine ite_k ?_ ?_
    | with_reducible refine foldl_k _ _ ?_ ?_
    | with_reducible refine foldl_fst_k _ _ _ ?_ ?_
    | intro _ _ _
    | split
    | refine fst_k (by with_reducible assumption) ?_

theorem execRefFailure_k (hK : Loose 0x1a1c00000000000000000000000000000000000000000000000000000000000000000000000000000000000000000000000000080000c00 K) {s : State} (h : K s) (i : RefIx) (mon : RefMon) :
    ∃ z, execRefFailure i mon s = .next z ∧ K z := by
  unfold execRefFailure
  refine ⟨_, rfl, ?_⟩
  try dsimp only
  repeat' first
    | with_reducible assumption
    | decide
    | rfl
    | (dsimp only [Ev.plus]; decide)
    | (show regOk _ _ = true; split <;> decide)
    | (cases mon <;> first | decide | (dsimp only [monFld, monEv]; decide))
    | with_reducible refine State.latchIf_k hK (by decide) ?_ _ _ _ ?_
    | with_reducible refine State.setFlag_k hK ?_ _ _ _ ?_
    | with_reducible refine State.showFreq_k (hK.mono (by decide)) ?_ _ _
    | with_reducible refine State.setFld_k hK ?_ _ _ _ ?_
    | with_reducible refine State.updRef_k (hK.mono (by decide)) ?_ _ _
    | with_reducible refine ite_k ?_ ?_
    | split
    | refine fst_k (by with_reducible assumption) ?_
    | fail_if_no_progress with_reducible refine hK.build ?_ rfl

theorem execRefHoldoffExpiry_k (hK : Loose 0xa0400000000000000000000000000000000000000000000000000000000000000000000000000000000000000000000000000080000c00 K) {s : State} (h : K s) (i : RefIx) :
    ∃ z, execRefHoldoffExpiry i s = .next z ∧ K z := by
  unfold execRefHoldoffExpiry
  refine ⟨_, rfl, ?_⟩
  try dsimp only
  repeat' first
    | with_reducible assumption
    | with_reducible refine State.disqualify_k (hK.mono (by decide)) ?_ _
    | with_reducible refine ite_k ?_ ?_

theorem State.endCoast_k (hK : Loose 0x80000000 K) {s : State} (h : K s) (i : Nat) (gathered : Int) :
    K (State.endCoast s i gathered) := by
  unfold State.endCoast
  try dsimp only
  repeat' first
    | with_reducible assumption
    | with_reducible refine State.updPlumb_k (hK.mono (by decide)) ?_ _
    | with_reducible refine ite_k ?_ ?_
    | with_reducible refine foldl_k _ _ ?_ ?_
    | with_reducible refine foldl_fst_k _ _ _ ?_ ?_
    | intro _ _ _
    | split
    | refine fst_k (by with_reducible assumption) ?_

theorem execRefConditionClear_k (hK : Loose 0x1a1c00000000000000000000000000000000000000000000000000000000000000000000000000000000000000000000000000080000000 K) {s : State} (h : K s) (i : RefIx) (mon : RefMon) (gathered : Word) :
    ∃ z, execRefConditionClear i mon gathered s = .next z ∧ K z := by
  unfold execRefConditionClear
  refine ⟨_, rfl, ?_⟩
  try dsimp only
  repeat' first
    | with_reducible assumption
    | decide
    | rfl
    | (dsimp only [Ev.plus]; decide)
    | (show regOk _ _ = true; split <;> decide)
    | (cases mon <;> first | decide | (dsimp only [monFld, monEv]; decide))
    | with_reducible refine State.setFlag_k hK ?_ _ _ _ ?_
    | with_reducible refine State.showFreq_k (hK.mono (by decide)) ?_ _ _
    | with_reducible refine State.setFld_k hK ?_ _ _ _ ?_
    | with_reducible refine State.startWait_k (hK.mono (by decide)) ?_ _
    | with_reducible refine State.endCoast_k (hK.mono (by decide)) ?_ _ _
    | with_reducible refine ite_k ?_ ?_
    | split
    | refine fst_k (by with_reducible assumption) ?_
    | with_reducible refine foldl_k _ _ ?_ ?_
    | with_reducible refine foldl_fst_k _ _ _ ?_ ?_
    | intro _ _ _

theorem execPhaseJump_k (hK : Loose 0x200b0400020000000000000000000000000000000000000000000000000000000000000000000000000000000000000000000000080000c00 K) {s : State} (h : K s) (i : RefIx) (size : Word) :
    ∃ z, execPhaseJump i size s = .next z ∧ K z := by
  unfold execPhaseJump
  refine ⟨_, rfl, ?_⟩
  try dsimp only
  repeat' first
    | with_reducible assumption
    | decide
    | rfl
    | (dsimp only [Ev.plus]; decide)
    | (show regOk _ _ = true; split <;> decide)
    | with_reducible refine State.setFld_k hK ?_ _ _ _ ?_
    | with_reducible refine State.updRef_k (hK.mono (by decide)) ?_ _ _
    | with_reducible refine State.latch_k hK (by decide) ?_ _ _ ?_
    | with_reducible refine State.setIfld_k hK ?_ _ _ _ ?_
    | with_reducible refine State.updPlumb_k (hK.mono (by decide)) ?_ _
    | with_reducible refine State.disqualify_k (hK.mono (by decide)) ?_ _
    | with_reducible refine State.startWait_k (hK.mono (by decide)) ?_ _
    | with_reducible refine ite_k ?_ ?_
    | split
    | refine fst_k (by with_reducible assumption) ?_
    | fail_if_no_progress with_reducible refine hK.build ?_ rfl

theorem execRefWtrExpiry_k (hK : Loose 0xa0400000000000000000000000000000000000000000000000000000000000000000000000000000000000000000000000000000000c00 K) {s : State} (h : K s) (i : RefIx) :
    ∃ z, execRefWtrExpiry i s = .next z ∧ K z := by
  unfold execRefWtrExpiry
  refine ⟨_, rfl, ?_⟩
  try dsimp only
  repeat' first
    | with_reducible assumption
    | decide
    | rfl
    | (dsimp only [Ev.plus]; decide)
    | (show regOk _ _ = true; split <;> decide)
    | with_reducible refine State.setFld_k hK ?_ _ _ _ ?_
    | with_reducible refine State.latch_k hK (by decide) ?_ _ _ ?_
    | with_reducible refine ite_k ?_ ?_

theorem State.setCmd_k (hK : Loose 0x3000000000000000000000000000000000000000000000000000000000000000000000000000000000000000000000000 K) {s : State} (h : K s) (act ref : Nat) :
    K (State.setCmd s act ref) := by
  unfold State.setCmd
  try dsimp only
  repeat' first
    | with_reducible assumption
    | decide
    | rfl
    | (dsimp only [Ev.plus]; decide)
    | (show regOk _ _ = true; split <;> decide)
    | with_reducible refine State.setFld_k hK ?_ _ _ _ ?_

theorem State.applyCmd_k (hK : Loose 0xb000000000000000000000000000000000000000000000000000000000000000000000000000000000000000000000c00 K) {s : State} (h : K s) (cmd ref : Nat) :
    K (State.applyCmd s cmd ref) := by
  unfold State.applyCmd
  try dsimp only
  repeat' first
    | with_reducible assumption
    | decide
    | rfl
    | (dsimp only [Ev.plus]; decide)
    | (show regOk _ _ = true; split <;> decide)
    | with_reducible refine State.setCmd_k (hK.mono (by decide)) ?_ _ _
    | with_reducible refine State.latch_k hK (by decide) ?_ _ _ ?_
    | with_reducible refine ite_k ?_ ?_

theorem State.cancelCmd_k (hK : Loose 0xb000000000000000000000000000000000000000000000000000000000000000000000000000000000000000000000c00 K) {s : State} (h : K s) :
    K (State.cancelCmd s) := by
  unfold State.cancelCmd
  try dsimp only
  repeat' first
    | with_reducible assumption
    | decide
    | rfl
    | (dsimp only [Ev.plus]; decide)
    | (show regOk _ _ = true; split <;> decide)
    | with_reducible refine State.setCmd_k (hK.mono (by decide)) ?_ _ _
    | with_reducible refine State.latch_k hK (by decide) ?_ _ _ ?_
    | with_reducible refine ite_k ?_ ?_

theorem State.tickCmd_k (hK : Loose 0xb000000000000000000000000000000000000000000000000000000000000000000000000000000000000000080000c00 K) {s : State} (h : K s) :
    K (State.tickCmd s) := by
  unfold State.tickCmd
  try dsimp only
  repeat' first
    | with_reducible assumption
    | with_reducible refine State.updPlumb_k (hK.mono (by decide)) ?_ _
    | with_reducible refine State.applyCmd_k (hK.mono (by decide)) ?_ _ _
    | with_reducible refine State.cancelCmd_k (hK.mono (by decide)) ?_ 
    | with_reducible refine ite_k ?_ ?_
    | split
    | refine fst_k (by with_reducible assumption) ?_
    | fail_if_no_progress with_reducible refine hK.build ?_ rfl

theorem State.enterPlb_k (hK : Loose 0x80b0000000000000000000000000000000000000000000000000000000000000000000000000000000000000080000c00 K) {s : State} (h : K s) (st sel : Nat) :
    K (State.enterPlb s st sel) := by
  unfold State.enterPlb
  try dsimp only
  repeat' first
    | with_reducible assumption
    | decide
    | rfl
    | (dsimp only [Ev.plus]; decide)
    | (show regOk _ _ = true; split <;> decide)
    | with_reducible refine State.latchIf_k hK (by decide) ?_ _ _ _ ?_
    | with_reducible refine State.setFld_k hK ?_ _ _ _ ?_
    | with_reducible refine State.setFlag_k hK ?_ _ _ _ ?_
    | with_reducible refine State.updPlumb_k (hK.mono (by decide)) ?_ _
    | with_reducible refine ite_k ?_ ?_
    | split
    | refine fst_k (by with_reducible assumption) ?_
    | with_reducible refine foldl_k _ _ ?_ ?_
    | with_reducible refine foldl_fst_k _ _ _ ?_ ?_
    | intro _ _ _
    | fail_if_no_progress with_reducible refine hK.build ?_ rfl

theorem State.acquire_k (hK : Loose 0x4000000080b0000000000000000000000000000000000000000000000000000000000000000000000000000000000000480000d00 K) {s : State} (h : K s) (r : Nat) :
    K (State.acquire s r) := by
  unfold State.acquire
  try dsimp only
  repeat' first
    | with_reducible assumption
    | decide
    | rfl
    | (dsimp only [Ev.plus]; decide)
    | (show regOk _ _ = true; split <;> decide)
    | with_reducible refine State.keepEdge_k (hK.mono (by decide)) ?_ _ _
    | with_reducible refine State.enterPlb_k (hK.mono (by decide)) ?_ _ _
    | with_reducible refine State.setFld_k hK ?_ _ _ _ ?_
    | with_reducible refine State.drawn_k (hK.mono (by decide)) ?_ 
    | with_reducible refine State.updPlumb_k (hK.mono (by decide)) ?_ _
    | with_reducible refine ite_k ?_ ?_
    | with_reducible refine foldl_k _ _ ?_ ?_
    | with_reducible refine foldl_fst_k _ _ _ ?_ ?_
    | intro _ _ _
    | split
    | refine fst_k (by with_reducible assumption) ?_
    | fail_if_no_progress with_reducible refine hK.build ?_ rfl

theorem State.plbLose_k (hK : Loose 0x80b0000000000000000000000000000000000000000000000000000000000000000000000000000000000000080000c00 K) {s : State} (h : K s) :
    K (State.plbLose s) := by
  unfold State.plbLose
  try dsimp only
  repeat' first
    | with_reducible assumption
    | with_reducible refine State.enterPlb_k (hK.mono (by decide)) ?_ _ _
    | with_reducible refine ite_k ?_ ?_

theorem State.tickSelect_k (hK : Loose 0x297c004000000080b0000000000000000000000000000000000000000000000000000000000000000000000000000000000000480000d00 K) {s : State} (h : K s) :
    K (State.tickSelect s) := by
  unfold State.tickSelect
  try dsimp only
  repeat' first
    | with_reducible assumption
    | decide
    | rfl
    | (dsimp only [Ev.plus]; decide)
    | (show regOk _ _ = true; split <;> decide)
    | with_reducible refine State.enterPlb_k (hK.mono (by decide)) ?_ _ _
    | with_reducible refine State.plbLose_k (hK.mono (by decide)) ?_ 
    | with_reducible refine State.latchIf_k hK (by decide) ?_ _ _ _ ?_
    | with_reducible refine State.acquire_k (hK.mono (by decide)) ?_ _
    | with_reducible refine State.endCapture_k (hK.mono (by decide)) ?_
    | with_reducible refine ite_k ?_ ?_
    | split
    | refine fst_k (by with_reducible assumption) ?_
    | with_reducible refine foldl_k _ _ ?_ ?_
    | with_reducible refine foldl_fst_k _ _ _ ?_ ?_
    | intro _ _ _
    | fail_if_no_progress with_reducible refine hK.build ?_ rfl

theorem State.tickQlOut_k (hK : Loose 0x8800000000000000000000000000000000000000000000000000000000000000000000000000000000000000080000c00 K) {s : State} (h : K s) :
    K (State.tickQlOut s) := by
  unfold State.tickQlOut
  try dsimp only
  repeat' first
    | with_reducible assumption
    | decide
    | rfl
    | (dsimp only [Ev.plus]; decide)
    | (show regOk _ _ = true; split <;> decide)
    | with_reducible refine State.updPlumb_k (hK.mono (by decide)) ?_ _
    | with_reducible refine State.setFld_k hK ?_ _ _ _ ?_
    | with_reducible refine State.latchIf_k hK (by decide) ?_ _ _ _ ?_
    | with_reducible refine ite_k ?_ ?_
    | split
    | refine fst_k (by with_reducible assumption) ?_
    | fail_if_no_progress with_reducible refine hK.build ?_ rfl

theorem State.tickQl_k (hK : Loose 0x28000000000000000000000000000000000000000000000000000000000000000000000000000000000000000000000000000000000c00 K) {s : State} (h : K s) :
    K (State.tickQl s) := by
  unfold State.tickQl
  try dsimp only
  repeat' first
    | with_reducible assumption
    | decide
    | rfl
    | (dsimp only [Ev.plus]; decide)
    | (show regOk _ _ = true; split <;> decide)
    | with_reducible refine State.setFld_k hK ?_ _ _ _ ?_
    | with_reducible refine State.latch_k hK (by decide) ?_ _ _ ?_
    | with_reducible refine ite_k ?_ ?_
    | with_reducible refine foldl_k _ _ ?_ ?_
    | with_reducible refine foldl_fst_k _ _ _ ?_ ?_
    | intro _ _ _

theorem State.tickRefs_k (hK : Loose 0x90000000000000000000000000000000000000000000000000000000000000000000000000000000000000000000000000000080000000 K) {s : State} (h : K s) :
    K (State.tickRefs s) := by
  unfold State.tickRefs
  try dsimp only
  repeat' first
    | with_reducible assumption
    | decide
    | rfl
    | (dsimp only [Ev.plus]; decide)
    | (show regOk _ _ = true; split <;> decide)
    | with_reducible refine State.setFld_k hK ?_ _ _ _ ?_
    | with_reducible refine State.updRef_k (hK.mono (by decide)) ?_ _ _
    | with_reducible refine ite_k ?_ ?_
    | with_reducible refine foldl_k _ _ ?_ ?_
    | with_reducible refine foldl_fst_k _ _ _ ?_ ?_
    | intro _ _ _
    | fail_if_no_progress with_reducible refine hK.build ?_ rfl

theorem State.tickCoast_k (hK : Loose 0x40000000000000000000000000000000000000000000000000000000000000000000000000000000000000080000000 K) {s : State} (h : K s) :
    K (State.tickCoast s) := by
  unfold State.tickCoast
  try dsimp only
  repeat' first
    | with_reducible assumption
    | decide
    | rfl
    | (dsimp only [Ev.plus]; decide)
    | (show regOk _ _ = true; split <;> decide)
    | with_reducible refine State.setFlag_k hK ?_ _ _ _ ?_
    | with_reducible refine State.updPlumb_k (hK.mono (by decide)) ?_ _
    | split
    | refine fst_k (by with_reducible assumption) ?_
    | fail_if_no_progress with_reducible refine hK.build ?_ rfl

theorem State.tickSlew_k (hK : Loose 0x20000000000000000000000000000000000000000000000000000000000000000000000000000000000000000000000080000000 K) {s : State} (h : K s) :
    K (State.tickSlew s) := by
  unfold State.tickSlew
  try dsimp only
  repeat' first
    | with_reducible assumption
    | decide
    | rfl
    | (dsimp only [Ev.plus]; decide)
    | (show regOk _ _ = true; split <;> decide)
    | with_reducible refine State.setIfld_k hK ?_ _ _ _ ?_
    | with_reducible refine State.updPlumb_k (hK.mono (by decide)) ?_ _
    | with_reducible refine ite_k ?_ ?_
    | split
    | refine fst_k (by with_reducible assumption) ?_
    | with_reducible refine foldl_k _ _ ?_ ?_
    | with_reducible refine foldl_fst_k _ _ _ ?_ ?_
    | intro _ _ _
    | fail_if_no_progress with_reducible refine hK.build ?_ rfl

theorem State.tickPhase_k (hK : Loose 0x10000000000000000000000000000000000000000000000000000000000000000000000000000000000000000000000080000100 K) {s : State} (h : K s) :
    K (State.tickPhase s) := by
  unfold State.tickPhase
  try dsimp only
  repeat' first
    | with_reducible assumption
    | decide
    | rfl
    | (dsimp only [Ev.plus]; decide)
    | (show regOk _ _ = true; split <;> decide)
    | with_reducible refine State.setIfld_k hK ?_ _ _ _ ?_
    | with_reducible refine State.drawn_k (hK.mono (by decide)) ?_ 
    | with_reducible refine State.setFld_k hK ?_ _ _ _ ?_
    | with_reducible refine State.updPlumb_k (hK.mono (by decide)) ?_ _
    | with_reducible refine ite_k ?_ ?_
    | with_reducible refine foldl_k _ _ ?_ ?_
    | with_reducible refine foldl_fst_k _ _ _ ?_ ?_
    | intro _ _ _
    | split
    | refine fst_k (by with_reducible assumption) ?_

theorem State.tickTemp_k (hK : Loose 0x8000000000000000000000000000000000000000000000000000000000000000000000000000000000000000000000080000100 K) {s : State} (h : K s) :
    K (State.tickTemp s) := by
  unfold State.tickTemp
  try dsimp only
  repeat' first
    | with_reducible assumption
    | decide
    | rfl
    | (dsimp only [Ev.plus]; decide)
    | (show regOk _ _ = true; split <;> decide)
    | with_reducible refine State.drawn_k (hK.mono (by decide)) ?_ 
    | with_reducible refine State.updPlumb_k (hK.mono (by decide)) ?_ _
    | with_reducible refine State.setFld_k hK ?_ _ _ _ ?_
    | with_reducible refine ite_k ?_ ?_
    | with_reducible refine foldl_k _ _ ?_ ?_
    | with_reducible refine foldl_fst_k _ _ _ ?_ ?_
    | intro _ _ _
    | split
    | refine fst_k (by with_reducible assumption) ?_

theorem State.tickCores_k (hK : Loose 0x80000000 K) {s : State} (h : K s) :
    K (State.tickCores s) := by
  unfold State.tickCores
  try dsimp only
  repeat' first
    | with_reducible assumption
    | with_reducible refine State.updPlumb_k (hK.mono (by decide)) ?_ _
    | with_reducible refine ite_k ?_ ?_
    | with_reducible refine foldl_k _ _ ?_ ?_
    | with_reducible refine foldl_fst_k _ _ _ ?_ ?_
    | intro _ _ _
    | split
    | refine fst_k (by with_reducible assumption) ?_

theorem State.copyCore_k (hK : Loose 0x80000000 K) {s : State} (h : K s) :
    K (State.copyCore s) := by
  unfold State.copyCore
  try dsimp only
  repeat' first
    | with_reducible assumption
    | with_reducible refine State.updPlumb_k (hK.mono (by decide)) ?_ _
    | with_reducible refine ite_k ?_ ?_
    | with_reducible refine foldl_k _ _ ?_ ?_
    | with_reducible refine foldl_fst_k _ _ _ ?_ ?_
    | intro _ _ _
    | split
    | refine fst_k (by with_reducible assumption) ?_

theorem State.tickHold_k (hK : Loose 0x80000000 K) {s : State} (h : K s) :
    K (State.tickHold s) := by
  unfold State.tickHold
  try dsimp only
  repeat' first
    | with_reducible assumption
    | decide
    | rfl
    | (dsimp only [Ev.plus]; decide)
    | (show regOk _ _ = true; split <;> decide)
    | with_reducible refine State.updPlumb_k (hK.mono (by decide)) ?_ _
    | with_reducible refine State.setFld_k hK ?_ _ _ _ ?_
    | with_reducible refine ite_k ?_ ?_
    | split
    | refine fst_k (by with_reducible assumption) ?_
    | with_reducible refine foldl_k _ _ ?_ ?_
    | with_reducible refine foldl_fst_k _ _ _ ?_ ?_
    | intro _ _ _
    | fail_if_no_progress with_reducible refine hK.build ?_ rfl

theorem State.showHold_k (hK : Loose 0x400000000000000000000000000000000000000000000000000000000000000000000000000000000000000000000000000000 K) {s : State} (h : K s) :
    K (State.showHold s) := by
  unfold State.showHold
  try dsimp only
  repeat' first
    | with_reducible assumption
    | decide
    | rfl
    | (dsimp only [Ev.plus]; decide)
    | (show regOk _ _ = true; split <;> decide)
    | with_reducible refine State.setFld_k hK ?_ _ _ _ ?_
    | with_reducible refine ite_k ?_ ?_
    | with_reducible refine foldl_k _ _ ?_ ?_
    | with_reducible refine foldl_fst_k _ _ _ ?_ ?_
    | intro _ _ _
    | split
    | refine fst_k (by with_reducible assumption) ?_

theorem State.tickFpout_k (hK : Loose 0x2000000000000000000000000000000000000000000000000000000000000000000000000000000000000000000000000000000000080000000 K) {s : State} (h : K s) (k : Nat) :
    K (State.tickFpout s k) := by
  unfold State.tickFpout
  try dsimp only
  repeat' first
    | with_reducible assumption
    | decide
    | rfl
    | (dsimp only [Ev.plus]; decide)
    | (show regOk _ _ = true; split <;> decide)
    | with_reducible refine State.updPlumb_k (hK.mono (by decide)) ?_ _
    | with_reducible refine State.setFlag_k hK ?_ _ _ _ ?_
    | with_reducible refine ite_k ?_ ?_
    | with_reducible refine foldl_k _ _ ?_ ?_
    | with_reducible refine foldl_fst_k _ _ _ ?_ ?_
    | intro _ _ _
    | split
    | refine fst_k (by with_reducible assumption) ?_
    | fail_if_no_progress with_reducible refine hK.build ?_ rfl

theorem State.swapCores_k (hK : Loose 0x22000000000000000000000000000000000000000000000000000000000000000000000000000000000008100000000000000000000000000000000000000000000000000000000000000000000000000000000004000000000c00 K) {s : State} (h : K s) :
    K (State.swapCores s) := by
  unfold State.swapCores
  try dsimp only
  repeat' first
    | with_reducible assumption
    | decide
    | rfl
    | (dsimp only [Ev.plus]; decide)
    | (show regOk _ _ = true; split <;> decide)
    | with_reducible refine State.setFld_k hK ?_ _ _ _ ?_
    | with_reducible refine State.latch_k hK (by decide) ?_ _ _ ?_
    | with_reducible refine State.substDone_k (hK.mono (by decide)) ?_ _ _ _

theorem State.tickSwap_k (hK : Loose 0x22000000000000000000000000000000000000000000000000000000000000000000000000000000000008100000000000000000000000000000000000000000000000000000000000000000000000000000000004000080000c00 K) {s : State} (h : K s) :
    K (State.tickSwap s) := by
  unfold State.tickSwap
  try dsimp only
  repeat' first
    | with_reducible assumption
    | with_reducible refine State.updPlumb_k (hK.mono (by decide)) ?_ _
    | with_reducible refine State.swapCores_k (hK.mono (by decide)) ?_ 
    | with_reducible refine ite_k ?_ ?_
    | with_reducible refine foldl_k _ _ ?_ ?_
    | with_reducible refine foldl_fst_k _ _ _ ?_ ?_
    | intro _ _ _
    | split
    | refine fst_k (by with_reducible assumption) ?_

theorem State.tickPlumb_k (hK : Loose 0x220000000000000000000000000000000000000000000000000000000000000000020002bfc007b840000b9f0000000000000000000000000000000000000000000000000000000000000000000000000000000004000480000d00 K) {s : State} (h : K s) :
    K (State.tickPlumb s) := by
  unfold State.tickPlumb
  try dsimp only
  repeat' first
    | with_reducible assumption
    | with_reducible refine State.tickMref_k (hK.mono (by decide)) ?_ 
    | with_reducible refine State.tickRefs_k (hK.mono (by decide)) ?_ 
    | with_reducible refine State.tickQl_k (hK.mono (by decide)) ?_ 
    | with_reducible refine State.tickCmd_k (hK.mono (by decide)) ?_ 
    | with_reducible refine State.tickSelect_k (hK.mono (by decide)) ?_ 
    | with_reducible refine State.tickFpout_k (hK.mono (by decide)) ?_ _
    | with_reducible refine State.tickQlOut_k (hK.mono (by decide)) ?_ 
    | with_reducible refine State.tickCoast_k (hK.mono (by decide)) ?_ 
    | with_reducible refine State.tickSlew_k (hK.mono (by decide)) ?_ 
    | with_reducible refine State.tickHold_k (hK.mono (by decide)) ?_ 
    | with_reducible refine State.tickTemp_k (hK.mono (by decide)) ?_
    | with_reducible refine State.showHold_k (hK.mono (by decide)) ?_
    | with_reducible refine State.tickCores_k (hK.mono (by decide)) ?_
    | with_reducible refine State.tickPhase_k (hK.mono (by decide)) ?_
    | with_reducible refine State.tickSwap_k (hK.mono (by decide)) ?_
    | with_reducible refine ite_k ?_ ?_
    | with_reducible refine foldl_k _ _ ?_ ?_
    | with_reducible refine foldl_fst_k _ _ _ ?_ ?_
    | intro _ _ _
    | split
    | refine fst_k (by with_reducible assumption) ?_

theorem execBridgeHoldEnd_k (hK : Loose 0x430000000020000000000000000000000000000000000000000000000000000000000000000000000000000000000000080000100 K) {s : State} (h : K s) (delta : Word) (pps : Fin 8000) :
    ∃ z, execBridgeHoldEnd delta pps s = .next z ∧ K z := by
  unfold execBridgeHoldEnd
  refine ⟨_, rfl, ?_⟩
  try dsimp only
  repeat' first
    | with_reducible assumption
    | decide
    | rfl
    | (dsimp only [Ev.plus]; decide)
    | (show regOk _ _ = true; split <;> decide)
    | with_reducible refine State.setFlag_k hK ?_ _ _ _ ?_
    | with_reducible refine State.updPlumb_k (hK.mono (by decide)) ?_ _
    | with_reducible refine State.setFld_k hK ?_ _ _ _ ?_
    | with_reducible refine State.keepEdge_k (hK.mono (by decide)) ?_ _ _
    | with_reducible refine State.setIfld_k hK ?_ _ _ _ ?_
    | with_reducible refine State.drawn_k (hK.mono (by decide)) ?_ 
    | with_reducible refine ite_k ?_ ?_
    | with_reducible refine foldl_k _ _ ?_ ?_
    | with_reducible refine foldl_fst_k _ _ _ ?_ ?_
    | intro _ _ _
    | split
    | refine fst_k (by with_reducible assumption) ?_
    | fail_if_no_progress with_reducible refine hK.build ?_ rfl

theorem execCaptureComplete_k (hK : Loose 0x297c0000000000c0b0000000000000000000000000000000000000000000000000000000000000000000000000000000000000080000c00 K) {s : State} (h : K s) :
    ∃ z, execCaptureComplete s = .next z ∧ K z := by
  unfold execCaptureComplete
  refine ⟨_, rfl, ?_⟩
  try dsimp only
  repeat' first
    | with_reducible assumption
    | decide
    | rfl
    | (dsimp only [Ev.plus]; decide)
    | (show regOk _ _ = true; split <;> decide)
    | with_reducible refine State.setFld_k hK ?_ _ _ _ ?_
    | with_reducible refine State.enterPlb_k (hK.mono (by decide)) ?_ _ _
    | with_reducible refine State.endCapture_k (hK.mono (by decide)) ?_
    | with_reducible refine ite_k ?_ ?_
    | split
    | refine fst_k (by with_reducible assumption) ?_
    | with_reducible refine foldl_k _ _ ?_ ?_
    | with_reducible refine foldl_fst_k _ _ _ ?_ ?_
    | intro _ _ _

theorem execHoldoverExpire_k (hK : Loose 0x80b0000000000000000000000000000000000000000000000000000000000000000000000000000000000000080000c00 K) {s : State} (h : K s) :
    ∃ z, execHoldoverExpire s = .next z ∧ K z := by
  unfold execHoldoverExpire
  refine ⟨_, rfl, ?_⟩
  try dsimp only
  repeat' first
    | with_reducible assumption
    | decide
    | rfl
    | (dsimp only [Ev.plus]; decide)
    | (show regOk _ _ = true; split <;> decide)
    | with_reducible refine State.enterPlb_k (hK.mono (by decide)) ?_ _ _
    | with_reducible refine State.latch_k hK (by decide) ?_ _ _ ?_
    | with_reducible refine ite_k ?_ ?_

theorem State.refCommitted_k (hK : Loose 0x297c00000000000000000000000000000000000000000000000000000000000000000000000000000000000000000000000000080000000 K) {s : State} (h : K s) (i : Nat) (en : Bool) (toff : Int) (ql : Nat) :
    K (State.refCommitted s i en toff ql) := by
  unfold State.refCommitted
  try dsimp only
  repeat' first
    | with_reducible assumption
    | with_reducible refine State.freshRef_k (hK.mono (by decide)) ?_ _
    | with_reducible refine State.updPlumb_k (hK.mono (by decide)) ?_ _
    | with_reducible refine ite_k ?_ ?_
    | with_reducible refine foldl_k _ _ ?_ ?_
    | with_reducible refine foldl_fst_k _ _ _ ?_ ?_
    | intro _ _ _
    | split
    | refine fst_k (by with_reducible assumption) ?_
    | fail_if_no_progress with_reducible refine hK.build ?_ rfl

theorem State.placeFpouts_k (hK : Loose 0x80000000 K) {s : State} (h : K s) :
    K (State.placeFpouts s) := by
  unfold State.placeFpouts
  try dsimp only
  repeat' first
    | with_reducible assumption
    | with_reducible refine State.updPlumb_k (hK.mono (by decide)) ?_ _
    | with_reducible refine ite_k ?_ ?_
    | with_reducible refine foldl_k _ _ ?_ ?_
    | with_reducible refine foldl_fst_k _ _ _ ?_ ?_
    | intro _ _ _
    | split
    | refine fst_k (by with_reducible assumption) ?_

theorem State.fpoutCommitted_k (hK : Loose 0x2000000000000000000000000000000000000000000000000000000000000000000000000000000000000000000000000000000000080000000 K) {s : State} (h : K s) (k : Nat) (old : Int) :
    K (State.fpoutCommitted s k old) := by
  unfold State.fpoutCommitted
  try dsimp only
  repeat' first
    | with_reducible assumption
    | decide
    | rfl
    | (dsimp only [Ev.plus]; decide)
    | (show regOk _ _ = true; split <;> decide)
    | with_reducible refine State.setFld_k hK ?_ _ _ _ ?_
    | with_reducible refine State.updPlumb_k (hK.mono (by decide)) ?_ _
    | with_reducible refine State.setFlag_k hK ?_ _ _ _ ?_
    | with_reducible refine ite_k ?_ ?_
    | with_reducible refine foldl_k _ _ ?_ ?_
    | with_reducible refine foldl_fst_k _ _ _ ?_ ?_
    | intro _ _ _
    | split
    | refine fst_k (by with_reducible assumption) ?_
    | fail_if_no_progress with_reducible refine hK.build ?_ rfl

theorem State.setShadow_k (hK : Loose 0x10000000000000000000000000000000000000000000000000000000000000000000000000000000000000000200000000000000000000000000000000000000000000000000000000000000000000000000000000000000000000000 K) {s : State} (h : K s) (ok : Bool) :
    K (State.setShadow s ok) := by
  unfold State.setShadow
  try dsimp only
  repeat' first
    | with_reducible assumption
    | decide
    | rfl
    | (dsimp only [Ev.plus]; decide)
    | (show regOk _ _ = true; split <;> decide)
    | with_reducible refine State.setFlag_k hK ?_ _ _ _ ?_

theorem execDpllSwap_k (hK : Loose 0x100220000000000000000000000000000000000000000000000000000000000004e9000000000000000000008300000000000000000000000000000000000000000000000000000000000000000000000000000000004000180000c00 K) {s : State} (h : K s) (shadow : Bool) :
    ∃ z, execDpllSwap shadow s = .next z ∧ K z := by
  unfold execDpllSwap
  refine ⟨_, rfl, ?_⟩
  try dsimp only
  repeat' first
    | with_reducible assumption
    | with_reducible refine State.exhausted_k (hK.mono (by decide)) ?_ 
    | with_reducible refine State.setShadow_k (hK.mono (by decide)) ?_ _
    | with_reducible refine State.updPlumb_k (hK.mono (by decide)) ?_ _
    | with_reducible refine State.swapCores_k (hK.mono (by decide)) ?_ 
    | with_reducible refine State.failDevice_k (hK.mono (by decide)) ?_ 
    | with_reducible refine ite_k ?_ ?_
    | with_reducible refine foldl_k _ _ ?_ ?_
    | with_reducible refine foldl_fst_k _ _ _ ?_ ?_
    | intro _ _ _
    | split
    | refine fst_k (by with_reducible assumption) ?_
    | fail_if_no_progress with_reducible refine hK.build ?_ rfl

theorem execShadowRestore_k (hK : Loose 0x10000000000000000000000000000000000000000000000000000000000000000000000000000000000000000200000000000000000000000000000000000000000000000000000000000000000000000000000000000000080000000 K) {s : State} (h : K s) :
    ∃ z, execShadowRestore s = .next z ∧ K z := by
  unfold execShadowRestore
  refine ⟨_, rfl, ?_⟩
  try dsimp only
  repeat' first
    | with_reducible assumption
    | with_reducible refine State.setShadow_k (hK.mono (by decide)) ?_ _
    | with_reducible refine State.updPlumb_k (hK.mono (by decide)) ?_ _
    | with_reducible refine ite_k ?_ ?_
    | split
    | refine fst_k (by with_reducible assumption) ?_
    | fail_if_no_progress with_reducible refine hK.build ?_ rfl

theorem execDpllMismatch_k (hK : Loose 0x8000000000000000000000000000000000000000000000000000000000000000000000000000000000000000080000c00 K) {s : State} (h : K s) :
    ∃ z, execDpllMismatch s = .next z ∧ K z := by
  unfold execDpllMismatch
  refine ⟨_, rfl, ?_⟩
  try dsimp only
  repeat' first
    | with_reducible assumption
    | decide
    | rfl
    | (dsimp only [Ev.plus]; decide)
    | (show regOk _ _ = true; split <;> decide)
    | with_reducible refine State.latch_k hK (by decide) ?_ _ _ ?_
    | with_reducible refine State.updPlumb_k (hK.mono (by decide)) ?_ _
    | with_reducible refine State.copyCore_k (hK.mono (by decide)) ?_
    | with_reducible refine ite_k ?_ ?_
    | split
    | refine fst_k (by with_reducible assumption) ?_
    | with_reducible refine foldl_k _ _ ?_ ?_
    | with_reducible refine foldl_fst_k _ _ _ ?_ ?_
    | intro _ _ _
    | fail_if_no_progress with_reducible refine hK.build ?_ rfl

theorem execDpllTestTrigger_k (hK : Loose 0x10002000000000000000000000000000000000000000000000000000000000000000000000000000000000000200000000000000000000000000000000000000000000000000000000000000000000000000000000000000080000000 K) {s : State} (h : K s) :
    ∃ z, execDpllTestTrigger s = .next z ∧ K z := by
  unfold execDpllTestTrigger
  refine ⟨_, rfl, ?_⟩
  try dsimp only
  repeat' first
    | with_reducible assumption
    | with_reducible refine State.setShadow_k (hK.mono (by decide)) ?_ _
    | with_reducible refine State.updPlumb_k (hK.mono (by decide)) ?_ _
    | with_reducible refine State.showBusy_k (hK.mono (by decide)) ?_ 
    | with_reducible refine ite_k ?_ ?_
    | split
    | refine fst_k (by with_reducible assumption) ?_
    | with_reducible refine foldl_k _ _ ?_ ?_
    | with_reducible refine foldl_fst_k _ _ _ ?_ ?_
    | intro _ _ _
    | fail_if_no_progress with_reducible refine hK.build ?_ rfl

theorem State.retireCore_k (hK : Loose 0x10000000000000000000000000000000000000000000000000000000000000000000000000000000000000008200000000000000000000000000000000000000000000000000000000000000000000000000000000024000000000c00 K) {s : State} (h : K s) :
    K (State.retireCore s) := by
  unfold State.retireCore
  try dsimp only
  repeat' first
    | with_reducible assumption
    | decide
    | rfl
    | (dsimp only [Ev.plus]; decide)
    | (show regOk _ _ = true; split <;> decide)
    | with_reducible refine State.setShadow_k (hK.mono (by decide)) ?_ _
    | with_reducible refine State.latch_k hK (by decide) ?_ _ _ ?_
    | with_reducible refine State.tallyAdd_k (hK.mono (by decide)) ?_ _ _ _ _
    | with_reducible refine State.updSist_k (hK.mono (by decide)) ?_ _
    | with_reducible refine ite_k ?_ ?_
    | with_reducible refine foldl_k _ _ ?_ ?_
    | with_reducible refine foldl_fst_k _ _ _ ?_ ?_
    | intro _ _ _
    | split
    | refine fst_k (by with_reducible assumption) ?_

theorem State.restartCore_k (hK : Loose 0x80000000 K) {s : State} (h : K s) :
    K (State.restartCore s) := by
  unfold State.restartCore
  try dsimp only
  repeat' first
    | with_reducible assumption
    | with_reducible refine State.updPlumb_k (hK.mono (by decide)) ?_ _
    | with_reducible refine State.copyCore_k (hK.mono (by decide)) ?_
    | with_reducible refine ite_k ?_ ?_
    | with_reducible refine foldl_k _ _ ?_ ?_
    | with_reducible refine foldl_fst_k _ _ _ ?_ ?_
    | intro _ _ _
    | split
    | refine fst_k (by with_reducible assumption) ?_
    | fail_if_no_progress with_reducible refine hK.build ?_ rfl

theorem execDpllBuiltInTestDone_k (hK : Loose 0x10022000000000000000000000000000000000000000000000000000000000000000000000000000000000008200000000000000000000000000000000000000000000000000000000000000000000000000000000024000080000c00 K) {s : State} (h : K s) (pass : Bool) :
    ∃ z, execDpllBuiltInTestDone pass s = .next z ∧ K z := by
  unfold execDpllBuiltInTestDone
  refine ⟨_, rfl, ?_⟩
  try dsimp only
  repeat' first
    | with_reducible assumption
    | decide
    | rfl
    | (dsimp only [Ev.plus]; decide)
    | (show regOk _ _ = true; split <;> decide)
    | with_reducible refine State.updPlumb_k (hK.mono (by decide)) ?_ _
    | with_reducible refine State.retireCore_k (hK.mono (by decide)) ?_ 
    | with_reducible refine State.latch_k hK (by decide) ?_ _ _ ?_
    | with_reducible refine State.tallyAdd_k (hK.mono (by decide)) ?_ _ _ _ _
    | with_reducible refine State.restartCore_k (hK.mono (by decide)) ?_ 
    | with_reducible refine State.showBusy_k (hK.mono (by decide)) ?_ 
    | with_reducible refine ite_k ?_ ?_
    | with_reducible refine foldl_k _ _ ?_ ?_
    | with_reducible refine foldl_fst_k _ _ _ ?_ ?_
    | intro _ _ _
    | split
    | refine fst_k (by with_reducible assumption) ?_
    | fail_if_no_progress with_reducible refine hK.build ?_ rfl

end Sys2Proof.Machine
end

