-- ==== Sys2Proof/Laws/FootHoldover.lean ====
section
/-! SUPPORT. What the operations and commands of Machine/Holdover.lean may change (Laws/Loose.lean). -/

set_option Elab.async false
set_option linter.unusedTactic false
set_option linter.unreachableTactic false

namespace Sys2Proof.Machine

variable {K : State → Prop}

theorem State.writeHist_k (hK : Loose 0x3000000000000000000000000000000000000000000000000000000000000000000000000000000000000000000200000000000000 K) {s : State} (h : K s) (r : HistRec) :
    K (State.writeHist s r) := by
  unfold State.writeHist
  refine State.setFlag_k hK (State.setFld_k hK ?_ _ _ _ (by decide)) _ _ _ (by decide)
  refine ite_k h (State.writeBytes_in hK (k := 57) (by decide) h _ _ ?_)
  intro j hj
  simp only [List.length_append, leBytes_length] at hj
  have h1 : s.fld R.PLB_HIST_IDX_NEXT % 16384 < 16384 := Nat.mod_lt _ (by decide)
  show State.inHist s _
  unfold State.inHist within State.histAddr
  omega

theorem State.readHists_k (hK : Loose 0x100000000000000000000000000000000000000000000000000000000000000000000000000000000000000000000000000000000000000000000000000000000000000000000000000000000000000000000000 K) {s : State} (h : K s) (ks : List Nat) :
    K (State.readHists s ks) := by
  unfold State.readHists
  try dsimp only
  repeat' first
    | with_reducible assumption
    | with_reducible refine State.readUnits_k (hK.mono (by decide)) ?_ _
    | with_reducible refine ite_k ?_ ?_
    | with_reducible refine foldl_k _ _ ?_ ?_
    | with_reducible refine foldl_fst_k _ _ _ ?_ ?_
    | intro _ _ _
    | split
    | refine fst_k (by with_reducible assumption) ?_

theorem State.exclude_k (hK : Loose 0x200000000000000 K) {s : State} (h : K s) (k : Nat) :
    K (State.exclude s k) := by
  unfold State.exclude
  refine State.writeLe_in hK (k := 57) (by decide) h _ _ _ ?_
  intro j hj
  have h1 : k % 16384 < 16384 := Nat.mod_lt _ (by decide)
  show State.inHist s _
  unfold State.inHist within State.histAddr
  omega

theorem State.install_k (hK : Loose 0x7980000400000000000000000000000000000000000000000000000000000000000000000000000000000000000000080000100 K) {s : State} (h : K s) (f : Fit) :
    K (State.install s f) := by
  unfold State.install
  try dsimp only
  repeat' first
    | with_reducible assumption
    | decide
    | rfl
    | (dsimp only [Ev.plus]; decide)
    | (show regOk _ _ = true; split <;> decide)
    | with_reducible refine State.setFld_k hK ?_ _ _ _ ?_
    | with_reducible refine State.setFlag_k hK ?_ _ _ _ ?_
    | with_reducible refine State.drawn_k (hK.mono (by decide)) ?_ 
    | with_reducible refine State.updPlumb_k (hK.mono (by decide)) ?_ _
    | with_reducible refine ite_k ?_ ?_
    | with_reducible refine foldl_k _ _ ?_ ?_
    | with_reducible refine foldl_fst_k _ _ _ ?_ ?_
    | intro _ _ _
    | split
    | refine fst_k (by with_reducible assumption) ?_

theorem State.refit_k (hK : Loose 0x100000000000000000000000000000000000000000000000000000000000000007980000400000000000000000000000000000000000000000000000000000000000000000000000000000000000000080000100 K) {s : State} (h : K s) (last : Int) :
    K (State.refit s last) := by
  unfold State.refit
  try dsimp only
  repeat' first
    | with_reducible assumption
    | with_reducible refine State.install_k (hK.mono (by decide)) ?_ _
    | with_reducible refine State.readHists_k (hK.mono (by decide)) ?_ _
    | with_reducible refine State.updPlumb_k (hK.mono (by decide)) ?_ _
    | with_reducible refine ite_k ?_ ?_
    | with_reducible refine foldl_k _ _ ?_ ?_
    | with_reducible refine foldl_fst_k _ _ _ ?_ ?_
    | intro _ _ _
    | split
    | refine fst_k (by with_reducible assumption) ?_
    | fail_if_no_progress with_reducible refine hK.build ?_ rfl

theorem State.learnReset_k (hK : Loose 0x100000000000000000000000000000000000000000000000000000000000000007980000400000000000000000000000000000000000000000000000000000000000000000000000000000000200000080000100 K) {s : State} (h : K s) :
    K (State.learnReset s) := by
  unfold State.learnReset
  try dsimp only
  repeat' first
    | with_reducible assumption
    | with_reducible refine State.exclude_k (hK.mono (by decide)) ?_ _
    | with_reducible refine State.install_k (hK.mono (by decide)) ?_ _
    | with_reducible refine State.readHists_k (hK.mono (by decide)) ?_ _
    | with_reducible refine State.updPlumb_k (hK.mono (by decide)) ?_ _
    | with_reducible refine foldl_k _ _ ?_ ?_
    | with_reducible refine foldl_fst_k _ _ _ ?_ ?_
    | intro _ _ _
    | with_reducible refine ite_k ?_ ?_
    | split
    | refine fst_k (by with_reducible assumption) ?_
    | fail_if_no_progress with_reducible refine hK.build ?_ rfl

theorem State.plbCtrl_k (hK : Loose 0x100000000000000000000000000000000000000000000000000000000000000007980000400000000000000000000000000000000000000000000000000000000000000000000000000000000200000080000100 K) {s : State} (h : K s) (w : Nat) :
    K (State.plbCtrl s w) := by
  unfold State.plbCtrl
  try dsimp only
  repeat' first
    | with_reducible assumption
    | with_reducible refine State.updPlumb_k (hK.mono (by decide)) ?_ _
    | with_reducible refine State.learnReset_k (hK.mono (by decide)) ?_ 
    | with_reducible refine ite_k ?_ ?_
    | fail_if_no_progress with_reducible refine hK.build ?_ rfl

theorem State.rollback_k (hK : Loose 0x100000000000000000000000000000000000000000000000000000000000004007b80008400000000000000000000000000000000000000000000000000000000000000000000000000000000200000080000d00 K) {s : State} (h : K s) (i : Nat) :
    K (State.rollback s i) := by
  unfold State.rollback
  try dsimp only
  repeat' first
    | with_reducible assumption
    | decide
    | rfl
    | (dsimp only [Ev.plus]; decide)
    | (show regOk _ _ = true; split <;> decide)
    | with_reducible refine State.exclude_k (hK.mono (by decide)) ?_ _
    | with_reducible refine State.latch_k hK (by decide) ?_ _ _ ?_
    | with_reducible refine State.setFlag_k hK ?_ _ _ _ ?_
    | with_reducible refine State.setFld_k hK ?_ _ _ _ ?_
    | with_reducible refine State.updPlumb_k (hK.mono (by decide)) ?_ _
    | with_reducible refine State.refit_k (hK.mono (by decide)) ?_ _
    | with_reducible refine State.readHists_k (hK.mono (by decide)) ?_ _
    | with_reducible refine foldl_k _ _ ?_ ?_
    | with_reducible refine foldl_fst_k _ _ _ ?_ ?_
    | intro _ _ _
    | split
    | refine fst_k (by with_reducible assumption) ?_
    | with_reducible refine ite_k ?_ ?_
    | fail_if_no_progress with_reducible refine hK.build ?_ rfl

theorem State.judgeRef_k (hK : Loose 0x1000000000000000000000000000000000000000000000000000000002a6404007b80008400000000000000000000000000000000000000000000000000000000000000000000000000000000200000080000d00 K) {s : State} (h : K s) (d : Option Int) (i : Nat) (used : Bool) :
    K (State.judgeRef s d i used) := by
  unfold State.judgeRef
  try dsimp only
  repeat' first
    | with_reducible assumption
    | decide
    | rfl
    | (dsimp only [Ev.plus]; decide)
    | (show regOk _ _ = true; split <;> decide)
    | with_reducible refine State.setFld_k hK ?_ _ _ _ ?_
    | with_reducible refine State.latchIf_k hK (by decide) ?_ _ _ _ ?_
    | with_reducible refine State.setFlag_k hK ?_ _ _ _ ?_
    | with_reducible refine State.rollback_k (hK.mono (by decide)) ?_ _
    | with_reducible refine State.disqualify_k (hK.mono (by decide)) ?_ _
    | with_reducible refine State.startWait_k (hK.mono (by decide)) ?_ _
    | with_reducible refine ite_k ?_ ?_

theorem State.thaw_k (hK : Loose 0x200000000000000000000000000000000000000000000000000000000000000000000000000000000000000000000080000000 K) {s : State} (h : K s) (used : Nat) (d : Option Int) :
    K (State.thaw s used d) := by
  unfold State.thaw
  try dsimp only
  repeat' first
    | with_reducible assumption
    | decide
    | rfl
    | (dsimp only [Ev.plus]; decide)
    | (show regOk _ _ = true; split <;> decide)
    | with_reducible refine State.updPlumb_k (hK.mono (by decide)) ?_ _
    | with_reducible refine State.setFlag_k hK ?_ _ _ _ ?_
    | with_reducible refine ite_k ?_ ?_
    | split
    | refine fst_k (by with_reducible assumption) ?_
    | fail_if_no_progress with_reducible refine hK.build ?_ rfl

theorem State.showMeas_k (hK : Loose 0x1f100000008000000000000000000000000000000000000000000000000000000000000000000000000000000000000000000000000000000 K) {s : State} (h : K s) (e : EpochMeas) :
    K (State.showMeas s e) := by
  unfold State.showMeas
  refine foldl_k _ _ (State.setFld_k hK h _ _ _ (by decide)) ?_
  intro t p ht
  dsimp only
  refine ite_k ht ?_
  refine foldl_mem_k _ _ (State.setFld_k hK (State.setFld_k hK ht _ _ _ (by decide)) _ _ _ (by decide)) ?_
  intro u q hq hu
  refine State.setFld_k hK hu _ _ _ ?_
  have hm := (List.of_mem_zip (a := q.1) (b := q.2) hq).1
  simp only [List.mem_cons, List.not_mem_nil, or_false] at hm
  rcases hm with e | e | e | e <;> rw [e] <;> decide

theorem execEpochEnd_k (hK : Loose 0x10000000000000000000000000000000000000000000000000000001f3a640700fb80008400000000000000000000000000000000000000000000000000000000000000000000000000000000200000080000d00 K) {s : State} (h : K s) (e : EpochMeas) :
    ∃ z, execEpochEnd e s = .next z ∧ K z := by
  unfold execEpochEnd
  refine ⟨_, rfl, ?_⟩
  try dsimp only
  repeat' first
    | with_reducible assumption
    | with_reducible refine State.showMeas_k (hK.mono (by decide)) ?_ _
    | with_reducible refine State.thaw_k (hK.mono (by decide)) ?_ _ _
    | with_reducible refine State.judgeRef_k (hK.mono (by decide)) ?_ _ _ _
    | with_reducible refine State.writeHist_k (hK.mono (by decide)) ?_ _
    | with_reducible refine State.refit_k (hK.mono (by decide)) ?_ _
    | with_reducible refine State.updPlumb_k (hK.mono (by decide)) ?_ _
    | decide
    | rfl
    | (dsimp only [Ev.plus]; decide)
    | (show regOk _ _ = true; split <;> decide)
    | with_reducible refine State.setFld_k hK ?_ _ _ _ ?_
    | with_reducible refine State.readHists_k (hK.mono (by decide)) ?_ _
    | with_reducible refine ite_k ?_ ?_
    | with_reducible refine foldl_k _ _ ?_ ?_
    | with_reducible refine foldl_fst_k _ _ _ ?_ ?_
    | intro _ _ _
    | split
    | refine fst_k (by with_reducible assumption) ?_
    | fail_if_no_progress with_reducible refine hK.build ?_ rfl

end Sys2Proof.Machine
end

