-- ==== Sys2Proof/Laws/FootPlate.lean ====
section
/-! SUPPORT. What the operations and commands of Machine/Plate.lean may change (Laws/Loose.lean). -/

set_option Elab.async false
set_option linter.unusedTactic false
set_option linter.unreachableTactic false

namespace Sys2Proof.Machine

variable {K : State → Prop}

theorem State.markSide_k (hK : Loose 0x100000001f40000000000000000000000000000000000000000000000000000000000000000000000020000c00 K) {s : State} (h : K s) (k f : Nat) (o : Outcome) (g : Option Nat) :
    K (State.markSide s k f o g) := by
  unfold State.markSide
  try dsimp only
  repeat' first
    | with_reducible assumption
    | decide
    | rfl
    | (dsimp only [Ev.plus]; decide)
    | (show regOk _ _ = true; split <;> decide)
    | with_reducible refine State.setFld_k hK ?_ _ _ _ ?_
    | with_reducible refine State.latchAs_k hK (by decide) ?_ _ _ _ _ ?_
    | with_reducible refine State.setSides_k (hK.mono (by decide)) ?_ _
    | with_reducible refine ite_k ?_ ?_
    | split
    | refine fst_k (by with_reducible assumption) ?_
    | with_reducible refine foldl_k _ _ ?_ ?_
    | with_reducible refine foldl_fst_k _ _ _ ?_ ?_
    | intro _ _ _
    | fail_if_no_progress with_reducible refine hK.build ?_ rfl

theorem State.countOutcome_k (hK : Loose 0x80000000000000000000000000000000000000000000000000000000000000000000000000000000000 K) {s : State} (h : K s) (o : Outcome) :
    K (State.countOutcome s o) := by
  unfold State.countOutcome
  try dsimp only
  repeat' first
    | with_reducible assumption
    | decide
    | rfl
    | (dsimp only [Ev.plus]; decide)
    | (show regOk _ _ = true; split <;> decide)
    | with_reducible refine State.addFld_k hK ?_ _ _ _ ?_
    | split
    | refine fst_k (by with_reducible assumption) ?_
    | fail_if_no_progress with_reducible refine hK.build ?_ rfl

theorem State.countCopy_k (hK : Loose 0x3000020080000000000000000000000000000000000000000000000000000000000000000000000000000000000 K) {s : State} (h : K s) (g side : Nat) (c : Copy) :
    K (State.countCopy s g side c) := by
  unfold State.countCopy
  try dsimp only
  repeat' first
    | with_reducible assumption
    | decide
    | rfl
    | (dsimp only [Ev.plus]; decide)
    | (show regOk _ _ = true; split <;> decide)
    | with_reducible refine State.countOutcome_k (hK.mono (by decide)) ?_ _
    | with_reducible refine State.addFld_k hK ?_ _ _ _ ?_
    | with_reducible refine ite_k ?_ ?_
    | split
    | refine fst_k (by with_reducible assumption) ?_

theorem State.mergeSlot_k (hK : Loose 0x20000000080000000000000000000000000000000000000000000000000000000000000000000000000000004f100028081f40000000000000000000000000000000000000000000000000000000000000000000000060000c00 K) {s : State} (h : K s) (sc : Schedule) (o f slot w p g aw ap : Nat) :
    K (State.mergeSlot s sc o f slot w p g aw ap).1 := by
  unfold State.mergeSlot
  try dsimp only
  repeat' first
    | with_reducible assumption
    | decide
    | rfl
    | (dsimp only [Ev.plus]; decide)
    | (show regOk _ _ = true; split <;> decide)
    | with_reducible refine State.countCopy_k (hK.mono (by decide)) ?_ _ _ _
    | with_reducible refine State.markSide_k (hK.mono (by decide)) ?_ _ _ _ _
    | with_reducible refine State.countWindow_k (hK.mono (by decide)) ?_ _ _ _ _
    | with_reducible refine State.addFld_k hK ?_ _ _ _ ?_
    | with_reducible refine State.bankCount_k (hK.mono (by decide)) ?_ _ _ _
    | with_reducible refine State.latch_k hK (by decide) ?_ _ _ ?_
    | with_reducible refine State.satFld_k hK ?_ _ _ _ ?_
    | with_reducible refine ite_k ?_ ?_

theorem State.readSlot_k (hK : Loose 0x20000000080000000000000000000000000000000000000000000000000000000000000000000000000000004f100028081f40000000000000000400000000000000000000000000000000000000000000000000000060000c00 K) {s : State} (h : K s) (sc : Schedule) (o f slot code : Nat) :
    K (State.readSlot s sc o f slot code).1 := by
  unfold State.readSlot
  try dsimp only
  repeat' first
    | with_reducible assumption
    | decide
    | rfl
    | (dsimp only [Ev.plus]; decide)
    | (show regOk _ _ = true; split <;> decide)
    | with_reducible refine State.countOutcome_k (hK.mono (by decide)) ?_ _
    | with_reducible refine State.markSide_k (hK.mono (by decide)) ?_ _ _ _ _
    | with_reducible refine State.mergeSlot_k (hK.mono (by decide)) ?_ _ _ _ _ _ _ _ _ _
    | with_reducible refine State.latch_k hK (by decide) ?_ _ _ ?_
    | with_reducible refine ite_k ?_ ?_
    | split
    | refine fst_k (by with_reducible assumption) ?_
    | fail_if_no_progress with_reducible refine hK.build ?_ rfl

theorem State.readPort_k (hK : Loose 0x20000000080000000000000000000000000000000000000000000000000000000000000000000000000000004f100028081f40000000000000000400000000000000000000000000000000000000000000000000000060000c00 K) {s : State} (h : K s) (sc : Schedule) (o f : Nat) :
    K (State.readPort s sc o f).1 := by
  unfold State.readPort
  try dsimp only
  repeat' first
    | with_reducible assumption
    | with_reducible refine State.readSlot_k (hK.mono (by decide)) ?_ _ _ _ _ _
    | with_reducible refine foldl_k _ _ ?_ ?_
    | with_reducible refine foldl_fst_k _ _ _ ?_ ?_
    | intro _ _ _

theorem State.countSent_k (hK : Loose 0x200000000800000000000000000000000000000000000000000000000000000000000000000000000000000000000000000000000000000000000000000000000000000000000000000000000000000000000000000000000c00 K) {s : State} (h : K s) (sc : Schedule) (o f : Nat) (lais : Bool) (slots : Tab Nat) :
    K (State.countSent s sc o f lais slots) := by
  unfold State.countSent
  try dsimp only
  repeat' first
    | with_reducible assumption
    | with_reducible refine State.bankCount_k (hK.mono (by decide)) ?_ _ _ _
    | with_reducible refine ite_k ?_ ?_
    | with_reducible refine foldl_k _ _ ?_ ?_
    | with_reducible refine foldl_fst_k _ _ _ ?_ ?_
    | intro _ _ _
    | split
    | refine fst_k (by with_reducible assumption) ?_

theorem State.updPegs_k (hK : Loose 0x1000000000000 K) {s : State} (h : K s) (f : Pegs → Pegs) :
    K (State.updPegs s f) := by
  unfold State.updPegs
  try dsimp only
  repeat' first
    | with_reducible assumption
    | fail_if_no_progress with_reducible refine hK.build ?_ rfl


theorem State.watchPegs_k (hK : Loose 0x1000000000000 K) {s : State} (h : K s) (sc : Schedule) (o f : Nat) :
    K (State.watchPegs s sc o f) := by
  unfold State.watchPegs
  try dsimp only
  repeat' first
    | with_reducible assumption
    | with_reducible refine State.updPegs_k (hK.mono (by decide)) ?_ _
    | with_reducible refine ite_k ?_ ?_
    | with_reducible refine foldl_k _ _ ?_ ?_
    | with_reducible refine foldl_fst_k _ _ _ ?_ ?_
    | intro _ _ _
    | split
    | refine fst_k (by with_reducible assumption) ?_

theorem execGrnFaultClear_k (hK : Loose 0x40000000000000000000000000000000000000000000000000000000000000000000000020000c00 K) {s : State} (h : K s) (a : SlotAddr) (side : Bool) :
    ∃ z, execGrnFaultClear a side s = .next z ∧ K z := by
  unfold execGrnFaultClear
  refine ⟨_, rfl, ?_⟩
  try dsimp only
  repeat' first
    | with_reducible assumption
    | with_reducible refine State.clearSide_k (hK.mono (by decide)) ?_ _
    | with_reducible refine ite_k ?_ ?_
    | split
    | refine fst_k (by with_reducible assumption) ?_
    | fail_if_no_progress with_reducible refine hK.build ?_ rfl

theorem State.clearWtr_k (hK : Loose 0x400000000000000000000000000000000000000000000000000000000000000000000000000000000000000000 K) {s : State} (h : K s) (g : Nat) :
    K (State.clearWtr s g) := by
  unfold State.clearWtr
  try dsimp only
  repeat' first
    | with_reducible assumption
    | decide
    | rfl
    | (dsimp only [Ev.plus]; decide)
    | (show regOk _ _ = true; split <;> decide)
    | with_reducible refine State.setFld_k hK ?_ _ _ _ ?_
    | with_reducible refine ite_k ?_ ?_

theorem State.closeGrain_k (hK : Loose 0x20000000 K) {s : State} (h : K s) :
    K (State.closeGrain s) := by
  unfold State.closeGrain
  try dsimp only
  repeat' first
    | with_reducible assumption
    | with_reducible refine ite_k ?_ ?_
    | with_reducible refine foldl_k _ _ ?_ ?_
    | with_reducible refine foldl_fst_k _ _ _ ?_ ?_
    | intro _ _ _
    | split
    | refine fst_k (by with_reducible assumption) ?_
    | fail_if_no_progress with_reducible refine hK.build ?_ rfl

theorem State.tickScarf_k (hK : Loose 0x400000000000000000000000000000000000000000000000000000000000000000000000000000000000000000 K) {s : State} (h : K s) :
    K (State.tickScarf s) := by
  unfold State.tickScarf
  try dsimp only
  repeat' first
    | with_reducible assumption
    | decide
    | rfl
    | (dsimp only [Ev.plus]; decide)
    | (show regOk _ _ = true; split <;> decide)
    | with_reducible refine State.setFld_k hK ?_ _ _ _ ?_
    | with_reducible refine ite_k ?_ ?_
    | with_reducible refine foldl_k _ _ ?_ ?_
    | with_reducible refine foldl_fst_k _ _ _ ?_ ?_
    | intro _ _ _

theorem State.tickLinks_k (hK : Loose 0x100000 K) {s : State} (h : K s) :
    K (State.tickLinks s) := by
  unfold State.tickLinks
  try dsimp only
  repeat' first
    | with_reducible assumption
    | with_reducible refine ite_k ?_ ?_
    | split
    | refine fst_k (by with_reducible assumption) ?_
    | fail_if_no_progress with_reducible refine hK.build ?_ rfl
end Sys2Proof.Machine
end

