-- ==== Sys2Proof/Laws/FootTx.lean ====
section
/-! SUPPORT. What the operations and commands of Machine/Tx.lean may change (Laws/Loose.lean). -/

set_option Elab.async false
set_option linter.unusedTactic false
set_option linter.unreachableTactic false

namespace Sys2Proof.Machine

variable {K : State → Prop}

theorem State.sendTraining_k (hK : Loose 0x600000000000f8000002000000000000000002000 K) {s : State} (h : K s) (n f : Nat) :
    K (State.sendTraining s n f) := by
  unfold State.sendTraining
  try dsimp only
  repeat' first
    | with_reducible assumption
    | decide
    | rfl
    | (dsimp only [Ev.plus]; decide)
    | (show regOk _ _ = true; split <;> decide)
    | with_reducible refine State.setFld_k hK ?_ _ _ _ ?_
    | with_reducible refine State.updLane_k (hK.mono (by decide)) ?_ _ _
    | with_reducible refine State.setFlag_k hK ?_ _ _ _ ?_
    | with_reducible refine State.beginRow_k (hK.mono (by decide)) ?_ _
    | with_reducible refine ite_k ?_ ?_
    | with_reducible refine foldl_k _ _ ?_ ?_
    | with_reducible refine foldl_fst_k _ _ _ ?_ ?_
    | intro _ _ _
    | split
    | refine fst_k (by with_reducible assumption) ?_
    | fail_if_no_progress with_reducible refine hK.build ?_ rfl

theorem State.drainMch_k (hK : Loose 0x2000 K) {s : State} (h : K s) (n x : Nat) :
    K (State.drainMch s n x) := by
  unfold State.drainMch
  try dsimp only
  repeat' first
    | with_reducible assumption
    | with_reducible refine State.updLane_k (hK.mono (by decide)) ?_ _ _
    | with_reducible refine ite_k ?_ ?_
    | with_reducible refine foldl_k _ _ ?_ ?_
    | with_reducible refine foldl_fst_k _ _ _ ?_ ?_
    | intro _ _ _
    | split
    | refine fst_k (by with_reducible assumption) ?_

theorem State.sendTraffic_k (hK : Loose 0x60000000000000000002000000000000000002000 K) {s : State} (h : K s) (n f : Nat) :
    K (State.sendTraffic s n f) := by
  unfold State.sendTraffic
  try dsimp only
  repeat' first
    | with_reducible assumption
    | decide
    | rfl
    | (dsimp only [Ev.plus]; decide)
    | (show regOk _ _ = true; split <;> decide)
    | with_reducible refine State.updLane_k (hK.mono (by decide)) ?_ _ _
    | with_reducible refine State.setFlag_k hK ?_ _ _ _ ?_
    | with_reducible refine State.drainMch_k (hK.mono (by decide)) ?_ _ _
    | with_reducible refine ite_k ?_ ?_
    | with_reducible refine foldl_k _ _ ?_ ?_
    | with_reducible refine foldl_fst_k _ _ _ ?_ ?_
    | intro _ _ _
    | split
    | refine fst_k (by with_reducible assumption) ?_
    | fail_if_no_progress with_reducible refine hK.build ?_ rfl

theorem State.takeRestart_k (hK : Loose 0x40000000000000000000000000000000000000000000000000000000000000000000000000000000000000000000000000000000800000000000000000000000000014000000009ffb1e00090003041a01a00000020000000002c00 K) {s : State} (h : K s) (n : Nat) :
    K (State.takeRestart s n) := by
  unfold State.takeRestart
  try dsimp only
  repeat' first
    | with_reducible assumption
    | with_reducible refine State.restartLane_k (hK.mono (by decide)) ?_ _
    | with_reducible refine ite_k ?_ ?_
    | with_reducible refine foldl_k _ _ ?_ ?_
    | with_reducible refine foldl_fst_k _ _ _ ?_ ?_
    | intro _ _ _
    | split
    | refine fst_k (by with_reducible assumption) ?_

theorem State.platePart_k (hK : Loose 0x20000000080000000000000000000000000000000000000000000000000000000000000000000000000000004f100028081f40000000000000000400000000000000000000000000000000000000000000000001000060002c00 K) {s : State} (h : K s) (p f : Nat) :
    K (State.platePart s p f) := by
  unfold State.platePart
  try dsimp only
  repeat' first
    | with_reducible assumption
    | with_reducible refine State.readPort_k (hK.mono (by decide)) ?_ _ _ _
    | with_reducible refine State.updLane_k (hK.mono (by decide)) ?_ _ _
    | with_reducible refine State.countSent_k (hK.mono (by decide)) ?_ _ _ _ _ _
    | with_reducible refine State.watchPegs_k (hK.mono (by decide)) ?_ _ _ _
    | with_reducible refine ite_k ?_ ?_
    | split
    | refine fst_k (by with_reducible assumption) ?_
    | with_reducible refine foldl_k _ _ ?_ ?_
    | with_reducible refine foldl_fst_k _ _ _ ?_ ?_
    | intro _ _ _
    | fail_if_no_progress with_reducible refine hK.build ?_ rfl

theorem State.sendNothing_k (hK : Loose 0x2000000000000000002000 K) {s : State} (h : K s) (n : Nat) :
    K (State.sendNothing s n) := by
  unfold State.sendNothing
  try dsimp only
  repeat' first
    | with_reducible assumption
    | decide
    | rfl
    | (dsimp only [Ev.plus]; decide)
    | (show regOk _ _ = true; split <;> decide)
    | with_reducible refine State.updLane_k (hK.mono (by decide)) ?_ _ _
    | with_reducible refine State.setFlag_k hK ?_ _ _ _ ?_
    | fail_if_no_progress with_reducible refine hK.build ?_ rfl

theorem execTxFrame_k (hK : Loose 0x40020000000080000000000000000000000000000000000000000000000000000000000000000000000000000004f100028081f480000000000000004000000000001400000000fffb1e000900fb041a03e00000021000060002c00 K) {s : State} (h : K s) (n : LaneIx) :
    ∃ z, execTxFrame n s = .next z ∧ K z := by
  unfold execTxFrame
  refine ⟨_, rfl, ?_⟩
  try dsimp only
  repeat' first
    | with_reducible assumption
    | decide
    | rfl
    | (dsimp only [Ev.plus]; decide)
    | (show regOk _ _ = true; split <;> decide)
    | with_reducible refine State.takeRestart_k (hK.mono (by decide)) ?_ _
    | with_reducible refine State.platePart_k (hK.mono (by decide)) ?_ _ _
    | with_reducible refine State.sendNothing_k (hK.mono (by decide)) ?_ _
    | with_reducible refine State.sendTraffic_k (hK.mono (by decide)) ?_ _ _
    | with_reducible refine State.sendTraining_k (hK.mono (by decide)) ?_ _ _
    | with_reducible refine State.setFld_k hK ?_ _ _ _ ?_
    | with_reducible refine ite_k ?_ ?_

end Sys2Proof.Machine
end

