-- ==== Sys2Proof/Laws/FootAccess.lean ====
section
/-! SUPPORT. What the operations and commands of Machine/Access.lean may change (Laws/Loose.lean). -/

set_option Elab.async false
set_option linter.unusedTactic false
set_option linter.unreachableTactic false

namespace Sys2Proof.Machine

variable {K : State → Prop}

theorem State.dropWrite_k (hK : Loose 0x1c20000000000000000000000000000000000000000000000000000000000000000000000000000000000000000000000000000000000000000000000000000000000000000000000000e00 K) {s : State} (h : K s) (p a : Nat) :
    K (State.dropWrite s p a) := by
  unfold State.dropWrite
  try dsimp only
  repeat' first
    | with_reducible assumption
    | decide
    | rfl
    | (dsimp only [Ev.plus]; decide)
    | (show regOk _ _ = true; split <;> decide)
    | with_reducible refine State.satFld_k hK ?_ _ _ _ ?_
    | with_reducible refine State.setFld_k hK ?_ _ _ _ ?_
    | with_reducible refine State.latchAs_k hK (by decide) ?_ _ _ _ _ ?_
    | with_reducible refine State.answer_k (hK.mono (by decide)) ?_ _ _
    | with_reducible refine ite_k ?_ ?_
    | fail_if_no_progress with_reducible refine hK.build ?_ rfl

theorem State.tooEarly_k (hK : Loose 0x200 K) {s : State} (h : K s) (m : Nat) :
    K (State.tooEarly s m) := by
  unfold State.tooEarly
  try dsimp only
  repeat' first
    | with_reducible assumption
    | with_reducible refine State.answer_k (hK.mono (by decide)) ?_ _ _
    | with_reducible refine ite_k ?_ ?_

theorem State.park_k (hK : Loose 0x200000000000000000000000000000000000000000000000000000000000000000000000000000000000000000000000000000000000000000000000000000000000000000000000000000000000 K) {s : State} (h : K s) (m : Nat) (y0 : Place) :
    K (State.park s m y0) := by
  unfold State.park
  try dsimp only
  repeat' first
    | with_reducible assumption
    | decide
    | rfl
    | (dsimp only [Ev.plus]; decide)
    | (show regOk _ _ = true; split <;> decide)
    | with_reducible refine State.setFld_k hK ?_ _ _ _ ?_
    | with_reducible refine ite_k ?_ ?_
    | split
    | refine fst_k (by with_reducible assumption) ?_

theorem State.lockRead_k (hK : Loose 0x400000000000000 K) {s : State} (h : K s) (m k : Nat) :
    K (State.lockRead s m k).1 := by
  unfold State.lockRead
  dsimp only
  split <;> split
  all_goals first
    | exact h
    | exact State.writeLe_in hK (k := 58) (by decide) h _ _ _ (area_lock s k)

theorem State.lockWrite_k (hK : Loose 0x2000000000000000000000000000000000000000000000000000000000000000000000000000000000000000000000000000000000000000000000000000000000000000000000000400000000000c00 K) {s : State} (h : K s) (m k w : Nat) :
    K (State.lockWrite s m k w) := by
  unfold State.lockWrite
  refine ite_k (State.writeLe_in hK (k := 58) (by decide) h _ _ _ (area_lock s k)) ?_
  exact State.latch_k hK (by decide) h _ _ (by decide)

theorem State.breakLocks_k (hK : Loose 0x2000000000000000000000000000000000000000000000000000000000000000000000000000000000000000000000000000000000000000000000000000000000000000000000000400000000000c00 K) {s : State} (h : K s) (m : Nat) :
    K (State.breakLocks s m) := by
  unfold State.breakLocks
  refine ite_k h (State.latch_k hK (by decide) (foldl_k _ _ h ?_) _ _ (by decide))
  intro t k ht
  exact State.writeLe_in hK (k := 58) (by decide) ht _ _ _ (area_lock t k)

theorem State.latchHigh_k (hK : Loose 0x10 K) {s : State} (h : K s) (m off v : Nat) :
    K (State.latchHigh s m off v) := by
  unfold State.latchHigh
  try dsimp only
  repeat' first
    | with_reducible assumption
    | fail_if_no_progress with_reducible refine hK.build ?_ rfl

theorem State.holdChain_k (hK : Loose 0x80000000000 K) {s : State} (h : K s) (m off v : Nat) :
    K (State.holdChain s m off v) := by
  unfold State.holdChain
  try dsimp only
  repeat' first
    | with_reducible assumption
    | fail_if_no_progress with_reducible refine hK.build ?_ rfl

theorem State.readBankLow_k (hK : Loose 0x80000000010 K) {s : State} (h : K s) (m c off step : Nat) :
    K (State.readBankLow s m c off step).1 := by
  unfold State.readBankLow
  try dsimp only
  repeat' first
    | with_reducible assumption
    | with_reducible refine State.latchHigh_k (hK.mono (by decide)) ?_ _ _ _
    | with_reducible refine State.holdChain_k (hK.mono (by decide)) ?_ _ _ _
    | with_reducible refine ite_k ?_ ?_
    | split
    | refine fst_k (by with_reducible assumption) ?_
    | fail_if_no_progress with_reducible refine hK.build ?_ rfl

theorem State.readPegRec_k (hK : Loose 0x1000000000000 K) {s : State} (h : K s) (m : Nat) :
    K (State.readPegRec s m).1 := by
  unfold State.readPegRec
  try dsimp only
  repeat' first
    | with_reducible assumption
    | fail_if_no_progress with_reducible refine hK.build ?_ rfl

theorem State.imgProgress_k (hK : Loose 0x200000000000000000000000000000000000000000000000000000000000000000000000000000000000000000000000000000000000000000000000000000000000000100 K) {s : State} (h : K s) :
    K (State.imgProgress s) := by
  unfold State.imgProgress
  try dsimp only
  repeat' first
    | with_reducible assumption
    | decide
    | rfl
    | (dsimp only [Ev.plus]; decide)
    | (show regOk _ _ = true; split <;> decide)
    | with_reducible refine State.drawn_k (hK.mono (by decide)) ?_ 
    | with_reducible refine State.setFld_k hK ?_ _ _ _ ?_
    | with_reducible refine ite_k ?_ ?_
    | with_reducible refine foldl_k _ _ ?_ ?_
    | with_reducible refine foldl_fst_k _ _ _ ?_ ?_
    | intro _ _ _
    | split
    | refine fst_k (by with_reducible assumption) ?_

theorem State.readReg_k (hK : Loose 0x2000000000000000000000000000000000000000000000000000000000000000000000000000000000000000000000000000000000000000000000000000010800908001d0 K) {s : State} (h : K s) (m : Nat) (r : Reg) (i off : Nat) :
    K (State.readReg s m r i off).1 := by
  unfold State.readReg
  try dsimp only
  repeat' first
    | with_reducible assumption
    | with_reducible refine State.readMember_k (hK.mono (by decide)) ?_ _ _
    | with_reducible refine State.readMrec_k (hK.mono (by decide)) ?_ _
    | with_reducible refine State.readPegRec_k (hK.mono (by decide)) ?_ _
    | with_reducible refine State.readBankLow_k (hK.mono (by decide)) ?_ _ _ _ _
    | with_reducible refine State.latchHigh_k (hK.mono (by decide)) ?_ _ _ _
    | with_reducible refine State.bankCycle_k (hK.mono (by decide)) ?_ _
    | with_reducible refine State.imgProgress_k (hK.mono (by decide)) ?_
    | with_reducible refine ite_k ?_ ?_
    | split
    | refine fst_k (by with_reducible assumption) ?_
    | with_reducible refine foldl_k _ _ ?_ ?_
    | with_reducible refine foldl_fst_k _ _ _ ?_ ?_
    | intro _ _ _
    | fail_if_no_progress with_reducible refine hK.build ?_ rfl

theorem State.readFixedSnap_k (hK : Loose 0x10 K) {s : State} (h : K s) (m off : Nat) :
    K (State.readFixedSnap s m off).1 := by
  unfold State.readFixedSnap
  dsimp only
  split
  · exact State.latchHigh_k (hK.mono (by decide)) h _ _ _
  · exact h

theorem State.readRegAt_k (hK : Loose 0x2000000000000000000000000000000000000000000000000000000000000000000000000000000000000000000000000000000000000000000000000000010800908001d0 K) {s : State} (h : K s) (m off : Nat) :
    K (State.readRegAt s m off).1 := by
  unfold State.readRegAt
  try dsimp only
  repeat' first
    | with_reducible assumption
    | with_reducible refine State.readReg_k (hK.mono (by decide)) ?_ _ _ _ _
    | with_reducible refine State.readFixedSnap_k (hK.mono (by decide)) ?_ _ _
    | with_reducible refine ite_k ?_ ?_
    | split
    | refine fst_k (by with_reducible assumption) ?_
    | fail_if_no_progress with_reducible refine hK.build ?_ rfl

theorem State.tallyWord_k (hK : Loose 0x100 K) {s : State} (h : K s) (t : Nat) :
    K (State.tallyWord s t).1 := by
  unfold State.tallyWord
  try dsimp only
  repeat' first
    | with_reducible assumption
    | with_reducible refine State.drawn_k (hK.mono (by decide)) ?_ 
    | with_reducible refine ite_k ?_ ?_
    | with_reducible refine foldl_k _ _ ?_ ?_
    | with_reducible refine foldl_fst_k _ _ _ ?_ ?_
    | intro _ _ _
    | split
    | refine fst_k (by with_reducible assumption) ?_
    | fail_if_no_progress with_reducible refine hK.build ?_ rfl

theorem State.readMap_k (hK : Loose 0x10 K) {s : State} (h : K s) (m off : Nat) :
    K (State.readMap s m off).1 := by
  unfold State.readMap
  dsimp only
  split
  · exact State.latchHigh_k (hK.mono (by decide)) h _ _ _
  · exact h

theorem State.readPlace_k (hK : Loose 0x1000000000000000000000000000002000000000000000000000000000000000000000000000000000000000000000000000000000000000000000000000000000000000000000000000000004010800908001d0 K) {s : State} (h : K s) (m a : Nat) (y0 : Place) :
    K (State.readPlace s m a y0).1 := by
  unfold State.readPlace
  try dsimp only
  repeat' first
    | with_reducible assumption
    | with_reducible refine State.readRegAt_k (hK.mono (by decide)) ?_ _ _
    | with_reducible refine State.tallyWord_k (hK.mono (by decide)) ?_ _
    | with_reducible refine State.lockRead_k (hK.mono (by decide)) ?_ _ _
    | with_reducible refine State.readMap_k (hK.mono (by decide)) ?_ _ _
    | with_reducible refine State.readUnits_k (hK.mono (by decide)) ?_ _
    | split
    | refine fst_k (by with_reducible assumption) ?_
    | with_reducible refine ite_k ?_ ?_
    | with_reducible refine foldl_k _ _ ?_ ?_
    | with_reducible refine foldl_fst_k _ _ _ ?_ ?_
    | intro _ _ _
    | fail_if_no_progress with_reducible refine hK.build ?_ rfl

theorem State.readPriv_k (hK : Loose 0x10000000001e600000000000000000200000000000000000000000000000000000000000000000000000000000000000000000000000000000000000000000000000000000000000000000000401080090800fd0 K) {s : State} (h : K s) (m a : Nat) (bar2 : Bool) :
    K (State.readPriv s m a bar2) := by
  unfold State.readPriv
  try dsimp only
  repeat' first
    | with_reducible assumption
    | with_reducible refine State.defaultHit_k (hK.mono (by decide)) ?_ _ _
    | with_reducible refine State.park_k (hK.mono (by decide)) ?_ _ _
    | with_reducible refine State.readPlace_k (hK.mono (by decide)) ?_ _ _ _
    | with_reducible refine State.answer_k (hK.mono (by decide)) ?_ _ _
    | with_reducible refine State.tooEarly_k (hK.mono (by decide)) ?_ _
    | with_reducible refine ite_k ?_ ?_
    | split
    | refine fst_k (by with_reducible assumption) ?_
    | fail_if_no_progress with_reducible refine hK.build ?_ rfl

theorem State.readWide_k (hK : Loose 0x10000000001e400000000000000000000000000000000000000000000000000000000000000000000000000000000000000000000000000000000000000000000000000000000000000000000000000000000e00 K) {s : State} (h : K s) (m a : Nat) :
    K (State.readWide s m a) := by
  unfold State.readWide
  try dsimp only
  repeat' first
    | with_reducible assumption
    | with_reducible refine State.answer_k (hK.mono (by decide)) ?_ _ _
    | with_reducible refine State.defaultHit_k (hK.mono (by decide)) ?_ _ _
    | with_reducible refine State.tooEarly_k (hK.mono (by decide)) ?_ _
    | with_reducible refine State.readUnits_k (hK.mono (by decide)) ?_ _
    | with_reducible refine ite_k ?_ ?_
    | with_reducible refine foldl_k _ _ ?_ ?_
    | with_reducible refine foldl_fst_k _ _ _ ?_ ?_
    | intro _ _ _
    | split
    | refine fst_k (by with_reducible assumption) ?_

theorem State.readOpen_k (hK : Loose 0x1e600000000000000000200000000000000000000000000000000000000000000000000000000000000000000000000000000000000000000000000000000000000000000000000001080090800fd0 K) {s : State} (h : K s) (m x : Nat) :
    K (State.readOpen s m x) := by
  unfold State.readOpen
  try dsimp only
  repeat' first
    | with_reducible assumption
    | with_reducible refine State.defaultHit_k (hK.mono (by decide)) ?_ _ _
    | with_reducible refine State.tooEarly_k (hK.mono (by decide)) ?_ _
    | with_reducible refine State.park_k (hK.mono (by decide)) ?_ _ _
    | with_reducible refine State.readRegAt_k (hK.mono (by decide)) ?_ _ _
    | with_reducible refine State.answer_k (hK.mono (by decide)) ?_ _ _
    | with_reducible refine ite_k ?_ ?_
    | split
    | refine fst_k (by with_reducible assumption) ?_
    | fail_if_no_progress with_reducible refine hK.build ?_ rfl

theorem State.readStorage_k (hK : Loose 0x10000000001e400000000000000000000000000000000000000000000000000000000000000000000000000000000000000000000000000000000000000000000000000000000000000000000000000000000e00 K) {s : State} (h : K s) (m a n : Nat) :
    K (State.readStorage s m a n) := by
  unfold State.readStorage
  try dsimp only
  repeat' first
    | with_reducible assumption
    | with_reducible refine State.answer_k (hK.mono (by decide)) ?_ _ _
    | with_reducible refine State.readUnits_k (hK.mono (by decide)) ?_ _
    | with_reducible refine State.defaultHit_k (hK.mono (by decide)) ?_ _ _
    | with_reducible refine State.tooEarly_k (hK.mono (by decide)) ?_ _
    | with_reducible refine ite_k ?_ ?_
    | with_reducible refine foldl_k _ _ ?_ ?_
    | with_reducible refine foldl_fst_k _ _ _ ?_ ?_
    | intro _ _ _
    | split
    | refine fst_k (by with_reducible assumption) ?_

theorem State.readView_k (hK : Loose 0x10000000001e600000000000000000200000000000000000000000000000000000000000000000000000000000000000000000000000000000000000000000000000000000000000000000000401080090800fd0 K) {s : State} (h : K s) (m : Nat) (v : View) :
    K (State.readView s m v) := by
  unfold State.readView
  try dsimp only
  repeat' first
    | with_reducible assumption
    | with_reducible refine State.readPriv_k (hK.mono (by decide)) ?_ _ _ _
    | with_reducible refine State.readOpen_k (hK.mono (by decide)) ?_ _ _
    | with_reducible refine State.readStorage_k (hK.mono (by decide)) ?_ _ _ _
    | with_reducible refine State.answer_k (hK.mono (by decide)) ?_ _ _
    | with_reducible refine State.defaultHit_k (hK.mono (by decide)) ?_ _ _
    | split
    | refine fst_k (by with_reducible assumption) ?_
    | with_reducible refine ite_k ?_ ?_
    | with_reducible refine foldl_k _ _ ?_ ?_
    | with_reducible refine foldl_fst_k _ _ _ ?_ ?_
    | intro _ _ _
    | fail_if_no_progress with_reducible refine hK.build ?_ rfl

theorem State.readRun_k (hK : Loose 0x200 K) {s : State} (h : K s) (read : State → Nat → State) (addrs : List Nat)
    (hr : ∀ t a, K t → K (read t a)) : K (s.readRun read addrs) := by
  unfold State.readRun
  refine State.answer_k (hK.mono (by decide)) ?_ _ _
  exact foldl_fst_k _ _ _ h (fun q x hq => hr _ _ hq)

end Sys2Proof.Machine
end

