-- ==== Sys2Proof/Laws/FootOwner.lean ====
section
/-! SUPPORT. What the operations and commands of Machine/Owner.lean may change (Laws/Loose.lean). -/

set_option Elab.async false
set_option linter.unusedTactic false
set_option linter.unreachableTactic false

namespace Sys2Proof.Machine

variable {K : State → Prop}

theorem State.updOwn_k (hK : Loose 0x1000000000 K) {s : State} (h : K s) (f : Owning → Owning) :
    K (State.updOwn s f) := by
  unfold State.updOwn
  try dsimp only
  repeat' first
    | with_reducible assumption
    | fail_if_no_progress with_reducible refine hK.build ?_ rfl

theorem State.showLeft_k (hK : Loose 0x10000000000000000000000000000000000000000000000000000000000000000000000000000000000000000000000000000000000000000000000000000000000000000000000000000 K) {s : State} (h : K s) :
    K (State.showLeft s) := by
  unfold State.showLeft
  try dsimp only
  repeat' first
    | with_reducible assumption
    | decide
    | rfl
    | (dsimp only [Ev.plus]; decide)
    | (show regOk _ _ = true; split <;> decide)
    | with_reducible refine State.setFld_k hK ?_ _ _ _ ?_
    | with_reducible refine ite_k ?_ ?_
    | split
    | refine fst_k (by with_reducible assumption) ?_

theorem State.endHandover_k (hK : Loose 0xc000000000000000000000000000000000000000000000000000000000000000000000000000000000000000000000000000000000000000000000000000000000000000000000000000 K) {s : State} (h : K s) :
    K (State.endHandover s) := by
  unfold State.endHandover
  try dsimp only
  repeat' first
    | with_reducible assumption
    | decide
    | rfl
    | (dsimp only [Ev.plus]; decide)
    | (show regOk _ _ = true; split <;> decide)
    | with_reducible refine State.setFlag_k hK ?_ _ _ _ ?_
    | with_reducible refine State.setFld_k hK ?_ _ _ _ ?_

theorem State.cancelHandover_k (hK : Loose 0x2c000000000000000000000000000000000000000000000000000000000000000000000000000000000000000000000000000000000000000000000000000000000000000000000000c00 K) {s : State} (h : K s) :
    K (State.cancelHandover s) := by
  unfold State.cancelHandover
  try dsimp only
  repeat' first
    | with_reducible assumption
    | decide
    | rfl
    | (dsimp only [Ev.plus]; decide)
    | (show regOk _ _ = true; split <;> decide)
    | with_reducible refine State.endHandover_k (hK.mono (by decide)) ?_ 
    | with_reducible refine State.latchFor_k hK (by decide) ?_ _ _ ?_
    | with_reducible refine ite_k ?_ ?_

theorem State.endOwner_k (hK : Loose 0x12000000000000000000000000000000000000000000000000000000000000000000000000000000000000000000000000000000000000000000000000000000000000000001000000000 K) {s : State} (h : K s) :
    K (State.endOwner s) := by
  unfold State.endOwner
  try dsimp only
  repeat' first
    | with_reducible assumption
    | decide
    | rfl
    | (dsimp only [Ev.plus]; decide)
    | (show regOk _ _ = true; split <;> decide)
    | with_reducible refine State.setFld_k hK ?_ _ _ _ ?_
    | with_reducible refine State.updOwn_k (hK.mono (by decide)) ?_ _
    | fail_if_no_progress with_reducible refine hK.build ?_ rfl

theorem State.opClaim_k (hK : Loose 0x20000000000000000000000000000000000000000000000000000000000000000000000000000000000000000000000000000000000000000000000000000000000000000001000000c00 K) {s : State} (h : K s) (p token : Nat) :
    K (State.opClaim s p token) := by
  unfold State.opClaim
  try dsimp only
  repeat' first
    | with_reducible assumption
    | decide
    | rfl
    | (dsimp only [Ev.plus]; decide)
    | (show regOk _ _ = true; split <;> decide)
    | with_reducible refine State.updOwn_k (hK.mono (by decide)) ?_ _
    | with_reducible refine State.latchFor_k hK (by decide) ?_ _ _ ?_
    | with_reducible refine ite_k ?_ ?_
    | split
    | refine fst_k (by with_reducible assumption) ?_
    | fail_if_no_progress with_reducible refine hK.build ?_ rfl

theorem State.opRenew_k (hK : Loose 0x30000000000000000000000000000000000000000000000000000000000000000000000000000000000000000000000000000000000000000000000000000000000000000001000000c00 K) {s : State} (h : K s) (p token : Nat) :
    K (State.opRenew s p token) := by
  unfold State.opRenew
  try dsimp only
  repeat' first
    | with_reducible assumption
    | decide
    | rfl
    | (dsimp only [Ev.plus]; decide)
    | (show regOk _ _ = true; split <;> decide)
    | with_reducible refine State.updOwn_k (hK.mono (by decide)) ?_ _
    | with_reducible refine State.showLeft_k (hK.mono (by decide)) ?_ 
    | with_reducible refine State.latchFor_k hK (by decide) ?_ _ _ ?_
    | with_reducible refine ite_k ?_ ?_
    | fail_if_no_progress with_reducible refine hK.build ?_ rfl

theorem State.opRelease_k (hK : Loose 0x2c000000000000000000000000000000000000000000000000000000000000000000000000000000000000000000000000000000000000000000000000000000000000000001000000c00 K) {s : State} (h : K s) (p token : Nat) :
    K (State.opRelease s p token) := by
  unfold State.opRelease
  try dsimp only
  repeat' first
    | with_reducible assumption
    | decide
    | rfl
    | (dsimp only [Ev.plus]; decide)
    | (show regOk _ _ = true; split <;> decide)
    | with_reducible refine State.cancelHandover_k (hK.mono (by decide)) ?_ 
    | with_reducible refine State.updOwn_k (hK.mono (by decide)) ?_ _
    | with_reducible refine State.latchFor_k hK (by decide) ?_ _ _ ?_
    | with_reducible refine ite_k ?_ ?_
    | fail_if_no_progress with_reducible refine hK.build ?_ rfl

theorem State.opHandover_k (hK : Loose 0x2c000000000000000000000000000000000000000000000000000000000000000000000000000000000000000000000000000000000000000000000000000000000000000001000000c00 K) {s : State} (h : K s) (p token q : Nat) :
    K (State.opHandover s p token q) := by
  unfold State.opHandover
  try dsimp only
  repeat' first
    | with_reducible assumption
    | decide
    | rfl
    | (dsimp only [Ev.plus]; decide)
    | (show regOk _ _ = true; split <;> decide)
    | with_reducible refine State.setFlag_k hK ?_ _ _ _ ?_
    | with_reducible refine State.setFld_k hK ?_ _ _ _ ?_
    | with_reducible refine State.updOwn_k (hK.mono (by decide)) ?_ _
    | with_reducible refine State.latchFor_k hK (by decide) ?_ _ _ ?_
    | with_reducible refine ite_k ?_ ?_
    | fail_if_no_progress with_reducible refine hK.build ?_ rfl

theorem State.ownOp_k (hK : Loose 0x3c000000000000000000000000000000000000000000000000000000000000000000000000000000000000000000000000000000000000000000000000000000000000000001000000c00 K) {s : State} (h : K s) (p token w : Nat) :
    K (State.ownOp s p token w) := by
  unfold State.ownOp
  try dsimp only
  repeat' first
    | with_reducible assumption
    | decide
    | rfl
    | (dsimp only [Ev.plus]; decide)
    | (show regOk _ _ = true; split <;> decide)
    | with_reducible refine State.opClaim_k (hK.mono (by decide)) ?_ _ _
    | with_reducible refine State.opRenew_k (hK.mono (by decide)) ?_ _ _
    | with_reducible refine State.opRelease_k (hK.mono (by decide)) ?_ _ _
    | with_reducible refine State.opHandover_k (hK.mono (by decide)) ?_ _ _ _
    | with_reducible refine State.latchFor_k hK (by decide) ?_ _ _ ?_
    | with_reducible refine ite_k ?_ ?_

theorem State.grant_k (hK : Loose 0x3e000000000000000000000000000000000000000000000000000000000000000000000000000000000000000000000000000000000000000000000000000000000000000001000000c00 K) {s : State} (h : K s) (c : Nat × Nat) :
    K (State.grant s c) := by
  unfold State.grant
  try dsimp only
  repeat' first
    | with_reducible assumption
    | decide
    | rfl
    | (dsimp only [Ev.plus]; decide)
    | (show regOk _ _ = true; split <;> decide)
    | with_reducible refine State.endHandover_k (hK.mono (by decide)) ?_ 
    | with_reducible refine State.setFld_k hK ?_ _ _ _ ?_
    | with_reducible refine State.updOwn_k (hK.mono (by decide)) ?_ _
    | with_reducible refine State.showLeft_k (hK.mono (by decide)) ?_ 
    | with_reducible refine State.latchFor_k hK (by decide) ?_ _ _ ?_
    | fail_if_no_progress with_reducible refine hK.build ?_ rfl

theorem State.elect_k (hK : Loose 0x3e000000000000000000000000000000000000000000000000000000000000000000000000000000000000000000000000000000000000000000000000000000000000000001000000c00 K) {s : State} (h : K s) :
    K (State.elect s) := by
  unfold State.elect
  try dsimp only
  repeat' first
    | with_reducible assumption
    | decide
    | rfl
    | (dsimp only [Ev.plus]; decide)
    | (show regOk _ _ = true; split <;> decide)
    | with_reducible refine State.updOwn_k (hK.mono (by decide)) ?_ _
    | with_reducible refine State.latchFor_k hK (by decide) ?_ _ _ ?_
    | with_reducible refine State.grant_k (hK.mono (by decide)) ?_ _
    | with_reducible refine foldl_k _ _ ?_ ?_
    | with_reducible refine foldl_fst_k _ _ _ ?_ ?_
    | intro _ _ _
    | split
    | refine fst_k (by with_reducible assumption) ?_
    | fail_if_no_progress with_reducible refine hK.build ?_ rfl

theorem State.tickOwner_k (hK : Loose 0x3e000000000000000000000000000000000000000000000000000000000000000000000000000000000000000000000000000000000000000000000000000000000000000001000000c00 K) {s : State} (h : K s) :
    K (State.tickOwner s) := by
  unfold State.tickOwner
  try dsimp only
  repeat' first
    | with_reducible assumption
    | with_reducible refine State.endOwner_k (hK.mono (by decide)) ?_ 
    | with_reducible refine State.showLeft_k (hK.mono (by decide)) ?_ 
    | with_reducible refine State.elect_k (hK.mono (by decide)) ?_ 
    | with_reducible refine ite_k ?_ ?_
    | split
    | refine fst_k (by with_reducible assumption) ?_

theorem execLeaseExpiry_k (hK : Loose 0x3e000000000000000000000000000000000000000000000000000000000000000000000000000000000000000000000000000000000000000000000000000000000000000001000000c00 K) {s : State} (h : K s) :
    ∃ z, execLeaseExpiry s = .next z ∧ K z := by
  unfold execLeaseExpiry
  refine ⟨_, rfl, ?_⟩
  try dsimp only
  repeat' first
    | with_reducible assumption
    | decide
    | rfl
    | (dsimp only [Ev.plus]; decide)
    | (show regOk _ _ = true; split <;> decide)
    | with_reducible refine State.cancelHandover_k (hK.mono (by decide)) ?_ 
    | with_reducible refine State.latchFor_k hK (by decide) ?_ _ _ ?_
    | with_reducible refine State.endOwner_k (hK.mono (by decide)) ?_ 
    | with_reducible refine State.elect_k (hK.mono (by decide)) ?_ 
    | with_reducible refine ite_k ?_ ?_

theorem execHandoverTimeout_k (hK : Loose 0x2c000000000000000000000000000000000000000000000000000000000000000000000000000000000000000000000000000000000000000000000000000000000000000000000000c00 K) {s : State} (h : K s) :
    ∃ z, execHandoverTimeout s = .next z ∧ K z := by
  unfold execHandoverTimeout
  refine ⟨_, rfl, ?_⟩
  try dsimp only
  repeat' first
    | with_reducible assumption
    | with_reducible refine State.cancelHandover_k (hK.mono (by decide)) ?_ 
    | with_reducible refine ite_k ?_ ?_

theorem State.resetFunction_k (hK : Loose 0x800000000 K) {s : State} (h : K s) (p : Nat) :
    K (State.resetFunction s p) := by
  unfold State.resetFunction
  try dsimp only
  repeat' first
    | with_reducible assumption
    | fail_if_no_progress with_reducible refine hK.build ?_ rfl

theorem execOwnerPortLoss_k (hK : Loose 0x1800000000 K) {s : State} (h : K s) (p : Port) :
    ∃ z, execOwnerPortLoss p s = .next z ∧ K z := by
  unfold execOwnerPortLoss
  refine ⟨_, rfl, ?_⟩
  try dsimp only
  repeat' first
    | with_reducible assumption
    | with_reducible refine State.resetFunction_k (hK.mono (by decide)) ?_ _
    | with_reducible refine State.updOwn_k (hK.mono (by decide)) ?_ _
    | with_reducible refine ite_k ?_ ?_
    | fail_if_no_progress with_reducible refine hK.build ?_ rfl

end Sys2Proof.Machine
end

