-- ==== Sys2Proof/Laws/FootSnapshot.lean ====
section
/-! SUPPORT. What the operations and commands of Machine/Snapshot.lean may change (Laws/Loose.lean). -/

set_option Elab.async false
set_option linter.unusedTactic false
set_option linter.unreachableTactic false

namespace Sys2Proof.Machine

variable {K : State → Prop}

theorem State.zeroBank_k (hK : Loose 0x200000000000000000000000000000000000000000000000000000000000000000000000000000000000000000000000000000000000000000000000000000000000000000000000000000000000000000000000000080000000 K) {s : State} (h : K s) (c : Nat) :
    K (State.zeroBank s c) := by
  unfold State.zeroBank
  try dsimp only
  repeat' first
    | with_reducible assumption
    | decide
    | rfl
    | (dsimp only [Ev.plus]; decide)
    | (show regOk _ _ = true; split <;> decide)
    | with_reducible refine State.setFld_k hK ?_ _ _ _ ?_
    | with_reducible refine ite_k ?_ ?_
    | with_reducible refine foldl_k _ _ ?_ ?_
    | with_reducible refine foldl_fst_k _ _ _ ?_ ?_
    | intro _ _ _
    | split
    | refine fst_k (by with_reducible assumption) ?_
    | fail_if_no_progress with_reducible refine hK.build ?_ rfl

theorem State.clearHist_k (hK : Loose 0x810000000000000000000000000000000000000000000000000000000000000000000000000000000000000000000000000000000000000000000000000000000000000000000000000000000000000000000000000000000002 K) {s : State} (h : K s) (k : Nat) :
    K (State.clearHist s k) := by
  unfold State.clearHist
  refine State.setFld_k hK ?_ _ _ _ (by decide)
  refine hK.build h rfl (hr := fun id hi => Tab.get_put_ne _ _ _ ?_)
  intro e
  rw [e] at hi
  exact absurd hi (by decide)

theorem State.settleTick_k (hK : Loose 0x200000000800000000000000000000000000000000000000000000000000000000000000000000000000000000000000000000000000000000000000000000000000000000000000000000000000000000000000000080000c00 K) {s : State} (h : K s) :
    K (State.settleTick s) := by
  unfold State.settleTick
  try dsimp only
  repeat' first
    | with_reducible assumption
    | with_reducible refine State.countTick_k (hK.mono (by decide)) ?_ 
    | with_reducible refine ite_k ?_ ?_
    | with_reducible refine foldl_k _ _ ?_ ?_
    | with_reducible refine foldl_fst_k _ _ _ ?_ ?_
    | intro _ _ _
    | split
    | refine fst_k (by with_reducible assumption) ?_

theorem State.freeze_k (hK : Loose 0x1400000000000000000000000000000000000000000000000000000000000000000000000000000000000000000000000000000000000000000000000000000000000000000000000000000000000000000040000040000000002 K) {s : State} (h : K s) :
    K (State.freeze s) := by
  unfold State.freeze
  refine State.setFld_k hK ?_ _ _ _ (by decide)
  refine hK.build h rfl (hr := fun id hi => ?_)
  refine (Tab.get_put_ne _ _ _ ?_).trans (Tab.get_put_ne _ _ _ ?_) <;> intro e <;> rw [e] at hi <;> exact absurd hi (by decide)

theorem State.archiveSnap_k (hK : Loose 0x800000000000 K) {s : State} (h : K s) :
    K (State.archiveSnap s) := by
  unfold State.archiveSnap
  try dsimp only
  repeat' first
    | with_reducible assumption
    | with_reducible refine ite_k ?_ ?_
    | fail_if_no_progress with_reducible refine hK.build ?_ rfl

theorem State.clearOnSnap_k (hK : Loose 0xa10000000000000000000000000000000000000000000000000000000000000000000000000000000000000000000000000000000000000000000000000000000000000000000000000000000000000000000000000080000002 K) {s : State} (h : K s) :
    K (State.clearOnSnap s) := by
  unfold State.clearOnSnap
  try dsimp only
  repeat' first
    | with_reducible assumption
    | with_reducible refine State.clearHist_k (hK.mono (by decide)) ?_ _
    | with_reducible refine State.zeroBank_k (hK.mono (by decide)) ?_ _
    | with_reducible refine ite_k ?_ ?_
    | with_reducible refine foldl_k _ _ ?_ ?_
    | with_reducible refine foldl_fst_k _ _ _ ?_ ?_
    | intro _ _ _

theorem State.snapNow_k (hK : Loose 0x1e10000000d00000000000000000000000000000000000000000000000000000000000000000000000000000000000000000000000000000000000000000000000000000000000000000000000000000000040000b40080000c02 K) {s : State} (h : K s) :
    K (State.snapNow s) := by
  unfold State.snapNow
  try dsimp only
  repeat' first
    | with_reducible assumption
    | decide
    | rfl
    | (dsimp only [Ev.plus]; decide)
    | (show regOk _ _ = true; split <;> decide)
    | with_reducible refine State.freeze_k (hK.mono (by decide)) ?_
    | with_reducible refine State.setFld_k hK ?_ _ _ _ ?_
    | with_reducible refine State.latch_k hK (by decide) ?_ _ _ ?_
    | with_reducible refine State.clearOnSnap_k (hK.mono (by decide)) ?_ 
    | with_reducible refine State.archiveSnap_k (hK.mono (by decide)) ?_ 
    | with_reducible refine State.addFld_k hK ?_ _ _ _ ?_
    | with_reducible refine ite_k ?_ ?_
    | with_reducible refine foldl_k _ _ ?_ ?_
    | with_reducible refine foldl_fst_k _ _ _ ?_ ?_
    | intro _ _ _
    | split
    | refine fst_k (by with_reducible assumption) ?_
    | fail_if_no_progress with_reducible refine hK.build ?_ rfl

end Sys2Proof.Machine
end

