-- ==== Sys2Proof/Laws/FootCommit.lean ====
section
/-! SUPPORT. What the operations and commands of Machine/Commit.lean may change (Laws/Loose.lean). -/

set_option Elab.async false
set_option linter.unusedTactic false
set_option linter.unreachableTactic false

namespace Sys2Proof.Machine

variable {K : State → Prop}

theorem given_table : ∀ r ∈ regTable, ∀ c ∈ r.slices, c.fld.given = true → fixedBase c.fld.id = false := by decide +kernel

/-- The two bases are no field that a commit, an image or the mate gives. -/
theorem given_free {id : Nat} {f : Fld} (h : (fieldOf id).filter Fld.given = some f) : fixedBase f.id = false := by
  obtain ⟨h1, hg⟩ := Option.filter_eq_some_iff.mp h
  obtain ⟨r, hr, h2⟩ := List.exists_of_findSome?_eq_some h1
  obtain ⟨c, hc, h3⟩ := List.exists_of_findSome?_eq_some h2
  split at h3
  · have e : c.fld = f := Option.some.inj h3
    exact e ▸ given_table r hr c hc (e.symm ▸ hg)
  · cases h3

theorem State.activate_k (hK : Loose 0x8000000000000004 K) {s : State} (h : K s) (id i x : Nat) :
    K (State.activate s id i x) := by
  unfold State.activate
  split
  · exact h
  · next f hf =>
    have hb : fixedBase f.id = false := given_free hf
    dsimp only
    split
    · exact State.setStg_k (hK.mono (by decide)) (State.setFld_k hK h _ _ _ (regOk_any (by decide) hb)) _ _ _
    · exact State.setFld_k hK h _ _ _ (regOk_any (by decide) hb)

theorem State.activateAll_k (hK : Loose 0x8000000000000004 K) {s : State} (h : K s) (v : Values) :
    K (State.activateAll s v) := by
  unfold State.activateAll
  try dsimp only
  repeat' first
    | with_reducible assumption
    | with_reducible refine State.activate_k (hK.mono (by decide)) ?_ _ _ _
    | with_reducible refine foldl_k _ _ ?_ ?_
    | with_reducible refine foldl_fst_k _ _ _ ?_ ?_
    | intro _ _ _

theorem State.groupCommitted_k (hK : Loose 0x502000000000000000000000000000000000000000000000000000000000000000000000000000000000000c00 K) {s : State} (h : K s) (old : State) (g : Nat) :
    K (State.groupCommitted s old g) := by
  unfold State.groupCommitted
  try dsimp only
  repeat' first
    | with_reducible assumption
    | decide
    | rfl
    | (dsimp only [Ev.plus]; decide)
    | (show regOk _ _ = true; split <;> decide)
    | with_reducible refine State.setFld_k hK ?_ _ _ _ ?_
    | with_reducible refine State.latchIf_k hK (by decide) ?_ _ _ _ ?_
    | with_reducible refine ite_k ?_ ?_

theorem State.lamCommitted_k (hK : Loose 0x822000000000000000000000000000000000000000000000000000000000000000000000000000000000000000000000000000000000000000000078400000000000000000000000000000000000000000000000024000000000c00 K) {s : State} (h : K s) (old : State) :
    K (State.lamCommitted s old) := by
  unfold State.lamCommitted
  try dsimp only
  repeat' first
    | with_reducible assumption
    | decide
    | rfl
    | (dsimp only [Ev.plus]; decide)
    | (show regOk _ _ = true; split <;> decide)
    | with_reducible refine State.setFld_k hK ?_ _ _ _ ?_
    | with_reducible refine State.lamsIn_k (hK.mono (by decide)) ?_ 
    | with_reducible refine State.substDone_k (hK.mono (by decide)) ?_ _ _ _
    | with_reducible refine State.setFlag_k hK ?_ _ _ _ ?_
    | with_reducible refine State.latch_k hK (by decide) ?_ _ _ ?_
    | with_reducible refine State.moveShadow_k (hK.mono (by decide)) ?_ _
    | with_reducible refine ite_k ?_ ?_
    | with_reducible refine foldl_k _ _ ?_ ?_
    | with_reducible refine foldl_fst_k _ _ _ ?_ ?_
    | intro _ _ _
    | split
    | refine fst_k (by with_reducible assumption) ?_

theorem State.timingCommitted_k (hK : Loose 0x3000000000000000000000002000 K) {s : State} (h : K s) (old : State) (n : Nat) :
    K (State.timingCommitted s old n) := by
  unfold State.timingCommitted
  try dsimp only
  repeat' first
    | with_reducible assumption
    | decide
    | rfl
    | (dsimp only [Ev.plus]; decide)
    | (show regOk _ _ = true; split <;> decide)
    | with_reducible refine State.loopReturn_k (hK.mono (by decide)) ?_ _
    | with_reducible refine State.setFlag_k hK ?_ _ _ _ ?_
    | with_reducible refine ite_k ?_ ?_

theorem State.txInvCommitted_k (hK : Loose 0x2000 K) {s : State} (h : K s) (n : Nat) :
    K (State.txInvCommitted s n) := by
  unfold State.txInvCommitted
  try dsimp only
  repeat' first
    | with_reducible assumption
    | decide
    | rfl
    | (dsimp only [Ev.plus]; decide)
    | (show regOk _ _ = true; split <;> decide)
    | with_reducible refine State.updLane_k (hK.mono (by decide)) ?_ _ _
    | with_reducible refine State.setFlag_k hK ?_ _ _ _ ?_
    | with_reducible refine ite_k ?_ ?_
    | with_reducible refine foldl_k _ _ ?_ ?_
    | with_reducible refine foldl_fst_k _ _ _ ?_ ?_
    | intro _ _ _
    | split
    | refine fst_k (by with_reducible assumption) ?_

theorem State.syncCommitted_k (hK : Loose 0x800000000000000000000000000000000000009ffa0000000000000000000000020000000002c00 K) {s : State} (h : K s) (n : Nat) :
    K (State.syncCommitted s n) := by
  unfold State.syncCommitted
  try dsimp only
  repeat' first
    | with_reducible assumption
    | with_reducible refine State.undeclare_k (hK.mono (by decide)) ?_ _ _
    | with_reducible refine ite_k ?_ ?_
    | with_reducible refine foldl_k _ _ ?_ ?_
    | with_reducible refine foldl_fst_k _ _ _ ?_ ?_
    | intro _ _ _
    | split
    | refine fst_k (by with_reducible assumption) ?_

theorem State.refsCommitted_k (hK : Loose 0x297c00000000000000000000000000000000000000000000000000000000000000000000000000000000000000000000000000080000000 K) {s : State} (h : K s) (old : State) (i : Nat) :
    K (State.refsCommitted s old i) := by
  unfold State.refsCommitted
  try dsimp only
  repeat' first
    | with_reducible assumption
    | with_reducible refine State.refCommitted_k (hK.mono (by decide)) ?_ _ _ _ _

theorem State.countExempt_k (hK : Loose 0x80000000000000000000000000000000000000000000000000000000000000000000000000000000000000000000000000000000000000000000000000000000000000000000000000000000000000000000 K) {s : State} (h : K s) :
    K (State.countExempt s) := by
  unfold State.countExempt
  try dsimp only
  repeat' first
    | with_reducible assumption
    | decide
    | rfl
    | (dsimp only [Ev.plus]; decide)
    | (show regOk _ _ = true; split <;> decide)
    | with_reducible refine State.setFld_k hK ?_ _ _ _ ?_
    | with_reducible refine foldl_k _ _ ?_ ?_
    | with_reducible refine foldl_fst_k _ _ _ ?_ ?_
    | intro _ _ _

theorem State.committed_k (hK : Loose 0x822810000000000000080000000000000000000000000000000000000000000000002000297c0000000000000000050200000000800000000000007840000000000000000000009ffa0000000003000000000000025000081002c02 K) {s : State} (h : K s) (old : State) (v : Values) :
    K (State.committed s old v) := by
  unfold State.committed
  try dsimp only
  repeat' first
    | with_reducible assumption
    | with_reducible refine State.groupCommitted_k (hK.mono (by decide)) ?_ _ _
    | with_reducible refine State.lamCommitted_k (hK.mono (by decide)) ?_ _
    | with_reducible refine State.timingCommitted_k (hK.mono (by decide)) ?_ _ _
    | with_reducible refine State.refsCommitted_k (hK.mono (by decide)) ?_ _ _
    | with_reducible refine State.fpoutCommitted_k (hK.mono (by decide)) ?_ _ _
    | with_reducible refine State.countExempt_k (hK.mono (by decide)) ?_ 
    | with_reducible refine State.clearHist_k (hK.mono (by decide)) ?_ _
    | with_reducible refine State.txInvCommitted_k (hK.mono (by decide)) ?_ _
    | with_reducible refine State.makeStale_k (hK.mono (by decide)) ?_
    | with_reducible refine State.syncCommitted_k (hK.mono (by decide)) ?_ _
    | with_reducible refine ite_k ?_ ?_
    | with_reducible refine foldl_k _ _ ?_ ?_
    | with_reducible refine foldl_fst_k _ _ _ ?_ ?_
    | intro _ _ _
    | split
    | refine fst_k (by with_reducible assumption) ?_
    | fail_if_no_progress with_reducible refine hK.build ?_ rfl

theorem State.takeValues_k (hK : Loose 0x822810000000000000080000000000000000000000000000000000000000000000002000297c0000000000000000050200000000800000000000007840000000000000000000009ffa0000000003000000000008025000081002c06 K) {s : State} (h : K s) (v : Values) :
    K (State.takeValues s v) := by
  unfold State.takeValues
  try dsimp only
  repeat' first
    | with_reducible assumption
    | with_reducible refine State.activateAll_k (hK.mono (by decide)) ?_ _
    | with_reducible refine State.committed_k (hK.mono (by decide)) ?_ _ _

theorem State.unstage_k (hK : Loose 0x4 K) {s : State} (h : K s) (v : Values) :
    K (State.unstage s v) := by
  unfold State.unstage
  try dsimp only
  repeat' first
    | with_reducible assumption
    | with_reducible refine foldl_k _ _ ?_ ?_
    | with_reducible refine foldl_fst_k _ _ _ ?_ ?_
    | intro _ _ _
    | fail_if_no_progress with_reducible refine hK.build ?_ rfl

theorem State.keepPast_k (hK : Loose 0x100000000 K) {s : State} (h : K s) (v : Values) (cseq : Nat) :
    K (State.keepPast s v cseq) := by
  unfold State.keepPast
  try dsimp only
  repeat' first
    | with_reducible assumption
    | with_reducible refine ite_k ?_ ?_
    | with_reducible refine foldl_k _ _ ?_ ?_
    | with_reducible refine foldl_fst_k _ _ _ ?_ ?_
    | intro _ _ _
    | split
    | refine fst_k (by with_reducible assumption) ?_
    | fail_if_no_progress with_reducible refine hK.build ?_ rfl

theorem State.takeCommitRec_k (hK : Loose 0x822810000000000000080000000000000000002000000000000000000000000000002000297c0000000000000000050200000000800000000000007840000000000000000000009ffa0000000003000000000008025000181002c06 K) {s : State} (h : K s) (r : JRec) :
    K (State.takeCommitRec s r) := by
  unfold State.takeCommitRec
  try dsimp only
  repeat' first
    | with_reducible assumption
    | decide
    | rfl
    | (dsimp only [Ev.plus]; decide)
    | (show regOk _ _ = true; split <;> decide)
    | with_reducible refine State.unstage_k (hK.mono (by decide)) ?_ _
    | with_reducible refine State.takeValues_k (hK.mono (by decide)) ?_ _
    | with_reducible refine State.setFld_k hK ?_ _ _ _ ?_
    | with_reducible refine State.keepPast_k (hK.mono (by decide)) ?_ _ _
    | with_reducible refine ite_k ?_ ?_
    | with_reducible refine foldl_k _ _ ?_ ?_
    | with_reducible refine foldl_fst_k _ _ _ ?_ ?_
    | intro _ _ _
    | split
    | refine fst_k (by with_reducible assumption) ?_

theorem State.discard_k (hK : Loose 0x4 K) {s : State} (h : K s) :
    K (State.discard s) := by
  unfold State.discard
  try dsimp only
  repeat' first
    | with_reducible assumption
    | fail_if_no_progress with_reducible refine hK.build ?_ rfl

theorem State.commitCtrl_k (hK : Loose 0x800000000000000000000000000000000000000000000000000000000000000000000000000000000000000000000000000000000000000000000000000000000000000000000004 K) {s : State} (h : K s) (w : Nat) :
    K (State.commitCtrl s w) := by
  unfold State.commitCtrl
  try dsimp only
  repeat' first
    | with_reducible assumption
    | decide
    | rfl
    | (dsimp only [Ev.plus]; decide)
    | (show regOk _ _ = true; split <;> decide)
    | with_reducible refine State.discard_k (hK.mono (by decide)) ?_ 
    | with_reducible refine State.setFld_k hK ?_ _ _ _ ?_
    | with_reducible refine ite_k ?_ ?_

theorem State.tickCommit_k (hK : Loose 0x800000000000000000000000000000000000000000000000000000000000000000000000000000000000000000000000000000000000000000000000000000000000002000000000 K) {s : State} (h : K s) :
    K (State.tickCommit s) := by
  unfold State.tickCommit
  try dsimp only
  repeat' first
    | with_reducible assumption
    | decide
    | rfl
    | (dsimp only [Ev.plus]; decide)
    | (show regOk _ _ = true; split <;> decide)
    | with_reducible refine State.setFld_k hK ?_ _ _ _ ?_
    | with_reducible refine ite_k ?_ ?_
    | with_reducible refine foldl_k _ _ ?_ ?_
    | with_reducible refine foldl_fst_k _ _ _ ?_ ?_
    | intro _ _ _
    | split
    | refine fst_k (by with_reducible assumption) ?_
    | fail_if_no_progress with_reducible refine hK.build ?_ rfl

theorem State.commitEnds_k (hK : Loose 0x800000000000000000000000000000000000000000000000000000000000000000000000000000000000000000000000000000000000000000000000000000000000000000000000 K) {s : State} (h : K s) (v : Nat) :
    K (State.commitEnds s v) := by
  unfold State.commitEnds
  try dsimp only
  repeat' first
    | with_reducible assumption
    | decide
    | rfl
    | (dsimp only [Ev.plus]; decide)
    | (show regOk _ _ = true; split <;> decide)
    | with_reducible refine State.setFld_k hK ?_ _ _ _ ?_
    | with_reducible refine ite_k ?_ ?_
    | with_reducible refine foldl_k _ _ ?_ ?_
    | with_reducible refine foldl_fst_k _ _ _ ?_ ?_
    | intro _ _ _
    | split
    | refine fst_k (by with_reducible assumption) ?_

theorem State.tidyStaged_k (hK : Loose 0x4 K) {s : State} (h : K s) :
    K (State.tidyStaged s) := by
  unfold State.tidyStaged
  try dsimp only
  repeat' first
    | with_reducible assumption
    | with_reducible refine ite_k ?_ ?_
    | with_reducible refine foldl_k _ _ ?_ ?_
    | with_reducible refine foldl_fst_k _ _ _ ?_ ?_
    | intro _ _ _
    | split
    | refine fst_k (by with_reducible assumption) ?_
    | fail_if_no_progress with_reducible refine hK.build ?_ rfl

theorem State.refuseCommit_k (hK : Loose 0x7c800000000000000000000000000000000000000000000000000000000000000000000000000000000000000000000000000000000000000000000000000000000000000000000c04 K) {s : State} (h : K s) (off : Nat) :
    K (State.refuseCommit s off) := by
  unfold State.refuseCommit
  try dsimp only
  repeat' first
    | with_reducible assumption
    | decide
    | rfl
    | (dsimp only [Ev.plus]; decide)
    | (show regOk _ _ = true; split <;> decide)
    | with_reducible refine State.setFld_k hK ?_ _ _ _ ?_
    | with_reducible refine State.setFlag_k hK ?_ _ _ _ ?_
    | with_reducible refine State.latch_k hK (by decide) ?_ _ _ ?_
    | with_reducible refine State.tidyStaged_k (hK.mono (by decide)) ?_
    | with_reducible refine State.commitEnds_k (hK.mono (by decide)) ?_ _
    | with_reducible refine ite_k ?_ ?_
    | with_reducible refine foldl_k _ _ ?_ ?_
    | with_reducible refine foldl_fst_k _ _ _ ?_ ?_
    | intro _ _ _
    | split
    | refine fst_k (by with_reducible assumption) ?_

theorem State.acceptCommit_k (hK : Loose 0x8228100000000000000800000000000000000528000000000000000000de000400002000297c0000000000000000050200000000800000000000007840000000000000000000009ffa0000000003000000000008125000181002c06 K) {s : State} (h : K s) (v : Values) :
    K (State.acceptCommit s v) := by
  unfold State.acceptCommit
  try dsimp only
  repeat' first
    | with_reducible assumption
    | decide
    | rfl
    | (dsimp only [Ev.plus]; decide)
    | (show regOk _ _ = true; split <;> decide)
    | with_reducible refine State.takeValues_k (hK.mono (by decide)) ?_ _
    | with_reducible refine State.setFld_k hK ?_ _ _ _ ?_
    | with_reducible refine State.setFlag_k hK ?_ _ _ _ ?_
    | with_reducible refine State.latch_k hK (by decide) ?_ _ _ ?_
    | with_reducible refine State.journal_k (hK.mono (by decide)) ?_ _ _ _ _
    | with_reducible refine State.commitEnds_k (hK.mono (by decide)) ?_ _
    | with_reducible refine State.noteCommit_k (hK.mono (by decide)) ?_ _
    | with_reducible refine ite_k ?_ ?_
    | with_reducible refine foldl_k _ _ ?_ ?_
    | with_reducible refine foldl_fst_k _ _ _ ?_ ?_
    | intro _ _ _
    | split
    | refine fst_k (by with_reducible assumption) ?_

theorem State.commitNow_k (hK : Loose 0x823e10000000d0000008000000000000000007e8000000000000000000de000400002000297c0000000000000000050200000000800000000000007840000000000000000000009ffa0000000003000000000048125b42181002c06 K) {s : State} (h : K s) :
    K (State.commitNow s) := by
  unfold State.commitNow
  try dsimp only
  repeat' first
    | with_reducible assumption
    | with_reducible refine State.refuseCommit_k (hK.mono (by decide)) ?_ _
    | with_reducible refine State.tidyStaged_k (hK.mono (by decide)) ?_
    | with_reducible refine State.acceptCommit_k (hK.mono (by decide)) ?_ _
    | with_reducible refine State.snapNow_k (hK.mono (by decide)) ?_
    | with_reducible refine ite_k ?_ ?_
    | with_reducible refine foldl_k _ _ ?_ ?_
    | with_reducible refine foldl_fst_k _ _ _ ?_ ?_
    | intro _ _ _
    | split
    | refine fst_k (by with_reducible assumption) ?_
    | fail_if_no_progress with_reducible refine hK.build ?_ rfl

theorem execCommitApply_k (hK : Loose 0x823e10000000d0000008000000000000000007e8000000000000000000de000400002000297c0000000000000000050200000000800000000000007840000000000000000000009ffa0000000003000000000048125b42181002c06 K) {s : State} (h : K s) :
    ∃ z, execCommitApply s = .next z ∧ K z := by
  unfold execCommitApply
  refine ⟨_, rfl, ?_⟩
  try dsimp only
  repeat' first
    | with_reducible assumption
    | with_reducible refine State.commitNow_k (hK.mono (by decide)) ?_
    | with_reducible refine State.stampTick_k (hK.mono (by decide)) ?_ _
    | with_reducible refine State.settleTick_k (hK.mono (by decide)) ?_
    | with_reducible refine ite_k ?_ ?_
    | split
    | refine fst_k (by with_reducible assumption) ?_
    | with_reducible refine foldl_k _ _ ?_ ?_
    | with_reducible refine foldl_fst_k _ _ _ ?_ ?_
    | intro _ _ _
    | fail_if_no_progress with_reducible refine hK.build ?_ rfl

theorem State.evalAfterCommit_k (hK : Loose 0x823e10000000d0000008000000000000000007e8000000000000000000de000400002000297c0000000000000000051a00800000800000000000007840000000000000000000009ffa0000000003000000000048125b421c1002c06 K) {s : State} (h : K s) (g : Nat) :
    K (State.evalAfterCommit s g) := by
  unfold State.evalAfterCommit
  try dsimp only
  repeat' first
    | with_reducible assumption
    | with_reducible refine State.evalWindow_k (hK.mono (by decide)) ?_ _
    | with_reducible refine State.commitNow_k (hK.mono (by decide)) ?_
    | with_reducible refine State.settleTick_k (hK.mono (by decide)) ?_
    | with_reducible refine ite_k ?_ ?_
    | with_reducible refine foldl_k _ _ ?_ ?_
    | with_reducible refine foldl_fst_k _ _ _ ?_ ?_
    | intro _ _ _
    | split
    | refine fst_k (by with_reducible assumption) ?_

theorem execScarfWindowEval_k (hK : Loose 0x823e10000000d0000008000000000000000007e8000000000000000000de000400002000297c0000000000000000051a00800000800000000000007840000000000000000000009ffa0000000003000000000048125b421c1002c06 K) {s : State} (h : K s) (g : GroupIx) :
    ∃ z, execScarfWindowEval g s = .next z ∧ K z := by
  unfold execScarfWindowEval
  refine ⟨_, rfl, ?_⟩
  try dsimp only
  repeat' first
    | with_reducible assumption
    | with_reducible refine State.evalAfterCommit_k (hK.mono (by decide)) ?_ _
    | with_reducible refine State.stampTick_k (hK.mono (by decide)) ?_ _
    | with_reducible refine ite_k ?_ ?_
    | with_reducible refine foldl_k _ _ ?_ ?_
    | with_reducible refine foldl_fst_k _ _ _ ?_ ?_
    | intro _ _ _
    | split
    | refine fst_k (by with_reducible assumption) ?_

theorem execScarfWtrExpiry_k (hK : Loose 0x823e10000000d0000008000000000000000007e8000000000000000000de000400002000297c0000000000000000051a00800000800000000000007840000000000000000000009ffa0000000003000000000048125b421c1002c06 K) {s : State} (h : K s) (g : GroupIx) :
    ∃ z, execScarfWtrExpiry g s = .next z ∧ K z := by
  unfold execScarfWtrExpiry
  refine ⟨_, rfl, ?_⟩
  try dsimp only
  repeat' first
    | with_reducible assumption
    | decide
    | rfl
    | (dsimp only [Ev.plus]; decide)
    | (show regOk _ _ = true; split <;> decide)
    | with_reducible refine State.enterGroup_k (hK.mono (by decide)) ?_ _ _
    | with_reducible refine State.latch_k hK (by decide) ?_ _ _ ?_
    | with_reducible refine State.evalAfterCommit_k (hK.mono (by decide)) ?_ _
    | with_reducible refine State.stampTick_k (hK.mono (by decide)) ?_ _
    | with_reducible refine ite_k ?_ ?_
    | with_reducible refine foldl_k _ _ ?_ ?_
    | with_reducible refine foldl_fst_k _ _ _ ?_ ?_
    | intro _ _ _
    | split
    | refine fst_k (by with_reducible assumption) ?_

end Sys2Proof.Machine
end

