-- ==== Sys2Proof/Laws/FootMate.lean ====
section
/-! SUPPORT. What the operations and commands of Machine/Mate.lean may change (Laws/Loose.lean). -/

set_option Elab.async false
set_option linter.unusedTactic false
set_option linter.unreachableTactic false

namespace Sys2Proof.Machine

variable {K : State → Prop}

theorem State.matchFrame_k (hK : Loose 0x100000000 K) {s : State} (h : K s) :
    K (State.matchFrame s) := by
  unfold State.matchFrame
  try dsimp only
  repeat' first
    | with_reducible assumption
    | with_reducible refine State.updMate_k (hK.mono (by decide)) ?_ _
    | with_reducible refine ite_k ?_ ?_
    | with_reducible refine foldl_k _ _ ?_ ?_
    | with_reducible refine foldl_fst_k _ _ _ ?_ ?_
    | intro _ _ _
    | split
    | refine fst_k (by with_reducible assumption) ?_

theorem State.mateJoin_k (hK : Loose 0x8000429000000000000000000000000000000000000000000000000000000000000000000000000000000000000000000000000000000000000100000c00 K) {s : State} (h : K s) (kept inst : Bool) :
    K (State.mateJoin s kept inst) := by
  unfold State.mateJoin
  try dsimp only
  repeat' first
    | with_reducible assumption
    | decide
    | rfl
    | (dsimp only [Ev.plus]; decide)
    | (show regOk _ _ = true; split <;> decide)
    | with_reducible refine State.mateTo_k (hK.mono (by decide)) ?_ _
    | with_reducible refine State.setFlag_k hK ?_ _ _ _ ?_
    | with_reducible refine State.setFld_k hK ?_ _ _ _ ?_
    | with_reducible refine State.updMate_k (hK.mono (by decide)) ?_ _
    | with_reducible refine State.matchFrame_k (hK.mono (by decide)) ?_
    | with_reducible refine ite_k ?_ ?_
    | with_reducible refine foldl_k _ _ ?_ ?_
    | with_reducible refine foldl_fst_k _ _ _ ?_ ?_
    | intro _ _ _
    | split
    | refine fst_k (by with_reducible assumption) ?_
    | fail_if_no_progress with_reducible refine hK.build ?_ rfl

theorem execDeviceFail_k (hK : Loose 0x4e9000000000000000000000000000000000000000000000000000000000000000000000000000000000000000000000000000000000000100000c00 K) {s : State} (h : K s) (why : FailCause) :
    ∃ z, execDeviceFail why s = .next z ∧ K z := by
  unfold execDeviceFail
  refine ⟨_, rfl, ?_⟩
  try dsimp only
  repeat' first
    | with_reducible assumption
    | with_reducible refine State.failDevice_k (hK.mono (by decide)) ?_ 
    | split
    | refine fst_k (by with_reducible assumption) ?_
    | fail_if_no_progress with_reducible refine hK.build ?_ rfl

theorem State.tickVotes_k (hK : Loose 0x1e00000000000000000000000000000000000000000000000000000000000000000000000000000000000000000000000000000000000000000000100000000 K) {s : State} (h : K s) :
    K (State.tickVotes s) := by
  unfold State.tickVotes
  try dsimp only
  repeat' first
    | with_reducible assumption
    | decide
    | rfl
    | (dsimp only [Ev.plus]; decide)
    | (show regOk _ _ = true; split <;> decide)
    | with_reducible refine State.setFld_k hK ?_ _ _ _ ?_
    | with_reducible refine State.updMate_k (hK.mono (by decide)) ?_ _
    | with_reducible refine ite_k ?_ ?_
    | fail_if_no_progress with_reducible refine hK.build ?_ rfl

theorem State.queueRec_k (hK : Loose 0x2000000 K) {s : State} (h : K s) (r : JRec) :
    K (State.queueRec s r) := by
  unfold State.queueRec
  try dsimp only
  repeat' first
    | with_reducible assumption
    | with_reducible refine State.journal_k (hK.mono (by decide)) ?_ _ _ _ _
    | fail_if_no_progress with_reducible refine hK.build ?_ rfl

theorem State.rearmRec_k (hK : Loose 0x3000000 K) {s : State} (h : K s) (q cseq : Nat) :
    K (State.rearmRec s q cseq) := by
  unfold State.rearmRec
  try dsimp only
  repeat' first
    | with_reducible assumption
    | with_reducible refine ite_k ?_ ?_
    | split
    | refine fst_k (by with_reducible assumption) ?_
    | with_reducible refine foldl_k _ _ ?_ ?_
    | with_reducible refine foldl_fst_k _ _ _ ?_ ?_
    | intro _ _ _
    | fail_if_no_progress with_reducible refine hK.build ?_ rfl

theorem State.cancelRec_k (hK : Loose 0x3110000 K) {s : State} (h : K s) (q : Nat) :
    K (State.cancelRec s q) := by
  unfold State.cancelRec
  try dsimp only
  repeat' first
    | with_reducible assumption
    | with_reducible refine State.withdraw_k (hK.mono (by decide)) ?_ _
    | with_reducible refine State.freeScribe_k (hK.mono (by decide)) ?_ 
    | with_reducible refine State.dropPending_k (hK.mono (by decide)) ?_
    | with_reducible refine ite_k ?_ ?_
    | split
    | refine fst_k (by with_reducible assumption) ?_
    | with_reducible refine foldl_k _ _ ?_ ?_
    | with_reducible refine foldl_fst_k _ _ _ ?_ ?_
    | intro _ _ _
    | fail_if_no_progress with_reducible refine hK.build ?_ rfl

theorem State.bentRec_k (hK : Loose 0xde000400000000000000000000000000000000000000000000000000000000000000000000000000000000000000000000000000000000100000101230c00 K) {s : State} (h : K s) (r : JRec) :
    K (State.bentRec s r) := by
  unfold State.bentRec
  try dsimp only
  repeat' first
    | with_reducible assumption
    | with_reducible refine State.decideAction_k (hK.mono (by decide)) ?_ _
    | with_reducible refine ite_k ?_ ?_
    | split
    | refine fst_k (by with_reducible assumption) ?_
    | fail_if_no_progress with_reducible refine hK.build ?_ rfl

theorem State.commandPair_k (hK : Loose 0x400000000000000000000000000000000000100000000000000000000000000000000000000000000000000000 K) {s : State} (h : K s) (p : Nat × Nat) :
    K (State.commandPair s p) := by
  unfold State.commandPair
  try dsimp only
  repeat' first
    | with_reducible assumption
    | decide
    | rfl
    | (dsimp only [Ev.plus]; decide)
    | (show regOk _ _ = true; split <;> decide)
    | with_reducible refine State.setFld_k hK ?_ _ _ _ ?_
    | with_reducible refine State.clearWtr_k (hK.mono (by decide)) ?_ _
    | with_reducible refine ite_k ?_ ?_
    | split
    | refine fst_k (by with_reducible assumption) ?_
    | fail_if_no_progress with_reducible refine hK.build ?_ rfl

theorem State.takeRec_k (hK : Loose 0xde000400000000000000000000000000000400000000000000000000000000000000000100000000000000000000000000000000000000100000103330c00 K) {s : State} (h : K s) (r : JRec) :
    K (State.takeRec s r) := by
  unfold State.takeRec
  try dsimp only
  repeat' first
    | with_reducible assumption
    | with_reducible refine State.queueRec_k (hK.mono (by decide)) ?_ _
    | with_reducible refine State.rearmRec_k (hK.mono (by decide)) ?_ _ _
    | with_reducible refine State.cancelRec_k (hK.mono (by decide)) ?_ _
    | with_reducible refine State.bentRec_k (hK.mono (by decide)) ?_ _
    | with_reducible refine State.commandPair_k (hK.mono (by decide)) ?_ _
    | with_reducible refine ite_k ?_ ?_
    | with_reducible refine foldl_k _ _ ?_ ?_
    | with_reducible refine foldl_fst_k _ _ _ ?_ ?_
    | intro _ _ _

theorem State.drainRecs_k (hK : Loose 0x8228100000000000000800000000000000000020000000000000000000de000400007000297c0000000000000000050200000000800000000000007840000000010000000000009ffa0000000007000000000008125000183332c06 K) {s : State} (h : K s) (tick : Bool) (jack : Nat) (y0 : List JRec) :
    K (State.drainRecs s tick jack y0) := by
  induction y0 generalizing s with
  | nil => exact State.updMate_k (hK.mono (by decide)) h _
  | cons r t ih =>
    unfold State.drainRecs
    try dsimp only
    repeat' first
      | with_reducible assumption
      | refine ih ?_
      | with_reducible refine State.updMate_k (hK.mono (by decide)) ?_ _
      | with_reducible refine State.latchIf_k hK (by decide) ?_ _ _ _ (by decide)
      | with_reducible refine State.takeCommitRec_k (hK.mono (by decide)) ?_ _
      | with_reducible refine State.takeRec_k (hK.mono (by decide)) ?_ _
      | with_reducible refine ite_k ?_ ?_

theorem State.drain_k (hK : Loose 0x8228100000000000000800000000000000000020000000000000000000de000400007000297c0000000000000000050200000000800000000000007840000000010000000000009ffa0000000007000000000008125000183332c06 K) {s : State} (h : K s) (tick : Bool) :
    K (State.drain s tick) := by
  unfold State.drain
  try dsimp only
  repeat' first
    | with_reducible assumption
    | with_reducible refine State.drainRecs_k (hK.mono (by decide)) ?_ _ _ _
    | with_reducible refine ite_k ?_ ?_

theorem State.receive_k (hK : Loose 0x8228100000000000000800000000000000000020000000000000000000fe000400007000297c0000000000000000050200000000800000000000007840000000010000000000009ffa0000000007000000000008125000183332c06 K) {s : State} (h : K s) (kind : Nat) (g : JournalMsg) :
    K (State.receive s kind g) := by
  unfold State.receive
  try dsimp only
  repeat' first
    | with_reducible assumption
    | decide
    | rfl
    | (dsimp only [Ev.plus]; decide)
    | (show regOk _ _ = true; split <;> decide)
    | with_reducible refine State.storeUnits_k (hK.mono (by decide)) ?_ _
    | with_reducible refine State.updMate_k (hK.mono (by decide)) ?_ _
    | with_reducible refine State.setFld_k hK ?_ _ _ _ ?_
    | with_reducible refine State.drain_k (hK.mono (by decide)) ?_ _
    | with_reducible refine ite_k ?_ ?_
    | split
    | refine fst_k (by with_reducible assumption) ?_
    | fail_if_no_progress with_reducible refine hK.build ?_ rfl

theorem execChange_k (hK : Loose 0x8228100000000000000800000000000000000020000000000000000000fe000400007000297c0000000000000000050200000000800000000000007840000000010000000000009ffa0000000007000000000008125000183332c06 K) {s : State} (h : K s) (r : JournalMsg) :
    ∃ z, execChange r s = .next z ∧ K z := by
  unfold execChange
  refine ⟨_, rfl, ?_⟩
  try dsimp only
  repeat' first
    | with_reducible assumption
    | with_reducible refine State.receive_k (hK.mono (by decide)) ?_ _ _

theorem execRearm_k (hK : Loose 0x8228100000000000000800000000000000000020000000000000000000fe000400007000297c0000000000000000050200000000800000000000007840000000010000000000009ffa0000000007000000000008125000183332c06 K) {s : State} (h : K s) (r : JournalMsg) :
    ∃ z, execRearm r s = .next z ∧ K z := by
  unfold execRearm
  refine ⟨_, rfl, ?_⟩
  try dsimp only
  repeat' first
    | with_reducible assumption
    | with_reducible refine State.receive_k (hK.mono (by decide)) ?_ _ _

theorem execCancel_k (hK : Loose 0x8228100000000000000800000000000000000020000000000000000000fe000400007000297c0000000000000000050200000000800000000000007840000000010000000000009ffa0000000007000000000008125000183332c06 K) {s : State} (h : K s) (r : JournalMsg) :
    ∃ z, execCancel r s = .next z ∧ K z := by
  unfold execCancel
  refine ⟨_, rfl, ?_⟩
  try dsimp only
  repeat' first
    | with_reducible assumption
    | with_reducible refine State.receive_k (hK.mono (by decide)) ?_ _ _

theorem execCommit_k (hK : Loose 0x8228100000000000000800000000000000000020000000000000000000fe000400007000297c0000000000000000050200000000800000000000007840000000010000000000009ffa0000000007000000000008125000183332c06 K) {s : State} (h : K s) (r : JournalMsg) :
    ∃ z, execCommit r s = .next z ∧ K z := by
  unfold execCommit
  refine ⟨_, rfl, ?_⟩
  try dsimp only
  repeat' first
    | with_reducible assumption
    | with_reducible refine State.receive_k (hK.mono (by decide)) ?_ _ _

theorem execBent_k (hK : Loose 0x8228100000000000000800000000000000000020000000000000000000fe000400007000297c0000000000000000050200000000800000000000007840000000010000000000009ffa0000000007000000000008125000183332c06 K) {s : State} (h : K s) (r : JournalMsg) :
    ∃ z, execBent r s = .next z ∧ K z := by
  unfold execBent
  refine ⟨_, rfl, ?_⟩
  try dsimp only
  repeat' first
    | with_reducible assumption
    | with_reducible refine State.receive_k (hK.mono (by decide)) ?_ _ _

theorem execCommand_k (hK : Loose 0x8228100000000000000800000000000000000020000000000000000000fe000400007000297c0000000000000000050200000000800000000000007840000000010000000000009ffa0000000007000000000008125000183332c06 K) {s : State} (h : K s) (r : JournalMsg) :
    ∃ z, execCommand r s = .next z ∧ K z := by
  unfold execCommand
  refine ⟨_, rfl, ?_⟩
  try dsimp only
  repeat' first
    | with_reducible assumption
    | with_reducible refine State.receive_k (hK.mono (by decide)) ?_ _ _

theorem execInfo_k (hK : Loose 0x8228100000000000000800000000000000000020000000000000000000fe000400007000297c0000000000000000050200000000800000000000007840000000010000000000009ffa0000000007000000000008125000183332c06 K) {s : State} (h : K s) (r : JournalMsg) :
    ∃ z, execInfo r s = .next z ∧ K z := by
  unfold execInfo
  refine ⟨_, rfl, ?_⟩
  try dsimp only
  repeat' first
    | with_reducible assumption
    | with_reducible refine State.receive_k (hK.mono (by decide)) ?_ _ _

theorem State.showNready_k (hK : Loose 0x1fe0000000000000000000000000000000000000000000000000000000000000000000000000000000000000000000000000000000000000000000000000 K) {s : State} (h : K s) :
    K (State.showNready s) := by
  unfold State.showNready
  try dsimp only
  repeat' first
    | with_reducible assumption
    | decide
    | rfl
    | (dsimp only [Ev.plus]; decide)
    | (show regOk _ _ = true; split <;> decide)
    | with_reducible refine State.setFlag_k hK ?_ _ _ _ ?_

theorem execStandbyReady_k (hK : Loose 0x9fe0429000000000000000000000000000000000000000000000000000000000000000000000000000000000000000000000000000000000000100000c00 K) {s : State} (h : K s) :
    ∃ z, execStandbyReady s = .next z ∧ K z := by
  unfold execStandbyReady
  refine ⟨_, rfl, ?_⟩
  try dsimp only
  repeat' first
    | with_reducible assumption
    | decide
    | rfl
    | (dsimp only [Ev.plus]; decide)
    | (show regOk _ _ = true; split <;> decide)
    | with_reducible refine State.showNready_k (hK.mono (by decide)) ?_ 
    | with_reducible refine State.mateTo_k (hK.mono (by decide)) ?_ _
    | with_reducible refine State.setFld_k hK ?_ _ _ _ ?_
    | with_reducible refine State.stampTick_k (hK.mono (by decide)) ?_ _
    | with_reducible refine ite_k ?_ ?_
    | with_reducible refine foldl_k _ _ ?_ ?_
    | with_reducible refine foldl_fst_k _ _ _ ?_ ?_
    | intro _ _ _
    | split
    | refine fst_k (by with_reducible assumption) ?_

theorem execStandbyUnready_k (hK : Loose 0x9fe0429000000000000000000000000000000000000000000000000000000000000000000000000000000000000000000000000000000000000100000c00 K) {s : State} (h : K s) :
    ∃ z, execStandbyUnready s = .next z ∧ K z := by
  unfold execStandbyUnready
  refine ⟨_, rfl, ?_⟩
  try dsimp only
  repeat' first
    | with_reducible assumption
    | with_reducible refine State.showNready_k (hK.mono (by decide)) ?_ 
    | with_reducible refine State.mateJoin_k (hK.mono (by decide)) ?_ _ _
    | with_reducible refine ite_k ?_ ?_

theorem execJournalGap_k (hK : Loose 0x8040429000000000000000000000000000000000000000000000000000000000000000000000000000000000000000000000000000000000000100000c00 K) {s : State} (h : K s) :
    ∃ z, execJournalGap s = .next z ∧ K z := by
  unfold execJournalGap
  refine ⟨_, rfl, ?_⟩
  try dsimp only
  repeat' first
    | with_reducible assumption
    | decide
    | rfl
    | (dsimp only [Ev.plus]; decide)
    | (show regOk _ _ = true; split <;> decide)
    | with_reducible refine State.setFlag_k hK ?_ _ _ _ ?_
    | with_reducible refine State.mateJoin_k (hK.mono (by decide)) ?_ _ _
    | with_reducible refine ite_k ?_ ?_
    | split
    | refine fst_k (by with_reducible assumption) ?_
    | fail_if_no_progress with_reducible refine hK.build ?_ rfl

theorem State.arbFault_k (hK : Loose 0x400000000000000000000000000000000000000000000000000000000000000000000000000000000000000000000000000000000000000000000c00 K) {s : State} (h : K s) :
    K (State.arbFault s) := by
  unfold State.arbFault
  try dsimp only
  repeat' first
    | with_reducible assumption
    | decide
    | rfl
    | (dsimp only [Ev.plus]; decide)
    | (show regOk _ _ = true; split <;> decide)
    | with_reducible refine State.latchIf_k hK (by decide) ?_ _ _ _ ?_

theorem State.setArb_k (hK : Loose 0x4000000000000000000000000000000000000000000000000000000000000000000000000000000000000000000000000000000000000100000000 K) {s : State} (h : K s) (asserted : Bool) :
    K (State.setArb s asserted) := by
  unfold State.setArb
  try dsimp only
  repeat' first
    | with_reducible assumption
    | decide
    | rfl
    | (dsimp only [Ev.plus]; decide)
    | (show regOk _ _ = true; split <;> decide)
    | with_reducible refine State.updMate_k (hK.mono (by decide)) ?_ _
    | with_reducible refine State.setFlag_k hK ?_ _ _ _ ?_
    | with_reducible refine ite_k ?_ ?_
    | with_reducible refine foldl_k _ _ ?_ ?_
    | with_reducible refine foldl_fst_k _ _ _ ?_ ?_
    | intro _ _ _
    | split
    | refine fst_k (by with_reducible assumption) ?_

theorem State.waitSees_k (hK : Loose 0x8000429000000000000000000000000000000000000000000000000000000000000000000000000000000000000000000000000000000000000100000c00 K) {s : State} (h : K s) :
    K (State.waitSees s) := by
  unfold State.waitSees
  try dsimp only
  repeat' first
    | with_reducible assumption
    | with_reducible refine State.mateJoin_k (hK.mono (by decide)) ?_ _ _
    | with_reducible refine ite_k ?_ ?_
    | split
    | refine fst_k (by with_reducible assumption) ?_

theorem execArbChange_k (hK : Loose 0x800042d000000000000000000000000000000000000000000000000000000000000000000000000000000000000000000000000000000000000100000c80 K) {s : State} (h : K s) (asserted : Bool) (c : Fin 165888) :
    ∃ z, execArbChange asserted c s = .next z ∧ K z := by
  unfold execArbChange
  refine ⟨_, rfl, ?_⟩
  try dsimp only
  repeat' first
    | with_reducible assumption
    | decide
    | rfl
    | (dsimp only [Ev.plus]; decide)
    | (show regOk _ _ = true; split <;> decide)
    | with_reducible refine State.updMate_k (hK.mono (by decide)) ?_ _
    | with_reducible refine State.setFlag_k hK ?_ _ _ _ ?_
    | with_reducible refine State.arbFault_k (hK.mono (by decide)) ?_ 
    | with_reducible refine State.waitSees_k (hK.mono (by decide)) ?_ 
    | with_reducible refine State.setArb_k (hK.mono (by decide)) ?_ _
    | with_reducible refine ite_k ?_ ?_
    | split
    | refine fst_k (by with_reducible assumption) ?_
    | with_reducible refine foldl_k _ _ ?_ ?_
    | with_reducible refine foldl_fst_k _ _ _ ?_ ?_
    | intro _ _ _
    | fail_if_no_progress with_reducible refine hK.build ?_ rfl

theorem execStartupWaitExpiry_k (hK : Loose 0x8000429000000000000000000000000000000000000000000000000000000000000000000000000000000000000000000000000000000000000100000c00 K) {s : State} (h : K s) :
    ∃ z, execStartupWaitExpiry s = .next z ∧ K z := by
  unfold execStartupWaitExpiry
  refine ⟨_, rfl, ?_⟩
  try dsimp only
  repeat' first
    | with_reducible assumption
    | with_reducible refine State.waitSees_k (hK.mono (by decide)) ?_ 
    | with_reducible refine State.mateTo_k (hK.mono (by decide)) ?_ _
    | with_reducible refine ite_k ?_ ?_

theorem execHeartbeatLoss_k (hK : Loose 0x439000000000000000000000000000000000000000000000000000000000000000000000000000000000000000000000000000000000000100000c80 K) {s : State} (h : K s) :
    ∃ z, execHeartbeatLoss s = .next z ∧ K z := by
  unfold execHeartbeatLoss
  refine ⟨_, rfl, ?_⟩
  try dsimp only
  repeat' first
    | with_reducible assumption
    | decide
    | rfl
    | (dsimp only [Ev.plus]; decide)
    | (show regOk _ _ = true; split <;> decide)
    | with_reducible refine State.setFlag_k hK ?_ _ _ _ ?_
    | with_reducible refine State.mateTo_k (hK.mono (by decide)) ?_ _
    | with_reducible refine ite_k ?_ ?_
    | split
    | refine fst_k (by with_reducible assumption) ?_
    | fail_if_no_progress with_reducible refine hK.build ?_ rfl

theorem execIsolate_k (hK : Loose 0x429000000000000000000000000000000000000000000000000000000000000000000000000000000000000000000000000000000000000100000c00 K) {s : State} (h : K s) :
    ∃ z, execIsolate s = .next z ∧ K z := by
  unfold execIsolate
  refine ⟨_, rfl, ?_⟩
  try dsimp only
  repeat' first
    | with_reducible assumption
    | with_reducible refine State.mateTo_k (hK.mono (by decide)) ?_ _
    | with_reducible refine ite_k ?_ ?_
    | split
    | refine fst_k (by with_reducible assumption) ?_

theorem execSideConflictTimeout_k (hK : Loose 0x200000000000000000000000000000000000000000000000000000000000000000000000000000000000000000000000000000000000000000000000 K) {s : State} (h : K s) :
    ∃ z, execSideConflictTimeout s = .next z ∧ K z := by
  unfold execSideConflictTimeout
  refine ⟨_, rfl, ?_⟩
  try dsimp only
  repeat' first
    | with_reducible assumption
    | decide
    | rfl
    | (dsimp only [Ev.plus]; decide)
    | (show regOk _ _ = true; split <;> decide)
    | with_reducible refine State.setFlag_k hK ?_ _ _ _ ?_
    | with_reducible refine ite_k ?_ ?_
    | split
    | refine fst_k (by with_reducible assumption) ?_
    | fail_if_no_progress with_reducible refine hK.build ?_ rfl

theorem State.hbFields_k (hK : Loose 0x4001f410000000000000000000000000000000000000000000000000000000000000000000000000000000000000000000000000000000000000100000c00 K) {s : State} (h : K s) (p : List Nat) :
    K (State.hbFields s p) := by
  unfold State.hbFields
  try dsimp only
  repeat' first
    | with_reducible assumption
    | decide
    | rfl
    | (dsimp only [Ev.plus]; decide)
    | (show regOk _ _ = true; split <;> decide)
    | with_reducible refine State.setFlag_k hK ?_ _ _ _ ?_
    | with_reducible refine State.setFld_k hK ?_ _ _ _ ?_
    | with_reducible refine State.updMate_k (hK.mono (by decide)) ?_ _
    | with_reducible refine State.journal_k (hK.mono (by decide)) ?_ _ _ _ _
    | with_reducible refine State.countJournal_k (hK.mono (by decide)) ?_ 
    | with_reducible refine State.latchIf_k hK (by decide) ?_ _ _ _ ?_
    | with_reducible refine ite_k ?_ ?_
    | with_reducible refine foldl_k _ _ ?_ ?_
    | with_reducible refine foldl_fst_k _ _ _ ?_ ?_
    | intro _ _ _
    | fail_if_no_progress with_reducible refine hK.build ?_ rfl

theorem State.hbGrain_k (hK : Loose 0x100000000 K) {s : State} (h : K s) :
    K (State.hbGrain s) := by
  unfold State.hbGrain
  try dsimp only
  repeat' first
    | with_reducible assumption
    | with_reducible refine State.updMate_k (hK.mono (by decide)) ?_ _
    | with_reducible refine ite_k ?_ ?_
    | split
    | refine fst_k (by with_reducible assumption) ?_
    | fail_if_no_progress with_reducible refine hK.build ?_ rfl

theorem State.hbConflict_k (hK : Loose 0x629000000000000000000000000000000000000000000000000000000000000000000000000000000000000000000000000000000000000100000c00 K) {s : State} (h : K s) :
    K (State.hbConflict s) := by
  unfold State.hbConflict
  try dsimp only
  repeat' first
    | with_reducible assumption
    | decide
    | rfl
    | (dsimp only [Ev.plus]; decide)
    | (show regOk _ _ = true; split <;> decide)
    | with_reducible refine State.setFlag_k hK ?_ _ _ _ ?_
    | with_reducible refine State.latch_k hK (by decide) ?_ _ _ ?_
    | with_reducible refine State.updMate_k (hK.mono (by decide)) ?_ _
    | with_reducible refine State.mateTo_k (hK.mono (by decide)) ?_ _
    | with_reducible refine ite_k ?_ ?_
    | fail_if_no_progress with_reducible refine hK.build ?_ rfl

theorem State.hbDual_k (hK : Loose 0x20000000400000000000000000000000000000000000000000000000000000000000000000000000000000000000000000000000000000000000000100000c00 K) {s : State} (h : K s) :
    K (State.hbDual s) := by
  unfold State.hbDual
  try dsimp only
  repeat' first
    | with_reducible assumption
    | decide
    | rfl
    | (dsimp only [Ev.plus]; decide)
    | (show regOk _ _ = true; split <;> decide)
    | with_reducible refine State.setFld_k hK ?_ _ _ _ ?_
    | with_reducible refine State.updMate_k (hK.mono (by decide)) ?_ _
    | with_reducible refine State.latch_k hK (by decide) ?_ _ _ ?_
    | with_reducible refine ite_k ?_ ?_
    | fail_if_no_progress with_reducible refine hK.build ?_ rfl

theorem State.hbState_k (hK : Loose 0x20008000429000000000000000000000000000000000000000000000000000000000000000000000000000000000000000000000000000000000000100000c00 K) {s : State} (h : K s) :
    K (State.hbState s) := by
  unfold State.hbState
  try dsimp only
  repeat' first
    | with_reducible assumption
    | with_reducible refine State.hbDual_k (hK.mono (by decide)) ?_ 
    | with_reducible refine State.updMate_k (hK.mono (by decide)) ?_ _
    | with_reducible refine State.mateTo_k (hK.mono (by decide)) ?_ _
    | with_reducible refine State.mateJoin_k (hK.mono (by decide)) ?_ _ _
    | with_reducible refine State.waitSees_k (hK.mono (by decide)) ?_ 
    | with_reducible refine State.arbFault_k (hK.mono (by decide)) ?_ 
    | decide
    | rfl
    | (dsimp only [Ev.plus]; decide)
    | (show regOk _ _ = true; split <;> decide)
    | with_reducible refine State.setFld_k hK ?_ _ _ _ ?_
    | with_reducible refine State.mateJoin_k (hK.mono (by decide)) ?_ _ _
    | with_reducible refine ite_k ?_ ?_
    | with_reducible refine foldl_k _ _ ?_ ?_
    | with_reducible refine foldl_fst_k _ _ _ ?_ ?_
    | intro _ _ _
    | split
    | refine fst_k (by with_reducible assumption) ?_
    | fail_if_no_progress with_reducible refine hK.build ?_ rfl

theorem State.loseTrack_k (hK : Loose 0x100000000 K) {s : State} (h : K s) :
    K (State.loseTrack s) := by
  unfold State.loseTrack
  try dsimp only
  repeat' first
    | with_reducible assumption
    | with_reducible refine State.updMate_k (hK.mono (by decide)) ?_ _
    | with_reducible refine ite_k ?_ ?_
    | with_reducible refine foldl_k _ _ ?_ ?_
    | with_reducible refine foldl_fst_k _ _ _ ?_ ?_
    | intro _ _ _
    | split
    | refine fst_k (by with_reducible assumption) ?_

theorem execHeartbeatRx_k (hK : Loose 0x200ce01f639000000000000000000000000000000000000000000000000000000000000000000000000000000000000000000000000000000000000100000c00 K) {s : State} (h : K s) (l : Fin 8) (ws : List SlotWord) :
    ∃ z, execHeartbeatRx l ws s = .next z ∧ K z := by
  unfold execHeartbeatRx
  refine ⟨_, rfl, ?_⟩
  try dsimp only
  repeat' first
    | with_reducible assumption
    | with_reducible refine State.hbFields_k (hK.mono (by decide)) ?_ _
    | with_reducible refine State.hbGrain_k (hK.mono (by decide)) ?_ 
    | with_reducible refine State.hbConflict_k (hK.mono (by decide)) ?_ 
    | with_reducible refine State.hbState_k (hK.mono (by decide)) ?_ 
    | with_reducible refine State.matchFrame_k (hK.mono (by decide)) ?_
    | with_reducible refine State.startEpoch_k (hK.mono (by decide)) ?_ _ _
    | with_reducible refine State.loseTrack_k (hK.mono (by decide)) ?_
    | with_reducible refine ite_k ?_ ?_
    | split
    | refine fst_k (by with_reducible assumption) ?_
    | with_reducible refine foldl_k _ _ ?_ ?_
    | with_reducible refine foldl_fst_k _ _ _ ?_ ?_
    | intro _ _ _
    | fail_if_no_progress with_reducible refine hK.build ?_ rfl

theorem execCopyStart_k (hK : Loose 0x8e000429000000000000000000000000000000000000000000000000000000000000000000000000000000000000000000000000000000000000100000c00 K) {s : State} (h : K s) (epoch : BitVec 8) :
    ∃ z, execCopyStart epoch s = .next z ∧ K z := by
  unfold execCopyStart
  refine ⟨_, rfl, ?_⟩
  try dsimp only
  repeat' first
    | with_reducible assumption
    | decide
    | rfl
    | (dsimp only [Ev.plus]; decide)
    | (show regOk _ _ = true; split <;> decide)
    | with_reducible refine State.startEpoch_k (hK.mono (by decide)) ?_ _ _
    | with_reducible refine State.mateJoin_k (hK.mono (by decide)) ?_ _ _
    | with_reducible refine State.setFlag_k hK ?_ _ _ _ ?_
    | with_reducible refine ite_k ?_ ?_
    | split
    | refine fst_k (by with_reducible assumption) ?_
    | with_reducible refine foldl_k _ _ ?_ ?_
    | with_reducible refine foldl_fst_k _ _ _ ?_ ?_
    | intro _ _ _
    | fail_if_no_progress with_reducible refine hK.build ?_ rfl

theorem State.tellSlice_k (hK : Loose 0xc000000000000000000000000000000000000000000000000000000000000000000000000000000000000000000000000000000000000000000100000000 K) {s : State} (h : K s) (j all : Nat) :
    K (State.tellSlice s j all) := by
  unfold State.tellSlice
  try dsimp only
  repeat' first
    | with_reducible assumption
    | decide
    | rfl
    | (dsimp only [Ev.plus]; decide)
    | (show regOk _ _ = true; split <;> decide)
    | with_reducible refine State.setFld_k hK ?_ _ _ _ ?_
    | with_reducible refine State.updMate_k (hK.mono (by decide)) ?_ _
    | with_reducible refine ite_k ?_ ?_
    | with_reducible refine foldl_k _ _ ?_ ?_
    | with_reducible refine foldl_fst_k _ _ _ ?_ ?_
    | intro _ _ _
    | split
    | refine fst_k (by with_reducible assumption) ?_

theorem execCopySlice_k (hK : Loose 0xde000400000000000000000000000000000000000000000000000000000000000000000000000000000000000000000000000000000000100000101000c00 K) {s : State} (h : K s) (j : Fin 65) (entries : List CopyEntry) :
    ∃ z, execCopySlice j entries s = .next z ∧ K z := by
  unfold execCopySlice
  refine ⟨_, rfl, ?_⟩
  try dsimp only
  repeat' first
    | with_reducible assumption
    | decide
    | rfl
    | (dsimp only [Ev.plus]; decide)
    | (show regOk _ _ = true; split <;> decide)
    | with_reducible refine State.updMate_k (hK.mono (by decide)) ?_ _
    | with_reducible refine State.setFld_k hK ?_ _ _ _ ?_
    | with_reducible refine State.journalChange_k (hK.mono (by decide)) ?_ _
    | with_reducible refine State.tellSlice_k (hK.mono (by decide)) ?_ _ _
    | with_reducible refine ite_k ?_ ?_
    | split
    | refine fst_k (by with_reducible assumption) ?_
    | with_reducible refine foldl_k _ _ ?_ ?_
    | with_reducible refine foldl_fst_k _ _ _ ?_ ?_
    | intro _ _ _
    | fail_if_no_progress with_reducible refine hK.build ?_ rfl

theorem State.installEntry_k (hK : Loose 0x118000 K) {s : State} (h : K s) (e : CopyEntry) :
    K (State.installEntry s e) := by
  unfold State.installEntry
  try dsimp only
  repeat' first
    | with_reducible assumption
    | with_reducible refine ite_k ?_ ?_
    | split
    | refine fst_k (by with_reducible assumption) ?_
    | fail_if_no_progress with_reducible refine hK.build ?_ rfl

theorem State.installImage_k (hK : Loose 0x822810000000000000080000000000000000000000000000000000000000000000002000297c0000000000000000051a00000000800000000000007840000000000000000000009ffa00000000030000000000080250000e331ac06 K) {s : State} (h : K s) (slices : List Nat) (stage : List CopyEntry) :
    K (State.installImage s slices stage) := by
  unfold State.installImage
  try dsimp only
  repeat' first
    | with_reducible assumption
    | with_reducible refine State.installEntry_k (hK.mono (by decide)) ?_ _
    | with_reducible refine State.setSides_k (hK.mono (by decide)) ?_ _
    | with_reducible refine State.takeValues_k (hK.mono (by decide)) ?_ _
    | with_reducible refine State.unstage_k (hK.mono (by decide)) ?_ _
    | with_reducible refine State.followGroups_k (hK.mono (by decide)) ?_ _ _
    | with_reducible refine ite_k ?_ ?_
    | with_reducible refine foldl_k _ _ ?_ ?_
    | with_reducible refine foldl_fst_k _ _ _ ?_ ?_
    | intro _ _ _
    | split
    | refine fst_k (by with_reducible assumption) ?_
    | fail_if_no_progress with_reducible refine hK.build ?_ rfl

theorem State.installStage_k (hK : Loose 0x822810000000000000080000000000000000002000000000000000000020000000002000297c0000000000000000051a00000000800000000000007840000000000000000000009ffa00000000030000000000080250001e331ac06 K) {s : State} (h : K s) :
    K (State.installStage s) := by
  unfold State.installStage
  try dsimp only
  repeat' first
    | with_reducible assumption
    | decide
    | rfl
    | (dsimp only [Ev.plus]; decide)
    | (show regOk _ _ = true; split <;> decide)
    | with_reducible refine State.setFld_k hK ?_ _ _ _ ?_
    | with_reducible refine State.updMate_k (hK.mono (by decide)) ?_ _
    | with_reducible refine State.installImage_k (hK.mono (by decide)) ?_ _ _
    | with_reducible refine ite_k ?_ ?_
    | with_reducible refine foldl_k _ _ ?_ ?_
    | with_reducible refine foldl_fst_k _ _ _ ?_ ?_
    | intro _ _ _
    | split
    | refine fst_k (by with_reducible assumption) ?_
    | fail_if_no_progress with_reducible refine hK.build ?_ rfl

theorem State.endInstall_k (hK : Loose 0x822810000000000000080000000000000000002000000000000000000028000400002000297c0000000000000000051a00000000800000000000007840000000000000000000009ffa00000000030000000000080250001e331ac06 K) {s : State} (h : K s) (phase : Nat) :
    K (State.endInstall s phase) := by
  unfold State.endInstall
  try dsimp only
  repeat' first
    | with_reducible assumption
    | decide
    | rfl
    | (dsimp only [Ev.plus]; decide)
    | (show regOk _ _ = true; split <;> decide)
    | with_reducible refine State.latch_k hK (by decide) ?_ _ _ ?_
    | with_reducible refine State.updMate_k (hK.mono (by decide)) ?_ _
    | with_reducible refine State.setFld_k hK ?_ _ _ _ ?_
    | with_reducible refine State.installStage_k (hK.mono (by decide)) ?_ 
    | with_reducible refine ite_k ?_ ?_
    | with_reducible refine foldl_k _ _ ?_ ?_
    | with_reducible refine foldl_fst_k _ _ _ ?_ ?_
    | intro _ _ _
    | split
    | refine fst_k (by with_reducible assumption) ?_

theorem execEpochInstall_k (hK : Loose 0x8228100000000000000800000000000000000020000000000000000000fe000400007000297c0000000000000000051a00000000800000000000007840000000010000000000009ffa00000000070000000000081250001e333ac06 K) {s : State} (h : K s) :
    ∃ z, execEpochInstall s = .next z ∧ K z := by
  unfold execEpochInstall
  refine ⟨_, rfl, ?_⟩
  try dsimp only
  repeat' first
    | with_reducible assumption
    | decide
    | rfl
    | (dsimp only [Ev.plus]; decide)
    | (show regOk _ _ = true; split <;> decide)
    | with_reducible refine State.setFld_k hK ?_ _ _ _ ?_
    | with_reducible refine State.updMate_k (hK.mono (by decide)) ?_ _
    | with_reducible refine State.latch_k hK (by decide) ?_ _ _ ?_
    | with_reducible refine State.drain_k (hK.mono (by decide)) ?_ _
    | with_reducible refine State.endInstall_k (hK.mono (by decide)) ?_ _
    | with_reducible refine ite_k ?_ ?_
    | split
    | refine fst_k (by with_reducible assumption) ?_
    | with_reducible refine foldl_k _ _ ?_ ?_
    | with_reducible refine foldl_fst_k _ _ _ ?_ ?_
    | intro _ _ _
    | fail_if_no_progress with_reducible refine hK.build ?_ rfl

theorem State.decideTake_k (hK : Loose 0x1e000000000000000000000000000000000000000000000000000000000000000000000000000000000000000000000000000000000000000000000100000000 K) {s : State} (h : K s) (cause : Nat) (mine : Bool) :
    K (State.decideTake s cause mine) := by
  unfold State.decideTake
  try dsimp only
  repeat' first
    | with_reducible assumption
    | decide
    | rfl
    | (dsimp only [Ev.plus]; decide)
    | (show regOk _ _ = true; split <;> decide)
    | with_reducible refine State.setFld_k hK ?_ _ _ _ ?_
    | with_reducible refine State.setFlag_k hK ?_ _ _ _ ?_
    | with_reducible refine State.updMate_k (hK.mono (by decide)) ?_ _
    | split
    | refine fst_k (by with_reducible assumption) ?_
    | fail_if_no_progress with_reducible refine hK.build ?_ rfl

theorem State.decideUnlessVetoed_k (hK : Loose 0x1e000000400000000000000000000000000000000000000000000000000000000000000000000000000000000000000000000000000000000000000100000c00 K) {s : State} (h : K s) (cause : Nat) :
    K (State.decideUnlessVetoed s cause) := by
  unfold State.decideUnlessVetoed
  try dsimp only
  repeat' first
    | with_reducible assumption
    | decide
    | rfl
    | (dsimp only [Ev.plus]; decide)
    | (show regOk _ _ = true; split <;> decide)
    | with_reducible refine State.latch_k hK (by decide) ?_ _ _ ?_
    | with_reducible refine State.decideTake_k (hK.mono (by decide)) ?_ _ _
    | with_reducible refine ite_k ?_ ?_
    | with_reducible refine foldl_k _ _ ?_ ?_
    | with_reducible refine foldl_fst_k _ _ _ ?_ ?_
    | intro _ _ _
    | split
    | refine fst_k (by with_reducible assumption) ?_

theorem execTakeoverDecide_k (hK : Loose 0x1e0000004e9000000000000000000000000000000000000000000000000000000000000000000000000000000000000000000000000000000000000100000c00 K) {s : State} (h : K s) :
    ∃ z, execTakeoverDecide s = .next z ∧ K z := by
  unfold execTakeoverDecide
  refine ⟨_, rfl, ?_⟩
  try dsimp only
  repeat' first
    | with_reducible assumption
    | decide
    | rfl
    | (dsimp only [Ev.plus]; decide)
    | (show regOk _ _ = true; split <;> decide)
    | with_reducible refine State.failDevice_k (hK.mono (by decide)) ?_ 
    | with_reducible refine State.latch_k hK (by decide) ?_ _ _ ?_
    | with_reducible refine State.decideUnlessVetoed_k (hK.mono (by decide)) ?_ _
    | with_reducible refine ite_k ?_ ?_
    | split
    | refine fst_k (by with_reducible assumption) ?_
    | with_reducible refine foldl_k _ _ ?_ ?_
    | with_reducible refine foldl_fst_k _ _ _ ?_ ?_
    | intro _ _ _
    | fail_if_no_progress with_reducible refine hK.build ?_ rfl

theorem State.showGap_k (hK : Loose 0x1e0000000000000000000000000000000000000000000000000000000000000000000000000000000000000000000000000000000000000000000000000000000 K) {s : State} (h : K s) :
    K (State.showGap s) := by
  unfold State.showGap
  try dsimp only
  repeat' first
    | with_reducible assumption
    | decide
    | rfl
    | (dsimp only [Ev.plus]; decide)
    | (show regOk _ _ = true; split <;> decide)
    | with_reducible refine State.setFld_k hK ?_ _ _ _ ?_
    | with_reducible refine State.setFlag_k hK ?_ _ _ _ ?_
    | split
    | refine fst_k (by with_reducible assumption) ?_
    | fail_if_no_progress with_reducible refine hK.build ?_ rfl

theorem State.primeAll_k (hK : Loose 0x8000000000000000000000000000000000000000000000000000000000000000000000000000000 K) {s : State} (h : K s) :
    K (State.primeAll s) := by
  unfold State.primeAll
  try dsimp only
  repeat' first
    | with_reducible assumption
    | decide
    | rfl
    | (dsimp only [Ev.plus]; decide)
    | (show regOk _ _ = true; split <;> decide)
    | (cases ‹Defect› <;> decide)
    | with_reducible refine State.setFlag_k hK ?_ _ _ _ ?_
    | with_reducible refine foldl_k _ _ ?_ ?_
    | with_reducible refine foldl_fst_k _ _ _ ?_ ?_
    | intro _ _ _

theorem State.dropUnarmed_k (hK : Loose 0x3110000 K) {s : State} (h : K s) :
    K (State.dropUnarmed s) := by
  unfold State.dropUnarmed
  try dsimp only
  repeat' first
    | with_reducible assumption
    | with_reducible refine State.withdraw_k (hK.mono (by decide)) ?_ _
    | with_reducible refine State.freeScribe_k (hK.mono (by decide)) ?_ 
    | with_reducible refine State.dropPending_k (hK.mono (by decide)) ?_
    | with_reducible refine ite_k ?_ ?_
    | split
    | refine fst_k (by with_reducible assumption) ?_
    | with_reducible refine foldl_k _ _ ?_ ?_
    | with_reducible refine foldl_fst_k _ _ _ ?_ ?_
    | intro _ _ _
    | fail_if_no_progress with_reducible refine hK.build ?_ rfl

theorem State.restoreBase_k (hK : Loose 0x822810000000000000080000000000000000000000000000000000000000000000002000297c0000000000000000051a00000000800000000000007840000000000000000000009ffa00000000030000000000080250000e331ac06 K) {s : State} (h : K s) :
    K (State.restoreBase s) := by
  unfold State.restoreBase
  try dsimp only
  repeat' first
    | with_reducible assumption
    | with_reducible refine State.installImage_k (hK.mono (by decide)) ?_ _ _
    | with_reducible refine ite_k ?_ ?_
    | with_reducible refine foldl_k _ _ ?_ ?_
    | with_reducible refine foldl_fst_k _ _ _ ?_ ?_
    | intro _ _ _
    | split
    | refine fst_k (by with_reducible assumption) ?_
    | fail_if_no_progress with_reducible refine hK.build ?_ rfl

theorem State.becomeActive_k (hK : Loose 0x8228100000000000000800000000000000000000000000000000001e0058000429002000297c0000000000000000051a00000000800000000000007840000000000000000000009ffa00000000030000000000080250001e331ac06 K) {s : State} (h : K s) (t : Takeover) :
    K (State.becomeActive s t) := by
  unfold State.becomeActive
  try dsimp only
  repeat' first
    | with_reducible assumption
    | decide
    | rfl
    | (dsimp only [Ev.plus]; decide)
    | (show regOk _ _ = true; split <;> decide)
    | with_reducible refine State.showGap_k (hK.mono (by decide)) ?_ 
    | with_reducible refine State.dropUnarmed_k (hK.mono (by decide)) ?_ 
    | with_reducible refine State.mateTo_k (hK.mono (by decide)) ?_ _
    | with_reducible refine State.primeAll_k (hK.mono (by decide)) ?_ 
    | with_reducible refine State.updMate_k (hK.mono (by decide)) ?_ _
    | with_reducible refine State.setFld_k hK ?_ _ _ _ ?_
    | with_reducible refine State.countJournal_k (hK.mono (by decide)) ?_ 
    | with_reducible refine State.latch_k hK (by decide) ?_ _ _ ?_
    | with_reducible refine State.restoreBase_k (hK.mono (by decide)) ?_
    | with_reducible refine ite_k ?_ ?_
    | with_reducible refine foldl_k _ _ ?_ ?_
    | with_reducible refine foldl_fst_k _ _ _ ?_ ?_
    | intro _ _ _
    | split
    | refine fst_k (by with_reducible assumption) ?_
    | fail_if_no_progress with_reducible refine hK.build ?_ rfl

theorem State.stepDown_k (hK : Loose 0x68000429000000000000000000000000000000000000000000000000000000000000000000000000000000000000000000000000000000000000100000c00 K) {s : State} (h : K s) (t : Takeover) :
    K (State.stepDown s t) := by
  unfold State.stepDown
  try dsimp only
  repeat' first
    | with_reducible assumption
    | decide
    | rfl
    | (dsimp only [Ev.plus]; decide)
    | (show regOk _ _ = true; split <;> decide)
    | with_reducible refine State.mateTo_k (hK.mono (by decide)) ?_ _
    | with_reducible refine State.updMate_k (hK.mono (by decide)) ?_ _
    | with_reducible refine State.mateJoin_k (hK.mono (by decide)) ?_ _ _
    | with_reducible refine State.setFld_k hK ?_ _ _ _ ?_
    | with_reducible refine State.countJournal_k (hK.mono (by decide)) ?_ 
    | with_reducible refine State.latchIf_k hK (by decide) ?_ _ _ _ ?_
    | with_reducible refine ite_k ?_ ?_
    | fail_if_no_progress with_reducible refine hK.build ?_ rfl

theorem execTakeoverEffect_k (hK : Loose 0x8228100000000000000800000000000000000000000000000000001e0078000429002000297c0000000000000000051a00000000800000000000007840000000000000000000009ffa00000000030000000000080250001e331ac06 K) {s : State} (h : K s) :
    ∃ z, execTakeoverEffect s = .next z ∧ K z := by
  unfold execTakeoverEffect
  refine ⟨_, rfl, ?_⟩
  try dsimp only
  repeat' first
    | with_reducible assumption
    | with_reducible refine State.becomeActive_k (hK.mono (by decide)) ?_ _
    | with_reducible refine State.stepDown_k (hK.mono (by decide)) ?_ _
    | with_reducible refine State.stampTick_k (hK.mono (by decide)) ?_ _
    | with_reducible refine State.updMate_k (hK.mono (by decide)) ?_ _
    | with_reducible refine ite_k ?_ ?_
    | split
    | refine fst_k (by with_reducible assumption) ?_
    | with_reducible refine foldl_k _ _ ?_ ?_
    | with_reducible refine foldl_fst_k _ _ _ ?_ ?_
    | intro _ _ _
    | fail_if_no_progress with_reducible refine hK.build ?_ rfl

theorem execTakeoverFail_k (hK : Loose 0x4e9000000000000000000000000000000000000000000000000000000000000000000000000000000000000000000000000000000000000100000c00 K) {s : State} (h : K s) :
    ∃ z, execTakeoverFail s = .next z ∧ K z := by
  unfold execTakeoverFail
  refine ⟨_, rfl, ?_⟩
  try dsimp only
  repeat' first
    | with_reducible assumption
    | with_reducible refine State.failDevice_k (hK.mono (by decide)) ?_ 
    | with_reducible refine ite_k ?_ ?_

theorem execMateWtrExpiry_k (hK : Loose 0x1e000000000000000000000000000000000000000000000000000000000000000000000000000000000000000000000000000000000000000000000100000000 K) {s : State} (h : K s) :
    ∃ z, execMateWtrExpiry s = .next z ∧ K z := by
  unfold execMateWtrExpiry
  refine ⟨_, rfl, ?_⟩
  try dsimp only
  repeat' first
    | with_reducible assumption
    | with_reducible refine State.decideTake_k (hK.mono (by decide)) ?_ _ _
    | with_reducible refine ite_k ?_ ?_

theorem State.mateCtrl_k (hK : Loose 0x1e08e000429000000000000000000000000000000000000000000000000000000000000000000000000000000000000000000000000000000000000100000c00 K) {s : State} (h : K s) (w : Nat) :
    K (State.mateCtrl s w) := by
  unfold State.mateCtrl
  try dsimp only
  repeat' first
    | with_reducible assumption
    | decide
    | rfl
    | (dsimp only [Ev.plus]; decide)
    | (show regOk _ _ = true; split <;> decide)
    | with_reducible refine State.decideTake_k (hK.mono (by decide)) ?_ _ _
    | with_reducible refine State.latch_k hK (by decide) ?_ _ _ ?_
    | with_reducible refine State.mateTo_k (hK.mono (by decide)) ?_ _
    | with_reducible refine State.updMate_k (hK.mono (by decide)) ?_ _
    | with_reducible refine State.newCopy_k (hK.mono (by decide)) ?_
    | with_reducible refine ite_k ?_ ?_
    | with_reducible refine foldl_k _ _ ?_ ?_
    | with_reducible refine foldl_fst_k _ _ _ ?_ ?_
    | intro _ _ _
    | split
    | refine fst_k (by with_reducible assumption) ?_
    | fail_if_no_progress with_reducible refine hK.build ?_ rfl

theorem State.showWtr_k (hK : Loose 0x100000000000000000000000000000000000000000000000000000000000000000000000000000000000000000000000000000000000000000000000000000 K) {s : State} (h : K s) :
    K (State.showWtr s) := by
  unfold State.showWtr
  try dsimp only
  repeat' first
    | with_reducible assumption
    | decide
    | rfl
    | (dsimp only [Ev.plus]; decide)
    | (show regOk _ _ = true; split <;> decide)
    | with_reducible refine State.setFld_k hK ?_ _ _ _ ?_
    | with_reducible refine ite_k ?_ ?_

theorem State.enterPlanned_k (hK : Loose 0x8000429000000000000000000000000000000000000000000000000000000000000000000000000000000000000000000000000000000000000100000c00 K) {s : State} (h : K s) :
    K (State.enterPlanned s) := by
  unfold State.enterPlanned
  try dsimp only
  repeat' first
    | with_reducible assumption
    | with_reducible refine State.updMate_k (hK.mono (by decide)) ?_ _
    | with_reducible refine State.mateJoin_k (hK.mono (by decide)) ?_ _ _
    | with_reducible refine State.mateTo_k (hK.mono (by decide)) ?_ _
    | with_reducible refine ite_k ?_ ?_
    | split
    | refine fst_k (by with_reducible assumption) ?_
    | fail_if_no_progress with_reducible refine hK.build ?_ rfl

theorem State.tickMate_k (hK : Loose 0x82281000000000000008000000000000000000200000000000000001ffdffe04ed007000297c0000000000000000050200000000800000000000007840000000010000000000009ffa0000000007000000000008125000183332d06 K) {s : State} (h : K s) :
    K (State.tickMate s) := by
  unfold State.tickMate
  try dsimp only
  repeat' first
    | with_reducible assumption
    | decide
    | rfl
    | (dsimp only [Ev.plus]; decide)
    | (show regOk _ _ = true; split <;> decide)
    | with_reducible refine State.enterPlanned_k (hK.mono (by decide)) ?_ 
    | with_reducible refine State.setFlag_k hK ?_ _ _ _ ?_
    | with_reducible refine State.waitSees_k (hK.mono (by decide)) ?_ 
    | with_reducible refine State.learnTake_k (hK.mono (by decide)) ?_ 
    | with_reducible refine State.showTake_k (hK.mono (by decide)) ?_ 
    | with_reducible refine State.tickVotes_k (hK.mono (by decide)) ?_ 
    | with_reducible refine State.updMate_k (hK.mono (by decide)) ?_ _
    | with_reducible refine State.drain_k (hK.mono (by decide)) ?_ _
    | with_reducible refine State.setFld_k hK ?_ _ _ _ ?_
    | with_reducible refine State.showNready_k (hK.mono (by decide)) ?_ 
    | with_reducible refine State.showWtr_k (hK.mono (by decide)) ?_ 
    | with_reducible refine State.setArb_k (hK.mono (by decide)) ?_ _
    | with_reducible refine ite_k ?_ ?_
    | split
    | refine fst_k (by with_reducible assumption) ?_
    | with_reducible refine foldl_k _ _ ?_ ?_
    | with_reducible refine foldl_fst_k _ _ _ ?_ ?_
    | intro _ _ _
    | fail_if_no_progress with_reducible refine hK.build ?_ rfl

end Sys2Proof.Machine
end

