-- ==== Sys2Proof/Laws/FootJoiners.lean ====
section
/-! SUPPORT. What the operations and commands of Machine/Joiners.lean may change (Laws/Loose.lean). -/

set_option Elab.async false
set_option linter.unusedTactic false
set_option linter.unreachableTactic false

namespace Sys2Proof.Machine

variable {K : State → Prop}

theorem State.loadBank_k (hK : Loose 0x800000000000000 K) {s : State} (h : K s) (i : Nat) (code : List (BitVec 8)) :
    K (State.loadBank s i code) := by
  unfold State.loadBank
  split
  · next hi =>
    refine State.writeBytes_in hK (k := 59) (by decide) h _ _ ?_
    intro j hj
    have h1 : j < 0x80000 := Nat.lt_of_lt_of_le hj (List.length_take_le ..)
    show inBanks _
    unfold inBanks within joinerBank
    omega
  · exact h

theorem State.liveNext_k (hK : Loose 0x4000000000000000000000000000000000000000000000000000000000000000000000000000000000000000000000000000000000000000000000000000000000000000000000 K) {s : State} (h : K s) :
    K (State.liveNext s) := by
  unfold State.liveNext
  try dsimp only
  repeat' first
    | with_reducible assumption
    | decide
    | rfl
    | (dsimp only [Ev.plus]; decide)
    | (show regOk _ _ = true; split <;> decide)
    | with_reducible refine State.setFld_k hK ?_ _ _ _ ?_
    | split
    | refine fst_k (by with_reducible assumption) ?_
    | with_reducible refine ite_k ?_ ?_
    | with_reducible refine foldl_k _ _ ?_ ?_
    | with_reducible refine foldl_fst_k _ _ _ ?_ ?_
    | intro _ _ _
    | fail_if_no_progress with_reducible refine hK.build ?_ rfl

theorem State.liveBegin_k (hK : Loose 0x6000000000000000000000000000000000000000000000000000000000000000000000000000000000000000000000000000000000000000000000000000000000000000000000 K) {s : State} (h : K s) :
    K (State.liveBegin s) := by
  unfold State.liveBegin
  try dsimp only
  repeat' first
    | with_reducible assumption
    | decide
    | rfl
    | (dsimp only [Ev.plus]; decide)
    | (show regOk _ _ = true; split <;> decide)
    | with_reducible refine State.setFld_k hK ?_ _ _ _ ?_
    | with_reducible refine State.liveNext_k (hK.mono (by decide)) ?_ 

theorem State.liveResume_k (hK : Loose 0x6000000000000000000000000000000000000000000000000000000000000000000000000000000000000000000000000000000000000000000000000000000000000000000000 K) {s : State} (h : K s) :
    K (State.liveResume s) := by
  unfold State.liveResume
  try dsimp only
  repeat' first
    | with_reducible assumption
    | with_reducible refine State.liveBegin_k (hK.mono (by decide)) ?_ 
    | with_reducible refine ite_k ?_ ?_

theorem State.liveLoad_k (hK : Loose 0x800000000000000 K) {s : State} (h : K s) (i : Nat) (g : Option SlotImage) :
    K (State.liveLoad s i g) := by
  unfold State.liveLoad
  try dsimp only
  repeat' first
    | with_reducible assumption
    | with_reducible refine State.loadBank_k (hK.mono (by decide)) ?_ _ _
    | split
    | refine fst_k (by with_reducible assumption) ?_
    | fail_if_no_progress with_reducible refine hK.build ?_ rfl

theorem State.showFw_k (hK : Loose 0x10000000000000000000000000000000000000000000000000000000000000000000000000000000000000000000000000000000000000000000000000000000000000400000000 K) {s : State} (h : K s) (g : SlotImage) :
    K (State.showFw s g) := by
  unfold State.showFw
  try dsimp only
  repeat' first
    | with_reducible assumption
    | decide
    | rfl
    | (dsimp only [Ev.plus]; decide)
    | (show regOk _ _ = true; split <;> decide)
    | with_reducible refine State.setFld_k hK ?_ _ _ _ ?_
    | with_reducible refine State.updRaise_k (hK.mono (by decide)) ?_ _
    | fail_if_no_progress with_reducible refine hK.build ?_ rfl

theorem State.liveStop_k (hK : Loose 0xa000000000040000000000000000000000000000000000000000000000000000000000000000000000000000000000000000000000000000000000000000000000000000000c00 K) {s : State} (h : K s) (code : Nat) :
    K (State.liveStop s code) := by
  unfold State.liveStop
  try dsimp only
  repeat' first
    | with_reducible assumption
    | decide
    | rfl
    | (dsimp only [Ev.plus]; decide)
    | (show regOk _ _ = true; split <;> decide)
    | with_reducible refine State.setFld_k hK ?_ _ _ _ ?_
    | with_reducible refine State.latch_k hK (by decide) ?_ _ _ ?_
    | with_reducible refine ite_k ?_ ?_

theorem State.tickLive_k (hK : Loose 0x800000400000000 K) {s : State} (h : K s) :
    K (State.tickLive s) := by
  unfold State.tickLive
  try dsimp only
  repeat' first
    | with_reducible assumption
    | with_reducible refine State.updRaise_k (hK.mono (by decide)) ?_ _
    | with_reducible refine State.liveLoad_k (hK.mono (by decide)) ?_ _ _
    | with_reducible refine ite_k ?_ ?_
    | with_reducible refine foldl_k _ _ ?_ ?_
    | with_reducible refine foldl_fst_k _ _ _ ?_ ?_
    | intro _ _ _
    | split
    | refine fst_k (by with_reducible assumption) ?_

theorem State.liveResumes_k (hK : Loose 0x400000000 K) {s : State} (h : K s) (i : Nat) :
    K (State.liveResumes s i) := by
  unfold State.liveResumes
  try dsimp only
  repeat' first
    | with_reducible assumption
    | with_reducible refine State.updRaise_k (hK.mono (by decide)) ?_ _
    | with_reducible refine ite_k ?_ ?_
    | with_reducible refine foldl_k _ _ ?_ ?_
    | with_reducible refine foldl_fst_k _ _ _ ?_ ?_
    | intro _ _ _
    | split
    | refine fst_k (by with_reducible assumption) ?_

theorem execLiveCoreDone_k (hK : Loose 0x1e000000002040000000000000000000000000000000000000000000000000000000000000000000000000000000000000000000000000000000000000000000000000400000c00 K) {s : State} (h : K s) :
    ∃ z, execLiveCoreDone s = .next z ∧ K z := by
  unfold execLiveCoreDone
  refine ⟨_, rfl, ?_⟩
  try dsimp only
  repeat' first
    | with_reducible assumption
    | decide
    | rfl
    | (dsimp only [Ev.plus]; decide)
    | (show regOk _ _ = true; split <;> decide)
    | with_reducible refine State.updRaise_k (hK.mono (by decide)) ?_ _
    | with_reducible refine State.showFw_k (hK.mono (by decide)) ?_ _
    | with_reducible refine State.setFld_k hK ?_ _ _ _ ?_
    | with_reducible refine State.latch_k hK (by decide) ?_ _ _ ?_
    | with_reducible refine State.liveNext_k (hK.mono (by decide)) ?_ 
    | with_reducible refine State.liveStop_k (hK.mono (by decide)) ?_ _
    | with_reducible refine State.liveResumes_k (hK.mono (by decide)) ?_ _
    | with_reducible refine ite_k ?_ ?_
    | split
    | refine fst_k (by with_reducible assumption) ?_
    | with_reducible refine foldl_k _ _ ?_ ?_
    | with_reducible refine foldl_fst_k _ _ _ ?_ ?_
    | intro _ _ _
    | fail_if_no_progress with_reducible refine hK.build ?_ rfl

theorem execLiveCoreTimeout_k (hK : Loose 0xa000000000040000000000000000000000000000000000000000000000000000000000000000000000000000000000000000000000000000000000000000000000000000000c00 K) {s : State} (h : K s) (selfTest : Bool) :
    ∃ z, execLiveCoreTimeout selfTest s = .next z ∧ K z := by
  unfold execLiveCoreTimeout
  refine ⟨_, rfl, ?_⟩
  try dsimp only
  repeat' first
    | with_reducible assumption
    | with_reducible refine State.liveStop_k (hK.mono (by decide)) ?_ _
    | with_reducible refine ite_k ?_ ?_
    | split
    | refine fst_k (by with_reducible assumption) ?_

theorem State.joinerFails_k (hK : Loose 0x40220000000000000000000000000000000000000000000000000000000000004e9000000000000000000000000000000000000000000000000000000000000000000000000000000000000000000000000000000024000100000d00 K) {s : State} (h : K s) (k : Nat) :
    K (State.joinerFails s k) := by
  unfold State.joinerFails
  try dsimp only
  repeat' first
    | with_reducible assumption
    | decide
    | rfl
    | (dsimp only [Ev.plus]; decide)
    | (show regOk _ _ = true; split <;> decide)
    | with_reducible refine State.updSist_k (hK.mono (by decide)) ?_ _
    | with_reducible refine State.setFld_k hK ?_ _ _ _ ?_
    | with_reducible refine State.showBusy_k (hK.mono (by decide)) ?_ 
    | with_reducible refine State.needSubst_k (hK.mono (by decide)) ?_ _ _
    | with_reducible refine State.exhausted_k (hK.mono (by decide)) ?_ 
    | with_reducible refine State.failDevice_k (hK.mono (by decide)) ?_ 
    | with_reducible refine ite_k ?_ ?_
    | split
    | refine fst_k (by with_reducible assumption) ?_
    | fail_if_no_progress with_reducible refine hK.build ?_ rfl

theorem execJoinerSubstTrigger_k (hK : Loose 0x40220000000000000000000000000000000000000000000000000000000000004e9000000000000000000000000000000000000000000000000000000000000000000000000000000000000000000000000000000024000100000d00 K) {s : State} (h : K s) (k : Fin 5) :
    ∃ z, execJoinerSubstTrigger k s = .next z ∧ K z := by
  unfold execJoinerSubstTrigger
  refine ⟨_, rfl, ?_⟩
  try dsimp only
  repeat' first
    | with_reducible assumption
    | with_reducible refine State.joinerFails_k (hK.mono (by decide)) ?_ _
    | with_reducible refine ite_k ?_ ?_
    | with_reducible refine foldl_k _ _ ?_ ?_
    | with_reducible refine foldl_fst_k _ _ _ ?_ ?_
    | intro _ _ _
    | split
    | refine fst_k (by with_reducible assumption) ?_

theorem State.joinersNext_k (hK : Loose 0x40220000000000000000000000000000000000000000000000000000000000004e9000000000000000000000000000000000000000000000000000000000000000000000000000000000000000000000000000000024000100000d00 K) {s : State} (h : K s) :
    K (State.joinersNext s) := by
  unfold State.joinersNext
  try dsimp only
  repeat' first
    | with_reducible assumption
    | with_reducible refine State.joinerFails_k (hK.mono (by decide)) ?_ _
    | with_reducible refine State.updSist_k (hK.mono (by decide)) ?_ _
    | with_reducible refine foldl_k _ _ ?_ ?_
    | with_reducible refine foldl_fst_k _ _ _ ?_ ?_
    | intro _ _ _
    | fail_if_no_progress with_reducible refine hK.build ?_ rfl

theorem State.fillSpare_k (hK : Loose 0x800000000000000 K) {s : State} (h : K s) (i k : Nat) (dataOk : Bool) :
    K (State.fillSpare s i k dataOk) := by
  unfold State.fillSpare
  split
  · exact h
  · next hi =>
    have hi : i < 5 := Nat.lt_of_not_le hi
    refine ite_k (State.writeBytes_in hK (k := 59) (by decide) h _ _ ?_) ?_
    · intro j hj
      have h1 : j < 0x80000 := by simpa [State.readBytes] using hj
      show inBanks _
      unfold inBanks within joinerBank
      omega
    · exact State.liveLoad_k (hK.mono (by decide)) (hK.bank (by decide) h i hi) _ _

theorem execJoinerSubstDone_k (hK : Loose 0x40220000000000000000000000014000000000000060000000000000000000004e9000000000000000000000000000000000000000000000000000000000000000000000000000000000000000000000000000000824000100000d00 K) {s : State} (h : K s) (dataOk : Bool) :
    ∃ z, execJoinerSubstDone dataOk s = .next z ∧ K z := by
  unfold execJoinerSubstDone
  refine ⟨_, rfl, ?_⟩
  try dsimp only
  repeat' first
    | with_reducible assumption
    | decide
    | rfl
    | (dsimp only [Ev.plus]; decide)
    | (show regOk _ _ = true; split <;> decide)
    | with_reducible refine State.setFld_k hK ?_ _ _ _ ?_
    | with_reducible refine State.latchFor_k hK (by decide) ?_ _ _ ?_
    | with_reducible refine State.updSist_k (hK.mono (by decide)) ?_ _
    | with_reducible refine State.substDone_k (hK.mono (by decide)) ?_ _ _ _
    | with_reducible refine State.joinersNext_k (hK.mono (by decide)) ?_ 
    | with_reducible refine State.liveResume_k (hK.mono (by decide)) ?_ 
    | with_reducible refine State.fillSpare_k (hK.mono (by decide)) ?_ _ _ _
    | with_reducible refine ite_k ?_ ?_
    | split
    | refine fst_k (by with_reducible assumption) ?_
    | with_reducible refine foldl_k _ _ ?_ ?_
    | with_reducible refine foldl_fst_k _ _ _ ?_ ?_
    | intro _ _ _
    | fail_if_no_progress with_reducible refine hK.build ?_ rfl

end Sys2Proof.Machine
end

