-- ==== Sys2Proof/Laws/FootRaising.lean ====
section
/-! SUPPORT. What the operations and commands of Machine/Raising.lean may change (Laws/Loose.lean). -/

set_option Elab.async false
set_option linter.unusedTactic false
set_option linter.unreachableTactic false

namespace Sys2Proof.Machine

variable {K : State → Prop}

theorem State.backToP0_k (hK : Loose 0x2000000000000000000000000000000000000000000000000000040000000000000000000000000000000000000000000000000000000000000000000000000000000000000000000000000000000000000000ff7ffffdfffffcff K) {s : State} (h : K s) (go retry stopped : Bool) :
    K (State.backToP0 s go retry stopped) := by
  unfold State.backToP0
  refine State.setFld_k hK ?_ _ _ _ (by decide)
  exact hK.fresh (by decide) (by decide) (State.drainTally_k (hK.mono (by decide)) h) rfl rfl rfl rfl rfl rfl rfl

theorem State.endResponse_k (hK : Loose 0x44000000000000 K) {s : State} (h : K s) :
    K (State.endResponse s) := by
  unfold State.endResponse
  try dsimp only
  repeat' first
    | with_reducible assumption
    | with_reducible refine State.tallyAdd_k (hK.mono (by decide)) ?_ _ _ _ _
    | with_reducible refine ite_k ?_ ?_
    | fail_if_no_progress with_reducible refine hK.build ?_ rfl

theorem execResetAssert_k (hK : Loose 0x2000000000000000000000000000000000000000000000000000040000000000000000000000000000000000000000000000000000000000000000000000000000000000000000000000000000000000000000ff7ffffdfffffcff K) {s : State} (h : K s) :
    ∃ z, execResetAssert s = .next z ∧ K z := by
  unfold execResetAssert
  refine ⟨_, rfl, ?_⟩
  try dsimp only
  repeat' first
    | with_reducible assumption
    | with_reducible refine State.endResponse_k (hK.mono (by decide)) ?_ 
    | with_reducible refine State.backToP0_k (hK.mono (by decide)) ?_ _ _ _
    | with_reducible refine State.updRaise_k (hK.mono (by decide)) ?_ _
    | with_reducible refine State.updTally_k (hK.mono (by decide)) ?_ _
    | with_reducible refine ite_k ?_ ?_
    | with_reducible refine foldl_k _ _ ?_ ?_
    | with_reducible refine foldl_fst_k _ _ _ ?_ ?_
    | intro _ _ _
    | split
    | refine fst_k (by with_reducible assumption) ?_

theorem execSupplyFault_k (hK : Loose 0x30002000000000000000000000000000000000000000000000000000040000000000000000000000000000000000000000000000000000000000000000000000000000000000000000000000000000000000000000ff7ffffdfffffdff K) {s : State} (h : K s) :
    ∃ z, execSupplyFault s = .next z ∧ K z := by
  unfold execSupplyFault
  refine ⟨_, rfl, ?_⟩
  try dsimp only
  repeat' first
    | with_reducible assumption
    | with_reducible refine State.endResponse_k (hK.mono (by decide)) ?_ 
    | with_reducible refine State.backToP0_k (hK.mono (by decide)) ?_ _ _ _
    | decide
    | rfl
    | (dsimp only [Ev.plus]; decide)
    | (show regOk _ _ = true; split <;> decide)
    | with_reducible refine State.setFld_k hK ?_ _ _ _ ?_
    | with_reducible refine State.cutWrite_k (hK.mono (by decide)) ?_
    | with_reducible refine ite_k ?_ ?_
    | with_reducible refine foldl_k _ _ ?_ ?_
    | with_reducible refine foldl_fst_k _ _ _ ?_ ?_
    | intro _ _ _
    | split
    | refine fst_k (by with_reducible assumption) ?_
    | fail_if_no_progress with_reducible refine hK.build ?_ rfl

theorem State.setTime_k (hK : Loose 0x20000000000000000000000000000000000000000000000000000000000000000000000000000000000000000000000000000000000000000000000000000000000000000000000 K) {s : State} (h : K s) (k n : Nat) :
    K (State.setTime s k n) := by
  unfold State.setTime
  try dsimp only
  repeat' first
    | with_reducible assumption
    | decide
    | rfl
    | (dsimp only [Ev.plus]; decide)
    | (show regOk _ _ = true; split <;> decide)
    | with_reducible refine State.setFld_k hK ?_ _ _ _ ?_
    | with_reducible refine ite_k ?_ ?_
    | with_reducible refine foldl_k _ _ ?_ ?_
    | with_reducible refine foldl_fst_k _ _ _ ?_ ?_
    | intro _ _ _
    | split
    | refine fst_k (by with_reducible assumption) ?_

theorem State.timePhase_k (hK : Loose 0x20000000000000000000000000000000000000000000000000000000000000000000000000000000000000000000000000000000000000000000000000000000000000000000100 K) {s : State} (h : K s) (k : Nat) :
    K (State.timePhase s k) := by
  unfold State.timePhase
  try dsimp only
  repeat' first
    | with_reducible assumption
    | decide
    | rfl
    | (dsimp only [Ev.plus]; decide)
    | (show regOk _ _ = true; split <;> decide)
    | with_reducible refine State.setFld_k hK ?_ _ _ _ ?_
    | with_reducible refine State.drawn_k (hK.mono (by decide)) ?_ 
    | with_reducible refine State.setTime_k (hK.mono (by decide)) ?_ _ _
    | with_reducible refine ite_k ?_ ?_
    | with_reducible refine foldl_k _ _ ?_ ?_
    | with_reducible refine foldl_fst_k _ _ _ ?_ ?_
    | intro _ _ _
    | split
    | refine fst_k (by with_reducible assumption) ?_

theorem State.enterPhase_k (hK : Loose 0x20000000000000400000000000000000000000000000000000000000000000000000000000000000000000000000000000000000000000000000000000000000000000000000100 K) {s : State} (h : K s) (k : Nat) :
    K (State.enterPhase s k) := by
  unfold State.enterPhase
  try dsimp only
  repeat' first
    | with_reducible assumption
    | decide
    | rfl
    | (dsimp only [Ev.plus]; decide)
    | (show regOk _ _ = true; split <;> decide)
    | with_reducible refine State.timePhase_k (hK.mono (by decide)) ?_ _
    | with_reducible refine State.setFld_k hK ?_ _ _ _ ?_

theorem State.settlePending_k (hK : Loose 0x2000000000000 K) {s : State} (h : K s) :
    K (State.settlePending s) := by
  unfold State.settlePending
  try dsimp only
  repeat' first
    | with_reducible assumption
    | with_reducible refine State.updTally_k (hK.mono (by decide)) ?_ _
    | with_reducible refine ite_k ?_ ?_
    | split
    | refine fst_k (by with_reducible assumption) ?_
    | fail_if_no_progress with_reducible refine hK.build ?_ rfl

theorem execFuseReadDone_k (hK : Loose 0x20000000000000400000000002000000000000000000000000000000000000000000000000000000000000000000000000000000000000000000000000000000002000600000100 K) {s : State} (h : K s) (f : Fuses) (side slow : Bool) :
    ∃ z, execFuseReadDone f side slow s = .next z ∧ K z := by
  unfold execFuseReadDone
  refine ⟨_, rfl, ?_⟩
  try dsimp only
  repeat' first
    | with_reducible assumption
    | decide
    | rfl
    | (dsimp only [Ev.plus]; decide)
    | (show regOk _ _ = true; split <;> decide)
    | with_reducible refine hK.blow (by decide) ?_ _
    | with_reducible refine State.settlePending_k (hK.mono (by decide)) ?_ 
    | with_reducible refine State.setFlag_k hK ?_ _ _ _ ?_
    | with_reducible refine State.updRaise_k (hK.mono (by decide)) ?_ _
    | with_reducible refine State.enterPhase_k (hK.mono (by decide)) ?_ _
    | with_reducible refine ite_k ?_ ?_
    | fail_if_no_progress with_reducible refine hK.build ?_ rfl

theorem State.loadFuses_k (hK : Loose 0x1401fc000000000000000000002008010000000000001800100000000000000000000000000000000000000000000000000000000000000000000000c0000000000000000000000000000000000000000000000000000020000000000000 K) {s : State} (h : K s) :
    K (State.loadFuses s) := by
  unfold State.loadFuses
  try dsimp only
  repeat' first
    | with_reducible assumption
    | decide
    | rfl
    | (dsimp only [Ev.plus]; decide)
    | (show regOk _ _ = true; split <;> decide)
    | with_reducible refine State.setFld_k hK ?_ _ _ _ ?_
    | with_reducible refine State.updSist_k (hK.mono (by decide)) ?_ _
    | with_reducible refine ite_k ?_ ?_
    | with_reducible refine foldl_k _ _ ?_ ?_
    | with_reducible refine foldl_fst_k _ _ _ ?_ ?_
    | intro _ _ _
    | split
    | refine fst_k (by with_reducible assumption) ?_
    | fail_if_no_progress with_reducible refine hK.build ?_ rfl

theorem State.foundFlash_k (hK : Loose 0xf000000000000000000000000000000000000000000000000000000000000000000000000000000000000000000000000000000000000000000000000000000000000000000 K) {s : State} (h : K s) (fl : FlashInfo) :
    K (State.foundFlash s fl) := by
  unfold State.foundFlash
  try dsimp only
  repeat' first
    | with_reducible assumption
    | decide
    | rfl
    | (dsimp only [Ev.plus]; decide)
    | (show regOk _ _ = true; split <;> decide)
    | with_reducible refine State.setFld_k hK ?_ _ _ _ ?_
    | with_reducible refine State.setFlag_k hK ?_ _ _ _ ?_
    | with_reducible refine ite_k ?_ ?_

theorem State.trainLinks_k (hK : Loose 0x800000000 K) {s : State} (h : K s) :
    K (State.trainLinks s) := by
  unfold State.trainLinks
  try dsimp only
  repeat' first
    | with_reducible assumption
    | fail_if_no_progress with_reducible refine hK.build ?_ rfl

theorem execMemoryClearDone_k (hK : Loose 0x9401fc000000000000000000002008010000000000001a001f00000003bc000000000000000000000000000000000000000000000000000000000000c0000000000000000000000000000000000000000000000000004020020800000100 K) {s : State} (h : K s) (fl : FlashInfo) :
    ∃ z, execMemoryClearDone fl s = .next z ∧ K z := by
  unfold execMemoryClearDone
  refine ⟨_, rfl, ?_⟩
  try dsimp only
  repeat' first
    | with_reducible assumption
    | decide
    | rfl
    | (dsimp only [Ev.plus]; decide)
    | (show regOk _ _ = true; split <;> decide)
    | with_reducible refine State.loadFuses_k (hK.mono (by decide)) ?_ 
    | with_reducible refine State.setFld_k hK ?_ _ _ _ ?_
    | with_reducible refine State.drawn_k (hK.mono (by decide)) ?_ 
    | with_reducible refine hK.rekey (by decide) (by decide) ?_
    | with_reducible refine State.trainLinks_k (hK.mono (by decide)) ?_ 
    | with_reducible refine State.enterPhase_k (hK.mono (by decide)) ?_ _
    | with_reducible refine State.foundFlash_k (hK.mono (by decide)) ?_ _
    | with_reducible refine State.haltRaise_k (hK.mono (by decide)) ?_ _ _ _ _
    | with_reducible refine ite_k ?_ ?_

theorem execPerstNDeassert_k (hK : Loose 0x800000000 K) {s : State} (h : K s) (p : Fin 2) :
    ∃ z, execPerstNDeassert p s = .next z ∧ K z := by
  unfold execPerstNDeassert
  refine ⟨_, rfl, ?_⟩
  try dsimp only
  repeat' first
    | with_reducible assumption
    | fail_if_no_progress with_reducible refine hK.build ?_ rfl

theorem State.setRegion_k (hK : Loose 0xc000000000000000000000000000000000000000000000000000000000000000000000000000000000000000000000000000000000000000000000000000000000000000000000000000000000000000000000000 K) {s : State} (h : K s) (k base size : Nat) :
    K (State.setRegion s k base size) := by
  unfold State.setRegion
  try dsimp only
  repeat' first
    | with_reducible assumption
    | decide
    | rfl
    | (dsimp only [Ev.plus]; decide)
    | (show regOk _ _ = true; split <;> decide)
    | with_reducible refine State.setFld_k hK ?_ _ _ _ ?_

theorem State.moveMailbox_k (hK : Loose 0x20000001000 K) {s : State} (h : K s) :
    K (State.moveMailbox s) := by
  unfold State.moveMailbox
  try dsimp only
  repeat' first
    | with_reducible assumption
    | with_reducible refine hK.setByte (by decide) ?_ _ _
    | with_reducible refine hK.zero (by decide) (by decide) ?_ _ _
    | with_reducible refine ite_k ?_ ?_
    | with_reducible refine foldl_k _ _ ?_ ?_
    | with_reducible refine foldl_fst_k _ _ _ ?_ ?_
    | intro _ _ _
    | split
    | refine fst_k (by with_reducible assumption) ?_

theorem execDdrTrainingDone_k (hK : Loose 0xdc7c00000000000000000000000100000000003b800000000000000000000000000000000000000000000000000000000000000000000000000000000000000000000000000000000000000000004020000001c00 K) {s : State} (h : K s) (config : Fin 4) (temp : BitVec 8) (failed : BitVec 8) :
    ∃ z, execDdrTrainingDone config temp failed s = .next z ∧ K z := by
  unfold execDdrTrainingDone
  refine ⟨_, rfl, ?_⟩
  try dsimp only
  repeat' first
    | with_reducible assumption
    | decide
    | rfl
    | (dsimp only [Ev.plus]; decide)
    | (show regOk _ _ = true; split <;> decide)
    | with_reducible refine State.setFld_k hK ?_ _ _ _ ?_
    | with_reducible refine State.satFld_k hK ?_ _ _ _ ?_
    | with_reducible refine State.latch_k hK (by decide) ?_ _ _ ?_
    | with_reducible refine State.tallyAdd_k (hK.mono (by decide)) ?_ _ _ _ _
    | with_reducible refine State.haltRaise_k (hK.mono (by decide)) ?_ _ _ _ _
    | with_reducible refine State.setRegion_k (hK.mono (by decide)) ?_ _ _ _
    | with_reducible refine State.tryRecovery_k (hK.mono (by decide)) ?_ 
    | with_reducible refine State.moveMailbox_k (hK.mono (by decide)) ?_
    | with_reducible refine ite_k ?_ ?_
    | with_reducible refine foldl_k _ _ ?_ ?_
    | with_reducible refine foldl_fst_k _ _ _ ?_ ?_
    | intro _ _ _
    | split
    | refine fst_k (by with_reducible assumption) ?_

theorem State.placeRegions_k (hK : Loose 0xc000000000000000000000000000000000000000000000000000000000000000000000000000000000000000000000000000000000000000000000000000000000000000000000000000000000000000000000000 K) {s : State} (h : K s) (y0 : Nat) (y1 : List (Nat × Nat × Nat)) :
    K (State.placeRegions s y0 y1).1 := by
  induction y1 generalizing s y0 with
  | nil => exact h
  | cons x t ih =>
    obtain ⟨k, size, align⟩ := x
    unfold State.placeRegions
    try dsimp only
    split
    · exact ih (State.setRegion_k (hK.mono (by decide)) h _ _ _) _
    · exact ih (State.setRegion_k (hK.mono (by decide)) h _ _ _) _

theorem State.showBases_k (hK : Loose 0x2000000000000000000000200000000000000000000000800000000000000000000000000000000000000000000000000000000000000000000000000000000000000000000000000000000 K) {s : State} (h : K s) :
    K (State.showBases s) := by
  unfold State.showBases
  try dsimp only
  repeat' first
    | with_reducible assumption
    | decide
    | rfl
    | (dsimp only [Ev.plus]; decide)
    | (show regOk _ _ = true; split <;> decide)
    | with_reducible refine State.setFld_k hK ?_ _ _ _ ?_
    | with_reducible refine ite_k ?_ ?_

theorem State.layOut_k (hK : Loose 0xc00000000000000000200000000000000000003ba00000000000000000000000800000000000000000000000000000000000000000000000000000000000000000000000000000000000000000000000000000000 K) {s : State} (h : K s) (g : SlotImage) :
    K (State.layOut s g) := by
  unfold State.layOut
  try dsimp only
  repeat' first
    | with_reducible assumption
    | with_reducible refine State.placeRegions_k (hK.mono (by decide)) ?_ _ _
    | with_reducible refine State.haltRaise_k (hK.mono (by decide)) ?_ _ _ _ _
    | with_reducible refine State.setRegion_k (hK.mono (by decide)) ?_ _ _ _
    | with_reducible refine State.showBases_k (hK.mono (by decide)) ?_ 
    | with_reducible refine ite_k ?_ ?_
    | split
    | refine fst_k (by with_reducible assumption) ?_

theorem State.applySection_k (hK : Loose 0x82281000000000000008000000000000000000000000000000003b800000000000002000297c0000000000000000050200000000800000000000007840000000000000000000009ffa0000000003000000000008025000081002c06 K) {s : State} (h : K s) (g : SlotImage) (t : Nat) :
    K (State.applySection s g t) := by
  unfold State.applySection
  try dsimp only
  repeat' first
    | with_reducible assumption
    | with_reducible refine State.haltRaise_k (hK.mono (by decide)) ?_ _ _ _ _
    | with_reducible refine State.unstage_k (hK.mono (by decide)) ?_ _
    | with_reducible refine State.takeValues_k (hK.mono (by decide)) ?_ _
    | with_reducible refine State.placeFpouts_k (hK.mono (by decide)) ?_
    | with_reducible refine ite_k ?_ ?_
    | split
    | refine fst_k (by with_reducible assumption) ?_
    | with_reducible refine foldl_k _ _ ?_ ?_
    | with_reducible refine foldl_fst_k _ _ _ ?_ ?_
    | intro _ _ _
    | fail_if_no_progress with_reducible refine hK.build ?_ rfl

theorem State.applySections_k (hK : Loose 0x82281000000000000008000000000000000000000000000000003b800000000000002000297c0000000000000000050200000000800000000000007840000000000000000000009ffa0000000003000000000008025000081002c06 K) {s : State} (h : K s) (ts : List Nat) :
    K (State.applySections s ts) := by
  unfold State.applySections
  try dsimp only
  repeat' first
    | with_reducible assumption
    | with_reducible refine State.applySection_k (hK.mono (by decide)) ?_ _ _
    | with_reducible refine foldl_k _ _ ?_ ?_
    | with_reducible refine foldl_fst_k _ _ _ ?_ ?_
    | intro _ _ _
    | split
    | refine fst_k (by with_reducible assumption) ?_
    | fail_if_no_progress with_reducible refine hK.build ?_ rfl

theorem State.startP3_k (hK : Loose 0x82281000000000000008000000000000000000002000000000003bc00000000000002000297c0000000000000000050200000000800000000000007840000000000000000000009ffa0000000003000000000008825000081003d06 K) {s : State} (h : K s) (g : SlotImage) (slot : Nat) :
    K (State.startP3 s g slot) := by
  unfold State.startP3
  try dsimp only
  repeat' first
    | with_reducible assumption
    | with_reducible refine State.enterPhase_k (hK.mono (by decide)) ?_ _
    | with_reducible refine State.applySections_k (hK.mono (by decide)) ?_ _
    | with_reducible refine State.loadBank_k (hK.mono (by decide)) ?_ _ _
    | with_reducible refine State.tallyAdd_k (hK.mono (by decide)) ?_ _ _ _ _
    | with_reducible refine hK.clear (by decide) ?_ _ _
    | with_reducible refine foldl_k _ _ ?_ ?_
    | with_reducible refine foldl_fst_k _ _ _ ?_ ?_
    | intro _ _ _
    | with_reducible refine ite_k ?_ ?_
    | split
    | refine fst_k (by with_reducible assumption) ?_

theorem State.showRun_k (hK : Loose 0x100000000ff800000000000000000000000000000000000000000000000000000000000000000000000000000000000000000000000000000000000000000000000000400000000 K) {s : State} (h : K s) (g : SlotImage) (slot : Nat) (staged fallback trial : Bool) :
    K (State.showRun s g slot staged fallback trial) := by
  unfold State.showRun
  try dsimp only
  repeat' first
    | with_reducible assumption
    | decide
    | rfl
    | (dsimp only [Ev.plus]; decide)
    | (show regOk _ _ = true; split <;> decide)
    | with_reducible refine State.setFld_k hK ?_ _ _ _ ?_
    | with_reducible refine State.setFlag_k hK ?_ _ _ _ ?_
    | with_reducible refine State.showFw_k (hK.mono (by decide)) ?_ _
    | with_reducible refine State.updRaise_k (hK.mono (by decide)) ?_ _
    | fail_if_no_progress with_reducible refine hK.build ?_ rfl

theorem State.endP2_k (hK : Loose 0x82281000000000c0000800000000000020000000300000000ff83be00000000000002000297c0080000000000000050200000000800000000000007840000000000000000000009ffa0000000003000000000008825000481003d06 K) {s : State} (h : K s) (g : SlotImage) (slot : Nat) (staged fallback trial : Bool) :
    K (State.endP2 s g slot staged fallback trial) := by
  unfold State.endP2
  try dsimp only
  repeat' first
    | with_reducible assumption
    | with_reducible refine State.showRun_k (hK.mono (by decide)) ?_ _ _ _ _ _
    | with_reducible refine State.updRaise_k (hK.mono (by decide)) ?_ _
    | with_reducible refine State.layOut_k (hK.mono (by decide)) ?_ _
    | with_reducible refine State.applySections_k (hK.mono (by decide)) ?_ _
    | with_reducible refine State.startP3_k (hK.mono (by decide)) ?_ _ _
    | with_reducible refine ite_k ?_ ?_
    | fail_if_no_progress with_reducible refine hK.build ?_ rfl

theorem State.showSlot_k (hK : Loose 0xfe0000000000000000000000000000000000000000000000000000000000000000000000000000000000000000000000000000000000000000000000000000000000400000000 K) {s : State} (h : K s) (k : Nat) (g : SlotImage) (code : Nat) :
    K (State.showSlot s k g code) := by
  unfold State.showSlot
  try dsimp only
  repeat' first
    | with_reducible assumption
    | decide
    | rfl
    | (dsimp only [Ev.plus]; decide)
    | (show regOk _ _ = true; split <;> decide)
    | with_reducible refine State.setFlag_k hK ?_ _ _ _ ?_
    | with_reducible refine State.setFld_k hK ?_ _ _ _ ?_
    | with_reducible refine State.updRaise_k (hK.mono (by decide)) ?_ _
    | fail_if_no_progress with_reducible refine hK.build ?_ rfl

theorem State.startTrial_k (hK : Loose 0x2000000000000 K) {s : State} (h : K s) (pref : Nat) :
    K (State.startTrial s pref) := by
  unfold State.startTrial
  try dsimp only
  repeat' first
    | with_reducible assumption
    | with_reducible refine State.setBoot_k (hK.mono (by decide)) ?_ _ _
    | with_reducible refine ite_k ?_ ?_

theorem State.stageImage_k (hK : Loose 0x1000 K) {s : State} (h : K s) (g : SlotImage) :
    K (State.stageImage s g) := by
  unfold State.stageImage
  try dsimp only
  repeat' first
    | with_reducible assumption
    | with_reducible refine State.writeBytes_k (hK.mono (by decide)) ?_ _ _
    | with_reducible refine hK.clear (by decide) ?_ _ _
    | with_reducible refine ite_k ?_ ?_
    | with_reducible refine foldl_k _ _ ?_ ?_
    | with_reducible refine foldl_fst_k _ _ _ ?_ ?_
    | intro _ _ _
    | split
    | refine fst_k (by with_reducible assumption) ?_

theorem State.slotVerified_k (hK : Loose 0x82281000000000c000080000000000002000000030fe00000ff87fe00000000000002000297c0080000000000000050200000000800000000000007840000000000000000000009ffa0000000003000000000008827000481003d06 K) {s : State} (h : K s) (img : ImageBytes) :
    K (State.slotVerified s img) := by
  unfold State.slotVerified
  try dsimp only
  repeat' first
    | with_reducible assumption
    | decide
    | rfl
    | (dsimp only [Ev.plus]; decide)
    | (show regOk _ _ = true; split <;> decide)
    | with_reducible refine State.stageImage_k (hK.mono (by decide)) ?_ _
    | with_reducible refine State.showSlot_k (hK.mono (by decide)) ?_ _ _ _
    | with_reducible refine State.setFld_k hK ?_ _ _ _ ?_
    | with_reducible refine State.startTrial_k (hK.mono (by decide)) ?_ _
    | with_reducible refine State.updRaise_k (hK.mono (by decide)) ?_ _
    | with_reducible refine State.latchIf_k hK (by decide) ?_ _ _ _ ?_
    | with_reducible refine State.endP2_k (hK.mono (by decide)) ?_ _ _ _ _ _
    | with_reducible refine State.noteFail_k (hK.mono (by decide)) ?_ _ _ _ _
    | with_reducible refine State.tallyAdd_k (hK.mono (by decide)) ?_ _ _ _ _
    | with_reducible refine State.haltRaise_k (hK.mono (by decide)) ?_ _ _ _ _
    | with_reducible refine ite_k ?_ ?_
    | with_reducible refine foldl_k _ _ ?_ ?_
    | with_reducible refine foldl_fst_k _ _ _ ?_ ?_
    | intro _ _ _
    | split
    | refine fst_k (by with_reducible assumption) ?_

theorem execJoinersReady_k (hK : Loose 0x482281000000000000008000000000000000000002000000000003bc000000004e9002000297c0000000000000000050200000000800000000000007840000000000000000000009ffa0000000003000000000008025000181002d06 K) {s : State} (h : K s) (failed : BitVec 5) :
    ∃ z, execJoinersReady failed s = .next z ∧ K z := by
  unfold execJoinersReady
  refine ⟨_, rfl, ?_⟩
  try dsimp only
  repeat' first
    | with_reducible assumption
    | with_reducible refine State.joinerFails_k (hK.mono (by decide)) ?_ _
    | with_reducible refine State.haltRaise_k (hK.mono (by decide)) ?_ _ _ _ _
    | with_reducible refine State.enterPhase_k (hK.mono (by decide)) ?_ _
    | with_reducible refine State.applySections_k (hK.mono (by decide)) ?_ _
    | with_reducible refine ite_k ?_ ?_
    | with_reducible refine foldl_k _ _ ?_ ?_
    | with_reducible refine foldl_fst_k _ _ _ ?_ ?_
    | intro _ _ _

theorem State.startP5_k (hK : Loose 0xc2281000000000000008000000010000000000002000000000003bc00000000001002000297c0000000000000000050200000000800000000000007840000000000014000000009ffb1e00090003041a01a00008025000481002d06 K) {s : State} (h : K s) :
    K (State.startP5 s) := by
  unfold State.startP5
  try dsimp only
  repeat' first
    | with_reducible assumption
    | decide
    | rfl
    | (dsimp only [Ev.plus]; decide)
    | (show regOk _ _ = true; split <;> decide)
    | with_reducible refine State.enterPhase_k (hK.mono (by decide)) ?_ _
    | with_reducible refine State.applySections_k (hK.mono (by decide)) ?_ _
    | with_reducible refine State.setFlag_k hK ?_ _ _ _ ?_
    | with_reducible refine State.setFld_k hK ?_ _ _ _ ?_
    | with_reducible refine State.startAttempt_k (hK.mono (by decide)) ?_ _
    | with_reducible refine State.updRaise_k (hK.mono (by decide)) ?_ _
    | with_reducible refine State.refreshCa_k (hK.mono (by decide)) ?_ _
    | with_reducible refine ite_k ?_ ?_
    | with_reducible refine foldl_k _ _ ?_ ?_
    | with_reducible refine foldl_fst_k _ _ _ ?_ ?_
    | intro _ _ _
    | split
    | refine fst_k (by with_reducible assumption) ?_
    | fail_if_no_progress with_reducible refine hK.build ?_ rfl

theorem execP4End_k (hK : Loose 0xc2281000000000000008000000010000000000002000000000003bc00000000001002000297c0000000000000000050200000000800000000000007840000000000014000000009ffb1e00090003041a01a00008025000481002d06 K) {s : State} (h : K s) :
    ∃ z, execP4End s = .next z ∧ K z := by
  unfold execP4End
  refine ⟨_, rfl, ?_⟩
  try dsimp only
  repeat' first
    | with_reducible assumption
    | with_reducible refine State.startP5_k (hK.mono (by decide)) ?_ 
    | with_reducible refine ite_k ?_ ?_

theorem State.placeScenes_k (hK : Loose 0x7c00000000000000000000000000000000000000000000000000000000000000000000000001000 K) {s : State} (h : K s) (a : Nat) (y0 : List SceneSec) :
    K (State.placeScenes s a y0).1 := by
  induction y0 generalizing s a with
  | nil => exact h
  | cons x t ih =>
    refine ih ?_ _
    repeat' first
      | with_reducible assumption
      | with_reducible refine State.setFld_k hK ?_ _ _ _ (by decide)
      | with_reducible refine State.writeBytes_k (hK.mono (by decide)) ?_ _ _

theorem State.fillScenes_k (hK : Loose 0x7c00000000000000000000000000000000000000000000000000000000000000000020000001000 K) {s : State} (h : K s) (g : SlotImage) :
    K (State.fillScenes s g).1 := by
  unfold State.fillScenes
  try dsimp only
  repeat' first
    | with_reducible assumption
    | with_reducible refine hK.zero (by decide) (by decide) ?_ _ _
    | with_reducible refine State.placeScenes_k (hK.mono (by decide)) ?_ _ _
    | split
    | refine fst_k (by with_reducible assumption) ?_

theorem State.handBaseMap_k (hK : Loose 0x3b800000000000000000000000000000000000000000000000000000000000000000000000000000000000000000000000000000000000000000000000402000000 K) {s : State} (h : K s) (g : SlotImage) :
    K (State.handBaseMap s g) := by
  unfold State.handBaseMap
  try dsimp only
  repeat' first
    | with_reducible assumption
    | with_reducible refine State.haltRaise_k (hK.mono (by decide)) ?_ _ _ _ _
    | with_reducible refine State.updRaise_k (hK.mono (by decide)) ?_ _
    | split
    | refine fst_k (by with_reducible assumption) ?_
    | fail_if_no_progress with_reducible refine hK.build ?_ rfl

theorem State.startP6_k (hK : Loose 0x82281000000000000008000000000000000000002000000000003bc00000000000002000297c0000000000000000050200000000fc0000000000007840000000000000000000009ffa0000000003000000000008025020483003d06 K) {s : State} (h : K s) :
    K (State.startP6 s) := by
  unfold State.startP6
  try dsimp only
  repeat' first
    | with_reducible assumption
    | with_reducible refine State.enterPhase_k (hK.mono (by decide)) ?_ _
    | with_reducible refine State.applySections_k (hK.mono (by decide)) ?_ _
    | with_reducible refine State.updRaise_k (hK.mono (by decide)) ?_ _
    | with_reducible refine State.fillScenes_k (hK.mono (by decide)) ?_ _
    | with_reducible refine State.handBaseMap_k (hK.mono (by decide)) ?_ _
    | with_reducible refine State.haltRaise_k (hK.mono (by decide)) ?_ _ _ _ _
    | with_reducible refine ite_k ?_ ?_
    | split
    | refine fst_k (by with_reducible assumption) ?_
    | fail_if_no_progress with_reducible refine hK.build ?_ rfl

theorem execP5End_k (hK : Loose 0x82281000000000000008000000000000000000002000000000003bc00000000000002000297c0000000000000000050200000000fc0000000000007840000000000000000000009ffa0000000003000000000008025020483003d06 K) {s : State} (h : K s) :
    ∃ z, execP5End s = .next z ∧ K z := by
  unfold execP5End
  refine ⟨_, rfl, ?_⟩
  try dsimp only
  repeat' first
    | with_reducible assumption
    | with_reducible refine State.startP6_k (hK.mono (by decide)) ?_ 
    | with_reducible refine ite_k ?_ ?_
    | split
    | refine fst_k (by with_reducible assumption) ?_

theorem State.sendDrs_k (hK : Loose 0x800000000 K) {s : State} (h : K s) (drs : BitVec 2) :
    K (State.sendDrs s drs) := by
  unfold State.sendDrs
  try dsimp only
  repeat' first
    | with_reducible assumption
    | with_reducible refine ite_k ?_ ?_
    | with_reducible refine foldl_k _ _ ?_ ?_
    | with_reducible refine foldl_fst_k _ _ _ ?_ ?_
    | intro _ _ _
    | split
    | refine fst_k (by with_reducible assumption) ?_
    | fail_if_no_progress with_reducible refine hK.build ?_ rfl

theorem execRaiseReady_k (hK : Loose 0x20000000000040400008000429000000000000000000000000000000000000008000000000000000000000000000000000000000000000000000000000000000000000d00000d00 K) {s : State} (h : K s) (drs : BitVec 2) :
    ∃ z, execRaiseReady drs s = .next z ∧ K z := by
  unfold execRaiseReady
  refine ⟨_, rfl, ?_⟩
  try dsimp only
  repeat' first
    | with_reducible assumption
    | decide
    | rfl
    | (dsimp only [Ev.plus]; decide)
    | (show regOk _ _ = true; split <;> decide)
    | with_reducible refine State.enterPhase_k (hK.mono (by decide)) ?_ _
    | with_reducible refine State.timePhase_k (hK.mono (by decide)) ?_ _
    | with_reducible refine State.latchIf_k hK (by decide) ?_ _ _ _ ?_
    | with_reducible refine State.updRaise_k (hK.mono (by decide)) ?_ _
    | with_reducible refine State.primeAll_k (hK.mono (by decide)) ?_ 
    | with_reducible refine State.updMate_k (hK.mono (by decide)) ?_ _
    | with_reducible refine State.waitSees_k (hK.mono (by decide)) ?_ 
    | with_reducible refine State.sendDrs_k (hK.mono (by decide)) ?_ _
    | with_reducible refine ite_k ?_ ?_
    | with_reducible refine foldl_k _ _ ?_ ?_
    | with_reducible refine foldl_fst_k _ _ _ ?_ ?_
    | intro _ _ _
    | split
    | refine fst_k (by with_reducible assumption) ?_
    | fail_if_no_progress with_reducible refine hK.build ?_ rfl

end Sys2Proof.Machine
end

