-- ==== Sys2Proof/Laws/FootImageOps.lean ====
section
/-! SUPPORT. What the operations and commands of Machine/ImageOps.lean may change (Laws/Loose.lean). -/

set_option Elab.async false
set_option linter.unusedTactic false
set_option linter.unreachableTactic false

namespace Sys2Proof.Machine

variable {K : State → Prop}

theorem State.opStart_k (hK : Loose 0x3c0000000000000000000000000000000000000000000000000000000000000000000000000000000000000000000000000000000000000000000000000000000400000000 K) {s : State} (h : K s) (op slot : Nat) :
    K (State.opStart s op slot) := by
  unfold State.opStart
  try dsimp only
  repeat' first
    | with_reducible assumption
    | decide
    | rfl
    | (dsimp only [Ev.plus]; decide)
    | (show regOk _ _ = true; split <;> decide)
    | with_reducible refine State.setFld_k hK ?_ _ _ _ ?_
    | with_reducible refine State.updRaise_k (hK.mono (by decide)) ?_ _
    | fail_if_no_progress with_reducible refine hK.build ?_ rfl

theorem State.opRefuse_k (hK : Loose 0x1c0000040000000000000000000000000000000000000000000000000000000000000000000000000000000000000000000000000000000000000000000000000000000c00 K) {s : State} (h : K s) (op code : Nat) :
    K (State.opRefuse s op code) := by
  unfold State.opRefuse
  try dsimp only
  repeat' first
    | with_reducible assumption
    | decide
    | rfl
    | (dsimp only [Ev.plus]; decide)
    | (show regOk _ _ = true; split <;> decide)
    | with_reducible refine State.setFld_k hK ?_ _ _ _ ?_
    | with_reducible refine State.latch_k hK (by decide) ?_ _ _ ?_

theorem State.opClash_k (hK : Loose 0x100000040000000000000000000000000000000000000000000000000000000000000000000000000000000000000000000000000000000000000000000000000000000c00 K) {s : State} (h : K s) :
    K (State.opClash s) := by
  unfold State.opClash
  try dsimp only
  repeat' first
    | with_reducible assumption
    | decide
    | rfl
    | (dsimp only [Ev.plus]; decide)
    | (show regOk _ _ = true; split <;> decide)
    | with_reducible refine State.setFld_k hK ?_ _ _ _ ?_
    | with_reducible refine State.latch_k hK (by decide) ?_ _ _ ?_

theorem State.doVerify_k (hK : Loose 0x3c0000040000000000000000000000000000000000000000000000000000000000000000000000000000000000000000000000000000000000000000000000000400000c00 K) {s : State} (h : K s) (k : Nat) :
    K (State.doVerify s k) := by
  unfold State.doVerify
  try dsimp only
  repeat' first
    | with_reducible assumption
    | with_reducible refine State.opClash_k (hK.mono (by decide)) ?_ 
    | with_reducible refine State.opStart_k (hK.mono (by decide)) ?_ _ _
    | with_reducible refine ite_k ?_ ?_

theorem State.doProgram_k (hK : Loose 0x403c0000040000000000000000000000000000000000000000000000000000000000000000000000000000000000000000000000000000000000000000000000000400000c00 K) {s : State} (h : K s) (k : Nat) :
    K (State.doProgram s k) := by
  unfold State.doProgram
  try dsimp only
  repeat' first
    | with_reducible assumption
    | decide
    | rfl
    | (dsimp only [Ev.plus]; decide)
    | (show regOk _ _ = true; split <;> decide)
    | with_reducible refine State.opClash_k (hK.mono (by decide)) ?_ 
    | with_reducible refine State.opRefuse_k (hK.mono (by decide)) ?_ _ _
    | with_reducible refine State.opStart_k (hK.mono (by decide)) ?_ _ _
    | with_reducible refine State.setFlag_k hK ?_ _ _ _ ?_
    | with_reducible refine ite_k ?_ ?_
    | split
    | refine fst_k (by with_reducible assumption) ?_

theorem State.doRecover_k (hK : Loose 0x3c0000040000000000000000000000000000000000000000000000000000000000000000000000000000000000000000000000000000000000000000000000000400000c00 K) {s : State} (h : K s) :
    K (State.doRecover s) := by
  unfold State.doRecover
  try dsimp only
  repeat' first
    | with_reducible assumption
    | with_reducible refine State.opClash_k (hK.mono (by decide)) ?_ 
    | with_reducible refine State.opRefuse_k (hK.mono (by decide)) ?_ _ _
    | with_reducible refine State.opStart_k (hK.mono (by decide)) ?_ _ _
    | with_reducible refine ite_k ?_ ?_

theorem State.doAbort_k (hK : Loose 0x40000000000000000000000000000000000000000000000000000000000000000000000000000000000000000000000000000000000000000000000000000000000000000 K) {s : State} (h : K s) :
    K (State.doAbort s) := by
  unfold State.doAbort
  try dsimp only
  repeat' first
    | with_reducible assumption
    | decide
    | rfl
    | (dsimp only [Ev.plus]; decide)
    | (show regOk _ _ = true; split <;> decide)
    | with_reducible refine State.setFld_k hK ?_ _ _ _ ?_
    | with_reducible refine ite_k ?_ ?_

theorem State.doConfirm_k (hK : Loose 0x8040000000000000000000000000000000000000000000000000000000000000000000000000000000000000000000000000000000000000000000002000000000c00 K) {s : State} (h : K s) :
    K (State.doConfirm s) := by
  unfold State.doConfirm
  try dsimp only
  repeat' first
    | with_reducible assumption
    | decide
    | rfl
    | (dsimp only [Ev.plus]; decide)
    | (show regOk _ _ = true; split <;> decide)
    | with_reducible refine State.setBoot_k (hK.mono (by decide)) ?_ _ _
    | with_reducible refine State.setFlag_k hK ?_ _ _ _ ?_
    | with_reducible refine State.latch_k hK (by decide) ?_ _ _ ?_
    | with_reducible refine ite_k ?_ ?_

theorem State.doSvnBurn_k (hK : Loose 0x10140000040000000000000000000000000000000000000000000000000000000000000000000000000000000000000000000000000000000000000000000004000200000c00 K) {s : State} (h : K s) :
    K (State.doSvnBurn s) := by
  unfold State.doSvnBurn
  try dsimp only
  repeat' first
    | with_reducible assumption
    | decide
    | rfl
    | (dsimp only [Ev.plus]; decide)
    | (show regOk _ _ = true; split <;> decide)
    | with_reducible refine State.setFld_k hK ?_ _ _ _ ?_
    | with_reducible refine State.latch_k hK (by decide) ?_ _ _ ?_
    | with_reducible refine hK.blow (by decide) ?_ _
    | with_reducible refine State.tallyAdd_k (hK.mono (by decide)) ?_ _ _ _ _
    | with_reducible refine ite_k ?_ ?_
    | fail_if_no_progress with_reducible refine hK.build ?_ rfl

theorem State.liveRefuse_k (hK : Loose 0xa000000000040000000000000000000000000000000000000000000000000000000000000000000000000000000000000000000000000000000000000000000000000000000c00 K) {s : State} (h : K s) (code : Nat) :
    K (State.liveRefuse s code) := by
  unfold State.liveRefuse
  try dsimp only
  repeat' first
    | with_reducible assumption
    | decide
    | rfl
    | (dsimp only [Ev.plus]; decide)
    | (show regOk _ _ = true; split <;> decide)
    | with_reducible refine State.setFld_k hK ?_ _ _ _ ?_
    | with_reducible refine State.latch_k hK (by decide) ?_ _ _ ?_

theorem State.doLive_k (hK : Loose 0xe000000000040000000000000000000000000000000000000000000000000000000000000000000000000000000000000000000000000000000000000000000000000400000c00 K) {s : State} (h : K s) (g : SlotImage) :
    K (State.doLive s g) := by
  unfold State.doLive
  try dsimp only
  repeat' first
    | with_reducible assumption
    | decide
    | rfl
    | (dsimp only [Ev.plus]; decide)
    | (show regOk _ _ = true; split <;> decide)
    | with_reducible refine State.setFld_k hK ?_ _ _ _ ?_
    | with_reducible refine State.latch_k hK (by decide) ?_ _ _ ?_
    | with_reducible refine State.liveRefuse_k (hK.mono (by decide)) ?_ _
    | with_reducible refine State.updRaise_k (hK.mono (by decide)) ?_ _
    | with_reducible refine State.liveBegin_k (hK.mono (by decide)) ?_ 
    | with_reducible refine ite_k ?_ ?_
    | fail_if_no_progress with_reducible refine hK.build ?_ rfl

theorem State.imgCtrl_k (hK : Loose 0xe0503c0008040000000000000000000000000000000000000000000000000000000000000000000000000000000000000000000000000000000000000000000006000600000c00 K) {s : State} (h : K s) (w : Nat) (other : SlotImage) :
    K (State.imgCtrl s w other) := by
  unfold State.imgCtrl
  try dsimp only
  repeat' first
    | with_reducible assumption
    | with_reducible refine State.doConfirm_k (hK.mono (by decide)) ?_ 
    | with_reducible refine State.doVerify_k (hK.mono (by decide)) ?_ _
    | with_reducible refine State.doProgram_k (hK.mono (by decide)) ?_ _
    | with_reducible refine State.doLive_k (hK.mono (by decide)) ?_ _
    | with_reducible refine State.doSvnBurn_k (hK.mono (by decide)) ?_ 
    | with_reducible refine State.doRecover_k (hK.mono (by decide)) ?_ 
    | with_reducible refine State.doAbort_k (hK.mono (by decide)) ?_ 
    | with_reducible refine ite_k ?_ ?_

theorem State.imgBoot_k (hK : Loose 0x40000000000000000000000000000000000000000000000000000000000000000000000000000000000000000000000000000000000000000000002000000000c00 K) {s : State} (h : K s) (w : Nat) :
    K (State.imgBoot s w) := by
  unfold State.imgBoot
  try dsimp only
  repeat' first
    | with_reducible assumption
    | decide
    | rfl
    | (dsimp only [Ev.plus]; decide)
    | (show regOk _ _ = true; split <;> decide)
    | with_reducible refine State.setBoot_k (hK.mono (by decide)) ?_ _ _
    | with_reducible refine State.latch_k hK (by decide) ?_ _ _ ?_
    | with_reducible refine ite_k ?_ ?_

theorem State.opEnd_k (hK : Loose 0x340000000000000000000000000000000000000000000000000000000000000000000000000000000000000000000000000000000000000000000000000000000000000000 K) {s : State} (h : K s) (code bytes : Nat) :
    K (State.opEnd s code bytes) := by
  unfold State.opEnd
  try dsimp only
  repeat' first
    | with_reducible assumption
    | decide
    | rfl
    | (dsimp only [Ev.plus]; decide)
    | (show regOk _ _ = true; split <;> decide)
    | with_reducible refine State.setFld_k hK ?_ _ _ _ ?_
    | with_reducible refine ite_k ?_ ?_

theorem State.imgOpDone_k (hK : Loose 0x82281000000000c100080000000000002000000030fe03400ff87be00000000000002000297c0080000000000000050200000000800000000000007840000000000000000000009ffa0000000003000000000008827000481003d06 K) {s : State} (h : K s) (img : ImageBytes) :
    K (State.imgOpDone s img) := by
  unfold State.imgOpDone
  try dsimp only
  repeat' first
    | with_reducible assumption
    | decide
    | rfl
    | (dsimp only [Ev.plus]; decide)
    | (show regOk _ _ = true; split <;> decide)
    | with_reducible refine State.readUnits_k (hK.mono (by decide)) ?_ _
    | with_reducible refine State.latch_k hK (by decide) ?_ _ _ ?_
    | with_reducible refine State.opEnd_k (hK.mono (by decide)) ?_ _ _
    | with_reducible refine State.endP2_k (hK.mono (by decide)) ?_ _ _ _ _ _
    | with_reducible refine State.setFlag_k hK ?_ _ _ _ ?_
    | with_reducible refine State.imageDefaults_k (hK.mono (by decide)) ?_
    | with_reducible refine State.startTrial_k (hK.mono (by decide)) ?_ _
    | with_reducible refine State.showSlot_k (hK.mono (by decide)) ?_ _ _ _
    | with_reducible refine ite_k ?_ ?_
    | with_reducible refine foldl_k _ _ ?_ ?_
    | with_reducible refine foldl_fst_k _ _ _ ?_ ?_
    | intro _ _ _
    | split
    | refine fst_k (by with_reducible assumption) ?_

end Sys2Proof.Machine
end

