-- ==== Sys2Proof/Laws/FootEvents.lean ====
section
/-! SUPPORT. What the operations and commands of Machine/Events.lean may change (Laws/Loose.lean). -/

set_option Elab.async false
set_option linter.unusedTactic false
set_option linter.unreachableTactic false

namespace Sys2Proof.Machine

variable {K : State → Prop}

theorem State.writeRec_k (hK : Loose 0x1000 K) {s : State} (h : K s) (a : Nat) (r : EvRec) :
    K (State.writeRec s a r) := by
  unfold State.writeRec
  try dsimp only
  repeat' first
    | with_reducible assumption
    | with_reducible refine State.writeBytes_k (hK.mono (by decide)) ?_ _ _

theorem State.ringWrite_k (hK : Loose 0x50000020000000000000000000000000000000000000000000000000000000000000000000000000000000000000000000000000000000000000000000000000000000000000000000000001c00 K) {s : State} (h : K s) (p : Nat) (r : EvRec) :
    K (State.ringWrite s p r) := by
  unfold State.ringWrite
  try dsimp only
  repeat' first
    | with_reducible assumption
    | decide
    | rfl
    | (dsimp only [Ev.plus]; decide)
    | (show regOk _ _ = true; split <;> decide)
    | with_reducible refine State.satFld_k hK ?_ _ _ _ ?_
    | with_reducible refine State.latchFor_k hK (by decide) ?_ _ _ ?_
    | with_reducible refine State.writeRec_k (hK.mono (by decide)) ?_ _ _
    | with_reducible refine State.setFld_k hK ?_ _ _ _ ?_
    | with_reducible refine ite_k ?_ ?_

theorem execEventRecord_k (hK : Loose 0x50000020000000000000000000000000000000000000000000000000000000000000000000000000000000000000000000000000000000000000000000000000000000000000000000000001c00 K) {s : State} (h : K s) :
    ∃ z, execEventRecord s = .next z ∧ K z := by
  unfold execEventRecord
  refine ⟨_, rfl, ?_⟩
  try dsimp only
  repeat' first
    | with_reducible assumption
    | with_reducible refine State.ringWrite_k (hK.mono (by decide)) ?_ _ _
    | with_reducible refine foldl_k _ _ ?_ ?_
    | with_reducible refine foldl_fst_k _ _ _ ?_ ?_
    | intro _ _ _
    | split
    | refine fst_k (by with_reducible assumption) ?_
    | fail_if_no_progress with_reducible refine hK.build ?_ rfl

theorem execEventLogRecord_k (hK : Loose 0xc000000000000000000000000000000000000000000000000000000000000000000000000000000000000000000000000000000000000000000000000000000000000000000000000001800 K) {s : State} (h : K s) :
    ∃ z, execEventLogRecord s = .next z ∧ K z := by
  unfold execEventLogRecord
  refine ⟨_, rfl, ?_⟩
  try dsimp only
  repeat' first
    | with_reducible assumption
    | decide
    | rfl
    | (dsimp only [Ev.plus]; decide)
    | (show regOk _ _ = true; split <;> decide)
    | with_reducible refine State.writeRec_k (hK.mono (by decide)) ?_ _ _
    | with_reducible refine State.setFld_k hK ?_ _ _ _ ?_
    | with_reducible refine State.setFlag_k hK ?_ _ _ _ ?_
    | with_reducible refine ite_k ?_ ?_
    | split
    | refine fst_k (by with_reducible assumption) ?_
    | fail_if_no_progress with_reducible refine hK.build ?_ rfl

theorem State.updPcie_k (hK : Loose 0x800000000 K) {s : State} (h : K s) (p : Nat) (f : Pcie → Pcie) :
    K (State.updPcie s p f) := by
  unfold State.updPcie
  try dsimp only
  repeat' first
    | with_reducible assumption
    | fail_if_no_progress with_reducible refine hK.build ?_ rfl

theorem execMsixSend_k (hK : Loose 0x800000000 K) {s : State} (h : K s) (p : Fin 2) (v : Fin 64) :
    ∃ z, execMsixSend p v s = .next z ∧ K z := by
  unfold execMsixSend
  refine ⟨_, rfl, ?_⟩
  try dsimp only
  repeat' first
    | with_reducible assumption
    | with_reducible refine State.updPcie_k (hK.mono (by decide)) ?_ _ _
    | with_reducible refine ite_k ?_ ?_
    | fail_if_no_progress with_reducible refine hK.build ?_ rfl

theorem State.seeConditions_k (hK : Loose 0x800000000 K) {s : State} (h : K s) :
    K (State.seeConditions s) := by
  unfold State.seeConditions
  try dsimp only
  repeat' first
    | with_reducible assumption
    | with_reducible refine State.updPcie_k (hK.mono (by decide)) ?_ _ _
    | with_reducible refine ite_k ?_ ?_
    | with_reducible refine foldl_k _ _ ?_ ?_
    | with_reducible refine foldl_fst_k _ _ _ ?_ ?_
    | intro _ _ _
    | fail_if_no_progress with_reducible refine hK.build ?_ rfl

theorem State.portEoi_k (hK : Loose 0x800000000 K) {s : State} (h : K s) (p w : Nat) :
    K (State.portEoi s p w) := by
  unfold State.portEoi
  try dsimp only
  repeat' first
    | with_reducible assumption
    | with_reducible refine State.updPcie_k (hK.mono (by decide)) ?_ _ _
    | with_reducible refine ite_k ?_ ?_

theorem State.writeMsix_k (hK : Loose 0x800000000 K) {s : State} (h : K s) (p k w : Nat) :
    K (State.writeMsix s p k w) := by
  unfold State.writeMsix
  try dsimp only
  repeat' first
    | with_reducible assumption
    | with_reducible refine State.updPcie_k (hK.mono (by decide)) ?_ _ _
    | with_reducible refine ite_k ?_ ?_
    | fail_if_no_progress with_reducible refine hK.build ?_ rfl

theorem State.cfgWrite_k (hK : Loose 0x800000100 K) {s : State} (h : K s) (p d w : Nat) :
    K (State.cfgWrite s p d w) := by
  unfold State.cfgWrite
  try dsimp only
  repeat' first
    | with_reducible assumption
    | with_reducible refine State.updPcie_k (hK.mono (by decide)) ?_ _ _
    | with_reducible refine State.drawn_k (hK.mono (by decide)) ?_ 
    | with_reducible refine ite_k ?_ ?_
    | fail_if_no_progress with_reducible refine hK.build ?_ rfl

theorem execPcieConfigRequest_k (hK : Loose 0x800000300 K) {s : State} (h : K s) (p : Fin 2) (r : CfgRequest) :
    ∃ z, execPcieConfigRequest p r s = .next z ∧ K z := by
  unfold execPcieConfigRequest
  refine ⟨_, rfl, ?_⟩
  try dsimp only
  repeat' first
    | with_reducible assumption
    | with_reducible refine State.answer_k (hK.mono (by decide)) ?_ _ _
    | with_reducible refine State.cfgWrite_k (hK.mono (by decide)) ?_ _ _ _
    | with_reducible refine State.updPcie_k (hK.mono (by decide)) ?_ _ _
    | with_reducible refine ite_k ?_ ?_
    | split
    | refine fst_k (by with_reducible assumption) ?_
    | fail_if_no_progress with_reducible refine hK.build ?_ rfl

end Sys2Proof.Machine
end

