-- ==== Sys2Proof/Laws/FootLatency.lean ====
section
/-! SUPPORT. What the operations and commands of Machine/Latency.lean may change (Laws/Loose.lean). -/

set_option Elab.async false
set_option linter.unusedTactic false
set_option linter.unreachableTactic false

namespace Sys2Proof.Machine

variable {K : State → Prop}

theorem State.latqCtrl_k (hK : Loose 0xb400000000000000000 K) {s : State} (h : K s) (m w : Nat) :
    K (State.latqCtrl s m w) := by
  unfold State.latqCtrl
  try dsimp only
  repeat' first
    | with_reducible assumption
    | decide
    | rfl
    | (dsimp only [Ev.plus]; decide)
    | (show regOk _ _ = true; split <;> decide)
    | with_reducible refine State.setFld_k hK ?_ _ _ _ ?_
    | with_reducible refine State.addFld_k hK ?_ _ _ _ ?_
    | with_reducible refine ite_k ?_ ?_
    | split
    | refine fst_k (by with_reducible assumption) ?_

theorem State.latqAnswer_k (hK : Loose 0x1f4800000000000000000 K) {s : State} (h : K s) (sc : Schedule) (out src : Nat) :
    K (State.latqAnswer s sc out src) := by
  unfold State.latqAnswer
  try dsimp only
  repeat' first
    | with_reducible assumption
    | decide
    | rfl
    | (dsimp only [Ev.plus]; decide)
    | (show regOk _ _ = true; split <;> decide)
    | with_reducible refine State.setFld_k hK ?_ _ _ _ ?_
    | with_reducible refine State.setIfld_k hK ?_ _ _ _ ?_
    | with_reducible refine State.setFlag_k hK ?_ _ _ _ ?_
    | with_reducible refine ite_k ?_ ?_

theorem State.latqNone_k (hK : Loose 0x1f4800000000000000100 K) {s : State} (h : K s) (out result : Nat) :
    K (State.latqNone s out result) := by
  unfold State.latqNone
  try dsimp only
  repeat' first
    | with_reducible assumption
    | decide
    | rfl
    | (dsimp only [Ev.plus]; decide)
    | (show regOk _ _ = true; split <;> decide)
    | with_reducible refine State.drawn_k (hK.mono (by decide)) ?_ 
    | with_reducible refine State.setFld_k hK ?_ _ _ _ ?_
    | with_reducible refine State.setFlag_k hK ?_ _ _ _ ?_

theorem execLatqDone_k (hK : Loose 0x1f4c00000000000000100 K) {s : State} (h : K s) :
    ∃ z, execLatqDone s = .next z ∧ K z := by
  unfold execLatqDone
  refine ⟨_, rfl, ?_⟩
  try dsimp only
  repeat' first
    | with_reducible assumption
    | decide
    | rfl
    | (dsimp only [Ev.plus]; decide)
    | (show regOk _ _ = true; split <;> decide)
    | with_reducible refine State.setFld_k hK ?_ _ _ _ ?_
    | with_reducible refine State.latqNone_k (hK.mono (by decide)) ?_ _ _
    | with_reducible refine State.latqAnswer_k (hK.mono (by decide)) ?_ _ _ _
    | with_reducible refine ite_k ?_ ?_
    | split
    | refine fst_k (by with_reducible assumption) ?_
    | fail_if_no_progress with_reducible refine hK.build ?_ rfl

end Sys2Proof.Machine
end

