-- ==== Sys2Proof/Laws/FootCounters.lean ====
section
/-! SUPPORT. What the operations and commands of Machine/Counters.lean may change (Laws/Loose.lean). -/

set_option Elab.async false
set_option linter.unusedTactic false
set_option linter.unreachableTactic false

namespace Sys2Proof.Machine

variable {K : State → Prop}

theorem State.clearCtrl_k (hK : Loose 0xa00000000000000000000000000000000000000000000000000000000000000000000000000000000000000000000000000000000000000000000000000000000000000000000000000000000000000400000000c00 K) {s : State} (h : K s) (w : Nat) :
    K (State.clearCtrl s w) := by
  unfold State.clearCtrl
  try dsimp only
  repeat' first
    | with_reducible assumption
    | decide
    | rfl
    | (dsimp only [Ev.plus]; decide)
    | (show regOk _ _ = true; split <;> decide)
    | with_reducible refine State.latch_k hK (by decide) ?_ _ _ ?_
    | with_reducible refine State.setFld_k hK ?_ _ _ _ ?_
    | with_reducible refine ite_k ?_ ?_
    | split
    | refine fst_k (by with_reducible assumption) ?_
    | fail_if_no_progress with_reducible refine hK.build ?_ rfl

theorem State.clearRun_k (hK : Loose 0xa1000000000010000000800000000000000000000000000000000000000000000000000000000000000000000f000020080000000000000000000000000000000007e00000000000000000000000000000000000000080000002 K) {s : State} (h : K s) (kind first count : Nat) :
    K (State.clearRun s kind first count) := by
  unfold State.clearRun
  refine foldl_k _ _ h ?_
  intro t k ht
  refine ite_k ?_ (ite_k (State.zeroBank_k (hK.mono (by decide)) ht _) (State.clearHist_k (hK.mono (by decide)) ht _))
  split
  · next f i hf =>
    refine State.setFld_k hK ht _ _ _ ?_
    obtain ⟨e, he, hx⟩ := List.exists_of_findSome?_eq_some hf
    have hall : ∀ e ∈ fixedFamilies, regOk 0xa1000000000010000000800000000000000000000000000000000000000000000000000000000000000000000f000020080000000000000000000000000000000007e00000000000000000000000000000000000000080000002 e.1.id = true := by decide
    have hfe : e.1 = f := by
      split at hx
      · exact (Prod.mk.inj (Option.some.inj hx)).1
      · cases hx
    rw [← hfe]
    exact hall e he
  · exact ht

theorem execCounterClear_k (hK : Loose 0x1e10000000f0010000000800000000000000000000000000000000000000000000000000000000000000000000f000020080000000000000000000000000000000007e00000000000000000000000000000040000f40080000c02 K) {s : State} (h : K s) :
    ∃ z, execCounterClear s = .next z ∧ K z := by
  unfold execCounterClear
  refine ⟨_, rfl, ?_⟩
  try dsimp only
  repeat' first
    | with_reducible assumption
    | decide
    | rfl
    | (dsimp only [Ev.plus]; decide)
    | (show regOk _ _ = true; split <;> decide)
    | with_reducible refine State.clearRun_k (hK.mono (by decide)) ?_ _ _ _
    | with_reducible refine State.setFld_k hK ?_ _ _ _ ?_
    | with_reducible refine State.latch_k hK (by decide) ?_ _ _ ?_
    | with_reducible refine State.snapNow_k (hK.mono (by decide)) ?_
    | with_reducible refine State.stampTick_k (hK.mono (by decide)) ?_ _
    | with_reducible refine State.settleTick_k (hK.mono (by decide)) ?_
    | with_reducible refine ite_k ?_ ?_
    | split
    | refine fst_k (by with_reducible assumption) ?_
    | with_reducible refine foldl_k _ _ ?_ ?_
    | with_reducible refine foldl_fst_k _ _ _ ?_ ?_
    | intro _ _ _
    | fail_if_no_progress with_reducible refine hK.build ?_ rfl

theorem State.snapCtrl_k (hK : Loose 0x100000000000000000000000000000000000000000000000000000000000000000000000000000000000000000000000000000000000000000000000000000000000000000000000000000000000000100000000000 K) {s : State} (h : K s) (w : Nat) :
    K (State.snapCtrl s w) := by
  unfold State.snapCtrl
  try dsimp only
  repeat' first
    | with_reducible assumption
    | decide
    | rfl
    | (dsimp only [Ev.plus]; decide)
    | (show regOk _ _ = true; split <;> decide)
    | with_reducible refine State.setFld_k hK ?_ _ _ _ ?_
    | with_reducible refine ite_k ?_ ?_
    | fail_if_no_progress with_reducible refine hK.build ?_ rfl

theorem execSnapshot_k (hK : Loose 0x1e10000000d00000000000000000000000000000000000000000000000000000000000000000000000000000000000000000000000000000000000000000000000000000000000000000000000000000000040000b40080000c02 K) {s : State} (h : K s) :
    ∃ z, execSnapshot s = .next z ∧ K z := by
  unfold execSnapshot
  refine ⟨_, rfl, ?_⟩
  try dsimp only
  repeat' first
    | with_reducible assumption
    | decide
    | rfl
    | (dsimp only [Ev.plus]; decide)
    | (show regOk _ _ = true; split <;> decide)
    | with_reducible refine State.setFld_k hK ?_ _ _ _ ?_
    | with_reducible refine State.addFld_k hK ?_ _ _ _ ?_
    | with_reducible refine State.latch_k hK (by decide) ?_ _ _ ?_
    | with_reducible refine State.snapNow_k (hK.mono (by decide)) ?_
    | with_reducible refine State.stampTick_k (hK.mono (by decide)) ?_ _
    | with_reducible refine State.settleTick_k (hK.mono (by decide)) ?_
    | with_reducible refine ite_k ?_ ?_
    | with_reducible refine foldl_k _ _ ?_ ?_
    | with_reducible refine foldl_fst_k _ _ _ ?_ ?_
    | intro _ _ _
    | split
    | refine fst_k (by with_reducible assumption) ?_
    | fail_if_no_progress with_reducible refine hK.build ?_ rfl

theorem execArchiveWrite_k (hK : Loose 0x60000000000000000000000000000000000000000000000000000000000000000000000000000000000000000000000000000000000000000000000000000000000000000000000000000000000000000820000001000 K) {s : State} (h : K s) :
    ∃ z, execArchiveWrite s = .next z ∧ K z := by
  unfold execArchiveWrite
  refine ⟨_, rfl, ?_⟩
  try dsimp only
  repeat' first
    | with_reducible assumption
    | decide
    | rfl
    | (dsimp only [Ev.plus]; decide)
    | (show regOk _ _ = true; split <;> decide)
    | with_reducible refine State.writeLe_k (hK.mono (by decide)) ?_ _ _ _
    | with_reducible refine hK.zero (by decide) (by decide) ?_ _ _
    | with_reducible refine State.setFld_k hK ?_ _ _ _ ?_
    | with_reducible refine State.setFlag_k hK ?_ _ _ _ ?_
    | with_reducible refine ite_k ?_ ?_
    | with_reducible refine foldl_k _ _ ?_ ?_
    | with_reducible refine foldl_fst_k _ _ _ ?_ ?_
    | intro _ _ _
    | split
    | refine fst_k (by with_reducible assumption) ?_
    | fail_if_no_progress with_reducible refine hK.build ?_ rfl

end Sys2Proof.Machine
end

