-- ==== Sys2Proof/Laws/FootPegs.lean ====
section
/-! SUPPORT. What the operations and commands of Machine/Pegs.lean may change (Laws/Loose.lean). -/

set_option Elab.async false
set_option linter.unusedTactic false
set_option linter.unreachableTactic false

namespace Sys2Proof.Machine

variable {K : State → Prop}

theorem State.draw_k (hK : Loose 0x4000000000000000000000000000000000000000000000000000000000000000000000000000000000000000000000000000000000000000000000000000000000000000000000000000000000000000001000000000c00 K) {s : State} (h : K s) (sc : Schedule) (y0 : Nat) (y1 : Nat) :
    K (State.draw s sc y0 y1) := by
  induction y0 generalizing s y1 with
  | zero => exact h
  | succ fuel ih =>
    cases y1 with
    | zero => exact h
    | succ want =>
      unfold State.draw
      try dsimp only
      repeat' first
        | with_reducible assumption
        | refine ih ?_ _
        | with_reducible refine State.latch_k hK (by decide) ?_ _ _ (by decide)
        | with_reducible refine State.updPegs_k (hK.mono (by decide)) ?_ _
        | with_reducible refine ite_k ?_ ?_
        | split

theorem execPegSelect_k (hK : Loose 0x4000000000000000000000000000000000000000000000000000000000000000000000000000000000000000000000000000000000000000000000000000000000000000000000000000000000000000001000000000c00 K) {s : State} (h : K s) :
    ∃ z, execPegSelect s = .next z ∧ K z := by
  unfold execPegSelect
  refine ⟨_, rfl, ?_⟩
  try dsimp only
  repeat' first
    | with_reducible assumption
    | with_reducible refine State.updPegs_k (hK.mono (by decide)) ?_ _
    | with_reducible refine State.draw_k (hK.mono (by decide)) ?_ _ _ _
    | with_reducible refine ite_k ?_ ?_
    | split
    | refine fst_k (by with_reducible assumption) ?_
    | fail_if_no_progress with_reducible refine hK.build ?_ rfl

theorem State.settlePegs_k (hK : Loose 0x1000000000100 K) {s : State} (h : K s) :
    K (State.settlePegs s) := by
  unfold State.settlePegs
  refine State.updPegs_k (hK.mono (by decide)) ?_ _
  refine foldl_fst_k _ _ _ h ?_
  intro q x hq
  split
  · exact hq
  · exact State.drawn_k (hK.mono (by decide)) (State.drawn_k (hK.mono (by decide)) hq)

theorem State.pegQueue_k (hK : Loose 0x24000000000000000000000000000000000000000000000000000000000000000000000000000000000000000000000000000000000000000000000000000000000000000000000000000000000000000001000000000c00 K) {s : State} (h : K s) (r : List Nat) :
    K (State.pegQueue s r) := by
  unfold State.pegQueue
  try dsimp only
  repeat' first
    | with_reducible assumption
    | decide
    | rfl
    | (dsimp only [Ev.plus]; decide)
    | (show regOk _ _ = true; split <;> decide)
    | with_reducible refine State.satFld_k hK ?_ _ _ _ ?_
    | with_reducible refine State.latch_k hK (by decide) ?_ _ _ ?_
    | with_reducible refine State.updPegs_k (hK.mono (by decide)) ?_ _
    | with_reducible refine State.latchIf_k hK (by decide) ?_ _ _ _ ?_
    | with_reducible refine ite_k ?_ ?_
    | fail_if_no_progress with_reducible refine hK.build ?_ rfl

theorem State.pegCount_k (hK : Loose 0x800000000000000000000000000000000000000000000000000000000000000000000000000000000000000000000000000000000000000000000000000000000000000000000000000000000000000000000000000000000100 K) {s : State} (h : K s) (p : Peg) (e : PegEnd) :
    K (State.pegCount s p e) := by
  unfold State.pegCount
  try dsimp only
  repeat' first
    | with_reducible assumption
    | decide
    | rfl
    | (dsimp only [Ev.plus]; decide)
    | (show regOk _ _ = true; split <;> decide)
    | with_reducible refine State.addFld_k hK ?_ _ _ _ ?_
    | with_reducible refine State.drawn_k (hK.mono (by decide)) ?_ 
    | with_reducible refine ite_k ?_ ?_
    | with_reducible refine foldl_k _ _ ?_ ?_
    | with_reducible refine foldl_fst_k _ _ _ ?_ ?_
    | intro _ _ _
    | split
    | refine fst_k (by with_reducible assumption) ?_
    | fail_if_no_progress with_reducible refine hK.build ?_ rfl

theorem State.pegDone_k (hK : Loose 0xa00024000800000000000000000000000000000000000000000000000000000000000000000000000000000000000000000000000000000000000000000000000000000000000000000000000000000000000001000000000d00 K) {s : State} (h : K s) (p : Peg) (e : PegEnd) :
    K (State.pegDone s p e) := by
  unfold State.pegDone
  try dsimp only
  repeat' first
    | with_reducible assumption
    | with_reducible refine State.updPegs_k (hK.mono (by decide)) ?_ _
    | with_reducible refine State.pegQueue_k (hK.mono (by decide)) ?_ _
    | with_reducible refine State.pegCount_k (hK.mono (by decide)) ?_ _ _
    | with_reducible refine State.bankCount_k (hK.mono (by decide)) ?_ _ _ _
    | with_reducible refine State.pegCount_k (hK.mono (by decide)) ?_ _ _
    | with_reducible refine ite_k ?_ ?_
    | with_reducible refine foldl_k _ _ ?_ ?_
    | with_reducible refine foldl_fst_k _ _ _ ?_ ?_
    | intro _ _ _
    | split
    | refine fst_k (by with_reducible assumption) ?_
    | fail_if_no_progress with_reducible refine hK.build ?_ rfl

theorem State.pegEnds_k (hK : Loose 0xa00024000800000000000000000000000000000000000000000000000000000000000000000000000000000000000000000000000000000000000000000000000000000000000000000000000000000000000001000000000d00 K) {s : State} (h : K s) (p : Peg) : K (State.pegEnds s p) := by
  unfold State.pegEnds
  exact elim_k _ _ h (fun e =>
    State.pegDone_k (hK.mono (by decide)) (State.drawn_k (hK.mono (by decide)) (State.drawn_k (hK.mono (by decide)) h)) p e)

theorem execPegComplete_k (hK : Loose 0xa00024000800000000000000000000000000000000000000000000000000000000000000000000000000000000000000000000000000000000000000000000000000000000000000000000000000000000000001000000000d00 K) {s : State} (h : K s) (page : Word) (src : SlotAddr) :
    ∃ z, execPegComplete page src s = .next z ∧ K z := by
  unfold execPegComplete
  refine ⟨_, rfl, ?_⟩
  try dsimp only
  repeat' first
    | with_reducible assumption
    | with_reducible refine State.pegDone_k (hK.mono (by decide)) ?_ _ _
    | with_reducible refine State.pegEnds_k (hK.mono (by decide)) ?_ _
    | with_reducible refine ite_k ?_ ?_
    | with_reducible refine foldl_k _ _ ?_ ?_
    | with_reducible refine foldl_fst_k _ _ _ ?_ ?_
    | intro _ _ _
    | split
    | refine fst_k (by with_reducible assumption) ?_

theorem State.pegCtrl_k (hK : Loose 0x1000000000000 K) {s : State} (h : K s) (w : Nat) :
    K (State.pegCtrl s w) := by
  unfold State.pegCtrl
  try dsimp only
  repeat' first
    | with_reducible assumption
    | with_reducible refine State.updPegs_k (hK.mono (by decide)) ?_ _
    | with_reducible refine ite_k ?_ ?_
    | split
    | refine fst_k (by with_reducible assumption) ?_
    | fail_if_no_progress with_reducible refine hK.build ?_ rfl

theorem execPegDmaMove_k (hK : Loose 0x8000000000000000001e400000000000000000000000000000000000000000000000000000000000000000000000000000000000000000000000000000000000000000000000000000000000000000000001000000001e00 K) {s : State} (h : K s) :
    ∃ z, execPegDmaMove s = .next z ∧ K z := by
  unfold execPegDmaMove
  refine ⟨_, rfl, ?_⟩
  try dsimp only
  repeat' first
    | with_reducible assumption
    | decide
    | rfl
    | (dsimp only [Ev.plus]; decide)
    | (show regOk _ _ = true; split <;> decide)
    | with_reducible refine State.updPegs_k (hK.mono (by decide)) ?_ _
    | with_reducible refine State.setFld_k hK ?_ _ _ _ ?_
    | with_reducible refine State.writeBytes_k (hK.mono (by decide)) ?_ _ _
    | with_reducible refine State.defaultHit_k (hK.mono (by decide)) ?_ _ _
    | with_reducible refine ite_k ?_ ?_
    | split
    | refine fst_k (by with_reducible assumption) ?_
    | fail_if_no_progress with_reducible refine hK.build ?_ rfl

end Sys2Proof.Machine
end

