-- ==== Sys2Proof/Laws/FootSounding.lean ====
section
/-! SUPPORT. What the operations and commands of Machine/Sounding.lean may change (Laws/Loose.lean). -/

set_option Elab.async false
set_option linter.unusedTactic false
set_option linter.unreachableTactic false

namespace Sys2Proof.Machine

variable {K : State → Prop}

theorem State.updSnd_k (hK : Loose 0x10000000000 K) {s : State} (h : K s) (f : Sounding → Sounding) :
    K (State.updSnd s f) := by
  unfold State.updSnd
  try dsimp only
  repeat' first
    | with_reducible assumption
    | fail_if_no_progress with_reducible refine hK.build ?_ rfl

theorem State.showSounding_k (hK : Loose 0x500000000000000000000000000000000000000000000000000000000000000000000000000000000000000000000000000000000000000000000000000000000000000000000000000000010000000000 K) {s : State} (h : K s) :
    K (State.showSounding s) := by
  unfold State.showSounding
  try dsimp only
  repeat' first
    | with_reducible assumption
    | decide
    | rfl
    | (dsimp only [Ev.plus]; decide)
    | (show regOk _ _ = true; split <;> decide)
    | with_reducible refine State.setFld_k hK ?_ _ _ _ ?_
    | with_reducible refine State.setFlag_k hK ?_ _ _ _ ?_
    | with_reducible refine State.updSnd_k (hK.mono (by decide)) ?_ _
    | split
    | refine fst_k (by with_reducible assumption) ?_
    | with_reducible refine ite_k ?_ ?_
    | with_reducible refine foldl_k _ _ ?_ ?_
    | with_reducible refine foldl_fst_k _ _ _ ?_ ?_
    | intro _ _ _
    | fail_if_no_progress with_reducible refine hK.build ?_ rfl

theorem State.endPass_k (hK : Loose 0x6800000000000000000000000000000000000000000000000000000000000000000000000000000000000000000000000000000000000000000000000000000000000000000000000000000010000000c00 K) {s : State} (h : K s) :
    K (State.endPass s) := by
  unfold State.endPass
  try dsimp only
  repeat' first
    | with_reducible assumption
    | decide
    | rfl
    | (dsimp only [Ev.plus]; decide)
    | (show regOk _ _ = true; split <;> decide)
    | with_reducible refine State.satFld_k hK ?_ _ _ _ ?_
    | with_reducible refine State.setFld_k hK ?_ _ _ _ ?_
    | with_reducible refine State.updSnd_k (hK.mono (by decide)) ?_ _
    | with_reducible refine State.latch_k hK (by decide) ?_ _ _ ?_
    | with_reducible refine ite_k ?_ ?_
    | fail_if_no_progress with_reducible refine hK.build ?_ rfl

theorem State.soundFail_k (hK : Loose 0x78800000000000000000000000000000000000000000000000000000000000000000000000000000000000000000000000000000000000000000000000000000000000000000000000000004000000000c00 K) {s : State} (h : K s) (index kind inst : Nat) (repaired : Bool) :
    K (State.soundFail s index kind inst repaired) := by
  unfold State.soundFail
  try dsimp only
  repeat' first
    | with_reducible assumption
    | decide
    | rfl
    | (dsimp only [Ev.plus]; decide)
    | (show regOk _ _ = true; split <;> decide)
    | with_reducible refine State.setFld_k hK ?_ _ _ _ ?_
    | with_reducible refine State.setFlag_k hK ?_ _ _ _ ?_
    | with_reducible refine State.latch_k hK (by decide) ?_ _ _ ?_
    | with_reducible refine State.tallyAdd_k (hK.mono (by decide)) ?_ _ _ _ _

theorem State.regionFails_k (hK : Loose 0x78801800000000000000000000000000000000000000000000000000000000000000000000000000000000000000000000000000000000000000000000000000000000000000000000000004010000000c00 K) {s : State} (h : K s) (r : Nat) :
    K (State.regionFails s r) := by
  unfold State.regionFails
  try dsimp only
  repeat' first
    | with_reducible assumption
    | decide
    | rfl
    | (dsimp only [Ev.plus]; decide)
    | (show regOk _ _ = true; split <;> decide)
    | with_reducible refine State.satFld_k hK ?_ _ _ _ ?_
    | with_reducible refine State.soundFail_k (hK.mono (by decide)) ?_ _ _ _ _
    | with_reducible refine State.setFld_k hK ?_ _ _ _ ?_
    | with_reducible refine State.updSnd_k (hK.mono (by decide)) ?_ _
    | with_reducible refine ite_k ?_ ?_
    | with_reducible refine foldl_k _ _ ?_ ?_
    | with_reducible refine foldl_fst_k _ _ _ ?_ ?_
    | intro _ _ _
    | split
    | refine fst_k (by with_reducible assumption) ?_

theorem State.takeRegion_k (hK : Loose 0x10000000000 K) {s : State} (h : K s) (r : Nat) :
    K (State.takeRegion s r) := by
  unfold State.takeRegion
  try dsimp only
  repeat' first
    | with_reducible assumption
    | with_reducible refine State.updSnd_k (hK.mono (by decide)) ?_ _
    | with_reducible refine ite_k ?_ ?_
    | fail_if_no_progress with_reducible refine hK.build ?_ rfl

theorem execSoundRegion_k (hK : Loose 0x7ed01800000000000000000000000000000000000000000000000000000000000000000000000000000000000000000000000000000000000000000000000000000000000000000000000004010000000c00 K) {s : State} (h : K s) (fails : Bool) :
    ∃ z, execSoundRegion fails s = .next z ∧ K z := by
  unfold execSoundRegion
  refine ⟨_, rfl, ?_⟩
  try dsimp only
  repeat' first
    | with_reducible assumption
    | with_reducible refine State.takeRegion_k (hK.mono (by decide)) ?_ _
    | with_reducible refine State.updSnd_k (hK.mono (by decide)) ?_ _
    | with_reducible refine State.regionFails_k (hK.mono (by decide)) ?_ _
    | with_reducible refine State.endPass_k (hK.mono (by decide)) ?_ 
    | with_reducible refine State.showSounding_k (hK.mono (by decide)) ?_ 
    | with_reducible refine ite_k ?_ ?_
    | split
    | refine fst_k (by with_reducible assumption) ?_
    | fail_if_no_progress with_reducible refine hK.build ?_ rfl

theorem execSoundAbort_k (hK : Loose 0xd00000000000000000000000000000000000000000000000000000000000000000000000000000000000000000000000000000000000000000000000000000000000000000000000000000010000000c00 K) {s : State} (h : K s) :
    ∃ z, execSoundAbort s = .next z ∧ K z := by
  unfold execSoundAbort
  refine ⟨_, rfl, ?_⟩
  try dsimp only
  repeat' first
    | with_reducible assumption
    | decide
    | rfl
    | (dsimp only [Ev.plus]; decide)
    | (show regOk _ _ = true; split <;> decide)
    | with_reducible refine State.takeRegion_k (hK.mono (by decide)) ?_ _
    | with_reducible refine State.updSnd_k (hK.mono (by decide)) ?_ _
    | with_reducible refine State.latchIf_k hK (by decide) ?_ _ _ _ ?_
    | with_reducible refine State.showSounding_k (hK.mono (by decide)) ?_ 
    | with_reducible refine ite_k ?_ ?_
    | split
    | refine fst_k (by with_reducible assumption) ?_
    | fail_if_no_progress with_reducible refine hK.build ?_ rfl

theorem execSoundBankSwap_k (hK : Loose 0x500000000000000000000000000000000000000000000000000000000000000000000000000000000000000000000000000000000000000000000000000000000000000000000000000000010000000000 K) {s : State} (h : K s) :
    ∃ z, execSoundBankSwap s = .next z ∧ K z := by
  unfold execSoundBankSwap
  refine ⟨_, rfl, ?_⟩
  try dsimp only
  repeat' first
    | with_reducible assumption
    | with_reducible refine State.updSnd_k (hK.mono (by decide)) ?_ _
    | with_reducible refine State.showSounding_k (hK.mono (by decide)) ?_ 
    | with_reducible refine ite_k ?_ ?_
    | split
    | refine fst_k (by with_reducible assumption) ?_
    | fail_if_no_progress with_reducible refine hK.build ?_ rfl

theorem execSoundBankTestDone_k (hK : Loose 0x102200000000000000007ef00000000000000000000000000000000000000000000000000000000000000000000000000000000000000000000000000000000000000000000000000000000000000000000000000004010000000c00 K) {s : State} (h : K s) (fails : Bool) :
    ∃ z, execSoundBankTestDone fails s = .next z ∧ K z := by
  unfold execSoundBankTestDone
  refine ⟨_, rfl, ?_⟩
  try dsimp only
  repeat' first
    | with_reducible assumption
    | decide
    | rfl
    | (dsimp only [Ev.plus]; decide)
    | (show regOk _ _ = true; split <;> decide)
    | with_reducible refine State.updSnd_k (hK.mono (by decide)) ?_ _
    | with_reducible refine State.addFld_k hK ?_ _ _ _ ?_
    | with_reducible refine State.setFld_k hK ?_ _ _ _ ?_
    | with_reducible refine State.soundFail_k (hK.mono (by decide)) ?_ _ _ _ _
    | with_reducible refine State.substDone_k (hK.mono (by decide)) ?_ _ _ _
    | with_reducible refine State.endPass_k (hK.mono (by decide)) ?_ 
    | with_reducible refine State.showSounding_k (hK.mono (by decide)) ?_ 
    | with_reducible refine ite_k ?_ ?_
    | split
    | refine fst_k (by with_reducible assumption) ?_
    | fail_if_no_progress with_reducible refine hK.build ?_ rfl

theorem State.tickSounding_k (hK : Loose 0x500000000000000000000000000000000000000000000000000000000000000000000000000000000000000000000000000000000000000000000000000000000000000000000000000000010000000000 K) {s : State} (h : K s) :
    K (State.tickSounding s) := by
  unfold State.tickSounding
  try dsimp only
  repeat' first
    | with_reducible assumption
    | with_reducible refine State.updSnd_k (hK.mono (by decide)) ?_ _
    | with_reducible refine State.showSounding_k (hK.mono (by decide)) ?_ 
    | with_reducible refine ite_k ?_ ?_
    | split
    | refine fst_k (by with_reducible assumption) ?_
    | with_reducible refine foldl_k _ _ ?_ ?_
    | with_reducible refine foldl_fst_k _ _ _ ?_ ?_
    | intro _ _ _
    | fail_if_no_progress with_reducible refine hK.build ?_ rfl

end Sys2Proof.Machine
end

