-- ==== Sys2Proof/Laws/FootDdr.lean ====
section
/-! SUPPORT. What the operations and commands of Machine/Ddr.lean may change (Laws/Loose.lean). -/

set_option Elab.async false
set_option linter.unusedTactic false
set_option linter.unreachableTactic false

namespace Sys2Proof.Machine

variable {K : State → Prop}

theorem State.setChState_k (hK : Loose 0x410000000000000000000000000000000000000000000000000000000000000000000000000000000000000000000000000000000000000000000000000000000000000000000000000000000000000000000000 K) {s : State} (h : K s) (n st : Nat) :
    K (State.setChState s n st) := by
  unfold State.setChState
  try dsimp only
  repeat' first
    | with_reducible assumption
    | decide
    | rfl
    | (dsimp only [Ev.plus]; decide)
    | (show regOk _ _ = true; split <;> decide)
    | with_reducible refine State.setFld_k hK ?_ _ _ _ ?_

theorem State.updDdr_k (hK : Loose 0x20000000000 K) {s : State} (h : K s) (f : Ddr → Ddr) (e : (f s.ddr).zeroed = s.ddr.zeroed)
    (ek : (f s.ddr).keys = s.ddr.keys := by first | rfl | (dsimp only; split <;> rfl)) : K (s.updDdr f) :=
  hK.build h e ek

theorem State.takeOffline_k (hK : Loose 0x410000000000000000000000000000000000000000000000000000000000000000000000000000000000000000000000000000000000000000000000000000000000000000000000000000000000020000000000 K) {s : State} (h : K s) (n : Nat) :
    K (State.takeOffline s n) := by
  unfold State.takeOffline
  try dsimp only
  repeat' first
    | with_reducible assumption
    | with_reducible refine State.updDdr_k (hK.mono (by decide)) ?_ _ (by first | rfl | (dsimp only; split <;> rfl))
    | with_reducible refine State.setChState_k (hK.mono (by decide)) ?_ _ _
    | with_reducible refine ite_k ?_ ?_
    | with_reducible refine foldl_k _ _ ?_ ?_
    | with_reducible refine foldl_fst_k _ _ _ ?_ ?_
    | intro _ _ _
    | split
    | refine fst_k (by with_reducible assumption) ?_

theorem State.retrain_k (hK : Loose 0x450000000000000000000000000000000000000000000000000000000000000000000000000000000000000000000000000000000000000000000000000000000000000000000000000000000000020000000c00 K) {s : State} (h : K s) (n : Nat) :
    K (State.retrain s n) := by
  unfold State.retrain
  repeat' first
    | with_reducible assumption
    | exact State.latch_k hK (by decide) h _ _ (by decide)
    | exact State.setChState_k (hK.mono (by decide)) h _ _
    | exact State.updDdr_k (hK.mono (by decide)) h _ (by split <;> rfl) (by split <;> rfl)
    | decide
    | rfl
    | (dsimp only [Ev.plus]; decide)
    | (show regOk _ _ = true; split <;> decide)
    | with_reducible refine State.latch_k hK (by decide) ?_ _ _ ?_
    | with_reducible refine State.updDdr_k (hK.mono (by decide)) ?_ _ (by first | rfl | (dsimp only; split <;> rfl))
    | with_reducible refine State.takeOffline_k (hK.mono (by decide)) ?_ _
    | with_reducible refine ite_k ?_ ?_
    | with_reducible refine foldl_k _ _ ?_ ?_
    | with_reducible refine foldl_fst_k _ _ _ ?_ ?_
    | intro _ _ _
    | split
    | refine fst_k (by with_reducible assumption) ?_

theorem State.retrainCtrl_k (hK : Loose 0x450000000000000000000000000000000000000000000000000000000000000000000000000000000000000000000000000000000000000000000000000000000000000000000000000000000000020000000c00 K) {s : State} (h : K s) (n w : Nat) :
    K (State.retrainCtrl s n w) := by
  unfold State.retrainCtrl
  try dsimp only
  repeat' first
    | with_reducible assumption
    | with_reducible refine State.retrain_k (hK.mono (by decide)) ?_ _
    | with_reducible refine ite_k ?_ ?_

theorem State.nextRetrain_k (hK : Loose 0x410000000000000000000000000000000000000000000000000000000000000000000000000000000000000000000000000000000000000000000000000000000000000000000000000000000000020000000000 K) {s : State} (h : K s) :
    K (State.nextRetrain s) := by
  unfold State.nextRetrain
  try dsimp only
  repeat' first
    | with_reducible assumption
    | with_reducible refine State.updDdr_k (hK.mono (by decide)) ?_ _ (by first | rfl | (dsimp only; split <;> rfl))
    | with_reducible refine State.takeOffline_k (hK.mono (by decide)) ?_ _
    | intro _ _ _
    | intro _ _
    | with_reducible refine ite_k ?_ ?_
    | split
    | refine fst_k (by with_reducible assumption) ?_
    | with_reducible refine foldl_k _ _ ?_ ?_
    | with_reducible refine foldl_fst_k _ _ _ ?_ ?_
    | fail_if_no_progress with_reducible refine hK.build ?_ rfl

theorem execDdrRetrainDone_k (hK : Loose 0x1c50000000000000000000000000000000000000000000000000000000000000000000000000000000000000000000000000000000000000000000000000000000000000000000000000000000004020000000c00 K) {s : State} (h : K s) (ok : Bool) (temp : BitVec 8) :
    ∃ z, execDdrRetrainDone ok temp s = .next z ∧ K z := by
  unfold execDdrRetrainDone
  refine ⟨_, rfl, ?_⟩
  try dsimp only
  repeat' first
    | with_reducible assumption
    | decide
    | rfl
    | (dsimp only [Ev.plus]; decide)
    | (show regOk _ _ = true; split <;> decide)
    | with_reducible refine State.satFld_k hK ?_ _ _ _ ?_
    | with_reducible refine State.setChState_k (hK.mono (by decide)) ?_ _ _
    | with_reducible refine State.setFld_k hK ?_ _ _ _ ?_
    | with_reducible refine State.updDdr_k (hK.mono (by decide)) ?_ _ (by first | rfl | (dsimp only; split <;> rfl))
    | intro _ _ _
    | intro _ _
    | with_reducible refine State.latch_k hK (by decide) ?_ _ _ ?_
    | with_reducible refine State.nextRetrain_k (hK.mono (by decide)) ?_ 
    | with_reducible refine State.tallyAdd_k (hK.mono (by decide)) ?_ _ _ _ _
    | with_reducible refine ite_k ?_ ?_
    | split
    | refine fst_k (by with_reducible assumption) ?_
    | fail_if_no_progress with_reducible refine hK.build ?_ rfl

theorem State.corrected_k (hK : Loose 0x2100000000000000000000000000000000000000000000000000000000000000000000000000000000000000000000000000000000000000000000000000000000000000000000000000000000000020000000000 K) {s : State} (h : K s) (n k : Nat) :
    K (State.corrected s n k) := by
  unfold State.corrected
  try dsimp only
  repeat' first
    | with_reducible assumption
    | decide
    | rfl
    | (dsimp only [Ev.plus]; decide)
    | (show regOk _ _ = true; split <;> decide)
    | with_reducible refine State.updDdr_k (hK.mono (by decide)) ?_ _ (by first | rfl | (dsimp only; split <;> rfl))
    | with_reducible refine State.addFld_k hK ?_ _ _ _ ?_
    | with_reducible refine State.satFld_k hK ?_ _ _ _ ?_
    | with_reducible refine ite_k ?_ ?_
    | with_reducible refine foldl_k _ _ ?_ ?_
    | with_reducible refine foldl_fst_k _ _ _ ?_ ?_
    | intro _ _ _
    | split
    | refine fst_k (by with_reducible assumption) ?_

theorem execDdrPatrol_k (hK : Loose 0x2100000000000000000000000000000000000000000000000000000000000000000000000000000000000000000000000000000000000000000000000000000000000000000000000000000000000020000000000 K) {s : State} (h : K s) (n : Fin 8) (corrected : Nat) :
    ∃ z, execDdrPatrol n corrected s = .next z ∧ K z := by
  unfold execDdrPatrol
  refine ⟨_, rfl, ?_⟩
  try dsimp only
  repeat' first
    | with_reducible assumption
    | decide
    | rfl
    | (dsimp only [Ev.plus]; decide)
    | (show regOk _ _ = true; split <;> decide)
    | with_reducible refine State.satFld_k hK ?_ _ _ _ ?_
    | with_reducible refine State.addFld_k hK ?_ _ _ _ ?_
    | with_reducible refine State.corrected_k (hK.mono (by decide)) ?_ _ _
    | intro _ _ _
    | intro _ _
    | with_reducible refine ite_k ?_ ?_
    | with_reducible refine foldl_k _ _ ?_ ?_
    | with_reducible refine foldl_fst_k _ _ _ ?_ ?_
    | split
    | refine fst_k (by with_reducible assumption) ?_
    | fail_if_no_progress with_reducible refine hK.build ?_ rfl

theorem State.tickDdr_k (hK : Loose 0x20000000000 K) {s : State} (h : K s) :
    K (State.tickDdr s) := by
  unfold State.tickDdr
  try dsimp only
  repeat' first
    | with_reducible assumption
    | with_reducible refine State.updDdr_k (hK.mono (by decide)) ?_ _ (by first | rfl | (dsimp only; split <;> rfl))
    | intro _ _ _
    | intro _ _
    | with_reducible refine ite_k ?_ ?_
    | fail_if_no_progress with_reducible refine hK.build ?_ rfl

theorem State.loseUnit_k (hK : Loose 0x140000000000000000000000000000000000000000000000000000000000000000000000000000000000000000000000000000000000000000000000000000000000000000000000000000000000000000020c00 K) {s : State} (h : K s) (u : Nat) :
    K (State.loseUnit s u) := by
  unfold State.loseUnit
  try dsimp only
  repeat' first
    | with_reducible assumption
    | decide
    | rfl
    | (dsimp only [Ev.plus]; decide)
    | (show regOk _ _ = true; split <;> decide)
    | with_reducible refine State.latch_k hK (by decide) ?_ _ _ ?_
    | with_reducible refine State.addFld_k hK ?_ _ _ _ ?_
    | with_reducible refine ite_k ?_ ?_
    | with_reducible refine foldl_k _ _ ?_ ?_
    | with_reducible refine foldl_fst_k _ _ _ ?_ ?_
    | intro _ _ _
    | split
    | refine fst_k (by with_reducible assumption) ?_
    | fail_if_no_progress with_reducible refine hK.build ?_ rfl

theorem State.unitFound_k (hK : Loose 0x2140000000000000000000000000000000000000000000000000000000000000000000000000000000000000000000000000000000000000000000000000000000000000000000000000000000000020000020c00 K) {s : State} (h : K s) (u : Nat) (o : UnitOutcome) :
    K (State.unitFound s u o) := by
  unfold State.unitFound
  try dsimp only
  repeat' first
    | with_reducible assumption
    | decide
    | rfl
    | (dsimp only [Ev.plus]; decide)
    | (show regOk _ _ = true; split <;> decide)
    | with_reducible refine State.loseUnit_k (hK.mono (by decide)) ?_ _
    | with_reducible refine State.corrected_k (hK.mono (by decide)) ?_ _ _
    | with_reducible refine State.addFld_k hK ?_ _ _ _ ?_
    | with_reducible refine ite_k ?_ ?_
    | with_reducible refine foldl_k _ _ ?_ ?_
    | with_reducible refine foldl_fst_k _ _ _ ?_ ?_
    | intro _ _ _
    | split
    | refine fst_k (by with_reducible assumption) ?_

theorem execDdrUnitRebuild_k (hK : Loose 0x214000000001e6000000000000000002000000000000000000000000000000000000000000000000000000000000000000000000000000000000000000000000000000000000000000000000004010a0090820fd0 K) {s : State} (h : K s) (r : UnitReader) (x : BitVec 38) (o : UnitOutcome) :
    ∃ z, execDdrUnitRebuild r x o s = .next z ∧ K z := by
  unfold execDdrUnitRebuild
  refine ⟨_, rfl, ?_⟩
  try dsimp only
  repeat' first
    | with_reducible assumption
    | decide
    | rfl
    | (dsimp only [Ev.plus]; decide)
    | (show regOk _ _ = true; split <;> decide)
    | with_reducible refine State.addFld_k hK ?_ _ _ _ ?_
    | with_reducible refine State.latch_k hK (by decide) ?_ _ _ ?_
    | with_reducible refine State.defaultHit_k (hK.mono (by decide)) ?_ _ _
    | with_reducible refine State.unitFound_k (hK.mono (by decide)) ?_ _ _
    | with_reducible refine State.readUnits_k (hK.mono (by decide)) ?_ _
    | with_reducible refine State.readView_k (hK.mono (by decide)) ?_ _ _
    | with_reducible refine ite_k ?_ ?_
    | split
    | refine fst_k (by with_reducible assumption) ?_
    | with_reducible refine foldl_k _ _ ?_ ?_
    | with_reducible refine foldl_fst_k _ _ _ ?_ ?_
    | intro _ _ _
    | fail_if_no_progress with_reducible refine hK.build ?_ rfl

end Sys2Proof.Machine
end

