-- ==== Sys2Proof/Laws/FootSubst.lean ====
section
/-! SUPPORT. What the operations and commands of Machine/Subst.lean may change (Laws/Loose.lean). -/

set_option Elab.async false
set_option linter.unusedTactic false
set_option linter.unreachableTactic false

namespace Sys2Proof.Machine

variable {K : State → Prop}

theorem execLaneSubstTrigger_k (hK : Loose 0x22000000000000000000000000000000000000000000000000000000000000000000000000000000000000000000000000000000000000000000000000000000000000000000000000000000000000000000000024000000000d00 K) {s : State} (h : K s) (x : Fin 256) (why : LaneTrigger) :
    ∃ z, execLaneSubstTrigger x why s = .next z ∧ K z := by
  unfold execLaneSubstTrigger
  refine ⟨_, rfl, ?_⟩
  try dsimp only
  repeat' first
    | with_reducible assumption
    | with_reducible refine State.exhausted_k (hK.mono (by decide)) ?_ 
    | with_reducible refine State.updSist_k (hK.mono (by decide)) ?_ _
    | with_reducible refine State.showBusy_k (hK.mono (by decide)) ?_ 
    | with_reducible refine State.needSubst_k (hK.mono (by decide)) ?_ _ _
    | with_reducible refine ite_k ?_ ?_
    | split
    | refine fst_k (by with_reducible assumption) ?_
    | fail_if_no_progress with_reducible refine hK.build ?_ rfl

theorem State.startLane_k (hK : Loose 0x10000000000000000000020000000002004 K) {s : State} (h : K s) (x : Nat) :
    K (State.startLane s x) := by
  unfold State.startLane
  try dsimp only
  repeat' first
    | with_reducible assumption
    | decide
    | rfl
    | (dsimp only [Ev.plus]; decide)
    | (show regOk _ _ = true; split <;> decide)
    | with_reducible refine State.setFld_k hK ?_ _ _ _ ?_
    | with_reducible refine State.spareCtrlEffect_k (hK.mono (by decide)) ?_ _ _
    | with_reducible refine State.updSist_k (hK.mono (by decide)) ?_ _
    | with_reducible refine State.setStg_k (hK.mono (by decide)) ?_ _ _ _
    | with_reducible refine ite_k ?_ ?_
    | with_reducible refine foldl_k _ _ ?_ ?_
    | with_reducible refine foldl_fst_k _ _ _ ?_ ?_
    | intro _ _ _
    | split
    | refine fst_k (by with_reducible assumption) ?_
    | fail_if_no_progress with_reducible refine hK.build ?_ rfl

theorem State.endLane_k (hK : Loose 0x2000000000000000000000000000000000000000000000000000000000000000000000000000000000000000000000000000000000000000000000000000000000000000000000000000000000000000000000020000000000000 K) {s : State} (h : K s) :
    K (State.endLane s) := by
  unfold State.endLane
  try dsimp only
  repeat' first
    | with_reducible assumption
    | with_reducible refine State.updSist_k (hK.mono (by decide)) ?_ _
    | with_reducible refine State.showBusy_k (hK.mono (by decide)) ?_ 
    | fail_if_no_progress with_reducible refine hK.build ?_ rfl

theorem State.runLane_k (hK : Loose 0x22000000000000000000000000000000000000000000000000000000000000000000000000000000000000000000000000000000000000000000000000000000000000000000000000000000000000000000000024000000002c00 K) {s : State} (h : K s) (x : Nat) :
    K (State.runLane s x) := by
  unfold State.runLane
  try dsimp only
  repeat' first
    | with_reducible assumption
    | with_reducible refine State.endLane_k (hK.mono (by decide)) ?_ 
    | with_reducible refine State.substDoneAt_k (hK.mono (by decide)) ?_ _ _ _ _
    | with_reducible refine State.spareCtrlEffect_k (hK.mono (by decide)) ?_ _ _
    | with_reducible refine ite_k ?_ ?_
    | split
    | refine fst_k (by with_reducible assumption) ?_

theorem State.takeLane_k (hK : Loose 0x22000000000000000000000000000000000000000000000000000000000000000000000000000000000000000000000000000000000000000000000000000000000000000000000000010000000000000000000020000000002c04 K) {s : State} (h : K s) (x : Nat) :
    K (State.takeLane s x) := by
  unfold State.takeLane
  try dsimp only
  repeat' first
    | with_reducible assumption
    | with_reducible refine State.updSist_k (hK.mono (by decide)) ?_ _
    | with_reducible refine State.startLane_k (hK.mono (by decide)) ?_ _
    | with_reducible refine State.showBusy_k (hK.mono (by decide)) ?_ 
    | with_reducible refine State.exhausted_k (hK.mono (by decide)) ?_ 
    | with_reducible refine ite_k ?_ ?_
    | with_reducible refine foldl_k _ _ ?_ ?_
    | with_reducible refine foldl_fst_k _ _ _ ?_ ?_
    | intro _ _ _
    | split
    | refine fst_k (by with_reducible assumption) ?_

theorem State.tickLaneSubst_k (hK : Loose 0x22000000000000000000000000000000000000000000000000000000000000000000000000000000000000000000000000000000000000000000000000000000000000000000000000010000000000000000000024000000002c04 K) {s : State} (h : K s) :
    K (State.tickLaneSubst s) := by
  unfold State.tickLaneSubst
  try dsimp only
  repeat' first
    | with_reducible assumption
    | with_reducible refine State.runLane_k (hK.mono (by decide)) ?_ _
    | with_reducible refine State.takeLane_k (hK.mono (by decide)) ?_ _
    | split
    | refine fst_k (by with_reducible assumption) ?_
    | with_reducible refine ite_k ?_ ?_
    | with_reducible refine foldl_k _ _ ?_ ?_
    | with_reducible refine foldl_fst_k _ _ _ ?_ ?_
    | intro _ _ _
    | fail_if_no_progress with_reducible refine hK.build ?_ rfl

theorem State.restartCompile_k (hK : Loose 0x18020001000000000000000000000000000000000000000000000000000000000000001000000 K) {s : State} (h : K s) :
    K (State.restartCompile s) := by
  unfold State.restartCompile
  try dsimp only
  repeat' first
    | with_reducible assumption
    | with_reducible refine State.startCompile_k (hK.mono (by decide)) ?_ _
    | with_reducible refine ite_k ?_ ?_
    | with_reducible refine foldl_k _ _ ?_ ?_
    | with_reducible refine foldl_fst_k _ _ _ ?_ ?_
    | intro _ _ _
    | split
    | refine fst_k (by with_reducible assumption) ?_

theorem execScribeEngineRetire_k (hK : Loose 0x80220000000000000000000000000000000000000000000000000000000000000000000000000000000000000000000000000000000180200012c0000000000000000000000000000000000000000000000000000004000001000c00 K) {s : State} (h : K s) (e : Fin 68) :
    ∃ z, execScribeEngineRetire e s = .next z ∧ K z := by
  unfold execScribeEngineRetire
  refine ⟨_, rfl, ?_⟩
  try dsimp only
  repeat' first
    | with_reducible assumption
    | decide
    | rfl
    | (dsimp only [Ev.plus]; decide)
    | (show regOk _ _ = true; split <;> decide)
    | with_reducible refine State.exhausted_k (hK.mono (by decide)) ?_ 
    | with_reducible refine State.setFld_k hK ?_ _ _ _ ?_
    | with_reducible refine State.latch_k hK (by decide) ?_ _ _ ?_
    | with_reducible refine State.substDone_k (hK.mono (by decide)) ?_ _ _ _
    | with_reducible refine State.restartCompile_k (hK.mono (by decide)) ?_
    | with_reducible refine ite_k ?_ ?_
    | with_reducible refine foldl_k _ _ ?_ ?_
    | with_reducible refine foldl_fst_k _ _ _ ?_ ?_
    | intro _ _ _
    | split
    | refine fst_k (by with_reducible assumption) ?_

end Sys2Proof.Machine
end

