-- ==== Sys2Proof/Laws/FootGuard.lean ====
section
/-! SUPPORT. What the operations and commands of Machine/Guard.lean may change (Laws/Loose.lean). -/

set_option Elab.async false
set_option linter.unusedTactic false
set_option linter.unreachableTactic false

namespace Sys2Proof.Machine

variable {K : State → Prop}

theorem State.updGuard_k (hK : Loose 0x40000000000000 K) {s : State} (h : K s) (f : Guarding → Guarding) :
    K (State.updGuard s f) := by
  unfold State.updGuard
  try dsimp only
  repeat' first
    | with_reducible assumption
    | fail_if_no_progress with_reducible refine hK.build ?_ rfl

theorem State.lcResult_k (hK : Loose 0x2000000000000 K) {s : State} (h : K s) (code : Nat) :
    K (State.lcResult s code) := by
  unfold State.lcResult
  try dsimp only
  repeat' first
    | with_reducible assumption
    | with_reducible refine State.updTally_k (hK.mono (by decide)) ?_ _
    | fail_if_no_progress with_reducible refine hK.build ?_ rfl

theorem State.lcCtrl_k (hK : Loose 0x8000000000000000000000000000000000000000000000000000000000000000000000000000000000000000000000000000000000000000000000000000000000000000000000000000000000000000000000000000002000000000000 K) {s : State} (h : K s) (w : Nat) :
    K (State.lcCtrl s w) := by
  unfold State.lcCtrl
  try dsimp only
  repeat' first
    | with_reducible assumption
    | decide
    | rfl
    | (dsimp only [Ev.plus]; decide)
    | (show regOk _ _ = true; split <;> decide)
    | with_reducible refine State.lcResult_k (hK.mono (by decide)) ?_ _
    | with_reducible refine State.setFlag_k hK ?_ _ _ _ ?_
    | with_reducible refine ite_k ?_ ?_

theorem State.newNonce_k (hK : Loose 0x80000000000000000000000000000000000000000000000000000000000000000000000000000000000000000000000000000000000000000000000000000000000000000000000000000000000000000000000000000000000000000100 K) {s : State} (h : K s) :
    K (State.newNonce s) := by
  unfold State.newNonce
  try dsimp only
  repeat' first
    | with_reducible assumption
    | decide
    | rfl
    | (dsimp only [Ev.plus]; decide)
    | (show regOk _ _ = true; split <;> decide)
    | with_reducible refine State.setFld_k hK ?_ _ _ _ ?_
    | with_reducible refine State.drawn_k (hK.mono (by decide)) ?_ 

theorem State.lcRefuse_k (hK : Loose 0x8000020000000000000000000000000000000000000000000000000000000000000000000000000000000000000000000000000000000000000000000000000000000000000000000000000000000000000000000000002000000000c00 K) {s : State} (h : K s) (code : Nat) :
    K (State.lcRefuse s code) := by
  unfold State.lcRefuse
  try dsimp only
  repeat' first
    | with_reducible assumption
    | decide
    | rfl
    | (dsimp only [Ev.plus]; decide)
    | (show regOk _ _ = true; split <;> decide)
    | with_reducible refine State.setFlag_k hK ?_ _ _ _ ?_
    | with_reducible refine State.lcResult_k (hK.mono (by decide)) ?_ _
    | with_reducible refine State.latch_k hK (by decide) ?_ _ _ ?_

theorem State.enterLife_k (hK : Loose 0x2000200000000 K) {s : State} (h : K s) (r : List (BitVec 8)) (now target : Nat) :
    K (State.enterLife s r now target) := by
  unfold State.enterLife
  try dsimp only
  repeat' first
    | with_reducible assumption
    | with_reducible refine State.updTally_k (hK.mono (by decide)) ?_ _
    | with_reducible refine hK.blow (by decide) ?_ _
    | with_reducible refine ite_k ?_ ?_
    | fail_if_no_progress with_reducible refine hK.build ?_ rfl

theorem execLcVerifyDone_k (hK : Loose 0x88000020000000000000000000000000000000000000000000000000000000000000000000000000000000000000000000000000000000000000000000000000000000000000000000000000000000000000000000000042000000000d00 K) {s : State} (h : K s) :
    ∃ z, execLcVerifyDone s = .next z ∧ K z := by
  unfold execLcVerifyDone
  refine ⟨_, rfl, ?_⟩
  try dsimp only
  repeat' first
    | with_reducible assumption
    | with_reducible refine State.newNonce_k (hK.mono (by decide)) ?_ 
    | with_reducible refine State.lcRefuse_k (hK.mono (by decide)) ?_ _
    | with_reducible refine State.updTally_k (hK.mono (by decide)) ?_ _
    | with_reducible refine hK.blow (by decide) ?_ _
    | with_reducible refine State.updGuard_k (hK.mono (by decide)) ?_ _
    | with_reducible refine ite_k ?_ ?_
    | split
    | refine fst_k (by with_reducible assumption) ?_
    | with_reducible refine foldl_k _ _ ?_ ?_
    | with_reducible refine foldl_fst_k _ _ _ ?_ ?_
    | intro _ _ _
    | fail_if_no_progress with_reducible refine hK.build ?_ rfl

theorem State.abandonLc_k (hK : Loose 0x88000020000000000000000000000000000000000000000000000000000000000000000000000000000000000000000000000000000000000000000000000000000000000000000000000000000000000000000000000042000000000d00 K) {s : State} (h : K s) :
    K (State.abandonLc s) := by
  unfold State.abandonLc
  try dsimp only
  repeat' first
    | with_reducible assumption
    | with_reducible refine State.newNonce_k (hK.mono (by decide)) ?_ 
    | with_reducible refine State.lcRefuse_k (hK.mono (by decide)) ?_ _
    | with_reducible refine State.updTally_k (hK.mono (by decide)) ?_ _
    | with_reducible refine State.updGuard_k (hK.mono (by decide)) ?_ _
    | with_reducible refine ite_k ?_ ?_
    | with_reducible refine foldl_k _ _ ?_ ?_
    | with_reducible refine foldl_fst_k _ _ _ ?_ ?_
    | intro _ _ _
    | split
    | refine fst_k (by with_reducible assumption) ?_

theorem State.programLife_k (hK : Loose 0x88000020000000000000000000000000000000000000000000000000000000000000000000000000000000000000000000000000000000000000000000000000000000000000000000000000000000000000000000000042000200000d00 K) {s : State} (h : K s) :
    K (State.programLife s) := by
  unfold State.programLife
  try dsimp only
  repeat' first
    | with_reducible assumption
    | with_reducible refine State.updGuard_k (hK.mono (by decide)) ?_ _
    | with_reducible refine State.enterLife_k (hK.mono (by decide)) ?_ _ _ _
    | with_reducible refine hK.blow (by decide) ?_ _
    | with_reducible refine State.abandonLc_k (hK.mono (by decide)) ?_ 
    | with_reducible refine ite_k ?_ ?_
    | with_reducible refine foldl_k _ _ ?_ ?_
    | with_reducible refine foldl_fst_k _ _ _ ?_ ?_
    | intro _ _ _
    | split
    | refine fst_k (by with_reducible assumption) ?_

theorem State.wipeJournal_k (hK : Loose 0xde000400000000000000000000000000000000000000000000000000000000000000000000000000000000000000000000000000000000000000100000c00 K) {s : State} (h : K s) :
    K (State.wipeJournal s) := by
  unfold State.wipeJournal
  try dsimp only
  repeat' first
    | with_reducible assumption
    | decide
    | rfl
    | (dsimp only [Ev.plus]; decide)
    | (show regOk _ _ = true; split <;> decide)
    | with_reducible refine State.setFld_k hK ?_ _ _ _ ?_
    | with_reducible refine State.setFlag_k hK ?_ _ _ _ ?_
    | with_reducible refine State.latch_k hK (by decide) ?_ _ _ ?_
    | with_reducible refine State.countJournal_k (hK.mono (by decide)) ?_ 
    | with_reducible refine State.newCopy_k (hK.mono (by decide)) ?_
    | with_reducible refine ite_k ?_ ?_
    | with_reducible refine foldl_k _ _ ?_ ?_
    | with_reducible refine foldl_fst_k _ _ _ ?_ ?_
    | intro _ _ _
    | split
    | refine fst_k (by with_reducible assumption) ?_
    | fail_if_no_progress with_reducible refine hK.build ?_ rfl

theorem State.wipeRings_k (hK : Loose 0x18006000000000000000000000c000000000000000000000000000000000000000000003000000000000000000000000000000000000000000000000000000080000000000000000000000000000000000000000080000000 K) {s : State} (h : K s) :
    K (State.wipeRings s) := by
  unfold State.wipeRings
  try dsimp only
  repeat' first
    | with_reducible assumption
    | decide
    | rfl
    | (dsimp only [Ev.plus]; decide)
    | (show regOk _ _ = true; split <;> decide)
    | with_reducible refine State.setFld_k hK ?_ _ _ _ ?_
    | with_reducible refine State.updPlumb_k (hK.mono (by decide)) ?_ _
    | with_reducible refine State.setFlag_k hK ?_ _ _ _ ?_
    | with_reducible refine foldl_k _ _ ?_ ?_
    | with_reducible refine foldl_fst_k _ _ _ ?_ ?_
    | intro _ _ _
    | fail_if_no_progress with_reducible refine hK.build ?_ rfl

theorem State.wipe_k (hK : Loose 0x3c0000000400018006000000000000000000000c0000000000000000000000000de000400000000000003000000000000000000000000000000000000000000000000000000080000000000000000000000000000000004040020580020c00 K) {s : State} (h : K s) :
    K (State.wipe s) := by
  unfold State.wipe
  try dsimp only
  repeat' first
    | with_reducible assumption
    | decide
    | rfl
    | (dsimp only [Ev.plus]; decide)
    | (show regOk _ _ = true; split <;> decide)
    | with_reducible refine hK.secure (by decide) ?_
    | with_reducible refine hK.rekey (by decide) (by decide) ?_
    | with_reducible refine State.setFlag_k hK ?_ _ _ _ ?_
    | with_reducible refine State.satFld_k hK ?_ _ _ _ ?_
    | with_reducible refine State.wipeJournal_k (hK.mono (by decide)) ?_ 
    | with_reducible refine State.wipeRings_k (hK.mono (by decide)) ?_ 
    | with_reducible refine State.updRaise_k (hK.mono (by decide)) ?_ _
    | with_reducible refine State.updGuard_k (hK.mono (by decide)) ?_ _
    | with_reducible refine ite_k ?_ ?_
    | fail_if_no_progress with_reducible refine hK.build ?_ rfl

theorem State.tamperRaising_k (hK : Loose 0x3800000000000000000000000000000000000000000000000000000000000000000000000000000000000000000000000000000000000000000000000000000000 K) {s : State} (h : K s) :
    K (State.tamperRaising s) := by
  unfold State.tamperRaising
  try dsimp only
  repeat' first
    | with_reducible assumption
    | decide
    | rfl
    | (dsimp only [Ev.plus]; decide)
    | (show regOk _ _ = true; split <;> decide)
    | with_reducible refine State.setFlag_k hK ?_ _ _ _ ?_
    | with_reducible refine State.setFld_k hK ?_ _ _ _ ?_
    | with_reducible refine ite_k ?_ ?_

theorem State.stopSelect_k (hK : Loose 0x2000 K) {s : State} (h : K s) (n : Nat) :
    K (State.stopSelect s n) := by
  unfold State.stopSelect
  try dsimp only
  repeat' first
    | with_reducible assumption
    | with_reducible refine State.updLane_k (hK.mono (by decide)) ?_ _ _
    | with_reducible refine ite_k ?_ ?_
    | with_reducible refine foldl_k _ _ ?_ ?_
    | with_reducible refine foldl_fst_k _ _ _ ?_ ?_
    | intro _ _ _
    | split
    | refine fst_k (by with_reducible assumption) ?_

theorem State.stopSubst_k (hK : Loose 0x2000000000000000000000000000000000000000000000000000000000000000000000000000000000000000000000000000000000000000000000000000000000000000000000000000000000000000000000020000080002000 K) {s : State} (h : K s) :
    K (State.stopSubst s) := by
  unfold State.stopSubst
  try dsimp only
  repeat' first
    | with_reducible assumption
    | with_reducible refine State.updSist_k (hK.mono (by decide)) ?_ _
    | with_reducible refine State.showBusy_k (hK.mono (by decide)) ?_ 
    | with_reducible refine State.updPlumb_k (hK.mono (by decide)) ?_ _
    | with_reducible refine State.stopSelect_k (hK.mono (by decide)) ?_ _
    | with_reducible refine ite_k ?_ ?_
    | with_reducible refine foldl_k _ _ ?_ ?_
    | with_reducible refine foldl_fst_k _ _ _ ?_ ?_
    | intro _ _ _
    | split
    | refine fst_k (by with_reducible assumption) ?_
    | fail_if_no_progress with_reducible refine hK.build ?_ rfl

theorem State.stopLive_k (hK : Loose 0xa000000000040000000000000000000000000000000000000000000000000000000000000000000000000000000000000000000000000000000000000000000000000000000d00 K) {s : State} (h : K s) :
    K (State.stopLive s) := by
  unfold State.stopLive
  try dsimp only
  repeat' first
    | with_reducible assumption
    | with_reducible refine State.liveRefuse_k (hK.mono (by decide)) ?_ _
    | with_reducible refine State.drawn_k (hK.mono (by decide)) ?_ 
    | with_reducible refine ite_k ?_ ?_

theorem State.lockPorts_k (hK : Loose 0x800000000000000000000000000000003e000000000000000000000000000000000000000000000000000000000000000000000000000000000000000000000000000000000000000000000000000000000000000001000000c00 K) {s : State} (h : K s) :
    K (State.lockPorts s) := by
  unfold State.lockPorts
  try dsimp only
  repeat' first
    | with_reducible assumption
    | decide
    | rfl
    | (dsimp only [Ev.plus]; decide)
    | (show regOk _ _ = true; split <;> decide)
    | with_reducible refine State.latchFor_k hK (by decide) ?_ _ _ ?_
    | with_reducible refine State.updOwn_k (hK.mono (by decide)) ?_ _
    | with_reducible refine State.cancelHandover_k (hK.mono (by decide)) ?_ 
    | with_reducible refine State.endOwner_k (hK.mono (by decide)) ?_ 
    | with_reducible refine State.setFlag_k hK ?_ _ _ _ ?_
    | with_reducible refine foldl_k _ _ ?_ ?_
    | with_reducible refine foldl_fst_k _ _ _ ?_ ?_
    | intro _ _ _
    | fail_if_no_progress with_reducible refine hK.build ?_ rfl

theorem State.tamperPolicy_k (hK : Loose 0x1a00000000000000000000000000000003e00000a0000000000400000000004e9000000000000000000000000000000000000000000000000000000000000000000000000000000000000000000000000000000020001180002d00 K) {s : State} (h : K s) :
    K (State.tamperPolicy s) := by
  unfold State.tamperPolicy
  try dsimp only
  repeat' first
    | with_reducible assumption
    | decide
    | rfl
    | (dsimp only [Ev.plus]; decide)
    | (show regOk _ _ = true; split <;> decide)
    | with_reducible refine State.lockPorts_k (hK.mono (by decide)) ?_ 
    | with_reducible refine State.setFlag_k hK ?_ _ _ _ ?_
    | with_reducible refine State.failDevice_k (hK.mono (by decide)) ?_ 
    | with_reducible refine State.stopLive_k (hK.mono (by decide)) ?_ 
    | with_reducible refine State.stopSubst_k (hK.mono (by decide)) ?_ 
    | with_reducible refine ite_k ?_ ?_

theorem State.startResponse_k (hK : Loose 0x3c8b00003e00018006000000000000000000000c03e00000a0000000000438000de0004e9000000000003000000000000000000000000000000000000000000000000000000080000000000000000000000000000000004066021580022d00 K) {s : State} (h : K s) (mask : Nat) :
    K (State.startResponse s mask) := by
  unfold State.startResponse
  try dsimp only
  repeat' first
    | with_reducible assumption
    | decide
    | rfl
    | (dsimp only [Ev.plus]; decide)
    | (show regOk _ _ = true; split <;> decide)
    | with_reducible refine State.updGuard_k (hK.mono (by decide)) ?_ _
    | with_reducible refine State.setFld_k hK ?_ _ _ _ ?_
    | with_reducible refine State.satFld_k hK ?_ _ _ _ ?_
    | with_reducible refine State.latch_k hK (by decide) ?_ _ _ ?_
    | with_reducible refine State.abandonLc_k (hK.mono (by decide)) ?_ 
    | with_reducible refine State.wipe_k (hK.mono (by decide)) ?_ 
    | with_reducible refine State.tamperPolicy_k (hK.mono (by decide)) ?_ 
    | with_reducible refine State.tamperRaising_k (hK.mono (by decide)) ?_ 
    | with_reducible refine State.endResponse_k (hK.mono (by decide)) ?_ 
    | with_reducible refine ite_k ?_ ?_
    | fail_if_no_progress with_reducible refine hK.build ?_ rfl

theorem State.tamperCheck_k (hK : Loose 0x3c8b00003e00018006000000000000000000000c03e00000a0000000000438000de0004e9000000000003000000000000000000000000000000000000000000000000000000080000000000000000000000000000000004066021580022d00 K) {s : State} (h : K s) :
    K (State.tamperCheck s) := by
  unfold State.tamperCheck
  try dsimp only
  repeat' first
    | with_reducible assumption
    | decide
    | rfl
    | (dsimp only [Ev.plus]; decide)
    | (show regOk _ _ = true; split <;> decide)
    | with_reducible refine State.updGuard_k (hK.mono (by decide)) ?_ _
    | with_reducible refine State.setFld_k hK ?_ _ _ _ ?_
    | with_reducible refine State.startResponse_k (hK.mono (by decide)) ?_ _
    | with_reducible refine State.abandonLc_k (hK.mono (by decide)) ?_ 
    | with_reducible refine ite_k ?_ ?_
    | with_reducible refine foldl_k _ _ ?_ ?_
    | with_reducible refine foldl_fst_k _ _ _ ?_ ?_
    | intro _ _ _
    | split
    | refine fst_k (by with_reducible assumption) ?_

theorem State.raiseP0_k (hK : Loose 0x3c8b00003e00018006000000000000000000000c03e00000a000000000043c000de0004e900000000000300000000000000000000000000000000000000000000000000000008000000000000000000000000000000000ff7ffffdfffffdff K) {s : State} (h : K s) (retry : Bool) :
    K (State.raiseP0 s retry) := by
  unfold State.raiseP0
  try dsimp only
  repeat' first
    | with_reducible assumption
    | with_reducible refine State.backToP0_k (hK.mono (by decide)) ?_ _ _ _
    | with_reducible refine State.tamperCheck_k (hK.mono (by decide)) ?_
    | with_reducible refine State.tamperRaising_k (hK.mono (by decide)) ?_ 
    | with_reducible refine ite_k ?_ ?_
    | with_reducible refine foldl_k _ _ ?_ ?_
    | with_reducible refine foldl_fst_k _ _ _ ?_ ?_
    | intro _ _ _
    | split
    | refine fst_k (by with_reducible assumption) ?_

theorem State.lcEnd_k (hK : Loose 0x3c1c00002400018006000000000000000000000c0000000000000000000000000de000400000000000003000000000000000000000000000000000000000000000000000000080000000000000000000000000000000004046020580020c00 K) {s : State} (h : K s) (op target key now : Nat) :
    K (State.lcEnd s op target key now) := by
  unfold State.lcEnd
  try dsimp only
  repeat' first
    | with_reducible assumption
    | decide
    | rfl
    | (dsimp only [Ev.plus]; decide)
    | (show regOk _ _ = true; split <;> decide)
    | with_reducible refine State.updTally_k (hK.mono (by decide)) ?_ _
    | with_reducible refine State.lcResult_k (hK.mono (by decide)) ?_ _
    | with_reducible refine State.updGuard_k (hK.mono (by decide)) ?_ _
    | with_reducible refine State.setFld_k hK ?_ _ _ _ ?_
    | with_reducible refine State.setFlag_k hK ?_ _ _ _ ?_
    | with_reducible refine State.tallyAdd_k (hK.mono (by decide)) ?_ _ _ _ _
    | with_reducible refine State.wipe_k (hK.mono (by decide)) ?_ 
    | with_reducible refine State.latch_k hK (by decide) ?_ _ _ ?_
    | with_reducible refine ite_k ?_ ?_
    | with_reducible refine foldl_k _ _ ?_ ?_
    | with_reducible refine foldl_fst_k _ _ _ ?_ ?_
    | intro _ _ _
    | split
    | refine fst_k (by with_reducible assumption) ?_


theorem execLcWipe_k (hK : Loose 0x3c9f00003e00018006000000000000000000000c03e00000a000000000043c000de0004e900000000000300000000000000000000000000000000000000000000000000000008000000000000000000000000000000000ff7ffffdfffffdff K) {s : State} (h : K s) :
    ∃ z, execLcWipe s = .next z ∧ K z := by
  unfold execLcWipe
  refine ⟨_, rfl, ?_⟩
  try dsimp only
  repeat' first
    | with_reducible assumption
    | decide
    | rfl
    | (dsimp only [Ev.plus]; decide)
    | (show regOk _ _ = true; split <;> decide)
    | with_reducible refine State.setFlag_k hK ?_ _ _ _ ?_
    | with_reducible refine State.setFld_k hK ?_ _ _ _ ?_
    | with_reducible refine State.latch_k hK (by decide) ?_ _ _ ?_
    | with_reducible refine State.stampTick_k (hK.mono (by decide)) ?_ _
    | with_reducible refine State.raiseP0_k (hK.mono (by decide)) ?_ _
    | with_reducible refine State.lcEnd_k (hK.mono (by decide)) ?_ _ _ _ _
    | with_reducible refine ite_k ?_ ?_
    | split
    | refine fst_k (by with_reducible assumption) ?_
    | with_reducible refine foldl_k _ _ ?_ ?_
    | with_reducible refine foldl_fst_k _ _ _ ?_ ?_
    | intro _ _ _
    | fail_if_no_progress with_reducible refine hK.build ?_ rfl

/-- A life-cycle change but to DECOMMISSIONED raises nothing. -/
theorem execLcWipe_at (hK : Loose 0x3c1c00002400018006000000000000000000000c0000000000000000000000000de000400000000000003000000000000000000000000000000000000000000000000000000080000000000000000000000000000000004046020580020c00 K) {s : State} (h : K s) (hn : ∀ key now, s.guarding.done ≠ some (1, 4, key, now)) :
    ∃ z, execLcWipe s = .next z ∧ K z := by
  refine ⟨_, rfl, State.stampTick_k (hK.mono (by decide)) ?_ _⟩
  split
  · exact h
  · next op target key now e =>
    refine ite_k h ?_
    rw [if_neg]
    · exact State.lcEnd_k (hK.mono (by decide)) h _ _ _ _
    · rintro ⟨rfl, rfl⟩
      exact hn key now e

theorem execMapRebuildDone_k (hK : Loose 0x800000000000000000000000000000000000000000000000000000000000000000000000000000000000000000000000000000000000000000000000000000000000000000000000000000000000000000000000000000000000000000000 K) {s : State} (h : K s) :
    ∃ z, execMapRebuildDone s = .next z ∧ K z := by
  unfold execMapRebuildDone
  refine ⟨_, rfl, ?_⟩
  try dsimp only
  repeat' first
    | with_reducible assumption
    | decide
    | rfl
    | (dsimp only [Ev.plus]; decide)
    | (show regOk _ _ = true; split <;> decide)
    | with_reducible refine State.setFlag_k hK ?_ _ _ _ ?_

theorem execSceneReloadDone_k (hK : Loose 0x1000000000000000000000000000000000000000000000000000000000000000000000000000000000000000000000000000000000000007c00000000000000000000000000000000000000000000000000000000000000000020000001000 K) {s : State} (h : K s) (img : ImageBytes) :
    ∃ z, execSceneReloadDone img s = .next z ∧ K z := by
  unfold execSceneReloadDone
  refine ⟨_, rfl, ?_⟩
  try dsimp only
  repeat' first
    | with_reducible assumption
    | decide
    | rfl
    | (dsimp only [Ev.plus]; decide)
    | (show regOk _ _ = true; split <;> decide)
    | with_reducible refine State.fillScenes_k (hK.mono (by decide)) ?_ _
    | with_reducible refine State.setFlag_k hK ?_ _ _ _ ?_
    | with_reducible refine ite_k ?_ ?_
    | split
    | refine fst_k (by with_reducible assumption) ?_
    | with_reducible refine foldl_k _ _ ?_ ?_
    | with_reducible refine foldl_fst_k _ _ _ ?_ ?_
    | intro _ _ _

theorem execRekeyDone_k (hK : Loose 0x400000024000000000000000000000000000000000000000000000000000000000000000000000000000000000000000000000000000000000000000000000000000000000000000000000000000000000000000000000000000000000c00 K) {s : State} (h : K s) :
    ∃ z, execRekeyDone s = .next z ∧ K z := by
  unfold execRekeyDone
  refine ⟨_, rfl, ?_⟩
  try dsimp only
  repeat' first
    | with_reducible assumption
    | decide
    | rfl
    | (dsimp only [Ev.plus]; decide)
    | (show regOk _ _ = true; split <;> decide)
    | with_reducible refine State.setFlag_k hK ?_ _ _ _ ?_
    | with_reducible refine State.latch_k hK (by decide) ?_ _ _ ?_
    | with_reducible refine ite_k ?_ ?_

theorem State.tickRekey_k (hK : Loose 0x400000000000000000000000000000000000000000000000000000000000000000000000000000000000000000000000000000000000000000000000000000000000000000000000000000000000000000000000000000040000000000000 K) {s : State} (h : K s) :
    K (State.tickRekey s) := by
  unfold State.tickRekey
  try dsimp only
  repeat' first
    | with_reducible assumption
    | decide
    | rfl
    | (dsimp only [Ev.plus]; decide)
    | (show regOk _ _ = true; split <;> decide)
    | with_reducible refine State.setFlag_k hK ?_ _ _ _ ?_
    | with_reducible refine State.updGuard_k (hK.mono (by decide)) ?_ _
    | with_reducible refine ite_k ?_ ?_
    | with_reducible refine foldl_k _ _ ?_ ?_
    | with_reducible refine foldl_fst_k _ _ _ ?_ ?_
    | intro _ _ _
    | split
    | refine fst_k (by with_reducible assumption) ?_

theorem execTamperCondition_k (hK : Loose 0x3c8bc0003e00018006000000000000000000000c03e00000a0000000000438000de0004e9000000000003000000000000000000000000000000000000000000000000000000080000000000000000000000000000000004066021580022d00 K) {s : State} (h : K s) (src : BitVec 7) :
    ∃ z, execTamperCondition src s = .next z ∧ K z := by
  unfold execTamperCondition
  refine ⟨_, rfl, ?_⟩
  try dsimp only
  repeat' first
    | with_reducible assumption
    | decide
    | rfl
    | (dsimp only [Ev.plus]; decide)
    | (show regOk _ _ = true; split <;> decide)
    | with_reducible refine State.setFld_k hK ?_ _ _ _ ?_
    | with_reducible refine State.updGuard_k (hK.mono (by decide)) ?_ _
    | with_reducible refine State.tamperCheck_k (hK.mono (by decide)) ?_
    | with_reducible refine ite_k ?_ ?_
    | with_reducible refine foldl_k _ _ ?_ ?_
    | with_reducible refine foldl_fst_k _ _ _ ?_ ?_
    | intro _ _ _
    | split
    | refine fst_k (by with_reducible assumption) ?_
    | fail_if_no_progress with_reducible refine hK.build ?_ rfl

theorem execImgOpDone_k (hK : Loose 0x3c8b00083e81018006000c10008000000000000e03e00003afe03400ff87be000de0004e9002000297c0380000000000000050200000000800000000000007840000000000008000000009ffa000000000300000000000c867021581023d06 K) {s : State} (h : K s) (img : ImageBytes) :
    ∃ z, execImgOpDone img s = .next z ∧ K z := by
  unfold execImgOpDone
  refine ⟨_, rfl, ?_⟩
  try dsimp only
  repeat' first
    | with_reducible assumption
    | decide
    | rfl
    | (dsimp only [Ev.plus]; decide)
    | (show regOk _ _ = true; split <;> decide)
    | with_reducible refine State.latch_k hK (by decide) ?_ _ _ ?_
    | with_reducible refine State.setFlag_k hK ?_ _ _ _ ?_
    | with_reducible refine State.tamperCheck_k (hK.mono (by decide)) ?_
    | with_reducible refine State.imgOpDone_k (hK.mono (by decide)) ?_ _
    | with_reducible refine ite_k ?_ ?_
    | split
    | refine fst_k (by with_reducible assumption) ?_
    | with_reducible refine foldl_k _ _ ?_ ?_
    | with_reducible refine foldl_fst_k _ _ _ ?_ ?_
    | intro _ _ _
    | fail_if_no_progress with_reducible refine hK.build ?_ rfl

theorem execRaiseStart_k (hK : Loose 0x3c8b00003e00018006000000000000000000000c03e00000a000000000043c000de0004e900000000000300000000000000000000000000000000000000000000000000000008000000000000000000000000000000000ff7ffffdfffffdff K) {s : State} (h : K s) :
    ∃ z, execRaiseStart s = .next z ∧ K z := by
  unfold execRaiseStart
  refine ⟨_, rfl, ?_⟩
  try dsimp only
  repeat' first
    | with_reducible assumption
    | with_reducible refine State.tamperCheck_k (hK.mono (by decide)) ?_
    | with_reducible refine State.updRaise_k (hK.mono (by decide)) ?_ _
    | with_reducible refine State.raiseP0_k (hK.mono (by decide)) ?_ _
    | with_reducible refine ite_k ?_ ?_
    | split
    | refine fst_k (by with_reducible assumption) ?_
    | with_reducible refine foldl_k _ _ ?_ ?_
    | with_reducible refine foldl_fst_k _ _ _ ?_ ?_
    | intro _ _ _

theorem execSlotVerifyDone_k (hK : Loose 0x3c8b00083e81018006000c00008000000000000e03e00003afe00000ff87fe000de0004e9002000297c0380000000000000050200000000800000000000007840000000000008000000009ffa000000000300000000000c867021581023d06 K) {s : State} (h : K s) (img : ImageBytes) :
    ∃ z, execSlotVerifyDone img s = .next z ∧ K z := by
  unfold execSlotVerifyDone
  refine ⟨_, rfl, ?_⟩
  try dsimp only
  repeat' first
    | with_reducible assumption
    | decide
    | rfl
    | (dsimp only [Ev.plus]; decide)
    | (show regOk _ _ = true; split <;> decide)
    | with_reducible refine State.setFld_k hK ?_ _ _ _ ?_
    | with_reducible refine State.latchIf_k hK (by decide) ?_ _ _ _ ?_
    | with_reducible refine State.tamperCheck_k (hK.mono (by decide)) ?_
    | with_reducible refine State.slotVerified_k (hK.mono (by decide)) ?_ _
    | with_reducible refine ite_k ?_ ?_
    | split
    | refine fst_k (by with_reducible assumption) ?_
    | with_reducible refine foldl_k _ _ ?_ ?_
    | with_reducible refine foldl_fst_k _ _ _ ?_ ?_
    | intro _ _ _
    | fail_if_no_progress with_reducible refine hK.build ?_ rfl

theorem execRaiseWatchdog_k (hK : Loose 0x3c8b00003e00018006000000000000000000000c03e00000a000000000043c000de0004e900000000000300000000000000000000000000000000000000000000000000000008000000000000000000000000000000000ff7ffffdfffffdff K) {s : State} (h : K s) :
    ∃ z, execRaiseWatchdog s = .next z ∧ K z := by
  unfold execRaiseWatchdog
  refine ⟨_, rfl, ?_⟩
  try dsimp only
  repeat' first
    | with_reducible assumption
    | with_reducible refine State.raiseP0_k (hK.mono (by decide)) ?_ _
    | with_reducible refine ite_k ?_ ?_
    | with_reducible refine foldl_k _ _ ?_ ?_
    | with_reducible refine foldl_fst_k _ _ _ ?_ ?_
    | intro _ _ _
    | split
    | refine fst_k (by with_reducible assumption) ?_

theorem State.jtagLeaves_k (hK : Loose 0x3c8b00003e00018006000000000000000000000c03e00000a000000000043c000de0004e900000000000300000000000000000000000000000000000000000000000000000008000000000000000000000000000000000ff7ffffdfffffdff K) {s : State} (h : K s) :
    K (State.jtagLeaves s) := by
  unfold State.jtagLeaves
  try dsimp only
  repeat' first
    | with_reducible assumption
    | with_reducible refine State.updRaise_k (hK.mono (by decide)) ?_ _
    | with_reducible refine State.raiseP0_k (hK.mono (by decide)) ?_ _
    | with_reducible refine ite_k ?_ ?_
    | with_reducible refine foldl_k _ _ ?_ ?_
    | with_reducible refine foldl_fst_k _ _ _ ?_ ?_
    | intro _ _ _
    | split
    | refine fst_k (by with_reducible assumption) ?_

theorem execJtagExtestLoad_k (hK : Loose 0x3c8b00003e00018006000000000000000020000c03e00000a000000000043c000de0004e900000000000300000000000000000000000000000000000000000000000000000008000000000000000000000000000000000ff7ffffdfffffdff K) {s : State} (h : K s) (k : JtagKind) :
    ∃ z, execJtagExtestLoad k s = .next z ∧ K z := by
  unfold execJtagExtestLoad
  refine ⟨_, rfl, ?_⟩
  try dsimp only
  repeat' first
    | with_reducible assumption
    | decide
    | rfl
    | (dsimp only [Ev.plus]; decide)
    | (show regOk _ _ = true; split <;> decide)
    | with_reducible refine State.setFld_k hK ?_ _ _ _ ?_
    | with_reducible refine State.updRaise_k (hK.mono (by decide)) ?_ _
    | with_reducible refine State.jtagLeaves_k (hK.mono (by decide)) ?_
    | with_reducible refine ite_k ?_ ?_
    | with_reducible refine foldl_k _ _ ?_ ?_
    | with_reducible refine foldl_fst_k _ _ _ ?_ ?_
    | intro _ _ _
    | split
    | refine fst_k (by with_reducible assumption) ?_
    | fail_if_no_progress with_reducible refine hK.build ?_ rfl

theorem execJtagExtestLeave_k (hK : Loose 0x3c8b00003e00018006000000000000000000000c03e00000a000000000043c000de0004e900000000000300000000000000000000000000000000000000000000000000000008000000000000000000000000000000000ff7ffffdfffffdff K) {s : State} (h : K s) :
    ∃ z, execJtagExtestLeave s = .next z ∧ K z := by
  unfold execJtagExtestLeave
  refine ⟨_, rfl, ?_⟩
  try dsimp only
  repeat' first
    | with_reducible assumption
    | with_reducible refine State.jtagLeaves_k (hK.mono (by decide)) ?_
    | with_reducible refine ite_k ?_ ?_
    | with_reducible refine foldl_k _ _ ?_ ?_
    | with_reducible refine foldl_fst_k _ _ _ ?_ ?_
    | intro _ _ _
    | split
    | refine fst_k (by with_reducible assumption) ?_
    | fail_if_no_progress with_reducible refine hK.build ?_ rfl
end Sys2Proof.Machine
end

