-- ==== Sys2Proof/Laws/FootWrites.lean ====
section
/-! SUPPORT. What the operations and commands of Machine/Writes.lean may change (Laws/Loose.lean). -/

set_option Elab.async false
set_option linter.unusedTactic false
set_option linter.unreachableTactic false

namespace Sys2Proof.Machine

variable {K : State → Prop}

theorem State.hold_k (hK : Loose 0x20 K) {s : State} (h : K s) (m off w : Nat) :
    K (State.hold s m off w) := by
  unfold State.hold
  try dsimp only
  repeat' first
    | with_reducible assumption
    | fail_if_no_progress with_reducible refine hK.build ?_ rfl

theorem State.unhold_k (hK : Loose 0x20 K) {s : State} (h : K s) (m off : Nat) :
    K (State.unhold s m off) := by
  unfold State.unhold
  try dsimp only
  repeat' first
    | with_reducible assumption
    | fail_if_no_progress with_reducible refine hK.build ?_ rfl

/-- The two fixed bases are no field that a write stores to. -/
theorem stored_table : ∀ r ∈ regTable, ∀ c ∈ r.slices, c.fld.ty = .rw ∨ c.fld.ty = .w1c → fixedBase c.fld.id = false := by decide +kernel

theorem findReg_mem {off : Nat} {p : Reg × Nat} (h : findReg off = some p) : p.1 ∈ regTable := by
  obtain ⟨r, hr, h2⟩ := List.exists_of_findSome?_eq_some h
  obtain ⟨i, -, h3⟩ := Option.map_eq_some_iff.mp h2
  exact h3 ▸ hr

theorem State.storeSlice_k (hK : Loose 0x800000000000000c K) {s : State} (h : K s) (m id i w : Nat) (c : Slice)
    (hc : c.fld.ty = .rw ∨ c.fld.ty = .w1c → fixedBase c.fld.id = false) : K (State.storeSlice s m id i w c) := by
  unfold State.storeSlice
  cases ht : c.fld.ty with
  | rw =>
    refine ite_k (State.setMfld_k (hK.mono (by decide)) h _ _ _ _) ?_
    exact State.setFld_k hK h _ _ _ (regOk_any (by decide) (hc (.inl ht)))
  | st => exact State.setStg_k (hK.mono (by decide)) h _ _ _
  | w1c => exact State.setFld_k hK h _ _ _ (regOk_any (by decide) (hc (.inr ht)))
  | ro => exact h
  | wo => exact h
  | sn => exact h

theorem State.storeWord_k (hK : Loose 0x800000000000000c K) {s : State} (h : K s) (m : Nat) (r : Reg) (i w : Nat) (keep : Fld → Bool)
    (hr : r ∈ regTable) : K (State.storeWord s m r i w keep) := by
  unfold State.storeWord
  refine foldl_mem_k _ _ h ?_
  intro t c hm ht
  exact ite_k ht (State.storeSlice_k (hK.mono (by decide)) ht _ _ _ _ _ (stored_table r hr c hm))

theorem State.tunnelEnd_k (hK : Loose 0xc00020000000000000000000000000000000000000000000000000000000000000000000000000000000000000000000000000000000000000000000000000000000000000000004000000c00 K) {s : State} (h : K s) (result : Nat) :
    K (State.tunnelEnd s result) := by
  unfold State.tunnelEnd
  try dsimp only
  repeat' first
    | with_reducible assumption
    | decide
    | rfl
    | (dsimp only [Ev.plus]; decide)
    | (show regOk _ _ = true; split <;> decide)
    | with_reducible refine State.setFld_k hK ?_ _ _ _ ?_
    | with_reducible refine State.latch_k hK (by decide) ?_ _ _ ?_
    | with_reducible refine State.latchFor_k hK (by decide) ?_ _ _ ?_
    | with_reducible refine ite_k ?_ ?_
    | with_reducible refine foldl_k _ _ ?_ ?_
    | with_reducible refine foldl_fst_k _ _ _ ?_ ?_
    | intro _ _ _
    | split
    | refine fst_k (by with_reducible assumption) ?_
    | fail_if_no_progress with_reducible refine hK.build ?_ rfl

theorem State.tunnelCtrl_k (hK : Loose 0xc00020000000000000000000000000000000000000000000000000000000000000000000000000000000000000000000000000000000000000000000000000000000000000000004000000c00 K) {s : State} (h : K s) (w : Nat) :
    K (State.tunnelCtrl s w) := by
  unfold State.tunnelCtrl
  try dsimp only
  repeat' first
    | with_reducible assumption
    | decide
    | rfl
    | (dsimp only [Ev.plus]; decide)
    | (show regOk _ _ = true; split <;> decide)
    | with_reducible refine State.tunnelEnd_k (hK.mono (by decide)) ?_ _
    | with_reducible refine State.setFld_k hK ?_ _ _ _ ?_
    | with_reducible refine ite_k ?_ ?_
    | split
    | refine fst_k (by with_reducible assumption) ?_
    | fail_if_no_progress with_reducible refine hK.build ?_ rfl

theorem State.ownerWrite_k (hK : Loose 0x3c000000000000000000000000000000000000000000000000000000000000000000000000000000000000000000000000000000000000000000000000000000000000000001000000c20 K) {s : State} (h : K s) (m w : Nat) :
    K (State.ownerWrite s m w) := by
  unfold State.ownerWrite
  try dsimp only
  repeat' first
    | with_reducible assumption
    | with_reducible refine State.unhold_k (hK.mono (by decide)) ?_ _ _
    | with_reducible refine State.ownOp_k (hK.mono (by decide)) ?_ _ _ _

theorem State.writeEffect_k (hK : Loose 0x8000400200000000b00550000000000000c0003c00080e0503c000807b81e0de000429000000000000007980000400000400000000008191fe200100000000000000000014000000009ffb1e00090003061a01a0b400327525f87332d24 K) {s : State} (h : K s) (old : State) (m id i w : Nat) (img : Option SlotImage) :
    K (State.writeEffect s old m id i w img) := by
  unfold State.writeEffect
  try dsimp only
  repeat' first
    | with_reducible assumption
    | with_reducible refine State.latqCtrl_k (hK.mono (by decide)) ?_ _ _
    | with_reducible refine State.commitCtrl_k (hK.mono (by decide)) ?_ _
    | with_reducible refine State.fitCtrlEffect_k (hK.mono (by decide)) ?_ _ _ _
    | with_reducible refine State.txCfgEffect_k (hK.mono (by decide)) ?_ _ _
    | with_reducible refine State.spareCtrlEffect_k (hK.mono (by decide)) ?_ _ _
    | with_reducible refine State.requestRetime_k (hK.mono (by decide)) ?_ _
    | with_reducible refine State.cutCommand_k (hK.mono (by decide)) ?_ _
    | with_reducible refine State.sceneCommand_k (hK.mono (by decide)) ?_ _
    | with_reducible refine State.rePrime_k (hK.mono (by decide)) ?_ _
    | with_reducible refine State.replaceCommand_k (hK.mono (by decide)) ?_ 
    | with_reducible refine State.clearWtr_k (hK.mono (by decide)) ?_ _
    | with_reducible refine State.plbCtrl_k (hK.mono (by decide)) ?_ _
    | with_reducible refine State.mateCtrl_k (hK.mono (by decide)) ?_ _
    | with_reducible refine State.imgCtrl_k (hK.mono (by decide)) ?_ _ _
    | with_reducible refine State.imgBoot_k (hK.mono (by decide)) ?_ _
    | with_reducible refine State.tunnelCtrl_k (hK.mono (by decide)) ?_ _
    | with_reducible refine State.portEoi_k (hK.mono (by decide)) ?_ _ _
    | with_reducible refine State.retrainCtrl_k (hK.mono (by decide)) ?_ _ _
    | with_reducible refine State.snapCtrl_k (hK.mono (by decide)) ?_ _
    | with_reducible refine State.clearCtrl_k (hK.mono (by decide)) ?_ _
    | with_reducible refine State.pegCtrl_k (hK.mono (by decide)) ?_ _
    | with_reducible refine State.lcCtrl_k (hK.mono (by decide)) ?_ _
    | with_reducible refine State.bankWritten_k (hK.mono (by decide)) ?_ _
    | with_reducible refine State.ownerWrite_k (hK.mono (by decide)) ?_ _ _
    | with_reducible refine ite_k ?_ ?_
    | with_reducible refine foldl_k _ _ ?_ ?_
    | with_reducible refine foldl_fst_k _ _ _ ?_ ?_
    | intro _ _ _
    | split
    | refine fst_k (by with_reducible assumption) ?_

theorem State.journalWrite_k (hK : Loose 0xde000400000000000000000000000000000000000000000000000000000000000000000000000000000000000000000000000000000000100000100000c00 K) {s : State} (h : K s) (r : Reg) (i w : Nat) :
    K (State.journalWrite s r i w) := by
  unfold State.journalWrite
  try dsimp only
  repeat' first
    | with_reducible assumption
    | with_reducible refine State.journal_k (hK.mono (by decide)) ?_ _ _ _ _
    | with_reducible refine ite_k ?_ ?_

theorem State.takeWord_k (hK : Loose 0x8000400200000000b00550000000000000c0003c00080e0503c000807b81e0de000429000000000000007980000400000400000000008191fe200100000000000000000014000000009ffb1e00090003061a01a0b408327525f87332f2c K) {s : State} (h : K s) (m : Nat) (r : Reg) (i w : Nat) (img : Option SlotImage)
    (hr : r ∈ regTable) :
    K (State.takeWord s m r i w img) := by
  unfold State.takeWord
  try dsimp only
  repeat' first
    | with_reducible assumption
    | decide
    | rfl
    | (dsimp only [Ev.plus]; decide)
    | (show regOk _ _ = true; split <;> decide)
    | with_reducible refine State.storeWord_k (hK.mono (by decide)) ?_ _ _ _ _ _ hr
    | with_reducible refine State.writeEffect_k (hK.mono (by decide)) ?_ _ _ _ _ _ _
    | with_reducible refine State.latch_k hK (by decide) ?_ _ _ ?_
    | with_reducible refine State.answer_k (hK.mono (by decide)) ?_ _ _
    | with_reducible refine State.journalWrite_k (hK.mono (by decide)) ?_ _ _ _
    | with_reducible refine ite_k ?_ ?_
    | split
    | refine fst_k (by with_reducible assumption) ?_
    | fail_if_no_progress with_reducible refine hK.build ?_ rfl

theorem State.writeRegAt_k (hK : Loose 0x8000400200000000b00550000000000000c0003c00080e0503c000807b81e0de000429000000000000007980000400000400000000008191fe200100000000000000000014000000009ffb1e00090003061a01a0b408327525f87332fac K) {s : State} (h : K s) (m off w : Nat) (img : Option SlotImage) :
    K (State.writeRegAt s m off w img) := by
  unfold State.writeRegAt
  try dsimp only
  repeat' first
    | with_reducible assumption
    | decide
    | rfl
    | (dsimp only [Ev.plus]; decide)
    | (show regOk _ _ = true; split <;> decide)
    | with_reducible refine State.answer_k (hK.mono (by decide)) ?_ _ _
    | with_reducible refine State.latch_k hK (by decide) ?_ _ _ ?_
    | with_reducible refine State.hold_k (hK.mono (by decide)) ?_ _ _ _
    | with_reducible refine State.unhold_k (hK.mono (by decide)) ?_ _ _
    | with_reducible refine State.storeWord_k (hK.mono (by decide)) ?_ _ _ _ _ _ (findReg_mem (by with_reducible assumption))
    | with_reducible refine State.takeWord_k (hK.mono (by decide)) ?_ _ _ _ _ _ (findReg_mem (by with_reducible assumption))
    | with_reducible refine State.seeConditions_k (hK.mono (by decide)) ?_ 
    | with_reducible refine State.bankSettle_k (hK.mono (by decide)) ?_ _
    | with_reducible refine ite_k ?_ ?_
    | split
    | refine fst_k (by with_reducible assumption) ?_
    | with_reducible refine foldl_k _ _ ?_ ?_
    | with_reducible refine foldl_fst_k _ _ _ ?_ ?_
    | intro _ _ _
    | fail_if_no_progress with_reducible refine hK.build ?_ rfl

theorem State.writeTallyWord_k (hK : Loose 0x82000000000000 K) {s : State} (h : K s) (t w : Nat) :
    K (State.writeTallyWord s t w) := by
  unfold State.writeTallyWord
  try dsimp only
  repeat' first
    | with_reducible assumption
    | with_reducible refine State.updTally_k (hK.mono (by decide)) ?_ _
    | with_reducible refine ite_k ?_ ?_
    | fail_if_no_progress with_reducible refine hK.build ?_ rfl

theorem State.writePlace_k (hK : Loose 0x8000400200000000b00550000002000000c0003c00080e0503c000807b81e0de000429000000000000007980000400000400000000008191fe200100000000000000000014000000009ffb1e00090003061a01a0b4087a7525f87333fac K) {s : State} (h : K s) (m a w : Nat) (img : Option SlotImage) (y0 : Place) :
    K (State.writePlace s m a w img y0) := by
  unfold State.writePlace
  try dsimp only
  repeat' first
    | with_reducible assumption
    | decide
    | rfl
    | (dsimp only [Ev.plus]; decide)
    | (show regOk _ _ = true; split <;> decide)
    | with_reducible refine State.writeRegAt_k (hK.mono (by decide)) ?_ _ _ _ _
    | with_reducible refine State.writeTallyWord_k (hK.mono (by decide)) ?_ _ _
    | with_reducible refine State.answer_k (hK.mono (by decide)) ?_ _ _
    | with_reducible refine State.lockWrite_k (hK.mono (by decide)) ?_ _ _ _
    | with_reducible refine State.latch_k hK (by decide) ?_ _ _ ?_
    | with_reducible refine State.writeLe_k (hK.mono (by decide)) ?_ _ _ _
    | with_reducible refine State.stageWrite_k (hK.mono (by decide)) ?_ _ _ ?_
    | intro _ _ _
    | intro _ _
    | with_reducible refine ite_k ?_ ?_
    | split
    | refine fst_k (by with_reducible assumption) ?_
    | fail_if_no_progress with_reducible refine hK.build ?_ rfl

theorem State.writePriv_k (hK : Loose 0x8000400200000000b0055000000201e600c01c3c00080e0503c000807b81e0de000429000000000000007980000400000400000000008191fe200100000000000000000014000000009ffb1e00090003061a01a0b4087a7525f87333fac K) {s : State} (h : K s) (m a w : Nat) (bar2 : Bool) (img : Option SlotImage) :
    K (State.writePriv s m a w bar2 img) := by
  unfold State.writePriv
  try dsimp only
  repeat' first
    | with_reducible assumption
    | with_reducible refine State.tooEarly_k (hK.mono (by decide)) ?_ _
    | with_reducible refine State.park_k (hK.mono (by decide)) ?_ _ _
    | with_reducible refine State.writePlace_k (hK.mono (by decide)) ?_ _ _ _ _ _
    | with_reducible refine State.reportAbort_k (hK.mono (by decide)) ?_ _
    | with_reducible refine State.dropWrite_k (hK.mono (by decide)) ?_ _ _
    | with_reducible refine ite_k ?_ ?_
    | split
    | refine fst_k (by with_reducible assumption) ?_
    | with_reducible refine State.defaultWrite_k (hK.mono (by decide)) ?_ _ _
    | with_reducible refine foldl_k _ _ ?_ ?_
    | with_reducible refine foldl_fst_k _ _ _ ?_ ?_
    | intro _ _ _
    | fail_if_no_progress with_reducible refine hK.build ?_ rfl

theorem State.writeOpen_k (hK : Loose 0x1e400000000000000000000000000000000000000000000000000000000000000000000000000000000000000000000000000000000000000000000000000000000000000000000000000800000e00 K) {s : State} (h : K s) (m x w : Nat) :
    K (State.writeOpen s m x w) := by
  unfold State.writeOpen
  try dsimp only
  repeat' first
    | with_reducible assumption
    | with_reducible refine State.tooEarly_k (hK.mono (by decide)) ?_ _
    | with_reducible refine State.writeMsix_k (hK.mono (by decide)) ?_ _ _ _
    | with_reducible refine State.answer_k (hK.mono (by decide)) ?_ _ _
    | with_reducible refine State.reportAbort_k (hK.mono (by decide)) ?_ _
    | with_reducible refine ite_k ?_ ?_
    | split
    | refine fst_k (by with_reducible assumption) ?_
    | with_reducible refine State.defaultWrite_k (hK.mono (by decide)) ?_ _ _
    | with_reducible refine foldl_k _ _ ?_ ?_
    | with_reducible refine foldl_fst_k _ _ _ ?_ ?_
    | intro _ _ _
    | fail_if_no_progress with_reducible refine hK.build ?_ rfl

theorem State.putBytes_k (hK : Loose 0x2000000000000000000000000000000000000000000000000000000000000000000000000000000000000000000000000000000000000000000000000000000000000000000000000400000000001c00 K) {s : State} (h : K s) (m a n v be : Nat) :
    K (State.putBytes s m a n v be) := by
  unfold State.putBytes
  try dsimp only
  repeat' first
    | with_reducible assumption
    | decide
    | rfl
    | (dsimp only [Ev.plus]; decide)
    | (show regOk _ _ = true; split <;> decide)
    | with_reducible refine State.latchIf_k hK (by decide) ?_ _ _ _ ?_
    | with_reducible refine hK.setByte (by decide) ?_ _ _
    | with_reducible refine ite_k ?_ ?_
    | with_reducible refine foldl_k _ _ ?_ ?_
    | with_reducible refine foldl_fst_k _ _ _ ?_ ?_
    | intro _ _ _
    | split
    | refine fst_k (by with_reducible assumption) ?_
    | with_reducible refine State.lockWrite_k (hK.mono (by decide)) ?_ _ _ _

theorem State.putBeats_k (hK : Loose 0x2000000000000000000000000000000000000000000000000000000000000000000000000000000000000000000000000000000000000000000000000000000000000000000000000400000000001c00 K) {s : State} (h : K s) (m a : Nat) (y0 : List Beat) :
    K (State.putBeats s m a y0) := by
  induction y0 generalizing s a with
  | nil => exact h
  | cons b t ih => exact ih (State.putBytes_k (hK.mono (by decide)) h _ _ _ _ _) _

theorem State.writeStorage_k (hK : Loose 0x1e400001c20000000000000000000000000000000000000000000000000000000000000000000000000000000000000000000000000000000000000000000000000000000000000000000800000e00 K) {s : State} (h : K s) (m a : Nat) (store : State → State)
    (hs : ∀ t, K t → K (store t)) : K (State.writeStorage s m a store) := by
  unfold State.writeStorage
  try dsimp only
  repeat' first
    | with_reducible assumption
    | with_reducible refine State.reportAbort_k (hK.mono (by decide)) ?_ _
    | with_reducible refine State.tooEarly_k (hK.mono (by decide)) ?_ _
    | with_reducible refine State.defaultWrite_k (hK.mono (by decide)) ?_ _ _
    | with_reducible refine State.dropWrite_k (hK.mono (by decide)) ?_ _ _
    | with_reducible refine State.answer_k (hK.mono (by decide)) ?_ _ _
    | with_reducible refine ite_k ?_ ?_
    | split
    | with_reducible refine hs _ ?_

theorem State.writeView_k (hK : Loose 0x8000400200000000b0055000000201e600c01c3c00080e0503c000807b81e0de000429000000000000007980000400000400000000008191fe200100000000000000000014000000009ffb1e00090003061a01a0b4087a7525f87333fac K) {s : State} (h : K s) (m : Nat) (v : View) (w : Nat) (img : Option SlotImage) :
    K (State.writeView s m v w img) := by
  unfold State.writeView
  try dsimp only
  repeat' first
    | with_reducible assumption
    | with_reducible refine State.writePriv_k (hK.mono (by decide)) ?_ _ _ _ _ _
    | with_reducible refine State.writeOpen_k (hK.mono (by decide)) ?_ _ _ _
    | with_reducible refine State.writeStorage_k (hK.mono (by decide)) ?_ _ _ _ ?_
    | with_reducible refine State.putBytes_k (hK.mono (by decide)) ?_ _ _ _ _ _
    | with_reducible refine State.putBeats_k (hK.mono (by decide)) ?_ _ _ _
    | with_reducible refine State.answer_k (hK.mono (by decide)) ?_ _ _
    | intro _ _
    | split
    | refine fst_k (by with_reducible assumption) ?_
    | with_reducible refine State.defaultWrite_k (hK.mono (by decide)) ?_ _ _
    | with_reducible refine ite_k ?_ ?_
    | with_reducible refine foldl_k _ _ ?_ ?_
    | with_reducible refine foldl_fst_k _ _ _ ?_ ?_
    | intro _ _ _
    | fail_if_no_progress with_reducible refine hK.build ?_ rfl

theorem State.hostWrite_k (hK : Loose 0x8000400200000000b0055000000201e600c01c3c00080e0503c000807b81e0de000429000000000000007980000400000400000000008191fe200100000000000000000014000000009ffb1e00090003061a01a0b4087a7525f87333fac K) {s : State} (h : K s) (m a w : Nat) :
    K (State.hostWrite s m a w) := by
  unfold State.hostWrite
  try dsimp only
  repeat' first
    | with_reducible assumption
    | with_reducible refine State.writePriv_k (hK.mono (by decide)) ?_ _ _ _ _ _

theorem State.regWrite_k (hK : Loose 0x8000400200000000b0055000000201e600c01c3c00080e0503c000807b81e0de000429000000000000007980000400000400000000008191fe200100000000000000000014000000009ffb1e00090003061a01a0b4087a7525f87333fac K) {s : State} (h : K s) (m id i w : Nat) :
    K (State.regWrite s m id i w) := by
  unfold State.regWrite
  try dsimp only
  repeat' first
    | with_reducible assumption
    | with_reducible refine State.hostWrite_k (hK.mono (by decide)) ?_ _ _ _
    | split
    | refine fst_k (by with_reducible assumption) ?_
    | fail_if_no_progress with_reducible refine hK.build ?_ rfl

end Sys2Proof.Machine
end

