-- ==== Sys2Proof/Laws/FootHostOps.lean ====
section
/-! SUPPORT. What the operations and commands of Machine/HostOps.lean may change (Laws/Loose.lean). -/

set_option Elab.async false
set_option linter.unusedTactic false
set_option linter.unreachableTactic false

namespace Sys2Proof.Machine

variable {K : State → Prop}

theorem State.regRead_k (hK : Loose 0x10000000001e600000000000000000200000000000000000000000000000000000000000000000000000000000000000000000000000000000000000000000000000000000000000000000000401080090800fd0 K) {s : State} (h : K s) (m id i : Nat) :
    K (State.regRead s m id i) := by
  unfold State.regRead
  try dsimp only
  repeat' first
    | with_reducible assumption
    | with_reducible refine State.readPriv_k (hK.mono (by decide)) ?_ _ _ _
    | split
    | refine fst_k (by with_reducible assumption) ?_
    | fail_if_no_progress with_reducible refine hK.build ?_ rfl

theorem execRegisterWrite_k (hK : Loose 0x8000400200000000b0055000000201e600c01c3c00080e0503c000807b81e0de000429000000000000007980000400000400000000008191fe200100000000000000000014000000009ffb1e00090003061a01a0b4087a7525f87333fac K) {s : State} (h : K s) (m : Master) (v : View) (w : Word) :
    ∃ z, execRegisterWrite m v w s = .next z ∧ K z := by
  unfold execRegisterWrite
  refine ⟨_, rfl, ?_⟩
  try dsimp only
  repeat' first
    | with_reducible assumption
    | with_reducible refine State.writeView_k (hK.mono (by decide)) ?_ _ _ _ _

theorem execPairLowRead_k (hK : Loose 0x10000000001e600000000000000000200000000000000000000000000000000000000000000000000000000000000000000000000000000000000000000000000000000000000000000000000401080090800fd0 K) {s : State} (h : K s) (m : Master) (v : View) :
    ∃ z, execPairLowRead m v s = .next z ∧ K z := by
  unfold execPairLowRead
  refine ⟨_, rfl, ?_⟩
  try dsimp only
  repeat' first
    | with_reducible assumption
    | with_reducible refine State.readView_k (hK.mono (by decide)) ?_ _ _

theorem execPairLowWrite_k (hK : Loose 0x8000400200000000b0055000000201e600c01c3c00080e0503c000807b81e0de000429000000000000007980000400000400000000008191fe200100000000000000000014000000009ffb1e00090003061a01a0b4087a7525f87333fac K) {s : State} (h : K s) (m : Master) (v : View) (w : Word) :
    ∃ z, execPairLowWrite m v w s = .next z ∧ K z := by
  unfold execPairLowWrite
  refine ⟨_, rfl, ?_⟩
  try dsimp only
  repeat' first
    | with_reducible assumption
    | with_reducible refine State.writeView_k (hK.mono (by decide)) ?_ _ _ _ _

theorem execPairHighWrite_k (hK : Loose 0x8000400200000000b0055000000201e600c01c3c00080e0503c000807b81e0de000429000000000000007980000400000400000000008191fe200100000000000000000014000000009ffb1e00090003061a01a0b4087a7525f87333fac K) {s : State} (h : K s) (m : Master) (v : View) (w : Word) :
    ∃ z, execPairHighWrite m v w s = .next z ∧ K z := by
  unfold execPairHighWrite
  refine ⟨_, rfl, ?_⟩
  try dsimp only
  repeat' first
    | with_reducible assumption
    | with_reducible refine State.writeView_k (hK.mono (by decide)) ?_ _ _ _ _

theorem execDevFrameRead_k (hK : Loose 0x10000000001e600000000000000000200000000000000000000000000000000000000000000000000000000000000000000000000000000000000000000000000000000000000000000000000401080090800fd0 K) {s : State} (h : K s) (m : Master) (c : Fin 165888) :
    ∃ z, execDevFrameRead m c s = .next z ∧ K z := by
  unfold execDevFrameRead
  refine ⟨_, rfl, ?_⟩
  try dsimp only
  repeat' first
    | with_reducible assumption
    | with_reducible refine State.regRead_k (hK.mono (by decide)) ?_ _ _ _
    | fail_if_no_progress with_reducible refine hK.build ?_ rfl

theorem execLatqGo_k (hK : Loose 0x8000400200000000b0055000000201e600c01c3c00080e0503c000807b81e0de000429000000000000007980000400000400000000008191fe200100000000000000000014000000009ffb1e00090003061a01a0b4087a7525f87333fac K) {s : State} (h : K s) (m : Master) (w : Word) :
    ∃ z, execLatqGo m w s = .next z ∧ K z := by
  unfold execLatqGo
  refine ⟨_, rfl, ?_⟩
  try dsimp only
  repeat' first
    | with_reducible assumption
    | with_reducible refine State.regWrite_k (hK.mono (by decide)) ?_ _ _ _ _

theorem execFitEnableWrite_k (hK : Loose 0x8000400200000000b0055000000201e600c01c3c00080e0503c000807b81e0de000429000000000000007980000400000400000000008191fe200100000000000000000014000000009ffb1e00090003061a01a0b4087a7525f87333fac K) {s : State} (h : K s) (m : Master) (n : LaneIx) (w : Word) :
    ∃ z, execFitEnableWrite m n w s = .next z ∧ K z := by
  unfold execFitEnableWrite
  refine ⟨_, rfl, ?_⟩
  try dsimp only
  repeat' first
    | with_reducible assumption
    | with_reducible refine State.regWrite_k (hK.mono (by decide)) ?_ _ _ _ _

theorem execLnRestart_k (hK : Loose 0x8000400200000000b0055000000201e600c01c3c00080e0503c000807b81e0de000429000000000000007980000400000400000000008191fe200100000000000000000014000000009ffb1e00090003061a01a0b4087a7525f87333fac K) {s : State} (h : K s) (m : Master) (n : LaneIx) (w : Word) :
    ∃ z, execLnRestart m n w s = .next z ∧ K z := by
  unfold execLnRestart
  refine ⟨_, rfl, ?_⟩
  try dsimp only
  repeat' first
    | with_reducible assumption
    | with_reducible refine State.regWrite_k (hK.mono (by decide)) ?_ _ _ _ _

theorem execBackoffReset_k (hK : Loose 0x8000400200000000b0055000000201e600c01c3c00080e0503c000807b81e0de000429000000000000007980000400000400000000008191fe200100000000000000000014000000009ffb1e00090003061a01a0b4087a7525f87333fac K) {s : State} (h : K s) (m : Master) (n : LaneIx) (w : Word) :
    ∃ z, execBackoffReset m n w s = .next z ∧ K z := by
  unfold execBackoffReset
  refine ⟨_, rfl, ?_⟩
  try dsimp only
  repeat' first
    | with_reducible assumption
    | with_reducible refine State.regWrite_k (hK.mono (by decide)) ?_ _ _ _ _

theorem execUnfreeze_k (hK : Loose 0x8000400200000000b0055000000201e600c01c3c00080e0503c000807b81e0de000429000000000000007980000400000400000000008191fe200100000000000000000014000000009ffb1e00090003061a01a0b4087a7525f87333fac K) {s : State} (h : K s) (m : Master) (n : LaneIx) (w : Word) :
    ∃ z, execUnfreeze m n w s = .next z ∧ K z := by
  unfold execUnfreeze
  refine ⟨_, rfl, ?_⟩
  try dsimp only
  repeat' first
    | with_reducible assumption
    | with_reducible refine State.regWrite_k (hK.mono (by decide)) ?_ _ _ _ _

theorem execLoopRestore_k (hK : Loose 0x8000400200000000b0055000000201e600c01c3c00080e0503c000807b81e0de000429000000000000007980000400000400000000008191fe200100000000000000000014000000009ffb1e00090003061a01a0b4087a7525f87333fac K) {s : State} (h : K s) (m : Master) (n : LaneIx) (w : Word) :
    ∃ z, execLoopRestore m n w s = .next z ∧ K z := by
  unfold execLoopRestore
  refine ⟨_, rfl, ?_⟩
  try dsimp only
  repeat' first
    | with_reducible assumption
    | with_reducible refine State.regWrite_k (hK.mono (by decide)) ?_ _ _ _ _

theorem execSparePrepWrite_k (hK : Loose 0x8000400200000000b0055000000201e600c01c3c00080e0503c000807b81e0de000429000000000000007980000400000400000000008191fe200100000000000000000014000000009ffb1e00090003061a01a0b4087a7525f87333fac K) {s : State} (h : K s) (m : Master) (n : LaneIx) (w : Word) :
    ∃ z, execSparePrepWrite m n w s = .next z ∧ K z := by
  unfold execSparePrepWrite
  refine ⟨_, rfl, ?_⟩
  try dsimp only
  repeat' first
    | with_reducible assumption
    | with_reducible refine State.regWrite_k (hK.mono (by decide)) ?_ _ _ _ _

theorem execSpareSelectWrite_k (hK : Loose 0x8000400200000000b0055000000201e600c01c3c00080e0503c000807b81e0de000429000000000000007980000400000400000000008191fe200100000000000000000014000000009ffb1e00090003061a01a0b4087a7525f87333fac K) {s : State} (h : K s) (m : Master) (n : LaneIx) (w : Word) :
    ∃ z, execSpareSelectWrite m n w s = .next z ∧ K z := by
  unfold execSpareSelectWrite
  refine ⟨_, rfl, ?_⟩
  try dsimp only
  repeat' first
    | with_reducible assumption
    | with_reducible refine State.regWrite_k (hK.mono (by decide)) ?_ _ _ _ _

theorem execSpareReleaseWrite_k (hK : Loose 0x8000400200000000b0055000000201e600c01c3c00080e0503c000807b81e0de000429000000000000007980000400000400000000008191fe200100000000000000000014000000009ffb1e00090003061a01a0b4087a7525f87333fac K) {s : State} (h : K s) (m : Master) (n : LaneIx) (w : Word) :
    ∃ z, execSpareReleaseWrite m n w s = .next z ∧ K z := by
  unfold execSpareReleaseWrite
  refine ⟨_, rfl, ?_⟩
  try dsimp only
  repeat' first
    | with_reducible assumption
    | with_reducible refine State.regWrite_k (hK.mono (by decide)) ?_ _ _ _ _

theorem execBentRetime_k (hK : Loose 0x8000400200000000b0055000000201e600c01c3c00080e0503c000807b81e0de000429000000000000007980000400000400000000008191fe200100000000000000000014000000009ffb1e00090003061a01a0b4087a7525f87333fac K) {s : State} (h : K s) (m : Master) (b : BentIx) (w : Word) :
    ∃ z, execBentRetime m b w s = .next z ∧ K z := by
  unfold execBentRetime
  refine ⟨_, rfl, ?_⟩
  try dsimp only
  repeat' first
    | with_reducible assumption
    | with_reducible refine State.regWrite_k (hK.mono (by decide)) ?_ _ _ _ _

theorem execMemberRead_k (hK : Loose 0x10000000001e600000000000000000200000000000000000000000000000000000000000000000000000000000000000000000000000000000000000000000000000000000000000000000000401080090800fd0 K) {s : State} (h : K s) (m : Master) (b : BentIx) :
    ∃ z, execMemberRead m b s = .next z ∧ K z := by
  unfold execMemberRead
  refine ⟨_, rfl, ?_⟩
  try dsimp only
  repeat' first
    | with_reducible assumption
    | with_reducible refine State.regRead_k (hK.mono (by decide)) ?_ _ _ _

theorem execDiagWindowRead_k (hK : Loose 0x10000000001e600000000000000000200000000000000000000000000000000000000000000000000000000000000000000000000000000000000000000000000000000000000000000000000401080090800fd0 K) {s : State} (h : K s) (m : Master) (a : BitVec 40) :
    ∃ z, execDiagWindowRead m a s = .next z ∧ K z := by
  unfold execDiagWindowRead
  refine ⟨_, rfl, ?_⟩
  try dsimp only
  repeat' first
    | with_reducible assumption
    | with_reducible refine State.readPriv_k (hK.mono (by decide)) ?_ _ _ _

theorem execLogicalMapRead_k (hK : Loose 0x10000000001e600000000000000000200000000000000000000000000000000000000000000000000000000000000000000000000000000000000000000000000000000000000000000000000401080090800fd0 K) {s : State} (h : K s) (m : Master) (a : BitVec 40) (wide : Bool) :
    ∃ z, execLogicalMapRead m a wide s = .next z ∧ K z := by
  unfold execLogicalMapRead
  refine ⟨_, rfl, ?_⟩
  try dsimp only
  repeat' first
    | with_reducible assumption
    | with_reducible refine State.readPriv_k (hK.mono (by decide)) ?_ _ _ _
    | with_reducible refine State.readWide_k (hK.mono (by decide)) ?_ _ _
    | with_reducible refine ite_k ?_ ?_
    | with_reducible refine foldl_k _ _ ?_ ?_
    | with_reducible refine foldl_fst_k _ _ _ ?_ ?_
    | intro _ _ _
    | split
    | refine fst_k (by with_reducible assumption) ?_

theorem execStagingWrite_k (hK : Loose 0x8000400200000000b0055000000201e600c01c3c00080e0503c000807b81e0de000429000000000000007980000400000400000000008191fe200100000000000000000014000000009ffb1e00090003061a01a0b4087a7525f87333fac K) {s : State} (h : K s) (m : Master) (a : BitVec 40) (w : Word) :
    ∃ z, execStagingWrite m a w s = .next z ∧ K z := by
  unfold execStagingWrite
  refine ⟨_, rfl, ?_⟩
  try dsimp only
  repeat' first
    | with_reducible assumption
    | with_reducible refine State.hostWrite_k (hK.mono (by decide)) ?_ _ _ _

theorem execCompile_k (hK : Loose 0x8000400200000000b0055000000201e600c01c3c00080e0503c000807b81e0de000429000000000000007980000400000400000000008191fe200100000000000000000014000000009ffb1e00090003061a01a0b4087a7525f87333fac K) {s : State} (h : K s) (m : Master) (w : Word) :
    ∃ z, execCompile m w s = .next z ∧ K z := by
  unfold execCompile
  refine ⟨_, rfl, ?_⟩
  try dsimp only
  repeat' first
    | with_reducible assumption
    | with_reducible refine State.regWrite_k (hK.mono (by decide)) ?_ _ _ _ _

theorem execApply_k (hK : Loose 0x8000400200000000b0055000000201e600c01c3c00080e0503c000807b81e0de000429000000000000007980000400000400000000008191fe200100000000000000000014000000009ffb1e00090003061a01a0b4087a7525f87333fac K) {s : State} (h : K s) (m : Master) (w : Word) :
    ∃ z, execApply m w s = .next z ∧ K z := by
  unfold execApply
  refine ⟨_, rfl, ?_⟩
  try dsimp only
  repeat' first
    | with_reducible assumption
    | with_reducible refine State.regWrite_k (hK.mono (by decide)) ?_ _ _ _ _

theorem execGo_k (hK : Loose 0x8000400200000000b0055000000201e600c01c3c00080e0503c000807b81e0de000429000000000000007980000400000400000000008191fe200100000000000000000014000000009ffb1e00090003061a01a0b4087a7525f87333fac K) {s : State} (h : K s) (m : Master) (w : Word) :
    ∃ z, execGo m w s = .next z ∧ K z := by
  unfold execGo
  refine ⟨_, rfl, ?_⟩
  try dsimp only
  repeat' first
    | with_reducible assumption
    | with_reducible refine State.regWrite_k (hK.mono (by decide)) ?_ _ _ _ _

theorem execAbort_k (hK : Loose 0x8000400200000000b0055000000201e600c01c3c00080e0503c000807b81e0de000429000000000000007980000400000400000000008191fe200100000000000000000014000000009ffb1e00090003061a01a0b4087a7525f87333fac K) {s : State} (h : K s) (m : Master) (w : Word) :
    ∃ z, execAbort m w s = .next z ∧ K z := by
  unfold execAbort
  refine ⟨_, rfl, ?_⟩
  try dsimp only
  repeat' first
    | with_reducible assumption
    | with_reducible refine State.regWrite_k (hK.mono (by decide)) ?_ _ _ _ _

theorem execSceneGo_k (hK : Loose 0x8000400200000000b0055000000201e600c01c3c00080e0503c000807b81e0de000429000000000000007980000400000400000000008191fe200100000000000000000014000000009ffb1e00090003061a01a0b4087a7525f87333fac K) {s : State} (h : K s) (m : Master) (w : Word) :
    ∃ z, execSceneGo m w s = .next z ∧ K z := by
  unfold execSceneGo
  refine ⟨_, rfl, ?_⟩
  try dsimp only
  repeat' first
    | with_reducible assumption
    | with_reducible refine State.regWrite_k (hK.mono (by decide)) ?_ _ _ _ _

theorem execReplaceGo_k (hK : Loose 0x8000400200000000b0055000000201e600c01c3c00080e0503c000807b81e0de000429000000000000007980000400000400000000008191fe200100000000000000000014000000009ffb1e00090003061a01a0b4087a7525f87333fac K) {s : State} (h : K s) (m : Master) (w : Word) :
    ∃ z, execReplaceGo m w s = .next z ∧ K z := by
  unfold execReplaceGo
  refine ⟨_, rfl, ?_⟩
  try dsimp only
  repeat' first
    | with_reducible assumption
    | with_reducible refine State.regWrite_k (hK.mono (by decide)) ?_ _ _ _ _

theorem execMrecRead_k (hK : Loose 0x10000000001e600000000000000000200000000000000000000000000000000000000000000000000000000000000000000000000000000000000000000000000000000000000000000000000401080090800fd0 K) {s : State} (h : K s) (m : Master) :
    ∃ z, execMrecRead m s = .next z ∧ K z := by
  unfold execMrecRead
  refine ⟨_, rfl, ?_⟩
  try dsimp only
  repeat' first
    | with_reducible assumption
    | with_reducible refine State.regRead_k (hK.mono (by decide)) ?_ _ _ _

theorem execWtrClear_k (hK : Loose 0x8000400200000000b0055000000201e600c01c3c00080e0503c000807b81e0de000429000000000000007980000400000400000000008191fe200100000000000000000014000000009ffb1e00090003061a01a0b4087a7525f87333fac K) {s : State} (h : K s) (m : Master) (g : GroupIx) (w : Word) :
    ∃ z, execWtrClear m g w s = .next z ∧ K z := by
  unfold execWtrClear
  refine ⟨_, rfl, ?_⟩
  try dsimp only
  repeat' first
    | with_reducible assumption
    | with_reducible refine State.regWrite_k (hK.mono (by decide)) ?_ _ _ _ _

theorem execGrainScanRead_k (hK : Loose 0x10000000001e600000000000000000200000000000000000000000000000000000000000000000000000000000000000000000000000000000000000000000000000000000000000000000000401080090800fd0 K) {s : State} (h : K s) (m : Master) :
    ∃ z, execGrainScanRead m s = .next z ∧ K z := by
  unfold execGrainScanRead
  refine ⟨_, rfl, ?_⟩
  try dsimp only
  repeat' first
    | with_reducible assumption
    | with_reducible refine State.regRead_k (hK.mono (by decide)) ?_ _ _ _

theorem execForce_k (hK : Loose 0x8000400200000000b0055000000201e600c01c3c00080e0503c000807b81e0de000429000000000000007980000400000400000000008191fe200100000000000000000014000000009ffb1e00090003061a01a0b4087a7525f87333fac K) {s : State} (h : K s) (m : Master) (w : Word) :
    ∃ z, execForce m w s = .next z ∧ K z := by
  unfold execForce
  refine ⟨_, rfl, ?_⟩
  try dsimp only
  repeat' first
    | with_reducible assumption
    | with_reducible refine State.regWrite_k (hK.mono (by decide)) ?_ _ _ _ _

theorem execManual_k (hK : Loose 0x8000400200000000b0055000000201e600c01c3c00080e0503c000807b81e0de000429000000000000007980000400000400000000008191fe200100000000000000000014000000009ffb1e00090003061a01a0b4087a7525f87333fac K) {s : State} (h : K s) (m : Master) (w : Word) :
    ∃ z, execManual m w s = .next z ∧ K z := by
  unfold execManual
  refine ⟨_, rfl, ?_⟩
  try dsimp only
  repeat' first
    | with_reducible assumption
    | with_reducible refine State.regWrite_k (hK.mono (by decide)) ?_ _ _ _ _

theorem execClear_k (hK : Loose 0x8000400200000000b0055000000201e600c01c3c00080e0503c000807b81e0de000429000000000000007980000400000400000000008191fe200100000000000000000014000000009ffb1e00090003061a01a0b4087a7525f87333fac K) {s : State} (h : K s) (m : Master) (w : Word) :
    ∃ z, execClear m w s = .next z ∧ K z := by
  unfold execClear
  refine ⟨_, rfl, ?_⟩
  try dsimp only
  repeat' first
    | with_reducible assumption
    | with_reducible refine State.regWrite_k (hK.mono (by decide)) ?_ _ _ _ _

theorem execRealign_k (hK : Loose 0x8000400200000000b0055000000201e600c01c3c00080e0503c000807b81e0de000429000000000000007980000400000400000000008191fe200100000000000000000014000000009ffb1e00090003061a01a0b4087a7525f87333fac K) {s : State} (h : K s) (m : Master) (w : Word) :
    ∃ z, execRealign m w s = .next z ∧ K z := by
  unfold execRealign
  refine ⟨_, rfl, ?_⟩
  try dsimp only
  repeat' first
    | with_reducible assumption
    | with_reducible refine State.regWrite_k (hK.mono (by decide)) ?_ _ _ _ _

theorem execLearnReset_k (hK : Loose 0x8000400200000000b0055000000201e600c01c3c00080e0503c000807b81e0de000429000000000000007980000400000400000000008191fe200100000000000000000014000000009ffb1e00090003061a01a0b4087a7525f87333fac K) {s : State} (h : K s) (m : Master) (w : Word) :
    ∃ z, execLearnReset m w s = .next z ∧ K z := by
  unfold execLearnReset
  refine ⟨_, rfl, ?_⟩
  try dsimp only
  repeat' first
    | with_reducible assumption
    | with_reducible refine State.regWrite_k (hK.mono (by decide)) ?_ _ _ _ _

theorem execSwitch_k (hK : Loose 0x8000400200000000b0055000000201e600c01c3c00080e0503c000807b81e0de000429000000000000007980000400000400000000008191fe200100000000000000000014000000009ffb1e00090003061a01a0b4087a7525f87333fac K) {s : State} (h : K s) (m : Master) (w : Word) :
    ∃ z, execSwitch m w s = .next z ∧ K z := by
  unfold execSwitch
  refine ⟨_, rfl, ?_⟩
  try dsimp only
  repeat' first
    | with_reducible assumption
    | with_reducible refine State.regWrite_k (hK.mono (by decide)) ?_ _ _ _ _

theorem execRejoin_k (hK : Loose 0x8000400200000000b0055000000201e600c01c3c00080e0503c000807b81e0de000429000000000000007980000400000400000000008191fe200100000000000000000014000000009ffb1e00090003061a01a0b4087a7525f87333fac K) {s : State} (h : K s) (m : Master) (w : Word) :
    ∃ z, execRejoin m w s = .next z ∧ K z := by
  unfold execRejoin
  refine ⟨_, rfl, ?_⟩
  try dsimp only
  repeat' first
    | with_reducible assumption
    | with_reducible refine State.regWrite_k (hK.mono (by decide)) ?_ _ _ _ _

theorem execRecopy_k (hK : Loose 0x8000400200000000b0055000000201e600c01c3c00080e0503c000807b81e0de000429000000000000007980000400000400000000008191fe200100000000000000000014000000009ffb1e00090003061a01a0b4087a7525f87333fac K) {s : State} (h : K s) (m : Master) (w : Word) :
    ∃ z, execRecopy m w s = .next z ∧ K z := by
  unfold execRecopy
  refine ⟨_, rfl, ?_⟩
  try dsimp only
  repeat' first
    | with_reducible assumption
    | with_reducible refine State.regWrite_k (hK.mono (by decide)) ?_ _ _ _ _

theorem execConfirm_k (hK : Loose 0x8000400200000000b0055000000201e600c01c3c00080e0503c000807b81e0de000429000000000000007980000400000400000000008191fe200100000000000000000014000000009ffb1e00090003061a01a0b4087a7525f87333fac K) {s : State} (h : K s) (m : Master) (w : Word) :
    ∃ z, execConfirm m w s = .next z ∧ K z := by
  unfold execConfirm
  refine ⟨_, rfl, ?_⟩
  try dsimp only
  repeat' first
    | with_reducible assumption
    | with_reducible refine State.regWrite_k (hK.mono (by decide)) ?_ _ _ _ _

theorem execVerify_k (hK : Loose 0x8000400200000000b0055000000201e600c01c3c00080e0503c000807b81e0de000429000000000000007980000400000400000000008191fe200100000000000000000014000000009ffb1e00090003061a01a0b4087a7525f87333fac K) {s : State} (h : K s) (m : Master) (w : Word) :
    ∃ z, execVerify m w s = .next z ∧ K z := by
  unfold execVerify
  refine ⟨_, rfl, ?_⟩
  try dsimp only
  repeat' first
    | with_reducible assumption
    | with_reducible refine State.regWrite_k (hK.mono (by decide)) ?_ _ _ _ _

theorem execProgram_k (hK : Loose 0x8000400200000000b0055000000201e600c01c3c00080e0503c000807b81e0de000429000000000000007980000400000400000000008191fe200100000000000000000014000000009ffb1e00090003061a01a0b4087a7525f87333fac K) {s : State} (h : K s) (m : Master) (w : Word) :
    ∃ z, execProgram m w s = .next z ∧ K z := by
  unfold execProgram
  refine ⟨_, rfl, ?_⟩
  try dsimp only
  repeat' first
    | with_reducible assumption
    | with_reducible refine State.regWrite_k (hK.mono (by decide)) ?_ _ _ _ _

theorem execSvnBurn_k (hK : Loose 0x8000400200000000b0055000000201e600c01c3c00080e0503c000807b81e0de000429000000000000007980000400000400000000008191fe200100000000000000000014000000009ffb1e00090003061a01a0b4087a7525f87333fac K) {s : State} (h : K s) (m : Master) (w : Word) :
    ∃ z, execSvnBurn m w s = .next z ∧ K z := by
  unfold execSvnBurn
  refine ⟨_, rfl, ?_⟩
  try dsimp only
  repeat' first
    | with_reducible assumption
    | with_reducible refine State.regWrite_k (hK.mono (by decide)) ?_ _ _ _ _

theorem execRecoverGo_k (hK : Loose 0x8000400200000000b0055000000201e600c01c3c00080e0503c000807b81e0de000429000000000000007980000400000400000000008191fe200100000000000000000014000000009ffb1e00090003061a01a0b4087a7525f87333fac K) {s : State} (h : K s) (m : Master) (w : Word) :
    ∃ z, execRecoverGo m w s = .next z ∧ K z := by
  unfold execRecoverGo
  refine ⟨_, rfl, ?_⟩
  try dsimp only
  repeat' first
    | with_reducible assumption
    | with_reducible refine State.regWrite_k (hK.mono (by decide)) ?_ _ _ _ _

theorem execImgAbort_k (hK : Loose 0x8000400200000000b0055000000201e600c01c3c00080e0503c000807b81e0de000429000000000000007980000400000400000000008191fe200100000000000000000014000000009ffb1e00090003061a01a0b4087a7525f87333fac K) {s : State} (h : K s) (m : Master) (w : Word) :
    ∃ z, execImgAbort m w s = .next z ∧ K z := by
  unfold execImgAbort
  refine ⟨_, rfl, ?_⟩
  try dsimp only
  repeat' first
    | with_reducible assumption
    | with_reducible refine State.regWrite_k (hK.mono (by decide)) ?_ _ _ _ _

theorem execLiveGo_k (hK : Loose 0x8000400200000000b0055000000201e600c01c3c00080e0503c000807b81e0de000429000000000000007980000400000400000000008191fe200100000000000000000014000000009ffb1e00090003061a01a0b4087a7525f87333fac K) {s : State} (h : K s) (m : Master) (w : Word) (img : ImageBytes) :
    ∃ z, execLiveGo m w img s = .next z ∧ K z := by
  unfold execLiveGo
  refine ⟨_, rfl, ?_⟩
  try dsimp only
  repeat' first
    | with_reducible assumption
    | with_reducible refine State.writePriv_k (hK.mono (by decide)) ?_ _ _ _ _ _
    | with_reducible refine ite_k ?_ ?_
    | with_reducible refine foldl_k _ _ ?_ ?_
    | with_reducible refine foldl_fst_k _ _ _ ?_ ?_
    | intro _ _ _
    | split
    | refine fst_k (by with_reducible assumption) ?_

theorem execImgBootWrite_k (hK : Loose 0x8000400200000000b0055000000201e600c01c3c00080e0503c000807b81e0de000429000000000000007980000400000400000000008191fe200100000000000000000014000000009ffb1e00090003061a01a0b4087a7525f87333fac K) {s : State} (h : K s) (m : Master) (w : Word) :
    ∃ z, execImgBootWrite m w s = .next z ∧ K z := by
  unfold execImgBootWrite
  refine ⟨_, rfl, ?_⟩
  try dsimp only
  repeat' first
    | with_reducible assumption
    | with_reducible refine State.regWrite_k (hK.mono (by decide)) ?_ _ _ _ _

theorem execClaim_k (hK : Loose 0x8000400200000000b0055000000201e600c01c3c00080e0503c000807b81e0de000429000000000000007980000400000400000000008191fe200100000000000000000014000000009ffb1e00090003061a01a0b4087a7525f87333fac K) {s : State} (h : K s) (m : Master) (w : Word) :
    ∃ z, execClaim m w s = .next z ∧ K z := by
  unfold execClaim
  refine ⟨_, rfl, ?_⟩
  try dsimp only
  repeat' first
    | with_reducible assumption
    | with_reducible refine State.regWrite_k (hK.mono (by decide)) ?_ _ _ _ _

theorem execRenew_k (hK : Loose 0x8000400200000000b0055000000201e600c01c3c00080e0503c000807b81e0de000429000000000000007980000400000400000000008191fe200100000000000000000014000000009ffb1e00090003061a01a0b4087a7525f87333fac K) {s : State} (h : K s) (m : Master) (w : Word) :
    ∃ z, execRenew m w s = .next z ∧ K z := by
  unfold execRenew
  refine ⟨_, rfl, ?_⟩
  try dsimp only
  repeat' first
    | with_reducible assumption
    | with_reducible refine State.regWrite_k (hK.mono (by decide)) ?_ _ _ _ _

theorem execRelease_k (hK : Loose 0x8000400200000000b0055000000201e600c01c3c00080e0503c000807b81e0de000429000000000000007980000400000400000000008191fe200100000000000000000014000000009ffb1e00090003061a01a0b4087a7525f87333fac K) {s : State} (h : K s) (m : Master) (w : Word) :
    ∃ z, execRelease m w s = .next z ∧ K z := by
  unfold execRelease
  refine ⟨_, rfl, ?_⟩
  try dsimp only
  repeat' first
    | with_reducible assumption
    | with_reducible refine State.regWrite_k (hK.mono (by decide)) ?_ _ _ _ _

theorem execHandover_k (hK : Loose 0x8000400200000000b0055000000201e600c01c3c00080e0503c000807b81e0de000429000000000000007980000400000400000000008191fe200100000000000000000014000000009ffb1e00090003061a01a0b4087a7525f87333fac K) {s : State} (h : K s) (m : Master) (w : Word) :
    ∃ z, execHandover m w s = .next z ∧ K z := by
  unfold execHandover
  refine ⟨_, rfl, ?_⟩
  try dsimp only
  repeat' first
    | with_reducible assumption
    | with_reducible refine State.regWrite_k (hK.mono (by decide)) ?_ _ _ _ _

theorem execCommitGo_k (hK : Loose 0x8000400200000000b0055000000201e600c01c3c00080e0503c000807b81e0de000429000000000000007980000400000400000000008191fe200100000000000000000014000000009ffb1e00090003061a01a0b4087a7525f87333fac K) {s : State} (h : K s) (m : Master) (w : Word) :
    ∃ z, execCommitGo m w s = .next z ∧ K z := by
  unfold execCommitGo
  refine ⟨_, rfl, ?_⟩
  try dsimp only
  repeat' first
    | with_reducible assumption
    | with_reducible refine State.regWrite_k (hK.mono (by decide)) ?_ _ _ _ _

theorem execDiscard_k (hK : Loose 0x8000400200000000b0055000000201e600c01c3c00080e0503c000807b81e0de000429000000000000007980000400000400000000008191fe200100000000000000000014000000009ffb1e00090003061a01a0b4087a7525f87333fac K) {s : State} (h : K s) (m : Master) (w : Word) :
    ∃ z, execDiscard m w s = .next z ∧ K z := by
  unfold execDiscard
  refine ⟨_, rfl, ?_⟩
  try dsimp only
  repeat' first
    | with_reducible assumption
    | with_reducible refine State.regWrite_k (hK.mono (by decide)) ?_ _ _ _ _

theorem execMsixEoi_k (hK : Loose 0x8000400200000000b0055000000201e600c01c3c00080e0503c000807b81e0de000429000000000000007980000400000400000000008191fe200100000000000000000014000000009ffb1e00090003061a01a0b4087a7525f87333fac K) {s : State} (h : K s) (m : Master) (p : Port) (w : Word) :
    ∃ z, execMsixEoi m p w s = .next z ∧ K z := by
  unfold execMsixEoi
  refine ⟨_, rfl, ?_⟩
  try dsimp only
  repeat' first
    | with_reducible assumption
    | with_reducible refine State.regWrite_k (hK.mono (by decide)) ?_ _ _ _ _

theorem execLockAcquire_k (hK : Loose 0x10000000001e600000000000000000200000000000000000000000000000000000000000000000000000000000000000000000000000000000000000000000000000000000000000000000000401080090800fd0 K) {s : State} (h : K s) (m : Master) (k : Fin 64) :
    ∃ z, execLockAcquire m k s = .next z ∧ K z := by
  unfold execLockAcquire
  refine ⟨_, rfl, ?_⟩
  try dsimp only
  repeat' first
    | with_reducible assumption
    | with_reducible refine State.readPriv_k (hK.mono (by decide)) ?_ _ _ _

theorem execLockRelease_k (hK : Loose 0x8000400200000000b0055000000201e600c01c3c00080e0503c000807b81e0de000429000000000000007980000400000400000000008191fe200100000000000000000014000000009ffb1e00090003061a01a0b4087a7525f87333fac K) {s : State} (h : K s) (m : Master) (k : Fin 64) (w : Word) :
    ∃ z, execLockRelease m k w s = .next z ∧ K z := by
  unfold execLockRelease
  refine ⟨_, rfl, ?_⟩
  try dsimp only
  repeat' first
    | with_reducible assumption
    | with_reducible refine State.hostWrite_k (hK.mono (by decide)) ?_ _ _ _

theorem execDdrRetrain_k (hK : Loose 0x8000400200000000b0055000000201e600c01c3c00080e0503c000807b81e0de000429000000000000007980000400000400000000008191fe200100000000000000000014000000009ffb1e00090003061a01a0b4087a7525f87333fac K) {s : State} (h : K s) (n : Fin 8) (why : RetrainCause) :
    ∃ z, execDdrRetrain n why s = .next z ∧ K z := by
  unfold execDdrRetrain
  refine ⟨_, rfl, ?_⟩
  try dsimp only
  repeat' first
    | with_reducible assumption
    | with_reducible refine State.regWrite_k (hK.mono (by decide)) ?_ _ _ _ _
    | with_reducible refine State.retrain_k (hK.mono (by decide)) ?_ _
    | with_reducible refine ite_k ?_ ?_
    | split
    | refine fst_k (by with_reducible assumption) ?_
    | fail_if_no_progress with_reducible refine hK.build ?_ rfl

theorem execSnapGo_k (hK : Loose 0x8000400200000000b0055000000201e600c01c3c00080e0503c000807b81e0de000429000000000000007980000400000400000000008191fe200100000000000000000014000000009ffb1e00090003061a01a0b4087a7525f87333fac K) {s : State} (h : K s) (m : Master) (w : Word) :
    ∃ z, execSnapGo m w s = .next z ∧ K z := by
  unfold execSnapGo
  refine ⟨_, rfl, ?_⟩
  try dsimp only
  repeat' first
    | with_reducible assumption
    | with_reducible refine State.regWrite_k (hK.mono (by decide)) ?_ _ _ _ _

theorem execClearGo_k (hK : Loose 0x8000400200000000b0055000000201e600c01c3c00080e0503c000807b81e0de000429000000000000007980000400000400000000008191fe200100000000000000000014000000009ffb1e00090003061a01a0b4087a7525f87333fac K) {s : State} (h : K s) (m : Master) (w : Word) :
    ∃ z, execClearGo m w s = .next z ∧ K z := by
  unfold execClearGo
  refine ⟨_, rfl, ?_⟩
  try dsimp only
  repeat' first
    | with_reducible assumption
    | with_reducible refine State.regWrite_k (hK.mono (by decide)) ?_ _ _ _ _

theorem execBankCounterRead_k (hK : Loose 0x10000000001e600000000000000000200000000000000000000000000000000000000000000000000000000000000000000000000000000000000000000000000000000000000000000000000401080090800fd0 K) {s : State} (h : K s) (m : Master) (c : Fin 16384) :
    ∃ z, execBankCounterRead m c s = .next z ∧ K z := by
  unfold execBankCounterRead
  refine ⟨_, rfl, ?_⟩
  try dsimp only
  repeat' first
    | with_reducible assumption
    | with_reducible refine State.regRead_k (hK.mono (by decide)) ?_ _ _ _

theorem execBankCounterWrite_k (hK : Loose 0x8000400200000000b0055000000201e600c01c3c00080e0503c000807b81e0de000429000000000000007980000400000400000000008191fe200100000000000000000014000000009ffb1e00090003061a01a0b4087a7525f87333fac K) {s : State} (h : K s) (m : Master) (c : Fin 16384) (low : Option Word) (high : Word) (events : Nat) :
    ∃ z, execBankCounterWrite m c low high events s = .next z ∧ K z := by
  unfold execBankCounterWrite
  refine ⟨_, rfl, ?_⟩
  try dsimp only
  repeat' first
    | with_reducible assumption
    | with_reducible refine State.regWrite_k (hK.mono (by decide)) ?_ _ _ _ _
    | with_reducible refine State.bankAddWritten_k (hK.mono (by decide)) ?_ _ _
    | with_reducible refine State.bankAdd_k (hK.mono (by decide)) ?_ _ _
    | with_reducible refine ite_k ?_ ?_
    | split
    | refine fst_k (by with_reducible assumption) ?_
    | fail_if_no_progress with_reducible refine hK.build ?_ rfl

theorem execPegRecRead_k (hK : Loose 0x10000000001e600000000000000000200000000000000000000000000000000000000000000000000000000000000000000000000000000000000000000000000000000000000000000000000401080090800fd0 K) {s : State} (h : K s) (m : Master) :
    ∃ z, execPegRecRead m s = .next z ∧ K z := by
  unfold execPegRecRead
  refine ⟨_, rfl, ?_⟩
  try dsimp only
  repeat' first
    | with_reducible assumption
    | with_reducible refine State.regRead_k (hK.mono (by decide)) ?_ _ _ _

theorem execPop_k (hK : Loose 0x8000400200000000b0055000000201e600c01c3c00080e0503c000807b81e0de000429000000000000007980000400000400000000008191fe200100000000000000000014000000009ffb1e00090003061a01a0b4087a7525f87333fac K) {s : State} (h : K s) (m : Master) (w : Word) :
    ∃ z, execPop m w s = .next z ∧ K z := by
  unfold execPop
  refine ⟨_, rfl, ?_⟩
  try dsimp only
  repeat' first
    | with_reducible assumption
    | with_reducible refine State.regWrite_k (hK.mono (by decide)) ?_ _ _ _ _

theorem execLcGo_k (hK : Loose 0x8000400200000000b0055000000201e600c01c3c00080e0503c000807b81e0de000429000000000000007980000400000400000000008191fe200100000000000000000014000000009ffb1e00090003061a01a0b4087a7525f87333fac K) {s : State} (h : K s) (m : Master) (w : Word) :
    ∃ z, execLcGo m w s = .next z ∧ K z := by
  unfold execLcGo
  refine ⟨_, rfl, ?_⟩
  try dsimp only
  repeat' first
    | with_reducible assumption
    | with_reducible refine State.regWrite_k (hK.mono (by decide)) ?_ _ _ _ _

theorem State.spiAnswer_k (hK : Loose 0x200 K) {s : State} (h : K s) (st : Status) (ws : List Nat) :
    K (State.spiAnswer s st ws) := by
  unfold State.spiAnswer
  try dsimp only
  repeat' first
    | with_reducible assumption
    | with_reducible refine State.answer_k (hK.mono (by decide)) ?_ _ _

theorem State.spiEarly_k (hK : Loose 0x200 K) {s : State} (h : K s) (words : Nat) :
    K (State.spiEarly s words) := by
  unfold State.spiEarly
  try dsimp only
  repeat' first
    | with_reducible assumption
    | with_reducible refine State.spiAnswer_k (hK.mono (by decide)) ?_ _ _

theorem State.spiRead_k (hK : Loose 0x200 K) {s : State} (h : K s) (a len width : Nat) (read : State → Nat → State)
    (hr : ∀ t a, K t → K (read t a)) : K (s.spiRead a len width read) := by
  unfold State.spiRead
  dsimp only
  repeat' first
    | with_reducible assumption
    | with_reducible refine ite_k ?_ ?_
    | with_reducible refine State.spiEarly_k (hK.mono (by decide)) ?_ _
    | with_reducible refine State.spiAnswer_k (hK.mono (by decide)) ?_ _ _
    | with_reducible refine State.readRun_k (hK.mono (by decide)) ?_ _ _ ?_

theorem State.writeRun_k (hK : Loose 0x8000400200000000b0055000000201e600c01c3c00080e0503c000807b81e0de000429000000000000007980000400000400000000008191fe200100000000000000000014000000009ffb1e00090003061a01a0b4087a7525f87333fac K) {s : State} (h : K s) (l : List (Nat × Nat)) :
    K (State.writeRun s l).1 := by
  unfold State.writeRun
  try dsimp only
  repeat' first
    | with_reducible assumption
    | with_reducible refine State.hostWrite_k (hK.mono (by decide)) ?_ _ _ _
    | with_reducible refine ite_k ?_ ?_
    | with_reducible refine foldl_k _ _ ?_ ?_
    | with_reducible refine foldl_fst_k _ _ _ ?_ ?_
    | intro _ _ _

theorem execId_k (hK : Loose 0x200 K) {s : State} (h : K s) :
    ∃ z, execId s = .next z ∧ K z := by
  unfold execId
  refine ⟨_, rfl, ?_⟩
  try dsimp only
  repeat' first
    | with_reducible assumption
    | with_reducible refine State.answer_k (hK.mono (by decide)) ?_ _ _
    | with_reducible refine ite_k ?_ ?_
    | with_reducible refine foldl_k _ _ ?_ ?_
    | with_reducible refine foldl_fst_k _ _ _ ?_ ?_
    | intro _ _ _
    | split
    | refine fst_k (by with_reducible assumption) ?_

theorem execStatus_k (hK : Loose 0x200 K) {s : State} (h : K s) :
    ∃ z, execStatus s = .next z ∧ K z := by
  unfold execStatus
  refine ⟨_, rfl, ?_⟩
  try dsimp only
  repeat' first
    | with_reducible assumption
    | with_reducible refine State.spiEarly_k (hK.mono (by decide)) ?_ _
    | with_reducible refine State.spiAnswer_k (hK.mono (by decide)) ?_ _ _
    | with_reducible refine ite_k ?_ ?_

theorem execRead_k (hK : Loose 0x10000000001e600000000000000000200000000000000000000000000000000000000000000000000000000000000000000000000000000000000000000000000000000000000000000000000401080090800fd0 K) {s : State} (h : K s) (a : BitVec 40) (len : Fin 64) :
    ∃ z, execRead a len s = .next z ∧ K z := by
  unfold execRead
  refine ⟨_, rfl, ?_⟩
  try dsimp only
  repeat' first
    | with_reducible assumption
    | with_reducible refine State.spiRead_k (hK.mono (by decide)) ?_ _ _ _ _ ?_
    | intro _ _ _
    | intro _ _
    | with_reducible refine State.readPriv_k (hK.mono (by decide)) ?_ _ _ _

theorem execUread_k (hK : Loose 0x1e600000000000000000200000000000000000000000000000000000000000000000000000000000000000000000000000000000000000000000000000000000000000000000000001080090800fd0 K) {s : State} (h : K s) (x : BitVec 24) (len : Fin 64) :
    ∃ z, execUread x len s = .next z ∧ K z := by
  unfold execUread
  refine ⟨_, rfl, ?_⟩
  try dsimp only
  repeat' first
    | with_reducible assumption
    | with_reducible refine State.spiRead_k (hK.mono (by decide)) ?_ _ _ _ _ ?_
    | intro _ _ _
    | intro _ _
    | with_reducible refine State.readOpen_k (hK.mono (by decide)) ?_ _ _

theorem execWrite_k (hK : Loose 0x8000400200000000b0055000000201e600c01c3c00080e0503c000807b81e0de000429000000000000007980000400000400000000008191fe200100000000000000000014000000009ffb1e00090003061a01a0b4087a7525f87333fac K) {s : State} (h : K s) (a : BitVec 40) (len : Fin 64) (ws : List Word) :
    ∃ z, execWrite a len ws s = .next z ∧ K z := by
  unfold execWrite
  refine ⟨_, rfl, ?_⟩
  try dsimp only
  repeat' first
    | with_reducible assumption
    | with_reducible refine State.spiEarly_k (hK.mono (by decide)) ?_ _
    | with_reducible refine State.answer_k (hK.mono (by decide)) ?_ _ _
    | with_reducible refine State.spiAnswer_k (hK.mono (by decide)) ?_ _ _
    | with_reducible refine State.writeRun_k (hK.mono (by decide)) ?_ _
    | with_reducible refine ite_k ?_ ?_
    | split
    | refine fst_k (by with_reducible assumption) ?_

theorem execQuad_k (hK : Loose 0x8000000000 K) {s : State} (h : K s) :
    ∃ z, execQuad s = .next z ∧ K z := by
  unfold execQuad
  refine ⟨_, rfl, ?_⟩
  try dsimp only
  repeat' first
    | with_reducible assumption
    | fail_if_no_progress with_reducible refine hK.build ?_ rfl

theorem execSingle_k (hK : Loose 0x8000000000 K) {s : State} (h : K s) :
    ∃ z, execSingle s = .next z ∧ K z := by
  unfold execSingle
  refine ⟨_, rfl, ?_⟩
  try dsimp only
  repeat' first
    | with_reducible assumption
    | fail_if_no_progress with_reducible refine hK.build ?_ rfl

theorem execTunnelGo_k (hK : Loose 0x8000400200000000b0055000000201e600c01c3c00080e0503c000807b81e0de000429000000000000007980000400000400000000008191fe200100000000000000000014000000009ffb1e00090003061a01a0b4087a7525f87333fac K) {s : State} (h : K s) (m : Master) (w : Word) :
    ∃ z, execTunnelGo m w s = .next z ∧ K z := by
  unfold execTunnelGo
  refine ⟨_, rfl, ?_⟩
  try dsimp only
  repeat' first
    | with_reducible assumption
    | with_reducible refine State.regWrite_k (hK.mono (by decide)) ?_ _ _ _ _

theorem execTunnelRequest_k (hK : Loose 0x8000400200000000b0055000000201e600c01c3c00080e0503c000807b81e0de000429000000000000007980000400000400000000008191fe200100000000000000000014000000009ffb1e00090003061a01a0b4087a75a5f97b33ffc K) {s : State} (h : K s) (unpriv write : Bool) (a : BitVec 40) (w : Word) :
    ∃ z, execTunnelRequest unpriv write a w s = .next z ∧ K z := by
  unfold execTunnelRequest
  refine ⟨_, rfl, ?_⟩
  try dsimp only
  repeat' first
    | with_reducible assumption
    | with_reducible refine State.writeOpen_k (hK.mono (by decide)) ?_ _ _ _
    | with_reducible refine State.readOpen_k (hK.mono (by decide)) ?_ _ _
    | with_reducible refine State.readPriv_k (hK.mono (by decide)) ?_ _ _ _
    | with_reducible refine State.answer_k (hK.mono (by decide)) ?_ _ _
    | with_reducible refine State.hostWrite_k (hK.mono (by decide)) ?_ _ _ _
    | with_reducible refine ite_k ?_ ?_
    | with_reducible refine foldl_k _ _ ?_ ?_
    | with_reducible refine foldl_fst_k _ _ _ ?_ ?_
    | intro _ _ _
    | split
    | refine fst_k (by with_reducible assumption) ?_

theorem execTunnelDone_k (hK : Loose 0xc40020000000000000000000000000000000000000000000000000000000000000000000000000000000000000000000000000000000000000000000000000000000000000000004000000c00 K) {s : State} (h : K s) (answer : Option (Fin 5 × Word)) :
    ∃ z, execTunnelDone answer s = .next z ∧ K z := by
  unfold execTunnelDone
  refine ⟨_, rfl, ?_⟩
  try dsimp only
  repeat' first
    | with_reducible assumption
    | decide
    | rfl
    | (dsimp only [Ev.plus]; decide)
    | (show regOk _ _ = true; split <;> decide)
    | with_reducible refine State.setFld_k hK ?_ _ _ _ ?_
    | with_reducible refine State.tunnelEnd_k (hK.mono (by decide)) ?_ _
    | with_reducible refine ite_k ?_ ?_
    | split
    | refine fst_k (by with_reducible assumption) ?_
    | fail_if_no_progress with_reducible refine hK.build ?_ rfl

theorem State.eccLost_k (hK : Loose 0x3a000000000000000000000000000000000000000000000000000000000000000000000000000000000000000000000000000000000000000000000000000000000000000000000000000000000000c00 K) {s : State} (h : K s) (a m : Nat) :
    K (State.eccLost s a m) := by
  unfold State.eccLost
  try dsimp only
  repeat' first
    | with_reducible assumption
    | decide
    | rfl
    | (dsimp only [Ev.plus]; decide)
    | (show regOk _ _ = true; split <;> decide)
    | with_reducible refine State.latch_k hK (by decide) ?_ _ _ ?_
    | with_reducible refine State.setFld_k hK ?_ _ _ _ ?_
    | with_reducible refine State.addFld_k hK ?_ _ _ _ ?_
    | with_reducible refine ite_k ?_ ?_
    | with_reducible refine foldl_k _ _ ?_ ?_
    | with_reducible refine foldl_fst_k _ _ _ ?_ ?_
    | intro _ _ _
    | split
    | refine fst_k (by with_reducible assumption) ?_

theorem State.eccCorrected_k (hK : Loose 0xa000000000000000000000000000000000000000000000000000000000000000000000000000000000000000000000000000000000000000000000000000000000000000000000000000000000000c00 K) {s : State} (h : K s) :
    K (State.eccCorrected s) := by
  unfold State.eccCorrected
  try dsimp only
  repeat' first
    | with_reducible assumption
    | decide
    | rfl
    | (dsimp only [Ev.plus]; decide)
    | (show regOk _ _ = true; split <;> decide)
    | with_reducible refine State.latch_k hK (by decide) ?_ _ _ ?_
    | with_reducible refine State.addFld_k hK ?_ _ _ _ ?_
    | with_reducible refine ite_k ?_ ?_
    | with_reducible refine foldl_k _ _ ?_ ?_
    | with_reducible refine foldl_fst_k _ _ _ ?_ ?_
    | intro _ _ _
    | split
    | refine fst_k (by with_reducible assumption) ?_

theorem State.defaultAt_k (hK : Loose 0x1e400000000000000000000000000000000000000000000000000000000000000000000000000000000000000000000000000000000000000000000000000000000000000000000000000800000e00 K) {s : State} (h : K s) (m a : Nat) (write : Bool) :
    K (State.defaultAt s m a write) := by
  unfold State.defaultAt
  try dsimp only
  repeat' first
    | with_reducible assumption
    | with_reducible refine State.defaultWrite_k (hK.mono (by decide)) ?_ _ _
    | with_reducible refine State.defaultHit_k (hK.mono (by decide)) ?_ _ _
    | with_reducible refine ite_k ?_ ?_
    | with_reducible refine foldl_k _ _ ?_ ?_
    | with_reducible refine foldl_fst_k _ _ _ ?_ ?_
    | intro _ _ _
    | split
    | refine fst_k (by with_reducible assumption) ?_

theorem execDefaultAccess_k (hK : Loose 0x10000003a01e600000000000000000200000000000000000000000000000000000000000000000000000000000000000000000000000000000000000000000000000000000000000000000000401080890800fd0 K) {s : State} (h : K s) (m : Master) (v : View) (write : Bool) (k : BadAccess) :
    ∃ z, execDefaultAccess m v write k s = .next z ∧ K z := by
  unfold execDefaultAccess
  refine ⟨_, rfl, ?_⟩
  try dsimp only
  repeat' first
    | with_reducible assumption
    | decide
    | rfl
    | (dsimp only [Ev.plus]; decide)
    | (show regOk _ _ = true; split <;> decide)
    | with_reducible refine State.defaultHit_k (hK.mono (by decide)) ?_ _ _
    | with_reducible refine State.addFld_k hK ?_ _ _ _ ?_
    | with_reducible refine State.latch_k hK (by decide) ?_ _ _ ?_
    | with_reducible refine State.readPriv_k (hK.mono (by decide)) ?_ _ _ _
    | with_reducible refine State.setFld_k hK ?_ _ _ _ ?_
    | with_reducible refine State.answer_k (hK.mono (by decide)) ?_ _ _
    | with_reducible refine State.defaultAt_k (hK.mono (by decide)) ?_ _ _ _
    | with_reducible refine State.eccCorrected_k (hK.mono (by decide)) ?_
    | with_reducible refine State.readView_k (hK.mono (by decide)) ?_ _ _
    | with_reducible refine State.eccLost_k (hK.mono (by decide)) ?_ _ _
    | with_reducible refine ite_k ?_ ?_
    | split
    | refine fst_k (by with_reducible assumption) ?_
    | with_reducible refine foldl_k _ _ ?_ ?_
    | with_reducible refine foldl_fst_k _ _ _ ?_ ?_
    | intro _ _ _
    | fail_if_no_progress with_reducible refine hK.build ?_ rfl

theorem execMatrixTimeout_k (hK : Loose 0x1e400000000000000000000000000000000000000000000000000000000000000000000000000000000000000000000000000000000000000000000000000000000000000000000000000800000e00 K) {s : State} (h : K s) (m : Master) (a : BitVec 40) (target : Fin 10) (write : Bool) :
    ∃ z, execMatrixTimeout m a target write s = .next z ∧ K z := by
  unfold execMatrixTimeout
  refine ⟨_, rfl, ?_⟩
  try dsimp only
  repeat' first
    | with_reducible assumption
    | decide
    | rfl
    | (dsimp only [Ev.plus]; decide)
    | (show regOk _ _ = true; split <;> decide)
    | with_reducible refine State.recordErr_k (hK.mono (by decide)) ?_ _ _ _ _
    | with_reducible refine State.latchFor_k hK (by decide) ?_ _ _ ?_
    | with_reducible refine State.answer_k (hK.mono (by decide)) ?_ _ _
    | with_reducible refine State.reportAbort_k (hK.mono (by decide)) ?_ _
    | with_reducible refine ite_k ?_ ?_
    | with_reducible refine foldl_k _ _ ?_ ?_
    | with_reducible refine foldl_fst_k _ _ _ ?_ ?_
    | intro _ _ _
    | split
    | refine fst_k (by with_reducible assumption) ?_

theorem State.endBurst_k (hK : Loose 0x2000000000000000000000000000000000000000000000000000000000000000000000000000000000000000000000000000000000000000000000000000000000000000000000000400000000001c00 K) {s : State} (h : K s) (m : Nat) (x : Burst) :
    K (State.endBurst s m x) := by
  unfold State.endBurst
  try dsimp only
  repeat' first
    | with_reducible assumption
    | with_reducible refine State.putBeats_k (hK.mono (by decide)) ?_ _ _ _
    | with_reducible refine ite_k ?_ ?_
    | with_reducible refine foldl_k _ _ ?_ ?_
    | with_reducible refine foldl_fst_k _ _ _ ?_ ?_
    | intro _ _ _
    | split
    | refine fst_k (by with_reducible assumption) ?_

theorem execMasterReset_k (hK : Loose 0x27c0400000000000000000000000000000000000000000000000000000000000000000000000000000000000000000000000000000000000000000000000000000000000000000000400000000001c00 K) {s : State} (h : K s) (m : Master) (b : Option Burst) :
    ∃ z, execMasterReset m b s = .next z ∧ K z := by
  unfold execMasterReset
  refine ⟨_, rfl, ?_⟩
  try dsimp only
  repeat' first
    | with_reducible assumption
    | decide
    | rfl
    | (dsimp only [Ev.plus]; decide)
    | (show regOk _ _ = true; split <;> decide)
    | with_reducible refine State.breakLocks_k (hK.mono (by decide)) ?_ _
    | with_reducible refine State.setFld_k hK ?_ _ _ _ ?_
    | with_reducible refine State.setFlag_k hK ?_ _ _ _ ?_
    | with_reducible refine State.latchFor_k hK (by decide) ?_ _ _ ?_
    | with_reducible refine State.endBurst_k (hK.mono (by decide)) ?_ _ _
    | with_reducible refine elim_k _ _ ?_ ?_
    | intro _
    | with_reducible refine ite_k ?_ ?_
    | split
    | refine fst_k (by with_reducible assumption) ?_
    | with_reducible refine foldl_k _ _ ?_ ?_
    | with_reducible refine foldl_fst_k _ _ _ ?_ ?_
    | intro _ _ _
    | fail_if_no_progress with_reducible refine hK.build ?_ rfl

end Sys2Proof.Machine
end

