-- ==== Sys2Proof/Laws/FootTick.lean ====
section
/-! SUPPORT. What the operations and commands of Machine/Tick.lean may change (Laws/Loose.lean). -/

set_option Elab.async false
set_option linter.unusedTactic false
set_option linter.unreachableTactic false

namespace Sys2Proof.Machine

variable {K : State → Prop}

theorem State.firstTick_k (hK : Loose 0x100000000000000000000000000000000000000000000000000000000000000000000000000000000000000083b0000000000000000000000000000000000000000000000000000000000000000000000000000010000000080000c00 K) {s : State} (h : K s) :
    K (State.firstTick s) := by
  unfold State.firstTick
  try dsimp only
  repeat' first
    | with_reducible assumption
    | decide
    | rfl
    | (dsimp only [Ev.plus]; decide)
    | (show regOk _ _ = true; split <;> decide)
    | with_reducible refine State.setFld_k hK ?_ _ _ _ ?_
    | with_reducible refine State.enterPlb_k (hK.mono (by decide)) ?_ _ _
    | with_reducible refine State.setShadow_k (hK.mono (by decide)) ?_ _
    | with_reducible refine State.updPlumb_k (hK.mono (by decide)) ?_ _
    | with_reducible refine ite_k ?_ ?_
    | with_reducible refine foldl_k _ _ ?_ ?_
    | with_reducible refine foldl_fst_k _ _ _ ?_ ?_
    | intro _ _ _
    | split
    | refine fst_k (by with_reducible assumption) ?_

theorem State.shiftMarks_k (hK : Loose 0x600051c0002000 K) {s : State} (h : K s) (d : Nat) :
    K (State.shiftMarks s d) := by
  unfold State.shiftMarks
  try dsimp only
  repeat' first
    | with_reducible assumption
    | with_reducible refine ite_k ?_ ?_
    | with_reducible refine foldl_k _ _ ?_ ?_
    | with_reducible refine foldl_fst_k _ _ _ ?_ ?_
    | intro _ _ _
    | split
    | refine fst_k (by with_reducible assumption) ?_
    | fail_if_no_progress with_reducible refine hK.build ?_ rfl

theorem State.moveQuery_k (hK : Loose 0x8000000000000000000 K) {s : State} (h : K s) (f : Nat) :
    K (State.moveQuery s f) := by
  unfold State.moveQuery
  try dsimp only
  repeat' first
    | with_reducible assumption
    | decide
    | rfl
    | (dsimp only [Ev.plus]; decide)
    | (show regOk _ _ = true; split <;> decide)
    | with_reducible refine State.setFld_k hK ?_ _ _ _ ?_
    | with_reducible refine ite_k ?_ ?_
    | with_reducible refine foldl_k _ _ ?_ ?_
    | with_reducible refine foldl_fst_k _ _ _ ?_ ?_
    | intro _ _ _
    | split
    | refine fst_k (by with_reducible assumption) ?_

theorem State.nextFrame_k (hK : Loose 0x80100600051c0002000 K) {s : State} (h : K s) :
    K (State.nextFrame s) := by
  unfold State.nextFrame
  try dsimp only
  repeat' first
    | with_reducible assumption
    | decide
    | rfl
    | (dsimp only [Ev.plus]; decide)
    | (show regOk _ _ = true; split <;> decide)
    | with_reducible refine State.setFld_k hK ?_ _ _ _ ?_
    | with_reducible refine State.updMate_k (hK.mono (by decide)) ?_ _
    | with_reducible refine State.shiftMarks_k (hK.mono (by decide)) ?_ _
    | with_reducible refine State.moveQuery_k (hK.mono (by decide)) ?_ _
    | split
    | refine fst_k (by with_reducible assumption) ?_
    | with_reducible refine ite_k ?_ ?_
    | with_reducible refine foldl_k _ _ ?_ ?_
    | with_reducible refine foldl_fst_k _ _ _ ?_ ?_
    | intro _ _ _
    | fail_if_no_progress with_reducible refine hK.build ?_ rfl

theorem State.countCycles_k (hK : Loose 0x200000000800000000000000000000000000000000000000000000000000000000000000000000000000000000000000000000000000000000000000000000000000000000000000000000000000000000000000000080000d00 K) {s : State} (h : K s) :
    K (State.countCycles s) := by
  unfold State.countCycles
  try dsimp only
  repeat' first
    | with_reducible assumption
    | with_reducible refine State.updPlumb_k (hK.mono (by decide)) ?_ _
    | with_reducible refine State.bankAdd_k (hK.mono (by decide)) ?_ _ _
    | with_reducible refine State.drawn_k (hK.mono (by decide)) ?_ 
    | with_reducible refine ite_k ?_ ?_
    | with_reducible refine foldl_k _ _ ?_ ?_
    | with_reducible refine foldl_fst_k _ _ _ ?_ ?_
    | intro _ _ _
    | split
    | refine fst_k (by with_reducible assumption) ?_

theorem State.countUnwritten_k (hK : Loose 0x200000000800000000000000000000000000000000000000000000000000000000000000000000000000000000000000000000000000000000000000000000000000000000000000000000000000000000000000000080000c00 K) {s : State} (h : K s) :
    K (State.countUnwritten s) := by
  unfold State.countUnwritten
  try dsimp only
  repeat' first
    | with_reducible assumption
    | with_reducible refine State.updPlumb_k (hK.mono (by decide)) ?_ _
    | with_reducible refine State.bankCount_k (hK.mono (by decide)) ?_ _ _ _
    | with_reducible refine ite_k ?_ ?_
    | with_reducible refine foldl_k _ _ ?_ ?_
    | with_reducible refine foldl_fst_k _ _ _ ?_ ?_
    | intro _ _ _
    | split
    | refine fst_k (by with_reducible assumption) ?_

theorem State.primeScenes_k (hK : Loose 0x8000000000000000000000000000000000000000000000000000000000000000000000000000000 K) {s : State} (h : K s) :
    K (State.primeScenes s) := by
  unfold State.primeScenes
  try dsimp only
  repeat' first
    | with_reducible assumption
    | with_reducible refine State.rePrime_k (hK.mono (by decide)) ?_ _
    | with_reducible refine ite_k ?_ ?_
    | with_reducible refine foldl_k _ _ ?_ ?_
    | with_reducible refine foldl_fst_k _ _ _ ?_ ?_
    | intro _ _ _

theorem State.tickBlocks_k (hK : Loose 0x488000c2281000000000000008050000000000003e00280000020000000001ffdffe04ed0070002bfc007b840000b9f000050200000000800000000000007d40000000010000000000009ffa1e1000000700100020000896f033783332d06 K) {s : State} (h : K s) :
    K (State.tickBlocks s) := by
  unfold State.tickBlocks
  try dsimp only
  repeat' first
    | with_reducible assumption
    | with_reducible refine State.tickCommit_k (hK.mono (by decide)) ?_ 
    | with_reducible refine State.tickOwner_k (hK.mono (by decide)) ?_ 
    | with_reducible refine State.tickPlumb_k (hK.mono (by decide)) ?_ 
    | with_reducible refine State.tickLam_k (hK.mono (by decide)) ?_ 
    | with_reducible refine State.tickLamSubst_k (hK.mono (by decide)) ?_ 
    | with_reducible refine State.tickScarf_k (hK.mono (by decide)) ?_ 
    | with_reducible refine State.tickLinks_k (hK.mono (by decide)) ?_ 
    | with_reducible refine State.tickLane_k (hK.mono (by decide)) ?_ _
    | with_reducible refine State.primeScenes_k (hK.mono (by decide)) ?_ 
    | with_reducible refine State.tickMate_k (hK.mono (by decide)) ?_ 
    | with_reducible refine State.tickTally_k (hK.mono (by decide)) ?_ 
    | with_reducible refine State.tickDdr_k (hK.mono (by decide)) ?_ 
    | with_reducible refine State.tickSounding_k (hK.mono (by decide)) ?_ 
    | with_reducible refine State.tickLaneSubst_k (hK.mono (by decide)) ?_ 
    | with_reducible refine State.tickRekey_k (hK.mono (by decide)) ?_ 
    | with_reducible refine State.endResponse_k (hK.mono (by decide)) ?_ 
    | with_reducible refine State.programLife_k (hK.mono (by decide)) ?_
    | with_reducible refine State.tickLive_k (hK.mono (by decide)) ?_
    | with_reducible refine State.imgProgress_k (hK.mono (by decide)) ?_
    | with_reducible refine foldl_k _ _ ?_ ?_
    | with_reducible refine foldl_fst_k _ _ _ ?_ ?_
    | intro _ _ _
    | with_reducible refine ite_k ?_ ?_
    | split
    | refine fst_k (by with_reducible assumption) ?_

theorem execTick_k (hK : Loose 0x488010c22a1000000080000008050000000000003e00280000020000000001ffdffe04ed0070002bfc007b840000bbf000050200000000800000000000007d40000000010000000000009ffa1e1000000700100020801896f0377e3332d86 K) {s : State} (h : K s) :
    ∃ z, execTick s = .next z ∧ K z := by
  unfold execTick
  refine ⟨_, rfl, ?_⟩
  try dsimp only
  repeat' first
    | with_reducible assumption
    | with_reducible refine State.settlePegs_k (hK.mono (by decide)) ?_ 
    | with_reducible refine State.countCycles_k (hK.mono (by decide)) ?_ 
    | with_reducible refine State.nextFrame_k (hK.mono (by decide)) ?_ 
    | with_reducible refine State.firstTick_k (hK.mono (by decide)) ?_ 
    | with_reducible refine State.countTick_k (hK.mono (by decide)) ?_ 
    | with_reducible refine State.tickBlocks_k (hK.mono (by decide)) ?_ 
    | with_reducible refine State.closeGrain_k (hK.mono (by decide)) ?_
    | with_reducible refine State.countUnwritten_k (hK.mono (by decide)) ?_
    | with_reducible refine State.closeHeartbeat_k (hK.mono (by decide)) ?_
    | with_reducible refine State.stampTick_k (hK.mono (by decide)) ?_ _
    | with_reducible refine State.settleTick_k (hK.mono (by decide)) ?_
    | with_reducible refine State.updPlumb_k (hK.mono (by decide)) ?_ _
    | with_reducible refine ite_k ?_ ?_
    | with_reducible refine foldl_k _ _ ?_ ?_
    | with_reducible refine foldl_fst_k _ _ _ ?_ ?_
    | intro _ _ _
    | split
    | refine fst_k (by with_reducible assumption) ?_
    | fail_if_no_progress with_reducible refine hK.build ?_ rfl

end Sys2Proof.Machine
end

