-- ==== Sys2Proof/Laws/Writing.lean ====
section
/-! SUPPORT. What a write of one register may change: the answer and the marks of a failed access, its own fields, and what its action may
change. -/

set_option Elab.async false

namespace Sys2Proof.Machine

variable {K : State → Prop} {m : Nat}

/-- What any write may change: the answer, halves held, the matrix's and the drop records, the events of refused writes. -/
def writeMask : Nat := 0x1e600001c20000000000000000000000000000400000000000000000000000000000000000000000000002000000000000000000000000000000000000000000000000000000000000000800000e2c

theorem sub_trans {a b c : Nat} (h1 : a &&& b = a) (h2 : b &&& c = b) : a &&& c = a := by
  rw [← h1, Nat.land_assoc, h2]

theorem testBit_ok {a m id : Nat} (h : a &&& m = a) (ha : a.testBit (64 + id) = true := by decide) : regOk m id = true := by
  unfold regOk
  rw [testBit_of_sub h ha, Bool.or_true]

theorem place_low {a : Nat} (h1 : a < 0x10000000) (h2 : a < 0x68000 ∨ 0x70000 ≤ a) : place a = .reg a ∨ place a = .nowhere := by
  unfold place
  rw [if_pos h1, if_neg (by omega)]
  split
  · exact .inl rfl
  · exact .inr rfl

/-- A field of a written register changes only where its type lets it. -/
theorem storeSlice_at (hK : Loose m K) (hb : writeMask &&& m = writeMask) {s : State} (h : K s) (n id i w : Nat) (c : Slice)
    (hc : c.fld.ty = .rw ∨ c.fld.ty = .w1c → regOk m c.fld.id = true) : K (s.storeSlice n id i w c) := by
  unfold State.storeSlice
  cases ht : c.fld.ty with
  | rw =>
    refine ite_k (State.setMfld_k (hK.mono (sub_trans (by decide) hb)) h _ _ _ _) ?_
    exact State.setFld_k hK h _ _ _ (hc (.inl ht))
  | st => exact State.setStg_k (hK.mono (sub_trans (by decide) hb)) h _ _ _
  | w1c => exact State.setFld_k hK h _ _ _ (hc (.inr ht))
  | ro => exact h
  | wo => exact h
  | sn => exact h

theorem storeWord_at (hK : Loose m K) (hb : writeMask &&& m = writeMask) {s : State} (h : K s) (n : Nat) (r : Reg) (i w : Nat)
    (keep : Fld → Bool) (hc : ∀ c ∈ r.slices, c.fld.ty = .rw ∨ c.fld.ty = .w1c → regOk m c.fld.id = true) :
    K (s.storeWord n r i w keep) := by
  unfold State.storeWord
  refine foldl_mem_k _ _ h ?_
  intro t c hm ht
  exact ite_k ht (storeSlice_at hK hb ht _ _ _ _ _ (hc c hm))

theorem bankHigh_half : ∀ r ∈ regTable, r.id = RN.CNT_Bc_HI → r.half = .high := by decide +kernel

/-- What a write at a register's address may change, given what its action and its journal record may, and for a high half what the low half that
waits may. -/
theorem State.writePriv_half (hK : Loose m K) (hb : writeMask &&& m = writeMask) {s : State} (h : K s) (n w : Nat) (bar2 : Bool)
    (img : Option SlotImage) {r : Reg} (hr : r ∈ regTable) {i : Nat} (h1 : r.first ≤ i) (h2 : i < r.first + r.count)
    (hlow : r.addr i < 0x10000000) (hwin : r.addr i < 0x68000 ∨ 0x70000 ≤ r.addr i)
    (hc : ∀ c ∈ r.slices, c.fld.ty = .rw ∨ c.fld.ty = .w1c → regOk m c.fld.id = true)
    (hq : ∀ q j, r.half = .high → findReg (r.addr i - 4) = some (q, j) →
      ∀ c ∈ q.slices, c.fld.ty = .rw ∨ c.fld.ty = .w1c → regOk m c.fld.id = true)
    (hset : r.id = RN.CNT_Bc_HI → ∀ {t : State}, K t → K (t.bankSettle i))
    (he : ∀ {t : State}, K t → ∀ u v, K (t.writeEffect u n r.id i v img))
    (hj : ∀ {t : State}, K t → K (t.journalWrite r i w)) : K (s.writePriv n (r.addr i) w bar2 img) := by
  have sub : ∀ {a : Nat}, a &&& writeMask = a → Loose a K := fun ha => hK.mono (sub_trans ha hb)
  have hdef : K (s.defaultWrite n (r.addr i)) := State.defaultWrite_k (sub (by decide)) h _ _
  have htake : ∀ {t : State}, K t → K (t.takeWord n r i w img) := by
    intro t ht
    unfold State.takeWord
    dsimp only
    split
    · have hs := he (storeWord_at hK hb ht n r i w
        (fun f => journalled f i || r.id == RN.BNT_RETIME_FRAME || !t.storesFields r.id w) hc) t (withoutCommands r.id w)
      split
      · exact State.answer_k (sub (by decide)) (State.latch_k hK (sub_trans (by decide) hb) hs _ _ (testBit_ok (sub_trans (a := 0x400000000000000000000000000000000000000000000000000000000000000000000000000000000000000000000000000000000000000000000000) (by decide) hb))) _ _
      · exact State.answer_k (sub (by decide)) hs _ _
    · exact State.answer_k (sub (by decide)) (hj (he (storeWord_at hK hb ht n r i w _ hc) _ _)) _ _
  unfold State.writePriv
  split
  · exact State.reportAbort_k (sub (by decide)) (State.tooEarly_k (sub (by decide)) h _) _
  · exact hdef
  · split
    · exact hdef
    · exact State.dropWrite_k (sub (by decide)) h _ _
  · split
    · exact hdef
    · have hp : ∀ q, K (s.park n q) := fun q => State.park_k (sub (by decide)) h _ _
      rcases place_low hlow hwin with e | e
      · rw [e]
        unfold State.writePlace
        dsimp only
        unfold State.writeRegAt
        rw [findReg_addr hr h1 h2]
        dsimp only
        split
        · exact State.answer_k (sub (by decide)) (State.latch_k hK (sub_trans (by decide) hb) (hp _) _ _ (testBit_ok (sub_trans (a := 0x2000000000000000000000000000000000000000000000000000000000000000000000000) (by decide) hb))) _ _
        · split
          · exact State.answer_k (sub (by decide)) (State.hold_k (sub (by decide)) (hp _) _ _ _) _ _
          · refine State.seeConditions_k (sub (by decide)) (htake ?_)
            have hs : K (if r.id = RN.CNT_Bc_HI then (s.park n (.reg (r.addr i))).bankSettle i else s.park n (.reg (r.addr i))) := by
              split
              · next e => exact hset e (hp _)
              · exact hp _
            split
            · next hh =>
              split
              · next q j lw hf _ =>
                exact storeWord_at hK hb (State.unhold_k (sub (by decide)) hs _ _) _ _ _ _ _ (hq q j hh hf)
              · exact hs
            · exact hs
      · rw [e]
        unfold State.writePlace
        exact State.answer_k (sub (by decide)) (hp _) _ _

/-- The same of a register that is no high half. -/
theorem State.writePriv_at (hK : Loose m K) (hb : writeMask &&& m = writeMask) {s : State} (h : K s) (n w : Nat) (bar2 : Bool)
    (img : Option SlotImage) {r : Reg} (hr : r ∈ regTable) {i : Nat} (h1 : r.first ≤ i) (h2 : i < r.first + r.count)
    (hhalf : r.half ≠ .high) (hlow : r.addr i < 0x10000000) (hwin : r.addr i < 0x68000 ∨ 0x70000 ≤ r.addr i)
    (hc : ∀ c ∈ r.slices, c.fld.ty = .rw ∨ c.fld.ty = .w1c → regOk m c.fld.id = true)
    (he : ∀ {t : State}, K t → ∀ u v, K (t.writeEffect u n r.id i v img))
    (hj : ∀ {t : State}, K t → K (t.journalWrite r i w)) : K (s.writePriv n (r.addr i) w bar2 img) :=
  State.writePriv_half hK hb h n w bar2 img hr h1 h2 hlow hwin hc (fun _ _ e => absurd e hhalf)
    (fun e => absurd (bankHigh_half r hr e) hhalf) he hj

/-- What a write at an address of no register may change. -/
theorem State.writePriv_none (hK : Loose m K) (hb : writeMask &&& m = writeMask) {s : State} (h : K s) (n w a : Nat) (bar2 : Bool)
    (img : Option SlotImage) (hlow : a < 0x10000000) (hwin : a < 0x68000 ∨ 0x70000 ≤ a) (hf : findReg a = none) :
    K (s.writePriv n a w bar2 img) := by
  have sub : ∀ {x : Nat}, x &&& writeMask = x → Loose x K := fun ha => hK.mono (sub_trans ha hb)
  have hdef : K (s.defaultWrite n a) := State.defaultWrite_k (sub (by decide)) h _ _
  unfold State.writePriv
  split
  · exact State.reportAbort_k (sub (by decide)) (State.tooEarly_k (sub (by decide)) h _) _
  · exact hdef
  · split
    · exact hdef
    · exact State.dropWrite_k (sub (by decide)) h _ _
  · split
    · exact hdef
    · have hp : ∀ q, K (s.park n q) := fun q => State.park_k (sub (by decide)) h _ _
      rcases place_low hlow hwin with e | e
      · rw [e]
        unfold State.writePlace State.writeRegAt
        dsimp only
        rw [hf]
        exact State.answer_k (sub (by decide)) (hp _) _ _
      · rw [e]
        unfold State.writePlace
        exact State.answer_k (sub (by decide)) (hp _) _ _

/-- Only the spare lanes have LN_SPARE_CTRL (R82). -/
theorem spareCtrl_none : ∀ i < 280, ¬ (256 ≤ i ∧ i < 272) → findReg (0x1000070 + i * 0x10000) = none := by decide +kernel

/-- The same of a write of register number `id`. -/
theorem State.regWrite_at (hK : Loose m K) (hb : writeMask &&& m = writeMask) {s : State} (h : K s) (n w : Nat)
    {r : Reg} (hr : r ∈ regTable) {i : Nat} (h1 : r.first ≤ i) (h2 : i < r.first + r.count)
    (hhalf : r.half ≠ .high) (hlow : r.addr i < 0x10000000) (hwin : r.addr i < 0x68000 ∨ 0x70000 ≤ r.addr i)
    (hc : ∀ c ∈ r.slices, c.fld.ty = .rw ∨ c.fld.ty = .w1c → regOk m c.fld.id = true)
    (he : ∀ {t : State}, K t → ∀ u v, K (t.writeEffect u n r.id i v none))
    (hj : ∀ {t : State}, K t → K (t.journalWrite r i w)) : K (s.regWrite n r.id i w) := by
  unfold State.regWrite
  rw [find_of_id hr]
  exact State.writePriv_at hK hb h n w false none hr h1 h2 hhalf hlow hwin hc he hj

theorem State.regWrite_DEV_LATQ_CTRL (hK : Loose 0x1e600001c2000000000000000000000000000040000000000000000000000000000000000000000000000200000000000000000000000000000000000000000000000000000b580000000800000e2c K) {s : State} (h : K s) (n w : Nat) :
    K (s.regWrite n RN.DEV_LATQ_CTRL 0 w) := by
  refine State.regWrite_at (r := ⟨RN.DEV_LATQ_CTRL, 0x210, 0, 1, 0x0, .single, [⟨R.DEV_LATQ_CTRL_SLOT, 0, 0, 25⟩, ⟨R.DEV_LATQ_CTRL_SIDE, 0, 28, 1⟩, ⟨R.DEV_LATQ_CTRL_GO, 0, 31, 1⟩]⟩) hK (by decide) h n w (by decide) (by decide) (by decide) (by decide)
    (by decide) (by decide) (by decide) ?_ ?_
  · intro t ht u v
    unfold State.writeEffect
    rw [if_pos rfl]
    exact State.latqCtrl_k (hK.mono (by decide)) ht _ _
  · intro t ht
    unfold State.journalWrite
    rw [if_neg]
    · exact ht
    · rintro (⟨e, -⟩ | ⟨e, -⟩ | ⟨e, -⟩ | e) <;> exact absurd e (by decide)

theorem State.regWrite_LN_FIT_CTRL (hK : Loose 0x40000000000000000000000001e600001c2000000000000000000000000000040000000000000000000000000000000000000000800000200000000000000000000014000000009ffb1e000900fb061b89a00000020000800002e2c K) {s : State} (h : K s) (n w : Nat) {i : Nat} (hi : 0 ≤ i ∧ i < 280) :
    K (s.regWrite n RN.LN_FIT_CTRL i w) := by
  refine State.regWrite_at (r := ⟨RN.LN_FIT_CTRL, 0x1000000, 0, 280, 0x10000, .single, [⟨R.LN_FIT_CTRL_ENABLE, 0, 0, 1⟩, ⟨R.LN_FIT_CTRL_RESTART, 0, 1, 1⟩, ⟨R.LN_FIT_CTRL_BACKOFF_RESET, 0, 2, 1⟩, ⟨R.LN_FIT_CTRL_UNFREEZE, 0, 3, 1⟩, ⟨R.LN_FIT_CTRL_PEER_PRESET, 0, 4, 2⟩, ⟨R.LN_FIT_CTRL_EXPECT_EN, 0, 6, 1⟩]⟩) hK (by decide) h n w (by decide) (show 0 ≤ i from hi.1) (show i < 0 + 280 from by omega) (by decide)
    (by unfold Reg.addr; dsimp only; omega) (by unfold Reg.addr; dsimp only; omega) (by decide) ?_ ?_
  · intro t ht u v
    unfold State.writeEffect
    iterate 2 rw [if_neg (by decide)]
    rw [if_pos rfl]
    exact State.fitCtrlEffect_k (hK.mono (by decide)) ht _ _ _
  · intro t ht
    unfold State.journalWrite
    rw [if_neg]
    · exact ht
    · rintro (⟨e, -⟩ | ⟨e, -⟩ | ⟨e, -⟩ | e) <;> exact absurd e (by decide)

theorem State.regWrite_LN_TX_CFG (hK : Loose 0x1e600001c20000000000000000000000000000400000000000000000000000000000000000000000000002000000000000000000000000000000000000000000003000000000000000000800002e2c K) {s : State} (h : K s) (n w : Nat) {i : Nat} (hi : 0 ≤ i ∧ i < 280) :
    K (s.regWrite n RN.LN_TX_CFG i w) := by
  refine State.regWrite_at (r := ⟨RN.LN_TX_CFG, 0x1000020, 0, 280, 0x10000, .single, [⟨R.LN_TX_CFG_TIMING, 0, 0, 1⟩, ⟨R.LN_TX_CFG_LOOP_AUTO, 0, 1, 1⟩, ⟨R.LN_TX_CFG_TX_INV, 0, 2, 1⟩, ⟨R.LN_TX_CFG_LOOP_RESTORE, 0, 3, 1⟩]⟩) hK (by decide) h n w (by decide) (show 0 ≤ i from hi.1) (show i < 0 + 280 from by omega) (by decide)
    (by unfold Reg.addr; dsimp only; omega) (by unfold Reg.addr; dsimp only; omega) (by decide) ?_ ?_
  · intro t ht u v
    unfold State.writeEffect
    iterate 3 rw [if_neg (by decide)]
    rw [if_pos rfl]
    exact State.txCfgEffect_k (hK.mono (by decide)) ht _ _
  · intro t ht
    unfold State.journalWrite
    rw [if_neg]
    · exact ht
    · rintro (⟨e, -⟩ | ⟨e, -⟩ | ⟨e, -⟩ | e) <;> exact absurd e (by decide)

theorem State.regWrite_LN_SPARE_CTRL (hK : Loose 0x1e600001c20000000000000000000000000000400000000000000000000000000000000000000000000002000000000000000000000000000000000000010000000000000000000000000800002e2c K) {s : State} (h : K s) (n w : Nat) {i : Nat} (hi : 256 ≤ i ∧ i < 272) :
    K (s.regWrite n RN.LN_SPARE_CTRL i w) := by
  refine State.regWrite_at (r := ⟨RN.LN_SPARE_CTRL, 0x1000070, 256, 16, 0x10000, .single, [⟨R.LN_SPARE_CTRL_TARGET, 0, 0, 4⟩, ⟨R.LN_SPARE_CTRL_PREP, 0, 4, 1⟩, ⟨R.LN_SPARE_CTRL_SELECT, 0, 5, 1⟩, ⟨R.LN_SPARE_CTRL_RELEASE, 0, 6, 1⟩]⟩) hK (by decide) h n w (by decide) (show 256 ≤ i from hi.1) (show i < 256 + 16 from by omega) (by decide)
    (by unfold Reg.addr; dsimp only; omega) (by unfold Reg.addr; dsimp only; omega) (by decide) ?_ ?_
  · intro t ht u v
    unfold State.writeEffect
    iterate 4 rw [if_neg (by decide)]
    rw [if_pos rfl]
    exact State.spareCtrlEffect_k (hK.mono (by decide)) ht _ _
  · intro t ht
    unfold State.journalWrite
    rw [if_neg]
    · exact ht
    · rintro (⟨e, -⟩ | ⟨e, -⟩ | ⟨e, -⟩ | e) <;> exact absurd e (by decide)

theorem State.regWrite_BNT_CTRL (hK : Loose 0x1e600001c200000000000000000000000de000400000000000000000000000000000000000000000000002000000000000000000000000000000000000000000000000000000000100000901230e2c K) {s : State} (h : K s) (n w : Nat) {i : Nat} (hi : 0 ≤ i ∧ i < 16384) :
    K (s.regWrite n RN.BNT_CTRL i w) := by
  refine State.regWrite_at (r := ⟨RN.BNT_CTRL, 0x3000004, 0, 16384, 0x100, .single, [⟨R.BNT_CTRL_RETIME, 0, 0, 1⟩]⟩) hK (by decide) h n w (by decide) (show 0 ≤ i from hi.1) (show i < 0 + 16384 from by omega) (by decide)
    (by unfold Reg.addr; dsimp only; omega) (by unfold Reg.addr; dsimp only; omega) (by decide) ?_ ?_
  · intro t ht u v
    unfold State.writeEffect
    iterate 5 rw [if_neg (by decide)]
    rw [if_pos rfl]
    exact ite_k (State.requestRetime_k (hK.mono (by decide)) ht _) ht
  · intro t ht
    unfold State.journalWrite
    exact ite_k (State.journal_k (hK.mono (by decide)) ht _ _ _ _) ht

theorem State.regWrite_CUT_CTRL (hK : Loose 0x1e600001c2000000000000000003b8000de000400000000000000000000000000000000000000000191fe2001000000000000000000000000000000000000000000000000000000100000903110e2c K) {s : State} (h : K s) (n w : Nat) :
    K (s.regWrite n RN.CUT_CTRL 0 w) := by
  refine State.regWrite_at (r := ⟨RN.CUT_CTRL, 0xb0100, 0, 1, 0x0, .single, [⟨R.CUT_CTRL_LIST, 0, 0, 1⟩, ⟨R.CUT_CTRL_CMD, 0, 1, 3⟩, ⟨R.CUT_CTRL_ASAP, 0, 4, 1⟩]⟩) hK (by decide) h n w (by decide) (by decide) (by decide) (by decide)
    (by decide) (by decide) (by decide) ?_ ?_
  · intro t ht u v
    unfold State.writeEffect
    iterate 6 rw [if_neg (by decide)]
    rw [if_pos rfl]
    exact State.cutCommand_k (hK.mono (by decide)) ht _
  · intro t ht
    unfold State.journalWrite
    rw [if_neg]
    · exact ht
    · rintro (⟨e, -⟩ | ⟨e, -⟩ | ⟨e, -⟩ | e) <;> exact absurd e (by decide)

theorem State.regWrite_CUT_SCN_CMD (hK : Loose 0x1e600001c20000000000000000000000000000400000000000000000000000000000000000000000000002000000000000000000000000000000000000000000000000000000000000000804000e2c K) {s : State} (h : K s) (n w : Nat) :
    K (s.regWrite n RN.CUT_SCN_CMD 0 w) := by
  refine State.regWrite_at (r := ⟨RN.CUT_SCN_CMD, 0xb0200, 0, 1, 0x0, .single, [⟨R.CUT_SCN_CMD_SCENE, 0, 0, 8⟩, ⟨R.CUT_SCN_CMD_GO, 0, 8, 1⟩]⟩) hK (by decide) h n w (by decide) (by decide) (by decide) (by decide)
    (by decide) (by decide) (by decide) ?_ ?_
  · intro t ht u v
    unfold State.writeEffect
    iterate 7 rw [if_neg (by decide)]
    rw [if_pos rfl]
    exact State.sceneCommand_k (hK.mono (by decide)) ht _
  · intro t ht
    unfold State.journalWrite
    rw [if_neg]
    · exact ht
    · rintro (⟨e, -⟩ | ⟨e, -⟩ | ⟨e, -⟩ | e) <;> exact absurd e (by decide)

theorem State.regWrite_SCB_REPL_CTRL (hK : Loose 0x1e600001c200000000000000000000000de000400000000000000000000000000000000000000000000002001000000000000000000000000000000000000000000000000000000100000902000e2c K) {s : State} (h : K s) (n w : Nat) :
    K (s.regWrite n RN.SCB_REPL_CTRL 0 w) := by
  refine State.regWrite_at (r := ⟨RN.SCB_REPL_CTRL, 0xb0010, 0, 1, 0x0, .single, [⟨R.SCB_REPL_CTRL_GO, 0, 0, 1⟩]⟩) hK (by decide) h n w (by decide) (by decide) (by decide) (by decide)
    (by decide) (by decide) (by decide) ?_ ?_
  · intro t ht u v
    unfold State.writeEffect
    iterate 9 rw [if_neg (by decide)]
    rw [if_pos rfl]
    exact ite_k (State.replaceCommand_k (hK.mono (by decide)) ht ) ht
  · intro t ht
    unfold State.journalWrite
    exact ite_k (State.journal_k (hK.mono (by decide)) ht _ _ _ _) ht

theorem State.regWrite_SCF_GCFG (hK : Loose 0x1e600001c200000000000000000000000de000400000000000000000000000000000400000000000000002000000000000000000000000000000000000000000000000000000000100000900000e2c K) {s : State} (h : K s) (n w : Nat) {i : Nat} (hi : 0 ≤ i ∧ i < 65536) :
    K (s.regWrite n RN.SCF_GCFG i w) := by
  refine State.regWrite_at (r := ⟨RN.SCF_GCFG, 0x4000000, 0, 65536, 0x40, .single, [⟨R.SCF_GCFG_MODE, 0, 0, 3⟩, ⟨R.SCF_GCFG_HOME, 0, 3, 1⟩, ⟨R.SCF_GCFG_REVERT, 0, 4, 1⟩, ⟨R.SCF_GCFG_WTR, 0, 8, 12⟩, ⟨R.SCF_GCFG_WTR_CLEAR, 0, 20, 1⟩]⟩) hK (by decide) h n w (by decide) (show 0 ≤ i from hi.1) (show i < 0 + 65536 from by omega) (by decide)
    (by unfold Reg.addr; dsimp only; omega) (by unfold Reg.addr; dsimp only; omega) (by decide) ?_ ?_
  · intro t ht u v
    unfold State.writeEffect
    iterate 10 rw [if_neg (by decide)]
    rw [if_pos rfl]
    exact ite_k (State.clearWtr_k (hK.mono (by decide)) ht _) ht
  · intro t ht
    unfold State.journalWrite
    exact ite_k (State.journal_k (hK.mono (by decide)) ht _ _ _ _) ht

theorem State.regWrite_PLB_CTRL (hK : Loose 0x10000000001e600001c20000000000000000000000000000400000000000000007980000400000000000000000000002000000000000000000000000000000000000000000000000000000000200000880000f2c K) {s : State} (h : K s) (n w : Nat) :
    K (s.regWrite n RN.PLB_CTRL 0 w) := by
  refine State.regWrite_at (r := ⟨RN.PLB_CTRL, 0x70004, 0, 1, 0x0, .single, [⟨R.PLB_CTRL_CMD, 0, 0, 3⟩, ⟨R.PLB_CTRL_REF, 0, 4, 4⟩, ⟨R.PLB_CTRL_REALIGN, 0, 8, 1⟩, ⟨R.PLB_CTRL_LEARN_RESET, 0, 9, 1⟩]⟩) hK (by decide) h n w (by decide) (by decide) (by decide) (by decide)
    (by decide) (by decide) (by decide) ?_ ?_
  · intro t ht u v
    unfold State.writeEffect
    iterate 11 rw [if_neg (by decide)]
    rw [if_pos rfl]
    exact State.plbCtrl_k (hK.mono (by decide)) ht _
  · intro t ht
    unfold State.journalWrite
    rw [if_neg]
    · exact ht
    · rintro (⟨e, -⟩ | ⟨e, -⟩ | ⟨e, -⟩ | e) <;> exact absurd e (by decide)

theorem State.regWrite_MAT_CTRL (hK : Loose 0x1e600001c2000000000000000000001e08e000429000000000000000000000000000000000000000000002000000000000000000000000000000000000000000000000000000000000000900000e2c K) {s : State} (h : K s) (n w : Nat) :
    K (s.regWrite n RN.MAT_CTRL 0 w) := by
  refine State.regWrite_at (r := ⟨RN.MAT_CTRL, 0x80004, 0, 1, 0x0, .single, [⟨R.MAT_CTRL_SWITCH, 0, 0, 1⟩, ⟨R.MAT_CTRL_REJOIN, 0, 1, 1⟩, ⟨R.MAT_CTRL_RECOPY, 0, 2, 1⟩]⟩) hK (by decide) h n w (by decide) (by decide) (by decide) (by decide)
    (by decide) (by decide) (by decide) ?_ ?_
  · intro t ht u v
    unfold State.writeEffect
    iterate 12 rw [if_neg (by decide)]
    rw [if_pos rfl]
    exact State.mateCtrl_k (hK.mono (by decide)) ht _
  · intro t ht
    unfold State.journalWrite
    rw [if_neg]
    · exact ht
    · rintro (⟨e, -⟩ | ⟨e, -⟩ | ⟨e, -⟩ | e) <;> exact absurd e (by decide)

theorem State.regWrite_IMG_CTRL (hK : Loose 0x1e600001c2000000e0503c0008040000000000400000000000000000000000000000000000000000000002000000000000000000000000000000000000000000000000000000000006000e00000e2c K) {s : State} (h : K s) (n w : Nat) :
    K (s.regWrite n RN.IMG_CTRL 0 w) := by
  refine State.regWrite_at (r := ⟨RN.IMG_CTRL, 0x10020, 0, 1, 0x0, .single, [⟨R.IMG_CTRL_CONFIRM, 0, 0, 1⟩, ⟨R.IMG_CTRL_VERIFY, 0, 1, 1⟩, ⟨R.IMG_CTRL_PROGRAM, 0, 2, 1⟩, ⟨R.IMG_CTRL_LIVE_GO, 0, 3, 1⟩, ⟨R.IMG_CTRL_SVN_BURN, 0, 4, 1⟩, ⟨R.IMG_CTRL_RECOVER_GO, 0, 5, 1⟩, ⟨R.IMG_CTRL_ABORT, 0, 6, 1⟩, ⟨R.IMG_CTRL_SLOT, 0, 8, 1⟩]⟩) hK (by decide) h n w (by decide) (by decide) (by decide) (by decide)
    (by decide) (by decide) (by decide) ?_ ?_
  · intro t ht u v
    unfold State.writeEffect
    iterate 13 rw [if_neg (by decide)]
    rw [if_pos rfl]
    exact State.imgCtrl_k (hK.mono (by decide)) ht _ _
  · intro t ht
    unfold State.journalWrite
    rw [if_neg]
    · exact ht
    · rintro (⟨e, -⟩ | ⟨e, -⟩ | ⟨e, -⟩ | e) <;> exact absurd e (by decide)

/-- A write of IMG_CTRL with what the other slot holds. -/
theorem State.writePriv_IMG_CTRL (hK : Loose 0x1e600001c2000000e0503c0008040000000000400000000000000000000000000000000000000000000002000000000000000000000000000000000000000000000000000000000006000e00000e2c K) {s : State} (h : K s) (n w : Nat) (img : Option SlotImage) :
    K (s.writePriv n 0x10020 w false img) := by
  refine State.writePriv_at (i := 0) (r := ⟨RN.IMG_CTRL, 0x10020, 0, 1, 0x0, .single, [⟨R.IMG_CTRL_CONFIRM, 0, 0, 1⟩, ⟨R.IMG_CTRL_VERIFY, 0, 1, 1⟩, ⟨R.IMG_CTRL_PROGRAM, 0, 2, 1⟩, ⟨R.IMG_CTRL_LIVE_GO, 0, 3, 1⟩, ⟨R.IMG_CTRL_SVN_BURN, 0, 4, 1⟩, ⟨R.IMG_CTRL_RECOVER_GO, 0, 5, 1⟩, ⟨R.IMG_CTRL_ABORT, 0, 6, 1⟩, ⟨R.IMG_CTRL_SLOT, 0, 8, 1⟩]⟩) hK (by decide) h n w false img (by decide) (by decide) (by decide) (by decide)
    (by decide) (by decide) (by decide) ?_ ?_
  · intro t ht u v
    unfold State.writeEffect
    iterate 13 rw [if_neg (by decide)]
    rw [if_pos rfl]
    exact State.imgCtrl_k (hK.mono (by decide)) ht _ _
  · intro t ht
    unfold State.journalWrite
    rw [if_neg]
    · exact ht
    · rintro (⟨e, -⟩ | ⟨e, -⟩ | ⟨e, -⟩ | e) <;> exact absurd e (by decide)

theorem State.regWrite_IMG_BOOT (hK : Loose 0x1e600001c20000000000000300040000000000400000000000000000000000000000000000000000000002000000000000000000000000000000000000000000000000000000000002000800000e2c K) {s : State} (h : K s) (n w : Nat) :
    K (s.regWrite n RN.IMG_BOOT 0 w) := by
  refine State.regWrite_at (r := ⟨RN.IMG_BOOT, 0x1001c, 0, 1, 0x0, .single, [⟨R.IMG_BOOT_PREF, 0, 0, 1⟩, ⟨R.IMG_BOOT_TRIAL, 0, 1, 1⟩]⟩) hK (by decide) h n w (by decide) (by decide) (by decide) (by decide)
    (by decide) (by decide) (by decide) ?_ ?_
  · intro t ht u v
    unfold State.writeEffect
    iterate 14 rw [if_neg (by decide)]
    rw [if_pos rfl]
    exact State.imgBoot_k (hK.mono (by decide)) ht _
  · intro t ht
    unfold State.journalWrite
    rw [if_neg]
    · exact ht
    · rintro (⟨e, -⟩ | ⟨e, -⟩ | ⟨e, -⟩ | e) <;> exact absurd e (by decide)

theorem State.regWrite_MGT_OWN_OP (hK : Loose 0x1e600001c3c000000000000000000000000000400000000000000000000000000000000000000000000002000000000000000000000000000000000000000000000000000000000000001800000e2c K) {s : State} (h : K s) (n w : Nat) :
    K (s.regWrite n RN.MGT_OWN_OP 0 w) := by
  refine State.regWrite_at (r := ⟨RN.MGT_OWN_OP, 0x20014, 0, 1, 0x0, .single, [⟨R.MGT_OWN_OP_OP, 0, 0, 3⟩, ⟨R.MGT_OWN_OP_SUCCESSOR, 0, 4, 3⟩]⟩) hK (by decide) h n w (by decide) (by decide) (by decide) (by decide)
    (by decide) (by decide) (by decide) ?_ ?_
  · intro t ht u v
    unfold State.writeEffect
    iterate 15 rw [if_neg (by decide)]
    rw [if_pos rfl]
    exact State.ownerWrite_k (hK.mono (by decide)) ht _ _
  · intro t ht
    unfold State.journalWrite
    rw [if_neg]
    · exact ht
    · rintro (⟨e, -⟩ | ⟨e, -⟩ | ⟨e, -⟩ | e) <;> exact absurd e (by decide)

theorem State.regWrite_DEV_COMMIT (hK : Loose 0x1e600001c20000800000000000000000000000400000000000000000000000000000000000000000000002000000000000000000000000000000000000000000000000000000000000000800000e2c K) {s : State} (h : K s) (n w : Nat) :
    K (s.regWrite n RN.DEV_COMMIT 0 w) := by
  refine State.regWrite_at (r := ⟨RN.DEV_COMMIT, 0x10, 0, 1, 0x0, .single, [⟨R.DEV_COMMIT_GO, 0, 0, 1⟩, ⟨R.DEV_COMMIT_DISCARD, 0, 1, 1⟩]⟩) hK (by decide) h n w (by decide) (by decide) (by decide) (by decide)
    (by decide) (by decide) (by decide) ?_ ?_
  · intro t ht u v
    unfold State.writeEffect
    iterate 1 rw [if_neg (by decide)]
    rw [if_pos rfl]
    exact State.commitCtrl_k (hK.mono (by decide)) ht _
  · intro t ht
    unfold State.journalWrite
    rw [if_neg]
    · exact ht
    · rintro (⟨e, -⟩ | ⟨e, -⟩ | ⟨e, -⟩ | e) <;> exact absurd e (by decide)

theorem State.regWrite_MGT_PORTp_EOI (hK : Loose 0x1e600001c20000000000000000000000000000400000000000000000000000000000000000000000000002000000000000000000000000000000000000000000000000000000000000000800000e2c K) {s : State} (h : K s) (n w : Nat) {i : Nat} (hi : 0 ≤ i ∧ i < 4) :
    K (s.regWrite n RN.MGT_PORTp_EOI i w) := by
  refine State.regWrite_at (r := ⟨RN.MGT_PORTp_EOI, 0x20114, 0, 4, 0x20, .single, [⟨R.MGT_PORTp_EOI_VECTOR, 0, 0, 6⟩]⟩) hK (by decide) h n w (by decide) (show 0 ≤ i from hi.1) (show i < 0 + 4 from by omega) (by decide)
    (by unfold Reg.addr; dsimp only; omega) (by unfold Reg.addr; dsimp only; omega) (by decide) ?_ ?_
  · intro t ht u v
    unfold State.writeEffect
    iterate 17 rw [if_neg (by decide)]
    rw [if_pos rfl]
    exact State.portEoi_k (hK.mono (by decide)) ht _ _
  · intro t ht
    unfold State.journalWrite
    rw [if_neg]
    · exact ht
    · rintro (⟨e, -⟩ | ⟨e, -⟩ | ⟨e, -⟩ | e) <;> exact absurd e (by decide)

theorem State.regWrite_CNT_SNAP (hK : Loose 0x10000000000001e600001c20000000000000000000000000000400000000000000000000000000000000000000000000002000000000000000000000000000000000000000000000000000000000000100800000e2c K) {s : State} (h : K s) (n w : Nat) :
    K (s.regWrite n RN.CNT_SNAP 0 w) := by
  refine State.regWrite_at (r := ⟨RN.CNT_SNAP, 0x90004, 0, 1, 0x0, .single, [⟨R.CNT_SNAP_GO, 0, 0, 1⟩]⟩) hK (by decide) h n w (by decide) (by decide) (by decide) (by decide)
    (by decide) (by decide) (by decide) ?_ ?_
  · intro t ht u v
    unfold State.writeEffect
    iterate 19 rw [if_neg (by decide)]
    rw [if_pos rfl]
    exact State.snapCtrl_k (hK.mono (by decide)) ht _
  · intro t ht
    unfold State.journalWrite
    rw [if_neg]
    · exact ht
    · rintro (⟨e, -⟩ | ⟨e, -⟩ | ⟨e, -⟩ | e) <;> exact absurd e (by decide)

theorem State.regWrite_CNT_CLR_CTRL (hK : Loose 0xa0000000000001e600001c20000000000000000000000000000400000000000000000000000000000000000000000000002000000000000000000000000000000000000000000000000000000000000400800000e2c K) {s : State} (h : K s) (n w : Nat) :
    K (s.regWrite n RN.CNT_CLR_CTRL 0 w) := by
  refine State.regWrite_at (r := ⟨RN.CNT_CLR_CTRL, 0x90018, 0, 1, 0x0, .single, [⟨R.CNT_CLR_CTRL_COUNT, 0, 0, 19⟩, ⟨R.CNT_CLR_CTRL_KIND, 0, 19, 2⟩, ⟨R.CNT_CLR_CTRL_GO, 0, 31, 1⟩]⟩) hK (by decide) h n w (by decide) (by decide) (by decide) (by decide)
    (by decide) (by decide) (by decide) ?_ ?_
  · intro t ht u v
    unfold State.writeEffect
    iterate 20 rw [if_neg (by decide)]
    rw [if_pos rfl]
    exact State.clearCtrl_k (hK.mono (by decide)) ht _
  · intro t ht
    unfold State.journalWrite
    rw [if_neg]
    · exact ht
    · rintro (⟨e, -⟩ | ⟨e, -⟩ | ⟨e, -⟩ | e) <;> exact absurd e (by decide)

theorem State.regWrite_PEG_CTRL (hK : Loose 0x1e600001c20000000000000000000000000000400000000000000000000000000000000000000000000002000000000000000000000000000000000000000000000000000000000001000800000e2c K) {s : State} (h : K s) (n w : Nat) :
    K (s.regWrite n RN.PEG_CTRL 0 w) := by
  refine State.regWrite_at (r := ⟨RN.PEG_CTRL, 0x90114, 0, 1, 0x0, .single, [⟨R.PEG_CTRL_POP, 0, 0, 1⟩]⟩) hK (by decide) h n w (by decide) (by decide) (by decide) (by decide)
    (by decide) (by decide) (by decide) ?_ ?_
  · intro t ht u v
    unfold State.writeEffect
    iterate 21 rw [if_neg (by decide)]
    rw [if_pos rfl]
    exact State.pegCtrl_k (hK.mono (by decide)) ht _
  · intro t ht
    unfold State.journalWrite
    rw [if_neg]
    · exact ht
    · rintro (⟨e, -⟩ | ⟨e, -⟩ | ⟨e, -⟩ | e) <;> exact absurd e (by decide)

theorem State.regWrite_TLY_LC_CTRL (hK : Loose 0x800000000000000000000000000001e600001c20000000000000000000000000000400000000000000000000000000000000000000000000002000000000000000000000000000000000000000000000000000000000002000800000e2c K) {s : State} (h : K s) (n w : Nat) :
    K (s.regWrite n RN.TLY_LC_CTRL 0 w) := by
  refine State.regWrite_at (r := ⟨RN.TLY_LC_CTRL, 0x6402c, 0, 1, 0x0, .single, [⟨R.TLY_LC_CTRL_GO, 0, 0, 1⟩]⟩) hK (by decide) h n w (by decide) (by decide) (by decide) (by decide)
    (by decide) (by decide) (by decide) ?_ ?_
  · intro t ht u v
    unfold State.writeEffect
    iterate 22 rw [if_neg (by decide)]
    rw [if_pos rfl]
    exact State.lcCtrl_k (hK.mono (by decide)) ht _
  · intro t ht
    unfold State.journalWrite
    rw [if_neg]
    · exact ht
    · rintro (⟨e, -⟩ | ⟨e, -⟩ | ⟨e, -⟩ | e) <;> exact absurd e (by decide)

theorem State.regWrite_MGT_TUN_CTRL (hK : Loose 0x1e600c01c20000000000000000000000000000400000000000000000000000000000000000000000000002000000000000000000000000000000000000000000000000000000000000004800000e2c K) {s : State} (h : K s) (n w : Nat) :
    K (s.regWrite n RN.MGT_TUN_CTRL 0 w) := by
  refine State.regWrite_at (r := ⟨RN.MGT_TUN_CTRL, 0x2005c, 0, 1, 0x0, .single, [⟨R.MGT_TUN_CTRL_GO, 0, 0, 1⟩, ⟨R.MGT_TUN_CTRL_WRITE, 0, 1, 1⟩, ⟨R.MGT_TUN_CTRL_UNPRIV, 0, 2, 1⟩]⟩) hK (by decide) h n w (by decide) (by decide) (by decide) (by decide)
    (by decide) (by decide) (by decide) ?_ ?_
  · intro t ht u v
    unfold State.writeEffect
    iterate 16 rw [if_neg (by decide)]
    rw [if_pos rfl]
    exact State.tunnelCtrl_k (hK.mono (by decide)) ht _
  · intro t ht
    unfold State.journalWrite
    rw [if_neg]
    · exact ht
    · rintro (⟨e, -⟩ | ⟨e, -⟩ | ⟨e, -⟩ | e) <;> exact absurd e (by decide)

theorem execLatqGo_at (hK : Loose 0x1e600001c2000000000000000000000000000040000000000000000000000000000000000000000000000200000000000000000000000000000000000000000000000000000b580000000800000e2c K) {s : State} (h : K s) (m : Master) (w : Word) :
    ∃ z, execLatqGo m w s = .next z ∧ K z :=
  ⟨_, rfl, State.regWrite_DEV_LATQ_CTRL hK h _ _⟩

theorem execFitEnableWrite_at (hK : Loose 0x40000000000000000000000001e600001c2000000000000000000000000000040000000000000000000000000000000000000000800000200000000000000000000014000000009ffb1e000900fb061b89a00000020000800002e2c K) {s : State} (h : K s) (m : Master) (n : LaneIx) (w : Word) :
    ∃ z, execFitEnableWrite m n w s = .next z ∧ K z :=
  ⟨_, rfl, State.regWrite_LN_FIT_CTRL hK h _ _ ⟨Nat.zero_le _, n.isLt⟩⟩

theorem execLnRestart_at (hK : Loose 0x40000000000000000000000001e600001c2000000000000000000000000000040000000000000000000000000000000000000000800000200000000000000000000014000000009ffb1e000900fb061b89a00000020000800002e2c K) {s : State} (h : K s) (m : Master) (n : LaneIx) (w : Word) :
    ∃ z, execLnRestart m n w s = .next z ∧ K z :=
  ⟨_, rfl, State.regWrite_LN_FIT_CTRL hK h _ _ ⟨Nat.zero_le _, n.isLt⟩⟩

theorem execBackoffReset_at (hK : Loose 0x40000000000000000000000001e600001c2000000000000000000000000000040000000000000000000000000000000000000000800000200000000000000000000014000000009ffb1e000900fb061b89a00000020000800002e2c K) {s : State} (h : K s) (m : Master) (n : LaneIx) (w : Word) :
    ∃ z, execBackoffReset m n w s = .next z ∧ K z :=
  ⟨_, rfl, State.regWrite_LN_FIT_CTRL hK h _ _ ⟨Nat.zero_le _, n.isLt⟩⟩

theorem execUnfreeze_at (hK : Loose 0x40000000000000000000000001e600001c2000000000000000000000000000040000000000000000000000000000000000000000800000200000000000000000000014000000009ffb1e000900fb061b89a00000020000800002e2c K) {s : State} (h : K s) (m : Master) (n : LaneIx) (w : Word) :
    ∃ z, execUnfreeze m n w s = .next z ∧ K z :=
  ⟨_, rfl, State.regWrite_LN_FIT_CTRL hK h _ _ ⟨Nat.zero_le _, n.isLt⟩⟩

theorem execLoopRestore_at (hK : Loose 0x1e600001c20000000000000000000000000000400000000000000000000000000000000000000000000002000000000000000000000000000000000000000000003000000000000000000800002e2c K) {s : State} (h : K s) (m : Master) (n : LaneIx) (w : Word) :
    ∃ z, execLoopRestore m n w s = .next z ∧ K z :=
  ⟨_, rfl, State.regWrite_LN_TX_CFG hK h _ _ ⟨Nat.zero_le _, n.isLt⟩⟩

theorem execSparePrepWrite_at (hK : Loose 0x1e600001c20000000000000000000000000000400000000000000000000000000000000000000000000002000000000000000000000000000000000000010000000000000000000000000800002e2c K) {s : State} (h : K s) (m : Master) (n : LaneIx) (w : Word) :
    ∃ z, execSparePrepWrite m n w s = .next z ∧ K z := by
  refine ⟨_, rfl, ?_⟩
  by_cases hn : 256 ≤ n.val ∧ n.val < 272
  · exact State.regWrite_LN_SPARE_CTRL hK h _ _ hn
  · unfold State.regWrite
    rw [find_of_id (r := ⟨RN.LN_SPARE_CTRL, 0x1000070, 256, 16, 0x10000, .single, [⟨R.LN_SPARE_CTRL_TARGET, 0, 0, 4⟩, ⟨R.LN_SPARE_CTRL_PREP, 0, 4, 1⟩, ⟨R.LN_SPARE_CTRL_SELECT, 0, 5, 1⟩, ⟨R.LN_SPARE_CTRL_RELEASE, 0, 6, 1⟩]⟩) (by decide)]
    have hl := n.isLt
    exact State.writePriv_none hK (by decide) h _ _ _ _ _ (by unfold Reg.addr; dsimp only; omega) (by unfold Reg.addr; dsimp only; omega)
      (spareCtrl_none _ hl hn)

theorem execSpareSelectWrite_at (hK : Loose 0x1e600001c20000000000000000000000000000400000000000000000000000000000000000000000000002000000000000000000000000000000000000010000000000000000000000000800002e2c K) {s : State} (h : K s) (m : Master) (n : LaneIx) (w : Word) :
    ∃ z, execSpareSelectWrite m n w s = .next z ∧ K z := by
  refine ⟨_, rfl, ?_⟩
  by_cases hn : 256 ≤ n.val ∧ n.val < 272
  · exact State.regWrite_LN_SPARE_CTRL hK h _ _ hn
  · unfold State.regWrite
    rw [find_of_id (r := ⟨RN.LN_SPARE_CTRL, 0x1000070, 256, 16, 0x10000, .single, [⟨R.LN_SPARE_CTRL_TARGET, 0, 0, 4⟩, ⟨R.LN_SPARE_CTRL_PREP, 0, 4, 1⟩, ⟨R.LN_SPARE_CTRL_SELECT, 0, 5, 1⟩, ⟨R.LN_SPARE_CTRL_RELEASE, 0, 6, 1⟩]⟩) (by decide)]
    have hl := n.isLt
    exact State.writePriv_none hK (by decide) h _ _ _ _ _ (by unfold Reg.addr; dsimp only; omega) (by unfold Reg.addr; dsimp only; omega)
      (spareCtrl_none _ hl hn)

theorem execSpareReleaseWrite_at (hK : Loose 0x1e600001c20000000000000000000000000000400000000000000000000000000000000000000000000002000000000000000000000000000000000000010000000000000000000000000800002e2c K) {s : State} (h : K s) (m : Master) (n : LaneIx) (w : Word) :
    ∃ z, execSpareReleaseWrite m n w s = .next z ∧ K z := by
  refine ⟨_, rfl, ?_⟩
  by_cases hn : 256 ≤ n.val ∧ n.val < 272
  · exact State.regWrite_LN_SPARE_CTRL hK h _ _ hn
  · unfold State.regWrite
    rw [find_of_id (r := ⟨RN.LN_SPARE_CTRL, 0x1000070, 256, 16, 0x10000, .single, [⟨R.LN_SPARE_CTRL_TARGET, 0, 0, 4⟩, ⟨R.LN_SPARE_CTRL_PREP, 0, 4, 1⟩, ⟨R.LN_SPARE_CTRL_SELECT, 0, 5, 1⟩, ⟨R.LN_SPARE_CTRL_RELEASE, 0, 6, 1⟩]⟩) (by decide)]
    have hl := n.isLt
    exact State.writePriv_none hK (by decide) h _ _ _ _ _ (by unfold Reg.addr; dsimp only; omega) (by unfold Reg.addr; dsimp only; omega)
      (spareCtrl_none _ hl hn)

theorem execBentRetime_at (hK : Loose 0x1e600001c200000000000000000000000de000400000000000000000000000000000000000000000000002000000000000000000000000000000000000000000000000000000000100000901230e2c K) {s : State} (h : K s) (m : Master) (b : BentIx) (w : Word) :
    ∃ z, execBentRetime m b w s = .next z ∧ K z :=
  ⟨_, rfl, State.regWrite_BNT_CTRL hK h _ _ ⟨Nat.zero_le _, b.isLt⟩⟩

theorem execCompile_at (hK : Loose 0x1e600001c2000000000000000003b8000de000400000000000000000000000000000000000000000191fe2001000000000000000000000000000000000000000000000000000000100000903110e2c K) {s : State} (h : K s) (m : Master) (w : Word) :
    ∃ z, execCompile m w s = .next z ∧ K z :=
  ⟨_, rfl, State.regWrite_CUT_CTRL hK h _ _⟩

theorem execApply_at (hK : Loose 0x1e600001c2000000000000000003b8000de000400000000000000000000000000000000000000000191fe2001000000000000000000000000000000000000000000000000000000100000903110e2c K) {s : State} (h : K s) (m : Master) (w : Word) :
    ∃ z, execApply m w s = .next z ∧ K z :=
  ⟨_, rfl, State.regWrite_CUT_CTRL hK h _ _⟩

theorem execGo_at (hK : Loose 0x1e600001c2000000000000000003b8000de000400000000000000000000000000000000000000000191fe2001000000000000000000000000000000000000000000000000000000100000903110e2c K) {s : State} (h : K s) (m : Master) (w : Word) :
    ∃ z, execGo m w s = .next z ∧ K z :=
  ⟨_, rfl, State.regWrite_CUT_CTRL hK h _ _⟩

theorem execAbort_at (hK : Loose 0x1e600001c2000000000000000003b8000de000400000000000000000000000000000000000000000191fe2001000000000000000000000000000000000000000000000000000000100000903110e2c K) {s : State} (h : K s) (m : Master) (w : Word) :
    ∃ z, execAbort m w s = .next z ∧ K z :=
  ⟨_, rfl, State.regWrite_CUT_CTRL hK h _ _⟩

theorem execSceneGo_at (hK : Loose 0x1e600001c20000000000000000000000000000400000000000000000000000000000000000000000000002000000000000000000000000000000000000000000000000000000000000000804000e2c K) {s : State} (h : K s) (m : Master) (w : Word) :
    ∃ z, execSceneGo m w s = .next z ∧ K z :=
  ⟨_, rfl, State.regWrite_CUT_SCN_CMD hK h _ _⟩

theorem execReplaceGo_at (hK : Loose 0x1e600001c200000000000000000000000de000400000000000000000000000000000000000000000000002001000000000000000000000000000000000000000000000000000000100000902000e2c K) {s : State} (h : K s) (m : Master) (w : Word) :
    ∃ z, execReplaceGo m w s = .next z ∧ K z :=
  ⟨_, rfl, State.regWrite_SCB_REPL_CTRL hK h _ _⟩

theorem execWtrClear_at (hK : Loose 0x1e600001c200000000000000000000000de000400000000000000000000000000000400000000000000002000000000000000000000000000000000000000000000000000000000100000900000e2c K) {s : State} (h : K s) (m : Master) (g : GroupIx) (w : Word) :
    ∃ z, execWtrClear m g w s = .next z ∧ K z :=
  ⟨_, rfl, State.regWrite_SCF_GCFG hK h _ _ ⟨Nat.zero_le _, g.isLt⟩⟩

theorem execForce_at (hK : Loose 0x10000000001e600001c20000000000000000000000000000400000000000000007980000400000000000000000000002000000000000000000000000000000000000000000000000000000000200000880000f2c K) {s : State} (h : K s) (m : Master) (w : Word) :
    ∃ z, execForce m w s = .next z ∧ K z :=
  ⟨_, rfl, State.regWrite_PLB_CTRL hK h _ _⟩

theorem execManual_at (hK : Loose 0x10000000001e600001c20000000000000000000000000000400000000000000007980000400000000000000000000002000000000000000000000000000000000000000000000000000000000200000880000f2c K) {s : State} (h : K s) (m : Master) (w : Word) :
    ∃ z, execManual m w s = .next z ∧ K z :=
  ⟨_, rfl, State.regWrite_PLB_CTRL hK h _ _⟩

theorem execClear_at (hK : Loose 0x10000000001e600001c20000000000000000000000000000400000000000000007980000400000000000000000000002000000000000000000000000000000000000000000000000000000000200000880000f2c K) {s : State} (h : K s) (m : Master) (w : Word) :
    ∃ z, execClear m w s = .next z ∧ K z :=
  ⟨_, rfl, State.regWrite_PLB_CTRL hK h _ _⟩

theorem execRealign_at (hK : Loose 0x10000000001e600001c20000000000000000000000000000400000000000000007980000400000000000000000000002000000000000000000000000000000000000000000000000000000000200000880000f2c K) {s : State} (h : K s) (m : Master) (w : Word) :
    ∃ z, execRealign m w s = .next z ∧ K z :=
  ⟨_, rfl, State.regWrite_PLB_CTRL hK h _ _⟩

theorem execLearnReset_at (hK : Loose 0x10000000001e600001c20000000000000000000000000000400000000000000007980000400000000000000000000002000000000000000000000000000000000000000000000000000000000200000880000f2c K) {s : State} (h : K s) (m : Master) (w : Word) :
    ∃ z, execLearnReset m w s = .next z ∧ K z :=
  ⟨_, rfl, State.regWrite_PLB_CTRL hK h _ _⟩

theorem execSwitch_at (hK : Loose 0x1e600001c2000000000000000000001e08e000429000000000000000000000000000000000000000000002000000000000000000000000000000000000000000000000000000000000000900000e2c K) {s : State} (h : K s) (m : Master) (w : Word) :
    ∃ z, execSwitch m w s = .next z ∧ K z :=
  ⟨_, rfl, State.regWrite_MAT_CTRL hK h _ _⟩

theorem execRejoin_at (hK : Loose 0x1e600001c2000000000000000000001e08e000429000000000000000000000000000000000000000000002000000000000000000000000000000000000000000000000000000000000000900000e2c K) {s : State} (h : K s) (m : Master) (w : Word) :
    ∃ z, execRejoin m w s = .next z ∧ K z :=
  ⟨_, rfl, State.regWrite_MAT_CTRL hK h _ _⟩

theorem execRecopy_at (hK : Loose 0x1e600001c2000000000000000000001e08e000429000000000000000000000000000000000000000000002000000000000000000000000000000000000000000000000000000000000000900000e2c K) {s : State} (h : K s) (m : Master) (w : Word) :
    ∃ z, execRecopy m w s = .next z ∧ K z :=
  ⟨_, rfl, State.regWrite_MAT_CTRL hK h _ _⟩

theorem execConfirm_at (hK : Loose 0x1e600001c2000000e0503c0008040000000000400000000000000000000000000000000000000000000002000000000000000000000000000000000000000000000000000000000006000e00000e2c K) {s : State} (h : K s) (m : Master) (w : Word) :
    ∃ z, execConfirm m w s = .next z ∧ K z :=
  ⟨_, rfl, State.regWrite_IMG_CTRL hK h _ _⟩

theorem execVerify_at (hK : Loose 0x1e600001c2000000e0503c0008040000000000400000000000000000000000000000000000000000000002000000000000000000000000000000000000000000000000000000000006000e00000e2c K) {s : State} (h : K s) (m : Master) (w : Word) :
    ∃ z, execVerify m w s = .next z ∧ K z :=
  ⟨_, rfl, State.regWrite_IMG_CTRL hK h _ _⟩

theorem execProgram_at (hK : Loose 0x1e600001c2000000e0503c0008040000000000400000000000000000000000000000000000000000000002000000000000000000000000000000000000000000000000000000000006000e00000e2c K) {s : State} (h : K s) (m : Master) (w : Word) :
    ∃ z, execProgram m w s = .next z ∧ K z :=
  ⟨_, rfl, State.regWrite_IMG_CTRL hK h _ _⟩

theorem execSvnBurn_at (hK : Loose 0x1e600001c2000000e0503c0008040000000000400000000000000000000000000000000000000000000002000000000000000000000000000000000000000000000000000000000006000e00000e2c K) {s : State} (h : K s) (m : Master) (w : Word) :
    ∃ z, execSvnBurn m w s = .next z ∧ K z :=
  ⟨_, rfl, State.regWrite_IMG_CTRL hK h _ _⟩

theorem execRecoverGo_at (hK : Loose 0x1e600001c2000000e0503c0008040000000000400000000000000000000000000000000000000000000002000000000000000000000000000000000000000000000000000000000006000e00000e2c K) {s : State} (h : K s) (m : Master) (w : Word) :
    ∃ z, execRecoverGo m w s = .next z ∧ K z :=
  ⟨_, rfl, State.regWrite_IMG_CTRL hK h _ _⟩

theorem execImgAbort_at (hK : Loose 0x1e600001c2000000e0503c0008040000000000400000000000000000000000000000000000000000000002000000000000000000000000000000000000000000000000000000000006000e00000e2c K) {s : State} (h : K s) (m : Master) (w : Word) :
    ∃ z, execImgAbort m w s = .next z ∧ K z :=
  ⟨_, rfl, State.regWrite_IMG_CTRL hK h _ _⟩

theorem execImgBootWrite_at (hK : Loose 0x1e600001c20000000000000300040000000000400000000000000000000000000000000000000000000002000000000000000000000000000000000000000000000000000000000002000800000e2c K) {s : State} (h : K s) (m : Master) (w : Word) :
    ∃ z, execImgBootWrite m w s = .next z ∧ K z :=
  ⟨_, rfl, State.regWrite_IMG_BOOT hK h _ _⟩

theorem execClaim_at (hK : Loose 0x1e600001c3c000000000000000000000000000400000000000000000000000000000000000000000000002000000000000000000000000000000000000000000000000000000000000001800000e2c K) {s : State} (h : K s) (m : Master) (w : Word) :
    ∃ z, execClaim m w s = .next z ∧ K z :=
  ⟨_, rfl, State.regWrite_MGT_OWN_OP hK h _ _⟩

theorem execRenew_at (hK : Loose 0x1e600001c3c000000000000000000000000000400000000000000000000000000000000000000000000002000000000000000000000000000000000000000000000000000000000000001800000e2c K) {s : State} (h : K s) (m : Master) (w : Word) :
    ∃ z, execRenew m w s = .next z ∧ K z :=
  ⟨_, rfl, State.regWrite_MGT_OWN_OP hK h _ _⟩

theorem execRelease_at (hK : Loose 0x1e600001c3c000000000000000000000000000400000000000000000000000000000000000000000000002000000000000000000000000000000000000000000000000000000000000001800000e2c K) {s : State} (h : K s) (m : Master) (w : Word) :
    ∃ z, execRelease m w s = .next z ∧ K z :=
  ⟨_, rfl, State.regWrite_MGT_OWN_OP hK h _ _⟩

theorem execHandover_at (hK : Loose 0x1e600001c3c000000000000000000000000000400000000000000000000000000000000000000000000002000000000000000000000000000000000000000000000000000000000000001800000e2c K) {s : State} (h : K s) (m : Master) (w : Word) :
    ∃ z, execHandover m w s = .next z ∧ K z :=
  ⟨_, rfl, State.regWrite_MGT_OWN_OP hK h _ _⟩

theorem execCommitGo_at (hK : Loose 0x1e600001c20000800000000000000000000000400000000000000000000000000000000000000000000002000000000000000000000000000000000000000000000000000000000000000800000e2c K) {s : State} (h : K s) (m : Master) (w : Word) :
    ∃ z, execCommitGo m w s = .next z ∧ K z :=
  ⟨_, rfl, State.regWrite_DEV_COMMIT hK h _ _⟩

theorem execDiscard_at (hK : Loose 0x1e600001c20000800000000000000000000000400000000000000000000000000000000000000000000002000000000000000000000000000000000000000000000000000000000000000800000e2c K) {s : State} (h : K s) (m : Master) (w : Word) :
    ∃ z, execDiscard m w s = .next z ∧ K z :=
  ⟨_, rfl, State.regWrite_DEV_COMMIT hK h _ _⟩

theorem execMsixEoi_at (hK : Loose 0x1e600001c20000000000000000000000000000400000000000000000000000000000000000000000000002000000000000000000000000000000000000000000000000000000000000000800000e2c K) {s : State} (h : K s) (m : Master) (p : Port) (w : Word) :
    ∃ z, execMsixEoi m p w s = .next z ∧ K z :=
  ⟨_, rfl, State.regWrite_MGT_PORTp_EOI hK h _ _ ⟨Nat.zero_le _, p.isLt⟩⟩

theorem execSnapGo_at (hK : Loose 0x10000000000001e600001c20000000000000000000000000000400000000000000000000000000000000000000000000002000000000000000000000000000000000000000000000000000000000000100800000e2c K) {s : State} (h : K s) (m : Master) (w : Word) :
    ∃ z, execSnapGo m w s = .next z ∧ K z :=
  ⟨_, rfl, State.regWrite_CNT_SNAP hK h _ _⟩

theorem execClearGo_at (hK : Loose 0xa0000000000001e600001c20000000000000000000000000000400000000000000000000000000000000000000000000002000000000000000000000000000000000000000000000000000000000000400800000e2c K) {s : State} (h : K s) (m : Master) (w : Word) :
    ∃ z, execClearGo m w s = .next z ∧ K z :=
  ⟨_, rfl, State.regWrite_CNT_CLR_CTRL hK h _ _⟩

theorem execPop_at (hK : Loose 0x1e600001c20000000000000000000000000000400000000000000000000000000000000000000000000002000000000000000000000000000000000000000000000000000000000001000800000e2c K) {s : State} (h : K s) (m : Master) (w : Word) :
    ∃ z, execPop m w s = .next z ∧ K z :=
  ⟨_, rfl, State.regWrite_PEG_CTRL hK h _ _⟩

theorem execLcGo_at (hK : Loose 0x800000000000000000000000000001e600001c20000000000000000000000000000400000000000000000000000000000000000000000000002000000000000000000000000000000000000000000000000000000000002000800000e2c K) {s : State} (h : K s) (m : Master) (w : Word) :
    ∃ z, execLcGo m w s = .next z ∧ K z :=
  ⟨_, rfl, State.regWrite_TLY_LC_CTRL hK h _ _⟩

theorem execTunnelGo_at (hK : Loose 0x1e600c01c20000000000000000000000000000400000000000000000000000000000000000000000000002000000000000000000000000000000000000000000000000000000000000004800000e2c K) {s : State} (h : K s) (m : Master) (w : Word) :
    ∃ z, execTunnelGo m w s = .next z ∧ K z :=
  ⟨_, rfl, State.regWrite_MGT_TUN_CTRL hK h _ _⟩

/-! ### Commands that write a register or a lock word of their own -/

theorem State.regWrite_DDR_CHn_CTRL (hK : Loose 0x45000000001e600001c20000000000000000000000000000400000000000000000000000000000000000000000000002000000000000000000000000000000000000000000000000000000000000020800000e2c K) {s : State} (h : K s) (n w : Nat) {i : Nat} (hi : 0 ≤ i ∧ i < 8) :
    K (s.regWrite n RN.DDR_CHn_CTRL i w) := by
  refine State.regWrite_at (r := ⟨RN.DDR_CHn_CTRL, 0x50100, 0, 8, 0x10, .single, [⟨R.DDR_CHn_CTRL_RETRAIN, 0, 0, 1⟩]⟩) hK (by decide) h n w (by decide)
    (show 0 ≤ i from hi.1) (show i < 0 + 8 from by omega) (by decide) (by unfold Reg.addr; dsimp only; omega)
    (by unfold Reg.addr; dsimp only; omega) (by decide) ?_ ?_
  · intro t ht u v
    unfold State.writeEffect
    iterate 18 rw [if_neg (by decide)]
    rw [if_pos rfl]
    exact State.retrainCtrl_k (hK.mono (by decide)) ht _ _
  · intro t ht
    unfold State.journalWrite
    rw [if_neg]
    · exact ht
    · rintro (⟨e, -⟩ | ⟨e, -⟩ | ⟨e, -⟩ | e) <;> exact absurd e (by decide)

theorem State.regWrite_CNT_Bc_LO (hK : Loose 0x20000000000000000000001e600001c20000000000000000000000000000400000000000000000000000000000000000000000000002000000000000000000000000000000000000000000000000000000000000000800000e2c K) {s : State} (h : K s) (n w : Nat) {i : Nat} (hi : 0 ≤ i ∧ i < 16384) :
    K (s.regWrite n RN.CNT_Bc_LO i w) := by
  refine State.regWrite_at (r := ⟨RN.CNT_Bc_LO, 0x6000004, 0, 16384, 0x10, .low, [⟨R.CNT_Bc_COUNT, 0, 0, 32⟩]⟩) hK (by decide) h n w (by decide)
    (show 0 ≤ i from hi.1) (show i < 0 + 16384 from by omega) (by decide) (by unfold Reg.addr; dsimp only; omega)
    (by unfold Reg.addr; dsimp only; omega) (by decide) ?_ ?_
  · intro t ht u v
    unfold State.writeEffect
    iterate 24 rw [if_neg (by decide)]
    exact ht
  · intro t ht
    unfold State.journalWrite
    rw [if_neg]
    · exact ht
    · rintro (⟨e, -⟩ | ⟨e, -⟩ | ⟨e, -⟩ | e) <;> exact absurd e (by decide)

theorem State.regWrite_CNT_Bc_HI (hK : Loose 0x20000000080000000000001e600001c20000000000000000000000000000400000000000000000000000000000000000000000000002000000000000000000000000000000000000000000000000000000000000000880000fac K) {s : State} (h : K s) (n w : Nat) {i : Nat} (hi : 0 ≤ i ∧ i < 16384) :
    K (s.regWrite n RN.CNT_Bc_HI i w) := by
  have hr : (⟨RN.CNT_Bc_HI, 0x6000008, 0, 16384, 0x10, .high, [⟨R.CNT_Bc_COUNT, 32, 0, 16⟩]⟩ : Reg) ∈ regTable := by decide
  have hl : (⟨RN.CNT_Bc_LO, 0x6000004, 0, 16384, 0x10, .low, [⟨R.CNT_Bc_COUNT, 0, 0, 32⟩]⟩ : Reg) ∈ regTable := by decide
  have ha : Reg.addr ⟨RN.CNT_Bc_HI, 0x6000008, 0, 16384, 0x10, .high, [⟨R.CNT_Bc_COUNT, 32, 0, 16⟩]⟩ i - 4
      = Reg.addr ⟨RN.CNT_Bc_LO, 0x6000004, 0, 16384, 0x10, .low, [⟨R.CNT_Bc_COUNT, 0, 0, 32⟩]⟩ i := by
    unfold Reg.addr
    dsimp only
    omega
  unfold State.regWrite
  rw [find_of_id hr]
  refine State.writePriv_half hK (by decide) h n w false none hr (show 0 ≤ i from hi.1) (show i < 0 + 16384 from by omega)
    (by unfold Reg.addr; dsimp only; omega) (by unfold Reg.addr; dsimp only; omega) (by decide) ?_ ?_ ?_ ?_
  · intro q j _ hf
    rw [ha, findReg_addr hl (show 0 ≤ i from hi.1) (show i < 0 + 16384 from by omega)] at hf
    obtain ⟨rfl, -⟩ := Prod.mk.inj (Option.some.inj hf)
    decide
  · intro _ t ht
    exact State.bankSettle_k (hK.mono (by decide)) ht _
  · intro t ht u v
    unfold State.writeEffect
    iterate 21 rw [if_neg (by decide)]
    rw [if_pos rfl]
    exact State.bankWritten_k (hK.mono (by decide)) ht _
  · intro t ht
    unfold State.journalWrite
    rw [if_neg]
    · exact ht
    · rintro (⟨e, -⟩ | ⟨e, -⟩ | ⟨e, -⟩ | e) <;> exact absurd e (by decide)

theorem execLiveGo_at (hK : Loose 0x1e600001c2000000e0503c0008040000000000400000000000000000000000000000000000000000000002000000000000000000000000000000000000000000000000000000000006000e00000e2c K) {s : State} (h : K s) (m : Master) (w : Word) (img : ImageBytes) :
    ∃ z, execLiveGo m w img s = .next z ∧ K z :=
  ⟨_, rfl, State.writePriv_IMG_CTRL hK h _ _ _⟩

theorem execDdrRetrain_at (hK : Loose 0x45000000001e600001c20000000000000000000000000000400000000000000000000000000000000000000000000002000000000000000000000000000000000000000000000000000000000000020800000e2c K) {s : State} (h : K s) (n : Fin 8) (why : RetrainCause) :
    ∃ z, execDdrRetrain n why s = .next z ∧ K z := by
  refine ⟨_, rfl, ?_⟩
  cases why with
  | write m w => exact State.regWrite_DDR_CHn_CTRL (hK.mono (by decide)) h _ _ ⟨Nat.zero_le _, n.isLt⟩
  | corrected => exact ite_k (State.retrain_k (hK.mono (by decide)) h _) h
  | temperature t => exact ite_k (State.retrain_k (hK.mono (by decide)) h _) h

theorem execBankCounterWrite_at (hK : Loose 0x20000000080000000000001e600001c20000000000000000000000000000400000000000000000000000000000000000000000000002000000000000000000000000000000000000000000000000000000000000000880000fac K) {s : State} (h : K s) (m : Master) (c : Fin 16384) (low : Option Word) (high : Word)
    (events : Nat) : ∃ z, execBankCounterWrite m c low high events s = .next z ∧ K z := by
  refine ⟨_, rfl, ?_⟩
  have hi : 0 ≤ c.val ∧ c.val < 16384 := ⟨Nat.zero_le _, c.isLt⟩
  have h1 : K (match low with
      | some l => s.regWrite m.val RN.CNT_Bc_LO c.val l.toNat
      | none => s) := by
    cases low with
    | none => exact h
    | some l => exact State.regWrite_CNT_Bc_LO (hK.mono (by decide)) h _ _ hi
  have h2 := State.regWrite_CNT_Bc_HI (hK.mono (by decide)) h1 m.val high.toNat hi
  refine ite_k h2 (ite_k (State.bankAddWritten_k (hK.mono (by decide)) h2 _ _) (ite_k h2 (State.bankAdd_k (hK.mono (by decide)) h2 _ _)))

theorem place_lock : ∀ k : Fin 64, place (lockAddr k.val) = .mailbox (0x40000 + 4 * k.val) ∧ lockAt (0x40000 + 4 * k.val) = some k.val := by
  decide +kernel

theorem execLockRelease_at (hK : Loose 0x201e600001c20000000000000000000000000000400000000000000000000000000000000000000000000002000000000000000000000000000000000000000000000000000000000400000800000e2c K) {s : State} (h : K s) (m : Master) (k : Fin 64) (w : Word) :
    ∃ z, execLockRelease m k w s = .next z ∧ K z := by
  refine ⟨_, rfl, ?_⟩
  have hdef : K (s.defaultWrite m.val (lockAddr k.val)) := State.defaultWrite_k (hK.mono (by decide)) h _ _
  unfold State.hostWrite State.writePriv
  split
  · exact State.reportAbort_k (hK.mono (by decide)) (State.tooEarly_k (hK.mono (by decide)) h _) _
  · exact hdef
  · exact ite_k hdef (State.dropWrite_k (hK.mono (by decide)) h _ _)
  · refine ite_k hdef ?_
    rw [(place_lock k).1]
    unfold State.writePlace
    dsimp only
    rw [(place_lock k).2]
    exact State.answer_k (hK.mono (by decide)) (State.lockWrite_k (hK.mono (by decide)) (State.park_k (hK.mono (by decide)) h _ _) _ _ _) _ _

end Sys2Proof.Machine
end

