-- ==== Sys2Proof/Laws/Exec.lean ====
section
/-! SUPPORT. What a command may change, for every property at once: a property loose on the mask of a command's footprint is kept by the command.
The properties that claims speak of are loose: a field or a part that is not named, the canonical form of memory, the forward-only fuses. -/

set_option Elab.async false

namespace Sys2Proof.Machine

/-- The mask of a footprint (Laws/Loose.lean): bit 64 + k for the field numbered k, bit 63 for any field, bit k for the k-th part of the state, the
bits of the parts of the memory where the memory is named, and bit 60 for a fresh start where every part is named that begins afresh. -/
def Part.bit : Part → Nat
  | .staged => 2
  | .perMaster => 3
  | .latHigh => 4
  | .heldLow => 5
  | .frameCycle => 6
  | .cycle => 7
  | .free => 8
  | .resp => 9
  | .ringQ => 10
  | .logQ => 11
  | .mem => 12
  | .lanes => 13
  | .sill => 14
  | .sched => 15
  | .tap => 16
  | .longMem => 17
  | .retPages => 18
  | .plate => 19
  | .links => 20
  | .actions => 21
  | .pauses => 22
  | .mdlyHeld => 23
  | .chg => 24
  | .queued => 25
  | .scnTrig => 26
  | .scnQ => 27
  | .mrecHeld => 28
  | .sides => 29
  | .groups => 30
  | .plumb => 31
  | .mate => 32
  | .fuses => 33
  | .raise => 34
  | .pcie => 35
  | .own => 36
  | .sampled => 37
  | .tunnel => 38
  | .spiQuad => 39
  | .snd => 40
  | .ddr => 41
  | .snapFixed => 42
  | .chainHeld => 43
  | .snapAt => 44
  | .snapped => 45
  | .clear => 46
  | .archive => 47
  | .pegs => 48
  | .tally => 49
  | .tallyQ => 50
  | .tallySecond => 51
  | .tallyLost => 52
  | .sist => 53
  | .guarding => 54
  | .tallyRaw => 55

/-- The mask that names the listed bits. -/
def maskOf : List Nat → Nat
  | [] => 0
  | b :: t => maskOf t ||| 1 <<< b

theorem testBit_maskOf (l : List Nat) (k : Nat) : (maskOf l).testBit k = l.contains k := by
  induction l with
  | nil => simp [maskOf]
  | cons b t ih =>
    rw [maskOf, Nat.testBit_or, ih, Nat.one_shiftLeft, Nat.testBit_two_pow, List.contains_cons, Bool.or_comm]
    congr 1
    exact decide_eq_decide.mpr eq_comm

/-- The mask of every field. -/
def anyMask : Nat := 2 ^ 1100 - 2 ^ 63

/-- The mask of a footprint. -/
def Footprint.mask (p : Footprint) : Nat :=
  maskOf (1 :: p.fields.map (fun f => 64 + f.id) ++ p.parts.map Part.bit ++ (if Part.afresh.all p.parts.contains then [0, 60] else [])
      ++ (if p.parts.contains .mem then [56, 57, 58, 59, 61, 62] else []))
    ||| (if p.anyField then anyMask else 0)

variable {K : State → Prop} {s : State}

theorem masks_sub0 :
    (0x488010c22a1000000080000008050000000000003e00280000020000000001ffdffe04ed0070002bfc007b840000bbf000050200000000800000000000007d40000000010000000000009ffa1e1000000700100020801896f0377e3332d86 : Nat) &&& tickTouches.mask = 0x488010c22a1000000080000008050000000000003e00280000020000000001ffdffe04ed0070002bfc007b840000bbf000050200000000800000000000007d40000000010000000000009ffa1e1000000700100020801896f0377e3332d86
    ∧ (0x8000400200000000b0055000000201e600c01c3c00080e0503c000807b81e0de000429000000000000007980000400000400000000008191fe200100000000000000000014000000009ffb1e00090003061a01a0b4087a7525f87333fac : Nat) &&& registerWriteTouches.mask = 0x8000400200000000b0055000000201e600c01c3c00080e0503c000807b81e0de000429000000000000007980000400000400000000008191fe200100000000000000000014000000009ffb1e00090003061a01a0b4087a7525f87333fac
    ∧ (0x10000000001e600000000000000000200000000000000000000000000000000000000000000000000000000000000000000000000000000000000000000000000000000000000000000000000401080090800fd0 : Nat) &&& pairLowReadTouches.mask = 0x10000000001e600000000000000000200000000000000000000000000000000000000000000000000000000000000000000000000000000000000000000000000000000000000000000000000401080090800fd0
    ∧ (0x10000000001e600000000000000000200000000000000000000000000000000000000000000000000000000000000000000000000000000000000000000000000000000000000000000000000401080090800fd0 : Nat) &&& devFrameReadTouches.mask = 0x10000000001e600000000000000000200000000000000000000000000000000000000000000000000000000000000000000000000000000000000000000000000000000000000000000000000401080090800fd0
    ∧ (0x1e600001c2000000000000000000000000000040000000000000000000000000000000000000000000000200000000000000000000000000000000000000000000000000000b580000000800000e2c : Nat) &&& latqGoTouches.mask = 0x1e600001c2000000000000000000000000000040000000000000000000000000000000000000000000000200000000000000000000000000000000000000000000000000000b580000000800000e2c
    ∧ (0x1f4c00000000000000100 : Nat) &&& latqDoneTouches.mask = 0x1f4c00000000000000100
    ∧ (0x42220000000080000000000001e40000000000000000000000000001e0000000c000000000000000000000000000000000000000800000000000000000000000000137d60260009ffb1f0f893f03041a01a00002024000100006f00 : Nat) &&& rxRowTouches.mask = 0x42220000000080000000000001e40000000000000000000000000001e0000000c000000000000000000000000000000000000000800000000000000000000000000137d60260009ffb1f0f893f03041a01a00002024000100006f00
    ∧ (0x42220000000080000000000001e40000000000000000000000000001e0000000c000000000000000000000000000000000000000800000000000000000000000000137fffff7c09ffb1f0f890003041a01a00002024000100006f00 : Nat) &&& rxFrameTouches.mask = 0x42220000000080000000000001e40000000000000000000000000001e0000000c000000000000000000000000000000000000000800000000000000000000000000137fffff7c09ffb1f0f890003041a01a00002024000100006f00
    ∧ (0x80080000000000000000000000000000000000000c00 : Nat) &&& ssmAcceptTouches.mask = 0x80080000000000000000000000000000000000000c00
    ∧ (0x2000000080000000000000000000000000000000000004c00 : Nat) &&& pageWindowCloseTouches.mask = 0x2000000080000000000000000000000000000000000004c00
    ∧ (0x9ffa0000000003040000000000020000000002c00 : Nat) &&& losDeclareTouches.mask = 0x9ffa0000000003040000000000020000000002c00
    ∧ (0x800000000000000000000000000000000000009ffa0000000000000000000000020000000002c00 : Nat) &&& losClearTouches.mask = 0x800000000000000000000000000000000000009ffa0000000000000000000000020000000002c00 := by decide +kernel

theorem masks_sub1 :
    (0x1000000000000000000000000000000000000000000de0004000000000000000000000000000000000000000000000000000060804000800080000000000000000000000000000000000000001200001013f0d80 : Nat) &&& centreSweepTouches.mask = 0x1000000000000000000000000000000000000000000de0004000000000000000000000000000000000000000000000000000060804000800080000000000000000000000000000000000000001200001013f0d80
    ∧ (0x8220000000000000000000000000000000000000000000000000000000000004e9000000000000000000000000000000000000000000000000001f24400000000000000000000000000000000000000000000000024000100000d84 : Nat) &&& kerfCheckTouches.mask = 0x8220000000000000000000000000000000000000000000000000000000000004e9000000000000000000000000000000000000000000000000001f24400000000000000000000000000000000000000000000000024000100000d84
    ∧ (0x1000000020000 : Nat) &&& longPathTapTouches.mask = 0x1000000020000
    ∧ (0x100000000000000000000000000000000000000000000000000000000000000000000000000000000000000000000000000004000400000000000000000000000000000000000000000000000000000000040d00 : Nat) &&& longPathReturnTouches.mask = 0x100000000000000000000000000000000000000000000000000000000000000000000000000000000000000000000000000004000400000000000000000000000000000000000000000000000000000000040d00
    ∧ (0x40020000000080000000000000000000000000000000000000000000000000000000000000000000000000000004f100028081f480000000000000004000000000001400000000fffb1e000900fb041a03e00000021000060002c00 : Nat) &&& txFrameTouches.mask = 0x40020000000080000000000000000000000000000000000000000000000000000000000000000000000000000004f100028081f480000000000000004000000000001400000000fffb1e000900fb041a03e00000021000060002c00
    ∧ (0x40000000000000000000000000000000000000000000000000000000000000000000000020000c00 : Nat) &&& grnFaultClearTouches.mask = 0x40000000000000000000000000000000000000000000000000000000000000000000000020000c00
    ∧ (0x200000000020000000002000 : Nat) &&& signalExitTouches.mask = 0x200000000020000000002000
    ∧ (0x200000000020000000002000 : Nat) &&& tuneExitTouches.mask = 0x200000000020000000002000
    ∧ (0x20000000003070200000000020000400002c00 : Nat) &&& serviceEnterTouches.mask = 0x20000000003070200000000020000400002c00
    ∧ (0x40000000000000000000000000000000000000000000000000000000000000000000000000000000000000000000000000000000000000000000000000000000000014000000009ffb1e00000003073201a00000020000000002c00 : Nat) &&& fitTimeoutTouches.mask = 0x40000000000000000000000000000000000000000000000000000000000000000000000000000000000000000000000000000000000000000000000000000000000014000000009ffb1e00000003073201a00000020000000002c00
    ∧ (0x40000000000000000000000000000000000000000000000000000000000000000000000000000000000000000000000000000000800000000000000000000000000014000000009ffb1e00090003041a01a00000020000000002c00 : Nat) &&& backoffExpiryTouches.mask = 0x40000000000000000000000000000000000000000000000000000000000000000000000000000000000000000000000000000000800000000000000000000000000014000000009ffb1e00090003041a01a00000020000000002c00
    ∧ (0x40000000000000000000000000000000000000000000000000000000000000000000000000000000000000000000000000000000800000000000000000000000000014000000009ffb1e00093ffb04da01a00000020000000002d00 : Nat) &&& trainingRowTouches.mask = 0x40000000000000000000000000000000000000000000000000000000000000000000000000000000000000000000000000000000800000000000000000000000000014000000009ffb1e00093ffb04da01a00000020000000002d00 := by decide +kernel

theorem masks_sub2 :
    (0xc800000000000000000002000 : Nat) &&& discoveryRowTouches.mask = 0xc800000000000000000002000
    ∧ (0x40000000000000000000000001e600001c2000000000000000000000000000040000000000000000000000000000000000000000800000200000000000000000000014000000009ffb1e000900fb061b89a00000020000800002e2c : Nat) &&& fitEnableWriteTouches.mask = 0x40000000000000000000000001e600001c2000000000000000000000000000040000000000000000000000000000000000000000800000200000000000000000000014000000009ffb1e000900fb061b89a00000020000800002e2c
    ∧ (0x9ffa010f800003040000000000020000000002c00 : Nat) &&& identTouches.mask = 0x9ffa010f800003040000000000020000000002c00
    ∧ (0x2000 : Nat) &&& serviceGoTouches.mask = 0x2000
    ∧ (0x400000000000000000000000000000000000000000000000000000000000000000000000000000000000000000000000000000000000000000000000000000000000000000000000000600000000000000000000000000000006000 : Nat) &&& sparePrepTouches.mask = 0x400000000000000000000000000000000000000000000000000000000000000000000000000000000000000000000000000000000000000000000000000000000000000000000000000600000000000000000000000000000006000
    ∧ (0x400000000000000000000000000000000000000000000000000000000000000000000000000000000000000000000000000000000000000000000000000000000000000000000000001e00000000001000200000000000000002000 : Nat) &&& spareReleaseTouches.mask = 0x400000000000000000000000000000000000000000000000000000000000000000000000000000000000000000000000000000000000000000000000000000000000000000000000001e00000000001000200000000000000002000
    ∧ (0x40000000000000000000000000000000000000000000000000000000000000000000000000000000000000000000000000000000000000000000000000000000000014000000009ffb1e00000003041201a00000020000000006c00 : Nat) &&& ackTouches.mask = 0x40000000000000000000000000000000000000000000000000000000000000000000000000000000000000000000000000000000000000000000000000000000000014000000009ffb1e00000003041201a00000020000000006c00
    ∧ (0x3000000000000000000000002000 : Nat) &&& loopAutoRestoreTouches.mask = 0x3000000000000000000000002000
    ∧ (0x1e600001c20000000000000000000000000000400000000000000000000000000000000000000000000002000000000000000000000000000000000000000000003000000000000000000800002e2c : Nat) &&& loopRestoreTouches.mask = 0x1e600001c20000000000000000000000000000400000000000000000000000000000000000000000000002000000000000000000000000000000000000000000003000000000000000000800002e2c
    ∧ (0x30000000000000000000000000002000 : Nat) &&& goodSecondTouches.mask = 0x30000000000000000000000000002000
    ∧ (0x1d3f00040000000000020000000002c00 : Nat) &&& adaptRevertTouches.mask = 0x1d3f00040000000000020000000002c00
    ∧ (0x40000000000000000000000000002000 : Nat) &&& adaptHoldEndTouches.mask = 0x40000000000000000000000000002000 := by decide +kernel

theorem masks_sub3 :
    (0x1e600001c20000000000000000000000000000400000000000000000000000000000000000000000000002000000000000000000000000000000000000010000000000000000000000000800002e2c : Nat) &&& sparePrepWriteTouches.mask = 0x1e600001c20000000000000000000000000000400000000000000000000000000000000000000000000002000000000000000000000000000000000000010000000000000000000000000800002e2c
    ∧ (0x400000000040000000000000000000002c00 : Nat) &&& spareShadowReadyTouches.mask = 0x400000000040000000000000000000002c00
    ∧ (0x1800000000041000200000000000000002c00 : Nat) &&& spareSwitchTouches.mask = 0x1800000000041000200000000000000002c00
    ∧ (0x1e400000000000000000000000000000000000000000000000000000000000000000000000000000000000000000000000000000001300000000080000000000000000000000002000000000002e00 : Nat) &&& mchPacketRxTouches.mask = 0x1e400000000000000000000000000000000000000000000000000000000000000000000000000000000000000000000000000000001300000000080000000000000000000000002000000000002e00
    ∧ (0x10000000001e400000000000000000000000000000000000000000000000000000000000000000000000000000000000000000000000000000008000000000000000000000000000000000000000000000002e00 : Nat) &&& mchPacketTxTouches.mask = 0x10000000001e400000000000000000000000000000000000000000000000000000000000000000000000000000000000000000000000000000008000000000000000000000000000000000000000000000002e00
    ∧ (0x8000000000000000000000000000000000000000000000000100c00 : Nat) &&& memberJoinTouches.mask = 0x8000000000000000000000000000000000000000000000000100c00
    ∧ (0x40000000000000000400100008000000000000000000000000000000000000000000000121738c00 : Nat) &&& bentStepApplyTouches.mask = 0x40000000000000000400100008000000000000000000000000000000000000000000000121738c00
    ∧ (0x8000000000000000000000000000000000000000000000000400c00 : Nat) &&& bentGrowthEndTouches.mask = 0x8000000000000000000000000000000000000000000000000400c00
    ∧ (0x1e600001c200000000000000000000000de000400000000000000000000000000000000000000000000002000000000000000000000000000000000000000000000000000000000100000901230e2c : Nat) &&& bentRetimeTouches.mask = 0x1e600001c200000000000000000000000de000400000000000000000000000000000000000000000000002000000000000000000000000000000000000000000000000000000000100000901230e2c
    ∧ (0x1e600001c2000000000000000003b8000de000400000000000000000000000000000000000000000191fe2001000000000000000000000000000000000000000000000000000000100000903110e2c : Nat) &&& compileTouches.mask = 0x1e600001c2000000000000000003b8000de000400000000000000000000000000000000000000000191fe2001000000000000000000000000000000000000000000000000000000100000903110e2c
    ∧ (0x18020001000000000000000000000000000000000000000000000000000000000000003000000 : Nat) &&& compileStartTouches.mask = 0x18020001000000000000000000000000000000000000000000000000000000000000003000000
    ∧ (0x10000000000000000000000000000000000003b8000de0004000000000000000000000000000000000000000001d1f22005000000000000000000000000000000000000000000000000000000100000101130c00 : Nat) &&& compileDoneTouches.mask = 0x10000000000000000000000000000000000003b8000de0004000000000000000000000000000000000000000001d1f22005000000000000000000000000000000000000000000000000000000100000101130c00 := by decide +kernel

theorem masks_sub4 :
    (0x18022001000000000000000000000000000000000000000000000000000000000000001010c00 : Nat) &&& recompileTouches.mask = 0x18022001000000000000000000000000000000000000000000000000000000000000001010c00
    ∧ (0x3b8000de000400000000000000000000000000000000000000000190f22003000000000000000000000000000000000000000000000000000000100000101310c00 : Nat) &&& applyStartTouches.mask = 0x3b8000de000400000000000000000000000000000000000000000190f22003000000000000000000000000000000000000000000000000000000100000101310c00
    ∧ (0xde00040000000000000000000000000000051a000000040200000002000000400000008000000000000000000000000000000000000000100000161118c00 : Nat) &&& applyTickTouches.mask = 0xde00040000000000000000000000000000051a000000040200000002000000400000008000000000000000000000000000000000000000100000161118c00
    ∧ (0x10022001200000000000000000000000000000000000000000000000000000000000401010c00 : Nat) &&& changeDoneTouches.mask = 0x10022001200000000000000000000000000000000000000000000000000000000000401010c00
    ∧ (0x10000 : Nat) &&& tapClearTouches.mask = 0x10000
    ∧ (0x1e600001c20000000000000000000000000000400000000000000000000000000000000000000000000002000000000000000000000000000000000000000000000000000000000000000804000e2c : Nat) &&& sceneGoTouches.mask = 0x1e600001c20000000000000000000000000000400000000000000000000000000000000000000000000002000000000000000000000000000000000000000000000000000000000000000804000e2c
    ∧ (0x8000000000000000000000000000000000000000000000000000000000000000000000004000000 : Nat) &&& sceneDefectTriggerTouches.mask = 0x8000000000000000000000000000000000000000000000000000000000000000000000004000000
    ∧ (0x200000000000000000000000000000000000000000000000000000000000000000c000c00 : Nat) &&& sceneQueueTouches.mask = 0x200000000000000000000000000000000000000000000000000000000000000000c000c00
    ∧ (0x3b8000de000400000000000000000000000000000000000000000198f2200100000000000000000000000000000000000000000000000000000010000010b010c00 : Nat) &&& sceneStartTouches.mask = 0x3b8000de000400000000000000000000000000000000000000000198f2200100000000000000000000000000000000000000000000000000000010000010b010c00
    ∧ (0x1e600001c200000000000000000000000de000400000000000000000000000000000000000000000000002001000000000000000000000000000000000000000000000000000000100000902000e2c : Nat) &&& replaceGoTouches.mask = 0x1e600001c200000000000000000000000de000400000000000000000000000000000000000000000000002001000000000000000000000000000000000000000000000000000000100000902000e2c
    ∧ (0x823e10000000d0000008000000000000000007e8000000000000000000de000400002000297c0000000000000000051a00800000800000000000007840000000000000000000009ffa0000000003000000000048125b421c1002c06 : Nat) &&& scarfWindowEvalTouches.mask = 0x823e10000000d0000008000000000000000007e8000000000000000000de000400002000297c0000000000000000051a00800000800000000000007840000000000000000000009ffa0000000003000000000048125b421c1002c06
    ∧ (0x1e600001c200000000000000000000000de000400000000000000000000000000000400000000000000002000000000000000000000000000000000000000000000000000000000100000900000e2c : Nat) &&& wtrClearTouches.mask = 0x1e600001c200000000000000000000000de000400000000000000000000000000000400000000000000002000000000000000000000000000000000000000000000000000000000100000900000e2c := by decide +kernel

theorem masks_sub5 :
    (0x1a1c00000000000000000000000000000000000000000000000000000000000000000000000000000000000000000000000000080000c00 : Nat) &&& refFailureTouches.mask = 0x1a1c00000000000000000000000000000000000000000000000000000000000000000000000000000000000000000000000000080000c00
    ∧ (0xa0400000000000000000000000000000000000000000000000000000000000000000000000000000000000000000000000000080000c00 : Nat) &&& refHoldoffExpiryTouches.mask = 0xa0400000000000000000000000000000000000000000000000000000000000000000000000000000000000000000000000000080000c00
    ∧ (0x1a1c00000000000000000000000000000000000000000000000000000000000000000000000000000000000000000000000000080000000 : Nat) &&& refConditionClearTouches.mask = 0x1a1c00000000000000000000000000000000000000000000000000000000000000000000000000000000000000000000000000080000000
    ∧ (0x200b0400020000000000000000000000000000000000000000000000000000000000000000000000000000000000000000000000080000c00 : Nat) &&& phaseJumpTouches.mask = 0x200b0400020000000000000000000000000000000000000000000000000000000000000000000000000000000000000000000000080000c00
    ∧ (0xa0400000000000000000000000000000000000000000000000000000000000000000000000000000000000000000000000000000000c00 : Nat) &&& refWtrExpiryTouches.mask = 0xa0400000000000000000000000000000000000000000000000000000000000000000000000000000000000000000000000000000000c00
    ∧ (0x10000000001e600001c20000000000000000000000000000400000000000000007980000400000000000000000000002000000000000000000000000000000000000000000000000000000000200000880000f2c : Nat) &&& forceTouches.mask = 0x10000000001e600001c20000000000000000000000000000400000000000000007980000400000000000000000000002000000000000000000000000000000000000000000000000000000000200000880000f2c
    ∧ (0x430000000020000000000000000000000000000000000000000000000000000000000000000000000000000000000000080000100 : Nat) &&& bridgeHoldEndTouches.mask = 0x430000000020000000000000000000000000000000000000000000000000000000000000000000000000000000000000080000100
    ∧ (0x297c0000000000c0b0000000000000000000000000000000000000000000000000000000000000000000000000000000000000080000c00 : Nat) &&& captureCompleteTouches.mask = 0x297c0000000000c0b0000000000000000000000000000000000000000000000000000000000000000000000000000000000000080000c00
    ∧ (0x80b0000000000000000000000000000000000000000000000000000000000000000000000000000000000000080000c00 : Nat) &&& holdoverExpireTouches.mask = 0x80b0000000000000000000000000000000000000000000000000000000000000000000000000000000000000080000c00
    ∧ (0x10000000000000000000000000000000000000000000000000000001f3a640700fb80008400000000000000000000000000000000000000000000000000000000000000000000000000000000200000080000d00 : Nat) &&& epochEndTouches.mask = 0x10000000000000000000000000000000000000000000000000000001f3a640700fb80008400000000000000000000000000000000000000000000000000000000000000000000000000000000200000080000d00
    ∧ (0x100220000000000000000000000000000000000000000000000000000000000004e9000000000000000000008300000000000000000000000000000000000000000000000000000000000000000000000000000000024000180000c00 : Nat) &&& dpllSwapTouches.mask = 0x100220000000000000000000000000000000000000000000000000000000000004e9000000000000000000008300000000000000000000000000000000000000000000000000000000000000000000000000000000024000180000c00
    ∧ (0x10002000000000000000000000000000000000000000000000000000000000000000000000000000000000000200000000000000000000000000000000000000000000000000000000000000000000000000000000000000080000000 : Nat) &&& shadowRestoreTouches.mask = 0x10002000000000000000000000000000000000000000000000000000000000000000000000000000000000000200000000000000000000000000000000000000000000000000000000000000000000000000000000000000080000000 := by decide +kernel

theorem masks_sub6 :
    (0x8000000000000000000000000000000000000000000000000000000000000000000000000000000000000000080000c00 : Nat) &&& dpllMismatchTouches.mask = 0x8000000000000000000000000000000000000000000000000000000000000000000000000000000000000000080000c00
    ∧ (0x200ce01f639000000000000000000000000000000000000000000000000000000000000000000000000000000000000000000000000000000000000100000c00 : Nat) &&& heartbeatRxTouches.mask = 0x200ce01f639000000000000000000000000000000000000000000000000000000000000000000000000000000000000000000000000000000000000100000c00
    ∧ (0x439000000000000000000000000000000000000000000000000000000000000000000000000000000000000000000000000000000000000100000c80 : Nat) &&& heartbeatLossTouches.mask = 0x439000000000000000000000000000000000000000000000000000000000000000000000000000000000000000000000000000000000000100000c80
    ∧ (0x429000000000000000000000000000000000000000000000000000000000000000000000000000000000000000000000000000000000000100000c00 : Nat) &&& isolateTouches.mask = 0x429000000000000000000000000000000000000000000000000000000000000000000000000000000000000000000000000000000000000100000c00
    ∧ (0x800042d000000000000000000000000000000000000000000000000000000000000000000000000000000000000000000000000000000000000100000c80 : Nat) &&& arbChangeTouches.mask = 0x800042d000000000000000000000000000000000000000000000000000000000000000000000000000000000000000000000000000000000000100000c80
    ∧ (0x8000429000000000000000000000000000000000000000000000000000000000000000000000000000000000000000000000000000000000000100000c00 : Nat) &&& startupWaitExpiryTouches.mask = 0x8000429000000000000000000000000000000000000000000000000000000000000000000000000000000000000000000000000000000000000100000c00
    ∧ (0x200000000000000000000000000000000000000000000000000000000000000000000000000000000000000000000000000000000000000000000000 : Nat) &&& sideConflictTimeoutTouches.mask = 0x200000000000000000000000000000000000000000000000000000000000000000000000000000000000000000000000000000000000000000000000
    ∧ (0x8228100000000000000800000000000000000020000000000000000000fe000400007000297c0000000000000000050200000000800000000000007840000000010000000000009ffa0000000007000000000008125000183332c06 : Nat) &&& changeTouches.mask = 0x8228100000000000000800000000000000000020000000000000000000fe000400007000297c0000000000000000050200000000800000000000007840000000010000000000009ffa0000000007000000000008125000183332c06
    ∧ (0x8040429000000000000000000000000000000000000000000000000000000000000000000000000000000000000000000000000000000000000100000c00 : Nat) &&& journalGapTouches.mask = 0x8040429000000000000000000000000000000000000000000000000000000000000000000000000000000000000000000000000000000000000100000c00
    ∧ (0x8e000429000000000000000000000000000000000000000000000000000000000000000000000000000000000000000000000000000000000000100000c00 : Nat) &&& copyStartTouches.mask = 0x8e000429000000000000000000000000000000000000000000000000000000000000000000000000000000000000000000000000000000000000100000c00
    ∧ (0xde000400000000000000000000000000000000000000000000000000000000000000000000000000000000000000000000000000000000100000101000c00 : Nat) &&& copySliceTouches.mask = 0xde000400000000000000000000000000000000000000000000000000000000000000000000000000000000000000000000000000000000100000101000c00
    ∧ (0x8228100000000000000800000000000000000020000000000000000000fe000400007000297c0000000000000000051a00000000800000000000007840000000010000000000009ffa00000000070000000000081250001e333ac06 : Nat) &&& epochInstallTouches.mask = 0x8228100000000000000800000000000000000020000000000000000000fe000400007000297c0000000000000000051a00000000800000000000007840000000010000000000009ffa00000000070000000000081250001e333ac06 := by decide +kernel

theorem masks_sub7 :
    (0x9fe0429000000000000000000000000000000000000000000000000000000000000000000000000000000000000000000000000000000000000100000c00 : Nat) &&& standbyReadyTouches.mask = 0x9fe0429000000000000000000000000000000000000000000000000000000000000000000000000000000000000000000000000000000000000100000c00
    ∧ (0x4e9000000000000000000000000000000000000000000000000000000000000000000000000000000000000000000000000000000000000100000c00 : Nat) &&& deviceFailTouches.mask = 0x4e9000000000000000000000000000000000000000000000000000000000000000000000000000000000000000000000000000000000000100000c00
    ∧ (0x1e0000004e9000000000000000000000000000000000000000000000000000000000000000000000000000000000000000000000000000000000000100000c00 : Nat) &&& takeoverDecideTouches.mask = 0x1e0000004e9000000000000000000000000000000000000000000000000000000000000000000000000000000000000000000000000000000000000100000c00
    ∧ (0x8228100000000000000800000000000000000000000000000000001e0078000429002000297c0000000000000000051a00000000800000000000007840000000000000000000009ffa00000000030000000000080250001e331ac06 : Nat) &&& takeoverEffectTouches.mask = 0x8228100000000000000800000000000000000000000000000000001e0078000429002000297c0000000000000000051a00000000800000000000007840000000000000000000009ffa00000000030000000000080250001e331ac06
    ∧ (0x1e600001c2000000000000000000001e08e000429000000000000000000000000000000000000000000002000000000000000000000000000000000000000000000000000000000000000900000e2c : Nat) &&& switchTouches.mask = 0x1e600001c2000000000000000000001e08e000429000000000000000000000000000000000000000000002000000000000000000000000000000000000000000000000000000000000000900000e2c
    ∧ (0x1e000000000000000000000000000000000000000000000000000000000000000000000000000000000000000000000000000000000000000000000100000000 : Nat) &&& mateWtrExpiryTouches.mask = 0x1e000000000000000000000000000000000000000000000000000000000000000000000000000000000000000000000000000000000000000000000100000000
    ∧ (0x3c8b30003e00018006000000000000000000000c03e00000a000000000043c000de0004e900000000000300000000000000000000000000000000000000000000000000000008000000000000000000000000000000000ff7ffffdfffffdff : Nat) &&& raiseStartTouches.mask = 0x3c8b30003e00018006000000000000000000000c03e00000a000000000043c000de0004e900000000000300000000000000000000000000000000000000000000000000000008000000000000000000000000000000000ff7ffffdfffffdff
    ∧ (0x20000000000000400000000002000000000000000000000000000000000000000000000000000000000000000000000000000000000000000000000000000000002000600000100 : Nat) &&& fuseReadDoneTouches.mask = 0x20000000000000400000000002000000000000000000000000000000000000000000000000000000000000000000000000000000000000000000000000000000002000600000100
    ∧ (0x9401fc000000000000000000002008010000000000001a001f00000003bc000000000000000000000000000000000000000000000000000000000000c0000000000000000000000000000000000000000000000000004020020800000100 : Nat) &&& memoryClearDoneTouches.mask = 0x9401fc000000000000000000002008010000000000001a001f00000003bc000000000000000000000000000000000000000000000000000000000000c0000000000000000000000000000000000000000000000000004020020800000100
    ∧ (0xdc7c00000000000000000000000100000000003b800000000000000000000000000000000000000000000000000000000000000000000000000000000000000000000000000000000000000000004020000001c00 : Nat) &&& ddrTrainingDoneTouches.mask = 0xdc7c00000000000000000000000100000000003b800000000000000000000000000000000000000000000000000000000000000000000000000000000000000000000000000000000000000000004020000001c00
    ∧ (0x3c8b00083e81018006000c00008000000000000e03e00003afe00000ff87fe000de0004e9002000297c0380000000000000050200000000800000000000007840000000000008000000009ffa000000000300000000000c867021581023d06 : Nat) &&& slotVerifyDoneTouches.mask = 0x3c8b00083e81018006000c00008000000000000e03e00003afe00000ff87fe000de0004e9002000297c0380000000000000050200000000800000000000007840000000000008000000009ffa000000000300000000000c867021581023d06
    ∧ (0x482281000000000000008000000000000000000002000000000003bc000000004e9002000297c0000000000000000050200000000800000000000007840000000000000000000009ffa0000000003000000000008025000181002d06 : Nat) &&& joinersReadyTouches.mask = 0x482281000000000000008000000000000000000002000000000003bc000000004e9002000297c0000000000000000050200000000800000000000007840000000000000000000009ffa0000000003000000000008025000181002d06 := by decide +kernel

theorem masks_sub8 :
    (0xc2281000000000000008000000010000000000002000000000003bc00000000001002000297c0000000000000000050200000000800000000000007840000000000014000000009ffb1e00090003041a01a00008025000481002d06 : Nat) &&& p4EndTouches.mask = 0xc2281000000000000008000000010000000000002000000000003bc00000000001002000297c0000000000000000050200000000800000000000007840000000000014000000009ffb1e00090003041a01a00008025000481002d06
    ∧ (0x82281000000000000008000000000000000000002000000000003bc00000000000002000297c0000000000000000050200000000fc0000000000007840000000000000000000009ffa0000000003000000000008025020483003d06 : Nat) &&& p5EndTouches.mask = 0x82281000000000000008000000000000000000002000000000003bc00000000000002000297c0000000000000000050200000000fc0000000000007840000000000000000000009ffa0000000003000000000008025020483003d06
    ∧ (0x20000000000040400008000429000000000000000000000000000000000000008000000000000000000000000000000000000000000000000000000000000000000000d00000d00 : Nat) &&& raiseReadyTouches.mask = 0x20000000000040400008000429000000000000000000000000000000000000008000000000000000000000000000000000000000000000000000000000000000000000d00000d00
    ∧ (0x3c8b00003e00018006000000000000000020000c03e00000a000000000043c000de0004e900000000000300000000000000000000000000000000000000000000000000000008000000000000000000000000000000000ff7ffffdfffffdff : Nat) &&& jtagExtestLoadTouches.mask = 0x3c8b00003e00018006000000000000000020000c03e00000a000000000043c000de0004e900000000000300000000000000000000000000000000000000000000000000000008000000000000000000000000000000000ff7ffffdfffffdff
    ∧ (0x1e600001c2000000e0503c0008040000000000400000000000000000000000000000000000000000000002000000000000000000000000000000000000000000000000000000000006000e00000e2c : Nat) &&& confirmTouches.mask = 0x1e600001c2000000e0503c0008040000000000400000000000000000000000000000000000000000000002000000000000000000000000000000000000000000000000000000000006000e00000e2c
    ∧ (0x3c8b00083e81018006000c10008000000000000e03e00003afe03400ff87be000de0004e9002000297c0380000000000000050200000000800000000000007840000000000008000000009ffa000000000300000000000c867021581023d06 : Nat) &&& imgOpDoneTouches.mask = 0x3c8b00083e81018006000c10008000000000000e03e00003afe03400ff87be000de0004e9002000297c0380000000000000050200000000800000000000007840000000000008000000009ffa000000000300000000000c867021581023d06
    ∧ (0x1e000000002040000000000000000000000000000000000000000000000000000000000000000000000000000000000000000000000000000000000000000000000000400000c00 : Nat) &&& liveCoreDoneTouches.mask = 0x1e000000002040000000000000000000000000000000000000000000000000000000000000000000000000000000000000000000000000000000000000000000000000400000c00
    ∧ (0xa000000000040000000000000000000000000000000000000000000000000000000000000000000000000000000000000000000000000000000000000000000000000000000c00 : Nat) &&& liveCoreTimeoutTouches.mask = 0xa000000000040000000000000000000000000000000000000000000000000000000000000000000000000000000000000000000000000000000000000000000000000000000c00
    ∧ (0x1e600001c20000000000000300040000000000400000000000000000000000000000000000000000000002000000000000000000000000000000000000000000000000000000000002000800000e2c : Nat) &&& imgBootWriteTouches.mask = 0x1e600001c20000000000000300040000000000400000000000000000000000000000000000000000000002000000000000000000000000000000000000000000000000000000000002000800000e2c
    ∧ (0x800000300 : Nat) &&& pcieConfigRequestTouches.mask = 0x800000300
    ∧ (0x200 : Nat) &&& idTouches.mask = 0x200
    ∧ (0x1e600000000000000000200000000000000000000000000000000000000000000000000000000000000000000000000000000000000000000000000000000000000000000000000001080090800fd0 : Nat) &&& ureadTouches.mask = 0x1e600000000000000000200000000000000000000000000000000000000000000000000000000000000000000000000000000000000000000000000000000000000000000000000001080090800fd0 := by decide +kernel

theorem masks_sub9 :
    (0x8000000000 : Nat) &&& quadTouches.mask = 0x8000000000
    ∧ (0x1e600c01c20000000000000000000000000000400000000000000000000000000000000000000000000002000000000000000000000000000000000000000000000000000000000000004800000e2c : Nat) &&& tunnelGoTouches.mask = 0x1e600c01c20000000000000000000000000000400000000000000000000000000000000000000000000002000000000000000000000000000000000000000000000000000000000000004800000e2c
    ∧ (0x8000400200000000b0055000000201e600c01c3c00080e0503c000807b81e0de000429000000000000007980000400000400000000008191fe200100000000000000000014000000009ffb1e00090003061a01a0b4087a75a5f97b33ffc : Nat) &&& tunnelRequestTouches.mask = 0x8000400200000000b0055000000201e600c01c3c00080e0503c000807b81e0de000429000000000000007980000400000400000000008191fe200100000000000000000014000000009ffb1e00090003061a01a0b4087a75a5f97b33ffc
    ∧ (0xc40020000000000000000000000000000000000000000000000000000000000000000000000000000000000000000000000000000000000000000000000000000000000000000004000000c00 : Nat) &&& tunnelDoneTouches.mask = 0xc40020000000000000000000000000000000000000000000000000000000000000000000000000000000000000000000000000000000000000000000000000000000000000000004000000c00
    ∧ (0x1e600001c3c000000000000000000000000000400000000000000000000000000000000000000000000002000000000000000000000000000000000000000000000000000000000000001800000e2c : Nat) &&& claimTouches.mask = 0x1e600001c3c000000000000000000000000000400000000000000000000000000000000000000000000002000000000000000000000000000000000000000000000000000000000000001800000e2c
    ∧ (0x3e000000000000000000000000000000000000000000000000000000000000000000000000000000000000000000000000000000000000000000000000000000000000000001000000c00 : Nat) &&& leaseExpiryTouches.mask = 0x3e000000000000000000000000000000000000000000000000000000000000000000000000000000000000000000000000000000000000000000000000000000000000000001000000c00
    ∧ (0x2c000000000000000000000000000000000000000000000000000000000000000000000000000000000000000000000000000000000000000000000000000000000000000000000000c00 : Nat) &&& handoverTimeoutTouches.mask = 0x2c000000000000000000000000000000000000000000000000000000000000000000000000000000000000000000000000000000000000000000000000000000000000000000000000c00
    ∧ (0x1800000000 : Nat) &&& ownerPortLossTouches.mask = 0x1800000000
    ∧ (0x1e600001c20000800000000000000000000000400000000000000000000000000000000000000000000002000000000000000000000000000000000000000000000000000000000000000800000e2c : Nat) &&& commitGoTouches.mask = 0x1e600001c20000800000000000000000000000400000000000000000000000000000000000000000000002000000000000000000000000000000000000000000000000000000000000000800000e2c
    ∧ (0x823e10000000d0000008000000000000000007e8000000000000000000de000400002000297c0000000000000000050200000000800000000000007840000000000000000000009ffa0000000003000000000048125b42181002c06 : Nat) &&& commitApplyTouches.mask = 0x823e10000000d0000008000000000000000007e8000000000000000000de000400002000297c0000000000000000050200000000800000000000007840000000000000000000009ffa0000000003000000000048125b42181002c06
    ∧ (0x50000020000000000000000000000000000000000000000000000000000000000000000000000000000000000000000000000000000000000000000000000000000000000000000000000001c00 : Nat) &&& eventRecordTouches.mask = 0x50000020000000000000000000000000000000000000000000000000000000000000000000000000000000000000000000000000000000000000000000000000000000000000000000000001c00
    ∧ (0xc000000000000000000000000000000000000000000000000000000000000000000000000000000000000000000000000000000000000000000000000000000000000000000000000001800 : Nat) &&& eventLogRecordTouches.mask = 0xc000000000000000000000000000000000000000000000000000000000000000000000000000000000000000000000000000000000000000000000000000000000000000000000000001800 := by decide +kernel

theorem masks_sub10 :
    (0x1e600001c20000000000000000000000000000400000000000000000000000000000000000000000000002000000000000000000000000000000000000000000000000000000000000000800000e2c : Nat) &&& msixEoiTouches.mask = 0x1e600001c20000000000000000000000000000400000000000000000000000000000000000000000000002000000000000000000000000000000000000000000000000000000000000000800000e2c
    ∧ (0x800000000 : Nat) &&& msixSendTouches.mask = 0x800000000
    ∧ (0x10000003a01e600000000000000000200000000000000000000000000000000000000000000000000000000000000000000000000000000000000000000000000000000000000000000000000401080890800fd0 : Nat) &&& defaultAccessTouches.mask = 0x10000003a01e600000000000000000200000000000000000000000000000000000000000000000000000000000000000000000000000000000000000000000000000000000000000000000000401080890800fd0
    ∧ (0x1e400000000000000000000000000000000000000000000000000000000000000000000000000000000000000000000000000000000000000000000000000000000000000000000000000800000e00 : Nat) &&& matrixTimeoutTouches.mask = 0x1e400000000000000000000000000000000000000000000000000000000000000000000000000000000000000000000000000000000000000000000000000000000000000000000000000800000e00
    ∧ (0x27c0400000000000000000000000000000000000000000000000000000000000000000000000000000000000000000000000000000000000000000000000000000000000000000000400000000001c00 : Nat) &&& masterResetTouches.mask = 0x27c0400000000000000000000000000000000000000000000000000000000000000000000000000000000000000000000000000000000000000000000000000000000000000000000400000000001c00
    ∧ (0x7ed01800000000000000000000000000000000000000000000000000000000000000000000000000000000000000000000000000000000000000000000000000000000000000000000000004010000000c00 : Nat) &&& soundRegionTouches.mask = 0x7ed01800000000000000000000000000000000000000000000000000000000000000000000000000000000000000000000000000000000000000000000000000000000000000000000000004010000000c00
    ∧ (0xd00000000000000000000000000000000000000000000000000000000000000000000000000000000000000000000000000000000000000000000000000000000000000000000000000000010000000c00 : Nat) &&& soundAbortTouches.mask = 0xd00000000000000000000000000000000000000000000000000000000000000000000000000000000000000000000000000000000000000000000000000000000000000000000000000000010000000c00
    ∧ (0x500000000000000000000000000000000000000000000000000000000000000000000000000000000000000000000000000000000000000000000000000000000000000000000000000000010000000000 : Nat) &&& soundBankSwapTouches.mask = 0x500000000000000000000000000000000000000000000000000000000000000000000000000000000000000000000000000000000000000000000000000000000000000000000000000000010000000000
    ∧ (0x102200000000000000007ef00000000000000000000000000000000000000000000000000000000000000000000000000000000000000000000000000000000000000000000000000000000000000000000000000004010000000c00 : Nat) &&& soundBankTestDoneTouches.mask = 0x102200000000000000007ef00000000000000000000000000000000000000000000000000000000000000000000000000000000000000000000000000000000000000000000000000000000000000000000000000004010000000c00
    ∧ (0x1c50000000000000000000000000000000000000000000000000000000000000000000000000000000000000000000000000000000000000000000000000000000000000000000000000000000004020000000c00 : Nat) &&& ddrRetrainDoneTouches.mask = 0x1c50000000000000000000000000000000000000000000000000000000000000000000000000000000000000000000000000000000000000000000000000000000000000000000000000000000004020000000c00
    ∧ (0x2100000000000000000000000000000000000000000000000000000000000000000000000000000000000000000000000000000000000000000000000000000000000000000000000000000000000020000000000 : Nat) &&& ddrPatrolTouches.mask = 0x2100000000000000000000000000000000000000000000000000000000000000000000000000000000000000000000000000000000000000000000000000000000000000000000000000000000000020000000000
    ∧ (0x214000000001e6000000000000000002000000000000000000000000000000000000000000000000000000000000000000000000000000000000000000000000000000000000000000000000004010a0090820fd0 : Nat) &&& ddrUnitRebuildTouches.mask = 0x214000000001e6000000000000000002000000000000000000000000000000000000000000000000000000000000000000000000000000000000000000000000000000000000000000000000004010a0090820fd0 := by decide +kernel

theorem masks_sub11 :
    (0x10000000000001e600001c20000000000000000000000000000400000000000000000000000000000000000000000000002000000000000000000000000000000000000000000000000000000000000100800000e2c : Nat) &&& snapGoTouches.mask = 0x10000000000001e600001c20000000000000000000000000000400000000000000000000000000000000000000000000002000000000000000000000000000000000000000000000000000000000000100800000e2c
    ∧ (0x1e10000000d00000000000000000000000000000000000000000000000000000000000000000000000000000000000000000000000000000000000000000000000000000000000000000000000000000000040000b40080000c02 : Nat) &&& snapshotTouches.mask = 0x1e10000000d00000000000000000000000000000000000000000000000000000000000000000000000000000000000000000000000000000000000000000000000000000000000000000000000000000000040000b40080000c02
    ∧ (0xa0000000000001e600001c20000000000000000000000000000400000000000000000000000000000000000000000000002000000000000000000000000000000000000000000000000000000000000400800000e2c : Nat) &&& clearGoTouches.mask = 0xa0000000000001e600001c20000000000000000000000000000400000000000000000000000000000000000000000000002000000000000000000000000000000000000000000000000000000000000400800000e2c
    ∧ (0x1e10000000f0010000000800000000000000000000000000000000000000000000000000000000000000000000f000020080000000000000000000000000000000007e00000000000000000000000000000040000f40080000c02 : Nat) &&& counterClearTouches.mask = 0x1e10000000f0010000000800000000000000000000000000000000000000000000000000000000000000000000f000020080000000000000000000000000000000007e00000000000000000000000000000040000f40080000c02
    ∧ (0x20000000080000000000001e600001c20000000000000000000000000000400000000000000000000000000000000000000000000002000000000000000000000000000000000000000000000000000000000000000880000fac : Nat) &&& bankCounterWriteTouches.mask = 0x20000000080000000000001e600001c20000000000000000000000000000400000000000000000000000000000000000000000000002000000000000000000000000000000000000000000000000000000000000000880000fac
    ∧ (0x60000000000000000000000000000000000000000000000000000000000000000000000000000000000000000000000000000000000000000000000000000000000000000000000000000000000000000820000001000 : Nat) &&& archiveWriteTouches.mask = 0x60000000000000000000000000000000000000000000000000000000000000000000000000000000000000000000000000000000000000000000000000000000000000000000000000000000000000000820000001000
    ∧ (0x4000000000000000000000000000000000000000000000000000000000000000000000000000000000000000000000000000000000000000000000000000000000000000000000000000000000000000001000000000c00 : Nat) &&& pegSelectTouches.mask = 0x4000000000000000000000000000000000000000000000000000000000000000000000000000000000000000000000000000000000000000000000000000000000000000000000000000000000000000001000000000c00
    ∧ (0xa00024000800000000000000000000000000000000000000000000000000000000000000000000000000000000000000000000000000000000000000000000000000000000000000000000000000000000000001000000000d00 : Nat) &&& pegCompleteTouches.mask = 0xa00024000800000000000000000000000000000000000000000000000000000000000000000000000000000000000000000000000000000000000000000000000000000000000000000000000000000000000001000000000d00
    ∧ (0x1e600001c20000000000000000000000000000400000000000000000000000000000000000000000000002000000000000000000000000000000000000000000000000000000000001000800000e2c : Nat) &&& popTouches.mask = 0x1e600001c20000000000000000000000000000400000000000000000000000000000000000000000000002000000000000000000000000000000000000000000000000000000000001000800000e2c
    ∧ (0x8000000000000000001e400000000000000000000000000000000000000000000000000000000000000000000000000000000000000000000000000000000000000000000000000000000000000000000001000000001e00 : Nat) &&& pegDmaMoveTouches.mask = 0x8000000000000000001e400000000000000000000000000000000000000000000000000000000000000000000000000000000000000000000000000000000000000000000000000000000000000000000001000000001e00
    ∧ (0x22000000000000000000000000000000000000000000000000000000000000000000000000000000000000000000000000000000000000000000000000000000000000000000000000000000000000000000000024000000000d00 : Nat) &&& laneSubstTriggerTouches.mask = 0x22000000000000000000000000000000000000000000000000000000000000000000000000000000000000000000000000000000000000000000000000000000000000000000000000000000000000000000000024000000000d00
    ∧ (0x822000000000000000000000000000000000000000000000000000000000000000000000000000000000000000000000000000000000000000000012400000000000000000000000000000000000000000000000024000000000c04 : Nat) &&& lamSubstSelectTouches.mask = 0x822000000000000000000000000000000000000000000000000000000000000000000000000000000000000000000000000000000000000000000012400000000000000000000000000000000000000000000000024000000000c04 := by decide +kernel

theorem masks_sub12 :
    (0x2022000000000000000000000000000000000000000000000000000000000000000000000000000000000000000000000000000000000000000000000000000000000000000000000000000000000000000000000024000000000d00 : Nat) &&& fecSubstSwitchTouches.mask = 0x2022000000000000000000000000000000000000000000000000000000000000000000000000000000000000000000000000000000000000000000000000000000000000000000000000000000000000000000000024000000000d00
    ∧ (0x40220000000000000000000000000000000000000000000000000000000000004e9000000000000000000000000000000000000000000000000000000000000000000000000000000000000000000000000000000024000100000d00 : Nat) &&& joinerSubstTriggerTouches.mask = 0x40220000000000000000000000000000000000000000000000000000000000004e9000000000000000000000000000000000000000000000000000000000000000000000000000000000000000000000000000000024000100000d00
    ∧ (0x40220000000000000000000000014000000000000060000000000000000000004e9000000000000000000000000000000000000000000000000000000000000000000000000000000000000000000000000000000824000100000d00 : Nat) &&& joinerSubstDoneTouches.mask = 0x40220000000000000000000000014000000000000060000000000000000000004e9000000000000000000000000000000000000000000000000000000000000000000000000000000000000000000000000000000824000100000d00
    ∧ (0x80220000000000000000000000000000000000000000000000000000000000000000000000000000000000000000000000000000000180200012c0000000000000000000000000000000000000000000000000000004000001000c00 : Nat) &&& scribeEngineRetireTouches.mask = 0x80220000000000000000000000000000000000000000000000000000000000000000000000000000000000000000000000000000000180200012c0000000000000000000000000000000000000000000000000000004000001000c00
    ∧ (0x20000000000000000000000000000000000000000000000000000000000000000000000000000000000000000000000000000000000000000000000000000000000000000000000000000000000000000000000022000000000c00 : Nat) &&& ageingSampleTouches.mask = 0x20000000000000000000000000000000000000000000000000000000000000000000000000000000000000000000000000000000000000000000000000000000000000000000000000000000000000000000000022000000000c00
    ∧ (0x2000000000000000000000000000000000000000000000000000000000000000000000000000000000000000000000000000000000000000000000000000000000000000000000000000000000000000000000001e000000000c00 : Nat) &&& tallyRecordTouches.mask = 0x2000000000000000000000000000000000000000000000000000000000000000000000000000000000000000000000000000000000000000000000000000000000000000000000000000000000000000000000001e000000000c00
    ∧ (0x800000000000000000000000000001e600001c20000000000000000000000000000400000000000000000000000000000000000000000000002000000000000000000000000000000000000000000000000000000000002000800000e2c : Nat) &&& lcGoTouches.mask = 0x800000000000000000000000000001e600001c20000000000000000000000000000400000000000000000000000000000000000000000000002000000000000000000000000000000000000000000000000000000000002000800000e2c
    ∧ (0x88000020000000000000000000000000000000000000000000000000000000000000000000000000000000000000000000000000000000000000000000000000000000000000000000000000000000000000000000000042000000000d00 : Nat) &&& lcVerifyDoneTouches.mask = 0x88000020000000000000000000000000000000000000000000000000000000000000000000000000000000000000000000000000000000000000000000000000000000000000000000000000000000000000000000000042000000000d00
    ∧ (0x3c9f00003e00018006000000000000000000000c03e00000a000000000043c000de0004e900000000000300000000000000000000000000000000000000000000000000000008000000000000000000000000000000000ff7ffffdfffffdff : Nat) &&& lcWipeTouches.mask = 0x3c9f00003e00018006000000000000000000000c03e00000a000000000043c000de0004e900000000000300000000000000000000000000000000000000000000000000000008000000000000000000000000000000000ff7ffffdfffffdff
    ∧ (0x3c8bc0003e00018006000000000000000000000c03e00000a0000000000438000de0004e9000000000003000000000000000000000000000000000000000000000000000000080000000000000000000000000000000004066021580022d00 : Nat) &&& tamperConditionTouches.mask = 0x3c8bc0003e00018006000000000000000000000c03e00000a0000000000438000de0004e9000000000003000000000000000000000000000000000000000000000000000000080000000000000000000000000000000004066021580022d00
    ∧ (0x800000000000000000000000000000000000000000000000000000000000000000000000000000000000000000000000000000000000000000000000000000000000000000000000000000000000000000000000000000000000000000000 : Nat) &&& mapRebuildDoneTouches.mask = 0x800000000000000000000000000000000000000000000000000000000000000000000000000000000000000000000000000000000000000000000000000000000000000000000000000000000000000000000000000000000000000000000
    ∧ (0x1000000000000000000000000000000000000000000000000000000000000000000000000000000000000000000000000000000000000007c00000000000000000000000000000000000000000000000000000000000000000020000001000 : Nat) &&& sceneReloadDoneTouches.mask = 0x1000000000000000000000000000000000000000000000000000000000000000000000000000000000000000000000000000000000000007c00000000000000000000000000000000000000000000000000000000000000000020000001000 := by decide +kernel

theorem masks_sub13 :
    (0x400000024000000000000000000000000000000000000000000000000000000000000000000000000000000000000000000000000000000000000000000000000000000000000000000000000000000000000000000000000000000000c00 : Nat) &&& rekeyDoneTouches.mask = 0x400000024000000000000000000000000000000000000000000000000000000000000000000000000000000000000000000000000000000000000000000000000000000000000000000000000000000000000000000000000000000000c00
    ∧ (0x200000000800000000000000000000000000000000000000000000000000000000000000000000000000000000000000000000000000000000000000000000000000000000000000000000000000000000000000000080000c80 : Nat) &&& counterWrapTouches.mask = 0x200000000800000000000000000000000000000000000000000000000000000000000000000000000000000000000000000000000000000000000000000000000000000000000000000000000000000000000000000080000c80 := by decide +kernel

theorem masks_sub14 :
    (0x1e600001c2000000e0503c0008040000000000400000000000000000000000000000000000000000000002000000000000000000000000000000000000000000000000000000000006000e00000e2c : Nat) &&& liveGoTouches.mask = 0x1e600001c2000000e0503c0008040000000000400000000000000000000000000000000000000000000002000000000000000000000000000000000000000000000000000000000006000e00000e2c
    ∧ (0x201e600001c20000000000000000000000000000400000000000000000000000000000000000000000000002000000000000000000000000000000000000000000000000000000000400000800000e2c : Nat) &&& lockReleaseTouches.mask = 0x201e600001c20000000000000000000000000000400000000000000000000000000000000000000000000002000000000000000000000000000000000000000000000000000000000400000800000e2c
    ∧ (0x45000000001e600001c20000000000000000000000000000400000000000000000000000000000000000000000000002000000000000000000000000000000000000000000000000000000000000020800000e2c : Nat) &&& ddrRetrainTouches.mask = 0x45000000001e600001c20000000000000000000000000000400000000000000000000000000000000000000000000002000000000000000000000000000000000000000000000000000000000000020800000e2c
    ∧ (0x2000000000000000000000000000000000000000000000000000040000000000000000000000000000000000000000000000000000000000000000000000000000000000000000000000000000000000000000ff7ffffdfffffcff : Nat) &&& resetAssertTouches.mask = 0x2000000000000000000000000000000000000000000000000000040000000000000000000000000000000000000000000000000000000000000000000000000000000000000000000000000000000000000000ff7ffffdfffffcff
    ∧ (0x3c1c00002400018006000000000000000000000c0000000000000000000000000de000400000000000003000000000000000000000000000000000000000000000000000000080000000000000000000000000000000004046020580020c00 : Nat) &&& lcEndTouches.mask = 0x3c1c00002400018006000000000000000000000c0000000000000000000000000de000400000000000003000000000000000000000000000000000000000000000000000000080000000000000000000000000000000004046020580020c00 := by decide +kernel

/-- Every command completes, and keeps every property loose on its footprint. -/
theorem exec_k (c : Instr) (hK : Loose (footprint c).mask K) (h : K s) : ∃ z, exec c s = .next z ∧ K z := by
  cases c with
  | tick => exact execTick_k (Loose.mono (b := tickTouches.mask) hK masks_sub0.1) h
  | registerWrite m v w => exact execRegisterWrite_k (Loose.mono (b := registerWriteTouches.mask) hK masks_sub0.2.1) h m v w
  | pairLowRead m v => exact execPairLowRead_k (Loose.mono (b := pairLowReadTouches.mask) hK masks_sub0.2.2.1) h m v
  | pairLowWrite m v w => exact execPairLowWrite_k (Loose.mono (b := registerWriteTouches.mask) hK masks_sub0.2.1) h m v w
  | pairHighWrite m v w => exact execPairHighWrite_k (Loose.mono (b := registerWriteTouches.mask) hK masks_sub0.2.1) h m v w
  | devFrameRead m c => exact execDevFrameRead_k (Loose.mono (b := devFrameReadTouches.mask) hK masks_sub0.2.2.2.1) h m c
  | latqGo m w => exact execLatqGo_at (Loose.mono (b := latqGoTouches.mask) hK masks_sub0.2.2.2.2.1) h m w
  | latqDone => exact execLatqDone_k (Loose.mono (b := latqDoneTouches.mask) hK masks_sub0.2.2.2.2.2.1) h
  | rxRow n t ws faulty => exact execRxRow_k (Loose.mono (b := rxRowTouches.mask) hK masks_sub0.2.2.2.2.2.2.1) h n t ws faulty
  | rxFrame n t ws faulty => exact execRxFrame_k (Loose.mono (b := rxFrameTouches.mask) hK masks_sub0.2.2.2.2.2.2.2.1) h n t ws faulty
  | ssmAccept n => exact execSsmAccept_k (Loose.mono (b := ssmAcceptTouches.mask) hK masks_sub0.2.2.2.2.2.2.2.2.1) h n
  | pageWindowClose n => exact execPageWindowClose_k (Loose.mono (b := pageWindowCloseTouches.mask) hK masks_sub0.2.2.2.2.2.2.2.2.2.1) h n
  | losDeclare n rs => exact execLosDeclare_k (Loose.mono (b := losDeclareTouches.mask) hK masks_sub0.2.2.2.2.2.2.2.2.2.2.1) h n rs
  | losClear n rs => exact execLosClear_k (Loose.mono (b := losClearTouches.mask) hK masks_sub0.2.2.2.2.2.2.2.2.2.2.2) h n rs
  | lolDeclare n => exact execLolDeclare_k (Loose.mono (b := losDeclareTouches.mask) hK masks_sub0.2.2.2.2.2.2.2.2.2.2.1) h n
  | lolClear n => exact execLolClear_k (Loose.mono (b := losClearTouches.mask) hK masks_sub0.2.2.2.2.2.2.2.2.2.2.2) h n
  | lofDeclare n => exact execLofDeclare_k (Loose.mono (b := losDeclareTouches.mask) hK masks_sub0.2.2.2.2.2.2.2.2.2.2.1) h n
  | lofClear n => exact execLofClear_k (Loose.mono (b := losClearTouches.mask) hK masks_sub0.2.2.2.2.2.2.2.2.2.2.2) h n
  | laisDeclare n => exact execLaisDeclare_k (Loose.mono (b := losDeclareTouches.mask) hK masks_sub0.2.2.2.2.2.2.2.2.2.2.1) h n
  | laisClear n => exact execLaisClear_k (Loose.mono (b := losClearTouches.mask) hK masks_sub0.2.2.2.2.2.2.2.2.2.2.2) h n
  | lrdiDeclare n => exact execLrdiDeclare_k (Loose.mono (b := losDeclareTouches.mask) hK masks_sub0.2.2.2.2.2.2.2.2.2.2.1) h n
  | lrdiClear n => exact execLrdiClear_k (Loose.mono (b := losClearTouches.mask) hK masks_sub0.2.2.2.2.2.2.2.2.2.2.2) h n
  | lsdDeclare n => exact execLsdDeclare_k (Loose.mono (b := losDeclareTouches.mask) hK masks_sub0.2.2.2.2.2.2.2.2.2.2.1) h n
  | lsdClear n => exact execLsdClear_k (Loose.mono (b := losClearTouches.mask) hK masks_sub0.2.2.2.2.2.2.2.2.2.2.2) h n
  | lsfDeclare n => exact execLsfDeclare_k (Loose.mono (b := losDeclareTouches.mask) hK masks_sub0.2.2.2.2.2.2.2.2.2.2.1) h n
  | lsfClear n => exact execLsfClear_k (Loose.mono (b := losClearTouches.mask) hK masks_sub0.2.2.2.2.2.2.2.2.2.2.2) h n
  | lmmDeclare n => exact execLmmDeclare_k (Loose.mono (b := losDeclareTouches.mask) hK masks_sub0.2.2.2.2.2.2.2.2.2.2.1) h n
  | lmmClear n => exact execLmmClear_k (Loose.mono (b := losClearTouches.mask) hK masks_sub0.2.2.2.2.2.2.2.2.2.2.2) h n
  | lphClear n => exact execLphClear_k (Loose.mono (b := losClearTouches.mask) hK masks_sub0.2.2.2.2.2.2.2.2.2.2.2) h n
  | centreSweep flips => exact execCentreSweep_k (Loose.mono (b := centreSweepTouches.mask) hK masks_sub1.1) h flips
  | kerfCheck got => exact execKerfCheck_k (Loose.mono (b := kerfCheckTouches.mask) hK masks_sub1.2.1) h got
  | longPathTap => exact execLongPathTap_k (Loose.mono (b := longPathTapTouches.mask) hK masks_sub1.2.2.1) h
  | longPathReturn r late => exact execLongPathReturn_k (Loose.mono (b := longPathReturnTouches.mask) hK masks_sub1.2.2.2.1) h r late
  | txFrame n => exact execTxFrame_k (Loose.mono (b := txFrameTouches.mask) hK masks_sub1.2.2.2.2.1) h n
  | grnFaultClear a side => exact execGrnFaultClear_k (Loose.mono (b := grnFaultClearTouches.mask) hK masks_sub1.2.2.2.2.2.1) h a side
  | signalExit n rs => exact execSignalExit_k (Loose.mono (b := signalExitTouches.mask) hK masks_sub1.2.2.2.2.2.2.1) h n rs
  | lockExit n => exact execLockExit_k (Loose.mono (b := signalExitTouches.mask) hK masks_sub1.2.2.2.2.2.2.1) h n
  | tuneExit n => exact execTuneExit_k (Loose.mono (b := tuneExitTouches.mask) hK masks_sub1.2.2.2.2.2.2.2.1) h n
  | frameExit n => exact execFrameExit_k (Loose.mono (b := signalExitTouches.mask) hK masks_sub1.2.2.2.2.2.2.1) h n
  | serviceEnter n => exact execServiceEnter_k (Loose.mono (b := serviceEnterTouches.mask) hK masks_sub1.2.2.2.2.2.2.2.2.1) h n
  | fitTimeout n => exact execFitTimeout_k (Loose.mono (b := fitTimeoutTouches.mask) hK masks_sub1.2.2.2.2.2.2.2.2.2.1) h n
  | fitLosFail n => exact execFitLosFail_k (Loose.mono (b := fitTimeoutTouches.mask) hK masks_sub1.2.2.2.2.2.2.2.2.2.1) h n
  | backoffExpiry n => exact execBackoffExpiry_k (Loose.mono (b := backoffExpiryTouches.mask) hK masks_sub1.2.2.2.2.2.2.2.2.2.2.1) h n
  | waitWake n => exact execWaitWake_k (Loose.mono (b := backoffExpiryTouches.mask) hK masks_sub1.2.2.2.2.2.2.2.2.2.2.1) h n
  | partnerGoneFail n => exact execPartnerGoneFail_k (Loose.mono (b := fitTimeoutTouches.mask) hK masks_sub1.2.2.2.2.2.2.2.2.2.1) h n
  | servicePersistLeave n => exact execServicePersistLeave_k (Loose.mono (b := backoffExpiryTouches.mask) hK masks_sub1.2.2.2.2.2.2.2.2.2.2.1) h n
  | trainingRow n ws => exact execTrainingRow_k (Loose.mono (b := trainingRowTouches.mask) hK masks_sub1.2.2.2.2.2.2.2.2.2.2.2) h n ws
  | discoveryRow n ws => exact execDiscoveryRow_k (Loose.mono (b := discoveryRowTouches.mask) hK masks_sub2.1) h n ws
  | fitEnableWrite m n w => exact execFitEnableWrite_at (Loose.mono (b := fitEnableWriteTouches.mask) hK masks_sub2.2.1) h m n w
  | lnRestart m n w => exact execLnRestart_at (Loose.mono (b := fitEnableWriteTouches.mask) hK masks_sub2.2.1) h m n w
  | backoffReset m n w => exact execBackoffReset_at (Loose.mono (b := fitEnableWriteTouches.mask) hK masks_sub2.2.1) h m n w
  | unfreeze m n w => exact execUnfreeze_at (Loose.mono (b := fitEnableWriteTouches.mask) hK masks_sub2.2.1) h m n w
  | ident n seq ws => exact execIdent_k (Loose.mono (b := identTouches.mask) hK masks_sub2.2.2.1) h n seq ws
  | serviceGo n seq f => exact execServiceGo_k (Loose.mono (b := serviceGoTouches.mask) hK masks_sub2.2.2.2.1) h n seq f
  | sparePrep n seq x => exact execSparePrep_k (Loose.mono (b := sparePrepTouches.mask) hK masks_sub2.2.2.2.2.1) h n seq x
  | spareSelect n seq x f => exact execSpareSelect_k (Loose.mono (b := serviceGoTouches.mask) hK masks_sub2.2.2.2.1) h n seq x f
  | spareRelease n seq x => exact execSpareRelease_k (Loose.mono (b := spareReleaseTouches.mask) hK masks_sub2.2.2.2.2.2.1) h n seq x
  | restart n => exact execRestart_k (Loose.mono (b := backoffExpiryTouches.mask) hK masks_sub1.2.2.2.2.2.2.2.2.2.2.1) h n
  | leave n seq => exact execLeave_k (Loose.mono (b := backoffExpiryTouches.mask) hK masks_sub1.2.2.2.2.2.2.2.2.2.2.1) h n seq
  | ack n seq => exact execAck_k (Loose.mono (b := ackTouches.mask) hK masks_sub2.2.2.2.2.2.2.1) h n seq
  | nak n seq => exact execNak_k (Loose.mono (b := serviceGoTouches.mask) hK masks_sub2.2.2.2.1) h n seq
  | msgRetry n => exact execMsgRetry_k (Loose.mono (b := fitTimeoutTouches.mask) hK masks_sub1.2.2.2.2.2.2.2.2.2.1) h n
  | leaveTimeout n => exact execLeaveTimeout_k ((Loose.mono (b := ackTouches.mask) hK masks_sub2.2.2.2.2.2.2.1).mono (by decide)) h n
  | loopAutoRestore n => exact execLoopAutoRestore_k (Loose.mono (b := loopAutoRestoreTouches.mask) hK masks_sub2.2.2.2.2.2.2.2.1) h n
  | loopRestore m n w => exact execLoopRestore_at (Loose.mono (b := loopRestoreTouches.mask) hK masks_sub2.2.2.2.2.2.2.2.2.1) h m n w
  | goodSecond n => exact execGoodSecond_k (Loose.mono (b := goodSecondTouches.mask) hK masks_sub2.2.2.2.2.2.2.2.2.2.1) h n
  | adaptRevert n => exact execAdaptRevert_k (Loose.mono (b := adaptRevertTouches.mask) hK masks_sub2.2.2.2.2.2.2.2.2.2.2.1) h n
  | adaptHoldEnd n => exact execAdaptHoldEnd_k (Loose.mono (b := adaptHoldEndTouches.mask) hK masks_sub2.2.2.2.2.2.2.2.2.2.2.2) h n
  | sparePrepWrite m n w => exact execSparePrepWrite_at (Loose.mono (b := sparePrepWriteTouches.mask) hK masks_sub3.1) h m n w
  | spareSelectWrite m n w => exact execSpareSelectWrite_at (Loose.mono (b := sparePrepWriteTouches.mask) hK masks_sub3.1) h m n w
  | spareReleaseWrite m n w => exact execSpareReleaseWrite_at (Loose.mono (b := sparePrepWriteTouches.mask) hK masks_sub3.1) h m n w
  | spareShadowReady n => exact execSpareShadowReady_k (Loose.mono (b := spareShadowReadyTouches.mask) hK masks_sub3.2.1) h n
  | spareSwitch n => exact execSpareSwitch_k (Loose.mono (b := spareSwitchTouches.mask) hK masks_sub3.2.2.1) h n
  | mchPacketRx n ws => exact execMchPacketRx_k (Loose.mono (b := mchPacketRxTouches.mask) hK masks_sub3.2.2.2.1) h n ws
  | mchPacketTx n => exact execMchPacketTx_k (Loose.mono (b := mchPacketTxTouches.mask) hK masks_sub3.2.2.2.2.1) h n
  | memberJoin src => exact execMemberJoin_k (Loose.mono (b := memberJoinTouches.mask) hK masks_sub3.2.2.2.2.2.1) h src
  | bentStepApply b => exact execBentStepApply_k (Loose.mono (b := bentStepApplyTouches.mask) hK masks_sub3.2.2.2.2.2.2.1) h b
  | bentGrowthEnd b => exact execBentGrowthEnd_k (Loose.mono (b := bentGrowthEndTouches.mask) hK masks_sub3.2.2.2.2.2.2.2.1) h b
  | bentRetime m b w => exact execBentRetime_at (Loose.mono (b := bentRetimeTouches.mask) hK masks_sub3.2.2.2.2.2.2.2.2.1) h m b w
  | bentRetimeApply b => exact execBentRetimeApply_k (Loose.mono (b := bentStepApplyTouches.mask) hK masks_sub3.2.2.2.2.2.2.1) h b
  | memberRead m b => exact execMemberRead_k (Loose.mono (b := pairLowReadTouches.mask) hK masks_sub0.2.2.1) h m b
  | diagWindowRead m a => exact execDiagWindowRead_k (Loose.mono (b := pairLowReadTouches.mask) hK masks_sub0.2.2.1) h m a
  | logicalMapRead m a wide => exact execLogicalMapRead_k (Loose.mono (b := pairLowReadTouches.mask) hK masks_sub0.2.2.1) h m a wide
  | stagingWrite m a w => exact execStagingWrite_k (Loose.mono (b := registerWriteTouches.mask) hK masks_sub0.2.1) h m a w
  | compile m w => exact execCompile_at (Loose.mono (b := compileTouches.mask) hK masks_sub3.2.2.2.2.2.2.2.2.2.1) h m w
  | apply m w => exact execApply_at (Loose.mono (b := compileTouches.mask) hK masks_sub3.2.2.2.2.2.2.2.2.2.1) h m w
  | go m w => exact execGo_at (Loose.mono (b := compileTouches.mask) hK masks_sub3.2.2.2.2.2.2.2.2.2.1) h m w
  | abort m w => exact execAbort_at (Loose.mono (b := compileTouches.mask) hK masks_sub3.2.2.2.2.2.2.2.2.2.1) h m w
  | compileStart => exact execCompileStart_k (Loose.mono (b := compileStartTouches.mask) hK masks_sub3.2.2.2.2.2.2.2.2.2.2.1) h
  | compileDone => exact execCompileDone_k (Loose.mono (b := compileDoneTouches.mask) hK masks_sub3.2.2.2.2.2.2.2.2.2.2.2) h
  | recompile => exact execRecompile_k (Loose.mono (b := recompileTouches.mask) hK masks_sub4.1) h
  | applyStart => exact execApplyStart_k (Loose.mono (b := applyStartTouches.mask) hK masks_sub4.2.1) h
  | applyTick => exact execApplyTick_k (Loose.mono (b := applyTickTouches.mask) hK masks_sub4.2.2.1) h
  | changeDone => exact execChangeDone_k (Loose.mono (b := changeDoneTouches.mask) hK masks_sub4.2.2.2.1) h
  | chunkApply => exact execChunkApply_k (Loose.mono (b := applyTickTouches.mask) hK masks_sub4.2.2.1) h
  | tapClear => exact execTapClear_k (Loose.mono (b := tapClearTouches.mask) hK masks_sub4.2.2.2.2.1) h
  | sceneGo m w => exact execSceneGo_at (Loose.mono (b := sceneGoTouches.mask) hK masks_sub4.2.2.2.2.2.1) h m w
  | sceneDefectTrigger k => exact execSceneDefectTrigger_k (Loose.mono (b := sceneDefectTriggerTouches.mask) hK masks_sub4.2.2.2.2.2.2.1) h k
  | sceneQueue => exact execSceneQueue_k (Loose.mono (b := sceneQueueTouches.mask) hK masks_sub4.2.2.2.2.2.2.2.1) h
  | sceneStart => exact execSceneStart_k (Loose.mono (b := sceneStartTouches.mask) hK masks_sub4.2.2.2.2.2.2.2.2.1) h
  | replaceGo m w => exact execReplaceGo_at (Loose.mono (b := replaceGoTouches.mask) hK masks_sub4.2.2.2.2.2.2.2.2.2.1) h m w
  | replaceStep => exact execReplaceStep_k (Loose.mono (b := applyTickTouches.mask) hK masks_sub4.2.2.1) h
  | mrecRead m => exact execMrecRead_k (Loose.mono (b := pairLowReadTouches.mask) hK masks_sub0.2.2.1) h m
  | scarfWindowEval g => exact execScarfWindowEval_k (Loose.mono (b := scarfWindowEvalTouches.mask) hK masks_sub4.2.2.2.2.2.2.2.2.2.2.1) h g
  | scarfWtrExpiry g => exact execScarfWtrExpiry_k (Loose.mono (b := scarfWindowEvalTouches.mask) hK masks_sub4.2.2.2.2.2.2.2.2.2.2.1) h g
  | wtrClear m g w => exact execWtrClear_at (Loose.mono (b := wtrClearTouches.mask) hK masks_sub4.2.2.2.2.2.2.2.2.2.2.2) h m g w
  | grainScanRead m => exact execGrainScanRead_k (Loose.mono (b := pairLowReadTouches.mask) hK masks_sub0.2.2.1) h m
  | refFailure ref mon => exact execRefFailure_k (Loose.mono (b := refFailureTouches.mask) hK masks_sub5.1) h ref mon
  | refHoldoffExpiry ref => exact execRefHoldoffExpiry_k (Loose.mono (b := refHoldoffExpiryTouches.mask) hK masks_sub5.2.1) h ref
  | refConditionClear ref mon gathered => exact execRefConditionClear_k (Loose.mono (b := refConditionClearTouches.mask) hK masks_sub5.2.2.1) h ref mon gathered
  | phaseJump ref size => exact execPhaseJump_k (Loose.mono (b := phaseJumpTouches.mask) hK masks_sub5.2.2.2.1) h ref size
  | refWtrExpiry ref => exact execRefWtrExpiry_k (Loose.mono (b := refWtrExpiryTouches.mask) hK masks_sub5.2.2.2.2.1) h ref
  | force m w => exact execForce_at (Loose.mono (b := forceTouches.mask) hK masks_sub5.2.2.2.2.2.1) h m w
  | manual m w => exact execManual_at (Loose.mono (b := forceTouches.mask) hK masks_sub5.2.2.2.2.2.1) h m w
  | clear m w => exact execClear_at (Loose.mono (b := forceTouches.mask) hK masks_sub5.2.2.2.2.2.1) h m w
  | realign m w => exact execRealign_at (Loose.mono (b := forceTouches.mask) hK masks_sub5.2.2.2.2.2.1) h m w
  | learnReset m w => exact execLearnReset_at (Loose.mono (b := forceTouches.mask) hK masks_sub5.2.2.2.2.2.1) h m w
  | bridgeHoldEnd delta pps => exact execBridgeHoldEnd_k (Loose.mono (b := bridgeHoldEndTouches.mask) hK masks_sub5.2.2.2.2.2.2.1) h delta pps
  | captureComplete => exact execCaptureComplete_k (Loose.mono (b := captureCompleteTouches.mask) hK masks_sub5.2.2.2.2.2.2.2.1) h
  | holdoverExpire => exact execHoldoverExpire_k (Loose.mono (b := holdoverExpireTouches.mask) hK masks_sub5.2.2.2.2.2.2.2.2.1) h
  | epochEnd e => exact execEpochEnd_k (Loose.mono (b := epochEndTouches.mask) hK masks_sub5.2.2.2.2.2.2.2.2.2.1) h e
  | dpllSwap shadow => exact execDpllSwap_k ((Loose.mono (b := dpllSwapTouches.mask) hK masks_sub5.2.2.2.2.2.2.2.2.2.2.1).mono (by decide)) h shadow
  | shadowRestore => exact execShadowRestore_k ((Loose.mono (b := shadowRestoreTouches.mask) hK masks_sub5.2.2.2.2.2.2.2.2.2.2.2).mono (by decide)) h
  | dpllMismatch => exact execDpllMismatch_k (Loose.mono (b := dpllMismatchTouches.mask) hK masks_sub6.1) h
  | heartbeatRx l ws => exact execHeartbeatRx_k (Loose.mono (b := heartbeatRxTouches.mask) hK masks_sub6.2.1) h l ws
  | heartbeatLoss => exact execHeartbeatLoss_k (Loose.mono (b := heartbeatLossTouches.mask) hK masks_sub6.2.2.1) h
  | isolate => exact execIsolate_k (Loose.mono (b := isolateTouches.mask) hK masks_sub6.2.2.2.1) h
  | arbChange asserted c => exact execArbChange_k (Loose.mono (b := arbChangeTouches.mask) hK masks_sub6.2.2.2.2.1) h asserted c
  | startupWaitExpiry => exact execStartupWaitExpiry_k (Loose.mono (b := startupWaitExpiryTouches.mask) hK masks_sub6.2.2.2.2.2.1) h
  | sideConflictTimeout => exact execSideConflictTimeout_k (Loose.mono (b := sideConflictTimeoutTouches.mask) hK masks_sub6.2.2.2.2.2.2.1) h
  | change r => exact execChange_k (Loose.mono (b := changeTouches.mask) hK masks_sub6.2.2.2.2.2.2.2.1) h r
  | rearm r => exact execRearm_k (Loose.mono (b := changeTouches.mask) hK masks_sub6.2.2.2.2.2.2.2.1) h r
  | cancel r => exact execCancel_k (Loose.mono (b := changeTouches.mask) hK masks_sub6.2.2.2.2.2.2.2.1) h r
  | commit r => exact execCommit_k (Loose.mono (b := changeTouches.mask) hK masks_sub6.2.2.2.2.2.2.2.1) h r
  | bent r => exact execBent_k (Loose.mono (b := changeTouches.mask) hK masks_sub6.2.2.2.2.2.2.2.1) h r
  | command r => exact execCommand_k (Loose.mono (b := changeTouches.mask) hK masks_sub6.2.2.2.2.2.2.2.1) h r
  | info r => exact execInfo_k (Loose.mono (b := changeTouches.mask) hK masks_sub6.2.2.2.2.2.2.2.1) h r
  | journalGap => exact execJournalGap_k (Loose.mono (b := journalGapTouches.mask) hK masks_sub6.2.2.2.2.2.2.2.2.1) h
  | copyStart epoch => exact execCopyStart_k (Loose.mono (b := copyStartTouches.mask) hK masks_sub6.2.2.2.2.2.2.2.2.2.1) h epoch
  | copySlice j entries => exact execCopySlice_k (Loose.mono (b := copySliceTouches.mask) hK masks_sub6.2.2.2.2.2.2.2.2.2.2.1) h j entries
  | epochInstall => exact execEpochInstall_k (Loose.mono (b := epochInstallTouches.mask) hK masks_sub6.2.2.2.2.2.2.2.2.2.2.2) h
  | standbyReady => exact execStandbyReady_k (Loose.mono (b := standbyReadyTouches.mask) hK masks_sub7.1) h
  | standbyUnready => exact execStandbyUnready_k (Loose.mono (b := standbyReadyTouches.mask) hK masks_sub7.1) h
  | deviceFail why => exact execDeviceFail_k (Loose.mono (b := deviceFailTouches.mask) hK masks_sub7.2.1) h why
  | takeoverDecide => exact execTakeoverDecide_k (Loose.mono (b := takeoverDecideTouches.mask) hK masks_sub7.2.2.1) h
  | takeoverEffect => exact execTakeoverEffect_k (Loose.mono (b := takeoverEffectTouches.mask) hK masks_sub7.2.2.2.1) h
  | takeoverFail => exact execTakeoverFail_k (Loose.mono (b := deviceFailTouches.mask) hK masks_sub7.2.1) h
  | switch m w => exact execSwitch_at (Loose.mono (b := switchTouches.mask) hK masks_sub7.2.2.2.2.1) h m w
  | mateWtrExpiry => exact execMateWtrExpiry_k (Loose.mono (b := mateWtrExpiryTouches.mask) hK masks_sub7.2.2.2.2.2.1) h
  | rejoin m w => exact execRejoin_at (Loose.mono (b := switchTouches.mask) hK masks_sub7.2.2.2.2.1) h m w
  | recopy m w => exact execRecopy_at (Loose.mono (b := switchTouches.mask) hK masks_sub7.2.2.2.2.1) h m w
  | raiseStart => exact execRaiseStart_k ((Loose.mono (b := raiseStartTouches.mask) hK masks_sub7.2.2.2.2.2.2.1).mono (by decide)) h
  | resetAssert => exact execResetAssert_k (Loose.mono (b := resetAssertTouches.mask) hK masks_sub14.2.2.2.1) h
  | supplyFault => exact execSupplyFault_k ((Loose.mono (b := raiseStartTouches.mask) hK masks_sub7.2.2.2.2.2.2.1).mono (by decide)) h
  | fuseReadDone f side slow => exact execFuseReadDone_k (Loose.mono (b := fuseReadDoneTouches.mask) hK masks_sub7.2.2.2.2.2.2.2.1) h f side slow
  | memoryClearDone fl => exact execMemoryClearDone_k (Loose.mono (b := memoryClearDoneTouches.mask) hK masks_sub7.2.2.2.2.2.2.2.2.1) h fl
  | ddrTrainingDone config temp failed => exact execDdrTrainingDone_k (Loose.mono (b := ddrTrainingDoneTouches.mask) hK masks_sub7.2.2.2.2.2.2.2.2.2.1) h config temp failed
  | slotVerifyDone img => exact execSlotVerifyDone_k (Loose.mono (b := slotVerifyDoneTouches.mask) hK masks_sub7.2.2.2.2.2.2.2.2.2.2.1) h img
  | joinersReady failed => exact execJoinersReady_k (Loose.mono (b := joinersReadyTouches.mask) hK masks_sub7.2.2.2.2.2.2.2.2.2.2.2) h failed
  | p4End => exact execP4End_k (Loose.mono (b := p4EndTouches.mask) hK masks_sub8.1) h
  | p5End => exact execP5End_k (Loose.mono (b := p5EndTouches.mask) hK masks_sub8.2.1) h
  | raiseReady drs => exact execRaiseReady_k (Loose.mono (b := raiseReadyTouches.mask) hK masks_sub8.2.2.1) h drs
  | raiseWatchdog => exact execRaiseWatchdog_k ((Loose.mono (b := raiseStartTouches.mask) hK masks_sub7.2.2.2.2.2.2.1).mono (by decide)) h
  | jtagExtestLoad k => exact execJtagExtestLoad_k (Loose.mono (b := jtagExtestLoadTouches.mask) hK masks_sub8.2.2.2.1) h k
  | jtagExtestLeave => exact execJtagExtestLeave_k ((Loose.mono (b := raiseStartTouches.mask) hK masks_sub7.2.2.2.2.2.2.1).mono (by decide)) h
  | confirm m w => exact execConfirm_at (Loose.mono (b := confirmTouches.mask) hK masks_sub8.2.2.2.2.1) h m w
  | verify m w => exact execVerify_at (Loose.mono (b := confirmTouches.mask) hK masks_sub8.2.2.2.2.1) h m w
  | program m w => exact execProgram_at (Loose.mono (b := confirmTouches.mask) hK masks_sub8.2.2.2.2.1) h m w
  | imgOpDone img => exact execImgOpDone_k (Loose.mono (b := imgOpDoneTouches.mask) hK masks_sub8.2.2.2.2.2.1) h img
  | liveGo m w img => exact execLiveGo_at (Loose.mono (b := liveGoTouches.mask) hK masks_sub14.1) h m w img
  | liveCoreDone => exact execLiveCoreDone_k (Loose.mono (b := liveCoreDoneTouches.mask) hK masks_sub8.2.2.2.2.2.2.1) h
  | liveCoreTimeout selfTest => exact execLiveCoreTimeout_k (Loose.mono (b := liveCoreTimeoutTouches.mask) hK masks_sub8.2.2.2.2.2.2.2.1) h selfTest
  | svnBurn m w => exact execSvnBurn_at (Loose.mono (b := confirmTouches.mask) hK masks_sub8.2.2.2.2.1) h m w
  | recoverGo m w => exact execRecoverGo_at (Loose.mono (b := confirmTouches.mask) hK masks_sub8.2.2.2.2.1) h m w
  | imgAbort m w => exact execImgAbort_at (Loose.mono (b := confirmTouches.mask) hK masks_sub8.2.2.2.2.1) h m w
  | imgBootWrite m w => exact execImgBootWrite_at (Loose.mono (b := imgBootWriteTouches.mask) hK masks_sub8.2.2.2.2.2.2.2.2.1) h m w
  | pcieConfigRequest p r => exact execPcieConfigRequest_k (Loose.mono (b := pcieConfigRequestTouches.mask) hK masks_sub8.2.2.2.2.2.2.2.2.2.1) h p r
  | id => exact execId_k (Loose.mono (b := idTouches.mask) hK masks_sub8.2.2.2.2.2.2.2.2.2.2.1) h
  | status => exact execStatus_k (Loose.mono (b := idTouches.mask) hK masks_sub8.2.2.2.2.2.2.2.2.2.2.1) h
  | read a len => exact execRead_k (Loose.mono (b := pairLowReadTouches.mask) hK masks_sub0.2.2.1) h a len
  | write a len ws => exact execWrite_k (Loose.mono (b := registerWriteTouches.mask) hK masks_sub0.2.1) h a len ws
  | uread x len => exact execUread_k (Loose.mono (b := ureadTouches.mask) hK masks_sub8.2.2.2.2.2.2.2.2.2.2.2) h x len
  | quad => exact execQuad_k (Loose.mono (b := quadTouches.mask) hK masks_sub9.1) h
  | single => exact execSingle_k (Loose.mono (b := quadTouches.mask) hK masks_sub9.1) h
  | tunnelGo m w => exact execTunnelGo_at (Loose.mono (b := tunnelGoTouches.mask) hK masks_sub9.2.1) h m w
  | tunnelRequest unpriv write a w => exact execTunnelRequest_k (Loose.mono (b := tunnelRequestTouches.mask) hK masks_sub9.2.2.1) h unpriv write a w
  | tunnelDone answer => exact execTunnelDone_k (Loose.mono (b := tunnelDoneTouches.mask) hK masks_sub9.2.2.2.1) h answer
  | claim m w => exact execClaim_at (Loose.mono (b := claimTouches.mask) hK masks_sub9.2.2.2.2.1) h m w
  | renew m w => exact execRenew_at (Loose.mono (b := claimTouches.mask) hK masks_sub9.2.2.2.2.1) h m w
  | release m w => exact execRelease_at (Loose.mono (b := claimTouches.mask) hK masks_sub9.2.2.2.2.1) h m w
  | handover m w => exact execHandover_at (Loose.mono (b := claimTouches.mask) hK masks_sub9.2.2.2.2.1) h m w
  | leaseExpiry => exact execLeaseExpiry_k (Loose.mono (b := leaseExpiryTouches.mask) hK masks_sub9.2.2.2.2.2.1) h
  | handoverTimeout => exact execHandoverTimeout_k (Loose.mono (b := handoverTimeoutTouches.mask) hK masks_sub9.2.2.2.2.2.2.1) h
  | ownerPortLoss p => exact execOwnerPortLoss_k (Loose.mono (b := ownerPortLossTouches.mask) hK masks_sub9.2.2.2.2.2.2.2.1) h p
  | commitGo m w => exact execCommitGo_at (Loose.mono (b := commitGoTouches.mask) hK masks_sub9.2.2.2.2.2.2.2.2.1) h m w
  | discard m w => exact execDiscard_at (Loose.mono (b := commitGoTouches.mask) hK masks_sub9.2.2.2.2.2.2.2.2.1) h m w
  | commitApply => unfold exec; exact execCommitApply_k (Loose.mono (b := commitApplyTouches.mask) hK masks_sub9.2.2.2.2.2.2.2.2.2.1) h
  | eventRecord => exact execEventRecord_k (Loose.mono (b := eventRecordTouches.mask) hK masks_sub9.2.2.2.2.2.2.2.2.2.2.1) h
  | eventLogRecord => exact execEventLogRecord_k (Loose.mono (b := eventLogRecordTouches.mask) hK masks_sub9.2.2.2.2.2.2.2.2.2.2.2) h
  | msixEoi m p w => exact execMsixEoi_at (Loose.mono (b := msixEoiTouches.mask) hK masks_sub10.1) h m p w
  | msixSend p v => exact execMsixSend_k (Loose.mono (b := msixSendTouches.mask) hK masks_sub10.2.1) h p v
  | defaultAccess m v write k => exact execDefaultAccess_k (Loose.mono (b := defaultAccessTouches.mask) hK masks_sub10.2.2.1) h m v write k
  | matrixTimeout m a target write => exact execMatrixTimeout_k (Loose.mono (b := matrixTimeoutTouches.mask) hK masks_sub10.2.2.2.1) h m a target write
  | masterReset m b => exact execMasterReset_k (Loose.mono (b := masterResetTouches.mask) hK masks_sub10.2.2.2.2.1) h m b
  | lockAcquire m k => exact execLockAcquire_k (Loose.mono (b := pairLowReadTouches.mask) hK masks_sub0.2.2.1) h m k
  | lockRelease m k w => exact execLockRelease_at (Loose.mono (b := lockReleaseTouches.mask) hK masks_sub14.2.1) h m k w
  | soundRegion fails => exact execSoundRegion_k (Loose.mono (b := soundRegionTouches.mask) hK masks_sub10.2.2.2.2.2.1) h fails
  | soundAbort => exact execSoundAbort_k (Loose.mono (b := soundAbortTouches.mask) hK masks_sub10.2.2.2.2.2.2.1) h
  | soundBankSwap => exact execSoundBankSwap_k (Loose.mono (b := soundBankSwapTouches.mask) hK masks_sub10.2.2.2.2.2.2.2.1) h
  | soundBankTestDone fails => exact execSoundBankTestDone_k (Loose.mono (b := soundBankTestDoneTouches.mask) hK masks_sub10.2.2.2.2.2.2.2.2.1) h fails
  | ddrRetrain n why => exact execDdrRetrain_at (Loose.mono (b := ddrRetrainTouches.mask) hK masks_sub14.2.2.1) h n why
  | ddrRetrainDone ok temp => exact execDdrRetrainDone_k (Loose.mono (b := ddrRetrainDoneTouches.mask) hK masks_sub10.2.2.2.2.2.2.2.2.2.1) h ok temp
  | ddrPatrol n corrected => exact execDdrPatrol_k (Loose.mono (b := ddrPatrolTouches.mask) hK masks_sub10.2.2.2.2.2.2.2.2.2.2.1) h n corrected
  | ddrUnitRebuild m x lost => exact execDdrUnitRebuild_k (Loose.mono (b := ddrUnitRebuildTouches.mask) hK masks_sub10.2.2.2.2.2.2.2.2.2.2.2) h m x lost
  | snapGo m w => exact execSnapGo_at (Loose.mono (b := snapGoTouches.mask) hK masks_sub11.1) h m w
  | snapshot => exact execSnapshot_k (Loose.mono (b := snapshotTouches.mask) hK masks_sub11.2.1) h
  | clearGo m w => exact execClearGo_at (Loose.mono (b := clearGoTouches.mask) hK masks_sub11.2.2.1) h m w
  | counterClear => exact execCounterClear_k (Loose.mono (b := counterClearTouches.mask) hK masks_sub11.2.2.2.1) h
  | bankCounterRead m c => exact execBankCounterRead_k (Loose.mono (b := pairLowReadTouches.mask) hK masks_sub0.2.2.1) h m c
  | bankCounterWrite m c low high events => exact execBankCounterWrite_at (Loose.mono (b := bankCounterWriteTouches.mask) hK masks_sub11.2.2.2.2.1) h m c low high events
  | archiveWrite => exact execArchiveWrite_k (Loose.mono (b := archiveWriteTouches.mask) hK masks_sub11.2.2.2.2.2.1) h
  | pegSelect => exact execPegSelect_k (Loose.mono (b := pegSelectTouches.mask) hK masks_sub11.2.2.2.2.2.2.1) h
  | pegComplete page src => exact execPegComplete_k (Loose.mono (b := pegCompleteTouches.mask) hK masks_sub11.2.2.2.2.2.2.2.1) h page src
  | pegRecRead m => exact execPegRecRead_k (Loose.mono (b := pairLowReadTouches.mask) hK masks_sub0.2.2.1) h m
  | pop m w => exact execPop_at (Loose.mono (b := popTouches.mask) hK masks_sub11.2.2.2.2.2.2.2.2.1) h m w
  | pegDmaMove => exact execPegDmaMove_k (Loose.mono (b := pegDmaMoveTouches.mask) hK masks_sub11.2.2.2.2.2.2.2.2.2.1) h
  | laneSubstTrigger x why => exact execLaneSubstTrigger_k (Loose.mono (b := laneSubstTriggerTouches.mask) hK masks_sub11.2.2.2.2.2.2.2.2.2.2.1) h x why
  | lamSubstSelect => exact execLamSubstSelect_k (Loose.mono (b := lamSubstSelectTouches.mask) hK masks_sub11.2.2.2.2.2.2.2.2.2.2.2) h
  | fecSubstSwitch n agree => exact execFecSubstSwitch_k (Loose.mono (b := fecSubstSwitchTouches.mask) hK masks_sub12.1) h n agree
  | joinerSubstTrigger k => exact execJoinerSubstTrigger_k (Loose.mono (b := joinerSubstTriggerTouches.mask) hK masks_sub12.2.1) h k
  | joinerSubstDone dataOk => exact execJoinerSubstDone_k (Loose.mono (b := joinerSubstDoneTouches.mask) hK masks_sub12.2.2.1) h dataOk
  | dpllTestTrigger => exact execDpllTestTrigger_k (Loose.mono (b := shadowRestoreTouches.mask) hK masks_sub5.2.2.2.2.2.2.2.2.2.2.2) h
  | scribeEngineRetire e => exact execScribeEngineRetire_k (Loose.mono (b := scribeEngineRetireTouches.mask) hK masks_sub12.2.2.2.1) h e
  | ageingSample a => exact execAgeingSample_k (Loose.mono (b := ageingSampleTouches.mask) hK masks_sub12.2.2.2.2.1) h a
  | tallyRecord => exact execTallyRecord_k (Loose.mono (b := tallyRecordTouches.mask) hK masks_sub12.2.2.2.2.2.1) h
  | lcGo m w => exact execLcGo_at (Loose.mono (b := lcGoTouches.mask) hK masks_sub12.2.2.2.2.2.2.1) h m w
  | lcVerifyDone => exact execLcVerifyDone_k (Loose.mono (b := lcVerifyDoneTouches.mask) hK masks_sub12.2.2.2.2.2.2.2.1) h
  | lcWipe => exact execLcWipe_k (Loose.mono (b := lcWipeTouches.mask) hK masks_sub12.2.2.2.2.2.2.2.2.1) h
  | tamperCondition src => exact execTamperCondition_k (Loose.mono (b := tamperConditionTouches.mask) hK masks_sub12.2.2.2.2.2.2.2.2.2.1) h src
  | mapRebuildDone => exact execMapRebuildDone_k (Loose.mono (b := mapRebuildDoneTouches.mask) hK masks_sub12.2.2.2.2.2.2.2.2.2.2.1) h
  | sceneReloadDone img => exact execSceneReloadDone_k (Loose.mono (b := sceneReloadDoneTouches.mask) hK masks_sub12.2.2.2.2.2.2.2.2.2.2.2) h img
  | rekeyDone => exact execRekeyDone_k (Loose.mono (b := rekeyDoneTouches.mask) hK masks_sub13.1) h
  | perstNDeassert p => exact execPerstNDeassert_k (Loose.mono (b := msixSendTouches.mask) hK masks_sub10.2.1) h p
  | counterWrap c => exact execCounterWrap_k (Loose.mono (b := counterWrapTouches.mask) hK masks_sub13.2) h c
  | dpllBuiltInTestDone pass => exact execDpllBuiltInTestDone_k ((Loose.mono (b := dpllSwapTouches.mask) hK masks_sub5.2.2.2.2.2.2.2.2.2.2.1).mono (by decide)) h pass

/-- LC_WIPE outside a decommissioning keeps every property loose on the footprint of the end of a wipe. -/
theorem lcWipe_k (hK : Loose lcEndTouches.mask K) (h : K s)
    (hd : ∀ key now, s.guarding.done ≠ some (1, 4, key, now)) : ∃ z, exec .lcWipe s = .next z ∧ K z := by
  exact execLcWipe_at (Loose.mono (b := lcEndTouches.mask) hK masks_sub14.2.2.2.2) h hd

end Sys2Proof.Machine
end

