-- ==== Sys2Proof/Laws/Kept.lean ====
section
/-! SUPPORT. Properties that are loose: the frame of a footprint, the canonical form of memory, the forward-only fuses, the queue of commands. -/

set_option Elab.async false

namespace Sys2Proof.Machine

/-! ### The mask of a footprint -/

theorem Part.bit_range (x : Part) : 2 ≤ x.bit ∧ x.bit < 56 := by cases x <;> decide

theorem Part.bit_inj {x y : Part} (h : x.bit = y.bit) : x = y := by
  revert h
  cases x <;> cases y <;> first | (intro; rfl) | (intro h; exact absurd h (by decide))

/-- What does not begin afresh. -/
theorem Part.not_afresh {x : Part} (h : x ∉ Part.afresh) : x = .fuses ∨ x = .free ∨ x = .resp ∨ x = .tallyRaw := by
  revert h
  cases x <;> decide

theorem anyMask_low : ∀ k < 63, anyMask.testBit k = false := by decide +kernel

theorem Footprint.mem_mask (p : Footprint) {k : Nat} (ha : p.anyField = false ∨ k < 63) : p.mask.testBit k = true ↔
    k = 1 ∨ (∃ f ∈ p.fields, 64 + f.id = k) ∨ (∃ x ∈ p.parts, x.bit = k) ∨ (Part.afresh.all p.parts.contains = true ∧ k ∈ [0, 60])
      ∨ (Part.mem ∈ p.parts ∧ k ∈ [56, 57, 58, 59, 61, 62]) := by
  have h0 : (if p.anyField then anyMask else 0).testBit k = false := by
    split
    · next h =>
      rcases ha with ha | ha
      · rw [h] at ha
        cases ha
      · exact anyMask_low _ ha
    · exact Nat.zero_testBit _
  have h1 : k ∈ (if Part.afresh.all p.parts.contains then [0, 60] else []) ↔ Part.afresh.all p.parts.contains = true ∧ k ∈ [0, 60] := by
    split
    · next h => exact ⟨fun e => ⟨h, e⟩, fun e => e.2⟩
    · next h => exact ⟨fun e => absurd e List.not_mem_nil, fun e => absurd e.1 h⟩
  have h2 : k ∈ (if p.parts.contains .mem then [56, 57, 58, 59, 61, 62] else []) ↔ Part.mem ∈ p.parts ∧ k ∈ [56, 57, 58, 59, 61, 62] := by
    split
    · next h => simp [List.contains_iff_mem.mp h]
    · next h => exact ⟨fun e => absurd e List.not_mem_nil, fun e => absurd (List.contains_iff_mem.mpr e.1) h⟩
  unfold Footprint.mask
  rw [Nat.testBit_or, h0, Bool.or_false, testBit_maskOf, List.contains_iff_mem]
  rw [List.mem_append, List.mem_append, h1, h2, List.cons_append, List.mem_cons, List.mem_append, List.mem_map, List.mem_map]
  simp only [or_assoc]

theorem Footprint.testBit_part (p : Footprint) (x : Part) : p.mask.testBit x.bit = decide (x ∈ p.parts) := by
  have hr := x.bit_range
  refine Bool.eq_iff_iff.mpr ((p.mem_mask (.inr (by omega))).trans ⟨?_, fun h => ?_⟩)
  · rintro (h | ⟨f, -, h⟩ | ⟨y, hy, h⟩ | ⟨-, h⟩ | ⟨-, h⟩)
    · omega
    · omega
    · exact decide_eq_true (Part.bit_inj h ▸ hy)
    · simp only [List.mem_cons, List.not_mem_nil, or_false] at h
      omega
    · simp only [List.mem_cons, List.not_mem_nil, or_false] at h
      omega
  · exact .inr (.inr (.inl ⟨x, of_decide_eq_true h, rfl⟩))

theorem Footprint.testBit_high (p : Footprint) {k : Nat} (hk : 63 ≤ k) (ha : p.anyField = false) :
    p.mask.testBit k = p.fields.any (fun f => 64 + f.id == k) := by
  refine Bool.eq_iff_iff.mpr ((p.mem_mask (.inl ha)).trans ⟨?_, fun h => ?_⟩)
  · rintro (h | ⟨f, hf, h⟩ | ⟨y, -, h⟩ | ⟨-, h⟩ | ⟨-, h⟩)
    · omega
    · exact List.any_eq_true.mpr ⟨f, hf, beq_iff_eq.mpr h⟩
    · have := y.bit_range
      omega
    · simp only [List.mem_cons, List.not_mem_nil, or_false] at h
      omega
    · simp only [List.mem_cons, List.not_mem_nil, or_false] at h
      omega
  · obtain ⟨f, hf, h⟩ := List.any_eq_true.mp h
    exact .inr (.inl ⟨f, hf, eq_of_beq h⟩)

/-- The bits of the parts of the memory stand where the memory is named. -/
theorem Footprint.testBit_area (p : Footprint) {k : Nat} (hk : k ∈ [56, 57, 58, 59, 61, 62]) (h : p.mask.testBit k = true) : Part.mem ∈ p.parts := by
  have hk' : k = 56 ∨ k = 57 ∨ k = 58 ∨ k = 59 ∨ k = 61 ∨ k = 62 := by simpa using hk
  rcases (p.mem_mask (.inr (by omega))).mp h with h | ⟨f, -, h⟩ | ⟨y, -, h⟩ | ⟨-, h⟩ | ⟨h, -⟩
  · omega
  · omega
  · have := y.bit_range
    omega
  · simp only [List.mem_cons, List.not_mem_nil, or_false] at h
    omega
  · exact h

/-- A fresh start is named where every part is that begins afresh. -/
theorem Footprint.testBit_fresh (p : Footprint) (h : p.mask.testBit 60 = true) : ∀ x ∈ Part.afresh, x ∈ p.parts := by
  rcases (p.mem_mask (.inr (by decide))).mp h with h | ⟨f, -, h⟩ | ⟨y, -, h⟩ | ⟨h, -⟩ | ⟨-, h⟩
  · omega
  · omega
  · have := y.bit_range
    omega
  · exact fun x hx => List.contains_iff_mem.mp (List.all_eq_true.mp h x hx)
  · exact absurd h (by decide)

theorem Footprint.regOk_names (p : Footprint) {f : Fld} (h : p.names f = false) : regOk p.mask f.id = false := by
  unfold Footprint.names at h
  obtain ⟨ha, hf⟩ := Bool.or_eq_false_iff.mp h
  unfold regOk
  rw [p.testBit_high (k := 63) (by decide) ha, p.testBit_high (k := 64 + f.id) (by omega) ha]
  have h63 : p.fields.any (fun g => 64 + g.id == 63) = false := by
    refine List.any_eq_false.mpr ?_
    intro g _ hg
    have := eq_of_beq hg
    omega
  rw [h63, Bool.false_and, Bool.false_or]
  refine List.any_eq_false.mpr ?_
  intro g hg he
  refine List.any_eq_false.mp hf g hg (beq_iff_eq.mpr ?_)
  have := eq_of_beq he
  omega

/-! ### Frames -/

theorem Framed.refl (p : Footprint) (s : State) : Framed p s s where
  queue := rfl
  fields _ _ _ := rfl
  parts x _ := by cases x <;> rfl

theorem Framed.of_agree {p : Footprint} {s0 s t : State} (h : Framed p s0 s) (hg : Agree p.mask s t) : Framed p s0 t where
  queue := hg.pending.trans h.queue
  fields f i hn := by
    have e := hg.regs f.id (p.regOk_names hn)
    unfold State.fld
    rw [e]
    exact h.fields f i hn
  parts x hx := by
    have hb : p.mask.testBit x.bit = false := by rw [p.testBit_part x, decide_eq_false hx]
    have hs := h.parts
    cases x with
    | staged => exact (hg.staged hb).trans (hs .staged hx)
    | perMaster => exact (hg.perMaster hb).trans (hs .perMaster hx)
    | latHigh => exact (hg.latHigh hb).trans (hs .latHigh hx)
    | heldLow => exact (hg.heldLow hb).trans (hs .heldLow hx)
    | frameCycle => exact (hg.frameCycle hb).trans (hs .frameCycle hx)
    | cycle => exact (hg.cycle hb).trans (hs .cycle hx)
    | free => exact (hg.free hb).trans (hs .free hx)
    | resp => exact (hg.resp hb).trans (hs .resp hx)
    | ringQ => exact (hg.ringQ hb).trans (hs .ringQ hx)
    | logQ => exact (hg.logQ hb).trans (hs .logQ hx)
    | mem => exact hg.mem.trans (hs .mem hx)
    | lanes => exact (hg.lanes hb).trans (hs .lanes hx)
    | sill => exact (hg.sill hb).trans (hs .sill hx)
    | sched => exact (hg.sched hb).trans (hs .sched hx)
    | tap => exact (hg.tap hb).trans (hs .tap hx)
    | longMem => exact (hg.longMem hb).trans (hs .longMem hx)
    | retPages => exact (hg.retPages hb).trans (hs .retPages hx)
    | plate => exact (hg.plate hb).trans (hs .plate hx)
    | links => exact (hg.links hb).trans (hs .links hx)
    | actions => exact (hg.actions hb).trans (hs .actions hx)
    | pauses => exact (hg.pauses hb).trans (hs .pauses hx)
    | mdlyHeld => exact (hg.mdlyHeld hb).trans (hs .mdlyHeld hx)
    | chg => exact (hg.chg hb).trans (hs .chg hx)
    | queued => exact (hg.queued hb).trans (hs .queued hx)
    | scnTrig => exact (hg.scnTrig hb).trans (hs .scnTrig hx)
    | scnQ => exact (hg.scnQ hb).trans (hs .scnQ hx)
    | mrecHeld => exact (hg.mrecHeld hb).trans (hs .mrecHeld hx)
    | sides => exact (hg.sides hb).trans (hs .sides hx)
    | groups => exact (hg.groups hb).trans (hs .groups hx)
    | plumb => exact (hg.plumb hb).trans (hs .plumb hx)
    | mate => exact (hg.mate hb).trans (hs .mate hx)
    | fuses => exact hg.fuses.trans (hs .fuses hx)
    | raise => exact (hg.raise hb).trans (hs .raise hx)
    | pcie => exact (hg.pcie hb).trans (hs .pcie hx)
    | own => exact (hg.own hb).trans (hs .own hx)
    | sampled => exact (hg.sampled hb).trans (hs .sampled hx)
    | tunnel => exact (hg.tunnel hb).trans (hs .tunnel hx)
    | spiQuad => exact (hg.spiQuad hb).trans (hs .spiQuad hx)
    | snd => exact (hg.snd hb).trans (hs .snd hx)
    | ddr => exact (hg.ddr hb).trans (hs .ddr hx)
    | snapFixed => exact (hg.snapFixed hb).trans (hs .snapFixed hx)
    | chainHeld => exact (hg.chainHeld hb).trans (hs .chainHeld hx)
    | snapAt => exact (hg.snapAt hb).trans (hs .snapAt hx)
    | snapped => exact (hg.snapped hb).trans (hs .snapped hx)
    | clear => exact (hg.clear hb).trans (hs .clear hx)
    | archive => exact (hg.archive hb).trans (hs .archive hx)
    | pegs => exact (hg.pegs hb).trans (hs .pegs hx)
    | tally => exact (hg.tally hb).trans (hs .tally hx)
    | tallyQ => exact (hg.tallyQ hb).trans (hs .tallyQ hx)
    | tallySecond => exact (hg.tallySecond hb).trans (hs .tallySecond hx)
    | tallyLost => exact (hg.tallyLost hb).trans (hs .tallyLost hx)
    | sist => exact (hg.sist hb).trans (hs .sist hx)
    | guarding => exact (hg.guarding hb).trans (hs .guarding hx)
    | tallyRaw => exact (hg.tallyRaw hb).trans (hs .tallyRaw hx)

/-- A state that differs in one part that the footprint names is framed as before. -/
theorem Framed.part {p : Footprint} {s0 s t : State} (h : Framed p s0 s) (hq : t.pending = s.pending) (hr : t.regs = s.regs)
    (hp : ∀ x, x ∉ p.parts → Part.same s t x) : Framed p s0 t where
  queue := hq.trans h.queue
  fields f i hn := by
    unfold State.fld
    rw [hr]
    exact h.fields f i hn
  parts x hx := by
    have h1 := h.parts x hx
    have h2 := hp x hx
    cases x <;> exact h2.trans h1

/-- What a command may change by its footprint is all that it changes: the frame is loose on the mask. -/
theorem loose_framed (p : Footprint) (s0 : State) : Loose p.mask (Framed p s0) where
  upd h hg := h.of_agree hg
  setByte hm s h a b := by
    have hin : Part.mem ∈ p.parts := of_decide_eq_true ((p.testBit_part .mem).symm.trans hm)
    refine h.part rfl rfl ?_
    intro x hx
    cases x <;> first | rfl | exact absurd hin hx
  area k hk s h a b ha := by
    have hin : Part.mem ∈ p.parts := p.testBit_area (area_bits ha) hk
    refine h.part rfl rfl ?_
    intro x hx
    cases x <;> first | rfl | exact absurd hin hx
  bank hm s h i _ := by
    have hin : Part.mem ∈ p.parts := p.testBit_area (by decide) hm
    refine h.part rfl rfl ?_
    intro x hx
    cases x <;> first | rfl | exact absurd hin hx
  clear hm s h lo hi := by
    have hin : Part.mem ∈ p.parts := of_decide_eq_true ((p.testBit_part .mem).symm.trans hm)
    refine h.part rfl rfl ?_
    intro x hx
    cases x <;> first | rfl | exact absurd hin hx
  zero hm hd s h lo hi := by
    have hin : Part.mem ∈ p.parts := of_decide_eq_true ((p.testBit_part .mem).symm.trans hm)
    have hin' : Part.ddr ∈ p.parts := of_decide_eq_true ((p.testBit_part .ddr).symm.trans hd)
    refine h.part rfl rfl ?_
    intro x hx
    cases x <;> first | rfl | exact absurd hin hx | exact absurd hin' hx
  secure hm s h := by
    have hin : Part.mem ∈ p.parts := p.testBit_area (by decide) hm
    refine h.part rfl rfl ?_
    intro x hx
    cases x <;> first | rfl | exact absurd hin hx
  rekey hm hd s h := by
    have hin : Part.mem ∈ p.parts := p.testBit_area (by decide) hm
    have hin' : Part.ddr ∈ p.parts := of_decide_eq_true ((p.testBit_part .ddr).symm.trans hd)
    refine h.part rfl rfl ?_
    intro x hx
    cases x <;> first | rfl | exact absurd hin hx | exact absurd hin' hx
  blow hm s h f := by
    have hin : Part.fuses ∈ p.parts := of_decide_eq_true ((p.testBit_part .fuses).symm.trans hm)
    refine h.part rfl rfl ?_
    intro x hx
    cases x <;> first | rfl | exact absurd hin hx
  fresh h1 h2 s t h hq hfu hfr hre hta _ _ := by
    have hany : p.anyField = true := by
      by_contra hn
      have hn := Bool.not_eq_true _ ▸ hn
      rw [p.testBit_high (by decide) hn] at h2
      obtain ⟨f, -, hf⟩ := List.any_eq_true.mp h2
      have := eq_of_beq hf
      omega
    have hev := p.testBit_fresh h1
    refine ⟨hq.trans h.queue, ?_, ?_⟩
    · intro f i hn
      unfold Footprint.names at hn
      rw [hany] at hn
      cases hn
    · intro x hx
      rcases Part.not_afresh (fun e => hx (hev x e)) with rfl | rfl | rfl | rfl
      · exact hfu.trans (h.parts .fuses hx)
      · exact hfr.trans (h.parts .free hx)
      · exact hre.trans (h.parts .resp hx)
      · exact hta.trans (h.parts .tallyRaw hx)

/-! ### Bytes -/

/-- The fixed bases and every byte outside the parts of the memory that the mask names are as in `s0`. -/
structure BytesKept (m : Nat) (s0 t : State) : Prop where
  area : t.area = s0.area
  bytes : ∀ a, (∀ k, m.testBit k = true → ¬ s0.area k a) → t.byte a = s0.byte a

theorem BytesKept.refl (m : Nat) (s : State) : BytesKept m s s := ⟨rfl, fun _ _ => rfl⟩

theorem area_of_regs {s t : State} (h1 : t.regs.get R.MAT_JBASE_BASE.id {} = s.regs.get R.MAT_JBASE_BASE.id {})
    (h2 : t.regs.get R.PLB_HIST_BASE_BASE.id {} = s.regs.get R.PLB_HIST_BASE_BASE.id {})
    (h3 : t.regs.get R.LN_MCH_RXBASE_BASE.id {} = s.regs.get R.LN_MCH_RXBASE_BASE.id {}) : t.area = s.area := by
  funext k a
  unfold State.area State.inJournal State.inHist State.inRing State.fld
  rw [h1, h2, h3]

theorem byte_congr {s t : State} (h1 : t.mem = s.mem) (h2 : t.ddr.zeroed = s.ddr.zeroed) (h3 : t.ddr.keys = s.ddr.keys) (a : Nat) :
    t.byte a = s.byte a := by
  unfold State.byte State.blankAt
  rw [h1, h2, h3]

theorem byte_clearRange (s : State) {lo hi a : Nat} (h : a < lo ∨ hi ≤ a) : (s.clearRange lo hi).byte a = s.byte a := by
  unfold State.byte State.clearRange
  have e : Memory.find (s.mem.filter (fun c => decide (c.1 < lo) || decide (hi ≤ c.1))) a = Memory.find s.mem a := by
    induction s.mem with
    | nil => rfl
    | cons c t ih =>
      obtain ⟨a', b'⟩ := c
      by_cases ha : a = a'
      · subst ha
        rw [List.filter_cons_of_pos (by simpa using h)]
        simp [Memory.find]
      · cases hc : decide (a' < lo) || decide (hi ≤ a') with
        | true =>
          rw [List.filter_cons_of_pos (by exact hc)]
          simp only [Memory.find, if_neg ha]
          exact ih
        | false =>
          rw [List.filter_cons_of_neg (by simp [hc])]
          simp only [Memory.find, if_neg ha]
          exact ih
  dsimp only
  rw [e]
  rfl

theorem byte_rekey (s : State) {a : Nat} (h : a < ddrBase) : s.rekey.byte a = s.byte a := by
  refine Eq.trans ?_ (byte_clearRange s (lo := ddrBase) (hi := 0x3000000000) (.inl h))
  unfold State.byte State.blankAt
  rw [if_pos h, if_pos h]
  rfl

/-- A command whose mask names no more of the memory than some of its parts, and none of their bases, keeps every byte outside them. -/
theorem loose_bytes (s0 : State) {m : Nat} (h12 : m.testBit 12 = false) (h60 : m.testBit 60 = false)
    (h1 : regOk m R.MAT_JBASE_BASE.id = false) (h2 : regOk m R.PLB_HIST_BASE_BASE.id = false)
    (h3 : regOk m R.LN_MCH_RXBASE_BASE.id = false) : Loose m (BytesKept m s0) where
  upd h hg :=
    { area := (area_of_regs (hg.regs _ h1) (hg.regs _ h2) (hg.regs _ h3)).trans h.area
      bytes := fun a ha => (byte_congr hg.mem hg.zeroed hg.keys a).trans (h.bytes a ha) }
  setByte h := absurd h (Bool.eq_false_iff.mp h12)
  area k hk s h a b ha :=
    { area := h.area
      bytes := fun c hc => by
        refine (State.byte_setByte_ne s b ?_).trans (h.bytes c hc)
        rintro rfl
        exact hc k hk (h.area ▸ ha) }
  bank h59 s h i hi :=
    { area := h.area
      bytes := fun c hc => by
        refine (byte_clearRange s ?_).trans (h.bytes c hc)
        have hn : ¬ inBanks c := hc 59 h59
        unfold inBanks within at hn
        unfold joinerBank at hn ⊢
        omega }
  clear h := absurd h (Bool.eq_false_iff.mp h12)
  zero h := absurd h (Bool.eq_false_iff.mp h12)
  secure h62 s h :=
    { area := h.area
      bytes := fun c hc => by
        refine (byte_clearRange s ?_).trans (h.bytes c hc)
        have hn : ¬ inWiped c := hc 62 h62
        unfold inWiped within at hn
        omega }
  rekey h62 _ s h :=
    { area := h.area
      bytes := fun c hc => by
        have hn : ¬ inWiped c := hc 62 h62
        exact (byte_rekey s (Nat.lt_of_not_le (fun e => hn (.inr e)))).trans (h.bytes c hc) }
  blow _ _ h _ := ⟨h.area, h.bytes⟩
  fresh h _ := absurd h (Bool.eq_false_iff.mp h60)

/-! ### Memory, queue and fuses -/

variable {m : Nat}

/-- The canonical form of memory is loose: every memory operation keeps it. -/
theorem loose_memWf : Loose m State.MemWf where
  upd h hg := by
    unfold State.MemWf at h ⊢
    have e : ∀ s t : State, t.ddr.zeroed = s.ddr.zeroed → t.blankAt = s.blankAt := by
      intro s t hz
      funext a
      unfold State.blankAt
      rw [hz]
    rw [hg.mem, e _ _ hg.zeroed]
    exact h
  setByte _ _ h a b := State.memWf_setByte h a b
  area _ _ _ h a b _ := State.memWf_setByte h a b
  bank _ _ h _ _ := State.memWf_clearRange h _ _
  clear _ _ h lo hi := State.memWf_clearRange h lo hi
  zero _ _ _ h lo hi := State.memWf_zeroRange h lo hi
  secure _ _ h := State.memWf_clearRange h _ _
  rekey _ _ _ h := State.memWf_rekey h
  blow _ _ h _ := h
  fresh _ _ _ _ _ _ _ _ _ _ hm _ := by
    refine (Memory.wf_iff _ _).mpr ⟨?_, ?_⟩ <;> rw [hm]
    · exact List.Pairwise.nil
    · intro x hx
      cases hx

/-- The queue of waiting commands is none of a command's business. -/
theorem loose_queue (q : List Instr) : Loose m (fun s => s.pending = q) where
  upd h hg := hg.pending.trans h
  setByte _ _ h _ _ := h
  area _ _ _ h _ _ _ := h
  bank _ _ h _ _ := h
  clear _ _ h _ _ := h
  zero _ _ _ h _ _ := h
  secure _ _ h := h
  rekey _ _ _ h := h
  blow _ _ h _ := h
  fresh _ _ _ _ h hp _ _ _ _ _ _ := hp.trans h

theorem FusesForward.refl (f : Fuses) : FusesForward f f := by
  refine ⟨le_refl _, le_refl _, ?_⟩
  intro k _
  exact ⟨fun h => ⟨h, rfl⟩, fun h => h⟩

theorem FusesForward.trans {f g k : Fuses} (h1 : FusesForward f g) (h2 : FusesForward g k) : FusesForward f k := by
  refine ⟨le_trans h1.1 h2.1, le_trans h1.2.1 h2.2.1, ?_⟩
  intro j hj
  refine ⟨fun hp => ?_, fun hr => ((h2.2.2 j hj).2 (((h1.2.2 j hj).2) hr))⟩
  obtain ⟨a1, a2⟩ := (h1.2.2 j hj).1 hp
  obtain ⟨b1, b2⟩ := (h2.2.2 j hj).1 a1
  exact ⟨b1, b2.trans a2⟩

/-- Fuses read or programmed over others go forward. -/
theorem FusesForward.merge (f g : Fuses) : FusesForward f (mergeFuses f g) := by
  refine ⟨?_, ?_, ?_⟩
  · show f.life ≤ (if f.life ≤ g.life then g.life else f.life)
    split
    · assumption
    · exact le_refl _
  · show f.minSvn.toNat ≤ (raiseSvn f.minSvn g.minSvn).toNat
    unfold raiseSvn
    split
    · assumption
    · exact Nat.le_refl _
  · intro k hk
    refine ⟨fun hp => ⟨?_, ?_⟩, fun hr => ?_⟩
    · show (f.programmed ||| g.programmed).getLsbD k = true
      rw [BitVec.getLsbD_or, hp, Bool.true_or]
    · show ((List.range 4).map (fun j => if f.programmed.getLsbD j then f.hashes.getD j 0 else g.hashes.getD j 0)).getD k 0 = f.hashes.getD k 0
      rw [List.getD_eq_getElem?_getD, List.getElem?_map, List.getElem?_range hk]
      rw [Option.map_some, Option.getD_some, if_pos hp]
    · show (f.revoked ||| g.revoked).getLsbD k = true
      rw [BitVec.getLsbD_or, hr, Bool.true_or]

/-- Fuses at or beyond given ones are loose. -/
theorem loose_fuses (f : Fuses) : Loose m (fun s => FusesForward f s.fuses) where
  upd h hg := by
    show FusesForward f _
    rw [hg.fuses]
    exact h
  setByte _ _ h _ _ := h
  area _ _ _ h _ _ _ := h
  bank _ _ h _ _ := h
  clear _ _ h _ _ := h
  zero _ _ _ h _ _ := h
  secure _ _ h := h
  rekey _ _ _ h := h
  blow _ _ h g := FusesForward.trans h (FusesForward.merge _ g)
  fresh _ _ _ _ h _ hf _ _ _ _ _ := by
    show FusesForward f _
    rw [hf]
    exact h

end Sys2Proof.Machine
end

