-- ==== Sys2Proof/Laws/State.lean ====
section
/-! SUPPORT. One lemma per update and field of the state: what each update of Machine/Ops.lean and of the families leaves as it was. -/

set_option Elab.async false

namespace Sys2Proof.Machine

/-! ### State.setFld -/

@[simp] theorem State.setFld_pending (s : State) (f : Fld) (i v : Nat) : (s.setFld f i v).pending = s.pending := rfl
@[simp] theorem State.setFld_staged (s : State) (f : Fld) (i v : Nat) : (s.setFld f i v).staged = s.staged := rfl
@[simp] theorem State.setFld_perMaster (s : State) (f : Fld) (i v : Nat) : (s.setFld f i v).perMaster = s.perMaster := rfl
@[simp] theorem State.setFld_latHigh (s : State) (f : Fld) (i v : Nat) : (s.setFld f i v).latHigh = s.latHigh := rfl
@[simp] theorem State.setFld_heldLow (s : State) (f : Fld) (i v : Nat) : (s.setFld f i v).heldLow = s.heldLow := rfl
@[simp] theorem State.setFld_frameCycle (s : State) (f : Fld) (i v : Nat) : (s.setFld f i v).frameCycle = s.frameCycle := rfl
@[simp] theorem State.setFld_cycle (s : State) (f : Fld) (i v : Nat) : (s.setFld f i v).cycle = s.cycle := rfl
@[simp] theorem State.setFld_free (s : State) (f : Fld) (i v : Nat) : (s.setFld f i v).free = s.free := rfl
@[simp] theorem State.setFld_resp (s : State) (f : Fld) (i v : Nat) : (s.setFld f i v).resp = s.resp := rfl
@[simp] theorem State.setFld_ringQ (s : State) (f : Fld) (i v : Nat) : (s.setFld f i v).ringQ = s.ringQ := rfl
@[simp] theorem State.setFld_logQ (s : State) (f : Fld) (i v : Nat) : (s.setFld f i v).logQ = s.logQ := rfl
@[simp] theorem State.setFld_mem (s : State) (f : Fld) (i v : Nat) : (s.setFld f i v).mem = s.mem := rfl
@[simp] theorem State.setFld_lanes (s : State) (f : Fld) (i v : Nat) : (s.setFld f i v).lanes = s.lanes := rfl
@[simp] theorem State.setFld_sill (s : State) (f : Fld) (i v : Nat) : (s.setFld f i v).sill = s.sill := rfl
@[simp] theorem State.setFld_sched (s : State) (f : Fld) (i v : Nat) : (s.setFld f i v).sched = s.sched := rfl
@[simp] theorem State.setFld_tap (s : State) (f : Fld) (i v : Nat) : (s.setFld f i v).tap = s.tap := rfl
@[simp] theorem State.setFld_longMem (s : State) (f : Fld) (i v : Nat) : (s.setFld f i v).longMem = s.longMem := rfl
@[simp] theorem State.setFld_retPages (s : State) (f : Fld) (i v : Nat) : (s.setFld f i v).retPages = s.retPages := rfl
@[simp] theorem State.setFld_plate (s : State) (f : Fld) (i v : Nat) : (s.setFld f i v).plate = s.plate := rfl
@[simp] theorem State.setFld_links (s : State) (f : Fld) (i v : Nat) : (s.setFld f i v).links = s.links := rfl
@[simp] theorem State.setFld_actions (s : State) (f : Fld) (i v : Nat) : (s.setFld f i v).actions = s.actions := rfl
@[simp] theorem State.setFld_pauses (s : State) (f : Fld) (i v : Nat) : (s.setFld f i v).pauses = s.pauses := rfl
@[simp] theorem State.setFld_mdlyHeld (s : State) (f : Fld) (i v : Nat) : (s.setFld f i v).mdlyHeld = s.mdlyHeld := rfl
@[simp] theorem State.setFld_chg (s : State) (f : Fld) (i v : Nat) : (s.setFld f i v).chg = s.chg := rfl
@[simp] theorem State.setFld_queued (s : State) (f : Fld) (i v : Nat) : (s.setFld f i v).queued = s.queued := rfl
@[simp] theorem State.setFld_scnTrig (s : State) (f : Fld) (i v : Nat) : (s.setFld f i v).scnTrig = s.scnTrig := rfl
@[simp] theorem State.setFld_scnQ (s : State) (f : Fld) (i v : Nat) : (s.setFld f i v).scnQ = s.scnQ := rfl
@[simp] theorem State.setFld_mrecHeld (s : State) (f : Fld) (i v : Nat) : (s.setFld f i v).mrecHeld = s.mrecHeld := rfl
@[simp] theorem State.setFld_sides (s : State) (f : Fld) (i v : Nat) : (s.setFld f i v).sides = s.sides := rfl
@[simp] theorem State.setFld_groups (s : State) (f : Fld) (i v : Nat) : (s.setFld f i v).groups = s.groups := rfl
@[simp] theorem State.setFld_plumb (s : State) (f : Fld) (i v : Nat) : (s.setFld f i v).plumb = s.plumb := rfl
@[simp] theorem State.setFld_mate (s : State) (f : Fld) (i v : Nat) : (s.setFld f i v).mate = s.mate := rfl
@[simp] theorem State.setFld_fuses (s : State) (f : Fld) (i v : Nat) : (s.setFld f i v).fuses = s.fuses := rfl
@[simp] theorem State.setFld_raise (s : State) (f : Fld) (i v : Nat) : (s.setFld f i v).raise = s.raise := rfl
@[simp] theorem State.setFld_pcie (s : State) (f : Fld) (i v : Nat) : (s.setFld f i v).pcie = s.pcie := rfl
@[simp] theorem State.setFld_own (s : State) (f : Fld) (i v : Nat) : (s.setFld f i v).own = s.own := rfl
@[simp] theorem State.setFld_sampled (s : State) (f : Fld) (i v : Nat) : (s.setFld f i v).sampled = s.sampled := rfl
@[simp] theorem State.setFld_tunnel (s : State) (f : Fld) (i v : Nat) : (s.setFld f i v).tunnel = s.tunnel := rfl
@[simp] theorem State.setFld_spiQuad (s : State) (f : Fld) (i v : Nat) : (s.setFld f i v).spiQuad = s.spiQuad := rfl
@[simp] theorem State.setFld_snd (s : State) (f : Fld) (i v : Nat) : (s.setFld f i v).snd = s.snd := rfl
@[simp] theorem State.setFld_ddr (s : State) (f : Fld) (i v : Nat) : (s.setFld f i v).ddr = s.ddr := rfl
@[simp] theorem State.setFld_snapFixed (s : State) (f : Fld) (i v : Nat) : (s.setFld f i v).snapFixed = s.snapFixed := rfl
@[simp] theorem State.setFld_chainHeld (s : State) (f : Fld) (i v : Nat) : (s.setFld f i v).chainHeld = s.chainHeld := rfl
@[simp] theorem State.setFld_snapAt (s : State) (f : Fld) (i v : Nat) : (s.setFld f i v).snapAt = s.snapAt := rfl
@[simp] theorem State.setFld_snapped (s : State) (f : Fld) (i v : Nat) : (s.setFld f i v).snapped = s.snapped := rfl
@[simp] theorem State.setFld_clear (s : State) (f : Fld) (i v : Nat) : (s.setFld f i v).clear = s.clear := rfl
@[simp] theorem State.setFld_archive (s : State) (f : Fld) (i v : Nat) : (s.setFld f i v).archive = s.archive := rfl
@[simp] theorem State.setFld_pegs (s : State) (f : Fld) (i v : Nat) : (s.setFld f i v).pegs = s.pegs := rfl
@[simp] theorem State.setFld_tally (s : State) (f : Fld) (i v : Nat) : (s.setFld f i v).tally = s.tally := rfl
@[simp] theorem State.setFld_tallyQ (s : State) (f : Fld) (i v : Nat) : (s.setFld f i v).tallyQ = s.tallyQ := rfl
@[simp] theorem State.setFld_tallySecond (s : State) (f : Fld) (i v : Nat) : (s.setFld f i v).tallySecond = s.tallySecond := rfl
@[simp] theorem State.setFld_tallyLost (s : State) (f : Fld) (i v : Nat) : (s.setFld f i v).tallyLost = s.tallyLost := rfl
@[simp] theorem State.setFld_sist (s : State) (f : Fld) (i v : Nat) : (s.setFld f i v).sist = s.sist := rfl
@[simp] theorem State.setFld_guarding (s : State) (f : Fld) (i v : Nat) : (s.setFld f i v).guarding = s.guarding := rfl
@[simp] theorem State.setFld_tallyRaw (s : State) (f : Fld) (i v : Nat) : (s.setFld f i v).tallyRaw = s.tallyRaw := rfl
@[simp] theorem State.setFld_mfld (s : State) (f : Fld) (i v : Nat) (g : Fld) (k j : Nat) : (s.setFld f i v).mfld g k j = s.mfld g k j := rfl
@[simp] theorem State.setFld_lane (s : State) (f : Fld) (i v : Nat) (k : Nat) : (s.setFld f i v).lane k = s.lane k := rfl
@[simp] theorem State.setFld_byte (s : State) (f : Fld) (i v : Nat) (c : Nat) : (s.setFld f i v).byte c = s.byte c := rfl

/-! ### State.setStg -/

@[simp] theorem State.setStg_pending (s : State) (f : Fld) (i v : Nat) : (s.setStg f i v).pending = s.pending := rfl
@[simp] theorem State.setStg_regs (s : State) (f : Fld) (i v : Nat) : (s.setStg f i v).regs = s.regs := rfl
@[simp] theorem State.setStg_perMaster (s : State) (f : Fld) (i v : Nat) : (s.setStg f i v).perMaster = s.perMaster := rfl
@[simp] theorem State.setStg_latHigh (s : State) (f : Fld) (i v : Nat) : (s.setStg f i v).latHigh = s.latHigh := rfl
@[simp] theorem State.setStg_heldLow (s : State) (f : Fld) (i v : Nat) : (s.setStg f i v).heldLow = s.heldLow := rfl
@[simp] theorem State.setStg_frameCycle (s : State) (f : Fld) (i v : Nat) : (s.setStg f i v).frameCycle = s.frameCycle := rfl
@[simp] theorem State.setStg_cycle (s : State) (f : Fld) (i v : Nat) : (s.setStg f i v).cycle = s.cycle := rfl
@[simp] theorem State.setStg_free (s : State) (f : Fld) (i v : Nat) : (s.setStg f i v).free = s.free := rfl
@[simp] theorem State.setStg_resp (s : State) (f : Fld) (i v : Nat) : (s.setStg f i v).resp = s.resp := rfl
@[simp] theorem State.setStg_ringQ (s : State) (f : Fld) (i v : Nat) : (s.setStg f i v).ringQ = s.ringQ := rfl
@[simp] theorem State.setStg_logQ (s : State) (f : Fld) (i v : Nat) : (s.setStg f i v).logQ = s.logQ := rfl
@[simp] theorem State.setStg_mem (s : State) (f : Fld) (i v : Nat) : (s.setStg f i v).mem = s.mem := rfl
@[simp] theorem State.setStg_lanes (s : State) (f : Fld) (i v : Nat) : (s.setStg f i v).lanes = s.lanes := rfl
@[simp] theorem State.setStg_sill (s : State) (f : Fld) (i v : Nat) : (s.setStg f i v).sill = s.sill := rfl
@[simp] theorem State.setStg_sched (s : State) (f : Fld) (i v : Nat) : (s.setStg f i v).sched = s.sched := rfl
@[simp] theorem State.setStg_tap (s : State) (f : Fld) (i v : Nat) : (s.setStg f i v).tap = s.tap := rfl
@[simp] theorem State.setStg_longMem (s : State) (f : Fld) (i v : Nat) : (s.setStg f i v).longMem = s.longMem := rfl
@[simp] theorem State.setStg_retPages (s : State) (f : Fld) (i v : Nat) : (s.setStg f i v).retPages = s.retPages := rfl
@[simp] theorem State.setStg_plate (s : State) (f : Fld) (i v : Nat) : (s.setStg f i v).plate = s.plate := rfl
@[simp] theorem State.setStg_links (s : State) (f : Fld) (i v : Nat) : (s.setStg f i v).links = s.links := rfl
@[simp] theorem State.setStg_actions (s : State) (f : Fld) (i v : Nat) : (s.setStg f i v).actions = s.actions := rfl
@[simp] theorem State.setStg_pauses (s : State) (f : Fld) (i v : Nat) : (s.setStg f i v).pauses = s.pauses := rfl
@[simp] theorem State.setStg_mdlyHeld (s : State) (f : Fld) (i v : Nat) : (s.setStg f i v).mdlyHeld = s.mdlyHeld := rfl
@[simp] theorem State.setStg_chg (s : State) (f : Fld) (i v : Nat) : (s.setStg f i v).chg = s.chg := rfl
@[simp] theorem State.setStg_queued (s : State) (f : Fld) (i v : Nat) : (s.setStg f i v).queued = s.queued := rfl
@[simp] theorem State.setStg_scnTrig (s : State) (f : Fld) (i v : Nat) : (s.setStg f i v).scnTrig = s.scnTrig := rfl
@[simp] theorem State.setStg_scnQ (s : State) (f : Fld) (i v : Nat) : (s.setStg f i v).scnQ = s.scnQ := rfl
@[simp] theorem State.setStg_mrecHeld (s : State) (f : Fld) (i v : Nat) : (s.setStg f i v).mrecHeld = s.mrecHeld := rfl
@[simp] theorem State.setStg_sides (s : State) (f : Fld) (i v : Nat) : (s.setStg f i v).sides = s.sides := rfl
@[simp] theorem State.setStg_groups (s : State) (f : Fld) (i v : Nat) : (s.setStg f i v).groups = s.groups := rfl
@[simp] theorem State.setStg_plumb (s : State) (f : Fld) (i v : Nat) : (s.setStg f i v).plumb = s.plumb := rfl
@[simp] theorem State.setStg_mate (s : State) (f : Fld) (i v : Nat) : (s.setStg f i v).mate = s.mate := rfl
@[simp] theorem State.setStg_fuses (s : State) (f : Fld) (i v : Nat) : (s.setStg f i v).fuses = s.fuses := rfl
@[simp] theorem State.setStg_raise (s : State) (f : Fld) (i v : Nat) : (s.setStg f i v).raise = s.raise := rfl
@[simp] theorem State.setStg_pcie (s : State) (f : Fld) (i v : Nat) : (s.setStg f i v).pcie = s.pcie := rfl
@[simp] theorem State.setStg_own (s : State) (f : Fld) (i v : Nat) : (s.setStg f i v).own = s.own := rfl
@[simp] theorem State.setStg_sampled (s : State) (f : Fld) (i v : Nat) : (s.setStg f i v).sampled = s.sampled := rfl
@[simp] theorem State.setStg_tunnel (s : State) (f : Fld) (i v : Nat) : (s.setStg f i v).tunnel = s.tunnel := rfl
@[simp] theorem State.setStg_spiQuad (s : State) (f : Fld) (i v : Nat) : (s.setStg f i v).spiQuad = s.spiQuad := rfl
@[simp] theorem State.setStg_snd (s : State) (f : Fld) (i v : Nat) : (s.setStg f i v).snd = s.snd := rfl
@[simp] theorem State.setStg_ddr (s : State) (f : Fld) (i v : Nat) : (s.setStg f i v).ddr = s.ddr := rfl
@[simp] theorem State.setStg_snapFixed (s : State) (f : Fld) (i v : Nat) : (s.setStg f i v).snapFixed = s.snapFixed := rfl
@[simp] theorem State.setStg_chainHeld (s : State) (f : Fld) (i v : Nat) : (s.setStg f i v).chainHeld = s.chainHeld := rfl
@[simp] theorem State.setStg_snapAt (s : State) (f : Fld) (i v : Nat) : (s.setStg f i v).snapAt = s.snapAt := rfl
@[simp] theorem State.setStg_snapped (s : State) (f : Fld) (i v : Nat) : (s.setStg f i v).snapped = s.snapped := rfl
@[simp] theorem State.setStg_clear (s : State) (f : Fld) (i v : Nat) : (s.setStg f i v).clear = s.clear := rfl
@[simp] theorem State.setStg_archive (s : State) (f : Fld) (i v : Nat) : (s.setStg f i v).archive = s.archive := rfl
@[simp] theorem State.setStg_pegs (s : State) (f : Fld) (i v : Nat) : (s.setStg f i v).pegs = s.pegs := rfl
@[simp] theorem State.setStg_tally (s : State) (f : Fld) (i v : Nat) : (s.setStg f i v).tally = s.tally := rfl
@[simp] theorem State.setStg_tallyQ (s : State) (f : Fld) (i v : Nat) : (s.setStg f i v).tallyQ = s.tallyQ := rfl
@[simp] theorem State.setStg_tallySecond (s : State) (f : Fld) (i v : Nat) : (s.setStg f i v).tallySecond = s.tallySecond := rfl
@[simp] theorem State.setStg_tallyLost (s : State) (f : Fld) (i v : Nat) : (s.setStg f i v).tallyLost = s.tallyLost := rfl
@[simp] theorem State.setStg_sist (s : State) (f : Fld) (i v : Nat) : (s.setStg f i v).sist = s.sist := rfl
@[simp] theorem State.setStg_guarding (s : State) (f : Fld) (i v : Nat) : (s.setStg f i v).guarding = s.guarding := rfl
@[simp] theorem State.setStg_tallyRaw (s : State) (f : Fld) (i v : Nat) : (s.setStg f i v).tallyRaw = s.tallyRaw := rfl
@[simp] theorem State.setStg_fld (s : State) (f : Fld) (i v : Nat) (g : Fld) (k : Nat) : (s.setStg f i v).fld g k = s.fld g k := rfl
@[simp] theorem State.setStg_flag (s : State) (f : Fld) (i v : Nat) (g : Fld) (k : Nat) : (s.setStg f i v).flag g k = s.flag g k := rfl
@[simp] theorem State.setStg_mfld (s : State) (f : Fld) (i v : Nat) (g : Fld) (k j : Nat) : (s.setStg f i v).mfld g k j = s.mfld g k j := rfl
@[simp] theorem State.setStg_latched (s : State) (f : Fld) (i v : Nat) (ev : Ev) (k : Nat) : (s.setStg f i v).latched ev k = s.latched ev k := rfl
@[simp] theorem State.setStg_frame (s : State) (f : Fld) (i v : Nat) : (s.setStg f i v).frame = s.frame := rfl
@[simp] theorem State.setStg_lane (s : State) (f : Fld) (i v : Nat) (k : Nat) : (s.setStg f i v).lane k = s.lane k := rfl
@[simp] theorem State.setStg_byte (s : State) (f : Fld) (i v : Nat) (c : Nat) : (s.setStg f i v).byte c = s.byte c := rfl

/-! ### State.setMfld -/

@[simp] theorem State.setMfld_pending (s : State) (f : Fld) (i m v : Nat) : (s.setMfld f i m v).pending = s.pending := rfl
@[simp] theorem State.setMfld_regs (s : State) (f : Fld) (i m v : Nat) : (s.setMfld f i m v).regs = s.regs := rfl
@[simp] theorem State.setMfld_staged (s : State) (f : Fld) (i m v : Nat) : (s.setMfld f i m v).staged = s.staged := rfl
@[simp] theorem State.setMfld_latHigh (s : State) (f : Fld) (i m v : Nat) : (s.setMfld f i m v).latHigh = s.latHigh := rfl
@[simp] theorem State.setMfld_heldLow (s : State) (f : Fld) (i m v : Nat) : (s.setMfld f i m v).heldLow = s.heldLow := rfl
@[simp] theorem State.setMfld_frameCycle (s : State) (f : Fld) (i m v : Nat) : (s.setMfld f i m v).frameCycle = s.frameCycle := rfl
@[simp] theorem State.setMfld_cycle (s : State) (f : Fld) (i m v : Nat) : (s.setMfld f i m v).cycle = s.cycle := rfl
@[simp] theorem State.setMfld_free (s : State) (f : Fld) (i m v : Nat) : (s.setMfld f i m v).free = s.free := rfl
@[simp] theorem State.setMfld_resp (s : State) (f : Fld) (i m v : Nat) : (s.setMfld f i m v).resp = s.resp := rfl
@[simp] theorem State.setMfld_ringQ (s : State) (f : Fld) (i m v : Nat) : (s.setMfld f i m v).ringQ = s.ringQ := rfl
@[simp] theorem State.setMfld_logQ (s : State) (f : Fld) (i m v : Nat) : (s.setMfld f i m v).logQ = s.logQ := rfl
@[simp] theorem State.setMfld_mem (s : State) (f : Fld) (i m v : Nat) : (s.setMfld f i m v).mem = s.mem := rfl
@[simp] theorem State.setMfld_lanes (s : State) (f : Fld) (i m v : Nat) : (s.setMfld f i m v).lanes = s.lanes := rfl
@[simp] theorem State.setMfld_sill (s : State) (f : Fld) (i m v : Nat) : (s.setMfld f i m v).sill = s.sill := rfl
@[simp] theorem State.setMfld_sched (s : State) (f : Fld) (i m v : Nat) : (s.setMfld f i m v).sched = s.sched := rfl
@[simp] theorem State.setMfld_tap (s : State) (f : Fld) (i m v : Nat) : (s.setMfld f i m v).tap = s.tap := rfl
@[simp] theorem State.setMfld_longMem (s : State) (f : Fld) (i m v : Nat) : (s.setMfld f i m v).longMem = s.longMem := rfl
@[simp] theorem State.setMfld_retPages (s : State) (f : Fld) (i m v : Nat) : (s.setMfld f i m v).retPages = s.retPages := rfl
@[simp] theorem State.setMfld_plate (s : State) (f : Fld) (i m v : Nat) : (s.setMfld f i m v).plate = s.plate := rfl
@[simp] theorem State.setMfld_links (s : State) (f : Fld) (i m v : Nat) : (s.setMfld f i m v).links = s.links := rfl
@[simp] theorem State.setMfld_actions (s : State) (f : Fld) (i m v : Nat) : (s.setMfld f i m v).actions = s.actions := rfl
@[simp] theorem State.setMfld_pauses (s : State) (f : Fld) (i m v : Nat) : (s.setMfld f i m v).pauses = s.pauses := rfl
@[simp] theorem State.setMfld_mdlyHeld (s : State) (f : Fld) (i m v : Nat) : (s.setMfld f i m v).mdlyHeld = s.mdlyHeld := rfl
@[simp] theorem State.setMfld_chg (s : State) (f : Fld) (i m v : Nat) : (s.setMfld f i m v).chg = s.chg := rfl
@[simp] theorem State.setMfld_queued (s : State) (f : Fld) (i m v : Nat) : (s.setMfld f i m v).queued = s.queued := rfl
@[simp] theorem State.setMfld_scnTrig (s : State) (f : Fld) (i m v : Nat) : (s.setMfld f i m v).scnTrig = s.scnTrig := rfl
@[simp] theorem State.setMfld_scnQ (s : State) (f : Fld) (i m v : Nat) : (s.setMfld f i m v).scnQ = s.scnQ := rfl
@[simp] theorem State.setMfld_mrecHeld (s : State) (f : Fld) (i m v : Nat) : (s.setMfld f i m v).mrecHeld = s.mrecHeld := rfl
@[simp] theorem State.setMfld_sides (s : State) (f : Fld) (i m v : Nat) : (s.setMfld f i m v).sides = s.sides := rfl
@[simp] theorem State.setMfld_groups (s : State) (f : Fld) (i m v : Nat) : (s.setMfld f i m v).groups = s.groups := rfl
@[simp] theorem State.setMfld_plumb (s : State) (f : Fld) (i m v : Nat) : (s.setMfld f i m v).plumb = s.plumb := rfl
@[simp] theorem State.setMfld_mate (s : State) (f : Fld) (i m v : Nat) : (s.setMfld f i m v).mate = s.mate := rfl
@[simp] theorem State.setMfld_fuses (s : State) (f : Fld) (i m v : Nat) : (s.setMfld f i m v).fuses = s.fuses := rfl
@[simp] theorem State.setMfld_raise (s : State) (f : Fld) (i m v : Nat) : (s.setMfld f i m v).raise = s.raise := rfl
@[simp] theorem State.setMfld_pcie (s : State) (f : Fld) (i m v : Nat) : (s.setMfld f i m v).pcie = s.pcie := rfl
@[simp] theorem State.setMfld_own (s : State) (f : Fld) (i m v : Nat) : (s.setMfld f i m v).own = s.own := rfl
@[simp] theorem State.setMfld_sampled (s : State) (f : Fld) (i m v : Nat) : (s.setMfld f i m v).sampled = s.sampled := rfl
@[simp] theorem State.setMfld_tunnel (s : State) (f : Fld) (i m v : Nat) : (s.setMfld f i m v).tunnel = s.tunnel := rfl
@[simp] theorem State.setMfld_spiQuad (s : State) (f : Fld) (i m v : Nat) : (s.setMfld f i m v).spiQuad = s.spiQuad := rfl
@[simp] theorem State.setMfld_snd (s : State) (f : Fld) (i m v : Nat) : (s.setMfld f i m v).snd = s.snd := rfl
@[simp] theorem State.setMfld_ddr (s : State) (f : Fld) (i m v : Nat) : (s.setMfld f i m v).ddr = s.ddr := rfl
@[simp] theorem State.setMfld_snapFixed (s : State) (f : Fld) (i m v : Nat) : (s.setMfld f i m v).snapFixed = s.snapFixed := rfl
@[simp] theorem State.setMfld_chainHeld (s : State) (f : Fld) (i m v : Nat) : (s.setMfld f i m v).chainHeld = s.chainHeld := rfl
@[simp] theorem State.setMfld_snapAt (s : State) (f : Fld) (i m v : Nat) : (s.setMfld f i m v).snapAt = s.snapAt := rfl
@[simp] theorem State.setMfld_snapped (s : State) (f : Fld) (i m v : Nat) : (s.setMfld f i m v).snapped = s.snapped := rfl
@[simp] theorem State.setMfld_clear (s : State) (f : Fld) (i m v : Nat) : (s.setMfld f i m v).clear = s.clear := rfl
@[simp] theorem State.setMfld_archive (s : State) (f : Fld) (i m v : Nat) : (s.setMfld f i m v).archive = s.archive := rfl
@[simp] theorem State.setMfld_pegs (s : State) (f : Fld) (i m v : Nat) : (s.setMfld f i m v).pegs = s.pegs := rfl
@[simp] theorem State.setMfld_tally (s : State) (f : Fld) (i m v : Nat) : (s.setMfld f i m v).tally = s.tally := rfl
@[simp] theorem State.setMfld_tallyQ (s : State) (f : Fld) (i m v : Nat) : (s.setMfld f i m v).tallyQ = s.tallyQ := rfl
@[simp] theorem State.setMfld_tallySecond (s : State) (f : Fld) (i m v : Nat) : (s.setMfld f i m v).tallySecond = s.tallySecond := rfl
@[simp] theorem State.setMfld_tallyLost (s : State) (f : Fld) (i m v : Nat) : (s.setMfld f i m v).tallyLost = s.tallyLost := rfl
@[simp] theorem State.setMfld_sist (s : State) (f : Fld) (i m v : Nat) : (s.setMfld f i m v).sist = s.sist := rfl
@[simp] theorem State.setMfld_guarding (s : State) (f : Fld) (i m v : Nat) : (s.setMfld f i m v).guarding = s.guarding := rfl
@[simp] theorem State.setMfld_tallyRaw (s : State) (f : Fld) (i m v : Nat) : (s.setMfld f i m v).tallyRaw = s.tallyRaw := rfl
@[simp] theorem State.setMfld_fld (s : State) (f : Fld) (i m v : Nat) (g : Fld) (k : Nat) : (s.setMfld f i m v).fld g k = s.fld g k := rfl
@[simp] theorem State.setMfld_flag (s : State) (f : Fld) (i m v : Nat) (g : Fld) (k : Nat) : (s.setMfld f i m v).flag g k = s.flag g k := rfl
@[simp] theorem State.setMfld_stg (s : State) (f : Fld) (i m v : Nat) (g : Fld) (k : Nat) : (s.setMfld f i m v).stg g k = s.stg g k := rfl
@[simp] theorem State.setMfld_latched (s : State) (f : Fld) (i m v : Nat) (ev : Ev) (k : Nat) : (s.setMfld f i m v).latched ev k = s.latched ev k := rfl
@[simp] theorem State.setMfld_frame (s : State) (f : Fld) (i m v : Nat) : (s.setMfld f i m v).frame = s.frame := rfl
@[simp] theorem State.setMfld_lane (s : State) (f : Fld) (i m v : Nat) (k : Nat) : (s.setMfld f i m v).lane k = s.lane k := rfl
@[simp] theorem State.setMfld_byte (s : State) (f : Fld) (i m v : Nat) (c : Nat) : (s.setMfld f i m v).byte c = s.byte c := rfl

/-! ### State.drawn -/

@[simp] theorem State.drawn_pending (s : State) : (s.drawn).pending = s.pending := rfl
@[simp] theorem State.drawn_regs (s : State) : (s.drawn).regs = s.regs := rfl
@[simp] theorem State.drawn_staged (s : State) : (s.drawn).staged = s.staged := rfl
@[simp] theorem State.drawn_perMaster (s : State) : (s.drawn).perMaster = s.perMaster := rfl
@[simp] theorem State.drawn_latHigh (s : State) : (s.drawn).latHigh = s.latHigh := rfl
@[simp] theorem State.drawn_heldLow (s : State) : (s.drawn).heldLow = s.heldLow := rfl
@[simp] theorem State.drawn_frameCycle (s : State) : (s.drawn).frameCycle = s.frameCycle := rfl
@[simp] theorem State.drawn_cycle (s : State) : (s.drawn).cycle = s.cycle := rfl
@[simp] theorem State.drawn_resp (s : State) : (s.drawn).resp = s.resp := rfl
@[simp] theorem State.drawn_ringQ (s : State) : (s.drawn).ringQ = s.ringQ := rfl
@[simp] theorem State.drawn_logQ (s : State) : (s.drawn).logQ = s.logQ := rfl
@[simp] theorem State.drawn_mem (s : State) : (s.drawn).mem = s.mem := rfl
@[simp] theorem State.drawn_lanes (s : State) : (s.drawn).lanes = s.lanes := rfl
@[simp] theorem State.drawn_sill (s : State) : (s.drawn).sill = s.sill := rfl
@[simp] theorem State.drawn_sched (s : State) : (s.drawn).sched = s.sched := rfl
@[simp] theorem State.drawn_tap (s : State) : (s.drawn).tap = s.tap := rfl
@[simp] theorem State.drawn_longMem (s : State) : (s.drawn).longMem = s.longMem := rfl
@[simp] theorem State.drawn_retPages (s : State) : (s.drawn).retPages = s.retPages := rfl
@[simp] theorem State.drawn_plate (s : State) : (s.drawn).plate = s.plate := rfl
@[simp] theorem State.drawn_links (s : State) : (s.drawn).links = s.links := rfl
@[simp] theorem State.drawn_actions (s : State) : (s.drawn).actions = s.actions := rfl
@[simp] theorem State.drawn_pauses (s : State) : (s.drawn).pauses = s.pauses := rfl
@[simp] theorem State.drawn_mdlyHeld (s : State) : (s.drawn).mdlyHeld = s.mdlyHeld := rfl
@[simp] theorem State.drawn_chg (s : State) : (s.drawn).chg = s.chg := rfl
@[simp] theorem State.drawn_queued (s : State) : (s.drawn).queued = s.queued := rfl
@[simp] theorem State.drawn_scnTrig (s : State) : (s.drawn).scnTrig = s.scnTrig := rfl
@[simp] theorem State.drawn_scnQ (s : State) : (s.drawn).scnQ = s.scnQ := rfl
@[simp] theorem State.drawn_mrecHeld (s : State) : (s.drawn).mrecHeld = s.mrecHeld := rfl
@[simp] theorem State.drawn_sides (s : State) : (s.drawn).sides = s.sides := rfl
@[simp] theorem State.drawn_groups (s : State) : (s.drawn).groups = s.groups := rfl
@[simp] theorem State.drawn_plumb (s : State) : (s.drawn).plumb = s.plumb := rfl
@[simp] theorem State.drawn_mate (s : State) : (s.drawn).mate = s.mate := rfl
@[simp] theorem State.drawn_fuses (s : State) : (s.drawn).fuses = s.fuses := rfl
@[simp] theorem State.drawn_raise (s : State) : (s.drawn).raise = s.raise := rfl
@[simp] theorem State.drawn_pcie (s : State) : (s.drawn).pcie = s.pcie := rfl
@[simp] theorem State.drawn_own (s : State) : (s.drawn).own = s.own := rfl
@[simp] theorem State.drawn_sampled (s : State) : (s.drawn).sampled = s.sampled := rfl
@[simp] theorem State.drawn_tunnel (s : State) : (s.drawn).tunnel = s.tunnel := rfl
@[simp] theorem State.drawn_spiQuad (s : State) : (s.drawn).spiQuad = s.spiQuad := rfl
@[simp] theorem State.drawn_snd (s : State) : (s.drawn).snd = s.snd := rfl
@[simp] theorem State.drawn_ddr (s : State) : (s.drawn).ddr = s.ddr := rfl
@[simp] theorem State.drawn_snapFixed (s : State) : (s.drawn).snapFixed = s.snapFixed := rfl
@[simp] theorem State.drawn_chainHeld (s : State) : (s.drawn).chainHeld = s.chainHeld := rfl
@[simp] theorem State.drawn_snapAt (s : State) : (s.drawn).snapAt = s.snapAt := rfl
@[simp] theorem State.drawn_snapped (s : State) : (s.drawn).snapped = s.snapped := rfl
@[simp] theorem State.drawn_clear (s : State) : (s.drawn).clear = s.clear := rfl
@[simp] theorem State.drawn_archive (s : State) : (s.drawn).archive = s.archive := rfl
@[simp] theorem State.drawn_pegs (s : State) : (s.drawn).pegs = s.pegs := rfl
@[simp] theorem State.drawn_tally (s : State) : (s.drawn).tally = s.tally := rfl
@[simp] theorem State.drawn_tallyQ (s : State) : (s.drawn).tallyQ = s.tallyQ := rfl
@[simp] theorem State.drawn_tallySecond (s : State) : (s.drawn).tallySecond = s.tallySecond := rfl
@[simp] theorem State.drawn_tallyLost (s : State) : (s.drawn).tallyLost = s.tallyLost := rfl
@[simp] theorem State.drawn_sist (s : State) : (s.drawn).sist = s.sist := rfl
@[simp] theorem State.drawn_guarding (s : State) : (s.drawn).guarding = s.guarding := rfl
@[simp] theorem State.drawn_tallyRaw (s : State) : (s.drawn).tallyRaw = s.tallyRaw := rfl
@[simp] theorem State.drawn_fld (s : State) (g : Fld) (k : Nat) : (s.drawn).fld g k = s.fld g k := rfl
@[simp] theorem State.drawn_flag (s : State) (g : Fld) (k : Nat) : (s.drawn).flag g k = s.flag g k := rfl
@[simp] theorem State.drawn_stg (s : State) (g : Fld) (k : Nat) : (s.drawn).stg g k = s.stg g k := rfl
@[simp] theorem State.drawn_mfld (s : State) (g : Fld) (k j : Nat) : (s.drawn).mfld g k j = s.mfld g k j := rfl
@[simp] theorem State.drawn_latched (s : State) (ev : Ev) (k : Nat) : (s.drawn).latched ev k = s.latched ev k := rfl
@[simp] theorem State.drawn_frame (s : State) : (s.drawn).frame = s.frame := rfl
@[simp] theorem State.drawn_lane (s : State) (k : Nat) : (s.drawn).lane k = s.lane k := rfl
@[simp] theorem State.drawn_byte (s : State) (c : Nat) : (s.drawn).byte c = s.byte c := rfl

/-! ### State.setByte -/

@[simp] theorem State.setByte_pending (s : State) (a : Nat) (b : BitVec 8) : (s.setByte a b).pending = s.pending := rfl
@[simp] theorem State.setByte_regs (s : State) (a : Nat) (b : BitVec 8) : (s.setByte a b).regs = s.regs := rfl
@[simp] theorem State.setByte_staged (s : State) (a : Nat) (b : BitVec 8) : (s.setByte a b).staged = s.staged := rfl
@[simp] theorem State.setByte_perMaster (s : State) (a : Nat) (b : BitVec 8) : (s.setByte a b).perMaster = s.perMaster := rfl
@[simp] theorem State.setByte_latHigh (s : State) (a : Nat) (b : BitVec 8) : (s.setByte a b).latHigh = s.latHigh := rfl
@[simp] theorem State.setByte_heldLow (s : State) (a : Nat) (b : BitVec 8) : (s.setByte a b).heldLow = s.heldLow := rfl
@[simp] theorem State.setByte_frameCycle (s : State) (a : Nat) (b : BitVec 8) : (s.setByte a b).frameCycle = s.frameCycle := rfl
@[simp] theorem State.setByte_cycle (s : State) (a : Nat) (b : BitVec 8) : (s.setByte a b).cycle = s.cycle := rfl
@[simp] theorem State.setByte_free (s : State) (a : Nat) (b : BitVec 8) : (s.setByte a b).free = s.free := rfl
@[simp] theorem State.setByte_resp (s : State) (a : Nat) (b : BitVec 8) : (s.setByte a b).resp = s.resp := rfl
@[simp] theorem State.setByte_ringQ (s : State) (a : Nat) (b : BitVec 8) : (s.setByte a b).ringQ = s.ringQ := rfl
@[simp] theorem State.setByte_logQ (s : State) (a : Nat) (b : BitVec 8) : (s.setByte a b).logQ = s.logQ := rfl
@[simp] theorem State.setByte_lanes (s : State) (a : Nat) (b : BitVec 8) : (s.setByte a b).lanes = s.lanes := rfl
@[simp] theorem State.setByte_sill (s : State) (a : Nat) (b : BitVec 8) : (s.setByte a b).sill = s.sill := rfl
@[simp] theorem State.setByte_sched (s : State) (a : Nat) (b : BitVec 8) : (s.setByte a b).sched = s.sched := rfl
@[simp] theorem State.setByte_tap (s : State) (a : Nat) (b : BitVec 8) : (s.setByte a b).tap = s.tap := rfl
@[simp] theorem State.setByte_longMem (s : State) (a : Nat) (b : BitVec 8) : (s.setByte a b).longMem = s.longMem := rfl
@[simp] theorem State.setByte_retPages (s : State) (a : Nat) (b : BitVec 8) : (s.setByte a b).retPages = s.retPages := rfl
@[simp] theorem State.setByte_plate (s : State) (a : Nat) (b : BitVec 8) : (s.setByte a b).plate = s.plate := rfl
@[simp] theorem State.setByte_links (s : State) (a : Nat) (b : BitVec 8) : (s.setByte a b).links = s.links := rfl
@[simp] theorem State.setByte_actions (s : State) (a : Nat) (b : BitVec 8) : (s.setByte a b).actions = s.actions := rfl
@[simp] theorem State.setByte_pauses (s : State) (a : Nat) (b : BitVec 8) : (s.setByte a b).pauses = s.pauses := rfl
@[simp] theorem State.setByte_mdlyHeld (s : State) (a : Nat) (b : BitVec 8) : (s.setByte a b).mdlyHeld = s.mdlyHeld := rfl
@[simp] theorem State.setByte_chg (s : State) (a : Nat) (b : BitVec 8) : (s.setByte a b).chg = s.chg := rfl
@[simp] theorem State.setByte_queued (s : State) (a : Nat) (b : BitVec 8) : (s.setByte a b).queued = s.queued := rfl
@[simp] theorem State.setByte_scnTrig (s : State) (a : Nat) (b : BitVec 8) : (s.setByte a b).scnTrig = s.scnTrig := rfl
@[simp] theorem State.setByte_scnQ (s : State) (a : Nat) (b : BitVec 8) : (s.setByte a b).scnQ = s.scnQ := rfl
@[simp] theorem State.setByte_mrecHeld (s : State) (a : Nat) (b : BitVec 8) : (s.setByte a b).mrecHeld = s.mrecHeld := rfl
@[simp] theorem State.setByte_sides (s : State) (a : Nat) (b : BitVec 8) : (s.setByte a b).sides = s.sides := rfl
@[simp] theorem State.setByte_groups (s : State) (a : Nat) (b : BitVec 8) : (s.setByte a b).groups = s.groups := rfl
@[simp] theorem State.setByte_plumb (s : State) (a : Nat) (b : BitVec 8) : (s.setByte a b).plumb = s.plumb := rfl
@[simp] theorem State.setByte_mate (s : State) (a : Nat) (b : BitVec 8) : (s.setByte a b).mate = s.mate := rfl
@[simp] theorem State.setByte_fuses (s : State) (a : Nat) (b : BitVec 8) : (s.setByte a b).fuses = s.fuses := rfl
@[simp] theorem State.setByte_raise (s : State) (a : Nat) (b : BitVec 8) : (s.setByte a b).raise = s.raise := rfl
@[simp] theorem State.setByte_pcie (s : State) (a : Nat) (b : BitVec 8) : (s.setByte a b).pcie = s.pcie := rfl
@[simp] theorem State.setByte_own (s : State) (a : Nat) (b : BitVec 8) : (s.setByte a b).own = s.own := rfl
@[simp] theorem State.setByte_sampled (s : State) (a : Nat) (b : BitVec 8) : (s.setByte a b).sampled = s.sampled := rfl
@[simp] theorem State.setByte_tunnel (s : State) (a : Nat) (b : BitVec 8) : (s.setByte a b).tunnel = s.tunnel := rfl
@[simp] theorem State.setByte_spiQuad (s : State) (a : Nat) (b : BitVec 8) : (s.setByte a b).spiQuad = s.spiQuad := rfl
@[simp] theorem State.setByte_snd (s : State) (a : Nat) (b : BitVec 8) : (s.setByte a b).snd = s.snd := rfl
@[simp] theorem State.setByte_ddr (s : State) (a : Nat) (b : BitVec 8) : (s.setByte a b).ddr = s.ddr := rfl
@[simp] theorem State.setByte_snapFixed (s : State) (a : Nat) (b : BitVec 8) : (s.setByte a b).snapFixed = s.snapFixed := rfl
@[simp] theorem State.setByte_chainHeld (s : State) (a : Nat) (b : BitVec 8) : (s.setByte a b).chainHeld = s.chainHeld := rfl
@[simp] theorem State.setByte_snapAt (s : State) (a : Nat) (b : BitVec 8) : (s.setByte a b).snapAt = s.snapAt := rfl
@[simp] theorem State.setByte_snapped (s : State) (a : Nat) (b : BitVec 8) : (s.setByte a b).snapped = s.snapped := rfl
@[simp] theorem State.setByte_clear (s : State) (a : Nat) (b : BitVec 8) : (s.setByte a b).clear = s.clear := rfl
@[simp] theorem State.setByte_archive (s : State) (a : Nat) (b : BitVec 8) : (s.setByte a b).archive = s.archive := rfl
@[simp] theorem State.setByte_pegs (s : State) (a : Nat) (b : BitVec 8) : (s.setByte a b).pegs = s.pegs := rfl
@[simp] theorem State.setByte_tally (s : State) (a : Nat) (b : BitVec 8) : (s.setByte a b).tally = s.tally := rfl
@[simp] theorem State.setByte_tallyQ (s : State) (a : Nat) (b : BitVec 8) : (s.setByte a b).tallyQ = s.tallyQ := rfl
@[simp] theorem State.setByte_tallySecond (s : State) (a : Nat) (b : BitVec 8) : (s.setByte a b).tallySecond = s.tallySecond := rfl
@[simp] theorem State.setByte_tallyLost (s : State) (a : Nat) (b : BitVec 8) : (s.setByte a b).tallyLost = s.tallyLost := rfl
@[simp] theorem State.setByte_sist (s : State) (a : Nat) (b : BitVec 8) : (s.setByte a b).sist = s.sist := rfl
@[simp] theorem State.setByte_guarding (s : State) (a : Nat) (b : BitVec 8) : (s.setByte a b).guarding = s.guarding := rfl
@[simp] theorem State.setByte_tallyRaw (s : State) (a : Nat) (b : BitVec 8) : (s.setByte a b).tallyRaw = s.tallyRaw := rfl
@[simp] theorem State.setByte_fld (s : State) (a : Nat) (b : BitVec 8) (g : Fld) (k : Nat) : (s.setByte a b).fld g k = s.fld g k := rfl
@[simp] theorem State.setByte_flag (s : State) (a : Nat) (b : BitVec 8) (g : Fld) (k : Nat) : (s.setByte a b).flag g k = s.flag g k := rfl
@[simp] theorem State.setByte_stg (s : State) (a : Nat) (b : BitVec 8) (g : Fld) (k : Nat) : (s.setByte a b).stg g k = s.stg g k := rfl
@[simp] theorem State.setByte_mfld (s : State) (a : Nat) (b : BitVec 8) (g : Fld) (k j : Nat) : (s.setByte a b).mfld g k j = s.mfld g k j := rfl
@[simp] theorem State.setByte_latched (s : State) (a : Nat) (b : BitVec 8) (ev : Ev) (k : Nat) : (s.setByte a b).latched ev k = s.latched ev k := rfl
@[simp] theorem State.setByte_frame (s : State) (a : Nat) (b : BitVec 8) : (s.setByte a b).frame = s.frame := rfl
@[simp] theorem State.setByte_lane (s : State) (a : Nat) (b : BitVec 8) (k : Nat) : (s.setByte a b).lane k = s.lane k := rfl

/-! ### State.setLane -/

@[simp] theorem State.setLane_pending (s : State) (n : Nat) (l : LaneSt) : (s.setLane n l).pending = s.pending := rfl
@[simp] theorem State.setLane_regs (s : State) (n : Nat) (l : LaneSt) : (s.setLane n l).regs = s.regs := rfl
@[simp] theorem State.setLane_staged (s : State) (n : Nat) (l : LaneSt) : (s.setLane n l).staged = s.staged := rfl
@[simp] theorem State.setLane_perMaster (s : State) (n : Nat) (l : LaneSt) : (s.setLane n l).perMaster = s.perMaster := rfl
@[simp] theorem State.setLane_latHigh (s : State) (n : Nat) (l : LaneSt) : (s.setLane n l).latHigh = s.latHigh := rfl
@[simp] theorem State.setLane_heldLow (s : State) (n : Nat) (l : LaneSt) : (s.setLane n l).heldLow = s.heldLow := rfl
@[simp] theorem State.setLane_frameCycle (s : State) (n : Nat) (l : LaneSt) : (s.setLane n l).frameCycle = s.frameCycle := rfl
@[simp] theorem State.setLane_cycle (s : State) (n : Nat) (l : LaneSt) : (s.setLane n l).cycle = s.cycle := rfl
@[simp] theorem State.setLane_free (s : State) (n : Nat) (l : LaneSt) : (s.setLane n l).free = s.free := rfl
@[simp] theorem State.setLane_resp (s : State) (n : Nat) (l : LaneSt) : (s.setLane n l).resp = s.resp := rfl
@[simp] theorem State.setLane_ringQ (s : State) (n : Nat) (l : LaneSt) : (s.setLane n l).ringQ = s.ringQ := rfl
@[simp] theorem State.setLane_logQ (s : State) (n : Nat) (l : LaneSt) : (s.setLane n l).logQ = s.logQ := rfl
@[simp] theorem State.setLane_mem (s : State) (n : Nat) (l : LaneSt) : (s.setLane n l).mem = s.mem := rfl
@[simp] theorem State.setLane_sill (s : State) (n : Nat) (l : LaneSt) : (s.setLane n l).sill = s.sill := rfl
@[simp] theorem State.setLane_sched (s : State) (n : Nat) (l : LaneSt) : (s.setLane n l).sched = s.sched := rfl
@[simp] theorem State.setLane_tap (s : State) (n : Nat) (l : LaneSt) : (s.setLane n l).tap = s.tap := rfl
@[simp] theorem State.setLane_longMem (s : State) (n : Nat) (l : LaneSt) : (s.setLane n l).longMem = s.longMem := rfl
@[simp] theorem State.setLane_retPages (s : State) (n : Nat) (l : LaneSt) : (s.setLane n l).retPages = s.retPages := rfl
@[simp] theorem State.setLane_plate (s : State) (n : Nat) (l : LaneSt) : (s.setLane n l).plate = s.plate := rfl
@[simp] theorem State.setLane_links (s : State) (n : Nat) (l : LaneSt) : (s.setLane n l).links = s.links := rfl
@[simp] theorem State.setLane_actions (s : State) (n : Nat) (l : LaneSt) : (s.setLane n l).actions = s.actions := rfl
@[simp] theorem State.setLane_pauses (s : State) (n : Nat) (l : LaneSt) : (s.setLane n l).pauses = s.pauses := rfl
@[simp] theorem State.setLane_mdlyHeld (s : State) (n : Nat) (l : LaneSt) : (s.setLane n l).mdlyHeld = s.mdlyHeld := rfl
@[simp] theorem State.setLane_chg (s : State) (n : Nat) (l : LaneSt) : (s.setLane n l).chg = s.chg := rfl
@[simp] theorem State.setLane_queued (s : State) (n : Nat) (l : LaneSt) : (s.setLane n l).queued = s.queued := rfl
@[simp] theorem State.setLane_scnTrig (s : State) (n : Nat) (l : LaneSt) : (s.setLane n l).scnTrig = s.scnTrig := rfl
@[simp] theorem State.setLane_scnQ (s : State) (n : Nat) (l : LaneSt) : (s.setLane n l).scnQ = s.scnQ := rfl
@[simp] theorem State.setLane_mrecHeld (s : State) (n : Nat) (l : LaneSt) : (s.setLane n l).mrecHeld = s.mrecHeld := rfl
@[simp] theorem State.setLane_sides (s : State) (n : Nat) (l : LaneSt) : (s.setLane n l).sides = s.sides := rfl
@[simp] theorem State.setLane_groups (s : State) (n : Nat) (l : LaneSt) : (s.setLane n l).groups = s.groups := rfl
@[simp] theorem State.setLane_plumb (s : State) (n : Nat) (l : LaneSt) : (s.setLane n l).plumb = s.plumb := rfl
@[simp] theorem State.setLane_mate (s : State) (n : Nat) (l : LaneSt) : (s.setLane n l).mate = s.mate := rfl
@[simp] theorem State.setLane_fuses (s : State) (n : Nat) (l : LaneSt) : (s.setLane n l).fuses = s.fuses := rfl
@[simp] theorem State.setLane_raise (s : State) (n : Nat) (l : LaneSt) : (s.setLane n l).raise = s.raise := rfl
@[simp] theorem State.setLane_pcie (s : State) (n : Nat) (l : LaneSt) : (s.setLane n l).pcie = s.pcie := rfl
@[simp] theorem State.setLane_own (s : State) (n : Nat) (l : LaneSt) : (s.setLane n l).own = s.own := rfl
@[simp] theorem State.setLane_sampled (s : State) (n : Nat) (l : LaneSt) : (s.setLane n l).sampled = s.sampled := rfl
@[simp] theorem State.setLane_tunnel (s : State) (n : Nat) (l : LaneSt) : (s.setLane n l).tunnel = s.tunnel := rfl
@[simp] theorem State.setLane_spiQuad (s : State) (n : Nat) (l : LaneSt) : (s.setLane n l).spiQuad = s.spiQuad := rfl
@[simp] theorem State.setLane_snd (s : State) (n : Nat) (l : LaneSt) : (s.setLane n l).snd = s.snd := rfl
@[simp] theorem State.setLane_ddr (s : State) (n : Nat) (l : LaneSt) : (s.setLane n l).ddr = s.ddr := rfl
@[simp] theorem State.setLane_snapFixed (s : State) (n : Nat) (l : LaneSt) : (s.setLane n l).snapFixed = s.snapFixed := rfl
@[simp] theorem State.setLane_chainHeld (s : State) (n : Nat) (l : LaneSt) : (s.setLane n l).chainHeld = s.chainHeld := rfl
@[simp] theorem State.setLane_snapAt (s : State) (n : Nat) (l : LaneSt) : (s.setLane n l).snapAt = s.snapAt := rfl
@[simp] theorem State.setLane_snapped (s : State) (n : Nat) (l : LaneSt) : (s.setLane n l).snapped = s.snapped := rfl
@[simp] theorem State.setLane_clear (s : State) (n : Nat) (l : LaneSt) : (s.setLane n l).clear = s.clear := rfl
@[simp] theorem State.setLane_archive (s : State) (n : Nat) (l : LaneSt) : (s.setLane n l).archive = s.archive := rfl
@[simp] theorem State.setLane_pegs (s : State) (n : Nat) (l : LaneSt) : (s.setLane n l).pegs = s.pegs := rfl
@[simp] theorem State.setLane_tally (s : State) (n : Nat) (l : LaneSt) : (s.setLane n l).tally = s.tally := rfl
@[simp] theorem State.setLane_tallyQ (s : State) (n : Nat) (l : LaneSt) : (s.setLane n l).tallyQ = s.tallyQ := rfl
@[simp] theorem State.setLane_tallySecond (s : State) (n : Nat) (l : LaneSt) : (s.setLane n l).tallySecond = s.tallySecond := rfl
@[simp] theorem State.setLane_tallyLost (s : State) (n : Nat) (l : LaneSt) : (s.setLane n l).tallyLost = s.tallyLost := rfl
@[simp] theorem State.setLane_sist (s : State) (n : Nat) (l : LaneSt) : (s.setLane n l).sist = s.sist := rfl
@[simp] theorem State.setLane_guarding (s : State) (n : Nat) (l : LaneSt) : (s.setLane n l).guarding = s.guarding := rfl
@[simp] theorem State.setLane_tallyRaw (s : State) (n : Nat) (l : LaneSt) : (s.setLane n l).tallyRaw = s.tallyRaw := rfl
@[simp] theorem State.setLane_fld (s : State) (n : Nat) (l : LaneSt) (g : Fld) (k : Nat) : (s.setLane n l).fld g k = s.fld g k := rfl
@[simp] theorem State.setLane_flag (s : State) (n : Nat) (l : LaneSt) (g : Fld) (k : Nat) : (s.setLane n l).flag g k = s.flag g k := rfl
@[simp] theorem State.setLane_stg (s : State) (n : Nat) (l : LaneSt) (g : Fld) (k : Nat) : (s.setLane n l).stg g k = s.stg g k := rfl
@[simp] theorem State.setLane_mfld (s : State) (n : Nat) (l : LaneSt) (g : Fld) (k j : Nat) : (s.setLane n l).mfld g k j = s.mfld g k j := rfl
@[simp] theorem State.setLane_latched (s : State) (n : Nat) (l : LaneSt) (ev : Ev) (k : Nat) : (s.setLane n l).latched ev k = s.latched ev k := rfl
@[simp] theorem State.setLane_frame (s : State) (n : Nat) (l : LaneSt) : (s.setLane n l).frame = s.frame := rfl
@[simp] theorem State.setLane_byte (s : State) (n : Nat) (l : LaneSt) (c : Nat) : (s.setLane n l).byte c = s.byte c := rfl

/-! ### State.answer -/

@[simp] theorem State.answer_pending (s : State) (st : Status) (ws : List Nat) : (s.answer st ws).pending = s.pending := rfl
@[simp] theorem State.answer_regs (s : State) (st : Status) (ws : List Nat) : (s.answer st ws).regs = s.regs := rfl
@[simp] theorem State.answer_staged (s : State) (st : Status) (ws : List Nat) : (s.answer st ws).staged = s.staged := rfl
@[simp] theorem State.answer_perMaster (s : State) (st : Status) (ws : List Nat) : (s.answer st ws).perMaster = s.perMaster := rfl
@[simp] theorem State.answer_latHigh (s : State) (st : Status) (ws : List Nat) : (s.answer st ws).latHigh = s.latHigh := rfl
@[simp] theorem State.answer_heldLow (s : State) (st : Status) (ws : List Nat) : (s.answer st ws).heldLow = s.heldLow := rfl
@[simp] theorem State.answer_frameCycle (s : State) (st : Status) (ws : List Nat) : (s.answer st ws).frameCycle = s.frameCycle := rfl
@[simp] theorem State.answer_cycle (s : State) (st : Status) (ws : List Nat) : (s.answer st ws).cycle = s.cycle := rfl
@[simp] theorem State.answer_free (s : State) (st : Status) (ws : List Nat) : (s.answer st ws).free = s.free := rfl
@[simp] theorem State.answer_ringQ (s : State) (st : Status) (ws : List Nat) : (s.answer st ws).ringQ = s.ringQ := rfl
@[simp] theorem State.answer_logQ (s : State) (st : Status) (ws : List Nat) : (s.answer st ws).logQ = s.logQ := rfl
@[simp] theorem State.answer_mem (s : State) (st : Status) (ws : List Nat) : (s.answer st ws).mem = s.mem := rfl
@[simp] theorem State.answer_lanes (s : State) (st : Status) (ws : List Nat) : (s.answer st ws).lanes = s.lanes := rfl
@[simp] theorem State.answer_sill (s : State) (st : Status) (ws : List Nat) : (s.answer st ws).sill = s.sill := rfl
@[simp] theorem State.answer_sched (s : State) (st : Status) (ws : List Nat) : (s.answer st ws).sched = s.sched := rfl
@[simp] theorem State.answer_tap (s : State) (st : Status) (ws : List Nat) : (s.answer st ws).tap = s.tap := rfl
@[simp] theorem State.answer_longMem (s : State) (st : Status) (ws : List Nat) : (s.answer st ws).longMem = s.longMem := rfl
@[simp] theorem State.answer_retPages (s : State) (st : Status) (ws : List Nat) : (s.answer st ws).retPages = s.retPages := rfl
@[simp] theorem State.answer_plate (s : State) (st : Status) (ws : List Nat) : (s.answer st ws).plate = s.plate := rfl
@[simp] theorem State.answer_links (s : State) (st : Status) (ws : List Nat) : (s.answer st ws).links = s.links := rfl
@[simp] theorem State.answer_actions (s : State) (st : Status) (ws : List Nat) : (s.answer st ws).actions = s.actions := rfl
@[simp] theorem State.answer_pauses (s : State) (st : Status) (ws : List Nat) : (s.answer st ws).pauses = s.pauses := rfl
@[simp] theorem State.answer_mdlyHeld (s : State) (st : Status) (ws : List Nat) : (s.answer st ws).mdlyHeld = s.mdlyHeld := rfl
@[simp] theorem State.answer_chg (s : State) (st : Status) (ws : List Nat) : (s.answer st ws).chg = s.chg := rfl
@[simp] theorem State.answer_queued (s : State) (st : Status) (ws : List Nat) : (s.answer st ws).queued = s.queued := rfl
@[simp] theorem State.answer_scnTrig (s : State) (st : Status) (ws : List Nat) : (s.answer st ws).scnTrig = s.scnTrig := rfl
@[simp] theorem State.answer_scnQ (s : State) (st : Status) (ws : List Nat) : (s.answer st ws).scnQ = s.scnQ := rfl
@[simp] theorem State.answer_mrecHeld (s : State) (st : Status) (ws : List Nat) : (s.answer st ws).mrecHeld = s.mrecHeld := rfl
@[simp] theorem State.answer_sides (s : State) (st : Status) (ws : List Nat) : (s.answer st ws).sides = s.sides := rfl
@[simp] theorem State.answer_groups (s : State) (st : Status) (ws : List Nat) : (s.answer st ws).groups = s.groups := rfl
@[simp] theorem State.answer_plumb (s : State) (st : Status) (ws : List Nat) : (s.answer st ws).plumb = s.plumb := rfl
@[simp] theorem State.answer_mate (s : State) (st : Status) (ws : List Nat) : (s.answer st ws).mate = s.mate := rfl
@[simp] theorem State.answer_fuses (s : State) (st : Status) (ws : List Nat) : (s.answer st ws).fuses = s.fuses := rfl
@[simp] theorem State.answer_raise (s : State) (st : Status) (ws : List Nat) : (s.answer st ws).raise = s.raise := rfl
@[simp] theorem State.answer_pcie (s : State) (st : Status) (ws : List Nat) : (s.answer st ws).pcie = s.pcie := rfl
@[simp] theorem State.answer_own (s : State) (st : Status) (ws : List Nat) : (s.answer st ws).own = s.own := rfl
@[simp] theorem State.answer_sampled (s : State) (st : Status) (ws : List Nat) : (s.answer st ws).sampled = s.sampled := rfl
@[simp] theorem State.answer_tunnel (s : State) (st : Status) (ws : List Nat) : (s.answer st ws).tunnel = s.tunnel := rfl
@[simp] theorem State.answer_spiQuad (s : State) (st : Status) (ws : List Nat) : (s.answer st ws).spiQuad = s.spiQuad := rfl
@[simp] theorem State.answer_snd (s : State) (st : Status) (ws : List Nat) : (s.answer st ws).snd = s.snd := rfl
@[simp] theorem State.answer_ddr (s : State) (st : Status) (ws : List Nat) : (s.answer st ws).ddr = s.ddr := rfl
@[simp] theorem State.answer_snapFixed (s : State) (st : Status) (ws : List Nat) : (s.answer st ws).snapFixed = s.snapFixed := rfl
@[simp] theorem State.answer_chainHeld (s : State) (st : Status) (ws : List Nat) : (s.answer st ws).chainHeld = s.chainHeld := rfl
@[simp] theorem State.answer_snapAt (s : State) (st : Status) (ws : List Nat) : (s.answer st ws).snapAt = s.snapAt := rfl
@[simp] theorem State.answer_snapped (s : State) (st : Status) (ws : List Nat) : (s.answer st ws).snapped = s.snapped := rfl
@[simp] theorem State.answer_clear (s : State) (st : Status) (ws : List Nat) : (s.answer st ws).clear = s.clear := rfl
@[simp] theorem State.answer_archive (s : State) (st : Status) (ws : List Nat) : (s.answer st ws).archive = s.archive := rfl
@[simp] theorem State.answer_pegs (s : State) (st : Status) (ws : List Nat) : (s.answer st ws).pegs = s.pegs := rfl
@[simp] theorem State.answer_tally (s : State) (st : Status) (ws : List Nat) : (s.answer st ws).tally = s.tally := rfl
@[simp] theorem State.answer_tallyQ (s : State) (st : Status) (ws : List Nat) : (s.answer st ws).tallyQ = s.tallyQ := rfl
@[simp] theorem State.answer_tallySecond (s : State) (st : Status) (ws : List Nat) : (s.answer st ws).tallySecond = s.tallySecond := rfl
@[simp] theorem State.answer_tallyLost (s : State) (st : Status) (ws : List Nat) : (s.answer st ws).tallyLost = s.tallyLost := rfl
@[simp] theorem State.answer_sist (s : State) (st : Status) (ws : List Nat) : (s.answer st ws).sist = s.sist := rfl
@[simp] theorem State.answer_guarding (s : State) (st : Status) (ws : List Nat) : (s.answer st ws).guarding = s.guarding := rfl
@[simp] theorem State.answer_tallyRaw (s : State) (st : Status) (ws : List Nat) : (s.answer st ws).tallyRaw = s.tallyRaw := rfl
@[simp] theorem State.answer_fld (s : State) (st : Status) (ws : List Nat) (g : Fld) (k : Nat) : (s.answer st ws).fld g k = s.fld g k := rfl
@[simp] theorem State.answer_flag (s : State) (st : Status) (ws : List Nat) (g : Fld) (k : Nat) : (s.answer st ws).flag g k = s.flag g k := rfl
@[simp] theorem State.answer_stg (s : State) (st : Status) (ws : List Nat) (g : Fld) (k : Nat) : (s.answer st ws).stg g k = s.stg g k := rfl
@[simp] theorem State.answer_mfld (s : State) (st : Status) (ws : List Nat) (g : Fld) (k j : Nat) : (s.answer st ws).mfld g k j = s.mfld g k j := rfl
@[simp] theorem State.answer_latched (s : State) (st : Status) (ws : List Nat) (ev : Ev) (k : Nat) : (s.answer st ws).latched ev k = s.latched ev k := rfl
@[simp] theorem State.answer_frame (s : State) (st : Status) (ws : List Nat) : (s.answer st ws).frame = s.frame := rfl
@[simp] theorem State.answer_lane (s : State) (st : Status) (ws : List Nat) (k : Nat) : (s.answer st ws).lane k = s.lane k := rfl
@[simp] theorem State.answer_byte (s : State) (st : Status) (ws : List Nat) (c : Nat) : (s.answer st ws).byte c = s.byte c := rfl

/-! ### State.tallyAdd -/

@[simp] theorem State.tallyAdd_pending (s : State) (kind cls inst : Nat) (data : List Nat) : (s.tallyAdd kind cls inst data).pending = s.pending := rfl
@[simp] theorem State.tallyAdd_regs (s : State) (kind cls inst : Nat) (data : List Nat) : (s.tallyAdd kind cls inst data).regs = s.regs := rfl
@[simp] theorem State.tallyAdd_staged (s : State) (kind cls inst : Nat) (data : List Nat) : (s.tallyAdd kind cls inst data).staged = s.staged := rfl
@[simp] theorem State.tallyAdd_perMaster (s : State) (kind cls inst : Nat) (data : List Nat) : (s.tallyAdd kind cls inst data).perMaster = s.perMaster := rfl
@[simp] theorem State.tallyAdd_latHigh (s : State) (kind cls inst : Nat) (data : List Nat) : (s.tallyAdd kind cls inst data).latHigh = s.latHigh := rfl
@[simp] theorem State.tallyAdd_heldLow (s : State) (kind cls inst : Nat) (data : List Nat) : (s.tallyAdd kind cls inst data).heldLow = s.heldLow := rfl
@[simp] theorem State.tallyAdd_frameCycle (s : State) (kind cls inst : Nat) (data : List Nat) : (s.tallyAdd kind cls inst data).frameCycle = s.frameCycle := rfl
@[simp] theorem State.tallyAdd_cycle (s : State) (kind cls inst : Nat) (data : List Nat) : (s.tallyAdd kind cls inst data).cycle = s.cycle := rfl
@[simp] theorem State.tallyAdd_free (s : State) (kind cls inst : Nat) (data : List Nat) : (s.tallyAdd kind cls inst data).free = s.free := rfl
@[simp] theorem State.tallyAdd_resp (s : State) (kind cls inst : Nat) (data : List Nat) : (s.tallyAdd kind cls inst data).resp = s.resp := rfl
@[simp] theorem State.tallyAdd_ringQ (s : State) (kind cls inst : Nat) (data : List Nat) : (s.tallyAdd kind cls inst data).ringQ = s.ringQ := rfl
@[simp] theorem State.tallyAdd_logQ (s : State) (kind cls inst : Nat) (data : List Nat) : (s.tallyAdd kind cls inst data).logQ = s.logQ := rfl
@[simp] theorem State.tallyAdd_mem (s : State) (kind cls inst : Nat) (data : List Nat) : (s.tallyAdd kind cls inst data).mem = s.mem := rfl
@[simp] theorem State.tallyAdd_lanes (s : State) (kind cls inst : Nat) (data : List Nat) : (s.tallyAdd kind cls inst data).lanes = s.lanes := rfl
@[simp] theorem State.tallyAdd_sill (s : State) (kind cls inst : Nat) (data : List Nat) : (s.tallyAdd kind cls inst data).sill = s.sill := rfl
@[simp] theorem State.tallyAdd_sched (s : State) (kind cls inst : Nat) (data : List Nat) : (s.tallyAdd kind cls inst data).sched = s.sched := rfl
@[simp] theorem State.tallyAdd_tap (s : State) (kind cls inst : Nat) (data : List Nat) : (s.tallyAdd kind cls inst data).tap = s.tap := rfl
@[simp] theorem State.tallyAdd_longMem (s : State) (kind cls inst : Nat) (data : List Nat) : (s.tallyAdd kind cls inst data).longMem = s.longMem := rfl
@[simp] theorem State.tallyAdd_retPages (s : State) (kind cls inst : Nat) (data : List Nat) : (s.tallyAdd kind cls inst data).retPages = s.retPages := rfl
@[simp] theorem State.tallyAdd_plate (s : State) (kind cls inst : Nat) (data : List Nat) : (s.tallyAdd kind cls inst data).plate = s.plate := rfl
@[simp] theorem State.tallyAdd_links (s : State) (kind cls inst : Nat) (data : List Nat) : (s.tallyAdd kind cls inst data).links = s.links := rfl
@[simp] theorem State.tallyAdd_actions (s : State) (kind cls inst : Nat) (data : List Nat) : (s.tallyAdd kind cls inst data).actions = s.actions := rfl
@[simp] theorem State.tallyAdd_pauses (s : State) (kind cls inst : Nat) (data : List Nat) : (s.tallyAdd kind cls inst data).pauses = s.pauses := rfl
@[simp] theorem State.tallyAdd_mdlyHeld (s : State) (kind cls inst : Nat) (data : List Nat) : (s.tallyAdd kind cls inst data).mdlyHeld = s.mdlyHeld := rfl
@[simp] theorem State.tallyAdd_chg (s : State) (kind cls inst : Nat) (data : List Nat) : (s.tallyAdd kind cls inst data).chg = s.chg := rfl
@[simp] theorem State.tallyAdd_queued (s : State) (kind cls inst : Nat) (data : List Nat) : (s.tallyAdd kind cls inst data).queued = s.queued := rfl
@[simp] theorem State.tallyAdd_scnTrig (s : State) (kind cls inst : Nat) (data : List Nat) : (s.tallyAdd kind cls inst data).scnTrig = s.scnTrig := rfl
@[simp] theorem State.tallyAdd_scnQ (s : State) (kind cls inst : Nat) (data : List Nat) : (s.tallyAdd kind cls inst data).scnQ = s.scnQ := rfl
@[simp] theorem State.tallyAdd_mrecHeld (s : State) (kind cls inst : Nat) (data : List Nat) : (s.tallyAdd kind cls inst data).mrecHeld = s.mrecHeld := rfl
@[simp] theorem State.tallyAdd_sides (s : State) (kind cls inst : Nat) (data : List Nat) : (s.tallyAdd kind cls inst data).sides = s.sides := rfl
@[simp] theorem State.tallyAdd_groups (s : State) (kind cls inst : Nat) (data : List Nat) : (s.tallyAdd kind cls inst data).groups = s.groups := rfl
@[simp] theorem State.tallyAdd_plumb (s : State) (kind cls inst : Nat) (data : List Nat) : (s.tallyAdd kind cls inst data).plumb = s.plumb := rfl
@[simp] theorem State.tallyAdd_mate (s : State) (kind cls inst : Nat) (data : List Nat) : (s.tallyAdd kind cls inst data).mate = s.mate := rfl
@[simp] theorem State.tallyAdd_fuses (s : State) (kind cls inst : Nat) (data : List Nat) : (s.tallyAdd kind cls inst data).fuses = s.fuses := rfl
@[simp] theorem State.tallyAdd_raise (s : State) (kind cls inst : Nat) (data : List Nat) : (s.tallyAdd kind cls inst data).raise = s.raise := rfl
@[simp] theorem State.tallyAdd_pcie (s : State) (kind cls inst : Nat) (data : List Nat) : (s.tallyAdd kind cls inst data).pcie = s.pcie := rfl
@[simp] theorem State.tallyAdd_own (s : State) (kind cls inst : Nat) (data : List Nat) : (s.tallyAdd kind cls inst data).own = s.own := rfl
@[simp] theorem State.tallyAdd_sampled (s : State) (kind cls inst : Nat) (data : List Nat) : (s.tallyAdd kind cls inst data).sampled = s.sampled := rfl
@[simp] theorem State.tallyAdd_tunnel (s : State) (kind cls inst : Nat) (data : List Nat) : (s.tallyAdd kind cls inst data).tunnel = s.tunnel := rfl
@[simp] theorem State.tallyAdd_spiQuad (s : State) (kind cls inst : Nat) (data : List Nat) : (s.tallyAdd kind cls inst data).spiQuad = s.spiQuad := rfl
@[simp] theorem State.tallyAdd_snd (s : State) (kind cls inst : Nat) (data : List Nat) : (s.tallyAdd kind cls inst data).snd = s.snd := rfl
@[simp] theorem State.tallyAdd_ddr (s : State) (kind cls inst : Nat) (data : List Nat) : (s.tallyAdd kind cls inst data).ddr = s.ddr := rfl
@[simp] theorem State.tallyAdd_snapFixed (s : State) (kind cls inst : Nat) (data : List Nat) : (s.tallyAdd kind cls inst data).snapFixed = s.snapFixed := rfl
@[simp] theorem State.tallyAdd_chainHeld (s : State) (kind cls inst : Nat) (data : List Nat) : (s.tallyAdd kind cls inst data).chainHeld = s.chainHeld := rfl
@[simp] theorem State.tallyAdd_snapAt (s : State) (kind cls inst : Nat) (data : List Nat) : (s.tallyAdd kind cls inst data).snapAt = s.snapAt := rfl
@[simp] theorem State.tallyAdd_snapped (s : State) (kind cls inst : Nat) (data : List Nat) : (s.tallyAdd kind cls inst data).snapped = s.snapped := rfl
@[simp] theorem State.tallyAdd_clear (s : State) (kind cls inst : Nat) (data : List Nat) : (s.tallyAdd kind cls inst data).clear = s.clear := rfl
@[simp] theorem State.tallyAdd_archive (s : State) (kind cls inst : Nat) (data : List Nat) : (s.tallyAdd kind cls inst data).archive = s.archive := rfl
@[simp] theorem State.tallyAdd_pegs (s : State) (kind cls inst : Nat) (data : List Nat) : (s.tallyAdd kind cls inst data).pegs = s.pegs := rfl
@[simp] theorem State.tallyAdd_tally (s : State) (kind cls inst : Nat) (data : List Nat) : (s.tallyAdd kind cls inst data).tally = s.tally := rfl
@[simp] theorem State.tallyAdd_tallySecond (s : State) (kind cls inst : Nat) (data : List Nat) : (s.tallyAdd kind cls inst data).tallySecond = s.tallySecond := rfl
@[simp] theorem State.tallyAdd_tallyLost (s : State) (kind cls inst : Nat) (data : List Nat) : (s.tallyAdd kind cls inst data).tallyLost = s.tallyLost := rfl
@[simp] theorem State.tallyAdd_sist (s : State) (kind cls inst : Nat) (data : List Nat) : (s.tallyAdd kind cls inst data).sist = s.sist := rfl
@[simp] theorem State.tallyAdd_guarding (s : State) (kind cls inst : Nat) (data : List Nat) : (s.tallyAdd kind cls inst data).guarding = s.guarding := rfl
@[simp] theorem State.tallyAdd_tallyRaw (s : State) (kind cls inst : Nat) (data : List Nat) : (s.tallyAdd kind cls inst data).tallyRaw = s.tallyRaw := rfl
@[simp] theorem State.tallyAdd_fld (s : State) (kind cls inst : Nat) (data : List Nat) (g : Fld) (k : Nat) : (s.tallyAdd kind cls inst data).fld g k = s.fld g k := rfl
@[simp] theorem State.tallyAdd_flag (s : State) (kind cls inst : Nat) (data : List Nat) (g : Fld) (k : Nat) : (s.tallyAdd kind cls inst data).flag g k = s.flag g k := rfl
@[simp] theorem State.tallyAdd_stg (s : State) (kind cls inst : Nat) (data : List Nat) (g : Fld) (k : Nat) : (s.tallyAdd kind cls inst data).stg g k = s.stg g k := rfl
@[simp] theorem State.tallyAdd_mfld (s : State) (kind cls inst : Nat) (data : List Nat) (g : Fld) (k j : Nat) : (s.tallyAdd kind cls inst data).mfld g k j = s.mfld g k j := rfl
@[simp] theorem State.tallyAdd_latched (s : State) (kind cls inst : Nat) (data : List Nat) (ev : Ev) (k : Nat) : (s.tallyAdd kind cls inst data).latched ev k = s.latched ev k := rfl
@[simp] theorem State.tallyAdd_frame (s : State) (kind cls inst : Nat) (data : List Nat) : (s.tallyAdd kind cls inst data).frame = s.frame := rfl
@[simp] theorem State.tallyAdd_lane (s : State) (kind cls inst : Nat) (data : List Nat) (k : Nat) : (s.tallyAdd kind cls inst data).lane k = s.lane k := rfl
@[simp] theorem State.tallyAdd_byte (s : State) (kind cls inst : Nat) (data : List Nat) (c : Nat) : (s.tallyAdd kind cls inst data).byte c = s.byte c := rfl

/-! ### State.updSist -/

@[simp] theorem State.updSist_pending (s : State) (f : Sist → Sist) : (s.updSist f).pending = s.pending := rfl
@[simp] theorem State.updSist_regs (s : State) (f : Sist → Sist) : (s.updSist f).regs = s.regs := rfl
@[simp] theorem State.updSist_staged (s : State) (f : Sist → Sist) : (s.updSist f).staged = s.staged := rfl
@[simp] theorem State.updSist_perMaster (s : State) (f : Sist → Sist) : (s.updSist f).perMaster = s.perMaster := rfl
@[simp] theorem State.updSist_latHigh (s : State) (f : Sist → Sist) : (s.updSist f).latHigh = s.latHigh := rfl
@[simp] theorem State.updSist_heldLow (s : State) (f : Sist → Sist) : (s.updSist f).heldLow = s.heldLow := rfl
@[simp] theorem State.updSist_frameCycle (s : State) (f : Sist → Sist) : (s.updSist f).frameCycle = s.frameCycle := rfl
@[simp] theorem State.updSist_cycle (s : State) (f : Sist → Sist) : (s.updSist f).cycle = s.cycle := rfl
@[simp] theorem State.updSist_free (s : State) (f : Sist → Sist) : (s.updSist f).free = s.free := rfl
@[simp] theorem State.updSist_resp (s : State) (f : Sist → Sist) : (s.updSist f).resp = s.resp := rfl
@[simp] theorem State.updSist_ringQ (s : State) (f : Sist → Sist) : (s.updSist f).ringQ = s.ringQ := rfl
@[simp] theorem State.updSist_logQ (s : State) (f : Sist → Sist) : (s.updSist f).logQ = s.logQ := rfl
@[simp] theorem State.updSist_mem (s : State) (f : Sist → Sist) : (s.updSist f).mem = s.mem := rfl
@[simp] theorem State.updSist_lanes (s : State) (f : Sist → Sist) : (s.updSist f).lanes = s.lanes := rfl
@[simp] theorem State.updSist_sill (s : State) (f : Sist → Sist) : (s.updSist f).sill = s.sill := rfl
@[simp] theorem State.updSist_sched (s : State) (f : Sist → Sist) : (s.updSist f).sched = s.sched := rfl
@[simp] theorem State.updSist_tap (s : State) (f : Sist → Sist) : (s.updSist f).tap = s.tap := rfl
@[simp] theorem State.updSist_longMem (s : State) (f : Sist → Sist) : (s.updSist f).longMem = s.longMem := rfl
@[simp] theorem State.updSist_retPages (s : State) (f : Sist → Sist) : (s.updSist f).retPages = s.retPages := rfl
@[simp] theorem State.updSist_plate (s : State) (f : Sist → Sist) : (s.updSist f).plate = s.plate := rfl
@[simp] theorem State.updSist_links (s : State) (f : Sist → Sist) : (s.updSist f).links = s.links := rfl
@[simp] theorem State.updSist_actions (s : State) (f : Sist → Sist) : (s.updSist f).actions = s.actions := rfl
@[simp] theorem State.updSist_pauses (s : State) (f : Sist → Sist) : (s.updSist f).pauses = s.pauses := rfl
@[simp] theorem State.updSist_mdlyHeld (s : State) (f : Sist → Sist) : (s.updSist f).mdlyHeld = s.mdlyHeld := rfl
@[simp] theorem State.updSist_chg (s : State) (f : Sist → Sist) : (s.updSist f).chg = s.chg := rfl
@[simp] theorem State.updSist_queued (s : State) (f : Sist → Sist) : (s.updSist f).queued = s.queued := rfl
@[simp] theorem State.updSist_scnTrig (s : State) (f : Sist → Sist) : (s.updSist f).scnTrig = s.scnTrig := rfl
@[simp] theorem State.updSist_scnQ (s : State) (f : Sist → Sist) : (s.updSist f).scnQ = s.scnQ := rfl
@[simp] theorem State.updSist_mrecHeld (s : State) (f : Sist → Sist) : (s.updSist f).mrecHeld = s.mrecHeld := rfl
@[simp] theorem State.updSist_sides (s : State) (f : Sist → Sist) : (s.updSist f).sides = s.sides := rfl
@[simp] theorem State.updSist_groups (s : State) (f : Sist → Sist) : (s.updSist f).groups = s.groups := rfl
@[simp] theorem State.updSist_plumb (s : State) (f : Sist → Sist) : (s.updSist f).plumb = s.plumb := rfl
@[simp] theorem State.updSist_mate (s : State) (f : Sist → Sist) : (s.updSist f).mate = s.mate := rfl
@[simp] theorem State.updSist_fuses (s : State) (f : Sist → Sist) : (s.updSist f).fuses = s.fuses := rfl
@[simp] theorem State.updSist_raise (s : State) (f : Sist → Sist) : (s.updSist f).raise = s.raise := rfl
@[simp] theorem State.updSist_pcie (s : State) (f : Sist → Sist) : (s.updSist f).pcie = s.pcie := rfl
@[simp] theorem State.updSist_own (s : State) (f : Sist → Sist) : (s.updSist f).own = s.own := rfl
@[simp] theorem State.updSist_sampled (s : State) (f : Sist → Sist) : (s.updSist f).sampled = s.sampled := rfl
@[simp] theorem State.updSist_tunnel (s : State) (f : Sist → Sist) : (s.updSist f).tunnel = s.tunnel := rfl
@[simp] theorem State.updSist_spiQuad (s : State) (f : Sist → Sist) : (s.updSist f).spiQuad = s.spiQuad := rfl
@[simp] theorem State.updSist_snd (s : State) (f : Sist → Sist) : (s.updSist f).snd = s.snd := rfl
@[simp] theorem State.updSist_ddr (s : State) (f : Sist → Sist) : (s.updSist f).ddr = s.ddr := rfl
@[simp] theorem State.updSist_snapFixed (s : State) (f : Sist → Sist) : (s.updSist f).snapFixed = s.snapFixed := rfl
@[simp] theorem State.updSist_chainHeld (s : State) (f : Sist → Sist) : (s.updSist f).chainHeld = s.chainHeld := rfl
@[simp] theorem State.updSist_snapAt (s : State) (f : Sist → Sist) : (s.updSist f).snapAt = s.snapAt := rfl
@[simp] theorem State.updSist_snapped (s : State) (f : Sist → Sist) : (s.updSist f).snapped = s.snapped := rfl
@[simp] theorem State.updSist_clear (s : State) (f : Sist → Sist) : (s.updSist f).clear = s.clear := rfl
@[simp] theorem State.updSist_archive (s : State) (f : Sist → Sist) : (s.updSist f).archive = s.archive := rfl
@[simp] theorem State.updSist_pegs (s : State) (f : Sist → Sist) : (s.updSist f).pegs = s.pegs := rfl
@[simp] theorem State.updSist_tally (s : State) (f : Sist → Sist) : (s.updSist f).tally = s.tally := rfl
@[simp] theorem State.updSist_tallyQ (s : State) (f : Sist → Sist) : (s.updSist f).tallyQ = s.tallyQ := rfl
@[simp] theorem State.updSist_tallySecond (s : State) (f : Sist → Sist) : (s.updSist f).tallySecond = s.tallySecond := rfl
@[simp] theorem State.updSist_tallyLost (s : State) (f : Sist → Sist) : (s.updSist f).tallyLost = s.tallyLost := rfl
@[simp] theorem State.updSist_guarding (s : State) (f : Sist → Sist) : (s.updSist f).guarding = s.guarding := rfl
@[simp] theorem State.updSist_tallyRaw (s : State) (f : Sist → Sist) : (s.updSist f).tallyRaw = s.tallyRaw := rfl
@[simp] theorem State.updSist_fld (s : State) (f : Sist → Sist) (g : Fld) (k : Nat) : (s.updSist f).fld g k = s.fld g k := rfl
@[simp] theorem State.updSist_flag (s : State) (f : Sist → Sist) (g : Fld) (k : Nat) : (s.updSist f).flag g k = s.flag g k := rfl
@[simp] theorem State.updSist_stg (s : State) (f : Sist → Sist) (g : Fld) (k : Nat) : (s.updSist f).stg g k = s.stg g k := rfl
@[simp] theorem State.updSist_mfld (s : State) (f : Sist → Sist) (g : Fld) (k j : Nat) : (s.updSist f).mfld g k j = s.mfld g k j := rfl
@[simp] theorem State.updSist_latched (s : State) (f : Sist → Sist) (ev : Ev) (k : Nat) : (s.updSist f).latched ev k = s.latched ev k := rfl
@[simp] theorem State.updSist_frame (s : State) (f : Sist → Sist) : (s.updSist f).frame = s.frame := rfl
@[simp] theorem State.updSist_lane (s : State) (f : Sist → Sist) (k : Nat) : (s.updSist f).lane k = s.lane k := rfl
@[simp] theorem State.updSist_byte (s : State) (f : Sist → Sist) (c : Nat) : (s.updSist f).byte c = s.byte c := rfl
@[simp] theorem State.updSist_self (s : State) (f : Sist → Sist) : (s.updSist f).sist = f s.sist := rfl

/-! ### State.updTally -/

@[simp] theorem State.updTally_pending (s : State) (f : Tally → Tally) : (s.updTally f).pending = s.pending := rfl
@[simp] theorem State.updTally_regs (s : State) (f : Tally → Tally) : (s.updTally f).regs = s.regs := rfl
@[simp] theorem State.updTally_staged (s : State) (f : Tally → Tally) : (s.updTally f).staged = s.staged := rfl
@[simp] theorem State.updTally_perMaster (s : State) (f : Tally → Tally) : (s.updTally f).perMaster = s.perMaster := rfl
@[simp] theorem State.updTally_latHigh (s : State) (f : Tally → Tally) : (s.updTally f).latHigh = s.latHigh := rfl
@[simp] theorem State.updTally_heldLow (s : State) (f : Tally → Tally) : (s.updTally f).heldLow = s.heldLow := rfl
@[simp] theorem State.updTally_frameCycle (s : State) (f : Tally → Tally) : (s.updTally f).frameCycle = s.frameCycle := rfl
@[simp] theorem State.updTally_cycle (s : State) (f : Tally → Tally) : (s.updTally f).cycle = s.cycle := rfl
@[simp] theorem State.updTally_free (s : State) (f : Tally → Tally) : (s.updTally f).free = s.free := rfl
@[simp] theorem State.updTally_resp (s : State) (f : Tally → Tally) : (s.updTally f).resp = s.resp := rfl
@[simp] theorem State.updTally_ringQ (s : State) (f : Tally → Tally) : (s.updTally f).ringQ = s.ringQ := rfl
@[simp] theorem State.updTally_logQ (s : State) (f : Tally → Tally) : (s.updTally f).logQ = s.logQ := rfl
@[simp] theorem State.updTally_mem (s : State) (f : Tally → Tally) : (s.updTally f).mem = s.mem := rfl
@[simp] theorem State.updTally_lanes (s : State) (f : Tally → Tally) : (s.updTally f).lanes = s.lanes := rfl
@[simp] theorem State.updTally_sill (s : State) (f : Tally → Tally) : (s.updTally f).sill = s.sill := rfl
@[simp] theorem State.updTally_sched (s : State) (f : Tally → Tally) : (s.updTally f).sched = s.sched := rfl
@[simp] theorem State.updTally_tap (s : State) (f : Tally → Tally) : (s.updTally f).tap = s.tap := rfl
@[simp] theorem State.updTally_longMem (s : State) (f : Tally → Tally) : (s.updTally f).longMem = s.longMem := rfl
@[simp] theorem State.updTally_retPages (s : State) (f : Tally → Tally) : (s.updTally f).retPages = s.retPages := rfl
@[simp] theorem State.updTally_plate (s : State) (f : Tally → Tally) : (s.updTally f).plate = s.plate := rfl
@[simp] theorem State.updTally_links (s : State) (f : Tally → Tally) : (s.updTally f).links = s.links := rfl
@[simp] theorem State.updTally_actions (s : State) (f : Tally → Tally) : (s.updTally f).actions = s.actions := rfl
@[simp] theorem State.updTally_pauses (s : State) (f : Tally → Tally) : (s.updTally f).pauses = s.pauses := rfl
@[simp] theorem State.updTally_mdlyHeld (s : State) (f : Tally → Tally) : (s.updTally f).mdlyHeld = s.mdlyHeld := rfl
@[simp] theorem State.updTally_chg (s : State) (f : Tally → Tally) : (s.updTally f).chg = s.chg := rfl
@[simp] theorem State.updTally_queued (s : State) (f : Tally → Tally) : (s.updTally f).queued = s.queued := rfl
@[simp] theorem State.updTally_scnTrig (s : State) (f : Tally → Tally) : (s.updTally f).scnTrig = s.scnTrig := rfl
@[simp] theorem State.updTally_scnQ (s : State) (f : Tally → Tally) : (s.updTally f).scnQ = s.scnQ := rfl
@[simp] theorem State.updTally_mrecHeld (s : State) (f : Tally → Tally) : (s.updTally f).mrecHeld = s.mrecHeld := rfl
@[simp] theorem State.updTally_sides (s : State) (f : Tally → Tally) : (s.updTally f).sides = s.sides := rfl
@[simp] theorem State.updTally_groups (s : State) (f : Tally → Tally) : (s.updTally f).groups = s.groups := rfl
@[simp] theorem State.updTally_plumb (s : State) (f : Tally → Tally) : (s.updTally f).plumb = s.plumb := rfl
@[simp] theorem State.updTally_mate (s : State) (f : Tally → Tally) : (s.updTally f).mate = s.mate := rfl
@[simp] theorem State.updTally_fuses (s : State) (f : Tally → Tally) : (s.updTally f).fuses = s.fuses := rfl
@[simp] theorem State.updTally_raise (s : State) (f : Tally → Tally) : (s.updTally f).raise = s.raise := rfl
@[simp] theorem State.updTally_pcie (s : State) (f : Tally → Tally) : (s.updTally f).pcie = s.pcie := rfl
@[simp] theorem State.updTally_own (s : State) (f : Tally → Tally) : (s.updTally f).own = s.own := rfl
@[simp] theorem State.updTally_sampled (s : State) (f : Tally → Tally) : (s.updTally f).sampled = s.sampled := rfl
@[simp] theorem State.updTally_tunnel (s : State) (f : Tally → Tally) : (s.updTally f).tunnel = s.tunnel := rfl
@[simp] theorem State.updTally_spiQuad (s : State) (f : Tally → Tally) : (s.updTally f).spiQuad = s.spiQuad := rfl
@[simp] theorem State.updTally_snd (s : State) (f : Tally → Tally) : (s.updTally f).snd = s.snd := rfl
@[simp] theorem State.updTally_ddr (s : State) (f : Tally → Tally) : (s.updTally f).ddr = s.ddr := rfl
@[simp] theorem State.updTally_snapFixed (s : State) (f : Tally → Tally) : (s.updTally f).snapFixed = s.snapFixed := rfl
@[simp] theorem State.updTally_chainHeld (s : State) (f : Tally → Tally) : (s.updTally f).chainHeld = s.chainHeld := rfl
@[simp] theorem State.updTally_snapAt (s : State) (f : Tally → Tally) : (s.updTally f).snapAt = s.snapAt := rfl
@[simp] theorem State.updTally_snapped (s : State) (f : Tally → Tally) : (s.updTally f).snapped = s.snapped := rfl
@[simp] theorem State.updTally_clear (s : State) (f : Tally → Tally) : (s.updTally f).clear = s.clear := rfl
@[simp] theorem State.updTally_archive (s : State) (f : Tally → Tally) : (s.updTally f).archive = s.archive := rfl
@[simp] theorem State.updTally_pegs (s : State) (f : Tally → Tally) : (s.updTally f).pegs = s.pegs := rfl
@[simp] theorem State.updTally_tallyQ (s : State) (f : Tally → Tally) : (s.updTally f).tallyQ = s.tallyQ := rfl
@[simp] theorem State.updTally_tallySecond (s : State) (f : Tally → Tally) : (s.updTally f).tallySecond = s.tallySecond := rfl
@[simp] theorem State.updTally_tallyLost (s : State) (f : Tally → Tally) : (s.updTally f).tallyLost = s.tallyLost := rfl
@[simp] theorem State.updTally_sist (s : State) (f : Tally → Tally) : (s.updTally f).sist = s.sist := rfl
@[simp] theorem State.updTally_guarding (s : State) (f : Tally → Tally) : (s.updTally f).guarding = s.guarding := rfl
@[simp] theorem State.updTally_tallyRaw (s : State) (f : Tally → Tally) : (s.updTally f).tallyRaw = s.tallyRaw := rfl
@[simp] theorem State.updTally_fld (s : State) (f : Tally → Tally) (g : Fld) (k : Nat) : (s.updTally f).fld g k = s.fld g k := rfl
@[simp] theorem State.updTally_flag (s : State) (f : Tally → Tally) (g : Fld) (k : Nat) : (s.updTally f).flag g k = s.flag g k := rfl
@[simp] theorem State.updTally_stg (s : State) (f : Tally → Tally) (g : Fld) (k : Nat) : (s.updTally f).stg g k = s.stg g k := rfl
@[simp] theorem State.updTally_mfld (s : State) (f : Tally → Tally) (g : Fld) (k j : Nat) : (s.updTally f).mfld g k j = s.mfld g k j := rfl
@[simp] theorem State.updTally_latched (s : State) (f : Tally → Tally) (ev : Ev) (k : Nat) : (s.updTally f).latched ev k = s.latched ev k := rfl
@[simp] theorem State.updTally_frame (s : State) (f : Tally → Tally) : (s.updTally f).frame = s.frame := rfl
@[simp] theorem State.updTally_lane (s : State) (f : Tally → Tally) (k : Nat) : (s.updTally f).lane k = s.lane k := rfl
@[simp] theorem State.updTally_byte (s : State) (f : Tally → Tally) (c : Nat) : (s.updTally f).byte c = s.byte c := rfl
@[simp] theorem State.updTally_self (s : State) (f : Tally → Tally) : (s.updTally f).tally = f s.tally := rfl

/-! ### State.setSillPage -/

@[simp] theorem State.setSillPage_pending (s : State) (n page : Nat) (p : SillPage) : (s.setSillPage n page p).pending = s.pending := rfl
@[simp] theorem State.setSillPage_regs (s : State) (n page : Nat) (p : SillPage) : (s.setSillPage n page p).regs = s.regs := rfl
@[simp] theorem State.setSillPage_staged (s : State) (n page : Nat) (p : SillPage) : (s.setSillPage n page p).staged = s.staged := rfl
@[simp] theorem State.setSillPage_perMaster (s : State) (n page : Nat) (p : SillPage) : (s.setSillPage n page p).perMaster = s.perMaster := rfl
@[simp] theorem State.setSillPage_latHigh (s : State) (n page : Nat) (p : SillPage) : (s.setSillPage n page p).latHigh = s.latHigh := rfl
@[simp] theorem State.setSillPage_heldLow (s : State) (n page : Nat) (p : SillPage) : (s.setSillPage n page p).heldLow = s.heldLow := rfl
@[simp] theorem State.setSillPage_frameCycle (s : State) (n page : Nat) (p : SillPage) : (s.setSillPage n page p).frameCycle = s.frameCycle := rfl
@[simp] theorem State.setSillPage_cycle (s : State) (n page : Nat) (p : SillPage) : (s.setSillPage n page p).cycle = s.cycle := rfl
@[simp] theorem State.setSillPage_free (s : State) (n page : Nat) (p : SillPage) : (s.setSillPage n page p).free = s.free := rfl
@[simp] theorem State.setSillPage_resp (s : State) (n page : Nat) (p : SillPage) : (s.setSillPage n page p).resp = s.resp := rfl
@[simp] theorem State.setSillPage_ringQ (s : State) (n page : Nat) (p : SillPage) : (s.setSillPage n page p).ringQ = s.ringQ := rfl
@[simp] theorem State.setSillPage_logQ (s : State) (n page : Nat) (p : SillPage) : (s.setSillPage n page p).logQ = s.logQ := rfl
@[simp] theorem State.setSillPage_mem (s : State) (n page : Nat) (p : SillPage) : (s.setSillPage n page p).mem = s.mem := rfl
@[simp] theorem State.setSillPage_lanes (s : State) (n page : Nat) (p : SillPage) : (s.setSillPage n page p).lanes = s.lanes := rfl
@[simp] theorem State.setSillPage_sched (s : State) (n page : Nat) (p : SillPage) : (s.setSillPage n page p).sched = s.sched := rfl
@[simp] theorem State.setSillPage_tap (s : State) (n page : Nat) (p : SillPage) : (s.setSillPage n page p).tap = s.tap := rfl
@[simp] theorem State.setSillPage_longMem (s : State) (n page : Nat) (p : SillPage) : (s.setSillPage n page p).longMem = s.longMem := rfl
@[simp] theorem State.setSillPage_retPages (s : State) (n page : Nat) (p : SillPage) : (s.setSillPage n page p).retPages = s.retPages := rfl
@[simp] theorem State.setSillPage_plate (s : State) (n page : Nat) (p : SillPage) : (s.setSillPage n page p).plate = s.plate := rfl
@[simp] theorem State.setSillPage_links (s : State) (n page : Nat) (p : SillPage) : (s.setSillPage n page p).links = s.links := rfl
@[simp] theorem State.setSillPage_actions (s : State) (n page : Nat) (p : SillPage) : (s.setSillPage n page p).actions = s.actions := rfl
@[simp] theorem State.setSillPage_pauses (s : State) (n page : Nat) (p : SillPage) : (s.setSillPage n page p).pauses = s.pauses := rfl
@[simp] theorem State.setSillPage_mdlyHeld (s : State) (n page : Nat) (p : SillPage) : (s.setSillPage n page p).mdlyHeld = s.mdlyHeld := rfl
@[simp] theorem State.setSillPage_chg (s : State) (n page : Nat) (p : SillPage) : (s.setSillPage n page p).chg = s.chg := rfl
@[simp] theorem State.setSillPage_queued (s : State) (n page : Nat) (p : SillPage) : (s.setSillPage n page p).queued = s.queued := rfl
@[simp] theorem State.setSillPage_scnTrig (s : State) (n page : Nat) (p : SillPage) : (s.setSillPage n page p).scnTrig = s.scnTrig := rfl
@[simp] theorem State.setSillPage_scnQ (s : State) (n page : Nat) (p : SillPage) : (s.setSillPage n page p).scnQ = s.scnQ := rfl
@[simp] theorem State.setSillPage_mrecHeld (s : State) (n page : Nat) (p : SillPage) : (s.setSillPage n page p).mrecHeld = s.mrecHeld := rfl
@[simp] theorem State.setSillPage_sides (s : State) (n page : Nat) (p : SillPage) : (s.setSillPage n page p).sides = s.sides := rfl
@[simp] theorem State.setSillPage_groups (s : State) (n page : Nat) (p : SillPage) : (s.setSillPage n page p).groups = s.groups := rfl
@[simp] theorem State.setSillPage_plumb (s : State) (n page : Nat) (p : SillPage) : (s.setSillPage n page p).plumb = s.plumb := rfl
@[simp] theorem State.setSillPage_mate (s : State) (n page : Nat) (p : SillPage) : (s.setSillPage n page p).mate = s.mate := rfl
@[simp] theorem State.setSillPage_fuses (s : State) (n page : Nat) (p : SillPage) : (s.setSillPage n page p).fuses = s.fuses := rfl
@[simp] theorem State.setSillPage_raise (s : State) (n page : Nat) (p : SillPage) : (s.setSillPage n page p).raise = s.raise := rfl
@[simp] theorem State.setSillPage_pcie (s : State) (n page : Nat) (p : SillPage) : (s.setSillPage n page p).pcie = s.pcie := rfl
@[simp] theorem State.setSillPage_own (s : State) (n page : Nat) (p : SillPage) : (s.setSillPage n page p).own = s.own := rfl
@[simp] theorem State.setSillPage_sampled (s : State) (n page : Nat) (p : SillPage) : (s.setSillPage n page p).sampled = s.sampled := rfl
@[simp] theorem State.setSillPage_tunnel (s : State) (n page : Nat) (p : SillPage) : (s.setSillPage n page p).tunnel = s.tunnel := rfl
@[simp] theorem State.setSillPage_spiQuad (s : State) (n page : Nat) (p : SillPage) : (s.setSillPage n page p).spiQuad = s.spiQuad := rfl
@[simp] theorem State.setSillPage_snd (s : State) (n page : Nat) (p : SillPage) : (s.setSillPage n page p).snd = s.snd := rfl
@[simp] theorem State.setSillPage_ddr (s : State) (n page : Nat) (p : SillPage) : (s.setSillPage n page p).ddr = s.ddr := rfl
@[simp] theorem State.setSillPage_snapFixed (s : State) (n page : Nat) (p : SillPage) : (s.setSillPage n page p).snapFixed = s.snapFixed := rfl
@[simp] theorem State.setSillPage_chainHeld (s : State) (n page : Nat) (p : SillPage) : (s.setSillPage n page p).chainHeld = s.chainHeld := rfl
@[simp] theorem State.setSillPage_snapAt (s : State) (n page : Nat) (p : SillPage) : (s.setSillPage n page p).snapAt = s.snapAt := rfl
@[simp] theorem State.setSillPage_snapped (s : State) (n page : Nat) (p : SillPage) : (s.setSillPage n page p).snapped = s.snapped := rfl
@[simp] theorem State.setSillPage_clear (s : State) (n page : Nat) (p : SillPage) : (s.setSillPage n page p).clear = s.clear := rfl
@[simp] theorem State.setSillPage_archive (s : State) (n page : Nat) (p : SillPage) : (s.setSillPage n page p).archive = s.archive := rfl
@[simp] theorem State.setSillPage_pegs (s : State) (n page : Nat) (p : SillPage) : (s.setSillPage n page p).pegs = s.pegs := rfl
@[simp] theorem State.setSillPage_tally (s : State) (n page : Nat) (p : SillPage) : (s.setSillPage n page p).tally = s.tally := rfl
@[simp] theorem State.setSillPage_tallyQ (s : State) (n page : Nat) (p : SillPage) : (s.setSillPage n page p).tallyQ = s.tallyQ := rfl
@[simp] theorem State.setSillPage_tallySecond (s : State) (n page : Nat) (p : SillPage) : (s.setSillPage n page p).tallySecond = s.tallySecond := rfl
@[simp] theorem State.setSillPage_tallyLost (s : State) (n page : Nat) (p : SillPage) : (s.setSillPage n page p).tallyLost = s.tallyLost := rfl
@[simp] theorem State.setSillPage_sist (s : State) (n page : Nat) (p : SillPage) : (s.setSillPage n page p).sist = s.sist := rfl
@[simp] theorem State.setSillPage_guarding (s : State) (n page : Nat) (p : SillPage) : (s.setSillPage n page p).guarding = s.guarding := rfl
@[simp] theorem State.setSillPage_tallyRaw (s : State) (n page : Nat) (p : SillPage) : (s.setSillPage n page p).tallyRaw = s.tallyRaw := rfl
@[simp] theorem State.setSillPage_fld (s : State) (n page : Nat) (p : SillPage) (g : Fld) (k : Nat) : (s.setSillPage n page p).fld g k = s.fld g k := rfl
@[simp] theorem State.setSillPage_flag (s : State) (n page : Nat) (p : SillPage) (g : Fld) (k : Nat) : (s.setSillPage n page p).flag g k = s.flag g k := rfl
@[simp] theorem State.setSillPage_stg (s : State) (n page : Nat) (p : SillPage) (g : Fld) (k : Nat) : (s.setSillPage n page p).stg g k = s.stg g k := rfl
@[simp] theorem State.setSillPage_mfld (s : State) (n page : Nat) (p : SillPage) (g : Fld) (k j : Nat) : (s.setSillPage n page p).mfld g k j = s.mfld g k j := rfl
@[simp] theorem State.setSillPage_latched (s : State) (n page : Nat) (p : SillPage) (ev : Ev) (k : Nat) : (s.setSillPage n page p).latched ev k = s.latched ev k := rfl
@[simp] theorem State.setSillPage_frame (s : State) (n page : Nat) (p : SillPage) : (s.setSillPage n page p).frame = s.frame := rfl
@[simp] theorem State.setSillPage_lane (s : State) (n page : Nat) (p : SillPage) (k : Nat) : (s.setSillPage n page p).lane k = s.lane k := rfl
@[simp] theorem State.setSillPage_byte (s : State) (n page : Nat) (p : SillPage) (c : Nat) : (s.setSillPage n page p).byte c = s.byte c := rfl

/-! ### State.updLink -/

@[simp] theorem State.updLink_pending (s : State) (src : Nat) (f : Link → Link) : (s.updLink src f).pending = s.pending := rfl
@[simp] theorem State.updLink_regs (s : State) (src : Nat) (f : Link → Link) : (s.updLink src f).regs = s.regs := rfl
@[simp] theorem State.updLink_staged (s : State) (src : Nat) (f : Link → Link) : (s.updLink src f).staged = s.staged := rfl
@[simp] theorem State.updLink_perMaster (s : State) (src : Nat) (f : Link → Link) : (s.updLink src f).perMaster = s.perMaster := rfl
@[simp] theorem State.updLink_latHigh (s : State) (src : Nat) (f : Link → Link) : (s.updLink src f).latHigh = s.latHigh := rfl
@[simp] theorem State.updLink_heldLow (s : State) (src : Nat) (f : Link → Link) : (s.updLink src f).heldLow = s.heldLow := rfl
@[simp] theorem State.updLink_frameCycle (s : State) (src : Nat) (f : Link → Link) : (s.updLink src f).frameCycle = s.frameCycle := rfl
@[simp] theorem State.updLink_cycle (s : State) (src : Nat) (f : Link → Link) : (s.updLink src f).cycle = s.cycle := rfl
@[simp] theorem State.updLink_free (s : State) (src : Nat) (f : Link → Link) : (s.updLink src f).free = s.free := rfl
@[simp] theorem State.updLink_resp (s : State) (src : Nat) (f : Link → Link) : (s.updLink src f).resp = s.resp := rfl
@[simp] theorem State.updLink_ringQ (s : State) (src : Nat) (f : Link → Link) : (s.updLink src f).ringQ = s.ringQ := rfl
@[simp] theorem State.updLink_logQ (s : State) (src : Nat) (f : Link → Link) : (s.updLink src f).logQ = s.logQ := rfl
@[simp] theorem State.updLink_mem (s : State) (src : Nat) (f : Link → Link) : (s.updLink src f).mem = s.mem := rfl
@[simp] theorem State.updLink_lanes (s : State) (src : Nat) (f : Link → Link) : (s.updLink src f).lanes = s.lanes := rfl
@[simp] theorem State.updLink_sill (s : State) (src : Nat) (f : Link → Link) : (s.updLink src f).sill = s.sill := rfl
@[simp] theorem State.updLink_sched (s : State) (src : Nat) (f : Link → Link) : (s.updLink src f).sched = s.sched := rfl
@[simp] theorem State.updLink_tap (s : State) (src : Nat) (f : Link → Link) : (s.updLink src f).tap = s.tap := rfl
@[simp] theorem State.updLink_longMem (s : State) (src : Nat) (f : Link → Link) : (s.updLink src f).longMem = s.longMem := rfl
@[simp] theorem State.updLink_retPages (s : State) (src : Nat) (f : Link → Link) : (s.updLink src f).retPages = s.retPages := rfl
@[simp] theorem State.updLink_plate (s : State) (src : Nat) (f : Link → Link) : (s.updLink src f).plate = s.plate := rfl
@[simp] theorem State.updLink_actions (s : State) (src : Nat) (f : Link → Link) : (s.updLink src f).actions = s.actions := rfl
@[simp] theorem State.updLink_pauses (s : State) (src : Nat) (f : Link → Link) : (s.updLink src f).pauses = s.pauses := rfl
@[simp] theorem State.updLink_mdlyHeld (s : State) (src : Nat) (f : Link → Link) : (s.updLink src f).mdlyHeld = s.mdlyHeld := rfl
@[simp] theorem State.updLink_chg (s : State) (src : Nat) (f : Link → Link) : (s.updLink src f).chg = s.chg := rfl
@[simp] theorem State.updLink_queued (s : State) (src : Nat) (f : Link → Link) : (s.updLink src f).queued = s.queued := rfl
@[simp] theorem State.updLink_scnTrig (s : State) (src : Nat) (f : Link → Link) : (s.updLink src f).scnTrig = s.scnTrig := rfl
@[simp] theorem State.updLink_scnQ (s : State) (src : Nat) (f : Link → Link) : (s.updLink src f).scnQ = s.scnQ := rfl
@[simp] theorem State.updLink_mrecHeld (s : State) (src : Nat) (f : Link → Link) : (s.updLink src f).mrecHeld = s.mrecHeld := rfl
@[simp] theorem State.updLink_sides (s : State) (src : Nat) (f : Link → Link) : (s.updLink src f).sides = s.sides := rfl
@[simp] theorem State.updLink_groups (s : State) (src : Nat) (f : Link → Link) : (s.updLink src f).groups = s.groups := rfl
@[simp] theorem State.updLink_plumb (s : State) (src : Nat) (f : Link → Link) : (s.updLink src f).plumb = s.plumb := rfl
@[simp] theorem State.updLink_mate (s : State) (src : Nat) (f : Link → Link) : (s.updLink src f).mate = s.mate := rfl
@[simp] theorem State.updLink_fuses (s : State) (src : Nat) (f : Link → Link) : (s.updLink src f).fuses = s.fuses := rfl
@[simp] theorem State.updLink_raise (s : State) (src : Nat) (f : Link → Link) : (s.updLink src f).raise = s.raise := rfl
@[simp] theorem State.updLink_pcie (s : State) (src : Nat) (f : Link → Link) : (s.updLink src f).pcie = s.pcie := rfl
@[simp] theorem State.updLink_own (s : State) (src : Nat) (f : Link → Link) : (s.updLink src f).own = s.own := rfl
@[simp] theorem State.updLink_sampled (s : State) (src : Nat) (f : Link → Link) : (s.updLink src f).sampled = s.sampled := rfl
@[simp] theorem State.updLink_tunnel (s : State) (src : Nat) (f : Link → Link) : (s.updLink src f).tunnel = s.tunnel := rfl
@[simp] theorem State.updLink_spiQuad (s : State) (src : Nat) (f : Link → Link) : (s.updLink src f).spiQuad = s.spiQuad := rfl
@[simp] theorem State.updLink_snd (s : State) (src : Nat) (f : Link → Link) : (s.updLink src f).snd = s.snd := rfl
@[simp] theorem State.updLink_ddr (s : State) (src : Nat) (f : Link → Link) : (s.updLink src f).ddr = s.ddr := rfl
@[simp] theorem State.updLink_snapFixed (s : State) (src : Nat) (f : Link → Link) : (s.updLink src f).snapFixed = s.snapFixed := rfl
@[simp] theorem State.updLink_chainHeld (s : State) (src : Nat) (f : Link → Link) : (s.updLink src f).chainHeld = s.chainHeld := rfl
@[simp] theorem State.updLink_snapAt (s : State) (src : Nat) (f : Link → Link) : (s.updLink src f).snapAt = s.snapAt := rfl
@[simp] theorem State.updLink_snapped (s : State) (src : Nat) (f : Link → Link) : (s.updLink src f).snapped = s.snapped := rfl
@[simp] theorem State.updLink_clear (s : State) (src : Nat) (f : Link → Link) : (s.updLink src f).clear = s.clear := rfl
@[simp] theorem State.updLink_archive (s : State) (src : Nat) (f : Link → Link) : (s.updLink src f).archive = s.archive := rfl
@[simp] theorem State.updLink_pegs (s : State) (src : Nat) (f : Link → Link) : (s.updLink src f).pegs = s.pegs := rfl
@[simp] theorem State.updLink_tally (s : State) (src : Nat) (f : Link → Link) : (s.updLink src f).tally = s.tally := rfl
@[simp] theorem State.updLink_tallyQ (s : State) (src : Nat) (f : Link → Link) : (s.updLink src f).tallyQ = s.tallyQ := rfl
@[simp] theorem State.updLink_tallySecond (s : State) (src : Nat) (f : Link → Link) : (s.updLink src f).tallySecond = s.tallySecond := rfl
@[simp] theorem State.updLink_tallyLost (s : State) (src : Nat) (f : Link → Link) : (s.updLink src f).tallyLost = s.tallyLost := rfl
@[simp] theorem State.updLink_sist (s : State) (src : Nat) (f : Link → Link) : (s.updLink src f).sist = s.sist := rfl
@[simp] theorem State.updLink_guarding (s : State) (src : Nat) (f : Link → Link) : (s.updLink src f).guarding = s.guarding := rfl
@[simp] theorem State.updLink_tallyRaw (s : State) (src : Nat) (f : Link → Link) : (s.updLink src f).tallyRaw = s.tallyRaw := rfl
@[simp] theorem State.updLink_fld (s : State) (src : Nat) (f : Link → Link) (g : Fld) (k : Nat) : (s.updLink src f).fld g k = s.fld g k := rfl
@[simp] theorem State.updLink_flag (s : State) (src : Nat) (f : Link → Link) (g : Fld) (k : Nat) : (s.updLink src f).flag g k = s.flag g k := rfl
@[simp] theorem State.updLink_stg (s : State) (src : Nat) (f : Link → Link) (g : Fld) (k : Nat) : (s.updLink src f).stg g k = s.stg g k := rfl
@[simp] theorem State.updLink_mfld (s : State) (src : Nat) (f : Link → Link) (g : Fld) (k j : Nat) : (s.updLink src f).mfld g k j = s.mfld g k j := rfl
@[simp] theorem State.updLink_latched (s : State) (src : Nat) (f : Link → Link) (ev : Ev) (k : Nat) : (s.updLink src f).latched ev k = s.latched ev k := rfl
@[simp] theorem State.updLink_frame (s : State) (src : Nat) (f : Link → Link) : (s.updLink src f).frame = s.frame := rfl
@[simp] theorem State.updLink_lane (s : State) (src : Nat) (f : Link → Link) (k : Nat) : (s.updLink src f).lane k = s.lane k := rfl
@[simp] theorem State.updLink_byte (s : State) (src : Nat) (f : Link → Link) (c : Nat) : (s.updLink src f).byte c = s.byte c := rfl

/-! ### State.blow -/

@[simp] theorem State.blow_pending (s : State) (f : Fuses) : (s.blow f).pending = s.pending := rfl
@[simp] theorem State.blow_regs (s : State) (f : Fuses) : (s.blow f).regs = s.regs := rfl
@[simp] theorem State.blow_staged (s : State) (f : Fuses) : (s.blow f).staged = s.staged := rfl
@[simp] theorem State.blow_perMaster (s : State) (f : Fuses) : (s.blow f).perMaster = s.perMaster := rfl
@[simp] theorem State.blow_latHigh (s : State) (f : Fuses) : (s.blow f).latHigh = s.latHigh := rfl
@[simp] theorem State.blow_heldLow (s : State) (f : Fuses) : (s.blow f).heldLow = s.heldLow := rfl
@[simp] theorem State.blow_frameCycle (s : State) (f : Fuses) : (s.blow f).frameCycle = s.frameCycle := rfl
@[simp] theorem State.blow_cycle (s : State) (f : Fuses) : (s.blow f).cycle = s.cycle := rfl
@[simp] theorem State.blow_free (s : State) (f : Fuses) : (s.blow f).free = s.free := rfl
@[simp] theorem State.blow_resp (s : State) (f : Fuses) : (s.blow f).resp = s.resp := rfl
@[simp] theorem State.blow_ringQ (s : State) (f : Fuses) : (s.blow f).ringQ = s.ringQ := rfl
@[simp] theorem State.blow_logQ (s : State) (f : Fuses) : (s.blow f).logQ = s.logQ := rfl
@[simp] theorem State.blow_mem (s : State) (f : Fuses) : (s.blow f).mem = s.mem := rfl
@[simp] theorem State.blow_lanes (s : State) (f : Fuses) : (s.blow f).lanes = s.lanes := rfl
@[simp] theorem State.blow_sill (s : State) (f : Fuses) : (s.blow f).sill = s.sill := rfl
@[simp] theorem State.blow_sched (s : State) (f : Fuses) : (s.blow f).sched = s.sched := rfl
@[simp] theorem State.blow_tap (s : State) (f : Fuses) : (s.blow f).tap = s.tap := rfl
@[simp] theorem State.blow_longMem (s : State) (f : Fuses) : (s.blow f).longMem = s.longMem := rfl
@[simp] theorem State.blow_retPages (s : State) (f : Fuses) : (s.blow f).retPages = s.retPages := rfl
@[simp] theorem State.blow_plate (s : State) (f : Fuses) : (s.blow f).plate = s.plate := rfl
@[simp] theorem State.blow_links (s : State) (f : Fuses) : (s.blow f).links = s.links := rfl
@[simp] theorem State.blow_actions (s : State) (f : Fuses) : (s.blow f).actions = s.actions := rfl
@[simp] theorem State.blow_pauses (s : State) (f : Fuses) : (s.blow f).pauses = s.pauses := rfl
@[simp] theorem State.blow_mdlyHeld (s : State) (f : Fuses) : (s.blow f).mdlyHeld = s.mdlyHeld := rfl
@[simp] theorem State.blow_chg (s : State) (f : Fuses) : (s.blow f).chg = s.chg := rfl
@[simp] theorem State.blow_queued (s : State) (f : Fuses) : (s.blow f).queued = s.queued := rfl
@[simp] theorem State.blow_scnTrig (s : State) (f : Fuses) : (s.blow f).scnTrig = s.scnTrig := rfl
@[simp] theorem State.blow_scnQ (s : State) (f : Fuses) : (s.blow f).scnQ = s.scnQ := rfl
@[simp] theorem State.blow_mrecHeld (s : State) (f : Fuses) : (s.blow f).mrecHeld = s.mrecHeld := rfl
@[simp] theorem State.blow_sides (s : State) (f : Fuses) : (s.blow f).sides = s.sides := rfl
@[simp] theorem State.blow_groups (s : State) (f : Fuses) : (s.blow f).groups = s.groups := rfl
@[simp] theorem State.blow_plumb (s : State) (f : Fuses) : (s.blow f).plumb = s.plumb := rfl
@[simp] theorem State.blow_mate (s : State) (f : Fuses) : (s.blow f).mate = s.mate := rfl
@[simp] theorem State.blow_raise (s : State) (f : Fuses) : (s.blow f).raise = s.raise := rfl
@[simp] theorem State.blow_pcie (s : State) (f : Fuses) : (s.blow f).pcie = s.pcie := rfl
@[simp] theorem State.blow_own (s : State) (f : Fuses) : (s.blow f).own = s.own := rfl
@[simp] theorem State.blow_sampled (s : State) (f : Fuses) : (s.blow f).sampled = s.sampled := rfl
@[simp] theorem State.blow_tunnel (s : State) (f : Fuses) : (s.blow f).tunnel = s.tunnel := rfl
@[simp] theorem State.blow_spiQuad (s : State) (f : Fuses) : (s.blow f).spiQuad = s.spiQuad := rfl
@[simp] theorem State.blow_snd (s : State) (f : Fuses) : (s.blow f).snd = s.snd := rfl
@[simp] theorem State.blow_ddr (s : State) (f : Fuses) : (s.blow f).ddr = s.ddr := rfl
@[simp] theorem State.blow_snapFixed (s : State) (f : Fuses) : (s.blow f).snapFixed = s.snapFixed := rfl
@[simp] theorem State.blow_chainHeld (s : State) (f : Fuses) : (s.blow f).chainHeld = s.chainHeld := rfl
@[simp] theorem State.blow_snapAt (s : State) (f : Fuses) : (s.blow f).snapAt = s.snapAt := rfl
@[simp] theorem State.blow_snapped (s : State) (f : Fuses) : (s.blow f).snapped = s.snapped := rfl
@[simp] theorem State.blow_clear (s : State) (f : Fuses) : (s.blow f).clear = s.clear := rfl
@[simp] theorem State.blow_archive (s : State) (f : Fuses) : (s.blow f).archive = s.archive := rfl
@[simp] theorem State.blow_pegs (s : State) (f : Fuses) : (s.blow f).pegs = s.pegs := rfl
@[simp] theorem State.blow_tally (s : State) (f : Fuses) : (s.blow f).tally = s.tally := rfl
@[simp] theorem State.blow_tallyQ (s : State) (f : Fuses) : (s.blow f).tallyQ = s.tallyQ := rfl
@[simp] theorem State.blow_tallySecond (s : State) (f : Fuses) : (s.blow f).tallySecond = s.tallySecond := rfl
@[simp] theorem State.blow_tallyLost (s : State) (f : Fuses) : (s.blow f).tallyLost = s.tallyLost := rfl
@[simp] theorem State.blow_sist (s : State) (f : Fuses) : (s.blow f).sist = s.sist := rfl
@[simp] theorem State.blow_guarding (s : State) (f : Fuses) : (s.blow f).guarding = s.guarding := rfl
@[simp] theorem State.blow_tallyRaw (s : State) (f : Fuses) : (s.blow f).tallyRaw = s.tallyRaw := rfl
@[simp] theorem State.blow_fld (s : State) (f : Fuses) (g : Fld) (k : Nat) : (s.blow f).fld g k = s.fld g k := rfl
@[simp] theorem State.blow_flag (s : State) (f : Fuses) (g : Fld) (k : Nat) : (s.blow f).flag g k = s.flag g k := rfl
@[simp] theorem State.blow_stg (s : State) (f : Fuses) (g : Fld) (k : Nat) : (s.blow f).stg g k = s.stg g k := rfl
@[simp] theorem State.blow_mfld (s : State) (f : Fuses) (g : Fld) (k j : Nat) : (s.blow f).mfld g k j = s.mfld g k j := rfl
@[simp] theorem State.blow_latched (s : State) (f : Fuses) (ev : Ev) (k : Nat) : (s.blow f).latched ev k = s.latched ev k := rfl
@[simp] theorem State.blow_frame (s : State) (f : Fuses) : (s.blow f).frame = s.frame := rfl
@[simp] theorem State.blow_lane (s : State) (f : Fuses) (k : Nat) : (s.blow f).lane k = s.lane k := rfl
@[simp] theorem State.blow_byte (s : State) (f : Fuses) (c : Nat) : (s.blow f).byte c = s.byte c := rfl

/-! ### State.updRaise -/

@[simp] theorem State.updRaise_pending (s : State) (f : Raise → Raise) : (s.updRaise f).pending = s.pending := rfl
@[simp] theorem State.updRaise_regs (s : State) (f : Raise → Raise) : (s.updRaise f).regs = s.regs := rfl
@[simp] theorem State.updRaise_staged (s : State) (f : Raise → Raise) : (s.updRaise f).staged = s.staged := rfl
@[simp] theorem State.updRaise_perMaster (s : State) (f : Raise → Raise) : (s.updRaise f).perMaster = s.perMaster := rfl
@[simp] theorem State.updRaise_latHigh (s : State) (f : Raise → Raise) : (s.updRaise f).latHigh = s.latHigh := rfl
@[simp] theorem State.updRaise_heldLow (s : State) (f : Raise → Raise) : (s.updRaise f).heldLow = s.heldLow := rfl
@[simp] theorem State.updRaise_frameCycle (s : State) (f : Raise → Raise) : (s.updRaise f).frameCycle = s.frameCycle := rfl
@[simp] theorem State.updRaise_cycle (s : State) (f : Raise → Raise) : (s.updRaise f).cycle = s.cycle := rfl
@[simp] theorem State.updRaise_free (s : State) (f : Raise → Raise) : (s.updRaise f).free = s.free := rfl
@[simp] theorem State.updRaise_resp (s : State) (f : Raise → Raise) : (s.updRaise f).resp = s.resp := rfl
@[simp] theorem State.updRaise_ringQ (s : State) (f : Raise → Raise) : (s.updRaise f).ringQ = s.ringQ := rfl
@[simp] theorem State.updRaise_logQ (s : State) (f : Raise → Raise) : (s.updRaise f).logQ = s.logQ := rfl
@[simp] theorem State.updRaise_mem (s : State) (f : Raise → Raise) : (s.updRaise f).mem = s.mem := rfl
@[simp] theorem State.updRaise_lanes (s : State) (f : Raise → Raise) : (s.updRaise f).lanes = s.lanes := rfl
@[simp] theorem State.updRaise_sill (s : State) (f : Raise → Raise) : (s.updRaise f).sill = s.sill := rfl
@[simp] theorem State.updRaise_sched (s : State) (f : Raise → Raise) : (s.updRaise f).sched = s.sched := rfl
@[simp] theorem State.updRaise_tap (s : State) (f : Raise → Raise) : (s.updRaise f).tap = s.tap := rfl
@[simp] theorem State.updRaise_longMem (s : State) (f : Raise → Raise) : (s.updRaise f).longMem = s.longMem := rfl
@[simp] theorem State.updRaise_retPages (s : State) (f : Raise → Raise) : (s.updRaise f).retPages = s.retPages := rfl
@[simp] theorem State.updRaise_plate (s : State) (f : Raise → Raise) : (s.updRaise f).plate = s.plate := rfl
@[simp] theorem State.updRaise_links (s : State) (f : Raise → Raise) : (s.updRaise f).links = s.links := rfl
@[simp] theorem State.updRaise_actions (s : State) (f : Raise → Raise) : (s.updRaise f).actions = s.actions := rfl
@[simp] theorem State.updRaise_pauses (s : State) (f : Raise → Raise) : (s.updRaise f).pauses = s.pauses := rfl
@[simp] theorem State.updRaise_mdlyHeld (s : State) (f : Raise → Raise) : (s.updRaise f).mdlyHeld = s.mdlyHeld := rfl
@[simp] theorem State.updRaise_chg (s : State) (f : Raise → Raise) : (s.updRaise f).chg = s.chg := rfl
@[simp] theorem State.updRaise_queued (s : State) (f : Raise → Raise) : (s.updRaise f).queued = s.queued := rfl
@[simp] theorem State.updRaise_scnTrig (s : State) (f : Raise → Raise) : (s.updRaise f).scnTrig = s.scnTrig := rfl
@[simp] theorem State.updRaise_scnQ (s : State) (f : Raise → Raise) : (s.updRaise f).scnQ = s.scnQ := rfl
@[simp] theorem State.updRaise_mrecHeld (s : State) (f : Raise → Raise) : (s.updRaise f).mrecHeld = s.mrecHeld := rfl
@[simp] theorem State.updRaise_sides (s : State) (f : Raise → Raise) : (s.updRaise f).sides = s.sides := rfl
@[simp] theorem State.updRaise_groups (s : State) (f : Raise → Raise) : (s.updRaise f).groups = s.groups := rfl
@[simp] theorem State.updRaise_plumb (s : State) (f : Raise → Raise) : (s.updRaise f).plumb = s.plumb := rfl
@[simp] theorem State.updRaise_mate (s : State) (f : Raise → Raise) : (s.updRaise f).mate = s.mate := rfl
@[simp] theorem State.updRaise_fuses (s : State) (f : Raise → Raise) : (s.updRaise f).fuses = s.fuses := rfl
@[simp] theorem State.updRaise_pcie (s : State) (f : Raise → Raise) : (s.updRaise f).pcie = s.pcie := rfl
@[simp] theorem State.updRaise_own (s : State) (f : Raise → Raise) : (s.updRaise f).own = s.own := rfl
@[simp] theorem State.updRaise_sampled (s : State) (f : Raise → Raise) : (s.updRaise f).sampled = s.sampled := rfl
@[simp] theorem State.updRaise_tunnel (s : State) (f : Raise → Raise) : (s.updRaise f).tunnel = s.tunnel := rfl
@[simp] theorem State.updRaise_spiQuad (s : State) (f : Raise → Raise) : (s.updRaise f).spiQuad = s.spiQuad := rfl
@[simp] theorem State.updRaise_snd (s : State) (f : Raise → Raise) : (s.updRaise f).snd = s.snd := rfl
@[simp] theorem State.updRaise_ddr (s : State) (f : Raise → Raise) : (s.updRaise f).ddr = s.ddr := rfl
@[simp] theorem State.updRaise_snapFixed (s : State) (f : Raise → Raise) : (s.updRaise f).snapFixed = s.snapFixed := rfl
@[simp] theorem State.updRaise_chainHeld (s : State) (f : Raise → Raise) : (s.updRaise f).chainHeld = s.chainHeld := rfl
@[simp] theorem State.updRaise_snapAt (s : State) (f : Raise → Raise) : (s.updRaise f).snapAt = s.snapAt := rfl
@[simp] theorem State.updRaise_snapped (s : State) (f : Raise → Raise) : (s.updRaise f).snapped = s.snapped := rfl
@[simp] theorem State.updRaise_clear (s : State) (f : Raise → Raise) : (s.updRaise f).clear = s.clear := rfl
@[simp] theorem State.updRaise_archive (s : State) (f : Raise → Raise) : (s.updRaise f).archive = s.archive := rfl
@[simp] theorem State.updRaise_pegs (s : State) (f : Raise → Raise) : (s.updRaise f).pegs = s.pegs := rfl
@[simp] theorem State.updRaise_tally (s : State) (f : Raise → Raise) : (s.updRaise f).tally = s.tally := rfl
@[simp] theorem State.updRaise_tallyQ (s : State) (f : Raise → Raise) : (s.updRaise f).tallyQ = s.tallyQ := rfl
@[simp] theorem State.updRaise_tallySecond (s : State) (f : Raise → Raise) : (s.updRaise f).tallySecond = s.tallySecond := rfl
@[simp] theorem State.updRaise_tallyLost (s : State) (f : Raise → Raise) : (s.updRaise f).tallyLost = s.tallyLost := rfl
@[simp] theorem State.updRaise_sist (s : State) (f : Raise → Raise) : (s.updRaise f).sist = s.sist := rfl
@[simp] theorem State.updRaise_guarding (s : State) (f : Raise → Raise) : (s.updRaise f).guarding = s.guarding := rfl
@[simp] theorem State.updRaise_tallyRaw (s : State) (f : Raise → Raise) : (s.updRaise f).tallyRaw = s.tallyRaw := rfl
@[simp] theorem State.updRaise_fld (s : State) (f : Raise → Raise) (g : Fld) (k : Nat) : (s.updRaise f).fld g k = s.fld g k := rfl
@[simp] theorem State.updRaise_flag (s : State) (f : Raise → Raise) (g : Fld) (k : Nat) : (s.updRaise f).flag g k = s.flag g k := rfl
@[simp] theorem State.updRaise_stg (s : State) (f : Raise → Raise) (g : Fld) (k : Nat) : (s.updRaise f).stg g k = s.stg g k := rfl
@[simp] theorem State.updRaise_mfld (s : State) (f : Raise → Raise) (g : Fld) (k j : Nat) : (s.updRaise f).mfld g k j = s.mfld g k j := rfl
@[simp] theorem State.updRaise_latched (s : State) (f : Raise → Raise) (ev : Ev) (k : Nat) : (s.updRaise f).latched ev k = s.latched ev k := rfl
@[simp] theorem State.updRaise_frame (s : State) (f : Raise → Raise) : (s.updRaise f).frame = s.frame := rfl
@[simp] theorem State.updRaise_lane (s : State) (f : Raise → Raise) (k : Nat) : (s.updRaise f).lane k = s.lane k := rfl
@[simp] theorem State.updRaise_byte (s : State) (f : Raise → Raise) (c : Nat) : (s.updRaise f).byte c = s.byte c := rfl
@[simp] theorem State.updRaise_self (s : State) (f : Raise → Raise) : (s.updRaise f).raise = f s.raise := rfl

/-! ### State.updPlumb -/

@[simp] theorem State.updPlumb_pending (s : State) (f : Plumb → Plumb) : (s.updPlumb f).pending = s.pending := rfl
@[simp] theorem State.updPlumb_regs (s : State) (f : Plumb → Plumb) : (s.updPlumb f).regs = s.regs := rfl
@[simp] theorem State.updPlumb_staged (s : State) (f : Plumb → Plumb) : (s.updPlumb f).staged = s.staged := rfl
@[simp] theorem State.updPlumb_perMaster (s : State) (f : Plumb → Plumb) : (s.updPlumb f).perMaster = s.perMaster := rfl
@[simp] theorem State.updPlumb_latHigh (s : State) (f : Plumb → Plumb) : (s.updPlumb f).latHigh = s.latHigh := rfl
@[simp] theorem State.updPlumb_heldLow (s : State) (f : Plumb → Plumb) : (s.updPlumb f).heldLow = s.heldLow := rfl
@[simp] theorem State.updPlumb_frameCycle (s : State) (f : Plumb → Plumb) : (s.updPlumb f).frameCycle = s.frameCycle := rfl
@[simp] theorem State.updPlumb_cycle (s : State) (f : Plumb → Plumb) : (s.updPlumb f).cycle = s.cycle := rfl
@[simp] theorem State.updPlumb_free (s : State) (f : Plumb → Plumb) : (s.updPlumb f).free = s.free := rfl
@[simp] theorem State.updPlumb_resp (s : State) (f : Plumb → Plumb) : (s.updPlumb f).resp = s.resp := rfl
@[simp] theorem State.updPlumb_ringQ (s : State) (f : Plumb → Plumb) : (s.updPlumb f).ringQ = s.ringQ := rfl
@[simp] theorem State.updPlumb_logQ (s : State) (f : Plumb → Plumb) : (s.updPlumb f).logQ = s.logQ := rfl
@[simp] theorem State.updPlumb_mem (s : State) (f : Plumb → Plumb) : (s.updPlumb f).mem = s.mem := rfl
@[simp] theorem State.updPlumb_lanes (s : State) (f : Plumb → Plumb) : (s.updPlumb f).lanes = s.lanes := rfl
@[simp] theorem State.updPlumb_sill (s : State) (f : Plumb → Plumb) : (s.updPlumb f).sill = s.sill := rfl
@[simp] theorem State.updPlumb_sched (s : State) (f : Plumb → Plumb) : (s.updPlumb f).sched = s.sched := rfl
@[simp] theorem State.updPlumb_tap (s : State) (f : Plumb → Plumb) : (s.updPlumb f).tap = s.tap := rfl
@[simp] theorem State.updPlumb_longMem (s : State) (f : Plumb → Plumb) : (s.updPlumb f).longMem = s.longMem := rfl
@[simp] theorem State.updPlumb_retPages (s : State) (f : Plumb → Plumb) : (s.updPlumb f).retPages = s.retPages := rfl
@[simp] theorem State.updPlumb_plate (s : State) (f : Plumb → Plumb) : (s.updPlumb f).plate = s.plate := rfl
@[simp] theorem State.updPlumb_links (s : State) (f : Plumb → Plumb) : (s.updPlumb f).links = s.links := rfl
@[simp] theorem State.updPlumb_actions (s : State) (f : Plumb → Plumb) : (s.updPlumb f).actions = s.actions := rfl
@[simp] theorem State.updPlumb_pauses (s : State) (f : Plumb → Plumb) : (s.updPlumb f).pauses = s.pauses := rfl
@[simp] theorem State.updPlumb_mdlyHeld (s : State) (f : Plumb → Plumb) : (s.updPlumb f).mdlyHeld = s.mdlyHeld := rfl
@[simp] theorem State.updPlumb_chg (s : State) (f : Plumb → Plumb) : (s.updPlumb f).chg = s.chg := rfl
@[simp] theorem State.updPlumb_queued (s : State) (f : Plumb → Plumb) : (s.updPlumb f).queued = s.queued := rfl
@[simp] theorem State.updPlumb_scnTrig (s : State) (f : Plumb → Plumb) : (s.updPlumb f).scnTrig = s.scnTrig := rfl
@[simp] theorem State.updPlumb_scnQ (s : State) (f : Plumb → Plumb) : (s.updPlumb f).scnQ = s.scnQ := rfl
@[simp] theorem State.updPlumb_mrecHeld (s : State) (f : Plumb → Plumb) : (s.updPlumb f).mrecHeld = s.mrecHeld := rfl
@[simp] theorem State.updPlumb_sides (s : State) (f : Plumb → Plumb) : (s.updPlumb f).sides = s.sides := rfl
@[simp] theorem State.updPlumb_groups (s : State) (f : Plumb → Plumb) : (s.updPlumb f).groups = s.groups := rfl
@[simp] theorem State.updPlumb_mate (s : State) (f : Plumb → Plumb) : (s.updPlumb f).mate = s.mate := rfl
@[simp] theorem State.updPlumb_fuses (s : State) (f : Plumb → Plumb) : (s.updPlumb f).fuses = s.fuses := rfl
@[simp] theorem State.updPlumb_raise (s : State) (f : Plumb → Plumb) : (s.updPlumb f).raise = s.raise := rfl
@[simp] theorem State.updPlumb_pcie (s : State) (f : Plumb → Plumb) : (s.updPlumb f).pcie = s.pcie := rfl
@[simp] theorem State.updPlumb_own (s : State) (f : Plumb → Plumb) : (s.updPlumb f).own = s.own := rfl
@[simp] theorem State.updPlumb_sampled (s : State) (f : Plumb → Plumb) : (s.updPlumb f).sampled = s.sampled := rfl
@[simp] theorem State.updPlumb_tunnel (s : State) (f : Plumb → Plumb) : (s.updPlumb f).tunnel = s.tunnel := rfl
@[simp] theorem State.updPlumb_spiQuad (s : State) (f : Plumb → Plumb) : (s.updPlumb f).spiQuad = s.spiQuad := rfl
@[simp] theorem State.updPlumb_snd (s : State) (f : Plumb → Plumb) : (s.updPlumb f).snd = s.snd := rfl
@[simp] theorem State.updPlumb_ddr (s : State) (f : Plumb → Plumb) : (s.updPlumb f).ddr = s.ddr := rfl
@[simp] theorem State.updPlumb_snapFixed (s : State) (f : Plumb → Plumb) : (s.updPlumb f).snapFixed = s.snapFixed := rfl
@[simp] theorem State.updPlumb_chainHeld (s : State) (f : Plumb → Plumb) : (s.updPlumb f).chainHeld = s.chainHeld := rfl
@[simp] theorem State.updPlumb_snapAt (s : State) (f : Plumb → Plumb) : (s.updPlumb f).snapAt = s.snapAt := rfl
@[simp] theorem State.updPlumb_snapped (s : State) (f : Plumb → Plumb) : (s.updPlumb f).snapped = s.snapped := rfl
@[simp] theorem State.updPlumb_clear (s : State) (f : Plumb → Plumb) : (s.updPlumb f).clear = s.clear := rfl
@[simp] theorem State.updPlumb_archive (s : State) (f : Plumb → Plumb) : (s.updPlumb f).archive = s.archive := rfl
@[simp] theorem State.updPlumb_pegs (s : State) (f : Plumb → Plumb) : (s.updPlumb f).pegs = s.pegs := rfl
@[simp] theorem State.updPlumb_tally (s : State) (f : Plumb → Plumb) : (s.updPlumb f).tally = s.tally := rfl
@[simp] theorem State.updPlumb_tallyQ (s : State) (f : Plumb → Plumb) : (s.updPlumb f).tallyQ = s.tallyQ := rfl
@[simp] theorem State.updPlumb_tallySecond (s : State) (f : Plumb → Plumb) : (s.updPlumb f).tallySecond = s.tallySecond := rfl
@[simp] theorem State.updPlumb_tallyLost (s : State) (f : Plumb → Plumb) : (s.updPlumb f).tallyLost = s.tallyLost := rfl
@[simp] theorem State.updPlumb_sist (s : State) (f : Plumb → Plumb) : (s.updPlumb f).sist = s.sist := rfl
@[simp] theorem State.updPlumb_guarding (s : State) (f : Plumb → Plumb) : (s.updPlumb f).guarding = s.guarding := rfl
@[simp] theorem State.updPlumb_tallyRaw (s : State) (f : Plumb → Plumb) : (s.updPlumb f).tallyRaw = s.tallyRaw := rfl
@[simp] theorem State.updPlumb_fld (s : State) (f : Plumb → Plumb) (g : Fld) (k : Nat) : (s.updPlumb f).fld g k = s.fld g k := rfl
@[simp] theorem State.updPlumb_flag (s : State) (f : Plumb → Plumb) (g : Fld) (k : Nat) : (s.updPlumb f).flag g k = s.flag g k := rfl
@[simp] theorem State.updPlumb_stg (s : State) (f : Plumb → Plumb) (g : Fld) (k : Nat) : (s.updPlumb f).stg g k = s.stg g k := rfl
@[simp] theorem State.updPlumb_mfld (s : State) (f : Plumb → Plumb) (g : Fld) (k j : Nat) : (s.updPlumb f).mfld g k j = s.mfld g k j := rfl
@[simp] theorem State.updPlumb_latched (s : State) (f : Plumb → Plumb) (ev : Ev) (k : Nat) : (s.updPlumb f).latched ev k = s.latched ev k := rfl
@[simp] theorem State.updPlumb_frame (s : State) (f : Plumb → Plumb) : (s.updPlumb f).frame = s.frame := rfl
@[simp] theorem State.updPlumb_lane (s : State) (f : Plumb → Plumb) (k : Nat) : (s.updPlumb f).lane k = s.lane k := rfl
@[simp] theorem State.updPlumb_byte (s : State) (f : Plumb → Plumb) (c : Nat) : (s.updPlumb f).byte c = s.byte c := rfl
@[simp] theorem State.updPlumb_self (s : State) (f : Plumb → Plumb) : (s.updPlumb f).plumb = f s.plumb := rfl

/-! ### State.latchHigh -/

@[simp] theorem State.latchHigh_pending (s : State) (m off v : Nat) : (s.latchHigh m off v).pending = s.pending := rfl
@[simp] theorem State.latchHigh_regs (s : State) (m off v : Nat) : (s.latchHigh m off v).regs = s.regs := rfl
@[simp] theorem State.latchHigh_staged (s : State) (m off v : Nat) : (s.latchHigh m off v).staged = s.staged := rfl
@[simp] theorem State.latchHigh_perMaster (s : State) (m off v : Nat) : (s.latchHigh m off v).perMaster = s.perMaster := rfl
@[simp] theorem State.latchHigh_heldLow (s : State) (m off v : Nat) : (s.latchHigh m off v).heldLow = s.heldLow := rfl
@[simp] theorem State.latchHigh_frameCycle (s : State) (m off v : Nat) : (s.latchHigh m off v).frameCycle = s.frameCycle := rfl
@[simp] theorem State.latchHigh_cycle (s : State) (m off v : Nat) : (s.latchHigh m off v).cycle = s.cycle := rfl
@[simp] theorem State.latchHigh_free (s : State) (m off v : Nat) : (s.latchHigh m off v).free = s.free := rfl
@[simp] theorem State.latchHigh_resp (s : State) (m off v : Nat) : (s.latchHigh m off v).resp = s.resp := rfl
@[simp] theorem State.latchHigh_ringQ (s : State) (m off v : Nat) : (s.latchHigh m off v).ringQ = s.ringQ := rfl
@[simp] theorem State.latchHigh_logQ (s : State) (m off v : Nat) : (s.latchHigh m off v).logQ = s.logQ := rfl
@[simp] theorem State.latchHigh_mem (s : State) (m off v : Nat) : (s.latchHigh m off v).mem = s.mem := rfl
@[simp] theorem State.latchHigh_lanes (s : State) (m off v : Nat) : (s.latchHigh m off v).lanes = s.lanes := rfl
@[simp] theorem State.latchHigh_sill (s : State) (m off v : Nat) : (s.latchHigh m off v).sill = s.sill := rfl
@[simp] theorem State.latchHigh_sched (s : State) (m off v : Nat) : (s.latchHigh m off v).sched = s.sched := rfl
@[simp] theorem State.latchHigh_tap (s : State) (m off v : Nat) : (s.latchHigh m off v).tap = s.tap := rfl
@[simp] theorem State.latchHigh_longMem (s : State) (m off v : Nat) : (s.latchHigh m off v).longMem = s.longMem := rfl
@[simp] theorem State.latchHigh_retPages (s : State) (m off v : Nat) : (s.latchHigh m off v).retPages = s.retPages := rfl
@[simp] theorem State.latchHigh_plate (s : State) (m off v : Nat) : (s.latchHigh m off v).plate = s.plate := rfl
@[simp] theorem State.latchHigh_links (s : State) (m off v : Nat) : (s.latchHigh m off v).links = s.links := rfl
@[simp] theorem State.latchHigh_actions (s : State) (m off v : Nat) : (s.latchHigh m off v).actions = s.actions := rfl
@[simp] theorem State.latchHigh_pauses (s : State) (m off v : Nat) : (s.latchHigh m off v).pauses = s.pauses := rfl
@[simp] theorem State.latchHigh_mdlyHeld (s : State) (m off v : Nat) : (s.latchHigh m off v).mdlyHeld = s.mdlyHeld := rfl
@[simp] theorem State.latchHigh_chg (s : State) (m off v : Nat) : (s.latchHigh m off v).chg = s.chg := rfl
@[simp] theorem State.latchHigh_queued (s : State) (m off v : Nat) : (s.latchHigh m off v).queued = s.queued := rfl
@[simp] theorem State.latchHigh_scnTrig (s : State) (m off v : Nat) : (s.latchHigh m off v).scnTrig = s.scnTrig := rfl
@[simp] theorem State.latchHigh_scnQ (s : State) (m off v : Nat) : (s.latchHigh m off v).scnQ = s.scnQ := rfl
@[simp] theorem State.latchHigh_mrecHeld (s : State) (m off v : Nat) : (s.latchHigh m off v).mrecHeld = s.mrecHeld := rfl
@[simp] theorem State.latchHigh_sides (s : State) (m off v : Nat) : (s.latchHigh m off v).sides = s.sides := rfl
@[simp] theorem State.latchHigh_groups (s : State) (m off v : Nat) : (s.latchHigh m off v).groups = s.groups := rfl
@[simp] theorem State.latchHigh_plumb (s : State) (m off v : Nat) : (s.latchHigh m off v).plumb = s.plumb := rfl
@[simp] theorem State.latchHigh_mate (s : State) (m off v : Nat) : (s.latchHigh m off v).mate = s.mate := rfl
@[simp] theorem State.latchHigh_fuses (s : State) (m off v : Nat) : (s.latchHigh m off v).fuses = s.fuses := rfl
@[simp] theorem State.latchHigh_raise (s : State) (m off v : Nat) : (s.latchHigh m off v).raise = s.raise := rfl
@[simp] theorem State.latchHigh_pcie (s : State) (m off v : Nat) : (s.latchHigh m off v).pcie = s.pcie := rfl
@[simp] theorem State.latchHigh_own (s : State) (m off v : Nat) : (s.latchHigh m off v).own = s.own := rfl
@[simp] theorem State.latchHigh_sampled (s : State) (m off v : Nat) : (s.latchHigh m off v).sampled = s.sampled := rfl
@[simp] theorem State.latchHigh_tunnel (s : State) (m off v : Nat) : (s.latchHigh m off v).tunnel = s.tunnel := rfl
@[simp] theorem State.latchHigh_spiQuad (s : State) (m off v : Nat) : (s.latchHigh m off v).spiQuad = s.spiQuad := rfl
@[simp] theorem State.latchHigh_snd (s : State) (m off v : Nat) : (s.latchHigh m off v).snd = s.snd := rfl
@[simp] theorem State.latchHigh_ddr (s : State) (m off v : Nat) : (s.latchHigh m off v).ddr = s.ddr := rfl
@[simp] theorem State.latchHigh_snapFixed (s : State) (m off v : Nat) : (s.latchHigh m off v).snapFixed = s.snapFixed := rfl
@[simp] theorem State.latchHigh_chainHeld (s : State) (m off v : Nat) : (s.latchHigh m off v).chainHeld = s.chainHeld := rfl
@[simp] theorem State.latchHigh_snapAt (s : State) (m off v : Nat) : (s.latchHigh m off v).snapAt = s.snapAt := rfl
@[simp] theorem State.latchHigh_snapped (s : State) (m off v : Nat) : (s.latchHigh m off v).snapped = s.snapped := rfl
@[simp] theorem State.latchHigh_clear (s : State) (m off v : Nat) : (s.latchHigh m off v).clear = s.clear := rfl
@[simp] theorem State.latchHigh_archive (s : State) (m off v : Nat) : (s.latchHigh m off v).archive = s.archive := rfl
@[simp] theorem State.latchHigh_pegs (s : State) (m off v : Nat) : (s.latchHigh m off v).pegs = s.pegs := rfl
@[simp] theorem State.latchHigh_tally (s : State) (m off v : Nat) : (s.latchHigh m off v).tally = s.tally := rfl
@[simp] theorem State.latchHigh_tallyQ (s : State) (m off v : Nat) : (s.latchHigh m off v).tallyQ = s.tallyQ := rfl
@[simp] theorem State.latchHigh_tallySecond (s : State) (m off v : Nat) : (s.latchHigh m off v).tallySecond = s.tallySecond := rfl
@[simp] theorem State.latchHigh_tallyLost (s : State) (m off v : Nat) : (s.latchHigh m off v).tallyLost = s.tallyLost := rfl
@[simp] theorem State.latchHigh_sist (s : State) (m off v : Nat) : (s.latchHigh m off v).sist = s.sist := rfl
@[simp] theorem State.latchHigh_guarding (s : State) (m off v : Nat) : (s.latchHigh m off v).guarding = s.guarding := rfl
@[simp] theorem State.latchHigh_tallyRaw (s : State) (m off v : Nat) : (s.latchHigh m off v).tallyRaw = s.tallyRaw := rfl
@[simp] theorem State.latchHigh_fld (s : State) (m off v : Nat) (g : Fld) (k : Nat) : (s.latchHigh m off v).fld g k = s.fld g k := rfl
@[simp] theorem State.latchHigh_flag (s : State) (m off v : Nat) (g : Fld) (k : Nat) : (s.latchHigh m off v).flag g k = s.flag g k := rfl
@[simp] theorem State.latchHigh_stg (s : State) (m off v : Nat) (g : Fld) (k : Nat) : (s.latchHigh m off v).stg g k = s.stg g k := rfl
@[simp] theorem State.latchHigh_mfld (s : State) (m off v : Nat) (g : Fld) (k j : Nat) : (s.latchHigh m off v).mfld g k j = s.mfld g k j := rfl
@[simp] theorem State.latchHigh_latched (s : State) (m off v : Nat) (ev : Ev) (k : Nat) : (s.latchHigh m off v).latched ev k = s.latched ev k := rfl
@[simp] theorem State.latchHigh_frame (s : State) (m off v : Nat) : (s.latchHigh m off v).frame = s.frame := rfl
@[simp] theorem State.latchHigh_lane (s : State) (m off v : Nat) (k : Nat) : (s.latchHigh m off v).lane k = s.lane k := rfl
@[simp] theorem State.latchHigh_byte (s : State) (m off v : Nat) (c : Nat) : (s.latchHigh m off v).byte c = s.byte c := rfl

/-! ### State.updOwn -/

@[simp] theorem State.updOwn_pending (s : State) (f : Owning → Owning) : (s.updOwn f).pending = s.pending := rfl
@[simp] theorem State.updOwn_regs (s : State) (f : Owning → Owning) : (s.updOwn f).regs = s.regs := rfl
@[simp] theorem State.updOwn_staged (s : State) (f : Owning → Owning) : (s.updOwn f).staged = s.staged := rfl
@[simp] theorem State.updOwn_perMaster (s : State) (f : Owning → Owning) : (s.updOwn f).perMaster = s.perMaster := rfl
@[simp] theorem State.updOwn_latHigh (s : State) (f : Owning → Owning) : (s.updOwn f).latHigh = s.latHigh := rfl
@[simp] theorem State.updOwn_heldLow (s : State) (f : Owning → Owning) : (s.updOwn f).heldLow = s.heldLow := rfl
@[simp] theorem State.updOwn_frameCycle (s : State) (f : Owning → Owning) : (s.updOwn f).frameCycle = s.frameCycle := rfl
@[simp] theorem State.updOwn_cycle (s : State) (f : Owning → Owning) : (s.updOwn f).cycle = s.cycle := rfl
@[simp] theorem State.updOwn_free (s : State) (f : Owning → Owning) : (s.updOwn f).free = s.free := rfl
@[simp] theorem State.updOwn_resp (s : State) (f : Owning → Owning) : (s.updOwn f).resp = s.resp := rfl
@[simp] theorem State.updOwn_ringQ (s : State) (f : Owning → Owning) : (s.updOwn f).ringQ = s.ringQ := rfl
@[simp] theorem State.updOwn_logQ (s : State) (f : Owning → Owning) : (s.updOwn f).logQ = s.logQ := rfl
@[simp] theorem State.updOwn_mem (s : State) (f : Owning → Owning) : (s.updOwn f).mem = s.mem := rfl
@[simp] theorem State.updOwn_lanes (s : State) (f : Owning → Owning) : (s.updOwn f).lanes = s.lanes := rfl
@[simp] theorem State.updOwn_sill (s : State) (f : Owning → Owning) : (s.updOwn f).sill = s.sill := rfl
@[simp] theorem State.updOwn_sched (s : State) (f : Owning → Owning) : (s.updOwn f).sched = s.sched := rfl
@[simp] theorem State.updOwn_tap (s : State) (f : Owning → Owning) : (s.updOwn f).tap = s.tap := rfl
@[simp] theorem State.updOwn_longMem (s : State) (f : Owning → Owning) : (s.updOwn f).longMem = s.longMem := rfl
@[simp] theorem State.updOwn_retPages (s : State) (f : Owning → Owning) : (s.updOwn f).retPages = s.retPages := rfl
@[simp] theorem State.updOwn_plate (s : State) (f : Owning → Owning) : (s.updOwn f).plate = s.plate := rfl
@[simp] theorem State.updOwn_links (s : State) (f : Owning → Owning) : (s.updOwn f).links = s.links := rfl
@[simp] theorem State.updOwn_actions (s : State) (f : Owning → Owning) : (s.updOwn f).actions = s.actions := rfl
@[simp] theorem State.updOwn_pauses (s : State) (f : Owning → Owning) : (s.updOwn f).pauses = s.pauses := rfl
@[simp] theorem State.updOwn_mdlyHeld (s : State) (f : Owning → Owning) : (s.updOwn f).mdlyHeld = s.mdlyHeld := rfl
@[simp] theorem State.updOwn_chg (s : State) (f : Owning → Owning) : (s.updOwn f).chg = s.chg := rfl
@[simp] theorem State.updOwn_queued (s : State) (f : Owning → Owning) : (s.updOwn f).queued = s.queued := rfl
@[simp] theorem State.updOwn_scnTrig (s : State) (f : Owning → Owning) : (s.updOwn f).scnTrig = s.scnTrig := rfl
@[simp] theorem State.updOwn_scnQ (s : State) (f : Owning → Owning) : (s.updOwn f).scnQ = s.scnQ := rfl
@[simp] theorem State.updOwn_mrecHeld (s : State) (f : Owning → Owning) : (s.updOwn f).mrecHeld = s.mrecHeld := rfl
@[simp] theorem State.updOwn_sides (s : State) (f : Owning → Owning) : (s.updOwn f).sides = s.sides := rfl
@[simp] theorem State.updOwn_groups (s : State) (f : Owning → Owning) : (s.updOwn f).groups = s.groups := rfl
@[simp] theorem State.updOwn_plumb (s : State) (f : Owning → Owning) : (s.updOwn f).plumb = s.plumb := rfl
@[simp] theorem State.updOwn_mate (s : State) (f : Owning → Owning) : (s.updOwn f).mate = s.mate := rfl
@[simp] theorem State.updOwn_fuses (s : State) (f : Owning → Owning) : (s.updOwn f).fuses = s.fuses := rfl
@[simp] theorem State.updOwn_raise (s : State) (f : Owning → Owning) : (s.updOwn f).raise = s.raise := rfl
@[simp] theorem State.updOwn_pcie (s : State) (f : Owning → Owning) : (s.updOwn f).pcie = s.pcie := rfl
@[simp] theorem State.updOwn_sampled (s : State) (f : Owning → Owning) : (s.updOwn f).sampled = s.sampled := rfl
@[simp] theorem State.updOwn_tunnel (s : State) (f : Owning → Owning) : (s.updOwn f).tunnel = s.tunnel := rfl
@[simp] theorem State.updOwn_spiQuad (s : State) (f : Owning → Owning) : (s.updOwn f).spiQuad = s.spiQuad := rfl
@[simp] theorem State.updOwn_snd (s : State) (f : Owning → Owning) : (s.updOwn f).snd = s.snd := rfl
@[simp] theorem State.updOwn_ddr (s : State) (f : Owning → Owning) : (s.updOwn f).ddr = s.ddr := rfl
@[simp] theorem State.updOwn_snapFixed (s : State) (f : Owning → Owning) : (s.updOwn f).snapFixed = s.snapFixed := rfl
@[simp] theorem State.updOwn_chainHeld (s : State) (f : Owning → Owning) : (s.updOwn f).chainHeld = s.chainHeld := rfl
@[simp] theorem State.updOwn_snapAt (s : State) (f : Owning → Owning) : (s.updOwn f).snapAt = s.snapAt := rfl
@[simp] theorem State.updOwn_snapped (s : State) (f : Owning → Owning) : (s.updOwn f).snapped = s.snapped := rfl
@[simp] theorem State.updOwn_clear (s : State) (f : Owning → Owning) : (s.updOwn f).clear = s.clear := rfl
@[simp] theorem State.updOwn_archive (s : State) (f : Owning → Owning) : (s.updOwn f).archive = s.archive := rfl
@[simp] theorem State.updOwn_pegs (s : State) (f : Owning → Owning) : (s.updOwn f).pegs = s.pegs := rfl
@[simp] theorem State.updOwn_tally (s : State) (f : Owning → Owning) : (s.updOwn f).tally = s.tally := rfl
@[simp] theorem State.updOwn_tallyQ (s : State) (f : Owning → Owning) : (s.updOwn f).tallyQ = s.tallyQ := rfl
@[simp] theorem State.updOwn_tallySecond (s : State) (f : Owning → Owning) : (s.updOwn f).tallySecond = s.tallySecond := rfl
@[simp] theorem State.updOwn_tallyLost (s : State) (f : Owning → Owning) : (s.updOwn f).tallyLost = s.tallyLost := rfl
@[simp] theorem State.updOwn_sist (s : State) (f : Owning → Owning) : (s.updOwn f).sist = s.sist := rfl
@[simp] theorem State.updOwn_guarding (s : State) (f : Owning → Owning) : (s.updOwn f).guarding = s.guarding := rfl
@[simp] theorem State.updOwn_tallyRaw (s : State) (f : Owning → Owning) : (s.updOwn f).tallyRaw = s.tallyRaw := rfl
@[simp] theorem State.updOwn_fld (s : State) (f : Owning → Owning) (g : Fld) (k : Nat) : (s.updOwn f).fld g k = s.fld g k := rfl
@[simp] theorem State.updOwn_flag (s : State) (f : Owning → Owning) (g : Fld) (k : Nat) : (s.updOwn f).flag g k = s.flag g k := rfl
@[simp] theorem State.updOwn_stg (s : State) (f : Owning → Owning) (g : Fld) (k : Nat) : (s.updOwn f).stg g k = s.stg g k := rfl
@[simp] theorem State.updOwn_mfld (s : State) (f : Owning → Owning) (g : Fld) (k j : Nat) : (s.updOwn f).mfld g k j = s.mfld g k j := rfl
@[simp] theorem State.updOwn_latched (s : State) (f : Owning → Owning) (ev : Ev) (k : Nat) : (s.updOwn f).latched ev k = s.latched ev k := rfl
@[simp] theorem State.updOwn_frame (s : State) (f : Owning → Owning) : (s.updOwn f).frame = s.frame := rfl
@[simp] theorem State.updOwn_lane (s : State) (f : Owning → Owning) (k : Nat) : (s.updOwn f).lane k = s.lane k := rfl
@[simp] theorem State.updOwn_byte (s : State) (f : Owning → Owning) (c : Nat) : (s.updOwn f).byte c = s.byte c := rfl
@[simp] theorem State.updOwn_self (s : State) (f : Owning → Owning) : (s.updOwn f).own = f s.own := rfl

/-! ### State.discard -/

@[simp] theorem State.discard_pending (s : State) : (s.discard).pending = s.pending := rfl
@[simp] theorem State.discard_regs (s : State) : (s.discard).regs = s.regs := rfl
@[simp] theorem State.discard_perMaster (s : State) : (s.discard).perMaster = s.perMaster := rfl
@[simp] theorem State.discard_latHigh (s : State) : (s.discard).latHigh = s.latHigh := rfl
@[simp] theorem State.discard_heldLow (s : State) : (s.discard).heldLow = s.heldLow := rfl
@[simp] theorem State.discard_frameCycle (s : State) : (s.discard).frameCycle = s.frameCycle := rfl
@[simp] theorem State.discard_cycle (s : State) : (s.discard).cycle = s.cycle := rfl
@[simp] theorem State.discard_free (s : State) : (s.discard).free = s.free := rfl
@[simp] theorem State.discard_resp (s : State) : (s.discard).resp = s.resp := rfl
@[simp] theorem State.discard_ringQ (s : State) : (s.discard).ringQ = s.ringQ := rfl
@[simp] theorem State.discard_logQ (s : State) : (s.discard).logQ = s.logQ := rfl
@[simp] theorem State.discard_mem (s : State) : (s.discard).mem = s.mem := rfl
@[simp] theorem State.discard_lanes (s : State) : (s.discard).lanes = s.lanes := rfl
@[simp] theorem State.discard_sill (s : State) : (s.discard).sill = s.sill := rfl
@[simp] theorem State.discard_sched (s : State) : (s.discard).sched = s.sched := rfl
@[simp] theorem State.discard_tap (s : State) : (s.discard).tap = s.tap := rfl
@[simp] theorem State.discard_longMem (s : State) : (s.discard).longMem = s.longMem := rfl
@[simp] theorem State.discard_retPages (s : State) : (s.discard).retPages = s.retPages := rfl
@[simp] theorem State.discard_plate (s : State) : (s.discard).plate = s.plate := rfl
@[simp] theorem State.discard_links (s : State) : (s.discard).links = s.links := rfl
@[simp] theorem State.discard_actions (s : State) : (s.discard).actions = s.actions := rfl
@[simp] theorem State.discard_pauses (s : State) : (s.discard).pauses = s.pauses := rfl
@[simp] theorem State.discard_mdlyHeld (s : State) : (s.discard).mdlyHeld = s.mdlyHeld := rfl
@[simp] theorem State.discard_chg (s : State) : (s.discard).chg = s.chg := rfl
@[simp] theorem State.discard_queued (s : State) : (s.discard).queued = s.queued := rfl
@[simp] theorem State.discard_scnTrig (s : State) : (s.discard).scnTrig = s.scnTrig := rfl
@[simp] theorem State.discard_scnQ (s : State) : (s.discard).scnQ = s.scnQ := rfl
@[simp] theorem State.discard_mrecHeld (s : State) : (s.discard).mrecHeld = s.mrecHeld := rfl
@[simp] theorem State.discard_sides (s : State) : (s.discard).sides = s.sides := rfl
@[simp] theorem State.discard_groups (s : State) : (s.discard).groups = s.groups := rfl
@[simp] theorem State.discard_plumb (s : State) : (s.discard).plumb = s.plumb := rfl
@[simp] theorem State.discard_mate (s : State) : (s.discard).mate = s.mate := rfl
@[simp] theorem State.discard_fuses (s : State) : (s.discard).fuses = s.fuses := rfl
@[simp] theorem State.discard_raise (s : State) : (s.discard).raise = s.raise := rfl
@[simp] theorem State.discard_pcie (s : State) : (s.discard).pcie = s.pcie := rfl
@[simp] theorem State.discard_own (s : State) : (s.discard).own = s.own := rfl
@[simp] theorem State.discard_sampled (s : State) : (s.discard).sampled = s.sampled := rfl
@[simp] theorem State.discard_tunnel (s : State) : (s.discard).tunnel = s.tunnel := rfl
@[simp] theorem State.discard_spiQuad (s : State) : (s.discard).spiQuad = s.spiQuad := rfl
@[simp] theorem State.discard_snd (s : State) : (s.discard).snd = s.snd := rfl
@[simp] theorem State.discard_ddr (s : State) : (s.discard).ddr = s.ddr := rfl
@[simp] theorem State.discard_snapFixed (s : State) : (s.discard).snapFixed = s.snapFixed := rfl
@[simp] theorem State.discard_chainHeld (s : State) : (s.discard).chainHeld = s.chainHeld := rfl
@[simp] theorem State.discard_snapAt (s : State) : (s.discard).snapAt = s.snapAt := rfl
@[simp] theorem State.discard_snapped (s : State) : (s.discard).snapped = s.snapped := rfl
@[simp] theorem State.discard_clear (s : State) : (s.discard).clear = s.clear := rfl
@[simp] theorem State.discard_archive (s : State) : (s.discard).archive = s.archive := rfl
@[simp] theorem State.discard_pegs (s : State) : (s.discard).pegs = s.pegs := rfl
@[simp] theorem State.discard_tally (s : State) : (s.discard).tally = s.tally := rfl
@[simp] theorem State.discard_tallyQ (s : State) : (s.discard).tallyQ = s.tallyQ := rfl
@[simp] theorem State.discard_tallySecond (s : State) : (s.discard).tallySecond = s.tallySecond := rfl
@[simp] theorem State.discard_tallyLost (s : State) : (s.discard).tallyLost = s.tallyLost := rfl
@[simp] theorem State.discard_sist (s : State) : (s.discard).sist = s.sist := rfl
@[simp] theorem State.discard_guarding (s : State) : (s.discard).guarding = s.guarding := rfl
@[simp] theorem State.discard_tallyRaw (s : State) : (s.discard).tallyRaw = s.tallyRaw := rfl
@[simp] theorem State.discard_fld (s : State) (g : Fld) (k : Nat) : (s.discard).fld g k = s.fld g k := rfl
@[simp] theorem State.discard_flag (s : State) (g : Fld) (k : Nat) : (s.discard).flag g k = s.flag g k := rfl
@[simp] theorem State.discard_mfld (s : State) (g : Fld) (k j : Nat) : (s.discard).mfld g k j = s.mfld g k j := rfl
@[simp] theorem State.discard_latched (s : State) (ev : Ev) (k : Nat) : (s.discard).latched ev k = s.latched ev k := rfl
@[simp] theorem State.discard_frame (s : State) : (s.discard).frame = s.frame := rfl
@[simp] theorem State.discard_lane (s : State) (k : Nat) : (s.discard).lane k = s.lane k := rfl
@[simp] theorem State.discard_byte (s : State) (c : Nat) : (s.discard).byte c = s.byte c := rfl

/-! ### State.updMate -/

@[simp] theorem State.updMate_pending (s : State) (f : Mate → Mate) : (s.updMate f).pending = s.pending := rfl
@[simp] theorem State.updMate_regs (s : State) (f : Mate → Mate) : (s.updMate f).regs = s.regs := rfl
@[simp] theorem State.updMate_staged (s : State) (f : Mate → Mate) : (s.updMate f).staged = s.staged := rfl
@[simp] theorem State.updMate_perMaster (s : State) (f : Mate → Mate) : (s.updMate f).perMaster = s.perMaster := rfl
@[simp] theorem State.updMate_latHigh (s : State) (f : Mate → Mate) : (s.updMate f).latHigh = s.latHigh := rfl
@[simp] theorem State.updMate_heldLow (s : State) (f : Mate → Mate) : (s.updMate f).heldLow = s.heldLow := rfl
@[simp] theorem State.updMate_frameCycle (s : State) (f : Mate → Mate) : (s.updMate f).frameCycle = s.frameCycle := rfl
@[simp] theorem State.updMate_cycle (s : State) (f : Mate → Mate) : (s.updMate f).cycle = s.cycle := rfl
@[simp] theorem State.updMate_free (s : State) (f : Mate → Mate) : (s.updMate f).free = s.free := rfl
@[simp] theorem State.updMate_resp (s : State) (f : Mate → Mate) : (s.updMate f).resp = s.resp := rfl
@[simp] theorem State.updMate_ringQ (s : State) (f : Mate → Mate) : (s.updMate f).ringQ = s.ringQ := rfl
@[simp] theorem State.updMate_logQ (s : State) (f : Mate → Mate) : (s.updMate f).logQ = s.logQ := rfl
@[simp] theorem State.updMate_mem (s : State) (f : Mate → Mate) : (s.updMate f).mem = s.mem := rfl
@[simp] theorem State.updMate_lanes (s : State) (f : Mate → Mate) : (s.updMate f).lanes = s.lanes := rfl
@[simp] theorem State.updMate_sill (s : State) (f : Mate → Mate) : (s.updMate f).sill = s.sill := rfl
@[simp] theorem State.updMate_sched (s : State) (f : Mate → Mate) : (s.updMate f).sched = s.sched := rfl
@[simp] theorem State.updMate_tap (s : State) (f : Mate → Mate) : (s.updMate f).tap = s.tap := rfl
@[simp] theorem State.updMate_longMem (s : State) (f : Mate → Mate) : (s.updMate f).longMem = s.longMem := rfl
@[simp] theorem State.updMate_retPages (s : State) (f : Mate → Mate) : (s.updMate f).retPages = s.retPages := rfl
@[simp] theorem State.updMate_plate (s : State) (f : Mate → Mate) : (s.updMate f).plate = s.plate := rfl
@[simp] theorem State.updMate_links (s : State) (f : Mate → Mate) : (s.updMate f).links = s.links := rfl
@[simp] theorem State.updMate_actions (s : State) (f : Mate → Mate) : (s.updMate f).actions = s.actions := rfl
@[simp] theorem State.updMate_pauses (s : State) (f : Mate → Mate) : (s.updMate f).pauses = s.pauses := rfl
@[simp] theorem State.updMate_mdlyHeld (s : State) (f : Mate → Mate) : (s.updMate f).mdlyHeld = s.mdlyHeld := rfl
@[simp] theorem State.updMate_chg (s : State) (f : Mate → Mate) : (s.updMate f).chg = s.chg := rfl
@[simp] theorem State.updMate_queued (s : State) (f : Mate → Mate) : (s.updMate f).queued = s.queued := rfl
@[simp] theorem State.updMate_scnTrig (s : State) (f : Mate → Mate) : (s.updMate f).scnTrig = s.scnTrig := rfl
@[simp] theorem State.updMate_scnQ (s : State) (f : Mate → Mate) : (s.updMate f).scnQ = s.scnQ := rfl
@[simp] theorem State.updMate_mrecHeld (s : State) (f : Mate → Mate) : (s.updMate f).mrecHeld = s.mrecHeld := rfl
@[simp] theorem State.updMate_sides (s : State) (f : Mate → Mate) : (s.updMate f).sides = s.sides := rfl
@[simp] theorem State.updMate_groups (s : State) (f : Mate → Mate) : (s.updMate f).groups = s.groups := rfl
@[simp] theorem State.updMate_plumb (s : State) (f : Mate → Mate) : (s.updMate f).plumb = s.plumb := rfl
@[simp] theorem State.updMate_fuses (s : State) (f : Mate → Mate) : (s.updMate f).fuses = s.fuses := rfl
@[simp] theorem State.updMate_raise (s : State) (f : Mate → Mate) : (s.updMate f).raise = s.raise := rfl
@[simp] theorem State.updMate_pcie (s : State) (f : Mate → Mate) : (s.updMate f).pcie = s.pcie := rfl
@[simp] theorem State.updMate_own (s : State) (f : Mate → Mate) : (s.updMate f).own = s.own := rfl
@[simp] theorem State.updMate_sampled (s : State) (f : Mate → Mate) : (s.updMate f).sampled = s.sampled := rfl
@[simp] theorem State.updMate_tunnel (s : State) (f : Mate → Mate) : (s.updMate f).tunnel = s.tunnel := rfl
@[simp] theorem State.updMate_spiQuad (s : State) (f : Mate → Mate) : (s.updMate f).spiQuad = s.spiQuad := rfl
@[simp] theorem State.updMate_snd (s : State) (f : Mate → Mate) : (s.updMate f).snd = s.snd := rfl
@[simp] theorem State.updMate_ddr (s : State) (f : Mate → Mate) : (s.updMate f).ddr = s.ddr := rfl
@[simp] theorem State.updMate_snapFixed (s : State) (f : Mate → Mate) : (s.updMate f).snapFixed = s.snapFixed := rfl
@[simp] theorem State.updMate_chainHeld (s : State) (f : Mate → Mate) : (s.updMate f).chainHeld = s.chainHeld := rfl
@[simp] theorem State.updMate_snapAt (s : State) (f : Mate → Mate) : (s.updMate f).snapAt = s.snapAt := rfl
@[simp] theorem State.updMate_snapped (s : State) (f : Mate → Mate) : (s.updMate f).snapped = s.snapped := rfl
@[simp] theorem State.updMate_clear (s : State) (f : Mate → Mate) : (s.updMate f).clear = s.clear := rfl
@[simp] theorem State.updMate_archive (s : State) (f : Mate → Mate) : (s.updMate f).archive = s.archive := rfl
@[simp] theorem State.updMate_pegs (s : State) (f : Mate → Mate) : (s.updMate f).pegs = s.pegs := rfl
@[simp] theorem State.updMate_tally (s : State) (f : Mate → Mate) : (s.updMate f).tally = s.tally := rfl
@[simp] theorem State.updMate_tallyQ (s : State) (f : Mate → Mate) : (s.updMate f).tallyQ = s.tallyQ := rfl
@[simp] theorem State.updMate_tallySecond (s : State) (f : Mate → Mate) : (s.updMate f).tallySecond = s.tallySecond := rfl
@[simp] theorem State.updMate_tallyLost (s : State) (f : Mate → Mate) : (s.updMate f).tallyLost = s.tallyLost := rfl
@[simp] theorem State.updMate_sist (s : State) (f : Mate → Mate) : (s.updMate f).sist = s.sist := rfl
@[simp] theorem State.updMate_guarding (s : State) (f : Mate → Mate) : (s.updMate f).guarding = s.guarding := rfl
@[simp] theorem State.updMate_tallyRaw (s : State) (f : Mate → Mate) : (s.updMate f).tallyRaw = s.tallyRaw := rfl
@[simp] theorem State.updMate_fld (s : State) (f : Mate → Mate) (g : Fld) (k : Nat) : (s.updMate f).fld g k = s.fld g k := rfl
@[simp] theorem State.updMate_flag (s : State) (f : Mate → Mate) (g : Fld) (k : Nat) : (s.updMate f).flag g k = s.flag g k := rfl
@[simp] theorem State.updMate_stg (s : State) (f : Mate → Mate) (g : Fld) (k : Nat) : (s.updMate f).stg g k = s.stg g k := rfl
@[simp] theorem State.updMate_mfld (s : State) (f : Mate → Mate) (g : Fld) (k j : Nat) : (s.updMate f).mfld g k j = s.mfld g k j := rfl
@[simp] theorem State.updMate_latched (s : State) (f : Mate → Mate) (ev : Ev) (k : Nat) : (s.updMate f).latched ev k = s.latched ev k := rfl
@[simp] theorem State.updMate_frame (s : State) (f : Mate → Mate) : (s.updMate f).frame = s.frame := rfl
@[simp] theorem State.updMate_lane (s : State) (f : Mate → Mate) (k : Nat) : (s.updMate f).lane k = s.lane k := rfl
@[simp] theorem State.updMate_byte (s : State) (f : Mate → Mate) (c : Nat) : (s.updMate f).byte c = s.byte c := rfl
@[simp] theorem State.updMate_self (s : State) (f : Mate → Mate) : (s.updMate f).mate = f s.mate := rfl

/-! ### State.updPcie -/

@[simp] theorem State.updPcie_pending (s : State) (p : Nat) (f : Pcie → Pcie) : (s.updPcie p f).pending = s.pending := rfl
@[simp] theorem State.updPcie_regs (s : State) (p : Nat) (f : Pcie → Pcie) : (s.updPcie p f).regs = s.regs := rfl
@[simp] theorem State.updPcie_staged (s : State) (p : Nat) (f : Pcie → Pcie) : (s.updPcie p f).staged = s.staged := rfl
@[simp] theorem State.updPcie_perMaster (s : State) (p : Nat) (f : Pcie → Pcie) : (s.updPcie p f).perMaster = s.perMaster := rfl
@[simp] theorem State.updPcie_latHigh (s : State) (p : Nat) (f : Pcie → Pcie) : (s.updPcie p f).latHigh = s.latHigh := rfl
@[simp] theorem State.updPcie_heldLow (s : State) (p : Nat) (f : Pcie → Pcie) : (s.updPcie p f).heldLow = s.heldLow := rfl
@[simp] theorem State.updPcie_frameCycle (s : State) (p : Nat) (f : Pcie → Pcie) : (s.updPcie p f).frameCycle = s.frameCycle := rfl
@[simp] theorem State.updPcie_cycle (s : State) (p : Nat) (f : Pcie → Pcie) : (s.updPcie p f).cycle = s.cycle := rfl
@[simp] theorem State.updPcie_free (s : State) (p : Nat) (f : Pcie → Pcie) : (s.updPcie p f).free = s.free := rfl
@[simp] theorem State.updPcie_resp (s : State) (p : Nat) (f : Pcie → Pcie) : (s.updPcie p f).resp = s.resp := rfl
@[simp] theorem State.updPcie_ringQ (s : State) (p : Nat) (f : Pcie → Pcie) : (s.updPcie p f).ringQ = s.ringQ := rfl
@[simp] theorem State.updPcie_logQ (s : State) (p : Nat) (f : Pcie → Pcie) : (s.updPcie p f).logQ = s.logQ := rfl
@[simp] theorem State.updPcie_mem (s : State) (p : Nat) (f : Pcie → Pcie) : (s.updPcie p f).mem = s.mem := rfl
@[simp] theorem State.updPcie_lanes (s : State) (p : Nat) (f : Pcie → Pcie) : (s.updPcie p f).lanes = s.lanes := rfl
@[simp] theorem State.updPcie_sill (s : State) (p : Nat) (f : Pcie → Pcie) : (s.updPcie p f).sill = s.sill := rfl
@[simp] theorem State.updPcie_sched (s : State) (p : Nat) (f : Pcie → Pcie) : (s.updPcie p f).sched = s.sched := rfl
@[simp] theorem State.updPcie_tap (s : State) (p : Nat) (f : Pcie → Pcie) : (s.updPcie p f).tap = s.tap := rfl
@[simp] theorem State.updPcie_longMem (s : State) (p : Nat) (f : Pcie → Pcie) : (s.updPcie p f).longMem = s.longMem := rfl
@[simp] theorem State.updPcie_retPages (s : State) (p : Nat) (f : Pcie → Pcie) : (s.updPcie p f).retPages = s.retPages := rfl
@[simp] theorem State.updPcie_plate (s : State) (p : Nat) (f : Pcie → Pcie) : (s.updPcie p f).plate = s.plate := rfl
@[simp] theorem State.updPcie_links (s : State) (p : Nat) (f : Pcie → Pcie) : (s.updPcie p f).links = s.links := rfl
@[simp] theorem State.updPcie_actions (s : State) (p : Nat) (f : Pcie → Pcie) : (s.updPcie p f).actions = s.actions := rfl
@[simp] theorem State.updPcie_pauses (s : State) (p : Nat) (f : Pcie → Pcie) : (s.updPcie p f).pauses = s.pauses := rfl
@[simp] theorem State.updPcie_mdlyHeld (s : State) (p : Nat) (f : Pcie → Pcie) : (s.updPcie p f).mdlyHeld = s.mdlyHeld := rfl
@[simp] theorem State.updPcie_chg (s : State) (p : Nat) (f : Pcie → Pcie) : (s.updPcie p f).chg = s.chg := rfl
@[simp] theorem State.updPcie_queued (s : State) (p : Nat) (f : Pcie → Pcie) : (s.updPcie p f).queued = s.queued := rfl
@[simp] theorem State.updPcie_scnTrig (s : State) (p : Nat) (f : Pcie → Pcie) : (s.updPcie p f).scnTrig = s.scnTrig := rfl
@[simp] theorem State.updPcie_scnQ (s : State) (p : Nat) (f : Pcie → Pcie) : (s.updPcie p f).scnQ = s.scnQ := rfl
@[simp] theorem State.updPcie_mrecHeld (s : State) (p : Nat) (f : Pcie → Pcie) : (s.updPcie p f).mrecHeld = s.mrecHeld := rfl
@[simp] theorem State.updPcie_sides (s : State) (p : Nat) (f : Pcie → Pcie) : (s.updPcie p f).sides = s.sides := rfl
@[simp] theorem State.updPcie_groups (s : State) (p : Nat) (f : Pcie → Pcie) : (s.updPcie p f).groups = s.groups := rfl
@[simp] theorem State.updPcie_plumb (s : State) (p : Nat) (f : Pcie → Pcie) : (s.updPcie p f).plumb = s.plumb := rfl
@[simp] theorem State.updPcie_mate (s : State) (p : Nat) (f : Pcie → Pcie) : (s.updPcie p f).mate = s.mate := rfl
@[simp] theorem State.updPcie_fuses (s : State) (p : Nat) (f : Pcie → Pcie) : (s.updPcie p f).fuses = s.fuses := rfl
@[simp] theorem State.updPcie_raise (s : State) (p : Nat) (f : Pcie → Pcie) : (s.updPcie p f).raise = s.raise := rfl
@[simp] theorem State.updPcie_own (s : State) (p : Nat) (f : Pcie → Pcie) : (s.updPcie p f).own = s.own := rfl
@[simp] theorem State.updPcie_sampled (s : State) (p : Nat) (f : Pcie → Pcie) : (s.updPcie p f).sampled = s.sampled := rfl
@[simp] theorem State.updPcie_tunnel (s : State) (p : Nat) (f : Pcie → Pcie) : (s.updPcie p f).tunnel = s.tunnel := rfl
@[simp] theorem State.updPcie_spiQuad (s : State) (p : Nat) (f : Pcie → Pcie) : (s.updPcie p f).spiQuad = s.spiQuad := rfl
@[simp] theorem State.updPcie_snd (s : State) (p : Nat) (f : Pcie → Pcie) : (s.updPcie p f).snd = s.snd := rfl
@[simp] theorem State.updPcie_ddr (s : State) (p : Nat) (f : Pcie → Pcie) : (s.updPcie p f).ddr = s.ddr := rfl
@[simp] theorem State.updPcie_snapFixed (s : State) (p : Nat) (f : Pcie → Pcie) : (s.updPcie p f).snapFixed = s.snapFixed := rfl
@[simp] theorem State.updPcie_chainHeld (s : State) (p : Nat) (f : Pcie → Pcie) : (s.updPcie p f).chainHeld = s.chainHeld := rfl
@[simp] theorem State.updPcie_snapAt (s : State) (p : Nat) (f : Pcie → Pcie) : (s.updPcie p f).snapAt = s.snapAt := rfl
@[simp] theorem State.updPcie_snapped (s : State) (p : Nat) (f : Pcie → Pcie) : (s.updPcie p f).snapped = s.snapped := rfl
@[simp] theorem State.updPcie_clear (s : State) (p : Nat) (f : Pcie → Pcie) : (s.updPcie p f).clear = s.clear := rfl
@[simp] theorem State.updPcie_archive (s : State) (p : Nat) (f : Pcie → Pcie) : (s.updPcie p f).archive = s.archive := rfl
@[simp] theorem State.updPcie_pegs (s : State) (p : Nat) (f : Pcie → Pcie) : (s.updPcie p f).pegs = s.pegs := rfl
@[simp] theorem State.updPcie_tally (s : State) (p : Nat) (f : Pcie → Pcie) : (s.updPcie p f).tally = s.tally := rfl
@[simp] theorem State.updPcie_tallyQ (s : State) (p : Nat) (f : Pcie → Pcie) : (s.updPcie p f).tallyQ = s.tallyQ := rfl
@[simp] theorem State.updPcie_tallySecond (s : State) (p : Nat) (f : Pcie → Pcie) : (s.updPcie p f).tallySecond = s.tallySecond := rfl
@[simp] theorem State.updPcie_tallyLost (s : State) (p : Nat) (f : Pcie → Pcie) : (s.updPcie p f).tallyLost = s.tallyLost := rfl
@[simp] theorem State.updPcie_sist (s : State) (p : Nat) (f : Pcie → Pcie) : (s.updPcie p f).sist = s.sist := rfl
@[simp] theorem State.updPcie_guarding (s : State) (p : Nat) (f : Pcie → Pcie) : (s.updPcie p f).guarding = s.guarding := rfl
@[simp] theorem State.updPcie_tallyRaw (s : State) (p : Nat) (f : Pcie → Pcie) : (s.updPcie p f).tallyRaw = s.tallyRaw := rfl
@[simp] theorem State.updPcie_fld (s : State) (p : Nat) (f : Pcie → Pcie) (g : Fld) (k : Nat) : (s.updPcie p f).fld g k = s.fld g k := rfl
@[simp] theorem State.updPcie_flag (s : State) (p : Nat) (f : Pcie → Pcie) (g : Fld) (k : Nat) : (s.updPcie p f).flag g k = s.flag g k := rfl
@[simp] theorem State.updPcie_stg (s : State) (p : Nat) (f : Pcie → Pcie) (g : Fld) (k : Nat) : (s.updPcie p f).stg g k = s.stg g k := rfl
@[simp] theorem State.updPcie_mfld (s : State) (p : Nat) (f : Pcie → Pcie) (g : Fld) (k j : Nat) : (s.updPcie p f).mfld g k j = s.mfld g k j := rfl
@[simp] theorem State.updPcie_latched (s : State) (p : Nat) (f : Pcie → Pcie) (ev : Ev) (k : Nat) : (s.updPcie p f).latched ev k = s.latched ev k := rfl
@[simp] theorem State.updPcie_frame (s : State) (p : Nat) (f : Pcie → Pcie) : (s.updPcie p f).frame = s.frame := rfl
@[simp] theorem State.updPcie_lane (s : State) (p : Nat) (f : Pcie → Pcie) (k : Nat) : (s.updPcie p f).lane k = s.lane k := rfl
@[simp] theorem State.updPcie_byte (s : State) (p : Nat) (f : Pcie → Pcie) (c : Nat) : (s.updPcie p f).byte c = s.byte c := rfl

/-! ### State.updPegs -/

@[simp] theorem State.updPegs_pending (s : State) (f : Pegs → Pegs) : (s.updPegs f).pending = s.pending := rfl
@[simp] theorem State.updPegs_regs (s : State) (f : Pegs → Pegs) : (s.updPegs f).regs = s.regs := rfl
@[simp] theorem State.updPegs_staged (s : State) (f : Pegs → Pegs) : (s.updPegs f).staged = s.staged := rfl
@[simp] theorem State.updPegs_perMaster (s : State) (f : Pegs → Pegs) : (s.updPegs f).perMaster = s.perMaster := rfl
@[simp] theorem State.updPegs_latHigh (s : State) (f : Pegs → Pegs) : (s.updPegs f).latHigh = s.latHigh := rfl
@[simp] theorem State.updPegs_heldLow (s : State) (f : Pegs → Pegs) : (s.updPegs f).heldLow = s.heldLow := rfl
@[simp] theorem State.updPegs_frameCycle (s : State) (f : Pegs → Pegs) : (s.updPegs f).frameCycle = s.frameCycle := rfl
@[simp] theorem State.updPegs_cycle (s : State) (f : Pegs → Pegs) : (s.updPegs f).cycle = s.cycle := rfl
@[simp] theorem State.updPegs_free (s : State) (f : Pegs → Pegs) : (s.updPegs f).free = s.free := rfl
@[simp] theorem State.updPegs_resp (s : State) (f : Pegs → Pegs) : (s.updPegs f).resp = s.resp := rfl
@[simp] theorem State.updPegs_ringQ (s : State) (f : Pegs → Pegs) : (s.updPegs f).ringQ = s.ringQ := rfl
@[simp] theorem State.updPegs_logQ (s : State) (f : Pegs → Pegs) : (s.updPegs f).logQ = s.logQ := rfl
@[simp] theorem State.updPegs_mem (s : State) (f : Pegs → Pegs) : (s.updPegs f).mem = s.mem := rfl
@[simp] theorem State.updPegs_lanes (s : State) (f : Pegs → Pegs) : (s.updPegs f).lanes = s.lanes := rfl
@[simp] theorem State.updPegs_sill (s : State) (f : Pegs → Pegs) : (s.updPegs f).sill = s.sill := rfl
@[simp] theorem State.updPegs_sched (s : State) (f : Pegs → Pegs) : (s.updPegs f).sched = s.sched := rfl
@[simp] theorem State.updPegs_tap (s : State) (f : Pegs → Pegs) : (s.updPegs f).tap = s.tap := rfl
@[simp] theorem State.updPegs_longMem (s : State) (f : Pegs → Pegs) : (s.updPegs f).longMem = s.longMem := rfl
@[simp] theorem State.updPegs_retPages (s : State) (f : Pegs → Pegs) : (s.updPegs f).retPages = s.retPages := rfl
@[simp] theorem State.updPegs_plate (s : State) (f : Pegs → Pegs) : (s.updPegs f).plate = s.plate := rfl
@[simp] theorem State.updPegs_links (s : State) (f : Pegs → Pegs) : (s.updPegs f).links = s.links := rfl
@[simp] theorem State.updPegs_actions (s : State) (f : Pegs → Pegs) : (s.updPegs f).actions = s.actions := rfl
@[simp] theorem State.updPegs_pauses (s : State) (f : Pegs → Pegs) : (s.updPegs f).pauses = s.pauses := rfl
@[simp] theorem State.updPegs_mdlyHeld (s : State) (f : Pegs → Pegs) : (s.updPegs f).mdlyHeld = s.mdlyHeld := rfl
@[simp] theorem State.updPegs_chg (s : State) (f : Pegs → Pegs) : (s.updPegs f).chg = s.chg := rfl
@[simp] theorem State.updPegs_queued (s : State) (f : Pegs → Pegs) : (s.updPegs f).queued = s.queued := rfl
@[simp] theorem State.updPegs_scnTrig (s : State) (f : Pegs → Pegs) : (s.updPegs f).scnTrig = s.scnTrig := rfl
@[simp] theorem State.updPegs_scnQ (s : State) (f : Pegs → Pegs) : (s.updPegs f).scnQ = s.scnQ := rfl
@[simp] theorem State.updPegs_mrecHeld (s : State) (f : Pegs → Pegs) : (s.updPegs f).mrecHeld = s.mrecHeld := rfl
@[simp] theorem State.updPegs_sides (s : State) (f : Pegs → Pegs) : (s.updPegs f).sides = s.sides := rfl
@[simp] theorem State.updPegs_groups (s : State) (f : Pegs → Pegs) : (s.updPegs f).groups = s.groups := rfl
@[simp] theorem State.updPegs_plumb (s : State) (f : Pegs → Pegs) : (s.updPegs f).plumb = s.plumb := rfl
@[simp] theorem State.updPegs_mate (s : State) (f : Pegs → Pegs) : (s.updPegs f).mate = s.mate := rfl
@[simp] theorem State.updPegs_fuses (s : State) (f : Pegs → Pegs) : (s.updPegs f).fuses = s.fuses := rfl
@[simp] theorem State.updPegs_raise (s : State) (f : Pegs → Pegs) : (s.updPegs f).raise = s.raise := rfl
@[simp] theorem State.updPegs_pcie (s : State) (f : Pegs → Pegs) : (s.updPegs f).pcie = s.pcie := rfl
@[simp] theorem State.updPegs_own (s : State) (f : Pegs → Pegs) : (s.updPegs f).own = s.own := rfl
@[simp] theorem State.updPegs_sampled (s : State) (f : Pegs → Pegs) : (s.updPegs f).sampled = s.sampled := rfl
@[simp] theorem State.updPegs_tunnel (s : State) (f : Pegs → Pegs) : (s.updPegs f).tunnel = s.tunnel := rfl
@[simp] theorem State.updPegs_spiQuad (s : State) (f : Pegs → Pegs) : (s.updPegs f).spiQuad = s.spiQuad := rfl
@[simp] theorem State.updPegs_snd (s : State) (f : Pegs → Pegs) : (s.updPegs f).snd = s.snd := rfl
@[simp] theorem State.updPegs_ddr (s : State) (f : Pegs → Pegs) : (s.updPegs f).ddr = s.ddr := rfl
@[simp] theorem State.updPegs_snapFixed (s : State) (f : Pegs → Pegs) : (s.updPegs f).snapFixed = s.snapFixed := rfl
@[simp] theorem State.updPegs_chainHeld (s : State) (f : Pegs → Pegs) : (s.updPegs f).chainHeld = s.chainHeld := rfl
@[simp] theorem State.updPegs_snapAt (s : State) (f : Pegs → Pegs) : (s.updPegs f).snapAt = s.snapAt := rfl
@[simp] theorem State.updPegs_snapped (s : State) (f : Pegs → Pegs) : (s.updPegs f).snapped = s.snapped := rfl
@[simp] theorem State.updPegs_clear (s : State) (f : Pegs → Pegs) : (s.updPegs f).clear = s.clear := rfl
@[simp] theorem State.updPegs_archive (s : State) (f : Pegs → Pegs) : (s.updPegs f).archive = s.archive := rfl
@[simp] theorem State.updPegs_tally (s : State) (f : Pegs → Pegs) : (s.updPegs f).tally = s.tally := rfl
@[simp] theorem State.updPegs_tallyQ (s : State) (f : Pegs → Pegs) : (s.updPegs f).tallyQ = s.tallyQ := rfl
@[simp] theorem State.updPegs_tallySecond (s : State) (f : Pegs → Pegs) : (s.updPegs f).tallySecond = s.tallySecond := rfl
@[simp] theorem State.updPegs_tallyLost (s : State) (f : Pegs → Pegs) : (s.updPegs f).tallyLost = s.tallyLost := rfl
@[simp] theorem State.updPegs_sist (s : State) (f : Pegs → Pegs) : (s.updPegs f).sist = s.sist := rfl
@[simp] theorem State.updPegs_guarding (s : State) (f : Pegs → Pegs) : (s.updPegs f).guarding = s.guarding := rfl
@[simp] theorem State.updPegs_tallyRaw (s : State) (f : Pegs → Pegs) : (s.updPegs f).tallyRaw = s.tallyRaw := rfl
@[simp] theorem State.updPegs_fld (s : State) (f : Pegs → Pegs) (g : Fld) (k : Nat) : (s.updPegs f).fld g k = s.fld g k := rfl
@[simp] theorem State.updPegs_flag (s : State) (f : Pegs → Pegs) (g : Fld) (k : Nat) : (s.updPegs f).flag g k = s.flag g k := rfl
@[simp] theorem State.updPegs_stg (s : State) (f : Pegs → Pegs) (g : Fld) (k : Nat) : (s.updPegs f).stg g k = s.stg g k := rfl
@[simp] theorem State.updPegs_mfld (s : State) (f : Pegs → Pegs) (g : Fld) (k j : Nat) : (s.updPegs f).mfld g k j = s.mfld g k j := rfl
@[simp] theorem State.updPegs_latched (s : State) (f : Pegs → Pegs) (ev : Ev) (k : Nat) : (s.updPegs f).latched ev k = s.latched ev k := rfl
@[simp] theorem State.updPegs_frame (s : State) (f : Pegs → Pegs) : (s.updPegs f).frame = s.frame := rfl
@[simp] theorem State.updPegs_lane (s : State) (f : Pegs → Pegs) (k : Nat) : (s.updPegs f).lane k = s.lane k := rfl
@[simp] theorem State.updPegs_byte (s : State) (f : Pegs → Pegs) (c : Nat) : (s.updPegs f).byte c = s.byte c := rfl
@[simp] theorem State.updPegs_self (s : State) (f : Pegs → Pegs) : (s.updPegs f).pegs = f s.pegs := rfl

/-! ### State.updSnd -/

@[simp] theorem State.updSnd_pending (s : State) (f : Sounding → Sounding) : (s.updSnd f).pending = s.pending := rfl
@[simp] theorem State.updSnd_regs (s : State) (f : Sounding → Sounding) : (s.updSnd f).regs = s.regs := rfl
@[simp] theorem State.updSnd_staged (s : State) (f : Sounding → Sounding) : (s.updSnd f).staged = s.staged := rfl
@[simp] theorem State.updSnd_perMaster (s : State) (f : Sounding → Sounding) : (s.updSnd f).perMaster = s.perMaster := rfl
@[simp] theorem State.updSnd_latHigh (s : State) (f : Sounding → Sounding) : (s.updSnd f).latHigh = s.latHigh := rfl
@[simp] theorem State.updSnd_heldLow (s : State) (f : Sounding → Sounding) : (s.updSnd f).heldLow = s.heldLow := rfl
@[simp] theorem State.updSnd_frameCycle (s : State) (f : Sounding → Sounding) : (s.updSnd f).frameCycle = s.frameCycle := rfl
@[simp] theorem State.updSnd_cycle (s : State) (f : Sounding → Sounding) : (s.updSnd f).cycle = s.cycle := rfl
@[simp] theorem State.updSnd_free (s : State) (f : Sounding → Sounding) : (s.updSnd f).free = s.free := rfl
@[simp] theorem State.updSnd_resp (s : State) (f : Sounding → Sounding) : (s.updSnd f).resp = s.resp := rfl
@[simp] theorem State.updSnd_ringQ (s : State) (f : Sounding → Sounding) : (s.updSnd f).ringQ = s.ringQ := rfl
@[simp] theorem State.updSnd_logQ (s : State) (f : Sounding → Sounding) : (s.updSnd f).logQ = s.logQ := rfl
@[simp] theorem State.updSnd_mem (s : State) (f : Sounding → Sounding) : (s.updSnd f).mem = s.mem := rfl
@[simp] theorem State.updSnd_lanes (s : State) (f : Sounding → Sounding) : (s.updSnd f).lanes = s.lanes := rfl
@[simp] theorem State.updSnd_sill (s : State) (f : Sounding → Sounding) : (s.updSnd f).sill = s.sill := rfl
@[simp] theorem State.updSnd_sched (s : State) (f : Sounding → Sounding) : (s.updSnd f).sched = s.sched := rfl
@[simp] theorem State.updSnd_tap (s : State) (f : Sounding → Sounding) : (s.updSnd f).tap = s.tap := rfl
@[simp] theorem State.updSnd_longMem (s : State) (f : Sounding → Sounding) : (s.updSnd f).longMem = s.longMem := rfl
@[simp] theorem State.updSnd_retPages (s : State) (f : Sounding → Sounding) : (s.updSnd f).retPages = s.retPages := rfl
@[simp] theorem State.updSnd_plate (s : State) (f : Sounding → Sounding) : (s.updSnd f).plate = s.plate := rfl
@[simp] theorem State.updSnd_links (s : State) (f : Sounding → Sounding) : (s.updSnd f).links = s.links := rfl
@[simp] theorem State.updSnd_actions (s : State) (f : Sounding → Sounding) : (s.updSnd f).actions = s.actions := rfl
@[simp] theorem State.updSnd_pauses (s : State) (f : Sounding → Sounding) : (s.updSnd f).pauses = s.pauses := rfl
@[simp] theorem State.updSnd_mdlyHeld (s : State) (f : Sounding → Sounding) : (s.updSnd f).mdlyHeld = s.mdlyHeld := rfl
@[simp] theorem State.updSnd_chg (s : State) (f : Sounding → Sounding) : (s.updSnd f).chg = s.chg := rfl
@[simp] theorem State.updSnd_queued (s : State) (f : Sounding → Sounding) : (s.updSnd f).queued = s.queued := rfl
@[simp] theorem State.updSnd_scnTrig (s : State) (f : Sounding → Sounding) : (s.updSnd f).scnTrig = s.scnTrig := rfl
@[simp] theorem State.updSnd_scnQ (s : State) (f : Sounding → Sounding) : (s.updSnd f).scnQ = s.scnQ := rfl
@[simp] theorem State.updSnd_mrecHeld (s : State) (f : Sounding → Sounding) : (s.updSnd f).mrecHeld = s.mrecHeld := rfl
@[simp] theorem State.updSnd_sides (s : State) (f : Sounding → Sounding) : (s.updSnd f).sides = s.sides := rfl
@[simp] theorem State.updSnd_groups (s : State) (f : Sounding → Sounding) : (s.updSnd f).groups = s.groups := rfl
@[simp] theorem State.updSnd_plumb (s : State) (f : Sounding → Sounding) : (s.updSnd f).plumb = s.plumb := rfl
@[simp] theorem State.updSnd_mate (s : State) (f : Sounding → Sounding) : (s.updSnd f).mate = s.mate := rfl
@[simp] theorem State.updSnd_fuses (s : State) (f : Sounding → Sounding) : (s.updSnd f).fuses = s.fuses := rfl
@[simp] theorem State.updSnd_raise (s : State) (f : Sounding → Sounding) : (s.updSnd f).raise = s.raise := rfl
@[simp] theorem State.updSnd_pcie (s : State) (f : Sounding → Sounding) : (s.updSnd f).pcie = s.pcie := rfl
@[simp] theorem State.updSnd_own (s : State) (f : Sounding → Sounding) : (s.updSnd f).own = s.own := rfl
@[simp] theorem State.updSnd_sampled (s : State) (f : Sounding → Sounding) : (s.updSnd f).sampled = s.sampled := rfl
@[simp] theorem State.updSnd_tunnel (s : State) (f : Sounding → Sounding) : (s.updSnd f).tunnel = s.tunnel := rfl
@[simp] theorem State.updSnd_spiQuad (s : State) (f : Sounding → Sounding) : (s.updSnd f).spiQuad = s.spiQuad := rfl
@[simp] theorem State.updSnd_ddr (s : State) (f : Sounding → Sounding) : (s.updSnd f).ddr = s.ddr := rfl
@[simp] theorem State.updSnd_snapFixed (s : State) (f : Sounding → Sounding) : (s.updSnd f).snapFixed = s.snapFixed := rfl
@[simp] theorem State.updSnd_chainHeld (s : State) (f : Sounding → Sounding) : (s.updSnd f).chainHeld = s.chainHeld := rfl
@[simp] theorem State.updSnd_snapAt (s : State) (f : Sounding → Sounding) : (s.updSnd f).snapAt = s.snapAt := rfl
@[simp] theorem State.updSnd_snapped (s : State) (f : Sounding → Sounding) : (s.updSnd f).snapped = s.snapped := rfl
@[simp] theorem State.updSnd_clear (s : State) (f : Sounding → Sounding) : (s.updSnd f).clear = s.clear := rfl
@[simp] theorem State.updSnd_archive (s : State) (f : Sounding → Sounding) : (s.updSnd f).archive = s.archive := rfl
@[simp] theorem State.updSnd_pegs (s : State) (f : Sounding → Sounding) : (s.updSnd f).pegs = s.pegs := rfl
@[simp] theorem State.updSnd_tally (s : State) (f : Sounding → Sounding) : (s.updSnd f).tally = s.tally := rfl
@[simp] theorem State.updSnd_tallyQ (s : State) (f : Sounding → Sounding) : (s.updSnd f).tallyQ = s.tallyQ := rfl
@[simp] theorem State.updSnd_tallySecond (s : State) (f : Sounding → Sounding) : (s.updSnd f).tallySecond = s.tallySecond := rfl
@[simp] theorem State.updSnd_tallyLost (s : State) (f : Sounding → Sounding) : (s.updSnd f).tallyLost = s.tallyLost := rfl
@[simp] theorem State.updSnd_sist (s : State) (f : Sounding → Sounding) : (s.updSnd f).sist = s.sist := rfl
@[simp] theorem State.updSnd_guarding (s : State) (f : Sounding → Sounding) : (s.updSnd f).guarding = s.guarding := rfl
@[simp] theorem State.updSnd_tallyRaw (s : State) (f : Sounding → Sounding) : (s.updSnd f).tallyRaw = s.tallyRaw := rfl
@[simp] theorem State.updSnd_fld (s : State) (f : Sounding → Sounding) (g : Fld) (k : Nat) : (s.updSnd f).fld g k = s.fld g k := rfl
@[simp] theorem State.updSnd_flag (s : State) (f : Sounding → Sounding) (g : Fld) (k : Nat) : (s.updSnd f).flag g k = s.flag g k := rfl
@[simp] theorem State.updSnd_stg (s : State) (f : Sounding → Sounding) (g : Fld) (k : Nat) : (s.updSnd f).stg g k = s.stg g k := rfl
@[simp] theorem State.updSnd_mfld (s : State) (f : Sounding → Sounding) (g : Fld) (k j : Nat) : (s.updSnd f).mfld g k j = s.mfld g k j := rfl
@[simp] theorem State.updSnd_latched (s : State) (f : Sounding → Sounding) (ev : Ev) (k : Nat) : (s.updSnd f).latched ev k = s.latched ev k := rfl
@[simp] theorem State.updSnd_frame (s : State) (f : Sounding → Sounding) : (s.updSnd f).frame = s.frame := rfl
@[simp] theorem State.updSnd_lane (s : State) (f : Sounding → Sounding) (k : Nat) : (s.updSnd f).lane k = s.lane k := rfl
@[simp] theorem State.updSnd_byte (s : State) (f : Sounding → Sounding) (c : Nat) : (s.updSnd f).byte c = s.byte c := rfl
@[simp] theorem State.updSnd_self (s : State) (f : Sounding → Sounding) : (s.updSnd f).snd = f s.snd := rfl

/-! ### State.updDdr -/

@[simp] theorem State.updDdr_pending (s : State) (f : Ddr → Ddr) : (s.updDdr f).pending = s.pending := rfl
@[simp] theorem State.updDdr_regs (s : State) (f : Ddr → Ddr) : (s.updDdr f).regs = s.regs := rfl
@[simp] theorem State.updDdr_staged (s : State) (f : Ddr → Ddr) : (s.updDdr f).staged = s.staged := rfl
@[simp] theorem State.updDdr_perMaster (s : State) (f : Ddr → Ddr) : (s.updDdr f).perMaster = s.perMaster := rfl
@[simp] theorem State.updDdr_latHigh (s : State) (f : Ddr → Ddr) : (s.updDdr f).latHigh = s.latHigh := rfl
@[simp] theorem State.updDdr_heldLow (s : State) (f : Ddr → Ddr) : (s.updDdr f).heldLow = s.heldLow := rfl
@[simp] theorem State.updDdr_frameCycle (s : State) (f : Ddr → Ddr) : (s.updDdr f).frameCycle = s.frameCycle := rfl
@[simp] theorem State.updDdr_cycle (s : State) (f : Ddr → Ddr) : (s.updDdr f).cycle = s.cycle := rfl
@[simp] theorem State.updDdr_free (s : State) (f : Ddr → Ddr) : (s.updDdr f).free = s.free := rfl
@[simp] theorem State.updDdr_resp (s : State) (f : Ddr → Ddr) : (s.updDdr f).resp = s.resp := rfl
@[simp] theorem State.updDdr_ringQ (s : State) (f : Ddr → Ddr) : (s.updDdr f).ringQ = s.ringQ := rfl
@[simp] theorem State.updDdr_logQ (s : State) (f : Ddr → Ddr) : (s.updDdr f).logQ = s.logQ := rfl
@[simp] theorem State.updDdr_mem (s : State) (f : Ddr → Ddr) : (s.updDdr f).mem = s.mem := rfl
@[simp] theorem State.updDdr_lanes (s : State) (f : Ddr → Ddr) : (s.updDdr f).lanes = s.lanes := rfl
@[simp] theorem State.updDdr_sill (s : State) (f : Ddr → Ddr) : (s.updDdr f).sill = s.sill := rfl
@[simp] theorem State.updDdr_sched (s : State) (f : Ddr → Ddr) : (s.updDdr f).sched = s.sched := rfl
@[simp] theorem State.updDdr_tap (s : State) (f : Ddr → Ddr) : (s.updDdr f).tap = s.tap := rfl
@[simp] theorem State.updDdr_longMem (s : State) (f : Ddr → Ddr) : (s.updDdr f).longMem = s.longMem := rfl
@[simp] theorem State.updDdr_retPages (s : State) (f : Ddr → Ddr) : (s.updDdr f).retPages = s.retPages := rfl
@[simp] theorem State.updDdr_plate (s : State) (f : Ddr → Ddr) : (s.updDdr f).plate = s.plate := rfl
@[simp] theorem State.updDdr_links (s : State) (f : Ddr → Ddr) : (s.updDdr f).links = s.links := rfl
@[simp] theorem State.updDdr_actions (s : State) (f : Ddr → Ddr) : (s.updDdr f).actions = s.actions := rfl
@[simp] theorem State.updDdr_pauses (s : State) (f : Ddr → Ddr) : (s.updDdr f).pauses = s.pauses := rfl
@[simp] theorem State.updDdr_mdlyHeld (s : State) (f : Ddr → Ddr) : (s.updDdr f).mdlyHeld = s.mdlyHeld := rfl
@[simp] theorem State.updDdr_chg (s : State) (f : Ddr → Ddr) : (s.updDdr f).chg = s.chg := rfl
@[simp] theorem State.updDdr_queued (s : State) (f : Ddr → Ddr) : (s.updDdr f).queued = s.queued := rfl
@[simp] theorem State.updDdr_scnTrig (s : State) (f : Ddr → Ddr) : (s.updDdr f).scnTrig = s.scnTrig := rfl
@[simp] theorem State.updDdr_scnQ (s : State) (f : Ddr → Ddr) : (s.updDdr f).scnQ = s.scnQ := rfl
@[simp] theorem State.updDdr_mrecHeld (s : State) (f : Ddr → Ddr) : (s.updDdr f).mrecHeld = s.mrecHeld := rfl
@[simp] theorem State.updDdr_sides (s : State) (f : Ddr → Ddr) : (s.updDdr f).sides = s.sides := rfl
@[simp] theorem State.updDdr_groups (s : State) (f : Ddr → Ddr) : (s.updDdr f).groups = s.groups := rfl
@[simp] theorem State.updDdr_plumb (s : State) (f : Ddr → Ddr) : (s.updDdr f).plumb = s.plumb := rfl
@[simp] theorem State.updDdr_mate (s : State) (f : Ddr → Ddr) : (s.updDdr f).mate = s.mate := rfl
@[simp] theorem State.updDdr_fuses (s : State) (f : Ddr → Ddr) : (s.updDdr f).fuses = s.fuses := rfl
@[simp] theorem State.updDdr_raise (s : State) (f : Ddr → Ddr) : (s.updDdr f).raise = s.raise := rfl
@[simp] theorem State.updDdr_pcie (s : State) (f : Ddr → Ddr) : (s.updDdr f).pcie = s.pcie := rfl
@[simp] theorem State.updDdr_own (s : State) (f : Ddr → Ddr) : (s.updDdr f).own = s.own := rfl
@[simp] theorem State.updDdr_sampled (s : State) (f : Ddr → Ddr) : (s.updDdr f).sampled = s.sampled := rfl
@[simp] theorem State.updDdr_tunnel (s : State) (f : Ddr → Ddr) : (s.updDdr f).tunnel = s.tunnel := rfl
@[simp] theorem State.updDdr_spiQuad (s : State) (f : Ddr → Ddr) : (s.updDdr f).spiQuad = s.spiQuad := rfl
@[simp] theorem State.updDdr_snd (s : State) (f : Ddr → Ddr) : (s.updDdr f).snd = s.snd := rfl
@[simp] theorem State.updDdr_snapFixed (s : State) (f : Ddr → Ddr) : (s.updDdr f).snapFixed = s.snapFixed := rfl
@[simp] theorem State.updDdr_chainHeld (s : State) (f : Ddr → Ddr) : (s.updDdr f).chainHeld = s.chainHeld := rfl
@[simp] theorem State.updDdr_snapAt (s : State) (f : Ddr → Ddr) : (s.updDdr f).snapAt = s.snapAt := rfl
@[simp] theorem State.updDdr_snapped (s : State) (f : Ddr → Ddr) : (s.updDdr f).snapped = s.snapped := rfl
@[simp] theorem State.updDdr_clear (s : State) (f : Ddr → Ddr) : (s.updDdr f).clear = s.clear := rfl
@[simp] theorem State.updDdr_archive (s : State) (f : Ddr → Ddr) : (s.updDdr f).archive = s.archive := rfl
@[simp] theorem State.updDdr_pegs (s : State) (f : Ddr → Ddr) : (s.updDdr f).pegs = s.pegs := rfl
@[simp] theorem State.updDdr_tally (s : State) (f : Ddr → Ddr) : (s.updDdr f).tally = s.tally := rfl
@[simp] theorem State.updDdr_tallyQ (s : State) (f : Ddr → Ddr) : (s.updDdr f).tallyQ = s.tallyQ := rfl
@[simp] theorem State.updDdr_tallySecond (s : State) (f : Ddr → Ddr) : (s.updDdr f).tallySecond = s.tallySecond := rfl
@[simp] theorem State.updDdr_tallyLost (s : State) (f : Ddr → Ddr) : (s.updDdr f).tallyLost = s.tallyLost := rfl
@[simp] theorem State.updDdr_sist (s : State) (f : Ddr → Ddr) : (s.updDdr f).sist = s.sist := rfl
@[simp] theorem State.updDdr_guarding (s : State) (f : Ddr → Ddr) : (s.updDdr f).guarding = s.guarding := rfl
@[simp] theorem State.updDdr_tallyRaw (s : State) (f : Ddr → Ddr) : (s.updDdr f).tallyRaw = s.tallyRaw := rfl
@[simp] theorem State.updDdr_fld (s : State) (f : Ddr → Ddr) (g : Fld) (k : Nat) : (s.updDdr f).fld g k = s.fld g k := rfl
@[simp] theorem State.updDdr_flag (s : State) (f : Ddr → Ddr) (g : Fld) (k : Nat) : (s.updDdr f).flag g k = s.flag g k := rfl
@[simp] theorem State.updDdr_stg (s : State) (f : Ddr → Ddr) (g : Fld) (k : Nat) : (s.updDdr f).stg g k = s.stg g k := rfl
@[simp] theorem State.updDdr_mfld (s : State) (f : Ddr → Ddr) (g : Fld) (k j : Nat) : (s.updDdr f).mfld g k j = s.mfld g k j := rfl
@[simp] theorem State.updDdr_latched (s : State) (f : Ddr → Ddr) (ev : Ev) (k : Nat) : (s.updDdr f).latched ev k = s.latched ev k := rfl
@[simp] theorem State.updDdr_frame (s : State) (f : Ddr → Ddr) : (s.updDdr f).frame = s.frame := rfl
@[simp] theorem State.updDdr_lane (s : State) (f : Ddr → Ddr) (k : Nat) : (s.updDdr f).lane k = s.lane k := rfl
@[simp] theorem State.updDdr_self (s : State) (f : Ddr → Ddr) : (s.updDdr f).ddr = f s.ddr := rfl

/-! ### State.updGuard -/

@[simp] theorem State.updGuard_pending (s : State) (f : Guarding → Guarding) : (s.updGuard f).pending = s.pending := rfl
@[simp] theorem State.updGuard_regs (s : State) (f : Guarding → Guarding) : (s.updGuard f).regs = s.regs := rfl
@[simp] theorem State.updGuard_staged (s : State) (f : Guarding → Guarding) : (s.updGuard f).staged = s.staged := rfl
@[simp] theorem State.updGuard_perMaster (s : State) (f : Guarding → Guarding) : (s.updGuard f).perMaster = s.perMaster := rfl
@[simp] theorem State.updGuard_latHigh (s : State) (f : Guarding → Guarding) : (s.updGuard f).latHigh = s.latHigh := rfl
@[simp] theorem State.updGuard_heldLow (s : State) (f : Guarding → Guarding) : (s.updGuard f).heldLow = s.heldLow := rfl
@[simp] theorem State.updGuard_frameCycle (s : State) (f : Guarding → Guarding) : (s.updGuard f).frameCycle = s.frameCycle := rfl
@[simp] theorem State.updGuard_cycle (s : State) (f : Guarding → Guarding) : (s.updGuard f).cycle = s.cycle := rfl
@[simp] theorem State.updGuard_free (s : State) (f : Guarding → Guarding) : (s.updGuard f).free = s.free := rfl
@[simp] theorem State.updGuard_resp (s : State) (f : Guarding → Guarding) : (s.updGuard f).resp = s.resp := rfl
@[simp] theorem State.updGuard_ringQ (s : State) (f : Guarding → Guarding) : (s.updGuard f).ringQ = s.ringQ := rfl
@[simp] theorem State.updGuard_logQ (s : State) (f : Guarding → Guarding) : (s.updGuard f).logQ = s.logQ := rfl
@[simp] theorem State.updGuard_mem (s : State) (f : Guarding → Guarding) : (s.updGuard f).mem = s.mem := rfl
@[simp] theorem State.updGuard_lanes (s : State) (f : Guarding → Guarding) : (s.updGuard f).lanes = s.lanes := rfl
@[simp] theorem State.updGuard_sill (s : State) (f : Guarding → Guarding) : (s.updGuard f).sill = s.sill := rfl
@[simp] theorem State.updGuard_sched (s : State) (f : Guarding → Guarding) : (s.updGuard f).sched = s.sched := rfl
@[simp] theorem State.updGuard_tap (s : State) (f : Guarding → Guarding) : (s.updGuard f).tap = s.tap := rfl
@[simp] theorem State.updGuard_longMem (s : State) (f : Guarding → Guarding) : (s.updGuard f).longMem = s.longMem := rfl
@[simp] theorem State.updGuard_retPages (s : State) (f : Guarding → Guarding) : (s.updGuard f).retPages = s.retPages := rfl
@[simp] theorem State.updGuard_plate (s : State) (f : Guarding → Guarding) : (s.updGuard f).plate = s.plate := rfl
@[simp] theorem State.updGuard_links (s : State) (f : Guarding → Guarding) : (s.updGuard f).links = s.links := rfl
@[simp] theorem State.updGuard_actions (s : State) (f : Guarding → Guarding) : (s.updGuard f).actions = s.actions := rfl
@[simp] theorem State.updGuard_pauses (s : State) (f : Guarding → Guarding) : (s.updGuard f).pauses = s.pauses := rfl
@[simp] theorem State.updGuard_mdlyHeld (s : State) (f : Guarding → Guarding) : (s.updGuard f).mdlyHeld = s.mdlyHeld := rfl
@[simp] theorem State.updGuard_chg (s : State) (f : Guarding → Guarding) : (s.updGuard f).chg = s.chg := rfl
@[simp] theorem State.updGuard_queued (s : State) (f : Guarding → Guarding) : (s.updGuard f).queued = s.queued := rfl
@[simp] theorem State.updGuard_scnTrig (s : State) (f : Guarding → Guarding) : (s.updGuard f).scnTrig = s.scnTrig := rfl
@[simp] theorem State.updGuard_scnQ (s : State) (f : Guarding → Guarding) : (s.updGuard f).scnQ = s.scnQ := rfl
@[simp] theorem State.updGuard_mrecHeld (s : State) (f : Guarding → Guarding) : (s.updGuard f).mrecHeld = s.mrecHeld := rfl
@[simp] theorem State.updGuard_sides (s : State) (f : Guarding → Guarding) : (s.updGuard f).sides = s.sides := rfl
@[simp] theorem State.updGuard_groups (s : State) (f : Guarding → Guarding) : (s.updGuard f).groups = s.groups := rfl
@[simp] theorem State.updGuard_plumb (s : State) (f : Guarding → Guarding) : (s.updGuard f).plumb = s.plumb := rfl
@[simp] theorem State.updGuard_mate (s : State) (f : Guarding → Guarding) : (s.updGuard f).mate = s.mate := rfl
@[simp] theorem State.updGuard_fuses (s : State) (f : Guarding → Guarding) : (s.updGuard f).fuses = s.fuses := rfl
@[simp] theorem State.updGuard_raise (s : State) (f : Guarding → Guarding) : (s.updGuard f).raise = s.raise := rfl
@[simp] theorem State.updGuard_pcie (s : State) (f : Guarding → Guarding) : (s.updGuard f).pcie = s.pcie := rfl
@[simp] theorem State.updGuard_own (s : State) (f : Guarding → Guarding) : (s.updGuard f).own = s.own := rfl
@[simp] theorem State.updGuard_sampled (s : State) (f : Guarding → Guarding) : (s.updGuard f).sampled = s.sampled := rfl
@[simp] theorem State.updGuard_tunnel (s : State) (f : Guarding → Guarding) : (s.updGuard f).tunnel = s.tunnel := rfl
@[simp] theorem State.updGuard_spiQuad (s : State) (f : Guarding → Guarding) : (s.updGuard f).spiQuad = s.spiQuad := rfl
@[simp] theorem State.updGuard_snd (s : State) (f : Guarding → Guarding) : (s.updGuard f).snd = s.snd := rfl
@[simp] theorem State.updGuard_ddr (s : State) (f : Guarding → Guarding) : (s.updGuard f).ddr = s.ddr := rfl
@[simp] theorem State.updGuard_snapFixed (s : State) (f : Guarding → Guarding) : (s.updGuard f).snapFixed = s.snapFixed := rfl
@[simp] theorem State.updGuard_chainHeld (s : State) (f : Guarding → Guarding) : (s.updGuard f).chainHeld = s.chainHeld := rfl
@[simp] theorem State.updGuard_snapAt (s : State) (f : Guarding → Guarding) : (s.updGuard f).snapAt = s.snapAt := rfl
@[simp] theorem State.updGuard_snapped (s : State) (f : Guarding → Guarding) : (s.updGuard f).snapped = s.snapped := rfl
@[simp] theorem State.updGuard_clear (s : State) (f : Guarding → Guarding) : (s.updGuard f).clear = s.clear := rfl
@[simp] theorem State.updGuard_archive (s : State) (f : Guarding → Guarding) : (s.updGuard f).archive = s.archive := rfl
@[simp] theorem State.updGuard_pegs (s : State) (f : Guarding → Guarding) : (s.updGuard f).pegs = s.pegs := rfl
@[simp] theorem State.updGuard_tally (s : State) (f : Guarding → Guarding) : (s.updGuard f).tally = s.tally := rfl
@[simp] theorem State.updGuard_tallyQ (s : State) (f : Guarding → Guarding) : (s.updGuard f).tallyQ = s.tallyQ := rfl
@[simp] theorem State.updGuard_tallySecond (s : State) (f : Guarding → Guarding) : (s.updGuard f).tallySecond = s.tallySecond := rfl
@[simp] theorem State.updGuard_tallyLost (s : State) (f : Guarding → Guarding) : (s.updGuard f).tallyLost = s.tallyLost := rfl
@[simp] theorem State.updGuard_sist (s : State) (f : Guarding → Guarding) : (s.updGuard f).sist = s.sist := rfl
@[simp] theorem State.updGuard_tallyRaw (s : State) (f : Guarding → Guarding) : (s.updGuard f).tallyRaw = s.tallyRaw := rfl
@[simp] theorem State.updGuard_fld (s : State) (f : Guarding → Guarding) (g : Fld) (k : Nat) : (s.updGuard f).fld g k = s.fld g k := rfl
@[simp] theorem State.updGuard_flag (s : State) (f : Guarding → Guarding) (g : Fld) (k : Nat) : (s.updGuard f).flag g k = s.flag g k := rfl
@[simp] theorem State.updGuard_stg (s : State) (f : Guarding → Guarding) (g : Fld) (k : Nat) : (s.updGuard f).stg g k = s.stg g k := rfl
@[simp] theorem State.updGuard_mfld (s : State) (f : Guarding → Guarding) (g : Fld) (k j : Nat) : (s.updGuard f).mfld g k j = s.mfld g k j := rfl
@[simp] theorem State.updGuard_latched (s : State) (f : Guarding → Guarding) (ev : Ev) (k : Nat) : (s.updGuard f).latched ev k = s.latched ev k := rfl
@[simp] theorem State.updGuard_frame (s : State) (f : Guarding → Guarding) : (s.updGuard f).frame = s.frame := rfl
@[simp] theorem State.updGuard_lane (s : State) (f : Guarding → Guarding) (k : Nat) : (s.updGuard f).lane k = s.lane k := rfl
@[simp] theorem State.updGuard_byte (s : State) (f : Guarding → Guarding) (c : Nat) : (s.updGuard f).byte c = s.byte c := rfl
@[simp] theorem State.updGuard_self (s : State) (f : Guarding → Guarding) : (s.updGuard f).guarding = f s.guarding := rfl

/-! ### State.hold -/

@[simp] theorem State.hold_pending (s : State) (m off w : Nat) : (s.hold m off w).pending = s.pending := rfl
@[simp] theorem State.hold_regs (s : State) (m off w : Nat) : (s.hold m off w).regs = s.regs := rfl
@[simp] theorem State.hold_staged (s : State) (m off w : Nat) : (s.hold m off w).staged = s.staged := rfl
@[simp] theorem State.hold_perMaster (s : State) (m off w : Nat) : (s.hold m off w).perMaster = s.perMaster := rfl
@[simp] theorem State.hold_latHigh (s : State) (m off w : Nat) : (s.hold m off w).latHigh = s.latHigh := rfl
@[simp] theorem State.hold_frameCycle (s : State) (m off w : Nat) : (s.hold m off w).frameCycle = s.frameCycle := rfl
@[simp] theorem State.hold_cycle (s : State) (m off w : Nat) : (s.hold m off w).cycle = s.cycle := rfl
@[simp] theorem State.hold_free (s : State) (m off w : Nat) : (s.hold m off w).free = s.free := rfl
@[simp] theorem State.hold_resp (s : State) (m off w : Nat) : (s.hold m off w).resp = s.resp := rfl
@[simp] theorem State.hold_ringQ (s : State) (m off w : Nat) : (s.hold m off w).ringQ = s.ringQ := rfl
@[simp] theorem State.hold_logQ (s : State) (m off w : Nat) : (s.hold m off w).logQ = s.logQ := rfl
@[simp] theorem State.hold_mem (s : State) (m off w : Nat) : (s.hold m off w).mem = s.mem := rfl
@[simp] theorem State.hold_lanes (s : State) (m off w : Nat) : (s.hold m off w).lanes = s.lanes := rfl
@[simp] theorem State.hold_sill (s : State) (m off w : Nat) : (s.hold m off w).sill = s.sill := rfl
@[simp] theorem State.hold_sched (s : State) (m off w : Nat) : (s.hold m off w).sched = s.sched := rfl
@[simp] theorem State.hold_tap (s : State) (m off w : Nat) : (s.hold m off w).tap = s.tap := rfl
@[simp] theorem State.hold_longMem (s : State) (m off w : Nat) : (s.hold m off w).longMem = s.longMem := rfl
@[simp] theorem State.hold_retPages (s : State) (m off w : Nat) : (s.hold m off w).retPages = s.retPages := rfl
@[simp] theorem State.hold_plate (s : State) (m off w : Nat) : (s.hold m off w).plate = s.plate := rfl
@[simp] theorem State.hold_links (s : State) (m off w : Nat) : (s.hold m off w).links = s.links := rfl
@[simp] theorem State.hold_actions (s : State) (m off w : Nat) : (s.hold m off w).actions = s.actions := rfl
@[simp] theorem State.hold_pauses (s : State) (m off w : Nat) : (s.hold m off w).pauses = s.pauses := rfl
@[simp] theorem State.hold_mdlyHeld (s : State) (m off w : Nat) : (s.hold m off w).mdlyHeld = s.mdlyHeld := rfl
@[simp] theorem State.hold_chg (s : State) (m off w : Nat) : (s.hold m off w).chg = s.chg := rfl
@[simp] theorem State.hold_queued (s : State) (m off w : Nat) : (s.hold m off w).queued = s.queued := rfl
@[simp] theorem State.hold_scnTrig (s : State) (m off w : Nat) : (s.hold m off w).scnTrig = s.scnTrig := rfl
@[simp] theorem State.hold_scnQ (s : State) (m off w : Nat) : (s.hold m off w).scnQ = s.scnQ := rfl
@[simp] theorem State.hold_mrecHeld (s : State) (m off w : Nat) : (s.hold m off w).mrecHeld = s.mrecHeld := rfl
@[simp] theorem State.hold_sides (s : State) (m off w : Nat) : (s.hold m off w).sides = s.sides := rfl
@[simp] theorem State.hold_groups (s : State) (m off w : Nat) : (s.hold m off w).groups = s.groups := rfl
@[simp] theorem State.hold_plumb (s : State) (m off w : Nat) : (s.hold m off w).plumb = s.plumb := rfl
@[simp] theorem State.hold_mate (s : State) (m off w : Nat) : (s.hold m off w).mate = s.mate := rfl
@[simp] theorem State.hold_fuses (s : State) (m off w : Nat) : (s.hold m off w).fuses = s.fuses := rfl
@[simp] theorem State.hold_raise (s : State) (m off w : Nat) : (s.hold m off w).raise = s.raise := rfl
@[simp] theorem State.hold_pcie (s : State) (m off w : Nat) : (s.hold m off w).pcie = s.pcie := rfl
@[simp] theorem State.hold_own (s : State) (m off w : Nat) : (s.hold m off w).own = s.own := rfl
@[simp] theorem State.hold_sampled (s : State) (m off w : Nat) : (s.hold m off w).sampled = s.sampled := rfl
@[simp] theorem State.hold_tunnel (s : State) (m off w : Nat) : (s.hold m off w).tunnel = s.tunnel := rfl
@[simp] theorem State.hold_spiQuad (s : State) (m off w : Nat) : (s.hold m off w).spiQuad = s.spiQuad := rfl
@[simp] theorem State.hold_snd (s : State) (m off w : Nat) : (s.hold m off w).snd = s.snd := rfl
@[simp] theorem State.hold_ddr (s : State) (m off w : Nat) : (s.hold m off w).ddr = s.ddr := rfl
@[simp] theorem State.hold_snapFixed (s : State) (m off w : Nat) : (s.hold m off w).snapFixed = s.snapFixed := rfl
@[simp] theorem State.hold_chainHeld (s : State) (m off w : Nat) : (s.hold m off w).chainHeld = s.chainHeld := rfl
@[simp] theorem State.hold_snapAt (s : State) (m off w : Nat) : (s.hold m off w).snapAt = s.snapAt := rfl
@[simp] theorem State.hold_snapped (s : State) (m off w : Nat) : (s.hold m off w).snapped = s.snapped := rfl
@[simp] theorem State.hold_clear (s : State) (m off w : Nat) : (s.hold m off w).clear = s.clear := rfl
@[simp] theorem State.hold_archive (s : State) (m off w : Nat) : (s.hold m off w).archive = s.archive := rfl
@[simp] theorem State.hold_pegs (s : State) (m off w : Nat) : (s.hold m off w).pegs = s.pegs := rfl
@[simp] theorem State.hold_tally (s : State) (m off w : Nat) : (s.hold m off w).tally = s.tally := rfl
@[simp] theorem State.hold_tallyQ (s : State) (m off w : Nat) : (s.hold m off w).tallyQ = s.tallyQ := rfl
@[simp] theorem State.hold_tallySecond (s : State) (m off w : Nat) : (s.hold m off w).tallySecond = s.tallySecond := rfl
@[simp] theorem State.hold_tallyLost (s : State) (m off w : Nat) : (s.hold m off w).tallyLost = s.tallyLost := rfl
@[simp] theorem State.hold_sist (s : State) (m off w : Nat) : (s.hold m off w).sist = s.sist := rfl
@[simp] theorem State.hold_guarding (s : State) (m off w : Nat) : (s.hold m off w).guarding = s.guarding := rfl
@[simp] theorem State.hold_tallyRaw (s : State) (m off w : Nat) : (s.hold m off w).tallyRaw = s.tallyRaw := rfl
@[simp] theorem State.hold_fld (s : State) (m off w : Nat) (g : Fld) (k : Nat) : (s.hold m off w).fld g k = s.fld g k := rfl
@[simp] theorem State.hold_flag (s : State) (m off w : Nat) (g : Fld) (k : Nat) : (s.hold m off w).flag g k = s.flag g k := rfl
@[simp] theorem State.hold_stg (s : State) (m off w : Nat) (g : Fld) (k : Nat) : (s.hold m off w).stg g k = s.stg g k := rfl
@[simp] theorem State.hold_mfld (s : State) (m off w : Nat) (g : Fld) (k j : Nat) : (s.hold m off w).mfld g k j = s.mfld g k j := rfl
@[simp] theorem State.hold_latched (s : State) (m off w : Nat) (ev : Ev) (k : Nat) : (s.hold m off w).latched ev k = s.latched ev k := rfl
@[simp] theorem State.hold_frame (s : State) (m off w : Nat) : (s.hold m off w).frame = s.frame := rfl
@[simp] theorem State.hold_lane (s : State) (m off w : Nat) (k : Nat) : (s.hold m off w).lane k = s.lane k := rfl
@[simp] theorem State.hold_byte (s : State) (m off w : Nat) (c : Nat) : (s.hold m off w).byte c = s.byte c := rfl

/-! ### State.unhold -/

@[simp] theorem State.unhold_pending (s : State) (m off : Nat) : (s.unhold m off).pending = s.pending := rfl
@[simp] theorem State.unhold_regs (s : State) (m off : Nat) : (s.unhold m off).regs = s.regs := rfl
@[simp] theorem State.unhold_staged (s : State) (m off : Nat) : (s.unhold m off).staged = s.staged := rfl
@[simp] theorem State.unhold_perMaster (s : State) (m off : Nat) : (s.unhold m off).perMaster = s.perMaster := rfl
@[simp] theorem State.unhold_latHigh (s : State) (m off : Nat) : (s.unhold m off).latHigh = s.latHigh := rfl
@[simp] theorem State.unhold_frameCycle (s : State) (m off : Nat) : (s.unhold m off).frameCycle = s.frameCycle := rfl
@[simp] theorem State.unhold_cycle (s : State) (m off : Nat) : (s.unhold m off).cycle = s.cycle := rfl
@[simp] theorem State.unhold_free (s : State) (m off : Nat) : (s.unhold m off).free = s.free := rfl
@[simp] theorem State.unhold_resp (s : State) (m off : Nat) : (s.unhold m off).resp = s.resp := rfl
@[simp] theorem State.unhold_ringQ (s : State) (m off : Nat) : (s.unhold m off).ringQ = s.ringQ := rfl
@[simp] theorem State.unhold_logQ (s : State) (m off : Nat) : (s.unhold m off).logQ = s.logQ := rfl
@[simp] theorem State.unhold_mem (s : State) (m off : Nat) : (s.unhold m off).mem = s.mem := rfl
@[simp] theorem State.unhold_lanes (s : State) (m off : Nat) : (s.unhold m off).lanes = s.lanes := rfl
@[simp] theorem State.unhold_sill (s : State) (m off : Nat) : (s.unhold m off).sill = s.sill := rfl
@[simp] theorem State.unhold_sched (s : State) (m off : Nat) : (s.unhold m off).sched = s.sched := rfl
@[simp] theorem State.unhold_tap (s : State) (m off : Nat) : (s.unhold m off).tap = s.tap := rfl
@[simp] theorem State.unhold_longMem (s : State) (m off : Nat) : (s.unhold m off).longMem = s.longMem := rfl
@[simp] theorem State.unhold_retPages (s : State) (m off : Nat) : (s.unhold m off).retPages = s.retPages := rfl
@[simp] theorem State.unhold_plate (s : State) (m off : Nat) : (s.unhold m off).plate = s.plate := rfl
@[simp] theorem State.unhold_links (s : State) (m off : Nat) : (s.unhold m off).links = s.links := rfl
@[simp] theorem State.unhold_actions (s : State) (m off : Nat) : (s.unhold m off).actions = s.actions := rfl
@[simp] theorem State.unhold_pauses (s : State) (m off : Nat) : (s.unhold m off).pauses = s.pauses := rfl
@[simp] theorem State.unhold_mdlyHeld (s : State) (m off : Nat) : (s.unhold m off).mdlyHeld = s.mdlyHeld := rfl
@[simp] theorem State.unhold_chg (s : State) (m off : Nat) : (s.unhold m off).chg = s.chg := rfl
@[simp] theorem State.unhold_queued (s : State) (m off : Nat) : (s.unhold m off).queued = s.queued := rfl
@[simp] theorem State.unhold_scnTrig (s : State) (m off : Nat) : (s.unhold m off).scnTrig = s.scnTrig := rfl
@[simp] theorem State.unhold_scnQ (s : State) (m off : Nat) : (s.unhold m off).scnQ = s.scnQ := rfl
@[simp] theorem State.unhold_mrecHeld (s : State) (m off : Nat) : (s.unhold m off).mrecHeld = s.mrecHeld := rfl
@[simp] theorem State.unhold_sides (s : State) (m off : Nat) : (s.unhold m off).sides = s.sides := rfl
@[simp] theorem State.unhold_groups (s : State) (m off : Nat) : (s.unhold m off).groups = s.groups := rfl
@[simp] theorem State.unhold_plumb (s : State) (m off : Nat) : (s.unhold m off).plumb = s.plumb := rfl
@[simp] theorem State.unhold_mate (s : State) (m off : Nat) : (s.unhold m off).mate = s.mate := rfl
@[simp] theorem State.unhold_fuses (s : State) (m off : Nat) : (s.unhold m off).fuses = s.fuses := rfl
@[simp] theorem State.unhold_raise (s : State) (m off : Nat) : (s.unhold m off).raise = s.raise := rfl
@[simp] theorem State.unhold_pcie (s : State) (m off : Nat) : (s.unhold m off).pcie = s.pcie := rfl
@[simp] theorem State.unhold_own (s : State) (m off : Nat) : (s.unhold m off).own = s.own := rfl
@[simp] theorem State.unhold_sampled (s : State) (m off : Nat) : (s.unhold m off).sampled = s.sampled := rfl
@[simp] theorem State.unhold_tunnel (s : State) (m off : Nat) : (s.unhold m off).tunnel = s.tunnel := rfl
@[simp] theorem State.unhold_spiQuad (s : State) (m off : Nat) : (s.unhold m off).spiQuad = s.spiQuad := rfl
@[simp] theorem State.unhold_snd (s : State) (m off : Nat) : (s.unhold m off).snd = s.snd := rfl
@[simp] theorem State.unhold_ddr (s : State) (m off : Nat) : (s.unhold m off).ddr = s.ddr := rfl
@[simp] theorem State.unhold_snapFixed (s : State) (m off : Nat) : (s.unhold m off).snapFixed = s.snapFixed := rfl
@[simp] theorem State.unhold_chainHeld (s : State) (m off : Nat) : (s.unhold m off).chainHeld = s.chainHeld := rfl
@[simp] theorem State.unhold_snapAt (s : State) (m off : Nat) : (s.unhold m off).snapAt = s.snapAt := rfl
@[simp] theorem State.unhold_snapped (s : State) (m off : Nat) : (s.unhold m off).snapped = s.snapped := rfl
@[simp] theorem State.unhold_clear (s : State) (m off : Nat) : (s.unhold m off).clear = s.clear := rfl
@[simp] theorem State.unhold_archive (s : State) (m off : Nat) : (s.unhold m off).archive = s.archive := rfl
@[simp] theorem State.unhold_pegs (s : State) (m off : Nat) : (s.unhold m off).pegs = s.pegs := rfl
@[simp] theorem State.unhold_tally (s : State) (m off : Nat) : (s.unhold m off).tally = s.tally := rfl
@[simp] theorem State.unhold_tallyQ (s : State) (m off : Nat) : (s.unhold m off).tallyQ = s.tallyQ := rfl
@[simp] theorem State.unhold_tallySecond (s : State) (m off : Nat) : (s.unhold m off).tallySecond = s.tallySecond := rfl
@[simp] theorem State.unhold_tallyLost (s : State) (m off : Nat) : (s.unhold m off).tallyLost = s.tallyLost := rfl
@[simp] theorem State.unhold_sist (s : State) (m off : Nat) : (s.unhold m off).sist = s.sist := rfl
@[simp] theorem State.unhold_guarding (s : State) (m off : Nat) : (s.unhold m off).guarding = s.guarding := rfl
@[simp] theorem State.unhold_tallyRaw (s : State) (m off : Nat) : (s.unhold m off).tallyRaw = s.tallyRaw := rfl
@[simp] theorem State.unhold_fld (s : State) (m off : Nat) (g : Fld) (k : Nat) : (s.unhold m off).fld g k = s.fld g k := rfl
@[simp] theorem State.unhold_flag (s : State) (m off : Nat) (g : Fld) (k : Nat) : (s.unhold m off).flag g k = s.flag g k := rfl
@[simp] theorem State.unhold_stg (s : State) (m off : Nat) (g : Fld) (k : Nat) : (s.unhold m off).stg g k = s.stg g k := rfl
@[simp] theorem State.unhold_mfld (s : State) (m off : Nat) (g : Fld) (k j : Nat) : (s.unhold m off).mfld g k j = s.mfld g k j := rfl
@[simp] theorem State.unhold_latched (s : State) (m off : Nat) (ev : Ev) (k : Nat) : (s.unhold m off).latched ev k = s.latched ev k := rfl
@[simp] theorem State.unhold_frame (s : State) (m off : Nat) : (s.unhold m off).frame = s.frame := rfl
@[simp] theorem State.unhold_lane (s : State) (m off : Nat) (k : Nat) : (s.unhold m off).lane k = s.lane k := rfl
@[simp] theorem State.unhold_byte (s : State) (m off : Nat) (c : Nat) : (s.unhold m off).byte c = s.byte c := rfl

/-! ### State.setFlag -/

@[simp] theorem State.setFlag_pending (s : State) (f : Fld) (i : Nat) (b : Bool) : (s.setFlag f i b).pending = s.pending := rfl
@[simp] theorem State.setFlag_staged (s : State) (f : Fld) (i : Nat) (b : Bool) : (s.setFlag f i b).staged = s.staged := rfl
@[simp] theorem State.setFlag_perMaster (s : State) (f : Fld) (i : Nat) (b : Bool) : (s.setFlag f i b).perMaster = s.perMaster := rfl
@[simp] theorem State.setFlag_latHigh (s : State) (f : Fld) (i : Nat) (b : Bool) : (s.setFlag f i b).latHigh = s.latHigh := rfl
@[simp] theorem State.setFlag_heldLow (s : State) (f : Fld) (i : Nat) (b : Bool) : (s.setFlag f i b).heldLow = s.heldLow := rfl
@[simp] theorem State.setFlag_frameCycle (s : State) (f : Fld) (i : Nat) (b : Bool) : (s.setFlag f i b).frameCycle = s.frameCycle := rfl
@[simp] theorem State.setFlag_cycle (s : State) (f : Fld) (i : Nat) (b : Bool) : (s.setFlag f i b).cycle = s.cycle := rfl
@[simp] theorem State.setFlag_free (s : State) (f : Fld) (i : Nat) (b : Bool) : (s.setFlag f i b).free = s.free := rfl
@[simp] theorem State.setFlag_resp (s : State) (f : Fld) (i : Nat) (b : Bool) : (s.setFlag f i b).resp = s.resp := rfl
@[simp] theorem State.setFlag_ringQ (s : State) (f : Fld) (i : Nat) (b : Bool) : (s.setFlag f i b).ringQ = s.ringQ := rfl
@[simp] theorem State.setFlag_logQ (s : State) (f : Fld) (i : Nat) (b : Bool) : (s.setFlag f i b).logQ = s.logQ := rfl
@[simp] theorem State.setFlag_mem (s : State) (f : Fld) (i : Nat) (b : Bool) : (s.setFlag f i b).mem = s.mem := rfl
@[simp] theorem State.setFlag_lanes (s : State) (f : Fld) (i : Nat) (b : Bool) : (s.setFlag f i b).lanes = s.lanes := rfl
@[simp] theorem State.setFlag_sill (s : State) (f : Fld) (i : Nat) (b : Bool) : (s.setFlag f i b).sill = s.sill := rfl
@[simp] theorem State.setFlag_sched (s : State) (f : Fld) (i : Nat) (b : Bool) : (s.setFlag f i b).sched = s.sched := rfl
@[simp] theorem State.setFlag_tap (s : State) (f : Fld) (i : Nat) (b : Bool) : (s.setFlag f i b).tap = s.tap := rfl
@[simp] theorem State.setFlag_longMem (s : State) (f : Fld) (i : Nat) (b : Bool) : (s.setFlag f i b).longMem = s.longMem := rfl
@[simp] theorem State.setFlag_retPages (s : State) (f : Fld) (i : Nat) (b : Bool) : (s.setFlag f i b).retPages = s.retPages := rfl
@[simp] theorem State.setFlag_plate (s : State) (f : Fld) (i : Nat) (b : Bool) : (s.setFlag f i b).plate = s.plate := rfl
@[simp] theorem State.setFlag_links (s : State) (f : Fld) (i : Nat) (b : Bool) : (s.setFlag f i b).links = s.links := rfl
@[simp] theorem State.setFlag_actions (s : State) (f : Fld) (i : Nat) (b : Bool) : (s.setFlag f i b).actions = s.actions := rfl
@[simp] theorem State.setFlag_pauses (s : State) (f : Fld) (i : Nat) (b : Bool) : (s.setFlag f i b).pauses = s.pauses := rfl
@[simp] theorem State.setFlag_mdlyHeld (s : State) (f : Fld) (i : Nat) (b : Bool) : (s.setFlag f i b).mdlyHeld = s.mdlyHeld := rfl
@[simp] theorem State.setFlag_chg (s : State) (f : Fld) (i : Nat) (b : Bool) : (s.setFlag f i b).chg = s.chg := rfl
@[simp] theorem State.setFlag_queued (s : State) (f : Fld) (i : Nat) (b : Bool) : (s.setFlag f i b).queued = s.queued := rfl
@[simp] theorem State.setFlag_scnTrig (s : State) (f : Fld) (i : Nat) (b : Bool) : (s.setFlag f i b).scnTrig = s.scnTrig := rfl
@[simp] theorem State.setFlag_scnQ (s : State) (f : Fld) (i : Nat) (b : Bool) : (s.setFlag f i b).scnQ = s.scnQ := rfl
@[simp] theorem State.setFlag_mrecHeld (s : State) (f : Fld) (i : Nat) (b : Bool) : (s.setFlag f i b).mrecHeld = s.mrecHeld := rfl
@[simp] theorem State.setFlag_sides (s : State) (f : Fld) (i : Nat) (b : Bool) : (s.setFlag f i b).sides = s.sides := rfl
@[simp] theorem State.setFlag_groups (s : State) (f : Fld) (i : Nat) (b : Bool) : (s.setFlag f i b).groups = s.groups := rfl
@[simp] theorem State.setFlag_plumb (s : State) (f : Fld) (i : Nat) (b : Bool) : (s.setFlag f i b).plumb = s.plumb := rfl
@[simp] theorem State.setFlag_mate (s : State) (f : Fld) (i : Nat) (b : Bool) : (s.setFlag f i b).mate = s.mate := rfl
@[simp] theorem State.setFlag_fuses (s : State) (f : Fld) (i : Nat) (b : Bool) : (s.setFlag f i b).fuses = s.fuses := rfl
@[simp] theorem State.setFlag_raise (s : State) (f : Fld) (i : Nat) (b : Bool) : (s.setFlag f i b).raise = s.raise := rfl
@[simp] theorem State.setFlag_pcie (s : State) (f : Fld) (i : Nat) (b : Bool) : (s.setFlag f i b).pcie = s.pcie := rfl
@[simp] theorem State.setFlag_own (s : State) (f : Fld) (i : Nat) (b : Bool) : (s.setFlag f i b).own = s.own := rfl
@[simp] theorem State.setFlag_sampled (s : State) (f : Fld) (i : Nat) (b : Bool) : (s.setFlag f i b).sampled = s.sampled := rfl
@[simp] theorem State.setFlag_tunnel (s : State) (f : Fld) (i : Nat) (b : Bool) : (s.setFlag f i b).tunnel = s.tunnel := rfl
@[simp] theorem State.setFlag_spiQuad (s : State) (f : Fld) (i : Nat) (b : Bool) : (s.setFlag f i b).spiQuad = s.spiQuad := rfl
@[simp] theorem State.setFlag_snd (s : State) (f : Fld) (i : Nat) (b : Bool) : (s.setFlag f i b).snd = s.snd := rfl
@[simp] theorem State.setFlag_ddr (s : State) (f : Fld) (i : Nat) (b : Bool) : (s.setFlag f i b).ddr = s.ddr := rfl
@[simp] theorem State.setFlag_snapFixed (s : State) (f : Fld) (i : Nat) (b : Bool) : (s.setFlag f i b).snapFixed = s.snapFixed := rfl
@[simp] theorem State.setFlag_chainHeld (s : State) (f : Fld) (i : Nat) (b : Bool) : (s.setFlag f i b).chainHeld = s.chainHeld := rfl
@[simp] theorem State.setFlag_snapAt (s : State) (f : Fld) (i : Nat) (b : Bool) : (s.setFlag f i b).snapAt = s.snapAt := rfl
@[simp] theorem State.setFlag_snapped (s : State) (f : Fld) (i : Nat) (b : Bool) : (s.setFlag f i b).snapped = s.snapped := rfl
@[simp] theorem State.setFlag_clear (s : State) (f : Fld) (i : Nat) (b : Bool) : (s.setFlag f i b).clear = s.clear := rfl
@[simp] theorem State.setFlag_archive (s : State) (f : Fld) (i : Nat) (b : Bool) : (s.setFlag f i b).archive = s.archive := rfl
@[simp] theorem State.setFlag_pegs (s : State) (f : Fld) (i : Nat) (b : Bool) : (s.setFlag f i b).pegs = s.pegs := rfl
@[simp] theorem State.setFlag_tally (s : State) (f : Fld) (i : Nat) (b : Bool) : (s.setFlag f i b).tally = s.tally := rfl
@[simp] theorem State.setFlag_tallyQ (s : State) (f : Fld) (i : Nat) (b : Bool) : (s.setFlag f i b).tallyQ = s.tallyQ := rfl
@[simp] theorem State.setFlag_tallySecond (s : State) (f : Fld) (i : Nat) (b : Bool) : (s.setFlag f i b).tallySecond = s.tallySecond := rfl
@[simp] theorem State.setFlag_tallyLost (s : State) (f : Fld) (i : Nat) (b : Bool) : (s.setFlag f i b).tallyLost = s.tallyLost := rfl
@[simp] theorem State.setFlag_sist (s : State) (f : Fld) (i : Nat) (b : Bool) : (s.setFlag f i b).sist = s.sist := rfl
@[simp] theorem State.setFlag_guarding (s : State) (f : Fld) (i : Nat) (b : Bool) : (s.setFlag f i b).guarding = s.guarding := rfl
@[simp] theorem State.setFlag_tallyRaw (s : State) (f : Fld) (i : Nat) (b : Bool) : (s.setFlag f i b).tallyRaw = s.tallyRaw := rfl
@[simp] theorem State.setFlag_mfld (s : State) (f : Fld) (i : Nat) (b : Bool) (g : Fld) (k j : Nat) : (s.setFlag f i b).mfld g k j = s.mfld g k j := rfl
@[simp] theorem State.setFlag_lane (s : State) (f : Fld) (i : Nat) (b : Bool) (k : Nat) : (s.setFlag f i b).lane k = s.lane k := rfl
@[simp] theorem State.setFlag_byte (s : State) (f : Fld) (i : Nat) (b : Bool) (c : Nat) : (s.setFlag f i b).byte c = s.byte c := rfl

/-! ### State.setIfld -/

@[simp] theorem State.setIfld_pending (s : State) (f : Fld) (i : Nat) (v : Int) : (s.setIfld f i v).pending = s.pending := rfl
@[simp] theorem State.setIfld_staged (s : State) (f : Fld) (i : Nat) (v : Int) : (s.setIfld f i v).staged = s.staged := rfl
@[simp] theorem State.setIfld_perMaster (s : State) (f : Fld) (i : Nat) (v : Int) : (s.setIfld f i v).perMaster = s.perMaster := rfl
@[simp] theorem State.setIfld_latHigh (s : State) (f : Fld) (i : Nat) (v : Int) : (s.setIfld f i v).latHigh = s.latHigh := rfl
@[simp] theorem State.setIfld_heldLow (s : State) (f : Fld) (i : Nat) (v : Int) : (s.setIfld f i v).heldLow = s.heldLow := rfl
@[simp] theorem State.setIfld_frameCycle (s : State) (f : Fld) (i : Nat) (v : Int) : (s.setIfld f i v).frameCycle = s.frameCycle := rfl
@[simp] theorem State.setIfld_cycle (s : State) (f : Fld) (i : Nat) (v : Int) : (s.setIfld f i v).cycle = s.cycle := rfl
@[simp] theorem State.setIfld_free (s : State) (f : Fld) (i : Nat) (v : Int) : (s.setIfld f i v).free = s.free := rfl
@[simp] theorem State.setIfld_resp (s : State) (f : Fld) (i : Nat) (v : Int) : (s.setIfld f i v).resp = s.resp := rfl
@[simp] theorem State.setIfld_ringQ (s : State) (f : Fld) (i : Nat) (v : Int) : (s.setIfld f i v).ringQ = s.ringQ := rfl
@[simp] theorem State.setIfld_logQ (s : State) (f : Fld) (i : Nat) (v : Int) : (s.setIfld f i v).logQ = s.logQ := rfl
@[simp] theorem State.setIfld_mem (s : State) (f : Fld) (i : Nat) (v : Int) : (s.setIfld f i v).mem = s.mem := rfl
@[simp] theorem State.setIfld_lanes (s : State) (f : Fld) (i : Nat) (v : Int) : (s.setIfld f i v).lanes = s.lanes := rfl
@[simp] theorem State.setIfld_sill (s : State) (f : Fld) (i : Nat) (v : Int) : (s.setIfld f i v).sill = s.sill := rfl
@[simp] theorem State.setIfld_sched (s : State) (f : Fld) (i : Nat) (v : Int) : (s.setIfld f i v).sched = s.sched := rfl
@[simp] theorem State.setIfld_tap (s : State) (f : Fld) (i : Nat) (v : Int) : (s.setIfld f i v).tap = s.tap := rfl
@[simp] theorem State.setIfld_longMem (s : State) (f : Fld) (i : Nat) (v : Int) : (s.setIfld f i v).longMem = s.longMem := rfl
@[simp] theorem State.setIfld_retPages (s : State) (f : Fld) (i : Nat) (v : Int) : (s.setIfld f i v).retPages = s.retPages := rfl
@[simp] theorem State.setIfld_plate (s : State) (f : Fld) (i : Nat) (v : Int) : (s.setIfld f i v).plate = s.plate := rfl
@[simp] theorem State.setIfld_links (s : State) (f : Fld) (i : Nat) (v : Int) : (s.setIfld f i v).links = s.links := rfl
@[simp] theorem State.setIfld_actions (s : State) (f : Fld) (i : Nat) (v : Int) : (s.setIfld f i v).actions = s.actions := rfl
@[simp] theorem State.setIfld_pauses (s : State) (f : Fld) (i : Nat) (v : Int) : (s.setIfld f i v).pauses = s.pauses := rfl
@[simp] theorem State.setIfld_mdlyHeld (s : State) (f : Fld) (i : Nat) (v : Int) : (s.setIfld f i v).mdlyHeld = s.mdlyHeld := rfl
@[simp] theorem State.setIfld_chg (s : State) (f : Fld) (i : Nat) (v : Int) : (s.setIfld f i v).chg = s.chg := rfl
@[simp] theorem State.setIfld_queued (s : State) (f : Fld) (i : Nat) (v : Int) : (s.setIfld f i v).queued = s.queued := rfl
@[simp] theorem State.setIfld_scnTrig (s : State) (f : Fld) (i : Nat) (v : Int) : (s.setIfld f i v).scnTrig = s.scnTrig := rfl
@[simp] theorem State.setIfld_scnQ (s : State) (f : Fld) (i : Nat) (v : Int) : (s.setIfld f i v).scnQ = s.scnQ := rfl
@[simp] theorem State.setIfld_mrecHeld (s : State) (f : Fld) (i : Nat) (v : Int) : (s.setIfld f i v).mrecHeld = s.mrecHeld := rfl
@[simp] theorem State.setIfld_sides (s : State) (f : Fld) (i : Nat) (v : Int) : (s.setIfld f i v).sides = s.sides := rfl
@[simp] theorem State.setIfld_groups (s : State) (f : Fld) (i : Nat) (v : Int) : (s.setIfld f i v).groups = s.groups := rfl
@[simp] theorem State.setIfld_plumb (s : State) (f : Fld) (i : Nat) (v : Int) : (s.setIfld f i v).plumb = s.plumb := rfl
@[simp] theorem State.setIfld_mate (s : State) (f : Fld) (i : Nat) (v : Int) : (s.setIfld f i v).mate = s.mate := rfl
@[simp] theorem State.setIfld_fuses (s : State) (f : Fld) (i : Nat) (v : Int) : (s.setIfld f i v).fuses = s.fuses := rfl
@[simp] theorem State.setIfld_raise (s : State) (f : Fld) (i : Nat) (v : Int) : (s.setIfld f i v).raise = s.raise := rfl
@[simp] theorem State.setIfld_pcie (s : State) (f : Fld) (i : Nat) (v : Int) : (s.setIfld f i v).pcie = s.pcie := rfl
@[simp] theorem State.setIfld_own (s : State) (f : Fld) (i : Nat) (v : Int) : (s.setIfld f i v).own = s.own := rfl
@[simp] theorem State.setIfld_sampled (s : State) (f : Fld) (i : Nat) (v : Int) : (s.setIfld f i v).sampled = s.sampled := rfl
@[simp] theorem State.setIfld_tunnel (s : State) (f : Fld) (i : Nat) (v : Int) : (s.setIfld f i v).tunnel = s.tunnel := rfl
@[simp] theorem State.setIfld_spiQuad (s : State) (f : Fld) (i : Nat) (v : Int) : (s.setIfld f i v).spiQuad = s.spiQuad := rfl
@[simp] theorem State.setIfld_snd (s : State) (f : Fld) (i : Nat) (v : Int) : (s.setIfld f i v).snd = s.snd := rfl
@[simp] theorem State.setIfld_ddr (s : State) (f : Fld) (i : Nat) (v : Int) : (s.setIfld f i v).ddr = s.ddr := rfl
@[simp] theorem State.setIfld_snapFixed (s : State) (f : Fld) (i : Nat) (v : Int) : (s.setIfld f i v).snapFixed = s.snapFixed := rfl
@[simp] theorem State.setIfld_chainHeld (s : State) (f : Fld) (i : Nat) (v : Int) : (s.setIfld f i v).chainHeld = s.chainHeld := rfl
@[simp] theorem State.setIfld_snapAt (s : State) (f : Fld) (i : Nat) (v : Int) : (s.setIfld f i v).snapAt = s.snapAt := rfl
@[simp] theorem State.setIfld_snapped (s : State) (f : Fld) (i : Nat) (v : Int) : (s.setIfld f i v).snapped = s.snapped := rfl
@[simp] theorem State.setIfld_clear (s : State) (f : Fld) (i : Nat) (v : Int) : (s.setIfld f i v).clear = s.clear := rfl
@[simp] theorem State.setIfld_archive (s : State) (f : Fld) (i : Nat) (v : Int) : (s.setIfld f i v).archive = s.archive := rfl
@[simp] theorem State.setIfld_pegs (s : State) (f : Fld) (i : Nat) (v : Int) : (s.setIfld f i v).pegs = s.pegs := rfl
@[simp] theorem State.setIfld_tally (s : State) (f : Fld) (i : Nat) (v : Int) : (s.setIfld f i v).tally = s.tally := rfl
@[simp] theorem State.setIfld_tallyQ (s : State) (f : Fld) (i : Nat) (v : Int) : (s.setIfld f i v).tallyQ = s.tallyQ := rfl
@[simp] theorem State.setIfld_tallySecond (s : State) (f : Fld) (i : Nat) (v : Int) : (s.setIfld f i v).tallySecond = s.tallySecond := rfl
@[simp] theorem State.setIfld_tallyLost (s : State) (f : Fld) (i : Nat) (v : Int) : (s.setIfld f i v).tallyLost = s.tallyLost := rfl
@[simp] theorem State.setIfld_sist (s : State) (f : Fld) (i : Nat) (v : Int) : (s.setIfld f i v).sist = s.sist := rfl
@[simp] theorem State.setIfld_guarding (s : State) (f : Fld) (i : Nat) (v : Int) : (s.setIfld f i v).guarding = s.guarding := rfl
@[simp] theorem State.setIfld_tallyRaw (s : State) (f : Fld) (i : Nat) (v : Int) : (s.setIfld f i v).tallyRaw = s.tallyRaw := rfl
@[simp] theorem State.setIfld_mfld (s : State) (f : Fld) (i : Nat) (v : Int) (g : Fld) (k j : Nat) : (s.setIfld f i v).mfld g k j = s.mfld g k j := rfl
@[simp] theorem State.setIfld_lane (s : State) (f : Fld) (i : Nat) (v : Int) (k : Nat) : (s.setIfld f i v).lane k = s.lane k := rfl
@[simp] theorem State.setIfld_byte (s : State) (f : Fld) (i : Nat) (v : Int) (c : Nat) : (s.setIfld f i v).byte c = s.byte c := rfl

/-! ### State.satFld -/

@[simp] theorem State.satFld_pending (s : State) (f : Fld) (i n : Nat) : (s.satFld f i n).pending = s.pending := rfl
@[simp] theorem State.satFld_staged (s : State) (f : Fld) (i n : Nat) : (s.satFld f i n).staged = s.staged := rfl
@[simp] theorem State.satFld_perMaster (s : State) (f : Fld) (i n : Nat) : (s.satFld f i n).perMaster = s.perMaster := rfl
@[simp] theorem State.satFld_latHigh (s : State) (f : Fld) (i n : Nat) : (s.satFld f i n).latHigh = s.latHigh := rfl
@[simp] theorem State.satFld_heldLow (s : State) (f : Fld) (i n : Nat) : (s.satFld f i n).heldLow = s.heldLow := rfl
@[simp] theorem State.satFld_frameCycle (s : State) (f : Fld) (i n : Nat) : (s.satFld f i n).frameCycle = s.frameCycle := rfl
@[simp] theorem State.satFld_cycle (s : State) (f : Fld) (i n : Nat) : (s.satFld f i n).cycle = s.cycle := rfl
@[simp] theorem State.satFld_free (s : State) (f : Fld) (i n : Nat) : (s.satFld f i n).free = s.free := rfl
@[simp] theorem State.satFld_resp (s : State) (f : Fld) (i n : Nat) : (s.satFld f i n).resp = s.resp := rfl
@[simp] theorem State.satFld_ringQ (s : State) (f : Fld) (i n : Nat) : (s.satFld f i n).ringQ = s.ringQ := rfl
@[simp] theorem State.satFld_logQ (s : State) (f : Fld) (i n : Nat) : (s.satFld f i n).logQ = s.logQ := rfl
@[simp] theorem State.satFld_mem (s : State) (f : Fld) (i n : Nat) : (s.satFld f i n).mem = s.mem := rfl
@[simp] theorem State.satFld_lanes (s : State) (f : Fld) (i n : Nat) : (s.satFld f i n).lanes = s.lanes := rfl
@[simp] theorem State.satFld_sill (s : State) (f : Fld) (i n : Nat) : (s.satFld f i n).sill = s.sill := rfl
@[simp] theorem State.satFld_sched (s : State) (f : Fld) (i n : Nat) : (s.satFld f i n).sched = s.sched := rfl
@[simp] theorem State.satFld_tap (s : State) (f : Fld) (i n : Nat) : (s.satFld f i n).tap = s.tap := rfl
@[simp] theorem State.satFld_longMem (s : State) (f : Fld) (i n : Nat) : (s.satFld f i n).longMem = s.longMem := rfl
@[simp] theorem State.satFld_retPages (s : State) (f : Fld) (i n : Nat) : (s.satFld f i n).retPages = s.retPages := rfl
@[simp] theorem State.satFld_plate (s : State) (f : Fld) (i n : Nat) : (s.satFld f i n).plate = s.plate := rfl
@[simp] theorem State.satFld_links (s : State) (f : Fld) (i n : Nat) : (s.satFld f i n).links = s.links := rfl
@[simp] theorem State.satFld_actions (s : State) (f : Fld) (i n : Nat) : (s.satFld f i n).actions = s.actions := rfl
@[simp] theorem State.satFld_pauses (s : State) (f : Fld) (i n : Nat) : (s.satFld f i n).pauses = s.pauses := rfl
@[simp] theorem State.satFld_mdlyHeld (s : State) (f : Fld) (i n : Nat) : (s.satFld f i n).mdlyHeld = s.mdlyHeld := rfl
@[simp] theorem State.satFld_chg (s : State) (f : Fld) (i n : Nat) : (s.satFld f i n).chg = s.chg := rfl
@[simp] theorem State.satFld_queued (s : State) (f : Fld) (i n : Nat) : (s.satFld f i n).queued = s.queued := rfl
@[simp] theorem State.satFld_scnTrig (s : State) (f : Fld) (i n : Nat) : (s.satFld f i n).scnTrig = s.scnTrig := rfl
@[simp] theorem State.satFld_scnQ (s : State) (f : Fld) (i n : Nat) : (s.satFld f i n).scnQ = s.scnQ := rfl
@[simp] theorem State.satFld_mrecHeld (s : State) (f : Fld) (i n : Nat) : (s.satFld f i n).mrecHeld = s.mrecHeld := rfl
@[simp] theorem State.satFld_sides (s : State) (f : Fld) (i n : Nat) : (s.satFld f i n).sides = s.sides := rfl
@[simp] theorem State.satFld_groups (s : State) (f : Fld) (i n : Nat) : (s.satFld f i n).groups = s.groups := rfl
@[simp] theorem State.satFld_plumb (s : State) (f : Fld) (i n : Nat) : (s.satFld f i n).plumb = s.plumb := rfl
@[simp] theorem State.satFld_mate (s : State) (f : Fld) (i n : Nat) : (s.satFld f i n).mate = s.mate := rfl
@[simp] theorem State.satFld_fuses (s : State) (f : Fld) (i n : Nat) : (s.satFld f i n).fuses = s.fuses := rfl
@[simp] theorem State.satFld_raise (s : State) (f : Fld) (i n : Nat) : (s.satFld f i n).raise = s.raise := rfl
@[simp] theorem State.satFld_pcie (s : State) (f : Fld) (i n : Nat) : (s.satFld f i n).pcie = s.pcie := rfl
@[simp] theorem State.satFld_own (s : State) (f : Fld) (i n : Nat) : (s.satFld f i n).own = s.own := rfl
@[simp] theorem State.satFld_sampled (s : State) (f : Fld) (i n : Nat) : (s.satFld f i n).sampled = s.sampled := rfl
@[simp] theorem State.satFld_tunnel (s : State) (f : Fld) (i n : Nat) : (s.satFld f i n).tunnel = s.tunnel := rfl
@[simp] theorem State.satFld_spiQuad (s : State) (f : Fld) (i n : Nat) : (s.satFld f i n).spiQuad = s.spiQuad := rfl
@[simp] theorem State.satFld_snd (s : State) (f : Fld) (i n : Nat) : (s.satFld f i n).snd = s.snd := rfl
@[simp] theorem State.satFld_ddr (s : State) (f : Fld) (i n : Nat) : (s.satFld f i n).ddr = s.ddr := rfl
@[simp] theorem State.satFld_snapFixed (s : State) (f : Fld) (i n : Nat) : (s.satFld f i n).snapFixed = s.snapFixed := rfl
@[simp] theorem State.satFld_chainHeld (s : State) (f : Fld) (i n : Nat) : (s.satFld f i n).chainHeld = s.chainHeld := rfl
@[simp] theorem State.satFld_snapAt (s : State) (f : Fld) (i n : Nat) : (s.satFld f i n).snapAt = s.snapAt := rfl
@[simp] theorem State.satFld_snapped (s : State) (f : Fld) (i n : Nat) : (s.satFld f i n).snapped = s.snapped := rfl
@[simp] theorem State.satFld_clear (s : State) (f : Fld) (i n : Nat) : (s.satFld f i n).clear = s.clear := rfl
@[simp] theorem State.satFld_archive (s : State) (f : Fld) (i n : Nat) : (s.satFld f i n).archive = s.archive := rfl
@[simp] theorem State.satFld_pegs (s : State) (f : Fld) (i n : Nat) : (s.satFld f i n).pegs = s.pegs := rfl
@[simp] theorem State.satFld_tally (s : State) (f : Fld) (i n : Nat) : (s.satFld f i n).tally = s.tally := rfl
@[simp] theorem State.satFld_tallyQ (s : State) (f : Fld) (i n : Nat) : (s.satFld f i n).tallyQ = s.tallyQ := rfl
@[simp] theorem State.satFld_tallySecond (s : State) (f : Fld) (i n : Nat) : (s.satFld f i n).tallySecond = s.tallySecond := rfl
@[simp] theorem State.satFld_tallyLost (s : State) (f : Fld) (i n : Nat) : (s.satFld f i n).tallyLost = s.tallyLost := rfl
@[simp] theorem State.satFld_sist (s : State) (f : Fld) (i n : Nat) : (s.satFld f i n).sist = s.sist := rfl
@[simp] theorem State.satFld_guarding (s : State) (f : Fld) (i n : Nat) : (s.satFld f i n).guarding = s.guarding := rfl
@[simp] theorem State.satFld_tallyRaw (s : State) (f : Fld) (i n : Nat) : (s.satFld f i n).tallyRaw = s.tallyRaw := rfl
@[simp] theorem State.satFld_mfld (s : State) (f : Fld) (i n : Nat) (g : Fld) (k j : Nat) : (s.satFld f i n).mfld g k j = s.mfld g k j := rfl
@[simp] theorem State.satFld_lane (s : State) (f : Fld) (i n : Nat) (k : Nat) : (s.satFld f i n).lane k = s.lane k := rfl
@[simp] theorem State.satFld_byte (s : State) (f : Fld) (i n : Nat) (c : Nat) : (s.satFld f i n).byte c = s.byte c := rfl

/-! ### State.addFld -/

@[simp] theorem State.addFld_pending (s : State) (f : Fld) (i n : Nat) : (s.addFld f i n).pending = s.pending := by unfold State.addFld; split <;> rfl
@[simp] theorem State.addFld_staged (s : State) (f : Fld) (i n : Nat) : (s.addFld f i n).staged = s.staged := by unfold State.addFld; split <;> rfl
@[simp] theorem State.addFld_perMaster (s : State) (f : Fld) (i n : Nat) : (s.addFld f i n).perMaster = s.perMaster := by unfold State.addFld; split <;> rfl
@[simp] theorem State.addFld_latHigh (s : State) (f : Fld) (i n : Nat) : (s.addFld f i n).latHigh = s.latHigh := by unfold State.addFld; split <;> rfl
@[simp] theorem State.addFld_heldLow (s : State) (f : Fld) (i n : Nat) : (s.addFld f i n).heldLow = s.heldLow := by unfold State.addFld; split <;> rfl
@[simp] theorem State.addFld_frameCycle (s : State) (f : Fld) (i n : Nat) : (s.addFld f i n).frameCycle = s.frameCycle := by unfold State.addFld; split <;> rfl
@[simp] theorem State.addFld_cycle (s : State) (f : Fld) (i n : Nat) : (s.addFld f i n).cycle = s.cycle := by unfold State.addFld; split <;> rfl
@[simp] theorem State.addFld_free (s : State) (f : Fld) (i n : Nat) : (s.addFld f i n).free = s.free := by unfold State.addFld; split <;> rfl
@[simp] theorem State.addFld_resp (s : State) (f : Fld) (i n : Nat) : (s.addFld f i n).resp = s.resp := by unfold State.addFld; split <;> rfl
@[simp] theorem State.addFld_ringQ (s : State) (f : Fld) (i n : Nat) : (s.addFld f i n).ringQ = s.ringQ := by unfold State.addFld; split <;> rfl
@[simp] theorem State.addFld_logQ (s : State) (f : Fld) (i n : Nat) : (s.addFld f i n).logQ = s.logQ := by unfold State.addFld; split <;> rfl
@[simp] theorem State.addFld_mem (s : State) (f : Fld) (i n : Nat) : (s.addFld f i n).mem = s.mem := by unfold State.addFld; split <;> rfl
@[simp] theorem State.addFld_lanes (s : State) (f : Fld) (i n : Nat) : (s.addFld f i n).lanes = s.lanes := by unfold State.addFld; split <;> rfl
@[simp] theorem State.addFld_sill (s : State) (f : Fld) (i n : Nat) : (s.addFld f i n).sill = s.sill := by unfold State.addFld; split <;> rfl
@[simp] theorem State.addFld_sched (s : State) (f : Fld) (i n : Nat) : (s.addFld f i n).sched = s.sched := by unfold State.addFld; split <;> rfl
@[simp] theorem State.addFld_tap (s : State) (f : Fld) (i n : Nat) : (s.addFld f i n).tap = s.tap := by unfold State.addFld; split <;> rfl
@[simp] theorem State.addFld_longMem (s : State) (f : Fld) (i n : Nat) : (s.addFld f i n).longMem = s.longMem := by unfold State.addFld; split <;> rfl
@[simp] theorem State.addFld_retPages (s : State) (f : Fld) (i n : Nat) : (s.addFld f i n).retPages = s.retPages := by unfold State.addFld; split <;> rfl
@[simp] theorem State.addFld_plate (s : State) (f : Fld) (i n : Nat) : (s.addFld f i n).plate = s.plate := by unfold State.addFld; split <;> rfl
@[simp] theorem State.addFld_links (s : State) (f : Fld) (i n : Nat) : (s.addFld f i n).links = s.links := by unfold State.addFld; split <;> rfl
@[simp] theorem State.addFld_actions (s : State) (f : Fld) (i n : Nat) : (s.addFld f i n).actions = s.actions := by unfold State.addFld; split <;> rfl
@[simp] theorem State.addFld_pauses (s : State) (f : Fld) (i n : Nat) : (s.addFld f i n).pauses = s.pauses := by unfold State.addFld; split <;> rfl
@[simp] theorem State.addFld_mdlyHeld (s : State) (f : Fld) (i n : Nat) : (s.addFld f i n).mdlyHeld = s.mdlyHeld := by unfold State.addFld; split <;> rfl
@[simp] theorem State.addFld_chg (s : State) (f : Fld) (i n : Nat) : (s.addFld f i n).chg = s.chg := by unfold State.addFld; split <;> rfl
@[simp] theorem State.addFld_queued (s : State) (f : Fld) (i n : Nat) : (s.addFld f i n).queued = s.queued := by unfold State.addFld; split <;> rfl
@[simp] theorem State.addFld_scnTrig (s : State) (f : Fld) (i n : Nat) : (s.addFld f i n).scnTrig = s.scnTrig := by unfold State.addFld; split <;> rfl
@[simp] theorem State.addFld_scnQ (s : State) (f : Fld) (i n : Nat) : (s.addFld f i n).scnQ = s.scnQ := by unfold State.addFld; split <;> rfl
@[simp] theorem State.addFld_mrecHeld (s : State) (f : Fld) (i n : Nat) : (s.addFld f i n).mrecHeld = s.mrecHeld := by unfold State.addFld; split <;> rfl
@[simp] theorem State.addFld_sides (s : State) (f : Fld) (i n : Nat) : (s.addFld f i n).sides = s.sides := by unfold State.addFld; split <;> rfl
@[simp] theorem State.addFld_groups (s : State) (f : Fld) (i n : Nat) : (s.addFld f i n).groups = s.groups := by unfold State.addFld; split <;> rfl
@[simp] theorem State.addFld_plumb (s : State) (f : Fld) (i n : Nat) : (s.addFld f i n).plumb = s.plumb := by unfold State.addFld; split <;> rfl
@[simp] theorem State.addFld_mate (s : State) (f : Fld) (i n : Nat) : (s.addFld f i n).mate = s.mate := by unfold State.addFld; split <;> rfl
@[simp] theorem State.addFld_fuses (s : State) (f : Fld) (i n : Nat) : (s.addFld f i n).fuses = s.fuses := by unfold State.addFld; split <;> rfl
@[simp] theorem State.addFld_raise (s : State) (f : Fld) (i n : Nat) : (s.addFld f i n).raise = s.raise := by unfold State.addFld; split <;> rfl
@[simp] theorem State.addFld_pcie (s : State) (f : Fld) (i n : Nat) : (s.addFld f i n).pcie = s.pcie := by unfold State.addFld; split <;> rfl
@[simp] theorem State.addFld_own (s : State) (f : Fld) (i n : Nat) : (s.addFld f i n).own = s.own := by unfold State.addFld; split <;> rfl
@[simp] theorem State.addFld_sampled (s : State) (f : Fld) (i n : Nat) : (s.addFld f i n).sampled = s.sampled := by unfold State.addFld; split <;> rfl
@[simp] theorem State.addFld_tunnel (s : State) (f : Fld) (i n : Nat) : (s.addFld f i n).tunnel = s.tunnel := by unfold State.addFld; split <;> rfl
@[simp] theorem State.addFld_spiQuad (s : State) (f : Fld) (i n : Nat) : (s.addFld f i n).spiQuad = s.spiQuad := by unfold State.addFld; split <;> rfl
@[simp] theorem State.addFld_snd (s : State) (f : Fld) (i n : Nat) : (s.addFld f i n).snd = s.snd := by unfold State.addFld; split <;> rfl
@[simp] theorem State.addFld_ddr (s : State) (f : Fld) (i n : Nat) : (s.addFld f i n).ddr = s.ddr := by unfold State.addFld; split <;> rfl
@[simp] theorem State.addFld_snapFixed (s : State) (f : Fld) (i n : Nat) : (s.addFld f i n).snapFixed = s.snapFixed := by unfold State.addFld; split <;> rfl
@[simp] theorem State.addFld_chainHeld (s : State) (f : Fld) (i n : Nat) : (s.addFld f i n).chainHeld = s.chainHeld := by unfold State.addFld; split <;> rfl
@[simp] theorem State.addFld_snapAt (s : State) (f : Fld) (i n : Nat) : (s.addFld f i n).snapAt = s.snapAt := by unfold State.addFld; split <;> rfl
@[simp] theorem State.addFld_snapped (s : State) (f : Fld) (i n : Nat) : (s.addFld f i n).snapped = s.snapped := by unfold State.addFld; split <;> rfl
@[simp] theorem State.addFld_clear (s : State) (f : Fld) (i n : Nat) : (s.addFld f i n).clear = s.clear := by unfold State.addFld; split <;> rfl
@[simp] theorem State.addFld_archive (s : State) (f : Fld) (i n : Nat) : (s.addFld f i n).archive = s.archive := by unfold State.addFld; split <;> rfl
@[simp] theorem State.addFld_pegs (s : State) (f : Fld) (i n : Nat) : (s.addFld f i n).pegs = s.pegs := by unfold State.addFld; split <;> rfl
@[simp] theorem State.addFld_tally (s : State) (f : Fld) (i n : Nat) : (s.addFld f i n).tally = s.tally := by unfold State.addFld; split <;> rfl
@[simp] theorem State.addFld_tallyQ (s : State) (f : Fld) (i n : Nat) : (s.addFld f i n).tallyQ = s.tallyQ := by unfold State.addFld; split <;> rfl
@[simp] theorem State.addFld_tallySecond (s : State) (f : Fld) (i n : Nat) : (s.addFld f i n).tallySecond = s.tallySecond := by unfold State.addFld; split <;> rfl
@[simp] theorem State.addFld_tallyLost (s : State) (f : Fld) (i n : Nat) : (s.addFld f i n).tallyLost = s.tallyLost := by unfold State.addFld; split <;> rfl
@[simp] theorem State.addFld_sist (s : State) (f : Fld) (i n : Nat) : (s.addFld f i n).sist = s.sist := by unfold State.addFld; split <;> rfl
@[simp] theorem State.addFld_guarding (s : State) (f : Fld) (i n : Nat) : (s.addFld f i n).guarding = s.guarding := by unfold State.addFld; split <;> rfl
@[simp] theorem State.addFld_tallyRaw (s : State) (f : Fld) (i n : Nat) : (s.addFld f i n).tallyRaw = s.tallyRaw := by unfold State.addFld; split <;> rfl
@[simp] theorem State.addFld_mfld (s : State) (f : Fld) (i n : Nat) (g : Fld) (k j : Nat) : (s.addFld f i n).mfld g k j = s.mfld g k j := by unfold State.addFld; split <;> rfl
@[simp] theorem State.addFld_lane (s : State) (f : Fld) (i n : Nat) (k : Nat) : (s.addFld f i n).lane k = s.lane k := by unfold State.addFld; split <;> rfl
@[simp] theorem State.addFld_byte (s : State) (f : Fld) (i n : Nat) (c : Nat) : (s.addFld f i n).byte c = s.byte c := by unfold State.addFld; split <;> rfl

/-! ### State.latchAs -/

@[simp] theorem State.latchAs_pending (s : State) (e : Ev) (i ri data : Nat) : (s.latchAs e i ri data).pending = s.pending := by unfold State.latchAs; split <;> rfl
@[simp] theorem State.latchAs_staged (s : State) (e : Ev) (i ri data : Nat) : (s.latchAs e i ri data).staged = s.staged := by unfold State.latchAs; split <;> rfl
@[simp] theorem State.latchAs_perMaster (s : State) (e : Ev) (i ri data : Nat) : (s.latchAs e i ri data).perMaster = s.perMaster := by unfold State.latchAs; split <;> rfl
@[simp] theorem State.latchAs_latHigh (s : State) (e : Ev) (i ri data : Nat) : (s.latchAs e i ri data).latHigh = s.latHigh := by unfold State.latchAs; split <;> rfl
@[simp] theorem State.latchAs_heldLow (s : State) (e : Ev) (i ri data : Nat) : (s.latchAs e i ri data).heldLow = s.heldLow := by unfold State.latchAs; split <;> rfl
@[simp] theorem State.latchAs_frameCycle (s : State) (e : Ev) (i ri data : Nat) : (s.latchAs e i ri data).frameCycle = s.frameCycle := by unfold State.latchAs; split <;> rfl
@[simp] theorem State.latchAs_cycle (s : State) (e : Ev) (i ri data : Nat) : (s.latchAs e i ri data).cycle = s.cycle := by unfold State.latchAs; split <;> rfl
@[simp] theorem State.latchAs_free (s : State) (e : Ev) (i ri data : Nat) : (s.latchAs e i ri data).free = s.free := by unfold State.latchAs; split <;> rfl
@[simp] theorem State.latchAs_resp (s : State) (e : Ev) (i ri data : Nat) : (s.latchAs e i ri data).resp = s.resp := by unfold State.latchAs; split <;> rfl
@[simp] theorem State.latchAs_mem (s : State) (e : Ev) (i ri data : Nat) : (s.latchAs e i ri data).mem = s.mem := by unfold State.latchAs; split <;> rfl
@[simp] theorem State.latchAs_lanes (s : State) (e : Ev) (i ri data : Nat) : (s.latchAs e i ri data).lanes = s.lanes := by unfold State.latchAs; split <;> rfl
@[simp] theorem State.latchAs_sill (s : State) (e : Ev) (i ri data : Nat) : (s.latchAs e i ri data).sill = s.sill := by unfold State.latchAs; split <;> rfl
@[simp] theorem State.latchAs_sched (s : State) (e : Ev) (i ri data : Nat) : (s.latchAs e i ri data).sched = s.sched := by unfold State.latchAs; split <;> rfl
@[simp] theorem State.latchAs_tap (s : State) (e : Ev) (i ri data : Nat) : (s.latchAs e i ri data).tap = s.tap := by unfold State.latchAs; split <;> rfl
@[simp] theorem State.latchAs_longMem (s : State) (e : Ev) (i ri data : Nat) : (s.latchAs e i ri data).longMem = s.longMem := by unfold State.latchAs; split <;> rfl
@[simp] theorem State.latchAs_retPages (s : State) (e : Ev) (i ri data : Nat) : (s.latchAs e i ri data).retPages = s.retPages := by unfold State.latchAs; split <;> rfl
@[simp] theorem State.latchAs_plate (s : State) (e : Ev) (i ri data : Nat) : (s.latchAs e i ri data).plate = s.plate := by unfold State.latchAs; split <;> rfl
@[simp] theorem State.latchAs_links (s : State) (e : Ev) (i ri data : Nat) : (s.latchAs e i ri data).links = s.links := by unfold State.latchAs; split <;> rfl
@[simp] theorem State.latchAs_actions (s : State) (e : Ev) (i ri data : Nat) : (s.latchAs e i ri data).actions = s.actions := by unfold State.latchAs; split <;> rfl
@[simp] theorem State.latchAs_pauses (s : State) (e : Ev) (i ri data : Nat) : (s.latchAs e i ri data).pauses = s.pauses := by unfold State.latchAs; split <;> rfl
@[simp] theorem State.latchAs_mdlyHeld (s : State) (e : Ev) (i ri data : Nat) : (s.latchAs e i ri data).mdlyHeld = s.mdlyHeld := by unfold State.latchAs; split <;> rfl
@[simp] theorem State.latchAs_chg (s : State) (e : Ev) (i ri data : Nat) : (s.latchAs e i ri data).chg = s.chg := by unfold State.latchAs; split <;> rfl
@[simp] theorem State.latchAs_queued (s : State) (e : Ev) (i ri data : Nat) : (s.latchAs e i ri data).queued = s.queued := by unfold State.latchAs; split <;> rfl
@[simp] theorem State.latchAs_scnTrig (s : State) (e : Ev) (i ri data : Nat) : (s.latchAs e i ri data).scnTrig = s.scnTrig := by unfold State.latchAs; split <;> rfl
@[simp] theorem State.latchAs_scnQ (s : State) (e : Ev) (i ri data : Nat) : (s.latchAs e i ri data).scnQ = s.scnQ := by unfold State.latchAs; split <;> rfl
@[simp] theorem State.latchAs_mrecHeld (s : State) (e : Ev) (i ri data : Nat) : (s.latchAs e i ri data).mrecHeld = s.mrecHeld := by unfold State.latchAs; split <;> rfl
@[simp] theorem State.latchAs_sides (s : State) (e : Ev) (i ri data : Nat) : (s.latchAs e i ri data).sides = s.sides := by unfold State.latchAs; split <;> rfl
@[simp] theorem State.latchAs_groups (s : State) (e : Ev) (i ri data : Nat) : (s.latchAs e i ri data).groups = s.groups := by unfold State.latchAs; split <;> rfl
@[simp] theorem State.latchAs_plumb (s : State) (e : Ev) (i ri data : Nat) : (s.latchAs e i ri data).plumb = s.plumb := by unfold State.latchAs; split <;> rfl
@[simp] theorem State.latchAs_mate (s : State) (e : Ev) (i ri data : Nat) : (s.latchAs e i ri data).mate = s.mate := by unfold State.latchAs; split <;> rfl
@[simp] theorem State.latchAs_fuses (s : State) (e : Ev) (i ri data : Nat) : (s.latchAs e i ri data).fuses = s.fuses := by unfold State.latchAs; split <;> rfl
@[simp] theorem State.latchAs_raise (s : State) (e : Ev) (i ri data : Nat) : (s.latchAs e i ri data).raise = s.raise := by unfold State.latchAs; split <;> rfl
@[simp] theorem State.latchAs_pcie (s : State) (e : Ev) (i ri data : Nat) : (s.latchAs e i ri data).pcie = s.pcie := by unfold State.latchAs; split <;> rfl
@[simp] theorem State.latchAs_own (s : State) (e : Ev) (i ri data : Nat) : (s.latchAs e i ri data).own = s.own := by unfold State.latchAs; split <;> rfl
@[simp] theorem State.latchAs_sampled (s : State) (e : Ev) (i ri data : Nat) : (s.latchAs e i ri data).sampled = s.sampled := by unfold State.latchAs; split <;> rfl
@[simp] theorem State.latchAs_tunnel (s : State) (e : Ev) (i ri data : Nat) : (s.latchAs e i ri data).tunnel = s.tunnel := by unfold State.latchAs; split <;> rfl
@[simp] theorem State.latchAs_spiQuad (s : State) (e : Ev) (i ri data : Nat) : (s.latchAs e i ri data).spiQuad = s.spiQuad := by unfold State.latchAs; split <;> rfl
@[simp] theorem State.latchAs_snd (s : State) (e : Ev) (i ri data : Nat) : (s.latchAs e i ri data).snd = s.snd := by unfold State.latchAs; split <;> rfl
@[simp] theorem State.latchAs_ddr (s : State) (e : Ev) (i ri data : Nat) : (s.latchAs e i ri data).ddr = s.ddr := by unfold State.latchAs; split <;> rfl
@[simp] theorem State.latchAs_snapFixed (s : State) (e : Ev) (i ri data : Nat) : (s.latchAs e i ri data).snapFixed = s.snapFixed := by unfold State.latchAs; split <;> rfl
@[simp] theorem State.latchAs_chainHeld (s : State) (e : Ev) (i ri data : Nat) : (s.latchAs e i ri data).chainHeld = s.chainHeld := by unfold State.latchAs; split <;> rfl
@[simp] theorem State.latchAs_snapAt (s : State) (e : Ev) (i ri data : Nat) : (s.latchAs e i ri data).snapAt = s.snapAt := by unfold State.latchAs; split <;> rfl
@[simp] theorem State.latchAs_snapped (s : State) (e : Ev) (i ri data : Nat) : (s.latchAs e i ri data).snapped = s.snapped := by unfold State.latchAs; split <;> rfl
@[simp] theorem State.latchAs_clear (s : State) (e : Ev) (i ri data : Nat) : (s.latchAs e i ri data).clear = s.clear := by unfold State.latchAs; split <;> rfl
@[simp] theorem State.latchAs_archive (s : State) (e : Ev) (i ri data : Nat) : (s.latchAs e i ri data).archive = s.archive := by unfold State.latchAs; split <;> rfl
@[simp] theorem State.latchAs_pegs (s : State) (e : Ev) (i ri data : Nat) : (s.latchAs e i ri data).pegs = s.pegs := by unfold State.latchAs; split <;> rfl
@[simp] theorem State.latchAs_tally (s : State) (e : Ev) (i ri data : Nat) : (s.latchAs e i ri data).tally = s.tally := by unfold State.latchAs; split <;> rfl
@[simp] theorem State.latchAs_tallyQ (s : State) (e : Ev) (i ri data : Nat) : (s.latchAs e i ri data).tallyQ = s.tallyQ := by unfold State.latchAs; split <;> rfl
@[simp] theorem State.latchAs_tallySecond (s : State) (e : Ev) (i ri data : Nat) : (s.latchAs e i ri data).tallySecond = s.tallySecond := by unfold State.latchAs; split <;> rfl
@[simp] theorem State.latchAs_tallyLost (s : State) (e : Ev) (i ri data : Nat) : (s.latchAs e i ri data).tallyLost = s.tallyLost := by unfold State.latchAs; split <;> rfl
@[simp] theorem State.latchAs_sist (s : State) (e : Ev) (i ri data : Nat) : (s.latchAs e i ri data).sist = s.sist := by unfold State.latchAs; split <;> rfl
@[simp] theorem State.latchAs_guarding (s : State) (e : Ev) (i ri data : Nat) : (s.latchAs e i ri data).guarding = s.guarding := by unfold State.latchAs; split <;> rfl
@[simp] theorem State.latchAs_tallyRaw (s : State) (e : Ev) (i ri data : Nat) : (s.latchAs e i ri data).tallyRaw = s.tallyRaw := by unfold State.latchAs; split <;> rfl
@[simp] theorem State.latchAs_mfld (s : State) (e : Ev) (i ri data : Nat) (g : Fld) (k j : Nat) : (s.latchAs e i ri data).mfld g k j = s.mfld g k j := by unfold State.latchAs; split <;> rfl
@[simp] theorem State.latchAs_lane (s : State) (e : Ev) (i ri data : Nat) (k : Nat) : (s.latchAs e i ri data).lane k = s.lane k := by unfold State.latchAs; split <;> rfl
@[simp] theorem State.latchAs_byte (s : State) (e : Ev) (i ri data : Nat) (c : Nat) : (s.latchAs e i ri data).byte c = s.byte c := by unfold State.latchAs; split <;> rfl

/-! ### State.latch -/

@[simp] theorem State.latch_pending (s : State) (e : Ev) (i : Nat) : (s.latch e i).pending = s.pending := by unfold State.latch State.latchAs; split <;> rfl
@[simp] theorem State.latch_staged (s : State) (e : Ev) (i : Nat) : (s.latch e i).staged = s.staged := by unfold State.latch State.latchAs; split <;> rfl
@[simp] theorem State.latch_perMaster (s : State) (e : Ev) (i : Nat) : (s.latch e i).perMaster = s.perMaster := by unfold State.latch State.latchAs; split <;> rfl
@[simp] theorem State.latch_latHigh (s : State) (e : Ev) (i : Nat) : (s.latch e i).latHigh = s.latHigh := by unfold State.latch State.latchAs; split <;> rfl
@[simp] theorem State.latch_heldLow (s : State) (e : Ev) (i : Nat) : (s.latch e i).heldLow = s.heldLow := by unfold State.latch State.latchAs; split <;> rfl
@[simp] theorem State.latch_frameCycle (s : State) (e : Ev) (i : Nat) : (s.latch e i).frameCycle = s.frameCycle := by unfold State.latch State.latchAs; split <;> rfl
@[simp] theorem State.latch_cycle (s : State) (e : Ev) (i : Nat) : (s.latch e i).cycle = s.cycle := by unfold State.latch State.latchAs; split <;> rfl
@[simp] theorem State.latch_free (s : State) (e : Ev) (i : Nat) : (s.latch e i).free = s.free := by unfold State.latch State.latchAs; split <;> rfl
@[simp] theorem State.latch_resp (s : State) (e : Ev) (i : Nat) : (s.latch e i).resp = s.resp := by unfold State.latch State.latchAs; split <;> rfl
@[simp] theorem State.latch_mem (s : State) (e : Ev) (i : Nat) : (s.latch e i).mem = s.mem := by unfold State.latch State.latchAs; split <;> rfl
@[simp] theorem State.latch_lanes (s : State) (e : Ev) (i : Nat) : (s.latch e i).lanes = s.lanes := by unfold State.latch State.latchAs; split <;> rfl
@[simp] theorem State.latch_sill (s : State) (e : Ev) (i : Nat) : (s.latch e i).sill = s.sill := by unfold State.latch State.latchAs; split <;> rfl
@[simp] theorem State.latch_sched (s : State) (e : Ev) (i : Nat) : (s.latch e i).sched = s.sched := by unfold State.latch State.latchAs; split <;> rfl
@[simp] theorem State.latch_tap (s : State) (e : Ev) (i : Nat) : (s.latch e i).tap = s.tap := by unfold State.latch State.latchAs; split <;> rfl
@[simp] theorem State.latch_longMem (s : State) (e : Ev) (i : Nat) : (s.latch e i).longMem = s.longMem := by unfold State.latch State.latchAs; split <;> rfl
@[simp] theorem State.latch_retPages (s : State) (e : Ev) (i : Nat) : (s.latch e i).retPages = s.retPages := by unfold State.latch State.latchAs; split <;> rfl
@[simp] theorem State.latch_plate (s : State) (e : Ev) (i : Nat) : (s.latch e i).plate = s.plate := by unfold State.latch State.latchAs; split <;> rfl
@[simp] theorem State.latch_links (s : State) (e : Ev) (i : Nat) : (s.latch e i).links = s.links := by unfold State.latch State.latchAs; split <;> rfl
@[simp] theorem State.latch_actions (s : State) (e : Ev) (i : Nat) : (s.latch e i).actions = s.actions := by unfold State.latch State.latchAs; split <;> rfl
@[simp] theorem State.latch_pauses (s : State) (e : Ev) (i : Nat) : (s.latch e i).pauses = s.pauses := by unfold State.latch State.latchAs; split <;> rfl
@[simp] theorem State.latch_mdlyHeld (s : State) (e : Ev) (i : Nat) : (s.latch e i).mdlyHeld = s.mdlyHeld := by unfold State.latch State.latchAs; split <;> rfl
@[simp] theorem State.latch_chg (s : State) (e : Ev) (i : Nat) : (s.latch e i).chg = s.chg := by unfold State.latch State.latchAs; split <;> rfl
@[simp] theorem State.latch_queued (s : State) (e : Ev) (i : Nat) : (s.latch e i).queued = s.queued := by unfold State.latch State.latchAs; split <;> rfl
@[simp] theorem State.latch_scnTrig (s : State) (e : Ev) (i : Nat) : (s.latch e i).scnTrig = s.scnTrig := by unfold State.latch State.latchAs; split <;> rfl
@[simp] theorem State.latch_scnQ (s : State) (e : Ev) (i : Nat) : (s.latch e i).scnQ = s.scnQ := by unfold State.latch State.latchAs; split <;> rfl
@[simp] theorem State.latch_mrecHeld (s : State) (e : Ev) (i : Nat) : (s.latch e i).mrecHeld = s.mrecHeld := by unfold State.latch State.latchAs; split <;> rfl
@[simp] theorem State.latch_sides (s : State) (e : Ev) (i : Nat) : (s.latch e i).sides = s.sides := by unfold State.latch State.latchAs; split <;> rfl
@[simp] theorem State.latch_groups (s : State) (e : Ev) (i : Nat) : (s.latch e i).groups = s.groups := by unfold State.latch State.latchAs; split <;> rfl
@[simp] theorem State.latch_plumb (s : State) (e : Ev) (i : Nat) : (s.latch e i).plumb = s.plumb := by unfold State.latch State.latchAs; split <;> rfl
@[simp] theorem State.latch_mate (s : State) (e : Ev) (i : Nat) : (s.latch e i).mate = s.mate := by unfold State.latch State.latchAs; split <;> rfl
@[simp] theorem State.latch_fuses (s : State) (e : Ev) (i : Nat) : (s.latch e i).fuses = s.fuses := by unfold State.latch State.latchAs; split <;> rfl
@[simp] theorem State.latch_raise (s : State) (e : Ev) (i : Nat) : (s.latch e i).raise = s.raise := by unfold State.latch State.latchAs; split <;> rfl
@[simp] theorem State.latch_pcie (s : State) (e : Ev) (i : Nat) : (s.latch e i).pcie = s.pcie := by unfold State.latch State.latchAs; split <;> rfl
@[simp] theorem State.latch_own (s : State) (e : Ev) (i : Nat) : (s.latch e i).own = s.own := by unfold State.latch State.latchAs; split <;> rfl
@[simp] theorem State.latch_sampled (s : State) (e : Ev) (i : Nat) : (s.latch e i).sampled = s.sampled := by unfold State.latch State.latchAs; split <;> rfl
@[simp] theorem State.latch_tunnel (s : State) (e : Ev) (i : Nat) : (s.latch e i).tunnel = s.tunnel := by unfold State.latch State.latchAs; split <;> rfl
@[simp] theorem State.latch_spiQuad (s : State) (e : Ev) (i : Nat) : (s.latch e i).spiQuad = s.spiQuad := by unfold State.latch State.latchAs; split <;> rfl
@[simp] theorem State.latch_snd (s : State) (e : Ev) (i : Nat) : (s.latch e i).snd = s.snd := by unfold State.latch State.latchAs; split <;> rfl
@[simp] theorem State.latch_ddr (s : State) (e : Ev) (i : Nat) : (s.latch e i).ddr = s.ddr := by unfold State.latch State.latchAs; split <;> rfl
@[simp] theorem State.latch_snapFixed (s : State) (e : Ev) (i : Nat) : (s.latch e i).snapFixed = s.snapFixed := by unfold State.latch State.latchAs; split <;> rfl
@[simp] theorem State.latch_chainHeld (s : State) (e : Ev) (i : Nat) : (s.latch e i).chainHeld = s.chainHeld := by unfold State.latch State.latchAs; split <;> rfl
@[simp] theorem State.latch_snapAt (s : State) (e : Ev) (i : Nat) : (s.latch e i).snapAt = s.snapAt := by unfold State.latch State.latchAs; split <;> rfl
@[simp] theorem State.latch_snapped (s : State) (e : Ev) (i : Nat) : (s.latch e i).snapped = s.snapped := by unfold State.latch State.latchAs; split <;> rfl
@[simp] theorem State.latch_clear (s : State) (e : Ev) (i : Nat) : (s.latch e i).clear = s.clear := by unfold State.latch State.latchAs; split <;> rfl
@[simp] theorem State.latch_archive (s : State) (e : Ev) (i : Nat) : (s.latch e i).archive = s.archive := by unfold State.latch State.latchAs; split <;> rfl
@[simp] theorem State.latch_pegs (s : State) (e : Ev) (i : Nat) : (s.latch e i).pegs = s.pegs := by unfold State.latch State.latchAs; split <;> rfl
@[simp] theorem State.latch_tally (s : State) (e : Ev) (i : Nat) : (s.latch e i).tally = s.tally := by unfold State.latch State.latchAs; split <;> rfl
@[simp] theorem State.latch_tallyQ (s : State) (e : Ev) (i : Nat) : (s.latch e i).tallyQ = s.tallyQ := by unfold State.latch State.latchAs; split <;> rfl
@[simp] theorem State.latch_tallySecond (s : State) (e : Ev) (i : Nat) : (s.latch e i).tallySecond = s.tallySecond := by unfold State.latch State.latchAs; split <;> rfl
@[simp] theorem State.latch_tallyLost (s : State) (e : Ev) (i : Nat) : (s.latch e i).tallyLost = s.tallyLost := by unfold State.latch State.latchAs; split <;> rfl
@[simp] theorem State.latch_sist (s : State) (e : Ev) (i : Nat) : (s.latch e i).sist = s.sist := by unfold State.latch State.latchAs; split <;> rfl
@[simp] theorem State.latch_guarding (s : State) (e : Ev) (i : Nat) : (s.latch e i).guarding = s.guarding := by unfold State.latch State.latchAs; split <;> rfl
@[simp] theorem State.latch_tallyRaw (s : State) (e : Ev) (i : Nat) : (s.latch e i).tallyRaw = s.tallyRaw := by unfold State.latch State.latchAs; split <;> rfl
@[simp] theorem State.latch_mfld (s : State) (e : Ev) (i : Nat) (g : Fld) (k j : Nat) : (s.latch e i).mfld g k j = s.mfld g k j := by unfold State.latch State.latchAs; split <;> rfl
@[simp] theorem State.latch_lane (s : State) (e : Ev) (i : Nat) (k : Nat) : (s.latch e i).lane k = s.lane k := by unfold State.latch State.latchAs; split <;> rfl
@[simp] theorem State.latch_byte (s : State) (e : Ev) (i : Nat) (c : Nat) : (s.latch e i).byte c = s.byte c := by unfold State.latch State.latchAs; split <;> rfl

/-! ### State.latchIf -/

@[simp] theorem State.latchIf_pending (s : State) (b : Bool) (e : Ev) (i : Nat) : (s.latchIf b e i).pending = s.pending := by unfold State.latchIf State.latch State.latchAs; repeat (first | rfl | split)
@[simp] theorem State.latchIf_staged (s : State) (b : Bool) (e : Ev) (i : Nat) : (s.latchIf b e i).staged = s.staged := by unfold State.latchIf State.latch State.latchAs; repeat (first | rfl | split)
@[simp] theorem State.latchIf_perMaster (s : State) (b : Bool) (e : Ev) (i : Nat) : (s.latchIf b e i).perMaster = s.perMaster := by unfold State.latchIf State.latch State.latchAs; repeat (first | rfl | split)
@[simp] theorem State.latchIf_latHigh (s : State) (b : Bool) (e : Ev) (i : Nat) : (s.latchIf b e i).latHigh = s.latHigh := by unfold State.latchIf State.latch State.latchAs; repeat (first | rfl | split)
@[simp] theorem State.latchIf_heldLow (s : State) (b : Bool) (e : Ev) (i : Nat) : (s.latchIf b e i).heldLow = s.heldLow := by unfold State.latchIf State.latch State.latchAs; repeat (first | rfl | split)
@[simp] theorem State.latchIf_frameCycle (s : State) (b : Bool) (e : Ev) (i : Nat) : (s.latchIf b e i).frameCycle = s.frameCycle := by unfold State.latchIf State.latch State.latchAs; repeat (first | rfl | split)
@[simp] theorem State.latchIf_cycle (s : State) (b : Bool) (e : Ev) (i : Nat) : (s.latchIf b e i).cycle = s.cycle := by unfold State.latchIf State.latch State.latchAs; repeat (first | rfl | split)
@[simp] theorem State.latchIf_free (s : State) (b : Bool) (e : Ev) (i : Nat) : (s.latchIf b e i).free = s.free := by unfold State.latchIf State.latch State.latchAs; repeat (first | rfl | split)
@[simp] theorem State.latchIf_resp (s : State) (b : Bool) (e : Ev) (i : Nat) : (s.latchIf b e i).resp = s.resp := by unfold State.latchIf State.latch State.latchAs; repeat (first | rfl | split)
@[simp] theorem State.latchIf_mem (s : State) (b : Bool) (e : Ev) (i : Nat) : (s.latchIf b e i).mem = s.mem := by unfold State.latchIf State.latch State.latchAs; repeat (first | rfl | split)
@[simp] theorem State.latchIf_lanes (s : State) (b : Bool) (e : Ev) (i : Nat) : (s.latchIf b e i).lanes = s.lanes := by unfold State.latchIf State.latch State.latchAs; repeat (first | rfl | split)
@[simp] theorem State.latchIf_sill (s : State) (b : Bool) (e : Ev) (i : Nat) : (s.latchIf b e i).sill = s.sill := by unfold State.latchIf State.latch State.latchAs; repeat (first | rfl | split)
@[simp] theorem State.latchIf_sched (s : State) (b : Bool) (e : Ev) (i : Nat) : (s.latchIf b e i).sched = s.sched := by unfold State.latchIf State.latch State.latchAs; repeat (first | rfl | split)
@[simp] theorem State.latchIf_tap (s : State) (b : Bool) (e : Ev) (i : Nat) : (s.latchIf b e i).tap = s.tap := by unfold State.latchIf State.latch State.latchAs; repeat (first | rfl | split)
@[simp] theorem State.latchIf_longMem (s : State) (b : Bool) (e : Ev) (i : Nat) : (s.latchIf b e i).longMem = s.longMem := by unfold State.latchIf State.latch State.latchAs; repeat (first | rfl | split)
@[simp] theorem State.latchIf_retPages (s : State) (b : Bool) (e : Ev) (i : Nat) : (s.latchIf b e i).retPages = s.retPages := by unfold State.latchIf State.latch State.latchAs; repeat (first | rfl | split)
@[simp] theorem State.latchIf_plate (s : State) (b : Bool) (e : Ev) (i : Nat) : (s.latchIf b e i).plate = s.plate := by unfold State.latchIf State.latch State.latchAs; repeat (first | rfl | split)
@[simp] theorem State.latchIf_links (s : State) (b : Bool) (e : Ev) (i : Nat) : (s.latchIf b e i).links = s.links := by unfold State.latchIf State.latch State.latchAs; repeat (first | rfl | split)
@[simp] theorem State.latchIf_actions (s : State) (b : Bool) (e : Ev) (i : Nat) : (s.latchIf b e i).actions = s.actions := by unfold State.latchIf State.latch State.latchAs; repeat (first | rfl | split)
@[simp] theorem State.latchIf_pauses (s : State) (b : Bool) (e : Ev) (i : Nat) : (s.latchIf b e i).pauses = s.pauses := by unfold State.latchIf State.latch State.latchAs; repeat (first | rfl | split)
@[simp] theorem State.latchIf_mdlyHeld (s : State) (b : Bool) (e : Ev) (i : Nat) : (s.latchIf b e i).mdlyHeld = s.mdlyHeld := by unfold State.latchIf State.latch State.latchAs; repeat (first | rfl | split)
@[simp] theorem State.latchIf_chg (s : State) (b : Bool) (e : Ev) (i : Nat) : (s.latchIf b e i).chg = s.chg := by unfold State.latchIf State.latch State.latchAs; repeat (first | rfl | split)
@[simp] theorem State.latchIf_queued (s : State) (b : Bool) (e : Ev) (i : Nat) : (s.latchIf b e i).queued = s.queued := by unfold State.latchIf State.latch State.latchAs; repeat (first | rfl | split)
@[simp] theorem State.latchIf_scnTrig (s : State) (b : Bool) (e : Ev) (i : Nat) : (s.latchIf b e i).scnTrig = s.scnTrig := by unfold State.latchIf State.latch State.latchAs; repeat (first | rfl | split)
@[simp] theorem State.latchIf_scnQ (s : State) (b : Bool) (e : Ev) (i : Nat) : (s.latchIf b e i).scnQ = s.scnQ := by unfold State.latchIf State.latch State.latchAs; repeat (first | rfl | split)
@[simp] theorem State.latchIf_mrecHeld (s : State) (b : Bool) (e : Ev) (i : Nat) : (s.latchIf b e i).mrecHeld = s.mrecHeld := by unfold State.latchIf State.latch State.latchAs; repeat (first | rfl | split)
@[simp] theorem State.latchIf_sides (s : State) (b : Bool) (e : Ev) (i : Nat) : (s.latchIf b e i).sides = s.sides := by unfold State.latchIf State.latch State.latchAs; repeat (first | rfl | split)
@[simp] theorem State.latchIf_groups (s : State) (b : Bool) (e : Ev) (i : Nat) : (s.latchIf b e i).groups = s.groups := by unfold State.latchIf State.latch State.latchAs; repeat (first | rfl | split)
@[simp] theorem State.latchIf_plumb (s : State) (b : Bool) (e : Ev) (i : Nat) : (s.latchIf b e i).plumb = s.plumb := by unfold State.latchIf State.latch State.latchAs; repeat (first | rfl | split)
@[simp] theorem State.latchIf_mate (s : State) (b : Bool) (e : Ev) (i : Nat) : (s.latchIf b e i).mate = s.mate := by unfold State.latchIf State.latch State.latchAs; repeat (first | rfl | split)
@[simp] theorem State.latchIf_fuses (s : State) (b : Bool) (e : Ev) (i : Nat) : (s.latchIf b e i).fuses = s.fuses := by unfold State.latchIf State.latch State.latchAs; repeat (first | rfl | split)
@[simp] theorem State.latchIf_raise (s : State) (b : Bool) (e : Ev) (i : Nat) : (s.latchIf b e i).raise = s.raise := by unfold State.latchIf State.latch State.latchAs; repeat (first | rfl | split)
@[simp] theorem State.latchIf_pcie (s : State) (b : Bool) (e : Ev) (i : Nat) : (s.latchIf b e i).pcie = s.pcie := by unfold State.latchIf State.latch State.latchAs; repeat (first | rfl | split)
@[simp] theorem State.latchIf_own (s : State) (b : Bool) (e : Ev) (i : Nat) : (s.latchIf b e i).own = s.own := by unfold State.latchIf State.latch State.latchAs; repeat (first | rfl | split)
@[simp] theorem State.latchIf_sampled (s : State) (b : Bool) (e : Ev) (i : Nat) : (s.latchIf b e i).sampled = s.sampled := by unfold State.latchIf State.latch State.latchAs; repeat (first | rfl | split)
@[simp] theorem State.latchIf_tunnel (s : State) (b : Bool) (e : Ev) (i : Nat) : (s.latchIf b e i).tunnel = s.tunnel := by unfold State.latchIf State.latch State.latchAs; repeat (first | rfl | split)
@[simp] theorem State.latchIf_spiQuad (s : State) (b : Bool) (e : Ev) (i : Nat) : (s.latchIf b e i).spiQuad = s.spiQuad := by unfold State.latchIf State.latch State.latchAs; repeat (first | rfl | split)
@[simp] theorem State.latchIf_snd (s : State) (b : Bool) (e : Ev) (i : Nat) : (s.latchIf b e i).snd = s.snd := by unfold State.latchIf State.latch State.latchAs; repeat (first | rfl | split)
@[simp] theorem State.latchIf_ddr (s : State) (b : Bool) (e : Ev) (i : Nat) : (s.latchIf b e i).ddr = s.ddr := by unfold State.latchIf State.latch State.latchAs; repeat (first | rfl | split)
@[simp] theorem State.latchIf_snapFixed (s : State) (b : Bool) (e : Ev) (i : Nat) : (s.latchIf b e i).snapFixed = s.snapFixed := by unfold State.latchIf State.latch State.latchAs; repeat (first | rfl | split)
@[simp] theorem State.latchIf_chainHeld (s : State) (b : Bool) (e : Ev) (i : Nat) : (s.latchIf b e i).chainHeld = s.chainHeld := by unfold State.latchIf State.latch State.latchAs; repeat (first | rfl | split)
@[simp] theorem State.latchIf_snapAt (s : State) (b : Bool) (e : Ev) (i : Nat) : (s.latchIf b e i).snapAt = s.snapAt := by unfold State.latchIf State.latch State.latchAs; repeat (first | rfl | split)
@[simp] theorem State.latchIf_snapped (s : State) (b : Bool) (e : Ev) (i : Nat) : (s.latchIf b e i).snapped = s.snapped := by unfold State.latchIf State.latch State.latchAs; repeat (first | rfl | split)
@[simp] theorem State.latchIf_clear (s : State) (b : Bool) (e : Ev) (i : Nat) : (s.latchIf b e i).clear = s.clear := by unfold State.latchIf State.latch State.latchAs; repeat (first | rfl | split)
@[simp] theorem State.latchIf_archive (s : State) (b : Bool) (e : Ev) (i : Nat) : (s.latchIf b e i).archive = s.archive := by unfold State.latchIf State.latch State.latchAs; repeat (first | rfl | split)
@[simp] theorem State.latchIf_pegs (s : State) (b : Bool) (e : Ev) (i : Nat) : (s.latchIf b e i).pegs = s.pegs := by unfold State.latchIf State.latch State.latchAs; repeat (first | rfl | split)
@[simp] theorem State.latchIf_tally (s : State) (b : Bool) (e : Ev) (i : Nat) : (s.latchIf b e i).tally = s.tally := by unfold State.latchIf State.latch State.latchAs; repeat (first | rfl | split)
@[simp] theorem State.latchIf_tallyQ (s : State) (b : Bool) (e : Ev) (i : Nat) : (s.latchIf b e i).tallyQ = s.tallyQ := by unfold State.latchIf State.latch State.latchAs; repeat (first | rfl | split)
@[simp] theorem State.latchIf_tallySecond (s : State) (b : Bool) (e : Ev) (i : Nat) : (s.latchIf b e i).tallySecond = s.tallySecond := by unfold State.latchIf State.latch State.latchAs; repeat (first | rfl | split)
@[simp] theorem State.latchIf_tallyLost (s : State) (b : Bool) (e : Ev) (i : Nat) : (s.latchIf b e i).tallyLost = s.tallyLost := by unfold State.latchIf State.latch State.latchAs; repeat (first | rfl | split)
@[simp] theorem State.latchIf_sist (s : State) (b : Bool) (e : Ev) (i : Nat) : (s.latchIf b e i).sist = s.sist := by unfold State.latchIf State.latch State.latchAs; repeat (first | rfl | split)
@[simp] theorem State.latchIf_guarding (s : State) (b : Bool) (e : Ev) (i : Nat) : (s.latchIf b e i).guarding = s.guarding := by unfold State.latchIf State.latch State.latchAs; repeat (first | rfl | split)
@[simp] theorem State.latchIf_tallyRaw (s : State) (b : Bool) (e : Ev) (i : Nat) : (s.latchIf b e i).tallyRaw = s.tallyRaw := by unfold State.latchIf State.latch State.latchAs; repeat (first | rfl | split)
@[simp] theorem State.latchIf_mfld (s : State) (b : Bool) (e : Ev) (i : Nat) (g : Fld) (k j : Nat) : (s.latchIf b e i).mfld g k j = s.mfld g k j := by unfold State.latchIf State.latch State.latchAs; repeat (first | rfl | split)
@[simp] theorem State.latchIf_lane (s : State) (b : Bool) (e : Ev) (i : Nat) (k : Nat) : (s.latchIf b e i).lane k = s.lane k := by unfold State.latchIf State.latch State.latchAs; repeat (first | rfl | split)
@[simp] theorem State.latchIf_byte (s : State) (b : Bool) (e : Ev) (i : Nat) (c : Nat) : (s.latchIf b e i).byte c = s.byte c := by unfold State.latchIf State.latch State.latchAs; repeat (first | rfl | split)

/-! ### State.latchFor -/

@[simp] theorem State.latchFor_pending (s : State) (e : Ev) (ri : Nat) : (s.latchFor e ri).pending = s.pending := by unfold State.latchFor State.latchAs; split <;> rfl
@[simp] theorem State.latchFor_staged (s : State) (e : Ev) (ri : Nat) : (s.latchFor e ri).staged = s.staged := by unfold State.latchFor State.latchAs; split <;> rfl
@[simp] theorem State.latchFor_perMaster (s : State) (e : Ev) (ri : Nat) : (s.latchFor e ri).perMaster = s.perMaster := by unfold State.latchFor State.latchAs; split <;> rfl
@[simp] theorem State.latchFor_latHigh (s : State) (e : Ev) (ri : Nat) : (s.latchFor e ri).latHigh = s.latHigh := by unfold State.latchFor State.latchAs; split <;> rfl
@[simp] theorem State.latchFor_heldLow (s : State) (e : Ev) (ri : Nat) : (s.latchFor e ri).heldLow = s.heldLow := by unfold State.latchFor State.latchAs; split <;> rfl
@[simp] theorem State.latchFor_frameCycle (s : State) (e : Ev) (ri : Nat) : (s.latchFor e ri).frameCycle = s.frameCycle := by unfold State.latchFor State.latchAs; split <;> rfl
@[simp] theorem State.latchFor_cycle (s : State) (e : Ev) (ri : Nat) : (s.latchFor e ri).cycle = s.cycle := by unfold State.latchFor State.latchAs; split <;> rfl
@[simp] theorem State.latchFor_free (s : State) (e : Ev) (ri : Nat) : (s.latchFor e ri).free = s.free := by unfold State.latchFor State.latchAs; split <;> rfl
@[simp] theorem State.latchFor_resp (s : State) (e : Ev) (ri : Nat) : (s.latchFor e ri).resp = s.resp := by unfold State.latchFor State.latchAs; split <;> rfl
@[simp] theorem State.latchFor_mem (s : State) (e : Ev) (ri : Nat) : (s.latchFor e ri).mem = s.mem := by unfold State.latchFor State.latchAs; split <;> rfl
@[simp] theorem State.latchFor_lanes (s : State) (e : Ev) (ri : Nat) : (s.latchFor e ri).lanes = s.lanes := by unfold State.latchFor State.latchAs; split <;> rfl
@[simp] theorem State.latchFor_sill (s : State) (e : Ev) (ri : Nat) : (s.latchFor e ri).sill = s.sill := by unfold State.latchFor State.latchAs; split <;> rfl
@[simp] theorem State.latchFor_sched (s : State) (e : Ev) (ri : Nat) : (s.latchFor e ri).sched = s.sched := by unfold State.latchFor State.latchAs; split <;> rfl
@[simp] theorem State.latchFor_tap (s : State) (e : Ev) (ri : Nat) : (s.latchFor e ri).tap = s.tap := by unfold State.latchFor State.latchAs; split <;> rfl
@[simp] theorem State.latchFor_longMem (s : State) (e : Ev) (ri : Nat) : (s.latchFor e ri).longMem = s.longMem := by unfold State.latchFor State.latchAs; split <;> rfl
@[simp] theorem State.latchFor_retPages (s : State) (e : Ev) (ri : Nat) : (s.latchFor e ri).retPages = s.retPages := by unfold State.latchFor State.latchAs; split <;> rfl
@[simp] theorem State.latchFor_plate (s : State) (e : Ev) (ri : Nat) : (s.latchFor e ri).plate = s.plate := by unfold State.latchFor State.latchAs; split <;> rfl
@[simp] theorem State.latchFor_links (s : State) (e : Ev) (ri : Nat) : (s.latchFor e ri).links = s.links := by unfold State.latchFor State.latchAs; split <;> rfl
@[simp] theorem State.latchFor_actions (s : State) (e : Ev) (ri : Nat) : (s.latchFor e ri).actions = s.actions := by unfold State.latchFor State.latchAs; split <;> rfl
@[simp] theorem State.latchFor_pauses (s : State) (e : Ev) (ri : Nat) : (s.latchFor e ri).pauses = s.pauses := by unfold State.latchFor State.latchAs; split <;> rfl
@[simp] theorem State.latchFor_mdlyHeld (s : State) (e : Ev) (ri : Nat) : (s.latchFor e ri).mdlyHeld = s.mdlyHeld := by unfold State.latchFor State.latchAs; split <;> rfl
@[simp] theorem State.latchFor_chg (s : State) (e : Ev) (ri : Nat) : (s.latchFor e ri).chg = s.chg := by unfold State.latchFor State.latchAs; split <;> rfl
@[simp] theorem State.latchFor_queued (s : State) (e : Ev) (ri : Nat) : (s.latchFor e ri).queued = s.queued := by unfold State.latchFor State.latchAs; split <;> rfl
@[simp] theorem State.latchFor_scnTrig (s : State) (e : Ev) (ri : Nat) : (s.latchFor e ri).scnTrig = s.scnTrig := by unfold State.latchFor State.latchAs; split <;> rfl
@[simp] theorem State.latchFor_scnQ (s : State) (e : Ev) (ri : Nat) : (s.latchFor e ri).scnQ = s.scnQ := by unfold State.latchFor State.latchAs; split <;> rfl
@[simp] theorem State.latchFor_mrecHeld (s : State) (e : Ev) (ri : Nat) : (s.latchFor e ri).mrecHeld = s.mrecHeld := by unfold State.latchFor State.latchAs; split <;> rfl
@[simp] theorem State.latchFor_sides (s : State) (e : Ev) (ri : Nat) : (s.latchFor e ri).sides = s.sides := by unfold State.latchFor State.latchAs; split <;> rfl
@[simp] theorem State.latchFor_groups (s : State) (e : Ev) (ri : Nat) : (s.latchFor e ri).groups = s.groups := by unfold State.latchFor State.latchAs; split <;> rfl
@[simp] theorem State.latchFor_plumb (s : State) (e : Ev) (ri : Nat) : (s.latchFor e ri).plumb = s.plumb := by unfold State.latchFor State.latchAs; split <;> rfl
@[simp] theorem State.latchFor_mate (s : State) (e : Ev) (ri : Nat) : (s.latchFor e ri).mate = s.mate := by unfold State.latchFor State.latchAs; split <;> rfl
@[simp] theorem State.latchFor_fuses (s : State) (e : Ev) (ri : Nat) : (s.latchFor e ri).fuses = s.fuses := by unfold State.latchFor State.latchAs; split <;> rfl
@[simp] theorem State.latchFor_raise (s : State) (e : Ev) (ri : Nat) : (s.latchFor e ri).raise = s.raise := by unfold State.latchFor State.latchAs; split <;> rfl
@[simp] theorem State.latchFor_pcie (s : State) (e : Ev) (ri : Nat) : (s.latchFor e ri).pcie = s.pcie := by unfold State.latchFor State.latchAs; split <;> rfl
@[simp] theorem State.latchFor_own (s : State) (e : Ev) (ri : Nat) : (s.latchFor e ri).own = s.own := by unfold State.latchFor State.latchAs; split <;> rfl
@[simp] theorem State.latchFor_sampled (s : State) (e : Ev) (ri : Nat) : (s.latchFor e ri).sampled = s.sampled := by unfold State.latchFor State.latchAs; split <;> rfl
@[simp] theorem State.latchFor_tunnel (s : State) (e : Ev) (ri : Nat) : (s.latchFor e ri).tunnel = s.tunnel := by unfold State.latchFor State.latchAs; split <;> rfl
@[simp] theorem State.latchFor_spiQuad (s : State) (e : Ev) (ri : Nat) : (s.latchFor e ri).spiQuad = s.spiQuad := by unfold State.latchFor State.latchAs; split <;> rfl
@[simp] theorem State.latchFor_snd (s : State) (e : Ev) (ri : Nat) : (s.latchFor e ri).snd = s.snd := by unfold State.latchFor State.latchAs; split <;> rfl
@[simp] theorem State.latchFor_ddr (s : State) (e : Ev) (ri : Nat) : (s.latchFor e ri).ddr = s.ddr := by unfold State.latchFor State.latchAs; split <;> rfl
@[simp] theorem State.latchFor_snapFixed (s : State) (e : Ev) (ri : Nat) : (s.latchFor e ri).snapFixed = s.snapFixed := by unfold State.latchFor State.latchAs; split <;> rfl
@[simp] theorem State.latchFor_chainHeld (s : State) (e : Ev) (ri : Nat) : (s.latchFor e ri).chainHeld = s.chainHeld := by unfold State.latchFor State.latchAs; split <;> rfl
@[simp] theorem State.latchFor_snapAt (s : State) (e : Ev) (ri : Nat) : (s.latchFor e ri).snapAt = s.snapAt := by unfold State.latchFor State.latchAs; split <;> rfl
@[simp] theorem State.latchFor_snapped (s : State) (e : Ev) (ri : Nat) : (s.latchFor e ri).snapped = s.snapped := by unfold State.latchFor State.latchAs; split <;> rfl
@[simp] theorem State.latchFor_clear (s : State) (e : Ev) (ri : Nat) : (s.latchFor e ri).clear = s.clear := by unfold State.latchFor State.latchAs; split <;> rfl
@[simp] theorem State.latchFor_archive (s : State) (e : Ev) (ri : Nat) : (s.latchFor e ri).archive = s.archive := by unfold State.latchFor State.latchAs; split <;> rfl
@[simp] theorem State.latchFor_pegs (s : State) (e : Ev) (ri : Nat) : (s.latchFor e ri).pegs = s.pegs := by unfold State.latchFor State.latchAs; split <;> rfl
@[simp] theorem State.latchFor_tally (s : State) (e : Ev) (ri : Nat) : (s.latchFor e ri).tally = s.tally := by unfold State.latchFor State.latchAs; split <;> rfl
@[simp] theorem State.latchFor_tallyQ (s : State) (e : Ev) (ri : Nat) : (s.latchFor e ri).tallyQ = s.tallyQ := by unfold State.latchFor State.latchAs; split <;> rfl
@[simp] theorem State.latchFor_tallySecond (s : State) (e : Ev) (ri : Nat) : (s.latchFor e ri).tallySecond = s.tallySecond := by unfold State.latchFor State.latchAs; split <;> rfl
@[simp] theorem State.latchFor_tallyLost (s : State) (e : Ev) (ri : Nat) : (s.latchFor e ri).tallyLost = s.tallyLost := by unfold State.latchFor State.latchAs; split <;> rfl
@[simp] theorem State.latchFor_sist (s : State) (e : Ev) (ri : Nat) : (s.latchFor e ri).sist = s.sist := by unfold State.latchFor State.latchAs; split <;> rfl
@[simp] theorem State.latchFor_guarding (s : State) (e : Ev) (ri : Nat) : (s.latchFor e ri).guarding = s.guarding := by unfold State.latchFor State.latchAs; split <;> rfl
@[simp] theorem State.latchFor_tallyRaw (s : State) (e : Ev) (ri : Nat) : (s.latchFor e ri).tallyRaw = s.tallyRaw := by unfold State.latchFor State.latchAs; split <;> rfl
@[simp] theorem State.latchFor_mfld (s : State) (e : Ev) (ri : Nat) (g : Fld) (k j : Nat) : (s.latchFor e ri).mfld g k j = s.mfld g k j := by unfold State.latchFor State.latchAs; split <;> rfl
@[simp] theorem State.latchFor_lane (s : State) (e : Ev) (ri : Nat) (k : Nat) : (s.latchFor e ri).lane k = s.lane k := by unfold State.latchFor State.latchAs; split <;> rfl
@[simp] theorem State.latchFor_byte (s : State) (e : Ev) (ri : Nat) (c : Nat) : (s.latchFor e ri).byte c = s.byte c := by unfold State.latchFor State.latchAs; split <;> rfl

/-! ### State.updLane -/

@[simp] theorem State.updLane_pending (s : State) (n : Nat) (f : LaneSt → LaneSt) : (s.updLane n f).pending = s.pending := rfl
@[simp] theorem State.updLane_regs (s : State) (n : Nat) (f : LaneSt → LaneSt) : (s.updLane n f).regs = s.regs := rfl
@[simp] theorem State.updLane_staged (s : State) (n : Nat) (f : LaneSt → LaneSt) : (s.updLane n f).staged = s.staged := rfl
@[simp] theorem State.updLane_perMaster (s : State) (n : Nat) (f : LaneSt → LaneSt) : (s.updLane n f).perMaster = s.perMaster := rfl
@[simp] theorem State.updLane_latHigh (s : State) (n : Nat) (f : LaneSt → LaneSt) : (s.updLane n f).latHigh = s.latHigh := rfl
@[simp] theorem State.updLane_heldLow (s : State) (n : Nat) (f : LaneSt → LaneSt) : (s.updLane n f).heldLow = s.heldLow := rfl
@[simp] theorem State.updLane_frameCycle (s : State) (n : Nat) (f : LaneSt → LaneSt) : (s.updLane n f).frameCycle = s.frameCycle := rfl
@[simp] theorem State.updLane_cycle (s : State) (n : Nat) (f : LaneSt → LaneSt) : (s.updLane n f).cycle = s.cycle := rfl
@[simp] theorem State.updLane_free (s : State) (n : Nat) (f : LaneSt → LaneSt) : (s.updLane n f).free = s.free := rfl
@[simp] theorem State.updLane_resp (s : State) (n : Nat) (f : LaneSt → LaneSt) : (s.updLane n f).resp = s.resp := rfl
@[simp] theorem State.updLane_ringQ (s : State) (n : Nat) (f : LaneSt → LaneSt) : (s.updLane n f).ringQ = s.ringQ := rfl
@[simp] theorem State.updLane_logQ (s : State) (n : Nat) (f : LaneSt → LaneSt) : (s.updLane n f).logQ = s.logQ := rfl
@[simp] theorem State.updLane_mem (s : State) (n : Nat) (f : LaneSt → LaneSt) : (s.updLane n f).mem = s.mem := rfl
@[simp] theorem State.updLane_sill (s : State) (n : Nat) (f : LaneSt → LaneSt) : (s.updLane n f).sill = s.sill := rfl
@[simp] theorem State.updLane_sched (s : State) (n : Nat) (f : LaneSt → LaneSt) : (s.updLane n f).sched = s.sched := rfl
@[simp] theorem State.updLane_tap (s : State) (n : Nat) (f : LaneSt → LaneSt) : (s.updLane n f).tap = s.tap := rfl
@[simp] theorem State.updLane_longMem (s : State) (n : Nat) (f : LaneSt → LaneSt) : (s.updLane n f).longMem = s.longMem := rfl
@[simp] theorem State.updLane_retPages (s : State) (n : Nat) (f : LaneSt → LaneSt) : (s.updLane n f).retPages = s.retPages := rfl
@[simp] theorem State.updLane_plate (s : State) (n : Nat) (f : LaneSt → LaneSt) : (s.updLane n f).plate = s.plate := rfl
@[simp] theorem State.updLane_links (s : State) (n : Nat) (f : LaneSt → LaneSt) : (s.updLane n f).links = s.links := rfl
@[simp] theorem State.updLane_actions (s : State) (n : Nat) (f : LaneSt → LaneSt) : (s.updLane n f).actions = s.actions := rfl
@[simp] theorem State.updLane_pauses (s : State) (n : Nat) (f : LaneSt → LaneSt) : (s.updLane n f).pauses = s.pauses := rfl
@[simp] theorem State.updLane_mdlyHeld (s : State) (n : Nat) (f : LaneSt → LaneSt) : (s.updLane n f).mdlyHeld = s.mdlyHeld := rfl
@[simp] theorem State.updLane_chg (s : State) (n : Nat) (f : LaneSt → LaneSt) : (s.updLane n f).chg = s.chg := rfl
@[simp] theorem State.updLane_queued (s : State) (n : Nat) (f : LaneSt → LaneSt) : (s.updLane n f).queued = s.queued := rfl
@[simp] theorem State.updLane_scnTrig (s : State) (n : Nat) (f : LaneSt → LaneSt) : (s.updLane n f).scnTrig = s.scnTrig := rfl
@[simp] theorem State.updLane_scnQ (s : State) (n : Nat) (f : LaneSt → LaneSt) : (s.updLane n f).scnQ = s.scnQ := rfl
@[simp] theorem State.updLane_mrecHeld (s : State) (n : Nat) (f : LaneSt → LaneSt) : (s.updLane n f).mrecHeld = s.mrecHeld := rfl
@[simp] theorem State.updLane_sides (s : State) (n : Nat) (f : LaneSt → LaneSt) : (s.updLane n f).sides = s.sides := rfl
@[simp] theorem State.updLane_groups (s : State) (n : Nat) (f : LaneSt → LaneSt) : (s.updLane n f).groups = s.groups := rfl
@[simp] theorem State.updLane_plumb (s : State) (n : Nat) (f : LaneSt → LaneSt) : (s.updLane n f).plumb = s.plumb := rfl
@[simp] theorem State.updLane_mate (s : State) (n : Nat) (f : LaneSt → LaneSt) : (s.updLane n f).mate = s.mate := rfl
@[simp] theorem State.updLane_fuses (s : State) (n : Nat) (f : LaneSt → LaneSt) : (s.updLane n f).fuses = s.fuses := rfl
@[simp] theorem State.updLane_raise (s : State) (n : Nat) (f : LaneSt → LaneSt) : (s.updLane n f).raise = s.raise := rfl
@[simp] theorem State.updLane_pcie (s : State) (n : Nat) (f : LaneSt → LaneSt) : (s.updLane n f).pcie = s.pcie := rfl
@[simp] theorem State.updLane_own (s : State) (n : Nat) (f : LaneSt → LaneSt) : (s.updLane n f).own = s.own := rfl
@[simp] theorem State.updLane_sampled (s : State) (n : Nat) (f : LaneSt → LaneSt) : (s.updLane n f).sampled = s.sampled := rfl
@[simp] theorem State.updLane_tunnel (s : State) (n : Nat) (f : LaneSt → LaneSt) : (s.updLane n f).tunnel = s.tunnel := rfl
@[simp] theorem State.updLane_spiQuad (s : State) (n : Nat) (f : LaneSt → LaneSt) : (s.updLane n f).spiQuad = s.spiQuad := rfl
@[simp] theorem State.updLane_snd (s : State) (n : Nat) (f : LaneSt → LaneSt) : (s.updLane n f).snd = s.snd := rfl
@[simp] theorem State.updLane_ddr (s : State) (n : Nat) (f : LaneSt → LaneSt) : (s.updLane n f).ddr = s.ddr := rfl
@[simp] theorem State.updLane_snapFixed (s : State) (n : Nat) (f : LaneSt → LaneSt) : (s.updLane n f).snapFixed = s.snapFixed := rfl
@[simp] theorem State.updLane_chainHeld (s : State) (n : Nat) (f : LaneSt → LaneSt) : (s.updLane n f).chainHeld = s.chainHeld := rfl
@[simp] theorem State.updLane_snapAt (s : State) (n : Nat) (f : LaneSt → LaneSt) : (s.updLane n f).snapAt = s.snapAt := rfl
@[simp] theorem State.updLane_snapped (s : State) (n : Nat) (f : LaneSt → LaneSt) : (s.updLane n f).snapped = s.snapped := rfl
@[simp] theorem State.updLane_clear (s : State) (n : Nat) (f : LaneSt → LaneSt) : (s.updLane n f).clear = s.clear := rfl
@[simp] theorem State.updLane_archive (s : State) (n : Nat) (f : LaneSt → LaneSt) : (s.updLane n f).archive = s.archive := rfl
@[simp] theorem State.updLane_pegs (s : State) (n : Nat) (f : LaneSt → LaneSt) : (s.updLane n f).pegs = s.pegs := rfl
@[simp] theorem State.updLane_tally (s : State) (n : Nat) (f : LaneSt → LaneSt) : (s.updLane n f).tally = s.tally := rfl
@[simp] theorem State.updLane_tallyQ (s : State) (n : Nat) (f : LaneSt → LaneSt) : (s.updLane n f).tallyQ = s.tallyQ := rfl
@[simp] theorem State.updLane_tallySecond (s : State) (n : Nat) (f : LaneSt → LaneSt) : (s.updLane n f).tallySecond = s.tallySecond := rfl
@[simp] theorem State.updLane_tallyLost (s : State) (n : Nat) (f : LaneSt → LaneSt) : (s.updLane n f).tallyLost = s.tallyLost := rfl
@[simp] theorem State.updLane_sist (s : State) (n : Nat) (f : LaneSt → LaneSt) : (s.updLane n f).sist = s.sist := rfl
@[simp] theorem State.updLane_guarding (s : State) (n : Nat) (f : LaneSt → LaneSt) : (s.updLane n f).guarding = s.guarding := rfl
@[simp] theorem State.updLane_tallyRaw (s : State) (n : Nat) (f : LaneSt → LaneSt) : (s.updLane n f).tallyRaw = s.tallyRaw := rfl
@[simp] theorem State.updLane_fld (s : State) (n : Nat) (f : LaneSt → LaneSt) (g : Fld) (k : Nat) : (s.updLane n f).fld g k = s.fld g k := rfl
@[simp] theorem State.updLane_flag (s : State) (n : Nat) (f : LaneSt → LaneSt) (g : Fld) (k : Nat) : (s.updLane n f).flag g k = s.flag g k := rfl
@[simp] theorem State.updLane_stg (s : State) (n : Nat) (f : LaneSt → LaneSt) (g : Fld) (k : Nat) : (s.updLane n f).stg g k = s.stg g k := rfl
@[simp] theorem State.updLane_mfld (s : State) (n : Nat) (f : LaneSt → LaneSt) (g : Fld) (k j : Nat) : (s.updLane n f).mfld g k j = s.mfld g k j := rfl
@[simp] theorem State.updLane_latched (s : State) (n : Nat) (f : LaneSt → LaneSt) (ev : Ev) (k : Nat) : (s.updLane n f).latched ev k = s.latched ev k := rfl
@[simp] theorem State.updLane_frame (s : State) (n : Nat) (f : LaneSt → LaneSt) : (s.updLane n f).frame = s.frame := rfl
@[simp] theorem State.updLane_byte (s : State) (n : Nat) (f : LaneSt → LaneSt) (c : Nat) : (s.updLane n f).byte c = s.byte c := rfl

end Sys2Proof.Machine
end

