-- ==== Sys2Proof/Laws/Effects.lean ====
section
/-! SUPPORT. What the shared operations do to what claims read: register fields after other fields are written, latched events, the hidden state of
a lane; and the fields that a loose property fixes. -/

set_option Elab.async false

namespace Sys2Proof.Machine

/-! ### Register fields -/

/-- A field depends on the registers alone. -/
theorem State.fld_of_regs {s t : State} (h : t.regs = s.regs) (f : Fld) (i : Nat) : t.fld f i = s.fld f i := by
  unfold State.fld
  rw [h]

@[simp] theorem State.flag_setFlag_self (s : State) (f : Fld) (i : Nat) (b : Bool) (h : 0 < f.width) :
    (s.setFlag f i b).flag f i = b := by
  unfold State.flag State.setFlag
  rw [State.fld_setFld_self]
  have h1 : b2n b ≤ 1 := by cases b <;> decide
  have h2 : 1 < 2 ^ f.width := Nat.one_lt_two_pow (by omega)
  rw [Nat.mod_eq_of_lt (Nat.lt_of_le_of_lt h1 h2)]
  cases b <;> rfl

theorem State.fld_setFlag_ne (s : State) {f g : Fld} (i j : Nat) (b : Bool) (h : g.id ≠ f.id) :
    (s.setFlag f i b).fld g j = s.fld g j := State.fld_setFld_ne s i j _ h

theorem State.flag_setFld_ne (s : State) {f g : Fld} (i j v : Nat) (h : g.id ≠ f.id) : (s.setFld f i v).flag g j = s.flag g j := by
  unfold State.flag
  rw [State.fld_setFld_ne s i j v h]

theorem State.flag_setFlag_ne (s : State) {f g : Fld} (i j : Nat) (b : Bool) (h : g.id ≠ f.id) :
    (s.setFlag f i b).flag g j = s.flag g j := State.flag_setFld_ne s i j _ h

@[simp] theorem State.fld_setLane (s : State) (n : Nat) (l : LaneSt) (f : Fld) (i : Nat) : (s.setLane n l).fld f i = s.fld f i := rfl

@[simp] theorem State.fld_updLane (s : State) (n : Nat) (u : LaneSt → LaneSt) (f : Fld) (i : Nat) :
    (s.updLane n u).fld f i = s.fld f i := rfl

@[simp] theorem State.fld_answer (s : State) (st : Status) (ws : List Nat) (f : Fld) (i : Nat) : (s.answer st ws).fld f i = s.fld f i := rfl

@[simp] theorem State.fld_drawn (s : State) (f : Fld) (i : Nat) : s.drawn.fld f i = s.fld f i := rfl

@[simp] theorem State.lane_setLane_self (s : State) (n : Nat) (l : LaneSt) : (s.setLane n l).lane n = l := by
  unfold State.lane State.setLane
  simp

@[simp] theorem State.lane_updLane_self (s : State) (n : Nat) (u : LaneSt → LaneSt) : (s.updLane n u).lane n = u (s.lane n) := by
  unfold State.updLane
  simp

@[simp] theorem State.lane_setFld (s : State) (f : Fld) (i v n : Nat) : (s.setFld f i v).lane n = s.lane n := rfl

@[simp] theorem State.lane_setFlag (s : State) (f : Fld) (i : Nat) (b : Bool) (n : Nat) : (s.setFlag f i b).lane n = s.lane n := rfl

/-! ### Events -/

/-- Latching touches the event's register and the two queues alone. -/
theorem State.fld_latchAs_ne (s : State) (e : Ev) (i ri data : Nat) {f : Fld} (j : Nat) (h : f.id ≠ e.reg.id) :
    (s.latchAs e i ri data).fld f j = s.fld f j := by
  unfold State.latchAs
  split
  · rfl
  · exact State.fld_setFld_ne s i j _ h

theorem State.fld_latch_ne (s : State) (e : Ev) (i : Nat) {f : Fld} (j : Nat) (h : f.id ≠ e.reg.id) :
    (s.latch e i).fld f j = s.fld f j := State.fld_latchAs_ne s e i _ _ j h

theorem State.fld_latchIf_ne (s : State) (b : Bool) (e : Ev) (i : Nat) {f : Fld} (j : Nat) (h : f.id ≠ e.reg.id) :
    (s.latchIf b e i).fld f j = s.fld f j := by
  unfold State.latchIf
  split
  · exact State.fld_latch_ne s e i j h
  · rfl

theorem testBit_orBit_self (v k : Nat) : (orBit v k).testBit k = true := by
  unfold orBit
  split
  · assumption
  · next h =>
    have h := Bool.eq_false_iff.mpr h
    rw [Nat.add_comm, Nat.testBit_two_pow_add_eq, h]
    rfl

/-- A latched event is latched. -/
theorem State.latched_latchAs (s : State) (e : Ev) (i ri data : Nat) (h : e.bit < e.reg.width) :
    (s.latchAs e i ri data).latched e i = true := by
  unfold State.latchAs
  split
  · assumption
  · show (State.fld (s.setFld e.reg i (orBit (s.fld e.reg i) e.bit)) e.reg i).testBit e.bit = true
    rw [State.fld_setFld_self, Nat.testBit_mod_two_pow, testBit_orBit_self]
    simp [h]

@[simp] theorem State.latched_latch (s : State) (e : Ev) (i : Nat) (h : e.bit < e.reg.width) : (s.latch e i).latched e i = true :=
  State.latched_latchAs s e i _ _ h

@[simp] theorem State.lane_latchAs (s : State) (e : Ev) (i ri data n : Nat) : (s.latchAs e i ri data).lane n = s.lane n := by
  unfold State.latchAs
  split <;> rfl

@[simp] theorem State.lane_latch (s : State) (e : Ev) (i n : Nat) : (s.latch e i).lane n = s.lane n := State.lane_latchAs s e i _ _ n

/-- A new event waits for the log with its record, and for the rings where its enable is 1 (R396, R397). -/
theorem State.logQ_latchAs (s : State) (e : Ev) (i ri data : Nat) (h : s.latched e i = false) :
    (s.latchAs e i ri data).logQ = s.logQ ++ [s.evRec e ri data] := by
  unfold State.latchAs
  rw [h]
  rfl

/-! ### Fields that an operation does not name -/

variable {m : Nat}

/-- The value of a field that the mask does not name is loose: an operation whose footprint does not name the field keeps it. -/
theorem loose_fld {f : Fld} {i v : Nat} (h : regOk m f.id = false) : Loose m (fun t => t.fld f i = v) where
  upd hk hg := by
    show State.fld _ f i = v
    unfold State.fld
    rw [hg.regs f.id h]
    exact hk
  setByte _ _ hk _ _ := hk
  area _ _ _ hk _ _ _ := hk
  bank _ _ hk _ _ := hk
  clear _ _ hk _ _ := hk
  zero _ _ _ hk _ _ := hk
  secure _ _ hk := hk
  rekey _ _ _ hk := hk
  blow _ _ hk _ := hk
  fresh h60 h63 _ _ _ _ _ _ _ _ _ _ := by
    have := (regOk_false h).1
    rw [h60, h63] at this
    cases this

end Sys2Proof.Machine
end

