-- ==== Sys2Proof/Laws/Unchanged.lean ====
section
/-! SUPPORT. What each shared operation leaves: a register field that its mask does not name reads as before, and so does the hidden state of a lane
where the mask does not name the lanes. For simp with a discharger that decides. -/

set_option Elab.async false

namespace Sys2Proof.Machine

variable {m : Nat}

/-- A part that the mask does not name is loose. -/
theorem loose_part (s0 : State) (x : Part) (h : m.testBit x.bit = false) (h60 : m.testBit 60 = false)
    (hm : x = .mem → ∀ k ∈ [56, 57, 58, 59, 61, 62], m.testBit k = false) :
    Loose m (fun t => Part.same s0 t x) where
  upd {s t} hk hg := by
    cases x with
    | staged => exact (hg.staged h).trans hk
    | perMaster => exact (hg.perMaster h).trans hk
    | latHigh => exact (hg.latHigh h).trans hk
    | heldLow => exact (hg.heldLow h).trans hk
    | frameCycle => exact (hg.frameCycle h).trans hk
    | cycle => exact (hg.cycle h).trans hk
    | free => exact (hg.free h).trans hk
    | resp => exact (hg.resp h).trans hk
    | ringQ => exact (hg.ringQ h).trans hk
    | logQ => exact (hg.logQ h).trans hk
    | mem => exact (hg.mem).trans hk
    | lanes => exact (hg.lanes h).trans hk
    | sill => exact (hg.sill h).trans hk
    | sched => exact (hg.sched h).trans hk
    | tap => exact (hg.tap h).trans hk
    | longMem => exact (hg.longMem h).trans hk
    | retPages => exact (hg.retPages h).trans hk
    | plate => exact (hg.plate h).trans hk
    | links => exact (hg.links h).trans hk
    | actions => exact (hg.actions h).trans hk
    | pauses => exact (hg.pauses h).trans hk
    | mdlyHeld => exact (hg.mdlyHeld h).trans hk
    | chg => exact (hg.chg h).trans hk
    | queued => exact (hg.queued h).trans hk
    | scnTrig => exact (hg.scnTrig h).trans hk
    | scnQ => exact (hg.scnQ h).trans hk
    | mrecHeld => exact (hg.mrecHeld h).trans hk
    | sides => exact (hg.sides h).trans hk
    | groups => exact (hg.groups h).trans hk
    | plumb => exact (hg.plumb h).trans hk
    | mate => exact (hg.mate h).trans hk
    | fuses => exact (hg.fuses).trans hk
    | raise => exact (hg.raise h).trans hk
    | pcie => exact (hg.pcie h).trans hk
    | own => exact (hg.own h).trans hk
    | sampled => exact (hg.sampled h).trans hk
    | tunnel => exact (hg.tunnel h).trans hk
    | spiQuad => exact (hg.spiQuad h).trans hk
    | snd => exact (hg.snd h).trans hk
    | ddr => exact (hg.ddr h).trans hk
    | snapFixed => exact (hg.snapFixed h).trans hk
    | chainHeld => exact (hg.chainHeld h).trans hk
    | snapAt => exact (hg.snapAt h).trans hk
    | snapped => exact (hg.snapped h).trans hk
    | clear => exact (hg.clear h).trans hk
    | archive => exact (hg.archive h).trans hk
    | pegs => exact (hg.pegs h).trans hk
    | tally => exact (hg.tally h).trans hk
    | tallyQ => exact (hg.tallyQ h).trans hk
    | tallySecond => exact (hg.tallySecond h).trans hk
    | tallyLost => exact (hg.tallyLost h).trans hk
    | sist => exact (hg.sist h).trans hk
    | guarding => exact (hg.guarding h).trans hk
    | tallyRaw => exact (hg.tallyRaw h).trans hk
  setByte h1 _ hk _ _ := by
    cases x <;> first | exact hk | exact absurd h1 (Bool.eq_false_iff.mp h)
  area k hk _ h _ _ ha := by
    cases x <;> first | exact h | exact absurd hk (Bool.eq_false_iff.mp (hm rfl k (area_bits ha)))
  bank h1 _ hk _ _ := by
    cases x <;> first | exact hk | exact absurd h1 (Bool.eq_false_iff.mp (hm rfl 59 (by decide)))
  clear h1 _ hk _ _ := by
    cases x <;> first | exact hk | exact absurd h1 (Bool.eq_false_iff.mp h)
  zero h1 h2 _ hk _ _ := by
    cases x <;> first | exact hk | exact absurd h1 (Bool.eq_false_iff.mp h) | exact absurd h2 (Bool.eq_false_iff.mp h)
  secure h1 _ hk := by
    cases x <;> first | exact hk | exact absurd h1 (Bool.eq_false_iff.mp (hm rfl 62 (by decide)))
  rekey h1 h2 _ hk := by
    cases x <;> first | exact hk | exact absurd h1 (Bool.eq_false_iff.mp (hm rfl 62 (by decide))) | exact absurd h2 (Bool.eq_false_iff.mp h)
  blow h1 _ hk _ := by
    cases x <;> first | exact hk | exact absurd h1 (Bool.eq_false_iff.mp h)
  fresh h1 _ _ _ _ _ _ _ _ _ _ _ := absurd h1 (Bool.eq_false_iff.mp h60)

/-- The hidden state of the lanes where the mask does not name it. -/
theorem loose_lane (s0 : State) (n : Nat) (h : m.testBit 13 = false) (h60 : m.testBit 60 = false) :
    Loose m (fun t => t.lane n = s0.lane n) where
  upd hk hg := by
    show State.lane _ n = _
    unfold State.lane
    rw [hg.lanes h]
    exact hk
  setByte _ _ hk _ _ := hk
  area _ _ _ hk _ _ _ := hk
  bank _ _ hk _ _ := hk
  clear _ _ hk _ _ := hk
  zero _ _ _ hk _ _ := hk
  secure _ _ hk := hk
  rekey _ _ _ hk := hk
  blow _ _ hk _ := hk
  fresh h1 _ _ _ _ _ _ _ _ _ _ _ := absurd h1 (Bool.eq_false_iff.mp h60)

@[simp] theorem State.fld_setMfld (s : State) (f : Fld) (i m v : Nat) {fq : Fld} (jx : Nat) (hf : regOk 0x8 fq.id = false) :
    (State.setMfld s f i m v).fld fq jx = s.fld fq jx := State.setMfld_k (loose_fld hf) rfl f i m v

@[simp] theorem State.lane_setMfld (s : State) (f : Fld) (i m v : Nat) (jx : Nat) : (State.setMfld s f i m v).lane jx = s.lane jx :=
  State.setMfld_k (loose_lane s jx (by decide) (by decide)) rfl f i m v

@[simp] theorem State.lane_drawn (s : State) (jx : Nat) : (State.drawn s).lane jx = s.lane jx :=
  State.drawn_k (loose_lane s jx (by decide) (by decide)) rfl

@[simp] theorem State.fld_writeBytes (s : State) (a : Nat) (l : List (BitVec 8)) {fq : Fld} (jx : Nat) (hf : regOk 0x1000 fq.id = false) :
    (State.writeBytes s a l).fld fq jx = s.fld fq jx := State.writeBytes_k (loose_fld hf) rfl a l

@[simp] theorem State.lane_writeBytes (s : State) (a : Nat) (l : List (BitVec 8)) (jx : Nat) : (State.writeBytes s a l).lane jx = s.lane jx :=
  State.writeBytes_k (loose_lane s jx (by decide) (by decide)) rfl a l

@[simp] theorem State.fld_writeLe (s : State) (a n v : Nat) {fq : Fld} (jx : Nat) (hf : regOk 0x1000 fq.id = false) :
    (State.writeLe s a n v).fld fq jx = s.fld fq jx := State.writeLe_k (loose_fld hf) rfl a n v

@[simp] theorem State.lane_writeLe (s : State) (a n v : Nat) (jx : Nat) : (State.writeLe s a n v).lane jx = s.lane jx :=
  State.writeLe_k (loose_lane s jx (by decide) (by decide)) rfl a n v

@[simp] theorem State.lane_answer (s : State) (st : Status) (ws : List Nat) (jx : Nat) : (State.answer s st ws).lane jx = s.lane jx :=
  State.answer_k (loose_lane s jx (by decide) (by decide)) rfl st ws

@[simp] theorem State.fld_recordErr (s : State) (m a target kind : Nat) {fq : Fld} (jx : Nat) (hf : regOk 0x1e000000000000000000000000000000000000000000000000000000000000000000000000000000000000000000000000000000000000000000000000000000000000000000000000000000000000 fq.id = false) :
    (State.recordErr s m a target kind).fld fq jx = s.fld fq jx := State.recordErr_k (loose_fld hf) rfl m a target kind

@[simp] theorem State.lane_recordErr (s : State) (m a target kind : Nat) (jx : Nat) : (State.recordErr s m a target kind).lane jx = s.lane jx :=
  State.recordErr_k (loose_lane s jx (by decide) (by decide)) rfl m a target kind

@[simp] theorem State.fld_defaultHit (s : State) (m a : Nat) {fq : Fld} (jx : Nat) (hf : regOk 0x1e400000000000000000000000000000000000000000000000000000000000000000000000000000000000000000000000000000000000000000000000000000000000000000000000000000000e00 fq.id = false) :
    (State.defaultHit s m a).fld fq jx = s.fld fq jx := State.defaultHit_k (loose_fld hf) rfl m a

@[simp] theorem State.lane_defaultHit (s : State) (m a : Nat) (jx : Nat) : (State.defaultHit s m a).lane jx = s.lane jx :=
  State.defaultHit_k (loose_lane s jx (by decide) (by decide)) rfl m a

@[simp] theorem State.fld_tallyAdd (s : State) (kind cls inst : Nat) (data : List Nat) {fq : Fld} (jx : Nat) (hf : regOk 0x4000000000000 fq.id = false) :
    (State.tallyAdd s kind cls inst data).fld fq jx = s.fld fq jx := State.tallyAdd_k (loose_fld hf) rfl kind cls inst data

@[simp] theorem State.lane_tallyAdd (s : State) (kind cls inst : Nat) (data : List Nat) (jx : Nat) : (State.tallyAdd s kind cls inst data).lane jx = s.lane jx :=
  State.tallyAdd_k (loose_lane s jx (by decide) (by decide)) rfl kind cls inst data

@[simp] theorem State.fld_updSist (s : State) (f : Sist → Sist) {fq : Fld} (jx : Nat) (hf : regOk 0x20000000000000 fq.id = false) :
    (State.updSist s f).fld fq jx = s.fld fq jx := State.updSist_k (loose_fld hf) rfl f

@[simp] theorem State.lane_updSist (s : State) (f : Sist → Sist) (jx : Nat) : (State.updSist s f).lane jx = s.lane jx :=
  State.updSist_k (loose_lane s jx (by decide) (by decide)) rfl f

@[simp] theorem State.fld_showBusy (s : State) {fq : Fld} (jx : Nat) (hf : regOk 0x2000000000000000000000000000000000000000000000000000000000000000000000000000000000000000000000000000000000000000000000000000000000000000000000000000000000000000000000000000000000000 fq.id = false) :
    (State.showBusy s).fld fq jx = s.fld fq jx := State.showBusy_k (loose_fld hf) rfl

@[simp] theorem State.lane_showBusy (s : State) (jx : Nat) : (State.showBusy s).lane jx = s.lane jx :=
  State.showBusy_k (loose_lane s jx (by decide) (by decide)) rfl

@[simp] theorem State.fld_needSubst (s : State) (cls inst : Nat) {fq : Fld} (jx : Nat) (hf : regOk 0x20000000000000000000000000000000000000000000000000000000000000000000000000000000000000000000000000000000000000000000000000000000000000000000000000000000000000000000000004000000000d00 fq.id = false) :
    (State.needSubst s cls inst).fld fq jx = s.fld fq jx := State.needSubst_k (loose_fld hf) rfl cls inst

@[simp] theorem State.lane_needSubst (s : State) (cls inst : Nat) (jx : Nat) : (State.needSubst s cls inst).lane jx = s.lane jx :=
  State.needSubst_k (loose_lane s jx (by decide) (by decide)) rfl cls inst

@[simp] theorem State.fld_substDoneAt (s : State) (cls inst spare f : Nat) {fq : Fld} (jx : Nat) (hf : regOk 0x22000000000000000000000000000000000000000000000000000000000000000000000000000000000000000000000000000000000000000000000000000000000000000000000000000000000000000000000004000000000c00 fq.id = false) :
    (State.substDoneAt s cls inst spare f).fld fq jx = s.fld fq jx := State.substDoneAt_k (loose_fld hf) rfl cls inst spare f

@[simp] theorem State.lane_substDoneAt (s : State) (cls inst spare f : Nat) (jx : Nat) : (State.substDoneAt s cls inst spare f).lane jx = s.lane jx :=
  State.substDoneAt_k (loose_lane s jx (by decide) (by decide)) rfl cls inst spare f

@[simp] theorem State.fld_substDone (s : State) (cls inst spare : Nat) {fq : Fld} (jx : Nat) (hf : regOk 0x22000000000000000000000000000000000000000000000000000000000000000000000000000000000000000000000000000000000000000000000000000000000000000000000000000000000000000000000004000000000c00 fq.id = false) :
    (State.substDone s cls inst spare).fld fq jx = s.fld fq jx := State.substDone_k (loose_fld hf) rfl cls inst spare

@[simp] theorem State.lane_substDone (s : State) (cls inst spare : Nat) (jx : Nat) : (State.substDone s cls inst spare).lane jx = s.lane jx :=
  State.substDone_k (loose_lane s jx (by decide) (by decide)) rfl cls inst spare

@[simp] theorem State.fld_exhausted (s : State) {fq : Fld} (jx : Nat) (hf : regOk 0x20000000000000000000000000000000000000000000000000000000000000000000000000000000000000000000000000000000000000000000000000000000000000000000000000000000000000000000000000000000000c00 fq.id = false) :
    (State.exhausted s).fld fq jx = s.fld fq jx := State.exhausted_k (loose_fld hf) rfl

@[simp] theorem State.lane_exhausted (s : State) (jx : Nat) : (State.exhausted s).lane jx = s.lane jx :=
  State.exhausted_k (loose_lane s jx (by decide) (by decide)) rfl

@[simp] theorem State.fld_lamTrigger (s : State) (k due : Nat) {fq : Fld} (jx : Nat) (hf : regOk 0x8220000000000000000000000000000000000000000000000000000000000004e9000000000000000000000000000000000000000000000000000024000000000000000000000000000000000000000000000000024000100000d04 fq.id = false) :
    (State.lamTrigger s k due).fld fq jx = s.fld fq jx := State.lamTrigger_k (loose_fld hf) rfl k due

@[simp] theorem State.lane_lamTrigger (s : State) (k due : Nat) (jx : Nat) : (State.lamTrigger s k due).lane jx = s.lane jx :=
  State.lamTrigger_k (loose_lane s jx (by decide) (by decide)) rfl k due

@[simp] theorem State.fld_evalLams (s : State) {fq : Fld} (jx : Nat) (hf : regOk 0x8220000000000000000000000000000000000000000000000000000000000004e9000000000000000000000000000000000000000000000000000024000000000000000000000000000000000000000000000000024000100000d04 fq.id = false) :
    (State.evalLams s).fld fq jx = s.fld fq jx := State.evalLams_k (loose_fld hf) rfl

@[simp] theorem State.lane_evalLams (s : State) (jx : Nat) : (State.evalLams s).lane jx = s.lane jx :=
  State.evalLams_k (loose_lane s jx (by decide) (by decide)) rfl

@[simp] theorem State.fld_setFec (s : State) (n : Nat) (f : FecSub) {fq : Fld} (jx : Nat) (hf : regOk 0x20000000000000 fq.id = false) :
    (State.setFec s n f).fld fq jx = s.fld fq jx := State.setFec_k (loose_fld hf) rfl n f

@[simp] theorem State.lane_setFec (s : State) (n : Nat) (f : FecSub) (jx : Nat) : (State.setFec s n f).lane jx = s.lane jx :=
  State.setFec_k (loose_lane s jx (by decide) (by decide)) rfl n f

@[simp] theorem State.fld_startFec (s : State) (n : Nat) {fq : Fld} (jx : Nat) (hf : regOk 0x2000000000000000000000000000000000000000000000000000000000000000000000000000000000000000000000000000000000000000000000000000000000000000000000000000000000000000000000020000000000000 fq.id = false) :
    (State.startFec s n).fld fq jx = s.fld fq jx := State.startFec_k (loose_fld hf) rfl n

@[simp] theorem State.lane_startFec (s : State) (n : Nat) (jx : Nat) : (State.startFec s n).lane jx = s.lane jx :=
  State.startFec_k (loose_lane s jx (by decide) (by decide)) rfl n

@[simp] theorem State.fld_callFec (s : State) (n : Nat) {fq : Fld} (jx : Nat) (hf : regOk 0x22000000000000000000000000000000000000000000000000000000000000000000000000000000000000000000000000000000000000000000000000000000000000000000000000000000000000000000000024000000000d00 fq.id = false) :
    (State.callFec s n).fld fq jx = s.fld fq jx := State.callFec_k (loose_fld hf) rfl n

@[simp] theorem State.lane_callFec (s : State) (n : Nat) (jx : Nat) : (State.callFec s n).lane jx = s.lane jx :=
  State.callFec_k (loose_lane s jx (by decide) (by decide)) rfl n

@[simp] theorem State.fld_fecTrigger (s : State) (n : Nat) {fq : Fld} (jx : Nat) (hf : regOk 0x22000000000000000000000000000000000000000000000000000000000000000000000000000000000000000000000000000000000000000000000000000000000000000000000000000000000000000000000024000000000d00 fq.id = false) :
    (State.fecTrigger s n).fld fq jx = s.fld fq jx := State.fecTrigger_k (loose_fld hf) rfl n

@[simp] theorem State.lane_fecTrigger (s : State) (n : Nat) (jx : Nat) : (State.fecTrigger s n).lane jx = s.lane jx :=
  State.fecTrigger_k (loose_lane s jx (by decide) (by decide)) rfl n

@[simp] theorem State.fld_fecRow (s : State) (n : Nat) {fq : Fld} (jx : Nat) (hf : regOk 0x20000000000000 fq.id = false) :
    (State.fecRow s n).fld fq jx = s.fld fq jx := State.fecRow_k (loose_fld hf) rfl n

@[simp] theorem State.lane_fecRow (s : State) (n : Nat) (jx : Nat) : (State.fecRow s n).lane jx = s.lane jx :=
  State.fecRow_k (loose_lane s jx (by decide) (by decide)) rfl n

@[simp] theorem State.fld_nextFec (s : State) {fq : Fld} (jx : Nat) (hf : regOk 0x22000000000000000000000000000000000000000000000000000000000000000000000000000000000000000000000000000000000000000000000000000000000000000000000000000000000000000000000024000000000d00 fq.id = false) :
    (State.nextFec s).fld fq jx = s.fld fq jx := State.nextFec_k (loose_fld hf) rfl

@[simp] theorem State.lane_nextFec (s : State) (jx : Nat) : (State.nextFec s).lane jx = s.lane jx :=
  State.nextFec_k (loose_lane s jx (by decide) (by decide)) rfl

@[simp] theorem State.fld_lsdBegins (s : State) (n : Nat) {fq : Fld} (jx : Nat) (hf : regOk 0x20000000000000 fq.id = false) :
    (State.lsdBegins s n).fld fq jx = s.fld fq jx := State.lsdBegins_k (loose_fld hf) rfl n

@[simp] theorem State.lane_lsdBegins (s : State) (n : Nat) (jx : Nat) : (State.lsdBegins s n).lane jx = s.lane jx :=
  State.lsdBegins_k (loose_lane s jx (by decide) (by decide)) rfl n

@[simp] theorem State.fld_lsdEnds (s : State) (n : Nat) {fq : Fld} (jx : Nat) (hf : regOk 0x20000000000000 fq.id = false) :
    (State.lsdEnds s n).fld fq jx = s.fld fq jx := State.lsdEnds_k (loose_fld hf) rfl n

@[simp] theorem State.lane_lsdEnds (s : State) (n : Nat) (jx : Nat) : (State.lsdEnds s n).lane jx = s.lane jx :=
  State.lsdEnds_k (loose_lane s jx (by decide) (by decide)) rfl n

@[simp] theorem State.fld_hardDefect (s : State) (n : Nat) {fq : Fld} (jx : Nat) (hf : regOk 0x20000000000000 fq.id = false) :
    (State.hardDefect s n).fld fq jx = s.fld fq jx := State.hardDefect_k (loose_fld hf) rfl n

@[simp] theorem State.lane_hardDefect (s : State) (n : Nat) (jx : Nat) : (State.hardDefect s n).lane jx = s.lane jx :=
  State.hardDefect_k (loose_lane s jx (by decide) (by decide)) rfl n

@[simp] theorem State.fld_bankAdd (s : State) (c n : Nat) {fq : Fld} (jx : Nat) (hf : regOk 0x200000000800000000000000000000000000000000000000000000000000000000000000000000000000000000000000000000000000000000000000000000000000000000000000000000000000000000000000000000000c00 fq.id = false) :
    (State.bankAdd s c n).fld fq jx = s.fld fq jx := State.bankAdd_k (loose_fld hf) rfl c n

@[simp] theorem State.lane_bankAdd (s : State) (c n : Nat) (jx : Nat) : (State.bankAdd s c n).lane jx = s.lane jx :=
  State.bankAdd_k (loose_lane s jx (by decide) (by decide)) rfl c n

@[simp] theorem State.fld_bankCount (s : State) (src i n : Nat) {fq : Fld} (jx : Nat) (hf : regOk 0x200000000800000000000000000000000000000000000000000000000000000000000000000000000000000000000000000000000000000000000000000000000000000000000000000000000000000000000000000000000c00 fq.id = false) :
    (State.bankCount s src i n).fld fq jx = s.fld fq jx := State.bankCount_k (loose_fld hf) rfl src i n

@[simp] theorem State.lane_bankCount (s : State) (src i n : Nat) (jx : Nat) : (State.bankCount s src i n).lane jx = s.lane jx :=
  State.bankCount_k (loose_lane s jx (by decide) (by decide)) rfl src i n

@[simp] theorem State.fld_refreshCa (s : State) (n : Nat) {fq : Fld} (jx : Nat) (hf : regOk 0x20000000000000000000000000000000002000 fq.id = false) :
    (State.refreshCa s n).fld fq jx = s.fld fq jx := State.refreshCa_k (loose_fld hf) rfl n

@[simp] theorem State.fld_rePrime (s : State) (n : Nat) {fq : Fld} (jx : Nat) (hf : regOk 0x8000000000000000000000000000000000000000000000000000000000000000000000000000000 fq.id = false) :
    (State.rePrime s n).fld fq jx = s.fld fq jx := State.rePrime_k (loose_fld hf) rfl n

@[simp] theorem State.lane_rePrime (s : State) (n : Nat) (jx : Nat) : (State.rePrime s n).lane jx = s.lane jx :=
  State.rePrime_k (loose_lane s jx (by decide) (by decide)) rfl n

@[simp] theorem State.fld_loopFallback (s : State) (n : Nat) {fq : Fld} (jx : Nat) (hf : regOk 0x3040000000000000000000002c00 fq.id = false) :
    (State.loopFallback s n).fld fq jx = s.fld fq jx := State.loopFallback_k (loose_fld hf) rfl n

@[simp] theorem State.fld_declare (s : State) (n : Nat) (d : Defect) {fq : Fld} (jx : Nat) (hf : regOk 0x9ffa0000000003040000000000020000000002c00 fq.id = false) :
    (State.declare s n d).fld fq jx = s.fld fq jx := State.declare_k (loose_fld hf) rfl n d

@[simp] theorem State.fld_undeclare (s : State) (n : Nat) (d : Defect) {fq : Fld} (jx : Nat) (hf : regOk 0x800000000000000000000000000000000000009ffa0000000000000000000000020000000002c00 fq.id = false) :
    (State.undeclare s n d).fld fq jx = s.fld fq jx := State.undeclare_k (loose_fld hf) rfl n d

@[simp] theorem State.fld_wipeDefects (s : State) (n : Nat) {fq : Fld} (jx : Nat) (hf : regOk 0x800000000000000000000000000000000000009ffa0000000003040000000000020000000002c00 fq.id = false) :
    (State.wipeDefects s n).fld fq jx = s.fld fq jx := State.wipeDefects_k (loose_fld hf) rfl n

@[simp] theorem State.fld_setTaps (s : State) (n : Nat) (ts : List Int) {fq : Fld} (jx : Nat) (hf : regOk 0xf8000000000000000000000000000 fq.id = false) :
    (State.setTaps s n ts).fld fq jx = s.fld fq jx := State.setTaps_k (loose_fld hf) rfl n ts

@[simp] theorem State.lane_setTaps (s : State) (n : Nat) (ts : List Int) (jx : Nat) : (State.setTaps s n ts).lane jx = s.lane jx :=
  State.setTaps_k (loose_lane s jx (by decide) (by decide)) rfl n ts

@[simp] theorem State.fld_sendMsg (s : State) (n typ : Nat) (payload : List Nat) {fq : Fld} (jx : Nat) (hf : regOk 0x2000 fq.id = false) :
    (State.sendMsg s n typ payload).fld fq jx = s.fld fq jx := State.sendMsg_k (loose_fld hf) rfl n typ payload

@[simp] theorem State.fld_releaseMsg (s : State) (n : Nat) {fq : Fld} (jx : Nat) (hf : regOk 0x2000 fq.id = false) :
    (State.releaseMsg s n).fld fq jx = s.fld fq jx := State.releaseMsg_k (loose_fld hf) rfl n

@[simp] theorem State.fld_sendAck (s : State) (n seq : Nat) {fq : Fld} (jx : Nat) (hf : regOk 0x2000 fq.id = false) :
    (State.sendAck s n seq).fld fq jx = s.fld fq jx := State.sendAck_k (loose_fld hf) rfl n seq

@[simp] theorem State.fld_maybeGo (s : State) (n : Nat) {fq : Fld} (jx : Nat) (hf : regOk 0x2000 fq.id = false) :
    (State.maybeGo s n).fld fq jx = s.fld fq jx := State.maybeGo_k (loose_fld hf) rfl n

@[simp] theorem State.fld_freeSpare (s : State) (n : Nat) {fq : Fld} (jx : Nat) (hf : regOk 0x400000000000000000000000000000000000000000000000000000000000000000000000000000000000000000000000000000000000000000000000000000000000000000000000001e00000000001000200000000000000002000 fq.id = false) :
    (State.freeSpare s n).fld fq jx = s.fld fq jx := State.freeSpare_k (loose_fld hf) rfl n

@[simp] theorem State.fld_spareLeaves (s : State) (n : Nat) {fq : Fld} (jx : Nat) (hf : regOk 0x400000000000000000000000000000000000000000000000000000000000000000000000000000000000000000000000000000000000000000000000000000000000000000000000001e00000000041000200000000000000002c00 fq.id = false) :
    (State.spareLeaves s n).fld fq jx = s.fld fq jx := State.spareLeaves_k (loose_fld hf) rfl n

@[simp] theorem State.fld_enterFit (s : State) (n st : Nat) {fq : Fld} (jx : Nat) (hf : regOk 0x200000000020000000002000 fq.id = false) :
    (State.enterFit s n st).fld fq jx = s.fld fq jx := State.enterFit_k (loose_fld hf) rfl n st

@[simp] theorem State.fld_quitService (s : State) (n : Nat) {fq : Fld} (jx : Nat) (hf : regOk 0x400000000000000000000000000000000000000000000000000000000000000000000000000000000000000000000000000000000000000000000000000000000000000000000000001e00000003041000200000000000000002c00 fq.id = false) :
    (State.quitService s n).fld fq jx = s.fld fq jx := State.quitService_k (loose_fld hf) rfl n

@[simp] theorem State.fld_dropAlign (s : State) (n : Nat) {fq : Fld} (jx : Nat) (hf : regOk 0x140000000080010000000000000001800000000000000002c00 fq.id = false) :
    (State.dropAlign s n).fld fq jx = s.fld fq jx := State.dropAlign_k (loose_fld hf) rfl n

@[simp] theorem State.fld_startAttempt (s : State) (n : Nat) {fq : Fld} (jx : Nat) (hf : regOk 0x40000000000000000000000000000000000000000000000000000000000000000000000000000000000000000000000000000000800000000000000000000000000014000000009ffb1e00090003041a01a00000020000000002c00 fq.id = false) :
    (State.startAttempt s n).fld fq jx = s.fld fq jx := State.startAttempt_k (loose_fld hf) rfl n

@[simp] theorem State.fld_failAttempt (s : State) (n : Nat) {fq : Fld} (jx : Nat) (hf : regOk 0x40000000000000000000000000000000000000000000000000000000000000000000000000000000000000000000000000000000000000000000000000000000000014000000009ffb1e00000003073201a00000020000000002c00 fq.id = false) :
    (State.failAttempt s n).fld fq jx = s.fld fq jx := State.failAttempt_k (loose_fld hf) rfl n

@[simp] theorem State.fld_disableLane (s : State) (n : Nat) {fq : Fld} (jx : Nat) (hf : regOk 0x40000000000000000000000000000000000000000000000000000000000000000000000000000000000000000000000000000000000000000000000000000000000014000000009ffb1e00000003041201a00000020000000002c00 fq.id = false) :
    (State.disableLane s n).fld fq jx = s.fld fq jx := State.disableLane_k (loose_fld hf) rfl n

@[simp] theorem State.fld_loopReturn (s : State) (n : Nat) {fq : Fld} (jx : Nat) (hf : regOk 0x3000000000000000000000002000 fq.id = false) :
    (State.loopReturn s n).fld fq jx = s.fld fq jx := State.loopReturn_k (loose_fld hf) rfl n

@[simp] theorem State.fld_tickLane (s : State) (n : Nat) {fq : Fld} (jx : Nat) (hf : regOk 0x400000000000000000000000000000000000000000000000000000000000000000000000000000000000000000000000000000000000000000000000000000000000000000000000001e00000002001000200000000000000002000 fq.id = false) :
    (State.tickLane s n).fld fq jx = s.fld fq jx := State.tickLane_k (loose_fld hf) rfl n

@[simp] theorem State.fld_updTally (s : State) (f : Tally → Tally) {fq : Fld} (jx : Nat) (hf : regOk 0x2000000000000 fq.id = false) :
    (State.updTally s f).fld fq jx = s.fld fq jx := State.updTally_k (loose_fld hf) rfl f

@[simp] theorem State.lane_updTally (s : State) (f : Tally → Tally) (jx : Nat) : (State.updTally s f).lane jx = s.lane jx :=
  State.updTally_k (loose_lane s jx (by decide) (by decide)) rfl f

@[simp] theorem State.fld_logWrite (s : State) (r : TallyRec) {fq : Fld} (jx : Nat) (hf : regOk 0xa000000000000 fq.id = false) :
    (State.logWrite s r).fld fq jx = s.fld fq jx := State.logWrite_k (loose_fld hf) rfl r

@[simp] theorem State.lane_logWrite (s : State) (r : TallyRec) (jx : Nat) : (State.logWrite s r).lane jx = s.lane jx :=
  State.logWrite_k (loose_lane s jx (by decide) (by decide)) rfl r

@[simp] theorem State.fld_writeTally (s : State) {fq : Fld} (jx : Nat) (hf : regOk 0x2000000000000000000000000000000000000000000000000000000000000000000000000000000000000000000000000000000000000000000000000000000000000000000000000000000000000000000000001e000000000c00 fq.id = false) :
    (State.writeTally s).fld fq jx = s.fld fq jx := State.writeTally_k (loose_fld hf) rfl

@[simp] theorem State.lane_writeTally (s : State) (jx : Nat) : (State.writeTally s).lane jx = s.lane jx :=
  State.writeTally_k (loose_lane s jx (by decide) (by decide)) rfl

@[simp] theorem State.fld_drainTally (s : State) {fq : Fld} (jx : Nat) (hf : regOk 0x2000000000000000000000000000000000000000000000000000000000000000000000000000000000000000000000000000000000000000000000000000000000000000000000000000000000000000000000001e000000000c00 fq.id = false) :
    (State.drainTally s).fld fq jx = s.fld fq jx := State.drainTally_k (loose_fld hf) rfl

@[simp] theorem State.lane_drainTally (s : State) (jx : Nat) : (State.drainTally s).lane jx = s.lane jx :=
  State.drainTally_k (loose_lane s jx (by decide) (by decide)) rfl

@[simp] theorem State.fld_tickTally (s : State) {fq : Fld} (jx : Nat) (hf : regOk 0xa000000000000 fq.id = false) :
    (State.tickTally s).fld fq jx = s.fld fq jx := State.tickTally_k (loose_fld hf) rfl

@[simp] theorem State.lane_tickTally (s : State) (jx : Nat) : (State.tickTally s).lane jx = s.lane jx :=
  State.tickTally_k (loose_lane s jx (by decide) (by decide)) rfl

@[simp] theorem State.fld_setBoot (s : State) (pref trial : Nat) {fq : Fld} (jx : Nat) (hf : regOk 0x2000000000000 fq.id = false) :
    (State.setBoot s pref trial).fld fq jx = s.fld fq jx := State.setBoot_k (loose_fld hf) rfl pref trial

@[simp] theorem State.lane_setBoot (s : State) (pref trial : Nat) (jx : Nat) : (State.setBoot s pref trial).lane jx = s.lane jx :=
  State.setBoot_k (loose_lane s jx (by decide) (by decide)) rfl pref trial

@[simp] theorem State.fld_writeBlock (s : State) (a : AgeSample) {fq : Fld} (jx : Nat) (hf : regOk 0x2000000000000 fq.id = false) :
    (State.writeBlock s a).fld fq jx = s.fld fq jx := State.writeBlock_k (loose_fld hf) rfl a

@[simp] theorem State.fld_countMargins (s : State) (a : AgeSample) {fq : Fld} (jx : Nat) (hf : regOk 0x20000000000000 fq.id = false) :
    (State.countMargins s a).fld fq jx = s.fld fq jx := State.countMargins_k (loose_fld hf) rfl a

@[simp] theorem State.lane_countMargins (s : State) (a : AgeSample) (jx : Nat) : (State.countMargins s a).lane jx = s.lane jx :=
  State.countMargins_k (loose_lane s jx (by decide) (by decide)) rfl a

@[simp] theorem State.fld_adaptSettle (s : State) (n : Nat) {fq : Fld} (jx : Nat) (hf : regOk 0x3f00000000000000000000000000100 fq.id = false) :
    (State.adaptSettle s n).fld fq jx = s.fld fq jx := State.adaptSettle_k (loose_fld hf) rfl n

@[simp] theorem State.lane_adaptSettle (s : State) (n : Nat) (jx : Nat) : (State.adaptSettle s n).lane jx = s.lane jx :=
  State.adaptSettle_k (loose_lane s jx (by decide) (by decide)) rfl n

@[simp] theorem State.fld_enterService (s : State) (n : Nat) {fq : Fld} (jx : Nat) (hf : regOk 0x20000000003070200000000020000400002c00 fq.id = false) :
    (State.enterService s n).fld fq jx = s.fld fq jx := State.enterService_k (loose_fld hf) rfl n

@[simp] theorem State.fld_coefRequest (s : State) (n tap req preset : Nat) {fq : Fld} (jx : Nat) (hf : regOk 0x2000 fq.id = false) :
    (State.coefRequest s n tap req preset).fld fq jx = s.fld fq jx := State.coefRequest_k (loose_fld hf) rfl n tap req preset

@[simp] theorem State.fld_respond (s : State) (n trq : Nat) {fq : Fld} (jx : Nat) (hf : regOk 0x2000 fq.id = false) :
    (State.respond s n trq).fld fq jx = s.fld fq jx := State.respond_k (loose_fld hf) rfl n trq

@[simp] theorem State.fld_request (s : State) (n tst : Nat) {fq : Fld} (jx : Nat) (hf : regOk 0x2100 fq.id = false) :
    (State.request s n tst).fld fq jx = s.fld fq jx := State.request_k (loose_fld hf) rfl n tst

@[simp] theorem State.fld_fitCtrlEffect (s : State) (n : Nat) (was : Bool) (w : Nat) {fq : Fld} (jx : Nat) (hf : regOk 0x40000000000000000000000000000000000000000000000000000000000000000000000000000000000000000000000000000000800000000000000000000000000014000000009ffb1e00090003061a01a00000020000000002c00 fq.id = false) :
    (State.fitCtrlEffect s n was w).fld fq jx = s.fld fq jx := State.fitCtrlEffect_k (loose_fld hf) rfl n was w

@[simp] theorem State.fld_txCfgEffect (s : State) (n w : Nat) {fq : Fld} (jx : Nat) (hf : regOk 0x3000000000000000000000002000 fq.id = false) :
    (State.txCfgEffect s n w).fld fq jx = s.fld fq jx := State.txCfgEffect_k (loose_fld hf) rfl n w

@[simp] theorem State.fld_startShadow (s : State) (n x : Nat) {fq : Fld} (jx : Nat) (hf : regOk 0x400000000000000000000000000000000000000000000000000000000000000000000000000000000000000000000000000000000000000000000000000000000000000000000000000600000000000000000000000000000006000 fq.id = false) :
    (State.startShadow s n x).fld fq jx = s.fld fq jx := State.startShadow_k (loose_fld hf) rfl n x

@[simp] theorem State.fld_acked (s : State) (n : Nat) (msg : FitMsg) {fq : Fld} (jx : Nat) (hf : regOk 0x40000000000000000000000000000000000000000000000000000000000000000000000000000000000000000000000000000000000000000000000000000000000014000000009ffb1e00000003041201a00000020000000006c00 fq.id = false) :
    (State.acked s n msg).fld fq jx = s.fld fq jx := State.acked_k (loose_fld hf) rfl n msg

@[simp] theorem State.fld_loadKnownGood (s : State) (n : Nat) {fq : Fld} (jx : Nat) (hf : regOk 0x3f00000000000000000000000000000 fq.id = false) :
    (State.loadKnownGood s n).fld fq jx = s.fld fq jx := State.loadKnownGood_k (loose_fld hf) rfl n

@[simp] theorem State.lane_loadKnownGood (s : State) (n : Nat) (jx : Nat) : (State.loadKnownGood s n).lane jx = s.lane jx :=
  State.loadKnownGood_k (loose_lane s jx (by decide) (by decide)) rfl n

@[simp] theorem State.fld_adapt (s : State) (n : Nat) {fq : Fld} (jx : Nat) (hf : regOk 0x3f00000000000000000000000002100 fq.id = false) :
    (State.adapt s n).fld fq jx = s.fld fq jx := State.adapt_k (loose_fld hf) rfl n

@[simp] theorem State.fld_spareCtrlEffect (s : State) (n w : Nat) {fq : Fld} (jx : Nat) (hf : regOk 0x2000 fq.id = false) :
    (State.spareCtrlEffect s n w).fld fq jx = s.fld fq jx := State.spareCtrlEffect_k (loose_fld hf) rfl n w

@[simp] theorem State.fld_setSillPage (s : State) (n page : Nat) (p : SillPage) {fq : Fld} (jx : Nat) (hf : regOk 0x4000 fq.id = false) :
    (State.setSillPage s n page p).fld fq jx = s.fld fq jx := State.setSillPage_k (loose_fld hf) rfl n page p

@[simp] theorem State.lane_setSillPage (s : State) (n page : Nat) (p : SillPage) (jx : Nat) : (State.setSillPage s n page p).lane jx = s.lane jx :=
  State.setSillPage_k (loose_lane s jx (by decide) (by decide)) rfl n page p

@[simp] theorem State.fld_countIn (s : State) (n : Nat) (ws : List Nat) {fq : Fld} (jx : Nat) (hf : regOk 0x200000000800000000000000000000000000000000000000000000000000000000000000000000000000000000000000000000000000000000000000000000000000000000000000000000000000000000000000000000000c00 fq.id = false) :
    (State.countIn s n ws).fld fq jx = s.fld fq jx := State.countIn_k (loose_fld hf) rfl n ws

@[simp] theorem State.lane_countIn (s : State) (n : Nat) (ws : List Nat) (jx : Nat) : (State.countIn s n ws).lane jx = s.lane jx :=
  State.countIn_k (loose_lane s jx (by decide) (by decide)) rfl n ws

@[simp] theorem State.fld_writeSill (s : State) (n r : Nat) (bad : List Bool) (data : List Nat) {fq : Fld} (jx : Nat) (hf : regOk 0x200000000800000000000000000000000000000000000000000000000000000000000000000000000000000000000000000000000000000000000000000000000000000000000000000000000000000000000000000000004c00 fq.id = false) :
    (State.writeSill s n r bad data).fld fq jx = s.fld fq jx := State.writeSill_k (loose_fld hf) rfl n r bad data

@[simp] theorem State.lane_writeSill (s : State) (n r : Nat) (bad : List Bool) (data : List Nat) (jx : Nat) : (State.writeSill s n r bad data).lane jx = s.lane jx :=
  State.writeSill_k (loose_lane s jx (by decide) (by decide)) rfl n r bad data

@[simp] theorem State.fld_receiveRow (s : State) (n r : Nat) (line : List Nat) {fq : Fld} (jx : Nat) (hf : regOk 0x40020000000080000000000001e40000000000000000000000000001e0000000c000000000000000000000000000000000000000800000000000000000000000000137d60260009ffb1f0f890003041a01a00002020000100006f00 fq.id = false) :
    (State.receiveRow s n r line).fld fq jx = s.fld fq jx := State.receiveRow_k (loose_fld hf) rfl n r line

@[simp] theorem State.fld_enterSync (s : State) (n : Nat) {fq : Fld} (jx : Nat) (hf : regOk 0x800000000000000000000000000000000000009ffb0000000000000000000000020000000002c00 fq.id = false) :
    (State.enterSync s n).fld fq jx = s.fld fq jx := State.enterSync_k (loose_fld hf) rfl n

@[simp] theorem State.fld_huntRow (s : State) (n t : Nat) (line : List Nat) {fq : Fld} (jx : Nat) (hf : regOk 0x800000000000000000000000000000000000009ffb0000000000000000000000020000000002c00 fq.id = false) :
    (State.huntRow s n t line).fld fq jx = s.fld fq jx := State.huntRow_k (loose_fld hf) rfl n t line

@[simp] theorem State.fld_endLid (s : State) (n : Nat) (a : FrameAcc) {fq : Fld} (jx : Nat) (hf : regOk 0x1c000000000000000000000000000000000000002000 fq.id = false) :
    (State.endLid s n a).fld fq jx = s.fld fq jx := State.endLid_k (loose_fld hf) rfl n a

@[simp] theorem State.fld_endStw (s : State) (n : Nat) (a : FrameAcc) {fq : Fld} (jx : Nat) (hf : regOk 0x960000000000000000000000000000000000000002000 fq.id = false) :
    (State.endStw s n a).fld fq jx = s.fld fq jx := State.endStw_k (loose_fld hf) rfl n a

@[simp] theorem State.fld_endVtwBew (s : State) (n : Nat) (a : FrameAcc) {fq : Fld} (jx : Nat) (hf : regOk 0x1fc000000000000000000000000000000000000000000000 fq.id = false) :
    (State.endVtwBew s n a).fld fq jx = s.fld fq jx := State.endVtwBew_k (loose_fld hf) rfl n a

@[simp] theorem State.lane_endVtwBew (s : State) (n : Nat) (a : FrameAcc) (jx : Nat) : (State.endVtwBew s n a).lane jx = s.lane jx :=
  State.endVtwBew_k (loose_lane s jx (by decide) (by decide)) rfl n a

@[simp] theorem State.fld_endCounts (s : State) (n : Nat) (a : FrameAcc) {fq : Fld} (jx : Nat) (hf : regOk 0x10000000000000000000000000002000 fq.id = false) :
    (State.endCounts s n a).fld fq jx = s.fld fq jx := State.endCounts_k (loose_fld hf) rfl n a

@[simp] theorem State.fld_endFrame (s : State) (n : Nat) {fq : Fld} (jx : Nat) (hf : regOk 0x1fc97c000000000010000000000000000000000000002000 fq.id = false) :
    (State.endFrame s n).fld fq jx = s.fld fq jx := State.endFrame_k (loose_fld hf) rfl n

@[simp] theorem State.fld_closeWindow (s : State) (n : Nat) {fq : Fld} (jx : Nat) (hf : regOk 0x2000 fq.id = false) :
    (State.closeWindow s n).fld fq jx = s.fld fq jx := State.closeWindow_k (loose_fld hf) rfl n

@[simp] theorem State.fld_takeFn (s : State) (n : Nat) (v : Option Nat) {fq : Fld} (jx : Nat) (hf : regOk 0x1000080000000000000000000000000000000000002c00 fq.id = false) :
    (State.takeFn s n v).fld fq jx = s.fld fq jx := State.takeFn_k (loose_fld hf) rfl n v

@[simp] theorem State.fld_takeGo (s : State) (n : Nat) {fq : Fld} (jx : Nat) (hf : regOk 0x2000 fq.id = false) :
    (State.takeGo s n).fld fq jx = s.fld fq jx := State.takeGo_k (loose_fld hf) rfl n

@[simp] theorem State.fld_slip (s : State) (n : Nat) {fq : Fld} (jx : Nat) (hf : regOk 0x2000000080000000000000000000000000000000000000c00 fq.id = false) :
    (State.slip s n).fld fq jx = s.fld fq jx := State.slip_k (loose_fld hf) rfl n

@[simp] theorem State.lane_slip (s : State) (n : Nat) (jx : Nat) : (State.slip s n).lane jx = s.lane jx :=
  State.slip_k (loose_lane s jx (by decide) (by decide)) rfl n

@[simp] theorem State.fld_takePhase (s : State) (n : Nat) (phi : Int) {fq : Fld} (jx : Nat) (hf : regOk 0x9ffa0000000003040001a00000020000000002c00 fq.id = false) :
    (State.takePhase s n phi).fld fq jx = s.fld fq jx := State.takePhase_k (loose_fld hf) rfl n phi

@[simp] theorem State.fld_assignPage (s : State) (n pg : Nat) {fq : Fld} (jx : Nat) (hf : regOk 0x2000000080000000000000000000000000000000000006c00 fq.id = false) :
    (State.assignPage s n pg).fld fq jx = s.fld fq jx := State.assignPage_k (loose_fld hf) rfl n pg

@[simp] theorem State.fld_loseSync (s : State) (n : Nat) {fq : Fld} (jx : Nat) (hf : regOk 0x14000000009ffb0000000003040001800000020000000002c00 fq.id = false) :
    (State.loseSync s n).fld fq jx = s.fld fq jx := State.loseSync_k (loose_fld hf) rfl n

@[simp] theorem State.fld_judgeFaw (s : State) (n : Nat) (bad : Bool) {fq : Fld} (jx : Nat) (hf : regOk 0x800000000000000000000000000000000000000000002000 fq.id = false) :
    (State.judgeFaw s n bad).fld fq jx = s.fld fq jx := State.judgeFaw_k (loose_fld hf) rfl n bad

@[simp] theorem State.fld_placeFrame (s : State) (n : Nat) (bad : Bool) (pg : Nat) (phi : Int) {fq : Fld} (jx : Nat) (hf : regOk 0x200000009ffa0000000003040001a00000020000000006c00 fq.id = false) :
    (State.placeFrame s n bad pg phi).fld fq jx = s.fld fq jx := State.placeFrame_k (loose_fld hf) rfl n bad pg phi

@[simp] theorem State.fld_receiveRow0 (s : State) (n : Nat) (line : List Nat) {fq : Fld} (jx : Nat) (hf : regOk 0x40020000000080000000000001e40000000000000000000000000001e0000000c000000000000000000000000000000000000000800000000000000000000000000137d60360009ffb1f0f890003041a01a00002020000100006f00 fq.id = false) :
    (State.receiveRow0 s n line).fld fq jx = s.fld fq jx := State.receiveRow0_k (loose_fld hf) rfl n line

@[simp] theorem State.fld_storeUnits (s : State) (units : List (List Nat)) {fq : Fld} (jx : Nat) (hf : regOk 0x100000100000000 fq.id = false) :
    (State.storeUnits s units).fld fq jx = s.fld fq jx := State.storeUnits_k (loose_fld hf) rfl units

@[simp] theorem State.lane_storeUnits (s : State) (units : List (List Nat)) (jx : Nat) : (State.storeUnits s units).lane jx = s.lane jx :=
  State.storeUnits_k (loose_lane s jx (by decide) (by decide)) rfl units

@[simp] theorem State.fld_countJournal (s : State) {fq : Fld} (jx : Nat) (hf : regOk 0x40000000000000000000000000000000000000000000000000000000000000000000000000000000000000000000000000000000000000000000000000000 fq.id = false) :
    (State.countJournal s).fld fq jx = s.fld fq jx := State.countJournal_k (loose_fld hf) rfl

@[simp] theorem State.lane_countJournal (s : State) (jx : Nat) : (State.countJournal s).lane jx = s.lane jx :=
  State.countJournal_k (loose_lane s jx (by decide) (by decide)) rfl

@[simp] theorem State.fld_journal (s : State) (kind frame cseq : Nat) (units : List (List Nat)) {fq : Fld} (jx : Nat) (hf : regOk 0xde000400000000000000000000000000000000000000000000000000000000000000000000000000000000000000000000000000000000100000100000c00 fq.id = false) :
    (State.journal s kind frame cseq units).fld fq jx = s.fld fq jx := State.journal_k (loose_fld hf) rfl kind frame cseq units

@[simp] theorem State.lane_journal (s : State) (kind frame cseq : Nat) (units : List (List Nat)) (jx : Nat) : (State.journal s kind frame cseq units).lane jx = s.lane jx :=
  State.journal_k (loose_lane s jx (by decide) (by decide)) rfl kind frame cseq units

@[simp] theorem State.fld_countDual (s : State) (n : Nat) {fq : Fld} (jx : Nat) (hf : regOk 0x100000000 fq.id = false) :
    (State.countDual s n).fld fq jx = s.fld fq jx := State.countDual_k (loose_fld hf) rfl n

@[simp] theorem State.lane_countDual (s : State) (n : Nat) (jx : Nat) : (State.countDual s n).lane jx = s.lane jx :=
  State.countDual_k (loose_lane s jx (by decide) (by decide)) rfl n

@[simp] theorem State.fld_updLink (s : State) (src : Nat) (f : Link → Link) {fq : Fld} (jx : Nat) (hf : regOk 0x100000 fq.id = false) :
    (State.updLink s src f).fld fq jx = s.fld fq jx := State.updLink_k (loose_fld hf) rfl src f

@[simp] theorem State.lane_updLink (s : State) (src : Nat) (f : Link → Link) (jx : Nat) : (State.updLink s src f).lane jx = s.lane jx :=
  State.updLink_k (loose_lane s jx (by decide) (by decide)) rfl src f

@[simp] theorem State.fld_markStale (s : State) (f : Nat) {fq : Fld} (jx : Nat) (hf : regOk 0x1000000 fq.id = false) :
    (State.markStale s f).fld fq jx = s.fld fq jx := State.markStale_k (loose_fld hf) rfl f

@[simp] theorem State.lane_markStale (s : State) (f : Nat) (jx : Nat) : (State.markStale s f).lane jx = s.lane jx :=
  State.markStale_k (loose_lane s jx (by decide) (by decide)) rfl f

@[simp] theorem State.fld_stampTaps (s : State) (old : Tab (Tab TapEnt)) {fq : Fld} (jx : Nat) (hf : regOk 0x30000 fq.id = false) :
    (State.stampTaps s old).fld fq jx = s.fld fq jx := State.stampTaps_k (loose_fld hf) rfl old

@[simp] theorem State.lane_stampTaps (s : State) (old : Tab (Tab TapEnt)) (jx : Nat) : (State.stampTaps s old).lane jx = s.lane jx :=
  State.stampTaps_k (loose_lane s jx (by decide) (by decide)) rfl old

@[simp] theorem State.fld_decideAction (s : State) (a0 : BentAction) {fq : Fld} (jx : Nat) (hf : regOk 0xde000400000000000000000000000000000000000000000000000000000000000000000000000000000000000000000000000000000000100000101230c00 fq.id = false) :
    (State.decideAction s a0).fld fq jx = s.fld fq jx := State.decideAction_k (loose_fld hf) rfl a0

@[simp] theorem State.lane_decideAction (s : State) (a0 : BentAction) (jx : Nat) : (State.decideAction s a0).lane jx = s.lane jx :=
  State.decideAction_k (loose_lane s jx (by decide) (by decide)) rfl a0

@[simp] theorem State.fld_decideSteps (s : State) (b p : Nat) (srcs : List Nat) (old : List (Nat × Nat)) {fq : Fld} (jx : Nat) (hf : regOk 0xde000400000000000000000000000000000000000000000000000000000000000080008000000000000000000000000000000000000000100000101330c00 fq.id = false) :
    (State.decideSteps s b p srcs old).fld fq jx = s.fld fq jx := State.decideSteps_k (loose_fld hf) rfl b p srcs old

@[simp] theorem State.lane_decideSteps (s : State) (b p : Nat) (srcs : List Nat) (old : List (Nat × Nat)) (jx : Nat) : (State.decideSteps s b p srcs old).lane jx = s.lane jx :=
  State.decideSteps_k (loose_lane s jx (by decide) (by decide)) rfl b p srcs old

@[simp] theorem State.fld_joinMember (s : State) (src : Nat) {fq : Fld} (jx : Nat) (hf : regOk 0x8000000000000000000000000000000000000000000000000100c00 fq.id = false) :
    (State.joinMember s src).fld fq jx = s.fld fq jx := State.joinMember_k (loose_fld hf) rfl src

@[simp] theorem State.lane_joinMember (s : State) (src : Nat) (jx : Nat) : (State.joinMember s src).lane jx = s.lane jx :=
  State.joinMember_k (loose_lane s jx (by decide) (by decide)) rfl src

@[simp] theorem State.fld_clearSide (s : State) (k : Nat) {fq : Fld} (jx : Nat) (hf : regOk 0x40000000000000000000000000000000000000000000000000000000000000000000000020000c00 fq.id = false) :
    (State.clearSide s k).fld fq jx = s.fld fq jx := State.clearSide_k (loose_fld hf) rfl k

@[simp] theorem State.lane_clearSide (s : State) (k : Nat) (jx : Nat) : (State.clearSide s k).lane jx = s.lane jx :=
  State.clearSide_k (loose_lane s jx (by decide) (by decide)) rfl k

@[simp] theorem State.fld_clearMoved (s : State) (p : Nat → Bool) (old new : Schedule) {fq : Fld} (jx : Nat) (hf : regOk 0x40000000000000000000000000000000000000000000000000000000000000000000000020000c00 fq.id = false) :
    (State.clearMoved s p old new).fld fq jx = s.fld fq jx := State.clearMoved_k (loose_fld hf) rfl p old new

@[simp] theorem State.lane_clearMoved (s : State) (p : Nat → Bool) (old new : Schedule) (jx : Nat) : (State.clearMoved s p old new).lane jx = s.lane jx :=
  State.clearMoved_k (loose_lane s jx (by decide) (by decide)) rfl p old new

@[simp] theorem State.fld_releaseTaps (s : State) (old new : Schedule) {fq : Fld} (jx : Nat) (hf : regOk 0x10000 fq.id = false) :
    (State.releaseTaps s old new).fld fq jx = s.fld fq jx := State.releaseTaps_k (loose_fld hf) rfl old new

@[simp] theorem State.lane_releaseTaps (s : State) (old new : Schedule) (jx : Nat) : (State.releaseTaps s old new).lane jx = s.lane jx :=
  State.releaseTaps_k (loose_lane s jx (by decide) (by decide)) rfl old new

@[simp] theorem State.fld_settleTaps (s : State) {fq : Fld} (jx : Nat) (hf : regOk 0x10000 fq.id = false) :
    (State.settleTaps s).fld fq jx = s.fld fq jx := State.settleTaps_k (loose_fld hf) rfl

@[simp] theorem State.lane_settleTaps (s : State) (jx : Nat) : (State.settleTaps s).lane jx = s.lane jx :=
  State.settleTaps_k (loose_lane s jx (by decide) (by decide)) rfl

@[simp] theorem State.fld_actionEvents (s : State) (a : BentAction) (g : Nat) (ret : Bool) {fq : Fld} (jx : Nat) (hf : regOk 0x100008000000000000000000000000000000000000000000000000400c00 fq.id = false) :
    (State.actionEvents s a g ret).fld fq jx = s.fld fq jx := State.actionEvents_k (loose_fld hf) rfl a g ret

@[simp] theorem State.lane_actionEvents (s : State) (a : BentAction) (g : Nat) (ret : Bool) (jx : Nat) : (State.actionEvents s a g ret).lane jx = s.lane jx :=
  State.actionEvents_k (loose_lane s jx (by decide) (by decide)) rfl a g ret

@[simp] theorem State.fld_takeAction (s : State) (a0 : BentAction) {fq : Fld} (jx : Nat) (hf : regOk 0x40000000000000000400100008000000000000000000000000000000000000000000000121738c00 fq.id = false) :
    (State.takeAction s a0).fld fq jx = s.fld fq jx := State.takeAction_k (loose_fld hf) rfl a0

@[simp] theorem State.lane_takeAction (s : State) (a0 : BentAction) (jx : Nat) : (State.takeAction s a0).lane jx = s.lane jx :=
  State.takeAction_k (loose_lane s jx (by decide) (by decide)) rfl a0

@[simp] theorem State.fld_checkBents (s : State) (n : Nat) {fq : Fld} (jx : Nat) (hf : regOk 0xde000400000000000000000000000000000000000000000000000000000000000080008000000000000000000000000000000000000000100000101330c00 fq.id = false) :
    (State.checkBents s n).fld fq jx = s.fld fq jx := State.checkBents_k (loose_fld hf) rfl n

@[simp] theorem State.lane_checkBents (s : State) (n : Nat) (jx : Nat) : (State.checkBents s n).lane jx = s.lane jx :=
  State.checkBents_k (loose_lane s jx (by decide) (by decide)) rfl n

@[simp] theorem State.fld_shadowLam (s : State) (k : Nat) {fq : Fld} (jx : Nat) (hf : regOk 0x49000000000000000000000000000000000000000000000000020000000000004 fq.id = false) :
    (State.shadowLam s k).fld fq jx = s.fld fq jx := State.shadowLam_k (loose_fld hf) rfl k

@[simp] theorem State.lane_shadowLam (s : State) (k : Nat) (jx : Nat) : (State.shadowLam s k).lane jx = s.lane jx :=
  State.shadowLam_k (loose_lane s jx (by decide) (by decide)) rfl k

@[simp] theorem State.fld_tickLamSubst (s : State) {fq : Fld} (jx : Nat) (hf : regOk 0x8220000000000000000000000000000000000000000000000000000000000004e900000000000000000000000000000000000000000000000000006d000000000000000000000000000000000000000000000000024000100000d04 fq.id = false) :
    (State.tickLamSubst s).fld fq jx = s.fld fq jx := State.tickLamSubst_k (loose_fld hf) rfl

@[simp] theorem State.lane_tickLamSubst (s : State) (jx : Nat) : (State.tickLamSubst s).lane jx = s.lane jx :=
  State.tickLamSubst_k (loose_lane s jx (by decide) (by decide)) rfl

@[simp] theorem State.fld_lamsIn (s : State) {fq : Fld} (jx : Nat) (hf : regOk 0x800000000000000000000000000000000000000000000000000000000000000000000000000000000000000000000000000000000000000000000010400000000000000000000000000000000000000000000000000000000000c00 fq.id = false) :
    (State.lamsIn s).fld fq jx = s.fld fq jx := State.lamsIn_k (loose_fld hf) rfl

@[simp] theorem State.lane_lamsIn (s : State) (jx : Nat) : (State.lamsIn s).lane jx = s.lane jx :=
  State.lamsIn_k (loose_lane s jx (by decide) (by decide)) rfl

@[simp] theorem State.fld_tickLam (s : State) {fq : Fld} (jx : Nat) (hf : regOk 0x48000000000000000000000000000000000000000000000000020000000000000 fq.id = false) :
    (State.tickLam s).fld fq jx = s.fld fq jx := State.tickLam_k (loose_fld hf) rfl

@[simp] theorem State.lane_tickLam (s : State) (jx : Nat) : (State.tickLam s).lane jx = s.lane jx :=
  State.tickLam_k (loose_lane s jx (by decide) (by decide)) rfl

@[simp] theorem State.fld_requestRetime (s : State) (b : Nat) {fq : Fld} (jx : Nat) (hf : regOk 0xde000400000000000000000000000000000000000000000000000000000000000000000000000000000000000000000000000000000000100000101230c00 fq.id = false) :
    (State.requestRetime s b).fld fq jx = s.fld fq jx := State.requestRetime_k (loose_fld hf) rfl b

@[simp] theorem State.lane_requestRetime (s : State) (b : Nat) (jx : Nat) : (State.requestRetime s b).lane jx = s.lane jx :=
  State.requestRetime_k (loose_lane s jx (by decide) (by decide)) rfl b

@[simp] theorem State.fld_updRaise (s : State) (f : Raise → Raise) {fq : Fld} (jx : Nat) (hf : regOk 0x400000000 fq.id = false) :
    (State.updRaise s f).fld fq jx = s.fld fq jx := State.updRaise_k (loose_fld hf) rfl f

@[simp] theorem State.lane_updRaise (s : State) (f : Raise → Raise) (jx : Nat) : (State.updRaise s f).lane jx = s.lane jx :=
  State.updRaise_k (loose_lane s jx (by decide) (by decide)) rfl f

@[simp] theorem State.fld_noteFail (s : State) (code sect rcode roff : Nat) {fq : Fld} (jx : Nat) (hf : regOk 0x3a000000000000000000000000000000000000000000000000000000000000000000000000000000000000000000000000000000000000000000000000000000000 fq.id = false) :
    (State.noteFail s code sect rcode roff).fld fq jx = s.fld fq jx := State.noteFail_k (loose_fld hf) rfl code sect rcode roff

@[simp] theorem State.lane_noteFail (s : State) (code sect rcode roff : Nat) (jx : Nat) : (State.noteFail s code sect rcode roff).lane jx = s.lane jx :=
  State.noteFail_k (loose_lane s jx (by decide) (by decide)) rfl code sect rcode roff

@[simp] theorem State.fld_tryRecovery (s : State) {fq : Fld} (jx : Nat) (hf : regOk 0x1000000000000000000000000000000000000000000000000000000000000000000000000000000000000000000000000000000000000000000000000000000000 fq.id = false) :
    (State.tryRecovery s).fld fq jx = s.fld fq jx := State.tryRecovery_k (loose_fld hf) rfl

@[simp] theorem State.lane_tryRecovery (s : State) (jx : Nat) : (State.tryRecovery s).lane jx = s.lane jx :=
  State.tryRecovery_k (loose_lane s jx (by decide) (by decide)) rfl

@[simp] theorem State.fld_haltRaise (s : State) (code sect rcode roff : Nat) {fq : Fld} (jx : Nat) (hf : regOk 0x3b800000000000000000000000000000000000000000000000000000000000000000000000000000000000000000000000000000000000000000000000000000000 fq.id = false) :
    (State.haltRaise s code sect rcode roff).fld fq jx = s.fld fq jx := State.haltRaise_k (loose_fld hf) rfl code sect rcode roff

@[simp] theorem State.lane_haltRaise (s : State) (code sect rcode roff : Nat) (jx : Nat) : (State.haltRaise s code sect rcode roff).lane jx = s.lane jx :=
  State.haltRaise_k (loose_lane s jx (by decide) (by decide)) rfl code sect rcode roff

@[simp] theorem State.fld_baseRefused (s : State) (code index : Nat) {fq : Fld} (jx : Nat) (hf : regOk 0x3b800000000000000000000000000000000000000000000000000000000000000000000000000000000000000000000000000000000000000000000000000000000 fq.id = false) :
    (State.baseRefused s code index).fld fq jx = s.fld fq jx := State.baseRefused_k (loose_fld hf) rfl code index

@[simp] theorem State.lane_baseRefused (s : State) (code index : Nat) (jx : Nat) : (State.baseRefused s code index).lane jx = s.lane jx :=
  State.baseRefused_k (loose_lane s jx (by decide) (by decide)) rfl code index

@[simp] theorem State.fld_enterGroup (s : State) (g st : Nat) {fq : Fld} (jx : Nat) (hf : regOk 0x502000000000000000000000000000000000000000000000000000000000000000000000000000000040000c00 fq.id = false) :
    (State.enterGroup s g st).fld fq jx = s.fld fq jx := State.enterGroup_k (loose_fld hf) rfl g st

@[simp] theorem State.lane_enterGroup (s : State) (g st : Nat) (jx : Nat) : (State.enterGroup s g st).lane jx = s.lane jx :=
  State.enterGroup_k (loose_lane s jx (by decide) (by decide)) rfl g st

@[simp] theorem State.fld_judgeSide (s : State) (g side copies bad : Nat) {fq : Fld} (jx : Nat) (hf : regOk 0x118008000000000000000000000000000000000000000000000000000000000000000000000000000040000c00 fq.id = false) :
    (State.judgeSide s g side copies bad).fld fq jx = s.fld fq jx := State.judgeSide_k (loose_fld hf) rfl g side copies bad

@[simp] theorem State.lane_judgeSide (s : State) (g side copies bad : Nat) (jx : Nat) : (State.judgeSide s g side copies bad).lane jx = s.lane jx :=
  State.judgeSide_k (loose_lane s jx (by decide) (by decide)) rfl g side copies bad

@[simp] theorem State.fld_evalWindow (s : State) (g : Nat) {fq : Fld} (jx : Nat) (hf : regOk 0x51a008000000000000000000000000000000000000000000000000000000000000000000000000000040000c00 fq.id = false) :
    (State.evalWindow s g).fld fq jx = s.fld fq jx := State.evalWindow_k (loose_fld hf) rfl g

@[simp] theorem State.lane_evalWindow (s : State) (g : Nat) (jx : Nat) : (State.evalWindow s g).lane jx = s.lane jx :=
  State.evalWindow_k (loose_lane s jx (by decide) (by decide)) rfl g

@[simp] theorem State.fld_countWindow (s : State) (g f : Nat) (w p : Nat × Nat) {fq : Fld} (jx : Nat) (hf : regOk 0x40000000 fq.id = false) :
    (State.countWindow s g f w p).fld fq jx = s.fld fq jx := State.countWindow_k (loose_fld hf) rfl g f w p

@[simp] theorem State.lane_countWindow (s : State) (g f : Nat) (w p : Nat × Nat) (jx : Nat) : (State.countWindow s g f w p).lane jx = s.lane jx :=
  State.countWindow_k (loose_lane s jx (by decide) (by decide)) rfl g f w p

@[simp] theorem State.fld_emptyGroup (s : State) (g : Nat) {fq : Fld} (jx : Nat) (hf : regOk 0x51a000000000000000000000000000000000000000000000000000000000000000000000000000000040000c00 fq.id = false) :
    (State.emptyGroup s g).fld fq jx = s.fld fq jx := State.emptyGroup_k (loose_fld hf) rfl g

@[simp] theorem State.lane_emptyGroup (s : State) (g : Nat) (jx : Nat) : (State.emptyGroup s g).lane jx = s.lane jx :=
  State.emptyGroup_k (loose_lane s jx (by decide) (by decide)) rfl g

@[simp] theorem State.fld_followGroups (s : State) (old new : Tab Route) {fq : Fld} (jx : Nat) (hf : regOk 0x51a000000000000000000000000000000000000000000000000000000000000000000000000000000040000c00 fq.id = false) :
    (State.followGroups s old new).fld fq jx = s.fld fq jx := State.followGroups_k (loose_fld hf) rfl old new

@[simp] theorem State.lane_followGroups (s : State) (old new : Tab Route) (jx : Nat) : (State.followGroups s old new).lane jx = s.lane jx :=
  State.followGroups_k (loose_lane s jx (by decide) (by decide)) rfl old new

@[simp] theorem State.fld_refuseCmd (s : State) {fq : Fld} (jx : Nat) (hf : regOk 0x2000000000000000000000000000000000000000000000000000000000000000000000c00 fq.id = false) :
    (State.refuseCmd s).fld fq jx = s.fld fq jx := State.refuseCmd_k (loose_fld hf) rfl

@[simp] theorem State.lane_refuseCmd (s : State) (jx : Nat) : (State.refuseCmd s).lane jx = s.lane jx :=
  State.refuseCmd_k (loose_lane s jx (by decide) (by decide)) rfl

@[simp] theorem State.fld_withdraw (s : State) (c : Change) {fq : Fld} (jx : Nat) (hf : regOk 0x10000 fq.id = false) :
    (State.withdraw s c).fld fq jx = s.fld fq jx := State.withdraw_k (loose_fld hf) rfl c

@[simp] theorem State.lane_withdraw (s : State) (c : Change) (jx : Nat) : (State.withdraw s c).lane jx = s.lane jx :=
  State.withdraw_k (loose_lane s jx (by decide) (by decide)) rfl c

@[simp] theorem State.fld_journalCancel (s : State) (c : Change) {fq : Fld} (jx : Nat) (hf : regOk 0xde000400000000000000000000000000000000000000000000000000000000000000000000000000000000000000000000000000000000100000100000c00 fq.id = false) :
    (State.journalCancel s c).fld fq jx = s.fld fq jx := State.journalCancel_k (loose_fld hf) rfl c

@[simp] theorem State.lane_journalCancel (s : State) (c : Change) (jx : Nat) : (State.journalCancel s c).lane jx = s.lane jx :=
  State.journalCancel_k (loose_lane s jx (by decide) (by decide)) rfl c

@[simp] theorem State.fld_freeScribe (s : State) {fq : Fld} (jx : Nat) (hf : regOk 0x1000000 fq.id = false) :
    (State.freeScribe s).fld fq jx = s.fld fq jx := State.freeScribe_k (loose_fld hf) rfl

@[simp] theorem State.lane_freeScribe (s : State) (jx : Nat) : (State.freeScribe s).lane jx = s.lane jx :=
  State.freeScribe_k (loose_lane s jx (by decide) (by decide)) rfl

@[simp] theorem State.fld_reportFail (s : State) (c : Change) (f : Failure) {fq : Fld} (jx : Nat) (hf : regOk 0x3b800000000000000000000000000000000000000000000000000190f22001000000000000000000000000000000000000000000000000000000000000000000c00 fq.id = false) :
    (State.reportFail s c f).fld fq jx = s.fld fq jx := State.reportFail_k (loose_fld hf) rfl c f

@[simp] theorem State.lane_reportFail (s : State) (c : Change) (f : Failure) (jx : Nat) : (State.reportFail s c f).lane jx = s.lane jx :=
  State.reportFail_k (loose_lane s jx (by decide) (by decide)) rfl c f

@[simp] theorem State.fld_failChange (s : State) (c : Change) (f : Failure) {fq : Fld} (jx : Nat) (hf : regOk 0x3b8000de000400000000000000000000000000000000000000000190f22001000000000000000000000000000000000000000000000000000000100000101110c00 fq.id = false) :
    (State.failChange s c f).fld fq jx = s.fld fq jx := State.failChange_k (loose_fld hf) rfl c f

@[simp] theorem State.lane_failChange (s : State) (c : Change) (f : Failure) (jx : Nat) : (State.failChange s c f).lane jx = s.lane jx :=
  State.failChange_k (loose_lane s jx (by decide) (by decide)) rfl c f

@[simp] theorem State.fld_queueList (s : State) (j : Nat) {fq : Fld} (jx : Nat) (hf : regOk 0xbe0000000000000000000000000000000000000000000000000000000000000000002000000 fq.id = false) :
    (State.queueList s j).fld fq jx = s.fld fq jx := State.queueList_k (loose_fld hf) rfl j

@[simp] theorem State.lane_queueList (s : State) (j : Nat) (jx : Nat) : (State.queueList s j).lane jx = s.lane jx :=
  State.queueList_k (loose_lane s jx (by decide) (by decide)) rfl j

@[simp] theorem State.fld_journalChange (s : State) (c : Change) {fq : Fld} (jx : Nat) (hf : regOk 0xde000400000000000000000000000000000000000000000000000000000000000000000000000000000000000000000000000000000000100000101000c00 fq.id = false) :
    (State.journalChange s c).fld fq jx = s.fld fq jx := State.journalChange_k (loose_fld hf) rfl c

@[simp] theorem State.lane_journalChange (s : State) (c : Change) (jx : Nat) : (State.journalChange s c).lane jx = s.lane jx :=
  State.journalChange_k (loose_lane s jx (by decide) (by decide)) rfl c

@[simp] theorem State.fld_showTick (s : State) (c : Change) {fq : Fld} (jx : Nat) (hf : regOk 0x1000000000000000000000000000000000000000000000000000000000000000000000000000 fq.id = false) :
    (State.showTick s c).fld fq jx = s.fld fq jx := State.showTick_k (loose_fld hf) rfl c

@[simp] theorem State.lane_showTick (s : State) (c : Change) (jx : Nat) : (State.showTick s c).lane jx = s.lane jx :=
  State.showTick_k (loose_lane s jx (by decide) (by decide)) rfl c

@[simp] theorem State.fld_fixFrame (s : State) (c : Change) {fq : Fld} (jx : Nat) (hf : regOk 0x3b8000de000400000000000000000000000000000000000000000191f22001000000000000000000000000000000000000000000000000000000100000101110c00 fq.id = false) :
    (State.fixFrame s c).fld fq jx = s.fld fq jx := State.fixFrame_k (loose_fld hf) rfl c

@[simp] theorem State.lane_fixFrame (s : State) (c : Change) (jx : Nat) : (State.fixFrame s c).lane jx = s.lane jx :=
  State.fixFrame_k (loose_lane s jx (by decide) (by decide)) rfl c

@[simp] theorem State.fld_acceptApply (s : State) (j : Nat) (asap : Bool) {fq : Fld} (jx : Nat) (hf : regOk 0x3b8000de000400000000000000000000000000000000000000000191fe2001000000000000000000000000000000000000000000000000000000100000103110c00 fq.id = false) :
    (State.acceptApply s j asap).fld fq jx = s.fld fq jx := State.acceptApply_k (loose_fld hf) rfl j asap

@[simp] theorem State.lane_acceptApply (s : State) (j : Nat) (asap : Bool) (jx : Nat) : (State.acceptApply s j asap).lane jx = s.lane jx :=
  State.acceptApply_k (loose_lane s jx (by decide) (by decide)) rfl j asap

@[simp] theorem State.fld_abortList (s : State) (j : Nat) {fq : Fld} (jx : Nat) (hf : regOk 0x3b8000de000400000000000000000000000000000000000000000190f22001000000000000000000000000000000000000000000000000000000100000103110c00 fq.id = false) :
    (State.abortList s j).fld fq jx = s.fld fq jx := State.abortList_k (loose_fld hf) rfl j

@[simp] theorem State.lane_abortList (s : State) (j : Nat) (jx : Nat) : (State.abortList s j).lane jx = s.lane jx :=
  State.abortList_k (loose_lane s jx (by decide) (by decide)) rfl j

@[simp] theorem State.fld_cutCommand (s : State) (w : Nat) {fq : Fld} (jx : Nat) (hf : regOk 0x3b8000de000400000000000000000000000000000000000000000191fe2001000000000000000000000000000000000000000000000000000000100000103110c00 fq.id = false) :
    (State.cutCommand s w).fld fq jx = s.fld fq jx := State.cutCommand_k (loose_fld hf) rfl w

@[simp] theorem State.lane_cutCommand (s : State) (w : Nat) (jx : Nat) : (State.cutCommand s w).lane jx = s.lane jx :=
  State.cutCommand_k (loose_lane s jx (by decide) (by decide)) rfl w

@[simp] theorem State.fld_showCompiling (s : State) (c : Change) {fq : Fld} (jx : Nat) (hf : regOk 0x18020001000000000000000000000000000000000000000000000000000000000000000000000 fq.id = false) :
    (State.showCompiling s c).fld fq jx = s.fld fq jx := State.showCompiling_k (loose_fld hf) rfl c

@[simp] theorem State.lane_showCompiling (s : State) (c : Change) (jx : Nat) : (State.showCompiling s c).lane jx = s.lane jx :=
  State.showCompiling_k (loose_lane s jx (by decide) (by decide)) rfl c

@[simp] theorem State.fld_startCompile (s : State) (c : Change) {fq : Fld} (jx : Nat) (hf : regOk 0x18020001000000000000000000000000000000000000000000000000000000000000001000000 fq.id = false) :
    (State.startCompile s c).fld fq jx = s.fld fq jx := State.startCompile_k (loose_fld hf) rfl c

@[simp] theorem State.lane_startCompile (s : State) (c : Change) (jx : Nat) : (State.startCompile s c).lane jx = s.lane jx :=
  State.startCompile_k (loose_lane s jx (by decide) (by decide)) rfl c

@[simp] theorem State.fld_showArmed (s : State) (c : Change) {fq : Fld} (jx : Nat) (hf : regOk 0x50022004000000000000000000000000000000000000000000000000000000000000000000c00 fq.id = false) :
    (State.showArmed s c).fld fq jx = s.fld fq jx := State.showArmed_k (loose_fld hf) rfl c

@[simp] theorem State.lane_showArmed (s : State) (c : Change) (jx : Nat) : (State.showArmed s c).lane jx = s.lane jx :=
  State.showArmed_k (loose_lane s jx (by decide) (by decide)) rfl c

@[simp] theorem State.fld_addPending (s : State) (c : Change) {fq : Fld} (jx : Nat) (hf : regOk 0x100000 fq.id = false) :
    (State.addPending s c).fld fq jx = s.fld fq jx := State.addPending_k (loose_fld hf) rfl c

@[simp] theorem State.lane_addPending (s : State) (c : Change) (jx : Nat) : (State.addPending s c).lane jx = s.lane jx :=
  State.addPending_k (loose_lane s jx (by decide) (by decide)) rfl c

@[simp] theorem State.fld_showApplying (s : State) (c : Change) {fq : Fld} (jx : Nat) (hf : regOk 0x10020003000000000000000000000000000000000000000000000000000000000000000000000 fq.id = false) :
    (State.showApplying s c).fld fq jx = s.fld fq jx := State.showApplying_k (loose_fld hf) rfl c

@[simp] theorem State.lane_showApplying (s : State) (c : Change) (jx : Nat) : (State.showApplying s c).lane jx = s.lane jx :=
  State.showApplying_k (loose_lane s jx (by decide) (by decide)) rfl c

@[simp] theorem State.fld_followMembers (s : State) (old : Schedule) (recs : List EditRec) {fq : Fld} (jx : Nat) (hf : regOk 0x8000000000000000000000000000000000000000000000000100c00 fq.id = false) :
    (State.followMembers s old recs).fld fq jx = s.fld fq jx := State.followMembers_k (loose_fld hf) rfl old recs

@[simp] theorem State.lane_followMembers (s : State) (old : Schedule) (recs : List EditRec) (jx : Nat) : (State.followMembers s old recs).lane jx = s.lane jx :=
  State.followMembers_k (loose_lane s jx (by decide) (by decide)) rfl old recs

@[simp] theorem State.fld_applyChunk (s : State) (c : Change) (k : Nat) {fq : Fld} (jx : Nat) (hf : regOk 0xde00040000000000000000000000000000051a000000040200000002000000400000008000000000000000000000000000000000000000100000161118c00 fq.id = false) :
    (State.applyChunk s c k).fld fq jx = s.fld fq jx := State.applyChunk_k (loose_fld hf) rfl c k

@[simp] theorem State.lane_applyChunk (s : State) (c : Change) (k : Nat) (jx : Nat) : (State.applyChunk s c k).lane jx = s.lane jx :=
  State.applyChunk_k (loose_lane s jx (by decide) (by decide)) rfl c k

@[simp] theorem State.fld_showDone (s : State) (c : Change) {fq : Fld} (jx : Nat) (hf : regOk 0x10022001200000000000000000000000000000000000000000000000000000000000400000c00 fq.id = false) :
    (State.showDone s c).fld fq jx = s.fld fq jx := State.showDone_k (loose_fld hf) rfl c

@[simp] theorem State.lane_showDone (s : State) (c : Change) (jx : Nat) : (State.showDone s c).lane jx = s.lane jx :=
  State.showDone_k (loose_lane s jx (by decide) (by decide)) rfl c

@[simp] theorem State.fld_sceneCommand (s : State) (w : Nat) {fq : Fld} (jx : Nat) (hf : regOk 0x2000000000000000000000000000000000000000000000000000000000000000004000c00 fq.id = false) :
    (State.sceneCommand s w).fld fq jx = s.fld fq jx := State.sceneCommand_k (loose_fld hf) rfl w

@[simp] theorem State.lane_sceneCommand (s : State) (w : Nat) (jx : Nat) : (State.sceneCommand s w).lane jx = s.lane jx :=
  State.sceneCommand_k (loose_lane s jx (by decide) (by decide)) rfl w

@[simp] theorem State.fld_startScene (s : State) {fq : Fld} (jx : Nat) (hf : regOk 0x3b800000000000000000000000000000000000000000000000000198f22001000000000000000000000000000000000000000000000000000000000000009000c00 fq.id = false) :
    (State.startScene s).fld fq jx = s.fld fq jx := State.startScene_k (loose_fld hf) rfl

@[simp] theorem State.lane_startScene (s : State) (jx : Nat) : (State.startScene s).lane jx = s.lane jx :=
  State.startScene_k (loose_lane s jx (by decide) (by decide)) rfl

@[simp] theorem State.fld_replaceCommand (s : State) {fq : Fld} (jx : Nat) (hf : regOk 0x2001000000000000000000000000000000000000000000000000000000000000002000c00 fq.id = false) :
    (State.replaceCommand s).fld fq jx = s.fld fq jx := State.replaceCommand_k (loose_fld hf) rfl

@[simp] theorem State.lane_replaceCommand (s : State) (jx : Nat) : (State.replaceCommand s).lane jx = s.lane jx :=
  State.replaceCommand_k (loose_lane s jx (by decide) (by decide)) rfl

@[simp] theorem State.fld_updPlumb (s : State) (f : Plumb → Plumb) {fq : Fld} (jx : Nat) (hf : regOk 0x80000000 fq.id = false) :
    (State.updPlumb s f).fld fq jx = s.fld fq jx := State.updPlumb_k (loose_fld hf) rfl f

@[simp] theorem State.lane_updPlumb (s : State) (f : Plumb → Plumb) (jx : Nat) : (State.updPlumb s f).lane jx = s.lane jx :=
  State.updPlumb_k (loose_lane s jx (by decide) (by decide)) rfl f

@[simp] theorem State.fld_updRef (s : State) (i : Nat) (f : RefSt → RefSt) {fq : Fld} (jx : Nat) (hf : regOk 0x80000000 fq.id = false) :
    (State.updRef s i f).fld fq jx = s.fld fq jx := State.updRef_k (loose_fld hf) rfl i f

@[simp] theorem State.lane_updRef (s : State) (i : Nat) (f : RefSt → RefSt) (jx : Nat) : (State.updRef s i f).lane jx = s.lane jx :=
  State.updRef_k (loose_lane s jx (by decide) (by decide)) rfl i f

@[simp] theorem State.fld_tickMref (s : State) {fq : Fld} (jx : Nat) (hf : regOk 0x380000000000000000000000000000000000000000000000000000000000000000000000000000000000000000000000080000100 fq.id = false) :
    (State.tickMref s).fld fq jx = s.fld fq jx := State.tickMref_k (loose_fld hf) rfl

@[simp] theorem State.lane_tickMref (s : State) (jx : Nat) : (State.tickMref s).lane jx = s.lane jx :=
  State.tickMref_k (loose_lane s jx (by decide) (by decide)) rfl

@[simp] theorem State.fld_showFreq (s : State) (i : Nat) (mon : RefMon) {fq : Fld} (jx : Nat) (hf : regOk 0x100000000000000000000000000000000000000000000000000000000000000000000000000000000000000000000000000000000000000 fq.id = false) :
    (State.showFreq s i mon).fld fq jx = s.fld fq jx := State.showFreq_k (loose_fld hf) rfl i mon

@[simp] theorem State.lane_showFreq (s : State) (i : Nat) (mon : RefMon) (jx : Nat) : (State.showFreq s i mon).lane jx = s.lane jx :=
  State.showFreq_k (loose_lane s jx (by decide) (by decide)) rfl i mon

@[simp] theorem State.fld_startWait (s : State) (i : Nat) {fq : Fld} (jx : Nat) (hf : regOk 0x80400000000000000000000000000000000000000000000000000000000000000000000000000000000000000000000000000080000000 fq.id = false) :
    (State.startWait s i).fld fq jx = s.fld fq jx := State.startWait_k (loose_fld hf) rfl i

@[simp] theorem State.lane_startWait (s : State) (i : Nat) (jx : Nat) : (State.startWait s i).lane jx = s.lane jx :=
  State.startWait_k (loose_lane s jx (by decide) (by decide)) rfl i

@[simp] theorem State.fld_disqualify (s : State) (i : Nat) {fq : Fld} (jx : Nat) (hf : regOk 0xa0400000000000000000000000000000000000000000000000000000000000000000000000000000000000000000000000000080000c00 fq.id = false) :
    (State.disqualify s i).fld fq jx = s.fld fq jx := State.disqualify_k (loose_fld hf) rfl i

@[simp] theorem State.lane_disqualify (s : State) (i : Nat) (jx : Nat) : (State.disqualify s i).lane jx = s.lane jx :=
  State.disqualify_k (loose_lane s jx (by decide) (by decide)) rfl i

@[simp] theorem State.fld_freshRef (s : State) (i : Nat) {fq : Fld} (jx : Nat) (hf : regOk 0x297c00000000000000000000000000000000000000000000000000000000000000000000000000000000000000000000000000080000000 fq.id = false) :
    (State.freshRef s i).fld fq jx = s.fld fq jx := State.freshRef_k (loose_fld hf) rfl i

@[simp] theorem State.lane_freshRef (s : State) (i : Nat) (jx : Nat) : (State.freshRef s i).lane jx = s.lane jx :=
  State.freshRef_k (loose_lane s jx (by decide) (by decide)) rfl i

@[simp] theorem State.fld_setCmd (s : State) (act ref : Nat) {fq : Fld} (jx : Nat) (hf : regOk 0x3000000000000000000000000000000000000000000000000000000000000000000000000000000000000000000000000 fq.id = false) :
    (State.setCmd s act ref).fld fq jx = s.fld fq jx := State.setCmd_k (loose_fld hf) rfl act ref

@[simp] theorem State.lane_setCmd (s : State) (act ref : Nat) (jx : Nat) : (State.setCmd s act ref).lane jx = s.lane jx :=
  State.setCmd_k (loose_lane s jx (by decide) (by decide)) rfl act ref

@[simp] theorem State.fld_applyCmd (s : State) (cmd ref : Nat) {fq : Fld} (jx : Nat) (hf : regOk 0xb000000000000000000000000000000000000000000000000000000000000000000000000000000000000000000000c00 fq.id = false) :
    (State.applyCmd s cmd ref).fld fq jx = s.fld fq jx := State.applyCmd_k (loose_fld hf) rfl cmd ref

@[simp] theorem State.lane_applyCmd (s : State) (cmd ref : Nat) (jx : Nat) : (State.applyCmd s cmd ref).lane jx = s.lane jx :=
  State.applyCmd_k (loose_lane s jx (by decide) (by decide)) rfl cmd ref

@[simp] theorem State.fld_cancelCmd (s : State) {fq : Fld} (jx : Nat) (hf : regOk 0xb000000000000000000000000000000000000000000000000000000000000000000000000000000000000000000000c00 fq.id = false) :
    (State.cancelCmd s).fld fq jx = s.fld fq jx := State.cancelCmd_k (loose_fld hf) rfl

@[simp] theorem State.lane_cancelCmd (s : State) (jx : Nat) : (State.cancelCmd s).lane jx = s.lane jx :=
  State.cancelCmd_k (loose_lane s jx (by decide) (by decide)) rfl

@[simp] theorem State.fld_tickCmd (s : State) {fq : Fld} (jx : Nat) (hf : regOk 0xb000000000000000000000000000000000000000000000000000000000000000000000000000000000000000080000c00 fq.id = false) :
    (State.tickCmd s).fld fq jx = s.fld fq jx := State.tickCmd_k (loose_fld hf) rfl

@[simp] theorem State.lane_tickCmd (s : State) (jx : Nat) : (State.tickCmd s).lane jx = s.lane jx :=
  State.tickCmd_k (loose_lane s jx (by decide) (by decide)) rfl

@[simp] theorem State.fld_enterPlb (s : State) (st sel : Nat) {fq : Fld} (jx : Nat) (hf : regOk 0x80b0000000000000000000000000000000000000000000000000000000000000000000000000000000000000080000c00 fq.id = false) :
    (State.enterPlb s st sel).fld fq jx = s.fld fq jx := State.enterPlb_k (loose_fld hf) rfl st sel

@[simp] theorem State.lane_enterPlb (s : State) (st sel : Nat) (jx : Nat) : (State.enterPlb s st sel).lane jx = s.lane jx :=
  State.enterPlb_k (loose_lane s jx (by decide) (by decide)) rfl st sel

@[simp] theorem State.fld_plbLose (s : State) {fq : Fld} (jx : Nat) (hf : regOk 0x80b0000000000000000000000000000000000000000000000000000000000000000000000000000000000000080000c00 fq.id = false) :
    (State.plbLose s).fld fq jx = s.fld fq jx := State.plbLose_k (loose_fld hf) rfl

@[simp] theorem State.lane_plbLose (s : State) (jx : Nat) : (State.plbLose s).lane jx = s.lane jx :=
  State.plbLose_k (loose_lane s jx (by decide) (by decide)) rfl

@[simp] theorem State.fld_tickSelect (s : State) {fq : Fld} (jx : Nat) (hf : regOk 0x297c004000000080b0000000000000000000000000000000000000000000000000000000000000000000000000000000000000480000d00 fq.id = false) :
    (State.tickSelect s).fld fq jx = s.fld fq jx := State.tickSelect_k (loose_fld hf) rfl

@[simp] theorem State.lane_tickSelect (s : State) (jx : Nat) : (State.tickSelect s).lane jx = s.lane jx :=
  State.tickSelect_k (loose_lane s jx (by decide) (by decide)) rfl

@[simp] theorem State.fld_tickQlOut (s : State) {fq : Fld} (jx : Nat) (hf : regOk 0x8800000000000000000000000000000000000000000000000000000000000000000000000000000000000000080000c00 fq.id = false) :
    (State.tickQlOut s).fld fq jx = s.fld fq jx := State.tickQlOut_k (loose_fld hf) rfl

@[simp] theorem State.lane_tickQlOut (s : State) (jx : Nat) : (State.tickQlOut s).lane jx = s.lane jx :=
  State.tickQlOut_k (loose_lane s jx (by decide) (by decide)) rfl

@[simp] theorem State.fld_tickQl (s : State) {fq : Fld} (jx : Nat) (hf : regOk 0x28000000000000000000000000000000000000000000000000000000000000000000000000000000000000000000000000000000000c00 fq.id = false) :
    (State.tickQl s).fld fq jx = s.fld fq jx := State.tickQl_k (loose_fld hf) rfl

@[simp] theorem State.lane_tickQl (s : State) (jx : Nat) : (State.tickQl s).lane jx = s.lane jx :=
  State.tickQl_k (loose_lane s jx (by decide) (by decide)) rfl

@[simp] theorem State.fld_tickRefs (s : State) {fq : Fld} (jx : Nat) (hf : regOk 0x90000000000000000000000000000000000000000000000000000000000000000000000000000000000000000000000000000080000000 fq.id = false) :
    (State.tickRefs s).fld fq jx = s.fld fq jx := State.tickRefs_k (loose_fld hf) rfl

@[simp] theorem State.lane_tickRefs (s : State) (jx : Nat) : (State.tickRefs s).lane jx = s.lane jx :=
  State.tickRefs_k (loose_lane s jx (by decide) (by decide)) rfl

@[simp] theorem State.fld_tickCoast (s : State) {fq : Fld} (jx : Nat) (hf : regOk 0x40000000000000000000000000000000000000000000000000000000000000000000000000000000000000080000000 fq.id = false) :
    (State.tickCoast s).fld fq jx = s.fld fq jx := State.tickCoast_k (loose_fld hf) rfl

@[simp] theorem State.lane_tickCoast (s : State) (jx : Nat) : (State.tickCoast s).lane jx = s.lane jx :=
  State.tickCoast_k (loose_lane s jx (by decide) (by decide)) rfl

@[simp] theorem State.fld_tickSlew (s : State) {fq : Fld} (jx : Nat) (hf : regOk 0x20000000000000000000000000000000000000000000000000000000000000000000000000000000000000000000000080000000 fq.id = false) :
    (State.tickSlew s).fld fq jx = s.fld fq jx := State.tickSlew_k (loose_fld hf) rfl

@[simp] theorem State.lane_tickSlew (s : State) (jx : Nat) : (State.tickSlew s).lane jx = s.lane jx :=
  State.tickSlew_k (loose_lane s jx (by decide) (by decide)) rfl

@[simp] theorem State.fld_tickHold (s : State) {fq : Fld} (jx : Nat) (hf : regOk 0x80000000 fq.id = false) :
    (State.tickHold s).fld fq jx = s.fld fq jx := State.tickHold_k (loose_fld hf) rfl

@[simp] theorem State.lane_tickHold (s : State) (jx : Nat) : (State.tickHold s).lane jx = s.lane jx :=
  State.tickHold_k (loose_lane s jx (by decide) (by decide)) rfl

@[simp] theorem State.fld_tickFpout (s : State) (k : Nat) {fq : Fld} (jx : Nat) (hf : regOk 0x2000000000000000000000000000000000000000000000000000000000000000000000000000000000000000000000000000000000080000000 fq.id = false) :
    (State.tickFpout s k).fld fq jx = s.fld fq jx := State.tickFpout_k (loose_fld hf) rfl k

@[simp] theorem State.lane_tickFpout (s : State) (k : Nat) (jx : Nat) : (State.tickFpout s k).lane jx = s.lane jx :=
  State.tickFpout_k (loose_lane s jx (by decide) (by decide)) rfl k

@[simp] theorem State.fld_tickPlumb (s : State) {fq : Fld} (jx : Nat) (hf : regOk 0x220000000000000000000000000000000000000000000000000000000000000000020002bfc007b840000b9f0000000000000000000000000000000000000000000000000000000000000000000000000000000004000480000d00 fq.id = false) :
    (State.tickPlumb s).fld fq jx = s.fld fq jx := State.tickPlumb_k (loose_fld hf) rfl

@[simp] theorem State.lane_tickPlumb (s : State) (jx : Nat) : (State.tickPlumb s).lane jx = s.lane jx :=
  State.tickPlumb_k (loose_lane s jx (by decide) (by decide)) rfl

@[simp] theorem State.fld_refCommitted (s : State) (i : Nat) (en : Bool) (toff : Int) (ql : Nat) {fq : Fld} (jx : Nat) (hf : regOk 0x297c00000000000000000000000000000000000000000000000000000000000000000000000000000000000000000000000000080000000 fq.id = false) :
    (State.refCommitted s i en toff ql).fld fq jx = s.fld fq jx := State.refCommitted_k (loose_fld hf) rfl i en toff ql

@[simp] theorem State.lane_refCommitted (s : State) (i : Nat) (en : Bool) (toff : Int) (ql : Nat) (jx : Nat) : (State.refCommitted s i en toff ql).lane jx = s.lane jx :=
  State.refCommitted_k (loose_lane s jx (by decide) (by decide)) rfl i en toff ql

@[simp] theorem State.fld_fpoutCommitted (s : State) (k : Nat) (old : Int) {fq : Fld} (jx : Nat) (hf : regOk 0x2000000000000000000000000000000000000000000000000000000000000000000000000000000000000000000000000000000000080000000 fq.id = false) :
    (State.fpoutCommitted s k old).fld fq jx = s.fld fq jx := State.fpoutCommitted_k (loose_fld hf) rfl k old

@[simp] theorem State.lane_fpoutCommitted (s : State) (k : Nat) (old : Int) (jx : Nat) : (State.fpoutCommitted s k old).lane jx = s.lane jx :=
  State.fpoutCommitted_k (loose_lane s jx (by decide) (by decide)) rfl k old

@[simp] theorem State.fld_swapCores (s : State) {fq : Fld} (jx : Nat) (hf : regOk 0x22000000000000000000000000000000000000000000000000000000000000000000000000000000000008100000000000000000000000000000000000000000000000000000000000000000000000000000000004000000000c00 fq.id = false) :
    (State.swapCores s).fld fq jx = s.fld fq jx := State.swapCores_k (loose_fld hf) rfl

@[simp] theorem State.lane_swapCores (s : State) (jx : Nat) : (State.swapCores s).lane jx = s.lane jx :=
  State.swapCores_k (loose_lane s jx (by decide) (by decide)) rfl

@[simp] theorem State.fld_setShadow (s : State) (ok : Bool) {fq : Fld} (jx : Nat) (hf : regOk 0x10000000000000000000000000000000000000000000000000000000000000000000000000000000000000000200000000000000000000000000000000000000000000000000000000000000000000000000000000000000000000000 fq.id = false) :
    (State.setShadow s ok).fld fq jx = s.fld fq jx := State.setShadow_k (loose_fld hf) rfl ok

@[simp] theorem State.lane_setShadow (s : State) (ok : Bool) (jx : Nat) : (State.setShadow s ok).lane jx = s.lane jx :=
  State.setShadow_k (loose_lane s jx (by decide) (by decide)) rfl ok

@[simp] theorem State.fld_retireCore (s : State) {fq : Fld} (jx : Nat) (hf : regOk 0x10000000000000000000000000000000000000000000000000000000000000000000000000000000000000008200000000000000000000000000000000000000000000000000000000000000000000000000000000024000000000c00 fq.id = false) :
    (State.retireCore s).fld fq jx = s.fld fq jx := State.retireCore_k (loose_fld hf) rfl

@[simp] theorem State.lane_retireCore (s : State) (jx : Nat) : (State.retireCore s).lane jx = s.lane jx :=
  State.retireCore_k (loose_lane s jx (by decide) (by decide)) rfl

@[simp] theorem State.fld_restartCore (s : State) {fq : Fld} (jx : Nat) (hf : regOk 0x80000000 fq.id = false) :
    (State.restartCore s).fld fq jx = s.fld fq jx := State.restartCore_k (loose_fld hf) rfl

@[simp] theorem State.lane_restartCore (s : State) (jx : Nat) : (State.restartCore s).lane jx = s.lane jx :=
  State.restartCore_k (loose_lane s jx (by decide) (by decide)) rfl

@[simp] theorem State.fld_writeHist (s : State) (r : HistRec) {fq : Fld} (jx : Nat) (hf : regOk 0x3000000000000000000000000000000000000000000000000000000000000000000000000000000000000000000200000000000000 fq.id = false) :
    (State.writeHist s r).fld fq jx = s.fld fq jx := State.writeHist_k (loose_fld hf) rfl r

@[simp] theorem State.lane_writeHist (s : State) (r : HistRec) (jx : Nat) : (State.writeHist s r).lane jx = s.lane jx :=
  State.writeHist_k (loose_lane s jx (by decide) (by decide)) rfl r

@[simp] theorem State.fld_exclude (s : State) (k : Nat) {fq : Fld} (jx : Nat) (hf : regOk 0x200000000000000 fq.id = false) :
    (State.exclude s k).fld fq jx = s.fld fq jx := State.exclude_k (loose_fld hf) rfl k

@[simp] theorem State.lane_exclude (s : State) (k : Nat) (jx : Nat) : (State.exclude s k).lane jx = s.lane jx :=
  State.exclude_k (loose_lane s jx (by decide) (by decide)) rfl k

@[simp] theorem State.fld_install (s : State) (f : Fit) {fq : Fld} (jx : Nat) (hf : regOk 0x7980000400000000000000000000000000000000000000000000000000000000000000000000000000000000000000080000100 fq.id = false) :
    (State.install s f).fld fq jx = s.fld fq jx := State.install_k (loose_fld hf) rfl f

@[simp] theorem State.lane_install (s : State) (f : Fit) (jx : Nat) : (State.install s f).lane jx = s.lane jx :=
  State.install_k (loose_lane s jx (by decide) (by decide)) rfl f

@[simp] theorem State.fld_refit (s : State) (last : Int) {fq : Fld} (jx : Nat) (hf : regOk 0x100000000000000000000000000000000000000000000000000000000000000007980000400000000000000000000000000000000000000000000000000000000000000000000000000000000000000080000100 fq.id = false) :
    (State.refit s last).fld fq jx = s.fld fq jx := State.refit_k (loose_fld hf) rfl last

@[simp] theorem State.lane_refit (s : State) (last : Int) (jx : Nat) : (State.refit s last).lane jx = s.lane jx :=
  State.refit_k (loose_lane s jx (by decide) (by decide)) rfl last

@[simp] theorem State.fld_learnReset (s : State) {fq : Fld} (jx : Nat) (hf : regOk 0x100000000000000000000000000000000000000000000000000000000000000007980000400000000000000000000000000000000000000000000000000000000000000000000000000000000200000080000100 fq.id = false) :
    (State.learnReset s).fld fq jx = s.fld fq jx := State.learnReset_k (loose_fld hf) rfl

@[simp] theorem State.lane_learnReset (s : State) (jx : Nat) : (State.learnReset s).lane jx = s.lane jx :=
  State.learnReset_k (loose_lane s jx (by decide) (by decide)) rfl

@[simp] theorem State.fld_plbCtrl (s : State) (w : Nat) {fq : Fld} (jx : Nat) (hf : regOk 0x100000000000000000000000000000000000000000000000000000000000000007980000400000000000000000000000000000000000000000000000000000000000000000000000000000000200000080000100 fq.id = false) :
    (State.plbCtrl s w).fld fq jx = s.fld fq jx := State.plbCtrl_k (loose_fld hf) rfl w

@[simp] theorem State.lane_plbCtrl (s : State) (w : Nat) (jx : Nat) : (State.plbCtrl s w).lane jx = s.lane jx :=
  State.plbCtrl_k (loose_lane s jx (by decide) (by decide)) rfl w

@[simp] theorem State.fld_rollback (s : State) (i : Nat) {fq : Fld} (jx : Nat) (hf : regOk 0x100000000000000000000000000000000000000000000000000000000000004007b80008400000000000000000000000000000000000000000000000000000000000000000000000000000000200000080000d00 fq.id = false) :
    (State.rollback s i).fld fq jx = s.fld fq jx := State.rollback_k (loose_fld hf) rfl i

@[simp] theorem State.lane_rollback (s : State) (i : Nat) (jx : Nat) : (State.rollback s i).lane jx = s.lane jx :=
  State.rollback_k (loose_lane s jx (by decide) (by decide)) rfl i

@[simp] theorem State.fld_judgeRef (s : State) (d : Option Int) (i : Nat) (used : Bool) {fq : Fld} (jx : Nat) (hf : regOk 0x1000000000000000000000000000000000000000000000000000000002a6404007b80008400000000000000000000000000000000000000000000000000000000000000000000000000000000200000080000d00 fq.id = false) :
    (State.judgeRef s d i used).fld fq jx = s.fld fq jx := State.judgeRef_k (loose_fld hf) rfl d i used

@[simp] theorem State.lane_judgeRef (s : State) (d : Option Int) (i : Nat) (used : Bool) (jx : Nat) : (State.judgeRef s d i used).lane jx = s.lane jx :=
  State.judgeRef_k (loose_lane s jx (by decide) (by decide)) rfl d i used

@[simp] theorem State.fld_thaw (s : State) (used : Nat) (d : Option Int) {fq : Fld} (jx : Nat) (hf : regOk 0x200000000000000000000000000000000000000000000000000000000000000000000000000000000000000000000080000000 fq.id = false) :
    (State.thaw s used d).fld fq jx = s.fld fq jx := State.thaw_k (loose_fld hf) rfl used d

@[simp] theorem State.lane_thaw (s : State) (used : Nat) (d : Option Int) (jx : Nat) : (State.thaw s used d).lane jx = s.lane jx :=
  State.thaw_k (loose_lane s jx (by decide) (by decide)) rfl used d

@[simp] theorem State.fld_showMeas (s : State) (e : EpochMeas) {fq : Fld} (jx : Nat) (hf : regOk 0x1f100000008000000000000000000000000000000000000000000000000000000000000000000000000000000000000000000000000000000 fq.id = false) :
    (State.showMeas s e).fld fq jx = s.fld fq jx := State.showMeas_k (loose_fld hf) rfl e

@[simp] theorem State.lane_showMeas (s : State) (e : EpochMeas) (jx : Nat) : (State.showMeas s e).lane jx = s.lane jx :=
  State.showMeas_k (loose_lane s jx (by decide) (by decide)) rfl e

@[simp] theorem State.fld_markSide (s : State) (k f : Nat) (o : Outcome) (g : Option Nat) {fq : Fld} (jx : Nat) (hf : regOk 0x100000001f40000000000000000000000000000000000000000000000000000000000000000000000020000c00 fq.id = false) :
    (State.markSide s k f o g).fld fq jx = s.fld fq jx := State.markSide_k (loose_fld hf) rfl k f o g

@[simp] theorem State.lane_markSide (s : State) (k f : Nat) (o : Outcome) (g : Option Nat) (jx : Nat) : (State.markSide s k f o g).lane jx = s.lane jx :=
  State.markSide_k (loose_lane s jx (by decide) (by decide)) rfl k f o g

@[simp] theorem State.fld_countOutcome (s : State) (o : Outcome) {fq : Fld} (jx : Nat) (hf : regOk 0x80000000000000000000000000000000000000000000000000000000000000000000000000000000000 fq.id = false) :
    (State.countOutcome s o).fld fq jx = s.fld fq jx := State.countOutcome_k (loose_fld hf) rfl o

@[simp] theorem State.lane_countOutcome (s : State) (o : Outcome) (jx : Nat) : (State.countOutcome s o).lane jx = s.lane jx :=
  State.countOutcome_k (loose_lane s jx (by decide) (by decide)) rfl o

@[simp] theorem State.fld_countCopy (s : State) (g side : Nat) (c : Copy) {fq : Fld} (jx : Nat) (hf : regOk 0x3000020080000000000000000000000000000000000000000000000000000000000000000000000000000000000 fq.id = false) :
    (State.countCopy s g side c).fld fq jx = s.fld fq jx := State.countCopy_k (loose_fld hf) rfl g side c

@[simp] theorem State.lane_countCopy (s : State) (g side : Nat) (c : Copy) (jx : Nat) : (State.countCopy s g side c).lane jx = s.lane jx :=
  State.countCopy_k (loose_lane s jx (by decide) (by decide)) rfl g side c

@[simp] theorem State.fld_countSent (s : State) (sc : Schedule) (o f : Nat) (lais : Bool) (slots : Tab Nat) {fq : Fld} (jx : Nat) (hf : regOk 0x200000000800000000000000000000000000000000000000000000000000000000000000000000000000000000000000000000000000000000000000000000000000000000000000000000000000000000000000000000000c00 fq.id = false) :
    (State.countSent s sc o f lais slots).fld fq jx = s.fld fq jx := State.countSent_k (loose_fld hf) rfl sc o f lais slots

@[simp] theorem State.lane_countSent (s : State) (sc : Schedule) (o f : Nat) (lais : Bool) (slots : Tab Nat) (jx : Nat) : (State.countSent s sc o f lais slots).lane jx = s.lane jx :=
  State.countSent_k (loose_lane s jx (by decide) (by decide)) rfl sc o f lais slots

@[simp] theorem State.fld_clearWtr (s : State) (g : Nat) {fq : Fld} (jx : Nat) (hf : regOk 0x400000000000000000000000000000000000000000000000000000000000000000000000000000000000000000 fq.id = false) :
    (State.clearWtr s g).fld fq jx = s.fld fq jx := State.clearWtr_k (loose_fld hf) rfl g

@[simp] theorem State.lane_clearWtr (s : State) (g : Nat) (jx : Nat) : (State.clearWtr s g).lane jx = s.lane jx :=
  State.clearWtr_k (loose_lane s jx (by decide) (by decide)) rfl g

@[simp] theorem State.fld_tickScarf (s : State) {fq : Fld} (jx : Nat) (hf : regOk 0x400000000000000000000000000000000000000000000000000000000000000000000000000000000000000000 fq.id = false) :
    (State.tickScarf s).fld fq jx = s.fld fq jx := State.tickScarf_k (loose_fld hf) rfl

@[simp] theorem State.lane_tickScarf (s : State) (jx : Nat) : (State.tickScarf s).lane jx = s.lane jx :=
  State.tickScarf_k (loose_lane s jx (by decide) (by decide)) rfl

@[simp] theorem State.fld_tickLinks (s : State) {fq : Fld} (jx : Nat) (hf : regOk 0x100000 fq.id = false) :
    (State.tickLinks s).fld fq jx = s.fld fq jx := State.tickLinks_k (loose_fld hf) rfl

@[simp] theorem State.lane_tickLinks (s : State) (jx : Nat) : (State.tickLinks s).lane jx = s.lane jx :=
  State.tickLinks_k (loose_lane s jx (by decide) (by decide)) rfl

@[simp] theorem State.fld_sendTraining (s : State) (n f : Nat) {fq : Fld} (jx : Nat) (hf : regOk 0x600000000000f8000002000000000000000002000 fq.id = false) :
    (State.sendTraining s n f).fld fq jx = s.fld fq jx := State.sendTraining_k (loose_fld hf) rfl n f

@[simp] theorem State.fld_sendTraffic (s : State) (n f : Nat) {fq : Fld} (jx : Nat) (hf : regOk 0x60000000000000000002000000000000000002000 fq.id = false) :
    (State.sendTraffic s n f).fld fq jx = s.fld fq jx := State.sendTraffic_k (loose_fld hf) rfl n f

@[simp] theorem State.fld_takeRestart (s : State) (n : Nat) {fq : Fld} (jx : Nat) (hf : regOk 0x40000000000000000000000000000000000000000000000000000000000000000000000000000000000000000000000000000000800000000000000000000000000014000000009ffb1e00090003041a01a00000020000000002c00 fq.id = false) :
    (State.takeRestart s n).fld fq jx = s.fld fq jx := State.takeRestart_k (loose_fld hf) rfl n

@[simp] theorem State.fld_platePart (s : State) (p f : Nat) {fq : Fld} (jx : Nat) (hf : regOk 0x20000000080000000000000000000000000000000000000000000000000000000000000000000000000000004f100028081f40000000000000000400000000000000000000000000000000000000000000000001000060002c00 fq.id = false) :
    (State.platePart s p f).fld fq jx = s.fld fq jx := State.platePart_k (loose_fld hf) rfl p f

@[simp] theorem State.fld_sendNothing (s : State) (n : Nat) {fq : Fld} (jx : Nat) (hf : regOk 0x2000000000000000002000 fq.id = false) :
    (State.sendNothing s n).fld fq jx = s.fld fq jx := State.sendNothing_k (loose_fld hf) rfl n

@[simp] theorem State.fld_dropWrite (s : State) (p a : Nat) {fq : Fld} (jx : Nat) (hf : regOk 0x1c20000000000000000000000000000000000000000000000000000000000000000000000000000000000000000000000000000000000000000000000000000000000000000000000000e00 fq.id = false) :
    (State.dropWrite s p a).fld fq jx = s.fld fq jx := State.dropWrite_k (loose_fld hf) rfl p a

@[simp] theorem State.lane_dropWrite (s : State) (p a : Nat) (jx : Nat) : (State.dropWrite s p a).lane jx = s.lane jx :=
  State.dropWrite_k (loose_lane s jx (by decide) (by decide)) rfl p a

@[simp] theorem State.fld_tooEarly (s : State) (m : Nat) {fq : Fld} (jx : Nat) (hf : regOk 0x200 fq.id = false) :
    (State.tooEarly s m).fld fq jx = s.fld fq jx := State.tooEarly_k (loose_fld hf) rfl m

@[simp] theorem State.lane_tooEarly (s : State) (m : Nat) (jx : Nat) : (State.tooEarly s m).lane jx = s.lane jx :=
  State.tooEarly_k (loose_lane s jx (by decide) (by decide)) rfl m

@[simp] theorem State.fld_park (s : State) (m : Nat) (y0 : Place) {fq : Fld} (jx : Nat) (hf : regOk 0x200000000000000000000000000000000000000000000000000000000000000000000000000000000000000000000000000000000000000000000000000000000000000000000000000000000000 fq.id = false) :
    (State.park s m y0).fld fq jx = s.fld fq jx := State.park_k (loose_fld hf) rfl m y0

@[simp] theorem State.lane_park (s : State) (m : Nat) (y0 : Place) (jx : Nat) : (State.park s m y0).lane jx = s.lane jx :=
  State.park_k (loose_lane s jx (by decide) (by decide)) rfl m y0

@[simp] theorem State.fld_lockWrite (s : State) (m k w : Nat) {fq : Fld} (jx : Nat) (hf : regOk 0x2000000000000000000000000000000000000000000000000000000000000000000000000000000000000000000000000000000000000000000000000000000000000000000000000400000000000c00 fq.id = false) :
    (State.lockWrite s m k w).fld fq jx = s.fld fq jx := State.lockWrite_k (loose_fld hf) rfl m k w

@[simp] theorem State.lane_lockWrite (s : State) (m k w : Nat) (jx : Nat) : (State.lockWrite s m k w).lane jx = s.lane jx :=
  State.lockWrite_k (loose_lane s jx (by decide) (by decide)) rfl m k w

@[simp] theorem State.fld_breakLocks (s : State) (m : Nat) {fq : Fld} (jx : Nat) (hf : regOk 0x2000000000000000000000000000000000000000000000000000000000000000000000000000000000000000000000000000000000000000000000000000000000000000000000000400000000000c00 fq.id = false) :
    (State.breakLocks s m).fld fq jx = s.fld fq jx := State.breakLocks_k (loose_fld hf) rfl m

@[simp] theorem State.lane_breakLocks (s : State) (m : Nat) (jx : Nat) : (State.breakLocks s m).lane jx = s.lane jx :=
  State.breakLocks_k (loose_lane s jx (by decide) (by decide)) rfl m

@[simp] theorem State.fld_latchHigh (s : State) (m off v : Nat) {fq : Fld} (jx : Nat) (hf : regOk 0x10 fq.id = false) :
    (State.latchHigh s m off v).fld fq jx = s.fld fq jx := State.latchHigh_k (loose_fld hf) rfl m off v

@[simp] theorem State.lane_latchHigh (s : State) (m off v : Nat) (jx : Nat) : (State.latchHigh s m off v).lane jx = s.lane jx :=
  State.latchHigh_k (loose_lane s jx (by decide) (by decide)) rfl m off v

@[simp] theorem State.fld_holdChain (s : State) (m off v : Nat) {fq : Fld} (jx : Nat) (hf : regOk 0x80000000000 fq.id = false) :
    (State.holdChain s m off v).fld fq jx = s.fld fq jx := State.holdChain_k (loose_fld hf) rfl m off v

@[simp] theorem State.lane_holdChain (s : State) (m off v : Nat) (jx : Nat) : (State.holdChain s m off v).lane jx = s.lane jx :=
  State.holdChain_k (loose_lane s jx (by decide) (by decide)) rfl m off v

@[simp] theorem State.fld_readPriv (s : State) (m a : Nat) (bar2 : Bool) {fq : Fld} (jx : Nat) (hf : regOk 0x10000000001e600000000000000000200000000000000000000000000000000000000000000000000000000000000000000000000000000000000000000000000000000000000000000000000401080090800fd0 fq.id = false) :
    (State.readPriv s m a bar2).fld fq jx = s.fld fq jx := State.readPriv_k (loose_fld hf) rfl m a bar2

@[simp] theorem State.lane_readPriv (s : State) (m a : Nat) (bar2 : Bool) (jx : Nat) : (State.readPriv s m a bar2).lane jx = s.lane jx :=
  State.readPriv_k (loose_lane s jx (by decide) (by decide)) rfl m a bar2

@[simp] theorem State.fld_readOpen (s : State) (m x : Nat) {fq : Fld} (jx : Nat) (hf : regOk 0x1e600000000000000000200000000000000000000000000000000000000000000000000000000000000000000000000000000000000000000000000000000000000000000000000001080090800fd0 fq.id = false) :
    (State.readOpen s m x).fld fq jx = s.fld fq jx := State.readOpen_k (loose_fld hf) rfl m x

@[simp] theorem State.lane_readOpen (s : State) (m x : Nat) (jx : Nat) : (State.readOpen s m x).lane jx = s.lane jx :=
  State.readOpen_k (loose_lane s jx (by decide) (by decide)) rfl m x

@[simp] theorem State.fld_readView (s : State) (m : Nat) (v : View) {fq : Fld} (jx : Nat) (hf : regOk 0x10000000001e600000000000000000200000000000000000000000000000000000000000000000000000000000000000000000000000000000000000000000000000000000000000000000000401080090800fd0 fq.id = false) :
    (State.readView s m v).fld fq jx = s.fld fq jx := State.readView_k (loose_fld hf) rfl m v

@[simp] theorem State.lane_readView (s : State) (m : Nat) (v : View) (jx : Nat) : (State.readView s m v).lane jx = s.lane jx :=
  State.readView_k (loose_lane s jx (by decide) (by decide)) rfl m v

@[simp] theorem State.fld_updOwn (s : State) (f : Owning → Owning) {fq : Fld} (jx : Nat) (hf : regOk 0x1000000000 fq.id = false) :
    (State.updOwn s f).fld fq jx = s.fld fq jx := State.updOwn_k (loose_fld hf) rfl f

@[simp] theorem State.lane_updOwn (s : State) (f : Owning → Owning) (jx : Nat) : (State.updOwn s f).lane jx = s.lane jx :=
  State.updOwn_k (loose_lane s jx (by decide) (by decide)) rfl f

@[simp] theorem State.fld_showLeft (s : State) {fq : Fld} (jx : Nat) (hf : regOk 0x10000000000000000000000000000000000000000000000000000000000000000000000000000000000000000000000000000000000000000000000000000000000000000000000000000 fq.id = false) :
    (State.showLeft s).fld fq jx = s.fld fq jx := State.showLeft_k (loose_fld hf) rfl

@[simp] theorem State.lane_showLeft (s : State) (jx : Nat) : (State.showLeft s).lane jx = s.lane jx :=
  State.showLeft_k (loose_lane s jx (by decide) (by decide)) rfl

@[simp] theorem State.fld_endHandover (s : State) {fq : Fld} (jx : Nat) (hf : regOk 0xc000000000000000000000000000000000000000000000000000000000000000000000000000000000000000000000000000000000000000000000000000000000000000000000000000 fq.id = false) :
    (State.endHandover s).fld fq jx = s.fld fq jx := State.endHandover_k (loose_fld hf) rfl

@[simp] theorem State.lane_endHandover (s : State) (jx : Nat) : (State.endHandover s).lane jx = s.lane jx :=
  State.endHandover_k (loose_lane s jx (by decide) (by decide)) rfl

@[simp] theorem State.fld_cancelHandover (s : State) {fq : Fld} (jx : Nat) (hf : regOk 0x2c000000000000000000000000000000000000000000000000000000000000000000000000000000000000000000000000000000000000000000000000000000000000000000000000c00 fq.id = false) :
    (State.cancelHandover s).fld fq jx = s.fld fq jx := State.cancelHandover_k (loose_fld hf) rfl

@[simp] theorem State.lane_cancelHandover (s : State) (jx : Nat) : (State.cancelHandover s).lane jx = s.lane jx :=
  State.cancelHandover_k (loose_lane s jx (by decide) (by decide)) rfl

@[simp] theorem State.fld_endOwner (s : State) {fq : Fld} (jx : Nat) (hf : regOk 0x12000000000000000000000000000000000000000000000000000000000000000000000000000000000000000000000000000000000000000000000000000000000000000001000000000 fq.id = false) :
    (State.endOwner s).fld fq jx = s.fld fq jx := State.endOwner_k (loose_fld hf) rfl

@[simp] theorem State.lane_endOwner (s : State) (jx : Nat) : (State.endOwner s).lane jx = s.lane jx :=
  State.endOwner_k (loose_lane s jx (by decide) (by decide)) rfl

@[simp] theorem State.fld_opClaim (s : State) (p token : Nat) {fq : Fld} (jx : Nat) (hf : regOk 0x20000000000000000000000000000000000000000000000000000000000000000000000000000000000000000000000000000000000000000000000000000000000000000001000000c00 fq.id = false) :
    (State.opClaim s p token).fld fq jx = s.fld fq jx := State.opClaim_k (loose_fld hf) rfl p token

@[simp] theorem State.lane_opClaim (s : State) (p token : Nat) (jx : Nat) : (State.opClaim s p token).lane jx = s.lane jx :=
  State.opClaim_k (loose_lane s jx (by decide) (by decide)) rfl p token

@[simp] theorem State.fld_opRenew (s : State) (p token : Nat) {fq : Fld} (jx : Nat) (hf : regOk 0x30000000000000000000000000000000000000000000000000000000000000000000000000000000000000000000000000000000000000000000000000000000000000000001000000c00 fq.id = false) :
    (State.opRenew s p token).fld fq jx = s.fld fq jx := State.opRenew_k (loose_fld hf) rfl p token

@[simp] theorem State.lane_opRenew (s : State) (p token : Nat) (jx : Nat) : (State.opRenew s p token).lane jx = s.lane jx :=
  State.opRenew_k (loose_lane s jx (by decide) (by decide)) rfl p token

@[simp] theorem State.fld_opRelease (s : State) (p token : Nat) {fq : Fld} (jx : Nat) (hf : regOk 0x2c000000000000000000000000000000000000000000000000000000000000000000000000000000000000000000000000000000000000000000000000000000000000000001000000c00 fq.id = false) :
    (State.opRelease s p token).fld fq jx = s.fld fq jx := State.opRelease_k (loose_fld hf) rfl p token

@[simp] theorem State.lane_opRelease (s : State) (p token : Nat) (jx : Nat) : (State.opRelease s p token).lane jx = s.lane jx :=
  State.opRelease_k (loose_lane s jx (by decide) (by decide)) rfl p token

@[simp] theorem State.fld_opHandover (s : State) (p token q : Nat) {fq : Fld} (jx : Nat) (hf : regOk 0x2c000000000000000000000000000000000000000000000000000000000000000000000000000000000000000000000000000000000000000000000000000000000000000001000000c00 fq.id = false) :
    (State.opHandover s p token q).fld fq jx = s.fld fq jx := State.opHandover_k (loose_fld hf) rfl p token q

@[simp] theorem State.lane_opHandover (s : State) (p token q : Nat) (jx : Nat) : (State.opHandover s p token q).lane jx = s.lane jx :=
  State.opHandover_k (loose_lane s jx (by decide) (by decide)) rfl p token q

@[simp] theorem State.fld_ownOp (s : State) (p token w : Nat) {fq : Fld} (jx : Nat) (hf : regOk 0x3c000000000000000000000000000000000000000000000000000000000000000000000000000000000000000000000000000000000000000000000000000000000000000001000000c00 fq.id = false) :
    (State.ownOp s p token w).fld fq jx = s.fld fq jx := State.ownOp_k (loose_fld hf) rfl p token w

@[simp] theorem State.lane_ownOp (s : State) (p token w : Nat) (jx : Nat) : (State.ownOp s p token w).lane jx = s.lane jx :=
  State.ownOp_k (loose_lane s jx (by decide) (by decide)) rfl p token w

@[simp] theorem State.fld_grant (s : State) (c : Nat × Nat) {fq : Fld} (jx : Nat) (hf : regOk 0x3e000000000000000000000000000000000000000000000000000000000000000000000000000000000000000000000000000000000000000000000000000000000000000001000000c00 fq.id = false) :
    (State.grant s c).fld fq jx = s.fld fq jx := State.grant_k (loose_fld hf) rfl c

@[simp] theorem State.lane_grant (s : State) (c : Nat × Nat) (jx : Nat) : (State.grant s c).lane jx = s.lane jx :=
  State.grant_k (loose_lane s jx (by decide) (by decide)) rfl c

@[simp] theorem State.fld_elect (s : State) {fq : Fld} (jx : Nat) (hf : regOk 0x3e000000000000000000000000000000000000000000000000000000000000000000000000000000000000000000000000000000000000000000000000000000000000000001000000c00 fq.id = false) :
    (State.elect s).fld fq jx = s.fld fq jx := State.elect_k (loose_fld hf) rfl

@[simp] theorem State.lane_elect (s : State) (jx : Nat) : (State.elect s).lane jx = s.lane jx :=
  State.elect_k (loose_lane s jx (by decide) (by decide)) rfl

@[simp] theorem State.fld_tickOwner (s : State) {fq : Fld} (jx : Nat) (hf : regOk 0x3e000000000000000000000000000000000000000000000000000000000000000000000000000000000000000000000000000000000000000000000000000000000000000001000000c00 fq.id = false) :
    (State.tickOwner s).fld fq jx = s.fld fq jx := State.tickOwner_k (loose_fld hf) rfl

@[simp] theorem State.lane_tickOwner (s : State) (jx : Nat) : (State.tickOwner s).lane jx = s.lane jx :=
  State.tickOwner_k (loose_lane s jx (by decide) (by decide)) rfl

@[simp] theorem State.fld_resetFunction (s : State) (p : Nat) {fq : Fld} (jx : Nat) (hf : regOk 0x800000000 fq.id = false) :
    (State.resetFunction s p).fld fq jx = s.fld fq jx := State.resetFunction_k (loose_fld hf) rfl p

@[simp] theorem State.lane_resetFunction (s : State) (p : Nat) (jx : Nat) : (State.resetFunction s p).lane jx = s.lane jx :=
  State.resetFunction_k (loose_lane s jx (by decide) (by decide)) rfl p

@[simp] theorem State.fld_groupCommitted (s : State) (old : State) (g : Nat) {fq : Fld} (jx : Nat) (hf : regOk 0x502000000000000000000000000000000000000000000000000000000000000000000000000000000000000c00 fq.id = false) :
    (State.groupCommitted s old g).fld fq jx = s.fld fq jx := State.groupCommitted_k (loose_fld hf) rfl old g

@[simp] theorem State.lane_groupCommitted (s : State) (old : State) (g : Nat) (jx : Nat) : (State.groupCommitted s old g).lane jx = s.lane jx :=
  State.groupCommitted_k (loose_lane s jx (by decide) (by decide)) rfl old g

@[simp] theorem State.fld_lamCommitted (s : State) (old : State) {fq : Fld} (jx : Nat) (hf : regOk 0x822000000000000000000000000000000000000000000000000000000000000000000000000000000000000000000000000000000000000000000078400000000000000000000000000000000000000000000000024000000000c00 fq.id = false) :
    (State.lamCommitted s old).fld fq jx = s.fld fq jx := State.lamCommitted_k (loose_fld hf) rfl old

@[simp] theorem State.lane_lamCommitted (s : State) (old : State) (jx : Nat) : (State.lamCommitted s old).lane jx = s.lane jx :=
  State.lamCommitted_k (loose_lane s jx (by decide) (by decide)) rfl old

@[simp] theorem State.fld_timingCommitted (s : State) (old : State) (n : Nat) {fq : Fld} (jx : Nat) (hf : regOk 0x3000000000000000000000002000 fq.id = false) :
    (State.timingCommitted s old n).fld fq jx = s.fld fq jx := State.timingCommitted_k (loose_fld hf) rfl old n

@[simp] theorem State.fld_refsCommitted (s : State) (old : State) (i : Nat) {fq : Fld} (jx : Nat) (hf : regOk 0x297c00000000000000000000000000000000000000000000000000000000000000000000000000000000000000000000000000080000000 fq.id = false) :
    (State.refsCommitted s old i).fld fq jx = s.fld fq jx := State.refsCommitted_k (loose_fld hf) rfl old i

@[simp] theorem State.lane_refsCommitted (s : State) (old : State) (i : Nat) (jx : Nat) : (State.refsCommitted s old i).lane jx = s.lane jx :=
  State.refsCommitted_k (loose_lane s jx (by decide) (by decide)) rfl old i

@[simp] theorem State.fld_countExempt (s : State) {fq : Fld} (jx : Nat) (hf : regOk 0x80000000000000000000000000000000000000000000000000000000000000000000000000000000000000000000000000000000000000000000000000000000000000000000000000000000000000000000 fq.id = false) :
    (State.countExempt s).fld fq jx = s.fld fq jx := State.countExempt_k (loose_fld hf) rfl

@[simp] theorem State.lane_countExempt (s : State) (jx : Nat) : (State.countExempt s).lane jx = s.lane jx :=
  State.countExempt_k (loose_lane s jx (by decide) (by decide)) rfl

@[simp] theorem State.fld_clearHist (s : State) (k : Nat) {fq : Fld} (jx : Nat) (hf : regOk 0x810000000000000000000000000000000000000000000000000000000000000000000000000000000000000000000000000000000000000000000000000000000000000000000000000000000000000000000000000000000002 fq.id = false) :
    (State.clearHist s k).fld fq jx = s.fld fq jx := State.clearHist_k (loose_fld hf) rfl k

@[simp] theorem State.lane_clearHist (s : State) (k : Nat) (jx : Nat) : (State.clearHist s k).lane jx = s.lane jx :=
  State.clearHist_k (loose_lane s jx (by decide) (by decide)) rfl k

@[simp] theorem State.fld_committed (s : State) (old : State) (v : Values) {fq : Fld} (jx : Nat) (hf : regOk 0x822810000000000000080000000000000000000000000000000000000000000000002000297c0000000000000000050200000000800000000000007840000000000000000000009ffa0000000003000000000000025000081002c02 fq.id = false) :
    (State.committed s old v).fld fq jx = s.fld fq jx := State.committed_k (loose_fld hf) rfl old v

@[simp] theorem State.fld_unstage (s : State) (v : Values) {fq : Fld} (jx : Nat) (hf : regOk 0x4 fq.id = false) :
    (State.unstage s v).fld fq jx = s.fld fq jx := State.unstage_k (loose_fld hf) rfl v

@[simp] theorem State.lane_unstage (s : State) (v : Values) (jx : Nat) : (State.unstage s v).lane jx = s.lane jx :=
  State.unstage_k (loose_lane s jx (by decide) (by decide)) rfl v

@[simp] theorem State.fld_discard (s : State) {fq : Fld} (jx : Nat) (hf : regOk 0x4 fq.id = false) :
    (State.discard s).fld fq jx = s.fld fq jx := State.discard_k (loose_fld hf) rfl

@[simp] theorem State.lane_discard (s : State) (jx : Nat) : (State.discard s).lane jx = s.lane jx :=
  State.discard_k (loose_lane s jx (by decide) (by decide)) rfl

@[simp] theorem State.fld_commitCtrl (s : State) (w : Nat) {fq : Fld} (jx : Nat) (hf : regOk 0x800000000000000000000000000000000000000000000000000000000000000000000000000000000000000000000000000000000000000000000000000000000000000000000004 fq.id = false) :
    (State.commitCtrl s w).fld fq jx = s.fld fq jx := State.commitCtrl_k (loose_fld hf) rfl w

@[simp] theorem State.lane_commitCtrl (s : State) (w : Nat) (jx : Nat) : (State.commitCtrl s w).lane jx = s.lane jx :=
  State.commitCtrl_k (loose_lane s jx (by decide) (by decide)) rfl w

@[simp] theorem State.fld_tickCommit (s : State) {fq : Fld} (jx : Nat) (hf : regOk 0x800000000000000000000000000000000000000000000000000000000000000000000000000000000000000000000000000000000000000000000000000000000000002000000000 fq.id = false) :
    (State.tickCommit s).fld fq jx = s.fld fq jx := State.tickCommit_k (loose_fld hf) rfl

@[simp] theorem State.lane_tickCommit (s : State) (jx : Nat) : (State.tickCommit s).lane jx = s.lane jx :=
  State.tickCommit_k (loose_lane s jx (by decide) (by decide)) rfl

@[simp] theorem State.fld_refuseCommit (s : State) (off : Nat) {fq : Fld} (jx : Nat) (hf : regOk 0x7c800000000000000000000000000000000000000000000000000000000000000000000000000000000000000000000000000000000000000000000000000000000000000000000c04 fq.id = false) :
    (State.refuseCommit s off).fld fq jx = s.fld fq jx := State.refuseCommit_k (loose_fld hf) rfl off

@[simp] theorem State.lane_refuseCommit (s : State) (off : Nat) (jx : Nat) : (State.refuseCommit s off).lane jx = s.lane jx :=
  State.refuseCommit_k (loose_lane s jx (by decide) (by decide)) rfl off

@[simp] theorem State.fld_updMate (s : State) (f : Mate → Mate) {fq : Fld} (jx : Nat) (hf : regOk 0x100000000 fq.id = false) :
    (State.updMate s f).fld fq jx = s.fld fq jx := State.updMate_k (loose_fld hf) rfl f

@[simp] theorem State.lane_updMate (s : State) (f : Mate → Mate) (jx : Nat) : (State.updMate s f).lane jx = s.lane jx :=
  State.updMate_k (loose_lane s jx (by decide) (by decide)) rfl f

@[simp] theorem State.fld_mateTo (s : State) (st : Nat) {fq : Fld} (jx : Nat) (hf : regOk 0x429000000000000000000000000000000000000000000000000000000000000000000000000000000000000000000000000000000000000100000c00 fq.id = false) :
    (State.mateTo s st).fld fq jx = s.fld fq jx := State.mateTo_k (loose_fld hf) rfl st

@[simp] theorem State.lane_mateTo (s : State) (st : Nat) (jx : Nat) : (State.mateTo s st).lane jx = s.lane jx :=
  State.mateTo_k (loose_lane s jx (by decide) (by decide)) rfl st

@[simp] theorem State.fld_mateJoin (s : State) (kept inst : Bool) {fq : Fld} (jx : Nat) (hf : regOk 0x8000429000000000000000000000000000000000000000000000000000000000000000000000000000000000000000000000000000000000000100000c00 fq.id = false) :
    (State.mateJoin s kept inst).fld fq jx = s.fld fq jx := State.mateJoin_k (loose_fld hf) rfl kept inst

@[simp] theorem State.lane_mateJoin (s : State) (kept inst : Bool) (jx : Nat) : (State.mateJoin s kept inst).lane jx = s.lane jx :=
  State.mateJoin_k (loose_lane s jx (by decide) (by decide)) rfl kept inst

@[simp] theorem State.fld_failDevice (s : State) {fq : Fld} (jx : Nat) (hf : regOk 0x4e9000000000000000000000000000000000000000000000000000000000000000000000000000000000000000000000000000000000000100000c00 fq.id = false) :
    (State.failDevice s).fld fq jx = s.fld fq jx := State.failDevice_k (loose_fld hf) rfl

@[simp] theorem State.lane_failDevice (s : State) (jx : Nat) : (State.failDevice s).lane jx = s.lane jx :=
  State.failDevice_k (loose_lane s jx (by decide) (by decide)) rfl

@[simp] theorem State.fld_tickVotes (s : State) {fq : Fld} (jx : Nat) (hf : regOk 0x1e00000000000000000000000000000000000000000000000000000000000000000000000000000000000000000000000000000000000000000000100000000 fq.id = false) :
    (State.tickVotes s).fld fq jx = s.fld fq jx := State.tickVotes_k (loose_fld hf) rfl

@[simp] theorem State.lane_tickVotes (s : State) (jx : Nat) : (State.tickVotes s).lane jx = s.lane jx :=
  State.tickVotes_k (loose_lane s jx (by decide) (by decide)) rfl

@[simp] theorem State.fld_queueRec (s : State) (r : JRec) {fq : Fld} (jx : Nat) (hf : regOk 0x2000000 fq.id = false) :
    (State.queueRec s r).fld fq jx = s.fld fq jx := State.queueRec_k (loose_fld hf) rfl r

@[simp] theorem State.lane_queueRec (s : State) (r : JRec) (jx : Nat) : (State.queueRec s r).lane jx = s.lane jx :=
  State.queueRec_k (loose_lane s jx (by decide) (by decide)) rfl r

@[simp] theorem State.fld_rearmRec (s : State) (q cseq : Nat) {fq : Fld} (jx : Nat) (hf : regOk 0x3000000 fq.id = false) :
    (State.rearmRec s q cseq).fld fq jx = s.fld fq jx := State.rearmRec_k (loose_fld hf) rfl q cseq

@[simp] theorem State.lane_rearmRec (s : State) (q cseq : Nat) (jx : Nat) : (State.rearmRec s q cseq).lane jx = s.lane jx :=
  State.rearmRec_k (loose_lane s jx (by decide) (by decide)) rfl q cseq

@[simp] theorem State.fld_cancelRec (s : State) (q : Nat) {fq : Fld} (jx : Nat) (hf : regOk 0x3110000 fq.id = false) :
    (State.cancelRec s q).fld fq jx = s.fld fq jx := State.cancelRec_k (loose_fld hf) rfl q

@[simp] theorem State.lane_cancelRec (s : State) (q : Nat) (jx : Nat) : (State.cancelRec s q).lane jx = s.lane jx :=
  State.cancelRec_k (loose_lane s jx (by decide) (by decide)) rfl q

@[simp] theorem State.fld_bentRec (s : State) (r : JRec) {fq : Fld} (jx : Nat) (hf : regOk 0xde000400000000000000000000000000000000000000000000000000000000000000000000000000000000000000000000000000000000100000101230c00 fq.id = false) :
    (State.bentRec s r).fld fq jx = s.fld fq jx := State.bentRec_k (loose_fld hf) rfl r

@[simp] theorem State.lane_bentRec (s : State) (r : JRec) (jx : Nat) : (State.bentRec s r).lane jx = s.lane jx :=
  State.bentRec_k (loose_lane s jx (by decide) (by decide)) rfl r

@[simp] theorem State.fld_commandPair (s : State) (p : Nat × Nat) {fq : Fld} (jx : Nat) (hf : regOk 0x400000000000000000000000000000000000100000000000000000000000000000000000000000000000000000 fq.id = false) :
    (State.commandPair s p).fld fq jx = s.fld fq jx := State.commandPair_k (loose_fld hf) rfl p

@[simp] theorem State.lane_commandPair (s : State) (p : Nat × Nat) (jx : Nat) : (State.commandPair s p).lane jx = s.lane jx :=
  State.commandPair_k (loose_lane s jx (by decide) (by decide)) rfl p

@[simp] theorem State.fld_takeRec (s : State) (r : JRec) {fq : Fld} (jx : Nat) (hf : regOk 0xde000400000000000000000000000000000400000000000000000000000000000000000100000000000000000000000000000000000000100000103330c00 fq.id = false) :
    (State.takeRec s r).fld fq jx = s.fld fq jx := State.takeRec_k (loose_fld hf) rfl r

@[simp] theorem State.lane_takeRec (s : State) (r : JRec) (jx : Nat) : (State.takeRec s r).lane jx = s.lane jx :=
  State.takeRec_k (loose_lane s jx (by decide) (by decide)) rfl r

@[simp] theorem State.fld_showNready (s : State) {fq : Fld} (jx : Nat) (hf : regOk 0x1fe0000000000000000000000000000000000000000000000000000000000000000000000000000000000000000000000000000000000000000000000000 fq.id = false) :
    (State.showNready s).fld fq jx = s.fld fq jx := State.showNready_k (loose_fld hf) rfl

@[simp] theorem State.lane_showNready (s : State) (jx : Nat) : (State.showNready s).lane jx = s.lane jx :=
  State.showNready_k (loose_lane s jx (by decide) (by decide)) rfl

@[simp] theorem State.fld_arbFault (s : State) {fq : Fld} (jx : Nat) (hf : regOk 0x400000000000000000000000000000000000000000000000000000000000000000000000000000000000000000000000000000000000000000000c00 fq.id = false) :
    (State.arbFault s).fld fq jx = s.fld fq jx := State.arbFault_k (loose_fld hf) rfl

@[simp] theorem State.lane_arbFault (s : State) (jx : Nat) : (State.arbFault s).lane jx = s.lane jx :=
  State.arbFault_k (loose_lane s jx (by decide) (by decide)) rfl

@[simp] theorem State.fld_waitSees (s : State) {fq : Fld} (jx : Nat) (hf : regOk 0x8000429000000000000000000000000000000000000000000000000000000000000000000000000000000000000000000000000000000000000100000c00 fq.id = false) :
    (State.waitSees s).fld fq jx = s.fld fq jx := State.waitSees_k (loose_fld hf) rfl

@[simp] theorem State.lane_waitSees (s : State) (jx : Nat) : (State.waitSees s).lane jx = s.lane jx :=
  State.waitSees_k (loose_lane s jx (by decide) (by decide)) rfl

@[simp] theorem State.fld_hbFields (s : State) (p : List Nat) {fq : Fld} (jx : Nat) (hf : regOk 0x4001f410000000000000000000000000000000000000000000000000000000000000000000000000000000000000000000000000000000000000100000c00 fq.id = false) :
    (State.hbFields s p).fld fq jx = s.fld fq jx := State.hbFields_k (loose_fld hf) rfl p

@[simp] theorem State.lane_hbFields (s : State) (p : List Nat) (jx : Nat) : (State.hbFields s p).lane jx = s.lane jx :=
  State.hbFields_k (loose_lane s jx (by decide) (by decide)) rfl p

@[simp] theorem State.fld_hbGrain (s : State) {fq : Fld} (jx : Nat) (hf : regOk 0x100000000 fq.id = false) :
    (State.hbGrain s).fld fq jx = s.fld fq jx := State.hbGrain_k (loose_fld hf) rfl

@[simp] theorem State.lane_hbGrain (s : State) (jx : Nat) : (State.hbGrain s).lane jx = s.lane jx :=
  State.hbGrain_k (loose_lane s jx (by decide) (by decide)) rfl

@[simp] theorem State.fld_hbConflict (s : State) {fq : Fld} (jx : Nat) (hf : regOk 0x629000000000000000000000000000000000000000000000000000000000000000000000000000000000000000000000000000000000000100000c00 fq.id = false) :
    (State.hbConflict s).fld fq jx = s.fld fq jx := State.hbConflict_k (loose_fld hf) rfl

@[simp] theorem State.lane_hbConflict (s : State) (jx : Nat) : (State.hbConflict s).lane jx = s.lane jx :=
  State.hbConflict_k (loose_lane s jx (by decide) (by decide)) rfl

@[simp] theorem State.fld_hbDual (s : State) {fq : Fld} (jx : Nat) (hf : regOk 0x20000000400000000000000000000000000000000000000000000000000000000000000000000000000000000000000000000000000000000000000100000c00 fq.id = false) :
    (State.hbDual s).fld fq jx = s.fld fq jx := State.hbDual_k (loose_fld hf) rfl

@[simp] theorem State.lane_hbDual (s : State) (jx : Nat) : (State.hbDual s).lane jx = s.lane jx :=
  State.hbDual_k (loose_lane s jx (by decide) (by decide)) rfl

@[simp] theorem State.fld_hbState (s : State) {fq : Fld} (jx : Nat) (hf : regOk 0x20008000429000000000000000000000000000000000000000000000000000000000000000000000000000000000000000000000000000000000000100000c00 fq.id = false) :
    (State.hbState s).fld fq jx = s.fld fq jx := State.hbState_k (loose_fld hf) rfl

@[simp] theorem State.lane_hbState (s : State) (jx : Nat) : (State.hbState s).lane jx = s.lane jx :=
  State.hbState_k (loose_lane s jx (by decide) (by decide)) rfl

@[simp] theorem State.fld_startEpoch (s : State) (e : Nat) (inbound : Bool) {fq : Fld} (jx : Nat) (hf : regOk 0x8e000000000000000000000000000000000000000000000000000000000000000000000000000000000000000000000000000000000000000000100000000 fq.id = false) :
    (State.startEpoch s e inbound).fld fq jx = s.fld fq jx := State.startEpoch_k (loose_fld hf) rfl e inbound

@[simp] theorem State.lane_startEpoch (s : State) (e : Nat) (inbound : Bool) (jx : Nat) : (State.startEpoch s e inbound).lane jx = s.lane jx :=
  State.startEpoch_k (loose_lane s jx (by decide) (by decide)) rfl e inbound

@[simp] theorem State.fld_installEntry (s : State) (e : CopyEntry) {fq : Fld} (jx : Nat) (hf : regOk 0x118000 fq.id = false) :
    (State.installEntry s e).fld fq jx = s.fld fq jx := State.installEntry_k (loose_fld hf) rfl e

@[simp] theorem State.lane_installEntry (s : State) (e : CopyEntry) (jx : Nat) : (State.installEntry s e).lane jx = s.lane jx :=
  State.installEntry_k (loose_lane s jx (by decide) (by decide)) rfl e

@[simp] theorem State.fld_decideTake (s : State) (cause : Nat) (mine : Bool) {fq : Fld} (jx : Nat) (hf : regOk 0x1e000000000000000000000000000000000000000000000000000000000000000000000000000000000000000000000000000000000000000000000100000000 fq.id = false) :
    (State.decideTake s cause mine).fld fq jx = s.fld fq jx := State.decideTake_k (loose_fld hf) rfl cause mine

@[simp] theorem State.lane_decideTake (s : State) (cause : Nat) (mine : Bool) (jx : Nat) : (State.decideTake s cause mine).lane jx = s.lane jx :=
  State.decideTake_k (loose_lane s jx (by decide) (by decide)) rfl cause mine

@[simp] theorem State.fld_showGap (s : State) {fq : Fld} (jx : Nat) (hf : regOk 0x1e0000000000000000000000000000000000000000000000000000000000000000000000000000000000000000000000000000000000000000000000000000000 fq.id = false) :
    (State.showGap s).fld fq jx = s.fld fq jx := State.showGap_k (loose_fld hf) rfl

@[simp] theorem State.lane_showGap (s : State) (jx : Nat) : (State.showGap s).lane jx = s.lane jx :=
  State.showGap_k (loose_lane s jx (by decide) (by decide)) rfl

@[simp] theorem State.fld_primeAll (s : State) {fq : Fld} (jx : Nat) (hf : regOk 0x8000000000000000000000000000000000000000000000000000000000000000000000000000000 fq.id = false) :
    (State.primeAll s).fld fq jx = s.fld fq jx := State.primeAll_k (loose_fld hf) rfl

@[simp] theorem State.lane_primeAll (s : State) (jx : Nat) : (State.primeAll s).lane jx = s.lane jx :=
  State.primeAll_k (loose_lane s jx (by decide) (by decide)) rfl

@[simp] theorem State.fld_dropUnarmed (s : State) {fq : Fld} (jx : Nat) (hf : regOk 0x3110000 fq.id = false) :
    (State.dropUnarmed s).fld fq jx = s.fld fq jx := State.dropUnarmed_k (loose_fld hf) rfl

@[simp] theorem State.lane_dropUnarmed (s : State) (jx : Nat) : (State.dropUnarmed s).lane jx = s.lane jx :=
  State.dropUnarmed_k (loose_lane s jx (by decide) (by decide)) rfl

@[simp] theorem State.fld_becomeActive (s : State) (t : Takeover) {fq : Fld} (jx : Nat) (hf : regOk 0x8228100000000000000800000000000000000000000000000000001e0058000429002000297c0000000000000000051a00000000800000000000007840000000000000000000009ffa00000000030000000000080250001e331ac06 fq.id = false) :
    (State.becomeActive s t).fld fq jx = s.fld fq jx := State.becomeActive_k (loose_fld hf) rfl t

@[simp] theorem State.fld_stepDown (s : State) (t : Takeover) {fq : Fld} (jx : Nat) (hf : regOk 0x68000429000000000000000000000000000000000000000000000000000000000000000000000000000000000000000000000000000000000000100000c00 fq.id = false) :
    (State.stepDown s t).fld fq jx = s.fld fq jx := State.stepDown_k (loose_fld hf) rfl t

@[simp] theorem State.lane_stepDown (s : State) (t : Takeover) (jx : Nat) : (State.stepDown s t).lane jx = s.lane jx :=
  State.stepDown_k (loose_lane s jx (by decide) (by decide)) rfl t

@[simp] theorem State.fld_mateCtrl (s : State) (w : Nat) {fq : Fld} (jx : Nat) (hf : regOk 0x1e08e000429000000000000000000000000000000000000000000000000000000000000000000000000000000000000000000000000000000000000100000c00 fq.id = false) :
    (State.mateCtrl s w).fld fq jx = s.fld fq jx := State.mateCtrl_k (loose_fld hf) rfl w

@[simp] theorem State.lane_mateCtrl (s : State) (w : Nat) (jx : Nat) : (State.mateCtrl s w).lane jx = s.lane jx :=
  State.mateCtrl_k (loose_lane s jx (by decide) (by decide)) rfl w

@[simp] theorem State.fld_learnTake (s : State) {fq : Fld} (jx : Nat) (hf : regOk 0x1e000000000000000000000000000000000000000000000000000000000000000000000000000000000000000000000000000000000000000000000100000100 fq.id = false) :
    (State.learnTake s).fld fq jx = s.fld fq jx := State.learnTake_k (loose_fld hf) rfl

@[simp] theorem State.lane_learnTake (s : State) (jx : Nat) : (State.learnTake s).lane jx = s.lane jx :=
  State.learnTake_k (loose_lane s jx (by decide) (by decide)) rfl

@[simp] theorem State.fld_showTake (s : State) {fq : Fld} (jx : Nat) (hf : regOk 0xc0000000000000000000000000000000000000000000000000000000000000000000000000000000000000000000000000000000000000100000000 fq.id = false) :
    (State.showTake s).fld fq jx = s.fld fq jx := State.showTake_k (loose_fld hf) rfl

@[simp] theorem State.lane_showTake (s : State) (jx : Nat) : (State.showTake s).lane jx = s.lane jx :=
  State.showTake_k (loose_lane s jx (by decide) (by decide)) rfl

@[simp] theorem State.fld_showWtr (s : State) {fq : Fld} (jx : Nat) (hf : regOk 0x100000000000000000000000000000000000000000000000000000000000000000000000000000000000000000000000000000000000000000000000000000 fq.id = false) :
    (State.showWtr s).fld fq jx = s.fld fq jx := State.showWtr_k (loose_fld hf) rfl

@[simp] theorem State.lane_showWtr (s : State) (jx : Nat) : (State.showWtr s).lane jx = s.lane jx :=
  State.showWtr_k (loose_lane s jx (by decide) (by decide)) rfl

@[simp] theorem State.fld_enterPlanned (s : State) {fq : Fld} (jx : Nat) (hf : regOk 0x8000429000000000000000000000000000000000000000000000000000000000000000000000000000000000000000000000000000000000000100000c00 fq.id = false) :
    (State.enterPlanned s).fld fq jx = s.fld fq jx := State.enterPlanned_k (loose_fld hf) rfl

@[simp] theorem State.lane_enterPlanned (s : State) (jx : Nat) : (State.enterPlanned s).lane jx = s.lane jx :=
  State.enterPlanned_k (loose_lane s jx (by decide) (by decide)) rfl

@[simp] theorem State.fld_loadBank (s : State) (i : Nat) (code : List (BitVec 8)) {fq : Fld} (jx : Nat) (hf : regOk 0x800000000000000 fq.id = false) :
    (State.loadBank s i code).fld fq jx = s.fld fq jx := State.loadBank_k (loose_fld hf) rfl i code

@[simp] theorem State.lane_loadBank (s : State) (i : Nat) (code : List (BitVec 8)) (jx : Nat) : (State.loadBank s i code).lane jx = s.lane jx :=
  State.loadBank_k (loose_lane s jx (by decide) (by decide)) rfl i code

@[simp] theorem State.fld_liveNext (s : State) {fq : Fld} (jx : Nat) (hf : regOk 0x4000000000000000000000000000000000000000000000000000000000000000000000000000000000000000000000000000000000000000000000000000000000000000000000 fq.id = false) :
    (State.liveNext s).fld fq jx = s.fld fq jx := State.liveNext_k (loose_fld hf) rfl

@[simp] theorem State.lane_liveNext (s : State) (jx : Nat) : (State.liveNext s).lane jx = s.lane jx :=
  State.liveNext_k (loose_lane s jx (by decide) (by decide)) rfl

@[simp] theorem State.fld_liveBegin (s : State) {fq : Fld} (jx : Nat) (hf : regOk 0x6000000000000000000000000000000000000000000000000000000000000000000000000000000000000000000000000000000000000000000000000000000000000000000000 fq.id = false) :
    (State.liveBegin s).fld fq jx = s.fld fq jx := State.liveBegin_k (loose_fld hf) rfl

@[simp] theorem State.lane_liveBegin (s : State) (jx : Nat) : (State.liveBegin s).lane jx = s.lane jx :=
  State.liveBegin_k (loose_lane s jx (by decide) (by decide)) rfl

@[simp] theorem State.fld_liveResume (s : State) {fq : Fld} (jx : Nat) (hf : regOk 0x6000000000000000000000000000000000000000000000000000000000000000000000000000000000000000000000000000000000000000000000000000000000000000000000 fq.id = false) :
    (State.liveResume s).fld fq jx = s.fld fq jx := State.liveResume_k (loose_fld hf) rfl

@[simp] theorem State.lane_liveResume (s : State) (jx : Nat) : (State.liveResume s).lane jx = s.lane jx :=
  State.liveResume_k (loose_lane s jx (by decide) (by decide)) rfl

@[simp] theorem State.fld_liveLoad (s : State) (i : Nat) (g : Option SlotImage) {fq : Fld} (jx : Nat) (hf : regOk 0x800000000000000 fq.id = false) :
    (State.liveLoad s i g).fld fq jx = s.fld fq jx := State.liveLoad_k (loose_fld hf) rfl i g

@[simp] theorem State.lane_liveLoad (s : State) (i : Nat) (g : Option SlotImage) (jx : Nat) : (State.liveLoad s i g).lane jx = s.lane jx :=
  State.liveLoad_k (loose_lane s jx (by decide) (by decide)) rfl i g

@[simp] theorem State.fld_showFw (s : State) (g : SlotImage) {fq : Fld} (jx : Nat) (hf : regOk 0x10000000000000000000000000000000000000000000000000000000000000000000000000000000000000000000000000000000000000000000000000000000000000400000000 fq.id = false) :
    (State.showFw s g).fld fq jx = s.fld fq jx := State.showFw_k (loose_fld hf) rfl g

@[simp] theorem State.lane_showFw (s : State) (g : SlotImage) (jx : Nat) : (State.showFw s g).lane jx = s.lane jx :=
  State.showFw_k (loose_lane s jx (by decide) (by decide)) rfl g

@[simp] theorem State.fld_liveStop (s : State) (code : Nat) {fq : Fld} (jx : Nat) (hf : regOk 0xa000000000040000000000000000000000000000000000000000000000000000000000000000000000000000000000000000000000000000000000000000000000000000000c00 fq.id = false) :
    (State.liveStop s code).fld fq jx = s.fld fq jx := State.liveStop_k (loose_fld hf) rfl code

@[simp] theorem State.lane_liveStop (s : State) (code : Nat) (jx : Nat) : (State.liveStop s code).lane jx = s.lane jx :=
  State.liveStop_k (loose_lane s jx (by decide) (by decide)) rfl code

@[simp] theorem State.fld_joinerFails (s : State) (k : Nat) {fq : Fld} (jx : Nat) (hf : regOk 0x40220000000000000000000000000000000000000000000000000000000000004e9000000000000000000000000000000000000000000000000000000000000000000000000000000000000000000000000000000024000100000d00 fq.id = false) :
    (State.joinerFails s k).fld fq jx = s.fld fq jx := State.joinerFails_k (loose_fld hf) rfl k

@[simp] theorem State.lane_joinerFails (s : State) (k : Nat) (jx : Nat) : (State.joinerFails s k).lane jx = s.lane jx :=
  State.joinerFails_k (loose_lane s jx (by decide) (by decide)) rfl k

@[simp] theorem State.fld_joinersNext (s : State) {fq : Fld} (jx : Nat) (hf : regOk 0x40220000000000000000000000000000000000000000000000000000000000004e9000000000000000000000000000000000000000000000000000000000000000000000000000000000000000000000000000000024000100000d00 fq.id = false) :
    (State.joinersNext s).fld fq jx = s.fld fq jx := State.joinersNext_k (loose_fld hf) rfl

@[simp] theorem State.lane_joinersNext (s : State) (jx : Nat) : (State.joinersNext s).lane jx = s.lane jx :=
  State.joinersNext_k (loose_lane s jx (by decide) (by decide)) rfl

@[simp] theorem State.fld_endResponse (s : State) {fq : Fld} (jx : Nat) (hf : regOk 0x44000000000000 fq.id = false) :
    (State.endResponse s).fld fq jx = s.fld fq jx := State.endResponse_k (loose_fld hf) rfl

@[simp] theorem State.lane_endResponse (s : State) (jx : Nat) : (State.endResponse s).lane jx = s.lane jx :=
  State.endResponse_k (loose_lane s jx (by decide) (by decide)) rfl

@[simp] theorem State.fld_timePhase (s : State) (k : Nat) {fq : Fld} (jx : Nat) (hf : regOk 0x20000000000000000000000000000000000000000000000000000000000000000000000000000000000000000000000000000000000000000000000000000000000000000000100 fq.id = false) :
    (State.timePhase s k).fld fq jx = s.fld fq jx := State.timePhase_k (loose_fld hf) rfl k

@[simp] theorem State.lane_timePhase (s : State) (k : Nat) (jx : Nat) : (State.timePhase s k).lane jx = s.lane jx :=
  State.timePhase_k (loose_lane s jx (by decide) (by decide)) rfl k

@[simp] theorem State.fld_enterPhase (s : State) (k : Nat) {fq : Fld} (jx : Nat) (hf : regOk 0x20000000000000400000000000000000000000000000000000000000000000000000000000000000000000000000000000000000000000000000000000000000000000000000100 fq.id = false) :
    (State.enterPhase s k).fld fq jx = s.fld fq jx := State.enterPhase_k (loose_fld hf) rfl k

@[simp] theorem State.lane_enterPhase (s : State) (k : Nat) (jx : Nat) : (State.enterPhase s k).lane jx = s.lane jx :=
  State.enterPhase_k (loose_lane s jx (by decide) (by decide)) rfl k

@[simp] theorem State.fld_settlePending (s : State) {fq : Fld} (jx : Nat) (hf : regOk 0x2000000000000 fq.id = false) :
    (State.settlePending s).fld fq jx = s.fld fq jx := State.settlePending_k (loose_fld hf) rfl

@[simp] theorem State.lane_settlePending (s : State) (jx : Nat) : (State.settlePending s).lane jx = s.lane jx :=
  State.settlePending_k (loose_lane s jx (by decide) (by decide)) rfl

@[simp] theorem State.fld_loadFuses (s : State) {fq : Fld} (jx : Nat) (hf : regOk 0x1401fc000000000000000000002008010000000000001800100000000000000000000000000000000000000000000000000000000000000000000000c0000000000000000000000000000000000000000000000000000020000000000000 fq.id = false) :
    (State.loadFuses s).fld fq jx = s.fld fq jx := State.loadFuses_k (loose_fld hf) rfl

@[simp] theorem State.lane_loadFuses (s : State) (jx : Nat) : (State.loadFuses s).lane jx = s.lane jx :=
  State.loadFuses_k (loose_lane s jx (by decide) (by decide)) rfl

@[simp] theorem State.fld_foundFlash (s : State) (fl : FlashInfo) {fq : Fld} (jx : Nat) (hf : regOk 0xf000000000000000000000000000000000000000000000000000000000000000000000000000000000000000000000000000000000000000000000000000000000000000000 fq.id = false) :
    (State.foundFlash s fl).fld fq jx = s.fld fq jx := State.foundFlash_k (loose_fld hf) rfl fl

@[simp] theorem State.lane_foundFlash (s : State) (fl : FlashInfo) (jx : Nat) : (State.foundFlash s fl).lane jx = s.lane jx :=
  State.foundFlash_k (loose_lane s jx (by decide) (by decide)) rfl fl

@[simp] theorem State.fld_trainLinks (s : State) {fq : Fld} (jx : Nat) (hf : regOk 0x800000000 fq.id = false) :
    (State.trainLinks s).fld fq jx = s.fld fq jx := State.trainLinks_k (loose_fld hf) rfl

@[simp] theorem State.lane_trainLinks (s : State) (jx : Nat) : (State.trainLinks s).lane jx = s.lane jx :=
  State.trainLinks_k (loose_lane s jx (by decide) (by decide)) rfl

@[simp] theorem State.fld_setRegion (s : State) (k base size : Nat) {fq : Fld} (jx : Nat) (hf : regOk 0xc000000000000000000000000000000000000000000000000000000000000000000000000000000000000000000000000000000000000000000000000000000000000000000000000000000000000000000000000 fq.id = false) :
    (State.setRegion s k base size).fld fq jx = s.fld fq jx := State.setRegion_k (loose_fld hf) rfl k base size

@[simp] theorem State.lane_setRegion (s : State) (k base size : Nat) (jx : Nat) : (State.setRegion s k base size).lane jx = s.lane jx :=
  State.setRegion_k (loose_lane s jx (by decide) (by decide)) rfl k base size

@[simp] theorem State.fld_showBases (s : State) {fq : Fld} (jx : Nat) (hf : regOk 0x2000000000000000000000200000000000000000000000800000000000000000000000000000000000000000000000000000000000000000000000000000000000000000000000000000000 fq.id = false) :
    (State.showBases s).fld fq jx = s.fld fq jx := State.showBases_k (loose_fld hf) rfl

@[simp] theorem State.lane_showBases (s : State) (jx : Nat) : (State.showBases s).lane jx = s.lane jx :=
  State.showBases_k (loose_lane s jx (by decide) (by decide)) rfl

@[simp] theorem State.fld_layOut (s : State) (g : SlotImage) {fq : Fld} (jx : Nat) (hf : regOk 0xc00000000000000000200000000000000000003ba00000000000000000000000800000000000000000000000000000000000000000000000000000000000000000000000000000000000000000000000000000000 fq.id = false) :
    (State.layOut s g).fld fq jx = s.fld fq jx := State.layOut_k (loose_fld hf) rfl g

@[simp] theorem State.lane_layOut (s : State) (g : SlotImage) (jx : Nat) : (State.layOut s g).lane jx = s.lane jx :=
  State.layOut_k (loose_lane s jx (by decide) (by decide)) rfl g

@[simp] theorem State.fld_showRun (s : State) (g : SlotImage) (slot : Nat) (staged fallback trial : Bool) {fq : Fld} (jx : Nat) (hf : regOk 0x100000000ff800000000000000000000000000000000000000000000000000000000000000000000000000000000000000000000000000000000000000000000000000400000000 fq.id = false) :
    (State.showRun s g slot staged fallback trial).fld fq jx = s.fld fq jx := State.showRun_k (loose_fld hf) rfl g slot staged fallback trial

@[simp] theorem State.lane_showRun (s : State) (g : SlotImage) (slot : Nat) (staged fallback trial : Bool) (jx : Nat) : (State.showRun s g slot staged fallback trial).lane jx = s.lane jx :=
  State.showRun_k (loose_lane s jx (by decide) (by decide)) rfl g slot staged fallback trial

@[simp] theorem State.fld_showSlot (s : State) (k : Nat) (g : SlotImage) (code : Nat) {fq : Fld} (jx : Nat) (hf : regOk 0xfe0000000000000000000000000000000000000000000000000000000000000000000000000000000000000000000000000000000000000000000000000000000000400000000 fq.id = false) :
    (State.showSlot s k g code).fld fq jx = s.fld fq jx := State.showSlot_k (loose_fld hf) rfl k g code

@[simp] theorem State.lane_showSlot (s : State) (k : Nat) (g : SlotImage) (code : Nat) (jx : Nat) : (State.showSlot s k g code).lane jx = s.lane jx :=
  State.showSlot_k (loose_lane s jx (by decide) (by decide)) rfl k g code

@[simp] theorem State.fld_startTrial (s : State) (pref : Nat) {fq : Fld} (jx : Nat) (hf : regOk 0x2000000000000 fq.id = false) :
    (State.startTrial s pref).fld fq jx = s.fld fq jx := State.startTrial_k (loose_fld hf) rfl pref

@[simp] theorem State.lane_startTrial (s : State) (pref : Nat) (jx : Nat) : (State.startTrial s pref).lane jx = s.lane jx :=
  State.startTrial_k (loose_lane s jx (by decide) (by decide)) rfl pref

@[simp] theorem State.fld_stageImage (s : State) (g : SlotImage) {fq : Fld} (jx : Nat) (hf : regOk 0x1000 fq.id = false) :
    (State.stageImage s g).fld fq jx = s.fld fq jx := State.stageImage_k (loose_fld hf) rfl g

@[simp] theorem State.lane_stageImage (s : State) (g : SlotImage) (jx : Nat) : (State.stageImage s g).lane jx = s.lane jx :=
  State.stageImage_k (loose_lane s jx (by decide) (by decide)) rfl g

@[simp] theorem State.fld_handBaseMap (s : State) (g : SlotImage) {fq : Fld} (jx : Nat) (hf : regOk 0x3b800000000000000000000000000000000000000000000000000000000000000000000000000000000000000000000000000000000000000000000000402000000 fq.id = false) :
    (State.handBaseMap s g).fld fq jx = s.fld fq jx := State.handBaseMap_k (loose_fld hf) rfl g

@[simp] theorem State.lane_handBaseMap (s : State) (g : SlotImage) (jx : Nat) : (State.handBaseMap s g).lane jx = s.lane jx :=
  State.handBaseMap_k (loose_lane s jx (by decide) (by decide)) rfl g

@[simp] theorem State.fld_opStart (s : State) (op slot : Nat) {fq : Fld} (jx : Nat) (hf : regOk 0x3c0000000000000000000000000000000000000000000000000000000000000000000000000000000000000000000000000000000000000000000000000000000400000000 fq.id = false) :
    (State.opStart s op slot).fld fq jx = s.fld fq jx := State.opStart_k (loose_fld hf) rfl op slot

@[simp] theorem State.lane_opStart (s : State) (op slot : Nat) (jx : Nat) : (State.opStart s op slot).lane jx = s.lane jx :=
  State.opStart_k (loose_lane s jx (by decide) (by decide)) rfl op slot

@[simp] theorem State.fld_opRefuse (s : State) (op code : Nat) {fq : Fld} (jx : Nat) (hf : regOk 0x1c0000040000000000000000000000000000000000000000000000000000000000000000000000000000000000000000000000000000000000000000000000000000000c00 fq.id = false) :
    (State.opRefuse s op code).fld fq jx = s.fld fq jx := State.opRefuse_k (loose_fld hf) rfl op code

@[simp] theorem State.lane_opRefuse (s : State) (op code : Nat) (jx : Nat) : (State.opRefuse s op code).lane jx = s.lane jx :=
  State.opRefuse_k (loose_lane s jx (by decide) (by decide)) rfl op code

@[simp] theorem State.fld_opClash (s : State) {fq : Fld} (jx : Nat) (hf : regOk 0x100000040000000000000000000000000000000000000000000000000000000000000000000000000000000000000000000000000000000000000000000000000000000c00 fq.id = false) :
    (State.opClash s).fld fq jx = s.fld fq jx := State.opClash_k (loose_fld hf) rfl

@[simp] theorem State.lane_opClash (s : State) (jx : Nat) : (State.opClash s).lane jx = s.lane jx :=
  State.opClash_k (loose_lane s jx (by decide) (by decide)) rfl

@[simp] theorem State.fld_doVerify (s : State) (k : Nat) {fq : Fld} (jx : Nat) (hf : regOk 0x3c0000040000000000000000000000000000000000000000000000000000000000000000000000000000000000000000000000000000000000000000000000000400000c00 fq.id = false) :
    (State.doVerify s k).fld fq jx = s.fld fq jx := State.doVerify_k (loose_fld hf) rfl k

@[simp] theorem State.lane_doVerify (s : State) (k : Nat) (jx : Nat) : (State.doVerify s k).lane jx = s.lane jx :=
  State.doVerify_k (loose_lane s jx (by decide) (by decide)) rfl k

@[simp] theorem State.fld_doProgram (s : State) (k : Nat) {fq : Fld} (jx : Nat) (hf : regOk 0x403c0000040000000000000000000000000000000000000000000000000000000000000000000000000000000000000000000000000000000000000000000000000400000c00 fq.id = false) :
    (State.doProgram s k).fld fq jx = s.fld fq jx := State.doProgram_k (loose_fld hf) rfl k

@[simp] theorem State.lane_doProgram (s : State) (k : Nat) (jx : Nat) : (State.doProgram s k).lane jx = s.lane jx :=
  State.doProgram_k (loose_lane s jx (by decide) (by decide)) rfl k

@[simp] theorem State.fld_doRecover (s : State) {fq : Fld} (jx : Nat) (hf : regOk 0x3c0000040000000000000000000000000000000000000000000000000000000000000000000000000000000000000000000000000000000000000000000000000400000c00 fq.id = false) :
    (State.doRecover s).fld fq jx = s.fld fq jx := State.doRecover_k (loose_fld hf) rfl

@[simp] theorem State.lane_doRecover (s : State) (jx : Nat) : (State.doRecover s).lane jx = s.lane jx :=
  State.doRecover_k (loose_lane s jx (by decide) (by decide)) rfl

@[simp] theorem State.fld_doAbort (s : State) {fq : Fld} (jx : Nat) (hf : regOk 0x40000000000000000000000000000000000000000000000000000000000000000000000000000000000000000000000000000000000000000000000000000000000000000 fq.id = false) :
    (State.doAbort s).fld fq jx = s.fld fq jx := State.doAbort_k (loose_fld hf) rfl

@[simp] theorem State.lane_doAbort (s : State) (jx : Nat) : (State.doAbort s).lane jx = s.lane jx :=
  State.doAbort_k (loose_lane s jx (by decide) (by decide)) rfl

@[simp] theorem State.fld_doConfirm (s : State) {fq : Fld} (jx : Nat) (hf : regOk 0x8040000000000000000000000000000000000000000000000000000000000000000000000000000000000000000000000000000000000000000000002000000000c00 fq.id = false) :
    (State.doConfirm s).fld fq jx = s.fld fq jx := State.doConfirm_k (loose_fld hf) rfl

@[simp] theorem State.lane_doConfirm (s : State) (jx : Nat) : (State.doConfirm s).lane jx = s.lane jx :=
  State.doConfirm_k (loose_lane s jx (by decide) (by decide)) rfl

@[simp] theorem State.fld_doSvnBurn (s : State) {fq : Fld} (jx : Nat) (hf : regOk 0x10140000040000000000000000000000000000000000000000000000000000000000000000000000000000000000000000000000000000000000000000000004000200000c00 fq.id = false) :
    (State.doSvnBurn s).fld fq jx = s.fld fq jx := State.doSvnBurn_k (loose_fld hf) rfl

@[simp] theorem State.lane_doSvnBurn (s : State) (jx : Nat) : (State.doSvnBurn s).lane jx = s.lane jx :=
  State.doSvnBurn_k (loose_lane s jx (by decide) (by decide)) rfl

@[simp] theorem State.fld_liveRefuse (s : State) (code : Nat) {fq : Fld} (jx : Nat) (hf : regOk 0xa000000000040000000000000000000000000000000000000000000000000000000000000000000000000000000000000000000000000000000000000000000000000000000c00 fq.id = false) :
    (State.liveRefuse s code).fld fq jx = s.fld fq jx := State.liveRefuse_k (loose_fld hf) rfl code

@[simp] theorem State.lane_liveRefuse (s : State) (code : Nat) (jx : Nat) : (State.liveRefuse s code).lane jx = s.lane jx :=
  State.liveRefuse_k (loose_lane s jx (by decide) (by decide)) rfl code

@[simp] theorem State.fld_doLive (s : State) (g : SlotImage) {fq : Fld} (jx : Nat) (hf : regOk 0xe000000000040000000000000000000000000000000000000000000000000000000000000000000000000000000000000000000000000000000000000000000000000400000c00 fq.id = false) :
    (State.doLive s g).fld fq jx = s.fld fq jx := State.doLive_k (loose_fld hf) rfl g

@[simp] theorem State.lane_doLive (s : State) (g : SlotImage) (jx : Nat) : (State.doLive s g).lane jx = s.lane jx :=
  State.doLive_k (loose_lane s jx (by decide) (by decide)) rfl g

@[simp] theorem State.fld_imgCtrl (s : State) (w : Nat) (other : SlotImage) {fq : Fld} (jx : Nat) (hf : regOk 0xe0503c0008040000000000000000000000000000000000000000000000000000000000000000000000000000000000000000000000000000000000000000000006000600000c00 fq.id = false) :
    (State.imgCtrl s w other).fld fq jx = s.fld fq jx := State.imgCtrl_k (loose_fld hf) rfl w other

@[simp] theorem State.lane_imgCtrl (s : State) (w : Nat) (other : SlotImage) (jx : Nat) : (State.imgCtrl s w other).lane jx = s.lane jx :=
  State.imgCtrl_k (loose_lane s jx (by decide) (by decide)) rfl w other

@[simp] theorem State.fld_imgBoot (s : State) (w : Nat) {fq : Fld} (jx : Nat) (hf : regOk 0x40000000000000000000000000000000000000000000000000000000000000000000000000000000000000000000000000000000000000000000002000000000c00 fq.id = false) :
    (State.imgBoot s w).fld fq jx = s.fld fq jx := State.imgBoot_k (loose_fld hf) rfl w

@[simp] theorem State.lane_imgBoot (s : State) (w : Nat) (jx : Nat) : (State.imgBoot s w).lane jx = s.lane jx :=
  State.imgBoot_k (loose_lane s jx (by decide) (by decide)) rfl w

@[simp] theorem State.fld_opEnd (s : State) (code bytes : Nat) {fq : Fld} (jx : Nat) (hf : regOk 0x340000000000000000000000000000000000000000000000000000000000000000000000000000000000000000000000000000000000000000000000000000000000000000 fq.id = false) :
    (State.opEnd s code bytes).fld fq jx = s.fld fq jx := State.opEnd_k (loose_fld hf) rfl code bytes

@[simp] theorem State.lane_opEnd (s : State) (code bytes : Nat) (jx : Nat) : (State.opEnd s code bytes).lane jx = s.lane jx :=
  State.opEnd_k (loose_lane s jx (by decide) (by decide)) rfl code bytes

@[simp] theorem State.fld_writeRec (s : State) (a : Nat) (r : EvRec) {fq : Fld} (jx : Nat) (hf : regOk 0x1000 fq.id = false) :
    (State.writeRec s a r).fld fq jx = s.fld fq jx := State.writeRec_k (loose_fld hf) rfl a r

@[simp] theorem State.lane_writeRec (s : State) (a : Nat) (r : EvRec) (jx : Nat) : (State.writeRec s a r).lane jx = s.lane jx :=
  State.writeRec_k (loose_lane s jx (by decide) (by decide)) rfl a r

@[simp] theorem State.fld_ringWrite (s : State) (p : Nat) (r : EvRec) {fq : Fld} (jx : Nat) (hf : regOk 0x50000020000000000000000000000000000000000000000000000000000000000000000000000000000000000000000000000000000000000000000000000000000000000000000000000001c00 fq.id = false) :
    (State.ringWrite s p r).fld fq jx = s.fld fq jx := State.ringWrite_k (loose_fld hf) rfl p r

@[simp] theorem State.lane_ringWrite (s : State) (p : Nat) (r : EvRec) (jx : Nat) : (State.ringWrite s p r).lane jx = s.lane jx :=
  State.ringWrite_k (loose_lane s jx (by decide) (by decide)) rfl p r

@[simp] theorem State.fld_updPcie (s : State) (p : Nat) (f : Pcie → Pcie) {fq : Fld} (jx : Nat) (hf : regOk 0x800000000 fq.id = false) :
    (State.updPcie s p f).fld fq jx = s.fld fq jx := State.updPcie_k (loose_fld hf) rfl p f

@[simp] theorem State.lane_updPcie (s : State) (p : Nat) (f : Pcie → Pcie) (jx : Nat) : (State.updPcie s p f).lane jx = s.lane jx :=
  State.updPcie_k (loose_lane s jx (by decide) (by decide)) rfl p f

@[simp] theorem State.fld_seeConditions (s : State) {fq : Fld} (jx : Nat) (hf : regOk 0x800000000 fq.id = false) :
    (State.seeConditions s).fld fq jx = s.fld fq jx := State.seeConditions_k (loose_fld hf) rfl

@[simp] theorem State.lane_seeConditions (s : State) (jx : Nat) : (State.seeConditions s).lane jx = s.lane jx :=
  State.seeConditions_k (loose_lane s jx (by decide) (by decide)) rfl

@[simp] theorem State.fld_portEoi (s : State) (p w : Nat) {fq : Fld} (jx : Nat) (hf : regOk 0x800000000 fq.id = false) :
    (State.portEoi s p w).fld fq jx = s.fld fq jx := State.portEoi_k (loose_fld hf) rfl p w

@[simp] theorem State.lane_portEoi (s : State) (p w : Nat) (jx : Nat) : (State.portEoi s p w).lane jx = s.lane jx :=
  State.portEoi_k (loose_lane s jx (by decide) (by decide)) rfl p w

@[simp] theorem State.fld_writeMsix (s : State) (p k w : Nat) {fq : Fld} (jx : Nat) (hf : regOk 0x800000000 fq.id = false) :
    (State.writeMsix s p k w).fld fq jx = s.fld fq jx := State.writeMsix_k (loose_fld hf) rfl p k w

@[simp] theorem State.lane_writeMsix (s : State) (p k w : Nat) (jx : Nat) : (State.writeMsix s p k w).lane jx = s.lane jx :=
  State.writeMsix_k (loose_lane s jx (by decide) (by decide)) rfl p k w

@[simp] theorem State.fld_cfgWrite (s : State) (p d w : Nat) {fq : Fld} (jx : Nat) (hf : regOk 0x800000100 fq.id = false) :
    (State.cfgWrite s p d w).fld fq jx = s.fld fq jx := State.cfgWrite_k (loose_fld hf) rfl p d w

@[simp] theorem State.lane_cfgWrite (s : State) (p d w : Nat) (jx : Nat) : (State.cfgWrite s p d w).lane jx = s.lane jx :=
  State.cfgWrite_k (loose_lane s jx (by decide) (by decide)) rfl p d w

@[simp] theorem State.fld_latqCtrl (s : State) (m w : Nat) {fq : Fld} (jx : Nat) (hf : regOk 0xb400000000000000000 fq.id = false) :
    (State.latqCtrl s m w).fld fq jx = s.fld fq jx := State.latqCtrl_k (loose_fld hf) rfl m w

@[simp] theorem State.lane_latqCtrl (s : State) (m w : Nat) (jx : Nat) : (State.latqCtrl s m w).lane jx = s.lane jx :=
  State.latqCtrl_k (loose_lane s jx (by decide) (by decide)) rfl m w

@[simp] theorem State.fld_latqAnswer (s : State) (sc : Schedule) (out src : Nat) {fq : Fld} (jx : Nat) (hf : regOk 0x1f4800000000000000000 fq.id = false) :
    (State.latqAnswer s sc out src).fld fq jx = s.fld fq jx := State.latqAnswer_k (loose_fld hf) rfl sc out src

@[simp] theorem State.lane_latqAnswer (s : State) (sc : Schedule) (out src : Nat) (jx : Nat) : (State.latqAnswer s sc out src).lane jx = s.lane jx :=
  State.latqAnswer_k (loose_lane s jx (by decide) (by decide)) rfl sc out src

@[simp] theorem State.fld_latqNone (s : State) (out result : Nat) {fq : Fld} (jx : Nat) (hf : regOk 0x1f4800000000000000100 fq.id = false) :
    (State.latqNone s out result).fld fq jx = s.fld fq jx := State.latqNone_k (loose_fld hf) rfl out result

@[simp] theorem State.lane_latqNone (s : State) (out result : Nat) (jx : Nat) : (State.latqNone s out result).lane jx = s.lane jx :=
  State.latqNone_k (loose_lane s jx (by decide) (by decide)) rfl out result

@[simp] theorem State.fld_clearCtrl (s : State) (w : Nat) {fq : Fld} (jx : Nat) (hf : regOk 0xa00000000000000000000000000000000000000000000000000000000000000000000000000000000000000000000000000000000000000000000000000000000000000000000000000000000000000400000000c00 fq.id = false) :
    (State.clearCtrl s w).fld fq jx = s.fld fq jx := State.clearCtrl_k (loose_fld hf) rfl w

@[simp] theorem State.lane_clearCtrl (s : State) (w : Nat) (jx : Nat) : (State.clearCtrl s w).lane jx = s.lane jx :=
  State.clearCtrl_k (loose_lane s jx (by decide) (by decide)) rfl w

@[simp] theorem State.fld_zeroBank (s : State) (c : Nat) {fq : Fld} (jx : Nat) (hf : regOk 0x200000000000000000000000000000000000000000000000000000000000000000000000000000000000000000000000000000000000000000000000000000000000000000000000000000000000000000000000000080000000 fq.id = false) :
    (State.zeroBank s c).fld fq jx = s.fld fq jx := State.zeroBank_k (loose_fld hf) rfl c

@[simp] theorem State.lane_zeroBank (s : State) (c : Nat) (jx : Nat) : (State.zeroBank s c).lane jx = s.lane jx :=
  State.zeroBank_k (loose_lane s jx (by decide) (by decide)) rfl c

@[simp] theorem State.fld_clearRun (s : State) (kind first count : Nat) {fq : Fld} (jx : Nat) (hf : regOk 0xa1000000000010000000800000000000000000000000000000000000000000000000000000000000000000000f000020080000000000000000000000000000000007e00000000000000000000000000000000000000080000002 fq.id = false) :
    (State.clearRun s kind first count).fld fq jx = s.fld fq jx := State.clearRun_k (loose_fld hf) rfl kind first count

@[simp] theorem State.lane_clearRun (s : State) (kind first count : Nat) (jx : Nat) : (State.clearRun s kind first count).lane jx = s.lane jx :=
  State.clearRun_k (loose_lane s jx (by decide) (by decide)) rfl kind first count

@[simp] theorem State.fld_snapCtrl (s : State) (w : Nat) {fq : Fld} (jx : Nat) (hf : regOk 0x100000000000000000000000000000000000000000000000000000000000000000000000000000000000000000000000000000000000000000000000000000000000000000000000000000000000000100000000000 fq.id = false) :
    (State.snapCtrl s w).fld fq jx = s.fld fq jx := State.snapCtrl_k (loose_fld hf) rfl w

@[simp] theorem State.lane_snapCtrl (s : State) (w : Nat) (jx : Nat) : (State.snapCtrl s w).lane jx = s.lane jx :=
  State.snapCtrl_k (loose_lane s jx (by decide) (by decide)) rfl w

@[simp] theorem State.fld_freeze (s : State) {fq : Fld} (jx : Nat) (hf : regOk 0x1400000000000000000000000000000000000000000000000000000000000000000000000000000000000000000000000000000000000000000000000000000000000000000000000000000000000000000040000040000000002 fq.id = false) :
    (State.freeze s).fld fq jx = s.fld fq jx := State.freeze_k (loose_fld hf) rfl

@[simp] theorem State.lane_freeze (s : State) (jx : Nat) : (State.freeze s).lane jx = s.lane jx :=
  State.freeze_k (loose_lane s jx (by decide) (by decide)) rfl

@[simp] theorem State.fld_archiveSnap (s : State) {fq : Fld} (jx : Nat) (hf : regOk 0x800000000000 fq.id = false) :
    (State.archiveSnap s).fld fq jx = s.fld fq jx := State.archiveSnap_k (loose_fld hf) rfl

@[simp] theorem State.lane_archiveSnap (s : State) (jx : Nat) : (State.archiveSnap s).lane jx = s.lane jx :=
  State.archiveSnap_k (loose_lane s jx (by decide) (by decide)) rfl

@[simp] theorem State.fld_clearOnSnap (s : State) {fq : Fld} (jx : Nat) (hf : regOk 0xa10000000000000000000000000000000000000000000000000000000000000000000000000000000000000000000000000000000000000000000000000000000000000000000000000000000000000000000000000080000002 fq.id = false) :
    (State.clearOnSnap s).fld fq jx = s.fld fq jx := State.clearOnSnap_k (loose_fld hf) rfl

@[simp] theorem State.lane_clearOnSnap (s : State) (jx : Nat) : (State.clearOnSnap s).lane jx = s.lane jx :=
  State.clearOnSnap_k (loose_lane s jx (by decide) (by decide)) rfl

@[simp] theorem State.fld_updPegs (s : State) (f : Pegs → Pegs) {fq : Fld} (jx : Nat) (hf : regOk 0x1000000000000 fq.id = false) :
    (State.updPegs s f).fld fq jx = s.fld fq jx := State.updPegs_k (loose_fld hf) rfl f

@[simp] theorem State.lane_updPegs (s : State) (f : Pegs → Pegs) (jx : Nat) : (State.updPegs s f).lane jx = s.lane jx :=
  State.updPegs_k (loose_lane s jx (by decide) (by decide)) rfl f

@[simp] theorem State.fld_draw (s : State) (sc : Schedule) (y0 : Nat) (y1 : Nat) {fq : Fld} (jx : Nat) (hf : regOk 0x4000000000000000000000000000000000000000000000000000000000000000000000000000000000000000000000000000000000000000000000000000000000000000000000000000000000000000001000000000c00 fq.id = false) :
    (State.draw s sc y0 y1).fld fq jx = s.fld fq jx := State.draw_k (loose_fld hf) rfl sc y0 y1

@[simp] theorem State.lane_draw (s : State) (sc : Schedule) (y0 : Nat) (y1 : Nat) (jx : Nat) : (State.draw s sc y0 y1).lane jx = s.lane jx :=
  State.draw_k (loose_lane s jx (by decide) (by decide)) rfl sc y0 y1

@[simp] theorem State.fld_settlePegs (s : State) {fq : Fld} (jx : Nat) (hf : regOk 0x1000000000100 fq.id = false) :
    (State.settlePegs s).fld fq jx = s.fld fq jx := State.settlePegs_k (loose_fld hf) rfl

@[simp] theorem State.lane_settlePegs (s : State) (jx : Nat) : (State.settlePegs s).lane jx = s.lane jx :=
  State.settlePegs_k (loose_lane s jx (by decide) (by decide)) rfl

@[simp] theorem State.fld_pegQueue (s : State) (r : List Nat) {fq : Fld} (jx : Nat) (hf : regOk 0x24000000000000000000000000000000000000000000000000000000000000000000000000000000000000000000000000000000000000000000000000000000000000000000000000000000000000000001000000000c00 fq.id = false) :
    (State.pegQueue s r).fld fq jx = s.fld fq jx := State.pegQueue_k (loose_fld hf) rfl r

@[simp] theorem State.lane_pegQueue (s : State) (r : List Nat) (jx : Nat) : (State.pegQueue s r).lane jx = s.lane jx :=
  State.pegQueue_k (loose_lane s jx (by decide) (by decide)) rfl r

@[simp] theorem State.fld_pegCount (s : State) (p : Peg) (e : PegEnd) {fq : Fld} (jx : Nat) (hf : regOk 0x800000000000000000000000000000000000000000000000000000000000000000000000000000000000000000000000000000000000000000000000000000000000000000000000000000000000000000000000000000000100 fq.id = false) :
    (State.pegCount s p e).fld fq jx = s.fld fq jx := State.pegCount_k (loose_fld hf) rfl p e

@[simp] theorem State.lane_pegCount (s : State) (p : Peg) (e : PegEnd) (jx : Nat) : (State.pegCount s p e).lane jx = s.lane jx :=
  State.pegCount_k (loose_lane s jx (by decide) (by decide)) rfl p e

@[simp] theorem State.fld_pegDone (s : State) (p : Peg) (e : PegEnd) {fq : Fld} (jx : Nat) (hf : regOk 0xa00024000800000000000000000000000000000000000000000000000000000000000000000000000000000000000000000000000000000000000000000000000000000000000000000000000000000000000001000000000d00 fq.id = false) :
    (State.pegDone s p e).fld fq jx = s.fld fq jx := State.pegDone_k (loose_fld hf) rfl p e

@[simp] theorem State.lane_pegDone (s : State) (p : Peg) (e : PegEnd) (jx : Nat) : (State.pegDone s p e).lane jx = s.lane jx :=
  State.pegDone_k (loose_lane s jx (by decide) (by decide)) rfl p e

@[simp] theorem State.fld_pegEnds (s : State) (p : Peg) {fq : Fld} (jx : Nat) (hf : regOk 0xa00024000800000000000000000000000000000000000000000000000000000000000000000000000000000000000000000000000000000000000000000000000000000000000000000000000000000000000001000000000d00 fq.id = false) :
    (State.pegEnds s p).fld fq jx = s.fld fq jx := State.pegEnds_k (loose_fld hf) rfl p

@[simp] theorem State.lane_pegEnds (s : State) (p : Peg) (jx : Nat) : (State.pegEnds s p).lane jx = s.lane jx :=
  State.pegEnds_k (loose_lane s jx (by decide) (by decide)) rfl p

@[simp] theorem State.fld_pegCtrl (s : State) (w : Nat) {fq : Fld} (jx : Nat) (hf : regOk 0x1000000000000 fq.id = false) :
    (State.pegCtrl s w).fld fq jx = s.fld fq jx := State.pegCtrl_k (loose_fld hf) rfl w

@[simp] theorem State.lane_pegCtrl (s : State) (w : Nat) (jx : Nat) : (State.pegCtrl s w).lane jx = s.lane jx :=
  State.pegCtrl_k (loose_lane s jx (by decide) (by decide)) rfl w

@[simp] theorem State.fld_updSnd (s : State) (f : Sounding → Sounding) {fq : Fld} (jx : Nat) (hf : regOk 0x10000000000 fq.id = false) :
    (State.updSnd s f).fld fq jx = s.fld fq jx := State.updSnd_k (loose_fld hf) rfl f

@[simp] theorem State.lane_updSnd (s : State) (f : Sounding → Sounding) (jx : Nat) : (State.updSnd s f).lane jx = s.lane jx :=
  State.updSnd_k (loose_lane s jx (by decide) (by decide)) rfl f

@[simp] theorem State.fld_showSounding (s : State) {fq : Fld} (jx : Nat) (hf : regOk 0x500000000000000000000000000000000000000000000000000000000000000000000000000000000000000000000000000000000000000000000000000000000000000000000000000000010000000000 fq.id = false) :
    (State.showSounding s).fld fq jx = s.fld fq jx := State.showSounding_k (loose_fld hf) rfl

@[simp] theorem State.lane_showSounding (s : State) (jx : Nat) : (State.showSounding s).lane jx = s.lane jx :=
  State.showSounding_k (loose_lane s jx (by decide) (by decide)) rfl

@[simp] theorem State.fld_endPass (s : State) {fq : Fld} (jx : Nat) (hf : regOk 0x6800000000000000000000000000000000000000000000000000000000000000000000000000000000000000000000000000000000000000000000000000000000000000000000000000000010000000c00 fq.id = false) :
    (State.endPass s).fld fq jx = s.fld fq jx := State.endPass_k (loose_fld hf) rfl

@[simp] theorem State.lane_endPass (s : State) (jx : Nat) : (State.endPass s).lane jx = s.lane jx :=
  State.endPass_k (loose_lane s jx (by decide) (by decide)) rfl

@[simp] theorem State.fld_soundFail (s : State) (index kind inst : Nat) (repaired : Bool) {fq : Fld} (jx : Nat) (hf : regOk 0x78800000000000000000000000000000000000000000000000000000000000000000000000000000000000000000000000000000000000000000000000000000000000000000000000000004000000000c00 fq.id = false) :
    (State.soundFail s index kind inst repaired).fld fq jx = s.fld fq jx := State.soundFail_k (loose_fld hf) rfl index kind inst repaired

@[simp] theorem State.lane_soundFail (s : State) (index kind inst : Nat) (repaired : Bool) (jx : Nat) : (State.soundFail s index kind inst repaired).lane jx = s.lane jx :=
  State.soundFail_k (loose_lane s jx (by decide) (by decide)) rfl index kind inst repaired

@[simp] theorem State.fld_regionFails (s : State) (r : Nat) {fq : Fld} (jx : Nat) (hf : regOk 0x78801800000000000000000000000000000000000000000000000000000000000000000000000000000000000000000000000000000000000000000000000000000000000000000000000004010000000c00 fq.id = false) :
    (State.regionFails s r).fld fq jx = s.fld fq jx := State.regionFails_k (loose_fld hf) rfl r

@[simp] theorem State.lane_regionFails (s : State) (r : Nat) (jx : Nat) : (State.regionFails s r).lane jx = s.lane jx :=
  State.regionFails_k (loose_lane s jx (by decide) (by decide)) rfl r

@[simp] theorem State.fld_takeRegion (s : State) (r : Nat) {fq : Fld} (jx : Nat) (hf : regOk 0x10000000000 fq.id = false) :
    (State.takeRegion s r).fld fq jx = s.fld fq jx := State.takeRegion_k (loose_fld hf) rfl r

@[simp] theorem State.lane_takeRegion (s : State) (r : Nat) (jx : Nat) : (State.takeRegion s r).lane jx = s.lane jx :=
  State.takeRegion_k (loose_lane s jx (by decide) (by decide)) rfl r

@[simp] theorem State.fld_tickSounding (s : State) {fq : Fld} (jx : Nat) (hf : regOk 0x500000000000000000000000000000000000000000000000000000000000000000000000000000000000000000000000000000000000000000000000000000000000000000000000000000010000000000 fq.id = false) :
    (State.tickSounding s).fld fq jx = s.fld fq jx := State.tickSounding_k (loose_fld hf) rfl

@[simp] theorem State.lane_tickSounding (s : State) (jx : Nat) : (State.tickSounding s).lane jx = s.lane jx :=
  State.tickSounding_k (loose_lane s jx (by decide) (by decide)) rfl

@[simp] theorem State.fld_setChState (s : State) (n st : Nat) {fq : Fld} (jx : Nat) (hf : regOk 0x410000000000000000000000000000000000000000000000000000000000000000000000000000000000000000000000000000000000000000000000000000000000000000000000000000000000000000000000 fq.id = false) :
    (State.setChState s n st).fld fq jx = s.fld fq jx := State.setChState_k (loose_fld hf) rfl n st

@[simp] theorem State.lane_setChState (s : State) (n st : Nat) (jx : Nat) : (State.setChState s n st).lane jx = s.lane jx :=
  State.setChState_k (loose_lane s jx (by decide) (by decide)) rfl n st

@[simp] theorem State.fld_retrain (s : State) (n : Nat) {fq : Fld} (jx : Nat) (hf : regOk 0x450000000000000000000000000000000000000000000000000000000000000000000000000000000000000000000000000000000000000000000000000000000000000000000000000000000000020000000c00 fq.id = false) :
    (State.retrain s n).fld fq jx = s.fld fq jx := State.retrain_k (loose_fld hf) rfl n

@[simp] theorem State.lane_retrain (s : State) (n : Nat) (jx : Nat) : (State.retrain s n).lane jx = s.lane jx :=
  State.retrain_k (loose_lane s jx (by decide) (by decide)) rfl n

@[simp] theorem State.fld_retrainCtrl (s : State) (n w : Nat) {fq : Fld} (jx : Nat) (hf : regOk 0x450000000000000000000000000000000000000000000000000000000000000000000000000000000000000000000000000000000000000000000000000000000000000000000000000000000000020000000c00 fq.id = false) :
    (State.retrainCtrl s n w).fld fq jx = s.fld fq jx := State.retrainCtrl_k (loose_fld hf) rfl n w

@[simp] theorem State.lane_retrainCtrl (s : State) (n w : Nat) (jx : Nat) : (State.retrainCtrl s n w).lane jx = s.lane jx :=
  State.retrainCtrl_k (loose_lane s jx (by decide) (by decide)) rfl n w

@[simp] theorem State.fld_nextRetrain (s : State) {fq : Fld} (jx : Nat) (hf : regOk 0x410000000000000000000000000000000000000000000000000000000000000000000000000000000000000000000000000000000000000000000000000000000000000000000000000000000000020000000000 fq.id = false) :
    (State.nextRetrain s).fld fq jx = s.fld fq jx := State.nextRetrain_k (loose_fld hf) rfl

@[simp] theorem State.lane_nextRetrain (s : State) (jx : Nat) : (State.nextRetrain s).lane jx = s.lane jx :=
  State.nextRetrain_k (loose_lane s jx (by decide) (by decide)) rfl

@[simp] theorem State.fld_tickDdr (s : State) {fq : Fld} (jx : Nat) (hf : regOk 0x20000000000 fq.id = false) :
    (State.tickDdr s).fld fq jx = s.fld fq jx := State.tickDdr_k (loose_fld hf) rfl

@[simp] theorem State.lane_tickDdr (s : State) (jx : Nat) : (State.tickDdr s).lane jx = s.lane jx :=
  State.tickDdr_k (loose_lane s jx (by decide) (by decide)) rfl

@[simp] theorem State.fld_startLane (s : State) (x : Nat) {fq : Fld} (jx : Nat) (hf : regOk 0x10000000000000000000020000000002004 fq.id = false) :
    (State.startLane s x).fld fq jx = s.fld fq jx := State.startLane_k (loose_fld hf) rfl x

@[simp] theorem State.fld_endLane (s : State) {fq : Fld} (jx : Nat) (hf : regOk 0x2000000000000000000000000000000000000000000000000000000000000000000000000000000000000000000000000000000000000000000000000000000000000000000000000000000000000000000000020000000000000 fq.id = false) :
    (State.endLane s).fld fq jx = s.fld fq jx := State.endLane_k (loose_fld hf) rfl

@[simp] theorem State.lane_endLane (s : State) (jx : Nat) : (State.endLane s).lane jx = s.lane jx :=
  State.endLane_k (loose_lane s jx (by decide) (by decide)) rfl

@[simp] theorem State.fld_runLane (s : State) (x : Nat) {fq : Fld} (jx : Nat) (hf : regOk 0x22000000000000000000000000000000000000000000000000000000000000000000000000000000000000000000000000000000000000000000000000000000000000000000000000000000000000000000000024000000002c00 fq.id = false) :
    (State.runLane s x).fld fq jx = s.fld fq jx := State.runLane_k (loose_fld hf) rfl x

@[simp] theorem State.fld_tickLaneSubst (s : State) {fq : Fld} (jx : Nat) (hf : regOk 0x22000000000000000000000000000000000000000000000000000000000000000000000000000000000000000000000000000000000000000000000000000000000000000000000000010000000000000000000024000000002c04 fq.id = false) :
    (State.tickLaneSubst s).fld fq jx = s.fld fq jx := State.tickLaneSubst_k (loose_fld hf) rfl

@[simp] theorem State.fld_updGuard (s : State) (f : Guarding → Guarding) {fq : Fld} (jx : Nat) (hf : regOk 0x40000000000000 fq.id = false) :
    (State.updGuard s f).fld fq jx = s.fld fq jx := State.updGuard_k (loose_fld hf) rfl f

@[simp] theorem State.lane_updGuard (s : State) (f : Guarding → Guarding) (jx : Nat) : (State.updGuard s f).lane jx = s.lane jx :=
  State.updGuard_k (loose_lane s jx (by decide) (by decide)) rfl f

@[simp] theorem State.fld_lcResult (s : State) (code : Nat) {fq : Fld} (jx : Nat) (hf : regOk 0x2000000000000 fq.id = false) :
    (State.lcResult s code).fld fq jx = s.fld fq jx := State.lcResult_k (loose_fld hf) rfl code

@[simp] theorem State.lane_lcResult (s : State) (code : Nat) (jx : Nat) : (State.lcResult s code).lane jx = s.lane jx :=
  State.lcResult_k (loose_lane s jx (by decide) (by decide)) rfl code

@[simp] theorem State.fld_lcCtrl (s : State) (w : Nat) {fq : Fld} (jx : Nat) (hf : regOk 0x8000000000000000000000000000000000000000000000000000000000000000000000000000000000000000000000000000000000000000000000000000000000000000000000000000000000000000000000000000002000000000000 fq.id = false) :
    (State.lcCtrl s w).fld fq jx = s.fld fq jx := State.lcCtrl_k (loose_fld hf) rfl w

@[simp] theorem State.lane_lcCtrl (s : State) (w : Nat) (jx : Nat) : (State.lcCtrl s w).lane jx = s.lane jx :=
  State.lcCtrl_k (loose_lane s jx (by decide) (by decide)) rfl w

@[simp] theorem State.fld_newNonce (s : State) {fq : Fld} (jx : Nat) (hf : regOk 0x80000000000000000000000000000000000000000000000000000000000000000000000000000000000000000000000000000000000000000000000000000000000000000000000000000000000000000000000000000000000000000100 fq.id = false) :
    (State.newNonce s).fld fq jx = s.fld fq jx := State.newNonce_k (loose_fld hf) rfl

@[simp] theorem State.lane_newNonce (s : State) (jx : Nat) : (State.newNonce s).lane jx = s.lane jx :=
  State.newNonce_k (loose_lane s jx (by decide) (by decide)) rfl

@[simp] theorem State.fld_lcRefuse (s : State) (code : Nat) {fq : Fld} (jx : Nat) (hf : regOk 0x8000020000000000000000000000000000000000000000000000000000000000000000000000000000000000000000000000000000000000000000000000000000000000000000000000000000000000000000000000002000000000c00 fq.id = false) :
    (State.lcRefuse s code).fld fq jx = s.fld fq jx := State.lcRefuse_k (loose_fld hf) rfl code

@[simp] theorem State.lane_lcRefuse (s : State) (code : Nat) (jx : Nat) : (State.lcRefuse s code).lane jx = s.lane jx :=
  State.lcRefuse_k (loose_lane s jx (by decide) (by decide)) rfl code

@[simp] theorem State.fld_enterLife (s : State) (r : List (BitVec 8)) (now target : Nat) {fq : Fld} (jx : Nat) (hf : regOk 0x2000200000000 fq.id = false) :
    (State.enterLife s r now target).fld fq jx = s.fld fq jx := State.enterLife_k (loose_fld hf) rfl r now target

@[simp] theorem State.lane_enterLife (s : State) (r : List (BitVec 8)) (now target : Nat) (jx : Nat) : (State.enterLife s r now target).lane jx = s.lane jx :=
  State.enterLife_k (loose_lane s jx (by decide) (by decide)) rfl r now target

@[simp] theorem State.fld_wipeJournal (s : State) {fq : Fld} (jx : Nat) (hf : regOk 0xde000400000000000000000000000000000000000000000000000000000000000000000000000000000000000000000000000000000000000000100000c00 fq.id = false) :
    (State.wipeJournal s).fld fq jx = s.fld fq jx := State.wipeJournal_k (loose_fld hf) rfl

@[simp] theorem State.lane_wipeJournal (s : State) (jx : Nat) : (State.wipeJournal s).lane jx = s.lane jx :=
  State.wipeJournal_k (loose_lane s jx (by decide) (by decide)) rfl

@[simp] theorem State.fld_wipeRings (s : State) {fq : Fld} (jx : Nat) (hf : regOk 0x18006000000000000000000000c000000000000000000000000000000000000000000003000000000000000000000000000000000000000000000000000000080000000000000000000000000000000000000000080000000 fq.id = false) :
    (State.wipeRings s).fld fq jx = s.fld fq jx := State.wipeRings_k (loose_fld hf) rfl

@[simp] theorem State.lane_wipeRings (s : State) (jx : Nat) : (State.wipeRings s).lane jx = s.lane jx :=
  State.wipeRings_k (loose_lane s jx (by decide) (by decide)) rfl

@[simp] theorem State.fld_wipe (s : State) {fq : Fld} (jx : Nat) (hf : regOk 0x3c0000000400018006000000000000000000000c0000000000000000000000000de000400000000000003000000000000000000000000000000000000000000000000000000080000000000000000000000000000000004040020580020c00 fq.id = false) :
    (State.wipe s).fld fq jx = s.fld fq jx := State.wipe_k (loose_fld hf) rfl

@[simp] theorem State.lane_wipe (s : State) (jx : Nat) : (State.wipe s).lane jx = s.lane jx :=
  State.wipe_k (loose_lane s jx (by decide) (by decide)) rfl

@[simp] theorem State.fld_tickRekey (s : State) {fq : Fld} (jx : Nat) (hf : regOk 0x400000000000000000000000000000000000000000000000000000000000000000000000000000000000000000000000000000000000000000000000000000000000000000000000000000000000000000000000000000040000000000000 fq.id = false) :
    (State.tickRekey s).fld fq jx = s.fld fq jx := State.tickRekey_k (loose_fld hf) rfl

@[simp] theorem State.lane_tickRekey (s : State) (jx : Nat) : (State.tickRekey s).lane jx = s.lane jx :=
  State.tickRekey_k (loose_lane s jx (by decide) (by decide)) rfl

@[simp] theorem State.fld_stopSubst (s : State) {fq : Fld} (jx : Nat) (hf : regOk 0x2000000000000000000000000000000000000000000000000000000000000000000000000000000000000000000000000000000000000000000000000000000000000000000000000000000000000000000000020000080002000 fq.id = false) :
    (State.stopSubst s).fld fq jx = s.fld fq jx := State.stopSubst_k (loose_fld hf) rfl

@[simp] theorem State.fld_stopLive (s : State) {fq : Fld} (jx : Nat) (hf : regOk 0xa000000000040000000000000000000000000000000000000000000000000000000000000000000000000000000000000000000000000000000000000000000000000000000d00 fq.id = false) :
    (State.stopLive s).fld fq jx = s.fld fq jx := State.stopLive_k (loose_fld hf) rfl

@[simp] theorem State.lane_stopLive (s : State) (jx : Nat) : (State.stopLive s).lane jx = s.lane jx :=
  State.stopLive_k (loose_lane s jx (by decide) (by decide)) rfl

@[simp] theorem State.fld_lockPorts (s : State) {fq : Fld} (jx : Nat) (hf : regOk 0x800000000000000000000000000000003e000000000000000000000000000000000000000000000000000000000000000000000000000000000000000000000000000000000000000000000000000000000000000001000000c00 fq.id = false) :
    (State.lockPorts s).fld fq jx = s.fld fq jx := State.lockPorts_k (loose_fld hf) rfl

@[simp] theorem State.lane_lockPorts (s : State) (jx : Nat) : (State.lockPorts s).lane jx = s.lane jx :=
  State.lockPorts_k (loose_lane s jx (by decide) (by decide)) rfl

@[simp] theorem State.fld_tamperPolicy (s : State) {fq : Fld} (jx : Nat) (hf : regOk 0x1a00000000000000000000000000000003e00000a0000000000400000000004e9000000000000000000000000000000000000000000000000000000000000000000000000000000000000000000000000000000020001180002d00 fq.id = false) :
    (State.tamperPolicy s).fld fq jx = s.fld fq jx := State.tamperPolicy_k (loose_fld hf) rfl

@[simp] theorem State.fld_abandonLc (s : State) {fq : Fld} (jx : Nat) (hf : regOk 0x88000020000000000000000000000000000000000000000000000000000000000000000000000000000000000000000000000000000000000000000000000000000000000000000000000000000000000000000000000042000000000d00 fq.id = false) :
    (State.abandonLc s).fld fq jx = s.fld fq jx := State.abandonLc_k (loose_fld hf) rfl

@[simp] theorem State.lane_abandonLc (s : State) (jx : Nat) : (State.abandonLc s).lane jx = s.lane jx :=
  State.abandonLc_k (loose_lane s jx (by decide) (by decide)) rfl

@[simp] theorem State.fld_tamperRaising (s : State) {fq : Fld} (jx : Nat) (hf : regOk 0x3800000000000000000000000000000000000000000000000000000000000000000000000000000000000000000000000000000000000000000000000000000000 fq.id = false) :
    (State.tamperRaising s).fld fq jx = s.fld fq jx := State.tamperRaising_k (loose_fld hf) rfl

@[simp] theorem State.lane_tamperRaising (s : State) (jx : Nat) : (State.tamperRaising s).lane jx = s.lane jx :=
  State.tamperRaising_k (loose_lane s jx (by decide) (by decide)) rfl

@[simp] theorem State.fld_startResponse (s : State) (mask : Nat) {fq : Fld} (jx : Nat) (hf : regOk 0x3c8b00003e00018006000000000000000000000c03e00000a0000000000438000de0004e9000000000003000000000000000000000000000000000000000000000000000000080000000000000000000000000000000004066021580022d00 fq.id = false) :
    (State.startResponse s mask).fld fq jx = s.fld fq jx := State.startResponse_k (loose_fld hf) rfl mask

@[simp] theorem State.fld_hold (s : State) (m off w : Nat) {fq : Fld} (jx : Nat) (hf : regOk 0x20 fq.id = false) :
    (State.hold s m off w).fld fq jx = s.fld fq jx := State.hold_k (loose_fld hf) rfl m off w

@[simp] theorem State.lane_hold (s : State) (m off w : Nat) (jx : Nat) : (State.hold s m off w).lane jx = s.lane jx :=
  State.hold_k (loose_lane s jx (by decide) (by decide)) rfl m off w

@[simp] theorem State.fld_unhold (s : State) (m off : Nat) {fq : Fld} (jx : Nat) (hf : regOk 0x20 fq.id = false) :
    (State.unhold s m off).fld fq jx = s.fld fq jx := State.unhold_k (loose_fld hf) rfl m off

@[simp] theorem State.lane_unhold (s : State) (m off : Nat) (jx : Nat) : (State.unhold s m off).lane jx = s.lane jx :=
  State.unhold_k (loose_lane s jx (by decide) (by decide)) rfl m off

@[simp] theorem State.fld_tunnelEnd (s : State) (result : Nat) {fq : Fld} (jx : Nat) (hf : regOk 0xc00020000000000000000000000000000000000000000000000000000000000000000000000000000000000000000000000000000000000000000000000000000000000000000004000000c00 fq.id = false) :
    (State.tunnelEnd s result).fld fq jx = s.fld fq jx := State.tunnelEnd_k (loose_fld hf) rfl result

@[simp] theorem State.lane_tunnelEnd (s : State) (result : Nat) (jx : Nat) : (State.tunnelEnd s result).lane jx = s.lane jx :=
  State.tunnelEnd_k (loose_lane s jx (by decide) (by decide)) rfl result

@[simp] theorem State.fld_tunnelCtrl (s : State) (w : Nat) {fq : Fld} (jx : Nat) (hf : regOk 0xc00020000000000000000000000000000000000000000000000000000000000000000000000000000000000000000000000000000000000000000000000000000000000000000004000000c00 fq.id = false) :
    (State.tunnelCtrl s w).fld fq jx = s.fld fq jx := State.tunnelCtrl_k (loose_fld hf) rfl w

@[simp] theorem State.lane_tunnelCtrl (s : State) (w : Nat) (jx : Nat) : (State.tunnelCtrl s w).lane jx = s.lane jx :=
  State.tunnelCtrl_k (loose_lane s jx (by decide) (by decide)) rfl w

@[simp] theorem State.fld_ownerWrite (s : State) (m w : Nat) {fq : Fld} (jx : Nat) (hf : regOk 0x3c000000000000000000000000000000000000000000000000000000000000000000000000000000000000000000000000000000000000000000000000000000000000000001000000c20 fq.id = false) :
    (State.ownerWrite s m w).fld fq jx = s.fld fq jx := State.ownerWrite_k (loose_fld hf) rfl m w

@[simp] theorem State.lane_ownerWrite (s : State) (m w : Nat) (jx : Nat) : (State.ownerWrite s m w).lane jx = s.lane jx :=
  State.ownerWrite_k (loose_lane s jx (by decide) (by decide)) rfl m w

@[simp] theorem State.fld_writeEffect (s : State) (old : State) (m id i w : Nat) (img : Option SlotImage) {fq : Fld} (jx : Nat) (hf : regOk 0x8000400200000000b00550000000000000c0003c00080e0503c000807b81e0de000429000000000000007980000400000400000000008191fe200100000000000000000014000000009ffb1e00090003061a01a0b400327525f87332d24 fq.id = false) :
    (State.writeEffect s old m id i w img).fld fq jx = s.fld fq jx := State.writeEffect_k (loose_fld hf) rfl old m id i w img

@[simp] theorem State.fld_journalWrite (s : State) (r : Reg) (i w : Nat) {fq : Fld} (jx : Nat) (hf : regOk 0xde000400000000000000000000000000000000000000000000000000000000000000000000000000000000000000000000000000000000100000100000c00 fq.id = false) :
    (State.journalWrite s r i w).fld fq jx = s.fld fq jx := State.journalWrite_k (loose_fld hf) rfl r i w

@[simp] theorem State.lane_journalWrite (s : State) (r : Reg) (i w : Nat) (jx : Nat) : (State.journalWrite s r i w).lane jx = s.lane jx :=
  State.journalWrite_k (loose_lane s jx (by decide) (by decide)) rfl r i w

@[simp] theorem State.fld_writeTallyWord (s : State) (t w : Nat) {fq : Fld} (jx : Nat) (hf : regOk 0x82000000000000 fq.id = false) :
    (State.writeTallyWord s t w).fld fq jx = s.fld fq jx := State.writeTallyWord_k (loose_fld hf) rfl t w

@[simp] theorem State.lane_writeTallyWord (s : State) (t w : Nat) (jx : Nat) : (State.writeTallyWord s t w).lane jx = s.lane jx :=
  State.writeTallyWord_k (loose_lane s jx (by decide) (by decide)) rfl t w

@[simp] theorem State.fld_writeOpen (s : State) (m x w : Nat) {fq : Fld} (jx : Nat) (hf : regOk 0x1e400000000000000000000000000000000000000000000000000000000000000000000000000000000000000000000000000000000000000000000000000000000000000000000000000800000e00 fq.id = false) :
    (State.writeOpen s m x w).fld fq jx = s.fld fq jx := State.writeOpen_k (loose_fld hf) rfl m x w

@[simp] theorem State.lane_writeOpen (s : State) (m x w : Nat) (jx : Nat) : (State.writeOpen s m x w).lane jx = s.lane jx :=
  State.writeOpen_k (loose_lane s jx (by decide) (by decide)) rfl m x w

@[simp] theorem State.fld_regRead (s : State) (m id i : Nat) {fq : Fld} (jx : Nat) (hf : regOk 0x10000000001e600000000000000000200000000000000000000000000000000000000000000000000000000000000000000000000000000000000000000000000000000000000000000000000401080090800fd0 fq.id = false) :
    (State.regRead s m id i).fld fq jx = s.fld fq jx := State.regRead_k (loose_fld hf) rfl m id i

@[simp] theorem State.lane_regRead (s : State) (m id i : Nat) (jx : Nat) : (State.regRead s m id i).lane jx = s.lane jx :=
  State.regRead_k (loose_lane s jx (by decide) (by decide)) rfl m id i

@[simp] theorem State.fld_bankAddWritten (s : State) (c n : Nat) {fq : Fld} (jx : Nat) (hf : regOk 0x200000000800000000000000000000000000000000000000000000000000000000000000000000000000000000000000000000000000000000000000000000000000000000000000000000000000000000000000000000000c00 fq.id = false) :
    (State.bankAddWritten s c n).fld fq jx = s.fld fq jx := State.bankAddWritten_k (loose_fld hf) rfl c n

@[simp] theorem State.lane_bankAddWritten (s : State) (c n : Nat) (jx : Nat) : (State.bankAddWritten s c n).lane jx = s.lane jx :=
  State.bankAddWritten_k (loose_lane s jx (by decide) (by decide)) rfl c n

@[simp] theorem State.fld_spiAnswer (s : State) (st : Status) (ws : List Nat) {fq : Fld} (jx : Nat) (hf : regOk 0x200 fq.id = false) :
    (State.spiAnswer s st ws).fld fq jx = s.fld fq jx := State.spiAnswer_k (loose_fld hf) rfl st ws

@[simp] theorem State.lane_spiAnswer (s : State) (st : Status) (ws : List Nat) (jx : Nat) : (State.spiAnswer s st ws).lane jx = s.lane jx :=
  State.spiAnswer_k (loose_lane s jx (by decide) (by decide)) rfl st ws

@[simp] theorem State.fld_spiEarly (s : State) (words : Nat) {fq : Fld} (jx : Nat) (hf : regOk 0x200 fq.id = false) :
    (State.spiEarly s words).fld fq jx = s.fld fq jx := State.spiEarly_k (loose_fld hf) rfl words

@[simp] theorem State.lane_spiEarly (s : State) (words : Nat) (jx : Nat) : (State.spiEarly s words).lane jx = s.lane jx :=
  State.spiEarly_k (loose_lane s jx (by decide) (by decide)) rfl words

@[simp] theorem State.fld_firstTick (s : State) {fq : Fld} (jx : Nat) (hf : regOk 0x100000000000000000000000000000000000000000000000000000000000000000000000000000000000000083b0000000000000000000000000000000000000000000000000000000000000000000000000000010000000080000c00 fq.id = false) :
    (State.firstTick s).fld fq jx = s.fld fq jx := State.firstTick_k (loose_fld hf) rfl

@[simp] theorem State.lane_firstTick (s : State) (jx : Nat) : (State.firstTick s).lane jx = s.lane jx :=
  State.firstTick_k (loose_lane s jx (by decide) (by decide)) rfl

@[simp] theorem State.fld_nextFrame (s : State) {fq : Fld} (jx : Nat) (hf : regOk 0x80100600051c0002000 fq.id = false) :
    (State.nextFrame s).fld fq jx = s.fld fq jx := State.nextFrame_k (loose_fld hf) rfl

@[simp] theorem State.fld_countCycles (s : State) {fq : Fld} (jx : Nat) (hf : regOk 0x200000000800000000000000000000000000000000000000000000000000000000000000000000000000000000000000000000000000000000000000000000000000000000000000000000000000000000000000000080000d00 fq.id = false) :
    (State.countCycles s).fld fq jx = s.fld fq jx := State.countCycles_k (loose_fld hf) rfl

@[simp] theorem State.lane_countCycles (s : State) (jx : Nat) : (State.countCycles s).lane jx = s.lane jx :=
  State.countCycles_k (loose_lane s jx (by decide) (by decide)) rfl

@[simp] theorem State.fld_countTick (s : State) {fq : Fld} (jx : Nat) (hf : regOk 0x200000000800000000000000000000000000000000000000000000000000000000000000000000000000000000000000000000000000000000000000000000000000000000000000000000000000000000000000000080000c00 fq.id = false) :
    (State.countTick s).fld fq jx = s.fld fq jx := State.countTick_k (loose_fld hf) rfl

@[simp] theorem State.lane_countTick (s : State) (jx : Nat) : (State.countTick s).lane jx = s.lane jx :=
  State.countTick_k (loose_lane s jx (by decide) (by decide)) rfl

@[simp] theorem State.fld_primeScenes (s : State) {fq : Fld} (jx : Nat) (hf : regOk 0x8000000000000000000000000000000000000000000000000000000000000000000000000000000 fq.id = false) :
    (State.primeScenes s).fld fq jx = s.fld fq jx := State.primeScenes_k (loose_fld hf) rfl

@[simp] theorem State.lane_primeScenes (s : State) (jx : Nat) : (State.primeScenes s).lane jx = s.lane jx :=
  State.primeScenes_k (loose_lane s jx (by decide) (by decide)) rfl

@[simp] theorem State.fld_declareOof (s : State) (n : Nat) {fq : Fld} (jx : Nat) (hf : regOk 0x9ffa0000000003040000000000020000000002c00 fq.id = false) :
    (State.declareOof s n).fld fq jx = s.fld fq jx := State.declareOof_k (loose_fld hf) rfl n

@[simp] theorem State.fld_judgeLevels (s : State) (n : Nat) (rs : List RowLevel) {fq : Fld} (jx : Nat) (hf : regOk 0x2000 fq.id = false) :
    (State.judgeLevels s n rs).fld fq jx = s.fld fq jx := State.judgeLevels_k (loose_fld hf) rfl n rs

@[simp] theorem State.fld_refreshTraining (s : State) (n : Nat) {fq : Fld} (jx : Nat) (hf : regOk 0x2000 fq.id = false) :
    (State.refreshTraining s n).fld fq jx = s.fld fq jx := State.refreshTraining_k (loose_fld hf) rfl n

@[simp] theorem State.fld_sendNak (s : State) (n seq : Nat) {fq : Fld} (jx : Nat) (hf : regOk 0x2000 fq.id = false) :
    (State.sendNak s n seq).fld fq jx = s.fld fq jx := State.sendNak_k (loose_fld hf) rfl n seq

@[simp] theorem State.fld_ackInFrame (s : State) (n seq : Nat) {fq : Fld} (jx : Nat) (hf : regOk 0x2000 fq.id = false) :
    (State.ackInFrame s n seq).fld fq jx = s.fld fq jx := State.ackInFrame_k (loose_fld hf) rfl n seq

@[simp] theorem State.fld_carryOwn (s : State) (x : Nat) {fq : Fld} (jx : Nat) (hf : regOk 0x1000200000000000000000000 fq.id = false) :
    (State.carryOwn s x).fld fq jx = s.fld fq jx := State.carryOwn_k (loose_fld hf) rfl x

@[simp] theorem State.lane_carryOwn (s : State) (x : Nat) (jx : Nat) : (State.carryOwn s x).lane jx = s.lane jx :=
  State.carryOwn_k (loose_lane s jx (by decide) (by decide)) rfl x

@[simp] theorem State.fld_backLeaves (s : State) (x : Nat) {fq : Fld} (jx : Nat) (hf : regOk 0x40000000000000000000002c00 fq.id = false) :
    (State.backLeaves s x).fld fq jx = s.fld fq jx := State.backLeaves_k (loose_fld hf) rfl x

@[simp] theorem State.fld_tickSpare (s : State) (n : Nat) {fq : Fld} (jx : Nat) (hf : regOk 0x400000000000000000000000000000000000000000000000000000000000000000000000000000000000000000000000000000000000000000000000000000000000000000000000001e00000000001000200000000000000002000 fq.id = false) :
    (State.tickSpare s n).fld fq jx = s.fld fq jx := State.tickSpare_k (loose_fld hf) rfl n

@[simp] theorem State.fld_badPacket (s : State) (n : Nat) {fq : Fld} (jx : Nat) (hf : regOk 0x100000000080000000000000000000000000000000000000c00 fq.id = false) :
    (State.badPacket s n).fld fq jx = s.fld fq jx := State.badPacket_k (loose_fld hf) rfl n

@[simp] theorem State.lane_badPacket (s : State) (n : Nat) (jx : Nat) : (State.badPacket s n).lane jx = s.lane jx :=
  State.badPacket_k (loose_lane s jx (by decide) (by decide)) rfl n

@[simp] theorem State.fld_dropPacket (s : State) (n : Nat) {fq : Fld} (jx : Nat) (hf : regOk 0x100000000080000000000000000000000000000000000002c00 fq.id = false) :
    (State.dropPacket s n).fld fq jx = s.fld fq jx := State.dropPacket_k (loose_fld hf) rfl n

@[simp] theorem State.fld_oofAfter (s : State) (n : Nat) (was : Bool) {fq : Fld} (jx : Nat) (hf : regOk 0x9ffa0000000003040000000000020000000002c00 fq.id = false) :
    (State.oofAfter s n was).fld fq jx = s.fld fq jx := State.oofAfter_k (loose_fld hf) rfl n was

@[simp] theorem State.fld_newCopy (s : State) {fq : Fld} (jx : Nat) (hf : regOk 0x8e000000000000000000000000000000000000000000000000000000000000000000000000000000000000000000000000000000000000000000100000000 fq.id = false) :
    (State.newCopy s).fld fq jx = s.fld fq jx := State.newCopy_k (loose_fld hf) rfl

@[simp] theorem State.lane_newCopy (s : State) (jx : Nat) : (State.newCopy s).lane jx = s.lane jx :=
  State.newCopy_k (loose_lane s jx (by decide) (by decide)) rfl

@[simp] theorem State.fld_drainMch (s : State) (n x : Nat) {fq : Fld} (jx : Nat) (hf : regOk 0x2000 fq.id = false) :
    (State.drainMch s n x).fld fq jx = s.fld fq jx := State.drainMch_k (loose_fld hf) rfl n x

@[simp] theorem State.fld_keepEdge (s : State) (i : Nat) (x : Int) {fq : Fld} (jx : Nat) (hf : regOk 0x80000000 fq.id = false) :
    (State.keepEdge s i x).fld fq jx = s.fld fq jx := State.keepEdge_k (loose_fld hf) rfl i x

@[simp] theorem State.lane_keepEdge (s : State) (i : Nat) (x : Int) (jx : Nat) : (State.keepEdge s i x).lane jx = s.lane jx :=
  State.keepEdge_k (loose_lane s jx (by decide) (by decide)) rfl i x

@[simp] theorem State.fld_endCapture (s : State) {fq : Fld} (jx : Nat) (hf : regOk 0x297c00000000000000000000000000000000000000000000000000000000000000000000000000000000000000000000000000080000000 fq.id = false) :
    (State.endCapture s).fld fq jx = s.fld fq jx := State.endCapture_k (loose_fld hf) rfl

@[simp] theorem State.lane_endCapture (s : State) (jx : Nat) : (State.endCapture s).lane jx = s.lane jx :=
  State.endCapture_k (loose_lane s jx (by decide) (by decide)) rfl

@[simp] theorem State.fld_endCoast (s : State) (i : Nat) (gathered : Int) {fq : Fld} (jx : Nat) (hf : regOk 0x80000000 fq.id = false) :
    (State.endCoast s i gathered).fld fq jx = s.fld fq jx := State.endCoast_k (loose_fld hf) rfl i gathered

@[simp] theorem State.lane_endCoast (s : State) (i : Nat) (gathered : Int) (jx : Nat) : (State.endCoast s i gathered).lane jx = s.lane jx :=
  State.endCoast_k (loose_lane s jx (by decide) (by decide)) rfl i gathered

@[simp] theorem State.fld_acquire (s : State) (r : Nat) {fq : Fld} (jx : Nat) (hf : regOk 0x4000000080b0000000000000000000000000000000000000000000000000000000000000000000000000000000000000480000d00 fq.id = false) :
    (State.acquire s r).fld fq jx = s.fld fq jx := State.acquire_k (loose_fld hf) rfl r

@[simp] theorem State.lane_acquire (s : State) (r : Nat) (jx : Nat) : (State.acquire s r).lane jx = s.lane jx :=
  State.acquire_k (loose_lane s jx (by decide) (by decide)) rfl r

@[simp] theorem State.fld_tickPhase (s : State) {fq : Fld} (jx : Nat) (hf : regOk 0x10000000000000000000000000000000000000000000000000000000000000000000000000000000000000000000000080000100 fq.id = false) :
    (State.tickPhase s).fld fq jx = s.fld fq jx := State.tickPhase_k (loose_fld hf) rfl

@[simp] theorem State.lane_tickPhase (s : State) (jx : Nat) : (State.tickPhase s).lane jx = s.lane jx :=
  State.tickPhase_k (loose_lane s jx (by decide) (by decide)) rfl

@[simp] theorem State.fld_tickTemp (s : State) {fq : Fld} (jx : Nat) (hf : regOk 0x8000000000000000000000000000000000000000000000000000000000000000000000000000000000000000000000080000100 fq.id = false) :
    (State.tickTemp s).fld fq jx = s.fld fq jx := State.tickTemp_k (loose_fld hf) rfl

@[simp] theorem State.lane_tickTemp (s : State) (jx : Nat) : (State.tickTemp s).lane jx = s.lane jx :=
  State.tickTemp_k (loose_lane s jx (by decide) (by decide)) rfl

@[simp] theorem State.fld_tickCores (s : State) {fq : Fld} (jx : Nat) (hf : regOk 0x80000000 fq.id = false) :
    (State.tickCores s).fld fq jx = s.fld fq jx := State.tickCores_k (loose_fld hf) rfl

@[simp] theorem State.lane_tickCores (s : State) (jx : Nat) : (State.tickCores s).lane jx = s.lane jx :=
  State.tickCores_k (loose_lane s jx (by decide) (by decide)) rfl

@[simp] theorem State.fld_copyCore (s : State) {fq : Fld} (jx : Nat) (hf : regOk 0x80000000 fq.id = false) :
    (State.copyCore s).fld fq jx = s.fld fq jx := State.copyCore_k (loose_fld hf) rfl

@[simp] theorem State.lane_copyCore (s : State) (jx : Nat) : (State.copyCore s).lane jx = s.lane jx :=
  State.copyCore_k (loose_lane s jx (by decide) (by decide)) rfl

@[simp] theorem State.fld_showHold (s : State) {fq : Fld} (jx : Nat) (hf : regOk 0x400000000000000000000000000000000000000000000000000000000000000000000000000000000000000000000000000000 fq.id = false) :
    (State.showHold s).fld fq jx = s.fld fq jx := State.showHold_k (loose_fld hf) rfl

@[simp] theorem State.lane_showHold (s : State) (jx : Nat) : (State.showHold s).lane jx = s.lane jx :=
  State.showHold_k (loose_lane s jx (by decide) (by decide)) rfl

@[simp] theorem State.fld_makeStale (s : State) {fq : Fld} (jx : Nat) (hf : regOk 0x1000000 fq.id = false) :
    (State.makeStale s).fld fq jx = s.fld fq jx := State.makeStale_k (loose_fld hf) rfl

@[simp] theorem State.lane_makeStale (s : State) (jx : Nat) : (State.makeStale s).lane jx = s.lane jx :=
  State.makeStale_k (loose_lane s jx (by decide) (by decide)) rfl

@[simp] theorem State.fld_setSides (s : State) (t : Tab SideSt) {fq : Fld} (jx : Nat) (hf : regOk 0x20000000 fq.id = false) :
    (State.setSides s t).fld fq jx = s.fld fq jx := State.setSides_k (loose_fld hf) rfl t

@[simp] theorem State.lane_setSides (s : State) (t : Tab SideSt) (jx : Nat) : (State.setSides s t).lane jx = s.lane jx :=
  State.setSides_k (loose_lane s jx (by decide) (by decide)) rfl t

@[simp] theorem State.fld_watchOver (s : State) {fq : Fld} (jx : Nat) (hf : regOk 0x400000000000000000000000000000000000000000000000000000000000c00 fq.id = false) :
    (State.watchOver s).fld fq jx = s.fld fq jx := State.watchOver_k (loose_fld hf) rfl

@[simp] theorem State.lane_watchOver (s : State) (jx : Nat) : (State.watchOver s).lane jx = s.lane jx :=
  State.watchOver_k (loose_lane s jx (by decide) (by decide)) rfl

@[simp] theorem State.fld_returnWord (s : State) (k m : Nat) (late : Nat → Bool) (x : Membership) {fq : Fld} (jx : Nat) (hf : regOk 0x4000400000000000000000000000000000000000000000000000000000000040d00 fq.id = false) :
    (State.returnWord s k m late x).fld fq jx = s.fld fq jx := State.returnWord_k (loose_fld hf) rfl k m late x

@[simp] theorem State.lane_returnWord (s : State) (k m : Nat) (late : Nat → Bool) (x : Membership) (jx : Nat) : (State.returnWord s k m late x).lane jx = s.lane jx :=
  State.returnWord_k (loose_lane s jx (by decide) (by decide)) rfl k m late x

@[simp] theorem State.fld_fillReturn (s : State) (r m : Nat) (late : Nat → Bool) {fq : Fld} (jx : Nat) (hf : regOk 0x100000000000000000000000000000000000000000000000000000000000000000000000000000000000000000000000000004000400000000000000000000000000000000000000000000000000000000040d00 fq.id = false) :
    (State.fillReturn s r m late).fld fq jx = s.fld fq jx := State.fillReturn_k (loose_fld hf) rfl r m late

@[simp] theorem State.lane_fillReturn (s : State) (r m : Nat) (late : Nat → Bool) (jx : Nat) : (State.fillReturn s r m late).lane jx = s.lane jx :=
  State.fillReturn_k (loose_lane s jx (by decide) (by decide)) rfl r m late

@[simp] theorem State.fld_closeReturns (s : State) (m : Nat) {fq : Fld} (jx : Nat) (hf : regOk 0x100000000000000000000000000000000000000000000000000000000000000000000000000000000000000000000000000004000400000000000000000000000000000000000000000000000000000000040d00 fq.id = false) :
    (State.closeReturns s m).fld fq jx = s.fld fq jx := State.closeReturns_k (loose_fld hf) rfl m

@[simp] theorem State.lane_closeReturns (s : State) (m : Nat) (jx : Nat) : (State.closeReturns s m).lane jx = s.lane jx :=
  State.closeReturns_k (loose_lane s jx (by decide) (by decide)) rfl m

@[simp] theorem State.fld_countKerf (s : State) (m lam : Nat) (g : KerfWord) {fq : Fld} (jx : Nat) (hf : regOk 0x1000000000000000000000000000000000000000000000000000000000000000000 fq.id = false) :
    (State.countKerf s m lam g).fld fq jx = s.fld fq jx := State.countKerf_k (loose_fld hf) rfl m lam g

@[simp] theorem State.lane_countKerf (s : State) (m lam : Nat) (g : KerfWord) (jx : Nat) : (State.countKerf s m lam g).lane jx = s.lane jx :=
  State.countKerf_k (loose_lane s jx (by decide) (by decide)) rfl m lam g

@[simp] theorem State.fld_recordKerf (s : State) (fails : List KerfWord) {fq : Fld} (jx : Nat) (hf : regOk 0x1f00400000000000000000000000000000000000000000000000020000000000c00 fq.id = false) :
    (State.recordKerf s fails).fld fq jx = s.fld fq jx := State.recordKerf_k (loose_fld hf) rfl fails

@[simp] theorem State.lane_recordKerf (s : State) (fails : List KerfWord) (jx : Nat) : (State.recordKerf s fails).lane jx = s.lane jx :=
  State.recordKerf_k (loose_lane s jx (by decide) (by decide)) rfl fails

@[simp] theorem State.fld_dropPending (s : State) {fq : Fld} (jx : Nat) (hf : regOk 0x100000 fq.id = false) :
    (State.dropPending s).fld fq jx = s.fld fq jx := State.dropPending_k (loose_fld hf) rfl

@[simp] theorem State.lane_dropPending (s : State) (jx : Nat) : (State.dropPending s).lane jx = s.lane jx :=
  State.dropPending_k (loose_lane s jx (by decide) (by decide)) rfl

@[simp] theorem State.fld_noteApply (s : State) (old : State) {fq : Fld} (jx : Nat) (hf : regOk 0x100000000 fq.id = false) :
    (State.noteApply s old).fld fq jx = s.fld fq jx := State.noteApply_k (loose_fld hf) rfl old

@[simp] theorem State.lane_noteApply (s : State) (old : State) (jx : Nat) : (State.noteApply s old).lane jx = s.lane jx :=
  State.noteApply_k (loose_lane s jx (by decide) (by decide)) rfl old

@[simp] theorem State.fld_imageDefaults (s : State) {fq : Fld} (jx : Nat) (hf : regOk 0x8000000000000004 fq.id = false) :
    (State.imageDefaults s).fld fq jx = s.fld fq jx := State.imageDefaults_k (loose_fld hf) rfl

@[simp] theorem State.lane_imageDefaults (s : State) (jx : Nat) : (State.imageDefaults s).lane jx = s.lane jx :=
  State.imageDefaults_k (loose_lane s jx (by decide) (by decide)) rfl

@[simp] theorem State.fld_closeGrain (s : State) {fq : Fld} (jx : Nat) (hf : regOk 0x20000000 fq.id = false) :
    (State.closeGrain s).fld fq jx = s.fld fq jx := State.closeGrain_k (loose_fld hf) rfl

@[simp] theorem State.lane_closeGrain (s : State) (jx : Nat) : (State.closeGrain s).lane jx = s.lane jx :=
  State.closeGrain_k (loose_lane s jx (by decide) (by decide)) rfl

@[simp] theorem State.fld_txInvCommitted (s : State) (n : Nat) {fq : Fld} (jx : Nat) (hf : regOk 0x2000 fq.id = false) :
    (State.txInvCommitted s n).fld fq jx = s.fld fq jx := State.txInvCommitted_k (loose_fld hf) rfl n

@[simp] theorem State.fld_keepPast (s : State) (v : Values) (cseq : Nat) {fq : Fld} (jx : Nat) (hf : regOk 0x100000000 fq.id = false) :
    (State.keepPast s v cseq).fld fq jx = s.fld fq jx := State.keepPast_k (loose_fld hf) rfl v cseq

@[simp] theorem State.lane_keepPast (s : State) (v : Values) (cseq : Nat) (jx : Nat) : (State.keepPast s v cseq).lane jx = s.lane jx :=
  State.keepPast_k (loose_lane s jx (by decide) (by decide)) rfl v cseq

@[simp] theorem State.fld_tidyStaged (s : State) {fq : Fld} (jx : Nat) (hf : regOk 0x4 fq.id = false) :
    (State.tidyStaged s).fld fq jx = s.fld fq jx := State.tidyStaged_k (loose_fld hf) rfl

@[simp] theorem State.lane_tidyStaged (s : State) (jx : Nat) : (State.tidyStaged s).lane jx = s.lane jx :=
  State.tidyStaged_k (loose_lane s jx (by decide) (by decide)) rfl

@[simp] theorem State.fld_matchFrame (s : State) {fq : Fld} (jx : Nat) (hf : regOk 0x100000000 fq.id = false) :
    (State.matchFrame s).fld fq jx = s.fld fq jx := State.matchFrame_k (loose_fld hf) rfl

@[simp] theorem State.lane_matchFrame (s : State) (jx : Nat) : (State.matchFrame s).lane jx = s.lane jx :=
  State.matchFrame_k (loose_lane s jx (by decide) (by decide)) rfl

@[simp] theorem State.fld_setArb (s : State) (asserted : Bool) {fq : Fld} (jx : Nat) (hf : regOk 0x4000000000000000000000000000000000000000000000000000000000000000000000000000000000000000000000000000000000000100000000 fq.id = false) :
    (State.setArb s asserted).fld fq jx = s.fld fq jx := State.setArb_k (loose_fld hf) rfl asserted

@[simp] theorem State.lane_setArb (s : State) (asserted : Bool) (jx : Nat) : (State.setArb s asserted).lane jx = s.lane jx :=
  State.setArb_k (loose_lane s jx (by decide) (by decide)) rfl asserted

@[simp] theorem State.fld_tellSlice (s : State) (j all : Nat) {fq : Fld} (jx : Nat) (hf : regOk 0xc000000000000000000000000000000000000000000000000000000000000000000000000000000000000000000000000000000000000000000100000000 fq.id = false) :
    (State.tellSlice s j all).fld fq jx = s.fld fq jx := State.tellSlice_k (loose_fld hf) rfl j all

@[simp] theorem State.lane_tellSlice (s : State) (j all : Nat) (jx : Nat) : (State.tellSlice s j all).lane jx = s.lane jx :=
  State.tellSlice_k (loose_lane s jx (by decide) (by decide)) rfl j all

@[simp] theorem State.fld_decideUnlessVetoed (s : State) (cause : Nat) {fq : Fld} (jx : Nat) (hf : regOk 0x1e000000400000000000000000000000000000000000000000000000000000000000000000000000000000000000000000000000000000000000000100000c00 fq.id = false) :
    (State.decideUnlessVetoed s cause).fld fq jx = s.fld fq jx := State.decideUnlessVetoed_k (loose_fld hf) rfl cause

@[simp] theorem State.lane_decideUnlessVetoed (s : State) (cause : Nat) (jx : Nat) : (State.decideUnlessVetoed s cause).lane jx = s.lane jx :=
  State.decideUnlessVetoed_k (loose_lane s jx (by decide) (by decide)) rfl cause

@[simp] theorem State.fld_snapNow (s : State) {fq : Fld} (jx : Nat) (hf : regOk 0x1e10000000d00000000000000000000000000000000000000000000000000000000000000000000000000000000000000000000000000000000000000000000000000000000000000000000000000000000040000b40080000c02 fq.id = false) :
    (State.snapNow s).fld fq jx = s.fld fq jx := State.snapNow_k (loose_fld hf) rfl

@[simp] theorem State.lane_snapNow (s : State) (jx : Nat) : (State.snapNow s).lane jx = s.lane jx :=
  State.snapNow_k (loose_lane s jx (by decide) (by decide)) rfl

@[simp] theorem State.fld_takeOffline (s : State) (n : Nat) {fq : Fld} (jx : Nat) (hf : regOk 0x410000000000000000000000000000000000000000000000000000000000000000000000000000000000000000000000000000000000000000000000000000000000000000000000000000000000020000000000 fq.id = false) :
    (State.takeOffline s n).fld fq jx = s.fld fq jx := State.takeOffline_k (loose_fld hf) rfl n

@[simp] theorem State.lane_takeOffline (s : State) (n : Nat) (jx : Nat) : (State.takeOffline s n).lane jx = s.lane jx :=
  State.takeOffline_k (loose_lane s jx (by decide) (by decide)) rfl n

@[simp] theorem State.fld_readWide (s : State) (m a : Nat) {fq : Fld} (jx : Nat) (hf : regOk 0x10000000001e400000000000000000000000000000000000000000000000000000000000000000000000000000000000000000000000000000000000000000000000000000000000000000000000000000000e00 fq.id = false) :
    (State.readWide s m a).fld fq jx = s.fld fq jx := State.readWide_k (loose_fld hf) rfl m a

@[simp] theorem State.lane_readWide (s : State) (m a : Nat) (jx : Nat) : (State.readWide s m a).lane jx = s.lane jx :=
  State.readWide_k (loose_lane s jx (by decide) (by decide)) rfl m a

@[simp] theorem State.fld_tuneRow (s : State) (n : Nat) (row : List Nat) {fq : Fld} (jx : Nat) (hf : regOk 0x3f00000000000000000000000002100 fq.id = false) :
    (State.tuneRow s n row).fld fq jx = s.fld fq jx := State.tuneRow_k (loose_fld hf) rfl n row

@[simp] theorem State.fld_notePeer (s : State) (n trq : Nat) {fq : Fld} (jx : Nat) (hf : regOk 0xc000000000000000000002000 fq.id = false) :
    (State.notePeer s n trq).fld fq jx = s.fld fq jx := State.notePeer_k (loose_fld hf) rfl n trq

@[simp] theorem State.fld_rxIdent (s : State) (n seq : Nat) (ws : List Nat) {fq : Fld} (jx : Nat) (hf : regOk 0x9ffa010f800003040000000000020000000002c00 fq.id = false) :
    (State.rxIdent s n seq ws).fld fq jx = s.fld fq jx := State.rxIdent_k (loose_fld hf) rfl n seq ws

@[simp] theorem State.fld_rxServiceGo (s : State) (n seq f : Nat) {fq : Fld} (jx : Nat) (hf : regOk 0x2000 fq.id = false) :
    (State.rxServiceGo s n seq f).fld fq jx = s.fld fq jx := State.rxServiceGo_k (loose_fld hf) rfl n seq f

@[simp] theorem State.fld_startBack (s : State) (n x : Nat) {fq : Fld} (jx : Nat) (hf : regOk 0x400000000000000000000000000000002000 fq.id = false) :
    (State.startBack s n x).fld fq jx = s.fld fq jx := State.startBack_k (loose_fld hf) rfl n x

@[simp] theorem State.fld_rxSparePrep (s : State) (n seq x : Nat) {fq : Fld} (jx : Nat) (hf : regOk 0x400000000000000000000000000000000000000000000000000000000000000000000000000000000000000000000000000000000000000000000000000000000000000000000000000600000000000000000000000000000006000 fq.id = false) :
    (State.rxSparePrep s n seq x).fld fq jx = s.fld fq jx := State.rxSparePrep_k (loose_fld hf) rfl n seq x

@[simp] theorem State.fld_rxSpareSelect (s : State) (n seq x f : Nat) {fq : Fld} (jx : Nat) (hf : regOk 0x2000 fq.id = false) :
    (State.rxSpareSelect s n seq x f).fld fq jx = s.fld fq jx := State.rxSpareSelect_k (loose_fld hf) rfl n seq x f

@[simp] theorem State.fld_rxSpareRelease (s : State) (n seq x : Nat) {fq : Fld} (jx : Nat) (hf : regOk 0x400000000000000000000000000000000000000000000000000000000000000000000000000000000000000000000000000000000000000000000000000000000000000000000000001e00000000001000200000000000000002000 fq.id = false) :
    (State.rxSpareRelease s n seq x).fld fq jx = s.fld fq jx := State.rxSpareRelease_k (loose_fld hf) rfl n seq x

@[simp] theorem State.fld_rxRestart (s : State) (n : Nat) {fq : Fld} (jx : Nat) (hf : regOk 0x40000000000000000000000000000000000000000000000000000000000000000000000000000000000000000000000000000000800000000000000000000000000014000000009ffb1e00090003041a01a00000020000000002c00 fq.id = false) :
    (State.rxRestart s n).fld fq jx = s.fld fq jx := State.rxRestart_k (loose_fld hf) rfl n

@[simp] theorem State.fld_rxLeave (s : State) (n seq : Nat) {fq : Fld} (jx : Nat) (hf : regOk 0x40000000000000000000000000000000000000000000000000000000000000000000000000000000000000000000000000000000800000000000000000000000000014000000009ffb1e00090003041a01a00000020000000002c00 fq.id = false) :
    (State.rxLeave s n seq).fld fq jx = s.fld fq jx := State.rxLeave_k (loose_fld hf) rfl n seq

@[simp] theorem State.fld_rxAck (s : State) (n seq : Nat) {fq : Fld} (jx : Nat) (hf : regOk 0x40000000000000000000000000000000000000000000000000000000000000000000000000000000000000000000000000000000000000000000000000000000000014000000009ffb1e00000003041201a00000020000000006c00 fq.id = false) :
    (State.rxAck s n seq).fld fq jx = s.fld fq jx := State.rxAck_k (loose_fld hf) rfl n seq

@[simp] theorem State.fld_rxNak (s : State) (n seq : Nat) {fq : Fld} (jx : Nat) (hf : regOk 0x2000 fq.id = false) :
    (State.rxNak s n seq).fld fq jx = s.fld fq jx := State.rxNak_k (loose_fld hf) rfl n seq

@[simp] theorem State.fld_takeFit (s : State) (n typ seq : Nat) (p : List Nat) {fq : Fld} (jx : Nat) (hf : regOk 0x40000000000000000000000000000000000000000000000000000000000000000000000000000000000000000000000000000000800000000000000000000000000014000000009ffb1f0f890003041a01a00000020000000006c00 fq.id = false) :
    (State.takeFit s n typ seq p).fld fq jx = s.fld fq jx := State.takeFit_k (loose_fld hf) rfl n typ seq p

@[simp] theorem State.fld_fitWord (s : State) (n w : Nat) {fq : Fld} (jx : Nat) (hf : regOk 0x40000000000000000000000000000000000000000000000000000000000000000000000000000000000000000000000000000000800000000000000000000000000014000000009ffb1f0f890003041a01a00000020000000006c00 fq.id = false) :
    (State.fitWord s n w).fld fq jx = s.fld fq jx := State.fitWord_k (loose_fld hf) rfl n w

@[simp] theorem State.fld_sendSelect (s : State) (n : Nat) {fq : Fld} (jx : Nat) (hf : regOk 0x2000 fq.id = false) :
    (State.sendSelect s n).fld fq jx = s.fld fq jx := State.sendSelect_k (loose_fld hf) rfl n

@[simp] theorem State.fld_switchToSpare (s : State) (n : Nat) {fq : Fld} (jx : Nat) (hf : regOk 0x1800000000001000200000000000000002000 fq.id = false) :
    (State.switchToSpare s n).fld fq jx = s.fld fq jx := State.switchToSpare_k (loose_fld hf) rfl n

@[simp] theorem State.fld_switchBack (s : State) (n : Nat) {fq : Fld} (jx : Nat) (hf : regOk 0x1800000000001000200000000000000000000 fq.id = false) :
    (State.switchBack s n).fld fq jx = s.fld fq jx := State.switchBack_k (loose_fld hf) rfl n

@[simp] theorem State.lane_switchBack (s : State) (n : Nat) (jx : Nat) : (State.switchBack s n).lane jx = s.lane jx :=
  State.switchBack_k (loose_lane s jx (by decide) (by decide)) rfl n

@[simp] theorem State.fld_openPage (s : State) (n pg : Nat) {fq : Fld} (jx : Nat) (hf : regOk 0x4000 fq.id = false) :
    (State.openPage s n pg).fld fq jx = s.fld fq jx := State.openPage_k (loose_fld hf) rfl n pg

@[simp] theorem State.lane_openPage (s : State) (n pg : Nat) (jx : Nat) : (State.openPage s n pg).lane jx = s.lane jx :=
  State.openPage_k (loose_lane s jx (by decide) (by decide)) rfl n pg

@[simp] theorem State.fld_addWords (s : State) (n pg : Nat) (ws : List (Nat × Nat)) {fq : Fld} (jx : Nat) (hf : regOk 0x4000 fq.id = false) :
    (State.addWords s n pg ws).fld fq jx = s.fld fq jx := State.addWords_k (loose_fld hf) rfl n pg ws

@[simp] theorem State.lane_addWords (s : State) (n pg : Nat) (ws : List (Nat × Nat)) (jx : Nat) : (State.addWords s n pg ws).lane jx = s.lane jx :=
  State.addWords_k (loose_lane s jx (by decide) (by decide)) rfl n pg ws

@[simp] theorem State.fld_storePacket (s : State) (n : Nat) (p : List Nat) {fq : Fld} (jx : Nat) (hf : regOk 0x1e400000000000000000000000000000000000000000000000000000000000000000000000000000000000000000000000000000001200000000080000000000000000000000002000000000000e00 fq.id = false) :
    (State.storePacket s n p).fld fq jx = s.fld fq jx := State.storePacket_k (loose_fld hf) rfl n p

@[simp] theorem State.lane_storePacket (s : State) (n : Nat) (p : List Nat) (jx : Nat) : (State.storePacket s n p).lane jx = s.lane jx :=
  State.storePacket_k (loose_lane s jx (by decide) (by decide)) rfl n p

@[simp] theorem State.fld_mchWord (s : State) (n w : Nat) {fq : Fld} (jx : Nat) (hf : regOk 0x1e400000000000000000000000000000000000000000000000000000000000000000000000000000000000000000000000000000001300000000080000000000000000000000002000000000002e00 fq.id = false) :
    (State.mchWord s n w).fld fq jx = s.fld fq jx := State.mchWord_k (loose_fld hf) rfl n w

@[simp] theorem State.fld_takeChannels (s : State) (n : Nat) (bad : List Bool) (data : List Nat) {fq : Fld} (jx : Nat) (hf : regOk 0x40000000000000000000000001e40000000000000000000000000000000000000000000000000000000000000000000000000000800000000000000000000000000134000000009ffb1f0f890003041a01a00002020000000006e00 fq.id = false) :
    (State.takeChannels s n bad data).fld fq jx = s.fld fq jx := State.takeChannels_k (loose_fld hf) rfl n bad data

@[simp] theorem State.fld_setCands (s : State) (n : Nat) (cs : List Cand) {fq : Fld} (jx : Nat) (hf : regOk 0x10000000000000000000000000000000002000 fq.id = false) :
    (State.setCands s n cs).fld fq jx = s.fld fq jx := State.setCands_k (loose_fld hf) rfl n cs

@[simp] theorem State.fld_passWindow (s : State) (n pg : Nat) {fq : Fld} (jx : Nat) (hf : regOk 0x2000 fq.id = false) :
    (State.passWindow s n pg).fld fq jx = s.fld fq jx := State.passWindow_k (loose_fld hf) rfl n pg

@[simp] theorem State.fld_showPhase (s : State) (n : Nat) (phi : Int) {fq : Fld} (jx : Nat) (hf : regOk 0x200000000000000000000 fq.id = false) :
    (State.showPhase s n phi).fld fq jx = s.fld fq jx := State.showPhase_k (loose_fld hf) rfl n phi

@[simp] theorem State.lane_showPhase (s : State) (n : Nat) (phi : Int) (jx : Nat) : (State.showPhase s n phi).lane jx = s.lane jx :=
  State.showPhase_k (loose_lane s jx (by decide) (by decide)) rfl n phi

@[simp] theorem State.fld_reportAbort (s : State) (m : Nat) {fq : Fld} (jx : Nat) (hf : regOk 0x800000000 fq.id = false) :
    (State.reportAbort s m).fld fq jx = s.fld fq jx := State.reportAbort_k (loose_fld hf) rfl m

@[simp] theorem State.lane_reportAbort (s : State) (m : Nat) (jx : Nat) : (State.reportAbort s m).lane jx = s.lane jx :=
  State.reportAbort_k (loose_lane s jx (by decide) (by decide)) rfl m

@[simp] theorem State.fld_defaultWrite (s : State) (m a : Nat) {fq : Fld} (jx : Nat) (hf : regOk 0x1e400000000000000000000000000000000000000000000000000000000000000000000000000000000000000000000000000000000000000000000000000000000000000000000000000800000e00 fq.id = false) :
    (State.defaultWrite s m a).fld fq jx = s.fld fq jx := State.defaultWrite_k (loose_fld hf) rfl m a

@[simp] theorem State.lane_defaultWrite (s : State) (m a : Nat) (jx : Nat) : (State.defaultWrite s m a).lane jx = s.lane jx :=
  State.defaultWrite_k (loose_lane s jx (by decide) (by decide)) rfl m a

@[simp] theorem State.fld_askTaps (s : State) (n : Nat) (ts : List Int) {fq : Fld} (jx : Nat) (hf : regOk 0x2000 fq.id = false) :
    (State.askTaps s n ts).fld fq jx = s.fld fq jx := State.askTaps_k (loose_fld hf) rfl n ts

@[simp] theorem State.fld_beginRow (s : State) (n : Nat) {fq : Fld} (jx : Nat) (hf : regOk 0xf8000000000000000000000002000 fq.id = false) :
    (State.beginRow s n).fld fq jx = s.fld fq jx := State.beginRow_k (loose_fld hf) rfl n

@[simp] theorem State.fld_releaseSpare (s : State) (n : Nat) {fq : Fld} (jx : Nat) (hf : regOk 0x400000000000000000000000000000000000000000000000000000000000000000000000000000000000000000000000000000000000000000000000000000000000000000000000001e00000000001000200000000000000002000 fq.id = false) :
    (State.releaseSpare s n).fld fq jx = s.fld fq jx := State.releaseSpare_k (loose_fld hf) rfl n

@[simp] theorem State.fld_settleSwitch (s : State) (n : Nat) {fq : Fld} (jx : Nat) (hf : regOk 0x2000 fq.id = false) :
    (State.settleSwitch s n).fld fq jx = s.fld fq jx := State.settleSwitch_k (loose_fld hf) rfl n

@[simp] theorem State.fld_countService (s : State) (n st : Nat) {fq : Fld} (jx : Nat) (hf : regOk 0x20000000000000 fq.id = false) :
    (State.countService s n st).fld fq jx = s.fld fq jx := State.countService_k (loose_fld hf) rfl n st

@[simp] theorem State.lane_countService (s : State) (n st : Nat) (jx : Nat) : (State.countService s n st).lane jx = s.lane jx :=
  State.countService_k (loose_lane s jx (by decide) (by decide)) rfl n st

@[simp] theorem State.fld_restartLane (s : State) (n : Nat) {fq : Fld} (jx : Nat) (hf : regOk 0x40000000000000000000000000000000000000000000000000000000000000000000000000000000000000000000000000000000800000000000000000000000000014000000009ffb1e00090003041a01a00000020000000002c00 fq.id = false) :
    (State.restartLane s n).fld fq jx = s.fld fq jx := State.restartLane_k (loose_fld hf) rfl n

@[simp] theorem State.fld_someCycle (s : State) {fq : Fld} (jx : Nat) (hf : regOk 0x80000180 fq.id = false) :
    (State.someCycle s).fld fq jx = s.fld fq jx := State.someCycle_k (loose_fld hf) rfl

@[simp] theorem State.lane_someCycle (s : State) (jx : Nat) : (State.someCycle s).lane jx = s.lane jx :=
  State.someCycle_k (loose_lane s jx (by decide) (by decide)) rfl

@[simp] theorem State.fld_bankCycle (s : State) (c : Nat) {fq : Fld} (jx : Nat) (hf : regOk 0x80000180 fq.id = false) :
    (State.bankCycle s c).fld fq jx = s.fld fq jx := State.bankCycle_k (loose_fld hf) rfl c

@[simp] theorem State.lane_bankCycle (s : State) (c : Nat) (jx : Nat) : (State.bankCycle s c).lane jx = s.lane jx :=
  State.bankCycle_k (loose_lane s jx (by decide) (by decide)) rfl c

@[simp] theorem State.fld_countFrom (s : State) (c k : Nat) {fq : Fld} (jx : Nat) (hf : regOk 0x80000000 fq.id = false) :
    (State.countFrom s c k).fld fq jx = s.fld fq jx := State.countFrom_k (loose_fld hf) rfl c k

@[simp] theorem State.lane_countFrom (s : State) (c k : Nat) (jx : Nat) : (State.countFrom s c k).lane jx = s.lane jx :=
  State.countFrom_k (loose_lane s jx (by decide) (by decide)) rfl c k

@[simp] theorem State.fld_bankWritten (s : State) (c : Nat) {fq : Fld} (jx : Nat) (hf : regOk 0x200000000800000000000000000000000000000000000000000000000000000000000000000000000000000000000000000000000000000000000000000000000000000000000000000000000000000000000000000080000c00 fq.id = false) :
    (State.bankWritten s c).fld fq jx = s.fld fq jx := State.bankWritten_k (loose_fld hf) rfl c

@[simp] theorem State.lane_bankWritten (s : State) (c : Nat) (jx : Nat) : (State.bankWritten s c).lane jx = s.lane jx :=
  State.bankWritten_k (loose_lane s jx (by decide) (by decide)) rfl c

@[simp] theorem State.fld_cycleWrap (s : State) (c : Nat) {fq : Fld} (jx : Nat) (hf : regOk 0x200000000800000000000000000000000000000000000000000000000000000000000000000000000000000000000000000000000000000000000000000000000000000000000000000000000000000000000000000080000c80 fq.id = false) :
    (State.cycleWrap s c).fld fq jx = s.fld fq jx := State.cycleWrap_k (loose_fld hf) rfl c

@[simp] theorem State.lane_cycleWrap (s : State) (c : Nat) (jx : Nat) : (State.cycleWrap s c).lane jx = s.lane jx :=
  State.cycleWrap_k (loose_lane s jx (by decide) (by decide)) rfl c

@[simp] theorem State.fld_retireLams (s : State) {fq : Fld} (jx : Nat) (hf : regOk 0x822000000000000000000000000000000000000000000000000000000000000000000000000000000000000000000000000000000000000000000024000000000000000000000000000000000000000000000000020000000000c04 fq.id = false) :
    (State.retireLams s).fld fq jx = s.fld fq jx := State.retireLams_k (loose_fld hf) rfl

@[simp] theorem State.lane_retireLams (s : State) (jx : Nat) : (State.retireLams s).lane jx = s.lane jx :=
  State.retireLams_k (loose_lane s jx (by decide) (by decide)) rfl

@[simp] theorem State.fld_moveShadow (s : State) (k : Nat) {fq : Fld} (jx : Nat) (hf : regOk 0x48000000000000000000000000000000000000000000000000020000000000000 fq.id = false) :
    (State.moveShadow s k).fld fq jx = s.fld fq jx := State.moveShadow_k (loose_fld hf) rfl k

@[simp] theorem State.lane_moveShadow (s : State) (k : Nat) (jx : Nat) : (State.moveShadow s k).lane jx = s.lane jx :=
  State.moveShadow_k (loose_lane s jx (by decide) (by decide)) rfl k

@[simp] theorem State.fld_closeHeartbeat (s : State) {fq : Fld} (jx : Nat) (hf : regOk 0x100000000 fq.id = false) :
    (State.closeHeartbeat s).fld fq jx = s.fld fq jx := State.closeHeartbeat_k (loose_fld hf) rfl

@[simp] theorem State.lane_closeHeartbeat (s : State) (jx : Nat) : (State.closeHeartbeat s).lane jx = s.lane jx :=
  State.closeHeartbeat_k (loose_lane s jx (by decide) (by decide)) rfl

@[simp] theorem State.fld_hearTake (s : State) {fq : Fld} (jx : Nat) (hf : regOk 0x1e0000000c0000000000000000000000000000000000000000000000000000000000000000000000000000000000000000000000000000000000000100002100 fq.id = false) :
    (State.hearTake s).fld fq jx = s.fld fq jx := State.hearTake_k (loose_fld hf) rfl

@[simp] theorem State.fld_cutWrite (s : State) {fq : Fld} (jx : Nat) (hf : regOk 0x2000000000100 fq.id = false) :
    (State.cutWrite s).fld fq jx = s.fld fq jx := State.cutWrite_k (loose_fld hf) rfl

@[simp] theorem State.lane_cutWrite (s : State) (jx : Nat) : (State.cutWrite s).lane jx = s.lane jx :=
  State.cutWrite_k (loose_lane s jx (by decide) (by decide)) rfl

@[simp] theorem State.fld_readUnits (s : State) (us : List Nat) {fq : Fld} (jx : Nat) (hf : regOk 0x100000000000000000000000000000000000000000000000000000000000000000000000000000000000000000000000000000000000000000000000000000000000000000000000000000000000000000000000 fq.id = false) :
    (State.readUnits s us).fld fq jx = s.fld fq jx := State.readUnits_k (loose_fld hf) rfl us

@[simp] theorem State.lane_readUnits (s : State) (us : List Nat) (jx : Nat) : (State.readUnits s us).lane jx = s.lane jx :=
  State.readUnits_k (loose_lane s jx (by decide) (by decide)) rfl us

@[simp] theorem State.fld_tapPegs (s : State) (n : Nat) {fq : Fld} (jx : Nat) (hf : regOk 0x1000000000000 fq.id = false) :
    (State.tapPegs s n).fld fq jx = s.fld fq jx := State.tapPegs_k (loose_fld hf) rfl n

@[simp] theorem State.lane_tapPegs (s : State) (n : Nat) (jx : Nat) : (State.tapPegs s n).lane jx = s.lane jx :=
  State.tapPegs_k (loose_lane s jx (by decide) (by decide)) rfl n

@[simp] theorem State.fld_tickSwap (s : State) {fq : Fld} (jx : Nat) (hf : regOk 0x22000000000000000000000000000000000000000000000000000000000000000000000000000000000008100000000000000000000000000000000000000000000000000000000000000000000000000000000004000080000c00 fq.id = false) :
    (State.tickSwap s).fld fq jx = s.fld fq jx := State.tickSwap_k (loose_fld hf) rfl

@[simp] theorem State.lane_tickSwap (s : State) (jx : Nat) : (State.tickSwap s).lane jx = s.lane jx :=
  State.tickSwap_k (loose_lane s jx (by decide) (by decide)) rfl

@[simp] theorem State.fld_placeFpouts (s : State) {fq : Fld} (jx : Nat) (hf : regOk 0x80000000 fq.id = false) :
    (State.placeFpouts s).fld fq jx = s.fld fq jx := State.placeFpouts_k (loose_fld hf) rfl

@[simp] theorem State.lane_placeFpouts (s : State) (jx : Nat) : (State.placeFpouts s).lane jx = s.lane jx :=
  State.placeFpouts_k (loose_lane s jx (by decide) (by decide)) rfl

@[simp] theorem State.fld_setTime (s : State) (k n : Nat) {fq : Fld} (jx : Nat) (hf : regOk 0x20000000000000000000000000000000000000000000000000000000000000000000000000000000000000000000000000000000000000000000000000000000000000000000000 fq.id = false) :
    (State.setTime s k n).fld fq jx = s.fld fq jx := State.setTime_k (loose_fld hf) rfl k n

@[simp] theorem State.lane_setTime (s : State) (k n : Nat) (jx : Nat) : (State.setTime s k n).lane jx = s.lane jx :=
  State.setTime_k (loose_lane s jx (by decide) (by decide)) rfl k n

@[simp] theorem State.fld_moveMailbox (s : State) {fq : Fld} (jx : Nat) (hf : regOk 0x20000001000 fq.id = false) :
    (State.moveMailbox s).fld fq jx = s.fld fq jx := State.moveMailbox_k (loose_fld hf) rfl

@[simp] theorem State.lane_moveMailbox (s : State) (jx : Nat) : (State.moveMailbox s).lane jx = s.lane jx :=
  State.moveMailbox_k (loose_lane s jx (by decide) (by decide)) rfl

@[simp] theorem State.fld_sendDrs (s : State) (drs : BitVec 2) {fq : Fld} (jx : Nat) (hf : regOk 0x800000000 fq.id = false) :
    (State.sendDrs s drs).fld fq jx = s.fld fq jx := State.sendDrs_k (loose_fld hf) rfl drs

@[simp] theorem State.lane_sendDrs (s : State) (drs : BitVec 2) (jx : Nat) : (State.sendDrs s drs).lane jx = s.lane jx :=
  State.sendDrs_k (loose_lane s jx (by decide) (by decide)) rfl drs

@[simp] theorem State.fld_corrected (s : State) (n k : Nat) {fq : Fld} (jx : Nat) (hf : regOk 0x2100000000000000000000000000000000000000000000000000000000000000000000000000000000000000000000000000000000000000000000000000000000000000000000000000000000000020000000000 fq.id = false) :
    (State.corrected s n k).fld fq jx = s.fld fq jx := State.corrected_k (loose_fld hf) rfl n k

@[simp] theorem State.lane_corrected (s : State) (n k : Nat) (jx : Nat) : (State.corrected s n k).lane jx = s.lane jx :=
  State.corrected_k (loose_lane s jx (by decide) (by decide)) rfl n k

@[simp] theorem State.fld_loseUnit (s : State) (u : Nat) {fq : Fld} (jx : Nat) (hf : regOk 0x140000000000000000000000000000000000000000000000000000000000000000000000000000000000000000000000000000000000000000000000000000000000000000000000000000000000000000020c00 fq.id = false) :
    (State.loseUnit s u).fld fq jx = s.fld fq jx := State.loseUnit_k (loose_fld hf) rfl u

@[simp] theorem State.lane_loseUnit (s : State) (u : Nat) (jx : Nat) : (State.loseUnit s u).lane jx = s.lane jx :=
  State.loseUnit_k (loose_lane s jx (by decide) (by decide)) rfl u

@[simp] theorem State.fld_unitFound (s : State) (u : Nat) (o : UnitOutcome) {fq : Fld} (jx : Nat) (hf : regOk 0x2140000000000000000000000000000000000000000000000000000000000000000000000000000000000000000000000000000000000000000000000000000000000000000000000000000000000020000020c00 fq.id = false) :
    (State.unitFound s u o).fld fq jx = s.fld fq jx := State.unitFound_k (loose_fld hf) rfl u o

@[simp] theorem State.lane_unitFound (s : State) (u : Nat) (o : UnitOutcome) (jx : Nat) : (State.unitFound s u o).lane jx = s.lane jx :=
  State.unitFound_k (loose_lane s jx (by decide) (by decide)) rfl u o

@[simp] theorem State.fld_tickLive (s : State) {fq : Fld} (jx : Nat) (hf : regOk 0x800000400000000 fq.id = false) :
    (State.tickLive s).fld fq jx = s.fld fq jx := State.tickLive_k (loose_fld hf) rfl

@[simp] theorem State.lane_tickLive (s : State) (jx : Nat) : (State.tickLive s).lane jx = s.lane jx :=
  State.tickLive_k (loose_lane s jx (by decide) (by decide)) rfl

@[simp] theorem State.fld_liveResumes (s : State) (i : Nat) {fq : Fld} (jx : Nat) (hf : regOk 0x400000000 fq.id = false) :
    (State.liveResumes s i).fld fq jx = s.fld fq jx := State.liveResumes_k (loose_fld hf) rfl i

@[simp] theorem State.lane_liveResumes (s : State) (i : Nat) (jx : Nat) : (State.liveResumes s i).lane jx = s.lane jx :=
  State.liveResumes_k (loose_lane s jx (by decide) (by decide)) rfl i

@[simp] theorem State.fld_fillSpare (s : State) (i k : Nat) (dataOk : Bool) {fq : Fld} (jx : Nat) (hf : regOk 0x800000000000000 fq.id = false) :
    (State.fillSpare s i k dataOk).fld fq jx = s.fld fq jx := State.fillSpare_k (loose_fld hf) rfl i k dataOk

@[simp] theorem State.lane_fillSpare (s : State) (i k : Nat) (dataOk : Bool) (jx : Nat) : (State.fillSpare s i k dataOk).lane jx = s.lane jx :=
  State.fillSpare_k (loose_lane s jx (by decide) (by decide)) rfl i k dataOk

@[simp] theorem State.fld_syncCommitted (s : State) (n : Nat) {fq : Fld} (jx : Nat) (hf : regOk 0x800000000000000000000000000000000000009ffa0000000000000000000000020000000002c00 fq.id = false) :
    (State.syncCommitted s n).fld fq jx = s.fld fq jx := State.syncCommitted_k (loose_fld hf) rfl n

@[simp] theorem State.fld_commitEnds (s : State) (v : Nat) {fq : Fld} (jx : Nat) (hf : regOk 0x800000000000000000000000000000000000000000000000000000000000000000000000000000000000000000000000000000000000000000000000000000000000000000000000 fq.id = false) :
    (State.commitEnds s v).fld fq jx = s.fld fq jx := State.commitEnds_k (loose_fld hf) rfl v

@[simp] theorem State.lane_commitEnds (s : State) (v : Nat) (jx : Nat) : (State.commitEnds s v).lane jx = s.lane jx :=
  State.commitEnds_k (loose_lane s jx (by decide) (by decide)) rfl v

@[simp] theorem State.fld_loseTrack (s : State) {fq : Fld} (jx : Nat) (hf : regOk 0x100000000 fq.id = false) :
    (State.loseTrack s).fld fq jx = s.fld fq jx := State.loseTrack_k (loose_fld hf) rfl

@[simp] theorem State.lane_loseTrack (s : State) (jx : Nat) : (State.loseTrack s).lane jx = s.lane jx :=
  State.loseTrack_k (loose_lane s jx (by decide) (by decide)) rfl

@[simp] theorem State.fld_readStorage (s : State) (m a n : Nat) {fq : Fld} (jx : Nat) (hf : regOk 0x10000000001e400000000000000000000000000000000000000000000000000000000000000000000000000000000000000000000000000000000000000000000000000000000000000000000000000000000e00 fq.id = false) :
    (State.readStorage s m a n).fld fq jx = s.fld fq jx := State.readStorage_k (loose_fld hf) rfl m a n

@[simp] theorem State.lane_readStorage (s : State) (m a n : Nat) (jx : Nat) : (State.readStorage s m a n).lane jx = s.lane jx :=
  State.readStorage_k (loose_lane s jx (by decide) (by decide)) rfl m a n

@[simp] theorem State.fld_shiftMarks (s : State) (d : Nat) {fq : Fld} (jx : Nat) (hf : regOk 0x600051c0002000 fq.id = false) :
    (State.shiftMarks s d).fld fq jx = s.fld fq jx := State.shiftMarks_k (loose_fld hf) rfl d

@[simp] theorem State.fld_countUnwritten (s : State) {fq : Fld} (jx : Nat) (hf : regOk 0x200000000800000000000000000000000000000000000000000000000000000000000000000000000000000000000000000000000000000000000000000000000000000000000000000000000000000000000000000080000c00 fq.id = false) :
    (State.countUnwritten s).fld fq jx = s.fld fq jx := State.countUnwritten_k (loose_fld hf) rfl

@[simp] theorem State.lane_countUnwritten (s : State) (jx : Nat) : (State.countUnwritten s).lane jx = s.lane jx :=
  State.countUnwritten_k (loose_lane s jx (by decide) (by decide)) rfl

@[simp] theorem State.fld_stampTick (s : State) (old : State) {fq : Fld} (jx : Nat) (hf : regOk 0xc00 fq.id = false) :
    (State.stampTick s old).fld fq jx = s.fld fq jx := State.stampTick_k (loose_fld hf) rfl old

@[simp] theorem State.lane_stampTick (s : State) (old : State) (jx : Nat) : (State.stampTick s old).lane jx = s.lane jx :=
  State.stampTick_k (loose_lane s jx (by decide) (by decide)) rfl old

@[simp] theorem State.fld_programLife (s : State) {fq : Fld} (jx : Nat) (hf : regOk 0x88000020000000000000000000000000000000000000000000000000000000000000000000000000000000000000000000000000000000000000000000000000000000000000000000000000000000000000000000000042000200000d00 fq.id = false) :
    (State.programLife s).fld fq jx = s.fld fq jx := State.programLife_k (loose_fld hf) rfl

@[simp] theorem State.lane_programLife (s : State) (jx : Nat) : (State.programLife s).lane jx = s.lane jx :=
  State.programLife_k (loose_lane s jx (by decide) (by decide)) rfl

@[simp] theorem State.fld_stopSelect (s : State) (n : Nat) {fq : Fld} (jx : Nat) (hf : regOk 0x2000 fq.id = false) :
    (State.stopSelect s n).fld fq jx = s.fld fq jx := State.stopSelect_k (loose_fld hf) rfl n

@[simp] theorem State.fld_tamperCheck (s : State) {fq : Fld} (jx : Nat) (hf : regOk 0x3c8b00003e00018006000000000000000000000c03e00000a0000000000438000de0004e9000000000003000000000000000000000000000000000000000000000000000000080000000000000000000000000000000004066021580022d00 fq.id = false) :
    (State.tamperCheck s).fld fq jx = s.fld fq jx := State.tamperCheck_k (loose_fld hf) rfl

@[simp] theorem State.fld_takeLane (s : State) (x : Nat) {fq : Fld} (jx : Nat) (hf : regOk 0x22000000000000000000000000000000000000000000000000000000000000000000000000000000000000000000000000000000000000000000000000000000000000000000000000010000000000000000000020000000002c04 fq.id = false) :
    (State.takeLane s x).fld fq jx = s.fld fq jx := State.takeLane_k (loose_fld hf) rfl x

@[simp] theorem State.fld_restartCompile (s : State) {fq : Fld} (jx : Nat) (hf : regOk 0x18020001000000000000000000000000000000000000000000000000000000000000001000000 fq.id = false) :
    (State.restartCompile s).fld fq jx = s.fld fq jx := State.restartCompile_k (loose_fld hf) rfl

@[simp] theorem State.lane_restartCompile (s : State) (jx : Nat) : (State.restartCompile s).lane jx = s.lane jx :=
  State.restartCompile_k (loose_lane s jx (by decide) (by decide)) rfl

@[simp] theorem State.fld_putBytes (s : State) (m a n v be : Nat) {fq : Fld} (jx : Nat) (hf : regOk 0x2000000000000000000000000000000000000000000000000000000000000000000000000000000000000000000000000000000000000000000000000000000000000000000000000400000000001c00 fq.id = false) :
    (State.putBytes s m a n v be).fld fq jx = s.fld fq jx := State.putBytes_k (loose_fld hf) rfl m a n v be

@[simp] theorem State.lane_putBytes (s : State) (m a n v be : Nat) (jx : Nat) : (State.putBytes s m a n v be).lane jx = s.lane jx :=
  State.putBytes_k (loose_lane s jx (by decide) (by decide)) rfl m a n v be

@[simp] theorem State.fld_putBeats (s : State) (m a : Nat) (y0 : List Beat) {fq : Fld} (jx : Nat) (hf : regOk 0x2000000000000000000000000000000000000000000000000000000000000000000000000000000000000000000000000000000000000000000000000000000000000000000000000400000000001c00 fq.id = false) :
    (State.putBeats s m a y0).fld fq jx = s.fld fq jx := State.putBeats_k (loose_fld hf) rfl m a y0

@[simp] theorem State.lane_putBeats (s : State) (m a : Nat) (y0 : List Beat) (jx : Nat) : (State.putBeats s m a y0).lane jx = s.lane jx :=
  State.putBeats_k (loose_lane s jx (by decide) (by decide)) rfl m a y0

@[simp] theorem State.fld_takeTkw (s : State) (n r : Nat) {fq : Fld} (jx : Nat) (hf : regOk 0x1e0000000c0000000000000000000000000000000000000000000000000000000000000000000000002600080000000000000000000000000000000100002d00 fq.id = false) :
    (State.takeTkw s n r).fld fq jx = s.fld fq jx := State.takeTkw_k (loose_fld hf) rfl n r

@[simp] theorem State.fld_useFn (s : State) (n v : Nat) {fq : Fld} (jx : Nat) (hf : regOk 0x1000000000000000000000000000000000000000002000 fq.id = false) :
    (State.useFn s n v).fld fq jx = s.fld fq jx := State.useFn_k (loose_fld hf) rfl n v

@[simp] theorem State.fld_followPhase (s : State) (n : Nat) {fq : Fld} (jx : Nat) (hf : regOk 0x2000 fq.id = false) :
    (State.followPhase s n).fld fq jx = s.fld fq jx := State.followPhase_k (loose_fld hf) rfl n

@[simp] theorem State.fld_defaultAt (s : State) (m a : Nat) (write : Bool) {fq : Fld} (jx : Nat) (hf : regOk 0x1e400000000000000000000000000000000000000000000000000000000000000000000000000000000000000000000000000000000000000000000000000000000000000000000000000800000e00 fq.id = false) :
    (State.defaultAt s m a write).fld fq jx = s.fld fq jx := State.defaultAt_k (loose_fld hf) rfl m a write

@[simp] theorem State.lane_defaultAt (s : State) (m a : Nat) (write : Bool) (jx : Nat) : (State.defaultAt s m a write).lane jx = s.lane jx :=
  State.defaultAt_k (loose_lane s jx (by decide) (by decide)) rfl m a write

@[simp] theorem State.fld_endBurst (s : State) (m : Nat) (x : Burst) {fq : Fld} (jx : Nat) (hf : regOk 0x2000000000000000000000000000000000000000000000000000000000000000000000000000000000000000000000000000000000000000000000000000000000000000000000000400000000001c00 fq.id = false) :
    (State.endBurst s m x).fld fq jx = s.fld fq jx := State.endBurst_k (loose_fld hf) rfl m x

@[simp] theorem State.lane_endBurst (s : State) (m : Nat) (x : Burst) (jx : Nat) : (State.endBurst s m x).lane jx = s.lane jx :=
  State.endBurst_k (loose_lane s jx (by decide) (by decide)) rfl m x

@[simp] theorem State.fld_setCycle (s : State) (k : Nat) {fq : Fld} (jx : Nat) (hf : regOk 0x80000080 fq.id = false) :
    (State.setCycle s k).fld fq jx = s.fld fq jx := State.setCycle_k (loose_fld hf) rfl k

@[simp] theorem State.lane_setCycle (s : State) (k : Nat) (jx : Nat) : (State.setCycle s k).lane jx = s.lane jx :=
  State.setCycle_k (loose_lane s jx (by decide) (by decide)) rfl k

@[simp] theorem State.fld_bankUpTo (s : State) (c : Nat) {fq : Fld} (jx : Nat) (hf : regOk 0x200000000800000000000000000000000000000000000000000000000000000000000000000000000000000000000000000000000000000000000000000000000000000000000000000000000000000000000000000080000c00 fq.id = false) :
    (State.bankUpTo s c).fld fq jx = s.fld fq jx := State.bankUpTo_k (loose_fld hf) rfl c

@[simp] theorem State.lane_bankUpTo (s : State) (c : Nat) (jx : Nat) : (State.bankUpTo s c).lane jx = s.lane jx :=
  State.bankUpTo_k (loose_lane s jx (by decide) (by decide)) rfl c

@[simp] theorem State.fld_bankSettle (s : State) (c : Nat) {fq : Fld} (jx : Nat) (hf : regOk 0x200000000800000000000000000000000000000000000000000000000000000000000000000000000000000000000000000000000000000000000000000000000000000000000000000000000000000000000000000080000d80 fq.id = false) :
    (State.bankSettle s c).fld fq jx = s.fld fq jx := State.bankSettle_k (loose_fld hf) rfl c

@[simp] theorem State.lane_bankSettle (s : State) (c : Nat) (jx : Nat) : (State.bankSettle s c).lane jx = s.lane jx :=
  State.bankSettle_k (loose_lane s jx (by decide) (by decide)) rfl c

@[simp] theorem State.fld_endRotation (s : State) {fq : Fld} (jx : Nat) (hf : regOk 0x24000000000000000000000000000000000000000000000000000000000000004 fq.id = false) :
    (State.endRotation s).fld fq jx = s.fld fq jx := State.endRotation_k (loose_fld hf) rfl

@[simp] theorem State.lane_endRotation (s : State) (jx : Nat) : (State.endRotation s).lane jx = s.lane jx :=
  State.endRotation_k (loose_lane s jx (by decide) (by decide)) rfl

@[simp] theorem State.fld_noteCommit (s : State) (pairs : List (Nat × Nat)) {fq : Fld} (jx : Nat) (hf : regOk 0x100000000 fq.id = false) :
    (State.noteCommit s pairs).fld fq jx = s.fld fq jx := State.noteCommit_k (loose_fld hf) rfl pairs

@[simp] theorem State.lane_noteCommit (s : State) (pairs : List (Nat × Nat)) (jx : Nat) : (State.noteCommit s pairs).lane jx = s.lane jx :=
  State.noteCommit_k (loose_lane s jx (by decide) (by decide)) rfl pairs

@[simp] theorem State.fld_watchPegs (s : State) (sc : Schedule) (o f : Nat) {fq : Fld} (jx : Nat) (hf : regOk 0x1000000000000 fq.id = false) :
    (State.watchPegs s sc o f).fld fq jx = s.fld fq jx := State.watchPegs_k (loose_fld hf) rfl sc o f

@[simp] theorem State.lane_watchPegs (s : State) (sc : Schedule) (o f : Nat) (jx : Nat) : (State.watchPegs s sc o f).lane jx = s.lane jx :=
  State.watchPegs_k (loose_lane s jx (by decide) (by decide)) rfl sc o f

@[simp] theorem State.fld_learnAnew (s : State) (src rel : Nat) {fq : Fld} (jx : Nat) (hf : regOk 0x8000000000000000000000000000000000000000000000000100c00 fq.id = false) :
    (State.learnAnew s src rel).fld fq jx = s.fld fq jx := State.learnAnew_k (loose_fld hf) rfl src rel

@[simp] theorem State.lane_learnAnew (s : State) (src rel : Nat) (jx : Nat) : (State.learnAnew s src rel).lane jx = s.lane jx :=
  State.learnAnew_k (loose_lane s jx (by decide) (by decide)) rfl src rel

@[simp] theorem State.fld_settleTick (s : State) {fq : Fld} (jx : Nat) (hf : regOk 0x200000000800000000000000000000000000000000000000000000000000000000000000000000000000000000000000000000000000000000000000000000000000000000000000000000000000000000000000000080000c00 fq.id = false) :
    (State.settleTick s).fld fq jx = s.fld fq jx := State.settleTick_k (loose_fld hf) rfl

@[simp] theorem State.lane_settleTick (s : State) (jx : Nat) : (State.settleTick s).lane jx = s.lane jx :=
  State.settleTick_k (loose_lane s jx (by decide) (by decide)) rfl

@[simp] theorem State.fld_imgProgress (s : State) {fq : Fld} (jx : Nat) (hf : regOk 0x200000000000000000000000000000000000000000000000000000000000000000000000000000000000000000000000000000000000000000000000000000000000000100 fq.id = false) :
    (State.imgProgress s).fld fq jx = s.fld fq jx := State.imgProgress_k (loose_fld hf) rfl

@[simp] theorem State.lane_imgProgress (s : State) (jx : Nat) : (State.imgProgress s).lane jx = s.lane jx :=
  State.imgProgress_k (loose_lane s jx (by decide) (by decide)) rfl

@[simp] theorem State.fld_moveQuery (s : State) (f : Nat) {fq : Fld} (jx : Nat) (hf : regOk 0x8000000000000000000 fq.id = false) :
    (State.moveQuery s f).fld fq jx = s.fld fq jx := State.moveQuery_k (loose_fld hf) rfl f

@[simp] theorem State.lane_moveQuery (s : State) (f : Nat) (jx : Nat) : (State.moveQuery s f).lane jx = s.lane jx :=
  State.moveQuery_k (loose_lane s jx (by decide) (by decide)) rfl f

@[simp] theorem State.fld_eccLost (s : State) (a m : Nat) {fq : Fld} (jx : Nat) (hf : regOk 0x3a000000000000000000000000000000000000000000000000000000000000000000000000000000000000000000000000000000000000000000000000000000000000000000000000000000000000c00 fq.id = false) :
    (State.eccLost s a m).fld fq jx = s.fld fq jx := State.eccLost_k (loose_fld hf) rfl a m

@[simp] theorem State.lane_eccLost (s : State) (a m : Nat) (jx : Nat) : (State.eccLost s a m).lane jx = s.lane jx :=
  State.eccLost_k (loose_lane s jx (by decide) (by decide)) rfl a m

@[simp] theorem State.fld_eccCorrected (s : State) {fq : Fld} (jx : Nat) (hf : regOk 0xa000000000000000000000000000000000000000000000000000000000000000000000000000000000000000000000000000000000000000000000000000000000000000000000000000000000000c00 fq.id = false) :
    (State.eccCorrected s).fld fq jx = s.fld fq jx := State.eccCorrected_k (loose_fld hf) rfl

@[simp] theorem State.lane_eccCorrected (s : State) (jx : Nat) : (State.eccCorrected s).lane jx = s.lane jx :=
  State.eccCorrected_k (loose_lane s jx (by decide) (by decide)) rfl

@[simp] theorem State.fld_readHists (s : State) (ks : List Nat) {fq : Fld} (jx : Nat) (hf : regOk 0x100000000000000000000000000000000000000000000000000000000000000000000000000000000000000000000000000000000000000000000000000000000000000000000000000000000000000000000000 fq.id = false) :
    (State.readHists s ks).fld fq jx = s.fld fq jx := State.readHists_k (loose_fld hf) rfl ks

@[simp] theorem State.lane_readHists (s : State) (ks : List Nat) (jx : Nat) : (State.readHists s ks).lane jx = s.lane jx :=
  State.readHists_k (loose_lane s jx (by decide) (by decide)) rfl ks

@[simp] theorem State.fld_takeTest (s : State) (n : Nat) {fq : Fld} (jx : Nat) (hf : regOk 0x78000000000000000000000000000000000000000000000000 fq.id = false) :
    (State.takeTest s n).fld fq jx = s.fld fq jx := State.takeTest_k (loose_fld hf) rfl n

@[simp] theorem State.lane_takeTest (s : State) (n : Nat) (jx : Nat) : (State.takeTest s n).lane jx = s.lane jx :=
  State.takeTest_k (loose_lane s jx (by decide) (by decide)) rfl n

@[simp] theorem State.fld_lcEnd (s : State) (op target key now : Nat) {fq : Fld} (jx : Nat) (hf : regOk 0x3c1c00002400018006000000000000000000000c0000000000000000000000000de000400000000000003000000000000000000000000000000000000000000000000000000080000000000000000000000000000000004046020580020c00 fq.id = false) :
    (State.lcEnd s op target key now).fld fq jx = s.fld fq jx := State.lcEnd_k (loose_fld hf) rfl op target key now

@[simp] theorem State.lane_lcEnd (s : State) (op target key now : Nat) (jx : Nat) : (State.lcEnd s op target key now).lane jx = s.lane jx :=
  State.lcEnd_k (loose_lane s jx (by decide) (by decide)) rfl op target key now

end Sys2Proof.Machine
end

