-- ==== Sys2Proof/WellFormed.lean ====
section
/-! DEFINITION. Well-formed commands: what the row of the table says of an operand beyond its type. A command that is not well formed cannot
arise; the machine answers it too, but nothing is claimed of it. -/

namespace Sys2Proof

/-- A spare lane (R5). -/
def isSpareLane (n : LaneIx) : Bool := decide (256 ≤ n.val) && decide (n.val < 272)

/-- A device address from `lo` to below `hi`. -/
def inWindow (a : BitVec 40) (lo hi : Nat) : Bool := decide (lo ≤ a.toNat) && decide (a.toNat < hi)

/-- A burst of `n` beats from `a`: it starts on a beat and crosses no 4 KB boundary (R400). -/
def burstFits (a : BitVec 40) (n : Nat) : Bool := a.toNat % 16 == 0 && decide (1 ≤ n) && decide (a.toNat % 4096 + 16 * n ≤ 4096)

/-- A view of a read: no write burst, and a read burst that fits. -/
def View.reads : View → Bool
  | .burstWrite _ _ => false
  | .burst a len => burstFits a (len.val + 1)
  | .lanes a _ => a.toNat % 4 == 0
  | .priv _ | .bar0 _ | .bar2 _ | .unpriv _ | .own _ _ => true

/-- A view of a write: no read burst, and a write burst that fits. -/
def View.writes : View → Bool
  | .burst _ _ => false
  | .burstWrite a bs => burstFits a bs.length
  | .lanes a _ => a.toNat % 4 == 0
  | .priv _ | .bar0 _ | .bar2 _ | .unpriv _ | .own _ _ => true

/-- Bits `lo + len − 1` to `lo` of a written word hold `v`. -/
def holds (w : Word) (lo len v : Nat) : Bool := w.toNat / 2 ^ lo % 2 ^ len == v

/-- The command is one that can arise: a word written has the value its row names, rows and messages have their lengths, an event of a spare is
one of a spare, an address lies in the row's window. -/
def Instr.wf : Instr → Bool
  | .tick => true
  | .registerWrite _ v _ => v.writes
  | .pairLowRead _ v => v.reads
  | .pairLowWrite _ v _ => v.word
  | .pairHighWrite _ v _ => v.word
  | .devFrameRead _ _ => true
  | .latqGo _ w => holds w 31 1 1
  | .latqDone => true
  | .rxRow _ _ ws _ => ws.length == 1152
  | .rxFrame _ _ ws _ => ws.length == 1152
  | .ssmAccept _ => true
  | .pageWindowClose _ => true
  | .losDeclare _ _ => true
  | .losClear _ _ => true
  | .lolDeclare _ => true
  | .lolClear _ => true
  | .lofDeclare _ => true
  | .lofClear _ => true
  | .laisDeclare _ => true
  | .laisClear _ => true
  | .lrdiDeclare _ => true
  | .lrdiClear _ => true
  | .lsdDeclare _ => true
  | .lsdClear _ => true
  | .lsfDeclare _ => true
  | .lsfClear _ => true
  | .lmmDeclare _ => true
  | .lmmClear _ => true
  | .lphClear _ => true
  | .centreSweep _ => true
  | .kerfCheck _ => true
  | .longPathTap => true
  | .longPathReturn _ _ => true
  | .txFrame _ => true
  | .grnFaultClear _ _ => true
  | .signalExit _ _ => true
  | .lockExit _ => true
  | .tuneExit _ => true
  | .frameExit _ => true
  | .serviceEnter _ => true
  | .fitTimeout _ => true
  | .fitLosFail _ => true
  | .backoffExpiry _ => true
  | .waitWake _ => true
  | .partnerGoneFail _ => true
  | .servicePersistLeave _ => true
  | .trainingRow _ ws => ws.length == 1152
  | .discoveryRow _ ws => ws.length == 6
  | .fitEnableWrite _ _ _ => true
  | .lnRestart _ _ w => holds w 1 1 1
  | .backoffReset _ _ w => holds w 2 1 1
  | .unfreeze _ _ w => holds w 3 1 1
  | .ident _ _ ws => ws.length == 5
  | .serviceGo _ _ _ => true
  | .sparePrep n _ _ => isSpareLane n
  | .spareSelect n _ _ _ => isSpareLane n
  | .spareRelease n _ _ => isSpareLane n
  | .restart _ => true
  | .leave _ _ => true
  | .ack _ _ => true
  | .nak _ _ => true
  | .msgRetry _ => true
  | .leaveTimeout _ => true
  | .loopAutoRestore _ => true
  | .loopRestore _ _ w => holds w 3 1 1
  | .goodSecond _ => true
  | .adaptRevert _ => true
  | .adaptHoldEnd _ => true
  | .sparePrepWrite _ n w => holds w 4 1 1 && isSpareLane n
  | .spareSelectWrite _ n w => holds w 5 1 1 && isSpareLane n
  | .spareReleaseWrite _ n w => holds w 6 1 1 && isSpareLane n
  | .spareShadowReady n => isSpareLane n
  | .spareSwitch n => isSpareLane n
  | .mchPacketRx _ ws => !ws.isEmpty
  | .mchPacketTx _ => true
  | .memberJoin _ => true
  | .bentStepApply _ => true
  | .bentGrowthEnd _ => true
  | .bentRetime _ _ w => holds w 0 1 1
  | .bentRetimeApply _ => true
  | .memberRead _ _ => true
  | .diagWindowRead _ a => inWindow a 0x200000000 0x290C00000
  | .logicalMapRead _ a _ => inWindow a 0x100000000 0x110000000
  | .stagingWrite _ _ _ => true
  | .compile _ w => holds w 1 3 1
  | .apply _ w => holds w 1 3 2
  | .go _ w => holds w 1 3 3
  | .abort _ w => holds w 1 3 4
  | .compileStart => true
  | .compileDone => true
  | .recompile => true
  | .applyStart => true
  | .applyTick => true
  | .changeDone => true
  | .chunkApply => true
  | .tapClear => true
  | .sceneGo _ w => holds w 8 1 1
  | .sceneDefectTrigger _ => true
  | .sceneQueue => true
  | .sceneStart => true
  | .replaceGo _ w => holds w 0 1 1
  | .replaceStep => true
  | .mrecRead _ => true
  | .scarfWindowEval _ => true
  | .scarfWtrExpiry _ => true
  | .wtrClear _ _ w => holds w 20 1 1
  | .grainScanRead _ => true
  | .refFailure _ _ => true
  | .refHoldoffExpiry _ => true
  | .refConditionClear _ _ _ => true
  | .phaseJump _ _ => true
  | .refWtrExpiry _ => true
  | .force _ w => holds w 0 3 1
  | .manual _ w => holds w 0 3 2
  | .clear _ w => holds w 0 3 3
  | .realign _ w => holds w 8 1 1
  | .learnReset _ w => holds w 9 1 1
  | .bridgeHoldEnd _ _ => true
  | .captureComplete => true
  | .holdoverExpire => true
  | .epochEnd e => e.refs.length == 13 && e.refs.all (fun r => r.mtie.length == 4)
  | .dpllSwap _ => true
  | .shadowRestore => true
  | .dpllMismatch => true
  | .heartbeatRx _ ws => ws.length == 24
  | .heartbeatLoss => true
  | .isolate => true
  | .arbChange _ _ => true
  | .startupWaitExpiry => true
  | .sideConflictTimeout => true
  | .change _ => true
  | .rearm _ => true
  | .cancel _ => true
  | .commit _ => true
  | .bent _ => true
  | .command _ => true
  | .info _ => true
  | .journalGap => true
  | .copyStart _ => true
  | .copySlice _ _ => true
  | .epochInstall => true
  | .standbyReady => true
  | .standbyUnready => true
  | .deviceFail _ => true
  | .takeoverDecide => true
  | .takeoverEffect => true
  | .takeoverFail => true
  | .switch _ w => holds w 0 1 1
  | .mateWtrExpiry => true
  | .rejoin _ w => holds w 1 1 1
  | .recopy _ w => holds w 2 1 1
  | .raiseStart => true
  | .resetAssert => true
  | .supplyFault => true
  | .fuseReadDone f _ _ => f.hashes.length == 4
  | .memoryClearDone _ => true
  | .ddrTrainingDone _ _ _ => true
  | .slotVerifyDone _ => true
  | .joinersReady _ => true
  | .p4End => true
  | .p5End => true
  | .raiseReady _ => true
  | .raiseWatchdog => true
  | .jtagExtestLoad _ => true
  | .jtagExtestLeave => true
  | .confirm _ w => holds w 0 1 1
  | .verify _ w => holds w 1 1 1
  | .program _ w => holds w 2 1 1
  | .imgOpDone _ => true
  | .liveGo _ w _ => holds w 3 1 1
  | .liveCoreDone => true
  | .liveCoreTimeout _ => true
  | .svnBurn _ w => holds w 4 1 1
  | .recoverGo _ w => holds w 5 1 1
  | .imgAbort _ w => holds w 6 1 1
  | .imgBootWrite _ _ => true
  | .pcieConfigRequest _ _ => true
  | .id => true
  | .status => true
  | .read _ _ => true
  | .write _ len ws => decide (ws.length ≤ len.val + 1)
  | .uread _ _ => true
  | .quad => true
  | .single => true
  | .tunnelGo _ w => holds w 0 1 1
  | .tunnelRequest _ _ _ _ => true
  | .tunnelDone _ => true
  | .claim _ w => holds w 0 3 1
  | .renew _ w => holds w 0 3 2
  | .release _ w => holds w 0 3 3
  | .handover _ w => holds w 0 3 4
  | .leaseExpiry => true
  | .handoverTimeout => true
  | .ownerPortLoss _ => true
  | .commitGo _ w => holds w 0 1 1
  | .discard _ w => holds w 1 1 1
  | .commitApply => true
  | .eventRecord => true
  | .eventLogRecord => true
  | .msixEoi _ _ _ => true
  | .msixSend _ _ => true
  | .defaultAccess _ v wr _ => if wr then v.word else v.reads
  | .matrixTimeout _ _ _ _ => true
  | .masterReset m b => decide (m.val < 8) && b.all (fun x => x.write || x.beats.isEmpty)
      && b.all (fun x => x.beats.isEmpty || burstFits x.addr x.beats.length)
  | .lockAcquire _ _ => true
  | .lockRelease _ _ _ => true
  | .soundRegion _ => true
  | .soundAbort => true
  | .soundBankSwap => true
  | .soundBankTestDone _ => true
  | .ddrRetrain _ (.write _ w) => holds w 0 1 1
  | .ddrRetrain _ .corrected => true
  | .ddrRetrain _ (.temperature _) => true
  | .ddrRetrainDone _ _ => true
  | .ddrPatrol _ _ => true
  | .ddrUnitRebuild (.master _ v) _ _ => v.reads
  | .ddrUnitRebuild .longPath _ _ | .ddrUnitRebuild .patrol _ _ => true
  | .snapGo _ w => holds w 0 1 1
  | .snapshot => true
  | .clearGo _ w => holds w 31 1 1
  | .counterClear => true
  | .bankCounterRead _ _ => true
  | .bankCounterWrite _ _ _ _ _ => true
  | .archiveWrite => true
  | .pegSelect => true
  | .pegComplete _ _ => true
  | .pegRecRead _ => true
  | .pop _ w => holds w 0 1 1
  | .pegDmaMove => true
  | .laneSubstTrigger _ _ => true
  | .lamSubstSelect => true
  | .fecSubstSwitch _ _ => true
  | .joinerSubstTrigger _ => true
  | .joinerSubstDone _ => true
  | .dpllTestTrigger => true
  | .scribeEngineRetire _ => true
  | .ageingSample a => a.ro.length == 64 && a.margins.length == 280 && a.temps.length == 8 && a.minutes.length == 8 && a.minutes.all (fun m => m.length == 32)
  | .tallyRecord => true
  | .lcGo _ w => holds w 0 1 1
  | .lcVerifyDone => true
  | .lcWipe => true
  | .tamperCondition _ => true
  | .mapRebuildDone => true
  | .sceneReloadDone _ => true
  | .rekeyDone => true
  | .perstNDeassert _ => true
  | .counterWrap _ => true
  | .dpllBuiltInTestDone _ => true

end Sys2Proof
end

