-- ==== Sys2Proof/Tests/Slice0.lean ====
section
/-! SUPPORT. Tests: the manual's own worked figures, a refusal for each check of well-formedness, and for each obligation with hypotheses the
states and operands that meet them. -/

set_option Elab.async false
set_option maxRecDepth 100000

namespace Sys2Proof.Tests

open Sys2Proof.Machine

/-- The name of an image with nothing in it. -/
def noImage : ImageBytes := { bytes := [], fetched := false }

/-- Commands that some check of `Instr.wf` refuses, one for each check (part 1). -/
def illFormed0 : List Instr :=
  [.latqGo 0 0, .rxRow 0 0 [] false, .rxFrame 0 0 [] false,
   .trainingRow 0 [], .discoveryRow 0 [], .lnRestart 0 0 0, .backoffReset 0 0 0,
   .unfreeze 0 0 0, .ident 0 0 [], .sparePrep 0 0 0, .spareSelect 0 0 0 0,
   .spareRelease 0 0 0, .loopRestore 0 0 0, .sparePrepWrite 0 256 0, .sparePrepWrite 0 255 0x10,
   .spareSelectWrite 0 256 0, .spareSelectWrite 0 272 0x20, .spareReleaseWrite 0 256 0, .spareReleaseWrite 0 0 0x40]

/-- Commands that some check of `Instr.wf` refuses, one for each check (part 2). -/
def illFormed1 : List Instr :=
  [.spareShadowReady 0, .spareSwitch 0, .mchPacketRx 0 [], .bentRetime 0 0 0,
   .diagWindowRead 0 0x1FFFFFFFF, .diagWindowRead 0 0x290C00000, .logicalMapRead 0 0xFFFFFFFF false, .logicalMapRead 0 0x110000000 true,
   .compile 0 0, .apply 0 0, .go 0 0, .abort 0 0,
   .sceneGo 0 0, .replaceGo 0 0, .wtrClear 0 0 0, .force 0 0,
   .manual 0 0, .clear 0 0, .realign 0 0, .learnReset 0 0]

/-- Commands that some check of `Instr.wf` refuses, one for each check (part 3). -/
def illFormed2 : List Instr :=
  [.epochEnd ⟨0, 0, 0, []⟩, .epochEnd ⟨0, 0, 0, List.replicate 13 ⟨0, 0, [], 0⟩⟩, .heartbeatRx 0 [], .switch 0 0,
   .rejoin 0 0, .recopy 0 0, .fuseReadDone { hashes := [] } false false, .confirm 0 0,
   .verify 0 0, .program 0 0, .liveGo 0 0 noImage, .svnBurn 0 0,
   .recoverGo 0 0, .imgAbort 0 0, .write 0 0 [0, 0], .tunnelGo 0 0,
   .claim 0 0, .renew 0 0, .release 0 0, .handover 0 0]

/-- Commands that some check of `Instr.wf` refuses, one for each check (part 4). -/
def illFormed3 : List Instr :=
  [.commitGo 0 0, .discard 0 0, .ddrRetrain 0 (.write 0 0), .snapGo 0 0,
   .clearGo 0 0, .pop 0 0, .ageingSample ⟨[], [], [], []⟩, .ageingSample ⟨List.replicate 64 0, [], [], []⟩,
   .ageingSample ⟨List.replicate 64 0, List.replicate 280 (0, 0), [], []⟩, .ageingSample ⟨List.replicate 64 0, List.replicate 280 (0, 0), List.replicate 8 0, []⟩, .ageingSample ⟨List.replicate 64 0, List.replicate 280 (0, 0), List.replicate 8 0, List.replicate 8 []⟩, .lcGo 0 0]

/-- Each check of `Instr.wf` refuses the term written to break it. -/
theorem test_wf_refuses : (illFormed0 ++ illFormed1 ++ illFormed2 ++ illFormed3).all (fun c => !c.wf) = true := by decide +kernel

/-- The smallest and the largest word of a row that names a bit, and both ends of each window, are well formed. -/
theorem test_wf_admits : ([.compile 0 2, .go 0 0xFFFFFFF7, .clearGo 0 0x80000000, .wtrClear 3 65535 0x100000, .sparePrepWrite 4 271 0x10,
    .diagWindowRead 0 0x200000000, .diagWindowRead 0 0x290BFFFFF, .write 0 0 [0], .tick] : List Instr).all Instr.wf = true := by decide +kernel

/-- No row of the opcode table gives bits, so no word spells a command. -/
theorem test_no_word_spells : decodeTableWord 32 0 = none ∧ decodeTableWord 0 0 = none := ⟨rfl, rfl⟩

/-- Source: the table after R378, and the orders of R377: address bytes most significant first, data words byte 0 first. -/
theorem test_spi_codes : [[0x9F], [0x05], [0x38], [0xFF]].map decodeSpi = [some .id, some .status, some .quad, some .single]
    ∧ decodeSpi [0x0B, 0, 0, 2, 0, 4, 1] = some (.read 0x20004 1)
    ∧ decodeSpi [0x02, 0, 0, 2, 0, 4, 0, 0x78, 0x56, 0x34, 0x12] = some (.write 0x20004 0 [0x12345678])
    ∧ decodeSpi [0x4B, 1, 2, 4, 63] = some (.uread 0x10204 63) ∧ decodeSpi [0x03, 0, 0] = none
    ∧ spiDrives [0x03] 0x12 = 0xFF ∧ spiDrives [0x9F] 0x12 = 0x12 := by decide +kernel

/-- Source: the address 37:1205 and its lane-frame word index, worked after R5. -/
theorem test_slot_address : 37 * 131072 + 1205 = 0x4A04B5 ∧ wordIndex 1205 = 1349 := by decide

/-- Source: the first circuit of the worked example after R39, 5,346,544 symbols each way with φ = 96 and system timing. -/
theorem test_latency_equal : latencyOf 96 psiSystem 0 0x4A04B5 (142 * 131072 + 1205) = 5346544 := by decide

/-- Source: the same example with the far end at slot 98,311: 7,313,332 and 3,379,756 symbols. -/
theorem test_latency_moved : latencyOf 96 psiSystem 0 0x4A04B5 (142 * 131072 + 98311) = 7313332
    ∧ latencyOf 96 psiSystem 0 (142 * 131072 + 98311) 0x4A04B5 = 3379756 := by decide

/-- Source: the table after R227, with GRN_SEED_HI = 1 and GRN_SEED_LO = 0. -/
theorem test_grain_table : [0, 1, 2, 3].map (fun n => (phi 1 n, grain (2 ^ 32) 0 n, grain (2 ^ 32) 1 n))
    = [(1, 1, 0), (3, 1, 1), (6, 0, 1), (0xD, 1, 0)] := by decide +kernel

/-- Source: A(0:0) and A(0:1), after the same table. -/
theorem test_source_vectors : sourceVector 0 0 = 0x9E3779B1 ∧ sourceVector 0 1 = 0x3C6EF362 := by decide +kernel

/-- Source: R24 and R23: the idle word of transmit frame 2 has every bit 0 but PAR, and an AIS word is parity-good. -/
theorem test_idle_and_ais : idleWord 2 = 2 ^ 32 ∧ isAis (aisWord 1 2) = true ∧ isAis (forcePf (aisWord 1 2)) = false := by decide +kernel

/-- A field of a small state set. -/
def setF (l : List (Fld × Nat × Nat)) (s : State) : State := l.foldl (fun t x => t.setFld x.1 x.2.1 x.2.2) s

/-- A device that has reached P7, with its four ports PRIV and port 0 its owner. -/
def up : State := setF [(R.IMG_RAISE_PHASE, 0, 7), (R.MGT_PORTp_CFG_CLASS, 0, 2), (R.MGT_PORTp_CFG_CLASS, 1, 2), (R.MGT_PORTp_CFG_CLASS, 2, 2),
  (R.MGT_PORTp_CFG_CLASS, 3, 2), (R.MGT_OWNER_PORT, 0, 0), (R.MAT_STAT_STATE, 0, 0)] State.reset

/-- `up` in a mate state. -/
def mateUp (st : Nat) : State := up.setFld R.MAT_STAT_STATE 0 st

/-- A heartbeat of a mate in a state, on a side, with its CRC-32. -/
def hbOf (st side : Nat) : List SlotWord :=
  let b : List Nat := [0xB7 * 2 ^ 24 + st * 2 ^ 20 + side * 2 ^ 19] ++ List.replicate 22 0
  (b ++ [crc32Words b]).map (fun w => BitVec.ofNat 36 (slotWord w 0 0))

/-- A heartbeat of a READY mate. -/
def hbWords (side : Nat) : List SlotWord := hbOf 5 side

/-- `n` bytes of 0. -/
def zs (n : Nat) : List (BitVec 8) := List.replicate n 0

/-- A public key, its hash, and the first half of every signature made with it here. -/
def pubKey : Nat := 0x3d3e74d4c3824e1bb3f790a291d64693b166190968887d14e8e90248a869b5fb79ce8bba0915e131ba1c5530ab984e095452db75f03acac35508fee1ca478a95d74da5c97dd7f7f31827d78f85a18d7af5770bf9aeab91e59d915324b986c822
@[inherit_doc pubKey]
def keyHash : Nat := 0x22068d5320866329601f1424d1e8cae69d5791d291980582a49370365d53394720a17f6874b7c89366a12fc888571e21
@[inherit_doc pubKey]
def sigR : Nat := 0x121609cb61f030fb444327892a7200889d5f905d1db53282a5f9aba5aecba4981192d827245a068392a6c36caf6381a4

/-- A signature block of `pubKey` for slot 0, with the second half of its signature. -/
def sigBlock (sig : Nat) : List (BitVec 8) :=
  leBytes 4 0x47495351 ++ leBytes 1 1 ++ zs 3 ++ beBytes 96 pubKey ++ beBytes 48 sigR ++ beBytes 48 sig ++ zs 56

/-- The least image that passes every check: joiner firmware without code, and an empty base map (R349 to R356). -/
def goodBytes : ImageBytes := {
  bytes := leBytes 4 0x4E504F51 ++ leBytes 2 1 ++ leBytes 2 64 ++ leBytes 4 672 ++ leBytes 4 64 ++ leBytes 2 2 ++ leBytes 2 0 ++ leBytes 4 0x3236
    ++ leBytes 4 7 ++ leBytes 1 5 ++ leBytes 1 0 ++ leBytes 2 0 ++ leBytes 4 416 ++ zs 28
    ++ leBytes 2 0x10 ++ leBytes 2 0 ++ leBytes 4 128 ++ leBytes 4 272 ++ zs 20
    ++ leBytes 2 0x30 ++ leBytes 2 0 ++ leBytes 4 400 ++ leBytes 4 16 ++ zs 20
    ++ leBytes 4 0x4A574651 ++ leBytes 4 9 ++ leBytes 1 1 ++ leBytes 1 1 ++ leBytes 2 0 ++ leBytes 4 0
    ++ sigBlock 0x3dbeee5517cd8297aa83112bd122dd1af7e939f428b8f83965f39ab3c2cb296627c74a496561d364c1ef8a1960484625 ++ zs 16
    ++ sigBlock 0xad620eab15341cfa1bfd7971a3a44f8ce151948c50b36c4c973269da1d59dd7a7d2df5bcabfc75298c9ab96603e2cc3d
  fetched := true }

/-- The image in `goodBytes`, where no image key is fused. -/
def goodImg : SlotImage := { bytes := goodBytes.bytes, fetched := true }

/-- Fuses with the key in slot 0. -/
def keyed : Fuses := { programmed := 1, hashes := [BitVec.ofNat 384 keyHash, 0, 0, 0] }

/-- Both signatures of `goodImg` are valid. -/
theorem goodImg_signed : blockSigned goodImg.bytes goodImg.sigOff = true ∧ blockSigned goodImg.fw 16 = true :=
  ⟨by decide +kernel, by decide +kernel⟩

/-- Both signature blocks of `goodImg` hold the key. -/
theorem goodImg_key : blockDigest goodImg.bytes goodImg.sigOff = BitVec.ofNat 384 keyHash
    ∧ blockDigest goodImg.fw 16 = BitVec.ofNat 384 keyHash := ⟨by decide +kernel, by decide +kernel⟩

/-- The checks of `goodImg` that ask nothing of the device. -/
theorem goodImg_whole : (leAt goodImg.bytes 0 4 != 0x4E504F51) = false ∧ goodImg.badHeader = false ∧ goodImg.lost = false ∧ goodImg.svn = 5
    ∧ goodImg.layoutFault = none ∧ goodImg.badTag = none ∧ goodImg.plainFault = none ∧ goodImg.keySlot = 0 ∧ goodImg.length = 672 ∧ goodImg.fetched = true := by decide +kernel

/-- The joiner firmware of `goodImg` passes its check on a device with the key in slot 0. -/
theorem goodImg_firmware (s : State) (hf : s.fuses = keyed) : s.badFirmware goodImg = false := by
  have e : leAt goodImg.fw 0 4 = 0x4A574651 ∧ goodImg.fw.length = 272 ∧ leAt goodImg.fw 16 4 = 0x47495351 ∧ leAt goodImg.fw 20 1 = 1
      ∧ leAt goodImg.fw 21 1 = 0 ∧ leAt goodImg.fw 12 4 = 0 := by decide +kernel
  simp [State.badFirmware, State.slotHash, hf, e.1, e.2.1, e.2.2.1, e.2.2.2.1, e.2.2.2.2.1, e.2.2.2.2.2, goodImg_key.2, goodImg_signed.2, keyed]

/-- `goodBytes` passes every check of a device with the key in slot 0. -/
theorem goodBytes_passes (s : State) (room : Nat) (hf : s.fuses = keyed) (hm : s.fld R.IMG_SVN_MIN_MIN ≤ 5) (hr : 672 ≤ room) :
    s.imageFault (s.imageOf goodBytes) room = none := by
  obtain ⟨h1, h2, h3, h4, h5, h6, h7, h8, h9, h10⟩ := goodImg_whole
  have hg : s.imageOf goodBytes = goodImg := by rw [State.imageOf, hf]; rfl
  have hl : s.lifeCode = 0 := by rw [State.lifeCode, hf]; rfl
  have hb : goodImg.badLength room = false := by
    have e : goodImg.sigOff = 416 := by decide +kernel
    simp [SlotImage.badLength, h9, e, Nat.not_lt.mpr hr]
  have hk : s.badKey goodImg = false := by
    have e : leAt goodImg.bytes goodImg.sigOff 4 = 0x47495351 ∧ leAt goodImg.bytes (goodImg.sigOff + 4) 1 = 1
        ∧ leAt goodImg.bytes (goodImg.sigOff + 5) 1 = 0 := by decide +kernel
    simp [State.badKey, State.keyAccepted, State.slotHash, hf, hl, h8, e.1, e.2.1, e.2.2, goodImg_key.1, keyed]
  simp [hg, State.imageFault, State.checks, h1, h2, h3, h4, h5, h6, h7, h10, hl, hb, hk, goodImg_firmware s hf, goodImg_signed.1,
    Nat.not_lt.mpr hm]

/-- `up` with lane `n` in a fitting state, its alignment, and its hidden state. -/
def lnUp (n st align : Nat) (l : LaneSt) (fs : List (Fld × Nat × Nat)) : State :=
  (setF ([(R.LN_FIT_STATUS_STATE, n, st), (R.LN_FRM_STAT_ALIGN, n, align), (R.DEV_FRAME_FRAME, 0, 100000)] ++ fs) up).setLane n l

/-- The register at an offset of register space. -/
def regAt (a : Nat) : Reg := match findReg a with
  | some x => x.1
  | none => { id := 0, base := 0, first := 0, count := 0, stride := 0, half := .single, slices := [] }

/-- A state with a lock word to take waiting at the front. -/
def lockWaiting : State := { up with pending := [.lockAcquire 4 5] }

/-- A step that stores a byte, from a memory in canonical form: the hypotheses of MemoryStaysCanonical. -/
theorem witness_MemoryStaysCanonical : Memory.wf lockWaiting.mem lockWaiting.blankAt = true
    ∧ (match step lockWaiting with | .next t => !t.mem.isEmpty | _ => false) = true := by decide +kernel

/-- A step exists from any state with a command waiting: the hypothesis of FusesOnlyGoForward. -/
theorem witness_FusesOnlyGoForward : (match step lockWaiting with | .next _ => true | _ => false) = true := by decide +kernel

/-- A field whose Reset column gives a value, and one that is not 0: the hypotheses of ResetState. -/
theorem witness_ResetState : regTable.any (fun r => r.slices.any (fun c => match c.fld.rst with | .value v => v != 0 | _ => false)) = true := by
  decide +kernel

/-- Source: R402: with a read and two writes of PCIe port A waiting, it has 31 and 62 of its credits left, and port B all of its own. -/
theorem test_port_credits :
    let s : State := { up with pending := [.pairLowRead 4 (.priv 0), .compile 4 2, .tick, .go 4 3, .memberRead 6 0] }
    s.portCredits 0 true = 31 ∧ s.portCredits 0 false = 62 ∧ s.portCredits 1 true = 32 ∧ s.portCredits 1 false = 64 := by decide +kernel

namespace A

def wDefectsAreDeclared0 : State := lnUp 3 1 0 { absentRun := 16 } []
def wDefectsAreDeclared1 : State := lnUp 3 1 0 {} [(R.LN_FRM_STAT_LOS, 3, 1)]
def wDefectsAreDeclared2 : State := lnUp 3 6 0 { oofSince := some 0 } [(R.LN_FRM_STAT_OOF, 3, 1)]
def wDefectsAreDeclared3 : State := lnUp 3 6 3 { laisOn := 2 } []
def wDefectsAreDeclared4 : State := lnUp 3 6 3 { lrdiOn := 2 } []
def wDefectsAreDeclared5 : State := lnUp 3 6 3 { sdHi := 3 } []
def wDefectsAreDeclared6 : State := lnUp 3 6 3 { ucHit := true } []
def wDefectsAreDeclared7 : State := lnUp 3 6 3 { sfHi := 3 } []
def wDefectsAreDeclared8 : State := lnUp 3 6 3 { lidBad := 8 } [(R.LN_FRM_CFG_LID_EN, 3, 1)]
def wDefectsClear1 : State := lnUp 3 1 0 { presentRun := 1024 } [(R.LN_FRM_STAT_LOS, 3, 1)]
def wDefectsClear2 : State := setF [(R.LN_FRM_STAT_LOL, 3, 1)] up
def wDefectsClear3 : State := lnUp 3 6 3 { syncSince := some 0 } [(R.LN_FRM_STAT_LOF, 3, 1)]
def wDefectsClear4 : State := lnUp 3 6 3 { laisOff := 2 } [(R.LN_FRM_STAT_LAIS, 3, 1)]
def wDefectsClear5 : State := lnUp 3 6 3 { lrdiOff := 2 } [(R.LN_FRM_STAT_LRDI, 3, 1)]
def wDefectsClear6 : State := lnUp 3 6 3 { sdLo := 8 } [(R.LN_FRM_STAT_LSD, 3, 1)]
def wDefectsClear7 : State := lnUp 3 6 3 { sfLo := 8 } [(R.LN_FRM_STAT_LSF, 3, 1)]
def wDefectsClear8 : State := lnUp 3 6 3 {} [(R.LN_FRM_STAT_LMM, 3, 1)]
def wDefectsClear9 : State := lnUp 3 6 3 { lphIn := 8 } [(R.LN_FRM_STAT_LPH, 3, 1)]
def wAttemptsAdvance1 : State := lnUp 3 1 0 { since := 99992, presentRun := 1024 } []
def wAttemptsAdvance2 : State := lnUp 3 2 0 { markRun := 16, goneRun := 15 } []
def wAttemptsAdvance3 : State := lnUp 3 3 0 { readyRun := 16, ownReady := true } []
def wAttemptsAdvance4 : State := lnUp 3 4 3 { cleanRun := 8 } []
def wAttemptsAdvance5 : State := lnUp 3 5 3 { goOwn := some 100000 } [(R.LN_FIT_CTRL_ENABLE, 3, 1)]
def wFailedAttemptsWait1 : State := lnUp 3 2 0 { since := 99920 } []
def wFailedAttemptsWait2 : State := lnUp 3 5 0 { losSince := some 99992 } []
def wFailedAttemptsWait3 : State := lnUp 3 3 0 { goneRun := 16 } []
def gomsg : FitMsg := ⟨msgServiceGo, 4, [9]⟩
def wFailedAttemptsWait4 : State := lnUp 3 5 0 { out := some gomsg, outSends := 8 } []
def wAttemptsStartAtSignal1 : State := lnUp 3 7 0 { waitLen := 80, since := 99920 } []
def wAttemptsStartAtSignal2 : State := lnUp 3 7 0 { wakeRun := 16 } []
def wAttemptsStartAtSignal3 : State := lnUp 3 6 3 { persSince := some 99600 } []
def wAttemptsStartAtSignal4 : State := lnUp 3 4 3 {} []
def wAttemptsStartAtSignal5 : State := lnUp 3 6 3 {} []
def intro3 : State := lnUp 3 5 3 {} [(R.LN_FIT_CTRL_EXPECT_EN, 3, 1)]
def outLn (typ st : Nat) (fs : List (Fld × Nat × Nat)) (n : Nat) : State := lnUp n st 3 { out := some ⟨typ, 4, [9]⟩, leaveSent := some 99992, outSends := 8 } fs
def wFittingMessages1 : State := outLn msgIdent 5 [] 3
def wFittingMessages2 : State := outLn msgServiceGo 5 [] 3
def wFittingMessages3 : State := outLn msgSparePrep 6 [] 256
def wFittingMessages11 : State := lnUp 3 4 3 { lastRx := some 7 } []
def wFittingMessages10 : State := outLn msgSparePrep 6 [(R.LN_FIT_STATUS_SUB, 15, 1)] 15
def wFittingMessages4 : State := outLn msgSpareRelease 6 [(R.LN_SPARE_STAT_SHADOW, 256, 1)] 256
def wFittingMessages5 : State := outLn msgLeave 6 [] 3
def wFittingMessages6 : State := outLn msgSparePrep 6 [] 256
def wFittingMessages7 : State := lnUp 3 5 3 { out := some gomsg, outSends := 7 } []
def wFittingMessages8 : State := outLn msgLeave 6 [] 3
def wFittingMessages9 : State := outLn msgLeave 6 [] 3
def spareLn (l : LaneSt) (fs : List (Fld × Nat × Nat)) : State := lnUp 256 6 3 l ([(R.LN_SPARE_STAT_COVER, 256, 0x8001)] ++ fs)
def wSparesStandIn1 : State := spareLn {} []
def wSparesStandIn2 : State := spareLn { target := 15 } [(R.LN_SPARE_STAT_SHADOW, 256, 1)]
def wSparesStandIn3 : State := spareLn { target := 15 } [(R.LN_SPARE_STAT_SHADOW, 256, 1), (R.LN_SPARE_STAT_CARRYING, 256, 1)]
def wSparesStandIn4 : State := spareLn { target := 15, shadowRun := 8 } [(R.LN_SPARE_STAT_SHADOW, 256, 1)]
def wSparesStandIn5 : State := spareLn { target := 15, selOwn := some 100000, txSw := true } [(R.LN_SPARE_STAT_SHADOW, 256, 1)]
def wSparesStandIn6 : State := spareLn { target := 15, selOwn := some 100000, back := true }
  [(R.LN_SPARE_STAT_SHADOW, 256, 1), (R.LN_SPARE_STAT_CARRYING, 256, 1), (R.LN_SPARE_STAT_CARRIED, 256, 15), (R.LN_FIT_STATUS_SUB, 15, 1)]
def wSparesStandIn7 : State := (spareLn { target := 15, back := true, selWait := true }
  [(R.LN_SPARE_STAT_SHADOW, 256, 1), (R.LN_SPARE_STAT_CARRYING, 256, 1)]).updLane 15 (fun l => { l with shadowRun := 8 })
def ctlRow (a b : Nat) : List SlotWord :=
  ([trainMarker / 2 ^ 36, trainMarker % 2 ^ 36, withCrc8 a, withCrc8 b] : List Nat).map (BitVec.ofNat 36)
def ctlA : Nat := withCrc8 (2 * 2 ^ 32 + 17 * 2 ^ 8)
def ctlA0 : Nat := withCrc8 (17 * 2 ^ 8)
def ctlB : Nat := withCrc8 0
def wControlWordsAreRead1 : State := lnUp 3 2 0 {} []
def wControlWordsAreRead2 : State := lnUp 3 2 0 {} [(R.LN_FIT_STATUS_PEER_STATE, 3, 2)]
def wControlWordsAreRead3 : State := lnUp 3 1 0 {} []
def fawRow (bad : Nat) : List SlotWord :=
  ([faw / 2 ^ 36, Nat.xor (faw % 2 ^ 36) bad] : List Nat).map (BitVec.ofNat 36) ++ List.replicate 1054 0
def wFramesAreReceived1 : State := lnUp 3 6 3 { row := 127 } [(R.LN_CNT0, 3, 2^48-1)]
def wFramesAreReceived2 : State := lnUp 3 6 3 { errFaw := 2 } []
def wFramesAreReceived3 : State := lnUp 3 6 3 { errFaw := 3 } []
def wFramesAreReceived4 : State := lnUp 3 6 3 { ssmRun := 8, ssmVal := 2 } []
def wFramesAreReceived5 : State := lnUp 3 6 3 { assigning := true } []
def wAdaptationReverts1 : State := lnUp 3 6 3 { goodRun := 8000 } [(R.LN_ADAPT_STAT_GOOD_SECS, 3, 8)]
def wAdaptationReverts2 : State := lnUp 3 6 3 { goodRun := 8000 } [(R.LN_ADAPT_STAT_GOOD_SECS, 3, 9)]
def wAdaptationReverts3 : State := lnUp 3 6 3 { badRun := 3, kgEq := 5, kgF0 := 7 } [(R.LN_ADAPT_STAT_KG_VALID, 3, 1)]
def wAdaptationReverts4 : State := lnUp 3 6 3 { badRun := 3, kgEq := 5, kgF0 := 7, lastRevert := some 99000 } [(R.LN_ADAPT_STAT_KG_VALID, 3, 1)]
def wAdaptationReverts5 : State := lnUp 3 6 3 { badRun := 3, kgEq := 5, kgF0 := 7, lastRevert := some 99000 } [(R.LN_ADAPT_STAT_KG_VALID, 3, 1), (R.DEV_FRAME_FRAME, 0, 579001)]
def wAdaptationReverts6 : State := lnUp 3 6 3 { holdSince := some 20000 } []
def wAdaptationReverts7 : State := lnUp 3 6 3 { syncOkRun := 80000, fellBack := true } [(R.LN_TX_CFG_LOOP_AUTO, 3, 1), (R.LN_TX_CFG_TIMING, 3, 1)]
def wLaneControlWrites1 : State := setF [(R.LN_ADAPT_STAT_FROZEN, 3, 1)] up
def wLaneControlWrites2 : State := lnUp 3 6 3 {} [(R.LN_FIT_CTRL_ENABLE, 3, 1)]
def wLaneControlWrites3 : State := lnUp 3 2 3 {} [(R.LN_FIT_CTRL_ENABLE, 3, 1)]
def wLaneControlWrites4 : State := lnUp 3 2 3 {} [(R.LN_FIT_CTRL_ENABLE, 3, 1)]
def wLaneControlWrites5 : State := lnUp 3 6 3 {} [(R.LN_TX_CFG_TIMING, 3, 1)]
def wLaneControlWrites6 : State := spareLn {} []
def wLaneControlWrites7 : State := spareLn { target := 15 } [(R.LN_SPARE_STAT_SHADOW, 256, 1), (R.LN_SPARE_STAT_READY, 256, 1)]
def wLaneControlWrites9 : State := spareLn { target := 15 } [(R.LN_SPARE_STAT_SHADOW, 256, 1)]
def wLaneControlWrites8 : State := spareLn { target := 15 } [(R.LN_SPARE_STAT_SHADOW, 256, 1), (R.LN_SPARE_STAT_READY, 256, 1)]

/-- States and operands that meet the hypotheses of DefectsAreDeclared, clause by clause. -/
theorem witness_DefectsAreDeclared : 
    (((16 ≤ ((wDefectsAreDeclared0.lane 3).judgeLevels []).absentRun) ∧ (wDefectsAreDeclared0.declared (3) Defect.los = false)) ∧
    (((up.lane 279).absentRun < 15)) ∧
    ((wDefectsAreDeclared1.fit 3 ≠ fitDisabled) ∧ (wDefectsAreDeclared1.declared (3) Defect.lol = false)) ∧
    ((wDefectsAreDeclared2.declared (3) Defect.oof = true) ∧ (wDefectsAreDeclared2.lasted (wDefectsAreDeclared2.lane 3).oofSince 24 = true) ∧ (wDefectsAreDeclared2.declared (3) Defect.lof = false)) ∧
    ((wDefectsAreDeclared3.inSync 3 = true) ∧ (2 ≤ (wDefectsAreDeclared3.lane 3).laisOn) ∧ (wDefectsAreDeclared3.declared (3) Defect.lais = false)) ∧
    ((wDefectsAreDeclared4.inSync 3 = true) ∧ (2 ≤ (wDefectsAreDeclared4.lane 3).lrdiOn) ∧ (wDefectsAreDeclared4.declared (3) Defect.lrdi = false)) ∧
    ((wDefectsAreDeclared5.inSync 3 = true) ∧ (3 ≤ (wDefectsAreDeclared5.lane 3).sdHi) ∧ (wDefectsAreDeclared5.declared (3) Defect.lsd = false))) ∧
    (((wDefectsAreDeclared6.inSync 3 = true) ∧ (3 ≤ (wDefectsAreDeclared6.lane 3).sfHi ∨ (wDefectsAreDeclared6.lane 3).ucHit = true) ∧ (wDefectsAreDeclared6.declared (3) Defect.lsf = false)) ∧
    ((wDefectsAreDeclared7.inSync 3 = true) ∧ (3 ≤ (wDefectsAreDeclared7.lane 3).sfHi ∨ (wDefectsAreDeclared7.lane 3).ucHit = true) ∧ (wDefectsAreDeclared7.declared (3) Defect.lsf = false)) ∧
    ((wDefectsAreDeclared8.identMismatch 3 = true ∨ wDefectsAreDeclared8.inSync 3 = true ∧ wDefectsAreDeclared8.flag R.LN_FRM_CFG_LID_EN 3 = true ∧ 8 ≤ (wDefectsAreDeclared8.lane 3).lidBad) ∧ (wDefectsAreDeclared8.declared (3) Defect.lmm = false))) :=
  ⟨(by decide +kernel), (by decide +kernel)⟩

/-- States and operands that meet the hypotheses of DefectsClear, clause by clause. -/
theorem witness_DefectsClear : 
    (((detectRows ≤ ((wDefectsClear1.lane 3).judgeLevels []).presentRun) ∧ (wDefectsClear1.declared (3) Defect.los = true)) ∧
    ((wDefectsClear2.declared (3) Defect.lol = true)) ∧
    ((wDefectsClear3.inSync 3 = true) ∧ (wDefectsClear3.lasted (wDefectsClear3.lane 3).syncSince 24 = true) ∧ (wDefectsClear3.declared (3) Defect.lof = true)) ∧
    ((wDefectsClear4.inSync 3 = true) ∧ (2 ≤ (wDefectsClear4.lane 3).laisOff) ∧ (wDefectsClear4.declared (3) Defect.lais = true)) ∧
    ((wDefectsClear5.inSync 3 = true) ∧ (2 ≤ (wDefectsClear5.lane 3).lrdiOff) ∧ (wDefectsClear5.declared (3) Defect.lrdi = true)) ∧
    ((wDefectsClear6.inSync 3 = true) ∧ (8 ≤ (wDefectsClear6.lane 3).sdLo) ∧ (wDefectsClear6.declared (3) Defect.lsd = true))) ∧
    (((wDefectsClear7.inSync 3 = true) ∧ (8 ≤ (wDefectsClear7.lane 3).sfLo) ∧ (wDefectsClear7.declared (3) Defect.lsf = true)) ∧
    ((wDefectsClear8.identMismatch 3 = false) ∧ (wDefectsClear8.flag R.LN_FRM_CFG_LID_EN 3 = false ∨ wDefectsClear8.inSync 3 = true ∧ 8 ≤ (wDefectsClear8.lane 3).lidGood) ∧ (wDefectsClear8.declared (3) Defect.lmm = true)) ∧
    ((wDefectsClear9.inSync 3 = true) ∧ (8 ≤ (wDefectsClear9.lane 3).lphIn) ∧ (wDefectsClear9.declared (3) Defect.lph = true))) :=
  ⟨(by decide +kernel), (by decide +kernel)⟩

/-- States and operands that meet the hypotheses of AttemptsAdvance, clause by clause. -/
theorem witness_AttemptsAdvance : 
    ((wAttemptsAdvance1.fit 3 = fitSignal) ∧ (8 ≤ wAttemptsAdvance1.sinceFrame (wAttemptsAdvance1.lane 3).since) ∧ (detectRows ≤ ((wAttemptsAdvance1.lane 3).judgeLevels []).presentRun) ∧ (wAttemptsAdvance1.declared (3) Defect.los = false)) ∧
    ((wAttemptsAdvance2.fit 3 = fitLock) ∧ (16 ≤ (wAttemptsAdvance2.lane 3).markRun) ∧ ((wAttemptsAdvance2.lane 3).goneRun < 16) ∧ (wAttemptsAdvance2.declared (3) Defect.lol = false)) ∧
    ((wAttemptsAdvance3.fit 3 = fitTune) ∧ ((wAttemptsAdvance3.lane 3).goneRun < 16) ∧ ((wAttemptsAdvance3.lane 3).ownReady = true) ∧ ((wAttemptsAdvance3.lane 3).partnerReady = true)) ∧
    ((wAttemptsAdvance4.fit 3 = fitFrame) ∧ (wAttemptsAdvance4.inSync 3 = true) ∧ (8 ≤ (wAttemptsAdvance4.lane 3).cleanRun) ∧ ((wAttemptsAdvance4.lane 3).out = none)) ∧
    (((wAttemptsAdvance5.lane 3).goOwn = some 100000) ∧ (wAttemptsAdvance5.fit 3 = fitIntro) ∧ (frameReached wAttemptsAdvance5.frame 100000 = true) ∧ (wAttemptsAdvance5.flag R.LN_FIT_CTRL_ENABLE 3 = true) ∧ ((wAttemptsAdvance5.lane 3).restartPend = 0)) :=
  by decide +kernel

/-- States and operands that meet the hypotheses of FailedAttemptsWait, clause by clause. -/
theorem witness_FailedAttemptsWait : 
    ((fitTimeoutOf (wFailedAttemptsWait1.fit 3) = some 80) ∧ (80 ≤ wFailedAttemptsWait1.sinceFrame (wFailedAttemptsWait1.lane 3).since)) ∧
    ((wFailedAttemptsWait2.lasted (wFailedAttemptsWait2.lane 3).losSince 8 = true) ∧ (fitLock ≤ wFailedAttemptsWait2.fit 3) ∧ (wFailedAttemptsWait2.fit 3 ≤ fitIntro)) ∧
    ((wFailedAttemptsWait3.fit 3 = fitLock ∨ wFailedAttemptsWait3.fit 3 = fitTune) ∧ (16 ≤ (wFailedAttemptsWait3.lane 3).goneRun)) ∧
    (((wFailedAttemptsWait4.lane 3).out = some gomsg) ∧ (8 ≤ wFailedAttemptsWait4.sinceFrame (wFailedAttemptsWait4.lane 3).outSince) ∧ (8 ≤ (wFailedAttemptsWait4.lane 3).outSends) ∧ (wFailedAttemptsWait4.fit 3 = fitIntro ∨ gomsg.typ = msgServiceGo ∧ wFailedAttemptsWait4.fit 3 = fitService)) :=
  by decide +kernel

/-- States and operands that meet the hypotheses of AttemptsStartAtSignal, clause by clause. -/
theorem witness_AttemptsStartAtSignal : 
    ((wAttemptsStartAtSignal1.fit 3 = fitWait) ∧ ((wAttemptsStartAtSignal1.lane 3).waitLen ≤ wAttemptsStartAtSignal1.sinceFrame (wAttemptsStartAtSignal1.lane 3).since)) ∧
    ((wAttemptsStartAtSignal2.fit 3 = fitWait) ∧ (16 ≤ (wAttemptsStartAtSignal2.lane 3).wakeRun)) ∧
    ((wAttemptsStartAtSignal3.inService 3 = true) ∧ (wAttemptsStartAtSignal3.lasted (wAttemptsStartAtSignal3.lane 3).persSince 400 = true)) ∧
    ((wAttemptsStartAtSignal4.sendsTraffic 3 = true)) ∧
    ((wAttemptsStartAtSignal5.hears (3) (BitVec.toNat (7 : BitVec 8))) ∧ (wAttemptsStartAtSignal5.inService 3 = true)) :=
  by decide +kernel

/-- States and operands that meet the hypotheses of FittingMessages, clause by clause. -/
theorem witness_FittingMessages : 
    (((intro3.hears (3) (BitVec.toNat (7 : BitVec 8)))) ∧
    ((wFittingMessages11.sendsTraffic 3 = true) ∧ ((wFittingMessages11.lane 3).lastRx = some (BitVec.toNat (7 : BitVec 8)))) ∧
    (((wFittingMessages1.lane 3).out = some ({ typ := msgIdent, seq := 4, payload := [9] } : FitMsg)) ∧ (({ typ := msgIdent, seq := 4, payload := [9] } : FitMsg).seq = BitVec.toNat (4 : BitVec 8)) ∧ ((wFittingMessages1.lane 3).outQueue = [])) ∧
    (((wFittingMessages2.lane 3).out = some ({ typ := msgServiceGo, seq := 4, payload := [9] } : FitMsg)) ∧ (({ typ := msgServiceGo, seq := 4, payload := [9] } : FitMsg).seq = BitVec.toNat (4 : BitVec 8)) ∧ ((wFittingMessages2.lane 3).outQueue = [])) ∧
    (((wFittingMessages3.lane 256).out = some ({ typ := msgSparePrep, seq := 4, payload := [9] } : FitMsg)) ∧ (({ typ := msgSparePrep, seq := 4, payload := [9] } : FitMsg).seq = BitVec.toNat (4 : BitVec 8)) ∧ ((wFittingMessages3.lane 256).outQueue = []) ∧ (wFittingMessages3.spareFor 256 = none)) ∧
    (((wFittingMessages10.lane 15).out = some ({ typ := msgSparePrep, seq := 4, payload := [9] } : FitMsg)) ∧ ((wFittingMessages10.lane 15).outQueue = []) ∧ (wFittingMessages10.spareFor 15 = some 256)) ∧
    (((wFittingMessages4.lane 256).out = some ({ typ := msgSpareRelease, seq := 4, payload := [9] } : FitMsg)) ∧ (({ typ := msgSpareRelease, seq := 4, payload := [9] } : FitMsg).seq = BitVec.toNat (4 : BitVec 8)) ∧ ((wFittingMessages4.lane 256).outQueue = [])) ∧
    (((wFittingMessages5.lane 3).out = some ({ typ := msgLeave, seq := 4, payload := [9] } : FitMsg)) ∧ (({ typ := msgLeave, seq := 4, payload := [9] } : FitMsg).seq = BitVec.toNat (4 : BitVec 8)) ∧ ((wFittingMessages5.lane 3).outQueue = []))) ∧
    ((((wFittingMessages6.lane 256).out = some ({ typ := msgSparePrep, seq := 4, payload := [9] } : FitMsg)) ∧ (({ typ := msgSparePrep, seq := 4, payload := [9] } : FitMsg).seq = BitVec.toNat (4 : BitVec 8)) ∧ ((wFittingMessages6.lane 256).outQueue = [])) ∧
    (((wFittingMessages7.lane 3).out = some gomsg) ∧ (8 ≤ wFittingMessages7.sinceFrame (wFittingMessages7.lane 3).outSince) ∧ ((wFittingMessages7.lane 3).outSends < 8)) ∧
    (((wFittingMessages8.lane 3).out = some ({ typ := msgLeave, seq := 4, payload := [9] } : FitMsg)) ∧ (8 ≤ wFittingMessages8.sinceFrame (wFittingMessages8.lane 3).outSince) ∧ (8 ≤ (wFittingMessages8.lane 3).outSends) ∧ (wFittingMessages8.fit 3 = fitService) ∧ (({ typ := msgLeave, seq := 4, payload := [9] } : FitMsg).typ ≠ msgServiceGo)) ∧
    (((wFittingMessages9.lane 3).leaveSent = some 99992) ∧ (8 ≤ wFittingMessages9.sinceFrame 99992))) :=
  ⟨(by decide +kernel), (by decide +kernel)⟩

/-- States and operands that meet the hypotheses of SparesStandIn, clause by clause. -/
theorem witness_SparesStandIn : 
    ((wSparesStandIn1.hears (256) (BitVec.toNat (7 : BitVec 8))) ∧ (wSparesStandIn1.covers (256) (BitVec.toNat (15 : Word) % 2 ^ 16) = true) ∧ (wSparesStandIn1.flag R.LN_SPARE_STAT_CARRYING 256 = false)) ∧
    ((wSparesStandIn2.hears (256) (BitVec.toNat (7 : BitVec 8))) ∧ (wSparesStandIn2.flag R.LN_SPARE_STAT_SHADOW 256 = true) ∧ ((wSparesStandIn2.lane 256).target = BitVec.toNat (15 : Word) % 2 ^ 16) ∧ ((wSparesStandIn2.lane 256).back = false)) ∧
    ((wSparesStandIn3.hears (256) (BitVec.toNat (7 : BitVec 8))) ∧ ((wSparesStandIn3.lane 256).target = BitVec.toNat (15 : Word) % 2 ^ 16)) ∧
    ((isSpare 256 = true) ∧ (wSparesStandIn4.flag R.LN_SPARE_STAT_SHADOW 256 = true) ∧ (wSparesStandIn4.flag R.LN_SPARE_STAT_READY 256 = false) ∧ (8 ≤ wSparesStandIn4.readyRunOf 256)) ∧
    ((isSpare 256 = true) ∧ (wSparesStandIn7.flag R.LN_SPARE_STAT_SHADOW 256 = true) ∧ (wSparesStandIn7.flag R.LN_SPARE_STAT_READY 256 = false) ∧ (8 ≤ wSparesStandIn7.readyRunOf 256) ∧ ((wSparesStandIn7.lane 256).selWait = true) ∧ ((wSparesStandIn7.lane 256).selOwn = none)) ∧
    ((isSpare 256 = true) ∧ (wSparesStandIn5.flag R.LN_SPARE_STAT_SHADOW 256 = true) ∧ ((wSparesStandIn5.lane 256).selOwn = some 100000) ∧ (frameReached wSparesStandIn5.frame 100000 = true) ∧ ((wSparesStandIn5.lane 256).rxSw = false) ∧ ((wSparesStandIn5.lane 256).back = false) ∧ (wSparesStandIn5.flag R.LN_SPARE_STAT_CARRYING 256 = false)) ∧
    ((wSparesStandIn6.flag R.LN_SPARE_STAT_SHADOW 256 = true) ∧ ((wSparesStandIn6.lane 256).selOwn = some 100000) ∧ (frameReached wSparesStandIn6.frame 100000 = true) ∧ ((wSparesStandIn6.lane 256).rxSw = false) ∧ ((wSparesStandIn6.lane 256).back = true) ∧ (wSparesStandIn6.flag R.LN_SPARE_STAT_CARRYING 256 = true)) :=
  by decide +kernel

/-- States and operands that meet the hypotheses of ControlWordsAreRead, clause by clause. -/
theorem witness_ControlWordsAreRead : 
    ((wControlWordsAreRead1.flag R.LN_FIT_STATUS_RX_POL_INV 3 = false) ∧ (controlWords (List.map BitVec.toNat (ctlRow ctlA ctlB)) = some (ctlA, ctlB)) ∧ (wControlWordsAreRead1.fit 3 ≠ fitDisabled) ∧ (trainMarked (List.map BitVec.toNat (ctlRow ctlA ctlB)) = true)) ∧
    ((wControlWordsAreRead2.flag R.LN_FIT_STATUS_RX_POL_INV 3 = false) ∧ (controlWords (List.map BitVec.toNat (ctlRow ctlA0 ctlB)) = some (ctlA0, ctlB)) ∧ (wControlWordsAreRead2.fit 3 ≠ fitDisabled) ∧ (trainMarked (List.map BitVec.toNat (ctlRow ctlA0 ctlB)) = true)) ∧
    ((wControlWordsAreRead3.flag R.LN_FIT_STATUS_RX_POL_INV 3 = false) ∧ (controlWords (List.map BitVec.toNat (ctlRow ctlA ctlB)) = some (ctlA, ctlB)) ∧ (trainMarked (List.map BitVec.toNat (ctlRow ctlA ctlB)) = true)) :=
  by decide +kernel

/-- States and operands that meet the hypotheses of FramesAreReceived, clause by clause. -/
theorem witness_FramesAreReceived : 
    ((wFramesAreReceived1.inSync 3 = true) ∧ ((wFramesAreReceived1.lane 3).row < 128) ∧ (wFramesAreReceived1.fld R.LN_CNT0 3 < 2 ^ 48) ∧ (wFramesAreReceived1.fld R.LN_CNT1 3 < 2 ^ 48)) ∧
    ((wFramesAreReceived2.inSync 3 = true) ∧ ((wFramesAreReceived2.lane 3).fcRx = []) ∧ (fawErrors ((wFramesAreReceived2.lineWords (3) (fawRow 15)).getD 0 0) ((wFramesAreReceived2.lineWords (3) (fawRow 15)).getD 1 0) ≤ 4)) ∧
    ((wFramesAreReceived3.inSync 3 = true) ∧ (4 < fawErrors ((wFramesAreReceived3.lineWords (3) (fawRow 31)).getD 0 0) ((wFramesAreReceived3.lineWords (3) (fawRow 31)).getD 1 0)) ∧ ((wFramesAreReceived3.lane 3).errFaw = 3)) ∧
    ((8 ≤ (wFramesAreReceived4.lane 3).ssmRun) ∧ (wFramesAreReceived4.caActive 3 = false) ∧ ((wFramesAreReceived4.lane 3).ssmVal ≠ wFramesAreReceived4.fld R.LN_RX_STW_SSM 3)) ∧
    (((wFramesAreReceived5.sillPage (3) wFramesAreReceived5.frame).filled = false) ∧ ((wFramesAreReceived5.lane 3).assigning = true) ∧ (wFramesAreReceived5.inSync 3 = true) ∧ (wFramesAreReceived5.caActive 3 = false)) :=
  by decide +kernel

/-- States and operands that meet the hypotheses of AdaptationReverts, clause by clause. -/
theorem witness_AdaptationReverts : 
    (((wAdaptationReverts1.inService 3 = true) ∧ (8000 ≤ (wAdaptationReverts1.lane 3).goodRun) ∧ ((wAdaptationReverts1.lane 3).goodCorr ≤ wAdaptationReverts1.fld R.LN_ADAPT_CFG_GOOD_MAX 3) ∧ (wAdaptationReverts1.fld R.LN_ADAPT_STAT_GOOD_SECS 3 < 9)) ∧
    ((wAdaptationReverts2.inService 3 = true) ∧ (8000 ≤ (wAdaptationReverts2.lane 3).goodRun) ∧ ((wAdaptationReverts2.lane 3).goodCorr ≤ wAdaptationReverts2.fld R.LN_ADAPT_CFG_GOOD_MAX 3) ∧ (wAdaptationReverts2.fld R.LN_ADAPT_STAT_GOOD_SECS 3 = 9) ∧ ((wAdaptationReverts2.lane 3).badRun < 3)) ∧
    ((wAdaptationReverts3.inService 3 = true) ∧ (wAdaptationReverts3.flag R.LN_ADAPT_STAT_KG_VALID 3 = true) ∧ (3 ≤ (wAdaptationReverts3.lane 3).badRun) ∧ (wAdaptationReverts3.declared (3) Defect.los = false) ∧ (wAdaptationReverts3.declared (3) Defect.lol = false) ∧ (wAdaptationReverts3.flag R.LN_ADAPT_STAT_FROZEN 3 = false))) ∧
    (((wAdaptationReverts4.inService 3 = true) ∧ (wAdaptationReverts4.flag R.LN_ADAPT_STAT_KG_VALID 3 = true) ∧ (3 ≤ (wAdaptationReverts4.lane 3).badRun) ∧ (wAdaptationReverts4.declared (3) Defect.los = false) ∧ (wAdaptationReverts4.declared (3) Defect.lol = false) ∧ (wAdaptationReverts4.flag R.LN_ADAPT_STAT_FROZEN 3 = false)) ∧
    ((wAdaptationReverts5.inService 3 = true) ∧ (wAdaptationReverts5.flag R.LN_ADAPT_STAT_KG_VALID 3 = true) ∧ (3 ≤ (wAdaptationReverts5.lane 3).badRun) ∧ (wAdaptationReverts5.declared (3) Defect.los = false) ∧ (wAdaptationReverts5.declared (3) Defect.lol = false) ∧ (wAdaptationReverts5.flag R.LN_ADAPT_STAT_FROZEN 3 = false)) ∧
    (((wAdaptationReverts6.lane 3).holdSince = some 20000) ∧ (80000 ≤ wAdaptationReverts6.sinceFrame 20000))) ∧
    (((wAdaptationReverts7.flag R.LN_TX_CFG_LOOP_AUTO 3 = true) ∧ (wAdaptationReverts7.inService 3 = true) ∧ (wAdaptationReverts7.flag R.LN_TX_CFG_TIMING 3 = true) ∧ (wAdaptationReverts7.flag R.LN_TX_STAT_TIMING_ACT 3 = false) ∧ (80000 ≤ (wAdaptationReverts7.lane 3).syncOkRun))) :=
  ⟨(by decide +kernel), (by decide +kernel), (by decide +kernel)⟩

/-- States and operands that meet the hypotheses of LaneControlWrites, clause by clause. -/
theorem witness_LaneControlWrites : 
    (((up.accepts (0) RN.LN_FIT_CTRL 3 = true) ∧ ((BitVec.toNat (0 : Word)).testBit 1 = false) ∧ (up.flag R.LN_FIT_CTRL_ENABLE 3 = (BitVec.toNat (0 : Word)).testBit 0)) ∧
    ((wLaneControlWrites1.accepts (0) RN.LN_FIT_CTRL 3 = true)) ∧
    ((wLaneControlWrites2.accepts (0) RN.LN_FIT_CTRL 3 = true) ∧ (wLaneControlWrites2.flag R.LN_FIT_CTRL_ENABLE 3 = true) ∧ ((BitVec.toNat (1 : Word)).testBit 0 = true) ∧ (wLaneControlWrites2.fit 3 ≠ fitDisabled)) ∧
    ((wLaneControlWrites3.accepts (0) RN.LN_FIT_CTRL 3 = true) ∧ (wLaneControlWrites3.flag R.LN_FIT_CTRL_ENABLE 3 = true) ∧ ((BitVec.toNat (1 : Word)).testBit 0 = true) ∧ (wLaneControlWrites3.fit 3 ≠ fitDisabled)) ∧
    ((wLaneControlWrites4.accepts (0) RN.LN_FIT_CTRL 3 = true) ∧ (wLaneControlWrites4.fld R.LN_FIT_CTRL_ENABLE 3 = 1) ∧ (wLaneControlWrites4.inService 3 = false))) ∧
    (((up.accepts (0) RN.LN_FIT_CTRL 3 = true) ∧ (up.fld R.LN_FIT_CTRL_ENABLE 3 = 0) ∧ (5 ≤ up.phase)) ∧
    ((wLaneControlWrites5.accepts (0) RN.LN_TX_CFG 3 = true) ∧ (wLaneControlWrites5.flag R.LN_TX_CFG_TIMING 3 = true) ∧ (wLaneControlWrites5.flag R.LN_TX_STAT_TIMING_ACT 3 = false)) ∧
    ((wLaneControlWrites6.accepts (0) RN.LN_SPARE_CTRL 256 = true) ∧ ((BitVec.toNat (15 : Word)).testBit 5 = false) ∧ ((BitVec.toNat (15 : Word)).testBit 6 = false) ∧ (wLaneControlWrites6.inService 256 = true) ∧ (wLaneControlWrites6.covers (256) (16 * (256 - 256) + BitVec.toNat (15 : Word) % 16) = true) ∧ (wLaneControlWrites6.flag R.LN_SPARE_STAT_CARRYING 256 = false) ∧ ((wLaneControlWrites6.lane 256).out = none)) ∧
    ((wLaneControlWrites7.accepts (0) RN.LN_SPARE_CTRL 256 = true) ∧ (isSpare 256 = true) ∧ ((BitVec.toNat (15 : Word)).testBit 4 = false) ∧ ((BitVec.toNat (15 : Word)).testBit 6 = false) ∧ (wLaneControlWrites7.inService 256 = true) ∧ (wLaneControlWrites7.flag R.LN_SPARE_STAT_READY 256 = true) ∧ ((wLaneControlWrites7.lane 256).selOwn = none) ∧ ((wLaneControlWrites7.lane 256).out = none) ∧ ((wLaneControlWrites7.lane 256).back = false)) ∧
    ((wLaneControlWrites9.accepts (0) RN.LN_SPARE_CTRL 256 = true) ∧ (isSpare 256 = true) ∧ ((BitVec.toNat (15 : Word)).testBit 4 = false) ∧ ((BitVec.toNat (15 : Word)).testBit 6 = false) ∧ (wLaneControlWrites9.inService 256 = true) ∧ (wLaneControlWrites9.flag R.LN_SPARE_STAT_READY 256 = false) ∧ (wLaneControlWrites9.flag R.LN_SPARE_STAT_SHADOW 256 = true))) ∧
    (((wLaneControlWrites8.accepts (0) RN.LN_SPARE_CTRL 256 = true) ∧ (isSpare 256 = true) ∧ ((BitVec.toNat (15 : Word)).testBit 4 = false) ∧ ((BitVec.toNat (15 : Word)).testBit 5 = false) ∧ (wLaneControlWrites8.inService 256 = true) ∧ (wLaneControlWrites8.flag R.LN_SPARE_STAT_SHADOW 256 = true) ∧ ((wLaneControlWrites8.lane 256).out = none))) :=
  ⟨(by decide +kernel), (by decide +kernel), (by decide +kernel)⟩

/-- A partner's answer to a PREP on a spare that does not carry, and on one that does: further clauses of FittingMessages. -/
theorem witness_FittingMessages_carrying :
    (wFittingMessages3.flag R.LN_SPARE_STAT_CARRYING 256 = false) ∧ ((spareLn { target := 15, out := some ⟨msgSparePrep, 4, [9]⟩ }
      [(R.LN_SPARE_STAT_CARRYING, 256, 1)]).flag R.LN_SPARE_STAT_CARRYING 256 = true) := by decide +kernel

/-- Lane 3 in SYNC with a page assigned, and the same while it substitutes. -/
def wSill1 : State := lnUp 3 6 3 { row := 127, page := some 99999, accept := true } []

def wSill2 : State := wSill1.setFld R.LN_FRM_STAT_LOS 3 1

/-- The sill clause of FramesAreReceived, with and without AIS in the words' place. -/
theorem witness_FramesAreReceived_sill :
    (wSill1.inSync 3 = true ∧ (wSill1.lane 3).row = 127 ∧ (wSill1.lane 3).fcRx = [] ∧ (wSill1.lane 3).page = some 99999
      ∧ (wSill1.sillPage 3 99999).words.entries = [] ∧ wSill1.substitutes 3 = false)
    ∧ (wSill2.inSync 3 = true ∧ (wSill2.lane 3).page = some 99999 ∧ wSill2.substitutes 3 = true) := by decide +kernel

/-- A spare that carries, whose partner has answered RELEASE, and one asked to SELECT: further clauses of FittingMessages and LaneControlWrites. -/
def wCarrying : State := spareLn { target := 15, out := some ⟨msgSpareRelease, 4, [15]⟩ }
  [(R.LN_SPARE_STAT_SHADOW, 256, 1), (R.LN_SPARE_STAT_CARRYING, 256, 1), (R.LN_SPARE_STAT_READY, 256, 1)]
@[inherit_doc wCarrying]
theorem witness_Carrying : (wCarrying.lane 256).out = some ⟨msgSpareRelease, (4 : BitVec 8).toNat, [15]⟩ ∧ (wCarrying.lane 256).outQueue = []
    ∧ wCarrying.flag R.LN_SPARE_STAT_CARRYING 256 = true ∧ wCarrying.accepts 0 RN.LN_SPARE_CTRL 256 = true ∧ (wCarrying.lane 256).back = false := by
  decide +kernel

end A

namespace B

def wLanesTransmit1 : State := lnUp 3 6 3 {} [(R.IMG_RAISE_PHASE, 0, 4)]
def wLanesTransmit2 : State := lnUp 3 6 3 { fcTx := List.range 200 } []
def wLanesTransmit3 : State := lnUp 3 2 3 {} [(R.LN_TX_CFG_TX_INV, 3, 1)]
def wLanesTransmit4 : State := lnUp 3 6 3 { restartPend := 1 } []
def pkt : List SlotWord := (packetWords [1, 2, 3]).map (BitVec.ofNat 36)
def mchUp (fs : List (Fld × Nat × Nat)) : State := lnUp 3 6 3 {} ([(R.LN_MCH_CTRL_ENABLE, 3, 1), (R.DDR_STAT_USABLE, 0, 28), (R.LN_MCH_RXBASE_BASE, 3, ddrBase), (R.LN_MCH_TXBASE_BASE, 3, ddrBase + 0x20000)] ++ fs)
def mchRow (fs : List (Fld × Nat × Nat)) (got : Option (List Nat)) : State := (mchUp fs).updLane 3 (fun l => { l with mchRx := got })
def pktStart : List Nat := beBytes4 ((packetWords [1, 2, 3]).getD 0 0)
def pktEnd : SlotWord := pkt.getD 1 0
def pktBytes : List Nat := pktStart ++ (beBytes4 ((packetWords [1, 2, 3]).getD 1 0)).take 3
def wManagementPackets1 : State := mchUp [(R.LN_MCH_IDX_RX_HEAD, 3, 63), (R.LN_MCH_IDX_RX_TAIL, 3, 1)]
def wManagementPackets2 : State := mchRow [(R.LN_MCH_IDX_RX_HEAD, 3, 63)] (some pktStart)
def wManagementPackets3 : State := mchRow [] (some [1, 2, 3, 4])
def wManagementPackets4 : State := mchUp [(R.LN_MCH_IDX_TX_HEAD, 3, 1)]
def wManagementPackets5 : State := mchUp [(R.LN_FRM_STAT_ALIGN, 3, 0)]
def mem1 : Membership := { src := 100, arr := 4, d := 0 }
def bentUp : State := lnUp 3 6 3 {} []
def bsched : Schedule := { bents := ⟨[(5, { ref := 4, members := [mem1] })]⟩ }
def wBentsAct1 : State := { bentUp with sched := bsched, links := ⟨[(100, { bent := 5, k := some 1, joinAt := some 99999 })]⟩ }
def absorb : BentAction := { bent := 5, at' := 100000, units := [{ act := .absorb, src := 100, arr := 3, ref := 4 }] }
def retime : BentAction := { bent := 5, at' := 100000, units := [{ act := .retime, src := 0, arr := 0, ref := 5 }] }
def bAct (a : BentAction) : State := { bentUp with sched := bsched, actions := [a], links := ⟨[(100, { bent := 5, k := some 1, state := .active })]⟩ }
def ran (a : BentAction) (s : State) : Schedule × Tab (Tab TapEnt) := ((a.settle s s.sched).run s s.sched s.tap).getD ({}, {})
def wBentsAct2 : State := bAct absorb
def wBentsAct3 : State := { bAct absorb with sched := {} }
def wBentsAct4 : State := bAct retime
def pause5 : BentPause := { until' := 100000, growth := true }
def wBentsAct5 : State := { bentUp with pauses := ⟨[(5, [pause5, { until' := 100009, growth := true }])]⟩ }
def wBentsAct6 : State := { bAct absorb with actions := [] }
def wBentsAct7 : State := ({ bAct absorb with actions := [] }).setFld R.BNT_RETIME_FRAME_FRAME 5 100005
def wFabricWorks2 : State := up.setFld R.FAB_CFG_KERF_EN 0 1
def wFabricWorks3 : State := { up with tap := ⟨[(0, ⟨[(7, { src := 9, store := 1 })]⟩)]⟩ }
def wFabricWorks4 : State := { up with tap := ⟨[(0, ⟨[(7, { src := 9, store := 1, clearAt := some 0 }), (8, { src := 9, store := 1 })]⟩)]⟩ }
def wFabricWorks5 : State := { up with sides := { live := ⟨[(11, { fault := true, run := 256 })]⟩ } }

/-- States and operands that meet the hypotheses of LanesTransmit, clause by clause. -/
theorem witness_LanesTransmit : 
    ((wLanesTransmit1.transmits = false)) ∧
    ((wLanesTransmit2.transmits = true) ∧ ((wLanesTransmit2.lane 3).restartPend ≠ 1) ∧ (wLanesTransmit2.sendsTraffic 3 = true)) ∧
    ((wLanesTransmit3.transmits = true) ∧ ((wLanesTransmit3.lane 3).restartPend ≠ 1) ∧ (wLanesTransmit3.sendsTraffic 3 = false)) ∧
    ((wLanesTransmit4.transmits = true) ∧ ((wLanesTransmit4.lane 3).restartPend = 1)) :=
  by decide +kernel

/-- States and operands that meet the hypotheses of ManagementPackets, clause by clause. -/
theorem witness_ManagementPackets : 
    ((wManagementPackets1.flag R.LN_MCH_CTRL_ENABLE 3 = true) ∧ (wManagementPackets1.inSync 3 = true) ∧ (pkt.map BitVec.toNat = packetWords [1, 2, 3]) ∧ ((wManagementPackets1.fld R.LN_MCH_IDX_RX_HEAD 3 + 1) % 64 ≠ wManagementPackets1.fld R.LN_MCH_IDX_RX_TAIL 3) ∧ (Memory.wf wManagementPackets1.mem wManagementPackets1.blankAt = true) ∧ (wManagementPackets1.inDdr (mchEntry (wManagementPackets1.fld R.LN_MCH_RXBASE_BASE 3) (wManagementPackets1.fld R.LN_MCH_IDX_RX_HEAD 3)) 2048 = true)) ∧
    ((wManagementPackets2.flag R.LN_MCH_CTRL_ENABLE 3 = true) ∧ (wManagementPackets2.inSync 3 = true) ∧ (mchStep (wManagementPackets2.lane 3).mchRx pktEnd.toNat = .whole pktBytes) ∧ (packetPayload pktBytes = some [1, 2, 3]) ∧ ((wManagementPackets2.fld R.LN_MCH_IDX_RX_HEAD 3 + 1) % 64 = wManagementPackets2.fld R.LN_MCH_IDX_RX_TAIL 3)) ∧
    ((wManagementPackets3.flag R.LN_MCH_CTRL_ENABLE 3 = true) ∧ (wManagementPackets3.inSync 3 = true) ∧ (mchStep (wManagementPackets3.lane 3).mchRx (15 * 2 ^ 32) = .broken)) ∧
    ((mchStep (wManagementPackets3.lane 3).mchRx (4 * 2 ^ 32 + 5 * 2 ^ 24) = .whole [1, 2, 3, 4, 5]) ∧ (packetPayload [1, 2, 3, 4, 5] = none)) ∧
    ((wManagementPackets3.inSync 3 = true) ∧ (bits (8 * 2 ^ 32) 32 4 = 8)) ∧
    ((wManagementPackets5.flag R.LN_MCH_CTRL_ENABLE 3 = true) ∧ (wManagementPackets5.inSync 3 = false)) ∧
    ((wManagementPackets4.flag R.LN_MCH_CTRL_ENABLE 3 = true) ∧ (wManagementPackets4.sendsTraffic 3 = true) ∧ (wManagementPackets4.fld R.LN_MCH_IDX_TX_TAIL 3 ≠ wManagementPackets4.fld R.LN_MCH_IDX_TX_HEAD 3) ∧ (wManagementPackets4.inDdr (mchEntry (wManagementPackets4.fld R.LN_MCH_TXBASE_BASE 3) (wManagementPackets4.fld R.LN_MCH_IDX_TX_TAIL 3)) 2048 = true)) :=
  by decide +kernel

/-- States and operands that meet the hypotheses of BentsAct, clause by clause. -/
theorem witness_BentsAct : 
    (((wBentsAct1.sched.memberOf 100 = some (5, mem1)) ∧ ((wBentsAct1.link 100).joinAt = some 99999) ∧ ((wBentsAct1.link 100).state = MemberState.pending ∨ (wBentsAct1.link 100).state = MemberState.unlocked) ∧ ((wBentsAct1.link 100).bent = 5) ∧ (frameReached wBentsAct1.frame 99999 = true) ∧ (wBentsAct1.canJoin mem1 wBentsAct1.frame = true) ∧ (5 < 16384)) ∧
    ((wBentsAct2.dueAction (5) false = some absorb) ∧ ((absorb.settle wBentsAct2 wBentsAct2.sched).run wBentsAct2 wBentsAct2.sched wBentsAct2.tap = some ((ran absorb wBentsAct2).1, (ran absorb wBentsAct2).2))) ∧
    ((wBentsAct3.dueAction (5) false = some absorb) ∧ ((absorb.settle wBentsAct3 wBentsAct3.sched).run wBentsAct3 wBentsAct3.sched wBentsAct3.tap = none)) ∧
    ((wBentsAct4.dueAction (5) true = some retime) ∧ ((retime.settle wBentsAct4 wBentsAct4.sched).run wBentsAct4 wBentsAct4.sched wBentsAct4.tap = some ((ran retime wBentsAct4).1, (ran retime wBentsAct4).2))) ∧
    ((pause5 ∈ wBentsAct5.pausesOf 5) ∧ (frameReached wBentsAct5.frame pause5.until' = true))) ∧
    (((wBentsAct6.accepts (0) RN.BNT_CTRL 5 = true) ∧ (100004 = if frameReached (wBentsAct6.fld R.BNT_RETIME_FRAME_FRAME 5) (frameAdd wBentsAct6.frame 4) = true then wBentsAct6.fld R.BNT_RETIME_FRAME_FRAME 5 else frameAdd wBentsAct6.frame 4) ∧ ((wBentsAct6.schedAt 100004).membersOf 5 ≠ [])) ∧
    ((wBentsAct7.accepts (0) RN.BNT_CTRL 5 = true) ∧ (100005 = if frameReached (wBentsAct7.fld R.BNT_RETIME_FRAME_FRAME 5) (frameAdd wBentsAct7.frame 4) = true then wBentsAct7.fld R.BNT_RETIME_FRAME_FRAME 5 else frameAdd wBentsAct7.frame 4) ∧ ((wBentsAct7.schedAt 100005).membersOf 5 ≠ []))) :=
  ⟨(by decide +kernel), (by decide +kernel)⟩

/-- States and operands that meet the hypotheses of FabricWorks, clause by clause. -/
theorem witness_FabricWorks : 
    ((wFabricWorks2.flag R.FAB_CFG_KERF_EN = true) ∧ (firstKerf ([(⟨3, 9, false, 0, 0⟩ : KerfWord), ⟨3, 9, true, 0, 0⟩].filter (fun g => kerfBad g wFabricWorks2.frame (wFabricWorks2.fld R.FAB_LAM_STAT_SHADOW_ACT))) = some ⟨3, 9, false, 0, 0⟩)) ∧
    ((wFabricWorks2.flag R.FAB_CFG_KERF_EN = true) ∧ (BitVec.toNat (BitVec.ofNat 36 (kerfSent wFabricWorks2.frame 3 9 true)) = kerfSent wFabricWorks2.frame 3 9 true)) ∧
    ((wFabricWorks5.sides.live.find (2 * 5 + b2n true) = some ({ fault := true, run := 256 } : SideSt)) ∧ (({ fault := true, run := 256 } : SideSt).fault = true) ∧ (256 ≤ ({ fault := true, run := 256 } : SideSt).run)) :=
  by decide +kernel

/-- `up` with a tap entry whose added storage is due to be given back. -/
def wFabricWorks6 : State := { up.setFld R.DEV_FRAME_FRAME 0 9 with tap := ({} : Tab (Tab TapEnt)).put 2 (({} : Tab TapEnt).put 7 { src := 5, store := 6, backAt := some 9 }) }

/-- A tap entry whose added storage is due: the last clause of FabricWorks. -/
theorem witness_FabricWorks_back : (wFabricWorks6.tap.get 2 {}).find 7 = some { src := 5, store := 6, backAt := some 9 }
    ∧ (∀ f, ({ src := 5, store := 6, backAt := some 9 } : TapEnt).backAt = some f → frameReached wFabricWorks6.frame f = true)
    ∧ (∀ f, ({ src := 5, store := 6, backAt := some 9 } : TapEnt).clearAt = some f → frameReached wFabricWorks6.frame f = false) :=
  ⟨by decide +kernel, by intro f h; cases h; decide +kernel, by intro f h; cases h⟩

/-- A schedule of an unmerged slot, a merged one and a code beyond the plate on port 3. -/
def slotSched : Schedule := {
  map := (({} : Tab Route).put (131072 * 3 + 8) (.single 100)).put (131072 * 3 + 9) (.merged 100 131172 2 40)
  pread := ({} : Tab (Tab Nat)).put 3 (((({} : Tab Nat).put 8 5).put 9 0x24000).put 10 0x28000)
  scarf := ({} : Tab (Tab (Nat × Nat))).put 3 (({} : Tab (Nat × Nat)).put 0 (6, 7)) }

/-- Lane 3 in SERVICE under that schedule. -/
def wLanesTransmit5 : State := { wLanesTransmit2 with sched := slotSched }

/-- The slot clauses of LanesTransmit: no plate read entry, an unmerged slot, a merged one, and a code beyond the plate. -/
theorem witness_LanesTransmit_slots :
    (slotSched = wLanesTransmit5.schedAt wLanesTransmit5.frame ∧ (wLanesTransmit5.lane 3).plateAt ≠ some wLanesTransmit5.frame
      ∧ wLanesTransmit5.transmits = true ∧ (wLanesTransmit5.lane 3).restartPend ≠ 1 ∧ wLanesTransmit5.sendsTraffic 3 = true
      ∧ wLanesTransmit5.ceased 3 = false ∧ (slotSched.pread.get 3 {}).wf = true)
    ∧ ((slotSched.pread.get 3 {}).find 7 = none)
    ∧ ((slotSched.pread.get 3 {}).find 8 = some 5 ∧ slotSched.map.find (131072 * 3 + 8) = some (.single 100))
    ∧ ((slotSched.pread.get 3 {}).find 9 = some 0x24000 ∧ slotSched.map.find (131072 * 3 + 9) = some (.merged 100 131172 2 40)
      ∧ (slotSched.scarf.get 3 {}).find 0 = some (6, 7))
    ∧ ((slotSched.pread.get 3 {}).find 10 = some 0x28000) := by decide +kernel

/-- A packet in progress as SYNC is lost, and none: the clause of ManagementPackets out of SYNC. -/
theorem witness_ManagementPackets_lost :
    ((mchRow [(R.LN_FRM_STAT_ALIGN, 3, 0)] (some [1])).inSync 3 = false ∧ ((mchRow [(R.LN_FRM_STAT_ALIGN, 3, 0)] (some [1])).lane 3).mchRx.isSome = true)
    ∧ (wManagementPackets5.lane 3).mchRx = none := by decide +kernel

end B

namespace C

def ctl (st : Nat) : State := up.setFld R.CUT_Lj_STAT_STATE 1 st
def wListCommands1 : State := ctl listIdle
def wListCommands2 : State := ctl listQueued
def wListCommands3 : State := ctl listArmed
def wListCommands4 : State := ctl listDone
def wListCommands5 : State := { ctl listQueued with queued := [{ kind := .list 1 }] }
def wListCommands6 : State := { ctl listArmed with chg := some { kind := .list 1, state := .armed } }
def cl (st : ChangeState) : Change := { kind := .list 1, state := st }
def wChangesRunTheirCourse1 : State := { ctl listQueued with queued := [cl .queued] }
def chgUp (st : Nat) (c : Change) : State := { ctl st with chg := some c }
def compiled (s : State) (c : Change) : List (Schedule × List EditRec) × Tab (Tab TapEnt) :=
  match compileChange (s.compileEnv c) (s.schedAt (frameAdd s.frame 2)) s.tap (recordLimit c.kind) (s.changeRecs c) with
  | .ok r => r
  | .error _ => ([], {})
def rec1 : List (Nat × BitVec 8) :=
  (List.range 16).filterMap (fun k => let b := (leBytes 4 0x10000005 ++ leBytes 4 9 ++ leBytes 4 0 ++ leBytes 4 0).getD k 0
    if b = 0 then none else some (stagingBase 1 + k, b))
def lenUp : State := { (chgUp listCompiling (cl .compiling)).setFld R.CUT_Lj_LEN_LEN 1 1 with mem := rec1 }
def wChangesRunTheirCourse2 : State := chgUp listCompiling (cl .compiling)
def wChangesRunTheirCourse3 : State := chgUp listArmed { cl .armed with stale := true }
def wChangesRunTheirCourse4 : State := (chgUp listArmed { cl .armed with frame := some 9 }).setFld R.DEV_FRAME_FRAME 0 7
def wChangesRunTheirCourse5 : State := (chgUp listCompiling { cl .compiling with frame := some 9 }).setFld R.DEV_FRAME_FRAME 0 7
def replc : Change := { kind := .replacement, state := .compiling, frame := some 9 }
def wChangesRunTheirCourse7 : State := (chgUp listIdle replc).setFld R.DEV_FRAME_FRAME 0 7
def wChangesRunTheirCourse6 : State := (chgUp listApplying { cl .applying with frame := some 9, done := 1, results := [{}] }).setFld R.DEV_FRAME_FRAME 0 10
def two : List Schedule := [{ map := ⟨[(5, .single 9)]⟩ }, { map := ⟨[(5, .single 9), (6, .single 10)]⟩ }]
def appl (k : Nat) : Change := { cl .applying with frame := some 9, done := k, results := two }
def applR : Change := { appl 1 with kind := .replacement }
def wChunksReplaceTheSchedule1 : State := (chgUp listApplying (appl 0)).setFld R.DEV_FRAME_FRAME 0 9
def wChunksReplaceTheSchedule2 : State := (chgUp listApplying (appl 1)).setFld R.DEV_FRAME_FRAME 0 10
def wChunksReplaceTheSchedule3 : State := (chgUp listIdle applR).setFld R.DEV_FRAME_FRAME 0 10
def wScenesAndStaging1 : State := setF [(R.CUT_SCNn_TRIG_EN, 255, 1), (R.CUT_SCNn_TRIG_PRIMED, 255, 1), (R.CUT_SCNn_TRIG_LANE, 255, 7), (R.CUT_SCNn_TRIG_DEFECTS, 255, 1), (R.LN_FRM_STAT_LOS, 7, 1)] up
def wScenesAndStaging8 : State := setF [(R.CUT_SCNn_TRIG_EN, 0, 1), (R.CUT_SCNn_TRIG_PRIMED, 0, 1), (R.CUT_SCNn_TRIG_LANE, 0, 200), (R.CUT_SCNn_TRIG_DEFECTS, 0, 64), (R.LN_FRM_STAT_LMM, 200, 1)] up
def wScenesAndStaging2 : State := { up with scnTrig := [(0, 5)], scnQ := List.range 5 }
def wScenesAndStaging3 : State := { up with scnTrig := [(0, 5)], scnQ := [5] }
def wScenesAndStaging4 : State := { up with scnTrig := [(0, 50)], scnQ := List.range 16 }
def wScenesAndStaging5 : State := { up.setFld R.CUT_SCNn_LEN_LEN 5 1 with scnQ := [5] }
def wScenesAndStaging6 : State := { up with scnQ := [5] }
def wScenesAndStaging7 : State := ctl listArmed
def grp (st : Nat) (fs : List (Fld × Nat × Nat)) : State := setF ([(R.SCF_GSTAT_STATE, 9, st), (R.SCF_GWTR_REMAIN, 9, 0)] ++ fs) up
def wScarfGroupsMove1 : State := grp groupHome [(R.DEV_FRAME_FRAME, 0, 8)]
def wScarfGroupsMove2 : State := grp groupWtr [(R.DEV_FRAME_FRAME, 0, 9)]
def wScarfGroupsMove3 : State := grp groupWtr [(R.SCF_GWTR_REMAIN, 9, 5)]

/-- States and operands that meet the hypotheses of ListCommands, clause by clause. -/
theorem witness_ListCommands : 
    (((1 = bit (BitVec.toNat (1 : Word)) 0) ∧ (wListCommands1.accepts (0) RN.CUT_CTRL 0 = true) ∧ (wListCommands1.mayChange = true) ∧ (wListCommands1.listAtRest 1 = true)) ∧
    ((1 = bit (BitVec.toNat (1 : Word)) 0) ∧ (wListCommands2.accepts (0) RN.CUT_CTRL 0 = true) ∧ (wListCommands2.mayChange = true) ∧ (wListCommands2.listAtRest 1 = false)) ∧
    ((1 = bit (BitVec.toNat (17 : Word)) 0) ∧ (wListCommands3.accepts (0) RN.CUT_CTRL 0 = true) ∧ (wListCommands3.mayChange = true) ∧ (wListCommands3.listState 1 = listQueued ∨ wListCommands3.listState 1 = listCompiling ∨ wListCommands3.listState 1 = listArmed) ∧ (wListCommands3.flag R.CUT_Lj_STAT_APPLY_REQ 1 = false)) ∧
    ((wListCommands4.accepts (0) RN.CUT_CTRL 0 = true) ∧ (wListCommands4.mayChange = true) ∧ (¬ (wListCommands4.listState 1 = listQueued ∨ wListCommands4.listState 1 = listCompiling ∨ wListCommands4.listState 1 = listArmed))) ∧
    ((1 = bit (BitVec.toNat (17 : Word)) 0) ∧ (wListCommands4.accepts (0) RN.CUT_CTRL 0 = true) ∧ (wListCommands4.mayChange = true) ∧ (wListCommands4.listAtRest 1 = true) ∧ (wListCommands4.occupant 1 = none))) ∧
    (((1 = bit (BitVec.toNat (17 : Word)) 0) ∧ (wListCommands5.accepts (0) RN.CUT_CTRL 0 = true) ∧ (wListCommands5.mayChange = true) ∧ (wListCommands5.listState 1 = listQueued ∨ wListCommands5.listState 1 = listCompiling ∨ wListCommands5.listState 1 = listArmed)) ∧
    ((1 = bit (BitVec.toNat (17 : Word)) 0) ∧ (wListCommands6.accepts (0) RN.CUT_CTRL 0 = true) ∧ (wListCommands6.mayChange = true) ∧ (wListCommands6.listState 1 = listQueued ∨ wListCommands6.listState 1 = listCompiling ∨ wListCommands6.listState 1 = listArmed))) :=
  ⟨(by decide +kernel), (by decide +kernel)⟩

/-- States and operands that meet the hypotheses of ChangesRunTheirCourse, clause by clause. -/
theorem witness_ChangesRunTheirCourse : 
    (((1 < 2) ∧ (wChangesRunTheirCourse1.chg = none) ∧ (wChangesRunTheirCourse1.scnQ = []) ∧ (wChangesRunTheirCourse1.flag R.TLY_REKEY_MAP = false) ∧ (firstQueued wChangesRunTheirCourse1.queued = some (cl ChangeState.queued)))) ∧
    ((1 < 2) ∧ (lenUp.chg = some (cl ChangeState.compiling)) ∧ ((cl ChangeState.compiling).state = ChangeState.compiling) ∧ ((cl ChangeState.compiling).kind = ChangeKind.list 1) ∧ ((cl ChangeState.compiling).applyAt = none) ∧ (compileChange (lenUp.compileEnv (cl ChangeState.compiling)) (lenUp.schedAt (frameAdd lenUp.frame 2)) lenUp.tap (recordLimit (cl ChangeState.compiling).kind) (lenUp.changeRecs (cl ChangeState.compiling)) = Except.ok ((compiled lenUp (cl ChangeState.compiling)).1, (compiled lenUp (cl ChangeState.compiling)).2))) ∧
    ((1 < 2) ∧ (wChangesRunTheirCourse2.chg = some (cl ChangeState.compiling)) ∧ ((cl ChangeState.compiling).state = ChangeState.compiling) ∧ ((cl ChangeState.compiling).kind = ChangeKind.list 1) ∧ ((cl ChangeState.compiling).applyAt = none) ∧ (compileChange (wChangesRunTheirCourse2.compileEnv (cl ChangeState.compiling)) (wChangesRunTheirCourse2.schedAt (frameAdd wChangesRunTheirCourse2.frame 2)) wChangesRunTheirCourse2.tap (recordLimit (cl ChangeState.compiling).kind) (wChangesRunTheirCourse2.changeRecs (cl ChangeState.compiling)) = Except.error { code := failLen, index := 0 })) ∧
    (((1 < 2) ∧ (wChangesRunTheirCourse3.chg = some ({ cl ChangeState.armed with stale := true } : Change)) ∧ (({ cl ChangeState.armed with stale := true } : Change).state = ChangeState.armed) ∧ (({ cl ChangeState.armed with stale := true } : Change).stale = true)) ∧
    ((1 < 2) ∧ (wChangesRunTheirCourse4.chg = some ({ cl ChangeState.armed with frame := some 9 } : Change)) ∧ (({ cl ChangeState.armed with frame := some 9 } : Change).frame = some 9) ∧ (({ cl ChangeState.armed with frame := some 9 } : Change).state = ChangeState.armed) ∧ (({ cl ChangeState.armed with frame := some 9 } : Change).stale = false) ∧ (frameReached (frameAdd wChangesRunTheirCourse4.frame 2) 9 = true))) ∧
    (((1 < 2) ∧ (wChangesRunTheirCourse5.chg = some ({ cl ChangeState.compiling with frame := some 9 } : Change)) ∧ (({ cl ChangeState.compiling with frame := some 9 } : Change).frame = some 9) ∧ (({ cl ChangeState.compiling with frame := some 9 } : Change).state = ChangeState.compiling) ∧ (frameReached (frameAdd wChangesRunTheirCourse5.frame 2) 9 = true) ∧ (({ cl ChangeState.compiling with frame := some 9 } : Change).kind = ChangeKind.list 1)) ∧
    ((wChangesRunTheirCourse7.chg = some replc) ∧ (replc.frame = some 9) ∧ (replc.state = .compiling) ∧ (frameReached (frameAdd wChangesRunTheirCourse7.frame 2) 9 = true) ∧ (replc.defers = true)) ∧
    ((1 < 2) ∧ (wChangesRunTheirCourse6.chg = some ({ cl ChangeState.applying with frame := some 9, results := [{ }], done := 1 } : Change)) ∧ (({ cl ChangeState.applying with frame := some 9, results := [{ }], done := 1 } : Change).state = ChangeState.applying) ∧ (({ cl ChangeState.applying with frame := some 9, results := [{ }], done := 1 } : Change).done = ({ cl ChangeState.applying with frame := some 9, results := [{ }], done := 1 } : Change).results.length) ∧ (frameReached wChangesRunTheirCourse6.frame (frameAdd (({ cl ChangeState.applying with frame := some 9, results := [{ }], done := 1 } : Change).frame.getD 0) ({ cl ChangeState.applying with frame := some 9, results := [{ }], done := 1 } : Change).done) = true))) :=
  ⟨(by decide +kernel), ⟨(by decide +kernel), (by decide +kernel), (by decide +kernel), (by decide +kernel), (by decide +kernel), (by rfl)⟩, ⟨(by decide +kernel), (by decide +kernel), (by decide +kernel), (by decide +kernel), (by decide +kernel), (by rfl)⟩, (by decide +kernel), (by decide +kernel)⟩

/-- States and operands that meet the hypotheses of ChunksReplaceTheSchedule, clause by clause. -/
theorem witness_ChunksReplaceTheSchedule : 
    ((wChunksReplaceTheSchedule1.chunkDue = some (appl 0, 0)) ∧ (0 = 0) ∧ ((appl 0).kind ≠ ChangeKind.replacement)) ∧
    ((wChunksReplaceTheSchedule2.chunkDue = some (appl 1, 1)) ∧ (0 < 1) ∧ ((appl 1).kind ≠ ChangeKind.replacement)) ∧
    ((wChunksReplaceTheSchedule3.chunkDue = some (applR, 1)) ∧ (applR.kind = ChangeKind.replacement)) :=
  by decide +kernel

/-- States and operands that meet the hypotheses of ScenesAndStaging, clause by clause. -/
theorem witness_ScenesAndStaging : 
    (((up.accepts (0) RN.CUT_SCN_CMD 0 = true) ∧ (up.mayChange = true)) ∧
    ((wScenesAndStaging1.mayChange = true) ∧ (wScenesAndStaging1.flag R.CUT_SCNn_TRIG_EN 255 = true) ∧ (wScenesAndStaging1.flag R.CUT_SCNn_TRIG_PRIMED 255 = true) ∧ (wScenesAndStaging1.declared (wScenesAndStaging1.fld R.CUT_SCNn_TRIG_LANE 255) Defect.los = true) ∧ ((wScenesAndStaging1.fld R.CUT_SCNn_TRIG_DEFECTS 255).testBit 0 = true)) ∧
    ((Defect.sceneBit .lmm = some 6) ∧ (wScenesAndStaging8.mayChange = true) ∧ (wScenesAndStaging8.flag R.CUT_SCNn_TRIG_EN 0 = true) ∧ (wScenesAndStaging8.flag R.CUT_SCNn_TRIG_PRIMED 0 = true) ∧ (wScenesAndStaging8.declared (wScenesAndStaging8.fld R.CUT_SCNn_TRIG_LANE 0) Defect.lmm = true) ∧ ((wScenesAndStaging8.fld R.CUT_SCNn_TRIG_DEFECTS 0).testBit 6 = true)) ∧
    ((wScenesAndStaging2.firstTrigger = some (0, 5)) ∧ (wScenesAndStaging2.scnQ.length < 16) ∧ ((0, 5).2 ∉ wScenesAndStaging2.scnQ)) ∧
    ((wScenesAndStaging3.firstTrigger = some (0, 5)) ∧ (16 ≤ wScenesAndStaging3.scnQ.length ∨ (0, 5).2 ∈ wScenesAndStaging3.scnQ)) ∧
    ((wScenesAndStaging4.firstTrigger = some (0, 50)) ∧ (16 ≤ wScenesAndStaging4.scnQ.length ∨ (0, 50).2 ∈ wScenesAndStaging4.scnQ))) ∧
    (((wScenesAndStaging5.scnQ = [5]) ∧ (wScenesAndStaging5.flag R.TLY_REKEY_MAP = false) ∧ (wScenesAndStaging5.flag R.TLY_REKEY_SCENES = false) ∧ (wScenesAndStaging5.chg = none) ∧ (wScenesAndStaging5.fld R.CUT_SCNn_LEN_LEN 5 ≠ 0)) ∧
    ((wScenesAndStaging6.scnQ = [5]) ∧ (wScenesAndStaging6.flag R.TLY_REKEY_MAP = false) ∧ (wScenesAndStaging6.flag R.TLY_REKEY_SCENES = false) ∧ (wScenesAndStaging6.chg = none) ∧ (wScenesAndStaging6.fld R.CUT_SCNn_LEN_LEN 5 = 0)) ∧
    ((up.accepts (0) RN.SCB_REPL_CTRL 0 = true) ∧ (up.mayChange = true) ∧ (up.fld R.SCB_REPL_STAT_STATE = 0)) ∧
    ((stagingList (BitVec.toNat (4580179968 : BitVec 40)) = some 1) ∧ (BitVec.toNat (4580179968 : BitVec 40) % 4 = 0) ∧ (up.judge (0) (BitVec.toNat (4580179968 : BitVec 40)) false true = Verdict.ok) ∧ (up.listAtRest 1 = true) ∧ (Memory.wf up.mem up.blankAt = true))) ∧
    (((stagingList (BitVec.toNat (4580179968 : BitVec 40)) = some 1) ∧ (BitVec.toNat (4580179968 : BitVec 40) % 4 = 0) ∧ (wScenesAndStaging7.judge (0) (BitVec.toNat (4580179968 : BitVec 40)) false true = Verdict.ok) ∧ (wScenesAndStaging7.listAtRest 1 = false))) :=
  ⟨(by decide +kernel), (by decide +kernel), (by decide +kernel)⟩

/-- States and operands that meet the hypotheses of ScarfGroupsMove, clause by clause. -/
theorem witness_ScarfGroupsMove : 
    ((wScarfGroupsMove1.frame % 8 = 0) ∧ (wScarfGroupsMove1.sampled = none) ∧ ((wScarfGroupsMove1.groups.get 9 { }).evaluated ≠ some wScarfGroupsMove1.frame) ∧ (wScarfGroupsMove1.groupState 9 ≠ groupEmpty) ∧ (wScarfGroupsMove1.groupMode 9 = modeAuto)) ∧
    ((wScarfGroupsMove2.frame % 8 ≠ 0) ∧ (wScarfGroupsMove2.groupState 9 = groupWtr) ∧ (wScarfGroupsMove2.fld R.SCF_GWTR_REMAIN 9 = 0) ∧ (wScarfGroupsMove2.frame ≠ (wScarfGroupsMove2.groups.get 9 { }).wtrFrom)) ∧
    ((wScarfGroupsMove3.accepts (0) RN.SCF_GCFG 9 = true) ∧ (wScarfGroupsMove3.groupState 9 = groupWtr)) :=
  by decide +kernel

/-- `wScarfGroupsMove2` with a frame of the wait left. -/
def wScarfGroupsMove4 : State := wScarfGroupsMove2.setFld R.SCF_GWTR_REMAIN 9 3

/-- A group in another mode at a window's end, a tick within a window, a wait that goes on, and WTR_CLEAR outside WTR: further clauses of
ScarfGroupsMove. -/
theorem witness_ScarfGroupsMove_more : ((up.frame % 8 = 0) ∧ (up.sampled = none) ∧ ((up.setFld R.SCF_GCFG_MODE 9 1).groupMode 9 ≠ modeAuto))
    ∧ ((wScarfGroupsMove4.frame % 8 ≠ 0) ∧ (wScarfGroupsMove4.groupState 9 = groupWtr) ∧ (wScarfGroupsMove4.fld R.SCF_GWTR_REMAIN 9 ≠ 0))
    ∧ ((up.accepts (0) RN.SCF_GCFG 9 = true) ∧ (up.groupState 9 ≠ groupWtr)) := by decide +kernel

end C

namespace D

def rf (fs : List (Fld × Nat × Nat)) : State := setF ([(R.PLB_REFi_CFG_EN, 3, 1), (R.DEV_FRAME_FRAME, 0, 800000)] ++ fs) up
def allOk (i : Nat) : List (Fld × Nat × Nat) := [(monFld .activity, i, 1), (monFld (.freq 0), i, 1)]
def wReferencesQualify1 : State := rf ([(R.PLB_REFi_STAT_QUAL, 3, qualYes)] ++ allOk 3)
def wReferencesQualify2 : State := rf [(R.PLB_REFi_STAT_QUAL, 3, qualDisq), (R.PLB_REFi_MON_FREQ_RANGE, 3, 10)]
def wReferencesQualify3 : State := rf [(R.PLB_REFi_STAT_QUAL, 3, qualHoldoff)]
def wReferencesQualify4 : State := rf [(R.PLB_REFi_STAT_QUAL, 3, qualHoldoff)]
def wReferencesQualify5 : State := rf [(R.PLB_REFi_STAT_QUAL, 3, qualWait)]
def wReferencesQualify6 : State := rf ([(R.PLB_REFi_STAT_QUAL, 3, qualHoldoff), (R.PLB_STATUS_STATE, 0, plbLocked), (R.PLB_STATUS_SEL, 0, 3), (R.PLB_STATUS_COAST, 0, 1)] ++ allOk 3)
def wPhaseJumps1 : State := (rf [(R.PLB_STATUS_STATE, 0, plbLocked), (R.PLB_STATUS_SEL, 0, 3), (R.PLB_REFi_STAT_QUAL, 3, qualYes)]).updPlumb (fun p => { p with refs := ⟨[(3, { jumps := [799990, 799980] })]⟩ })
def wPhaseJumps4 : State := rf [(R.PLB_STATUS_STATE, 0, plbAcquiring), (R.PLB_STATUS_SEL, 0, 3), (R.PLB_REFi_STAT_QUAL, 3, qualYes)]
def wPhaseJumps2 : State := rf []
def wPhaseJumps3 : State := rf [(R.PLB_REFi_MON_PJ_LIM, 3, 1)]
def wPlumbCommands1 : State := setF [(R.PLB_STATUS_STATE, 0, plbLocked), (R.PLB_BUILDOUT_VALUE, 0, 5), (R.PLB_HOLD_STAT_VALID, 0, 1), (R.PLB_HOLD_STAT_RECORDS, 0, 5), (R.PLB_HIST_BASE_BASE, 0, ddrBase), (R.PLB_HIST_IDX_NEXT, 0, 3)] up
def wPlumbMoves1 : State := setF [(R.PLB_STATUS_STATE, 0, plbBridging), (R.PLB_STATUS_SEL, 0, 3), (R.DEV_FRAME_FRAME, 0, 25000)] up
def wPlumbMoves2 : State := setF [(R.PLB_CFG_SWITCH, 0, 1), (R.PLB_STATUS_STATE, 0, plbBridging), (R.PLB_STATUS_SEL, 0, 13), (R.DEV_FRAME_FRAME, 0, 1000)] up
def wPlumbMoves3 : State := setF [(R.PLB_STATUS_STATE, 0, plbAcquiring), (R.PLB_STATUS_SEL, 0, 3), (R.DEV_FRAME_FRAME, 0, 1000)] (up.updPlumb (fun p => { p with winRun := 8000 }))
def wPlumbMoves4 : State := setF [(R.PLB_STATUS_STATE, 0, plbBridging), (R.PLB_STATUS_BRIDGE, 0, 1), (R.PLB_STATUS_SEL, 0, 3), (R.DEV_FRAME_FRAME, 0, 1000)] (up.updPlumb (fun p => { p with winRun := 8000, enWait := true }))
def wPlumbMoves5 : State := (setF [(R.PLB_STATUS_STATE, 0, plbHoldover), (R.PLB_HOLD_CFG_HOLD_MAX, 0, 1)] up).updPlumb (fun p => { p with holdTicks := 28800000 })
def wPlumbMoves6 : State := setF [(R.PLB_STATUS_STATE, 0, plbLocked), (R.DEV_FRAME_FRAME, 0, 800000), (R.PLB_HIST_BASE_BASE, 0, ddrBase)] up
def wPlumbMoves7 : State := setF [(R.PLB_STATUS_STATE, 0, plbLocked), (R.DEV_FRAME_FRAME, 0, 800000), (R.PLB_HIST_BASE_BASE, 0, ddrBase), (R.PLB_HIST_IDX_NEXT, 0, 16383)] up
def shOk : State := setF [(R.PLB_STATUS_SHADOW_OK, 0, 1), (R.DEV_FRAME_FRAME, 0, 800000)] up
def tst (k : Nat) : State := shOk.updPlumb (fun p => { p with test := k })
def wCoresAreTested1 : State := up.updPlumb (fun p => { p with restart := some 0 })
def wCoresAreTested2 : State := shOk.updPlumb (fun p => { p with mismatches := [7, 8, 9] })
def wCoresAreTested3 : State := tst 2
def wCoresAreTested4 : State := tst 1
def wCoresAreTested5 : State := tst 2
def wCoresAreTested6 : State := tst 3

/-- States and operands that meet the hypotheses of ReferencesQualify, clause by clause. -/
theorem witness_ReferencesQualify : 
    ((wReferencesQualify1.flag R.PLB_REFi_CFG_EN 3 = true) ∧ (wReferencesQualify1.monFails (3) RefMon.activity ≠ some false)) ∧
    ((wReferencesQualify2.flag R.PLB_REFi_CFG_EN 3 = true) ∧ (wReferencesQualify2.monFails (3) (RefMon.freq (2147483647 : BitVec 32)) ≠ some false)) ∧
    ((wReferencesQualify3.flag R.PLB_REFi_CFG_EN 3 = true) ∧ (wReferencesQualify3.fld R.PLB_REFi_STAT_QUAL 3 = qualHoldoff) ∧ (800 * wReferencesQualify3.fld R.PLB_TIMERS_HOLDOFF ≤ wReferencesQualify3.sinceFrame (wReferencesQualify3.refSt 3).holdFrom)) ∧
    ((wReferencesQualify4.flag R.PLB_REFi_CFG_EN 3 = true) ∧ (wReferencesQualify4.monFails (3) RefMon.activity ≠ some true)) ∧
    ((wReferencesQualify6.monFails (3) RefMon.activity ≠ some true) ∧ (wReferencesQualify6.fld R.PLB_REFi_STAT_QUAL 3 = qualHoldoff) ∧ (wReferencesQualify6.refSound 3 = true) ∧ (wReferencesQualify6.plb = plbLocked) ∧ (wReferencesQualify6.plbSel = 3) ∧ (wReferencesQualify6.flag R.PLB_STATUS_COAST = true)) ∧
    ((wReferencesQualify5.flag R.PLB_REFi_CFG_EN 3 = true) ∧ (wReferencesQualify5.fld R.PLB_REFi_STAT_QUAL 3 = qualWait) ∧ (8000 * (wReferencesQualify5.refSt 3).waitLen ≤ wReferencesQualify5.sinceFrame (wReferencesQualify5.refSt 3).waitFrom)) :=
  by decide +kernel

/-- States and operands that meet the hypotheses of PhaseJumps, clause by clause. -/
theorem witness_PhaseJumps : 
    ((wPhaseJumps1.flag R.PLB_REFi_CFG_EN 3 = true) ∧ (1024 * wPhaseJumps1.fld R.PLB_REFi_MON_PJ_LIM 3 < (BitVec.toInt (4294967295 : Word)).natAbs)) ∧
    ((wPhaseJumps4.following = true) ∧ (wPhaseJumps4.plb ≠ plbLocked) ∧ (wPhaseJumps4.plbSel = 3)) ∧
    ((wPhaseJumps2.flag R.PLB_REFi_CFG_EN 3 = true) ∧ (1024 * wPhaseJumps2.fld R.PLB_REFi_MON_PJ_LIM 3 < (BitVec.toInt (1024 : Word)).natAbs)) ∧
    ((wPhaseJumps3.flag R.PLB_REFi_CFG_EN 3 = true) ∧ ((BitVec.toInt (1024 : Word)).natAbs ≤ 1024 * wPhaseJumps3.fld R.PLB_REFi_MON_PJ_LIM 3)) :=
  by decide +kernel

/-- States and operands that meet the hypotheses of PlumbCommands, clause by clause. -/
theorem witness_PlumbCommands : 
    ((wPlumbCommands1.accepts (0) RN.PLB_CTRL 0 = true) ∧ ((BitVec.toNat (80 : Word)).testBit 8 = false) ∧ ((BitVec.toNat (80 : Word)).testBit 9 = false) ∧ (Memory.wf wPlumbCommands1.mem wPlumbCommands1.blankAt = true) ∧ (2 ∈ wPlumbCommands1.histEntries)) :=
  by decide +kernel

/-- States and operands that meet the hypotheses of PlumbMoves, clause by clause. -/
theorem witness_PlumbMoves : 
    (((wPlumbMoves1.holdOver 0 = true)) ∧
    ((wPlumbMoves2.holdOver 0 = true)) ∧
    ((wPlumbMoves3.plb = plbAcquiring ∨ wPlumbMoves3.plb = plbBridging ∧ wPlumbMoves3.flag R.PLB_STATUS_BRIDGE = true) ∧ ((if wPlumbMoves3.isPps wPlumbMoves3.plbSel then 8 else 8000) ≤ wPlumbMoves3.plumb.winRun)) ∧
    ((wPlumbMoves4.plb = plbAcquiring ∨ wPlumbMoves4.plb = plbBridging ∧ wPlumbMoves4.flag R.PLB_STATUS_BRIDGE = true) ∧ ((if wPlumbMoves4.isPps wPlumbMoves4.plbSel then 8 else 8000) ≤ wPlumbMoves4.plumb.winRun) ∧ (wPlumbMoves4.plumb.enWait = true)) ∧
    ((wPlumbMoves5.plb = plbHoldover) ∧ (28800000 * wPlumbMoves5.fld R.PLB_HOLD_CFG_HOLD_MAX ≤ wPlumbMoves5.plumb.holdTicks)) ∧
    ((wPlumbMoves6.plb ≠ plbOff) ∧ (wPlumbMoves6.frame % 800000 = 0) ∧ (wPlumbMoves6.plumb.epochEnd ≠ some wPlumbMoves6.frame) ∧ (Memory.wf wPlumbMoves6.mem wPlumbMoves6.blankAt = true))) ∧
    (((wPlumbMoves7.plb ≠ plbOff) ∧ (wPlumbMoves7.frame % 800000 = 0) ∧ (wPlumbMoves7.plumb.epochEnd ≠ some wPlumbMoves7.frame) ∧ (Memory.wf wPlumbMoves7.mem wPlumbMoves7.blankAt = true))) :=
  ⟨(by decide +kernel), (by decide +kernel)⟩

/-- States and operands that meet the hypotheses of CoresAreTested, clause by clause. -/
theorem witness_CoresAreTested : 
    ((shOk.flag R.PLB_STATUS_SHADOW_OK = true)) ∧
    ((wCoresAreTested1.plumb.restart = some 0) ∧ (frameReached wCoresAreTested1.frame 0 = true)) ∧
    ((wCoresAreTested2.flag R.PLB_STATUS_SHADOW_OK = true) ∧ (3 ≤ (List.filter (fun f => decide (wCoresAreTested2.sinceFrame f < 691200000)) wCoresAreTested2.plumb.mismatches).length)) ∧
    ((wCoresAreTested3.plumb.test ≠ 0)) ∧
    ((wCoresAreTested4.plumb.test = 1)) ∧
    ((wCoresAreTested5.plumb.test = 2)) ∧
    ((wCoresAreTested6.plumb.test = 3)) :=
  by decide +kernel

/-- A device without a good shadow, whose active core fails: the clause of CoresAreTested without a shadow. -/
theorem witness_CoresAreTested_more : (up.flag R.PLB_STATUS_SHADOW_OK = false) ∧ (wCoresAreTested3.plumb.test ≠ 4) := by decide +kernel

end D

namespace E

def dma : Nat := 0x90120
def tagA : Nat := regOffset RN.LN_EXPECT 279
def wWritesFollowTheirTypes1 : State := up.setFld R.MAT_EVT 0 7
def cnt0 : Nat := 0x1000140
def cB5 : Nat := regOffset RN.CNT_Bc_LO 5
def wPairsLatch1 : State := up.latchHigh 5 (cnt0+4) 77
def wPairsLatch2 : State := { up with heldLow := up.heldLow.put 4 (({} : Tab Nat).put dma 77) }
def wLatchingReads1 : State := up.setFld R.FAB_CFG_DIAG_EN 0 1
def wLatchingReads2 : State := up.setFld R.CNT_Bc_CFG_CHAIN 5 1

/-- States and operands that meet the hypotheses of WritesFollowTheirTypes, clause by clause. -/
theorem witness_WritesFollowTheirTypes : 
    (((up.viewAddr (4) (View.priv (BitVec.ofNat 40 tagA)) = Sum.inl (tagA, false)) ∧ (place tagA = Place.reg tagA) ∧ (tagA % 4 = 0) ∧ (up.judge (4) tagA false true = Verdict.ok) ∧ (up.mirrors 4 = false) ∧ (findReg tagA = some (regAt tagA, 279)) ∧ ((regAt tagA).half = Half.single) ∧ (actingReg (regAt tagA).id = false) ∧ (up.regFree (regAt tagA).id 279 = true)) ∧
    (((wWritesFollowTheirTypes1.setFld R.MGT_OWNER_PORT 0 1).viewAddr (5) (View.priv (BitVec.ofNat 40 (regOffset RN.MAT_EVT 0))) = Sum.inl (regOffset RN.MAT_EVT 0, false)) ∧ (place (regOffset RN.MAT_EVT 0) = Place.reg (regOffset RN.MAT_EVT 0)) ∧ (regOffset RN.MAT_EVT 0 % 4 = 0) ∧ ((wWritesFollowTheirTypes1.setFld R.MGT_OWNER_PORT 0 1).judge (5) (regOffset RN.MAT_EVT 0) false true = Verdict.ok) ∧ ((wWritesFollowTheirTypes1.setFld R.MGT_OWNER_PORT 0 1).mirrors 5 = false) ∧ (findReg (regOffset RN.MAT_EVT 0) = some (regAt (regOffset RN.MAT_EVT 0), 0)) ∧ ((regAt (regOffset RN.MAT_EVT 0)).half = Half.single) ∧ (actingReg (regAt (regOffset RN.MAT_EVT 0)).id = false) ∧ ((wWritesFollowTheirTypes1.setFld R.MGT_OWNER_PORT 0 1).regFree (regAt (regOffset RN.MAT_EVT 0)).id 0 = true))) ∧
    (((up.viewAddr (4) (View.priv (BitVec.ofNat 40 (regOffset RN.MAT_CFG 0))) = Sum.inl (regOffset RN.MAT_CFG 0, false)) ∧ (place (regOffset RN.MAT_CFG 0) = Place.reg (regOffset RN.MAT_CFG 0)) ∧ (regOffset RN.MAT_CFG 0 % 4 = 0) ∧ (up.judge (4) (regOffset RN.MAT_CFG 0) false true = Verdict.ok) ∧ (up.mirrors 4 = false) ∧ (findReg (regOffset RN.MAT_CFG 0) = some (regAt (regOffset RN.MAT_CFG 0), 0)) ∧ ((regAt (regOffset RN.MAT_CFG 0)).half = Half.single) ∧ (actingReg (regAt (regOffset RN.MAT_CFG 0)).id = false) ∧ (up.regFree (regAt (regOffset RN.MAT_CFG 0)).id 0 = true)) ∧
    ((up.viewAddr (4) (View.priv (BitVec.ofNat 40 (regOffset RN.SCB_MREC_SEL 0))) = Sum.inl (regOffset RN.SCB_MREC_SEL 0, false)) ∧ (place (regOffset RN.SCB_MREC_SEL 0) = Place.reg (regOffset RN.SCB_MREC_SEL 0)) ∧ (regOffset RN.SCB_MREC_SEL 0 % 4 = 0) ∧ (up.judge (4) (regOffset RN.SCB_MREC_SEL 0) false true = Verdict.ok) ∧ (up.mirrors 4 = false) ∧ (findReg (regOffset RN.SCB_MREC_SEL 0) = some (regAt (regOffset RN.SCB_MREC_SEL 0), 0)) ∧ ((regAt (regOffset RN.SCB_MREC_SEL 0)).half = Half.single) ∧ (actingReg (regAt (regOffset RN.SCB_MREC_SEL 0)).id = false) ∧ (up.regFree (regAt (regOffset RN.SCB_MREC_SEL 0)).id 0 = true))) :=
  ⟨(by decide +kernel), (by decide +kernel)⟩

/-- States and operands that meet the hypotheses of DroppedWrites, clause by clause. -/
theorem witness_DroppedWrites : 
    ((portOfMaster 5 = some 1) ∧ (up.viewAddr (5) (View.priv (BitVec.ofNat 40 tagA)) = Sum.inl (tagA, false)) ∧ (misaligned tagA (place tagA) = false) ∧ (up.judge (5) tagA false true = Verdict.dropped)) ∧
    ((portOfMaster 5 = some 1) ∧ (up.viewAddr (5) (View.priv (11018436608 : BitVec 40)) = Sum.inl (11018436608, false)) ∧ (up.judge 5 11018436608 false true = Verdict.default ∨ misaligned 11018436608 (place 11018436608) = true ∧ up.judge 5 11018436608 false true = Verdict.dropped)) ∧
    ((portOfMaster 5 = some 1) ∧ (up.viewAddr (5) (View.priv (BitVec.ofNat 40 (tagA + 1))) = Sum.inl (tagA + 1, false)) ∧ (up.judge (5) (tagA + 1) false true = Verdict.default ∨ misaligned (tagA + 1) (place (tagA + 1)) = true ∧ up.judge (5) (tagA + 1) false true = Verdict.dropped)) :=
  by decide +kernel

/-- States and operands that meet the hypotheses of UnprivilegedView, clause by clause. -/
theorem witness_UnprivilegedView : 
    (((portOfMaster 5).isSome = true) ∧ (up.served = true) ∧ (up.recovery = false) ∧ (∀ (k : Nat), openPlace (BitVec.toNat (0 : BitVec 24)) ≠ OpenPlace.msixTable k)) ∧
    ((((portOfMaster 5).isSome = true) ∧ (up.served = true) ∧ (up.recovery = false) ∧ (openPlace (BitVec.toNat (590112 : BitVec 24)) = OpenPlace.reg dma) ∧ (BitVec.toNat (590112 : BitVec 24) % 4 = 0) ∧ (findReg dma = some (regAt dma, 0)) ∧ ((regAt dma).half = Half.low) ∧ (actingReg (regAt dma).id = false) ∧ ((regAt dma).id ≠ RN.DEV_FRAME) ∧ ((regAt dma).id ≠ RN.BNT_MSRC) ∧ ((regAt dma).id ≠ RN.SCB_MREC_W) ∧ ((regAt dma).id ≠ RN.CNT_Bc_LO) ∧ ((regAt dma).id ≠ RN.CNT_Bc_SN_LO) ∧ ((regAt dma).id ≠ RN.PEG_REC))) :=
  ⟨⟨(by decide +kernel), (by decide +kernel), (by decide +kernel), (by intro k; simp [openPlace])⟩, (by decide +kernel)⟩

/-- States and operands that meet the hypotheses of PairsLatch, clause by clause. -/
theorem witness_PairsLatch : 
    (((up.viewAddr (5) (View.priv (BitVec.ofNat 40 cnt0)) = Sum.inl (cnt0, false)) ∧ (place cnt0 = Place.reg cnt0) ∧ (cnt0 % 4 = 0) ∧ (findReg cnt0 = some (regAt cnt0, 0)) ∧ (up.judge (5) cnt0 false false = Verdict.ok) ∧ ((regAt cnt0).half = Half.low) ∧ ((regAt cnt0).id ≠ RN.DEV_FRAME) ∧ ((regAt cnt0).id ≠ RN.BNT_MSRC) ∧ ((regAt cnt0).id ≠ RN.SCB_MREC_W) ∧ ((regAt cnt0).id ≠ RN.CNT_Bc_LO) ∧ ((regAt cnt0).id ≠ RN.CNT_Bc_SN_LO) ∧ ((regAt cnt0).id ≠ RN.PEG_REC)) ∧
    ((wPairsLatch1.viewAddr (5) (View.priv (BitVec.ofNat 40 (cnt0 + 4))) = Sum.inl (cnt0 + 4, false)) ∧ (place (cnt0 + 4) = Place.reg (cnt0 + 4)) ∧ ((cnt0 + 4) % 4 = 0) ∧ (findReg (cnt0 + 4) = some (regAt (cnt0 + 4), 0)) ∧ (wPairsLatch1.judge (5) (cnt0 + 4) false false = Verdict.ok) ∧ ((regAt (cnt0 + 4)).half = Half.high) ∧ ((regAt (cnt0 + 4)).id ≠ RN.DEV_FRAME) ∧ ((regAt (cnt0 + 4)).id ≠ RN.BNT_MSRC) ∧ ((regAt (cnt0 + 4)).id ≠ RN.SCB_MREC_W) ∧ ((regAt (cnt0 + 4)).id ≠ RN.CNT_Bc_LO) ∧ ((regAt (cnt0 + 4)).id ≠ RN.CNT_Bc_SN_LO) ∧ ((regAt (cnt0 + 4)).id ≠ RN.PEG_REC))) ∧
    (((up.viewAddr (4) (View.priv (BitVec.ofNat 40 dma)) = Sum.inl (dma, false)) ∧ (place dma = Place.reg dma) ∧ (dma % 4 = 0) ∧ (findReg dma = some (regAt dma, 0)) ∧ (up.judge (4) dma false true = Verdict.ok) ∧ (up.regFree (regAt dma).id 0 = true) ∧ ((regAt dma).half = Half.low)) ∧
    ((wPairsLatch2.viewAddr (4) (View.priv (BitVec.ofNat 40 (dma + 4))) = Sum.inl (dma + 4, false)) ∧ (place (dma + 4) = Place.reg (dma + 4)) ∧ ((dma + 4) % 4 = 0) ∧ (findReg (dma + 4) = some (regAt (dma + 4), 0)) ∧ (wPairsLatch2.judge (4) (dma + 4) false true = Verdict.ok) ∧ (wPairsLatch2.mirrors 4 = false) ∧ (wPairsLatch2.regFree (regAt (dma + 4)).id 0 = true) ∧ ((regAt (dma + 4)).half = Half.high) ∧ (actingReg (regAt (dma + 4)).id = false) ∧ (findReg (dma + 4 - 4) = some (regAt dma, 0)) ∧ (wPairsLatch2.heldAt (4) (dma + 4 - 4) = some 77) ∧ ((regAt dma).half = Half.low))) ∧
    (((up.viewAddr (4) (View.priv (BitVec.ofNat 40 (dma + 4))) = Sum.inl (dma + 4, false)) ∧ (place (dma + 4) = Place.reg (dma + 4)) ∧ ((dma + 4) % 4 = 0) ∧ (findReg (dma + 4) = some (regAt (dma + 4), 0)) ∧ (up.serves (4) RN.DEV_FRAME 0 = true))) :=
  ⟨(by decide +kernel), (by decide +kernel), (by decide +kernel)⟩

/-- States and operands that meet the hypotheses of LatchingReads, clause by clause. -/
theorem witness_LatchingReads : 
    (((up.serves (4) RN.BNT_MSRC 3 = true)) ∧
    ((place (BitVec.toNat (8589934592 : BitVec 40)) = Place.diag 0) ∧ (wLatchingReads1.judge (4) (BitVec.toNat (8589934592 : BitVec 40)) false false = Verdict.ok) ∧ (BitVec.toNat (8589934592 : BitVec 40) % 4 = 0)) ∧
    ((place (BitVec.toNat (4294967304 : BitVec 40)) = Place.map 8) ∧ (up.judge (4) (BitVec.toNat (4294967304 : BitVec 40)) false false = Verdict.ok) ∧ (BitVec.toNat (4294967304 : BitVec 40) % 4 = 0) ∧ (8 % 8 = 0)) ∧
    ((place (BitVec.toNat (4294967308 : BitVec 40)) = Place.map 12) ∧ (up.judge (4) (BitVec.toNat (4294967308 : BitVec 40)) false false = Verdict.ok) ∧ (BitVec.toNat (4294967308 : BitVec 40) % 4 = 0) ∧ (12 % 8 ≠ 0)) ∧
    ((place (BitVec.toNat (4294967304 : BitVec 40)) = Place.map 8) ∧ (up.judge (4) (BitVec.toNat (4294967304 : BitVec 40)) false false = Verdict.ok) ∧ (8 % 8 = 0)) ∧
    ((up.serves (4) RN.SCB_MREC_W 0 = true)) ∧
    ((up.serves (4) RN.GRN_SCAN_RES 0 = true))) ∧
    (((wLatchingReads2.serves (4) RN.CNT_Bc_LO 5 = true) ∧ (regAddr RN.CNT_Bc_LO 5 = some (regAt cB5, cB5)) ∧ ((wLatchingReads2.chainHeld.get 4 { }).find cB5 = none) ∧ (5 < 16383)) ∧
    ((up.serves (4) RN.PEG_REC 0 = true))) :=
  ⟨(by decide +kernel), (by decide +kernel)⟩

/-- A counter outside CYCLES whose lower neighbour does not chain: the clause of LatchingReads that says what is shown. -/
theorem witness_LatchingReads_shown : (up.fld R.CNT_Bc_CFG_SRC 5 ≠ 0xE) ∧ (∀ d, 5 = d + 1 → up.flag R.CNT_Bc_CFG_CHAIN d = false) :=
  ⟨by decide +kernel, by intro d h; cases h; decide +kernel⟩

/-- A counter of core cycles that has counted since cycle 5: the second clause of what LatchingReads shows. -/
def wLatchingReads3 : State := { setF [(R.CNT_Bc_CFG_SRC, 5, 0xE), (R.PLB_STATUS_STATE, 0, plbLocked)] up with cycle := 9, plumb := { up.plumb with cycFrom := ({} : Tab Nat).put 5 5 } }

/-- The last clause of LatchingReads. -/
theorem witness_LatchingReads_cycles : (wLatchingReads3.chainedBelow 5 = false) ∧ (wLatchingReads3.fld R.CNT_Bc_CFG_SRC 5 = 0xE)
    ∧ (wLatchingReads3.cycleNow - wLatchingReads3.plumb.cycFrom.get 5 0 = 4) ∧ (up.chainedBelow 5 = false) ∧ (up.plumb.tickDue = none) := by decide +kernel

end E

namespace F

def tagA : Nat := regOffset RN.LN_EXPECT 279
def wLocksAreHeld1 : State := up.writeBytes (lockAddr 63) [3, 0, 0, 0]
def wLocksAreHeld2 : State := up.writeBytes (lockAddr 63) [5, 0, 0, 0]
def wLocksAreHeld3 : State := up.writeBytes (lockAddr 63) [5, 0, 0, 0]
def wLocksAreHeld4 : State := up.writeBytes (lockAddr 63) [5, 0, 0, 0]
def wLocksAreHeld5 : State := up.writeBytes (lockAddr 63) [5, 0, 0, 0]
def wSpiCommands1 : State := State.reset
def fz (_ : Nat) : Nat → State := fun k => (List.range k).foldl (fun t j => t.readPriv spiMaster ((0x300 + 4 * j) % 2 ^ 40) false) up
def wTheTunnel1 : State := lnUp 276 6 3 {} []
def wTheTunnel2 : State := up.setFld R.MGT_TUN_STAT_STATE 0 1
def req (w : Bool) : TunnelReq := { since := 0, write := w, unpriv := false, addr := 0, data := 0 }
def wTheTunnel3 : State := { up.setFld R.DEV_FRAME_FRAME 0 8 with tunnel := some (req false) }
def wTheTunnel4 : State := { up with tunnel := some (req true) }
def wTheTunnel5 : State := { up.setFld R.DEV_FRAME_FRAME 0 9 with tunnel := some (req true) }
def wTheTunnel6 : State := up.setFld R.TLY_STAT_LOCKED 0 1
def wLatencyQueries1 : State := up.setFld R.DEV_LATQ_STATUS_STATE 0 1
def lqUp : State := setF [(R.DEV_LATQ_STATUS_STATE, 0, 1), (R.DEV_LATQ_FRAME_FRAME, 0, 0)] up
def lqUp2 : State := { lqUp with sched := { lqUp.sched with map := lqUp.sched.map.put 0 (.single 131072) } }
def wLatencyQueries2 : State := lqUp2.setFld R.DEV_LATQ_CTRL_SIDE 0 1

/-- States and operands that meet the hypotheses of AccessesThatFail, clause by clause. -/
theorem witness_AccessesThatFail : 
    (((up.decodesDefault (4) (View.priv (11018436608 : BitVec 40)) false = true)) ∧
    ((up.decodesDefault (4) (View.priv (11018436608 : BitVec 40)) true = true)) ∧
    ((up.decodesDefault (4) (View.unpriv (3244032 : BitVec 24)) false = true)) ∧
    ((up.badShape (4) (View.priv (BitVec.ofNat 40 tagA)) false = true)) ∧
    ((up.badShape (4) (View.priv (BitVec.ofNat 40 tagA)) true = true))) ∧
    ((up.scratchRead (4) (View.priv (271057152 : BitVec 40)) false = some (271057152, false)) ∧ (∀ (off : Nat), place 271057152 = Place.mailbox off → lockAt off = none)) ∧
    (((up.scratchRead (4) (View.priv (271057152 : BitVec 40)) false = some (271057152, false))) ∧
    ((up.localRead (0) (View.priv (0x10000000 : BitVec 40)) false = some 0x10000000))) :=
  ⟨(by decide +kernel), ⟨(by decide +kernel), (by intro off h; rw [show place 271057152 = Place.mailbox 256 from by decide +kernel] at h; cases h; decide +kernel)⟩, (by decide +kernel)⟩

/-- States and operands that meet the hypotheses of LocksAreHeld, clause by clause. -/
theorem witness_LocksAreHeld : 
    ((Memory.wf up.mem up.blankAt = true) ∧ (up.judge (4) (lockAddr 63) false false = Verdict.ok) ∧ (up.lockWord 63 = 0) ∧ (∀ (p : Nat), portOfMaster 4 = some p → up.portClass p = 2 ∧ (up.ownsNow p = true ∨ up.recovery = true))) ∧
    (((Memory.wf wLocksAreHeld1.mem wLocksAreHeld1.blankAt = true) ∧ (wLocksAreHeld1.judge (4) (lockAddr 63) false false = Verdict.ok) ∧ (wLocksAreHeld1.lockWord 63 ≠ 0)) ∧
    ((Memory.wf up.mem up.blankAt = true) ∧ (portOfMaster 5 = some 1) ∧ (up.judge (5) (lockAddr 63) false false = Verdict.ok) ∧ (up.ownsNow 1 = false) ∧ (up.recovery = false)) ∧
    ((Memory.wf wLocksAreHeld2.mem wLocksAreHeld2.blankAt = true) ∧ (wLocksAreHeld2.judge (4) (lockAddr 63) false true = Verdict.ok) ∧ (wLocksAreHeld2.lockWord 63 = 4 + 1)) ∧
    ((Memory.wf wLocksAreHeld3.mem wLocksAreHeld3.blankAt = true) ∧ (wLocksAreHeld3.judge (4) (lockAddr 63) false true = Verdict.ok) ∧ ((1 : Word) ≠ (0 : Word) ∨ wLocksAreHeld3.lockWord 63 ≠ 4 + 1))) ∧
    (((Memory.wf up.mem up.blankAt = true) ∧ (up.judge (4) (lockAddr 63) false true = Verdict.ok) ∧ ((0 : Word) ≠ (0 : Word) ∨ up.lockWord 63 ≠ 4 + 1)) ∧
    ((Memory.wf wLocksAreHeld4.mem wLocksAreHeld4.blankAt = true)) ∧
    ((Memory.wf wLocksAreHeld5.mem wLocksAreHeld5.blankAt = true))) :=
  ⟨⟨(by decide +kernel), (by decide +kernel), (by decide +kernel), (by intro p h; rw [show portOfMaster 4 = some 0 from rfl] at h; cases h; decide +kernel)⟩, (by decide +kernel), (by decide +kernel)⟩

/-- States and operands that meet the hypotheses of SpiCommands, clause by clause. -/
theorem witness_SpiCommands : 
    ((up.spiServed = true) ∧ (([] : List Word).length ≤ 0)) ∧
    ((up.spiServed = true) ∧ (BitVec.toNat (1 : BitVec 40) % 4 ≠ 0)) ∧
    ((up.spiServed = true)) ∧
    ((wSpiCommands1.spiServed = false)) :=
  by decide +kernel

/-- States and operands that meet the hypotheses of TheTunnel, clause by clause. -/
theorem witness_TheTunnel : 
    ((wTheTunnel1.accepts (4) RN.MGT_TUN_CTRL 0 = true) ∧ (wTheTunnel1.fld R.MGT_TUN_STAT_STATE ≠ tunBusy) ∧ (wTheTunnel1.liveMates ≠ [])) ∧
    ((up.accepts (4) RN.MGT_TUN_CTRL 0 = true) ∧ (up.fld R.MGT_TUN_STAT_STATE ≠ tunBusy) ∧ (up.liveMates = [])) ∧
    ((wTheTunnel2.accepts (4) RN.MGT_TUN_CTRL 0 = true) ∧ (wTheTunnel2.fld R.MGT_TUN_STAT_STATE = tunBusy)) ∧
    ((wTheTunnel3.tunnel = some (req false)) ∧ (wTheTunnel3.sinceFrame (req false).since < 9)) ∧
    ((wTheTunnel4.tunnel = some (req true)) ∧ (wTheTunnel4.sinceFrame (req true).since < 9)) ∧
    ((wTheTunnel5.tunnel = some (req true)) ∧ (9 ≤ wTheTunnel5.sinceFrame (req true).since)) ∧
    ((wTheTunnel6.flag R.TLY_STAT_LOCKED = true)) ∧ ((up.flag R.TLY_STAT_LOCKED = false)) :=
  by decide +kernel

/-- States and operands that meet the hypotheses of LatencyQueries, clause by clause. -/
theorem witness_LatencyQueries : 
    (((up.accepts (4) RN.DEV_LATQ_CTRL 0 = true) ∧ (up.fld R.DEV_LATQ_STATUS_STATE ≠ latqBusy)) ∧
    ((wLatencyQueries1.accepts (4) RN.DEV_LATQ_CTRL 0 = true) ∧ (wLatencyQueries1.fld R.DEV_LATQ_STATUS_STATE = latqBusy)) ∧
    ((lqUp.fld R.DEV_LATQ_STATUS_STATE = latqBusy) ∧ (frameReached lqUp.frame (lqUp.fld R.DEV_LATQ_FRAME_FRAME) = true) ∧ (0 = lqUp.fld R.DEV_LATQ_CTRL_SLOT) ∧ ((lqUp.schedAt (lqUp.fld R.DEV_LATQ_FRAME_FRAME)).map.find 0 = none)) ∧
    ((wLatencyQueries2.fld R.DEV_LATQ_STATUS_STATE = latqBusy) ∧ (frameReached wLatencyQueries2.frame (wLatencyQueries2.fld R.DEV_LATQ_FRAME_FRAME) = true) ∧ (0 = wLatencyQueries2.fld R.DEV_LATQ_CTRL_SLOT) ∧ ((wLatencyQueries2.schedAt (wLatencyQueries2.fld R.DEV_LATQ_FRAME_FRAME)).map.find 0 = some (Route.single 131072)) ∧ ((Route.single 131072).side (wLatencyQueries2.fld R.DEV_LATQ_CTRL_SIDE) = none)) ∧
    ((lqUp2.fld R.DEV_LATQ_STATUS_STATE = latqBusy) ∧ (frameReached lqUp2.frame (lqUp2.fld R.DEV_LATQ_FRAME_FRAME) = true) ∧ (0 = lqUp2.fld R.DEV_LATQ_CTRL_SLOT) ∧ ((lqUp2.schedAt (lqUp2.fld R.DEV_LATQ_FRAME_FRAME)).map.find 0 = some (Route.single 131072)) ∧ ((Route.single 131072).side (lqUp2.fld R.DEV_LATQ_CTRL_SIDE) = some 131072))) ∧
    (((lqUp2.fld R.DEV_LATQ_STATUS_STATE = latqBusy) ∧ (frameReached lqUp2.frame (lqUp2.fld R.DEV_LATQ_FRAME_FRAME) = true) ∧ (0 = lqUp2.fld R.DEV_LATQ_CTRL_SLOT))) :=
  ⟨(by decide +kernel), (by decide +kernel)⟩

/-- A burst read and a write burst over lock words, and a master without and with a reset of R407: further clauses of LocksAreHeld. -/
theorem witness_LocksAreHeld_more :
    ((up.judge (4) (BitVec.ofNat 40 (lockAddr 0)).toNat false false = Verdict.ok) ∧ (place (BitVec.ofNat 40 (lockAddr 0)).toNat = .mailbox 0x40000))
    ∧ ((up.judge (4) (lockAddr 60) false true = Verdict.ok) ∧ ((60 : Fin 64).val % 4 = 0) ∧ ((⟨1, 15⟩ : Beat).be ≠ 0))
    ∧ ((8 : Nat) ≤ (8 : Master).val) ∧ ((7 : Master).val < 8) := by decide +kernel

/-- A burst read and a read of some bytes of a scratchpad, and a word that a joiner's own port reads: further clauses of AccessesThatFail. -/
theorem witness_AccessesThatFail_rows :
    (up.scratchRows 4 (.burst 0x10280000 1) false = some (0x10280000, 8)) ∧ (up.scratchRows 4 (.lanes 0x10280000 3) false = some (0x10280000, 1))
      ∧ ((3 : BitVec 4) ≠ 15) ∧ (up.localRead 0 (.own 0 15) false = some 0x10000000) := by decide +kernel

/-- Locks 60 and 61 held by M4 and lock 62 by M5, and a beat that writes 0 to each: the burst clause of LocksAreHeld. -/
def wLocksAreHeld6 : State := up.writeBytes (lockAddr 60) [5, 0, 0, 0, 5, 0, 0, 0, 6, 0, 0, 0]

/-- A beat that writes 0 to the locks, whole and in part: the burst clause of LocksAreHeld. -/
theorem witness_LocksAreHeld_burst : (Memory.wf wLocksAreHeld6.mem wLocksAreHeld6.blankAt = true) ∧ (wLocksAreHeld6.judge 4 (lockAddr 60) false true = Verdict.ok)
    ∧ (wLocksAreHeld6.lockWord 60 = 5 ∧ wLocksAreHeld6.lockAfter (lockAddr 60) 16 0 0xFF 60 = 0 ∧ wLocksAreHeld6.lockAfter (lockAddr 60) 16 0 0xFE 60 = 5)
    ∧ (wLocksAreHeld6.lockWord 62 = 6) := by decide +kernel

end F

namespace G

def fl : State := setF [(R.IMG_FLASH_DENSITY, 0, 29)] { up with fuses := keyed }
def wImageOperations1 : State := fl.setFld R.IMG_PROG_SRC_SRC 0 (fl.fld R.IMG_STAGE_BASE_BASE)
def wImageOperations2 : State := setF [(R.IMG_PROG_SRC_SRC, 0, fl.fld R.IMG_STAGE_BASE_BASE), (R.MGT_OWNER_PORT, 0, 7), (R.IMG_RAISE_RECOVERY, 0, 1)] fl
def flBusy (op : Nat) : State := setF [(R.IMG_OP_STAT_STATE, 0, 1), (R.IMG_OP_STAT_OP, 0, op)] fl
def wImageOperations3 : State := flBusy 0
def wImageOperations4 : State := flBusy 1
def wImageOperations5 : State := flBusy 0
def wImageOperations6 : State := flBusy 1
def wImageChoices1 : State := setF [(R.IMG_RUN_TRIAL, 0, 1), (R.IMG_RUN_SLOT, 0, 1)] fl
def wImageChoices2 : State := setF [(R.IMG_RUN_SVN, 0, 5)] fl
def wImageChoices3 : State := setF [(R.IMG_RUN_SVN, 0, 63)] fl
def wImageChoices4 : State := setF [(R.IMG_RUN_TRIAL, 0, 1)] fl
def wImageChoices5 : State := setF [(R.IMG_SLOTs_STAT_VALID, 1, 1)] fl
def wLiveUpdates1 : State := { setF [(R.IMG_SLOTs_STAT_VALID, 1, 1)] fl with raise := { fl.raise with fwAbi := goodImg.fwAbi } }
def wLiveUpdates2 : State := { setF [(R.IMG_SLOTs_STAT_VALID, 1, 1)] fl with raise := { fl.raise with fwAbi := goodImg.fwAbi + 1 } }
def wLiveUpdates3 : State := { setF [(R.IMG_LIVE_STAT_STATE, 0, 2), (R.IMG_LIVE_STAT_CORE, 0, 2)] fl with raise := { fl.raise with updated := [0,1,3,4], other := some goodImg, liveOut := [2] } }
def wLiveUpdates4 : State := { setF [(R.IMG_LIVE_STAT_STATE, 0, 2), (R.IMG_LIVE_STAT_CORE, 0, 0)] fl with raise := { fl.raise with updated := [], other := some goodImg, liveOut := [0] } }
def wLiveUpdates7 : State := { setF [(R.IMG_LIVE_STAT_STATE, 0, 2), (R.IMG_LIVE_STAT_CORE, 0, 0)] fl with raise := { fl.raise with other := some { goodImg with bytes := [] }, liveOut := [0] } }
def wLiveUpdates5 : State := { setF [(R.IMG_LIVE_STAT_STATE, 0, 2), (R.IMG_LIVE_STAT_CORE, 0, 0)] fl with raise := { fl.raise with updated := [], other := some goodImg, liveOut := [0] } }
def wLiveUpdates6 : State := { setF [(R.IMG_LIVE_STAT_STATE, 0, 2), (R.IMG_LIVE_STAT_CORE, 0, 1), (R.DEV_FRAME_FRAME, 0, 8000)] fl with raise := { fl.raise with updated := [0], other := some goodImg, liveOut := [1] } }
def wLiveUpdates8 : State := { setF [(R.IMG_LIVE_STAT_STATE, 0, 2), (R.IMG_LIVE_STAT_CORE, 0, 4)] fl with raise := { fl.raise with other := some goodImg } }
def wLiveUpdates9 : State := { setF [(R.IMG_LIVE_STAT_STATE, 0, liveRollback)] fl with raise := { fl.raise with updated := [3], liveOut := [3] } }
def tk (s : State) (m v : Nat) : State := { s with heldLow := s.heldLow.put m (({} : Tab Nat).put 0x20010 v) }
def own7 : State := setF [(R.MGT_OWNER_PORT, 0, 7)] up
def owned : State := { up with own := { up.own with token := 9 } }
def wOwnership1 : State := tk own7 4 9
def wOwnership2 : State := tk (setF [(R.MGT_OWNER_PENDING, 0, 1), (R.MGT_OWNER_SUCCESSOR, 0, 1)] owned) 5 9
def wOwnership3 : State := tk up 5 9
def wOwnership4 : State := tk owned 4 9
def wOwnership5 : State := tk owned 4 9
def wOwnership6 : State := tk owned 4 9
def wOwnership7 : State := tk owned 4 8
def leaseUp (c : List (Nat × Nat)) : State := { setF [(R.DEV_FRAME_FRAME, 0, 5000)] up with own := { up.own with token := 9, claims := c, leaseEnd := 5000 } }
def wOwnership8 : State := leaseUp []
def wOwnership9 : State := leaseUp [(3, 5)]
def wOwnership10 : State := setF [(R.MGT_OWNER_PENDING, 0, 1), (R.DEV_FRAME_FRAME, 0, 800)] up
/-- `up` with the plumb's bandwidths in their ranges, so that R295 holds of it. -/
def plumbed : State := setF [(R.PLB_DPLL_BW_BW, 0, 1000), (R.PLB_DPLL_ACQ_ACQ_BW, 0, 2000)] up
def wCommits1 : State := { up with staged := (({} : Tab (Tab Nat)).put R.PLB_TIMERS_HOLDOFF.id (({} : Tab Nat).put 0 18)) }
def smp (f : Fld) (i v : Nat) : State := { plumbed with sampled := some (({} : Tab (Tab Nat)).put f.id (({} : Tab Nat).put i v)) }
def wCommits2 : State := smp R.PLB_TIMERS_HOLDOFF 0 18
def wCommits4 : State := { wCommits2 with staged := (({} : Tab (Tab Nat)).put R.PLB_TIMERS_HOLDOFF.id (({} : Tab Nat).put 0 17)) }
def wCommits3 : State := smp R.PLB_TIMERS_HOLDOFF 0 19

/-- The new code of a live update from `goodImg` passes its check. -/
theorem goodCode (s : State) (hf : s.fuses = keyed) (ho : s.raise.other = some goodImg) : s.liveCodeGood = true := by
  simp [State.liveCodeGood, ho, goodImg_firmware s hf]

/-- States and operands that meet the hypotheses of ImageOperations, clause by clause. -/
theorem witness_ImageOperations : 
    (((1 = bit (BitVec.toNat (256 : Word)) 8) ∧ (fl.accepts (4) RN.IMG_CTRL 0 = true) ∧ (bits (BitVec.toNat (256 : Word)) 0 7 = 0) ∧ (fl.imgBusy = false)) ∧
    ((1 = bit (BitVec.toNat (256 : Word)) 8) ∧ (wImageOperations1.accepts (4) RN.IMG_CTRL 0 = true) ∧ (bits (BitVec.toNat (256 : Word)) 0 7 = 0) ∧ (wImageOperations1.imgBusy = false) ∧ (wImageOperations1.progRange wImageOperations1.slotRoom = true) ∧ (wImageOperations1.tally.boot.pref ≠ 1) ∧ (wImageOperations1.flag R.IMG_RUN_STAGED = true ∨ wImageOperations1.fld R.IMG_RUN_SLOT ≠ 1)) ∧
    ((0 = bit (BitVec.toNat (0 : Word)) 8) ∧ (fl.accepts (4) RN.IMG_CTRL 0 = true) ∧ (bits (BitVec.toNat (0 : Word)) 0 7 = 0) ∧ (fl.imgBusy = false) ∧ (fl.recovery = false) ∧ (fl.tally.boot.pref = 0 ∨ fl.flag R.IMG_RUN_STAGED = false ∧ fl.fld R.IMG_RUN_SLOT = 0))) ∧
    (((1 = bit (BitVec.toNat (256 : Word)) 8) ∧ (wImageOperations2.accepts (4) RN.IMG_CTRL 0 = true) ∧ (bits (BitVec.toNat (256 : Word)) 0 7 = 0) ∧ (wImageOperations2.imgBusy = false) ∧ (wImageOperations2.recovery = true) ∧ (wImageOperations2.progRange 268435456 = true)) ∧
    ((0 = bit (BitVec.toNat (0 : Word)) 8) ∧ (wImageOperations3.accepts (4) RN.IMG_CTRL 0 = true) ∧ (bits (BitVec.toNat (0 : Word)) 0 7 = 0) ∧ (wImageOperations3.imgBusy = true)) ∧
    ((0 = bit (BitVec.toNat (0 : Word)) 8) ∧ (wImageOperations4.accepts (4) RN.IMG_CTRL 0 = true) ∧ (bits (BitVec.toNat (0 : Word)) 0 7 = 0) ∧ (wImageOperations4.imgBusy = true) ∧ (wImageOperations4.fld R.IMG_OP_STAT_OP ≠ opRecover))) ∧
    (((0 = bit (BitVec.toNat (0 : Word)) 8) ∧ (wImageOperations5.accepts (4) RN.IMG_CTRL 0 = true) ∧ (bits (BitVec.toNat (0 : Word)) 0 7 = 0) ∧ (wImageOperations5.imgBusy = true) ∧ (wImageOperations5.fld R.IMG_OP_STAT_OP = opVerify) ∧ (wImageOperations5.imageFault (wImageOperations5.imageOf goodBytes) wImageOperations5.slotRoom = none)) ∧
    ((0 = bit (BitVec.toNat (0 : Word)) 8) ∧ (wImageOperations6.accepts (4) RN.IMG_CTRL 0 = true) ∧ (bits (BitVec.toNat (0 : Word)) 0 7 = 0) ∧ (wImageOperations6.imgBusy = true) ∧ (wImageOperations6.fld R.IMG_OP_STAT_OP = opProgram) ∧ (wImageOperations6.raise.opLost = false) ∧ (wImageOperations6.imageFault (wImageOperations6.programmed (wImageOperations6.imageOf goodBytes)) wImageOperations6.slotRoom = some (2, 65535)))) :=
  ⟨(by decide +kernel), (by decide +kernel), ⟨(by decide +kernel), (by decide +kernel), (by decide +kernel), (by decide +kernel), (by decide +kernel), goodBytes_passes _ _ rfl (by decide +kernel) (by decide +kernel)⟩, (by decide +kernel)⟩

/-- States and operands that meet the hypotheses of ImageChoices, clause by clause. -/
theorem witness_ImageChoices : 
    (((wImageChoices1.accepts (4) RN.IMG_CTRL 0 = true) ∧ (bits (BitVec.toNat (0 : Word)) 0 7 = 0) ∧ (wImageChoices1.flag R.IMG_RUN_TRIAL = true)) ∧
    ((fl.accepts (4) RN.IMG_CTRL 0 = true) ∧ (bits (BitVec.toNat (0 : Word)) 0 7 = 0) ∧ (fl.flag R.IMG_RUN_TRIAL = false)) ∧
    ((wImageChoices2.accepts (4) RN.IMG_CTRL 0 = true) ∧ (bits (BitVec.toNat (0 : Word)) 0 7 = 0) ∧ (wImageChoices2.flag R.IMG_RUN_TRIAL = false) ∧ (wImageChoices2.fld R.IMG_SVN_MIN_MIN < wImageChoices2.fld R.IMG_RUN_SVN) ∧ (wImageChoices2.fld R.IMG_RUN_SVN < 64)) ∧
    ((wImageChoices3.accepts (4) RN.IMG_CTRL 0 = true) ∧ (bits (BitVec.toNat (0 : Word)) 0 7 = 0) ∧ (wImageChoices3.flag R.IMG_RUN_TRIAL = false) ∧ (wImageChoices3.fld R.IMG_SVN_MIN_MIN < wImageChoices3.fld R.IMG_RUN_SVN) ∧ (wImageChoices3.fld R.IMG_RUN_SVN < 64))) ∧
    (((wImageChoices4.accepts (4) RN.IMG_CTRL 0 = true) ∧ (bits (BitVec.toNat (0 : Word)) 0 7 = 0) ∧ (wImageChoices4.flag R.IMG_RUN_TRIAL = true)) ∧
    ((wImageChoices5.accepts (4) RN.IMG_BOOT 0 = true) ∧ (wImageChoices5.flag R.IMG_SLOTs_STAT_VALID (bit (BitVec.toNat (3 : Word)) 0) = true)) ∧
    ((fl.accepts (4) RN.IMG_BOOT 0 = true) ∧ (fl.flag R.IMG_SLOTs_STAT_VALID (bit (BitVec.toNat (3 : Word)) 0) = false))) :=
  ⟨(by decide +kernel), (by decide +kernel)⟩

/-- States and operands that meet the hypotheses of LiveUpdates, clause by clause. -/
theorem witness_LiveUpdates : 
    (((wLiveUpdates1.accepts (4) RN.IMG_CTRL 0 = true) ∧ (bits (BitVec.toNat (0 : Word)) 0 7 = 0) ∧ (wLiveUpdates1.liveState ≠ liveWaiting) ∧ (wLiveUpdates1.liveState ≠ liveRunning) ∧ (wLiveUpdates1.liveState ≠ liveRollback) ∧ (wLiveUpdates1.flag R.IMG_SLOTs_STAT_VALID (1 - wLiveUpdates1.fld R.IMG_RUN_SLOT) = true) ∧ ((wLiveUpdates1.imageOf goodBytes).fwAbi = wLiveUpdates1.raise.fwAbi) ∧ (wLiveUpdates1.raise.fwSvn ≤ (wLiveUpdates1.imageOf goodBytes).fwSvn) ∧ (wLiveUpdates1.imgBusy = false)) ∧
    ((wLiveUpdates2.accepts (4) RN.IMG_CTRL 0 = true) ∧ (bits (BitVec.toNat (0 : Word)) 0 7 = 0) ∧ (wLiveUpdates2.liveState ≠ liveWaiting) ∧ (wLiveUpdates2.liveState ≠ liveRunning) ∧ (wLiveUpdates2.liveState ≠ liveRollback) ∧ (wLiveUpdates2.flag R.IMG_SLOTs_STAT_VALID (1 - wLiveUpdates2.fld R.IMG_RUN_SLOT) = true) ∧ ((wLiveUpdates2.imageOf goodBytes).fwAbi ≠ wLiveUpdates2.raise.fwAbi)) ∧
    ((wLiveUpdates8.liveState = liveRunning) ∧ (4 = wLiveUpdates8.fld R.IMG_LIVE_STAT_CORE) ∧ (4 ∉ wLiveUpdates8.raise.liveOut) ∧ (wLiveUpdates8.raise.other = some goodImg) ∧ (Memory.wf wLiveUpdates8.mem wLiveUpdates8.blankAt = true) ∧ (goodImg.code.length ≤ 393216))) ∧
    ((wLiveUpdates3.liveState = liveRunning) ∧ (2 = wLiveUpdates3.fld R.IMG_LIVE_STAT_CORE) ∧ (2 ∈ wLiveUpdates3.raise.liveOut) ∧ (∀ j ∈ wLiveUpdates3.liveOrder, j = 2 ∨ j ∈ wLiveUpdates3.raise.updated)) ∧ (wLiveUpdates3.liveCodeGood = true) ∧
    ((wLiveUpdates4.liveState = liveRunning) ∧ (0 = wLiveUpdates4.fld R.IMG_LIVE_STAT_CORE) ∧ (0 ∈ wLiveUpdates4.raise.liveOut) ∧ (1 < 8) ∧ (List.find? (fun c => !(wLiveUpdates4.raise.updated ++ [0]).contains c) wLiveUpdates4.liveOrder = some 1)) ∧ (wLiveUpdates4.liveCodeGood = true) ∧
    (((wLiveUpdates7.liveState = liveRunning) ∧ (wLiveUpdates7.liveCodeGood = false) ∧ (wLiveUpdates7.fld R.IMG_LIVE_STAT_CORE ∈ wLiveUpdates7.raise.liveOut)) ∧
    ((wLiveUpdates9.liveState = liveRollback) ∧ (wLiveUpdates9.raise.updated = [] ++ [3]) ∧ (3 ∈ wLiveUpdates9.raise.liveOut)) ∧
    ((wLiveUpdates5.liveState = liveRunning) ∧ (wLiveUpdates5.fld R.IMG_LIVE_STAT_CORE ∈ wLiveUpdates5.raise.liveOut) ∧ (true = true ∨ 8000 ≤ wLiveUpdates5.sinceFrame wLiveUpdates5.raise.liveSince)) ∧
    ((wLiveUpdates6.liveState = liveRunning) ∧ (wLiveUpdates6.fld R.IMG_LIVE_STAT_CORE ∈ wLiveUpdates6.raise.liveOut) ∧ (false = true ∨ 8000 ≤ wLiveUpdates6.sinceFrame wLiveUpdates6.raise.liveSince))) :=
  ⟨(by decide +kernel), (by decide +kernel), goodCode wLiveUpdates3 rfl rfl, (by decide +kernel), goodCode wLiveUpdates4 rfl rfl, (by decide +kernel)⟩

/-- States and operands that meet the hypotheses of Ownership, clause by clause. -/
theorem witness_Ownership : 
    (((portOfMaster 4 = some 0) ∧ (wOwnership1.accepts (4) RN.MGT_OWN_OP 0 = true) ∧ (9 = (wOwnership1.heldAt 4 131088).getD 0) ∧ (wOwnership1.flag R.TLY_STAT_LOCKED = false) ∧ (wOwnership1.privPort 0 = true) ∧ (wOwnership1.opOwner ≠ 0) ∧ (9 ≠ 0) ∧ (wOwnership1.opOwner = noPort ∨ wOwnership1.handing = true ∧ wOwnership1.fld R.MGT_OWNER_SUCCESSOR = 0)) ∧
    ((portOfMaster 5 = some 1) ∧ (wOwnership2.accepts (5) RN.MGT_OWN_OP 0 = true) ∧ (9 = (wOwnership2.heldAt 5 131088).getD 0) ∧ (wOwnership2.flag R.TLY_STAT_LOCKED = false) ∧ (wOwnership2.privPort 1 = true) ∧ (wOwnership2.opOwner ≠ 1) ∧ (9 ≠ 0) ∧ (wOwnership2.opOwner = noPort ∨ wOwnership2.handing = true ∧ wOwnership2.fld R.MGT_OWNER_SUCCESSOR = 1))) ∧
    (((portOfMaster 5 = some 1) ∧ (wOwnership3.accepts (5) RN.MGT_OWN_OP 0 = true) ∧ (9 = (wOwnership3.heldAt 5 131088).getD 0) ∧ (9 = 0 ∨ wOwnership3.opOwner = 1 ∨ wOwnership3.opOwner ≠ noPort ∧ wOwnership3.handing = false)) ∧
    ((portOfMaster 5 = some 1) ∧ (own7.accepts (5) RN.MGT_OWN_OP 0 = true) ∧ (0 = (own7.heldAt 5 131088).getD 0) ∧ (0 = 0 ∨ own7.opOwner = 1 ∨ own7.opOwner ≠ noPort ∧ own7.handing = false)) ∧
    ((portOfMaster 4 = some 0) ∧ (wOwnership4.accepts (4) RN.MGT_OWN_OP 0 = true) ∧ (9 = (wOwnership4.heldAt 4 131088).getD 0) ∧ (wOwnership4.byOwner 0 9 = true)) ∧
    ((portOfMaster 4 = some 0) ∧ (wOwnership5.accepts (4) RN.MGT_OWN_OP 0 = true) ∧ (9 = (wOwnership5.heldAt 4 131088).getD 0) ∧ (wOwnership5.byOwner 0 9 = true))) ∧
    (((portOfMaster 4 = some 0) ∧ (wOwnership6.accepts (4) RN.MGT_OWN_OP 0 = true) ∧ (9 = (wOwnership6.heldAt 4 131088).getD 0) ∧ (wOwnership6.byOwner 0 9 = true) ∧ (bits (BitVec.toNat (52 : Word)) 4 3 < 4) ∧ (bits (BitVec.toNat (52 : Word)) 4 3 ≠ 0) ∧ (wOwnership6.privPort (bits (BitVec.toNat (52 : Word)) 4 3) = true)) ∧
    ((portOfMaster 4 = some 0) ∧ (wOwnership7.accepts (4) RN.MGT_OWN_OP 0 = true) ∧ (8 = (wOwnership7.heldAt 4 131088).getD 0) ∧ (wOwnership7.byOwner 0 8 = false)) ∧
    ((wOwnership8.ownerPort ≠ noPort) ∧ (frameReached wOwnership8.frame wOwnership8.own.leaseEnd = true) ∧ (wOwnership8.own.claims = []))) ∧
    (((wOwnership9.ownerPort ≠ noPort) ∧ (frameReached wOwnership9.frame wOwnership9.own.leaseEnd = true) ∧ (wOwnership9.own.claims = [(3, 5)]) ∧ ((3, 5).1 < 4)) ∧
    ((wOwnership10.handing = true) ∧ (800 ≤ wOwnership10.sinceFrame wOwnership10.own.handAt)) ∧
    ((up.ownerPort = 0)) ∧
    ((up.ownerPort ≠ 3))) :=
  ⟨(by decide +kernel), (by decide +kernel), (by decide +kernel), (by decide +kernel)⟩

/-- States and operands that meet the hypotheses of Commits, clause by clause. -/
theorem witness_Commits : 
    ((up.accepts (4) RN.DEV_COMMIT 0 = true) ∧ (bit (BitVec.toNat (1 : Word)) 1 = 0)) ∧
    ((wCommits1.accepts (4) RN.DEV_COMMIT 0 = true)) ∧
    ((wCommits2.sampled = some (({} : Tab _).put R.PLB_TIMERS_HOLDOFF.id (({} : Tab _).put 0 18))) ∧ (wCommits2.mayChange = true) ∧ (((({} : Tab _).put R.PLB_TIMERS_HOLDOFF.id (({} : Tab _).put 0 18)).get R.DEV_COMMIT_STAT_STATE.id {}).find 0 = none) ∧ ((({} : Tab _).put R.PLB_TIMERS_HOLDOFF.id (({} : Tab _).put 0 18)).wf = true) ∧ (∀ e ∈ (({} : Tab _).put R.PLB_TIMERS_HOLDOFF.id (({} : Tab _).put 0 18)).entries, e.2.wf = true) ∧ (firstFailing ({ wCommits2 with sampled := none }.failures (({} : Tab _).put R.PLB_TIMERS_HOLDOFF.id (({} : Tab _).put 0 18))) = none)) ∧
    ((wCommits4.staged.wf = true) ∧ (∀ e ∈ wCommits4.staged.entries, e.2.wf = true) ∧ (fieldOf R.PLB_TIMERS_HOLDOFF.id = some R.PLB_TIMERS_HOLDOFF) ∧ ((wCommits4.staged.get R.PLB_TIMERS_HOLDOFF.id {}).find 0 = some 17) ∧ (17 < 2 ^ R.PLB_TIMERS_HOLDOFF.width)) ∧
    ((wCommits3.sampled = some (({} : Tab _).put R.PLB_TIMERS_HOLDOFF.id (({} : Tab _).put 0 19))) ∧ (wCommits3.mayChange = true) ∧ (firstFailing ({ wCommits3 with sampled := none }.failures (({} : Tab _).put R.PLB_TIMERS_HOLDOFF.id (({} : Tab _).put 0 19))) = some (regOffset RN.PLB_TIMERS 0))) :=
  by decide +kernel

/-- A GO that waits for the tick, and the loss of the owner's port at another port than MP2: further clauses of Commits and Ownership. -/
theorem witness_Commits_tick : ((setF [(R.DEV_COMMIT_STAT_STATE, 0, 1)] wCommits1).fld R.DEV_COMMIT_STAT_STATE = 1) ∧ ((0 : Port) ≠ 2)
    ∧ (up.ownerPort = (0 : Port).val) := by decide +kernel

/-- PROGRAM in recovery, of the slot that PREF names: a further clause of ImageOperations. -/
theorem witness_ImageOperations_recovery : (wImageOperations2.accepts 4 RN.IMG_CTRL 0 = true) ∧ (wImageOperations2.imgBusy = false)
    ∧ (wImageOperations2.progRange wImageOperations2.slotRoom = true) ∧ (wImageOperations2.recovery = true) ∧ (wImageOperations2.tally.boot.pref = 0) := by
  decide +kernel

end G

namespace H

def rec1 : EvRec := { frame := 3, cycle := 5, bit := 2, island := 7, inst := 1, data := 9 }
def wEventRecords1 : State := { setF [(R.MGT_PORTp_CFG_RING_EN, 0, 1), (R.MGT_PORTp_CFG_RING_EN, 3, 1), (R.MGT_PORTp_RING_HEAD_HEAD, 3, 4095), (R.MGT_PORTp_RING_TAIL_TAIL, 3, 9)] up with ringQ := [rec1] }
def wEventRecords2 : State := { setF [(R.MGT_PORTp_CFG_RING_EN, 0, 1), (R.MGT_PORTp_CFG_RING_EN, 1, 1), (R.MGT_PORTp_RING_HEAD_HEAD, 0, 4095)] up with ringQ := [rec1] }
def wEventRecords3 : State := { setF [(R.MGT_LOG_BASE_BASE, 0, 0x1020000000), (R.MGT_LOG_IDX_NEXT, 0, 1048575)] up with logQ := [rec1] }
def msx : Pcie := { msixOn := true, table := ((({} : Tab Nat).put 64 16).put 66 77).put 67 0 }
def mskd : Pcie := { msx with table := (({} : Tab Nat).put 7 1) }
def v1 (c : Pcie) : State := { setF [(R.LN_FIT_EVT, 0, 1), (R.LN_FIT_EVT_EN, 0, 1), (R.PLB_EVT, 0, 1), (R.PLB_EVT_EN, 0, 1), (R.DEV_EVT, 0, 1), (R.DEV_EVT_EN, 0, 1)] up with pcie := ({} : Tab Pcie).put 0 c }
def wPciePorts1 : State := v1 msx
def wPciePorts2 : State := v1 { msx with msixMask := true }
def wPciePorts3 : State := v1 msx
def wPciePorts4 : State := v1 msx
def wPciePorts5 : State := State.reset
def ch (l : List (Nat × Nat)) : State := setF (l.map (fun x => (R.DDR_CHn_STAT_STATE, x.1, x.2))) up
def onl : List (Nat × Nat) := (List.range 8).map (fun k => (k, chOnline))
def offl (n : Nat) : List (Nat × Nat) := (List.range 8).map (fun k => (k, if k = n then chOffline else chOnline))
def wDdr51 : State := ch onl
def wDdr52 : State := ch (offl 6)
def wDdr53 : State := ch [(7, chDown)]
def wDdr54 : State := (ch onl).setFld R.DDR_CHn_STAT_TEMP 7 30
def wDdr55 : State := (ch onl).setFld R.DDR_CHn_STAT_TEMP 7 30
def wDdr56 : State := ch (offl 7)
def wDdr57 : State := ch (offl 7)
def wDdr58 : State := { ch (offl 7) with ddr := { up.ddr with fails := ({} : Tab Nat).put 7 1 } }
def wDdr59 : State := ch onl
def wDdr510 : State := setF ([(R.DDR_STAT_USABLE, 0, 8), (R.DDR_STAT_INSTALLED, 0, 8)]) (ch onl)
def wDdr511 : State := setF ([(R.DDR_STAT_USABLE, 0, 8), (R.DDR_STAT_INSTALLED, 0, 8)]) (ch (offl 7))
def wDdr512 : State := setF [(R.DDR_RGNk_BASE_BASE, 0, ddrBase / 2 ^ 20), (R.DDR_RGNk_SIZE_MB, 0, 1024)] wDdr510
def snd1 (fs : List (Fld × Nat × Nat)) (x : Sounding) : State := { setF ((R.SND_CFG_EN, 0, 1) :: fs) up with snd := x }
def wSounding1 : State := snd1 [] {}
def wSounding2 : State := { snd1 [(R.MEM_STAT_SPARE_ROWS, 0, 8)] {} with fuses := { keyed with rows := [8] } }
def wSounding3 : State := { snd1 [] { rowsUsed := ({} : Tab Nat).put 0 8, failed := [3] } with fuses := { keyed with rows := [8] } }
def wSounding4 : State := snd1 [] { aborts := ({} : Tab Nat).put 0 7 }
def wSounding5 : State := { snd1 [] { bank := 31 } with fuses := { keyed with spares := BitVec.ofNat _ (64 * 3) } }
def wSounding6 : State := snd1 [] { under := some 33 }
def wSounding7 : State := snd1 [] { under := some 33 }
def wCounters1 : State := { setF [(R.CNT_CFG_CLR_ON_SNAP, 0, 1), (R.CNT_Bc_COUNT, 5, 6), (R.PEG_HBIN_COUNT, 6, 7), (R.DEV_FRAME_FRAME, 0, 9), (R.PLB_STATUS_STATE, 0, 2)] up with snapAt := some 9 }
def wCounters2 : State := setF [(R.CNT_CLR_FIRST_FIRST, 0, 16000)] up
def wCounters3 : State := setF [(R.CNT_CLR_FIRST_FIRST, 0, 16000)] up
def clr (k f n : Nat) : State := { setF [(R.CNT_Bc_COUNT, 16383, 6), (R.PEG_HBIN_COUNT, 16383, 7), (R.LN_CNT0, 3, 8)] up with clear := some { tick := 0, kind := k, first := f, count := n } }
def wCounters4 : State := clr 1 16000 384
def wCounters5 : State := clr 2 63 1
def wCounters6 : State := clr 0 0 64
def ent : ArchiveEntry := { frame := 1, snaps := 2, words := (({} : Tab Nat).put 3 4).put 65535 5 }
def wCounters7 : State := { setF [(R.DDR_CFG_HIST_16M, 0, 1), (R.CNT_ARCH_IDX_NEXT, 0, 63)] up with archive := [ent] }
def wCounters8 : State := setF [(R.CNT_Bc_COUNT, 16383, 2^48-1), (R.CNT_Bc_CFG_SRC, 16383, 1)] up
def wCounters9 : State := setF [(R.CNT_Bc_COUNT, 5, 2^48-1), (R.CNT_Bc_COUNT, 6, 2^48-2), (R.CNT_Bc_CFG_CHAIN, 5, 1), (R.CNT_Bc_CFG_SRC, 5, 2)] up
def wCounters10 : State := setF [(R.CNT_Bc_COUNT, 5, 2^48-1), (R.CNT_Bc_CFG_SRC, 5, 1)] up
def wCounters14 : State := setF [(R.CNT_Bc_COUNT, 5, 2^48-7), (R.CNT_Bc_CFG_SRC, 5, 0xE)] up
def wCounters11 : State := setF [(R.CNT_Bc_CFG_CHAIN, 4, 1)] up
def wCounters12 : State := setF [(R.CNT_Bc_COUNT, 5, 2^48-1)] up
def wCounters13 : State := setF [(R.CNT_Bc_COUNT, 5, 2^48-1), (R.CNT_Bc_COUNT, 6, 2^48-1), (R.CNT_Bc_CFG_CHAIN, 5, 1), (R.CNT_Bc_CFG_SRC, 5, 0xF)] up
def pg (res : Option PegEnd) (l : List (List Nat)) : State := { up with pegs := { flight := [{ page := 4, src := 7, side := true, out := some 9, phi := 3, res := res }], queue := l } }
def pe : PegEnd := { out := some 9, outcome := 0, selected := true, single := false, side := true, centre := 6, inPort := 0, prev := false, d := 3, pos := none, lat := 5, bent := none, group := none, crossed := true }
def pgp : Peg := { page := 4, src := 7, side := true, out := some 9, phi := 3, res := some pe }
def wPegsComplete1 : State := setF [(R.PEG_CFG_RATE, 0, 64), (R.PLB_STATUS_STATE, 0, 2)] up
def wPegsComplete2 : State := pg (some pe) []
def wPegsComplete3 : State := pg (some pe) (List.replicate 1024 [])
def wPegsComplete4 : State := pg none [[1], [2]]
def wPegsComplete5 : State := (pg none [[1], [2]]).setFld R.PEG_CFG_DMA_EN 0 1
def wPegsComplete6 : State := setF [(R.PEG_CFG_DMA_EN, 0, 1), (R.PEG_DMA_IDX_TAIL, 0, 3), (R.PEG_DMA_BASE_BASE, 0, ddrBase), (R.DDR_STAT_USABLE, 0, 8)] (pg none [List.replicate 16 5, [2]])

/-- States and operands that meet the hypotheses of EventRecords, clause by clause. -/
theorem witness_EventRecords : 
    ((Memory.wf wEventRecords1.mem wEventRecords1.blankAt = true) ∧ (nextRec wEventRecords1.ringQ = some rec1) ∧ (∀ p < 4, wEventRecords1.fld R.MGT_PORTp_RING_HEAD_HEAD p < 4096)) ∧
    ((Memory.wf wEventRecords2.mem wEventRecords2.blankAt = true) ∧ (nextRec wEventRecords2.ringQ = some rec1) ∧ (∀ p < 4, wEventRecords2.fld R.MGT_PORTp_RING_HEAD_HEAD p < 4096)) ∧
    ((Memory.wf wEventRecords3.mem wEventRecords3.blankAt = true) ∧ (wEventRecords3.logQ = [rec1]) ∧ (wEventRecords3.fld R.MGT_LOG_BASE_BASE ≠ 0)) :=
  by decide +kernel

/-- States and operands that meet the hypotheses of PciePorts, clause by clause. -/
theorem witness_PciePorts : 
    (((wPciePorts1.pcie.get 0 ({} : Pcie) = wPciePorts1.pcie.get 0 ({} : Pcie)) ∧ (wPciePorts1.vectorHolds 0 16 = true) ∧ ((wPciePorts1.pcie.get 0 ({} : Pcie)).seen.testBit 16 = false) ∧ (wPciePorts1.served = true) ∧ ((wPciePorts1.pcie.get 0 ({} : Pcie)).msixOn = true) ∧ ((wPciePorts1.pcie.get 0 ({} : Pcie)).masked 16 = false)) ∧
    ((wPciePorts2.pcie.get 0 ({} : Pcie) = wPciePorts2.pcie.get 0 ({} : Pcie)) ∧ (wPciePorts2.vectorHolds 0 16 = true) ∧ ((wPciePorts2.pcie.get 0 ({} : Pcie)).seen.testBit 16 = false) ∧ (wPciePorts2.served = true) ∧ ((wPciePorts2.pcie.get 0 ({} : Pcie)).msixOn = true) ∧ ((wPciePorts2.pcie.get 0 ({} : Pcie)).masked 16 = true)) ∧
    ((wPciePorts3.pcie.get 0 ({} : Pcie) = wPciePorts3.pcie.get 0 ({} : Pcie)) ∧ (wPciePorts3.vectorHolds 0 63 = false))) ∧
    (((wPciePorts4.pcie.get 0 ({} : Pcie) = wPciePorts4.pcie.get 0 ({} : Pcie)) ∧ (0 = 0) ∧ (wPciePorts4.accepts (4) RN.MGT_PORTp_EOI 0 = true) ∧ (wPciePorts4.served = true) ∧ (bits (BitVec.toNat (16 : Word)) 0 6 = 16) ∧ (wPciePorts4.vectorHolds 0 16 = true) ∧ ((wPciePorts4.pcie.get 0 ({} : Pcie)).msixOn = true) ∧ ((wPciePorts4.pcie.get 0 ({} : Pcie)).masked 16 = false)) ∧
    ((wPciePorts5.pcie.get 0 ({} : Pcie) = wPciePorts5.pcie.get 0 ({} : Pcie)) ∧ (wPciePorts5.served = false) ∧ (wPciePorts5.recovery = false)) ∧
    ((up.pcie.get 0 ({} : Pcie) = up.pcie.get 0 ({} : Pcie)) ∧ (up.served = true)) ∧
    ((up.pcie.get 0 ({} : Pcie) = up.pcie.get 1 ({} : Pcie)))) :=
  ⟨(by decide +kernel), (by decide +kernel)⟩

/-- States and operands that meet the hypotheses of Ddr5, clause by clause. -/
theorem witness_Ddr5 : 
    (((wDdr51.accepts (4) RN.DDR_CHn_CTRL 7 = true) ∧ (wDdr51.chState 7 = chOnline) ∧ (wDdr51.chMissing = false)) ∧
    ((wDdr52.accepts (4) RN.DDR_CHn_CTRL 7 = true) ∧ (wDdr52.chState 7 = chOnline) ∧ (wDdr52.chMissing = true)) ∧
    ((wDdr53.accepts (4) RN.DDR_CHn_CTRL 7 = true) ∧ (wDdr53.chState 7 = chDown)) ∧
    ((wDdr54.chState 7 = chOnline) ∧ (wDdr54.chMissing = false) ∧ (wDdr54.fld R.DDR_CHn_STAT_TEMP 7 + 20 ≤ BitVec.toNat (10 : BitVec 8) ∨ BitVec.toNat (10 : BitVec 8) + 20 ≤ wDdr54.fld R.DDR_CHn_STAT_TEMP 7)) ∧
    ((wDdr55.chState 7 = chOnline) ∧ (wDdr55.chMissing = false) ∧ (wDdr55.fld R.DDR_CHn_STAT_TEMP 7 + 20 ≤ BitVec.toNat (50 : BitVec 8) ∨ BitVec.toNat (50 : BitVec 8) + 20 ≤ wDdr55.fld R.DDR_CHn_STAT_TEMP 7))) ∧
    (((wDdr56.chState 7 = chOffline) ∧ (∀ k < 8, k ≠ 7 → wDdr56.chState k ≠ chOffline) ∧ (wDdr56.ddr.waiting = [])) ∧
    ((wDdr57.chState 7 = chOffline) ∧ (∀ k < 8, k ≠ 7 → wDdr57.chState k ≠ chOffline) ∧ (wDdr57.ddr.fails.get 7 0 = 0)) ∧
    ((wDdr58.chState 7 = chOffline) ∧ (∀ k < 8, k ≠ 7 → wDdr58.chState k ≠ chOffline) ∧ (1 ≤ wDdr58.ddr.fails.get 7 0)) ∧
    ((wDdr59.chState 7 = chOnline)) ∧
    ((ddrBase = ddrBase + (BitVec.toNat (0 : BitVec 38) - BitVec.toNat (0 : BitVec 38) % 4)) ∧ (wDdr510.judge (0) ddrBase false false = Verdict.ok) ∧ (wDdr510.unitLost (ddrUnit 0) .rebuilt = false) ∧ (wDdr510.chGone (unitChannel (ddrUnit 0)) = false)) ∧
    ((wDdr511.judge (0) ddrBase false false = Verdict.ok) ∧ (wDdr511.unitLost (ddrUnit 0) .rebuilt = true)) ∧
    ((wDdr512.unitLost (ddrUnit 0) .lost = true) ∧ (wDdr512.regionOf ddrBase = some 0) ∧ (0 < wDdr512.ddrUsable))) :=
  ⟨(by decide +kernel), (by decide +kernel)⟩

/-- States and operands that meet the hypotheses of Sounding, clause by clause. -/
theorem witness_Sounding : 
    (((wSounding1.regionInHand = some 0) ∧ (wSounding1.sounds = true)) ∧
    ((wSounding2.regionInHand = some 0) ∧ (wSounding2.sounds = true) ∧ (wSounding2.freeRows (bankOfRegion 0) = 7 + 1)) ∧
    ((wSounding3.regionInHand = some 0) ∧ (wSounding3.sounds = true) ∧ (wSounding3.freeRows (bankOfRegion 0) = 0)) ∧
    ((wSounding4.regionInHand = some 0) ∧ (wSounding4.sounds = true)) ∧
    ((wSounding5.bankInHand = some 31) ∧ (wSounding5.sounds = true) ∧ (wSounding5.snd.under = none))) ∧
    (((wSounding6.snd.under = some 33)) ∧
    ((wSounding7.snd.under = some 33))) :=
  ⟨(by decide +kernel), (by decide +kernel)⟩

/-- States and operands that meet the hypotheses of Counters, clause by clause. -/
theorem witness_Counters : 
    (((up.accepts (4) RN.CNT_SNAP 0 = true))) ∧
    ((wCounters1.snapDue = true) ∧ (∀ (c : Nat), wCounters1.bankTakes 13 0 c = false)) ∧
    (((wCounters2.accepts (4) RN.CNT_CLR_CTRL 0 = true) ∧ (wCounters2.clear = none) ∧ (clearable (bits (BitVec.ofNat 32 (384 + 2 ^ 19 + 2 ^ 21)).toNat 19 2) (wCounters2.fld R.CNT_CLR_FIRST_FIRST) (bits (BitVec.ofNat 32 (384 + 2 ^ 19 + 2 ^ 21)).toNat 0 19) = true)) ∧
    ((wCounters3.accepts (4) RN.CNT_CLR_CTRL 0 = true) ∧ (wCounters3.clear ≠ none ∨ clearable (bits (BitVec.ofNat 32 (385 + 2 ^ 19 + 2 ^ 21)).toNat 19 2) (wCounters3.fld R.CNT_CLR_FIRST_FIRST) (bits (BitVec.ofNat 32 (385 + 2 ^ 19 + 2 ^ 21)).toNat 0 19) = false)) ∧
    ((wCounters4.clear = some ({ tick := 0, kind := 1, first := 16000, count := 384 } : ClearReq)) ∧ (frameReached wCounters4.frame ({ tick := 0, kind := 1, first := 16000, count := 384 } : ClearReq).tick = true)) ∧
    ((wCounters5.clear = some ({ tick := 0, kind := 2, first := 63, count := 1 } : ClearReq)) ∧ (frameReached wCounters5.frame ({ tick := 0, kind := 2, first := 63, count := 1 } : ClearReq).tick = true)) ∧
    ((wCounters6.clear = some ({ tick := 0, kind := 0, first := 0, count := 64 } : ClearReq)) ∧ (frameReached wCounters6.frame ({ tick := 0, kind := 0, first := 0, count := 64 } : ClearReq).tick = true)) ∧
    ((wCounters7.archive = [ent]) ∧ (wCounters7.archiveSize ≠ 0) ∧ (Memory.wf wCounters7.mem wCounters7.blankAt = true) ∧ (ent.words.wf = true) ∧ (∀ x ∈ ent.words.entries, x.1 < 65536) ∧ (wCounters7.regionBase 6 + 262144 * 63 = wCounters7.regionBase 6 + 262144 * wCounters7.fld R.CNT_ARCH_IDX_NEXT))) ∧
    (((wCounters8.countsEvents 16383 = true) ∧ (wCounters8.fld R.CNT_Bc_COUNT 16383 = 2 ^ 48 - 1) ∧ (wCounters8.flag R.CNT_Bc_CFG_CHAIN 16383 = false)) ∧
    ((wCounters9.countsEvents 5 = true) ∧ (wCounters9.fld R.CNT_Bc_COUNT 5 = 2 ^ 48 - 1) ∧ (wCounters9.flag R.CNT_Bc_CFG_CHAIN 5 = true) ∧ (wCounters9.fld R.CNT_Bc_COUNT (5 + 1) < 2 ^ 48 - 1)) ∧
    ((wCounters10.accepts (4) RN.CNT_Bc_LO 5 = true) ∧ (wCounters10.accepts (4) RN.CNT_Bc_HI 5 = true) ∧ (wCounters10.fld R.CNT_Bc_CFG_SRC 5 ≠ 0xD) ∧ (wCounters10.fld R.CNT_Bc_CFG_SRC 5 ≠ 0xE) ∧ (wCounters10.chainedBelow 5 = false)) ∧
    ((wCounters11.accepts (4) RN.CNT_Bc_LO 5 = true) ∧ (wCounters11.accepts (4) RN.CNT_Bc_HI 5 = true) ∧ (wCounters11.fld R.CNT_Bc_CFG_SRC 5 = 0xD ∨ wCounters11.chainedBelow 5 = true)) ∧
    ((wCounters12.accepts (4) RN.CNT_Bc_HI 5 = true) ∧ (wCounters12.heldAt (4) (100663300 + 16 * 5) = none) ∧ (wCounters12.fld R.CNT_Bc_CFG_SRC 5 ≠ 0xE ∨ wCounters12.chainedBelow 5 = true))) ∧
    (((wCounters13.countsEvents 5 = true) ∧ (wCounters13.fld R.CNT_Bc_COUNT 5 = 2 ^ 48 - 1) ∧ (wCounters13.flag R.CNT_Bc_CFG_CHAIN 5 = true) ∧ (wCounters13.fld R.CNT_Bc_COUNT (5 + 1) = 2 ^ 48 - 1)) ∧
    ((up.fld R.CNT_Bc_CFG_SRC 5 = 0) ∧ (wCounters11.chainedBelow 5 = true)) ∧
    ((wCounters14.fld R.CNT_Bc_CFG_SRC 5 = 0xE) ∧ (wCounters14.chainedBelow 5 = false) ∧ (7 = wCounters14.plumb.cycFrom.get 5 0 + (2 ^ 48 - wCounters14.fld R.CNT_Bc_COUNT 5)) ∧ (wCounters14.cycle ≤ 7) ∧ (7 ≤ frameCycles) ∧ (wCounters14.flag R.CNT_Bc_CFG_CHAIN 5 = false)) ∧
    ((7 < ({ wCounters14 with cycle := 8 } : State).cycle)) ∧ ((wCounters14.accepts 4 RN.CNT_Bc_LO 5 = true) ∧ (wCounters14.accepts 4 RN.CNT_Bc_HI 5 = true))) :=
  ⟨(by decide +kernel), ⟨(by decide +kernel), (by intro c; have e : wCounters1.regs.find R.CNT_Bc_CFG_SRC.id = none := (by decide +kernel); unfold State.bankTakes State.fld Tab.get; rw [e]; rfl)⟩, (by decide +kernel), (by decide +kernel), (by decide +kernel)⟩

/-- A counter of ticks that wraps as it counts, alone and as the lower half of a chain: further clauses of Counters. -/
theorem witness_Counters_ticks : (wCounters12.flag R.CNT_Bc_CFG_CHAIN 5 = false ∧ 2 ^ 48 ≤ wCounters12.fld R.CNT_Bc_COUNT 5 + 1)
    ∧ (wCounters9.flag R.CNT_Bc_CFG_CHAIN 5 = true
      ∧ wCounters9.fld R.CNT_Bc_COUNT (5 + 1) + (wCounters9.fld R.CNT_Bc_COUNT 5 + 1) / 2 ^ 48 < 2 ^ 48) := by decide +kernel

/-- States and operands that meet the hypotheses of PegsComplete, clause by clause. -/
theorem witness_PegsComplete : 
    ((wPegsComplete1.pegs.drew ≠ some wPegsComplete1.frame) ∧ (wPegsComplete1.ticking = true)) ∧
    ((List.find? (fun p => p.page == BitVec.toNat (4 : Word) && p.src == 7) wPegsComplete2.pegs.flight = some pgp) ∧ (pgp.res = some pe) ∧ (wPegsComplete2.pegs.queue.length < 1024)) ∧
    ((List.find? (fun p => p.page == BitVec.toNat (4 : Word) && p.src == 7) wPegsComplete3.pegs.flight = some pgp) ∧ (pgp.res = some pe) ∧ (1024 ≤ wPegsComplete3.pegs.queue.length)) ∧
    ((wPegsComplete4.accepts (4) RN.PEG_CTRL 0 = true) ∧ (wPegsComplete4.flag R.PEG_CFG_DMA_EN = false)) ∧
    ((wPegsComplete5.accepts (4) RN.PEG_CTRL 0 = true) ∧ (wPegsComplete5.flag R.PEG_CFG_DMA_EN = true)) ∧
    ((wPegsComplete6.pegs.queue = [List.replicate 16 5, [2]]) ∧ (wPegsComplete6.flag R.PEG_CFG_DMA_EN = true) ∧ ((wPegsComplete6.fld R.PEG_DMA_IDX_HEAD + 1) % 4096 ≠ wPegsComplete6.fld R.PEG_DMA_IDX_TAIL) ∧ (Memory.wf wPegsComplete6.mem wPegsComplete6.blankAt = true) ∧ (ddrBase = wPegsComplete6.fld R.PEG_DMA_BASE_BASE + 64 * wPegsComplete6.fld R.PEG_DMA_IDX_HEAD) ∧ (wPegsComplete6.reaches 10 true ddrBase (place ddrBase) = true)) :=
  by decide +kernel

/-- A channel with more corrected bursts in the second than the limit. -/
def wDdr513 : State := { (ch onl).setFld R.DDR_CFG_RETRAIN_CORR 0 1 with ddr := { up.ddr with second := ({} : Tab Nat).put 7 1025 } }

/-- Corrected bursts in and out of the limit, and a burst read whose unit is rebuilt or lost: further clauses of Ddr5. -/
theorem witness_Ddr5_bursts : (wDdr513.chState 7 = chOnline ∧ wDdr513.chMissing = false ∧ wDdr513.tooMany 7 = true) ∧ (wDdr59.tooMany 7 = false)
    ∧ (wDdr510.judge 0 (BitVec.ofNat 40 ddrBase).toNat false false = Verdict.ok ∧ (place (BitVec.ofNat 40 ddrBase).toNat).storage = true
      ∧ ddrUnit 512 ∈ wDdr510.placeUnits (16 * (255 + 1)) (place (BitVec.ofNat 40 ddrBase).toNat)
      ∧ wDdr510.unitLost (ddrUnit 512) .rebuilt = false ∧ wDdr510.unitLost (ddrUnit 512) .lost = true) := by decide +kernel

/-- Counter 5 of ticks, and counter 4 of ticks that carries into counter 5, with the tick of frame 9 still to be counted. -/
def tickUp (fs : List (Fld × Nat × Nat)) : State :=
  { setF ([(R.CNT_CFG_CLR_ON_SNAP, 0, 1), (R.CNT_Bc_COUNT, 5, 6), (R.DEV_FRAME_FRAME, 0, 9), (R.PLB_STATUS_STATE, 0, 2)] ++ fs) up with
    snapAt := some 9, plumb := { up.plumb with tickDue := some [] } }

def wCounters15 : State := tickUp [(R.CNT_Bc_CFG_SRC, 5, 0xD)]

def wCounters16 : State := { tickUp [(R.CNT_Bc_CFG_SRC, 5, 0xD), (R.CNT_Bc_CFG_SRC, 4, 0xD), (R.CNT_Bc_CFG_CHAIN, 4, 1), (R.CNT_Bc_COUNT, 4, 2 ^ 48 - 1)] with
  snapAt := none, clear := some { tick := 9, kind := 1, first := 5, count := 1 } }

def wCounters17 : State := { wCounters15 with snapAt := none, clear := some { tick := 9, kind := 1, first := 5, count := 1 } }

/-- The tick of the present frame is counted after a snapshot and a clear of it: further clauses of Counters. -/
theorem witness_Counters_due :
    (wCounters15.snapDue = true ∧ wCounters15.flag R.CNT_CFG_CLR_ON_SNAP = true ∧ wCounters15.plumb.tickDue = some [] ∧ wCounters15.sampled = none
      ∧ wCounters15.clear = none ∧ (wCounters15.regs.get R.CNT_Bc_CFG_SRC.id {}).wf = true ∧ wCounters15.bankTakes 0xD 0 5 = true)
    ∧ (wCounters17.clear = some { tick := 9, kind := 1, first := 5, count := 1 } ∧ frameReached wCounters17.frame 9 = true ∧ wCounters17.sampled = none
      ∧ (wCounters17.regs.get R.CNT_Bc_CFG_SRC.id {}).wf = true ∧ wCounters17.chainedBelow 5 = false ∧ (wCounters17.plumb.tickDue.getD []).contains 5 = false)
    ∧ (wCounters16.clear = some { tick := 9, kind := 1, first := 4 + 1, count := 1 } ∧ frameReached wCounters16.frame 9 = true ∧ wCounters16.sampled = none
      ∧ (wCounters16.regs.get R.CNT_Bc_CFG_SRC.id {}).wf = true ∧ wCounters16.flag R.CNT_Bc_CFG_CHAIN 4 = true ∧ wCounters16.bankTakes 0xD 0 4 = true
      ∧ wCounters16.fld R.CNT_Bc_COUNT 4 = 2 ^ 48 - 1 ∧ wCounters16.plumb.tickDue = some [] ∧ wCounters16.snapDue = false) := by decide +kernel

/-- A counter of core cycles in a running frame. -/
def wCounters18 (n : Nat) : State := { wCounters14.setFld R.PLB_STATUS_STATE 0 2 with cycle := n }

/-- Its wrap ahead, past, and beyond the frame's end, and before any frame: the last clauses of Counters. -/
theorem witness_Counters_cycles :
    (wCounters14.fld R.CNT_Bc_COUNT 5 < 2 ^ 48 ∧ wCounters14.cycleNow ≤ 7 ∧ wCounters14.ticking = false)
    ∧ ((wCounters18 7).ticking = true ∧ (wCounters18 7).cycleNow ≤ 7) ∧ (7 < (wCounters18 8).cycleNow)
    ∧ (frameCycles < 2 ^ 48 - ((wCounters18 0).setFld R.CNT_Bc_COUNT 5 0).fld R.CNT_Bc_COUNT 5)
    ∧ (wCounters12.bankTakes 0xE 0 5 = false ∧ wCounters12.chainedBelow 5 = false) := by decide +kernel

end H

namespace I

def spLn (x : Nat) (fs : List (Fld × Nat × Nat)) : State := setF ([(R.LN_FIT_STATUS_STATE, spareOf x, 6), (R.LN_SPARE_STAT_COVER, spareOf x, 65535), (R.LN_FIT_EVT, x, 16)] ++ fs) up
def wSparesTakeOver1 : State := spLn 255 [(R.TLY_SIST_CFG_AUTO, 0, 1)]
def wSparesTakeOver2 : State := spLn 255 []
def wSparesTakeOver3 : State := setF [(R.LN_FIT_EVT, 0, 16)] up
def si (fs : List (Fld × Nat × Nat)) (x : Sist) : State := { setF fs up with sist := x }
def wSparesTakeOver4 : State := si [(R.FAB_LAM_STAT_SHADOW_FRAMES, 0, 8)] { lamRun := some 7 }
def wSparesTakeOver5 : State := si [(R.TLY_SPARES_FEC, 0, 4)] { fec := ({} : Tab FecSub).put 279 (.compares 128) }
def wSparesTakeOver6 : State := si [(R.TLY_SPARES_FEC, 0, 2)] { fec := ({} : Tab FecSub).put 279 (.compares 128) }
def wSparesTakeOver7 : State := si [(R.TLY_SIST_CFG_AUTO, 0, 8), (R.TLY_SPARES_JOINER, 0, 1)] {}
def wSparesTakeOver8 : State := si [(R.TLY_SPARES_JOINER, 0, 1)] { joiner := some (2, 0) }
def wSparesTakeOver9 : State := si [(R.SCB_STAT_SPARES, 0, 4)] {}
def wSparesTakeOver10 : State := si [(R.SCB_STAT_SPARES, 0, 0)] {}
def trec : TallyRec := { kind := 3, cls := 1, inst := 2, frame := 4, data := [7] }
def tl (sec lost : Nat) (nx : Nat) : State := { up with tallyQ := [trec], tallySecond := sec, tallyLost := lost, tally := { up.tally with next := nx } }
def wTallyRecords1 : State := tl 15 3 12031
def wTallyRecords2 : State := tl 0 0 5
def wTallyRecords3 : State := tl 0 3 12031
def wTallyRecords4 : State := tl 16 3 12031
def wTallyRecords5 : State := { setF [(R.TLY_SIST_CFG_RO_MAX, 0, 10), (R.DEV_FRAME_FRAME, 0, 28800005), (R.PLB_STATUS_STATE, 0, plbLocked)] up with tally := { up.tally with block := 15 }, sist := { ageFrom := 5 } }
def wLifeCycle1 : State := setF [(R.TLY_LC_STAT_PENDING, 0, 1)] up
def wLifeCycle2 : State := setF [(R.TLY_LC_STAT_PENDING, 0, 1)] up
/-- An authorisation record signed with `pubKey`, and the second half of its signature. -/
def aut (op tgt key sig : Nat) : List (BitVec 8) := leBytes 4 0x41434C51 ++ leBytes 1 op ++ leBytes 1 tgt ++ leBytes 1 key ++ zs 161
  ++ beBytes 96 pubKey ++ beBytes 48 sigR ++ beBytes 48 sig
def wLifeCycle3 : State := ({ setF [(R.TLY_LC_STAT_PENDING, 0, 1)] up with fuses := keyed }).writeBytes 0x10280000
  (aut 1 1 0 0x5b2e89c32c012e8162b93ba60a80f8a0423540910a837dd37f567c3bca3aebd605c16d10d58e04be811b7fbf13107fc6)
def wLifeCycle4 : State := ({ setF [(R.TLY_LC_STAT_PENDING, 0, 1)] up with
  fuses := { programmed := 15, life := 2, hashes := List.replicate 4 (BitVec.ofNat 384 keyHash) } }).writeBytes 0x10280000
  (aut 2 3 2 0xa7f7b3221a843d934e500078815f9de4ea81117d98b8bfe0a06ea840158575443320902538e3559c28395c9b386f89f6)
def gd (g : Guarding) : State := { setF [(R.TLY_LC_STAT_PENDING, 0, 1), (R.DEV_FRAME_FRAME, 0, 6)] (up.writeBytes 0x10380000 [7]) with guarding := g }
def wLifeCycle5 : State := gd { done := some (1, 3, 1, 6), doneAt := 5 }
def wLifeCycle6 : State := gd { done := some (2, 3, 1, 6), doneAt := 5 }
def wLifeCycle7 : State := gd { done := some (1, 4, 1, 6), doneAt := 5 }
def tmp (pol : Nat) (g : Guarding) : State := { setF [(R.TLY_TAMP_CFG_POLICY, 0, pol), (R.TLY_TAMP_CFG_IN_EN, 0, 8)] (up.writeBytes 0x10380000 [7]) with guarding := g }
def wTamper1 : State := tmp 0 {}
def wTamper2 : State := tmp 1 {}
def wTamper3 : State := tmp 2 {}
def wTamper4 : State := tmp 2 { running := true, asserted := 8, seen := 8, mask := 8 }
def wTamper5 : State := tmp 2 { running := true, asserted := 8, seen := 8, mask := 8 }
def wTamper6 : State := tmp 2 {}
def wTamper7 : State := { setF [(R.TLY_REKEY_SCENES, 0, 1), (R.IMG_FLASH_DENSITY, 0, 29)] up with fuses := keyed }
def wTamper8 : State := setF [(R.TLY_STAT_REKEY, 0, 1), (R.TLY_REKEY_LONGPATH, 0, 1)] up

/-- States and operands that meet the hypotheses of SparesTakeOver, clause by clause. -/
theorem witness_SparesTakeOver : 
    (((wSparesTakeOver1.laneTriggers (255) LaneTrigger.frozen = true) ∧ (255 ∉ wSparesTakeOver1.sist.lanePend) ∧ (255 ∉ wSparesTakeOver1.sist.laneRun) ∧ (wSparesTakeOver1.flag R.LN_FIT_STATUS_SUB 255 = false) ∧ (wSparesTakeOver1.spareFound 255 = true ∨ wSparesTakeOver1.lanesBusy = true) ∧ (wSparesTakeOver1.autoSubst 0 = true)) ∧
    ((wSparesTakeOver2.laneTriggers (255) LaneTrigger.frozen = true) ∧ (255 ∉ wSparesTakeOver2.sist.lanePend) ∧ (255 ∉ wSparesTakeOver2.sist.laneRun) ∧ (wSparesTakeOver2.flag R.LN_FIT_STATUS_SUB 255 = false) ∧ (wSparesTakeOver2.spareFound 255 = true ∨ wSparesTakeOver2.lanesBusy = true) ∧ (wSparesTakeOver2.autoSubst 0 = false)) ∧
    ((wSparesTakeOver3.laneTriggers (0) LaneTrigger.frozen = true) ∧ (0 ∉ wSparesTakeOver3.sist.lanePend) ∧ (0 ∉ wSparesTakeOver3.sist.laneRun) ∧ (wSparesTakeOver3.flag R.LN_FIT_STATUS_SUB 0 = false) ∧ (wSparesTakeOver3.spareFound 0 = false) ∧ (wSparesTakeOver3.lanesBusy = false))) ∧
    (((wSparesTakeOver4.sist.lamRun = some 7) ∧ (8 ≤ wSparesTakeOver4.fld R.FAB_LAM_STAT_SHADOW_FRAMES)) ∧
    ((wSparesTakeOver5.sist.fec.find 279 = some (FecSub.compares 128)) ∧ (128 ≤ 128) ∧ (wSparesTakeOver5.sist.fecWait = [])) ∧
    ((wSparesTakeOver6.sist.fec.find 279 = some (FecSub.compares 128)) ∧ (128 ≤ 128) ∧ (2 ≤ wSparesTakeOver6.fld R.TLY_SPARES_FEC)) ∧
    ((wSparesTakeOver7.liveTarget ≠ some 0) ∧ (wSparesTakeOver7.coreOut 0 = false) ∧ (wSparesTakeOver7.joinerBusy = false) ∧ (wSparesTakeOver7.spareCore = some 4) ∧ (4 ≠ 0) ∧ (wSparesTakeOver7.autoSubst 3 = true)) ∧
    ((up.liveTarget ≠ some 3) ∧ (up.coreOut 3 = false) ∧ (up.joinerBusy = false) ∧ (up.spareCore = none))) ∧
    (((wSparesTakeOver8.sist.joiner = some (2, 0)) ∧ (wSparesTakeOver8.spareCore = some 4) ∧ (frameReached wSparesTakeOver8.frame 0 = true) ∧ (wSparesTakeOver8.sist.joinerWait = [])) ∧
    ((wSparesTakeOver9.fld R.SCB_STAT_SPARES = 3 + 1) ∧ (3 < 8)) ∧
    ((wSparesTakeOver10.fld R.SCB_STAT_SPARES = 0))) :=
  ⟨(by decide +kernel), (by decide +kernel), (by decide +kernel)⟩

/-- States and operands that meet the hypotheses of TallyRecords, clause by clause. -/
theorem witness_TallyRecords : 
    ((wTallyRecords1.tallyQ = [trec]) ∧ (wTallyRecords1.tallySecond < 16) ∧ (wTallyRecords1.tallySecond ≠ 0 ∨ wTallyRecords1.tallyLost = 0)) ∧
    ((wTallyRecords2.tallyQ = [trec]) ∧ (wTallyRecords2.tallySecond < 16) ∧ (wTallyRecords2.tallySecond ≠ 0 ∨ wTallyRecords2.tallyLost = 0)) ∧
    ((wTallyRecords3.tallyQ = [trec]) ∧ (wTallyRecords3.tallySecond = 0) ∧ (wTallyRecords3.tallyLost ≠ 0)) ∧
    ((wTallyRecords4.tallyQ = [trec]) ∧ (16 ≤ wTallyRecords4.tallySecond)) ∧
    ((wTallyRecords5.ticking = true) ∧ (28800000 ≤ wTallyRecords5.sinceFrame wTallyRecords5.sist.ageFrom)) :=
  by decide +kernel

/-- States and operands that meet the hypotheses of LifeCycle, clause by clause. -/
theorem witness_LifeCycle : 
    (((up.accepts (4) RN.TLY_LC_CTRL 0 = true) ∧ (up.flag R.TLY_LC_STAT_PENDING = false)) ∧
    ((wLifeCycle1.accepts (4) RN.TLY_LC_CTRL 0 = true) ∧ (wLifeCycle1.flag R.TLY_LC_STAT_PENDING = true)) ∧
    ((wLifeCycle2.flag R.TLY_LC_STAT_PENDING = true) ∧ (wLifeCycle2.guarding.done = none) ∧ (wLifeCycle2.lcFault wLifeCycle2.lcRecord = some 2)) ∧
    ((wLifeCycle3.flag R.TLY_LC_STAT_PENDING = true) ∧ (wLifeCycle3.guarding.done = none) ∧ (wLifeCycle3.lcFault wLifeCycle3.lcRecord = none)) ∧
    ((wLifeCycle4.flag R.TLY_LC_STAT_PENDING = true) ∧ (wLifeCycle4.guarding.done = none) ∧ (wLifeCycle4.lcFault wLifeCycle4.lcRecord = none)) ∧
    ((wLifeCycle5.guarding.done = some (1, 3, 1, 6)) ∧ (frameLater wLifeCycle5.frame wLifeCycle5.guarding.doneAt = true) ∧ (3 ≠ 4))) ∧
    (((wLifeCycle6.guarding.done = some (2, 3, 1, 6)) ∧ (frameLater wLifeCycle6.frame wLifeCycle6.guarding.doneAt = true)) ∧
    ((wLifeCycle7.guarding.done = some (1, 4, 1, 6)) ∧ (frameLater wLifeCycle7.frame wLifeCycle7.guarding.doneAt = true))) :=
  ⟨(by decide +kernel), (by decide +kernel)⟩

/-- States and operands that meet the hypotheses of Tamper, clause by clause. -/
theorem witness_Tamper : 
    (((72 = (wTamper1.activeSources (BitVec.toNat (79 : BitVec 7))).land (127 - wTamper1.guarding.seen)) ∧ (72 ≠ 0) ∧ (wTamper1.guarding.running = false)) ∧
    ((8 = (wTamper2.activeSources (BitVec.toNat (8 : BitVec 7))).land (127 - wTamper2.guarding.seen)) ∧ (8 ≠ 0) ∧ (wTamper2.guarding.running = false)) ∧
    ((16 = (wTamper3.activeSources (BitVec.toNat (16 : BitVec 7))).land (127 - wTamper3.guarding.seen)) ∧ (16 ≠ 0) ∧ (wTamper3.guarding.running = false)) ∧
    ((16 = (wTamper4.activeSources (BitVec.toNat (24 : BitVec 7))).land (127 - wTamper4.guarding.seen)) ∧ (16 ≠ 0) ∧ (wTamper4.guarding.running = true)) ∧
    (((wTamper5.activeSources (BitVec.toNat (15 : BitVec 7))).land (127 - wTamper5.guarding.seen) = 0)) ∧
    ((wTamper7.flag R.TLY_REKEY_SCENES = true))) ∧ (wTamper7.imageFault (wTamper7.imageOf goodBytes) wTamper7.slotRoom = none) ∧
    (((up.imageFault (up.imageOf goodBytes) up.slotRoom = some (4, 65535))) ∧
    ((wTamper8.flag R.TLY_STAT_REKEY = true) ∧ (wTamper8.flag R.TLY_REKEY_MAP = false) ∧ (wTamper8.flag R.TLY_REKEY_SCENES = false) ∧ (wTamper8.stripesGone = true))) :=
  ⟨(by decide +kernel), goodBytes_passes _ _ rfl (by decide +kernel) (by decide +kernel), (by decide +kernel)⟩

/-- A good record while a response runs. -/
def wLifeCycle8 : State := wLifeCycle3.updGuard (fun g => { g with running := true })

/-- A response that runs while a record waits to be verified, or has been verified. -/
def wTamper9 : State := (tmp 2 { running := true, asserted := 8, seen := 8, mask := 8 }).setFld R.TLY_LC_STAT_PENDING 0 1

def wTamper10 : State := wTamper9.updGuard (fun g => { g with done := some (1, 1, 0, 0), auth := [1] })

/-- A life-cycle operation beside a response: further clauses of LifeCycle and Tamper. -/
theorem witness_LifeCycle_running : (wLifeCycle8.flag R.TLY_LC_STAT_PENDING = true ∧ wLifeCycle8.guarding.done = none
      ∧ wLifeCycle8.lcFault wLifeCycle8.lcRecord = none ∧ wLifeCycle8.guarding.running = true)
    ∧ (16 = (wTamper9.activeSources (24 : BitVec 7).toNat).land (127 - wTamper9.guarding.seen) ∧ wTamper9.guarding.running = true
      ∧ wTamper9.flag R.TLY_LC_STAT_PENDING = true ∧ wTamper9.guarding.done = none)
    ∧ (16 = (wTamper10.activeSources (24 : BitVec 7).toNat).land (127 - wTamper10.guarding.seen) ∧ wTamper10.guarding.done ≠ none
      ∧ wTamper10.guarding.auth ≠ []) := by decide +kernel

end I

namespace J

def mLock : State := ((mateUp mateJoining).setFld R.PLB_STATUS_STATE 0 plbLocked).setFld R.PLB_STATUS_SEL 0 12
def wReadyable : State := mLock.updMate (fun m => { m with installed := true })
def wMateStates1 : State := mateUp mateWait
def wMateStates2 : State := setF [(R.MAT_STAT_ARB_IN,0,1),(R.MAT_STAT_HB_OK,0,1),(R.MAT_PEER_VALID,0,1),(R.MAT_PEER_STATE,0,mateActive),(R.MAT_PEER_HEALTHY,0,1)] (mateUp mateReady)
def wMateStates3 : State := (mateUp mateJoining).updMate (fun m => { m with take := some { t := 0, cause := 1, mine := true, decided := true, handover := false, mask := 0 } })
def wMateStates4 : State := (mateUp mateWait).setFld R.DEV_FRAME_FRAME 0 2048
def wMateStates5 : State := setF [(R.DEV_FRAME_FRAME, 0, 2048), (R.MAT_STAT_CONFLICT, 0, 1)] (mateUp mateWait)
def wMateStates6 : State := setF [(R.LN_FIT_STATUS_STATE, 272, fitService), (R.DEV_SERIAL_SERIAL, 0, 1), (R.DEV_FRAME_FRAME, 0, 2048), (R.MAT_STAT_CONFLICT, 0, 1)] (mateUp mateWait)
def wMateStates7 : State := mateUp mateActive
def wMateStates8 : State := mateUp mateWait
def wMateStates9 : State := setF [(R.MAT_STAT_ARB_IN,0,1),(R.DEV_FRAME_FRAME, 0, 8)] (mateUp mateReady)
def wMateStates10 : State := (mateUp mateReady).setFld R.MAT_STAT_CONFLICT 0 1
def wMateStates11 : State := mateUp mateJoining
def wMateStates12 : State := mateUp mateReady
def wMateStates13 : State := (setF [(R.DEV_FRAME_FRAME, 0, 2)] (mateUp mateReady)).updMate (fun m => { m with installed := true, jsents := [(0, 1)] })
def wMateStates14 : State := (setF [(R.DEV_FRAME_FRAME, 0, 2)] (mateUp mateIsolated)).updMate (fun m => { m with installed := true, jsents := [(0, 1)] })
def wMateStates15 : State := (mateUp mateAlone).updMate (fun m => { m with take := some { t := 0, cause := 1, mine := true, decided := true, handover := false, done := true, mask := 0 } })
def hbUp (st : Nat) : State := (mateUp st).setFld R.LN_FIT_STATUS_STATE 272 fitService
def hbP (side : Nat) : List Nat := (hbWords side).map (fun w => payloadOf w.toNat)
def wJournalAndCopy1 : State := hbUp mateAlone
def wJournalAndCopy2 : State := hbUp mateIsolated
def wJournalAndCopy3 : State := hbUp mateActive
def wJournalAndCopy4 : State := mateUp mateAlone
def jm (q : Nat) (u : List (Word × Word × Word × Word)) : JournalMsg := { seq := BitVec.ofNat 32 q, frame := 9, cseq := 0, units := u }
def wJournalAndCopy5 : State := mateUp mateJoining
def wJournalAndCopy6 : State := mateUp mateJoining
def wJournalAndCopy7 : State := mateUp mateAlone
def wJournalAndCopy8 : State := (mateUp mateJoining).updMate (fun m => { m with recv := [msgRecord (jm 1 []) recBent] })
def stby : State := (mateUp mateReady).updMate (fun m => { m with installed := true })
def stbyChg : State := { stby with chg := some { kind := .journal 3, since := 0, recs := [], state := .armed } }
theorem stby_inOrder : stby.inOrder 1 := by decide +kernel
def copyUp : State := setF [(R.MAT_STAT_HB_OK,0,1),(R.MAT_PEER_STATE,0,mateJoining)] (mateUp mateAlone)
def slicing (due sent : List Nat) (c : Option Change) : State :=
  { (copyUp.setFld R.MAT_COPY_PHASE 0 1).updMate (fun m => { m with due := due, slices := sent }) with chg := c }
def armed9 : Change := { kind := .list 1, state := .armed, frame := some 9 }
def wJournalAndCopy9 : State := (mateUp mateReady).setFld R.MAT_STAT_HB_OK 0 1
def wJournalAndCopy10 : State := slicing (List.range 65) [] none
def wJournalAndCopy14 : State := slicing [2, 64] [2] (some armed9)
def wJournalAndCopy11 : State := ((mateUp mateJoining).setFld R.MAT_COPY_PHASE 0 1).updMate (fun m => { m with slices := List.range 64 })
def wJournalAndCopy12 : State := copyUp.setFld R.MAT_COPY_PHASE 0 2
def wJournalAndCopy15 : State := wJournalAndCopy12.updMate (fun m => { m with inbound := true })
def wJournalAndCopy16 : State := setF [(R.MAT_COPY_EPOCH, 0, 3)] (copyUp.updMate (fun m => { m with dirty := [5] }))
def wJournalAndCopy13 : State := (mateUp mateJoining).setFld R.MAT_COPY_PHASE 0 2
def tk (mine hand : Bool) : Takeover := { t := 2, cause := 1, mine := mine, decided := true, handover := hand, mask := 0 }
def tkUp (st : Nat) (mine hand : Bool) : State := ((mateUp st).updMate (fun m => { m with take := some (tk mine hand) })).setFld R.DEV_FRAME_FRAME 0 2
def wTakeovers1 : State := setF [(R.MAT_STAT_HB_OK,0,1),(R.MAT_PEER_STATE,0,7)] (mateUp mateReady)
def wTakeovers2 : State := setF [(R.MAT_STAT_HB_OK,0,1),(R.MAT_PEER_STATE,0,7),(R.LN_FIT_STATUS_STATE,3,fitService),(R.LN_PEER_ID4_ID,3,2),(R.LN_RX_VTW_VALID,3,1),(R.LN_RX_VTW_VOTE,3,2)] (mateUp mateReady)
def gave (kept : Nat) : State := (setF [(R.MAT_STAT_HB_OK,0,1),(R.MAT_PEER_STATE,0,7),(R.MAT_STAT_KEPT,0,kept)] (mateUp mateJoining)).updMate (fun m => { m with take := some { tk false false with done := true, t := 0 } })
def wTakeovers3 : State := gave 1
def wTakeovers16 : State := setF [(R.LN_FIT_STATUS_STATE,3,fitService),(R.LN_PEER_ID4_ID,3,2),(R.LN_RX_VTW_VALID,3,1),(R.LN_RX_VTW_VOTE,3,2)] (gave 1)
def wTakeovers4 : State := gave 0
def wTakeovers5 : State := tkUp mateReady true false
def wTakeovers6 : State := tkUp mateReady true true
def wTakeovers7 : State := tkUp mateAlone false false
def wTakeovers8 : State := tkUp mateActive false true
def wTakeovers9 : State := (tkUp mateActive false true).setFld R.DEV_FRAME_FRAME 0 1
def tkFail : State := ({ ((tkUp mateAlone true false).setFld R.MAT_CFG_GRN_PORTS 0 1).updMate (fun m => { m with take := some { tk true false with done := true } }) with sides := { live := ⟨[(0, { fault := true })]⟩ } })
def wTakeovers10 : State := setF [(R.MAT_STAT_SIDE,0,1),(R.MAT_CFG_REVERT,0,1),(R.MAT_PEER_STATE,0,5),(R.MAT_CFG_WTR,0,1),(R.DEV_FRAME_FRAME,0,8000)] (mateUp mateActive)
def wTakeovers11 : State := mateUp mateActive
def wTakeovers12 : State := mateUp mateAlone
def wTakeovers13 : State := mateUp mateFailed
def wTakeovers14 : State := mateUp mateFailed
def wTakeovers15 : State := mateUp mateActive

/-- States and operands that meet the hypotheses of MateStates, clause by clause. -/
theorem witness_MateStates : 
    (((wMateStates1.paired = true) ∧ (wMateStates1.nearT 0 = false)) ∧
    ((wMateStates2.paired = true) ∧ (wMateStates2.nearT 165887 = false)) ∧
    ((wMateStates3.nearT 1024 = true)) ∧
    ((wMateStates4.mateState = mateWait) ∧ (wMateStates4.phase = 7) ∧ (frameReached wMateStates4.frame (frameAdd wMateStates4.mate.waitFrom wMateStates4.waitFrames) = true) ∧ (wMateStates4.flag R.MAT_STAT_CONFLICT = false) ∧ (wMateStates4.flag R.MAT_STAT_ARB_IN = false) ∧ (wMateStates4.flag R.MAT_STAT_HB_OK = false ∨ wMateStates4.peerActive = false)) ∧
    ((wMateStates5.mateState = mateWait) ∧ (wMateStates5.phase = 7) ∧ (frameReached wMateStates5.frame (frameAdd wMateStates5.mate.waitFrom wMateStates5.waitFrames) = true) ∧ (wMateStates5.flag R.MAT_STAT_CONFLICT = true) ∧ (wMateStates5.higherSerial = false))) ∧
    (((wMateStates6.mateState = mateWait) ∧ (wMateStates6.phase = 7) ∧ (frameReached wMateStates6.frame (frameAdd wMateStates6.mate.waitFrom wMateStates6.waitFrames) = true) ∧ (wMateStates6.flag R.MAT_STAT_CONFLICT = true) ∧ (wMateStates6.higherSerial = true)) ∧
    ((wMateStates7.paired = true) ∧ (wMateStates7.heartbeatCame = false)) ∧
    ((wMateStates8.paired = true) ∧ (wMateStates8.heartbeatCame = false)) ∧
    ((wMateStates9.mateState = mateJoining ∨ wMateStates9.mateState = mateReady) ∧ (wMateStates9.flag R.MAT_STAT_ARB_IN = true) ∧ (8 ≤ wMateStates9.silence))) ∧
    ((wMateStates10.flag R.MAT_STAT_CONFLICT = true) ∧ (∀ (f : Nat), wMateStates10.mate.hbAt = some f → 8192 ≤ wMateStates10.sinceFrame f)) ∧
    (((wReadyable.mateState = mateJoining)) ∧
    ((wMateStates11.mateState = mateJoining))) ∧
    (((wMateStates12.mateState = mateReady) ∧ (wMateStates12.readyHolds = false)) ∧
    ((wMateStates13.isStandby = true) ∧ (wMateStates13.mate.installed = true) ∧ (wMateStates13.jsentNamed = some 1) ∧ (frameLater 1 (wMateStates13.fld R.MAT_JACK_VALUE) = true)) ∧
    ((wMateStates14.isStandby = true) ∧ (wMateStates14.mate.installed = true) ∧ (wMateStates14.jsentNamed = some 1) ∧ (frameLater 1 (wMateStates14.fld R.MAT_JACK_VALUE) = true)) ∧
    ((wMateStates15.paired = true)) ∧
    ((up.paired = false))) :=
  ⟨(by decide +kernel), (by decide +kernel), ⟨(by decide +kernel), (by intro f h; cases h)⟩, (by decide +kernel), (by decide +kernel)⟩

/-- States and operands that meet the hypotheses of JournalAndCopy, clause by clause. -/
theorem witness_JournalAndCopy : 
    (((wJournalAndCopy1.paired = true) ∧ (wJournalAndCopy1.goodHeartbeat (0) (List.map BitVec.toNat (hbWords 1)) = some (hbP 1))) ∧
    ((wJournalAndCopy2.paired = true) ∧ (wJournalAndCopy2.goodHeartbeat (0) (List.map BitVec.toNat (hbWords 1)) = some (hbP 1))) ∧
    ((wJournalAndCopy3.paired = true) ∧ (wJournalAndCopy3.goodHeartbeat (0) (List.map BitVec.toNat (hbWords 0)) = some (hbP 0))) ∧
    ((wJournalAndCopy4.goodHeartbeat (0) (List.map BitVec.toNat (hbWords 1)) = none)) ∧
    (((Instr.change (jm 1 []), recChange) ∈ [(Instr.change (jm 1 []), recChange), (Instr.rearm (jm 1 []), recRearm), (Instr.cancel (jm 1 []), recCancel), (Instr.commit (jm 1 []), recCommit), (Instr.bent (jm 1 []), recBent), (Instr.command (jm 1 []), recCommand), (Instr.info (jm 1 []), recInfo)]) ∧ (wJournalAndCopy5.wantsRec (BitVec.toNat (jm 1 []).seq)) ∧ (wJournalAndCopy5.mate.installed = false)) ∧
    (((Instr.info (jm 1 []), recInfo) ∈ [(Instr.change (jm 1 []), recChange), (Instr.rearm (jm 1 []), recRearm), (Instr.cancel (jm 1 []), recCancel), (Instr.commit (jm 1 []), recCommit), (Instr.bent (jm 1 []), recBent), (Instr.command (jm 1 []), recCommand), (Instr.info (jm 1 []), recInfo)]) ∧ (wJournalAndCopy6.wantsRec (BitVec.toNat (jm 1 []).seq)) ∧ (wJournalAndCopy6.mate.installed = false)) ∧
    (((Instr.bent (jm 1 []), recBent) ∈ [(Instr.change (jm 1 []), recChange), (Instr.rearm (jm 1 []), recRearm), (Instr.cancel (jm 1 []), recCancel), (Instr.commit (jm 1 []), recCommit), (Instr.bent (jm 1 []), recBent), (Instr.command (jm 1 []), recCommand), (Instr.info (jm 1 []), recInfo)]) ∧ (wJournalAndCopy7.isStandby = false))) ∧
    ((((Instr.bent (jm 1 []), recBent) ∈ [(Instr.change (jm 1 []), recChange), (Instr.rearm (jm 1 []), recRearm), (Instr.cancel (jm 1 []), recCancel), (Instr.commit (jm 1 []), recCommit), (Instr.bent (jm 1 []), recBent), (Instr.command (jm 1 []), recCommand), (Instr.info (jm 1 []), recInfo)]) ∧ ((wJournalAndCopy8.mate.recv.any fun x => x.seq == BitVec.toNat (jm 1 []).seq) = true)) ∧
    ((stby.inOrder (BitVec.toNat (jm 1 []).seq))) ∧
    ((stby.inOrder (BitVec.toNat (jm 1 [((3 : Word), (0 : Word), (0 : Word), (0 : Word))]).seq)) ∧ (((msgRecord (jm 1 [((3 : Word), (0 : Word), (0 : Word), (0 : Word))]) recCancel).units.headD []).getD 0 0 = 3) ∧ (stby.chg = none)) ∧
    ((stbyChg.inOrder (BitVec.toNat (jm 1 [((3 : Word), (0 : Word), (0 : Word), (0 : Word))]).seq)) ∧ (((msgRecord (jm 1 [((3 : Word), (0 : Word), (0 : Word), (0 : Word))]) recRearm).units.headD []).getD 0 0 = 3) ∧ (stbyChg.chg = some ({ kind := ChangeKind.journal 3, state := ChangeState.armed } : Change)) ∧ (({ kind := ChangeKind.journal 3, state := ChangeState.armed } : Change).kind = ChangeKind.journal 3) ∧ (({ kind := ChangeKind.journal 3, state := ChangeState.armed } : Change).state = ChangeState.armed)) ∧
    ((stby.inOrder (BitVec.toNat (jm 1 [((65541 : Word), (7 : Word), (131075 : Word), (0 : Word))]).seq)) ∧ ((msgRecord (jm 1 [((65541 : Word), (7 : Word), (131075 : Word), (0 : Word))]) recBent).units = [[65541, 7, 131075, 0]]) ∧ (List.filterMap unitOf (msgRecord (jm 1 [((65541 : Word), (7 : Word), (131075 : Word), (0 : Word))]) recBent).units ≠ []))) ∧
    (((stby.inOrder (BitVec.toNat (jm 1 [(BitVec.ofNat 32 (regOffset RN.BNT_RETIME_FRAME 3), (77 : Word), (0 : Word), (0 : Word))]).seq)) ∧ (pairsOf (msgRecord (jm 1 [(BitVec.ofNat 32 (regOffset RN.BNT_RETIME_FRAME 3), (77 : Word), (0 : Word), (0 : Word))]) recCommand).units = [(regOffset RN.BNT_RETIME_FRAME 3, 77)]) ∧ (findReg (regOffset RN.BNT_RETIME_FRAME 3) = some (({ id := RN.BNT_RETIME_FRAME, base := 50331656, first := 0, count := 16384, stride := 256, half := Half.single, slices := [{ fld := R.BNT_RETIME_FRAME_FRAME, src := 0, lo := 0, len := 32 }] } : Reg), 3)) ∧ (({ id := RN.BNT_RETIME_FRAME, base := 50331656, first := 0, count := 16384, stride := 256, half := Half.single, slices := [{ fld := R.BNT_RETIME_FRAME_FRAME, src := 0, lo := 0, len := 32 }] } : Reg).id = RN.BNT_RETIME_FRAME)) ∧
    ((copyUp.mayCopy = true)) ∧
    ((wJournalAndCopy16.mayCopy = true) ∧ (BitVec.toNat (4 : BitVec 8) = wJournalAndCopy16.fld R.MAT_COPY_EPOCH + 1)) ∧
    ((wJournalAndCopy9.mayTakeCopy = true)) ∧
    ((wJournalAndCopy10.fld R.MAT_COPY_PHASE = 1) ∧ (wJournalAndCopy10.isActive = true) ∧ (64 ∈ wJournalAndCopy10.mate.due) ∧ (64 ∉ wJournalAndCopy10.mate.slices) ∧ (wJournalAndCopy10.chg = none)) ∧
    ((wJournalAndCopy14.fld R.MAT_COPY_PHASE = 1) ∧ (wJournalAndCopy14.isActive = true) ∧ (64 ∈ wJournalAndCopy14.mate.due) ∧ (64 ∉ wJournalAndCopy14.mate.slices) ∧ (wJournalAndCopy14.mate.slices.length + 1 = wJournalAndCopy14.mate.due.length) ∧ (wJournalAndCopy14.chg = some armed9) ∧ (armed9.frame = some 9) ∧ (armed9.done = 0) ∧ (armed9.jseq = none) ∧ (armed9.state ≠ .compiling)) ∧
    ((wJournalAndCopy11.fld R.MAT_COPY_PHASE = 1) ∧ (wJournalAndCopy11.mateState = mateJoining) ∧ (64 ∉ wJournalAndCopy11.mate.slices)) ∧
    ((wJournalAndCopy12.isActive = true) ∧ (wJournalAndCopy12.fld R.MAT_COPY_PHASE = 2) ∧ (wJournalAndCopy12.mate.inbound = false)) ∧
    ((wJournalAndCopy15.isActive = true) ∧ (wJournalAndCopy15.fld R.MAT_COPY_PHASE = 2) ∧ (wJournalAndCopy15.mate.inbound = true))) ∧
    (((wJournalAndCopy13.mateState = mateJoining) ∧ (wJournalAndCopy13.fld R.MAT_COPY_PHASE = 2 ∨ wJournalAndCopy13.fld R.MAT_COPY_PHASE = 1 ∧ wJournalAndCopy13.fld R.MAT_COPY_EPOCH ≠ 0))) :=
  ⟨(by decide +kernel), (by decide +kernel), (by decide +kernel), (by decide +kernel)⟩

/-- States and operands that meet the hypotheses of Takeovers, clause by clause. -/
theorem witness_Takeovers : 
    ((wTakeovers1.isStandby = true) ∧ (wTakeovers1.flag R.MAT_STAT_CONFLICT = false) ∧ (wTakeovers1.gaveUp = false) ∧ (wTakeovers1.takeCause = some 1) ∧ (wTakeovers1.majority (1 - wTakeovers1.fld R.MAT_STAT_SIDE) = false) ∧ (∀ (k : Takeover), wTakeovers1.mate.take = some k → k.done = true ∨ k.mine = false ∨ k.handover = true)) ∧
    ((wTakeovers2.isStandby = true) ∧ (wTakeovers2.flag R.MAT_STAT_CONFLICT = false) ∧ (wTakeovers2.gaveUp = false) ∧ (wTakeovers2.takeCause = some 1) ∧ (wTakeovers2.majority (1 - wTakeovers2.fld R.MAT_STAT_SIDE) = true) ∧ (∀ (k : Takeover), wTakeovers2.mate.take = some k → k.done = true ∨ k.mine = false ∨ k.handover = true)) ∧
    (((wTakeovers3.gaveUp = true) ∧ (wTakeovers3.mateState = mateJoining) ∧ (wTakeovers3.flag R.MAT_STAT_CONFLICT = false) ∧ (wTakeovers3.peerFailed = true ∨ wTakeovers3.arbLink = true) ∧ (wTakeovers3.flag R.MAT_STAT_KEPT = true) ∧ (wTakeovers3.majority (1 - wTakeovers3.fld R.MAT_STAT_SIDE) = false)) ∧
    ((wTakeovers16.gaveUp = true) ∧ (wTakeovers16.mateState = mateJoining) ∧ (wTakeovers16.flag R.MAT_STAT_CONFLICT = false) ∧ (wTakeovers16.peerFailed = true ∨ wTakeovers16.arbLink = true) ∧ (wTakeovers16.flag R.MAT_STAT_KEPT = true) ∧ (wTakeovers16.majority (1 - wTakeovers16.fld R.MAT_STAT_SIDE) = true)) ∧
    ((wTakeovers4.gaveUp = true) ∧ (wTakeovers4.mateState = mateJoining) ∧ (wTakeovers4.flag R.MAT_STAT_CONFLICT = false) ∧ (wTakeovers4.peerFailed = true ∨ wTakeovers4.arbLink = true) ∧ (wTakeovers4.flag R.MAT_STAT_KEPT = false)) ∧
    ((wTakeovers5.mate.take = some (tk true false)) ∧ ((tk true false).done = false) ∧ (frameReached wTakeovers5.frame (tk true false).t = true) ∧ ((tk true false).mine = true) ∧ (wTakeovers5.isStandby = true))) ∧
    (((wTakeovers6.mate.take = some (tk true true)) ∧ ((tk true true).done = false) ∧ (frameReached wTakeovers6.frame (tk true true).t = true) ∧ ((tk true true).mine = true) ∧ (wTakeovers6.isStandby = true)) ∧
    ((wTakeovers7.mate.take = some (tk false false)) ∧ ((tk false false).done = false) ∧ (frameReached wTakeovers7.frame (tk false false).t = true) ∧ ((tk false false).mine = false) ∧ (wTakeovers7.isActive = true)) ∧
    ((wTakeovers8.mate.take = some (tk false true)) ∧ ((tk false true).done = false) ∧ (frameReached wTakeovers8.frame (tk false true).t = true) ∧ ((tk false true).mine = false) ∧ (wTakeovers8.isActive = true))) ∧
    (((wTakeovers9.mate.take = some (tk false true)) ∧ (frameReached wTakeovers9.frame (tk false true).t = false)) ∧
    ((tkFail.mate.take = some ({ tk true false with done := true } : Takeover)) ∧ (tkFail.justTook = true) ∧ (tkFail.paired = true) ∧ (tkFail.mateState ≠ mateFailed) ∧ (tkFail.fld R.MAT_CFG_GRN_PORTS ≠ 0) ∧ (tkFail.fld R.MAT_CFG_GRN_PORTS ≤ List.countP (fun o => tkFail.faultMask.testBit o && !({ tk true false with done := true } : Takeover).mask.testBit o) (List.range 256))) ∧
    ((wTakeovers10.mateState = mateActive) ∧ (wTakeovers10.flag R.MAT_STAT_SIDE = true) ∧ (wTakeovers10.flag R.MAT_CFG_REVERT = true) ∧ (wTakeovers10.fld R.MAT_PEER_STATE = mateReady) ∧ (wTakeovers10.taking = false) ∧ (8000 * wTakeovers10.fld R.MAT_CFG_WTR ≤ wTakeovers10.sinceFrame wTakeovers10.mate.wtrFrom))) ∧
    (((wTakeovers11.admits (0) RN.MAT_CTRL 0 = true) ∧ (wTakeovers11.paired = true) ∧ (wTakeovers11.mateState = mateActive) ∧ (wTakeovers11.taking = false)) ∧
    ((wTakeovers12.admits (0) RN.MAT_CTRL 0 = true) ∧ (wTakeovers12.paired = true) ∧ (wTakeovers12.mateState ≠ mateActive) ∧ (wTakeovers12.mateState = mateFailed → bit (BitVec.toNat (0 : Word)) 1 = 0)) ∧
    ((wTakeovers13.admits (0) RN.MAT_CTRL 0 = true) ∧ (wTakeovers13.paired = true) ∧ (wTakeovers13.mateState ≠ mateActive) ∧ (wTakeovers13.mateState = mateFailed → bit (BitVec.toNat (0 : Word)) 1 = 0)) ∧
    ((wTakeovers14.admits (0) RN.MAT_CTRL 0 = true) ∧ (wTakeovers14.paired = true) ∧ (wTakeovers14.mateState = mateFailed))) ∧
    (((wTakeovers15.admits (0) RN.MAT_CTRL 0 = true) ∧ (wTakeovers15.paired = true) ∧ (wTakeovers15.isActive = true) ∧ (wTakeovers15.copyable = false)) ∧
    ((copyUp.admits (0) RN.MAT_CTRL 0 = true) ∧ (copyUp.paired = true) ∧ (copyUp.copyable = true))) :=
  ⟨⟨(by decide +kernel), (by decide +kernel), (by decide +kernel), (by decide +kernel), (by decide +kernel), (by intro k h; cases h)⟩, ⟨(by decide +kernel), (by decide +kernel), (by decide +kernel), (by decide +kernel), (by decide +kernel), (by intro k h; cases h)⟩, (by decide +kernel), (by decide +kernel), (by decide +kernel), (by decide +kernel), (by decide +kernel)⟩

/-- A standby READY, or ISOLATED, that has given up its own activity: the clause of Takeovers in which it fails. -/
def gaveIn (st : Nat) : State := (setF [(R.MAT_STAT_HB_OK,0,1),(R.MAT_PEER_STATE,0,7)] (mateUp st)).updMate
  (fun m => { m with take := some { tk false false with done := true, t := 0 } })

/-- Further clauses of Takeovers: a former active in READY and in ISOLATED, and one whose cause is another. -/
theorem witness_Takeovers_more :
    ((gaveIn mateReady).gaveUp = true ∧ (gaveIn mateReady).isStandby = true ∧ (gaveIn mateReady).flag R.MAT_STAT_CONFLICT = false
      ∧ (gaveIn mateReady).peerFailed = true ∧ (gaveIn mateReady).mateState ≠ mateJoining)
    ∧ ((gaveIn mateIsolated).gaveUp = true ∧ (gaveIn mateIsolated).isStandby = true ∧ (gaveIn mateIsolated).peerFailed = true
      ∧ (gaveIn mateIsolated).mateState ≠ mateJoining) := by decide +kernel

/-- `up`, paired, without a DPLL shadow: a device failure's condition holds; with one it does not. -/
theorem witness_DeviceFail : ((mateUp mateActive).paired = true ∧ (mateUp mateActive).failsFor .dplls = true ∧ (mateUp mateActive).failsFor .watchdog = true)
    ∧ (((mateUp mateActive).setFld R.PLB_STATUS_SHADOW_OK 0 1).failsFor .dplls = false) ∧ ((mateUp mateActive).failsFor .lamination = false) := by
  decide +kernel

/-- A mate that catches up from the journal, one that takes a full copy, and an active device whose mate is no longer READY: further clauses of
JournalAndCopy. -/
theorem witness_JournalAndCopy_more :
    ((copyUp.updMate (fun m => { m with peerHad := true })).catchesUp = true ∧ (copyUp.updMate (fun m => { m with peerHad := true })).isActive = true)
    ∧ (copyUp.mayCopy = true ∧ copyUp.catchesUp = false)
    ∧ (wJournalAndCopy3.mateState = mateActive ∧ bits ((hbP 1).getD 0 0) 20 4 = mateReady)
    ∧ (wJournalAndCopy3.paired = true
      ∧ wJournalAndCopy3.goodHeartbeat 0 ((hbOf mateJoining 1).map BitVec.toNat) = some ((hbOf mateJoining 1).map (fun w => payloadOf w.toNat))
      ∧ bits (((hbOf mateJoining 1).map (fun w => payloadOf w.toNat)).getD 0 0) 20 4 ≠ mateReady) := by decide +kernel

/-- An ACTIVE device that took over at frame 5. -/
def wJournalAndCopy17 : State := wJournalAndCopy3.updMate (fun m => { m with take := some { tk true true with done := true, t := 5 } })

/-- A heartbeat of a mate for a frame, its payloads, and a FAILED former active. -/
def hbAt (st side f : Nat) : List SlotWord :=
  let b : List Nat := [0xB7 * 2 ^ 24 + st * 2 ^ 20 + side * 2 ^ 19, f] ++ List.replicate 21 0
  (b ++ [crc32Words b]).map (fun w => BitVec.ofNat 36 (slotWord w 0 0))

def pOf (ws : List SlotWord) : List Nat := ws.map (fun w => payloadOf w.toNat)

def wTakeovers17 : State := tkUp mateFailed false false

/-- Heartbeats for frames after and before T, and a FAILED former active at T: further clauses of JournalAndCopy and Takeovers. -/
theorem witness_JournalAndCopy_after : (wJournalAndCopy17.paired = true ∧ wJournalAndCopy17.mateState = mateActive)
    ∧ (wJournalAndCopy17.goodHeartbeat 0 ((hbAt mateJoining 1 9).map BitVec.toNat) = some (pOf (hbAt mateJoining 1 9))
      ∧ bits ((pOf (hbAt mateJoining 1 9)).getD 0 0) 20 4 ≠ mateReady ∧ bit ((pOf (hbAt mateJoining 1 9)).getD 0 0) 19 ≠ wJournalAndCopy17.fld R.MAT_STAT_SIDE
      ∧ frameLater 5 ((pOf (hbAt mateJoining 1 9)).getD 1 0) = false)
    ∧ (frameLater 5 ((pOf (hbAt mateJoining 1 4)).getD 1 0) = true)
    ∧ (wTakeovers17.mate.take = some (tk false false) ∧ (tk false false).done = false ∧ frameReached wTakeovers17.frame (tk false false).t = true
      ∧ wTakeovers17.mateState = mateFailed) := by decide +kernel

end J

namespace K

def ph (k : Nat) : State := setF [(R.IMG_RAISE_PHASE, 0, k), (R.MAT_STAT_STATE, 0, 1)] State.reset
def off : State := { ph 0 with raise := { running := false } }
def fl0 : FlashInfo := { sfdp := false, profile := false, clock := 0, density := 25 }
def fl1 : FlashInfo := { sfdp := true, profile := true, clock := 133, density := 29 }
def img0 : ImageBytes := { bytes := [], fetched := true }
def wRaisingRuns1 : State := { up with lanes := ⟨[(0, {})]⟩, mem := [(5, 1)], fuses := { up.fuses with revoked := 2 } }
def wRaisingRuns2 : State := { up with lanes := ⟨[(0, {})]⟩, mem := [(5, 1)], fuses := { up.fuses with revoked := 2 } }
def wRaisingRuns3 : State := { ph 0 with fuses := { State.reset.fuses with revoked := 2 } }
def wRaisingRuns4 : State := { ph 1 with fuses := { State.reset.fuses with serial := 77 } }
def wRaisingRuns5 : State := { ph 1 with fuses := { State.reset.fuses with serial := 77 } }
def wRaisingRuns6 : State := ph 2
def wRaisingRuns7 : State := { ph 2 with raise := { tried := [0] } }
def wRaisingRuns8 : State := ph 3
def wRaisingRuns9 : State := ph 3
def wRaisingRuns10 : State := setF [(R.DEV_FRAME_FRAME, 0, 64), (R.PLB_STATUS_STATE, 0, plbFree)] (ph 4)
def wRaisingRuns11 : State := setF [(R.DEV_FRAME_FRAME, 0, 3200)] (ph 5)
def wRaisingRuns12 : State := setF [(R.DEV_FRAME_FRAME, 0, 3200)] { ph 6 with raise := { baseDone := true, retry := true } }
def wRaisingRuns13 : State := ph 3
def wRaisingRuns14 : State := ph 3
def wRaisingRuns15 : State := { ph 3 with raise := { running := false, stopped := true, jtag := true } }
def wRaisingRuns16 : State := { ph 3 with raise := { jtag := true } }
def wTicksOpenFrames1 : State := ph 3
def wTicksOpenFrames2 : State := setF [(R.DEV_COMMIT_STAT_STATE,0,1)] (ph 4)
def wTicksOpenFrames3 : State := setF [(R.DEV_FRAME_FRAME, 0, 2^32-1), (R.PLB_STATUS_STATE, 0, plbLocked)] up
def wTicksOpenFrames4 : State := ({ up with mate := { adopt := some 9 } }).setFld R.PLB_STATUS_STATE 0 plbLocked
def ddrUp : State := setF [(R.DDR_STAT_USABLE, 0, 28), (R.DDR_RGNk_SIZE_MB, 3, 256), (R.IMG_STAGE_BASE_BASE, 0, 0x1000000000), (R.IMG_FLASH_DENSITY, 0, 29)] { ph 2 with fuses := keyed }

/-- States and operands that meet the hypotheses of RaisingRuns, clause by clause. -/
theorem witness_RaisingRuns : 
    (((off.raise.running = false) ∧ (off.raise.jtag = false)) ∧
    ((Instr.resetAssert ∈ [Instr.resetAssert, Instr.supplyFault])) ∧
    ((Instr.supplyFault ∈ [Instr.resetAssert, Instr.supplyFault])) ∧
    ((wRaisingRuns3.raising = true) ∧ (wRaisingRuns3.phase = 0)) ∧
    ((wRaisingRuns4.raising = true) ∧ (wRaisingRuns4.phase = 1)) ∧
    ((wRaisingRuns5.raising = true) ∧ (wRaisingRuns5.phase = 1)) ∧
    (((ph 2).raise.running = true) ∧ ((ph 2).phase = 2) ∧ ((ph 2).ddrTrained = false)) ∧
    ((wRaisingRuns6.raising = true) ∧ (wRaisingRuns6.phase = 2) ∧ (wRaisingRuns6.nextSlot = (0, false, false)) ∧ (wRaisingRuns6.imageFault (wRaisingRuns6.imageOf img0) wRaisingRuns6.slotRoom = some (2, 65535)))) ∧
    (((wRaisingRuns7.raising = true) ∧ (wRaisingRuns7.phase = 2) ∧ (wRaisingRuns7.nextSlot = (1, true, false)) ∧ (wRaisingRuns7.imageFault (wRaisingRuns7.imageOf img0) wRaisingRuns7.slotRoom = some (2, 65535))) ∧
    ((wRaisingRuns8.raising = true) ∧ (wRaisingRuns8.phase = 3) ∧ (2 ≤ List.countP (fun i => !BitVec.getLsbD (7 : BitVec 5) i && !wRaisingRuns8.coreOut i) (List.range 5))) ∧
    ((wRaisingRuns9.raising = true) ∧ (wRaisingRuns9.phase = 3) ∧ (List.countP (fun i => !BitVec.getLsbD (15 : BitVec 5) i && !wRaisingRuns9.coreOut i) (List.range 5) < 2)) ∧
    ((wRaisingRuns10.raising = true) ∧ (wRaisingRuns10.phase = 4) ∧ (wRaisingRuns10.ticking = true) ∧ (64 ≤ wRaisingRuns10.frame) ∧ (wRaisingRuns10.raise.stepped = true ∨ 800 * wRaisingRuns10.fld R.IMG_RAISE_CFG_P4_WAIT ≤ wRaisingRuns10.frame))) ∧
    (((wRaisingRuns11.raising = true) ∧ (wRaisingRuns11.phase = 5) ∧ ((∀ n < 280, wRaisingRuns11.laneTried n = true) ∨ 80 * wRaisingRuns11.fld R.IMG_RAISE_CFG_P5_MAX ≤ wRaisingRuns11.sinceFrame wRaisingRuns11.raise.p5At)) ∧
    ((wRaisingRuns12.raising = true) ∧ (wRaisingRuns12.phase = 6) ∧ (wRaisingRuns12.raise.baseDone = true) ∧ (wRaisingRuns12.frame ≠ wRaisingRuns12.raise.p6At)) ∧
    ((wRaisingRuns13.raising = true) ∧ (3 ≤ wRaisingRuns13.phase)) ∧
    ((up.raising = false)) ∧
    ((wRaisingRuns15.raise.stopped = true)) ∧
    ((wRaisingRuns16.raise.stopped = false)) ∧
    ((up.jtagTakes .extest = true) ∧ (up.jtagTakes (.priv true) = true) ∧ (up.jtagTakes .passive = false) ∧ (up.raise.jtag = false)) ∧
    ((wRaisingRuns15.jtagTakes .passive = false) ∧ (wRaisingRuns15.raise.jtag = true)) ∧ ((wRaisingRuns16.jtagTakes (.priv false) = false) ∧ (wRaisingRuns16.raise.jtag = true)) ∧
    ((ddrUp.raising = true) ∧ (ddrUp.phase = 2) ∧ (ddrUp.nextSlot = (0, false, false)) ∧ (ddrUp.ddrTrained = true) ∧ (∀ ty < 9, goodImg.ofType (0x20 + ty) = []) ∧ (ddrUp.badLimits 0x20 = false) ∧ (ddrUp.badLimits 0x22 = false) ∧ (4 ≤ ddrUp.fld R.DDR_STAT_USABLE))) ∧
    (ddrUp.imageFault (ddrUp.imageOf goodBytes) ddrUp.slotRoom = none) :=
  ⟨(by decide +kernel), (by decide +kernel), (by decide +kernel), goodBytes_passes _ _ rfl (by decide +kernel) (by decide +kernel)⟩

/-- States and operands that meet the hypotheses of TicksOpenFrames, clause by clause. -/
theorem witness_TicksOpenFrames : 
    ((wTicksOpenFrames1.phase < 4)) ∧
    ((4 ≤ wTicksOpenFrames2.phase)) ∧
    ((4 ≤ wTicksOpenFrames3.phase)) ∧
    ((4 ≤ wTicksOpenFrames4.phase)) :=
  by decide +kernel

/-- A device held under JTAG, and one with a monitor's source asserted as it raises. -/
def wRaisingRuns17 : State := { off with raise := { running := false, jtag := true } }

def wRaisingRuns18 : State := { off with guarding := { asserted := 0x40 } }

/-- Further clauses of RaisingRuns. -/
theorem witness_RaisingRuns_more : (wRaisingRuns17.raise.running = false ∧ wRaisingRuns17.raise.jtag = true)
    ∧ (wRaisingRuns18.raise.running = false ∧ wRaisingRuns18.raise.jtag = false ∧ Nat.land wRaisingRuns18.guarding.asserted 0x70 ≠ 0)
    ∧ (off.guarding.asserted = 0)
    ∧ ((ph 2).nextSlot = (0, false, false) ∧ Nat.land ((ph 2).activeSources (ph 2).guarding.asserted) (0x7F - (ph 2).guarding.seen) = 0) := by decide +kernel

/-- A device in frame 8,000 with reference 3 enabled: in FREE, in LOCKED on it, with reference 0 better or with neither, and EXPIRED. -/
def plUp (fs : List (Fld × Nat × Nat)) : State := setF ([(R.DEV_FRAME_FRAME, 0, 8000), (R.PLB_REFi_CFG_EN, 3, 1), (R.PLB_REFi_CFG_PRIO, 3, 2)] ++ fs) up

def ref0 : List (Fld × Nat × Nat) := [(R.PLB_REFi_CFG_EN, 0, 1), (R.PLB_REFi_CFG_PRIO, 0, 1), (R.PLB_REFi_STAT_QUAL, 0, qualYes), (R.PLB_REFi_STAT_QL_ACT, 3, 1), (R.PLB_CFG_QL_EN, 0, 1), (R.PLB_REFi_STAT_QL_ACT, 0, 8)]

def wTicksOpenFrames5 : State := plUp [(R.PLB_STATUS_STATE, 0, plbFree), (R.PLB_REFi_STAT_QUAL, 3, qualYes)]

def locked3 (fs : List (Fld × Nat × Nat)) : State := plUp ([(R.PLB_STATUS_STATE, 0, plbLocked), (R.PLB_STATUS_SEL, 0, 3)] ++ fs)

def wTicksOpenFrames6 : State := locked3 [(R.PLB_REFi_STAT_QUAL, 3, qualDisq)]

def wTicksOpenFrames7 : State := locked3 ([(R.PLB_REFi_STAT_QUAL, 3, qualDisq)] ++ ref0)

def wTicksOpenFrames8 : State := locked3 ([(R.PLB_REFi_STAT_QUAL, 3, qualYes)] ++ ref0)

def wTicksOpenFrames9 : State := wTicksOpenFrames8.setFld R.PLB_CFG_REVERT 0 1

def wTicksOpenFrames10 : State := wTicksOpenFrames7.setFld R.PLB_STATUS_STATE 0 plbExpired

/-- The selection clauses of TicksOpenFrames. -/
theorem witness_TicksOpenFrames_selection :
    ((up.setFld R.PLB_STATUS_STATE 0 plbFree).plb = plbFree ∧ (up.setFld R.PLB_STATUS_STATE 0 plbFree).bestRef = none)
    ∧ (wTicksOpenFrames5.plb = plbFree ∧ wTicksOpenFrames5.bestRef = some 3)
    ∧ (wTicksOpenFrames6.plb = plbLocked ∧ wTicksOpenFrames6.candidate wTicksOpenFrames6.plbSel = false ∧ wTicksOpenFrames6.bestRef = none)
    ∧ (wTicksOpenFrames7.plb = plbLocked ∧ wTicksOpenFrames7.candidate wTicksOpenFrames7.plbSel = false ∧ wTicksOpenFrames7.bestRef = some 0)
    ∧ (wTicksOpenFrames8.plb = plbLocked ∧ wTicksOpenFrames8.isStandby = false ∧ wTicksOpenFrames8.fld R.PLB_STATUS_CMD_ACT = 0
      ∧ wTicksOpenFrames8.candidate wTicksOpenFrames8.plbSel = true ∧ wTicksOpenFrames8.flag R.PLB_CFG_REVERT = false
      ∧ wTicksOpenFrames8.bestAuto = some 0 ∧ wTicksOpenFrames8.selRank 0 < wTicksOpenFrames8.selRank wTicksOpenFrames8.plbSel)
    ∧ ((locked3 [(R.PLB_REFi_STAT_QUAL, 3, qualYes)]).candidate 3 = true ∧ (locked3 [(R.PLB_REFi_STAT_QUAL, 3, qualYes)]).bestAuto = some 3)
    ∧ (wTicksOpenFrames9.flag R.PLB_CFG_REVERT = true ∧ wTicksOpenFrames9.bestAuto = some 0 ∧ 0 ≠ wTicksOpenFrames9.plbSel)
    ∧ (wTicksOpenFrames10.plb = plbExpired ∧ wTicksOpenFrames10.bestRef = some 0) := by decide +kernel

/-- A device with no owner that two ports claim. -/
def wTicksOpenFrames11 : State := { setF [(R.MGT_OWNER_PORT, 0, 7), (R.MGT_PORTp_CFG_PRIO, 2, 3), (R.PLB_STATUS_STATE, 0, plbLocked)] up with own := { up.own with claims := [(1, 5), (2, 6)] } }

/-- A lamination that rotates, in a frame at which it moves on, and one later. -/
def wTicksOpenFrames12 : State := plUp [(R.FAB_LAM_STAT_ROTATE_ACT, 0, 1), (R.FAB_LAM_STAT_SHADOW_ACT, 0, 8)]

def wTicksOpenFrames13 : State := wTicksOpenFrames12.setFld R.DEV_FRAME_FRAME 0 8001

/-- A member whose relation began long ago. -/
def wTicksOpenFrames14 : State := { plUp [(R.DEV_FRAME_FRAME, 0, 9000)] with links := ({} : Tab Link).put 100 { bent := 5, k := some 1, kFrom := 7 } }

/-- A standby that holds a COMMIT for frame 5, now past. -/
def late : JRec := msgRecord { seq := 1, frame := 5, cseq := 7, units := [] } recCommit

def wTicksOpenFrames15 : State := (setF [(R.DEV_FRAME_FRAME, 0, 9), (R.MAT_JACK_VALUE, 0, 1)] (mateUp mateReady)).updMate
  (fun m => { m with installed := true, recv := [late] })

/-- The claims, the rotation, the member and the late record of TicksOpenFrames. -/
theorem witness_TicksOpenFrames_more :
    (4 ≤ wTicksOpenFrames11.phase ∧ wTicksOpenFrames11.ownerPort = noPort ∧ wTicksOpenFrames11.handing = false
      ∧ ((2, 6) : Nat × Nat) ∈ wTicksOpenFrames11.own.claims ∧ (∀ x ∈ wTicksOpenFrames11.own.claims, x ≠ (2, 6) → wTicksOpenFrames11.claimBefore (2, 6) x = true))
    ∧ (wTicksOpenFrames12.flag R.FAB_LAM_STAT_ROTATE_ACT = true ∧ wTicksOpenFrames12.sist.lamsGone = false
      ∧ wTicksOpenFrames12.flag R.FAB_LAM_STAT_SUB_ACT = false ∧ wTicksOpenFrames12.frame % 8000 = 0 ∧ wTicksOpenFrames13.frame % 8000 ≠ 0)
    ∧ (wTicksOpenFrames14.links.find 100 = some { bent := 5, k := some 1, kFrom := 7 } ∧ 8192 < wTicksOpenFrames14.sinceFrame 7
      ∧ wTicksOpenFrames14.sinceFrame 7 < 2 ^ 31)
    ∧ (wTicksOpenFrames15.isStandby = true ∧ wTicksOpenFrames15.mate.installed = true ∧ wTicksOpenFrames15.fld R.MAT_COPY_PHASE = 0
      ∧ wTicksOpenFrames15.mate.recv = [late] ∧ late.kind = recCommit ∧ frameReached (wTicksOpenFrames15.fld R.MAT_JACK_VALUE) late.seq = true
      ∧ frameLater wTicksOpenFrames15.frame late.frame = true ∧ wTicksOpenFrames15.frame ≠ frameAdd late.frame 1) := by decide +kernel

end K

namespace L

def wStepTakesTheFront1 : State := { up with pending := [.tick, .raiseStart] }

/-- States and operands that meet the hypotheses of StepTakesTheFront, clause by clause. -/
theorem witness_StepTakesTheFront : 
    ((wStepTakesTheFront1.pending = [Instr.tick, Instr.raiseStart])) ∧
    ((up.pending = [])) :=
  by decide +kernel

/-- The clauses of EveryCommandKeepsItsFrame that have a hypothesis: no DECOMMISSIONED transition waits, no commit is to act, and bytes that a read, a
lock word, and an event record do not reach. -/
theorem witness_EveryCommandKeepsItsFrame :
    (∀ key now, up.guarding.done ≠ some (1, 4, key, now)) ∧ (up.sampled = none) ∧ (¬ stores (.lockAcquire 4 63) up (lockAddr 63 + 4))
      ∧ (¬ stores .eventLogRecord up (up.fld R.MGT_LOG_BASE_BASE + 16 * up.fld R.MGT_LOG_IDX_NEXT + 16)) ∧ (¬ stores (.kerfCheck []) up 0) := by
  have e : up.guarding.done = none := by decide +kernel
  exact ⟨fun key now => by simp [e], by decide +kernel, fun h => Nat.lt_irrefl _ (And.right h), fun h => Nat.lt_irrefl _ (And.right h), id⟩

end L

end Sys2Proof.Tests
end

section
/-! SUPPORT. What an accepted write of a register that stands alone does (R8, R384): the path is parked, the word is taken, the register's action
is performed, and the access is answered OK. -/

namespace Sys2Proof.Machine

/-! ### The path to the register target (R404) -/

theorem State.fld_park_ne (s : State) (m : Nat) (p : Place) {f : Fld} (i : Nat) (h : f.id ≠ R.MTX_STAT_PARK.id) :
    (s.park m p).fld f i = s.fld f i := by
  unfold State.park
  split
  · split
    · exact State.fld_setFld_ne s 0 i m h
    · rfl
  · rfl

theorem State.flag_park_ne (s : State) (m : Nat) (p : Place) {f : Fld} (i : Nat) (h : f.id ≠ R.MTX_STAT_PARK.id) :
    (s.park m p).flag f i = s.flag f i := by
  unfold State.flag
  rw [State.fld_park_ne s m p i h]

@[simp] theorem State.park_tally (s : State) (m : Nat) (p : Place) : (s.park m p).tally = s.tally :=
  State.park_k (loose_part s .tally (by decide) (by decide) (by decide)) rfl m p

@[simp] theorem State.park_fuses (s : State) (m : Nat) (p : Place) : (s.park m p).fuses = s.fuses :=
  State.park_k (loose_part s .fuses (by decide) (by decide) (by decide)) rfl m p

/-- Parking the path makes the device no standby, nor ends that it is one. -/
@[simp] theorem State.mirrors_park (s : State) (m n : Nat) (p : Place) : (s.park m p).mirrors n = s.mirrors n := by
  have h : (s.park m p).mateState = s.mateState := State.fld_park_ne s m p 0 (by decide)
  unfold State.mirrors State.mayChange State.paired State.isActive
  rw [h]

/-! ### The end of an accepted write -/

/-- `s` at the end of an accepted write: the answer OK, and no condition seen that the write ended (R398). -/
def State.completed (s : State) : State := (s.answer .ok []).seeConditions

/-- Seeing which conditions hold changes the PCIe state alone. -/
theorem State.seeConditions_eq (s : State) : ∃ x, s.seeConditions = { s with pcie := x } := by
  unfold State.seeConditions
  refine foldl_k (K := fun t => ∃ x, t = { s with pcie := x }) _ _ ⟨s.pcie, rfl⟩ ?_
  rintro t p ⟨x, rfl⟩
  dsimp only
  split
  · exact ⟨x, rfl⟩
  · exact ⟨_, rfl⟩

theorem State.completed_eq (s : State) : ∃ x, s.completed = { s.answer .ok [] with pcie := x } := (s.answer .ok []).seeConditions_eq

@[simp] theorem State.completed_status (s : State) : s.completed.resp.status = .ok := by
  obtain ⟨x, h⟩ := s.completed_eq
  rw [h]
  rfl

@[simp] theorem State.completed_fld (s : State) (f : Fld) (i : Nat) : s.completed.fld f i = s.fld f i := by
  obtain ⟨x, h⟩ := s.completed_eq
  rw [h]
  rfl

@[simp] theorem State.completed_flag (s : State) (f : Fld) (i : Nat) : s.completed.flag f i = s.flag f i := by
  unfold State.flag
  rw [State.completed_fld]

@[simp] theorem State.completed_latched (s : State) (e : Ev) (i : Nat) : s.completed.latched e i = s.latched e i := by
  unfold State.latched
  rw [State.completed_fld]

@[simp] theorem State.completed_tally (s : State) : s.completed.tally = s.tally := by
  obtain ⟨x, h⟩ := s.completed_eq
  rw [h]
  rfl

@[simp] theorem State.completed_fuses (s : State) : s.completed.fuses = s.fuses := by
  obtain ⟨x, h⟩ := s.completed_eq
  rw [h]
  rfl

/-- An accepted write that neither stores a field nor performs an action changes what every access does, and nothing else. -/
theorem State.completed_park_onlyRegs (s : State) (m : Nat) (p : Place) : OnlyRegs [R.MTX_STAT_PARK] [.pcie] s (s.park m p).completed := by
  have hK := loose_framed { fields := [R.MTX_STAT_PARK], parts := [.resp, .pcie] } s
  have hpark := State.park_k (hK.mono (by decide)) (Framed.refl _ s) m p
  have hanswer := State.answer_k (hK.mono (by decide)) hpark .ok []
  exact State.seeConditions_k (hK.mono (by decide)) hanswer

/-! ### An accepted write -/

/-- A write of the register is taken whole, whatever the state: it is no half of a pair, no token, and no field of a scene or list in use. -/
def Reg.takesWhole (r : Reg) : Bool :=
  r.half == .single && r.id != RN.MGT_OWN_TOKEN && !sceneReg r.id && r.id != RN.CUT_Lj_LEN

/-- The register's action is not one that the active journals (R306). -/
def Reg.unjournalled (r : Reg) : Bool :=
  r.id != RN.BNT_CTRL && r.id != RN.SCF_GCFG && r.id != RN.SCB_REPL_CTRL && r.id != RN.BNT_RETIME_FRAME

theorem State.accepts_iff {r : Reg} (hr : r ∈ regTable) (s : State) (m i : Nat) :
    s.accepts m r.id i = true ↔ s.judge m (r.addr i) false true = .ok ∧ s.mirrors m = false := by
  unfold State.accepts State.admits
  rw [find_of_id hr]
  simp

theorem State.journalWrite_of_unjournalled {r : Reg} (h : r.unjournalled = true) (s : State) (i w : Nat) : s.journalWrite r i w = s := by
  simp only [Reg.unjournalled, Bool.and_eq_true, bne_iff_ne, ne_eq] at h
  obtain ⟨⟨⟨hbnt, hscf⟩, hrepl⟩, hframe⟩ := h
  unfold State.journalWrite
  rw [if_neg (by simp [hbnt, hscf, hrepl, hframe])]

/-- A device that is no standby takes a word whole. -/
theorem State.takeWord_of_not_mirrors {s : State} {m : Nat} (hm : s.mirrors m = false) {r : Reg} (hj : r.unjournalled = true) (i w : Nat)
    (img : Option SlotImage) : s.takeWord m r i w img =
      ((s.storeWord m r i w (fun _ => !s.storesFields r.id w)).writeEffect s m r.id i w img).answer .ok [] := by
  unfold State.takeWord
  dsimp only
  rw [hm, if_neg Bool.false_ne_true, State.journalWrite_of_unjournalled hj]

theorem State.writeRegAt_of_takesWhole {r : Reg} (hr : r ∈ regTable) {i : Nat} (h1 : r.first ≤ i) (h2 : i < r.first + r.count)
    (ht : r.takesWhole = true) (s : State) (m w : Nat) (img : Option SlotImage) :
    s.writeRegAt m (r.addr i) w img = (s.takeWord m r i w img).seeConditions := by
  simp only [Reg.takesWhole, Bool.and_eq_true, beq_iff_eq, bne_iff_ne, ne_eq, Bool.not_eq_true'] at ht
  obtain ⟨⟨⟨hhalf, htoken⟩, hscene⟩, hlen⟩ := ht
  have hfree : s.regFree r.id i = true := by simp [State.regFree, hscene, hlen]
  have hbank : r.id ≠ RN.CNT_Bc_HI := fun e => by simp [bankHigh_half r hr e] at hhalf
  unfold State.writeRegAt
  rw [findReg_addr hr h1 h2]
  simp [hfree, hhalf, htoken, hbank]

/-- What an accepted write of a register does: its fields take the word, then its action is performed. -/
theorem State.regWrite_of_accepts {r : Reg} (hr : r ∈ regTable) {i : Nat} (h1 : r.first ≤ i) (h2 : i < r.first + r.count)
    (hp : place (r.addr i) = .reg (r.addr i)) (hal : r.addr i % 4 = 0) (ht : r.takesWhole = true) (hj : r.unjournalled = true)
    {s : State} {m : Nat} (ha : s.accepts m r.id i = true) (w : Nat) :
    s.regWrite m r.id i w =
      (((s.park m (.reg (r.addr i))).storeWord m r i w (fun _ => !(s.park m (.reg (r.addr i))).storesFields r.id w)).writeEffect
        (s.park m (.reg (r.addr i))) m r.id i w none).completed := by
  obtain ⟨hok, hm⟩ := (State.accepts_iff hr s m i).mp ha
  have haligned : misaligned (r.addr i) (.reg (r.addr i)) = false := by simp [misaligned, hal]
  unfold State.regWrite
  rw [find_of_id hr]
  unfold State.hostWrite State.writePriv
  simp only [hok, hp, haligned, Bool.false_eq_true, if_false]
  unfold State.writePlace
  dsimp only
  rw [State.writeRegAt_of_takesWhole hr h1 h2 ht, State.takeWord_of_not_mirrors (by rw [State.mirrors_park, hm]) hj]
  rfl

/-- A register whose fields are all commands stores nothing. -/
theorem State.storeWord_of_wo {r : Reg} (h : ∀ c ∈ r.slices, c.fld.ty = .wo) (s : State) (m i w : Nat) (keep : Fld → Bool) :
    s.storeWord m r i w keep = s := by
  unfold State.storeWord
  refine foldl_mem_k (K := (· = s)) _ _ rfl ?_
  intro t c hc ht
  unfold State.storeSlice
  simp [h c hc, ht]

/-- A write that keeps every field stores nothing. -/
theorem State.storeWord_keep (s : State) (m : Nat) (r : Reg) (i w : Nat) : s.storeWord m r i w (fun _ => true) = s :=
  List.foldl_fixed' (fun _ => rfl) r.slices

end Sys2Proof.Machine
end

section
/-! What a host does with the image slots: CONFIRM, SVN_BURN and a write of IMG_BOOT (R360, R361, R363, R366). -/

namespace Sys2Proof.Machine

/-! ### The boot record and the fuses -/

/-- The boot record reads as it was last written (R471). -/
theorem State.boot_setBoot (s : State) (pref trial : Nat) :
    (s.setBoot pref trial).tally.boot = { seq := s.tally.boot.seq + 1, pref := pref % 2, trial := trial % 2 } := by
  have hboot : s.tally.boot = if s.tally.inForceA then s.tally.copyA else s.tally.copyB := rfl
  cases hA : s.tally.inForceA <;> simp only [State.setBoot, State.updTally, hboot, hA]
  · simp [Tally.boot, Tally.inForceA]
  · simp [Tally.boot, Tally.inForceA]

theorem bit_mod_two (w k : Nat) : bit w k % 2 = bit w k := Nat.mod_mod _ 2

/-- The fused minimum SVN only rises (R360). -/
theorem raiseSvn_toNat (old v : BitVec 6) : (raiseSvn old v).toNat = max old.toNat v.toNat := by
  unfold raiseSvn
  split <;> omega

theorem State.blow_minSvn (s : State) {v : Nat} (hv : v < 64) :
    (s.blow { s.fuses with minSvn := raiseSvn s.fuses.minSvn (BitVec.ofNat 6 v) }).fuses.minSvn.toNat = max s.fuses.minSvn.toNat v := by
  show (raiseSvn s.fuses.minSvn (raiseSvn s.fuses.minSvn (BitVec.ofNat 6 v))).toNat = _
  rw [raiseSvn_toNat, raiseSvn_toNat, BitVec.toNat_ofNat, Nat.mod_eq_of_lt hv]
  omega

theorem State.blow_minSvn_life (s : State) (v : BitVec 6) :
    (s.blow { s.fuses with minSvn := v }).fuses.life = s.fuses.life := ite_self _

/-! ### Writes of IMG_CTRL and IMG_BOOT -/

/-- IMG_CTRL in the register table. -/
def imgCtrlReg : Reg :=
  ⟨RN.IMG_CTRL, 0x10020, 0, 1, 0x0, .single, [⟨R.IMG_CTRL_CONFIRM, 0, 0, 1⟩, ⟨R.IMG_CTRL_VERIFY, 0, 1, 1⟩, ⟨R.IMG_CTRL_PROGRAM, 0, 2, 1⟩,
    ⟨R.IMG_CTRL_LIVE_GO, 0, 3, 1⟩, ⟨R.IMG_CTRL_SVN_BURN, 0, 4, 1⟩, ⟨R.IMG_CTRL_RECOVER_GO, 0, 5, 1⟩, ⟨R.IMG_CTRL_ABORT, 0, 6, 1⟩,
    ⟨R.IMG_CTRL_SLOT, 0, 8, 1⟩]⟩

/-- IMG_BOOT in the register table. -/
def imgBootReg : Reg := ⟨RN.IMG_BOOT, 0x1001c, 0, 1, 0x0, .single, [⟨R.IMG_BOOT_PREF, 0, 0, 1⟩, ⟨R.IMG_BOOT_TRIAL, 0, 1, 1⟩]⟩

/-- An accepted write of IMG_CTRL performs its command and stores nothing. -/
theorem State.regWrite_IMG_CTRL_of_accepts {s : State} {m : Nat} (ha : s.accepts m RN.IMG_CTRL 0 = true) (w : Nat) :
    s.regWrite m RN.IMG_CTRL 0 w =
      ((s.park m (.reg 0x10020)).imgCtrl w (s.park m (.reg 0x10020)).otherImage).completed := by
  have h := State.regWrite_of_accepts (r := imgCtrlReg) (i := 0) (by decide) (by decide) (by decide) (by decide) (by decide) (by decide)
    (by decide) ha w
  rw [State.storeWord_of_wo (by decide)] at h
  exact h

/-- An accepted write of IMG_BOOT reaches the tally alone. -/
theorem State.regWrite_IMG_BOOT_of_accepts {s : State} {m : Nat} (ha : s.accepts m RN.IMG_BOOT 0 = true) (w : Nat) :
    s.regWrite m RN.IMG_BOOT 0 w = ((s.park m (.reg 0x1001c)).imgBoot w).completed := by
  have h := State.regWrite_of_accepts (r := imgBootReg) (i := 0) (by decide) (by decide) (by decide) (by decide) (by decide) (by decide)
    (by decide) ha w
  have hkeep : (fun _ : Fld => !(s.park m (.reg (imgBootReg.addr 0))).storesFields imgBootReg.id w) = fun _ => true := rfl
  rw [hkeep, State.storeWord_keep] at h
  exact h

/-- A command bit set in a word that holds no other is the only one that it then holds. -/
theorem bits_putBits_command {w k : Nat} (hk : k < 7) (hw : bits w 0 7 = 0) : bits (putBits w k 1 1) 0 7 = 2 ^ k := by
  have h7 : 2 ^ 7 ∣ w := Nat.dvd_of_mod_eq_zero (by simpa [bits] using hw)
  have hlow : w % 2 ^ k = 0 := Nat.mod_eq_zero_of_dvd ((Nat.pow_dvd_pow 2 (by omega)).trans h7)
  have hhigh : w / 2 ^ (k + 1) * 2 ^ (k + 1) = w := Nat.div_mul_cancel ((Nat.pow_dvd_pow 2 (by omega)).trans h7)
  obtain ⟨q, rfl⟩ := h7
  unfold bits putBits
  rw [hlow, hhigh, Nat.pow_zero, Nat.div_one, Nat.zero_add, Nat.add_mul_mod_self_left]
  simpa using Nat.mod_eq_of_lt (Nat.pow_lt_pow_right (by decide : 1 < 2) hk)

/-- CONFIRM as the one command of a word. -/
theorem State.imgCtrl_confirm (s : State) {w : Nat} (hw : bits w 0 7 = 0) (g : SlotImage) :
    s.imgCtrl (putBits w 0 1 1) g = s.doConfirm := by
  simp [State.imgCtrl, bits_putBits_command (k := 0) (by decide) hw]

/-- SVN_BURN as the one command of a word. -/
theorem State.imgCtrl_svnBurn (s : State) {w : Nat} (hw : bits w 0 7 = 0) (g : SlotImage) :
    s.imgCtrl (putBits w 4 1 1) g = s.doSvnBurn := by
  simp [State.imgCtrl, bits_putBits_command (k := 4) (by decide) hw]

/-! ### The commands -/

section
variable {m : Master} {w : Word} {s : State}

/-- A CONFIRM that is accepted is performed behind the parked path. -/
theorem answers_confirm {P : State → Prop} (ha : s.accepts m RN.IMG_CTRL 0 = true) (hw : bits w.toNat 0 7 = 0)
    (h : P (s.park m (.reg 0x10020)).doConfirm.completed) : Answers (.confirm m w) s P := by
  refine ⟨_, rfl, ?_⟩
  rw [State.regWrite_IMG_CTRL_of_accepts ha, State.imgCtrl_confirm _ hw]
  exact h

/-- An SVN_BURN that is accepted is performed behind the parked path. -/
theorem answers_svnBurn {P : State → Prop} (ha : s.accepts m RN.IMG_CTRL 0 = true) (hw : bits w.toNat 0 7 = 0)
    (h : P (s.park m (.reg 0x10020)).doSvnBurn.completed) : Answers (.svnBurn m w) s P := by
  refine ⟨_, rfl, ?_⟩
  rw [State.regWrite_IMG_CTRL_of_accepts ha, State.imgCtrl_svnBurn _ hw]
  exact h

/-- A write of IMG_BOOT that is accepted is performed behind the parked path. -/
theorem answers_imgBootWrite {P : State → Prop} (ha : s.accepts m RN.IMG_BOOT 0 = true)
    (h : P ((s.park m (.reg 0x1001c)).imgBoot w.toNat).completed) : Answers (.imgBootWrite m w) s P := by
  refine ⟨_, rfl, ?_⟩
  rw [State.regWrite_IMG_BOOT_of_accepts ha]
  exact h

end

/-- On trial, CONFIRM makes the running slot the preferred one and ends the trial (R363). -/
theorem State.doConfirm_onTrial {s : State} (h : s.flag R.IMG_RUN_TRIAL = true) :
    s.doConfirm.flag R.IMG_RUN_TRIAL = false ∧ s.doConfirm.tally.boot.pref = s.fld R.IMG_RUN_SLOT % 2
      ∧ s.doConfirm.latched R.IMG_EVT_CONFIRMED = true := by
  unfold State.doConfirm
  rw [if_pos h]
  refine ⟨?_, ?_, State.latched_latch _ _ _ (by decide)⟩
  · unfold State.flag
    rw [State.fld_latch_ne _ _ _ _ (by decide)]
    exact State.flag_setFlag_self _ _ _ _ (by decide)
  · rw [State.latch_tally, State.setFlag_tally, State.boot_setBoot]

/-- Off trial, CONFIRM has no effect (R363). -/
theorem State.doConfirm_offTrial {s : State} (h : s.flag R.IMG_RUN_TRIAL = false) : s.doConfirm = s := by
  simp [State.doConfirm, h]

/-- Off trial, SVN_BURN raises the fused minimum SVN to a higher one of the running image (R360). -/
theorem State.doSvnBurn_offTrial {s : State} (h : s.flag R.IMG_RUN_TRIAL = false) (hlt : s.fld R.IMG_SVN_MIN_MIN < s.fld R.IMG_RUN_SVN)
    (h64 : s.fld R.IMG_RUN_SVN < 64) :
    s.doSvnBurn.fld R.IMG_SVN_MIN_MIN = s.fld R.IMG_RUN_SVN
      ∧ s.doSvnBurn.fuses.minSvn.toNat = max s.fuses.minSvn.toNat (s.fld R.IMG_RUN_SVN) ∧ s.doSvnBurn.fuses.life = s.fuses.life := by
  unfold State.doSvnBurn
  simp only [h, Bool.false_eq_true, if_false, Nat.not_le.mpr hlt]
  refine ⟨?_, State.blow_minSvn s h64, State.blow_minSvn_life s _⟩
  exact (State.fld_setFld_self _ _ _ _).trans (Nat.mod_eq_of_lt h64)

/-- On trial, SVN_BURN is refused, and no fuse changes (R360). -/
theorem State.doSvnBurn_onTrial {s : State} (h : s.flag R.IMG_RUN_TRIAL = true) :
    s.doSvnBurn.fuses = s.fuses ∧ s.doSvnBurn.fld R.IMG_OP_STAT_CODE = codeTrial ∧ s.doSvnBurn.latched R.IMG_EVT_OP_FAIL = true := by
  unfold State.doSvnBurn
  rw [if_pos h]
  refine ⟨?_, ?_, State.latched_latch _ _ _ (by decide)⟩
  · rw [State.latch_fuses]
    split <;> rfl
  · rw [State.fld_latch_ne _ _ _ _ (by decide)]
    split <;> exact State.fld_setFld_self _ _ _ _

/-- A write of IMG_BOOT that names a valid slot is taken (R361). -/
theorem State.imgBoot_valid {s : State} {w : Nat} (h : s.flag R.IMG_SLOTs_STAT_VALID (bit w 0) = true) :
    (s.imgBoot w).tally.boot.pref = bit w 0 ∧ (s.imgBoot w).tally.boot.trial = bit w 1 := by
  unfold State.imgBoot
  rw [if_pos h, State.boot_setBoot]
  exact ⟨bit_mod_two w 0, bit_mod_two w 1⟩

/-- A write of IMG_BOOT that names a slot which is not valid is refused (R366). -/
theorem State.imgBoot_invalid {s : State} {w : Nat} (h : s.flag R.IMG_SLOTs_STAT_VALID (bit w 0) = false) :
    (s.imgBoot w).tally = s.tally ∧ (s.imgBoot w).latched R.IMG_EVT_OP_FAIL = true := by
  unfold State.imgBoot
  rw [if_neg (by simp [h])]
  exact ⟨State.latch_tally _ _ _, State.latched_latch _ _ _ (by decide)⟩

/-- Settles O37. Each command acts on the state with the path parked, which reads as before where the commands look; what the command leaves is
what the host finds when the write has been answered. -/
theorem imageChoices : Obligations.ImageChoices := by
  unfold Obligations.ImageChoices
  intro m w s
  refine ⟨?confirm, ?confirmOffTrial, ?burn, ?burnOnTrial, ?boot, ?bootInvalid⟩
  case confirm =>
    intro ha hw ht
    have h := State.doConfirm_onTrial ((State.flag_park_ne s m (.reg 0x10020) 0 (by decide)).trans ht)
    rw [State.fld_park_ne s m _ 0 (by decide)] at h
    exact answers_confirm ha hw (by simpa using h)
  case confirmOffTrial =>
    intro ha hw ht
    refine answers_confirm ha hw ?_
    rw [State.doConfirm_offTrial ((State.flag_park_ne s m _ 0 (by decide)).trans ht)]
    exact ⟨State.completed_status _, by simp, State.completed_park_onlyRegs s m _⟩
  case burn =>
    intro ha hw ht hlt h64
    have h := State.doSvnBurn_offTrial (s := s.park m (.reg 0x10020)) ((State.flag_park_ne s m _ 0 (by decide)).trans ht)
    rw [State.fld_park_ne s m _ 0 (by decide), State.fld_park_ne s m _ 0 (by decide), State.park_fuses] at h
    exact answers_svnBurn ha hw (by simpa using h hlt h64)
  case burnOnTrial =>
    intro ha hw ht
    have h := State.doSvnBurn_onTrial ((State.flag_park_ne s m (.reg 0x10020) 0 (by decide)).trans ht)
    rw [State.park_fuses] at h
    exact answers_svnBurn ha hw (by simpa using h)
  case boot =>
    intro ha hv
    have h := State.imgBoot_valid ((State.flag_park_ne s m (.reg 0x1001c) _ (by decide)).trans hv)
    exact answers_imgBootWrite ha (by simpa using h)
  case bootInvalid =>
    intro ha hv
    obtain ⟨htally, hfail⟩ := State.imgBoot_invalid ((State.flag_park_ne s m (.reg 0x1001c) _ (by decide)).trans hv)
    refine answers_imgBootWrite ha ⟨?_, by simpa using hfail⟩
    rw [State.completed_tally, htally, State.park_tally]

end Sys2Proof.Machine
end

section
/-! Writes that take no effect: the dropped write and the write at the default target (R385, R396, R397, R406). -/

namespace Sys2Proof.Machine

/-! ### What a write at a view comes to -/

/-- A write at a view that leads to a device address is a write of one word there. -/
theorem State.writeView_of_viewAddr {s : State} {m a : Nat} {v : View} {bar2 : Bool} (h : s.viewAddr m v = .inl (a, bar2)) (w : Nat)
    (img : Option SlotImage) : s.writeView m v w img = s.writePriv m a w bar2 img := by
  cases v with
  | priv x => cases h; rfl
  | bar0 x => cases h; rfl
  | bar2 x => cases h; rfl
  | unpriv x => cases h
  | lanes x be => cases h
  | burst x len => cases h
  | burstWrite x beats => cases h
  | own x be => cases h

/-- REGISTER_WRITE at a view that leads to a device address completes as the write of one word there. -/
theorem answers_registerWrite {m : Master} {v : View} {w : Word} {s : State} {a : Nat} {bar2 : Bool} {P : State → Prop}
    (hv : s.viewAddr m v = .inl (a, bar2)) (h : P (s.writePriv m a w.toNat bar2 none)) : Answers (.registerWrite m v w) s P := by
  refine ⟨_, rfl, ?_⟩
  rw [State.writeView_of_viewAddr hv]
  exact h

/-- An aligned write of port `p` that ownership refuses is dropped. -/
theorem State.writePriv_of_dropped {s : State} {m p a : Nat} {bar2 : Bool} (hp : portOfMaster m = some p)
    (ha : misaligned a (place a) = false) (hj : s.judge m a bar2 true = .dropped) (w : Nat) (img : Option SlotImage) :
    s.writePriv m a w bar2 img = s.dropWrite p a := by
  simp [State.writePriv, hj, ha, hp]

/-- A write that decodes to the default target, or that is not aligned where ownership would refuse it, completes at the default target. -/
theorem State.writePriv_of_default {s : State} {m a : Nat} {bar2 : Bool}
    (hj : s.judge m a bar2 true = .default ∨ (misaligned a (place a) = true ∧ s.judge m a bar2 true = .dropped)) (w : Nat)
    (img : Option SlotImage) : s.writePriv m a w bar2 img = s.defaultWrite m a := by
  obtain hdefault | ⟨hmis, hdropped⟩ := hj
  · simp [State.writePriv, hdefault]
  · simp [State.writePriv, hdropped, hmis]

theorem portOfMaster_lt {m p : Nat} (h : portOfMaster m = some p) : p < 4 := by
  unfold portOfMaster at h
  split at h
  · obtain rfl := Option.some.inj h
    omega
  · cases h

/-! ### The dropped write (R385) -/

/-- A saturating count reads as the capped sum. -/
theorem State.fld_satFld_self (s : State) (f : Fld) (i n : Nat) : (s.satFld f i n).fld f i = satAdd (2 ^ f.width - 1) (s.fld f i) n := by
  have hpos : 0 < 2 ^ f.width := Nat.two_pow_pos _
  have hcap : satAdd (2 ^ f.width - 1) (s.fld f i) n ≤ 2 ^ f.width - 1 := Nat.min_le_left _ _
  unfold State.satFld
  rw [State.fld_setFld_self, Nat.mod_eq_of_lt (by omega)]

/-- `s` with a dropped write of port `p` at `a` in DROP_CNT and DROP_LAST: the first half of `State.dropWrite`. -/
def State.recordDrop (s : State) (p a : Nat) : State :=
  ((s.satFld R.MGT_DROP_CNT_COUNT 0 1).setFld R.MGT_DROP_LAST_ADDR 0 a).setFld R.MGT_DROP_LAST_HI_PORT 0 p

/-- `s` with NONOWNER_WRITE latched and its record in the event log, as a dropped write of port `p` at `a` leaves them: the second half of
`State.dropWrite`. -/
def State.logDrop (s : State) (p a : Nat) : State :=
  if s.latched R.MGT_EVT_NONOWNER_WRITE then { s with logQ := s.logQ ++ [s.evRec R.MGT_EVT_NONOWNER_WRITE p (a % 2 ^ 32)] }
  else s.latchAs R.MGT_EVT_NONOWNER_WRITE 0 p (a % 2 ^ 32)

theorem State.dropWrite_eq (s : State) (p a : Nat) : s.dropWrite p a = ((s.recordDrop p a).logDrop p a).answer .dropped [] := rfl

theorem State.recordDrop_count (s : State) (p a : Nat) :
    (s.recordDrop p a).fld R.MGT_DROP_CNT_COUNT = satAdd 0xFFFFFFFF (s.fld R.MGT_DROP_CNT_COUNT) 1 := by
  unfold State.recordDrop
  rw [State.fld_setFld_ne _ _ _ _ (by decide), State.fld_setFld_ne _ _ _ _ (by decide), State.fld_satFld_self]
  rfl

theorem State.recordDrop_addr (s : State) (p a : Nat) : (s.recordDrop p a).fld R.MGT_DROP_LAST_ADDR = a % 2 ^ 40 := by
  unfold State.recordDrop
  rw [State.fld_setFld_ne _ _ _ _ (by decide), State.fld_setFld_self]
  rfl

theorem State.recordDrop_port (s : State) {p : Nat} (hp : p < 4) (a : Nat) : (s.recordDrop p a).fld R.MGT_DROP_LAST_HI_PORT = p :=
  (State.fld_setFld_self _ _ _ _).trans (Nat.mod_eq_of_lt (Nat.lt_trans hp (by decide)))

theorem State.fld_logDrop_ne (s : State) (p a : Nat) {f : Fld} (i : Nat) (h : f.id ≠ R.MGT_EVT.id) :
    (s.logDrop p a).fld f i = s.fld f i := by
  unfold State.logDrop
  split
  · rfl
  · exact State.fld_latchAs_ne s _ _ _ _ i h

/-- NONOWNER_WRITE is latched after a dropped write, whether or not it was before. -/
theorem State.latched_logDrop (s : State) (p a : Nat) : (s.logDrop p a).latched R.MGT_EVT_NONOWNER_WRITE = true := by
  unfold State.logDrop
  split
  · assumption
  · exact State.latched_latchAs s _ _ _ _ (by decide)

/-- The log takes one record: that of the latching where NONOWNER_WRITE is new, and one of its own where it was latched already. -/
theorem State.logQ_logDrop (s : State) (p a : Nat) :
    (s.logDrop p a).logQ = s.logQ ++ [s.evRec R.MGT_EVT_NONOWNER_WRITE p (a % 2 ^ 32)] := by
  unfold State.logDrop
  split
  · rfl
  · next h => exact State.logQ_latchAs s _ _ _ _ (Bool.eq_false_iff.mpr h)

/-- A dropped write changes its three registers and what waits for the rings and the log, and nothing else. -/
theorem State.dropWrite_onlyRegs (s : State) (p a : Nat) :
    OnlyRegs [R.MGT_DROP_CNT_COUNT, R.MGT_DROP_LAST_ADDR, R.MGT_DROP_LAST_HI_PORT, R.MGT_EVT] [.ringQ, .logQ] s (s.dropWrite p a) :=
  State.dropWrite_k ((loose_framed _ s).mono (by decide)) (Framed.refl _ s) p a

/-! ### The default target (R406) -/

/-- A write at the default target completes with an error. -/
theorem State.defaultWrite_status (s : State) (m a : Nat) : (s.defaultWrite m a).resp.status = .error := by
  have h : Part.same (s.defaultHit m a) (s.defaultWrite m a) .resp :=
    State.reportAbort_k (loose_part _ .resp (by decide) (by decide) (by decide)) rfl m
  exact congrArg Resp.status h

/-- A write at the default target latches DEFAULT_HIT. -/
theorem State.latched_defaultWrite (s : State) (m a : Nat) : (s.defaultWrite m a).latched R.MTX_EVT_DEFAULT_HIT = true := by
  unfold State.latched State.defaultWrite
  rw [State.fld_reportAbort _ m _ (by decide)]
  exact State.latched_latchAs _ _ _ _ _ (by decide)

/-- A write at the default target leaves NONOWNER_WRITE as it was. -/
theorem State.nonowner_defaultWrite (s : State) (m a : Nat) :
    (s.defaultWrite m a).latched R.MGT_EVT_NONOWNER_WRITE = s.latched R.MGT_EVT_NONOWNER_WRITE := by
  unfold State.latched
  rw [State.fld_defaultWrite s m a _ (by decide)]

/-! ### The two outcomes -/

/-- Settles O27. A dropped write is recorded, then logged: the second half touches none of the registers that the first half sets, and puts one
record in the log in either of its branches. -/
theorem droppedWrites : Obligations.DroppedWrites := by
  unfold Obligations.DroppedWrites
  refine ⟨?dropped, ?default⟩
  case dropped =>
    intro m p v w s a b hp hv ha hj
    refine answers_registerWrite hv ?_
    rw [State.writePriv_of_dropped hp ha hj]
    have hframe := s.dropWrite_onlyRegs p a
    rw [State.dropWrite_eq] at hframe ⊢
    refine ⟨rfl, ?count, ?addr, ?port, State.latched_logDrop _ p a, ⟨_, State.logQ_logDrop _ p a, rfl, rfl⟩, hframe⟩
    case count => exact (State.fld_logDrop_ne _ p a 0 (by decide)).trans (s.recordDrop_count p a)
    case addr => exact (State.fld_logDrop_ne _ p a 0 (by decide)).trans (s.recordDrop_addr p a)
    case port => exact (State.fld_logDrop_ne _ p a 0 (by decide)).trans (s.recordDrop_port (portOfMaster_lt hp) a)
  case default =>
    intro m p v w s a b _ hv hj
    refine answers_registerWrite hv ?_
    rw [State.writePriv_of_default hj]
    exact ⟨s.defaultWrite_status m a, State.fld_defaultWrite s m a 0 (by decide), s.nonowner_defaultWrite m a,
      s.latched_defaultWrite m a⟩

end Sys2Proof.Machine
end

section
/-! Finite tables: what is not listed. -/

namespace Sys2Proof

theorem Tab.look_of_not_mem {α : Type} {l : List (Nat × α)} {k : Nat} (h : k ∉ l.map (·.1)) : Tab.look l k = none := by
  induction l with
  | nil => rfl
  | cons e l ih =>
    obtain ⟨hne, hl⟩ := not_or.mp (mt List.mem_cons.mpr h)
    simp [Tab.look, hne, ih hl]

theorem Tab.get_of_not_mem_keys {α : Type} {t : Tab α} {k : Nat} (h : k ∉ t.keys) (d : α) : t.get k d = d := by
  simp [Tab.get, Tab.find, Tab.look_of_not_mem (show k ∉ t.entries.map (·.1) from h)]

end Sys2Proof
end

section
/-! Counting in the counter bank: what an addition, a carry, the tick of the frame, a clear and a snapshot leave in the counters (R440 to R449). -/

namespace Sys2Proof.Machine

/-! ### Events that stay latched -/

/-- Setting a bit of a word clears none. -/
theorem testBit_orBit_of_testBit {v j : Nat} (h : v.testBit j = true) (k : Nat) : (orBit v k).testBit j = true := by
  unfold orBit
  split
  · exact h
  · next hk =>
    have hlow : v % 2 ^ (k + 1) < 2 ^ k := by
      have hbit : v / 2 ^ k % 2 = 0 := by simpa [Nat.testBit_eq_decide_div_mod_eq] using hk
      rw [Nat.mod_pow_succ, hbit, Nat.mul_zero, Nat.add_zero]
      exact Nat.mod_lt _ (Nat.two_pow_pos k)
    rcases Nat.lt_trichotomy j k with hjk | rfl | hjk
    · rw [Nat.add_comm, Nat.testBit_two_pow_add_gt hjk]
      exact h
    · exact absurd h hk
    · obtain ⟨i, rfl⟩ := Nat.exists_eq_add_of_lt hjk
      have hdiv : (v + 2 ^ k) / 2 ^ (k + 1) = v / 2 ^ (k + 1) := by
        have hsplit := Nat.div_add_mod v (2 ^ (k + 1))
        have hpow : 2 ^ (k + 1) = 2 ^ k + 2 ^ k := by omega
        rw [Nat.div_eq_iff (Nat.two_pow_pos _)]
        rw [Nat.mul_comm] at hsplit
        omega
      have hshift : k + i + 1 = i + (k + 1) := by omega
      rw [hshift, Nat.testBit_add] at h ⊢
      rw [hdiv]
      exact h

/-- An event stays latched as another of its register is latched. -/
theorem State.latched_latch_of_latched {s : State} {e : Ev} {i : Nat} (h : s.latched e i = true) (hbit : e.bit < e.reg.width) {e' : Ev}
    (hreg : e'.reg = e.reg) (i' : Nat) : (s.latch e' i').latched e i = true := by
  unfold State.latch State.latchAs
  split
  · exact h
  · show (State.fld (s.setFld e'.reg i' (orBit (s.fld e'.reg i') e'.bit)) e.reg i).testBit e.bit = true
    rw [hreg, State.fld_setFld]
    split
    · next hi =>
      subst hi
      rw [Nat.testBit_mod_two_pow, testBit_orBit_of_testBit h]
      simp [hbit]
    · exact h

theorem State.latched_latchIf_of_latched {s : State} {e : Ev} {i : Nat} (h : s.latched e i = true) (hbit : e.bit < e.reg.width) {e' : Ev}
    (hreg : e'.reg = e.reg) (b : Bool) (i' : Nat) : (s.latchIf b e' i').latched e i = true := by
  unfold State.latchIf
  split
  · exact State.latched_latch_of_latched h hbit hreg i'
  · exact h

/-! ### What the counters count -/

/-- The fields of CNT_Bc_CFG: what each bank counter counts (R440). -/
def bankCfgFlds : List Fld := [R.CNT_Bc_CFG_SRC, R.CNT_Bc_CFG_CHAIN, R.CNT_Bc_CFG_ALL, R.CNT_Bc_CFG_SCOPE]

/-- The bank counters are configured in `t` as in `s`. -/
def BankCfg (s t : State) : Prop := ∀ f ∈ bankCfgFlds, t.regs.get f.id {} = s.regs.get f.id {}

theorem BankCfg.refl (s : State) : BankCfg s s := fun _ _ => rfl

/-- What does not name the configuration of the bank counters keeps it. -/
theorem loose_bankCfg {m : Nat} (s : State) (h : ∀ f ∈ bankCfgFlds, regOk m f.id = false) : Loose m (BankCfg s) where
  upd hk hg f hf := (hg.regs f.id (h f hf)).trans (hk f hf)
  setByte _ _ hk _ _ := hk
  area _ _ _ hk _ _ _ := hk
  bank _ _ hk _ _ := hk
  clear _ _ hk _ _ := hk
  zero _ _ _ hk _ _ := hk
  secure _ _ hk := hk
  rekey _ _ _ hk := hk
  blow _ _ hk _ := hk
  fresh h60 h63 _ _ _ _ _ _ _ _ _ _ := by
    have := (regOk_false (h R.CNT_Bc_CFG_SRC (by decide))).1
    rw [h60, h63] at this
    cases this

namespace BankCfg
variable {s t : State} (h : BankCfg s t)
include h

theorem fld {f : Fld} (hf : f ∈ bankCfgFlds) (c : Nat) :
    t.fld f c = s.fld f c := by
  unfold State.fld
  rw [h f hf]

theorem chain (c : Nat) : t.flag R.CNT_Bc_CFG_CHAIN c = s.flag R.CNT_Bc_CFG_CHAIN c := by
  unfold State.flag
  rw [h.fld (by decide)]

theorem chainedBelow (c : Nat) : t.chainedBelow c = s.chainedBelow c := by
  unfold State.chainedBelow
  rw [h.chain]

theorem bankTakes (src i c : Nat) : t.bankTakes src i c = s.bankTakes src i c := by
  unfold State.bankTakes State.flag
  rw [h.fld (by decide), h.fld (by decide), h.fld (by decide), h.fld (by decide)]

theorem bankOf (src i : Nat) : t.bankOf src i = s.bankOf src i := by
  unfold State.bankOf
  rw [h _ (by decide), funext (h.bankTakes src i)]

theorem setFld {g : Fld} (hg : ∀ f ∈ bankCfgFlds, f.id ≠ g.id) (i v : Nat) : BankCfg s (t.setFld g i v) :=
  fun f hf => (Tab.get_put_ne _ _ _ (hg f hf)).trans (h f hf)

theorem latch {e : Ev} (he : ∀ f ∈ bankCfgFlds, f.id ≠ e.reg.id) (i : Nat) : BankCfg s (t.latch e i) := by
  unfold State.latch State.latchAs
  exact ite_k h (h.setFld he i _)

end BankCfg

/-- A counter takes the carry of the one below where CHAIN is active there (R444). -/
theorem State.chainedBelow_iff (s : State) (c : Nat) : s.chainedBelow c = true ↔ c ≠ 0 ∧ s.flag R.CNT_Bc_CFG_CHAIN (c - 1) = true := by
  simp [State.chainedBelow]

/-- A source that has no scope is counted where it is selected and no chain feeds the counter (R440, R444). -/
theorem State.bankTakes_iff (s : State) {src : Nat} (hsrc : 0xD ≤ src) (i c : Nat) :
    s.bankTakes src i c = true ↔ s.fld R.CNT_Bc_CFG_SRC c = src ∧ s.chainedBelow c = false := by
  simp [State.bankTakes, State.chainedBelow, hsrc, or_iff_not_imp_left]

theorem State.mem_bankOf (s : State) {src : Nat} (hsrc : 0xD ≤ src) (i c : Nat) : c ∈ s.bankOf src i ↔ s.bankTakes src i c = true := by
  unfold State.bankOf
  rw [List.mem_filter, and_iff_right_iff_imp]
  intro h
  obtain ⟨hfld, -⟩ := (s.bankTakes_iff hsrc i c).mp h
  by_contra hkey
  have hreset : s.fld R.CNT_Bc_CFG_SRC c = 0 := Tab.get_of_not_mem_keys hkey _
  omega

theorem State.nodup_bankOf {s : State} (h : (s.regs.get R.CNT_Bc_CFG_SRC.id {}).wf = true) (src i : Nat) : (s.bankOf src i).Nodup := by
  unfold State.bankOf
  refine List.Nodup.filter _ ?_
  have hrise : ((s.regs.get R.CNT_Bc_CFG_SRC.id {}).entries.map (·.1)).Pairwise (· < ·) := by simpa [Tab.wf] using h
  exact hrise.imp Nat.ne_of_lt

/-! ### An addition (R442 to R446) -/

theorem State.count_setFld (s : State) (c v : Nat) : (s.setFld R.CNT_Bc_COUNT c v).fld R.CNT_Bc_COUNT c = v % 2 ^ 48 :=
  State.fld_setFld_self s _ c v

theorem State.latched_setFld_count (s : State) {e : Ev} (hreg : e.reg = R.CNT_EVT) (c v : Nat) :
    (s.setFld R.CNT_Bc_COUNT c v).latched e = s.latched e := by
  unfold State.latched
  rw [State.fld_setFld_ne _ _ _ _ (by rw [hreg]; decide)]

/-- Without a wrap the sum is all. -/
theorem State.bankAdd_of_lt {s : State} {c n : Nat} (h : s.fld R.CNT_Bc_COUNT c + n < 2 ^ 48) :
    s.bankAdd c n = s.setFld R.CNT_Bc_COUNT c (s.fld R.CNT_Bc_COUNT c + n) := by
  unfold State.bankAdd State.bankRaw
  dsimp only
  rw [if_pos (Nat.div_eq_of_lt h)]

/-- A wrap of a counter that is not chained latches BANK_WRAP (R446). -/
theorem State.bankAdd_of_wrap {s : State} {c n : Nat} (h : 2 ^ 48 ≤ s.fld R.CNT_Bc_COUNT c + n) (hc : s.flag R.CNT_Bc_CFG_CHAIN c = false) :
    s.bankAdd c n = (s.setFld R.CNT_Bc_COUNT c (s.fld R.CNT_Bc_COUNT c + n)).latch R.CNT_EVT_BANK_WRAP := by
  have hk : (s.fld R.CNT_Bc_COUNT c + n) / 2 ^ 48 ≠ 0 := (Nat.div_pos h (by decide)).ne'
  unfold State.bankAdd State.bankRaw
  dsimp only
  rw [if_neg hk, if_neg (by rw [State.flag_setFld_ne _ _ _ _ (by decide), hc]; decide)]

/-- A wrap of a chained counter carries into the one above, whose own wrap latches BANK_WRAP (R444, R446). -/
theorem State.bankAdd_of_carry {s : State} {c n : Nat} (h : 2 ^ 48 ≤ s.fld R.CNT_Bc_COUNT c + n) (hc : s.flag R.CNT_Bc_CFG_CHAIN c = true) :
    s.bankAdd c n = ((s.setFld R.CNT_Bc_COUNT c (s.fld R.CNT_Bc_COUNT c + n)).setFld R.CNT_Bc_COUNT (c + 1)
      (s.fld R.CNT_Bc_COUNT (c + 1) + (s.fld R.CNT_Bc_COUNT c + n) / 2 ^ 48)).latchIf
        (decide (2 ^ 48 ≤ s.fld R.CNT_Bc_COUNT (c + 1) + (s.fld R.CNT_Bc_COUNT c + n) / 2 ^ 48)) R.CNT_EVT_BANK_WRAP := by
  have hk : (s.fld R.CNT_Bc_COUNT c + n) / 2 ^ 48 ≠ 0 := (Nat.div_pos h (by decide)).ne'
  unfold State.bankAdd State.bankRaw
  dsimp only
  rw [if_neg hk, if_pos (by rw [State.flag_setFld_ne _ _ _ _ (by decide), hc]), State.fld_setFld_inst _ _ _ (by omega)]
  congr 1
  rw [decide_eq_decide, Nat.div_pos_iff]
  simp

/-- The counter takes the sum, but for what wraps. -/
theorem State.count_bankAdd (s : State) (c n : Nat) : (s.bankAdd c n).fld R.CNT_Bc_COUNT c = (s.fld R.CNT_Bc_COUNT c + n) % 2 ^ 48 := by
  by_cases h : s.fld R.CNT_Bc_COUNT c + n < 2 ^ 48
  · rw [State.bankAdd_of_lt h, State.count_setFld]
  · cases hc : s.flag R.CNT_Bc_CFG_CHAIN c with
    | false => rw [State.bankAdd_of_wrap (by omega) hc, State.fld_latch_ne _ _ _ _ (by decide), State.count_setFld]
    | true =>
      rw [State.bankAdd_of_carry (by omega) hc, State.fld_latchIf_ne _ _ _ _ _ (by decide), State.fld_setFld_inst _ _ _ (by omega),
        State.count_setFld]

/-- The counter above a chained one takes the carry. -/
theorem State.count_bankAdd_above {s : State} {c n : Nat} (h : 2 ^ 48 ≤ s.fld R.CNT_Bc_COUNT c + n) (hc : s.flag R.CNT_Bc_CFG_CHAIN c = true) :
    (s.bankAdd c n).fld R.CNT_Bc_COUNT (c + 1) = (s.fld R.CNT_Bc_COUNT (c + 1) + (s.fld R.CNT_Bc_COUNT c + n) / 2 ^ 48) % 2 ^ 48 := by
  rw [State.bankAdd_of_carry h hc, State.fld_latchIf_ne _ _ _ _ _ (by decide), State.count_setFld]

/-- No other counter changes. -/
theorem State.count_bankAdd_ne {s : State} {c k : Nat} (n : Nat) (hk : k ≠ c) (hc : c + 1 = k → s.flag R.CNT_Bc_CFG_CHAIN c = false) :
    (s.bankAdd c n).fld R.CNT_Bc_COUNT k = s.fld R.CNT_Bc_COUNT k := by
  by_cases h : s.fld R.CNT_Bc_COUNT c + n < 2 ^ 48
  · rw [State.bankAdd_of_lt h, State.fld_setFld_inst _ _ _ hk]
  · cases hch : s.flag R.CNT_Bc_CFG_CHAIN c with
    | false => rw [State.bankAdd_of_wrap (by omega) hch, State.fld_latch_ne _ _ _ _ (by decide), State.fld_setFld_inst _ _ _ hk]
    | true =>
      have habove : k ≠ c + 1 := fun e => by simp [hc e.symm] at hch
      rw [State.bankAdd_of_carry (by omega) hch, State.fld_latchIf_ne _ _ _ _ _ (by decide), State.fld_setFld_inst _ _ _ habove,
        State.fld_setFld_inst _ _ _ hk]

/-- BANK_WRAP is latched where a counter wraps that is not chained (R446). -/
theorem State.latched_bankAdd_wrap {s : State} {c n : Nat} (h : 2 ^ 48 ≤ s.fld R.CNT_Bc_COUNT c + n) (hc : s.flag R.CNT_Bc_CFG_CHAIN c = false) :
    (s.bankAdd c n).latched R.CNT_EVT_BANK_WRAP = true := by
  rw [State.bankAdd_of_wrap h hc]
  exact State.latched_latch _ _ _ (by decide)

/-- BANK_WRAP is latched where the counter above a chained one wraps (R446). -/
theorem State.latched_bankAdd_carry {s : State} {c n : Nat} (h : 2 ^ 48 ≤ s.fld R.CNT_Bc_COUNT c + n) (hc : s.flag R.CNT_Bc_CFG_CHAIN c = true)
    (habove : 2 ^ 48 ≤ s.fld R.CNT_Bc_COUNT (c + 1) + (s.fld R.CNT_Bc_COUNT c + n) / 2 ^ 48) :
    (s.bankAdd c n).latched R.CNT_EVT_BANK_WRAP = true := by
  rw [State.bankAdd_of_carry h hc, decide_eq_true habove]
  exact State.latched_latch _ _ _ (by decide)

/-- No event is latched where the counter above takes the carry (R446). -/
theorem State.events_bankAdd_carried {s : State} {c n : Nat} (hc : s.flag R.CNT_Bc_CFG_CHAIN c = true)
    (habove : s.fld R.CNT_Bc_COUNT (c + 1) + (s.fld R.CNT_Bc_COUNT c + n) / 2 ^ 48 < 2 ^ 48) :
    (s.bankAdd c n).fld R.CNT_EVT = s.fld R.CNT_EVT := by
  by_cases h : s.fld R.CNT_Bc_COUNT c + n < 2 ^ 48
  · rw [State.bankAdd_of_lt h, State.fld_setFld_ne _ _ _ _ (by decide)]
  · rw [State.bankAdd_of_carry (by omega) hc, decide_eq_false (by omega)]
    show State.fld (State.setFld _ _ _ _) _ _ = _
    rw [State.fld_setFld_ne _ _ _ _ (by decide), State.fld_setFld_ne _ _ _ _ (by decide)]

/-- What is latched stays latched as a counter counts. -/
theorem State.latched_bankAdd_of_latched {s : State} {e : Ev} (hreg : e.reg = R.CNT_EVT) (hbit : e.bit < 4) (h : s.latched e = true)
    (c n : Nat) : (s.bankAdd c n).latched e = true := by
  have hwidth : e.bit < e.reg.width := by rw [hreg]; exact hbit
  by_cases hlt : s.fld R.CNT_Bc_COUNT c + n < 2 ^ 48
  · rw [State.bankAdd_of_lt hlt, State.latched_setFld_count _ hreg, h]
  · cases hc : s.flag R.CNT_Bc_CFG_CHAIN c with
    | false =>
      rw [State.bankAdd_of_wrap (by omega) hc]
      exact State.latched_latch_of_latched ((State.latched_setFld_count _ hreg _ _).trans h) hwidth hreg.symm 0
    | true =>
      rw [State.bankAdd_of_carry (by omega) hc]
      refine State.latched_latchIf_of_latched ?_ hwidth hreg.symm _ 0
      rw [State.latched_setFld_count _ hreg, State.latched_setFld_count _ hreg, h]

/-! ### The events of the core cycle of a write (R443, R444) -/

/-- A counter that a chain feeds drops them. -/
theorem State.bankAddWritten_of_chained {s : State} {c : Nat} (h : s.chainedBelow c = true) (n : Nat) : s.bankAddWritten c n = s := by
  unfold State.bankAddWritten
  rw [if_pos ((s.chainedBelow_iff c).mp h)]

/-- Any other adds them, and its carry is suppressed. -/
theorem State.bankAddWritten_of_free {s : State} {c : Nat} (h : s.chainedBelow c = false) (n : Nat) :
    ∃ b, s.bankAddWritten c n = (s.setFld R.CNT_Bc_COUNT c (s.fld R.CNT_Bc_COUNT c + n)).latchIf b R.CNT_EVT_BANK_WRAP := by
  have hfree : ¬ (c ≠ 0 ∧ s.flag R.CNT_Bc_CFG_CHAIN (c - 1) = true) := fun e => by simp [(s.chainedBelow_iff c).mpr e] at h
  unfold State.bankAddWritten
  rw [if_neg hfree]
  exact ⟨_, rfl⟩

theorem State.count_bankAddWritten {s : State} {c : Nat} (h : s.chainedBelow c = false) (n : Nat) :
    (s.bankAddWritten c n).fld R.CNT_Bc_COUNT c = (s.fld R.CNT_Bc_COUNT c + n) % 2 ^ 48 := by
  obtain ⟨b, hb⟩ := State.bankAddWritten_of_free h n
  rw [hb, State.fld_latchIf_ne _ _ _ _ _ (by decide), State.count_setFld]

theorem State.count_bankAddWritten_ne (s : State) {c k : Nat} (hk : k ≠ c) (n : Nat) :
    (s.bankAddWritten c n).fld R.CNT_Bc_COUNT k = s.fld R.CNT_Bc_COUNT k := by
  cases h : s.chainedBelow c with
  | true => rw [State.bankAddWritten_of_chained h]
  | false =>
    obtain ⟨b, hb⟩ := State.bankAddWritten_of_free h n
    rw [hb, State.fld_latchIf_ne _ _ _ _ _ (by decide), State.fld_setFld_inst _ _ _ hk]

theorem State.latched_bankAddWritten_of_latched {s : State} {e : Ev} (hreg : e.reg = R.CNT_EVT) (hbit : e.bit < 4) (h : s.latched e = true)
    (c n : Nat) : (s.bankAddWritten c n).latched e = true := by
  cases hc : s.chainedBelow c with
  | true => rw [State.bankAddWritten_of_chained hc, h]
  | false =>
    obtain ⟨b, hb⟩ := State.bankAddWritten_of_free hc n
    rw [hb]
    exact State.latched_latchIf_of_latched ((State.latched_setFld_count _ hreg _ _).trans h) (by rw [hreg]; exact hbit) hreg.symm _ 0

/-! ### The tick of the frame (R440) -/

/-- The tick is counted in counter `c`, in which the counters of `written` have been written (R443). -/
def State.tickBank (written : List Nat) (t : State) (c : Nat) : State :=
  if written.contains c then t.bankAddWritten c 1 else t.bankAdd c 1

theorem tickBank_of_unwritten {written : List Nat} {c : Nat} (h : written.contains c = false) (t : State) :
    t.tickBank written c = t.bankAdd c 1 := by
  unfold State.tickBank
  rw [h, if_neg Bool.false_ne_true]

theorem State.countTick_of_none {s : State} (h : s.plumb.tickDue = none) : s.countTick = s := by
  unfold State.countTick
  rw [h]

/-- The bank counts the tick counter by counter. -/
theorem State.countTick_of_some {s : State} {l : List Nat} (h : s.plumb.tickDue = some l) :
    ∃ p, s.countTick = { (s.bankOf 0xD 0).foldl (State.tickBank l) s with plumb := p } := by
  unfold State.countTick
  rw [h]
  exact ⟨_, rfl⟩

section
variable {s : State} (l ds : List Nat)

theorem bankCfg_tickBank (c : Nat) : BankCfg s (s.tickBank l c) := by
  unfold State.tickBank
  exact ite_k (State.bankAddWritten_k (loose_bankCfg s (by decide)) (BankCfg.refl s) c 1)
    (State.bankAdd_k (loose_bankCfg s (by decide)) (BankCfg.refl s) c 1)

theorem bankCfg_ticks : BankCfg s (ds.foldl (State.tickBank l) s) := by
  refine foldl_k _ _ (BankCfg.refl s) ?_
  intro t c ht f hf
  exact (bankCfg_tickBank l c f hf).trans (ht f hf)

theorem count_tickBank_ne {c k : Nat} (hk : k ≠ c) (hc : c + 1 = k → s.flag R.CNT_Bc_CFG_CHAIN c = false) :
    (s.tickBank l c).fld R.CNT_Bc_COUNT k = s.fld R.CNT_Bc_COUNT k := by
  unfold State.tickBank
  split
  · exact s.count_bankAddWritten_ne hk 1
  · exact State.count_bankAdd_ne 1 hk hc

theorem count_tickBank {c : Nat} (hc : s.chainedBelow c = false) :
    (s.tickBank l c).fld R.CNT_Bc_COUNT c = (s.fld R.CNT_Bc_COUNT c + 1) % 2 ^ 48 := by
  unfold State.tickBank
  split
  · exact State.count_bankAddWritten hc 1
  · exact s.count_bankAdd c 1

variable {ds}

/-- A counter that neither takes the tick nor a carry of one that does keeps its value. -/
theorem count_ticks_ne {k : Nat} (hk : k ∉ ds) (hc : ∀ c ∈ ds, c + 1 = k → s.flag R.CNT_Bc_CFG_CHAIN c = false) :
    (ds.foldl (State.tickBank l) s).fld R.CNT_Bc_COUNT k = s.fld R.CNT_Bc_COUNT k := by
  suffices h : BankCfg s (ds.foldl (State.tickBank l) s) ∧ (ds.foldl (State.tickBank l) s).fld R.CNT_Bc_COUNT k = s.fld R.CNT_Bc_COUNT k from h.2
  refine foldl_mem_k (K := fun t => BankCfg s t ∧ t.fld R.CNT_Bc_COUNT k = s.fld R.CNT_Bc_COUNT k) _ _ ⟨BankCfg.refl s, rfl⟩ ?_
  rintro t c hmem ⟨hcfg, hcount⟩
  refine ⟨fun f hf => (bankCfg_tickBank l c f hf).trans (hcfg f hf), (count_tickBank_ne l ?_ ?_).trans hcount⟩
  · rintro rfl
    exact hk hmem
  · intro hnext
    rw [hcfg.chain, hc c hmem hnext]

/-- A counter of ticks that no chain feeds takes the tick. -/
theorem count_ticks {k : Nat} (hnodup : ds.Nodup) (hk : k ∈ ds) (hchain : s.chainedBelow k = false) :
    (ds.foldl (State.tickBank l) s).fld R.CNT_Bc_COUNT k = (s.fld R.CNT_Bc_COUNT k + 1) % 2 ^ 48 := by
  obtain ⟨before, after, rfl⟩ := List.append_of_mem hk
  have hfeeds : ∀ c, c + 1 = k → s.flag R.CNT_Bc_CFG_CHAIN c = false := by
    rintro c rfl
    simpa [State.chainedBelow] using hchain
  obtain ⟨-, hafter, hdisjoint⟩ := List.nodup_append.mp hnodup
  have hcfg : BankCfg s (before.foldl (State.tickBank l) s) := bankCfg_ticks l before
  rw [List.foldl_append, List.foldl_cons, count_ticks_ne l (List.nodup_cons.mp hafter).1, count_tickBank l, count_ticks_ne l]
  · exact fun h => hdisjoint k h k (List.mem_cons_self ..) rfl
  · exact fun c _ => hfeeds c
  · rw [hcfg.chainedBelow, hchain]
  · intro c _ hnext
    rw [(bankCfg_tickBank l k).chain, hcfg.chain, hfeeds c hnext]

/-- The tick that wraps a chained counter of ticks carries into the counter above. -/
theorem count_ticks_above {j : Nat} (hnodup : ds.Nodup) (hj : j ∈ ds) (hnext : j + 1 ∉ ds) (hunwritten : l.contains j = false)
    (hbelow : s.chainedBelow j = false) (hchain : s.flag R.CNT_Bc_CFG_CHAIN j = true) (hfull : s.fld R.CNT_Bc_COUNT j = 2 ^ 48 - 1) :
    (ds.foldl (State.tickBank l) s).fld R.CNT_Bc_COUNT (j + 1) = (s.fld R.CNT_Bc_COUNT (j + 1) + 1) % 2 ^ 48 := by
  obtain ⟨before, after, rfl⟩ := List.append_of_mem hj
  have hfeeds : ∀ c, c + 1 = j → s.flag R.CNT_Bc_CFG_CHAIN c = false := by
    rintro c rfl
    simpa [State.chainedBelow] using hbelow
  obtain ⟨-, hafter, hdisjoint⟩ := List.nodup_append.mp hnodup
  have hnotBefore : j ∉ before := fun h => hdisjoint j h j (List.mem_cons_self ..) rfl
  have hcfg : BankCfg s (before.foldl (State.tickBank l) s) := bankCfg_ticks l before
  have hfirst : (before.foldl (State.tickBank l) s).fld R.CNT_Bc_COUNT j = 2 ^ 48 - 1 :=
    (count_ticks_ne l hnotBefore (fun c _ => hfeeds c)).trans hfull
  have habove : (before.foldl (State.tickBank l) s).fld R.CNT_Bc_COUNT (j + 1) = s.fld R.CNT_Bc_COUNT (j + 1) := by
    refine count_ticks_ne l (fun h => hnext (List.mem_append_left _ h)) ?_
    intro c hmem e
    obtain rfl : c = j := by omega
    exact absurd hmem hnotBefore
  rw [List.foldl_append, List.foldl_cons, count_ticks_ne l]
  · rw [tickBank_of_unwritten hunwritten, State.count_bankAdd_above (by omega) (by rw [hcfg.chain, hchain]), habove, hfirst,
      show (2 ^ 48 - 1 + 1) / 2 ^ 48 = 1 by decide]
  · exact fun h => hnext (List.mem_append_right _ (List.mem_cons_of_mem _ h))
  · intro c hmem e
    obtain rfl : c = j := by omega
    exact absurd hmem (List.nodup_cons.mp hafter).1

end

/-- Where no counter counts ticks, the tick changes no counter. -/
theorem State.count_countTick_of_none {s : State} (h : ∀ c, s.bankTakes 0xD 0 c = false) (k : Nat) :
    s.countTick.fld R.CNT_Bc_COUNT k = s.fld R.CNT_Bc_COUNT k := by
  have hempty : s.bankOf 0xD 0 = [] := List.filter_eq_nil_iff.mpr (fun c _ => by simp [h c])
  cases hdue : s.plumb.tickDue with
  | none => rw [State.countTick_of_none hdue]
  | some l =>
    obtain ⟨p, hp⟩ := State.countTick_of_some hdue
    rw [hp, hempty]
    rfl

/-- A counter that no chain feeds counts the tick where ticks are its source. -/
theorem State.count_countTick {s : State} {l : List Nat} (hdue : s.plumb.tickDue = some l)
    (hwf : (s.regs.get R.CNT_Bc_CFG_SRC.id {}).wf = true) {k : Nat} (hk : s.chainedBelow k = false) :
    s.countTick.fld R.CNT_Bc_COUNT k =
      if s.bankTakes 0xD 0 k then (s.fld R.CNT_Bc_COUNT k + 1) % 2 ^ 48 else s.fld R.CNT_Bc_COUNT k := by
  obtain ⟨p, hp⟩ := State.countTick_of_some hdue
  rw [hp]
  split
  · next htakes => exact count_ticks l (State.nodup_bankOf hwf 0xD 0) ((s.mem_bankOf (by decide) 0 k).mpr htakes) hk
  · next hnot =>
    refine count_ticks_ne l (fun hmem => hnot ((s.mem_bankOf (by decide) 0 k).mp hmem)) ?_
    rintro c - rfl
    simpa [State.chainedBelow] using hk

/-- The counter above takes the carry of a counter of ticks that wraps as it counts the tick. -/
theorem State.count_countTick_above {s : State} (hdue : s.plumb.tickDue = some []) (hwf : (s.regs.get R.CNT_Bc_CFG_SRC.id {}).wf = true)
    {j : Nat} (htakes : s.bankTakes 0xD 0 j = true) (hchain : s.flag R.CNT_Bc_CFG_CHAIN j = true)
    (hfull : s.fld R.CNT_Bc_COUNT j = 2 ^ 48 - 1) :
    s.countTick.fld R.CNT_Bc_COUNT (j + 1) = (s.fld R.CNT_Bc_COUNT (j + 1) + 1) % 2 ^ 48 := by
  obtain ⟨p, hp⟩ := State.countTick_of_some hdue
  have hnext : s.bankTakes 0xD 0 (j + 1) ≠ true := by
    rw [ne_eq, s.bankTakes_iff (by decide)]
    simp [State.chainedBelow, hchain]
  rw [hp]
  exact count_ticks_above [] (State.nodup_bankOf hwf 0xD 0) ((s.mem_bankOf (by decide) 0 j).mpr htakes)
    (fun hmem => hnext ((s.mem_bankOf (by decide) 0 _).mp hmem)) rfl ((s.bankTakes_iff (by decide) 0 j).mp htakes).2 hchain hfull

/-- What is latched stays latched as the tick is counted. -/
theorem State.latched_countTick_of_latched {s : State} {e : Ev} (hreg : e.reg = R.CNT_EVT) (hbit : e.bit < 4) (h : s.latched e = true) :
    s.countTick.latched e = true := by
  cases hdue : s.plumb.tickDue with
  | none => rw [State.countTick_of_none hdue, h]
  | some l =>
    obtain ⟨p, hp⟩ := State.countTick_of_some hdue
    rw [hp]
    refine foldl_k (K := fun t => t.latched e = true) _ (s.bankOf 0xD 0) h ?_
    intro t c ht
    unfold State.tickBank
    split
    · exact State.latched_bankAddWritten_of_latched hreg hbit ht c 1
    · exact State.latched_bankAdd_of_latched hreg hbit ht c 1

/-! ### Once nothing of the tick has still to act (R440, R447 to R449) -/

/-- The bank counts the tick, unless an act of the tick is still to come. -/
theorem State.settleTick_cases (s : State) : s.settleTick = s ∨ s.settleTick = s.countTick := by
  unfold State.settleTick
  split
  · exact .inl rfl
  · exact .inr rfl

theorem State.settleTick_of_idle {s : State} (h : s.actsDue = false) : s.settleTick = s.countTick := by
  simp [State.settleTick, h]

theorem State.latched_settleTick_of_latched {s : State} {e : Ev} (hreg : e.reg = R.CNT_EVT) (hbit : e.bit < 4) (h : s.latched e = true) :
    s.settleTick.latched e = true := by
  obtain hs | hs := s.settleTick_cases <;> rw [hs]
  · exact h
  · exact State.latched_countTick_of_latched hreg hbit h

end Sys2Proof.Machine
end

section
/-! Clears and snapshots: what they make 0 and what they copy (R447 to R449). -/

namespace Sys2Proof

/-- What a table does not keep reads as the default. -/
theorem Tab.get_keep_of_dropped {α : Type} (t : Tab α) (p : Nat → α → Bool) {k : Nat} (d : α) (h : ∀ v, p k v = false) :
    (t.keep p).get k d = d := by
  refine Tab.get_of_not_mem_keys ?_ d
  intro hk
  obtain ⟨e, he, rfl⟩ := List.mem_map.mp hk
  obtain ⟨-, hp⟩ := List.mem_filter.mp he
  simp [h e.2] at hp

/-- A value that is the default stays it, whatever is kept. -/
theorem Tab.get_keep_of_default {α : Type} (t : Tab α) (p : Nat → Bool) {k : Nat} {d : α} (h : t.get k d = d) :
    (t.keep (fun i _ => p i)).get k d = d := by
  cases hp : p k with
  | true => rw [Tab.get_keep_of t (fun i _ => p i) d (fun _ => hp), h]
  | false => exact Tab.get_keep_of_dropped t (fun i _ => p i) d (fun _ => hp)

namespace Machine

/-- A fold establishes what one of its elements establishes from what they all keep, when all keep it then. -/
theorem foldl_establishes {α : Type} {I K : State → Prop} {f : State → α → State} {l : List α} {x : α} (hx : x ∈ l)
    (hI : ∀ t y, I t → I (f t y)) (hset : ∀ t, I t → K (f t x)) (hK : ∀ t y, K t → K (f t y)) {s : State} (hs : I s) :
    K (l.foldl f s) := by
  obtain ⟨before, after, rfl⟩ := List.append_of_mem hx
  rw [List.foldl_append, List.foldl_cons]
  exact foldl_k f after (hset _ (foldl_k f before hs hI)) hK

/-! ### What is cleared (R447, R457) -/

@[simp] theorem State.zeroBank_tickDue (s : State) (c : Nat) : (s.zeroBank c).plumb.tickDue = s.plumb.tickDue := by
  unfold State.zeroBank
  split <;> rfl

/-- A counter that has not been written in the core cycle of the tick is made 0. -/
theorem State.count_zeroBank {s : State} {c : Nat} (h : (s.plumb.tickDue.getD []).contains c = false) :
    (s.zeroBank c).fld R.CNT_Bc_COUNT c = 0 := by
  unfold State.zeroBank
  rw [h, if_neg Bool.false_ne_true]
  exact State.count_setFld _ c 0

theorem State.count_zeroBank_ne (s : State) {c k : Nat} (hk : k ≠ c) : (s.zeroBank c).fld R.CNT_Bc_COUNT k = s.fld R.CNT_Bc_COUNT k := by
  unfold State.zeroBank
  split
  · rfl
  · exact State.fld_setFld_inst _ _ _ hk

theorem State.count_zeroBank_of_zero {s : State} {k : Nat} (h : s.fld R.CNT_Bc_COUNT k = 0) (c : Nat) :
    (s.zeroBank c).fld R.CNT_Bc_COUNT k = 0 := by
  by_cases hk : k = c
  · subst hk
    unfold State.zeroBank
    split
    · exact h
    · exact State.count_setFld _ k 0
  · rw [State.count_zeroBank_ne s hk, h]

/-- Every counter of a list that is made 0 is 0, unless it was written in the core cycle of the tick. -/
theorem State.count_zeroBanks {α : Type} {s : State} {f : α → Nat} {l : List α} {x : α} (hx : x ∈ l)
    (h : (s.plumb.tickDue.getD []).contains (f x) = false) :
    (l.foldl (fun t y => t.zeroBank (f y)) s).fld R.CNT_Bc_COUNT (f x) = 0 :=
  foldl_establishes (I := fun t => t.plumb.tickDue = s.plumb.tickDue) (K := fun t => t.fld R.CNT_Bc_COUNT (f x) = 0) hx
    (fun t y ht => (t.zeroBank_tickDue (f y)).trans ht) (fun _ ht => State.count_zeroBank (by rw [ht, h]))
    (fun _ y ht => State.count_zeroBank_of_zero ht (f y)) rfl

/-- The bins of a cleared histogram are 0. -/
theorem State.bin_clearHist (s : State) {k b : Nat} (h : b / 256 = k) : (s.clearHist k).fld R.PEG_HBIN_COUNT b = 0 := by
  unfold State.clearHist
  rw [State.fld_setFld_ne _ _ _ _ (by decide)]
  unfold State.fld
  rw [Tab.get_put_self]
  exact Tab.get_keep_of_dropped _ _ _ (fun _ => by simp [h])

theorem State.bin_clearHist_of_zero {s : State} {b : Nat} (h : s.fld R.PEG_HBIN_COUNT b = 0) (k : Nat) :
    (s.clearHist k).fld R.PEG_HBIN_COUNT b = 0 := by
  unfold State.clearHist
  rw [State.fld_setFld_ne _ _ _ _ (by decide)]
  unfold State.fld
  rw [Tab.get_put_self]
  exact Tab.get_keep_of_default _ (fun i => decide (i / 256 ≠ k)) h

/-- Every bin of the histograms of a list that are cleared is 0. -/
theorem State.bin_clearHists {α : Type} (s : State) {f : α → Nat} {l : List α} {x : α} (hx : x ∈ l) {b : Nat} (h : b / 256 = f x) :
    (l.foldl (fun t y => t.clearHist (f y)) s).fld R.PEG_HBIN_COUNT b = 0 :=
  foldl_establishes (I := fun _ => True) (K := fun t => t.fld R.PEG_HBIN_COUNT b = 0) hx
    (fun _ _ _ => trivial) (fun t _ => t.bin_clearHist h) (fun _ y ht => State.bin_clearHist_of_zero ht (f y)) trivial

/-! ### A clear (R447) -/

theorem State.clearRun_banks (s : State) (first count : Nat) :
    s.clearRun 1 first count = (List.range count).foldl (fun t k => t.zeroBank (first + k)) s := rfl

theorem exists_offset {first count k : Nat} (h1 : first ≤ k) (h2 : k < first + count) : ∃ j ∈ List.range count, first + j = k :=
  ⟨k - first, List.mem_range.mpr (by omega), by omega⟩

/-- A clear of bank counters makes those it names 0. -/
theorem State.count_clearRun {s : State} {first count k : Nat} (h1 : first ≤ k) (h2 : k < first + count)
    (h : (s.plumb.tickDue.getD []).contains k = false) : (s.clearRun 1 first count).fld R.CNT_Bc_COUNT k = 0 := by
  obtain ⟨j, hj, rfl⟩ := exists_offset h1 h2
  exact State.count_zeroBanks (f := fun j => first + j) hj h

/-- A clear of bank counters keeps those that it does not name. -/
theorem State.count_clearRun_ne {s : State} {first count k : Nat} (h : k < first) :
    (s.clearRun 1 first count).fld R.CNT_Bc_COUNT k = s.fld R.CNT_Bc_COUNT k := by
  rw [State.clearRun_banks]
  refine foldl_k (K := fun t => t.fld R.CNT_Bc_COUNT k = s.fld R.CNT_Bc_COUNT k) _ _ rfl ?_
  intro t j ht
  rw [State.count_zeroBank_ne t (by omega), ht]

theorem State.tickDue_clearRun_banks (s : State) (first count : Nat) : (s.clearRun 1 first count).plumb.tickDue = s.plumb.tickDue := by
  rw [State.clearRun_banks]
  exact foldl_k (K := fun t => t.plumb.tickDue = s.plumb.tickDue) _ _ rfl (fun t j ht => (t.zeroBank_tickDue (first + j)).trans ht)

/-- A clear of histograms makes the bins of those that it names 0. -/
theorem State.bin_clearRun (s : State) {first count b : Nat} (h1 : first ≤ b / 256) (h2 : b / 256 < first + count) :
    (s.clearRun 2 first count).fld R.PEG_HBIN_COUNT b = 0 := by
  obtain ⟨j, hj, hb⟩ := exists_offset h1 h2
  exact State.bin_clearHists s (f := fun j => first + j) hj hb.symm

theorem fixedAt_mem {k : Nat} {f : Fld} {i : Nat} (h : fixedAt k = some (f, i)) : f ∈ fixedFamilies.map (·.fld) := by
  obtain ⟨e, he, hx⟩ := List.exists_of_findSome?_eq_some h
  split at hx
  · exact List.mem_map.mpr ⟨e, he, (Prod.mk.inj (Option.some.inj hx)).1⟩
  · cases hx

/-- The families of fixed counters are fields of their own. -/
theorem fixed_of_id : ∀ f ∈ fixedFamilies.map (·.fld), ∀ g ∈ fixedFamilies.map (·.fld), f.id = g.id → f = g := by decide

theorem State.fixed_setFld_zero {s : State} {f g : Fld} (hf : f ∈ fixedFamilies.map (·.fld)) (hg : g ∈ fixedFamilies.map (·.fld)) {i : Nat}
    (h : s.fld f i = 0) (j : Nat) : (s.setFld g j 0).fld f i = 0 := by
  by_cases hid : f.id = g.id
  · rw [← fixed_of_id f hf g hg hid, State.fld_setFld, Nat.zero_mod, h, ite_self]
  · rw [State.fld_setFld_ne _ _ _ _ hid, h]

/-- A clear of fixed counters makes those that it names 0. -/
theorem State.fixed_clearRun (s : State) {first count k : Nat} (h1 : first ≤ k) (h2 : k < first + count) {f : Fld} {i : Nat}
    (h : fixedAt k = some (f, i)) : (s.clearRun 0 first count).fld f i = 0 := by
  obtain ⟨j, hj, rfl⟩ := exists_offset h1 h2
  refine foldl_establishes (I := fun _ => True) (K := fun t => t.fld f i = 0) hj (fun _ _ _ => trivial) ?_ ?_ trivial
  · intro t _
    simp [h]
  · intro t y ht
    rw [if_pos rfl]
    split
    · next g j' hg => exact State.fixed_setFld_zero (fixedAt_mem h) (fixedAt_mem hg) ht j'
    · exact ht

/-! ### A snapshot (R448, R449) -/

theorem State.archiveSnap_eq (s : State) : ∃ a, s.archiveSnap = { s with archive := a } := by
  unfold State.archiveSnap
  dsimp only
  split
  · exact ⟨_, rfl⟩
  · exact ⟨s.archive, rfl⟩

/-- Without CLR_ON_SNAP a snapshot clears nothing. -/
theorem State.clearOnSnap_of_off {s : State} (h : s.flag R.CNT_CFG_CLR_ON_SNAP = false) : s.clearOnSnap = s := by
  simp [State.clearOnSnap, h]

theorem State.clearOnSnap_of_on {s : State} (h : s.flag R.CNT_CFG_CLR_ON_SNAP = true) :
    s.clearOnSnap = (List.range 64).foldl (fun t h => t.clearHist h)
      ((s.regs.get R.CNT_Bc_COUNT.id {}).keys.foldl (fun t c => t.zeroBank c) s) := if_pos h

/-- With CLR_ON_SNAP every bank counter is 0, but for one written in the core cycle of the tick (R449). -/
theorem State.count_clearOnSnap {s : State} (h : s.flag R.CNT_CFG_CLR_ON_SNAP = true) {c : Nat}
    (hc : (s.plumb.tickDue.getD []).contains c = false) : s.clearOnSnap.fld R.CNT_Bc_COUNT c = 0 := by
  rw [State.clearOnSnap_of_on h]
  refine foldl_k (K := fun t => t.fld R.CNT_Bc_COUNT c = 0) _ _ ?_ (fun t k ht => (t.fld_clearHist k c (by decide)).trans ht)
  by_cases hkey : c ∈ (s.regs.get R.CNT_Bc_COUNT.id {}).keys
  · exact State.count_zeroBanks (f := id) hkey hc
  · refine foldl_k (K := fun t => t.fld R.CNT_Bc_COUNT c = 0) _ _ ?_ (fun t k ht => State.count_zeroBank_of_zero ht k)
    exact Tab.get_of_not_mem_keys hkey _

/-- With CLR_ON_SNAP every bin is 0 (R449). -/
theorem State.bin_clearOnSnap {s : State} (h : s.flag R.CNT_CFG_CLR_ON_SNAP = true) {b : Nat} (hb : b < 16384) :
    s.clearOnSnap.fld R.PEG_HBIN_COUNT b = 0 := by
  rw [State.clearOnSnap_of_on h]
  exact State.bin_clearHists _ (f := id) (List.mem_range.mpr (by omega : b / 256 < 64)) rfl

theorem State.tickDue_clearOnSnap (s : State) : s.clearOnSnap.plumb.tickDue = s.plumb.tickDue := by
  unfold State.clearOnSnap
  refine ite_k (K := fun t => t.plumb.tickDue = s.plumb.tickDue) ?_ rfl
  refine foldl_k (K := fun t => t.plumb.tickDue = s.plumb.tickDue) _ _ ?_ (fun _ _ ht => ht)
  exact foldl_k (K := fun t => t.plumb.tickDue = s.plumb.tickDue) _ _ rfl (fun t c ht => (t.zeroBank_tickDue c).trans ht)

/-- Each SN count takes the count as it stands (R448). -/
theorem State.freeze_count (s : State) (c : Nat) : s.freeze.fld R.CNT_Bc_SN_COUNT c = s.fld R.CNT_Bc_COUNT c := by
  unfold State.freeze
  rw [State.fld_setFld_ne _ _ _ _ (by decide)]
  unfold State.fld
  rw [Tab.get_put_ne _ _ _ (by decide), Tab.get_put_self]
  rfl

theorem State.freeze_bin (s : State) (b : Nat) : s.freeze.fld R.PEG_HBIN_SN_COUNT b = s.fld R.PEG_HBIN_COUNT b := by
  unfold State.freeze
  rw [State.fld_setFld_ne _ _ _ _ (by decide)]
  unfold State.fld
  rw [Tab.get_put_self]
  rfl

theorem State.freeze_frame (s : State) : s.freeze.fld R.DEV_FRAME_SN_FRAME = s.frame % 2 ^ 32 := State.fld_setFld_self _ _ _ _

theorem State.fld_addFld_ne (s : State) {f g : Fld} (i j n : Nat) (h : g.id ≠ f.id) : (s.addFld f i n).fld g j = s.fld g j := by
  unfold State.addFld
  split
  · rfl
  · exact State.fld_setFld_ne s i j _ h

/-- `s` with every count copied by a snapshot of the present tick: the first part of `State.snapNow`. -/
def State.snapCopied (s : State) : State := ({ s with snapAt := none, snapped := some s.frame }.setFld R.CNT_STAT_SNAP_PENDING 0 0).freeze

/-- `s` with a snapshot of the present tick counted and its archive entry waiting, before what it clears. -/
def State.snapTaken (s : State) : State := (s.snapCopied.addFld R.CNT_STAT_SNAPS 0 1).archiveSnap

theorem State.snapNow_of_due {s : State} (h : s.snapDue = true) : s.snapNow = s.snapTaken.clearOnSnap.latch R.CNT_EVT_SNAP_DONE := by
  simp [State.snapNow, h, State.snapTaken, State.snapCopied]

theorem State.snapNow_of_not_due {s : State} (h : s.snapDue = false) : s.snapNow = s := by
  simp [State.snapNow, h]

/-- Counting a snapshot and queueing its entry changes SNAPS and the archive. -/
theorem State.fld_snapTaken (s : State) {f : Fld} (i : Nat) (h : f.id ≠ R.CNT_STAT_SNAPS.id) : s.snapTaken.fld f i = s.snapCopied.fld f i := by
  obtain ⟨a, ha⟩ := (s.snapCopied.addFld R.CNT_STAT_SNAPS 0 1).archiveSnap_eq
  unfold State.snapTaken
  rw [ha]
  exact State.fld_addFld_ne _ _ _ _ h

theorem State.snapTaken_snaps (s : State) :
    s.snapTaken.fld R.CNT_STAT_SNAPS = (s.fld R.CNT_STAT_SNAPS + 1) % 2 ^ R.CNT_STAT_SNAPS.width := by
  have hsnaps : s.snapCopied.fld R.CNT_STAT_SNAPS = s.fld R.CNT_STAT_SNAPS :=
    (State.fld_freeze _ 0 (by decide)).trans (State.fld_setFld_ne _ _ _ _ (by decide))
  obtain ⟨a, ha⟩ := (s.snapCopied.addFld R.CNT_STAT_SNAPS 0 1).archiveSnap_eq
  unfold State.snapTaken
  rw [ha, ← hsnaps]
  exact State.fld_setFld_self _ _ _ _

section
variable (s : State)

theorem State.snapTaken_parts : s.snapTaken.plumb = s.plumb ∧ s.snapTaken.snapAt = none ∧ s.snapTaken.snapped = some s.frame := by
  obtain ⟨a, ha⟩ := (s.snapCopied.addFld R.CNT_STAT_SNAPS 0 1).archiveSnap_eq
  unfold State.snapTaken
  rw [ha]
  exact ⟨rfl, rfl, rfl⟩

theorem State.snapTaken_count (c : Nat) : s.snapTaken.fld R.CNT_Bc_COUNT c = s.fld R.CNT_Bc_COUNT c := by
  rw [State.fld_snapTaken _ _ (by decide)]
  exact (State.fld_freeze _ c (by decide)).trans (State.fld_setFld_ne _ _ _ _ (by decide))

theorem State.snapTaken_clrOnSnap : s.snapTaken.flag R.CNT_CFG_CLR_ON_SNAP = s.flag R.CNT_CFG_CLR_ON_SNAP := by
  unfold State.flag
  rw [State.fld_snapTaken _ _ (by decide)]
  exact congrArg (· == 1) ((State.fld_freeze _ 0 (by decide)).trans (State.fld_setFld_ne _ _ _ _ (by decide)))

end

section
variable {s : State}

/-- What a snapshot copies and counts stands after it. -/
theorem State.fld_snapNow_of_due (h : s.snapDue = true) {f : Fld}
    (hf : f ∈ [R.CNT_Bc_SN_COUNT, R.PEG_HBIN_SN_COUNT, R.DEV_FRAME_SN_FRAME, R.CNT_STAT_SNAPS]) (i : Nat) :
    s.snapNow.fld f i = s.snapTaken.fld f i := by
  rw [State.snapNow_of_due h, State.fld_latch_ne _ _ _ _ (by revert f; decide), State.fld_clearOnSnap _ i (by revert f; decide)]

theorem State.snapNow_count_copied (h : s.snapDue = true) (c : Nat) : s.snapNow.fld R.CNT_Bc_SN_COUNT c = s.fld R.CNT_Bc_COUNT c := by
  rw [State.fld_snapNow_of_due h (by decide), State.fld_snapTaken _ _ (by decide)]
  exact (State.freeze_count _ c).trans (State.fld_setFld_ne _ _ _ _ (by decide))

theorem State.snapNow_bin_copied (h : s.snapDue = true) (b : Nat) : s.snapNow.fld R.PEG_HBIN_SN_COUNT b = s.fld R.PEG_HBIN_COUNT b := by
  rw [State.fld_snapNow_of_due h (by decide), State.fld_snapTaken _ _ (by decide)]
  exact (State.freeze_bin _ b).trans (State.fld_setFld_ne _ _ _ _ (by decide))

theorem State.snapNow_frame_copied (h : s.snapDue = true) : s.snapNow.fld R.DEV_FRAME_SN_FRAME = s.frame % 2 ^ 32 := by
  rw [State.fld_snapNow_of_due h (by decide), State.fld_snapTaken _ _ (by decide)]
  exact (State.freeze_frame _).trans (congrArg (· % 2 ^ 32) (State.fld_setFld_ne _ _ _ _ (by decide)))

theorem State.snapNow_snaps (h : s.snapDue = true) :
    s.snapNow.fld R.CNT_STAT_SNAPS = (s.fld R.CNT_STAT_SNAPS + 1) % 2 ^ R.CNT_STAT_SNAPS.width := by
  rw [State.fld_snapNow_of_due h (by decide), State.snapTaken_snaps]

theorem State.snapNow_latched (h : s.snapDue = true) : s.snapNow.latched R.CNT_EVT_SNAP_DONE = true := by
  rw [State.snapNow_of_due h]
  exact State.latched_latch _ _ _ (by decide)

/-- With CLR_ON_SNAP a snapshot leaves every bank counter 0, but for one written in the core cycle of the tick (R449). -/
theorem State.count_snapNow_of_on (h : s.snapDue = true) (hon : s.flag R.CNT_CFG_CLR_ON_SNAP = true) {c : Nat}
    (hc : (s.plumb.tickDue.getD []).contains c = false) : s.snapNow.fld R.CNT_Bc_COUNT c = 0 := by
  obtain ⟨hplumb, -, -⟩ := s.snapTaken_parts
  rw [State.snapNow_of_due h, State.fld_latch_ne _ _ _ _ (by decide)]
  exact State.count_clearOnSnap ((s.snapTaken_clrOnSnap).trans hon) (by rw [hplumb, hc])

/-- Without it the counters go on. -/
theorem State.count_snapNow_of_off (h : s.snapDue = true) (hoff : s.flag R.CNT_CFG_CLR_ON_SNAP = false) (c : Nat) :
    s.snapNow.fld R.CNT_Bc_COUNT c = s.fld R.CNT_Bc_COUNT c := by
  rw [State.snapNow_of_due h, State.fld_latch_ne _ _ _ _ (by decide), State.clearOnSnap_of_off ((s.snapTaken_clrOnSnap).trans hoff),
    State.snapTaken_count]

theorem State.bin_snapNow_of_on (h : s.snapDue = true) (hon : s.flag R.CNT_CFG_CLR_ON_SNAP = true) {b : Nat} (hb : b < 16384) :
    s.snapNow.fld R.PEG_HBIN_COUNT b = 0 := by
  rw [State.snapNow_of_due h, State.fld_latch_ne _ _ _ _ (by decide)]
  exact State.bin_clearOnSnap ((s.snapTaken_clrOnSnap).trans hon) hb

end

section
variable (s : State)

theorem bankCfg_snapNow : BankCfg s s.snapNow := State.snapNow_k (loose_bankCfg s (by decide)) (BankCfg.refl s)

theorem State.snapNow_sampled : s.snapNow.sampled = s.sampled :=
  State.snapNow_k (loose_part s .sampled (by decide) (by decide) (by decide)) rfl

theorem State.snapNow_clear : s.snapNow.clear = s.clear :=
  State.snapNow_k (loose_part s .clear (by decide) (by decide) (by decide)) rfl

theorem State.snapNow_tickDue : s.snapNow.plumb.tickDue = s.plumb.tickDue := by
  cases h : s.snapDue with
  | false => rw [State.snapNow_of_not_due h]
  | true =>
    obtain ⟨hplumb, -, -⟩ := s.snapTaken_parts
    rw [State.snapNow_of_due h, State.latch_plumb, State.tickDue_clearOnSnap, hplumb]

theorem State.snapNow_snapAt {s : State} (h : s.snapDue = true) : s.snapNow.snapAt = none := by
  obtain ⟨-, hsnapAt, -⟩ := s.snapTaken_parts
  rw [State.snapNow_of_due h, State.latch_snapAt]
  exact (State.clearOnSnap_k (loose_part s.snapTaken .snapAt (by decide) (by decide) (by decide)) rfl).trans hsnapAt

/-- A snapshot is made once. -/
theorem State.snapDue_snapNow : s.snapNow.snapDue = false := by
  cases h : s.snapDue with
  | false => rw [State.snapNow_of_not_due h, h]
  | true =>
    obtain ⟨-, -, hmade⟩ := s.snapTaken_parts
    have hframe : s.snapNow.frame = s.frame := State.fld_snapNow s 0 (by decide)
    have hsnapped : s.snapNow.snapped = some s.frame := by
      rw [State.snapNow_of_due h, State.latch_snapped]
      exact (State.clearOnSnap_k (loose_part s.snapTaken .snapped (by decide) (by decide) (by decide)) rfl).trans hmade
    simp [State.snapDue, hframe, hsnapped]

end

end Machine
end Sys2Proof
end

section
/-! The snapshot, the clear and the wrap of a counter as the obligation O45 states them (R440 to R449). -/

namespace Sys2Proof.Machine

/-! ### The snapshot (R448, R449) -/

/-- SNAPSHOT makes what is due, lets the bank count the tick where nothing else is to come, and stamps the records of the tick. -/
theorem answers_snapshot {s : State} {P : State → Prop} (h : P (s.snapNow.settleTick.stampTick s)) : Answers .snapshot s P := ⟨_, rfl, h⟩

section
variable {s : State}

/-- Where no counter counts ticks, what is left in the counters is what the snapshot left. -/
theorem State.count_settleTick_of_none {s : State} (h : ∀ c, s.bankTakes 0xD 0 c = false) (k : Nat) :
    s.settleTick.fld R.CNT_Bc_COUNT k = s.fld R.CNT_Bc_COUNT k := by
  obtain hs | hs := s.settleTick_cases <;> rw [hs]
  exact State.count_countTick_of_none h k

/-- A snapshot that clears leaves 1 in a counter of ticks, once nothing else of the tick has to act: the tick is counted after it. -/
theorem State.count_snapshot_ticks (h : s.snapDue = true) (hon : s.flag R.CNT_CFG_CLR_ON_SNAP = true) (hdue : s.plumb.tickDue = some [])
    (hsampled : s.sampled = none) (hclear : s.clear = none) (hwf : (s.regs.get R.CNT_Bc_CFG_SRC.id {}).wf = true) {c : Nat}
    (hc : s.bankTakes 0xD 0 c = true) : s.snapNow.settleTick.fld R.CNT_Bc_COUNT c = 1 := by
  have hcfg := bankCfg_snapNow s
  have hidle : s.snapNow.actsDue = false := by
    simp [State.actsDue, State.snapDue_snapNow, State.snapNow_sampled, State.snapNow_clear, hsampled, hclear]
  obtain ⟨-, hfree⟩ := (s.bankTakes_iff (by decide) 0 c).mp hc
  rw [State.settleTick_of_idle hidle, State.count_countTick ((s.snapNow_tickDue).trans hdue) (by rw [hcfg _ (by decide), hwf])
    (by rw [hcfg.chainedBelow, hfree]), hcfg.bankTakes, hc, if_pos rfl, State.count_snapNow_of_on h hon (by rw [hdue]; rfl)]
  decide

end

/-! ### The clear (R447) -/

/-- Whether a snapshot is due depends on these fields and parts. -/
theorem State.snapDue_congr {s t : State} (hf : ∀ f ∈ [R.CNT_CFG_PERIOD, R.DEV_FRAME_FRAME, R.PLB_STATUS_STATE], t.fld f = s.fld f)
    (hat : t.snapAt = s.snapAt) (hmade : t.snapped = s.snapped) : t.snapDue = s.snapDue := by
  unfold State.snapDue State.ticking State.plb State.frame
  rw [hf _ (by decide), hf _ (by decide), hf _ (by decide), hat, hmade]

section
variable {s : State} {c : ClearReq}

/-- `s` with the clear `c` made at its tick, before the bank counts the tick. -/
def State.cleared (s : State) (c : ClearReq) : State :=
  (({ s.snapNow with clear := none }.clearRun c.kind c.first c.count).setFld R.CNT_STAT_CLR_PENDING 0 0).latch R.CNT_EVT_CLR_DONE

/-- COUNTER_CLEAR at its tick makes the clear, after a snapshot that is due. -/
theorem answers_counterClear {P : State → Prop} (hc : s.clear = some c) (hreached : frameReached s.frame c.tick = true)
    (h : P ((s.cleared c).settleTick.stampTick s)) : Answers .counterClear s P := by
  refine ⟨_, rfl, ?_⟩
  simp only [hc, hreached, Bool.not_true, Bool.false_eq_true, if_false]
  exact h

variable (s c)

theorem State.cleared_clear : (s.cleared c).clear = none := by
  unfold State.cleared
  rw [State.latch_clear, State.setFld_clear]
  exact State.clearRun_k (loose_part { s.snapNow with clear := none } .clear (by decide) (by decide) (by decide)) rfl c.kind c.first c.count

theorem State.cleared_latched : (s.cleared c).latched R.CNT_EVT_CLR_DONE = true := State.latched_latch _ _ _ (by decide)

/-- A field that the end of a clear does not touch is as the clear made it. -/
theorem State.fld_cleared {f : Fld} (i : Nat) (h1 : f.id ≠ R.CNT_STAT_CLR_PENDING.id) (h2 : f.id ≠ R.CNT_EVT.id) :
    (s.cleared c).fld f i = ({ s.snapNow with clear := none }.clearRun c.kind c.first c.count).fld f i := by
  unfold State.cleared
  rw [State.fld_latch_ne _ _ _ _ h2, State.fld_setFld_ne _ _ _ _ h1]

theorem State.cleared_pending : (s.cleared c).fld R.CNT_STAT_CLR_PENDING = 0 := by
  unfold State.cleared
  rw [State.fld_latch_ne _ _ _ _ (by decide)]
  exact State.fld_setFld_self _ _ _ _

theorem bankCfg_cleared : BankCfg s (s.cleared c) := by
  have hsnap : BankCfg s { s.snapNow with clear := none } := bankCfg_snapNow s
  have hrun := State.clearRun_k (loose_bankCfg s (by decide)) hsnap c.kind c.first c.count
  exact (hrun.setFld (by decide) 0 0).latch (by decide) 0

/-- A clear leaves no other act of the tick to come, where no commit has been sampled. -/
theorem State.actsDue_cleared (h : s.sampled = none) : (s.cleared c).actsDue = false := by
  have hsampled : (s.cleared c).sampled = none := by
    unfold State.cleared
    rw [State.latch_sampled, State.setFld_sampled]
    exact (State.clearRun_k (loose_part { s.snapNow with clear := none } .sampled (by decide) (by decide) (by decide)) rfl c.kind c.first
      c.count).trans (s.snapNow_sampled.trans h)
  have hsnap : (s.cleared c).snapDue = s.snapNow.snapDue := by
    refine State.snapDue_congr ?_ ?_ ?_
    · intro f hf
      rw [State.fld_cleared s c 0 (by revert f; decide) (by revert f; decide), State.fld_clearRun _ _ _ _ 0 (by revert f; decide)]
      rfl
    · unfold State.cleared
      rw [State.latch_snapAt, State.setFld_snapAt]
      exact State.clearRun_k (loose_part { s.snapNow with clear := none } .snapAt (by decide) (by decide) (by decide)) rfl _ _ _
    · unfold State.cleared
      rw [State.latch_snapped, State.setFld_snapped]
      exact State.clearRun_k (loose_part { s.snapNow with clear := none } .snapped (by decide) (by decide) (by decide)) rfl _ _ _
  have hsnap := hsnap.trans s.snapDue_snapNow
  simp [State.actsDue, hsampled, hsnap, State.cleared_clear]

variable {s c}

theorem State.cleared_tickDue (hkind : c.kind = 1) : (s.cleared c).plumb.tickDue = s.plumb.tickDue := by
  unfold State.cleared
  rw [State.latch_plumb, State.setFld_plumb, hkind, State.tickDue_clearRun_banks]
  exact s.snapNow_tickDue

/-- A clear of bank counters leaves 0 in those it names, but for one written in the core cycle of the tick. -/
theorem State.count_cleared (hkind : c.kind = 1) {k : Nat} (h1 : c.first ≤ k) (h2 : k < c.first + c.count)
    (hk : (s.plumb.tickDue.getD []).contains k = false) : (s.cleared c).fld R.CNT_Bc_COUNT k = 0 := by
  rw [State.fld_cleared s c k (by decide) (by decide), hkind]
  exact State.count_clearRun h1 h2 (by rw [← hk]; exact congrArg (fun l => (Option.getD l []).contains k) s.snapNow_tickDue)

/-- Then the tick is counted, where nothing else is to come and no chain feeds the counter (R440, R447). -/
theorem State.count_counterClear (hsampled : s.sampled = none) (hwf : (s.regs.get R.CNT_Bc_CFG_SRC.id {}).wf = true) (hkind : c.kind = 1) {k : Nat}
    (h1 : c.first ≤ k) (h2 : k < c.first + c.count) (hk : (s.plumb.tickDue.getD []).contains k = false)
    (hchain : s.chainedBelow k = false ∨ s.plumb.tickDue = none) :
    (s.cleared c).settleTick.fld R.CNT_Bc_COUNT k = b2n (s.plumb.tickDue.isSome && s.bankTakes 0xD 0 k) := by
  have hcfg := bankCfg_cleared s c
  have hzero := State.count_cleared hkind h1 h2 hk
  have hdue := State.cleared_tickDue (s := s) hkind
  rw [State.settleTick_of_idle (s.actsDue_cleared c hsampled)]
  cases hl : s.plumb.tickDue with
  | none =>
    rw [State.countTick_of_none (hdue.trans hl), hzero]
    rfl
  | some l =>
    have hfree : s.chainedBelow k = false := hchain.resolve_right (by simp [hl])
    rw [State.count_countTick (hdue.trans hl) (by rw [hcfg _ (by decide), hwf]) (by rw [hcfg.chainedBelow, hfree]), hcfg.bankTakes, hzero]
    cases s.bankTakes 0xD 0 k <;> rfl

/-- The tick that wraps the counter below a cleared one carries into it after the clear (R444, R447). -/
theorem State.count_counterClear_carry (hsampled : s.sampled = none) (hwf : (s.regs.get R.CNT_Bc_CFG_SRC.id {}).wf = true)
    (hkind : c.kind = 1) {j : Nat} (hfirst : c.first = j + 1) (hcount : 0 < c.count) (hchain : s.flag R.CNT_Bc_CFG_CHAIN j = true)
    (htakes : s.bankTakes 0xD 0 j = true) (hfull : s.fld R.CNT_Bc_COUNT j = 2 ^ 48 - 1) (hdue : s.plumb.tickDue = some [])
    (hsnap : s.snapDue = false) : (s.cleared c).settleTick.fld R.CNT_Bc_COUNT (j + 1) = 1 := by
  have hcfg := bankCfg_cleared s c
  have hzero : (s.cleared c).fld R.CNT_Bc_COUNT (j + 1) = 0 :=
    State.count_cleared hkind (by omega) (by omega) (by rw [hdue]; rfl)
  have hbelow : (s.cleared c).fld R.CNT_Bc_COUNT j = 2 ^ 48 - 1 := by
    rw [State.fld_cleared s c j (by decide) (by decide), hkind, State.count_clearRun_ne (by omega), State.snapNow_of_not_due hsnap]
    exact hfull
  rw [State.settleTick_of_idle (s.actsDue_cleared c hsampled), State.count_countTick_above ((State.cleared_tickDue hkind).trans hdue)
    (by rw [hcfg _ (by decide), hwf]) (by rw [hcfg.bankTakes, htakes]) (by rw [hcfg.chain, hchain]) hbelow, hzero]
  decide

/-- A clear of histograms leaves the bins of those it names 0. -/
theorem State.bin_counterClear (hkind : c.kind = 2) {b : Nat} (h1 : c.first ≤ b / 256) (h2 : b / 256 < c.first + c.count) :
    (s.cleared c).settleTick.fld R.PEG_HBIN_COUNT b = 0 := by
  rw [State.fld_settleTick _ _ (by decide), State.fld_cleared s c b (by decide) (by decide), hkind]
  exact State.bin_clearRun _ h1 h2

theorem State.fixed_settled {f : Fld} (hf : f ∈ fixedFamilies.map (·.fld)) (i : Nat) :
    (s.cleared c).settleTick.fld f i = ({ s.snapNow with clear := none }.clearRun c.kind c.first c.count).fld f i := by
  rw [State.fld_settleTick _ _ (by revert f; decide), State.fld_cleared s c i (by revert f; decide) (by revert f; decide)]

/-- A clear of fixed counters leaves those that it names 0. -/
theorem State.fixed_counterClear (hkind : c.kind = 0) {k : Nat} (h1 : c.first ≤ k) (h2 : k < c.first + c.count) {f : Fld} {i : Nat}
    (h : fixedAt k = some (f, i)) : (s.cleared c).settleTick.fld f i = 0 := by
  rw [State.fixed_settled (fixedAt_mem h), hkind]
  exact State.fixed_clearRun _ h1 h2 h

end

/-! ### The wrap of a counter (R440, R444, R446) -/

section
variable {s : State} {c : Fin 16384}

theorem answers_counterWrap_event {P : State → Prop} (hc : s.countsEvents c = true) (hfull : s.fld R.CNT_Bc_COUNT c = 2 ^ 48 - 1)
    (h : P (s.bankAdd c 1)) : Answers (.counterWrap c) s P := by
  refine ⟨_, rfl, ?_⟩
  simp only [State.countsEvents, Bool.and_eq_true, bne_iff_ne, ne_eq, Bool.not_eq_true'] at hc
  obtain ⟨⟨⟨hnone, htick⟩, hcycle⟩, hfree⟩ := hc
  have hchain : ¬ (c.val ≠ 0 ∧ s.flag R.CNT_Bc_CFG_CHAIN (c.val - 1) = true) := fun e => by simp [(s.chainedBelow_iff c).mpr e] at hfree
  dsimp only
  rw [if_neg (by tauto), if_neg hcycle, if_pos hfull]
  exact h

theorem answers_counterWrap_idle
    (h : s.fld R.CNT_Bc_CFG_SRC c = 0 ∨ s.fld R.CNT_Bc_CFG_SRC c = 0xD ∨ s.chainedBelow c = true) :
    Answers (.counterWrap c) s (fun t => t = s) := by
  refine ⟨_, rfl, ?_⟩
  rw [s.chainedBelow_iff] at h
  exact if_pos h

theorem answers_counterWrap_cycle {P : State → Prop} (hsrc : s.fld R.CNT_Bc_CFG_SRC c = 0xE) (hfree : s.chainedBelow c = false)
    (h : P (s.cycleWrap c)) : Answers (.counterWrap c) s P := by
  refine ⟨_, rfl, ?_⟩
  have hchain : ¬ (c.val ≠ 0 ∧ s.flag R.CNT_Bc_CFG_CHAIN (c.val - 1) = true) := fun e => by simp [(s.chainedBelow_iff c).mpr e] at hfree
  dsimp only
  rw [if_neg (by simp only [hsrc]; tauto), if_pos hsrc]
  exact h

/-! ### The wrap of a counter of core cycles (R442) -/

theorem State.cycleNow_setCycle (s : State) (k : Nat) : (s.setCycle k).cycleNow = k := by
  have htick : (s.setCycle k).ticking = s.ticking := by
    unfold State.setCycle
    split <;> rfl
  unfold State.cycleNow
  rw [htick]
  unfold State.setCycle
  split
  · rfl
  · rfl

/-- Counting core cycles from another one on moves no cycle. -/
theorem State.cycleNow_countFrom (s : State) (c k : Nat) : (s.countFrom c k).cycleNow = s.cycleNow := rfl

section
variable {c k : Nat} (hk : k = s.plumb.cycFrom.get c 0 + (2 ^ 48 - s.fld R.CNT_Bc_COUNT c))
include hk

/-- The wrap comes in its core cycle where the present frame has it. -/
theorem State.cycleWrap_of_reached (h1 : s.cycleNow ≤ k) (h2 : k ≤ frameCycles ∨ s.ticking = false) :
    s.cycleWrap c = ((s.bankAdd c (2 ^ 48 - s.fld R.CNT_Bc_COUNT c)).setCycle k).countFrom c k := by
  subst hk
  exact if_pos ⟨h1, h2⟩

theorem State.cycleWrap_of_not_reached (h : k < s.cycleNow ∨ (frameCycles < k ∧ s.ticking = true)) : s.cycleWrap c = s := by
  subst hk
  refine if_neg ?_
  rintro ⟨h1, h2⟩
  rcases h with h | ⟨h, htick⟩
  · omega
  · rcases h2 with h2 | h2
    · omega
    · simp [htick] at h2

theorem State.cycleWrap_wraps (hlt : s.fld R.CNT_Bc_COUNT c < 2 ^ 48) (h1 : s.cycleNow ≤ k) (h2 : k ≤ frameCycles ∨ s.ticking = false) :
    (s.cycleWrap c).fld R.CNT_Bc_COUNT c = 0 ∧ (s.cycleWrap c).cycleNow = k
      ∧ (s.flag R.CNT_Bc_CFG_CHAIN c = false → (s.cycleWrap c).latched R.CNT_EVT_BANK_WRAP = true) := by
  have hsum : s.fld R.CNT_Bc_COUNT c + (2 ^ 48 - s.fld R.CNT_Bc_COUNT c) = 2 ^ 48 := by omega
  rw [State.cycleWrap_of_reached hk h1 h2]
  refine ⟨?_, ?_, fun hc => ?_⟩
  · rw [State.fld_countFrom _ _ _ _ (by decide), State.fld_setCycle _ _ _ (by decide), State.count_bankAdd, hsum, Nat.mod_self]
  · rw [State.cycleNow_countFrom, State.cycleNow_setCycle]
  · unfold State.latched
    rw [State.fld_countFrom _ _ _ _ (by decide), State.fld_setCycle _ _ _ (by decide)]
    exact State.latched_bankAdd_wrap hsum.ge hc

end

end

end Sys2Proof.Machine
end

section
/-! Writes of the counters' registers: CNT_SNAP, CNT_CLR_CTRL and the pair of a bank counter (R443, R444, R447, R448). -/

namespace Sys2Proof.Machine

/-! ### CNT_SNAP and CNT_CLR_CTRL -/

/-- CNT_SNAP in the register table. -/
def cntSnapReg : Reg := ⟨RN.CNT_SNAP, 0x90004, 0, 1, 0x0, .single, [⟨R.CNT_SNAP_GO, 0, 0, 1⟩]⟩

/-- CNT_CLR_CTRL in the register table. -/
def cntClrCtrlReg : Reg :=
  ⟨RN.CNT_CLR_CTRL, 0x90018, 0, 1, 0x0, .single,
    [⟨R.CNT_CLR_CTRL_COUNT, 0, 0, 19⟩, ⟨R.CNT_CLR_CTRL_KIND, 0, 19, 2⟩, ⟨R.CNT_CLR_CTRL_GO, 0, 31, 1⟩]⟩

/-- An accepted write of CNT_SNAP performs its command and stores nothing. -/
theorem State.regWrite_CNT_SNAP_of_accepts {s : State} {m : Nat} (ha : s.accepts m RN.CNT_SNAP 0 = true) (w : Nat) :
    s.regWrite m RN.CNT_SNAP 0 w = ((s.park m (.reg 0x90004)).snapCtrl w).completed := by
  have h := State.regWrite_of_accepts (r := cntSnapReg) (i := 0) (by decide) (by decide) (by decide) (by decide) (by decide) (by decide)
    (by decide) ha w
  rw [State.storeWord_of_wo (by decide)] at h
  exact h

/-- An accepted write of CNT_CLR_CTRL performs its command and stores nothing. -/
theorem State.regWrite_CNT_CLR_CTRL_of_accepts {s : State} {m : Nat} (ha : s.accepts m RN.CNT_CLR_CTRL 0 = true) (w : Nat) :
    s.regWrite m RN.CNT_CLR_CTRL 0 w = ((s.park m (.reg 0x90018)).clearCtrl w).completed := by
  have h := State.regWrite_of_accepts (r := cntClrCtrlReg) (i := 0) (by decide) (by decide) (by decide) (by decide) (by decide) (by decide)
    (by decide) ha w
  rw [State.storeWord_of_wo (by decide)] at h
  exact h

/-- The command bit that is put in a word is set. -/
theorem bit_putBits_one (w k : Nat) : bit (putBits w k 1 1) k = 1 := by
  have hput : putBits w k 1 1 = w % 2 ^ k + 2 ^ k * (1 + 2 * (w / 2 ^ (k + 1))) := by
    unfold putBits
    rw [Nat.pow_succ]
    ring
  unfold bit
  rw [hput, Nat.add_mul_div_left _ _ (Nat.two_pow_pos k), Nat.div_eq_of_lt (Nat.mod_lt _ (Nat.two_pow_pos k))]
  omega

/-- Bits below a bit that is put in a word are as they were. -/
theorem bits_putBits_below {w k lo len : Nat} (h : lo + len ≤ k) (x : Nat) : bits (putBits w k 1 x) lo len = bits w lo len := by
  obtain ⟨d, rfl⟩ := Nat.exists_eq_add_of_le h
  have hput : putBits w (lo + len + d) 1 x = w % 2 ^ (lo + len + d) + 2 ^ (lo + len) * (2 ^ d * (x % 2 + 2 * (w / 2 ^ (lo + len + d + 1)))) := by
    unfold putBits
    rw [Nat.pow_one, Nat.pow_succ 2 (lo + len + d), Nat.pow_add 2 (lo + len) d]
    ring
  unfold bits
  rw [← Nat.mod_mul_right_div_self, ← Nat.mod_mul_right_div_self, ← Nat.pow_add, hput, Nat.add_mul_mod_self_left,
    Nat.mod_mod_of_dvd _ (Nat.pow_dvd_pow 2 (Nat.le_add_right _ d))]

@[simp] theorem State.park_clear (s : State) (m : Nat) (p : Place) : (s.park m p).clear = s.clear :=
  State.park_k (loose_part s .clear (by decide) (by decide) (by decide)) rfl m p

@[simp] theorem State.completed_clear (s : State) : s.completed.clear = s.clear := by
  obtain ⟨x, h⟩ := s.completed_eq
  rw [h]
  rfl

@[simp] theorem State.completed_snapAt (s : State) : s.completed.snapAt = s.snapAt := by
  obtain ⟨x, h⟩ := s.completed_eq
  rw [h]
  rfl

@[simp] theorem State.frame_park (s : State) (m : Nat) (p : Place) : (s.park m p).frame = s.frame := State.fld_park_ne s m p 0 (by decide)

section
variable {m : Master} {w : Word} {s : State}

theorem answers_snapGo {P : State → Prop} (ha : s.accepts m RN.CNT_SNAP 0 = true)
    (h : P ((s.park m (.reg 0x90004)).snapCtrl (putBits w.toNat 0 1 1)).completed) : Answers (.snapGo m w) s P := by
  refine ⟨_, rfl, ?_⟩
  rw [State.regWrite_CNT_SNAP_of_accepts ha]
  exact h

theorem answers_clearGo {P : State → Prop} (ha : s.accepts m RN.CNT_CLR_CTRL 0 = true)
    (h : P ((s.park m (.reg 0x90018)).clearCtrl (putBits w.toNat 31 1 1)).completed) : Answers (.clearGo m w) s P := by
  refine ⟨_, rfl, ?_⟩
  rw [State.regWrite_CNT_CLR_CTRL_of_accepts ha]
  exact h

end

/-- SNAP with its command bit calls for a snapshot at the next tick (R448). -/
theorem State.snapCtrl_go (s : State) (w : Nat) :
    (s.snapCtrl (putBits w 0 1 1)).snapAt = some (frameAdd s.frame 1) ∧ (s.snapCtrl (putBits w 0 1 1)).fld R.CNT_STAT_SNAP_PENDING = 1 := by
  unfold State.snapCtrl
  rw [if_neg (by rw [bit_putBits_one]; decide)]
  exact ⟨rfl, State.fld_setFld_self _ _ _ _⟩

/-- A clear that can be taken waits for the next tick (R447). -/
theorem State.clearCtrl_taken {s : State} {w : Nat} (hc : s.clear = none)
    (hw : clearable (bits w 19 2) (s.fld R.CNT_CLR_FIRST_FIRST) (bits w 0 19) = true) :
    (s.clearCtrl (putBits w 31 1 1)).clear =
        some { tick := frameAdd s.frame 1, kind := bits w 19 2, first := s.fld R.CNT_CLR_FIRST_FIRST, count := bits w 0 19 }
      ∧ (s.clearCtrl (putBits w 31 1 1)).fld R.CNT_STAT_CLR_PENDING = 1 := by
  have hgo : s.clearCtrl (putBits w 31 1 1) =
      { s with clear := some { tick := frameAdd s.frame 1, kind := bits w 19 2, first := s.fld R.CNT_CLR_FIRST_FIRST, count := bits w 0 19 } }.setFld
        R.CNT_STAT_CLR_PENDING 0 1 := by
    unfold State.clearCtrl
    rw [bits_putBits_below (by decide), bits_putBits_below (by decide), bit_putBits_one]
    simp [hc, hw]
  rw [hgo]
  exact ⟨State.setFld_clear _ _ _ _, State.fld_setFld_self _ _ _ _⟩

/-- A clear beyond what R439 populates, or while another waits, is refused (R447). -/
theorem State.clearCtrl_refused {s : State} {w : Nat}
    (h : s.clear ≠ none ∨ clearable (bits w 19 2) (s.fld R.CNT_CLR_FIRST_FIRST) (bits w 0 19) = false) :
    s.clearCtrl (putBits w 31 1 1) = s.latch R.CNT_EVT_CLR_REFUSED := by
  unfold State.clearCtrl
  rw [bits_putBits_below (by decide), bits_putBits_below (by decide), bit_putBits_one, if_neg (by decide), if_pos]
  rcases h with h | h
  · simp [Option.isSome_iff_ne_none.mpr h]
  · simp [h]

/-! ### The pair of a bank counter (R443, R444) -/

/-- CNT_Bc_LO and CNT_Bc_HI in the register table. -/
def bankLowReg : Reg := ⟨RN.CNT_Bc_LO, 0x6000004, 0, 16384, 0x10, .low, [⟨R.CNT_Bc_COUNT, 0, 0, 32⟩]⟩
@[inherit_doc bankLowReg]
def bankHighReg : Reg := ⟨RN.CNT_Bc_HI, 0x6000008, 0, 16384, 0x10, .high, [⟨R.CNT_Bc_COUNT, 32, 0, 16⟩]⟩

/-- The bank counters lie in register space. -/
theorem place_bank {a : Nat} (h1 : 0x6000000 ≤ a) (h2 : a < 0x6400000) : place a = .reg a := by
  have hpop : regPopulated a = true := by
    unfold regPopulated
    rw [if_neg (by omega), if_neg (by omega)]
    simp [h1, h2]
  unfold place
  rw [if_pos (by omega), if_neg (by omega), if_pos hpop]

/-- At a register, how an access is judged depends on register fields alone, and not on the parked path. -/
theorem State.judge_of_fld {s t : State} (h : ∀ f : Fld, f.id ≠ R.MTX_STAT_PARK.id → ∀ i, t.fld f i = s.fld f i) {a : Nat}
    (hp : place a = .reg a) (m : Nat) : t.judge m a false true = s.judge m a false true := by
  have hserved : t.served = s.served := by unfold State.served State.phase; rw [h _ (by decide)]
  have hrecovery : t.recovery = s.recovery := by unfold State.recovery State.flag; rw [h _ (by decide)]
  have hlocked : t.flag R.TLY_STAT_LOCKED = s.flag R.TLY_STAT_LOCKED := by unfold State.flag; rw [h _ (by decide)]
  have hclass : ∀ p, t.portClass p = s.portClass p := by intro p; unfold State.portClass; rw [hrecovery, h _ (by decide)]
  have howns : ∀ p, t.ownsNow p = s.ownsNow p := by intro p; unfold State.ownsNow; rw [h _ (by decide)]
  have hmay : ∀ p, t.mayWrite p (.reg a) = s.mayWrite p (.reg a) := by
    intro p
    unfold State.mayWrite State.mayWriteReg State.privPort
    simp only [hrecovery, hclass, howns]
  have hreaches : t.reaches m true a (.reg a) = s.reaches m true a (.reg a) := by unfold State.reaches; rfl
  have hanswers : t.answers (.reg a) = s.answers (.reg a) := rfl
  have hdecodes : ∀ p, t.recoveryDecodes p a false = s.recoveryDecodes p a false := by intro p; simp [State.recoveryDecodes]
  unfold State.judge
  simp only [hp, hserved, hrecovery, hlocked, hclass, hmay, hreaches, hanswers, hdecodes]

/-- Whether the device is a standby depends on the mate state alone. -/
theorem State.mirrors_of_fld {s t : State} (h : t.fld R.MAT_STAT_STATE = s.fld R.MAT_STAT_STATE) (m : Nat) : t.mirrors m = s.mirrors m := by
  have hstate : t.mateState = s.mateState := h
  unfold State.mirrors State.mayChange State.paired State.isActive
  rw [hstate]

theorem State.accepts_of_fld {s t : State} (h : ∀ f : Fld, f.id ≠ R.MTX_STAT_PARK.id → ∀ i, t.fld f i = s.fld f i) {r : Reg}
    (hr : r ∈ regTable) {i : Nat} (hp : place (r.addr i) = .reg (r.addr i)) (m : Nat) : t.accepts m r.id i = s.accepts m r.id i := by
  rw [Bool.eq_iff_iff, State.accepts_iff hr, State.accepts_iff hr, State.judge_of_fld h hp, State.mirrors_of_fld (h _ (by decide) 0)]

/-- What an accepted write at a register does is a write of register space behind the parked path. -/
theorem State.regWrite_of_ok {r : Reg} (hr : r ∈ regTable) {i : Nat} (hp : place (r.addr i) = .reg (r.addr i)) (hal : r.addr i % 4 = 0)
    {s : State} {m : Nat} (ha : s.accepts m r.id i = true) (w : Nat) :
    s.regWrite m r.id i w = (s.park m (.reg (r.addr i))).writeRegAt m (r.addr i) w none := by
  obtain ⟨hok, -⟩ := (State.accepts_iff hr s m i).mp ha
  have haligned : misaligned (r.addr i) (.reg (r.addr i)) = false := by simp [misaligned, hal]
  unfold State.regWrite
  rw [find_of_id hr]
  unfold State.hostWrite State.writePriv
  simp only [hok, hp, haligned, Bool.false_eq_true, if_false]
  rfl

theorem bankLowReg_mem : bankLowReg ∈ regTable := by decide

theorem bankHighReg_mem : bankHighReg ∈ regTable := by decide

theorem bankLowReg_addr (c : Nat) : bankLowReg.addr c = 0x6000004 + 16 * c := by
  unfold Reg.addr bankLowReg
  dsimp only
  omega

theorem bankHighReg_addr (c : Nat) : bankHighReg.addr c = 0x6000008 + 16 * c := by
  unfold Reg.addr bankHighReg
  dsimp only
  omega

/-- `s` with the low half that master `m` holds for counter `c`, if any, written to it (R13). -/
def State.takeBankLow (s : State) (m c : Nat) : State :=
  match s.heldAt m (bankLowReg.addr c) with
  | some l => (s.unhold m (bankLowReg.addr c)).storeWord m bankLowReg c l (fun _ => false)
  | none => s

theorem State.takeBankLow_of_held {s : State} {m c l : Nat} (h : s.heldAt m (bankLowReg.addr c) = some l) :
    s.takeBankLow m c =
      (s.unhold m (bankLowReg.addr c)).setFld R.CNT_Bc_COUNT c (putBits (s.fld R.CNT_Bc_COUNT c) 0 32 (bits l 0 32)) := by
  unfold State.takeBankLow
  rw [h]
  rfl

theorem State.takeBankLow_of_none {s : State} {m c : Nat} (h : s.heldAt m (bankLowReg.addr c) = none) : s.takeBankLow m c = s := by
  unfold State.takeBankLow
  rw [h]

theorem State.fld_takeBankLow_ne (s : State) (m c : Nat) {f : Fld} (i : Nat) (h : f.id ≠ R.CNT_Bc_COUNT.id) :
    (s.takeBankLow m c).fld f i = s.fld f i := by
  cases hheld : s.heldAt m (bankLowReg.addr c) with
  | none => rw [State.takeBankLow_of_none hheld]
  | some l =>
    rw [State.takeBankLow_of_held hheld]
    exact State.fld_setFld_ne _ _ _ _ h

/-- `s` with both halves of counter `c` set by master `m`, the high one to `w`, once the path is parked and the counter has counted up to the
core cycle of the write: what an accepted write of CNT_Bc_HI does before it takes effect. -/
def State.bankPair (s : State) (m c w : Nat) : State :=
  (((s.park m (.reg (bankHighReg.addr c))).bankSettle c).takeBankLow m c).storeWord m bankHighReg c w (fun _ => false)

section
variable {s : State} {m c : Nat} (hc : c < 16384)
include hc

theorem place_bankLow : place (bankLowReg.addr c) = .reg (bankLowReg.addr c) := by
  rw [bankLowReg_addr]
  exact place_bank (by omega) (by omega)

theorem place_bankHigh : place (bankHighReg.addr c) = .reg (bankHighReg.addr c) := by
  rw [bankHighReg_addr]
  exact place_bank (by omega) (by omega)

/-- A low half waits for its high half (R13). -/
theorem State.regWrite_bankLow (ha : s.accepts m RN.CNT_Bc_LO c = true) (w : Nat) :
    s.regWrite m RN.CNT_Bc_LO c w =
      ((s.park m (.reg (bankLowReg.addr c))).hold m (bankLowReg.addr c) w).answer .ok [] := by
  refine (State.regWrite_of_ok bankLowReg_mem (place_bankLow hc) (by rw [bankLowReg_addr]; omega) ha w).trans ?_
  unfold State.writeRegAt
  rw [findReg_addr bankLowReg_mem (Nat.zero_le c) (show c < 0 + 16384 by omega)]
  rfl

/-- A write of the high half in register space: the counter counts up to it, the low half held is set, and the high half is taken. -/
theorem State.writeRegAt_bankHigh (t : State) (w : Nat) : t.writeRegAt m (bankHighReg.addr c) w none =
    (((t.bankSettle c).takeBankLow m c).takeWord m bankHighReg c w none).seeConditions := by
  have hlow : bankHighReg.addr c - 4 = bankLowReg.addr c := by
    rw [bankHighReg_addr, bankLowReg_addr]
    omega
  have hfree : t.regFree bankHighReg.id c = true := rfl
  have hsingle : ¬ (bankHighReg.half = .low ∨ bankHighReg.id = RN.MGT_OWN_TOKEN) := by decide
  have hid : bankHighReg.id = RN.CNT_Bc_HI := rfl
  have hhigh : bankHighReg.half = .high := rfl
  unfold State.writeRegAt State.takeBankLow
  rw [findReg_addr bankHighReg_mem (Nat.zero_le c) (show c < 0 + 16384 by omega), hlow,
    findReg_addr bankLowReg_mem (Nat.zero_le c) (show c < 0 + 16384 by omega)]
  simp only [hfree, Bool.not_true, Bool.false_eq_true, if_false, if_neg hsingle, if_pos hid, if_pos hhigh]
  cases (t.bankSettle c).heldAt m (bankLowReg.addr c) <;> rfl

/-- A high half sets the pair, and takes effect (R443). -/
theorem State.regWrite_bankHigh (ha : s.accepts m RN.CNT_Bc_HI c = true) (w : Nat) :
    s.regWrite m RN.CNT_Bc_HI c w = ((s.bankPair m c w).bankWritten c).completed := by
  have hm : s.mirrors m = false := ((State.accepts_iff bankHighReg_mem s m c).mp ha).2
  have hsettled : (((s.park m (.reg (bankHighReg.addr c))).bankSettle c).takeBankLow m c).mirrors m = false := by
    rw [State.mirrors_of_fld (State.fld_takeBankLow_ne _ m c 0 (by decide)), State.mirrors_of_fld (State.fld_bankSettle _ c 0 (by decide)),
      State.mirrors_park, hm]
  refine (State.regWrite_of_ok bankHighReg_mem (place_bankHigh hc) (by rw [bankHighReg_addr]; omega) ha w).trans ?_
  rw [State.writeRegAt_bankHigh hc, State.takeWord_of_not_mirrors hsettled (by decide)]
  rfl

end

end Sys2Proof.Machine
end

section
/-! The pair of a bank counter, and what BANK_COUNTER_WRITE leaves in it (R443, R444). -/

namespace Sys2Proof.Machine

/-! ### What the pair then holds -/

/-- The high half of the pair is stored over what the counter then holds. -/
theorem State.count_bankPair (s : State) (m c w : Nat) : (s.bankPair m c w).fld R.CNT_Bc_COUNT c =
    putBits ((((s.park m (.reg (bankHighReg.addr c))).bankSettle c).takeBankLow m c).fld R.CNT_Bc_COUNT c) 32 16 (bits w 0 16) % 2 ^ 48 :=
  State.count_setFld _ c _

theorem State.heldLow_bankSettle (s : State) (c : Nat) : (s.bankSettle c).heldLow = s.heldLow :=
  State.bankSettle_k (loose_part s .heldLow (by decide) (by decide) (by decide)) rfl c

theorem State.heldLow_park (s : State) (m : Nat) (p : Place) : (s.park m p).heldLow = s.heldLow :=
  State.park_k (loose_part s .heldLow (by decide) (by decide) (by decide)) rfl m p

/-- The low half that a master holds is held as it parks the path and the counter counts. -/
theorem State.heldAt_settled (s : State) (m n c off : Nat) (p : Place) :
    ((s.park m p).bankSettle c).heldAt n off = s.heldAt n off := by
  unfold State.heldAt
  rw [State.heldLow_bankSettle, State.heldLow_park]

/-- A pair of which the low half is held is set whole (R13). -/
theorem State.count_bankPair_of_held {s : State} {m c l : Nat} (hl : l < 2 ^ 32) (hheld : s.heldAt m (bankLowReg.addr c) = some l) (w : Nat) :
    (s.bankPair m c w).fld R.CNT_Bc_COUNT c = l + 2 ^ 32 * (w % 2 ^ 16) := by
  rw [State.count_bankPair, State.takeBankLow_of_held ((State.heldAt_settled s m m c _ _).trans hheld), State.count_setFld]
  simp only [putBits, bits]
  omega

/-- A counter that counts no core cycles, and to which none below brings any, holds at any time what it has counted. -/
theorem State.bankSettle_of_idle {s : State} {c : Nat} (hself : s.bankTakes 0xE 0 c = false)
    (hbelow : s.chainedBelow c = true → s.bankTakes 0xE 0 (c - 1) = false) : s.bankSettle c = s := by
  have hcycle : s.bankCycle c = s := by
    refine if_neg ?_
    intro h
    rw [hself, Bool.false_or, Bool.and_eq_true] at h
    exact Bool.false_ne_true ((hbelow h.1).symm.trans h.2)
  unfold State.bankSettle
  rw [hcycle]
  dsimp only
  split
  · next h =>
    unfold State.bankUpTo
    rw [hbelow ((s.chainedBelow_iff c).mpr h), if_neg Bool.false_ne_true]
  · unfold State.bankUpTo
    rw [hself, if_neg Bool.false_ne_true]

/-- A high half with no low half held is set alone (R13). -/
theorem State.count_bankPair_of_none {s : State} {m c : Nat} (hheld : s.heldAt m (bankLowReg.addr c) = none)
    (hself : s.bankTakes 0xE 0 c = false) (hbelow : s.chainedBelow c = true → s.bankTakes 0xE 0 (c - 1) = false) (w : Nat) :
    (s.bankPair m c w).fld R.CNT_Bc_COUNT c = s.fld R.CNT_Bc_COUNT c % 2 ^ 32 + 2 ^ 32 * (w % 2 ^ 16) := by
  have hcfg : BankCfg s (s.park m (.reg (bankHighReg.addr c))) := State.park_k (loose_bankCfg s (by decide)) (BankCfg.refl s) m _
  have hidle : (s.park m (.reg (bankHighReg.addr c))).bankSettle c = s.park m (.reg (bankHighReg.addr c)) :=
    State.bankSettle_of_idle (by rw [hcfg.bankTakes, hself]) (by rw [hcfg.chainedBelow, hcfg.bankTakes]; exact hbelow)
  rw [State.count_bankPair, State.takeBankLow_of_none ((State.heldAt_settled s m m c _ _).trans hheld), hidle,
    State.fld_park_ne _ _ _ _ (by decide)]
  simp only [putBits, bits]
  omega

theorem bankCfg_bankPair (s : State) (m c w : Nat) : BankCfg s (s.bankPair m c w) := by
  have hsettled := State.bankSettle_k (loose_bankCfg s (by decide))
    (State.park_k (loose_bankCfg s (by decide)) (BankCfg.refl s) m (.reg (bankHighReg.addr c))) c
  have hlow : BankCfg s (((s.park m (.reg (bankHighReg.addr c))).bankSettle c).takeBankLow m c) := by
    cases hheld : ((s.park m (.reg (bankHighReg.addr c))).bankSettle c).heldAt m (bankLowReg.addr c) with
    | none =>
      rw [State.takeBankLow_of_none hheld]
      exact hsettled
    | some l =>
      rw [State.takeBankLow_of_held hheld]
      exact (State.unhold_k (loose_bankCfg s (by decide)) hsettled m _).setFld (by decide) c _
  exact hlow.setFld (by decide) c _

/-- A counter of core cycles counts the core cycle of the write on the written value (R443). -/
theorem State.count_bankWritten (s : State) (c : Nat) : (s.bankWritten c).fld R.CNT_Bc_COUNT c =
    if s.bankTakes 0xE 0 c then (s.fld R.CNT_Bc_COUNT c + 1) % 2 ^ 48 else s.fld R.CNT_Bc_COUNT c := by
  unfold State.bankWritten
  split
  · next h =>
    rw [State.fld_countFrom _ _ _ _ (by decide)]
    exact State.count_bankAddWritten ((s.bankTakes_iff (by decide) 0 c).mp h).2 1
  · rfl

/-- An accepted write of the high half sets the pair, counts the core cycle of the write where core cycles are counted, and is answered OK. -/
theorem State.regWrite_bankHigh_effect {s : State} {m c : Nat} (hc : c < 16384) (ha : s.accepts m RN.CNT_Bc_HI c = true) (w : Nat) :
    (s.regWrite m RN.CNT_Bc_HI c w).resp.status = .ok ∧ BankCfg s (s.regWrite m RN.CNT_Bc_HI c w)
      ∧ (s.regWrite m RN.CNT_Bc_HI c w).fld R.CNT_Bc_COUNT c =
          if s.bankTakes 0xE 0 c then ((s.bankPair m c w).fld R.CNT_Bc_COUNT c + 1) % 2 ^ 48 else (s.bankPair m c w).fld R.CNT_Bc_COUNT c := by
  refine ⟨?_, State.regWrite_CNT_Bc_HI (loose_bankCfg s (by decide)) (BankCfg.refl s) m w ⟨Nat.zero_le c, hc⟩, ?_⟩ <;>
    rw [State.regWrite_bankHigh hc ha]
  · exact State.completed_status _
  · rw [State.completed_fld, State.count_bankWritten, (bankCfg_bankPair s m c w).bankTakes]

/-! ### BANK_COUNTER_WRITE -/

/-- `s` after the writes of a pair, or of its high half alone. -/
def State.pairWritten (s : State) (m c : Nat) (low : Option Word) (high : Word) : State :=
  ((low.elim s (fun l => s.regWrite m RN.CNT_Bc_LO c l.toNat)).regWrite m RN.CNT_Bc_HI c high.toNat)

/-- BANK_COUNTER_WRITE once the pair is written: a counter of core cycles or of ticks counts those by itself, any other is given the events of
the core cycle. -/
theorem exec_bankCounterWrite (m : Master) (c : Fin 16384) (low : Option Word) (high : Word) (n : Nat) (s : State) :
    exec (.bankCounterWrite m c low high n) s = .next (
      let u := s.pairWritten m c low high
      if u.bankTakes 0xE 0 c || u.bankTakes 0xD 0 c then u
      else if u.resp.status = .ok then u.bankAddWritten c n
      else if c.val ≠ 0 ∧ u.flag R.CNT_Bc_CFG_CHAIN (c.val - 1) then u else u.bankAdd c n) := by
  cases low <;> rfl

section
variable {m : Master} {c : Fin 16384} {s : State}

/-- `s` has had the pair of counter `c` written in `u`, with `v` in it: the write is accepted, and where core cycles are counted that of the write
is. -/
def PairSet (s u : State) (c v : Nat) : Prop :=
  u.resp.status = .ok ∧ BankCfg s u ∧ u.fld R.CNT_Bc_COUNT c = if s.bankTakes 0xE 0 c then (v + 1) % 2 ^ 48 else v

/-- Both halves of a pair set it whole. -/
theorem pairSet_whole (hlow : s.accepts m RN.CNT_Bc_LO c = true) (hhigh : s.accepts m RN.CNT_Bc_HI c = true) (l h : Word) :
    PairSet s (s.pairWritten m c (some l) h) c (l.toNat + 2 ^ 32 * (h.toNat % 2 ^ 16)) := by
  have hwrite : s.regWrite m RN.CNT_Bc_LO c l.toNat = _ := State.regWrite_bankLow c.isLt hlow l.toNat
  have hfld : ∀ f : Fld, f.id ≠ R.MTX_STAT_PARK.id → ∀ i, (s.regWrite m RN.CNT_Bc_LO c l.toNat).fld f i = s.fld f i := by
    intro f hf i
    rw [hwrite]
    exact State.fld_park_ne s m _ i hf
  have haccepts : (s.regWrite m RN.CNT_Bc_LO c l.toNat).accepts m RN.CNT_Bc_HI c = true :=
    (State.accepts_of_fld hfld bankHighReg_mem (place_bankHigh c.isLt) m).trans hhigh
  have hheld : (s.regWrite m RN.CNT_Bc_LO c l.toNat).heldAt m (bankLowReg.addr c) = some l.toNat := by
    rw [hwrite]
    simp [State.heldAt, State.hold, State.answer]
  have hcfg : BankCfg s (s.regWrite m RN.CNT_Bc_LO c l.toNat) :=
    State.regWrite_CNT_Bc_LO (loose_bankCfg s (by decide)) (BankCfg.refl s) m _ ⟨Nat.zero_le _, c.isLt⟩
  obtain ⟨hok, hkept, hcount⟩ := State.regWrite_bankHigh_effect c.isLt haccepts h.toNat
  rw [State.count_bankPair_of_held l.isLt hheld, hcfg.bankTakes] at hcount
  exact ⟨hok, fun f hf => (hkept f hf).trans (hcfg f hf), hcount⟩

/-- The high half alone keeps the low one. -/
theorem pairSet_high (hhigh : s.accepts m RN.CNT_Bc_HI c = true) (hheld : s.heldAt m (0x6000004 + 16 * c.val) = none)
    (hself : s.bankTakes 0xE 0 c = false) (hbelow : s.chainedBelow c = true → s.bankTakes 0xE 0 (c.val - 1) = false) (h : Word) :
    PairSet s (s.pairWritten m c none h) c (s.fld R.CNT_Bc_COUNT c % 2 ^ 32 + 2 ^ 32 * (h.toNat % 2 ^ 16)) := by
  obtain ⟨hok, hkept, hcount⟩ := State.regWrite_bankHigh_effect c.isLt hhigh h.toNat
  rw [State.count_bankPair_of_none (by rw [bankLowReg_addr, hheld]) hself hbelow] at hcount
  exact ⟨hok, hkept, hcount⟩

variable {low : Option Word} {h : Word} {n v : Nat}

/-- A counter of core cycles holds the value and the core cycle of the write. -/
theorem answers_bankCounterWrite_cycles (hset : PairSet s (s.pairWritten m c low h) c v) (hsrc : s.fld R.CNT_Bc_CFG_SRC c = 0xE)
    (hfree : s.chainedBelow c = false) :
    Answers (.bankCounterWrite m c low h n) s (fun t => t.resp.status = .ok ∧ t.fld R.CNT_Bc_COUNT c = (v + 1) % 2 ^ 48) := by
  obtain ⟨hok, hcfg, hcount⟩ := hset
  have hcycles : s.bankTakes 0xE 0 c = true := (s.bankTakes_iff (by decide) 0 c).mpr ⟨hsrc, hfree⟩
  rw [hcycles, if_pos rfl] at hcount
  refine ⟨_, exec_bankCounterWrite m c low h n s, ?_⟩
  dsimp only
  rw [hcfg.bankTakes, hcycles, Bool.true_or, if_pos rfl]
  exact ⟨hok, hcount⟩

/-- A counter of ticks, or one that a chain feeds, holds the value: the events of the core cycle are not its own. -/
theorem answers_bankCounterWrite_held (hset : PairSet s (s.pairWritten m c low h) c v)
    (hown : s.fld R.CNT_Bc_CFG_SRC c = 0xD ∨ s.chainedBelow c = true) :
    Answers (.bankCounterWrite m c low h n) s (fun t => t.resp.status = .ok ∧ t.fld R.CNT_Bc_COUNT c = v) := by
  obtain ⟨hok, hcfg, hcount⟩ := hset
  have hcycles : s.bankTakes 0xE 0 c = false := by
    rw [Bool.eq_false_iff, ne_eq, s.bankTakes_iff (by decide)]
    rintro ⟨hsrc, hfree⟩
    rcases hown with hown | hown
    · omega
    · simp [hfree] at hown
  rw [hcycles, if_neg Bool.false_ne_true] at hcount
  refine ⟨_, exec_bankCounterWrite m c low h n s, ?_⟩
  dsimp only
  rw [if_pos hok]
  split
  · exact ⟨hok, hcount⟩
  · next hother =>
    have hchained : s.chainedBelow c = true := by
      rcases hown with hown | hown
      · by_contra hfree
        have hticks := (s.bankTakes_iff (by decide) 0 c).mpr ⟨hown, Bool.eq_false_iff.mpr hfree⟩
        simp [hcfg.bankTakes, hticks] at hother
      · exact hown
    rw [State.bankAddWritten_of_chained (by rw [hcfg.chainedBelow, hchained])]
    exact ⟨hok, hcount⟩

/-- Any other counter holds the value and the events of the core cycle. -/
theorem answers_bankCounterWrite_events (hset : PairSet s (s.pairWritten m c low h) c v) (hticks : s.fld R.CNT_Bc_CFG_SRC c ≠ 0xD)
    (hcycles : s.fld R.CNT_Bc_CFG_SRC c ≠ 0xE) (hfree : s.chainedBelow c = false) :
    Answers (.bankCounterWrite m c low h n) s (fun t => t.resp.status = .ok ∧ t.fld R.CNT_Bc_COUNT c = (v + n) % 2 ^ 48) := by
  obtain ⟨hok, hcfg, hcount⟩ := hset
  have htakes : ∀ src, 0xD ≤ src → s.fld R.CNT_Bc_CFG_SRC c ≠ src → s.bankTakes src 0 c = false := by
    intro src hsrc hne
    rw [Bool.eq_false_iff, ne_eq, s.bankTakes_iff hsrc]
    exact fun e => hne e.1
  rw [htakes 0xE (by decide) hcycles, if_neg Bool.false_ne_true] at hcount
  have hresp : ((s.pairWritten m c low h).bankAddWritten c n).resp = (s.pairWritten m c low h).resp :=
    State.bankAddWritten_k (loose_part (s.pairWritten m c low h) .resp (by decide) (by decide) (by decide)) rfl c n
  refine ⟨_, exec_bankCounterWrite m c low h n s, ?_⟩
  dsimp only
  rw [hcfg.bankTakes, hcfg.bankTakes, htakes 0xE (by decide) hcycles, htakes 0xD (by decide) hticks, if_neg (by decide), if_pos hok,
    State.count_bankAddWritten (by rw [hcfg.chainedBelow, hfree]), hcount]
  exact ⟨hresp ▸ hok, rfl⟩

end

end Sys2Proof.Machine
end

section
/-! The archive: an entry of a snapshot is written whole (R450). -/

namespace Sys2Proof.Machine

/-! ### Bytes and words of memory -/

theorem ofLeBytes_leBytes_four (v : Nat) : ofLeBytes (leBytes 4 v) = v % 2 ^ 32 := by
  simp only [leBytes, List.range_succ, List.range_zero, List.nil_append, List.cons_append, List.map_cons, List.map_nil, ofLeBytes,
    BitVec.toNat_ofNat]
  omega

theorem State.readLe_congr {s t : State} {a n : Nat} (h : ∀ k, k < n → t.byte (a + k) = s.byte (a + k)) : t.readLe a n = s.readLe a n := by
  unfold State.readLe State.readBytes
  exact congrArg ofLeBytes (List.map_congr_left (fun k hk => h k (List.mem_range.mp hk)))

theorem State.memWf_writeBytes {s : State} (h : s.MemWf) (a : Nat) (l : List (BitVec 8)) : (s.writeBytes a l).MemWf :=
  State.writeBytes_k loose_memWf h a l

/-- Bytes outside those written read as before. -/
theorem State.byte_writeBytes_ne (s : State) {a b : Nat} (l : List (BitVec 8)) (h : b < a ∨ a + l.length ≤ b) :
    (s.writeBytes a l).byte b = s.byte b := by
  induction l generalizing s a with
  | nil => rfl
  | cons x l ih =>
    rw [List.length_cons] at h
    exact (ih (s.setByte a x) (a := a + 1) (by omega)).trans (State.byte_setByte_ne s x (by omega))

/-- Bytes that are written read as they were written. -/
theorem State.readBytes_writeBytes {s : State} (h : s.MemWf) (a : Nat) (l : List (BitVec 8)) :
    (s.writeBytes a l).readBytes a l.length = l := by
  induction l generalizing s a with
  | nil => rfl
  | cons x l ih =>
    have hrest := ih (State.memWf_setByte h a x) (a + 1)
    have hfirst : ((s.setByte a x).writeBytes (a + 1) l).byte a = x :=
      (State.byte_writeBytes_ne _ l (by omega)).trans (State.byte_setByte_self h a x)
    unfold State.readBytes at hrest ⊢
    rw [List.length_cons, List.range_succ_eq_map, List.map_cons, List.map_map]
    refine congrArg₂ List.cons hfirst (Eq.trans (List.map_congr_left ?_) hrest)
    intro k _
    exact congrArg _ (by omega : a + (k + 1) = a + 1 + k)

theorem State.byte_writeLe_ne (s : State) {a b n : Nat} (v : Nat) (h : b < a ∨ a + n ≤ b) : (s.writeLe a n v).byte b = s.byte b :=
  State.byte_writeBytes_ne s _ (by rwa [leBytes_length])

theorem State.readLe_writeLe_self {s : State} (h : s.MemWf) (a v : Nat) : (s.writeLe a 4 v).readLe a 4 = v % 2 ^ 32 := by
  have hbytes := State.readBytes_writeBytes h a (leBytes 4 v)
  rw [leBytes_length] at hbytes
  unfold State.readLe State.writeLe
  rw [hbytes, ofLeBytes_leBytes_four]

theorem State.readLe_writeLe_ne (s : State) {a b : Nat} (v : Nat) (h : b + 4 ≤ a ∨ a + 4 ≤ b) : (s.writeLe a 4 v).readLe b 4 = s.readLe b 4 :=
  State.readLe_congr (fun _ _ => s.byte_writeLe_ne v (by omega))

theorem Memory.find_of_ne {m : List Host.Cell} {b : Nat} (h : ∀ x ∈ m, x.1 ≠ b) : Memory.find m b = none := by
  induction m with
  | nil => rfl
  | cons x m ih =>
    have hne : b ≠ x.1 := (h x (List.mem_cons_self ..)).symm
    simpa [Memory.find, hne] using ih (fun y hy => h y (List.mem_cons_of_mem _ hy))

/-- A range written to zero reads 0. -/
theorem State.byte_zeroRange (s : State) {lo hi b : Nat} (h1 : lo ≤ b) (h2 : b < hi) : (s.zeroRange lo hi).byte b = 0 := by
  have hfind : Memory.find (s.zeroRange lo hi).mem b = none := by
    refine Memory.find_of_ne ?_
    rintro x hx rfl
    have hout := (List.mem_filter.mp hx).2
    simp at hout
    omega
  have hzeroed : (lo, hi) ∈ (s.zeroRange lo hi).ddr.zeroed := by
    unfold State.zeroRange
    dsimp only
    split
    · next h => exact List.contains_iff_mem.mp h
    · exact List.mem_cons_self ..
  have hblank : (s.zeroRange lo hi).blankAt b = some 0 := by
    unfold State.blankAt
    split
    · rfl
    · rw [if_pos (List.any_eq_true.mpr ⟨(lo, hi), hzeroed, by simp [h1, h2]⟩)]
  unfold State.byte
  rw [hfind, hblank]
  rfl

/-- Nothing else changes. -/
theorem State.byte_zeroRange_ne (s : State) {lo hi b : Nat} (h : b < lo ∨ hi ≤ b) : (s.zeroRange lo hi).byte b = s.byte b := by
  have hout : (decide (lo ≤ b) && decide (b < hi)) = false := by
    rw [Bool.and_eq_false_iff, decide_eq_false_iff_not, decide_eq_false_iff_not]
    omega
  have hany : (s.zeroRange lo hi).ddr.zeroed.any (fun r => decide (r.1 ≤ b) && decide (b < r.2)) =
      s.ddr.zeroed.any (fun r => decide (r.1 ≤ b) && decide (b < r.2)) := by
    unfold State.zeroRange State.clearRange
    dsimp only
    split
    · rfl
    · rw [List.any_cons, hout, Bool.false_or]
  have hblank : (s.zeroRange lo hi).blankAt b = (s.clearRange lo hi).blankAt b := by
    unfold State.blankAt
    rw [hany]
    rfl
  refine Eq.trans ?_ (byte_clearRange s h)
  unfold State.byte
  rw [hblank]
  rfl

theorem State.readLe_zeroRange (s : State) {lo hi a : Nat} (h1 : lo ≤ a) (h2 : a + 4 ≤ hi) : (s.zeroRange lo hi).readLe a 4 = 0 := by
  have hbyte : ∀ k, k < 4 → (s.zeroRange lo hi).byte (a + k) = 0 := fun k hk => s.byte_zeroRange (by omega) (by omega)
  simp [State.readLe, State.readBytes, List.range_succ, ofLeBytes, hbyte, (by simpa using hbyte 0 (by decide) : (s.zeroRange lo hi).byte a = 0)]

/-! ### An entry, word by word -/

/-- Word `x.1` of an entry at `a` is written. -/
def State.writeWord (a : Nat) (t : State) (x : Nat × Nat) : State := t.writeLe (a + 4 * x.1) 4 x.2

section
variable {l : List (Nat × Nat)} {s : State} (a : Nat)

/-- The words that are listed are written, each to its place; the others keep what they held. -/
theorem readLe_writeWords (hrise : (l.map (·.1)).Pairwise (· < ·)) (hwf : s.MemWf) (j : Nat) :
    (l.foldl (State.writeWord a) s).readLe (a + 4 * j) 4 = (Tab.look l j).elim (s.readLe (a + 4 * j) 4) (· % 2 ^ 32) := by
  induction l generalizing s with
  | nil => rfl
  | cons x l ih =>
    obtain ⟨k, v⟩ := x
    obtain ⟨hfirst, hrise⟩ := List.pairwise_cons.mp hrise
    have hword : (State.writeWord a s (k, v)).MemWf := State.memWf_writeBytes hwf _ _
    rw [List.foldl_cons, ih hrise hword]
    by_cases hj : j = k
    · subst hj
      have hnone : Tab.look l j = none := Tab.look_of_not_mem (fun hmem => Nat.lt_irrefl j (hfirst j hmem))
      simp [Tab.look, hnone, State.writeWord, State.readLe_writeLe_self hwf]
    · simp only [Tab.look, if_neg hj, State.writeWord]
      rw [State.readLe_writeLe_ne s v (by omega)]

/-- Bytes outside the entry keep what they held. -/
theorem byte_writeWords (hl : ∀ x ∈ l, x.1 < 65536) {b : Nat} (hb : b < a ∨ a + 262144 ≤ b) :
    (l.foldl (State.writeWord a) s).byte b = s.byte b := by
  refine foldl_mem_k (K := fun t => t.byte b = s.byte b) _ _ rfl ?_
  intro t x hx ht
  have hword := hl x hx
  exact (t.byte_writeLe_ne x.2 (by omega)).trans ht

end

/-- `s` with the entry `e` written from `a` on, over what the archive held there, and `rest` left to be written. -/
def State.entryWritten (s : State) (a : Nat) (e : ArchiveEntry) (rest : List ArchiveEntry) : State :=
  e.words.entries.foldl (State.writeWord a) ({ s with archive := rest }.zeroRange a (a + 262144))

section
variable (s : State) (a : Nat) (e : ArchiveEntry) (rest : List ArchiveEntry)

theorem State.entryWritten_archive : (s.entryWritten a e rest).archive = rest :=
  foldl_k (K := fun t => t.archive = rest) _ _ rfl
    (fun t x ht => (State.writeLe_k (loose_part t .archive (by decide) (by decide) (by decide)) rfl (a + 4 * x.1) 4 x.2).trans ht)

variable {s e}

/-- Every word of the entry is written: those that are not listed are 0. -/
theorem State.readLe_entryWritten (hwf : s.MemWf) (he : e.words.wf = true) {j : Nat} (hj : j < 65536) :
    (s.entryWritten a e rest).readLe (a + 4 * j) 4 = e.words.get j 0 % 2 ^ 32 := by
  have hrise : (e.words.entries.map (·.1)).Pairwise (· < ·) := by simpa [Tab.wf] using he
  have hzero := State.memWf_zeroRange (s := { s with archive := rest }) hwf a (a + 262144)
  refine (readLe_writeWords a hrise hzero j).trans ?_
  rw [State.readLe_zeroRange _ (by omega) (by omega)]
  unfold Tab.get Tab.find
  cases Tab.look e.words.entries j <;> rfl

theorem State.byte_entryWritten (hkeys : ∀ x ∈ e.words.entries, x.1 < 65536) {b : Nat} (hb : b < a ∨ a + 262144 ≤ b) :
    (s.entryWritten a e rest).byte b = s.byte b :=
  (byte_writeWords a hkeys hb).trans (State.byte_zeroRange_ne { s with archive := rest } hb)

variable {rest}

/-- ARCHIVE_WRITE writes the oldest entry to the place of NEXT: what it then sets in CNT_ARCH_IDX changes no memory. -/
theorem answers_archiveWrite {P : State → Prop} (harch : s.archive = e :: rest) (hsize : s.archiveSize ≠ 0)
    (hkeys : ∀ x ∈ e.words.entries, x.1 < 65536)
    (h : ∀ t : State, t.archive = rest →
      (∀ b, t.byte b = (s.entryWritten (s.regionBase 6 + 262144 * s.fld R.CNT_ARCH_IDX_NEXT) e rest).byte b) → P t) :
    Answers .archiveWrite s P := by
  refine ⟨_, rfl, ?_⟩
  have hall : e.words.entries.filter (fun x => decide (x.1 < 65536)) = e.words.entries :=
    List.filter_eq_self.mpr (fun x hx => decide_eq_true (hkeys x hx))
  have hentry := s.entryWritten_archive (s.regionBase 6 + 262144 * s.fld R.CNT_ARCH_IDX_NEXT) e rest
  simp only [harch, hall, if_neg hsize]
  split
  · exact h _ hentry (fun _ => rfl)
  · exact h _ hentry (fun _ => rfl)

end

end Sys2Proof.Machine
end

section
/-! The counters (chapter 13): what each of their commands and the tick make of them. -/

namespace Sys2Proof.Machine

section
variable {m : Master} {w : Word} {s : State}

/-- CNT_SNAP calls for a snapshot at the next tick (R448). -/
theorem snapGo_calls (ha : s.accepts m RN.CNT_SNAP 0 = true) :
    Answers (.snapGo m w) s (fun t => t.resp.status = .ok ∧ t.snapAt = some (frameAdd s.frame 1) ∧ t.fld R.CNT_STAT_SNAP_PENDING = 1) := by
  obtain ⟨hat, hpending⟩ := (s.park m (.reg 0x90004)).snapCtrl_go w.toNat
  refine answers_snapGo ha ⟨State.completed_status _, ?_, ?_⟩
  · rw [State.completed_snapAt, hat, State.frame_park]
  · rw [State.completed_fld, hpending]

section
variable (ha : s.accepts m RN.CNT_CLR_CTRL 0 = true)
include ha

/-- CNT_CLR_CTRL has a clear that can be taken wait for the next tick (R447). -/
theorem clearGo_taken (hc : s.clear = none) (hw : clearable (bits w.toNat 19 2) (s.fld R.CNT_CLR_FIRST_FIRST) (bits w.toNat 0 19) = true) :
    Answers (.clearGo m w) s (fun t => t.resp.status = .ok ∧ t.fld R.CNT_STAT_CLR_PENDING = 1
      ∧ t.clear = some
        { tick := frameAdd s.frame 1, kind := bits w.toNat 19 2, first := s.fld R.CNT_CLR_FIRST_FIRST, count := bits w.toNat 0 19 }) := by
  have hfirst : (s.park m (.reg 0x90018)).fld R.CNT_CLR_FIRST_FIRST = s.fld R.CNT_CLR_FIRST_FIRST := State.fld_park_ne s m _ 0 (by decide)
  obtain ⟨hclear, hpending⟩ := State.clearCtrl_taken (s := s.park m (.reg 0x90018)) (w := w.toNat)
    ((State.park_clear s m _).trans hc) (by rw [hfirst, hw])
  refine answers_clearGo ha ⟨State.completed_status _, ?_, ?_⟩
  · rw [State.completed_fld, hpending]
  · rw [State.completed_clear, hclear, hfirst, State.frame_park]

/-- A clear while one waits, or beyond what is populated, is refused (R447). -/
theorem clearGo_refused (h : s.clear ≠ none ∨ clearable (bits w.toNat 19 2) (s.fld R.CNT_CLR_FIRST_FIRST) (bits w.toNat 0 19) = false) :
    Answers (.clearGo m w) s (fun t => t.clear = s.clear ∧ t.latched R.CNT_EVT_CLR_REFUSED = true) := by
  have hfirst : (s.park m (.reg 0x90018)).fld R.CNT_CLR_FIRST_FIRST = s.fld R.CNT_CLR_FIRST_FIRST := State.fld_park_ne s m _ 0 (by decide)
  refine answers_clearGo ha ?_
  rw [State.clearCtrl_refused (by rwa [State.park_clear, hfirst])]
  refine ⟨?_, ?_⟩
  · rw [State.completed_clear, State.latch_clear, State.park_clear]
  · unfold State.latched
    rw [State.completed_fld]
    exact State.latched_latch _ _ _ (by decide)

end

end

/-- What a snapshot leaves stands through the rest of the tick: the tick that is counted after it changes counters of the bank and what waits
for the rings and the log. -/
theorem snapshot_settled {s : State} (h : s.snapDue = true) :
    (s.snapNow.settleTick.stampTick s).snapAt = none ∧ (s.snapNow.settleTick.stampTick s).latched R.CNT_EVT_SNAP_DONE = true :=
  ⟨(State.settleTick_k (loose_part _ .snapAt (by decide) (by decide) (by decide)) rfl).trans (State.snapNow_snapAt h),
    State.latched_settleTick_of_latched rfl (by decide) (State.snapNow_latched h)⟩

section
variable {s : State} {c : Fin 16384}

/-- The event that wraps a counter that carries nowhere latches BANK_WRAP (R446). -/
theorem counterWrap_latches (hc : s.countsEvents c = true) (hfull : s.fld R.CNT_Bc_COUNT c = 2 ^ 48 - 1)
    (hchain : s.flag R.CNT_Bc_CFG_CHAIN c = false) :
    Answers (.counterWrap c) s (fun t => t.fld R.CNT_Bc_COUNT c = 0 ∧ t.latched R.CNT_EVT_BANK_WRAP = true) := by
  refine answers_counterWrap_event hc hfull ⟨?_, State.latched_bankAdd_wrap (by omega) hchain⟩
  rw [State.count_bankAdd, hfull]
  rfl

/-- The event that wraps a chained counter counts in the one above it, and latches nothing where that one takes it (R444, R446). -/
theorem counterWrap_carries (hc : s.countsEvents c = true) (hfull : s.fld R.CNT_Bc_COUNT c = 2 ^ 48 - 1)
    (hchain : s.flag R.CNT_Bc_CFG_CHAIN c = true) (habove : s.fld R.CNT_Bc_COUNT (c.val + 1) < 2 ^ 48 - 1) :
    Answers (.counterWrap c) s (fun t => t.fld R.CNT_Bc_COUNT c = 0
      ∧ t.fld R.CNT_Bc_COUNT (c.val + 1) = s.fld R.CNT_Bc_COUNT (c.val + 1) + 1 ∧ t.fld R.CNT_EVT = s.fld R.CNT_EVT) := by
  have hcarry : (s.fld R.CNT_Bc_COUNT c + 1) / 2 ^ 48 = 1 := by rw [hfull]; rfl
  refine answers_counterWrap_event hc hfull ⟨?_, ?_, State.events_bankAdd_carried hchain (by omega)⟩
  · rw [State.count_bankAdd, hfull]
    rfl
  · rw [State.count_bankAdd_above (by omega) hchain, hcarry, Nat.mod_eq_of_lt (by omega)]

/-- A carry that wraps the counter above latches BANK_WRAP: no counter above takes it (R446). -/
theorem counterWrap_carriesOn (hc : s.countsEvents c = true) (hfull : s.fld R.CNT_Bc_COUNT c = 2 ^ 48 - 1)
    (hchain : s.flag R.CNT_Bc_CFG_CHAIN c = true) (habove : s.fld R.CNT_Bc_COUNT (c.val + 1) = 2 ^ 48 - 1) :
    Answers (.counterWrap c) s (fun t => t.fld R.CNT_Bc_COUNT c = 0 ∧ t.fld R.CNT_Bc_COUNT (c.val + 1) = 0
      ∧ t.latched R.CNT_EVT_BANK_WRAP = true) := by
  have hcarry : (s.fld R.CNT_Bc_COUNT c + 1) / 2 ^ 48 = 1 := by rw [hfull]; rfl
  refine answers_counterWrap_event hc hfull ⟨?_, ?_, State.latched_bankAdd_carry (by omega) hchain (by omega)⟩
  · rw [State.count_bankAdd, hfull]
    rfl
  · rw [State.count_bankAdd_above (by omega) hchain, hcarry, habove]
    rfl

/-- A high half that is written by itself leaves the low half as it stood (R444): a counter that it finds neither fed by a chain nor counting
ticks or core cycles is given no event. -/
theorem bankCounterWrite_high {m : Master} (h : Word) (hhigh : s.accepts m RN.CNT_Bc_HI c = true)
    (hheld : s.heldAt m (0x6000004 + 16 * c.val) = none) (hself : s.bankTakes 0xE 0 c = false)
    (hbelow : s.chainedBelow c = true → s.bankTakes 0xE 0 (c.val - 1) = false) :
    Answers (.bankCounterWrite m c none h 0) s (fun t => t.resp.status = .ok
      ∧ t.fld R.CNT_Bc_COUNT c = s.fld R.CNT_Bc_COUNT c % 2 ^ 32 + 2 ^ 32 * (h.toNat % 2 ^ 16)) := by
  have hset := pairSet_high (h := h) hhigh hheld hself hbelow
  by_cases hown : s.fld R.CNT_Bc_CFG_SRC c = 0xD ∨ s.chainedBelow c = true
  · exact answers_bankCounterWrite_held hset hown
  · obtain ⟨hticks, hfree⟩ := not_or.mp hown
    have hfree := Bool.eq_false_iff.mpr hfree
    have hcycles : s.fld R.CNT_Bc_CFG_SRC c ≠ 0xE := fun e => by simp [(s.bankTakes_iff (by decide) 0 c).mpr ⟨e, hfree⟩] at hself
    have hvalue : (s.fld R.CNT_Bc_COUNT c % 2 ^ 32 + 2 ^ 32 * (h.toNat % 2 ^ 16) + 0) % 2 ^ 48 =
        s.fld R.CNT_Bc_COUNT c % 2 ^ 32 + 2 ^ 32 * (h.toNat % 2 ^ 16) := by omega
    have hevents := answers_bankCounterWrite_events (n := 0) hset hticks hcycles hfree
    rwa [hvalue] at hevents

end

/-- Settles O45. The clauses fall into those of the registers and of the tick, where each act is followed by the tick's own count, and those of one
counter, which turn on `State.bankAdd`: what an addition leaves in the counter, in the one above it and in BANK_WRAP. -/
theorem counters : Obligations.Counters := by
  unfold Obligations.Counters
  refine ⟨fun m w s => ⟨snapGo_calls, ?snapshot, clearGo_taken, clearGo_refused, ?clear, ?archive⟩,
    fun m c s => ⟨counterWrap_latches, counterWrap_carries, counterWrap_carriesOn, fun n hc h => State.latched_bankAdd_wrap h hc,
      fun n => State.events_bankAdd_carried, answers_counterWrap_idle, ?cycles, ?events, ?held, ?cycleWrite, bankCounterWrite_high⟩⟩
  case snapshot =>
    intro h
    obtain ⟨hat, hdone⟩ := snapshot_settled h
    refine answers_snapshot ⟨fun c => ?count, fun b => ?bin, ?frame, hat, hdone, ?snaps, fun hon b hb => ?binsCleared,
      fun hnone => ?noTicks, fun hon hdue hsampled hclear hwf c hc => State.count_snapshot_ticks h hon hdue hsampled hclear hwf hc⟩
    case count => exact (State.fld_settleTick _ c (by decide)).trans (State.snapNow_count_copied h c)
    case bin => exact (State.fld_settleTick _ b (by decide)).trans (State.snapNow_bin_copied h b)
    case frame => exact (State.fld_settleTick _ 0 (by decide)).trans (State.snapNow_frame_copied h)
    case snaps => exact (State.fld_settleTick _ 0 (by decide)).trans (State.snapNow_snaps h)
    case binsCleared => exact (State.fld_settleTick _ b (by decide)).trans (State.bin_snapNow_of_on h hon hb)
    case noTicks =>
      have hkept : ∀ c, s.snapNow.settleTick.fld R.CNT_Bc_COUNT c = s.snapNow.fld R.CNT_Bc_COUNT c :=
        State.count_settleTick_of_none (fun c => ((bankCfg_snapNow s).bankTakes 0xD 0 c).trans (hnone c))
      exact ⟨fun hon c hc => (hkept c).trans (State.count_snapNow_of_on h hon hc),
        fun hoff c => (hkept c).trans (State.count_snapNow_of_off h hoff c)⟩
  case clear =>
    intro c hc hreached
    refine answers_counterClear hc hreached ⟨?done, State.latched_settleTick_of_latched rfl (by decide) (s.cleared_latched c), ?pending,
      fun hkind hsampled hwf => ⟨?counts, ?carry⟩, ?bins, ?fixed⟩
    case done => exact (State.settleTick_k (loose_part _ .clear (by decide) (by decide) (by decide)) rfl).trans (s.cleared_clear c)
    case pending => exact (State.fld_settleTick _ 0 (by decide)).trans (s.cleared_pending c)
    case counts => exact fun k h1 h2 hk hchain => State.count_counterClear hsampled hwf hkind h1 h2 hk hchain
    case carry =>
      exact fun j hfirst hcount hchain htakes hfull hdue hsnap =>
        State.count_counterClear_carry hsampled hwf hkind hfirst hcount hchain htakes hfull hdue hsnap
    case bins => exact fun hkind h h1 h2 b hb => State.bin_counterClear hkind (hb ▸ h1) (hb ▸ h2)
    case fixed => exact fun hkind k f i h1 h2 hf => State.fixed_counterClear hkind h1 h2 hf
  case archive =>
    intro e rest a harch hsize hwf he hkeys ha
    subst ha
    refine answers_archiveWrite harch hsize hkeys fun t hrest hbyte => ⟨hrest, fun j hj => ?_, fun b hb => ?_⟩
    · exact (State.readLe_congr (fun k _ => hbyte _)).trans (State.readLe_entryWritten _ _ hwf he hj)
    · exact (hbyte b).trans (State.byte_entryWritten _ _ hkeys hb)
  case cycles =>
    intro k hsrc hfree hlt hk
    refine ⟨fun h1 h2 => answers_counterWrap_cycle hsrc hfree (State.cycleWrap_wraps hk hlt h1 h2),
      fun h => answers_counterWrap_cycle hsrc hfree (State.cycleWrap_of_not_reached hk h)⟩
  case events =>
    exact fun l h n hlow hhigh hticks hcycles hfree => answers_bankCounterWrite_events (pairSet_whole hlow hhigh l h) hticks hcycles hfree
  case held => exact fun l h n hlow hhigh hown => answers_bankCounterWrite_held (pairSet_whole hlow hhigh l h) hown
  case cycleWrite => exact fun l h n hlow hhigh hsrc hfree => answers_bankCounterWrite_cycles (pairSet_whole hlow hhigh l h) hsrc hfree

end Sys2Proof.Machine
end

section
/-! Every step: what its commands keep the step keeps (O58, O59), and whose command it takes (O56). -/

namespace Sys2Proof.Machine

/-- A step keeps every property that all commands keep and that does not speak of the queue. -/
theorem step_keeps {K : State → Prop} (hK : ∀ m, Loose m K) (hq : ∀ (s : State) (q : List Instr), K s → K { s with pending := q })
    {s t : State} (h : K s) (hs : step s = .next t) : K t := by
  unfold step at hs
  split at hs
  case h_1 =>
    cases hs
    exact h
  case h_2 c rest _ =>
    obtain ⟨z, hz, hKz⟩ := exec_k c (hK _) (hq s rest h)
    rw [hz] at hs
    cases hs
    exact hKz

/-- Settles O58. Every operation on the memory keeps its canonical form, so every command does (`loose_memWf`). -/
theorem memoryStaysCanonical : Obligations.MemoryStaysCanonical := by
  unfold Obligations.MemoryStaysCanonical
  intro s t
  exact step_keeps (fun _ => loose_memWf) (fun _ _ h => h)

/-- Settles O59. Fuses change only by being blown, which merges them with what they were (`loose_fuses`). -/
theorem fusesOnlyGoForward : Obligations.FusesOnlyGoForward := by
  unfold Obligations.FusesOnlyGoForward
  intro s t
  exact step_keeps (fun _ => loose_fuses s.fuses) (fun _ _ h => h) (FusesForward.refl s.fuses)

/-- Settles O56. -/
theorem stepTakesTheFront : Obligations.StepTakesTheFront := by
  unfold Obligations.StepTakesTheFront
  intro s
  refine ⟨fun c rest h => ?front, fun h => ?idle⟩
  case front => rw [step, h]
  case idle => rw [step, h]

end Sys2Proof.Machine
end

section
/-! The state at reset (O60): what each Reset column gives fits its field, and a field that nothing has written reads it. -/

namespace Sys2Proof.Machine

/-- The value that a Reset column gives fits its field. -/
theorem value_lt_of_mem : ∀ r ∈ regTable, ∀ c ∈ r.slices, ∀ v, c.fld.rst = .value v → v < 2 ^ c.fld.width := by
  have h : regTable.all (fun r => r.slices.all (fun c => match c.fld.rst with
      | .value v => decide (v < 2 ^ c.fld.width)
      | _ => true)) = true := by decide +kernel
  intro r hr c hc v hv
  have hc := List.all_eq_true.mp (List.all_eq_true.mp h r hr) c hc
  rw [hv] at hc
  exact of_decide_eq_true hc

@[simp] theorem State.reset_fld (f : Fld) (i : Nat) : State.reset.fld f i = f.reset := rfl

@[simp] theorem State.reset_stg (f : Fld) (i : Nat) : State.reset.stg f i = f.reset := rfl

/-- Settles O60. -/
theorem resetState : Obligations.ResetState := by
  unfold Obligations.ResetState
  refine ⟨?columns, fun _ _ => rfl, fun _ => rfl, rfl, rfl, rfl, ?canonical⟩
  case columns =>
    intro r hr c hc v hv i
    have hlt := value_lt_of_mem r hr c hc v hv
    rw [State.reset_fld, Fld.reset, hv]
    exact Nat.mod_eq_of_lt hlt
  case canonical => exact (Memory.wf_iff _ _).mpr ⟨List.Pairwise.nil, fun _ h => nomatch h⟩

end Sys2Proof.Machine
end

section
/-! The footprint of a scarf command where no commit is to act (O57): the tick that the bank has still to count is counted there all the same. -/

namespace Sys2Proof.Machine

/-- A device at reset whose bank has still to count the tick of the present frame (R440). -/
def tickToCount : State := { State.reset with plumb := { State.reset.plumb with tickDue := some [] } }

/-- With no commit to act, the end of a window settles the tick, and the bank's due tick with it is gone. -/
theorem tickDue_scarfWindowEval_tickToCount :
    (State.stampTick (tickToCount.evalAfterCommit 0) tickToCount).plumb.tickDue = none := by decide +kernel

/-- Refutes O57: with no commit to act, but a tick that the bank has still to count, the end of a scarf window counts that tick (R440), and the due
tick, which is kept with Plumb, lies outside the narrower footprint of the scarf commands. -/
theorem not_everyCommandKeepsItsFrame : ¬ Obligations.EveryCommandKeepsItsFrame := by
  unfold Obligations.EveryCommandKeepsItsFrame
  rintro ⟨-, -, -, hscarf⟩
  obtain ⟨⟨t, ht, hframed⟩, -⟩ := hscarf 0 tickToCount rfl
  obtain rfl : _ = t := Host.Outcome.next.inj ht
  have hplumb := hframed.parts .plumb (by decide)
  have hdue : (State.stampTick (tickToCount.evalAfterCommit 0) tickToCount).plumb.tickDue = some [] := congrArg Plumb.tickDue hplumb
  rw [tickDue_scarfWindowEval_tickToCount] at hdue
  cases hdue

end Sys2Proof.Machine
end

section
/-! Defects (O1, O2): what declaring and clearing a defect leave, and the entry and exit criteria (R115 to R118). -/

namespace Sys2Proof.Machine

/-! ### The consequent action (R118) -/

/-- The consequent action is told by the alignment's defects and the fitting state. -/
theorem State.caActive_congr {s t : State} {n : Nat} (hd : ∀ d, t.declared n d = s.declared n d) (hf : t.fit n = s.fit n) :
    t.caActive n = s.caActive n := by
  unfold State.caActive State.caDefect State.inService
  rw [hf, funext hd]

theorem State.caActive_refreshCa (s : State) (n : Nat) : (s.refreshCa n).caActive n = s.caActive n :=
  State.caActive_congr (fun d => by cases d <;> exact congrArg (· == 1) (State.fld_refreshCa s n n (by decide))) (State.fld_refreshCa s n n (by decide))

/-- LN_FRM_STAT.CA follows the consequent action (R118). -/
theorem State.flag_ca_refreshCa (s : State) (n : Nat) : (s.refreshCa n).flag R.LN_FRM_STAT_CA n = (s.refreshCa n).caActive n := by
  rw [State.caActive_refreshCa]
  exact State.flag_setFlag_self s _ n _ (by decide)

/-! ### Declaring a defect (R115, R116) -/

theorem Defect.fld_inj {d e : Defect} (h : d.fld.id = e.fld.id) : d = e := by
  cases d <;> cases e <;> revert h <;> decide

/-- What LOS and LOL bring: the end of loop timing and of the windows of a reversion (R56, R80). -/
def State.endsLoop (s : State) (n : Nat) (d : Defect) : State :=
  if d = .los || d = .lol then (s.loopFallback n).updLane n (fun l => { l with badRun := 0, winFrames := 0, winCorr := 0 }) else s

/-- What a declared defect does to what is counted of LSD (R461). -/
def State.countsLsd (s : State) (n : Nat) (d : Defect) : State :=
  if d = .lsd then s.lsdBegins n else if d = .los || d = .lol || d = .lof then s.hardDefect n else s

theorem State.declare_of_not_declared {s : State} {n : Nat} {d : Defect} (h : s.declared n d = false) :
    s.declare n d = ((((s.setFlag d.fld n true).latchIf (!d.maskedBy.any (s.declared n)) { R.LN_DEF_EVT_DEF_ENTRY with bit := d.bitNo } n).endsLoop n d).countsLsd
      n d).refreshCa n := by
  unfold State.declare
  rw [h]
  rfl

theorem State.fld_endsLoop (s : State) (n : Nat) (d : Defect) {f : Fld} (i : Nat) (hf : regOk 0x3040000000000000000000002c00 f.id = false) :
    (s.endsLoop n d).fld f i = s.fld f i := by
  unfold State.endsLoop
  split
  · exact State.fld_loopFallback s n i hf
  · rfl

theorem State.fld_countsLsd (s : State) (n : Nat) (d : Defect) (f : Fld) (i : Nat) : (s.countsLsd n d).fld f i = s.fld f i := by
  unfold State.countsLsd
  split
  · rfl
  · split <;> rfl

/-- Outside the fields of loop timing and CA, a declaration changes a defect's flag and its entry alone. -/
theorem State.fld_declare_eq {s : State} {n : Nat} {d : Defect} (h : s.declared n d = false) {f : Fld} (i : Nat)
    (hl : regOk 0x3040000000000000000000002c00 f.id = false) (hc : regOk 0x20000000000000000000000000000000002000 f.id = false) :
    (s.declare n d).fld f i =
      ((s.setFlag d.fld n true).latchIf (!d.maskedBy.any (s.declared n)) { R.LN_DEF_EVT_DEF_ENTRY with bit := d.bitNo } n).fld f i := by
  rw [State.declare_of_not_declared h, State.fld_refreshCa _ _ _ hc, State.fld_countsLsd, State.fld_endsLoop _ _ _ _ hl]

theorem State.declared_declare_self {s : State} {n : Nat} {d : Defect} (h : s.declared n d = false) : (s.declare n d).declared n d = true := by
  unfold State.declared State.flag
  rw [State.fld_declare_eq h n (by cases d <;> decide) (by cases d <;> decide), State.fld_latchIf_ne _ _ _ _ _ (by cases d <;> decide)]
  exact State.flag_setFlag_self s d.fld n true (by cases d <;> decide)

/-- Declaring a defect enters it (R115, R116, R118). -/
theorem State.defectEntered_declare {s : State} {n : Nat} {d : Defect} (h : s.declared n d = false) : DefectEntered n d s (s.declare n d) := by
  have hevt := State.fld_declare_eq h (f := R.LN_DEF_EVT) n (by decide) (by decide)
  have hset : (s.setFlag d.fld n true).fld R.LN_DEF_EVT n = s.fld R.LN_DEF_EVT n := State.fld_setFlag_ne s n n true (by cases d <;> decide)
  refine ⟨State.declared_declare_self h, ?_, ?_⟩
  · rw [State.declare_of_not_declared h]
    exact State.flag_ca_refreshCa _ n
  · cases hmask : d.maskedBy.any (s.declared n) with
    | true =>
      rw [if_pos rfl, hevt, hmask]
      exact hset
    | false =>
      rw [if_neg (by decide)]
      have hself := State.latched_latch (s.setFlag d.fld n true) { R.LN_DEF_EVT_DEF_ENTRY with bit := d.bitNo } n (by cases d <;> decide)
      rw [hmask] at hevt
      exact (congrArg (·.testBit d.bitNo) hevt).trans hself

/-! ### Signal detect (R509) -/

/-- Judging signal detect changes no register. -/
theorem State.regs_judgeLevels (s : State) (n : Nat) (rs : List RowLevel) : (s.judgeLevels n rs).regs = s.regs := rfl

theorem State.lane_judgeLevels (s : State) (n : Nat) (rs : List RowLevel) : (s.judgeLevels n rs).lane n = (s.lane n).judgeLevels rs :=
  State.lane_updLane_self s n _

/-- After one more row period the run of absent ones is at most one longer. -/
theorem LaneSt.absentRun_judgeLevel_le (l : LaneSt) (r : RowLevel) : (l.judgeLevel r).absentRun ≤ l.absentRun + 1 := by
  unfold LaneSt.judgeLevel
  dsimp only
  split_ifs <;> omega

/-! ### The entry criteria (O1) -/

/-- Settles O1. Each command of R115 meets its entry criterion and declares the defect, which `State.defectEntered_declare` shows entered; fifteen
absent row periods and one more are no LOS. -/
theorem defectsAreDeclared : Obligations.DefectsAreDeclared := by
  unfold Obligations.DefectsAreDeclared
  intro n s
  refine ⟨fun rs hrun hd => ?_, fun r hrun => ?_, fun hfit hd => ?_, fun hoof hlast hd => ?_, fun hsync hon hd => ?_, fun hsync hon hd => ?_,
    fun hsync hhi hd => ?_, fun hsync hhi hd => ?_, fun hmm hd => ?_⟩
  · refine ⟨(s.judgeLevels n rs).declare n .los, ?_, State.defectEntered_declare (s := s.judgeLevels n rs) hd⟩
    show Host.Outcome.next _ = _
    rw [← s.lane_judgeLevels n rs] at hrun
    rw [if_pos hrun]
  · refine ⟨s.judgeLevels n [r], ?_, rfl, ?_⟩
    · have hle := (s.lane n).absentRun_judgeLevel_le r
      have hnot : ¬ 16 ≤ ((s.judgeLevels n [r]).lane n).absentRun := by
        rw [s.lane_judgeLevels]
        show ¬ 16 ≤ ((s.lane n).judgeLevel r).absentRun
        omega
      show Host.Outcome.next _ = _
      rw [if_neg hnot]
    · rw [s.lane_judgeLevels]
      rfl
  · exact ⟨_, congrArg Host.Outcome.next (if_neg hfit), State.defectEntered_declare hd⟩
  · exact ⟨_, congrArg Host.Outcome.next (if_pos (by rw [hoof, hlast]; rfl)), State.defectEntered_declare hd⟩
  · exact ⟨_, congrArg Host.Outcome.next (if_pos (by simp [hsync, hon])), State.defectEntered_declare hd⟩
  · exact ⟨_, congrArg Host.Outcome.next (if_pos (by simp [hsync, hon])), State.defectEntered_declare hd⟩
  · exact ⟨_, congrArg Host.Outcome.next (if_pos (by simp [hsync, hhi])), State.defectEntered_declare hd⟩
  · exact ⟨_, congrArg Host.Outcome.next (if_pos (by simp [hsync, hhi])), State.defectEntered_declare hd⟩
  · refine ⟨_, congrArg Host.Outcome.next (if_pos ?_), State.defectEntered_declare hd⟩
    rcases hmm with hident | ⟨hsync, hen, hbad⟩
    · simp [hident]
    · simp [hsync, hen, hbad]

/-! ### Clearing a defect (R115, R116) -/

/-- A cleared defect is void in what is counted of LSD (R461). -/
def State.voidsLsd (s : State) (n : Nat) (d : Defect) : State :=
  if d = .lsd then s.lsdEnds n else if d = .los || d = .lol || d = .lof then s.hardDefect n else s

theorem State.undeclare_of_declared {s : State} {n : Nat} {d : Defect} (h : s.declared n d = true) :
    s.undeclare n d = (((((s.voidsLsd n d).setFlag d.fld n false).latch R.LN_DEF_EVT_DEF_CLEAR n).refreshCa n).rePrime n) := by
  unfold State.undeclare
  rw [if_pos h]
  rfl

/-- Clearing a defect clears it (R116, R118). -/
theorem State.defectCleared_undeclare {s : State} {n : Nat} {d : Defect} (h : s.declared n d = true) : DefectCleared n d (s.undeclare n d) := by
  rw [State.undeclare_of_declared h]
  have hfld : ∀ (u : State) {f : Fld}, regOk 0x8000000000000000000000000000000000000000000000000000000000000000000000000000000 f.id = false →
      (u.rePrime n).fld f n = u.fld f n := fun u f hf => State.fld_rePrime u n n hf
  have hdecl : ∀ (u : State) (e : Defect), (u.rePrime n).declared n e = u.declared n e := fun u e =>
    congrArg (· == 1) (hfld u (by cases e <;> decide))
  have hdecl' : ∀ (u : State) (e : Defect), (u.refreshCa n).declared n e = u.declared n e := fun u e =>
    congrArg (· == 1) (State.fld_refreshCa u n n (by cases e <;> decide))
  refine ⟨?_, ?_, ?_⟩
  · rw [hdecl, hdecl']
    unfold State.declared State.flag
    rw [State.fld_latch_ne _ _ _ _ (by cases d <;> decide)]
    exact State.flag_setFlag_self _ d.fld n false (by cases d <;> decide)
  · unfold State.latched
    rw [hfld _ (by decide), State.fld_refreshCa _ _ _ (by decide)]
    exact State.latched_latch _ R.LN_DEF_EVT_DEF_CLEAR n (by decide)
  · rw [State.caActive_congr (hdecl _) (hfld _ (by decide)), ← State.flag_ca_refreshCa]
    exact congrArg (· == 1) (hfld _ (by decide))

/-- Settles O2. Each command of R115 meets its exit criterion and clears the defect, which `State.defectCleared_undeclare` shows cleared. -/
theorem defectsClear : Obligations.DefectsClear := by
  unfold Obligations.DefectsClear
  intro n s
  refine ⟨fun rs hrun hd => ?_, fun hd => ⟨_, rfl, State.defectCleared_undeclare hd⟩, fun hsync hlast hd => ?_, fun hsync hoff hd => ?_,
    fun hsync hoff hd => ?_, fun hsync hlo hd => ?_, fun hsync hlo hd => ?_, fun hident hlid hd => ?_, fun hsync hin hd => ?_⟩
  · refine ⟨(s.judgeLevels n rs).undeclare n .los, ?_, State.defectCleared_undeclare (s := s.judgeLevels n rs) hd⟩
    rw [← s.lane_judgeLevels n rs] at hrun
    show Host.Outcome.next _ = _
    rw [if_pos hrun]
  · exact ⟨_, congrArg Host.Outcome.next (if_pos (by simp [hsync, hlast])), State.defectCleared_undeclare hd⟩
  · exact ⟨_, congrArg Host.Outcome.next (if_pos (by simp [hsync, hoff])), State.defectCleared_undeclare hd⟩
  · exact ⟨_, congrArg Host.Outcome.next (if_pos (by simp [hsync, hoff])), State.defectCleared_undeclare hd⟩
  · exact ⟨_, congrArg Host.Outcome.next (if_pos (by simp [hsync, hlo])), State.defectCleared_undeclare hd⟩
  · exact ⟨_, congrArg Host.Outcome.next (if_pos (by simp [hsync, hlo])), State.defectCleared_undeclare hd⟩
  · refine ⟨_, congrArg Host.Outcome.next (if_pos ?_), State.defectCleared_undeclare hd⟩
    rcases hlid with hen | ⟨hsync, hgood⟩
    · simp [hident, hen]
    · simp [hident, hsync, hgood]
  · exact ⟨_, congrArg Host.Outcome.next (if_pos (by simp [hsync, hin])), State.defectCleared_undeclare hd⟩

end Sys2Proof.Machine
end

section
/-! Fitting attempts (O3 to O5): what entering a fitting state, and starting, failing or disabling an attempt, leave. -/

namespace Sys2Proof.Machine

theorem Defect.fld_id_ne_evt (d : Defect) : d.fld.id ≠ R.LN_DEF_EVT.id := by cases d <;> decide

/-! ### Entering a fitting state (R58, R68) -/

theorem State.fit_enterFit (s : State) (n : Nat) {st : Nat} (h : st < 16) : (s.enterFit n st).fit n = st :=
  (State.fld_setFld_self (s.countService n st) R.LN_FIT_STATUS_STATE n st).trans (Nat.mod_eq_of_lt h)

theorem State.frame_countService (s : State) (n st : Nat) : (s.countService n st).frame = s.frame := State.fld_countService s n st 0 (by decide)

/-- Of the lane's hidden state entering a fitting state changes when it began, the markers counted and the rows sent. -/
theorem State.lane_enterFit (s : State) (n st : Nat) : ∃ x, (s.enterFit n st).lane n = { s.lane n with since := s.frame, markRun := 0, tx := x } := by
  unfold State.enterFit State.refreshTraining
  simp only [State.lane_updLane_self, State.lane_setFld, State.lane_countService]
  split
  · exact ⟨_, rfl⟩
  · exact ⟨_, rfl⟩

/-! ### What later steps of an attempt keep of its beginning -/

/-- What the beginning of an attempt or of a wait, and an IDENT, set of a lane is as in `l`. -/
structure LaneSt.KeepsStart (l l' : LaneSt) : Prop where
  since : l'.since = l.since
  out : l'.out = l.out
  coefNext : l'.coefNext = l.coefNext
  waitLen : l'.waitLen = l.waitLen
  identGot : l'.identGot = l.identGot
  lastRx : l'.lastRx = l.lastRx

theorem LaneSt.KeepsStart.refl (l : LaneSt) : l.KeepsStart l := ⟨rfl, rfl, rfl, rfl, rfl, rfl⟩

theorem LaneSt.KeepsStart.trans {a b c : LaneSt} (h : a.KeepsStart b) (g : b.KeepsStart c) : a.KeepsStart c :=
  ⟨g.since.trans h.since, g.out.trans h.out, g.coefNext.trans h.coefNext, g.waitLen.trans h.waitLen,
    g.identGot.trans h.identGot, g.lastRx.trans h.lastRx⟩

theorem State.keepsStart_updLane (s : State) (n : Nat) {f : LaneSt → LaneSt} (h : ∀ l : LaneSt, l.KeepsStart (f l)) : (s.lane n).KeepsStart ((s.updLane n f).lane n) := by
  rw [State.lane_updLane_self]
  exact h _

theorem State.keepsStart_refreshCa (s : State) (n : Nat) : (s.lane n).KeepsStart ((s.refreshCa n).lane n) :=
  State.keepsStart_updLane (s.setFlag R.LN_FRM_STAT_CA n (s.caActive n)) n (fun _ => ⟨rfl, rfl, rfl, rfl, rfl, rfl⟩)

theorem State.lane_latchIf (s : State) (b : Bool) (e : Ev) (i n : Nat) : (s.latchIf b e i).lane n = s.lane n := by
  unfold State.latchIf
  split
  · exact State.lane_latch s e i n
  · rfl

theorem State.keepsStart_loopFallback (s : State) (n : Nat) : (s.lane n).KeepsStart ((s.loopFallback n).lane n) := by
  unfold State.loopFallback
  split
  · rw [State.lane_latch]
    exact State.keepsStart_updLane ((s.setFlag R.LN_TX_STAT_TIMING_ACT n false).setFlag R.LN_TX_STAT_SLEWING n true) n (fun _ => ⟨rfl, rfl, rfl, rfl, rfl, rfl⟩)
  · exact .refl _

theorem State.lane_countsLsd (s : State) (n : Nat) (d : Defect) (k : Nat) : (s.countsLsd n d).lane k = s.lane k := by
  unfold State.countsLsd
  split
  · rfl
  · split <;> rfl

theorem State.keepsStart_declare (s : State) (n : Nat) (d : Defect) : (s.lane n).KeepsStart ((s.declare n d).lane n) := by
  cases h : s.declared n d with
  | true =>
    unfold State.declare
    rw [if_pos h]
    exact .refl _
  | false =>
    rw [State.declare_of_not_declared h]
    refine .trans ?_ (State.keepsStart_refreshCa _ n)
    rw [State.lane_countsLsd]
    unfold State.endsLoop
    split
    · refine .trans ?_ (State.keepsStart_updLane _ n (fun _ => ⟨rfl, rfl, rfl, rfl, rfl, rfl⟩))
      refine .trans ?_ (State.keepsStart_loopFallback _ n)
      rw [State.lane_latchIf]
      exact .refl _
    · rw [State.lane_latchIf]
      exact .refl _

theorem State.keepsStart_declareOof (s : State) (n : Nat) : (s.lane n).KeepsStart ((s.declareOof n).lane n) := by
  unfold State.declareOof
  refine .trans ?_ (State.keepsStart_declare _ n _)
  exact State.keepsStart_updLane s n (fun _ => ⟨rfl, rfl, rfl, rfl, rfl, rfl⟩)

theorem State.keepsStart_oofAfter (s : State) (n : Nat) (was : Bool) : (s.lane n).KeepsStart ((s.oofAfter n was).lane n) := by
  unfold State.oofAfter
  split
  · exact State.keepsStart_declareOof s n
  · exact .refl _

/-! ### Clearing every defect but LOS and LOL (R117) -/

/-- `s` with the flags of the defects that a new attempt clears at 0. -/
def State.clearDefects (s : State) (n : Nat) : State :=
  [Defect.oof, .lof, .lais, .lrdi, .lsd, .lsf, .lmm, .lph].foldl (fun t d => t.setFlag d.fld n false) s

/-- `s` with what is counted of LSD ended (R461). -/
def State.endsLsd (s : State) (n : Nat) (down : Bool) : State := if down then (s.lsdEnds n).hardDefect n else s.lsdEnds n

theorem State.wipeDefects_of_not_inSync {s : State} {n : Nat} (h : s.inSync n = false) :
    s.wipeDefects n = (((((s.clearDefects n).endsLsd n (s.hardDown n)).updLane n (fun l => { l.clearCounts with oofSince := none })).refreshCa n).rePrime
      n).declareOof n := by
  unfold State.wipeDefects State.endsLsd State.clearDefects
  dsimp only
  rw [if_neg (by simp [h])]

/-- The defects that a new attempt clears. -/
theorem State.declared_clearDefects (s : State) (n : Nat) {d : Defect} (h1 : d ≠ .los) (h2 : d ≠ .lol) : (s.clearDefects n).declared n d = false := by
  unfold State.clearDefects State.declared
  simp only [List.foldl]
  cases d with
  | los => exact absurd rfl h1
  | lol => exact absurd rfl h2
  | _ => simp (disch := decide) only [State.flag_setFlag_ne, State.flag_setFlag_self, Defect.fld]

theorem State.fld_endsLsd (s : State) (n : Nat) (down : Bool) (f : Fld) (i : Nat) : (s.endsLsd n down).fld f i = s.fld f i := by
  unfold State.endsLsd
  split <;> unfold State.lsdEnds <;> split <;> rfl

theorem State.lane_endsLsd (s : State) (n : Nat) (down : Bool) (k : Nat) : (s.endsLsd n down).lane k = s.lane k := by
  unfold State.endsLsd
  split <;> unfold State.lsdEnds <;> split <;> rfl

/-- A declaration changes no other defect. -/
theorem State.declared_declare_ne (s : State) (n : Nat) {d e : Defect} (h : e ≠ d) : (s.declare n d).declared n e = s.declared n e := by
  cases hd : s.declared n d with
  | true =>
    unfold State.declare
    rw [if_pos hd]
  | false =>
    unfold State.declared State.flag
    rw [State.fld_declare_eq hd n (by cases e <;> decide) (by cases e <;> decide), State.fld_latchIf_ne _ _ _ _ _ e.fld_id_ne_evt,
      State.fld_setFlag_ne _ _ _ _ (fun hid => h (Defect.fld_inj hid))]

theorem State.declared_updLane (s : State) (n : Nat) (f : LaneSt → LaneSt) (k : Nat) (d : Defect) : (s.updLane n f).declared k d = s.declared k d := rfl

/-- Beginning OOF anew declares it, and changes no other defect (R115). -/
theorem State.declared_declareOof {s : State} {n : Nat} (h : s.declared n .oof = false) (d : Defect) :
    (s.declareOof n).declared n d = (decide (d = .oof) || s.declared n d) := by
  unfold State.declareOof
  by_cases hd : d = .oof
  · subst hd
    exact State.declared_declare_self ((State.declared_updLane s n _ n .oof).trans h)
  · rw [State.declared_declare_ne _ _ hd, State.declared_updLane, decide_eq_false hd, Bool.false_or]

theorem State.declared_wipeDefects {s : State} {n : Nat} (h : s.inSync n = false) {d : Defect} (h1 : d ≠ .los) (h2 : d ≠ .lol) :
    (s.wipeDefects n).declared n d = decide (d = .oof) := by
  rw [State.wipeDefects_of_not_inSync h]
  have hclear : ∀ e, e ≠ .los → e ≠ .lol →
      (((((s.clearDefects n).endsLsd n (s.hardDown n)).updLane n (fun l => { l.clearCounts with oofSince := none })).refreshCa n).rePrime n).declared n e
        = false := fun e he1 he2 => by
    rw [← s.declared_clearDefects n he1 he2]
    unfold State.declared State.flag
    rw [State.fld_rePrime _ _ _ (by cases e <;> decide), State.fld_refreshCa _ _ _ (by cases e <;> decide), State.fld_updLane, State.fld_endsLsd]
  rw [State.declared_declareOof (hclear .oof (by decide) (by decide)), hclear d h1 h2, Bool.or_false]

theorem State.keepsStart_wipeDefects {s : State} {n : Nat} (h : s.inSync n = false) : (s.lane n).KeepsStart ((s.wipeDefects n).lane n) := by
  rw [State.wipeDefects_of_not_inSync h]
  refine .trans ?_ (State.keepsStart_declareOof _ n)
  rw [State.lane_rePrime]
  refine .trans ?_ (State.keepsStart_refreshCa _ n)
  refine .trans ?_ (State.keepsStart_updLane _ n (fun _ => ⟨rfl, rfl, rfl, rfl, rfl, rfl⟩))
  rw [State.lane_endsLsd]
  exact .refl _

end Sys2Proof.Machine
end

section
/-! The attempts of a lane (O3 to O5). -/

namespace Sys2Proof.Machine

/-! ### Advancing (O3) -/

/-- A lane with no message outstanding sends one at once (R74). -/
theorem State.lane_sendMsg_of_none {s : State} {n typ : Nat} {payload : List Nat} (h : (s.lane n).out = none) :
    (s.sendMsg n typ payload).lane n = { s.lane n with
      out := some ⟨typ, (s.lane n).nextMseq, payload⟩, outSends := 1, outSince := s.frame
      leaveSent := if typ = msgLeave then some s.frame else (s.lane n).leaveSent
      nextMseq := ((s.lane n).nextMseq + 1) % 256, fcTx := (s.lane n).fcTx ++ msgWords typ (s.lane n).nextMseq payload } := by
  unfold State.sendMsg
  rw [State.lane_updLane_self, h]

/-- A lane that has entered SERVICE, its failures and its backoff run at their start (R60). -/
def State.entersService (s : State) (n : Nat) : State :=
  (((s.enterFit n fitService).setFld R.LN_FIT_STATUS_FAILS n 0).setFld R.LN_FIT_BACKOFF_BACKOFF n 80).updLane n
    (fun l => { l with freshRun := true, waitLen := 0 })

/-- `s`, loop timed where it may be (R53). -/
def State.timed (s : State) (n : Nat) : State := if s.flag R.LN_TX_CFG_TIMING n && !(s.lane n).fellBack then s.loopReturn n else s

theorem State.enterService_eq (s : State) (n : Nat) :
    s.enterService n = ((((s.entersService n).timed n).updRaise (fun r => { r with laneServed := true })).refreshCa n).latch R.LN_FIT_EVT_SERVICE_ENTER n := rfl

theorem State.fld_timed (s : State) (n : Nat) {f : Fld} (i : Nat) (h : regOk 0x3000000000000000000000002000 f.id = false) :
    (s.timed n).fld f i = s.fld f i := by
  unfold State.timed
  split
  · exact State.fld_loopReturn s n i h
  · rfl

theorem State.since_timed (s : State) (n : Nat) : ((s.timed n).lane n).since = (s.lane n).since := by
  unfold State.timed
  split
  · unfold State.loopReturn
    rw [State.lane_updLane_self]
    rfl
  · rfl

/-- What no step after it names reads in SERVICE as it was set at its entry. -/
theorem State.fld_enterService_eq (s : State) (n : Nat) {f : Fld} (i : Nat) (h : regOk 0x3000000000000000000000002000 f.id = false)
    (hc : regOk 0x20000000000000000000000000000000002000 f.id = false) (he : f.id ≠ R.LN_FIT_EVT.id) :
    (s.enterService n).fld f i = (s.entersService n).fld f i := by
  rw [State.enterService_eq, State.fld_latch_ne _ _ _ _ he, State.fld_refreshCa _ _ _ hc, State.updRaise_fld]
  exact State.fld_timed _ n i h

/-- What entering SERVICE shows (R60, R77, R118). -/
theorem State.enterService_spec (s : State) (n : Nat) :
    (s.enterService n).fit n = fitService ∧ ((s.enterService n).lane n).since = s.frame
      ∧ (s.enterService n).fld R.LN_FIT_STATUS_FAILS n = 0 ∧ (s.enterService n).fld R.LN_FIT_BACKOFF_BACKOFF n = 80
      ∧ (s.enterService n).latched R.LN_FIT_EVT_SERVICE_ENTER n = true
      ∧ (s.enterService n).flag R.LN_FRM_STAT_CA n = (s.enterService n).caActive n := by
  refine ⟨?_, ?_, ?_, ?_, ?_, ?_⟩
  · refine (s.fld_enterService_eq n n (by decide) (by decide) (by decide)).trans ?_
    unfold State.entersService
    rw [State.fld_updLane, State.fld_setFld_ne _ _ _ _ (by decide), State.fld_setFld_ne _ _ _ _ (by decide)]
    exact s.fit_enterFit n (by decide)
  · obtain ⟨x, hlane⟩ := s.lane_enterFit n fitService
    rw [State.enterService_eq, State.lane_latch, (State.keepsStart_refreshCa _ n).since]
    rw [State.lane_updRaise, State.since_timed]
    unfold State.entersService
    rw [State.lane_updLane_self, State.lane_setFld, State.lane_setFld, hlane]
  · rw [s.fld_enterService_eq n n (by decide) (by decide) (by decide)]
    unfold State.entersService
    rw [State.fld_updLane, State.fld_setFld_ne _ _ _ _ (by decide), State.fld_setFld_self]
    rfl
  · rw [s.fld_enterService_eq n n (by decide) (by decide) (by decide)]
    unfold State.entersService
    rw [State.fld_updLane, State.fld_setFld_self]
    rfl
  · rw [State.enterService_eq]
    exact State.latched_latch _ R.LN_FIT_EVT_SERVICE_ENTER n (by decide)
  · rw [State.enterService_eq]
    have hkeep : ∀ (u : State) {f : Fld}, f.id ≠ R.LN_FIT_EVT.id → (u.latch R.LN_FIT_EVT_SERVICE_ENTER n).fld f n = u.fld f n := fun u f hf =>
      State.fld_latch_ne u _ n n hf
    rw [State.caActive_congr (fun d => congrArg (· == 1) (hkeep _ (by cases d <;> decide))) (hkeep _ (by decide)), ← State.flag_ca_refreshCa]
    exact congrArg (· == 1) (hkeep _ (by decide))

/-- Settles O3. Each exit condition holds, and what `State.enterFit` sets is what the statement names. -/
theorem attemptsAdvance : Obligations.AttemptsAdvance := by
  unfold Obligations.AttemptsAdvance
  intro n s
  refine ⟨fun rs hfit hsince hpresent hlos => ?_, fun hfit hmark hgone => ?_, fun hfit hgone hown hpartner => ?_, fun hfit hsync hclean hout => ?_,
    fun f hgo hfit hreach hen hpend => ?_⟩
  · refine ⟨(s.judgeLevels n rs).enterFit n fitLock, congrArg Host.Outcome.next (if_pos ?_), ?_, ?_⟩
    · rw [s.lane_judgeLevels]
      simp [hfit, hsince, hpresent, hlos]
    · exact State.fit_enterFit _ n (by decide)
    · obtain ⟨x, hlane⟩ := (s.judgeLevels n rs).lane_enterFit n fitLock
      rw [hlane]
      rfl
  · refine ⟨_, congrArg Host.Outcome.next (if_pos ?_), ?_, ?_⟩
    · unfold State.partnerGone
      simp [hfit, hmark, hgone]
    · exact State.fit_enterFit _ n (by decide)
    · obtain ⟨x, hlane⟩ := (s.updLane n (fun l => { l with ownReq := 3, ownTap := 0, ownPreset := s.fld R.LN_FIT_CTRL_PEER_PRESET n })).lane_enterFit n fitTune
      rw [hlane, State.lane_updLane_self]
      exact ⟨rfl, rfl, rfl⟩
  · refine ⟨_, congrArg Host.Outcome.next (if_pos ?_), ?_, ?_⟩
    · unfold State.partnerGone
      simp [hfit, hgone, hown, hpartner]
    · exact State.fit_enterFit _ n (by decide)
    · obtain ⟨x, hlane⟩ := (s.updLane n (fun l => { l with announcing := true })).lane_enterFit n fitFrame
      rw [hlane, State.lane_updLane_self]
      exact ⟨rfl, rfl⟩
  · obtain ⟨x, hlane⟩ := s.lane_enterFit n fitIntro
    refine ⟨(s.enterFit n fitIntro).sendMsg n msgIdent (s.identPayload n), congrArg Host.Outcome.next (if_pos ?_), ?_, ?_⟩
    · simp [hfit, hsync, hclean]
    · exact (State.fld_sendMsg _ n _ _ n (by decide)).trans (State.fit_enterFit s n (by decide))
    · rw [State.lane_sendMsg_of_none (by rw [hlane]; exact hout), hlane]
      exact ⟨rfl, rfl⟩
  · have hexec : exec (.serviceEnter n) s = .next ((s.enterService n).stampTick s) := by
      show Host.Outcome.next _ = _
      rw [hgo]
      dsimp only
      rw [if_pos (by simp [hfit, hreach, hen, hpend])]
    have hspec := s.enterService_spec n
    generalize s.enterService n = u at hexec hspec
    exact ⟨u.stampTick s, hexec, hspec⟩

end Sys2Proof.Machine
end

section
/-! How an attempt starts, fails and ends (O4, O5; R58, R60, R65, R66). -/

namespace Sys2Proof.Machine

/-! ### Events of a lane's fitting that stay latched -/

/-- OOF touches no event of fitting. -/
theorem State.fitEvt_declareOof (s : State) (n i : Nat) : (s.declareOof n).fld R.LN_FIT_EVT i = s.fld R.LN_FIT_EVT i := by
  unfold State.declareOof
  cases h : (s.updLane n (fun l => { l with oofSince := some s.frame })).declared n .oof with
  | true =>
    unfold State.declare
    rw [if_pos h]
    rfl
  | false =>
    rw [State.declare_of_not_declared h, State.fld_refreshCa _ _ _ (by decide), State.fld_countsLsd]
    show State.fld (State.latchIf _ _ _ _) _ _ = _
    rw [State.fld_latchIf_ne _ _ _ _ _ (by decide), State.fld_setFlag_ne _ _ _ _ (by decide), State.fld_updLane]

theorem State.fitEvt_oofAfter (s : State) (n : Nat) (was : Bool) (i : Nat) : (s.oofAfter n was).fld R.LN_FIT_EVT i = s.fld R.LN_FIT_EVT i := by
  unfold State.oofAfter
  split
  · exact s.fitEvt_declareOof n i
  · rfl

theorem State.fitEvt_wipeDefects {s : State} {n : Nat} (h : s.inSync n = false) (i : Nat) :
    (s.wipeDefects n).fld R.LN_FIT_EVT i = s.fld R.LN_FIT_EVT i := by
  rw [State.wipeDefects_of_not_inSync h, State.fitEvt_declareOof, State.fld_rePrime _ _ _ (by decide), State.fld_refreshCa _ _ _ (by decide),
    State.fld_updLane, State.fld_endsLsd]
  unfold State.clearDefects
  simp (disch := decide) only [List.foldl, State.fld_setFlag_ne, Defect.fld]

theorem State.latched_of_fld {s t : State} {e : Ev} {i : Nat} (hf : t.fld e.reg i = s.fld e.reg i) (h : s.latched e i = true) :
    t.latched e i = true := by
  unfold State.latched at h ⊢
  rw [hf]
  exact h

/-- An event stays latched over what leaves its register alone and then latches another of that register. -/
theorem State.latched_latch_after {s t : State} {e : Ev} {i : Nat} (h : s.latched e i = true) (hf : t.fld e.reg i = s.fld e.reg i) {e' : Ev}
    (hreg : e'.reg = e.reg) (hbit : e.bit < e.reg.width) (j : Nat) : (t.latch e' j).latched e i = true :=
  State.latched_latch_of_latched (State.latched_of_fld hf h) hbit hreg j

theorem State.latched_loopFallback {s : State} {e : Ev} {i : Nat} (h : s.latched e i = true) (hreg : e.reg = R.LN_FIT_EVT) (hbit : e.bit < e.reg.width)
    (n : Nat) : (s.loopFallback n).latched e i = true := by
  unfold State.loopFallback
  split
  · refine State.latched_latch_after h ?_ hreg.symm hbit n
    rw [hreg, State.fld_updLane, State.fld_setFlag_ne _ _ _ _ (by decide), State.fld_setFlag_ne _ _ _ _ (by decide)]
  · exact h

theorem State.latched_spareLeaves {s : State} {e : Ev} {i : Nat} (h : s.latched e i = true) (hreg : e.reg = R.LN_FIT_EVT) (hbit : e.bit < e.reg.width)
    (n : Nat) : (s.spareLeaves n).latched e i = true := by
  unfold State.spareLeaves
  split
  · refine State.latched_latch_after h ?_ hreg.symm hbit n
    rw [hreg, State.fld_freeSpare _ _ _ (by decide)]
  · exact h

theorem State.latched_backLeaves {s : State} {e : Ev} {i : Nat} (h : s.latched e i = true) (hreg : e.reg = R.LN_FIT_EVT) (hbit : e.bit < e.reg.width)
    (n : Nat) : (s.backLeaves n).latched e i = true := by
  unfold State.backLeaves
  dsimp only
  split
  · refine State.latched_latch_after h ?_ hreg.symm hbit n
    rw [State.fld_updLane]
  · exact h

/-- A lane of SERVICE that quits it latches SERVICE_LEAVE (R65). -/
theorem State.latched_quitService {s : State} {n : Nat} (h : s.inService n = true) : (s.quitService n).latched R.LN_FIT_EVT_SERVICE_LEAVE n = true := by
  have hleave : (s.latch R.LN_FIT_EVT_SERVICE_LEAVE n).latched R.LN_FIT_EVT_SERVICE_LEAVE n = true := State.latched_latch _ _ _ (by decide)
  unfold State.quitService
  rw [if_pos h]
  exact State.latched_backLeaves (State.latched_spareLeaves (State.latched_loopFallback hleave rfl (by decide) n) rfl (by decide) n) rfl (by decide) n

/-! ### The start of an attempt (R50, R58, R117) -/

/-- A lane that hunts for its alignment anew, at preset 1, with its hidden state as a new attempt has it. -/
def State.freshLane (s : State) (n : Nat) : State :=
  ((((((s.quitService n).dropAlign n).askTaps n (presetTaps 1)).setFlag R.LN_FIT_STATUS_RX_POL_INV n false).setFlag R.LN_ADAPT_STAT_FROZEN n
    false).setFld R.LN_ADAPT_STAT_GOOD_SECS n 0).updLane n LaneSt.freshAttempt

theorem State.startAttempt_eq (s : State) (n : Nat) : s.startAttempt n = ((s.freshLane n).enterFit n fitSignal).wipeDefects n := by
  unfold State.startAttempt State.freshLane
  rfl

theorem State.align_dropAlign (s : State) (n : Nat) : (s.dropAlign n).fld R.LN_FRM_STAT_ALIGN n = alignHunt := by
  unfold State.dropAlign
  simp (disch := decide) only [State.fld_setFlag_ne]
  exact State.fld_setFld_self _ _ _ _

theorem State.align_freshLane (s : State) (n : Nat) : (s.freshLane n).fld R.LN_FRM_STAT_ALIGN n = alignHunt := by
  unfold State.freshLane
  rw [State.fld_updLane, State.fld_setFld_ne _ _ _ _ (by decide), State.fld_setFlag_ne _ _ _ _ (by decide), State.fld_setFlag_ne _ _ _ _ (by decide),
    State.fld_askTaps _ _ _ _ (by decide), State.align_dropAlign]

theorem State.frame_freshLane (s : State) (n : Nat) : (s.freshLane n).frame = s.frame := by
  unfold State.freshLane State.frame
  rw [State.fld_updLane, State.fld_setFld_ne _ _ _ _ (by decide), State.fld_setFlag_ne _ _ _ _ (by decide), State.fld_setFlag_ne _ _ _ _ (by decide),
    State.fld_askTaps _ _ _ _ (by decide), State.fld_dropAlign _ _ _ (by decide), State.fld_quitService _ _ _ (by decide)]

theorem State.inSync_enterFit_freshLane (s : State) (n st : Nat) : ((s.freshLane n).enterFit n st).inSync n = false := by
  unfold State.inSync
  rw [State.fld_enterFit _ _ _ _ (by decide), State.align_freshLane]
  rfl

theorem State.lane_freshLane (s : State) (n : Nat) : ((s.freshLane n).lane n).out = none ∧ ((s.freshLane n).lane n).coefNext = some (presetTaps 1) := by
  unfold State.freshLane State.askTaps
  simp only [State.lane_updLane_self, State.lane_setFld, State.lane_setFlag]
  exact ⟨rfl, rfl⟩

/-- A new attempt starts (R50, R58, R115, R117). -/
theorem State.attemptStarted_startAttempt (s : State) (n : Nat) : AttemptStarted n s (s.startAttempt n) := by
  have hsync := s.inSync_enterFit_freshLane n fitSignal
  have hkeep := State.keepsStart_wipeDefects hsync
  obtain ⟨x, hlane⟩ := (s.freshLane n).lane_enterFit n fitSignal
  obtain ⟨hout, hcoef⟩ := s.lane_freshLane n
  rw [hlane] at hkeep
  rw [State.startAttempt_eq]
  refine ⟨?_, ?_, ?_, ?_, ?_, ?_, ?_, ?_, ?_⟩
  · unfold State.fit
    rw [State.fld_wipeDefects _ _ _ (by decide)]
    exact State.fit_enterFit _ n (by decide)
  · rw [hkeep.since, State.frame_freshLane]
  · unfold State.nextTaps
    rw [hkeep.coefNext, hcoef]
    rfl
  · rw [State.fld_wipeDefects _ _ _ (by decide), State.fld_enterFit _ _ _ _ (by decide), State.align_freshLane]
  · rw [State.fld_wipeDefects _ _ _ (by decide), State.fld_enterFit _ _ _ _ (by decide)]
    unfold State.freshLane
    rw [State.fld_updLane, State.fld_setFld_ne _ _ _ _ (by decide), State.fld_setFlag_ne _ _ _ _ (by decide)]
    exact State.fld_setFld_self _ _ _ _
  · rw [hkeep.out, hout]
  · intro d h1 h2 h3
    rw [State.declared_wipeDefects hsync h1 h2, decide_eq_false h3]
  · exact State.declared_wipeDefects hsync (by decide) (by decide)
  · intro hservice
    refine State.latched_of_fld ?_ (State.latched_quitService hservice)
    show State.fld _ R.LN_FIT_EVT n = _
    rw [State.fitEvt_wipeDefects hsync, State.fld_enterFit _ _ _ _ (by decide)]
    unfold State.freshLane
    rw [State.fld_updLane, State.fld_setFld_ne _ _ _ _ (by decide), State.fld_setFlag_ne _ _ _ _ (by decide), State.fld_setFlag_ne _ _ _ _ (by decide),
      State.fld_askTaps _ _ _ _ (by decide), State.fld_dropAlign _ _ _ (by decide)]
    rfl

/-! ### DISABLED (R58, R65, R66) -/

theorem State.fit_disableLane (s : State) (n : Nat) : (s.disableLane n).fit n = fitDisabled := by
  unfold State.disableLane State.fit
  rw [State.fld_refreshCa _ _ _ (by decide), State.fld_oofAfter _ _ _ _ (by decide)]
  exact State.fit_enterFit _ n (by decide)

theorem State.ca_disableLane (s : State) (n : Nat) : (s.disableLane n).flag R.LN_FRM_STAT_CA n = (s.disableLane n).caActive n :=
  State.flag_ca_refreshCa _ n

/-- A lane that leaves starts a new attempt, or is disabled where ENABLE has been cleared (R65). -/
theorem State.restartLane_spec (s : State) (n : Nat) :
    if s.flag R.LN_FIT_CTRL_ENABLE n then AttemptStarted n s (s.restartLane n) else (s.restartLane n).fit n = fitDisabled := by
  unfold State.restartLane
  split
  · exact s.attemptStarted_startAttempt n
  · exact s.fit_disableLane n

/-! ### Failure (R58, R60) -/

/-- A failed attempt with its cause and its count, out of SERVICE and out of alignment, its next backoff begun. -/
def State.failedLane (s : State) (n : Nat) : State :=
  let b := nextBackoff (s.lane n).freshRun (s.fld R.LN_FIT_BACKOFF_BACKOFF n)
  let s1 := (((s.setFld R.LN_FIT_STATUS_LAST_FAIL n (s.fit n)).satFld R.LN_FIT_STATUS_FAILS n 1).quitService n).latch R.LN_FIT_EVT_ATTEMPT_FAIL n
  (((s1.updSist (fun x => { x with lifeFails := x.lifeFails.put n (x.lifeFails.get n 0 + 1) })).dropAlign n).setFld R.LN_FIT_BACKOFF_BACKOFF n b).updLane
    n (fun l => { l.freshAttempt with freshRun := false, waitLen := b })

theorem State.failAttempt_eq (s : State) (n : Nat) : s.failAttempt n = (((s.failedLane n).enterFit n fitWait).oofAfter n (s.inSync n)).refreshCa n := by
  unfold State.failAttempt State.failedLane State.updSist
  rfl

theorem nextBackoff_le (fresh : Bool) (b : Nat) : nextBackoff fresh b ≤ 10240 := by
  unfold nextBackoff
  split <;> omega

/-- Of the fields that the failure sets, what the wait begins with. -/
theorem State.fld_failAttempt_eq (s : State) (n : Nat) {f : Fld} (h : regOk 0x9ffa0000000003040000000000020000000002c00 f.id = false)
    (hs : regOk 0x200000000020000000002000 f.id = false) (hc : regOk 0x20000000000000000000000000000000002000 f.id = false) :
    (s.failAttempt n).fld f n = (s.failedLane n).fld f n := by
  rw [State.failAttempt_eq, State.fld_refreshCa _ _ _ hc, State.fld_oofAfter _ _ _ _ h, State.fld_enterFit _ _ _ _ hs]

theorem State.fld_satFld_ne (s : State) {f g : Fld} (i j n : Nat) (h : g.id ≠ f.id) : (s.satFld f i n).fld g j = s.fld g j :=
  State.fld_setFld_ne s i j _ h

theorem State.frame_failedLane (s : State) (n : Nat) : (s.failedLane n).frame = s.frame := by
  unfold State.failedLane State.frame
  dsimp only
  rw [State.fld_updLane, State.fld_setFld_ne _ _ _ _ (by decide), State.fld_dropAlign _ _ _ (by decide), State.updSist_fld,
    State.fld_latch_ne _ _ _ _ (by decide), State.fld_quitService _ _ _ (by decide), State.fld_satFld_ne _ _ _ _ (by decide),
    State.fld_setFld_ne _ _ _ _ (by decide)]

/-- An attempt that fails in one of its states (R58, R60). -/
theorem State.attemptFailed_failAttempt {s : State} {n : Nat} (hfit : s.fit n < 8) : AttemptFailed n s (s.failAttempt n) := by
  obtain ⟨x, hlane⟩ := (s.failedLane n).lane_enterFit n fitWait
  have hkeep := (State.keepsStart_oofAfter ((s.failedLane n).enterFit n fitWait) n (s.inSync n)).trans (State.keepsStart_refreshCa _ n)
  rw [← State.failAttempt_eq, hlane] at hkeep
  have hback := nextBackoff_le (s.lane n).freshRun (s.fld R.LN_FIT_BACKOFF_BACKOFF n)
  refine ⟨?_, ?_, ?_, ?_, ?_, ?_, ?_⟩
  · unfold State.fit
    rw [State.failAttempt_eq, State.fld_refreshCa _ _ _ (by decide), State.fld_oofAfter _ _ _ _ (by decide)]
    exact State.fit_enterFit _ n (by decide)
  · rw [s.fld_failAttempt_eq n (by decide) (by decide) (by decide)]
    unfold State.failedLane
    dsimp only
    rw [State.fld_updLane, State.fld_setFld_ne _ _ _ _ (by decide), State.fld_dropAlign _ _ _ (by decide), State.updSist_fld,
      State.fld_latch_ne _ _ _ _ (by decide), State.fld_quitService _ _ _ (by decide), State.fld_satFld_ne _ _ _ _ (by decide), State.fld_setFld_self]
    exact Nat.mod_eq_of_lt (Nat.lt_trans hfit (by decide))
  · rw [s.fld_failAttempt_eq n (by decide) (by decide) (by decide)]
    unfold State.failedLane
    dsimp only
    rw [State.fld_updLane, State.fld_setFld_self]
    exact Nat.mod_eq_of_lt (Nat.lt_of_le_of_lt hback (by decide))
  · rw [hkeep.waitLen]
    unfold State.failedLane
    dsimp only
    rw [State.lane_updLane_self]
  · rw [hkeep.since, State.frame_failedLane]
  · rw [s.fld_failAttempt_eq n (by decide) (by decide) (by decide)]
    unfold State.failedLane
    dsimp only
    rw [State.fld_updLane, State.fld_setFld_ne _ _ _ _ (by decide), State.fld_dropAlign _ _ _ (by decide), State.updSist_fld,
      State.fld_latch_ne _ _ _ _ (by decide), State.fld_quitService _ _ _ (by decide), State.fld_satFld_self, State.fld_setFld_ne _ _ _ _ (by decide)]
    rfl
  · have hfail : ∀ u : State, (u.latch R.LN_FIT_EVT_ATTEMPT_FAIL n).latched R.LN_FIT_EVT_ATTEMPT_FAIL n = true := fun u =>
      State.latched_latch u _ _ (by decide)
    refine State.latched_of_fld ?_ (hfail (((s.setFld R.LN_FIT_STATUS_LAST_FAIL n (s.fit n)).satFld R.LN_FIT_STATUS_FAILS n 1).quitService n))
    rw [State.failAttempt_eq, State.fld_refreshCa _ _ _ (by decide)]
    show State.fld _ R.LN_FIT_EVT n = _
    rw [State.fitEvt_oofAfter, State.fld_enterFit _ _ _ _ (by decide)]
    unfold State.failedLane
    dsimp only
    rw [State.fld_updLane, State.fld_setFld_ne _ _ _ _ (by decide), State.fld_dropAlign _ _ _ (by decide), State.updSist_fld]
    rfl

/-! ### The obligations -/

theorem fit_lt_of_timeout {st k : Nat} (h : fitTimeoutOf st = some k) : st < 8 := by
  unfold fitTimeoutOf at h
  split_ifs at h <;> subst_vars <;> decide

/-- Settles O4. In each case the attempt fails in one of its states; after the eighth send a lane whose ENABLE has been cleared is disabled. -/
theorem failedAttemptsWait : Obligations.FailedAttemptsWait := by
  unfold Obligations.FailedAttemptsWait
  intro n s
  refine ⟨fun k hk hle => ?_, fun hlast hlo hhi => ?_, fun hfit hgone => ?_, fun msg hout hsince hsends hfit => ?_⟩
  · refine ⟨s.failAttempt n, ?_, State.attemptFailed_failAttempt (fit_lt_of_timeout hk)⟩
    show Host.Outcome.next _ = _
    rw [hk]
    dsimp only
    rw [if_pos hle]
  · refine ⟨s.failAttempt n, congrArg Host.Outcome.next (if_pos (by simp [hlast, hlo, hhi])), State.attemptFailed_failAttempt ?_⟩
    unfold fitIntro at hhi
    omega
  · refine ⟨s.failAttempt n, congrArg Host.Outcome.next (if_pos ?_), State.attemptFailed_failAttempt ?_⟩
    · unfold State.partnerGone
      simp [hfit, hgone]
    · rcases hfit with h | h <;> rw [h] <;> decide
  · have hfails : s.fit n = fitIntro ∨ msg.typ = msgServiceGo := hfit.imp id And.left
    have hlt : s.fit n < 8 := by
      rcases hfit with h | ⟨-, h⟩ <;> rw [h] <;> decide
    refine ⟨if s.flag R.LN_FIT_CTRL_ENABLE n then s.failAttempt n else (s.failAttempt n).disableLane n, ?_, ?_⟩
    · show Host.Outcome.next _ = _
      rw [hout]
      dsimp only
      rw [if_neg (Nat.not_lt.mpr hsince), if_neg (Nat.not_lt.mpr hsends), if_pos (by simpa using hfails)]
    · split
      · exact State.attemptFailed_failAttempt hlt
      · exact State.fit_disableLane _ n

/-- An acknowledgement in the frame being sent changes no register (R65). -/
theorem State.regs_ackInFrame (s : State) (n seq : Nat) : (s.ackInFrame n seq).regs = s.regs := by
  unfold State.ackInFrame
  split <;> rfl

/-- Settles O5. In each case the lane starts a new attempt, or is disabled where ENABLE has been cleared. -/
theorem attemptsStartAtSignal : Obligations.AttemptsStartAtSignal := by
  unfold Obligations.AttemptsStartAtSignal
  intro n s
  refine ⟨fun hfit hlen => ?_, fun hfit hwake => ?_, fun hservice hlast => ?_, fun hsends => ?_, fun seq hhears hservice => ?_⟩
  · exact ⟨_, congrArg Host.Outcome.next (if_pos (by simp [hfit, hlen])), s.attemptStarted_startAttempt n⟩
  · exact ⟨_, congrArg Host.Outcome.next (if_pos (by simp [hfit, hwake])), s.attemptStarted_startAttempt n⟩
  · exact ⟨_, congrArg Host.Outcome.next (if_pos (by simp [hservice, hlast])), s.restartLane_spec n⟩
  · exact ⟨_, congrArg Host.Outcome.next (if_pos hsends), s.restartLane_spec n⟩
  · refine ⟨_, congrArg Host.Outcome.next (if_pos (by simp [hservice, hhears.2])), ?_⟩
    have hspec := (s.ackInFrame n seq.toNat).restartLane_spec n
    have hfld := State.fld_of_regs (s.regs_ackInFrame n seq.toNat)
    have hstarted : ∀ t, AttemptStarted n (s.ackInFrame n seq.toNat) t → AttemptStarted n s t := fun t ht => by
      unfold AttemptStarted State.frame State.inService State.fit at ht ⊢
      rwa [hfld, hfld] at ht
    unfold State.flag at hspec ⊢
    rw [hfld] at hspec
    dsimp only
    split at hspec
    · next hen =>
      rw [if_pos hen]
      exact hstarted _ hspec
    · next hen =>
      rw [if_neg hen]
      exact hspec

end Sys2Proof.Machine
end

section
/-! Fitting messages (O6; R66, R74 to R77, R82, R83). -/

namespace Sys2Proof.Machine

/-! ### Messages taken, sent and released (R74) -/

/-- Lane `n` of `s` after a good message with MSEQ `seq` was acknowledged and noted (R74). -/
def State.heard (s : State) (n seq : Nat) : State := (s.sendAck n seq).updLane n (fun l => { l with lastRx := some seq })

theorem State.takeMsg_of_hears {s : State} {n seq : Nat} (h : s.hears n seq) (act : State → State) : s.takeMsg n seq act = act (s.heard n seq) := by
  obtain ⟨hsends, hnew⟩ := h
  unfold State.takeMsg
  rw [if_pos hsends]
  dsimp only
  rw [if_neg hnew]
  rfl

theorem State.takeMsg_of_repeated {s : State} {n seq : Nat} (hsends : s.sendsTraffic n = true) (h : (s.lane n).lastRx = some seq)
    (act : State → State) : s.takeMsg n seq act = s.sendAck n seq := by
  unfold State.takeMsg
  rw [if_pos hsends]
  dsimp only
  rw [if_pos h]

theorem State.regs_heard (s : State) (n seq : Nat) : (s.heard n seq).regs = s.regs := rfl

theorem State.fld_heard (s : State) (n seq : Nat) (f : Fld) (i : Nat) : (s.heard n seq).fld f i = s.fld f i := rfl

theorem State.flag_heard (s : State) (n seq : Nat) (f : Fld) (i : Nat) : (s.heard n seq).flag f i = s.flag f i := rfl

theorem State.lane_heard (s : State) (n seq : Nat) :
    (s.heard n seq).lane n = { s.lane n with fcTx := (s.lane n).fcTx ++ msgWords msgAck seq [seq % 256], lastRx := some seq } := by
  unfold State.heard State.sendAck
  rw [State.lane_updLane_self, State.lane_updLane_self]

theorem toNat_mod_256 (seq : BitVec 8) : seq.toNat % 256 = seq.toNat := Nat.mod_eq_of_lt seq.isLt

/-- A message that is sent, or made to wait, leaves the rest of the lane. -/
theorem State.lane_sendMsg (s : State) (n typ : Nat) (payload : List Nat) :
    ∃ o k f v q w x, (s.sendMsg n typ payload).lane n =
      { s.lane n with out := o, outSends := k, outSince := f, leaveSent := v, nextMseq := q, fcTx := w, outQueue := x } := by
  unfold State.sendMsg
  rw [State.lane_updLane_self]
  split
  · exact ⟨_, _, _, _, _, _, _, rfl⟩
  · exact ⟨_, _, _, _, _, _, _, rfl⟩

/-- With no other that waits, the release of the outstanding message leaves none (R74). -/
theorem State.releaseMsg_of_empty {s : State} {n : Nat} (h : (s.lane n).outQueue = []) :
    s.releaseMsg n = s.setLane n { s.lane n with out := none, outSends := 0 } := by
  unfold State.releaseMsg
  dsimp only
  rw [h]

/-! ### IDENT and SERVICE_GO (R75 to R77) -/

theorem State.fld_maybeGo_eq (s : State) (n : Nat) (f : Fld) (i : Nat) : (s.maybeGo n).fld f i = s.fld f i := by
  unfold State.maybeGo
  dsimp only
  split
  · unfold State.sendMsg
    rfl
  · rfl

theorem State.lane_maybeGo (s : State) (n : Nat) :
    ((s.maybeGo n).lane n).identGot = (s.lane n).identGot ∧ ((s.maybeGo n).lane n).lastRx = (s.lane n).lastRx
      ∧ ((s.maybeGo n).lane n).identAcked = (s.lane n).identAcked := by
  unfold State.maybeGo
  dsimp only
  split
  · obtain ⟨o, k, f, v, q, w, x, h⟩ :=
      (s.updLane n (fun l => { l with goOwn := some (frameAdd s.frame 4) })).lane_sendMsg n msgServiceGo [frameAdd s.frame 4]
    rw [h, State.lane_updLane_self]
    exact ⟨rfl, rfl, rfl⟩
  · exact ⟨rfl, rfl, rfl⟩

/-- Lane `n` with the partner's identity stored (R75). -/
def State.identStored (s : State) (n : Nat) (ws : List Nat) : State :=
  let t := ((((s.setFld R.LN_PEER_ID0_ID n (ws.getD 0 0)).setFld R.LN_PEER_ID1_ID n (ws.getD 1 0)).setFld R.LN_PEER_ID2_ID n (ws.getD 2 0)).setFld
    R.LN_PEER_ID3_ID n (ws.getD 3 0)).setFld R.LN_PEER_ID4_ID n (ws.getD 4 0)
  (if isSpare n then t.setFld R.LN_SPARE_STAT_COVER n (if bit (ws.getD 4 0) 3 = 1 then bits (ws.getD 4 0) 16 16 else 0) else t).updLane n
    (fun l => { l with identGot := true })

/-- `s` with LMM declared where R76 applies. -/
def State.judgesIdent (s : State) (n : Nat) : State := if s.identMismatch n then s.declare n .lmm else s

theorem State.rxIdent_of_hears {s : State} {n seq : Nat} (h : s.hears n seq) (ws : List Nat) :
    s.rxIdent n seq ws = (((s.heard n seq).identStored n ws).judgesIdent n).maybeGo n := by
  unfold State.rxIdent
  rw [State.takeMsg_of_hears h]
  rfl

theorem State.fld_identStored (s : State) (n : Nat) (ws : List Nat) {f : Fld} (h : f.id ≠ R.LN_SPARE_STAT_COVER.id) (i : Nat) :
    (s.identStored n ws).fld f i = (((((s.setFld R.LN_PEER_ID0_ID n (ws.getD 0 0)).setFld R.LN_PEER_ID1_ID n (ws.getD 1 0)).setFld R.LN_PEER_ID2_ID n
      (ws.getD 2 0)).setFld R.LN_PEER_ID3_ID n (ws.getD 3 0)).setFld R.LN_PEER_ID4_ID n (ws.getD 4 0)).fld f i := by
  unfold State.identStored
  dsimp only
  rw [State.fld_updLane]
  split
  · exact State.fld_setFld_ne _ _ _ _ h
  · rfl

theorem State.fld_judgesIdent (s : State) (n : Nat) {f : Fld} (i : Nat) (h : regOk 0x9ffa0000000003040000000000020000000002c00 f.id = false) :
    (s.judgesIdent n).fld f i = s.fld f i := by
  unfold State.judgesIdent
  split
  · exact State.fld_declare s n .lmm i h
  · rfl

theorem State.keepsStart_judgesIdent (s : State) (n : Nat) : (s.lane n).KeepsStart ((s.judgesIdent n).lane n) := by
  unfold State.judgesIdent
  split
  · exact State.keepsStart_declare s n .lmm
  · exact .refl _

/-- R76 is told by the exchange and by four registers. -/
theorem State.identMismatch_congr {s t : State} {n : Nat} (hl : (t.lane n).identGot = (s.lane n).identGot)
    (hf : ∀ f : Fld, regOk 0x9ffa0000000003040000000000020000000002c00 f.id = false → ∀ i, t.fld f i = s.fld f i) :
    t.identMismatch n = s.identMismatch n := by
  unfold State.identMismatch State.flag
  rw [hl, hf R.LN_FIT_CTRL_EXPECT_EN (by decide), hf R.LN_PEER_ID1_ID (by decide), hf R.LN_EXPECT_TAG (by decide), hf R.LN_PEER_ID0_ID (by decide),
    hf R.MAT_STAT_SIDE (by decide)]

/-- After IDENT was judged, LMM is declared where R76 applies. -/
theorem State.lmm_judgesIdent {s : State} {n : Nat} (h : (s.judgesIdent n).identMismatch n = true) : (s.judgesIdent n).declared n .lmm = true := by
  have hsame : (s.judgesIdent n).identMismatch n = s.identMismatch n :=
    State.identMismatch_congr (s.keepsStart_judgesIdent n).identGot (fun f hf i => s.fld_judgesIdent n i hf)
  rw [hsame] at h
  unfold State.judgesIdent
  rw [if_pos h]
  cases hd : s.declared n .lmm with
  | true =>
    unfold State.declare
    rw [if_pos hd]
    exact hd
  | false => exact State.declared_declare_self hd

/-- A word of IDENT is stored whole (R75). -/
theorem ident_word (ws : List Word) (k : Nat) : ((ws.map BitVec.toNat).getD k 0) % 2 ^ 32 = (ws.getD k 0).toNat := by
  have hget : (ws.map BitVec.toNat).getD k 0 = (ws.getD k 0).toNat := by
    rw [List.getD_eq_getElem?_getD, List.getD_eq_getElem?_getD, List.getElem?_map]
    cases ws[k]? <;> rfl
  rw [hget]
  exact Nat.mod_eq_of_lt (ws.getD k 0).isLt

end Sys2Proof.Machine
end

section
/-! The fitting messages that a lane receives and sends (O6). -/

namespace Sys2Proof.Machine

/-- IDENT, the first time (R75, R76). -/
theorem State.ident_spec {s : State} {n seq : Nat} (h : s.hears n seq) (ws : List Nat) :
    (∀ f : Fld, regOk 0x9ffa0000000003040000000000020000000002c00 f.id = false →
        (s.rxIdent n seq ws).fld f n = ((s.heard n seq).identStored n ws).fld f n)
      ∧ ((s.rxIdent n seq ws).lane n).identGot = true ∧ ((s.rxIdent n seq ws).lane n).lastRx = some seq
      ∧ ((s.rxIdent n seq ws).identMismatch n = true → (s.rxIdent n seq ws).declared n .lmm = true) := by
  have hstored : ((s.heard n seq).identStored n ws).lane n = { (s.heard n seq).lane n with identGot := true } := by
    unfold State.identStored
    dsimp only
    rw [State.lane_updLane_self]
    split <;> rfl
  rw [State.rxIdent_of_hears h]
  obtain ⟨hgot, hlast, -⟩ := (((s.heard n seq).identStored n ws).judgesIdent n).lane_maybeGo n
  have hkeep := ((s.heard n seq).identStored n ws).keepsStart_judgesIdent n
  have hfld := (((s.heard n seq).identStored n ws).judgesIdent n).fld_maybeGo_eq n
  refine ⟨fun f hf => ?_, ?_, ?_, fun hmm => ?_⟩
  · rw [hfld, State.fld_judgesIdent _ _ _ hf]
  · rw [hgot, hkeep.identGot, hstored]
  · rw [hlast, hkeep.lastRx, hstored, State.lane_heard]
  · have hsame := State.identMismatch_congr (t := (((s.heard n seq).identStored n ws).judgesIdent n).maybeGo n)
      (s := ((s.heard n seq).identStored n ws).judgesIdent n) (n := n) hgot (fun f _ i => hfld f i)
    rw [hsame] at hmm
    have hlmm := State.lmm_judgesIdent hmm
    unfold State.declared State.flag at hlmm ⊢
    rw [hfld]
    exact hlmm

/-- The words of IDENT are in LN_PEER_ID (R75). -/
theorem State.peerId_identStored (s : State) (n : Nat) (ws : List Nat) :
    (s.identStored n ws).fld R.LN_PEER_ID0_ID n = ws.getD 0 0 % 2 ^ 32 ∧ (s.identStored n ws).fld R.LN_PEER_ID1_ID n = ws.getD 1 0 % 2 ^ 32
      ∧ (s.identStored n ws).fld R.LN_PEER_ID2_ID n = ws.getD 2 0 % 2 ^ 32 ∧ (s.identStored n ws).fld R.LN_PEER_ID3_ID n = ws.getD 3 0 % 2 ^ 32
      ∧ (s.identStored n ws).fld R.LN_PEER_ID4_ID n = ws.getD 4 0 % 2 ^ 32 := by
  refine ⟨?_, ?_, ?_, ?_, ?_⟩ <;> rw [State.fld_identStored _ _ _ (by decide)] <;>
    simp (disch := decide) only [State.fld_setFld_ne, State.fld_setFld_self, R.LN_PEER_ID0_ID, R.LN_PEER_ID1_ID, R.LN_PEER_ID2_ID, R.LN_PEER_ID3_ID,
      R.LN_PEER_ID4_ID]

/-- A repeated message is acknowledged, and not acted on again (R74). -/
theorem State.sendAck_spec (s : State) (n : Nat) (seq : BitVec 8) :
    (s.sendAck n seq.toNat).regs = s.regs
      ∧ (s.sendAck n seq.toNat).lane n = { s.lane n with fcTx := (s.lane n).fcTx ++ msgWords msgAck seq.toNat [seq.toNat] } := by
  refine ⟨rfl, ?_⟩
  unfold State.sendAck
  rw [State.lane_updLane_self, toNat_mod_256]

theorem exec_repeated {s : State} {n : LaneIx} {seq : BitVec 8} {ws : List Word} {f : Word} {c : Instr}
    (hc : c ∈ [Instr.ident n seq ws, .serviceGo n seq f, .sparePrep n seq f, .spareSelect n seq f f, .spareRelease n seq f, .leave n seq])
    (hsends : s.sendsTraffic n = true) (hlast : (s.lane n).lastRx = some seq.toNat) : exec c s = .next (s.sendAck n seq.toNat) := by
  have htake := State.takeMsg_of_repeated hsends hlast
  simp only [List.mem_cons, List.not_mem_nil, or_false] at hc
  rcases hc with rfl | rfl | rfl | rfl | rfl | rfl
  · exact congrArg Host.Outcome.next (htake _)
  · exact congrArg Host.Outcome.next (htake _)
  · exact congrArg Host.Outcome.next (htake _)
  · exact congrArg Host.Outcome.next (htake _)
  · exact congrArg Host.Outcome.next (htake _)
  · refine congrArg Host.Outcome.next ?_
    unfold State.rxLeave
    rw [if_neg (by simp [hlast])]
    exact htake _

/-! ### What an acknowledgement brings (R66, R77, R82, R83) -/

theorem State.released_fld (s : State) (n : Nat) (l : LaneSt) (f : Fld) (i : Nat) : (s.setLane n l).fld f i = s.fld f i := rfl

theorem State.startShadow_spec {s : State} {n x : Nat} :
    (s.startShadow n x).flag R.LN_SPARE_STAT_SHADOW n = true ∧ ((s.startShadow n x).lane n).target = x
      ∧ (s.startShadow n x).flag R.LN_SPARE_STAT_READY n =
        (s.flag R.LN_SPARE_STAT_SHADOW n && decide ((s.lane n).target = x) && s.flag R.LN_SPARE_STAT_READY n) := by
  unfold State.startShadow
  by_cases hsame : (s.flag R.LN_SPARE_STAT_SHADOW n && decide ((s.lane n).target = x)) = true
  · rw [if_pos hsame]
    obtain ⟨hshadow, htarget⟩ := Bool.and_eq_true_iff.mp hsame
    exact ⟨hshadow, of_decide_eq_true htarget, by rw [hsame, Bool.true_and]⟩
  · rw [if_neg hsame]
    dsimp only
    refine ⟨?_, ?_, ?_⟩
    · rw [State.updLane_flag, State.flag_setFlag_ne _ _ _ _ (by decide)]
      exact State.flag_setFlag_self _ _ _ _ (by decide)
    · rw [State.lane_updLane_self]
    · rw [State.updLane_flag, State.flag_setFlag_self _ _ _ _ (by decide), Bool.eq_false_iff.mpr hsame, Bool.false_and]

theorem State.lane_updLane_ne (s : State) {n k : Nat} (f : LaneSt → LaneSt) (h : k ≠ n) : (s.updLane n f).lane k = s.lane k :=
  Tab.get_put_ne s.lanes _ _ h

theorem State.startBack_spec (s : State) {k n : Nat} (h : k ≠ n) :
    ((s.startBack k n).lane k).back = true ∧ (s.startBack k n).flag R.LN_SPARE_STAT_READY k = false := by
  unfold State.startBack
  refine ⟨?_, ?_⟩
  · rw [State.lane_updLane_ne _ _ h, State.lane_updLane_self]
  · rw [State.updLane_flag, State.updLane_flag]
    exact State.flag_setFlag_self _ _ _ _ (by decide)

theorem State.freeSpare_spec (s : State) (n : Nat) :
    (s.freeSpare n).flag R.LN_SPARE_STAT_SHADOW n = false ∧ (s.freeSpare n).flag R.LN_SPARE_STAT_CARRYING n = false
      ∧ (s.freeSpare n).flag R.LN_SPARE_STAT_READY n = false := by
  unfold State.freeSpare
  dsimp only
  refine ⟨?_, ?_, ?_⟩ <;> rw [State.updLane_flag]
  · rw [State.flag_setFlag_ne _ _ _ _ (by decide)]
    exact State.flag_setFlag_self _ _ _ _ (by decide)
  · rw [State.flag_setFlag_ne _ _ _ _ (by decide), State.flag_setFlag_ne _ _ _ _ (by decide), State.flag_setFld_ne _ _ _ _ (by decide)]
    exact State.flag_setFlag_self _ _ _ _ (by decide)
  · exact State.flag_setFlag_self _ _ _ _ (by decide)

/-- A release frees a spare that carries no lane (R83). -/
theorem State.releaseSpare_of_free {s : State} {n : Nat} (h : s.flag R.LN_SPARE_STAT_CARRYING n = false) :
    (s.releaseSpare n).flag R.LN_SPARE_STAT_SHADOW n = false ∧ (s.releaseSpare n).flag R.LN_SPARE_STAT_CARRYING n = false
      ∧ (s.releaseSpare n).flag R.LN_SPARE_STAT_READY n = false := by
  have hfree := (s.updLane n (fun l => { l with used := false })).freeSpare_spec n
  unfold State.releaseSpare
  dsimp only
  rw [if_neg (Bool.eq_false_iff.mp h)]
  split
  · simp (disch := decide) only [State.flag_setFld_ne]
    exact hfree
  · exact hfree

/-- A release of a spare that carries a lane ends the copies on that lane (R83). -/
theorem State.releaseSpare_of_carrying {s : State} {n : Nat} (h : s.flag R.LN_SPARE_STAT_CARRYING n = true) :
    s.releaseSpare n = s.updLane n (fun l => { l with ended := l.ended || !l.back }) := by
  unfold State.releaseSpare
  rw [if_pos h]

theorem State.ne_of_spareFor {s : State} {n k : Nat} (h : s.spareFor n = some k) : k ≠ n := by
  unfold State.spareFor at h
  split_ifs at h with hc
  have hk := Option.some.inj h
  have hn := of_decide_eq_true (Bool.and_eq_true_iff.mp hc).1
  omega

/-- The state in which the acknowledgement of the outstanding message acts. -/
def State.released (s : State) (n : Nat) : State := s.setLane n { s.lane n with out := none, outSends := 0 }

theorem State.lane_released (s : State) (n : Nat) : (s.released n).lane n = { s.lane n with out := none, outSends := 0 } := State.lane_setLane_self _ _ _

theorem State.fld_released (s : State) (n : Nat) (f : Fld) (i : Nat) : (s.released n).fld f i = s.fld f i := rfl

theorem State.flag_released (s : State) (n : Nat) (f : Fld) (i : Nat) : (s.released n).flag f i = s.flag f i := rfl

theorem State.spareFor_released (s : State) (n : Nat) : (s.released n).spareFor n = s.spareFor n := rfl

/-- What an acknowledgement brings, by the type of the message (R66, R74, R77, R82, R83). -/
theorem State.acked_spec (s : State) (n : Nat) (msg : FitMsg) :
    (msg.typ = msgIdent → (((s.released n).acked n msg).lane n).identAcked = true)
      ∧ (msg.typ = msgServiceGo → (((s.released n).acked n msg).lane n).out = none)
      ∧ (msg.typ = msgSparePrep → s.spareFor n = none → s.flag R.LN_SPARE_STAT_CARRYING n = false →
          ((s.released n).acked n msg).flag R.LN_SPARE_STAT_SHADOW n = true
            ∧ (((s.released n).acked n msg).lane n).target = msg.payload.getD 0 0 % 2 ^ 16)
      ∧ (msg.typ = msgSparePrep → s.spareFor n = none → s.flag R.LN_SPARE_STAT_CARRYING n = true →
          (((s.released n).acked n msg).lane n).target = (s.lane n).target
            ∧ ((s.released n).acked n msg).flag R.LN_SPARE_STAT_READY n = s.flag R.LN_SPARE_STAT_READY n)
      ∧ (∀ k, msg.typ = msgSparePrep → s.spareFor n = some k →
          (((s.released n).acked n msg).lane k).back = true ∧ ((s.released n).acked n msg).flag R.LN_SPARE_STAT_READY k = false)
      ∧ (msg.typ = msgSpareRelease → s.flag R.LN_SPARE_STAT_CARRYING n = false →
          ((s.released n).acked n msg).flag R.LN_SPARE_STAT_SHADOW n = false)
      ∧ (msg.typ = msgSpareRelease → s.flag R.LN_SPARE_STAT_CARRYING n = true → ((s.released n).acked n msg).flag R.LN_SPARE_STAT_CARRYING n = true
          ∧ (((s.released n).acked n msg).lane n).ended = ((s.lane n).ended || !(s.lane n).back))
      ∧ (msg.typ = msgLeave → (s.lane n).leaveSince.isSome = true → ((s.released n).acked n msg).fit n = fitDisabled) := by
  unfold State.acked
  refine ⟨fun ht => ?_, fun ht => ?_, fun ht hspare hcarry => ?_, fun ht hspare hcarry => ?_, fun k ht hspare => ?_, fun ht hcarry => ?_,
    fun ht hcarry => ?_, fun ht hleave => ?_⟩ <;> rw [ht]
  · rw [if_pos rfl, (State.lane_maybeGo _ n).2.2, State.lane_updLane_self]
  · rw [if_neg (by decide), if_neg (by decide), if_neg (by decide), if_neg (by simp [msgServiceGo, msgLeave]), State.lane_released]
  · rw [if_neg (by decide), if_pos rfl, State.spareFor_released, hspare]
    dsimp only
    rw [State.flag_released, if_neg (Bool.eq_false_iff.mp hcarry)]
    obtain ⟨hshadow, htarget, -⟩ := (s.released n).startShadow_spec (n := n) (x := msg.payload.getD 0 0 % 2 ^ 16)
    exact ⟨hshadow, htarget⟩
  · rw [if_neg (by decide), if_pos rfl, State.spareFor_released, hspare]
    dsimp only
    rw [State.flag_released, if_pos hcarry, State.lane_released, State.flag_released]
    exact ⟨rfl, rfl⟩
  · rw [if_neg (by decide), if_pos rfl, State.spareFor_released, hspare]
    exact (s.released n).startBack_spec (State.ne_of_spareFor hspare)
  · rw [if_neg (by decide), if_neg (by decide), if_pos rfl]
    exact (State.releaseSpare_of_free (s := s.released n) hcarry).1
  · rw [if_neg (by decide), if_neg (by decide), if_pos rfl, State.releaseSpare_of_carrying (s := s.released n) hcarry, State.updLane_flag,
      State.lane_updLane_self, State.lane_released]
    exact ⟨hcarry, rfl⟩
  · rw [if_neg (by decide), if_neg (by decide), if_neg (by decide), if_pos (by rw [State.lane_released]; simpa using hleave)]
    exact State.fit_disableLane _ n

/-- Settles O6. A message is heard once and a repeat is acknowledged alone; `State.acked_spec` gives what an acknowledgement brings; a message not
answered is sent again, and in SERVICE dropped after its eighth send. -/
theorem fittingMessages : Obligations.FittingMessages := by
  unfold Obligations.FittingMessages
  intro n s
  refine ⟨fun seq ws hhears => ?_, fun seq f hhears => ?_, fun seq ws f c hc hsends hlast => ?_, fun seq msg hout hseq hempty => ?_,
    fun seq msg hout hseq hempty => ?_, fun msg hout hsince hsends => ?_, fun msg hout hsince hsends hfit htyp => ?_, fun f hleave hsince => ?_⟩
  · obtain ⟨hfld, hgot, hlast, hlmm⟩ := State.ident_spec hhears (ws.map BitVec.toNat)
    obtain ⟨h0, h1, h2, h3, h4⟩ := (s.heard n seq.toNat).peerId_identStored n (ws.map BitVec.toNat)
    refine ⟨_, rfl, ?_, ?_, ?_, ?_, ?_, hgot, hlast, hlmm⟩
    · exact ((hfld R.LN_PEER_ID0_ID (by decide)).trans h0).trans (ident_word ws 0)
    · exact ((hfld R.LN_PEER_ID1_ID (by decide)).trans h1).trans (ident_word ws 1)
    · exact ((hfld R.LN_PEER_ID2_ID (by decide)).trans h2).trans (ident_word ws 2)
    · exact ((hfld R.LN_PEER_ID3_ID (by decide)).trans h3).trans (ident_word ws 3)
    · exact ((hfld R.LN_PEER_ID4_ID (by decide)).trans h4).trans (ident_word ws 4)
  · refine ⟨_, congrArg Host.Outcome.next (State.takeMsg_of_hears hhears _), ?_⟩
    dsimp only
    rw [State.lane_updLane_self, State.lane_heard, toNat_mod_256]
    exact ⟨rfl, rfl, rfl⟩
  · exact ⟨_, exec_repeated hc hsends hlast, s.sendAck_spec n seq⟩
  · refine ⟨(s.released n).acked n msg, ?_, s.acked_spec n msg⟩
    refine congrArg Host.Outcome.next ?_
    unfold State.rxAck
    rw [hout]
    dsimp only
    rw [if_pos hseq, State.releaseMsg_of_empty hempty]
    rfl
  · refine ⟨s.released n, ?_, ?_, rfl⟩
    · refine congrArg Host.Outcome.next ?_
      unfold State.rxNak
      rw [hout]
      dsimp only
      rw [if_pos hseq, State.releaseMsg_of_empty hempty]
      rfl
    · rw [State.lane_released]
  · refine ⟨s.updLane n (fun l => { l with outSends := l.outSends + 1, outSince := s.frame
                                           fcTx := l.fcTx ++ msgWords msg.typ msg.seq msg.payload }), ?_, ?_⟩
    · show Host.Outcome.next _ = _
      rw [hout]
      dsimp only
      rw [if_neg (Nat.not_lt.mpr hsince), if_pos hsends]
    · dsimp only
      rw [State.lane_updLane_self]
      exact ⟨rfl, rfl, rfl⟩
  · refine ⟨(s.releaseMsg n).latch R.LN_FIT_EVT_MSG_FAIL n, ?_, State.latched_latch _ _ _ (by decide), ?_⟩
    · show Host.Outcome.next _ = _
      rw [hout]
      dsimp only
      rw [if_neg (Nat.not_lt.mpr hsince), if_neg (Nat.not_lt.mpr hsends), if_neg (by simp [hfit, htyp, fitService, fitIntro])]
    · unfold State.fit
      rw [State.fld_latch_ne _ _ _ _ (by decide), State.fld_releaseMsg _ _ _ (by decide)]
      exact hfit
  · refine ⟨s.disableLane n, ?_, s.fit_disableLane n, s.ca_disableLane n⟩
    show Host.Outcome.next _ = _
    rw [hleave]
    dsimp only
    rw [if_pos hsince]

end Sys2Proof.Machine
end

section
/-! Spare lanes (O7; R81 to R83, R85). -/

namespace Sys2Proof.Machine

/-! ### PREP, SELECT and RELEASE received -/

theorem State.covers_heard (s : State) (n seq k x : Nat) : (s.heard n seq).covers k x = s.covers k x := rfl

theorem State.rxSparePrep_of_hears {s : State} {n seq x : Nat} (h : s.hears n seq) (hc : s.covers n x = true)
    (hcarry : s.flag R.LN_SPARE_STAT_CARRYING n = false) : s.rxSparePrep n seq x = (s.heard n seq).startShadow n x := by
  unfold State.rxSparePrep
  rw [State.takeMsg_of_hears h, State.covers_heard, State.flag_heard, hc, hcarry]
  rfl

theorem State.rxSpareRelease_of_hears {s : State} {n seq x : Nat} (h : s.hears n seq) (ht : (s.lane n).target = x) :
    s.rxSpareRelease n seq x = (s.heard n seq).releaseSpare n := by
  unfold State.rxSpareRelease
  rw [State.takeMsg_of_hears h, State.lane_heard]
  exact if_pos ht

/-! ### READY (R82, R85) -/

theorem State.lane_sendSelect {s : State} {n : Nat} (h : (s.lane n).selOwn = none) : ((s.sendSelect n).lane n).selOwn = some (frameAdd s.frame 8) := by
  unfold State.sendSelect
  dsimp only
  rw [h]
  generalize hu : s.updLane n (fun l => { l with selOwn := some (frameAdd s.frame 8), selWait := false }) = u
  have hlane : (u.lane n).selOwn = some (frameAdd s.frame 8) := by
    rw [← hu, State.lane_updLane_self]
  generalize (if (s.lane n).back then (s.lane n).target else n) = k
  generalize [(s.lane n).target, frameAdd s.frame 8] = p
  show ((u.sendMsg k msgSpareSelect p).lane n).selOwn = _
  by_cases hk : n = k
  · obtain ⟨o, c, f, v, q, w, x, hsent⟩ := u.lane_sendMsg k msgSpareSelect p
    rw [hk, hsent, ← hk]
    exact hlane
  · unfold State.sendMsg
    rw [State.lane_updLane_ne _ _ hk]
    exact hlane

theorem State.fld_sendSelect_eq (s : State) (n : Nat) (f : Fld) (i : Nat) : (s.sendSelect n).fld f i = s.fld f i := by
  unfold State.sendSelect
  dsimp only
  split
  · rfl
  · unfold State.sendMsg
    rfl

/-! ### The switch to the spare and back (R82, R83) -/

theorem toWord_lt (n : Nat) (x : Int) : toWord n x < 2 ^ n := by
  unfold toWord
  have hpos : (0 : Int) < (2 ^ n : Nat) := by exact_mod_cast Nat.two_pow_pos n
  have hlt := Int.emod_lt_of_pos x hpos
  have hnn := Int.emod_nonneg x (Int.ne_of_gt hpos)
  omega

theorem State.fld_setIfld_self (s : State) (f : Fld) (i : Nat) (v : Int) : (s.setIfld f i v).fld f i = toWord f.width v := by
  unfold State.setIfld
  rw [State.fld_setFld_self]
  exact Nat.mod_eq_of_lt (toWord_lt _ _)

theorem State.flag_setIfld_ne (s : State) {f g : Fld} (i j : Nat) (v : Int) (h : g.id ≠ f.id) : (s.setIfld f i v).flag g j = s.flag g j :=
  State.flag_setFld_ne s i j _ h

theorem State.fld_setIfld_ne (s : State) {f g : Fld} (i j : Nat) (v : Int) (h : g.id ≠ f.id) : (s.setIfld f i v).fld g j = s.fld g j :=
  State.fld_setFld_ne s i j _ h

/-- What the sill's switch to a spare leaves (R82). -/
theorem State.switchToSpare_spec {s : State} {n : Nat} (h : s.flag R.LN_SPARE_STAT_CARRYING n = false) :
    (s.switchToSpare n).flag R.LN_SPARE_STAT_CARRYING n = true
      ∧ (s.switchToSpare n).fld R.LN_SPARE_STAT_CARRIED n = (s.lane n).target % 16
      ∧ (s.switchToSpare n).flag R.LN_FIT_STATUS_SUB (s.lane n).target = true
      ∧ (s.switchToSpare n).fld R.LN_RX_PHASE_PHASE (s.lane n).target = toWord 32 (s.lane n).phi := by
  unfold State.switchToSpare
  dsimp only
  rw [if_neg (Bool.eq_false_iff.mp h)]
  refine ⟨?_, ?_, ?_, ?_⟩
  · rw [State.flag_setIfld_ne _ _ _ _ (by decide), State.flag_setFlag_ne _ _ _ _ (by decide), State.updLane_flag, State.flag_setFld_ne _ _ _ _ (by decide)]
    exact State.flag_setFlag_self _ _ _ _ (by decide)
  · rw [State.fld_setIfld_ne _ _ _ _ (by decide), State.fld_setFlag_ne _ _ _ _ (by decide), State.fld_updLane, State.fld_setFld_self]
    exact Nat.mod_mod _ 16
  · rw [State.flag_setIfld_ne _ _ _ _ (by decide)]
    exact State.flag_setFlag_self _ _ _ _ (by decide)
  · exact State.fld_setIfld_self _ _ _ _

/-- What the sill's switch back to a lane leaves (R83). -/
theorem State.switchBack_spec {s : State} {n : Nat} (h : s.flag R.LN_SPARE_STAT_CARRYING n = true) :
    (s.switchBack n).flag R.LN_SPARE_STAT_CARRYING n = false ∧ (s.switchBack n).flag R.LN_FIT_STATUS_SUB (s.carriedBy n) = false
      ∧ (s.switchBack n).fld R.LN_RX_PHASE_PHASE (s.carriedBy n) = toWord 32 (s.lane (s.carriedBy n)).phi := by
  unfold State.switchBack State.carryOwn
  rw [if_pos h]
  refine ⟨?_, ?_, ?_⟩
  · rw [State.flag_setFld_ne _ _ _ _ (by decide)]
    exact State.flag_setFlag_self _ _ _ _ (by decide)
  · rw [State.flag_setFld_ne _ _ _ _ (by decide), State.flag_setFlag_ne _ _ _ _ (by decide), State.flag_setIfld_ne _ _ _ _ (by decide)]
    exact State.flag_setFlag_self _ _ _ _ (by decide)
  · rw [State.fld_setFld_ne _ _ _ _ (by decide), State.fld_setFlag_ne _ _ _ _ (by decide)]
    exact State.fld_setIfld_self _ _ _ _

/-- `s` with the page from which a lane's words come from elsewhere noted, where `b` says so. -/
def State.noteSwitch (s : State) (n : Nat) (b : Bool) (f : Nat) : State := if b then s else s.updLane n (fun k => { k with swFrom := some f })

theorem State.fld_noteSwitch (s : State) (n : Nat) (b : Bool) (p : Nat) (f : Fld) (i : Nat) : (s.noteSwitch n b p).fld f i = s.fld f i := by
  unfold State.noteSwitch
  split <;> rfl

theorem State.flag_noteSwitch (s : State) (n : Nat) (b : Bool) (p : Nat) (f : Fld) (i : Nat) : (s.noteSwitch n b p).flag f i = s.flag f i := by
  unfold State.flag
  rw [State.fld_noteSwitch]

theorem State.lane_noteSwitch (s : State) (n : Nat) (b : Bool) (p i : Nat) :
    ((s.noteSwitch n b p).lane i).target = (s.lane i).target ∧ ((s.noteSwitch n b p).lane i).phi = (s.lane i).phi := by
  unfold State.noteSwitch
  split
  · exact ⟨rfl, rfl⟩
  · by_cases hi : i = n
    · rw [hi, State.lane_updLane_self]
      exact ⟨rfl, rfl⟩
    · rw [State.lane_updLane_ne _ _ hi]
      exact ⟨rfl, rfl⟩

/-- The state after SPARE_SWITCH, as its selection frames have been reached (R82, R83): `peer` where the partner's has. -/
def State.switched (s : State) (n : Nat) (peer : Bool) : State :=
  let l := s.lane n
  let s0 := s.noteSwitch n (l.rxSw || l.txSw) (s.switchPage n true peer)
  let s1 := if l.back then s0.switchBack n else s0.switchToSpare n
  let done := peer && l.back
  (s1.updLane n (fun k =>
    { k with rxSw := !done, txSw := peer && !done, back := l.back && !done, selOwn := if done then none else k.selOwn
             selPeer := if done then none else k.selPeer })).latchIf (peer && !(l.rxSw && l.txSw)) R.LN_FIT_EVT_SPARE_SELECTED n

theorem exec_spareSwitch {s : State} {n : LaneIx} {f : Nat} (hspare : isSpare n = true) (hshadow : s.flag R.LN_SPARE_STAT_SHADOW n = true)
    (hsel : (s.lane n).selOwn = some f) (hreach : frameReached s.frame f = true) : ∃ peer, exec (.spareSwitch n) s = .next (s.switched n peer) := by
  refine ⟨(s.lane n).txSw || (s.lane n).selPeer.any (frameReached (s.fld R.LN_RX_FN_VALUE (if (s.lane n).back then (s.lane n).target else n))), ?_⟩
  have hown : ((s.lane n).rxSw || (s.lane n).selOwn.any (frameReached s.frame)) = true := by
    rw [hsel, Option.any_some, hreach, Bool.or_true]
  show Host.Outcome.next _ = _
  dsimp only
  rw [if_neg (by simp [hspare, hshadow]), hown]
  simp only [Bool.true_or, Bool.not_true, Bool.false_or, Bool.true_and, Bool.false_eq_true, if_false]
  rfl

/-- The lane's flags after SPARE_SWITCH are those of the switch itself. -/
theorem State.fld_switched (s : State) (n : Nat) (peer : Bool) {f : Fld} (i : Nat) (h : f.id ≠ R.LN_FIT_EVT.id) :
    (s.switched n peer).fld f i = (if (s.lane n).back then (s.noteSwitch n ((s.lane n).rxSw || (s.lane n).txSw) (s.switchPage n true peer)).switchBack n
      else (s.noteSwitch n ((s.lane n).rxSw || (s.lane n).txSw) (s.switchPage n true peer)).switchToSpare n).fld f i := by
  unfold State.switched
  dsimp only
  rw [State.fld_latchIf_ne _ _ _ _ _ h, State.fld_updLane]

theorem State.flag_switched (s : State) (n : Nat) (peer : Bool) {f : Fld} (i : Nat) (h : f.id ≠ R.LN_FIT_EVT.id) :
    (s.switched n peer).flag f i = (if (s.lane n).back then (s.noteSwitch n ((s.lane n).rxSw || (s.lane n).txSw) (s.switchPage n true peer)).switchBack n
      else (s.noteSwitch n ((s.lane n).rxSw || (s.lane n).txSw) (s.switchPage n true peer)).switchToSpare n).flag f i := by
  unfold State.flag
  rw [s.fld_switched n peer i h]

/-- A first switch to the spare (R82). -/
theorem State.switched_to_spare {s : State} {n : Nat} (peer : Bool) (hback : (s.lane n).back = false)
    (hcarry : s.flag R.LN_SPARE_STAT_CARRYING n = false) (hrx : (s.lane n).rxSw = false) :
    (s.switched n peer).flag R.LN_SPARE_STAT_CARRYING n = true ∧ (s.switched n peer).fld R.LN_SPARE_STAT_CARRIED n = (s.lane n).target % 16
      ∧ (s.switched n peer).flag R.LN_FIT_STATUS_SUB (s.lane n).target = true
      ∧ (s.switched n peer).fld R.LN_RX_PHASE_PHASE (s.lane n).target = toWord 32 (s.lane n).phi
      ∧ ((s.switched n peer).lane n).rxSw = true
      ∧ (((s.switched n peer).lane n).txSw = true → (s.switched n peer).latched R.LN_FIT_EVT_SPARE_SELECTED n = true) := by
  obtain ⟨htarget, hphi⟩ := s.lane_noteSwitch n ((s.lane n).rxSw || (s.lane n).txSw) (s.switchPage n true peer) n
  have hspec := State.switchToSpare_spec (s := s.noteSwitch n ((s.lane n).rxSw || (s.lane n).txSw) (s.switchPage n true peer)) (n := n)
    ((State.flag_noteSwitch _ _ _ _ _ _).trans hcarry)
  rw [htarget, hphi] at hspec
  obtain ⟨h1, h2, h3, h4⟩ := hspec
  refine ⟨?_, ?_, ?_, ?_, ?_, ?_⟩
  · rw [s.flag_switched n peer n (by decide), hback]
    exact h1
  · rw [s.fld_switched n peer n (by decide), hback]
    exact h2
  · rw [s.flag_switched n peer _ (by decide), hback]
    exact h3
  · rw [s.fld_switched n peer _ (by decide), hback]
    exact h4
  · unfold State.switched
    dsimp only
    rw [State.lane_latchIf, State.lane_updLane_self, hback, Bool.and_false]
    rfl
  · unfold State.switched
    dsimp only
    rw [State.lane_latchIf, State.lane_updLane_self, hback, hrx]
    intro htx
    obtain rfl : peer = true := by simpa using htx
    exact State.latched_latch _ _ _ (by decide)

/-- A switch back to the lane (R83). -/
theorem State.switched_back {s : State} {n : Nat} (peer : Bool) (hback : (s.lane n).back = true) (hcarry : s.flag R.LN_SPARE_STAT_CARRYING n = true) :
    (s.switched n peer).flag R.LN_SPARE_STAT_CARRYING n = false ∧ (s.switched n peer).flag R.LN_FIT_STATUS_SUB (s.carriedBy n) = false
      ∧ (s.switched n peer).fld R.LN_RX_PHASE_PHASE (s.carriedBy n) = toWord 32 (s.lane (s.carriedBy n)).phi := by
  have hsame : (s.noteSwitch n ((s.lane n).rxSw || (s.lane n).txSw) (s.switchPage n true peer)).carriedBy n = s.carriedBy n := by
    unfold State.carriedBy
    rw [State.fld_noteSwitch]
  have hspec := State.switchBack_spec (s := s.noteSwitch n ((s.lane n).rxSw || (s.lane n).txSw) (s.switchPage n true peer)) (n := n)
    ((State.flag_noteSwitch _ _ _ _ _ _).trans hcarry)
  rw [hsame, (s.lane_noteSwitch n _ _ _).2] at hspec
  obtain ⟨h1, h2, h3⟩ := hspec
  refine ⟨?_, ?_, ?_⟩
  · rw [s.flag_switched n peer n (by decide), hback]
    exact h1
  · rw [s.flag_switched n peer _ (by decide), hback]
    exact h2
  · rw [s.fld_switched n peer _ (by decide), hback]
    exact h3

/-- Settles O7. PREP starts a shadow, SELECT names the partner's frame, RELEASE frees the spare or ends the copies; READY and the switch are those of
`execSpareShadowReady` and `State.switched`. -/
theorem sparesStandIn : Obligations.SparesStandIn := by
  unfold Obligations.SparesStandIn
  intro n s
  refine ⟨fun seq x hhears hcovers hcarry => ?_, fun seq x f hhears hshadow htarget hback => ?_, fun seq x hhears htarget => ⟨fun hcarry => ?_, fun hcarry => ?_⟩,
    fun hspare hshadow hready hrun => ?_, fun f hspare hshadow hsel hreach hrx => ⟨fun hback hcarry => ?_, fun hback hcarry => ?_⟩⟩
  · refine ⟨_, congrArg Host.Outcome.next (State.rxSparePrep_of_hears hhears hcovers hcarry), ?_⟩
    obtain ⟨h1, h2, h3⟩ := (s.heard n seq.toNat).startShadow_spec (n := n) (x := x.toNat % 2 ^ 16)
    rw [State.lane_heard, State.flag_heard, State.flag_heard] at h3
    exact ⟨h1, h2, h3⟩
  · refine ⟨(s.heard n seq.toNat).updLane n (fun l => { l with selPeer := some f.toNat }), ?_, ?_⟩
    · refine congrArg Host.Outcome.next ?_
      unfold State.rxSpareSelect
      rw [State.takeMsg_of_hears hhears, State.flag_heard, State.lane_heard, if_pos (by simp [hshadow, htarget, hback])]
    · dsimp only
      rw [State.lane_updLane_self]
  · exact ⟨_, congrArg Host.Outcome.next (State.rxSpareRelease_of_hears hhears htarget), State.releaseSpare_of_free (s := s.heard n seq.toNat) hcarry⟩
  · refine ⟨_, congrArg Host.Outcome.next ((State.rxSpareRelease_of_hears hhears htarget).trans (State.releaseSpare_of_carrying hcarry)), rfl, ?_⟩
    rw [State.lane_updLane_self, State.lane_heard]
    exact ⟨rfl, rfl⟩
  · generalize hu : (s.setFlag R.LN_SPARE_STAT_READY n true).latch R.LN_FIT_EVT_SPARE_READY n = u
    have hready' : u.flag R.LN_SPARE_STAT_READY n = true := by
      rw [← hu]
      unfold State.flag
      rw [State.fld_latch_ne _ _ _ _ (by decide)]
      exact State.flag_setFlag_self _ _ _ _ (by decide)
    have hevt : u.latched R.LN_FIT_EVT_SPARE_READY n = true := by
      rw [← hu]
      exact State.latched_latch _ _ _ (by decide)
    have hlane : u.lane n = s.lane n := by
      rw [← hu, State.lane_latch, State.lane_setFlag]
    have hframe : u.frame = s.frame := by
      rw [← hu]
      unfold State.frame
      rw [State.fld_latch_ne _ _ _ _ (by decide), State.fld_setFlag_ne _ _ _ _ (by decide)]
    refine ⟨if (s.lane n).selWait then u.sendSelect n else u, ?_, ?_⟩
    · rw [← hu]
      exact congrArg Host.Outcome.next (if_pos (by simp [hspare, hshadow, hready, hrun]))
    · split
      · refine ⟨?_, ?_, fun _ hnone => ?_⟩
        · unfold State.flag
          rw [State.fld_sendSelect_eq]
          exact hready'
        · exact State.latched_of_fld (State.fld_sendSelect_eq _ _ _ _) hevt
        · rw [← hframe]
          exact State.lane_sendSelect (by rw [hlane]; exact hnone)
      · next hwait => exact ⟨hready', hevt, fun h => absurd h hwait⟩
  · obtain ⟨peer, hexec⟩ := exec_spareSwitch hspare hshadow hsel hreach
    exact ⟨_, hexec, State.switched_to_spare peer hback hcarry hrx⟩
  · obtain ⟨peer, hexec⟩ := exec_spareSwitch hspare hshadow hsel hreach
    exact ⟨_, hexec, State.switched_back peer hback hcarry⟩

end Sys2Proof.Machine
end

section
/-! Control words of training and discovery rows (O8; R62, R68, R72). -/

namespace Sys2Proof.Machine

theorem State.peerSt_beginRow (s : State) (n : Nat) : ((s.beginRow n).lane n).peerSt = (s.lane n).peerSt := by
  unfold State.beginRow
  split
  · rw [State.lane_updLane_self, State.lane_setTaps]
  · rfl

theorem State.peerSt_tuneRow (s : State) (n : Nat) (row : List Nat) : ((s.tuneRow n row).lane n).peerSt = (s.lane n).peerSt := by
  unfold State.tuneRow
  dsimp only
  split
  · rfl
  split
  · split
    · rw [State.lane_updLane_self, State.lane_adaptSettle]
    · rfl
  split
  · rw [State.lane_setLane_self]
  · rw [State.lane_setLane_self]

/-- Lane `n` with a marker counted, in LOCK (R58). -/
def State.countMarker (s : State) (n : Nat) : State := if s.fit n = fitLock then s.updLane n (fun l => { l with markRun := l.markRun + 1 }) else s

theorem State.readMarker_of_marked {s : State} {n : Nat} {row : List Nat} (hpol : s.flag R.LN_FIT_STATUS_RX_POL_INV n = false)
    (hmark : trainMarked row = true) : s.readMarker n row = (s.countMarker n, some row) := by
  unfold State.readMarker State.countMarker
  simp only [hpol, Bool.false_eq_true, if_false, hmark, if_true]

theorem State.fld_countMarker (s : State) (n : Nat) (f : Fld) (i : Nat) : (s.countMarker n).fld f i = s.fld f i := by
  unfold State.countMarker
  split <;> rfl

theorem State.peerSt_countMarker (s : State) (n : Nat) : ((s.countMarker n).lane n).peerSt = (s.lane n).peerSt := by
  unfold State.countMarker
  split
  · rw [State.lane_updLane_self]
  · rfl

theorem State.flag_of_fld {s t : State} {f : Fld} {i : Nat} (h : t.fld f i = s.fld f i) : t.flag f i = s.flag f i := by
  unfold State.flag
  rw [h]

theorem bits_lt (x k w : Nat) : bits x k w < 2 ^ w := Nat.mod_lt _ (Nat.two_pow_pos w)

/-- The partner's STATE and LANE as they have been noted, and the lane's own STATE, which that leaves. -/
theorem State.notePeer_spec (s : State) (n trq : Nat) :
    (s.notePeer n trq).fld R.LN_FIT_STATUS_PEER_STATE n = bits trq 32 4 ∧ (s.notePeer n trq).fld R.LN_FIT_STATUS_PEER_LANE n = bits trq 8 9
      ∧ (s.notePeer n trq).fit n = s.fit n := by
  unfold State.notePeer State.fit
  simp only [State.fld_updLane]
  refine ⟨?_, ?_, ?_⟩
  · rw [State.fld_setFld_ne _ _ _ _ (by decide)]
    exact (State.fld_setFld_self _ _ _ _).trans (Nat.mod_eq_of_lt (bits_lt _ _ _))
  · exact (State.fld_setFld_self _ _ _ _).trans (Nat.mod_eq_of_lt (bits_lt _ _ _))
  · rw [State.fld_setFld_ne _ _ _ _ (by decide), State.fld_setFld_ne _ _ _ _ (by decide)]

/-- What a noted row leaves a lane's partner and STATE, `t` being the state with the row's words noted. -/
theorem State.fellToSignal_congr {s t : State} {n : Nat} (trq : Nat) (hp : (t.lane n).peerSt = (s.lane n).peerSt) (hf : t.fit n = s.fit n) :
    t.fellToSignal n trq = s.fellToSignal n trq := by
  unfold State.fellToSignal
  rw [hp, hf]

/-- A training row whose marker has been found, before its control words are read (R50, R58, R70). -/
def State.rowSeen (s : State) (n : Nat) (row : List Nat) : State :=
  ((if (s.lane n).tx.sent && !(s.lane n).tx.traffic then s.beginRow n else s).countMarker n).tuneRow n row

theorem State.rowSeen_spec (s : State) (n : Nat) (row : List Nat) :
    ((s.rowSeen n row).lane n).peerSt = (s.lane n).peerSt ∧ (s.rowSeen n row).fit n = s.fit n := by
  unfold State.rowSeen
  rw [State.peerSt_tuneRow, State.peerSt_countMarker]
  unfold State.fit
  rw [State.fld_tuneRow _ _ _ _ (by decide), State.fld_countMarker]
  split
  · exact ⟨State.peerSt_beginRow _ _, State.fld_beginRow _ _ _ (by decide)⟩
  · exact ⟨rfl, rfl⟩

/-- What a training row's control words do, once its marker has been found (R62, R68, R69). -/
def State.controlRead (t : State) (n fit trq tst : Nat) : State :=
  if t.fellToSignal n trq then (t.notePeer n trq).startAttempt n
  else ((((t.notePeer n trq).updLane n (fun l => l.countRow fit trq)).respond n trq).request n tst).refreshTraining n

theorem exec_trainingRow {s : State} {n : LaneIx} {ws : List SlotWord} {trq tst : Nat} (hfit : s.fit n ≠ fitDisabled)
    (hpol : s.flag R.LN_FIT_STATUS_RX_POL_INV n = false) (hctl : controlWords (ws.map BitVec.toNat) = some (trq, tst))
    (hmark : trainMarked (ws.map BitVec.toNat) = true) :
    exec (.trainingRow n ws) s = .next ((s.rowSeen n (ws.map BitVec.toNat)).controlRead n (s.fit n) trq tst) := by
  show Host.Outcome.next _ = _
  rw [if_neg hfit]
  dsimp only
  rw [State.readMarker_of_marked (by split; exacts [(State.flag_of_fld (State.fld_beginRow _ _ _ (by decide))).trans hpol, hpol]) hmark]
  dsimp only
  rw [Option.bind_some, hctl]
  rfl

theorem State.controlRead_spec (t : State) (n fit trq tst : Nat) :
    (t.controlRead n fit trq tst).fld R.LN_FIT_STATUS_PEER_STATE n = bits trq 32 4
      ∧ (t.controlRead n fit trq tst).fld R.LN_FIT_STATUS_PEER_LANE n = bits trq 8 9
      ∧ (t.controlRead n fit trq tst).fit n = if t.fellToSignal n trq then fitSignal else t.fit n := by
  obtain ⟨hst, hlane, hfit⟩ := t.notePeer_spec n trq
  unfold State.controlRead
  split
  · exact ⟨(State.fld_startAttempt _ _ _ (by decide)).trans hst, (State.fld_startAttempt _ _ _ (by decide)).trans hlane,
      (State.attemptStarted_startAttempt _ n).1⟩
  · unfold State.fit at hfit ⊢
    rw [State.fld_refreshTraining _ _ _ (by decide), State.fld_refreshTraining _ _ _ (by decide), State.fld_refreshTraining _ _ _ (by decide),
      State.fld_request _ _ _ _ (by decide), State.fld_request _ _ _ _ (by decide), State.fld_request _ _ _ _ (by decide),
      State.fld_respond _ _ _ _ (by decide), State.fld_respond _ _ _ _ (by decide), State.fld_respond _ _ _ _ (by decide)]
    exact ⟨hst, hlane, hfit⟩

/-- Settles O8. A row with its marker is noted by `State.notePeer`, after which nothing but a new attempt changes the lane's STATE. -/
theorem controlWordsAreRead : Obligations.ControlWordsAreRead := by
  unfold Obligations.ControlWordsAreRead
  intro n s ws trq tst hpol hctl hmark
  refine ⟨fun hfit => ⟨_, exec_trainingRow hfit hpol hctl hmark, ?_⟩, ?_⟩
  · obtain ⟨hp, hf⟩ := s.rowSeen_spec n (ws.map BitVec.toNat)
    have hspec := (s.rowSeen n (ws.map BitVec.toNat)).controlRead_spec n (s.fit n) trq tst
    rw [State.fellToSignal_congr trq hp hf, hf] at hspec
    exact hspec
  · refine ⟨_, rfl, ?_⟩
    dsimp only
    rw [State.readMarker_of_marked hpol hmark]
    unfold State.noteDiscovery
    dsimp only
    rw [Option.bind_some, hctl]
    dsimp only
    obtain ⟨hst, hlane, hfit⟩ := ((s.countMarker n).updLane n (fun l => { l with tuneRows := 0, tuneErrs := 0 })).notePeer_spec n trq
    unfold State.fit at hfit ⊢
    rw [State.fld_updLane, State.fld_updLane, State.fld_updLane]
    exact ⟨hst, hlane, hfit.trans ((State.fld_updLane _ _ _ _ _).trans (s.fld_countMarker n _ _))⟩

end Sys2Proof.Machine
end

section
/-! Background adaptation and loop timing (O10; R57, R79, R80). -/

namespace Sys2Proof.Machine

theorem State.loadKnownGood_spec (s : State) (n : Nat) :
    (s.loadKnownGood n).fld R.LN_RX_EQ_CTLE n = (s.lane n).kgEq % 2 ^ 4 ∧ (s.loadKnownGood n).fld R.LN_RX_FFE_LO_F0_F3 n = (s.lane n).kgF0 % 2 ^ 32 := by
  unfold State.loadKnownGood
  dsimp only
  constructor
  · simp (disch := decide) only [State.fld_setFld_ne]
    exact State.fld_setFld_self _ _ _ _
  · rw [State.fld_setFld_ne _ _ _ _ (by decide)]
    exact State.fld_setFld_self _ _ _ _

/-- A reversion, before it is known whether it holds adaptation or freezes it (R80). -/
def State.reverting (s : State) (n : Nat) : State :=
  let s0 := (s.loadKnownGood n).updLane n (fun k => { k with badRun := 0 })
  if s.tenthGood n then (s0.setFld R.LN_ADAPT_STAT_GOOD_SECS n 0).updLane n (fun k => { k with goodRun := 0, goodCorr := 0 }) else s0

theorem State.reverting_spec (s : State) (n : Nat) :
    (s.reverting n).fld R.LN_RX_EQ_CTLE n = (s.lane n).kgEq % 2 ^ 4 ∧ (s.reverting n).fld R.LN_RX_FFE_LO_F0_F3 n = (s.lane n).kgF0 % 2 ^ 32
      ∧ ((s.reverting n).lane n).badRun = 0 := by
  obtain ⟨hctle, hffe⟩ := s.loadKnownGood_spec n
  unfold State.reverting
  dsimp only
  split
  · rw [State.fld_updLane, State.fld_setFld_ne _ _ _ _ (by decide), State.fld_updLane, State.fld_updLane, State.fld_setFld_ne _ _ _ _ (by decide),
      State.fld_updLane, State.lane_updLane_self, State.lane_setFld, State.lane_updLane_self]
    exact ⟨hctle, hffe, rfl⟩
  · rw [State.fld_updLane, State.fld_updLane, State.lane_updLane_self]
    exact ⟨hctle, hffe, rfl⟩

/-- Adaptation frozen on its known-good set (R80). -/
def State.freezes (s : State) (n : Nat) : State := (s.setFlag R.LN_ADAPT_STAT_FROZEN n true).latch R.LN_FIT_EVT_ADAPT_FROZEN n

/-- Adaptation held on its known-good set from frame `f` on (R80), and counted. -/
def State.holds (s : State) (n f : Nat) : State :=
  let s2 := { s with sist := { s.sist with lifeReverts := s.sist.lifeReverts.put n (s.sist.lifeReverts.get n 0 + 1) } }
  (((s2.satFld R.LN_ADAPT_STAT_REVERTS n 1).setFlag R.LN_ADAPT_STAT_HOLD n true).updLane n
    (fun k => { k with holdSince := some f, lastRevert := some f })).latch R.LN_FIT_EVT_ADAPT_REVERT n

theorem State.fld_freezes (s : State) (n : Nat) {f : Fld} (i : Nat) (h : f.id ≠ R.LN_ADAPT_STAT_FROZEN.id) (h' : f.id ≠ R.LN_FIT_EVT.id) :
    (s.freezes n).fld f i = s.fld f i := by
  unfold State.freezes
  rw [State.fld_latch_ne _ _ _ _ h', State.fld_setFlag_ne _ _ _ _ h]

theorem State.fld_holds (s : State) (n p : Nat) {f : Fld} (i : Nat) (h : f.id ≠ R.LN_ADAPT_STAT_REVERTS.id) (h2 : f.id ≠ R.LN_ADAPT_STAT_HOLD.id)
    (h3 : f.id ≠ R.LN_FIT_EVT.id) : (s.holds n p).fld f i = s.fld f i := by
  unfold State.holds
  dsimp only
  rw [State.fld_latch_ne _ _ _ _ h3, State.fld_updLane, State.fld_setFlag_ne _ _ _ _ h2, State.fld_satFld_ne _ _ _ _ h]
  rfl

theorem State.freezes_spec (s : State) (n : Nat) :
    (s.freezes n).flag R.LN_ADAPT_STAT_FROZEN n = true ∧ (s.freezes n).latched R.LN_FIT_EVT_ADAPT_FROZEN n = true
      ∧ (s.freezes n).lane n = s.lane n := by
  unfold State.freezes
  refine ⟨?_, State.latched_latch _ _ _ (by decide), ?_⟩
  · rw [State.flag_of_fld (State.fld_latch_ne _ _ _ _ (by decide))]
    exact State.flag_setFlag_self _ _ _ _ (by decide)
  · rw [State.lane_latch, State.lane_setFlag]

theorem State.holds_spec (s : State) (n f : Nat) :
    (s.holds n f).flag R.LN_ADAPT_STAT_HOLD n = true ∧ (s.holds n f).latched R.LN_FIT_EVT_ADAPT_REVERT n = true
      ∧ (s.holds n f).lane n = { s.lane n with holdSince := some f, lastRevert := some f } := by
  unfold State.holds
  dsimp only
  refine ⟨?_, State.latched_latch _ _ _ (by decide), ?_⟩
  · rw [State.flag_of_fld (State.fld_latch_ne _ _ _ _ (by decide)), State.flag_of_fld (State.fld_updLane _ _ _ _ _)]
    exact State.flag_setFlag_self _ _ _ _ (by decide)
  · rw [State.lane_latch, State.lane_updLane_self, State.lane_setFlag]
    rfl

theorem exec_adaptRevert {s : State} {n : LaneIx} (h : s.revertDue n = true) :
    exec (.adaptRevert n) s = .next (if (match (s.lane n).lastRevert with
      | some f => decide (s.sinceFrame f ≤ 480000)
      | none => false) = true then (s.reverting n).freezes n else (s.reverting n).holds n s.frame) := by
  show Host.Outcome.next _ = _
  dsimp only
  rw [if_pos h]
  rfl

theorem State.loopReturn_spec (s : State) (n : Nat) :
    (s.loopReturn n).flag R.LN_TX_STAT_TIMING_ACT n = true ∧ (s.loopReturn n).flag R.LN_TX_STAT_SLEWING n = true
      ∧ ((s.loopReturn n).lane n).fellBack = false := by
  unfold State.loopReturn
  refine ⟨?_, ?_, ?_⟩
  · rw [State.flag_of_fld (State.fld_updLane _ _ _ _ _), State.flag_setFlag_ne _ _ _ _ (by decide)]
    exact State.flag_setFlag_self _ _ _ _ (by decide)
  · rw [State.flag_of_fld (State.fld_updLane _ _ _ _ _)]
    exact State.flag_setFlag_self _ _ _ _ (by decide)
  · rw [State.lane_updLane_self]

/-- The fields that a reversion loads are as `State.reverting` has them, whatever it does to adaptation. -/
theorem State.reverted_spec {s t : State} {n : Nat} (hfld : ∀ f : Fld, (f = R.LN_RX_EQ_CTLE ∨ f = R.LN_RX_FFE_LO_F0_F3) → t.fld f n = (s.reverting n).fld f n)
    (hlane : (t.lane n).badRun = ((s.reverting n).lane n).badRun) :
    t.fld R.LN_RX_EQ_CTLE n = (s.lane n).kgEq % 2 ^ 4 ∧ t.fld R.LN_RX_FFE_LO_F0_F3 n = (s.lane n).kgF0 % 2 ^ 32 ∧ (t.lane n).badRun = 0 := by
  rw [hfld _ (.inl rfl), hfld _ (.inr rfl), hlane]
  exact s.reverting_spec n

theorem State.reverted_freezes (s : State) (n : Nat) :
    ((s.reverting n).freezes n).fld R.LN_RX_EQ_CTLE n = (s.lane n).kgEq % 2 ^ 4
      ∧ ((s.reverting n).freezes n).fld R.LN_RX_FFE_LO_F0_F3 n = (s.lane n).kgF0 % 2 ^ 32 ∧ (((s.reverting n).freezes n).lane n).badRun = 0 :=
  State.reverted_spec (by rintro f (rfl | rfl) <;> exact State.fld_freezes _ _ _ (by decide) (by decide)) (by rw [((s.reverting n).freezes_spec n).2.2])

theorem State.reverted_holds (s : State) (n p : Nat) :
    ((s.reverting n).holds n p).fld R.LN_RX_EQ_CTLE n = (s.lane n).kgEq % 2 ^ 4
      ∧ ((s.reverting n).holds n p).fld R.LN_RX_FFE_LO_F0_F3 n = (s.lane n).kgF0 % 2 ^ 32 ∧ (((s.reverting n).holds n p).lane n).badRun = 0 :=
  State.reverted_spec (by rintro f (rfl | rfl) <;> exact State.fld_holds _ _ _ _ (by decide) (by decide) (by decide))
    (by rw [((s.reverting n).holds_spec n p).2.2])

/-- Settles O10. -/
theorem adaptationReverts : Obligations.AdaptationReverts := by
  unfold Obligations.AdaptationReverts
  intro n s
  refine ⟨fun hserv hgood hcorr hsecs => ?_, fun hserv hgood hcorr hsecs hbad => ?_, fun hserv hkg hbad hlos hlol hfrozen => ?_, fun f hsince hlong => ?_,
    fun hauto hserv htiming hact hrun => ?_⟩
  · refine ⟨_, congrArg Host.Outcome.next (if_pos (by simp [hserv, hgood])), ?_⟩
    dsimp only
    rw [if_neg (Nat.not_lt.mpr hcorr), if_pos hsecs, State.lane_setFld, State.lane_setLane_self]
    refine ⟨(State.fld_setFld_self _ _ _ _).trans (Nat.mod_eq_of_lt ?_), rfl⟩
    show _ < 2 ^ 4
    omega
  · refine ⟨_, congrArg Host.Outcome.next (if_pos (by simp [hserv, hgood])), ?_⟩
    have hnot : ¬ s.revertDue n = true := by
      have hlt : decide (3 ≤ (s.lane n).badRun) = false := decide_eq_false (by omega)
      simp [State.revertDue, hlt]
    dsimp only
    rw [if_neg (Nat.not_lt.mpr hcorr), if_neg (by omega), if_neg hnot, State.lane_updLane_self]
    refine ⟨?_, ?_, rfl, rfl, rfl⟩
    · rw [State.fld_updLane, State.fld_setFlag_ne _ _ _ _ (by decide)]
      exact State.fld_setFld_self _ _ _ _
    · rw [State.flag_of_fld (State.fld_updLane _ _ _ _ _)]
      exact State.flag_setFlag_self _ _ _ _ (by decide)
  · refine ⟨_, exec_adaptRevert (by simp [State.revertDue, hserv, hkg, hbad, hlos, hlol, hfrozen]), ?_⟩
    obtain ⟨hfrz, hfevt, -⟩ := (s.reverting n).freezes_spec n
    obtain ⟨hhold, hhevt, hhlane⟩ := (s.reverting n).holds_spec n s.frame
    have hlast : (((s.reverting n).holds n s.frame).lane n).lastRevert = some s.frame := by rw [hhlane]
    obtain ⟨f1, f2, f3⟩ := s.reverted_freezes n
    obtain ⟨g1, g2, g3⟩ := s.reverted_holds n s.frame
    cases (s.lane n).lastRevert with
    | none => exact ⟨g1, g2, g3, hhold, hhevt, hlast⟩
    | some f =>
      dsimp only
      by_cases hrecent : s.sinceFrame f ≤ 480000
      · rw [if_pos (decide_eq_true hrecent), if_pos hrecent]
        exact ⟨f1, f2, f3, hfrz, hfevt⟩
      · rw [if_neg (by simpa using hrecent), if_neg hrecent]
        exact ⟨g1, g2, g3, hhold, hhevt, hlast⟩
  · refine ⟨(s.setFlag R.LN_ADAPT_STAT_HOLD n false).updLane n (fun l => { l with holdSince := none }), ?_, ?_, ?_⟩
    · show Host.Outcome.next _ = _
      rw [hsince]
      dsimp only
      rw [if_pos hlong]
    · rw [State.flag_of_fld (State.fld_updLane _ _ _ _ _)]
      exact State.flag_setFlag_self _ _ _ _ (by decide)
    · rw [State.lane_updLane_self]
  · exact ⟨_, congrArg Host.Outcome.next (if_pos (by simp [hauto, hserv, htiming, hact, hrun])), s.loopReturn_spec n⟩

end Sys2Proof.Machine
end

section
/-! SUPPORT. Accepted writes of the lanes' registers: the word's bits, the place they lead to, and what storing a word leaves unchanged. -/

namespace Sys2Proof.Machine

/-! ### Bits of a written word -/

theorem bits_putBits_above {w k lo len : Nat} (h : k + 1 ≤ lo) (x : Nat) : bits (putBits w k 1 x) lo len = bits w lo len := by
  have hdiv : putBits w k 1 x / 2 ^ (k + 1) = w / 2 ^ (k + 1) := by
    have hlow : w % 2 ^ k + x % 2 ^ 1 * 2 ^ k < 2 ^ (k + 1) := by
      have h1 := Nat.mod_lt w (Nat.two_pow_pos k)
      have h2 : x % 2 ^ 1 * 2 ^ k ≤ 1 * 2 ^ k := Nat.mul_le_mul_right _ (by omega)
      rw [Nat.pow_succ 2 k]
      omega
    unfold putBits
    rw [Nat.add_mul_div_right _ _ (Nat.two_pow_pos _), Nat.div_eq_of_lt hlow, Nat.zero_add]
  obtain ⟨d, rfl⟩ := Nat.exists_eq_add_of_le h
  unfold bits
  rw [Nat.pow_add, ← Nat.div_div_eq_div_mul, ← Nat.div_div_eq_div_mul, hdiv]

theorem bits_one (w k : Nat) : bits w k 1 = bit w k := rfl

theorem bit_putBits_ne {w k j : Nat} (h : j ≠ k) (x : Nat) : bit (putBits w k 1 x) j = bit w j := by
  rw [← bits_one, ← bits_one]
  rcases Nat.lt_or_gt_of_ne h with hlt | hgt
  · exact bits_putBits_below (by omega) x
  · exact bits_putBits_above (by omega) x

theorem bit_putBits_self (w k x : Nat) : bit (putBits w k 1 x) k = x % 2 := by
  unfold bit putBits
  have h1 := Nat.mod_lt w (Nat.two_pow_pos k)
  rw [Nat.add_assoc, show x % 2 ^ 1 * 2 ^ k + w / 2 ^ (k + 1) * 2 ^ (k + 1) = (x % 2 + 2 * (w / 2 ^ (k + 1))) * 2 ^ k by rw [Nat.pow_succ]; ring,
    Nat.add_mul_div_right _ _ (Nat.two_pow_pos _), Nat.div_eq_of_lt h1, Nat.zero_add, Nat.add_mul_mod_self_left, Nat.mod_mod]

theorem bit_eq_testBit (w k : Nat) : bit w k = (w.testBit k).toNat := (Nat.toNat_testBit w k).symm

theorem bit_of_testBit_false {w k : Nat} (h : w.testBit k = false) : bit w k = 0 := by rw [bit_eq_testBit, h]; rfl

theorem bit_of_testBit {w k : Nat} (h : w.testBit k = true) : bit w k = 1 := by rw [bit_eq_testBit, h]; rfl

/-! ### The place of a register -/

theorem State.not_reaches_nowhere (s : State) (m : Nat) (b : Bool) (a : Nat) : s.reaches m b a .nowhere = false := by
  unfold State.reaches
  dsimp only
  split
  · rfl
  split
  · rfl
  split
  · rfl
  split <;> rfl

/-- An access that is carried out leads to a place. -/
theorem State.place_ne_nowhere_of_judge {s : State} {m a : Nat} {b w : Bool} (h : s.judge m a b w = .ok) : place a ≠ .nowhere := by
  intro hp
  unfold State.judge at h
  simp only [hp, State.not_reaches_nowhere, Bool.false_and, Bool.and_false, Bool.not_false, if_true, Bool.false_eq_true, if_false] at h
  split at h
  · cases h
  · repeat' split at h
    all_goals cases h

/-- An accepted write in the lanes' part of register space leads to a register. -/
theorem place_lane {a : Nat} (h1 : 0x1000000 ≤ a) (h2 : a < 0x2180000) (h : place a ≠ .nowhere) : place a = .reg a :=
  (place_low (by omega) (.inr (by omega))).resolve_right h

theorem State.place_of_accepts {r : Reg} (hr : r ∈ regTable) {s : State} {m i : Nat} (ha : s.accepts m r.id i = true) : place (r.addr i) ≠ .nowhere :=
  State.place_ne_nowhere_of_judge ((State.accepts_iff hr s m i).mp ha).1

/-! ### What storing a word leaves unchanged -/

theorem State.fld_storeSlice_ne (s : State) (m id i w : Nat) (c : Slice) {f : Fld} (j : Nat) (h : f.id ≠ c.fld.id) :
    (s.storeSlice m id i w c).fld f j = s.fld f j := by
  unfold State.storeSlice
  dsimp only
  split
  · split
    · rfl
    · exact State.fld_setFld_ne _ _ _ _ h
  · rfl
  · exact State.fld_setFld_ne _ _ _ _ h
  all_goals rfl

/-- A field that no part of the register is keeps its value. -/
theorem State.fld_storeWord_ne (s : State) (m : Nat) (r : Reg) (i w : Nat) (keep : Fld → Bool) {f : Fld} (j : Nat)
    (h : ∀ c ∈ r.slices, f.id ≠ c.fld.id) : (s.storeWord m r i w keep).fld f j = s.fld f j := by
  unfold State.storeWord
  refine foldl_mem_k (K := fun t => t.fld f j = s.fld f j) _ _ rfl ?_
  intro t c hc ht
  split
  · exact ht
  · rw [State.fld_storeSlice_ne _ _ _ _ _ _ _ (h c hc), ht]

theorem State.lane_storeWord (s : State) (m : Nat) {r : Reg} (hr : r ∈ regTable) (i w : Nat) (keep : Fld → Bool) (k : Nat) :
    (s.storeWord m r i w keep).lane k = s.lane k :=
  State.storeWord_k (loose_lane s k (by decide) (by decide)) rfl m r i w keep hr

theorem State.lane_completed (s : State) (k : Nat) : s.completed.lane k = s.lane k := by
  obtain ⟨x, h⟩ := s.completed_eq
  rw [h]
  rfl

end Sys2Proof.Machine
end

section
/-! What the control registers of a lane do as they are written (O11; R57, R60, R64, R66, R80, R82, R83, R514). -/

namespace Sys2Proof.Machine

/-! ### The registers -/

/-- LN_FIT_CTRL in the register table. -/
def lnFitCtrlReg : Reg :=
  ⟨RN.LN_FIT_CTRL, 0x1000000, 0, 280, 0x10000, .single, [⟨R.LN_FIT_CTRL_ENABLE, 0, 0, 1⟩, ⟨R.LN_FIT_CTRL_RESTART, 0, 1, 1⟩,
    ⟨R.LN_FIT_CTRL_BACKOFF_RESET, 0, 2, 1⟩, ⟨R.LN_FIT_CTRL_UNFREEZE, 0, 3, 1⟩, ⟨R.LN_FIT_CTRL_PEER_PRESET, 0, 4, 2⟩,
    ⟨R.LN_FIT_CTRL_EXPECT_EN, 0, 6, 1⟩]⟩

/-- LN_TX_CFG in the register table. -/
def lnTxCfgReg : Reg :=
  ⟨RN.LN_TX_CFG, 0x1000020, 0, 280, 0x10000, .single, [⟨R.LN_TX_CFG_TIMING, 0, 0, 1⟩, ⟨R.LN_TX_CFG_LOOP_AUTO, 0, 1, 1⟩,
    ⟨R.LN_TX_CFG_TX_INV, 0, 2, 1⟩, ⟨R.LN_TX_CFG_LOOP_RESTORE, 0, 3, 1⟩]⟩

/-- LN_SPARE_CTRL in the register table. -/
def lnSpareCtrlReg : Reg :=
  ⟨RN.LN_SPARE_CTRL, 0x1000070, 256, 16, 0x10000, .single, [⟨R.LN_SPARE_CTRL_TARGET, 0, 0, 4⟩, ⟨R.LN_SPARE_CTRL_PREP, 0, 4, 1⟩,
    ⟨R.LN_SPARE_CTRL_SELECT, 0, 5, 1⟩, ⟨R.LN_SPARE_CTRL_RELEASE, 0, 6, 1⟩]⟩

/-- A word as the fields of a register of lane `n` have taken it from master `m`. -/
def State.taken (s : State) (m : Nat) (r : Reg) (n w : Nat) : State :=
  (s.park m (.reg (r.addr n))).storeWord m r n w (fun _ => !(s.park m (.reg (r.addr n))).storesFields r.id w)

theorem State.fld_taken (s : State) (m : Nat) (r : Reg) (n w : Nat) {f : Fld} (i : Nat) (hp : f.id ≠ R.MTX_STAT_PARK.id)
    (h : ∀ c ∈ r.slices, f.id ≠ c.fld.id) : (s.taken m r n w).fld f i = s.fld f i := by
  unfold State.taken
  rw [State.fld_storeWord_ne _ _ _ _ _ _ _ h, State.fld_park_ne _ _ _ _ hp]

theorem State.lane_taken (s : State) (m : Nat) {r : Reg} (hr : r ∈ regTable) (n w k : Nat) : (s.taken m r n w).lane k = s.lane k := by
  unfold State.taken
  rw [State.lane_storeWord _ _ hr, State.lane_park]

theorem lane_addr_lt {r : Reg} (hs : r.stride = 0x10000) (hb : 0x1000000 ≤ r.base) (hb2 : r.base < 0x1010000) {n : Nat} (hn : n < 280) :
    0x1000000 ≤ r.addr n ∧ r.addr n < 0x2180000 ∧ r.addr n % 4 = r.base % 4 := by
  unfold Reg.addr
  rw [hs]
  omega

/-- An accepted write of a lane's register. -/
theorem State.regWrite_lane {r : Reg} (hr : r ∈ regTable) (hs : r.stride = 0x10000) (hb : 0x1000000 ≤ r.base) (hb2 : r.base < 0x1010000)
    (h4 : r.base % 4 = 0) (ht : r.takesWhole = true) (hj : r.unjournalled = true) {n : Nat} (hn : n < 280) (h1 : r.first ≤ n)
    (h2 : n < r.first + r.count) {s : State} {m : Nat} (ha : s.accepts m r.id n = true) (w : Nat) :
    s.regWrite m r.id n w = ((s.taken m r n w).writeEffect (s.park m (.reg (r.addr n))) m r.id n w none).completed := by
  obtain ⟨ha1, ha2, ha4⟩ := lane_addr_lt hs hb hb2 hn
  exact State.regWrite_of_accepts hr h1 h2 (place_lane ha1 ha2 (State.place_of_accepts hr ha)) (ha4.trans h4) ht hj ha w

theorem State.regWrite_LN_FIT_CTRL_of_accepts {s : State} {m : Nat} {n : LaneIx} (ha : s.accepts m RN.LN_FIT_CTRL n = true) (w : Nat) :
    s.regWrite m RN.LN_FIT_CTRL n w = ((s.taken m lnFitCtrlReg n w).fitCtrlEffect n (s.flag R.LN_FIT_CTRL_ENABLE n) w).completed := by
  rw [← State.flag_park_ne s m (.reg (lnFitCtrlReg.addr n)) n (by decide)]
  exact State.regWrite_lane (r := lnFitCtrlReg) (by decide) (by decide) (by decide) (by decide) (by decide) (by decide) (by decide) n.isLt (Nat.zero_le _)
    (Nat.lt_of_lt_of_eq n.isLt (by decide)) ha w

theorem State.regWrite_LN_TX_CFG_of_accepts {s : State} {m : Nat} {n : LaneIx} (ha : s.accepts m RN.LN_TX_CFG n = true) (w : Nat) :
    s.regWrite m RN.LN_TX_CFG n w = ((s.taken m lnTxCfgReg n w).txCfgEffect n w).completed :=
  State.regWrite_lane (r := lnTxCfgReg) (by decide) (by decide) (by decide) (by decide) (by decide) (by decide) (by decide) n.isLt (Nat.zero_le _)
    (Nat.lt_of_lt_of_eq n.isLt (by decide)) ha w

/-- A lane that has spare-lane registers is a spare (R85). -/
theorem State.isSpare_of_accepts {s : State} {m : Nat} {n : LaneIx} (ha : s.accepts m RN.LN_SPARE_CTRL n = true) : isSpare n = true := by
  have hn := n.isLt
  by_contra hspare
  refine State.place_of_accepts (r := lnSpareCtrlReg) (by decide) ha ?_
  have hsp : isSpare n.val = false := by simpa using hspare
  have haddr : lnSpareCtrlReg.addr n.val = 0x1000070 + n.val * 0x10000 := rfl
  have hlane : (0x1000070 + n.val * 0x10000 - 0x1000000) / 0x10000 = n.val := by omega
  have hoff : (0x1000070 + n.val * 0x10000) % 0x10000 = 0x70 := by omega
  have hpop : regPopulated (0x1000070 + n.val * 0x10000) = false := by
    unfold regPopulated
    rw [if_neg (by omega), if_pos (by omega)]
    dsimp only
    rw [hlane, hoff, hsp]
    decide
  unfold place
  rw [haddr, if_pos (by omega), if_neg (by omega), hpop]
  rfl

theorem State.regWrite_LN_SPARE_CTRL_of_accepts {s : State} {m : Nat} {n : LaneIx} (ha : s.accepts m RN.LN_SPARE_CTRL n = true) (w : Nat) :
    s.regWrite m RN.LN_SPARE_CTRL n w = ((s.taken m lnSpareCtrlReg n w).spareCtrlEffect n w).completed := by
  have hspare := State.isSpare_of_accepts ha
  have hn : 256 ≤ n.val ∧ n.val < 272 := by simpa [isSpare] using hspare
  exact State.regWrite_lane (r := lnSpareCtrlReg) (by decide) (by decide) (by decide) (by decide) (by decide) (by decide) (by decide) n.isLt hn.1
    hn.2 ha w

end Sys2Proof.Machine
end

section
/-! What an accepted write of a lane's control register does (O11; R57, R60, R64, R66, R80, R82, R83, R514). -/

namespace Sys2Proof.Machine

/-! ### The value of a written field -/

theorem State.storesFields_of_ne {id : Nat} (h : id ≠ RN.IMG_BOOT) (h' : id ≠ RN.DEV_LATQ_CTRL) (s : State) (w : Nat) : s.storesFields id w = true := by
  simp [State.storesFields, h, h']

theorem putBits_zero_mod (v k x : Nat) : putBits v 0 k x % 2 ^ k = x % 2 ^ k := by
  unfold putBits
  rw [Nat.zero_add, Nat.add_mul_mod_self_right, Nat.pow_zero, Nat.mod_one, Nat.mul_one, Nat.zero_add, Nat.mod_mod]

/-- An RW field that one part of the register holds whole reads as it was written. -/
theorem State.fld_storeWord_self {r : Reg} {a b : List Slice} {c : Slice} (hr : r.slices = a ++ c :: b) (hty : c.fld.ty = .rw)
    (hown : perMasterReg r.id = false) (hsrc : c.src = 0) (hlen : c.len = c.fld.width) (hb : ∀ d ∈ b, c.fld.id ≠ d.fld.id) (s : State) (m i w : Nat) :
    (s.storeWord m r i w (fun _ => false)).fld c.fld i = bits w c.lo c.len := by
  unfold State.storeWord
  rw [hr, List.foldl_append, List.foldl_cons]
  refine foldl_mem_k (K := fun t => t.fld c.fld i = bits w c.lo c.len) _ _ ?_ ?_
  · unfold State.storeSlice
    simp only [hty, hown, Bool.false_eq_true, if_false]
    rw [State.fld_setFld_self, hsrc, hlen, putBits_zero_mod]
    exact Nat.mod_eq_of_lt (bits_lt _ _ _)
  · intro t d hd ht
    rw [if_neg Bool.false_ne_true, State.fld_storeSlice_ne _ _ _ _ _ _ _ (hb d hd), ht]

theorem State.fld_taken_self {r : Reg} {a b : List Slice} {c : Slice} (hr : r.slices = a ++ c :: b) (hty : c.fld.ty = .rw)
    (hown : perMasterReg r.id = false) (hsrc : c.src = 0) (hlen : c.len = c.fld.width) (hb : ∀ d ∈ b, c.fld.id ≠ d.fld.id)
    (h1 : r.id ≠ RN.IMG_BOOT) (h2 : r.id ≠ RN.DEV_LATQ_CTRL) (s : State) (m n w : Nat) :
    (s.taken m r n w).fld c.fld n = bits w c.lo c.len := by
  unfold State.taken
  simp only [State.storesFields_of_ne h1 h2, Bool.not_true]
  exact State.fld_storeWord_self hr hty hown hsrc hlen hb _ _ _ _

/-- A field that a register's parts only stage, or command, keeps its active value. -/
theorem State.fld_taken_staged {r : Reg} (h : ∀ c ∈ r.slices, c.fld.ty = .st ∨ c.fld.ty = .wo) (s : State) (m n w : Nat) {f : Fld} (i : Nat)
    (hp : f.id ≠ R.MTX_STAT_PARK.id) : (s.taken m r n w).fld f i = s.fld f i := by
  unfold State.taken State.storeWord
  refine (foldl_mem_k (K := fun t => t.fld f i = (s.park m (.reg (r.addr n))).fld f i) _ _ rfl ?_).trans (State.fld_park_ne _ _ _ _ hp)
  intro t c hc ht
  split
  · exact ht
  · unfold State.storeSlice
    rcases h c hc with hty | hty <;> simp only [hty]
    · exact ht
    · exact ht

theorem State.enable_taken (s : State) (m n w : Nat) : (s.taken m lnFitCtrlReg n w).fld R.LN_FIT_CTRL_ENABLE n = bit w 0 :=
  State.fld_taken_self (r := lnFitCtrlReg) (a := []) (c := ⟨R.LN_FIT_CTRL_ENABLE, 0, 0, 1⟩) rfl rfl (by decide) rfl rfl (by decide) (by decide)
    (by decide) s m n w

theorem State.target_taken (s : State) (m n w : Nat) : (s.taken m lnSpareCtrlReg n w).fld R.LN_SPARE_CTRL_TARGET n = bits w 0 4 :=
  State.fld_taken_self (r := lnSpareCtrlReg) (a := []) (c := ⟨R.LN_SPARE_CTRL_TARGET, 0, 0, 4⟩) rfl rfl (by decide) rfl rfl (by decide) (by decide)
    (by decide) s m n w

/-! ### LN_FIT_CTRL -/

/-- A change of ENABLE from `was` (R64 to R66, R117). -/
def State.enableChanged (s : State) (n : Nat) (was : Bool) : State :=
  if was = s.flag R.LN_FIT_CTRL_ENABLE n then s
  else if s.flag R.LN_FIT_CTRL_ENABLE n then
    let t := s.wipeDefects n
    if 5 ≤ t.phase then t.startAttempt n else t
  else
    let t := s.wipeDefects n
    if t.inService n then (t.updLane n (fun l => { l with leaveSince := some s.frame })).sendMsg n msgLeave []
    else t.disableLane n

/-- BACKOFF_RESET in the word (R60). -/
def State.backoffCleared (s : State) (n w : Nat) : State :=
  if bit w 2 = 1 then
    (s.setFld R.LN_FIT_BACKOFF_BACKOFF n 80).updLane n (fun l => { l with freshRun := true, waitLen := min l.waitLen 80 })
  else s

/-- UNFREEZE in the word (R80). -/
def State.unfrozen (s : State) (n w : Nat) : State := if bit w 3 = 1 then s.setFlag R.LN_ADAPT_STAT_FROZEN n false else s

/-- A RESTART that the lane sends (R514). -/
def LaneSt.restartSent (l : LaneSt) (r : Nat) : LaneSt :=
  let m := msgWords msgRestart l.nextMseq []
  let t := { l with nextMseq := (l.nextMseq + 1) % 256 }
  match l.tx.splice r m with
  | some x => { t with tx := x, restartPend := 1 }
  | none => { t with fcTx := m ++ l.fcTx, restartPend := 2 }

/-- RESTART in the word, where ENABLE stays 1 (R514). -/
def State.restarted (s : State) (n w : Nat) (stays : Bool) : State :=
  if bit w 1 = 1 && stays then
    if s.sendsTraffic n then s.updLane n (fun l => l.restartSent (s.nextRow n))
    else if s.fit n = fitDisabled then s
    else s.startAttempt n
  else s

theorem State.fitCtrlEffect_eq (s : State) (n : Nat) (was : Bool) (w : Nat) :
    s.fitCtrlEffect n was w = (((s.enableChanged n was).backoffCleared n w).unfrozen n w).restarted n w (s.flag R.LN_FIT_CTRL_ENABLE n && was) := by
  unfold State.fitCtrlEffect State.restarted
  simp only [Bool.and_assoc]
  rfl

theorem LaneSt.restartPend_restartSent (l : LaneSt) (r : Nat) : (l.restartSent r).restartPend ≠ 0 := by
  unfold LaneSt.restartSent
  dsimp only
  split <;> exact Nat.succ_ne_zero _

theorem State.fld_backoffCleared (s : State) (n w : Nat) {f : Fld} (i : Nat) (h : f.id ≠ R.LN_FIT_BACKOFF_BACKOFF.id) :
    (s.backoffCleared n w).fld f i = s.fld f i := by
  unfold State.backoffCleared
  split
  · exact State.fld_setFld_ne _ _ _ _ h
  · rfl

theorem State.fld_unfrozen (s : State) (n w : Nat) {f : Fld} (i : Nat) (h : f.id ≠ R.LN_ADAPT_STAT_FROZEN.id) :
    (s.unfrozen n w).fld f i = s.fld f i := by
  unfold State.unfrozen
  split
  · exact State.fld_setFlag_ne _ _ _ _ h
  · rfl

theorem State.lane_unfrozen (s : State) (n w k : Nat) : (s.unfrozen n w).lane k = s.lane k := by
  unfold State.unfrozen
  split
  · exact State.lane_setFlag _ _ _ _ _
  · rfl

theorem State.restarted_of_not {s : State} {n w : Nat} {b : Bool} (h : bit w 1 = 0 ∨ b = false) : s.restarted n w b = s := by
  unfold State.restarted
  rw [if_neg]
  rcases h with h | h <;> simp [h]

theorem State.enableChanged_of_same {s : State} {n : Nat} {was : Bool} (h : was = s.flag R.LN_FIT_CTRL_ENABLE n) : s.enableChanged n was = s := if_pos h

/-- A new attempt does not start frozen (R80). -/
theorem State.frozen_startAttempt (s : State) (n : Nat) : (s.startAttempt n).flag R.LN_ADAPT_STAT_FROZEN n = false := by
  rw [State.startAttempt_eq, State.flag_of_fld (State.fld_wipeDefects _ _ _ (by decide)), State.flag_of_fld (State.fld_enterFit _ _ _ _ (by decide))]
  unfold State.freshLane
  rw [State.flag_of_fld (State.fld_updLane _ _ _ _ _), State.flag_setFld_ne _ _ _ _ (by decide)]
  exact State.flag_setFlag_self _ _ _ _ (by decide)

theorem State.frozen_restarted {s : State} {n w : Nat} {b : Bool} (h : s.flag R.LN_ADAPT_STAT_FROZEN n = false) :
    (s.restarted n w b).flag R.LN_ADAPT_STAT_FROZEN n = false := by
  unfold State.restarted
  split
  · split
    · exact h
    split
    · exact h
    · exact s.frozen_startAttempt n
  · exact h

theorem State.enableFlag_taken (s : State) (m n w : Nat) : (s.taken m lnFitCtrlReg n w).flag R.LN_FIT_CTRL_ENABLE n = w.testBit 0 := by
  unfold State.flag
  rw [s.enable_taken m n w, bit_eq_testBit]
  cases w.testBit 0 <;> rfl

/-- Fields that a write of LN_FIT_CTRL does not hold. -/
theorem State.fit_taken (s : State) (m n w : Nat) : (s.taken m lnFitCtrlReg n w).fit n = s.fit n := State.fld_taken _ _ _ _ _ _ (by decide) (by decide)

theorem State.phase_taken (s : State) (m n w : Nat) : (s.taken m lnFitCtrlReg n w).phase = s.phase := State.fld_taken _ _ _ _ _ _ (by decide) (by decide)

theorem State.fit_wipeDefects (s : State) (n : Nat) : (s.wipeDefects n).fit n = s.fit n := State.fld_wipeDefects _ _ _ (by decide)

theorem State.phase_wipeDefects (s : State) (n : Nat) : (s.wipeDefects n).phase = s.phase := State.fld_wipeDefects _ _ _ (by decide)

theorem State.fit_backoffCleared (s : State) (n w : Nat) : (s.backoffCleared n w).fit n = s.fit n := State.fld_backoffCleared _ _ _ _ (by decide)

theorem State.fit_unfrozen (s : State) (n w : Nat) : (s.unfrozen n w).fit n = s.fit n := State.fld_unfrozen _ _ _ _ (by decide)

theorem State.fit_enableChanged_down {s : State} {n : Nat} (h : s.flag R.LN_FIT_CTRL_ENABLE n = false) (hserv : s.inService n = false) :
    (s.enableChanged n true).fit n = fitDisabled := by
  unfold State.enableChanged
  have hin : (s.wipeDefects n).inService n = false := by
    unfold State.inService at hserv ⊢
    rw [State.fit_wipeDefects, hserv]
  rw [h, if_neg (by decide), if_neg (by decide)]
  dsimp only
  rw [hin, if_neg (by decide), State.fit_disableLane]

theorem State.fit_enableChanged_up {s : State} {n : Nat} (h : s.flag R.LN_FIT_CTRL_ENABLE n = true) (hphase : 5 ≤ s.phase) :
    (s.enableChanged n false).fit n = fitSignal := by
  unfold State.enableChanged
  rw [h, if_neg (by decide), if_pos rfl]
  dsimp only
  rw [if_pos (by rw [State.phase_wipeDefects]; exact hphase)]
  exact (State.attemptStarted_startAttempt _ n).1

/-- What RESTART does to a lane whose ENABLE stays 1 (R514). -/
theorem State.restarted_spec {s : State} {n w : Nat} (hw : bit w 1 = 1) (hfit : s.fit n ≠ fitDisabled) :
    if s.sendsTraffic n then ((s.restarted n w true).lane n).restartPend ≠ 0 ∧ (s.restarted n w true).fit n = s.fit n
    else (s.restarted n w true).fit n = fitSignal := by
  have hcond : (decide (bit w 1 = 1) && true) = true := by simp [hw]
  by_cases hsends : s.sendsTraffic n = true
  · have he : s.restarted n w true = s.updLane n (fun l => l.restartSent (s.nextRow n)) := (if_pos hcond).trans (if_pos hsends)
    rw [if_pos hsends, he, State.lane_updLane_self]
    exact ⟨LaneSt.restartPend_restartSent _ _, rfl⟩
  · have he : s.restarted n w true = s.startAttempt n := ((if_pos hcond).trans (if_neg hsends)).trans (if_neg hfit)
    rw [if_neg hsends, he]
    exact (State.attemptStarted_startAttempt _ n).1

/-! ### LN_SPARE_CTRL -/

theorem State.spareFlag_taken (s : State) (m n w : Nat) {f : Fld} (hp : f.id ≠ R.MTX_STAT_PARK.id) (h : ∀ c ∈ lnSpareCtrlReg.slices, f.id ≠ c.fld.id) :
    (s.taken m lnSpareCtrlReg n w).flag f n = s.flag f n := State.flag_of_fld (State.fld_taken _ _ _ _ _ _ hp h)

theorem State.inService_taken (s : State) (m n w : Nat) : (s.taken m lnSpareCtrlReg n w).inService n = s.inService n := by
  unfold State.inService State.fit
  rw [State.fld_taken _ _ _ _ _ _ (by decide) (by decide)]

/-- The lane that a write of LN_SPARE_CTRL names (R82). -/
theorem State.named_taken (s : State) (m n w : Nat) :
    16 * (n - 256) + (s.taken m lnSpareCtrlReg n w).fld R.LN_SPARE_CTRL_TARGET n = 16 * (n - 256) + w % 16 := by
  rw [State.target_taken]
  simp [bits]

theorem State.covers_taken (s : State) (m n w x : Nat) : (s.taken m lnSpareCtrlReg n w).covers n x = s.covers n x := by
  unfold State.covers
  rw [State.fld_taken _ _ _ _ _ _ (by decide) (by decide)]

theorem State.frame_taken (s : State) (m n w : Nat) : (s.taken m lnSpareCtrlReg n w).frame = s.frame :=
  State.fld_taken _ _ _ _ _ _ (by decide) (by decide)

/-- PREP alone (R82). -/
theorem State.spareCtrlEffect_prep {s : State} {n w : Nat} (h4 : bit w 4 = 1) (h5 : bit w 5 = 0) (h6 : bit w 6 = 0)
    (hcarry : s.flag R.LN_SPARE_STAT_CARRYING n = false) (hserv : s.inService n = true)
    (hcov : s.covers n (16 * (n - 256) + s.fld R.LN_SPARE_CTRL_TARGET n) = true) :
    s.spareCtrlEffect n w = s.sendMsg n msgSparePrep [16 * (n - 256) + s.fld R.LN_SPARE_CTRL_TARGET n] := by
  unfold State.spareCtrlEffect
  simp [h4, h5, h6, hcarry, hserv, hcov]

/-- SELECT alone (R82, R85). -/
theorem State.spareCtrlEffect_select {s : State} {n w : Nat} (h4 : bit w 4 = 0) (h5 : bit w 5 = 1) (h6 : bit w 6 = 0) :
    s.spareCtrlEffect n w =
      if s.flag R.LN_SPARE_STAT_READY n && s.inService n && !(s.flag R.LN_SPARE_STAT_CARRYING n && !(s.lane n).back) then s.sendSelect n
      else s.updLane n (fun l => { l with selWait := true }) := by
  unfold State.spareCtrlEffect
  simp [h4, h5, h6]

/-- RELEASE alone (R83). -/
theorem State.spareCtrlEffect_release {s : State} {n w : Nat} (h4 : bit w 4 = 0) (h5 : bit w 5 = 0) (h6 : bit w 6 = 1)
    (hserv : s.inService n = true) :
    s.spareCtrlEffect n w = s.sendMsg n msgSpareRelease
      [if s.flag R.LN_SPARE_STAT_SHADOW n then (s.lane n).target else 16 * (n - 256) + s.fld R.LN_SPARE_CTRL_TARGET n] := by
  unfold State.spareCtrlEffect
  simp [h4, h5, h6, hserv]

/-- A selection that goes out on the spare itself, whose message channel is free (R82). -/
theorem State.sendSelect_spec {s : State} {n : Nat} (hown : (s.lane n).selOwn = none) (hout : (s.lane n).out = none) (hback : (s.lane n).back = false) :
    ((s.sendSelect n).lane n).selOwn = some (frameAdd s.frame 8)
      ∧ ((s.sendSelect n).lane n).out = some ⟨msgSpareSelect, (s.lane n).nextMseq, [(s.lane n).target, frameAdd s.frame 8]⟩ := by
  refine ⟨State.lane_sendSelect hown, ?_⟩
  unfold State.sendSelect
  dsimp only
  rw [hown, if_neg (by decide), hback, if_neg (by decide), State.lane_sendMsg_of_none (by rw [State.lane_updLane_self]; exact hout),
    State.lane_updLane_self]

end Sys2Proof.Machine
end

section
/-! LaneControlWrites (O11; R57, R60, R64, R66, R80, R82, R83, R514). -/

namespace Sys2Proof.Machine

/-- A bit of the written word beside the command bit that the command sets. -/
theorem bit_of_command {w : Word} {k j : Nat} (x : Nat) (h : j ≠ k) (hw : w.toNat.testBit j = false) : bit (putBits w.toNat k 1 x) j = 0 := by
  rw [bit_putBits_ne h, bit_of_testBit_false hw]

theorem testBit_zero_eq {w : Nat} {b : Bool} (h : bit w 0 = b.toNat) : w.testBit 0 = b := by
  rw [bit_eq_testBit] at h
  cases b <;> cases hb : w.testBit 0 <;> simp_all

theorem State.flag_of_one {s : State} {f : Fld} {i : Nat} (h : s.fld f i = 1) : s.flag f i = true := by
  unfold State.flag
  rw [h]
  rfl

theorem State.flag_of_zero {s : State} {f : Fld} {i : Nat} (h : s.fld f i = 0) : s.flag f i = false := by
  unfold State.flag
  rw [h]
  rfl

/-- What a write of LN_FIT_CTRL leaves of ENABLE (R66). -/
theorem State.enable_fitCtrl (s : State) (m n w : Nat) (was : Bool) :
    ((s.taken m lnFitCtrlReg n w).fitCtrlEffect n was w).flag R.LN_FIT_CTRL_ENABLE n = w.testBit 0 := by
  rw [State.flag_of_fld (State.fld_fitCtrlEffect _ _ _ _ _ (by decide)), s.enableFlag_taken m n w]

/-- Settles O11. -/
theorem laneControlWrites : Obligations.LaneControlWrites := by
  unfold Obligations.LaneControlWrites
  intro m n w s
  refine ⟨fun ha hw1 hsame => ?_, fun ha => ?_, fun ha hen hw0 hfit => ?_, fun ha hen hserv => ?_, fun ha hen hphase => ?_, fun ha htiming hact => ?_,
    fun ha hw5 hw6 hserv hcov hcarry hout => ?_, fun ha hspare hw4 hw6 hserv hready hown hout hback hcarry => ?_,
    fun ha hspare hw4 hw6 hwait => ?_, fun ha hspare hw4 hw5 hserv hout => ?_⟩
  · refine ⟨_, congrArg Host.Outcome.next (State.regWrite_LN_FIT_CTRL_of_accepts ha _), ?_⟩
    have hwas : s.flag R.LN_FIT_CTRL_ENABLE n = (s.taken m lnFitCtrlReg n (putBits w.toNat 2 1 1)).flag R.LN_FIT_CTRL_ENABLE n := by
      rw [s.enableFlag_taken, hsame]
      exact (testBit_zero_eq (by rw [bit_putBits_ne (by decide), bit_eq_testBit])).symm
    rw [State.fitCtrlEffect_eq, State.restarted_of_not (.inl (bit_of_command 1 (by decide) hw1)), State.enableChanged_of_same hwas]
    dsimp only
    rw [State.completed_status, State.completed_fld, State.lane_completed, State.lane_unfrozen, State.fld_unfrozen _ _ _ _ (by decide)]
    unfold State.fit
    rw [State.completed_fld, State.fld_unfrozen _ _ _ (f := R.LN_FIT_STATUS_STATE) _ (by decide)]
    refine ⟨rfl, ?_, ?_, (State.fit_backoffCleared _ _ _).trans (State.fit_taken _ _ _ _)⟩
    all_goals
      unfold State.backoffCleared
      rw [if_pos (bit_putBits_one _ _)]
    · rw [State.fld_updLane]
      exact State.fld_setFld_self _ _ _ _
    · rw [State.lane_updLane_self]
  · refine ⟨_, congrArg Host.Outcome.next (State.regWrite_LN_FIT_CTRL_of_accepts ha _), State.completed_status _, ?_⟩
    rw [State.completed_flag, State.fitCtrlEffect_eq]
    refine State.frozen_restarted ?_
    unfold State.unfrozen
    rw [if_pos (bit_putBits_one _ _)]
    exact State.flag_setFlag_self _ _ _ _ (by decide)
  · refine ⟨_, congrArg Host.Outcome.next (State.regWrite_LN_FIT_CTRL_of_accepts ha _), State.completed_status _, ?_⟩
    have hnow : (s.taken m lnFitCtrlReg n (putBits w.toNat 1 1 1)).flag R.LN_FIT_CTRL_ENABLE n = true := by
      rw [s.enableFlag_taken]
      exact testBit_zero_eq (by rw [bit_putBits_ne (by decide), bit_of_testBit hw0]; rfl)
    rw [State.fitCtrlEffect_eq, hnow, hen, State.enableChanged_of_same hnow.symm, Bool.and_true, State.lane_completed]
    unfold State.fit at hfit ⊢
    rw [State.completed_fld]
    generalize hu : ((s.taken m lnFitCtrlReg n (putBits w.toNat 1 1 1)).backoffCleared n (putBits w.toNat 1 1 1)).unfrozen n (putBits w.toNat 1 1 1) = u
    have hufit : u.fit n = s.fit n := by rw [← hu, State.fit_unfrozen, State.fit_backoffCleared, State.fit_taken]
    have hspec := State.restarted_spec (s := u) (n := n) (bit_putBits_one w.toNat 1) (by rw [hufit]; exact hfit)
    have hsends : u.sendsTraffic n = s.sendsTraffic n := by
      unfold State.sendsTraffic
      rw [hufit]
    rw [hsends, hufit] at hspec
    exact hspec
  · refine ⟨_, congrArg Host.Outcome.next (State.regWrite_LN_FIT_CTRL_of_accepts ha _), State.completed_status _, ?_⟩
    rw [hen, State.flag_of_one hen, State.completed_flag, State.enable_fitCtrl]
    have hbit : (putBits w.toNat 0 1 (1 - 1)).testBit 0 = false := testBit_zero_eq (by rw [bit_putBits_self]; rfl)
    refine ⟨hbit, ?_⟩
    unfold State.fit
    rw [State.completed_fld, State.fitCtrlEffect_eq, State.enableFlag_taken, hbit, Bool.false_and, State.restarted_of_not (.inr rfl),
      State.fld_unfrozen _ _ _ _ (by decide), State.fld_backoffCleared _ _ _ _ (by decide)]
    refine State.fit_enableChanged_down (by rw [State.enableFlag_taken, hbit]) ?_
    unfold State.inService at hserv ⊢
    rw [State.fit_taken, hserv]
  · refine ⟨_, congrArg Host.Outcome.next (State.regWrite_LN_FIT_CTRL_of_accepts ha _), State.completed_status _, ?_⟩
    rw [hen, State.flag_of_zero hen, State.completed_flag, State.enable_fitCtrl]
    have hbit : (putBits w.toNat 0 1 (1 - 0)).testBit 0 = true := testBit_zero_eq (by rw [bit_putBits_self]; rfl)
    refine ⟨hbit, ?_⟩
    unfold State.fit
    rw [State.completed_fld, State.fitCtrlEffect_eq, Bool.and_false, State.restarted_of_not (.inr rfl),
      State.fld_unfrozen _ _ _ _ (by decide), State.fld_backoffCleared _ _ _ _ (by decide)]
    exact State.fit_enableChanged_up (by rw [State.enableFlag_taken, hbit]) (by rw [State.phase_taken]; exact hphase)
  · refine ⟨_, congrArg Host.Outcome.next (State.regWrite_LN_TX_CFG_of_accepts ha _), State.completed_status _, ?_⟩
    rw [State.completed_flag, State.completed_flag]
    have heff : (s.taken m lnTxCfgReg n (putBits w.toNat 3 1 1)).txCfgEffect n (putBits w.toNat 3 1 1)
        = (s.taken m lnTxCfgReg n (putBits w.toNat 3 1 1)).loopReturn n := by
      have htiming' : (s.taken m lnTxCfgReg n (putBits w.toNat 3 1 1)).flag R.LN_TX_CFG_TIMING n = true :=
        (State.flag_of_fld (State.fld_taken_staged (by decide) _ _ _ _ _ (by decide))).trans htiming
      have hact' : (s.taken m lnTxCfgReg n (putBits w.toNat 3 1 1)).flag R.LN_TX_STAT_TIMING_ACT n = false :=
        (State.flag_of_fld (State.fld_taken _ _ _ _ _ _ (by decide) (by decide))).trans hact
      unfold State.txCfgEffect
      rw [if_pos (by simp [bit_putBits_one, htiming', hact'])]
    obtain ⟨h1, h2, -⟩ := (s.taken m lnTxCfgReg n (putBits w.toNat 3 1 1)).loopReturn_spec n
    rw [heff]
    exact ⟨h1, h2⟩
  · refine ⟨_, congrArg Host.Outcome.next (State.regWrite_LN_SPARE_CTRL_of_accepts ha _), State.completed_status _, ?_⟩
    have hw : bits (putBits w.toNat 4 1 1) 0 4 = w.toNat % 16 := by rw [bits_putBits_below (by decide)]; simp [bits]
    have hput : putBits w.toNat 4 1 1 % 16 = w.toNat % 16 := by simpa [bits] using hw
    have hname : (s.taken m lnSpareCtrlReg n (putBits w.toNat 4 1 1)).fld R.LN_SPARE_CTRL_TARGET n = w.toNat % 16 := by rw [State.target_taken, hw]
    rw [State.completed_fld, State.lane_completed, State.spareCtrlEffect_prep (bit_putBits_one _ _) (bit_of_command 1 (by decide) hw5)
      (bit_of_command 1 (by decide) hw6) ((s.spareFlag_taken m n _ (by decide) (by decide)).trans hcarry) ((s.inService_taken m n _).trans hserv)
      (by rw [State.named_taken, State.covers_taken, hput]; exact hcov), State.lane_sendMsg_of_none (by rw [State.lane_taken _ _ (by decide)]; exact hout), hname, State.lane_taken _ _ (by decide)]
    refine ⟨?_, rfl⟩
    rw [State.fld_sendMsg _ _ _ _ _ (by decide), hname]
  · refine ⟨_, congrArg Host.Outcome.next (State.regWrite_LN_SPARE_CTRL_of_accepts ha _), State.completed_status _, ?_⟩
    rw [State.lane_completed, State.spareCtrlEffect_select (bit_of_command 1 (by decide) hw4) (bit_putBits_one _ _) (bit_of_command 1 (by decide) hw6),
      State.spareFlag_taken _ _ _ _ (by decide) (by decide), State.spareFlag_taken _ _ _ _ (by decide) (by decide), State.inService_taken, hready, hserv,
      hcarry, if_pos (by rfl), ← s.frame_taken m n (putBits w.toNat 5 1 1)]
    have hlane := s.lane_taken m (r := lnSpareCtrlReg) (by decide) n (putBits w.toNat 5 1 1) n
    have hspec := State.sendSelect_spec (s := s.taken m lnSpareCtrlReg n (putBits w.toNat 5 1 1)) (n := n) (by rw [hlane]; exact hown)
      (by rw [hlane]; exact hout) (by rw [hlane]; exact hback)
    rw [hlane] at hspec
    exact hspec
  · refine ⟨_, congrArg Host.Outcome.next (State.regWrite_LN_SPARE_CTRL_of_accepts ha _), State.completed_status _, ?_⟩
    have hlane := s.lane_taken m (r := lnSpareCtrlReg) (by decide) n (putBits w.toNat 5 1 1) n
    rw [State.lane_completed, State.spareCtrlEffect_select (bit_of_command 1 (by decide) hw4) (bit_putBits_one _ _) (bit_of_command 1 (by decide) hw6),
      State.spareFlag_taken _ _ _ _ (by decide) (by decide), State.spareFlag_taken _ _ _ _ (by decide) (by decide), hlane,
      if_neg (by rcases hwait with h | ⟨h, h'⟩ <;> simp [*]), State.lane_updLane_self, hlane]
    exact ⟨rfl, rfl⟩
  · refine ⟨_, congrArg Host.Outcome.next (State.regWrite_LN_SPARE_CTRL_of_accepts ha _), State.completed_status _, ?_⟩
    have hput : putBits w.toNat 6 1 1 % 16 = w.toNat % 16 := by
      have hw : bits (putBits w.toNat 6 1 1) 0 4 = bits w.toNat 0 4 := bits_putBits_below (by decide) 1
      simpa [bits] using hw
    have hlane := s.lane_taken m (r := lnSpareCtrlReg) (by decide) n (putBits w.toNat 6 1 1) n
    rw [State.lane_completed, State.spareCtrlEffect_release (bit_of_command 1 (by decide) hw4) (bit_of_command 1 (by decide) hw5) (bit_putBits_one _ _)
      ((s.inService_taken m n _).trans hserv), State.lane_sendMsg_of_none (by rw [hlane]; exact hout), hlane, State.named_taken, hput,
      State.spareFlag_taken _ _ _ _ (by decide) (by decide)]

end Sys2Proof.Machine
end

section
/-! SUPPORT. What receiving a row leaves of a lane's place in its frame (R112 to R114). -/

namespace Sys2Proof.Machine

/-- A lane's place in its receive frame is as in `l`: row, page, phase, errored FAWs in a row, and the message in progress. -/
structure LaneSt.SameRow (l l' : LaneSt) : Prop where
  row : l'.row = l.row
  page : l'.page = l.page
  phi : l'.phi = l.phi
  errFaw : l'.errFaw = l.errFaw
  fcRx : l'.fcRx = l.fcRx

theorem LaneSt.SameRow.refl (l : LaneSt) : l.SameRow l := ⟨rfl, rfl, rfl, rfl, rfl⟩

theorem LaneSt.SameRow.trans {a b c : LaneSt} (h : a.SameRow b) (g : b.SameRow c) : a.SameRow c :=
  ⟨g.row.trans h.row, g.page.trans h.page, g.phi.trans h.phi, g.errFaw.trans h.errFaw, g.fcRx.trans h.fcRx⟩

theorem LaneSt.SameRow.of_eq {l l' : LaneSt} (h : l' = l) : l.SameRow l' := h ▸ .refl l

theorem State.sameRow_updLane (s : State) (n : Nat) {f : LaneSt → LaneSt} (h : ∀ l : LaneSt, l.SameRow (f l)) : (s.lane n).SameRow ((s.updLane n f).lane n) := by
  rw [State.lane_updLane_self]
  exact h _

theorem State.sameRow_refreshCa (s : State) (n : Nat) : (s.lane n).SameRow ((s.refreshCa n).lane n) :=
  State.sameRow_updLane (s.setFlag R.LN_FRM_STAT_CA n (s.caActive n)) n (fun _ => ⟨rfl, rfl, rfl, rfl, rfl⟩)

theorem State.sameRow_loopFallback (s : State) (n : Nat) : (s.lane n).SameRow ((s.loopFallback n).lane n) := by
  unfold State.loopFallback
  split
  · rw [State.lane_latch]
    exact State.sameRow_updLane ((s.setFlag R.LN_TX_STAT_TIMING_ACT n false).setFlag R.LN_TX_STAT_SLEWING n true) n (fun _ => ⟨rfl, rfl, rfl, rfl, rfl⟩)
  · exact .refl _

theorem State.sameRow_declare (s : State) (n : Nat) (d : Defect) : (s.lane n).SameRow ((s.declare n d).lane n) := by
  cases h : s.declared n d with
  | true =>
    unfold State.declare
    rw [if_pos h]
    exact .refl _
  | false =>
    rw [State.declare_of_not_declared h]
    refine .trans ?_ (State.sameRow_refreshCa _ n)
    rw [State.lane_countsLsd]
    unfold State.endsLoop
    split
    · refine .trans ?_ (State.sameRow_updLane _ n (fun _ => ⟨rfl, rfl, rfl, rfl, rfl⟩))
      refine .trans ?_ (State.sameRow_loopFallback _ n)
      rw [State.lane_latchIf]
      exact .refl _
    · rw [State.lane_latchIf]
      exact .refl _

/-! ### The management channel (R105 to R107) -/

theorem State.sameRow_mchWord (s : State) (n w : Nat) : (s.lane n).SameRow ((s.mchWord n w).lane n) := by
  have hkeep : ∀ b, (s.lane n).SameRow ((s.updLane n (fun l => { l with mchRx := b })).lane n) :=
    fun b => State.sameRow_updLane s n (fun _ => ⟨rfl, rfl, rfl, rfl, rfl⟩)
  unfold State.mchWord
  dsimp only
  split
  · exact hkeep _
  · split
    · exact hkeep _
    · rw [State.lane_badPacket]
      exact hkeep _
    · split
      · rw [State.lane_storePacket]
        exact hkeep _
      · rw [State.lane_badPacket]
        exact hkeep _

/-- The management-channel words of a row (R93, R105). -/
def State.takeMch (s : State) (n : Nat) (bad : List Bool) (data : List Nat) : State :=
  (List.range 16).foldl (fun t k => if bad.getD (1040 + k) true then t else t.mchWord n (data.getD (1040 + k) 0)) s

theorem State.sameRow_takeMch (s : State) (n : Nat) (bad : List Bool) (data : List Nat) : (s.lane n).SameRow ((s.takeMch n bad data).lane n) := by
  unfold State.takeMch
  refine foldl_k (K := fun t => (s.lane n).SameRow (t.lane n)) _ _ (.refl _) ?_
  intro t k ht
  split
  · exact ht
  · exact ht.trans (State.sameRow_mchWord t n _)

theorem State.fld_takeMch (s : State) (n : Nat) (bad : List Bool) (data : List Nat) {f : Fld} (i : Nat)
    (h : regOk 0x1e400000000000000000000000000000000000000000000000000000000000000000000000000000000000000000000000000000001300000000080000000000000000000000002000000000002e00 f.id = false) :
    (s.takeMch n bad data).fld f i = s.fld f i := by
  unfold State.takeMch
  refine foldl_k (K := fun t => t.fld f i = s.fld f i) _ _ rfl ?_
  intro t k ht
  split
  · exact ht
  · exact (State.fld_mchWord _ _ _ _ h).trans ht

theorem State.sill_takeMch (s : State) (n : Nat) (bad : List Bool) (data : List Nat) : (s.takeMch n bad data).sill = s.sill := by
  unfold State.takeMch
  refine foldl_k (K := fun t => t.sill = s.sill) _ _ rfl ?_
  intro t k ht
  split
  · exact ht
  · exact (State.mchWord_k (loose_part t .sill (by decide) (by decide) (by decide)) rfl n _).trans ht

/-! ### The channels of a row while no message is in progress (R73) -/

/-- A fitting-channel word where no message is in progress begins one or is passed over. -/
theorem State.fitWord_of_idle {s : State} {n : Nat} (h : (s.lane n).fcRx = []) (w : Nat) :
    ∃ b, s.fitWord n w = s.updLane n (fun l => { l with fcRx := b }) ∨ s.fitWord n w = s := by
  unfold State.fitWord
  dsimp only
  rw [h]
  dsimp only
  split
  · exact ⟨_, .inl rfl⟩
  · exact ⟨[], .inr rfl⟩

/-- The channels of a row, where no message is in progress, take the management words and move at most the message that begins. -/
theorem State.takeChannels_of_idle {s : State} {n : Nat} (h : (s.lane n).fcRx = []) (bad : List Bool) (data : List Nat) :
    ∃ b, s.takeChannels n bad data = (s.takeMch n bad data).updLane n (fun l => { l with fcRx := b })
      ∨ s.takeChannels n bad data = s.takeMch n bad data := by
  have hidle : ((s.takeMch n bad data).lane n).fcRx = [] := (State.sameRow_takeMch s n bad data).fcRx.trans h
  unfold State.takeChannels
  dsimp only
  split
  · exact ⟨[], .inl rfl⟩
  · exact State.fitWord_of_idle hidle _

/-- What receiving the channels leaves, where no message is in progress. -/
theorem State.takeChannels_idle_spec {s : State} {n : Nat} (h : (s.lane n).fcRx = []) (bad : List Bool) (data : List Nat) :
    (s.takeChannels n bad data).sill = s.sill
      ∧ (∃ b, (s.lane n).SameRow { (s.takeChannels n bad data).lane n with fcRx := b })
      ∧ ∀ {f : Fld} (i : Nat), regOk 0x1e400000000000000000000000000000000000000000000000000000000000000000000000000000000000000000000000000000001300000000080000000000000000000000002000000000002e00 f.id = false →
        (s.takeChannels n bad data).fld f i = s.fld f i := by
  have hsame := State.sameRow_takeMch s n bad data
  have hsill := State.sill_takeMch s n bad data
  obtain ⟨b, he | he⟩ := State.takeChannels_of_idle h bad data
  · rw [he, State.lane_updLane_self]
    exact ⟨hsill, ⟨_, hsame.row, hsame.page, hsame.phi, hsame.errFaw, hsame.fcRx⟩, fun i hf => State.fld_takeMch s n bad data i hf⟩
  · rw [he]
    exact ⟨hsill, ⟨_, hsame.row, hsame.page, hsame.phi, hsame.errFaw, hsame.fcRx⟩, fun i hf => State.fld_takeMch s n bad data i hf⟩

/-! ### The takeover word (R102) -/

theorem Tab.look_mapVals {α β : Type} (l : List (Nat × α)) (f : Nat → α → β) (k : Nat) :
    Tab.look (l.map (fun e => (e.1, f e.1 e.2))) k = (Tab.look l k).map (f k) := by
  induction l with
  | nil => rfl
  | cons e l ih =>
    obtain ⟨j, v⟩ := e
    simp only [List.map_cons, Tab.look]
    by_cases hk : k = j
    · simp [hk]
    · rw [if_neg hk, if_neg hk, ih]

/-- A change of every lane that keeps `SameRow`, and of no lane that is not listed. -/
theorem sameRow_mapVals (t : Tab LaneSt) {f : Nat → LaneSt → LaneSt} (h : ∀ k (l : LaneSt), l.SameRow (f k l)) (n : Nat) :
    (t.get n {}).SameRow ((t.mapVals f).get n {}) := by
  unfold Tab.get Tab.find Tab.mapVals
  rw [Tab.look_mapVals]
  cases Tab.look t.entries n with
  | none => exact .refl _
  | some l => exact h n l

theorem State.sameRow_hearTake (s : State) (n : Nat) : (s.lane n).SameRow (s.hearTake.lane n) := by
  unfold State.hearTake
  dsimp only
  split
  · exact .refl _
  · have hlane : s.learnTake.showTake.lane n = s.lane n := by rw [State.lane_showTake, State.lane_learnTake]
    rw [← hlane]
    refine sameRow_mapVals _ ?_ n
    intro k l
    split
    · exact ⟨rfl, rfl, rfl, rfl, rfl⟩
    · exact .refl _

theorem State.sameRow_takeTkw (s : State) (n r : Nat) : (s.lane n).SameRow ((s.takeTkw n r).lane n) := by
  have hhear : ∀ b : Bool, (s.lane n).SameRow ((if b then s.hearTake else s).lane n) := by
    intro b
    cases b
    · exact .refl _
    · exact State.sameRow_hearTake s n
  unfold State.takeTkw
  split
  · exact .refl _
  · dsimp only
    split
    · exact hhear _
    · rw [State.lane_latchIf, State.lane_setFld, State.lane_setFld, State.lane_setFlag]
      exact hhear _

/-! ### Adaptation (R78) -/

theorem State.sameRow_adapt (s : State) (n : Nat) : (s.lane n).SameRow ((s.adapt n).lane n) := by
  unfold State.adapt
  dsimp only
  split
  · rw [State.lane_drawn, State.lane_updLane_self]
    split
    · simp only [State.lane_setFld]
      exact ⟨rfl, rfl, rfl, rfl, rfl⟩
    · simp only [State.lane_setFld]
      exact ⟨rfl, rfl, rfl, rfl, rfl⟩
  · exact .refl _

/-! ### A row's counts and words -/

/-- The counts of a row's codewords (R92, R113). -/
def State.codewordsCounted (s : State) (n : Nat) (d : RowDecode) : State := (s.addFld R.LN_CNT0 n d.corr).addFld R.LN_CNT1 n d.unc

/-- A row, its codewords counted, as its other counts, its test words and its overhead have been taken, before its words are written (R93 to R97,
R108, R109, R113). -/
def State.rowGathered (s : State) (n r : Nat) (line : List Nat) : State :=
  let d := decodeRow line
  let data := scrambleRow r d.words
  let errs := testErrors r d.bad data
  let s2 := (s.bankCount 8 n d.corr).bankCount 9 n d.unc
  let s3 := if r ≠ 0 && line.getD 0 0 ≠ rowMarker r then s2.addFld R.LN_CNT3 n 1 else s2
  let s4 := (s3.addFld R.LN_CNT5 n errs).latchIf (decide (0 < errs)) R.LN_DEF_EVT_TEST_MISMATCH n
  let s5 := s4.updLane n (fun l => { l with acc := l.acc.addRow r d data, row := r + 1 })
  if r = 0 then s5.takeTest n else s5

/-- A row before its words are written. -/
def State.rowCounted (s : State) (n r : Nat) (line : List Nat) : State := (s.codewordsCounted n (decodeRow line)).rowGathered n r line

theorem State.receiveRow_eq (s : State) (n r : Nat) (line : List Nat) : s.receiveRow n r line =
    ((if 272 ≤ n then s.rowCounted n r line
      else (s.rowCounted n r line).writeSill n r (decodeRow line).bad (scrambleRow r (decodeRow line).words)).takeTkw n r).takeChannels n
      (decodeRow line).bad (scrambleRow r (decodeRow line).words) := rfl

theorem State.rowGathered_k {K : State → Prop}
    (hK : Loose 0x20000000080000000000000000000000000000000000000000000000000000000000000000000000000000000000000000000000000000000000000000000000007d000000080000000000000000000000000000000000002c00 K)
    {s : State} (h : K s) (n r : Nat) (line : List Nat) : K (s.rowGathered n r line) := by
  unfold State.rowGathered
  dsimp only
  have h2 := State.bankCount_k (hK.mono (by decide)) (State.bankCount_k (hK.mono (by decide)) h 8 n (decodeRow line).corr) 9 n (decodeRow line).unc
  have h3 := ite_k (c := (decide (r ≠ 0) && decide (line.getD 0 0 ≠ rowMarker r)) = true) (State.addFld_k hK h2 R.LN_CNT3 n 1 (by decide)) h2
  have h5 := State.updLane_k (hK.mono (by decide)) (State.latchIf_k hK (by decide) (State.addFld_k hK h3 R.LN_CNT5 n
    (testErrors r (decodeRow line).bad (scrambleRow r (decodeRow line).words)) (by decide))
    (decide (0 < testErrors r (decodeRow line).bad (scrambleRow r (decodeRow line).words))) R.LN_DEF_EVT_TEST_MISMATCH n (by decide)) n
    (fun l => { l with acc := l.acc.addRow r (decodeRow line) (scrambleRow r (decodeRow line).words), row := r + 1 })
  exact ite_k (State.takeTest_k (hK.mono (by decide)) h5 n) h5

/-- The lane as a row has been gathered. -/
theorem State.lane_rowCounted (s : State) (n r : Nat) (line : List Nat) :
    (s.rowCounted n r line).lane n = { s.lane n with acc := (s.lane n).acc.addRow r (decodeRow line) (scrambleRow r (decodeRow line).words), row := r + 1 } := by
  have htest : ∀ t : State, (if r = 0 then t.takeTest n else t).lane n = t.lane n := by
    intro t
    split
    · exact State.lane_takeTest _ _ _
    · rfl
  have hmarker : ∀ t : State, ∀ b : Bool, (if b then t.addFld R.LN_CNT3 n 1 else t).lane n = t.lane n := by
    intro t b
    split
    · exact State.addFld_lane _ _ _ _ _
    · rfl
  unfold State.rowCounted State.rowGathered State.codewordsCounted
  dsimp only
  rw [htest, State.lane_updLane_self, State.lane_latchIf, State.addFld_lane, hmarker, State.lane_bankCount, State.lane_bankCount, State.addFld_lane,
    State.addFld_lane]

theorem State.sill_rowCounted (s : State) (n r : Nat) (line : List Nat) : (s.rowCounted n r line).sill = s.sill := by
  unfold State.rowCounted
  rw [show _ = (s.codewordsCounted n (decodeRow line)).sill from
    State.rowGathered_k (loose_part (s.codewordsCounted n (decodeRow line)) .sill (by decide) (by decide) (by decide)) rfl n r line]
  unfold State.codewordsCounted
  rw [State.addFld_sill, State.addFld_sill]

theorem State.fld_rowGathered (s : State) (n r : Nat) (line : List Nat) {f : Fld} (i : Nat)
    (h : regOk 0x20000000080000000000000000000000000000000000000000000000000000000000000000000000000000000000000000000000000000000000000000000000007d000000080000000000000000000000000000000000002c00 f.id = false) :
    (s.rowGathered n r line).fld f i = s.fld f i := State.rowGathered_k (loose_fld h) rfl n r line

/-- A field that a row does not count in. -/
theorem State.fld_rowCounted (s : State) (n r : Nat) (line : List Nat) {f : Fld} (i : Nat)
    (h : regOk 0x20000000080000000000000000000000000000000000000000000000000000000000000000000000000000000000000000000000000000000000000000000000007d000000080000000000000000000000000000000000002c00 f.id = false)
    (h0 : f.id ≠ R.LN_CNT0.id) (h1 : f.id ≠ R.LN_CNT1.id) : (s.rowCounted n r line).fld f i = s.fld f i := by
  unfold State.rowCounted State.codewordsCounted
  rw [State.fld_rowGathered _ _ _ _ _ h, State.fld_addFld_ne _ _ _ _ h1, State.fld_addFld_ne _ _ _ _ h0]

/-- A count of 48 bits. -/
theorem State.fld_addFld_self {s : State} {f : Fld} {i : Nat} (h : s.fld f i < 2 ^ f.width) (n : Nat) :
    (s.addFld f i n).fld f i = (s.fld f i + n) % 2 ^ f.width := by
  unfold State.addFld
  split
  · next h0 => rw [h0, Nat.add_zero, Nat.mod_eq_of_lt h]
  · exact State.fld_setFld_self _ _ _ _

/-- The codewords of a row are counted (R113). -/
theorem State.counts_rowCounted {s : State} {n : Nat} (h0 : s.fld R.LN_CNT0 n < 2 ^ 48) (h1 : s.fld R.LN_CNT1 n < 2 ^ 48) (r : Nat) (line : List Nat) :
    (s.rowCounted n r line).fld R.LN_CNT0 n = (s.fld R.LN_CNT0 n + (decodeRow line).corr) % 2 ^ 48
      ∧ (s.rowCounted n r line).fld R.LN_CNT1 n = (s.fld R.LN_CNT1 n + (decodeRow line).unc) % 2 ^ 48 := by
  unfold State.rowCounted State.codewordsCounted
  rw [State.fld_rowGathered _ _ _ _ _ (by decide), State.fld_rowGathered _ _ _ _ _ (by decide)]
  have h1' : (s.addFld R.LN_CNT0 n (decodeRow line).corr).fld R.LN_CNT1 n = s.fld R.LN_CNT1 n := State.fld_addFld_ne _ _ _ _ (by decide)
  constructor
  · rw [State.fld_addFld_ne _ _ _ _ (by decide)]
    exact State.fld_addFld_self h0 _
  · rw [← h1'] at h1 ⊢
    exact State.fld_addFld_self h1 _

end Sys2Proof.Machine
end

section
/-! SUPPORT. Rows and the sill (R91 to R93, R118, R122). -/

namespace Sys2Proof.Machine

/-! ### A row received -/

theorem State.sill_takeTkw (s : State) (n r : Nat) : (s.takeTkw n r).sill = s.sill :=
  State.takeTkw_k (loose_part s .sill (by decide) (by decide) (by decide)) rfl n r

/-- A row as its words have been written, before its channels are taken. -/
def State.rowWritten (s : State) (n r : Nat) (line : List Nat) : State :=
  if 272 ≤ n then s.rowCounted n r line
  else (s.rowCounted n r line).writeSill n r (decodeRow line).bad (scrambleRow r (decodeRow line).words)

theorem State.receiveRow_eq_rowWritten (s : State) (n r : Nat) (line : List Nat) :
    s.receiveRow n r line = ((s.rowWritten n r line).takeTkw n r).takeChannels n (decodeRow line).bad (scrambleRow r (decodeRow line).words) := rfl

theorem State.lane_rowWritten (s : State) (n r : Nat) (line : List Nat) : (s.rowWritten n r line).lane n =
    { s.lane n with acc := (s.lane n).acc.addRow r (decodeRow line) (scrambleRow r (decodeRow line).words), row := r + 1 } := by
  unfold State.rowWritten
  split
  · exact State.lane_rowCounted s n r line
  · rw [State.lane_writeSill]
    exact State.lane_rowCounted s n r line

theorem State.fld_rowWritten (s : State) (n r : Nat) (line : List Nat) {f : Fld} (i : Nat)
    (h : regOk 0x200000000800000000000000000000000000000000000000000000000000000000000000000000000000000000000000000000000000000000000000000000000000000000000000000000000000000000000000000000004c00 f.id = false) :
    (s.rowWritten n r line).fld f i = (s.rowCounted n r line).fld f i := by
  unfold State.rowWritten
  split
  · rfl
  · exact State.fld_writeSill _ _ _ _ _ _ h

/-- The row's counts stand, whatever the row's channels bring. -/
theorem State.counts_receiveRow {s : State} {n : Nat} (h0 : s.fld R.LN_CNT0 n < 2 ^ 48) (h1 : s.fld R.LN_CNT1 n < 2 ^ 48) (r : Nat) (line : List Nat) :
    (s.receiveRow n r line).fld R.LN_CNT0 n = (s.fld R.LN_CNT0 n + (decodeRow line).corr) % 2 ^ 48
      ∧ (s.receiveRow n r line).fld R.LN_CNT1 n = (s.fld R.LN_CNT1 n + (decodeRow line).unc) % 2 ^ 48 := by
  rw [State.receiveRow_eq_rowWritten, State.fld_takeChannels _ _ _ _ _ (by decide), State.fld_takeChannels _ _ _ _ _ (by decide),
    State.fld_takeTkw _ _ _ _ (by decide), State.fld_takeTkw _ _ _ _ (by decide), State.fld_rowWritten _ _ _ _ _ (by decide),
    State.fld_rowWritten _ _ _ _ _ (by decide)]
  exact State.counts_rowCounted h0 h1 r line

/-- What a row leaves of the lane's place, where no message is in progress: the row it is on, and nothing else. -/
theorem State.receiveRow_idle {s : State} {n : Nat} (h : (s.lane n).fcRx = []) (r : Nat) (line : List Nat) :
    (s.receiveRow n r line).sill = (s.rowWritten n r line).sill
      ∧ ((s.receiveRow n r line).lane n).row = r + 1 ∧ ((s.receiveRow n r line).lane n).errFaw = (s.lane n).errFaw
      ∧ ((s.receiveRow n r line).lane n).phi = (s.lane n).phi := by
  have hlane := State.lane_rowWritten s n r line
  have htkw := State.sameRow_takeTkw (s.rowWritten n r line) n r
  have hidle : (((s.rowWritten n r line).takeTkw n r).lane n).fcRx = [] := by rw [htkw.fcRx, hlane]; exact h
  obtain ⟨hsill, ⟨b, hrow⟩, -⟩ := State.takeChannels_idle_spec hidle (decodeRow line).bad (scrambleRow r (decodeRow line).words)
  have hrow' := hrow.row.trans htkw.row
  have herr := hrow.errFaw.trans htkw.errFaw
  have hphi := hrow.phi.trans htkw.phi
  rw [hlane] at hrow' herr hphi
  dsimp only at hrow' herr hphi
  have htkwSill : ((s.rowWritten n r line).takeTkw n r).sill = (s.rowWritten n r line).sill := State.sill_takeTkw _ _ _
  rw [State.receiveRow_eq_rowWritten]
  exact ⟨hsill.trans htkwSill, hrow', herr, hphi⟩

theorem State.fld_receiveRow_idle {s : State} {n : Nat} (h : (s.lane n).fcRx = []) (r : Nat) (line : List Nat) {f : Fld} (i : Nat)
    (h0 : f.id ≠ R.LN_CNT0.id) (h1 : f.id ≠ R.LN_CNT1.id)
    (hgather : regOk 0x20000000080000000000000000000000000000000000000000000000000000000000000000000000000000000000000000000000000000000000000000000000007d000000080000000000000000000000000000000000002c00 f.id = false)
    (hwrite : regOk 0x200000000800000000000000000000000000000000000000000000000000000000000000000000000000000000000000000000000000000000000000000000000000000000000000000000000000000000000000000000004c00 f.id = false)
    (htkw : regOk 0x1e0000000c0000000000000000000000000000000000000000000000000000000000000000000000002600080000000000000000000000000000000100002d00 f.id = false)
    (hmch : regOk 0x1e400000000000000000000000000000000000000000000000000000000000000000000000000000000000000000000000000000001300000000080000000000000000000000002000000000002e00 f.id = false) :
    (s.receiveRow n r line).fld f i = s.fld f i := by
  have hlane := State.lane_rowWritten s n r line
  have hidle : (((s.rowWritten n r line).takeTkw n r).lane n).fcRx = [] := by
    rw [(State.sameRow_takeTkw (s.rowWritten n r line) n r).fcRx, hlane]
    exact h
  obtain ⟨-, -, hfld⟩ := State.takeChannels_idle_spec hidle (decodeRow line).bad (scrambleRow r (decodeRow line).words)
  rw [State.receiveRow_eq_rowWritten, hfld i hmch, State.fld_takeTkw _ _ _ _ htkw, State.fld_rowWritten _ _ _ _ _ hwrite,
    State.fld_rowCounted _ _ _ _ _ hgather h0 h1]

/-! ### A row's words in the sill (R93, R122) -/

theorem State.sillPage_setSillPage_self (s : State) (n pg : Nat) (p : SillPage) : (s.setSillPage n pg p).sillPage n pg = p := by
  unfold State.sillPage State.setSillPage
  simp only [Tab.get_put_self]

theorem State.sillPage_setSillPage_ne (s : State) {n pg q : Nat} (p : SillPage) (h : q ≠ pg) : (s.setSillPage n pg p).sillPage n q = s.sillPage n q := by
  unfold State.sillPage State.setSillPage
  simp only [Tab.get_put_self, Tab.get_put_ne _ _ _ h]

theorem State.sillPage_congr {s t : State} (h : t.sill = s.sill) (n pg : Nat) : t.sillPage n pg = s.sillPage n pg := by
  unfold State.sillPage
  rw [h]

theorem frameAdd_one_ne (pg : Nat) : frameAdd pg 1 ≠ pg := by
  unfold frameAdd
  omega

theorem State.words_addWords (s : State) (n pg : Nat) (ws : List (Nat × Nat)) :
    ((s.addWords n pg ws).sillPage n pg).words = ⟨(s.sillPage n pg).words.entries ++ ws⟩ := by
  have hself := s.sillPage_setSillPage_self n pg { s.sillPage n pg with words := ⟨(s.sillPage n pg).words.entries ++ ws⟩ }
  unfold State.addWords
  dsimp only
  split
  · rw [State.sillPage_setSillPage_ne _ _ (frameAdd_one_ne pg).symm, hself]
  · rw [hself]

theorem Tab.look_append {α : Type} (l l' : List (Nat × α)) (k : Nat) : Tab.look (l ++ l') k = (Tab.look l k).or (Tab.look l' k) := by
  induction l with
  | nil => rfl
  | cons e l ih =>
    obtain ⟨j, v⟩ := e
    simp only [List.cons_append, Tab.look]
    split
    · rfl
    · exact ih

/-- A table listed from a function of its place: what is listed for `a + k`, from `b` on. -/
theorem Tab.look_map_range' {α : Type} (f : Nat → α) (a b len k : Nat) :
    Tab.look ((List.range' b len).map (fun c => (a + c, f c))) k = if a + b ≤ k ∧ k < a + b + len then some (f (k - a)) else none := by
  induction len generalizing b with
  | zero => simp [Tab.look]
  | succ len ih =>
    rw [List.range'_succ, List.map_cons]
    unfold Tab.look
    by_cases hk : k = a + b
    · subst hk
      simp
    · rw [if_neg hk, ih]
      by_cases hin : a + (b + 1) ≤ k ∧ k < a + (b + 1) + len
      · rw [if_pos hin, if_pos (by omega)]
      · rw [if_neg hin, if_neg (by omega)]

theorem look_slotWordsOf (r : Nat) (bad : List Bool) (data : List Nat) (k : Nat) :
    Tab.look (slotWordsOf r bad data) k = if 1024 * r ≤ k ∧ k < 1024 * r + 1024 then
      some (if bad.getD (16 + (k - 1024 * r)) true then forcePf (data.getD (16 + (k - 1024 * r)) 0) else data.getD (16 + (k - 1024 * r)) 0) else none := by
  unfold slotWordsOf
  rw [List.range_eq_range']
  exact Tab.look_map_range' _ (1024 * r) 0 1024 k

/-- The words of a row in their page, which held none of them. -/
theorem State.words_writeSill {s : State} {n r pg : Nat} {bad : List Bool} {data : List Nat} (hpage : (s.lane n).page = some pg) :
    ((s.writeSill n r bad data).sillPage n pg).words =
      if s.substitutes n then (s.sillPage n pg).words else ⟨(s.sillPage n pg).words.entries ++ slotWordsOf r bad data⟩ := by
  unfold State.writeSill
  rw [hpage]
  dsimp only
  have hcount : ∀ (t : State) (ws : List Nat), (t.countIn n ws).sill = t.sill := fun t ws =>
    State.countIn_k (loose_part t .sill (by decide) (by decide) (by decide)) rfl n ws
  rw [State.sillPage_congr (hcount _ _)]
  split
  · rw [State.sillPage_setSillPage_self]
  · rw [State.words_addWords, State.sillPage_setSillPage_self]

end Sys2Proof.Machine
end

section
/-! Rows and frames received (O9; R91 to R93, R101, R113, R114, R118, R122 to R124). -/

namespace Sys2Proof.Machine

/-- A row's counts decide nothing of whether its words are written (R118). -/
theorem State.substitutes_rowCounted (s : State) (n r : Nat) (line : List Nat) : (s.rowCounted n r line).substitutes n = s.substitutes n := by
  have hca : (s.rowCounted n r line).caActive n = s.caActive n :=
    State.caActive_congr
      (fun d => State.flag_of_fld (by cases d <;> exact State.fld_rowCounted _ _ _ _ _ (by decide) (by decide) (by decide)))
      (State.fld_rowCounted _ _ _ _ _ (by decide) (by decide) (by decide))
  have hframe : (s.rowCounted n r line).frame = s.frame := State.fld_rowCounted _ _ _ _ _ (by decide) (by decide) (by decide)
  unfold State.substitutes
  rw [hca, hframe, State.lane_rowCounted]

/-- The words of a row of a lane of the sill, in the page of its frame. -/
theorem State.words_receiveRow {s : State} {n pg : Nat} (hn : n < 272) (hidle : (s.lane n).fcRx = []) (hpage : (s.lane n).page = some pg) (r : Nat)
    (line : List Nat) : ((s.receiveRow n r line).sillPage n pg).words =
      if s.substitutes n then (s.sillPage n pg).words
      else ⟨(s.sillPage n pg).words.entries ++ slotWordsOf r (decodeRow line).bad (scrambleRow r (decodeRow line).words)⟩ := by
  rw [State.sillPage_congr (State.receiveRow_idle hidle r line).1]
  unfold State.rowWritten
  rw [if_neg (by omega), State.words_writeSill (by rw [State.lane_rowCounted]; exact hpage), State.substitutes_rowCounted,
    State.sillPage_congr (State.sill_rowCounted s n r line)]

theorem State.sill_adapt (s : State) (n : Nat) : (s.adapt n).sill = s.sill :=
  State.adapt_k (loose_part s .sill (by decide) (by decide) (by decide)) rfl n

theorem State.sill_fecRow (s : State) (n : Nat) : (s.fecRow n).sill = s.sill :=
  State.fecRow_k (loose_part s .sill (by decide) (by decide) (by decide)) rfl n

/-- A row in SYNC is received, and no decoder is found faulty. -/
theorem exec_rxRow {s : State} {n : LaneIx} (hsync : s.inSync n = true) (hrow : (s.lane n).row < 128) (k : Nat) (ws : List SlotWord) :
    exec (.rxRow n k ws false) s = .next (((s.receiveRow n (s.lane n).row (s.lineWords n ws)).adapt n).fecRow n) := by
  exact congrArg Host.Outcome.next ((if_pos hsync).trans ((if_pos hrow).trans (if_neg Bool.false_ne_true)))

/-- What is listed in a page once row `r` of its frame, of which it held nothing, has been written into it. -/
theorem find_append_slotWords {t : Tab Nat} {r : Nat} {bad : List Bool} {data : List Nat} (hnew : ∀ c, c < 1024 → t.find (1024 * r + c) = none) (c : Nat) :
    (c < 1024 → Tab.find ⟨t.entries ++ slotWordsOf r bad data⟩ (1024 * r + c) =
        some (if bad.getD (16 + c) true then forcePf (data.getD (16 + c) 0) else data.getD (16 + c) 0))
      ∧ (c < 1024 * r ∨ 1024 * r + 1024 ≤ c → Tab.find ⟨t.entries ++ slotWordsOf r bad data⟩ c = t.find c) := by
  unfold Tab.find at hnew ⊢
  refine ⟨fun hc => ?_, fun hc => ?_⟩
  · rw [Tab.look_append, hnew c hc, look_slotWordsOf, if_pos (by omega), Nat.add_sub_cancel_left]
    rfl
  · rw [Tab.look_append, look_slotWordsOf, if_neg (by omega), Option.or_none]

/-! ### Frames (R112 to R114) -/

/-- The lane's place in its frame as the frame before has ended. -/
theorem State.sameRow_endFrame (s : State) (n : Nat) : (s.lane n).SameRow ((s.endFrame n).lane n) := by
  have hlid : ∀ (t : State) a, (t.lane n).SameRow ((t.endLid n a).lane n) := by
    intro t a
    unfold State.endLid
    split
    · exact .of_eq (State.lane_setFlag _ _ _ _ _)
    · dsimp only
      rw [State.lane_updLane_self, State.lane_setFlag, State.lane_setFld, State.lane_setFld]
      exact ⟨rfl, rfl, rfl, rfl, rfl⟩
  have hstw : ∀ (t : State) a, (t.lane n).SameRow ((t.endStw n a).lane n) := by
    intro t a
    unfold State.endStw
    split
    · exact .of_eq (State.lane_setFlag _ _ _ _ _)
    · dsimp only
      rw [State.lane_updLane_self, State.lane_setFlag, State.lane_setFld, State.lane_setFlag, State.lane_setFlag]
      exact ⟨rfl, rfl, rfl, rfl, rfl⟩
  have hvtw : ∀ (t : State) a, (t.endVtwBew n a).lane n = t.lane n := fun t a => State.lane_endVtwBew _ _ _ _
  have hcounts : ∀ (t : State) a, (t.lane n).SameRow ((t.endCounts n a).lane n) := by
    intro t a
    unfold State.endCounts
    dsimp only
    split
    · rw [State.lane_setFld, State.lane_updLane_self]
      exact ⟨rfl, rfl, rfl, rfl, rfl⟩
    · rw [State.lane_updLane_self]
      exact ⟨rfl, rfl, rfl, rfl, rfl⟩
  unfold State.endFrame
  dsimp only
  refine .trans ?_ (hcounts _ _)
  rw [hvtw]
  exact (hlid _ _).trans (hstw _ _)

end Sys2Proof.Machine
end

section
/-! FramesAreReceived (O9; R91 to R93, R101, R113, R114, R118, R122 to R124). -/

namespace Sys2Proof.Machine

/-- A lane's phase, its errored FAWs in a row and its message in progress are as in `l`. -/
structure LaneSt.SameFaw (l l' : LaneSt) : Prop where
  phi : l'.phi = l.phi
  errFaw : l'.errFaw = l.errFaw
  fcRx : l'.fcRx = l.fcRx

theorem LaneSt.SameFaw.refl (l : LaneSt) : l.SameFaw l := ⟨rfl, rfl, rfl⟩

theorem LaneSt.SameFaw.trans {a b c : LaneSt} (h : a.SameFaw b) (g : b.SameFaw c) : a.SameFaw c :=
  ⟨g.phi.trans h.phi, g.errFaw.trans h.errFaw, g.fcRx.trans h.fcRx⟩

theorem LaneSt.SameRow.sameFaw {l l' : LaneSt} (h : l.SameRow l') : l.SameFaw l' := ⟨h.phi, h.errFaw, h.fcRx⟩

theorem State.sameFaw_updLane (s : State) (n : Nat) {f : LaneSt → LaneSt} (h : ∀ l : LaneSt, l.SameFaw (f l)) : (s.lane n).SameFaw ((s.updLane n f).lane n) := by
  rw [State.lane_updLane_self]
  exact h _

/-! ### The phase of a frame (R44, R114, R115) -/

/-- A lane's phase as it shows, before it is judged (R44, R114). -/
def State.phaseShown (s : State) (n : Nat) (phi : Int) : State :=
  (((s.showPhase n phi).setFlag R.LN_PHASE_STAT_RX_VALID n true).setFlag R.LN_PHASE_STAT_RX_SYNC_OK n (phaseInside phi)).updLane n (fun l =>
    { l with phi := phi, lphIn := runIf (phaseInside phi) l.lphIn })

/-- A phase judged: LPH on a synchronous lane (R115), and the lane's own timing (R55, R56). -/
def State.phaseJudged (s : State) (n : Nat) (inside : Bool) : State :=
  let s4 := if s.flag R.LN_FRM_CFG_SYNC n && !inside then s.declare n .lph else s
  if inside then s4.followPhase n else s4.loopFallback n

theorem State.takePhase_eq (s : State) (n : Nat) (phi : Int) : s.takePhase n phi = (s.phaseShown n phi).phaseJudged n (phaseInside phi) := rfl

theorem State.fld_phaseJudged (s : State) (n : Nat) (inside : Bool) {f : Fld} (i : Nat) (h : regOk 0x9ffa0000000003040000000000020000000002c00 f.id = false) :
    (s.phaseJudged n inside).fld f i = s.fld f i := by
  have hK := loose_fld (i := i) (v := s.fld f i) h
  unfold State.phaseJudged
  dsimp only
  have h4 := ite_k (K := fun t => t.fld f i = s.fld f i) (c := (s.flag R.LN_FRM_CFG_SYNC n && !inside) = true) (State.declare_k hK rfl n .lph) rfl
  exact ite_k (K := fun t => t.fld f i = s.fld f i) (State.followPhase_k (hK.mono (by decide)) h4 n) (State.loopFallback_k (hK.mono (by decide)) h4 n)

theorem State.sameRow_followPhase (s : State) (n : Nat) : (s.lane n).SameRow ((s.followPhase n).lane n) := by
  unfold State.followPhase
  split
  · exact State.sameRow_updLane s n (fun _ => ⟨rfl, rfl, rfl, rfl, rfl⟩)
  · exact .refl _

theorem State.sameRow_phaseJudged (s : State) (n : Nat) (inside : Bool) : (s.lane n).SameRow ((s.phaseJudged n inside).lane n) := by
  have hdeclare : (s.lane n).SameRow ((if s.flag R.LN_FRM_CFG_SYNC n && !inside then s.declare n .lph else s).lane n) := by
    split
    · exact State.sameRow_declare s n _
    · exact .refl _
  cases inside
  · exact hdeclare.trans (State.sameRow_loopFallback _ n)
  · exact hdeclare.trans (State.sameRow_followPhase _ n)

/-- The lane as its phase has been taken. -/
theorem State.lane_takePhase (s : State) (n : Nat) (phi : Int) :
    ((s.takePhase n phi).lane n).phi = phi ∧ ((s.takePhase n phi).lane n).errFaw = (s.lane n).errFaw
      ∧ ((s.takePhase n phi).lane n).fcRx = (s.lane n).fcRx := by
  have h := (s.phaseShown n phi).sameRow_phaseJudged n (phaseInside phi)
  rw [State.takePhase_eq, h.phi, h.errFaw, h.fcRx]
  unfold State.phaseShown
  rw [State.lane_updLane_self, State.lane_setFlag, State.lane_setFlag, State.lane_showPhase]
  exact ⟨rfl, rfl, rfl⟩

/-- A lane's own phase in LN_RX_PHASE (R44, R83). -/
theorem State.fld_showPhase_self (s : State) (n : Nat) (phi : Int) :
    (s.flag R.LN_FIT_STATUS_SUB n = false → (s.showPhase n phi).fld R.LN_RX_PHASE_PHASE n = toWord 32 phi)
      ∧ (s.flag R.LN_FIT_STATUS_SUB n = true → isSpare n = false → (s.showPhase n phi).fld R.LN_RX_PHASE_PHASE n = s.fld R.LN_RX_PHASE_PHASE n) := by
  unfold State.showPhase
  dsimp only
  refine ⟨fun hsub => ?_, fun hsub hspare => ?_⟩
  · rw [hsub, if_neg Bool.false_ne_true]
    split
    · by_cases hi : n = s.carriedBy n
      · rw [← hi]
        exact State.fld_setIfld_self _ _ _ _
      · exact (State.fld_setFld_inst (s.setIfld R.LN_RX_PHASE_PHASE n phi) R.LN_RX_PHASE_PHASE _ hi).trans (State.fld_setIfld_self _ _ _ _)
    · exact State.fld_setIfld_self _ _ _ _
  · rw [hsub, if_pos rfl, hspare, Bool.false_and, if_neg Bool.false_ne_true]

/-- What shows of an accepted FAW (R44, R114). -/
theorem State.takePhase_spec (s : State) (n : Nat) (phi : Int) :
    (s.takePhase n phi).flag R.LN_PHASE_STAT_RX_VALID n = true
      ∧ (s.takePhase n phi).flag R.LN_PHASE_STAT_RX_SYNC_OK n = phaseInside phi
      ∧ (s.takePhase n phi).fld R.LN_RX_PHASE_PHASE n = (s.showPhase n phi).fld R.LN_RX_PHASE_PHASE n := by
  rw [State.takePhase_eq, State.flag_of_fld (State.fld_phaseJudged _ _ _ _ (by decide)), State.flag_of_fld (State.fld_phaseJudged _ _ _ _ (by decide)),
    State.fld_phaseJudged _ _ _ _ (by decide)]
  unfold State.phaseShown
  refine ⟨?_, ?_, ?_⟩
  · rw [State.flag_of_fld (State.fld_updLane _ _ _ _ _), State.flag_setFlag_ne _ _ _ _ (by decide)]
    exact State.flag_setFlag_self _ _ _ _ (by decide)
  · rw [State.flag_of_fld (State.fld_updLane _ _ _ _ _)]
    exact State.flag_setFlag_self _ _ _ _ (by decide)
  · rw [State.fld_updLane, State.fld_setFlag_ne _ _ _ _ (by decide), State.fld_setFlag_ne _ _ _ _ (by decide)]

/-! ### The page and row 0 of a frame (R98, R122) -/

theorem State.sameFaw_passWindow (s : State) (n pg : Nat) : (s.lane n).SameFaw ((s.passWindow n pg).lane n) := by
  have hclose : ∀ b : Bool, (s.lane n).SameFaw ((if b then s.closeWindow n else s).lane n) := by
    intro b
    cases b
    · exact .refl _
    · rw [if_pos rfl]
      exact State.sameFaw_updLane s n (fun _ => ⟨rfl, rfl, rfl⟩)
  unfold State.passWindow
  dsimp only
  split
  · exact .refl _
  · exact (hclose _).trans (State.sameFaw_updLane _ n (fun _ => ⟨rfl, rfl, rfl⟩))

theorem State.sameFaw_assignPage (s : State) (n pg : Nat) : (s.lane n).SameFaw ((s.assignPage n pg).lane n) := by
  refine (s.sameFaw_passWindow n pg).trans ?_
  unfold State.assignPage
  dsimp only
  split
  · split
    · exact State.sameFaw_updLane _ n (fun _ => ⟨rfl, rfl, rfl⟩)
    · rw [State.lane_slip]
      exact State.sameFaw_updLane _ n (fun _ => ⟨rfl, rfl, rfl⟩)
  · rw [State.lane_openPage]
    exact State.sameFaw_updLane _ n (fun _ => ⟨rfl, rfl, rfl⟩)

theorem State.placeFrame_of_good (s : State) (n pg : Nat) (phi : Int) : s.placeFrame n false pg phi = (s.takePhase n phi).assignPage n pg := rfl

theorem State.sameFaw_useFn (s : State) (n x : Nat) : (s.lane n).SameFaw ((s.useFn n x).lane n) := by
  unfold State.useFn
  rw [State.lane_setFld]
  exact State.sameFaw_updLane s n (fun _ => ⟨rfl, rfl, rfl⟩)

/-- A frame number that follows the one before, where there is one (R98). -/
def State.nextFn (s : State) (n : Nat) (p : Option Nat) : State :=
  match p with
  | some p => s.useFn n (frameAdd p 1)
  | none => s

theorem State.sameFaw_nextFn (s : State) (n : Nat) (p : Option Nat) : (s.lane n).SameFaw ((s.nextFn n p).lane n) := by
  cases p with
  | none => exact .refl _
  | some p => exact s.sameFaw_useFn n _

theorem State.takeFn_eq_none (s : State) (n : Nat) :
    s.takeFn n none = (s.updLane n (fun l => { l with fnGap := true })).nextFn n (s.lane n).fnPrev := rfl

/-- An accepted FN (R98): used at once, or a candidate. -/
theorem State.takeFn_eq_some (s : State) (n v : Nat) : ∃ cand jump : Bool,
    s.takeFn n (some v) = if cand then ((s.updLane n (fun l => { l with fnAcc := some v, fnCand := cand, fnGap := false })).nextFn n
        (s.lane n).fnPrev).latchIf jump R.LN_DEF_EVT_FN_JUMP n
      else (s.updLane n (fun l => { l with fnAcc := some v, fnCand := cand, fnGap := false })).useFn n v := ⟨_, _, rfl⟩

theorem State.sameFaw_takeFn (s : State) (n : Nat) (v : Option Nat) : (s.lane n).SameFaw ((s.takeFn n v).lane n) := by
  cases v with
  | none =>
    rw [State.takeFn_eq_none]
    exact (State.sameFaw_updLane s n (f := fun l => { l with fnGap := true }) (fun _ => ⟨rfl, rfl, rfl⟩)).trans (State.sameFaw_nextFn _ n _)
  | some v =>
    obtain ⟨cand, jump, he⟩ := s.takeFn_eq_some n v
    have hupd := State.sameFaw_updLane s n (f := fun l => { l with fnAcc := some v, fnCand := cand, fnGap := false }) (fun _ => ⟨rfl, rfl, rfl⟩)
    rw [he]
    split
    · rw [State.lane_latchIf]
      exact hupd.trans (State.sameFaw_nextFn _ n _)
    · exact hupd.trans (State.sameFaw_useFn _ n _)

theorem State.sameFaw_takeGo (s : State) (n : Nat) : (s.lane n).SameFaw ((s.takeGo n).lane n) := by
  unfold State.takeGo
  split
  · split
    · exact State.sameFaw_updLane s n (fun _ => ⟨rfl, rfl, rfl⟩)
    · exact .refl _
  · exact .refl _

/-- A frame's page with its partner frame number (R77, R98). -/
def State.fnStored (s : State) (n : Nat) : State :=
  match (s.lane n).page with
  | some p => s.setSillPage n p { s.sillPage n p with fn := s.fld R.LN_RX_FN_VALUE n }
  | none => s

theorem State.lane_fnStored (s : State) (n k : Nat) : (s.fnStored n).lane k = s.lane k := by
  unfold State.fnStored
  split <;> rfl

theorem State.fld_fnStored (s : State) (n : Nat) (f : Fld) (i : Nat) : (s.fnStored n).fld f i = s.fld f i := by
  unfold State.fnStored
  split <;> rfl

/-- Row 0 as its frame number has been taken, before its words are. -/
def State.row0Numbered (s : State) (n : Nat) (line : List Nat) : State :=
  ((s.takeFn n (FrameAcc.addRow {} 0 (decodeRow line) (scrambleRow 0 (decodeRow line).words)).fn).takeGo n).fnStored n

theorem State.receiveRow0_eq (s : State) (n : Nat) (line : List Nat) : s.receiveRow0 n line = (s.row0Numbered n line).receiveRow n 0 line := by
  unfold State.receiveRow0 State.row0Numbered State.fnStored
  dsimp only <;>
    (refine congrArg (fun t => State.receiveRow t n 0 line) ?_
     generalize (s.takeFn n (FrameAcc.addRow {} 0 (decodeRow line) (scrambleRow 0 (decodeRow line).words)).fn).takeGo n = u
     cases (u.lane n).page <;> rfl)

theorem State.sameFaw_row0Numbered (s : State) (n : Nat) (line : List Nat) : (s.lane n).SameFaw ((s.row0Numbered n line).lane n) := by
  unfold State.row0Numbered
  rw [State.lane_fnStored]
  exact (State.sameFaw_takeFn s n _).trans (State.sameFaw_takeGo _ n)

theorem State.fld_row0Numbered (s : State) (n : Nat) (line : List Nat) {f : Fld} (i : Nat) (h : regOk 0x1000080000000000000000000000000000000000002c00 f.id = false) :
    (s.row0Numbered n line).fld f i = s.fld f i := by
  unfold State.row0Numbered
  rw [State.fld_fnStored, State.fld_takeGo _ _ _ (regOk_false_of_sub (by decide) h), State.fld_takeFn _ _ _ _ h]

end Sys2Proof.Machine
end

section
/-! FramesAreReceived (O9; R91 to R93, R101, R113, R114, R118, R122 to R124). -/

namespace Sys2Proof.Machine

/-! ### A frame with a good FAW (R112 to R114) -/

/-- What shows of a lane's place in its receive frame. -/
def placeFlds : List Fld := [R.LN_FRM_STAT_ALIGN, R.LN_PHASE_STAT_RX_VALID, R.LN_PHASE_STAT_RX_SYNC_OK, R.LN_RX_PHASE_PHASE]

/-- A frame whose FAW is good, before its page is assigned. -/
def State.goodFaw (s : State) (n : Nat) : State := (s.endFrame n).updLane n (fun l => { l with errFaw := 0 })

/-- A frame whose FAW is good, with its row 0 received. -/
def State.frameTaken (s : State) (n pg : Nat) (phi : Int) (line : List Nat) : State :=
  ((((s.goodFaw n).takePhase n phi).assignPage n pg).receiveRow0 n line).fecRow n

/-- A decoder that proves faulty asks for a spare (R463). -/
def State.fecJudged (s : State) (n : Nat) (faulty : Bool) : State := if faulty then s.fecTrigger n else s

theorem State.lane_fecJudged (s : State) (n : Nat) (b : Bool) (k : Nat) : (s.fecJudged n b).lane k = s.lane k := by
  cases b
  · rfl
  · exact State.lane_fecTrigger _ _ _

theorem State.fld_fecJudged (s : State) (n : Nat) (b : Bool) {f : Fld} (i : Nat) (h : f ∈ placeFlds) : (s.fecJudged n b).fld f i = s.fld f i := by
  cases b
  · rfl
  · exact State.fld_fecTrigger _ _ _ ((by decide : ∀ f ∈ placeFlds, regOk 0x22000000000000000000000000000000000000000000000000000000000000000000000000000000000000000000000000000000000000000000000000000000000000000000000000000000000000000000000024000000000d00 f.id = false) f h)

theorem exec_rxFrame {s : State} {n : LaneIx} {ws : List SlotWord} (hsync : s.inSync n = true)
    (hfaw : fawErrors ((s.lineWords n ws).getD 0 0) ((s.lineWords n ws).getD 1 0) ≤ 4) (k : Nat) (b : Bool) :
    exec (.rxFrame n k ws b) s =
      .next ((s.frameTaken n (pageAt s.frame (k % 2654208)).1 (pageAt s.frame (k % 2654208)).2 (s.lineWords n ws)).fecJudged n b) := by
  have hbad : decide (4 < fawErrors ((s.lineWords n ws).getD 0 0) ((s.lineWords n ws).getD 1 0)) = false := decide_eq_false (Nat.not_lt.mpr hfaw)
  refine congrArg Host.Outcome.next ?_
  rw [hsync]
  dsimp only
  rw [hbad]
  rfl

/-- The lane as its FAW has been found good. -/
theorem State.lane_goodFaw (s : State) (n : Nat) : ((s.goodFaw n).lane n).errFaw = 0 ∧ ((s.goodFaw n).lane n).fcRx = (s.lane n).fcRx := by
  unfold State.goodFaw
  rw [State.lane_updLane_self]
  exact ⟨rfl, (State.sameRow_endFrame s n).fcRx⟩

theorem State.fld_goodFaw (s : State) (n : Nat) {f : Fld} (i : Nat) (h : regOk 0x1fc97c000000000010000000000000000000000000002000 f.id = false) :
    (s.goodFaw n).fld f i = s.fld f i := State.fld_endFrame _ _ _ h

/-- The lane as a frame has been taken, where no message was in progress. -/
theorem State.lane_frameTaken {s : State} {n : Nat} (hidle : (s.lane n).fcRx = []) (pg : Nat) (phi : Int) (line : List Nat) :
    ((s.frameTaken n pg phi line).lane n).row = 1 ∧ ((s.frameTaken n pg phi line).lane n).errFaw = 0
      ∧ ((s.frameTaken n pg phi line).lane n).phi = phi := by
  obtain ⟨herr, hfc⟩ := s.lane_goodFaw n
  obtain ⟨hphi, herr', hfc'⟩ := (s.goodFaw n).lane_takePhase n phi
  have hfaw := (((s.goodFaw n).takePhase n phi).sameFaw_assignPage n pg).trans
    (State.sameFaw_row0Numbered (((s.goodFaw n).takePhase n phi).assignPage n pg) n line)
  obtain ⟨-, hrow, herr2, hphi2⟩ := State.receiveRow_idle (hfaw.fcRx.trans (hfc'.trans (hfc.trans hidle))) 0 line
  unfold State.frameTaken
  rw [State.lane_fecRow, State.receiveRow0_eq]
  exact ⟨hrow, herr2.trans (hfaw.errFaw.trans (herr'.trans herr)), hphi2.trans (hfaw.phi.trans hphi)⟩

theorem State.fld_frameTaken {s : State} {n : Nat} (hidle : (s.lane n).fcRx = []) (pg : Nat) (phi : Int) (line : List Nat) {f : Fld} (hf : f ∈ placeFlds)
    (i : Nat) : (s.frameTaken n pg phi line).fld f i = ((s.goodFaw n).takePhase n phi).fld f i := by
  obtain ⟨-, hfc⟩ := s.lane_goodFaw n
  obtain ⟨-, -, hfc'⟩ := (s.goodFaw n).lane_takePhase n phi
  have hfaw := (((s.goodFaw n).takePhase n phi).sameFaw_assignPage n pg).trans
    (State.sameFaw_row0Numbered (((s.goodFaw n).takePhase n phi).assignPage n pg) n line)
  unfold State.frameTaken
  rw [State.fld_fecRow _ _ _ ((by decide : ∀ f ∈ placeFlds, regOk 0x20000000000000 f.id = false) f hf), State.receiveRow0_eq,
    State.fld_receiveRow_idle (hfaw.fcRx.trans (hfc'.trans (hfc.trans hidle))) 0 line i
      ((by decide : ∀ f ∈ placeFlds, f.id ≠ R.LN_CNT0.id) f hf) ((by decide : ∀ f ∈ placeFlds, f.id ≠ R.LN_CNT1.id) f hf)
      ((by decide : ∀ f ∈ placeFlds, regOk _ f.id = false) f hf) ((by decide : ∀ f ∈ placeFlds, regOk _ f.id = false) f hf)
      ((by decide : ∀ f ∈ placeFlds, regOk _ f.id = false) f hf) ((by decide : ∀ f ∈ placeFlds, regOk _ f.id = false) f hf),
    State.fld_row0Numbered _ _ _ _ ((by decide : ∀ f ∈ placeFlds, regOk 0x1000080000000000000000000000000000000000002c00 f.id = false) f hf),
    State.fld_assignPage _ _ _ _ ((by decide : ∀ f ∈ placeFlds, regOk 0x2000000080000000000000000000000000000000000006c00 f.id = false) f hf)]

/-! ### A fourth errored FAW (R112, R115) -/

theorem exec_rxFrame_loses {s : State} {n : LaneIx} {ws : List SlotWord} (hsync : s.inSync n = true)
    (hfaw : 4 < fawErrors ((s.lineWords n ws).getD 0 0) ((s.lineWords n ws).getD 1 0)) (herr : (s.lane n).errFaw = 3) (k : Nat) (b : Bool) :
    exec (.rxFrame n k ws b) s = .next (((s.endFrame n).judgeFaw n true).loseSync n) := by
  have hbad : decide (4 < fawErrors ((s.lineWords n ws).getD 0 0) ((s.lineWords n ws).getD 1 0)) = true := decide_eq_true hfaw
  have hfour : (((s.endFrame n).judgeFaw n true).lane n).errFaw = 4 := by
    unfold State.judgeFaw
    rw [if_pos rfl, State.lane_updLane_self, State.addFld_lane, (State.sameRow_endFrame s n).errFaw, herr]
  refine congrArg Host.Outcome.next ((if_neg (by rw [hsync]; decide)).trans ?_)
  dsimp only
  rw [hbad]
  exact if_pos (by rw [hfour]; decide)

theorem State.loseSync_spec (s : State) (n : Nat) :
    (s.loseSync n).fld R.LN_FRM_STAT_ALIGN n = alignHunt ∧ (s.loseSync n).declared n .oof = true
      ∧ (s.loseSync n).flag R.LN_PHASE_STAT_RX_VALID n = false := by
  unfold State.loseSync
  refine ⟨?_, ?_, ?_⟩
  · rw [State.fld_declareOof _ _ _ (by decide), State.fld_updLane, State.align_dropAlign]
  · unfold State.declareOof
    generalize ((s.dropAlign n).updLane n (fun l => { l.noFrame with hunting := true })).updLane n _ = u
    cases h : u.declared n .oof with
    | true =>
      unfold State.declare
      rw [if_pos h]
      exact h
    | false => exact State.declared_declare_self h
  · rw [State.flag_of_fld (State.fld_declareOof _ _ _ (by decide)), State.flag_of_fld (State.fld_updLane _ _ _ _ _)]
    unfold State.dropAlign
    rw [State.flag_setFlag_ne _ _ _ _ (by decide), State.flag_setFlag_ne _ _ _ _ (by decide)]
    exact State.flag_setFlag_self _ _ _ _ (by decide)

/-! ### A page that no frame was assigned to (R122 to R124) -/

/-- A page with no frame assigned, filled (R122, R123). -/
def State.pageFilled (s : State) (n pg : Nat) : State :=
  if (s.lane n).sync then s.openPage n pg
  else s.setSillPage n pg { s.sillPage n ((pg + 2 ^ 32 - 1) % 2 ^ 32) with filled := true, rep := true }

theorem exec_pageWindowClose {s : State} {n : LaneIx} (hfilled : (s.sillPage n s.frame).filled = false) (hassign : (s.lane n).assigning = true)
    (hsync : s.inSync n = true) (hca : s.caActive n = false) : exec (.pageWindowClose n) s = .next ((s.pageFilled n s.frame).slip n) := by
  refine congrArg Host.Outcome.next ((if_neg (by rw [hfilled]; decide)).trans ((if_pos (by simp [hassign, hsync, hca])).trans ?_))
  unfold State.pageFilled
  split <;> rfl

theorem State.pageFilled_spec (s : State) (n pg : Nat) : ((s.pageFilled n pg).sillPage n pg).filled = true ∧ (s.pageFilled n pg).lane n = s.lane n
    ∧ (s.pageFilled n pg).fld R.LN_CNT4 n = s.fld R.LN_CNT4 n := by
  unfold State.pageFilled
  split
  · refine ⟨?_, rfl, rfl⟩
    unfold State.openPage State.sillPage
    simp only [Tab.get_put_self]
  · exact ⟨by rw [State.sillPage_setSillPage_self], rfl, rfl⟩

theorem State.slip_spec (s : State) (n : Nat) :
    (s.fld R.LN_CNT4 n < 2 ^ 48 → (s.slip n).fld R.LN_CNT4 n = (s.fld R.LN_CNT4 n + 1) % 2 ^ 48)
      ∧ (if (s.lane n).sync then (s.slip n).latched R.LN_DEF_EVT_SYNC_SLIP n = true else (s.slip n).latched R.LN_DEF_EVT_SLIP n = true) := by
  unfold State.slip
  dsimp only
  constructor
  · intro h
    rw [State.fld_latch_ne _ _ _ _ (by split <;> decide)]
    exact State.fld_addFld_self h 1
  · split
    · exact State.latched_latch _ _ _ (by decide)
    · exact State.latched_latch _ _ _ (by decide)

theorem State.sill_slip (s : State) (n : Nat) : (s.slip n).sill = s.sill := State.slip_k (loose_part s .sill (by decide) (by decide) (by decide)) rfl n

end Sys2Proof.Machine
end

section
/-! FramesAreReceived (O9; R91 to R93, R101, R113, R114, R118, R122 to R124). -/

namespace Sys2Proof.Machine

/-- Settles O9. -/
theorem framesAreReceived : Obligations.FramesAreReceived := by
  unfold Obligations.FramesAreReceived
  intro n s
  refine ⟨fun k ws hsync hrow h0 h1 => ?_, fun k ws r pg hsync hr hlt hn hidle hpage hnew => ?_, fun k ws b hsync hidle hfaw => ?_,
    fun k ws b hsync hfaw herr => ?_, fun hrun hca hnew => ?_, fun hfilled hassign hsync hca => ?_⟩
  · refine ⟨_, exec_rxRow hsync hrow k ws, fun hidle => ?_, ?_⟩
    · rw [State.lane_fecRow, (State.sameRow_adapt _ _).row]
      exact (State.receiveRow_idle hidle _ _).2.1
    · rw [State.fld_fecRow _ _ _ (by decide), State.fld_fecRow _ _ _ (by decide), State.fld_adapt _ _ _ (by decide), State.fld_adapt _ _ _ (by decide)]
      exact State.counts_receiveRow h0 h1 _ _
  · subst hr
    have hwords : (((((s.receiveRow n (s.lane n).row (s.lineWords n ws)).adapt n).fecRow n)).sillPage n pg).words = _ :=
      (congrArg SillPage.words (State.sillPage_congr ((State.sill_fecRow _ _).trans (State.sill_adapt _ _)) n pg)).trans
        (State.words_receiveRow hn hidle hpage (s.lane n).row (s.lineWords n ws))
    refine ⟨_, exec_rxRow hsync hlt k ws, fun hsub => ?_, fun hsub => ?_⟩
    · rw [hwords, if_pos hsub]
    · rw [hwords, if_neg (by rw [hsub]; decide)]
      exact find_append_slotWords hnew
  · have hsub : (s.goodFaw n).flag R.LN_FIT_STATUS_SUB n = s.flag R.LN_FIT_STATUS_SUB n := State.flag_of_fld (State.fld_goodFaw _ _ _ (by decide))
    have hold : (s.goodFaw n).fld R.LN_RX_PHASE_PHASE n = s.fld R.LN_RX_PHASE_PHASE n := State.fld_goodFaw _ _ _ (by decide)
    have halign : (s.goodFaw n).fld R.LN_FRM_STAT_ALIGN n = s.fld R.LN_FRM_STAT_ALIGN n := State.fld_goodFaw _ _ _ (by decide)
    refine ⟨_, exec_rxFrame hsync hfaw k b, ?_⟩
    generalize (pageAt s.frame (k % 2654208)).1 = pg
    generalize (pageAt s.frame (k % 2654208)).2 = phi
    obtain ⟨hrow, herr, hphi⟩ := State.lane_frameTaken hidle pg phi (s.lineWords n ws)
    obtain ⟨hvalid, hok, hphase⟩ := (s.goodFaw n).takePhase_spec n phi
    obtain ⟨hown, hsubbed⟩ := (s.goodFaw n).fld_showPhase_self n phi
    have hfld : ∀ f ∈ placeFlds, ((s.frameTaken n pg phi (s.lineWords n ws)).fecJudged n b).fld f n = ((s.goodFaw n).takePhase n phi).fld f n :=
      fun f hf => (State.fld_fecJudged _ _ _ _ hf).trans (State.fld_frameTaken hidle pg phi _ hf n)
    rw [State.lane_fecJudged, State.flag_of_fld (hfld R.LN_PHASE_STAT_RX_VALID (by decide)),
      State.flag_of_fld (hfld R.LN_PHASE_STAT_RX_SYNC_OK (by decide)), hfld R.LN_RX_PHASE_PHASE (by decide), hphase]
    refine ⟨?_, hrow, herr, hvalid, hphi, fun h => hown (hsub.trans h), fun h h' => (hsubbed (hsub.trans h) h').trans hold, hok⟩
    unfold State.inSync at hsync ⊢
    rw [hfld R.LN_FRM_STAT_ALIGN (by decide), State.fld_takePhase _ _ _ _ (by decide), halign, hsync]
  · exact ⟨_, exec_rxFrame_loses hsync hfaw herr k b, State.loseSync_spec _ _⟩
  · refine ⟨_, congrArg Host.Outcome.next (if_pos (by simp [hrun, hca, hnew])), ?_, State.latched_latch _ _ _ (by decide)⟩
    rw [State.fld_latch_ne _ _ _ _ (by decide)]
    exact State.fld_setFld_self _ _ _ _
  · obtain ⟨hfill, hlane, hcnt⟩ := s.pageFilled_spec n s.frame
    have hslip := (s.pageFilled n s.frame).slip_spec n
    rw [hlane, hcnt] at hslip
    refine ⟨_, exec_pageWindowClose hfilled hassign hsync hca, ?_, hslip⟩
    rw [State.sillPage_congr (State.sill_slip _ _)]
    exact hfill

end Sys2Proof.Machine
end

section
/-! SUPPORT. What the restart of a lane leaves of the others (R65, R82 to R84, R514). -/

namespace Sys2Proof.Machine

/-! ### Operations on one lane leave the hidden state of the others -/

theorem State.lane_refreshCa_ne (s : State) {n k : Nat} (h : k ≠ n) : (s.refreshCa n).lane k = s.lane k :=
  State.lane_updLane_ne (s.setFlag R.LN_FRM_STAT_CA n (s.caActive n)) _ h

theorem State.lane_loopFallback_ne (s : State) {n k : Nat} (h : k ≠ n) : (s.loopFallback n).lane k = s.lane k := by
  unfold State.loopFallback
  split
  · rw [State.lane_latch, State.lane_updLane_ne _ _ h, State.lane_setFlag, State.lane_setFlag]
  · rfl

theorem State.lane_declare_ne (s : State) {n k : Nat} (h : k ≠ n) (d : Defect) : (s.declare n d).lane k = s.lane k := by
  cases hd : s.declared n d with
  | true =>
    unfold State.declare
    rw [if_pos hd]
  | false =>
    rw [State.declare_of_not_declared hd, State.lane_refreshCa_ne _ h, State.lane_countsLsd]
    unfold State.endsLoop
    split
    · rw [State.lane_updLane_ne _ _ h, State.lane_loopFallback_ne _ h, State.lane_latchIf, State.lane_setFlag]
    · rw [State.lane_latchIf, State.lane_setFlag]

theorem State.lane_declareOof_ne (s : State) {n k : Nat} (h : k ≠ n) : (s.declareOof n).lane k = s.lane k := by
  unfold State.declareOof
  rw [State.lane_declare_ne _ h, State.lane_updLane_ne _ _ h]

theorem State.lane_oofAfter_ne (s : State) {n k : Nat} (h : k ≠ n) (was : Bool) : (s.oofAfter n was).lane k = s.lane k := by
  unfold State.oofAfter
  split
  · exact State.lane_declareOof_ne s h
  · rfl

theorem State.lane_enterFit_ne (s : State) {n k : Nat} (h : k ≠ n) (st : Nat) : (s.enterFit n st).lane k = s.lane k := by
  unfold State.enterFit State.refreshTraining
  rw [State.lane_updLane_ne _ _ h, State.lane_updLane_ne _ _ h, State.lane_setFld, State.lane_countService]

theorem State.lane_clearDefects (s : State) (n k : Nat) : (s.clearDefects n).lane k = s.lane k := rfl

theorem State.wipeDefects_eq (s : State) (n : Nat) : s.wipeDefects n =
    if s.inSync n then ((((s.clearDefects n).endsLsd n (s.hardDown n)).updLane n (fun l => { l.clearCounts with oofSince := none })).refreshCa n).rePrime n
    else (((((s.clearDefects n).endsLsd n (s.hardDown n)).updLane n (fun l => { l.clearCounts with oofSince := none })).refreshCa n).rePrime
      n).declareOof n := rfl

theorem State.lane_wipeDefects_ne (s : State) {n k : Nat} (h : k ≠ n) : (s.wipeDefects n).lane k = s.lane k := by
  rw [State.wipeDefects_eq]
  have hwiped : (((((s.clearDefects n).endsLsd n (s.hardDown n)).updLane n (fun l => { l.clearCounts with oofSince := none })).refreshCa n).rePrime
      n).lane k = s.lane k := by
    rw [State.lane_rePrime, State.lane_refreshCa_ne _ h, State.lane_updLane_ne _ _ h, State.lane_endsLsd, State.lane_clearDefects]
  split
  · exact hwiped
  · rw [State.lane_declareOof_ne _ h, hwiped]

theorem State.lane_dropAlign_ne (s : State) {n k : Nat} (h : k ≠ n) : (s.dropAlign n).lane k = s.lane k := by
  unfold State.dropAlign State.dropPacket
  simp only [State.lane_setFlag, State.lane_setFld]
  split
  · rw [State.lane_updLane_ne _ _ h, State.lane_badPacket]
  · rfl

theorem State.lane_freeSpare_ne (s : State) {n k : Nat} (h : k ≠ n) : (s.freeSpare n).lane k = s.lane k := by
  have hown : ∀ b : Bool, (if b then s.carryOwn (16 * (n - 256) + s.fld R.LN_SPARE_STAT_CARRIED n) else s).lane k = s.lane k := by
    intro b
    split
    · exact State.lane_carryOwn _ _ _
    · rfl
  have hspares : ∀ (t : State) (b : Bool), (if b then t.setFld R.TLY_SPARES_LANES 0 (min 16 (t.fld R.TLY_SPARES_LANES + 1)) else t).lane k = t.lane k := by
    intro t b
    split
    · exact State.lane_setFld _ _ _ _ _
    · rfl
  unfold State.freeSpare
  dsimp only
  rw [State.lane_updLane_ne _ _ h, State.lane_setFlag, State.lane_setFlag, State.lane_setFld, State.lane_setFlag, hspares, hown]

theorem State.lane_spareLeaves_ne (s : State) {n k : Nat} (h : k ≠ n) : (s.spareLeaves n).lane k = s.lane k := by
  unfold State.spareLeaves
  split
  · rw [State.lane_latch, State.lane_freeSpare_ne _ h]
  · rfl

/-! ### What a lane is about to send -/

/-- The fitting channel's words that wait, and a restart that does, are as in `l`. -/
structure LaneSt.SameSend (l l' : LaneSt) : Prop where
  fcTx : l'.fcTx = l.fcTx
  restartPend : l'.restartPend = l.restartPend

theorem LaneSt.SameSend.refl (l : LaneSt) : l.SameSend l := ⟨rfl, rfl⟩

theorem LaneSt.SameSend.of_eq {l l' : LaneSt} (h : l' = l) : l.SameSend l' := h ▸ .refl l

theorem LaneSt.SameSend.trans {a b c : LaneSt} (h : a.SameSend b) (g : b.SameSend c) : a.SameSend c :=
  ⟨g.fcTx.trans h.fcTx, g.restartPend.trans h.restartPend⟩

theorem State.sameSend_updLane (s : State) (n k : Nat) {f : LaneSt → LaneSt} (h : ∀ l : LaneSt, l.SameSend (f l)) : (s.lane k).SameSend ((s.updLane n f).lane k) := by
  by_cases hk : k = n
  · subst hk
    rw [State.lane_updLane_self]
    exact h _
  · rw [State.lane_updLane_ne _ _ hk]
    exact .refl _

theorem State.sameSend_backLeaves (s : State) (x k : Nat) : (s.lane k).SameSend ((s.backLeaves x).lane k) := by
  unfold State.backLeaves
  dsimp only
  split
  · rw [State.lane_latch]
    exact State.sameSend_updLane s _ k (fun _ => ⟨rfl, rfl⟩)
  · exact .refl _

theorem State.sameSend_quitService_ne (s : State) {n k : Nat} (h : k ≠ n) : (s.lane k).SameSend ((s.quitService n).lane k) := by
  unfold State.quitService
  split
  · refine .trans (.of_eq ?_) (State.sameSend_backLeaves _ n k)
    rw [State.lane_spareLeaves_ne _ h, State.lane_loopFallback_ne _ h, State.lane_latch]
  · exact .refl _

/-- A lane's restart leaves what the others are about to send (R82 to R84, R514). -/
theorem State.sameSend_restartLane_ne (s : State) {n k : Nat} (h : k ≠ n) : (s.lane k).SameSend ((s.restartLane n).lane k) := by
  refine (State.sameSend_quitService_ne s h).trans (.of_eq ?_)
  unfold State.restartLane
  split
  · rw [State.startAttempt_eq, State.lane_wipeDefects_ne _ h, State.lane_enterFit_ne _ h]
    unfold State.freshLane State.askTaps
    rw [State.lane_updLane_ne _ _ h, State.lane_setFld, State.lane_setFlag, State.lane_setFlag, State.lane_updLane_ne _ _ h, State.lane_dropAlign_ne _ h]
  · unfold State.disableLane
    rw [State.lane_refreshCa_ne _ h, State.lane_oofAfter_ne _ h, State.lane_enterFit_ne _ h, State.lane_updLane_ne _ _ h, State.lane_dropAlign_ne _ h]

theorem State.fit_enterFit_ne (s : State) {n k : Nat} (h : k ≠ n) (st : Nat) : (s.enterFit n st).fit k = s.fit k := by
  unfold State.enterFit State.fit
  rw [State.fld_refreshTraining _ _ _ (by decide), State.fld_updLane, State.fld_setFld_inst _ _ _ h, State.fld_countService _ _ _ _ (by decide)]

theorem State.fit_restartLane_ne (s : State) {n k : Nat} (h : k ≠ n) : (s.restartLane n).fit k = s.fit k := by
  have hquit : ((s.quitService n).dropAlign n).fit k = s.fit k :=
    (State.fld_dropAlign _ _ _ (by decide)).trans (State.fld_quitService _ _ _ (by decide))
  unfold State.restartLane
  split
  · have hfresh : (s.freshLane n).fit k = s.fit k := by
      rw [← hquit]
      unfold State.freshLane State.fit
      rw [State.fld_updLane, State.fld_setFld_ne _ _ _ _ (by decide), State.fld_setFlag_ne _ _ _ _ (by decide),
        State.fld_setFlag_ne _ _ _ _ (by decide), State.fld_askTaps _ _ _ _ (by decide)]
    rw [State.startAttempt_eq, ← hfresh, ← State.fit_enterFit_ne (s.freshLane n) h fitSignal]
    exact State.fld_wipeDefects _ _ _ (by decide)
  · have hfresh : (((s.quitService n).dropAlign n).updLane n LaneSt.freshAttempt).fit k = s.fit k := (State.fld_updLane _ _ _ _ _).trans hquit
    unfold State.disableLane
    rw [← hfresh]
    generalize ((s.quitService n).dropAlign n).updLane n LaneSt.freshAttempt = v
    rw [← State.fit_enterFit_ne v h fitDisabled]
    unfold State.fit
    rw [State.fld_refreshCa _ _ _ (by decide), State.fld_oofAfter _ _ _ _ (by decide)]

/-- A restart takes the lane to SIGNAL, or to DISABLED where ENABLE has been cleared (R65, R514). -/
theorem State.fit_restartLane (s : State) (n : Nat) :
    (s.restartLane n).fit n = if s.flag R.LN_FIT_CTRL_ENABLE n then fitSignal else fitDisabled := by
  unfold State.restartLane
  split
  · exact (State.attemptStarted_startAttempt s n).1
  · exact State.fit_disableLane s n

/-! ### Restarts before a transmit frame (R514) -/

theorem State.takeRestart_of_not {s : State} {n : Nat} (h : (s.lane n).restartPend ≠ 1) : s.takeRestart n = s := if_neg h

theorem State.sameSend_takeRestart_ne (s : State) {n k : Nat} (h : k ≠ n) : (s.lane k).SameSend ((s.takeRestart n).lane k) := by
  unfold State.takeRestart
  split
  · exact State.sameSend_restartLane_ne s h
  · exact .refl _

theorem State.fit_takeRestart_ne (s : State) {n k : Nat} (h : k ≠ n) : (s.takeRestart n).fit k = s.fit k := by
  unfold State.takeRestart
  split
  · exact State.fit_restartLane_ne s h
  · rfl

/-- Lane `n`, that no restart waits for, before its transmit frame: whatever becomes of lane `x`, whose frames it sends, it goes on. -/
theorem State.takeRestarts_of_not {s : State} {n : Nat} (h : (s.lane n).restartPend ≠ 1) (x : Nat) :
    (s.lane n).SameSend (((s.takeRestart x).takeRestart n).lane n) ∧ ((s.takeRestart x).takeRestart n).fit n = s.fit n := by
  by_cases hx : n = x
  · subst hx
    rw [State.takeRestart_of_not h, State.takeRestart_of_not h]
    exact ⟨.refl _, rfl⟩
  · have hsame := State.sameSend_takeRestart_ne s hx
    rw [State.takeRestart_of_not (by rw [hsame.restartPend]; exact h)]
    exact ⟨hsame, State.fit_takeRestart_ne s hx⟩

/-- Lane `n`, that a restart waits for, before its transmit frame. -/
theorem State.takeRestarts_of_pend {s : State} {n : Nat} (h : (s.lane n).restartPend = 1) (x : Nat) :
    ((s.takeRestart x).takeRestart n).fit n = if s.flag R.LN_FIT_CTRL_ENABLE n then fitSignal else fitDisabled := by
  have henable : (s.takeRestart x).flag R.LN_FIT_CTRL_ENABLE n = s.flag R.LN_FIT_CTRL_ENABLE n := State.flag_of_fld (State.fld_takeRestart _ _ _ (by decide))
  by_cases hx : n = x
  · subst hx
    have hfirst : (s.takeRestart n).fit n = if s.flag R.LN_FIT_CTRL_ENABLE n then fitSignal else fitDisabled := by
      unfold State.takeRestart
      rw [if_pos h]
      exact s.fit_restartLane n
    by_cases hagain : ((s.takeRestart n).lane n).restartPend = 1
    · rw [← henable]
      unfold State.takeRestart at hagain ⊢
      rw [if_pos hagain]
      exact State.fit_restartLane _ n
    · rw [State.takeRestart_of_not hagain, hfirst]
  · rw [← henable]
    have hpend : ((s.takeRestart x).lane n).restartPend = 1 := (State.sameSend_takeRestart_ne s hx).restartPend.trans h
    generalize s.takeRestart x = u at hpend
    unfold State.takeRestart
    rw [if_pos hpend]
    exact State.fit_restartLane u n

end Sys2Proof.Machine
end

section
/-! SUPPORT. The plate's reads of a port in a transmit frame (R184, R229 to R233, R237, R238). -/

namespace Sys2Proof.Machine

/-! ### Events stay latched -/

/-- A latched event stays latched as another of the same or of another register is. -/
theorem State.latched_latchAs_of_latched {s : State} {e : Ev} {i : Nat} (h : s.latched e i = true) (hbit : e.bit < e.reg.width) {e' : Ev}
    (hreg : e'.reg = e.reg ∨ e.reg.id ≠ e'.reg.id) (i' ri data : Nat) : (s.latchAs e' i' ri data).latched e i = true := by
  rcases hreg with hreg | hreg
  · unfold State.latchAs
    split
    · exact h
    · show (State.fld (s.setFld e'.reg i' (orBit (s.fld e'.reg i') e'.bit)) e.reg i).testBit e.bit = true
      rw [hreg, State.fld_setFld]
      split
      · next hi =>
        obtain ⟨-, rfl⟩ := hi
        rw [Nat.testBit_mod_two_pow, testBit_orBit_of_testBit h]
        simp [hbit]
      · exact h
  · exact State.latched_of_fld (State.fld_latchAs_ne _ _ _ _ _ _ hreg) h

/-! ### What the plate reads from (R183, R229, R237, R238) -/

/-- What the plate's reads of a port take from the state, but for the states of the sides, is in `t` as in `s`. -/
structure State.SamePlate (s t : State) : Prop where
  plate : t.plate = s.plate
  links : t.links = s.links
  pauses : t.pauses = s.pauses
  seed : t.fld R.GRN_SEED_SEED = s.fld R.GRN_SEED_SEED
  mode : ∀ g, t.groupMode g = s.groupMode g
  home : ∀ g, t.groupHomeSide g = s.groupHomeSide g
  group : ∀ g, t.groupState g = s.groupState g

theorem State.SamePlate.refl (s : State) : s.SamePlate s := ⟨rfl, rfl, rfl, rfl, fun _ => rfl, fun _ => rfl, fun _ => rfl⟩

theorem State.SamePlate.trans {a b c : State} (h : a.SamePlate b) (g : b.SamePlate c) : a.SamePlate c :=
  ⟨g.plate.trans h.plate, g.links.trans h.links, g.pauses.trans h.pauses, g.seed.trans h.seed, fun x => (g.mode x).trans (h.mode x),
    fun x => (g.home x).trans (h.home x), fun x => (g.group x).trans (h.group x)⟩

theorem State.readCopy_congr {s t : State} (h : s.SamePlate t) (sc : Schedule) (o f src addr : Nat) :
    t.readCopy sc o f src addr = s.readCopy sc o f src addr := by
  unfold State.readCopy State.plateAis State.grainOf
  rw [h.plate, h.links, h.pauses, h.seed]

theorem State.pref_congr {s t : State} (h : s.SamePlate t) (g : Nat) : t.pref g = s.pref g := by
  unfold State.pref
  rw [h.mode, h.home, h.group]

theorem State.lockedOut_congr {s t : State} (h : s.SamePlate t) (g side : Nat) : t.lockedOut g side = s.lockedOut g side := by
  unfold State.lockedOut
  rw [h.mode]

theorem State.copyOf_congr {s t : State} (h : s.SamePlate t) (sc : Schedule) {o f k g side src addr : Nat}
    (hside : t.sides.live.find (k + side) = s.sides.live.find (k + side)) :
    t.copyOf sc o f k g side src addr = s.copyOf sc o f k g side src addr := by
  unfold State.copyOf State.sideClean
  rw [State.readCopy_congr h, State.lockedOut_congr h, hside, h.links]

theorem State.samePlate_readSlot (s : State) (sc : Schedule) (o f slot code : Nat) : s.SamePlate (s.readSlot sc o f slot code).1 where
  plate := State.readSlot_k (loose_part s .plate (by decide) (by decide) (by decide)) rfl sc o f slot code
  links := State.readSlot_k (loose_part s .links (by decide) (by decide) (by decide)) rfl sc o f slot code
  pauses := State.readSlot_k (loose_part s .pauses (by decide) (by decide) (by decide)) rfl sc o f slot code
  seed := State.readSlot_k (K := fun t => t.fld R.GRN_SEED_SEED = s.fld R.GRN_SEED_SEED) (loose_fld (by decide)) rfl sc o f slot code
  mode g := State.readSlot_k (K := fun t => t.groupMode g = s.groupMode g) (loose_fld (by decide)) rfl sc o f slot code
  home g := State.readSlot_k (K := fun t => t.groupHomeSide g = s.groupHomeSide g) (loose_fld (by decide)) rfl sc o f slot code
  group g := State.readSlot_k (K := fun t => t.groupState g = s.groupState g) (loose_fld (by decide)) rfl sc o f slot code

/-! ### A side as a word's outcome joins its window (R232, R233) -/

theorem State.sides_latchAs (s : State) (e : Ev) (i ri data : Nat) : (s.latchAs e i ri data).sides = s.sides := by
  unfold State.latchAs
  split <;> rfl

/-- The mismatches of a side in the 32 transmit frames that end with `f`, in which its word has outcome `o` (R232). -/
def SideSt.joined (sd : SideSt) (f : Nat) (o : Outcome) : List Nat :=
  if o.mismatch then f :: (sd.window f).filter (fun m => decide ((f + 2 ^ 32 - m) % 2 ^ 32 ≤ 31)) else sd.window f

/-- The words that a side in FAULT has matched on in a row (R234). -/
def SideSt.runAfter (sd : SideSt) (o : Outcome) : Nat :=
  if !sd.fault then 0 else match o with
    | .match' => sd.run + 1
    | .pf | .ais => sd.run
    | _ => 0

/-- What a FAULT's event says of it (R233). -/
def faultData (k : Nat) (o : Outcome) : Nat := k / 2 + (k % 2) * 2 ^ 25 + (if o = .seqBad then 1 else 0) * 2 ^ 26 + 2 ^ 31

/-- Side `k` in FAULT, as the last that entered it, before its events (R233). -/
def State.faultNoted (s : State) (k f : Nat) (o : Outcome) (marks : List Nat) : State :=
  let s1 := s.setSides (s.sides.live.put k { marks := marks, fault := true, run := 0 })
  let s2 := ((s1.setFld R.GRN_LAST_SLOT 0 (k / 2)).setFld R.GRN_LAST_SIDE 0 (k % 2)).setFld R.GRN_LAST_CAUSE 0 (if o = .seqBad then 1 else 0)
  (s2.setFld R.GRN_LAST_VALID 0 1).setFld R.GRN_LAST_FRAME_FRAME 0 f

/-- A FAULT's events (R233). -/
def State.faultLatched (s : State) (d : Nat) (g : Option Nat) : State :=
  let s3 := s.latchAs R.GRN_EVT_GRN_FAULT 0 0 d
  match g with
  | some g => s3.latchAs R.SCF_GEVT_GRN_FAULT g g d
  | none => s3

theorem State.markSide_eq (s : State) (k f : Nat) (o : Outcome) (g : Option Nat) : s.markSide k f o g =
    if !(s.sides.live.get k {}).fault && o.mismatch && 4 ≤ ((s.sides.live.get k {}).joined f o).length then
      (s.faultNoted k f o ((s.sides.live.get k {}).joined f o)).faultLatched (faultData k o) g
    else if ((s.sides.live.get k {}).joined f o).isEmpty && !(s.sides.live.get k {}).fault then s.setSides (s.sides.live.del k)
    else s.setSides (s.sides.live.put k { marks := (s.sides.live.get k {}).joined f o, fault := (s.sides.live.get k {}).fault
                                          run := (s.sides.live.get k {}).runAfter o }) := by
  cases g <;> cases o <;> rfl

theorem State.sides_faultLatched (s : State) (d : Nat) (g : Option Nat) : (s.faultLatched d g).sides = s.sides := by
  cases g with
  | none => exact State.sides_latchAs _ _ _ _ _
  | some g => exact (State.sides_latchAs _ _ _ _ _).trans (State.sides_latchAs _ _ _ _ _)

theorem State.live_faultNoted (s : State) (k f : Nat) (o : Outcome) (marks : List Nat) :
    (s.faultNoted k f o marks).sides.live = s.sides.live.put k { marks := marks, fault := true, run := 0 } := rfl

theorem State.latched_faultLatched (s : State) (d : Nat) (g : Option Nat) : (s.faultLatched d g).latched R.GRN_EVT_GRN_FAULT = true := by
  cases g with
  | none => exact State.latched_latchAs _ _ _ _ _ (by decide)
  | some g => exact State.latched_latchAs_of_latched (State.latched_latchAs _ _ _ _ _ (by decide)) (by decide) (.inr (by decide)) _ _ _

/-- The other sides stay as they are. -/
theorem State.sides_markSide_ne (s : State) {k j : Nat} (h : j ≠ k) (f : Nat) (o : Outcome) (g : Option Nat) :
    (s.markSide k f o g).sides.live.find j = s.sides.live.find j := by
  rw [State.markSide_eq]
  split
  · rw [State.sides_faultLatched, State.live_faultNoted, Tab.find_put_ne _ _ h]
  split
  · exact Tab.find_del_ne _ h
  · exact Tab.find_put_ne _ _ h

theorem State.latched_markSide {s : State} (h : s.latched R.GRN_EVT_GRN_FAULT = true) (k f : Nat) (o : Outcome) (g : Option Nat) :
    (s.markSide k f o g).latched R.GRN_EVT_GRN_FAULT = true := by
  rw [State.markSide_eq]
  split
  · exact State.latched_faultLatched _ _ _
  split <;> exact h

/-- The fourth mismatch of 32 frames declares FAULT, and none before (R232, R233). -/
theorem State.fault_markSide {s : State} {k : Nat} {o : Outcome} (hm : o.mismatch = true) (hf : (s.sides.live.get k {}).fault = false) (f : Nat)
    (g : Option Nat) :
    (((s.markSide k f o g).sides.live.get k {}).fault = true ↔
        3 ≤ (((s.sides.live.get k {}).window f).filter (fun m => decide ((f + 2 ^ 32 - m) % 2 ^ 32 ≤ 31))).length)
      ∧ (((s.markSide k f o g).sides.live.get k {}).fault = true → (s.markSide k f o g).latched R.GRN_EVT_GRN_FAULT = true) := by
  have hjoined : (s.sides.live.get k {}).joined f o = f :: ((s.sides.live.get k {}).window f).filter (fun m => decide ((f + 2 ^ 32 - m) % 2 ^ 32 ≤ 31)) :=
    if_pos hm
  rw [State.markSide_eq, hjoined, hf, hm, List.length_cons]
  by_cases hfour : 3 ≤ (((s.sides.live.get k {}).window f).filter (fun m => decide ((f + 2 ^ 32 - m) % 2 ^ 32 ≤ 31))).length
  · rw [if_pos (by simpa using hfour), State.sides_faultLatched, State.live_faultNoted, Tab.get_put_self]
    exact ⟨iff_of_true rfl hfour, fun _ => State.latched_faultLatched _ _ _⟩
  · rw [if_neg (by simpa using hfour), if_neg (by simp)]
    have hget : ∀ x : Tab SideSt, (s.setSides x).sides.live = x := fun _ => rfl
    rw [hget, Tab.get_put_self]
    exact ⟨iff_of_false Bool.false_ne_true hfour, fun h => absurd h Bool.false_ne_true⟩

end Sys2Proof.Machine
end

section
/-! SUPPORT. A plate read entry (R184, R229 to R233, R237, R238). -/

namespace Sys2Proof.Machine

/-! ### Merged slots (R237 to R241) -/

/-- The copies of a merged slot, counted and judged, before what the merge counts. -/
def State.copiesJudged (s : State) (f k g : Nat) (cw cp : Copy) : State :=
  (((s.countCopy g 0 cw).countCopy g 1 cp).markSide k f cw.out (some g)).markSide (k + 1) f cp.out (some g)

/-- What the merge of two copies counts, where `p` is taken from the P copy and `neither` is good (R241, R255, R256). -/
def State.mergeCounted (s : State) (f g : Nat) (cw cp : Copy) (p neither : Bool) : State :=
  let n := fun (c : Copy) => (b2n (!c.locked), b2n (!c.locked && !c.good))
  let s3 := s.countWindow g f (n cw) (n cp)
  let s4 := if p then (s3.addFld R.SCF_GSEL_P_COUNT g 1).bankCount 0xB g 1 else s3
  let s5 := if neither then
      ((((s4.addFld R.SCF_GNEITHER_COUNT g 1).addFld R.SCF_CNT_COUNT 5 1).bankCount 0xC g 1).latch R.SCF_GEVT_NEITHER g).latch
        R.SCF_EVT_NEITHER_ANY
    else s4
  if cw.good && cp.good && payloadOf cw.word != payloadOf cp.word then
    ((s5.satFld R.SCF_GDIFF_COUNT g 1).latch R.SCF_GEVT_DIFF g).latch R.SCF_EVT_DIFF_ANY
  else s5

theorem State.mergeSlot_eq (s : State) (sc : Schedule) (o f slot w p g aw ap : Nat) :
    s.mergeSlot sc o f slot w p g aw ap =
      let cw := s.copyOf sc o f (2 * (131072 * o + slot)) g 0 w aw
      let cp := s.copyOf sc o f (2 * (131072 * o + slot)) g 1 p ap
      ((s.copiesJudged f (2 * (131072 * o + slot)) g cw cp).mergeCounted f g cw cp (select (s.pref g) cw cp).2.1 (select (s.pref g) cw cp).2.2,
        (select (s.pref g) cw cp).1) := rfl

theorem State.mergeCounted_k {K : State → Prop} (hK : Loose 0x20000000080000000000000000000000000000000000000000000000000000000000000000000000000000004c100028000000000000000000000000000000000000000000000000000000000000000000000000000040000c00 K)
    {s : State} (h : K s) (f g : Nat) (cw cp : Copy) (p neither : Bool) : K (s.mergeCounted f g cw cp p neither) := by
  unfold State.mergeCounted
  dsimp only
  have h3 := State.countWindow_k (hK.mono (by decide)) h g f (b2n (!cw.locked), b2n (!cw.locked && !cw.good)) (b2n (!cp.locked), b2n (!cp.locked && !cp.good))
  have h4 := ite_k (c := p = true) (State.bankCount_k (hK.mono (by decide)) (State.addFld_k hK h3 R.SCF_GSEL_P_COUNT g 1 (by decide)) 0xB g 1) h3
  have h5 := ite_k (c := neither = true) (State.latch_k hK (by decide) (State.latch_k hK (by decide) (State.bankCount_k (hK.mono (by decide))
    (State.addFld_k hK (State.addFld_k hK h4 R.SCF_GNEITHER_COUNT g 1 (by decide)) R.SCF_CNT_COUNT 5 1 (by decide)) 0xC g 1)
    R.SCF_GEVT_NEITHER g (by decide)) R.SCF_EVT_NEITHER_ANY 0 (by decide)) h4
  exact ite_k (State.latch_k hK (by decide) (State.latch_k hK (by decide) (State.satFld_k hK h5 R.SCF_GDIFF_COUNT g 1 (by decide))
    R.SCF_GEVT_DIFF g (by decide)) R.SCF_EVT_DIFF_ANY 0 (by decide)) h5

theorem State.sides_countCopies (s : State) (g : Nat) (cw cp : Copy) : ((s.countCopy g 0 cw).countCopy g 1 cp).sides = s.sides :=
  (State.countCopy_k (loose_part _ .sides (by decide) (by decide) (by decide)) rfl g 1 cp).trans
    (State.countCopy_k (loose_part s .sides (by decide) (by decide) (by decide)) rfl g 0 cw)

theorem State.sides_mergeCounted (s : State) (f g : Nat) (cw cp : Copy) (p neither : Bool) : (s.mergeCounted f g cw cp p neither).sides = s.sides :=
  State.mergeCounted_k (loose_part s .sides (by decide) (by decide) (by decide)) rfl f g cw cp p neither

theorem State.latched_mergeCounted (s : State) (f g : Nat) (cw cp : Copy) (p neither : Bool) :
    (s.mergeCounted f g cw cp p neither).latched R.GRN_EVT_GRN_FAULT = s.latched R.GRN_EVT_GRN_FAULT :=
  congrArg (fun v => Nat.testBit v R.GRN_EVT_GRN_FAULT.bit)
    (State.mergeCounted_k (K := fun t => t.fld R.GRN_EVT 0 = s.fld R.GRN_EVT 0) (loose_fld (by decide)) rfl f g cw cp p neither)

/-- Both copies of a merged slot are judged (R237). -/
theorem State.judged_mergeSlot (s : State) (sc : Schedule) (o f slot w p g aw ap : Nat) :
    let t := (s.mergeSlot sc o f slot w p g aw ap).1
    let k := 2 * (131072 * o + slot)
    let cw := s.copyOf sc o f k g 0 w aw
    let cp := s.copyOf sc o f k g 1 p ap
    (∃ u : State, u.sides = s.sides ∧ t.sides.live.find k = (u.markSide k f cw.out (some g)).sides.live.find k
        ∧ ((u.markSide k f cw.out (some g)).latched R.GRN_EVT_GRN_FAULT = true → t.latched R.GRN_EVT_GRN_FAULT = true))
    ∧ (∃ u : State, u.sides.live.find (k + 1) = s.sides.live.find (k + 1)
        ∧ t.sides.live.find (k + 1) = (u.markSide (k + 1) f cp.out (some g)).sides.live.find (k + 1)
        ∧ ((u.markSide (k + 1) f cp.out (some g)).latched R.GRN_EVT_GRN_FAULT = true → t.latched R.GRN_EVT_GRN_FAULT = true)) := by
  rw [State.mergeSlot_eq]
  dsimp only
  generalize s.copyOf sc o f (2 * (131072 * o + slot)) g 0 w aw = cw
  generalize s.copyOf sc o f (2 * (131072 * o + slot)) g 1 p ap = cp
  generalize 2 * (131072 * o + slot) = k
  rw [State.sides_mergeCounted, State.latched_mergeCounted]
  refine ⟨⟨(s.countCopy g 0 cw).countCopy g 1 cp, State.sides_countCopies s g cw cp, State.sides_markSide_ne _ (by omega) _ _ _, fun h =>
    State.latched_markSide h _ _ _ _⟩, ⟨((s.countCopy g 0 cw).countCopy g 1 cp).markSide k f cw.out (some g), ?_, rfl, id⟩⟩
  rw [State.sides_markSide_ne _ (by omega), State.sides_countCopies]

/-! ### A plate read entry's footprint -/

theorem State.sides_countOutcome (s : State) (o : Outcome) : (s.countOutcome o).sides = s.sides :=
  State.countOutcome_k (loose_part s .sides (by decide) (by decide) (by decide)) rfl o

theorem State.latched_countOutcome (s : State) (o : Outcome) :
    (s.countOutcome o).latched R.GRN_EVT_GRN_FAULT = s.latched R.GRN_EVT_GRN_FAULT :=
  congrArg (fun v => Nat.testBit v R.GRN_EVT_GRN_FAULT.bit)
    (State.countOutcome_k (K := fun t => t.fld R.GRN_EVT 0 = s.fld R.GRN_EVT 0) (loose_fld (by decide)) rfl o)

/-- A read entry judges the two sides of its own slot only. -/
theorem State.sides_readSlot_ne (s : State) (sc : Schedule) (o f slot code : Nat) {j : Nat} (h : j / 2 ≠ 131072 * o + slot) :
    (s.readSlot sc o f slot code).1.sides.live.find j = s.sides.live.find j := by
  unfold State.readSlot
  dsimp only
  split
  · split
    · dsimp only
      rw [State.sides_markSide_ne _ (by omega), State.sides_countOutcome]
    · rfl
  split
  · split
    · rw [State.mergeSlot_eq]
      dsimp only
      rw [State.sides_mergeCounted]
      unfold State.copiesJudged
      rw [State.sides_markSide_ne _ (by omega), State.sides_markSide_ne _ (by omega), State.sides_countCopies]
    · rfl
  split
  · rfl
  · exact congrArg (fun t : Sides => t.live.find j) (State.sides_latchAs s R.FAB_EVT_PLATE_CODE 0 _ _)

/-- A read entry keeps the latched events of its check (R233). -/
theorem State.faultLatched_readSlot {s : State} (h : s.latched R.GRN_EVT_GRN_FAULT = true) (sc : Schedule) (o f slot code : Nat) :
    (s.readSlot sc o f slot code).1.latched R.GRN_EVT_GRN_FAULT = true := by
  unfold State.readSlot
  dsimp only
  split
  · split
    · exact State.latched_markSide ((State.latched_countOutcome _ _).trans h) _ _ _ _
    · exact h
  split
  · split
    · rw [State.mergeSlot_eq]
      dsimp only
      rw [State.latched_mergeCounted]
      refine State.latched_markSide (State.latched_markSide ?_ _ _ _ _) _ _ _ _
      exact (congrArg (fun v => Nat.testBit v R.GRN_EVT_GRN_FAULT.bit) (State.countCopy_k (K := fun t => t.fld R.GRN_EVT 0 = s.fld R.GRN_EVT 0)
        (loose_fld (by decide)) (State.countCopy_k (loose_fld (by decide)) rfl _ _ _) _ _ _)).trans h
    · exact h
  split
  · exact h
  · exact State.latched_of_fld (State.fld_latch_ne s R.FAB_EVT_PLATE_CODE 0 _ (by decide)) h

theorem State.codeLatched_readSlot {s : State} (h : s.latched R.FAB_EVT_PLATE_CODE = true) (sc : Schedule) (o f slot code : Nat) :
    (s.readSlot sc o f slot code).1.latched R.FAB_EVT_PLATE_CODE = true := by
  have hmark : ∀ (u : State) k c g, (u.markSide k f c g).fld R.FAB_EVT 0 = u.fld R.FAB_EVT 0 := fun u k c g =>
    State.markSide_k (K := fun t => t.fld R.FAB_EVT 0 = u.fld R.FAB_EVT 0) (loose_fld (by decide)) rfl k f c g
  unfold State.readSlot
  dsimp only
  split
  · split
    · exact State.latched_of_fld ((hmark _ _ _ _).trans (State.countOutcome_k (K := fun t => t.fld R.FAB_EVT 0 = s.fld R.FAB_EVT 0)
        (loose_fld (by decide)) rfl _)) h
    · exact h
  split
  · split
    · exact State.latched_of_fld (State.mergeSlot_k (K := fun t => t.fld R.FAB_EVT 0 = s.fld R.FAB_EVT 0) (loose_fld (by decide)) rfl
        _ _ _ _ _ _ _ _ _) h
    · exact h
  split
  · exact h
  · exact State.latched_latch_of_latched h (by decide) rfl _

end Sys2Proof.Machine
end

section
/-! SUPPORT. The words of a port in a transmit frame (R33, R184). -/

namespace Sys2Proof.Machine

theorem Tab.look_split {α : Type} {l : List (Nat × α)} {k : Nat} {v : α} (hwf : l.Pairwise (fun a b => a.1 < b.1)) (h : Tab.look l k = some v) :
    ∃ pre post, l = pre ++ (k, v) :: post ∧ (∀ e ∈ pre, e.1 ≠ k) ∧ ∀ e ∈ post, e.1 ≠ k := by
  induction l with
  | nil => simp [Tab.look] at h
  | cons e l ih =>
    obtain ⟨k', v'⟩ := e
    rw [List.pairwise_cons] at hwf
    by_cases hk : k = k'
    · subst hk
      obtain rfl : v' = v := by simpa [Tab.look] using h
      exact ⟨[], l, rfl, by simp, fun e he => Nat.ne_of_gt (hwf.1 e he)⟩
    · rw [Tab.look, if_neg hk] at h
      obtain ⟨pre, post, rfl, hpre, hpost⟩ := ih hwf.2 h
      exact ⟨(k', v') :: pre, post, rfl, by simpa [Ne.symm hk] using hpre, hpost⟩

theorem Tab.pairwise_of_wf {α : Type} {t : Tab α} (h : t.wf = true) : t.entries.Pairwise (fun a b => a.1 < b.1) :=
  List.pairwise_map.1 (of_decide_eq_true h)

theorem Tab.ne_of_find_none {α : Type} {t : Tab α} {k : Nat} (h : t.find k = none) : ∀ e ∈ t.entries, e.1 ≠ k := by
  unfold Tab.find at h
  generalize t.entries = l at h ⊢
  induction l with
  | nil => simp
  | cons e l ih =>
    obtain ⟨k', v'⟩ := e
    by_cases hk : k = k'
    · rw [Tab.look, if_pos hk] at h
      simp at h
    · rw [Tab.look, if_neg hk] at h
      simpa [Ne.symm hk] using ih h

theorem Tab.find_store_ne {α : Type} [DecidableEq α] (t : Tab α) {k j : Nat} (d v : α) (h : j ≠ k) : (t.store k d v).find j = t.find j := by
  unfold Tab.store
  split
  · exact Tab.find_del_ne _ h
  · exact Tab.find_put_ne _ _ h

theorem Tab.find_store_self {α : Type} [DecidableEq α] (t : Tab α) (k : Nat) (d v : α) : (t.store k d v).find k = if v = d then none else some v := by
  unfold Tab.store
  split
  · exact Tab.find_del_self _ _
  · exact Tab.find_put_self _ _ _

/-- One read entry of a port, its word listed where it is not the idle word (R33). -/
def readEntry (sc : Schedule) (o f : Nat) (acc : State × Tab Nat) (e : Nat × Nat) : State × Tab Nat :=
  ((acc.1.readSlot sc o f e.1 e.2).1, acc.2.store e.1 (idleWord f) (acc.1.readSlot sc o f e.1 e.2).2)

theorem State.readPort_eq (s : State) (sc : Schedule) (o f : Nat) :
    s.readPort sc o f = (sc.pread.get o {}).entries.foldl (readEntry sc o f) (s, {}) := rfl

/-- What the read entries of other slots leave of slot `k` of port `o`. -/
structure SlotKept (o k : Nat) (a b : State × Tab Nat) : Prop where
  plate : a.1.SamePlate b.1
  word : b.2.find k = a.2.find k
  sides : ∀ j, j / 2 = 131072 * o + k → b.1.sides.live.find j = a.1.sides.live.find j
  fault : a.1.latched R.GRN_EVT_GRN_FAULT = true → b.1.latched R.GRN_EVT_GRN_FAULT = true
  code : a.1.latched R.FAB_EVT_PLATE_CODE = true → b.1.latched R.FAB_EVT_PLATE_CODE = true

theorem SlotKept.refl (o k : Nat) (a : State × Tab Nat) : SlotKept o k a a := ⟨.refl _, rfl, fun _ _ => rfl, id, id⟩

theorem SlotKept.trans {o k : Nat} {a b c : State × Tab Nat} (h : SlotKept o k a b) (g : SlotKept o k b c) : SlotKept o k a c :=
  ⟨h.plate.trans g.plate, g.word.trans h.word, fun j hj => (g.sides j hj).trans (h.sides j hj), g.fault ∘ h.fault, g.code ∘ h.code⟩

theorem slotKept_readEntry (sc : Schedule) (o f : Nat) {k : Nat} (a : State × Tab Nat) {e : Nat × Nat} (h : e.1 ≠ k) : SlotKept o k a (readEntry sc o f a e) where
  plate := State.samePlate_readSlot a.1 sc o f e.1 e.2
  word := Tab.find_store_ne _ _ _ h.symm
  sides j hj := State.sides_readSlot_ne a.1 sc o f e.1 e.2 (by omega)
  fault ha := State.faultLatched_readSlot ha sc o f e.1 e.2
  code ha := State.codeLatched_readSlot ha sc o f e.1 e.2

theorem slotKept_foldl (sc : Schedule) (o f : Nat) {k : Nat} (es : List (Nat × Nat)) (h : ∀ e ∈ es, e.1 ≠ k) (a : State × Tab Nat) :
    SlotKept o k a (es.foldl (readEntry sc o f) a) := by
  induction es generalizing a with
  | nil => exact .refl o k a
  | cons e es ih => exact (slotKept_readEntry sc o f a (h e (by simp))).trans (ih (fun x hx => h x (by simp [hx])) _)

/-- A slot that the port has no read entry for carries the idle word (R33). -/
theorem State.readPort_of_none (s : State) {sc : Schedule} {o k : Nat} (f : Nat) (h : (sc.pread.get o {}).find k = none) :
    (s.readPort sc o f).2.find k = none :=
  (slotKept_foldl sc o f _ (Tab.ne_of_find_none h) (s, {})).word

/-- A slot's read entry is carried out as it stands in the frame: the entries of other slots leave what it reads and what it judges. -/
theorem State.readPort_of_find (s : State) {sc : Schedule} {o k code : Nat} (f : Nat) (hwf : (sc.pread.get o {}).wf = true)
    (h : (sc.pread.get o {}).find k = some code) : ∃ u : State, s.SamePlate u
      ∧ (∀ j, j / 2 = 131072 * o + k → u.sides.live.find j = s.sides.live.find j)
      ∧ (s.readPort sc o f).2.find k = (if (u.readSlot sc o f k code).2 = idleWord f then none else some (u.readSlot sc o f k code).2)
      ∧ (∀ j, j / 2 = 131072 * o + k → (s.readPort sc o f).1.sides.live.find j = (u.readSlot sc o f k code).1.sides.live.find j)
      ∧ ((u.readSlot sc o f k code).1.latched R.GRN_EVT_GRN_FAULT = true → (s.readPort sc o f).1.latched R.GRN_EVT_GRN_FAULT = true)
      ∧ ((u.readSlot sc o f k code).1.latched R.FAB_EVT_PLATE_CODE = true → (s.readPort sc o f).1.latched R.FAB_EVT_PLATE_CODE = true) := by
  obtain ⟨pre, post, hl, hpre, hpost⟩ := Tab.look_split (Tab.pairwise_of_wf hwf) h
  have hbefore := slotKept_foldl sc o f pre hpre (s, {})
  refine ⟨(pre.foldl (readEntry sc o f) (s, {})).1, hbefore.plate, hbefore.sides, ?_⟩
  rw [State.readPort_eq, hl, List.foldl_append, List.foldl_cons]
  generalize pre.foldl (readEntry sc o f) (s, {}) = a
  have hafter := slotKept_foldl sc o f post hpost (readEntry sc o f a (k, code))
  exact ⟨hafter.word.trans (Tab.find_store_self _ _ _ _), hafter.sides, hafter.fault, hafter.code⟩

end Sys2Proof.Machine
end

section
/-! SUPPORT. The plate's part of a transmit frame, and what goes with it (R33, R64, R67, R86). -/

namespace Sys2Proof.Machine

/-! ### The words of a slot (R184, R229 to R233, R237, R238) -/

theorem sideJudged_of {s u t : State} {k : Nat} {o : Outcome} {g : Option Nat} (hu : u.sides.live.find k = s.sides.live.find k)
    (ht : t.sides.live.find k = (u.markSide k s.frame o g).sides.live.find k)
    (hl : (u.markSide k s.frame o g).latched R.GRN_EVT_GRN_FAULT = true → t.latched R.GRN_EVT_GRN_FAULT = true) : SideJudged k o s t := by
  intro hm hf
  have hget : s.sides.live.get k {} = u.sides.live.get k {} := by
    unfold Tab.get
    rw [hu]
  have htget : t.sides.live.get k {} = (u.markSide k s.frame o g).sides.live.get k {} := by
    unfold Tab.get
    rw [ht]
  rw [hget] at hf ⊢
  rw [htget]
  obtain ⟨hiff, hevt⟩ := State.fault_markSide hm hf s.frame g
  exact ⟨hiff, fun h => hl (hevt h)⟩

/-- What a slot's read entry shows: the word in its column, where an idle word is not listed. -/
abbrev State.slotShows (s : State) (sc : Schedule) (o k w : Nat) : Prop := ((s.readPort sc o s.frame).2.find k).getD (idleWord s.frame) = w

theorem getD_ite_none (w d : Nat) : (if w = d then none else some w).getD d = w := by
  split
  · next h => exact h.symm
  · rfl

theorem State.readPort_single (s : State) {sc : Schedule} {o k code src : Nat} (hwf : (sc.pread.get o {}).wf = true)
    (h : (sc.pread.get o {}).find k = some code) (hcode : code < 0x24000) (hmap : sc.map.find (131072 * o + k) = some (.single src)) :
    s.slotShows sc o k (s.readCopy sc o s.frame src code).1
      ∧ SideJudged (2 * (131072 * o + k)) (s.readCopy sc o s.frame src code).2 s (s.readPort sc o s.frame).1 := by
  obtain ⟨u, hplate, hsides, hword, hafter, hfault, -⟩ := State.readPort_of_find s s.frame hwf h
  have hread : u.readSlot sc o s.frame k code = ((u.countOutcome (s.readCopy sc o s.frame src code).2).markSide (2 * (131072 * o + k)) s.frame
      (s.readCopy sc o s.frame src code).2 none, (s.readCopy sc o s.frame src code).1) := by
    rw [← State.readCopy_congr hplate]
    unfold State.readSlot
    dsimp only
    rw [if_pos hcode, hmap]
  rw [hread] at hword hafter hfault
  refine ⟨?_, sideJudged_of ?_ (hafter _ (by omega)) hfault⟩
  · unfold State.slotShows
    rw [hword]
    exact getD_ite_none _ _
  · rw [State.sides_countOutcome]
    exact hsides _ (by omega)

theorem State.readPort_merged (s : State) {sc : Schedule} {o k code w p g x aw ap : Nat} (hwf : (sc.pread.get o {}).wf = true)
    (h : (sc.pread.get o {}).find k = some code) (hlo : 0x24000 ≤ code) (hhi : code < 0x28000)
    (hmap : sc.map.find (131072 * o + k) = some (.merged w p g x)) (hscarf : (sc.scarf.get o {}).find (code - 0x24000) = some (aw, ap)) :
    s.slotShows sc o k (select (s.pref g) (s.copyOf sc o s.frame (2 * (131072 * o + k)) g 0 w aw)
        (s.copyOf sc o s.frame (2 * (131072 * o + k)) g 1 p ap)).1
      ∧ SideJudged (2 * (131072 * o + k)) (s.readCopy sc o s.frame w aw).2 s (s.readPort sc o s.frame).1
      ∧ SideJudged (2 * (131072 * o + k) + 1) (s.readCopy sc o s.frame p ap).2 s (s.readPort sc o s.frame).1 := by
  obtain ⟨u, hplate, hsides, hword, hafter, hfault, -⟩ := State.readPort_of_find s s.frame hwf h
  have hread : u.readSlot sc o s.frame k code = u.mergeSlot sc o s.frame k w p g aw ap := by
    unfold State.readSlot
    dsimp only
    rw [if_neg (by omega), if_pos hhi, hmap, hscarf]
  have hw : u.copyOf sc o s.frame (2 * (131072 * o + k)) g 0 w aw = s.copyOf sc o s.frame (2 * (131072 * o + k)) g 0 w aw :=
    State.copyOf_congr hplate sc (hsides _ (by omega))
  have hp : u.copyOf sc o s.frame (2 * (131072 * o + k)) g 1 p ap = s.copyOf sc o s.frame (2 * (131072 * o + k)) g 1 p ap :=
    State.copyOf_congr hplate sc (hsides _ (by omega))
  obtain ⟨⟨uw, huw, hwafter, hwl⟩, ⟨up, hup, hpafter, hpl⟩⟩ := State.judged_mergeSlot u sc o s.frame k w p g aw ap
  rw [hread] at hword hafter hfault
  refine ⟨?_, sideJudged_of (u := uw) (g := some g) ?_ ?_ ?_, sideJudged_of (u := up) (g := some g) ?_ ?_ ?_⟩
  · unfold State.slotShows
    rw [hword, getD_ite_none, State.mergeSlot_eq]
    dsimp only
    rw [hw, hp, State.pref_congr hplate]
  · rw [huw]
    exact hsides _ (by omega)
  · rw [hafter _ (by omega), hwafter, hw]
    rfl
  · intro hl
    rw [hw] at hwl
    exact hfault (hwl hl)
  · rw [hup]
    exact hsides _ (by omega)
  · rw [hafter _ (by omega), hpafter, hp]
    rfl
  · intro hl
    rw [hp] at hpl
    exact hfault (hpl hl)

theorem State.readPort_other (s : State) {sc : Schedule} {o k code : Nat} (hwf : (sc.pread.get o {}).wf = true)
    (h : (sc.pread.get o {}).find k = some code) (hlo : 0x28000 ≤ code) :
    s.slotShows sc o k (idleWord s.frame) ∧ (code ≠ 0x3FFFF → (s.readPort sc o s.frame).1.latched R.FAB_EVT_PLATE_CODE = true) := by
  obtain ⟨u, hplate, hsides, hword, hafter, -, hcode⟩ := State.readPort_of_find s s.frame hwf h
  by_cases hend : code = 0x3FFFF
  · refine ⟨?_, fun hne => absurd hend hne⟩
    have hread : u.readSlot sc o s.frame k code = (u, idleWord s.frame) := by
      unfold State.readSlot
      dsimp only
      rw [if_neg (by omega), if_neg (by omega), if_pos hend]
    unfold State.slotShows
    rw [hword, hread, getD_ite_none]
  · have hread : u.readSlot sc o s.frame k code = (u.latch R.FAB_EVT_PLATE_CODE, idleWord s.frame) := by
      unfold State.readSlot
      dsimp only
      rw [if_neg (by omega), if_neg (by omega), if_neg hend]
    rw [hread] at hword hcode
    refine ⟨?_, fun _ => hcode (State.latched_latch _ _ _ (by decide))⟩
    unfold State.slotShows
    rw [hword, getD_ite_none]

end Sys2Proof.Machine
end

section
/-! O12: transmit frames (R25, R33, R64, R67, R86, R89, R92, R184, R229 to R233, R237, R238, R514). -/

namespace Sys2Proof.Machine

/-! ### The plate's part (R33, R82) -/

theorem State.lane_platePart_ne (s : State) {p k : Nat} (h : k ≠ p) (f : Nat) : (s.platePart p f).lane k = s.lane k := by
  have hread : ∀ sc, ((s.watchPegs sc p f).readPort sc p f).1.lane k = s.lane k := fun sc =>
    (State.readPort_k (loose_lane (s.watchPegs sc p f) k (by decide) (by decide)) rfl sc p f).trans (State.lane_watchPegs s sc p f k)
  unfold State.platePart
  split
  · rfl
  dsimp only
  split
  · rw [State.lane_countSent, State.lane_updLane_ne _ _ h, hread]
  · rw [State.lane_updLane_ne _ _ h, hread]

theorem State.sameSend_platePart (s : State) (p f k : Nat) : (s.lane k).SameSend ((s.platePart p f).lane k) := by
  have hread : ∀ sc, ((s.watchPegs sc p f).readPort sc p f).1.lane k = s.lane k := fun sc =>
    (State.readPort_k (loose_lane (s.watchPegs sc p f) k (by decide) (by decide)) rfl sc p f).trans (State.lane_watchPegs s sc p f k)
  unfold State.platePart
  split
  · exact .refl _
  dsimp only
  split
  · rw [State.lane_countSent]
    exact (LaneSt.SameSend.of_eq (hread _)).trans (State.sameSend_updLane _ _ _ (fun _ => ⟨rfl, rfl⟩))
  · exact (LaneSt.SameSend.of_eq (hread _)).trans (State.sameSend_updLane _ _ _ (fun _ => ⟨rfl, rfl⟩))

/-- Output port `p`, whose words the plate has not read in frame `f`, reads them once (R33). -/
theorem State.platePart_of_unread {s : State} {p f : Nat} (hp : p < 256) (hf : (s.lane p).plateAt ≠ some f) :
    let r := (s.watchPegs (s.schedAt f) p f).readPort (s.schedAt f) p f
    ((s.platePart p f).lane p).plate = r.2 ∧ (s.platePart p f).sides = r.1.sides
      ∧ (s.platePart p f).fld R.GRN_EVT 0 = r.1.fld R.GRN_EVT 0 ∧ (s.platePart p f).fld R.FAB_EVT 0 = r.1.fld R.FAB_EVT 0 := by
  have hcond : (decide (256 ≤ p) || decide ((s.lane p).plateAt = some f)) = false := by simp [hf, hp]
  intro r
  let s1 := r.1.updLane p (fun l => { l with plate := r.2, plateAt := some f })
  have hs1 : (s1.lane p).plate = r.2 := congrArg LaneSt.plate (State.lane_updLane_self _ _ _)
  have hpart : ∃ b lais, s.platePart p f = if b = true then s1.countSent (s.schedAt f) p f lais r.2 else s1 := ⟨_, _, if_neg (by simp [hf, hp])⟩
  obtain ⟨b, lais, hpart⟩ := hpart
  rw [hpart]
  cases b
  · exact ⟨hs1, rfl, rfl, rfl⟩
  · refine ⟨(congrArg LaneSt.plate (State.lane_countSent _ _ _ _ _ _ _)).trans hs1, ?_, ?_, ?_⟩
    · exact State.countSent_k (loose_part s1 .sides (by decide) (by decide) (by decide)) rfl _ _ _ _ _
    · exact State.countSent_k (K := fun t => t.fld R.GRN_EVT 0 = s1.fld R.GRN_EVT 0) (loose_fld (by decide)) rfl _ _ _ _ _
    · exact State.countSent_k (K := fun t => t.fld R.FAB_EVT 0 = s1.fld R.FAB_EVT 0) (loose_fld (by decide)) rfl _ _ _ _ _

/-! ### What lane transmit sends (R64, R67, R86, R89 to R92) -/

theorem State.lane_drainMch_sameSend (s : State) (n x k : Nat) : (s.lane k).SameSend ((s.drainMch n x).lane k) := by
  unfold State.drainMch
  split
  · exact State.sameSend_updLane _ _ _ (fun _ => ⟨rfl, rfl⟩)
  · exact .refl _

/-- The lane once its traffic frame has gone out, its overhead but what the management channel takes (R73, R105). -/
theorem State.lane_sendTraffic (s : State) (n f : Nat) :
    ((s.sendTraffic n f).lane n).tx = s.trafficFrame n (s.sentFor n) f ∧ ((s.sendTraffic n f).lane n).fcTx = (s.lane n).fcTx.drop 128 := by
  unfold State.sendTraffic
  dsimp only
  rw [State.lane_setFlag, State.lane_setFlag, State.lane_setFlag, State.lane_updLane_self]
  exact ⟨rfl, congrArg (List.drop 128) (State.lane_drainMch_sameSend s n (s.sentFor n) n).fcTx⟩

theorem State.flags_sendTraffic (s : State) (n f : Nat) : (s.sendTraffic n f).flag R.LN_PHASE_STAT_TX_VALID n = true
    ∧ (s.sendTraffic n f).flag R.LN_FRM_STAT_TX_LAIS n = (s.trafficFrame n (s.sentFor n) f).lais := by
  unfold State.sendTraffic
  dsimp only
  refine ⟨State.flag_setFlag_self _ _ _ _ (by decide), ?_⟩
  rw [State.flag_setFlag_ne _ _ _ _ (by decide), State.flag_setFlag_ne _ _ _ _ (by decide)]
  exact State.flag_setFlag_self _ _ _ _ (by decide)

/-- A lane that sends training or discovery rows (R67, R72). -/
theorem State.sendTraining_spec (s : State) (n f : Nat) : ((s.sendTraining n f).lane n).tx.sent = true ∧ ((s.sendTraining n f).lane n).tx.traffic = false
    ∧ ((s.sendTraining n f).lane n).tx.frame = f ∧ (s.sendTraining n f).flag R.LN_PHASE_STAT_TX_VALID n = false
    ∧ ((s.sendTraining n f).lane n).inv = s.flag R.LN_TX_CFG_TX_INV n := by
  unfold State.sendTraining
  dsimp only
  rw [State.lane_setFlag, State.lane_setFlag, State.lane_setFlag, State.lane_updLane_self, State.lane_updLane_self]
  exact ⟨rfl, rfl, rfl, State.flag_setFlag_self _ _ _ _ (by decide), rfl⟩

theorem TxFrame.lineRow_of_traffic {t : TxFrame} (hs : t.sent = true) (ht : t.traffic = true) (r : Nat) :
    t.lineRow r = scrambleRow r (t.dataRow r) ++ rowParityWords (scrambleRow r (t.dataRow r)) := by
  unfold TxFrame.lineRow
  rw [hs, ht]
  rfl

/-! ### The state before the frame goes out -/

/-- The state as lane `n` is about to send: restarts taken, the plate read (R33, R514). -/
def State.txReady (s : State) (n : Nat) : State := ((s.takeRestart (s.sentFor n)).takeRestart n).platePart (s.sentFor n) s.frame

/-- LN_TX_PHASE shows the transmit phase (R44). -/
def State.txPhaseShown (s : State) (n : Nat) : State := s.setFld R.LN_TX_PHASE_PHASE n (toWord 32 (s.lane n).psi)

theorem State.phase_txPhaseShown (s : State) (n : Nat) : (s.txPhaseShown n).fld R.LN_TX_PHASE_PHASE n = toWord 32 ((s.txPhaseShown n).lane n).psi :=
  (State.fld_setFld_self _ _ _ _).trans (Nat.mod_eq_of_lt (toWord_lt 32 _))

theorem execTxFrame_eq (n : LaneIx) (s : State) : execTxFrame n s = .next (
    if !s.transmits then (s.txReady n).sendNothing n
    else (if (s.txReady n).sendsTraffic n then (s.txReady n).sendTraffic n s.frame else (s.txReady n).sendTraining n s.frame).txPhaseShown n) := rfl

theorem execTxFrame_of_idle {n : LaneIx} {s : State} (h : s.transmits = false) : execTxFrame n s = .next ((s.txReady n).sendNothing n) := by
  rw [execTxFrame_eq, h]
  rfl

theorem execTxFrame_of_traffic {n : LaneIx} {s : State} (h : s.transmits = true) (ht : (s.txReady n).sendsTraffic n = true) :
    execTxFrame n s = .next (((s.txReady n).sendTraffic n s.frame).txPhaseShown n) := by
  rw [execTxFrame_eq, h, if_pos ht]
  rfl

theorem execTxFrame_of_training {n : LaneIx} {s : State} (h : s.transmits = true) (ht : (s.txReady n).sendsTraffic n = false) :
    execTxFrame n s = .next (((s.txReady n).sendTraining n s.frame).txPhaseShown n) := by
  rw [execTxFrame_eq, h, ht]
  rfl

theorem State.fit_platePart (s : State) (p f n : Nat) : (s.platePart p f).fit n = s.fit n := State.fld_platePart _ _ _ _ (by decide)

/-- A lane that no restart waits for is, as it is about to send, in the state in which it was. -/
theorem State.txReady_of_not {s : State} {n : Nat} (h : (s.lane n).restartPend ≠ 1) :
    (s.lane n).SameSend ((s.txReady n).lane n) ∧ (s.txReady n).fit n = s.fit n := by
  obtain ⟨hsame, hfit⟩ := State.takeRestarts_of_not h (s.sentFor n)
  exact ⟨hsame.trans (State.sameSend_platePart _ _ _ _), (State.fit_platePart _ _ _ _).trans hfit⟩

theorem State.sendsTraffic_congr {s t : State} {n : Nat} (h : t.fit n = s.fit n) : t.sendsTraffic n = s.sendsTraffic n := by
  unfold State.sendsTraffic
  rw [h]

theorem State.txInv_txReady (s : State) (n k : Nat) : (s.txReady n).flag R.LN_TX_CFG_TX_INV k = s.flag R.LN_TX_CFG_TX_INV k := by
  refine State.flag_of_fld ?_
  unfold State.txReady
  rw [State.fld_platePart _ _ _ _ (by decide), State.fld_takeRestart _ _ _ (by decide), State.fld_takeRestart _ _ _ (by decide)]

theorem State.phase_txReady (s : State) (n k : Nat) : (s.txReady n).fld R.LN_TX_PHASE_PHASE k = s.fld R.LN_TX_PHASE_PHASE k := by
  unfold State.txReady
  rw [State.fld_platePart _ _ _ _ (by decide), State.fld_takeRestart _ _ _ (by decide), State.fld_takeRestart _ _ _ (by decide)]

/-! ### A traffic lane's slot columns (R25, R86, R184) -/

theorem State.blocks_trafficFrame (s : State) (n x f : Nat) :
    (s.trafficFrame n x f).blocks = if (272 ≤ n : Bool) || (n = x && s.ceased x) then some n else none := rfl

theorem State.idle_trafficFrame (s : State) (n x f : Nat) :
    (s.trafficFrame n x f).idle = if (s.trafficFrame n x f).lais then aisOver (idleWord f) else idleWord f := rfl

theorem State.slots_trafficFrame (s : State) (n x f : Nat) : (s.trafficFrame n x f).slots =
    let plate := if 272 ≤ n then (if s.paired then s.heartbeatSlots f else {}) else if n = x && s.ceased x then {} else (s.lane x).plate
    if (s.trafficFrame n x f).lais then plate.mapVals (fun _ w => aisOver w) else plate := rfl

theorem TxFrame.column_of_slots {t : TxFrame} (hb : t.blocks = none) (c : Nat) : t.column c = (t.slots.find c).getD t.idle := by
  unfold TxFrame.column
  rw [hb]
  cases t.slots.find c <;> rfl

theorem Tab.find_mapVals {α β : Type} (t : Tab α) (f : Nat → α → β) (k : Nat) : (t.mapVals f).find k = (t.find k).map (f k) :=
  Tab.look_mapVals t.entries f k

/-- The slot words of a traffic lane's frame stand under AIS while LAIS does (R25, R100). -/
theorem State.column_trafficFrame {s : State} {n : Nat} (hn : n < 256) (hc : s.ceased n = false) (f k : Nat) :
    (s.trafficFrame n n f).column k =
      (if (s.trafficFrame n n f).lais then aisOver (((s.lane n).plate.find k).getD (idleWord f)) else ((s.lane n).plate.find k).getD (idleWord f)) := by
  have hblocks : (s.trafficFrame n n f).blocks = none := by
    rw [State.blocks_trafficFrame, hc, Bool.and_false, Bool.or_false, decide_eq_false (by omega)]
    rfl
  rw [TxFrame.column_of_slots hblocks, State.idle_trafficFrame, State.slots_trafficFrame, hc, Bool.and_false]
  dsimp only
  rw [if_neg (by omega : ¬ 272 ≤ n), if_neg (c := false = true) Bool.false_ne_true]
  generalize (s.trafficFrame n n f).lais = lais
  generalize idleWord f = idle
  cases lais
  · rfl
  · simp only [if_true]
    rw [Tab.find_mapVals, Option.getD_map]

end Sys2Proof.Machine
end

section
/-! O12: what a lane transmits. -/

namespace Sys2Proof.Machine

/-- An AIS word stands over the slot words of lane `n` (R25, R100). -/
abbrev State.sendsAis (s : State) (n : Nat) : Prop :=
  s.fit n = fitFrame ∨ s.fit n = fitIntro ∨ s.flag R.LN_FRM_CFG_TX_FORCE_AIS n = true ∨ s.forcesAis n = true

theorem State.lais_trafficFrame (s : State) (n f : Nat) : (s.trafficFrame n n f).lais = true ↔ s.sendsAis n := by
  show (s.fit n == fitFrame || s.fit n == fitIntro || s.flag R.LN_FRM_CFG_TX_FORCE_AIS n || s.flag R.LN_FRM_CFG_TX_FORCE_AIS n || s.forcesAis n) = true ↔ _
  simp only [Bool.or_eq_true, beq_iff_eq, or_assoc, or_self_left]

theorem State.forcesAis_platePart (s : State) (p f n : Nat) : (s.platePart p f).forcesAis n = s.forcesAis n := by
  have hstate : (s.platePart p f).mateState = s.mateState := State.fld_platePart s p f 0 (by decide)
  have hhalted : (s.platePart p f).flag R.TLY_STAT_HALTED = s.flag R.TLY_STAT_HALTED := State.flag_of_fld (State.fld_platePart s p f 0 (by decide))
  unfold State.forcesAis State.mateAis
  rw [hstate, hhalted]

theorem State.sentFor_traffic (s : State) {n : Nat} (h : n < 256) : s.sentFor n = n := by
  have hspare : isSpare n = false := by simp [isSpare]; omega
  unfold State.sentFor
  rw [hspare]
  rfl

theorem State.ceased_platePart {s : State} {n : Nat} (f : Nat) (hn : n < 256) : (s.platePart n f).ceased n = s.ceased n := by
  unfold State.ceased
  rw [State.flag_of_fld (State.fld_platePart s n f n (by decide)), State.lane_platePart_ne s (by omega)]

/-- What a traffic lane's frame leaves of the sides and of the plate's events: what the plate's part does (R33). -/
theorem State.sent_kept (s : State) (n f : Nat) : ((s.sendTraffic n f).txPhaseShown n).sides = s.sides
    ∧ ((s.sendTraffic n f).txPhaseShown n).fld R.GRN_EVT 0 = s.fld R.GRN_EVT 0 ∧ ((s.sendTraffic n f).txPhaseShown n).fld R.FAB_EVT 0 = s.fld R.FAB_EVT 0 :=
  ⟨State.sendTraffic_k (loose_part s .sides (by decide) (by decide) (by decide)) rfl n f,
    (State.fld_setFld_ne _ _ _ _ (by decide)).trans (State.fld_sendTraffic _ _ _ _ (by decide)),
    (State.fld_setFld_ne _ _ _ _ (by decide)).trans (State.fld_sendTraffic _ _ _ _ (by decide))⟩

/-- A traffic lane's frame: its slot columns, with what the plate read for them (R25, R33, R86, R100). -/
theorem State.txFrame_slots {n : LaneIx} {s : State} (hn : n.val < 256) (hat : (s.lane n).plateAt ≠ some s.frame) (ht : s.transmits = true)
    (hpend : (s.lane n).restartPend ≠ 1) (htraffic : s.sendsTraffic n = true) (hc : s.ceased n = false) :
    Answers (.txFrame n) s (fun t =>
      let r := (s.watchPegs (s.schedAt s.frame) n s.frame).readPort (s.schedAt s.frame) n s.frame
      (∀ k w, (r.2.find k).getD (idleWord s.frame) = w → (t.lane n).tx.column k = if s.sendsAis n then aisOver w else w)
        ∧ t.sides = r.1.sides ∧ (r.1.latched R.GRN_EVT_GRN_FAULT = true → t.latched R.GRN_EVT_GRN_FAULT = true)
        ∧ (r.1.latched R.FAB_EVT_PLATE_CODE = true → t.latched R.FAB_EVT_PLATE_CODE = true)) := by
  have hready : s.txReady n = s.platePart n s.frame := by
    unfold State.txReady
    rw [State.sentFor_traffic s hn, State.takeRestart_of_not hpend, State.takeRestart_of_not hpend]
  have hfit : (s.platePart n s.frame).fit n = s.fit n := State.fit_platePart _ _ _ _
  have hsends : (s.txReady n).sendsTraffic n = true := by
    rw [hready, State.sendsTraffic_congr hfit]
    exact htraffic
  obtain ⟨hplate, hsides, hgrn, hfab⟩ := State.platePart_of_unread hn hat
  obtain ⟨htsides, htgrn, htfab⟩ := State.sent_kept (s.platePart n s.frame) n s.frame
  refine ⟨_, execTxFrame_of_traffic ht hsends, ?_⟩
  rw [hready]
  have hgrn0 := htgrn.trans hgrn
  have hfab0 := htfab.trans hfab
  refine ⟨fun k w hw => ?_, htsides.trans hsides, fun h => State.latched_of_fld hgrn0 h, fun h => State.latched_of_fld hfab0 h⟩
  have hlais : ((s.platePart n s.frame).trafficFrame n n s.frame).lais = true ↔ s.sendsAis n := by
    rw [State.lais_trafficFrame]
    unfold State.sendsAis
    rw [hfit, State.forcesAis_platePart, State.flag_of_fld (State.fld_platePart s n s.frame n (by decide))]
  unfold State.txPhaseShown
  rw [State.lane_setFld, (State.lane_sendTraffic _ _ _).1, State.sentFor_traffic _ hn, State.column_trafficFrame hn ((State.ceased_platePart _ hn).trans hc),
    hplate, hw]
  exact if_congr hlais rfl rfl

theorem State.samePlate_watchPegs (s : State) (sc : Schedule) (o f : Nat) : s.SamePlate (s.watchPegs sc o f) :=
  ⟨rfl, rfl, rfl, rfl, fun _ => rfl, fun _ => rfl, fun _ => rfl⟩

/-- Settles O12. -/
theorem lanesTransmit : Obligations.LanesTransmit := by
  unfold Obligations.LanesTransmit
  intro n s
  refine ⟨fun ht => ?_, fun ht hpend htraffic => ?_, fun sc k a aised hsc ha haised hn hat ht hpend htraffic hc hwf => ?_, fun ht hpend htraffic => ?_,
    fun ht hpend => ?_⟩
  case refine_1 =>
    refine ⟨_, execTxFrame_of_idle ht, ?_⟩
    have htx : (((s.txReady n).sendNothing n).lane n).tx = {} := by
      unfold State.sendNothing
      rw [State.lane_setFlag, State.lane_updLane_self]
    refine ⟨htx, State.flag_setFlag_self _ _ _ _ (by decide), ?_, fun r => ?_⟩
    · rw [State.fld_sendNothing _ _ _ (by decide)]
      exact State.phase_txReady s n n
    · unfold State.txBalls
      rw [htx]
      rfl
  case refine_2 =>
    obtain ⟨hsame, hfit⟩ := State.txReady_of_not hpend
    refine ⟨_, execTxFrame_of_traffic ht ((State.sendsTraffic_congr hfit).trans htraffic), ?_⟩
    obtain ⟨htx, hfc⟩ := State.lane_sendTraffic (s.txReady n) n s.frame
    obtain ⟨hvalid, hlais⟩ := State.flags_sendTraffic (s.txReady n) n s.frame
    have hlane : ∀ u : State, (u.txPhaseShown n).lane n = u.lane n := fun u => State.lane_setFld _ _ _ _ _
    have hflag : ∀ (u : State) (f : Fld), f.id ≠ R.LN_TX_PHASE_PHASE.id → (u.txPhaseShown n).flag f n = u.flag f n :=
      fun u f hf => State.flag_of_fld (State.fld_setFld_ne _ _ _ _ hf)
    rw [State.phase_txPhaseShown, hlane, hflag _ _ (by decide), hflag _ _ (by decide), htx, hfc, hvalid, hlais, hsame.fcTx]
    exact ⟨rfl, rfl, rfl, rfl, congrArg (List.take 128) hsame.fcTx, rfl, rfl, fun r _ => TxFrame.lineRow_of_traffic rfl rfl r, rfl⟩
  case refine_3 =>
    subst hsc ha haised
    obtain ⟨t, hstep, hcol, hsides, hfault, hcode⟩ := State.txFrame_slots hn hat ht hpend htraffic hc
    have hplate := State.samePlate_watchPegs s (s.schedAt s.frame) n s.frame
    have hjudged : ∀ {k : Nat} {o : Outcome}, SideJudged k o (s.watchPegs (s.schedAt s.frame) n s.frame)
        ((s.watchPegs (s.schedAt s.frame) n s.frame).readPort (s.schedAt s.frame) n s.frame).1 → SideJudged k o s t := by
      intro k o h hm hf
      rw [hsides]
      exact ⟨(h hm hf).1, fun hr => hfault ((h hm hf).2 hr)⟩
    refine ⟨fun hnone => ⟨t, hstep, ?_⟩, fun code src hfind hlo hmap => ⟨t, hstep, ?_⟩,
      fun code w p g x aw ap hfind hlo hhi hmap hscarf => ⟨t, hstep, ?_⟩, fun code hfind hlo => ⟨t, hstep, ?_⟩⟩
    · refine hcol _ _ ?_
      rw [State.readPort_of_none _ _ hnone, Option.getD_none]
    · obtain ⟨hword, hside⟩ := State.readPort_single (s.watchPegs (s.schedAt s.frame) n s.frame) hwf hfind hlo hmap
      rw [State.readCopy_congr hplate] at hword hside
      exact ⟨hcol _ _ hword, hjudged hside⟩
    · obtain ⟨hword, hw, hp⟩ := State.readPort_merged (s.watchPegs (s.schedAt s.frame) n s.frame) hwf hfind hlo hhi hmap hscarf
      rw [State.readCopy_congr hplate] at hw hp
      rw [State.pref_congr hplate, State.copyOf_congr hplate _ rfl, State.copyOf_congr hplate _ rfl] at hword
      exact ⟨hcol _ _ hword, hjudged hw, hjudged hp⟩
    · obtain ⟨hword, hlatch⟩ := State.readPort_other (s.watchPegs (s.schedAt s.frame) n s.frame) hwf hfind hlo
      exact ⟨hcol _ _ hword, fun hne => hcode (hlatch hne)⟩
  case refine_4 =>
    obtain ⟨-, hfit⟩ := State.txReady_of_not hpend
    refine ⟨_, execTxFrame_of_training ht ((State.sendsTraffic_congr hfit).trans htraffic), ?_⟩
    obtain ⟨hsent, htr, hframe, hvalid, hinv⟩ := State.sendTraining_spec (s.txReady n) n s.frame
    unfold State.txPhaseShown
    rw [State.lane_setFld, State.flag_of_fld (State.fld_setFld_ne _ _ _ _ (by decide))]
    exact ⟨hsent, htr, hframe, hvalid, hinv.trans (State.txInv_txReady s n n)⟩
  case refine_5 =>
    have hfit : (s.txReady n).fit n = if s.flag R.LN_FIT_CTRL_ENABLE n then fitSignal else fitDisabled :=
      (State.fit_platePart _ _ _ _).trans (State.takeRestarts_of_pend hpend _)
    have htraffic : (s.txReady n).sendsTraffic n = false := by
      unfold State.sendsTraffic
      rw [hfit]
      split <;> decide
    refine ⟨_, execTxFrame_of_training ht htraffic, ?_⟩
    unfold State.txPhaseShown
    dsimp only
    rw [State.lane_setFld]
    refine ⟨?_, (State.sendTraining_spec _ _ _).2.1⟩
    unfold State.fit at hfit ⊢
    rw [State.fld_setFld_ne _ _ _ _ (by decide), State.fld_sendTraining _ _ _ _ (by decide), hfit]

end Sys2Proof.Machine
end

section
/-! SUPPORT. The words of a management packet (R105, R106). -/

namespace Sys2Proof.Machine

/-! ### A packet's words -/

/-- The four bytes of a word, in order from bits 31:24 (R105). -/
def beWord (q : List Nat) : Nat := q.getD 0 0 * 2 ^ 24 + q.getD 1 0 * 2 ^ 16 + q.getD 2 0 * 2 ^ 8 + q.getD 3 0

theorem getD_lt_of_forall {q : List Nat} (h : ∀ b ∈ q, b < 256) (i : Nat) : q.getD i 0 < 256 := by
  rw [List.getD_eq_getElem?_getD]
  cases hq : q[i]? with
  | none => exact Nat.zero_lt_succ _
  | some x => exact h x (List.mem_of_getElem? hq)

theorem kind_packetWord {q : List Nat} (h : ∀ b ∈ q, b < 256) {kind : Nat} (hk : kind < 16) : bits (kind * 2 ^ 32 + beWord q) 32 4 = kind := by
  have h0 := getD_lt_of_forall h 0
  have h1 := getD_lt_of_forall h 1
  have h2 := getD_lt_of_forall h 2
  have h3 := getD_lt_of_forall h 3
  unfold bits beWord
  omega

theorem beBytes4_packetWord {q : List Nat} (h : ∀ b ∈ q, b < 256) (kind : Nat) :
    beBytes4 (kind * 2 ^ 32 + beWord q) = [q.getD 0 0, q.getD 1 0, q.getD 2 0, q.getD 3 0] := by
  have h0 := getD_lt_of_forall h 0
  have h1 := getD_lt_of_forall h 1
  have h2 := getD_lt_of_forall h 2
  have h3 := getD_lt_of_forall h 3
  unfold beBytes4 bits beWord
  refine congrArg₂ List.cons ?_ (congrArg₂ List.cons ?_ (congrArg₂ List.cons ?_ (congrArg₂ List.cons ?_ rfl))) <;> omega

theorem take_length_four {q : List Nat} (h : q.length ≤ 4) : [q.getD 0 0, q.getD 1 0, q.getD 2 0, q.getD 3 0].take q.length = q := by
  match q with
  | [] | [_] | [_, _] | [_, _, _] | [_, _, _, _] => rfl
  | _ :: _ :: _ :: _ :: _ :: _ => simp at h; omega

/-- Bytes 4 `i` to 4 `i` + 3 of a packet (R105). -/
def packetQuad (b : List Nat) (i : Nat) : List Nat := (b.drop (4 * i)).take 4

theorem length_packetQuad (b : List Nat) (i : Nat) : (packetQuad b i).length = min 4 (b.length - 4 * i) := by
  unfold packetQuad
  rw [List.length_take, List.length_drop]

theorem take_append_packetQuad (b : List Nat) (i : Nat) : b.take (4 * i) ++ packetQuad b i = b.take (4 * (i + 1)) := by
  unfold packetQuad
  rw [show 4 * (i + 1) = 4 * i + 4 from rfl, List.take_add]

theorem packetQuad_lt {b : List Nat} (h : ∀ x ∈ b, x < 256) (i : Nat) : ∀ x ∈ packetQuad b i, x < 256 :=
  fun x hx => h x (List.mem_of_mem_drop (List.mem_of_mem_take hx))

/-- The bytes that a word other than the first brings: those of its quad. -/
theorem bytes_packetWord {b : List Nat} (h : ∀ x ∈ b, x < 256) (i kind : Nat) :
    b.take (4 * i) ++ (beBytes4 (kind * 2 ^ 32 + beWord (packetQuad b i))).take (packetQuad b i).length = b.take (4 * (i + 1)) := by
  rw [beBytes4_packetWord (packetQuad_lt h i), take_length_four (by rw [length_packetQuad]; omega), take_append_packetQuad]

theorem mchStep_start {b : List Nat} (h : ∀ x ∈ b, x < 256) (hlen : 4 ≤ b.length) (got : Option (List Nat)) :
    mchStep got (1 * 2 ^ 32 + beWord (packetQuad b 0)) = .on (some (b.take 4)) := by
  have hbytes := bytes_packetWord h 0 1
  rw [length_packetQuad, show min 4 (b.length - 4 * 0) = 4 by omega] at hbytes
  unfold mchStep
  dsimp only
  rw [if_pos (kind_packetWord (packetQuad_lt h 0) (by decide))]
  exact congrArg (fun x => MchStep.on (some x)) hbytes

theorem mchStep_data {b : List Nat} (h : ∀ x ∈ b, x < 256) (hlen : b.length ≤ 2048) {i : Nat} (hi : 4 * (i + 1) ≤ b.length) :
    mchStep (some (b.take (4 * i))) (2 * 2 ^ 32 + beWord (packetQuad b i)) = .on (some (b.take (4 * (i + 1)))) := by
  have hkind := kind_packetWord (packetQuad_lt h i) (kind := 2) (by decide)
  have hbytes := bytes_packetWord h i 2
  rw [length_packetQuad, show min 4 (b.length - 4 * i) = 4 by omega] at hbytes
  unfold mchStep
  rw [hkind]
  simp only [OfNat.ofNat_ne_one, OfNat.ofNat_ne_zero, if_false, if_true, Nat.reduceEqDiff]
  rw [hbytes, if_pos (by rw [List.length_take]; omega)]

theorem mchStep_end {b : List Nat} (h : ∀ x ∈ b, x < 256) {i : Nat} (hi : 4 * i < b.length) (hend : b.length ≤ 4 * (i + 1)) :
    mchStep (some (b.take (4 * i))) ((3 + (packetQuad b i).length) * 2 ^ 32 + beWord (packetQuad b i)) = .whole b := by
  have hlen := length_packetQuad b i
  have hkind := kind_packetWord (packetQuad_lt h i) (kind := 3 + (packetQuad b i).length) (by omega)
  have hbytes := bytes_packetWord h i (3 + (packetQuad b i).length)
  unfold mchStep
  dsimp only
  rw [hkind, if_neg (by omega), if_neg (by omega), if_neg (by omega), if_neg (by omega), if_pos (by simp; omega), if_neg (by omega),
    Nat.add_sub_cancel_left, hbytes, List.take_of_length_le hend]

end Sys2Proof.Machine
end

section
/-! O13: the management channel (R105 to R107). -/

namespace Sys2Proof.Machine

theorem crc32Bytes_lt (l : List Nat) : crc32Bytes l < 2 ^ 32 := by
  unfold crc32Bytes
  omega

/-- The four bytes of a packet's CRC-32, most significant first (R106). -/
def crcTail (p : List Nat) : List Nat := beBytes4 (crc32Bytes p)

/-- The CRC-32 of a packet's own payload is the one that its last four bytes give. -/
theorem packetPayload_packet {p : List Nat} (hne : p ≠ []) (hlen : p.length ≤ 2044) : packetPayload (p ++ crcTail p) = some p := by
  have hcrc := crc32Bytes_lt p
  have hpos : 0 < p.length := List.length_pos_of_ne_nil hne
  have htail : (crcTail p).foldl (fun c x => c * 256 + x) 0 = crc32Bytes p := by
    unfold crcTail beBytes4 bits
    simp only [List.foldl_cons, List.foldl_nil]
    omega
  have hl : (p ++ crcTail p).length = p.length + 4 := List.length_append
  unfold packetPayload
  rw [hl, Nat.add_sub_cancel, List.take_left, List.drop_left, htail]
  exact if_pos (by simp; omega)

theorem crcTail_lt (p : List Nat) : ∀ x ∈ crcTail p, x < 256 := by
  unfold crcTail beBytes4 bits
  intro x hx
  simp only [List.mem_cons, List.not_mem_nil, or_false] at hx
  omega

theorem packetWords_eq (p : List Nat) : packetWords p = (List.range (((p ++ crcTail p).length + 3) / 4)).map (fun i =>
    (if i = 0 then 1 else if i + 1 < ((p ++ crcTail p).length + 3) / 4 then 2 else 3 + (packetQuad (p ++ crcTail p) i).length) * 2 ^ 32
      + beWord (packetQuad (p ++ crcTail p) i)) := rfl

/-! ### Words received one after another (R105) -/

/-- `t` is `s` but for its lanes. -/
def State.OnlyLanes (s t : State) : Prop := t = { s with lanes := t.lanes }

theorem State.OnlyLanes.refl (s : State) : s.OnlyLanes s := rfl

theorem State.OnlyLanes.fld {s t : State} (h : s.OnlyLanes t) (f : Fld) (i : Nat) : t.fld f i = s.fld f i := by
  rw [h]
  rfl

theorem State.OnlyLanes.updLane {s t : State} (h : s.OnlyLanes t) (n : Nat) (f : LaneSt → LaneSt) : s.OnlyLanes (t.updLane n f) := by
  unfold State.OnlyLanes at h ⊢
  rw [h]
  rfl

theorem State.mchRx_updLane (s : State) (n : Nat) (b : Option (List Nat)) : ((s.updLane n (fun l => { l with mchRx := b })).lane n).mchRx = b := by
  rw [State.lane_updLane_self]

theorem State.mchWord_on {s : State} {n w : Nat} (he : s.flag R.LN_MCH_CTRL_ENABLE n = true) {b : Option (List Nat)}
    (h : mchStep (s.lane n).mchRx w = .on b) : s.mchWord n w = s.updLane n (fun l => { l with mchRx := b }) := by
  unfold State.mchWord
  rw [he, h]
  rfl

theorem State.mchWord_broken {s : State} {n w : Nat} (he : s.flag R.LN_MCH_CTRL_ENABLE n = true) (h : mchStep (s.lane n).mchRx w = .broken) :
    s.mchWord n w = (s.updLane n (fun l => { l with mchRx := none })).badPacket n := by
  unfold State.mchWord
  rw [he, h]
  rfl

theorem State.mchWord_bad {s : State} {n w : Nat} (he : s.flag R.LN_MCH_CTRL_ENABLE n = true) {b : List Nat}
    (h : mchStep (s.lane n).mchRx w = .whole b) (hb : packetPayload b = none) :
    s.mchWord n w = (s.updLane n (fun l => { l with mchRx := none })).badPacket n := by
  unfold State.mchWord
  rw [he, h]
  dsimp only
  rw [hb]
  rfl

theorem State.mchWord_whole {s : State} {n w : Nat} (he : s.flag R.LN_MCH_CTRL_ENABLE n = true) {b p : List Nat}
    (h : mchStep (s.lane n).mchRx w = .whole b) (hb : packetPayload b = some p) :
    s.mchWord n w = (s.updLane n (fun l => { l with mchRx := none })).storePacket n p := by
  unfold State.mchWord
  rw [he, h]
  dsimp only
  rw [hb]
  rfl

/-- The words before a packet's last leave what they have brought in progress. -/
theorem State.foldl_mchWord_on {s : State} {n : Nat} (he : s.flag R.LN_MCH_CTRL_ENABLE n = true) (w : Nat → Nat) (g : Nat → Option (List Nat))
    (hg : g 0 = (s.lane n).mchRx) (m : Nat) (hstep : ∀ i, i < m → mchStep (g i) (w i) = .on (g (i + 1))) :
    s.OnlyLanes (((List.range m).map w).foldl (fun t x => t.mchWord n x) s) ∧ ((((List.range m).map w).foldl (fun t x => t.mchWord n x) s).lane n).mchRx = g m := by
  induction m with
  | zero => exact ⟨.refl s, hg.symm⟩
  | succ m ih =>
    obtain ⟨honly, hrx⟩ := ih (fun i hi => hstep i (by omega))
    rw [List.range_succ, List.map_append, List.foldl_append]
    generalize ((List.range m).map w).foldl (fun t x => t.mchWord n x) s = t at honly hrx ⊢
    have het : t.flag R.LN_MCH_CTRL_ENABLE n = true := (State.flag_of_fld (honly.fld _ _)).trans he
    have hon := hstep m (by omega)
    rw [← hrx] at hon
    rw [List.map_cons, List.map_nil, List.foldl_cons, List.foldl_nil, State.mchWord_on het hon, State.lane_updLane_self]
    exact ⟨honly.updLane _ _, rfl⟩

/-- What the words of packet `b` have brought when `i` of them have come. -/
def packetGot (got : Option (List Nat)) (b : List Nat) (i : Nat) : Option (List Nat) := if i = 0 then got else some (b.take (4 * i))

/-- The words of a packet bring it whole (R105, R106). -/
theorem State.foldl_mchWord_packet {s : State} {n : Nat} (he : s.flag R.LN_MCH_CTRL_ENABLE n = true) {p : List Nat} (hne : p ≠ []) (hlen : p.length ≤ 2044)
    (hp : ∀ x ∈ p, x < 256) : ∃ t, s.OnlyLanes t ∧ (packetWords p).foldl (fun t x => t.mchWord n x) s = t.storePacket n p ∧ (t.lane n).mchRx = none := by
  have hpos : 0 < p.length := List.length_pos_of_ne_nil hne
  have hpay := packetPayload_packet hne hlen
  have hl : (p ++ crcTail p).length = p.length + 4 := List.length_append
  have hb : ∀ x ∈ p ++ crcTail p, x < 256 := fun x hx => (List.mem_append.1 hx).elim (hp x) (crcTail_lt p x)
  rw [packetWords_eq]
  generalize p ++ crcTail p = b at hpay hl hb ⊢
  obtain ⟨k, hk⟩ : ∃ k, (b.length + 3) / 4 = k + 1 := ⟨(b.length + 3) / 4 - 1, by omega⟩
  rw [hk, List.range_succ, List.map_append, List.foldl_append]
  obtain ⟨honly, hrx⟩ := State.foldl_mchWord_on he (fun i => (if i = 0 then 1 else if i + 1 < k + 1 then 2 else 3 + (packetQuad b i).length) * 2 ^ 32
      + beWord (packetQuad b i)) (packetGot (s.lane n).mchRx b) rfl k (by
    intro i hi
    cases i with
    | zero => exact mchStep_start hb (by omega) _
    | succ i =>
      rw [if_neg (by omega), if_pos (by omega)]
      exact mchStep_data hb (by omega) (by omega))
  generalize ((List.range k).map _).foldl (fun t x => t.mchWord n x) s = u at honly hrx ⊢
  have heu : u.flag R.LN_MCH_CTRL_ENABLE n = true := (State.flag_of_fld (honly.fld _ _)).trans he
  have hlast : mchStep (u.lane n).mchRx ((3 + (packetQuad b k).length) * 2 ^ 32 + beWord (packetQuad b k)) = .whole b := by
    rw [hrx]
    unfold packetGot
    rw [if_neg (by omega)]
    exact mchStep_end hb (by omega) (by omega)
  refine ⟨u.updLane n (fun l => { l with mchRx := none }), honly.updLane _ _, ?_, State.mchRx_updLane _ _ _⟩
  rw [List.map_cons, List.map_nil, List.foldl_cons, List.foldl_nil, if_neg (by omega), if_neg (by omega)]
  exact State.mchWord_whole heu hlast hpay

/-! ### The ring of packets received (R106, R107) -/

theorem State.storePacket_of_full {s : State} {n : Nat} (p : List Nat) (h : (s.fld R.LN_MCH_IDX_RX_HEAD n + 1) % 64 = s.fld R.LN_MCH_IDX_RX_TAIL n) :
    s.storePacket n p = (s.satFld R.LN_MCH_STAT_RX_DROP n 1).latch R.LN_DEF_EVT_MCH_DROP n := if_pos h

theorem State.storePacket_of_room {s : State} {n : Nat} {p : List Nat} (h : (s.fld R.LN_MCH_IDX_RX_HEAD n + 1) % 64 ≠ s.fld R.LN_MCH_IDX_RX_TAIL n)
    (hddr : s.inDdr (mchEntry (s.fld R.LN_MCH_RXBASE_BASE n) (s.fld R.LN_MCH_IDX_RX_HEAD n)) 2048 = true) :
    s.storePacket n p = (((s.writeBytes (mchEntry (s.fld R.LN_MCH_RXBASE_BASE n) (s.fld R.LN_MCH_IDX_RX_HEAD n))
      ((leBytes 2 p.length ++ leBytes 2 0 ++ p.map (BitVec.ofNat 8)).take 2048)).setFld R.LN_MCH_IDX_RX_HEAD n
        (s.fld R.LN_MCH_IDX_RX_HEAD n + 1)).latch R.LN_DEF_EVT_MCH_RX n) := by
  unfold State.storePacket
  dsimp only
  rw [if_neg h, if_pos hddr]

theorem State.badPacket_spec (s : State) (n : Nat) : (s.badPacket n).mem = s.mem ∧ (s.badPacket n).latched R.LN_DEF_EVT_MCH_ERR n = true
    ∧ (s.badPacket n).lane n = s.lane n ∧ (s.badPacket n).fld R.LN_MCH_STAT_RX_BAD n = satAdd 65535 (s.fld R.LN_MCH_STAT_RX_BAD n) 1 := by
  refine ⟨?_, State.latched_latch _ _ _ (by decide), State.lane_badPacket _ _ _, ?_⟩
  · unfold State.badPacket
    rw [State.latch_mem, State.satFld_mem]
  · unfold State.badPacket
    rw [State.fld_latch_ne _ _ _ _ (by decide), State.fld_satFld_self]
    rfl

theorem State.byte_congr {s t : State} (hmem : t.mem = s.mem) (hddr : t.ddr = s.ddr) (a : Nat) : t.byte a = s.byte a := by
  have hblank : t.blankAt a = s.blankAt a := by
    unfold State.blankAt
    rw [hddr]
  unfold State.byte
  rw [hmem, hblank, hddr]

/-- A good packet stands at RX_HEAD, which advances (R107). -/
theorem State.storePacket_stores {s : State} {n : Nat} {p : List Nat} (hwf : s.MemWf) (hlen : p.length ≤ 2044)
    (h : (s.fld R.LN_MCH_IDX_RX_HEAD n + 1) % 64 ≠ s.fld R.LN_MCH_IDX_RX_TAIL n)
    (hddr : s.inDdr (mchEntry (s.fld R.LN_MCH_RXBASE_BASE n) (s.fld R.LN_MCH_IDX_RX_HEAD n)) 2048 = true) :
    StoresAt s (s.storePacket n p) (mchEntry (s.fld R.LN_MCH_RXBASE_BASE n) (s.fld R.LN_MCH_IDX_RX_HEAD n))
        (leBytes 2 p.length ++ leBytes 2 0 ++ p.map (BitVec.ofNat 8))
      ∧ (s.storePacket n p).fld R.LN_MCH_IDX_RX_HEAD n = (s.fld R.LN_MCH_IDX_RX_HEAD n + 1) % 64
      ∧ (s.storePacket n p).latched R.LN_DEF_EVT_MCH_RX n = true ∧ (s.storePacket n p).lane n = s.lane n := by
  rw [State.storePacket_of_room h hddr, List.take_of_length_le (by simp [leBytes]; omega)]
  generalize leBytes 2 p.length ++ leBytes 2 0 ++ p.map (BitVec.ofNat 8) = l
  generalize mchEntry (s.fld R.LN_MCH_RXBASE_BASE n) (s.fld R.LN_MCH_IDX_RX_HEAD n) = a
  have hbyte : ∀ c, (((s.writeBytes a l).setFld R.LN_MCH_IDX_RX_HEAD n (s.fld R.LN_MCH_IDX_RX_HEAD n + 1)).latch R.LN_DEF_EVT_MCH_RX n).byte c
      = (s.writeBytes a l).byte c := fun c =>
    State.byte_congr (State.latch_mem _ _ _) (State.latch_ddr _ _ _) c
  refine ⟨⟨?_, fun c hc => (hbyte c).trans (State.byte_writeBytes_ne s l hc)⟩, ?_, State.latched_latch _ _ _ (by decide), ?_⟩
  · refine Eq.trans ?_ (State.readBytes_writeBytes hwf a l)
    unfold State.readBytes
    exact List.map_congr_left (fun k _ => hbyte _)
  · rw [State.fld_latch_ne _ _ _ _ (by decide), State.fld_setFld_self]
    rfl
  · rw [State.lane_latch, State.lane_setFld, State.lane_writeBytes]

theorem execMchPacketRx_of_sync {n : LaneIx} {s : State} (he : s.flag R.LN_MCH_CTRL_ENABLE n = true) (h : s.inSync n = true) (ws : List SlotWord) :
    execMchPacketRx n ws s = .next ((ws.map BitVec.toNat).foldl (fun t w => t.mchWord n w) s) := by
  unfold execMchPacketRx
  rw [he, h]
  rfl

theorem execMchPacketRx_of_no_sync {n : LaneIx} {s : State} (he : s.flag R.LN_MCH_CTRL_ENABLE n = true) (h : s.inSync n = false) (ws : List SlotWord) :
    execMchPacketRx n ws s = .next (s.dropPacket n) := by
  unfold execMchPacketRx
  rw [he, h]
  rfl

theorem mchStep_abort {w : Nat} (h : bits w 32 4 = 8) (got : Option (List Nat)) : mchStep got w = .on none := by
  unfold mchStep
  rw [h]
  cases got <;> rfl

/-- The entry at TX_TAIL joins what the lane sends (R107). -/
theorem execMchPacketTx_eq {n : LaneIx} {s : State} (he : s.flag R.LN_MCH_CTRL_ENABLE n = true) (ht : s.sendsTraffic n = true)
    (hne : s.fld R.LN_MCH_IDX_TX_TAIL n ≠ s.fld R.LN_MCH_IDX_TX_HEAD n)
    (hddr : s.inDdr (mchEntry (s.fld R.LN_MCH_TXBASE_BASE n) (s.fld R.LN_MCH_IDX_TX_TAIL n)) 2048 = true) :
    let a := mchEntry (s.fld R.LN_MCH_TXBASE_BASE n) (s.fld R.LN_MCH_IDX_TX_TAIL n)
    ∃ us, execMchPacketTx n s = .next (((s.readUnits us).updLane n (fun l => { l with
      mchTx := l.mchTx ++ packetWords ((s.readBytes (a + 4) (min (s.readLe a 2) 2044)).map BitVec.toNat) })).setFld
        R.LN_MCH_IDX_TX_TAIL n (s.fld R.LN_MCH_IDX_TX_TAIL n + 1)) := by
  intro a
  refine ⟨ddrUnits (a - ddrBase) (4 + min (s.readLe a 2) 2044), congrArg Host.Outcome.next ((if_pos ?_).trans (if_neg ?_))⟩
  · simp [he, ht, hne]
  · simp [hddr]

/-- Settles O13. -/
theorem managementPackets : Obligations.ManagementPackets := by
  unfold Obligations.ManagementPackets
  intro n s he
  have hone : ∀ w : SlotWord, s.inSync n = true → exec (.mchPacketRx n [w]) s = .next (s.mchWord n w.toNat) := fun w h =>
    execMchPacketRx_of_sync he h [w]
  refine ⟨fun ws p hsync hne hlen hp hws hwf hroom hddr => ?_, fun w b p hsync hstep hpay hfull => ?_, fun w hsync hstep => ?_, fun w hsync hkind => ?_,
    fun ws hsync => ⟨fun hrx => ?_, fun hrx => ?_⟩, fun ht hne hddr => ?_⟩
  · obtain ⟨t, honly, hfold, hrx⟩ := State.foldl_mchWord_packet he hne hlen hp
    refine ⟨t.storePacket n p, (execMchPacketRx_of_sync he hsync ws).trans ?_, ?_⟩
    · rw [hws, hfold]
    rw [honly] at hrx ⊢
    obtain ⟨hstores, hhead, hevt, hlane⟩ := State.storePacket_stores (s := { s with lanes := t.lanes }) hwf hlen hroom hddr
    exact ⟨hstores, hhead, hevt, (congrArg LaneSt.mchRx hlane).trans hrx⟩
  · refine ⟨_, (hone w hsync).trans (congrArg _ (State.mchWord_whole he hstep hpay)), ?_⟩
    rw [State.storePacket_of_full p (s := s.updLane n (fun l => { l with mchRx := none })) hfull]
    refine ⟨?_, State.latched_latch _ _ _ (by decide), ?_, ?_⟩
    · rw [State.latch_mem]
      rfl
    · rw [State.lane_latch]
      exact State.mchRx_updLane s n none
    · rw [State.fld_latch_ne _ _ _ _ (by decide), State.fld_satFld_self]
      rfl
  · have hbad : s.mchWord n w.toNat = (s.updLane n (fun l => { l with mchRx := none })).badPacket n := by
      rcases hstep with hb | ⟨b, hb, hpay⟩
      · exact State.mchWord_broken he hb
      · exact State.mchWord_bad he hb hpay
    obtain ⟨hmem, hevt, hlane, hcount⟩ := State.badPacket_spec (s.updLane n (fun l => { l with mchRx := none })) n
    refine ⟨_, (hone w hsync).trans (congrArg _ hbad), hmem, hevt, ?_, hcount⟩
    rw [hlane]
    exact State.mchRx_updLane s n none
  · refine ⟨_, (hone w hsync).trans (congrArg _ (State.mchWord_on he (mchStep_abort hkind _))), rfl, rfl, ?_⟩
    exact State.mchRx_updLane s n none
  · obtain ⟨hmem, hevt, -, hcount⟩ := State.badPacket_spec s n
    refine ⟨_, (execMchPacketRx_of_no_sync he hsync ws).trans (congrArg _ (if_pos hrx)), hmem, hevt, ?_, hcount⟩
    exact State.mchRx_updLane _ n none
  · refine ⟨_, (execMchPacketRx_of_no_sync he hsync ws).trans (congrArg _ (if_neg ?_)), rfl⟩
    rw [hrx]
    exact Bool.false_ne_true
  · obtain ⟨us, hexec⟩ := execMchPacketTx_eq he ht hne hddr
    refine ⟨_, hexec, State.fld_setFld_self _ _ _ _, ?_, ?_⟩
    · exact State.readUnits_k (loose_part s .mem (by decide) (by decide) (by decide)) rfl us
    · rw [State.lane_setFld, State.lane_updLane_self, State.lane_readUnits]

end Sys2Proof.Machine
end

section
/-! SUPPORT. An accepted write of any register (R8, R306, R309). -/

namespace Sys2Proof.Machine

/-- The registers stand at aligned addresses below the memories, and not in the tally's window (R15, R382). -/
theorem reg_addresses : ∀ r ∈ regTable, r.addr (r.first + r.count - 1) < 0x10000000 ∧ r.base % 4 = 0 ∧ r.stride % 4 = 0
    ∧ (r.addr (r.first + r.count - 1) < 0x68000 ∨ 0x70000 ≤ r.base) := by decide +kernel

theorem Reg.addr_facts {r : Reg} (hr : r ∈ regTable) {i : Nat} (h : i < r.first + r.count) :
    r.addr i < 0x10000000 ∧ r.addr i % 4 = 0 ∧ (r.addr i < 0x68000 ∨ 0x70000 ≤ r.addr i) := by
  obtain ⟨hlast, hbase, hstride, hwin⟩ := reg_addresses r hr
  have hle : r.addr i ≤ r.addr (r.first + r.count - 1) := Nat.add_le_add_left (Nat.mul_le_mul_right _ (by omega)) _
  have hge : r.base ≤ r.addr i := Nat.le_add_right _ _
  refine ⟨by omega, ?_, by omega⟩
  unfold Reg.addr
  rw [Nat.add_mod, hbase, Nat.mul_mod, hstride]
  simp

/-- The place of a register that an accepted write names. -/
theorem Reg.place_of_accepts {r : Reg} (hr : r ∈ regTable) {i : Nat} (h : i < r.first + r.count) {s : State} {m : Nat} (ha : s.accepts m r.id i = true) :
    place (r.addr i) = .reg (r.addr i) := by
  obtain ⟨hlt, -, hwin⟩ := Reg.addr_facts hr h
  exact (place_low hlt hwin).resolve_right (State.place_of_accepts hr ha)

theorem State.takeWord_of_host {s : State} {m : Nat} (hm : s.mirrors m = false) (r : Reg) (i w : Nat) (img : Option SlotImage) :
    s.takeWord m r i w img =
      (((s.storeWord m r i w (fun _ => !s.storesFields r.id w)).writeEffect s m r.id i w img).journalWrite r i w).answer .ok [] := by
  unfold State.takeWord
  dsimp only
  rw [hm, if_neg Bool.false_ne_true]

/-- What an accepted write of a register does: its fields take the word, its action is performed, and the active journals it where the mate
must know of it (R8, R309). -/
theorem State.regWrite_accepted {r : Reg} (hr : r ∈ regTable) {i : Nat} (h1 : r.first ≤ i) (h2 : i < r.first + r.count) (ht : r.takesWhole = true)
    {s : State} {m : Nat} (ha : s.accepts m r.id i = true) (w : Nat) :
    s.regWrite m r.id i w =
      (((s.taken m r i w).writeEffect (s.park m (.reg (r.addr i))) m r.id i w none).journalWrite r i w).completed := by
  have hp := Reg.place_of_accepts hr h2 ha
  obtain ⟨-, hal, -⟩ := Reg.addr_facts hr h2
  obtain ⟨hok, hm⟩ := (State.accepts_iff hr s m i).mp ha
  have haligned : misaligned (r.addr i) (.reg (r.addr i)) = false := by simp [misaligned, hal]
  unfold State.regWrite
  rw [find_of_id hr]
  unfold State.hostWrite State.writePriv
  simp only [hok, hp, haligned, Bool.false_eq_true, if_false]
  unfold State.writePlace
  dsimp only
  rw [State.writeRegAt_of_takesWhole hr h1 h2 ht, State.takeWord_of_host (by rw [State.mirrors_park, hm])]
  rfl

/-- An accepted write of a register whose fields are all commands: the path to it is parked, its action is performed. -/
theorem State.regWrite_command {r : Reg} (hr : r ∈ regTable) {i : Nat} (h1 : r.first ≤ i) (h2 : i < r.first + r.count) (ht : r.takesWhole = true)
    (hwo : ∀ c ∈ r.slices, c.fld.ty = .wo) {s : State} {m : Nat} (ha : s.accepts m r.id i = true) (w : Nat) :
    s.regWrite m r.id i w =
      (((s.park m (.reg (r.addr i))).writeEffect (s.park m (.reg (r.addr i))) m r.id i w none).journalWrite r i w).completed := by
  rw [State.regWrite_accepted hr h1 h2 ht ha]
  unfold State.taken
  rw [State.storeWord_of_wo hwo]

/-- Parking the path to a register changes one field (R404). -/
theorem State.park_eq (s : State) (m a : Nat) : ∃ r, s.park m (.reg a) = { s with regs := r } := by
  unfold State.park
  dsimp only
  split
  · exact ⟨_, rfl⟩
  · exact ⟨s.regs, rfl⟩

end Sys2Proof.Machine
end

section
/-! SUPPORT. What decides the schedule in force for a frame (R147 to R154, R204, R205). -/

namespace Sys2Proof.Machine

/-- What the actions of bents and the schedule in force for a frame take from the state is in `t` as in `s`. -/
structure State.SameBents (s t : State) : Prop where
  links : t.links = s.links
  chg : t.chg = s.chg
  tap : t.tap = s.tap
  sched : t.sched = s.sched
  actions : t.actions = s.actions
  cap : t.lpCap = s.lpCap
  guard : ∀ b, t.guard b = s.guard b
  policy : ∀ b, t.fld R.BNT_CFG_POLICY b = s.fld R.BNT_CFG_POLICY b

section
variable {s t : State} (h : s.SameBents t)
include h

theorem State.SameBents.link (src : Nat) : t.link src = s.link src := by
  unfold State.link
  rw [h.links]

theorem State.SameBents.offline : t.offline = s.offline := by
  funext src
  unfold State.offline
  rw [h.link]

theorem State.SameBents.reusable : t.reusable = s.reusable := by
  funext q
  unfold State.reusable
  rw [h.chg]

theorem State.SameBents.member : BentAction.member t = BentAction.member s := by
  funext a ref m
  unfold BentAction.member
  rw [h.offline]

theorem State.SameBents.run (a : BentAction) (sc : Schedule) (tap : Tab (Tab TapEnt)) : a.run t sc tap = a.run s sc tap := by
  unfold BentAction.run
  rw [h.offline, h.member, h.cap, h.reusable]

theorem State.SameBents.growUnits (sc : Schedule) (b ref' : Nat) (held : List BentUnit) (steps : List (Nat × Nat)) :
    t.growUnits sc b ref' held steps = s.growUnits sc b ref' held steps := by
  unfold State.growUnits
  simp only [h.offline, h.run, h.tap]

theorem State.SameBents.withinUnits (sc : Schedule) (b ref : Nat) (steps : List (Nat × Nat)) :
    t.withinUnits sc b ref steps = s.withinUnits sc b ref steps := by
  unfold State.withinUnits
  simp only [h.offline, h.run, h.tap]

theorem State.SameBents.stepUnits (sc : Schedule) (b : Nat) (steps : List (Nat × Option Nat)) : t.stepUnits sc b steps = s.stepUnits sc b steps := by
  unfold State.stepUnits
  simp only [h.withinUnits, h.growUnits, h.policy, h.guard]

theorem State.SameBents.rework (a : BentAction) (sc : Schedule) : a.rework t sc = a.rework s sc := by
  unfold BentAction.rework
  simp only [h.guard, h.stepUnits]

theorem State.SameBents.settle (a : BentAction) (sc : Schedule) : a.settle t sc = a.settle s sc := by
  unfold BentAction.settle
  rw [h.rework, h.run, h.tap]

theorem State.SameBents.onSched (a : BentAction) : a.onSched t = a.onSched s := by
  funext sc
  unfold BentAction.onSched
  rw [h.settle, h.run, h.tap]

theorem State.SameBents.actOn (f : Nat) (l : List BentAction) (sc : Schedule) : t.actOn f l sc = s.actOn f l sc := by
  unfold State.actOn
  simp only [h.onSched]

theorem State.SameBents.schedAt (f : Nat) : t.schedAt f = s.schedAt f := by
  unfold State.schedAt
  simp only [h.chg, h.actOn, h.actions, h.sched]

theorem State.SameBents.deferNow (a : BentAction) : t.deferNow a = s.deferNow a := by
  unfold State.deferNow
  rw [h.chg]

end

theorem State.sameBents_park (s : State) (m a : Nat) : s.SameBents (s.park m (.reg a)) := by
  have hcap : (s.park m (.reg a)).lpCap = s.lpCap := State.fld_park_ne s m _ 0 (by decide)
  have hguard : ∀ b, (s.park m (.reg a)).guard b = s.guard b := fun b => State.fld_park_ne s m _ b (by decide)
  have hpolicy : ∀ b, (s.park m (.reg a)).fld R.BNT_CFG_POLICY b = s.fld R.BNT_CFG_POLICY b := fun b => State.fld_park_ne s m _ b (by decide)
  obtain ⟨r, hr⟩ := State.park_eq s m a
  rw [hr] at hcap hguard hpolicy ⊢
  exact ⟨rfl, rfl, rfl, rfl, rfl, hcap, hguard, hpolicy⟩

end Sys2Proof.Machine
end

section
/-! O14: the actions of bents (R139, R147 to R154, R159, R160). -/

namespace Sys2Proof.Machine

/-! ### An action that takes effect (R147 to R154) -/

/-- The sides, the storage and the events of an action that has changed the schedule leave the schedule and what is decided as they are. -/
theorem State.actionApplied_k {K : State → Prop} (hK : Loose 0x40000000000000000400100008000000000000000000000000000000000000000000000120430c00 K)
    {s : State} (h : K s) (tap : Tab (Tab TapEnt)) (p : Nat → Bool) (old new : Schedule) (before : State) (a : BentAction) (g : Nat) (ret : Bool) :
    K ((((((((s.stampTaps tap).clearMoved p old new).releaseTaps old new).settleTaps).watchOver).noteApply before).actionEvents a g ret)) :=
  State.actionEvents_k (hK.mono (by decide)) (State.noteApply_k (hK.mono (by decide)) (State.watchOver_k (hK.mono (by decide))
    (State.settleTaps_k (hK.mono (by decide)) (State.releaseTaps_k (hK.mono (by decide)) (State.clearMoved_k (hK.mono (by decide))
      (State.stampTaps_k (hK.mono (by decide)) h tap) p old new) old new))) before) a g ret

theorem State.takeAction_of_run {s : State} {a : BentAction} {sc : Schedule} {tap : Tab (Tab TapEnt)}
    (h : (a.settle s s.sched).run s s.sched s.tap = some (sc, tap)) :
    (s.takeAction a).sched = sc ∧ (s.takeAction a).actions = s.actions.filter (· != a) := by
  unfold State.takeAction
  dsimp only
  rw [h]
  dsimp only
  constructor
  · refine Eq.trans (State.actionApplied_k (loose_part _ .sched (by decide) (by decide) (by decide)) rfl _ _ _ _ _ _ _ _) ?_
    rfl
  · refine Eq.trans (State.actionApplied_k (loose_part _ .actions (by decide) (by decide) (by decide)) rfl _ _ _ _ _ _ _ _) ?_
    rfl

theorem BentAction.bent_settle (s : State) (a : BentAction) (sc : Schedule) : (a.settle s sc).bent = a.bent := by
  unfold BentAction.settle
  split
  · unfold BentAction.rework
    dsimp only
    split <;> rfl
  · rfl

/-- An action that is refused changes nothing of the bent (R151, R160). -/
theorem State.takeAction_of_refused {s : State} {a : BentAction} (h : (a.settle s s.sched).run s s.sched s.tap = none) :
    (s.takeAction a).sched = s.sched ∧ (s.takeAction a).actions = s.actions.filter (· != a)
      ∧ (s.takeAction a).latched R.BNT_EVT_GROW_FAIL a.bent = true := by
  unfold State.takeAction
  dsimp only
  rw [h]
  dsimp only
  rw [BentAction.bent_settle]
  exact ⟨State.latch_sched _ _ _, State.latch_actions _ _ _, State.latched_latch _ _ _ (by decide)⟩

theorem not_mem_filter_ne {a : BentAction} (l : List BentAction) : a ∉ l.filter (· != a) := by simp

theorem State.latched_latchIf {b : Bool} (h : b = true) (s : State) (e : Ev) (i : Nat) (hbit : e.bit < e.reg.width) : (s.latchIf b e i).latched e i = true := by
  unfold State.latchIf
  rw [if_pos h]
  exact State.latched_latch _ _ _ hbit

/-! ### Joining (R139) -/

theorem State.joinMember_of_can {s : State} {src b f : Nat} {m : Membership} (hm : s.sched.memberOf src = some (b, m)) (hf : (s.link src).joinAt = some f)
    (hstate : (s.link src).state = .pending ∨ (s.link src).state = .unlocked) (hbent : (s.link src).bent = b) (hreach : frameReached s.frame f = true)
    (hcan : s.canJoin m s.frame = true) :
    s.joinMember src = (s.updLink src (fun l => { l with state := .active, joinAt := none, run := 0 })).latchIf (s.frame != f) R.BNT_EVT_LOCK_LATE b := by
  unfold State.joinMember
  dsimp only
  rw [hm, hf]
  dsimp only
  rw [if_pos (by simp [hstate, hbent, hreach]), if_pos hcan]

theorem State.link_latchIf (s : State) (c : Bool) (e : Ev) (i src : Nat) : (s.latchIf c e i).link src = s.link src := by
  unfold State.link
  rw [State.latchIf_links]

theorem State.link_updLink (s : State) (src : Nat) (f : Link → Link) : (s.updLink src f).link src = f (s.link src) := Tab.get_put_self _ _ _ _

/-! ### A retime that is asked for (R159) -/

/-- An action that is decided waits for its frame. -/
theorem State.actions_decideAction (s : State) (a : BentAction) : (s.decideAction a).actions = s.actions ++ [s.deferNow a] := by
  unfold State.decideAction
  dsimp only
  refine (State.journal_k (loose_part _ .actions (by decide) (by decide) (by decide))
    (State.markStale_k (loose_part _ .actions (by decide) (by decide) (by decide)) rfl _) _ _ _ _).trans ?_
  split <;> rfl

/-- The frame of a retime: the named one, or 4 frames on where that is sooner (R159). -/
def State.retimeFrame (s : State) (b : Nat) : Nat :=
  if frameReached (s.fld R.BNT_RETIME_FRAME_FRAME b) (frameAdd s.frame 4) then s.fld R.BNT_RETIME_FRAME_FRAME b else frameAdd s.frame 4

/-- The retime of bent `b` at frame `f` (R159). -/
def State.retimeAction (s : State) (b f : Nat) : BentAction :=
  { bent := b, at' := f, units := [{ act := .retime, src := 0, arr := 0, ref := maxArr ((s.schedAt f).membersOf b) + s.guard b }] }

theorem State.requestRetime_of_members {s : State} {b : Nat} (h : (s.schedAt (s.retimeFrame b)).membersOf b ≠ []) :
    s.requestRetime b = s.decideAction (s.retimeAction b (s.retimeFrame b)) := if_neg (fun he => h (List.isEmpty_iff.1 he))

theorem State.SameBents.retimeAction {s t : State} (h : s.SameBents t) (b f : Nat) : t.retimeAction b f = s.retimeAction b f := by
  unfold State.retimeAction
  rw [h.schedAt, h.guard]

/-- BNT_CTRL in the register table. -/
def bntCtrlReg : Reg := ⟨RN.BNT_CTRL, 0x3000004, 0, 16384, 0x100, .single, [⟨R.BNT_CTRL_RETIME, 0, 0, 1⟩]⟩

theorem State.actions_completed (s : State) : s.completed.actions = s.actions := by
  obtain ⟨x, h⟩ := s.completed_eq
  rw [h]
  rfl

theorem State.actions_journalWrite (s : State) (r : Reg) (i w : Nat) : (s.journalWrite r i w).actions = s.actions := by
  unfold State.journalWrite
  split
  · exact State.journal_k (loose_part _ .actions (by decide) (by decide) (by decide)) rfl _ _ _ _
  · rfl

/-- An accepted retime is decided on the bent as it stands. -/
theorem State.actions_bentRetime {s : State} {m : Nat} {b w : Nat} (hb : b < 16384) (ha : s.accepts m RN.BNT_CTRL b = true)
    (h : (s.schedAt (s.retimeFrame b)).membersOf b ≠ []) :
    (s.regWrite m RN.BNT_CTRL b (putBits w 0 1 1)).actions = s.actions ++ [s.deferNow (s.retimeAction b (s.retimeFrame b))]
      ∧ (s.regWrite m RN.BNT_CTRL b (putBits w 0 1 1)).resp.status = .ok := by
  have hwrite := State.regWrite_command (r := bntCtrlReg) (by decide) (Nat.zero_le b) (show b < 0 + 16384 by omega) (by decide) (by decide) ha
    (putBits w 0 1 1)
  rw [show s.regWrite m RN.BNT_CTRL b (putBits w 0 1 1) = _ from hwrite]
  refine ⟨?_, State.completed_status _⟩
  rw [State.actions_completed, State.actions_journalWrite]
  have hsame := State.sameBents_park s m (bntCtrlReg.addr b)
  have hframe : (s.park m (.reg (bntCtrlReg.addr b))).retimeFrame b = s.retimeFrame b := by
    unfold State.retimeFrame
    rw [State.frame_park, State.fld_park_ne _ _ _ _ (by decide)]
  generalize s.park m (.reg (bntCtrlReg.addr b)) = u at hsame hframe ⊢
  have heffect : u.writeEffect u m bntCtrlReg.id b (putBits w 0 1 1) none = u.requestRetime b := if_pos (bit_putBits_one _ _)
  have hmembers : (u.schedAt (u.retimeFrame b)).membersOf b ≠ [] := by
    rw [hframe, hsame.schedAt]
    exact h
  rw [heffect, State.requestRetime_of_members hmembers, State.actions_decideAction, hframe, hsame.actions, hsame.deferNow, hsame.retimeAction]

/-- Settles O14. -/
theorem bentsAct : Obligations.BentsAct := by
  unfold Obligations.BentsAct
  intro s
  refine ⟨fun src b m f hm hf hstate hbent hreach hcan _ => ?_, fun b a sc tap hdue hrun => ?_, fun b a hdue hrun => ?_, fun b a sc tap hdue hrun => ?_,
    fun b p hp hreach => ?_, fun m b w f ha hf hmem => ?_⟩
  · refine ⟨_, congrArg Host.Outcome.next (State.joinMember_of_can hm hf hstate hbent hreach hcan), ?_⟩
    dsimp only
    rw [State.link_latchIf, State.link_updLink]
    exact ⟨rfl, rfl, fun hne => State.latched_latchIf (by simpa using hne) _ _ _ (by decide)⟩
  · obtain ⟨hsched, hactions⟩ := State.takeAction_of_run hrun
    refine ⟨s.takeAction a, ?_, hsched, ?_⟩
    · show execBentStepApply b s = _
      unfold execBentStepApply
      rw [hdue]
    · rw [hactions]
      exact not_mem_filter_ne _
  · obtain ⟨hsched, hactions, hfail⟩ := State.takeAction_of_refused hrun
    refine ⟨s.takeAction a, ?_, hsched, ?_, hfail⟩
    · show execBentStepApply b s = _
      unfold execBentStepApply
      rw [hdue]
    · rw [hactions]
      exact not_mem_filter_ne _
  · obtain ⟨hsched, hactions⟩ := State.takeAction_of_run hrun
    refine ⟨s.takeAction a, ?_, hsched, ?_⟩
    · show execBentRetimeApply b s = _
      unfold execBentRetimeApply
      rw [hdue]
    · rw [hactions]
      exact not_mem_filter_ne _
  · have hended : p ∈ (s.pausesOf b.val).filter (fun q => frameReached s.frame q.until') := List.mem_filter.2 ⟨hp, hreach⟩
    refine ⟨_, congrArg Host.Outcome.next (if_neg ?_), ?_, fun hg => State.latched_latchIf ?_ _ _ _ (by decide)⟩
    · rw [List.isEmpty_iff]
      exact List.ne_nil_of_mem hended
    · unfold State.pausesOf
      rw [State.latchIf_pauses]
      dsimp only
      split
      · next hnone =>
        rw [List.isEmpty_iff] at hnone
        refine Eq.trans ?_ hnone.symm
        unfold Tab.get
        rw [Tab.find_del_self]
        rfl
      · exact Tab.get_put_self _ _ _ _
    · exact List.any_eq_true.2 ⟨p, hended, hg⟩
  · subst hf
    obtain ⟨hactions, hok⟩ := State.actions_bentRetime b.isLt (w := w.toNat) ha hmem
    refine ⟨_, rfl, hok, _, ?_, rfl⟩
    rw [hactions]
    exact List.mem_append_right _ (List.mem_singleton.2 rfl)

end Sys2Proof.Machine
end

section
/-! SUPPORT. The parity of slot words (R22, R23, R26, R167). -/

namespace Sys2Proof

theorem parityOf_succ (n v : Nat) : parityOf (n + 1) v = (parityOf n v + bit v n) % 2 := by
  unfold parityOf
  rw [List.range_succ, List.foldl_append]
  rfl

theorem parityOf_lt (n v : Nat) : parityOf n v < 2 := by
  cases n with
  | zero => exact Nat.zero_lt_two
  | succ n =>
    rw [parityOf_succ]
    exact Nat.mod_lt _ Nat.zero_lt_two

theorem parityOf_congr {n v w : Nat} (h : ∀ k, k < n → bit v k = bit w k) : parityOf n v = parityOf n w := by
  induction n with
  | zero => rfl
  | succ n ih => rw [parityOf_succ, parityOf_succ, ih (fun k hk => h k (by omega)), h n (by omega)]

/-- The parity of a slot word: that of its payload, and its four top bits (R21, R22). -/
theorem parityOf_word (w : Nat) : parityOf 36 w = (parityOf 32 w + bit w 32 + bit w 33 + bit w 34 + bit w 35) % 2 := by
  rw [parityOf_succ, parityOf_succ, parityOf_succ, parityOf_succ]
  omega

theorem bit_lt (v k : Nat) : bit v k < 2 := Nat.mod_lt _ Nat.zero_lt_two

theorem bit_mod_two_pow {k n : Nat} (h : k < n) (v : Nat) : bit (v % 2 ^ n) k = bit v k := by
  rw [Machine.bit_eq_testBit, Machine.bit_eq_testBit, Nat.testBit_mod_two_pow]
  simp [h]

/-- The payload's parity is the payload's alone. -/
theorem parityOf_payload {v w : Nat} (h : payloadOf v = payloadOf w) : parityOf 32 v = parityOf 32 w := by
  have hmod : v % 2 ^ 32 = w % 2 ^ 32 := by
    unfold payloadOf bits at h
    simpa using h
  exact parityOf_congr (fun k hk => by rw [← bit_mod_two_pow hk v, hmod, bit_mod_two_pow hk w])

/-! ### Words that are made (R22, R23) -/

theorem payloadOf_slotWord (p g q : Nat) : payloadOf (slotWord p g q) = p % 2 ^ 32 := by
  unfold slotWord payloadOf bits
  dsimp only
  omega

theorem grnOf_slotWord (p g q : Nat) : grnOf (slotWord p g q) = g % 2 := by
  have h := parityOf_lt 36 (p % 2 ^ 32 + 2 ^ 33 * (g % 2) + 2 ^ 34 * (q % 4))
  unfold slotWord grnOf bit
  dsimp only
  omega

theorem seqOf_slotWord (p g q : Nat) : seqOf (slotWord p g q) = q % 4 := by
  have h := parityOf_lt 36 (p % 2 ^ 32 + 2 ^ 33 * (g % 2) + 2 ^ 34 * (q % 4))
  unfold slotWord seqOf bits
  dsimp only
  omega

theorem parityGood_slotWord (p g q : Nat) : parityGood (slotWord p g q) = true := by
  unfold parityGood
  rw [beq_iff_eq, parityOf_word]
  have hv : ∀ v x, v % 2 ^ 33 / 2 ^ 32 = 0 → x < 2 → v = p % 2 ^ 32 + 2 ^ 33 * (g % 2) + 2 ^ 34 * (q % 4) →
      x = 1 - parityOf 36 v → (parityOf 32 (v + 2 ^ 32 * x) + bit (v + 2 ^ 32 * x) 32 + bit (v + 2 ^ 32 * x) 33 + bit (v + 2 ^ 32 * x) 34
        + bit (v + 2 ^ 32 * x) 35) % 2 = 1 := by
    intro v x h32 hx hveq hxeq
    have hlow : parityOf 32 (v + 2 ^ 32 * x) = parityOf 32 v := parityOf_payload (by unfold payloadOf bits; omega)
    have hpar := parityOf_word v
    have hlt := parityOf_lt 36 v
    have h0 : bit v 32 = 0 := by unfold bit; omega
    have h1 : bit (v + 2 ^ 32 * x) 32 = x := by unfold bit; omega
    have h2 : bit (v + 2 ^ 32 * x) 33 = bit v 33 := by unfold bit; omega
    have h3 : bit (v + 2 ^ 32 * x) 34 = bit v 34 := by unfold bit; omega
    have h4 : bit (v + 2 ^ 32 * x) 35 = bit v 35 := by unfold bit; omega
    rw [hlow, h1, h2, h3, h4]
    omega
  exact hv (p % 2 ^ 32 + 2 ^ 33 * (g % 2) + 2 ^ 34 * (q % 4)) _ (by omega) (by omega) rfl rfl

/-! ### Words that are rewritten (R26, R93) -/

/-- The bits of a word that is rewritten. -/
theorem rewriteWord_bits (w g : Nat) {q : Nat} (hq : q < 4) : payloadOf (rewriteWord w g q) = payloadOf w ∧ grnOf (rewriteWord w g q) = g % 2
    ∧ seqOf (rewriteWord w g q) = q
    ∧ parOf (rewriteWord w g q) = (parOf w + (grnOf w + g + bit q 0 + bit q 1 + bit (seqOf w) 0 + bit (seqOf w) 1)) % 2 := by
  unfold rewriteWord
  dsimp only
  generalize grnOf w + g + bit q 0 + bit q 1 + bit (seqOf w) 0 + bit (seqOf w) 1 = c
  obtain ⟨a, ha, ha1, ha2⟩ : ∃ a, putBits w 33 1 g = a ∧ a % 2 ^ 33 = w % 2 ^ 33 ∧ a / 2 ^ 33 % 2 = g % 2 :=
    ⟨_, rfl, by unfold putBits; omega, by unfold putBits; omega⟩
  obtain ⟨b, hb, hb1, hb2⟩ : ∃ b, putBits a 34 2 q = b ∧ b % 2 ^ 34 = a % 2 ^ 34 ∧ b / 2 ^ 34 % 4 = q :=
    ⟨_, rfl, by unfold putBits; omega, by unfold putBits; omega⟩
  obtain ⟨d, hd, hd1, hd2, hd3⟩ : ∃ d, putBits b 32 1 ((parOf w + c % 2) % 2) = d ∧ d % 2 ^ 32 = b % 2 ^ 32 ∧ d / 2 ^ 32 % 2 = (parOf w + c) % 2
      ∧ d / 2 ^ 33 = b / 2 ^ 33 := ⟨_, rfl, by unfold putBits; omega, by unfold putBits; omega, by unfold putBits; omega⟩
  have hd4 : d / 2 ^ 33 / 2 = b / 2 ^ 33 / 2 := congrArg (· / 2) hd3
  rw [Nat.div_div_eq_div_mul, Nat.div_div_eq_div_mul] at hd4
  rw [ha, hb, hd]
  refine ⟨?_, ?_, ?_, ?_⟩
  · unfold payloadOf bits
    omega
  · unfold grnOf bit
    omega
  · unfold seqOf bits
    omega
  · exact hd2

theorem bit_seqOf (w : Nat) : bit (seqOf w) 0 = bit w 34 ∧ bit (seqOf w) 1 = bit w 35 := by
  have h : w / 2 ^ 35 = w / 2 ^ 34 / 2 := by
    rw [Nat.div_div_eq_div_mul]
    rfl
  unfold seqOf bits bit
  omega

theorem parityOf_rewriteWord (w g : Nat) {q : Nat} (hq : q < 4) : parityOf 36 (rewriteWord w g q) = parityOf 36 w := by
  obtain ⟨hpay, hgrn, hseq, hpar⟩ := rewriteWord_bits w g hq
  obtain ⟨hseq0, hseq1⟩ := bit_seqOf (rewriteWord w g q)
  rw [hseq] at hseq0 hseq1
  obtain ⟨hw0, hw1⟩ := bit_seqOf w
  rw [parityOf_word, parityOf_word, parityOf_payload hpay, ← hseq0, ← hseq1]
  unfold grnOf at hgrn
  unfold parOf at hpar
  rw [hgrn, hpar, hw0, hw1]
  unfold grnOf
  omega

theorem parityGood_rewriteWord (w g : Nat) {q : Nat} (hq : q < 4) : parityGood (rewriteWord w g q) = parityGood w := by
  unfold parityGood
  rw [parityOf_rewriteWord w g hq]

/-- An AIS word stays one with another GRN and SEQ (R26). -/
theorem isAis_rewriteWord_aisWord (a b g : Nat) {q : Nat} (hq : q < 4) : isAis (rewriteWord (aisWord a b) g q) = true := by
  unfold isAis
  rw [parityGood_rewriteWord _ _ hq, (rewriteWord_bits _ _ hq).1]
  unfold aisWord
  rw [parityGood_slotWord, payloadOf_slotWord]
  rfl

/-- A word that is forced parity-failed is (R93). -/
theorem parityGood_forcePf (w : Nat) : parityGood (forcePf w) = false := by
  unfold forcePf
  dsimp only
  have hv : ∀ v : Nat, bit v 32 = 0 → parityOf 36 (putBits v 32 1 (parityOf 36 v)) = 0 := by
    intro v h0
    have hlow : parityOf 32 (putBits v 32 1 (parityOf 36 v)) = parityOf 32 v := parityOf_payload (by unfold payloadOf bits putBits; omega)
    have hlt := parityOf_lt 36 v
    have hpar := parityOf_word v
    have h1 : bit (putBits v 32 1 (parityOf 36 v)) 32 = parityOf 36 v := by unfold bit putBits; omega
    have h2 : bit (putBits v 32 1 (parityOf 36 v)) 33 = bit v 33 := by unfold bit putBits; omega
    have h3 : bit (putBits v 32 1 (parityOf 36 v)) 34 = bit v 34 := by unfold bit putBits; omega
    have h4 : bit (putBits v 32 1 (parityOf 36 v)) 35 = bit v 35 := by unfold bit putBits; omega
    rw [parityOf_word, hlow, h1, h2, h3, h4]
    omega
  unfold parityGood
  rw [hv _ (by unfold bit putBits; omega)]
  rfl

end Sys2Proof
end

section
/-! SUPPORT. The centre sweep (R172 to R176, R183). -/

namespace Sys2Proof.Machine

/-! ### Tables with rising numbers -/

/-- The numbers of a table's entries rise, so that each is listed once. -/
abbrev Rising {α : Type} (l : List (Nat × α)) : Prop := l.Pairwise (fun a b => a.1 < b.1)

theorem Tab.mem_place {α : Type} {l : List (Nat × α)} {k : Nat} {v : α} {e : Nat × α} (h : e ∈ Tab.place l k v) : e.1 = k ∨ e ∈ l := by
  induction l with
  | nil => exact .inl (by simpa [Tab.place] using congrArg Prod.fst (List.mem_singleton.1 h))
  | cons x l ih =>
    obtain ⟨k', v'⟩ := x
    unfold Tab.place at h
    split at h
    · rcases List.mem_cons.1 h with rfl | h
      · exact .inl rfl
      · exact .inr (List.mem_cons_of_mem _ h)
    split at h
    · rcases List.mem_cons.1 h with rfl | h
      · exact .inl rfl
      · exact .inr h
    · rcases List.mem_cons.1 h with rfl | h
      · exact .inr (List.mem_cons_self ..)
      · exact (ih h).imp_right (List.mem_cons_of_mem _)

theorem Tab.rising_place {α : Type} {l : List (Nat × α)} (h : Rising l) (k : Nat) (v : α) : Rising (Tab.place l k v) := by
  induction l with
  | nil => exact List.pairwise_singleton _ _
  | cons x l ih =>
    obtain ⟨k', v'⟩ := x
    obtain ⟨hfirst, hrest⟩ := List.pairwise_cons.1 h
    unfold Tab.place
    split
    · next hk =>
      subst hk
      exact List.pairwise_cons.2 ⟨hfirst, hrest⟩
    split
    · next hlt =>
      refine List.pairwise_cons.2 ⟨fun e he => ?_, h⟩
      rcases List.mem_cons.1 he with rfl | he
      · exact hlt
      · exact Nat.lt_trans hlt (hfirst e he)
    · next hne hge =>
      refine List.pairwise_cons.2 ⟨fun e he => ?_, ih hrest⟩
      rcases Tab.mem_place he with rfl | he
      · exact Nat.lt_of_le_of_ne (Nat.le_of_not_lt hge) (Ne.symm hne)
      · exact hfirst e he

theorem Tab.look_of_ne {α : Type} {l : List (Nat × α)} {k : Nat} (h : ∀ e ∈ l, e.1 ≠ k) : Tab.look l k = none :=
  Tab.look_of_not_mem (fun hm => by
    obtain ⟨e, he, rfl⟩ := List.mem_map.1 hm
    exact h e he rfl)

/-! ### The words that cross (R172, R174 to R176) -/

theorem Crossed.rising_add {x : Crossed} (h : Rising x.words.entries) (o c : Nat) (r : Nat × Bool) : Rising (x.add o c r).words.entries := by
  unfold Crossed.add
  dsimp only
  split
  · exact h
  · exact Tab.rising_place h _ _

theorem Crossed.diffs_add {x : Crossed} (h : x.diffs = 0) (o c : Nat) {r : Nat × Bool} (hr : r.2 = false) : (x.add o c r).diffs = 0 := by
  unfold Crossed.add
  dsimp only
  split
  · exact h
  · rw [hr]
    exact h

theorem State.crossing_induct (s : State) (sc : Schedule) (m : Nat) (flips : List TrussFlip) {P : Crossed → Prop} (h0 : P {})
    (hadd : ∀ x o c w, P x → P (x.add o c (throughTruss (s.fld R.FAB_LAM_STAT_SHADOW_ACT) (s.flag R.FAB_LAM_STAT_SUB_ACT) (flipsAt flips o c) w))) :
    P (s.crossing sc m flips) := by
  unfold State.crossing
  exact List.foldlRecOn _ _ h0 (fun _ hx _ _ => List.foldlRecOn _ _ hx (fun _ hy _ _ => hadd _ _ _ _ hy))

theorem State.rising_crossing (s : State) (sc : Schedule) (m : Nat) (flips : List TrussFlip) : Rising (s.crossing sc m flips).words.entries :=
  s.crossing_induct sc m flips (P := fun x => Rising x.words.entries) List.Pairwise.nil (fun _ _ _ _ hx => Crossed.rising_add hx _ _ _)

/-- With no fault the spare lamination and the one that it shadows give the same (R176). -/
theorem State.diffs_crossing_nil (s : State) (sc : Schedule) (m : Nat) : (s.crossing sc m []).diffs = 0 := by
  refine s.crossing_induct sc m [] (P := fun x => x.diffs = 0) rfl (fun x o c w hx => Crossed.diffs_add hx o c ?_)
  have hflips : flipsAt [] o c = (0, 0) := rfl
  unfold throughTruss
  rw [hflips]
  simp

/-! ### The plates' pages (R183) -/

/-- The plates' pages of parity `b` as the words that have crossed are written. -/
def platesAfter (pwrite : Tab (Tab Nat)) (b : Nat) (plate : Tab (Tab Nat)) (words : List (Nat × Tab Nat)) : Tab (Tab Nat) :=
  words.foldl (fun pl ow => pl.put (2 * ow.1 + b) (plateAfter (pl.get (2 * ow.1 + b) {}) (pwrite.get ow.1 {}) ow.2)) plate

theorem platesAfter_ne {pwrite : Tab (Tab Nat)} {b k : Nat} {words : List (Nat × Tab Nat)} (h : ∀ e ∈ words, 2 * e.1 + b ≠ k) (plate : Tab (Tab Nat)) :
    (platesAfter pwrite b plate words).get k {} = plate.get k {} := by
  induction words generalizing plate with
  | nil => rfl
  | cons e l ih =>
    unfold platesAfter at ih ⊢
    rw [List.foldl_cons, ih (fun x hx => h x (List.mem_cons_of_mem _ hx)), Tab.get_put_ne _ _ _ (h e (List.mem_cons_self ..)).symm]

theorem platesAfter_get {pwrite : Tab (Tab Nat)} {b : Nat} {words : List (Nat × Tab Nat)} (h : Rising words) (plate : Tab (Tab Nat)) (o : Nat) :
    (platesAfter pwrite b plate words).get (2 * o + b) {} = match Tab.look words o with
      | some ws => plateAfter (plate.get (2 * o + b) {}) (pwrite.get o {}) ws
      | none => plate.get (2 * o + b) {} := by
  cases hlook : Tab.look words o with
  | none =>
    refine platesAfter_ne (fun e he hk => ?_) plate
    have hne := Tab.ne_of_find_none (t := ⟨words⟩) hlook e he
    omega
  | some ws =>
    obtain ⟨pre, post, rfl, hpre, hpost⟩ := Tab.look_split h hlook
    have hbefore := platesAfter_ne (pwrite := pwrite) (b := b) (k := 2 * o + b) (words := pre) (fun e he hk => hpre e he (by omega)) plate
    have hafter := fun p => platesAfter_ne (pwrite := pwrite) (b := b) (k := 2 * o + b) (words := post) (fun e he hk => hpost e he (by omega)) p
    unfold platesAfter at hbefore hafter ⊢
    rw [List.foldl_append, List.foldl_cons, hafter, Tab.get_put_self, hbefore]

/-! ### The sweep -/

/-- The state in which the words cross: return pages closed, the bents' words checked. -/
def State.sweepReady (s : State) : State := (s.closeReturns s.frame).checkBents ((s.frame + 2 ^ 32 - 1) % 2 ^ 32)

theorem State.sweepReady_k {K : State → Prop} (hK : Loose 0x1000000000000000000000000000000000000000000de000400000000000000000000000000000000000000000000000000004000400080008000000000000000000000000000000000000000100000101370d00 K) {s : State} (h : K s) : K s.sweepReady :=
  State.checkBents_k (hK.mono (by decide)) (State.closeReturns_k (hK.mono (by decide)) h _) _

/-- What the words that have crossed leave, but for what is counted of them (R176, R183, R462). -/
def State.sweptOver (s : State) (m : Nat) (x : Crossed) (pwrite : Tab (Tab Nat)) : State :=
  let s2 := { s with plate := platesAfter pwrite ((m + 2 ^ 32 - 1) % 2 ^ 32 % 2) s.plate x.words.entries, cycle := 140584 }
  let s3 := (s2.satFld R.FAB_CONFLICT_COUNT 0 x.conflicts).latchIf (decide (0 < x.conflicts)) R.FAB_EVT_TRUSS_CONFLICT
  s3.updSist (fun t => { t with lamMm := (List.range (min x.diffs 3)).foldl (fun l _ => watch l s3.frame 8000) t.lamMm })

theorem execCentreSweep_eq (flips : List TrussFlip) (s : State) : execCentreSweep flips s = .next (
    let sc := s.sweepReady.schedAt (frameAdd s.frame 1)
    let x := s.sweepReady.crossing sc s.frame flips
    ((s.sweepReady.sweptOver s.frame x sc.pwrite).satFld R.FAB_LAM_MM_COUNT 0 x.diffs).latchIf (decide (0 < x.diffs)) R.FAB_EVT_LAM_MISMATCH) := by
  unfold execCentreSweep State.sweptOver platesAfter State.sweepReady
  rfl

theorem State.plate_sweptOver (s : State) (m : Nat) (x : Crossed) (pwrite : Tab (Tab Nat)) :
    (s.sweptOver m x pwrite).plate = platesAfter pwrite ((m + 2 ^ 32 - 1) % 2 ^ 32 % 2) s.plate x.words.entries := by
  unfold State.sweptOver
  dsimp only
  rw [State.updSist_plate, State.latchIf_plate, State.satFld_plate]

theorem State.sched_sweptOver (s : State) (m : Nat) (x : Crossed) (pwrite : Tab (Tab Nat)) : (s.sweptOver m x pwrite).sched = s.sched := by
  unfold State.sweptOver
  dsimp only
  rw [State.updSist_sched, State.latchIf_sched, State.satFld_sched]

theorem State.conflicts_sweptOver (s : State) (m : Nat) (x : Crossed) (pwrite : Tab (Tab Nat)) : (s.sweptOver m x pwrite).fld R.FAB_CONFLICT_COUNT 0 =
    satAdd (2 ^ R.FAB_CONFLICT_COUNT.width - 1) (s.fld R.FAB_CONFLICT_COUNT 0) x.conflicts := by
  unfold State.sweptOver
  dsimp only
  rw [State.fld_updSist _ _ _ (by decide), State.fld_latchIf_ne _ _ _ _ _ (by decide), State.fld_satFld_self]
  rfl

theorem State.mismatches_sweptOver (s : State) (m : Nat) (x : Crossed) (pwrite : Tab (Tab Nat)) :
    (s.sweptOver m x pwrite).fld R.FAB_LAM_MM_COUNT 0 = s.fld R.FAB_LAM_MM_COUNT 0 := by
  unfold State.sweptOver
  dsimp only
  rw [State.fld_updSist _ _ _ (by decide), State.fld_latchIf_ne _ _ _ _ _ (by decide), State.fld_satFld_ne _ _ _ _ (by decide)]
  rfl

end Sys2Proof.Machine
end

section
/-! SUPPORT. The kerf check, the long path and the tap table (R170, R171, R181, R182, R205, R206). -/

namespace Sys2Proof.Machine

/-! ### The kerf check (R181, R182) -/

theorem foldl_add_two_pow_lt (p : Nat → Prop) [DecidablePred p] (n : Nat) :
    (List.range n).foldl (fun x k => if p k then x + 2 ^ k else x) 0 < 2 ^ n := by
  induction n with
  | zero => exact Nat.zero_lt_one
  | succ n ih =>
    rw [List.range_succ, List.foldl_append, List.foldl_cons, List.foldl_nil, Nat.pow_succ]
    split <;> omega

theorem kerfMask_lt (g : KerfWord) (m lam : Nat) : kerfMask g m lam < 2 ^ 10 := by
  have h := foldl_add_two_pow_lt (fun k => bits (kerfDiff g m) (4 * k) 4 ≠ 0) 9
  unfold kerfMask
  split <;> omega

/-- What a kerf check leaves after its words are counted: the first failing word (R182). -/
theorem State.recordKerf_spec {s : State} {fails : List KerfWord} {f : KerfWord} (h : firstKerf fails = some f) :
    (s.recordKerf fails).fld R.FAB_KERF_FAIL_IN = f.inp.val ∧ (s.recordKerf fails).fld R.FAB_KERF_FAIL_OUT = f.out.val
      ∧ (s.recordKerf fails).fld R.FAB_KERF_FAIL_LAMMASK = kerfMask f s.frame (s.fld R.FAB_LAM_STAT_SHADOW_ACT)
      ∧ (s.recordKerf fails).flag R.FAB_KERF_FAIL_VALID = true ∧ (s.recordKerf fails).latched R.FAB_EVT_KERF_FAIL = true := by
  have hinp : f.inp.val % 2 ^ 9 = f.inp.val := Nat.mod_eq_of_lt (by omega)
  have hout : f.out.val % 2 ^ 8 = f.out.val := Nat.mod_eq_of_lt (by omega)
  unfold State.recordKerf
  rw [h]
  dsimp only
  generalize fails.foldl (fun t g => t.countKerf s.frame (s.fld R.FAB_LAM_STAT_SHADOW_ACT) g) s = u
  refine ⟨?_, ?_, ?_, ?_, ?_⟩
  · rw [State.fld_updSist _ _ _ (by decide), State.fld_latch_ne _ _ _ _ (by decide), State.fld_setFlag_ne _ _ _ _ (by decide),
      State.fld_setFld_ne _ _ _ _ (by decide), State.fld_setFld_ne _ _ _ _ (by decide), State.fld_setFld_self]
    exact hinp
  · rw [State.fld_updSist _ _ _ (by decide), State.fld_latch_ne _ _ _ _ (by decide), State.fld_setFlag_ne _ _ _ _ (by decide),
      State.fld_setFld_ne _ _ _ _ (by decide), State.fld_setFld_self]
    exact hout
  · rw [State.fld_updSist _ _ _ (by decide), State.fld_latch_ne _ _ _ _ (by decide), State.fld_setFlag_ne _ _ _ _ (by decide), State.fld_setFld_self]
    exact Nat.mod_eq_of_lt (kerfMask_lt _ _ _)
  · refine (State.flag_of_fld (State.fld_updSist _ _ _ (by decide))).trans ?_
    rw [State.flag_of_fld (State.fld_latch_ne _ _ _ _ (by decide))]
    exact State.flag_setFlag_self _ _ _ _ (by decide)
  · exact State.latched_of_fld (State.fld_updSist _ _ _ (by decide)) (State.latched_latch _ _ _ (by decide))

/-- The words of a kerf check that fail (R182). -/
def State.kerfFails (s : State) (got : List KerfWord) : List KerfWord := got.filter (fun g => kerfBad g s.frame (s.fld R.FAB_LAM_STAT_SHADOW_ACT))

theorem execKerfCheck_eq (got : List KerfWord) (s : State) : execKerfCheck got s = .next (
    if s.flag R.FAB_CFG_KERF_EN then (({ s with cycle := 140840 } : State).recordKerf (s.kerfFails got)).evalLams
    else ({ s with cycle := 140840 } : State).evalLams) := by
  unfold execKerfCheck State.kerfFails
  refine congrArg Host.Outcome.next ?_
  show State.evalLams (if s.flag R.FAB_CFG_KERF_EN = true then _ else _) = _
  split <;> rfl

theorem State.recordKerf_nil (s : State) : s.recordKerf [] = s := rfl

/-- A kerf in which all check words are as they were sent. -/
theorem State.kerfFails_of_sent {s : State} {got : List KerfWord} (h : ∀ g ∈ got, g.word.toNat = kerfSent s.frame g.inp g.out g.second
    ∧ g.lams.toNat = bits (kerfSent s.frame g.inp g.out g.second) (4 * s.fld R.FAB_LAM_STAT_SHADOW_ACT) 4) : s.kerfFails got = [] := by
  have hxor : ∀ v, Nat.xor v v = 0 := Nat.xor_self
  refine List.filter_eq_nil_iff.2 (fun g hg => ?_)
  obtain ⟨hword, hlams⟩ := h g hg
  unfold kerfBad kerfDiff kerfSpareDiff
  rw [hword, hlams, hxor, hxor]
  decide

/-! ### The long path's copies (R170) -/

/-- The copies of page `n` that the tap entries `l` take. -/
def copiesTaken (n : Nat) (w : Nat → Nat) (l : List (Nat × Nat)) (lm : Tab (Tab Nat)) : Tab (Tab Nat) :=
  l.foldl (fun lm pq => lm.put pq.1 (((lm.get pq.1 {}).keep (fun k _ => decide ((n + 2 ^ 32 - k) % 2 ^ 32 < 2052))).put n (w pq.2))) lm

theorem copiesTaken_find (n : Nat) (w : Nat → Nat) (l : List (Nat × Nat)) (lm : Tab (Tab Nat)) {q : Nat × Nat} (hq : q ∈ l) :
    ∃ src, (q.1, src) ∈ l ∧ ((copiesTaken n w l lm).get q.1 {}).find n = some (w src) := by
  induction l using List.reverseRecOn with
  | nil => simp at hq
  | append_singleton l x ih =>
    unfold copiesTaken at ih ⊢
    rw [List.foldl_append, List.foldl_cons, List.foldl_nil]
    by_cases hx : q.1 = x.1
    · refine ⟨x.2, by simp [hx], ?_⟩
      rw [hx, Tab.get_put_self, Tab.find_put_self]
    · have hl : q ∈ l := by
        rcases List.mem_append.1 hq with h | h
        · exact h
        · exact absurd (congrArg Prod.fst (List.mem_singleton.1 h)) hx
      obtain ⟨src, hsrc, hfind⟩ := ih hl
      refine ⟨src, List.mem_append_left _ hsrc, ?_⟩
      rw [Tab.get_put_ne _ _ _ hx]
      exact hfind

/-! ### The tap table at a tick (R205, R206) -/

theorem Tab.look_filter_some {α : Type} {l : List (Nat × α)} {p : Nat × α → Bool} {k : Nat} {v : α} (h : Tab.look (l.filter p) k = some v) :
    p (k, v) = true := by
  induction l with
  | nil => simp [Tab.look] at h
  | cons e l ih =>
    obtain ⟨k', v'⟩ := e
    by_cases hp : p (k', v') = true
    · rw [List.filter_cons_of_pos hp] at h
      by_cases hk : k = k'
      · subst hk
        obtain rfl : v' = v := by simpa [Tab.look] using h
        exact hp
      · rw [Tab.look, if_neg hk] at h
        exact ih h
    · rw [List.filter_cons_of_neg hp] at h
      exact ih h

theorem Tab.look_filter_of_kept {α : Type} {l : List (Nat × α)} {p : Nat × α → Bool} {k : Nat} {v : α} (h : Tab.look l k = some v)
    (hp : p (k, v) = true) : Tab.look (l.filter p) k = some v := by
  induction l with
  | nil => simp [Tab.look] at h
  | cons e l ih =>
    obtain ⟨k', v'⟩ := e
    by_cases hk : k = k'
    · subst hk
      obtain rfl : v' = v := by simpa [Tab.look] using h
      rw [List.filter_cons_of_pos hp, Tab.look, if_pos rfl]
    · rw [Tab.look, if_neg hk] at h
      rw [List.filter_cons]
      split
      · rw [Tab.look, if_neg hk]
        exact ih h
      · exact ih h

/-- An instant of the tap table has come. -/
def State.come (s : State) (o : Option Nat) : Bool :=
  match o with
  | some f => frameReached s.frame f
  | none => false

theorem State.come_of_not {s : State} {o : Option Nat} (h : ∀ f, o = some f → frameReached s.frame f = false) : s.come o = false := by
  cases o with
  | none => rfl
  | some f => exact h f rfl

/-- A tap entry whose storage a withdrawn change had added, as it is given back (R206). -/
def State.givenBack (s : State) (p : Nat) (e : TapEnt) : TapEnt :=
  if s.come e.backAt then { e with store := s.needAt p, backAt := none } else e

theorem State.find_clearTaps (s : State) (r q : Nat) : (s.clearTaps.get r {}).find q =
    (Tab.look ((s.tap.get r {}).entries.filter (fun x => !s.come x.2.clearAt)) q).map (s.givenBack (131072 * r + q)) := by
  have hinner : ∀ (r : Nat) (t : Tab TapEnt), (((t.keep (fun _ e => !s.come e.clearAt)).mapVals (fun q e => s.givenBack (131072 * r + q) e)).find q) =
      (Tab.look (t.entries.filter (fun x => !s.come x.2.clearAt)) q).map (s.givenBack (131072 * r + q)) := fun r t => Tab.find_mapVals _ _ _
  have hmap : s.clearTaps = s.tap.mapVals (fun r t => (t.keep (fun _ e => !s.come e.clearAt)).mapVals (fun q e => s.givenBack (131072 * r + q) e)) := by
    unfold State.clearTaps State.givenBack State.come
    rfl
  rw [hmap]
  unfold Tab.get
  rw [Tab.find_mapVals]
  cases s.tap.find r with
  | none => rfl
  | some t => exact hinner r t

end Sys2Proof.Machine
end

section
/-! O15: the fabric and the grain (R26, R167 to R183, R205, R206, R234). -/

namespace Sys2Proof.Machine

/-! ### A return page (R171) -/

/-- The word that a long member's position presents (R171). -/
def State.presented (s : State) (m : Nat) (late : Nat → Bool) (x : Membership) : Nat :=
  let copy := (s.longMem.get (x.pos.getD 0) {}).find (pageFor (frameAdd m 1) x.d)
  if late (x.pos.getD 0 % 131072) || copy.isNone then s.lateWord else copy.getD 0

/-- The page of return port bank `k` with a long member's word (R171). -/
def State.returnPut (s : State) (k m : Nat) (late : Nat → Bool) (x : Membership) : State :=
  { s with retPages := s.retPages.put k { s.retPages.get k {} with
      words := (s.retPages.get k {}).words.put (x.pos.getD 0 % 131072) (s.presented m late x) } }

theorem State.returnWord_eq (s : State) (k m : Nat) (late : Nat → Bool) (x : Membership) : s.returnWord k m late x =
    let copy := (s.longMem.get (x.pos.getD 0) {}).find (pageFor (frameAdd m 1) x.d)
    if late (x.pos.getD 0 % 131072) || (copy.isNone && !s.pausedAt (s.link x.src).bent (frameAdd m 1)) then
      ((s.returnPut k m late x).drawn.satFld R.FAB_LP_LATE_COUNT 0 1).latch R.FAB_EVT_LP_LATE
    else if late (x.pos.getD 0 % 131072) || copy.isNone then (s.returnPut k m late x).drawn
    else s.returnPut k m late x := rfl

theorem State.retPages_returnWord (s : State) (k m : Nat) (late : Nat → Bool) (x : Membership) :
    (s.returnWord k m late x).retPages = s.retPages.put k { s.retPages.get k {} with
      words := (s.retPages.get k {}).words.put (x.pos.getD 0 % 131072) (s.presented m late x) } := by
  rw [State.returnWord_eq]
  dsimp only
  split
  · rw [State.latch_retPages, State.satFld_retPages]
    rfl
  · split <;> rfl

theorem State.longMem_returnWord (s : State) (k m : Nat) (late : Nat → Bool) (x : Membership) : (s.returnWord k m late x).longMem = s.longMem :=
  State.returnWord_k (loose_part s .longMem (by decide) (by decide) (by decide)) rfl k m late x

theorem State.latched_returnWord {s : State} (h : s.latched R.FAB_EVT_LP_LATE = true) (k m : Nat) (late : Nat → Bool) (x : Membership) :
    (s.returnWord k m late x).latched R.FAB_EVT_LP_LATE = true := by
  unfold State.returnWord
  dsimp only
  split
  · exact State.latched_latch _ _ _ (by decide)
  · split <;> exact h

theorem State.latched_returnWord_of_late (s : State) (k m : Nat) {late : Nat → Bool} {x : Membership} (h : late (x.pos.getD 0 % 131072) = true) :
    (s.returnWord k m late x).latched R.FAB_EVT_LP_LATE = true := by
  unfold State.returnWord
  dsimp only
  rw [if_pos (by simp [h])]
  exact State.latched_latch _ _ _ (by decide)

/-- What a return page holds once the members `l` have been presented. -/
structure ReturnShown (s : State) (k m : Nat) (late : Nat → Bool) (l : List Membership) (t : State) : Prop where
  filled : (t.retPages.get k {}).filled = true
  fn : (t.retPages.get k {}).fn = m
  longMem : t.longMem = s.longMem
  words : ∀ x ∈ l, ∃ y ∈ l, (y.pos.getD 0) % 131072 = (x.pos.getD 0) % 131072
    ∧ ∃ w, (t.retPages.get k {}).words.find ((x.pos.getD 0) % 131072) = some w
      ∧ (∀ c, late ((x.pos.getD 0) % 131072) = false → (s.longMem.get (y.pos.getD 0) {}).find (pageFor (frameAdd m 1) y.d) = some c → w = c)
      ∧ (late ((x.pos.getD 0) % 131072) = true → parityGood w = false ∧ t.latched R.FAB_EVT_LP_LATE = true)

theorem State.presented_of_copy {s : State} {m : Nat} {late : Nat → Bool} {x : Membership} (hl : late (x.pos.getD 0 % 131072) = false) {c : Nat}
    (hc : (s.longMem.get (x.pos.getD 0) {}).find (pageFor (frameAdd m 1) x.d) = some c) : s.presented m late x = c := by
  unfold State.presented
  dsimp only
  rw [hl, hc]
  rfl

theorem State.presented_of_late {s : State} (m : Nat) {late : Nat → Bool} {x : Membership} (hl : late (x.pos.getD 0 % 131072) = true) :
    parityGood (s.presented m late x) = false := by
  unfold State.presented
  dsimp only
  rw [hl, Bool.true_or, if_pos rfl]
  exact parityGood_forcePf _

theorem ReturnShown.append {s t : State} {k m : Nat} {late : Nat → Bool} {l : List Membership} (h : ReturnShown s k m late l t) (x : Membership) :
    ReturnShown s k m late (l ++ [x]) (t.returnWord k m late x) := by
  have hpages := State.retPages_returnWord t k m late x
  have hget : (t.returnWord k m late x).retPages.get k {} = { t.retPages.get k {} with
      words := (t.retPages.get k {}).words.put (x.pos.getD 0 % 131072) (t.presented m late x) } := by
    rw [hpages, Tab.get_put_self]
  refine ⟨by rw [hget]; exact h.filled, by rw [hget]; exact h.fn, (State.longMem_returnWord t k m late x).trans h.longMem, fun z hz => ?_⟩
  rw [hget]
  by_cases hpos : z.pos.getD 0 % 131072 = x.pos.getD 0 % 131072
  · refine ⟨x, by simp, hpos.symm, t.presented m late x, ?_, fun c hl hc => ?_, fun hl => ?_⟩
    · rw [hpos]
      exact Tab.find_put_self _ _ _
    · rw [hpos] at hl
      rw [← h.longMem] at hc
      exact State.presented_of_copy hl hc
    · rw [hpos] at hl
      exact ⟨State.presented_of_late m hl, State.latched_returnWord_of_late t k m hl⟩
  · have hzl : z ∈ l := by
      rcases List.mem_append.1 hz with hz | hz
      · exact hz
      · exact absurd (by rw [List.mem_singleton.1 hz]) hpos
    obtain ⟨y, hy, hypos, w, hw, hcopy, hlate⟩ := h.words z hzl
    refine ⟨y, List.mem_append_left _ hy, hypos, w, ?_, hcopy, fun hl => ⟨(hlate hl).1, State.latched_returnWord (hlate hl).2 k m late x⟩⟩
    rw [← hw]
    exact Tab.find_put_ne _ _ hpos

/-- A page of a return port is filled with the words of the long members that it presents (R171). -/
theorem State.returnShown_fillReturn (s : State) (r m : Nat) (late : Nat → Bool) :
    ReturnShown s (returnBank r m) m late (s.returning r m) (s.fillReturn r m late) := by
  unfold State.fillReturn
  dsimp only
  have h0 : ReturnShown s (returnBank r m) m late [] { s.readUnits (s.returnUnits r m) with
      retPages := s.retPages.put (returnBank r m) { filled := true, bank := m % 3, fn := m } } := by
    refine ⟨?_, ?_, ?_, fun x hx => absurd hx (List.not_mem_nil)⟩
    · rw [Tab.get_put_self]
    · rw [Tab.get_put_self]
    · exact State.readUnits_k (loose_part s .longMem (by decide) (by decide) (by decide)) rfl _
  generalize ({ s.readUnits (s.returnUnits r m) with
      retPages := s.retPages.put (returnBank r m) { filled := true, bank := m % 3, fn := m } } : State) = t0 at h0 ⊢
  generalize s.returning r m = l
  induction l using List.reverseRecOn with
  | nil => exact h0
  | append_singleton l x ih =>
    rw [List.foldl_append, List.foldl_cons, List.foldl_nil]
    exact ih.append x

/-! ### Settling -/

theorem State.sillRead_spec (s : State) (src page : Nat) : if s.mismatches src (s.sillWord src page) page then isAis (s.sillRead src page) = true
    else seqOf (s.sillRead src page) = page % 4 ∧ grnOf (s.sillRead src page) = s.grainOf src page
      ∧ payloadOf (s.sillRead src page) = payloadOf (s.sillWord src page)
      ∧ parityGood (s.sillRead src page) = parityGood (s.sillWord src page) := by
  have hq : page % 4 < 4 := Nat.mod_lt _ (by decide)
  have hgrain : s.grainOf src page % 2 = s.grainOf src page := Nat.mod_eq_of_lt (parityOf_lt 32 _)
  unfold State.sillRead
  dsimp only
  split
  · exact isAis_rewriteWord_aisWord _ _ _ hq
  · obtain ⟨hpay, hgrn, hseq, -⟩ := rewriteWord_bits (s.sillWord src page) (s.grainOf src page) hq
    exact ⟨hseq, hgrn.trans hgrain, hpay, parityGood_rewriteWord _ _ hq⟩

theorem State.kept_evalLams (s : State) : s.evalLams.fld R.FAB_KERF_FAIL_IN = s.fld R.FAB_KERF_FAIL_IN
    ∧ s.evalLams.fld R.FAB_KERF_FAIL_OUT = s.fld R.FAB_KERF_FAIL_OUT ∧ s.evalLams.fld R.FAB_KERF_FAIL_LAMMASK = s.fld R.FAB_KERF_FAIL_LAMMASK
    ∧ s.evalLams.flag R.FAB_KERF_FAIL_VALID = s.flag R.FAB_KERF_FAIL_VALID ∧ s.evalLams.latched R.FAB_EVT_KERF_FAIL = s.latched R.FAB_EVT_KERF_FAIL
    ∧ ∀ k, s.evalLams.fld R.FAB_LAM_ERR_COUNT k = s.fld R.FAB_LAM_ERR_COUNT k := by
  have hfld : ∀ (f : Fld) i, regOk 0x8220000000000000000000000000000000000000000000000000000000000004e9000000000000000000000000000000000000000000000000000024000000000000000000000000000000000000000000000000024000100000d04 f.id = false → s.evalLams.fld f i = s.fld f i := fun f i hf =>
    State.evalLams_k (K := fun t => t.fld f i = s.fld f i) (loose_fld hf) rfl
  exact ⟨hfld _ _ (by decide), hfld _ _ (by decide), hfld _ _ (by decide), State.flag_of_fld (hfld _ _ (by decide)),
    congrArg (fun v => Nat.testBit v R.FAB_EVT_KERF_FAIL.bit) (hfld R.FAB_EVT 0 (by decide)), fun k => hfld _ _ (by decide)⟩

theorem mod_pred_parity (f : Nat) : (f + 2 ^ 32 - 1) % 2 ^ 32 % 2 = (f + 1) % 2 := by omega

/-- Settles O15. -/
theorem fabricWorks : Obligations.FabricWorks := by
  unfold Obligations.FabricWorks
  intro s
  refine ⟨fun flips u x hu hx => ?_, State.sillRead_spec s, fun got f hen hfirst => ?_, fun got hsent => ?_, ?_, fun r late => ?_, ?_,
    fun a side sd hsd hfault hrun => ?_⟩
  case refine_1 =>
    have hready : s.sweepReady = u := hu.symm
    have hplate : u.plate = s.plate := hready ▸ State.sweepReady_k (loose_part s .plate (by decide) (by decide) (by decide)) rfl
    have hsched : u.sched = s.sched := hready ▸ State.sweepReady_k (loose_part s .sched (by decide) (by decide) (by decide)) rfl
    have hmm : u.fld R.FAB_LAM_MM_COUNT 0 = s.fld R.FAB_LAM_MM_COUNT 0 :=
      hready ▸ State.sweepReady_k (K := fun t => t.fld R.FAB_LAM_MM_COUNT 0 = s.fld R.FAB_LAM_MM_COUNT 0) (loose_fld (by decide)) rfl
    have hconf : u.fld R.FAB_CONFLICT_COUNT 0 = s.fld R.FAB_CONFLICT_COUNT 0 :=
      hready ▸ State.sweepReady_k (K := fun t => t.fld R.FAB_CONFLICT_COUNT 0 = s.fld R.FAB_CONFLICT_COUNT 0) (loose_fld (by decide)) rfl
    have hexec := execCentreSweep_eq flips s
    rw [hready] at hexec
    dsimp only at hexec
    rw [← hx] at hexec
    have hrise : Rising x.words.entries := hx ▸ State.rising_crossing _ _ _ _
    refine ⟨_, hexec, ?_, fun h => State.latched_latchIf (decide_eq_true h) _ _ _ (by decide), ?_, fun h => ?_, ?_, fun o => ?_⟩
    · rw [State.fld_latchIf_ne _ _ _ _ _ (by decide), State.fld_satFld_self, State.mismatches_sweptOver, hmm]
    · rw [State.fld_latchIf_ne _ _ _ _ _ (by decide), State.fld_satFld_ne _ _ _ _ (by decide), State.conflicts_sweptOver, hconf]
    · rw [hx, h]
      exact State.diffs_crossing_nil _ _ _
    · rw [State.latchIf_sched, State.satFld_sched, State.sched_sweptOver, hsched]
    · rw [State.latchIf_plate, State.satFld_plate, State.plate_sweptOver, mod_pred_parity, hplate]
      refine ⟨platesAfter_ne (fun e _ => by omega) _, ?_⟩
      exact platesAfter_get hrise _ o
  case refine_2 =>
    obtain ⟨hin, hout, hmask, hvalid, hevt, -⟩ := State.kept_evalLams (({ s with cycle := 140840 } : State).recordKerf (s.kerfFails got))
    obtain ⟨hin', hout', hmask', hvalid', hevt'⟩ := State.recordKerf_spec (s := { s with cycle := 140840 }) hfirst
    refine ⟨_, (execKerfCheck_eq got s).trans (congrArg _ (if_pos hen)), hin.trans hin', hout.trans hout', hmask.trans hmask', hvalid.trans hvalid',
      hevt.trans hevt'⟩
  case refine_3 =>
    obtain ⟨-, -, -, hvalid, -, hcount⟩ := State.kept_evalLams { s with cycle := 140840 }
    have hexec : execKerfCheck got s = .next ({ s with cycle := 140840 } : State).evalLams := by
      rw [execKerfCheck_eq]
      rcases hsent with hen | hsent
      · rw [hen]
        rfl
      · rw [State.kerfFails_of_sent hsent, State.recordKerf_nil, ite_self]
    exact ⟨_, hexec, hvalid, hcount⟩
  case refine_4 =>
    refine ⟨_, rfl, fun pq hpq => ?_⟩
    exact copiesTaken_find ((s.frame + 2 ^ 32 - 1) % 2 ^ 32) (fun src => s.sillRead src ((s.frame + 2 ^ 32 - 1) % 2 ^ 32)) s.taps' s.longMem hpq
  case refine_5 =>
    have hshown := State.returnShown_fillReturn s r.val s.frame (fun q => late.any (fun k => k.val == q))
    refine ⟨_, rfl, ?_, hshown.words⟩
    unfold State.returnFilled
    dsimp only
    rw [hshown.filled, hshown.fn, beq_self_eq_true]
    rfl
  case refine_6 =>
    refine ⟨_, rfl, fun r q e => ⟨fun hfind f hf => ?_, fun hfind hclear => ⟨fun hback => ?_, fun f hback hreach => ?_⟩⟩⟩
    · rw [State.find_clearTaps, Option.map_eq_some_iff] at hfind
      obtain ⟨e', hlook, rfl⟩ := hfind
      have hkept := Tab.look_filter_some hlook
      have hcome : s.come e'.clearAt = false := by simpa using hkept
      have hsame : (s.givenBack (131072 * r + q) e').clearAt = e'.clearAt := by
        unfold State.givenBack
        split <;> rfl
      rw [hsame] at hf
      rw [hf] at hcome
      exact hcome
    · rw [State.find_clearTaps, Tab.look_filter_of_kept hfind (by simpa using State.come_of_not hclear), Option.map_some]
      unfold State.givenBack
      rw [State.come_of_not hback]
      rfl
    · have hcome : s.come e.backAt = true := by
        rw [hback]
        exact hreach
      rw [State.find_clearTaps, Tab.look_filter_of_kept hfind (by simpa using State.come_of_not hclear), Option.map_some]
      unfold State.givenBack
      rw [if_pos hcome]
  case refine_7 =>
    refine ⟨(s.setSides (s.sides.live.del (2 * a.val + b2n side))).latchIf sd.fault R.GRN_EVT_GRN_CLEAR, ?_, ?_, State.latched_latchIf hfault _ _ _ (by decide)⟩
    · show execGrnFaultClear a side s = _
      unfold execGrnFaultClear State.clearSide
      dsimp only
      rw [hsd]
      dsimp only
      rw [if_pos (by simp [hfault, hrun])]
    · rw [State.latchIf_sides]
      exact Tab.find_del_self _ _

end Sys2Proof.Machine
end

section
/-! O16: the commands of a cut list (R211, R214, R215). -/

namespace Sys2Proof.Machine

/-! ### The state that an accepted command finds (R404) -/

/-- `u` is `s` but for the parked path to the register target. -/
structure State.Parked (s u : State) : Prop where
  regs : ∃ r, u = { s with regs := r }
  fld : ∀ (f : Fld) (i : Nat), f.id ≠ R.MTX_STAT_PARK.id → u.fld f i = s.fld f i

theorem State.parked_park (s : State) (m a : Nat) : s.Parked (s.park m (.reg a)) :=
  ⟨State.park_eq s m a, fun _ i h => State.fld_park_ne s m _ i h⟩

theorem State.Parked.flag {s u : State} (h : s.Parked u) {f : Fld} (i : Nat) (hf : f.id ≠ R.MTX_STAT_PARK.id) : u.flag f i = s.flag f i :=
  State.flag_of_fld (h.fld f i hf)

/-- An accepted command of a register whose fields are all commands, none of which the active journals. -/
theorem State.regWrite_unjournalled {r : Reg} (hr : r ∈ regTable) {i : Nat} (h1 : r.first ≤ i) (h2 : i < r.first + r.count) (ht : r.takesWhole = true)
    (hj : r.unjournalled = true) (hwo : ∀ c ∈ r.slices, c.fld.ty = .wo) {s : State} {m : Nat} (ha : s.accepts m r.id i = true) (w : Nat) :
    ∃ u, s.Parked u ∧ s.regWrite m r.id i w = (u.writeEffect u m r.id i w none).completed := by
  refine ⟨_, s.parked_park m (r.addr i), ?_⟩
  rw [State.regWrite_command hr h1 h2 ht hwo ha, State.journalWrite_of_unjournalled hj]

/-- What a completed access leaves: all but the answer and the PCIe ports' conditions. -/
theorem State.completed_same (s : State) : ∃ x y, s.completed = { s with resp := x, pcie := y } := by
  obtain ⟨y, h⟩ := s.completed_eq
  exact ⟨_, y, h⟩

/-! ### CUT_CTRL (R211) -/

/-- CUT_CTRL in the register table. -/
def cutCtrlReg : Reg :=
  ⟨RN.CUT_CTRL, 0xb0100, 0, 1, 0x0, .single, [⟨R.CUT_CTRL_LIST, 0, 0, 1⟩, ⟨R.CUT_CTRL_CMD, 0, 1, 3⟩, ⟨R.CUT_CTRL_ASAP, 0, 4, 1⟩]⟩

theorem State.regWrite_CUT_CTRL_accepted {s : State} {m : Nat} (ha : s.accepts m RN.CUT_CTRL 0 = true) (w : Nat) :
    ∃ u, s.Parked u ∧ s.regWrite m RN.CUT_CTRL 0 w = (u.cutCommand w).completed :=
  State.regWrite_unjournalled (r := cutCtrlReg) (by decide) (by decide) (by decide) (by decide) (by decide) (by decide) ha w

/-- Command `cmd` to list `j`, as CUT_CTRL takes it on a device that may change. -/
def State.listCommand (s : State) (j cmd : Nat) (asap : Bool) : State :=
  let st := s.listState j
  if cmd = 1 then (if s.listAtRest j then s.queueList j else s.refuseCmd)
  else if cmd = 2 then
    (if (st = listQueued || st = listCompiling || st = listArmed) && !s.flag R.CUT_Lj_STAT_APPLY_REQ j then s.acceptApply j asap
     else s.refuseCmd)
  else if cmd = 3 then (if s.listAtRest j then (s.queueList j).acceptApply j asap else s.refuseCmd)
  else (if st = listQueued || st = listCompiling || st = listArmed then s.abortList j else s.refuseCmd)

theorem bits_putBits_cmd (w : Nat) {cmd : Nat} (h : cmd < 8) :
    bit (putBits w 1 3 cmd) 0 = bit w 0 ∧ bits (putBits w 1 3 cmd) 1 3 = cmd ∧ bit (putBits w 1 3 cmd) 4 = bit w 4 := by
  unfold bit bits putBits
  omega

theorem State.cutCommand_of_mayChange {s : State} (h : s.mayChange = true) (w : Nat) {cmd : Nat} (h1 : 1 ≤ cmd) (h4 : cmd ≤ 4) :
    s.cutCommand (putBits w 1 3 cmd) = s.listCommand (bit w 0) cmd (w.testBit 4) := by
  obtain ⟨hlist, hcmd, hasap⟩ := bits_putBits_cmd w (cmd := cmd) (by omega)
  have hbit : (bit w 4 == 1) = w.testBit 4 := by
    rw [bit_eq_testBit]
    cases w.testBit 4 <;> rfl
  unfold State.cutCommand
  dsimp only
  rw [hlist, hcmd, hasap, hbit, h, if_neg (by simp; omega), if_neg (by decide)]
  rfl

/-- A command of CUT_CTRL that is accepted, on a device that may change. -/
theorem State.cutCtrl_accepted {s : State} {m : Nat} (ha : s.accepts m RN.CUT_CTRL 0 = true) (hmay : s.mayChange = true) (w : Nat) {cmd : Nat}
    (h1 : 1 ≤ cmd) (h4 : cmd ≤ 4) : ∃ u, s.Parked u ∧
      s.regWrite m RN.CUT_CTRL 0 (putBits w 1 3 cmd) = (u.listCommand (bit w 0) cmd (w.testBit 4)).completed := by
  obtain ⟨u, hu, hwrite⟩ := State.regWrite_CUT_CTRL_accepted ha (putBits w 1 3 cmd)
  have hstate : u.mateState = s.mateState := hu.fld _ _ (by decide)
  have hmay' : u.mayChange = true := by
    rw [← hmay]
    unfold State.mayChange State.paired State.isActive
    rw [hstate]
  exact ⟨u, hu, by rw [hwrite, State.cutCommand_of_mayChange hmay' w h1 h4]⟩

theorem State.Parked.listState {s u : State} (h : s.Parked u) (j : Nat) : u.listState j = s.listState j := h.fld _ _ (by decide)

theorem State.Parked.listAtRest {s u : State} (h : s.Parked u) (j : Nat) : u.listAtRest j = s.listAtRest j := by
  unfold State.listAtRest
  rw [h.listState]

/-! ### The commands -/

/-- A refused command changes nothing but its event (R211, R215). -/
theorem State.refuseCmd_spec (s : State) (j : Nat) : s.refuseCmd.listState j = s.listState j
    ∧ s.refuseCmd.flag R.CUT_Lj_STAT_ASAP j = s.flag R.CUT_Lj_STAT_ASAP j ∧ s.refuseCmd.chg = s.chg ∧ s.refuseCmd.queued = s.queued
    ∧ s.refuseCmd.latched R.CUT_EVT_CMD_REFUSED = true :=
  ⟨State.fld_latch_ne _ _ _ _ (by decide), State.flag_of_fld (State.fld_latch_ne _ _ _ _ (by decide)), State.latch_chg _ _ _,
    State.latch_queued _ _ _, State.latched_latch _ _ _ (by decide)⟩

theorem State.queueList_spec (s : State) (j : Nat) : (s.queueList j).listState j = listQueued
    ∧ (s.queueList j).queued = s.queued ++ [{ kind := .list j, since := s.frame }] ∧ (s.queueList j).chg = s.chg := by
  refine ⟨?_, rfl, rfl⟩
  show State.fld (State.setFlag _ _ _ _) R.CUT_Lj_STAT_STATE j = _
  rw [State.fld_setFlag_ne _ _ _ _ (by decide), State.fld_setFld_ne _ _ _ _ (by decide), State.fld_setFld_ne _ _ _ _ (by decide),
    State.fld_setFlag_ne _ _ _ _ (by decide), State.fld_setFlag_ne _ _ _ _ (by decide), State.fld_setFld_self]
  rfl

/-- An APPLY that is accepted, whatever becomes of the change that it is for: it is shown as asked for (R214). -/
theorem State.applyShown_acceptApply (s : State) (j : Nat) (asap : Bool) :
    (s.acceptApply j asap).flag R.CUT_Lj_STAT_APPLY_REQ j = true ∧ (s.acceptApply j asap).flag R.CUT_Lj_STAT_ASAP j = asap := by
  have hkept : ∀ f : Fld, regOk 0x3b8000de000400000000000000000000000000000000000000000191f22001000000000000000000000000000000000000000000000000000000100000101110c00 f.id = false → f.id ≠ R.CUT_Lj_TICK_FRAME.id →
      (s.acceptApply j asap).fld f j = ((s.setFlag R.CUT_Lj_STAT_APPLY_REQ j true).setFlag R.CUT_Lj_STAT_ASAP j asap).fld f j := by
    intro f hf hne
    have hfix : ∀ (u : State) c, (u.fixFrame c).fld f j = u.fld f j := fun u c => State.fixFrame_k (K := fun t => t.fld f j = u.fld f j) (loose_fld hf) rfl c
    unfold State.acceptApply
    dsimp only
    split
    · split
      · rw [hfix]
        split
        · rfl
        · exact State.fld_setFld_ne _ _ _ _ hne
      · split
        · rfl
        · exact State.fld_setFld_ne _ _ _ _ hne
    · split
      · rfl
      · exact State.fld_setFld_ne _ _ _ _ hne
  refine ⟨(State.flag_of_fld (hkept _ (by decide) (by decide))).trans ?_, (State.flag_of_fld (hkept _ (by decide) (by decide))).trans ?_⟩
  · rw [State.flag_setFlag_ne _ _ _ _ (by decide)]
    exact State.flag_setFlag_self _ _ _ _ (by decide)
  · exact State.flag_setFlag_self _ _ _ _ (by decide)

theorem State.acceptApply_of_unoccupied {s : State} {j : Nat} (h : s.occupant j = none) (asap : Bool) :
    (s.acceptApply j asap).listState j = s.listState j := by
  have hocc : ∀ (t : State), t.chg = s.chg → t.occupant j = none := fun t ht => by
    unfold State.occupant at h ⊢
    rw [ht]
    exact h
  unfold State.acceptApply
  dsimp only
  rw [hocc _ (by split <;> rfl)]
  dsimp only
  have hset : ((s.setFlag R.CUT_Lj_STAT_APPLY_REQ j true).setFlag R.CUT_Lj_STAT_ASAP j asap).listState j = s.listState j :=
    (State.fld_setFlag_ne _ _ _ _ (by decide)).trans (State.fld_setFlag_ne _ _ _ _ (by decide))
  split
  · exact hset
  · exact (State.fld_setFld_ne _ _ _ _ (by decide)).trans hset

/-- A list that has failed shows it (R198). -/
theorem State.reportFail_list {s : State} {c : Change} {j : Nat} (hc : c.kind = .list j) (hj : j < 2) (f : Failure) :
    (s.reportFail c f).listState j = listFailed ∧ (s.reportFail c f).fld R.CUT_Lj_ERR_CODE j = f.code % 16
      ∧ (s.reportFail c f).latched (R.CUT_EVT_FAIL.plus j) = true := by
  unfold State.reportFail
  rw [hc]
  dsimp only
  refine ⟨?_, ?_, State.latched_latch _ _ _ (show 4 + j < 12 by omega)⟩
  · unfold State.listState
    rw [State.fld_latch_ne _ (R.CUT_EVT_FAIL.plus j) _ _ (show R.CUT_Lj_STAT_STATE.id ≠ R.CUT_EVT.id by decide), State.fld_setFlag_ne _ _ _ _ (by decide),
      State.fld_setFld_ne _ _ _ _ (by decide), State.fld_setFld_ne _ _ _ _ (by decide), State.fld_setFld_ne _ _ _ _ (by decide),
      State.fld_setFld_self]
    rfl
  · rw [State.fld_latch_ne _ (R.CUT_EVT_FAIL.plus j) _ _ (show R.CUT_Lj_ERR_CODE.id ≠ R.CUT_EVT.id by decide), State.fld_setFlag_ne _ _ _ _ (by decide),
      State.fld_setFld_ne _ _ _ _ (by decide), State.fld_setFld_ne _ _ _ _ (by decide), State.fld_setFld_self]
    rfl

/-- What the pending members learn leaves the lists' registers as they are (R138). -/
theorem State.fld_dropPending' (s : State) (f : Fld) (i : Nat) : s.dropPending.fld f i = s.fld f i := rfl

theorem State.abortList_spec (s : State) {j : Nat} (hj : j < 2) : (s.abortList j).listState j = listFailed
    ∧ (s.abortList j).fld R.CUT_Lj_ERR_CODE j = failAborted ∧ (s.abortList j).latched (R.CUT_EVT_FAIL.plus j) = true := by
  unfold State.abortList
  dsimp only
  cases hocc : s.occupant j with
  | none => exact State.reportFail_list (c := { kind := .list j }) rfl hj _
  | some c =>
    have hkind : c.kind = .list j := by
      unfold State.occupant at hocc
      split at hocc
      · split at hocc
        · next h => exact Option.some.inj hocc ▸ h
        · exact absurd hocc (by simp)
      · exact absurd hocc (by simp)
    exact State.reportFail_list hkind hj _

end Sys2Proof.Machine
end

section
/-! O16: the commands of a cut list. -/

namespace Sys2Proof.Machine

/-- A list that a change may still be made of (R211). -/
abbrev State.listWaits (s : State) (j : Nat) : Prop := s.listState j = listQueued ∨ s.listState j = listCompiling ∨ s.listState j = listArmed

theorem State.Parked.listWaits {s u : State} (h : s.Parked u) (j : Nat) : u.listWaits j ↔ s.listWaits j := by
  unfold State.listWaits
  rw [h.listState]

theorem State.listCommand_apply {s : State} {j : Nat} (hw : s.listWaits j) (hr : s.flag R.CUT_Lj_STAT_APPLY_REQ j = false) (asap : Bool) :
    s.listCommand j 2 asap = s.acceptApply j asap := if_pos (by simpa [hr, or_assoc] using hw)

theorem State.listCommand_apply_refused {s : State} {j : Nat} (h : ¬ s.listWaits j ∨ s.flag R.CUT_Lj_STAT_APPLY_REQ j = true) (asap : Bool) :
    s.listCommand j 2 asap = s.refuseCmd := by
  refine if_neg fun hc => ?_
  rw [Bool.and_eq_true] at hc
  rcases h with h | h
  · exact h (by simpa [or_assoc] using hc.1)
  · rw [h] at hc
    exact absurd hc.2 (by decide)

theorem State.listCommand_abort {s : State} {j : Nat} (hw : s.listWaits j) (asap : Bool) : s.listCommand j 4 asap = s.abortList j :=
  if_pos (by simpa [or_assoc] using hw)

theorem State.listCommand_abort_refused {s : State} {j : Nat} (hw : ¬ s.listWaits j) (asap : Bool) : s.listCommand j 4 asap = s.refuseCmd :=
  if_neg (fun hc => hw (by simpa [or_assoc] using hc))

theorem State.completed_chg (s : State) : s.completed.chg = s.chg := by
  obtain ⟨x, y, h⟩ := s.completed_same
  rw [h]

theorem State.completed_queued (s : State) : s.completed.queued = s.queued := by
  obtain ⟨x, y, h⟩ := s.completed_same
  rw [h]

theorem State.completed_listState (s : State) (j : Nat) : s.completed.listState j = s.listState j := State.completed_fld _ _ _

/-- A command that is refused leaves the lists as they are (R211). -/
theorem State.Parked.refused {s u : State} (h : s.Parked u) (j : Nat) : u.refuseCmd.completed.listState j = s.listState j
    ∧ u.refuseCmd.completed.flag R.CUT_Lj_STAT_ASAP j = s.flag R.CUT_Lj_STAT_ASAP j ∧ u.refuseCmd.completed.chg = s.chg
    ∧ u.refuseCmd.completed.queued = s.queued ∧ u.refuseCmd.completed.latched R.CUT_EVT_CMD_REFUSED = true := by
  obtain ⟨hstate, hasap, hchg, hqueued, hevt⟩ := State.refuseCmd_spec u j
  rw [State.completed_listState, State.completed_flag, State.completed_chg, State.completed_queued, State.completed_latched, hstate, hasap, hchg, hqueued,
    h.listState, h.flag _ (by decide)]
  obtain ⟨r, rfl⟩ := h.regs
  exact ⟨rfl, rfl, rfl, rfl, hevt⟩

theorem bit_zero_lt (w : Nat) : bit w 0 < 2 := bit_lt w 0

/-- Settles O16. -/
theorem listCommands : Obligations.ListCommands := by
  unfold Obligations.ListCommands
  intro m w j s hj ha hmay
  subst hj
  obtain ⟨u1, hu1, hcompile⟩ := State.cutCtrl_accepted ha hmay w.toNat (cmd := 1) (by decide) (by decide)
  obtain ⟨u2, hu2, happly⟩ := State.cutCtrl_accepted ha hmay w.toNat (cmd := 2) (by decide) (by decide)
  obtain ⟨u3, hu3, hgo⟩ := State.cutCtrl_accepted ha hmay w.toNat (cmd := 3) (by decide) (by decide)
  obtain ⟨u4, hu4, habort⟩ := State.cutCtrl_accepted ha hmay w.toNat (cmd := 4) (by decide) (by decide)
  refine ⟨fun hrest => ?_, fun hrest => ?_, fun hw hreq => ?_, fun hrest hocc => ?_, fun hno => ?_, fun hrest => ?_, fun hno => ?_, fun hw => ?_⟩
  · have heffect : u1.listCommand (bit w.toNat 0) 1 (w.toNat.testBit 4) = u1.queueList (bit w.toNat 0) := if_pos ((hu1.listAtRest _).trans hrest)
    obtain ⟨hstate, hqueued, -⟩ := State.queueList_spec u1 (bit w.toNat 0)
    refine ⟨_, congrArg Host.Outcome.next (hcompile.trans (congrArg State.completed heffect)), State.completed_status _, ?_, ?_⟩
    · rw [State.completed_listState, hstate]
    · rw [State.completed_queued, hqueued]
      have hframe : u1.frame = s.frame := hu1.fld _ _ (by decide)
      rw [hframe]
      obtain ⟨r, rfl⟩ := hu1.regs
      rfl
  · have heffect : u1.listCommand (bit w.toNat 0) 1 (w.toNat.testBit 4) = u1.refuseCmd := if_neg (by rw [hu1.listAtRest, hrest]; decide)
    obtain ⟨hstate, -, -, hqueued, hevt⟩ := hu1.refused (bit w.toNat 0)
    exact ⟨_, congrArg Host.Outcome.next (hcompile.trans (congrArg State.completed heffect)), hstate, hqueued, hevt⟩
  · obtain ⟨hshown, hasap⟩ := State.applyShown_acceptApply u2 (bit w.toNat 0) (w.toNat.testBit 4)
    refine ⟨_, congrArg Host.Outcome.next (happly.trans (congrArg State.completed
      (State.listCommand_apply ((hu2.listWaits _).2 hw) ((hu2.flag _ (by decide)).trans hreq) _))), State.completed_status _, ?_, ?_⟩
    · rw [State.completed_flag, hshown]
    · rw [State.completed_flag, hasap]
  · have heffect : u3.listCommand (bit w.toNat 0) 3 (w.toNat.testBit 4) = (u3.queueList (bit w.toNat 0)).acceptApply (bit w.toNat 0) (w.toNat.testBit 4) :=
      if_pos ((hu3.listAtRest _).trans hrest)
    obtain ⟨hstate, -, hchg⟩ := State.queueList_spec u3 (bit w.toNat 0)
    obtain ⟨hshown, hasap⟩ := State.applyShown_acceptApply (u3.queueList (bit w.toNat 0)) (bit w.toNat 0) (w.toNat.testBit 4)
    have hocc3 : (u3.queueList (bit w.toNat 0)).occupant (bit w.toNat 0) = none := by
      obtain ⟨r, rfl⟩ := hu3.regs
      unfold State.occupant at hocc ⊢
      rw [hchg]
      exact hocc
    refine ⟨_, congrArg Host.Outcome.next (hgo.trans (congrArg State.completed heffect)), State.completed_status _, ?_, ?_, ?_⟩
    · rw [State.completed_listState, State.acceptApply_of_unoccupied hocc3, hstate]
    · rw [State.completed_flag, hshown]
    · rw [State.completed_flag, hasap]
  · have hno' : ¬ u2.listWaits (bit w.toNat 0) ∨ u2.flag R.CUT_Lj_STAT_APPLY_REQ (bit w.toNat 0) = true :=
      hno.imp (fun h hc => h ((hu2.listWaits _).1 hc)) ((hu2.flag _ (by decide)).trans ·)
    exact ⟨_, congrArg Host.Outcome.next (happly.trans (congrArg State.completed (State.listCommand_apply_refused hno' _))), hu2.refused _⟩
  · have heffect : u3.listCommand (bit w.toNat 0) 3 (w.toNat.testBit 4) = u3.refuseCmd := if_neg (by rw [hu3.listAtRest, hrest]; decide)
    obtain ⟨hstate, -, hchg, hqueued, hevt⟩ := hu3.refused (bit w.toNat 0)
    exact ⟨_, congrArg Host.Outcome.next (hgo.trans (congrArg State.completed heffect)), hstate, hchg, hqueued, hevt⟩
  · obtain ⟨hstate, -, hchg, hqueued, hevt⟩ := hu4.refused (bit w.toNat 0)
    exact ⟨_, congrArg Host.Outcome.next (habort.trans (congrArg State.completed
      (State.listCommand_abort_refused (fun h => hno ((hu4.listWaits _).1 h)) _))), hstate, hchg, hqueued, hevt⟩
  · obtain ⟨hstate, hcode, hevt⟩ := State.abortList_spec u4 (bit_zero_lt w.toNat)
    refine ⟨_, congrArg Host.Outcome.next (habort.trans (congrArg State.completed (State.listCommand_abort ((hu4.listWaits _).2 hw) _))),
      State.completed_status _, ?_, ?_, ?_⟩
    · rw [State.completed_listState, hstate]
    · rw [State.completed_fld, hcode]
    · rw [State.completed_latched, hevt]

end Sys2Proof.Machine
end

section
/-! O17, O18: a change from its compile to its end (R198 to R213, R219, R221). -/

namespace Sys2Proof.Machine

/-! ### The registers of a change that is a list (R211) -/

theorem State.listState_setFld (s : State) (j v : Nat) : (s.setFld R.CUT_Lj_STAT_STATE j v).listState j = v % 8 := State.fld_setFld_self _ _ _ _

/-- A list's state, shown with the event that goes with it. -/
theorem State.shown_list (s : State) {e : Ev} {j v : Nat} (he : e.reg = R.CUT_EVT) (hbit : e.bit + j < 12) (hv : v < 8) :
    ((s.setFld R.CUT_Lj_STAT_STATE j v).latch (e.plus j)).listState j = v
      ∧ ((s.setFld R.CUT_Lj_STAT_STATE j v).latch (e.plus j)).latched (e.plus j) = true := by
  have hreg : (e.plus j).reg = R.CUT_EVT := he
  have hwidth : R.CUT_EVT.width = 12 := rfl
  refine ⟨?_, State.latched_latch _ _ _ (by rw [hreg, hwidth]; exact hbit)⟩
  unfold State.listState
  rw [State.fld_latch_ne _ _ _ _ (by rw [hreg]; decide), State.fld_setFld_self]
  exact Nat.mod_eq_of_lt hv

/-! ### A change starts compiling (R212, R213) -/

theorem State.chg_startCompile (s : State) (c : Change) : (s.startCompile c).chg = some { c with state := .compiling, began := s.frame } := by
  unfold State.startCompile State.showCompiling
  cases c.kind <;> rfl

theorem State.queued_startCompile (s : State) (c : Change) : (s.startCompile c).queued = s.queued := by
  unfold State.startCompile State.showCompiling
  cases c.kind <;> rfl

theorem execCompileStart_of_first {s : State} {c : Change} (hchg : s.chg = none) (hq : s.scnQ = []) (hmap : s.flag R.TLY_REKEY_MAP = false)
    (hfirst : firstQueued s.queued = some c) :
    execCompileStart s = .next (({ s with queued := s.queued.filter (· != c) } : State).startCompile c) := by
  unfold execCompileStart
  rw [hchg, hq, hmap, hfirst]
  rfl

/-- A compile that ends in an ARMED list for which no APPLY has been accepted (R198, R211). -/
def State.armList (s : State) (c : Change) (f : Nat) : State :=
  let c1 := { c with state := .armed, armedAt := s.frame, base := f, stale := false, cseq := s.compileSeq c }
  ((s.showArmed c1).addPending c1).fixFrame c1

/-- A change as its compile leaves it (R198, R206). -/
def State.compiledChange (s : State) (c : Change) (res : List (Schedule × List EditRec)) (tap : Tab (Tab TapEnt)) : Change :=
  { c with recs := s.changeRecs c, results := res.map (·.1), chunks := res.map (·.2)
           bents := sortNats (((s.changeRecs c).filter (fun r => r.isAdd || r.isRemove)).map (·.group))
           took := newPositions (s.readUnits []).tap tap }

theorem execCompileDone_of_ok {s : State} {c : Change} {j : Nat} {res tap} (hchg : s.chg = some c) (hstate : c.state = .compiling) (hkind : c.kind = .list j)
    (happly : c.applyAt = none) (hok : compileChange ((s.readUnits []).compileEnv c) (s.schedAt (frameAdd s.frame 2)) (s.readUnits []).tap
      (recordLimit c.kind) (s.changeRecs c) = .ok (res, tap)) :
    execCompileDone s = .next ((({ s.readUnits [] with tap := tap } : State).stampTaps (s.readUnits []).tap).armList
      (s.compiledChange c res tap) (frameAdd s.frame 2)) := by
  have hframe : s.frameIfArmed c = none := by
    unfold State.frameIfArmed
    rw [hkind, happly]
    rfl
  have hunits : s.recUnits c = [] := by
    unfold State.recUnits
    rw [hkind]
  unfold execCompileDone
  rw [hchg]
  dsimp only
  rw [if_neg (not_not_intro hstate), hframe, hunits]
  dsimp only
  rw [if_neg (by rw [hkind]; exact Bool.false_ne_true), hok]
  unfold State.armList State.compiledChange
  simp only [hkind]

theorem execCompileDone_of_error {s : State} {c : Change} {j : Nat} {e : Failure} (hchg : s.chg = some c) (hstate : c.state = .compiling)
    (hkind : c.kind = .list j) (happly : c.applyAt = none)
    (herr : compileChange ((s.readUnits []).compileEnv c) (s.schedAt (frameAdd s.frame 2)) (s.readUnits []).tap
      (recordLimit c.kind) (s.changeRecs c) = .error e) : execCompileDone s = .next ((s.readUnits []).failChange c e) := by
  have hframe : s.frameIfArmed c = none := by
    unfold State.frameIfArmed
    rw [hkind, happly]
    rfl
  have hunits : s.recUnits c = [] := by
    unfold State.recUnits
    rw [hkind]
  unfold execCompileDone
  rw [hchg]
  dsimp only
  rw [if_neg (not_not_intro hstate), hframe, hunits]
  dsimp only
  rw [if_neg (by rw [hkind]; exact Bool.false_ne_true), herr]

/-- What a list's compile uses stays as its records are read (R199). -/
theorem State.compileEnv_readUnits (s : State) {c : Change} {j : Nat} (hkind : c.kind = .list j) (us : List Nat) :
    (s.readUnits us).compileEnv c = s.compileEnv c := by
  have hfld : ∀ (f : Fld) i, regOk 0x100000000000000000000000000000000000000000000000000000000000000000000000000000000000000000000000000000000000000000000000000000000000000000000000000000000000000000000000 f.id = false → (s.readUnits us).fld f i = s.fld f i := fun f i hf =>
    State.readUnits_k (K := fun t => t.fld f i = s.fld f i) (loose_fld hf) rfl us
  have hguard : (s.readUnits us).guard = s.guard := funext fun b => hfld _ _ (by decide)
  have hsync : (fun p => (s.readUnits us).flag R.LN_FRM_CFG_SYNC p) = fun p => s.flag R.LN_FRM_CFG_SYNC p :=
    funext fun p => State.flag_of_fld (hfld _ _ (by decide))
  have hcap : (s.readUnits us).lpCap = s.lpCap := hfld _ _ (by decide)
  unfold State.compileEnv
  rw [hkind]
  dsimp only
  rw [hguard, hsync, hcap]

theorem State.tap_readUnits (s : State) (us : List Nat) : (s.readUnits us).tap = s.tap :=
  State.readUnits_k (loose_part s .tap (by decide) (by decide) (by decide)) rfl us

theorem State.armList_spec (s : State) {c : Change} {j : Nat} (hkind : c.kind = .list j) (hj : j < 2) (happly : c.applyAt = none) (f : Nat) :
    (s.armList c f).listState j = listArmed ∧ (s.armList c f).latched (R.CUT_EVT_ARMED.plus j) = true
      ∧ (s.armList c f).chg = some { c with state := .armed, armedAt := s.frame, base := f, stale := false, cseq := s.fld R.DEV_COMMIT_SEQ_CSEQ } := by
  have hseq : s.compileSeq c = s.fld R.DEV_COMMIT_SEQ_CSEQ := by
    unfold State.compileSeq
    rw [hkind]
  unfold State.armList
  rw [hseq]
  dsimp only
  generalize hd : ({ c with state := .armed, armedAt := s.frame, base := f, stale := false, cseq := s.fld R.DEV_COMMIT_SEQ_CSEQ } : Change) = d
  have hdk : d.kind = .list j := by rw [← hd]; exact hkind
  have hda : d.applyAt = none := by rw [← hd]; exact happly
  have hfix : ∀ u : State, u.fixFrame d = { u with chg := some d } := fun u => by
    unfold State.fixFrame
    rw [hda]
  have hshow : s.showArmed d = (s.setFld R.CUT_Lj_STAT_STATE j listArmed).latch (R.CUT_EVT_ARMED.plus j) := by
    unfold State.showArmed
    rw [hdk]
  obtain ⟨hstate, hevt⟩ := State.shown_list s (e := R.CUT_EVT_ARMED) (j := j) (v := listArmed) rfl (show 0 + j < 12 by omega) (by decide)
  rw [hfix, hshow]
  generalize (s.setFld R.CUT_Lj_STAT_STATE j listArmed).latch (R.CUT_EVT_ARMED.plus j) = u at hstate hevt ⊢
  have hfld : ∀ (g : Fld) i, regOk 0x100000 g.id = false → (u.addPending d).fld g i = u.fld g i := fun g i hg =>
    State.addPending_k (K := fun t => t.fld g i = u.fld g i) (loose_fld hg) rfl d
  exact ⟨(hfld R.CUT_Lj_STAT_STATE j (by decide)).trans hstate, State.latched_of_fld (hfld R.CUT_EVT 0 (by decide)) hevt, rfl⟩

theorem State.failChange_list (s : State) {c : Change} {j : Nat} (hkind : c.kind = .list j) (hj : j < 2) (f : Failure) :
    (s.failChange c f).listState j = listFailed ∧ (s.failChange c f).fld R.CUT_Lj_ERR_CODE j = f.code % 16
      ∧ (s.failChange c f).latched (R.CUT_EVT_FAIL.plus j) = true ∧ (s.failChange c f).chg = none := by
  obtain ⟨hstate, hcode, hevt⟩ := State.reportFail_list (s := (s.withdraw c).journalCancel c) hkind hj f
  exact ⟨hstate, hcode, hevt, rfl⟩

/-! ### Applying (R205, R211) -/

theorem State.stampTick_eq (s old : State) : ∃ l r, s.stampTick old = { s with logQ := l, ringQ := r } := ⟨_, _, rfl⟩

theorem State.chg_showApplying (s : State) (c : Change) : (s.showApplying c).chg = s.chg := by
  unfold State.showApplying
  cases c.kind <;> rfl

theorem State.sched_showDone (s : State) (c : Change) : (s.showDone c).sched = s.sched := by
  unfold State.showDone
  cases c.kind with
  | list j => rw [State.latch_sched]; rfl
  | scene n => rw [State.latch_sched]; rfl
  | replacement => rw [State.latch_sched]; rfl
  | base => rfl
  | journal n => rfl

/-- Settles O17. -/
theorem changesRunTheirCourse : Obligations.ChangesRunTheirCourse := by
  unfold Obligations.ChangesRunTheirCourse
  intro s c j hj
  refine ⟨fun hchg hq hmap hfirst => ?_, fun res tap hchg hstate hkind happly hok => ?_, fun e hchg hstate hkind happly herr => ?_,
    fun hchg hstate hstale => ?_, fun f hchg hf hstate hstale hreach => ?_, fun f hchg hf hstate hreach hkind => ?_,
    fun f hchg hf hstate hreach hdefers => ?_, fun hchg hstate hdone hreach => ?_⟩
  · refine ⟨_, execCompileStart_of_first hchg hq hmap hfirst, ?_, State.chg_startCompile _ c⟩
    rw [State.queued_startCompile]
    simp
  · have hexec := execCompileDone_of_ok hchg hstate hkind happly
      (by rw [State.compileEnv_readUnits s hkind, State.tap_readUnits]; exact hok)
    obtain ⟨hlist, hevt, hd⟩ := State.armList_spec (({ s.readUnits [] with tap := tap } : State).stampTaps (s.readUnits []).tap)
      (c := s.compiledChange c res tap) hkind hj happly (frameAdd s.frame 2)
    refine ⟨_, hexec, hlist, hevt, _, hd, ?_⟩
    refine ⟨hkind, rfl, rfl, ?_, ?_⟩
    · exact State.readUnits_k (K := fun t => t.fld R.DEV_FRAME_FRAME 0 = s.fld R.DEV_FRAME_FRAME 0) (loose_fld (by decide)) rfl []
    · exact State.readUnits_k (K := fun t => t.fld R.DEV_COMMIT_SEQ_CSEQ 0 = s.fld R.DEV_COMMIT_SEQ_CSEQ 0) (loose_fld (by decide)) rfl []
  · have hexec := execCompileDone_of_error hchg hstate hkind happly (by rw [State.compileEnv_readUnits s hkind, State.tap_readUnits]; exact herr)
    obtain ⟨hlist, hcode, hevt, hnone⟩ := State.failChange_list (s.readUnits []) hkind hj e
    exact ⟨_, hexec, hlist, hevt, hnone, hcode⟩
  · refine ⟨((s.withdraw c).startCompile { c with took := [], results := [], stale := false }).latch R.CUT_EVT_STALE, ?_,
      State.latched_latch _ _ _ (by decide), _, (State.latch_chg _ _ _).trans (State.chg_startCompile _ _), rfl, rfl, rfl, rfl, rfl⟩
    show execRecompile s = _
    unfold execRecompile
    rw [hchg]
    dsimp only
    rw [if_pos (by simp [hstate, hstale])]
  · have hexec : execApplyStart s = .next ((({ s with
        chg := some { c with state := .applying }, actions := s.actions.map (fun (a : BentAction) => a.defer c f) } : State).showApplying c).stampTick s) := by
      unfold execApplyStart
      rw [hchg]
      dsimp only
      rw [hf]
      dsimp only
      rw [if_neg (by simp [hstate, hreach]), if_pos (by simp [hstate, hstale])]
    refine ⟨_, hexec, State.chg_showApplying _ _, fun hkind => ?_⟩
    show State.listState (State.showApplying _ c) j = _
    unfold State.showApplying
    rw [hkind]
    exact State.listState_setFld _ _ _
  · have hdefers : c.defers = false := by
      unfold Change.defers
      rw [hkind]
    have hexec : execApplyStart s = .next ((s.failChange c { code := failLate, index := 0 }).stampTick s) := by
      unfold execApplyStart
      rw [hchg]
      dsimp only
      rw [hf]
      dsimp only
      rw [if_neg (by simp [hstate, hreach]), if_neg (by simp [hstate]), hdefers, if_neg Bool.false_ne_true]
    obtain ⟨hlist, hcode, -, hnone⟩ := State.failChange_list s hkind hj { code := failLate, index := 0 }
    exact ⟨_, hexec, hnone, hlist, hcode⟩
  · refine ⟨({ s with chg := some { c with frame := none } } : State).stampTick s, ?_, rfl⟩
    show execApplyStart s = _
    unfold execApplyStart
    rw [hchg]
    dsimp only
    rw [hf]
    dsimp only
    rw [if_neg (by simp [hstate, hreach]), if_neg (by simp [hstate]), if_pos hdefers]
  · have hexec : execChangeDone s = .next (((({ s with tap := s.clearTaps } : State).showDone c).freeScribe).stampTick s) := by
      unfold execChangeDone
      rw [hchg]
      dsimp only
      rw [if_pos (by simp [hstate, hdone, hdone ▸ hreach])]
    refine ⟨_, hexec, rfl, State.sched_showDone _ c, fun hkind => ?_⟩
    have hshow : ({ s with tap := s.clearTaps } : State).showDone c =
        (({ s with tap := s.clearTaps } : State).setFld R.CUT_Lj_STAT_STATE j listDone).latch (R.CUT_EVT_DONE.plus j) := by
      unfold State.showDone
      rw [hkind]
    rw [hshow]
    exact State.shown_list { s with tap := s.clearTaps } (e := R.CUT_EVT_DONE) (j := j) (v := listDone) rfl (show 2 + j < 12 by omega) (by decide)

end Sys2Proof.Machine
end

section
/-! O18: chunks and steps replace the schedule (R208, R219, R221). -/

namespace Sys2Proof.Machine

/-- What follows a chunk's new schedule in its frame: the sides, the members, the groups, the storage and the costs (R139, R205, R235, R247). -/
def State.chunkFollowed (s0 s : State) (c : Change) (k : Nat) : State :=
  let old := s.sched
  let recs := c.chunks.getD k []
  let new := c.results.getD k old
  let s1 := (if k = 0 && s0.copying then s0.journal recInfo (c.frame.getD 0) 0 (c.recs.map EditRec.words) else s0).countDual recs.length
  let s2 := (recs.filter EditRec.isSlot).foldl (fun t r => (t.clearSide (2 * r.out)).clearSide (2 * r.out + 1)) s1
  let s3 := ((s2.clearMoved (fun _ => true) old new).followMembers old recs).followGroups old.map new.map
  ((s3.releaseTaps old new).settleTaps).watchOver.noteApply s

theorem State.chunkFollowed_k {K : State → Prop} (hK : Loose 0xde00040000000000000000000000000000051a000000040000000000000000400000008000000000000000000000000000000000000000100000160110c00 K)
    {s0 : State} (h : K s0) (s : State) (c : Change) (k : Nat) : K (s0.chunkFollowed s c k) := by
  unfold State.chunkFollowed
  dsimp only
  have h1 := State.countDual_k (hK.mono (by decide)) (ite_k (c := (decide (k = 0) && s0.copying) = true)
    (State.journal_k (hK.mono (by decide)) h recInfo (c.frame.getD 0) 0 (c.recs.map EditRec.words)) h) (c.chunks.getD k []).length
  have h2 := foldl_k (K := K) (fun t (r : EditRec) => (t.clearSide (2 * r.out)).clearSide (2 * r.out + 1)) ((c.chunks.getD k []).filter EditRec.isSlot) h1
    (fun t r ht => State.clearSide_k (hK.mono (by decide)) (State.clearSide_k (hK.mono (by decide)) ht _) _)
  exact State.noteApply_k (hK.mono (by decide)) (State.watchOver_k (hK.mono (by decide)) (State.settleTaps_k (hK.mono (by decide))
    (State.releaseTaps_k (hK.mono (by decide)) (State.followGroups_k (hK.mono (by decide)) (State.followMembers_k (hK.mono (by decide))
      (State.clearMoved_k (hK.mono (by decide)) h2 _ _ _) _ _) _ _) _ _))) s

theorem State.applyChunk_eq (s : State) (c : Change) (k : Nat) : s.applyChunk c k =
    let s5 := ({ s with sched := c.results.getD k s.sched, chg := some { c with done := k + 1 } } : State).chunkFollowed s c k
    match c.kind with
    | .scene _ => if k = 0 then s5.setFld R.CUT_SCN_LAST_FRAME 0 (c.frame.getD 0) else s5
    | .replacement => s5.setFld R.SCB_REPL_STAT_STEP 0 (k + 1)
    | _ => s5 := by
  unfold State.applyChunk State.chunkFollowed
  cases c.kind <;> rfl

/-- A chunk replaces the schedule whole (R208, R219). -/
theorem State.applyChunk_spec (s : State) (c : Change) (k : Nat) :
    (s.applyChunk c k).sched = c.results.getD k s.sched ∧ (s.applyChunk c k).chg = some { c with done := k + 1 } := by
  have hsched := State.chunkFollowed_k (loose_part { s with sched := c.results.getD k s.sched, chg := some { c with done := k + 1 } } .sched
    (by decide) (by decide) (by decide)) rfl s c k
  have hchg := State.chunkFollowed_k (loose_part { s with sched := c.results.getD k s.sched, chg := some { c with done := k + 1 } } .chg
    (by decide) (by decide) (by decide)) rfl s c k
  rw [State.applyChunk_eq]
  dsimp only
  generalize ({ s with sched := c.results.getD k s.sched, chg := some { c with done := k + 1 } } : State).chunkFollowed s c k = u at hsched hchg ⊢
  have hu : u.sched = c.results.getD k s.sched ∧ u.chg = some { c with done := k + 1 } := ⟨hsched, hchg⟩
  split
  · split <;> exact hu
  · exact hu
  · exact hu

theorem State.step_applyChunk (s : State) {c : Change} (hkind : c.kind = .replacement) (k : Nat) :
    (s.applyChunk c k).fld R.SCB_REPL_STAT_STEP = (k + 1) % 2 ^ R.SCB_REPL_STAT_STEP.width := by
  rw [State.applyChunk_eq]
  dsimp only
  rw [hkind]
  exact State.fld_setFld_self _ _ _ _

/-- Settles O18. -/
theorem chunksReplaceTheSchedule : Obligations.ChunksReplaceTheSchedule := by
  unfold Obligations.ChunksReplaceTheSchedule
  intro s c k hdue
  obtain ⟨hsched, hchg⟩ := State.applyChunk_spec s c k
  refine ⟨fun hk hkind => ?_, fun hk hkind => ?_, fun hkind => ?_⟩
  · subst hk
    refine ⟨(s.applyChunk c 0).stampTick s, ?_, hsched, hchg⟩
    show execApplyTick s = _
    unfold execApplyTick
    rw [hdue]
    exact congrArg (fun t => Host.Outcome.next (State.stampTick t s)) (if_neg hkind)
  · obtain ⟨i, rfl⟩ : ∃ i, k = i + 1 := ⟨k - 1, by omega⟩
    refine ⟨(s.applyChunk c (i + 1)).stampTick s, ?_, hsched, hchg⟩
    show execChunkApply s = _
    unfold execChunkApply
    rw [hdue]
    exact congrArg (fun t => Host.Outcome.next (State.stampTick t s)) (if_neg hkind)
  · refine ⟨(s.applyChunk c k).stampTick s, ?_, hsched, hchg, State.step_applyChunk s hkind k⟩
    show execReplaceStep s = _
    unfold execReplaceStep
    rw [hdue]
    exact congrArg (fun t => Host.Outcome.next (State.stampTick t s)) (if_pos hkind)

end Sys2Proof.Machine
end

section
/-! O19: scenes, re-placement and the staging window (R209, R210, R215 to R218, R221). -/

namespace Sys2Proof.Machine

theorem State.Parked.mayChange {s u : State} (h : s.Parked u) : u.mayChange = s.mayChange := by
  have hstate : u.mateState = s.mateState := h.fld _ _ (by decide)
  unfold State.mayChange State.paired State.isActive
  rw [hstate]

theorem State.Parked.frame {s u : State} (h : s.Parked u) : u.frame = s.frame := h.fld _ _ (by decide)

/-! ### Scenes (R217, R218) -/

/-- CUT_SCN_CMD in the register table. -/
def cutScnCmdReg : Reg := ⟨RN.CUT_SCN_CMD, 0xb0200, 0, 1, 0x0, .single, [⟨R.CUT_SCN_CMD_SCENE, 0, 0, 8⟩, ⟨R.CUT_SCN_CMD_GO, 0, 8, 1⟩]⟩

theorem State.sceneCommand_of_go {s : State} (h : s.mayChange = true) (w : Nat) :
    s.sceneCommand (putBits w 8 1 1) = { s with scnTrig := s.scnTrig ++ [(frameAdd s.frame 1, w % 256)] } := by
  have hgo : bit (putBits w 8 1 1) 8 = 1 := bit_putBits_one _ _
  have hscene : bits (putBits w 8 1 1) 0 8 = w % 256 := (bits_putBits_below (by decide) 1).trans (by unfold bits; omega)
  unfold State.sceneCommand
  rw [hgo, h, hscene]
  rfl

/-- What completing an access leaves of the scribe's work. -/
theorem State.completed_scnTrig (s : State) : s.completed.scnTrig = s.scnTrig := by
  obtain ⟨x, y, h⟩ := s.completed_same
  rw [h]

/-- A defect that a scene may be triggered by is one of those that its trigger looks at (R217). -/
theorem sceneHit {s : State} {k lane : Nat} {d : Defect} {b : Nat} (hb : d.sceneBit = some b) (hd : s.declared lane d = true)
    (hbit : (s.fld R.CUT_SCNn_TRIG_DEFECTS k).testBit b = true) :
    [Defect.los, .lol, .lof, .lais, .lsf, .lsd, .lmm].any (fun d =>
      (d.sceneBit.map (fun b => (s.fld R.CUT_SCNn_TRIG_DEFECTS k).testBit b)).getD false && s.declared lane d) = true := by
  refine List.any_eq_true.2 ⟨d, ?_, ?_⟩
  · cases d with
    | oof | lrdi | lph => cases hb
    | los | lol | lof | lais | lsd | lsf | lmm => decide
  · rw [hb, hd]
    simpa using hbit

theorem execSceneQueue_eq {s : State} {x : Nat × Nat} (h : s.firstTrigger = some x) : execSceneQueue s = .next (
    if 16 ≤ s.scnQ.length || s.scnQ.contains x.2 then ({ s with scnTrig := s.scnTrig.erase x } : State).latch R.CUT_EVT_SCN_DROP
    else { s with scnTrig := s.scnTrig.erase x, scnQ := s.scnQ ++ [x.2] }) := by
  unfold execSceneQueue
  rw [h]

theorem execSceneStart_of_free {s : State} {n : Nat} {rest : List Nat} (hq : s.scnQ = n :: rest) (hmap : s.flag R.TLY_REKEY_MAP = false)
    (hscenes : s.flag R.TLY_REKEY_SCENES = false) (hchg : s.chg = none) : execSceneStart s = .next (
      if s.fld R.CUT_SCNn_LEN_LEN n = 0 then
        (({ s with scnQ := rest } : State).setFld R.CUT_SCN_STAT_CUR 0 n).reportFail { kind := .scene n, since := s.frame } { code := failLen, index := 0 }
      else ({ s with scnQ := rest } : State).startCompile { kind := .scene n, since := s.frame }) := by
  unfold execSceneStart State.startScene
  rw [hq, hmap, hscenes, hchg]
  rfl

theorem State.scnQ_startCompile (s : State) (c : Change) : (s.startCompile c).scnQ = s.scnQ := by
  unfold State.startCompile State.showCompiling
  cases c.kind <;> rfl

/-- A scene that fails shows it (R198, R216). -/
theorem State.reportFail_scene (s : State) {c : Change} {n : Nat} (hc : c.kind = .scene n) (f : Failure) :
    (s.reportFail c f).fld R.CUT_SCN_ERR_CODE = f.code % 16 ∧ (s.reportFail c f).latched R.CUT_EVT_SCN_FAIL = true
      ∧ (s.reportFail c f).scnQ = s.scnQ ∧ (s.reportFail c f).chg = s.chg := by
  unfold State.reportFail
  rw [hc]
  dsimp only
  refine ⟨?_, State.latched_latch _ _ _ (by decide), State.latch_scnQ _ _ _, State.latch_chg _ _ _⟩
  rw [State.fld_latch_ne _ _ _ _ (by decide), State.fld_setFld_ne _ _ _ _ (by decide), State.fld_setFld_ne _ _ _ _ (by decide), State.fld_setFld_self]
  rfl

/-! ### Re-placement (R215, R221) -/

/-- SCB_REPL_CTRL in the register table. -/
def scbReplCtrlReg : Reg := ⟨RN.SCB_REPL_CTRL, 0xb0010, 0, 1, 0x0, .single, [⟨R.SCB_REPL_CTRL_GO, 0, 0, 1⟩]⟩

theorem State.replaceCommand_of_idle {s : State} (h : s.mayChange = true) (hidle : s.fld R.SCB_REPL_STAT_STATE = 0) : s.replaceCommand =
    { s.setFld R.SCB_REPL_STAT_STATE 0 1 with queued := s.queued ++ [{ kind := .replacement, since := s.frame }] } := by
  unfold State.replaceCommand
  rw [h, hidle]
  rfl

/-- What the active's journal leaves of a change that is queued (R309). -/
theorem State.kept_journalWrite (s : State) (r : Reg) (i w : Nat) : (s.journalWrite r i w).queued = s.queued
    ∧ (s.journalWrite r i w).fld R.SCB_REPL_STAT_STATE = s.fld R.SCB_REPL_STAT_STATE :=
  ⟨State.journalWrite_k (loose_part s .queued (by decide) (by decide) (by decide)) rfl r i w,
    State.journalWrite_k (K := fun t => t.fld R.SCB_REPL_STAT_STATE = s.fld R.SCB_REPL_STAT_STATE) (loose_fld (by decide)) rfl r i w⟩

/-! ### The staging window (R209, R210) -/

theorem place_staging {a j : Nat} (h : stagingList a = some j) : place a = .staging (a - 0x110000000) := by
  unfold stagingList at h
  split at h
  · next ha =>
    unfold place
    rw [if_neg (by omega), if_neg (by omega), if_neg (by omega), if_neg (by omega), if_neg (by omega), if_pos (by omega)]
  · exact absurd h (by simp)

/-- A staging write that is accepted (R209, R210). -/
theorem State.hostWrite_staging {s : State} {m a j : Nat} (h : stagingList a = some j) (hal : a % 4 = 0) (hok : s.judge m a false true = .ok) (w : Nat) :
    s.hostWrite m a w = ((s.stageWrite j (fun t => t.writeLe a 4 w)).answer .ok []) := by
  have hp := place_staging h
  unfold State.hostWrite State.writePriv
  rw [hok]
  dsimp only
  rw [hp]
  unfold misaligned
  rw [if_neg (by simp [hal])]
  show State.answer (match stagingList a with | some j => _ | none => _) _ _ = _
  rw [h]
  rfl

/-- Settles O19. -/
theorem scenesAndStaging : Obligations.ScenesAndStaging := by
  unfold Obligations.ScenesAndStaging
  intro m w s
  refine ⟨fun ha hmay => ?_, fun k d b hb hmay hen hprimed hd hbit => ?_, fun x hx hlen hnot => ?_, fun x hx hfull => ?_,
    fun n rest hq hmap hscenes hchg hlen => ?_, fun n rest hq hmap hscenes hchg hlen => ?_, fun ha hmay hidle => ?_,
    fun a j hj hal hok hrest hwf => ?_, fun a j hj hal hok hrest => ?_⟩
  · obtain ⟨u, hu, hwrite⟩ := State.regWrite_unjournalled (r := cutScnCmdReg) (by decide) (by decide) (by decide) (by decide) (by decide) (by decide) ha
      (putBits w.toNat 8 1 1)
    have heffect : u.writeEffect u m cutScnCmdReg.id 0 (putBits w.toNat 8 1 1) none = u.sceneCommand (putBits w.toNat 8 1 1) := rfl
    refine ⟨_, congrArg Host.Outcome.next hwrite, State.completed_status _, ?_⟩
    rw [State.completed_scnTrig, heffect, State.sceneCommand_of_go (hu.mayChange.trans hmay), hu.frame]
    obtain ⟨r, rfl⟩ := hu.regs
    rfl
  · refine ⟨{ s.setFlag R.CUT_SCNn_TRIG_PRIMED k.val false with scnTrig := s.scnTrig ++ [(frameAdd s.frame 1, k.val)] }, ?_,
      State.flag_setFlag_self s _ _ _ (by decide), rfl⟩
    show execSceneDefectTrigger k s = _
    unfold execSceneDefectTrigger
    dsimp only
    rw [sceneHit hb hd hbit, hmay, hen, hprimed]
    rfl
  · refine ⟨_, (execSceneQueue_eq hx).trans (congrArg _ (if_neg ?_)), rfl, rfl⟩
    simp [hnot, hlen]
  · refine ⟨_, (execSceneQueue_eq hx).trans (congrArg _ (if_pos ?_)), State.latch_scnQ _ _ _, State.latched_latch _ _ _ (by decide)⟩
    simpa using hfull
  · refine ⟨_, (execSceneStart_of_free hq hmap hscenes hchg).trans (congrArg _ (if_neg hlen)), State.scnQ_startCompile _ _, _,
      State.chg_startCompile _ _, rfl, rfl⟩
  · obtain ⟨hcode, hevt, hscnq, hnone⟩ := State.reportFail_scene (({ s with scnQ := rest } : State).setFld R.CUT_SCN_STAT_CUR 0 n)
      (c := { kind := .scene n, since := s.frame }) rfl { code := failLen, index := 0 }
    exact ⟨_, (execSceneStart_of_free hq hmap hscenes hchg).trans (congrArg _ (if_pos hlen)), hscnq, hnone.trans hchg, hcode, hevt⟩
  · have hwrite := State.regWrite_command (r := scbReplCtrlReg) (by decide) (Nat.le_refl 0) (by decide) (by decide) (by decide) ha (putBits w.toNat 0 1 1)
    refine ⟨_, congrArg Host.Outcome.next hwrite, State.completed_status _, ?_⟩
    have hu := s.parked_park m (scbReplCtrlReg.addr 0)
    generalize s.park m (.reg (scbReplCtrlReg.addr 0)) = u at hu ⊢
    have heffect : u.writeEffect u m scbReplCtrlReg.id 0 (putBits w.toNat 0 1 1) none = u.replaceCommand := if_pos (bit_putBits_one _ _)
    rw [State.completed_fld, State.completed_queued, heffect, State.replaceCommand_of_idle (hu.mayChange.trans hmay) ((hu.fld _ _ (by decide)).trans hidle),
      hu.frame]
    obtain ⟨hqueued, hstate⟩ := State.kept_journalWrite ({ u.setFld R.SCB_REPL_STAT_STATE 0 1 with
      queued := u.queued ++ [{ kind := .replacement, since := s.frame }] } : State) scbReplCtrlReg 0 (putBits w.toNat 0 1 1)
    rw [hqueued, hstate]
    obtain ⟨r, rfl⟩ := hu.regs
    exact ⟨State.fld_setFld_self _ _ _ _, rfl⟩
  · have hwrite := State.hostWrite_staging hj hal hok w.toNat
    unfold State.stageWrite at hwrite
    rw [if_pos hrest] at hwrite
    refine ⟨_, congrArg Host.Outcome.next hwrite, rfl, State.readBytes_writeBytes hwf _ _, fun c hc => State.byte_writeBytes_ne s _ hc⟩
  · have hwrite := State.hostWrite_staging hj hal hok w.toNat
    unfold State.stageWrite at hwrite
    rw [if_neg (by simp [hrest])] at hwrite
    exact ⟨_, congrArg Host.Outcome.next hwrite, State.latch_mem _ _ _, State.latched_latch _ _ _ (by decide)⟩

end Sys2Proof.Machine
end

section
/-! Where the queues of events only grow: the commands of a tick name core cycle 0 in the records that they latch themselves (R2, R396). -/

namespace Sys2Proof.Machine

/-- The queues of events of `t` hold at least as many records as those of `s`. -/
def State.Longer (s t : State) : Prop := s.logQ.length ≤ t.logQ.length ∧ s.ringQ.length ≤ t.ringQ.length

theorem State.Longer.refl (s : State) : s.Longer s := ⟨Nat.le_refl _, Nat.le_refl _⟩

theorem loose_longer {m : Nat} (s0 : State) (hr : m.testBit 10 = false) (hl : m.testBit 11 = false) (h60 : m.testBit 60 = false) :
    Loose m s0.Longer where
  upd {s t} hk hg := by
    unfold State.Longer
    rw [hg.logQ hl, hg.ringQ hr]
    exact hk
  setByte _ _ hk _ _ := hk
  area _ _ _ hk _ _ _ := hk
  bank _ _ hk _ _ := hk
  clear _ _ hk _ _ := hk
  zero _ _ _ hk _ _ := hk
  secure _ _ hk := hk
  rekey _ _ _ hk := hk
  blow _ _ hk _ := hk
  fresh h1 _ _ _ _ _ _ _ _ _ _ _ := absurd h1 (Bool.eq_false_iff.mp h60)

namespace State.Longer

variable {s t : State}

theorem setFld (h : s.Longer t) (f : Fld) (i v : Nat) : s.Longer (t.setFld f i v) := h

theorem setFlag (h : s.Longer t) (f : Fld) (i : Nat) (b : Bool) : s.Longer (t.setFlag f i b) := h

theorem latchAs (h : s.Longer t) (e : Ev) (i ri d : Nat) : s.Longer (t.latchAs e i ri d) := by
  unfold State.latchAs
  split
  · exact h
  · obtain ⟨hl, hr⟩ := h
    refine ⟨?_, ?_⟩
    · rw [List.length_append]
      exact Nat.le_add_right_of_le hl
    · dsimp only
      split
      · rw [List.length_append]
        exact Nat.le_add_right_of_le hr
      · exact hr

theorem latch (h : s.Longer t) (e : Ev) (i : Nat) : s.Longer (t.latch e i) := h.latchAs e i _ _

theorem latchIf (h : s.Longer t) (b : Bool) (e : Ev) (i : Nat) : s.Longer (t.latchIf b e i) := by
  unfold State.latchIf
  exact ite_k (h.latch e i) h

theorem undeclare (h : s.Longer t) (n : Nat) (d : Defect) : s.Longer (t.undeclare n d) := by
  have hl : s.Longer (t.lsdEnds n) := State.lsdEnds_k (loose_longer s (by decide) (by decide) (by decide)) h n
  have hh : s.Longer (t.hardDefect n) := State.hardDefect_k (loose_longer s (by decide) (by decide) (by decide)) h n
  unfold State.undeclare
  dsimp only
  generalize hu : (if d = Defect.lsd then _ else _) = u
  have hu' : s.Longer u := by
    rw [← hu]
    exact ite_k hl (ite_k hh h)
  refine ite_k ?_ h
  refine State.rePrime_k (loose_longer s (by decide) (by decide) (by decide)) ?_ n
  refine State.refreshCa_k (loose_longer s (by decide) (by decide) (by decide)) ?_ n
  exact State.Longer.latch (setFlag hu' _ _ _) _ _

theorem groupCommitted (h : s.Longer t) (old : State) (g : Nat) : s.Longer (t.groupCommitted old g) := by
  unfold State.groupCommitted
  dsimp only
  refine State.Longer.latchIf ?_ _ _ _
  exact ite_k h h

theorem lamCommitted (h : s.Longer t) (old : State) : s.Longer (t.lamCommitted old) := by
  unfold State.lamCommitted State.lamsIn State.substDone State.substDoneAt
  dsimp only
  generalize hu : State.setFld _ R.FAB_LAM_STAT_ROTATE_ACT 0 _ = u
  have h2 : s.Longer u := by
    rw [← hu]
    refine setFld ?_ _ _ _
    exact ite_k h h
  refine ite_k h2 (ite_k ?_ ?_)
  · refine State.showBusy_k (loose_longer s (by decide) (by decide) (by decide)) ?_
    refine State.tallyAdd_k (loose_longer s (by decide) (by decide) (by decide)) ?_ _ _ _ _
    exact latch (latch (setFld (setFld h2 _ _ _) _ _ _) _ _) _ _
  · have h3 := latch (setFld h2 R.FAB_LAM_STAT_SUB_ACT 0 (b2n false)) R.FAB_EVT_LAM_SUB 0
    exact ite_k h3 (setFld h3 _ _ _)

theorem committed (h : s.Longer t) (old : State) (v : Values) : s.Longer (t.committed old v) := by
  unfold State.committed
  dsimp only
  refine foldl_k _ _ ?_ fun u k hu => State.clearHist_k (loose_longer s (by decide) (by decide) (by decide)) hu k
  generalize hu5 : List.foldl _ _ (givenFor v [R.PLB_FPOUTk_OFFSET_OFFSET]) = u5
  have h5 : s.Longer u5 := by
    rw [← hu5]
    refine foldl_k _ _ ?_ fun u k hu => State.fpoutCommitted_k (loose_longer s (by decide) (by decide) (by decide)) hu k _
    refine foldl_k _ _ ?_ fun u k hu => State.refsCommitted_k (loose_longer s (by decide) (by decide) (by decide)) hu _ k
    refine foldl_k _ _ ?_ fun u k hu => State.timingCommitted_k (loose_longer s (by decide) (by decide) (by decide)) hu _ k
    refine foldl_k _ _ ?_ fun u k hu => ite_k hu (undeclare hu _ _)
    refine foldl_k _ _ ?_ fun u k hu => State.txInvCommitted_k (loose_longer s (by decide) (by decide) (by decide)) hu k
    have h1 : s.Longer ((givenFor v [R.SCF_GCFG_MODE, R.SCF_GCFG_HOME, R.SCF_GCFG_REVERT]).foldl (fun t g => t.groupCommitted old g) t) :=
      foldl_k _ _ h fun u g hu => hu.groupCommitted old g
    exact ite_k h1 (h1.lamCommitted old)
  generalize hu6 : (if State.usedChanged _ _ _ then State.makeStale _ else _) = u6
  have h6 : s.Longer u6 := by
    rw [← hu6]
    exact ite_k (State.makeStale_k (loose_longer s (by decide) (by decide) (by decide)) h5) h5
  generalize hu7 : (if (givenFor v [R.SND_EXEMPT_FIRST, R.SND_EXEMPT_COUNT]).isEmpty = true then _ else State.countExempt _) = u7
  have h7 : s.Longer u7 := by
    rw [← hu7]
    exact ite_k h6 (State.countExempt_k (loose_longer s (by decide) (by decide) (by decide)) h6)
  exact ite_k h7 h7

theorem takeValues (h : s.Longer t) (v : Values) : s.Longer (t.takeValues v) :=
  State.Longer.committed (State.activateAll_k (loose_longer s (by decide) (by decide) (by decide)) h v) _ _

theorem journal (h : s.Longer t) (kind frame cseq : Nat) (units : List (List Nat)) : s.Longer (t.journal kind frame cseq units) := by
  unfold State.journal
  dsimp only
  refine ite_k h (ite_k ?_ ?_)
  · refine State.newCopy_k (loose_longer s (by decide) (by decide) (by decide)) ?_
    refine State.countJournal_k (loose_longer s (by decide) (by decide) (by decide)) ?_
    refine latch (setFlag (setFld ?_ _ _ _) _ _ _) _ _
    exact h
  · refine State.countJournal_k (loose_longer s (by decide) (by decide) (by decide)) ?_
    refine State.storeUnits_k (loose_longer s (by decide) (by decide) (by decide)) ?_ _
    exact h

theorem bankAdd (h : s.Longer t) (c n : Nat) : s.Longer (t.bankAdd c n) := by
  unfold State.bankAdd State.bankRaw
  dsimp only
  exact ite_k h (ite_k (State.Longer.latchIf (setFld (setFld h _ _ _) _ _ _) _ _ _) (latch (setFld h _ _ _) _ _))

theorem bankAddWritten (h : s.Longer t) (c n : Nat) : s.Longer (t.bankAddWritten c n) := by
  unfold State.bankAddWritten State.bankRaw
  dsimp only
  exact ite_k h (State.Longer.latchIf (setFld h _ _ _) _ _ _)

theorem countTick (h : s.Longer t) : s.Longer t.countTick := by
  unfold State.countTick
  split
  · exact h
  · exact foldl_k (K := s.Longer) _ _ h fun u c hu => ite_k (bankAddWritten hu c 1) (bankAdd hu c 1)

theorem settleTick (h : s.Longer t) : s.Longer t.settleTick := by
  obtain hs | hs := t.settleTick_cases <;> rw [hs]
  · exact h
  · exact h.countTick

theorem snapNow (h : s.Longer t) : s.Longer t.snapNow := by
  unfold State.snapNow
  refine ite_k h ?_
  refine State.Longer.latch ?_ _ _
  refine State.clearOnSnap_k (loose_longer s (by decide) (by decide) (by decide)) ?_
  refine State.archiveSnap_k (loose_longer s (by decide) (by decide) (by decide)) ?_
  show s.Longer (State.setFld _ _ _ _)
  refine setFld ?_ _ _ _
  refine State.freeze_k (loose_longer s (by decide) (by decide) (by decide)) ?_
  refine setFld ?_ _ _ _
  exact h

theorem acceptCommit (h : s.Longer t) (v : Values) : s.Longer (t.acceptCommit v) := by
  unfold State.acceptCommit
  dsimp only
  refine State.noteCommit_k (loose_longer s (by decide) (by decide) (by decide)) ?_ _
  refine State.Longer.journal (State.Longer.latch (setFld ?_ _ _ _) _ _) _ _ _ _
  refine State.commitEnds_k (loose_longer s (by decide) (by decide) (by decide)) ?_ _
  exact ite_k (h.takeValues v) (setFld (h.takeValues v) _ _ _)

theorem refuseCommit (h : s.Longer t) (off : Nat) : s.Longer (t.refuseCommit off) := by
  unfold State.refuseCommit
  dsimp only
  refine State.Longer.latch (setFld (setFld (setFld (setFld ?_ _ _ _) _ _ _) _ _ _) _ _ _) _ _
  refine State.commitEnds_k (loose_longer s (by decide) (by decide) (by decide)) ?_ _
  exact State.tidyStaged_k (loose_longer s (by decide) (by decide) (by decide)) h

theorem commitNow (h : s.Longer t) : s.Longer t.commitNow := by
  unfold State.commitNow
  split
  · exact h
  · next all _ =>
    dsimp only
    split
    · next off _ =>
      have h0 : s.Longer { t with sampled := none } := h
      exact h0.refuseCommit off
    · refine State.tidyStaged_k (loose_longer s (by decide) (by decide) (by decide)) ?_
      refine State.Longer.acceptCommit (State.Longer.snapNow ?_) _
      exact h

end State.Longer

/-! ### Records stamped once more -/

/-- A record that names core cycle 0. -/
def EvRec.atTick (r : EvRec) : EvRec := { r with cycle := 0 }

theorem State.stampTick_def (s old : State) : s.stampTick old
    = { s with logQ := s.logQ.take old.logQ.length ++ (s.logQ.drop old.logQ.length).map EvRec.atTick
               ringQ := s.ringQ.take old.ringQ.length ++ (s.ringQ.drop old.ringQ.length).map EvRec.atTick } := rfl

theorem State.stampTick_self (s : State) : s.stampTick s = s := by
  rw [State.stampTick_def]
  simp

/-- `a` is `b` but that its queues begin with other records, `l₁` and `r₁` in place of `l₂` and `r₂`. -/
def State.Twin (l₁ l₂ r₁ r₂ : List EvRec) (a b : State) : Prop :=
  ∃ l r, a = { b with logQ := l₁ ++ l, ringQ := r₁ ++ r } ∧ b.logQ = l₂ ++ l ∧ b.ringQ = r₂ ++ r

theorem State.latched_queues (b : State) (l r : List EvRec) (e : Ev) (i : Nat) :
    State.latched { b with logQ := l, ringQ := r } e i = b.latched e i := rfl

theorem State.fld_queues (b : State) (l r : List EvRec) (f : Fld) (i : Nat) :
    State.fld { b with logQ := l, ringQ := r } f i = b.fld f i := rfl

theorem State.latchAs_of_latched {s : State} {e : Ev} {i : Nat} (ri d : Nat) (h : s.latched e i = true) : s.latchAs e i ri d = s := if_pos h

theorem State.latchAs_of_enabled {s : State} {e : Ev} {i : Nat} (ri d : Nat) (h : ¬ s.latched e i = true)
    (hen : (s.fld e.en i).testBit e.bit = true) :
    s.latchAs e i ri d = { s.setFld e.reg i (orBit (s.fld e.reg i) e.bit) with
      logQ := s.logQ ++ [s.evRec e ri d], ringQ := s.ringQ ++ [s.evRec e ri d] } := by
  unfold State.latchAs
  rw [if_neg h]
  dsimp only
  rw [if_pos hen]
  rfl

theorem State.latchAs_of_disabled {s : State} {e : Ev} {i : Nat} (ri d : Nat) (h : ¬ s.latched e i = true)
    (hen : ¬ (s.fld e.en i).testBit e.bit = true) :
    s.latchAs e i ri d = { s.setFld e.reg i (orBit (s.fld e.reg i) e.bit) with logQ := s.logQ ++ [s.evRec e ri d] } := by
  unfold State.latchAs
  rw [if_neg h]
  dsimp only
  rw [if_neg hen]
  rfl

namespace State.Twin

variable {l₁ l₂ r₁ r₂ : List EvRec} {a b : State}

theorem of_fields (h : State.Twin l₁ l₂ r₁ r₂ a b) {f : State → State} (hf : ∀ (t : State) l r, f { t with logQ := l, ringQ := r } =
    { f t with logQ := l, ringQ := r }) (hl : ∀ t : State, (f t).logQ = t.logQ) (hr : ∀ t : State, (f t).ringQ = t.ringQ) :
    State.Twin l₁ l₂ r₁ r₂ (f a) (f b) := by
  obtain ⟨l, r, ha, hbl, hbr⟩ := h
  exact ⟨l, r, by rw [ha, hf], (hl b).trans hbl, (hr b).trans hbr⟩

theorem fld (h : State.Twin l₁ l₂ r₁ r₂ a b) (f : Fld) (i : Nat) : a.fld f i = b.fld f i := by
  obtain ⟨l, r, rfl, -, -⟩ := h
  rfl

theorem groups (h : State.Twin l₁ l₂ r₁ r₂ a b) : a.groups = b.groups := by
  obtain ⟨l, r, rfl, -, -⟩ := h
  rfl

theorem latch (hlen : l₁.length = l₂.length) (h : State.Twin l₁ l₂ r₁ r₂ a b) (e : Ev) (i : Nat) :
    State.Twin l₁ l₂ r₁ r₂ (a.latch e i) (b.latch e i) := by
  obtain ⟨l, r, rfl, hl, hr⟩ := h
  have hrec : State.evRec { b with logQ := l₁ ++ l, ringQ := r₁ ++ r } e (if e.island < 0x10 then 0 else i) 0
      = b.evRec e (if e.island < 0x10 then 0 else i) 0 := by
    have hlog : (l₁ ++ l).length = b.logQ.length := by rw [hl, List.length_append, List.length_append, hlen]
    unfold State.evRec State.latchCycle
    dsimp only
    rw [hlog]
    rfl
  unfold State.latch
  by_cases hlat : b.latched e i = true
  · rw [State.latchAs_of_latched _ _ hlat, State.latchAs_of_latched _ _ (State.latched_queues b _ _ e i ▸ hlat)]
    exact ⟨l, r, rfl, hl, hr⟩
  · by_cases hen : (b.fld e.en i).testBit e.bit = true
    · rw [State.latchAs_of_enabled _ _ hlat hen, State.latchAs_of_enabled _ _ (State.latched_queues b _ _ e i ▸ hlat)
        (State.fld_queues b _ _ e.en i ▸ hen), hrec]
      generalize b.evRec e (if e.island < 0x10 then 0 else i) 0 = x
      refine ⟨l ++ [x], r ++ [x], ?_, ?_, ?_⟩
      · rw [← List.append_assoc, ← List.append_assoc]
        rfl
      · rw [← List.append_assoc, ← hl]
      · rw [← List.append_assoc, ← hr]
    · rw [State.latchAs_of_disabled _ _ hlat hen, State.latchAs_of_disabled _ _ (State.latched_queues b _ _ e i ▸ hlat)
        (State.fld_queues b _ _ e.en i ▸ hen), hrec]
      generalize b.evRec e (if e.island < 0x10 then 0 else i) 0 = x
      refine ⟨l ++ [x], r, ?_, ?_, hr⟩
      · rw [← List.append_assoc]
        rfl
      · rw [← List.append_assoc, ← hl]

theorem setFld (h : State.Twin l₁ l₂ r₁ r₂ a b) (f : Fld) (i v : Nat) : State.Twin l₁ l₂ r₁ r₂ (a.setFld f i v) (b.setFld f i v) :=
  h.of_fields (f := fun t => t.setFld f i v) (fun _ _ _ => rfl) (fun _ => rfl) (fun _ => rfl)

theorem setGroups (h : State.Twin l₁ l₂ r₁ r₂ a b) {x y : Tab GroupSt} (hx : x = y) :
    State.Twin l₁ l₂ r₁ r₂ { a with groups := x } { b with groups := y } := by
  subst hx
  exact h.of_fields (f := fun t => { t with groups := x }) (fun _ _ _ => rfl) (fun _ => rfl) (fun _ => rfl)

theorem ite {c : Prop} [Decidable c] {a' b' : State} (h : State.Twin l₁ l₂ r₁ r₂ a b) (h' : State.Twin l₁ l₂ r₁ r₂ a' b') :
    State.Twin l₁ l₂ r₁ r₂ (if c then a else a') (if c then b else b') := by
  split
  · exact h
  · exact h'

theorem pref (h : State.Twin l₁ l₂ r₁ r₂ a b) (g : Nat) : a.pref g = b.pref g := by
  obtain ⟨l, r, rfl, -, -⟩ := h
  rfl

theorem degraded (h : State.Twin l₁ l₂ r₁ r₂ a b) (g side : Nat) : a.degraded g side = b.degraded g side := by
  obtain ⟨l, r, rfl, -, -⟩ := h
  rfl

theorem frame (h : State.Twin l₁ l₂ r₁ r₂ a b) : a.frame = b.frame := h.fld _ _

theorem latchIf (hlen : l₁.length = l₂.length) (h : State.Twin l₁ l₂ r₁ r₂ a b) (c : Bool) (e : Ev) (i : Nat) :
    State.Twin l₁ l₂ r₁ r₂ (a.latchIf c e i) (b.latchIf c e i) := by
  cases c with
  | false => exact h
  | true => exact h.latch hlen e i

theorem enterGroup (hlen : l₁.length = l₂.length) (h : State.Twin l₁ l₂ r₁ r₂ a b) (g st : Nat) :
    State.Twin l₁ l₂ r₁ r₂ (a.enterGroup g st) (b.enterGroup g st) := by
  unfold State.enterGroup
  dsimp only
  rw [h.fld, h.groups, h.frame]
  generalize hx : (if st = groupWtr then _ else State.setFld (a.setFld R.SCF_GSTAT_STATE g st) _ _ _) = x
  generalize hy : (if st = groupWtr then _ else State.setFld (b.setFld R.SCF_GSTAT_STATE g st) _ _ _) = y
  have hxy : State.Twin l₁ l₂ r₁ r₂ x y := by
    rw [← hx, ← hy]
    have h1 := h.setFld R.SCF_GSTAT_STATE g st
    exact State.Twin.ite ((h1.setFld _ _ _).setGroups rfl) (h1.setFld _ _ _)
  rw [h.pref, hxy.pref]
  exact hxy.latchIf hlen _ _ _

/-- What the end of a window leaves of the runs of a group's sides. -/
theorem setRun (h : State.Twin l₁ l₂ r₁ r₂ a b) (g side k : Nat) :
    State.Twin l₁ l₂ r₁ r₂
      { a with groups := a.groups.put g (if side = 0 then { a.groups.get g {} with clrW := k } else { a.groups.get g {} with clrP := k }) }
      { b with groups := b.groups.put g (if side = 0 then { b.groups.get g {} with clrW := k } else { b.groups.get g {} with clrP := k }) } :=
  h.setGroups (by rw [h.groups])

theorem judgeSide (hlen : l₁.length = l₂.length) (h : State.Twin l₁ l₂ r₁ r₂ a b) (g side copies bad : Nat) :
    State.Twin l₁ l₂ r₁ r₂ (a.judgeSide g side copies bad) (b.judgeSide g side copies bad) := by
  unfold State.judgeSide
  dsimp only
  rw [h.fld, h.fld, h.degraded]
  generalize (if side = 0 then R.SCF_GSTAT_W_DEG else R.SCF_GSTAT_P_DEG) = f
  refine State.Twin.ite h (State.Twin.ite ?_ (State.Twin.ite ?_ (h.setRun g side 0)))
  · have h1 := (h.setFld f g (b2n true)).setRun g side 0
    exact State.Twin.ite h1 ((h1.latch hlen _ g).latch hlen _ 0)
  · have hrun : (if side = 0 then (a.groups.get g {}).clrW else (a.groups.get g {}).clrP)
        = (if side = 0 then (b.groups.get g {}).clrW else (b.groups.get g {}).clrP) := by rw [h.groups]
    rw [hrun]
    exact State.Twin.ite (((h.setFld f g (b2n false)).setRun g side 0).latch hlen _ g) (h.setRun g side _)

theorem evalWindow (hlen : l₁.length = l₂.length) (h : State.Twin l₁ l₂ r₁ r₂ a b) (g : Nat) :
    State.Twin l₁ l₂ r₁ r₂ (a.evalWindow g) (b.evalWindow g) := by
  have hst : ∀ {x y : State}, State.Twin l₁ l₂ r₁ r₂ x y → x.groupState g = y.groupState g := fun hx => hx.fld _ _
  unfold State.evalWindow
  dsimp only
  rw [h.frame, h.groups, hst h]
  refine State.Twin.ite h ?_
  have h1 : State.Twin l₁ l₂ r₁ r₂ { a with groups := b.groups.put g { b.groups.get g {} with evaluated := some b.frame } }
      { b with groups := b.groups.put g { b.groups.get g {} with evaluated := some b.frame } } := h.setGroups rfl
  have h2 := fun w p w' p' => (h1.judgeSide hlen g 0 w p).judgeSide hlen g 1 w' p'
  generalize hx : State.judgeSide (State.judgeSide _ g 0 _ _) g 1 _ _ = x
  generalize hy : State.judgeSide (State.judgeSide _ g 0 _ _) g 1 _ _ = y
  have hxy : State.Twin l₁ l₂ r₁ r₂ x y := by
    rw [← hx, ← hy]
    exact h2 _ _ _ _
  have hmode : x.groupMode g = y.groupMode g := hxy.fld _ _
  have hhome : x.groupHomeSide g = y.groupHomeSide g := hxy.fld _ _
  have hrev : x.flag R.SCF_GCFG_REVERT g = y.flag R.SCF_GCFG_REVERT g := State.flag_of_fld (hxy.fld _ _)
  rw [hmode, hhome, hrev, hst hxy, hxy.degraded, hxy.degraded]
  exact State.Twin.ite (State.Twin.ite hxy (hxy.enterGroup hlen g _)) hxy

end State.Twin

theorem stampTwice {l n : List EvRec} {k : Nat} (h : k ≤ l.length) :
    ((l.take k ++ (l.drop k).map EvRec.atTick) ++ n).take (l.take k ++ (l.drop k).map EvRec.atTick).length
        ++ (((l.take k ++ (l.drop k).map EvRec.atTick) ++ n).drop (l.take k ++ (l.drop k).map EvRec.atTick).length).map EvRec.atTick
      = (l ++ n).take k ++ ((l ++ n).drop k).map EvRec.atTick := by
  rw [List.take_left, List.drop_left, List.take_append_of_le_length h, List.drop_append_of_le_length h, List.map_append, List.append_assoc]

/-- The evaluation of a window after a commit has been stamped leaves what the two leave that are stamped together. -/
theorem State.stampTick_evalWindow {s c : State} (h : s.Longer c) (g : Nat) :
    ((c.stampTick s).evalWindow g).stampTick (c.stampTick s) = (c.evalWindow g).stampTick s := by
  obtain ⟨hl, hr⟩ := h
  have htwin : State.Twin (c.stampTick s).logQ c.logQ (c.stampTick s).ringQ c.ringQ (c.stampTick s) c :=
    ⟨[], [], by rw [List.append_nil, List.append_nil]; rfl, by rw [List.append_nil], by rw [List.append_nil]⟩
  have hlen : (c.stampTick s).logQ.length = c.logQ.length := by
    rw [State.stampTick_def]
    simp [hl]
  obtain ⟨l, r, ha, hbl, hbr⟩ := htwin.evalWindow hlen g
  rw [State.stampTick_def, ha, State.stampTick_def (c.evalWindow g), hbl, hbr]
  dsimp only
  rw [State.stampTick_def c]
  dsimp only
  rw [stampTwice hl, stampTwice hr]

end Sys2Proof.Machine
end

section
/-! O20: the scarf groups at the end of a window, their waits, and WTR_CLEAR (R241 to R243, R246). -/

namespace Sys2Proof.Machine

/-! ### A commit leaves the frame number (R393) -/

theorem fieldOf_id {id : Nat} {f : Fld} (h : fieldOf id = some f) : f.id = id := by
  unfold fieldOf at h
  obtain ⟨r, -, hr⟩ := List.exists_of_findSome?_eq_some h
  obtain ⟨c, -, hc⟩ := List.exists_of_findSome?_eq_some hr
  split at hc
  · next hid => exact Option.some.inj hc ▸ hid
  · exact absurd hc (by simp)

/-- A field that no value is ever given keeps its own as the values of a set become active. -/
theorem State.fld_activate_of_not_given {f : Fld} (hf : fieldOf f.id = some f) (hg : f.given = false) (s : State) (id i x n : Nat) :
    (s.activate id i x).fld f n = s.fld f n := by
  unfold State.activate
  split
  · rfl
  · next f' h =>
    obtain ⟨hf', hgiven⟩ := Option.filter_eq_some_iff.mp h
    have hne : f.id ≠ f'.id := by
      intro he
      rw [he, fieldOf_id hf', hf'] at hf
      rw [Option.some.inj hf, hg] at hgiven
      exact absurd hgiven (by simp)
    dsimp only
    split
    · exact State.fld_setFld_ne _ _ _ _ hne
    · exact State.fld_setFld_ne _ _ _ _ hne

theorem State.fld_activateAll_of_not_given {f : Fld} (hf : fieldOf f.id = some f) (hg : f.given = false) (s : State) (v : Values) (n : Nat) :
    (s.activateAll v).fld f n = s.fld f n :=
  foldl_k (K := fun t => t.fld f n = s.fld f n) _ _ rfl fun _ _ ht =>
    foldl_k (K := fun u => u.fld f n = s.fld f n) _ _ ht fun u _ hu => (State.fld_activate_of_not_given hf hg u _ _ _ n).trans hu

/-- What a commit does beyond its values: the sequence number, STATE, the event, the journal. -/
theorem State.acceptCommit_after {K : State → Prop}
    (hK : Loose 0x528000000000000000000de000400000000000000000000000000000000000000000000000000000000000000000000000000000000000000000000000000000000100000100000c00 K)
    {s : State} {v : Values} (h : K (s.takeValues v)) : K (s.acceptCommit v) := by
  unfold State.acceptCommit
  dsimp only
  refine State.noteCommit_k (hK.mono (by decide)) ?_ _
  refine State.journal_k (hK.mono (by decide)) ?_ _ _ _ _
  refine State.latch_k hK (by decide) ?_ _ _ (by decide)
  refine State.setFlag_k hK ?_ _ _ _ (by decide)
  refine State.commitEnds_k (hK.mono (by decide)) ?_ _
  exact ite_k h (State.setFld_k hK h _ _ _ (by decide))

theorem State.frame_takeValues (s : State) (v : Values) : (s.takeValues v).frame = s.frame :=
  (State.fld_committed _ _ _ _ (by decide)).trans (State.fld_activateAll_of_not_given (by decide) (by decide) s v 0)

theorem State.frame_acceptCommit (s : State) (v : Values) : (s.acceptCommit v).frame = s.frame :=
  State.acceptCommit_after (K := fun t => t.fld R.DEV_FRAME_FRAME 0 = s.fld R.DEV_FRAME_FRAME 0) (loose_fld (by decide)) (s.frame_takeValues v)

theorem State.frame_commitNow (s : State) : s.commitNow.frame = s.frame := by
  unfold State.commitNow
  split
  · rfl
  · next all _ =>
    dsimp only
    split
    · exact State.fld_refuseCommit _ _ _ (by decide)
    · refine State.tidyStaged_k (K := fun t => t.fld R.DEV_FRAME_FRAME 0 = s.fld R.DEV_FRAME_FRAME 0) (loose_fld (by decide)) ?_
      refine (State.frame_acceptCommit _ _).trans ?_
      exact State.snapNow_k (K := fun t => t.fld R.DEV_FRAME_FRAME 0 = s.fld R.DEV_FRAME_FRAME 0) (loose_fld (by decide)) rfl

theorem State.sampled_commitNow (s : State) : s.commitNow.sampled = none := by
  unfold State.commitNow
  split
  · assumption
  · next all _ =>
    dsimp only
    have h0 : (State.sampled { s with sampled := none }) = none := rfl
    split
    · refine Eq.trans ?_ h0
      exact State.refuseCommit_k (loose_part { s with sampled := none } .sampled (by decide) (by decide) (by decide)) rfl _
    · refine Eq.trans (b := State.sampled { s with sampled := none }) ?_ h0
      refine State.tidyStaged_k (loose_part { s with sampled := none } .sampled (by decide) (by decide) (by decide)) ?_
      refine State.acceptCommit_k (loose_part { s with sampled := none } .sampled (by decide) (by decide) (by decide)) ?_ _
      exact State.snapNow_k (loose_part { s with sampled := none } .sampled (by decide) (by decide) (by decide)) rfl

theorem State.commitNow_of_none {s : State} (h : s.sampled = none) : s.commitNow = s := by
  unfold State.commitNow
  rw [h]

/-! ### What the bank has counted stays counted (R440) -/

theorem State.sampled_settleTick (s : State) : s.settleTick.sampled = s.sampled :=
  State.settleTick_k (loose_part s .sampled (by decide) (by decide) (by decide)) rfl

theorem State.frame_settleTick (s : State) : s.settleTick.frame = s.frame := State.fld_settleTick _ _ (by decide)

theorem State.countTick_tickDue (s : State) : s.countTick.plumb.tickDue = none := by
  unfold State.countTick
  split
  · assumption
  · rfl

/-- A tick that has been settled has nothing left to settle. -/
theorem State.settleTick_stampTick (c s : State) : (c.settleTick.stampTick s).settleTick = c.settleTick.stampTick s := by
  have hstamp : ∀ u : State, u.actsDue = true ∨ u.plumb.tickDue = none → (u.stampTick s).settleTick = u.stampTick s := by
    intro u hu
    cases hu with
    | inl hdue => exact if_pos hdue
    | inr hnone =>
      obtain h | h := State.settleTick_cases (u.stampTick s)
      · exact h
      · exact h.trans (State.countTick_of_none hnone)
  refine hstamp _ ?_
  by_cases hdue : c.actsDue = true
  · exact .inl ((congrArg State.actsDue (if_pos hdue)).trans hdue)
  · refine .inr ?_
    rw [State.settleTick_of_idle (Bool.not_eq_true _ ▸ hdue)]
    exact c.countTick_tickDue

theorem State.sampled_stampTick (s old : State) : (s.stampTick old).sampled = s.sampled := rfl

theorem State.frame_stampTick (s old : State) : (s.stampTick old).frame = s.frame := rfl

theorem exec_commitApply (s : State) : exec .commitApply s = .next (s.commitNow.settleTick.stampTick s) := rfl

/-- The commit of the tick and then the window are what the window does after a commit of that tick (R246). -/
theorem exec_windowEval_after_commit (g : GroupIx) (s : State) :
    exec (.scarfWindowEval g) (s.commitNow.settleTick.stampTick s)
      = .next ((s.commitNow.settleTick.evalWindow g.val).stampTick s) := by
  have hnone : (s.commitNow.settleTick.stampTick s).sampled = none := (State.sampled_settleTick _).trans s.sampled_commitNow
  have heval : (s.commitNow.settleTick.stampTick s).evalAfterCommit g.val = (s.commitNow.settleTick.stampTick s).evalWindow g.val := by
    unfold State.evalAfterCommit
    rw [State.commitNow_of_none hnone, State.settleTick_stampTick]
    split <;> rfl
  show Host.Outcome.next _ = _
  rw [heval, State.stampTick_evalWindow (State.Longer.settleTick (State.Longer.commitNow (State.Longer.refl s)))]

/-! ### The window of a group (R241, R242) -/

/-! ### The window of a group (R241, R242) -/

theorem State.groupState_enterGroup (s : State) (g : Nat) {st : Nat} (hst : st < 8) : (s.enterGroup g st).groupState g = st := by
  show State.fld _ R.SCF_GSTAT_STATE g = st
  unfold State.enterGroup State.latchIf
  dsimp only
  have hset : (s.setFld R.SCF_GSTAT_STATE g st).fld R.SCF_GSTAT_STATE g = st :=
    (State.fld_setFld_self _ _ _ _).trans (Nat.mod_eq_of_lt hst)
  refine ite_k (K := fun t => t.fld R.SCF_GSTAT_STATE g = st) ?_ ?_
  · refine (State.fld_latch_ne _ _ _ _ (by decide)).trans ?_
    refine ite_k (K := fun t => t.fld R.SCF_GSTAT_STATE g = st) ?_ ?_
    · exact (State.fld_setFld_ne _ _ _ _ (by decide)).trans hset
    · exact (State.fld_setFld_ne _ _ _ _ (by decide)).trans hset
  · refine ite_k (K := fun t => t.fld R.SCF_GSTAT_STATE g = st) ?_ ?_
    · exact (State.fld_setFld_ne _ _ _ _ (by decide)).trans hset
    · exact (State.fld_setFld_ne _ _ _ _ (by decide)).trans hset

theorem autoNext_lt {st : Nat} {a b c : Bool} (h : autoNext st a b c ≠ st) : autoNext st a b c < 8 := by
  revert h
  unfold autoNext groupHome groupOther groupWtr
  repeat' split
  all_goals omega

/-- The judged window of a group. -/
def State.judgedWindow (s : State) (g : Nat) : State :=
  let gs := s.groups.get g {}
  let now := s.frame / 8
  let last := (s.frame + 2 ^ 32 - 8) % 2 ^ 32 / 8
  let w := if gs.window = now then gs.prevW else if gs.window = last then gs.w else (0, 0)
  let p := if gs.window = now then gs.prevP else if gs.window = last then gs.p else (0, 0)
  (({ s with groups := s.groups.put g { gs with evaluated := some s.frame } }).judgeSide g 0 w.1 w.2).judgeSide g 1 p.1 p.2

/-- The state that the table of a group in AUTO gives it, by the marks of `s`. -/
def State.autoState (s : State) (g : Nat) : Nat :=
  autoNext (s.groupState g) (s.degraded g (s.groupHomeSide g)) (s.degraded g (1 - s.groupHomeSide g)) (s.flag R.SCF_GCFG_REVERT g)

theorem State.evalWindow_of_due {s : State} {g : Nat} (h : s.frame % 8 = 0) (hev : (s.groups.get g {}).evaluated ≠ some s.frame)
    (hst : s.groupState g ≠ groupEmpty) : s.evalWindow g =
      if (s.judgedWindow g).groupMode g = modeAuto then
        (if (s.judgedWindow g).autoState g = (s.judgedWindow g).groupState g then s.judgedWindow g
          else (s.judgedWindow g).enterGroup g ((s.judgedWindow g).autoState g))
      else s.judgedWindow g := by
  unfold State.evalWindow
  dsimp only
  rw [if_neg (by simp [h, hev, hst])]
  rfl

theorem State.fld_judgedWindow (s : State) (g : Nat) {f : Fld} (n : Nat) (hf : regOk 0x118008000000000000000000000000000000000000000000000000000000000000000000000000000040000c00 f.id = false) :
    (s.judgedWindow g).fld f n = s.fld f n := by
  unfold State.judgedWindow
  dsimp only
  rw [State.fld_judgeSide _ _ _ _ _ _ hf, State.fld_judgeSide _ _ _ _ _ _ hf]
  rfl

theorem GroupSt.evaluated_run (gs : GroupSt) (side k : Nat) :
    (if side = 0 then { gs with clrW := k } else { gs with clrP := k }).evaluated = gs.evaluated := by
  split <;> rfl

/-- The frame at whose tick the group's window was evaluated last. -/
def State.evaluatedAt (s : State) (g : Nat) : Option Nat := (s.groups.get g {}).evaluated

theorem State.evaluatedAt_latch (s : State) (e : Ev) (i g : Nat) : (s.latch e i).evaluatedAt g = s.evaluatedAt g := by
  unfold State.evaluatedAt
  rw [State.latch_groups]

theorem State.evaluatedAt_setRun (s : State) (g side k : Nat) :
    State.evaluatedAt { s with groups := s.groups.put g (if side = 0 then { s.groups.get g {} with clrW := k } else { s.groups.get g {} with clrP := k }) } g
      = s.evaluatedAt g := by
  unfold State.evaluatedAt
  dsimp only
  rw [Tab.get_put_self, GroupSt.evaluated_run]

theorem State.evaluatedAt_judgeSide (s : State) (g side w p : Nat) : (s.judgeSide g side w p).evaluatedAt g = s.evaluatedAt g := by
  unfold State.judgeSide
  dsimp only
  generalize (if side = 0 then R.SCF_GSTAT_W_DEG else R.SCF_GSTAT_P_DEG) = f
  refine ite_k (K := fun t => t.evaluatedAt g = s.evaluatedAt g) rfl (ite_k (K := fun t => t.evaluatedAt g = s.evaluatedAt g) ?_
    (ite_k (K := fun t => t.evaluatedAt g = s.evaluatedAt g) ?_ (s.evaluatedAt_setRun g side 0)))
  · have h1 := (s.setFlag f g true).evaluatedAt_setRun g side 0
    refine ite_k (K := fun t => t.evaluatedAt g = s.evaluatedAt g) h1 ?_
    rw [State.evaluatedAt_latch, State.evaluatedAt_latch]
    exact h1
  · refine ite_k (K := fun t => t.evaluatedAt g = s.evaluatedAt g) ?_ (s.evaluatedAt_setRun g side _)
    rw [State.evaluatedAt_latch]
    exact (s.setFlag f g false).evaluatedAt_setRun g side 0

theorem State.evaluatedAt_judgedWindow (s : State) (g : Nat) : (s.judgedWindow g).evaluatedAt g = some s.frame := by
  unfold State.judgedWindow
  dsimp only
  rw [State.evaluatedAt_judgeSide, State.evaluatedAt_judgeSide]
  unfold State.evaluatedAt
  dsimp only
  rw [Tab.get_put_self]

theorem State.evaluatedAt_enterGroup (s : State) (g st : Nat) : (s.enterGroup g st).evaluatedAt g = s.evaluatedAt g := by
  unfold State.enterGroup State.latchIf
  dsimp only
  generalize hx : (if st = groupWtr then _ else State.setFld (s.setFld R.SCF_GSTAT_STATE g st) _ _ _) = x
  have hxg : x.evaluatedAt g = s.evaluatedAt g := by
    rw [← hx]
    refine ite_k (K := fun t => t.evaluatedAt g = s.evaluatedAt g) ?_ rfl
    unfold State.evaluatedAt
    dsimp only
    rw [Tab.get_put_self]
  exact ite_k (K := fun t => t.evaluatedAt g = s.evaluatedAt g) ((x.evaluatedAt_latch _ _ _).trans hxg) hxg

theorem State.degraded_of_marks {s t : State} {g : Nat} (hw : t.fld R.SCF_GSTAT_W_DEG g = s.fld R.SCF_GSTAT_W_DEG g)
    (hp : t.fld R.SCF_GSTAT_P_DEG g = s.fld R.SCF_GSTAT_P_DEG g) (side : Nat) : t.degraded g side = s.degraded g side := by
  unfold State.degraded State.flag
  rw [hw, hp]

/-- A group in AUTO takes the state that its table gives; the window is evaluated once. -/
theorem State.evalWindow_auto {s : State} {g : Nat} (h : s.frame % 8 = 0) (hev : (s.groups.get g {}).evaluated ≠ some s.frame)
    (hst : s.groupState g ≠ groupEmpty) (hmode : s.groupMode g = modeAuto) :
    (s.evalWindow g).evaluatedAt g = some s.frame ∧ (s.evalWindow g).groupState g = autoNext (s.groupState g)
      ((s.evalWindow g).degraded g (s.groupHomeSide g)) ((s.evalWindow g).degraded g (1 - s.groupHomeSide g)) (s.flag R.SCF_GCFG_REVERT g) := by
  have hkept : ∀ {f : Fld}, regOk 0x118008000000000000000000000000000000000000000000000000000000000000000000000000000040000c00 f.id = false → (s.judgedWindow g).fld f g = s.fld f g := fun hf => s.fld_judgedWindow g g hf
  have hm : (s.judgedWindow g).groupMode g = modeAuto := (hkept (f := R.SCF_GCFG_MODE) (by decide)).trans hmode
  have hs : (s.judgedWindow g).groupState g = s.groupState g := hkept (by decide)
  have hauto : (s.judgedWindow g).autoState g = autoNext (s.groupState g) ((s.judgedWindow g).degraded g (s.groupHomeSide g))
      ((s.judgedWindow g).degraded g (1 - s.groupHomeSide g)) (s.flag R.SCF_GCFG_REVERT g) := by
    unfold State.autoState
    rw [hs, show (s.judgedWindow g).groupHomeSide g = s.groupHomeSide g from hkept (by decide),
      State.flag_of_fld (hkept (f := R.SCF_GCFG_REVERT) (by decide))]
  rw [State.evalWindow_of_due h hev hst, if_pos hm]
  split
  · next heq =>
    exact ⟨s.evaluatedAt_judgedWindow g, heq.symm.trans hauto⟩
  · next hne =>
    have hlt : (s.judgedWindow g).autoState g < 8 := autoNext_lt hne
    have hdeg := fun side => State.degraded_of_marks (s := s.judgedWindow g) (t := (s.judgedWindow g).enterGroup g ((s.judgedWindow g).autoState g)) (g := g)
      (State.fld_enterGroup _ _ _ _ (by decide)) (State.fld_enterGroup _ _ _ _ (by decide)) side
    rw [State.evaluatedAt_enterGroup, State.groupState_enterGroup _ _ hlt, hdeg, hdeg]
    exact ⟨s.evaluatedAt_judgedWindow g, hauto⟩

/-- A group in another mode keeps its state. -/
theorem State.evalWindow_manual {s : State} {g : Nat} (hmode : s.groupMode g ≠ modeAuto) : (s.evalWindow g).groupState g = s.groupState g := by
  by_cases hdue : s.frame % 8 ≠ 0 ∨ (s.groups.get g {}).evaluated = some s.frame ∨ s.groupState g = groupEmpty
  · have hs : s.evalWindow g = s := by
      unfold State.evalWindow
      exact if_pos (by simpa [or_assoc] using hdue)
    rw [hs]
  · obtain ⟨h, hev, hst⟩ := not_or.mp hdue |>.imp_right not_or.mp
    have hm : (s.judgedWindow g).groupMode g ≠ modeAuto := fun hm => hmode ((s.fld_judgedWindow g g (f := R.SCF_GCFG_MODE) (by decide)).symm.trans hm)
    rw [State.evalWindow_of_due (not_not.mp h) hev hst, if_neg hm]
    exact s.fld_judgedWindow g g (by decide)

/-! ### Waits (R243) -/

theorem exec_windowEval_within {g : GroupIx} {s : State} (h : s.frame % 8 ≠ 0) : exec (.scarfWindowEval g) s = .next s := by
  show Host.Outcome.next ((s.evalAfterCommit g.val).stampTick s) = _
  unfold State.evalAfterCommit State.evalWindow
  rw [if_neg h, if_pos (by simp [h]), State.stampTick_self]

theorem State.remain_enterHome (s : State) (g : Nat) : (s.enterGroup g groupHome).fld R.SCF_GWTR_REMAIN g = 0 := by
  unfold State.enterGroup State.latchIf
  dsimp only
  have hset : ((s.setFld R.SCF_GSTAT_STATE g groupHome).setFld R.SCF_GWTR_REMAIN g 0).fld R.SCF_GWTR_REMAIN g = 0 := State.fld_setFld_self _ _ _ _
  rw [if_neg (by decide : ¬ groupHome = groupWtr)]
  exact ite_k (K := fun t => t.fld R.SCF_GWTR_REMAIN g = 0) ((State.fld_latch_ne _ _ _ _ (by decide)).trans hset) hset

theorem exec_wtrExpiry_within {g : GroupIx} {s : State} (h : s.frame % 8 ≠ 0) : exec (.scarfWtrExpiry g) s = .next (State.stampTick
    (if (s.groupState g.val = groupWtr && s.fld R.SCF_GWTR_REMAIN g.val = 0 && s.frame != (s.groups.get g.val {}).wtrFrom) = true then
      (s.enterGroup g.val groupHome).latch R.SCF_GEVT_WTR_DONE g.val else s) s) := by
  have heval : s.evalAfterCommit g.val = s := by
    unfold State.evalAfterCommit State.evalWindow
    rw [if_neg h, if_pos (by simp [h])]
  show Host.Outcome.next _ = _
  rw [heval]

theorem exec_windowEval (g : GroupIx) (s : State) : exec (.scarfWindowEval g) s = .next ((s.evalAfterCommit g.val).stampTick s) := rfl

theorem State.groupState_stampTick (s old : State) (g : Nat) : (s.stampTick old).groupState g = s.groupState g := rfl

/-- SCF_GCFG in the register table. -/
def scfGcfgReg : Reg := ⟨RN.SCF_GCFG, 0x4000000, 0, 65536, 0x40, .single,
  [⟨R.SCF_GCFG_MODE, 0, 0, 3⟩, ⟨R.SCF_GCFG_HOME, 0, 3, 1⟩, ⟨R.SCF_GCFG_REVERT, 0, 4, 1⟩, ⟨R.SCF_GCFG_WTR, 0, 8, 12⟩, ⟨R.SCF_GCFG_WTR_CLEAR, 0, 20, 1⟩]⟩

theorem State.clearWtr_state (s : State) (g : Nat) : (s.clearWtr g).groupState g = s.groupState g ∧
    (s.clearWtr g).fld R.SCF_GWTR_REMAIN g
      = if s.groupState g = groupWtr then min 1 (s.fld R.SCF_GWTR_REMAIN g) else s.fld R.SCF_GWTR_REMAIN g := by
  unfold State.clearWtr
  split
  · refine ⟨State.fld_setFld_ne _ _ _ _ (by decide), (State.fld_setFld_self _ _ _ _).trans (Nat.mod_eq_of_lt ?_)⟩
    exact Nat.lt_of_le_of_lt (Nat.min_le_left _ _) (by decide)
  · exact ⟨rfl, rfl⟩

theorem State.writeEffect_gcfg (u old : State) (m i w : Nat) (h : bit w 20 = 1) : u.writeEffect old m RN.SCF_GCFG i w none = u.clearWtr i := by
  unfold State.writeEffect
  simp only [if_neg (by decide : ¬ RN.SCF_GCFG = RN.DEV_LATQ_CTRL), if_neg (by decide : ¬ RN.SCF_GCFG = RN.DEV_COMMIT),
    if_neg (by decide : ¬ RN.SCF_GCFG = RN.LN_FIT_CTRL), if_neg (by decide : ¬ RN.SCF_GCFG = RN.LN_TX_CFG),
    if_neg (by decide : ¬ RN.SCF_GCFG = RN.LN_SPARE_CTRL), if_neg (by decide : ¬ RN.SCF_GCFG = RN.BNT_CTRL),
    if_neg (by decide : ¬ RN.SCF_GCFG = RN.CUT_CTRL), if_neg (by decide : ¬ RN.SCF_GCFG = RN.CUT_SCN_CMD),
    if_neg (by decide : ¬ RN.SCF_GCFG = RN.CUT_SCNn_TRIG), if_neg (by decide : ¬ RN.SCF_GCFG = RN.SCB_REPL_CTRL), if_true, h]

/-- Settles O20, by the one evaluation that a window has, of which a commit of the tick is the first part. -/
theorem scarfGroupsMove : Obligations.ScarfGroupsMove := by
  unfold Obligations.ScarfGroupsMove
  intro g s
  refine ⟨?auto, ?manual, ?within, ?commit, ?expiry, ?waits, ?clear⟩
  case auto =>
    intro hf hnone hev hst hmode
    have hs : ∀ {f : Fld}, regOk 0x200000000800000000000000000000000000000000000000000000000000000000000000000000000000000000000000000000000000000000000000000000000000000000000000000000000000000000000000000080000c00 f.id = false → s.settleTick.fld f g.val = s.fld f g.val :=
      fun hf => State.fld_settleTick _ _ hf
    have hgroups : s.settleTick.groups = s.groups :=
      State.settleTick_k (loose_part s .groups (by decide) (by decide) (by decide)) rfl
    have heval : s.evalAfterCommit g.val = s.settleTick.evalWindow g.val := by
      unfold State.evalAfterCommit
      rw [if_pos hf, State.commitNow_of_none hnone]
    have hstate : s.settleTick.groupState g.val = s.groupState g.val := hs (by decide)
    have hmode' : s.settleTick.groupMode g.val = s.groupMode g.val := hs (by decide)
    have hhome : s.settleTick.groupHomeSide g.val = s.groupHomeSide g.val := hs (by decide)
    have hwin := State.evalWindow_auto (s := s.settleTick) (g := g.val) (by rw [s.frame_settleTick, hf])
      (by rw [hgroups, s.frame_settleTick]; exact hev) (by rw [hstate]; exact hst) (by rw [hmode', hmode])
    rw [s.frame_settleTick, hstate, hhome, State.flag_of_fld (hs (f := R.SCF_GCFG_REVERT) (by decide)), ← heval] at hwin
    refine ⟨_, exec_windowEval g s, ?_⟩
    generalize s.evalAfterCommit g.val = u at hwin ⊢
    exact hwin
  case manual =>
    intro hf hnone hmode
    have heval : s.evalAfterCommit g.val = s.settleTick.evalWindow g.val := by
      unfold State.evalAfterCommit
      rw [if_pos hf, State.commitNow_of_none hnone]
    have hm : s.settleTick.groupMode g.val ≠ modeAuto := fun h => hmode ((State.fld_settleTick _ _ (by decide)).symm.trans h)
    have hwin : (s.evalAfterCommit g.val).groupState g.val = s.groupState g.val := by
      rw [heval, State.evalWindow_manual hm]
      exact State.fld_settleTick _ _ (by decide)
    exact ⟨_, exec_windowEval g s, (State.groupState_stampTick _ _ _).trans hwin⟩
  case within => exact fun hf => ⟨_, exec_windowEval_within hf, rfl⟩
  case commit =>
    intro hf
    have heval : s.evalAfterCommit g.val = s.commitNow.settleTick.evalWindow g.val := by
      unfold State.evalAfterCommit
      rw [if_pos hf]
    refine ⟨_, exec_windowEval g s, _, exec_commitApply s, ?_, fun _ => ?_, ?_⟩
    · exact (State.sampled_stampTick _ _).trans ((State.sampled_settleTick _).trans s.sampled_commitNow)
    · exact (State.frame_stampTick _ _).trans ((State.frame_settleTick _).trans s.frame_commitNow)
    · rw [heval]
      exact exec_windowEval_after_commit g s
  case expiry =>
    intro hf hst hrem hfrom
    refine ⟨_, exec_wtrExpiry_within hf, ?_⟩
    rw [if_pos (by simp [hst, hrem, hfrom])]
    refine ⟨?_, ?_, ?_⟩
    · exact (State.fld_latch_ne _ _ _ _ (by decide)).trans (State.groupState_enterGroup _ _ (by decide))
    · exact (State.fld_latch_ne _ _ _ _ (by decide)).trans (State.remain_enterHome _ _)
    · exact State.latched_latch _ _ _ (by decide)
  case waits =>
    intro hf hst hrem
    refine ⟨_, exec_wtrExpiry_within hf, ?_⟩
    rw [if_neg (by simp [hrem]), State.stampTick_self]
  case clear =>
    intro m w ha
    have hexec : exec (.wtrClear m g w) s = .next ((((s.taken m.val scfGcfgReg g.val (putBits w.toNat 20 1 1)).clearWtr g.val).journalWrite
        scfGcfgReg g.val (putBits w.toNat 20 1 1)).completed) := by
      show Host.Outcome.next (s.regWrite m.val scfGcfgReg.id g.val _) = _
      rw [State.regWrite_accepted (by decide) (Nat.zero_le _) (by have := g.isLt; show g.val < 0 + 65536; omega) (by decide) ha]
      refine congrArg (fun u => Host.Outcome.next (State.completed (State.journalWrite u _ _ _))) ?_
      exact State.writeEffect_gcfg _ _ _ _ _ (bit_putBits_one _ _)
    have hkept : ∀ {f : Fld}, f.id ≠ R.MTX_STAT_PARK.id → (∀ c ∈ scfGcfgReg.slices, f.id ≠ c.fld.id) →
        (s.taken m.val scfGcfgReg g.val (putBits w.toNat 20 1 1)).fld f g.val = s.fld f g.val :=
      fun hp hc => s.fld_taken _ _ _ _ _ hp hc
    have hstate : (s.taken m.val scfGcfgReg g.val (putBits w.toNat 20 1 1)).groupState g.val = s.groupState g.val := hkept (by decide) (by decide)
    obtain ⟨hst, hrem⟩ := (s.taken m.val scfGcfgReg g.val (putBits w.toNat 20 1 1)).clearWtr_state g.val
    rw [hstate] at hst
    rw [hstate, hkept (by decide) (by decide)] at hrem
    refine ⟨_, hexec, State.completed_status _, ?_, ?_⟩
    · exact (State.completed_fld _ _ _).trans ((State.fld_journalWrite _ _ _ _ _ (by decide)).trans hst)
    · exact (State.completed_fld _ _ _).trans ((State.fld_journalWrite _ _ _ _ _ (by decide)).trans hrem)

end Sys2Proof.Machine
end

section
/-! O21 and O22: the references of Plumb between their states, and their phase jumps (R260 to R263, R278, R279). -/

namespace Sys2Proof.Machine

/-! ### The start of a wait, and a disqualification (R261, R263) -/

theorem State.qual_startWait (s : State) (i : Nat) :
    (s.startWait i).fld R.PLB_REFi_STAT_QUAL i = if s.refClean i then qualWait else qualDisq := by
  unfold State.startWait
  split
  · exact (State.fld_updRef _ _ _ _ (by decide)).trans
      ((State.fld_setFld_ne _ _ _ _ (by decide)).trans (State.fld_setFld_self _ _ _ _))
  · exact (State.fld_setFld_ne _ _ _ _ (by decide)).trans (State.fld_setFld_self _ _ _ _)

theorem State.refSound_of_flags {s t : State} {i : Nat} (ha : t.fld R.PLB_REFi_STAT_ACTIVE i = s.fld R.PLB_REFi_STAT_ACTIVE i)
    (hf : t.fld R.PLB_REFi_STAT_FREQ_OK i = s.fld R.PLB_REFi_STAT_FREQ_OK i) : t.refSound i = s.refSound i := by
  unfold State.refSound State.flag
  rw [ha, hf]

theorem State.refClean_of_flags {s t : State} {i : Nat} (ha : t.fld R.PLB_REFi_STAT_ACTIVE i = s.fld R.PLB_REFi_STAT_ACTIVE i)
    (hf : t.fld R.PLB_REFi_STAT_FREQ_OK i = s.fld R.PLB_REFi_STAT_FREQ_OK i) (hs : t.fld R.PLB_REFi_STAT_SOFT i = s.fld R.PLB_REFi_STAT_SOFT i)
    (hh : t.fld R.PLB_REFi_STAT_HARD i = s.fld R.PLB_REFi_STAT_HARD i) : t.refClean i = s.refClean i := by
  unfold State.refClean State.flag
  rw [State.refSound_of_flags ha hf, hs, hh]

theorem State.qual_disqualify (s : State) (i : Nat) :
    (s.disqualify i).fld R.PLB_REFi_STAT_QUAL i = if s.refClean i then qualWait else qualDisq := by
  unfold State.disqualify
  have hkept : ∀ {f : Fld}, f.id ≠ R.PLB_REFi_EVT.id → regOk 0x80000000 f.id = false →
      ((s.updRef i (fun r => { r with fresh := false, edge := none })).latch R.PLB_REFi_EVT_DISQUAL i).fld f i = s.fld f i :=
    fun hne hf => (State.fld_latch_ne _ _ _ _ hne).trans (State.fld_updRef _ _ _ _ hf)
  rw [State.qual_startWait, State.refClean_of_flags (s := s) (hkept (by decide) (by decide)) (hkept (by decide) (by decide))
    (hkept (by decide) (by decide)) (hkept (by decide) (by decide))]

theorem State.latched_disqualify (s : State) (i : Nat) : (s.disqualify i).latched R.PLB_REFi_EVT_DISQUAL i = true := by
  unfold State.disqualify
  exact State.latched_of_fld (State.fld_startWait _ _ _ (by decide)) (State.latched_latch _ _ _ (by decide))

theorem State.monitored_of_enabled {s : State} {i : Nat} (h : s.flag R.PLB_REFi_CFG_EN i = true) : s.monitored i = true := by
  unfold State.monitored
  rw [h]
  rfl

/-! ### A monitor's failure begins (R260, R261) -/

theorem monFld_cases (mon : RefMon) : monFld mon = R.PLB_REFi_STAT_ACTIVE ∨ monFld mon = R.PLB_REFi_STAT_FREQ_OK := by
  cases mon with
  | activity => exact .inl rfl
  | freq v => exact .inr rfl

theorem monFld_ne {mon : RefMon} {f : Fld} (h : f.id ≠ R.PLB_REFi_STAT_ACTIVE.id ∧ f.id ≠ R.PLB_REFi_STAT_FREQ_OK.id) : f.id ≠ (monFld mon).id := by
  obtain hm | hm := monFld_cases mon <;> rw [hm]
  · exact h.1
  · exact h.2

theorem monEv_reg (mon : RefMon) : (monEv mon).reg = R.PLB_REFi_EVT := by cases mon <;> rfl

theorem monFld_width (mon : RefMon) : 0 < (monFld mon).width := by
  obtain hm | hm := monFld_cases mon <;> rw [hm] <;> decide

/-- The state of the monitors after one has seen a failure. -/
def State.monFailed (s : State) (i : Nat) (mon : RefMon) : State :=
  ((s.latchIf (s.flag (monFld mon) i) (monEv mon) i).setFlag (monFld mon) i false).showFreq i mon

theorem State.flag_showFreq (s : State) (i : Nat) (mon mon' : RefMon) : (s.showFreq i mon).flag (monFld mon') i = s.flag (monFld mon') i := by
  refine State.flag_of_fld ?_
  obtain hm | hm := monFld_cases mon' <;> rw [hm]
  · exact State.fld_showFreq _ _ _ _ (by decide)
  · exact State.fld_showFreq _ _ _ _ (by decide)

theorem State.flag_monFailed (s : State) (i : Nat) (mon : RefMon) : (s.monFailed i mon).flag (monFld mon) i = false := by
  unfold State.monFailed
  rw [State.flag_showFreq]
  exact State.flag_setFlag_self _ _ _ _ (monFld_width mon)

theorem State.latched_monFailed {s : State} {i : Nat} {mon : RefMon} (h : s.flag (monFld mon) i = true) :
    (s.monFailed i mon).latched (monEv mon) i = true := by
  unfold State.monFailed
  have hbit : (monEv mon).bit < 8 := by
    cases mon with
    | activity => decide
    | freq v => exact (by decide : 3 < 8)
  refine State.latched_of_fld ?_ (State.latched_latchIf h s (monEv mon) i (by rw [monEv_reg]; exact hbit))
  rw [monEv_reg]
  exact (State.fld_showFreq _ _ _ _ (by decide)).trans (State.fld_setFlag_ne _ _ _ _ (monFld_ne (by decide)))

theorem State.qual_monFailed (s : State) (i : Nat) (mon : RefMon) : (s.monFailed i mon).fld R.PLB_REFi_STAT_QUAL i = s.fld R.PLB_REFi_STAT_QUAL i := by
  unfold State.monFailed
  rw [State.fld_showFreq _ _ _ _ (by decide), State.fld_setFlag_ne _ _ _ _ (monFld_ne (by decide)),
    State.fld_latchIf_ne _ _ _ _ _ (by rw [monEv_reg]; decide)]

/-- A failure takes a reference from QUALIFIED to HOLDOFF, leaves one in HOLDOFF there, and breaks a wait. -/
def State.failQual (s : State) (i : Nat) : State :=
  if s.fld R.PLB_REFi_STAT_QUAL i = qualYes then (s.setFld R.PLB_REFi_STAT_QUAL i qualHoldoff).updRef i (fun r => { r with holdFrom := s.frame })
  else if s.fld R.PLB_REFi_STAT_QUAL i = qualHoldoff then s
  else (s.setFld R.PLB_REFi_STAT_QUAL i qualDisq).setFld R.PLB_REFi_WTR_REMAIN i 0

theorem State.fld_failQual (s : State) (i : Nat) {f : Fld} (n : Nat) (hq : f.id ≠ R.PLB_REFi_STAT_QUAL.id) (hw : f.id ≠ R.PLB_REFi_WTR_REMAIN.id)
    (hf : regOk 0x80000000 f.id = false) : (s.failQual i).fld f n = s.fld f n := by
  unfold State.failQual
  refine ite_k (K := fun t => t.fld f n = s.fld f n) ?_ (ite_k (K := fun t => t.fld f n = s.fld f n) rfl ?_)
  · exact (State.fld_updRef _ _ _ _ hf).trans (State.fld_setFld_ne _ _ _ _ hq)
  · exact (State.fld_setFld_ne _ _ _ _ hw).trans (State.fld_setFld_ne _ _ _ _ hq)

theorem State.qual_failQual (s : State) (i : Nat) :
    (s.failQual i).fld R.PLB_REFi_STAT_QUAL i = if s.refQualified i then qualHoldoff else qualDisq := by
  unfold State.failQual State.refQualified
  split
  · next h =>
    rw [State.fld_updRef _ _ _ _ (by decide), State.fld_setFld_self, h]
    rfl
  · next h =>
    split
    · next h' =>
      rw [h']
      rfl
    · next h' =>
      rw [State.fld_setFld_ne _ _ _ _ (by decide), State.fld_setFld_self, if_neg (by simp [h, h'])]
      rfl

theorem exec_refFailure {i : RefIx} {mon : RefMon} {s : State} (hen : s.flag R.PLB_REFi_CFG_EN i = true)
    (h : s.monFails i mon ≠ some false) : exec (.refFailure i mon) s = .next ((s.monFailed i mon).failQual i) := by
  have hexec : exec (.refFailure i mon) s = .next (
      if s.fld R.PLB_REFi_STAT_QUAL i = qualYes then
        ((s.monFailed i mon).setFld R.PLB_REFi_STAT_QUAL i qualHoldoff).updRef i (fun r => { r with holdFrom := s.frame })
      else if s.fld R.PLB_REFi_STAT_QUAL i = qualHoldoff then s.monFailed i mon
      else ((s.monFailed i mon).setFld R.PLB_REFi_STAT_QUAL i qualDisq).setFld R.PLB_REFi_WTR_REMAIN i 0) :=
    congrArg Host.Outcome.next (if_neg (by simp [State.monitored_of_enabled hen, h]))
  have hframe : (s.monFailed i mon).frame = s.frame := by
    refine (State.fld_showFreq _ _ _ _ (by decide)).trans ((State.fld_setFlag_ne _ _ _ _ (monFld_ne (by decide))).trans ?_)
    exact State.fld_latchIf_ne _ _ _ _ _ (by rw [monEv_reg]; decide)
  rw [hexec]
  unfold State.failQual
  rw [State.qual_monFailed, hframe]

/-! ### A monitor's failure ends (R261, R263, R278) -/

/-- The state of the monitors after one has seen no more failure. -/
def State.monCleared (s : State) (i : Nat) (mon : RefMon) : State := (s.setFlag (monFld mon) i true).showFreq i mon

theorem State.flag_monCleared (s : State) (i : Nat) (mon : RefMon) : (s.monCleared i mon).flag (monFld mon) i = true := by
  unfold State.monCleared
  rw [State.flag_showFreq]
  exact State.flag_setFlag_self _ _ _ _ (monFld_width mon)

theorem State.fld_monCleared (s : State) (i : Nat) (mon : RefMon) {f : Fld} (n : Nat) (hm : f.id ≠ R.PLB_REFi_STAT_ACTIVE.id ∧ f.id ≠ R.PLB_REFi_STAT_FREQ_OK.id)
    (hf : regOk 0x100000000000000000000000000000000000000000000000000000000000000000000000000000000000000000000000000000000000000 f.id = false) : (s.monCleared i mon).fld f n = s.fld f n :=
  (State.fld_showFreq _ _ _ _ hf).trans (State.fld_setFlag_ne _ _ _ _ (monFld_ne hm))

/-- With no condition left a reference in HOLDOFF is QUALIFIED again, and a disqualified one starts its wait. -/
def State.clearQual (s : State) (i : Nat) (g : Int) : State :=
  if s.refSound i && s.fld R.PLB_REFi_STAT_QUAL i == qualHoldoff then (s.setFld R.PLB_REFi_STAT_QUAL i qualYes).endCoast i g
  else if s.refClean i && s.fld R.PLB_REFi_STAT_QUAL i == qualDisq then s.startWait i
  else s

theorem exec_refConditionClear {i : RefIx} {mon : RefMon} {g : Word} {s : State} (hen : s.flag R.PLB_REFi_CFG_EN i = true)
    (h : s.monFails i mon ≠ some true) : exec (.refConditionClear i mon g) s = .next ((s.monCleared i mon).clearQual i g.toInt) :=
  congrArg Host.Outcome.next (if_neg (by simp [State.monitored_of_enabled hen, h]))

theorem State.fld_clearQual (s : State) (i : Nat) (g : Int) {f : Fld} (n : Nat) (hq : f.id ≠ R.PLB_REFi_STAT_QUAL.id)
    (hf1 : regOk 0x80400000000000000000000000000000000000000000000000000000000000000000000000000000000000000000000000000080000000 f.id = false)
    (hf2 : regOk 0x80000000 f.id = false) : (s.clearQual i g).fld f n = s.fld f n := by
  unfold State.clearQual
  refine ite_k (K := fun t => t.fld f n = s.fld f n) ?_ (ite_k (K := fun t => t.fld f n = s.fld f n) ?_ rfl)
  · exact (State.fld_endCoast _ _ _ _ hf2).trans (State.fld_setFld_ne _ _ _ _ hq)
  · exact State.fld_startWait _ _ _ hf1

theorem State.qual_clearQual_holdoff {s : State} {i : Nat} (g : Int) (h : s.fld R.PLB_REFi_STAT_QUAL i = qualHoldoff) :
    (s.clearQual i g).fld R.PLB_REFi_STAT_QUAL i = if s.refSound i then qualYes else qualHoldoff := by
  unfold State.clearQual
  rw [h]
  cases hs : s.refSound i with
  | true =>
    rw [if_pos (by simp), State.fld_endCoast _ _ _ _ (by decide), State.fld_setFld_self]
    rfl
  | false =>
    rw [if_neg (by simp), if_neg (by simp [qualHoldoff, qualDisq]), h]
    rfl

theorem State.qual_clearQual_disq {s : State} {i : Nat} (g : Int) (h : s.fld R.PLB_REFi_STAT_QUAL i = qualDisq) :
    (s.clearQual i g).fld R.PLB_REFi_STAT_QUAL i = if s.refClean i then qualWait else qualDisq := by
  unfold State.clearQual
  rw [h, if_neg (by simp [qualHoldoff, qualDisq])]
  split
  · exact s.qual_startWait i
  · next hc =>
    rw [h, if_neg (by simpa using hc)]

theorem State.clearQual_other {s : State} {i : Nat} (g : Int) (h1 : s.fld R.PLB_REFi_STAT_QUAL i ≠ qualHoldoff)
    (h2 : s.fld R.PLB_REFi_STAT_QUAL i ≠ qualDisq) : s.clearQual i g = s := by
  unfold State.clearQual
  rw [if_neg (by simp [h1]), if_neg (by simp [h2])]

theorem State.slew_clearQual {s : State} {i : Nat} (g : Int) (h : s.fld R.PLB_REFi_STAT_QUAL i = qualHoldoff) (hs : s.refSound i = true)
    (hp : s.plb = plbLocked) (hsel : s.plbSel = i) (hc : s.flag R.PLB_STATUS_COAST = true) (hi : i < 8) :
    (s.clearQual i g).plumb.slew = s.plumb.slew + g := by
  have hp' : (s.setFld R.PLB_REFi_STAT_QUAL i qualYes).plb = plbLocked := (State.fld_setFld_ne _ _ _ _ (by decide)).trans hp
  have hsel' : (s.setFld R.PLB_REFi_STAT_QUAL i qualYes).plbSel = i := (State.fld_setFld_ne _ _ _ _ (by decide)).trans hsel
  have hc' : (s.setFld R.PLB_REFi_STAT_QUAL i qualYes).flag R.PLB_STATUS_COAST = true := (State.flag_setFld_ne _ _ _ _ (by decide)).trans hc
  unfold State.clearQual State.endCoast
  rw [h, hs, if_pos (by simp), hp', hsel', hc', if_pos (by simp)]
  exact if_pos hi

/-- Settles O21, by what each command leaves of QUAL. -/
theorem referencesQualify : Obligations.ReferencesQualify := by
  unfold Obligations.ReferencesQualify
  intro i mon s hen
  refine ⟨?fails, ?holdoff, ?clears, ?served⟩
  case fails =>
    intro h
    refine ⟨_, exec_refFailure hen h, ?_, ?_, ?_⟩
    · refine (State.flag_of_fld ?_).trans (s.flag_monFailed i mon)
      obtain hm | hm := monFld_cases mon <;> rw [hm]
      · exact State.fld_failQual _ _ _ (by decide) (by decide) (by decide)
      · exact State.fld_failQual _ _ _ (by decide) (by decide) (by decide)
    · rw [State.qual_failQual]
      unfold State.refQualified
      rw [State.qual_monFailed]
    · intro hflag
      refine State.latched_of_fld ?_ (State.latched_monFailed hflag)
      rw [monEv_reg]
      exact State.fld_failQual _ _ _ (by decide) (by decide) (by decide)
  case holdoff =>
    intro hq hover
    have hexec : exec (.refHoldoffExpiry i) s = .next (s.disqualify i) := congrArg Host.Outcome.next (if_pos (by simp [hq, hover]))
    exact ⟨_, hexec, s.latched_disqualify i, s.qual_disqualify i⟩
  case clears =>
    intro g h
    have hqual : (s.monCleared i mon).fld R.PLB_REFi_STAT_QUAL i = s.fld R.PLB_REFi_STAT_QUAL i := s.fld_monCleared i mon _ (by decide) (by decide)
    have hkept : ∀ {f : Fld}, f.id ≠ R.PLB_REFi_STAT_QUAL.id →
        regOk 0x80400000000000000000000000000000000000000000000000000000000000000000000000000000000000000000000000000080000000 f.id = false → regOk 0x80000000 f.id = false →
        ((s.monCleared i mon).clearQual i g.toInt).fld f i = (s.monCleared i mon).fld f i :=
      fun h1 h2 h3 => State.fld_clearQual _ _ _ _ h1 h2 h3
    have hact := hkept (f := R.PLB_REFi_STAT_ACTIVE) (by decide) (by decide) (by decide)
    have hfreq := hkept (f := R.PLB_REFi_STAT_FREQ_OK) (by decide) (by decide) (by decide)
    have hsound := State.refSound_of_flags hact hfreq
    have hclean := State.refClean_of_flags hact hfreq (hkept (by decide) (by decide) (by decide))
      (hkept (by decide) (by decide) (by decide))
    refine ⟨_, exec_refConditionClear hen h, ?_, ?_, ?_, ?_⟩
    · refine (State.flag_of_fld ?_).trans (s.flag_monCleared i mon)
      obtain hm | hm := monFld_cases mon <;> rw [hm]
      · exact hact
      · exact hfreq
    · intro hq
      rw [hsound]
      refine ⟨State.qual_clearQual_holdoff _ (hqual.trans hq), fun hs hp hsel hc hi => ?_⟩
      have hk := fun {f : Fld} n hm hf => s.fld_monCleared i mon (f := f) n hm hf
      refine (State.slew_clearQual g.toInt (hqual.trans hq) hs ((hk _ (by decide) (by decide)).trans hp) ((hk _ (by decide) (by decide)).trans hsel)
        ((State.flag_of_fld (hk _ (by decide) (by decide))).trans hc) hi).trans ?_
      have hplumb : (s.monCleared i mon).plumb = s.plumb :=
        State.showFreq_k (loose_part (s.setFlag (monFld mon) i true) .plumb (by decide) (by decide) (by decide)) rfl _ _
      rw [hplumb]
    · intro hq
      rw [hclean]
      exact State.qual_clearQual_disq _ (hqual.trans hq)
    · intro h1 h2
      rw [State.clearQual_other _ (hqual ▸ h1) (hqual ▸ h2), hqual]
  case served =>
    intro hq hover
    refine ⟨_, congrArg Host.Outcome.next (if_pos (by simp [hq, hover])), ?_, ?_, State.latched_latch _ _ _ (by decide)⟩
    · rw [State.fld_latch_ne _ _ _ _ (by decide), State.fld_setFld_ne _ _ _ _ (by decide), State.fld_setFld_self]
      rfl
    · rw [State.fld_latch_ne _ _ _ _ (by decide), State.fld_setFld_self]
      rfl

end Sys2Proof.Machine
end

section
/-! O22: phase jumps of a reference (R262, R279). -/

namespace Sys2Proof.Machine

/-- The jumps of reference `i` in the last 60 s, with the one of this frame. -/
def State.jumpsNow (s : State) (i : Nat) : List Nat :=
  s.frame :: (s.refSt i).jumps.filter (fun f => decide (s.sinceFrame f < 480000))

/-- A jump of `size` is recorded (R262). -/
def State.jumpNoted (s : State) (i : Nat) (size : Word) : State :=
  (((s.setFld R.PLB_REFi_JUMP_VALUE i size.toNat).setFld R.PLB_REFi_STAT_JUMPS i (min 3 (s.jumpsNow i).length)).updRef i
    (fun r => { r with jumps := s.jumpsNow i })).latch R.PLB_REFi_EVT_PHASE_JUMP i

/-- A jump joins BUILDOUT or the slew (R279). -/
def State.jumpJoined (s : State) (i : Nat) (size : Int) : State :=
  if s.plb == plbLocked && s.plbSel == i then
    (s.setIfld R.PLB_BUILDOUT_VALUE 0 (s.ifld R.PLB_BUILDOUT_VALUE + size)).updPlumb (fun p => { p with jump := true })
  else if s.following && s.plbSel == i then s.updPlumb (fun p => { p with slew := p.slew + size })
  else s

/-- The third jump within 60 s disqualifies a reference; any jump starts a wait anew (R262). -/
def State.jumpJudged (s : State) (i n : Nat) : State :=
  if 3 ≤ n && s.refQualified i then s.disqualify i
  else if s.fld R.PLB_REFi_STAT_QUAL i = qualWait then s.startWait i
  else s

theorem State.fld_jumpNoted (s : State) (i : Nat) (size : Word) {f : Fld} (n : Nat) (h1 : f.id ≠ R.PLB_REFi_JUMP_VALUE.id)
    (h2 : f.id ≠ R.PLB_REFi_STAT_JUMPS.id) (h3 : f.id ≠ R.PLB_REFi_EVT.id) (hf : regOk 0x80000000 f.id = false) :
    (s.jumpNoted i size).fld f n = s.fld f n :=
  (State.fld_latch_ne _ _ _ _ h3).trans
    ((State.fld_updRef _ _ _ _ hf).trans ((State.fld_setFld_ne _ _ _ _ h2).trans (State.fld_setFld_ne _ _ _ _ h1)))

theorem State.jumps_jumpNoted (s : State) (i : Nat) (size : Word) : ((s.jumpNoted i size).refSt i).jumps = s.jumpsNow i := by
  unfold State.jumpNoted State.refSt
  rw [State.latch_plumb]
  unfold State.updRef State.updPlumb
  dsimp only
  rw [Tab.get_put_self]

theorem exec_phaseJump {i : RefIx} {size : Word} {s : State} (hen : s.flag R.PLB_REFi_CFG_EN i = true)
    (h : 1024 * s.fld R.PLB_REFi_MON_PJ_LIM i < size.toInt.natAbs) :
    exec (.phaseJump i size) s = .next (((s.jumpNoted i size).jumpJoined i size.toInt).jumpJudged i (s.jumpsNow i).length) := by
  have hk := fun {f : Fld} h1 h2 h3 hf => s.fld_jumpNoted i size (f := f) 0 h1 h2 h3 hf
  have hplb : (s.jumpNoted i size).plb = s.plb := hk (by decide) (by decide) (by decide) (by decide)
  have hsel : (s.jumpNoted i size).plbSel = s.plbSel := hk (by decide) (by decide) (by decide) (by decide)
  refine (congrArg Host.Outcome.next (if_neg (by simp [State.monitored_of_enabled hen, h]))).trans ?_
  unfold State.jumpJoined State.jumpJudged
  rw [hplb, hsel]
  rfl

/-! ### What a jump joins (R279) -/

theorem State.fld_jumpJoined (s : State) (i : Nat) (size : Int) {f : Fld} (n : Nat) (h : f.id ≠ R.PLB_BUILDOUT_VALUE.id)
    (hf : regOk 0x80000000 f.id = false) : (s.jumpJoined i size).fld f n = s.fld f n := by
  unfold State.jumpJoined
  refine ite_k (K := fun t => t.fld f n = s.fld f n) ?_ (ite_k (K := fun t => t.fld f n = s.fld f n) ?_ rfl)
  · exact (State.fld_updPlumb _ _ _ hf).trans (State.fld_setFld_ne _ _ _ _ h)
  · exact State.fld_updPlumb _ _ _ hf

theorem State.refs_jumpJoined (s : State) (i : Nat) (size : Int) (n : Nat) : (s.jumpJoined i size).refSt n = s.refSt n := by
  unfold State.jumpJoined
  refine ite_k (K := fun t => t.refSt n = s.refSt n) ?_ (ite_k (K := fun t => t.refSt n = s.refSt n) ?_ rfl)
  · rfl
  · rfl

theorem State.buildout_jumpJoined (s : State) (i : Nat) (size : Int) :
    (s.jumpJoined i size).fld R.PLB_BUILDOUT_VALUE 0 = (if s.plb = plbLocked ∧ s.plbSel = i
      then toWord 32 (s.ifld R.PLB_BUILDOUT_VALUE + size) else s.fld R.PLB_BUILDOUT_VALUE) := by
  unfold State.jumpJoined
  split
  · next h =>
    rw [if_pos (by simpa using h), State.fld_updPlumb _ _ _ (by decide)]
    exact (State.fld_setFld_self _ _ _ _).trans (Nat.mod_eq_of_lt (toWord_lt _ _))
  · next h =>
    rw [if_neg (c := s.plb = plbLocked ∧ s.plbSel = i) (by simpa using h)]
    refine ite_k (K := fun t => t.fld R.PLB_BUILDOUT_VALUE 0 = s.fld R.PLB_BUILDOUT_VALUE 0) ?_ rfl
    exact State.fld_updPlumb _ _ _ (by decide)

theorem State.slew_jumpJoined (s : State) (i : Nat) (size : Int) :
    (s.jumpJoined i size).plumb.slew
      = (if s.following = true ∧ s.plb ≠ plbLocked ∧ s.plbSel = i then s.plumb.slew + size else s.plumb.slew) := by
  unfold State.jumpJoined
  by_cases hsel : s.plbSel = i
  · by_cases hp : s.plb = plbLocked
    · rw [if_pos (by simp [hsel, hp]), if_neg (by simp [hp])]
      rfl
    · rw [if_neg (by simp [hp])]
      cases hf : s.following with
      | true =>
        rw [if_pos (by simp [hsel]), if_pos ⟨rfl, hp, hsel⟩]
        rfl
      | false => rw [if_neg (by simp), if_neg (by simp)]
  · rw [if_neg (by simp [hsel]), if_neg (by simp [hsel]), if_neg (by simp [hsel])]

/-! ### What a jump does to the reference (R262) -/

theorem State.fld_jumpJudged (s : State) (i n : Nat) {f : Fld} (k : Nat) (h1 : regOk 0xa0400000000000000000000000000000000000000000000000000000000000000000000000000000000000000000000000000080000c00 f.id = false)
    (h2 : regOk 0x80400000000000000000000000000000000000000000000000000000000000000000000000000000000000000000000000000080000000 f.id = false) : (s.jumpJudged i n).fld f k = s.fld f k := by
  unfold State.jumpJudged
  refine ite_k (K := fun t => t.fld f k = s.fld f k) ?_ (ite_k (K := fun t => t.fld f k = s.fld f k) ?_ rfl)
  · exact State.fld_disqualify _ _ _ h1
  · exact State.fld_startWait _ _ _ h2

/-- `t` has the jumps of reference `i`, its recorded events and the slew of `s`. -/
def State.JumpsKept (s : State) (i : Nat) (t : State) : Prop :=
  (t.refSt i).jumps = (s.refSt i).jumps ∧ t.plumb.slew = s.plumb.slew ∧
    ∀ e : Ev, e.reg = R.PLB_REFi_EVT → e.bit < 8 → s.latched e i = true → t.latched e i = true

theorem State.JumpsKept.trans {s t u : State} {i : Nat} (h : s.JumpsKept i t) (h' : t.JumpsKept i u) : s.JumpsKept i u := by
  obtain ⟨hj, hs, hl⟩ := h
  obtain ⟨hj', hs', hl'⟩ := h'
  exact ⟨hj'.trans hj, hs'.trans hs, fun e he hb h => hl' e he hb (hl e he hb h)⟩

theorem State.jumpsKept_updRef {s : State} {i : Nat} {f : RefSt → RefSt} (h : ∀ r, (f r).jumps = r.jumps) : s.JumpsKept i (s.updRef i f) := by
  refine ⟨?_, rfl, fun _ _ _ h => h⟩
  unfold State.refSt State.updRef State.updPlumb State.refSt
  dsimp only
  rw [Tab.get_put_self, h]

theorem State.jumpsKept_startWait (s : State) (i : Nat) : s.JumpsKept i (s.startWait i) := by
  have hset : ∀ q r, s.JumpsKept i ((s.setFld R.PLB_REFi_STAT_QUAL i q).setFld R.PLB_REFi_WTR_REMAIN i r) := fun q r =>
    ⟨rfl, rfl, fun e he _ h => State.latched_of_fld (by
      rw [he]
      exact (State.fld_setFld_ne _ _ _ _ (by decide)).trans (State.fld_setFld_ne _ _ _ _ (by decide))) h⟩
  unfold State.startWait
  split
  · exact (hset _ _).trans (State.jumpsKept_updRef fun _ => rfl)
  · exact hset _ _

theorem State.jumpsKept_disqualify (s : State) (i : Nat) : s.JumpsKept i (s.disqualify i) := by
  have hlatch : ∀ t : State, t.JumpsKept i (t.latch R.PLB_REFi_EVT_DISQUAL i) := fun t =>
    ⟨by unfold State.refSt; rw [State.latch_plumb], by rw [State.latch_plumb],
      fun e he hb h => State.latched_latch_of_latched h (by rw [he]; exact hb) he.symm i⟩
  unfold State.disqualify
  have hupd : s.JumpsKept i (s.updRef i (fun r => { r with fresh := false, edge := none })) := State.jumpsKept_updRef fun _ => rfl
  exact (hupd.trans (hlatch _)).trans (State.jumpsKept_startWait _ _)

theorem State.jumpsKept_jumpJudged (s : State) (i n : Nat) : s.JumpsKept i (s.jumpJudged i n) := by
  unfold State.jumpJudged
  exact ite_k (s.jumpsKept_disqualify i) (ite_k (s.jumpsKept_startWait i) ⟨rfl, rfl, fun _ _ _ h => h⟩)

theorem State.refQualified_of_qual {s t : State} {i : Nat} (h : t.fld R.PLB_REFi_STAT_QUAL i = s.fld R.PLB_REFi_STAT_QUAL i) :
    t.refQualified i = s.refQualified i := by
  unfold State.refQualified
  rw [h]

theorem State.jumpJudged_third {s : State} {i n : Nat} (hq : s.refQualified i = true) (hn : 3 ≤ n) :
    (s.jumpJudged i n).refQualified i = false ∧ (s.jumpJudged i n).latched R.PLB_REFi_EVT_DISQUAL i = true := by
  unfold State.jumpJudged
  rw [if_pos (by simp [hq, hn])]
  refine ⟨?_, s.latched_disqualify i⟩
  unfold State.refQualified
  rw [State.qual_disqualify]
  cases s.refClean i <;> rfl

/-- Settles O22, by the three parts of the command: the record, what the jump joins, and the judgement. -/
theorem phaseJumps : Obligations.PhaseJumps := by
  unfold Obligations.PhaseJumps
  intro i size s hen
  refine ⟨fun h => ⟨_, exec_phaseJump hen h, ?_⟩, fun h => ?_⟩
  · have hk := fun {f : Fld} n h1 h2 h3 hf => s.fld_jumpNoted i size (f := f) n h1 h2 h3 hf
    have hplb : (s.jumpNoted i size).plb = s.plb := hk 0 (by decide) (by decide) (by decide) (by decide)
    have hsel : (s.jumpNoted i size).plbSel = s.plbSel := hk 0 (by decide) (by decide) (by decide) (by decide)
    have hbridge : (s.jumpNoted i size).flag R.PLB_STATUS_BRIDGE = s.flag R.PLB_STATUS_BRIDGE :=
      State.flag_of_fld (hk 0 (by decide) (by decide) (by decide) (by decide))
    have hbuild : (s.jumpNoted i size).fld R.PLB_BUILDOUT_VALUE 0 = s.fld R.PLB_BUILDOUT_VALUE 0 :=
      hk 0 (by decide) (by decide) (by decide) (by decide)
    have hslew : (s.jumpNoted i size).plumb.slew = s.plumb.slew := by
      unfold State.jumpNoted
      rw [State.latch_plumb]
      rfl
    have hfollow : (s.jumpNoted i size).following = s.following := by
      unfold State.following State.capturing
      rw [hplb, hbridge]
    have hqual : ((s.jumpNoted i size).jumpJoined i size.toInt).refQualified i = s.refQualified i :=
      State.refQualified_of_qual ((State.fld_jumpJoined _ _ _ _ (by decide) (by decide)).trans
        (hk _ (by decide) (by decide) (by decide) (by decide)))
    have hjoined := State.refs_jumpJoined (s.jumpNoted i size) i size.toInt i
    have hnoted : ((s.jumpNoted i size).jumpJoined i size.toInt).latched R.PLB_REFi_EVT_PHASE_JUMP i = true :=
      State.latched_of_fld (State.fld_jumpJoined _ _ _ _ (by decide) (by decide)) (State.latched_latch _ _ _ (by decide))
    have hvalue : ((s.jumpNoted i size).jumpJoined i size.toInt).fld R.PLB_REFi_JUMP_VALUE i = size.toNat := by
      rw [State.fld_jumpJoined _ _ _ _ (by decide) (by decide)]
      unfold State.jumpNoted
      rw [State.fld_latch_ne _ _ _ _ (by decide), State.fld_updRef _ _ _ _ (by decide), State.fld_setFld_ne _ _ _ _ (by decide),
        State.fld_setFld_self]
      exact Nat.mod_eq_of_lt size.isLt
    have hbuilt := State.buildout_jumpJoined (s.jumpNoted i size) i size.toInt
    have hslewed := State.slew_jumpJoined (s.jumpNoted i size) i size.toInt
    have hifld : (s.jumpNoted i size).ifld R.PLB_BUILDOUT_VALUE = s.ifld R.PLB_BUILDOUT_VALUE := congrArg (toInt 32) hbuild
    rw [hplb, hsel, hbuild, hifld] at hbuilt
    rw [hplb, hsel, hfollow, hslew] at hslewed
    generalize (s.jumpNoted i size).jumpJoined i size.toInt = u at hqual hjoined hnoted hvalue hbuilt hslewed ⊢
    obtain ⟨hj, hs, hl⟩ := u.jumpsKept_jumpJudged i (s.jumpsNow i).length
    refine ⟨?_, hl _ rfl (by decide) hnoted, ?_, ?_, hs.trans hslewed, fun hq h2 => ?_⟩
    · exact (State.fld_jumpJudged _ _ _ _ (by decide) (by decide)).trans hvalue
    · rw [hj, hjoined, State.jumps_jumpNoted]
      exact List.mem_cons_self
    · exact (State.fld_jumpJudged _ _ _ _ (by decide) (by decide)).trans hbuilt
    · exact State.jumpJudged_third (hqual.trans hq) (Nat.succ_le_succ h2)
  · exact ⟨_, congrArg Host.Outcome.next (if_pos (by simp [h])), rfl⟩

end Sys2Proof.Machine
end

section
/-! O23: the commands of PLB_CTRL (R268, R279, R282). -/

namespace Sys2Proof

theorem bits_putBits_first {w n x : Nat} (hx : x < 2 ^ n) : bits (putBits w 0 n x) 0 n = x := by
  unfold bits putBits
  rw [Nat.pow_zero, Nat.mod_one, Nat.zero_add, Nat.zero_add, Nat.mul_one, Nat.div_one, Nat.add_mul_mod_self_right, Nat.mod_mod, Nat.mod_eq_of_lt hx]

theorem bits_putBits_first_above {w n x lo len : Nat} (h : n ≤ lo) : bits (putBits w 0 n x) lo len = bits w lo len := by
  obtain ⟨d, rfl⟩ := Nat.exists_eq_add_of_le h
  have hdiv : putBits w 0 n x / 2 ^ n = w / 2 ^ n := by
    unfold putBits
    rw [Nat.pow_zero, Nat.mod_one, Nat.zero_add, Nat.zero_add, Nat.mul_one, Nat.add_mul_div_right _ _ (Nat.two_pow_pos n),
      Nat.div_eq_of_lt (Nat.mod_lt x (Nat.two_pow_pos n)), Nat.zero_add]
  unfold bits
  rw [Nat.pow_add, ← Nat.div_div_eq_div_mul, ← Nat.div_div_eq_div_mul, hdiv]

end Sys2Proof

namespace Sys2Proof.Machine

/-- PLB_CTRL in the register table. -/
def plbCtrlReg : Reg := ⟨RN.PLB_CTRL, 0x70004, 0, 1, 0x0, .single,
  [⟨R.PLB_CTRL_CMD, 0, 0, 3⟩, ⟨R.PLB_CTRL_REF, 0, 4, 4⟩, ⟨R.PLB_CTRL_REALIGN, 0, 8, 1⟩, ⟨R.PLB_CTRL_LEARN_RESET, 0, 9, 1⟩]⟩

theorem State.writeEffect_plbCtrl (u old : State) (m i w : Nat) : u.writeEffect old m RN.PLB_CTRL i w none = u.plbCtrl w := by
  unfold State.writeEffect
  simp only [if_neg (by decide : ¬ RN.PLB_CTRL = RN.DEV_LATQ_CTRL), if_neg (by decide : ¬ RN.PLB_CTRL = RN.DEV_COMMIT),
    if_neg (by decide : ¬ RN.PLB_CTRL = RN.LN_FIT_CTRL), if_neg (by decide : ¬ RN.PLB_CTRL = RN.LN_TX_CFG),
    if_neg (by decide : ¬ RN.PLB_CTRL = RN.LN_SPARE_CTRL), if_neg (by decide : ¬ RN.PLB_CTRL = RN.BNT_CTRL),
    if_neg (by decide : ¬ RN.PLB_CTRL = RN.CUT_CTRL), if_neg (by decide : ¬ RN.PLB_CTRL = RN.CUT_SCN_CMD),
    if_neg (by decide : ¬ RN.PLB_CTRL = RN.CUT_SCNn_TRIG), if_neg (by decide : ¬ RN.PLB_CTRL = RN.SCB_REPL_CTRL),
    if_neg (by decide : ¬ RN.PLB_CTRL = RN.SCF_GCFG), if_true]

/-- An accepted write of PLB_CTRL. -/
theorem State.regWrite_plbCtrl {s : State} {m : Nat} (ha : s.accepts m RN.PLB_CTRL 0 = true) (w : Nat) :
    ∃ u, s.Parked u ∧ s.regWrite m RN.PLB_CTRL 0 w = (u.plbCtrl w).completed := by
  obtain ⟨u, hu, hw⟩ := State.regWrite_unjournalled (r := plbCtrlReg) (by decide) (by decide) (by decide) (by decide) (by decide) (by decide) ha w
  exact ⟨u, hu, hw.trans (congrArg State.completed (State.writeEffect_plbCtrl _ _ _ _ _))⟩

theorem State.completed_plumb (s : State) : s.completed.plumb = s.plumb := by
  obtain ⟨x, y, h⟩ := s.completed_same
  rw [h]

theorem State.Parked.plumb {s u : State} (h : s.Parked u) : u.plumb = s.plumb := by
  obtain ⟨r, rfl⟩ := h.regs
  rfl

/-! ### FORCE, MANUAL, CLEAR and REALIGN (R268, R279) -/

/-- A command of PLB_CTRL waits for the next tick. -/
def State.plbNoted (s : State) (w : Nat) : State :=
  if 1 ≤ bits w 0 3 && bits w 0 3 ≤ 3 then s.updPlumb (fun p => { p with cmd := some (bits w 0 3, bits w 4 4) }) else s

/-- REALIGN acts in LOCKED. -/
def State.plbRealigned (s : State) (w : Nat) : State :=
  if bit w 8 = 1 && s.plb = plbLocked then s.updPlumb (fun p => { p with realign := s.fld R.PLB_BUILDOUT_VALUE != 0 }) else s

theorem State.plbCtrl_eq (s : State) (w : Nat) : s.plbCtrl w
    = if bit w 9 = 1 then ((s.plbNoted w).plbRealigned w).learnReset else (s.plbNoted w).plbRealigned w := rfl

theorem State.plbRealigned_of_no {s : State} {w : Nat} (h : bit w 8 ≠ 1) : s.plbRealigned w = s := if_neg (by simp [h])

theorem State.plbCtrl_command {s : State} {w : Nat} (h1 : 1 ≤ bits w 0 3) (h3 : bits w 0 3 ≤ 3) (hre : bit w 8 ≠ 1) (hlr : bit w 9 ≠ 1) :
    (s.plbCtrl w).plumb.cmd = some (bits w 0 3, bits w 4 4) := by
  rw [State.plbCtrl_eq, if_neg hlr, State.plbRealigned_of_no hre]
  unfold State.plbNoted
  rw [if_pos (by simp [h1, h3])]
  rfl

theorem State.fld_plbNoted (s : State) (w : Nat) {f : Fld} (n : Nat) (hf : regOk 0x80000000 f.id = false) : (s.plbNoted w).fld f n = s.fld f n :=
  ite_k (K := fun t => t.fld f n = s.fld f n) (State.fld_updPlumb _ _ _ hf) rfl

theorem State.realign_plbNoted (s : State) (w : Nat) : (s.plbNoted w).plumb.realign = s.plumb.realign :=
  ite_k (K := fun t => t.plumb.realign = s.plumb.realign) rfl rfl

theorem State.realign_plbCtrl {s : State} {w : Nat} (hre : bit w 8 = 1) (hlr : bit w 9 ≠ 1) :
    (s.plbCtrl w).plumb.realign = if s.plb = plbLocked then s.fld R.PLB_BUILDOUT_VALUE != 0 else s.plumb.realign := by
  have hplb : (s.plbNoted w).plb = s.plb := s.fld_plbNoted w _ (by decide)
  rw [State.plbCtrl_eq, if_neg hlr]
  unfold State.plbRealigned
  rw [hplb, s.fld_plbNoted w _ (by decide)]
  by_cases hlock : s.plb = plbLocked
  · rw [if_pos (by simp [hre, hlock]), if_pos hlock]
    rfl
  · rw [if_neg (by simp [hlock]), if_neg hlock]
    exact s.realign_plbNoted w

/-! ### LEARN_RESET (R282) -/

/-- Ring entry `k` is marked EXCLUDED. -/
def State.isExcluded (s : State) (k : Nat) : Prop := (s.readHist k).flags.testBit 1 = true

theorem readLe_one (s : State) (a : Nat) : s.readLe a 1 = (s.byte a).toNat := by
  show (s.byte (a + 0)).toNat + 256 * 0 = _
  rw [Nat.mul_zero, Nat.add_zero, Nat.add_zero]

theorem State.isExcluded_iff (s : State) (k : Nat) : s.isExcluded k ↔ (s.byte (s.histAddr k + 14)).toNat.testBit 1 = true := by
  unfold State.isExcluded State.readHist
  dsimp only
  rw [readLe_one]

theorem State.exclude_eq (s : State) (k : Nat) :
    s.exclude k = s.setByte (s.histAddr k + 14) (BitVec.ofNat 8 (orBit (s.byte (s.histAddr k + 14)).toNat 1)) := by
  unfold State.exclude State.writeLe
  dsimp only
  rw [readLe_one]
  show State.setByte _ _ (BitVec.ofNat 8 (_ / 2 ^ (8 * 0))) = _
  rw [Nat.mul_zero, Nat.pow_zero, Nat.div_one]

theorem testBit_orBit_byte (v : Nat) : (orBit v 1 % 2 ^ 8).testBit 1 = true := by
  rw [Nat.testBit_mod_two_pow, testBit_orBit_self]
  rfl

theorem State.isExcluded_exclude {s : State} (h : s.MemWf) (k : Nat) : (s.exclude k).isExcluded k := by
  rw [State.isExcluded_iff, State.exclude_eq]
  show (State.byte _ (s.histAddr k + 14)).toNat.testBit 1 = true
  rw [State.byte_setByte_self h, BitVec.toNat_ofNat]
  exact testBit_orBit_byte _

theorem State.isExcluded_exclude_of_excluded {s : State} (h : s.MemWf) {j : Nat} (hj : s.isExcluded j) (k : Nat) : (s.exclude k).isExcluded j := by
  rw [State.isExcluded_iff] at hj ⊢
  rw [State.exclude_eq]
  show (State.byte _ (s.histAddr j + 14)).toNat.testBit 1 = true
  by_cases ha : s.histAddr j + 14 = s.histAddr k + 14
  · rw [ha, State.byte_setByte_self h, BitVec.toNat_ofNat]
    exact testBit_orBit_byte _
  · rw [State.byte_setByte_ne _ _ ha]
    exact hj

theorem State.memWf_exclude {s : State} (h : s.MemWf) (k : Nat) : (s.exclude k).MemWf := State.memWf_writeBytes h _ _

/-- Entries that are excluded one after another stay so. -/
theorem State.isExcluded_foldl {s : State} (h : s.MemWf) (l : List Nat) :
    (l.foldl State.exclude s).MemWf ∧ ∀ k, k ∈ l ∨ s.isExcluded k → (l.foldl State.exclude s).isExcluded k := by
  induction l generalizing s with
  | nil => exact ⟨h, fun k hk => hk.resolve_left List.not_mem_nil⟩
  | cons a t ih =>
    obtain ⟨hwf, hall⟩ := ih (s := s.exclude a) (State.memWf_exclude h a)
    refine ⟨hwf, fun k hk => hall k ?_⟩
    obtain hk | hk := hk
    · obtain rfl | ht := List.mem_cons.mp hk
      · exact .inr (State.isExcluded_exclude h k)
      · exact .inl ht
    · exact .inr (State.isExcluded_exclude_of_excluded h hk a)

theorem State.histEntries_of_flds {s t : State} (hb : t.fld R.PLB_HIST_BASE_BASE 0 = s.fld R.PLB_HIST_BASE_BASE 0)
    (hn : t.fld R.PLB_HIST_IDX_NEXT 0 = s.fld R.PLB_HIST_IDX_NEXT 0) (hw : t.fld R.PLB_HIST_IDX_WRAPPED 0 = s.fld R.PLB_HIST_IDX_WRAPPED 0) :
    t.histEntries = s.histEntries := by
  unfold State.histEntries State.flag
  rw [hb, hn, hw]

theorem State.isExcluded_congr {s t : State} (hb : t.fld R.PLB_HIST_BASE_BASE 0 = s.fld R.PLB_HIST_BASE_BASE 0) (hm : t.mem = s.mem)
    (hd : t.ddr = s.ddr) {k : Nat} (h : s.isExcluded k) : t.isExcluded k := by
  rw [State.isExcluded_iff] at h ⊢
  have ha : t.histAddr k = s.histAddr k := by
    unfold State.histAddr
    rw [hb]
  rw [ha, State.byte_congr hm hd]
  exact h

theorem State.install_nil (s : State) : s.install (fitOf []) =
    ((s.setFld R.PLB_HOLD_STAT_RECORDS 0 0).setFlag R.PLB_HOLD_STAT_VALID 0 false).setFlag R.PLB_STATUS_MODEL_VALID 0 false := by
  have hv : s.fitValid (fitOf []) = false := decide_eq_false (by
    show ¬ max 1 _ ≤ 0
    omega)
  unfold State.install
  rw [hv]
  rfl

/-- LEARN_RESET leaves no model, no records that count, and every record of the ring EXCLUDED. -/
theorem State.learnReset_spec (s : State) : s.learnReset.flag R.PLB_STATUS_MODEL_VALID = false ∧ s.learnReset.flag R.PLB_HOLD_STAT_VALID = false
    ∧ s.learnReset.fld R.PLB_HOLD_STAT_RECORDS 0 = 0 ∧ (s.MemWf → ∀ k ∈ s.histEntries, s.learnReset.isExcluded k) := by
  have hread : ∀ {f : Fld}, regOk 0x100000000000000000000000000000000000000000000000000000000000000000000000000000000000000000000000000000000000000000000000000000000000000000000000000000000000000000000000 f.id = false → (s.readHists s.histEntries).fld f 0 = s.fld f 0 :=
    fun hf => State.readHists_k (K := fun t => t.fld _ 0 = s.fld _ 0) (loose_fld hf) rfl _
  have hentries : (s.readHists s.histEntries).histEntries = s.histEntries :=
    State.histEntries_of_flds (hread (by decide)) (hread (by decide)) (hread (by decide))
  have hreset : s.learnReset = ((s.histEntries.foldl State.exclude (s.readHists s.histEntries)).updPlumb (fun p => { p with kept := false })).install
      (fitOf []) := by
    unfold State.learnReset
    rw [hentries]
  rw [hreset, State.install_nil]
  refine ⟨State.flag_setFlag_self _ _ _ _ (by decide), ?_, ?_, fun hwf k hk => ?_⟩
  · exact (State.flag_setFlag_ne _ _ _ _ (by decide)).trans (State.flag_setFlag_self _ _ _ _ (by decide))
  · exact (State.fld_setFlag_ne _ _ _ _ (by decide)).trans ((State.fld_setFlag_ne _ _ _ _ (by decide)).trans (State.fld_setFld_self _ _ _ _))
  · have hwf' : (s.readHists s.histEntries).MemWf := State.readHists_k loose_memWf hwf _
    obtain ⟨-, hall⟩ := State.isExcluded_foldl hwf' s.histEntries
    have hk' := hall k (.inl hk)
    generalize s.histEntries.foldl State.exclude (s.readHists s.histEntries) = u at hk' ⊢
    refine State.isExcluded_congr (s := u) ?_ ?_ ?_ hk'
    rotate_left
    · rfl
    · rfl
    rw [State.fld_setFlag_ne _ _ _ _ (by decide), State.fld_setFlag_ne _ _ _ _ (by decide), State.fld_setFld_ne _ _ _ _ (by decide),
      State.fld_updPlumb _ _ _ (by decide)]

theorem State.isExcluded_completed {s : State} {k : Nat} (h : s.isExcluded k) : s.completed.isExcluded k := by
  obtain ⟨x, y, hc⟩ := s.completed_same
  rw [hc]
  exact h

theorem State.Parked.memWf {s u : State} (h : s.Parked u) (hwf : s.MemWf) : u.MemWf := by
  obtain ⟨r, rfl⟩ := h.regs
  exact hwf

theorem State.Parked.histEntries {s u : State} (h : s.Parked u) : u.histEntries = s.histEntries :=
  State.histEntries_of_flds (h.fld _ _ (by decide)) (h.fld _ _ (by decide)) (h.fld _ _ (by decide))

/-- FORCE, MANUAL and CLEAR. -/
theorem regWrite_plbCtrl_command {s : State} {m w c : Nat} (ha : s.accepts m RN.PLB_CTRL 0 = true) (h8 : w.testBit 8 = false) (h9 : w.testBit 9 = false)
    (h1 : 1 ≤ c) (h3 : c ≤ 3) : (s.regWrite m RN.PLB_CTRL 0 (putBits w 0 3 c)).resp.status = .ok
      ∧ (s.regWrite m RN.PLB_CTRL 0 (putBits w 0 3 c)).plumb.cmd = some (c, bits w 4 4) := by
  obtain ⟨u, -, hw⟩ := State.regWrite_plbCtrl ha (putBits w 0 3 c)
  have hc : bits (putBits w 0 3 c) 0 3 = c := bits_putBits_first (by omega)
  have hbit : ∀ k, 3 ≤ k → w.testBit k = false → bit (putBits w 0 3 c) k ≠ 1 := fun k hk h => by
    rw [← bits_one, bits_putBits_first_above hk, bits_one, bit_of_testBit_false h]
    decide
  rw [hw, State.completed_plumb, State.plbCtrl_command (by rw [hc]; exact h1) (by rw [hc]; exact h3) (hbit 8 (by decide) h8) (hbit 9 (by decide) h9),
    hc, bits_putBits_first_above (by decide)]
  exact ⟨State.completed_status _, rfl⟩

/-- Settles O23. -/
theorem plumbCommands : Obligations.PlumbCommands := by
  unfold Obligations.PlumbCommands
  intro m w s ha h8 h9
  refine ⟨⟨_, rfl, regWrite_plbCtrl_command ha h8 h9 (by decide) (by decide)⟩, ⟨_, rfl, regWrite_plbCtrl_command ha h8 h9 (by decide) (by decide)⟩,
    ⟨_, rfl, regWrite_plbCtrl_command ha h8 h9 (by decide) (by decide)⟩, ?_, ?_⟩
  · obtain ⟨u, hu, hw⟩ := State.regWrite_plbCtrl ha (putBits w.toNat 8 1 1)
    refine ⟨_, congrArg Host.Outcome.next hw, State.completed_status _, ?_⟩
    have hplb : u.plb = s.plb := hu.fld _ _ (by decide)
    rw [State.completed_plumb, State.realign_plbCtrl (bit_putBits_one _ _)
      (by rw [bit_putBits_ne (by decide), bit_of_testBit_false h9]; decide), hplb, hu.fld _ _ (by decide), hu.plumb]
  · obtain ⟨u, hu, hw⟩ := State.regWrite_plbCtrl ha (putBits w.toNat 9 1 1)
    have hreset : u.plbCtrl (putBits w.toNat 9 1 1) = (u.plbNoted (putBits w.toNat 9 1 1)).learnReset := by
      rw [State.plbCtrl_eq, if_pos (bit_putBits_one _ _),
        State.plbRealigned_of_no (by rw [bit_putBits_ne (by decide), bit_of_testBit_false h8]; decide)]
    have hnoted := fun {f : Fld} hf => u.fld_plbNoted (putBits w.toNat 9 1 1) (f := f) 0 hf
    have hentries : (u.plbNoted (putBits w.toNat 9 1 1)).histEntries = s.histEntries :=
      (State.histEntries_of_flds (hnoted (by decide)) (hnoted (by decide)) (hnoted (by decide))).trans hu.histEntries
    have hwf : s.MemWf → (u.plbNoted (putBits w.toNat 9 1 1)).MemWf := fun h => ite_k (K := State.MemWf) (hu.memWf h) (hu.memWf h)
    rw [hreset] at hw
    generalize u.plbNoted (putBits w.toNat 9 1 1) = v at hw hentries hwf
    obtain ⟨hmodel, hvalid, hrec, hall⟩ := v.learnReset_spec
    refine ⟨_, congrArg Host.Outcome.next hw, State.completed_status _, ?_, ?_, ?_, fun h k hk => ?_⟩
    · exact (State.completed_flag _ _ _).trans hmodel
    · exact (State.completed_flag _ _ _).trans hvalid
    · exact (State.completed_fld _ _ _).trans hrec
    · exact State.isExcluded_completed (hall (hwf h) k (hentries ▸ hk))

end Sys2Proof.Machine
end

section
/-! O24: a target that the register cannot show (R271, R276). -/

namespace Sys2Proof.Machine

/-- Plumb in ACQUIRING on reference number 17, which SEL has no room for, its error within LOCK_WIN for 8,000 frames, with the target's
EN cleared by a commit that waits for the end of the capture; reference 17 is QUALIFIED. -/
def beyondSel : State :=
  { regs := ⟨[(R.PLB_STATUS_STATE.id, ⟨[(0, plbAcquiring)]⟩), (R.PLB_STATUS_SEL.id, ⟨[(0, 17)]⟩), (R.PLB_REFi_STAT_QUAL.id, ⟨[(17, qualYes)]⟩)]⟩
    plumb := { winRun := 8000, enWait := true } }

theorem beyondSel_locked : (((beyondSel.enterPlb plbLocked beyondSel.plbSel).setFld R.PLB_STATUS_LAST_REF 0 beyondSel.plbSel).endCapture).fld
    R.PLB_REFi_STAT_QUAL 17 = qualYes := by decide

/-- Refutes O24: the capture of a target 17 ends as that of reference 1, and reference 17 stays QUALIFIED. -/
theorem not_plumbMoves : ¬ Obligations.PlumbMoves := by
  unfold Obligations.PlumbMoves
  intro h
  obtain ⟨-, hcapture, -, -⟩ := h beyondSel
  obtain ⟨t, ht, -, -, -, -, hqual⟩ := hcapture (.inl (by decide)) (by decide)
  have hexec : exec .captureComplete beyondSel
      = .next (((beyondSel.enterPlb plbLocked beyondSel.plbSel).setFld R.PLB_STATUS_LAST_REF 0 beyondSel.plbSel).endCapture) :=
    congrArg Host.Outcome.next (if_pos (by decide))
  rw [hexec] at ht
  obtain rfl := Host.Outcome.next.inj ht
  exact absurd (beyondSel_locked.symm.trans (hqual (by decide))) (by decide)

end Sys2Proof.Machine
end

section
/-! O25: the DPLL cores, their tests and the swap (R288, R289, R465). -/

namespace Sys2Proof.Machine

theorem State.flag_setShadow (s : State) (ok : Bool) : (s.setShadow ok).flag R.PLB_STATUS_SHADOW_OK = ok :=
  (State.flag_setFlag_ne _ _ _ _ (by decide)).trans (State.flag_setFlag_self _ _ _ _ (by decide))

/-- The active core, the shadow's mark, the test and the swap's event after a swap. -/
theorem State.swapCores_spec (s : State) : s.swapCores.fld R.PLB_STATUS_DPLL 0 = 1 - s.fld R.PLB_STATUS_DPLL 0
    ∧ s.swapCores.flag R.PLB_STATUS_SHADOW_OK = s.flag R.PLB_STATUS_SHADOW_OK ∧ s.swapCores.latched R.PLB_EVT_DPLL_SWAP = true
    ∧ s.swapCores.latched R.TLY_EVT_SUBST_DONE = true ∧ s.swapCores.plumb = s.plumb := by
  have hset : (s.setFld R.PLB_STATUS_DPLL 0 (1 - s.fld R.PLB_STATUS_DPLL 0)).fld R.PLB_STATUS_DPLL 0 = 1 - s.fld R.PLB_STATUS_DPLL 0 :=
    (State.fld_setFld_self _ _ _ _).trans (Nat.mod_eq_of_lt (Nat.lt_of_le_of_lt (Nat.sub_le _ _) (by decide)))
  unfold State.swapCores
  dsimp only
  refine ⟨?_, State.flag_of_fld ?_, ?_, ?_, ?_⟩
  · exact (State.fld_substDone _ _ _ _ _ (by decide)).trans ((State.fld_latch_ne _ _ _ _ (by decide)).trans hset)
  · exact (State.fld_substDone _ _ _ _ _ (by decide)).trans ((State.fld_latch_ne _ _ _ _ (by decide)).trans (State.fld_setFld_ne _ _ _ _ (by decide)))
  · exact State.latched_of_fld (State.fld_substDone _ _ _ _ _ (by decide)) (State.latched_latch _ _ _ (by decide))
  · exact State.latched_of_fld (State.fld_showBusy _ _ (by decide)) (State.latched_latch _ _ _ (by decide))
  · show (State.latch _ _ _).plumb = _
    rw [State.latch_plumb, State.latch_plumb]
    rfl

theorem State.core_copyCore (s : State) : s.copyCore.core (1 - s.fld R.PLB_STATUS_DPLL 0) = s.core (s.fld R.PLB_STATUS_DPLL 0) := by
  unfold State.copyCore State.updPlumb State.core
  dsimp only
  rw [Tab.get_put_self]

/-- A state whose self-checked core is out of service and under test. -/
def State.coreFailed (s : State) : State := (s.setShadow false).updPlumb (fun p => { p with test := 1, restart := none })

theorem exec_dpllSwap_shadowed {s : State} (h : s.flag R.PLB_STATUS_SHADOW_OK = true) (shadow : Bool) :
    exec (.dpllSwap shadow) s = .next (if shadow then s.coreFailed else s.coreFailed.swapCores) :=
  congrArg Host.Outcome.next (if_neg (by simp [h]))

/-- The end of a built-in test. -/
def State.coreTested (s : State) (k : Nat) : State := (s.updPlumb (fun p => { p with test := k })).showBusy

theorem State.fld_coreTested (s : State) (k : Nat) {f : Fld} (n : Nat) (h : f.id ≠ R.TLY_STAT_SIST_BUSY.id) (hf : regOk 0x80000000 f.id = false) :
    (s.coreTested k).fld f n = s.fld f n :=
  (State.fld_setFlag_ne _ _ _ _ h).trans (State.fld_updPlumb _ _ _ hf)

theorem State.restartCore_spec (s : State) : s.restartCore.plumb.restart = some (frameAdd s.frame 8000) ∧ s.restartCore.plumb.test = s.plumb.test
    ∧ s.restartCore.core (1 - s.fld R.PLB_STATUS_DPLL 0) = s.core (s.fld R.PLB_STATUS_DPLL 0) :=
  ⟨rfl, rfl, s.core_copyCore⟩

theorem State.retireCore_spec (s : State) : s.retireCore.flag R.PLB_STATUS_SHADOW_OK = false
    ∧ s.retireCore.latched R.PLB_EVT_SHADOW_FAIL = true ∧ s.retireCore.plumb = s.plumb := by
  refine ⟨?_, ?_, ?_⟩
  · show ((s.setShadow false).latch R.PLB_EVT_SHADOW_FAIL).flag R.PLB_STATUS_SHADOW_OK = false
    exact (State.flag_of_fld (State.fld_latch_ne _ _ _ _ (by decide))).trans (s.flag_setShadow false)
  · show ((s.setShadow false).latch R.PLB_EVT_SHADOW_FAIL).latched R.PLB_EVT_SHADOW_FAIL = true
    exact State.latched_latch _ _ _ (by decide)
  · show ((s.setShadow false).latch R.PLB_EVT_SHADOW_FAIL).plumb = s.plumb
    exact State.latch_plumb _ _ _

/-- Both cores have passed after their mismatches: the case is unresolved (R465). -/
def State.coreUnresolved (s : State) : State :=
  ((s.latch R.TLY_EVT_DPLL_UNRESOLVED).tallyAdd tallyDpll 0 (1 - s.fld R.PLB_STATUS_DPLL) [2]).restartCore

theorem State.coreUnresolved_spec (s : State) : s.coreUnresolved.latched R.TLY_EVT_DPLL_UNRESOLVED = true
    ∧ s.coreUnresolved.plumb.restart = some (frameAdd s.frame 8000) ∧ s.coreUnresolved.plumb.test = s.plumb.test := by
  have hframe : (s.latch R.TLY_EVT_DPLL_UNRESOLVED).frame = s.frame := State.fld_latch_ne _ _ _ _ (by decide)
  refine ⟨?_, ?_, ?_⟩
  · refine State.latched_of_fld ?_ (State.latched_latch s R.TLY_EVT_DPLL_UNRESOLVED 0 (by decide))
    exact (State.fld_restartCore _ _ (by decide)).trans (State.fld_tallyAdd _ _ _ _ _ _ (by decide))
  · show some (frameAdd (s.latch R.TLY_EVT_DPLL_UNRESOLVED).frame 8000) = _
    rw [hframe]
  · show (s.latch R.TLY_EVT_DPLL_UNRESOLVED).plumb.test = _
    rw [State.latch_plumb]

theorem exec_dpllTestDone {s : State} (h0 : s.plumb.test ≠ 0) (h4 : s.plumb.test ≠ 4) (pass : Bool) :
    exec (.dpllBuiltInTestDone pass) s = .next (
      if (!pass) = true then (s.coreTested (if pass && s.plumb.test = 2 then 4 else 0)).retireCore
      else if s.plumb.test = 2 then s.coreTested (if pass && s.plumb.test = 2 then 4 else 0)
      else if s.plumb.test = 3 then
        (s.coreTested (if pass && s.plumb.test = 2 then 4 else 0)).coreUnresolved
      else (s.coreTested (if pass && s.plumb.test = 2 then 4 else 0)).restartCore) :=
  congrArg Host.Outcome.next (if_neg (by simp [h0, h4]))

/-- Settles O25. -/
theorem coresAreTested : Obligations.CoresAreTested := by
  unfold Obligations.CoresAreTested
  intro s
  refine ⟨?swap, ?shadow, ?restore, ?mismatch, ?trigger, ?fails, ?passes, ?tested, ?exhausted, ?unresolved⟩
  case swap =>
    intro h
    refine ⟨_, exec_dpllSwap_shadowed h false, ?_⟩
    obtain ⟨hdpll, hok, hswap, hsubst, hplumb⟩ := s.coreFailed.swapCores_spec
    have hd : s.coreFailed.fld R.PLB_STATUS_DPLL 0 = s.fld R.PLB_STATUS_DPLL 0 :=
      (State.fld_updPlumb _ _ _ (by decide)).trans (State.fld_setShadow _ _ _ (by decide))
    rw [hd] at hdpll
    exact ⟨hok.trans (s.flag_setShadow false), hdpll, hswap, congrArg Plumb.test hplumb, hsubst⟩
  case shadow =>
    intro h
    refine ⟨_, exec_dpllSwap_shadowed h true, s.flag_setShadow false, ?_, rfl⟩
    exact (State.fld_updPlumb _ _ _ (by decide)).trans (State.fld_setShadow _ _ _ (by decide))
  case restore =>
    intro f hf hreached
    have hexec : exec .shadowRestore s = .next ((s.setShadow true).updPlumb (fun p => { p with restart := none })) := by
      show Host.Outcome.next (match s.plumb.restart with | some f => _ | none => s) = _
      rw [hf]
      exact congrArg Host.Outcome.next (if_pos hreached)
    exact ⟨_, hexec, s.flag_setShadow true, rfl⟩
  case mismatch =>
    intro h
    refine ⟨_, congrArg Host.Outcome.next (if_pos h), ?_, rfl, ?_⟩
    · exact State.latched_of_fld (State.fld_updPlumb _ _ _ (by decide)) (State.latched_latch _ _ _ (by decide))
    · have hplumb : (s.copyCore.latch R.PLB_EVT_DPLL_MISMATCH).plumb = s.copyCore.plumb := State.latch_plumb _ _ _
      unfold State.updPlumb State.core
      dsimp only
      rw [hplumb]
      exact s.core_copyCore
  case trigger =>
    intro h hthree
    refine ⟨_, congrArg Host.Outcome.next (if_pos (by simp [h, hthree])), ?_, rfl, ?_⟩
    · exact (State.flag_of_fld (State.fld_showBusy _ _ (by decide))).trans (s.flag_setShadow false)
    · exact (State.fld_showBusy _ _ (by decide)).trans ((State.fld_updPlumb _ _ _ (by decide)).trans (State.fld_setShadow _ _ _ (by decide)))
  case fails =>
    intro h0 h4
    obtain ⟨hok, hfail, hplumb⟩ := (s.coreTested 0).retireCore_spec
    exact ⟨_, (exec_dpllTestDone h0 h4 false).trans (congrArg Host.Outcome.next (if_pos rfl)), hok, hfail, congrArg Plumb.test hplumb⟩
  case passes =>
    intro h1
    have hexec := (exec_dpllTestDone (s := s) (by rw [h1]; decide) (by rw [h1]; decide) true).trans
      (congrArg Host.Outcome.next (if_neg Bool.false_ne_true))
    rw [h1] at hexec
    obtain ⟨hrestart, htest, hcore⟩ := (s.coreTested 0).restartCore_spec
    have hd : (s.coreTested 0).fld R.PLB_STATUS_DPLL 0 = s.fld R.PLB_STATUS_DPLL 0 := s.fld_coreTested 0 _ (by decide) (by decide)
    have hframe : (s.coreTested 0).frame = s.frame := s.fld_coreTested 0 _ (by decide) (by decide)
    rw [hd] at hcore
    rw [hframe] at hrestart
    exact ⟨_, hexec, hrestart, htest, hcore⟩
  case tested =>
    intro h2
    have hexec := (exec_dpllTestDone (s := s) (by rw [h2]; decide) (by rw [h2]; decide) true).trans
      (congrArg Host.Outcome.next (if_neg Bool.false_ne_true))
    rw [h2] at hexec
    have hd : (s.coreTested 4).fld R.PLB_STATUS_DPLL 0 = s.fld R.PLB_STATUS_DPLL 0 := s.fld_coreTested 4 _ (by decide) (by decide)
    have hswap : (s.coreTested 4).tickSwap = (s.coreTested 4).swapCores.updPlumb (fun p => { p with test := 3 }) := if_pos rfl
    obtain ⟨hdpll, -⟩ := (s.coreTested 4).swapCores_spec
    refine ⟨_, hexec, hd, rfl, ?_, ?_⟩
    · show (s.coreTested 4).tickSwap.fld R.PLB_STATUS_DPLL 0 = _
      rw [hswap, State.fld_updPlumb _ _ _ (by decide), hdpll, hd]
    · show (s.coreTested 4).tickSwap.plumb.test = _
      rw [hswap]
      rfl
  case exhausted =>
    intro h
    have hexec : exec (.dpllSwap false) s = .next s.exhausted.failDevice := congrArg Host.Outcome.next (if_pos (by simp [h]))
    refine ⟨_, hexec, ?_, ?_⟩
    · exact State.latched_of_fld (State.fld_failDevice _ _ (by decide)) (State.latched_latch _ _ _ (by decide))
    · exact (State.fld_failDevice _ _ (by decide)).trans (State.fld_latch_ne _ _ _ _ (by decide))
  case unresolved =>
    intro h3
    have hexec := (exec_dpllTestDone (s := s) (by rw [h3]; decide) (by rw [h3]; decide) true).trans
      (congrArg Host.Outcome.next (if_neg Bool.false_ne_true))
    rw [h3] at hexec
    have hframe : (s.coreTested 0).frame = s.frame := s.fld_coreTested 0 _ (by decide) (by decide)
    obtain ⟨hevt, hrestart, htest⟩ := (s.coreTested 0).coreUnresolved_spec
    rw [hframe] at hrestart
    exact ⟨_, hexec, hevt, hrestart, htest⟩

end Sys2Proof.Machine
end

section
/-! What a written word does to the parts of a register: each takes its bits by its access type and leaves the others' (R8). -/

namespace Sys2Proof

theorem testBit_bits (v lo len k : Nat) : (bits v lo len).testBit k = (decide (k < len) && v.testBit (lo + k)) := by
  unfold bits
  rw [Nat.testBit_mod_two_pow, Nat.testBit_div_two_pow, Nat.add_comm]

theorem testBit_putBits (v lo len x k : Nat) : (putBits v lo len x).testBit k
    = if k < lo then v.testBit k else if k < lo + len then x.testBit (k - lo) else v.testBit k := by
  have hput : putBits v lo len x = 2 ^ lo * (2 ^ len * (v / 2 ^ (lo + len)) + x % 2 ^ len) + v % 2 ^ lo := by
    unfold putBits
    rw [Nat.pow_add]
    ring
  rw [hput, Nat.testBit_two_pow_mul_add _ (Nat.mod_lt _ (Nat.two_pow_pos _)),
    Nat.testBit_two_pow_mul_add _ (Nat.mod_lt _ (Nat.two_pow_pos _))]
  split
  · next h => rw [Nat.testBit_mod_two_pow, decide_eq_true h, Bool.true_and]
  · next h =>
    by_cases hk : k < lo + len
    · rw [if_pos hk, if_pos (by omega), Nat.testBit_mod_two_pow, decide_eq_true (by omega : k - lo < len), Bool.true_and]
    · rw [if_neg hk, if_neg (by omega), Nat.testBit_div_two_pow]
      congr 1
      omega

theorem bits_eq_of_testBit {a b lo lo' len : Nat} (h : ∀ k, k < len → a.testBit (lo + k) = b.testBit (lo' + k)) : bits a lo len = bits b lo' len := by
  refine Nat.eq_of_testBit_eq fun k => ?_
  rw [testBit_bits, testBit_bits]
  by_cases hk : k < len
  · rw [h k hk]
  · rw [decide_eq_false hk, Bool.false_and, Bool.false_and]

theorem bits_putBits_mod_self {v lo len n : Nat} (x : Nat) (h : lo + len ≤ n) : bits (putBits v lo len x % 2 ^ n) lo len = bits x 0 len := by
  refine bits_eq_of_testBit fun k hk => ?_
  rw [Nat.testBit_mod_two_pow, testBit_putBits, if_neg (by omega), if_pos (by omega), decide_eq_true (by omega), Bool.true_and]
  congr 1
  omega

theorem bits_putBits_mod_other {v lo len n : Nat} (x : Nat) {lo' len' : Nat} (h : lo' + len' ≤ n) (hd : lo' + len' ≤ lo ∨ lo + len ≤ lo') :
    bits (putBits v lo len x % 2 ^ n) lo' len' = bits v lo' len' := by
  refine bits_eq_of_testBit fun k hk => ?_
  rw [Nat.testBit_mod_two_pow, testBit_putBits, decide_eq_true (by omega), Bool.true_and]
  split
  · rfl
  · rw [if_neg (by omega)]

theorem bits_bits_zero (w lo len : Nat) : bits (bits w lo len) 0 len = bits w lo len := by
  refine bits_eq_of_testBit fun k hk => ?_
  rw [testBit_bits, Nat.zero_add, decide_eq_true hk, Bool.true_and]

/-- The bits that a write of a W1C field leaves (R8). -/
theorem testBit_cleared {x n v lo len k : Nat} (hk : k < n) (hv : v < 2 ^ len) :
    (Nat.land x (Nat.xor (2 ^ n - 1) (v * 2 ^ lo)) % 2 ^ n).testBit k
      = (x.testBit k && !(decide (lo ≤ k) && decide (k < lo + len) && v.testBit (k - lo))) := by
  show ((x &&& ((2 ^ n - 1) ^^^ (v * 2 ^ lo))) % 2 ^ n).testBit k = _
  rw [Nat.testBit_mod_two_pow, decide_eq_true hk, Bool.true_and, Nat.testBit_and, Nat.testBit_xor, Nat.testBit_two_pow_sub_one,
    decide_eq_true hk, Nat.testBit_mul_two_pow, Bool.true_xor]
  by_cases hlo : lo ≤ k
  · by_cases hhi : k < lo + len
    · rw [decide_eq_true hlo, decide_eq_true hhi]
      simp
    · have hz : v.testBit (k - lo) = false := Nat.testBit_lt_two_pow (Nat.lt_of_lt_of_le hv (Nat.pow_le_pow_right (by decide) (by omega)))
      rw [hz, Bool.and_false, Bool.and_false]
  · rw [decide_eq_false hlo, Bool.false_and, Bool.false_and, Bool.false_and]

end Sys2Proof

namespace Sys2Proof.Machine

/-- Master `m`'s own fields after another field, or another index, is written. -/
theorem State.mfld_setMfld_field (s : State) {f g : Fld} (i j m k v : Nat) (h : g.id ≠ f.id) : (s.setMfld f i m v).mfld g j k = s.mfld g j k := by
  unfold State.mfld State.setMfld
  dsimp only
  rw [Tab.get_put_ne _ _ _ h]

/-- What master `m` finds in part `c` of register `id`, index `i`: its bits, and the active value of a staged field. -/
def Slice.content (c : Slice) (m id i : Nat) (s : State) : Nat × Nat :=
  match c.fld.ty with
  | .rw => (if perMasterReg id then bits (s.mfld c.fld i m) c.src c.len else bits (s.fld c.fld i) c.src c.len, 0)
  | .st => (bits (s.stg c.fld i) c.src c.len, s.fld c.fld i)
  | .w1c => (bits (s.fld c.fld i) c.src c.len, 0)
  | .ro | .wo | .sn => (s.fld c.fld i, 0)

/-- What part `c` holds after it takes the word `w` by its access type (R8). -/
def Slice.takenBy (c : Slice) (w : Nat) (x : Nat × Nat) : Nat × Nat :=
  match c.fld.ty with
  | .rw => (bits w c.lo c.len, 0)
  | .st => (bits w c.lo c.len, x.2)
  | .w1c => (Nat.land x.1 (Nat.xor (2 ^ c.len - 1) (bits w c.lo c.len)), 0)
  | .ro | .wo | .sn => x

namespace Slice

variable {c d : Slice} {m id i w : Nat} {s t : State}

theorem cleared_iff (a b lo n len v : Nat) :
    bits a lo len = Nat.land (bits b lo len) (Nat.xor (2 ^ len - 1) (bits v n len)) ↔
      ∀ k, k < len → a.testBit (lo + k) = (b.testBit (lo + k) && !v.testBit (n + k)) := by
  have hbit : ∀ k, (Nat.land (bits b lo len) (Nat.xor (2 ^ len - 1) (bits v n len))).testBit k
      = (decide (k < len) && (b.testBit (lo + k) && !v.testBit (n + k))) := fun k => by
    show (bits b lo len &&& ((2 ^ len - 1) ^^^ bits v n len)).testBit k = _
    rw [Nat.testBit_and, Nat.testBit_xor, Nat.testBit_two_pow_sub_one, testBit_bits, testBit_bits]
    cases decide (k < len) <;> simp
  constructor
  · intro h k hk
    have := congrArg (fun x => Nat.testBit x k) h
    rw [testBit_bits, hbit, decide_eq_true hk, Bool.true_and, Bool.true_and] at this
    exact this
  · intro h
    refine Nat.eq_of_testBit_eq fun k => ?_
    rw [testBit_bits, hbit]
    by_cases hk : k < len
    · rw [h k hk]
    · rw [decide_eq_false hk, Bool.false_and, Bool.false_and]

theorem takes_iff : c.Takes m id i w s t ↔ c.content m id i t = c.takenBy w (c.content m id i s) := by
  unfold Slice.Takes Slice.content Slice.takenBy
  cases c.fld.ty with
  | rw =>
    dsimp only
    split <;> simp
  | st => simp
  | w1c =>
    dsimp only
    rw [Prod.mk.injEq, eq_self_iff_true, and_true]
    exact (cleared_iff _ _ _ _ _ _).symm
  | ro => simp
  | wo => simp
  | sn => simp

/-- The content of a part depends on its own field alone. -/
theorem content_congr (hm : t.mfld c.fld i m = s.mfld c.fld i m) (hf : t.fld c.fld i = s.fld c.fld i) (hs : t.stg c.fld i = s.stg c.fld i) :
    c.content m id i t = c.content m id i s := by
  unfold Slice.content
  rw [hm, hf, hs]

/-- A part takes a word by its access type. -/
theorem content_storeSlice_self (hfit : c.src + c.len ≤ c.fld.width) :
    c.content m id i (s.storeSlice m id i w c) = c.takenBy w (c.content m id i s) := by
  unfold Slice.content Slice.takenBy State.storeSlice
  cases c.fld.ty with
  | rw =>
    dsimp only
    cases perMasterReg id with
    | true =>
      rw [if_pos rfl, if_pos rfl, State.mfld_setMfld_self, bits_putBits_mod_self _ hfit, bits_bits_zero]
    | false =>
      rw [if_neg Bool.false_ne_true, if_neg Bool.false_ne_true, State.fld_setFld_self, bits_putBits_mod_self _ hfit, bits_bits_zero]
  | st =>
    dsimp only
    rw [State.stg_setStg_self, State.fld_setStg, bits_putBits_mod_self _ hfit, bits_bits_zero]
  | w1c =>
    dsimp only
    rw [State.fld_setFld_self, Prod.mk.injEq, eq_self_iff_true, and_true]
    refine (cleared_iff _ _ _ _ _ _).mpr fun k hk => ?_
    rw [testBit_cleared (by omega) (bits_lt _ _ _), decide_eq_true (by omega : c.src ≤ c.src + k), decide_eq_true (by omega : c.src + k < c.src + c.len),
      Nat.add_sub_cancel_left, testBit_bits, decide_eq_true hk]
    simp
  | ro => rfl
  | wo => rfl
  | sn => rfl

/-- Two parts are of different fields, or of different bits of one field. -/
def apart (c d : Slice) : Bool :=
  c.fld.id != d.fld.id || (c.fld == d.fld && (decide (c.src + c.len ≤ d.src) || decide (d.src + d.len ≤ c.src)))

/-- A part keeps its content as another takes a word. -/
theorem content_storeSlice_other {id' : Nat} (hfit : c.src + c.len ≤ c.fld.width) (hap : c.apart d = true) (hid : perMasterReg id = perMasterReg id') :
    c.content m id i (s.storeSlice m id' i w d) = c.content m id i s := by
  have hcases : c.fld.id ≠ d.fld.id ∨ (c.fld = d.fld ∧ (c.src + c.len ≤ d.src ∨ d.src + d.len ≤ c.src)) := by
    simpa [apart] using hap
  obtain hne | ⟨heq, hd⟩ := hcases
  · unfold State.storeSlice
    cases d.fld.ty with
    | rw =>
      dsimp only
      split
      · exact content_congr (State.mfld_setMfld_field _ _ _ _ _ _ hne) rfl rfl
      · exact content_congr rfl (State.fld_setFld_ne _ _ _ _ hne) (State.stg_setFld_ne _ _ _ _ hne)
    | st => exact content_congr rfl rfl (State.stg_setStg_ne _ _ _ _ hne)
    | w1c => exact content_congr rfl (State.fld_setFld_ne _ _ _ _ hne) (State.stg_setFld_ne _ _ _ _ hne)
    | ro => rfl
    | wo => rfl
    | sn => rfl
  · unfold State.storeSlice Slice.content
    rw [← heq, ← hid]
    cases c.fld.ty with
    | rw =>
      dsimp only
      cases perMasterReg id with
      | true => rw [if_pos rfl, if_pos rfl, if_pos rfl, State.mfld_setMfld_self, bits_putBits_mod_other _ hfit hd]
      | false =>
        rw [if_neg Bool.false_ne_true, if_neg Bool.false_ne_true, if_neg Bool.false_ne_true, State.fld_setFld_self, bits_putBits_mod_other _ hfit hd]
    | st =>
      dsimp only
      rw [State.stg_setStg_self, State.fld_setStg, bits_putBits_mod_other _ hfit hd]
    | w1c =>
      dsimp only
      rw [State.fld_setFld_self, Prod.mk.injEq, eq_self_iff_true, and_true]
      refine bits_eq_of_testBit fun k hk => ?_
      rw [testBit_cleared (by omega) (bits_lt _ _ _)]
      have hout : (decide (d.src ≤ c.src + k) && decide (c.src + k < d.src + d.len)) = false := by
        rw [← Bool.decide_and]
        exact decide_eq_false (by omega)
      rw [hout, Bool.false_and, Bool.not_false, Bool.and_true]
    | ro => rfl
    | wo => rfl
    | sn => rfl

end Slice

/-! ### A whole register (R8) -/

/-- The parts of a list stand apart of each other, within their fields. -/
def slicesOk : List Slice → Bool
  | [] => true
  | c :: t => decide (c.src + c.len ≤ c.fld.width) && t.all (fun d => c.apart d && d.apart c) && slicesOk t

theorem slicesOk_table : ∀ r ∈ regTable, slicesOk r.slices = true := by decide +kernel

theorem slicesOk_cons {c : Slice} {l : List Slice} (h : slicesOk (c :: l) = true) :
    c.src + c.len ≤ c.fld.width ∧ (∀ d ∈ l, c.apart d = true ∧ d.apart c = true) ∧ slicesOk l = true := by
  unfold slicesOk at h
  simp only [Bool.and_eq_true, decide_eq_true_eq, List.all_eq_true] at h
  exact ⟨h.1.1, fun d hd => h.1.2 d hd, h.2⟩

theorem slicesOk_fit {l : List Slice} (h : slicesOk l = true) {c : Slice} (hc : c ∈ l) : c.src + c.len ≤ c.fld.width := by
  induction l with
  | nil => exact absurd hc List.not_mem_nil
  | cons a t ih =>
    obtain ⟨hfit, -, ht⟩ := slicesOk_cons h
    obtain rfl | hc := List.mem_cons.mp hc
    · exact hfit
    · exact ih ht hc

/-- The parts of a list take a word one after another. -/
def storeAll (m id i w : Nat) (l : List Slice) (s : State) : State := l.foldl (fun t c => t.storeSlice m id i w c) s

/-- A part that stands apart of those of a list keeps its content as they take a word. -/
theorem content_storeAll_other {c : Slice} {m id id' i w : Nat} (hfit : c.src + c.len ≤ c.fld.width) (hid : perMasterReg id = perMasterReg id')
    {l : List Slice} (hap : ∀ d ∈ l, c.apart d = true) (s : State) : c.content m id i (storeAll m id' i w l s) = c.content m id i s :=
  foldl_mem_k (K := fun t => c.content m id i t = c.content m id i s) _ _ rfl
    fun _ d hd ht => (Slice.content_storeSlice_other hfit (hap d hd) hid).trans ht

/-- Every part of a register takes the word by its access type. -/
theorem content_storeAll {m id i w : Nat} {l : List Slice} (h : slicesOk l = true) (s : State) :
    ∀ c ∈ l, c.content m id i (storeAll m id i w l s) = c.takenBy w (c.content m id i s) := by
  induction l generalizing s with
  | nil => exact fun c hc => absurd hc List.not_mem_nil
  | cons a t ih =>
    obtain ⟨hfit, hap, ht⟩ := slicesOk_cons h
    intro c hc
    obtain rfl | hc := List.mem_cons.mp hc
    · refine (content_storeAll_other hfit rfl (fun d hd => (hap d hd).1) _).trans ?_
      exact Slice.content_storeSlice_self hfit
    · refine (ih ht (s.storeSlice m id i w a) c hc).trans (congrArg _ ?_)
      exact Slice.content_storeSlice_other (slicesOk_fit ht hc) (hap c hc).2 rfl

theorem storeWord_eq_storeAll (s : State) (m : Nat) (r : Reg) (i w : Nat) :
    s.storeWord m r i w (fun _ => false) = storeAll m r.id i w r.slices s := rfl

/-- The content of a part after the path has been parked. -/
theorem Slice.content_park {c : Slice} (h : c.fld.id ≠ R.MTX_STAT_PARK.id) (s : State) (m n id i : Nat) (p : Place) :
    c.content m id i (s.park n p) = c.content m id i s := by
  cases p with
  | reg a =>
    unfold State.park
    dsimp only
    refine ite_k (K := fun t => c.content m id i t = c.content m id i s) ?_ rfl
    exact Slice.content_congr rfl (State.fld_setFld_ne _ _ _ _ h) (State.stg_setFld_ne _ _ _ _ h)
  | _ => rfl

theorem Slice.content_completed (c : Slice) (s : State) (m id i : Nat) : c.content m id i s.completed = c.content m id i s := by
  obtain ⟨x, y, h⟩ := s.completed_same
  rw [h]
  exact Slice.content_congr rfl rfl rfl

end Sys2Proof.Machine
end

section
/-! O26: a word written to a register that stands alone and has no action (R8 to R10). -/

namespace Sys2Proof.Machine

/-- `t` is `s` but for register fields, staged values, the masters' own fields, the answer and the PCIe ports' edges. -/
def State.FieldsOnly (s t : State) : Prop :=
  ∃ r a b x y, t = { s with regs := r, staged := a, perMaster := b, resp := x, pcie := y }

theorem State.FieldsOnly.refl (s : State) : s.FieldsOnly s := ⟨s.regs, s.staged, s.perMaster, s.resp, s.pcie, rfl⟩

theorem State.FieldsOnly.storeSlice {s t : State} (h : s.FieldsOnly t) (m id i w : Nat) (c : Slice) : s.FieldsOnly (t.storeSlice m id i w c) := by
  obtain ⟨r, a, b, x, y, rfl⟩ := h
  unfold State.storeSlice
  cases c.fld.ty with
  | rw =>
    dsimp only
    split
    · exact ⟨_, _, _, x, y, rfl⟩
    · exact ⟨_, _, _, x, y, rfl⟩
  | st => exact ⟨_, _, _, x, y, rfl⟩
  | w1c => exact ⟨_, _, _, x, y, rfl⟩
  | ro => exact ⟨r, a, b, x, y, rfl⟩
  | wo => exact ⟨r, a, b, x, y, rfl⟩
  | sn => exact ⟨r, a, b, x, y, rfl⟩

theorem State.FieldsOnly.storeAll {s t : State} (h : s.FieldsOnly t) (m id i w : Nat) (l : List Slice) : s.FieldsOnly (storeAll m id i w l t) :=
  foldl_k (K := s.FieldsOnly) _ _ h fun _ c hu => hu.storeSlice m id i w c

theorem State.FieldsOnly.park {s t : State} (h : s.FieldsOnly t) (m a : Nat) : s.FieldsOnly (t.park m (.reg a)) := by
  obtain ⟨r, hr⟩ := t.park_eq m a
  obtain ⟨r', a', b', x, y, rfl⟩ := h
  rw [hr]
  exact ⟨r, a', b', x, y, rfl⟩

theorem State.FieldsOnly.completed {s t : State} (h : s.FieldsOnly t) : s.FieldsOnly t.completed := by
  obtain ⟨x, y, hc⟩ := t.completed_same
  obtain ⟨r', a', b', x', y', rfl⟩ := h
  rw [hc]
  exact ⟨r', a', b', x, y, rfl⟩

theorem State.FieldsOnly.framed {s t : State} (h : s.FieldsOnly t) {fs : List Fld} (hf : ∀ f i, (∀ g ∈ fs, g.id ≠ f.id) → t.fld f i = s.fld f i) :
    Framed { fields := fs, parts := [.staged, .perMaster, .resp, .pcie] } s t := by
  refine ⟨?_, fun f i hn => hf f i ?_, fun x hx => ?_⟩
  · obtain ⟨r, a, b, x, y, rfl⟩ := h
    rfl
  · intro g hg he
    have hname : Footprint.names { fields := fs, parts := [.staged, .perMaster, .resp, .pcie] } f = true :=
      Bool.or_eq_true_iff.mpr (.inr (List.any_eq_true.mpr ⟨g, hg, by simpa using he⟩))
    rw [hn] at hname
    exact absurd hname (by simp)
  · obtain ⟨r, a, b, z, y, rfl⟩ := h
    cases x
    case staged | perMaster | resp | pcie => exact absurd (by simp) hx
    all_goals rfl

/-- Parts of other fields leave a field as they take a word. -/
theorem State.fld_storeAll_ne (s : State) (m id i w : Nat) {l : List Slice} {f : Fld} (n : Nat) (h : ∀ c ∈ l, c.fld.id ≠ f.id) :
    (storeAll m id i w l s).fld f n = s.fld f n :=
  State.fld_storeWord_ne s m { id := id, base := 0, first := 0, count := 0, stride := 0, half := .single, slices := l } i w (fun _ => false) n
    fun c hc => (h c hc).symm

/-! ### Registers without an action -/

theorem ne_of_not_acting {id x : Nat} (h : actingReg id = false) (hx : actingReg x = true) : id ≠ x := by
  rintro rfl
  rw [h] at hx
  exact absurd hx (by simp)

theorem State.writeEffect_of_none {s old : State} {m id i w : Nat} {img : Option SlotImage} (h : actingReg id = false) :
    s.writeEffect old m id i w img = s := by
  have hne : ∀ {x : Nat}, actingReg x = true → ¬ id = x := fun hx => ne_of_not_acting h hx
  unfold State.writeEffect
  rw [if_neg (hne (by decide)), if_neg (hne (by decide)), if_neg (hne (by decide)), if_neg (hne (by decide)), if_neg (hne (by decide)),
    if_neg (hne (by decide)), if_neg (hne (by decide)), if_neg (hne (by decide)), if_neg (hne (by decide)), if_neg (hne (by decide)),
    if_neg (hne (by decide)), if_neg (hne (by decide)), if_neg (hne (by decide)), if_neg (hne (by decide)), if_neg (hne (by decide)),
    if_neg (hne (by decide)), if_neg (hne (by decide)), if_neg (hne (by decide)), if_neg (hne (by decide)), if_neg (hne (by decide)),
    if_neg (hne (by decide)), if_neg (hne (by decide)), if_neg (hne (by decide)), if_neg (hne (by decide))]

theorem State.journalWrite_of_none {s : State} {r : Reg} {i w : Nat} (h : actingReg r.id = false) : s.journalWrite r i w = s := by
  have hne : ∀ {x : Nat}, actingReg x = true → ¬ r.id = x := fun hx => ne_of_not_acting h hx
  unfold State.journalWrite
  rw [if_neg]
  rintro (⟨he, -⟩ | ⟨he, -⟩ | ⟨he, -⟩ | he)
  · exact hne (by decide) he
  · exact hne (by decide) he
  · exact hne (by decide) he
  · exact hne (by decide) he

/-- A register without an action takes the word, and the write completes. -/
theorem State.takeWord_of_none {s : State} {m : Nat} {r : Reg} {i w : Nat} {img : Option SlotImage} (h : actingReg r.id = false)
    (hm : s.mirrors m = false) : (s.takeWord m r i w img).seeConditions = (storeAll m r.id i w r.slices s).completed := by
  have h1 : r.id ≠ RN.IMG_BOOT := ne_of_not_acting h (by decide)
  have h2 : r.id ≠ RN.DEV_LATQ_CTRL := ne_of_not_acting h (by decide)
  unfold State.takeWord
  rw [hm, if_neg Bool.false_ne_true]
  dsimp only
  rw [State.writeEffect_of_none h, State.journalWrite_of_none h]
  simp only [State.storesFields_of_ne h1 h2, Bool.not_true]
  rfl

/-- A register that stands alone and has no action, written where its fields may be. -/
theorem State.writeRegAt_of_none {s : State} {m off w : Nat} {r : Reg} {i : Nat} {img : Option SlotImage} (hr : findReg off = some (r, i))
    (hhalf : r.half = .single) (h : actingReg r.id = false) (hfree : s.regFree r.id i = true) (hm : s.mirrors m = false) :
    s.writeRegAt m off w img = (storeAll m r.id i w r.slices s).completed := by
  have h1 : ¬ (r.half = .low ∨ r.id = RN.MGT_OWN_TOKEN) := by
    rintro (he | he)
    · rw [hhalf] at he
      exact absurd he (by decide)
    · exact ne_of_not_acting h (by decide) he
  unfold State.writeRegAt
  rw [hr]
  dsimp only
  rw [hfree, if_neg (by decide), if_neg h1, if_neg (ne_of_not_acting h (by decide)), if_neg (by rw [hhalf]; decide), State.takeWord_of_none h hm]

/-- A view that names a device address writes a word there. -/
theorem State.writeView_of_addr {s : State} {m : Nat} {v : View} {a : Nat} {b : Bool} (h : s.viewAddr m v = .inl (a, b)) (w : Nat)
    (img : Option SlotImage) : s.writeView m v w img = s.writePriv m a w b img := by
  unfold State.viewAddr at h
  unfold State.writeView
  cases v with
  | priv x =>
    obtain ⟨rfl, rfl⟩ := Prod.mk.inj (Sum.inl.inj h)
    rfl
  | bar0 x =>
    obtain ⟨rfl, rfl⟩ := Prod.mk.inj (Sum.inl.inj h)
    rfl
  | bar2 x =>
    obtain ⟨rfl, rfl⟩ := Prod.mk.inj (Sum.inl.inj h)
    rfl
  | unpriv x => exact absurd h (by simp)
  | lanes x y => exact absurd h (by simp)
  | burst x y => exact absurd h (by simp)
  | burstWrite x y => exact absurd h (by simp)
  | own x y => exact absurd h (by simp)

/-- An access that is judged well to a register's aligned word. -/
theorem State.writePriv_of_reg {s : State} {m a w : Nat} {b : Bool} {img : Option SlotImage} (hp : place a = .reg a) (hal : a % 4 = 0)
    (hok : s.judge m a b true = .ok) : s.writePriv m a w b img = (s.park m (.reg a)).writeRegAt m a w img := by
  have haligned : misaligned a (.reg a) = false := by simp [misaligned, hal]
  unfold State.writePriv
  rw [hok, hp]
  dsimp only
  rw [haligned, if_neg Bool.false_ne_true]
  rfl

theorem State.regFree_park (s : State) (m a id i : Nat) : (s.park m (.reg a)).regFree id i = s.regFree id i := by
  have hstate : (s.park m (.reg a)).listState i = s.listState i := State.fld_park_ne _ _ _ _ (by decide)
  unfold State.regFree State.listAtRest
  rw [hstate]
  obtain ⟨r, hr⟩ := s.park_eq m a
  rw [hr]
  rfl

/-- The parked path is shown by one register alone. -/
theorem park_register : ∀ r ∈ regTable, r.slices.any (fun c => c.fld.id == R.MTX_STAT_PARK.id) = true → r.id = RN.MTX_STAT := by decide +kernel

theorem slices_ne_park {r : Reg} (hr : r ∈ regTable) (hact : actingReg r.id = false) : ∀ c ∈ r.slices, c.fld.id ≠ R.MTX_STAT_PARK.id :=
  fun c hc he => ne_of_not_acting hact (by decide) (park_register r hr (List.any_eq_true.mpr ⟨c, hc, by simpa using he⟩))

/-- Settles O26, by what each part of the register holds before and after. -/
theorem writesFollowTheirTypes : Obligations.WritesFollowTheirTypes := by
  unfold Obligations.WritesFollowTheirTypes
  intro m v w s a b r i hview hp hal hok hm hr hhalf hact hfree
  have hmem := findReg_mem hr
  have hexec : exec (.registerWrite m v w) s = .next (storeAll m r.id i w.toNat r.slices (s.park m (.reg a))).completed := by
    refine congrArg Host.Outcome.next ?_
    rw [State.writeView_of_addr hview, State.writePriv_of_reg hp hal hok,
      State.writeRegAt_of_none hr hhalf hact ((s.regFree_park m a r.id i).trans hfree) ((s.mirrors_park m m _).trans hm)]
  refine ⟨_, hexec, State.completed_status _, fun c hc => ?_, ?_⟩
  · rw [Slice.takes_iff, Slice.content_completed, content_storeAll (slicesOk_table r hmem) _ c hc, Slice.content_park (slices_ne_park hmem hact c hc)]
  · refine State.FieldsOnly.framed ((((State.FieldsOnly.refl s).park m a).storeAll _ _ _ _ _).completed) fun f n hne => ?_
    rw [State.completed_fld, State.fld_storeAll_ne _ _ _ _ _ n fun c hc => hne _ (List.mem_cons_of_mem _ (List.mem_map_of_mem hc)),
      State.fld_park_ne _ _ _ _ fun he => hne _ List.mem_cons_self he.symm]

end Sys2Proof.Machine
end

section
/-! O28 and O29: the unprivileged view, and register pairs (R12, R13, R41, R376, R406). -/

namespace Sys2Proof.Machine

/-! ### Accesses to the default target (R406) -/

theorem State.defaultHit_spec (s : State) {m : Nat} (hm : m < 16) (a : Nat) : (s.defaultHit m a).resp.status = .error
    ∧ (s.defaultHit m a).latched R.MTX_EVT_DEFAULT_HIT = true ∧ (s.defaultHit m a).fld R.MTX_ERR_HI_MASTER 0 = m
    ∧ (s.defaultHit m a).fld R.MTX_ERR_HI_TARGET 0 = 0xA := by
  have herr : (s.recordErr m a 0xA 0).fld R.MTX_ERR_HI_MASTER 0 = m ∧ (s.recordErr m a 0xA 0).fld R.MTX_ERR_HI_TARGET 0 = 0xA := by
    unfold State.recordErr
    refine ⟨?_, ?_⟩
    · rw [State.fld_setFld_ne _ _ _ _ (by decide), State.fld_setFld_ne _ _ _ _ (by decide), State.fld_setFld_self]
      exact Nat.mod_eq_of_lt hm
    · rw [State.fld_setFld_ne _ _ _ _ (by decide), State.fld_setFld_self]
      rfl
  refine ⟨rfl, ?_, ?_, ?_⟩
  · exact State.latched_latchAs _ _ _ _ _ (by decide)
  · exact (State.fld_latchAs_ne _ _ _ _ _ _ (by decide)).trans herr.1
  · exact (State.fld_latchAs_ne _ _ _ _ _ _ (by decide)).trans herr.2

theorem State.reportAbort_same (s : State) (m : Nat) : ∃ y, s.reportAbort m = { s with pcie := y } := by
  unfold State.reportAbort
  split
  · exact ⟨_, rfl⟩
  · exact ⟨s.pcie, rfl⟩

theorem State.defaultWrite_spec (s : State) {m : Nat} (hm : m < 16) (a : Nat) : (s.defaultWrite m a).resp.status = .error
    ∧ (s.defaultWrite m a).latched R.MTX_EVT_DEFAULT_HIT = true ∧ (s.defaultWrite m a).fld R.MTX_ERR_HI_MASTER 0 = m
    ∧ (s.defaultWrite m a).fld R.MTX_ERR_HI_TARGET 0 = 0xA := by
  obtain ⟨y, hy⟩ := (s.defaultHit m a).reportAbort_same m
  unfold State.defaultWrite
  rw [hy]
  exact s.defaultHit_spec hm a

theorem State.defaultWrite_framed (s : State) (m a : Nat) :
    OnlyRegs [R.MTX_ERR_ADDR, R.MTX_ERR_HI_MASTER, R.MTX_ERR_HI_TARGET, R.MTX_ERR_HI_KIND, R.MTX_EVT] [.ringQ, .logQ, .pcie] s (s.defaultWrite m a) :=
  State.defaultWrite_k ((loose_framed _ s).mono (by decide)) (Framed.refl _ s) m a

/-! ### Register words (R12) -/

theorem halves_shared : ∀ r ∈ regTable, r.half ≠ .single → perMasterReg r.id = false ∧ r.id ≠ RN.IMG_OP_STAT := by decide +kernel

theorem halves_apart : ∀ q ∈ regTable, q.half = .low → ∀ r ∈ regTable, r.half = .high →
    ∀ c ∈ q.slices, ∀ d ∈ r.slices, c.apart d = true ∧ d.apart c = true := by decide +kernel

/-- The register latches in no way of its own. -/
def plainPair (id : Nat) : Prop :=
  id ≠ RN.DEV_FRAME ∧ id ≠ RN.BNT_MSRC ∧ id ≠ RN.SCB_MREC_W ∧ id ≠ RN.CNT_Bc_LO ∧ id ≠ RN.CNT_Bc_SN_LO ∧ id ≠ RN.PEG_REC

theorem State.readReg_low {s : State} {m : Nat} {r : Reg} {i off : Nat} (hr : r ∈ regTable) (hh : r.half = .low) (hp : plainPair r.id) :
    s.readReg m r i off = (s.latchHigh m (off + 4) (s.wordAt m (off + 4)), s.regWord m r i) := by
  obtain ⟨h1, h2, h3, h4, h5, h6⟩ := hp
  obtain ⟨-, h7⟩ := halves_shared r hr (by rw [hh]; decide)
  unfold State.readReg
  rw [if_neg h1, if_neg h2, if_neg h3, if_neg (fun h => h6 h.1), if_neg (fun h => h7 h.1), if_neg h4, if_neg h5, hh]

theorem State.readReg_high {s : State} {m : Nat} {r : Reg} {i off : Nat} (hr : r ∈ regTable) (hh : r.half = .high) (hp : plainPair r.id) :
    s.readReg m r i off = (s, s.latchedHigh m off) := by
  obtain ⟨h1, h2, h3, h4, h5, h6⟩ := hp
  obtain ⟨-, h7⟩ := halves_shared r hr (by rw [hh]; decide)
  unfold State.readReg
  rw [if_neg h1, if_neg h2, if_neg h3, if_neg (fun h => h6 h.1), if_neg (fun h => h7 h.1), if_neg h4, if_neg h5, hh]

theorem State.readRegAt_low {s : State} {m off : Nat} {r : Reg} {i : Nat} (hr : findReg off = some (r, i)) (hh : r.half = .low)
    (hp : plainPair r.id) : s.readRegAt m off = (s.latchHigh m (off + 4) (s.wordAt m (off + 4)), s.regWord m r i) := by
  unfold State.readRegAt
  rw [hr]
  exact State.readReg_low (findReg_mem hr) hh hp

theorem State.readRegAt_high {s : State} {m off : Nat} {r : Reg} {i : Nat} (hr : findReg off = some (r, i)) (hh : r.half = .high)
    (hp : plainPair r.id) : s.readRegAt m off = (s, s.latchedHigh m off) := by
  unfold State.readRegAt
  rw [hr]
  exact State.readReg_high (findReg_mem hr) hh hp

theorem State.latchedHigh_latchHigh (s : State) (m off v : Nat) : (s.latchHigh m off v).latchedHigh m off = v := by
  unfold State.latchedHigh State.latchHigh
  dsimp only
  rw [Tab.get_put_self, Tab.get_put_self]

/-- An access that is judged well reads a register's aligned word. -/
theorem State.readPriv_of_reg {s : State} {m a : Nat} {b : Bool} (hp : place a = .reg a) (hal : a % 4 = 0) (hok : s.judge m a b false = .ok) :
    s.readPriv m a b = (((s.park m (.reg a)).readRegAt m a).1).answer .ok [((s.park m (.reg a)).readRegAt m a).2] := by
  have haligned : misaligned a (.reg a) = false := by simp [misaligned, hal]
  unfold State.readPriv
  rw [hok, hp]
  dsimp only
  rw [haligned, if_neg Bool.false_ne_true]
  rfl

/-- A view that names a device address reads a word there. -/
theorem State.readView_of_addr {s : State} {m : Nat} {v : View} {a : Nat} {b : Bool} (h : s.viewAddr m v = .inl (a, b)) :
    s.readView m v = s.readPriv m a b := by
  unfold State.viewAddr at h
  unfold State.readView
  cases v with
  | priv x =>
    obtain ⟨rfl, rfl⟩ := Prod.mk.inj (Sum.inl.inj h)
    rfl
  | bar0 x =>
    obtain ⟨rfl, rfl⟩ := Prod.mk.inj (Sum.inl.inj h)
    rfl
  | bar2 x =>
    obtain ⟨rfl, rfl⟩ := Prod.mk.inj (Sum.inl.inj h)
    rfl
  | unpriv x => exact absurd h (by simp)
  | lanes x y => exact absurd h (by simp)
  | burst x y => exact absurd h (by simp)
  | burstWrite x y => exact absurd h (by simp)
  | own x y => exact absurd h (by simp)

/-! ### The unprivileged view (R376) -/

/-- A write of the unprivileged view outside the MSI-X table leads to the default target. -/
theorem State.writeOpen_default {s : State} {m x w : Nat} (hm : (portOfMaster m).isSome = true) (hs : s.served = true) (hr : s.recovery = false)
    (hx : ∀ k, openPlace x ≠ .msixTable k) : s.writeOpen m x w = s.defaultWrite m x := by
  obtain ⟨p, hp⟩ := Option.isSome_iff_exists.mp hm
  unfold State.writeOpen
  rw [hp]
  dsimp only
  rw [hs, hr, if_neg (by decide)]
  split
  · rfl
  · split
    · next k hk => exact absurd hk (hx k)
    · rfl

/-- A read of a register through the unprivileged view. -/
theorem State.readOpen_of_reg {s : State} {m x off : Nat} (hm : (portOfMaster m).isSome = true) (hs : s.served = true) (hr : s.recovery = false)
    (hal : x % 4 = 0) (hx : openPlace x = .reg off) :
    s.readOpen m x = (((s.park m (.reg off)).readRegAt m off).1).answer .ok [((s.park m (.reg off)).readRegAt m off).2] := by
  obtain ⟨p, hp⟩ := Option.isSome_iff_exists.mp hm
  unfold State.readOpen
  rw [hp]
  dsimp only
  rw [hs, hr, if_neg (by decide), if_neg (by simp [hal]), hx]

/-- Settles O28. -/
theorem unprivilegedView : Obligations.UnprivilegedView := by
  unfold Obligations.UnprivilegedView
  intro m x s hm hs hr
  refine ⟨fun w hx => ?_, fun off r i hx hal hreg hh _ h1 h2 h3 h4 h5 h6 => ?_⟩
  · have hexec : exec (.registerWrite m (.unpriv x) w) s = .next (s.defaultWrite m x.toNat) :=
      congrArg Host.Outcome.next (State.writeOpen_default hm hs hr hx)
    obtain ⟨hstatus, hevt, hmaster, htarget⟩ := s.defaultWrite_spec (m := m) (by have := m.isLt; omega) x.toNat
    exact ⟨_, hexec, hstatus, hevt, hmaster, htarget, s.defaultWrite_framed m x.toNat⟩
  · have hexec : exec (.pairLowRead m (.unpriv x)) s = .next (s.readOpen m x.toNat) := rfl
    rw [State.readOpen_of_reg hm hs hr hal hx, State.readRegAt_low hreg hh ⟨h1, h2, h3, h4, h5, h6⟩] at hexec
    exact ⟨_, hexec, ⟨rfl, rfl⟩, State.latchedHigh_latchHigh _ _ _ _⟩

/-! ### Pairs written (R13) -/

theorem State.heldAt_hold (s : State) (m off w : Nat) : (s.hold m off w).heldAt m off = some w := by
  unfold State.heldAt State.hold
  dsimp only
  rw [Tab.get_put_self, Tab.find_put_self]

theorem State.heldAt_unhold (s : State) (m off : Nat) : (s.unhold m off).heldAt m off = none := by
  unfold State.heldAt State.unhold
  dsimp only
  rw [Tab.get_put_self, Tab.find_del_self]

theorem State.writeRegAt_low {s : State} {m off w : Nat} {r : Reg} {i : Nat} {img : Option SlotImage} (hr : findReg off = some (r, i))
    (hh : r.half = .low) (hfree : s.regFree r.id i = true) : s.writeRegAt m off w img = (s.hold m off w).answer .ok [] := by
  unfold State.writeRegAt
  rw [hr]
  dsimp only
  rw [hfree, if_neg (by decide), if_pos (.inl hh)]

theorem low_ne_mateState : ∀ r ∈ regTable, r.half = .low → ∀ c ∈ r.slices, c.fld.id ≠ R.MAT_STAT_STATE.id := by decide +kernel

theorem State.mirrors_of_mateState {s t : State} (h : t.mateState = s.mateState) (m : Nat) : t.mirrors m = s.mirrors m := by
  unfold State.mirrors State.mayChange State.paired State.isActive
  rw [h]

/-- The high half of a pair whose low half the master holds: both take effect together. -/
theorem State.writeRegAt_high {s : State} {m off w l : Nat} {q r : Reg} {i : Nat} {img : Option SlotImage} (hr : findReg off = some (r, i))
    (hh : r.half = .high) (hact : actingReg r.id = false) (hfree : s.regFree r.id i = true) (hm : s.mirrors m = false)
    (hq : findReg (off - 4) = some (q, i)) (hql : q.half = .low) (hl : s.heldAt m (off - 4) = some l) :
    s.writeRegAt m off w img = (storeAll m r.id i w r.slices (storeAll m q.id i l q.slices (s.unhold m (off - 4)))).completed := by
  have h1 : ¬ (r.half = .low ∨ r.id = RN.MGT_OWN_TOKEN) := by
    rintro (he | he)
    · rw [hh] at he
      exact absurd he (by decide)
    · exact ne_of_not_acting hact (by decide) he
  have hm' : (storeAll m q.id i l q.slices (s.unhold m (off - 4))).mirrors m = false :=
    (State.mirrors_of_mateState (State.fld_storeAll_ne _ _ _ _ _ 0 (low_ne_mateState q (findReg_mem hq) hql)) m).trans hm
  unfold State.writeRegAt
  rw [hr]
  dsimp only
  rw [hfree, if_neg (by decide), if_neg h1, if_neg (ne_of_not_acting hact (by decide)), if_pos hh, hq, hl]
  dsimp only
  rw [storeWord_eq_storeAll, State.takeWord_of_none hact hm']

theorem State.FieldsOnly.heldAt {s t : State} (h : s.FieldsOnly t) (m off : Nat) : t.heldAt m off = s.heldAt m off := by
  obtain ⟨r, a, b, x, y, rfl⟩ := h
  rfl

/-- What both halves of a pair hold after they take effect together. -/
theorem content_pair {m i l w : Nat} {q r : Reg} (hq : q ∈ regTable) (hql : q.half = .low) (hr : r ∈ regTable) (hrh : r.half = .high) (s : State) :
    (∀ c ∈ q.slices, c.content m q.id i (storeAll m r.id i w r.slices (storeAll m q.id i l q.slices s)) = c.takenBy l (c.content m q.id i s))
      ∧ ∀ c ∈ r.slices, c.content m r.id i (storeAll m r.id i w r.slices (storeAll m q.id i l q.slices s)) = c.takenBy w (c.content m r.id i s) := by
  obtain ⟨hpq, -⟩ := halves_shared q hq (by rw [hql]; decide)
  obtain ⟨hpr, -⟩ := halves_shared r hr (by rw [hrh]; decide)
  have hown : perMasterReg q.id = perMasterReg r.id := hpq.trans hpr.symm
  refine ⟨fun c hc => ?_, fun c hc => ?_⟩
  · rw [content_storeAll_other (slicesOk_fit (slicesOk_table q hq) hc) hown fun d hd => (halves_apart q hq hql r hr hrh c hc d hd).1]
    exact content_storeAll (slicesOk_table q hq) s c hc
  · rw [content_storeAll (slicesOk_table r hr) _ c hc,
      content_storeAll_other (slicesOk_fit (slicesOk_table r hr) hc) hown.symm fun d hd => (halves_apart q hq hql r hr hrh d hd c hc).2]

theorem slices_of_halves_ne_park : ∀ r ∈ regTable, r.half ≠ .single → ∀ c ∈ r.slices, c.fld.id ≠ R.MTX_STAT_PARK.id := by decide +kernel

theorem Slice.content_unhold (c : Slice) (s : State) (m id i n off : Nat) : c.content m id i (s.unhold n off) = c.content m id i s :=
  Slice.content_congr rfl rfl rfl

theorem State.heldAt_park (s : State) (m n a off : Nat) : (s.park n (.reg a)).heldAt m off = s.heldAt m off := by
  obtain ⟨r, hr⟩ := s.park_eq n a
  rw [hr]
  rfl

/-- A low half that is held changes no register (R13). -/
theorem State.hold_framed (s : State) (m a w : Nat) :
    OnlyRegs [R.MTX_STAT_PARK] [.heldLow] s (((s.park m (.reg a)).hold m a w).answer .ok []) := by
  have hK := loose_framed { fields := [R.MTX_STAT_PARK], parts := [.resp, .heldLow] } s
  have hpark := State.park_k (hK.mono (by decide)) (Framed.refl _ s) m (.reg a)
  exact State.answer_k (hK.mono (by decide)) (State.hold_k (hK.mono (by decide)) hpark m a w) .ok []

/-- DEV_FRAME in the register table. -/
def devFrameReg : Reg := ⟨RN.DEV_FRAME, 0x200, 0, 1, 0x0, .single, [⟨R.DEV_FRAME_FRAME, 0, 0, 32⟩]⟩

theorem State.serves_iff {r : Reg} (hr : r ∈ regTable) (s : State) (m i : Nat) :
    s.serves m r.id i = true ↔ s.judge m (r.addr i) false false = .ok := by
  unfold State.serves
  rw [find_of_id hr]
  simp

/-- A read of a register at its address of the privileged view. -/
theorem State.regRead_of_judge {r : Reg} (hr : r ∈ regTable) {s : State} {m i : Nat} (hp : place (r.addr i) = .reg (r.addr i))
    (hal : r.addr i % 4 = 0) (hok : s.judge m (r.addr i) false false = .ok) : s.regRead m r.id i
      = (((s.park m (.reg (r.addr i))).readRegAt m (r.addr i)).1).answer .ok [((s.park m (.reg (r.addr i))).readRegAt m (r.addr i)).2] := by
  unfold State.regRead regAddr
  rw [find_of_id hr]
  exact State.readPriv_of_reg hp hal hok

theorem State.readRegAt_devFrame (s : State) (m : Nat) :
    s.readRegAt m (devFrameReg.addr 0) = ({ s with frameCycle := s.frameCycle.put m s.cycle }, s.frame) := by
  unfold State.readRegAt
  rw [findReg_addr (r := devFrameReg) (by decide) (by decide) (by decide)]
  rfl

/-- Settles O29. -/
theorem pairsLatch : Obligations.PairsLatch := by
  unfold Obligations.PairsLatch
  intro m v s a b r i hview hp hal hreg
  have hread : ∀ hok : s.judge m a b false = .ok, exec (.pairLowRead m v) s
      = .next ((((s.park m (.reg a)).readRegAt m a).1).answer .ok [((s.park m (.reg a)).readRegAt m a).2]) := fun hok =>
    congrArg Host.Outcome.next ((State.readView_of_addr hview).trans (State.readPriv_of_reg hp hal hok))
  have hwrite : ∀ (w : Word), s.judge m a b true = .ok → s.writeView m v w.toNat none = (s.park m (.reg a)).writeRegAt m a w.toNat none :=
    fun w hok => (State.writeView_of_addr hview _ _).trans (State.writePriv_of_reg hp hal hok)
  refine ⟨?low, ?high, ?hold, ?both, ?frame⟩
  case low =>
    intro hok hh h1 h2 h3 h4 h5 h6
    have hexec := hread hok
    rw [State.readRegAt_low hreg hh ⟨h1, h2, h3, h4, h5, h6⟩] at hexec
    exact ⟨_, hexec, ⟨rfl, rfl⟩, State.latchedHigh_latchHigh _ _ _ _⟩
  case high =>
    intro hok hh h1 h2 h3 h4 h5 h6
    have hexec := hread hok
    rw [State.readRegAt_high hreg hh ⟨h1, h2, h3, h4, h5, h6⟩] at hexec
    refine ⟨_, hexec, rfl, ?_⟩
    obtain ⟨x, hx⟩ := s.park_eq m a
    rw [hx]
    rfl
  case hold =>
    intro w hok hfree hh
    have hexec : exec (.pairLowWrite m v w) s = .next (((s.park m (.reg a)).hold m a w.toNat).answer .ok []) :=
      congrArg Host.Outcome.next ((hwrite w hok).trans (State.writeRegAt_low hreg hh ((s.regFree_park m a _ _).trans hfree)))
    exact ⟨_, hexec, rfl, State.heldAt_hold _ _ _ _, s.hold_framed m a w.toNat⟩
  case both =>
    intro w q l hok hm hfree hh hact hq hl hql
    have hexec : exec (.pairHighWrite m v w) s = .next _ :=
      congrArg Host.Outcome.next ((hwrite w hok).trans (State.writeRegAt_high hreg hh hact ((s.regFree_park m a _ _).trans hfree)
        ((s.mirrors_park m m _).trans hm) hq hql ((s.heldAt_park m m a _).trans hl)))
    obtain ⟨hlow, hhigh⟩ := content_pair (m := m) (i := i) (l := l) (w := w.toNat) (findReg_mem hq) hql (findReg_mem hreg) hh
      ((s.park m (.reg a)).unhold m (a - 4))
    have hkept : ∀ (id : Nat) (c : Slice), c.fld.id ≠ R.MTX_STAT_PARK.id →
        c.content m id i ((s.park m (.reg a)).unhold m (a - 4)) = c.content m id i s := fun id c hc =>
      (c.content_unhold _ _ _ _ _ _).trans (Slice.content_park hc _ _ _ _ _ _)
    refine ⟨_, hexec, State.completed_status _, ?_, fun c hc => ?_, fun c hc => ?_⟩
    · have honly := ((((State.FieldsOnly.refl ((s.park m (.reg a)).unhold m (a - 4))).storeAll m q.id i l q.slices).storeAll m r.id i w.toNat
        r.slices).completed)
      rw [honly.heldAt]
      exact State.heldAt_unhold _ _ _
    · rw [Slice.takes_iff, Slice.content_completed, hlow c hc,
        hkept q.id c (slices_of_halves_ne_park q (findReg_mem hq) (by rw [hql]; decide) c hc)]
    · rw [Slice.takes_iff, Slice.content_completed, hhigh c hc,
        hkept r.id c (slices_of_halves_ne_park r (findReg_mem hreg) (by rw [hh]; decide) c hc)]
  case frame =>
    intro c hserve
    have hok : State.judge { s with cycle := c.val } m (devFrameReg.addr 0) false false = .ok :=
      (State.serves_iff (r := devFrameReg) (by decide) s m 0).mp hserve
    have hexec : exec (.devFrameRead m c) s = .next _ := congrArg Host.Outcome.next
      (State.regRead_of_judge (r := devFrameReg) (by decide) (by decide) (by decide) hok)
    rw [State.readRegAt_devFrame] at hexec
    refine ⟨_, hexec, ⟨rfl, ?_⟩, ?_⟩
    · exact congrArg (fun x => [x]) (State.fld_park_ne _ _ _ _ (by decide))
    · obtain ⟨x, hx⟩ := State.park_eq { s with cycle := c.val } m (devFrameReg.addr 0)
      rw [hx]
      exact Tab.get_put_self _ _ _ _

end Sys2Proof.Machine
end

section
/-! O30: the reads that latch for their master (R162, R191, R194, R224, R250, R445, R455). -/

namespace Sys2Proof.Machine

/-! ### A read of a register by its number -/

theorem Reg.place_of_judge {r : Reg} (hr : r ∈ regTable) {i : Nat} (h : i < r.first + r.count) {s : State} {m : Nat} {b w : Bool}
    (hok : s.judge m (r.addr i) b w = .ok) : place (r.addr i) = .reg (r.addr i) := by
  obtain ⟨hlt, -, hwin⟩ := Reg.addr_facts hr h
  exact (place_low hlt hwin).resolve_right (State.place_ne_nowhere_of_judge hok)

/-- A read of a register that serves its master is a read of register space behind the parked path. -/
theorem State.regRead_of_serves {r : Reg} (hr : r ∈ regTable) {i : Nat} (h1 : r.first ≤ i) (h2 : i < r.first + r.count) {s : State} {m : Nat}
    (hok : s.serves m r.id i = true) : ∃ u, s.Parked u ∧
      s.regRead m r.id i = ((u.readReg m r i (r.addr i)).1).answer .ok [(u.readReg m r i (r.addr i)).2] := by
  have hjudge := (State.serves_iff hr s m i).mp hok
  obtain ⟨-, hal, -⟩ := Reg.addr_facts hr h2
  have hat : ∀ u : State, u.readRegAt m (r.addr i) = u.readReg m r i (r.addr i) := fun u => by
    unfold State.readRegAt
    rw [findReg_addr hr h1 h2]
  refine ⟨_, s.parked_park m (r.addr i), ?_⟩
  rw [State.regRead_of_judge hr (Reg.place_of_judge hr h2 hjudge) hal hjudge, hat]

/-! ### The registers that latch -/

/-- BNT_MSRC in the register table. -/
def memberSrcReg : Reg := ⟨RN.BNT_MSRC, 0x3000020, 0, 16384, 0x100, .single, [⟨R.BNT_MSRC_SRC, 0, 0, 25⟩, ⟨R.BNT_MSRC_STATE, 0, 25, 4⟩]⟩
/-- SCB_MREC_W in the register table. -/
def mrecReg : Reg := ⟨RN.SCB_MREC_W, 0xb0024, 0, 1, 0x0, .single, [⟨R.SCB_MREC_W_SRC, 0, 0, 25⟩, ⟨R.SCB_MREC_W_VALID, 0, 31, 1⟩]⟩
/-- GRN_SCAN_RES in the register table. -/
def scanReg : Reg := ⟨RN.GRN_SCAN_RES, 0xa1024, 0, 1, 0x0, .single, [⟨R.GRN_SCAN_RES_SLOT, 0, 0, 17⟩, ⟨R.GRN_SCAN_RES_FAULT0, 0, 17, 1⟩,
  ⟨R.GRN_SCAN_RES_FAULT1, 0, 18, 1⟩, ⟨R.GRN_SCAN_RES_VALID, 0, 31, 1⟩]⟩
/-- PEG_REC in the register table. -/
def pegRecReg : Reg := ⟨RN.PEG_REC, 0x90140, 0, 16, 0x4, .single, [⟨R.PEG_REC_WORD, 0, 0, 32⟩]⟩

theorem State.readReg_member (s : State) (m i off : Nat) : s.readReg m memberSrcReg i off = s.readMember m i := rfl

theorem State.readReg_mrec (s : State) (m i off : Nat) : s.readReg m mrecReg i off = s.readMrec m := rfl

theorem State.readReg_scan (s : State) (m i off : Nat) : s.readReg m scanReg i off = (s, s.scanWord m % 2 ^ 32) := rfl

theorem State.readReg_pegRec (s : State) (m off : Nat) : s.readReg m pegRecReg 0 off = s.readPegRec m := rfl

theorem State.readReg_bankLow (s : State) (m i off : Nat) : s.readReg m bankLowReg i off = (s.bankCycle i).readBankLow m i off 0x10 := rfl

theorem State.Parked.memberWords {s u : State} (h : s.Parked u) (m b : Nat) : u.memberWords m b = s.memberWords m b := by
  obtain ⟨x, rfl⟩ := h.regs
  rfl

theorem State.Parked.mrecWords {s u : State} (h : s.Parked u) (m : Nat) : u.mrecWords m = s.mrecWords m := by
  obtain ⟨x, rfl⟩ := h.regs
  rfl

theorem State.Parked.scanWord {s u : State} (h : s.Parked u) (m : Nat) : u.scanWord m = s.scanWord m := by
  obtain ⟨x, rfl⟩ := h.regs
  rfl

theorem State.Parked.pegs {s u : State} (h : s.Parked u) : u.pegs = s.pegs := by
  obtain ⟨x, rfl⟩ := h.regs
  rfl

/-! ### A bank counter (R442 to R445) -/

theorem State.Parked.bankTakes {s u : State} (h : s.Parked u) (src i c : Nat) : u.bankTakes src i c = s.bankTakes src i c := by
  unfold State.bankTakes
  rw [h.fld _ _ (by decide), h.fld _ _ (by decide), h.flag _ (by decide), h.flag _ (by decide)]

theorem State.Parked.ticking {s u : State} (h : s.Parked u) : u.ticking = s.ticking := by
  unfold State.ticking State.plb
  rw [h.fld _ _ (by decide)]

theorem State.Parked.someCycle {s u : State} (h : s.Parked u) : s.someCycle.Parked u.someCycle := by
  have hfld : ∀ (t : State) (f : Fld) (i : Nat), t.someCycle.fld f i = t.fld f i := fun t f i => by
    unfold State.someCycle State.setCycle
    split <;> rfl
  refine ⟨?_, fun f i hf => by rw [hfld, hfld, h.fld f i hf]⟩
  have hticking := h.ticking
  obtain ⟨x, rfl⟩ := h.regs
  refine ⟨x, ?_⟩
  unfold State.someCycle State.setCycle
  rw [hticking]
  split <;> rfl

theorem State.Parked.bankCycle {s u : State} (h : s.Parked u) (c : Nat) : (s.bankCycle c).Parked (u.bankCycle c) := by
  unfold State.bankCycle
  rw [h.bankTakes, h.bankTakes, h.flag _ (by decide)]
  split
  · exact h.someCycle
  · exact h

theorem State.Parked.bankShown {s u : State} (h : s.Parked u) (c : Nat) : u.bankShown c = s.bankShown c := by
  have hplumb : u.plumb = s.plumb := by
    obtain ⟨x, rfl⟩ := h.regs
    rfl
  have hcycle : u.cycle = s.cycle := by
    obtain ⟨x, rfl⟩ := h.regs
    rfl
  have hnow : u.cycleNow = s.cycleNow := by
    unfold State.cycleNow
    rw [h.ticking, hcycle, hplumb]
  have hdue : ∀ c, u.bankDue c = s.bankDue c := fun c => by
    unfold State.bankDue State.cyclesDue
    rw [h.bankTakes, h.bankTakes, hplumb, hnow]
  unfold State.bankShown
  rw [h.fld _ _ (by decide), h.fld _ _ (by decide), h.flag _ (by decide), hdue, hdue]

theorem bankShown_lt (s : State) (c : Nat) : s.bankShown c < 2 ^ 48 := Nat.mod_lt _ (by decide)

theorem State.wordAt_bankLow (s : State) (m : Nat) {c : Nat} (hc : c < 16384) :
    s.wordAt m (bankLowReg.addr c) = s.bankShown c % 2 ^ 32 := by
  unfold State.wordAt
  rw [findReg_addr bankLowReg_mem (Nat.zero_le _) (by rw [show bankLowReg.first + bankLowReg.count = 16384 from rfl]; exact hc)]
  exact Nat.mod_mod _ _

theorem State.wordAt_bankHigh (s : State) (m : Nat) {c : Nat} (hc : c < 16384) :
    s.wordAt m (bankHighReg.addr c) = s.bankShown c / 2 ^ 32 % 2 ^ 16 := by
  have hlt := bankShown_lt s c
  unfold State.wordAt
  rw [findReg_addr bankHighReg_mem (Nat.zero_le _) (by rw [show bankHighReg.first + bankHighReg.count = 16384 from rfl]; exact hc)]
  show s.bankShown c / 2 ^ 32 % 2 ^ 32 = _
  omega

/-- What a read of a bank counter's low half finds where no chained reading waits (R445). -/
theorem State.readBankLow_spec {s : State} {m c a : Nat} (h : (s.chainHeld.get m {}).find a = none) :
    (s.readBankLow m c a 0x10).2 = s.wordAt m a
      ∧ (s.readBankLow m c a 0x10).1.latchedHigh m (a + 4) = s.wordAt m (a + 4)
      ∧ (s.flag R.CNT_Bc_CFG_CHAIN c = true →
        ((s.readBankLow m c a 0x10).1.chainHeld.get m {}).find (a + 16) = some (s.wordAt m (a + 16))) := by
  unfold State.readBankLow
  rw [h]
  refine ⟨rfl, ?_, fun hchain => ?_⟩
  · dsimp only
    split
    · unfold State.latchedHigh State.latchHigh State.holdChain
      dsimp only
      rw [Tab.get_put_self, Tab.get_put_self, Tab.get_put_ne _ _ _ (by omega), Tab.get_put_self]
    · exact State.latchedHigh_latchHigh _ _ _ _
  · dsimp only
    rw [if_pos hchain]
    unfold State.holdChain
    dsimp only
    rw [Tab.get_put_self, Tab.find_put_self]

/-- A counter with none chained below it shows what its field holds and what it has counted since. -/
theorem State.bankShown_of_unchained {s : State} {c : Nat} (h : s.chainedBelow c = false) :
    s.bankShown c = (s.fld R.CNT_Bc_COUNT c + s.bankDue c) % 2 ^ 48 := by
  unfold State.bankShown
  rw [if_neg (by unfold State.chainedBelow at h; simpa using h)]
  rfl

theorem State.bankTakes_false {s : State} {src c : Nat} (hsrc : 0xD ≤ src) (h : s.fld R.CNT_Bc_CFG_SRC c ≠ src) : s.bankTakes src 0 c = false :=
  Bool.eq_false_iff.mpr (fun ht => h ((s.bankTakes_iff hsrc 0 c).mp ht).1)

theorem State.bankCycle_of_unchained {s : State} {c : Nat} (h : s.chainedBelow c = false) (hself : s.bankTakes 0xE 0 c = false) :
    s.bankCycle c = s := by
  unfold State.bankCycle
  have hbelow : (c != 0 && s.flag R.CNT_Bc_CFG_CHAIN (c - 1)) = false := h
  rw [hself, hbelow]
  rfl

/-! ### The logical map (R194) -/

theorem State.readUnits_regs (s : State) (us : List Nat) : ∃ r, s.readUnits us = { s with regs := r } := by
  unfold State.readUnits State.addFld
  split
  · split
    · exact ⟨s.regs, rfl⟩
    · exact ⟨_, rfl⟩
  · exact ⟨s.regs, rfl⟩

theorem State.mapEntry_readUnits (s : State) (us : List Nat) (k : Nat) : (s.readUnits us).mapEntry k = s.mapEntry k := by
  obtain ⟨x, hx⟩ := s.readUnits_regs us
  rw [hx]
  rfl

/-- An access that is judged well reads an aligned word of the logical map. -/
theorem State.readPriv_of_map {s : State} {m a off : Nat} (hp : place a = .map off) (hal : a % 4 = 0) (hok : s.judge m a false false = .ok) :
    s.readPriv m a false = ((((s.readUnits (s.placeUnits 4 (.map off))).readMap m off).1).answer .ok
      [((s.readUnits (s.placeUnits 4 (.map off))).readMap m off).2]) := by
  have haligned : misaligned a (.map off) = false := by simp [misaligned, hal]
  unfold State.readPriv
  rw [hok, hp]
  dsimp only
  rw [haligned, if_neg Bool.false_ne_true]
  rfl

/-- Settles O30. -/
theorem latchingReads : Obligations.LatchingReads := by
  unfold Obligations.LatchingReads
  intro m s
  refine ⟨?member, ?diag, ?mapLow, ?mapHigh, ?mapWide, ?mrec, ?scan, ?bank, ?shown, ?peg⟩
  case member =>
    intro b hserve
    obtain ⟨u, hu, hread⟩ := State.regRead_of_serves (r := memberSrcReg) (by decide) (Nat.zero_le _)
      (show b.val < 0 + 16384 from by have := b.isLt; omega) hserve
    rw [State.readReg_member] at hread
    refine ⟨_, congrArg Host.Outcome.next hread, ⟨rfl, ?_⟩, ?_⟩
    · exact congrArg (fun l : List Nat => [l.getD 0 0]) (hu.memberWords m b)
    · rw [← hu.memberWords m b]
      unfold State.readMember State.answer
      dsimp only
      rw [Tab.get_put_self, Tab.get_put_self]
  case diag =>
    intro a off hp hok hal
    have hread : s.readPriv m a.toNat false = s.answer .ok [(s.diagEntry off).getD 0] := by
      have haligned : misaligned a.toNat (.diag off) = false := by simp [misaligned, hal]
      unfold State.readPriv
      rw [hok, hp]
      dsimp only
      rw [haligned]
      rfl
    exact ⟨_, congrArg Host.Outcome.next hread, ⟨rfl, rfl⟩, rfl, rfl⟩
  case mapLow =>
    intro a off hp hok hal hoff
    have hexec : exec (.logicalMapRead m a false) s = .next (((s.readUnits (s.placeUnits 4 (.map off))).latchHigh m (0x100000000 + off + 4)
        (s.mapEntry (off / 8) / 2 ^ 32)).answer .ok [s.mapEntry (off / 8) % 2 ^ 32]) := by
      refine congrArg Host.Outcome.next ((State.readPriv_of_map hp hal hok).trans ?_)
      unfold State.readMap
      dsimp only
      rw [if_pos hoff, State.mapEntry_readUnits]
    exact ⟨_, hexec, ⟨rfl, rfl⟩, State.latchedHigh_latchHigh _ _ _ _⟩
  case mapHigh =>
    intro a off hp hok hal hoff
    have hexec : exec (.logicalMapRead m a false) s = .next ((s.readUnits (s.placeUnits 4 (.map off))).answer .ok
        [s.latchedHigh m (0x100000000 + off)]) := by
      refine congrArg Host.Outcome.next ((State.readPriv_of_map hp hal hok).trans ?_)
      unfold State.readMap
      dsimp only
      rw [if_neg hoff]
      obtain ⟨x, hx⟩ := s.readUnits_regs (s.placeUnits 4 (.map off))
      rw [hx]
      rfl
    exact ⟨_, hexec, rfl, rfl⟩
  case mapWide =>
    intro a off hp hok hoff
    have hexec : exec (.logicalMapRead m a true) s = .next ((s.readUnits (s.placeUnits 8 (.map off))).answer .ok
        [s.mapEntry (off / 8) % 2 ^ 32, s.mapEntry (off / 8) / 2 ^ 32]) := by
      refine congrArg Host.Outcome.next ?_
      show s.readWide m a.toNat = _
      unfold State.readWide
      rw [hok, hp]
      dsimp only
      rw [if_pos hoff]
    refine ⟨_, hexec, ⟨rfl, rfl⟩, ?_⟩
    obtain ⟨x, hx⟩ := s.readUnits_regs (s.placeUnits 8 (.map off))
    rw [hx]
    rfl
  case mrec =>
    intro hserve
    obtain ⟨u, hu, hread⟩ := State.regRead_of_serves (r := mrecReg) (by decide) (by decide) (by decide) hserve
    rw [State.readReg_mrec] at hread
    refine ⟨_, congrArg Host.Outcome.next hread, ⟨rfl, ?_⟩, ?_⟩
    · exact congrArg (fun l : List Nat => [l.getD 0 0]) (hu.mrecWords m)
    · rw [← hu.mrecWords m]
      exact Tab.get_put_self _ _ _ _
  case scan =>
    intro hserve
    obtain ⟨u, hu, hread⟩ := State.regRead_of_serves (r := scanReg) (by decide) (by decide) (by decide) hserve
    rw [State.readReg_scan] at hread
    exact ⟨_, congrArg Host.Outcome.next hread, rfl, congrArg (fun n => [n % 2 ^ 32]) (hu.scanWord m)⟩
  case bank =>
    intro c r a hserve haddr hnone hc
    obtain ⟨rfl, rfl⟩ : bankLowReg = r ∧ bankLowReg.addr c = a := by
      rw [show regAddr RN.CNT_Bc_LO c = some (bankLowReg, bankLowReg.addr c) from
        congrArg (Option.map _) (find_of_id bankLowReg_mem)] at haddr
      exact Prod.mk.inj (Option.some.inj haddr)
    obtain ⟨u, hu, hread⟩ := State.regRead_of_serves bankLowReg_mem (Nat.zero_le _)
      (by rw [show bankLowReg.first + bankLowReg.count = 16384 from rfl]; exact c.isLt) hserve
    rw [State.readReg_bankLow] at hread
    have hcycle := hu.bankCycle c
    have hshown := hcycle.bankShown
    have hheld : (((u.bankCycle c).chainHeld.get m {}).find (bankLowReg.addr c)) = none := by
      rw [← hnone]
      obtain ⟨x, rfl⟩ := hu.regs
      unfold State.bankCycle State.someCycle State.setCycle
      repeat' split
      all_goals rfl
    have hhigh : bankLowReg.addr c + 4 = bankHighReg.addr c := by rw [bankLowReg_addr, bankHighReg_addr]; omega
    have hnext : bankLowReg.addr c + 16 = bankLowReg.addr (c.val + 1) := by rw [bankLowReg_addr, bankLowReg_addr]; omega
    obtain ⟨hword, hlatch, hchain⟩ := State.readBankLow_spec hheld
    rw [hhigh, State.wordAt_bankHigh _ _ c.isLt, hshown] at hlatch
    rw [hnext, State.wordAt_bankLow _ _ (by omega), hshown] at hchain
    rw [State.wordAt_bankLow _ _ c.isLt, hshown] at hword
    refine ⟨_, congrArg Host.Outcome.next hread, ⟨rfl, congrArg (fun n => [n]) hword⟩, ?_, fun hflag => ?_⟩
    · rw [hhigh]
      exact hlatch
    · rw [hnext]
      refine hchain ?_
      rw [hcycle.flag _ (by decide), ← hflag]
      exact State.flag_of_fld (s.fld_bankCycle _ _ (by decide))
  case shown =>
    intro c hchain
    refine ⟨fun h1 h2 => ⟨State.bankCycle_of_unchained hchain (State.bankTakes_false (by decide) h1), ?_⟩, fun h1 => ?_⟩
    · have hcycles : s.bankTakes 0xE 0 c = false := State.bankTakes_false (by decide) h1
      have hticks : (s.plumb.tickDue.isSome && s.bankTakes 0xD 0 c) = false := by
        obtain h | h := h2
        · rw [State.bankTakes_false (by decide) h, Bool.and_false]
        · rw [h]
          rfl
      rw [State.bankShown_of_unchained hchain]
      unfold State.bankDue State.cyclesDue
      rw [hcycles, hticks]
      rfl
    · have hcycles : s.bankTakes 0xE 0 c = true := (s.bankTakes_iff (by decide) 0 c).mpr ⟨h1, hchain⟩
      have hticks : s.bankTakes 0xD 0 c = false := State.bankTakes_false (by decide) (by rw [h1]; decide)
      rw [State.bankShown_of_unchained hchain]
      unfold State.bankDue State.cyclesDue
      rw [hcycles, hticks, Bool.and_false]
      rfl
  case peg =>
    intro hserve
    obtain ⟨u, hu, hread⟩ := State.regRead_of_serves (r := pegRecReg) (by decide) (by decide) (by decide) hserve
    rw [State.readReg_pegRec] at hread
    refine ⟨_, congrArg Host.Outcome.next hread, ⟨rfl, ?_⟩, ?_, ?_⟩
    · rw [← hu.pegs]
      rfl
    · rw [← hu.pegs]
      exact Tab.get_put_self _ _ _ _
    · rw [← hu.pegs]
      rfl

end Sys2Proof.Machine
end

section
/-! O31: accesses that fail (R7, R374, R406, R412). -/

namespace Sys2Proof.Machine

/-- An address of the staging window that is no multiple of 4. -/
def oddStaging : BitVec 40 := 0x0110000001

theorem place_oddStaging : place oddStaging.toNat = .staging 1 := by decide

theorem judge_oddStaging (s : State) : s.judge 0 oddStaging.toNat false false = .ok := by
  unfold State.judge
  rw [place_oddStaging]
  rfl

/-- A read of the staging window at an address that is not aligned ends at the default target (R7, R209). -/
theorem readPriv_oddStaging (s : State) : (s.readPriv 0 oddStaging.toNat false).resp.status = .error := by
  unfold State.readPriv
  rw [judge_oddStaging, place_oddStaging]
  rfl

theorem scratchRead_oddStaging (s : State) : s.scratchRead 0 (.priv oddStaging) false = some (oddStaging.toNat, false) := by
  unfold State.scratchRead State.viewAddr
  dsimp only
  rw [judge_oddStaging, place_oddStaging]
  rfl

/-- Refutes O31: joiner 0 reads the staging window at the odd address 0x110000001. The window decodes it, so the read counts as one of a scratchpad,
but the window serves aligned words only (R7): behind the corrected single-bit error it still ends at the default target, with an error and no
word. -/
theorem not_accessesThatFail : ¬ Obligations.AccessesThatFail := by
  unfold Obligations.AccessesThatFail
  intro h
  obtain ⟨-, -, hsingle, -⟩ := h 0 (.priv oddStaging) {}
  obtain ⟨t, ht, ⟨hok, -⟩, -⟩ := hsingle oddStaging.toNat false (scratchRead_oddStaging _) (fun off hp => by
    rw [place_oddStaging] at hp
    cases hp)
  have hexec : exec (.defaultAccess 0 (.priv oddStaging) false .single) {} =
      .next (((({} : State).eccCorrected).readPriv 0 oddStaging.toNat false)) := by
    show Host.Outcome.next _ = _
    dsimp only
    rw [show ((0 : Master) : Nat) = 0 from rfl, scratchRead_oddStaging]
  rw [hexec] at ht
  cases ht
  rw [readPriv_oddStaging] at hok
  cases hok

end Sys2Proof.Machine
end

section
/-! O32: mailbox locks (R407, R414, R415). -/

namespace Sys2Proof.Machine

/-- Joiner 0 holds lock 0. -/
def holdsLock : State := ({} : State).setByte 0x102C0000 1

/-- A write burst of which one beat, that of locks 0 to 3, has been accepted: it leaves lock 0 the word 0. -/
def freeingBurst : Burst := { addr := 0x102C0000, write := true, target := 5, beats := [{ data := 0, be := 0xF }] }

theorem holdsLock_word : holdsLock.lockWord 0 = 1 := by decide +kernel

/-- `s` as the reset of master `m` leaves it that cuts burst `x` (R407, R415). -/
def State.resetCuts (s : State) (m : Nat) (x : Burst) : State :=
  ((((((s.endBurst m x).breakLocks m).setFld R.MTX_ABORT_ADDR 0 x.addr.toNat).setFld R.MTX_ABORT_HI_MASTER 0 m).setFld R.MTX_ABORT_HI_TARGET 0
    x.target.val).setFlag R.MTX_ABORT_HI_KIND 0 x.write |>.setFld R.MTX_ABORT_HI_BEATS 0 (if x.write then x.beats.length else 0)).latchFor
    R.MTX_EVT_RESET_ABORT m

theorem exec_masterReset_some {m : Master} (hm : ¬ 8 ≤ m.val) (x : Burst) (s : State) :
    exec (.masterReset m (some x)) s = .next (s.resetCuts m.val x) := congrArg Host.Outcome.next (if_neg hm)

theorem resetFreed_latched : (holdsLock.resetCuts 0 freeingBurst).latched R.MEM_EVT_LOCK_BREAK = false := by decide +kernel

/-- Refutes O32: the burst that the reset of joiner 0 cuts has had one beat accepted, which writes 0 to the lock that joiner 0 holds. The beat frees it
(R407, R414), so the reset finds no lock to break and latches no LOCK_BREAK, though joiner 0 held the lock before the reset. -/
theorem not_locksAreHeld : ¬ Obligations.LocksAreHeld := by
  unfold Obligations.LocksAreHeld
  intro h
  obtain ⟨-, -, -, -, -, -, -, -, hreset⟩ := h 0 0 holdsLock (State.memWf_setByte (by show Memory.wf _ _ = true; rfl) _ _)
  obtain ⟨t, ht, -, hbreak, -⟩ := hreset (by decide) (some freeingBurst)
  rw [exec_masterReset_some (by decide)] at ht
  obtain rfl := Host.Outcome.next.inj ht
  exact absurd ((hbreak holdsLock_word).symm.trans resetFreed_latched) (by decide)

end Sys2Proof.Machine
end

section
/-! O33: SPI commands (R377 to R379). -/

namespace Sys2Proof.Machine

/-! ### Runs of accesses (R378) -/

/-- The state before access `k` of a run that begins at `s`. -/
def State.runTo (s : State) (access : State → Nat → State) : Nat → State
  | 0 => s
  | k + 1 => access (s.runTo access k) k

/-- The first status that is not OK of `n` accesses, as a run of them keeps it. -/
def firstStatus (status : Nat → Status) : Nat → Status
  | 0 => .ok
  | k + 1 => if firstStatus status k = .ok then status k else firstStatus status k

theorem firstStatus_of_ok {status : Nat → Status} : ∀ {n : Nat}, (∀ k, k < n → status k = .ok) → firstStatus status n = .ok
  | 0, _ => rfl
  | n + 1, h => by
    rw [firstStatus, if_pos (firstStatus_of_ok (fun k hk => h k (Nat.lt_succ_of_lt hk)))]
    exact h n (Nat.lt_succ_self n)

theorem firstStatus_of_first {status : Nat → Status} {k n : Nat} (hk : k < n) (hbefore : ∀ j, j < k → status j = .ok) (hbad : status k ≠ .ok) :
    firstStatus status n = status k := by
  induction n with
  | zero => omega
  | succ n ih =>
    rw [firstStatus]
    obtain h | rfl := Nat.lt_or_eq_of_le (Nat.le_of_lt_succ hk)
    · rw [ih h, if_neg hbad]
    · rw [if_pos (firstStatus_of_ok hbefore)]

/-- The word that a run of reads returns for a read that leaves `s`: 0 where it failed. -/
def State.wordRead (s : State) : Nat := if s.resp.status = .ok then s.resp.words.getD 0 0 else 0

theorem State.readRun_range (s : State) (read : State → Nat → State) (g : Nat → Nat) (n : Nat) :
    s.readRun read ((List.range n).map g)
      = (s.runTo (fun t k => read t (g k)) n).answer (firstStatus (fun k => (s.runTo (fun t k => read t (g k)) (k + 1)).resp.status) n)
        ((List.range n).map (fun k => (s.runTo (fun t k => read t (g k)) (k + 1)).wordRead)) := by
  unfold State.readRun
  dsimp only
  rw [List.foldl_map]
  suffices h : ∀ n, (List.range n).foldl (fun (acc : State × Status × List Nat) (k : Nat) =>
      (read acc.1 (g k), if acc.2.1 = .ok then (read acc.1 (g k)).resp.status else acc.2.1,
        acc.2.2 ++ [if (read acc.1 (g k)).resp.status = .ok then (read acc.1 (g k)).resp.words.getD 0 0 else 0])) (s, .ok, [])
      = (s.runTo (fun t k => read t (g k)) n, firstStatus (fun k => (s.runTo (fun t k => read t (g k)) (k + 1)).resp.status) n,
        (List.range n).map (fun k => (s.runTo (fun t k => read t (g k)) (k + 1)).wordRead)) by
    rw [h n]
  intro n
  induction n with
  | zero => rfl
  | succ n ih =>
    rw [List.range_succ, List.foldl_append, ih, List.map_append]
    rfl

theorem State.writeRun_range (s : State) (g v : Nat → Nat) (n : Nat) :
    s.writeRun ((List.range n).map (fun k => (g k, v k)))
      = (s.runTo (fun t k => t.hostWrite spiMaster (g k) (v k)) n,
        firstStatus (fun k => (s.runTo (fun t k => t.hostWrite spiMaster (g k) (v k)) (k + 1)).resp.status) n) := by
  unfold State.writeRun
  rw [List.foldl_map]
  induction n with
  | zero => rfl
  | succ n ih =>
    rw [List.range_succ, List.foldl_append, ih]
    rfl

theorem zip_runAddrs (width a len : Nat) {ws : List Word} (h : len < ws.length) :
    (runAddrs width a len).zip (ws.map BitVec.toNat) = (List.range (len + 1)).map (fun k => ((a + 4 * k) % 2 ^ width, (ws.getD k 0).toNat)) := by
  unfold runAddrs
  refine List.ext_getElem ?_ (fun i h1 h2 => ?_)
  · simp
    omega
  · have hi : i < ws.length := by
      simp at h2
      omega
    simp [List.getD_eq_getElem?_getD, List.getElem?_eq_getElem hi]

theorem State.spiRead_served {s : State} (hs : s.spiServed = true) {a : Nat} (hal : a % 4 = 0) (len width : Nat) (read : State → Nat → State) :
    s.spiRead a len width read = (s.readRun read (runAddrs width a len)).spiAnswer (s.readRun read (runAddrs width a len)).resp.status
      (s.readRun read (runAddrs width a len)).resp.words := by
  unfold State.spiRead
  rw [hs, if_neg (by decide), if_neg (not_not.mpr hal)]

theorem getD_succ_range_map (x : Nat) (f : Nat → Nat) {n k : Nat} (hk : k < n) : (x :: (List.range n).map f).getD (k + 1) 0 = f k := by
  rw [List.getD_cons_succ, List.getD_eq_getElem?_getD, List.getElem?_eq_getElem (by simpa using hk)]
  simp

/-- Settles O33. -/
theorem spiCommands : Obligations.SpiCommands := by
  unfold Obligations.SpiCommands
  intro s len
  refine ⟨?read, ?uread, ?write, ?short, ?format, ?id, ?status, ?early, ⟨_, rfl, rfl, rfl⟩, ⟨_, rfl, rfl, rfl⟩⟩
  case read =>
    intro a hs hal
    refine ⟨s.runTo (fun t k => t.readPriv spiMaster ((a.toNat + 4 * k) % 2 ^ 40) false), rfl, fun _ _ => rfl, ?_⟩
    have hexec : exec (.read a len) s = .next _ := congrArg Host.Outcome.next (State.spiRead_served hs hal len.val 40 _)
    rw [runAddrs, State.readRun_range] at hexec
    refine ⟨_, hexec, ?_, rfl, fun k hk => getD_succ_range_map _ _ (Nat.lt_succ_of_le hk), fun h => ?_, fun k hk hbefore hbad => ?_⟩
    · show List.length (_ :: List.map _ _) = _
      simp
    · exact firstStatus_of_ok (fun k hk => h k (Nat.le_of_lt_succ hk))
    · exact firstStatus_of_first (Nat.lt_succ_of_le hk) hbefore hbad
  case uread =>
    intro x hs hal
    refine ⟨s.runTo (fun t k => t.readOpen spiMaster ((x.toNat + 4 * k) % 2 ^ 24)), rfl, fun _ _ => rfl, ?_⟩
    have hexec : exec (.uread x len) s = .next _ := congrArg Host.Outcome.next (State.spiRead_served hs hal len.val 24 _)
    rw [runAddrs, State.readRun_range] at hexec
    refine ⟨_, hexec, ?_, fun k hk => getD_succ_range_map _ _ (Nat.lt_succ_of_le hk)⟩
    show List.length (_ :: List.map _ _) = _
    simp
  case write =>
    intro a ws hs hal hlen
    refine ⟨s.runTo (fun t k => t.hostWrite spiMaster ((a.toNat + 4 * k) % 2 ^ 40) (ws.getD k 0).toNat), rfl, fun _ _ => rfl, ?_⟩
    have hexec : exec (.write a len ws) s = .next ((s.writeRun ((runAddrs 40 a.toNat len.val).zip (ws.map BitVec.toNat))).1.spiAnswer
        (s.writeRun ((runAddrs 40 a.toNat len.val).zip (ws.map BitVec.toNat))).2 []) := by
      refine congrArg Host.Outcome.next ?_
      rw [hs, if_neg (by decide), if_neg (by omega), if_neg (not_not.mpr hal)]
    rw [zip_runAddrs 40 a.toNat len.val hlen, State.writeRun_range] at hexec
    refine ⟨_, hexec, rfl, rfl, fun h => ?_, fun k hk hbefore hbad => ?_⟩
    · exact firstStatus_of_ok (fun k hk => h k (Nat.le_of_lt_succ hk))
    · exact firstStatus_of_first (Nat.lt_succ_of_le hk) hbefore hbad
  case short =>
    intro a ws hs hlen
    have hexec : exec (.write a len ws) s = .next (s.answer .none []) := by
      refine congrArg Host.Outcome.next ?_
      rw [hs, if_neg (by decide), if_pos (by omega)]
    exact ⟨_, hexec, rfl, rfl⟩
  case format =>
    intro a hs hal
    have hexec : exec (.read a len) s = .next (s.spiAnswer .format (List.replicate (len.val + 1) 0)) := by
      refine congrArg Host.Outcome.next ?_
      unfold State.spiRead
      rw [hs, if_neg (by decide), if_pos hal]
    exact ⟨_, hexec, rfl, rfl, rfl⟩
  case id =>
    intro hs
    exact ⟨_, congrArg Host.Outcome.next (if_neg (by rw [hs]; decide)), rfl, rfl⟩
  case status =>
    intro hs
    exact ⟨_, congrArg Host.Outcome.next (if_neg (by rw [hs]; decide)), rfl, rfl⟩
  case early =>
    intro a ws hs
    have hno : (!s.spiServed) = true := by rw [hs]; rfl
    exact ⟨⟨_, congrArg Host.Outcome.next (if_pos hno), rfl, rfl, rfl⟩, ⟨_, congrArg Host.Outcome.next (if_pos hno), rfl, rfl, rfl⟩,
      ⟨_, congrArg Host.Outcome.next (if_pos hno), rfl⟩, ⟨_, congrArg Host.Outcome.next (if_pos hno), rfl⟩⟩

end Sys2Proof.Machine
end

section
/-! O34: the mate tunnel (R380, R483). -/

namespace Sys2Proof.Machine

/-- MGT_TUN_CTRL in the register table. -/
def tunCtrlReg : Reg :=
  ⟨RN.MGT_TUN_CTRL, 0x2005c, 0, 1, 0x0, .single, [⟨R.MGT_TUN_CTRL_GO, 0, 0, 1⟩, ⟨R.MGT_TUN_CTRL_WRITE, 0, 1, 1⟩, ⟨R.MGT_TUN_CTRL_UNPRIV, 0, 2, 1⟩]⟩

theorem State.writeEffect_tunCtrl (s old : State) (m i w : Nat) : s.writeEffect old m RN.MGT_TUN_CTRL i w none = s.tunnelCtrl w := rfl

/-- An accepted GO acts behind the parked path. -/
theorem exec_tunnelGo {m : Master} {s : State} (ha : s.accepts m RN.MGT_TUN_CTRL 0 = true) (w : Word) :
    ∃ u, s.Parked u ∧ exec (.tunnelGo m w) s = .next (u.tunnelCtrl (putBits w.toNat 0 1 1)).completed := by
  obtain ⟨u, hu, hw⟩ := State.regWrite_unjournalled (r := tunCtrlReg) (by decide) (by decide) (by decide) (by decide) (by decide) (by decide) ha
    (putBits w.toNat 0 1 1)
  exact ⟨u, hu, congrArg Host.Outcome.next (hw.trans (congrArg State.completed (State.writeEffect_tunCtrl _ _ _ _ _)))⟩

theorem State.Parked.liveMates {s u : State} (h : s.Parked u) : u.liveMates = s.liveMates := by
  unfold State.liveMates State.inService State.fit
  refine List.filter_congr (fun n _ => ?_)
  rw [h.fld _ _ (by decide)]

theorem bit_go (w : Nat) : bit (putBits w 0 1 1) 0 = 1 := bit_putBits_one w 0

theorem State.completed_tunnel (s : State) : s.completed.tunnel = s.tunnel := by
  obtain ⟨x, y, h⟩ := s.completed_same
  rw [h]

/-- The end of a request (R380). -/
theorem State.tunnelEnd_spec (s : State) {result : Nat} (h : result < 8) : (s.tunnelEnd result).tunnel = none
    ∧ (s.tunnelEnd result).fld R.MGT_TUN_STAT_STATE 0 = tunDone ∧ (s.tunnelEnd result).fld R.MGT_TUN_STAT_RESULT 0 = result
    ∧ (s.tunnelEnd result).fld R.MGT_TUN_DATA_DATA 0 = s.fld R.MGT_TUN_DATA_DATA 0
    ∧ if result = 0 then (s.tunnelEnd result).latched R.MGT_EVT_TUN_DONE = true else (s.tunnelEnd result).latched R.MGT_EVT_TUN_FAIL = true := by
  have hfld : ∀ f : Fld, f.id ≠ R.MGT_EVT.id → (s.tunnelEnd result).fld f 0
      = (({ s with tunnel := none }.setFld R.MGT_TUN_STAT_STATE 0 tunDone).setFld R.MGT_TUN_STAT_RESULT 0 result).fld f 0 := fun f hf => by
    unfold State.tunnelEnd State.latchFor
    split <;> exact State.fld_latchAs_ne _ _ _ _ _ _ hf
  refine ⟨?_, ?_, ?_, ?_, ?_⟩
  · unfold State.tunnelEnd
    rw [State.latchFor_tunnel]
    rfl
  · rw [hfld _ (by decide), State.fld_setFld_ne _ _ _ _ (by decide), State.fld_setFld_self]
    rfl
  · rw [hfld _ (by decide), State.fld_setFld_self]
    exact Nat.mod_eq_of_lt h
  · rw [hfld _ (by decide), State.fld_setFld_ne _ _ _ _ (by decide), State.fld_setFld_ne _ _ _ _ (by decide)]
    rfl
  · unfold State.tunnelEnd State.latchFor
    split
    · exact State.latched_latchAs _ _ _ _ _ (by decide)
    · exact State.latched_latchAs _ _ _ _ _ (by decide)

/-- Settles O34. -/
theorem theTunnel : Obligations.TheTunnel := by
  unfold Obligations.TheTunnel
  intro m w s
  refine ⟨?sent, ?alone, ?busy, ?answered, ?late, ?locked, ?requests⟩
  case sent =>
    intro ha hstate hmates
    obtain ⟨u, hu, hexec⟩ := exec_tunnelGo ha w
    have hgo : u.tunnelCtrl (putBits w.toNat 0 1 1) = { u with tunnel := some (u.tunnelReq (putBits w.toNat 0 1 1)) }.setFld
        R.MGT_TUN_STAT_STATE 0 tunBusy := by
      unfold State.tunnelCtrl
      rw [if_neg (by rw [bit_go, hu.fld _ _ (by decide)]; simpa using hstate), if_neg (by rw [hu.liveMates]; simpa using hmates)]
    rw [hgo] at hexec
    refine ⟨_, hexec, State.completed_status _, ?_, ?_⟩
    · rw [State.completed_fld, State.fld_setFld_self]
      rfl
    · rw [State.completed_tunnel]
      show some (u.tunnelReq _) = _
      unfold State.tunnelReq
      rw [hu.fld _ _ (by decide), hu.fld _ _ (by decide), bit_putBits_ne (by decide : 1 ≠ 0), bit_putBits_ne (by decide : 2 ≠ 0), hu.frame]
  case alone =>
    intro ha hstate hmates
    obtain ⟨u, hu, hexec⟩ := exec_tunnelGo ha w
    have hgo : u.tunnelCtrl (putBits w.toNat 0 1 1) = u.tunnelEnd 1 := by
      unfold State.tunnelCtrl
      rw [if_neg (by rw [bit_go, hu.fld _ _ (by decide)]; simpa using hstate), if_pos (by rw [hu.liveMates, hmates]; rfl)]
    rw [hgo] at hexec
    obtain ⟨-, hdone, hresult, -, hlatched⟩ := u.tunnelEnd_spec (result := 1) (by decide)
    exact ⟨_, hexec, (State.completed_fld _ _ _).trans hdone, (State.completed_fld _ _ _).trans hresult, (State.completed_latched _ _ _).trans hlatched⟩
  case busy =>
    intro ha hstate
    obtain ⟨u, hu, hexec⟩ := exec_tunnelGo ha w
    have hgo : u.tunnelCtrl (putBits w.toNat 0 1 1) = u := if_pos (by rw [hu.fld _ _ (by decide), hstate]; simp)
    rw [hgo] at hexec
    refine ⟨_, hexec, ?_, ?_⟩
    · rw [State.completed_tunnel]
      obtain ⟨x, rfl⟩ := hu.regs
      rfl
    · rw [State.completed_fld, hu.fld _ _ (by decide), hstate]
  case answered =>
    intro q r d hq hsince
    have hexec : exec (.tunnelDone (some (r, d))) s
        = .next ((if q.write then s else s.setFld R.MGT_TUN_DATA_DATA 0 d.toNat).tunnelEnd r.val) := by
      refine congrArg Host.Outcome.next ?_
      rw [hq]
      exact if_neg (by simp [State.tunnelLate, hsince])
    obtain ⟨hnone, hdone, hresult, hdata, hlatched⟩ :=
      (if q.write then s else s.setFld R.MGT_TUN_DATA_DATA 0 d.toNat).tunnelEnd_spec (result := r.val) (by omega)
    refine ⟨_, hexec, hnone, hdone, hresult, fun hread => ?_, hlatched⟩
    rw [hdata, hread, if_neg Bool.false_ne_true, State.fld_setFld_self]
    exact Nat.mod_eq_of_lt d.isLt
  case late =>
    intro q answer hq hsince
    have hlate : s.tunnelLate q = true := by simp [State.tunnelLate, hsince]
    have hexec : exec (.tunnelDone answer) s = .next (s.tunnelEnd 5) := by
      refine congrArg Host.Outcome.next ?_
      rw [hq]
      cases answer with
      | none => exact if_pos hlate
      | some x => exact if_pos hlate
    obtain ⟨hnone, -, hresult, hdata, hlatched⟩ := s.tunnelEnd_spec (result := 5) (by decide)
    exact ⟨_, hexec, hnone, hresult, hlatched, hdata⟩
  case locked =>
    intro unpriv write a hlocked
    exact ⟨_, congrArg Host.Outcome.next (if_pos hlocked), rfl, rfl, rfl⟩
  case requests =>
    intro a hlocked
    have hopen : ¬ s.flag R.TLY_STAT_LOCKED = true := by rw [hlocked]; decide
    have hoffset : (a.setWidth 24).toNat = a.toNat % 2 ^ 24 := BitVec.toNat_setWidth _ _
    refine ⟨⟨_, congrArg Host.Outcome.next (if_neg hopen), rfl⟩, ⟨_, congrArg Host.Outcome.next (if_neg hopen), rfl⟩,
      ⟨_, congrArg Host.Outcome.next (if_neg hopen), ?_⟩, ⟨_, congrArg Host.Outcome.next (if_neg hopen), ?_⟩⟩
    · exact congrArg (fun x => Host.Outcome.next (s.writeOpen 7 x w.toNat)) hoffset
    · exact congrArg (fun x => Host.Outcome.next (s.readOpen 7 x)) hoffset

end Sys2Proof.Machine
end

section
/-! O35: latency queries (R37, R42). -/

namespace Sys2Proof.Machine

/-- DEV_LATQ_CTRL in the register table. -/
def latqCtrlReg : Reg :=
  ⟨RN.DEV_LATQ_CTRL, 0x210, 0, 1, 0x0, .single, [⟨R.DEV_LATQ_CTRL_SLOT, 0, 0, 25⟩, ⟨R.DEV_LATQ_CTRL_SIDE, 0, 28, 1⟩, ⟨R.DEV_LATQ_CTRL_GO, 0, 31, 1⟩]⟩

theorem State.writeEffect_latqCtrl (s old : State) (m i w : Nat) : s.writeEffect old m RN.DEV_LATQ_CTRL i w none = s.latqCtrl m w := rfl

/-- An accepted GO takes its fields and acts. -/
theorem exec_latqGo {m : Master} {s : State} (ha : s.accepts m RN.DEV_LATQ_CTRL 0 = true) (w : Word) :
    exec (.latqGo m w) s = .next ((s.taken m latqCtrlReg 0 (putBits w.toNat 31 1 1)).latqCtrl m (putBits w.toNat 31 1 1)).completed := by
  have hw := State.regWrite_accepted (r := latqCtrlReg) (by decide) (by decide) (by decide) (by decide) ha (putBits w.toNat 31 1 1)
  rw [State.journalWrite_of_unjournalled (by decide)] at hw
  exact congrArg Host.Outcome.next (hw.trans (congrArg State.completed (State.writeEffect_latqCtrl _ _ _ _ _)))

theorem bit_latqGo (w : Nat) : bit (putBits w 31 1 1) 31 = 1 := bit_putBits_one w 31

/-- While a query runs, a write with GO = 1 stores nothing (R42). -/
theorem State.taken_latqBusy {s : State} (h : s.fld R.DEV_LATQ_STATUS_STATE = latqBusy) (m w : Nat) :
    s.taken m latqCtrlReg 0 (putBits w 31 1 1) = s.park m (.reg (latqCtrlReg.addr 0)) := by
  have hno : (s.park m (.reg (latqCtrlReg.addr 0))).storesFields latqCtrlReg.id (putBits w 31 1 1) = false := by
    unfold State.storesFields
    rw [bit_latqGo, State.fld_park_ne _ _ _ _ (by decide), h]
    rfl
  unfold State.taken State.storeWord
  rw [hno]
  rfl

/-- A query starts where none is in progress (R42). -/
theorem State.latqCtrl_of_idle {s : State} (h : s.fld R.DEV_LATQ_STATUS_STATE ≠ latqBusy) (m w : Nat) : s.latqCtrl m (putBits w 31 1 1)
    = ((((s.setFld R.DEV_LATQ_STATUS_STATE 0 latqBusy).setFld R.DEV_LATQ_STATUS_MASTER 0 m).addFld R.DEV_LATQ_STATUS_QSEQ 0 1).setFld
      R.DEV_LATQ_FRAME_FRAME 0 (s.frame + 1)) := by
  unfold State.latqCtrl
  rw [if_neg (by rw [bit_latqGo]; simpa using h)]

/-- A query that finds no source ends with its result, and L reads 0. -/
theorem State.latqNone_spec (s : State) (out : Nat) {result : Nat} (h : result < 16) :
    (s.latqNone out result).fld R.DEV_LATQ_STATUS_RESULT 0 = result ∧ (s.latqNone out result).fld R.DEV_LATQ_LAT_LAT 0 = 0
      ∧ (s.latqNone out result).fld R.DEV_LATQ_STATUS_STATE 0 = s.fld R.DEV_LATQ_STATUS_STATE 0 := by
  unfold State.latqNone
  refine ⟨?_, ?_, ?_⟩
  · simp (disch := decide) only [State.fld_setFlag_ne, State.fld_setFld_ne, State.fld_setFld_self]
    exact Nat.mod_eq_of_lt h
  · simp (disch := decide) only [State.fld_setFlag_ne, State.fld_setFld_ne, State.fld_setFld_self]
    rfl
  · simp (disch := decide) only [State.fld_setFlag_ne, State.fld_setFld_ne]
    rfl

/-- The result code of a query that finds source `src` for output slot `out` (R42). -/
def State.latqCode (s : State) (out src : Nat) : Nat :=
  if s.inService (s.carrier (portOfAddr src)) = false then 3
  else if s.flag R.LN_FRM_CFG_SYNC (portOfAddr src) = false then 4 else if s.outUp out = false then 5 else 0

theorem State.latqCode_lt (s : State) (out src : Nat) : s.latqCode out src < 16 := by
  unfold State.latqCode
  repeat' split
  all_goals omega

/-- A query that finds source `src` for `out` ends with its code and L (R42). -/
theorem State.latqAnswer_spec (s : State) (sc : Schedule) (out src : Nat) :
    (s.latqAnswer sc out src).fld R.DEV_LATQ_STATUS_RESULT 0 = s.latqCode out src
      ∧ (s.latqAnswer sc out src).fld R.DEV_LATQ_LAT_LAT 0 = toWord 40 (latencyOf (s.phiOf src) (s.psiOf out) (sc.deskew src) src out)
      ∧ (s.latqAnswer sc out src).fld R.DEV_LATQ_STATUS_STATE 0 = s.fld R.DEV_LATQ_STATUS_STATE 0 := by
  have hlat : toWord 40 (latencyOf (s.phiOf src) (s.psiOf out) (sc.deskew src) src out) < 2 ^ 40 := toWord_lt _ _
  unfold State.latqAnswer State.setIfld
  dsimp only
  refine ⟨?_, ?_, ?_⟩
  · simp (disch := decide) only [State.fld_setFlag_ne, State.fld_setFld_ne, State.fld_setFld_self]
    rw [show (if (!s.inService (s.carrier (portOfAddr src))) = true then 3 else if (!s.flag R.LN_FRM_CFG_SYNC (portOfAddr src)) = true then 4
      else if (!s.outUp out) = true then 5 else 0) = s.latqCode out src by simp only [Bool.not_eq_true']; rfl]
    exact Nat.mod_eq_of_lt (s.latqCode_lt out src)
  · simp (disch := decide) only [State.fld_setFlag_ne, State.fld_setFld_ne, State.fld_setFld_self]
    exact Nat.mod_eq_of_lt hlat
  · simp (disch := decide) only [State.fld_setFlag_ne, State.fld_setFld_ne]

/-- What a query answers does not depend on its own state. -/
theorem State.latq_setState (s : State) (v out src : Nat) : (s.setFld R.DEV_LATQ_STATUS_STATE 0 v).phiOf src = s.phiOf src
    ∧ (s.setFld R.DEV_LATQ_STATUS_STATE 0 v).psiOf out = s.psiOf out
    ∧ (s.setFld R.DEV_LATQ_STATUS_STATE 0 v).latqCode out src = s.latqCode out src := by
  have hphi : (s.setFld R.DEV_LATQ_STATUS_STATE 0 v).phiOf src = s.phiOf src := by
    unfold State.phiOf State.ifld
    rw [State.fld_setFld_ne _ _ _ _ (by decide)]
  have hcarrier : ∀ p, (s.setFld R.DEV_LATQ_STATUS_STATE 0 v).carrier p = s.carrier p := fun p => by
    unfold State.carrier
    rw [State.flag_setFld_ne _ _ _ _ (by decide)]
  have hup : (s.setFld R.DEV_LATQ_STATUS_STATE 0 v).outUp out = s.outUp out := by
    unfold State.outUp
    rw [hcarrier, State.flag_setFld_ne _ _ _ _ (by decide)]
  refine ⟨hphi, ?_, ?_⟩
  · unfold State.psiOf State.ifld
    rw [hup, hcarrier, State.fld_setFld_ne _ _ _ _ (by decide)]
  · unfold State.latqCode State.inService State.fit
    rw [hup, hcarrier, State.fld_setFld_ne _ _ _ _ (by decide), State.flag_setFld_ne _ _ _ _ (by decide)]

/-- Settles O35. -/
theorem latencyQueries : Obligations.LatencyQueries := by
  unfold Obligations.LatencyQueries
  intro m w s
  refine ⟨?go, ?busy, ?done⟩
  case go =>
    intro ha hidle
    have hidle' : (s.taken m latqCtrlReg 0 (putBits w.toNat 31 1 1)).fld R.DEV_LATQ_STATUS_STATE ≠ latqBusy := by
      rw [State.fld_taken _ _ _ _ _ _ (by decide) (by decide)]
      exact hidle
    have hframe : (s.taken m latqCtrlReg 0 (putBits w.toNat 31 1 1)).frame = s.frame := State.fld_taken _ _ _ _ _ _ (by decide) (by decide)
    refine ⟨_, exec_latqGo ha w, State.completed_status _, ?_, ?_, ?_, ?_⟩
    all_goals rw [State.completed_fld, State.latqCtrl_of_idle hidle']
    · unfold State.addFld
      rw [if_neg (by decide)]
      simp (disch := decide) only [State.fld_setFld_ne, State.fld_setFld_self]
      rfl
    · unfold State.addFld
      rw [if_neg (by decide)]
      simp (disch := decide) only [State.fld_setFld_ne, State.fld_setFld_self]
    · unfold State.addFld
      rw [if_neg (by decide)]
      simp (disch := decide) only [State.fld_setFld_ne, State.fld_setFld_self]
      rw [State.fld_taken _ _ _ _ _ _ (by decide) (by decide)]
    · rw [State.fld_setFld_self, hframe]
      rfl
  case busy =>
    intro ha hbusy
    have hexec := exec_latqGo ha w
    rw [State.taken_latqBusy hbusy] at hexec
    have hsame : (s.park m (.reg (latqCtrlReg.addr 0))).latqCtrl m (putBits w.toNat 31 1 1) = s.park m (.reg (latqCtrlReg.addr 0)) :=
      if_pos (by rw [State.fld_park_ne _ _ _ _ (by decide), hbusy]; simp)
    rw [hsame] at hexec
    refine ⟨_, hexec, ?_, ?_, ?_⟩ <;> rw [State.completed_fld, State.fld_park_ne _ _ _ _ (by decide)]
  case done =>
    intro out hbusy hreached hout
    subst hout
    have hrun : ¬ (decide (s.fld R.DEV_LATQ_STATUS_STATE ≠ latqBusy) || !frameReached s.frame (s.fld R.DEV_LATQ_FRAME_FRAME)) = true := by
      simp [hbusy, hreached]
    have hdone : (s.setFld R.DEV_LATQ_STATUS_STATE 0 latqDone).fld R.DEV_LATQ_STATUS_STATE 0 = latqDone := by
      rw [State.fld_setFld_self]
      rfl
    refine ⟨fun hnone => ?_, fun r hr hside => ?_, fun r src hr hside => ?_⟩
    · have hexec : exec .latqDone s = .next ((s.setFld R.DEV_LATQ_STATUS_STATE 0 latqDone).latqNone (s.fld R.DEV_LATQ_CTRL_SLOT) 1) :=
        (congrArg Host.Outcome.next (if_neg hrun)).trans (by
          dsimp only
          rw [hnone])
      obtain ⟨hresult, hlat, hstate⟩ := (s.setFld R.DEV_LATQ_STATUS_STATE 0 latqDone).latqNone_spec (s.fld R.DEV_LATQ_CTRL_SLOT) (result := 1)
        (by decide)
      exact ⟨_, hexec, hstate.trans hdone, hresult, hlat⟩
    · have hexec : exec .latqDone s = .next ((s.setFld R.DEV_LATQ_STATUS_STATE 0 latqDone).latqNone (s.fld R.DEV_LATQ_CTRL_SLOT) 2) :=
        (congrArg Host.Outcome.next (if_neg hrun)).trans (by
          dsimp only
          rw [hr]
          dsimp only
          rw [hside])
      obtain ⟨hresult, hlat, hstate⟩ := (s.setFld R.DEV_LATQ_STATUS_STATE 0 latqDone).latqNone_spec (s.fld R.DEV_LATQ_CTRL_SLOT) (result := 2)
        (by decide)
      exact ⟨_, hexec, hstate.trans hdone, hresult, hlat⟩
    · have hexec : exec .latqDone s = .next ((s.setFld R.DEV_LATQ_STATUS_STATE 0 latqDone).latqAnswer
          (s.schedAt (s.fld R.DEV_LATQ_FRAME_FRAME)) (s.fld R.DEV_LATQ_CTRL_SLOT) src) :=
        (congrArg Host.Outcome.next (if_neg hrun)).trans (by
          dsimp only
          rw [hr]
          dsimp only
          rw [hside])
      obtain ⟨hresult, hlat, hstate⟩ := (s.setFld R.DEV_LATQ_STATUS_STATE 0 latqDone).latqAnswer_spec
        (s.schedAt (s.fld R.DEV_LATQ_FRAME_FRAME)) (s.fld R.DEV_LATQ_CTRL_SLOT) src
      obtain ⟨hphi, hpsi, hcode⟩ := s.latq_setState latqDone (s.fld R.DEV_LATQ_CTRL_SLOT) src
      rw [hphi, hpsi] at hlat
      exact ⟨_, hexec, hstate.trans hdone, hlat, hresult.trans hcode⟩

end Sys2Proof.Machine
end

section
/-! O36: operations on the image slots (R364 to R367). -/

namespace Sys2Proof.Machine

/-! ### The commands of IMG_CTRL -/

/-- An accepted write of IMG_CTRL acts behind the parked path. -/
theorem State.regWrite_imgCtrl {s : State} {m : Nat} (ha : s.accepts m RN.IMG_CTRL 0 = true) (w : Nat) :
    ∃ u g, s.Parked u ∧ s.regWrite m RN.IMG_CTRL 0 w = (u.imgCtrl w g).completed :=
  ⟨_, _, s.parked_park m 0x10020, State.regWrite_IMG_CTRL_of_accepts ha w⟩

section
variable (s : State) {w : Nat} (hw : bits w 0 7 = 0) (g : SlotImage)
include hw

theorem State.imgCtrl_verify : s.imgCtrl (putBits w 1 1 1) g = s.doVerify (bit w 8) := by
  simp [State.imgCtrl, bits_putBits_command (k := 1) (by decide) hw, bit_putBits_ne (w := w) (by decide : 8 ≠ 1)]

theorem State.imgCtrl_program : s.imgCtrl (putBits w 2 1 1) g = s.doProgram (bit w 8) := by
  simp [State.imgCtrl, bits_putBits_command (k := 2) (by decide) hw, bit_putBits_ne (w := w) (by decide : 8 ≠ 2)]

theorem State.imgCtrl_recover : s.imgCtrl (putBits w 5 1 1) g = s.doRecover := by
  simp [State.imgCtrl, bits_putBits_command (k := 5) (by decide) hw]

theorem State.imgCtrl_abort : s.imgCtrl (putBits w 6 1 1) g = s.doAbort := by
  simp [State.imgCtrl, bits_putBits_command (k := 6) (by decide) hw]

end

theorem State.completed_raise (s : State) : s.completed.raise = s.raise := by
  obtain ⟨x, y, h⟩ := s.completed_same
  rw [h]

theorem State.Parked.raise {s u : State} (h : s.Parked u) : u.raise = s.raise := by
  obtain ⟨x, rfl⟩ := h.regs
  rfl

theorem State.Parked.tally {s u : State} (h : s.Parked u) : u.tally = s.tally := by
  obtain ⟨x, rfl⟩ := h.regs
  rfl

theorem State.Parked.imgBusy {s u : State} (h : s.Parked u) : u.imgBusy = s.imgBusy := by
  unfold State.imgBusy
  rw [h.fld _ _ (by decide)]

theorem State.Parked.slotRoom {s u : State} (h : s.Parked u) : u.slotRoom = s.slotRoom := by
  unfold State.slotRoom
  rw [h.fld _ _ (by decide)]

theorem State.Parked.progRange {s u : State} (h : s.Parked u) (room : Nat) : u.progRange room = s.progRange room := by
  unfold State.progRange
  rw [h.fld _ _ (by decide), h.fld _ _ (by decide), h.fld _ _ (by decide)]

theorem State.Parked.recovery {s u : State} (h : s.Parked u) : u.recovery = s.recovery := h.flag _ (by decide)

/-! ### How an operation starts (R364 to R367) -/

/-- An operation that has started is in progress, with its slot and its range. -/
theorem State.opStart_spec (s : State) {op : Nat} (hop : op < 4) (slot : Nat) : (s.opStart op slot).imgBusy = true
    ∧ (s.opStart op slot).fld R.IMG_OP_STAT_OP 0 = op ∧ (s.opStart op slot).raise.opSlot = slot
    ∧ (s.opStart op slot).raise.opSrc = s.fld R.IMG_PROG_SRC_SRC 0
    ∧ (s.opStart op slot).raise.opLen = if op = opVerify then s.slotRoom else s.fld R.IMG_PROG_LEN_LEN 0 := by
  refine ⟨?_, ?_, rfl, rfl, rfl⟩
  · have hstate : (s.opStart op slot).fld R.IMG_OP_STAT_STATE 0 = opBusy := by
      show (((((s.setFld R.IMG_OP_STAT_STATE 0 opBusy).setFld R.IMG_OP_STAT_OP 0 op).setFld R.IMG_OP_STAT_CODE 0 0)).setFld
        R.IMG_OP_STAT_PROGRESS 0 0).fld R.IMG_OP_STAT_STATE 0 = opBusy
      simp (disch := decide) only [State.fld_setFld_ne, State.fld_setFld_self]
      rfl
    unfold State.imgBusy
    rw [hstate]
    rfl
  · show (((((s.setFld R.IMG_OP_STAT_STATE 0 opBusy).setFld R.IMG_OP_STAT_OP 0 op).setFld R.IMG_OP_STAT_CODE 0 0)).setFld
        R.IMG_OP_STAT_PROGRESS 0 0).fld R.IMG_OP_STAT_OP 0 = op
    simp (disch := decide) only [State.fld_setFld_ne, State.fld_setFld_self]
    exact Nat.mod_eq_of_lt hop

/-- A write that finds an operation in progress leaves it so, with the code BUSY (R366). -/
theorem State.opClash_spec (s : State) : s.opClash.imgBusy = s.imgBusy ∧ s.opClash.fld R.IMG_OP_STAT_CODE 0 = codeBusy
    ∧ s.opClash.latched R.IMG_EVT_OP_FAIL = true ∧ s.opClash.raise = s.raise := by
  unfold State.opClash
  refine ⟨?_, ?_, State.latched_latch _ _ _ (by decide), ?_⟩
  · unfold State.imgBusy
    rw [State.fld_latch_ne _ _ _ _ (by decide), State.fld_setFld_ne _ _ _ _ (by decide)]
  · rw [State.fld_latch_ne _ _ _ _ (by decide), State.fld_setFld_self]
    rfl
  · rw [State.latch_raise]
    rfl

/-- An operation that is refused shows its code (R364). -/
theorem State.opRefuse_spec (s : State) (op : Nat) {code : Nat} (h : code < 32) : (s.opRefuse op code).fld R.IMG_OP_STAT_STATE 0 = opFailed
    ∧ (s.opRefuse op code).fld R.IMG_OP_STAT_CODE 0 = code ∧ (s.opRefuse op code).latched R.IMG_EVT_OP_FAIL = true
    ∧ ∀ k, (s.opRefuse op code).fld R.IMG_SLOTs_STAT_VALID k = s.fld R.IMG_SLOTs_STAT_VALID k := by
  unfold State.opRefuse
  refine ⟨?_, ?_, State.latched_latch _ _ _ (by decide), fun k => ?_⟩
  all_goals
    rw [State.fld_latch_ne _ _ _ _ (by decide)]
    simp (disch := decide) only [State.fld_setFld_ne, State.fld_setFld_self]
  · rfl
  · exact Nat.mod_eq_of_lt h

/-! ### A tamper response leaves the image events latched -/

theorem State.latched_stopLive {s : State} {e : Ev} (h : s.latched e = true) (he : e.reg = R.IMG_EVT) (hbit : e.bit < e.reg.width) : s.stopLive.latched e = true := by
  have hother : ∀ code, ((s.setFld R.IMG_LIVE_STAT_STATE 0 liveFailed).setFld R.IMG_LIVE_STAT_CODE 0 code).latched e = true := fun code => by
    refine State.latched_of_fld ?_ h
    rw [he, State.fld_setFld_ne _ _ _ _ (by decide), State.fld_setFld_ne _ _ _ _ (by decide)]
  unfold State.stopLive
  split
  · exact State.latched_latch_of_latched (hother _) hbit he.symm 0
  · exact h

theorem State.latched_tamperPolicy {s : State} {e : Ev} (h : s.latched e = true) (he : e.reg = R.IMG_EVT) (hbit : e.bit < e.reg.width) : s.tamperPolicy.latched e = true := by
  unfold State.tamperPolicy
  dsimp only
  split
  · refine State.latched_of_fld ?_ h
    rw [he, State.fld_lockPorts _ _ (by decide)]
  · split
    · have hfailed : ((s.lockPorts.setFlag R.TLY_STAT_HALTED 0 true).failDevice).latched e = true := by
        refine State.latched_of_fld ?_ h
        rw [he, State.fld_failDevice _ _ (by decide), State.fld_setFlag_ne _ _ _ _ (by decide), State.fld_lockPorts _ _ (by decide)]
      refine State.latched_of_fld ?_ (State.latched_stopLive hfailed he hbit)
      rw [he, State.fld_stopSubst _ _ (by decide)]
    · exact h

theorem State.latched_startResponse {s : State} {e : Ev} (h : s.latched e = true) (he : e.reg = R.IMG_EVT) (hbit : e.bit < e.reg.width)
    (mask : Nat) : (s.startResponse mask).latched e = true := by
  have hpolicy : ∀ t : State, t.fld R.IMG_EVT 0 = s.fld R.IMG_EVT 0 → (t.tamperPolicy.tamperRaising).latched e = true := fun t ht => by
    have hsame : t.latched e = true := State.latched_of_fld (by rw [he]; exact ht) h
    refine State.latched_of_fld ?_ (State.latched_tamperPolicy hsame he hbit)
    rw [he, State.fld_tamperRaising _ _ (by decide)]
  unfold State.startResponse
  dsimp only
  have hresponse := hpolicy (((((s.updGuard (fun g => { g with mask := mask, running := true })).setFld R.TLY_TAMP_STAT_LAST 0 mask).satFld
      R.TLY_TAMP_STAT_COUNT 0 1).latch R.TLY_EVT_TAMPER).abandonLc.wipe) (by
    rw [State.fld_wipe _ _ (by decide), State.fld_abandonLc _ _ (by decide), State.fld_latch_ne _ _ _ _ (by decide),
      State.fld_satFld_ne _ _ _ _ (by decide), State.fld_setFld_ne _ _ _ _ (by decide)]
    rfl)
  split
  · exact hresponse
  · refine State.latched_of_fld ?_ hresponse
    rw [he, State.fld_endResponse _ _ (by decide)]

/-- A tamper response leaves the events of the image operations latched. -/
theorem State.latched_tamperCheck {s : State} {e : Ev} (h : s.latched e = true) (he : e.reg = R.IMG_EVT) (hbit : e.bit < e.reg.width) :
    s.tamperCheck.latched e = true := by
  have hguard : ∀ f, (s.updGuard f).latched e = true := fun f => h
  unfold State.tamperCheck
  dsimp only
  split
  · exact hguard _
  · split
    · refine State.latched_of_fld ?_ h
      rw [he, State.fld_abandonLc _ _ (by decide), State.fld_setFld_ne _ _ _ _ (by decide)]
      rfl
    · exact State.latched_startResponse (hguard _) he hbit _

/-! ### How an operation ends (R364, R365) -/

/-- The fault of an image depends on the fuses, the tally and the minimum SVN alone. -/
theorem State.imageFault_congr {s t : State} (hf : t.fuses = s.fuses) (ht : t.tally = s.tally)
    (hsvn : t.fld R.IMG_SVN_MIN_MIN = s.fld R.IMG_SVN_MIN_MIN) (g : SlotImage) (room : Nat) : t.imageFault g room = s.imageFault g room := by
  have hlife : t.lifeCode = s.lifeCode := by
    unfold State.lifeCode
    rw [hf, ht]
  have hkey : t.badKey g = s.badKey g := by
    unfold State.badKey State.keyAccepted State.slotHash
    rw [hf, hlife]
  have hfw : t.badFirmware g = s.badFirmware g := by
    unfold State.badFirmware State.slotHash
    rw [hf]
  unfold State.imageFault State.checks
  rw [hlife, hkey, hfw, hsvn]

/-- The code of a fault is one of R358's. -/
theorem State.imageFault_code {s : State} {g : SlotImage} {room code sect : Nat} (h : s.imageFault g room = some (code, sect)) :
    0 < code ∧ code < 32 := by
  unfold State.imageFault at h
  obtain ⟨c, hc, hcode⟩ := Option.map_eq_some_iff.mp h
  have hmem := List.mem_of_find?_eq_some hc
  have hall : ∀ x ∈ s.checks g room, 0 < x.1 ∧ x.1 < 32 := by
    unfold State.checks
    simp only [List.mem_cons, List.not_mem_nil, or_false, forall_eq_or_imp, forall_eq]
    decide
  obtain ⟨rfl, -⟩ := Prod.mk.inj hcode
  exact hall c hmem

/-- What an operation on slot `k` leaves that has ended with `code`, before tamper sources are looked at. -/
def State.opShown (s : State) (k : Nat) (g : SlotImage) (code bytes : Nat) (e : Ev) : State := ((s.showSlot k g code).opEnd code bytes).latch e

/-- The slot and IMG_OP_STAT after an operation that has ended with `code` (R364, R365). -/
theorem State.opShown_spec (s : State) (k : Nat) (g : SlotImage) {code : Nat} (h : code < 32) (bytes : Nat) {e : Ev} (he : e.reg = R.IMG_EVT)
    (hbit : e.bit < e.reg.width) :
    (s.opShown k g code bytes e).tamperCheck.fld R.IMG_OP_STAT_STATE 0 = (if code = 0 then opDone else opFailed)
      ∧ (s.opShown k g code bytes e).tamperCheck.fld R.IMG_OP_STAT_CODE 0 = code
      ∧ (s.opShown k g code bytes e).tamperCheck.flag R.IMG_SLOTs_STAT_CHECKED k = true
      ∧ (s.opShown k g code bytes e).tamperCheck.flag R.IMG_SLOTs_STAT_VALID k = (code == 0)
      ∧ (s.opShown k g code bytes e).tamperCheck.latched e = true := by
  have hfld : ∀ (f : Fld) (i : Nat), f.id ≠ R.IMG_EVT.id →
      (s.opShown k g code bytes e).fld f i = ((s.showSlot k g code).opEnd code bytes).fld f i := fun f i hf =>
    State.fld_latch_ne _ _ _ _ (by rw [he]; exact hf)
  have hslot : ∀ (f : Fld) (i : Nat), (s.showSlot k g code).fld f i = ((((((s.setFlag R.IMG_SLOTs_STAT_CHECKED k true).setFlag
      R.IMG_SLOTs_STAT_VALID k (code == 0)).setFld R.IMG_SLOTs_STAT_CODE k code).setFlag R.IMG_SLOTs_STAT_ENC k g.enc).setFld
      R.IMG_SLOTs_STAT_KEY_SLOT k g.keySlot).setFld R.IMG_SLOTs_STAT_SVN k g.svn |>.setFld R.IMG_SLOTs_VER_VERSION k g.version).fld f i :=
    fun _ _ => rfl
  refine ⟨?_, ?_, ?_, ?_, State.latched_tamperCheck (State.latched_latch _ _ _ hbit) he hbit⟩
  · rw [State.fld_tamperCheck _ _ (by decide), hfld _ _ (by decide)]
    unfold State.opEnd
    simp (disch := decide) only [State.fld_setFld_ne, State.fld_setFld_self]
    split <;> rfl
  · rw [State.fld_tamperCheck _ _ (by decide), hfld _ _ (by decide)]
    unfold State.opEnd
    simp (disch := decide) only [State.fld_setFld_ne, State.fld_setFld_self]
    exact Nat.mod_eq_of_lt h
  · unfold State.flag
    rw [State.fld_tamperCheck _ _ (by decide), hfld _ _ (by decide)]
    unfold State.opEnd
    simp (disch := decide) only [State.fld_setFld_ne, hslot, State.fld_setFlag_ne]
    exact State.flag_setFlag_self _ _ _ _ (by decide)
  · unfold State.flag
    rw [State.fld_tamperCheck _ _ (by decide), hfld _ _ (by decide)]
    unfold State.opEnd
    simp (disch := decide) only [State.fld_setFld_ne, hslot, State.fld_setFlag_ne]
    exact State.flag_setFlag_self _ _ _ _ (by decide)

section
variable {s : State} (img : ImageBytes) (us : List Nat)

theorem State.fld_readUnits_ne (s : State) (us : List Nat) {f : Fld} (i : Nat) (h : f.id ≠ R.DDR_CNT_COUNT.id) :
    (s.readUnits us).fld f i = s.fld f i := by
  unfold State.readUnits State.addFld
  split
  · split
    · rfl
    · exact State.fld_setFld_ne _ _ _ _ h
  · rfl

theorem State.imageFault_readUnits (s : State) (us : List Nat) (g : SlotImage) (room : Nat) :
    (s.readUnits us).imageFault g room = s.imageFault g room := by
  obtain ⟨x, hx⟩ := s.readUnits_regs us
  exact State.imageFault_congr (by rw [hx]) (by rw [hx]) (s.fld_readUnits_ne us 0 (by decide)) g room

theorem State.programmed_readUnits (s : State) (us : List Nat) (g : SlotImage) : (s.readUnits us).programmed g = s.programmed g := by
  have hop := s.fld_readUnits_ne us 0 (by decide : R.IMG_OP_STAT_OP.id ≠ R.DDR_CNT_COUNT.id)
  unfold State.programmed
  rw [hop]
  obtain ⟨x, hx⟩ := s.readUnits_regs us
  rw [hx]
  rfl

/-- The code with which the operation in progress on a slot ends, 0 where it succeeds. -/
def State.opCode (s : State) (img : ImageBytes) : Nat :=
  ((s.imageFault { s.programmed (s.imageOf img) with lost := s.raise.opLost && s.fld R.IMG_OP_STAT_OP == opProgram } s.slotRoom).map (·.1)).getD 0

/-- The end of an operation on a slot: what the slot holds is checked and shown, and the operation ends with the code. -/
theorem State.imgOpDone_of_slot (hbusy : s.imgBusy = true) (hop : s.fld R.IMG_OP_STAT_OP ≠ opRecover) : s.imgOpDone img
    = if s.fld R.IMG_OP_STAT_OP = opVerify then (s.readUnits s.opUnits).opShown s.raise.opSlot (s.programmed (s.imageOf img)) (s.opCode img)
        (s.programmed (s.imageOf img)).length R.IMG_EVT_OP_DONE
      else (s.readUnits s.opUnits).opShown s.raise.opSlot (s.programmed (s.imageOf img)) (s.opCode img) s.raise.opLen
        (if s.opCode img = 0 then R.IMG_EVT_OP_DONE else R.IMG_EVT_OP_FAIL) := by
  have hfld : ∀ f : Fld, f.id ≠ R.DDR_CNT_COUNT.id → (s.readUnits s.opUnits).fld f 0 = s.fld f 0 := fun f h => s.fld_readUnits_ne _ 0 h
  have hraise : (s.readUnits s.opUnits).raise = s.raise := by
    obtain ⟨x, hx⟩ := s.readUnits_regs s.opUnits
    rw [hx]
  have himage : (s.readUnits s.opUnits).imageOf img = s.imageOf img := by
    obtain ⟨x, hx⟩ := s.readUnits_regs s.opUnits
    rw [hx]
    rfl
  have hroom : (s.readUnits s.opUnits).slotRoom = s.slotRoom := by
    unfold State.slotRoom
    rw [hfld _ (by decide)]
  have hbusy' : ¬ (!(s.readUnits s.opUnits).imgBusy) = true := by
    unfold State.imgBusy at hbusy ⊢
    rw [hfld _ (by decide), hbusy]
    decide
  unfold State.imgOpDone
  dsimp only
  rw [if_neg hbusy', hfld _ (by decide), if_neg hop, hraise, himage, hroom, State.programmed_readUnits, State.imageFault_readUnits]
  rfl

end

/-- Settles O36. -/
theorem imageOperations : Obligations.ImageOperations := by
  unfold Obligations.ImageOperations
  intro m w s k hk ha hw
  have hcommand : ∀ j, ∃ u g, s.Parked u ∧ s.regWrite m RN.IMG_CTRL 0 (putBits w.toNat j 1 1) = (u.imgCtrl (putBits w.toNat j 1 1) g).completed :=
    fun j => State.regWrite_imgCtrl ha _
  have hverify : ∃ u, s.Parked u ∧ exec (.verify m w) s = .next (u.doVerify k).completed := by
    obtain ⟨u, g, hu, hwrite⟩ := hcommand 1
    rw [State.imgCtrl_verify _ hw, ← hk] at hwrite
    exact ⟨u, hu, congrArg Host.Outcome.next hwrite⟩
  have hprogram : ∃ u, s.Parked u ∧ exec (.program m w) s = .next (u.doProgram k).completed := by
    obtain ⟨u, g, hu, hwrite⟩ := hcommand 2
    rw [State.imgCtrl_program _ hw, ← hk] at hwrite
    exact ⟨u, hu, congrArg Host.Outcome.next hwrite⟩
  have hrecover : ∃ u, s.Parked u ∧ exec (.recoverGo m w) s = .next u.doRecover.completed := by
    obtain ⟨u, g, hu, hwrite⟩ := hcommand 5
    rw [State.imgCtrl_recover _ hw] at hwrite
    exact ⟨u, hu, congrArg Host.Outcome.next hwrite⟩
  have habort : ∃ u, s.Parked u ∧ exec (.imgAbort m w) s = .next u.doAbort.completed := by
    obtain ⟨u, g, hu, hwrite⟩ := hcommand 6
    rw [State.imgCtrl_abort _ hw] at hwrite
    exact ⟨u, hu, congrArg Host.Outcome.next hwrite⟩
  have hkept : ∀ t : State, t.completed.imgBusy = t.imgBusy := fun t => by
    unfold State.imgBusy
    rw [State.completed_fld]
  refine ⟨?verify, ?program, ?refused, ?recover, ?busy, ?abort, ?verified, ?failed⟩
  case verify =>
    intro hidle
    obtain ⟨u, hu, hexec⟩ := hverify
    rw [show u.doVerify k = u.opStart opVerify k from if_neg (by rw [hu.imgBusy, hidle]; decide)] at hexec
    obtain ⟨hbusy, hop, hslot, -⟩ := u.opStart_spec (op := opVerify) (by decide) k
    exact ⟨_, hexec, State.completed_status _, (hkept _).trans hbusy, (State.completed_fld _ _ _).trans hop,
      (congrArg Raise.opSlot (State.completed_raise _)).trans hslot⟩
  case program =>
    intro hidle hrange hfree
    obtain ⟨u, hu, hexec⟩ := hprogram
    have hallowed : ¬ (!u.recovery && ((!u.flag R.IMG_RUN_STAGED && u.fld R.IMG_RUN_SLOT == k) || u.tally.boot.pref == k)) = true := by
      rw [hu.recovery, hu.flag _ (by decide), hu.fld _ _ (by decide), hu.tally]
      obtain hrec | ⟨hpref, hstaged | hslot⟩ := hfree
      · simp [hrec]
      · simp [hpref, hstaged]
      · simp [hpref, hslot]
    have hstart : u.doProgram k = (u.opStart opProgram k).setFlag R.IMG_SLOTs_STAT_VALID k false := by
      unfold State.doProgram
      rw [if_neg (by rw [hu.imgBusy, hidle]; decide), if_neg hallowed, if_neg (by rw [hu.slotRoom, hu.progRange, hrange]; decide)]
    rw [hstart] at hexec
    obtain ⟨hbusy, hop, hslot, hsrc, hlen⟩ := u.opStart_spec (op := opProgram) (by decide) k
    refine ⟨_, hexec, State.completed_status _, ?_, ?_, ?_, ?_, ?_, ?_⟩
    · rw [hkept]
      unfold State.imgBusy at hbusy ⊢
      rw [State.fld_setFlag_ne _ _ _ _ (by decide), hbusy]
    · rw [State.completed_fld, State.fld_setFlag_ne _ _ _ _ (by decide), hop]
    · rw [State.completed_raise]
      exact hslot
    · rw [State.completed_flag, State.flag_setFlag_self _ _ _ _ (by decide)]
    · rw [State.completed_raise]
      exact hsrc.trans (hu.fld _ _ (by decide))
    · rw [State.completed_raise]
      exact (hlen.trans (if_neg (by decide))).trans (hu.fld _ _ (by decide))
  case refused =>
    intro hidle hnorec hslot
    obtain ⟨u, hu, hexec⟩ := hprogram
    have hforbidden : (!u.recovery && ((!u.flag R.IMG_RUN_STAGED && u.fld R.IMG_RUN_SLOT == k) || u.tally.boot.pref == k)) = true := by
      rw [hu.recovery, hu.flag _ (by decide), hu.fld _ _ (by decide), hu.tally, hnorec]
      obtain hpref | ⟨hstaged, hrun⟩ := hslot
      · simp [hpref]
      · simp [hstaged, hrun]
    have hrefuse : u.doProgram k = u.opRefuse opProgram codeSlot := by
      unfold State.doProgram
      rw [if_neg (by rw [hu.imgBusy, hidle]; decide), if_pos hforbidden]
    rw [hrefuse] at hexec
    obtain ⟨hstate, hcode, hlatched, hvalid⟩ := u.opRefuse_spec opProgram (code := codeSlot) (by decide)
    exact ⟨_, hexec, (State.completed_fld _ _ _).trans hstate, (State.completed_fld _ _ _).trans hcode, (State.completed_latched _ _ _).trans hlatched,
      ((State.completed_fld _ _ _).trans (hvalid k)).trans (hu.fld _ _ (by decide))⟩
  case recover =>
    intro hidle hrec hrange
    obtain ⟨u, hu, hexec⟩ := hrecover
    have hstart : u.doRecover = u.opStart opRecover 0 := by
      unfold State.doRecover
      rw [if_neg (by rw [hu.imgBusy, hidle]; decide), if_neg (by rw [hu.recovery, hrec]; decide), if_neg (by rw [hu.progRange, hrange]; decide)]
    rw [hstart] at hexec
    obtain ⟨hbusy, hop, -⟩ := u.opStart_spec (op := opRecover) (by decide) 0
    exact ⟨_, hexec, State.completed_status _, (hkept _).trans hbusy, (State.completed_fld _ _ _).trans hop⟩
  case busy =>
    intro hbusy
    obtain ⟨u, hu, hexec⟩ := hverify
    rw [show u.doVerify k = u.opClash from if_pos (hu.imgBusy.trans hbusy)] at hexec
    obtain ⟨hstill, hcode, hlatched, hraise⟩ := u.opClash_spec
    exact ⟨_, hexec, ((hkept _).trans hstill).trans (hu.imgBusy.trans hbusy), (State.completed_fld _ _ _).trans hcode,
      (State.completed_latched _ _ _).trans hlatched, ((State.completed_raise _).trans hraise).trans hu.raise⟩
  case abort =>
    intro hbusy hop
    obtain ⟨u, hu, hexec⟩ := habort
    rw [show u.doAbort = u.setFld R.IMG_OP_STAT_STATE 0 opIdle from
      if_pos (by rw [hu.imgBusy, hbusy, hu.fld _ _ (by decide)]; simpa using hop)] at hexec
    refine ⟨_, hexec, State.completed_status _, ?_⟩
    rw [State.completed_fld, State.fld_setFld_self]
    rfl
  case verified =>
    intro img hbusy hop hgood
    have hexec : exec (.imgOpDone img) s = .next _ := congrArg (fun t : State => Host.Outcome.next t.tamperCheck)
      ((State.imgOpDone_of_slot img hbusy (by rw [hop]; decide)).trans (if_pos hop))
    have hcode : s.opCode img = 0 := by
      have hsame : ({ s.programmed (s.imageOf img) with lost := s.raise.opLost && s.fld R.IMG_OP_STAT_OP == opProgram } : SlotImage) = s.imageOf img := by
        unfold State.programmed
        rw [hop]
        simp [State.imageOf, show (opVerify == opProgram) = false by decide, show ¬ opVerify = opProgram by decide]
      unfold State.opCode
      rw [hsame, hgood]
      rfl
    obtain ⟨hstate, hcode', hchecked, hvalid, hlatched⟩ := (s.readUnits s.opUnits).opShown_spec s.raise.opSlot (s.programmed (s.imageOf img))
      (code := s.opCode img) (by rw [hcode]; decide) (s.programmed (s.imageOf img)).length (e := R.IMG_EVT_OP_DONE) rfl (by decide)
    rw [hcode] at hstate hcode' hvalid
    exact ⟨_, hexec, by rw [hcode]; exact hstate.trans (if_pos rfl), by rw [hcode]; exact hcode', hchecked, by rw [hcode]; exact hvalid, hlatched⟩
  case failed =>
    intro img code sect hbusy hop hlost hbad
    have hexec : exec (.imgOpDone img) s = .next _ := congrArg (fun t : State => Host.Outcome.next t.tamperCheck)
      ((State.imgOpDone_of_slot img hbusy (by rw [hop]; decide)).trans (if_neg (by rw [hop]; decide)))
    obtain ⟨hpos, hlt⟩ := State.imageFault_code hbad
    have hcode : s.opCode img = code := by
      have hsame : ({ s.programmed (s.imageOf img) with lost := s.raise.opLost && s.fld R.IMG_OP_STAT_OP == opProgram } : SlotImage)
          = s.programmed (s.imageOf img) := by
        unfold State.programmed
        rw [hop, hlost]
        simp [State.imageOf]
      unfold State.opCode
      rw [hsame, hbad]
      rfl
    rw [hcode, if_neg (by omega)] at hexec
    obtain ⟨hstate, hcode', -, hvalid, hlatched⟩ := (s.readUnits s.opUnits).opShown_spec s.raise.opSlot (s.programmed (s.imageOf img))
      hlt s.raise.opLen (e := R.IMG_EVT_OP_FAIL) rfl (by decide)
    exact ⟨_, hexec, hstate.trans (if_neg (by omega)), hcode', hvalid.trans (by simp; omega), hlatched⟩

end Sys2Proof.Machine
end

section
/-! O38: live updates of the joiners' firmware (R368 to R370). -/

namespace Sys2Proof.Machine

/-! ### LIVE_GO (R368) -/

theorem State.imgCtrl_live (s : State) {w : Nat} (hw : bits w 0 7 = 0) (g : SlotImage) : s.imgCtrl (putBits w 3 1 1) g = s.doLive g := by
  simp [State.imgCtrl, bits_putBits_command (k := 3) (by decide) hw]

theorem State.writeEffect_imgCtrl (s old : State) (m i w : Nat) (g : SlotImage) : s.writeEffect old m RN.IMG_CTRL i w (some g) = s.imgCtrl w g := rfl

/-- An accepted command, with what the other image slot holds, acts behind the parked path. -/
theorem State.writePriv_command {r : Reg} (hr : r ∈ regTable) {i : Nat} (h1 : r.first ≤ i) (h2 : i < r.first + r.count)
    (hp : place (r.addr i) = .reg (r.addr i)) (hal : r.addr i % 4 = 0) (ht : r.takesWhole = true) (hj : r.unjournalled = true)
    (hwo : ∀ c ∈ r.slices, c.fld.ty = .wo) {s : State} {m : Nat} (ha : s.accepts m r.id i = true) (w : Nat) (img : Option SlotImage) :
    s.writePriv m (r.addr i) w false img
      = ((s.park m (.reg (r.addr i))).writeEffect (s.park m (.reg (r.addr i))) m r.id i w img).completed := by
  obtain ⟨hok, hm⟩ := (State.accepts_iff hr s m i).mp ha
  rw [State.writePriv_of_reg hp hal hok, State.writeRegAt_of_takesWhole hr h1 h2 ht,
    State.takeWord_of_not_mirrors (by rw [State.mirrors_park, hm]) hj, State.storeWord_of_wo hwo]
  rfl

/-- An accepted LIVE_GO acts behind the parked path, on what the other slot holds. -/
theorem exec_liveGo {m : Master} {s : State} (ha : s.accepts m RN.IMG_CTRL 0 = true) {w : Word} (hw : bits w.toNat 0 7 = 0) (img : ImageBytes) :
    ∃ u, s.Parked u ∧ exec (.liveGo m w img) s = .next (u.doLive (s.imageOf img)).completed := by
  have hwrite := State.writePriv_command (r := imgCtrlReg) (i := 0) (by decide) (by decide) (by decide) (by decide) (by decide) (by decide)
    (by decide) (by decide) ha (putBits w.toNat 3 1 1) (some (s.imageOf img))
  refine ⟨_, s.parked_park m 0x10020, congrArg Host.Outcome.next (hwrite.trans (congrArg State.completed ?_))⟩
  exact (State.writeEffect_imgCtrl _ _ _ _ _ _).trans (State.imgCtrl_live _ hw _)

theorem State.Parked.liveState {s u : State} (h : s.Parked u) : u.liveState = s.liveState := h.fld _ _ (by decide)

theorem State.Parked.joinerBusy {s u : State} (h : s.Parked u) : u.joinerBusy = s.joinerBusy := by
  obtain ⟨x, rfl⟩ := h.regs
  rfl

/-- No update is in progress. -/
def State.liveFree (s : State) : Prop := s.liveState ≠ liveWaiting ∧ s.liveState ≠ liveRunning ∧ s.liveState ≠ liveRollback

theorem State.doLive_abi {s : State} (hfree : s.liveFree) (hvalid : s.flag R.IMG_SLOTs_STAT_VALID (1 - s.fld R.IMG_RUN_SLOT) = true)
    {g : SlotImage} (habi : g.fwAbi ≠ s.raise.fwAbi) : s.doLive g = s.liveRefuse 2 := by
  obtain ⟨h1, h2, h3⟩ := hfree
  unfold State.doLive
  dsimp only
  rw [if_neg (by simp [h1, h2, h3]), if_neg (by rw [hvalid]; decide), if_pos habi]

/-- An update that may start begins, or waits for a joiner sistering (R368). -/
theorem State.doLive_starts {s : State} (hfree : s.liveFree) (hvalid : s.flag R.IMG_SLOTs_STAT_VALID (1 - s.fld R.IMG_RUN_SLOT) = true)
    {g : SlotImage} (habi : g.fwAbi = s.raise.fwAbi) (hsvn : s.raise.fwSvn ≤ g.fwSvn) (hidle : s.imgBusy = false) :
    s.doLive g = if s.joinerBusy then ((s.setFld R.IMG_LIVE_STAT_CODE 0 0).updRaise (fun r => { r with other := some g, updated := [] })).setFld
        R.IMG_LIVE_STAT_STATE 0 liveWaiting
      else ((s.setFld R.IMG_LIVE_STAT_CODE 0 0).updRaise (fun r => { r with other := some g, updated := [] })).liveBegin := by
  obtain ⟨h1, h2, h3⟩ := hfree
  unfold State.doLive
  dsimp only
  rw [if_neg (by simp [h1, h2, h3]), if_neg (by rw [hvalid]; decide), if_neg (not_not.mpr habi), if_neg (by omega),
    if_neg (by rw [hidle]; decide)]
  rfl

/-- The core that an update takes next leaves its state and its images as they are. -/
theorem State.liveNext_spec (s : State) : s.liveNext.liveState = s.liveState ∧ s.liveNext.raise = s.raise := by
  unfold State.liveNext State.liveState
  split
  · exact ⟨State.fld_setFld_ne _ _ _ _ (by decide), rfl⟩
  · exact ⟨rfl, rfl⟩

theorem State.liveBegin_spec (s : State) : s.liveBegin.liveState = liveRunning ∧ s.liveBegin.raise = s.raise := by
  obtain ⟨hstate, hraise⟩ := (s.setFld R.IMG_LIVE_STAT_STATE 0 liveRunning).liveNext_spec
  refine ⟨hstate.trans ?_, hraise⟩
  unfold State.liveState
  rw [State.fld_setFld_self]
  rfl

theorem State.liveRefuse_spec (s : State) {code : Nat} (h : code < 32) : (s.liveRefuse code).liveState = liveFailed
    ∧ (s.liveRefuse code).fld R.IMG_LIVE_STAT_CODE 0 = code ∧ (s.liveRefuse code).latched R.IMG_EVT_LIVE_FAIL = true
    ∧ (s.liveRefuse code).mem = s.mem := by
  unfold State.liveRefuse State.liveState
  refine ⟨?_, ?_, State.latched_latch _ _ _ (by decide), ?_⟩
  · rw [State.fld_latch_ne _ _ _ _ (by decide), State.fld_setFld_ne _ _ _ _ (by decide), State.fld_setFld_self]
    rfl
  · rw [State.fld_latch_ne _ _ _ _ (by decide), State.fld_setFld_self]
    exact Nat.mod_eq_of_lt h
  · rw [State.latch_mem]
    rfl

/-! ### From core to core (R369, R370) -/

/-- At a tick the core that the update runs on leaves service, with the new code in its bank. -/
theorem State.tickLive_running {s : State} (hrun : s.liveState = liveRunning) (hin : s.fld R.IMG_LIVE_STAT_CORE ∉ s.raise.liveOut) {g : SlotImage}
    (hg : s.raise.other = some g) : s.tickLive = (s.loadBank (s.fld R.IMG_LIVE_STAT_CORE) g.code).updRaise
      (fun r => { r with liveOut := r.liveOut ++ [s.fld R.IMG_LIVE_STAT_CORE], liveSince := s.frame }) := by
  unfold State.tickLive State.liveTarget
  rw [if_pos hrun]
  dsimp only
  rw [if_neg (by simpa using hin), if_pos hrun, hg]
  rfl

theorem State.loadBank_raise (s : State) (i : Nat) (code : List (BitVec 8)) : (s.loadBank i code).raise = s.raise :=
  State.loadBank_k (loose_part s .raise (by decide) (by decide) (by decide)) rfl i code

theorem State.readBytes_loadBank {s : State} (h : s.MemWf) {i : Nat} (hi : i < 5) {code : List (BitVec 8)} (hlen : code.length ≤ 393216) :
    (s.loadBank i code).readBytes (joinerBank i) code.length = code := by
  unfold State.loadBank
  rw [if_pos hi, List.take_of_length_le (by omega)]
  exact State.readBytes_writeBytes h _ _

/-- Core `i` holds the new code and resumes its duties. -/
def State.liveTaken (s : State) (i : Nat) : State := (s.liveResumes i).updRaise (fun r => { r with updated := r.updated ++ [i] })

theorem State.liveTarget_running {s : State} (hrun : s.liveState = liveRunning) : s.liveTarget = some (s.fld R.IMG_LIVE_STAT_CORE) := if_pos hrun

theorem State.liveTarget_rollback {s : State} (hback : s.liveState = liveRollback) : s.liveTarget = s.raise.updated.getLast? := by
  unfold State.liveTarget
  rw [if_neg (by rw [hback]; decide), if_pos hback]

theorem State.liveStop_spec (s : State) {code : Nat} (h : code < 32) :
    (s.liveStop code).liveState = (if s.raise.updated.isEmpty then liveFailed else liveRollback)
      ∧ (s.liveStop code).fld R.IMG_LIVE_STAT_CODE 0 = code ∧ (s.liveStop code).latched R.IMG_EVT_LIVE_FAIL = true := by
  unfold State.liveStop State.liveState
  refine ⟨?_, ?_, State.latched_latch _ _ _ (by decide)⟩
  · rw [State.fld_latch_ne _ _ _ _ (by decide), State.fld_setFld_ne _ _ _ _ (by decide), State.fld_setFld_self]
    split <;> rfl
  · rw [State.fld_latch_ne _ _ _ _ (by decide), State.fld_setFld_self]
    exact Nat.mod_eq_of_lt h

/-- The core in hand has not taken the new code's place: nothing changes. -/
theorem exec_liveCoreDone_idle {s : State} (hrun : s.liveState = liveRunning) (hin : s.fld R.IMG_LIVE_STAT_CORE ∉ s.raise.liveOut) :
    exec .liveCoreDone s = .next s :=
  congrArg Host.Outcome.next (if_pos (by rw [State.liveTarget_running hrun]; simpa using hin))

section
variable {s : State} (hrun : s.liveState = liveRunning) (hout : s.fld R.IMG_LIVE_STAT_CORE ∈ s.raise.liveOut)
include hrun hout

theorem State.live_in_hand : ¬ (!(s.liveTarget.any (fun i => s.raise.liveOut.contains i))) = true := by
  rw [State.liveTarget_running hrun]
  simpa using hout

theorem exec_liveCoreDone_bad (hbad : s.liveCodeGood = false) : exec .liveCoreDone s = .next (s.liveStop 6) := by
  refine congrArg Host.Outcome.next ((if_neg (State.live_in_hand hrun hout)).trans (if_pos ?_))
  rw [hrun, hbad]
  rfl

theorem exec_liveCoreDone_next (hgood : s.liveCodeGood = true) {j : Nat} (hj : s.liveOrder.find? (fun c =>
    !(s.raise.updated ++ [s.fld R.IMG_LIVE_STAT_CORE]).contains c) = some j) :
    exec .liveCoreDone s = .next ((s.liveTaken (s.fld R.IMG_LIVE_STAT_CORE)).setFld R.IMG_LIVE_STAT_CORE 0 j) := by
  have hnot : ¬ (s.liveTaken (s.fld R.IMG_LIVE_STAT_CORE)).liveOrder.all
      (fun c => (s.liveTaken (s.fld R.IMG_LIVE_STAT_CORE)).raise.updated.contains c) = true := by
    intro hall
    have hmem := List.mem_of_find?_eq_some hj
    have hmiss := List.find?_some hj
    have hin := List.all_eq_true.mp hall j hmem
    rw [Bool.not_eq_true'] at hmiss
    exact absurd (hmiss.symm.trans hin) (by decide)
  have hnext : (s.liveTaken (s.fld R.IMG_LIVE_STAT_CORE)).liveNext = (s.liveTaken (s.fld R.IMG_LIVE_STAT_CORE)).setFld R.IMG_LIVE_STAT_CORE 0 j := by
    unfold State.liveNext
    rw [show (s.liveTaken (s.fld R.IMG_LIVE_STAT_CORE)).liveOrder.find?
      (fun c => !(s.liveTaken (s.fld R.IMG_LIVE_STAT_CORE)).raise.updated.contains c) = some j from hj]
  refine congrArg Host.Outcome.next ((if_neg (State.live_in_hand hrun hout)).trans ((if_neg ?_).trans ((if_pos hrun).trans ((if_neg hnot).trans hnext))))
  rw [hgood]
  simp

theorem exec_liveCoreDone_last (hgood : s.liveCodeGood = true)
    (hall : ∀ j ∈ s.liveOrder, j = s.fld R.IMG_LIVE_STAT_CORE ∨ j ∈ s.raise.updated) : ∃ g, s.raise.other = some g
      ∧ exec .liveCoreDone s = .next ((((((s.liveTaken (s.fld R.IMG_LIVE_STAT_CORE)).showFw g).setFld R.IMG_RUN_FW_SLOT 0
        (1 - ((s.liveTaken (s.fld R.IMG_LIVE_STAT_CORE)).showFw g).fld R.IMG_RUN_SLOT)).setFld R.IMG_LIVE_STAT_STATE 0 liveDone)).latch
        R.IMG_EVT_LIVE_DONE) := by
  obtain ⟨g, hg⟩ : ∃ g, s.raise.other = some g := by
    unfold State.liveCodeGood at hgood
    split at hgood
    · next g hg => exact ⟨g, hg⟩
    · cases hgood
  have hdone : (s.liveTaken (s.fld R.IMG_LIVE_STAT_CORE)).liveOrder.all
      (fun c => (s.liveTaken (s.fld R.IMG_LIVE_STAT_CORE)).raise.updated.contains c) = true := by
    refine List.all_eq_true.mpr (fun j hj => ?_)
    have hin : j ∈ s.raise.updated ++ [s.fld R.IMG_LIVE_STAT_CORE] := by
      obtain h | h := hall j hj
      · simp [h]
      · simp [h]
    exact List.contains_iff_mem.mpr hin
  refine ⟨g, hg, congrArg Host.Outcome.next ((if_neg (State.live_in_hand hrun hout)).trans ((if_neg ?_).trans ((if_pos hrun).trans
    ((if_pos hdone).trans ?_))))⟩
  · rw [hgood]
    simp
  · rw [show ((s.liveResumes (s.fld R.IMG_LIVE_STAT_CORE)).updRaise (fun r => { r with updated := r.updated ++ [s.fld R.IMG_LIVE_STAT_CORE] })).raise.other
      = some g from hg]
    rfl

end

/-- Settles O38. -/
theorem liveUpdates : Obligations.LiveUpdates := by
  unfold Obligations.LiveUpdates
  intro m w img s
  refine ⟨?starts, ?refused, ?leaves, ?idle, ?last, ?next, ?bad, ?back, ?timeout⟩
  case starts =>
    intro ha hw h1 h2 h3 hvalid habi hsvn hidle
    obtain ⟨u, hu, hexec⟩ := exec_liveGo ha hw img
    have hfree : u.liveFree := by
      unfold State.liveFree
      rw [hu.liveState]
      exact ⟨h1, h2, h3⟩
    rw [State.doLive_starts hfree (by rw [hu.fld _ _ (by decide), hu.flag _ (by decide), hvalid]) (by rw [hu.raise, habi]) (by rw [hu.raise]; exact hsvn)
      (hu.imgBusy.trans hidle), hu.joinerBusy] at hexec
    refine ⟨_, hexec, State.completed_status _, ?_⟩
    rw [State.completed_raise]
    unfold State.liveState
    rw [State.completed_fld]
    split
    · refine ⟨rfl, rfl, ?_⟩
      rw [State.fld_setFld_self]
      rfl
    · obtain ⟨hstate, hraise⟩ := ((u.setFld R.IMG_LIVE_STAT_CODE 0 0).updRaise (fun r => { r with other := some (s.imageOf img), updated := [] })).liveBegin_spec
      rw [hraise]
      exact ⟨rfl, rfl, hstate⟩
  case refused =>
    intro ha hw h1 h2 h3 hvalid habi
    obtain ⟨u, hu, hexec⟩ := exec_liveGo ha hw img
    have hfree : u.liveFree := by
      unfold State.liveFree
      rw [hu.liveState]
      exact ⟨h1, h2, h3⟩
    rw [State.doLive_abi hfree (by rw [hu.fld _ _ (by decide), hu.flag _ (by decide), hvalid]) (by rw [hu.raise]; exact habi)] at hexec
    obtain ⟨hstate, hcode, hlatched, hmem⟩ := u.liveRefuse_spec (code := 2) (by decide)
    refine ⟨_, hexec, (State.completed_fld _ _ _).trans hstate, (State.completed_fld _ _ _).trans hcode, (State.completed_latched _ _ _).trans hlatched, ?_⟩
    obtain ⟨x, y, h⟩ := (u.liveRefuse 2).completed_same
    obtain ⟨z, hz⟩ := hu.regs
    rw [h]
    refine hmem.trans ?_
    rw [hz]
  case leaves =>
    intro i g hrun hi hin hg
    subst hi
    rw [State.tickLive_running hrun hin hg]
    refine ⟨?_, rfl, fun hwf hlt hlen => ?_⟩
    · show (s.loadBank _ g.code).raise.liveOut ++ _ = _
      rw [State.loadBank_raise]
    · exact State.readBytes_loadBank hwf hlt hlen
  case idle =>
    intro i hrun hi hin
    subst hi
    exact ⟨s, exec_liveCoreDone_idle hrun hin, rfl⟩
  case last =>
    intro i hrun hgood hi hout hall
    subst hi
    obtain ⟨g, hg, hexec⟩ := exec_liveCoreDone_last hrun hout hgood hall
    refine ⟨_, hexec, ?_, ?_, State.latched_latch _ _ _ (by decide), ?_, ?_⟩
    · unfold State.liveState
      rw [State.fld_latch_ne _ _ _ _ (by decide), State.fld_setFld_self]
      rfl
    · rw [State.fld_latch_ne _ _ _ _ (by decide), State.fld_setFld_ne _ _ _ _ (by decide), State.fld_setFld_self]
      have hslot : ((s.liveTaken (s.fld R.IMG_LIVE_STAT_CORE)).showFw g).fld R.IMG_RUN_SLOT 0 = s.fld R.IMG_RUN_SLOT 0 :=
        State.fld_setFld_ne (s.liveTaken (s.fld R.IMG_LIVE_STAT_CORE)) 0 0 g.fwVersion (by decide : R.IMG_RUN_SLOT.id ≠ R.IMG_FW_VER_VERSION.id)
      rw [hslot]
      rfl
    · rw [State.latch_raise]
      rfl
    · rw [State.latch_raise]
      rfl
  case next =>
    intro i j hrun hgood hi hout hj hfind
    subst hi
    refine ⟨_, exec_liveCoreDone_next hrun hout hgood hfind, ?_, ?_, rfl, rfl⟩
    · exact (State.fld_setFld_ne _ _ _ _ (by decide)).trans hrun
    · rw [State.fld_setFld_self]
      exact Nat.mod_eq_of_lt hj
  case bad =>
    intro hrun hbad hout
    exact ⟨_, exec_liveCoreDone_bad hrun hout hbad, s.liveStop_spec (code := 6) (by decide)⟩
  case back =>
    intro i rest hback hupdated hout
    have hrun : ¬ s.liveState = liveRunning := by
      rw [hback]
      decide
    have hin : ¬ (!(s.liveTarget.any (fun i => s.raise.liveOut.contains i))) = true := by
      rw [State.liveTarget_rollback hback, hupdated]
      simpa using hout
    have hlast : s.raise.updated.reverse = i :: rest.reverse := by
      rw [hupdated]
      simp
    have hexec : exec .liveCoreDone s = .next (if rest.reverse.isEmpty then
        ((s.liveResumes i).updRaise (fun r => { r with updated := rest.reverse.reverse })).setFld R.IMG_LIVE_STAT_STATE 0 liveFailed
        else (s.liveResumes i).updRaise (fun r => { r with updated := rest.reverse.reverse })) := by
      refine congrArg Host.Outcome.next ((if_neg hin).trans ((if_neg (by simp [hrun])).trans ((if_neg hrun).trans ((if_pos hback).trans ?_))))
      rw [hlast]
    rw [List.reverse_reverse] at hexec
    refine ⟨_, hexec, ?_, ?_, ?_⟩
    · split <;> rfl
    · split <;> rfl
    · cases rest with
      | nil => exact State.fld_setFld_self _ _ _ _
      | cons x l =>
        rw [if_neg (by simp), if_neg (by simp)]
        exact hback
  case timeout =>
    intro selfTest hrun hout hlate
    have hexec : exec (.liveCoreTimeout selfTest) s = .next (s.liveStop (if selfTest then 6 else 5)) := by
      refine congrArg Host.Outcome.next (if_pos ?_)
      rw [hrun]
      simp only [List.contains_iff_mem.mpr hout]
      simpa using hlate
    exact ⟨_, hexec, s.liveStop_spec (by split <;> decide)⟩

end Sys2Proof.Machine
end

section
/-! O39: ownership (R386 to R390). -/

namespace Sys2Proof.Machine

/-! ### An accepted write of MGT_OWN_OP (R386) -/

/-- MGT_OWN_OP in the register table. -/
def ownOpReg : Reg := ⟨RN.MGT_OWN_OP, 0x20014, 0, 1, 0x0, .single, [⟨R.MGT_OWN_OP_OP, 0, 0, 3⟩, ⟨R.MGT_OWN_OP_SUCCESSOR, 0, 4, 3⟩]⟩

/-- `v` is `s` to the operation that acts on it: the path parked, and the token that master `m` held taken. -/
structure State.OwnTurn (s v : State) (m : Nat) : Prop where
  fld : ∀ (f : Fld) (i : Nat), f.id ≠ R.MTX_STAT_PARK.id → v.fld f i = s.fld f i
  own : v.own = s.own
  held : v.heldAt m 0x20010 = none

theorem State.writeEffect_ownOp (s old : State) (m i w : Nat) : s.writeEffect old m RN.MGT_OWN_OP i w none = s.ownerWrite m w := rfl

/-- An accepted operation takes the token that its master holds. -/
theorem State.regWrite_ownOp {s : State} {m p : Nat} (hp : portOfMaster m = some p) (ha : s.accepts m RN.MGT_OWN_OP 0 = true) (w : Nat) :
    ∃ v, s.OwnTurn v m ∧ s.regWrite m RN.MGT_OWN_OP 0 w = (v.ownOp p ((s.heldAt m 0x20010).getD 0) w).completed := by
  obtain ⟨u, hu, hw⟩ := State.regWrite_unjournalled (r := ownOpReg) (by decide) (by decide) (by decide) (by decide) (by decide) (by decide) ha w
  refine ⟨u.unhold m 0x20010, ⟨fun f i hf => hu.fld f i hf, ?_, State.heldAt_unhold _ _ _⟩,
    hw.trans (congrArg State.completed ((State.writeEffect_ownOp _ _ _ _ _).trans ?_))⟩
  · obtain ⟨x, rfl⟩ := hu.regs
    rfl
  · unfold State.ownerWrite
    rw [hp]
    obtain ⟨x, rfl⟩ := hu.regs
    rfl

theorem State.completed_own (s : State) : s.completed.own = s.own := by
  obtain ⟨x, y, h⟩ := s.completed_same
  rw [h]

theorem State.completed_heldAt (s : State) (m off : Nat) : s.completed.heldAt m off = s.heldAt m off := by
  obtain ⟨x, y, h⟩ := s.completed_same
  rw [h]
  rfl

section
variable {s v : State} {m : Nat} (h : s.OwnTurn v m)
include h

theorem State.OwnTurn.flag {f : Fld} (hf : f.id ≠ R.MTX_STAT_PARK.id) : v.flag f = s.flag f := State.flag_of_fld (h.fld f 0 hf)

theorem State.OwnTurn.ownerPort : v.ownerPort = s.ownerPort := h.fld _ _ (by decide)

theorem State.OwnTurn.opOwner : v.opOwner = s.opOwner := by
  unfold State.opOwner
  rw [h.own, h.ownerPort]

theorem State.OwnTurn.handing : v.handing = s.handing := h.flag (by decide)

theorem State.OwnTurn.privPort (p : Nat) : v.privPort p = s.privPort p := by
  unfold State.privPort State.portClass State.recovery
  rw [h.flag (by decide), h.fld _ _ (by decide)]

theorem State.OwnTurn.byOwner (p tok : Nat) : v.byOwner p tok = s.byOwner p tok := by
  unfold State.byOwner
  rw [h.opOwner, h.own]

theorem State.OwnTurn.frame : v.frame = s.frame := h.fld _ _ (by decide)

end

/-! ### The operations -/

theorem State.ownOp_claim (s : State) (p tok w : Nat) : s.ownOp p tok (putBits w 0 3 1) = s.opClaim p tok := by
  unfold State.ownOp
  rw [bits_putBits_first (by decide)]
  rfl

theorem State.ownOp_renew (s : State) (p tok w : Nat) : s.ownOp p tok (putBits w 0 3 2) = s.opRenew p tok := by
  unfold State.ownOp
  rw [bits_putBits_first (by decide)]
  rfl

theorem State.ownOp_release (s : State) (p tok w : Nat) : s.ownOp p tok (putBits w 0 3 3) = s.opRelease p tok := by
  unfold State.ownOp
  rw [bits_putBits_first (by decide)]
  rfl

theorem State.ownOp_handover (s : State) (p tok w : Nat) : s.ownOp p tok (putBits w 0 3 4) = s.opHandover p tok (bits w 4 3) := by
  unfold State.ownOp
  rw [bits_putBits_first (by decide), bits_putBits_first_above (by decide)]
  rfl

/-- An operation that is refused latches its event and leaves ownership as it was. -/
theorem State.latchFor_ownEvent (s : State) (e : Ev) (hbit : e.bit < e.reg.width) (p : Nat) :
    (s.latchFor e p).own = s.own ∧ (s.latchFor e p).latched e = true := by
  refine ⟨?_, State.latched_latchAs _ _ _ _ _ hbit⟩
  unfold State.latchFor State.latchAs
  split <;> rfl

theorem State.showLeft_own (s : State) : s.showLeft.own = s.own ∧ s.showLeft.ownerPort = s.ownerPort := by
  unfold State.showLeft State.ownerPort
  exact ⟨rfl, State.fld_setFld_ne _ _ _ _ (by decide)⟩

/-- A cancelled handover is pending no more, and ownership stands (R389). -/
theorem State.cancelHandover_spec (s : State) : s.cancelHandover.handing = false ∧ s.cancelHandover.own = s.own
    ∧ s.cancelHandover.ownerPort = s.ownerPort ∧ (s.handing = true → s.cancelHandover.latched R.MGT_EVT_HANDOVER_FAIL = true) := by
  unfold State.cancelHandover
  split
  · next hpending =>
    obtain ⟨hown, hlatched⟩ := s.endHandover.latchFor_ownEvent R.MGT_EVT_HANDOVER_FAIL (by decide) s.ownerPort
    refine ⟨?_, hown, ?_, fun _ => hlatched⟩
    · unfold State.handing
      refine (State.flag_of_fld (State.fld_latchAs_ne _ _ _ _ _ _ (by decide))).trans ?_
      exact (State.flag_setFld_ne _ _ _ _ (by decide)).trans (State.flag_setFlag_self _ _ _ _ (by decide))
    · refine (State.fld_latchAs_ne _ _ _ _ _ _ (by decide)).trans ?_
      exact (State.fld_setFld_ne _ _ _ _ (by decide)).trans (State.fld_setFlag_ne _ _ _ _ (by decide))
  · next hnone => exact ⟨Bool.eq_false_iff.mpr hnone, rfl, rfl, fun h => absurd h hnone⟩

/-! ### The lease (R388) -/

/-- Ownership has ended: there is no owner and no token. -/
theorem State.endOwner_spec (s : State) : s.endOwner.ownerPort = noPort ∧ s.endOwner.own.token = 0 ∧ s.endOwner.own.claims = s.own.claims
    ∧ (∀ f : Fld, f.id ≠ R.MGT_OWNER_PORT.id → f.id ≠ R.MGT_OWNER_LEFT.id → s.endOwner.fld f 0 = s.fld f 0) := by
  refine ⟨?_, rfl, rfl, fun f h1 h2 => ?_⟩
  · refine (State.fld_setFld_ne _ _ _ _ (by decide)).trans ?_
    rw [State.fld_setFld_self]
    rfl
  · exact (State.fld_setFld_ne _ _ _ _ h2).trans (State.fld_setFld_ne _ _ _ _ h1)

/-- `s` once its lease has run out, before the election of the same tick. -/
def State.leaseEnded (s : State) : State := (s.cancelHandover.latchFor R.MGT_EVT_LEASE_EXPIRED s.ownerPort).endOwner

theorem State.leaseEnded_spec (s : State) : s.leaseEnded.ownerPort = noPort ∧ s.leaseEnded.own.token = 0 ∧ s.leaseEnded.own.claims = s.own.claims
    ∧ s.leaseEnded.handing = false ∧ s.leaseEnded.latched R.MGT_EVT_LEASE_EXPIRED = true ∧ s.leaseEnded.frame = s.frame := by
  obtain ⟨hhanding, hown, -, -⟩ := s.cancelHandover_spec
  obtain ⟨hlatchOwn, hlatched⟩ := s.cancelHandover.latchFor_ownEvent R.MGT_EVT_LEASE_EXPIRED (by decide) s.ownerPort
  obtain ⟨hport, htoken, hclaims, hfld⟩ := (s.cancelHandover.latchFor R.MGT_EVT_LEASE_EXPIRED s.ownerPort).endOwner_spec
  refine ⟨hport, htoken, ?_, ?_, ?_, ?_⟩
  · exact hclaims.trans (by rw [hlatchOwn, hown])
  · exact (State.flag_of_fld ((hfld _ (by decide) (by decide)).trans (State.fld_latchAs_ne _ _ _ _ _ _ (by decide)))).trans hhanding
  · exact State.latched_of_fld (hfld _ (by decide) (by decide)) hlatched
  · refine ((hfld _ (by decide) (by decide)).trans (State.fld_latchAs_ne _ _ _ _ _ _ (by decide))).trans ?_
    exact State.fld_cancelHandover _ _ (by decide)

theorem exec_leaseExpiry {s : State} (howner : s.ownerPort ≠ noPort) (hreached : frameReached s.frame s.own.leaseEnd = true) :
    exec .leaseExpiry s = .next s.leaseEnded.elect := congrArg Host.Outcome.next (if_pos (by simp [howner, hreached]))

theorem State.winner_of_no_claim {s : State} (hno : s.handing = false) (hclaims : s.own.claims = []) : s.winner = none := by
  unfold State.winner
  rw [hno, if_neg Bool.false_ne_true, hclaims]
  dsimp only
  split <;> rfl

theorem State.winner_of_one_claim {s : State} (hno : s.handing = false) (howner : s.ownerPort = noPort) {c : Nat × Nat}
    (hclaims : s.own.claims = [c]) : s.winner = some c := by
  unfold State.winner
  rw [hno, if_neg Bool.false_ne_true, hclaims]
  exact if_pos howner

/-- Port `c.1` as owner, before MGT_OWNER.LEFT and the event show it. -/
def State.owned (s : State) (c : Nat × Nat) : State :=
  (s.endHandover.setFld R.MGT_OWNER_PORT 0 c.1).updOwn (fun o =>
    { o with token := c.2, released := false, lost := false, leaseEnd := frameAdd s.frame leaseFrames })

/-- A claim that is granted makes its port the owner, with its token and a new lease (R387, R388). -/
theorem State.grant_spec (s : State) {c : Nat × Nat} (hc : c.1 < 8) : (s.grant c).ownerPort = c.1 ∧ (s.grant c).own.token = c.2
    ∧ (s.grant c).own.claims = s.own.claims ∧ (s.grant c).own.leaseEnd = frameAdd s.frame leaseFrames
    ∧ (s.grant c).latched R.MGT_EVT_OWNER_CHANGE = true := by
  have hport : (s.owned c).ownerPort = c.1 := (State.fld_setFld_self _ _ _ _).trans (Nat.mod_eq_of_lt hc)
  obtain ⟨hown, hkept⟩ := (s.owned c).showLeft_own
  obtain ⟨hlatchOwn, hlatched⟩ := (s.owned c).showLeft.latchFor_ownEvent R.MGT_EVT_OWNER_CHANGE (by decide) c.1
  have hgrant : s.grant c = (s.owned c).showLeft.latchFor R.MGT_EVT_OWNER_CHANGE c.1 := rfl
  rw [hgrant, hlatchOwn, hown]
  exact ⟨(State.fld_latchAs_ne _ _ _ _ _ _ (by decide)).trans (hkept.trans hport), rfl, rfl, rfl, hlatched⟩

theorem State.completed_ownerPort (s : State) : s.completed.ownerPort = s.ownerPort := State.completed_fld s _ _

theorem State.updOwn_ownerPort (s : State) (f : Owning → Owning) : (s.updOwn f).ownerPort = s.ownerPort := rfl

theorem State.completed_handing (s : State) : s.completed.handing = s.handing := State.completed_flag s _ _

/-! ### Operations of the owner -/

section
variable {v : State} {p tok : Nat} (hby : v.byOwner p tok = true)
include hby

theorem State.opRenew_spec : (v.opRenew p tok).own.leaseEnd = frameAdd v.frame 2401 ∧ (v.opRenew p tok).ownerPort = v.ownerPort := by
  obtain ⟨hown, hkept⟩ := (v.updOwn (fun o => { o with leaseEnd := frameAdd v.frame (1 + leaseFrames) })).showLeft_own
  unfold State.opRenew
  rw [if_pos hby]
  rw [hkept, hown]
  exact ⟨rfl, State.updOwn_ownerPort _ _⟩

theorem State.opRelease_spec : (v.opRelease p tok).own.released = true ∧ (v.opRelease p tok).handing = false
    ∧ (v.opRelease p tok).ownerPort = v.ownerPort := by
  obtain ⟨hhanding, -, hkept, -⟩ := v.cancelHandover_spec
  unfold State.opRelease
  rw [if_pos hby]
  exact ⟨rfl, hhanding, hkept⟩

theorem State.opHandover_spec {q : Nat} (hlt : q < 4) (hne : q ≠ p) (hpriv : v.privPort q = true) : (v.opHandover p tok q).handing = true
    ∧ (v.opHandover p tok q).fld R.MGT_OWNER_SUCCESSOR 0 = q ∧ (v.opHandover p tok q).own.handAt = v.frame
    ∧ (v.opHandover p tok q).ownerPort = v.ownerPort := by
  have hport : ((v.setFlag R.MGT_OWNER_PENDING 0 true).setFld R.MGT_OWNER_SUCCESSOR 0 q).ownerPort = v.ownerPort :=
    (State.fld_setFld_ne _ _ _ _ (by decide)).trans (State.fld_setFlag_ne _ _ _ _ (by decide))
  have hhanding : ((v.setFlag R.MGT_OWNER_PENDING 0 true).setFld R.MGT_OWNER_SUCCESSOR 0 q).handing = true :=
    (State.flag_setFld_ne _ _ _ _ (by decide)).trans (State.flag_setFlag_self _ _ _ _ (by decide))
  have hsucc : ((v.setFlag R.MGT_OWNER_PENDING 0 true).setFld R.MGT_OWNER_SUCCESSOR 0 q).fld R.MGT_OWNER_SUCCESSOR 0 = q :=
    (State.fld_setFld_self _ _ _ _).trans (Nat.mod_eq_of_lt (by show _ < 8; omega))
  unfold State.opHandover
  rw [if_pos (by rw [hby, hpriv]; simp [hlt, hne])]
  exact ⟨hhanding, hsucc, rfl, hport⟩

end

/-- The loss of a port resets the function of a PCIe port, and nothing of another (R390). -/
theorem State.portReset_eq (s : State) (p : Port) : ∃ x, (if p.val < 2 then s.resetFunction p.val else s) = { s with pcie := x } := by
  split
  · exact ⟨_, rfl⟩
  · exact ⟨s.pcie, rfl⟩

/-- Settles O39. -/
theorem ownership : Obligations.Ownership := by
  unfold Obligations.Ownership
  refine ⟨fun m w s p tok hp ha htok => ?operations, fun s => ?time⟩
  case operations =>
    subst htok
    have hport : p ≠ noPort := by
      unfold portOfMaster at hp
      split at hp
      · have := Option.some.inj hp
        unfold noPort
        omega
      · cases hp
    have hturn : ∀ k, ∃ v, s.OwnTurn v m ∧ s.regWrite m RN.MGT_OWN_OP 0 (putBits w.toNat 0 3 k)
        = (v.ownOp p ((s.heldAt m 0x20010).getD 0) (putBits w.toNat 0 3 k)).completed := fun k => State.regWrite_ownOp hp ha _
    have hclaim : ∃ v, s.OwnTurn v m ∧ exec (.claim m w) s = .next (v.opClaim p ((s.heldAt m 0x20010).getD 0)).completed := by
      obtain ⟨v, hv, hw⟩ := hturn 1
      rw [State.ownOp_claim] at hw
      exact ⟨v, hv, congrArg Host.Outcome.next hw⟩
    have hrenew : ∃ v, s.OwnTurn v m ∧ exec (.renew m w) s = .next (v.opRenew p ((s.heldAt m 0x20010).getD 0)).completed := by
      obtain ⟨v, hv, hw⟩ := hturn 2
      rw [State.ownOp_renew] at hw
      exact ⟨v, hv, congrArg Host.Outcome.next hw⟩
    have hrelease : ∃ v, s.OwnTurn v m ∧ exec (.release m w) s = .next (v.opRelease p ((s.heldAt m 0x20010).getD 0)).completed := by
      obtain ⟨v, hv, hw⟩ := hturn 3
      rw [State.ownOp_release] at hw
      exact ⟨v, hv, congrArg Host.Outcome.next hw⟩
    have hhandover : ∃ v, s.OwnTurn v m ∧ exec (.handover m w) s
        = .next (v.opHandover p ((s.heldAt m 0x20010).getD 0) (bits w.toNat 4 3)).completed := by
      obtain ⟨v, hv, hw⟩ := hturn 4
      rw [State.ownOp_handover] at hw
      exact ⟨v, hv, congrArg Host.Outcome.next hw⟩
    generalize (s.heldAt m 0x20010).getD 0 = tok at *
    refine ⟨?claimed, ?refused, ?renewed, ?released, ?handed, ?bad⟩
    case claimed =>
      intro hlocked hpriv howner htok hfree
      obtain ⟨v, hv, hexec⟩ := hclaim
      have haccept : v.opClaim p tok = v.updOwn (fun o => { o with claims := o.claims ++ [(p, tok)] }) := by
        refine if_pos ?_
        rw [hv.flag (by decide), hlocked, hv.privPort, hpriv, hv.opOwner, hv.handing, hv.fld _ _ (by decide)]
        obtain hnone | ⟨hpending, hsucc⟩ := hfree
        · simp [hport, htok, hnone]
          rw [hnone] at howner
          exact howner
        · simp [hport, howner, htok, hpending, hsucc]
      rw [haccept] at hexec
      refine ⟨_, hexec, State.completed_status _, ?_, ?_, ?_⟩
      · rw [State.completed_own, ← hv.own]
        rfl
      · rw [State.completed_ownerPort]
        exact hv.ownerPort
      · rw [State.completed_heldAt]
        exact hv.held
    case refused =>
      intro hwhy
      obtain ⟨v, hv, hexec⟩ := hclaim
      have hrefuse : v.opClaim p tok = v.latchFor R.MGT_EVT_CLAIM_REFUSED p := by
        refine if_neg ?_
        rw [hv.opOwner, hv.handing]
        obtain h | h | ⟨h1, h2⟩ := hwhy
        · simp [h]
        · simp [h]
        · simp [h1, h2]
      rw [hrefuse] at hexec
      obtain ⟨hown, hlatched⟩ := v.latchFor_ownEvent R.MGT_EVT_CLAIM_REFUSED (by decide) p
      exact ⟨_, hexec, ((State.completed_own _).trans hown).trans hv.own, (State.completed_latched _ _ _).trans hlatched⟩
    case renewed =>
      intro hby
      obtain ⟨v, hv, hexec⟩ := hrenew
      obtain ⟨hlease, hkept⟩ := State.opRenew_spec ((hv.byOwner p tok).trans hby)
      refine ⟨_, hexec, State.completed_status _, ?_, ?_⟩
      · rw [State.completed_own, hlease, hv.frame]
      · rw [State.completed_ownerPort, hkept, hv.ownerPort]
    case released =>
      intro hby
      obtain ⟨v, hv, hexec⟩ := hrelease
      obtain ⟨hreleased, hhanding, hkept⟩ := State.opRelease_spec ((hv.byOwner p tok).trans hby)
      refine ⟨_, hexec, State.completed_status _, ?_, ?_, ?_, ?_⟩
      · rw [State.completed_own, hreleased]
      · unfold State.opOwner
        rw [State.completed_own, hreleased, if_pos rfl]
      · rw [State.completed_handing, hhanding]
      · rw [State.completed_ownerPort, hkept, hv.ownerPort]
    case handed =>
      intro hby hlt hne hpriv
      obtain ⟨v, hv, hexec⟩ := hhandover
      obtain ⟨hhanding, hsucc, hsince, hkept⟩ := State.opHandover_spec ((hv.byOwner p tok).trans hby) hlt hne ((hv.privPort _).trans hpriv)
      refine ⟨_, hexec, State.completed_status _, ?_, ?_, ?_, ?_⟩
      · rw [State.completed_handing, hhanding]
      · rw [State.completed_fld, hsucc]
      · rw [State.completed_own, hsince, hv.frame]
      · rw [State.completed_ownerPort, hkept, hv.ownerPort]
    case bad =>
      intro hnot
      have hbad : ∀ (t v : State), s.OwnTurn v m → t = v.latchFor R.MGT_EVT_BAD_OP p →
          t.completed.own = s.own ∧ t.completed.latched R.MGT_EVT_BAD_OP = true := by
        rintro t v hv rfl
        obtain ⟨hown, hlatched⟩ := v.latchFor_ownEvent R.MGT_EVT_BAD_OP (by decide) p
        exact ⟨((State.completed_own _).trans hown).trans hv.own, (State.completed_latched _ _ _).trans hlatched⟩
      obtain ⟨v1, hv1, hexec1⟩ := hrenew
      obtain ⟨v2, hv2, hexec2⟩ := hrelease
      obtain ⟨v3, hv3, hexec3⟩ := hhandover
      exact ⟨⟨_, hexec1, hbad _ v1 hv1 (if_neg (by rw [hv1.byOwner, hnot]; decide))⟩,
        ⟨_, hexec2, hbad _ v2 hv2 (if_neg (by rw [hv2.byOwner, hnot]; decide))⟩,
        ⟨_, hexec3, hbad _ v3 hv3 (if_neg (by rw [hv3.byOwner, hnot]; simp))⟩⟩
  case time =>
    obtain ⟨hnoPort, hnoToken, hclaims', hnoHand, hexpired, hframe⟩ := s.leaseEnded_spec
    refine ⟨?none, ?one, ?handover, ⟨s, rfl, rfl⟩, ?lost, ?other⟩
    case none =>
      intro howner hreached hclaims
      have helect : s.leaseEnded.elect = s.leaseEnded.updOwn (fun o => { o with claims := [] }) := by
        unfold State.elect
        rw [State.winner_of_no_claim hnoHand (hclaims'.trans hclaims), hclaims', hclaims]
        rfl
      have hexec := exec_leaseExpiry howner hreached
      rw [helect] at hexec
      exact ⟨_, hexec, hnoPort, hnoToken, hnoHand, hexpired⟩
    case one =>
      intro c howner hreached hclaims hc
      have helect : s.leaseEnded.elect = (s.leaseEnded.updOwn (fun o => { o with claims := [] })).grant c := by
        unfold State.elect
        rw [State.winner_of_one_claim hnoHand hnoPort (hclaims'.trans hclaims), hclaims', hclaims]
        simp
      have hexec := exec_leaseExpiry howner hreached
      rw [helect] at hexec
      obtain ⟨hport, htoken, hleft, hlease, hchange⟩ := (s.leaseEnded.updOwn (fun o => { o with claims := [] })).grant_spec (c := c) (by omega)
      exact ⟨_, hexec, hport, htoken, hleft, hlease.trans (congrArg (frameAdd · 2400) hframe), hchange⟩
    case handover =>
      intro hpending hlate
      obtain ⟨hhanding, hown, hkept, hfail⟩ := s.cancelHandover_spec
      exact ⟨_, congrArg Host.Outcome.next (if_pos (by simp [hpending, handoverFrames, hlate])), hhanding, hkept, hown, hfail hpending⟩
    case lost =>
      intro p hp howner
      obtain ⟨x, hx⟩ := s.portReset_eq p
      have hexec : exec (.ownerPortLoss p) s = .next (({ s with pcie := x } : State).updOwn (fun o => { o with lost := true })) := by
        refine congrArg Host.Outcome.next ((if_neg hp).trans ?_)
        rw [hx]
        exact if_pos howner
      exact ⟨_, hexec, rfl, rfl⟩
    case other =>
      intro p howner
      obtain ⟨x, hx⟩ := s.portReset_eq p
      by_cases hp : p = 2
      · exact ⟨s, congrArg Host.Outcome.next (if_pos hp), rfl, rfl⟩
      · have hexec : exec (.ownerPortLoss p) s = .next { s with pcie := x } := by
          refine congrArg Host.Outcome.next ((if_neg hp).trans ?_)
          rw [hx]
          exact if_neg howner
        exact ⟨_, hexec, rfl, rfl⟩

end Sys2Proof.Machine
end

section
/-! O40: a staged value of a counter (R392, R440). -/

namespace Sys2Proof.Machine

/-- A device that is not paired, its DPLL's bandwidths as a commit may leave them. Bank counter 0 counts ticks and stands at 5, its staged value is 5,
and the tick of the frame has still to be counted; the set of values sampled for the commit of the tick is empty. -/
def countsTick : State :=
  { ((((({} : State).setFld R.MAT_STAT_STATE 0 mateSolo).setFld R.PLB_DPLL_BW_BW 0 100).setFld R.PLB_DPLL_ACQ_ACQ_BW 0 100).setFld
      R.CNT_Bc_CFG_SRC 0 0xD).setFld R.CNT_Bc_COUNT 0 5 with
    staged := ({} : Tab (Tab Nat)).put R.CNT_Bc_COUNT.id (({} : Tab Nat).put 0 5), sampled := some {}, plumb := { tickDue := some [] } }

theorem countsTick_failures : firstFailing ({ countsTick with sampled := none }.failures {}) = none := by decide +kernel

theorem countsTick_stg : (State.stampTick countsTick.commitNow.settleTick countsTick).stg R.CNT_Bc_COUNT 0 = 6 := by decide +kernel

/-- Refutes O40: the counter's staged value is the one that its field holds as the commit ends, so nothing is listed for it any more; the tick that is
then counted (R440) takes the field from 5 to 6, and what reads as staged with it. -/
theorem not_commits : ¬ Obligations.Commits := by
  unfold Obligations.Commits
  intro h
  obtain ⟨-, -, -, haccept, -⟩ := h 0 0 countsTick
  obtain ⟨t, ht, -, -, -, -, -, hstaged⟩ := haccept {} rfl (by decide) rfl rfl (fun e he => absurd he (List.not_mem_nil)) countsTick_failures
  obtain rfl := Host.Outcome.next.inj ht
  have hstg := hstaged (by decide) (by decide) R.CNT_Bc_COUNT 0 5 (by decide) (by decide) (by decide) (by decide)
  exact absurd (hstg.symm.trans countsTick_stg) (by decide)

end Sys2Proof.Machine
end

section
/-! O41: event records go to the rings and to the log (R396, R397). -/

namespace Sys2Proof.Machine

/-! ### One record, one ring -/

theorem EvRec.length_bytes (r : EvRec) : (r.words.flatMap (leBytes 4)).length = 16 := by
  unfold EvRec.words
  simp [leBytes_length]

/-- A ring is full: the record after its HEAD is its TAIL (R397). -/
def State.ringAtTail (s : State) (p : Nat) : Prop := (s.fld R.MGT_PORTp_RING_HEAD_HEAD p + 1) % 4096 = s.fld R.MGT_PORTp_RING_TAIL_TAIL p

theorem State.ringWrite_full {s : State} {p : Nat} (h : s.ringAtTail p) (r : EvRec) :
    s.ringWrite p r = (s.satFld R.MGT_PORTp_RING_DROP_COUNT p 1).latchFor R.MGT_EVT_RING_OVF p := if_pos h

theorem State.ringWrite_room {s : State} {p : Nat} (h : ¬ s.ringAtTail p) (r : EvRec) :
    s.ringWrite p r = (s.writeRec (ringBase p + 16 * s.fld R.MGT_PORTp_RING_HEAD_HEAD p) r).setFld R.MGT_PORTp_RING_HEAD_HEAD p
      ((s.fld R.MGT_PORTp_RING_HEAD_HEAD p + 1) % 4096) := if_neg h

/-- The fields of a ring: its ends, and what it has dropped. -/
def ringFields : List Fld := [R.MGT_PORTp_RING_HEAD_HEAD, R.MGT_PORTp_RING_TAIL_TAIL, R.MGT_PORTp_RING_DROP_COUNT]

theorem State.fld_setFld_row (s : State) {f g : Fld} (hfg : f = g ∨ f.id ≠ g.id) {i j : Nat} (h : j ≠ i) (v : Nat) :
    (s.setFld g i v).fld f j = s.fld f j := by
  obtain rfl | hne := hfg
  · exact State.fld_setFld_inst _ _ _ h
  · exact State.fld_setFld_ne _ _ _ _ hne

theorem ringFields_apart : ∀ f ∈ ringFields, f.id ≠ R.MGT_EVT.id ∧ regOk 0x1000 f.id = false
    ∧ (f = R.MGT_PORTp_RING_DROP_COUNT ∨ f.id ≠ R.MGT_PORTp_RING_DROP_COUNT.id)
    ∧ (f = R.MGT_PORTp_RING_HEAD_HEAD ∨ f.id ≠ R.MGT_PORTp_RING_HEAD_HEAD.id) := by decide

/-- One ring's record leaves the other rings' fields. -/
theorem State.fld_ringWrite_other (s : State) {p q : Nat} (hq : q ≠ p) (r : EvRec) {f : Fld} (hf : f ∈ ringFields) :
    (s.ringWrite p r).fld f q = s.fld f q := by
  obtain ⟨hevt, hmem, hdrop, hhead⟩ := ringFields_apart f hf
  by_cases h : s.ringAtTail p
  · rw [State.ringWrite_full h]
    unfold State.latchFor
    rw [State.fld_latchAs_ne _ _ _ _ _ _ hevt]
    exact State.fld_setFld_row _ hdrop hq _
  · rw [State.ringWrite_room h, State.fld_setFld_row _ hhead hq, State.fld_writeRec _ _ _ _ hmem]

/-- The rings lie apart, and every entry within its own. -/
def State.headsWithin (s : State) : Prop := ∀ p, p < 4 → s.fld R.MGT_PORTp_RING_HEAD_HEAD p < 4096

theorem State.headsWithin_ringWrite {s : State} (h : s.headsWithin) (p : Nat) (r : EvRec) : (s.ringWrite p r).headsWithin := by
  intro q hq
  by_cases hqp : q = p
  · subst hqp
    by_cases hfull : s.ringAtTail q
    · rw [State.ringWrite_full hfull]
      unfold State.latchFor State.satFld
      rw [State.fld_latchAs_ne _ _ _ _ _ _ (by decide), State.fld_setFld_ne _ _ _ _ (by decide)]
      exact h q hq
    · rw [State.ringWrite_room hfull, State.fld_setFld_self]
      exact Nat.mod_lt _ (by decide)
  · rw [State.fld_ringWrite_other _ hqp _ (by decide)]
    exact h q hq

theorem State.memWf_ringWrite {s : State} (h : s.MemWf) (p : Nat) (r : EvRec) : (s.ringWrite p r).MemWf :=
  State.ringWrite_k loose_memWf h p r

theorem State.byte_setFld (s : State) (f : Fld) (i v a : Nat) : (s.setFld f i v).byte a = s.byte a := State.byte_congr rfl rfl a

theorem State.byte_setFlag (s : State) (f : Fld) (i : Nat) (b : Bool) (a : Nat) : (s.setFlag f i b).byte a = s.byte a := State.byte_setFld _ _ _ _ a

theorem State.readBytes_congr {s t : State} {a : Nat} (n : Nat) (h : ∀ c, a ≤ c → c < a + n → t.byte c = s.byte c) :
    t.readBytes a n = s.readBytes a n := by
  unfold State.readBytes
  refine List.map_congr_left fun k hk => h _ (Nat.le_add_right _ _) ?_
  rw [List.mem_range] at hk
  omega

theorem State.byte_ringWrite_other {s : State} (h : s.headsWithin) {p q : Nat} (hp : p < 4) (hq : q ≠ p) (r : EvRec) {a : Nat}
    (ha : ringBase q ≤ a) (ha' : a < ringBase q + 0x10000) : (s.ringWrite p r).byte a = s.byte a := by
  by_cases hfull : s.ringAtTail p
  · rw [State.ringWrite_full hfull]
    have hmem : ((s.satFld R.MGT_PORTp_RING_DROP_COUNT p 1).latchFor R.MGT_EVT_RING_OVF p).mem = s.mem := State.latchFor_mem _ _ _
    have hddr : ((s.satFld R.MGT_PORTp_RING_DROP_COUNT p 1).latchFor R.MGT_EVT_RING_OVF p).ddr = s.ddr := State.latchFor_ddr _ _ _
    exact State.byte_congr hmem hddr a
  · have hwithin := h p hp
    rw [State.ringWrite_room hfull, State.byte_setFld]
    refine State.byte_writeBytes_ne _ _ ?_
    rw [EvRec.length_bytes]
    unfold ringBase at *
    omega

theorem State.latched_ringWrite {s : State} (h : s.latched R.MGT_EVT_RING_OVF = true) (p : Nat) (r : EvRec) :
    (s.ringWrite p r).latched R.MGT_EVT_RING_OVF = true := by
  by_cases hfull : s.ringAtTail p
  · rw [State.ringWrite_full hfull]
    exact State.latched_latchAs _ _ _ _ _ (by decide)
  · rw [State.ringWrite_room hfull]
    refine State.latched_of_fld ?_ h
    rw [State.fld_setFld_ne _ _ _ _ (by decide), State.fld_writeRec _ _ _ _ (by decide)]

/-! ### One record, every ring -/

/-- The record `r` goes to the rings of `l`. -/
def State.ringWrites (s : State) (r : EvRec) (l : List Nat) : State := l.foldl (fun t p => t.ringWrite p r) s

/-- Records of other rings leave a ring's fields and bytes. -/
theorem State.ringWrites_other {l : List Nat} (hl : ∀ p ∈ l, p < 4) {s : State} (h : s.headsWithin) {q : Nat} (hq : q ∉ l) (r : EvRec) :
    (∀ f ∈ ringFields, (s.ringWrites r l).fld f q = s.fld f q)
      ∧ ∀ a, ringBase q ≤ a → a < ringBase q + 0x10000 → (s.ringWrites r l).byte a = s.byte a := by
  have key : (s.ringWrites r l).headsWithin ∧ (∀ f ∈ ringFields, (s.ringWrites r l).fld f q = s.fld f q)
      ∧ ∀ a, ringBase q ≤ a → a < ringBase q + 0x10000 → (s.ringWrites r l).byte a = s.byte a := by
    refine foldl_mem_k (K := fun t : State => t.headsWithin ∧ (∀ f ∈ ringFields, t.fld f q = s.fld f q)
      ∧ ∀ a, ringBase q ≤ a → a < ringBase q + 0x10000 → t.byte a = s.byte a) _ _ ⟨h, fun _ _ => rfl, fun _ _ _ => rfl⟩ ?_
    rintro t p hp ⟨hwithin, hfld, hbyte⟩
    have hne : q ≠ p := fun e => hq (e ▸ hp)
    exact ⟨State.headsWithin_ringWrite hwithin p r, fun f hf => (State.fld_ringWrite_other _ hne _ hf).trans (hfld f hf),
      fun a h1 h2 => (State.byte_ringWrite_other hwithin (hl p hp) hne r h1 h2).trans (hbyte a h1 h2)⟩
  exact key.2

theorem State.headsWithin_ringWrites {s : State} (h : s.headsWithin) (r : EvRec) (l : List Nat) : (s.ringWrites r l).headsWithin :=
  foldl_k (K := State.headsWithin) _ _ h fun _ p ht => State.headsWithin_ringWrite ht p r

theorem State.memWf_ringWrites {s : State} (h : s.MemWf) (r : EvRec) (l : List Nat) : (s.ringWrites r l).MemWf :=
  foldl_k (K := State.MemWf) _ _ h fun _ p ht => State.memWf_ringWrite ht p r

theorem State.latched_ringWrites {s : State} (h : s.latched R.MGT_EVT_RING_OVF = true) (r : EvRec) (l : List Nat) :
    (s.ringWrites r l).latched R.MGT_EVT_RING_OVF = true :=
  foldl_k (K := fun t => t.latched R.MGT_EVT_RING_OVF = true) _ _ h fun _ p ht => State.latched_ringWrite ht p r

/-- A ring's own record, between those of the other rings: the state before it and the one after it differ from the first and the last state in nothing
of the ring. -/
theorem State.ringWrites_own {l : List Nat} (hl : ∀ p ∈ l, p < 4) {s : State} (h : s.headsWithin) (hwf : s.MemWf) (hnodup : l.Nodup) {p : Nat}
    (hp : p ∈ l) (r : EvRec) :
    ∃ (u : State) (l' : List Nat), u.headsWithin ∧ u.MemWf ∧ (∀ f ∈ ringFields, u.fld f p = s.fld f p)
      ∧ s.ringWrites r l = (u.ringWrite p r).ringWrites r l'
      ∧ (∀ f ∈ ringFields, (s.ringWrites r l).fld f p = (u.ringWrite p r).fld f p)
      ∧ ∀ a, ringBase p ≤ a → a < ringBase p + 0x10000 → (s.ringWrites r l).byte a = (u.ringWrite p r).byte a := by
  obtain ⟨l1, l2, rfl⟩ := List.append_of_mem hp
  obtain ⟨hl2, hnodup'⟩ := List.nodup_cons.mp (List.nodup_middle.mp hnodup)
  have hn1 : p ∉ l1 := fun hm => hl2 (List.mem_append_left _ hm)
  have hn2 : p ∉ l2 := fun hm => hl2 (List.mem_append_right _ hm)
  have heq : s.ringWrites r (l1 ++ p :: l2) = ((s.ringWrites r l1).ringWrite p r).ringWrites r l2 := List.foldl_append
  have hwithin := State.headsWithin_ringWrites h r l1
  obtain ⟨hfld1, -⟩ := State.ringWrites_other (fun q hq => hl q (List.mem_append_left _ hq)) h hn1 r
  obtain ⟨hfld2, hbyte2⟩ := State.ringWrites_other (fun q hq => hl q (List.mem_append_right _ (List.mem_cons_of_mem _ hq)))
    (State.headsWithin_ringWrite hwithin p r) hn2 r
  exact ⟨s.ringWrites r l1, l2, hwithin, State.memWf_ringWrites hwf r l1, hfld1, heq, heq ▸ hfld2, heq ▸ hbyte2⟩

/-- A ring with room takes the record at its HEAD, which advances. -/
theorem State.ringWrites_room {l : List Nat} (hl : ∀ p ∈ l, p < 4) {s : State} (h : s.headsWithin) (hwf : s.MemWf) (hnodup : l.Nodup) {p : Nat}
    (hp : p ∈ l) (hroom : ¬ s.ringAtTail p) (r : EvRec) :
    (s.ringWrites r l).fld R.MGT_PORTp_RING_HEAD_HEAD p = (s.fld R.MGT_PORTp_RING_HEAD_HEAD p + 1) % 4096
      ∧ (s.ringWrites r l).readBytes (ringBase p + 16 * s.fld R.MGT_PORTp_RING_HEAD_HEAD p) 16 = r.words.flatMap (leBytes 4) := by
  obtain ⟨u, l', hwithin, huwf, hu, -, hfld, hbyte⟩ := State.ringWrites_own hl h hwf hnodup hp r
  have hhead := hu R.MGT_PORTp_RING_HEAD_HEAD (by decide)
  have htail := hu R.MGT_PORTp_RING_TAIL_TAIL (by decide)
  have hlt := h p (hl p hp)
  have hroom' : ¬ u.ringAtTail p := by
    unfold State.ringAtTail at hroom ⊢
    rwa [hhead, htail]
  have hbytes : (s.ringWrites r l).readBytes (ringBase p + 16 * s.fld R.MGT_PORTp_RING_HEAD_HEAD p) 16
      = (u.ringWrite p r).readBytes (ringBase p + 16 * s.fld R.MGT_PORTp_RING_HEAD_HEAD p) 16 :=
    State.readBytes_congr 16 fun c h1 h2 => hbyte c (by omega) (by omega)
  rw [hfld _ (by decide), hbytes, State.ringWrite_room hroom', hhead, State.fld_setFld_self]
  refine ⟨Nat.mod_eq_of_lt (Nat.mod_lt _ (by decide)), ?_⟩
  have hstored := State.readBytes_writeBytes huwf (ringBase p + 16 * s.fld R.MGT_PORTp_RING_HEAD_HEAD p) (r.words.flatMap (leBytes 4))
  rw [EvRec.length_bytes] at hstored
  exact (State.readBytes_congr 16 fun c _ _ => State.byte_setFld _ _ _ _ c).trans hstored

/-- A ring without room drops the record. -/
theorem State.ringWrites_full {l : List Nat} (hl : ∀ p ∈ l, p < 4) {s : State} (h : s.headsWithin) (hwf : s.MemWf) (hnodup : l.Nodup) {p : Nat}
    (hp : p ∈ l) (hfull : s.ringAtTail p) (r : EvRec) :
    (s.ringWrites r l).fld R.MGT_PORTp_RING_HEAD_HEAD p = s.fld R.MGT_PORTp_RING_HEAD_HEAD p
      ∧ (s.ringWrites r l).latched R.MGT_EVT_RING_OVF = true
      ∧ (s.ringWrites r l).fld R.MGT_PORTp_RING_DROP_COUNT p
        = satAdd (2 ^ R.MGT_PORTp_RING_DROP_COUNT.width - 1) (s.fld R.MGT_PORTp_RING_DROP_COUNT p) 1 := by
  obtain ⟨u, l', -, -, hu, heq, hfld, -⟩ := State.ringWrites_own hl h hwf hnodup hp r
  have hhead := hu R.MGT_PORTp_RING_HEAD_HEAD (by decide)
  have hdrop := hu R.MGT_PORTp_RING_DROP_COUNT (by decide)
  have htail := hu R.MGT_PORTp_RING_TAIL_TAIL (by decide)
  have hfull' : u.ringAtTail p := by
    unfold State.ringAtTail at hfull ⊢
    rwa [hhead, htail]
  refine ⟨?_, ?_, ?_⟩
  · rw [hfld _ (by decide), State.ringWrite_full hfull', ← hhead]
    unfold State.latchFor State.satFld
    rw [State.fld_latchAs_ne _ _ _ _ _ _ (by decide), State.fld_setFld_ne _ _ _ _ (by decide)]
  · rw [heq]
    refine State.latched_ringWrites ?_ r l'
    rw [State.ringWrite_full hfull']
    exact State.latched_latchAs _ _ _ _ _ (by decide)
  · rw [hfld _ (by decide), State.ringWrite_full hfull', ← hdrop]
    unfold State.latchFor
    rw [State.fld_latchAs_ne _ _ _ _ _ _ (by decide), State.fld_satFld_self]

/-- Storing a record leaves the queues. -/
theorem State.queues_writeRec (s : State) (a : Nat) (r : EvRec) : (s.writeRec a r).ringQ = s.ringQ ∧ (s.writeRec a r).logQ = s.logQ :=
  ⟨State.writeRec_k (K := fun t => Part.same s t .ringQ) (loose_part s .ringQ (by decide) (by decide) (by decide)) rfl a r,
    State.writeRec_k (K := fun t => Part.same s t .logQ) (loose_part s .logQ (by decide) (by decide) (by decide)) rfl a r⟩

/-- While every ring of `l` has room, no record waits that did not. -/
theorem State.queues_ringWrites {l : List Nat} {s : State} (hl : ∀ p ∈ l, p < 4) (h : s.headsWithin) (hnodup : l.Nodup)
    (hroom : ∀ p ∈ l, ¬ s.ringAtTail p) (r : EvRec) :
    (s.ringWrites r l).ringQ = s.ringQ ∧ (s.ringWrites r l).logQ = s.logQ := by
  induction l generalizing s with
  | nil => exact ⟨rfl, rfl⟩
  | cons p l ih =>
    obtain ⟨hp, hnodup'⟩ := List.nodup_cons.mp hnodup
    have hfirst := State.ringWrite_room (hroom p (List.mem_cons_self ..)) r
    have hqueues : (s.ringWrite p r).ringQ = s.ringQ ∧ (s.ringWrite p r).logQ = s.logQ := by
      rw [hfirst, State.setFld_ringQ, State.setFld_logQ]
      exact s.queues_writeRec _ r
    have hrest : ∀ q ∈ l, ¬ (s.ringWrite p r).ringAtTail q := by
      intro q hq
      have hne : q ≠ p := fun e => hp (e ▸ hq)
      unfold State.ringAtTail
      rw [State.fld_ringWrite_other _ hne _ (by decide), State.fld_ringWrite_other _ hne _ (by decide)]
      exact hroom q (List.mem_cons_of_mem _ hq)
    obtain ⟨h1, h2⟩ := ih (fun q hq => hl q (List.mem_cons_of_mem _ hq)) (State.headsWithin_ringWrite h p r) hnodup' hrest
    exact ⟨h1.trans hqueues.1, h2.trans hqueues.2⟩

/-! ### The statement -/

/-- The ports that have a ring (R397). -/
def State.ringPorts (s : State) : List Nat := (List.range 4).filter (fun p => s.flag R.MGT_PORTp_CFG_RING_EN p)

theorem State.mem_ringPorts {s : State} {p : Nat} : p ∈ s.ringPorts ↔ p < 4 ∧ s.flag R.MGT_PORTp_CFG_RING_EN p = true := by
  unfold State.ringPorts
  rw [List.mem_filter, List.mem_range]

theorem State.nodup_ringPorts (s : State) : s.ringPorts.Nodup := List.nodup_range.filter _

theorem exec_eventRecord {s : State} {r : EvRec} (hr : nextRec s.ringQ = some r) :
    exec .eventRecord s = .next (State.ringWrites { s with ringQ := s.ringQ.erase r } r s.ringPorts) := by
  show execEventRecord s = _
  unfold execEventRecord
  rw [hr]
  rfl

/-- The state after the oldest record that waits has gone to the log. -/
def State.logged (s : State) (r : EvRec) (rest : List EvRec) : State :=
  ({ s with logQ := rest }.writeRec (s.fld R.MGT_LOG_BASE_BASE + 16 * s.fld R.MGT_LOG_IDX_NEXT) r).setFld R.MGT_LOG_IDX_NEXT 0
    ((s.fld R.MGT_LOG_IDX_NEXT + 1) % eventLogRecords)

theorem exec_eventLogRecord {s : State} {r : EvRec} {rest : List EvRec} (hq : s.logQ = r :: rest) (hbase : s.fld R.MGT_LOG_BASE_BASE ≠ 0) :
    exec .eventLogRecord s = .next (if s.fld R.MGT_LOG_IDX_NEXT + 1 = eventLogRecords then (s.logged r rest).setFlag R.MGT_LOG_IDX_WRAPPED 0 true
      else s.logged r rest) := by
  show execEventLogRecord s = _
  unfold execEventLogRecord
  rw [hq]
  exact congrArg Host.Outcome.next (if_neg hbase)

theorem State.logged_spec {s : State} (hwf : s.MemWf) (r : EvRec) (rest : List EvRec) :
    (s.logged r rest).logQ = rest
      ∧ StoresAt s (s.logged r rest) (s.fld R.MGT_LOG_BASE_BASE + 16 * s.fld R.MGT_LOG_IDX_NEXT) (r.words.flatMap (leBytes 4))
      ∧ (s.logged r rest).fld R.MGT_LOG_IDX_NEXT = (s.fld R.MGT_LOG_IDX_NEXT + 1) % 2 ^ 20 := by
  have hwf' : ({ s with logQ := rest } : State).MemWf := hwf
  unfold State.logged
  refine ⟨?_, ⟨?_, fun c hc => ?_⟩, ?_⟩
  · rw [State.setFld_logQ, (State.queues_writeRec _ _ r).2]
  · exact (State.readBytes_congr _ fun c _ _ => State.byte_setFld _ _ _ _ c).trans (State.readBytes_writeBytes hwf' _ _)
  · rw [State.byte_setFld]
    unfold State.writeRec
    rw [State.byte_writeBytes_ne _ _ hc]
    exact State.byte_congr rfl rfl c
  · exact (State.fld_setFld_self _ _ _ _).trans (Nat.mod_eq_of_lt (Nat.mod_lt _ (by decide)))

/-- Settles O41: a ring's record lies between records of other rings, which leave its ends, its count and its 64 KiB as they are. -/
theorem eventRecords : Obligations.EventRecords := by
  unfold Obligations.EventRecords
  intro s hwf
  refine ⟨?_, ?_⟩
  · intro r hr hheads
    have hwithin : State.headsWithin { s with ringQ := s.ringQ.erase r } := hheads
    have hwf' : State.MemWf { s with ringQ := s.ringQ.erase r } := hwf
    have hl : ∀ p ∈ s.ringPorts, p < 4 := fun p hp => (State.mem_ringPorts.mp hp).1
    refine ⟨_, exec_eventRecord hr, ?_, ?_, ?_, ?_⟩
    · intro hroom
      exact State.queues_ringWrites hl hwithin s.nodup_ringPorts
        (fun p hp => hroom p (State.mem_ringPorts.mp hp).1 (State.mem_ringPorts.mp hp).2) r
    · intro p hp hen hroom
      exact State.ringWrites_room hl hwithin hwf' s.nodup_ringPorts (State.mem_ringPorts.mpr ⟨hp, hen⟩) hroom r
    · intro p hp hen hfull
      exact State.ringWrites_full hl hwithin hwf' s.nodup_ringPorts (State.mem_ringPorts.mpr ⟨hp, hen⟩) hfull r
    · intro p _ hen
      have hout : p ∉ s.ringPorts := fun hm => absurd ((State.mem_ringPorts.mp hm).2.symm.trans hen) (by decide)
      exact (State.ringWrites_other hl hwithin hout r).1 _ (by decide)
  · intro r rest hq hbase
    refine ⟨_, exec_eventLogRecord hq hbase, ?_⟩
    obtain ⟨hlog, hstored, hnext⟩ := State.logged_spec hwf r rest
    by_cases hlast : s.fld R.MGT_LOG_IDX_NEXT + 1 = eventLogRecords
    · rw [if_pos hlast]
      exact ⟨(State.setFlag_logQ _ _ _ _).trans hlog, ⟨(State.readBytes_congr _ fun c _ _ => State.byte_setFlag _ _ _ _ c).trans hstored.1,
        fun c hc => (State.byte_setFlag _ _ _ _ c).trans (hstored.2 c hc)⟩, (State.fld_setFlag_ne _ _ _ _ (by decide)).trans hnext⟩
    · rw [if_neg hlast]
      exact ⟨hlog, hstored, hnext⟩

end Sys2Proof.Machine
end

section
/-! O42: MSI-X vectors and configuration requests of the PCIe ports (R341, R373, R398). -/

namespace Sys2Proof.Machine

/-! ### Vectors -/

theorem State.updPcie_get (s : State) (p : Nat) (f : Pcie → Pcie) : (s.updPcie p f).pcie.get p {} = f (s.pcie.get p {}) :=
  Tab.get_put_self _ _ _ _

theorem testBit_sub_two_pow_self {x v : Nat} (h : x.testBit v = true) : (x - 2 ^ v).testBit v = false := by
  have hpos : 0 < 2 ^ v := Nat.two_pow_pos v
  have hone : (x / 2 ^ v) % 2 = 1 := by simpa [Nat.testBit_eq_decide_div_mod_eq] using h
  have hdiv : (x - 2 ^ v) / 2 ^ v = x / 2 ^ v - 1 := by
    have := Nat.sub_mul_div x (2 ^ v) 1
    rwa [Nat.mul_one] at this
  rw [Nat.testBit_eq_decide_div_mod_eq, hdiv]
  simp only [decide_eq_false_iff_not]
  omega

theorem Pcie.call_on {c : Pcie} {v : Nat} (hon : c.msixOn = true) (hm : c.masked v = false) : c.call v = c.send v := by
  unfold Pcie.call
  rw [hon, hm]
  rfl

theorem Pcie.call_masked {c : Pcie} {v : Nat} (hon : c.msixOn = true) (hm : c.masked v = true) : c.call v = { c with pba := orBit c.pba v } := by
  unfold Pcie.call
  rw [hon, hm]
  rfl

/-- A condition that comes true, once messages are sent. -/
theorem exec_msixSend_rise {p : Fin 2} {v : Fin 64} {s : State} (h : s.vectorHolds p v = true) (hseen : (s.pcie.get p {}).seen.testBit v = false)
    (hserved : s.served = true) :
    ∃ t, exec (.msixSend p v) s = .next t
      ∧ t.pcie.get p {} = ({ s.pcie.get p {} with seen := orBit (s.pcie.get p {}).seen v } : Pcie).call v := by
  refine ⟨_, rfl, (State.updPcie_get _ _ _).trans ?_⟩
  rw [h, hseen, hserved]
  rfl

/-- A condition that does not hold is not seen. -/
theorem exec_msixSend_fall {p : Fin 2} {v : Fin 64} {s : State} (h : s.vectorHolds p v = false) :
    ∃ t, exec (.msixSend p v) s = .next t ∧ (t.pcie.get p {}).seen.testBit v = false ∧ (t.pcie.get p {}).sent = (s.pcie.get p {}).sent := by
  refine ⟨_, rfl, ?_⟩
  rw [State.updPcie_get, h]
  refine ⟨?_, rfl⟩
  show (if (s.pcie.get p {}).seen.testBit v then (s.pcie.get p {}).seen - 2 ^ v.val else (s.pcie.get p {}).seen).testBit v = false
  split
  · rename_i hset
    exact testBit_sub_two_pow_self hset
  · rename_i hclear
    exact Bool.eq_false_iff.mpr hclear

/-! ### EOI -/

theorem State.regs_setFld_ne (s : State) {f : Fld} {id : Nat} (h : id ≠ f.id) (i v : Nat) : (s.setFld f i v).regs.get id {} = s.regs.get id {} :=
  Tab.get_put_ne _ _ _ h

theorem State.regs_park_ne (s : State) (m a : Nat) {id : Nat} (h : id ≠ R.MTX_STAT_PARK.id) :
    (s.park m (.reg a)).regs.get id {} = s.regs.get id {} := by
  unfold State.park
  dsimp only
  split
  · exact State.regs_setFld_ne _ h _ _
  · rfl

theorem State.pendingIn_congr {s u : State} {evt en : Fld} (hevt : u.regs.get evt.id {} = s.regs.get evt.id {})
    (hen : ∀ i, u.fld en i = s.fld en i) (p : Nat → Bool) : u.pendingIn evt en p = s.pendingIn evt en p := by
  unfold State.pendingIn
  simp only [hevt, hen]

/-- Parking the path to a register changes no vector's condition. -/
theorem State.pendingIn_park (s : State) (m a : Nat) {evt en : Fld} (hevt : evt.id ≠ R.MTX_STAT_PARK.id) (hen : en.id ≠ R.MTX_STAT_PARK.id)
    (p : Nat → Bool) : (s.park m (.reg a)).pendingIn evt en p = s.pendingIn evt en p :=
  State.pendingIn_congr (State.regs_park_ne s m a hevt) (fun i => State.fld_park_ne s m _ i hen) p

theorem islandEvents_apart (c : Nat) : ∀ e ∈ islandEvents c, e.1.id ≠ R.MTX_STAT_PARK.id ∧ e.2.id ≠ R.MTX_STAT_PARK.id := by
  unfold islandEvents
  split <;> decide

theorem State.islandPending_park (s : State) (m a c : Nat) : (s.park m (.reg a)).islandPending c = s.islandPending c := by
  unfold State.islandPending
  refine Bool.eq_iff_iff.mpr ?_
  simp only [List.any_eq_true]
  refine exists_congr fun e => and_congr_right fun he => ?_
  obtain ⟨h1, h2⟩ := islandEvents_apart c e he
  rw [State.pendingIn_park s m a h1 h2]

theorem State.vectorHolds_park (s : State) (m a p v : Nat) : (s.park m (.reg a)).vectorHolds p v = s.vectorHolds p v := by
  unfold State.vectorHolds State.ringFull State.lanePending State.bentPending State.groupPending
  simp (disch := decide) only [State.islandPending_park, State.pendingIn_park, State.fld_park_ne]

/-- Seeing which conditions hold sends nothing. -/
theorem State.seeConditions_sent (s : State) (p : Nat) : (s.seeConditions.pcie.get p {}).sent = (s.pcie.get p {}).sent := by
  unfold State.seeConditions
  refine foldl_k (K := fun t => (t.pcie.get p {}).sent = (s.pcie.get p {}).sent) _ _ rfl ?_
  intro t q ht
  dsimp only
  split
  · exact ht
  · by_cases hq : p = q
    · subst hq
      rw [State.updPcie_get]
      exact ht
    · exact (congrArg Pcie.sent (Tab.get_put_ne _ _ _ hq)).trans ht

theorem State.completed_sent (s : State) (p : Nat) : (s.completed.pcie.get p {}).sent = (s.pcie.get p {}).sent :=
  State.seeConditions_sent (s.answer .ok []) p

def eoiReg : Reg := ⟨RN.MGT_PORTp_EOI, 0x20114, 0, 4, 0x20, .single, [⟨R.MGT_PORTp_EOI_VECTOR, 0, 0, 6⟩]⟩

theorem State.writeEffect_eoi (s o : State) (m i w : Nat) : s.writeEffect o m RN.MGT_PORTp_EOI i w none = s.portEoi i w := rfl

theorem State.portEoi_of_holds {s : State} {p w : Nat} (hp : p < 2) (hserved : s.served = true) (h : s.vectorHolds p (bits w 0 6) = true) :
    s.portEoi p w = s.updPcie p (fun c => c.call (bits w 0 6)) := by
  unfold State.portEoi
  dsimp only
  rw [hserved, h, decide_eq_true hp]
  rfl

/-- EOI on a vector whose condition holds sends it again (R398). -/
theorem State.regWrite_eoi {s : State} {m i : Nat} (hi : i < 2) (ha : s.accepts m RN.MGT_PORTp_EOI i = true) (hserved : s.served = true) {w : Nat}
    (h : s.vectorHolds i (bits w 0 6) = true) (hon : (s.pcie.get i {}).msixOn = true) (hm : (s.pcie.get i {}).masked (bits w 0 6) = false) :
    (s.regWrite m RN.MGT_PORTp_EOI i w).resp.status = .ok
      ∧ ((s.regWrite m RN.MGT_PORTp_EOI i w).pcie.get i {}).sent = ((s.pcie.get i {}).send (bits w 0 6)).sent := by
  have hw := State.regWrite_command (r := eoiReg) (by decide) (Nat.zero_le _) (Nat.lt_of_lt_of_le hi (by decide)) (by decide) (by decide) ha w
  rw [State.journalWrite_of_unjournalled (by decide)] at hw
  have heffect := State.writeEffect_eoi (s.park m (.reg (eoiReg.addr i))) (s.park m (.reg (eoiReg.addr i))) m i w
  have hserved' : (s.park m (.reg (eoiReg.addr i))).served = true := by
    unfold State.served State.phase
    rw [State.fld_park_ne s m _ 0 (by decide)]
    exact hserved
  have hpcie : (s.park m (.reg (eoiReg.addr i))).pcie = s.pcie := by
    obtain ⟨r, hr⟩ := State.park_eq s m (eoiReg.addr i)
    rw [hr]
  have hcall := State.portEoi_of_holds hi hserved' ((State.vectorHolds_park s m _ i _).trans h)
  have hall := hw.trans (congrArg State.completed (heffect.trans hcall))
  have hid : s.regWrite m RN.MGT_PORTp_EOI i w = s.regWrite m eoiReg.id i w := rfl
  rw [hid, hall]
  refine ⟨State.completed_status _, ?_⟩
  rw [State.completed_sent, State.updPcie_get, hpcie, Pcie.call_on hon hm]

/-! ### Configuration requests -/

/-- One vector of `Pcie.flush`. -/
def Pcie.flushOne (c : Pcie) (v : Nat) : Pcie := if c.msixOn && c.pba.testBit v && !c.masked v then c.send v else c

theorem Pcie.flush_eq (c : Pcie) : c.flush = (List.range 64).foldl Pcie.flushOne c := rfl

theorem Pcie.flushOne_settings (c : Pcie) (v : Nat) : (c.flushOne v).msixOn = c.msixOn ∧ (c.flushOne v).msixMask = c.msixMask := by
  unfold Pcie.flushOne
  split <;> exact ⟨rfl, rfl⟩

/-- Sending what is pending changes no setting. -/
theorem Pcie.flush_settings (c : Pcie) : c.flush.msixOn = c.msixOn ∧ c.flush.msixMask = c.msixMask := by
  rw [Pcie.flush_eq]
  generalize List.range 64 = l
  induction l generalizing c with
  | nil => exact ⟨rfl, rfl⟩
  | cons v l ih =>
    obtain ⟨h1, h2⟩ := c.flushOne_settings v
    obtain ⟨h3, h4⟩ := ih (c.flushOne v)
    exact ⟨h3.trans h1, h4.trans h2⟩

/-- A write of Message Control: the vectors that it lets through are sent. -/
def Pcie.control (on mask : Bool) (c : Pcie) : Pcie := ({ c with msixOn := on, msixMask := mask } : Pcie).flush

theorem Pcie.control_settings (on mask : Bool) (c : Pcie) : (c.control on mask).msixOn = on ∧ (c.control on mask).msixMask = mask :=
  Pcie.flush_settings { c with msixOn := on, msixMask := mask }

theorem exec_config_msix {p : Fin 2} {s : State} (h : s.served = true) (on mask : Bool) :
    exec (.pcieConfigRequest p (.msix on mask)) s = .next ((s.updPcie p.val (Pcie.control on mask)).answer .ok []) :=
  congrArg Host.Outcome.next (if_neg (by simp [h]))

/-- Bits cleared by a write of ones. -/
theorem testBit_clear (a w : Nat) {k : Nat} (hk : k < 32) :
    (Nat.land a (Nat.xor (2 ^ 32 - 1) w)).testBit k = (a.testBit k && !w.testBit k) := by
  show (a &&& ((2 ^ 32 - 1) ^^^ w)).testBit k = _
  rw [Nat.testBit_and, Nat.testBit_xor, Nat.testBit_two_pow_sub_one, decide_eq_true hk, Bool.true_xor]

theorem deviceControl_eq (c : Pcie) : c.deviceControl = 32 * c.mps + 4096 * c.mrrs := by
  unfold Pcie.deviceControl
  omega

/-- Settles O42, each clause from what one event does to the port's PCIe state. -/
theorem pciePorts : Obligations.PciePorts := by
  unfold Obligations.PciePorts
  rintro p v s c rfl
  have hready : s.served = true → ¬ (!s.served && !s.recovery) = true := fun h => by simp [h]
  refine ⟨?sent, ?masked, ?fall, ?eoi, ?retry, ?identity, ?msix, ?msixRead, ?sizes, ?sizesRead, ?aerRead, ?aerClear, ?perst⟩
  case sent =>
    intro hholds hseen hserved hon hm
    obtain ⟨t, ht, hpcie⟩ := exec_msixSend_rise hholds hseen hserved
    have hsend := hpcie.trans (Pcie.call_on (c := { s.pcie.get p {} with seen := orBit (s.pcie.get p {}).seen v }) hon hm)
    refine ⟨t, ht, ?_, ?_⟩
    · rw [hsend]
      exact testBit_orBit_self _ _
    · rw [hsend]
      rfl
  case masked =>
    intro hholds hseen hserved hon hm
    obtain ⟨t, ht, hpcie⟩ := exec_msixSend_rise hholds hseen hserved
    have hpend := hpcie.trans (Pcie.call_masked (c := { s.pcie.get p {} with seen := orBit (s.pcie.get p {}).seen v }) hon hm)
    refine ⟨t, ht, ?_, ?_⟩
    · rw [hpend]
      exact testBit_orBit_self _ _
    · rw [hpend]
  case fall =>
    intro hholds
    exact exec_msixSend_fall hholds
  case eoi =>
    rintro m q w hq ha hserved hv hholds hon hm
    rw [← hv] at hholds hm
    obtain ⟨hok, hsent⟩ := State.regWrite_eoi (i := p) p.isLt ha hserved hholds hon hm
    rw [← hq] at hok hsent
    refine ⟨_, rfl, hok, ?_⟩
    rw [← hq, hsent, ← hv]
    rfl
  case retry =>
    intro r hserved hrec
    exact ⟨_, congrArg Host.Outcome.next (if_pos (by simp [hserved, hrec])), rfl, rfl⟩
  case identity =>
    intro hserved
    refine ⟨_, congrArg Host.Outcome.next (if_neg (hready hserved)), rfl, s.cfgRead p.val 0, rfl, ?_⟩
    have hread : s.cfgRead p.val 0 = 0x3236 * 2 ^ 16 + Config.cfgSpace 0 % 2 ^ 16 := by
      unfold State.cfgRead
      exact if_pos rfl
    rw [hread]
    omega
  case msix =>
    intro on mask hserved
    obtain ⟨hon, hmask⟩ := Pcie.control_settings on mask (s.pcie.get p {})
    have hpcie := State.updPcie_get s p (Pcie.control on mask)
    exact ⟨_, exec_config_msix hserved on mask, rfl, (congrArg Pcie.msixOn hpcie).trans hon, (congrArg Pcie.msixMask hpcie).trans hmask⟩
  case msixRead =>
    intro hserved
    exact ⟨_, congrArg Host.Outcome.next (if_neg (hready hserved)), rfl, rfl⟩
  case sizes =>
    intro mps mrrs hserved
    have hpcie := State.updPcie_get s p.val (fun c => { c with mps := min 1 mps.val, mrrs := min 2 mrrs.val })
    have hmps : min 1 mps.val = if mps.val = 0 then 0 else 1 := by split <;> omega
    have hmrrs : min 2 mrrs.val = if mrrs.val ≤ 1 then mrrs.val else 2 := by split <;> omega
    exact ⟨_, congrArg Host.Outcome.next (if_neg (hready hserved)), rfl, (congrArg Pcie.mps hpcie).trans hmps,
      (congrArg Pcie.mrrs hpcie).trans hmrrs⟩
  case sizesRead =>
    intro hserved
    refine ⟨_, congrArg Host.Outcome.next (if_neg (hready hserved)), rfl, ?_⟩
    show [(s.pcie.get p {}).deviceControl] = _
    rw [deviceControl_eq]
  case aerRead =>
    intro hserved
    exact ⟨_, congrArg Host.Outcome.next (if_neg (hready hserved)), ⟨rfl, rfl⟩, rfl⟩
  case aerClear =>
    intro w hserved
    refine ⟨_, congrArg Host.Outcome.next (if_neg (hready hserved)), rfl, fun k hk => ?_⟩
    have hget := congrArg Pcie.aer (State.updPcie_get s p.val (fun c => { c with aer := Nat.land c.aer (Nat.xor (2 ^ 32 - 1) w.toNat) }))
    exact (congrArg (fun x => x.testBit k) hget).trans (testBit_clear _ _ hk)
  case perst =>
    refine ⟨_, rfl, ?_, ?_⟩
    · exact congrArg Pcie.perst (Tab.get_put_self s.pcie p.val _ _)
    · exact congrArg Pcie.training (Tab.get_put_self s.pcie p.val _ _)

end Sys2Proof.Machine
end

section
/-! O43: DDR5 retraining, patrol and the units that a read finds bad (R426, R434 to R436). -/

namespace Sys2Proof.Machine

/-! ### Retraining -/

theorem State.chMissing_congr {s u : State} (h : ∀ n, u.chState n = s.chState n) : u.chMissing = s.chMissing := by
  unfold State.chMissing State.chGone
  simp only [h]

theorem State.chState_setChState (s : State) (n st : Nat) : (s.setChState n st).chState n = st % 2 ^ R.DDR_CHn_STAT_STATE.width := by
  unfold State.setChState State.chState
  rw [State.fld_setFld_ne _ _ _ _ (by decide), State.fld_setFld_self]

theorem State.retrain_down {s : State} {n : Nat} (h : s.chState n = chDown) : s.retrain n = s.latch R.DDR_EVT_RETRAIN_REFUSED := if_pos h

theorem State.retrain_online {s : State} {n : Nat} (h : s.chState n = chOnline) (hm : s.chMissing = false) : s.retrain n = s.takeOffline n := by
  unfold State.retrain
  rw [if_neg (by rw [h]; decide), if_neg (by rw [h]; decide), hm]
  exact if_neg Bool.false_ne_true

theorem State.retrain_missing {s : State} {n : Nat} (h : s.chState n = chOnline) (hm : s.chMissing = true) :
    s.retrain n = s.updDdr (fun d => if d.waiting.contains n then d else { d with waiting := d.waiting ++ [n] }) := by
  unfold State.retrain
  rw [if_neg (by rw [h]; decide), if_neg (by rw [h]; decide), if_pos hm]

theorem State.chState_takeOffline (s : State) (n : Nat) : (s.takeOffline n).chState n = chOffline :=
  State.chState_setChState s n chOffline

/-- What calls for a retraining of an ONLINE channel takes it OFFLINE, while no other is missing. -/
theorem State.chState_retrain {s : State} {n : Nat} (h : s.chState n = chOnline) (hm : s.chMissing = false) : (s.retrain n).chState n = chOffline := by
  rw [State.retrain_online h hm]
  exact s.chState_takeOffline n

theorem State.retrainCtrl_go (s : State) (n w : Nat) : s.retrainCtrl n (putBits w 0 1 1) = s.retrain n := if_pos (bit_putBits_one _ _)

def chCtrlReg : Reg := ⟨RN.DDR_CHn_CTRL, 0x50100, 0, 8, 0x10, .single, [⟨R.DDR_CHn_CTRL_RETRAIN, 0, 0, 1⟩]⟩

theorem State.writeEffect_chCtrl (s o : State) (m i w : Nat) : s.writeEffect o m RN.DDR_CHn_CTRL i w none = s.retrainCtrl i w := rfl

/-- An accepted write of DDR_CHn_CTRL calls for a retraining, behind the parked path. -/
theorem exec_ddrRetrain_write {n : Fin 8} {m : Master} {w : Word} {s : State} (ha : s.accepts m RN.DDR_CHn_CTRL n = true) :
    ∃ u : State, s.Parked u ∧ exec (.ddrRetrain n (.write m w)) s = .next (u.retrain n).completed := by
  obtain ⟨u, hu, hw⟩ := State.regWrite_unjournalled (r := chCtrlReg) (by decide) (Nat.zero_le _) n.isLt (by decide) (by decide) (by decide) ha
    (putBits w.toNat 0 1 1)
  have heffect := (State.writeEffect_chCtrl u u m n (putBits w.toNat 0 1 1)).trans (u.retrainCtrl_go n w.toNat)
  exact ⟨u, hu, congrArg Host.Outcome.next (hw.trans (congrArg State.completed heffect))⟩

theorem State.Parked.chState {s u : State} (h : s.Parked u) (n : Nat) : u.chState n = s.chState n := h.fld _ n (by decide)

theorem State.Parked.chMissing {s u : State} (h : s.Parked u) : u.chMissing = s.chMissing := State.chMissing_congr h.chState

theorem State.tempMoved_iff {s : State} {n t : Nat} :
    s.tempMoved n t = true ↔ s.fld R.DDR_CHn_STAT_TEMP n + 20 ≤ t ∨ t + 20 ≤ s.fld R.DDR_CHn_STAT_TEMP n := by
  unfold State.tempMoved
  simp

/-! ### The end of a retraining -/

theorem State.offline_found {s : State} {n : Fin 8} (h : s.chState n = chOffline) (ho : ∀ k, k < 8 → k ≠ n.val → s.chState k ≠ chOffline) :
    (List.range 8).find? (fun k => s.chState k == chOffline) = some n.val := by
  refine List.find?_range_eq_some.mpr ⟨by simp [h], List.mem_range.mpr n.isLt, fun k hk => ?_⟩
  have hne := ho k (by omega) (by omega)
  simp [hne]

/-- Training is counted, whatever its outcome. -/
def State.trained (s : State) (n : Nat) : State := s.satFld R.DDR_CHn_STAT_TRAINS n 1

/-- The channel after a training that succeeds. -/
def State.backOnline (s : State) (n temp : Nat) : State :=
  (((s.trained n).setChState n chOnline).setFld R.DDR_CHn_STAT_TEMP n temp).updDdr (fun d =>
    { d with fails := d.fails.del n, offMem := none, offLong := {} })

/-- The channel after a training that fails, for the `k`th time in a row. -/
def State.trainingFailed (s : State) (n k : Nat) : State := (s.trained n).updDdr (fun d => { d with fails := d.fails.put n k })

theorem exec_ddrRetrainDone_ok {s : State} {n : Fin 8} {temp : BitVec 8} (h : s.chState n = chOffline)
    (ho : ∀ k, k < 8 → k ≠ n.val → s.chState k ≠ chOffline) :
    exec (.ddrRetrainDone true temp) s = .next ((s.backOnline n temp.toNat).latch R.DDR_EVT_RETRAINED).nextRetrain := by
  show execDdrRetrainDone true temp s = _
  unfold execDdrRetrainDone
  rw [State.offline_found h ho]
  rfl

theorem exec_ddrRetrainDone_fail {s : State} {n : Fin 8} {temp : BitVec 8} (h : s.chState n = chOffline)
    (ho : ∀ k, k < 8 → k ≠ n.val → s.chState k ≠ chOffline) :
    exec (.ddrRetrainDone false temp) s = .next (if 2 ≤ s.ddr.fails.get n 0 + 1 then
        (((s.trainingFailed n (s.ddr.fails.get n 0 + 1)).setChState n chDown).latch R.DDR_EVT_DDR_DOWN).tallyAdd tallyDdrDown 0 0 [n]
      else s.trainingFailed n (s.ddr.fails.get n 0 + 1)) := by
  show execDdrRetrainDone false temp s = _
  unfold execDdrRetrainDone
  rw [State.offline_found h ho]
  rfl

theorem State.nextRetrain_of_none {s : State} (h : s.ddr.waiting = []) : s.nextRetrain = s := by
  unfold State.nextRetrain
  rw [h]

/-! ### What a read of storage depends on -/

/-- The fields by which an access is judged, and that say where the map's region lies and whether it shows the map. -/
def readingFields : List Fld := [R.IMG_RAISE_PHASE, R.IMG_RAISE_RECOVERY, R.MTX_JMAP_CORES, R.DDR_STAT_USABLE, R.DDR_RGNk_BASE_BASE,
  R.DDR_RGNk_SIZE_MB, R.FAB_CFG_DIAG_EN, R.TLY_REKEY_MAP, R.TLY_STAT_LOCKED, R.MGT_PORTp_CFG_CLASS]

/-- Reads of storage find in `t` what they find in `s`. -/
structure State.ReadsAs (s t : State) : Prop where
  fld : ∀ f ∈ readingFields, ∀ i, t.fld f i = s.fld f i
  mem : t.mem = s.mem
  zeroed : t.ddr.zeroed = s.ddr.zeroed
  keys : t.ddr.keys = s.ddr.keys
  sched : t.sched = s.sched
  free : t.free = s.free
  guarding : t.guarding = s.guarding

section
variable {s t : State} (h : s.ReadsAs t)
include h

theorem State.ReadsAs.byte (a : Nat) : t.byte a = s.byte a := by
  unfold State.byte State.blankAt
  rw [h.mem, h.zeroed, h.keys]

theorem State.ReadsAs.readLe (a n : Nat) : t.readLe a n = s.readLe a n := by
  unfold State.readLe State.readBytes
  simp only [h.byte]

theorem State.ReadsAs.regionOf (a : Nat) : t.regionOf a = s.regionOf a := by
  unfold State.regionOf State.regionBase State.regionSize
  simp only [h.fld R.DDR_RGNk_BASE_BASE (by decide), h.fld R.DDR_RGNk_SIZE_MB (by decide)]

theorem State.ReadsAs.mapEntry (k : Nat) : t.mapEntry k = s.mapEntry k := by
  unfold State.mapEntry
  rw [h.sched]

theorem State.ReadsAs.ddrWord (a : Nat) : t.ddrWord a = s.ddrWord a := by
  unfold State.ddrWord State.regionBase State.flag
  simp only [h.regionOf, h.mapEntry, h.readLe, h.fld R.TLY_REKEY_MAP (by decide), h.fld R.DDR_RGNk_BASE_BASE (by decide)]

theorem State.ReadsAs.storageWord (a : Nat) : t.storageWord a = s.storageWord a := by
  unfold State.storageWord
  split
  · exact h.ddrWord a
  · exact h.readLe a 4

theorem State.ReadsAs.judge (m a : Nat) (b : Bool) : t.judge m a b false = s.judge m a b false := by
  have hserved : t.served = s.served := by unfold State.served State.phase; rw [h.fld _ (by decide)]
  have hrecovery : t.recovery = s.recovery := State.flag_of_fld (h.fld _ (by decide) 0)
  have hlocked : t.flag R.TLY_STAT_LOCKED = s.flag R.TLY_STAT_LOCKED := State.flag_of_fld (h.fld _ (by decide) 0)
  have hclass : ∀ p, t.portClass p = s.portClass p := by intro p; unfold State.portClass; rw [hrecovery, h.fld _ (by decide)]
  have hjoiner : ∀ i, t.servedBy i = s.servedBy i := by intro i; unfold State.servedBy; rw [h.fld _ (by decide)]
  have hdiag : t.flag R.FAB_CFG_DIAG_EN = s.flag R.FAB_CFG_DIAG_EN := State.flag_of_fld (h.fld _ (by decide) 0)
  have hmap : t.flag R.TLY_REKEY_MAP = s.flag R.TLY_REKEY_MAP := State.flag_of_fld (h.fld _ (by decide) 0)
  have husable : t.ddrUsable = s.ddrUsable := by unfold State.ddrUsable; rw [h.fld _ (by decide)]
  have hhost : t.hostDdr a false = s.hostDdr a false := by unfold State.hostDdr; rw [husable, h.regionOf]
  have hreaches : t.reaches m false a (place a) = s.reaches m false a (place a) := by
    unfold State.reaches
    simp only [hjoiner, husable, hdiag, hhost]
  have hanswers : t.answers (place a) = s.answers (place a) := by
    unfold State.answers
    simp only [hmap, h.guarding, h.free]
  have hdecodes : ∀ p, t.recoveryDecodes p a b = s.recoveryDecodes p a b := by
    intro p
    unfold State.recoveryDecodes
    rw [h.regionOf]
  unfold State.judge
  simp only [hserved, hrecovery, hlocked, hclass, hreaches, hanswers, hdecodes, Bool.false_and]

end

/-! ### A unit that a read finds bad -/

theorem readingFields_apart : ∀ f ∈ readingFields, f.id ≠ R.DDR_CHn_CORR_COUNT.id ∧ f.id ≠ R.DDR_CNT_COUNT.id := by decide

theorem State.addFld_regs (s : State) (f : Fld) (i n : Nat) : ∃ r, s.addFld f i n = { s with regs := r } := by
  unfold State.addFld
  split
  · exact ⟨s.regs, rfl⟩
  · exact ⟨_, rfl⟩

theorem State.ReadsAs.refl (s : State) : s.ReadsAs s := ⟨fun _ _ _ => rfl, rfl, rfl, rfl, rfl, rfl, rfl⟩

theorem State.addFld_reads (s : State) (i n : Nat) : s.ReadsAs (s.addFld R.DDR_CNT_COUNT i n) := by
  have hfld : ∀ f ∈ readingFields, ∀ j, (s.addFld R.DDR_CNT_COUNT i n).fld f j = s.fld f j :=
    fun f hf j => State.fld_addFld_ne _ _ _ _ (readingFields_apart f hf).2
  obtain ⟨r, hr⟩ := s.addFld_regs R.DDR_CNT_COUNT i n
  rw [hr] at hfld ⊢
  exact ⟨hfld, rfl, rfl, rfl, rfl, rfl, rfl⟩

theorem State.corrected_reads (s : State) (n k : Nat) : s.ReadsAs (s.corrected n k) := by
  have hfld : ∀ f ∈ readingFields, ∀ j, (s.corrected n k).fld f j = s.fld f j := by
    intro f hf j
    obtain ⟨hcorr, hcount⟩ := readingFields_apart f hf
    unfold State.corrected
    exact (State.fld_addFld_ne _ _ _ _ hcount).trans (State.fld_setFld_ne _ _ _ _ hcorr)
  unfold State.corrected at hfld ⊢
  obtain ⟨r, hr⟩ := (s.satFld R.DDR_CHn_CORR_COUNT n k).addFld_regs R.DDR_CNT_COUNT 0 k
  rw [hr] at hfld ⊢
  exact ⟨hfld, rfl, rfl, rfl, rfl, rfl, rfl⟩

/-- A unit that is not lost leaves what storage reads as. -/
theorem State.unitFound_reads {s : State} {u : Nat} {o : UnitOutcome} (h : s.unitLost u o = false) : s.ReadsAs (s.unitFound u o) := by
  unfold State.unitFound
  rw [h, if_neg Bool.false_ne_true]
  split
  · exact State.ReadsAs.refl s
  · split
    · exact s.corrected_reads _ _
    · exact s.addFld_reads _ _

theorem State.unitFound_lost {s : State} {u : Nat} {o : UnitOutcome} (h : s.unitLost u o = true) : s.unitFound u o = s.loseUnit u := if_pos h

theorem State.fld_addFld_one (s : State) (f : Fld) (i : Nat) : (s.addFld f i 1).fld f i = (s.fld f i + 1) % 2 ^ f.width := by
  unfold State.addFld
  rw [if_neg (by decide), State.fld_setFld_self]

/-- A unit that is lost is counted, with DDR_LOSS, and no word of the long path in it can be read back. -/
theorem State.loseUnit_spec (s : State) (u : Nat) : (s.loseUnit u).latched R.DDR_EVT_DDR_LOSS = true ∧ (s.loseUnit u).mem = s.mem
    ∧ (s.loseUnit u).fld R.DDR_CNT_COUNT 2 = (s.fld R.DDR_CNT_COUNT 2 + 1) % 2 ^ 48
    ∧ ∀ q k, u ∈ s.longUnits q k → ((s.loseUnit u).longMem.get q {}).find k = none := by
  have hmem : ((s.addFld R.DDR_CNT_COUNT 2 1).latch R.DDR_EVT_DDR_LOSS).mem = s.mem := State.latch_mem _ _ _
  refine ⟨State.latched_latch _ _ _ (by decide), hmem, ?_, ?_⟩
  · exact (State.fld_latch_ne (s.addFld R.DDR_CNT_COUNT 2 1) R.DDR_EVT_DDR_LOSS 0 2 (by decide)).trans (s.fld_addFld_one _ _)
  · intro q k hk
    show ((Tab.mapVals _ (fun q (t : Tab Nat) => t.keep (fun n _ => !(s.longUnits q n).contains u))).get q {}).find k = none
    unfold Tab.get
    rw [Tab.find_mapVals]
    cases hq : Tab.find _ q with
    | none => rfl
    | some t =>
      show (t.keep (fun n _ => !(s.longUnits q n).contains u)).find k = none
      refine Tab.look_of_not_mem fun hm => ?_
      obtain ⟨e, he, rfl⟩ := List.mem_map.mp hm
      have hkept := (List.mem_filter.mp he).2
      simp [hk] at hkept

end Sys2Proof.Machine
end

section
/-! O43, continued: what a master's read of a bad unit has, and the statement. -/

namespace Sys2Proof.Machine

/-! ### A read of DDR5 -/

theorem State.readUnits_reads (s : State) (us : List Nat) : s.ReadsAs (s.readUnits us) := by
  unfold State.readUnits
  split
  · exact s.addFld_reads _ _
  · exact State.ReadsAs.refl s

theorem exec_ddrUnitRebuild_master {m : Master} {v : View} {x : BitVec 38} {o : UnitOutcome} {s : State} {a n : Nat}
    (hr : s.readRange m v = some (a, n)) (hu : ddrUnit x.toNat ∈ s.placeUnits (4 * n) (place a)) :
    exec (.ddrUnitRebuild (.master m v) x o) s = .next (if s.unitLost (ddrUnit x.toNat) o then (s.unitFound (ddrUnit x.toNat) o).defaultHit m a
      else (s.unitFound (ddrUnit x.toNat) o).readView m v) := by
  refine congrArg Host.Outcome.next ?_
  dsimp only
  rw [hr]
  exact if_neg (by simp [hu])

/-- A lost unit ends a master's read. -/
theorem State.lost_defaultHit {s : State} {u : Nat} {o : UnitOutcome} (h : s.unitLost u o = true) (m a : Nat) :
    ((s.unitFound u o).defaultHit m a).resp.status = .error ∧ ((s.unitFound u o).defaultHit m a).latched R.DDR_EVT_DDR_LOSS = true
      ∧ ((s.unitFound u o).defaultHit m a).mem = s.mem
      ∧ ((s.unitFound u o).defaultHit m a).fld R.DDR_CNT_COUNT 2 = (s.fld R.DDR_CNT_COUNT 2 + 1) % 2 ^ 48 := by
  obtain ⟨hloss, hmem, hcount, -⟩ := s.loseUnit_spec u
  rw [State.unitFound_lost h]
  refine ⟨rfl, State.latched_of_fld (State.fld_defaultHit _ _ _ _ (by decide)) hloss, ?_, (State.fld_defaultHit _ _ _ _ (by decide)).trans hcount⟩
  exact (State.defaultHit_k (K := fun t => Part.same s t .mem) (loose_part s .mem (by decide) (by decide) (by decide)) hmem m a)

theorem State.readPriv_ddr {s : State} {m a x : Nat} (hp : place a = .ddr x) (hok : s.judge m a false false = .ok) :
    s.readPriv m a false = (s.readUnits (ddrUnits x 4)).answer .ok [s.ddrWord a] := by
  unfold State.readPriv
  rw [hok, hp]
  rfl

theorem State.readStorage_ok {s : State} {m a n : Nat} (hs : (place a).storage = true) (hok : s.judge m a false false = .ok) :
    s.readStorage m a n = (s.readUnits (s.placeUnits (4 * n) (place a))).answer .ok ((List.range n).map (fun k => s.storageWord (a + 4 * k))) := by
  unfold State.readStorage
  rw [hok]
  exact if_pos hs

/-- An address of DDR5 that leads anywhere. -/
theorem place_ddr {y : Nat} (h : place (ddrBase + y) ≠ .nowhere) : place (ddrBase + y) = .ddr y := by
  have hbase : ddrBase = 0x1000000000 := rfl
  have hle : ddrBase ≤ ddrBase + y := Nat.le_add_right _ _
  have hsub : ddrBase + y - ddrBase = y := Nat.add_sub_cancel_left _ _
  unfold place at h ⊢
  rw [if_neg (by omega), if_neg (by omega), if_neg (by omega), if_neg (by omega), if_neg (by omega), if_neg (by omega), if_neg (by omega)] at h ⊢
  split at h
  · rename_i hin
    rw [if_pos hin, hsub]
  · exact absurd rfl h

theorem ddrUnits_word {x : Nat} : ddrUnits (x - x % 4) 4 = [ddrUnit x] := by
  unfold ddrUnits ddrUnit
  have hlast : (x - x % 4 + 4 - 1) / 64 + 1 - (x - x % 4) / 64 = 1 := by omega
  have hfirst : (x - x % 4) / 64 = x / 64 := by omega
  rw [hlast, hfirst]
  simp [List.range_succ]

/-! ### What is counted -/

theorem unitChannel_lt (u : Nat) : unitChannel u < 8 := Nat.mod_lt _ (by decide)

theorem State.chGone_congr {s t : State} (h : ∀ n, t.chState n = s.chState n) (n : Nat) : t.chGone n = s.chGone n := by
  unfold State.chGone
  rw [h]

/-- Reading one unit of a channel that is gone counts it as rebuilt. -/
theorem State.readUnits_gone {s : State} {u : Nat} (h : s.chGone (unitChannel u) = true) : s.readUnits [u] = s.addFld R.DDR_CNT_COUNT 1 1 := by
  have hany : (List.range 8).any s.chGone = true := List.any_eq_true.mpr ⟨_, List.mem_range.mpr (unitChannel_lt u), h⟩
  unfold State.readUnits
  rw [if_pos hany]
  simp [h]

/-- With no channel gone, reading counts nothing. -/
theorem State.readUnits_none {s : State} (h : ∀ k, k < 8 → s.chGone k = false) (us : List Nat) : s.readUnits us = s := by
  refine if_neg ?_
  simp only [List.any_eq_true, not_exists, not_and, List.mem_range, Bool.not_eq_true]
  exact h

theorem State.none_gone {s : State} {u : Nat} (hu : s.chGone (unitChannel u) = false) (h : s.rebuildable u = true) (k : Nat) (hk : k < 8) :
    s.chGone k = false := by
  have hall := List.all_eq_true.mp h k (List.mem_range.mpr hk)
  by_cases hku : k = unitChannel u
  · rw [hku, hu]
  · simpa [hku] using hall

theorem State.fld_readUnits_inst (s : State) (us : List Nat) {i : Nat} (h : i ≠ 1) :
    (s.readUnits us).fld R.DDR_CNT_COUNT i = s.fld R.DDR_CNT_COUNT i := by
  unfold State.readUnits State.addFld
  split
  · split
    · rfl
    · exact State.fld_setFld_inst _ _ _ h
  · rfl

/-- A corrected unit of a channel that is in service is counted as corrected. -/
theorem State.count_corrected {s : State} {u : Nat} (hlost : s.unitLost u .corrected = false) (hg : s.chGone (unitChannel u) = false)
    (us : List Nat) : ((s.unitFound u .corrected).readUnits us).fld R.DDR_CNT_COUNT 0 = (s.fld R.DDR_CNT_COUNT 0 + 1) % 2 ^ 48 := by
  rw [State.fld_readUnits_inst _ _ (by decide)]
  unfold State.unitFound
  rw [hlost, hg, if_neg Bool.false_ne_true, if_neg Bool.false_ne_true]
  have hone := (s.satFld R.DDR_CHn_CORR_COUNT (unitChannel u) 1).fld_addFld_one R.DDR_CNT_COUNT 0
  unfold State.satFld at hone
  rw [State.fld_setFld_ne _ _ _ _ (by decide)] at hone
  exact hone

/-- A unit rebuilt, or read from a channel that is gone, is counted as rebuilt. -/
theorem State.count_rebuilt {s : State} {u : Nat} {o : UnitOutcome} (hlost : s.unitLost u o = false)
    (h : o = .rebuilt ∨ s.chGone (unitChannel u) = true) :
    ((s.unitFound u o).readUnits [u]).fld R.DDR_CNT_COUNT 1 = (s.fld R.DDR_CNT_COUNT 1 + 1) % 2 ^ 48 := by
  unfold State.unitFound
  rw [hlost, if_neg Bool.false_ne_true]
  by_cases hg : s.chGone (unitChannel u) = true
  · rw [if_pos hg, State.readUnits_gone hg]
    exact s.fld_addFld_one _ _
  · obtain rfl := h.resolve_right hg
    have hg' : s.chGone (unitChannel u) = false := Bool.eq_false_iff.mpr hg
    have hrebuildable : s.rebuildable u = true := by
      simpa [State.unitLost] using hlost
    rw [hg', if_neg Bool.false_ne_true]
    have hkeep : ∀ k, k < 8 → (s.addFld R.DDR_CNT_COUNT 1 1).chGone k = false := fun k hk =>
      (State.chGone_congr (fun n => State.fld_addFld_ne _ _ _ _ (by decide)) k).trans (State.none_gone hg' hrebuildable k hk)
    exact (congrArg (fun t : State => t.fld R.DDR_CNT_COUNT 1) (State.readUnits_none hkeep [u])).trans (s.fld_addFld_one _ _)

/-! ### The clauses of a master's read -/

/-- A word read of DDR5 at the word that holds the bad byte `x`. -/
theorem ddrRebuild_word {m : Master} {x : BitVec 38} {o : UnitOutcome} {s : State}
    (hok : s.judge m (ddrBase + (x.toNat - x.toNat % 4)) false false = .ok) :
    exec (.ddrUnitRebuild (.master m (.priv (BitVec.ofNat 40 (ddrBase + (x.toNat - x.toNat % 4))))) x o) s = .next (
      if s.unitLost (ddrUnit x.toNat) o then (s.unitFound (ddrUnit x.toNat) o).defaultHit m (ddrBase + (x.toNat - x.toNat % 4))
      else ((s.unitFound (ddrUnit x.toNat) o).readUnits [ddrUnit x.toNat]).answer .ok [s.ddrWord (ddrBase + (x.toNat - x.toNat % 4))]) := by
  have hplace := place_ddr (State.place_ne_nowhere_of_judge hok)
  have haddr : (BitVec.ofNat 40 (ddrBase + (x.toNat - x.toNat % 4))).toNat = ddrBase + (x.toNat - x.toNat % 4) := by
    have hx := x.isLt
    have hbase : ddrBase = 0x1000000000 := rfl
    rw [BitVec.toNat_ofNat]
    omega
  have hview : s.viewAddr m (.priv (BitVec.ofNat 40 (ddrBase + (x.toNat - x.toNat % 4)))) = .inl (ddrBase + (x.toNat - x.toNat % 4), false) :=
    congrArg (fun y => Sum.inl (y, false)) haddr
  have hrange : s.readRange m (.priv (BitVec.ofNat 40 (ddrBase + (x.toNat - x.toNat % 4)))) = some (ddrBase + (x.toNat - x.toNat % 4), 1) := by
    unfold State.readRange
    dsimp only
    rw [hview]
    exact if_pos ⟨hok, by rw [hplace]; rfl⟩
  have hunit : ddrUnit x.toNat ∈ s.placeUnits (4 * 1) (place (ddrBase + (x.toNat - x.toNat % 4))) := by
    have hone : s.placeUnits (4 * 1) (.ddr (x.toNat - x.toNat % 4)) = [ddrUnit x.toNat] := ddrUnits_word
    rw [hplace, hone]
    exact List.mem_singleton.mpr rfl
  rw [exec_ddrUnitRebuild_master hrange hunit]
  cases hlost : s.unitLost (ddrUnit x.toNat) o with
  | true => rfl
  | false =>
    have hreads := State.unitFound_reads hlost
    have hread : ∀ t : State, t.readView m (.priv (BitVec.ofNat 40 (ddrBase + (x.toNat - x.toNat % 4))))
        = t.readPriv m (ddrBase + (x.toNat - x.toNat % 4)) false := fun t =>
      congrArg (fun y => t.readPriv m y false) haddr
    rw [if_neg Bool.false_ne_true, if_neg Bool.false_ne_true, hread, State.readPriv_ddr hplace ((hreads.judge m _ false).trans hok),
      hreads.ddrWord, ddrUnits_word]

/-- A burst that reads the bad unit. -/
theorem ddrRebuild_burst {m : Master} {y : BitVec 40} {len : Fin 256} {x : BitVec 38} {o : UnitOutcome} {s : State}
    (hok : s.judge m y.toNat false false = .ok) (hs : (place y.toNat).storage = true)
    (hu : ddrUnit x.toNat ∈ s.placeUnits (16 * (len.val + 1)) (place y.toNat)) :
    exec (.ddrUnitRebuild (.master m (.burst y len)) x o) s = .next (if s.unitLost (ddrUnit x.toNat) o then
        (s.unitFound (ddrUnit x.toNat) o).defaultHit m y.toNat
      else (s.unitFound (ddrUnit x.toNat) o).readStorage m y.toNat (4 * (len.val + 1))) := by
  have hlen : 4 * (4 * (len.val + 1)) = 16 * (len.val + 1) := by omega
  have hrange : s.readRange m (.burst y len) = some (y.toNat, 4 * (len.val + 1)) := if_pos ⟨hok, hs⟩
  exact exec_ddrUnitRebuild_master hrange (hlen ▸ hu)

/-! ### The statement -/

theorem State.fld_completed_chState (s : State) (n : Nat) : s.completed.chState n = s.chState n := State.completed_fld s _ n

/-- Settles O43, each clause from what one operation does: `retrain`, the end of a training, `corrected`, `unitFound`. -/
theorem ddr5 : Obligations.Ddr5 := by
  unfold Obligations.Ddr5
  intro n s
  refine ⟨?write, ?waits, ?refused, ?temp, ?many, ?few, ?done, ?first, ?second, ?patrol, ?word, ?burst, ?other⟩
  case write =>
    intro m w ha hon hmiss
    obtain ⟨u, hu, hexec⟩ := exec_ddrRetrain_write (w := w) ha
    refine ⟨_, hexec, State.completed_status _, ?_⟩
    rw [State.fld_completed_chState]
    exact State.chState_retrain ((hu.chState n).trans hon) (hu.chMissing.trans hmiss)
  case waits =>
    intro m w ha hon hmiss
    obtain ⟨u, hu, hexec⟩ := exec_ddrRetrain_write (w := w) ha
    refine ⟨_, hexec, ?_, ?_⟩
    · rw [State.fld_completed_chState, State.retrain_missing ((hu.chState n).trans hon) (hu.chMissing.trans hmiss)]
      exact (hu.chState n).trans hon
    · obtain ⟨x, y, hsame⟩ := (u.retrain n).completed_same
      rw [hsame, State.retrain_missing ((hu.chState n).trans hon) (hu.chMissing.trans hmiss)]
      show n.val ∈ (if u.ddr.waiting.contains n.val then u.ddr else { u.ddr with waiting := u.ddr.waiting ++ [n.val] }).waiting
      split
      · rename_i hin
        simpa using hin
      · simp
  case refused =>
    intro m w ha hdown
    obtain ⟨u, hu, hexec⟩ := exec_ddrRetrain_write (w := w) ha
    have hretrain := State.retrain_down ((hu.chState n).trans hdown)
    refine ⟨_, hexec, ?_, ?_⟩
    · rw [State.fld_completed_chState, hretrain]
      exact (State.fld_latch_ne _ _ _ _ (by decide)).trans ((hu.chState n).trans hdown)
    · rw [State.completed_latched, hretrain]
      exact State.latched_latch _ _ _ (by decide)
  case temp =>
    intro temp hon hmiss hmoved
    exact ⟨_, congrArg Host.Outcome.next (if_pos (State.tempMoved_iff.mpr hmoved)), State.chState_retrain hon hmiss⟩
  case many =>
    intro hon hmiss hmany
    exact ⟨_, congrArg Host.Outcome.next (if_pos hmany), State.chState_retrain hon hmiss⟩
  case few =>
    intro hfew
    exact ⟨_, congrArg Host.Outcome.next (if_neg (by rw [hfew]; decide)), rfl⟩
  case done =>
    intro temp hoff hothers hwait
    have hnone : ((s.backOnline n temp.toNat).latch R.DDR_EVT_RETRAINED).ddr.waiting = [] :=
      (congrArg Ddr.waiting (State.latch_ddr _ _ _)).trans hwait
    have hexec := exec_ddrRetrainDone_ok (temp := temp) hoff hothers
    rw [State.nextRetrain_of_none hnone] at hexec
    have hstate : (s.backOnline n temp.toNat).chState n = chOnline :=
      (State.fld_setFld_ne _ _ _ _ (by decide)).trans ((s.trained n).chState_setChState n chOnline)
    have htemp : (s.backOnline n temp.toNat).fld R.DDR_CHn_STAT_TEMP n = temp.toNat :=
      (State.fld_setFld_self _ _ _ _).trans (Nat.mod_eq_of_lt temp.isLt)
    exact ⟨_, hexec, (State.fld_latch_ne _ _ _ _ (by decide)).trans hstate, State.latched_latch _ _ _ (by decide),
      (State.fld_latch_ne _ _ _ _ (by decide)).trans htemp⟩
  case first =>
    intro temp hoff hothers hfails
    have hexec := exec_ddrRetrainDone_fail (temp := temp) hoff hothers
    rw [hfails, if_neg (by decide)] at hexec
    exact ⟨_, hexec, (State.fld_setFld_ne _ _ _ _ (by decide)).trans hoff, Tab.get_put_self _ _ _ _⟩
  case second =>
    intro temp hoff hothers hfails
    have hexec := exec_ddrRetrainDone_fail (temp := temp) hoff hothers
    rw [if_pos (by omega)] at hexec
    have hdown := (s.trainingFailed n (s.ddr.fails.get n 0 + 1)).chState_setChState n chDown
    exact ⟨_, hexec, (State.fld_latch_ne ((s.trainingFailed n (s.ddr.fails.get n 0 + 1)).setChState n chDown) R.DDR_EVT_DDR_DOWN 0 n (by decide)).trans
      hdown, State.latched_latch _ _ _ (by decide)⟩
  case patrol =>
    intro k hon
    have hcapped : satAdd (2 ^ R.DDR_CHn_CORR_COUNT.width - 1) (s.fld R.DDR_CHn_CORR_COUNT n) k < 2 ^ R.DDR_CHn_CORR_COUNT.width :=
      Nat.lt_of_le_of_lt (Nat.min_le_left _ _) (by decide)
    refine ⟨_, congrArg Host.Outcome.next (if_neg (not_not.mpr hon)), (s.corrected_reads n k).mem, ?_, ?_⟩
    · rw [Nat.mod_eq_of_lt hcapped]
      exact (State.fld_addFld_ne _ _ _ _ (by decide)).trans (State.fld_satFld_self _ _ _ _)
    · obtain ⟨r, hr⟩ := (s.satFld R.DDR_CHn_CORR_COUNT n k).addFld_regs R.DDR_CNT_COUNT 0 k
      unfold State.corrected
      rw [hr]
      exact Tab.get_put_self _ _ _ _
  case word =>
    rintro m x o a u v rfl rfl rfl hok
    have hexec := ddrRebuild_word (x := x) (o := o) hok
    refine ⟨fun hlost => ?_, fun hlost => ?_⟩
    · rw [hlost, if_neg Bool.false_ne_true] at hexec
      refine ⟨_, hexec, ⟨rfl, rfl⟩, ?_, ?_, ?_⟩
      · exact ((s.unitFound (ddrUnit x.toNat) o).readUnits_reads [ddrUnit x.toNat]).mem.trans (State.unitFound_reads hlost).mem
      · rintro rfl hg
        exact State.count_corrected hlost hg _
      · exact fun h => State.count_rebuilt hlost h
    · rw [hlost, if_pos rfl] at hexec
      exact ⟨_, hexec, State.lost_defaultHit hlost _ _⟩
  case burst =>
    rintro m y len x o v rfl hok hs hu
    have hexec := ddrRebuild_burst (o := o) hok hs hu
    refine ⟨fun hlost => ?_, fun hlost => ?_⟩
    · have hreads := State.unitFound_reads hlost
      rw [hlost, if_neg Bool.false_ne_true, State.readStorage_ok hs ((hreads.judge _ _ _).trans hok)] at hexec
      refine ⟨_, hexec, ((s.unitFound (ddrUnit x.toNat) o).readUnits_reads _).mem.trans hreads.mem, rfl, ?_⟩
      exact List.map_congr_left fun k _ => hreads.storageWord _
    · rw [hlost, if_pos rfl] at hexec
      obtain ⟨herr, hloss, hmem, -⟩ := State.lost_defaultHit hlost m y.toNat
      exact ⟨_, hexec, herr, hloss, hmem⟩
  case other =>
    intro r x o hlost hr
    obtain ⟨hloss, hmem, hcount, hlong⟩ := s.loseUnit_spec (ddrUnit x.toNat)
    have hexec : exec (.ddrUnitRebuild r x o) s = .next (s.loseUnit (ddrUnit x.toNat)) := by
      rw [← State.unitFound_lost hlost]
      rcases hr with ⟨rfl, hregion⟩ | ⟨rfl, husable⟩
      · exact congrArg Host.Outcome.next (if_pos hregion)
      · refine congrArg Host.Outcome.next ((if_pos husable).trans ?_)
        rw [hlost]
        rfl
    exact ⟨_, hexec, hloss, hmem, hcount, hlong⟩

end Sys2Proof.Machine
end

section
/-! O44: sounding tests regions and banks (R418 to R424). -/

namespace Sys2Proof.Machine

/-! ### What the operations change of the engine -/

theorem State.endPass_snd (s : State) : s.endPass.snd = s.snd ∨ s.endPass.snd = { s.snd with next := 0, bank := 0, passFrames := 0 } := by
  unfold State.endPass
  split
  · exact .inr (State.latch_snd _ _ _)
  · exact .inl rfl

theorem State.showSounding_snd (s : State) : ∃ b, s.showSounding.snd = { s.snd with marching := b } := by
  unfold State.showSounding
  dsimp only
  split <;> exact ⟨_, rfl⟩

theorem State.soundFail_snd (s : State) (index kind inst : Nat) (b : Bool) : (s.soundFail index kind inst b).snd = s.snd :=
  State.soundFail_k (K := fun t => Part.same s t .snd) (loose_part s .snd (by decide) (by decide) (by decide)) rfl index kind inst b

/-- After a test the pass may end, and the engine turns to the region in hand: what the test has found stays. -/
structure State.Finished (s t : State) : Prop where
  mem : t.mem = s.mem
  fuses : t.fuses = s.fuses
  next : t.snd.next = s.snd.next ∨ t.snd.next = 0
  aborts : t.snd.aborts = s.snd.aborts
  retry : t.snd.retry = s.snd.retry
  under : t.snd.under = s.snd.under
  failedGroups : t.snd.failedGroups = s.snd.failedGroups
  failed : t.snd.failed = s.snd.failed
  rowsUsed : t.snd.rowsUsed = s.snd.rowsUsed
  sister : t.snd.sister = s.snd.sister
  fld : ∀ (f : Fld) (i : Nat), regOk 0x6d00000000000000000000000000000000000000000000000000000000000000000000000000000000000000000000000000000000000000000000000000000000000000000000000000000010000000c00 f.id = false → t.fld f i = s.fld f i
  latched : ∀ e : Ev, e.bit < e.reg.width → e.reg = R.SND_EVT → s.latched e = true → t.latched e = true

theorem State.endPass_latched {s : State} {e : Ev} (hbit : e.bit < e.reg.width) (hreg : e.reg = R.SND_EVT) (h : s.latched e = true) :
    s.endPass.latched e = true := by
  unfold State.endPass
  split
  · refine State.latched_latch_of_latched (State.latched_of_fld ?_ h) hbit hreg.symm 0
    rw [hreg]
    exact (State.fld_setFld_ne _ _ _ _ (by decide)).trans (State.fld_setFld_ne _ _ _ _ (by decide))
  · exact h

theorem State.finished (s : State) : s.Finished s.endPass.showSounding := by
  obtain ⟨b, hshow⟩ := s.endPass.showSounding_snd
  refine ⟨?_, ?_, ?_, ?_, ?_, ?_, ?_, ?_, ?_, ?_, ?_, ?_⟩
  · exact State.showSounding_k (K := fun t => Part.same s t .mem) (loose_part s .mem (by decide) (by decide) (by decide))
      (State.endPass_k (K := fun t => Part.same s t .mem) (loose_part s .mem (by decide) (by decide) (by decide)) rfl)
  · exact State.showSounding_k (K := fun t => Part.same s t .fuses) (loose_part s .fuses (by decide) (by decide) (by decide))
      (State.endPass_k (K := fun t => Part.same s t .fuses) (loose_part s .fuses (by decide) (by decide) (by decide)) rfl)
  · rw [hshow]
    obtain h | h := s.endPass_snd
    · exact .inl (by rw [h])
    · exact .inr (by rw [h])
  iterate 7
    rw [hshow]
    obtain h | h := s.endPass_snd <;> rw [h]
  · intro f i hf
    exact State.showSounding_k (K := fun t => t.fld f i = s.fld f i) ((loose_fld hf).mono (by decide))
      (State.endPass_k (K := fun t => t.fld f i = s.fld f i) ((loose_fld hf).mono (by decide)) rfl)
  · intro e hbit hreg h
    refine State.latched_of_fld ?_ (State.endPass_latched hbit hreg h)
    rw [hreg]
    exact State.fld_showSounding _ _ (by decide)

/-! ### The region in hand -/

theorem State.takeRegion_spec (s : State) (r : Nat) : (s.takeRegion r).snd.aborts = s.snd.aborts ∧ (s.takeRegion r).snd.failed = s.snd.failed
    ∧ (s.takeRegion r).snd.rowsUsed = s.snd.rowsUsed ∧ (s.retryRegion = none → (s.takeRegion r).snd.next = r + 1) := by
  have hsnd : (s.takeRegion r).snd = if s.retryRegion = some r then { s.snd with retry := s.snd.retry.filter (fun e => e.1 != r) }
      else { s.snd with next := r + 1 } := rfl
  rw [hsnd]
  split
  · rename_i hretry
    exact ⟨rfl, rfl, rfl, fun hnone => absurd (hnone.symm.trans hretry) (by simp)⟩
  · exact ⟨rfl, rfl, rfl, fun _ => rfl⟩

/-- The region in hand has been tested. -/
def State.regionTested (s : State) (r : Nat) : State :=
  (s.takeRegion r).updSnd (fun x => { x with aborts := x.aborts.del r, retry := x.retry.map (fun e => (e.1, e.2.1 - 1, e.2.2)) })

theorem State.soundsRegion_of_sounds {s : State} (h : s.sounds = true) : s.soundsRegion = true := by
  unfold State.soundsRegion
  rw [h]
  rfl

theorem exec_soundRegion {s : State} {r : Nat} (hr : s.regionInHand = some r) (hs : s.sounds = true) (fails : Bool) :
    exec (.soundRegion fails) s = .next (if fails then (s.regionTested r).regionFails r else s.regionTested r).endPass.showSounding := by
  show execSoundRegion fails s = _
  unfold execSoundRegion
  rw [hr]
  refine congrArg Host.Outcome.next (if_neg ?_)
  rw [State.soundsRegion_of_sounds hs]
  decide

theorem State.freeRows_congr {s t : State} (hf : t.fuses = s.fuses) (hr : t.snd.rowsUsed = s.snd.rowsUsed) (b : Nat) : t.freeRows b = s.freeRows b := by
  unfold State.freeRows
  rw [hf, hr]

theorem State.freeRows_regionTested (s : State) (r b : Nat) : (s.regionTested r).freeRows b = s.freeRows b :=
  State.freeRows_congr (s := s) (t := s.regionTested r) rfl (s.takeRegion_spec r).2.2.1 b

/-- A spare row repairs a failing region. -/
theorem State.regionFails_repaired {s : State} {r k : Nat} (h : s.freeRows (bankOfRegion r) = k + 1) :
    s.regionFails r = ((s.updSnd (fun x =>
      { x with rowsUsed := x.rowsUsed.put (bankOfRegion r) (x.rowsUsed.get (bankOfRegion r) 0 + 1) })).setFld R.MEM_STAT_SPARE_ROWS 0
        (s.fld R.MEM_STAT_SPARE_ROWS - 1)).soundFail r 0 0 true := by
  unfold State.regionFails
  exact if_neg (by omega)

theorem State.regionFails_marked {s : State} {r : Nat} (h : s.freeRows (bankOfRegion r) = 0) :
    s.regionFails r = (if s.snd.failed.contains r then s
      else (s.satFld R.MEM_STAT_FAILED 0 1).updSnd (fun x => { x with failed := x.failed ++ [r] })).soundFail r 0 0 false := if_pos h

/-- What SND_FAIL_LAST shows of a failure, and its event. -/
theorem State.soundFail_spec (s : State) (index kind inst : Nat) (b : Bool) : (s.soundFail index kind inst b).latched R.SND_EVT_SND_FAIL = true
    ∧ (s.soundFail index kind inst b).fld R.SND_FAIL_LAST_INDEX 0 = index % 2 ^ R.SND_FAIL_LAST_INDEX.width
    ∧ (s.soundFail index kind inst b).flag R.SND_FAIL_LAST_REPAIRED = b := by
  have hfld : ∀ f : Fld, f.id ≠ R.SND_EVT.id → f.id ≠ R.SND_FAIL_LAST_VALID.id → (s.soundFail index kind inst b).fld f 0
      = (((s.setFld R.SND_FAIL_LAST_INDEX 0 index).setFld R.SND_FAIL_LAST_KIND 0 kind).setFlag R.SND_FAIL_LAST_REPAIRED 0 b).fld f 0 := by
    intro f hevt hvalid
    unfold State.soundFail
    exact (State.fld_latch_ne _ _ _ _ hevt).trans (State.fld_setFld_ne _ _ _ _ hvalid)
  refine ⟨State.latched_latch _ _ _ (by decide), ?_, ?_⟩
  · rw [hfld _ (by decide) (by decide), State.fld_setFlag_ne _ _ _ _ (by decide), State.fld_setFld_ne _ _ _ _ (by decide), State.fld_setFld_self]
  · exact (State.flag_of_fld (hfld _ (by decide) (by decide))).trans (State.flag_setFlag_self _ _ _ _ (by decide))

theorem State.regionFails_mem (s : State) (r : Nat) : (s.regionFails r).mem = s.mem :=
  State.regionFails_k (K := fun t => Part.same s t .mem) (loose_part s .mem (by decide) (by decide) (by decide)) rfl r

theorem State.regionFails_fuses (s : State) (r : Nat) : (s.regionFails r).fuses = s.fuses :=
  State.regionFails_k (K := fun t => Part.same s t .fuses) (loose_part s .fuses (by decide) (by decide) (by decide)) rfl r

/-- The march of the region in hand has been aborted. -/
def State.regionAborted (s : State) (r : Nat) : State :=
  (s.takeRegion r).updSnd (fun x => { x with aborts := x.aborts.put r (s.snd.aborts.get r 0 + 1), retry := x.retry ++ [(r, 16, s.frame)] })

theorem exec_soundAbort {s : State} {r : Nat} (hr : s.regionInHand = some r) (hs : s.sounds = true) :
    exec .soundAbort s = .next ((s.regionAborted r).latchIf (s.snd.aborts.get r 0 + 1 == 8) R.SND_EVT_SND_STARVED).showSounding := by
  show execSoundAbort s = _
  unfold execSoundAbort
  rw [hr]
  refine congrArg Host.Outcome.next (if_neg ?_)
  rw [State.soundsRegion_of_sounds hs]
  decide

/-! ### The bank under test -/

theorem State.showSounding_active (s : State) :
    s.showSounding.flag R.SND_STAT_ACTIVE = ((s.sounds && s.regionInHand.isSome) || s.snd.under.isSome) := by
  unfold State.showSounding
  dsimp only
  rw [State.flag_setFlag_self _ _ _ _ (by decide)]

theorem State.exemptRegion_congr {s t : State} (hf : ∀ i, t.fld R.SND_EXEMPT_FIRST i = s.fld R.SND_EXEMPT_FIRST i)
    (hc : ∀ i, t.fld R.SND_EXEMPT_COUNT i = s.fld R.SND_EXEMPT_COUNT i) (r : Nat) : t.exemptRegion r = s.exemptRegion r := by
  unfold State.exemptRegion
  simp only [hf, hc]

theorem State.skipExempt_congr {s t : State} (hf : ∀ i, t.fld R.SND_EXEMPT_FIRST i = s.fld R.SND_EXEMPT_FIRST i)
    (hc : ∀ i, t.fld R.SND_EXEMPT_COUNT i = s.fld R.SND_EXEMPT_COUNT i) (fuel r : Nat) : t.skipExempt fuel r = s.skipExempt fuel r := by
  induction fuel generalizing r with
  | zero => rfl
  | succ fuel ih =>
    unfold State.skipExempt
    simp only [hf, hc, ih]

/-- Which region is in hand depends on the exempt ranges, the frame, and the engine's place and retries. -/
theorem State.regionInHand_congr {s t : State} (hf : ∀ i, t.fld R.SND_EXEMPT_FIRST i = s.fld R.SND_EXEMPT_FIRST i)
    (hc : ∀ i, t.fld R.SND_EXEMPT_COUNT i = s.fld R.SND_EXEMPT_COUNT i) (hframe : t.frame = s.frame) (hnext : t.snd.next = s.snd.next)
    (hretry : t.snd.retry = s.snd.retry) (haborts : t.snd.aborts = s.snd.aborts) : t.regionInHand = s.regionInHand := by
  have hordered : t.orderedRegion = s.orderedRegion := by
    unfold State.orderedRegion
    rw [State.skipExempt_congr hf hc, hnext]
  have hretries : t.retries = s.retries := by
    unfold State.retries
    simp only [State.exemptRegion_congr hf hc, hretry]
  have hstarved : ∀ r, t.starved r = s.starved r := by
    intro r
    unfold State.starved
    rw [haborts]
  have hdue : t.retryRegion = s.retryRegion := by
    unfold State.retryRegion
    simp only [hretries, hframe, hstarved, hordered]
  unfold State.regionInHand
  rw [hdue, hordered]

theorem State.regionInHand_showSounding (s : State) : s.showSounding.regionInHand = s.regionInHand := by
  obtain ⟨b, hsnd⟩ := s.showSounding_snd
  exact State.regionInHand_congr (fun i => State.fld_showSounding s i (by decide)) (fun i => State.fld_showSounding s i (by decide))
    (State.fld_showSounding s 0 (by decide)) (by rw [hsnd]) (by rw [hsnd]) (by rw [hsnd])

/-- The bank under test has failed: it is retired, and its group has no sister. -/
def State.bankFailed (s : State) (b : Nat) : State :=
  let s1 := s.updSnd (fun x => { x with under := none })
  let s3 := ((s1.updSnd (fun x => { x with failedGroups := x.failedGroups ++ [b / 32], sister := x.sister.del (b / 32) })).addFld
    R.SND_STAT_NOSISTER 0 1).setFld R.TLY_SPARES_SISTERS 0 (s1.fld R.TLY_SPARES_SISTERS - 1)
  (s3.soundFail b 1 (b / 32) false).substDone classBank (b / 32) 0

/-- The bank under test has passed, and becomes its group's sister. -/
def State.bankPassed (s : State) (b : Nat) : State :=
  (s.updSnd (fun x => { x with under := none })).updSnd (fun x => { x with sister := x.sister.put (b / 32) b })

theorem exec_soundBankTestDone {s : State} {b : Nat} (hb : s.snd.under = some b) (fails : Bool) :
    exec (.soundBankTestDone fails) s = .next (if fails then s.bankFailed b else s.bankPassed b).endPass.showSounding := by
  show execSoundBankTestDone fails s = _
  unfold execSoundBankTestDone
  rw [hb]
  rfl

theorem State.bankFailed_spec (s : State) (b : Nat) : (s.bankFailed b).snd.under = none
    ∧ (s.bankFailed b).snd.failedGroups = s.snd.failedGroups ++ [b / 32] ∧ (s.bankFailed b).snd.sister = s.snd.sister.del (b / 32)
    ∧ (s.bankFailed b).latched R.SND_EVT_SND_FAIL = true ∧ (s.bankFailed b).latched R.TLY_EVT_SUBST_DONE = true := by
  obtain ⟨x, hx⟩ := ((s.updSnd (fun x => { x with under := none })).updSnd (fun x =>
    { x with failedGroups := x.failedGroups ++ [b / 32], sister := x.sister.del (b / 32) })).addFld_regs R.SND_STAT_NOSISTER 0 1
  have hsnd : (s.bankFailed b).snd = { s.snd with
      under := none, failedGroups := s.snd.failedGroups ++ [b / 32], sister := s.snd.sister.del (b / 32) } := by
    unfold State.bankFailed
    dsimp only
    rw [hx]
    refine (State.substDone_k (K := fun t => Part.same _ t .snd) (loose_part _ .snd (by decide) (by decide) (by decide)) rfl _ _ _).trans ?_
    exact State.soundFail_snd _ _ _ _ _
  refine ⟨by rw [hsnd], by rw [hsnd], by rw [hsnd], ?_, ?_⟩
  · unfold State.bankFailed
    exact State.latched_of_fld (State.fld_substDone _ _ _ _ _ (by decide)) (State.soundFail_spec _ _ _ _ _).1
  · unfold State.bankFailed State.substDone State.substDoneAt
    exact State.latched_of_fld (State.showBusy_k (K := fun t => t.fld R.TLY_EVT 0 = _) (loose_fld (by decide)) rfl)
      (State.latched_latch _ R.TLY_EVT_SUBST_DONE 0 (by decide))

/-! ### The statement -/

/-- Settles O44: each clause from what the test, the abort or the swap leaves, and that neither the end of a pass nor SND_STAT undoes it. -/
theorem sounding : Obligations.Sounding := by
  unfold Obligations.Sounding
  intro s
  refine ⟨?passes, ?repaired, ?marked, ?abort, ?swap, ?sister, ?retired⟩
  case passes =>
    intro r hr hs
    have hdone := (s.regionTested r).finished
    obtain ⟨haborts, -, -, hnext⟩ := s.takeRegion_spec r
    refine ⟨_, exec_soundRegion hr hs false, hdone.mem, ?_, hdone.fld _ 0 (by decide), fun hretry => ?_⟩
    · exact (congrArg (fun a : Tab Nat => a.find r) hdone.aborts).trans (Tab.find_del_self _ _)
    · exact hdone.next.imp (fun h => h.trans (hnext hretry)) id
  case repaired =>
    intro r k hr hs hfree
    have hexec := exec_soundRegion hr hs true
    rw [if_pos rfl] at hexec
    have hdone := ((s.regionTested r).regionFails r).finished
    have hrepair := State.regionFails_repaired ((s.freeRows_regionTested r _).trans hfree)
    obtain ⟨hevt, hindex, hflag⟩ := State.soundFail_spec (((s.regionTested r).updSnd (fun x =>
      { x with rowsUsed := x.rowsUsed.put (bankOfRegion r) (x.rowsUsed.get (bankOfRegion r) 0 + 1) })).setFld R.MEM_STAT_SPARE_ROWS 0
        ((s.regionTested r).fld R.MEM_STAT_SPARE_ROWS - 1)) r 0 0 true
    rw [← hrepair] at hevt hindex hflag
    refine ⟨_, hexec, hdone.mem.trans (State.regionFails_mem _ r), ?_, ?_, hdone.latched _ (by decide) rfl hevt,
      (hdone.fld _ 0 (by decide)).trans hindex, (State.flag_of_fld (hdone.fld _ 0 (by decide))).trans hflag, ?_⟩
    · have hused : ((s.regionTested r).regionFails r).snd.rowsUsed
          = s.snd.rowsUsed.put (bankOfRegion r) (s.snd.rowsUsed.get (bankOfRegion r) 0 + 1) := by
        rw [hrepair, State.soundFail_snd]
        have := (s.takeRegion_spec r).2.2.1
        show (s.takeRegion r).snd.rowsUsed.put _ ((s.takeRegion r).snd.rowsUsed.get _ 0 + 1) = _
        rw [this]
      have hfuses : ((s.regionTested r).regionFails r).fuses = s.fuses := State.regionFails_fuses _ r
      unfold State.freeRows at hfree ⊢
      rw [hdone.fuses, hdone.rowsUsed, hused, hfuses, Tab.get_put_self]
      omega
    · refine (hdone.fld _ 0 (by decide)).trans ?_
      rw [hrepair, State.fld_soundFail _ _ _ _ _ _ (by decide), State.fld_setFld_self]
      rfl
    · refine (hdone.fld _ 0 (by decide)).trans ?_
      rw [hrepair, State.fld_soundFail _ _ _ _ _ _ (by decide), State.fld_setFld_ne _ _ _ _ (by decide)]
      rfl
  case marked =>
    intro r hr hs hfree
    have hexec := exec_soundRegion hr hs true
    rw [if_pos rfl] at hexec
    have hdone := ((s.regionTested r).regionFails r).finished
    have hmark := State.regionFails_marked ((s.freeRows_regionTested r _).trans hfree)
    have hfailed : (s.regionTested r).snd.failed = s.snd.failed := (s.takeRegion_spec r).2.1
    refine ⟨_, hexec, hdone.mem.trans (State.regionFails_mem _ r), ?_, ?_, ?_⟩
    · refine (State.flag_of_fld (hdone.fld _ 0 (by decide))).trans ?_
      rw [hmark]
      exact (State.soundFail_spec _ _ _ _ _).2.2
    · rw [hdone.failed, hmark, State.soundFail_snd]
      split
      · rename_i hin
        simpa using hin
      · exact List.mem_append_right _ (List.mem_singleton.mpr rfl)
    · refine (hdone.fld _ 0 (by decide)).trans ?_
      rw [hmark, State.fld_soundFail _ _ _ _ _ _ (by decide), hfailed]
      by_cases hin : r ∈ s.snd.failed
      · rw [if_pos (by simpa using hin), if_pos hin]
        rfl
      · rw [if_neg (by simpa using hin), if_neg hin]
        exact State.fld_satFld_self _ _ _ _
  case abort =>
    intro r hr hs
    obtain ⟨b, hsnd⟩ := ((s.regionAborted r).latchIf (s.snd.aborts.get r 0 + 1 == 8) R.SND_EVT_SND_STARVED).showSounding_snd
    refine ⟨_, exec_soundAbort hr hs, ?_, ?_, ?_, ?_⟩
    · exact State.showSounding_k (K := fun t => Part.same s t .mem) (loose_part s .mem (by decide) (by decide) (by decide)) (State.latchIf_mem _ _ _ _)
    · rw [hsnd, State.latchIf_snd]
      exact Tab.get_put_self _ _ _ _
    · rw [hsnd, State.latchIf_snd]
      exact List.mem_append_right _ (List.mem_singleton.mpr rfl)
    · intro hseven
      rw [hseven]
      exact State.latched_of_fld (State.fld_showSounding _ 0 (by decide)) (State.latched_latch _ _ _ (by decide))
  case swap =>
    intro b hb hs hunder
    have hexec : exec .soundBankSwap s = .next (s.updSnd (fun x => { x with under := some b, bank := b + 1 })).showSounding := by
      show execSoundBankSwap s = _
      unfold execSoundBankSwap
      rw [hb]
      refine congrArg Host.Outcome.next (if_neg ?_)
      rw [hs, hunder]
      decide
    obtain ⟨c, hsnd⟩ := (s.updSnd (fun x => { x with under := some b, bank := b + 1 })).showSounding_snd
    refine ⟨_, hexec, by rw [hsnd]; rfl, by rw [hsnd]; rfl, ?_⟩
    rw [State.showSounding_active]
    exact Bool.or_true _
  case sister =>
    intro b hb
    have hdone := (s.bankPassed b).finished
    refine ⟨_, exec_soundBankTestDone hb false, hdone.under, ?_, ?_⟩
    · exact (congrArg (fun x : Tab Nat => x.get (b / 32) 0) hdone.sister).trans (Tab.get_put_self _ _ _ _)
    · have hpass : (s.bankPassed b).endPass.snd.under = none := by
        obtain h | h := (s.bankPassed b).endPass_snd <;> rw [h] <;> rfl
      have hsounds : (s.bankPassed b).endPass.sounds = s.sounds := State.flag_of_fld (State.fld_endPass (s.bankPassed b) 0 (by decide))
      rw [State.regionInHand_showSounding, if_neg Bool.false_ne_true, State.showSounding_active, hpass, hsounds]
      exact Bool.or_false _
  case retired =>
    intro b hb
    have hexec := exec_soundBankTestDone hb true
    rw [if_pos rfl] at hexec
    obtain ⟨hunder, hgroups, hsister, hfail, hsubst⟩ := s.bankFailed_spec b
    have hdone := (s.bankFailed b).finished
    refine ⟨_, hexec, hdone.under.trans hunder, ?_, ?_, hdone.latched _ (by decide) rfl hfail,
      State.latched_of_fld (hdone.fld _ 0 (by decide)) hsubst⟩
    · rw [hdone.failedGroups, hgroups]
      exact List.mem_append_right _ (List.mem_singleton.mpr rfl)
    · rw [hdone.sister, hsister]
      exact Tab.find_del_self _ _

end Sys2Proof.Machine
end

section
/-! O46: the peg selector, the queue of records, POP and the ring (R451, R454, R455). -/

namespace Sys2Proof.Machine

/-! ### The selector -/

/-- What the selector may do to the pegs of `s` in one frame, where at most `want` are still to be accepted. -/
structure State.Drawn (s t : State) (want : Nat) : Prop where
  drew : t.pegs.drew = s.pegs.drew
  queue : t.pegs.queue = s.pegs.queue
  accepted : ∃ new, t.pegs.flight = s.pegs.flight ++ new ∧ new.length ≤ want ∧ (new = [] ∨ s.pegs.flight.length + new.length ≤ 1024)
    ∧ ∀ p ∈ new, p.page = s.frame ∧ p.res = none ∧ p.sent = none

theorem State.Drawn.keeps {s t : State} (want : Nat) (hdrew : t.pegs.drew = s.pegs.drew) (hqueue : t.pegs.queue = s.pegs.queue)
    (hflight : t.pegs.flight = s.pegs.flight) : s.Drawn t want :=
  ⟨hdrew, hqueue, [], by rw [hflight, List.append_nil], Nat.zero_le _, .inl rfl, by simp⟩

/-- The pegs after a candidate has been accepted. -/
theorem State.Drawn.cons {s u t : State} {want : Nat} {p : Peg} (h : u.Drawn t want) (hdrew : u.pegs.drew = s.pegs.drew)
    (hqueue : u.pegs.queue = s.pegs.queue) (hframe : u.frame = s.frame) (hflight : u.pegs.flight = s.pegs.flight ++ [p])
    (hroom : s.pegs.flight.length < 1024) (hp : p.page = s.frame ∧ p.res = none ∧ p.sent = none) : s.Drawn t (want + 1) := by
  obtain ⟨hd, hq, new, hnew, hlen, htotal, hall⟩ := h
  refine ⟨hd.trans hdrew, hq.trans hqueue, p :: new, ?_, by simpa using hlen, .inr ?_, ?_⟩
  · rw [hnew, hflight, List.append_assoc]
    rfl
  · rw [hflight, List.length_append] at htotal
    rcases htotal with rfl | h
    · simpa using hroom
    · simp only [List.length_cons, List.length_nil] at h ⊢
      omega
  · intro q hq
    rcases List.mem_cons.mp hq with rfl | hq
    · exact hp
    · exact hframe ▸ hall q hq

theorem State.Drawn.skip {s u t : State} {want : Nat} (h : u.Drawn t want) (hdrew : u.pegs.drew = s.pegs.drew) (hqueue : u.pegs.queue = s.pegs.queue)
    (hframe : u.frame = s.frame) (hflight : u.pegs.flight = s.pegs.flight) : s.Drawn t want := by
  obtain ⟨hd, hq, hnew⟩ := h
  rw [hflight, hframe] at hnew
  exact ⟨hd.trans hdrew, hq.trans hqueue, hnew⟩

/-- A draw accepts at most `want` candidates, while fewer than 1,024 pegs are in flight. -/
theorem State.draw_drawn (s : State) (sc : Schedule) (fuel want : Nat) : s.Drawn (s.draw sc fuel want) want := by
  induction fuel generalizing s want with
  | zero => exact State.Drawn.keeps want rfl rfl rfl
  | succ fuel ih =>
    cases want with
    | zero => exact State.Drawn.keeps 0 rfl rfl rfl
    | succ want =>
      unfold State.draw
      split
      · exact State.Drawn.keeps _ (congrArg Pegs.drew (State.latch_pegs _ _ _)) (congrArg Pegs.queue (State.latch_pegs _ _ _))
          (congrArg Pegs.flight (State.latch_pegs _ _ _))
      · rename_i hroom
        dsimp only
        split
        · exact (ih _ _).skip rfl rfl rfl rfl
        · split
          · exact (ih _ _).skip rfl rfl rfl rfl
          · exact (ih _ _).cons rfl rfl rfl rfl (Nat.lt_of_not_le hroom) ⟨rfl, rfl, rfl⟩

/-! ### Completed pegs -/

theorem State.pegCount_pegs (s : State) (p : Peg) (e : PegEnd) : (s.pegCount p e).pegs = s.pegs :=
  State.pegCount_k (K := fun t => Part.same s t .pegs) (loose_part s .pegs (by decide) (by decide) (by decide)) rfl p e

theorem State.bankCount_pegs (s : State) (src arg n : Nat) : (s.bankCount src arg n).pegs = s.pegs :=
  State.bankCount_k (K := fun t => Part.same s t .pegs) (loose_part s .pegs (by decide) (by decide) (by decide)) rfl src arg n

/-- The peg has left, and its record has been queued or discarded. -/
def State.pegRecorded (s : State) (p : Peg) (e : PegEnd) : State :=
  (s.updPegs (fun u => { u with flight := u.flight.erase p, pseq := (u.pseq + 1) % 2 ^ 32 })).pegQueue (pegWords s.pegs.pseq p e)

theorem State.pegDone_eq (s : State) (p : Peg) (e : PegEnd) : s.pegDone p e = ((s.pegRecorded p e).pegCount p e).bankCount 0xF 0 1 := rfl

theorem State.pegDone_pegs (s : State) (p : Peg) (e : PegEnd) : (s.pegDone p e).pegs = (s.pegRecorded p e).pegs := by
  rw [State.pegDone_eq, State.bankCount_pegs, State.pegCount_pegs]

theorem State.pegDone_fld (s : State) (p : Peg) (e : PegEnd) {f : Fld} (h : f = R.PEG_EVT ∨ f = R.PEG_DROP_COUNT) :
    (s.pegDone p e).fld f 0 = (s.pegRecorded p e).fld f 0 := by
  rw [State.pegDone_eq]
  rcases h with rfl | rfl
  all_goals rw [State.fld_bankCount _ _ _ _ _ (by decide), State.fld_pegCount _ _ _ _ (by decide)]

theorem exec_pegComplete {s : State} {page : Word} {src : SlotAddr} {p : Peg} {e : PegEnd}
    (hp : s.pegs.flight.find? (fun p => p.page == page.toNat && p.src == src.val) = some p) (he : p.res = some e) :
    exec (.pegComplete page src) s = .next (s.pegDone p e) := by
  show execPegComplete page src s = _
  unfold execPegComplete
  rw [hp]
  dsimp only
  rw [he]

/-- The peg has left the pegs in flight, and its number is taken. -/
def State.pegLeft (s : State) (p : Peg) : State := s.updPegs (fun u => { u with flight := u.flight.erase p, pseq := (u.pseq + 1) % 2 ^ 32 })

theorem State.pegRecorded_of_room {s : State} (h : s.pegs.queue.length < 1024) (p : Peg) (e : PegEnd) :
    s.pegRecorded p e = ((s.pegLeft p).updPegs (fun u => { u with queue := u.queue ++ [pegWords s.pegs.pseq p e] })).latchIf
      (s.pegs.queue.length == 0) R.PEG_EVT_PEG_READY := if_neg (Nat.not_le.mpr h)

theorem State.pegRecorded_of_full {s : State} (h : 1024 ≤ s.pegs.queue.length) (p : Peg) (e : PegEnd) :
    s.pegRecorded p e = ((s.pegLeft p).satFld R.PEG_DROP_COUNT 0 1).latch R.PEG_EVT_PEG_DROP := if_pos h

/-- A queue with room takes the record. -/
theorem State.pegRecorded_room {s : State} (h : s.pegs.queue.length < 1024) (p : Peg) (e : PegEnd) :
    (s.pegRecorded p e).pegs.queue = s.pegs.queue ++ [pegWords s.pegs.pseq p e] ∧ (s.pegRecorded p e).pegs.flight = s.pegs.flight.erase p
      ∧ (s.pegRecorded p e).pegs.pseq = (s.pegs.pseq + 1) % 2 ^ 32 ∧ (s.pegs.queue = [] → (s.pegRecorded p e).latched R.PEG_EVT_PEG_READY = true) := by
  rw [State.pegRecorded_of_room h, State.latchIf_pegs]
  exact ⟨rfl, rfl, rfl, fun hempty => State.latched_latchIf (by rw [hempty]; rfl) _ _ _ (by decide)⟩

/-- A full queue discards it. -/
theorem State.pegRecorded_full {s : State} (h : 1024 ≤ s.pegs.queue.length) (p : Peg) (e : PegEnd) :
    (s.pegRecorded p e).pegs.queue = s.pegs.queue ∧ (s.pegRecorded p e).latched R.PEG_EVT_PEG_DROP = true
      ∧ (s.pegRecorded p e).fld R.PEG_DROP_COUNT = satAdd (2 ^ R.PEG_DROP_COUNT.width - 1) (s.fld R.PEG_DROP_COUNT) 1 := by
  rw [State.pegRecorded_of_full h, State.latch_pegs]
  exact ⟨rfl, State.latched_latch _ _ _ (by decide), (State.fld_latch_ne _ _ _ _ (by decide)).trans (State.fld_satFld_self _ _ _ _)⟩

/-! ### POP and the ring -/

def pegCtrlReg : Reg := ⟨RN.PEG_CTRL, 0x90114, 0, 1, 0x0, .single, [⟨R.PEG_CTRL_POP, 0, 0, 1⟩]⟩

theorem State.writeEffect_pegCtrl (s o : State) (m i w : Nat) : s.writeEffect o m RN.PEG_CTRL i w none = s.pegCtrl w := rfl

/-- An accepted POP acts behind the parked path. -/
theorem exec_pop {m : Master} {w : Word} {s : State} (ha : s.accepts m RN.PEG_CTRL 0 = true) :
    ∃ u : State, s.Parked u ∧ exec (.pop m w) s = .next (u.pegCtrl (putBits w.toNat 0 1 1)).completed := by
  obtain ⟨u, hu, hw⟩ := State.regWrite_unjournalled (r := pegCtrlReg) (by decide) (by decide) (by decide) (by decide) (by decide) (by decide) ha
    (putBits w.toNat 0 1 1)
  exact ⟨u, hu, congrArg Host.Outcome.next (hw.trans (congrArg State.completed (State.writeEffect_pegCtrl u u m 0 _)))⟩

theorem State.completed_pegs (s : State) : s.completed.pegs = s.pegs := by
  obtain ⟨x, y, h⟩ := s.completed_same
  rw [h]

theorem State.pegCtrl_pop {s : State} (h : s.flag R.PEG_CFG_DMA_EN = false) (w : Nat) :
    s.pegCtrl (putBits w 0 1 1) = s.updPegs (fun p => { p with queue := p.queue.drop 1 }) := by
  unfold State.pegCtrl
  rw [bit_putBits_one, h]
  rfl

theorem State.pegCtrl_dma {s : State} (h : s.flag R.PEG_CFG_DMA_EN = true) (w : Nat) : s.pegCtrl w = s := by
  unfold State.pegCtrl
  exact if_pos (by rw [h]; simp)

/-- The head record has left the queue, and HEAD has advanced. -/
def State.pegMoved (s : State) (rest : List (List Nat)) : State :=
  (s.updPegs (fun p => { p with queue := rest })).setFld R.PEG_DMA_IDX_HEAD 0 ((s.fld R.PEG_DMA_IDX_HEAD + 1) % 4096)

theorem exec_pegDmaMove {s : State} {r : List Nat} {rest : List (List Nat)} (hq : s.pegs.queue = r :: rest) (hen : s.flag R.PEG_CFG_DMA_EN = true)
    (hroom : (s.fld R.PEG_DMA_IDX_HEAD + 1) % 4096 ≠ s.fld R.PEG_DMA_IDX_TAIL) {a : Nat}
    (ha : a = s.fld R.PEG_DMA_BASE_BASE + 64 * s.fld R.PEG_DMA_IDX_HEAD) (hreach : s.reaches 10 true a (place a) = true) :
    exec .pegDmaMove s = .next ((s.pegMoved rest).writeBytes a ((r.flatMap (leBytes 4)).take 64)) := by
  subst ha
  show execPegDmaMove s = _
  unfold execPegDmaMove
  rw [hq]
  dsimp only
  rw [if_neg (by simp [hen, hroom]), if_pos hreach]
  rfl

/-! ### The statement -/

/-- Settles O46; the selector by induction on the candidates that are left. -/
theorem pegsComplete : Obligations.PegsComplete := by
  unfold Obligations.PegsComplete
  intro s
  refine ⟨?select, ?queued, ?dropped, ?pop, ?held, ?moved⟩
  case select =>
    intro hdrew htick
    obtain ⟨hd, hq, hnew⟩ := (s.updPegs (fun p => { p with drew := some s.frame })).draw_drawn (s.schedAt (frameAdd s.frame 2)) pegLimit
      (s.fld R.PEG_CFG_RATE)
    exact ⟨_, congrArg Host.Outcome.next (if_neg (by simp [hdrew, htick])), hd, hq, hnew⟩
  case queued =>
    intro page src p e hp he hroom
    obtain ⟨hqueue, hflight, hseq, hready⟩ := State.pegRecorded_room hroom p e
    refine ⟨_, exec_pegComplete hp he, ?_, ?_, ?_, fun hempty => ?_⟩
    · rw [State.pegDone_pegs, hqueue]
    · rw [State.pegDone_pegs, hflight]
    · rw [State.pegDone_pegs, hseq]
    · exact State.latched_of_fld (State.pegDone_fld s p e (.inl rfl)) (hready hempty)
  case dropped =>
    intro page src p e hp he hfull
    obtain ⟨hqueue, hdrop, hcount⟩ := State.pegRecorded_full hfull p e
    refine ⟨_, exec_pegComplete hp he, ?_, ?_, ?_⟩
    · rw [State.pegDone_pegs, hqueue]
    · exact State.latched_of_fld (State.pegDone_fld s p e (.inl rfl)) hdrop
    · rw [State.pegDone_fld s p e (.inr rfl), hcount]
  case pop =>
    intro m w ha hdma
    obtain ⟨u, hu, hexec⟩ := exec_pop (w := w) ha
    refine ⟨_, hexec, State.completed_status _, ?_⟩
    rw [State.completed_pegs, State.pegCtrl_pop ((hu.flag 0 (by decide)).trans hdma)]
    obtain ⟨x, hx⟩ := hu.regs
    rw [hx]
    rfl
  case held =>
    intro m w ha hdma
    obtain ⟨u, hu, hexec⟩ := exec_pop (w := w) ha
    rw [State.pegCtrl_dma ((hu.flag 0 (by decide)).trans hdma)] at hexec
    obtain ⟨x, hx⟩ := hu.regs
    exact ⟨_, hexec, (State.completed_pegs u).trans (by rw [hx])⟩
  case moved =>
    intro r rest a hq hen hroom hwf ha hreach
    have hwf' : (s.pegMoved rest).MemWf := hwf
    have hpegs : ((s.pegMoved rest).writeBytes a ((r.flatMap (leBytes 4)).take 64)).pegs = (s.pegMoved rest).pegs :=
      State.writeBytes_k (K := fun t => Part.same (s.pegMoved rest) t .pegs) (loose_part _ .pegs (by decide) (by decide) (by decide)) rfl _ _
    refine ⟨_, exec_pegDmaMove hq hen hroom ha hreach, congrArg Pegs.queue hpegs, ⟨State.readBytes_writeBytes hwf' _ _, fun c hc => ?_⟩, ?_⟩
    · exact (State.byte_writeBytes_ne _ _ hc).trans (State.byte_setFld _ _ _ _ c)
    · rw [State.fld_writeBytes _ _ _ _ (by decide)]
      exact (State.fld_setFld_self _ _ _ _).trans (Nat.mod_eq_of_lt (Nat.mod_lt _ (by decide)))

end Sys2Proof.Machine
end

section
/-! O47: spares take over (R460 to R467). -/

namespace Sys2Proof.Machine

/-! ### What several triggers share -/

theorem State.exhausted_sist (s : State) : s.exhausted.sist = s.sist := State.latch_sist _ _ _

theorem State.needSubst_spec (s : State) (cls inst : Nat) : (s.needSubst cls inst).sist = s.sist
    ∧ (s.needSubst cls inst).latched R.TLY_EVT_SUBST_NEED = true :=
  ⟨State.latch_sist _ _ _, State.latched_latch s R.TLY_EVT_SUBST_NEED 0 (by decide)⟩

/-- SIST_BUSY follows what runs and what waits. -/
theorem State.showBusy_flag (s : State) : s.showBusy.flag R.TLY_STAT_SIST_BUSY = (!s.sist.lanePend.isEmpty || !s.sist.laneRun.isEmpty
    || s.sist.lamPend.isSome || s.sist.lamRun.isSome || s.sist.fec.entries.any (fun e => e.2.running) || s.sist.joiner.isSome
    || decide (2 ≤ s.plumb.test)) := State.flag_setFlag_self _ _ _ _ (by decide)

theorem State.substDone_sist (s : State) (cls inst spare : Nat) : (s.substDone cls inst spare).sist = s.sist :=
  State.substDone_k (K := fun t => Part.same s t .sist) (loose_part s .sist (by decide) (by decide) (by decide)) rfl cls inst spare

theorem State.substDone_latched (s : State) (cls inst spare : Nat) : (s.substDone cls inst spare).latched R.TLY_EVT_SUBST_DONE = true := by
  unfold State.substDone State.substDoneAt State.showBusy
  exact State.latched_of_fld (State.fld_setFlag_ne _ _ _ _ (by decide)) (State.latched_latch s R.TLY_EVT_SUBST_DONE 0 (by decide))

theorem State.stg_congr {s t : State} {f : Fld} {i : Nat} (hs : t.staged = s.staged) (hf : t.fld f i = s.fld f i) : t.stg f i = s.stg f i := by
  unfold State.stg
  rw [hs, hf]

/-! ### Lanes -/

theorem exec_laneSubstTrigger {s : State} {x : Fin 256} {why : LaneTrigger} (h : s.laneTriggers x why = true) (hpend : x.val ∉ s.sist.lanePend)
    (hrun : x.val ∉ s.sist.laneRun) : exec (.laneSubstTrigger x why) s = .next (
      if !s.spareFound x.val && !s.lanesBusy then s.exhausted
      else if s.autoSubst 0 then (s.updSist (fun t => { t with lanePend := t.lanePend ++ [x.val] })).showBusy
      else s.needSubst classLane x.val) :=
  congrArg Host.Outcome.next (if_neg (by simp [h, hpend, hrun]))

/-! ### A lamination -/

/-- LAMS takes the place of the lamination that it shadows, SUB being 1. -/
def State.lamSelected (s : State) : State :=
  ((s.setFld R.FAB_LAM_CTRL_SUB 0 1).setStg R.FAB_LAM_CTRL_SUB 0 1).lamsIn.updSist (fun x => { x with lamRun := none })

theorem exec_lamSubstSelect {s : State} {k : Nat} (hk : s.sist.lamRun = some k) (h8 : 8 ≤ s.fld R.FAB_LAM_STAT_SHADOW_FRAMES) :
    exec .lamSubstSelect s = .next (s.lamSelected.substDone classLam k 0) := by
  show execLamSubstSelect s = _
  unfold execLamSubstSelect
  rw [hk]
  exact congrArg Host.Outcome.next (if_neg (Nat.not_lt.mpr h8))

theorem State.lamSelected_spec (s : State) : s.lamSelected.flag R.FAB_LAM_CTRL_SUB = true ∧ s.lamSelected.stg R.FAB_LAM_CTRL_SUB = 1
    ∧ s.lamSelected.flag R.FAB_LAM_STAT_SUB_ACT = true ∧ s.lamSelected.fld R.TLY_SPARES_LAM = 0 ∧ s.lamSelected.sist.lamRun = none := by
  have hfld : ∀ f : Fld, f.id ≠ R.FAB_EVT.id → s.lamSelected.fld f 0
      = (((((s.setFld R.FAB_LAM_CTRL_SUB 0 1).setStg R.FAB_LAM_CTRL_SUB 0 1).setFlag R.FAB_LAM_STAT_SUB_ACT 0 true)).setFld R.TLY_SPARES_LAM 0 0).fld
        f 0 := fun f h => State.fld_latch_ne _ _ _ _ h
  have hsub : s.lamSelected.fld R.FAB_LAM_CTRL_SUB = 1 := by
    rw [hfld _ (by decide), State.fld_setFld_ne _ _ _ _ (by decide), State.fld_setFlag_ne _ _ _ _ (by decide), State.fld_setStg, State.fld_setFld_self]
    rfl
  have hstaged : s.lamSelected.staged = ((s.setFld R.FAB_LAM_CTRL_SUB 0 1).setStg R.FAB_LAM_CTRL_SUB 0 1).staged := State.latch_staged _ _ _
  refine ⟨?_, ?_, ?_, ?_, rfl⟩
  · unfold State.flag
    rw [hsub]
    decide
  · refine (State.stg_congr hstaged ?_).trans (State.stg_setStg_self _ _ _ _)
    rw [hsub, State.fld_setStg, State.fld_setFld_self]
    rfl
  · refine (State.flag_of_fld (hfld _ (by decide))).trans ?_
    rw [State.flag_setFld_ne _ _ _ _ (by decide)]
    exact State.flag_setFlag_self _ _ _ _ (by decide)
  · rw [hfld _ (by decide), State.fld_setFld_self]
    rfl

/-! ### Decoders -/

theorem exec_fecSubstSwitch {s : State} {n : LaneIx} {k : Nat} (hf : s.sist.fec.find n = some (.compares k)) (hk : 128 ≤ k) (agree : Bool) :
    exec (.fecSubstSwitch n agree) s = .next (
      if agree then (((s.setFld R.TLY_SPARES_FEC 0 (s.fld R.TLY_SPARES_FEC - 1)).setFec n.val .replaced).substDone classFec n.val
        (7 - (s.fld R.TLY_SPARES_FEC - 1))).nextFec
      else if s.fld R.TLY_SPARES_FEC - 1 = 0 then ((((s.setFld R.TLY_SPARES_FEC 0 (s.fld R.TLY_SPARES_FEC - 1)).exhausted.tallyAdd tallyDecoder 0 n.val
        [n.val % 256]).setFec n.val .none).nextFec)
      else (s.setFld R.TLY_SPARES_FEC 0 (s.fld R.TLY_SPARES_FEC - 1)).setFec n.val (.compares 0)) := by
  show execFecSubstSwitch n agree s = _
  unfold execFecSubstSwitch
  rw [hf]
  exact congrArg Host.Outcome.next (if_neg (Nat.not_lt.mpr hk))

theorem State.nextFec_of_none {s : State} (h : s.sist.fecWait = []) : s.nextFec = s.showBusy := by
  unfold State.nextFec
  rw [h]
  rfl

/-! ### Joiner cores -/

theorem exec_joinerSubstTrigger {s : State} {k : Fin 5} (h : s.liveTarget ≠ some k.val) :
    exec (.joinerSubstTrigger k) s = .next (s.joinerFails k) :=
  congrArg Host.Outcome.next (if_neg (by simp [h]))

/-- With a spare, and AUTO, the substitution starts at the next tick. -/
theorem State.joinerFails_auto {s : State} {k i : Nat} (hout : s.coreOut k = false) (hbusy : s.joinerBusy = false) (hspare : s.spareCore = some i)
    (hi : i ≠ k) (hauto : s.autoSubst 3 = true) :
    s.joinerFails k = (s.updSist (fun x => { x with joiner := some (k, frameAdd s.frame 1) })).showBusy := by
  unfold State.joinerFails
  rw [hout, hbusy, hspare, if_neg Bool.false_ne_true, if_neg Bool.false_ne_true]
  dsimp only
  rw [if_neg hi, if_pos hauto]

/-- A core that finds no spare is out of service. -/
def State.joinerLost (s : State) (k : Nat) : State := s.exhausted.updSist (fun x => { x with joinersOut := x.joinersOut ++ [k] })

theorem State.joinerFails_none {s : State} {k : Nat} (hout : s.coreOut k = false) (hbusy : s.joinerBusy = false) (hspare : s.spareCore = none) :
    s.joinerFails k = if (s.joinerLost k).servingCores.length < 2 then (s.joinerLost k).failDevice else s.joinerLost k := by
  unfold State.joinerFails
  rw [hout, hbusy, hspare, if_neg Bool.false_ne_true, if_neg Bool.false_ne_true]
  rfl

theorem State.coreOut_append {s : State} {k : Nat} {l : List Nat} (h : s.sist.joinersOut = l ++ [k]) : s.coreOut k = true := by
  unfold State.coreOut
  rw [h]
  simp

theorem State.joinerFails_lost {s : State} {k : Nat} (hout : s.coreOut k = false) (hbusy : s.joinerBusy = false) (hspare : s.spareCore = none) :
    (s.joinerFails k).coreOut k = true ∧ (s.joinerFails k).latched R.TLY_EVT_SPARE_EXHAUSTED = true := by
  have hsist : (s.joinerFails k).sist = (s.joinerLost k).sist := by
    rw [State.joinerFails_none hout hbusy hspare]
    split
    · exact State.failDevice_k (K := fun t => Part.same (s.joinerLost k) t .sist) (loose_part _ .sist (by decide) (by decide) (by decide)) rfl
    · rfl
  have hevt : (s.joinerFails k).fld R.TLY_EVT 0 = (s.joinerLost k).fld R.TLY_EVT 0 := by
    rw [State.joinerFails_none hout hbusy hspare]
    split
    · exact State.fld_failDevice _ _ (by decide)
    · rfl
  refine ⟨State.coreOut_append (l := s.exhausted.sist.joinersOut) (congrArg Sist.joinersOut hsist), State.latched_of_fld hevt ?_⟩
  exact State.latched_latch s R.TLY_EVT_SPARE_EXHAUSTED 0 (by decide)

/-- The spare has the failed core's master number. -/
def State.jmapSwapped (s : State) (k i : Nat) (dataOk : Bool) : State :=
  (((s.fillSpare i k dataOk).setFld R.MTX_JMAP_CORES 0 (jmapSwap ((s.fillSpare i k dataOk).fld R.MTX_JMAP_CORES) k i)).setFld R.TLY_SPARES_JOINER 0
    0).latchFor R.MTX_EVT_JMAP_CHANGE ((s.servedBy k).getD 0)

/-- The substitution of core `k` is complete. -/
def State.joinerDone (s : State) (k i : Nat) (dataOk : Bool) : State :=
  ((s.jmapSwapped k i dataOk).updSist (fun x => { x with joiner := none, joinersOut := x.joinersOut ++ [k] })).substDone classJoiner k i

theorem exec_joinerSubstDone {s : State} {k f i : Nat} (hj : s.sist.joiner = some (k, f)) (hs : s.spareCore = some i)
    (hf : frameReached s.frame f = true) (dataOk : Bool) :
    exec (.joinerSubstDone dataOk) s = .next (s.joinerDone k i dataOk).joinersNext.liveResume := by
  show execJoinerSubstDone dataOk s = _
  unfold execJoinerSubstDone
  rw [hj, hs]
  exact congrArg Host.Outcome.next (if_neg (by rw [hf]; decide))

theorem State.joinersNext_of_none {s : State} (h : s.sist.joinerWait = []) : s.joinersNext = s.updSist (fun x => { x with joinerWait := [] }) := by
  unfold State.joinersNext
  rw [h]
  rfl

theorem State.jmapSwapped_spec (s : State) (k i : Nat) (dataOk : Bool) :
    (s.jmapSwapped k i dataOk).fld R.MTX_JMAP_CORES = jmapSwap (s.fld R.MTX_JMAP_CORES) k i % 2 ^ 12
      ∧ (s.jmapSwapped k i dataOk).fld R.TLY_SPARES_JOINER = 0 ∧ (s.jmapSwapped k i dataOk).latched R.MTX_EVT_JMAP_CHANGE = true
      ∧ (s.jmapSwapped k i dataOk).sist = s.sist := by
  have hfld : ∀ f : Fld, f.id ≠ R.MTX_EVT.id → (s.jmapSwapped k i dataOk).fld f 0
      = (((s.fillSpare i k dataOk).setFld R.MTX_JMAP_CORES 0 (jmapSwap ((s.fillSpare i k dataOk).fld R.MTX_JMAP_CORES) k i)).setFld
        R.TLY_SPARES_JOINER 0 0).fld f 0 := fun f h => State.fld_latchAs_ne _ _ _ _ _ _ h
  refine ⟨?_, ?_, State.latched_latchAs _ _ _ _ _ (by decide), ?_⟩
  · rw [hfld _ (by decide), State.fld_setFld_ne _ _ _ _ (by decide), State.fld_setFld_self, State.fld_fillSpare _ _ _ _ _ (by decide)]
    rfl
  · rw [hfld _ (by decide), State.fld_setFld_self]
    rfl
  · exact (State.latchFor_sist _ _ _).trans
      (State.fillSpare_k (K := fun t => Part.same s t .sist) (loose_part s .sist (by decide) (by decide) (by decide)) rfl i k dataOk)

/-- Nothing that the completion does later changes what the swap has set. -/
theorem State.joinerDone_fld (s : State) (k i : Nat) (dataOk : Bool) {f : Fld} (h : f.id ≠ R.TLY_EVT.id) (h' : f.id ≠ R.TLY_STAT_SIST_BUSY.id) :
    (s.joinerDone k i dataOk).fld f 0 = (s.jmapSwapped k i dataOk).fld f 0 := by
  unfold State.joinerDone State.substDone State.substDoneAt State.showBusy
  exact (State.fld_setFlag_ne _ _ _ _ h').trans (State.fld_latch_ne _ _ _ _ h)

theorem State.liveResume_sist (s : State) : s.liveResume.sist = s.sist :=
  State.liveResume_k (K := fun t => Part.same s t .sist) (loose_part s .sist (by decide) (by decide) (by decide)) rfl

/-! ### Scribe engines -/

theorem State.showCompiling_chg (s : State) (c : Change) : (s.showCompiling c).chg = s.chg :=
  State.showCompiling_k (K := fun t => Part.same s t .chg) (loose_part s .chg (by decide) (by decide) (by decide)) rfl c

/-- A compile in progress starts again; a change in another state goes on. -/
theorem State.restartCompile_chg {s : State} {c : Change} (h : s.chg = some c) :
    s.restartCompile.chg = some (if c.state = .compiling then { c with began := s.frame } else c) := by
  unfold State.restartCompile
  rw [h]
  dsimp only
  split
  · rename_i hc
    rw [State.startCompile, State.showCompiling_chg, ← hc]
  · exact h

/-- A spare engine has taken the place of engine `e`. -/
def State.engineSpared (s : State) (e : Nat) : State :=
  (((s.setFld R.SCB_STAT_SPARES 0 (s.fld R.SCB_STAT_SPARES - 1)).setFld R.TLY_SPARES_SCRIBE 0 (s.fld R.SCB_STAT_SPARES - 1)).latch
    R.SCB_EVT_ENGINE_SUB).substDone classScribe e (68 - s.fld R.SCB_STAT_SPARES)

theorem State.engineSpared_spec {s : State} {n : Nat} (h : s.fld R.SCB_STAT_SPARES = n + 1) (hn : n < 8) (e : Nat) :
    (s.engineSpared e).fld R.SCB_STAT_SPARES = n ∧ (s.engineSpared e).fld R.TLY_SPARES_SCRIBE = n
      ∧ (s.engineSpared e).fld R.SCB_STAT_ENGINES = s.fld R.SCB_STAT_ENGINES ∧ (s.engineSpared e).latched R.SCB_EVT_ENGINE_SUB = true
      ∧ (s.engineSpared e).latched R.TLY_EVT_SUBST_DONE = true ∧ (s.engineSpared e).frame = s.frame ∧ (s.engineSpared e).chg = s.chg := by
  unfold State.engineSpared
  rw [h, Nat.add_sub_cancel]
  refine ⟨?_, ?_, ?_, ?_, State.substDone_latched _ _ _ _, ?_, ?_⟩
  · rw [State.fld_substDone _ _ _ _ _ (by decide), State.fld_latch_ne _ _ _ _ (by decide), State.fld_setFld_ne _ _ _ _ (by decide),
      State.fld_setFld_self]
    exact Nat.mod_eq_of_lt hn
  · rw [State.fld_substDone _ _ _ _ _ (by decide), State.fld_latch_ne _ _ _ _ (by decide), State.fld_setFld_self]
    exact Nat.mod_eq_of_lt hn
  · rw [State.fld_substDone _ _ _ _ _ (by decide), State.fld_latch_ne _ _ _ _ (by decide), State.fld_setFld_ne _ _ _ _ (by decide),
      State.fld_setFld_ne _ _ _ _ (by decide)]
  · exact State.latched_of_fld (State.fld_substDone _ _ _ _ _ (by decide)) (State.latched_latch _ _ _ (by decide))
  · refine (State.fld_substDone _ _ _ _ _ (by decide)).trans ((State.fld_latch_ne _ _ _ _ (by decide)).trans ?_)
    exact (State.fld_setFld_ne _ _ _ _ (by decide)).trans (State.fld_setFld_ne _ _ _ _ (by decide))
  · exact (State.substDone_k (K := fun t => Part.same _ t .chg) (loose_part _ .chg (by decide) (by decide) (by decide)) rfl _ _ _).trans
      (State.latch_chg _ _ _)

/-! ### The statement -/

/-- Settles O47, each clause from the operation that its trigger or its completion is. -/
theorem sparesTakeOver : Obligations.SparesTakeOver := by
  unfold Obligations.SparesTakeOver
  intro s
  refine ⟨?lane, ?lam, ?fecDone, ?fecNext, ?excluded, ?auto, ?none, ?done, ?spared, ?fewer⟩
  case lane =>
    intro x why h hpend hrun
    have hexec := exec_laneSubstTrigger h hpend hrun
    refine ⟨fun hfound hauto => ?_, fun hfound hauto => ?_, fun hnone hidle => ?_⟩
    · rw [if_neg (by rcases hfound with h | h <;> simp [h]), if_pos hauto] at hexec
      refine ⟨_, hexec, rfl, ?_⟩
      rw [State.showBusy_flag]
      simp
    · rw [if_neg (by rcases hfound with h | h <;> simp [h]), if_neg (by simp [hauto])] at hexec
      exact ⟨_, hexec, s.needSubst_spec _ _⟩
    · rw [if_pos (by simp [hnone, hidle])] at hexec
      exact ⟨_, hexec, s.exhausted_sist, State.latched_latch s R.TLY_EVT_SPARE_EXHAUSTED 0 (by decide)⟩
  case lam =>
    intro k hk h8
    obtain ⟨hsub, hstg, hact, hspare, hrun⟩ := s.lamSelected_spec
    have hstaged : (s.lamSelected.substDone classLam k 0).staged = s.lamSelected.staged :=
      State.substDone_k (K := fun t => Part.same _ t .staged) (loose_part _ .staged (by decide) (by decide) (by decide)) rfl _ _ _
    exact ⟨_, exec_lamSubstSelect hk h8, (State.flag_of_fld (State.fld_substDone _ _ _ _ _ (by decide))).trans hsub,
      (State.stg_congr hstaged (State.fld_substDone _ _ _ _ _ (by decide))).trans hstg,
      (State.flag_of_fld (State.fld_substDone _ _ _ _ _ (by decide))).trans hact, (State.fld_substDone _ _ _ _ _ (by decide)).trans hspare,
      (congrArg Sist.lamRun (State.substDone_sist _ _ _ _)).trans hrun, State.substDone_latched _ _ _ _⟩
  case fecDone =>
    intro n k hf hk hwait
    have hexec := exec_fecSubstSwitch hf hk true
    have hnone : (((s.setFld R.TLY_SPARES_FEC 0 (s.fld R.TLY_SPARES_FEC - 1)).setFec n.val .replaced).substDone classFec n.val
        (7 - (s.fld R.TLY_SPARES_FEC - 1))).sist.fecWait = [] := (congrArg Sist.fecWait (State.substDone_sist _ _ _ _)).trans hwait
    rw [if_pos rfl, State.nextFec_of_none hnone] at hexec
    have hsist := State.substDone_sist ((s.setFld R.TLY_SPARES_FEC 0 (s.fld R.TLY_SPARES_FEC - 1)).setFec n.val .replaced) classFec n.val
      (7 - (s.fld R.TLY_SPARES_FEC - 1))
    refine ⟨_, hexec, ?_, ?_, ?_⟩
    · exact (congrArg (fun x : Sist => x.fec.find n) hsist).trans (Tab.find_put_self _ _ _)
    · exact State.latched_of_fld (State.fld_setFlag_ne _ _ _ _ (by decide)) (State.substDone_latched _ _ _ _)
    · refine (State.fld_setFlag_ne _ _ _ _ (by decide)).trans ((State.fld_substDone _ _ _ _ _ (by decide)).trans ?_)
      exact State.fld_setFld_self _ _ _ _
  case fecNext =>
    intro n k hf hk h2
    have hexec := exec_fecSubstSwitch hf hk false
    rw [if_neg Bool.false_ne_true, if_neg (by omega)] at hexec
    exact ⟨_, hexec, Tab.find_put_self _ _ _, State.fld_setFld_self _ _ _ _⟩
  case excluded =>
    intro k hk hout
    exact ⟨_, congrArg Host.Outcome.next (if_pos (by simp [hk, hout])), rfl⟩
  case auto =>
    intro k i hlive hout hbusy hspare hi hauto
    refine ⟨_, exec_joinerSubstTrigger hlive, ?_⟩
    rw [State.joinerFails_auto hout hbusy hspare hi hauto]
    refine ⟨rfl, ?_⟩
    rw [State.showBusy_flag]
    simp
  case none =>
    intro k hlive hout hbusy hspare
    exact ⟨_, exec_joinerSubstTrigger hlive, State.joinerFails_lost hout hbusy hspare⟩
  case done =>
    intro dataOk k f i hj hs hf hwait
    obtain ⟨hcores, hspare, hevt, hsist⟩ := s.jmapSwapped_spec k i dataOk
    have hdone : (s.joinerDone k i dataOk).sist = { s.sist with joiner := none, joinersOut := s.sist.joinersOut ++ [k] } := by
      unfold State.joinerDone
      rw [State.substDone_sist]
      exact congrArg (fun x : Sist => { x with joiner := none, joinersOut := x.joinersOut ++ [k] }) hsist
    have hexec := exec_joinerSubstDone hj hs hf dataOk
    rw [State.joinersNext_of_none ((congrArg Sist.joinerWait hdone).trans hwait)] at hexec
    have hlast := State.liveResume_sist ((s.joinerDone k i dataOk).updSist (fun x => { x with joinerWait := [] }))
    have hfld : ∀ f : Fld, regOk 0x6000000000000000000000000000000000000000000000000000000000000000000000000000000000000000000000000000000000000000000000000000000000000000000000 f.id = false →
        (((s.joinerDone k i dataOk).updSist (fun x => { x with joinerWait := [] })).liveResume).fld f 0 = (s.joinerDone k i dataOk).fld f 0 :=
      fun f h => State.fld_liveResume _ _ h
    refine ⟨_, hexec, ?_, ?_, ?_, ?_, ?_, ?_⟩
    · exact (congrArg Sist.joiner hlast).trans (congrArg Sist.joiner hdone)
    · exact State.coreOut_append ((congrArg Sist.joinersOut hlast).trans (congrArg Sist.joinersOut hdone))
    · exact (hfld _ (by decide)).trans ((s.joinerDone_fld k i dataOk (by decide) (by decide)).trans hcores)
    · exact (hfld _ (by decide)).trans ((s.joinerDone_fld k i dataOk (by decide) (by decide)).trans hspare)
    · exact State.latched_of_fld ((hfld _ (by decide)).trans (s.joinerDone_fld k i dataOk (by decide) (by decide))) hevt
    · exact State.latched_of_fld (hfld _ (by decide)) (State.substDone_latched _ _ _ _)
  case spared =>
    intro e n hn hlt
    obtain ⟨hspares, htally, hengines, hsub, hdone, hframe, hchg⟩ := State.engineSpared_spec hn hlt e
    have hexec : exec (.scribeEngineRetire e) s = .next (s.engineSpared e).restartCompile :=
      congrArg Host.Outcome.next (if_neg (by rw [hn]; exact Nat.succ_ne_zero n))
    refine ⟨_, hexec, (State.fld_restartCompile _ _ (by decide)).trans hspares, (State.fld_restartCompile _ _ (by decide)).trans htally,
      (State.fld_restartCompile _ _ (by decide)).trans hengines, State.latched_of_fld (State.fld_restartCompile _ _ (by decide)) hsub,
      State.latched_of_fld (State.fld_restartCompile _ _ (by decide)) hdone, fun c hc => ?_⟩
    rw [State.restartCompile_chg (hchg.trans hc), hframe]
  case fewer =>
    intro e h
    have hexec : exec (.scribeEngineRetire e) s
        = .next (s.exhausted.setFld R.SCB_STAT_ENGINES 0 (s.fld R.SCB_STAT_ENGINES - 1)).restartCompile :=
      congrArg Host.Outcome.next (if_pos h)
    refine ⟨_, hexec, (State.fld_restartCompile _ _ (by decide)).trans (State.fld_setFld_self _ _ _ _), ?_⟩
    refine State.latched_of_fld ((State.fld_restartCompile _ _ (by decide)).trans (State.fld_setFld_ne _ _ _ _ (by decide))) ?_
    exact State.latched_latch s R.TLY_EVT_SPARE_EXHAUSTED 0 (by decide)

end Sys2Proof.Machine
end

section
/-! O48: records of the tally, and the ageing sample (R468, R472 to R474). -/

namespace Sys2Proof.Machine

/-! ### The log -/

/-- The record that a second begins with where records were lost before it (R473). -/
def State.suppressed (s : State) : TallyRec := { kind := tallySuppressed, cls := 0, inst := 0, frame := s.frame, data := bytes4 s.tallyLost }

theorem State.writeTally_room {s : State} {r : TallyRec} {rest : List TallyRec} (hq : s.tallyQ = r :: rest) (hroom : s.tallySecond < 16)
    (hlost : s.tallySecond ≠ 0 ∨ s.tallyLost = 0) : s.writeTally = State.logWrite { s with tallyQ := rest } r := by
  have hfull : ¬ State.logFull { s with tallyQ := rest } = true := by
    show ¬ decide (16 ≤ s.tallySecond) = true
    rw [decide_eq_true_iff]
    exact Nat.not_le.mpr hroom
  unfold State.writeTally
  rw [hq]
  dsimp only
  rw [if_neg hfull, if_neg (by omega)]

/-- The first record of a second after records were lost. -/
theorem State.writeTally_first {s : State} {r : TallyRec} {rest : List TallyRec} (hq : s.tallyQ = r :: rest) (hfirst : s.tallySecond = 0)
    (hlost : s.tallyLost ≠ 0) :
    s.writeTally = State.logWrite { State.logWrite { s with tallyQ := rest } s.suppressed with tallyLost := 0 } r := by
  have hfull : ¬ State.logFull { s with tallyQ := rest } = true := by
    show ¬ decide (16 ≤ s.tallySecond) = true
    rw [hfirst]
    decide
  unfold State.writeTally
  rw [hq]
  dsimp only
  rw [if_neg hfull, if_pos ⟨hfirst, Nat.pos_of_ne_zero hlost⟩]
  rfl

theorem State.writeTally_full {s : State} {r : TallyRec} {rest : List TallyRec} (hq : s.tallyQ = r :: rest) (hfull : 16 ≤ s.tallySecond) :
    s.writeTally = State.latch { s with tallyQ := rest, tallyLost := s.tallyLost + 1 } R.TLY_EVT_LOG_SUPPRESS := by
  have hfull' : State.logFull { s with tallyQ := rest } = true := decide_eq_true hfull
  unfold State.writeTally
  rw [hq]
  exact if_pos hfull'

/-- A record takes the next place, and no other place changes. -/
theorem State.logWrite_spec (s : State) (r : TallyRec) : (s.logWrite r).tallySecond = s.tallySecond + 1
    ∧ (s.logWrite r).tally.log.get s.tally.next [] = recordBytes s.tally.seq s.tally.raises r
    ∧ (s.logWrite r).tally.next = (s.tally.next + 1) % 12032 ∧ (s.logWrite r).tally.seq = (s.tally.seq + 1) % 2 ^ 32
    ∧ ∀ k, k ≠ s.tally.next → (s.logWrite r).tally.log.get k [] = s.tally.log.get k [] :=
  ⟨rfl, Tab.get_put_self _ _ _ _, rfl, rfl, fun _ hk => Tab.get_put_ne _ _ _ hk⟩

/-! ### The ageing sample -/

theorem exec_ageingSample {s : State} (a : AgeSample) (htick : s.ticking = true) (hdue : 28800000 ≤ s.sinceFrame s.sist.ageFrom) :
    exec (.ageingSample a) s = .next (((s.writeBlock a).countMargins a).latchIf (a.ro.any (fun v => decide (s.fld R.TLY_SIST_CFG_RO_MAX < v.toNat)))
      R.TLY_EVT_AGE_WARN) := by
  refine congrArg Host.Outcome.next (if_pos ?_)
  unfold State.sampleDue
  rw [htick, Bool.true_and]
  exact decide_eq_true hdue

theorem State.sampled_ageFrom (s : State) (a : AgeSample) :
    ((s.writeBlock a).countMargins a).sist.ageFrom = frameAdd s.sist.ageFrom 28800000 := rfl

/-! ### The statement -/

/-- Settles O48. -/
theorem tallyRecords : Obligations.TallyRecords := by
  unfold Obligations.TallyRecords
  intro s
  refine ⟨?written, ?first, ?lost, ?sample⟩
  case written =>
    intro r rest hq hroom hlost
    have hexec : exec .tallyRecord s = .next (State.logWrite { s with tallyQ := rest } r) :=
      congrArg Host.Outcome.next (State.writeTally_room hq hroom hlost)
    exact ⟨_, hexec, rfl, State.logWrite_spec _ r⟩
  case first =>
    intro r rest hq hfirst hlost
    have hexec : exec .tallyRecord s = .next (State.logWrite { State.logWrite { s with tallyQ := rest } s.suppressed with tallyLost := 0 } r) :=
      congrArg Host.Outcome.next (State.writeTally_first hq hfirst hlost)
    obtain ⟨hsecond, -, -, -, -⟩ := State.logWrite_spec { s with tallyQ := rest } s.suppressed
    obtain ⟨hsecond', hrecord, -, -, -⟩ := State.logWrite_spec { State.logWrite { s with tallyQ := rest } s.suppressed with tallyLost := 0 } r
    refine ⟨_, hexec, rfl, rfl, ?_, hrecord⟩
    rw [hsecond', hsecond]
    show s.tallySecond + 1 + 1 = 2
    omega
  case lost =>
    intro r rest hq hfull
    have hexec : exec .tallyRecord s = .next (State.latch { s with tallyQ := rest, tallyLost := s.tallyLost + 1 } R.TLY_EVT_LOG_SUPPRESS) :=
      congrArg Host.Outcome.next (State.writeTally_full hq hfull)
    exact ⟨_, hexec, State.latch_tallyQ _ _ _, State.latch_tally _ _ _, State.latch_tallyLost _ _ _, State.latched_latch _ _ _ (by decide)⟩
  case sample =>
    intro a htick hdue
    have htally := State.latchIf_tally ((s.writeBlock a).countMargins a) (a.ro.any (fun v => decide (s.fld R.TLY_SIST_CFG_RO_MAX < v.toNat)))
      R.TLY_EVT_AGE_WARN 0
    have hsist := State.latchIf_sist ((s.writeBlock a).countMargins a) (a.ro.any (fun v => decide (s.fld R.TLY_SIST_CFG_RO_MAX < v.toNat)))
      R.TLY_EVT_AGE_WARN 0
    refine ⟨_, exec_ageingSample a htick hdue, congrArg Tally.block htally, ?_, fun k hk => ?_, (congrArg Tally.log htally).trans rfl,
      (congrArg Sist.ageFrom hsist).trans (s.sampled_ageFrom a), fun hslow => State.latched_latchIf (by simpa using hslow) _ _ _ (by decide)⟩
    · exact (congrArg (fun x : Tally => x.blocks.get ((s.tally.block + 1) % 16) {}) htally).trans (Tab.get_put_self _ _ _ _)
    · exact (congrArg (fun x : Tally => x.blocks.get k {}) htally).trans (Tab.get_put_ne _ _ _ hk)

end Sys2Proof.Machine
end

section
/-! What a wipe leaves (R417, R427, R484), for O49 and O50. -/

namespace Sys2Proof.Machine

/-! ### Memory and keys -/

theorem Memory.find_filter_of_not {l : List Host.Cell} {p : Host.Cell → Bool} {a : Nat} (h : ∀ b, p (a, b) = false) :
    Memory.find (l.filter p) a = none := by
  induction l with
  | nil => rfl
  | cons c l ih =>
    obtain ⟨k, b⟩ := c
    rw [List.filter_cons]
    split
    · rename_i hkept
      have hne : a ≠ k := by
        rintro rfl
        rw [h b] at hkept
        exact Bool.false_ne_true hkept
      unfold Memory.find
      rw [if_neg hne]
      exact ih
    · exact ih

theorem Memory.find_filter_of_none {l : List Host.Cell} (p : Host.Cell → Bool) {a : Nat} (h : Memory.find l a = none) :
    Memory.find (l.filter p) a = none := by
  induction l with
  | nil => rfl
  | cons c l ih =>
    obtain ⟨k, b⟩ := c
    unfold Memory.find at h
    split at h
    · cases h
    · rename_i hne
      rw [List.filter_cons]
      split
      · unfold Memory.find
        rw [if_neg hne]
        exact ih h
      · exact ih h

/-- The secure bank and DDR5 are lost, and DDR5 has new keys. -/
def State.wiped (s : State) : State := (s.clearRange 0x10380000 0x103A0000).rekey

theorem State.byte_wiped (s : State) {a : Nat} (h1 : 0x10380000 ≤ a) (h2 : a < 0x103A0000) : s.wiped.byte a = 0 := by
  have hgone : Memory.find s.wiped.mem a = none :=
    Memory.find_filter_of_none _ (Memory.find_filter_of_not fun b => by simp [h1, h2])
  have hblank : s.wiped.blankAt a = some 0 := if_pos (by have : ddrBase = 0x1000000000 := rfl; omega)
  unfold State.byte
  rw [hgone, hblank]
  rfl

/-! ### The rows of the recovery -/

/-- The rows of the recovery begin. -/
def State.wipeRows (s : State) : State :=
  (((s.setFlag R.TLY_STAT_REKEY 0 true).setFlag R.TLY_REKEY_LONGPATH 0 true).setFlag R.TLY_REKEY_MAP 0 true).setFlag R.TLY_REKEY_SCENES 0 true

/-- A wipe before the journal and the rings: memory and the long path are lost, and the rows of the recovery have begun. -/
def State.wipeLost (s : State) : State := { s.wiped.wipeRows.satFld R.TLY_REKEY_WIPES 0 1 with longMem := {} }

theorem State.wipe_eq (s : State) : s.wipe = (if s.wipeLost.wipeJournal.wipeRings.imgBusy then
      s.wipeLost.wipeJournal.wipeRings.updRaise (fun r => { r with opLost := true })
    else s.wipeLost.wipeJournal.wipeRings).updGuard (fun g => { g with wipeAt := s.frame, wiping := true }) := rfl

/-- What the journal, the rings, a lost image operation and the tamper unit's note leave stays as it was once memory was lost. -/
theorem State.wipe_of_wipeLost {K : State → Prop} {s : State} (hK : Loose 0x18006000000000000000000000c0000000000000000000000000de000400000000000003000000000000000000000000000000000000000000000000000000080000000000000000000000000000000000040000580000c00 K)
    (h : K s.wipeLost) : K s.wipe := by
  rw [State.wipe_eq]
  have hrings : K s.wipeLost.wipeJournal.wipeRings := State.wipeRings_k (hK.mono (by decide)) (State.wipeJournal_k (hK.mono (by decide)) h)
  refine State.updGuard_k (hK.mono (by decide)) (ite_k (K := K) ?_ hrings) _
  exact State.updRaise_k (hK.mono (by decide)) hrings _

theorem State.byte_wipe (s : State) {a : Nat} (h1 : 0x10380000 ≤ a) (h2 : a < 0x103A0000) : s.wipe.byte a = 0 := by
  have hmem : s.wipe.mem = s.wiped.mem := State.wipe_of_wipeLost (K := fun t => Part.same s.wiped t .mem)
    (loose_part s.wiped .mem (by decide) (by decide) (by decide)) rfl
  have hddr : s.wipe.ddr = s.wiped.ddr := State.wipe_of_wipeLost (K := fun t => Part.same s.wiped t .ddr)
    (loose_part s.wiped .ddr (by decide) (by decide) (by decide)) rfl
  rw [State.byte_congr hmem hddr]
  exact s.byte_wiped h1 h2

theorem State.wipe_keys (s : State) : s.wipe.ddr.keys = s.ddr.keys + 1 := by
  have hddr : s.wipe.ddr = s.wiped.ddr := State.wipe_of_wipeLost (K := fun t => Part.same s.wiped t .ddr)
    (loose_part s.wiped .ddr (by decide) (by decide) (by decide)) rfl
  rw [hddr]
  rfl

theorem State.wipe_rows (s : State) : s.wipe.flag R.TLY_STAT_REKEY = true ∧ s.wipe.flag R.TLY_REKEY_MAP = true
    ∧ s.wipe.flag R.TLY_REKEY_SCENES = true := by
  have hfld : ∀ f : Fld, regOk 0x18006000000000000000000000c0000000000000000000000000de000400000000000003000000000000000000000000000000000000000000000000000000080000000000000000000000000000000000040000580000c00 f.id = false → s.wipe.flag f = s.wipeLost.flag f :=
    fun f hf => State.flag_of_fld (State.wipe_of_wipeLost (K := fun t => t.fld f 0 = s.wipeLost.fld f 0) (loose_fld hf) rfl)
  have hrows : ∀ f : Fld, f.id ≠ R.TLY_REKEY_WIPES.id → s.wipeLost.flag f = s.wiped.wipeRows.flag f :=
    fun f hf => State.flag_setFld_ne _ _ _ _ hf
  refine ⟨?_, ?_, ?_⟩
  · rw [hfld _ (by decide), hrows _ (by decide)]
    unfold State.wipeRows
    rw [State.flag_setFlag_ne _ _ _ _ (by decide), State.flag_setFlag_ne _ _ _ _ (by decide), State.flag_setFlag_ne _ _ _ _ (by decide),
      State.flag_setFlag_self _ _ _ _ (by decide)]
  · rw [hfld _ (by decide), hrows _ (by decide)]
    unfold State.wipeRows
    rw [State.flag_setFlag_ne _ _ _ _ (by decide), State.flag_setFlag_self _ _ _ _ (by decide)]
  · rw [hfld _ (by decide), hrows _ (by decide)]
    exact State.flag_setFlag_self _ _ _ _ (by decide)

theorem State.opLost_running (u : State) (g : Guarding → Guarding) :
    ((if u.imgBusy then u.updRaise (fun r => { r with opLost := true }) else u).updGuard g).raise.running = u.raise.running := by
  cases u.imgBusy <;> rfl

/-- A wipe may note a lost image operation, and does not stop a raising. -/
theorem State.wipe_running (s : State) : s.wipe.raise.running = s.raise.running := by
  have hrings : Part.same s s.wipeLost.wipeJournal.wipeRings .raise :=
    State.wipeRings_k (K := fun t => Part.same s t .raise) (loose_part s .raise (by decide) (by decide) (by decide))
      (State.wipeJournal_k (K := fun t => Part.same s t .raise) (loose_part s .raise (by decide) (by decide) (by decide)) rfl)
  rw [State.wipe_eq, State.opLost_running]
  exact congrArg Raise.running hrings

end Sys2Proof.Machine
end

section
/-! O49: the life cycle (R476 to R479, R485). -/

namespace Sys2Proof.Machine

/-! ### GO -/

def lcCtrlReg : Reg := ⟨RN.TLY_LC_CTRL, 0x6402c, 0, 1, 0x0, .single, [⟨R.TLY_LC_CTRL_GO, 0, 0, 1⟩]⟩

theorem State.writeEffect_lcCtrl (s o : State) (m i w : Nat) : s.writeEffect o m RN.TLY_LC_CTRL i w none = s.lcCtrl w := rfl

/-- An accepted GO acts behind the parked path. -/
theorem exec_lcGo {m : Master} {w : Word} {s : State} (ha : s.accepts m RN.TLY_LC_CTRL 0 = true) :
    ∃ u : State, s.Parked u ∧ exec (.lcGo m w) s = .next (u.lcCtrl (putBits w.toNat 0 1 1)).completed := by
  obtain ⟨u, hu, hw⟩ := State.regWrite_unjournalled (r := lcCtrlReg) (by decide) (by decide) (by decide) (by decide) (by decide) (by decide) ha
    (putBits w.toNat 0 1 1)
  exact ⟨u, hu, congrArg Host.Outcome.next (hw.trans (congrArg State.completed (State.writeEffect_lcCtrl u u m 0 _)))⟩

theorem State.Parked.fuses {s u : State} (h : s.Parked u) : u.fuses = s.fuses := by
  obtain ⟨r, hr⟩ := h.regs
  rw [hr]

theorem State.lcCtrl_go {s : State} (h : s.flag R.TLY_LC_STAT_PENDING = false) (w : Nat) :
    s.lcCtrl (putBits w 0 1 1) = s.setFlag R.TLY_LC_STAT_PENDING 0 true := by
  unfold State.lcCtrl
  rw [bit_putBits_one, if_neg (by decide), h]
  rfl

theorem State.lcCtrl_busy {s : State} (h : s.flag R.TLY_LC_STAT_PENDING = true) (w : Nat) : s.lcCtrl (putBits w 0 1 1) = s.lcResult 0x9 := by
  unfold State.lcCtrl
  rw [bit_putBits_one, if_neg (by decide), if_pos h]

/-! ### Verification -/

/-- The verified operation, before its fuses are programmed. -/
def State.lcVerified (s : State) : State :=
  (s.newNonce.updTally (fun t => { t with pend := some (leAt s.lcRecord 4 1, leAt s.lcRecord 5 1) })).updGuard (fun g =>
    { g with done := some (leAt s.lcRecord 4 1, leAt s.lcRecord 5 1, leAt s.lcRecord 6 1, s.lifeCode), doneAt := s.frame, auth := s.lcRecord })

theorem exec_lcVerifyDone_refused {s : State} {code : Nat} (hp : s.flag R.TLY_LC_STAT_PENDING = true) (hd : s.guarding.done = none)
    (hf : s.lcFault s.lcRecord = some code) : exec .lcVerifyDone s = .next (s.newNonce.lcRefuse code) := by
  refine congrArg Host.Outcome.next ((if_neg (by simp [hp, hd])).trans ?_)
  dsimp only
  rw [hf]

theorem exec_lcVerifyDone_good {s : State} (hp : s.flag R.TLY_LC_STAT_PENDING = true) (hd : s.guarding.done = none)
    (hf : s.lcFault s.lcRecord = none) : exec .lcVerifyDone s = .next s.lcVerified := by
  refine congrArg Host.Outcome.next ((if_neg (by simp [hp, hd])).trans ?_)
  dsimp only
  rw [hf]
  rfl

/-- An operation that ends without effect. -/
theorem State.lcRefuse_spec (s : State) (code : Nat) : (s.lcRefuse code).flag R.TLY_LC_STAT_PENDING = false ∧ (s.lcRefuse code).tally.result = code
    ∧ (s.lcRefuse code).fuses = s.fuses ∧ (s.lcRefuse code).tally.service = s.tally.service ∧ (s.lcRefuse code).tally.pend = s.tally.pend
    ∧ (s.lcRefuse code).latched R.TLY_EVT_LC_REFUSED = true := by
  have htally : (s.lcRefuse code).tally = { s.tally with result := code } := State.latch_tally _ _ _
  refine ⟨?_, by rw [htally], State.latch_fuses _ _ _, by rw [htally], by rw [htally], State.latched_latch _ _ _ (by decide)⟩
  refine (State.flag_of_fld (State.fld_latch_ne ((s.setFlag R.TLY_LC_STAT_PENDING 0 false).lcResult code) R.TLY_EVT_LC_REFUSED 0 0 (by decide))).trans ?_
  exact State.flag_setFlag_self _ _ _ _ (by decide)

theorem State.length_lcRecord (s : State) : s.lcRecord.length = 384 := by
  unfold State.lcRecord
  rw [List.length_map, List.length_range]

theorem State.lcRecord_ne (s : State) : s.lcRecord.isEmpty = false := by
  cases h : s.lcRecord with
  | nil => exact absurd (s.length_lcRecord) (by rw [h]; decide)
  | cons => rfl

/-- A record that no check refuses passes each. -/
theorem State.lcChecks_pass {s : State} {r : List (BitVec 8)} (h : s.lcFault r = none) {c : Nat × Bool} (hc : c ∈ s.lcChecks r) : c.2 = false := by
  have hnone : (s.lcChecks r).find? (·.2) = none := Option.map_eq_none_iff.mp h
  exact Bool.eq_false_iff.mpr (List.find?_eq_none.mp hnone c hc)

theorem State.allowed_of_pass {s : State} {r : List (BitVec 8)} (h : s.lcFault r = none) (hop : leAt r 4 1 = 1) :
    allowedTransition s.lifeCode (leAt r 5 1) = true := by
  have hpass := State.lcChecks_pass h (c := (0x5, if leAt r 4 1 = 1 then !allowedTransition s.lifeCode (leAt r 5 1)
    else !(decide (1 ≤ s.lifeCode) && decide (s.lifeCode ≤ 3) && decide (1 ≤ leAt r 5 1) && decide (leAt r 5 1 ≤ 3)))) (by simp [State.lcChecks])
  simpa [hop] using hpass

theorem State.slot_of_pass {s : State} {r : List (BitVec 8)} (h : s.lcFault r = none) (hop : leAt r 4 1 = 2) : leAt r 5 1 ≤ 3 := by
  have hpass := State.lcChecks_pass h (c := (0x5, if leAt r 4 1 = 1 then !allowedTransition s.lifeCode (leAt r 5 1)
    else !(decide (1 ≤ s.lifeCode) && decide (s.lifeCode ≤ 3) && decide (1 ≤ leAt r 5 1) && decide (leAt r 5 1 ≤ 3)))) (by simp [State.lcChecks])
  rw [hop, if_neg (by decide), Bool.not_eq_false', Bool.and_eq_true] at hpass
  exact of_decide_eq_true hpass.2

/-! ### Programming -/

/-- The code of a life-cycle state, from its fuses and the service flag (R476). -/
def codeOfLife (life : Fin 4) (service : Bool) : Nat := if life = 2 then (if service then 3 else 2) else if life = 3 then 4 else life.val

theorem State.lifeCode_eq (s : State) : s.lifeCode = codeOfLife s.fuses.life s.tally.service := by
  unfold State.lifeCode codeOfLife
  generalize s.fuses.life = l
  cases s.tally.service <;> revert l <;> decide

/-- The life-cycle fuses of a state code. -/
def lifeOfCode (target : Nat) : Fin 4 := if target = 1 then 1 else if target = 4 then 3 else 2

/-- An allowed transition leads to its target. -/
theorem codeOfLife_allowed : ∀ (life : Fin 4) (service : Bool) (target : Fin 5), allowedTransition (codeOfLife life service) target = true →
    codeOfLife (if life ≤ lifeOfCode target then lifeOfCode target else life) (target.val == 3) = target := by decide

theorem allowedTransition_lt {now target : Nat} (h : allowedTransition now target = true) : target < 5 := by
  simp only [allowedTransition, Bool.or_eq_true, Bool.and_eq_true, beq_iff_eq] at h
  omega

theorem State.lifeCode_enterLife {s : State} {target : Nat} (h : allowedTransition s.lifeCode target = true) (r : List (BitVec 8)) (now : Nat) :
    (s.enterLife r now target).lifeCode = target := by
  have hlife : (s.enterLife r now target).fuses.life = if s.fuses.life ≤ lifeOfCode target then lifeOfCode target else s.fuses.life := rfl
  have hservice : (s.enterLife r now target).tally.service = (target == 3) := rfl
  rw [State.lifeCode_eq] at h
  rw [State.lifeCode_eq, hlife, hservice]
  exact codeOfLife_allowed s.fuses.life s.tally.service ⟨target, allowedTransition_lt h⟩ h

/-- A tamper response that runs abandons an operation whose fuses are not programmed (R485). -/
theorem State.programLife_running {s : State} (hr : s.guarding.running = true) : s.programLife = s.abandonLc := if_pos hr

theorem State.programLife_one {s : State} {target key now : Nat} (hr : s.guarding.running = false) (hd : s.guarding.done = some (1, target, key, now))
    (ha : s.guarding.auth.isEmpty = false) :
    s.programLife = (s.updGuard (fun g => { g with auth := [] })).enterLife s.guarding.auth now target := by
  unfold State.programLife
  rw [hr, if_neg Bool.false_ne_true, hd]
  dsimp only
  rw [ha]
  rfl

/-- A revocation is programmed. -/
def State.revoked (s : State) (target : Nat) : State :=
  (s.updGuard (fun g => { g with auth := [] })).blow { s.fuses with revoked := s.fuses.revoked ||| BitVec.ofNat 4 (2 ^ target) }

theorem State.programLife_two {s : State} {target key now : Nat} (hr : s.guarding.running = false) (hd : s.guarding.done = some (2, target, key, now))
    (ha : s.guarding.auth.isEmpty = false) : s.programLife = s.revoked target := by
  unfold State.programLife
  rw [hr, if_neg Bool.false_ne_true, hd]
  dsimp only
  rw [ha]
  rfl

theorem State.revoked_spec (s : State) {target : Nat} (h : target ≤ 3) :
    (s.revoked target).lifeCode = s.lifeCode ∧ (s.revoked target).fuses.revoked.getLsbD target = true := by
  have hlife : (s.revoked target).fuses.life = s.fuses.life := if_pos (Fin.le_refl _)
  have hrevoked : (s.revoked target).fuses.revoked = s.fuses.revoked ||| (s.fuses.revoked ||| BitVec.ofNat 4 (2 ^ target)) := rfl
  refine ⟨?_, ?_⟩
  · rw [State.lifeCode_eq, State.lifeCode_eq, hlife]
    rfl
  · have hbit : (BitVec.ofNat 4 (2 ^ target)).getLsbD target = true := by
      rw [BitVec.getLsbD_ofNat, Nat.testBit_two_pow_self, decide_eq_true (by omega)]
      rfl
    rw [hrevoked, BitVec.getLsbD_or, BitVec.getLsbD_or, hbit, Bool.or_true, Bool.or_true]

theorem State.abandonLc_spec {s : State} (hp : s.flag R.TLY_LC_STAT_PENDING = true) (h : s.guarding.done = none ∨ s.guarding.auth ≠ []) :
    s.abandonLc.flag R.TLY_LC_STAT_PENDING = false ∧ s.abandonLc.tally.result = 0xB ∧ s.abandonLc.tally.pend = none
      ∧ s.abandonLc.fuses = s.fuses := by
  have hcond : (s.flag R.TLY_LC_STAT_PENDING && (s.guarding.done.isNone || !s.guarding.auth.isEmpty)) = true := by
    rw [hp, Bool.true_and, Bool.or_eq_true]
    exact h.imp (fun hd => by rw [hd]; rfl) (fun ha => by simpa using ha)
  have hfuses : s.abandonLc.fuses = s.fuses :=
    State.abandonLc_k (K := fun t => Part.same s t .fuses) (loose_part s .fuses (by decide) (by decide) (by decide)) rfl
  refine ⟨?_, ?_, ?_, hfuses⟩
  all_goals
    unfold State.abandonLc
    rw [if_pos hcond]
  · exact (State.lcRefuse_spec _ _).1
  · exact (State.lcRefuse_spec _ _).2.1
  · exact (State.lcRefuse_spec _ _).2.2.2.2.1

end Sys2Proof.Machine
end

section
/-! O49, continued: the tick after the fuses were programmed, and the statement. -/

namespace Sys2Proof.Machine

/-! ### What tamper responses leave of a raising -/

theorem State.tamperPolicy_raise (s : State) : s.tamperPolicy.raise = s.raise :=
  State.tamperPolicy_k (K := fun t => Part.same s t .raise) (loose_part s .raise (by decide) (by decide) (by decide)) rfl

theorem State.tamperRaising_raise (s : State) : s.tamperRaising.raise = s.raise :=
  State.tamperRaising_k (K := fun t => Part.same s t .raise) (loose_part s .raise (by decide) (by decide) (by decide)) rfl

theorem State.abandonLc_raise (s : State) : s.abandonLc.raise = s.raise :=
  State.abandonLc_k (K := fun t => Part.same s t .raise) (loose_part s .raise (by decide) (by decide) (by decide)) rfl

theorem State.endResponse_raise (s : State) : s.endResponse.raise = s.raise := by
  unfold State.endResponse
  split <;> rfl

/-- The state in which a response wipes: TAMPER is latched, and an operation whose fuses are not programmed is abandoned. -/
def State.responding (s : State) (mask : Nat) : State :=
  ((((s.updGuard (fun g => { g with mask := mask, running := true })).setFld R.TLY_TAMP_STAT_LAST 0 mask).satFld R.TLY_TAMP_STAT_COUNT 0 1).latch
    R.TLY_EVT_TAMPER).abandonLc

theorem State.startResponse_eq (s : State) (mask : Nat) :
    s.startResponse mask = if (s.responding mask).wipe.tamperPolicy.tamperRaising.ticking then (s.responding mask).wipe.tamperPolicy.tamperRaising
      else (s.responding mask).wipe.tamperPolicy.tamperRaising.endResponse := rfl

theorem State.responding_raise (s : State) (mask : Nat) : (s.responding mask).raise = s.raise :=
  (State.abandonLc_raise _).trans (State.latch_raise _ _ _)

theorem State.startResponse_running (s : State) (mask : Nat) : (s.startResponse mask).raise.running = s.raise.running := by
  have hsame : (s.responding mask).wipe.tamperPolicy.tamperRaising.raise.running = s.raise.running := by
    rw [State.tamperRaising_raise, State.tamperPolicy_raise, State.wipe_running, State.responding_raise]
  rw [State.startResponse_eq]
  split
  · exact hsame
  · rw [State.endResponse_raise]
    exact hsame

theorem State.tamperCheck_running (s : State) : s.tamperCheck.raise.running = s.raise.running := by
  unfold State.tamperCheck
  dsimp only
  split
  · rfl
  · split
    · rw [State.abandonLc_raise]
      rfl
    · exact State.startResponse_running _ _

/-- Raising starts at P0, whatever the tamper monitors find. -/
theorem State.raiseP0_spec (s : State) (retry : Bool) : (s.raiseP0 retry).phase = 0 ∧ (s.raiseP0 retry).raise.running = true
    ∧ (s.raiseP0 retry).fuses = s.fuses := by
  have hfuses : (s.backToP0 true retry false).fuses = s.fuses :=
    State.drainTally_k (K := fun t => Part.same s t .fuses) (loose_part s .fuses (by decide) (by decide) (by decide)) rfl
  have hphase : (s.backToP0 true retry false).fld R.IMG_RAISE_PHASE 0 = 0 := State.fld_setFld_self _ _ _ _
  have hrunning : (s.backToP0 true retry false).raise.running = true := rfl
  have hchecked : (s.backToP0 true retry false).tamperCheck.phase = 0 ∧ (s.backToP0 true retry false).tamperCheck.raise.running = true
      ∧ (s.backToP0 true retry false).tamperCheck.fuses = s.fuses := by
    refine ⟨(State.fld_tamperCheck _ _ (by decide)).trans hphase, (State.tamperCheck_running _).trans hrunning, ?_⟩
    exact State.tamperCheck_k (K := fun t => Part.same s t .fuses) (loose_part s .fuses (by decide) (by decide) (by decide)) hfuses
  obtain ⟨h1, h2, h3⟩ := hchecked
  unfold State.raiseP0
  dsimp only
  split
  · exact ⟨h1, h2, h3⟩
  · refine ⟨(State.fld_tamperRaising _ _ (by decide)).trans h1, ?_, ?_⟩
    · rw [State.tamperRaising_raise]
      exact h2
    · exact State.tamperRaising_k (K := fun t => Part.same s t .fuses) (loose_part s .fuses (by decide) (by decide) (by decide)) h3

/-! ### The end of an operation -/

/-- The operation is done, before its wipe and its record. -/
def State.lcCleared (s : State) (op target : Nat) : State :=
  ((((((s.updGuard (fun g => { g with done := none })).lcResult 0x1).updTally (fun t =>
    { t with pend := none, life := s.lifeCode, services := t.services + (if op = 1 ∧ target = 3 then 1 else 0) })).setFlag R.TLY_LC_STAT_PENDING 0
      false).setFld R.TLY_LC_STAT_STATE 0 s.lifeCode).setFld R.TLY_LC_STAT_REVOKED 0 s.fuses.revoked.toNat)

theorem State.lcEnd_transition (s : State) (target key now : Nat) : s.lcEnd 1 target key now
    = ((s.lcCleared 1 target).wipe.tallyAdd tallyLife 0 0 [now, target, key, 0x1]).latch R.TLY_EVT_LC_DONE := rfl

theorem State.lcEnd_revocation (s : State) (target key now : Nat) : s.lcEnd 2 target key now
    = ((s.lcCleared 2 target).tallyAdd tallyRevoke 0 0 [target, key]).latch R.TLY_EVT_LC_DONE := rfl

theorem State.lifeCode_lt (s : State) : s.lifeCode < 5 := by
  unfold State.lifeCode
  split
  · decide
  · decide
  · split <;> decide
  · decide

theorem State.lcCleared_spec (s : State) (op target : Nat) : (s.lcCleared op target).flag R.TLY_LC_STAT_PENDING = false
    ∧ (s.lcCleared op target).tally.result = 0x1 ∧ (s.lcCleared op target).tally.pend = none
    ∧ (s.lcCleared op target).fld R.TLY_LC_STAT_STATE = s.lifeCode := by
  refine ⟨?_, rfl, rfl, ?_⟩
  · unfold State.lcCleared
    rw [State.flag_setFld_ne _ _ _ _ (by decide), State.flag_setFld_ne _ _ _ _ (by decide), State.flag_setFlag_self _ _ _ _ (by decide)]
  · unfold State.lcCleared
    rw [State.fld_setFld_ne _ _ _ _ (by decide), State.fld_setFld_self]
    exact Nat.mod_eq_of_lt (Nat.lt_trans s.lifeCode_lt (by decide))

theorem exec_lcWipe {s : State} {op target key now : Nat} (hd : s.guarding.done = some (op, target, key, now))
    (hl : frameLater s.frame s.guarding.doneAt = true) : exec .lcWipe s
      = .next (State.stampTick (if op = 1 ∧ target = 4 then (s.lcEnd op target key now).raiseP0 false else s.lcEnd op target key now) s) := by
  show execLcWipe s = _
  unfold execLcWipe
  rw [hd]
  dsimp only
  rw [if_neg (by rw [hl]; decide)]

theorem State.fld_tallyAdd_any (s : State) (kind cls inst : Nat) (data : List Nat) (f : Fld) (i : Nat) :
    (s.tallyAdd kind cls inst data).fld f i = s.fld f i := rfl

theorem State.latched_stampTick (s old : State) (e : Ev) (i : Nat) : (s.stampTick old).latched e i = s.latched e i := rfl

/-- A transition that does not decommission: the operation is done, and the wipe has begun. -/
theorem State.lcEnd_transition_spec (s : State) (target key now : Nat) : (s.lcEnd 1 target key now).flag R.TLY_LC_STAT_PENDING = false
    ∧ (s.lcEnd 1 target key now).tally.result = 0x1 ∧ (s.lcEnd 1 target key now).tally.pend = none
    ∧ (s.lcEnd 1 target key now).fld R.TLY_LC_STAT_STATE = s.lifeCode ∧ (s.lcEnd 1 target key now).latched R.TLY_EVT_LC_DONE = true
    ∧ (s.lcEnd 1 target key now).flag R.TLY_STAT_REKEY = true ∧ (s.lcEnd 1 target key now).ddr.keys = s.ddr.keys + 1
    ∧ ∀ a, 0x10380000 ≤ a → a < 0x103A0000 → (s.lcEnd 1 target key now).byte a = 0 := by
  obtain ⟨hpending, hresult, hpend, hstate⟩ := s.lcCleared_spec 1 target
  obtain ⟨hrekey, -, -⟩ := (s.lcCleared 1 target).wipe_rows
  have htally : (s.lcCleared 1 target).wipe.tally = (s.lcCleared 1 target).tally :=
    State.wipe_k (K := fun t => Part.same (s.lcCleared 1 target) t .tally) (loose_part _ .tally (by decide) (by decide) (by decide)) rfl
  have hfld : ∀ f : Fld, f.id ≠ R.TLY_EVT.id → (s.lcEnd 1 target key now).fld f 0 = (s.lcCleared 1 target).wipe.fld f 0 := fun f hf => by
    rw [State.lcEnd_transition]
    exact (State.fld_latch_ne _ _ _ _ hf).trans (State.fld_tallyAdd_any _ _ _ _ _ _ _)
  have hparts : (s.lcEnd 1 target key now).tally = (s.lcCleared 1 target).tally ∧ (s.lcEnd 1 target key now).ddr = (s.lcCleared 1 target).wipe.ddr
      ∧ (s.lcEnd 1 target key now).mem = (s.lcCleared 1 target).wipe.mem := by
    rw [State.lcEnd_transition, State.latch_tally, State.latch_ddr, State.latch_mem, State.tallyAdd_tally, State.tallyAdd_ddr, State.tallyAdd_mem]
    exact ⟨htally, rfl, rfl⟩
  obtain ⟨ht, hddr, hmem⟩ := hparts
  refine ⟨?_, by rw [ht, hresult], by rw [ht, hpend], ?_, ?_, ?_, ?_, fun a h1 h2 => ?_⟩
  · exact (State.flag_of_fld (hfld _ (by decide))).trans ((State.flag_of_fld (State.fld_wipe _ _ (by decide))).trans hpending)
  · exact (hfld _ (by decide)).trans ((State.fld_wipe _ _ (by decide)).trans hstate)
  · rw [State.lcEnd_transition]
    exact State.latched_latch _ _ _ (by decide)
  · exact (State.flag_of_fld (hfld _ (by decide))).trans hrekey
  · rw [hddr, State.wipe_keys]
    rfl
  · rw [State.byte_congr hmem hddr]
    exact State.byte_wipe _ h1 h2

/-! ### The statement -/

/-- Settles O49. -/
theorem lifeCycle : Obligations.LifeCycle := by
  unfold Obligations.LifeCycle
  intro m w s
  refine ⟨?go, ?busy, ?refused, ?good, ?wipes, ?revokes, ?decommissions⟩
  case go =>
    intro ha hp
    obtain ⟨u, hu, hexec⟩ := exec_lcGo (w := w) ha
    rw [State.lcCtrl_go ((hu.flag 0 (by decide)).trans hp)] at hexec
    refine ⟨_, hexec, State.completed_status _, ?_, ?_, ?_⟩
    · rw [State.completed_flag]
      exact State.flag_setFlag_self _ _ _ _ (by decide)
    · rw [State.completed_tally, State.setFlag_tally, hu.tally]
    · rw [State.completed_fuses, State.setFlag_fuses, hu.fuses]
  case busy =>
    intro ha hp
    obtain ⟨u, hu, hexec⟩ := exec_lcGo (w := w) ha
    rw [State.lcCtrl_busy ((hu.flag 0 (by decide)).trans hp)] at hexec
    refine ⟨_, hexec, ?_, ?_, ?_⟩
    · rw [State.completed_tally]
      rfl
    · rw [State.completed_flag]
      exact (hu.flag 0 (by decide)).trans hp
    · rw [State.completed_fuses]
      exact hu.fuses
  case refused =>
    intro code hp hd hf
    obtain ⟨hpending, hresult, hfuses, hservice, -, hevt⟩ := s.newNonce.lcRefuse_spec code
    refine ⟨_, exec_lcVerifyDone_refused hp hd hf, hpending, hresult, hfuses, hservice, hevt, ?_⟩
    refine (State.fld_latch_ne ((s.newNonce.setFlag R.TLY_LC_STAT_PENDING 0 false).lcResult code) R.TLY_EVT_LC_REFUSED 0 0 (by decide)).trans ?_
    exact (State.fld_setFlag_ne _ _ _ _ (by decide)).trans (State.fld_setFld_self _ _ _ _)
  case good =>
    intro hp hd hf
    have hpending : s.lcVerified.flag R.TLY_LC_STAT_PENDING = true := (State.flag_setFld_ne _ _ _ _ (by decide)).trans hp
    have hauth : s.lcVerified.guarding.auth.isEmpty = false := s.lcRecord_ne
    refine ⟨_, exec_lcVerifyDone_good hp hd hf, rfl, rfl, rfl, rfl, fun hr => ?_, fun hr hop => ?_, fun hr hop => ?_⟩
    · obtain ⟨h1, h2, -, h4⟩ := State.abandonLc_spec hpending (.inr (by simpa using hauth))
      rw [State.programLife_running (s := s.lcVerified) hr]
      exact ⟨h4, h2, h1⟩
    · have hdone : s.lcVerified.guarding.done = some (1, leAt s.lcRecord 5 1, leAt s.lcRecord 6 1, s.lifeCode) :=
        congrArg (fun op => some (op, leAt s.lcRecord 5 1, leAt s.lcRecord 6 1, s.lifeCode)) hop
      rw [State.programLife_one (s := s.lcVerified) hr hdone hauth]
      exact State.lifeCode_enterLife (State.allowed_of_pass hf hop) _ _
    · have hdone : s.lcVerified.guarding.done = some (2, leAt s.lcRecord 5 1, leAt s.lcRecord 6 1, s.lifeCode) :=
        congrArg (fun op => some (op, leAt s.lcRecord 5 1, leAt s.lcRecord 6 1, s.lifeCode)) hop
      rw [State.programLife_two (s := s.lcVerified) hr hdone hauth]
      exact s.lcVerified.revoked_spec (State.slot_of_pass hf hop)
  case wipes =>
    intro target key now hd hl ht
    have hexec := exec_lcWipe hd hl
    rw [if_neg (fun h => ht h.2)] at hexec
    obtain ⟨h1, h2, h3, h4, h5, h6, h7, h8⟩ := s.lcEnd_transition_spec target key now
    exact ⟨_, hexec, h1, h2, h3, h4, h5, h6, h7, fun a ha hb => (State.byte_congr rfl rfl a).trans (h8 a ha hb)⟩
  case revokes =>
    intro target key now hd hl
    have hexec := exec_lcWipe hd hl
    rw [if_neg (fun h => absurd h.1 (by decide))] at hexec
    obtain ⟨hpending, hresult, -, -⟩ := s.lcCleared_spec 2 target
    have hflag : (s.lcEnd 2 target key now).flag R.TLY_LC_STAT_PENDING = false := by
      rw [State.lcEnd_revocation]
      exact (State.flag_of_fld ((State.fld_latch_ne _ _ _ _ (by decide)).trans (State.fld_tallyAdd_any _ _ _ _ _ _ _))).trans hpending
    have hparts : (s.lcEnd 2 target key now).tally = (s.lcCleared 2 target).tally ∧ (s.lcEnd 2 target key now).mem = s.mem := by
      rw [State.lcEnd_revocation, State.latch_tally, State.latch_mem, State.tallyAdd_tally, State.tallyAdd_mem]
      exact ⟨rfl, rfl⟩
    have hevt : (s.lcEnd 2 target key now).latched R.TLY_EVT_LC_DONE = true := by
      rw [State.lcEnd_revocation]
      exact State.latched_latch _ _ _ (by decide)
    exact ⟨_, hexec, hflag, (congrArg Tally.result hparts.1).trans hresult, hparts.2, hevt⟩
  case decommissions =>
    intro key now hd hl
    have hexec := exec_lcWipe hd hl
    rw [if_pos ⟨rfl, rfl⟩] at hexec
    obtain ⟨hphase, hrunning, hfuses⟩ := (s.lcEnd 1 4 key now).raiseP0_spec false
    have hkept : (s.lcEnd 1 4 key now).fuses = s.fuses :=
      State.lcEnd_k (K := fun t => Part.same s t .fuses) (loose_part s .fuses (by decide) (by decide) (by decide)) rfl 1 4 key now
    exact ⟨_, hexec, hphase, hrunning, hfuses.trans hkept⟩

end Sys2Proof.Machine
end

section
/-! O50: tamper responses (R480 to R485). -/

namespace Sys2Proof.Machine

/-! ### What a response leaves -/

theorem State.tamperPolicy_none {s : State} (h : s.fld R.TLY_TAMP_CFG_POLICY = 0) : s.tamperPolicy = s := by
  unfold State.tamperPolicy
  dsimp only
  rw [h]
  rfl

theorem State.tamperPolicy_lock {s : State} (h : s.fld R.TLY_TAMP_CFG_POLICY = 1) : s.tamperPolicy = s.lockPorts := if_pos h

theorem State.tamperPolicy_halt {s : State} (h : s.fld R.TLY_TAMP_CFG_POLICY = 2) :
    s.tamperPolicy = (((s.lockPorts.setFlag R.TLY_STAT_HALTED 0 true).failDevice).stopLive).stopSubst := by
  unfold State.tamperPolicy
  dsimp only
  rw [h]
  rfl

theorem State.lockPorts_spec (s : State) : s.lockPorts.flag R.TLY_STAT_LOCKED = true ∧ s.lockPorts.ownerPort = noPort := by
  refine ⟨State.flag_setFlag_self _ _ _ _ (by decide), ?_⟩
  unfold State.lockPorts
  dsimp only
  exact (State.fld_setFlag_ne _ _ _ _ (by decide)).trans (State.endOwner_spec _).1

/-- What follows the wipe of a response. -/
def State.responded (s : State) (mask : Nat) : State := (s.responding mask).wipe.tamperPolicy.tamperRaising

theorem State.startResponse_cases (s : State) (mask : Nat) :
    s.startResponse mask = s.responded mask ∨ s.startResponse mask = (s.responded mask).endResponse := by
  rw [State.startResponse_eq]
  split
  · exact .inl rfl
  · exact .inr rfl

/-- The end of a response at once changes the tamper unit and what waits for the tally alone. -/
theorem State.startResponse_of_responded {K : State → Prop} (hK : Loose 0x44000000000000 K) {s : State} {mask : Nat} (h : K (s.responded mask)) :
    K (s.startResponse mask) := by
  obtain he | he := s.startResponse_cases mask
  · rw [he]
    exact h
  · rw [he]
    exact State.endResponse_k (hK.mono (by decide)) h

/-- The state in which a response begins, before an operation is abandoned. -/
def State.alarmed (s : State) (mask : Nat) : State :=
  (((s.updGuard (fun g => { g with mask := mask, running := true })).setFld R.TLY_TAMP_STAT_LAST 0 mask).satFld R.TLY_TAMP_STAT_COUNT 0 1).latch
    R.TLY_EVT_TAMPER

theorem State.responding_of_alarmed {K : State → Prop} (hK : Loose 0x88000020000000000000000000000000000000000000000000000000000000000000000000000000000000000000000000000000000000000000000000000000000000000000000000000000000000000000000000000042000000000d00 K) {s : State} {mask : Nat} (h : K (s.alarmed mask)) :
    K (s.responding mask) := State.abandonLc_k hK h

/-- The state in which a response begins, before TAMPER is latched. -/
def State.sourced (s : State) (mask : Nat) : State :=
  ((s.updGuard (fun g => { g with mask := mask, running := true })).setFld R.TLY_TAMP_STAT_LAST 0 mask).satFld R.TLY_TAMP_STAT_COUNT 0 1

theorem State.sourced_fld {s : State} {mask : Nat} {f : Fld} (h2 : f.id ≠ R.TLY_TAMP_STAT_COUNT.id)
    (h3 : f.id ≠ R.TLY_TAMP_STAT_LAST.id) : (s.sourced mask).fld f 0 = s.fld f 0 :=
  (State.fld_satFld_ne _ _ _ _ h2).trans (State.fld_setFld_ne _ _ _ _ h3)

theorem State.alarmed_fld {s : State} {mask : Nat} {f : Fld} (h1 : f.id ≠ R.TLY_EVT.id) (h2 : f.id ≠ R.TLY_TAMP_STAT_COUNT.id)
    (h3 : f.id ≠ R.TLY_TAMP_STAT_LAST.id) : (s.alarmed mask).fld f 0 = s.fld f 0 :=
  (State.fld_latch_ne (s.sourced mask) R.TLY_EVT_TAMPER 0 0 h1).trans (State.sourced_fld h2 h3)

theorem State.abandonLc_latched {s : State} {e : Ev} (h : s.latched e = true) (hbit : e.bit < e.reg.width) (hreg : R.TLY_EVT = e.reg)
    (hpend : e.reg.id ≠ R.TLY_LC_STAT_PENDING.id) (hnonce : regOk 0x80000000000000000000000000000000000000000000000000000000000000000000000000000000000000000000000000000000000000000000000000000000000000000000000000000000000000000000000000000000000000000100 e.reg.id = false) : s.abandonLc.latched e = true := by
  have hrefuse : ∀ u : State, u.latched e = true → (u.lcRefuse 0xB).latched e = true := fun u hu =>
    State.latched_latch_of_latched (s := (u.setFlag R.TLY_LC_STAT_PENDING 0 false).lcResult 0xB) (e' := R.TLY_EVT_LC_REFUSED)
      (State.latched_of_fld (State.fld_setFlag_ne u _ _ _ hpend) hu) hbit hreg 0
  have hnew : s.newNonce.latched e = true :=
    State.latched_of_fld (State.newNonce_k (K := fun t => t.fld e.reg 0 = s.fld e.reg 0) (loose_fld hnonce) rfl) h
  unfold State.abandonLc
  split
  · dsimp only
    refine hrefuse _ ?_
    split
    · exact hnew
    · exact h
  · exact h

/-- An abandoned operation leaves the sources of the response. -/
theorem State.abandonLc_mask (s : State) : s.abandonLc.guarding.mask = s.guarding.mask := by
  have hnew : s.newNonce.guarding = s.guarding :=
    State.newNonce_k (K := fun t => Part.same s t .guarding) (loose_part s .guarding (by decide) (by decide) (by decide)) rfl
  have hrefuse : ∀ u : State, (u.lcRefuse 0xB).guarding = u.guarding := fun u =>
    State.lcRefuse_k (K := fun t => Part.same u t .guarding) (loose_part u .guarding (by decide) (by decide) (by decide)) rfl _
  unfold State.abandonLc
  split
  · dsimp only
    rw [hrefuse]
    split
    · exact (congrArg Guarding.mask hnew : s.newNonce.guarding.mask = s.guarding.mask)
    · rfl
  · rfl

theorem State.responding_latched (s : State) (mask : Nat) : (s.responding mask).latched R.TLY_EVT_TAMPER = true :=
  State.abandonLc_latched (s := s.alarmed mask) (State.latched_latch _ _ _ (by decide)) (by decide) rfl (by decide) (by decide)

theorem State.responding_last (s : State) {mask : Nat} (h : mask < 128) : (s.responding mask).fld R.TLY_TAMP_STAT_LAST 0 = mask := by
  have hlast : (s.alarmed mask).fld R.TLY_TAMP_STAT_LAST 0 = mask := by
    refine (State.fld_latch_ne (s.sourced mask) R.TLY_EVT_TAMPER 0 0 (by decide)).trans ?_
    refine (State.fld_satFld_ne _ _ _ _ (by decide)).trans ((State.fld_setFld_self _ _ _ _).trans ?_)
    exact Nat.mod_eq_of_lt h
  exact State.abandonLc_k (K := fun t => t.fld R.TLY_TAMP_STAT_LAST 0 = mask) (loose_fld (by decide)) hlast

theorem State.responding_keys (s : State) (mask : Nat) : (s.responding mask).ddr = s.ddr :=
  State.responding_of_alarmed (K := fun t => Part.same s t .ddr) (loose_part s .ddr (by decide) (by decide) (by decide)) (State.latch_ddr _ _ _)

theorem State.responding_fuses (s : State) (mask : Nat) : (s.responding mask).fuses = s.fuses :=
  State.responding_of_alarmed (K := fun t => Part.same s t .fuses) (loose_part s .fuses (by decide) (by decide) (by decide))
    (State.latch_fuses _ _ _)

theorem State.responding_fld {s : State} {mask : Nat} {f : Fld} (h1 : f.id ≠ R.TLY_EVT.id) (h2 : f.id ≠ R.TLY_TAMP_STAT_COUNT.id)
    (h3 : f.id ≠ R.TLY_TAMP_STAT_LAST.id) (h4 : regOk 0x88000020000000000000000000000000000000000000000000000000000000000000000000000000000000000000000000000000000000000000000000000000000000000000000000000000000000000000000000000042000000000d00 f.id = false) : (s.responding mask).fld f 0 = s.fld f 0 :=
  State.responding_of_alarmed (K := fun t => t.fld f 0 = s.fld f 0) (loose_fld h4) (State.alarmed_fld h1 h2 h3)

/-! ### The whole response -/

theorem State.startResponse_of_wiped {K : State → Prop} (hK : Loose 0x1a00000000000000000000000000000003e00000a0000000000438000000004e9000000000000000000000000000000000000000000000000000000000000000000000000000000000000000000000000000000064001180002d00 K) {s : State}
    {mask : Nat} (h : K (s.responding mask).wipe) : K (s.startResponse mask) :=
  State.startResponse_of_responded (hK.mono (by decide)) (State.tamperRaising_k (hK.mono (by decide)) (State.tamperPolicy_k (hK.mono (by decide)) h))

theorem State.wipe_fld {s : State} {f : Fld} (h : regOk 0x3c0000000400018006000000000000000000000c0000000000000000000000000de000400000000000003000000000000000000000000000000000000000000000000000000080000000000000000000000000000000004040020580020c00 f.id = false) : s.wipe.fld f 0 = s.fld f 0 :=
  State.wipe_k (K := fun t => t.fld f 0 = s.fld f 0) (loose_fld h) rfl

/-- TAMPER, the sources, the rows of the recovery, new keys, and the secure bank lost. -/
theorem State.startResponse_spec (s : State) {mask : Nat} (hmask : mask < 128) : (s.startResponse mask).latched R.TLY_EVT_TAMPER = true
    ∧ (s.startResponse mask).fld R.TLY_TAMP_STAT_LAST 0 = mask ∧ (s.startResponse mask).flag R.TLY_REKEY_MAP = true
    ∧ (s.startResponse mask).flag R.TLY_REKEY_SCENES = true ∧ (s.startResponse mask).flag R.TLY_STAT_REKEY = true
    ∧ (s.startResponse mask).ddr.keys = s.ddr.keys + 1 ∧ (∀ a, 0x10380000 ≤ a → a < 0x103A0000 → (s.startResponse mask).byte a = 0)
    ∧ (s.startResponse mask).fuses = s.fuses := by
  have hfld : ∀ f : Fld, regOk 0x1a00000000000000000000000000000003e00000a0000000000438000000004e9000000000000000000000000000000000000000000000000000000000000000000000000000000000000000000000000000000064001180002d00 f.id = false →
      (s.startResponse mask).fld f 0 = (s.responding mask).wipe.fld f 0 := fun f hf =>
    State.startResponse_of_wiped (K := fun t => t.fld f 0 = (s.responding mask).wipe.fld f 0) (loose_fld hf) rfl
  have hmem : (s.startResponse mask).mem = (s.responding mask).wipe.mem := State.startResponse_of_wiped
    (K := fun t => Part.same (s.responding mask).wipe t .mem) (loose_part _ .mem (by decide) (by decide) (by decide)) rfl
  have hddr : (s.startResponse mask).ddr = (s.responding mask).wipe.ddr := State.startResponse_of_wiped
    (K := fun t => Part.same (s.responding mask).wipe t .ddr) (loose_part _ .ddr (by decide) (by decide) (by decide)) rfl
  have hfuses : (s.startResponse mask).fuses = (s.responding mask).wipe.fuses := State.startResponse_of_wiped
    (K := fun t => Part.same (s.responding mask).wipe t .fuses) (loose_part _ .fuses (by decide) (by decide) (by decide)) rfl
  have hwiped : (s.responding mask).wipe.fuses = (s.responding mask).fuses :=
    State.wipe_k (K := fun t => Part.same (s.responding mask) t .fuses) (loose_part _ .fuses (by decide) (by decide) (by decide)) rfl
  obtain ⟨hrekey, hmap, hscenes⟩ := (s.responding mask).wipe_rows
  refine ⟨?_, ?_, ?_, ?_, ?_, ?_, ?_, ?_⟩
  · refine State.latched_of_fld (hfld R.TLY_EVT_TAMPER.reg (by decide)) ?_
    exact State.latched_of_fld (State.wipe_fld (by decide)) (s.responding_latched mask)
  · exact (hfld _ (by decide)).trans ((State.wipe_fld (by decide)).trans (s.responding_last hmask))
  · exact (State.flag_of_fld (hfld _ (by decide))).trans hmap
  · exact (State.flag_of_fld (hfld _ (by decide))).trans hscenes
  · exact (State.flag_of_fld (hfld _ (by decide))).trans hrekey
  · rw [hddr, State.wipe_keys, State.responding_keys]
  · intro a h1 h2
    rw [State.byte_congr hmem hddr]
    exact State.byte_wipe _ h1 h2
  · rw [hfuses, hwiped, State.responding_fuses]

theorem State.responding_policy (s : State) (mask : Nat) : (s.responding mask).wipe.fld R.TLY_TAMP_CFG_POLICY = s.fld R.TLY_TAMP_CFG_POLICY :=
  (State.wipe_fld (by decide)).trans (State.responding_fld (by decide) (by decide) (by decide) (by decide))

theorem State.startResponse_of_policy {K : State → Prop} (hK : Loose 0x3800000000000000000000000000000000000000000000000000000000000000000000000000000000000000000000000000000000000000000044000000000000 K) {s : State}
    {mask : Nat} (h : K (s.responding mask).wipe.tamperPolicy) : K (s.startResponse mask) :=
  State.startResponse_of_responded (hK.mono (by decide)) (State.tamperRaising_k (hK.mono (by decide)) h)

theorem State.startResponse_fld {s : State} {mask : Nat} {f : Fld} (hf : regOk 0x3800000000000000000000000000000000000000000000000000000000000000000000000000000000000000000000000000000000000000000044000000000000 f.id = false) :
    (s.startResponse mask).fld f 0 = (s.responding mask).wipe.tamperPolicy.fld f 0 :=
  State.startResponse_of_policy (K := fun t => t.fld f 0 = (s.responding mask).wipe.tamperPolicy.fld f 0) (loose_fld hf) rfl

theorem State.startResponse_open {s : State} (hp : s.fld R.TLY_TAMP_CFG_POLICY = 0) (mask : Nat) :
    (s.startResponse mask).fld R.TLY_STAT_LOCKED = s.fld R.TLY_STAT_LOCKED ∧ (s.startResponse mask).ownerPort = s.ownerPort := by
  have hnone : (s.responding mask).wipe.tamperPolicy = (s.responding mask).wipe := State.tamperPolicy_none ((s.responding_policy mask).trans hp)
  have hlocked : (s.startResponse mask).fld R.TLY_STAT_LOCKED 0 = (s.responding mask).wipe.fld R.TLY_STAT_LOCKED 0 :=
    (State.startResponse_fld (by decide)).trans (congrArg (fun u => u.fld R.TLY_STAT_LOCKED 0) hnone)
  have howner : (s.startResponse mask).fld R.MGT_OWNER_PORT 0 = (s.responding mask).wipe.fld R.MGT_OWNER_PORT 0 :=
    (State.startResponse_fld (by decide)).trans (congrArg (fun u => u.fld R.MGT_OWNER_PORT 0) hnone)
  exact ⟨hlocked.trans ((State.wipe_fld (by decide)).trans (State.responding_fld (by decide) (by decide) (by decide) (by decide))),
    howner.trans ((State.wipe_fld (by decide)).trans (State.responding_fld (by decide) (by decide) (by decide) (by decide)))⟩

theorem State.startResponse_locked {s : State} (hp : s.fld R.TLY_TAMP_CFG_POLICY = 1) (mask : Nat) :
    (s.startResponse mask).flag R.TLY_STAT_LOCKED = true ∧ (s.startResponse mask).ownerPort = noPort := by
  have hlock : (s.responding mask).wipe.tamperPolicy = (s.responding mask).wipe.lockPorts :=
    State.tamperPolicy_lock ((s.responding_policy mask).trans hp)
  obtain ⟨hlocked, howner⟩ := (s.responding mask).wipe.lockPorts_spec
  exact ⟨(State.flag_of_fld (State.startResponse_fld (by decide))).trans ((congrArg (fun u => u.flag R.TLY_STAT_LOCKED) hlock).trans hlocked),
    (State.startResponse_fld (by decide)).trans ((congrArg State.ownerPort hlock).trans howner)⟩

/-- What POLICY 2 does after it has locked the ports. -/
def State.haltAll (s : State) : State := (((s.setFlag R.TLY_STAT_HALTED 0 true).failDevice).stopLive).stopSubst

theorem State.haltAll_fld {s : State} {f : Fld} (h : regOk 0x200000000000000000000000000000000000000a0000000000400000000004e9000000000000000000000000000000000000000000000000000000000000000000000000000000000000000000000000000000020000180002d00 f.id = false) :
    s.haltAll.fld f 0 = (s.setFlag R.TLY_STAT_HALTED 0 true).fld f 0 := by
  have hK : Loose 0x200000000000000000000000000000000000000a0000000000400000000004e9000000000000000000000000000000000000000000000000000000000000000000000000000000000000000000000000000000020000180002d00 (fun t => t.fld f 0 = (s.setFlag R.TLY_STAT_HALTED 0 true).fld f 0) :=
    loose_fld h
  exact State.stopSubst_k (hK.mono (by decide)) (State.stopLive_k (hK.mono (by decide)) (State.failDevice_k (hK.mono (by decide)) rfl))

theorem State.startResponse_halted {s : State} (hp : s.fld R.TLY_TAMP_CFG_POLICY = 2) (mask : Nat) :
    (s.startResponse mask).flag R.TLY_STAT_LOCKED = true ∧ (s.startResponse mask).flag R.TLY_STAT_HALTED = true
      ∧ (s.startResponse mask).ownerPort = noPort := by
  have hhalt : (s.responding mask).wipe.tamperPolicy = (s.responding mask).wipe.lockPorts.haltAll :=
    State.tamperPolicy_halt ((s.responding_policy mask).trans hp)
  obtain ⟨hlocked, howner⟩ := (s.responding mask).wipe.lockPorts_spec
  refine ⟨?_, ?_, ?_⟩
  · refine (State.flag_of_fld (State.startResponse_fld (by decide))).trans ((congrArg (fun u => u.flag R.TLY_STAT_LOCKED) hhalt).trans ?_)
    exact (State.flag_of_fld ((State.haltAll_fld (by decide)).trans (State.fld_setFlag_ne _ _ _ _ (by decide)))).trans hlocked
  · refine (State.flag_of_fld (State.startResponse_fld (by decide))).trans ((congrArg (fun u => u.flag R.TLY_STAT_HALTED) hhalt).trans ?_)
    exact (State.flag_of_fld (State.haltAll_fld (by decide))).trans (State.flag_setFlag_self _ _ _ _ (by decide))
  · refine (State.startResponse_fld (by decide)).trans ((congrArg State.ownerPort hhalt).trans ?_)
    exact ((State.haltAll_fld (by decide)).trans (State.fld_setFlag_ne _ _ _ _ (by decide))).trans howner

/-! ### The check of the sources -/

/-- The state in which a change of the sources is judged. -/
def State.asserting (s : State) (src : BitVec 7) : State :=
  ((s.setFld R.TLY_TAMP_STAT_IN 0 (bits src.toNat 0 4)).setFld R.TLY_TAMP_STAT_MON 0 (bits src.toNat 4 3)).updGuard
    (fun g => { g with asserted := src.toNat })

/-- The state once the sources that act are noted. -/
def State.sensed (s : State) (src : BitVec 7) : State := (s.asserting src).updGuard (fun g => { g with seen := s.activeSources src.toNat })

theorem State.asserting_fld {s : State} {src : BitVec 7} {f : Fld} (h1 : f.id ≠ R.TLY_TAMP_STAT_MON.id) (h2 : f.id ≠ R.TLY_TAMP_STAT_IN.id) :
    (s.sensed src).fld f 0 = s.fld f 0 := (State.fld_setFld_ne _ _ _ _ h1).trans (State.fld_setFld_ne _ _ _ _ h2)

theorem State.tamperCheck_eq (s : State) : s.tamperCheck =
    (if Nat.land (s.activeSources s.guarding.asserted) (0x7F - s.guarding.seen) = 0 then
      s.updGuard (fun g => { g with seen := s.activeSources s.guarding.asserted })
    else if s.guarding.running then
      (((s.updGuard (fun g => { g with seen := s.activeSources s.guarding.asserted })).updGuard (fun g => { g with
        mask := Nat.lor s.guarding.mask (Nat.land (s.activeSources s.guarding.asserted) (0x7F - s.guarding.seen)) })).setFld R.TLY_TAMP_STAT_LAST 0
        (Nat.lor s.guarding.mask (Nat.land (s.activeSources s.guarding.asserted) (0x7F - s.guarding.seen)))).abandonLc
    else (s.updGuard (fun g => { g with seen := s.activeSources s.guarding.asserted })).startResponse
      (Nat.land (s.activeSources s.guarding.asserted) (0x7F - s.guarding.seen))) := rfl

theorem State.asserting_active (s : State) (src : BitVec 7) : (s.asserting src).activeSources (s.asserting src).guarding.asserted = s.activeSources src.toNat := by
  unfold State.activeSources
  rw [show (s.asserting src).fld R.TLY_TAMP_CFG_IN_EN = s.fld R.TLY_TAMP_CFG_IN_EN from
    State.asserting_fld (s := s) (src := src) (by decide) (by decide)]
  rfl

/-- The sources join the response in progress. -/
def State.joined (s : State) (src : BitVec 7) (fresh : Nat) : State :=
  ((s.sensed src).updGuard (fun g => { g with mask := Nat.lor s.guarding.mask fresh })).setFld R.TLY_TAMP_STAT_LAST 0 (Nat.lor s.guarding.mask fresh)

theorem exec_tamperCondition {s : State} {src : BitVec 7} {fresh : Nat}
    (h : fresh = Nat.land (s.activeSources src.toNat) (0x7F - s.guarding.seen)) : exec (.tamperCondition src) s = .next (
      if fresh = 0 then s.sensed src else if s.guarding.running then (s.joined src fresh).abandonLc else (s.sensed src).startResponse fresh) := by
  subst h
  show Host.Outcome.next (s.asserting src).tamperCheck = _
  rw [State.tamperCheck_eq, State.asserting_active]
  rfl

theorem activeSources_lt (s : State) (src : BitVec 7) (m : Nat) : Nat.land (s.activeSources src.toNat) m < 128 := by
  have h : s.activeSources src.toNat ≤ src.toNat := Nat.and_le_left
  have h' : Nat.land (s.activeSources src.toNat) m ≤ s.activeSources src.toNat := Nat.and_le_left
  have := src.isLt
  omega

/-! ### The recovery -/

theorem exec_sceneReload {s : State} {img : ImageBytes} (hf : s.flag R.TLY_REKEY_SCENES = true)
    (h : s.imageFault (s.imageOf img) s.slotRoom = none) :
    exec (.sceneReloadDone img) s = .next ((s.fillScenes (s.imageOf img)).1.setFlag R.TLY_REKEY_SCENES 0 false) := by
  refine congrArg Host.Outcome.next (if_neg ?_)
  rw [hf, h]
  exact Bool.false_ne_true

theorem exec_sceneReload_bad {s : State} {img : ImageBytes} {e : Nat × Nat} (h : s.imageFault (s.imageOf img) s.slotRoom = some e) :
    exec (.sceneReloadDone img) s = .next s := by
  refine congrArg Host.Outcome.next (if_pos ?_)
  rw [h, Option.isSome_some, Bool.or_true]

theorem exec_rekeyDone {s : State} (h1 : s.flag R.TLY_STAT_REKEY = true) (h2 : s.flag R.TLY_REKEY_MAP = false)
    (h3 : s.flag R.TLY_REKEY_SCENES = false) (h4 : s.stripesGone = true) : exec .rekeyDone s =
      .next (((s.setFlag R.TLY_REKEY_LONGPATH 0 false).setFlag R.TLY_STAT_REKEY 0 false).latch R.TLY_EVT_REKEY_DONE) := by
  refine congrArg Host.Outcome.next (if_pos ?_)
  rw [h1, h2, h3, h4]
  rfl

/-- Settles O50: a response is its alarm, the wipe and then what POLICY adds, and each leaves what those before it showed. -/
theorem tamper : Obligations.Tamper := by
  unfold Obligations.Tamper
  intro s
  refine ⟨?_, ?_, ?_, ?_, ?_, ?_, ?_⟩
  · intro src fresh hfresh hne hrun
    have hexec : exec (.tamperCondition src) s = .next ((s.sensed src).startResponse fresh) := by
      rw [exec_tamperCondition hfresh, if_neg hne, if_neg (Bool.eq_false_iff.mp hrun)]
    have hlt : fresh < 128 := hfresh ▸ activeSources_lt s src _
    obtain ⟨h1, h2, h3, h4, h5, h6, h7, h8⟩ := (s.sensed src).startResponse_spec hlt
    have hpolicy : (s.sensed src).fld R.TLY_TAMP_CFG_POLICY = s.fld R.TLY_TAMP_CFG_POLICY := State.asserting_fld (by decide) (by decide)
    have hlocked : (s.sensed src).fld R.TLY_STAT_LOCKED = s.fld R.TLY_STAT_LOCKED := State.asserting_fld (by decide) (by decide)
    have howner : (s.sensed src).ownerPort = s.ownerPort := State.asserting_fld (f := R.MGT_OWNER_PORT) (by decide) (by decide)
    refine ⟨_, hexec, h1, h2, h3, h4, h5, h6, h7, h8, ?_, ?_, ?_⟩
    · intro hp
      obtain ⟨hl, ho⟩ := State.startResponse_open (hpolicy.trans hp) fresh
      exact ⟨hl.trans hlocked, ho.trans howner⟩
    · intro hp
      exact State.startResponse_locked (hpolicy.trans hp) fresh
    · intro hp
      exact State.startResponse_halted (hpolicy.trans hp) fresh
  · intro src fresh hfresh hne hrun
    have hexec : exec (.tamperCondition src) s = .next (s.joined src fresh).abandonLc := by
      rw [exec_tamperCondition hfresh, if_neg hne, if_pos hrun]
    have hmem : (s.joined src fresh).abandonLc.mem = s.mem :=
      State.abandonLc_k (K := fun t => Part.same s t .mem) (loose_part s .mem (by decide) (by decide) (by decide)) rfl
    have hddr : (s.joined src fresh).abandonLc.ddr = s.ddr :=
      State.abandonLc_k (K := fun t => Part.same s t .ddr) (loose_part s .ddr (by decide) (by decide) (by decide)) rfl
    have hpend : (s.joined src fresh).flag R.TLY_LC_STAT_PENDING = s.flag R.TLY_LC_STAT_PENDING :=
      State.flag_of_fld ((State.fld_setFld_ne _ _ _ _ (by decide)).trans (State.asserting_fld (by decide) (by decide)))
    refine ⟨_, hexec, State.abandonLc_mask _, hmem, hddr, ?_⟩
    intro hp hopen
    exact State.abandonLc_spec (hpend.trans hp) hopen
  · intro src hfresh
    have hexec : exec (.tamperCondition src) s = .next (s.sensed src) := by
      rw [exec_tamperCondition rfl, if_pos hfresh]
    exact ⟨_, hexec, rfl, rfl, rfl, rfl, rfl, State.asserting_fld (by decide) (by decide)⟩
  · exact ⟨_, rfl, State.flag_setFlag_self _ _ _ _ (by decide), rfl⟩
  · intro img hf h
    exact ⟨_, exec_sceneReload hf h, State.flag_setFlag_self _ _ _ _ (by decide)⟩
  · intro img e h
    exact ⟨_, exec_sceneReload_bad h, rfl⟩
  · intro h1 h2 h3 h4
    refine ⟨_, exec_rekeyDone h1 h2 h3 h4, ?_, ?_, State.latched_latch _ _ _ (by decide)⟩
    · exact (State.flag_of_fld (State.fld_latch_ne ((s.setFlag R.TLY_REKEY_LONGPATH 0 false).setFlag R.TLY_STAT_REKEY 0 false) _ _ _ (by decide))).trans
        (State.flag_setFlag_self _ _ _ _ (by decide))
    · exact (State.flag_of_fld (State.fld_latch_ne ((s.setFlag R.TLY_REKEY_LONGPATH 0 false).setFlag R.TLY_STAT_REKEY 0 false) _ _ _ (by decide))).trans
        ((State.flag_setFlag_ne _ _ _ _ (by decide)).trans (State.flag_setFlag_self _ _ _ _ (by decide)))

end Sys2Proof.Machine
end

section
/-! O51: what each event of the mate unit does to the mate state (R299 to R303, R308, R316, R317). -/

namespace Sys2Proof.Machine

/-! ### Entering a state -/

theorem State.mateTo_same {s : State} {st : Nat} (h : s.mateState = st) : s.mateTo st = s := if_pos h

/-- The state as the device enters `st`, before STATE_CHANGE is latched. -/
def State.entering (s : State) (st : Nat) : State :=
  (((s.setFld R.MAT_STAT_STATE 0 st).setFlag R.MAT_STAT_ARB_OUT 0 (st == mateAlone || st == mateActive)).setFlag
      R.MAT_STAT_KEPT 0 false).updMate (fun m => { m with
      stateAt := if s.isRejoining st then m.stateAt else s.frame
      atTick := none, adopting := st == mateJoining, dual := if s.isActive then m.dual else 0 })

theorem State.mateTo_other {s : State} {st : Nat} (h : s.mateState ≠ st) : s.mateTo st = (s.entering st).latch R.MAT_EVT_STATE_CHANGE := if_neg h

theorem State.fld_mateTo_other {s : State} {st : Nat} (h : s.mateState ≠ st) {f : Fld} (hf : f.id ≠ R.MAT_EVT.id) :
    (s.mateTo st).fld f 0 = (s.entering st).fld f 0 := by
  rw [State.mateTo_other h]
  exact State.fld_latch_ne (s.entering st) _ _ _ hf

theorem State.mateTo_state (s : State) {st : Nat} (hst : st < 2 ^ R.MAT_STAT_STATE.width) : (s.mateTo st).mateState = st := by
  by_cases h : s.mateState = st
  · rw [State.mateTo_same h]
    exact h
  · refine (State.fld_mateTo_other (f := R.MAT_STAT_STATE) h (by decide)).trans ?_
    refine (State.fld_setFlag_ne _ _ _ _ (by decide)).trans ((State.fld_setFlag_ne _ _ _ _ (by decide)).trans ((State.fld_setFld_self _ _ _ _).trans ?_))
    exact Nat.mod_eq_of_lt hst

theorem State.mateTo_arbOut {s : State} {st : Nat} (h : s.mateState ≠ st) :
    (s.mateTo st).flag R.MAT_STAT_ARB_OUT = (st == mateAlone || st == mateActive) := by
  refine (State.flag_of_fld (State.fld_mateTo_other h (by decide))).trans ?_
  exact (State.flag_setFlag_ne _ _ _ _ (by decide)).trans (State.flag_setFlag_self _ _ _ _ (by decide))

theorem State.mateTo_changes {s : State} {st : Nat} (h : s.mateState ≠ st) : (s.mateTo st).latched R.MAT_EVT_STATE_CHANGE = true := by
  rw [State.mateTo_other h]
  exact State.latched_latch _ _ _ (by decide)

theorem State.mateTo_enters {s : State} {st : Nat} (h : s.mateState ≠ st) (hst : st < 2 ^ R.MAT_STAT_STATE.width) : (s.mateTo st).enteredMate st :=
  ⟨s.mateTo_state hst, State.mateTo_changes h⟩

theorem State.mateTo_installed (s : State) (st : Nat) : (s.mateTo st).mate.installed = s.mate.installed := by
  by_cases h : s.mateState = st
  · rw [State.mateTo_same h]
  · rw [State.mateTo_other h, State.latch_mate]
    rfl

/-! ### Entering JOINING -/

theorem State.matchFrame_cases (s : State) : ∃ a b, s.matchFrame = s.updMate (fun m => { m with adopt := a, adopting := b }) := by
  unfold State.matchFrame
  split
  · exact ⟨_, _, rfl⟩
  · exact ⟨s.mate.adopt, s.mate.adopting, rfl⟩

theorem State.matchFrame_regs (s : State) : s.matchFrame.regs = s.regs := by
  obtain ⟨a, b, h⟩ := s.matchFrame_cases
  rw [h]
  rfl

/-- JOINING with its flag KEPT and COPY_PHASE, and no copy held. -/
def State.joining (s : State) (kept : Bool) : State := ((s.mateTo mateJoining).setFlag R.MAT_STAT_KEPT 0 kept).setFld R.MAT_COPY_PHASE 0 0

theorem State.mateJoin_regs (s : State) (kept inst : Bool) : (s.mateJoin kept inst).regs = (s.joining kept).regs := State.matchFrame_regs _

theorem State.mateJoin_fld {s : State} {kept inst : Bool} {f : Fld} : (s.mateJoin kept inst).fld f 0 = (s.joining kept).fld f 0 := by
  unfold State.fld
  rw [State.mateJoin_regs]

theorem State.mateJoin_installed (s : State) (kept inst : Bool) : (s.mateJoin kept inst).mate.installed = inst := by
  unfold State.mateJoin
  dsimp only
  obtain ⟨a, b, h⟩ := (((((s.mateTo mateJoining).setFlag R.MAT_STAT_KEPT 0 kept).setFld R.MAT_COPY_PHASE 0 0).updMate (fun m => { m with
    installed := inst, stage := [], slices := [], inbound := false, adopt := none })).matchFrame_cases)
  rw [h]
  rfl

theorem State.joining_fld {s : State} {kept : Bool} {f : Fld} (h1 : f.id ≠ R.MAT_COPY_PHASE.id) (h2 : f.id ≠ R.MAT_STAT_KEPT.id) :
    (s.joining kept).fld f 0 = (s.mateTo mateJoining).fld f 0 := (State.fld_setFld_ne _ _ _ _ h1).trans (State.fld_setFlag_ne _ _ _ _ h2)

theorem State.mateJoin_state (s : State) (kept inst : Bool) : (s.mateJoin kept inst).mateState = mateJoining :=
  State.mateJoin_fld.trans ((State.joining_fld (f := R.MAT_STAT_STATE) (by decide) (by decide)).trans (s.mateTo_state (by decide)))

theorem State.mateJoin_enters {s : State} (h : s.mateState ≠ mateJoining) (kept inst : Bool) : (s.mateJoin kept inst).enteredMate mateJoining := by
  refine ⟨s.mateJoin_state kept inst, State.latched_of_fld (s := s.mateTo mateJoining) ?_ (State.mateTo_changes h)⟩
  exact State.mateJoin_fld.trans (State.joining_fld (by decide) (by decide))

theorem State.mateJoin_kept (s : State) (kept inst : Bool) : (s.mateJoin kept inst).flag R.MAT_STAT_KEPT = kept := by
  refine (State.flag_of_fld (s := s.joining kept) State.mateJoin_fld).trans ?_
  exact (State.flag_setFld_ne _ _ _ _ (by decide)).trans (State.flag_setFlag_self _ _ _ _ (by decide))

/-! ### Failing -/

/-- FAILED is entered, with TAKE_FAIL where a takeover has just taken effect. -/
def State.failing (s : State) : State := (s.mateTo mateFailed).latchIf s.justTook R.MAT_EVT_TAKE_FAIL

theorem State.failing_changed {s : State} (h : s.mateState ≠ mateFailed) : s.failing.latched R.MAT_EVT_STATE_CHANGE = true :=
  State.latched_latchIf_of_latched (e := R.MAT_EVT_STATE_CHANGE) (e' := R.MAT_EVT_TAKE_FAIL) (State.mateTo_changes h) (by decide) rfl _ _

theorem State.failing_state (s : State) : s.failing.mateState = mateFailed :=
  (State.fld_latchIf_ne (s.mateTo mateFailed) s.justTook R.MAT_EVT_TAKE_FAIL 0 0 (by decide)).trans (s.mateTo_state (by decide))

theorem State.failing_took {s : State} (h : s.justTook = true) : s.failing.latched R.MAT_EVT_TAKE_FAIL = true :=
  State.latched_latchIf h (s.mateTo mateFailed) R.MAT_EVT_TAKE_FAIL 0 (by decide)

theorem State.failDevice_same {s : State} (h : s.paired = false ∨ s.mateState = mateFailed) : s.failDevice = s := by
  refine if_pos ?_
  rw [Bool.or_eq_true, decide_eq_true_eq]
  exact h.imp (fun hp => by rw [hp]; rfl) id

/-- A takeover of its own that has not taken effect comes to nothing. -/
def State.takeLost (s : State) : State :=
  ((s.setFlag R.MAT_STAT_TKV 0 false).setFld R.MAT_STAT_NEW_ROLE 0 0).updMate (fun m => { m with take := none, tkFrame := 0 })

/-- The state of a failed device, but for a takeover of its own. -/
def State.failedMate (s : State) : State := s.failing.updMate (fun m => { m with installed := false, atTick := none, wasActive := s.isActive })

theorem State.failDevice_eq {s : State} (hp : s.paired = true) (h : s.mateState ≠ mateFailed) : s.failDevice =
    if s.mate.take.any (fun t => t.done || !t.mine) then s.failedMate else s.failedMate.takeLost := by
  refine if_neg ?_
  rw [hp]
  simpa using h

theorem State.takeLost_fld {s : State} {f : Fld} (h1 : f.id ≠ R.MAT_STAT_TKV.id) (h2 : f.id ≠ R.MAT_STAT_NEW_ROLE.id) :
    s.takeLost.fld f 0 = s.fld f 0 := (State.fld_setFld_ne _ _ _ _ h2).trans (State.fld_setFlag_ne _ _ _ _ h1)

theorem State.failDevice_fld {s : State} (hp : s.paired = true) (h : s.mateState ≠ mateFailed) {f : Fld} (h1 : f.id ≠ R.MAT_STAT_TKV.id)
    (h2 : f.id ≠ R.MAT_STAT_NEW_ROLE.id) : s.failDevice.fld f 0 = s.failing.fld f 0 := by
  rw [State.failDevice_eq hp h]
  split
  · rfl
  · exact (State.takeLost_fld h1 h2).trans rfl

theorem State.failDevice_spec {s : State} (hp : s.paired = true) : s.failDevice.mateState = mateFailed
    ∧ (s.mateState ≠ mateFailed → s.failDevice.latched R.MAT_EVT_STATE_CHANGE = true
      ∧ (s.justTook = true → s.failDevice.latched R.MAT_EVT_TAKE_FAIL = true)) := by
  by_cases h : s.mateState = mateFailed
  · rw [State.failDevice_same (.inr h)]
    exact ⟨h, fun hne => absurd h hne⟩
  · have hevt : s.failDevice.fld R.MAT_EVT 0 = s.failing.fld R.MAT_EVT 0 := State.failDevice_fld hp h (by decide) (by decide)
    have hstate : s.failDevice.fld R.MAT_STAT_STATE 0 = s.failing.fld R.MAT_STAT_STATE 0 := State.failDevice_fld hp h (by decide) (by decide)
    exact ⟨hstate.trans s.failing_state, fun _ => ⟨State.latched_of_fld hevt (State.failing_changed h),
      fun htook => State.latched_of_fld hevt (State.failing_took htook)⟩⟩

/-! ### The arbitration line -/

/-- The state once the line's level is shown. -/
def State.arbSeen (s : State) (lvl : Bool) (c : Fin 165888) : State := ({ s.updMate (fun m => { m with arb := lvl }) with cycle := c.val } : State).setArb lvl

theorem exec_arbChange {s : State} {lvl : Bool} {c : Fin 165888} (hp : s.paired = true) (hn : s.nearT c = false) :
    exec (.arbChange lvl c) s = .next (if lvl then s.arbSeen lvl c else (s.arbSeen lvl c).arbFault).waitSees := by
  refine congrArg Host.Outcome.next (if_neg ?_)
  rw [hp, hn]
  exact Bool.false_ne_true

theorem exec_arbChange_near {s : State} {lvl : Bool} {c : Fin 165888} (hn : s.nearT c = true) :
    exec (.arbChange lvl c) s = .next { s.updMate (fun m => { m with arb := lvl }) with cycle := c.val } := by
  refine congrArg Host.Outcome.next (if_pos ?_)
  rw [hn, Bool.or_true]

theorem State.arbSeen_fld {s : State} {lvl : Bool} {c : Fin 165888} {f : Fld} (h : f.id ≠ R.MAT_STAT_ARB_IN.id) :
    (s.arbSeen lvl c).fld f 0 = s.fld f 0 := State.fld_setFlag_ne _ _ _ _ h

theorem State.arbSeen_arb (s : State) (lvl : Bool) (c : Fin 165888) : (s.arbSeen lvl c).flag R.MAT_STAT_ARB_IN = lvl :=
  State.flag_setFlag_self _ _ _ _ (by decide)

theorem State.waitSees_idle {s : State} (h : s.mateState ≠ mateWait) : s.waitSees = s := by
  refine if_neg ?_
  simp [h]

theorem State.waitSees_blind {s : State} (h : s.flag R.MAT_STAT_CONFLICT = true ∨ (s.flag R.MAT_STAT_ARB_IN = false
    ∧ (s.flag R.MAT_STAT_HB_OK = false ∨ s.peerActive = false))) : s.waitSees = s := by
  refine if_neg ?_
  rcases h with h | ⟨h1, h | h⟩ <;> simp_all

theorem State.waitSees_joins {s : State} (h1 : s.mateState = mateWait) (h2 : s.phase = 7) (h3 : s.flag R.MAT_STAT_CONFLICT = false)
    (h4 : s.flag R.MAT_STAT_ARB_IN = true) : s.waitSees = s.mateJoin false false := by
  refine if_pos ?_
  rw [h1, h2, h3, h4]
  rfl

theorem State.arbFault_latched {s : State} (h1 : s.isStandby = true) (h2 : s.flag R.MAT_STAT_ARB_IN = false) (h3 : s.flag R.MAT_STAT_HB_OK = true)
    (h4 : s.flag R.MAT_PEER_VALID = true) (h5 : s.fld R.MAT_PEER_STATE = mateActive) (h6 : s.flag R.MAT_PEER_HEALTHY = true) :
    s.arbFault.latched R.MAT_EVT_ARB_FAULT = true := by
  refine State.latched_latchIf ?_ _ _ _ (by decide)
  rw [h1, h2, h3, h4, h5, h6]
  rfl

theorem State.standby_of_state {s t : State} (h : t.mateState = s.mateState) : t.isStandby = s.isStandby := by
  unfold State.isStandby
  rw [h]

theorem State.standby_not_wait {s : State} (h : s.isStandby = true) : s.mateState ≠ mateWait := by
  intro hw
  unfold State.isStandby at h
  rw [hw] at h
  exact Bool.false_ne_true h

/-! ### READY -/

theorem State.showNready_mate (s : State) : s.showNready.mate = s.mate :=
  State.showNready_k (K := fun t => Part.same s t .mate) (loose_part s .mate (by decide) (by decide) (by decide)) rfl

/-- The first two conditions of MAT_NREADY. -/
def State.shownHeld (s : State) : State := (s.setFlag R.MAT_NREADY_COPY 0 (!s.copyDone)).setFlag R.MAT_NREADY_JOURNAL 0 s.behind

theorem State.showNready_held (s : State) {f : Fld} (h : f = R.MAT_NREADY_COPY ∨ f = R.MAT_NREADY_JOURNAL) :
    s.showNready.flag f = s.shownHeld.flag f := by
  have hrest : ∀ (u : State) (a b c d e g : Bool), (((((((u.setFlag R.MAT_NREADY_LONGPATH 0 a).setFlag R.MAT_NREADY_BENTLOCK 0 b).setFlag
      R.MAT_NREADY_PLUMB 0 c).setFlag R.MAT_NREADY_SEED 0 d).setFlag R.MAT_NREADY_GRAIN 0 e).setFlag R.MAT_NREADY_LANES 0 g)).flag f = u.flag f := by
    intro u a b c d e g
    obtain rfl | rfl := h <;> simp (disch := decide) only [State.flag_setFlag_ne]
  exact hrest s.shownHeld _ _ _ _ _ _

theorem State.showNready_copy (s : State) : s.showNready.flag R.MAT_NREADY_COPY = !s.copyDone := by
  rw [s.showNready_held (.inl rfl)]
  exact (State.flag_setFlag_ne _ _ _ _ (by decide)).trans (State.flag_setFlag_self _ _ _ _ (by decide))

theorem State.showNready_journal (s : State) : s.showNready.flag R.MAT_NREADY_JOURNAL = s.behind := by
  rw [s.showNready_held (.inr rfl)]
  exact State.flag_setFlag_self _ _ _ _ (by decide)

/-- What STANDBY_READY leaves, but for the stamps of its event records. -/
def State.readied (s : State) : State :=
  if s.mateState = mateJoining && !s.flag R.MAT_STAT_CONFLICT && s.readyHolds then (s.showNready.mateTo mateReady).setFld R.MAT_COPY_PHASE 0 0
  else s.showNready

theorem exec_standbyReady (s : State) : exec .standbyReady s = .next (s.readied.stampTick s) := rfl

theorem State.readied_held {s : State} {f : Fld} (h1 : regOk 0x429000000000000000000000000000000000000000000000000000000000000000000000000000000000000000000000000000000000000100000c00 f.id = false) (h2 : f.id ≠ R.MAT_COPY_PHASE.id) :
    s.readied.fld f 0 = s.showNready.fld f 0 := by
  unfold State.readied
  split
  · exact (State.fld_setFld_ne _ _ _ _ h2).trans (State.fld_mateTo _ _ _ h1)
  · rfl

/-- What STANDBY_READY shows, and whether it enters READY. -/
theorem State.readied_spec {s : State} (h : s.mateState = mateJoining) : s.readied.flag R.MAT_NREADY_COPY = (!s.copyDone)
    ∧ s.readied.flag R.MAT_NREADY_JOURNAL = s.behind
    ∧ (s.flag R.MAT_STAT_CONFLICT = false → s.readyHolds = true → s.readied.enteredMate mateReady)
    ∧ ((s.flag R.MAT_STAT_CONFLICT = true ∨ s.readyHolds = false) → s.readied.mateState = mateJoining) := by
  have hshown : s.showNready.mateState = mateJoining := (State.fld_showNready s (fq := R.MAT_STAT_STATE) 0 (by decide)).trans h
  refine ⟨(State.flag_of_fld (State.readied_held (by decide) (by decide))).trans s.showNready_copy,
    (State.flag_of_fld (State.readied_held (by decide) (by decide))).trans s.showNready_journal, ?_, ?_⟩
  · intro hc hr
    have hne : s.showNready.mateState ≠ mateReady := by
      rw [hshown]
      decide
    obtain ⟨hstate, hlatched⟩ := State.mateTo_enters hne (by decide)
    have hready : s.readied = (s.showNready.mateTo mateReady).setFld R.MAT_COPY_PHASE 0 0 := by
      refine if_pos ?_
      rw [h, hc, hr]
      rfl
    rw [hready]
    exact ⟨(State.fld_setFld_ne _ _ _ _ (by decide)).trans hstate, State.latched_of_fld (State.fld_setFld_ne _ _ _ _ (by decide)) hlatched⟩
  · intro hno
    have hstays : s.readied = s.showNready := by
      refine if_neg ?_
      rw [h]
      obtain hc | hr := hno
      · rw [hc]
        exact Bool.false_ne_true
      · rw [hr, Bool.and_false]
        exact Bool.false_ne_true
    rw [hstays]
    exact hshown

theorem exec_standbyUnready {s : State} (h : s.mateState = mateReady) (hr : s.readyHolds = false) :
    exec .standbyUnready s = .next (s.showNready.mateJoin false s.mate.installed) := by
  refine congrArg Host.Outcome.next (if_pos ?_)
  rw [h, hr]
  rfl

/-! ### The other events -/

theorem exec_startupWaitExpiry {s : State} (h1 : s.mateState = mateWait) (h2 : s.phase = 7)
    (h3 : frameReached s.frame (frameAdd s.mate.waitFrom s.waitFrames) = true) (hblind : s.waitSees = s) : exec .startupWaitExpiry s = .next (
      if s.mateState = mateWait && !(s.flag R.MAT_STAT_CONFLICT && s.higherSerial) then s.mateTo mateAlone else s) := by
  have hcond : (s.mateState = mateWait && s.phase = 7 && frameReached s.frame (frameAdd s.mate.waitFrom s.waitFrames)) = true := by
    rw [h1, h2, h3]
    rfl
  refine (congrArg Host.Outcome.next (if_pos hcond)).trans ?_
  dsimp only
  rw [hblind]

theorem exec_startupWaitExpiry_alone {s : State} (h1 : s.mateState = mateWait) (h2 : s.phase = 7)
    (h3 : frameReached s.frame (frameAdd s.mate.waitFrom s.waitFrames) = true) (hblind : s.waitSees = s)
    (h : (s.flag R.MAT_STAT_CONFLICT && s.higherSerial) = false) : exec .startupWaitExpiry s = .next (s.mateTo mateAlone) := by
  refine (exec_startupWaitExpiry h1 h2 h3 hblind).trans (congrArg Host.Outcome.next (if_pos ?_))
  rw [h1, h]
  rfl

theorem exec_startupWaitExpiry_waits {s : State} (h1 : s.mateState = mateWait) (h2 : s.phase = 7)
    (h3 : frameReached s.frame (frameAdd s.mate.waitFrom s.waitFrames) = true) (hblind : s.waitSees = s)
    (h : (s.flag R.MAT_STAT_CONFLICT && s.higherSerial) = true) : exec .startupWaitExpiry s = .next s := by
  refine (exec_startupWaitExpiry h1 h2 h3 hblind).trans (congrArg Host.Outcome.next (if_neg ?_))
  rw [h1, h]
  exact Bool.false_ne_true

/-- The state once the loss of heartbeats is shown. -/
def State.hbLost (s : State) : State := ({ s with cycle := 8192 } : State).setFlag R.MAT_STAT_HB_OK 0 false

theorem exec_heartbeatLoss {s : State} (hp : s.paired = true) (hc : s.heartbeatCame = false) :
    exec .heartbeatLoss s = .next (if s.hbLost.mateState = mateActive then s.hbLost.mateTo mateAlone else s.hbLost) := by
  refine congrArg Host.Outcome.next (if_neg ?_)
  rw [hp, hc]
  exact Bool.false_ne_true

theorem exec_isolate {s : State} (h1 : s.mateState = mateJoining ∨ s.mateState = mateReady) (h2 : s.flag R.MAT_STAT_ARB_IN = true) (h3 : 8 ≤ s.silence) :
    exec .isolate s = .next (s.mateTo mateIsolated) := by
  refine congrArg Host.Outcome.next (if_pos ?_)
  rw [h2, decide_eq_true h3, Bool.and_true, Bool.and_true, Bool.or_eq_true, decide_eq_true_eq, decide_eq_true_eq]
  exact h1

/-- No valid heartbeat has come for 8,192 frames. -/
def State.hbLate (s : State) : Bool :=
  match s.mate.hbAt with
  | some f => decide (8192 ≤ s.sinceFrame f)
  | none => true

theorem State.hbLate_of {s : State} (h : ∀ f, s.mate.hbAt = some f → 8192 ≤ s.sinceFrame f) : s.hbLate = true := by
  unfold State.hbLate
  split
  · next f hf => exact decide_eq_true (h f hf)
  · rfl

theorem exec_conflictTimeout {s : State} (h1 : s.flag R.MAT_STAT_CONFLICT = true) (h2 : s.hbLate = true) :
    exec .sideConflictTimeout s = .next (s.setFlag R.MAT_STAT_CONFLICT 0 false) :=
  congrArg Host.Outcome.next (if_pos (Bool.and_eq_true_iff.mpr ⟨h1, h2⟩))

/-- JSENT has named a record that this device has not acknowledged. -/
def State.jsentAhead (s : State) : Bool :=
  match s.jsentNamed with
  | some j => frameLater j (s.fld R.MAT_JACK_VALUE)
  | none => false

theorem State.jsentAhead_of {s : State} {j : Nat} (h1 : s.jsentNamed = some j) (h2 : frameLater j (s.fld R.MAT_JACK_VALUE) = true) :
    s.jsentAhead = true := by
  unfold State.jsentAhead
  rw [h1]
  exact h2

theorem exec_journalGap {s : State} (h1 : s.isStandby = true) (h2 : s.mate.installed = true) (h3 : s.jsentAhead = true) : exec .journalGap s = .next (
      if s.mateState = mateReady then (s.setFlag R.MAT_NREADY_JOURNAL 0 true).mateJoin false true else s.setFlag R.MAT_NREADY_JOURNAL 0 true) :=
  congrArg Host.Outcome.next (if_pos (Bool.and_eq_true_iff.mpr ⟨Bool.and_eq_true_iff.mpr ⟨h1, h2⟩, h3⟩))

theorem exec_deviceFail {s : State} {why : FailCause} (h : s.failsFor why = true) : exec (.deviceFail why) s = .next s.failDevice :=
  congrArg Host.Outcome.next (if_pos h)

theorem exec_deviceFail_not {s : State} {why : FailCause} (h : s.paired = false ∨ s.failsFor why = false) : exec (.deviceFail why) s = .next s := by
  refine congrArg Host.Outcome.next ?_
  split
  · next hf =>
    obtain hp | hn := h
    · exact State.failDevice_same (.inl hp)
    · exact absurd hf (by rw [hn]; exact Bool.false_ne_true)
  · rfl

/-- Settles O51, event by event: each ends in `mateTo`, `mateJoin` or `failDevice`, or leaves the state register alone. -/
theorem mateStates : Obligations.MateStates := by
  unfold Obligations.MateStates
  intro s
  refine ⟨?_, ?_, ?_, ?_, ?_, ?_, ?_, ?_, ?_, ?_⟩
  · intro lvl c hp hn
    have hlit : ∀ {f : Fld}, f.id ≠ R.MAT_STAT_ARB_IN.id → (s.arbSeen lvl c).fld f 0 = s.fld f 0 := fun h => State.arbSeen_fld h
    have hstate : (s.arbSeen lvl c).mateState = s.mateState := hlit (f := R.MAT_STAT_STATE) (by decide)
    have hjudged : ∀ {f : Fld}, f.id ≠ R.MAT_EVT.id → (if lvl then s.arbSeen lvl c else (s.arbSeen lvl c).arbFault).fld f 0 = (s.arbSeen lvl c).fld f 0 := by
      intro f h
      split
      · rfl
      · exact State.fld_latchIf_ne (s.arbSeen lvl c) _ R.MAT_EVT_ARB_FAULT 0 0 h
    have hjstate := (hjudged (f := R.MAT_STAT_STATE) (by decide)).trans hstate
    refine ⟨_, exec_arbChange hp hn, ?_, ?_, ?_, ?_⟩
    · refine (State.flag_of_fld (State.fld_waitSees _ _ (by decide))).trans ?_
      exact (State.flag_of_fld (hjudged (by decide))).trans (s.arbSeen_arb lvl c)
    · rintro rfl hw hphase hconf
      have hjoin : (s.arbSeen true c).waitSees = (s.arbSeen true c).mateJoin false false :=
        State.waitSees_joins (hstate.trans hw) ((hlit (f := R.IMG_RAISE_PHASE) (by decide)).trans hphase)
          ((State.flag_of_fld (hlit (by decide))).trans hconf) (s.arbSeen_arb true c)
      have hne : (s.arbSeen true c).mateState ≠ mateJoining := by
        rw [hstate, hw]
        decide
      show (s.arbSeen true c).waitSees.enteredMate mateJoining
      rw [hjoin]
      exact State.mateJoin_enters hne false false
    · intro hne
      exact (congrArg State.mateState (State.waitSees_idle (fun h => hne (hjstate.symm.trans h)))).trans hjstate
    · rintro rfl hstandby hok hvalid hpeer hhealthy
      have hfault : (s.arbSeen false c).arbFault.latched R.MAT_EVT_ARB_FAULT = true := State.arbFault_latched
        ((State.standby_of_state hstate).trans hstandby) (s.arbSeen_arb false c) ((State.flag_of_fld (hlit (by decide))).trans hok)
        ((State.flag_of_fld (hlit (by decide))).trans hvalid) ((hlit (by decide)).trans hpeer) ((State.flag_of_fld (hlit (by decide))).trans hhealthy)
      have hidle : (s.arbSeen false c).arbFault.waitSees = (s.arbSeen false c).arbFault :=
        State.waitSees_idle (fun h => State.standby_not_wait hstandby (hjstate.symm.trans h))
      show (s.arbSeen false c).arbFault.waitSees.latched R.MAT_EVT_ARB_FAULT = true
      rw [hidle]
      exact hfault
  · intro lvl c hn
    exact ⟨_, exec_arbChange_near hn, rfl, rfl⟩
  · intro h1 h2 h3
    refine ⟨?_, ?_, ?_⟩
    · intro hc ha hb
      have hblind : s.waitSees = s := State.waitSees_blind (.inr ⟨ha, hb⟩)
      have hne : s.mateState ≠ mateAlone := by rw [h1]; decide
      exact ⟨_, exec_startupWaitExpiry_alone h1 h2 h3 hblind (by rw [hc]; rfl), State.mateTo_enters hne (by decide)⟩
    · intro hc hs
      exact ⟨_, exec_startupWaitExpiry_waits h1 h2 h3 (State.waitSees_blind (.inl hc)) (by rw [hc, hs]; rfl), h1⟩
    · intro hc hs
      have hne : s.mateState ≠ mateAlone := by rw [h1]; decide
      exact ⟨_, exec_startupWaitExpiry_alone h1 h2 h3 (State.waitSees_blind (.inl hc)) (by rw [hs, Bool.and_false]), State.mateTo_enters hne (by decide)⟩
  · intro hp hc
    have hstate : s.hbLost.mateState = s.mateState := State.fld_setFlag_ne _ _ _ _ (by decide)
    have hlost : s.hbLost.flag R.MAT_STAT_HB_OK = false := State.flag_setFlag_self _ _ _ _ (by decide)
    by_cases ha : s.mateState = mateActive
    · have hne : s.hbLost.mateState ≠ mateAlone := by rw [hstate, ha]; decide
      refine ⟨_, (exec_heartbeatLoss hp hc).trans (congrArg Host.Outcome.next (if_pos (hstate.trans ha))), ?_,
        fun _ => State.mateTo_enters hne (by decide), fun hn => absurd ha hn⟩
      exact (State.flag_of_fld (State.fld_mateTo _ _ _ (by decide))).trans hlost
    · refine ⟨_, (exec_heartbeatLoss hp hc).trans (congrArg Host.Outcome.next (if_neg (fun hx => ha (hstate.symm.trans hx)))), hlost,
        fun hx => absurd hx ha, fun _ => hstate⟩
  · intro h1 h2 h3
    have hne : s.mateState ≠ mateIsolated := by rcases h1 with h | h <;> rw [h] <;> decide
    exact ⟨_, exec_isolate h1 h2 h3, State.mateTo_enters hne (by decide)⟩
  · intro h1 h2
    exact ⟨_, exec_conflictTimeout h1 (State.hbLate_of h2), State.flag_setFlag_self _ _ _ _ (by decide), State.fld_setFlag_ne _ _ _ _ (by decide)⟩
  · intro h
    exact ⟨_, exec_standbyReady s, State.readied_spec h⟩
  · intro h1 h2
    have hne : s.showNready.mateState ≠ mateJoining := by
      rw [show s.showNready.mateState = s.mateState from State.fld_showNready s (fq := R.MAT_STAT_STATE) 0 (by decide), h1]
      decide
    exact ⟨_, exec_standbyUnready h1 h2, State.mateJoin_enters hne _ _, State.mateJoin_kept _ _ _, State.mateJoin_installed _ _ _⟩
  · intro j h1 h2 h3 h4
    have hjournal : (s.setFlag R.MAT_NREADY_JOURNAL 0 true).flag R.MAT_NREADY_JOURNAL = true := State.flag_setFlag_self _ _ _ _ (by decide)
    have hstate : (s.setFlag R.MAT_NREADY_JOURNAL 0 true).mateState = s.mateState := State.fld_setFlag_ne _ _ _ _ (by decide)
    by_cases hr : s.mateState = mateReady
    · have hne : (s.setFlag R.MAT_NREADY_JOURNAL 0 true).mateState ≠ mateJoining := by rw [hstate, hr]; decide
      refine ⟨_, (exec_journalGap h1 h2 (State.jsentAhead_of h3 h4)).trans (congrArg Host.Outcome.next (if_pos hr)), ?_,
        fun _ => ⟨State.mateJoin_enters hne _ _, State.mateJoin_kept _ _ _⟩, fun hn => absurd hr hn⟩
      exact (State.flag_of_fld (State.fld_mateJoin _ _ _ _ (by decide))).trans hjournal
    · exact ⟨_, (exec_journalGap h1 h2 (State.jsentAhead_of h3 h4)).trans (congrArg Host.Outcome.next (if_neg hr)), hjournal, fun hx => absurd hx hr, fun _ => hstate⟩
  · intro why
    refine ⟨fun hp hf => ⟨_, exec_deviceFail hf, State.failDevice_spec hp⟩, fun h => ⟨_, exec_deviceFail_not h, rfl⟩⟩

end Sys2Proof.Machine
end

section
/-! Heartbeats, for O52 and O53 (R300, R302, R303, R308). -/

namespace Sys2Proof.Machine

/-! ### The fields of a heartbeat -/

/-- The registers that a heartbeat with first word `w0` sets. -/
def State.hbShown (s : State) (w0 : Nat) : State :=
  (((((s.setFlag R.MAT_STAT_HB_OK 0 true).setFld R.MAT_PEER_STATE 0 (bits w0 20 4)).setFld R.MAT_PEER_SIDE 0 (bit w0 19)).setFld
    R.MAT_PEER_HEALTHY 0 (bit w0 18)).setFld R.MAT_PEER_KEPT 0 (bit w0 17)).setFlag R.MAT_PEER_VALID 0 true

theorem State.countJournal_fld {s : State} {f : Fld} (h : f.id ≠ R.MAT_JFILL_UNITS.id) : s.countJournal.fld f 0 = s.fld f 0 :=
  State.fld_setFld_ne _ _ _ _ h

/-- What a heartbeat stands for in the mate unit, as far as it is the same whatever its state. -/
def Mate.heard (m : Mate) : Option Nat × Nat × List JRec × Option Takeover := (m.hbAt, m.peerFrame, m.journal, m.take)

theorem State.hbFields_eq (s : State) (p : List Nat) : ∃ g : Mate → Mate, (∀ m : Mate, (g m).heard = (some s.frame, p.getD 1 0,
      m.journal.filter (fun r => frameLater r.seq (p.getD 3 0)), m.take))
    ∧ s.hbFields p = (((s.hbShown (p.getD 0 0)).updMate g).countJournal).latchIf ((s.hbShown (p.getD 0 0)).updMate g).mate.seedBad
        R.MAT_EVT_SEED_MISMATCH :=
  ⟨_, fun _ => rfl, rfl⟩

theorem State.hbFields_fld {s : State} {p : List Nat} {f : Fld} (h1 : f.id ≠ R.MAT_EVT.id) (h2 : f.id ≠ R.MAT_JFILL_UNITS.id) :
    (s.hbFields p).fld f 0 = (s.hbShown (p.getD 0 0)).fld f 0 := by
  obtain ⟨g, -, h⟩ := s.hbFields_eq p
  rw [h]
  exact (State.fld_latchIf_ne _ _ R.MAT_EVT_SEED_MISMATCH 0 0 h1).trans (State.countJournal_fld h2)

theorem State.hbShown_mate (s : State) (w0 : Nat) : (s.hbShown w0).mate = s.mate := rfl

theorem State.hbFields_heard (s : State) (p : List Nat) : (s.hbFields p).mate.heard = (some s.frame, p.getD 1 0,
    s.mate.journal.filter (fun r => frameLater r.seq (p.getD 3 0)), s.mate.take) := by
  obtain ⟨g, hg, h⟩ := s.hbFields_eq p
  rw [h, State.latchIf_mate]
  exact hg s.mate

theorem State.hbGrain_cases (s : State) : ∃ g : Mate → Mate, (∀ m, (g m).heard = m.heard) ∧ s.hbGrain = s.updMate g := by
  unfold State.hbGrain
  dsimp only
  split
  · exact ⟨id, fun _ => rfl, rfl⟩
  · refine ⟨_, ?_, rfl⟩
    exact fun _ => rfl

/-- The state once the heartbeat `p` is noted. -/
def State.hbNoted (s : State) (p : List Nat) : State := (s.hbFields p).hbGrain

theorem State.hbNoted_fld {s : State} {p : List Nat} {f : Fld} (h1 : f.id ≠ R.MAT_EVT.id) (h2 : f.id ≠ R.MAT_JFILL_UNITS.id) :
    (s.hbNoted p).fld f 0 = (s.hbShown (p.getD 0 0)).fld f 0 := by
  obtain ⟨g, -, h⟩ := (s.hbFields p).hbGrain_cases
  unfold State.hbNoted
  rw [h]
  exact State.hbFields_fld h1 h2

theorem State.hbNoted_heard (s : State) (p : List Nat) : (s.hbNoted p).mate.heard = (some s.frame, p.getD 1 0,
    s.mate.journal.filter (fun r => frameLater r.seq (p.getD 3 0)), s.mate.take) := by
  obtain ⟨g, hg, h⟩ := (s.hbFields p).hbGrain_cases
  unfold State.hbNoted
  rw [h]
  exact (hg _).trans (s.hbFields_heard p)

theorem bit_lt (x k : Nat) : bit x k < 2 := Nat.mod_lt _ (by decide)

/-- The registers of a noted heartbeat. -/
theorem State.hbNoted_shows (s : State) (p : List Nat) : (s.hbNoted p).flag R.MAT_STAT_HB_OK = true ∧ (s.hbNoted p).flag R.MAT_PEER_VALID = true
    ∧ (s.hbNoted p).fld R.MAT_PEER_STATE 0 = bits (p.getD 0 0) 20 4 ∧ (s.hbNoted p).fld R.MAT_PEER_SIDE 0 = bit (p.getD 0 0) 19 := by
  refine ⟨(State.flag_of_fld (State.hbNoted_fld (by decide) (by decide))).trans ?_,
    (State.flag_of_fld (State.hbNoted_fld (by decide) (by decide))).trans (State.flag_setFlag_self _ _ _ _ (by decide)),
    (State.hbNoted_fld (by decide) (by decide)).trans ?_, (State.hbNoted_fld (by decide) (by decide)).trans ?_⟩
  · refine (State.flag_setFlag_ne _ _ _ _ (by decide)).trans ?_
    simp (disch := decide) only [State.flag_setFld_ne]
    exact State.flag_setFlag_self _ _ _ _ (by decide)
  · refine (State.fld_setFlag_ne _ _ _ _ (by decide)).trans ?_
    simp (disch := decide) only [State.fld_setFld_ne, State.fld_setFld_self]
    exact Nat.mod_eq_of_lt (bits_lt _ _ _)
  · refine (State.fld_setFlag_ne _ _ _ _ (by decide)).trans ?_
    simp (disch := decide) only [State.fld_setFld_ne, State.fld_setFld_self]
    exact Nat.mod_eq_of_lt (bit_lt _ _)

theorem State.hbNoted_kept {s : State} {p : List Nat} {f : Fld} (h : regOk 0x4001f410000000000000000000000000000000000000000000000000000000000000000000000000000000000000000000000000000000000000100000c00 f.id = false) : (s.hbNoted p).fld f 0 = s.fld f 0 :=
  State.hbGrain_k (K := fun t => t.fld f 0 = s.fld f 0) ((loose_fld h).mono (by decide))
    (State.hbFields_k (K := fun t => t.fld f 0 = s.fld f 0) (loose_fld h) rfl p)

/-! ### What follows keeps what was heard -/

theorem State.mateTo_heard (s : State) (st : Nat) : (s.mateTo st).mate.heard = s.mate.heard := by
  by_cases h : s.mateState = st
  · rw [State.mateTo_same h]
  · rw [State.mateTo_other h, State.latch_mate]
    rfl

theorem State.matchFrame_heard (s : State) : s.matchFrame.mate.heard = s.mate.heard := by
  obtain ⟨a, b, h⟩ := s.matchFrame_cases
  rw [h]
  rfl

theorem State.mateJoin_heard (s : State) (kept inst : Bool) : (s.mateJoin kept inst).mate.heard = s.mate.heard :=
  (State.matchFrame_heard _).trans (s.mateTo_heard mateJoining)

theorem State.hbDual_heard (s : State) : s.hbDual.mate.heard = s.mate.heard := by
  unfold State.hbDual
  dsimp only
  split
  · rw [State.latch_mate]
    rfl
  · rfl

theorem State.waitSees_heard (s : State) : s.waitSees.mate.heard = s.mate.heard := by
  unfold State.waitSees
  split
  · exact s.mateJoin_heard false false
  · rfl

theorem State.startEpoch_heard (s : State) (e : Nat) (inbound : Bool) : (s.startEpoch e inbound).mate.heard = s.mate.heard := rfl

theorem State.loseTrack_heard (s : State) : s.loseTrack.mate.heard = s.mate.heard := rfl

/-! ### The conflict -/

theorem State.hbConflict_other {s : State} (h : s.fld R.MAT_PEER_SIDE ≠ s.fld R.MAT_STAT_SIDE) : s.hbConflict = s.setFlag R.MAT_STAT_CONFLICT 0 false :=
  if_pos h

/-- A conflict is shown. -/
def State.conflicting (s : State) : State := (s.setFlag R.MAT_STAT_CONFLICT 0 true).latch R.MAT_EVT_SIDE_CONFLICT

theorem State.hbConflict_same {s : State} (h : s.fld R.MAT_PEER_SIDE = s.fld R.MAT_STAT_SIDE) : s.hbConflict =
    if s.conflicting.higherSerial then
      (if s.conflicting.mateState = mateFailed then s.conflicting else s.conflicting.updMate (fun m => { m with atTick := some mateWait }))
    else if s.conflicting.mateState = mateActive then s.conflicting.mateTo mateAlone else s.conflicting := if_neg (fun hn => hn h)

theorem State.conflicting_shows (s : State) : s.conflicting.flag R.MAT_STAT_CONFLICT = true ∧ s.conflicting.latched R.MAT_EVT_SIDE_CONFLICT = true :=
  ⟨(State.flag_of_fld (State.fld_latch_ne (s.setFlag R.MAT_STAT_CONFLICT 0 true) R.MAT_EVT_SIDE_CONFLICT 0 0 (by decide))).trans
    (State.flag_setFlag_self _ _ _ _ (by decide)), State.latched_latch _ _ _ (by decide)⟩

theorem State.conflicting_heard (s : State) : s.conflicting.mate.heard = s.mate.heard := congrArg Mate.heard (State.latch_mate _ _ _)

theorem State.mateTo_latched {s : State} {e : Ev} (h : s.latched e = true) (hreg : R.MAT_EVT = e.reg) (hbit : e.bit < e.reg.width) (st : Nat) :
    (s.mateTo st).latched e = true := by
  by_cases hst : s.mateState = st
  · rw [State.mateTo_same hst]
    exact h
  · have hentering : (s.entering st).latched e = true := by
      refine State.latched_of_fld (s := s) ?_ h
      have hne : ∀ g : Fld, g.id ≠ R.MAT_EVT.id → e.reg.id ≠ g.id := fun g hg => hreg ▸ hg.symm
      exact (State.fld_setFlag_ne _ _ _ _ (hne _ (by decide))).trans ((State.fld_setFlag_ne _ _ _ _ (hne _ (by decide))).trans
        (State.fld_setFld_ne _ _ _ _ (hne _ (by decide))))
    rw [State.mateTo_other hst]
    exact State.latched_latch_of_latched hentering hbit hreg 0

theorem State.hbConflict_spec {s : State} (h : s.fld R.MAT_PEER_SIDE = s.fld R.MAT_STAT_SIDE) :
    s.hbConflict.flag R.MAT_STAT_CONFLICT = true ∧ s.hbConflict.latched R.MAT_EVT_SIDE_CONFLICT = true := by
  obtain ⟨hconf, hevt⟩ := s.conflicting_shows
  rw [State.hbConflict_same h]
  split
  · split
    · exact ⟨hconf, hevt⟩
    · exact ⟨hconf, hevt⟩
  · split
    · exact ⟨(State.flag_of_fld (State.fld_mateTo _ _ _ (by decide))).trans hconf, State.mateTo_latched hevt rfl (by decide) mateAlone⟩
    · exact ⟨hconf, hevt⟩

theorem State.hbConflict_heard (s : State) : s.hbConflict.mate.heard = s.mate.heard := by
  by_cases h : s.fld R.MAT_PEER_SIDE = s.fld R.MAT_STAT_SIDE
  · rw [State.hbConflict_same h]
    split
    · split
      · exact s.conflicting_heard
      · exact s.conflicting_heard
    · split
      · exact (State.mateTo_heard _ _).trans s.conflicting_heard
      · exact s.conflicting_heard
  · rw [State.hbConflict_other h]
    rfl

/-! ### The state outside a conflict -/

/-- An active device with an active mate. -/
def State.hbBoth (s : State) : State := (if s.mateState = mateActive then s.mateTo mateAlone else s).hbDual

/-- An active device whose mate is not active. -/
def State.hbLone (s : State) : State :=
  let ready := s.fld R.MAT_PEER_STATE == mateReady
  let s1 := (if ready && s.fld R.MAT_COPY_PHASE == 3 then s.setFld R.MAT_COPY_PHASE 0 0 else s).updMate (fun m => { m with dual := 0 })
  if s.mateState = mateAlone && ready then s1.mateTo mateActive
  else if s.mateState = mateActive && !ready then s1.mateTo mateAlone else s1

theorem State.hbState_eq (s : State) : s.hbState = if s.isActive then (if s.peerActive && s.beforeTake then s else if s.peerActive then s.hbBoth else s.hbLone)
    else if s.mateState = mateIsolated then s.mateJoin false s.mate.installed else s.waitSees.arbFault := rfl

theorem State.hbBoth_heard (s : State) : s.hbBoth.mate.heard = s.mate.heard := by
  refine (State.hbDual_heard _).trans ?_
  split
  · exact s.mateTo_heard _
  · rfl

/-- The replay that has caught up ends, and the edits of both are no longer counted. -/
def State.hbCaught (s : State) : State :=
  (if s.fld R.MAT_PEER_STATE == mateReady && s.fld R.MAT_COPY_PHASE == 3 then s.setFld R.MAT_COPY_PHASE 0 0 else s).updMate (fun m => { m with dual := 0 })

theorem State.hbCaught_heard (s : State) : s.hbCaught.mate.heard = s.mate.heard := by
  unfold State.hbCaught
  split <;> rfl

theorem State.hbCaught_state (s : State) : s.hbCaught.mateState = s.mateState := by
  unfold State.hbCaught
  split
  · exact State.fld_setFld_ne _ _ _ _ (by decide)
  · rfl

theorem State.hbLone_eq (s : State) : s.hbLone = if s.mateState = mateAlone && s.fld R.MAT_PEER_STATE == mateReady then s.hbCaught.mateTo mateActive
    else if s.mateState = mateActive && !(s.fld R.MAT_PEER_STATE == mateReady) then s.hbCaught.mateTo mateAlone else s.hbCaught := rfl

theorem State.hbLone_heard (s : State) : s.hbLone.mate.heard = s.mate.heard := by
  rw [State.hbLone_eq]
  split
  · exact (State.mateTo_heard _ _).trans s.hbCaught_heard
  · split
    · exact (State.mateTo_heard _ _).trans s.hbCaught_heard
    · exact s.hbCaught_heard

theorem State.arbFault_mate (s : State) : s.arbFault.mate = s.mate := State.latchIf_mate _ _ _ _

theorem State.hbState_heard (s : State) : s.hbState.mate.heard = s.mate.heard := by
  rw [State.hbState_eq]
  split
  · split
    · rfl
    · split
      · exact s.hbBoth_heard
      · exact s.hbLone_heard
  · split
    · exact s.mateJoin_heard _ _
    · rw [State.arbFault_mate]
      exact s.waitSees_heard

/-! ### The whole heartbeat -/

/-- What a heartbeat does outside a conflict. -/
def State.hbMoved (s : State) : State := (s.hbState.matchFrame).loseTrack

/-- A copy that is wanted starts. -/
def State.hbCopies (s : State) : State := if s.mate.want && s.copyable then s.startEpoch 0 false else s

/-- A heartbeat that is good with payloads, or is not. -/
def State.hbTaken (s : State) : Option (List Nat) → State
  | none => s
  | some p => if (s.hbNoted p).hbConflict.flag R.MAT_STAT_CONFLICT then (s.hbNoted p).hbConflict else (s.hbNoted p).hbConflict.hbMoved.hbCopies

theorem exec_heartbeatRx {s : State} {l : Fin 8} {ws : List SlotWord} (hp : s.paired = true) {o : Option (List Nat)}
    (hg : s.goodHeartbeat l (ws.map BitVec.toNat) = o) : exec (.heartbeatRx l ws) s = .next (s.hbTaken o) := by
  have hpaired : (!s.paired) = false := by rw [hp]; rfl
  show execHeartbeatRx l ws s = _
  unfold execHeartbeatRx
  rw [hg, if_neg (Bool.eq_false_iff.mp hpaired)]
  cases o with
  | none => rfl
  | some p =>
    unfold State.hbTaken State.hbNoted State.hbMoved State.hbCopies
    dsimp only

theorem exec_heartbeatRx_bad {s : State} {l : Fin 8} {ws : List SlotWord} (hg : s.goodHeartbeat l (ws.map BitVec.toNat) = none) :
    exec (.heartbeatRx l ws) s = .next s := by
  show execHeartbeatRx l ws s = _
  unfold execHeartbeatRx
  rw [hg]
  exact congrArg Host.Outcome.next (ite_self _)

theorem State.hbCopies_heard (s : State) : s.hbCopies.mate.heard = s.mate.heard := by
  unfold State.hbCopies
  split <;> rfl

theorem State.hbMoved_heard (s : State) : s.hbMoved.mate.heard = s.mate.heard :=
  (State.loseTrack_heard _).trans ((State.matchFrame_heard _).trans s.hbState_heard)

theorem State.hbCopies_fld {s : State} {f : Fld} (h : regOk 0x8e000000000000000000000000000000000000000000000000000000000000000000000000000000000000000000000000000000000000000000100000000 f.id = false) : s.hbCopies.fld f 0 = s.fld f 0 := by
  unfold State.hbCopies
  split
  · exact State.fld_startEpoch _ _ _ _ h
  · rfl

theorem State.hbMoved_regs (s : State) : s.hbMoved.regs = s.hbState.regs := State.matchFrame_regs _

/-- What follows a move of the mate state leaves the registers but those of the copy. -/
theorem State.hbMoved_fld {s : State} {f : Fld} (h : regOk 0x8e000000000000000000000000000000000000000000000000000000000000000000000000000000000000000000000000000000000000000000100000000 f.id = false) : s.hbMoved.hbCopies.fld f 0 = s.hbState.fld f 0 := by
  refine (State.hbCopies_fld h).trans ?_
  unfold State.fld
  rw [State.hbMoved_regs]

theorem State.hbMoved_enters {s : State} {st : Nat} (h : s.hbState.enteredMate st) : s.hbMoved.hbCopies.enteredMate st :=
  ⟨(State.hbMoved_fld (f := R.MAT_STAT_STATE) (by decide)).trans h.1, State.latched_of_fld (State.hbMoved_fld (by decide)) h.2⟩

end Sys2Proof.Machine
end

section
/-! O52, heartbeats: what a valid heartbeat shows, frees and does to the mate state (R300, R302, R303, R308). -/

namespace Sys2Proof.Machine

theorem State.hbTaken_some (s : State) (p : List Nat) : s.hbTaken (some p) =
    if (s.hbNoted p).hbConflict.flag R.MAT_STAT_CONFLICT then (s.hbNoted p).hbConflict else (s.hbNoted p).hbConflict.hbMoved.hbCopies := rfl

/-- What follows a move of the mate state keeps what a copy that starts keeps. -/
theorem State.hbMoved_of {K : State → Prop} (hK : Loose 0x8e000000000000000000000000000000000000000000000000000000000000000000000000000000000000000000000000000000000000000000100000000 K) {s : State} (h : K s.hbState) : K s.hbMoved.hbCopies := by
  have hmoved : K s.hbMoved := State.loseTrack_k (hK.mono (by decide)) (State.matchFrame_k (hK.mono (by decide)) h)
  unfold State.hbCopies
  split
  · exact State.startEpoch_k hK hmoved _ _
  · exact hmoved

theorem Mate.of_heard {m : Mate} {a : Option Nat} {b : Nat} {c : List JRec} {d : Option Takeover} (h : m.heard = (a, b, c, d)) :
    m.hbAt = a ∧ m.peerFrame = b ∧ m.journal = c ∧ m.take = d := by
  unfold Mate.heard at h
  simpa using h

/-- The registers that a heartbeat shows stay as it showed them. -/
theorem State.hbTaken_fld (s : State) (p : List Nat) {f : Fld} (h : regOk 0x2008e000629000000000000000000000000000000000000000000000000000000000000000000000000000000000000000000000000000000000000100000c00 f.id = false) :
    (s.hbTaken (some p)).fld f 0 = (s.hbNoted p).fld f 0 := by
  have hK : Loose 0x2008e000629000000000000000000000000000000000000000000000000000000000000000000000000000000000000000000000000000000000000100000c00 (fun t => t.fld f 0 = (s.hbNoted p).fld f 0) := loose_fld h
  have hconflict : (s.hbNoted p).hbConflict.fld f 0 = (s.hbNoted p).fld f 0 :=
    State.hbConflict_k (K := fun t => t.fld f 0 = (s.hbNoted p).fld f 0) (hK.mono (by decide)) rfl
  rw [State.hbTaken_some]
  split
  · exact hconflict
  · have hK' : Loose 0x2008e000429000000000000000000000000000000000000000000000000000000000000000000000000000000000000000000000000000000000000100000c00 (fun t => t.fld f 0 = (s.hbNoted p).fld f 0) := hK.mono (by decide)
    have hmoved : (s.hbNoted p).hbConflict.hbState.fld f 0 = (s.hbNoted p).fld f 0 :=
      State.hbState_k (K := fun t => t.fld f 0 = (s.hbNoted p).fld f 0) (hK.mono (by decide)) hconflict
    exact State.hbMoved_of (hK.mono (by decide)) hmoved

theorem State.hbTaken_heard (s : State) (p : List Nat) : (s.hbTaken (some p)).mate.heard = (some s.frame, p.getD 1 0,
    s.mate.journal.filter (fun r => frameLater r.seq (p.getD 3 0)), s.mate.take) := by
  have hconflict : (s.hbNoted p).hbConflict.mate.heard = _ := (State.hbConflict_heard _).trans (s.hbNoted_heard p)
  rw [State.hbTaken_some]
  split
  · exact hconflict
  · exact (State.hbCopies_heard _).trans ((State.hbMoved_heard _).trans hconflict)

theorem State.hbNoted_side (s : State) (p : List Nat) : (s.hbNoted p).fld R.MAT_STAT_SIDE = s.fld R.MAT_STAT_SIDE := State.hbNoted_kept (by decide)

theorem State.hbTaken_conflict {s : State} {p : List Nat} (h : bit (p.getD 0 0) 19 = s.fld R.MAT_STAT_SIDE) :
    (s.hbTaken (some p)).flag R.MAT_STAT_CONFLICT = true ∧ (s.hbTaken (some p)).latched R.MAT_EVT_SIDE_CONFLICT = true := by
  obtain ⟨-, -, -, hside⟩ := s.hbNoted_shows p
  have hspec := State.hbConflict_spec (s := s.hbNoted p) (hside.trans (h.trans (s.hbNoted_side p).symm))
  rw [State.hbTaken_some, if_pos hspec.1]
  exact hspec

/-- The state once a heartbeat without a conflict is noted. -/
def State.hbClear (s : State) (p : List Nat) : State := (s.hbNoted p).setFlag R.MAT_STAT_CONFLICT 0 false

theorem State.hbClear_fld {s : State} {p : List Nat} {f : Fld} (h : f.id ≠ R.MAT_STAT_CONFLICT.id) : (s.hbClear p).fld f 0 = (s.hbNoted p).fld f 0 :=
  State.fld_setFlag_ne _ _ _ _ h

theorem State.hbClear_state (s : State) (p : List Nat) : (s.hbClear p).mateState = s.mateState :=
  (State.hbClear_fld (f := R.MAT_STAT_STATE) (by decide)).trans (State.hbNoted_kept (by decide))

theorem State.hbClear_peer (s : State) (p : List Nat) : (s.hbClear p).fld R.MAT_PEER_STATE = bits (p.getD 0 0) 20 4 :=
  (State.hbClear_fld (by decide)).trans (s.hbNoted_shows p).2.2.1

theorem State.hbTaken_clear {s : State} {p : List Nat} (h : bit (p.getD 0 0) 19 ≠ s.fld R.MAT_STAT_SIDE) :
    s.hbTaken (some p) = (s.hbClear p).hbMoved.hbCopies := by
  obtain ⟨-, -, -, hside⟩ := s.hbNoted_shows p
  have hother : (s.hbNoted p).hbConflict = s.hbClear p := by
    refine State.hbConflict_other (fun he => h ?_)
    exact hside.symm.trans (he.trans (s.hbNoted_side p))
  have hflag : (s.hbClear p).flag R.MAT_STAT_CONFLICT = false := State.flag_setFlag_self _ _ _ _ (by decide)
  rw [State.hbTaken_some, hother, if_neg (Bool.eq_false_iff.mp hflag)]

/-! ### The mate state -/

theorem State.isActive_of {s : State} (h : s.mateState = mateAlone ∨ s.mateState = mateActive) : s.isActive = true := by
  unfold State.isActive
  rcases h with h | h <;> rw [h] <;> rfl

theorem State.hbDual_fld {s : State} {f : Fld} (h1 : f.id ≠ R.MAT_EVT.id) (h2 : f.id ≠ R.MAT_GAP_EDITS_UNITS.id) : s.hbDual.fld f 0 = s.fld f 0 := by
  unfold State.hbDual
  dsimp only
  split
  · exact (State.fld_latch_ne ((s.setFld R.MAT_GAP_EDITS_UNITS 0 (min (2 ^ 27 - 1) s.mate.dual)).updMate (fun m => { m with atTick := some mateJoining }))
      R.MAT_EVT_DUAL_ACTIVE 0 0 h1).trans (State.fld_setFld_ne _ _ _ _ h2)
  · rfl

theorem State.hbDual_latched {s : State} (h : s.latched R.MAT_EVT_STATE_CHANGE = true) : s.hbDual.latched R.MAT_EVT_STATE_CHANGE = true := by
  unfold State.hbDual
  dsimp only
  split
  · refine State.latched_latch_of_latched (s := (s.setFld R.MAT_GAP_EDITS_UNITS 0 (min (2 ^ 27 - 1) s.mate.dual)).updMate
      (fun m => { m with atTick := some mateJoining })) (e := R.MAT_EVT_STATE_CHANGE) (e' := R.MAT_EVT_DUAL_ACTIVE) ?_ (by decide) rfl 0
    exact State.latched_of_fld (State.fld_setFld_ne _ _ _ _ (by decide)) h
  · exact h

theorem State.hbBoth_enters {s : State} (h : s.mateState = mateActive) : s.hbBoth.enteredMate mateAlone := by
  have hne : s.mateState ≠ mateAlone := by rw [h]; decide
  obtain ⟨hstate, hlatched⟩ := State.mateTo_enters hne (by decide)
  unfold State.hbBoth
  rw [if_pos h]
  exact ⟨(State.hbDual_fld (f := R.MAT_STAT_STATE) (by decide) (by decide)).trans hstate, State.hbDual_latched hlatched⟩

/-- An active device whose mate is not READY is ALONE. -/
theorem State.hbState_lone {s : State} (h : s.mateState = mateActive) (hpeer : s.fld R.MAT_PEER_STATE ≠ mateReady)
    (hbefore : s.beforeTake = false) : s.hbState.enteredMate mateAlone := by
  rw [State.hbState_eq, if_pos (State.isActive_of (.inr h)), hbefore, Bool.and_false, if_neg Bool.false_ne_true]
  split
  · exact State.hbBoth_enters h
  · have hready : (s.fld R.MAT_PEER_STATE == mateReady) = false := beq_eq_false_iff_ne.mpr hpeer
    have hne : s.hbCaught.mateState ≠ mateAlone := by rw [State.hbCaught_state, h]; decide
    rw [State.hbLone_eq, hready, h, if_neg (by decide), if_pos (by decide)]
    exact State.mateTo_enters hne (by decide)

theorem State.hbState_paired {s : State} (h : s.mateState = mateAlone) (hpeer : s.fld R.MAT_PEER_STATE = mateReady) :
    s.hbState.enteredMate mateActive := by
  have hactive : s.peerActive = false := by
    unfold State.peerActive
    rw [hpeer]
    exact Bool.and_false _
  have hne : s.hbCaught.mateState ≠ mateActive := by rw [State.hbCaught_state, h]; decide
  rw [State.hbState_eq, if_pos (State.isActive_of (.inl h)), hactive, Bool.false_and, if_neg Bool.false_ne_true, if_neg Bool.false_ne_true,
    State.hbLone_eq, hpeer, h, if_pos (by decide)]
  exact State.mateTo_enters hne (by decide)

theorem State.hbState_isolated {s : State} (h : s.mateState = mateIsolated) : s.hbState.enteredMate mateJoining := by
  have hactive : s.isActive = false := by
    unfold State.isActive
    rw [h]
    rfl
  have hne : s.mateState ≠ mateJoining := by rw [h]; decide
  rw [State.hbState_eq, hactive, if_neg Bool.false_ne_true, if_pos h]
  exact State.mateJoin_enters hne _ _

theorem State.beforeTake_of {s : State} (h : ∀ k, s.mate.take = some k → k.mine = true → k.done = true → frameLater k.t s.mate.peerFrame = false) :
    s.beforeTake = false := by
  unfold State.beforeTake
  split
  · next k hk =>
    refine Bool.eq_false_iff.mpr (fun ht => ?_)
    rw [Bool.and_eq_true, Bool.and_eq_true] at ht
    obtain ⟨⟨hm, hd⟩, hlater⟩ := ht
    exact Bool.false_ne_true ((h k hk hm hd).symm.trans hlater)
  · rfl

/-- Of O52, the clause about heartbeats. -/
theorem State.hbTaken_spec (s : State) (p : List Nat) : (s.hbTaken (some p)).flag R.MAT_STAT_HB_OK = true ∧ (s.hbTaken (some p)).flag R.MAT_PEER_VALID = true
    ∧ (s.hbTaken (some p)).fld R.MAT_PEER_STATE = bits (p.getD 0 0) 20 4 ∧ (s.hbTaken (some p)).mate.hbAt = some s.frame
    ∧ (s.hbTaken (some p)).mate.peerFrame = p.getD 1 0
    ∧ (s.hbTaken (some p)).mate.journal = s.mate.journal.filter (fun r => frameLater r.seq (p.getD 3 0)) := by
  obtain ⟨hok, hvalid, hpeer, -⟩ := s.hbNoted_shows p
  obtain ⟨hat, hframe, hjournal, -⟩ := Mate.of_heard (s.hbTaken_heard p)
  exact ⟨(State.flag_of_fld (s.hbTaken_fld p (by decide))).trans hok, (State.flag_of_fld (s.hbTaken_fld p (by decide))).trans hvalid,
    (s.hbTaken_fld p (by decide)).trans hpeer, hat, hframe, hjournal⟩

/-- Of O52, the clause about heartbeats outside a conflict. -/
theorem State.hbTaken_outside {s : State} {p : List Nat} (h : bit (p.getD 0 0) 19 ≠ s.fld R.MAT_STAT_SIDE) :
    (s.hbTaken (some p)).flag R.MAT_STAT_CONFLICT = false
    ∧ (s.mateState = mateActive → bits (p.getD 0 0) 20 4 ≠ mateReady →
        (∀ k, s.mate.take = some k → k.mine = true → k.done = true → frameLater k.t (p.getD 1 0) = false) → (s.hbTaken (some p)).enteredMate mateAlone)
    ∧ (s.mateState = mateAlone → bits (p.getD 0 0) 20 4 = mateReady → (s.hbTaken (some p)).enteredMate mateActive)
    ∧ (s.mateState = mateIsolated → (s.hbTaken (some p)).enteredMate mateJoining) := by
  obtain ⟨-, hframe, -, htakes⟩ := Mate.of_heard (m := (s.hbClear p).mate) (s.hbNoted_heard p)
  rw [State.hbTaken_clear h]
  refine ⟨?_, ?_, ?_, ?_⟩
  · refine (State.flag_of_fld ((State.hbMoved_fld (by decide)).trans (State.fld_hbState _ _ (by decide)))).trans ?_
    exact State.flag_setFlag_self _ _ _ _ (by decide)
  · intro hactive hpeer htake
    refine State.hbMoved_enters (State.hbState_lone ((s.hbClear_state p).trans hactive) ?_ (State.beforeTake_of ?_))
    · rw [State.hbClear_peer]
      exact hpeer
    · intro k hk hm hd
      rw [hframe]
      exact htake k (htakes.symm.trans hk) hm hd
  · intro halone hpeer
    exact State.hbMoved_enters (State.hbState_paired ((s.hbClear_state p).trans halone) ((s.hbClear_peer p).trans hpeer))
  · intro hisolated
    exact State.hbMoved_enters (State.hbState_isolated ((s.hbClear_state p).trans hisolated))

end Sys2Proof.Machine
end

section
/-! O52, the journal on a standby: records held, acknowledged and taken (R309 to R312). -/

namespace Sys2Proof.Machine

/-! ### A record that arrives -/

/-- The record `r` is held, and JACK follows. -/
def State.holding (s : State) (r : JRec) : State := (s.storeUnits (r.header :: r.units)).updMate (fun m => { m with recv := insertRec r m.recv })

def State.recorded (s : State) (r : JRec) : State :=
  (s.holding r).setFld R.MAT_JACK_VALUE 0 (ackOf ((s.holding r).fld R.MAT_JACK_VALUE) (s.holding r).mate.recv)

theorem State.receive_eq (s : State) (kind : Nat) (g : JournalMsg) : s.receive kind g =
    if !s.isStandby || s.flag R.MAT_STAT_CONFLICT || s.mate.recv.any (·.seq == g.seq.toNat)
        || (s.mate.installed && !frameLater g.seq.toNat (s.fld R.MAT_JACK_VALUE)) then s
    else (s.recorded (msgRecord g kind)).drain false := rfl

theorem State.receive_taken {s : State} {g : JournalMsg} (h : s.wantsRec g.seq.toNat) (kind : Nat) :
    s.receive kind g = (s.recorded (msgRecord g kind)).drain false := by
  obtain ⟨hstandby, hconf, hnew, hlater⟩ := h
  rw [State.receive_eq, hstandby, hconf, hnew]
  refine if_neg ?_
  cases hi : s.mate.installed
  · exact Bool.false_ne_true
  · rw [hlater hi]
    exact Bool.false_ne_true

theorem State.receive_active {s : State} (h : s.isStandby = false) (kind : Nat) (g : JournalMsg) : s.receive kind g = s := by
  rw [State.receive_eq, h]
  exact if_pos rfl

theorem State.receive_again {s : State} {g : JournalMsg} (h : s.mate.recv.any (·.seq == g.seq.toNat) = true) (kind : Nat) : s.receive kind g = s := by
  rw [State.receive_eq, h]
  refine if_pos ?_
  rw [Bool.or_true, Bool.true_or]

theorem State.storeUnits_mate (s : State) (units : List (List Nat)) : ∃ j, (s.storeUnits units).mate = { s.mate with jUnit := j } := by
  have hwrite : ∀ (u : State) (a : Nat) (l : List (BitVec 8)), (u.writeBytes a l).mate = u.mate := fun u a l =>
    State.writeBytes_k (K := fun t => Part.same u t .mate) (loose_part u .mate (by decide) (by decide) (by decide)) rfl a l
  refine foldl_k (K := fun t => ∃ j, t.mate = { s.mate with jUnit := j }) _ units ⟨s.mate.jUnit, rfl⟩ ?_
  rintro t u ⟨j, hj⟩
  refine ⟨(j + 1) % journalUnits, ?_⟩
  dsimp only
  split
  · rw [hj]
  · rw [hwrite, hj]

theorem State.holding_mate (s : State) (r : JRec) : ∃ j, (s.holding r).mate = { s.mate with jUnit := j, recv := insertRec r s.mate.recv } := by
  obtain ⟨j, hj⟩ := s.storeUnits_mate (r.header :: r.units)
  refine ⟨j, ?_⟩
  unfold State.holding State.updMate
  dsimp only
  rw [hj]

theorem State.holding_fld (s : State) (r : JRec) (f : Fld) : (s.holding r).fld f 0 = s.fld f 0 := by
  refine State.fld_storeUnits s _ 0 ?_
  exact Nat.testBit_lt_two_pow (Nat.lt_of_lt_of_le (by decide) (Nat.pow_le_pow_right (by decide) (Nat.le_add_right 64 f.id)))

theorem State.recorded_of {K : State → Prop} (hK : Loose 0x100000100000000 K) {s : State} (h : K s) (r : JRec) : K (s.holding r) :=
  State.updMate_k (hK.mono (by decide)) (State.storeUnits_k hK h _) _

theorem State.recorded_recv (s : State) (r : JRec) : (s.recorded r).mate.recv = insertRec r s.mate.recv := by
  obtain ⟨j, hj⟩ := s.holding_mate r
  have hrecv : (s.holding r).mate.recv = insertRec r s.mate.recv := by rw [hj]
  exact hrecv

theorem State.recorded_installed (s : State) (r : JRec) : (s.recorded r).mate.installed = s.mate.installed := by
  obtain ⟨j, hj⟩ := s.holding_mate r
  have hinst : (s.holding r).mate.installed = s.mate.installed := by rw [hj]
  exact hinst

theorem State.recorded_jack (s : State) (r : JRec) : (s.recorded r).fld R.MAT_JACK_VALUE =
    ackOf (s.fld R.MAT_JACK_VALUE) (insertRec r s.mate.recv) % 2 ^ 32 := by
  obtain ⟨j, hj⟩ := s.holding_mate r
  have hrecv : (s.holding r).mate.recv = insertRec r s.mate.recv := by rw [hj]
  refine (State.fld_setFld_self _ _ _ _).trans ?_
  rw [hrecv, State.holding_fld]
  rfl

theorem State.recorded_fld {s : State} {r : JRec} {f : Fld} (h : f.id ≠ R.MAT_JACK_VALUE.id) : (s.recorded r).fld f 0 = s.fld f 0 :=
  (State.fld_setFld_ne _ _ _ _ h).trans (s.holding_fld r f)

theorem State.recorded_sched (s : State) (r : JRec) : (s.recorded r).sched = s.sched :=
  State.recorded_of (K := fun t => Part.same s t .sched) (loose_part s .sched (by decide) (by decide) (by decide)) rfl r

theorem State.recorded_queued (s : State) (r : JRec) : (s.recorded r).queued = s.queued :=
  State.recorded_of (K := fun t => Part.same s t .queued) (loose_part s .queued (by decide) (by decide) (by decide)) rfl r

theorem State.recorded_chg (s : State) (r : JRec) : (s.recorded r).chg = s.chg :=
  State.recorded_of (K := fun t => Part.same s t .chg) (loose_part s .chg (by decide) (by decide) (by decide)) rfl r

theorem State.recorded_actions (s : State) (r : JRec) : (s.recorded r).actions = s.actions :=
  State.recorded_of (K := fun t => Part.same s t .actions) (loose_part s .actions (by decide) (by decide) (by decide)) rfl r

theorem State.recorded_standby (s : State) (r : JRec) : (s.recorded r).isStandby = s.isStandby :=
  State.standby_of_state (State.recorded_fld (f := R.MAT_STAT_STATE) (by decide))

/-! ### Records taken in order -/

theorem State.drain_incomplete {s : State} (h : s.mate.installed = false) (tick : Bool) : s.drain tick = s := by
  refine if_neg ?_
  rw [h, Bool.and_false]
  exact Bool.false_ne_true

theorem State.drain_complete {s : State} (h1 : s.isStandby = true) (h2 : s.mate.installed = true) (h3 : s.fld R.MAT_COPY_PHASE ≠ 1)
    (h4 : s.fld R.MAT_COPY_PHASE ≠ 2) (tick : Bool) : s.drain tick = s.drainRecs tick (s.fld R.MAT_JACK_VALUE) s.mate.recv := by
  refine if_pos ?_
  rw [h1, h2, bne_iff_ne.mpr h3, bne_iff_ne.mpr h4]
  rfl

theorem frameLater_next (j : Nat) : frameLater (frameAdd j 1) j = true := by
  have hd : (frameAdd j 1 + 2 ^ 32 - j % 2 ^ 32) % 2 ^ 32 = 1 := by
    unfold frameAdd
    omega
  unfold frameLater
  rw [hd]
  decide

theorem frameReached_self (j : Nat) : frameReached j j = true := by
  unfold frameReached
  rw [beq_self_eq_true, Bool.true_or]

theorem State.inOrder.wants {s : State} {q : Nat} (h : s.inOrder q) : s.wantsRec q := by
  obtain ⟨hstandby, hconf, hrecv, -, -, -, rfl⟩ := h
  refine ⟨hstandby, hconf, ?_, fun _ => frameLater_next _⟩
  rw [hrecv]
  rfl

/-- The record next in order is taken, or waits. -/
def State.takes (s : State) (r : JRec) : State :=
  if r.kind = recInfo ∨ r.kind = recCommit then s.updMate (fun m => { m with recv := [r] })
  else (s.takeRec r).updMate (fun m => { m with recv := [] })

theorem State.drainRecs_one {s : State} {r : JRec} : s.drainRecs false r.seq [r] = s.takes r := by
  unfold State.drainRecs State.drainRecs State.takes
  dsimp only
  rw [frameReached_self]
  by_cases hi : r.kind = recInfo
  · simp [hi]
  · by_cases hc : r.kind = recCommit
    · simp [hc]
    · simp [hi, hc]

theorem State.receive_inOrder {s : State} {g : JournalMsg} (h : s.inOrder g.seq.toNat) (kind : Nat) :
    s.receive kind g = (s.recorded (msgRecord g kind)).takes (msgRecord g kind) ∧ (s.recorded (msgRecord g kind)).fld R.MAT_JACK_VALUE = g.seq.toNat := by
  have hwants := h.wants
  obtain ⟨hstandby, -, hrecv, hinst, h1, h2, hseq⟩ := h
  have hjack : (s.recorded (msgRecord g kind)).fld R.MAT_JACK_VALUE = g.seq.toNat := by
    rw [State.recorded_jack, hrecv]
    have hack : ackOf (s.fld R.MAT_JACK_VALUE) (insertRec (msgRecord g kind) []) = g.seq.toNat := if_pos hseq
    rw [hack]
    exact Nat.mod_eq_of_lt g.seq.isLt
  have hphase : (s.recorded (msgRecord g kind)).fld R.MAT_COPY_PHASE = s.fld R.MAT_COPY_PHASE := State.recorded_fld (by decide)
  refine ⟨?_, hjack⟩
  rw [State.receive_taken hwants, State.drain_complete ((s.recorded_standby _).trans hstandby) ((s.recorded_installed _).trans hinst)
    (by rw [hphase]; exact h1) (by rw [hphase]; exact h2), hjack, State.recorded_recv, hrecv]
  exact State.drainRecs_one (r := msgRecord g kind)

/-! ### What each kind does -/

theorem State.takes_waits {r : JRec} (h : r.kind = recInfo ∨ r.kind = recCommit) (s : State) : s.takes r = s.updMate (fun m => { m with recv := [r] }) :=
  if_pos h

theorem State.takes_done {r : JRec} (h1 : r.kind ≠ recInfo) (h2 : r.kind ≠ recCommit) (s : State) :
    s.takes r = (s.takeRec r).updMate (fun m => { m with recv := [] }) := if_neg (by simp [h1, h2])

theorem State.takeRec_change {r : JRec} (h : r.kind = recChange) (s : State) : s.takeRec r = s.queueRec r := if_pos h

theorem State.takeRec_rearm {r : JRec} (h : r.kind = recRearm) (s : State) : s.takeRec r = s.rearmRec ((r.units.headD []).getD 0 0) r.cseq := by
  unfold State.takeRec
  rw [h]
  rfl

theorem State.takeRec_cancel {r : JRec} (h : r.kind = recCancel) (s : State) : s.takeRec r = s.cancelRec ((r.units.headD []).getD 0 0) := by
  unfold State.takeRec
  rw [h]
  rfl

theorem State.takeRec_bent {r : JRec} (h : r.kind = recBent) (s : State) : s.takeRec r = s.bentRec r := by
  unfold State.takeRec
  rw [h]
  rfl

theorem State.takeRec_command {r : JRec} (h : r.kind = recCommand) (s : State) : s.takeRec r = (pairsOf r.units).foldl State.commandPair s := by
  unfold State.takeRec
  rw [h]
  rfl

theorem State.cancelRec_none {s : State} (h : s.chg = none) (q : Nat) :
    s.cancelRec q = { s with queued := s.queued.filter (fun (c : Change) => c.kind != ChangeKind.journal q) } := by
  unfold State.cancelRec
  dsimp only
  rw [h]

theorem State.rearmRec_armed {s : State} {c : Change} {q : Nat} (h : s.chg = some c) (hkind : c.kind = .journal q) (harmed : c.state = .armed)
    (cseq : Nat) : (s.rearmRec q cseq).chg = some { c with cseq := cseq, stale := true } := by
  unfold State.rearmRec
  dsimp only
  rw [h]
  dsimp only
  rw [hkind, harmed, if_pos (by simp)]
  simp

/-- A device that is not active journals nothing. -/
theorem State.journal_idle {s : State} (h : s.isActive = false) (kind frame cseq : Nat) (units : List (List Nat)) :
    s.journal kind frame cseq units = s := by
  unfold State.journal
  rw [h]
  rfl

theorem State.standby_idle {s : State} (h : s.isStandby = true) : s.isActive = false := by
  unfold State.isStandby at h
  unfold State.isActive
  rw [Bool.or_eq_true, Bool.or_eq_true, beq_iff_eq, beq_iff_eq, beq_iff_eq] at h
  rcases h with (h | h) | h <;> rw [h] <;> rfl

end Sys2Proof.Machine
end

section
/-! O52, the clauses about journal records (R309 to R312). -/

namespace Sys2Proof.Machine

/-! ### The action of a BENT record -/

theorem State.deferNow_of_chg {s t : State} (h : t.chg = s.chg) (a : BentAction) : t.deferNow a = s.deferNow a := by
  unfold State.deferNow
  rw [h]

/-- An action that a device that is not active decides. -/
theorem State.decideAction_idle {s : State} (h : s.isActive = false) (a : BentAction) :
    (s.decideAction a).actions = s.actions ++ [s.deferNow a] := by
  have hmain : ∀ u : State, u.actions = s.actions → u.isActive = false → ∀ (b : BentAction) (at' frame : Nat) (units : List (List Nat)),
      ((({ u with actions := u.actions ++ [b] } : State).markStale at').journal recBent frame 0 units).actions = s.actions ++ [b] := by
    intro u hu hi b at' frame units
    have hstale : Part.same ({ u with actions := u.actions ++ [b] } : State) (({ u with actions := u.actions ++ [b] } : State).markStale at') .actions :=
      State.markStale_k (K := fun t => Part.same ({ u with actions := u.actions ++ [b] } : State) t .actions)
        (loose_part _ .actions (by decide) (by decide) (by decide)) rfl at'
    have hstate : (({ u with actions := u.actions ++ [b] } : State).markStale at').isActive = false := by
      unfold State.isActive State.mateState
      rw [State.fld_markStale _ _ _ (by decide)]
      exact hi
    rw [State.journal_idle hstate]
    exact (hstale : (({ u with actions := u.actions ++ [b] } : State).markStale at').actions = u.actions ++ [b]).trans (by rw [hu])
  unfold State.decideAction
  dsimp only
  split
  · next r _ =>
    have hstamp : ∀ u : State, (u.stampTaps s.tap).actions = u.actions ∧ (u.stampTaps s.tap).isActive = u.isActive := by
      intro u
      refine ⟨State.stampTaps_k (K := fun t => Part.same u t .actions) (loose_part u .actions (by decide) (by decide) (by decide)) rfl _, ?_⟩
      unfold State.isActive State.mateState
      rw [State.fld_stampTaps _ _ _ (by decide)]
    obtain ⟨hactions, hidle⟩ := hstamp { s with tap := r.2 }
    exact hmain _ hactions (hidle.trans h) _ _ _ _
  · exact hmain s rfl h _ _ _ _

/-! ### The clauses -/

/-- Of O52, a record that a standby without a complete state holds. -/
theorem State.receive_held {s : State} {g : JournalMsg} (h : s.wantsRec g.seq.toNat) (hinst : s.mate.installed = false) (kind : Nat) :
    s.receive kind g = s.recorded (msgRecord g kind) := by
  rw [State.receive_taken h, State.drain_incomplete ((s.recorded_installed _).trans hinst)]

theorem exec_record {g : JournalMsg} {c : Instr} {kind : Nat} (h : (c, kind) ∈ [(Instr.change g, recChange), (.rearm g, recRearm), (.cancel g, recCancel),
    (.commit g, recCommit), (.bent g, recBent), (.command g, recCommand), (.info g, recInfo)]) (s : State) :
    exec c s = .next (s.receive kind g) := by
  simp only [List.mem_cons, Prod.mk.injEq, List.not_mem_nil, or_false] at h
  rcases h with ⟨rfl, rfl⟩ | ⟨rfl, rfl⟩ | ⟨rfl, rfl⟩ | ⟨rfl, rfl⟩ | ⟨rfl, rfl⟩ | ⟨rfl, rfl⟩ | ⟨rfl, rfl⟩ <;> rfl

/-- No record is held. -/
def State.recvDone (s : State) : State := s.updMate (fun m => { m with recv := [] })

theorem State.recvDone_queued (s : State) : s.recvDone.queued = s.queued := rfl
theorem State.recvDone_chg (s : State) : s.recvDone.chg = s.chg := rfl
theorem State.recvDone_actions (s : State) : s.recvDone.actions = s.actions := rfl
theorem State.recvDone_fld (s : State) (f : Fld) (i : Nat) : s.recvDone.fld f i = s.fld f i := rfl

/-- A record next in order that need not wait is taken. -/
theorem State.receive_done {s : State} {g : JournalMsg} (h : s.inOrder g.seq.toNat) {kind : Nat} (h1 : kind ≠ recInfo) (h2 : kind ≠ recCommit) :
    s.receive kind g = ((s.recorded (msgRecord g kind)).takeRec (msgRecord g kind)).recvDone :=
  (State.receive_inOrder h kind).1.trans (State.takes_done h1 h2 _)

theorem State.receive_waits {s : State} {g : JournalMsg} (h : s.inOrder g.seq.toNat) {kind : Nat} (hkind : kind = recInfo ∨ kind = recCommit) :
    s.receive kind g = (s.recorded (msgRecord g kind)).updMate (fun m => { m with recv := [msgRecord g kind] }) :=
  (State.receive_inOrder h kind).1.trans (State.takes_waits hkind _)

theorem State.queueRec_spec (s : State) (r : JRec) : (s.queueRec r).fld R.MAT_JACK_VALUE = s.fld R.MAT_JACK_VALUE
    ∧ ∃ c, (s.queueRec r).queued = s.queued ++ [c] ∧ c.kind = .journal r.seq ∧ c.named = some r.frame := ⟨rfl, _, rfl, rfl, rfl⟩

/-- Of O52, a CHANGE record taken in order. -/
theorem changeInOrder {s : State} {g : JournalMsg} (h : s.inOrder g.seq.toNat) :
    Answers (.change g) s (fun t => t.mate.recv = [] ∧ t.fld R.MAT_JACK_VALUE = g.seq.toNat
      ∧ ∃ c, t.queued = s.queued ++ [c] ∧ c.kind = .journal g.seq.toNat ∧ c.named = some g.frame.toNat) := by
  have heq := State.receive_done h (kind := recChange) (by decide) (by decide)
  rw [State.takeRec_change rfl] at heq
  obtain ⟨hjack, c, hqueued, hkind, hnamed⟩ := (s.recorded (msgRecord g recChange)).queueRec_spec (msgRecord g recChange)
  rw [State.recorded_queued] at hqueued
  exact ⟨_, congrArg Host.Outcome.next heq, rfl, hjack.trans (State.receive_inOrder h recChange).2, c, hqueued, hkind, hnamed⟩

/-- Of O52, the records taken in order that wait. -/
theorem waitingInOrder {s : State} {g : JournalMsg} (h : s.inOrder g.seq.toNat) {kind : Nat} (hkind : kind = recInfo ∨ kind = recCommit) :
    (s.receive kind g).mate.recv = [msgRecord g kind] ∧ (s.receive kind g).fld R.MAT_JACK_VALUE = g.seq.toNat
      ∧ (s.receive kind g).queued = s.queued := by
  rw [State.receive_waits h hkind]
  exact ⟨rfl, (State.receive_inOrder h kind).2, s.recorded_queued _⟩

/-- Of O52, a CANCEL record taken in order. -/
theorem cancelInOrder {s : State} {g : JournalMsg} (h : s.inOrder g.seq.toNat) {q : Nat}
    (hq : ((msgRecord g recCancel).units.headD []).getD 0 0 = q) (hchg : s.chg = none) : Answers (.cancel g) s (fun t => t.mate.recv = []
      ∧ t.queued = s.queued.filter (fun (c : Change) => c.kind != ChangeKind.journal q)) := by
  have hnone : (s.recorded (msgRecord g recCancel)).chg = none := (s.recorded_chg _).trans hchg
  have heq := State.receive_done h (kind := recCancel) (by decide) (by decide)
  rw [State.takeRec_cancel rfl, hq, State.cancelRec_none hnone] at heq
  refine ⟨_, congrArg Host.Outcome.next heq, rfl, ?_⟩
  exact congrArg (List.filter (fun (c : Change) => c.kind != ChangeKind.journal q)) (s.recorded_queued _)

/-- Of O52, a REARM record taken in order. -/
theorem rearmInOrder {s : State} {g : JournalMsg} (h : s.inOrder g.seq.toNat) {c : Change} {q : Nat}
    (hq : ((msgRecord g recRearm).units.headD []).getD 0 0 = q) (hchg : s.chg = some c) (hkind : c.kind = .journal q) (harmed : c.state = .armed) :
    Answers (.rearm g) s (fun t => t.mate.recv = [] ∧ t.chg = some { c with cseq := g.cseq.toNat, stale := true }) := by
  have hsome : (s.recorded (msgRecord g recRearm)).chg = some c := (s.recorded_chg _).trans hchg
  have heq := State.receive_done h (kind := recRearm) (by decide) (by decide)
  rw [State.takeRec_rearm rfl, hq] at heq
  exact ⟨_, congrArg Host.Outcome.next heq, rfl, (State.recvDone_chg _).trans (State.rearmRec_armed hsome hkind harmed _)⟩

theorem State.bentRec_of {s : State} {r : JRec} {u : List Nat} {rest : List (List Nat)} (h1 : r.units = u :: rest) (h2 : r.units.filterMap unitOf ≠ []) :
    s.bentRec r = s.decideAction { bent := bits (u.getD 0 0) 0 14, at' := r.frame, units := r.units.filterMap unitOf } := by
  unfold State.bentRec
  rw [h1]
  dsimp only
  rw [← h1]
  exact if_neg (by rw [List.isEmpty_iff]; exact h2)

/-- Of O52, a BENT record taken in order. -/
theorem bentInOrder {s : State} {g : JournalMsg} (h : s.inOrder g.seq.toNat) {u : List Nat} {rest : List (List Nat)}
    (hunits : (msgRecord g recBent).units = u :: rest) (hsome : (msgRecord g recBent).units.filterMap unitOf ≠ []) :
    Answers (.bent g) s (fun t => t.mate.recv = [] ∧ t.actions = s.actions ++ [s.deferNow { bent := bits (u.getD 0 0) 0 14, at' := g.frame.toNat,
                                                                                              units := (msgRecord g recBent).units.filterMap unitOf }]) := by
  have hidle : (s.recorded (msgRecord g recBent)).isActive = false := State.standby_idle ((s.recorded_standby _).trans h.1)
  have heq := State.receive_done h (kind := recBent) (by decide) (by decide)
  rw [State.takeRec_bent rfl, State.bentRec_of hunits hsome] at heq
  refine ⟨_, congrArg Host.Outcome.next heq, rfl, (State.recvDone_actions _).trans ((State.decideAction_idle hidle _).trans ?_)⟩
  rw [State.recorded_actions, State.deferNow_of_chg (s.recorded_chg _)]
  rfl

theorem State.commandPair_retime {s : State} {a v i : Nat} {r : Reg} (hfind : findReg a = some (r, i)) (hreg : r.id = RN.BNT_RETIME_FRAME) :
    s.commandPair (a, v) = s.setFld R.BNT_RETIME_FRAME_FRAME i v := by
  unfold State.commandPair
  rw [hfind]
  exact if_pos hreg

/-- Of O52, a COMMAND record taken in order. -/
theorem commandInOrder {s : State} {g : JournalMsg} (h : s.inOrder g.seq.toNat) {a v i : Nat} {r : Reg}
    (hpairs : pairsOf (msgRecord g recCommand).units = [(a, v)]) (hfind : findReg a = some (r, i)) (hreg : r.id = RN.BNT_RETIME_FRAME) :
    Answers (.command g) s (fun t => t.mate.recv = [] ∧ t.fld R.BNT_RETIME_FRAME_FRAME i = v % 2 ^ R.BNT_RETIME_FRAME_FRAME.width) := by
  have heq := State.receive_done h (kind := recCommand) (by decide) (by decide)
  rw [State.takeRec_command rfl, hpairs, List.foldl_cons, List.foldl_nil, State.commandPair_retime hfind hreg] at heq
  exact ⟨_, congrArg Host.Outcome.next heq, rfl, (State.recvDone_fld _ _ _).trans (State.fld_setFld_self _ _ _ _)⟩

end Sys2Proof.Machine
end

section
/-! O52, the state copy: epochs, slices and install (R313 to R315), and the obligation. -/

namespace Sys2Proof.Machine

/-! ### Epochs -/

/-- The slices that an epoch sends. -/
def State.dueFor (s : State) (e : Nat) (inbound : Bool) : List Nat := if inbound then [] else if e = 0 then List.range 65 else s.mate.dirty

theorem State.startEpoch_mate (s : State) (e : Nat) (inbound : Bool) : (s.startEpoch e inbound).mate.due = s.dueFor e inbound
    ∧ (s.startEpoch e inbound).mate.slices = [] ∧ (s.startEpoch e inbound).mate.stage = []
    ∧ (s.startEpoch e inbound).mate.installed = s.mate.installed := ⟨rfl, rfl, rfl, rfl⟩

theorem State.startEpoch_flds (s : State) (e : Nat) (inbound : Bool) :
    (s.startEpoch e inbound).fld R.MAT_COPY_PHASE = (if !inbound && (s.dueFor e inbound).isEmpty then 2 else 1)
    ∧ (s.startEpoch e inbound).fld R.MAT_COPY_EPOCH = e % 2 ^ 8 ∧ (s.startEpoch e inbound).fld R.MAT_COPY_SLICE = 0 := by
  refine ⟨?_, ?_, ?_⟩
  · refine (State.fld_setFlag_ne _ _ _ _ (by decide)).trans ((State.fld_setFld_self _ _ _ _).trans ?_)
    show (if !inbound && (s.dueFor e inbound).isEmpty then 2 else 1) % 2 ^ R.MAT_COPY_PHASE.width = _
    split <;> rfl
  · refine (State.fld_setFlag_ne _ _ _ _ (by decide)).trans ?_
    exact (State.fld_setFld_ne _ _ _ _ (by decide)).trans ((State.fld_setFld_ne _ _ _ _ (by decide)).trans (State.fld_setFld_self _ _ _ _))
  · refine (State.fld_setFlag_ne _ _ _ _ (by decide)).trans ?_
    exact (State.fld_setFld_ne _ _ _ _ (by decide)).trans (State.fld_setFld_self _ _ _ _)

/-- What COPY_START does on the active. -/
def State.copySends (s : State) (e : BitVec 8) : State :=
  if s.mayCopy && ((e = 0 && !s.catchesUp) || e.toNat == s.fld R.MAT_COPY_EPOCH + 1) then s.startEpoch e.toNat false else s

/-- What COPY_START does on a standby. -/
def State.copyArrives (s : State) (e : BitVec 8) : State :=
  (if e = 0 then (if s.mateState = mateReady then s.mateJoin false s.mate.installed else s).setFlag R.MAT_STAT_KEPT 0 false
    else if s.mateState = mateReady then s.mateJoin false s.mate.installed else s).startEpoch e.toNat true

theorem exec_copyStart_active {s : State} (h : s.isActive = true) (e : BitVec 8) : exec (.copyStart e) s = .next (s.copySends e) :=
  congrArg Host.Outcome.next (if_pos h)

theorem exec_copyStart_standby {s : State} (h : s.isActive = false) (hm : s.mayTakeCopy = true) (e : BitVec 8) :
    exec (.copyStart e) s = .next (s.copyArrives e) :=
  congrArg Host.Outcome.next ((if_neg (Bool.eq_false_iff.mp h)).trans (if_pos hm))

theorem State.mayCopy_active {s : State} (h : s.mayCopy = true) : s.isActive = true := by
  unfold State.mayCopy State.copyable at h
  simp only [Bool.and_eq_true] at h
  obtain ⟨⟨⟨⟨⟨⟨⟨hactive, -⟩, -⟩, -⟩, -⟩, -⟩, -⟩, -⟩ := h
  exact hactive

theorem State.copySends_starts {s : State} {e : BitVec 8} (h : s.mayCopy = true)
    (he : (e = 0 ∧ s.catchesUp = false) ∨ e.toNat = s.fld R.MAT_COPY_EPOCH + 1) : s.copySends e = s.startEpoch e.toNat false := by
  refine if_pos ?_
  rw [h, Bool.true_and, Bool.or_eq_true, Bool.and_eq_true, decide_eq_true_eq, beq_iff_eq]
  exact he.imp (fun ⟨h0, hc⟩ => ⟨h0, by rw [hc]; rfl⟩) id

theorem State.copySends_catches {s : State} {e : BitVec 8} (h : e = 0) (hc : s.catchesUp = true) : s.copySends e = s := by
  subst h
  refine if_neg ?_
  rw [hc]
  simp

theorem State.dueFor_active (s : State) (e : BitVec 8) : s.dueFor e.toNat false = (if e = 0 then List.range 65 else s.mate.dirty) := by
  unfold State.dueFor
  by_cases h : e = 0
  · rw [h]
    rfl
  · have hne : e.toNat ≠ 0 := fun h0 => h (BitVec.eq_of_toNat_eq h0)
    rw [if_neg Bool.false_ne_true, if_neg hne, if_neg h]

theorem isEmpty_ite {α : Type} (l : List α) : (if !false && l.isEmpty then 2 else 1) = (if l = [] then 2 else (1 : Nat)) := by
  cases l <;> rfl

/-- Of O52, COPY_START on the active. -/
theorem copyStartActive {s : State} {e : BitVec 8} {due : List Nat} (h : s.mayCopy = true)
    (he : (e = 0 ∧ s.catchesUp = false) ∨ e.toNat = s.fld R.MAT_COPY_EPOCH + 1) (hdue : due = (if e = 0 then List.range 65 else s.mate.dirty)) :
    Answers (.copyStart e) s (fun t => t.fld R.MAT_COPY_PHASE = (if due = [] then 2 else 1) ∧ t.fld R.MAT_COPY_EPOCH = e.toNat
      ∧ t.fld R.MAT_COPY_SLICE = 0 ∧ t.mate.due = due ∧ t.mate.slices = [] ∧ t.mateState = s.mateState) := by
  obtain ⟨hphase, hepoch, hslice⟩ := s.startEpoch_flds e.toNat false
  obtain ⟨hd, hslices, -, -⟩ := s.startEpoch_mate e.toNat false
  rw [State.dueFor_active, ← hdue] at hd hphase
  rw [isEmpty_ite] at hphase
  have hexec : exec (.copyStart e) s = .next (s.startEpoch e.toNat false) :=
    (exec_copyStart_active (State.mayCopy_active h) e).trans (congrArg Host.Outcome.next (State.copySends_starts h he))
  exact ⟨_, hexec, hphase, hepoch.trans (Nat.mod_eq_of_lt e.isLt), hslice, hd, hslices, State.fld_startEpoch s _ _ _ (by decide)⟩

theorem State.mayTakeCopy_standby {s : State} (h : s.mayTakeCopy = true) : s.mateState = mateJoining ∨ s.mateState = mateReady := by
  unfold State.mayTakeCopy at h
  simp only [Bool.and_eq_true, Bool.or_eq_true, decide_eq_true_eq] at h
  exact h.1.1.1

theorem State.standby_of_two {s : State} (h : s.mateState = mateJoining ∨ s.mateState = mateReady) : s.isActive = false := by
  unfold State.isActive
  rcases h with h | h <;> rw [h] <;> rfl

/-- A device that leaves READY for JOINING, and one in JOINING. -/
def State.backToJoining (s : State) : State := if s.mateState = mateReady then s.mateJoin false s.mate.installed else s

theorem State.backToJoining_spec {s : State} (h : s.mateState = mateJoining ∨ s.mateState = mateReady) : s.backToJoining.mateState = mateJoining
    ∧ s.backToJoining.mate.installed = s.mate.installed := by
  unfold State.backToJoining
  split
  · exact ⟨s.mateJoin_state _ _, s.mateJoin_installed _ _⟩
  · next hr => exact ⟨h.resolve_right hr, rfl⟩

/-- Of O52, COPY_START on a standby. -/
theorem copyStartStandby {s : State} (e : BitVec 8) (h : s.mayTakeCopy = true) :
    Answers (.copyStart e) s (fun t => t.fld R.MAT_COPY_PHASE = 1 ∧ t.fld R.MAT_COPY_EPOCH = e.toNat ∧ t.fld R.MAT_COPY_SLICE = 0
      ∧ t.mate.stage = [] ∧ t.mate.slices = [] ∧ t.mateState = mateJoining
      ∧ t.mate.installed = s.mate.installed ∧ (e = 0 → t.flag R.MAT_STAT_KEPT = false)) := by
  obtain ⟨hstate, hinst⟩ := State.backToJoining_spec (State.mayTakeCopy_standby h)
  have hexec := exec_copyStart_standby (State.standby_of_two (State.mayTakeCopy_standby h)) h e
  have hstarted : ∀ u : State, u.mateState = mateJoining → u.mate.installed = s.mate.installed → (e = 0 → u.flag R.MAT_STAT_KEPT = false) →
      s.copyArrives e = u.startEpoch e.toNat true → Answers (.copyStart e) s (fun t => t.fld R.MAT_COPY_PHASE = 1 ∧ t.fld R.MAT_COPY_EPOCH = e.toNat
        ∧ t.fld R.MAT_COPY_SLICE = 0 ∧ t.mate.stage = [] ∧ t.mate.slices = [] ∧ t.mateState = mateJoining
        ∧ t.mate.installed = s.mate.installed ∧ (e = 0 → t.flag R.MAT_STAT_KEPT = false)) := by
    intro u hu hi hk hcopy
    obtain ⟨hphase, hepoch, hslice⟩ := u.startEpoch_flds e.toNat true
    refine ⟨_, hexec.trans (congrArg Host.Outcome.next hcopy), hphase, hepoch.trans (Nat.mod_eq_of_lt e.isLt), hslice, rfl, rfl,
      (State.fld_startEpoch u _ _ (fq := R.MAT_STAT_STATE) 0 (by decide)).trans hu, hi, ?_⟩
    intro he
    exact (State.flag_of_fld (State.fld_startEpoch u _ _ _ (by decide))).trans (hk he)
  by_cases he : e = 0
  · exact hstarted (s.backToJoining.setFlag R.MAT_STAT_KEPT 0 false) ((State.fld_setFlag_ne _ _ _ _ (by decide)).trans hstate) hinst
      (fun _ => State.flag_setFlag_self _ _ _ _ (by decide)) (congrArg (fun u => State.startEpoch u e.toNat true) (if_pos he))
  · exact hstarted s.backToJoining hstate hinst (fun h0 => absurd h0 he) (congrArg (fun u => State.startEpoch u e.toNat true) (if_neg he))

end Sys2Proof.Machine
end

section
/-! O52, the slices of a state copy (R313 to R315). -/

namespace Sys2Proof.Machine

/-! ### A slice is told -/

theorem State.tellSlice_spec {s : State} {j : Nat} (h : j ∉ s.mate.slices) (all : Nat) :
    (s.tellSlice j all).mate.slices = s.mate.slices ++ [j] ∧ (s.tellSlice j all).fld R.MAT_COPY_SLICE = (s.mate.slices.length + 1) % 2 ^ R.MAT_COPY_SLICE.width
    ∧ (s.tellSlice j all).fld R.MAT_COPY_PHASE = (if s.mate.slices.length + 1 = all then 2 else 1) := by
  have hnew : (if s.mate.slices.contains j then s.mate.slices else s.mate.slices ++ [j]) = s.mate.slices ++ [j] := by
    refine if_neg ?_
    rw [List.contains_iff_mem]
    exact h
  have hlen : (s.mate.slices ++ [j]).length = s.mate.slices.length + 1 := List.length_append
  unfold State.tellSlice
  dsimp only
  rw [hnew, hlen]
  refine ⟨rfl, (State.fld_setFld_ne _ _ _ _ (by decide)).trans (State.fld_setFld_self _ _ _ _), (State.fld_setFld_self _ _ _ _).trans ?_⟩
  split <;> rfl

theorem State.tellSlice_mate (s : State) (j all : Nat) : ∃ l, (s.tellSlice j all).mate = { s.mate with slices := l } := ⟨_, rfl⟩

theorem State.tellSlice_sched (s : State) (j all : Nat) : (s.tellSlice j all).sched = s.sched := rfl

theorem State.tellSlice_chg (s : State) (j all : Nat) : (s.tellSlice j all).chg = s.chg := rfl

/-! ### The active sends a slice -/

/-- Slice `j` is read and sent. -/
def State.sliceSent (s : State) (j : Nat) : State := (s.updMate (fun m => m.send s.frame (s.sliceEntries j))).tellSlice j s.mate.due.length

/-- The last slice ends the epoch. -/
def State.sliceEnds (s : State) : State := if s.fld R.MAT_COPY_PHASE = 2 then s.updMate (fun m => { m with dirty := [] }) else s

/-- A change that waited for the slices is journalled once they have ended. -/
def State.sliceChange (s : State) : State :=
  match s.chg with
  | some c => if s.fld R.MAT_COPY_PHASE = 2 && c.done = 0 && c.jseq.isNone && c.state != .compiling then s.journalChange c else s
  | none => s

theorem exec_copySlice_active {s : State} {j : Fin 65} (l : List CopyEntry) (h1 : s.fld R.MAT_COPY_PHASE = 1) (h2 : s.isActive = true)
    (h3 : j.val ∈ s.mate.due) (h4 : j.val ∉ s.mate.slices) : exec (.copySlice j l) s = .next (s.sliceSent j).sliceEnds.sliceChange := by
  have hdue : (!s.mate.due.contains j.val || s.mate.slices.contains j.val) = false := by
    rw [Bool.or_eq_false_iff]
    exact ⟨by simpa using h3, by simpa using h4⟩
  have hne : ¬ s.fld R.MAT_COPY_PHASE ≠ 1 := fun h => h h1
  exact congrArg Host.Outcome.next ((if_neg hne).trans ((if_pos h2).trans (if_neg (Bool.eq_false_iff.mp hdue))))

theorem State.sliceSent_spec {s : State} {j : Nat} (h : j ∉ s.mate.slices) : (s.sliceSent j).mate.slices = s.mate.slices ++ [j]
    ∧ (s.sliceSent j).fld R.MAT_COPY_SLICE = (s.mate.slices.length + 1) % 2 ^ R.MAT_COPY_SLICE.width
    ∧ (s.sliceSent j).fld R.MAT_COPY_PHASE = (if s.mate.slices.length + 1 = s.mate.due.length then 2 else 1) :=
  State.tellSlice_spec (s := s.updMate (fun m => m.send s.frame (s.sliceEntries j))) h _

theorem State.sliceSent_mate (s : State) (j : Nat) : (s.sliceSent j).mate.out = s.mate.out ++ [{ frame := s.frame, blk := s.mate.blkNext, entries := s.sliceEntries j }]
    ∧ (s.sliceSent j).mate.dirty = s.mate.dirty ∧ (s.sliceSent j).mate.jSeq = s.mate.jSeq := ⟨rfl, rfl, rfl⟩

theorem State.sliceEnds_mate (s : State) : s.sliceEnds.mate.out = s.mate.out ∧ s.sliceEnds.mate.slices = s.mate.slices
    ∧ s.sliceEnds.mate.jSeq = s.mate.jSeq ∧ s.sliceEnds.mate.dirty = (if s.fld R.MAT_COPY_PHASE = 2 then [] else s.mate.dirty) := by
  unfold State.sliceEnds
  by_cases h : s.fld R.MAT_COPY_PHASE = 2
  · rw [if_pos h, if_pos h]
    exact ⟨rfl, rfl, rfl, rfl⟩
  · rw [if_neg h, if_neg h]
    exact ⟨rfl, rfl, rfl, rfl⟩

theorem State.sliceEnds_regs (s : State) : s.sliceEnds.regs = s.regs := by
  unfold State.sliceEnds
  split <;> rfl

theorem State.sliceEnds_fld (s : State) (f : Fld) : s.sliceEnds.fld f 0 = s.fld f 0 := by
  unfold State.fld
  rw [State.sliceEnds_regs]

theorem State.sliceEnds_chg (s : State) : s.sliceEnds.chg = s.chg ∧ s.sliceEnds.sched = s.sched := by
  unfold State.sliceEnds
  split <;> exact ⟨rfl, rfl⟩

theorem State.sliceChange_none {s : State} (h : ∀ c, s.chg = some c → s.fld R.MAT_COPY_PHASE ≠ 2 ∨ c.done ≠ 0 ∨ c.jseq.isSome = true ∨ c.state = .compiling) :
    s.sliceChange = s := by
  unfold State.sliceChange
  split
  · next c hc =>
    refine if_neg ?_
    rw [Bool.and_eq_true, Bool.and_eq_true, Bool.and_eq_true, decide_eq_true_eq, decide_eq_true_eq, bne_iff_ne]
    rintro ⟨⟨⟨hp, hd⟩, hj⟩, hst⟩
    rcases h c hc with h | h | h | h
    · exact h hp
    · exact h hd
    · rw [Option.isNone_iff_eq_none] at hj
      rw [hj] at h
      exact Bool.false_ne_true h
    · exact hst h
  · rfl

/-- Of O52, a slice that the active sends where no change waits for it. -/
theorem copySliceActive {s : State} {j : Fin 65} (l : List CopyEntry) (h1 : s.fld R.MAT_COPY_PHASE = 1) (h2 : s.isActive = true)
    (h3 : j.val ∈ s.mate.due) (h4 : j.val ∉ s.mate.slices)
    (h5 : ∀ c, s.chg = some c → s.mate.slices.length + 1 ≠ s.mate.due.length ∨ c.done ≠ 0 ∨ c.jseq.isSome = true ∨ c.state = .compiling) :
    Answers (.copySlice j l) s (fun t =>
      t.mate.out = s.mate.out ++ [{ frame := s.frame, blk := s.mate.blkNext, entries := s.sliceEntries j }]
      ∧ t.mate.dirty = (if s.mate.slices.length + 1 = s.mate.due.length then [] else s.mate.dirty)
      ∧ t.mate.slices = s.mate.slices ++ [j.val] ∧ t.fld R.MAT_COPY_SLICE = (s.mate.slices.length + 1) % 2 ^ R.MAT_COPY_SLICE.width
      ∧ t.fld R.MAT_COPY_PHASE = (if s.mate.slices.length + 1 = s.mate.due.length then 2 else 1) ∧ t.sched = s.sched ∧ t.chg = s.chg) := by
  obtain ⟨hslices, hslice, hphase⟩ := State.sliceSent_spec (s := s) h4
  obtain ⟨hout, hdirty, -⟩ := s.sliceSent_mate j.val
  obtain ⟨heout, heslices, -, hedirty⟩ := (s.sliceSent j.val).sliceEnds_mate
  obtain ⟨hechg, hesched⟩ := (s.sliceSent j.val).sliceEnds_chg
  have hnone : (s.sliceSent j.val).sliceEnds.sliceChange = (s.sliceSent j.val).sliceEnds := by
    refine State.sliceChange_none (fun c hc => ?_)
    rw [State.sliceEnds_fld, hphase]
    refine (h5 c (hechg.symm.trans hc)).imp_left (fun hne => ?_)
    rw [if_neg hne]
    decide
  refine ⟨_, (exec_copySlice_active l h1 h2 h3 h4).trans (congrArg Host.Outcome.next hnone), heout.trans hout, ?_, heslices.trans hslices,
    (State.sliceEnds_fld _ _).trans hslice, (State.sliceEnds_fld _ _).trans hphase, hesched, hechg⟩
  rw [hedirty, hphase, hdirty]
  by_cases hlast : s.mate.slices.length + 1 = s.mate.due.length
  · rw [if_pos hlast, if_pos hlast, if_pos rfl]
  · rw [if_neg hlast, if_neg hlast, if_neg (by decide)]

/-! ### The change that the last slice lets go -/

theorem State.newCopy_jSeq (s : State) : s.newCopy.mate.jSeq = s.mate.jSeq := by
  unfold State.newCopy
  split <;> rfl

/-- An active device's journal record takes the next JSEQ. -/
theorem State.journal_jSeq {s : State} (h : s.isActive = true) (kind frame cseq : Nat) (units : List (List Nat)) :
    (s.journal kind frame cseq units).mate.jSeq = (s.mate.jSeq + 1) % 2 ^ 32 := by
  unfold State.journal
  rw [h, if_neg (by decide)]
  dsimp only
  split
  · rw [State.newCopy_jSeq]
    exact congrArg Mate.jSeq (State.latch_mate _ _ _)
  · obtain ⟨k, hk⟩ := ({ s with mate := { s.mate with
        journal := s.mate.journal ++ [{ seq := (s.mate.jSeq + 1) % 2 ^ 32, kind := kind, frame := frame, cseq := cseq, units := units, blk := s.mate.blkNext }]
        jSeq := (s.mate.jSeq + 1) % 2 ^ 32, blkNext := s.mate.blkNext + blocksOf units.length } } : State).storeUnits_mate
      (({ seq := (s.mate.jSeq + 1) % 2 ^ 32, kind := kind, frame := frame, cseq := cseq, units := units, blk := s.mate.blkNext } : JRec).header :: units)
    exact congrArg Mate.jSeq hk

theorem next_ne (n : Nat) : (n + 1) % 2 ^ 32 ≠ n := by
  omega

theorem State.journalChange_first {s : State} {c : Change} {f : Nat} (h : s.isActive = true) (hcopy : s.copying = false) (hframe : c.frame = some f)
    (hseq : c.jseq = none) : (s.journalChange c).chg = some { c with jseq := some ((s.mate.jSeq + 1) % 2 ^ 32) } := by
  have hj := State.journal_jSeq (s := { s with chg := some c }) h recChange f c.cseq (c.recs.map EditRec.words)
  unfold State.journalChange
  rw [hframe]
  dsimp only
  rw [hseq]
  dsimp only
  rw [hcopy, if_neg Bool.false_ne_true, hj, if_neg (next_ne s.mate.jSeq)]

theorem State.sliceChange_some {s : State} {c : Change} (hc : s.chg = some c) (hp : s.fld R.MAT_COPY_PHASE = 2) (hd : c.done = 0) (hj : c.jseq = none)
    (hst : c.state ≠ .compiling) : s.sliceChange = s.journalChange c := by
  unfold State.sliceChange
  rw [hc]
  refine if_pos ?_
  rw [hp, hd, hj, bne_iff_ne.mpr hst]
  rfl

/-- Of O52, the last slice, and the change that waited for it. -/
theorem copySliceLast {s : State} {j : Fin 65} (l : List CopyEntry) {c : Change} {f : Nat} (h1 : s.fld R.MAT_COPY_PHASE = 1) (h2 : s.isActive = true)
    (h3 : j.val ∈ s.mate.due) (h4 : j.val ∉ s.mate.slices) (h5 : s.mate.slices.length + 1 = s.mate.due.length) (h6 : s.chg = some c)
    (h7 : c.frame = some f) (h8 : c.done = 0) (h9 : c.jseq = none) (h10 : c.state ≠ .compiling) :
    Answers (.copySlice j l) s (fun t => t.sched = s.sched ∧ t.chg = some { c with jseq := some ((s.mate.jSeq + 1) % 2 ^ 32) }) := by
  obtain ⟨-, -, hphase⟩ := State.sliceSent_spec (s := s) h4
  obtain ⟨-, -, hjseq⟩ := s.sliceSent_mate j.val
  obtain ⟨-, -, hejseq, -⟩ := (s.sliceSent j.val).sliceEnds_mate
  obtain ⟨hechg, hesched⟩ := (s.sliceSent j.val).sliceEnds_chg
  have hp : (s.sliceSent j.val).sliceEnds.fld R.MAT_COPY_PHASE = 2 := by
    rw [State.sliceEnds_fld, hphase, if_pos h5]
  have hactive : (s.sliceSent j.val).sliceEnds.isActive = true := by
    unfold State.isActive State.mateState
    rw [State.sliceEnds_fld, show (s.sliceSent j.val).fld R.MAT_STAT_STATE 0 = s.fld R.MAT_STAT_STATE 0 from State.fld_tellSlice _ _ _ _ (by decide)]
    exact h2
  have hcopy : (s.sliceSent j.val).sliceEnds.copying = false := by
    unfold State.copying
    rw [hp]
    exact Bool.and_false _
  have hchg := State.journalChange_first hactive hcopy h7 h9
  rw [hejseq, hjseq] at hchg
  have hsched : ((s.sliceSent j.val).sliceEnds.journalChange c).sched = (s.sliceSent j.val).sliceEnds.sched :=
    State.journalChange_k (K := fun t => Part.same (s.sliceSent j.val).sliceEnds t .sched) (loose_part _ .sched (by decide) (by decide) (by decide)) rfl c
  exact ⟨_, (exec_copySlice_active l h1 h2 h3 h4).trans (congrArg Host.Outcome.next (State.sliceChange_some (hechg.trans h6) hp h8 h9 h10)),
    hsched.trans hesched, hchg⟩

/-! ### A standby stages a slice -/

/-- The entries of slice `j` are staged. -/
def State.staging (s : State) (j : Nat) (l : List CopyEntry) : State :=
  s.updMate (fun m => { m with stage := m.stage ++ l.filter (fun e => copySlice e == j) })

theorem exec_copySlice_standby {s : State} {j : Fin 65} (l : List CopyEntry) (h1 : s.fld R.MAT_COPY_PHASE = 1) (h2 : s.mateState = mateJoining) :
    exec (.copySlice j l) s = .next ((s.staging j l).tellSlice j 65) := by
  have hne : ¬ s.fld R.MAT_COPY_PHASE ≠ 1 := fun h => h h1
  have hactive : s.isActive = false := State.standby_of_two (.inl h2)
  exact congrArg Host.Outcome.next ((if_neg hne).trans ((if_neg (Bool.eq_false_iff.mp hactive)).trans (if_pos h2)))

/-- Of O52, a slice that arrives on a standby. -/
theorem copySliceStandby {s : State} {j : Fin 65} (l : List CopyEntry) (h1 : s.fld R.MAT_COPY_PHASE = 1) (h2 : s.mateState = mateJoining)
    (h3 : j.val ∉ s.mate.slices) : Answers (.copySlice j l) s (fun t => t.mate.slices = s.mate.slices ++ [j.val]
      ∧ t.mate.stage = s.mate.stage ++ l.filter (fun e => copySlice e == j.val)
      ∧ t.fld R.MAT_COPY_PHASE = (if s.mate.slices.length = 64 then 2 else 1) ∧ t.sched = s.sched) := by
  obtain ⟨hslices, -, hphase⟩ := State.tellSlice_spec (s := s.staging j l) (j := j.val) h3 65
  refine ⟨_, exec_copySlice_standby l h1 h2, hslices, rfl, hphase.trans ?_, rfl⟩
  by_cases h : s.mate.slices.length = 64
  · have h' : (s.staging j l).mate.slices.length + 1 = 65 := congrArg (· + 1) h
    rw [if_pos h, if_pos h']
  · have h' : ¬ (s.staging j l).mate.slices.length + 1 = 65 := fun h65 => h (Nat.succ.inj h65)
    rw [if_neg h, if_neg h']

end Sys2Proof.Machine
end

section
/-! O52, the install of an epoch (R314, R315), and the obligation. -/

namespace Sys2Proof.Machine

/-! ### What a standby's records leave alone -/

/-- An action is decided, but for its journal record. -/
def State.decided (s : State) (a0 : BentAction) : State :=
  let s1 := match (s.deferNow a0).run s (s.schedAt (s.deferNow a0).at') s.tap with
    | some r => ({ s with tap := r.2 }).stampTaps s.tap
    | none => s
  ({ s1 with actions := s1.actions ++ [s.deferNow a0] } : State).markStale (s.deferNow a0).at'

theorem State.decided_k {K : State → Prop} (hK : Loose 0x1230000 K) {s : State} (h : K s) (a0 : BentAction) :
    K (s.decided a0) := by
  unfold State.decided
  dsimp only
  refine State.markStale_k (hK.mono (by decide)) (hK.build ?_ rfl) _
  split
  · exact State.stampTaps_k (hK.mono (by decide)) (hK.build h rfl) _
  · exact h

theorem State.decideAction_decided {s : State} (h : s.isActive = false) (a0 : BentAction) : s.decideAction a0 = s.decided a0 := by
  have hstate : (s.decided a0).fld R.MAT_STAT_STATE 0 = s.fld R.MAT_STAT_STATE 0 :=
    State.decided_k (K := fun t => t.fld R.MAT_STAT_STATE 0 = s.fld R.MAT_STAT_STATE 0) (loose_fld (by decide)) rfl a0
  have hidle : (s.decided a0).isActive = false := by
    unfold State.isActive State.mateState
    rw [hstate]
    exact h
  exact State.journal_idle hidle _ _ _ _

/-- A record that a device that is not active takes journals nothing, and so leaves the mate unit alone. -/
theorem State.takeRec_idle_k {K : State → Prop} (hK : Loose 0x400000000000000000000000000000000000100000000000000000000000000000000000000000000003330000 K)
    {s : State} (hidle : s.isActive = false) (h : K s) (r : JRec) : K (s.takeRec r) := by
  have hbent : K (s.bentRec r) := by
    unfold State.bentRec
    split
    · exact h
    · dsimp only
      split
      · exact h
      · rw [State.decideAction_decided hidle]
        exact State.decided_k (hK.mono (by decide)) h _
  unfold State.takeRec
  refine ite_k (K := K) (State.queueRec_k (hK.mono (by decide)) h _) (ite_k (K := K) (State.rearmRec_k (hK.mono (by decide)) h _ _)
    (ite_k (K := K) (State.cancelRec_k (hK.mono (by decide)) h _) (ite_k (K := K) hbent (ite_k (K := K) ?_ h))))
  exact foldl_k (K := K) _ _ h (fun t x ht => State.commandPair_k (hK.mono (by decide)) ht x)

/-- What the records taken between two ticks leave alone, in the registers and in the mate unit. -/
structure State.Undrained (s t : State) : Prop where
  fld : ∀ f : Fld, regOk 0x400000000000000000000000000000000000100000000000000000000000000000000000000000000003330000 f.id = false →
    t.fld f 0 = s.fld f 0
  stage : t.mate.stage = s.mate.stage
  installed : t.mate.installed = s.mate.installed

theorem State.Undrained.idle {s t : State} (h : s.Undrained t) (hs : s.isActive = false) : t.isActive = false := by
  unfold State.isActive State.mateState
  rw [h.fld _ (by decide)]
  exact hs

theorem State.Undrained.take {s t : State} (h : s.Undrained t) (hidle : s.isActive = false) (r : JRec) : s.Undrained (t.takeRec r) := by
  have hmate : (t.takeRec r).mate = t.mate := State.takeRec_idle_k (K := fun u => Part.same t u .mate)
    (loose_part t .mate (by decide) (by decide) (by decide)) (h.idle hidle) rfl r
  refine ⟨fun f hf => ?_, by rw [hmate, h.stage], by rw [hmate, h.installed]⟩
  exact State.takeRec_idle_k (K := fun u => u.fld f 0 = s.fld f 0) (loose_fld hf) (h.idle hidle) (h.fld f hf) r

theorem State.Undrained.recv {s t : State} (h : s.Undrained t) (l : List JRec) : s.Undrained (t.updMate (fun m => { m with recv := l })) :=
  ⟨fun f hf => h.fld f hf, h.stage, h.installed⟩

theorem State.Undrained.recs {s : State} (hidle : s.isActive = false) (jack : Nat) (l : List JRec) {t : State} (h : s.Undrained t) :
    s.Undrained (t.drainRecs false jack l) := by
  induction l generalizing t with
  | nil => exact h.recv []
  | cons r l ih =>
    unfold State.drainRecs
    dsimp only
    split
    · exact h.recv _
    · split
      · exact h.recv _
      · exact ih (h.take hidle r)

theorem State.undrained (s : State) : s.Undrained (s.drain false) := by
  have hself : s.Undrained s := ⟨fun _ _ => rfl, rfl, rfl⟩
  unfold State.drain
  split
  · next h =>
    rw [Bool.and_eq_true, Bool.and_eq_true, Bool.and_eq_true] at h
    exact hself.recs (State.standby_idle h.1.1.1) _ _
  · exact hself

/-! ### The install -/

/-- The install, before EPOCH_DONE is latched. -/
def State.installing (s : State) (phase : Nat) : State :=
  (s.installStage.setFld R.MAT_COPY_PHASE 0 phase).updMate (fun m => { m with stage := [], slices := [], inbound := false, installed := true })

theorem State.endInstall_spec (s : State) {phase : Nat} (h : phase < 2 ^ R.MAT_COPY_PHASE.width) : (s.endInstall phase).fld R.MAT_COPY_PHASE = phase
    ∧ (s.endInstall phase).mate.installed = true ∧ (s.endInstall phase).mate.stage = [] ∧ (s.endInstall phase).mate.inbound = false
    ∧ (s.endInstall phase).latched R.MAT_EVT_EPOCH_DONE = true := by
  have hmate : (s.endInstall phase).mate = (s.installing phase).mate := State.latch_mate _ _ _
  refine ⟨?_, by rw [hmate]; rfl, by rw [hmate]; rfl, by rw [hmate]; rfl, State.latched_latch _ _ _ (by decide)⟩
  refine (State.fld_latch_ne (s.installing phase) R.MAT_EVT_EPOCH_DONE 0 0 (by decide)).trans ?_
  exact (State.fld_setFld_self s.installStage _ _ _).trans (Nat.mod_eq_of_lt h)

/-- The journal goes on after JSEQ `q`, if that is later. -/
def Mate.jSeqFrom (q : Nat) (m : Mate) : Mate := { m with jSeq := if frameLater q m.jSeq then q else m.jSeq }

/-- The state with the JSEQ `n`. -/
def State.withJSeq (s : State) (n : Nat) : State := { s with mate := { s.mate with jSeq := n } }

theorem State.withJSeq_spec (s : State) (n : Nat) : (s.withJSeq n).regs = s.regs ∧ (s.withJSeq n).mate.installed = s.mate.installed
    ∧ (s.withJSeq n).mate.stage = s.mate.stage ∧ (s.withJSeq n).mate.inbound = s.mate.inbound := ⟨rfl, rfl, rfl, rfl⟩

theorem State.jSeqFrom_eq (s : State) (q : Nat) : ∃ n, s.updMate (Mate.jSeqFrom q) = s.withJSeq n := ⟨_, rfl⟩

/-- What EPOCH_INSTALL does on the active. -/
def State.installActive (s : State) : State :=
  if s.fld R.MAT_COPY_PHASE ≠ 2 then s
  else if s.mate.inbound then
    (s.endInstall 0).updMate (Mate.jSeqFrom ((s.endInstall 0).fld R.MAT_JACK_VALUE))
  else (s.setFld R.MAT_COPY_PHASE 0 3).updMate (fun m => { m with peerHad := true })

/-- The records after the image installed, acknowledged. -/
def State.replayed (s : State) : State := s.setFld R.MAT_JACK_VALUE 0 (ackOf (s.fld R.MAT_JACK_VALUE) s.mate.recv)

theorem exec_epochInstall_active {s : State} (h : s.isActive = true) : exec .epochInstall s = .next s.installActive :=
  congrArg Host.Outcome.next (if_pos h)

theorem exec_epochInstall_standby {s : State} (h1 : s.mateState = mateJoining)
    (h2 : s.fld R.MAT_COPY_PHASE = 2 ∨ (s.fld R.MAT_COPY_PHASE = 1 ∧ s.fld R.MAT_COPY_EPOCH ≠ 0)) :
    exec .epochInstall s = .next ((s.endInstall 3).replayed.drain false) := by
  have hactive : s.isActive = false := State.standby_of_two (.inl h1)
  refine congrArg Host.Outcome.next ((if_neg (Bool.eq_false_iff.mp hactive)).trans (if_pos ?_))
  rw [Bool.and_eq_true, Bool.or_eq_true, Bool.and_eq_true, decide_eq_true_eq, decide_eq_true_eq, decide_eq_true_eq, decide_eq_true_eq]
  exact ⟨h1, h2⟩

theorem State.installActive_sent {s : State} (h1 : s.fld R.MAT_COPY_PHASE = 2) (h2 : s.mate.inbound = false) :
    s.installActive = (s.setFld R.MAT_COPY_PHASE 0 3).updMate (fun m => { m with peerHad := true }) := by
  have hne : ¬ s.fld R.MAT_COPY_PHASE ≠ 2 := fun h => h h1
  exact (if_neg hne).trans (if_neg (Bool.eq_false_iff.mp h2))

theorem State.installActive_inbound {s : State} (h1 : s.fld R.MAT_COPY_PHASE = 2) (h2 : s.mate.inbound = true) :
    ∃ q, s.installActive = (s.endInstall 0).updMate (Mate.jSeqFrom q) := by
  have hne : ¬ s.fld R.MAT_COPY_PHASE ≠ 2 := fun h => h h1
  exact ⟨_, (if_neg hne).trans (if_pos h2)⟩

/-- Of O52, an install on the active that sent the epoch. -/
theorem epochInstallSent {s : State} (h : s.isActive = true) (h1 : s.fld R.MAT_COPY_PHASE = 2) (h2 : s.mate.inbound = false) :
    Answers .epochInstall s (fun t => t.fld R.MAT_COPY_PHASE = 3 ∧ t.sched = s.sched ∧ t.mate.peerHad = true) :=
  ⟨_, (exec_epochInstall_active h).trans (congrArg Host.Outcome.next (State.installActive_sent h1 h2)), State.fld_setFld_self _ _ _ _, rfl, rfl⟩

/-- Of O52, an install on a device that has become active. -/
theorem epochInstallInbound {s : State} (h : s.isActive = true) (h1 : s.fld R.MAT_COPY_PHASE = 2) (h2 : s.mate.inbound = true) :
    Answers .epochInstall s (fun t => t.fld R.MAT_COPY_PHASE = 0 ∧ t.mate.installed = true ∧ t.mate.stage = [] ∧ t.mate.inbound = false
      ∧ t.latched R.MAT_EVT_EPOCH_DONE = true) := by
  obtain ⟨q, hq⟩ := State.installActive_inbound h1 h2
  obtain ⟨hphase, hinst, hstage, hinbound, hdone⟩ := s.endInstall_spec (phase := 0) (by decide)
  obtain ⟨n, hn⟩ := (s.endInstall 0).jSeqFrom_eq q
  obtain ⟨hregs, hi, hs, hb⟩ := (s.endInstall 0).withJSeq_spec n
  have hfld : ∀ f : Fld, ((s.endInstall 0).withJSeq n).fld f 0 = (s.endInstall 0).fld f 0 := by
    intro f
    unfold State.fld
    rw [hregs]
  refine ⟨_, (exec_epochInstall_active h).trans (congrArg Host.Outcome.next (hq.trans hn)), ?_, hi.trans hinst, hs.trans hstage, hb.trans hinbound, ?_⟩
  · exact (hfld _).trans hphase
  · exact State.latched_of_fld (hfld _) hdone

/-- Of O52, an install on a standby. -/
theorem epochInstallStandby {s : State} (h1 : s.mateState = mateJoining)
    (h2 : s.fld R.MAT_COPY_PHASE = 2 ∨ (s.fld R.MAT_COPY_PHASE = 1 ∧ s.fld R.MAT_COPY_EPOCH ≠ 0)) :
    Answers .epochInstall s (fun t => t.fld R.MAT_COPY_PHASE = 3 ∧ t.mate.installed = true ∧ t.mate.stage = []
      ∧ t.latched R.MAT_EVT_EPOCH_DONE = true) := by
  obtain ⟨hphase, hinst, hstage, -, hdone⟩ := s.endInstall_spec (phase := 3) (by decide)
  have hdrain := (s.endInstall 3).replayed.undrained
  have hreplayed : ∀ f : Fld, f.id ≠ R.MAT_JACK_VALUE.id → (s.endInstall 3).replayed.fld f 0 = (s.endInstall 3).fld f 0 :=
    fun f hf => State.fld_setFld_ne _ _ _ _ hf
  refine ⟨_, exec_epochInstall_standby h1 h2, ?_, hdrain.installed.trans hinst, hdrain.stage.trans hstage, ?_⟩
  · exact (hdrain.fld _ (by decide)).trans ((hreplayed _ (by decide)).trans hphase)
  · exact State.latched_of_fld ((hdrain.fld _ (by decide)).trans (hreplayed _ (by decide))) hdone

/-! ### The obligation -/

/-- Of O52, a valid heartbeat. -/
theorem heartbeatValid {s : State} {l : Fin 8} {ws : List SlotWord} {p : List Nat} (hp : s.paired = true)
    (hg : s.goodHeartbeat l (ws.map BitVec.toNat) = some p) : exec (.heartbeatRx l ws) s = .next (s.hbTaken (some p)) := exec_heartbeatRx hp hg

/-- Settles O52: each event is brought to the one operation it ends in, and what follows that operation leaves alone what it showed. -/
theorem journalAndCopy : Obligations.JournalAndCopy := by
  unfold Obligations.JournalAndCopy
  intro s
  refine ⟨?_, ?_, ?_, ?_, ?_, ?_, ?_, ?_, ?_, ?_, ?_, ?_, ?_⟩
  · intro l ws p hp hg
    obtain ⟨h1, h2, h3, h4, h5, h6⟩ := s.hbTaken_spec p
    exact ⟨_, heartbeatValid hp hg, h1, h2, h3, h4, h5, h6, State.hbTaken_conflict, State.hbTaken_outside⟩
  · intro l ws hg
    exact ⟨_, exec_heartbeatRx_bad hg, rfl⟩
  · intro g c kind hc
    refine ⟨?_, ?_, ?_⟩
    · intro hwants hinst
      have hexec := (exec_record hc s).trans (congrArg Host.Outcome.next (State.receive_held hwants hinst kind))
      exact ⟨_, hexec, s.recorded_recv _, s.recorded_sched _, s.recorded_queued _, s.recorded_jack _⟩
    · intro hactive
      exact ⟨_, (exec_record hc s).trans (congrArg Host.Outcome.next (State.receive_active hactive kind g)), rfl⟩
    · intro hagain
      exact ⟨_, (exec_record hc s).trans (congrArg Host.Outcome.next (State.receive_again hagain kind)), rfl⟩
  · intro g h
    obtain ⟨hirecv, hijack, hiqueued⟩ := waitingInOrder h (kind := recInfo) (.inl rfl)
    obtain ⟨hcrecv, hcjack, -⟩ := waitingInOrder h (kind := recCommit) (.inr rfl)
    exact ⟨changeInOrder h, ⟨_, rfl, hirecv, hijack, hiqueued⟩, ⟨_, rfl, hcrecv, hcjack⟩, fun q hq hchg => cancelInOrder h hq hchg,
      fun c q hq hchg hkind harmed => rearmInOrder h hq hchg hkind harmed, fun u rest hunits hsome => bentInOrder h hunits hsome,
      fun a v r i hpairs hfind hreg => commandInOrder h hpairs hfind hreg⟩
  · intro e due h he hdue
    exact copyStartActive h he hdue
  · intro e h
    exact copyStartStandby e h
  · intro j l h1 h2 h3 h4 h5
    exact copySliceActive l h1 h2 h3 h4 h5
  · intro j l c f h1 h2 h3 h4 h5 h6 h7 h8 h9 h10
    exact copySliceLast l h1 h2 h3 h4 h5 h6 h7 h8 h9 h10
  · intro j l h1 h2 h3
    exact copySliceStandby l h1 h2 h3
  · intro e h he hc
    exact ⟨_, (exec_copyStart_active h e).trans (congrArg Host.Outcome.next (State.copySends_catches he hc)), rfl⟩
  · exact epochInstallSent
  · exact epochInstallInbound
  · exact epochInstallStandby

end Sys2Proof.Machine
end

section
/-! O53, MAT_CTRL (R300, R310, R327): a write reaches `mateCtrl` on an active device and on a standby, which drops journalled fields and commands alone
(R306), and MAT_CTRL has none. -/

namespace Sys2Proof.Machine

/-! ### The write -/

/-- MAT_CTRL in the register table. -/
def matCtrlReg : Reg :=
  ⟨RN.MAT_CTRL, 0x80004, 0, 1, 0x0, .single, [⟨R.MAT_CTRL_SWITCH, 0, 0, 1⟩, ⟨R.MAT_CTRL_REJOIN, 0, 1, 1⟩, ⟨R.MAT_CTRL_RECOPY, 0, 2, 1⟩]⟩

theorem matCtrlReg_mem : matCtrlReg ∈ regTable := by decide

theorem matCtrlReg_wo : ∀ c ∈ matCtrlReg.slices, c.fld.ty = .wo := by decide

theorem State.writeEffect_matCtrl (s o : State) (m i w : Nat) : s.writeEffect o m RN.MAT_CTRL i w none = s.mateCtrl w := rfl

theorem State.mirrorDrops_matCtrl (s : State) (i w : Nat) : s.mirrorDrops matCtrlReg i w = false := rfl

theorem State.takeWord_mirrored {s : State} {m : Nat} (hm : s.mirrors m = true) (i w : Nat) :
    s.takeWord m matCtrlReg i w none = (s.mateCtrl w).answer .ok [] := by
  unfold State.takeWord
  dsimp only
  rw [hm, if_pos rfl, State.mirrorDrops_matCtrl, if_neg Bool.false_ne_true, State.storeWord_of_wo matCtrlReg_wo]
  exact congrArg (fun t => State.answer t .ok []) (State.writeEffect_matCtrl _ _ _ _ _)

theorem State.takeWord_matCtrl (s : State) (m i w : Nat) : s.takeWord m matCtrlReg i w none = (s.mateCtrl w).answer .ok [] := by
  cases hm : s.mirrors m
  · rw [State.takeWord_of_host hm, State.storeWord_of_wo matCtrlReg_wo, State.journalWrite_of_unjournalled (by decide)]
    exact congrArg (fun t => State.answer t .ok []) (State.writeEffect_matCtrl _ _ _ _ _)
  · exact State.takeWord_mirrored hm i w

theorem State.admits_iff {r : Reg} (hr : r ∈ regTable) (s : State) (m i : Nat) : s.admits m r.id i = true ↔ s.judge m (r.addr i) false true = .ok := by
  unfold State.admits
  rw [find_of_id hr]
  simp

/-- A write of MAT_CTRL that is admitted. -/
theorem State.regWrite_matCtrl {s : State} {m : Nat} (ha : s.admits m RN.MAT_CTRL 0 = true) (w : Nat) :
    ∃ u, s.Parked u ∧ s.regWrite m RN.MAT_CTRL 0 w = (u.mateCtrl w).completed := by
  refine ⟨_, s.parked_park m (matCtrlReg.addr 0), ?_⟩
  have hok := (State.admits_iff matCtrlReg_mem s m 0).mp ha
  obtain ⟨hlt, hal, hwin⟩ := Reg.addr_facts matCtrlReg_mem (i := 0) (by decide)
  have hp : place (matCtrlReg.addr 0) = .reg (matCtrlReg.addr 0) := (place_low hlt hwin).resolve_right (State.place_ne_nowhere_of_judge hok)
  have haligned : misaligned (matCtrlReg.addr 0) (.reg (matCtrlReg.addr 0)) = false := by simp [misaligned, hal]
  show s.regWrite m matCtrlReg.id 0 w = _
  unfold State.regWrite
  rw [find_of_id matCtrlReg_mem]
  unfold State.hostWrite State.writePriv
  simp only [hok, hp, haligned, Bool.false_eq_true, if_false]
  unfold State.writePlace
  dsimp only
  rw [State.writeRegAt_of_takesWhole matCtrlReg_mem (by decide) (by decide) (by decide), State.takeWord_matCtrl]
  rfl

/-! ### The bits of the command -/

/-- SWITCH. -/
def State.switching (s : State) (w : Nat) : State :=
  if bit w 0 = 0 then s
  else if s.mateState = mateActive && !s.taking then s.decideTake 5 false
  else if s.mateState = mateActive then s
  else s.latch R.MAT_EVT_MIRROR_WRITE

/-- REJOIN of a FAILED device. -/
def State.rejoined (s : State) (f : Nat) : State :=
  (s.mateTo mateWait).updMate (fun m => { m with waitFrom := frameAdd f 1, take := none, installed := false, wasActive := false })

def State.rejoining (s : State) (w f : Nat) : State := if bit w 1 = 1 && s.mateState = mateFailed then s.rejoined f else s

/-- RECOPY. -/
def State.recopying (s : State) (w : Nat) : State := if bit w 2 = 1 && s.isActive then s.newCopy else s

theorem State.mateCtrl_eq {s : State} (h : s.paired = true) (w : Nat) : s.mateCtrl w = ((s.switching w).rejoining w s.frame).recopying w := by
  refine if_neg ?_
  rw [h]
  exact Bool.false_ne_true

theorem State.decideTake_spec (s : State) {cause : Nat} (hc : cause < 8) (mine : Bool) : (s.decideTake cause mine).fld R.MAT_TAKE_CAUSE = cause
    ∧ (s.decideTake cause mine).fld R.MAT_TAKE_FRAME_VALUE = frameAdd s.frame 2
    ∧ (s.decideTake cause mine).mate.take = some { t := frameAdd s.frame 2, cause := cause, mine := mine, decided := true, handover := cause = 5 || cause = 6 } := by
  refine ⟨?_, ?_, rfl⟩
  · refine (State.fld_setFlag_ne _ _ _ _ (by decide)).trans ((State.fld_setFld_ne _ _ _ _ (by decide)).trans ((State.fld_setFlag_ne _ _ _ _ (by decide)).trans ?_))
    exact (State.fld_setFld_self _ _ _ _).trans (Nat.mod_eq_of_lt hc)
  · refine (State.fld_setFlag_ne _ _ _ _ (by decide)).trans ((State.fld_setFld_self _ _ _ _).trans ?_)
    exact Nat.mod_eq_of_lt (Nat.mod_lt _ (by decide))

theorem State.decideTake_state (s : State) (cause : Nat) (mine : Bool) : (s.decideTake cause mine).mateState = s.mateState :=
  State.fld_decideTake s _ _ (fq := R.MAT_STAT_STATE) 0 (by decide)

theorem State.rejoining_other {s : State} (h : s.mateState ≠ mateFailed) (w f : Nat) : s.rejoining w f = s := by
  refine if_neg ?_
  rw [Bool.and_eq_true, decide_eq_true_eq, decide_eq_true_eq]
  exact fun hf => h hf.2

/-- RECOPY leaves the mate state, a takeover and what was latched. -/
theorem State.recopying_k {K : State → Prop} (hK : Loose 0x8e000000000000000000000000000000000000000000000000000000000000000000000000000000000000000000000000000000000000000000100000000 K) {s : State} (h : K s) (w : Nat) : K (s.recopying w) := by
  unfold State.recopying
  split
  · exact State.newCopy_k hK h
  · exact h

theorem State.newCopy_take (s : State) : s.newCopy.mate.take = s.mate.take := by
  unfold State.newCopy
  split <;> rfl

theorem State.recopying_take (s : State) (w : Nat) : (s.recopying w).mate.take = s.mate.take := by
  unfold State.recopying
  split
  · exact s.newCopy_take
  · rfl

theorem State.recopying_fld {s : State} {f : Fld} (h : regOk 0x8e000000000000000000000000000000000000000000000000000000000000000000000000000000000000000000000000000000000000000000100000000 f.id = false) (w : Nat) : (s.recopying w).fld f 0 = s.fld f 0 :=
  State.recopying_k (K := fun t => t.fld f 0 = s.fld f 0) (loose_fld h) rfl w

end Sys2Proof.Machine
end

section
/-! O53, the clauses about MAT_CTRL and the decisions (R318, R320, R327, R328). -/

namespace Sys2Proof.Machine

/-! ### What parking and completing leave -/

theorem State.Parked.mate {s u : State} (h : s.Parked u) : u.mate = s.mate := by
  obtain ⟨r, rfl⟩ := h.regs
  rfl

theorem State.completed_mate (s : State) : s.completed.mate = s.mate := by
  obtain ⟨x, h⟩ := s.completed_eq
  rw [h]
  rfl

theorem State.Parked.mateState {s u : State} (h : s.Parked u) : u.mateState = s.mateState := h.fld _ 0 (by decide)

theorem State.Parked.paired {s u : State} (h : s.Parked u) : u.paired = s.paired := by
  unfold State.paired
  rw [h.mateState]

theorem State.Parked.taking {s u : State} (h : s.Parked u) : u.taking = s.taking := by
  unfold State.taking
  rw [h.mate]

theorem State.Parked.isActive {s u : State} (h : s.Parked u) : u.isActive = s.isActive := by
  unfold State.isActive
  rw [h.mateState]

theorem State.Parked.copyable {s u : State} (h : s.Parked u) : u.copyable = s.copyable := by
  unfold State.copyable
  rw [h.isActive, h.mate, h.flag 0 (by decide), h.flag 0 (by decide), h.fld _ 0 (by decide), h.fld _ 0 (by decide)]

/-! ### SWITCH -/

theorem State.switching_active {s : State} {w : Nat} (hb : bit w 0 = 1) (h : s.mateState = mateActive) (ht : s.taking = false) :
    s.switching w = s.decideTake 5 false := by
  refine (if_neg (by rw [hb]; decide)).trans (if_pos ?_)
  rw [h, ht]
  rfl

theorem State.switching_other {s : State} {w : Nat} (hb : bit w 0 = 1) (h : s.mateState ≠ mateActive) : s.switching w = s.latch R.MAT_EVT_MIRROR_WRITE := by
  have hne : ¬ (decide (s.mateState = mateActive) && !s.taking) = true := by
    rw [decide_eq_false h]
    exact Bool.false_ne_true
  exact (if_neg (by rw [hb]; decide)).trans ((if_neg hne).trans (if_neg h))

/-- Of O53, SWITCH in ACTIVE. -/
theorem switchActive {s : State} {m : Master} {w : Word} (ha : s.admits m RN.MAT_CTRL 0 = true) (hp : s.paired = true) (h : s.mateState = mateActive)
    (ht : s.taking = false) : Answers (.switch m w) s (fun t => t.resp.status = .ok
      ∧ t.fld R.MAT_TAKE_CAUSE = 5 ∧ t.fld R.MAT_TAKE_FRAME_VALUE = frameAdd s.frame 2 ∧ t.mateState = mateActive
      ∧ ∃ k, t.mate.take = some k ∧ k.mine = false ∧ k.handover = true ∧ k.done = false) := by
  obtain ⟨u, hu, hw⟩ := State.regWrite_matCtrl ha (putBits w.toNat 0 1 1)
  have hswitch := State.switching_active (s := u) (w := putBits w.toNat 0 1 1) (bit_putBits_one _ _) (hu.mateState.trans h) (hu.taking.trans ht)
  have hstate : (u.decideTake 5 false).mateState = mateActive := (u.decideTake_state 5 false).trans (hu.mateState.trans h)
  have hctrl : u.mateCtrl (putBits w.toNat 0 1 1) = (u.decideTake 5 false).recopying (putBits w.toNat 0 1 1) := by
    rw [State.mateCtrl_eq (hu.paired.trans hp), hswitch, State.rejoining_other (by rw [hstate]; decide)]
  obtain ⟨hcause, hframe, htake⟩ := u.decideTake_spec (cause := 5) (by decide) false
  rw [hu.frame] at hframe
  rw [hctrl] at hw
  refine ⟨_, congrArg Host.Outcome.next hw, State.completed_status _, ?_, ?_, ?_, ?_⟩
  · exact (State.completed_fld _ _ _).trans ((State.recopying_fld (by decide) _).trans hcause)
  · exact (State.completed_fld _ _ _).trans ((State.recopying_fld (by decide) _).trans hframe)
  · exact (State.completed_fld _ _ _).trans ((State.recopying_fld (f := R.MAT_STAT_STATE) (by decide) _).trans hstate)
  · refine ⟨_, (congrArg Mate.take (State.completed_mate _)).trans ((State.recopying_take _ _).trans htake), rfl, rfl, rfl⟩

/-- Of O53, SWITCH elsewhere. -/
theorem switchElsewhere {s : State} {m : Master} {w : Word} (ha : s.admits m RN.MAT_CTRL 0 = true) (hp : s.paired = true) (h : s.mateState ≠ mateActive)
    (hrejoin : s.mateState = mateFailed → bit w.toNat 1 = 0) : Answers (.switch m w) s (fun t =>
      t.latched R.MAT_EVT_MIRROR_WRITE = true ∧ t.mate.take = s.mate.take ∧ t.mateState = s.mateState) := by
  obtain ⟨u, hu, hw⟩ := State.regWrite_matCtrl ha (putBits w.toNat 0 1 1)
  have hswitch := State.switching_other (s := u) (w := putBits w.toNat 0 1 1) (bit_putBits_one _ _) (by rw [hu.mateState]; exact h)
  have hstate : (u.latch R.MAT_EVT_MIRROR_WRITE).mateState = s.mateState :=
    (State.fld_latch_ne u R.MAT_EVT_MIRROR_WRITE 0 0 (by decide)).trans hu.mateState
  have hstays : (u.latch R.MAT_EVT_MIRROR_WRITE).rejoining (putBits w.toNat 0 1 1) u.frame = u.latch R.MAT_EVT_MIRROR_WRITE := by
    by_cases hf : s.mateState = mateFailed
    · refine if_neg ?_
      have hbit : bit (putBits w.toNat 0 1 1) 1 = 0 := by
        have h1 := hrejoin hf
        unfold bit putBits at *
        omega
      rw [hbit]
      exact Bool.false_ne_true
    · exact State.rejoining_other (by rw [hstate]; exact hf) _ _
  rw [State.mateCtrl_eq (hu.paired.trans hp), hswitch, hstays] at hw
  refine ⟨_, congrArg Host.Outcome.next hw, ?_, ?_, ?_⟩
  · rw [State.completed_latched]
    exact State.latched_of_fld (State.recopying_fld (by decide) _) (State.latched_latch u _ _ (by decide))
  · rw [State.completed_mate, State.recopying_take, State.latch_mate, hu.mate]
  · exact (State.completed_fld _ _ _).trans ((State.recopying_fld (f := R.MAT_STAT_STATE) (by decide) _).trans hstate)

/-! ### REJOIN -/

/-- SWITCH on a device that is not ACTIVE at most latches. -/
theorem State.switching_idle {s : State} (h : s.mateState ≠ mateActive) (w : Nat) : (s.switching w).mateState = s.mateState := by
  unfold State.switching
  split
  · rfl
  · split
    · exact s.decideTake_state _ _
    · exact State.fld_latch_ne s R.MAT_EVT_MIRROR_WRITE 0 0 (by decide)

theorem State.rejoined_spec {s : State} (h : s.mateState = mateFailed) (f : Nat) : (s.rejoined f).enteredMate mateWait
    ∧ (s.rejoined f).mate.waitFrom = frameAdd f 1 := by
  have hne : s.mateState ≠ mateWait := by rw [h]; decide
  obtain ⟨hstate, hlatched⟩ := State.mateTo_enters hne (by decide)
  exact ⟨⟨hstate, hlatched⟩, rfl⟩

/-- Of O53, REJOIN. -/
theorem rejoinFailed {s : State} {m : Master} {w : Word} (ha : s.admits m RN.MAT_CTRL 0 = true) (hp : s.paired = true) (h : s.mateState = mateFailed) :
    Answers (.rejoin m w) s (fun t => t.resp.status = .ok ∧ t.enteredMate mateWait ∧ t.mate.waitFrom = frameAdd s.frame 1) := by
  obtain ⟨u, hu, hw⟩ := State.regWrite_matCtrl ha (putBits w.toNat 1 1 1)
  have hstate : (u.switching (putBits w.toNat 1 1 1)).mateState = mateFailed :=
    (State.switching_idle (by rw [hu.mateState, h]; decide) _).trans (hu.mateState.trans h)
  have hrejoin : (u.switching (putBits w.toNat 1 1 1)).rejoining (putBits w.toNat 1 1 1) u.frame =
      (u.switching (putBits w.toNat 1 1 1)).rejoined u.frame := by
    refine if_pos ?_
    rw [bit_putBits_one, hstate]
    rfl
  obtain ⟨⟨hwait, hlatched⟩, hfrom⟩ := State.rejoined_spec hstate u.frame
  have hactive : ((u.switching (putBits w.toNat 1 1 1)).rejoined u.frame).isActive = false := by
    unfold State.isActive
    rw [hwait]
    rfl
  have hcopy : ((u.switching (putBits w.toNat 1 1 1)).rejoined u.frame).recopying (putBits w.toNat 1 1 1) =
      (u.switching (putBits w.toNat 1 1 1)).rejoined u.frame := by
    refine if_neg ?_
    rw [hactive, Bool.and_false]
    exact Bool.false_ne_true
  rw [State.mateCtrl_eq (hu.paired.trans hp), hrejoin, hcopy] at hw
  refine ⟨_, congrArg Host.Outcome.next hw, State.completed_status _, ⟨?_, ?_⟩, ?_⟩
  · exact (State.completed_fld _ _ _).trans hwait
  · rw [State.completed_latched]
    exact hlatched
  · rw [State.completed_mate, hfrom, hu.frame]

/-! ### RECOPY -/

theorem State.copyable_active {s : State} (h : s.copyable = true) : s.isActive = true := by
  unfold State.copyable at h
  simp only [Bool.and_eq_true] at h
  obtain ⟨⟨⟨⟨⟨hactive, -⟩, -⟩, -⟩, -⟩, -⟩ := h
  exact hactive

/-- SWITCH leaves what decides whether a copy may start. -/
theorem State.switching_fld {s : State} {w : Nat} {f : Fld} (h : regOk 0x1e000000000000000000000000000000000000000000000000000000000000000000000000000000000000000000000000000000000000000000000100000000 f.id = false) (he : f.id ≠ R.MAT_EVT.id) :
    (s.switching w).fld f 0 = s.fld f 0 := by
  unfold State.switching
  split
  · rfl
  · split
    · exact State.fld_decideTake _ _ _ _ h
    · split
      · rfl
      · exact State.fld_latch_ne s R.MAT_EVT_MIRROR_WRITE 0 0 he

theorem State.switching_mate (s : State) (w : Nat) : (s.switching w).mate.seedBad = s.mate.seedBad ∧ (s.switching w).mate.inbound = s.mate.inbound := by
  unfold State.switching
  split
  · exact ⟨rfl, rfl⟩
  · split
    · exact ⟨rfl, rfl⟩
    · split
      · exact ⟨rfl, rfl⟩
      · rw [State.latch_mate]
        exact ⟨rfl, rfl⟩

theorem State.switching_active_same (s : State) (w : Nat) : (s.switching w).isActive = s.isActive := by
  unfold State.isActive State.mateState
  rw [State.switching_fld (by decide) (by decide)]

theorem State.switching_copyable (s : State) (w : Nat) : (s.switching w).copyable = s.copyable := by
  obtain ⟨hseed, hinbound⟩ := s.switching_mate w
  unfold State.copyable State.flag
  rw [s.switching_active_same, hseed, hinbound, State.switching_fld (by decide) (by decide), State.switching_fld (by decide) (by decide),
    State.switching_fld (by decide) (by decide), State.switching_fld (by decide) (by decide)]

/-- RECOPY on an active device, whatever else the word holds. -/
theorem State.recopy_active {s : State} {m : Master} {w : Word} (ha : s.admits m RN.MAT_CTRL 0 = true) (hp : s.paired = true) (h : s.isActive = true) :
    ∃ v : State, v.copyable = s.copyable ∧ v.fld R.MAT_COPY_PHASE = s.fld R.MAT_COPY_PHASE
      ∧ exec (.recopy m w) s = .next v.newCopy.completed := by
  obtain ⟨u, hu, hw⟩ := State.regWrite_matCtrl ha (putBits w.toNat 2 1 1)
  have hactive : (u.switching (putBits w.toNat 2 1 1)).isActive = true := (u.switching_active_same _).trans (hu.isActive.trans h)
  have hnot : (u.switching (putBits w.toNat 2 1 1)).mateState ≠ mateFailed := by
    intro hf
    unfold State.isActive at hactive
    rw [hf] at hactive
    exact Bool.false_ne_true hactive
  have hcopy : (u.switching (putBits w.toNat 2 1 1)).recopying (putBits w.toNat 2 1 1) = (u.switching (putBits w.toNat 2 1 1)).newCopy := by
    refine if_pos ?_
    rw [bit_putBits_one, hactive]
    rfl
  rw [State.mateCtrl_eq (hu.paired.trans hp), State.rejoining_other hnot, hcopy] at hw
  exact ⟨_, (u.switching_copyable _).trans hu.copyable, (State.switching_fld (by decide) (by decide)).trans (hu.fld _ 0 (by decide)),
    congrArg Host.Outcome.next hw⟩

/-- Of O53, RECOPY that starts a copy. -/
theorem recopyStarts {s : State} {m : Master} {w : Word} (ha : s.admits m RN.MAT_CTRL 0 = true) (hp : s.paired = true) (h : s.copyable = true) :
    Answers (.recopy m w) s (fun t => t.resp.status = .ok ∧ t.fld R.MAT_COPY_EPOCH = 0 ∧ t.fld R.MAT_COPY_PHASE = 1 ∧ t.fld R.MAT_COPY_SLICE = 0
      ∧ t.mate.due = List.range 65) := by
  obtain ⟨v, hv, -, hexec⟩ := State.recopy_active (w := w) ha hp (State.copyable_active h)
  have hnew : v.newCopy = v.startEpoch 0 false := if_pos (hv.trans h)
  obtain ⟨hphase, hepoch, hslice⟩ := v.startEpoch_flds 0 false
  obtain ⟨hdue, -⟩ := v.startEpoch_mate 0 false
  rw [hnew] at hexec
  refine ⟨_, hexec, State.completed_status _, (State.completed_fld _ _ _).trans hepoch, (State.completed_fld _ _ _).trans (hphase.trans rfl),
    (State.completed_fld _ _ _).trans hslice, ?_⟩
  rw [State.completed_mate, hdue]
  rfl

/-- Of O53, RECOPY that waits. -/
theorem recopyWaits {s : State} {m : Master} {w : Word} (ha : s.admits m RN.MAT_CTRL 0 = true) (hp : s.paired = true) (h : s.isActive = true)
    (hc : s.copyable = false) : Answers (.recopy m w) s (fun t => t.resp.status = .ok ∧ t.mate.want = true
      ∧ t.fld R.MAT_COPY_PHASE = s.fld R.MAT_COPY_PHASE) := by
  obtain ⟨v, hv, hphase, hexec⟩ := State.recopy_active (w := w) ha hp h
  have hnew : v.newCopy = { v with mate := { v.mate with want := true } } := if_neg (Bool.eq_false_iff.mp (hv.trans hc))
  rw [hnew] at hexec
  refine ⟨_, hexec, State.completed_status _, ?_, (State.completed_fld _ _ _).trans hphase⟩
  rw [State.completed_mate]

end Sys2Proof.Machine
end

section
/-! O53, the decision of a takeover (R318, R320, R328, R329). -/

namespace Sys2Proof.Machine

/-- A takeover of its own is under way. -/
def State.ownTake (s : State) : Bool :=
  match s.mate.take with
  | some t => !t.done && t.mine && !t.handover
  | none => false

/-- A cause is acted on. -/
def State.decideFor (s : State) : Option Nat → State
  | none => s
  | some c => s.decideUnlessVetoed c

/-- What a former active does that learns of a failure. -/
def State.takeBack (s : State) : State := if s.mateState = mateJoining && s.flag R.MAT_STAT_KEPT then s.decideUnlessVetoed 7 else s.failDevice

theorem execTakeoverDecide_eq (s : State) : execTakeoverDecide s = .next (
    if !s.isStandby || s.flag R.MAT_STAT_CONFLICT || s.ownTake then s
    else if s.gaveUp && (s.peerFailed || s.arbLink) then s.takeBack else s.decideFor s.takeCause) := by
  unfold execTakeoverDecide State.ownTake State.takeBack
  dsimp only
  cases s.takeCause <;> rfl

theorem exec_takeoverDecide {s : State} (h1 : s.isStandby = true) (h2 : s.flag R.MAT_STAT_CONFLICT = false) (h3 : s.ownTake = false) :
    exec .takeoverDecide s = .next (if s.gaveUp && (s.peerFailed || s.arbLink) then s.takeBack else s.decideFor s.takeCause) := by
  refine (execTakeoverDecide_eq s).trans (congrArg Host.Outcome.next (if_neg ?_))
  rw [h1, h2, h3]
  exact Bool.false_ne_true

theorem State.ownTake_of {s : State} (h : ∀ k, s.mate.take = some k → k.done = true ∨ k.mine = false ∨ k.handover = true) : s.ownTake = false := by
  unfold State.ownTake
  split
  · next k hk =>
    rcases h k hk with h | h | h
    · rw [h]
      rfl
    · rw [h, Bool.and_false]
      rfl
    · rw [h]
      exact Bool.and_false _
  · rfl

theorem State.ownTake_of_gaveUp {s : State} (h : s.gaveUp = true) : s.ownTake = false := by
  refine State.ownTake_of (fun k hk => .inr (.inl ?_))
  unfold State.gaveUp at h
  rw [hk] at h
  simp only [Bool.and_eq_true, Bool.not_eq_true'] at h
  exact h.1.1.1

theorem State.takeCause_lt {s : State} {c : Nat} (h : s.takeCause = some c) : c < 5 := by
  unfold State.takeCause at h
  split at h
  · split at h
    · cases h
      decide
    · cases h
  · split at h
    · split at h
      · cases h
        decide
      · split at h
        · cases h
          decide
        · split at h
          · cases h
            decide
          · cases h
    · cases h

theorem State.decideUnlessVetoed_no {s : State} (h : s.majority (1 - s.fld R.MAT_STAT_SIDE) = false) (c : Nat) :
    s.decideUnlessVetoed c = s.decideTake c true := if_neg (Bool.eq_false_iff.mp h)

theorem State.decideUnlessVetoed_yes {s : State} (h : s.majority (1 - s.fld R.MAT_STAT_SIDE) = true) (c : Nat) :
    s.decideUnlessVetoed c = s.latch R.MAT_EVT_VETO := if_pos h

theorem State.vetoed_spec (s : State) : (s.latch R.MAT_EVT_VETO).latched R.MAT_EVT_VETO = true ∧ (s.latch R.MAT_EVT_VETO).mate.take = s.mate.take
    ∧ (s.latch R.MAT_EVT_VETO).mateState = s.mateState :=
  ⟨State.latched_latch _ _ _ (by decide), congrArg Mate.take (State.latch_mate _ _ _), State.fld_latch_ne s R.MAT_EVT_VETO 0 0 (by decide)⟩

/-- Of O53, a standby that finds a cause. -/
theorem takeoverDecided {s : State} {c : Nat} (h1 : s.isStandby = true) (h2 : s.flag R.MAT_STAT_CONFLICT = false)
    (h3 : ∀ k, s.mate.take = some k → k.done = true ∨ k.mine = false ∨ k.handover = true)
    (h4 : s.gaveUp = false ∨ (s.peerFailed = false ∧ s.arbLink = false)) (h5 : s.takeCause = some c) :
    (s.majority (1 - s.fld R.MAT_STAT_SIDE) = false → Answers .takeoverDecide s (fun t => t.fld R.MAT_TAKE_CAUSE = c
        ∧ t.fld R.MAT_TAKE_FRAME_VALUE = frameAdd s.frame 2 ∧ t.mateState = s.mateState
        ∧ ∃ k, t.mate.take = some k ∧ k.t = frameAdd s.frame 2 ∧ k.mine = true ∧ k.done = false ∧ k.handover = false))
    ∧ (s.majority (1 - s.fld R.MAT_STAT_SIDE) = true → Answers .takeoverDecide s (fun t => t.latched R.MAT_EVT_VETO = true
        ∧ t.mate.take = s.mate.take ∧ t.mateState = s.mateState)) := by
  have hc := State.takeCause_lt h5
  have hback : (s.gaveUp && (s.peerFailed || s.arbLink)) = false := by
    rcases h4 with h | ⟨hf, hl⟩
    · rw [h, Bool.false_and]
    · rw [hf, hl]
      exact Bool.and_false _
  have hexec : exec .takeoverDecide s = .next (s.decideUnlessVetoed c) := by
    rw [exec_takeoverDecide h1 h2 (State.ownTake_of h3), if_neg (Bool.eq_false_iff.mp hback), h5]
    rfl
  refine ⟨fun hm => ?_, fun hm => ?_⟩
  · rw [State.decideUnlessVetoed_no hm] at hexec
    obtain ⟨hcause, hframe, htake⟩ := s.decideTake_spec (cause := c) (by omega) true
    have hplanned : (decide (c = 5) || decide (c = 6)) = false := by
      rw [decide_eq_false (by omega), decide_eq_false (by omega)]
      rfl
    exact ⟨_, hexec, hcause, hframe, s.decideTake_state _ _, _, htake, rfl, rfl, rfl, hplanned⟩
  · rw [State.decideUnlessVetoed_yes hm] at hexec
    exact ⟨_, hexec, s.vetoed_spec⟩

theorem exec_takeBack {s : State} (h1 : s.gaveUp = true) (h2 : s.isStandby = true) (h3 : s.flag R.MAT_STAT_CONFLICT = false)
    (h4 : s.peerFailed = true ∨ s.arbLink = true) : exec .takeoverDecide s = .next s.takeBack := by
  rw [exec_takeoverDecide h2 h3 (State.ownTake_of_gaveUp h1)]
  refine congrArg Host.Outcome.next (if_pos ?_)
  rw [h1, Bool.true_and, Bool.or_eq_true]
  exact h4

theorem State.standby_paired {s : State} (h : s.isStandby = true) : s.paired = true ∧ s.mateState ≠ mateFailed := by
  unfold State.isStandby at h
  unfold State.paired
  rw [Bool.or_eq_true, Bool.or_eq_true, beq_iff_eq, beq_iff_eq, beq_iff_eq] at h
  rcases h with (h | h) | h <;> rw [h] <;> decide

/-- Of O53, a former active that learns of a failure. -/
theorem takenBack {s : State} (h1 : s.gaveUp = true) (h2 : s.isStandby = true) (h3 : s.flag R.MAT_STAT_CONFLICT = false)
    (h4 : s.peerFailed = true ∨ s.arbLink = true) :
    (s.mateState = mateJoining → s.flag R.MAT_STAT_KEPT = true → s.majority (1 - s.fld R.MAT_STAT_SIDE) = false → Answers .takeoverDecide s (fun t =>
        t.fld R.MAT_TAKE_CAUSE = 7 ∧ t.fld R.MAT_TAKE_FRAME_VALUE = frameAdd s.frame 2))
    ∧ (s.mateState = mateJoining → s.flag R.MAT_STAT_KEPT = true → s.majority (1 - s.fld R.MAT_STAT_SIDE) = true → Answers .takeoverDecide s (fun t =>
        t.latched R.MAT_EVT_VETO = true ∧ t.mate.take = s.mate.take ∧ t.mateState = s.mateState))
    ∧ ((s.mateState ≠ mateJoining ∨ s.flag R.MAT_STAT_KEPT = false) → Answers .takeoverDecide s (fun t => t.enteredMate mateFailed)) := by
  have hexec := exec_takeBack h1 h2 h3 h4
  have hkept : s.mateState = mateJoining → s.flag R.MAT_STAT_KEPT = true → s.takeBack = s.decideUnlessVetoed 7 := by
    intro hj hk
    refine if_pos ?_
    rw [hj, hk]
    rfl
  refine ⟨?_, ?_, ?_⟩
  · intro hj hk hm
    rw [hkept hj hk, State.decideUnlessVetoed_no hm] at hexec
    obtain ⟨hcause, hframe, -⟩ := s.decideTake_spec (cause := 7) (by decide) true
    exact ⟨_, hexec, hcause, hframe⟩
  · intro hj hk hm
    rw [hkept hj hk, State.decideUnlessVetoed_yes hm] at hexec
    exact ⟨_, hexec, s.vetoed_spec⟩
  · intro hno
    have hfail : s.takeBack = s.failDevice := by
      refine if_neg ?_
      rw [Bool.and_eq_true, decide_eq_true_eq]
      rintro ⟨hj, hk⟩
      rcases hno with h | h
      · exact h hj
      · exact Bool.false_ne_true (h.symm.trans hk)
    obtain ⟨hpaired, hne⟩ := State.standby_paired h2
    obtain ⟨hstate, hlatched⟩ := State.failDevice_spec hpaired
    rw [hfail] at hexec
    exact ⟨_, hexec, hstate, (hlatched hne).1⟩

/-- Of O53, the return to side A. -/
theorem wtrExpiry {s : State} (h1 : s.mateState = mateActive) (h2 : s.flag R.MAT_STAT_SIDE = true) (h3 : s.flag R.MAT_CFG_REVERT = true)
    (h4 : s.fld R.MAT_PEER_STATE = mateReady) (h5 : s.taking = false) (h6 : 8000 * s.fld R.MAT_CFG_WTR ≤ s.sinceFrame s.mate.wtrFrom) :
    Answers .mateWtrExpiry s (fun t => t.fld R.MAT_TAKE_CAUSE = 6 ∧ t.fld R.MAT_TAKE_FRAME_VALUE = frameAdd s.frame 2
      ∧ t.mateState = mateActive ∧ ∃ k, t.mate.take = some k ∧ k.mine = false ∧ k.handover = true ∧ k.done = false) := by
  have hexec : exec .mateWtrExpiry s = .next (s.decideTake 6 false) := by
    refine congrArg Host.Outcome.next (if_pos ?_)
    rw [h1, h2, h3, h4, h5, decide_eq_true h6]
    rfl
  obtain ⟨hcause, hframe, htake⟩ := s.decideTake_spec (cause := 6) (by decide) false
  exact ⟨_, hexec, hcause, hframe, (s.decideTake_state _ _).trans h1, _, htake, rfl, rfl, rfl⟩

/-! ### A takeover that fails -/

/-- The output ports with a side in FAULT that the former active did not show. -/
def State.newFaults (s : State) : Nat := (List.range 256).countP (fun o => s.faultMask.testBit o && !((s.mate.take.map Takeover.mask).getD 0).testBit o)

theorem exec_takeoverFail {s : State} (h1 : s.justTook = true) (h2 : s.fld R.MAT_CFG_GRN_PORTS ≠ 0) (h3 : s.fld R.MAT_CFG_GRN_PORTS ≤ s.newFaults) :
    exec .takeoverFail s = .next s.failDevice := by
  have hcond : (s.justTook && s.fld R.MAT_CFG_GRN_PORTS != 0 && decide (s.fld R.MAT_CFG_GRN_PORTS ≤ s.newFaults)) = true := by
    rw [h1, bne_iff_ne.mpr h2, decide_eq_true h3]
    rfl
  exact congrArg Host.Outcome.next (if_pos hcond)

theorem State.failDevice_arbOut {s : State} (hp : s.paired = true) (h : s.mateState ≠ mateFailed) : s.failDevice.flag R.MAT_STAT_ARB_OUT = false := by
  have hfld : s.failDevice.fld R.MAT_STAT_ARB_OUT 0 = s.failing.fld R.MAT_STAT_ARB_OUT 0 := State.failDevice_fld hp h (by decide) (by decide)
  have hlatch : s.failing.fld R.MAT_STAT_ARB_OUT 0 = (s.mateTo mateFailed).fld R.MAT_STAT_ARB_OUT 0 :=
    State.fld_latchIf_ne (s.mateTo mateFailed) s.justTook R.MAT_EVT_TAKE_FAIL 0 0 (by decide)
  exact (State.flag_of_fld (hfld.trans hlatch)).trans (State.mateTo_arbOut h)

/-- Of O53, a takeover that fails. -/
theorem takeoverFails {s : State} {k : Takeover} (hk : s.mate.take = some k) (h1 : s.justTook = true) (hp : s.paired = true) (hne : s.mateState ≠ mateFailed)
    (h2 : s.fld R.MAT_CFG_GRN_PORTS ≠ 0)
    (h3 : s.fld R.MAT_CFG_GRN_PORTS ≤ (List.range 256).countP (fun o => s.faultMask.testBit o && !k.mask.testBit o)) :
    Answers .takeoverFail s (fun t => t.enteredMate mateFailed ∧ t.latched R.MAT_EVT_TAKE_FAIL = true ∧ t.flag R.MAT_STAT_ARB_OUT = false) := by
  have hfaults : s.fld R.MAT_CFG_GRN_PORTS ≤ s.newFaults := by
    unfold State.newFaults
    rw [hk]
    exact h3
  obtain ⟨hstate, hlatched⟩ := State.failDevice_spec hp
  obtain ⟨hchange, htook⟩ := hlatched hne
  exact ⟨_, exec_takeoverFail h1 h2 hfaults, ⟨hstate, hchange⟩, htook h1, State.failDevice_arbOut hp hne⟩

end Sys2Proof.Machine
end

section
/-! O53, the effect of a takeover (R321, R323, R324, R327, R330), and the obligation. -/

namespace Sys2Proof.Machine

/-! ### Tick T on the new active -/

/-- The gap is shown and the base configuration restored, and what is not yet ARMED is dropped. -/
def State.takePrepared (s : State) (t : Takeover) : State :=
  let s1 := if t.handover then s else s.showGap.restoreBase
  if s1.flag R.MAT_TAKE_FROM_COPY && !t.handover then s1.dropUnarmed else s1

theorem State.takePrepared_k {K : State → Prop} (hK : Loose 0x8228100000000000000800000000000000000000000000000000001e0000000000002000297c0000000000000000051a00000000800000000000007840000000000000000000009ffa00000000030000000000080250000e331ac06 K) {s : State} (h : K s)
    (t : Takeover) : K (s.takePrepared t) := by
  have hbase : K (if t.handover then s else s.showGap.restoreBase) :=
    ite_k (K := K) h (State.restoreBase_k (hK.mono (by decide)) (State.showGap_k (hK.mono (by decide)) h))
  exact ite_k (K := K) (State.dropUnarmed_k (hK.mono (by decide)) hbase) hbase

/-- The new active in ALONE. -/
def State.takeAlone (s : State) (t : Takeover) : State := ((s.takePrepared t).mateTo mateAlone).primeAll

/-- A copy whose slices have all arrived goes on to its install. -/
def State.takeInbound (s : State) : Bool := s.mate.inbound && s.fld R.MAT_COPY_PHASE == 2

/-- The new active's mate unit. -/
def State.takeUnit (s o : State) (t : Takeover) : State :=
  s.updMate (fun m => { m with
    jSeq := o.fld R.MAT_JACK_VALUE, journal := [], recv := [], dual := 0, inbound := o.takeInbound
    stage := if o.takeInbound then m.stage else [], slices := if o.takeInbound then m.slices else [], take := some { t with done := true, mask := m.peerMask } })

theorem State.takeUnit_regs (s o : State) (t : Takeover) : (s.takeUnit o t).regs = s.regs := rfl

theorem State.takeUnit_fld (s o : State) (t : Takeover) (f : Fld) : (s.takeUnit o t).fld f 0 = s.fld f 0 := by
  unfold State.fld
  rw [State.takeUnit_regs]

/-- The registers of the new active's journal. -/
def State.takeShown (s o : State) : State :=
  ((if o.takeInbound then s else s.setFld R.MAT_COPY_PHASE 0 0).setFld R.MAT_JSENT_VALUE 0 (o.fld R.MAT_JACK_VALUE)).countJournal

/-- The event of tick T. -/
def Takeover.event (t : Takeover) : Ev := if t.handover then R.MAT_EVT_HANDOVER else R.MAT_EVT_TAKEOVER

theorem State.becomeActive_eq (s : State) (t : Takeover) :
    s.becomeActive t = (((s.takeAlone t).takeUnit s t).takeShown s).latch t.event := rfl

theorem State.takeShown_fld {s o : State} {f : Fld} (h1 : f.id ≠ R.MAT_JFILL_UNITS.id) (h2 : f.id ≠ R.MAT_JSENT_VALUE.id)
    (h3 : f.id ≠ R.MAT_COPY_PHASE.id) : (s.takeShown o).fld f 0 = s.fld f 0 := by
  refine (State.countJournal_fld h1).trans ((State.fld_setFld_ne _ _ _ _ h2).trans ?_)
  split
  · rfl
  · exact State.fld_setFld_ne _ _ _ _ h3

theorem State.takeShown_mate (s o : State) : (s.takeShown o).mate = s.mate := by
  unfold State.takeShown
  split <;> rfl

theorem Takeover.event_reg (t : Takeover) : t.event.reg = R.MAT_EVT := by
  unfold Takeover.event
  split <;> rfl

theorem Takeover.event_bit (t : Takeover) : t.event.bit < t.event.reg.width := by
  unfold Takeover.event
  split <;> decide

/-- What tick T shows of a register of the device in ALONE. -/
theorem State.becomeActive_fld {s : State} {t : Takeover} {f : Fld} (h1 : f.id ≠ R.MAT_JFILL_UNITS.id) (h2 : f.id ≠ R.MAT_JSENT_VALUE.id)
    (h3 : f.id ≠ R.MAT_COPY_PHASE.id) (h4 : f.id ≠ R.MAT_EVT.id) : (s.becomeActive t).fld f 0 = (s.takeAlone t).fld f 0 := by
  rw [State.becomeActive_eq]
  have hevent : f.id ≠ t.event.reg.id := by
    rw [t.event_reg]
    exact h4
  exact (State.fld_latch_ne (((s.takeAlone t).takeUnit s t).takeShown s) t.event 0 0 hevent).trans
    ((State.takeShown_fld h1 h2 h3).trans (State.takeUnit_fld _ _ _ _))

/-- An image laid over the slices, before its journalled fields are taken. -/
def State.imageLaid (s : State) (slices : List Nat) (stage : List CopyEntry) : State :=
  let old := s.sched
  let base := slices.foldl Schedule.clearSlice old
  let whole := slices.contains 64
  let s1 := { s with sched := base, tap := if whole then {} else s.tap, links := if whole then {} else s.links
                     actions := [], queued := s.queued.filter (fun (c : Change) => match c.kind with
                       | .journal _ => false
                       | _ => true) }
  let s2 := stage.foldl State.installEntry s1
  let s2 := { s2 with links := s2.links.keep (fun src _ => !whole || (s2.sched.memberOf src).isSome) }
  let s3 := s2.setSides (s2.sides.live.keep (fun k _ => decide (old.map.find (k / 2) = s2.sched.map.find (k / 2))))
  (s3.followGroups old.map s3.sched.map).unstage (stagedFields stage)

theorem State.installImage_laid (s : State) (slices : List Nat) (stage : List CopyEntry) :
    s.installImage slices stage = (s.imageLaid slices stage).takeValues (stagedFields stage) := rfl

theorem State.imageLaid_k {K : State → Prop} (hK : Loose 0x51a000000000000000000000000000000000000000000000000000000000000000000000000000000062318c04 K)
    {s : State} (h : K s) (slices : List Nat) (stage : List CopyEntry) : K (s.imageLaid slices stage) := by
  unfold State.imageLaid
  dsimp only
  refine State.unstage_k (hK.mono (by decide)) (State.followGroups_k (hK.mono (by decide)) (State.setSides_k (hK.mono (by decide)) ?_ _) _ _) _
  refine hK.build ?_ rfl
  refine foldl_k (K := K) _ _ (hK.build h rfl) (fun t e ht => State.installEntry_k (hK.mono (by decide)) ht e)

theorem State.takeValues_state (s : State) (v : Values) : (s.takeValues v).mateState = s.mateState :=
  (State.fld_committed _ _ _ _ (by decide)).trans (State.fld_activateAll_of_not_given (f := R.MAT_STAT_STATE) (by decide) (by decide) s v 0)

/-- An image's journalled fields are staged ones, and the mate state is none of them. -/
theorem State.restoreBase_state (s : State) : s.restoreBase.mateState = s.mateState := by
  unfold State.restoreBase
  split
  · rfl
  · show (s.installImage (List.range 65) s.raise.base).mateState = s.mateState
    rw [State.installImage_laid, State.takeValues_state]
    exact State.imageLaid_k (K := fun t => t.fld R.MAT_STAT_STATE 0 = s.fld R.MAT_STAT_STATE 0) (loose_fld (by decide)) rfl _ _

theorem State.takePrepared_state (s : State) (t : Takeover) : (s.takePrepared t).mateState = s.mateState := by
  have hbase : (if t.handover then s else s.showGap.restoreBase).mateState = s.mateState := by
    split
    · rfl
    · exact (State.restoreBase_state _).trans (State.fld_showGap s (fq := R.MAT_STAT_STATE) 0 (by decide))
  have hdrop : ∀ u : State, u.mateState = s.mateState → (if u.flag R.MAT_TAKE_FROM_COPY && !t.handover then u.dropUnarmed else u).mateState = s.mateState := by
    intro u hu
    split
    · exact (State.fld_dropUnarmed u (fq := R.MAT_STAT_STATE) 0 (by decide)).trans hu
    · exact hu
  exact hdrop _ hbase

theorem State.takePrepared_mate (s : State) (t : Takeover) : (s.takePrepared t).mate = s.mate :=
  State.takePrepared_k (K := fun u => Part.same s u .mate) (loose_part s .mate (by decide) (by decide) (by decide)) rfl t

theorem State.mateTo_peerMask (s : State) (st : Nat) : (s.mateTo st).mate.peerMask = s.mate.peerMask := by
  by_cases h : s.mateState = st
  · rw [State.mateTo_same h]
  · rw [State.mateTo_other h, State.latch_mate]
    rfl

theorem State.primeAll_mate (s : State) : s.primeAll.mate = s.mate :=
  State.primeAll_k (K := fun u => Part.same s u .mate) (loose_part s .mate (by decide) (by decide) (by decide)) rfl

/-- ALONE, entered by a standby at tick T. -/
theorem State.takeAlone_spec {s : State} (h : s.mateState ≠ mateAlone) (t : Takeover) : (s.takeAlone t).enteredMate mateAlone
    ∧ (s.takeAlone t).flag R.MAT_STAT_ARB_OUT = true ∧ (s.takeAlone t).mate.peerMask = s.mate.peerMask := by
  have hne : (s.takePrepared t).mateState ≠ mateAlone := by rw [State.takePrepared_state]; exact h
  obtain ⟨hstate, hlatched⟩ := State.mateTo_enters hne (by decide)
  refine ⟨⟨(State.fld_primeAll _ (fq := R.MAT_STAT_STATE) 0 (by decide)).trans hstate, State.latched_of_fld (State.fld_primeAll _ _ (by decide)) hlatched⟩,
    (State.flag_of_fld (State.fld_primeAll _ _ (by decide))).trans (State.mateTo_arbOut hne), ?_⟩
  unfold State.takeAlone
  rw [State.primeAll_mate, State.mateTo_peerMask, State.takePrepared_mate]

theorem State.becomeActive_spec {s : State} (h : s.mateState ≠ mateAlone) (t : Takeover) : (s.becomeActive t).enteredMate mateAlone
    ∧ (s.becomeActive t).flag R.MAT_STAT_ARB_OUT = true
    ∧ (s.becomeActive t).mate.take = some { t with done := true, mask := s.mate.peerMask } ∧ (s.becomeActive t).latched t.event = true := by
  obtain ⟨⟨hstate, hlatched⟩, harb, hmask⟩ := s.takeAlone_spec h t
  have hshown : (((s.takeAlone t).takeUnit s t).takeShown s).latched R.MAT_EVT_STATE_CHANGE = true :=
    State.latched_of_fld (s := s.takeAlone t) ((State.takeShown_fld (by decide) (by decide) (by decide)).trans (State.takeUnit_fld _ _ _ _)) hlatched
  refine ⟨⟨?_, ?_⟩, ?_, ?_, ?_⟩
  · exact (State.becomeActive_fld (f := R.MAT_STAT_STATE) (by decide) (by decide) (by decide) (by decide)).trans hstate
  · rw [State.becomeActive_eq]
    exact State.latched_latch_of_latched hshown (by decide) t.event_reg 0
  · exact (State.flag_of_fld (State.becomeActive_fld (by decide) (by decide) (by decide) (by decide))).trans harb
  · rw [State.becomeActive_eq, State.latch_mate, State.takeShown_mate, ← hmask]
    rfl
  · rw [State.becomeActive_eq]
    exact State.latched_latch _ _ _ t.event_bit

/-! ### Tick T on the former active -/

/-- The former active leaves its role. -/
def State.steppedDown (s : State) (t : Takeover) : State :=
  if t.handover && s.mateState == mateActive then (s.mateTo mateReady).updMate (fun m => { m with installed := true }) else s.mateJoin true true

/-- Its journal is given up. -/
def State.journalLeft (s o : State) (t : Takeover) : State :=
  (((s.updMate (fun m => { m with journal := [], recv := [], jsents := [], take := some { t with done := true } })).setFld R.MAT_JACK_VALUE 0 o.mate.jSeq).setFld
    R.MAT_COPY_PHASE 0 0).countJournal

theorem State.stepDown_eq (s : State) (t : Takeover) : s.stepDown t = ((s.steppedDown t).journalLeft s t).latchIf t.handover R.MAT_EVT_HANDOVER := rfl

theorem State.journalLeft_fld {s o : State} {t : Takeover} {f : Fld} (h1 : f.id ≠ R.MAT_JFILL_UNITS.id) (h2 : f.id ≠ R.MAT_COPY_PHASE.id)
    (h3 : f.id ≠ R.MAT_JACK_VALUE.id) : (s.journalLeft o t).fld f 0 = s.fld f 0 :=
  (State.countJournal_fld h1).trans ((State.fld_setFld_ne _ _ _ _ h2).trans (State.fld_setFld_ne _ _ _ _ h3))

theorem State.stepDown_fld {s : State} {t : Takeover} {f : Fld} (h1 : f.id ≠ R.MAT_JFILL_UNITS.id) (h2 : f.id ≠ R.MAT_COPY_PHASE.id)
    (h3 : f.id ≠ R.MAT_JACK_VALUE.id) (h4 : f.id ≠ R.MAT_EVT.id) : (s.stepDown t).fld f 0 = (s.steppedDown t).fld f 0 := by
  rw [State.stepDown_eq]
  exact (State.fld_latchIf_ne ((s.steppedDown t).journalLeft s t) t.handover R.MAT_EVT_HANDOVER 0 0 h4).trans (State.journalLeft_fld h1 h2 h3)

theorem State.stepDown_enters {s : State} {t : Takeover} {st : Nat} (h : (s.steppedDown t).enteredMate st) : (s.stepDown t).enteredMate st := by
  have hleft : ((s.steppedDown t).journalLeft s t).latched R.MAT_EVT_STATE_CHANGE = true :=
    State.latched_of_fld (State.journalLeft_fld (by decide) (by decide) (by decide)) h.2
  refine ⟨(State.stepDown_fld (f := R.MAT_STAT_STATE) (by decide) (by decide) (by decide) (by decide)).trans h.1, ?_⟩
  rw [State.stepDown_eq]
  exact State.latched_latchIf_of_latched (e := R.MAT_EVT_STATE_CHANGE) (e' := R.MAT_EVT_HANDOVER) hleft (by decide) rfl _ _

theorem State.mateJoin_arbOut {s : State} (h : s.mateState ≠ mateJoining) (kept inst : Bool) : (s.mateJoin kept inst).flag R.MAT_STAT_ARB_OUT = false := by
  refine (State.flag_of_fld (s := s.mateTo mateJoining) ?_).trans (State.mateTo_arbOut h)
  exact State.mateJoin_fld.trans (State.joining_fld (by decide) (by decide))

theorem State.steppedDown_ready {s : State} {t : Takeover} (ht : t.handover = true) (h : s.mateState = mateActive) :
    (s.steppedDown t).enteredMate mateReady ∧ (s.steppedDown t).flag R.MAT_STAT_ARB_OUT = false := by
  have hne : s.mateState ≠ mateReady := by rw [h]; decide
  have heq : s.steppedDown t = (s.mateTo mateReady).updMate (fun m => { m with installed := true }) := by
    refine if_pos ?_
    rw [ht, h]
    rfl
  obtain ⟨hstate, hlatched⟩ := State.mateTo_enters hne (by decide)
  rw [heq]
  exact ⟨⟨hstate, hlatched⟩, State.mateTo_arbOut hne⟩

theorem State.steppedDown_joins {s : State} {t : Takeover} (ht : t.handover = false ∨ s.mateState ≠ mateActive) (h : s.mateState ≠ mateJoining) :
    (s.steppedDown t).enteredMate mateJoining ∧ (s.steppedDown t).flag R.MAT_STAT_ARB_OUT = false ∧ (s.steppedDown t).flag R.MAT_STAT_KEPT = true := by
  have heq : s.steppedDown t = s.mateJoin true true := by
    refine if_neg ?_
    rw [Bool.and_eq_true, beq_iff_eq]
    rintro ⟨hh, ha⟩
    rcases ht with h | h
    · exact Bool.false_ne_true (h.symm.trans hh)
    · exact h ha
  rw [heq]
  exact ⟨State.mateJoin_enters h _ _, State.mateJoin_arbOut h _ _, State.mateJoin_kept _ _ _⟩

/-! ### TAKEOVER_EFFECT -/

/-- Tick T of a takeover that is announced. -/
def State.takesEffect (s : State) : Option Takeover → State
  | none => s
  | some t =>
    if t.done || !frameReached s.frame t.t then s
    else if t.mine then (if s.isStandby then s.becomeActive t else s)
    else if s.isActive then s.stepDown t
    else if s.mateState = mateFailed then s.updMate (fun m => { m with take := some { t with done := true } })
    else s

theorem exec_takeoverEffect (s : State) : exec .takeoverEffect s = .next ((s.takesEffect s.mate.take).stampTick s) := by
  show execTakeoverEffect s = _
  unfold execTakeoverEffect
  cases s.mate.take <;> rfl

theorem State.takesEffect_due {s : State} {k : Takeover} (hd : k.done = false) (hf : frameReached s.frame k.t = true) : s.takesEffect (some k) =
    if k.mine then (if s.isStandby then s.becomeActive k else s)
    else if s.isActive then s.stepDown k
    else if s.mateState = mateFailed then s.updMate (fun m => { m with take := some { k with done := true } }) else s := by
  refine if_neg ?_
  rw [hd, hf]
  exact Bool.false_ne_true

theorem State.takesEffect_early {s : State} {k : Takeover} (hf : frameReached s.frame k.t = false) : s.takesEffect (some k) = s := by
  refine if_pos ?_
  rw [hf]
  exact Bool.or_true _

theorem exec_takeoverEffect_of {s u : State} {k : Takeover} (hk : s.mate.take = some k) (hu : s.takesEffect (some k) = u) :
    exec .takeoverEffect s = .next (u.stampTick s) := by
  rw [exec_takeoverEffect, hk, hu]

/-- Of O53, tick T on the new active. -/
theorem takeoverTakes {s : State} {k : Takeover} (hk : s.mate.take = some k) (hd : k.done = false) (hf : frameReached s.frame k.t = true)
    (hm : k.mine = true) (h : s.isStandby = true) : Answers .takeoverEffect s (fun t => t.enteredMate mateAlone
      ∧ t.flag R.MAT_STAT_ARB_OUT = true ∧ t.mate.take = some { k with done := true, mask := s.mate.peerMask }
      ∧ (k.handover = false → t.latched R.MAT_EVT_TAKEOVER = true) ∧ (k.handover = true → t.latched R.MAT_EVT_HANDOVER = true)) := by
  have hne : s.mateState ≠ mateAlone := by
    intro ha
    unfold State.isStandby at h
    rw [ha] at h
    exact Bool.false_ne_true h
  have heff : s.takesEffect (some k) = s.becomeActive k := by rw [State.takesEffect_due hd hf, if_pos hm, if_pos h]
  obtain ⟨⟨hstate, hlatched⟩, harb, htake, hevent⟩ := s.becomeActive_spec hne k
  refine ⟨_, exec_takeoverEffect_of hk heff, ⟨hstate, hlatched⟩, harb, htake, fun hh => ?_, fun hh => ?_⟩
  · have he : k.event = R.MAT_EVT_TAKEOVER := if_neg (by rw [hh]; exact Bool.false_ne_true)
    exact he ▸ hevent
  · have he : k.event = R.MAT_EVT_HANDOVER := if_pos hh
    exact he ▸ hevent

/-- Of O53, tick T on the former active. -/
theorem takeoverStepsDown {s : State} {k : Takeover} (hk : s.mate.take = some k) (hd : k.done = false) (hf : frameReached s.frame k.t = true)
    (hm : k.mine = false) (h : s.isActive = true) : Answers .takeoverEffect s (fun t => t.flag R.MAT_STAT_ARB_OUT = false
      ∧ (k.handover = false → t.enteredMate mateJoining ∧ t.flag R.MAT_STAT_KEPT = true)
      ∧ (k.handover = true → t.latched R.MAT_EVT_HANDOVER = true
        ∧ (s.mateState = mateActive → t.enteredMate mateReady) ∧ (s.mateState = mateAlone → t.enteredMate mateJoining))) := by
  have hne : s.mateState ≠ mateJoining := by
    intro hj
    unfold State.isActive at h
    rw [hj] at h
    exact Bool.false_ne_true h
  have heff : s.takesEffect (some k) = s.stepDown k := by
    rw [State.takesEffect_due hd hf, if_neg (Bool.eq_false_iff.mp hm), if_pos h]
  refine ⟨_, exec_takeoverEffect_of hk heff, ?_, ?_, ?_⟩
  · refine (State.flag_of_fld (State.stepDown_fld (by decide) (by decide) (by decide) (by decide))).trans ?_
    by_cases hr : k.handover = true ∧ s.mateState = mateActive
    · exact (State.steppedDown_ready hr.1 hr.2).2
    · refine (State.steppedDown_joins ?_ hne).2.1
      by_cases hh : k.handover = true
      · exact .inr (fun ha => hr ⟨hh, ha⟩)
      · exact .inl (Bool.eq_false_iff.mpr hh)
  · intro hh
    obtain ⟨henters, -, hkept⟩ := State.steppedDown_joins (t := k) (.inl hh) hne
    obtain ⟨hstate, hlatched⟩ := State.stepDown_enters henters
    exact ⟨⟨hstate, hlatched⟩, (State.flag_of_fld (State.stepDown_fld (by decide) (by decide) (by decide) (by decide))).trans hkept⟩
  · intro hh
    refine ⟨State.latched_latchIf hh _ _ _ (by decide), fun ha => ?_, fun ha => ?_⟩
    · exact State.stepDown_enters (State.steppedDown_ready hh ha).1
    · have hnot : s.mateState ≠ mateActive := by rw [ha]; decide
      exact State.stepDown_enters (State.steppedDown_joins (.inr hnot) hne).1

/-- Settles O53, event by event: what is decided, what takes effect at T, and what MAT_CTRL asks for. -/
theorem takeovers : Obligations.Takeovers := by
  unfold Obligations.Takeovers
  intro s
  refine ⟨?_, ?_, ?_, ?_, ?_, ?_, ?_, ?_⟩
  · exact fun c h1 h2 h3 h4 h5 => takeoverDecided h1 h2 h3 h4 h5
  · exact fun h1 h2 h3 h4 => takenBack h1 h2 h3 h4
  · exact fun k hk hd hf => ⟨takeoverTakes hk hd hf, takeoverStepsDown hk hd hf⟩
  · intro k hk hd hf hm h
    have hactive : s.isActive = false := by
      unfold State.isActive
      rw [h]
      rfl
    have heff : s.takesEffect (some k) = s.updMate (fun m => { m with take := some { k with done := true } }) := by
      rw [State.takesEffect_due hd hf, if_neg (Bool.eq_false_iff.mp hm), if_neg (Bool.eq_false_iff.mp hactive), if_pos h]
    exact ⟨_, exec_takeoverEffect_of hk heff, h, rfl, rfl⟩
  · intro k hk hf
    exact ⟨_, exec_takeoverEffect_of hk (State.takesEffect_early hf), s.stampTick_self⟩
  · exact fun k hk h1 hp hne h2 h3 => takeoverFails hk h1 hp hne h2 h3
  · exact wtrExpiry
  · exact fun m w ha hp => ⟨switchActive ha hp, switchElsewhere ha hp, rejoinFailed ha hp, recopyStarts ha hp, recopyWaits ha hp⟩

end Sys2Proof.Machine
end

section
/-! O54, raising that starts again at P0, stops or is held (R333, R335, R342, R502). -/

namespace Sys2Proof.Machine

/-! ### What a check of the tamper sources leaves of a raising -/

theorem State.wipe_raise (s : State) : ∃ b, s.wipe.raise = { s.raise with opLost := b } := by
  have hrings : Part.same s s.wipeLost.wipeJournal.wipeRings .raise :=
    State.wipeRings_k (K := fun t => Part.same s t .raise) (loose_part s .raise (by decide) (by decide) (by decide))
      (State.wipeJournal_k (K := fun t => Part.same s t .raise) (loose_part s .raise (by decide) (by decide) (by decide)) rfl)
  have hlost : ∀ (u : State) (g : Guarding → Guarding), u.raise = s.raise →
      ∃ b, ((if u.imgBusy then u.updRaise (fun r => { r with opLost := true }) else u).updGuard g).raise = { s.raise with opLost := b } := by
    intro u g hu
    cases u.imgBusy
    · exact ⟨s.raise.opLost, hu⟩
    · refine ⟨true, ?_⟩
      rw [← hu]
      rfl
  rw [State.wipe_eq]
  exact hlost _ _ hrings

theorem State.startResponse_raise (s : State) (mask : Nat) : ∃ b, (s.startResponse mask).raise = { s.raise with opLost := b } := by
  obtain ⟨b, hb⟩ := (s.responding mask).wipe_raise
  rw [State.responding_raise] at hb
  refine ⟨b, ?_⟩
  obtain he | he := s.startResponse_cases mask
  · rw [he]
    unfold State.responded
    rw [State.tamperRaising_raise, State.tamperPolicy_raise, hb]
  · rw [he, State.endResponse_raise]
    unfold State.responded
    rw [State.tamperRaising_raise, State.tamperPolicy_raise, hb]

/-- A check of the sources leaves a raising but for an image operation that a wipe loses. -/
theorem State.tamperCheck_raise (s : State) : ∃ b, s.tamperCheck.raise = { s.raise with opLost := b } := by
  rw [State.tamperCheck_eq]
  split
  · exact ⟨s.raise.opLost, rfl⟩
  · split
    · refine ⟨s.raise.opLost, ?_⟩
      rw [State.abandonLc_raise]
      rfl
    · exact State.startResponse_raise _ _

/-- A wipe of an empty memory leaves it empty. -/
theorem State.wipe_mem_nil {s : State} (h : s.mem = []) : s.wipe.mem = [] := by
  have hmem : s.wipe.mem = s.wiped.mem := State.wipe_of_wipeLost (K := fun t => Part.same s.wiped t .mem)
    (loose_part s.wiped .mem (by decide) (by decide) (by decide)) rfl
  rw [hmem]
  unfold State.wiped State.rekey State.clearRange
  dsimp only
  rw [h]
  rfl

theorem State.startResponse_mem_nil {s : State} (h : s.mem = []) (mask : Nat) : (s.startResponse mask).mem = [] := by
  have hresp : (s.responding mask).mem = s.mem :=
    State.responding_of_alarmed (K := fun t => Part.same s t .mem) (loose_part s .mem (by decide) (by decide) (by decide)) (State.latch_mem _ _ _)
  have hafter : (s.startResponse mask).mem = (s.responding mask).wipe.mem := State.startResponse_of_wiped
    (K := fun t => Part.same (s.responding mask).wipe t .mem) (loose_part _ .mem (by decide) (by decide) (by decide)) rfl
  rw [hafter]
  exact State.wipe_mem_nil (hresp.trans h)

theorem State.abandonLc_mem (s : State) : s.abandonLc.mem = s.mem :=
  State.abandonLc_k (K := fun t => Part.same s t .mem) (loose_part s .mem (by decide) (by decide) (by decide)) rfl

theorem State.tamperCheck_mem_nil {s : State} (h : s.mem = []) : s.tamperCheck.mem = [] := by
  rw [State.tamperCheck_eq]
  split
  · exact h
  · split
    · rw [State.abandonLc_mem]
      exact h
    · exact State.startResponse_mem_nil (s := s.updGuard (fun g => { g with seen := s.activeSources s.guarding.asserted })) h _

theorem State.abandonLc_none {s : State} (h : s.flag R.TLY_LC_STAT_PENDING = false) : s.abandonLc = s := by
  refine if_neg ?_
  rw [h, Bool.false_and]
  exact Bool.false_ne_true

theorem State.responding_of_idle (s : State) {mask : Nat} (h : (s.alarmed mask).flag R.TLY_LC_STAT_PENDING = false) :
    s.responding mask = s.alarmed mask := by
  have heq : s.responding mask = (s.alarmed mask).abandonLc := rfl
  rw [heq]
  exact State.abandonLc_none h

/-- A response with no life-cycle operation to abandon leaves what the tally holds. -/
theorem State.startResponse_tally {s : State} (h : s.flag R.TLY_LC_STAT_PENDING = false) (mask : Nat) : (s.startResponse mask).tally = s.tally := by
  have hflag : (s.alarmed mask).flag R.TLY_LC_STAT_PENDING = false :=
    (State.flag_of_fld (State.alarmed_fld (by decide) (by decide) (by decide))).trans h
  have hafter : (s.startResponse mask).tally = (s.responding mask).wipe.tally := State.startResponse_of_wiped
    (K := fun t => Part.same (s.responding mask).wipe t .tally) (loose_part _ .tally (by decide) (by decide) (by decide)) rfl
  have hwipe : (s.responding mask).wipe.tally = (s.responding mask).tally :=
    State.wipe_k (K := fun t => Part.same (s.responding mask) t .tally) (loose_part _ .tally (by decide) (by decide) (by decide)) rfl
  rw [hafter, hwipe, s.responding_of_idle hflag]
  exact State.latch_tally _ _ _

theorem State.abandonLc_tally {s : State} (h : s.flag R.TLY_LC_STAT_PENDING = false) : s.abandonLc.tally = s.tally := by
  rw [State.abandonLc_none h]

theorem State.tamperCheck_tally {s : State} (h : s.flag R.TLY_LC_STAT_PENDING = false) : s.tamperCheck.tally = s.tally := by
  rw [State.tamperCheck_eq]
  split
  · rfl
  · split
    · rw [State.abandonLc_tally]
      · rfl
      · exact (State.flag_setFld_ne _ _ _ _ (by decide)).trans h
    · exact State.startResponse_tally (s := s.updGuard (fun g => { g with seen := s.activeSources s.guarding.asserted })) h _

theorem State.tamperCheck_idle {s : State} (h : Nat.land (s.activeSources s.guarding.asserted) (0x7F - s.guarding.seen) = 0) :
    s.tamperCheck = s.updGuard (fun g => { g with seen := s.activeSources s.guarding.asserted }) := by
  rw [State.tamperCheck_eq, if_pos h]

/-! ### P0 -/

theorem State.drainTally_raise (s : State) : s.drainTally.raise = s.raise :=
  State.drainTally_k (K := fun t => Part.same s t .raise) (loose_part s .raise (by decide) (by decide) (by decide)) rfl

theorem State.drainTally_guarding (s : State) : s.drainTally.guarding = s.guarding :=
  State.drainTally_k (K := fun t => Part.same s t .guarding) (loose_part s .guarding (by decide) (by decide) (by decide)) rfl

theorem State.drainTally_fuses (s : State) : s.drainTally.fuses = s.fuses :=
  State.drainTally_k (K := fun t => Part.same s t .fuses) (loose_part s .fuses (by decide) (by decide) (by decide)) rfl

/-- What a return to P0 loses, and what it keeps. -/
theorem State.backToP0_spec (s : State) (go retry stopped : Bool) : (s.backToP0 go retry stopped).phase = 0
    ∧ (s.backToP0 go retry stopped).mem = [] ∧ (s.backToP0 go retry stopped).staged = {} ∧ (s.backToP0 go retry stopped).lanes = {}
    ∧ (s.backToP0 go retry stopped).fuses = s.fuses
    ∧ (s.backToP0 go retry stopped).raise = { running := go, jtag := s.raise.jtag, stopped := stopped, retry := retry, held := s.raise.held && !go }
    ∧ (s.backToP0 go retry stopped).guarding.asserted = s.guarding.asserted := by
  refine ⟨State.fld_setFld_self _ _ _ _, rfl, rfl, rfl, s.drainTally_fuses, ?_, ?_⟩
  · rw [← s.drainTally_raise]
    rfl
  · rw [← s.drainTally_guarding]
    rfl

theorem State.backToP0_pending (s : State) (go retry stopped : Bool) : (s.backToP0 go retry stopped).flag R.TLY_LC_STAT_PENDING = false :=
  (State.flag_setFld_ne _ _ _ _ (by decide)).trans rfl

theorem State.tamperRaising_flds (s : State) : s.tamperRaising.mem = s.mem ∧ s.tamperRaising.tally = s.tally := by
  unfold State.tamperRaising
  split <;> exact ⟨rfl, rfl⟩

/-- A raising from P0. -/
theorem State.raiseP0_cases (s : State) (retry : Bool) : s.raiseP0 retry = (s.backToP0 true retry false).tamperCheck
    ∨ s.raiseP0 retry = (s.backToP0 true retry false).tamperCheck.tamperRaising := by
  unfold State.raiseP0
  dsimp only
  split
  · exact .inl rfl
  · exact .inr rfl

theorem State.raiseP0_raise (s : State) (retry : Bool) : ∃ b, (s.raiseP0 retry).raise =
    { running := true, jtag := s.raise.jtag, stopped := false, retry := retry, held := false, opLost := b } := by
  obtain ⟨-, -, -, -, -, hraise, -⟩ := s.backToP0_spec true retry false
  obtain ⟨b, hb⟩ := (s.backToP0 true retry false).tamperCheck_raise
  rw [hraise, Bool.not_true, Bool.and_false] at hb
  refine ⟨b, ?_⟩
  obtain he | he := s.raiseP0_cases retry
  · rw [he, hb]
  · rw [he, State.tamperRaising_raise, hb]

theorem State.raiseP0_mem (s : State) (retry : Bool) : (s.raiseP0 retry).mem = [] := by
  obtain ⟨-, hmem, -⟩ := s.backToP0_spec true retry false
  obtain he | he := s.raiseP0_cases retry
  · rw [he]
    exact State.tamperCheck_mem_nil hmem
  · rw [he, (State.tamperRaising_flds _).1]
    exact State.tamperCheck_mem_nil hmem

theorem State.raiseP0_tally (s : State) (retry : Bool) : (s.raiseP0 retry).tally.raises = s.drainTally.tally.raises + 1 := by
  have htally := State.tamperCheck_tally (s.backToP0_pending true retry false)
  obtain he | he := s.raiseP0_cases retry
  · rw [he, htally]
    rfl
  · rw [he, (State.tamperRaising_flds _).2, htally]
    rfl

theorem State.backToP0_active (s : State) (retry : Bool) :
    (s.backToP0 true retry false).activeSources (s.backToP0 true retry false).guarding.asserted = Nat.land s.guarding.asserted 0x70 := by
  obtain ⟨-, -, -, -, -, hraise, hasserted⟩ := s.backToP0_spec true retry false
  have hen : (s.backToP0 true retry false).fld R.TLY_TAMP_CFG_IN_EN = 0 := (State.fld_setFld_ne _ _ _ _ (by decide)).trans rfl
  unfold State.activeSources
  rw [hraise, hasserted, hen, Bool.not_true, Bool.and_false]
  rfl

theorem State.raiseP0_quiet {s : State} (h : s.guarding.asserted = 0) (retry : Bool) : (s.raiseP0 retry).staged = {} ∧ (s.raiseP0 retry).lanes = {} := by
  obtain ⟨-, -, hstaged, hlanes, -, -, -⟩ := s.backToP0_spec true retry false
  have hactive := s.backToP0_active retry
  rw [h] at hactive
  have hnone : (s.backToP0 true retry false).activeSources (s.backToP0 true retry false).guarding.asserted = 0 := hactive.trans (Nat.zero_and _)
  have hidle := State.tamperCheck_idle (s := s.backToP0 true retry false) (by rw [hnone]; exact Nat.zero_and _)
  have heq : s.raiseP0 retry = (s.backToP0 true retry false).tamperCheck := if_pos hnone
  rw [heq, hidle]
  exact ⟨hstaged, hlanes⟩

theorem State.tamperRaising_halts {s : State} (hr : s.raise.running = true) (hp : s.phase ≤ 2) : s.tamperRaising.flag R.IMG_RAISE_HALTED = true := by
  have heq : s.tamperRaising = ((s.setFlag R.IMG_RAISE_HALTED 0 true).setFlag R.IMG_RAISE_RECOVERY 0 false).setFld R.IMG_RAISE_FAIL 0 imgTamper := by
    refine if_pos ?_
    rw [hr, decide_eq_true hp]
    rfl
  rw [heq]
  exact (State.flag_setFld_ne _ _ _ _ (by decide)).trans ((State.flag_setFlag_ne _ _ _ _ (by decide)).trans (State.flag_setFlag_self _ _ _ _ (by decide)))

theorem State.raiseP0_tampered {s : State} (h : Nat.land s.guarding.asserted 0x70 ≠ 0) (retry : Bool) :
    (s.raiseP0 retry).flag R.IMG_RAISE_HALTED = true := by
  obtain ⟨hphase, -, -, -, -, hraise, -⟩ := s.backToP0_spec true retry false
  have hactive : (s.backToP0 true retry false).activeSources (s.backToP0 true retry false).guarding.asserted ≠ 0 := by
    rw [s.backToP0_active retry]
    exact h
  have heq : s.raiseP0 retry = (s.backToP0 true retry false).tamperCheck.tamperRaising := if_neg hactive
  have hrunning : (s.backToP0 true retry false).tamperCheck.raise.running = true := by
    rw [State.tamperCheck_running, hraise]
  have hp : (s.backToP0 true retry false).tamperCheck.phase = 0 := (State.fld_tamperCheck _ _ (by decide)).trans hphase
  rw [heq]
  exact State.tamperRaising_halts hrunning (by rw [hp]; decide)

/-! ### The clauses -/

theorem exec_raiseStart {s : State} (h1 : s.raise.running = false) (h2 : s.raise.jtag = false) : exec .raiseStart s = .next (s.raiseP0 false) :=
  congrArg Host.Outcome.next ((if_neg (Bool.eq_false_iff.mp h1)).trans (if_neg (Bool.eq_false_iff.mp h2)))

/-- Of O54, RAISE_START. -/
theorem raiseStarts {s : State} (h1 : s.raise.running = false) (h2 : s.raise.jtag = false) :
    Answers .raiseStart s (fun t => t.phase = 0 ∧ t.raise.running = true ∧ t.mem = []
      ∧ t.fuses = s.fuses ∧ t.tally.raises = s.drainTally.tally.raises + 1 ∧ (s.guarding.asserted = 0 → t.staged = {} ∧ t.lanes = {})
      ∧ (Nat.land s.guarding.asserted 0x70 ≠ 0 → t.flag R.IMG_RAISE_HALTED = true)) := by
  obtain ⟨hphase, hrunning, hfuses⟩ := s.raiseP0_spec false
  exact ⟨_, exec_raiseStart h1 h2, hphase, hrunning, s.raiseP0_mem false, hfuses, s.raiseP0_tally false, fun h => State.raiseP0_quiet h false,
    fun h => State.raiseP0_tampered h false⟩

/-- Of O54, RAISE_START while the TAP holds the balls. -/
theorem raiseStartHeld {s : State} (h1 : s.raise.running = false) (h2 : s.raise.jtag = true) :
    Answers .raiseStart s (fun t => t.raise.held = false ∧ t.raise.stopped = true ∧ t.raise.running = false) := by
  have hexec : exec .raiseStart s = .next (s.updRaise (fun r => { r with held := false, stopped := true })).tamperCheck :=
    congrArg Host.Outcome.next ((if_neg (Bool.eq_false_iff.mp h1)).trans (if_pos h2))
  obtain ⟨b, hb⟩ := (s.updRaise (fun r => { r with held := false, stopped := true })).tamperCheck_raise
  refine ⟨_, hexec, ?_⟩
  show (s.updRaise (fun r => { r with held := false, stopped := true })).tamperCheck.raise.held = false
    ∧ (s.updRaise (fun r => { r with held := false, stopped := true })).tamperCheck.raise.stopped = true
    ∧ (s.updRaise (fun r => { r with held := false, stopped := true })).tamperCheck.raise.running = false
  rw [hb]
  exact ⟨rfl, rfl, h1⟩

/-- Of O54, RAISE_WATCHDOG. -/
theorem raiseAgain {s : State} (h1 : s.raising = true) (h2 : 3 ≤ s.phase) :
    Answers .raiseWatchdog s (fun t => t.phase = 0 ∧ t.raise.running = true ∧ t.raise.retry = true ∧ t.fuses = s.fuses) := by
  have hexec : exec .raiseWatchdog s = .next (s.raiseP0 true) := by
    refine congrArg Host.Outcome.next (if_pos ?_)
    rw [h1, decide_eq_true h2]
    rfl
  obtain ⟨hphase, hrunning, hfuses⟩ := s.raiseP0_spec true
  obtain ⟨b, hb⟩ := s.raiseP0_raise true
  exact ⟨_, hexec, hphase, hrunning, congrArg Raise.retry hb, hfuses⟩

/-- Of O54, the TAP leaves. -/
theorem State.jtagLeaves_stopped {s : State} (h : s.raise.stopped = true) : s.jtagLeaves.phase = 0 ∧ s.jtagLeaves.raise.running = true
    ∧ s.jtagLeaves.raise.jtag = false := by
  have heq : s.jtagLeaves = (s.updRaise (fun r => { r with jtag := false })).raiseP0 false := if_pos h
  obtain ⟨hphase, hrunning, -⟩ := (s.updRaise (fun r => { r with jtag := false })).raiseP0_spec false
  obtain ⟨b, hb⟩ := (s.updRaise (fun r => { r with jtag := false })).raiseP0_raise false
  rw [heq]
  exact ⟨hphase, hrunning, congrArg Raise.jtag hb⟩

theorem State.jtagLeaves_running {s : State} (h : s.raise.stopped = false) : s.jtagLeaves.raise = { s.raise with jtag := false } ∧ s.jtagLeaves.regs = s.regs := by
  have heq : s.jtagLeaves = s.updRaise (fun r => { r with jtag := false }) := if_neg (Bool.eq_false_iff.mp h)
  rw [heq]
  exact ⟨rfl, rfl⟩

/-- A JTAG instruction takes the balls. -/
def State.jtagStops (s : State) : State :=
  if (s.setFld R.MTX_STAT_PARK 0 8).raising then (s.setFld R.MTX_STAT_PARK 0 8).updRaise (fun r => { r with jtag := true, running := false, stopped := true })
  else (s.setFld R.MTX_STAT_PARK 0 8).updRaise (fun r => { r with jtag := true })

theorem exec_jtagTakes {s : State} {k : JtagKind} (h : s.jtagTakes k = true) : exec (.jtagExtestLoad k) s = .next s.jtagStops :=
  congrArg Host.Outcome.next (if_pos h)

theorem exec_jtagLetsGo {s : State} {k : JtagKind} (h1 : s.jtagTakes k = false) (h2 : s.raise.jtag = true) :
    exec (.jtagExtestLoad k) s = .next s.jtagLeaves :=
  congrArg Host.Outcome.next ((if_neg (Bool.eq_false_iff.mp h1)).trans (if_pos h2))

theorem exec_jtagNone {s : State} {k : JtagKind} (h1 : s.jtagTakes k = false) (h2 : s.raise.jtag = false) : exec (.jtagExtestLoad k) s = .next s :=
  congrArg Host.Outcome.next ((if_neg (Bool.eq_false_iff.mp h1)).trans (if_neg (Bool.eq_false_iff.mp h2)))

theorem State.jtagStops_spec (s : State) : s.jtagStops.raise.jtag = true ∧ s.jtagStops.fld R.MTX_STAT_PARK = 8
    ∧ (s.raising = true → s.jtagStops.raise.running = false ∧ s.jtagStops.raise.stopped = true) := by
  have hraising : (s.setFld R.MTX_STAT_PARK 0 8).raising = s.raising := by
    have hh : (s.setFld R.MTX_STAT_PARK 0 8).flag R.IMG_RAISE_HALTED = s.flag R.IMG_RAISE_HALTED := State.flag_setFld_ne _ _ _ _ (by decide)
    have hp : (s.setFld R.MTX_STAT_PARK 0 8).phase = s.phase := State.fld_setFld_ne _ _ _ _ (by decide)
    unfold State.raising
    rw [hh, hp]
    rfl
  have hpark : (s.setFld R.MTX_STAT_PARK 0 8).fld R.MTX_STAT_PARK = 8 := State.fld_setFld_self _ _ _ _
  unfold State.jtagStops
  rw [hraising]
  cases hr : s.raising
  · exact ⟨rfl, hpark, fun h => absurd h Bool.false_ne_true⟩
  · exact ⟨rfl, hpark, fun _ => ⟨rfl, rfl⟩⟩

end Sys2Proof.Machine
end

section
/-! O54, a reset and a supply's fault, and the ends of P0 and P1 (R333, R334, R337, R338, R430). -/

namespace Sys2Proof.Machine

/-! ### The loss of power and of RESET_N -/

theorem State.endResponse_fuses (s : State) : s.endResponse.fuses = s.fuses :=
  State.endResponse_k (K := fun t => Part.same s t .fuses) (loose_part s .fuses (by decide) (by decide) (by decide)) rfl

theorem State.cutWrite_fuses (s : State) : s.cutWrite.fuses = s.fuses :=
  State.cutWrite_k (K := fun t => Part.same s t .fuses) (loose_part s .fuses (by decide) (by decide) (by decide)) rfl

theorem State.cutWrite_raise (s : State) : s.cutWrite.raise = s.raise :=
  State.cutWrite_k (K := fun t => Part.same s t .raise) (loose_part s .raise (by decide) (by decide) (by decide)) rfl

theorem State.cutWrite_guarding (s : State) : s.cutWrite.guarding = s.guarding :=
  State.cutWrite_k (K := fun t => Part.same s t .guarding) (loose_part s .guarding (by decide) (by decide) (by decide)) rfl

theorem State.endResponse_seen (s : State) : s.endResponse.guarding.seen = s.guarding.seen := by
  unfold State.endResponse
  split
  · dsimp only
    rw [State.tallyAdd_guarding]
  · rfl

/-- What a supply's fault leaves of a register of the tamper unit. -/
theorem State.faulted_fld {s : State} {f : Fld} {i : Nat} (h : regOk 0x46000000000100 f.id = false) :
    s.endResponse.cutWrite.fld f i = s.fld f i :=
  State.cutWrite_k (K := fun t => t.fld f i = s.fld f i) ((loose_fld h).mono (by decide))
    (State.endResponse_k (K := fun t => t.fld f i = s.fld f i) ((loose_fld h).mono (by decide)) rfl)

/-- What a reset and a supply's fault have alike, of the state `u` from which power or RESET_N is lost. -/
theorem State.powerLost_spec {s u : State} {held : Bool} (hf : u.fuses = s.fuses) (hh : u.raise.held = held) :
    (u.backToP0 false false false).phase = 0 ∧ (u.backToP0 false false false).raise.running = false ∧ (u.backToP0 false false false).mem = []
      ∧ (u.backToP0 false false false).staged = {} ∧ (u.backToP0 false false false).lanes = {} ∧ (u.backToP0 false false false).fuses = s.fuses
      ∧ (u.backToP0 false false false).raise.held = held := by
  obtain ⟨hphase, hmem, hstaged, hlanes, hfuses, hraise, -⟩ := u.backToP0_spec false false false
  refine ⟨hphase, congrArg Raise.running hraise, hmem, hstaged, hlanes, hfuses.trans hf, ?_⟩
  rw [hraise, hh]
  exact Bool.and_true held

/-- The registers of the tamper unit that a supply's fault keeps. -/
def State.tamperKept (u s : State) : State :=
  (u.setFld R.TLY_TAMP_CFG_POLICY 0 (s.fld R.TLY_TAMP_CFG_POLICY)).setFld R.TLY_TAMP_CFG_IN_EN 0 (s.fld R.TLY_TAMP_CFG_IN_EN)

theorem exec_supplyFault (s : State) : exec .supplyFault s = .next (((s.endResponse.cutWrite.backToP0 false false false).tamperKept
    s.endResponse.cutWrite).updGuard (fun g => { g with seen := s.endResponse.cutWrite.guarding.seen })) := rfl

/-- Of O54, RESET_ASSERT and SUPPLY_FAULT. -/
theorem powerLost (s : State) : ∀ c ∈ [Instr.resetAssert, .supplyFault], Answers c s (fun t => t.phase = 0 ∧ t.raise.running = false ∧ t.mem = [] ∧ t.staged = {}
        ∧ t.lanes = {} ∧ t.fuses = s.fuses ∧ t.raise.held = (c == .resetAssert || s.raise.held)
        ∧ (c = .supplyFault → t.fld R.TLY_TAMP_CFG_POLICY = s.fld R.TLY_TAMP_CFG_POLICY % 2 ^ R.TLY_TAMP_CFG_POLICY.width
          ∧ t.fld R.TLY_TAMP_CFG_IN_EN = s.fld R.TLY_TAMP_CFG_IN_EN % 2 ^ R.TLY_TAMP_CFG_IN_EN.width ∧ t.guarding.seen = s.guarding.seen)) := by
  intro c hc
  obtain rfl | rfl := List.mem_pair.mp hc
  · obtain ⟨hphase, hrun, hmem, hstaged, hlanes, hfuses, hheld⟩ := State.powerLost_spec (s := s) (held := true)
      (u := ((s.endResponse.updTally (fun t => { t with writing := none })).updRaise (fun r => { r with held := true }))) s.endResponse_fuses rfl
    exact ⟨_, rfl, hphase, hrun, hmem, hstaged, hlanes, hfuses, hheld, fun h => absurd h (by decide)⟩
  · obtain ⟨hphase, hrun, hmem, hstaged, hlanes, hfuses, hheld⟩ := State.powerLost_spec (u := s.endResponse.cutWrite)
      (s.endResponse.cutWrite_fuses.trans s.endResponse_fuses) (congrArg Raise.held (s.endResponse.cutWrite_raise.trans s.endResponse_raise))
    refine ⟨_, exec_supplyFault s, ?_, hrun, hmem, hstaged, hlanes, hfuses, hheld, fun _ => ⟨?_, ?_, ?_⟩⟩
    · exact (State.fld_setFld_ne _ _ _ _ (by decide)).trans ((State.fld_setFld_ne _ _ _ _ (by decide)).trans hphase)
    · refine ((State.fld_setFld_ne _ _ _ _ (by decide)).trans (State.fld_setFld_self _ _ _ _)).trans ?_
      rw [State.faulted_fld (by decide)]
    · refine (State.fld_setFld_self _ _ _ _).trans ?_
      rw [State.faulted_fld (by decide)]
    · exact (congrArg Guarding.seen s.endResponse.cutWrite_guarding).trans s.endResponse_seen

/-! ### The end of P0 -/

theorem State.enterPhase_phase (s : State) {k : Nat} (h : k < 8) : (s.enterPhase k).phase = k :=
  (State.fld_setFld_self _ _ _ _).trans (Nat.mod_eq_of_lt h)

theorem State.enterPhase_fld {s : State} {k i : Nat} {f : Fld} (h : regOk 0x20000000000000400000000000000000000000000000000000000000000000000000000000000000000000000000000000000000000000000000000000000000000000000000100 f.id = false) : (s.enterPhase k).fld f i = s.fld f i :=
  State.enterPhase_k (K := fun t => t.fld f i = s.fld f i) (loose_fld h) rfl k

theorem State.enterPhase_raise (s : State) (k : Nat) : (s.enterPhase k).raise = s.raise :=
  State.enterPhase_k (K := fun t => Part.same s t .raise) (loose_part s .raise (by decide) (by decide) (by decide)) rfl k

theorem State.enterPhase_fuses (s : State) (k : Nat) : (s.enterPhase k).fuses = s.fuses :=
  State.enterPhase_k (K := fun t => Part.same s t .fuses) (loose_part s .fuses (by decide) (by decide) (by decide)) rfl k

theorem State.enterPhase_ddr (s : State) (k : Nat) : (s.enterPhase k).ddr = s.ddr :=
  State.enterPhase_k (K := fun t => Part.same s t .ddr) (loose_part s .ddr (by decide) (by decide) (by decide)) rfl k

/-- The device as the fuses are read. -/
def State.fusesRead (s : State) (f : Fuses) (side slow : Bool) : State :=
  (((s.blow f).settlePending).setFlag R.MAT_STAT_SIDE 0 side).updRaise (fun r => { r with slow := slow })

theorem exec_fuseReadDone {s : State} (f : Fuses) (side slow : Bool) (h1 : s.raising = true) (h2 : s.phase = 0) :
    exec (.fuseReadDone f side slow) s = .next ((s.fusesRead f side slow).enterPhase 1) := by
  refine congrArg Host.Outcome.next (if_pos ?_)
  rw [h1, h2]
  rfl

/-- Of O54, FUSE_READ_DONE. -/
theorem fusesAreRead {s : State} (f : Fuses) (side slow : Bool) (h1 : s.raising = true) (h2 : s.phase = 0) :
    Answers (.fuseReadDone f side slow) s (fun t => t.phase = 1 ∧ t.flag R.MAT_STAT_SIDE = side ∧ t.raise.slow = slow
      ∧ FusesForward s.fuses t.fuses) := by
  have hfuses : (s.fusesRead f side slow).fuses = mergeFuses s.fuses f :=
    State.settlePending_k (K := fun t => Part.same (s.blow f) t .fuses) (loose_part _ .fuses (by decide) (by decide) (by decide)) rfl
  refine ⟨_, exec_fuseReadDone f side slow h1 h2, State.enterPhase_phase _ (by decide), ?_, ?_, ?_⟩
  · refine (State.flag_of_fld (State.enterPhase_fld (by decide))).trans ?_
    exact State.flag_setFlag_self _ _ _ _ (by decide)
  · rw [State.enterPhase_raise]
    rfl
  · rw [State.enterPhase_fuses, hfuses]
    exact FusesForward.merge _ _

/-! ### Raising that halts -/

theorem State.haltRaise_fld {s : State} {code sect rcode roff i : Nat} {f : Fld} (h : regOk 0x3b800000000000000000000000000000000000000000000000000000000000000000000000000000000000000000000000000000000000000000000000000000000 f.id = false) :
    (s.haltRaise code sect rcode roff).fld f i = s.fld f i :=
  State.haltRaise_k (K := fun t => t.fld f i = s.fld f i) (loose_fld h) rfl _ _ _ _

theorem State.haltRaise_halted (s : State) (code sect rcode roff : Nat) : (s.haltRaise code sect rcode roff).flag R.IMG_RAISE_HALTED = true :=
  (State.flag_setFlag_ne _ _ _ _ (by decide)).trans (State.flag_setFlag_self _ _ _ _ (by decide))

/-- The first failure of a raising is kept. -/
theorem State.noteFail_fail {s : State} (h : s.fld R.IMG_RAISE_FAIL = 0) (code sect rcode roff : Nat) :
    (s.noteFail code sect rcode roff).fld R.IMG_RAISE_FAIL = code % 2 ^ R.IMG_RAISE_FAIL.width := by
  have heq : s.noteFail code sect rcode roff = (((s.setFld R.IMG_RAISE_FAIL 0 code).setFld R.IMG_RAISE_DETAIL_SECTION 0 sect).setFld R.IMG_RAISE_DETAIL_CODE 0
      rcode).setFld R.IMG_RAISE_DETAIL_OFFSET 0 (min roff 0xFFF) := if_neg (not_not_intro h)
  rw [heq]
  simp (disch := decide) only [State.fld_setFld_ne]
  exact State.fld_setFld_self _ _ _ _

theorem State.haltRaise_fail {s : State} (h : s.fld R.IMG_RAISE_FAIL = 0) (code sect rcode roff : Nat) :
    (s.haltRaise code sect rcode roff).fld R.IMG_RAISE_FAIL = code % 2 ^ R.IMG_RAISE_FAIL.width := by
  refine (State.fld_setFld_ne _ _ _ _ (by decide)).trans ((State.fld_setFld_ne _ _ _ _ (by decide)).trans ?_)
  exact State.noteFail_fail h code sect rcode roff

theorem State.haltRaise_ddr (s : State) (code sect rcode roff : Nat) : (s.haltRaise code sect rcode roff).ddr = s.ddr :=
  State.haltRaise_k (K := fun t => Part.same s t .ddr) (loose_part s .ddr (by decide) (by decide) (by decide)) rfl _ _ _ _

theorem State.flag_of_raising {s : State} (h : s.raising = true) : s.flag R.IMG_RAISE_HALTED = false := by
  unfold State.raising at h
  rw [Bool.and_eq_true, Bool.and_eq_true, Bool.not_eq_true'] at h
  exact h.1.2

/-! ### The end of P1 -/

/-- The device as the memories have been cleared, at the start of P2. -/
def State.memCleared (s : State) : State :=
  ((s.loadFuses.setFld R.TLY_LC_NONCE_NONCE 0 (Config.nonce s.free)).drawn.rekey.trainLinks).enterPhase 2

theorem exec_memoryClearDone {s : State} (fl : FlashInfo) (h1 : s.raising = true) (h2 : s.phase = 1) : exec (.memoryClearDone fl) s
    = .next (if fl.sfdp then s.memCleared.foundFlash fl else (s.memCleared.foundFlash fl).haltRaise imgNoFlash noSection 0 0) := by
  refine congrArg Host.Outcome.next (if_pos ?_)
  rw [h1, h2]
  rfl

theorem State.keyed_fld (s : State) (f : Fld) (i : Nat) : s.drawn.rekey.trainLinks.fld f i = s.fld f i := rfl

theorem State.memCleared_fld {s : State} {f : Fld} {i : Nat} (h : regOk 0x20000000000000400000000000000000000000000000000000000000000000000000000000000000000000000000000000000000000000000000000000000000000000000000100 f.id = false) :
    s.memCleared.fld f i = (s.loadFuses.setFld R.TLY_LC_NONCE_NONCE 0 (Config.nonce s.free)).fld f i :=
  (State.enterPhase_fld h).trans (State.keyed_fld _ f i)

theorem State.loadFuses_serial (s : State) : s.loadFuses.fld R.DEV_SERIAL_SERIAL = s.fuses.serial.toNat % 2 ^ R.DEV_SERIAL_SERIAL.width := by
  unfold State.loadFuses
  extract_lets f sp x gone s1 s2 s3 sb s4
  have h1 : s1.fld R.DEV_SERIAL_SERIAL = s.fuses.serial.toNat % 2 ^ R.DEV_SERIAL_SERIAL.width := by
    simp (disch := decide) only [s1, State.fld_setFld_ne]
    exact State.fld_setFld_self _ _ _ _
  have h2 : s2.fld R.DEV_SERIAL_SERIAL = s1.fld R.DEV_SERIAL_SERIAL := by simp (disch := decide) only [s2, State.fld_setFld_ne]
  have h3 : s3.fld R.DEV_SERIAL_SERIAL = s2.fld R.DEV_SERIAL_SERIAL := by simp (disch := decide) only [s3, State.fld_setFld_ne]
  have hb : sb.fld R.DEV_SERIAL_SERIAL = s3.fld R.DEV_SERIAL_SERIAL := by simp (disch := decide) only [sb, State.fld_setFld_ne]
  have h4 : s4.fld R.DEV_SERIAL_SERIAL = sb.fld R.DEV_SERIAL_SERIAL := State.fld_setFld_ne sb 0 0 _ (by decide)
  rw [State.fld_setFld_ne _ _ _ _ (by decide), State.fld_setFld_ne _ _ _ _ (by decide), h4, hb, h3, h2, h1]

theorem State.memCleared_serial (s : State) : s.memCleared.fld R.DEV_SERIAL_SERIAL = s.fuses.serial.toNat := by
  rw [State.memCleared_fld (by decide), State.fld_setFld_ne _ _ _ _ (by decide), State.loadFuses_serial]
  exact Nat.mod_eq_of_lt s.fuses.serial.isLt

theorem State.memCleared_nonce (s : State) : s.memCleared.fld R.TLY_LC_NONCE_NONCE = Config.nonce s.free % 2 ^ 32 := by
  rw [State.memCleared_fld (by decide)]
  exact State.fld_setFld_self _ _ _ _

theorem State.memCleared_keys (s : State) : s.memCleared.ddr.keys = s.ddr.keys + 1 := by
  have hload : s.loadFuses.ddr = s.ddr :=
    State.loadFuses_k (K := fun t => Part.same s t .ddr) (loose_part s .ddr (by decide) (by decide) (by decide)) rfl
  have hkeys : s.memCleared.ddr.keys = s.loadFuses.ddr.keys + 1 := (congrArg Ddr.keys (State.enterPhase_ddr _ _)).trans rfl
  rw [hkeys, hload]

theorem State.memCleared_unset {s : State} {f : Fld} (h : regOk 0x9401fc000000000000000000002008010000000000001a00100000000004000000000000000000000000000000000000000000000000000000000000c0000000000000000000000000000000000000000000000000000020000000000100 f.id = false)
    (hn : f.id ≠ R.TLY_LC_NONCE_NONCE.id) (he : regOk 0x20000000000000400000000000000000000000000000000000000000000000000000000000000000000000000000000000000000000000000000000000000000000000000000100 f.id = false) : s.memCleared.fld f = s.fld f := by
  rw [State.memCleared_fld he, State.fld_setFld_ne _ _ _ _ hn]
  exact State.loadFuses_k (K := fun t => t.fld f = s.fld f) ((loose_fld h).mono (by decide)) rfl

theorem State.foundFlash_fld {s : State} {fl : FlashInfo} {f : Fld} {i : Nat} (h : regOk 0xf000000000000000000000000000000000000000000000000000000000000000000000000000000000000000000000000000000000000000000000000000000000000000000 f.id = false) :
    (s.foundFlash fl).fld f i = s.fld f i :=
  State.foundFlash_k (K := fun t => t.fld f i = s.fld f i) (loose_fld h) rfl fl

theorem State.foundFlash_ddr (s : State) (fl : FlashInfo) : (s.foundFlash fl).ddr = s.ddr :=
  State.foundFlash_k (K := fun t => Part.same s t .ddr) (loose_part s .ddr (by decide) (by decide) (by decide)) rfl fl

theorem State.foundFlash_ok {s : State} {fl : FlashInfo} (h : fl.sfdp = true) : (s.foundFlash fl).flag R.IMG_FLASH_SFDP_OK = true
    ∧ (s.foundFlash fl).fld R.IMG_FLASH_DENSITY = fl.density.val := by
  have heq : s.foundFlash fl = (((s.setFld R.IMG_FLASH_MODE 0 (if fl.profile && !s.raise.slow then 2 else 0)).setFld R.IMG_FLASH_CLOCK 0
      (if fl.profile && !s.raise.slow then min 200 fl.clock.toNat else 50)).setFld R.IMG_FLASH_DENSITY 0 fl.density.val).setFlag R.IMG_FLASH_SFDP_OK 0 true :=
    if_pos h
  rw [heq]
  refine ⟨State.flag_setFlag_self _ _ _ _ (by decide), (State.fld_setFld_ne _ _ _ _ (by decide)).trans ((State.fld_setFld_self _ _ _ _).trans ?_)⟩
  exact Nat.mod_eq_of_lt fl.density.isLt

theorem State.foundFlash_none {s : State} {fl : FlashInfo} (h : fl.sfdp = false) : (s.foundFlash fl).flag R.IMG_FLASH_SFDP_OK = false := by
  have heq : s.foundFlash fl = s.setFlag R.IMG_FLASH_SFDP_OK 0 false := if_neg (Bool.eq_false_iff.mp h)
  rw [heq]
  exact State.flag_setFlag_self _ _ _ _ (by decide)

/-- Of O54, MEMORY_CLEAR_DONE. -/
theorem memoryCleared {s : State} (fl : FlashInfo) (h1 : s.raising = true) (h2 : s.phase = 1) :
    Answers (.memoryClearDone fl) s (fun t => t.phase = 2
        ∧ t.fld R.DEV_SERIAL_SERIAL = s.fuses.serial.toNat ∧ t.fld R.TLY_LC_NONCE_NONCE = Config.nonce s.free % 2 ^ 32
        ∧ t.ddr.keys = s.ddr.keys + 1 ∧ t.flag R.IMG_FLASH_SFDP_OK = fl.sfdp
        ∧ (fl.sfdp = true → t.fld R.IMG_FLASH_DENSITY = fl.density.val)
        ∧ t.flag R.IMG_RAISE_HALTED = (!fl.sfdp)
        ∧ (fl.sfdp = false → s.fld R.IMG_RAISE_FAIL = 0 → t.fld R.IMG_RAISE_FAIL = imgNoFlash)) := by
  refine ⟨_, exec_memoryClearDone fl h1 h2, ?_⟩
  have hphase : (s.memCleared.foundFlash fl).phase = 2 := (State.foundFlash_fld (by decide)).trans (State.enterPhase_phase _ (by decide))
  have hserial : (s.memCleared.foundFlash fl).fld R.DEV_SERIAL_SERIAL = s.fuses.serial.toNat := (State.foundFlash_fld (by decide)).trans s.memCleared_serial
  have hnonce : (s.memCleared.foundFlash fl).fld R.TLY_LC_NONCE_NONCE = Config.nonce s.free % 2 ^ 32 :=
    (State.foundFlash_fld (by decide)).trans s.memCleared_nonce
  have hkeys : (s.memCleared.foundFlash fl).ddr.keys = s.ddr.keys + 1 := (congrArg Ddr.keys (State.foundFlash_ddr _ _)).trans s.memCleared_keys
  cases hs : fl.sfdp
  · refine ⟨(State.haltRaise_fld (by decide)).trans hphase, (State.haltRaise_fld (by decide)).trans hserial, (State.haltRaise_fld (by decide)).trans hnonce,
      (congrArg Ddr.keys (State.haltRaise_ddr _ _ _ _ _)).trans hkeys, (State.flag_of_fld (State.haltRaise_fld (by decide))).trans (State.foundFlash_none hs),
      fun h => absurd h Bool.false_ne_true, State.haltRaise_halted _ _ _ _ _, fun _ hfail => ?_⟩
    refine (State.haltRaise_fail ?_ _ _ _ _).trans rfl
    exact (State.foundFlash_fld (by decide)).trans ((State.memCleared_unset (by decide) (by decide) (by decide)).trans hfail)
  · refine ⟨hphase, hserial, hnonce, hkeys, (State.foundFlash_ok hs).1, fun _ => (State.foundFlash_ok hs).2, ?_, fun h => absurd h Bool.false_ne_true.symm⟩
    refine (State.flag_of_fld ((State.foundFlash_fld (by decide)).trans (State.memCleared_unset (by decide) (by decide) (by decide)))).trans ?_
    exact State.flag_of_raising h1

end Sys2Proof.Machine
end

section
/-! O54, DDR5 trains (R430). -/

namespace Sys2Proof.Machine

/-- A channel trains. -/
def State.trainChannel (s : State) (temp failed : BitVec 8) (n : Nat) : State :=
  let t1 := ((s.setFld R.DDR_CHn_STAT_STATE n (if failed.getLsbD n then 3 else 1)).setFld R.DDR_CHn_STAT_TEMP n temp.toNat).satFld R.DDR_CHn_STAT_TRAINS n 1
  if failed.getLsbD n then (t1.latch R.DDR_EVT_DDR_DOWN).tallyAdd tallyDdrDown 0 0 [n] else t1

/-- The sizes that are read of the DIMMs, and what is online. -/
def State.sizedDdr (s : State) (config : Fin 4) (failed : BitVec 8) : State :=
  (((s.setFld R.DDR_STAT_INSTALLED 0 (installedGb config.val)).setFld R.DDR_STAT_USABLE 0 (7 * installedGb config.val / 8)).setFld R.DDR_STAT_CONFIG 0
    config.val).setFld R.DDR_STAT_ONLINE 0 (onlineBits (fun n => !failed.getLsbD n))

/-- The first `k` channels train, one after another. -/
def State.trainChannels (s : State) (temp failed : BitVec 8) (k : Nat) : State :=
  (List.range k).foldl (fun t n => t.trainChannel temp failed n) s

theorem State.trainChannels_succ (s : State) (temp failed : BitVec 8) (k : Nat) :
    s.trainChannels temp failed (k + 1) = (s.trainChannels temp failed k).trainChannel temp failed k := by
  unfold State.trainChannels
  rw [List.range_succ, List.foldl_append, List.foldl_cons, List.foldl_nil]

/-- Beyond its state a channel's training changes its temperature and its count, and may latch DDR_DOWN. -/
theorem State.trainChannel_of_set {K : State → Prop} (hK : Loose 0x1840000000000000000000000000000000000000000000000000000000000000000000000000000000000000000000000000000000000000000000000000000000000000000000000000000000004000000000c00 K) {s : State}
    (temp failed : BitVec 8) (n : Nat) (h : K (s.setFld R.DDR_CHn_STAT_STATE n (if failed.getLsbD n then 3 else 1))) : K (s.trainChannel temp failed n) := by
  have hset : K (((s.setFld R.DDR_CHn_STAT_STATE n (if failed.getLsbD n then 3 else 1)).setFld R.DDR_CHn_STAT_TEMP n temp.toNat).satFld
      R.DDR_CHn_STAT_TRAINS n 1) := State.satFld_k hK (State.setFld_k hK h _ _ _ (by decide)) _ _ _ (by decide)
  exact ite_k (State.tallyAdd_k (hK.mono (by decide)) (State.latch_k hK (by decide) hset _ _ (by decide)) _ _ _ _) hset

/-- What a channel's training writes, its state among it. -/
theorem State.trainChannel_fld {s : State} {temp failed : BitVec 8} {n i : Nat} {f : Fld}
    (h : regOk 0x1840000000000000000000000000000000000000000000000000000000000000000000000000000000000000000000000000000000000000000000000000000000000000000000000000000000004000000000c00 f.id = false) (hf : f.id ≠ R.DDR_CHn_STAT_STATE.id) :
    (s.trainChannel temp failed n).fld f i = s.fld f i :=
  State.trainChannel_of_set (K := fun t => t.fld f i = s.fld f i) (loose_fld h) _ _ _ (State.fld_setFld_ne _ _ _ _ hf)

theorem State.trainChannel_state {s : State} {temp failed : BitVec 8} {n : Nat} :
    (s.trainChannel temp failed n).fld R.DDR_CHn_STAT_STATE n = if failed.getLsbD n then 3 else 1 := by
  refine State.trainChannel_of_set (K := fun t => t.fld R.DDR_CHn_STAT_STATE n = if failed.getLsbD n then 3 else 1) (loose_fld (by decide)) _ _ _ ?_
  rw [State.fld_setFld_self]
  split <;> rfl

theorem State.trainChannel_other {s : State} {temp failed : BitVec 8} {n m : Nat} (h : m ≠ n) :
    (s.trainChannel temp failed n).fld R.DDR_CHn_STAT_STATE m = s.fld R.DDR_CHn_STAT_STATE m :=
  State.trainChannel_of_set (K := fun t => t.fld R.DDR_CHn_STAT_STATE m = s.fld R.DDR_CHn_STAT_STATE m) (loose_fld (by decide)) _ _ _
    (State.fld_setFld_inst _ _ _ h)

theorem State.trainChannels_fld {s : State} {temp failed : BitVec 8} {k i : Nat} {f : Fld}
    (h : regOk 0x1840000000000000000000000000000000000000000000000000000000000000000000000000000000000000000000000000000000000000000000000000000000000000000000000000000000004000000000c00 f.id = false) (hf : f.id ≠ R.DDR_CHn_STAT_STATE.id) :
    (s.trainChannels temp failed k).fld f i = s.fld f i :=
  foldl_k (K := fun t => t.fld f i = s.fld f i) _ _ rfl fun _ _ ht => (State.trainChannel_fld h hf).trans ht

/-- Each channel that has trained has its state. -/
theorem State.trainChannels_state (s : State) (temp failed : BitVec 8) {k n : Nat} (h : n < k) :
    (s.trainChannels temp failed k).fld R.DDR_CHn_STAT_STATE n = if failed.getLsbD n then 3 else 1 := by
  induction k with
  | zero => exact absurd h (Nat.not_lt_zero n)
  | succ k ih =>
    rw [State.trainChannels_succ]
    by_cases hk : n = k
    · rw [hk]
      exact State.trainChannel_state
    · rw [State.trainChannel_other hk]
      exact ih (by omega)

/-- The staging region is placed at the top of what can be used. -/
def State.placeStage (s : State) (config : Fin 4) : State :=
  (s.setRegion 3 (7 * installedGb config.val / 8 * 1024 - 256) 256).setFld R.IMG_STAGE_BASE_BASE 0
    (ddrBase + (7 * installedGb config.val / 8 * 1024 - 256) * 2 ^ 20)

theorem exec_ddrTrainingDone {s : State} (config : Fin 4) (temp failed : BitVec 8) (h1 : s.raise.running = true) (h2 : s.phase = 2)
    (h3 : s.ddrTrained = false) : exec (.ddrTrainingDone config temp failed) s
      = .next (if 2 ≤ (List.range 8).countP (fun n => failed.getLsbD n) then ((s.sizedDdr config failed).trainChannels temp failed 8).haltRaise imgDdr noSection 0 0
        else (((s.sizedDdr config failed).trainChannels temp failed 8).placeStage config).moveMailbox.tryRecovery) := by
  refine congrArg Host.Outcome.next (if_neg ?_)
  rw [h1, h2, h3]
  exact Bool.false_ne_true

theorem State.sizedDdr_spec (s : State) (config : Fin 4) (failed : BitVec 8) : (s.sizedDdr config failed).fld R.DDR_STAT_INSTALLED = installedGb config.val
    ∧ (s.sizedDdr config failed).fld R.DDR_STAT_USABLE = 7 * installedGb config.val / 8
    ∧ (s.sizedDdr config failed).fld R.DDR_STAT_CONFIG = config.val := by
  have hin : ∀ c : Fin 4, installedGb c.val < 2 ^ R.DDR_STAT_INSTALLED.width := by decide
  have hus : ∀ c : Fin 4, 7 * installedGb c.val / 8 < 2 ^ R.DDR_STAT_USABLE.width := by decide
  have hconf : ∀ c : Fin 4, c.val < 2 ^ R.DDR_STAT_CONFIG.width := by decide
  unfold State.sizedDdr
  refine ⟨?_, ?_, ?_⟩ <;> simp (disch := decide) only [State.fld_setFld_ne, State.fld_setFld_self]
  · exact Nat.mod_eq_of_lt (hin config)
  · exact Nat.mod_eq_of_lt (hus config)
  · exact Nat.mod_eq_of_lt (hconf config)

theorem State.tryRecovery_fld {s : State} {f : Fld} {i : Nat} (h : regOk 0x1000000000000000000000000000000000000000000000000000000000000000000000000000000000000000000000000000000000000000000000000000000000 f.id = false) : s.tryRecovery.fld f i = s.fld f i :=
  State.tryRecovery_k (K := fun t => t.fld f i = s.fld f i) (loose_fld h) rfl

theorem State.moveMailbox_fld {s : State} {f : Fld} {i : Nat} (h : regOk 0x20000001000 f.id = false) : s.moveMailbox.fld f i = s.fld f i :=
  State.moveMailbox_k (K := fun t => t.fld f i = s.fld f i) (loose_fld h) rfl

theorem State.placed_fld {s : State} {config : Fin 4} {f : Fld} {i : Nat}
    (h : regOk 0xc000000000000000000000000001000000000001000000000000000000000000000000000000000000000000000000000000000000000000000000000000000000000000000000000000000000000020000001000 f.id = false) :
    (s.placeStage config).moveMailbox.tryRecovery.fld f i = s.fld f i :=
  State.tryRecovery_k (K := fun t => t.fld f i = s.fld f i) ((loose_fld h).mono (by decide))
    (State.moveMailbox_k (K := fun t => t.fld f i = s.fld f i) ((loose_fld h).mono (by decide))
      (State.setFld_k (K := fun t => t.fld f i = s.fld f i) (loose_fld h)
        (State.setRegion_k (K := fun t => t.fld f i = s.fld f i) ((loose_fld h).mono (by decide)) rfl _ _ _) _ _ _ (by decide)))

theorem State.placeStage_spec (s : State) (config : Fin 4) : (s.placeStage config).moveMailbox.tryRecovery.regionSize 3 = 2 ^ 28
    ∧ (s.placeStage config).moveMailbox.tryRecovery.fld R.IMG_STAGE_BASE_BASE
      = ddrBase + (7 * installedGb config.val / 8 * 1024 - 256) * 2 ^ 20 := by
  have hbase : ∀ c : Fin 4, ddrBase + (7 * installedGb c.val / 8 * 1024 - 256) * 2 ^ 20 < 2 ^ R.IMG_STAGE_BASE_BASE.width := by decide
  constructor
  · unfold State.regionSize
    rw [State.tryRecovery_fld (by decide), State.moveMailbox_fld (by decide)]
    unfold State.placeStage State.setRegion
    rw [State.fld_setFld_ne _ _ _ _ (by decide), State.fld_setFld_self]
    rfl
  · rw [State.tryRecovery_fld (by decide), State.moveMailbox_fld (by decide)]
    exact (State.fld_setFld_self _ _ _ _).trans (Nat.mod_eq_of_lt (hbase config))

/-- Of O54, DDR_TRAINING_DONE. -/
theorem ddrTrains {s : State} (config : Fin 4) (temp failed : BitVec 8) (h1 : s.raise.running = true) (h2 : s.phase = 2) (h3 : s.ddrTrained = false) :
    Answers (.ddrTrainingDone config temp failed) s (fun t => t.fld R.DDR_STAT_INSTALLED = installedGb config.val
          ∧ t.fld R.DDR_STAT_USABLE = 7 * installedGb config.val / 8 ∧ t.fld R.DDR_STAT_CONFIG = config.val
          ∧ (∀ n, n < 8 → t.fld R.DDR_CHn_STAT_STATE n = if failed.getLsbD n then 3 else 1)
          ∧ ((List.range 8).countP (fun n => failed.getLsbD n) < 2 →
              t.regionSize 3 = 2 ^ 28 ∧ t.fld R.IMG_STAGE_BASE_BASE = ddrBase + (7 * installedGb config.val / 8 * 1024 - 256) * 2 ^ 20)
          ∧ (2 ≤ (List.range 8).countP (fun n => failed.getLsbD n) → t.flag R.IMG_RAISE_HALTED = true ∧ t.ddrTrained = false)) := by
  refine ⟨_, exec_ddrTrainingDone config temp failed h1 h2 h3, ?_⟩
  obtain ⟨hin, hus, hconf⟩ := s.sizedDdr_spec config failed
  by_cases hmany : 2 ≤ (List.range 8).countP (fun n => failed.getLsbD n)
  · rw [if_pos hmany]
    refine ⟨?_, ?_, ?_, fun n hn => ?_, fun h => absurd hmany (Nat.not_le.mpr h), fun _ => ⟨State.haltRaise_halted _ _ _ _ _, ?_⟩⟩
    · exact (State.haltRaise_fld (by decide)).trans ((State.trainChannels_fld (by decide) (by decide)).trans hin)
    · exact (State.haltRaise_fld (by decide)).trans ((State.trainChannels_fld (by decide) (by decide)).trans hus)
    · exact (State.haltRaise_fld (by decide)).trans ((State.trainChannels_fld (by decide) (by decide)).trans hconf)
    · exact (State.haltRaise_fld (by decide)).trans (State.trainChannels_state _ _ _ hn)
    · have hsize : ((((s.sizedDdr config failed).trainChannels temp failed 8).haltRaise imgDdr noSection 0 0)).fld R.DDR_RGNk_SIZE_MB 3
          = s.fld R.DDR_RGNk_SIZE_MB 3 := by
        refine (State.haltRaise_fld (by decide)).trans ((State.trainChannels_fld (by decide) (by decide)).trans ?_)
        unfold State.sizedDdr
        simp (disch := decide) only [State.fld_setFld_ne]
      unfold State.ddrTrained State.regionSize at h3 ⊢
      rw [hsize]
      exact h3
  · rw [if_neg hmany]
    refine ⟨?_, ?_, ?_, fun n hn => ?_, fun _ => State.placeStage_spec _ _, fun h => absurd h hmany⟩
    · exact (State.placed_fld (by decide)).trans ((State.trainChannels_fld (by decide) (by decide)).trans hin)
    · exact (State.placed_fld (by decide)).trans ((State.trainChannels_fld (by decide) (by decide)).trans hus)
    · exact (State.placed_fld (by decide)).trans ((State.trainChannels_fld (by decide) (by decide)).trans hconf)
    · exact (State.placed_fld (by decide)).trans (State.trainChannels_state _ _ _ hn)

end Sys2Proof.Machine
end

section
/-! O54, the phases from P3 to P7 (R339, R341, R345, R361). -/

namespace Sys2Proof.Machine

/-! ### Sections that are applied -/

/-- What applying a section can do beyond the values that it takes: it can halt raising. -/
theorem State.applySection_of_taken {K : State → Prop} (hK : Loose 0x3b800000000000000000000000000000000000000000000000000000000000000000000000000000000000000000000000000000000000000000000000080000000 K) {s : State} (g : SlotImage) (t : Nat)
    (h : K s) (htake : ∀ v, K ((s.unstage v).takeValues v)) : K (s.applySection g t) := by
  unfold State.applySection
  dsimp only
  split
  · exact h
  · split
    · exact State.haltRaise_k (hK.mono (by decide)) h _ _ _ _
    · next v _ =>
      have hplace := State.placeFpouts_k (hK.mono (by decide)) (htake (recordValues (((g.ofType t).head?.map (fun i => cfgRecords (g.content i))).getD [])))
      exact ite_k (State.haltRaise_k (hK.mono (by decide)) hplace _ _ _ _) hplace

/-- A register that no image gives, and that no committed value moves, is left by a section but for a halt. -/
theorem State.applySection_fld {s : State} {f : Fld} (hf : fieldOf f.id = some f) (hg : f.given = false)
    (h : regOk 0x82281000000000000008000000000000000000000000000000003b800000000000002000297c0000000000000000050200000000800000000000007840000000000000000000009ffa0000000003000000000000025000081002c06 f.id = false) (g : SlotImage) (t i : Nat) :
    (s.applySection g t).fld f i = s.fld f i := by
  refine State.applySection_of_taken (K := fun u => u.fld f i = s.fld f i) ((loose_fld h).mono (by decide)) g t rfl fun v => ?_
  have htake : ((s.unstage v).activateAll v).fld f i = s.fld f i :=
    (State.fld_activateAll_of_not_given hf hg _ v i).trans (State.unstage_k (K := fun u => u.fld f i = s.fld f i) ((loose_fld h).mono (by decide)) rfl v)
  exact State.committed_k (K := fun u => u.fld f i = s.fld f i) ((loose_fld h).mono (by decide)) htake _ _

theorem State.applySections_fld {s : State} {f : Fld} (hf : fieldOf f.id = some f) (hg : f.given = false)
    (h : regOk 0x82281000000000000008000000000000000000000000000000003b800000000000002000297c0000000000000000050200000000800000000000007840000000000000000000009ffa0000000003000000000000025000081002c06 f.id = false) (ts : List Nat) (i : Nat) :
    (s.applySections ts).fld f i = s.fld f i := by
  unfold State.applySections
  split
  · exact foldl_k (K := fun u => u.fld f i = s.fld f i) _ _ rfl fun _ _ ht => (State.applySection_fld hf hg h _ _ i).trans ht
  · rfl

theorem State.applySections_phase (s : State) (ts : List Nat) : (s.applySections ts).phase = s.phase :=
  State.applySections_fld (f := R.IMG_RAISE_PHASE) (by decide) (by decide) (by decide) ts 0

/-! ### P3 ends -/

theorem State.joinerFails_fld {s : State} {f : Fld} {i : Nat} (h : regOk 0x40220000000000000000000000000000000000000000000000000000000000004e9000000000000000000000000000000000000000000000000000000000000000000000000000000000000000000000000000000024000100000d00 f.id = false) (k : Nat) :
    (s.joinerFails k).fld f i = s.fld f i :=
  State.joinerFails_k (K := fun t => t.fld f i = s.fld f i) (loose_fld h) rfl k

/-- The cores that fail at start-up are lost. -/
def State.joinersFail (s : State) (failed : BitVec 5) : State :=
  ((List.range 5).filter (fun i => failed.getLsbD i)).foldl (fun t i => t.joinerFails i) s

theorem State.joinersFail_fld {s : State} {f : Fld} {i : Nat} (h : regOk 0x40220000000000000000000000000000000000000000000000000000000000004e9000000000000000000000000000000000000000000000000000000000000000000000000000000000000000000000000000000024000100000d00 f.id = false) (failed : BitVec 5) :
    (s.joinersFail failed).fld f i = s.fld f i :=
  foldl_k (K := fun t => t.fld f i = s.fld f i) _ _ rfl fun _ k ht => (State.joinerFails_fld h k).trans ht

theorem exec_joinersReady {s : State} (failed : BitVec 5) (h1 : s.raising = true) (h2 : s.phase = 3) : exec (.joinersReady failed) s
    = .next (if (List.range 5).countP (fun i => !failed.getLsbD i && !s.coreOut i) < 2 then (s.joinersFail failed).haltRaise imgMemory noSection 0 0
      else ((s.joinersFail failed).enterPhase 4).applySections [0x24]) := by
  refine congrArg Host.Outcome.next (if_neg ?_)
  rw [h1, h2]
  exact Bool.false_ne_true

/-- Of O54, JOINERS_READY. -/
theorem joinersBecomeReady {s : State} (failed : BitVec 5) (h1 : s.raising = true) (h2 : s.phase = 3)
    (h : 2 ≤ (List.range 5).countP (fun i => !failed.getLsbD i && !s.coreOut i)) : Answers (.joinersReady failed) s (fun t => t.phase = 4) := by
  refine ⟨_, (exec_joinersReady failed h1 h2).trans (congrArg Host.Outcome.next (if_neg (Nat.not_lt.mpr h))), ?_⟩
  exact (State.applySections_phase _ _).trans (State.enterPhase_phase _ (by decide))

theorem joinersMissing {s : State} (failed : BitVec 5) (h1 : s.raising = true) (h2 : s.phase = 3)
    (h : (List.range 5).countP (fun i => !failed.getLsbD i && !s.coreOut i) < 2) : Answers (.joinersReady failed) s (fun t => t.phase = 3
      ∧ t.flag R.IMG_RAISE_HALTED = true) := by
  refine ⟨_, (exec_joinersReady failed h1 h2).trans (congrArg Host.Outcome.next (if_pos h)), ?_, State.haltRaise_halted _ _ _ _ _⟩
  exact (State.haltRaise_fld (by decide)).trans ((State.joinersFail_fld (by decide) failed).trans h2)

/-! ### P4 ends -/

/-- P5 begins, its sections applied. -/
def State.appliedP5 (s : State) : State := (s.enterPhase 5).applySections [0x25, 0x26]

/-- The mate state in which P5 begins. -/
def State.matedP5 (s : State) : State :=
  (s.setFlag R.MTX_STAT_PROFILE 0 (s.flag R.MAT_CFG_PAIR_EN)).setFld R.MAT_STAT_STATE 0 (if s.flag R.MAT_CFG_PAIR_EN then mateWait else mateSolo)

/-- Every lane begins its attempt. -/
def State.lanesStart (s : State) : State :=
  (List.range 280).foldl (fun t n => if t.flag R.LN_FIT_CTRL_ENABLE n then t.startAttempt n else t.refreshCa n) s

theorem State.startP5_eq (s : State) : s.startP5 = if s.appliedP5.flag R.IMG_RAISE_HALTED then s.appliedP5
    else s.appliedP5.matedP5.lanesStart.updRaise (fun r => { r with p5At := s.frame }) := rfl

theorem State.lanesStart_fld {s : State} {f : Fld} {i : Nat} (h : regOk 0x40000000000000000000000000000000000000000000000000000000000000000000000000000000000000000000000000000000800000000000000000000000000014000000009ffb1e00090003041a01a00000020000000002c00 f.id = false) :
    s.lanesStart.fld f i = s.fld f i :=
  foldl_k (K := fun t => t.fld f i = s.fld f i) _ _ rfl fun _ _ ht => ite_k (K := fun t => t.fld f i = s.fld f i)
    (State.startAttempt_k (K := fun t => t.fld f i = s.fld f i) ((loose_fld h).mono (by decide)) ht _)
    (State.refreshCa_k (K := fun t => t.fld f i = s.fld f i) ((loose_fld h).mono (by decide)) ht _)

theorem State.startedLanes_fld {s : State} {n i : Nat} {f : Fld} (h : regOk 0x40000000000000000000000000000000000000000000000000000000000000000000000000000000000000000000000000000000800000000000000000000000000014000000009ffb1e00090003041a01a00000020000000002c00 f.id = false) :
    (s.lanesStart.updRaise (fun r => { r with p5At := n })).fld f i = s.fld f i :=
  Eq.trans (b := s.lanesStart.fld f i) (State.updRaise_fld _ _ _ _) (State.lanesStart_fld h)

theorem State.matedP5_state (s : State) : s.matedP5.mateState = if s.flag R.MAT_CFG_PAIR_EN then mateWait else mateSolo := by
  refine (State.fld_setFld_self _ _ _ _).trans ?_
  split <;> rfl

theorem State.matedP5_phase (s : State) : s.matedP5.phase = s.phase :=
  (State.fld_setFld_ne _ _ _ _ (by decide)).trans (State.fld_setFld_ne _ _ _ _ (by decide))

theorem State.matedP5_pair (s : State) : s.matedP5.flag R.MAT_CFG_PAIR_EN = s.flag R.MAT_CFG_PAIR_EN :=
  (State.flag_setFld_ne _ _ _ _ (by decide)).trans (State.flag_setFlag_ne _ _ _ _ (by decide))

/-- Of O54, P4_END. -/
theorem p4Ends {s : State} (h1 : s.raising = true) (h2 : s.phase = 4) (h3 : s.ticking = true) (h4 : 64 ≤ s.frame)
    (h5 : s.raise.stepped = true ∨ 800 * s.fld R.IMG_RAISE_CFG_P4_WAIT ≤ s.frame) : Answers .p4End s (fun t => t.phase = 5
      ∧ (t.flag R.IMG_RAISE_HALTED = false → t.mateState = if t.flag R.MAT_CFG_PAIR_EN then mateWait else mateSolo)) := by
  have hwaited : s.waitedP4 = true := by
    unfold State.waitedP4
    rw [Bool.or_eq_true, decide_eq_true_iff]
    exact h5
  have hexec : exec .p4End s = .next s.startP5 := by
    refine congrArg Host.Outcome.next (if_pos ?_)
    rw [h1, h2, h3, decide_eq_true h4, hwaited]
    rfl
  have hphase : s.appliedP5.phase = 5 := (State.applySections_phase _ _).trans (State.enterPhase_phase _ (by decide))
  refine ⟨_, hexec, ?_⟩
  rw [State.startP5_eq]
  split
  · next hhalt => exact ⟨hphase, fun h => absurd (hhalt.symm.trans h) Bool.false_ne_true.symm⟩
  · refine ⟨(State.startedLanes_fld (by decide)).trans ((State.matedP5_phase _).trans hphase), fun _ => ?_⟩
    have hpair : (s.appliedP5.matedP5.lanesStart.updRaise (fun r => { r with p5At := s.frame })).flag R.MAT_CFG_PAIR_EN
        = s.appliedP5.flag R.MAT_CFG_PAIR_EN := (State.flag_of_fld (State.startedLanes_fld (by decide))).trans s.appliedP5.matedP5_pair
    rw [hpair]
    exact (State.startedLanes_fld (by decide)).trans s.appliedP5.matedP5_state

/-! ### P5 ends -/

/-- Of O54, P6 begins. -/
theorem State.startP6_phase (s : State) : s.startP6.phase = 6 := by
  have hphase : ((s.enterPhase 6).applySections [0x27, 0x28]).phase = 6 := (State.applySections_phase _ _).trans (State.enterPhase_phase _ (by decide))
  unfold State.startP6
  dsimp only
  split
  · exact hphase
  · split
    · exact hphase
    · next g _ =>
      refine ite_k (K := fun t => t.fld R.IMG_RAISE_PHASE 0 = 6) ?_ ((State.haltRaise_fld (by decide)).trans hphase)
      refine State.handBaseMap_k (K := fun t => t.fld R.IMG_RAISE_PHASE 0 = 6) (loose_fld (by decide)) ?_ g
      exact State.fillScenes_k (K := fun t => t.fld R.IMG_RAISE_PHASE 0 = 6) (loose_fld (by decide)) hphase g

/-- Of O54, P5_END. -/
theorem p5Ends {s : State} (h1 : s.raising = true) (h2 : s.phase = 5)
    (h3 : (∀ n, n < 280 → s.laneTried n = true) ∨ 80 * s.fld R.IMG_RAISE_CFG_P5_MAX ≤ s.sinceFrame s.raise.p5At) :
    Answers .p5End s (fun t => t.phase = 6) := by
  have hexec : exec .p5End s = .next s.startP6 := by
    refine congrArg Host.Outcome.next (if_pos ?_)
    rw [h1, h2, Bool.true_and, Bool.and_eq_true, Bool.or_eq_true, decide_eq_true_iff, List.all_eq_true]
    exact ⟨rfl, h3.imp (fun h n hn => h n (List.mem_range.mp hn)) id⟩
  exact ⟨_, hexec, s.startP6_phase⟩

/-! ### The device is ready -/

/-- P7 is entered, the retry that led here latched, and what the image gave noted. -/
def State.enteredP7 (s : State) : State :=
  (((((s.enterPhase 7).timePhase 7).latchIf s.raise.retry R.IMG_EVT_RAISE_RETRY).updRaise (fun r => { r with retry := false })).updRaise
    (fun r => { r with base := (List.range 65).flatMap s.appliedEntries ++ s.fieldEntries })).primeAll

theorem exec_raiseReady {s : State} (drs : BitVec 2) (h1 : s.raising = true) (h2 : s.phase = 6) (h3 : s.raise.baseDone = true) (h4 : s.frame ≠ s.raise.p6At) :
    exec (.raiseReady drs) s = .next (((s.enteredP7.updMate (fun m => { m with waitFrom := s.frame })).waitSees).sendDrs drs) := by
  refine congrArg Host.Outcome.next (if_pos ?_)
  rw [h1, h2, h3, Bool.true_and, Bool.and_eq_true, bne_iff_ne]
  exact ⟨rfl, h4⟩

theorem State.mateTo_waitFrom (s : State) (st : Nat) : (s.mateTo st).mate.waitFrom = s.mate.waitFrom := by
  by_cases h : s.mateState = st
  · rw [State.mateTo_same h]
  · rw [State.mateTo_other h, State.latch_mate]
    rfl

theorem State.waitSees_waitFrom (s : State) : s.waitSees.mate.waitFrom = s.mate.waitFrom := by
  unfold State.waitSees
  split
  · unfold State.mateJoin
    dsimp only
    obtain ⟨a, b, h⟩ := (((((s.mateTo mateJoining).setFlag R.MAT_STAT_KEPT 0 false).setFld R.MAT_COPY_PHASE 0 0).updMate (fun m => { m with
      installed := false, stage := [], slices := [], inbound := false, adopt := none }))).matchFrame_cases
    rw [h]
    exact s.mateTo_waitFrom mateJoining
  · rfl

theorem State.waitSees_fld {s : State} {f : Fld} {i : Nat} (h : regOk 0x8000429000000000000000000000000000000000000000000000000000000000000000000000000000000000000000000000000000000000000100000c00 f.id = false) : s.waitSees.fld f i = s.fld f i :=
  State.waitSees_k (K := fun t => t.fld f i = s.fld f i) (loose_fld h) rfl

theorem State.waitSees_pcie (s : State) : s.waitSees.pcie = s.pcie :=
  State.waitSees_k (K := fun t => Part.same s t .pcie) (loose_part s .pcie (by decide) (by decide) (by decide)) rfl

theorem State.enteredP7_of_latched {K : State → Prop} (hK : Loose 0x8000000000000000000000000000000000000000000000000000000000000000000000400000000 K) {s : State}
    (h : K (((s.enterPhase 7).timePhase 7).latchIf s.raise.retry R.IMG_EVT_RAISE_RETRY)) : K s.enteredP7 :=
  State.primeAll_k (hK.mono (by decide)) (hK.build (hK.build h rfl) rfl)

theorem State.enteredP7_phase (s : State) : s.enteredP7.phase = 7 := by
  refine State.enteredP7_of_latched (K := fun t => t.fld R.IMG_RAISE_PHASE 0 = 7) (loose_fld (by decide)) ?_
  refine (State.fld_latchIf_ne ((s.enterPhase 7).timePhase 7) s.raise.retry R.IMG_EVT_RAISE_RETRY 0 0 (by decide)).trans ?_
  exact State.timePhase_k (K := fun t => t.fld R.IMG_RAISE_PHASE 0 = 7) (loose_fld (by decide)) (State.enterPhase_phase _ (by decide)) 7

theorem State.enteredP7_pcie (s : State) : s.enteredP7.pcie = s.pcie := by
  refine State.enteredP7_of_latched (K := fun t => Part.same s t .pcie) (loose_part s .pcie (by decide) (by decide) (by decide)) ?_
  refine (State.latchIf_pcie ((s.enterPhase 7).timePhase 7) s.raise.retry R.IMG_EVT_RAISE_RETRY 0).trans ?_
  exact State.timePhase_k (K := fun t => Part.same s t .pcie) (loose_part s .pcie (by decide) (by decide) (by decide))
    (State.enterPhase_k (K := fun t => Part.same s t .pcie) (loose_part s .pcie (by decide) (by decide) (by decide)) rfl 7) 7

theorem State.enteredP7_retry {s : State} (h : s.raise.retry = true) : s.enteredP7.latched R.IMG_EVT_RAISE_RETRY = true :=
  State.latched_of_fld (State.enteredP7_of_latched (K := fun t => t.fld R.IMG_EVT 0
      = (((s.enterPhase 7).timePhase 7).latchIf s.raise.retry R.IMG_EVT_RAISE_RETRY).fld R.IMG_EVT 0) (loose_fld (by decide)) rfl)
    (State.latched_latchIf h _ _ _ (by decide))

theorem State.sendDrs_sent (s : State) (drs : BitVec 2) (p : Nat) : ((s.sendDrs drs).pcie.get p {}).drsSent = ((s.pcie.get p {}).training && drs.getLsbD p) := by
  have hfind : (s.sendDrs drs).pcie.find p = (s.pcie.find p).map (fun c => { c with drsSent := c.training && drs.getLsbD p }) := Tab.find_mapVals _ _ _
  unfold Tab.get
  rw [hfind]
  cases s.pcie.find p with
  | none => rfl
  | some c => rfl

/-- Of O54, RAISE_READY. -/
theorem raisingReady {s : State} (h1 : s.raising = true) (h2 : s.phase = 6) (h3 : s.raise.baseDone = true) (h4 : s.frame ≠ s.raise.p6At) (drs : BitVec 2) :
    Answers (.raiseReady drs) s (fun t => t.served = true ∧ t.mate.waitFrom = s.frame
      ∧ (∀ p, (t.pcie.get p {}).drsSent = ((s.pcie.get p {}).training && drs.getLsbD p)) ∧ (s.raise.retry = true → t.latched R.IMG_EVT_RAISE_RETRY = true)) := by
  have hmate : ∀ (u : State) (n : Nat) (f : Fld) (i : Nat), (u.updMate (fun m => { m with waitFrom := n })).fld f i = u.fld f i := fun _ _ _ _ => rfl
  have hfrom : ∀ (u : State) (n : Nat), ((u.updMate (fun m => { m with waitFrom := n })).waitSees.sendDrs drs).mate.waitFrom = n := fun u n =>
    State.waitSees_waitFrom (u.updMate (fun m => { m with waitFrom := n }))
  have hpcie : ∀ (u : State) (n p : Nat), (((u.updMate (fun m => { m with waitFrom := n })).waitSees.sendDrs drs).pcie.get p {}).drsSent
      = ((u.pcie.get p {}).training && drs.getLsbD p) := fun u n p => by
    rw [State.sendDrs_sent, State.waitSees_pcie]
    rfl
  have hsent : ∀ (u : State) (f : Fld) (i : Nat), (u.sendDrs drs).fld f i = u.fld f i := fun _ _ _ => rfl
  have hwaits : ∀ (f : Fld) (i : Nat), regOk 0x8000429000000000000000000000000000000000000000000000000000000000000000000000000000000000000000000000000000000000000100000c00 f.id = false →
      (((s.enteredP7.updMate (fun m => { m with waitFrom := s.frame })).waitSees).sendDrs drs).fld f i = s.enteredP7.fld f i :=
    fun _ _ hf => (hsent _ _ _).trans ((State.waitSees_fld hf).trans (hmate _ _ _ _))
  refine ⟨_, exec_raiseReady drs h1 h2 h3 h4, ?_, ?_, fun p => ?_, fun h => ?_⟩
  · unfold State.served
    rw [beq_iff_eq]
    exact (hwaits R.IMG_RAISE_PHASE 0 (by decide)).trans s.enteredP7_phase
  · exact hfrom _ _
  · rw [hpcie, State.enteredP7_pcie]
  · exact State.latched_of_fld (hwaits R.IMG_EVT 0 (by decide)) (State.enteredP7_retry h)

end Sys2Proof.Machine
end

section
/-! O54, a slot that is verified and found bad (R333 step 2, R336, R338, R339, R347). -/

namespace Sys2Proof.Machine

/-! ### A check of the tamper sources after a slot -/

/-- A raising that a response halts, or that was halted, is halted. -/
theorem State.tamperRaising_halted {s : State} (h : s.flag R.IMG_RAISE_HALTED = true) : s.tamperRaising.flag R.IMG_RAISE_HALTED = true := by
  unfold State.tamperRaising
  split
  · exact (State.flag_setFld_ne _ _ _ _ (by decide)).trans ((State.flag_setFlag_ne _ _ _ _ (by decide)).trans (State.flag_setFlag_self _ _ _ _ (by decide)))
  · exact h

theorem State.abandonLc_halted (s : State) : s.abandonLc.flag R.IMG_RAISE_HALTED = s.flag R.IMG_RAISE_HALTED :=
  State.flag_of_fld (State.abandonLc_k (K := fun t => t.fld R.IMG_RAISE_HALTED 0 = s.fld R.IMG_RAISE_HALTED 0) (loose_fld (by decide)) rfl)

theorem State.respondedPolicy_halted (s : State) (mask : Nat) :
    (s.responding mask).wipe.tamperPolicy.flag R.IMG_RAISE_HALTED = s.flag R.IMG_RAISE_HALTED := by
  have halarm : (s.alarmed mask).fld R.IMG_RAISE_HALTED 0 = s.fld R.IMG_RAISE_HALTED 0 := State.alarmed_fld (by decide) (by decide) (by decide)
  refine State.flag_of_fld (State.tamperPolicy_k (K := fun t => t.fld R.IMG_RAISE_HALTED 0 = s.fld R.IMG_RAISE_HALTED 0) (loose_fld (by decide)) ?_)
  refine State.wipe_k (K := fun t => t.fld R.IMG_RAISE_HALTED 0 = s.fld R.IMG_RAISE_HALTED 0) (loose_fld (by decide)) ?_
  exact State.responding_of_alarmed (K := fun t => t.fld R.IMG_RAISE_HALTED 0 = s.fld R.IMG_RAISE_HALTED 0) (loose_fld (by decide)) halarm

/-- A response leaves a halted raising halted. -/
theorem State.startResponse_keepsHalt {s : State} (h : s.flag R.IMG_RAISE_HALTED = true) (mask : Nat) :
    (s.startResponse mask).flag R.IMG_RAISE_HALTED = true := by
  have hafter : (s.startResponse mask).fld R.IMG_RAISE_HALTED 0 = (s.responded mask).fld R.IMG_RAISE_HALTED 0 :=
    State.startResponse_of_responded (K := fun t => t.fld R.IMG_RAISE_HALTED 0 = (s.responded mask).fld R.IMG_RAISE_HALTED 0) (loose_fld (by decide)) rfl
  exact (State.flag_of_fld hafter).trans (State.tamperRaising_halted ((s.respondedPolicy_halted mask).trans h))

theorem State.tamperCheck_halted {s : State} (h : s.flag R.IMG_RAISE_HALTED = true) : s.tamperCheck.flag R.IMG_RAISE_HALTED = true := by
  rw [State.tamperCheck_eq]
  split
  · exact h
  · split
    · rw [State.abandonLc_halted]
      exact (State.flag_setFld_ne _ _ _ _ (by decide)).trans h
    · exact State.startResponse_keepsHalt (s := s.updGuard (fun g => { g with seen := s.activeSources s.guarding.asserted })) h _

/-! ### The slot that is tried -/

/-- A slot is shown as verified with a code. -/
def State.slotShown (s : State) (g : SlotImage) (k code : Nat) : State := ((s.startTrial k).setFld R.IMG_RAISE_SLOT 0 k).showSlot k g code

/-- A slot that failed is noted. -/
def State.slotTried (s : State) (g : SlotImage) (k code sect : Nat) : State :=
  ((((s.slotShown g k code).noteFail code sect 0 0).updRaise (fun r => { r with tried := r.tried ++ [k] })).stageImage g)

def State.slotLogged (s : State) (g : SlotImage) (k code sect : Nat) : State :=
  (s.slotTried g k code sect).tallyAdd tallyRaise 0 0 ([k, code, 0, 0] ++ bytes4 ((s.slotTried g k code sect).fld R.IMG_PHASE_TIME_TIME 7))

theorem State.slotVerified_fault {s : State} {img : ImageBytes} {k code sect : Nat} {second trial : Bool} (h1 : s.raising = true) (h2 : s.phase = 2)
    (hnext : s.nextSlot = (k, second, trial)) (hfault : s.imageFault (s.imageOf img) s.slotRoom = some (code, sect)) : s.slotVerified img
      = if second then (s.slotLogged (s.imageOf img) k code sect).haltRaise code sect 0 0 else s.slotLogged (s.imageOf img) k code sect := by
  have hgo : ¬ (!(s.raising && s.phase == 2)) = true := by
    rw [h1, h2]
    exact Bool.false_ne_true
  unfold State.slotVerified
  rw [if_neg hgo, hnext]
  dsimp only
  rw [hfault]
  rfl

theorem State.slotShown_fld {s : State} {g : SlotImage} {k code i : Nat} {f : Fld} (h : regOk 0xfe0000000004000000000000000000000000000000000000000000000000000000000000000000000000000000000000000000000000000000000000000000002000400000000 f.id = false) :
    (s.slotShown g k code).fld f i = s.fld f i :=
  State.showSlot_k (K := fun t => t.fld f i = s.fld f i) ((loose_fld h).mono (by decide))
    (State.setFld_k (K := fun t => t.fld f i = s.fld f i) (loose_fld h)
      (State.startTrial_k (K := fun t => t.fld f i = s.fld f i) ((loose_fld h).mono (by decide)) rfl k) _ _ _ (by decide)) k g code

theorem State.showSlot_flags (s : State) (k : Nat) (g : SlotImage) (code : Nat) : (s.showSlot k g code).flag R.IMG_SLOTs_STAT_CHECKED k = true
    ∧ (s.showSlot k g code).flag R.IMG_SLOTs_STAT_VALID k = (code == 0) := by
  unfold State.showSlot
  dsimp only
  refine ⟨?_, ?_⟩ <;> rw [State.updRaise_flag] <;> simp (disch := decide) only [State.flag_setFld_ne, State.flag_setFlag_ne]
  · exact State.flag_setFlag_self _ _ _ _ (by decide)
  · exact State.flag_setFlag_self _ _ _ _ (by decide)

theorem State.slotShown_slot (s : State) (g : SlotImage) (k code : Nat) : (s.slotShown g k code).fld R.IMG_RAISE_SLOT = k % 2 :=
  (State.showSlot_k (K := fun t => t.fld R.IMG_RAISE_SLOT 0 = ((s.startTrial k).setFld R.IMG_RAISE_SLOT 0 k).fld R.IMG_RAISE_SLOT 0)
    (loose_fld (by decide)) rfl k g code).trans (State.fld_setFld_self _ _ _ _)

theorem State.noteFail_fld {s : State} {code sect rcode roff i : Nat} {f : Fld} (h : regOk 0x3a000000000000000000000000000000000000000000000000000000000000000000000000000000000000000000000000000000000000000000000000000000000 f.id = false) :
    (s.noteFail code sect rcode roff).fld f i = s.fld f i :=
  State.noteFail_k (K := fun t => t.fld f i = s.fld f i) (loose_fld h) rfl code sect rcode roff

/-- A failed slot's record and its image's copy leave the registers. -/
theorem State.slotLogged_fld {s : State} {g : SlotImage} {k code sect i : Nat} {f : Fld} (h : regOk 0x4000000001000 f.id = false) :
    (s.slotLogged g k code sect).fld f i = ((s.slotShown g k code).noteFail code sect 0 0).fld f i := by
  have hlog : (s.slotLogged g k code sect).fld f i = (s.slotTried g k code sect).fld f i :=
    State.tallyAdd_k (K := fun t => t.fld f i = (s.slotTried g k code sect).fld f i) ((loose_fld h).mono (by decide)) rfl _ _ _ _
  have htried : ∀ (u : State) (r : Raise → Raise), ((u.updRaise r).stageImage g).fld f i = u.fld f i := fun u r =>
    State.stageImage_k (K := fun t => t.fld f i = u.fld f i) ((loose_fld h).mono (by decide)) (State.updRaise_fld u r f i) g
  exact hlog.trans (htried _ _)

/-- What the check of a bad slot ends in, before the check of the tamper sources. -/
def State.slotRefused (s : State) (g : SlotImage) (k code sect : Nat) (second : Bool) : State :=
  if second then (s.slotLogged g k code sect).haltRaise code sect 0 0 else s.slotLogged g k code sect

theorem State.slotRefused_fld {s : State} {g : SlotImage} {k code sect i : Nat} {second : Bool} {f : Fld}
    (h : regOk 0x3b800000000000000000000000000000000000000000000000000000000000000000000000000000000000000000000000000000000000000000004000000001000 f.id = false) :
    (s.slotRefused g k code sect second).fld f i = (s.slotShown g k code).fld f i := by
  have hlog : (s.slotLogged g k code sect).fld f i = (s.slotShown g k code).fld f i :=
    (State.slotLogged_fld (regOk_false_of_sub (by decide) h)).trans (State.noteFail_fld (regOk_false_of_sub (by decide) h))
  refine ite_k (K := fun t => t.fld f i = (s.slotShown g k code).fld f i) ?_ hlog
  exact (State.haltRaise_fld (regOk_false_of_sub (by decide) h)).trans hlog

theorem State.slotRefused_part {K : State → Prop} (hK : Loose 0xfe000000003f800000000000000000000000000000000000000000000000000000000000000000000000000000000000000000000000000000000000000000006000400001000 K)
    {s : State} (g : SlotImage) (k code sect : Nat) (second : Bool) (h : K s) : K (s.slotRefused g k code sect second) := by
  have hlog : K (s.slotLogged g k code sect) := by
    have hshown : K (s.slotShown g k code) :=
      State.showSlot_k (hK.mono (by decide)) (State.setFld_k hK (State.startTrial_k (hK.mono (by decide)) h k) _ _ _ (by decide)) k g code
    have hnote : K ((s.slotShown g k code).noteFail code sect 0 0) := State.noteFail_k (hK.mono (by decide)) hshown _ _ _ _
    exact State.tallyAdd_k (hK.mono (by decide)) (State.stageImage_k (hK.mono (by decide)) (State.updRaise_k (hK.mono (by decide)) hnote _) g) _ _ _ _
  exact ite_k (State.haltRaise_k (hK.mono (by decide)) hlog _ _ _ _) hlog

theorem State.slotShown_raise (s : State) (g : SlotImage) (k code : Nat) :
    (s.slotShown g k code).raise = { s.raise with slots := s.raise.slots.put k g } := by
  have htrial : (s.startTrial k).raise = s.raise :=
    State.startTrial_k (K := fun t => Part.same s t .raise) (loose_part s .raise (by decide) (by decide) (by decide)) rfl k
  rw [← htrial]
  rfl

/-- Of the raising a bad slot leaves all but the slots that have been tried and shown. -/
theorem State.slotRefused_raise (s : State) (g : SlotImage) (k code sect : Nat) (second : Bool) :
    (s.slotRefused g k code sect second).raise = { s.raise with slots := s.raise.slots.put k g, tried := s.raise.tried ++ [k] } := by
  have hnote : ((s.slotShown g k code).noteFail code sect 0 0).raise = (s.slotShown g k code).raise :=
    State.noteFail_k (K := fun t => Part.same (s.slotShown g k code) t .raise) (loose_part _ .raise (by decide) (by decide) (by decide)) rfl code sect 0 0
  have hstage : ∀ u : State, (u.stageImage g).raise = u.raise := fun u =>
    State.stageImage_k (K := fun t => Part.same u t .raise) (loose_part _ .raise (by decide) (by decide) (by decide)) rfl g
  have hupd : ∀ (u : State) (f : Raise → Raise), (u.updRaise f).raise = f u.raise := fun _ _ => rfl
  have htried : (s.slotTried g k code sect).raise = { s.raise with slots := s.raise.slots.put k g, tried := s.raise.tried ++ [k] } := by
    unfold State.slotTried
    rw [hstage, hupd, hnote, State.slotShown_raise]
  have hlog : (s.slotLogged g k code sect).raise = (s.slotTried g k code sect).raise :=
    State.tallyAdd_k (K := fun t => Part.same (s.slotTried g k code sect) t .raise) (loose_part _ .raise (by decide) (by decide) (by decide)) rfl _ _ _ _
  have hrefused : (s.slotRefused g k code sect second).raise = (s.slotLogged g k code sect).raise :=
    ite_k (K := fun t => Part.same (s.slotLogged g k code sect) t .raise)
      (State.haltRaise_k (K := fun t => Part.same (s.slotLogged g k code sect) t .raise) (loose_part _ .raise (by decide) (by decide) (by decide)) rfl _ _ _ _) rfl
  rw [hrefused, hlog, htried]

theorem State.haltRaise_keepsFail {s : State} (h : s.fld R.IMG_RAISE_FAIL ≠ 0) (code sect rcode roff : Nat) :
    (s.haltRaise code sect rcode roff).fld R.IMG_RAISE_FAIL = s.fld R.IMG_RAISE_FAIL := by
  have hnote : s.noteFail code sect rcode roff = s := if_pos h
  refine (State.fld_setFld_ne _ _ _ _ (by decide)).trans ((State.fld_setFld_ne _ _ _ _ (by decide)).trans ?_)
  rw [hnote]

/-- The first slot's code stands, even where the second fails too. -/
theorem State.slotRefused_fail {s : State} {code : Nat} (h : s.fld R.IMG_RAISE_FAIL = 0) (hc : 0 < code ∧ code < 32) (g : SlotImage) (k sect : Nat) (second : Bool) :
    (s.slotRefused g k code sect second).fld R.IMG_RAISE_FAIL = code % 2 ^ R.IMG_RAISE_FAIL.width := by
  have hlog : (s.slotLogged g k code sect).fld R.IMG_RAISE_FAIL = code % 2 ^ R.IMG_RAISE_FAIL.width :=
    (State.slotLogged_fld (by decide)).trans (State.noteFail_fail ((State.slotShown_fld (by decide)).trans h) code sect 0 0)
  have hcode : code % 2 ^ R.IMG_RAISE_FAIL.width = code := Nat.mod_eq_of_lt hc.2
  refine ite_k (K := fun t => t.fld R.IMG_RAISE_FAIL = code % 2 ^ R.IMG_RAISE_FAIL.width) ((State.haltRaise_keepsFail ?_ _ _ _ _).trans hlog) hlog
  rw [hlog, hcode]
  exact hc.1.ne'

theorem State.slotRefused_halted {s : State} (h : s.flag R.IMG_RAISE_HALTED = false) (g : SlotImage) (k code sect : Nat) (second : Bool) :
    (s.slotRefused g k code sect second).flag R.IMG_RAISE_HALTED = second := by
  cases second
  · refine (State.flag_of_fld (s := s) ?_).trans h
    exact (State.slotLogged_fld (by decide)).trans ((State.noteFail_fld (by decide)).trans (State.slotShown_fld (by decide)))
  · exact State.haltRaise_halted _ _ _ _ _

/-- The sources that act are those that acted, where neither they nor what makes them act has moved. -/
theorem State.activeSources_congr {s t : State} (hen : t.fld R.TLY_TAMP_CFG_IN_EN = s.fld R.TLY_TAMP_CFG_IN_EN) (hheld : t.raise.held = s.raise.held)
    (hg : t.guarding = s.guarding) : t.activeSources t.guarding.asserted = s.activeSources s.guarding.asserted := by
  unfold State.activeSources
  rw [hen, hheld, hg]

theorem State.slotRefused_guarding (s : State) (g : SlotImage) (k code sect : Nat) (second : Bool) :
    (s.slotRefused g k code sect second).guarding = s.guarding :=
  State.slotRefused_part (K := fun t => Part.same s t .guarding) (loose_part s .guarding (by decide) (by decide) (by decide)) g k code sect second rfl

/-- Where no source is fresh, the check after a bad slot changes no register. -/
theorem State.slotRefused_quiet {s : State} (h : Nat.land (s.activeSources s.guarding.asserted) (0x7F - s.guarding.seen) = 0) (g : SlotImage) (k code sect : Nat)
    (second : Bool) (f : Fld) (i : Nat) : (s.slotRefused g k code sect second).tamperCheck.fld f i = (s.slotRefused g k code sect second).fld f i := by
  have hheld : (s.slotRefused g k code sect second).raise.held = s.raise.held := by
    rw [State.slotRefused_raise]
  have hact := State.activeSources_congr (s := s) (t := s.slotRefused g k code sect second)
    ((State.slotRefused_fld (by decide)).trans (State.slotShown_fld (by decide))) hheld
    (s.slotRefused_guarding g k code sect second)
  have hidle : Nat.land ((s.slotRefused g k code sect second).activeSources (s.slotRefused g k code sect second).guarding.asserted)
      (0x7F - (s.slotRefused g k code sect second).guarding.seen) = 0 := by
    rw [hact, State.slotRefused_guarding]
    exact h
  rw [State.tamperCheck_idle hidle]
  rfl

/-- Of O54, a slot that fails a check. -/
theorem slotIsBad {s : State} {img : ImageBytes} {k code sect : Nat} {second trial : Bool} (h1 : s.raising = true) (h2 : s.phase = 2)
    (hnext : s.nextSlot = (k, second, trial)) (hfault : s.imageFault (s.imageOf img) s.slotRoom = some (code, sect)) :
    Answers (.slotVerifyDone img) s (fun t => t.phase = 2
      ∧ t.fld R.IMG_RAISE_SLOT = k % 2 ∧ t.flag R.IMG_SLOTs_STAT_CHECKED k = true ∧ t.flag R.IMG_SLOTs_STAT_VALID k = false
      ∧ t.raise.tried = s.raise.tried ++ [k]
      ∧ (Nat.land (s.activeSources s.guarding.asserted) (0x7F - s.guarding.seen) = 0 →
          (s.fld R.IMG_RAISE_FAIL = 0 → t.fld R.IMG_RAISE_FAIL = code % 2 ^ R.IMG_RAISE_FAIL.width) ∧ t.flag R.IMG_RAISE_HALTED = second)) := by
  have hexec : exec (.slotVerifyDone img) s = .next (s.slotRefused (s.imageOf img) k code sect second).tamperCheck :=
    congrArg (fun u : State => Host.Outcome.next u.tamperCheck) (State.slotVerified_fault h1 h2 hnext hfault)
  have hcode := State.imageFault_code hfault
  have hflags := ((s.startTrial k).setFld R.IMG_RAISE_SLOT 0 k).showSlot_flags k (s.imageOf img) code
  refine ⟨_, hexec, ?_, ?_, ?_, ?_, ?_, fun hquiet => ⟨fun hfail => ?_, ?_⟩⟩
  · exact (State.fld_tamperCheck _ _ (by decide)).trans ((State.slotRefused_fld (by decide)).trans ((State.slotShown_fld (by decide)).trans h2))
  · exact (State.fld_tamperCheck _ _ (by decide)).trans ((State.slotRefused_fld (by decide)).trans (State.slotShown_slot _ _ _ _))
  · exact (State.flag_of_fld ((State.fld_tamperCheck _ _ (by decide)).trans (State.slotRefused_fld (by decide)))).trans hflags.1
  · refine (State.flag_of_fld ((State.fld_tamperCheck _ _ (by decide)).trans (State.slotRefused_fld (by decide)))).trans (hflags.2.trans ?_)
    exact beq_eq_false_iff_ne.mpr hcode.1.ne'
  · obtain ⟨b, hb⟩ := (s.slotRefused (s.imageOf img) k code sect second).tamperCheck_raise
    refine (congrArg Raise.tried hb).trans ?_
    exact congrArg Raise.tried (s.slotRefused_raise (s.imageOf img) k code sect second)
  · exact (State.slotRefused_quiet hquiet _ _ _ _ _ _ _).trans (State.slotRefused_fail hfail hcode _ _ _ _)
  · exact (State.flag_of_fld (State.slotRefused_quiet hquiet _ _ _ _ _ _ _)).trans (State.slotRefused_halted (State.flag_of_raising h1) _ _ _ _ _)

end Sys2Proof.Machine
end

section
/-! O54, a slot that is verified and found good (R333, R339, R343, R344, R430). -/

namespace Sys2Proof.Machine

/-! ### A section that the image does not hold -/

/-- A set of values that names no register fails no condition of its own. -/
theorem failing_empty (fs : List Fld) (id : Nat) (bad : Nat → Bool) : failing {} fs id bad = [] := by
  have hgiven : givenFor {} fs = [] := by
    have hkeys : fs.flatMap (fun f => (Tab.get ({} : Values) f.id {}).keys) = [] := List.flatMap_eq_nil_iff.mpr fun _ _ => rfl
    unfold givenFor
    rw [hkeys]
    rfl
  unfold failing
  rw [hgiven]
  rfl

theorem State.failures_empty (s : State) : s.failures {} = s.plumbFailures {} := by
  have hbanks : ((banksNamed {}).filter (s.badBank {})).map (regOffset RN.CNT_Bc_CFG) = [] := rfl
  unfold State.failures
  simp only [failing_empty, hbanks, List.nil_append, List.append_nil]

/-- The offsets of a register's copies lie in the island of its block. -/
theorem mem_everyBelow {n id off : Nat} {bad : Nat → Bool} (h : off ∈ everyBelow n bad id) : ∃ k, k < n ∧ off = regOffset id k := by
  unfold everyBelow at h
  obtain ⟨k, hk, heq⟩ := List.mem_map.mp h
  exact ⟨k, List.mem_range.mp (List.mem_filter.mp hk).1, heq.symm⟩

/-- No copy below `n` of a register is of sections 0x20 to 0x22. -/
def outsideP2 (n id : Nat) : Bool := (List.range n).all fun k => !sectionAllows 0x20 (regOffset id k) && !sectionAllows 0x21 (regOffset id k) && !sectionAllows 0x22 (regOffset id k)

theorem everyBelow_outside {n id t : Nat} (h : outsideP2 n id = true) (ht : t ∈ [0x20, 0x21, 0x22]) (bad : Nat → Bool) :
    ∀ off ∈ everyBelow n bad id, sectionAllows t off = false := by
  intro off hoff
  obtain ⟨k, hk, rfl⟩ := mem_everyBelow hoff
  have hall := List.all_eq_true.mp h k (List.mem_range.mpr hk)
  rw [Bool.and_eq_true, Bool.and_eq_true, Bool.not_eq_true', Bool.not_eq_true', Bool.not_eq_true'] at hall
  obtain ⟨⟨h0, h1⟩, h2⟩ := hall
  simp only [List.mem_cons, List.not_mem_nil, or_false] at ht
  obtain rfl | rfl | rfl := ht
  · exact h0
  · exact h1
  · exact h2

/-- What fails at an empty section's values lies outside the sections of P2. -/
theorem State.imageFailures_outside (s : State) {t : Nat} (ht : t ∈ [0x20, 0x21, 0x22]) : (s.imageFailures {}).any (sectionAllows t) = false := by
  rw [List.any_eq_false]
  intro off hoff
  rw [Bool.not_eq_true]
  unfold State.imageFailures at hoff
  rw [State.failures_empty] at hoff
  unfold State.plumbFailures at hoff
  simp only [List.mem_append] at hoff
  obtain (((((((h | h) | h) | h) | h) | h) | h) | h) | h := hoff
  · exact everyBelow_outside (by decide +kernel) ht _ off h
  · exact everyBelow_outside (by decide +kernel) ht _ off h
  · exact everyBelow_outside (by decide +kernel) ht _ off h
  · exact everyBelow_outside (by decide +kernel) ht _ off h
  · exact everyBelow_outside (by decide +kernel) ht _ off h
  · exact everyBelow_outside (by decide +kernel) ht _ off h
  · exact everyBelow_outside (by decide +kernel) ht _ off h
  · exact everyBelow_outside (by decide +kernel) ht _ off h
  · exact everyBelow_outside (by decide +kernel) ht _ off h

/-- The device as an empty section has been applied. -/
def State.emptyApplied (s : State) : State := ((s.unstage {}).takeValues {}).placeFpouts

theorem State.emptyApplied_fld {s : State} {f : Fld} {i : Nat} (h : regOk 0x822810000000000000080000000000000000000000000000000000000000000000002000297c0000000000000000050200000000800000000000007840000000000000000000009ffa0000000003000000000000025000081002c02 f.id = false) :
    s.emptyApplied.fld f i = s.fld f i := by
  have hval : ((s.unstage {}).activateAll {}).fld f i = s.fld f i := rfl
  exact State.placeFpouts_k (K := fun t => t.fld f i = s.fld f i) ((loose_fld h).mono (by decide))
    (State.committed_k (K := fun t => t.fld f i = s.fld f i) ((loose_fld h).mono (by decide)) hval _ _)

theorem State.emptyApplied_raise (s : State) : s.emptyApplied.raise = s.raise := by
  have hval : ((s.unstage {}).activateAll {}).raise = s.raise := rfl
  exact State.placeFpouts_k (K := fun t => Part.same s t .raise) (loose_part s .raise (by decide) (by decide) (by decide))
    (State.committed_k (K := fun t => Part.same s t .raise) (loose_part s .raise (by decide) (by decide) (by decide)) hval _ _)

theorem State.badLimits_congr {s t : State} (hm : t.fld R.IMG_RAISE_CFG_RAISE_MAX = s.fld R.IMG_RAISE_CFG_RAISE_MAX)
    (h4 : t.fld R.IMG_RAISE_CFG_P4_WAIT = s.fld R.IMG_RAISE_CFG_P4_WAIT) (h5 : t.fld R.IMG_RAISE_CFG_P5_MAX = s.fld R.IMG_RAISE_CFG_P5_MAX)
    (hp : t.fld R.TLY_TAMP_CFG_POLICY = s.fld R.TLY_TAMP_CFG_POLICY) (ty : Nat) : t.badLimits ty = s.badLimits ty := by
  unfold State.badLimits
  rw [hm, h4, h5, hp]

theorem State.emptyApplied_limits (s : State) (ty : Nat) : s.emptyApplied.badLimits ty = s.badLimits ty :=
  State.badLimits_congr (State.emptyApplied_fld (by decide)) (State.emptyApplied_fld (by decide)) (State.emptyApplied_fld (by decide))
    (State.emptyApplied_fld (by decide)) ty

/-- A section of P2 that the image does not hold is applied without a fault. -/
theorem State.applySection_empty {s : State} {g : SlotImage} {t : Nat} (hsec : g.ofType t = []) (ht : t ∈ [0x20, 0x21, 0x22])
    (hh : s.flag R.IMG_RAISE_HALTED = false) (hlim : s.badLimits t = false) : s.applySection g t = s.emptyApplied := by
  unfold State.applySection
  rw [if_neg (Bool.eq_false_iff.mp hh), hsec]
  have hbad : ¬ ((s.imageFailures {}).any (sectionAllows t) || s.emptyApplied.badLimits t) = true := by
    rw [s.imageFailures_outside ht, s.emptyApplied_limits t, hlim]
    exact Bool.false_ne_true
  exact if_neg hbad

theorem State.emptyApplied_halted {s : State} (h : s.flag R.IMG_RAISE_HALTED = false) : s.emptyApplied.flag R.IMG_RAISE_HALTED = false :=
  (State.flag_of_fld (State.emptyApplied_fld (by decide))).trans h

/-- None of P2's sections in the image, P2's values are applied without a fault. -/
theorem State.applySections_empty {s : State} {g : SlotImage} (hg : s.raise.image = some g) (hsec : ∀ ty, 0x20 ≤ ty → ty ≤ 0x28 → g.ofType ty = [])
    (hh : s.flag R.IMG_RAISE_HALTED = false) (h0 : s.badLimits 0x20 = false) (h2 : s.badLimits 0x22 = false) :
    (s.applySections [0x20, 0x21, 0x22]).flag R.IMG_RAISE_HALTED = false := by
  have heq : s.applySections [0x20, 0x21, 0x22] = s.emptyApplied.emptyApplied.emptyApplied := by
    unfold State.applySections
    rw [hg]
    simp only [List.foldl_cons, List.foldl_nil]
    have h21 : ∀ u : State, u.badLimits 0x21 = false := fun _ => rfl
    rw [State.applySection_empty (hsec 0x20 (by decide) (by decide)) (by decide) hh h0,
      State.applySection_empty (hsec 0x21 (by decide) (by decide)) (by decide) (State.emptyApplied_halted hh) (h21 _),
      State.applySection_empty (hsec 0x22 (by decide) (by decide)) (by decide) (State.emptyApplied_halted (State.emptyApplied_halted hh))
        (by rw [State.emptyApplied_limits, State.emptyApplied_limits]; exact h2)]
  rw [heq]
  exact State.emptyApplied_halted (State.emptyApplied_halted (State.emptyApplied_halted hh))

/-! ### The layout of DDR5 -/

theorem imageField_empty {g : SlotImage} {t : Nat} (h : g.ofType t = []) (f : Fld) : imageField g t f = f.reset := by
  unfold imageField
  rw [h]
  rfl

/-- The regions of an image without sections end at 273 MB. -/
theorem State.placeRegions_empty {g : SlotImage} (hsec : ∀ ty, 0x20 ≤ ty → ty ≤ 0x28 → g.ofType ty = []) (s : State) :
    (s.placeRegions 0 (layoutOf g)).2 = 273 := by
  unfold layoutOf
  simp only [imageField_empty (hsec 0x23 (by decide) (by decide)), imageField_empty (hsec 0x26 (by decide) (by decide))]
  rfl

theorem State.layOut_halted {s : State} {g : SlotImage} (hsec : ∀ ty, 0x20 ≤ ty → ty ≤ 0x28 → g.ofType ty = []) (h : 4 ≤ s.fld R.DDR_STAT_USABLE) :
    (s.layOut g).flag R.IMG_RAISE_HALTED = s.flag R.IMG_RAISE_HALTED := by
  have htop : ¬ s.ddrUsable / 2 ^ 20 - 256 < (s.placeRegions 0 (layoutOf g)).2 := by
    rw [State.placeRegions_empty hsec]
    unfold State.ddrUsable
    omega
  have heq : s.layOut g = ((s.placeRegions 0 (layoutOf g)).1.setRegion 8 (s.placeRegions 0 (layoutOf g)).2
      (s.ddrUsable / 2 ^ 20 - 256 - (s.placeRegions 0 (layoutOf g)).2)).showBases := if_neg htop
  rw [heq]
  refine State.flag_of_fld (State.showBases_k (K := fun t => t.fld R.IMG_RAISE_HALTED 0 = s.fld R.IMG_RAISE_HALTED 0) (loose_fld (by decide)) ?_)
  refine State.setRegion_k (K := fun t => t.fld R.IMG_RAISE_HALTED 0 = s.fld R.IMG_RAISE_HALTED 0) (loose_fld (by decide)) ?_ _ _ _
  exact State.placeRegions_k (K := fun t => t.fld R.IMG_RAISE_HALTED 0 = s.fld R.IMG_RAISE_HALTED 0) (loose_fld (by decide)) rfl _ _

end Sys2Proof.Machine
end

section
/-! O54, the slot that is good, and the settlement (R333, R339, R342, R502). -/

namespace Sys2Proof.Machine

/-- A good slot is shown, its image staged, and what it is told. -/
def State.slotGood (s : State) (g : SlotImage) (k : Nat) (second trial : Bool) : State :=
  ((((s.slotShown g k 0).updRaise (fun r => { r with tried := r.tried ++ [k] })).stageImage g).latchIf second R.IMG_EVT_FALLBACK).latchIf trial
    R.IMG_EVT_TRIAL_START

theorem State.slotVerified_good {s : State} {img : ImageBytes} {k : Nat} {second trial : Bool} (h1 : s.raising = true) (h2 : s.phase = 2)
    (hnext : s.nextSlot = (k, second, trial)) (hfault : s.imageFault (s.imageOf img) s.slotRoom = none) (hddr : s.ddrTrained = true) :
    s.slotVerified img = (s.slotGood (s.imageOf img) k second trial).endP2 (s.imageOf img) k false second trial := by
  have hgo : ¬ (!(s.raising && s.phase == 2)) = true := by
    rw [h1, h2]
    exact Bool.false_ne_true
  have htrained : ¬ (!s.ddrTrained) = true := by
    rw [hddr]
    exact Bool.false_ne_true
  unfold State.slotVerified
  rw [if_neg hgo, hnext]
  dsimp only
  rw [hfault]
  exact if_neg htrained

theorem State.slotGood_of_shown {K : State → Prop} (hK : Loose 0x40000000000000000000000000000000000000000000000000000000000000000000000000000000000000000000000000000000000000000000000000400001c00 K) {s : State} {g : SlotImage} {k : Nat}
    {second trial : Bool} (h : K (s.slotShown g k 0)) : K (s.slotGood g k second trial) := by
  have hstage : K (((s.slotShown g k 0).updRaise (fun r => { r with tried := r.tried ++ [k] })).stageImage g) :=
    State.stageImage_k (hK.mono (by decide)) (State.updRaise_k (hK.mono (by decide)) h _) g
  exact State.latchIf_k hK (by decide) (State.latchIf_k hK (by decide) hstage _ _ _ (by decide)) _ _ _ (by decide)

theorem State.slotGood_fld {s : State} {g : SlotImage} {k i : Nat} {second trial : Bool} {f : Fld} (h : regOk 0x40000000000000000000000000000000000000000000000000000000000000000000000000000000000000000000000000000000000000000000000000400001c00 f.id = false) :
    (s.slotGood g k second trial).fld f i = (s.slotShown g k 0).fld f i :=
  State.slotGood_of_shown (K := fun t => t.fld f i = (s.slotShown g k 0).fld f i) (loose_fld h) rfl

theorem State.slotGood_raise (s : State) (g : SlotImage) (k : Nat) (second trial : Bool) :
    (s.slotGood g k second trial).raise = { s.raise with slots := s.raise.slots.put k g, tried := s.raise.tried ++ [k] } := by
  have hstage : ∀ u : State, (u.stageImage g).raise = u.raise := fun u =>
    State.stageImage_k (K := fun t => Part.same u t .raise) (loose_part _ .raise (by decide) (by decide) (by decide)) rfl g
  have hupd : ∀ (u : State) (f : Raise → Raise), (u.updRaise f).raise = f u.raise := fun _ _ => rfl
  unfold State.slotGood
  rw [State.latchIf_raise, State.latchIf_raise, hstage, hupd, State.slotShown_raise]

/-! ### P2 ends -/

/-- P2 is laid out: what runs is shown, and the regions have their places. -/
def State.laidOut (s : State) (g : SlotImage) (slot : Nat) (staged fallback trial : Bool) : State :=
  ((s.showRun g slot staged fallback trial).updRaise (fun r => { r with baseDone := false, stepped := false })).layOut g

theorem State.endP2_eq (s : State) (g : SlotImage) (slot : Nat) (staged fallback trial : Bool) : s.endP2 g slot staged fallback trial
    = if ((s.laidOut g slot staged fallback trial).applySections [0x20, 0x21, 0x22]).flag R.IMG_RAISE_HALTED
      then (s.laidOut g slot staged fallback trial).applySections [0x20, 0x21, 0x22]
      else ((s.laidOut g slot staged fallback trial).applySections [0x20, 0x21, 0x22]).startP3 g slot := rfl

theorem State.laidOut_image (s : State) (g : SlotImage) (slot : Nat) (staged fallback trial : Bool) :
    (s.laidOut g slot staged fallback trial).raise.image = some g ∧ (s.laidOut g slot staged fallback trial).raise.tried = s.raise.tried := by
  have hlay : ∀ u : State, (u.layOut g).raise = u.raise := fun u =>
    State.layOut_k (K := fun t => Part.same u t .raise) (loose_part u .raise (by decide) (by decide) (by decide)) rfl g
  unfold State.laidOut
  rw [hlay]
  exact ⟨rfl, rfl⟩

theorem State.laidOut_fld {s : State} {g : SlotImage} {slot i : Nat} {staged fallback trial : Bool} {f : Fld}
    (h : regOk 0xc0000000000000000020000000100000000ff83ba00000000000000000000000800000000000000000000000000000000000000000000000000000000000000000000000000000000000000000000000400000000 f.id = false) : (s.laidOut g slot staged fallback trial).fld f i = s.fld f i :=
  State.layOut_k (K := fun t => t.fld f i = s.fld f i) ((loose_fld h).mono (by decide))
    (State.updRaise_k (K := fun t => t.fld f i = s.fld f i) ((loose_fld h).mono (by decide))
      (State.showRun_k (K := fun t => t.fld f i = s.fld f i) ((loose_fld h).mono (by decide)) rfl g slot staged fallback trial) _) g

theorem State.applySections_raise (s : State) (ts : List Nat) : (s.applySections ts).raise = s.raise :=
  State.applySections_k (K := fun t => Part.same s t .raise) (loose_part s .raise (by decide) (by decide) (by decide)) rfl ts

/-- P3 begins. -/
theorem State.startP3_of_applied {K : State → Prop} (hK : Loose 0x804000000000000 K) {s : State} {g : SlotImage} {slot : Nat}
    (h : K (((s.enterPhase 3).clearRange 0x10280000 0x10380000).applySections [0x23])) : K (s.startP3 g slot) :=
  State.tallyAdd_k (hK.mono (by decide)) (foldl_k (K := K) _ _ h fun _ _ ht => State.loadBank_k (hK.mono (by decide)) ht _ _) _ _ _ _

theorem State.startP3_phase (s : State) (g : SlotImage) (slot : Nat) : (s.startP3 g slot).phase = 3 := by
  have hclear : ∀ u : State, (u.clearRange 0x10280000 0x10380000).phase = u.phase := fun _ => rfl
  refine State.startP3_of_applied (K := fun t => t.fld R.IMG_RAISE_PHASE 0 = 3) (loose_fld (by decide)) ?_
  exact (State.applySections_phase _ _).trans ((hclear _).trans (State.enterPhase_phase _ (by decide)))

theorem State.startP3_slot (s : State) (g : SlotImage) (slot : Nat) : (s.startP3 g slot).fld R.IMG_RAISE_SLOT = s.fld R.IMG_RAISE_SLOT := by
  have hclear : ∀ u : State, (u.clearRange 0x10280000 0x10380000).fld R.IMG_RAISE_SLOT = u.fld R.IMG_RAISE_SLOT := fun _ => rfl
  refine State.startP3_of_applied (K := fun t => t.fld R.IMG_RAISE_SLOT 0 = s.fld R.IMG_RAISE_SLOT 0) (loose_fld (by decide)) ?_
  refine (State.applySections_fld (f := R.IMG_RAISE_SLOT) (by decide) (by decide) (by decide) _ 0).trans ?_
  exact (hclear _).trans (State.enterPhase_fld (by decide))

theorem State.startP3_raise (s : State) (g : SlotImage) (slot : Nat) : (s.startP3 g slot).raise = s.raise :=
  State.startP3_k (K := fun t => Part.same s t .raise) (loose_part s .raise (by decide) (by decide) (by decide)) rfl g slot

/-- What the end of P2 leaves of the raising. -/
theorem State.endP2_raise (s : State) (g : SlotImage) (slot : Nat) (staged fallback trial : Bool) :
    (s.endP2 g slot staged fallback trial).raise.image = some g ∧ (s.endP2 g slot staged fallback trial).raise.tried = s.raise.tried := by
  have hraise : (s.endP2 g slot staged fallback trial).raise = (s.laidOut g slot staged fallback trial).raise := by
    rw [State.endP2_eq]
    split
    · exact State.applySections_raise _ _
    · exact (State.startP3_raise _ _ _).trans (State.applySections_raise _ _)
  rw [hraise]
  exact s.laidOut_image g slot staged fallback trial

/-- A raising that P2 does not halt is in P3. -/
theorem State.endP2_running {s : State} {g : SlotImage} {slot : Nat} {staged fallback trial : Bool}
    (h : (s.endP2 g slot staged fallback trial).flag R.IMG_RAISE_HALTED = false) :
    (s.endP2 g slot staged fallback trial).phase = 3 ∧ (s.endP2 g slot staged fallback trial).fld R.IMG_RAISE_SLOT = s.fld R.IMG_RAISE_SLOT := by
  rw [State.endP2_eq] at h ⊢
  split
  · next hhalt =>
    rw [if_pos hhalt] at h
    exact absurd (hhalt.symm.trans h) Bool.false_ne_true.symm
  · refine ⟨State.startP3_phase _ _ _, (State.startP3_slot _ _ _).trans ?_⟩
    exact (State.applySections_fld (f := R.IMG_RAISE_SLOT) (by decide) (by decide) (by decide) _ 0).trans (State.laidOut_fld (by decide))

/-- An image without sections takes raising to P3. -/
theorem State.endP2_empty {s : State} {g : SlotImage} (hsec : ∀ ty, 0x20 ≤ ty → ty ≤ 0x28 → g.ofType ty = []) (hh : s.flag R.IMG_RAISE_HALTED = false)
    (h0 : s.badLimits 0x20 = false) (h2 : s.badLimits 0x22 = false) (hus : 4 ≤ s.fld R.DDR_STAT_USABLE) (slot : Nat) (staged fallback trial : Bool) :
    (s.endP2 g slot staged fallback trial).phase = 3 := by
  have hrun : ∀ (f : Fld), regOk 0x100000000ff800000000000000000000000000000000000000000000000000000000000000000000000000000000000000000000000000000000000000000000000000400000000 f.id = false →
      ((s.showRun g slot staged fallback trial).updRaise (fun r => { r with baseDone := false, stepped := false })).fld f = s.fld f := fun f hf =>
    State.updRaise_k (K := fun t => t.fld f 0 = s.fld f 0) ((loose_fld hf).mono (by decide))
      (State.showRun_k (K := fun t => t.fld f 0 = s.fld f 0) ((loose_fld hf).mono (by decide)) rfl g slot staged fallback trial) _
  have hlaid : (s.laidOut g slot staged fallback trial).flag R.IMG_RAISE_HALTED = false := by
    refine (State.layOut_halted hsec ?_).trans ((State.flag_of_fld (hrun R.IMG_RAISE_HALTED (by decide))).trans hh)
    rw [hrun R.DDR_STAT_USABLE (by decide)]
    exact hus
  have hlim : ∀ ty, (s.laidOut g slot staged fallback trial).badLimits ty = s.badLimits ty := fun ty =>
    State.badLimits_congr (State.laidOut_fld (by decide)) (State.laidOut_fld (by decide)) (State.laidOut_fld (by decide)) (State.laidOut_fld (by decide)) ty
  have happlied := State.applySections_empty (s.laidOut_image g slot staged fallback trial).1 hsec hlaid ((hlim _).trans h0) ((hlim _).trans h2)
  rw [State.endP2_eq, if_neg (Bool.eq_false_iff.mp happlied)]
  exact State.startP3_phase _ _ _

theorem State.tamperCheck_image (s : State) : s.tamperCheck.raise.image = s.raise.image := by
  obtain ⟨b, hb⟩ := s.tamperCheck_raise
  rw [hb]

theorem State.tamperCheck_tried (s : State) : s.tamperCheck.raise.tried = s.raise.tried := by
  obtain ⟨b, hb⟩ := s.tamperCheck_raise
  rw [hb]

/-- Of O54, a slot that passes its checks. -/
theorem slotIsGood {s : State} {img : ImageBytes} {k : Nat} {second trial : Bool} (h1 : s.raising = true) (h2 : s.phase = 2)
    (hnext : s.nextSlot = (k, second, trial)) (hfault : s.imageFault (s.imageOf img) s.slotRoom = none) (hddr : s.ddrTrained = true) :
    Answers (.slotVerifyDone img) s (fun t => t.raise.tried = s.raise.tried ++ [k] ∧ t.raise.image = some (s.imageOf img)
      ∧ (t.flag R.IMG_RAISE_HALTED = false → t.phase = 3 ∧ t.fld R.IMG_RAISE_SLOT = k % 2)
      ∧ ((∀ ty, 0x20 ≤ ty → ty ≤ 0x28 → (s.imageOf img).ofType ty = []) → s.badLimits 0x20 = false → s.badLimits 0x22 = false →
        4 ≤ s.fld R.DDR_STAT_USABLE → t.phase = 3)) := by
  have hexec : exec (.slotVerifyDone img) s
      = .next ((s.slotGood (s.imageOf img) k second trial).endP2 (s.imageOf img) k false second trial).tamperCheck :=
    congrArg (fun u : State => Host.Outcome.next u.tamperCheck) (State.slotVerified_good h1 h2 hnext hfault hddr)
  obtain ⟨himage, htried⟩ := (s.slotGood (s.imageOf img) k second trial).endP2_raise (s.imageOf img) k false second trial
  refine ⟨_, hexec, ?_, ?_, fun hrun => ?_, fun hsec h20 h22 hus => ?_⟩
  · exact (State.tamperCheck_tried _).trans (htried.trans (congrArg Raise.tried (s.slotGood_raise (s.imageOf img) k second trial)))
  · exact (State.tamperCheck_image _).trans himage
  · have hgoes : ((s.slotGood (s.imageOf img) k second trial).endP2 (s.imageOf img) k false second trial).flag R.IMG_RAISE_HALTED = false := by
      rw [← Bool.not_eq_true]
      exact fun hhalt => Bool.false_ne_true (hrun.symm.trans (State.tamperCheck_halted hhalt))
    obtain ⟨hphase, hslot⟩ := State.endP2_running hgoes
    refine ⟨(State.fld_tamperCheck _ _ (by decide)).trans hphase, (State.fld_tamperCheck _ _ (by decide)).trans (hslot.trans ?_)⟩
    exact (State.slotGood_fld (by decide)).trans (State.slotShown_slot _ _ _ _)
  · have hgood : ∀ (f : Fld), regOk 0xfe0000000044000000000000000000000000000000000000000000000000000000000000000000000000000000000000000000000000000000000000000000002000400001c00 f.id = false →
        (s.slotGood (s.imageOf img) k second trial).fld f = s.fld f := fun f hf =>
      (State.slotGood_fld (regOk_false_of_sub (by decide) hf)).trans (State.slotShown_fld (regOk_false_of_sub (by decide) hf))
    have hlim : ∀ ty, (s.slotGood (s.imageOf img) k second trial).badLimits ty = s.badLimits ty :=
      State.badLimits_congr (hgood _ (by decide)) (hgood _ (by decide)) (hgood _ (by decide)) (hgood _ (by decide))
    refine (State.fld_tamperCheck _ _ (by decide)).trans (State.endP2_empty hsec ?_ ((hlim _).trans h20) ((hlim _).trans h22) ?_ k false second trial)
    · exact (State.flag_of_fld (hgood R.IMG_RAISE_HALTED (by decide))).trans (State.flag_of_raising h1)
    · rw [hgood R.DDR_STAT_USABLE (by decide)]
      exact hus

/-- Settles O54, phase by phase: what each phase's end leaves, how the slots are tried, and what stops or starts a raising. -/
theorem raisingRuns : Obligations.RaisingRuns := by
  unfold Obligations.RaisingRuns
  intro s
  refine ⟨?_, ?_, ?_, ?_, ?_, ?_, ?_, ?_, ?_, ?_, ?_, ?_, ?_, ?_, ?_, ?_, ?_, ?_⟩
  · exact fun h1 h2 => raiseStarts h1 h2
  · exact fun h1 h2 => raiseStartHeld h1 h2
  · exact powerLost s
  · exact fun f side slow h1 h2 => fusesAreRead f side slow h1 h2
  · exact fun fl h1 h2 => memoryCleared fl h1 h2
  · exact fun config temp failed h1 h2 h3 => ddrTrains config temp failed h1 h2 h3
  · intro img g k second trial hg h1 h2 hnext
    subst hg
    exact ⟨fun code sect hfault => slotIsBad h1 h2 hnext hfault, fun hfault hddr => slotIsGood h1 h2 hnext hfault hddr⟩
  · exact fun failed h1 h2 => ⟨joinersBecomeReady failed h1 h2, joinersMissing failed h1 h2⟩
  · exact fun h1 h2 h3 h4 h5 => p4Ends h1 h2 h3 h4 h5
  · exact fun h1 h2 h3 => p5Ends h1 h2 h3
  · exact fun h1 h2 h3 h4 drs => raisingReady h1 h2 h3 h4 drs
  · exact fun h1 h2 => raiseAgain h1 h2
  · intro h
    refine ⟨s, congrArg Host.Outcome.next (if_neg ?_), rfl⟩
    rw [h]
    exact Bool.false_ne_true
  · exact fun k hk => ⟨_, exec_jtagTakes hk, s.jtagStops_spec⟩
  · exact fun k hk hj => ⟨_, exec_jtagNone hk hj, rfl⟩
  · exact fun k hk hj => ⟨fun hs => ⟨_, exec_jtagLetsGo hk hj, State.jtagLeaves_stopped hs⟩, fun hs => ⟨_, exec_jtagLetsGo hk hj, State.jtagLeaves_running hs⟩⟩
  · exact fun hs => ⟨_, rfl, State.jtagLeaves_stopped hs⟩
  · exact fun hs => ⟨_, rfl, State.jtagLeaves_running hs⟩

end Sys2Proof.Machine
end

section
/-! O55, what each block does in its own tick (R143, R177, R267, R271, R308, R311). -/

namespace Sys2Proof.Machine

/-! ### Plumb selects -/

theorem State.enterPlb_spec (s : State) {st : Nat} (hst : st < 2 ^ R.PLB_STATUS_STATE.width) (sel : Nat) :
    (s.enterPlb st sel).plb = st ∧ (s.enterPlb st sel).plbSel = sel % 16 := by
  have hplumb : ∀ (u : State) (f : Plumb → Plumb) (g : Fld), (u.updPlumb f).fld g = u.fld g := fun _ _ _ => rfl
  constructor
  · refine (hplumb _ _ _).trans ((State.fld_setFld_ne _ _ _ _ (by decide)).trans ((State.fld_setFld_ne _ _ _ _ (by decide)).trans ?_))
    exact (State.fld_setFld_self _ _ _ _).trans (Nat.mod_eq_of_lt hst)
  · exact (hplumb _ _ _).trans ((State.fld_setFld_ne _ _ _ _ (by decide)).trans (State.fld_setFld_self _ _ _ _))

theorem State.bridging_spec (s : State) (r : Nat) : (s.enterPlb plbBridging r).plb = plbBridging ∧ (s.enterPlb plbBridging r).plbSel = r % 16 :=
  s.enterPlb_spec (by decide) r

/-- What acquiring a reference does beyond entering ACQUIRING. -/
theorem State.acquire_of_entered {K : State → Prop} (hK : Loose 0x400000000000000000000000000000000000000000000000000000000000000000000000000000000000000000000000480000100 K) {s : State} {r : Nat}
    (h : K (s.enterPlb plbAcquiring r)) : K (s.acquire r) := by
  have hedge : ∀ d, K ((s.enterPlb plbAcquiring r).keepEdge r d) := State.keepEdge_k (hK.mono (by decide)) h r
  have hpps : ∀ (b : Bool) (u : State) (n : Nat), K u → K (if b then u.setFld R.PLB_PPS_PHASE 0 n else u) := fun b u n hu =>
    ite_k (State.setFld_k hK hu _ _ _ (by decide)) hu
  have hstep : ∀ (b : Bool) (u : State), K u → K (if b then { u with raise := { u.raise with stepped := true } } else u) := fun b u hu =>
    ite_k (hK.build hu rfl) hu
  exact State.drawn_k (hK.mono (by decide)) (State.drawn_k (hK.mono (by decide)) (State.updPlumb_k (hK.mono (by decide)) (hstep _ _ (hpps _ _ _ (hedge _))) _))

theorem State.acquire_spec (s : State) (r : Nat) : (s.acquire r).plb = plbAcquiring ∧ (s.acquire r).plbSel = r % 16 := by
  obtain ⟨hst, hsel⟩ := s.enterPlb_spec (st := plbAcquiring) (by decide) r
  exact ⟨State.acquire_of_entered (K := fun t => t.fld R.PLB_STATUS_STATE 0 = plbAcquiring) (loose_fld (by decide)) hst,
    State.acquire_of_entered (K := fun t => t.fld R.PLB_STATUS_SEL 0 = r % 16) (loose_fld (by decide)) hsel⟩

/-- With no reference left Plumb holds over by its model, or runs free. -/
theorem State.plbLose_spec (s : State) : s.plbLose.plb = (if s.flag R.PLB_STATUS_MODEL_VALID then plbHoldover else plbFree) ∧ s.plbLose.plbSel = 0xF := by
  unfold State.plbLose
  split
  · exact s.enterPlb_spec (by decide) 0xF
  · exact s.enterPlb_spec (by decide) 0xF

/-- The tick's selection in FREE. -/
def State.selectFree (s : State) : State :=
  match s.bestRef with
  | some r => s.acquire r
  | none => s

theorem State.tickSelect_free {s : State} (h : s.plb = plbFree) : s.tickSelect = s.selectFree := if_pos h

/-- The tick's selection in LOCKED. -/
def State.selectLocked (s : State) : State :=
  match s.keepOrMove s.plbSel with
  | some r => if r = s.plbSel then s else s.enterPlb plbBridging r
  | none => s.plbLose

theorem State.tickSelect_locked {s : State} (h : s.plb = plbLocked) : s.tickSelect = s.selectLocked := by
  unfold State.tickSelect
  dsimp only
  rw [h, if_neg (by decide), if_neg (by decide), if_pos rfl]
  rfl

/-- The tick's selection without a reference. -/
def State.selectHeld (s : State) : State :=
  match s.bestRef with
  | some r => s.enterPlb plbBridging r
  | none => s

theorem State.tickSelect_held {s : State} (h : s.plb = plbHoldover ∨ s.plb = plbExpired) : s.tickSelect = s.selectHeld := by
  unfold State.tickSelect
  dsimp only
  obtain h | h := h <;> rw [h, if_neg (by decide), if_neg (by decide), if_neg (by decide), if_neg (by decide)] <;> rfl

/-- Of O55, Plumb without a reference in FREE. -/
theorem selectsFree {s : State} (h : s.plb = plbFree) : (s.bestRef = none → s.tickSelect = s)
    ∧ ∀ r, s.bestRef = some r → s.tickSelect.plb = plbAcquiring ∧ s.tickSelect.plbSel = r % 16 := by
  rw [State.tickSelect_free h]
  unfold State.selectFree
  constructor
  · intro hr
    rw [hr]
  · intro r hr
    rw [hr]
    exact s.acquire_spec r

theorem State.selectLocked_some {s : State} {r : Nat} (hr : s.keepOrMove s.plbSel = some r) :
    s.selectLocked = if r = s.plbSel then s else s.enterPlb plbBridging r := by
  unfold State.selectLocked
  rw [hr]

theorem State.selectLocked_moves {s : State} {r : Nat} (hr : s.keepOrMove s.plbSel = some r) (hne : r ≠ s.plbSel) :
    s.selectLocked.plb = plbBridging ∧ s.selectLocked.plbSel = r % 16 := by
  rw [State.selectLocked_some hr, if_neg hne]
  exact s.bridging_spec r

/-- Of O55, Plumb whose reference in LOCKED is no longer one. -/
theorem selectsAnother {s : State} (h : s.plb = plbLocked) (hc : s.candidate s.plbSel = false) :
    (s.bestRef = none → s.tickSelect.plb = (if s.flag R.PLB_STATUS_MODEL_VALID then plbHoldover else plbFree) ∧ s.tickSelect.plbSel = 0xF)
    ∧ ∀ r, s.bestRef = some r → r ≠ s.plbSel → s.tickSelect.plb = plbBridging ∧ s.tickSelect.plbSel = r % 16 := by
  have hkeep : s.keepOrMove s.plbSel = s.bestRef := by
    refine if_pos ?_
    rw [hc, Bool.not_false, Bool.or_true]
  rw [State.tickSelect_locked h]
  constructor
  · intro hr
    have heq : s.selectLocked = s.plbLose := by
      unfold State.selectLocked
      rw [hkeep, hr]
    rw [heq]
    exact s.plbLose_spec
  · exact fun r hr hne => State.selectLocked_moves (hkeep.trans hr) hne

/-- Whether Plumb keeps its reference while it is a good one. -/
def State.keepsCurrent (s : State) (cur : Nat) : Option Nat :=
  match s.bestAuto with
  | some b => if s.selRank b < s.selRank cur then some b else some cur
  | none => some cur

theorem State.keepOrMove_keeps {s : State} (h1 : s.isStandby = false) (h2 : s.fld R.PLB_STATUS_CMD_ACT = 0) (h3 : s.flag R.PLB_CFG_REVERT = false) {cur : Nat}
    (h4 : s.candidate cur = true) : s.keepOrMove cur = s.keepsCurrent cur := by
  unfold State.keepOrMove
  rw [h1, h2, h3, h4]
  rfl

theorem State.keepOrMove_reverts {s : State} (h1 : s.isStandby = false) (h2 : s.fld R.PLB_STATUS_CMD_ACT = 0) (h3 : s.flag R.PLB_CFG_REVERT = true) (cur : Nat) :
    s.keepOrMove cur = s.bestAuto := by
  have hbest : s.bestRef = s.bestAuto := by
    unfold State.bestRef
    rw [h1, h2]
    rfl
  have hkeep : s.keepOrMove cur = s.bestRef := by
    refine if_pos ?_
    rw [h3, Bool.or_true, Bool.true_or]
  exact hkeep.trans hbest

/-- Of O55, Plumb whose reference in LOCKED is a good one. -/
theorem selectsBetter {s : State} (h : s.plb = plbLocked) (h1 : s.isStandby = false) (h2 : s.fld R.PLB_STATUS_CMD_ACT = 0) (hc : s.candidate s.plbSel = true) :
    (s.flag R.PLB_CFG_REVERT = false → ∀ r, s.bestAuto = some r →
          (s.selRank r < s.selRank s.plbSel → s.tickSelect.plb = plbBridging ∧ s.tickSelect.plbSel = r % 16)
          ∧ (s.selRank s.plbSel ≤ s.selRank r → s.tickSelect = s))
        ∧ (s.flag R.PLB_CFG_REVERT = true → ∀ r, s.bestAuto = some r → r ≠ s.plbSel →
            s.tickSelect.plb = plbBridging ∧ s.tickSelect.plbSel = r % 16) := by
  rw [State.tickSelect_locked h]
  constructor
  · intro h3 r hr
    have hkeep : s.keepOrMove s.plbSel = if s.selRank r < s.selRank s.plbSel then some r else some s.plbSel := by
      rw [State.keepOrMove_keeps h1 h2 h3 hc]
      unfold State.keepsCurrent
      rw [hr]
    constructor
    · intro hlt
      refine State.selectLocked_moves (hkeep.trans (if_pos hlt)) ?_
      intro he
      rw [he] at hlt
      exact Nat.lt_irrefl _ hlt
    · intro hle
      rw [State.selectLocked_some (hkeep.trans (if_neg (Nat.not_lt.mpr hle))), if_pos rfl]
  · exact fun h3 r hr hne => State.selectLocked_moves ((State.keepOrMove_reverts h1 h2 h3 _).trans hr) hne

/-- Of O55, Plumb that has held over. -/
theorem selectsAgain {s : State} (h : s.plb = plbHoldover ∨ s.plb = plbExpired) (r : Nat) (hr : s.bestRef = some r) :
    s.tickSelect.plb = plbBridging ∧ s.tickSelect.plbSel = r % 16 := by
  have heq : s.selectHeld = s.enterPlb plbBridging r := by
    unfold State.selectHeld
    rw [hr]
  rw [State.tickSelect_held h, heq]
  exact s.bridging_spec r

/-! ### The shadow lamination -/

theorem State.moveShadow_spec (s : State) {k : Nat} (h : k < 9) : (s.moveShadow k).fld R.FAB_LAM_STAT_SHADOW_ACT = k
    ∧ (s.moveShadow k).fld R.FAB_LAM_STAT_SHADOW_FRAMES = 0 := by
  have hw : k < 2 ^ R.FAB_LAM_STAT_SHADOW_ACT.width := lt_trans h (by decide)
  exact ⟨(State.fld_setFld_ne _ _ _ _ (by decide)).trans ((State.fld_setFld_self _ _ _ _).trans (Nat.mod_eq_of_lt hw)), State.fld_setFld_self _ _ _ _⟩

/-- Of O55, the shadow lamination. -/
theorem shadowRotates {s : State} (h1 : s.flag R.FAB_LAM_STAT_ROTATE_ACT = true) (h2 : s.sist.lamsGone = false) (h3 : s.flag R.FAB_LAM_STAT_SUB_ACT = false) :
    (s.frame % 8000 = 0 → s.tickLam.fld R.FAB_LAM_STAT_SHADOW_ACT = (s.fld R.FAB_LAM_STAT_SHADOW_ACT + 1) % 9
          ∧ s.tickLam.fld R.FAB_LAM_STAT_SHADOW_FRAMES = 0)
        ∧ (s.frame % 8000 ≠ 0 → s.tickLam.fld R.FAB_LAM_STAT_SHADOW_ACT = s.fld R.FAB_LAM_STAT_SHADOW_ACT) := by
  constructor
  · intro hf
    have heq : s.tickLam = s.moveShadow ((s.fld R.FAB_LAM_STAT_SHADOW_ACT + 1) % 9) := by
      refine if_pos ?_
      rw [h1, h2, h3, decide_eq_true hf]
      rfl
    rw [heq]
    exact s.moveShadow_spec (Nat.mod_lt _ (by decide))
  · intro hf
    have heq : s.tickLam = s.satFld R.FAB_LAM_STAT_SHADOW_FRAMES 0 1 := by
      refine if_neg ?_
      rw [decide_eq_false hf, Bool.and_false]
      exact Bool.false_ne_true
    rw [heq]
    exact State.fld_setFld_ne _ _ _ _ (by decide)

/-! ### Members' relations -/

/-- A frame is more than 8,192 frames back. -/
def State.longAgo (s : State) (f : Nat) : Bool := decide (8192 < s.sinceFrame f) && decide (s.sinceFrame f < 2 ^ 31)

/-- A link whose steps that `p` names are forgotten, unless it is confirmed. -/
def Link.forget (l : Link) (p : ArrStep → Bool) : Link := if l.confirmed then l else { l with steps := l.steps.filter (fun x => !p x) }

/-- A member's link at a tick. -/
def State.linkTicked (s : State) (l : Link) : Link :=
  (if s.longAgo l.kFrom then { l with kOld := l.k, kFrom := s.frame } else l).forget (fun x => s.longAgo x.page)

theorem Link.forget_kOld (l : Link) (p : ArrStep → Bool) : (l.forget p).kOld = l.kOld := by
  unfold Link.forget
  split <;> rfl

theorem State.linkTicked_kOld {s : State} {l : Link} (h : s.longAgo l.kFrom = true) : (s.linkTicked l).kOld = l.k := by
  unfold State.linkTicked
  rw [Link.forget_kOld, if_pos h]

theorem State.tickLinks_links (s : State) : s.tickLinks.links = s.links.mapVals (fun _ l => s.linkTicked l) := rfl

theorem State.link_of_find {s : State} {src : Nat} {l : Link} (h : s.links.find src = some l) : s.link src = l := by
  unfold State.link Tab.get
  rw [h]
  rfl

/-- Of O55, a relation of long ago. -/
theorem relationForgotten {s : State} {src : Nat} {l : Link} (hl : s.links.find src = some l) (h1 : 8192 < s.sinceFrame l.kFrom)
    (h2 : s.sinceFrame l.kFrom < 2 ^ 31) : (s.tickLinks.link src).kOld = l.k := by
  have hfind : s.tickLinks.links.find src = some (s.linkTicked l) := by
    rw [State.tickLinks_links, Tab.find_mapVals, hl]
    rfl
  have hlong : s.longAgo l.kFrom = true := Bool.and_eq_true_iff.mpr ⟨decide_eq_true h1, decide_eq_true h2⟩
  rw [State.link_of_find hfind]
  exact State.linkTicked_kOld hlong

/-! ### A late COMMIT record -/

theorem State.drainRecs_late {s : State} {r : JRec} {jack : Nat} (h1 : frameReached jack r.seq = true) (h2 : r.kind = recCommit)
    (h3 : frameLater s.frame r.frame = true) : s.drainRecs true jack [r]
      = ((s.takeCommitRec r).latchIf (s.frame != frameAdd r.frame 1) R.MAT_EVT_COMMIT_LATE).updMate (fun m => { m with recv := [] }) := by
  unfold State.drainRecs State.drainRecs
  rw [h1, h3, h2, if_neg (by decide), if_pos rfl]
  rfl

/-- Of O55, a COMMIT record whose frame has passed. -/
theorem commitTakenLate {s : State} {r : JRec} (h1 : s.isStandby = true) (h2 : s.mate.installed = true) (h3 : s.fld R.MAT_COPY_PHASE = 0)
    (h4 : s.mate.recv = [r]) (h5 : r.kind = recCommit) (h6 : frameReached (s.fld R.MAT_JACK_VALUE) r.seq = true) (h7 : frameLater s.frame r.frame = true) :
    (s.drain true).mate.recv = [] ∧ (s.drain true).fld R.DEV_COMMIT_SEQ_CSEQ = r.cseq % 2 ^ R.DEV_COMMIT_SEQ_CSEQ.width
      ∧ (s.frame ≠ frameAdd r.frame 1 → (s.drain true).latched R.MAT_EVT_COMMIT_LATE = true) := by
  have heq : s.drain true = ((s.takeCommitRec r).latchIf (s.frame != frameAdd r.frame 1) R.MAT_EVT_COMMIT_LATE).updMate (fun m => { m with recv := [] }) := by
    rw [State.drain_complete h1 h2 (by rw [h3]; decide) (by rw [h3]; decide), h4]
    exact State.drainRecs_late h6 h5 h7
  have hseq : (s.takeCommitRec r).fld R.DEV_COMMIT_SEQ_CSEQ = r.cseq % 2 ^ R.DEV_COMMIT_SEQ_CSEQ.width := State.fld_setFld_self _ _ _ _
  have hupd : ∀ (u : State) (f : Fld), (u.updMate (fun m => { m with recv := [] })).fld f = u.fld f := fun _ _ => rfl
  rw [heq]
  refine ⟨rfl, ?_, fun hne => ?_⟩
  · refine (hupd _ _).trans ((State.fld_latchIf_ne (s.takeCommitRec r) (s.frame != frameAdd r.frame 1) R.MAT_EVT_COMMIT_LATE 0 0 ?_).trans hseq)
    decide
  · refine State.latched_of_fld (hupd _ _) (State.latched_latchIf ?_ (s.takeCommitRec r) R.MAT_EVT_COMMIT_LATE 0 (by decide))
    exact bne_iff_ne.mpr hne

end Sys2Proof.Machine
end

section
/-! O55, the election at a tick (R387). -/

namespace Sys2Proof.Machine

/-! ### The claim that wins -/

/-- The better of two claims. -/
def State.bestClaim (s : State) (b : Option (Nat × Nat)) (c : Nat × Nat) : Option (Nat × Nat) :=
  match b with
  | none => some c
  | some a => if s.claimBefore c a then some c else some a

theorem State.bestClaim_none (s : State) (c : Nat × Nat) : s.bestClaim none c = some c := rfl

theorem State.bestClaim_some (s : State) (a c : Nat × Nat) : s.bestClaim (some a) c = if s.claimBefore c a then some c else some a := rfl

theorem State.winner_vacant {s : State} (h1 : s.handing = false) (h2 : s.ownerPort = noPort) : s.winner = s.own.claims.foldl s.bestClaim none := by
  unfold State.winner
  rw [h1, if_neg Bool.false_ne_true]
  exact if_pos h2

/-- A claim that goes before another does not come after it. -/
theorem State.claimBefore_asymm {s : State} {a b : Nat × Nat} (h : s.claimBefore a b = true) : s.claimBefore b a = false := by
  unfold State.claimBefore at h ⊢
  rw [Bool.or_eq_true, Bool.and_eq_true, decide_eq_true_iff, decide_eq_true_iff, beq_iff_eq] at h
  rw [Bool.or_eq_false_iff, decide_eq_false_iff_not, Bool.and_eq_false_iff, beq_eq_false_iff_ne, decide_eq_false_iff_not]
  omega

theorem State.bestClaim_keeps {s : State} {c : Nat × Nat} (l : List (Nat × Nat)) (h : ∀ x ∈ l, x ≠ c → s.claimBefore c x = true) :
    l.foldl s.bestClaim (some c) = some c := by
  induction l with
  | nil => rfl
  | cons x l ih =>
    have hx : s.bestClaim (some c) x = some c := by
      rw [State.bestClaim_some]
      split
      · next hbefore =>
        by_cases he : x = c
        · rw [he]
        · exact absurd (hbefore.symm.trans (State.claimBefore_asymm (h x (List.mem_cons_self ..) he))) Bool.false_ne_true.symm
      · rfl
    rw [List.foldl_cons, hx]
    exact ih fun y hy => h y (List.mem_cons_of_mem _ hy)

/-- The claim that goes before every other is found, whatever claim stood first. -/
theorem State.bestClaim_finds {s : State} {c : Nat × Nat} (l : List (Nat × Nat)) (h : ∀ x ∈ l, x ≠ c → s.claimBefore c x = true) (hc : c ∈ l)
    (b : Option (Nat × Nat)) (hb : ∀ a, b = some a → a ≠ c → s.claimBefore c a = true) : l.foldl s.bestClaim b = some c := by
  induction l generalizing b with
  | nil => exact absurd hc List.not_mem_nil
  | cons x l ih =>
    rw [List.foldl_cons]
    by_cases hx : x = c
    · have hfirst : s.bestClaim b x = some c := by
        rw [hx]
        cases b with
        | none => rfl
        | some a =>
          rw [State.bestClaim_some]
          by_cases ha : a = c
          · rw [ha, ite_self]
          · exact if_pos (hb a rfl ha)
      rw [hfirst]
      exact State.bestClaim_keeps l fun y hy => h y (List.mem_cons_of_mem _ hy)
    · refine ih (fun y hy => h y (List.mem_cons_of_mem _ hy)) ((List.mem_cons.mp hc).resolve_left (Ne.symm hx)) _ ?_
      intro a ha hne
      have hxc : s.claimBefore c x = true := h x (List.mem_cons_self ..) hx
      cases b with
      | none =>
        obtain rfl : x = a := Option.some.inj ha
        exact hxc
      | some a' =>
        rw [State.bestClaim_some] at ha
        split at ha
        · obtain rfl : x = a := Option.some.inj ha
          exact hxc
        · exact hb a ha hne

/-- Where there is no owner, the claim that goes before every other wins. -/
theorem State.winner_is {s : State} {c : Nat × Nat} (h1 : s.handing = false) (h2 : s.ownerPort = noPort) (hc : c ∈ s.own.claims)
    (h : ∀ x ∈ s.own.claims, x ≠ c → s.claimBefore c x = true) : s.winner = some c := by
  rw [State.winner_vacant h1 h2]
  exact State.bestClaim_finds _ h hc none fun a ha => absurd ha (by simp)

/-! ### The election -/

/-- What an election tells the ports that lost. -/
def State.losersTold (s : State) (l : List (Nat × Nat)) : State := l.foldl (fun t x => t.latchFor R.MGT_EVT_CLAIM_REFUSED x.1) s

theorem State.elect_winner {s : State} {c : Nat × Nat} (h : s.winner = some c) :
    s.elect = ((s.updOwn (fun o => { o with claims := [] })).grant c).losersTold (s.own.claims.erase c) := by
  unfold State.elect
  rw [h]
  rfl

theorem State.losersTold_own (s : State) (l : List (Nat × Nat)) : (s.losersTold l).own = s.own ∧ (s.losersTold l).ownerPort = s.ownerPort := by
  constructor
  · exact foldl_k (K := fun t => Part.same s t .own) _ _ rfl fun t x ht =>
      State.latchFor_k (K := fun t => Part.same s t .own) (m := 0x20000000000000000000000000000000000000000000000000000000000000000000000000000000000000000000000000000000000000000000000000000000000000000000000000c00) (loose_part s .own (by decide) (by decide) (by decide)) (by decide) ht _ _
        (by decide)
  · exact foldl_k (K := fun t => t.fld R.MGT_OWNER_PORT 0 = s.fld R.MGT_OWNER_PORT 0) _ _ rfl fun t x ht =>
      (State.fld_latchAs_ne _ _ _ _ _ _ (by decide)).trans ht

theorem State.latchFor_keepsOwnerChange {s : State} (h : s.latched R.MGT_EVT_OWNER_CHANGE = true) (p : Nat) :
    (s.latchFor R.MGT_EVT_CLAIM_REFUSED p).latched R.MGT_EVT_OWNER_CHANGE = true :=
  State.latched_latchAs_of_latched (e' := R.MGT_EVT_CLAIM_REFUSED) h (by decide) (.inl rfl) 0 p 0

theorem State.losersTold_latched {s : State} (h : s.latched R.MGT_EVT_OWNER_CHANGE = true) (l : List (Nat × Nat)) :
    (s.losersTold l).latched R.MGT_EVT_OWNER_CHANGE = true :=
  foldl_k (K := fun t => t.latched R.MGT_EVT_OWNER_CHANGE = true) _ _ h fun _ x ht => State.latchFor_keepsOwnerChange ht x.1

/-- A port is owner by a claim that is granted at this tick. -/
def State.ownedBy (s : State) (c : Nat × Nat) : Prop :=
  s.ownerPort = c.1 ∧ s.own.token = c.2 ∧ s.own.claims = [] ∧ s.latched R.MGT_EVT_OWNER_CHANGE = true

theorem State.elect_grants {s : State} {c : Nat × Nat} (h : s.winner = some c) (hc : c.1 < 8) : s.elect.ownedBy c := by
  obtain ⟨hport, htoken, hclaims, -, hlatched⟩ := (s.updOwn (fun o => { o with claims := [] })).grant_spec hc
  obtain ⟨hown, hkept⟩ := ((s.updOwn (fun o => { o with claims := [] })).grant c).losersTold_own (s.own.claims.erase c)
  rw [State.elect_winner h]
  exact ⟨hkept.trans hport, (congrArg Owning.token hown).trans htoken, (congrArg Owning.claims hown).trans hclaims, State.losersTold_latched hlatched _⟩

/-- Where there is no owner, the tick grants the claim that goes before every other. -/
theorem State.tickOwner_grants {s : State} {c : Nat × Nat} (h1 : s.handing = false) (h2 : s.ownerPort = noPort) (hc : c ∈ s.own.claims) (hp : c.1 < 4)
    (h : ∀ x ∈ s.own.claims, x ≠ c → s.claimBefore c x = true) : s.tickOwner.ownedBy c := by
  have hvacant : (s.ownerPort != noPort) = false := by
    rw [h2]
    rfl
  have hends : (if (s.own.released || s.own.lost) && s.ownerPort != noPort then s.endOwner else s) = s := by
    refine if_neg ?_
    rw [hvacant, Bool.and_false]
    exact Bool.false_ne_true
  have heq : s.tickOwner = s.elect.showLeft := by
    unfold State.tickOwner
    dsimp only
    rw [hends]
    refine if_neg ?_
    rw [hvacant, Bool.false_and]
    exact Bool.false_ne_true
  obtain ⟨hport, htoken, hclaims, hlatched⟩ := State.elect_grants (State.winner_is h1 h2 hc h) (lt_trans hp (by decide))
  obtain ⟨hown, hkept⟩ := s.elect.showLeft_own
  have hevent : s.elect.showLeft.fld R.MGT_EVT = s.elect.fld R.MGT_EVT := State.fld_setFld_ne _ _ _ _ (by decide)
  rw [heq]
  exact ⟨hkept.trans hport, (congrArg Owning.token hown).trans htoken, (congrArg Owning.claims hown).trans hclaims,
    State.latched_of_fld hevent hlatched⟩

end Sys2Proof.Machine
end

section
/-! O55, the tick, and its settlement (R17, R20, R249, R311, R387, R392). -/

namespace Sys2Proof.Machine

/-! ### The frame that the tick closes and the one that it opens -/

/-- The frame that ends at the tick is closed. -/
def State.closed (s : State) : State := s.countTick.settlePegs.closeGrain.closeHeartbeat.countCycles

/-- The next frame, or frame 0, begins. -/
def State.begun (s : State) : State := if s.countTick.ticking then s.closed.nextFrame.countUnwritten else s.countTick.countCycles.firstTick

/-- The next frame is open, before the blocks take their tick. -/
def State.opened (s : State) : State := ({ s.begun with cycle := 0 } : State).updPlumb (fun p => { p with tickDue := some [] })

/-- The device after a tick. -/
def State.ticked (s : State) : State := (s.opened.tickBlocks.settleTick).stampTick s.opened

theorem exec_tick {s : State} (h : 4 ≤ s.phase) : exec .tick s = .next s.ticked := congrArg Host.Outcome.next (if_neg (Nat.not_lt.mpr h))

theorem State.closed_k {K : State → Prop}
    (hK : Loose 0x2000000008000000000000000000000000000000000000000000000000000000000000000000000000000000000000000000000000000000000000000000000000000000000000000000000000000000000000010001a0000d00 K) {s : State} (h : K s) : K s.closed :=
  State.countCycles_k (hK.mono (by decide)) (State.closeHeartbeat_k (hK.mono (by decide)) (State.closeGrain_k (hK.mono (by decide))
    (State.settlePegs_k (hK.mono (by decide)) (State.countTick_k (hK.mono (by decide)) h))))

theorem State.opened_of_begun {K : State → Prop} (hK : Loose 0x80000080 K) {s : State} (h : K s.begun) : K s.opened := by
  have hcycle : K { s.begun with cycle := 0 } := hK.build h rfl
  exact State.updPlumb_k (hK.mono (by decide)) hcycle _

theorem State.begun_k {K : State → Prop} (hK : Loose 0x100002000000008000000000000000000000000000000000000000000000000000000000000000000000000083b00000000000000000000000000000000000000000000000000000000000000000000000000080100610051e0002d00 K) {s : State} (h : K s) : K s.begun :=
  ite_k (State.countUnwritten_k (hK.mono (by decide)) (State.nextFrame_k (hK.mono (by decide)) (State.closed_k (hK.mono (by decide)) h)))
    (State.firstTick_k (hK.mono (by decide)) (State.countCycles_k (hK.mono (by decide)) (State.countTick_k (hK.mono (by decide)) h)))

theorem State.opened_k {K : State → Prop} (hK : Loose 0x100002000000008000000000000000000000000000000000000000000000000000000000000000000000000083b00000000000000000000000000000000000000000000000000000000000000000000000000080100610051e0002d80 K) {s : State} (h : K s) : K s.opened :=
  State.opened_of_begun (hK.mono (by decide)) (State.begun_k (hK.mono (by decide)) h)

/-- The blocks before the mate unit's tick. -/
def State.tickedToMate (s : State) : State :=
  ((List.range 280).foldl State.tickLane (s.tickPlumb.tickLam.tickLamSubst.tickScarf.tickLinks)).primeScenes

/-- The blocks after it. -/
def State.tickedFromMate (s : State) : State :=
  s.tickTally.tickDdr.tickSounding.tickLaneSubst.tickLive.imgProgress.programLife.tickRekey.endResponse

theorem State.tickBlocks_eq (s : State) : s.tickBlocks = s.tickCommit.tickOwner.tickedToMate.tickMate.tickedFromMate := rfl

theorem State.tickedToMate_k {K : State → Prop} (hK : Loose 0xc220000000000000000000000000000000000000000000000000000000000004e90020002bfc007b840000b9f000040000000000800000000000006d000000000000000000000000001e00000002001000200000024000580102d04 K) {s : State} (h : K s) : K s.tickedToMate := by
  have hlinks : K (s.tickPlumb.tickLam.tickLamSubst.tickScarf.tickLinks) :=
    State.tickLinks_k (hK.mono (by decide)) (State.tickScarf_k (hK.mono (by decide)) (State.tickLamSubst_k (hK.mono (by decide))
      (State.tickLam_k (hK.mono (by decide)) (State.tickPlumb_k (hK.mono (by decide)) h))))
  exact State.primeScenes_k (hK.mono (by decide)) (foldl_k (K := K) _ _ hlinks fun _ n ht => State.tickLane_k (hK.mono (by decide)) ht n)

theorem State.tickedFromMate_k {K : State → Prop} (hK : Loose 0x48800002200000000000000000050000000000000000000000020000000000000000000000000000000000000000000000000000000000000000000000000000000000000000000000000000001000000000000000000086e030600002d04 K) {s : State} (h : K s) : K s.tickedFromMate :=
  State.endResponse_k (hK.mono (by decide)) (State.tickRekey_k (hK.mono (by decide)) (State.programLife_k (hK.mono (by decide))
    (State.imgProgress_k (hK.mono (by decide)) (State.tickLive_k (hK.mono (by decide)) (State.tickLaneSubst_k (hK.mono (by decide))
      (State.tickSounding_k (hK.mono (by decide)) (State.tickDdr_k (hK.mono (by decide)) (State.tickTally_k (hK.mono (by decide)) h))))))))

/-- What holds once the claims are elected, and what the later blocks leave, holds of the tick. -/
theorem State.ticked_of_owned {K : State → Prop} (hK : Loose 0x488000c222000000008000000005000000000000000000000002000000000000000004e90020002bfc007b840000b9f000040000000000800000000000006d000000000000000000000000001e1000000200100020000086e030780102d04 K) {s : State}
    (h : K s.opened.tickCommit.tickOwner) (hmate : ∀ u, K u → K u.tickMate) : K s.ticked := by
  have hblocks : K s.opened.tickBlocks := by
    rw [State.tickBlocks_eq]
    exact State.tickedFromMate_k (hK.mono (by decide)) (hmate _ (State.tickedToMate_k (hK.mono (by decide)) h))
  exact State.stampTick_k (hK.mono (by decide)) (State.settleTick_k (hK.mono (by decide)) hblocks) _

/-! ### What the mate unit's tick leaves -/

/-- A register that no image gives is left by the COMMIT records that a standby takes. -/
theorem State.takeCommitRec_fld {s : State} {f : Fld} (hf : fieldOf f.id = some f) (hg : f.given = false)
    (h : regOk 0x822810000000000000080000000000000000002000000000000000000000000000002000297c0000000000000000050200000000800000000000007840000000000000000000009ffa0000000003000000000000025000181002c06 f.id = false) (r : JRec) (i : Nat) :
    (s.takeCommitRec r).fld f i = s.fld f i := by
  have hpast : ∀ v : Values, ((s.keepPast v r.cseq).unstage v).fld f i = s.fld f i := fun v =>
    State.unstage_k (K := fun t => t.fld f i = s.fld f i) ((loose_fld h).mono (by decide))
      (State.keepPast_k (K := fun t => t.fld f i = s.fld f i) ((loose_fld h).mono (by decide)) rfl v r.cseq) v
  have htake : ∀ (u : State) (v : Values), (u.takeValues v).fld f i = u.fld f i := fun u v =>
    State.committed_k (K := fun t => t.fld f i = u.fld f i) ((loose_fld h).mono (by decide)) (State.fld_activateAll_of_not_given hf hg u v i) _ _
  exact State.setFld_k (K := fun t => t.fld f i = s.fld f i) (loose_fld h) ((htake _ _).trans (hpast _)) _ _ _ (by decide)

theorem State.drainRecs_fld {f : Fld} (hf : fieldOf f.id = some f) (hg : f.given = false)
    (h : regOk 0x8228100000000000000800000000000000000020000000000000000000de000400002000297c0000000000000000050200000000800000000000007840000000010000000000009ffa0000000003000000000000125000183332c06 f.id = false) (tick : Bool) (jack : Nat)
    (l : List JRec) (i : Nat) (s : State) : (s.drainRecs tick jack l).fld f i = s.fld f i := by
  induction l generalizing s with
  | nil => rfl
  | cons r l ih =>
    unfold State.drainRecs
    dsimp only
    split
    · rfl
    · split
      · split
        · refine (ih _).trans (State.latchIf_k (K := fun t => t.fld f i = s.fld f i) (loose_fld h) (by decide) ?_ _ _ _ (by decide))
          exact State.takeCommitRec_fld hf hg (regOk_false_of_sub (by decide) h) r i
        · rfl
      · exact (ih _).trans (State.takeRec_k (K := fun t => t.fld f i = s.fld f i) ((loose_fld h).mono (by decide)) rfl r)

theorem State.drain_fld {f : Fld} (hf : fieldOf f.id = some f) (hg : f.given = false)
    (h : regOk 0x8228100000000000000800000000000000000020000000000000000000de000400002000297c0000000000000000050200000000800000000000007840000000010000000000009ffa0000000003000000000000125000183332c06 f.id = false) (tick : Bool) (i : Nat)
    (s : State) : (s.drain tick).fld f i = s.fld f i := by
  unfold State.drain
  split
  · exact State.drainRecs_fld hf hg h _ _ _ _ _
  · rfl

/-- A register that no image gives, and that is not the mate unit's, is left by its tick. -/
theorem State.tickMate_fld {f : Fld} (hf : fieldOf f.id = some f) (hg : f.given = false)
    (h : regOk 0x82281000000000000008000000000000000000200000000000000001ffdffe04ed002000297c0000000000000000050200000000800000000000007840000000010000000000009ffa0000000003000000000000125000183332d06 f.id = false) (i : Nat) (s : State) :
    s.tickMate.fld f i = s.fld f i := by
  unfold State.tickMate
  refine ite_k (K := fun t => t.fld f i = s.fld f i) rfl ?_
  extract_lets s1 hold s2 s3 s4 sends s5
  have hloose : Loose 0x82281000000000000008000000000000000000200000000000000001ffdffe04ed002000297c0000000000000000050200000000800000000000007840000000010000000000009ffa0000000003000000000000125000183332d06 (fun t => t.fld f i = s.fld f i) := loose_fld h
  have h1 : s1.fld f i = s.fld f i := State.enterPlanned_k (hloose.mono (by decide)) rfl
  have h2 : s2.fld f i = s.fld f i :=
    State.waitSees_k (hloose.mono (by decide)) (ite_k (K := fun t => t.fld f i = s.fld f i) h1 (State.setArb_k (hloose.mono (by decide)) h1 _))
  have h3 : s3.fld f i = s.fld f i :=
    State.tickVotes_k (hloose.mono (by decide)) (State.showTake_k (hloose.mono (by decide)) (State.learnTake_k (hloose.mono (by decide)) h2))
  have h4 : s4.fld f i = s.fld f i :=
    (State.drain_fld hf hg (regOk_false_of_sub (by decide) h) true i _).trans (State.updMate_k (hloose.mono (by decide)) h3 _)
  have h5 : s5.fld f i = s.fld f i := ite_k (K := fun t => t.fld f i = s.fld f i) (State.setFld_k hloose h4 _ _ _ (by decide)) h4
  exact ite_k (K := fun t => t.fld f i = s.fld f i)
    (State.showWtr_k (hloose.mono (by decide)) (State.showNready_k (hloose.mono (by decide)) h5)) (State.showWtr_k (hloose.mono (by decide)) h5)

end Sys2Proof.Machine
end

section
/-! O55, the clauses of the tick, and the settlement (R17, R20, R249, R311, R387, R392). -/

namespace Sys2Proof.Machine

theorem State.countTick_ticking (s : State) : s.countTick.ticking = s.ticking := by
  have hplb : s.countTick.plb = s.plb := State.countTick_k (K := fun t => t.fld R.PLB_STATUS_STATE 0 = s.fld R.PLB_STATUS_STATE 0) (loose_fld (by decide)) rfl
  unfold State.ticking
  rw [hplb]

theorem State.begun_ticking {s : State} (h : s.ticking = true) : s.begun = s.closed.nextFrame.countUnwritten :=
  if_pos (s.countTick_ticking.trans h)

theorem State.begun_first {s : State} (h : s.ticking = false) : s.begun = s.countTick.countCycles.firstTick :=
  if_neg (Bool.eq_false_iff.mp (s.countTick_ticking.trans h))

theorem State.closed_fld {s : State} {f : Fld} {i : Nat}
    (h : regOk 0x2000000008000000000000000000000000000000000000000000000000000000000000000000000000000000000000000000000000000000000000000000000000000000000000000000000000000000000000010001a0000d00 f.id = false) :
    s.closed.fld f i = s.fld f i :=
  State.closed_k (K := fun t => t.fld f i = s.fld f i) (loose_fld h) rfl

theorem State.closed_own (s : State) : s.closed.own = s.own :=
  State.closed_k (K := fun t => Part.same s t .own) (loose_part s .own (by decide) (by decide) (by decide)) rfl

theorem State.closed_adopt (s : State) : s.closed.mate.adopt = s.mate.adopt := by
  have hcount : s.countTick.settlePegs.closeGrain.mate = s.mate :=
    State.closeGrain_k (K := fun t => Part.same s t .mate) (loose_part s .mate (by decide) (by decide) (by decide))
      (State.settlePegs_k (K := fun t => Part.same s t .mate) (loose_part s .mate (by decide) (by decide) (by decide))
        (State.countTick_k (K := fun t => Part.same s t .mate) (loose_part s .mate (by decide) (by decide) (by decide)) rfl))
  have hcycles : ∀ u : State, u.countCycles.mate = u.mate := fun u =>
    State.countCycles_k (K := fun t => Part.same u t .mate) (loose_part u .mate (by decide) (by decide) (by decide)) rfl
  have hbeat : ∀ u : State, u.closeHeartbeat.mate.adopt = u.mate.adopt := fun _ => rfl
  unfold State.closed
  rw [hcycles, hbeat, hcount]

/-! ### The frame number -/

theorem State.nextFrame_none {s : State} (h : s.mate.adopt = none) : s.nextFrame = s.setFld R.DEV_FRAME_FRAME 0 (s.frame + 1) := by
  unfold State.nextFrame
  rw [h]

theorem State.nextFrame_some {s : State} {f : Nat} (h : s.mate.adopt = some f) : s.nextFrame
    = (((s.shiftMarks ((f + 2 ^ 32 - (s.frame + 1) % 2 ^ 32) % 2 ^ 32)).moveQuery f).setFld R.DEV_FRAME_FRAME 0 f).updMate
      (fun m => { m with adopt := none, adopting := false }) := by
  unfold State.nextFrame
  rw [h]

theorem State.opened_frame_of_begun {s : State} {n : Nat} (h : s.begun.frame = n) : s.opened.frame = n :=
  State.opened_of_begun (K := fun t => t.fld R.DEV_FRAME_FRAME 0 = n) (loose_fld (by decide)) h

theorem State.opened_first {s : State} (h : s.ticking = false) : s.opened.frame = 0 := by
  refine State.opened_frame_of_begun ?_
  rw [State.begun_first h]
  refine (State.setShadow_k (K := fun t => t.fld R.DEV_FRAME_FRAME 0 = 0) (loose_fld (by decide)) ?_ _)
  refine (State.fld_setFld_ne _ _ _ _ (by decide)).trans ?_
  refine State.updPlumb_k (K := fun t => t.fld R.DEV_FRAME_FRAME 0 = 0) (loose_fld (by decide)) ?_ _
  refine State.enterPlb_k (K := fun t => t.fld R.DEV_FRAME_FRAME 0 = 0) (loose_fld (by decide)) ?_ _ _
  exact State.fld_setFld_self _ _ _ _

theorem State.begun_frame {s : State} (h : s.ticking = true) : s.begun.frame = s.closed.nextFrame.frame := by
  rw [State.begun_ticking h]
  exact State.countUnwritten_k (K := fun t => t.fld R.DEV_FRAME_FRAME 0 = s.closed.nextFrame.fld R.DEV_FRAME_FRAME 0) (loose_fld (by decide)) rfl

theorem State.opened_next {s : State} (h1 : s.ticking = true) (h2 : s.mate.adopt = none) : s.opened.frame = (s.frame + 1) % 2 ^ 32 := by
  have hframe : s.closed.frame = s.frame := State.closed_fld (by decide)
  refine State.opened_frame_of_begun ((State.begun_frame h1).trans ?_)
  rw [State.nextFrame_none (s.closed_adopt.trans h2), hframe]
  exact State.fld_setFld_self _ _ _ _

theorem State.opened_adopted {s : State} {f : Nat} (h1 : s.ticking = true) (h2 : s.mate.adopt = some f) : s.opened.frame = f % 2 ^ 32 := by
  have hadopt : ∀ (u : State), ((u.setFld R.DEV_FRAME_FRAME 0 f).updMate (fun m => { m with adopt := none, adopting := false })).frame = f % 2 ^ 32 :=
    fun u => (State.updMate_k (K := fun t => t.fld R.DEV_FRAME_FRAME 0 = f % 2 ^ 32) (loose_fld (by decide)) (State.fld_setFld_self u _ _ _) _)
  refine State.opened_frame_of_begun ((State.begun_frame h1).trans ?_)
  rw [State.nextFrame_some (s.closed_adopt.trans h2)]
  exact hadopt _

/-- The tick keeps the frame number that it opened. -/
theorem State.ticked_frame (s : State) : s.ticked.frame = s.opened.frame := by
  refine State.ticked_of_owned (K := fun t => t.fld R.DEV_FRAME_FRAME 0 = s.opened.fld R.DEV_FRAME_FRAME 0) (loose_fld (by decide)) ?_ fun u hu =>
    (State.tickMate_fld (by decide) (by decide) (by decide) 0 u).trans hu
  exact State.tickOwner_k (K := fun t => t.fld R.DEV_FRAME_FRAME 0 = s.opened.fld R.DEV_FRAME_FRAME 0) (loose_fld (by decide))
    (State.tickCommit_k (K := fun t => t.fld R.DEV_FRAME_FRAME 0 = s.opened.fld R.DEV_FRAME_FRAME 0) (loose_fld (by decide)) rfl)

/-- The tick begins the frame's first cycle. -/
theorem State.ticked_cycle (s : State) : s.ticked.cycle = 0 := by
  have hopened : s.opened.cycle = 0 := rfl
  refine Eq.trans (b := s.opened.cycle) ?_ hopened
  refine State.ticked_of_owned (K := fun t => Part.same s.opened t .cycle) (loose_part _ .cycle (by decide) (by decide) (by decide)) ?_ fun u hu =>
    State.tickMate_k (K := fun t => Part.same s.opened t .cycle) (loose_part _ .cycle (by decide) (by decide) (by decide)) hu
  exact State.tickOwner_k (K := fun t => Part.same s.opened t .cycle) (loose_part _ .cycle (by decide) (by decide) (by decide))
    (State.tickCommit_k (K := fun t => Part.same s.opened t .cycle) (loose_part _ .cycle (by decide) (by decide) (by decide)) rfl)

/-! ### What is sampled and shown -/

theorem State.opened_fld {s : State} {f : Fld} {i : Nat} (h : regOk 0x100002000000008000000000000000000000000000000000000000000000000000000000000000000000000083b00000000000000000000000000000000000000000000000000000000000000000000000000080100610051e0002d80 f.id = false) : s.opened.fld f i = s.fld f i :=
  State.opened_k (K := fun t => t.fld f i = s.fld f i) (loose_fld h) rfl

theorem State.tickCommit_sampled {s : State} (h : s.fld R.DEV_COMMIT_STAT_STATE = 1) : s.tickCommit.sampled = some s.staged := by
  unfold State.tickCommit
  rw [if_pos h]
  rfl

/-- A commit that was asked for is sampled. -/
theorem State.ticked_sampled {s : State} (h : s.fld R.DEV_COMMIT_STAT_STATE = 1) : s.ticked.sampled = some s.staged := by
  have hstaged : s.opened.staged = s.staged :=
    State.opened_k (K := fun t => Part.same s t .staged) (loose_part s .staged (by decide) (by decide) (by decide)) rfl
  have hsampled : s.opened.tickCommit.sampled = some s.staged := by
    rw [State.tickCommit_sampled ((State.opened_fld (by decide)).trans h), hstaged]
  refine Eq.trans (b := s.opened.tickCommit.sampled) ?_ hsampled
  refine State.ticked_of_owned (K := fun t => Part.same s.opened.tickCommit t .sampled) (loose_part _ .sampled (by decide) (by decide) (by decide)) ?_
    fun u hu => State.tickMate_k (K := fun t => Part.same s.opened.tickCommit t .sampled) (loose_part _ .sampled (by decide) (by decide) (by decide)) hu
  exact State.tickOwner_k (K := fun t => Part.same s.opened.tickCommit t .sampled) (loose_part _ .sampled (by decide) (by decide) (by decide)) rfl

theorem State.faultsNow_congr {s t : State} (h1 : t.sides = s.sides) (h2 : t.sched = s.sched) : t.faultsNow = s.faultsNow := by
  unfold State.faultsNow
  rw [h1, h2]

/-- The grain reports show the sides in FAULT as the frame ended. -/
theorem State.closed_shown (s : State) : s.closed.sides.shown = s.faultsNow := by
  have hsides : s.countTick.settlePegs.sides = s.sides :=
    State.settlePegs_k (K := fun t => Part.same s t .sides) (loose_part s .sides (by decide) (by decide) (by decide))
      (State.countTick_k (K := fun t => Part.same s t .sides) (loose_part s .sides (by decide) (by decide) (by decide)) rfl)
  have hsched : s.countTick.settlePegs.sched = s.sched :=
    State.settlePegs_k (K := fun t => Part.same s t .sched) (loose_part s .sched (by decide) (by decide) (by decide))
      (State.countTick_k (K := fun t => Part.same s t .sched) (loose_part s .sched (by decide) (by decide) (by decide)) rfl)
  have hshown : ∀ u : State, u.closeGrain.sides.shown = u.faultsNow := fun _ => rfl
  have hlater : ∀ u : State, u.closeHeartbeat.countCycles.sides = u.sides := fun u =>
    State.countCycles_k (K := fun t => Part.same u t .sides) (loose_part u .sides (by decide) (by decide) (by decide))
      (State.closeHeartbeat_k (K := fun t => Part.same u t .sides) (loose_part u .sides (by decide) (by decide) (by decide)) rfl)
  unfold State.closed
  rw [hlater, hshown]
  exact State.faultsNow_congr hsides hsched

theorem State.ticked_shown {s : State} (h : s.ticking = true) : s.ticked.sides.shown = s.faultsNow := by
  have hbegun : s.begun.sides = s.closed.sides := by
    rw [State.begun_ticking h]
    exact State.countUnwritten_k (K := fun t => Part.same s.closed t .sides) (loose_part _ .sides (by decide) (by decide) (by decide))
      (State.nextFrame_k (K := fun t => Part.same s.closed t .sides) (loose_part _ .sides (by decide) (by decide) (by decide)) rfl)
  have hopened : s.opened.sides = s.closed.sides :=
    State.opened_of_begun (K := fun t => Part.same s.closed t .sides) (loose_part _ .sides (by decide) (by decide) (by decide)) hbegun
  have hticked : s.ticked.sides = s.closed.sides := by
    refine State.ticked_of_owned (K := fun t => Part.same s.closed t .sides) (loose_part _ .sides (by decide) (by decide) (by decide)) ?_ fun u hu =>
      State.tickMate_k (K := fun t => Part.same s.closed t .sides) (loose_part _ .sides (by decide) (by decide) (by decide)) hu
    exact State.tickOwner_k (K := fun t => Part.same s.closed t .sides) (loose_part _ .sides (by decide) (by decide) (by decide))
      (State.tickCommit_k (K := fun t => Part.same s.closed t .sides) (loose_part _ .sides (by decide) (by decide) (by decide)) hopened)
  rw [hticked]
  exact s.closed_shown

/-! ### The election of the tick -/

theorem State.nextFrame_claims (s : State) : s.nextFrame.own.claims = s.own.claims := by
  have hquery : ∀ (u : State) (f : Nat), (u.moveQuery f).own = u.own := fun u f => by
    unfold State.moveQuery
    split <;> rfl
  have hrest : ∀ (u : State) (f : Nat), ((u.setFld R.DEV_FRAME_FRAME 0 f).updMate (fun m => { m with adopt := none, adopting := false })).own = u.own :=
    fun _ _ => rfl
  have hshift : ∀ (u : State) (d : Nat), (u.shiftMarks d).own.claims = u.own.claims := fun _ _ => rfl
  cases h : s.mate.adopt with
  | none =>
    rw [State.nextFrame_none h]
    rfl
  | some f => rw [State.nextFrame_some h, hrest, hquery, hshift]

theorem State.opened_claims (s : State) : s.opened.own.claims = s.own.claims := by
  have hbegun : s.begun.own.claims = s.own.claims := by
    cases h : s.ticking
    · rw [State.begun_first h]
      exact congrArg Owning.claims (State.firstTick_k (K := fun t => Part.same s t .own) (loose_part s .own (by decide) (by decide) (by decide))
        (State.countCycles_k (K := fun t => Part.same s t .own) (loose_part s .own (by decide) (by decide) (by decide))
          (State.countTick_k (K := fun t => Part.same s t .own) (loose_part s .own (by decide) (by decide) (by decide)) rfl)))
    · have hcount : ∀ u : State, u.countUnwritten.own = u.own := fun u =>
        State.countUnwritten_k (K := fun t => Part.same u t .own) (loose_part u .own (by decide) (by decide) (by decide)) rfl
      rw [State.begun_ticking h, hcount, State.nextFrame_claims, State.closed_own]
  have hown : s.opened.own = s.begun.own :=
    State.opened_of_begun (K := fun t => Part.same s.begun t .own) (loose_part _ .own (by decide) (by decide) (by decide)) rfl
  rw [hown, hbegun]

theorem State.claimBefore_congr {s t : State} (h : ∀ i, t.fld R.MGT_PORTp_CFG_PRIO i = s.fld R.MGT_PORTp_CFG_PRIO i) (a b : Nat × Nat) :
    t.claimBefore a b = s.claimBefore a b := by
  unfold State.claimBefore
  rw [h, h]

theorem State.tickCommit_fld {s : State} {f : Fld} {i : Nat} (h : regOk 0x800000000000000000000000000000000000000000000000000000000000000000000000000000000000000000000000000000000000000000000000000000000000002000000000 f.id = false) : s.tickCommit.fld f i = s.fld f i :=
  State.tickCommit_k (K := fun t => t.fld f i = s.fld f i) (loose_fld h) rfl

theorem State.tickCommit_own (s : State) : s.tickCommit.own = s.own :=
  State.tickCommit_k (K := fun t => Part.same s t .own) (loose_part s .own (by decide) (by decide) (by decide)) rfl

/-- Where there is no owner, the claim that goes before every other is granted. -/
theorem State.ticked_owner {s : State} {c : Nat × Nat} (hc : c ∈ s.own.claims) (h1 : s.ownerPort = noPort) (h2 : s.handing = false) (hp : c.1 < 4)
    (h : ∀ x ∈ s.own.claims, x ≠ c → s.claimBefore c x = true) : s.ticked.ownedBy c := by
  have hfld : ∀ (f : Fld) (i : Nat), regOk 0x100002000000008000000000000000000000000008000000000000000000000000000000000000000000000083b00000000000000000000000000000000000000000000000000000000000000000000000000080100610071e0002d80 f.id = false →
      s.opened.tickCommit.fld f i = s.fld f i := fun f i hf =>
    (State.tickCommit_fld (regOk_false_of_sub (by decide) hf)).trans (State.opened_fld (regOk_false_of_sub (by decide) hf))
  have hclaims : s.opened.tickCommit.own.claims = s.own.claims := (congrArg Owning.claims s.opened.tickCommit_own).trans s.opened_claims
  have hbefore := State.claimBefore_congr (s := s) (t := s.opened.tickCommit) fun i => hfld R.MGT_PORTp_CFG_PRIO i (by decide)
  obtain ⟨hport, htoken, hnone, hlatched⟩ := State.tickOwner_grants (s := s.opened.tickCommit) (c := c)
    ((State.flag_of_fld (hfld R.MGT_OWNER_PENDING 0 (by decide))).trans h2) ((hfld R.MGT_OWNER_PORT 0 (by decide)).trans h1) (by rw [hclaims]; exact hc) hp
    (fun x hx hne => (hbefore c x).trans (h x (by rw [← hclaims]; exact hx) hne))
  have hown : s.ticked.own = s.opened.tickCommit.tickOwner.own :=
    State.ticked_of_owned (K := fun t => Part.same s.opened.tickCommit.tickOwner t .own) (loose_part _ .own (by decide) (by decide) (by decide)) rfl
      fun u hu => State.tickMate_k (K := fun t => Part.same s.opened.tickCommit.tickOwner t .own) (loose_part _ .own (by decide) (by decide) (by decide)) hu
  have hkept : s.ticked.fld R.MGT_OWNER_PORT = s.opened.tickCommit.tickOwner.fld R.MGT_OWNER_PORT :=
    State.ticked_of_owned (K := fun t => t.fld R.MGT_OWNER_PORT 0 = s.opened.tickCommit.tickOwner.fld R.MGT_OWNER_PORT 0) (loose_fld (by decide)) rfl
      fun u hu => (State.tickMate_fld (by decide) (by decide) (by decide) 0 u).trans hu
  have hevent : s.ticked.fld R.MGT_EVT = s.opened.tickCommit.tickOwner.fld R.MGT_EVT :=
    State.ticked_of_owned (K := fun t => t.fld R.MGT_EVT 0 = s.opened.tickCommit.tickOwner.fld R.MGT_EVT 0) (loose_fld (by decide)) rfl
      fun u hu => (State.tickMate_fld (by decide) (by decide) (by decide) 0 u).trans hu
  exact ⟨hkept.trans hport, (congrArg Owning.token hown).trans htoken, (congrArg Owning.claims hown).trans hnone, State.latched_of_fld hevent hlatched⟩

/-- Settles O55: the tick's frame, sample, reports and election, and what Plumb, the shadow lamination, old relations and late COMMIT records do in it. -/
theorem ticksOpenFrames : Obligations.TicksOpenFrames := by
  unfold Obligations.TicksOpenFrames
  intro s
  refine ⟨?_, ?_, ?_, ?_, ?_, ?_, ?_, ?_, ?_⟩
  · exact fun h => ⟨s, congrArg Host.Outcome.next (if_pos h), rfl⟩
  · intro h
    refine ⟨_, exec_tick h, s.ticked_cycle, fun h1 => ?_, fun h1 h2 => ?_, fun f h1 h2 => ?_, fun h1 => State.ticked_sampled h1,
      fun h1 => State.ticked_shown h1, fun c hc h1 h2 hp hb => State.ticked_owner hc h1 h2 hp hb⟩
    · exact s.ticked_frame.trans (State.opened_first h1)
    · exact s.ticked_frame.trans (State.opened_next h1 h2)
    · exact s.ticked_frame.trans (State.opened_adopted h1 h2)
  · exact fun h => selectsFree h
  · exact fun h hc => selectsAnother h hc
  · exact fun h h1 h2 hc => selectsBetter h h1 h2 hc
  · exact fun h r hr => selectsAgain h r hr
  · exact fun h1 h2 h3 => shadowRotates h1 h2 h3
  · exact fun src l hl h1 h2 => relationForgotten hl h1 h2
  · exact fun r h1 h2 h3 h4 h5 h6 h7 => commitTakenLate h1 h2 h3 h4 h5 h6 h7

end Sys2Proof.Machine
end
